-- ==== Sys2Proof/Word.lean ====
section
/-! DEFINITION. The word types of the block: the 32-bit register word, the byte, and their plainest arithmetic. -/

namespace Sys2Proof

/-- A register of the register space is 32 bits wide (R62, R63). -/
abbrev W32 := BitVec 32

/-- One byte of memory. -/
abbrev Byte := BitVec 8

/-- A run of bytes, lowest address first. -/
abbrev Bytes := List Byte

/-- `2 ^ n - 1`: the largest value of an n-bit field. -/
def maxOf (n : Nat) : Nat := 2 ^ n - 1

/-- Saturating addition below `2 ^ n` (counters that saturate, R71). -/
def satAdd (n a b : Nat) : Nat := min (a + b) (maxOf n)

/-- The unsigned value of an n-bit two's-complement pattern for an integer, wrapping. -/
def toPattern (n : Nat) (x : Int) : Nat := (x % (2 ^ n : Nat)).toNat

/-- The signed value of an n-bit two's-complement pattern. -/
def toSigned (n : Nat) (x : Nat) : Int :=
  if x % 2 ^ n < 2 ^ (n - 1) then (x % 2 ^ n : Nat) else ((x % 2 ^ n : Nat) : Int) - (2 ^ n : Nat)

end Sys2Proof
end

