-- ==== Sys2Proof/Syntax.lean ====
section
/-! DEFINITION. The commands of the block: `Instr`, one constructor per row of spec/opcode_table.json, in the table's order,
and the types of their operands. A command carries what the environment decides: who acts, what is written, what arrives
on a bus or is measured at a pin. -/

namespace Sys2Proof

/-- The agents that access registers and post notices (R70, R73, R105). -/
inductive Agent where
  | daleA | daleB | trellisSeq | furrowRt | terrace | gnss | scarecrow | pcie | svc | dspFw | updEngine
  deriving DecidableEq, Repr

/-- A Gorge transaction's direction and the poison bit of the data it writes (R22). -/
structure Xfer where
  write : Bool
  poison : Bool
  deriving DecidableEq, Repr

/-- A packet of a camera link as it arrives: its CSI-2 virtual channel and data type, and its raw pixels (R139). -/
structure CamLine where
  vc : Nat
  dt : Nat
  px : List Nat
  deriving DecidableEq, Repr

/-- What the alignment estimator found for one sensor (R187, R188): its residual in 0.1 mm, its confidence, and the estimated
correction of its six components in the registers' units. -/
structure SensOut where
  sens : Nat
  res : Nat
  conf : Nat
  est : List Int
  deriving DecidableEq, Repr

/-- A slot or candidate row of tensors 8 and 9 (R196, R197): the 16 channels of tensor 9 and the memory row of tensor 8 as BF16 patterns, whether
the memory row is poisoned, and whether the row's line of tensor 9 is; channels not given are 0. -/
structure TrackRow where
  row : Nat
  ch : List Nat
  mem : List Nat
  memPoison : Bool
  linePoison : Bool
  deriving DecidableEq, Repr

/-- An observation of one channel (R226). -/
structure ObsIn where
  psr : Nat
  adr : Int
  dop : Int
  cn0 : Nat
  lockt : Nat
  sys : Nat
  sv : Nat
  sig : Nat
  antk : Nat
  chan : Nat
  oflags : Nat
  deriving DecidableEq, Repr

/-- A satellite in the sky as the tracking controller predicts it: its system, number and elevation in degrees (R217, R221). -/
structure Sat where
  sys : Nat
  sv : Nat
  elev : Int
  deriving DecidableEq, Repr

/-- What the baseband measured, decoded and estimated for an epoch (R225, R227): the observations, the standalone fix and its residuals, the
six inter-system offsets, the satellites used by system, the ephemerides decoded from navigation data since the last epoch as RTCM frames, and the
satellites whose ephemeris held was found poisoned (R243). GPST is the GPS time the broadcast gives, its week known modulo 1,024. -/
structure EpochIn where
  timeValid : Bool
  fix : Bool
  gpst : Int
  clkbias : Int
  clkdrift : Int
  x : Int
  y : Int
  z : Int
  nsv : Nat
  leap : Nat
  pdop : Nat
  isb : List (Option Int)
  isbsig : List Nat
  resrms : Nat
  resmax : Nat
  residx : Nat
  poison : List (Nat × Nat)
  used : List Nat
  nav : List (List Byte)
  obs : List ObsIn
  deriving DecidableEq, Repr

/-- What the guidance firmware's filter solved for an epoch (R237-R241): the slot read, whether it could solve it, the ambiguity ratio in 1/100, the
fixed satellites and those on two bands; antenna 0 in the local tangent plane in mm, its latitude and longitude in 10^-11 degree, its velocity east
and north in mm/s; the baseline's heading in 1/2^32 turn with BLDIFF in mm where it is measured; the path's curvature, the yaw rate, and the 1-sigma of
XTE and of the heading in 2^-32 units; and the header's offset in mm for the pose record. -/
structure GuideIn where
  slot : Nat
  solved : Bool
  ratio : Nat
  fixedSv : Nat
  twoBand : Nat
  place : Int × Int × Int
  latlon : Int × Int
  vel : Int × Int
  baseline : Option (Nat × Int)
  curv : Int
  yawrate : Int
  sigma : Int × Int
  hdr : Int × Int
  deriving DecidableEq, Repr

/-- What an output-stage IC reads back with a watchdog refresh (R325): whether the refresh carried the expected sequence value, frames
sent again since the last one, the channels (0 to 7) still at or above the temperature that lets a fault clear, and for a Trowel
the mean current of each channel and the 1 s mean of each of its two banks, in mA. -/
structure Readback where
  seqOk : Bool
  resent : Nat
  hot : List Nat
  ma : List Nat
  avg : List Nat
  deriving DecidableEq, Repr

/-- A frame received without error (R355-R359): the Sundial time of its start of frame, its ID word (bit 31 IDE, bit 30 FDF, bit 29 BRS,
bits 28:0 the identifier), whether it is a remote frame, its DLC, ESI and its data bytes. -/
structure CanFrame where
  sof : Nat
  id : Nat
  remote : Bool
  dlc : Nat
  esi : Bool
  data : List Byte
  deriving DecidableEq, Repr

/-- An Ethernet frame: destination and source MAC as numbers (first octet most significant), PCP and VID of its 802.1Q tag where it
has one, EtherType and the bytes after the EtherType, without the frame check sequence. -/
structure EthFrame where
  dst : Nat
  src : Nat
  tag : Option (Nat × Nat)
  etype : Nat
  payload : List Byte
  deriving DecidableEq, Repr

/-- What a power sequence meets (R474-R478): the durations in ms of the steps that complete, in order, what DRAM start-up finds (R421: a
subchannel whose training fails, whether the checker test fails, lines with a wrong symbol by subchannel and device, the ms it takes), the
slots (2 × unit + slot) whose digest does not match, and whether a Root save verifies. -/
structure SeqIn where
  durs : List Nat
  found : Option Nat × Bool × List (Nat × Nat × Nat) × Nat
  bad : List Nat
  saveOk : Bool
  deriving DecidableEq, Repr


/-- The commands, one constructor per row of the table of operations and events. -/
inductive Instr where
  /-- REGISTER_WRITE (R70). The writer, the physical address, the access width in bits (8, 16, 32 or 64) and the value written. -/
  | registerWrite (agent : Agent) (addr size value : Nat)
  /-- READ_CLEAR (R578). The reader, the physical address and the access width in bits. -/
  | readClear (agent : Agent) (addr size : Nat)
  /-- SNAPSHOT (R72). The writer, the block whose SNAP register is written, and the value written. -/
  | snapshot (agent : Agent) (block : Nat) (value : W32)
  /-- PARITY_SWEEP (R81). The (register key, bit) pairs that flipped since the last sweep. -/
  | paritySweep (upsets : List (Nat × Nat))
  /-- ROOT_REGISTER_WRITE (R76). The writer, the offset in RTD and the value. -/
  | rootRegisterWrite (agent : Agent) (off : Nat) (value : W32)
  /-- ROOT_EDGE (R75). -/
  | rootEdge
  /-- BED_RAIL_FALL_COMMIT (R78). -/
  | bedRailFallCommit
  /-- GORGE_REQUEST (R24). The requester, the target class, whether it writes and the poison bit of its data, the first address, the length in bytes (1 to 256), and the tag the tracker gives (an unused one). -/
  | gorgeRequest (req cls : Nat) (kind : Xfer) (addr len tag : Nat)
  /-- ENTRY_RELEASE (R25). The tag of the entry whose transaction the target completes, and the tag given to the request the release acknowledges. -/
  | entryRelease (tag newTag : Nat)
  /-- FORCED_COMPLETION (R26). The tag of the entry, and the tag given to the request its release acknowledges. -/
  | forcedCompletion (tag newTag : Nat)
  /-- FAB_CRED_WRITE (R28). The writer, the requester whose credits are written, and the value. -/
  | fabCredWrite (agent : Agent) (n : Nat) (value : W32)
  /-- BRIDGE_HANDOFF (R16). The DRAM address of the transfer and its bytes. -/
  | bridgeHandoff (addr : Nat) (data : Bytes)
  /-- BRIDGE_INBOUND_WRITE (R17). The Canopy agent, the Bed store address, the bytes (at most one 64-byte line) and the poison bit they carry. -/
  | bridgeInboundWrite (agent : Agent) (addr : Nat) (data : Bytes) (poison : Bool)
  /-- BRIDGE_DRAIN (R17). -/
  | bridgeDrain
  /-- PACE_GAUGE_MEASURE (R38). The normalised readings of gauges 0 to 31. -/
  | paceGaugeMeasure (readings : List Nat)
  /-- RAIL_REGULATION (R42). -/
  | railRegulation
  /-- TEMP_SENSOR_UPDATE (R44). The readings of sensors 0 to 23 in 0.125 °C, none where a sensor gives no current reading. -/
  | tempSensorUpdate (temps : List (Option Int))
  /-- VOLTAGE_MONITOR_UPDATE (R46). The readings of monitors 0 to 7 in mV, none where a monitor gives no current reading. -/
  | voltageMonitorUpdate (mv : List (Option Nat))
  /-- SUNDIAL_SAVE (R51). -/
  | sundialSave
  /-- TIMER_COMPARE_MATCH (R53). The core (0 to 15) and the compare value it holds. -/
  | timerCompareMatch (core cmp : Nat)
  /-- REFERENCE_MARK (R55). The source (1 GNSS, 2 PTP), the Sundial stamp of the whole second, its GPS time in ns, and the rate error in 10^-12. -/
  | referenceMark (source stamp gps : Nat) (rateErr : Int)
  /-- MARK_TIMEOUT (R55). -/
  | markTimeout
  /-- SDL_MODE_WRITE (R55). The writer and the value written to SDL_CTL. -/
  | sdlModeWrite (agent : Agent) (value : W32)
  /-- DRIFT_CHECK (R56). The trim the servo needs and the disagreement with the Root oscillator over the 64 s window, in 10^-12, and which of the two the reference finds at fault. -/
  | driftCheck (neededTrim rootDiff : Int) (rootAtFault : Bool)
  /-- TCXO_LOSS (R57). -/
  | tcxoLoss
  /-- TCXO_RETURN (R57). -/
  | tcxoReturn
  /-- ALARM_ARM (R58). The writer, the alarm and the value written to SDL_ALMnCTL. -/
  | alarmArm (agent : Agent) (n : Nat) (value : W32)
  /-- ALARM_DISARM (R58). The writer, the alarm and the value written to SDL_ALMnCTL. -/
  | alarmDisarm (agent : Agent) (n : Nat) (value : W32)
  /-- ALARM_FIRE (R58). The alarm. -/
  | alarmFire (n : Nat)
  /-- RING_ENABLE (R88). The writer, the ring and the value written to RNG_QnCFG. -/
  | ringEnable (agent : Agent) (q : Nat) (value : W32)
  /-- RING_DISABLE (R103). The writer and the ring. -/
  | ringDisable (agent : Agent) (q : Nat)
  /-- SUBMISSION_DOORBELL (R92). The writer, the ring and the value written to RNG_QnDB. -/
  | submissionDoorbell (agent : Agent) (q : Nat) (value : W32)
  /-- COMPLETION_DOORBELL (R93). The writer, the ring and the value written to RNG_QnDB. -/
  | completionDoorbell (agent : Agent) (q : Nat) (value : W32)
  /-- DESCRIPTOR_TAKE (R92). The ring. -/
  | descriptorTake (q : Nat)
  /-- PHASE_RECHECK (R92). The ring. -/
  | phaseRecheck (q : Nat)
  /-- AT_DEADLINE_START (R98). The ring. -/
  | atDeadlineStart (q : Nat)
  /-- MAILBOX_STAGE (R107). The writer, the mailbox named and PTR[31:0]. -/
  | mailboxStage (agent : Agent) (m : Nat) (value : W32)
  /-- MAILBOX_POST (R108). The writer, the mailbox and the word TAG, LEN, PTR[47:32]. -/
  | mailboxPost (agent : Agent) (m : Nat) (value : W32)
  /-- MAILBOX_TAKE (R110). The writer, the mailbox and the word written to MBX_MnSTAT. -/
  | mailboxTake (agent : Agent) (m : Nat) (value : W32)
  /-- MAILBOX_ABT_CLEAR (R112). The writer and the mailbox whose ABT bit is written 1. -/
  | mailboxAbtClear (agent : Agent) (m : Nat)
  /-- ANALOGUE_SAMPLE (R122). The channel, the input instant of the sample that leaves the decimation filter now, and the converted input in steps of 2^-24 of full scale before the converter's span limits it. -/
  | analogueSample (n instant : Nat) (code : Int)
  /-- FRAME_FLUSH_TIMEOUT (R120). The stream. -/
  | frameFlushTimeout (n : Nat)
  /-- STREAM_ENABLE (R117). The writer, the stream and the value written to ING_STRn_CFG. -/
  | streamEnable (agent : Agent) (n : Nat) (value : W32)
  /-- STREAM_DISABLE (R117). The writer, the stream and the value written to ING_STRn_CFG. -/
  | streamDisable (agent : Agent) (n : Nat) (value : W32)
  /-- ANALOGUE_CFG_WRITE (R122). The writer, the channel and the value written to ING_ACHn_CFG. -/
  | analogueCfgWrite (agent : Agent) (n : Nat) (value : W32)
  /-- ACOUSTIC_HIT (R123). The channel whose envelope rises through THR.HIGH, and whether it has fallen below THR.LOW since the last hit. -/
  | acousticHit (n : Nat) (rearmed : Bool)
  /-- ACOUSTIC_REPORT (R123). The channel whose report period ends. -/
  | acousticReport (n : Nat)
  /-- FREQ_EDGE (R124). The input and, for a quadrature pair, the step its edge makes (1 or -1). -/
  | freqEdge (n : Nat) (step : Int)
  /-- FREQ_OUTPUT_SAMPLE (R124). The input. -/
  | freqOutputSample (n : Nat)
  /-- SUPPLY_OVERCURRENT (R125). The sensor supply that has stood in its current limit for 10 ms. -/
  | supplyOvercurrent (n : Nat)
  /-- SUPPLY_BACKFEED (R125). The sensor supply whose output is driven more than 1 V above its set voltage. -/
  | supplyBackfeed (n : Nat)
  /-- SUPPLY_RETRY (R125). The sensor supply. -/
  | supplyRetry (n : Nat)
  /-- REFERENCE_CHECK (R127). REFA against REFB, REFA and REFB against the bandgap, in 0.001 %. -/
  | referenceCheck (ab a b : Int)
  /-- CAPTURE (R136). The ring. -/
  | capture (q : Nat)
  /-- REFCHECK (R136). The ring and the three deviations measured, in 0.001 %. -/
  | refcheck (q : Nat) (ab a b : Int)
  /-- LINK_ENABLE (R141). The writer, the link and the value written to CAM_LNKn_CTL. -/
  | linkEnable (agent : Agent) (n : Nat) (value : W32)
  /-- LINK_DISABLE (R141). The writer, the link and the value written to CAM_LNKn_CTL. -/
  | linkDisable (agent : Agent) (n : Nat) (value : W32)
  /-- LINK_TRAIN_TIMEOUT (R141). The link. -/
  | linkTrainTimeout (n : Nat)
  /-- LINK_LOCK (R141). The link and the remote serialiser's ID. -/
  | linkLock (n remId : Nat)
  /-- LINK_LOCK_LOST (R141). The link. -/
  | linkLockLost (n : Nat)
  /-- FRAME_SYNC_SEND (R142). The link. -/
  | frameSyncSend (n : Nat)
  /-- POC_OVERCURRENT (R140). The link whose power over coax has stood in its limit for 5 ms. -/
  | pocOvercurrent (n : Nat)
  /-- POC_RETRY (R140). The link. -/
  | pocRetry (n : Nat)
  /-- FRAME_START (R145). The link, and the buffered lines the pipeline took from all links since the last camera command. -/
  | frameStart (n served : Nat)
  /-- LINE_ARRIVAL (R147). The link, the packet (no pixels: no line), whether its CRC fails, whether a packet header is uncorrectable, whether a frame end follows, and the buffered lines the pipeline took from all links since the last camera command. -/
  | lineArrival (n : Nat) (px : CamLine) (crcBad hdrErr frameEnd : Bool) (served : Nat)
  /-- LINE_TIMEOUT (R147). The link. -/
  | lineTimeout (n : Nat)
  /-- FRAME_STALL (R141). The link. -/
  | frameStall (n : Nat)
  /-- FRAME_PROCESSED (R151). The link whose oldest closed frame the pipeline has processed. -/
  | frameProcessed (n : Nat)
  /-- PICTURE_ENCODE (R154). The session, and the length in bytes and average QP of the access unit coded. -/
  | pictureEncode (n len qp : Nat)
  /-- BSRPOS_WRITE (R156). The writer and the value written to CAM_BSRPOS. -/
  | bsrposWrite (agent : Agent) (value : W32)
  /-- LOADTAB (R159). The ring. -/
  | loadtab (q : Nat)
  /-- CCI (R159). The ring, whether the camera acknowledges, and the data it returns. -/
  | cci (q : Nat) (ack : Bool) (data : Nat)
  /-- EXPORT (R159). The ring. -/
  | camExport (q : Nat)
  /-- ENC_RESTART (R154). The writer and the session. -/
  | encRestart (agent : Agent) (n : Nat)
  /-- ENC_FORCEIDR (R154). The writer and the session. -/
  | encForceidr (agent : Agent) (n : Nat)
  /-- GRID_CYCLE_START (R181). The sync instant in PACED mode, and for each lidar unit its number and the time its encoding takes in µs. -/
  | gridCycleStart (sync : Nat) (lidars : List (Nat × Nat))
  /-- PACE_TIMEOUT (R181). As GRID_CYCLE_START. -/
  | paceTimeout (sync : Nat) (lidars : List (Nat × Nat))
  /-- STAGE1_RUN (R173). The camera, its machine-vision slot written, the placement time of the frame's last line, and the durations in µs of the stage 1 runs that complete. -/
  | stage1Run (n slot tend : Nat) (runs : List Nat)
  /-- GRID_PUBLISH (R168). Elements of the output grid that the network gives a value the command knows, as (element, BF16 pattern), and what the estimator found per sensor. -/
  | gridPublish (values : List (Nat × Nat)) (sens : List SensOut)
  /-- NETLOAD (R179). The ring, whether the load ends or goes on, and whether the tensors of the layers fit where the spec leaves the fit to the operation. -/
  | netload (q : Nat) (finished layersFit : Bool)
  /-- NETACT (R179). The ring and whether the weights lie wholly in the feature store. -/
  | netact (q : Nat) (resident : Bool)
  /-- CALLOAD (R186). The ring. -/
  | calload (q : Nat)
  /-- CALREAD (R186). The ring. -/
  | calread (q : Nat)
  /-- CALFREEZE (R189). The ring. -/
  | calfreeze (q : Nat)
  /-- REINSTATE (R190). The ring. -/
  | reinstate (q : Nat)
  /-- EXCLUDE (R190). The ring. -/
  | exclude (q : Nat)
  /-- TRACK_UPDATE (R199). The rows of tensors 8 and 9; a row not listed reads 0 in every channel. -/
  | trackUpdate (rows : List TrackRow)
  /-- TRACK_CLEAR (R199). The writer. -/
  | trackClear (agent : Agent)
  /-- FORECAST_SAMPLE (R204). Whether the newest grid's kind 5 stage has completed, elements of channels 0 and 1 of tensor 10 whose values the command knows as (cell, BF16 pattern), the poisoned cells of tensor 10, how many of the three steps of R205 Prairie starts before the next TF, and the time from TF to the pointer in µs. -/
  | forecastSample (massDone : Bool) (rho conf : List (Nat × Nat)) (poison : List Nat) (steps us : Nat)
  /-- YIELD_SAMPLE (R210). The mass-flow sample (mirror log position, tray and sample), the moisture sample nearest its time, and for each of the 16 bins the east and north cell numbers under its centre. -/
  | yieldSample (pos tray k : Nat) (moist : Option (Nat × Nat × Nat)) (cells : List (Int × Int))
  /-- TILE_CLOSE (R211). The tile. -/
  | tileClose (te tn : Int)
  /-- YIELD_FLUSH (R211). The writer. -/
  | yieldFlush (agent : Agent)
  /-- YLDRPOS_WRITE (R211). The writer and the value. -/
  | yldrposWrite (agent : Agent) (value : W32)
  /-- GNSS_EPOCH (R219). The epoch and what was measured. -/
  | gnssEpoch (tepoch : Nat) (e : EpochIn)
  /-- SIGNAL_SEARCH (R221). The search unit, the signal searched (with the GLONASS channel number k), whether the search finds it, and the satellites whose elevation is predicted. Sent to an idle unit the search starts; sent again when its dwells are over it ends. -/
  | signalSearch (u ant sys sv sig : Nat) (k : Int) (found : Bool) (sky : List Sat)
  /-- CHANNEL_LOCK (R217). The channel that reaches phase lock and the secondary signal codes of its satellite. -/
  | channelLock (ch : Nat) (seconds : List Nat)
  /-- CHANNEL_LOCK_LOSS (R217). The channel. -/
  | channelLockLoss (ch : Nat)
  /-- CHANNEL_FREE (R217). The channel, and whether its satellite has fallen 2° below ELMASK; a channel also goes free after 10 s without lock, or 200 ms in pull-in. -/
  | channelFree (ch : Nat) (low : Bool)
  /-- ANTENNA_FEED_FAULT (R218). The antenna, and the current in mA that its feed has carried for the time R218 gives (100 ms, or 10 ms in limit): OPEN, SHORT, or the return of current. -/
  | antennaFeedFault (a ma : Nat)
  /-- GNSS_MARK (R220). The mark's Sundial stamp, GPS time, 1-sigma in ns and rate error. -/
  | gnssMark (stamp gps sig : Nat) (rateErr : Int)
  /-- MARKSTOP (R220). -/
  | markstop
  /-- AIDTIME (R231). The ring. -/
  | aidtime (q : Nat)
  /-- AIDPOS (R231). The ring. -/
  | aidpos (q : Nat)
  /-- AIDORB (R231). The ring. -/
  | aidorb (q : Nat)
  /-- SOLUTION (R232). The ring. -/
  | solution (q : Nat)
  /-- ORBREAD (R231). The ring. -/
  | orbread (q : Nat)
  /-- GNSS_RESTART (R231). The ring. -/
  | gnssRestart (q : Nat)
  /-- GUIDANCE_RECORD (R240). What the firmware's filter gives for an epoch. -/
  | guidanceRecord (g : GuideIn)
  /-- LOOP_SAMPLE (R257). The loop, its sample instant and the Sundial time at which the destination takes its output. -/
  | loopSample (n ts tout : Nat)
  /-- LOOP_ENABLE (R262). The writer, the loop and the value written to TRL_Ln_CTL. -/
  | loopEnable (agent : Agent) (n : Nat) (value : W32)
  /-- LOOP_DISABLE (R262). The writer and the loop. -/
  | loopDisable (agent : Agent) (n : Nat)
  /-- LOOP_MODE_WRITE (R262). The writer, the loop and the MODE written. -/
  | loopModeWrite (agent : Agent) (n mode : Nat)
  /-- LOADPAR (R256). The ring. -/
  | loadpar (q : Nat)
  /-- SETMODE (R270). The ring. -/
  | setmode (q : Nat)
  /-- READPAR (R270). The ring. -/
  | readpar (q : Nat)
  /-- READSTATE (R270). The ring. -/
  | readstate (q : Nat)
  /-- PARAMETER_MEMORY_ERROR (R268). The loop, the word of the parameter memory, and whether the error was corrected. -/
  | parameterMemoryError (n word : Nat) (corrected : Bool)
  /-- CYCLE_BOUNDARY (R274). -/
  | cycleBoundary
  /-- FURROW_ENABLE (R277). The writer and the value written to FUR_RUN. -/
  | furrowEnable (agent : Agent) (value : W32)
  /-- FURROW_DISABLE (R277). The writer. -/
  | furrowDisable (agent : Agent)
  /-- NOP (R290). -/
  | furNop
  /-- LD (R290). Whether the flag is indexed by X, and its number. -/
  | furLd (x : Bool) (f : Nat)
  /-- LDN (R290). Whether the flag is indexed by X, and its number. -/
  | furLdn (x : Bool) (f : Nat)
  /-- AND (R290). Whether the flag is indexed by X, and its number. -/
  | furAnd (x : Bool) (f : Nat)
  /-- ANDN (R290). Whether the flag is indexed by X, and its number. -/
  | furAndn (x : Bool) (f : Nat)
  /-- OR (R290). Whether the flag is indexed by X, and its number. -/
  | furOr (x : Bool) (f : Nat)
  /-- ORN (R290). Whether the flag is indexed by X, and its number. -/
  | furOrn (x : Bool) (f : Nat)
  /-- XOR (R290). Whether the flag is indexed by X, and its number. -/
  | furXor (x : Bool) (f : Nat)
  /-- ST (R290). Whether the flag is indexed by X, and its number. -/
  | furSt (x : Bool) (f : Nat)
  /-- STN (R290). Whether the flag is indexed by X, and its number. -/
  | furStn (x : Bool) (f : Nat)
  /-- SET (R290). Whether the flag is indexed by X, and its number. -/
  | furSet (x : Bool) (f : Nat)
  /-- RST (R290). Whether the flag is indexed by X, and its number. -/
  | furRst (x : Bool) (f : Nat)
  /-- NOT (R290). -/
  | furNot
  /-- LDA (R290). The bit. -/
  | furLda (bit : Bool)
  /-- OPEN (R295). The operation: 0 AND, 1 OR, 2 XOR. -/
  | furOpen (op : Nat)
  /-- CLOSE (R295). -/
  | furClose
  /-- FP (R293). Whether the edge memory is indexed by X, and its number. -/
  | furFp (x : Bool) (e : Nat)
  /-- FN (R293). Whether the edge memory is indexed by X, and its number. -/
  | furFn (x : Bool) (e : Nat)
  /-- TON (R292). The time base, the count and the timer. -/
  | furTon (base count t : Nat)
  /-- TOF (R292). The time base, the count and the timer. -/
  | furTof (base count t : Nat)
  /-- TP (R292). The time base, the count and the timer. -/
  | furTp (base count t : Nat)
  /-- TONW (R292). The word that holds the preset in ms, and the timer. -/
  | furTonw (word t : Nat)
  /-- TOFW (R292). The word that holds the preset in ms, and the timer. -/
  | furTofw (word t : Nat)
  /-- TPW (R292). The word that holds the preset in ms, and the timer. -/
  | furTpw (word t : Nat)
  /-- RSTT (R290). The timer. -/
  | furRstt (t : Nat)
  /-- LDT (R290). The timer. -/
  | furLdt (t : Nat)
  /-- CTU (R293). The word that holds the preset, and the counter. -/
  | furCtu (word c : Nat)
  /-- CTD (R293). The word that holds the preset, and the counter. -/
  | furCtd (word c : Nat)
  /-- RSTC (R290). The counter. -/
  | furRstc (c : Nat)
  /-- LDC (R290). The counter. -/
  | furLdc (c : Nat)
  /-- LDW (R290). Whether the word is indexed by X, and its number. -/
  | furLdw (x : Bool) (k : Nat)
  /-- LDI (R290). The signed immediate. -/
  | furLdi (imm : Int)
  /-- STW (R290). Whether the word is indexed by X, and its number. -/
  | furStw (x : Bool) (k : Nat)
  /-- STWC (R290). Whether the word is indexed by X, and its number. -/
  | furStwc (x : Bool) (k : Nat)
  /-- ADDW (R291). Whether the word is indexed by X, and its number. -/
  | furAddw (x : Bool) (k : Nat)
  /-- SUBW (R291). Whether the word is indexed by X, and its number. -/
  | furSubw (x : Bool) (k : Nat)
  /-- MULW (R291). Whether the word is indexed by X, and its number. -/
  | furMulw (x : Bool) (k : Nat)
  /-- DIVW (R291). Whether the word is indexed by X, and its number. -/
  | furDivw (x : Bool) (k : Nat)
  /-- ADDI (R291). The signed immediate. -/
  | furAddi (imm : Int)
  /-- MINW (R290). Whether the word is indexed by X, and its number. -/
  | furMinw (x : Bool) (k : Nat)
  /-- MAXW (R290). Whether the word is indexed by X, and its number. -/
  | furMaxw (x : Bool) (k : Nat)
  /-- ANDW (R290). Whether the word is indexed by X, and its number. -/
  | furAndw (x : Bool) (k : Nat)
  /-- ORW (R290). Whether the word is indexed by X, and its number. -/
  | furOrw (x : Bool) (k : Nat)
  /-- NEG (R291). -/
  | furNeg
  /-- ABS (R291). -/
  | furAbs
  /-- CEQ (R290). Whether the word is indexed by X, and its number. -/
  | furCeq (x : Bool) (k : Nat)
  /-- CNE (R290). Whether the word is indexed by X, and its number. -/
  | furCne (x : Bool) (k : Nat)
  /-- CLT (R290). Whether the word is indexed by X, and its number. -/
  | furClt (x : Bool) (k : Nat)
  /-- CLE (R290). Whether the word is indexed by X, and its number. -/
  | furCle (x : Bool) (k : Nat)
  /-- CGT (R290). Whether the word is indexed by X, and its number. -/
  | furCgt (x : Bool) (k : Nat)
  /-- CGE (R290). Whether the word is indexed by X, and its number. -/
  | furCge (x : Bool) (k : Nat)
  /-- CEQI (R290). The signed immediate. -/
  | furCeqi (imm : Int)
  /-- CNEI (R290). The signed immediate. -/
  | furCnei (imm : Int)
  /-- CLTI (R290). The signed immediate. -/
  | furClti (imm : Int)
  /-- CLEI (R290). The signed immediate. -/
  | furClei (imm : Int)
  /-- CGTI (R290). The signed immediate. -/
  | furCgti (imm : Int)
  /-- CGEI (R290). The signed immediate. -/
  | furCgei (imm : Int)
  /-- LDTE (R290). The timer. -/
  | furLdte (t : Nat)
  /-- LDCV (R290). The counter. -/
  | furLdcv (c : Nat)
  /-- LDX (R290). -/
  | furLdx
  /-- JMP (R295). The target address. -/
  | furJmp (target : Nat)
  /-- JC (R295). The target address. -/
  | furJc (target : Nat)
  /-- JNC (R295). The target address. -/
  | furJnc (target : Nat)
  /-- REP (R294). Whether the count comes from a word, the count or the word, the shift of X, and the length of the body. -/
  | furRep (src : Bool) (count str len : Nat)
  /-- END (R295). -/
  | furEnd
  /-- SETVAL (R306). The ring. -/
  | setval (q : Nat)
  /-- READMEM (R306). The ring. -/
  | readmem (q : Nat)
  /-- PROGLOAD (R300). -/
  | progload
  /-- PROGACT (R301). -/
  | progact
  /-- VALVE_UNTIMED_COMMAND (R316). The writer, the channel and the value written to VLV_CHn_CMD. -/
  | valveUntimedCommand (agent : Agent) (n : Nat) (value : W32)
  /-- PEAK_PHASE_END (R311). The channel. -/
  | peakPhaseEnd (n : Nat)
  /-- DIP_WINDOW_CLOSE (R314). The channel, whether the current has reached IPEAK, the greatest fall in the window in mA, and the time from turn-on to its lowest sample. -/
  | dipWindowClose (n : Nat) (reached : Bool) (depth us : Nat)
  /-- BANK_TRIP (R317). The bank and the cause, 1 SHORT or 2 AVG. -/
  | bankTrip (b cause : Nat)
  /-- BANK_FAULT_CLEAR (R317). The writer and the bank. -/
  | bankFaultClear (agent : Agent) (b : Nat)
  /-- DUTY_LIMIT_ENTRY (R318). The channel and its heating H, times 65,536. -/
  | dutyLimitEntry (n h : Nat)
  /-- DUTY_LIMIT_EXIT (R318). The channel and its heating H, times 65,536. -/
  | dutyLimitExit (n h : Nat)
  /-- VALVE_CHANNEL_FAULT (R319). The channel and the fault: 0 OPEN, 1 SHORT, 2 OTEMP of its Trowel. -/
  | valveChannelFault (n kind : Nat)
  /-- VALVE_FAULT_CLEAR (R319). The writer, whether VLV_FLTMAP_HI is written, and the value. -/
  | valveFaultClear (agent : Agent) (hi : Bool) (value : W32)
  /-- VLV_PULSE (R328). The ring. -/
  | vlvPulse (q : Nat)
  /-- VLV_SET (R328). The ring. -/
  | vlvSet (q : Nat)
  /-- VLV_CANCEL (R328). The ring. -/
  | vlvCancel (q : Nat)
  /-- TIMED_VALVE_EVENT (R321). The bank. -/
  | timedValveEvent (b : Nat)
  /-- WEAR_COMMIT (R324). -/
  | wearCommit
  /-- WATCHDOG_REFRESH (R325). The IC (0 to 5 Trowel, 6 to 13 Shears 0 to 7) and what it reads back. -/
  | watchdogRefresh (ic : Nat) (r : Readback)
  /-- WATCHDOG_EXPIRY (R326). The IC. -/
  | watchdogExpiry (ic : Nat)
  /-- FAILSAFE_REQUEST (R471). -/
  | failsafeRequest
  /-- OUTPUT_STAGE_RESUME (R326). The writer and the IC. -/
  | outputStageResume (agent : Agent) (ic : Nat)
  /-- LSW_UNTIMED_COMMAND (R335). The writer, the channel and the value written to LSW_CHn_CMD. -/
  | lswUntimedCommand (agent : Agent) (n : Nat) (value : W32)
  /-- SHED_EVALUATION (R336). The mean current of each group over the last 100 ms, in mA. -/
  | shedEvaluation (means : List Nat)
  /-- SHED_CLEAR (R336). The writer, whether LSW_SHEDMAP_HI is written, and the value. -/
  | shedClear (agent : Agent) (hi : Bool) (value : W32)
  /-- WIRE_HEAT_UPDATE (R338). For each channel its number, mean current in mA and output voltage in mV over the last millisecond, and the load supply voltage in mV. -/
  | wireHeatUpdate (meas : List (Nat × Nat × Nat)) (busv : Nat)
  /-- LSW_CHANNEL_FAULT (R337). The channel and the fault: 0 OVERCUR, 1 OTEMP, 2 WIRETRIP. -/
  | lswChannelFault (n kind : Nat)
  /-- LSW_FAULT_CLEAR (R337). The writer, whether LSW_FLTMAP_HI is written, and the value. -/
  | lswFaultClear (agent : Agent) (hi : Bool) (value : W32)
  /-- OPEN_LOAD_OFF (R339). The channel, and whether its output has stood above 3.0 V for 5 ms rather than below it. -/
  | openLoadOff (n : Nat) (high : Bool)
  /-- OPEN_LOAD_ON (R340). The channel, and whether 100 ms of on-time passed below OLTHR rather than above it. -/
  | openLoadOn (n : Nat) (low : Bool)
  /-- LSW_PULSE (R348). The ring. -/
  | lswPulse (q : Nat)
  /-- LSW_SET (R348). The ring. -/
  | lswSet (q : Nat)
  /-- LSW_CANCEL (R348). The ring. -/
  | lswCancel (q : Nat)
  /-- FSUNLOCK_WRITE (R345). The writer and the value. -/
  | fsunlockWrite (agent : Agent) (value : W32)
  /-- FSUNLOCK_TIMEOUT (R345). -/
  | fsunlockTimeout
  /-- FSWRITE (R345). The ICs that do not commit the table. -/
  | fswrite (failed : List Nat)
  /-- FSREAD (R345). The ring. -/
  | fsread (q : Nat)
  /-- CAN_ENABLE (R353). The writer, the controller and the value written to CAN_CHc_CTL. -/
  | canEnable (agent : Agent) (c : Nat) (value : W32)
  /-- CAN_DISABLE (R353). The writer and the controller. -/
  | canDisable (agent : Agent) (c : Nat)
  /-- CAN_MODE_WRITE (R353). The writer, the controller and the MODE written. -/
  | canModeWrite (agent : Agent) (c mode : Nat)
  /-- BUS_RATE_DETECT (R354). The controller and the rates found, coded as NRATE and DRATE. -/
  | busRateDetect (c nrate drate : Nat)
  /-- DETECT_TIMEOUT (R354). The controller. -/
  | detectTimeout (c : Nat)
  /-- CAN_FRAME_RECEIVED (R357). The controller and the frame. -/
  | canFrameReceived (c : Nat) (f : CanFrame)
  /-- ACCEPTANCE_TABLE_COPY (R358). The writer, the controller and the value written to CAN_CHc_ACCTAB. -/
  | acceptanceTableCopy (agent : Agent) (c : Nat) (value : W32)
  /-- SEND (R362). The ring. -/
  | sendCmd (q : Nat)
  /-- CAN_CANCEL (R363). The ring. -/
  | canCancel (q : Nat)
  /-- CAN_FRAME_START (R361). The controller. -/
  | canFrameStart (c : Nat)
  /-- CAN_FRAME_ACKNOWLEDGED (R362). The controller. -/
  | canFrameAcknowledged (c : Nat)
  /-- CAN_FRAME_LOST (R361). The controller, and 0 for lost arbitration or the error as LASTERR codes it. -/
  | canFrameLost (c err : Nat)
  /-- BUS_OFF_RECOVERY (R353). The controller. -/
  | busOffRecovery (c : Nat)
  /-- ALONE_CLEAR (R365). The writer and the value written to CAN_ALONEMAP. -/
  | aloneClear (agent : Agent) (value : W32)
  /-- ADDRESS_CLAIM (R366). The controller. -/
  | addressClaim (c : Nat)
  /-- CLAIM_HOLDOFF_EXPIRY (R366). The controller. -/
  | claimHoldoffExpiry (c : Nat)
  /-- CLAIM_CONTEST (R366). The controller and the pseudo-random value r, 0 to 255. -/
  | claimContest (c r : Nat)
  /-- CLAIM_BACKOFF_EXPIRY (R366). The controller. -/
  | claimBackoffExpiry (c : Nat)
  /-- CLAIM_REQUEST (R366). The controller. -/
  | claimRequest (c : Nat)
  /-- PARTNER_TIMEOUT (R367). The partner slot. -/
  | partnerTimeout (k : Nat)
  /-- PARTNER_CLEAR (R367). The writer and the value written to CAN_PTNCFG. -/
  | partnerClear (agent : Agent) (value : W32)
  /-- SELECTIVE_WAKE (R368). The transceiver, and the ID word of the wake-up frame; none where its frame error counter reaches 32. -/
  | selectiveWake (c : Nat) (id : Option Nat)
  /-- ETH_FRAME_FORWARD (R373). The ingress port, the frame and its arrival stamp. -/
  | ethFrameForward (port : Nat) (f : EthFrame) (tarr : Nat)
  /-- ETH_LINK_CHANGE (R372). The port, whether its link comes up, and the mean link delay in ns where the partner is asCapable. -/
  | ethLinkChange (port : Nat) (up : Bool) (pdelay : Option Nat)
  /-- PTP_MARK (R375). The mark's Sundial stamp, the PTP whole second it marks, and the rate error measured. -/
  | ptpMark (stamp sec : Nat) (rateErr : Int)
  /-- GRANDMASTER_CHANGE (R375). The grandmaster's identity, whether it is the module, the slave port, stepsRemoved, and the role of each port. -/
  | grandmasterChange (gm : Nat) (own : Bool) (slave steps : Nat) (roles : List Nat)
  /-- GCLLOAD (R377). -/
  | gclload
  /-- FDBSET (R383). -/
  | fdbset
  /-- RIOTPL (R383). -/
  | riotpl
  /-- XMIT (R383). -/
  | xmit
  /-- RXBUF (R383). -/
  | rxbuf
  /-- RIO_INPUT_FRAME (R379). The ingress port, the frame and its arrival stamp. -/
  | rioInputFrame (port : Nat) (f : EthFrame) (tarr : Nat)
  /-- UDP_INTAKE (R381). The ingress port, the frame, its arrival stamp, whether it lies beyond the intake rate, and whether its unit is synchronised. -/
  | udpIntake (port : Nat) (f : EthFrame) (tarr : Nat) (late sync : Bool)
  /-- NVME_CONNECT (R458). The connection, the host's IPv4 address, the queue and the keep-alive timeout in ms. -/
  | nvmeConnect (conn addr qid kato : Nat)
  /-- NVME_PROPERTY_GET (R458). The connection, the command identifier and the property offset. -/
  | nvmePropertyGet (conn cid ofst : Nat)
  /-- NVME_PROPERTY_SET (R458). The connection, the command identifier, the property offset and the value. -/
  | nvmePropertySet (conn cid ofst value : Nat)
  /-- NVME_DISCONNECT (R458). The connection and the command identifier. -/
  | nvmeDisconnect (conn cid : Nat)
  /-- NVME_IDENTIFY (R458). The connection, the command identifier, CNS and NSID. -/
  | nvmeIdentify (conn cid cns nsid : Nat)
  /-- NVME_GET_LOG_PAGE (R458). The connection, the command identifier, the log page, the bytes asked for and Retain Asynchronous Event. -/
  | nvmeGetLogPage (conn cid lid len : Nat) (retain : Bool)
  /-- NVME_SET_FEATURES (R458). The connection, the command identifier, the feature and dword 11. -/
  | nvmeSetFeatures (conn cid fid value : Nat)
  /-- NVME_GET_FEATURES (R458). The connection, the command identifier and the feature. -/
  | nvmeGetFeatures (conn cid fid : Nat)
  /-- NVME_ASYNC_EVENT_REQUEST (R458). The connection and the command identifier. -/
  | nvmeAsyncEventRequest (conn cid : Nat)
  /-- NVME_KEEP_ALIVE (R458). The connection and the command identifier. -/
  | nvmeKeepAlive (conn cid : Nat)
  /-- NVME_READ (R459). The connection, the command identifier, the range, and its blocks no copy of which reads cleanly. -/
  | nvmeRead (conn cid nsid lba blocks : Nat) (bad : List Nat)
  /-- NVME_WRITE (R459). The connection, the command identifier, the first block and the blocks' bytes. -/
  | nvmeWrite (conn cid nsid lba : Nat) (data : List Bytes)
  /-- NVME_FLUSH (R446). The connection, the command identifier and the namespace. -/
  | nvmeFlush (conn cid nsid : Nat)
  /-- NVME_DATASET_MANAGEMENT (R458). The connection, the command identifier, the namespace, the Deallocate attribute and the ranges (first block, blocks). -/
  | nvmeDatasetManagement (conn cid nsid : Nat) (dealloc : Bool) (ranges : List (Nat × Nat))
  /-- NVME_WRITE_ZEROES (R458). The connection, the command identifier and the range. -/
  | nvmeWriteZeroes (conn cid nsid lba blocks : Nat)
  /-- SERVICE_READ (R388). The frame that carries the service datagram. -/
  | serviceRead (f : EthFrame)
  /-- SERVICE_WRITE (R388). The frame that carries the service datagram. -/
  | serviceWrite (f : EthFrame)
  /-- PANEL_FRAME_START (R398). The lines the engine does not deliver by their line start, and whether the strip image's header changes or is torn while it is copied. -/
  | panelFrameStart (late : List Nat) (torn : Bool)
  /-- FRAME_COMPOSE (R397). -/
  | frameCompose
  /-- LANE_TRAINING (R396). The col_lock levels seen, lane n in bit n. -/
  | laneTraining (locks : Nat)
  /-- LANE_LOCK_LOSS (R396). The lane whose col_lock has been low for 2 µs. -/
  | laneLockLoss (lane : Nat)
  /-- STRIP_REFRESH (R401). Whether the strip image's header changes or is torn while it is copied. -/
  | stripRefresh (torn : Bool)
  /-- DISPLAY_FALLBACK (R402). -/
  | displayFallback
  /-- FALLBACK_CLEAR (R402). The writer and the word written to DSP_SSTAT. -/
  | fallbackClear (agent : Agent) (value : W32)
  /-- PANEL_POWER_ON (R403). The writer and MODE: false FULL, true STRIP. -/
  | panelPowerOn (agent : Agent) (mode : Bool)
  /-- PANEL_POWER_OFF (R403). The writer and MODE: false FULL, true STRIP. -/
  | panelPowerOff (agent : Agent) (mode : Bool)
  /-- PANEL_SEQUENCE_STEP (R403). -/
  | panelSequenceStep
  /-- UNIFORMITY_MAP_READ (R400). The content of the panel's EEPROM. -/
  | uniformityMapRead (eeprom : Bytes)
  /-- MAPLOAD (R407). -/
  | mapload
  /-- DRAM_READ (R414). The requester, the line, the symbols found wrong with their XOR values, and whether a pattern beyond the code's reach is taken as correctable. -/
  | dramRead (req addr : Nat) (wrong : List (Nat × Nat)) (taken : Bool)
  /-- DRAM_LINE_WRITE (R417). The line, its 64 bytes and the Gorge poison bit. -/
  | dramLineWrite (addr : Nat) (data : Bytes) (poison : Bool)
  /-- DRAM_PARTIAL_WRITE (R416). The requester, the line, the byte mask, the line's bytes under the mask, the Gorge poison bit, and the symbols the read part finds wrong. -/
  | dramPartialWrite (req addr mask : Nat) (data : Bytes) (poison : Bool) (wrong : List (Nat × Nat))
  /-- DEVICE_MARK_SET (R415). The writer, the subchannel and the device. -/
  | deviceMarkSet (agent : Agent) (n dev : Nat)
  /-- DEVICE_MARK_CLEAR (R415). The writer and the subchannel. -/
  | deviceMarkClear (agent : Agent) (n : Nat)
  /-- POISON_TRAP (R419). The Dale core, the access (0 load, 1 instruction fetch, 2 AMO or LR/SC), its virtual and physical address; and a pair: for a response no memory holds its source (3 register or device, 4 PCI Express), and whether the trap is delegated to supervisor mode. -/
  | poisonTrap (core kind va addr : Nat) (src : Nat × Bool)
  /-- SCRUB_VISIT (R422). The symbols found wrong in the line visited. -/
  | scrubVisit (wrong : List (Nat × Nat))
  /-- LINE_ZERO (R426). The writer. -/
  | lineZero (agent : Agent)
  /-- LINE_SCRUB (R426). The writer. -/
  | lineScrub (agent : Agent)
  /-- LINE_INJECT (R426). The writer. -/
  | lineInject (agent : Agent)
  /-- LINE_COPY (R426). The writer. -/
  | lineCopy (agent : Agent)
  /-- LOG_POP (R423). The writer, and whether NFL_LOGPOP is written instead of MEM_LOGPOP. -/
  | logPop (agent : Agent) (nfl : Bool)
  /-- NAND_READ (R431). The ring, and the bits of the page that read wrong. -/
  | nandRead (q : Nat) (flips : List Nat)
  /-- NAND_PROGRAM (R430). The ring, whether the device reports a program failure, and whether the region's TCODE entry has an uncorrectable error. -/
  | nandProgram (q : Nat) (fail tableBad : Bool)
  /-- NAND_ERASE (R433). The ring, and whether the device reports an erase failure. -/
  | nandErase (q : Nat) (fail : Bool)
  /-- RAWREAD (R432). The bits of the page that read wrong. -/
  | rawread (flips : List Nat)
  /-- RAWPROG (R432). Whether the device reports a program failure. -/
  | rawprog (fail : Bool)
  /-- DECODE (R432). -/
  | decode
  /-- NSCREATE (R461). -/
  | nscreate
  /-- NSDELETE (R459). -/
  | nsdelete
  /-- NSINFO (R461). -/
  | nsinfo
  /-- ADMIT (R447). -/
  | admitCmd
  /-- RELEASE (R447). -/
  | releaseCmd
  /-- RAWLEND (R452). The page addresses of the erased blocks Terrace picks. -/
  | rawlend (blocks : List Nat)
  /-- RAWRETURN (R452). The page addresses whose erase fails. -/
  | rawreturn (fails : List Nat)
  /-- EXTREAD (R442). -/
  | extread
  /-- EVACUATE (R447). -/
  | evacuate
  /-- TER_READ (R459). The blocks of the range no copy of which reads cleanly from its medium. -/
  | terRead (bad : List Nat)
  /-- TER_WRITE (R446). -/
  | terWrite
  /-- APPEND (R443). -/
  | append
  /-- TER_FLUSH (R446). -/
  | terFlush
  /-- DEALLOC (R443). -/
  | dealloc
  /-- TER_REFRESH (R452). -/
  | terRefresh
  /-- REFRESH_PASS (R452). The blocks (namespace, LBA) whose pages do not read, and the pages rewritten. -/
  | refreshPass (bad : List (Nat × Nat)) (rewritten : Nat)
  /-- DRIVE_LINK_UP (R447). The slot, the rate and lanes of its link and of the root port, whether the drive meets R438, its whole 4 MiB extents, its label (MAC, slot, generation), and its SMART figures as TER_DRVd_WEAR holds them. -/
  | driveLinkUp (slot gen width rpGen rpWidth : Nat) (suits : Bool) (exts : Nat) (label : Option (Nat × Nat × Nat)) (wear : W32)
  /-- DRIVE_LINK_LOST (R448). The slot, and the blocks (namespace, LBA) of writes in flight to a single copy there. -/
  | driveLinkLost (slot : Nat) (flight : List (Nat × Nat))
  /-- DRIVE_FAILED (R447). The slot, and the blocks (namespace, LBA) of writes in flight to a single copy there. -/
  | driveFailed (slot : Nat) (flight : List (Nat × Nat))
  /-- HOT_EXTENT_MOVE (R445). -/
  | hotExtentMove
  /-- DEGRADED_REMIRROR (R450). -/
  | degradedRemirror
  /-- ACCESS_UNIT_INTAKE (R456). -/
  | accessUnitIntake
  /-- TILE_INTAKE (R457). -/
  | tileIntake
  /-- TERRACE_ENABLE (R464). The writer, the word written to TER_CTL, and the load time in ms (none where the map cannot be loaded). -/
  | terraceEnable (agent : Agent) (value : W32) (ms : Option Nat)
  /-- TERRACE_STOP (R464). The writer and the word written to TER_CTL. -/
  | terraceStop (agent : Agent) (value : W32)
  /-- SLOTPWR (R468). -/
  | slotpwr
  /-- RETRAIN (R468). The rate and lanes the link trains to. -/
  | retrain (gen width : Nat)
  /-- PCIE_LINK_LOSS (R466). The slot; none for the root port. -/
  | pcieLinkLoss (slot : Option Nat)
  /-- COMPLETION_TIMEOUT (R466). The slot (none for the root port), the request's first header word and address, and the Dale core that issued it with its kind (0 load, 1 fetch, 2 AMO), its virtual address and whether the trap is delegated. -/
  | completionTimeout (slot : Option Nat) (hdr addr : Nat) (core : Option (Nat × Nat × Nat × Bool))
  /-- SUPPLY_LOW (R469). The main input in mV. -/
  | supplyLow (mv : Nat)
  /-- SUPPLY_HIGH (R469). The main input in mV. -/
  | supplyHigh (mv : Nat)
  /-- SUPPLY_FAILURE (R470). The main input in mV, and whether the Root save verifies. -/
  | supplyFailure (mv : Nat) (saveOk : Bool)
  /-- SUPPLY_RETURN (R472). The main input in mV. -/
  | supplyReturn (mv : Nat)
  /-- WAKE (R480). The source, as RTD_WAKECFG.EN numbers it. -/
  | wake (src : Nat)
  /-- WAKE_TIMER_EXPIRY (R480). -/
  | wakeTimerExpiry
  /-- BED_UP (R474). -/
  | bedUp (q : SeqIn)
  /-- BED_DOWN (R475). -/
  | bedDown (q : SeqIn)
  /-- CANOPY_UP (R476). -/
  | canopyUp (q : SeqIn)
  /-- CANOPY_UP_RETRY (R477). -/
  | canopyUpRetry (q : SeqIn)
  /-- CANOPY_DOWN (R478). -/
  | canopyDown (q : SeqIn)
  /-- CANOPY_GRACE_TIMEOUT (R478). -/
  | canopyGraceTimeout
  /-- PWRREQ_GO (R478). The writer and the value written to SYS_PWRREQ. -/
  | pwrreqGo (agent : Agent) (value : W32)
  /-- PWRREQ_TARGET (R473). The writer and the value written to SYS_PWRREQ. -/
  | pwrreqTarget (agent : Agent) (value : W32)
  /-- IGNITION_RISE (R473). -/
  | ignitionRise
  /-- IGNITION_OFF_TIMEOUT (R473). Since when ign_sense has been low. -/
  | ignitionOffTimeout (since : Nat)
  /-- SLEEP_HOLD (R482). -/
  | sleepHold
  /-- KEEPAWAKE (R482). The controller that has received a KEEPAWAKE. -/
  | keepawake (c : Nat)
  /-- SLEEP_HOLD_EXPIRY (R482). -/
  | sleepHoldExpiry
  /-- SLEEP_WAIT_EXPIRY (R482). -/
  | sleepWaitExpiry
  /-- LATE_WAKE (R483). The controller that has received a wake-up frame. -/
  | lateWake (c : Nat)
  /-- MODULE_RESET (R484). The writer, the value written to SYS_RSTCMD, and what the restart of Bed meets. -/
  | moduleReset (agent : Agent) (value : W32) (q : SeqIn)
  /-- CANOPY_RESTART (R485). The writer, the value written to SYS_RSTCMD, and what the restart of Canopy meets. -/
  | canopyRestart (agent : Agent) (value : W32) (q : SeqIn)
  /-- RESET_BUTTON (R486). Whether the button has been let go by the end, and what the restart of Bed meets. -/
  | resetButton (released : Bool) (q : SeqIn)
  /-- BUTTON_STUCK (R486). -/
  | buttonStuck
  /-- THERMAL_SHED (R487). -/
  | thermalShed
  /-- THERMAL_RETURN (R487). -/
  | thermalReturn
  /-- THERMAL_CUT (R488). The Bed-domain sensor at 150 °C or more; none for a junction at 140 °C or more for 10 ms. -/
  | thermalCut (sensor : Option Nat) (q : SeqIn)
  /-- CELL_MEASURE (R491). The cell voltage in mV, the charge that has flowed into the cell since the last measurement in µAh, and whether a Root save verifies. -/
  | cellMeasure (mv : Nat) (dq : Int) (saveOk : Bool)
  /-- ROOT_SAVE (R490). Whether the save verifies. -/
  | rootSave (ok : Bool)
  /-- RTD_SAVE_NOW (R490). The writer. -/
  | rtdSaveNow (agent : Agent)
  /-- RTD_CALLOAD (R493). The writer and the value written to RTD_CTL. -/
  | rtdCalload (agent : Agent) (value : W32)
  /-- ROOT_POWER_ON (R492). -/
  | rootPowerOn
  /-- SELF_TEST (R497). The resource, whether the test finds an error, what of a Dale has failed (core 0 to 7, 8 an L2 way, else the whole), and the slots whose digest does not match when a Dale starts again. -/
  | selfTest (res : Nat) (found : Bool) (part : Nat) (bad : List Nat)
  /-- HEARTBEAT (R500). The writer and the Dale. -/
  | heartbeat (agent : Agent) (n : Nat)
  /-- HEARTBEAT_TIMEOUT (R501). The Dale. -/
  | heartbeatTimeout (n : Nat)
  /-- DALE_DECLARE_FAIL (R501). The writer and the Dale. -/
  | daleDeclareFail (agent : Agent) (n : Nat)
  /-- DALE_READY_WRITE (R500). The writer, the Dale and the value written to HLT_DALEn_CTL. -/
  | daleReadyWrite (agent : Agent) (n : Nat) (value : W32)
  /-- COMPARISON_WRITE (R502). The Dale that writes, the channel and the signature. -/
  | comparisonWrite (agent : Agent) (k : Nat) (value : W32)
  /-- MIRROR_REGION_ENABLE (R504). The writer, the region, the value written to HLT_MIRn_CFG, and whether the copy of the source side has ended. -/
  | mirrorRegionEnable (agent : Agent) (n : Nat) (value : W32) (finish : Bool)
  /-- HANDOVER (R507). -/
  | handover
  /-- HANDOVER_SWITCH (R506). -/
  | handoverSwitch
  /-- HANDOVER_PREPARE_TIMEOUT (R507). -/
  | handoverPrepareTimeout
  /-- NO_DALE_RESTART (R503). What the restart of Canopy meets. -/
  | noDaleRestart (q : SeqIn)
  /-- TEST (R516). -/
  | testCmd
  /-- TOKTAKE (R512). -/
  | toktake
  /-- TOKGIVE (R512). -/
  | tokgive
  /-- STAGE (R527). Whether the signature verifies under ECDSA, and a failure while the slots are written: Canopy's power-down (true) or a store write, with the items whose writing had begun. -/
  | stage (sig : Bool) (fail : Option (Bool × Nat))
  /-- APPLY (R528). The output-stage ICs that fail their confirmation. -/
  | apply (icFail : List Nat)
  /-- ABORT (R529). -/
  | abortCmd
  /-- CFGREAD (R542). -/
  | cfgread
  /-- CFGWRITE (R542). -/
  | cfgwrite
  /-- CONFIRM (R532). The writer, the value, and whether the Root save verifies. -/
  | confirm (agent : Agent) (value : W32) (saveOk : Bool)
  /-- DECLARE_FAILURE (R533). The writer and the value. -/
  | declareFailure (agent : Agent) (value : W32)
  /-- PROBATION_EXPIRY (R533). The unit. -/
  | probationExpiry (u : Nat)
  /-- DEFERRED_FSTABLE_WRITE (R541). The output-stage ICs whose write fails. -/
  | deferredFstableWrite (failed : List Nat)
  /-- EVENT_RECORD_WRITE (R553). Whether a loss of supply cuts the write short (R548). -/
  | eventRecordWrite (cut : Bool)
  /-- BUCKET_REFILL (R552). The severity whose PERIOD has come round. -/
  | bucketRefill (sev : Nat)
  /-- SWREC_COMMIT (R555). The writer and the value written to EVR_SWREC. -/
  | swrecCommit (agent : Agent) (value : W32)
  /-- FETCH (R557). The reader. -/
  | fetch (agent : Agent)
  /-- ROOT_EVENT_RECORD (R556). The RTD event number, its severity and its parameters. -/
  | rootEventRecord (event sev : Nat) (p0 p1 p2 : Nat)
  /-- DALE_CACHE_ERROR (R501). The Dale, the core (15 for the L2), whether the error is uncorrectable, and whether it lies in L2 tags or state. -/
  | daleCacheError (n core : Nat) (unc tagState : Bool)
  /-- ENGINE_CHECK_ERROR (R495). The resource (R495), and whether an error of a Bed memory was corrected. -/
  | engineCheckError (res : Nat) (corrected : Bool)
  /-- ENDPOINT_LINK_CHANGE (R467). Whether the endpoint link comes up, its rate and lanes. -/
  | endpointLinkChange (up : Bool) (gen width : Nat)
  /-- ANTENNA_FEED_RETRY (R218). The antenna. -/
  | antennaFeedRetry (a : Nat)
  /-- PULSE_END (R348). Whether a valve channel or a load-switch channel, and its number. -/
  | pulseEnd (valve : Bool) (n : Nat)
  /-- WAKE_INPUT_EDGE (R483). The input (1 or 2) and the direction of its debounced edge. -/
  | wakeInputEdge (n : Nat) (rising : Bool)
  /-- ACOUSTIC_RAW_SAMPLE (R123). The channel and its band-passed signal in 2^-35 of full scale. -/
  | acousticRawSample (n : Nat) (value : Int)
  /-- SUPPLY_CURRENT_SAMPLE (R118). The sensor supply and its output current in mA. -/
  | supplyCurrentSample (n ma : Nat)
  /-- FDB_ENTRY_AGEING (R373). The entry. -/
  | fdbEntryAgeing (mac vid : Nat)
  /-- GATE_OPEN (R376). The egress port. -/
  | gateOpen (port : Nat)
  /-- CAN_RECEIVE_ERROR (R353). The controller, the error as LASTERR codes it, and what ISO 11898-1 adds to the receive error counter. -/
  | canReceiveError (c err inc : Nat)
  /-- TOKEN_HELD_ONE_HOUR (R512). The token class. -/
  | tokenHeldOneHour (c : Nat)
  /-- BUTTON_UNMASK (R486). -/
  | buttonUnmask
  deriving DecidableEq, Repr

end Sys2Proof
end

