-- ==== Sys2Proof/Decode.lean ====
section
/-! DEFINITION. The command that a word spells by the bits of spec/opcode_table.json: no row of the table gives bits, so no
word spells a command. (The words of Furrow programs are data of the block: Machine/Furrow.lean decodes them.) -/

namespace Sys2Proof

/-- The command spelled by a word of `nbits` bits: none, since no row of the table gives bits. -/
def decodeTableWord (_nbits _w : Nat) : Option Instr := none

end Sys2Proof
end

