-- ==== Sys2Proof/Config.lean ====
section
/-! DEFINITION. What an implementation fixes and the spec does not give: the free values. Every constant here is opaque,
so that nothing in Lean can evaluate it or prove a value of it (notes/assumptions/2.md). -/

namespace Sys2Proof

/-- A free natural number: the n-th value that the spec leaves open in a run (the counter `State.free` picks n). -/
opaque Config.freeNat : Nat → Nat

/-- The free byte at address `a` of the content `seed` (image planes, tensors, bitstreams whose bytes the spec leaves open). -/
opaque Config.freeByte : Nat → Nat → Byte

/-- What the arithmetic of the module gives for a real function at `num / den`, as numerator and denominator: 0 the cosine and 1 the sine of an
angle in turns, 2 the cosine and 3 the sine of an angle in radians, 4 e^x, 5 the base-2 logarithm, 6 2^x, 7 an angle in radians as turns, 8 the
square root, 9 the number a floating-point pattern that is none stands for, 10 an angle in turns as radians. The spec names the functions and states no precision for them. -/
opaque Config.real : Nat → Int → Nat → Int × Nat

/-- The angle in turns of the vector whose components are given as numerator and denominator. -/
opaque Config.angle : Int × Nat → Int × Nat → Int × Nat

/-- The direction of a sensor pixel under a camera model with its 36 bytes of intrinsics and distortion: the inverse of the distortion, for which
the spec gives no method (R174). -/
opaque Config.undistort : Nat → List Byte → Int × Nat → Int × Nat → (Int × Nat) × (Int × Nat)

/-- The seed of what a stage of the loaded network writes, from the run's free value and the tensors it reads (R172). -/
opaque Config.stage : Nat → (Nat → Nat → Nat) → (Nat → Nat → Nat) → (Nat → Nat → Nat) → Nat

end Sys2Proof
end

