-- ==== Sys2Proof/Machine/SMap.lean ====
section
/-! DEFINITION. A sparse map from natural keys: a list of (key, value) pairs, keys strictly rising, no entry equal to what
an unlisted key reads as. Registers, counters, memory and the per-unit state of the blocks are held in this form. -/

namespace Sys2Proof.Machine

/-- A sparse map held as a list of pairs. -/
abbrev SMap (α : Type) := List (Nat × α)

/-- The value at key `k`; `d k` where the key is not listed. -/
def SMap.get {α : Type} (d : Nat → α) (m : SMap α) (k : Nat) : α :=
  match m with
  | [] => d k
  | (j, v) :: r => if j = k then v else SMap.get d r k

/-- The map without key `k`. -/
def SMap.erase {α : Type} (m : SMap α) (k : Nat) : SMap α :=
  match m with
  | [] => []
  | (j, v) :: r => if j = k then SMap.erase r k else (j, v) :: SMap.erase r k

/-- The map with key `k` listed as `v`. -/
def SMap.insert {α : Type} (m : SMap α) (k : Nat) (v : α) : SMap α :=
  match m with
  | [] => [(k, v)]
  | (j, w) :: r => if j = k then (k, v) :: r else if k < j then (k, v) :: (j, w) :: r else (j, w) :: SMap.insert r k v

/-- The map with `v` at key `k`, kept canonical: writing what an unlisted key reads as removes the entry. -/
def SMap.set {α : Type} [DecidableEq α] (d : Nat → α) (m : SMap α) (k : Nat) (v : α) : SMap α :=
  if v = d k then SMap.erase m k else SMap.insert m k v

/-- Every key is at least `lo`, keys rise strictly, and no entry equals its default. -/
def SMap.wfFrom {α : Type} [DecidableEq α] (d : Nat → α) (lo : Nat) (m : SMap α) : Bool :=
  match m with
  | [] => true
  | (j, v) :: r => decide (lo ≤ j) && decide (v ≠ d j) && SMap.wfFrom d (j + 1) r

/-- The canonical form. -/
def SMap.wf {α : Type} [DecidableEq α] (d : Nat → α) (m : SMap α) : Bool := SMap.wfFrom d 0 m

/-- Keep the entries whose key satisfies `p` (a bulk return to the default). -/
def SMap.keep {α : Type} (p : Nat → Bool) (m : SMap α) : SMap α := List.filter (fun e => p e.1) m

end Sys2Proof.Machine
end

