-- ==== Sys2Proof/Machine/Memory.lean ====
section
/-! DEFINITION. Memory: the Bed store, DRAM and the Prairie feature store window of the physical map (R32), as one list of
(address, byte) pairs in canonical form, with poison marks per granule and the ranges whose content the spec leaves open. -/

namespace Sys2Proof.Machine

/-- What a range of memory holds where the spec leaves its bytes open, wholly (tensors, coded bitstreams) or in part: the pixel formats of R152
fix some bits of every sample. -/
inductive Content where
  /-- Any bytes. -/
  | any (seed : Nat)
  /-- Any bytes, the same at the same distance from `base`. -/
  | rel (seed base : Nat)
  /-- Display pixels: bits [31:30] of each 32-bit word are 0. -/
  | display (seed : Nat)
  /-- Coding luma: a value of 64 to 940 in bits [15:6]. -/
  | luma (seed : Nat)
  /-- Coding chroma: a 10-bit value in bits [15:6]. -/
  | chroma (seed : Nat)
  deriving DecidableEq, Repr

/-- The byte at address `a`, of a pixel format whose rows start on 64-byte boundaries (R152). -/
def Content.byte (c : Content) (a : Nat) : Byte :=
  match c with
  | .any s => Config.freeByte s a
  | .rel s b => Config.freeByte s (a - b)
  | .display s => if a % 4 = 3 then Config.freeByte s a &&& 0x3F else Config.freeByte s a
  | .luma s =>
    let e := a / 2 * 2
    let v := (64 + ((Config.freeByte s e).toNat + 256 * (Config.freeByte s (e + 1)).toNat) % 877) * 64
    if a % 2 = 0 then BitVec.ofNat 8 v else BitVec.ofNat 8 (v / 256)
  | .chroma s => if a % 2 = 0 then Config.freeByte s a &&& 0xC0 else Config.freeByte s a

/-- A range of bytes whose content the spec leaves open. -/
structure Blob where
  lo : Nat
  len : Nat
  seed : Content
  deriving DecidableEq, Repr

/-- Memory. `bytes`: the listed bytes, addresses strictly rising, none 0, none inside a blob. `poison`: the marked granules
(8-byte words of the Bed store, 64-byte lines elsewhere, R15, R417), by first address, strictly rising. `blobs`: the ranges
of open content, by rising address, none sharing an address. -/
structure Memory where
  bytes : List Host.Cell := []
  poison : List Nat := []
  blobs : List Blob := []
  deriving DecidableEq, Repr

/-- What an unlisted address outside every blob reads as: 0 (DRAM start-up writes every line zero, R421; the Bed store is
written clean at BU3, R474; notes/assumptions/4.md). -/
def Memory.unlisted (_ : Nat) : Byte := 0

/-- The blob that covers address `a`. -/
def Memory.blobAt (bs : List Blob) (a : Nat) : Option Blob :=
  bs.find? (fun b => decide (b.lo ≤ a) && decide (a < b.lo + b.len))

/-- The byte at address `a`. -/
def Memory.read (m : Memory) (a : Nat) : Byte :=
  match Memory.blobAt m.blobs a with
  | some b => b.seed.byte a
  | none => SMap.get Memory.unlisted m.bytes a

/-- The blobs with the range `[lo, lo + len)` taken out. -/
def Memory.punch (lo len : Nat) : List Blob → List Blob
  | [] => []
  | b :: r =>
    if b.lo + b.len ≤ lo ∨ lo + len ≤ b.lo then b :: Memory.punch lo len r
    else
      (if b.lo < lo then [{ b with len := lo - b.lo }] else []) ++
      (if lo + len < b.lo + b.len then [{ b with lo := lo + len, len := b.lo + b.len - (lo + len) }] else []) ++
      Memory.punch lo len r

/-- The blob `n` put at its place in a list of blobs by rising address. -/
def Memory.placeBlob (n : Blob) : List Blob → List Blob
  | [] => [n]
  | b :: r => if n.lo < b.lo then n :: b :: r else b :: Memory.placeBlob n r

/-- Memory with byte `v` at `a`. -/
def Memory.write (m : Memory) (a : Nat) (v : Byte) : Memory :=
  { m with bytes := SMap.set Memory.unlisted m.bytes a v, blobs := Memory.punch a 1 m.blobs }

/-- Memory with the bytes `bs` from address `a` on. -/
def Memory.writeBytes (m : Memory) (a : Nat) : Bytes → Memory
  | [] => m
  | b :: r => Memory.writeBytes (m.write a b) (a + 1) r

/-- Memory in which the content of `[lo, lo + len)` is `seed`. -/
def Memory.free (m : Memory) (lo len : Nat) (seed : Content) : Memory :=
  if len = 0 then m
  else { m with
    bytes := SMap.keep (fun a => decide (a < lo) || decide (lo + len ≤ a)) m.bytes
    blobs := Memory.placeBlob ⟨lo, len, seed⟩ (Memory.punch lo len m.blobs) }

/-- Memory with the bytes of `[lo, lo + len)` zero. -/
def Memory.zero (m : Memory) (lo len : Nat) : Memory :=
  if len = 0 then m
  else { m with
    bytes := SMap.keep (fun a => decide (a < lo) || decide (lo + len ≤ a)) m.bytes
    blobs := Memory.punch lo len m.blobs }

/-- `n` bytes from address `a` on. -/
def Memory.readBytes (m : Memory) (a : Nat) : Nat → Bytes
  | 0 => []
  | n + 1 => m.read a :: Memory.readBytes m (a + 1) n

/-- The little-endian value of a run of bytes (R94). -/
def leValue : Bytes → Nat
  | [] => 0
  | b :: r => b.toNat + 256 * leValue r

/-- `n` little-endian bytes of `v`. -/
def leBytes (n v : Nat) : Bytes :=
  match n with
  | 0 => []
  | k + 1 => BitVec.ofNat 8 v :: leBytes k (v / 256)

/-- An `n`-byte little-endian value at `a`. -/
def Memory.readLe (m : Memory) (a n : Nat) : Nat := leValue (m.readBytes a n)

/-- Memory with the `n`-byte little-endian value `v` at `a`. -/
def Memory.writeLe (m : Memory) (a n v : Nat) : Memory := m.writeBytes a (leBytes n v)

/-- Insert into a strictly rising list. -/
def insertNat (k : Nat) : List Nat → List Nat
  | [] => [k]
  | j :: r => if k < j then k :: j :: r else if k = j then j :: r else j :: insertNat k r

/-- Memory with the granule at `g` marked or clean. -/
def Memory.mark (m : Memory) (g : Nat) (p : Bool) : Memory :=
  { m with poison := if p then insertNat g m.poison else m.poison.filter (fun x => x ≠ g) }

/-- Whether granule `g` carries the mark. -/
def Memory.marked (m : Memory) (g : Nat) : Bool := m.poison.contains g

/-- The blobs lie by rising address from `lo` on, none empty, no two sharing an address. -/
def Memory.blobsFrom (lo : Nat) : List Blob → Bool
  | [] => true
  | b :: r => decide (lo ≤ b.lo) && decide (0 < b.len) && Memory.blobsFrom (b.lo + b.len) r

/-- No blob holds a listed byte. -/
def Memory.blobsApart (bytes : List Host.Cell) (bs : List Blob) : Bool :=
  bs.all (fun b => bytes.all (fun c => decide (c.1 < b.lo) || decide (b.lo + b.len ≤ c.1)))

/-- Strictly rising. -/
def risingFrom (lo : Nat) : List Nat → Bool
  | [] => true
  | j :: r => decide (lo ≤ j) && risingFrom (j + 1) r

/-- The canonical form: addresses strictly rising, no entry equal to what an unlisted address reads as, blobs by rising
address, disjoint and free of listed bytes, marks strictly rising. -/
def Memory.wf (m : Memory) : Bool :=
  SMap.wf Memory.unlisted m.bytes && Memory.blobsFrom 0 m.blobs && Memory.blobsApart m.bytes m.blobs && risingFrom 0 m.poison

end Sys2Proof.Machine
end

