-- ==== Sys2Proof/Machine/Num.lean ====
section
/-! DEFINITION. Exact fractions and their rounding, and the S36 tray (R114, R115): the numbers in which samples are formed. -/

namespace Sys2Proof.Machine

/-- An exact value `num / den`; `den` is positive in every use. -/
structure Frac where
  num : Int
  den : Nat
  deriving DecidableEq, Repr

/-- An integer as a fraction. -/
def Frac.ofInt (n : Int) : Frac := ⟨n, 1⟩

/-- Sum, difference and product. -/
def Frac.add (a b : Frac) : Frac := if a.den = b.den then ⟨a.num + b.num, a.den⟩ else ⟨a.num * b.den + b.num * a.den, a.den * b.den⟩
def Frac.neg (a : Frac) : Frac := ⟨-a.num, a.den⟩
def Frac.sub (a b : Frac) : Frac := a.add b.neg
def Frac.mul (a b : Frac) : Frac := ⟨a.num * b.num, a.den * b.den⟩

/-- Quotient; the divisor is not 0 in use. -/
def Frac.div (a b : Frac) : Frac :=
  if b.num < 0 then ⟨-(a.num * b.den), a.den * b.num.natAbs⟩ else ⟨a.num * b.den, a.den * b.num.natAbs⟩

/-- Order. -/
def Frac.lt (a b : Frac) : Bool := decide (a.num * b.den < b.num * a.den)
def Frac.le (a b : Frac) : Bool := decide (a.num * b.den ≤ b.num * a.den)
def Frac.eqv (a b : Frac) : Bool := decide (a.num * b.den = b.num * a.den)
def Frac.max (a b : Frac) : Frac := if a.lt b then b else a
def Frac.min (a b : Frac) : Frac := if a.lt b then a else b
def Frac.clamp (lo hi x : Frac) : Frac := if x.lt lo then lo else if hi.lt x then hi else x
def Frac.abs (a : Frac) : Frac := ⟨a.num.natAbs, a.den⟩

/-- `p / q` rounded to the nearest integer, ties to even. -/
def rhe (p : Int) (q : Nat) : Int :=
  let d := p / (q : Int)
  let r := p % (q : Int)
  if 2 * r < q then d else if (q : Int) < 2 * r then d + 1 else if d % 2 = 0 then d else d + 1

/-- A value times 2 ^ k (k of either sign), rounded to the nearest integer, ties to even. -/
def Frac.scaled (x : Frac) (k : Int) : Int :=
  if 0 ≤ k then rhe (x.num * (2 ^ k.toNat : Nat)) x.den else rhe x.num (x.den * 2 ^ (-k).toNat)

/-- The largest integer at most the value. -/
def Frac.floor (x : Frac) : Int := x.num / (x.den : Int)

/-- The mantissa of a value under exponent `e`, before saturation (R115). -/
def mantissaOf (x : Frac) (e : Int) : Int := x.scaled (35 - e)

/-- The largest magnitude of a mantissa. -/
def mantTop : Int := (2 ^ 35 : Nat) - 1

/-- Whether a mantissa lies outside -2^35 … 2^35 - 1. -/
def mantOut (m : Int) : Bool := decide (m < -(2 ^ 35 : Nat)) || decide (mantTop < m)

/-- A mantissa saturated (R115). -/
def mantSat (m : Int) : Int := if mantTop < m then mantTop else if m < -(2 ^ 35 : Nat) then -mantTop else m

/-- The exponent of a tray: the least from `e` on, at most 127, at which every sample fits (R115); `fuel` bounds the search. -/
def trayExp (xs : List Frac) (fuel : Nat) (e : Int) : Int :=
  match fuel with
  | 0 => e
  | k + 1 => if e < 127 ∧ xs.any (fun x => mantOut (mantissaOf x e)) = true then trayExp xs k (e + 1) else e

/-- A tray of up to 14 values as 64 bytes, with whether any mantissa was saturated (R114, R115). -/
def trayBytes (xs : List Frac) (emin : Int) : List (BitVec 8) × Bool :=
  let e := trayExp xs 256 emin
  let ms := xs.map (fun x => mantissaOf x e)
  let bits := (List.range 14).foldl (fun w k => w + toPattern 36 (mantSat (ms.getD k 0)) * 2 ^ (36 * k)) (toPattern 8 e * 2 ^ 504)
  ((List.range 64).map (fun i => BitVec.ofNat 8 (bits / 2 ^ (8 * i))), ms.any mantOut)

/-- Sample `k` of a tray given as a number: m × 2^(e-35) (R114). -/
def traySample (w k : Nat) : Frac :=
  let e := toSigned 8 (w / 2 ^ 504)
  let m := toSigned 36 (w / 2 ^ (36 * k))
  if 35 ≤ e then ⟨m * (2 ^ (e - 35).toNat : Nat), 1⟩ else ⟨m, 2 ^ (35 - e).toNat⟩

end Sys2Proof.Machine
end

