-- ==== Sys2Proof/Machine/RegMap.lean ====
section
/-! DEFINITION. The register map: the key of every register (block number × 0x1000 + offset) and the place of every
field, as the block maps of the spec give them (R85 for the block numbers; the map of each block for the rest). -/

namespace Sys2Proof.Machine

/-- A field of a register: the register's key and the field's highest and lowest bit. -/
structure Fld where
  addr : Nat
  hi : Nat
  lo : Nat
  deriving DecidableEq, Repr

/-! ### Block 0x00 (SYS) -/

def Reg.SYS_MODID : Nat := 0x0
def F.SYS_MODID_FAMILY : Fld := ⟨Reg.SYS_MODID, 31, 24⟩
def F.SYS_MODID_CODE : Fld := ⟨Reg.SYS_MODID, 23, 20⟩
def F.SYS_MODID_HWREV : Fld := ⟨Reg.SYS_MODID, 19, 16⟩
def Reg.SYS_ABSENTWR : Nat := 0x4
def F.SYS_ABSENTWR_CNT : Fld := ⟨Reg.SYS_ABSENTWR, 15, 0⟩
def Reg.SYS_CTL : Nat := 0x8
def F.SYS_CTL_IE_CELL : Fld := ⟨Reg.SYS_CTL, 5, 5⟩
def F.SYS_CTL_IE_SHED : Fld := ⟨Reg.SYS_CTL, 4, 4⟩
def F.SYS_CTL_IE_SUP : Fld := ⟨Reg.SYS_CTL, 3, 3⟩
def F.SYS_CTL_IE_SLEEP : Fld := ⟨Reg.SYS_CTL, 2, 2⟩
def F.SYS_CTL_IE_CDOWN : Fld := ⟨Reg.SYS_CTL, 1, 1⟩
def F.SYS_CTL_IE_STATE : Fld := ⟨Reg.SYS_CTL, 0, 0⟩
def Reg.SYS_STAT : Nat := 0xC
def F.SYS_STAT_CDOWN : Fld := ⟨Reg.SYS_STAT, 31, 31⟩
def F.SYS_STAT_PARFLT : Fld := ⟨Reg.SYS_STAT, 8, 8⟩
def F.SYS_STAT_CANFAIL : Fld := ⟨Reg.SYS_STAT, 7, 7⟩
def F.SYS_STAT_CELL : Fld := ⟨Reg.SYS_STAT, 6, 6⟩
def F.SYS_STAT_SHED : Fld := ⟨Reg.SYS_STAT, 5, 5⟩
def F.SYS_STAT_SUPHIGH : Fld := ⟨Reg.SYS_STAT, 4, 4⟩
def F.SYS_STAT_SUPLOW : Fld := ⟨Reg.SYS_STAT, 3, 3⟩
def F.SYS_STAT_SLEEPABORT : Fld := ⟨Reg.SYS_STAT, 2, 2⟩
def F.SYS_STAT_REVERSED : Fld := ⟨Reg.SYS_STAT, 1, 1⟩
def F.SYS_STAT_STATECHG : Fld := ⟨Reg.SYS_STAT, 0, 0⟩
def Reg.SYS_PARBLK : Nat := 0x10
def F.SYS_PARBLK_BLK : Fld := ⟨Reg.SYS_PARBLK, 25, 0⟩
def Reg.SYS_PWRSTATE : Nat := 0x14
def F.SYS_PWRSTATE_STATE : Fld := ⟨Reg.SYS_PWRSTATE, 31, 29⟩
def F.SYS_PWRSTATE_STEP : Fld := ⟨Reg.SYS_PWRSTATE, 28, 24⟩
def F.SYS_PWRSTATE_TARGET : Fld := ⟨Reg.SYS_PWRSTATE, 23, 22⟩
def F.SYS_PWRSTATE_REVCNT : Fld := ⟨Reg.SYS_PWRSTATE, 15, 0⟩
def Reg.SYS_PWRREQ : Nat := 0x18
def F.SYS_PWRREQ_GO : Fld := ⟨Reg.SYS_PWRREQ, 31, 31⟩
def F.SYS_PWRREQ_TARGET : Fld := ⟨Reg.SYS_PWRREQ, 1, 0⟩
def Reg.SYS_PWRCFG : Nat := 0x1C
def F.SYS_PWRCFG_AUTO : Fld := ⟨Reg.SYS_PWRCFG, 31, 31⟩
def F.SYS_PWRCFG_IGNOFF : Fld := ⟨Reg.SYS_PWRCFG, 23, 16⟩
def F.SYS_PWRCFG_CANGRACE : Fld := ⟨Reg.SYS_PWRCFG, 15, 8⟩
def F.SYS_PWRCFG_RETRY : Fld := ⟨Reg.SYS_PWRCFG, 7, 4⟩
def Reg.SYS_SLEEPCFG : Nat := 0x20
def F.SYS_SLEEPCFG_SLEEPEN : Fld := ⟨Reg.SYS_SLEEPCFG, 31, 24⟩
def F.SYS_SLEEPCFG_HOLDOFF : Fld := ⟨Reg.SYS_SLEEPCFG, 23, 16⟩
def F.SYS_SLEEPCFG_SBDLY : Fld := ⟨Reg.SYS_SLEEPCFG, 15, 8⟩
def Reg.SYS_SLEEPSTAT : Nat := 0x24
def F.SYS_SLEEPSTAT_PHASE : Fld := ⟨Reg.SYS_SLEEPSTAT, 31, 28⟩
def F.SYS_SLEEPSTAT_KACH : Fld := ⟨Reg.SYS_SLEEPSTAT, 26, 24⟩
def F.SYS_SLEEPSTAT_KASRC : Fld := ⟨Reg.SYS_SLEEPSTAT, 23, 16⟩
def F.SYS_SLEEPSTAT_ABORTS : Fld := ⟨Reg.SYS_SLEEPSTAT, 7, 0⟩
def Reg.SYS_SUPPLY : Nat := 0x28
def F.SYS_SUPPLY_SYSV : Fld := ⟨Reg.SYS_SUPPLY, 31, 30⟩
def F.SYS_SUPPLY_MV : Fld := ⟨Reg.SYS_SUPPLY, 15, 0⟩
def Reg.SYS_RSTCMD : Nat := 0x2C
def F.SYS_RSTCMD_KEY : Fld := ⟨Reg.SYS_RSTCMD, 31, 16⟩
def F.SYS_RSTCMD_KIND : Fld := ⟨Reg.SYS_RSTCMD, 3, 0⟩
def Reg.SYS_RSTCAUSE : Nat := 0x30
def F.SYS_RSTCAUSE_CAUSE : Fld := ⟨Reg.SYS_RSTCAUSE, 31, 28⟩
def F.SYS_RSTCAUSE_NEWEST : Fld := ⟨Reg.SYS_RSTCAUSE, 27, 24⟩
def F.SYS_RSTCAUSE_COUNT : Fld := ⟨Reg.SYS_RSTCAUSE, 15, 0⟩
def Reg.SYS_SHED : Nat := 0x34
def F.SYS_SHED_EN : Fld := ⟨Reg.SYS_SHED, 31, 31⟩
def F.SYS_SHED_AUTORET : Fld := ⟨Reg.SYS_SHED, 30, 30⟩
def F.SYS_SHED_WAIT : Fld := ⟨Reg.SYS_SHED, 23, 16⟩
def F.SYS_SHED_SHST : Fld := ⟨Reg.SYS_SHED, 1, 0⟩
def Reg.SYS_RSTLOGk_W (i : Nat) (j : Nat) : Nat := 0x100 + 0x10 * (i % 16) + 0x4 * (j % 4)
def F.SYS_RSTLOGk_W_ENTRY (i : Nat) (j : Nat) : Fld := ⟨Reg.SYS_RSTLOGk_W i j, 31, 0⟩
def Reg.SYS_STEPTIMEs (i : Nat) : Nat := 0x200 + 0x4 * (i % 26)
def F.SYS_STEPTIMEs_PEAK (i : Nat) : Fld := ⟨Reg.SYS_STEPTIMEs i, 31, 16⟩
def F.SYS_STEPTIMEs_LAST (i : Nat) : Fld := ⟨Reg.SYS_STEPTIMEs i, 15, 0⟩
/-! ### Block 0x01 (SDL) -/

def Reg.SDL_CTL : Nat := 0x1000
def F.SDL_CTL_IE_STAT : Fld := ⟨Reg.SDL_CTL, 3, 3⟩
def F.SDL_CTL_MODE : Fld := ⟨Reg.SDL_CTL, 1, 0⟩
def Reg.SDL_STAT : Nat := 0x1004
def F.SDL_STAT_PARFLT : Fld := ⟨Reg.SDL_STAT, 7, 7⟩
def F.SDL_STAT_ROOTFLT : Fld := ⟨Reg.SDL_STAT, 6, 6⟩
def F.SDL_STAT_DRIFT : Fld := ⟨Reg.SDL_STAT, 5, 5⟩
def F.SDL_STAT_TCXOLOSS : Fld := ⟨Reg.SDL_STAT, 4, 4⟩
def F.SDL_STAT_STATE : Fld := ⟨Reg.SDL_STAT, 2, 0⟩
def Reg.SDL_SNAP : Nat := 0x1008
def F.SDL_SNAP_SNAP : Fld := ⟨Reg.SDL_SNAP, 0, 0⟩
def Reg.SDL_NOW_LO : Nat := 0x1010
def F.SDL_NOW_LO_NOW : Fld := ⟨Reg.SDL_NOW_LO, 31, 0⟩
def Reg.SDL_NOW_HI : Nat := 0x1014
def F.SDL_NOW_HI_NOW : Fld := ⟨Reg.SDL_NOW_HI, 31, 0⟩
def Reg.SDL_GNSSOFF_LO : Nat := 0x1018
def F.SDL_GNSSOFF_LO_OFF : Fld := ⟨Reg.SDL_GNSSOFF_LO, 31, 0⟩
def Reg.SDL_GNSSOFF_HI : Nat := 0x101C
def F.SDL_GNSSOFF_HI_OFF : Fld := ⟨Reg.SDL_GNSSOFF_HI, 31, 0⟩
def Reg.SDL_TRIM : Nat := 0x1020
def F.SDL_TRIM_TRIM : Fld := ⟨Reg.SDL_TRIM, 31, 0⟩
def Reg.SDL_RATEERR : Nat := 0x1024
def F.SDL_RATEERR_ERR : Fld := ⟨Reg.SDL_RATEERR, 31, 0⟩
def Reg.SDL_ALMn_LO (i : Nat) : Nat := 0x1100 + 0x10 * (i % 16)
def F.SDL_ALMn_LO_TIME (i : Nat) : Fld := ⟨Reg.SDL_ALMn_LO i, 31, 0⟩
def Reg.SDL_ALMn_HI (i : Nat) : Nat := 0x1104 + 0x10 * (i % 16)
def F.SDL_ALMn_HI_TIME (i : Nat) : Fld := ⟨Reg.SDL_ALMn_HI i, 31, 0⟩
def Reg.SDL_ALMnCTL (i : Nat) : Nat := 0x1108 + 0x10 * (i % 16)
def F.SDL_ALMnCTL_DEST (i : Nat) : Fld := ⟨Reg.SDL_ALMnCTL i, 7, 4⟩
def F.SDL_ALMnCTL_ARM (i : Nat) : Fld := ⟨Reg.SDL_ALMnCTL i, 0, 0⟩
def Reg.SDL_ALMnLATE (i : Nat) : Nat := 0x110C + 0x10 * (i % 16)
def F.SDL_ALMnLATE_LATE (i : Nat) : Fld := ⟨Reg.SDL_ALMnLATE i, 31, 0⟩
/-! ### Block 0x02 (RTD) -/

def Reg.RTD_CTL : Nat := 0x2000
def F.RTD_CTL_CALLOAD : Fld := ⟨Reg.RTD_CTL, 31, 31⟩
def F.RTD_CTL_SAVEINT : Fld := ⟨Reg.RTD_CTL, 7, 0⟩
def Reg.RTD_STAT : Nat := 0x2004
def F.RTD_STAT_CALVALID : Fld := ⟨Reg.RTD_STAT, 31, 31⟩
def F.RTD_STAT_PARFLT : Fld := ⟨Reg.RTD_STAT, 6, 6⟩
def F.RTD_STAT_REBASE : Fld := ⟨Reg.RTD_STAT, 5, 5⟩
def F.RTD_STAT_CELLLOW : Fld := ⟨Reg.RTD_STAT, 4, 4⟩
def F.RTD_STAT_CALLOST : Fld := ⟨Reg.RTD_STAT, 3, 3⟩
def F.RTD_STAT_SAVEFAIL : Fld := ⟨Reg.RTD_STAT, 2, 2⟩
def F.RTD_STAT_BTNSTUCK : Fld := ⟨Reg.RTD_STAT, 1, 1⟩
def F.RTD_STAT_CHARGING : Fld := ⟨Reg.RTD_STAT, 0, 0⟩
def Reg.RTD_SNAP : Nat := 0x2008
def F.RTD_SNAP_SNAP : Fld := ⟨Reg.RTD_SNAP, 0, 0⟩
def Reg.RTD_CAL_LO : Nat := 0x200C
def F.RTD_CAL_LO_SEC : Fld := ⟨Reg.RTD_CAL_LO, 31, 0⟩
def Reg.RTD_CAL_HI : Nat := 0x2010
def F.RTD_CAL_HI_SUB : Fld := ⟨Reg.RTD_CAL_HI, 22, 8⟩
def F.RTD_CAL_HI_SEC : Fld := ⟨Reg.RTD_CAL_HI, 7, 0⟩
def Reg.RTD_CALSET_LO : Nat := 0x2014
def F.RTD_CALSET_LO_SEC : Fld := ⟨Reg.RTD_CALSET_LO, 31, 0⟩
def Reg.RTD_CALSET_HI : Nat := 0x2018
def F.RTD_CALSET_HI_SUB : Fld := ⟨Reg.RTD_CALSET_HI, 22, 8⟩
def F.RTD_CALSET_HI_SEC : Fld := ⟨Reg.RTD_CALSET_HI, 7, 0⟩
def Reg.RTD_OPSEC : Nat := 0x201C
def F.RTD_OPSEC_CNT : Fld := ⟨Reg.RTD_OPSEC, 31, 0⟩
def Reg.RTD_PWRCYC : Nat := 0x2020
def F.RTD_PWRCYC_CNT : Fld := ⟨Reg.RTD_PWRCYC, 31, 0⟩
def Reg.RTD_SDLSAVE_LO : Nat := 0x2024
def F.RTD_SDLSAVE_LO_TIME : Fld := ⟨Reg.RTD_SDLSAVE_LO, 31, 0⟩
def Reg.RTD_SDLSAVE_HI : Nat := 0x2028
def F.RTD_SDLSAVE_HI_TIME : Fld := ⟨Reg.RTD_SDLSAVE_HI, 31, 0⟩
def Reg.RTD_WAKECFG : Nat := 0x202C
def F.RTD_WAKECFG_W2EDGE : Fld := ⟨Reg.RTD_WAKECFG, 11, 10⟩
def F.RTD_WAKECFG_W1EDGE : Fld := ⟨Reg.RTD_WAKECFG, 9, 8⟩
def F.RTD_WAKECFG_EN : Fld := ⟨Reg.RTD_WAKECFG, 7, 0⟩
def Reg.RTD_WAKESTAT : Nat := 0x2030
def F.RTD_WAKESTAT_SRC : Fld := ⟨Reg.RTD_WAKESTAT, 7, 0⟩
def Reg.RTD_WAKELVL : Nat := 0x2034
def F.RTD_WAKELVL_BTN : Fld := ⟨Reg.RTD_WAKELVL, 3, 3⟩
def F.RTD_WAKELVL_WAKE2 : Fld := ⟨Reg.RTD_WAKELVL, 2, 2⟩
def F.RTD_WAKELVL_WAKE1 : Fld := ⟨Reg.RTD_WAKELVL, 1, 1⟩
def F.RTD_WAKELVL_IGN : Fld := ⟨Reg.RTD_WAKELVL, 0, 0⟩
def Reg.RTD_WTIMER : Nat := 0x2038
def F.RTD_WTIMER_SEC : Fld := ⟨Reg.RTD_WTIMER, 31, 0⟩
def Reg.RTD_CELLV : Nat := 0x203C
def F.RTD_CELLV_LOW : Fld := ⟨Reg.RTD_CELLV, 31, 16⟩
def F.RTD_CELLV_MV : Fld := ⟨Reg.RTD_CELLV, 15, 0⟩
def Reg.RTD_CELLQ : Nat := 0x2040
def F.RTD_CELLQ_PCT : Fld := ⟨Reg.RTD_CELLQ, 31, 24⟩
def F.RTD_CELLQ_UAH : Fld := ⟨Reg.RTD_CELLQ, 15, 0⟩
def Reg.RTD_CELLCFG : Nat := 0x2044
def F.RTD_CELLCFG_VOK : Fld := ⟨Reg.RTD_CELLCFG, 31, 16⟩
def F.RTD_CELLCFG_VLOW : Fld := ⟨Reg.RTD_CELLCFG, 15, 0⟩
def Reg.RTD_SAVE : Nat := 0x2048
def F.RTD_SAVE_NOW : Fld := ⟨Reg.RTD_SAVE, 31, 31⟩
def F.RTD_SAVE_CAUSE : Fld := ⟨Reg.RTD_SAVE, 30, 28⟩
def F.RTD_SAVE_AGE : Fld := ⟨Reg.RTD_SAVE, 15, 0⟩
def Reg.RTD_VAULTCNT : Nat := 0x204C
def F.RTD_VAULTCNT_CNT : Fld := ⟨Reg.RTD_VAULTCNT, 31, 0⟩
def Reg.RTD_BTN : Nat := 0x2050
def F.RTD_BTN_STUCK : Fld := ⟨Reg.RTD_BTN, 31, 16⟩
def F.RTD_BTN_PRESS : Fld := ⟨Reg.RTD_BTN, 15, 0⟩
def Reg.RTD_SUPLOG : Nat := 0x2054
def F.RTD_SUPLOG_EVENT : Fld := ⟨Reg.RTD_SUPLOG, 31, 28⟩
def F.RTD_SUPLOG_MV : Fld := ⟨Reg.RTD_SUPLOG, 15, 0⟩
def Reg.RTD_LASTOFF_LO : Nat := 0x2058
def F.RTD_LASTOFF_LO_SEC : Fld := ⟨Reg.RTD_LASTOFF_LO, 31, 0⟩
def Reg.RTD_LASTOFF_HI : Nat := 0x205C
def F.RTD_LASTOFF_HI_SUB : Fld := ⟨Reg.RTD_LASTOFF_HI, 22, 8⟩
def F.RTD_LASTOFF_HI_SEC : Fld := ⟨Reg.RTD_LASTOFF_HI, 7, 0⟩
def Reg.RTD_GPn (i : Nat) : Nat := 0x2080 + 0x4 * (i % 30)
def F.RTD_GPn_VAL (i : Nat) : Fld := ⟨Reg.RTD_GPn i, 31, 0⟩
def Reg.RTD_WPEND_LO : Nat := 0x20F8
def F.RTD_WPEND_LO_PEND : Fld := ⟨Reg.RTD_WPEND_LO, 31, 0⟩
def Reg.RTD_WPEND_HI : Nat := 0x20FC
def F.RTD_WPEND_HI_PEND : Fld := ⟨Reg.RTD_WPEND_HI, 29, 0⟩
/-! ### Block 0x03 (HLT) -/

def Reg.HLT_CTL : Nat := 0x3000
def F.HLT_CTL_REPEAT : Fld := ⟨Reg.HLT_CTL, 31, 28⟩
def F.HLT_CTL_AUTO : Fld := ⟨Reg.HLT_CTL, 27, 27⟩
def F.HLT_CTL_RESTART : Fld := ⟨Reg.HLT_CTL, 26, 26⟩
def F.HLT_CTL_IE_HO : Fld := ⟨Reg.HLT_CTL, 3, 3⟩
def F.HLT_CTL_IE_LAST : Fld := ⟨Reg.HLT_CTL, 2, 2⟩
def F.HLT_CTL_IE_DALE : Fld := ⟨Reg.HLT_CTL, 1, 1⟩
def F.HLT_CTL_IE_CFG : Fld := ⟨Reg.HLT_CTL, 0, 0⟩
def Reg.HLT_STAT : Nat := 0x3004
def F.HLT_STAT_PARFLT : Fld := ⟨Reg.HLT_STAT, 6, 6⟩
def F.HLT_STAT_CFGREJ : Fld := ⟨Reg.HLT_STAT, 5, 5⟩
def F.HLT_STAT_UNTESTED : Fld := ⟨Reg.HLT_STAT, 4, 4⟩
def F.HLT_STAT_CMP : Fld := ⟨Reg.HLT_STAT, 3, 3⟩
def F.HLT_STAT_LASTING : Fld := ⟨Reg.HLT_STAT, 2, 2⟩
def F.HLT_STAT_HANDOVER : Fld := ⟨Reg.HLT_STAT, 1, 1⟩
def F.HLT_STAT_DALEFLT : Fld := ⟨Reg.HLT_STAT, 0, 0⟩
def Reg.HLT_SNAP : Nat := 0x3008
def F.HLT_SNAP_SNAP : Fld := ⟨Reg.HLT_SNAP, 0, 0⟩
def Reg.HLT_BADCFG : Nat := 0x300C
def F.HLT_BADCFG_CAUSE : Fld := ⟨Reg.HLT_BADCFG, 11, 8⟩
def F.HLT_BADCFG_UNIT : Fld := ⟨Reg.HLT_BADCFG, 3, 0⟩
def Reg.HLT_ROLE : Nat := 0x3010
def F.HLT_ROLE_CARRY : Fld := ⟨Reg.HLT_ROLE, 31, 30⟩
def F.HLT_ROLE_SWITCHES : Fld := ⟨Reg.HLT_ROLE, 15, 0⟩
def Reg.HLT_HOCFG : Nat := 0x3014
def F.HLT_HOCFG_HOPER : Fld := ⟨Reg.HLT_HOCFG, 31, 28⟩
def F.HLT_HOCFG_HBPER : Fld := ⟨Reg.HLT_HOCFG, 27, 24⟩
def F.HLT_HOCFG_HOPHASE : Fld := ⟨Reg.HLT_HOCFG, 19, 0⟩
def Reg.HLT_HOREC : Nat := 0x3018
def F.HLT_HOREC_EN : Fld := ⟨Reg.HLT_HOREC, 31, 31⟩
def F.HLT_HOREC_OFF : Fld := ⟨Reg.HLT_HOREC, 12, 0⟩
def Reg.HLT_HOSTAT : Nat := 0x301C
def F.HLT_HOSTAT_STATE : Fld := ⟨Reg.HLT_HOSTAT, 31, 29⟩
def F.HLT_HOSTAT_KIND : Fld := ⟨Reg.HLT_HOSTAT, 28, 28⟩
def F.HLT_HOSTAT_CAUSE : Fld := ⟨Reg.HLT_HOSTAT, 27, 24⟩
def F.HLT_HOSTAT_GAP : Fld := ⟨Reg.HLT_HOSTAT, 23, 0⟩
def Reg.HLT_HOCNT : Nat := 0x3020
def F.HLT_HOCNT_FAULT : Fld := ⟨Reg.HLT_HOCNT, 31, 16⟩
def F.HLT_HOCNT_PLANNED : Fld := ⟨Reg.HLT_HOCNT, 15, 0⟩
def Reg.HLT_MIRCTL : Nat := 0x3024
def F.HLT_MIRCTL_SYNC : Fld := ⟨Reg.HLT_MIRCTL, 15, 0⟩
def Reg.HLT_MIRBW : Nat := 0x3028
def F.HLT_MIRBW_PEAK : Fld := ⟨Reg.HLT_MIRBW, 31, 16⟩
def F.HLT_MIRBW_LAST : Fld := ⟨Reg.HLT_MIRBW, 15, 0⟩
def Reg.HLT_TESTQ : Nat := 0x302C
def F.HLT_TESTQ_PEAK : Fld := ⟨Reg.HLT_TESTQ, 31, 24⟩
def F.HLT_TESTQ_NOW : Fld := ⟨Reg.HLT_TESTQ, 7, 0⟩
def Reg.HLT_UNTESTED : Nat := 0x3030
def F.HLT_UNTESTED_CNT : Fld := ⟨Reg.HLT_UNTESTED, 31, 0⟩
def Reg.HLT_TRANSCNT_LO : Nat := 0x3034
def F.HLT_TRANSCNT_LO_CNT : Fld := ⟨Reg.HLT_TRANSCNT_LO, 31, 0⟩
def Reg.HLT_TRANSCNT_HI : Nat := 0x3038
def F.HLT_TRANSCNT_HI_CNT : Fld := ⟨Reg.HLT_TRANSCNT_HI, 31, 0⟩
def Reg.HLT_LASTCNT : Nat := 0x303C
def F.HLT_LASTCNT_CNT : Fld := ⟨Reg.HLT_LASTCNT, 31, 0⟩
def Reg.HLT_LASTTEST : Nat := 0x3040
def F.HLT_LASTTEST_CLASS : Fld := ⟨Reg.HLT_LASTTEST, 31, 28⟩
def F.HLT_LASTTEST_RESULT : Fld := ⟨Reg.HLT_LASTTEST, 27, 24⟩
def Reg.HLT_LASTRES : Nat := 0x3044
def F.HLT_LASTRES_ID : Fld := ⟨Reg.HLT_LASTRES, 31, 0⟩
def Reg.HLT_CMPSTAT : Nat := 0x3048
def F.HLT_CMPSTAT_MISS : Fld := ⟨Reg.HLT_CMPSTAT, 31, 16⟩
def F.HLT_CMPSTAT_HALF : Fld := ⟨Reg.HLT_CMPSTAT, 15, 0⟩
def Reg.HLT_CMPCNT : Nat := 0x304C
def F.HLT_CMPCNT_CNT : Fld := ⟨Reg.HLT_CMPCNT, 31, 0⟩
def Reg.HLT_TOKWAIT : Nat := 0x3050
def F.HLT_TOKWAIT_PEAK : Fld := ⟨Reg.HLT_TOKWAIT, 31, 16⟩
def F.HLT_TOKWAIT_LAST : Fld := ⟨Reg.HLT_TOKWAIT, 15, 0⟩
def Reg.HLT_DALEn_CTL (i : Nat) : Nat := 0x3080 + 0x20 * (i % 2)
def F.HLT_DALEn_CTL_READY (i : Nat) : Fld := ⟨Reg.HLT_DALEn_CTL i, 31, 31⟩
def F.HLT_DALEn_CTL_ARMED (i : Nat) : Fld := ⟨Reg.HLT_DALEn_CTL i, 30, 30⟩
def F.HLT_DALEn_CTL_FAIL (i : Nat) : Fld := ⟨Reg.HLT_DALEn_CTL i, 29, 29⟩
def Reg.HLT_DALEn_HB (i : Nat) : Nat := 0x3084 + 0x20 * (i % 2)
def F.HLT_DALEn_HB_VAL (i : Nat) : Fld := ⟨Reg.HLT_DALEn_HB i, 31, 0⟩
def Reg.HLT_DALEn_STAT (i : Nat) : Nat := 0x3088 + 0x20 * (i % 2)
def F.HLT_DALEn_STAT_STATE (i : Nat) : Fld := ⟨Reg.HLT_DALEn_STAT i, 31, 29⟩
def F.HLT_DALEn_STAT_CARRY (i : Nat) : Fld := ⟨Reg.HLT_DALEn_STAT i, 28, 28⟩
def F.HLT_DALEn_STAT_TESTPEND (i : Nat) : Fld := ⟨Reg.HLT_DALEn_STAT i, 27, 27⟩
def F.HLT_DALEn_STAT_CORES (i : Nat) : Fld := ⟨Reg.HLT_DALEn_STAT i, 23, 16⟩
def F.HLT_DALEn_STAT_L2RET (i : Nat) : Fld := ⟨Reg.HLT_DALEn_STAT i, 15, 12⟩
def F.HLT_DALEn_STAT_FCAUSE (i : Nat) : Fld := ⟨Reg.HLT_DALEn_STAT i, 11, 8⟩
def Reg.HLT_DALEn_HBAGE (i : Nat) : Nat := 0x308C + 0x20 * (i % 2)
def F.HLT_DALEn_HBAGE_PEAK (i : Nat) : Fld := ⟨Reg.HLT_DALEn_HBAGE i, 31, 16⟩
def F.HLT_DALEn_HBAGE_AGE (i : Nat) : Fld := ⟨Reg.HLT_DALEn_HBAGE i, 15, 0⟩
def Reg.HLT_DALEn_FAULTS (i : Nat) : Nat := 0x3090 + 0x20 * (i % 2)
def F.HLT_DALEn_FAULTS_CNT (i : Nat) : Fld := ⟨Reg.HLT_DALEn_FAULTS i, 31, 0⟩
def Reg.HLT_DALEn_ERRCNT (i : Nat) : Nat := 0x3094 + 0x20 * (i % 2)
def F.HLT_DALEn_ERRCNT_UNC (i : Nat) : Fld := ⟨Reg.HLT_DALEn_ERRCNT i, 31, 16⟩
def F.HLT_DALEn_ERRCNT_CORR (i : Nat) : Fld := ⟨Reg.HLT_DALEn_ERRCNT i, 15, 0⟩
def Reg.HLT_MIRn_SRC (i : Nat) : Nat := 0x3100 + 0x10 * (i % 16)
def F.HLT_MIRn_SRC_BASE (i : Nat) : Fld := ⟨Reg.HLT_MIRn_SRC i, 27, 0⟩
def Reg.HLT_MIRn_COPY (i : Nat) : Nat := 0x3104 + 0x10 * (i % 16)
def F.HLT_MIRn_COPY_BASE (i : Nat) : Fld := ⟨Reg.HLT_MIRn_COPY i, 27, 0⟩
def Reg.HLT_MIRn_CFG (i : Nat) : Nat := 0x3108 + 0x10 * (i % 16)
def F.HLT_MIRn_CFG_EN (i : Nat) : Fld := ⟨Reg.HLT_MIRn_CFG i, 31, 31⟩
def F.HLT_MIRn_CFG_SWAP (i : Nat) : Fld := ⟨Reg.HLT_MIRn_CFG i, 30, 30⟩
def F.HLT_MIRn_CFG_SIZE (i : Nat) : Fld := ⟨Reg.HLT_MIRn_CFG i, 13, 0⟩
def Reg.HLT_MIRn_STAT (i : Nat) : Nat := 0x310C + 0x10 * (i % 16)
def F.HLT_MIRn_STAT_SYNC (i : Nat) : Fld := ⟨Reg.HLT_MIRn_STAT i, 31, 31⟩
def F.HLT_MIRn_STAT_DIR (i : Nat) : Fld := ⟨Reg.HLT_MIRn_STAT i, 30, 30⟩
def F.HLT_MIRn_STAT_KLINES (i : Nat) : Fld := ⟨Reg.HLT_MIRn_STAT i, 15, 0⟩
def Reg.HLT_TOKc (i : Nat) : Nat := 0x3200 + 0x8 * (i % 8)
def F.HLT_TOKc_HELD (i : Nat) : Fld := ⟨Reg.HLT_TOKc i, 31, 31⟩
def F.HLT_TOKc_OWNER (i : Nat) : Fld := ⟨Reg.HLT_TOKc i, 30, 27⟩
def F.HLT_TOKc_ACT (i : Nat) : Fld := ⟨Reg.HLT_TOKc i, 19, 16⟩
def F.HLT_TOKc_WAIT (i : Nat) : Fld := ⟨Reg.HLT_TOKc i, 7, 0⟩
def Reg.HLT_TOKc_SINCE (i : Nat) : Nat := 0x3204 + 0x8 * (i % 8)
def F.HLT_TOKc_SINCE_MS (i : Nat) : Fld := ⟨Reg.HLT_TOKc_SINCE i, 31, 0⟩
def Reg.HLT_CMPk_A (i : Nat) : Nat := 0x3280 + 0x8 * (i % 16)
def F.HLT_CMPk_A_SIG (i : Nat) : Fld := ⟨Reg.HLT_CMPk_A i, 31, 0⟩
def Reg.HLT_CMPk_B (i : Nat) : Nat := 0x3284 + 0x8 * (i % 16)
def F.HLT_CMPk_B_SIG (i : Nat) : Fld := ⟨Reg.HLT_CMPk_B i, 31, 0⟩
def Reg.HLT_TRANSc (i : Nat) : Nat := 0x3300 + 0x4 * (i % 8)
def F.HLT_TRANSc_CNT (i : Nat) : Fld := ⟨Reg.HLT_TRANSc i, 31, 0⟩
def Reg.HLT_LASTc (i : Nat) : Nat := 0x3320 + 0x4 * (i % 8)
def F.HLT_LASTc_CNT (i : Nat) : Fld := ⟨Reg.HLT_LASTc i, 31, 0⟩
def Reg.HLT_MONCTL : Nat := 0x3400
def F.HLT_MONCTL_IE_VOUT : Fld := ⟨Reg.HLT_MONCTL, 3, 3⟩
def F.HLT_MONCTL_IE_TCRIT : Fld := ⟨Reg.HLT_MONCTL, 2, 2⟩
def F.HLT_MONCTL_IE_TWARN : Fld := ⟨Reg.HLT_MONCTL, 1, 1⟩
def F.HLT_MONCTL_IE_PACE : Fld := ⟨Reg.HLT_MONCTL, 0, 0⟩
def Reg.HLT_TEMPLIM : Nat := 0x3404
def F.HLT_TEMPLIM_CRIT : Fld := ⟨Reg.HLT_TEMPLIM, 31, 16⟩
def F.HLT_TEMPLIM_WARN : Fld := ⟨Reg.HLT_TEMPLIM, 15, 0⟩
def Reg.HLT_MONSTAT : Nat := 0x3408
def F.HLT_MONSTAT_PARFLT : Fld := ⟨Reg.HLT_MONSTAT, 5, 5⟩
def F.HLT_MONSTAT_VOUT : Fld := ⟨Reg.HLT_MONSTAT, 4, 4⟩
def F.HLT_MONSTAT_TCRIT : Fld := ⟨Reg.HLT_MONSTAT, 3, 3⟩
def F.HLT_MONSTAT_TWARN : Fld := ⟨Reg.HLT_MONSTAT, 2, 2⟩
def F.HLT_MONSTAT_GAUGEFLT : Fld := ⟨Reg.HLT_MONSTAT, 1, 1⟩
def F.HLT_MONSTAT_BREACH : Fld := ⟨Reg.HLT_MONSTAT, 0, 0⟩
def Reg.HLT_PACEMIN : Nat := 0x340C
def F.HLT_PACEMIN_IDX : Fld := ⟨Reg.HLT_PACEMIN, 31, 24⟩
def F.HLT_PACEMIN_PACE : Fld := ⟨Reg.HLT_PACEMIN, 15, 0⟩
def Reg.HLT_VCORE : Nat := 0x3410
def F.HLT_VCORE_BED : Fld := ⟨Reg.HLT_VCORE, 31, 16⟩
def F.HLT_VCORE_CANOPY : Fld := ⟨Reg.HLT_VCORE, 15, 0⟩
def Reg.HLT_PACEBED : Nat := 0x3414
def F.HLT_PACEBED_IDX : Fld := ⟨Reg.HLT_PACEBED, 31, 24⟩
def F.HLT_PACEBED_PACE : Fld := ⟨Reg.HLT_PACEBED, 15, 0⟩
def Reg.HLT_PACEn (i : Nat) : Nat := 0x3480 + 0x4 * (i % 32)
def F.HLT_PACEn_VALID (i : Nat) : Fld := ⟨Reg.HLT_PACEn i, 31, 31⟩
def F.HLT_PACEn_EXCL (i : Nat) : Fld := ⟨Reg.HLT_PACEn i, 30, 30⟩
def F.HLT_PACEn_PACE (i : Nat) : Fld := ⟨Reg.HLT_PACEn i, 15, 0⟩
def Reg.HLT_TEMPn (i : Nat) : Nat := 0x3500 + 0x4 * (i % 24)
def F.HLT_TEMPn_VALID (i : Nat) : Fld := ⟨Reg.HLT_TEMPn i, 31, 31⟩
def F.HLT_TEMPn_TEMP (i : Nat) : Fld := ⟨Reg.HLT_TEMPn i, 15, 0⟩
def Reg.HLT_VMONn (i : Nat) : Nat := 0x3580 + 0x4 * (i % 8)
def F.HLT_VMONn_VALID (i : Nat) : Fld := ⟨Reg.HLT_VMONn i, 31, 31⟩
def F.HLT_VMONn_OUT (i : Nat) : Fld := ⟨Reg.HLT_VMONn i, 30, 30⟩
def F.HLT_VMONn_MV (i : Nat) : Fld := ⟨Reg.HLT_VMONn i, 15, 0⟩
/-! ### Block 0x04 (EVR) -/

def Reg.EVR_CTL : Nat := 0x4000
def F.EVR_CTL_MAXSEV : Fld := ⟨Reg.EVR_CTL, 31, 28⟩
def F.EVR_CTL_IE_NOROOM : Fld := ⟨Reg.EVR_CTL, 3, 3⟩
def F.EVR_CTL_IE_QDROP : Fld := ⟨Reg.EVR_CTL, 2, 2⟩
def F.EVR_CTL_IE_SUPP : Fld := ⟨Reg.EVR_CTL, 1, 1⟩
def F.EVR_CTL_IE_CFG : Fld := ⟨Reg.EVR_CTL, 0, 0⟩
def Reg.EVR_STAT : Nat := 0x4004
def F.EVR_STAT_PARFLT : Fld := ⟨Reg.EVR_STAT, 5, 5⟩
def F.EVR_STAT_CFGREJ : Fld := ⟨Reg.EVR_STAT, 4, 4⟩
def F.EVR_STAT_NOROOM : Fld := ⟨Reg.EVR_STAT, 3, 3⟩
def F.EVR_STAT_QDROP : Fld := ⟨Reg.EVR_STAT, 2, 2⟩
def F.EVR_STAT_SUPP : Fld := ⟨Reg.EVR_STAT, 1, 1⟩
def F.EVR_STAT_FULL : Fld := ⟨Reg.EVR_STAT, 0, 0⟩
def Reg.EVR_SNAP : Nat := 0x4008
def F.EVR_SNAP_SNAP : Fld := ⟨Reg.EVR_SNAP, 0, 0⟩
def Reg.EVR_BADCFG : Nat := 0x400C
def F.EVR_BADCFG_CAUSE : Fld := ⟨Reg.EVR_BADCFG, 11, 8⟩
def F.EVR_BADCFG_BANK : Fld := ⟨Reg.EVR_BADCFG, 2, 0⟩
def Reg.EVR_FILL : Nat := 0x4010
def F.EVR_FILL_RECS : Fld := ⟨Reg.EVR_FILL, 17, 0⟩
def Reg.EVR_NOROOM : Nat := 0x4014
def F.EVR_NOROOM_CNT : Fld := ⟨Reg.EVR_NOROOM, 31, 0⟩
def Reg.EVR_QDROP : Nat := 0x4018
def F.EVR_QDROP_CNT : Fld := ⟨Reg.EVR_QDROP, 31, 0⟩
def Reg.EVR_SUPPCNT : Nat := 0x401C
def F.EVR_SUPPCNT_CNT : Fld := ⟨Reg.EVR_SUPPCNT, 31, 0⟩
def Reg.EVR_NEXTNUM_LO : Nat := 0x4020
def F.EVR_NEXTNUM_LO_NUM : Fld := ⟨Reg.EVR_NEXTNUM_LO, 31, 0⟩
def Reg.EVR_NEXTNUM_HI : Nat := 0x4024
def F.EVR_NEXTNUM_HI_NUM : Fld := ⟨Reg.EVR_NEXTNUM_HI, 15, 0⟩
def Reg.EVR_QUEUE : Nat := 0x4028
def F.EVR_QUEUE_PEAK : Fld := ⟨Reg.EVR_QUEUE, 31, 16⟩
def F.EVR_QUEUE_NOW : Fld := ⟨Reg.EVR_QUEUE, 15, 0⟩
def Reg.EVR_SWREC : Nat := 0x402C
def F.EVR_SWREC_RESULT : Fld := ⟨Reg.EVR_SWREC, 31, 30⟩
def F.EVR_SWREC_CLAMP : Fld := ⟨Reg.EVR_SWREC, 29, 29⟩
def F.EVR_SWREC_SEV : Fld := ⟨Reg.EVR_SWREC, 19, 16⟩
def F.EVR_SWREC_CODE : Fld := ⟨Reg.EVR_SWREC, 15, 0⟩
def Reg.EVR_SWPk_LO (i : Nat) : Nat := 0x4030 + 0x8 * (i % 3)
def F.EVR_SWPk_LO_P (i : Nat) : Fld := ⟨Reg.EVR_SWPk_LO i, 31, 0⟩
def Reg.EVR_SWPk_HI (i : Nat) : Nat := 0x4034 + 0x8 * (i % 3)
def F.EVR_SWPk_HI_P (i : Nat) : Fld := ⟨Reg.EVR_SWPk_HI i, 3, 0⟩
def Reg.EVR_RDPOS_LO : Nat := 0x4048
def F.EVR_RDPOS_LO_POS : Fld := ⟨Reg.EVR_RDPOS_LO, 31, 0⟩
def Reg.EVR_RDPOS_HI : Nat := 0x404C
def F.EVR_RDPOS_HI_POS : Fld := ⟨Reg.EVR_RDPOS_HI, 15, 0⟩
def Reg.EVR_RDCMD : Nat := 0x4050
def F.EVR_RDCMD_FETCH : Fld := ⟨Reg.EVR_RDCMD, 0, 0⟩
def Reg.EVR_RDSTAT : Nat := 0x4054
def F.EVR_RDSTAT_VALID : Fld := ⟨Reg.EVR_RDSTAT, 31, 31⟩
def F.EVR_RDSTAT_GAP : Fld := ⟨Reg.EVR_RDSTAT, 30, 30⟩
def F.EVR_RDSTAT_NONE : Fld := ⟨Reg.EVR_RDSTAT, 29, 29⟩
def Reg.EVR_RDNUM_LO : Nat := 0x4058
def F.EVR_RDNUM_LO_NUM : Fld := ⟨Reg.EVR_RDNUM_LO, 31, 0⟩
def Reg.EVR_RDNUM_HI : Nat := 0x405C
def F.EVR_RDNUM_HI_NUM : Fld := ⟨Reg.EVR_RDNUM_HI, 15, 0⟩
def Reg.EVR_RDWn (i : Nat) : Nat := 0x4060 + 0x4 * (i % 8)
def F.EVR_RDWn_W (i : Nat) : Fld := ⟨Reg.EVR_RDWn i, 31, 0⟩
def Reg.EVR_BKTs (i : Nat) : Nat := 0x40C0 + 0x4 * (i % 16)
def F.EVR_BKTs_DEPTH (i : Nat) : Fld := ⟨Reg.EVR_BKTs i, 31, 24⟩
def F.EVR_BKTs_PERIOD (i : Nat) : Fld := ⟨Reg.EVR_BKTs i, 15, 0⟩
/-! ### Block 0x05 (UPD) -/

def Reg.UPD_CTL : Nat := 0x5000
def F.UPD_CTL_IE_FALL : Fld := ⟨Reg.UPD_CTL, 3, 3⟩
def F.UPD_CTL_IE_DONE : Fld := ⟨Reg.UPD_CTL, 2, 2⟩
def F.UPD_CTL_IE_PROB : Fld := ⟨Reg.UPD_CTL, 1, 1⟩
def F.UPD_CTL_IE_CFG : Fld := ⟨Reg.UPD_CTL, 0, 0⟩
def Reg.UPD_STAT : Nat := 0x5004
def F.UPD_STAT_PARFLT : Fld := ⟨Reg.UPD_STAT, 5, 5⟩
def F.UPD_STAT_CFGREJ : Fld := ⟨Reg.UPD_STAT, 4, 4⟩
def F.UPD_STAT_MIGRATED : Fld := ⟨Reg.UPD_STAT, 3, 3⟩
def F.UPD_STAT_FELLBACK : Fld := ⟨Reg.UPD_STAT, 2, 2⟩
def F.UPD_STAT_DONE : Fld := ⟨Reg.UPD_STAT, 1, 1⟩
def F.UPD_STAT_PROBATION : Fld := ⟨Reg.UPD_STAT, 0, 0⟩
def Reg.UPD_BADCFG : Nat := 0x5008
def F.UPD_BADCFG_CAUSE : Fld := ⟨Reg.UPD_BADCFG, 11, 8⟩
def F.UPD_BADCFG_UNIT : Fld := ⟨Reg.UPD_BADCFG, 3, 0⟩
def Reg.UPD_PKGSTAT : Nat := 0x500C
def F.UPD_PKGSTAT_STATE : Fld := ⟨Reg.UPD_PKGSTAT, 31, 28⟩
def F.UPD_PKGSTAT_ITEM : Fld := ⟨Reg.UPD_PKGSTAT, 27, 24⟩
def F.UPD_PKGSTAT_STATUS : Fld := ⟨Reg.UPD_PKGSTAT, 15, 8⟩
def Reg.UPD_PKGID : Nat := 0x5010
def Reg.UPD_PKGVER : Nat := 0x5014
def Reg.UPD_CONFIRM : Nat := 0x5018
def F.UPD_CONFIRM_KEY : Fld := ⟨Reg.UPD_CONFIRM, 31, 16⟩
def F.UPD_CONFIRM_UNIT : Fld := ⟨Reg.UPD_CONFIRM, 3, 0⟩
def Reg.UPD_KEYSTAT : Nat := 0x501C
def F.UPD_KEYSTAT_REVOKED : Fld := ⟨Reg.UPD_KEYSTAT, 7, 4⟩
def F.UPD_KEYSTAT_PRESENT : Fld := ⟨Reg.UPD_KEYSTAT, 3, 0⟩
def Reg.UPD_STORE : Nat := 0x5020
def F.UPD_STORE_IMGFREE : Fld := ⟨Reg.UPD_STORE, 31, 16⟩
def F.UPD_STORE_BOOTFREE : Fld := ⟨Reg.UPD_STORE, 15, 0⟩
def Reg.UPD_BOOT : Nat := 0x5024
def F.UPD_BOOT_SLOT : Fld := ⟨Reg.UPD_BOOT, 31, 31⟩
def F.UPD_BOOT_MS : Fld := ⟨Reg.UPD_BOOT, 15, 0⟩
def Reg.UPD_ACCCNT : Nat := 0x5028
def F.UPD_ACCCNT_CNT : Fld := ⟨Reg.UPD_ACCCNT, 31, 0⟩
def Reg.UPD_REJCNT : Nat := 0x502C
def F.UPD_REJCNT_CNT : Fld := ⟨Reg.UPD_REJCNT, 31, 0⟩
def Reg.UPD_FALLCNT : Nat := 0x5030
def F.UPD_FALLCNT_CNT : Fld := ⟨Reg.UPD_FALLCNT, 31, 0⟩
def Reg.UPD_LASTERR : Nat := 0x5034
def F.UPD_LASTERR_UNIT : Fld := ⟨Reg.UPD_LASTERR, 31, 28⟩
def F.UPD_LASTERR_ITEM : Fld := ⟨Reg.UPD_LASTERR, 27, 24⟩
def F.UPD_LASTERR_STATUS : Fld := ⟨Reg.UPD_LASTERR, 23, 16⟩
def Reg.UPD_PROGRESS : Nat := 0x5038
def F.UPD_PROGRESS_DONE : Fld := ⟨Reg.UPD_PROGRESS, 31, 16⟩
def F.UPD_PROGRESS_TOTAL : Fld := ⟨Reg.UPD_PROGRESS, 15, 0⟩
def Reg.UPD_MIGCNT : Nat := 0x503C
def F.UPD_MIGCNT_CNT : Fld := ⟨Reg.UPD_MIGCNT, 31, 0⟩
def Reg.UPD_ITEMk (i : Nat) : Nat := 0x5040 + 0x4 * (i % 8)
def F.UPD_ITEMk_STATE (i : Nat) : Fld := ⟨Reg.UPD_ITEMk i, 31, 28⟩
def F.UPD_ITEMk_KIND (i : Nat) : Fld := ⟨Reg.UPD_ITEMk i, 27, 24⟩
def F.UPD_ITEMk_UNIT (i : Nat) : Fld := ⟨Reg.UPD_ITEMk i, 23, 16⟩
def F.UPD_ITEMk_ORDER (i : Nat) : Fld := ⟨Reg.UPD_ITEMk i, 15, 8⟩
def F.UPD_ITEMk_STATUS (i : Nat) : Fld := ⟨Reg.UPD_ITEMk i, 7, 0⟩
def Reg.UPD_Uu_STAT (i : Nat) : Nat := 0x5100 + 0x20 * (i % 9)
def F.UPD_Uu_STAT_ACT (i : Nat) : Fld := ⟨Reg.UPD_Uu_STAT i, 31, 31⟩
def F.UPD_Uu_STAT_STA (i : Nat) : Fld := ⟨Reg.UPD_Uu_STAT i, 30, 28⟩
def F.UPD_Uu_STAT_STB (i : Nat) : Fld := ⟨Reg.UPD_Uu_STAT i, 26, 24⟩
def F.UPD_Uu_STAT_PROB (i : Nat) : Fld := ⟨Reg.UPD_Uu_STAT i, 27, 27⟩
def Reg.UPD_Uu_VERA (i : Nat) : Nat := 0x5104 + 0x20 * (i % 9)
def F.UPD_Uu_VERA_VER (i : Nat) : Fld := ⟨Reg.UPD_Uu_VERA i, 31, 0⟩
def Reg.UPD_Uu_VERB (i : Nat) : Nat := 0x5108 + 0x20 * (i % 9)
def F.UPD_Uu_VERB_VER (i : Nat) : Fld := ⟨Reg.UPD_Uu_VERB i, 31, 0⟩
def Reg.UPD_Uu_ARB (i : Nat) : Nat := 0x510C + 0x20 * (i % 9)
def F.UPD_Uu_ARB_CNT (i : Nat) : Fld := ⟨Reg.UPD_Uu_ARB i, 31, 0⟩
def Reg.UPD_Uu_PROB (i : Nat) : Nat := 0x5110 + 0x20 * (i % 9)
def F.UPD_Uu_PROB_MS (i : Nat) : Fld := ⟨Reg.UPD_Uu_PROB i, 31, 0⟩
def Reg.UPD_Uu_FALLS (i : Nat) : Nat := 0x5114 + 0x20 * (i % 9)
def F.UPD_Uu_FALLS_CNT (i : Nat) : Fld := ⟨Reg.UPD_Uu_FALLS i, 31, 0⟩
def Reg.UPD_Uu_CFG (i : Nat) : Nat := 0x5118 + 0x20 * (i % 9)
def F.UPD_Uu_CFG_CFGVER (i : Nat) : Fld := ⟨Reg.UPD_Uu_CFG i, 31, 16⟩
def F.UPD_Uu_CFG_SEQ (i : Nat) : Fld := ⟨Reg.UPD_Uu_CFG i, 15, 0⟩
def Reg.UPD_Uu_OPSEC (i : Nat) : Nat := 0x511C + 0x20 * (i % 9)
def F.UPD_Uu_OPSEC_SEC (i : Nat) : Fld := ⟨Reg.UPD_Uu_OPSEC i, 31, 0⟩
/-! ### Block 0x06 (RNG) -/

def Reg.RNG_CTL : Nat := 0x6000
def F.RNG_CTL_IE_ERR : Fld := ⟨Reg.RNG_CTL, 0, 0⟩
def Reg.RNG_STAT : Nat := 0x6004
def F.RNG_STAT_PARFLT : Fld := ⟨Reg.RNG_STAT, 2, 2⟩
def F.RNG_STAT_DBREJ : Fld := ⟨Reg.RNG_STAT, 1, 1⟩
def F.RNG_STAT_CFGREJ : Fld := ⟨Reg.RNG_STAT, 0, 0⟩
def Reg.RNG_SNAP : Nat := 0x6008
def F.RNG_SNAP_SNAP : Fld := ⟨Reg.RNG_SNAP, 0, 0⟩
def Reg.RNG_BADQ : Nat := 0x600C
def F.RNG_BADQ_CAUSE : Fld := ⟨Reg.RNG_BADQ, 19, 16⟩
def F.RNG_BADQ_Q : Fld := ⟨Reg.RNG_BADQ, 6, 0⟩
def Reg.RNG_DELAYCNT_LO : Nat := 0x6010
def F.RNG_DELAYCNT_LO_CNT : Fld := ⟨Reg.RNG_DELAYCNT_LO, 31, 0⟩
def Reg.RNG_DELAYCNT_HI : Nat := 0x6014
def F.RNG_DELAYCNT_HI_CNT : Fld := ⟨Reg.RNG_DELAYCNT_HI, 31, 0⟩
def Reg.RNG_OVFCNT_LO : Nat := 0x6018
def F.RNG_OVFCNT_LO_CNT : Fld := ⟨Reg.RNG_OVFCNT_LO, 31, 0⟩
def Reg.RNG_OVFCNT_HI : Nat := 0x601C
def F.RNG_OVFCNT_HI_CNT : Fld := ⟨Reg.RNG_OVFCNT_HI, 31, 0⟩
def Reg.RNG_IEn (i : Nat) : Nat := 0x6020 + 0x4 * (i % 3)
def F.RNG_IEn_IE (i : Nat) : Fld := ⟨Reg.RNG_IEn i, 31, 0⟩
def Reg.RNG_IE3 : Nat := 0x602C
def F.RNG_IE3_IE : Fld := ⟨Reg.RNG_IE3, 15, 0⟩
def Reg.RNG_IPn (i : Nat) : Nat := 0x6030 + 0x4 * (i % 4)
def F.RNG_IPn_IP (i : Nat) : Fld := ⟨Reg.RNG_IPn i, 31, 0⟩
def Reg.RNG_ERRn (i : Nat) : Nat := 0x6040 + 0x4 * (i % 4)
def F.RNG_ERRn_ERR (i : Nat) : Fld := ⟨Reg.RNG_ERRn i, 31, 0⟩
def Reg.RNG_HALTn (i : Nat) : Nat := 0x6050 + 0x4 * (i % 4)
def F.RNG_HALTn_HALT (i : Nat) : Fld := ⟨Reg.RNG_HALTn i, 31, 0⟩
def Reg.RNG_CFULLn (i : Nat) : Nat := 0x6060 + 0x4 * (i % 4)
def F.RNG_CFULLn_CFULL (i : Nat) : Fld := ⟨Reg.RNG_CFULLn i, 31, 0⟩
def Reg.RNG_WAITn (i : Nat) : Nat := 0x6070 + 0x4 * (i % 4)
def F.RNG_WAITn_WAIT (i : Nat) : Fld := ⟨Reg.RNG_WAITn i, 31, 0⟩
def Reg.RNG_QnBASE (i : Nat) : Nat := 0x6400 + 0x10 * (i % 112)
def F.RNG_QnBASE_BASE (i : Nat) : Fld := ⟨Reg.RNG_QnBASE i, 29, 0⟩
def Reg.RNG_QnCFG (i : Nat) : Nat := 0x6404 + 0x10 * (i % 112)
def F.RNG_QnCFG_EN (i : Nat) : Fld := ⟨Reg.RNG_QnCFG i, 31, 31⟩
def F.RNG_QnCFG_KIND (i : Nat) : Fld := ⟨Reg.RNG_QnCFG i, 30, 30⟩
def F.RNG_QnCFG_LOG2N (i : Nat) : Fld := ⟨Reg.RNG_QnCFG i, 24, 20⟩
def F.RNG_QnCFG_DEST (i : Nat) : Fld := ⟨Reg.RNG_QnCFG i, 19, 16⟩
def F.RNG_QnCFG_CQ (i : Nat) : Fld := ⟨Reg.RNG_QnCFG i, 6, 0⟩
def Reg.RNG_QnDB (i : Nat) : Nat := 0x6408 + 0x10 * (i % 112)
def F.RNG_QnDB_IDX (i : Nat) : Fld := ⟨Reg.RNG_QnDB i, 15, 0⟩
def Reg.RNG_QnSTAT (i : Nat) : Nat := 0x640C + 0x10 * (i % 112)
def F.RNG_QnSTAT_PHASE (i : Nat) : Fld := ⟨Reg.RNG_QnSTAT i, 31, 31⟩
def F.RNG_QnSTAT_STATE (i : Nat) : Fld := ⟨Reg.RNG_QnSTAT i, 30, 29⟩
def F.RNG_QnSTAT_HEAD (i : Nat) : Fld := ⟨Reg.RNG_QnSTAT i, 15, 0⟩
/-! ### Block 0x07 (MBX) -/

def Reg.MBX_CTL : Nat := 0x7000
def F.MBX_CTL_TAKEIE : Fld := ⟨Reg.MBX_CTL, 7, 0⟩
def Reg.MBX_STAT : Nat := 0x7004
def F.MBX_STAT_PARFLT : Fld := ⟨Reg.MBX_STAT, 31, 31⟩
def F.MBX_STAT_CAUSE : Fld := ⟨Reg.MBX_STAT, 23, 20⟩
def F.MBX_STAT_AGENT : Fld := ⟨Reg.MBX_STAT, 19, 16⟩
def F.MBX_STAT_MBOX : Fld := ⟨Reg.MBX_STAT, 5, 0⟩
def Reg.MBX_FULL_LO : Nat := 0x7008
def F.MBX_FULL_LO_FULL : Fld := ⟨Reg.MBX_FULL_LO, 31, 0⟩
def Reg.MBX_FULL_HI : Nat := 0x700C
def F.MBX_FULL_HI_FULL : Fld := ⟨Reg.MBX_FULL_HI, 31, 0⟩
def Reg.MBX_ABT_LO : Nat := 0x7010
def F.MBX_ABT_LO_ABT : Fld := ⟨Reg.MBX_ABT_LO, 31, 0⟩
def Reg.MBX_ABT_HI : Nat := 0x7014
def F.MBX_ABT_HI_ABT : Fld := ⟨Reg.MBX_ABT_HI, 31, 0⟩
def Reg.MBX_REJCNT : Nat := 0x7018
def F.MBX_REJCNT_CNT : Fld := ⟨Reg.MBX_REJCNT, 31, 0⟩
def Reg.MBX_LOSTCNT : Nat := 0x701C
def F.MBX_LOSTCNT_CNT : Fld := ⟨Reg.MBX_LOSTCNT, 31, 0⟩
def Reg.MBX_MnLO (i : Nat) : Nat := 0x7100 + 0x10 * (i % 64)
def F.MBX_MnLO_PTRLO (i : Nat) : Fld := ⟨Reg.MBX_MnLO i, 31, 0⟩
def Reg.MBX_MnHI (i : Nat) : Nat := 0x7104 + 0x10 * (i % 64)
def F.MBX_MnHI_TAG (i : Nat) : Fld := ⟨Reg.MBX_MnHI i, 31, 28⟩
def F.MBX_MnHI_LEN (i : Nat) : Fld := ⟨Reg.MBX_MnHI i, 27, 16⟩
def F.MBX_MnHI_PTRHI (i : Nat) : Fld := ⟨Reg.MBX_MnHI i, 15, 0⟩
def Reg.MBX_MnSTAT (i : Nat) : Nat := 0x7108 + 0x10 * (i % 64)
def F.MBX_MnSTAT_FULL (i : Nat) : Fld := ⟨Reg.MBX_MnSTAT i, 31, 31⟩
def F.MBX_MnSTAT_IE (i : Nat) : Fld := ⟨Reg.MBX_MnSTAT i, 30, 30⟩
def F.MBX_MnSTAT_LAST (i : Nat) : Fld := ⟨Reg.MBX_MnSTAT i, 29, 28⟩
def F.MBX_MnSTAT_SRC (i : Nat) : Fld := ⟨Reg.MBX_MnSTAT i, 27, 24⟩
/-! ### Block 0x08 (ING) -/

def Reg.ING_CTL : Nat := 0x8000
def F.ING_CTL_IE_SUP : Fld := ⟨Reg.ING_CTL, 2, 2⟩
def F.ING_CTL_IE_REF : Fld := ⟨Reg.ING_CTL, 1, 1⟩
def F.ING_CTL_IE_GAP : Fld := ⟨Reg.ING_CTL, 0, 0⟩
def Reg.ING_STAT : Nat := 0x8004
def F.ING_STAT_PARFLT : Fld := ⟨Reg.ING_STAT, 6, 6⟩
def F.ING_STAT_CFGREJ : Fld := ⟨Reg.ING_STAT, 5, 5⟩
def F.ING_STAT_MIRDROP : Fld := ⟨Reg.ING_STAT, 4, 4⟩
def F.ING_STAT_SUPFLT : Fld := ⟨Reg.ING_STAT, 3, 3⟩
def F.ING_STAT_REFMOVE : Fld := ⟨Reg.ING_STAT, 2, 2⟩
def F.ING_STAT_REFDRIFT : Fld := ⟨Reg.ING_STAT, 1, 1⟩
def F.ING_STAT_GAP : Fld := ⟨Reg.ING_STAT, 0, 0⟩
def Reg.ING_SNAP : Nat := 0x8008
def F.ING_SNAP_SNAP : Fld := ⟨Reg.ING_SNAP, 0, 0⟩
def Reg.ING_REFSTAT : Nat := 0x800C
def F.ING_REFSTAT_UNRES : Fld := ⟨Reg.ING_REFSTAT, 3, 3⟩
def F.ING_REFSTAT_DRIFT : Fld := ⟨Reg.ING_REFSTAT, 2, 2⟩
def F.ING_REFSTAT_BOUT : Fld := ⟨Reg.ING_REFSTAT, 1, 1⟩
def F.ING_REFSTAT_AOUT : Fld := ⟨Reg.ING_REFSTAT, 0, 0⟩
def Reg.ING_REFDEV_AB : Nat := 0x8010
def F.ING_REFDEV_AB_DEV : Fld := ⟨Reg.ING_REFDEV_AB, 15, 0⟩
def Reg.ING_REFDEV_A : Nat := 0x8014
def F.ING_REFDEV_A_DEV : Fld := ⟨Reg.ING_REFDEV_A, 15, 0⟩
def Reg.ING_REFDEV_B : Nat := 0x8018
def F.ING_REFDEV_B_DEV : Fld := ⟨Reg.ING_REFDEV_B, 15, 0⟩
def Reg.ING_MIRCFG : Nat := 0x801C
def F.ING_MIRCFG_EN : Fld := ⟨Reg.ING_MIRCFG, 31, 31⟩
def F.ING_MIRCFG_LOG2F : Fld := ⟨Reg.ING_MIRCFG, 24, 20⟩
def Reg.ING_MIRBASE : Nat := 0x8020
def F.ING_MIRBASE_BASE : Fld := ⟨Reg.ING_MIRBASE, 30, 0⟩
def Reg.ING_MIRPOS : Nat := 0x8024
def F.ING_MIRPOS_POS : Fld := ⟨Reg.ING_MIRPOS, 31, 0⟩
def Reg.ING_MIRDROP : Nat := 0x8028
def F.ING_MIRDROP_CNT : Fld := ⟨Reg.ING_MIRDROP, 31, 0⟩
def Reg.ING_GAPSTR : Nat := 0x802C
def F.ING_GAPSTR_VALID : Fld := ⟨Reg.ING_GAPSTR, 31, 31⟩
def F.ING_GAPSTR_STREAM : Fld := ⟨Reg.ING_GAPSTR, 6, 0⟩
def Reg.ING_TRAYCNT_LO : Nat := 0x8030
def F.ING_TRAYCNT_LO_CNT : Fld := ⟨Reg.ING_TRAYCNT_LO, 31, 0⟩
def Reg.ING_TRAYCNT_HI : Nat := 0x8034
def F.ING_TRAYCNT_HI_CNT : Fld := ⟨Reg.ING_TRAYCNT_HI, 31, 0⟩
def Reg.ING_HITn (i : Nat) : Nat := 0x8038 + 0x4 * (i % 8)
def F.ING_HITn_HITS (i : Nat) : Fld := ⟨Reg.ING_HITn i, 31, 0⟩
def Reg.ING_DEGMAP_LO : Nat := 0x8058
def F.ING_DEGMAP_LO_DEG : Fld := ⟨Reg.ING_DEGMAP_LO, 31, 0⟩
def Reg.ING_DEGMAP_HI : Nat := 0x805C
def F.ING_DEGMAP_HI_DEG : Fld := ⟨Reg.ING_DEGMAP_HI, 15, 0⟩
def Reg.ING_ACHn_CFG (i : Nat) : Nat := 0x8100 + 0x4 * (i % 48)
def F.ING_ACHn_CFG_EN (i : Nat) : Fld := ⟨Reg.ING_ACHn_CFG i, 31, 31⟩
def F.ING_ACHn_CFG_REF (i : Nat) : Fld := ⟨Reg.ING_ACHn_CFG i, 30, 30⟩
def F.ING_ACHn_CFG_RANGE (i : Nat) : Fld := ⟨Reg.ING_ACHn_CFG i, 29, 27⟩
def F.ING_ACHn_CFG_SUP (i : Nat) : Fld := ⟨Reg.ING_ACHn_CFG i, 26, 24⟩
def F.ING_ACHn_CFG_RATE (i : Nat) : Fld := ⟨Reg.ING_ACHn_CFG i, 23, 21⟩
def F.ING_ACHn_CFG_FILT (i : Nat) : Fld := ⟨Reg.ING_ACHn_CFG i, 20, 19⟩
def F.ING_ACHn_CFG_FPAR (i : Nat) : Fld := ⟨Reg.ING_ACHn_CFG i, 18, 16⟩
def F.ING_ACHn_CFG_EMIN (i : Nat) : Fld := ⟨Reg.ING_ACHn_CFG i, 7, 0⟩
def Reg.ING_ACCn_CFG (i : Nat) : Nat := 0x81C0 + 0x4 * (i % 8)
def F.ING_ACCn_CFG_EN (i : Nat) : Fld := ⟨Reg.ING_ACCn_CFG i, 31, 31⟩
def F.ING_ACCn_CFG_RAW (i : Nat) : Fld := ⟨Reg.ING_ACCn_CFG i, 30, 30⟩
def F.ING_ACCn_CFG_BPLO (i : Nat) : Fld := ⟨Reg.ING_ACCn_CFG i, 29, 25⟩
def F.ING_ACCn_CFG_BPHI (i : Nat) : Fld := ⟨Reg.ING_ACCn_CFG i, 24, 20⟩
def F.ING_ACCn_CFG_DEAD (i : Nat) : Fld := ⟨Reg.ING_ACCn_CFG i, 19, 12⟩
def F.ING_ACCn_CFG_RPT (i : Nat) : Fld := ⟨Reg.ING_ACCn_CFG i, 11, 8⟩
def F.ING_ACCn_CFG_EMIN (i : Nat) : Fld := ⟨Reg.ING_ACCn_CFG i, 7, 0⟩
def Reg.ING_ACCn_THR (i : Nat) : Nat := 0x81E0 + 0x4 * (i % 8)
def F.ING_ACCn_THR_HIGH (i : Nat) : Fld := ⟨Reg.ING_ACCn_THR i, 31, 16⟩
def F.ING_ACCn_THR_LOW (i : Nat) : Fld := ⟨Reg.ING_ACCn_THR i, 15, 0⟩
def Reg.ING_FQn_CFG (i : Nat) : Nat := 0x8200 + 0x4 * (i % 32)
def F.ING_FQn_CFG_EN (i : Nat) : Fld := ⟨Reg.ING_FQn_CFG i, 31, 31⟩
def F.ING_FQn_CFG_MODE (i : Nat) : Fld := ⟨Reg.ING_FQn_CFG i, 30, 29⟩
def F.ING_FQn_CFG_INTYPE (i : Nat) : Fld := ⟨Reg.ING_FQn_CFG i, 28, 28⟩
def F.ING_FQn_CFG_PULLUP (i : Nat) : Fld := ⟨Reg.ING_FQn_CFG i, 27, 27⟩
def F.ING_FQn_CFG_RATE (i : Nat) : Fld := ⟨Reg.ING_FQn_CFG i, 26, 24⟩
def F.ING_FQn_CFG_TMO (i : Nat) : Fld := ⟨Reg.ING_FQn_CFG i, 23, 16⟩
def F.ING_FQn_CFG_DIV (i : Nat) : Fld := ⟨Reg.ING_FQn_CFG i, 15, 8⟩
def F.ING_FQn_CFG_EMIN (i : Nat) : Fld := ⟨Reg.ING_FQn_CFG i, 7, 0⟩
def Reg.ING_SUPn_CFG (i : Nat) : Nat := 0x8280 + 0x4 * (i % 8)
def F.ING_SUPn_CFG_EN (i : Nat) : Fld := ⟨Reg.ING_SUPn_CFG i, 31, 31⟩
def F.ING_SUPn_CFG_VOLT (i : Nat) : Fld := ⟨Reg.ING_SUPn_CFG i, 30, 29⟩
def F.ING_SUPn_CFG_RETRY (i : Nat) : Fld := ⟨Reg.ING_SUPn_CFG i, 28, 28⟩
def Reg.ING_SUPn_STAT (i : Nat) : Nat := 0x82A0 + 0x4 * (i % 8)
def F.ING_SUPn_STAT_ON (i : Nat) : Fld := ⟨Reg.ING_SUPn_STAT i, 31, 31⟩
def F.ING_SUPn_STAT_FAULT (i : Nat) : Fld := ⟨Reg.ING_SUPn_STAT i, 30, 29⟩
def F.ING_SUPn_STAT_MA (i : Nat) : Fld := ⟨Reg.ING_SUPn_STAT i, 15, 0⟩
def Reg.ING_STRn_CFG (i : Nat) : Nat := 0x8400 + 0x4 * (i % 112)
def F.ING_STRn_CFG_EN (i : Nat) : Fld := ⟨Reg.ING_STRn_CFG i, 31, 31⟩
def F.ING_STRn_CFG_MIR (i : Nat) : Fld := ⟨Reg.ING_STRn_CFG i, 30, 30⟩
def F.ING_STRn_CFG_LOG2F (i : Nat) : Fld := ⟨Reg.ING_STRn_CFG i, 29, 26⟩
def F.ING_STRn_CFG_FLUSH (i : Nat) : Fld := ⟨Reg.ING_STRn_CFG i, 23, 16⟩
def F.ING_STRn_CFG_BASE (i : Nat) : Fld := ⟨Reg.ING_STRn_CFG i, 15, 0⟩
def Reg.ING_STRn_WPOS (i : Nat) : Nat := 0x8600 + 0x4 * (i % 112)
def F.ING_STRn_WPOS_WPOS (i : Nat) : Fld := ⟨Reg.ING_STRn_WPOS i, 31, 0⟩
/-! ### Block 0x09 (TRL) -/

def Reg.TRL_CTL : Nat := 0x9000
def F.TRL_CTL_IE_POIS : Fld := ⟨Reg.TRL_CTL, 3, 3⟩
def F.TRL_CTL_IE_TRIP : Fld := ⟨Reg.TRL_CTL, 2, 2⟩
def F.TRL_CTL_IE_CFG : Fld := ⟨Reg.TRL_CTL, 1, 1⟩
def F.TRL_CTL_IE_SKIP : Fld := ⟨Reg.TRL_CTL, 0, 0⟩
def Reg.TRL_STAT : Nat := 0x9004
def F.TRL_STAT_PARFLT : Fld := ⟨Reg.TRL_STAT, 6, 6⟩
def F.TRL_STAT_PMERR : Fld := ⟨Reg.TRL_STAT, 5, 5⟩
def F.TRL_STAT_CFGREJ : Fld := ⟨Reg.TRL_STAT, 4, 4⟩
def F.TRL_STAT_SKIP : Fld := ⟨Reg.TRL_STAT, 3, 3⟩
def F.TRL_STAT_ASAT : Fld := ⟨Reg.TRL_STAT, 2, 2⟩
def F.TRL_STAT_POISON : Fld := ⟨Reg.TRL_STAT, 1, 1⟩
def F.TRL_STAT_TRIP : Fld := ⟨Reg.TRL_STAT, 0, 0⟩
def Reg.TRL_SNAP : Nat := 0x9008
def F.TRL_SNAP_SNAP : Fld := ⟨Reg.TRL_SNAP, 0, 0⟩
def Reg.TRL_BADCFG : Nat := 0x900C
def F.TRL_BADCFG_CAUSE : Fld := ⟨Reg.TRL_BADCFG, 11, 8⟩
def F.TRL_BADCFG_LOOP : Fld := ⟨Reg.TRL_BADCFG, 5, 0⟩
def Reg.TRL_SPBASEA : Nat := 0x9010
def F.TRL_SPBASEA_OFF : Fld := ⟨Reg.TRL_SPBASEA, 12, 0⟩
def Reg.TRL_SPBASEB : Nat := 0x9014
def F.TRL_SPBASEB_OFF : Fld := ⟨Reg.TRL_SPBASEB, 12, 0⟩
def Reg.TRL_SPSRC : Nat := 0x9018
def F.TRL_SPSRC_DALE : Fld := ⟨Reg.TRL_SPSRC, 31, 31⟩
def F.TRL_SPSRC_SWITCHES : Fld := ⟨Reg.TRL_SPSRC, 15, 0⟩
def Reg.TRL_OUTBASE : Nat := 0x901C
def F.TRL_OUTBASE_EN : Fld := ⟨Reg.TRL_OUTBASE, 31, 31⟩
def F.TRL_OUTBASE_OFF : Fld := ⟨Reg.TRL_OUTBASE, 12, 0⟩
def Reg.TRL_GDOFF : Nat := 0x9020
def F.TRL_GDOFF_EN : Fld := ⟨Reg.TRL_GDOFF, 31, 31⟩
def F.TRL_GDOFF_OFF : Fld := ⟨Reg.TRL_GDOFF, 14, 0⟩
def Reg.TRL_FCOFF : Nat := 0x9024
def F.TRL_FCOFF_EN : Fld := ⟨Reg.TRL_FCOFF, 31, 31⟩
def F.TRL_FCOFF_OFF : Fld := ⟨Reg.TRL_FCOFF, 12, 0⟩
def Reg.TRL_ENMAP_LO : Nat := 0x9028
def F.TRL_ENMAP_LO_MAP : Fld := ⟨Reg.TRL_ENMAP_LO, 31, 0⟩
def Reg.TRL_ENMAP_HI : Nat := 0x902C
def F.TRL_ENMAP_HI_MAP : Fld := ⟨Reg.TRL_ENMAP_HI, 31, 0⟩
def Reg.TRL_ALMMAP_LO : Nat := 0x9030
def F.TRL_ALMMAP_LO_MAP : Fld := ⟨Reg.TRL_ALMMAP_LO, 31, 0⟩
def Reg.TRL_ALMMAP_HI : Nat := 0x9034
def F.TRL_ALMMAP_HI_MAP : Fld := ⟨Reg.TRL_ALMMAP_HI, 31, 0⟩
def Reg.TRL_HOLDMAP_LO : Nat := 0x9038
def F.TRL_HOLDMAP_LO_MAP : Fld := ⟨Reg.TRL_HOLDMAP_LO, 31, 0⟩
def Reg.TRL_HOLDMAP_HI : Nat := 0x903C
def F.TRL_HOLDMAP_HI_MAP : Fld := ⟨Reg.TRL_HOLDMAP_HI, 31, 0⟩
def Reg.TRL_TRIPMAP_LO : Nat := 0x9040
def F.TRL_TRIPMAP_LO_MAP : Fld := ⟨Reg.TRL_TRIPMAP_LO, 31, 0⟩
def Reg.TRL_TRIPMAP_HI : Nat := 0x9044
def F.TRL_TRIPMAP_HI_MAP : Fld := ⟨Reg.TRL_TRIPMAP_HI, 31, 0⟩
def Reg.TRL_SAMPCNT_LO : Nat := 0x9048
def F.TRL_SAMPCNT_LO_CNT : Fld := ⟨Reg.TRL_SAMPCNT_LO, 31, 0⟩
def Reg.TRL_SAMPCNT_HI : Nat := 0x904C
def F.TRL_SAMPCNT_HI_CNT : Fld := ⟨Reg.TRL_SAMPCNT_HI, 31, 0⟩
def Reg.TRL_SKIPCNT_LO : Nat := 0x9050
def F.TRL_SKIPCNT_LO_CNT : Fld := ⟨Reg.TRL_SKIPCNT_LO, 31, 0⟩
def Reg.TRL_SKIPCNT_HI : Nat := 0x9054
def F.TRL_SKIPCNT_HI_CNT : Fld := ⟨Reg.TRL_SKIPCNT_HI, 31, 0⟩
def Reg.TRL_POISCNT : Nat := 0x9058
def F.TRL_POISCNT_CNT : Fld := ⟨Reg.TRL_POISCNT, 31, 0⟩
def Reg.TRL_TORNCNT : Nat := 0x905C
def F.TRL_TORNCNT_CNT : Fld := ⟨Reg.TRL_TORNCNT, 31, 0⟩
def Reg.TRL_ASATCNT : Nat := 0x9060
def F.TRL_ASATCNT_CNT : Fld := ⟨Reg.TRL_ASATCNT, 31, 0⟩
def Reg.TRL_MAXLAT : Nat := 0x9064
def F.TRL_MAXLAT_PEAK : Fld := ⟨Reg.TRL_MAXLAT, 31, 16⟩
def F.TRL_MAXLAT_LOOP : Fld := ⟨Reg.TRL_MAXLAT, 5, 0⟩
def Reg.TRL_LOAD : Nat := 0x9068
def F.TRL_LOAD_PEAK : Fld := ⟨Reg.TRL_LOAD, 31, 16⟩
def F.TRL_LOAD_LAST : Fld := ⟨Reg.TRL_LOAD, 15, 0⟩
def Reg.TRL_LOOPS : Nat := 0x906C
def F.TRL_LOOPS_N : Fld := ⟨Reg.TRL_LOOPS, 7, 0⟩
def Reg.TRL_SWCNT : Nat := 0x9070
def F.TRL_SWCNT_CNT : Fld := ⟨Reg.TRL_SWCNT, 31, 0⟩
def Reg.TRL_SEQVER : Nat := 0x9074
def F.TRL_SEQVER_VER : Fld := ⟨Reg.TRL_SEQVER, 31, 0⟩
def Reg.TRL_PMERR : Nat := 0x9078
def F.TRL_PMERR_CNT : Fld := ⟨Reg.TRL_PMERR, 31, 16⟩
def F.TRL_PMERR_UNC : Fld := ⟨Reg.TRL_PMERR, 15, 15⟩
def F.TRL_PMERR_LOOP : Fld := ⟨Reg.TRL_PMERR, 5, 0⟩
def Reg.TRL_FCAGE : Nat := 0x907C
def F.TRL_FCAGE_PEAK : Fld := ⟨Reg.TRL_FCAGE, 31, 16⟩
def F.TRL_FCAGE_LAST : Fld := ⟨Reg.TRL_FCAGE, 15, 0⟩
def Reg.TRL_Ln_CTL (i : Nat) : Nat := 0x9800 + 0x20 * (i % 64)
def F.TRL_Ln_CTL_EN (i : Nat) : Fld := ⟨Reg.TRL_Ln_CTL i, 31, 31⟩
def F.TRL_Ln_CTL_MODE (i : Nat) : Fld := ⟨Reg.TRL_Ln_CTL i, 30, 28⟩
def F.TRL_Ln_CTL_LOGEN (i : Nat) : Fld := ⟨Reg.TRL_Ln_CTL i, 27, 27⟩
def F.TRL_Ln_CTL_LOGR (i : Nat) : Fld := ⟨Reg.TRL_Ln_CTL i, 26, 24⟩
def F.TRL_Ln_CTL_LOGDEC (i : Nat) : Fld := ⟨Reg.TRL_Ln_CTL i, 23, 20⟩
def F.TRL_Ln_CTL_PERIOD (i : Nat) : Fld := ⟨Reg.TRL_Ln_CTL i, 19, 0⟩
def Reg.TRL_Ln_PHASE (i : Nat) : Nat := 0x9804 + 0x20 * (i % 64)
def F.TRL_Ln_PHASE_PHASE (i : Nat) : Fld := ⟨Reg.TRL_Ln_PHASE i, 19, 0⟩
def Reg.TRL_Ln_STAT (i : Nat) : Nat := 0x9808 + 0x20 * (i % 64)
def F.TRL_Ln_STAT_STATE (i : Nat) : Fld := ⟨Reg.TRL_Ln_STAT i, 31, 29⟩
def F.TRL_Ln_STAT_PARVALID (i : Nat) : Fld := ⟨Reg.TRL_Ln_STAT i, 28, 28⟩
def F.TRL_Ln_STAT_FLAGS (i : Nat) : Fld := ⟨Reg.TRL_Ln_STAT i, 15, 0⟩
def Reg.TRL_Ln_SP (i : Nat) : Nat := 0x980C + 0x20 * (i % 64)
def F.TRL_Ln_SP_VAL (i : Nat) : Fld := ⟨Reg.TRL_Ln_SP i, 31, 0⟩
def Reg.TRL_Ln_OUT (i : Nat) : Nat := 0x9810 + 0x20 * (i % 64)
def F.TRL_Ln_OUT_VAL (i : Nat) : Fld := ⟨Reg.TRL_Ln_OUT i, 31, 0⟩
def Reg.TRL_Ln_MEAS (i : Nat) : Nat := 0x9814 + 0x20 * (i % 64)
def F.TRL_Ln_MEAS_VAL (i : Nat) : Fld := ⟨Reg.TRL_Ln_MEAS i, 31, 0⟩
def Reg.TRL_Ln_LAT (i : Nat) : Nat := 0x9818 + 0x20 * (i % 64)
def F.TRL_Ln_LAT_PEAK (i : Nat) : Fld := ⟨Reg.TRL_Ln_LAT i, 31, 16⟩
def F.TRL_Ln_LAT_LAST (i : Nat) : Fld := ⟨Reg.TRL_Ln_LAT i, 15, 0⟩
/-! ### Block 0x0A (FUR) -/

def Reg.FUR_CTL : Nat := 0xA000
def F.FUR_CTL_FAULTMAX : Fld := ⟨Reg.FUR_CTL, 31, 24⟩
def F.FUR_CTL_IE_POIS : Fld := ⟨Reg.FUR_CTL, 4, 4⟩
def F.FUR_CTL_IE_SUBST : Fld := ⟨Reg.FUR_CTL, 3, 3⟩
def F.FUR_CTL_IE_HALT : Fld := ⟨Reg.FUR_CTL, 2, 2⟩
def F.FUR_CTL_IE_FAULT : Fld := ⟨Reg.FUR_CTL, 1, 1⟩
def F.FUR_CTL_IE_OVR : Fld := ⟨Reg.FUR_CTL, 0, 0⟩
def Reg.FUR_STAT : Nat := 0xA004
def F.FUR_STAT_PARFLT : Fld := ⟨Reg.FUR_STAT, 8, 8⟩
def F.FUR_STAT_CFGREJ : Fld := ⟨Reg.FUR_STAT, 7, 7⟩
def F.FUR_STAT_PMERR : Fld := ⟨Reg.FUR_STAT, 6, 6⟩
def F.FUR_STAT_POISON : Fld := ⟨Reg.FUR_STAT, 5, 5⟩
def F.FUR_STAT_OUTREJ : Fld := ⟨Reg.FUR_STAT, 4, 4⟩
def F.FUR_STAT_SUBST : Fld := ⟨Reg.FUR_STAT, 3, 3⟩
def F.FUR_STAT_HALT : Fld := ⟨Reg.FUR_STAT, 2, 2⟩
def F.FUR_STAT_FAULT : Fld := ⟨Reg.FUR_STAT, 1, 1⟩
def F.FUR_STAT_OVERRUN : Fld := ⟨Reg.FUR_STAT, 0, 0⟩
def Reg.FUR_SNAP : Nat := 0xA008
def F.FUR_SNAP_SNAP : Fld := ⟨Reg.FUR_SNAP, 0, 0⟩
def Reg.FUR_RUN : Nat := 0xA00C
def F.FUR_RUN_EN : Fld := ⟨Reg.FUR_RUN, 31, 31⟩
def F.FUR_RUN_CYCLE : Fld := ⟨Reg.FUR_RUN, 17, 0⟩
def Reg.FUR_OFFSET : Nat := 0xA010
def F.FUR_OFFSET_OFFSET : Fld := ⟨Reg.FUR_OFFSET, 17, 0⟩
def Reg.FUR_STATE : Nat := 0xA014
def F.FUR_STATE_STATE : Fld := ⟨Reg.FUR_STATE, 31, 30⟩
def F.FUR_STATE_BANK : Fld := ⟨Reg.FUR_STATE, 29, 29⟩
def F.FUR_STATE_LOADED : Fld := ⟨Reg.FUR_STATE, 28, 28⟩
def F.FUR_STATE_CHGPEND : Fld := ⟨Reg.FUR_STATE, 22, 16⟩
def Reg.FUR_PROGID : Nat := 0xA018
def Reg.FUR_PROGVER : Nat := 0xA01C
def Reg.FUR_SCANSEQ : Nat := 0xA020
def F.FUR_SCANSEQ_SEQ : Fld := ⟨Reg.FUR_SCANSEQ, 31, 0⟩
def Reg.FUR_SCANTIME : Nat := 0xA024
def F.FUR_SCANTIME_PEAK : Fld := ⟨Reg.FUR_SCANTIME, 31, 16⟩
def F.FUR_SCANTIME_LAST : Fld := ⟨Reg.FUR_SCANTIME, 15, 0⟩
def Reg.FUR_FAULT : Nat := 0xA028
def F.FUR_FAULT_CAUSE : Fld := ⟨Reg.FUR_FAULT, 31, 28⟩
def F.FUR_FAULT_REMAIN : Fld := ⟨Reg.FUR_FAULT, 16, 0⟩
def Reg.FUR_FAULTADDR : Nat := 0xA02C
def F.FUR_FAULTADDR_ADDR : Fld := ⟨Reg.FUR_FAULTADDR, 15, 0⟩
def Reg.FUR_FAULTRUN : Nat := 0xA030
def F.FUR_FAULTRUN_RUN : Fld := ⟨Reg.FUR_FAULTRUN, 31, 24⟩
def F.FUR_FAULTRUN_X : Fld := ⟨Reg.FUR_FAULTRUN, 23, 0⟩
def Reg.FUR_CMDBASEA : Nat := 0xA034
def F.FUR_CMDBASEA_EN : Fld := ⟨Reg.FUR_CMDBASEA, 31, 31⟩
def F.FUR_CMDBASEA_OFF : Fld := ⟨Reg.FUR_CMDBASEA, 14, 0⟩
def Reg.FUR_CMDBASEB : Nat := 0xA038
def F.FUR_CMDBASEB_EN : Fld := ⟨Reg.FUR_CMDBASEB, 31, 31⟩
def F.FUR_CMDBASEB_OFF : Fld := ⟨Reg.FUR_CMDBASEB, 14, 0⟩
def Reg.FUR_STATBASE : Nat := 0xA03C
def F.FUR_STATBASE_EN : Fld := ⟨Reg.FUR_STATBASE, 31, 31⟩
def F.FUR_STATBASE_OFF : Fld := ⟨Reg.FUR_STATBASE, 10, 0⟩
def Reg.FUR_SCANCNT_LO : Nat := 0xA040
def F.FUR_SCANCNT_LO_CNT : Fld := ⟨Reg.FUR_SCANCNT_LO, 31, 0⟩
def Reg.FUR_SCANCNT_HI : Nat := 0xA044
def F.FUR_SCANCNT_HI_CNT : Fld := ⟨Reg.FUR_SCANCNT_HI, 31, 0⟩
def Reg.FUR_OVRCNT_LO : Nat := 0xA048
def F.FUR_OVRCNT_LO_CNT : Fld := ⟨Reg.FUR_OVRCNT_LO, 31, 0⟩
def Reg.FUR_OVRCNT_HI : Nat := 0xA04C
def F.FUR_OVRCNT_HI_CNT : Fld := ⟨Reg.FUR_OVRCNT_HI, 31, 0⟩
def Reg.FUR_ABRTCNT : Nat := 0xA050
def F.FUR_ABRTCNT_CNT : Fld := ⟨Reg.FUR_ABRTCNT, 31, 0⟩
def Reg.FUR_CHGCNT : Nat := 0xA054
def F.FUR_CHGCNT_CNT : Fld := ⟨Reg.FUR_CHGCNT, 31, 0⟩
def Reg.FUR_BADCFG : Nat := 0xA058
def F.FUR_BADCFG_CAUSE : Fld := ⟨Reg.FUR_BADCFG, 11, 8⟩
def Reg.FUR_CMDSRC : Nat := 0xA05C
def F.FUR_CMDSRC_DALE : Fld := ⟨Reg.FUR_CMDSRC, 31, 31⟩
def F.FUR_CMDSRC_TORN : Fld := ⟨Reg.FUR_CMDSRC, 30, 16⟩
def F.FUR_CMDSRC_SWITCHES : Fld := ⟨Reg.FUR_CMDSRC, 15, 0⟩
def Reg.FUR_MAPCNT : Nat := 0xA060
def F.FUR_MAPCNT_OUT : Fld := ⟨Reg.FUR_MAPCNT, 26, 16⟩
def F.FUR_MAPCNT_IN : Fld := ⟨Reg.FUR_MAPCNT, 10, 0⟩
def Reg.FUR_POISCNT : Nat := 0xA064
def F.FUR_POISCNT_CNT : Fld := ⟨Reg.FUR_POISCNT, 31, 0⟩
def Reg.FUR_LOAD : Nat := 0xA068
def F.FUR_LOAD_PEAK : Fld := ⟨Reg.FUR_LOAD, 31, 16⟩
def F.FUR_LOAD_LAST : Fld := ⟨Reg.FUR_LOAD, 15, 0⟩
def Reg.FUR_PMERR : Nat := 0xA06C
def F.FUR_PMERR_CNT : Fld := ⟨Reg.FUR_PMERR, 31, 16⟩
def F.FUR_PMERR_ADDR : Fld := ⟨Reg.FUR_PMERR, 15, 0⟩
def Reg.FUR_SUBSTMAPn (i : Nat) : Nat := 0xA100 + 0x4 * (i % 32)
def F.FUR_SUBSTMAPn_MAP (i : Nat) : Fld := ⟨Reg.FUR_SUBSTMAPn i, 31, 0⟩
def Reg.FUR_OUTREJn (i : Nat) : Nat := 0xA180 + 0x4 * (i % 32)
def F.FUR_OUTREJn_MAP (i : Nat) : Fld := ⟨Reg.FUR_OUTREJn i, 31, 0⟩
def Reg.FUR_WATCHn_SEL (i : Nat) : Nat := 0xA200 + 0x8 * (i % 16)
def F.FUR_WATCHn_SEL_EN (i : Nat) : Fld := ⟨Reg.FUR_WATCHn_SEL i, 31, 31⟩
def F.FUR_WATCHn_SEL_AREA (i : Nat) : Fld := ⟨Reg.FUR_WATCHn_SEL i, 30, 28⟩
def F.FUR_WATCHn_SEL_INDEX (i : Nat) : Fld := ⟨Reg.FUR_WATCHn_SEL i, 12, 0⟩
def Reg.FUR_WATCHn_VAL (i : Nat) : Nat := 0xA204 + 0x8 * (i % 16)
def F.FUR_WATCHn_VAL_VAL (i : Nat) : Fld := ⟨Reg.FUR_WATCHn_VAL i, 31, 0⟩
def Reg.FUR_HISTn (i : Nat) : Nat := 0xA280 + 0x4 * (i % 16)
def F.FUR_HISTn_CNT (i : Nat) : Fld := ⟨Reg.FUR_HISTn i, 31, 0⟩
/-! ### Block 0x0B (VLV) -/

def Reg.VLV_CTL : Nat := 0xB000
def F.VLV_CTL_IE_FSAFE : Fld := ⟨Reg.VLV_CTL, 4, 4⟩
def F.VLV_CTL_IE_BANK : Fld := ⟨Reg.VLV_CTL, 3, 3⟩
def F.VLV_CTL_IE_CHFLT : Fld := ⟨Reg.VLV_CTL, 2, 2⟩
def F.VLV_CTL_IE_DUTY : Fld := ⟨Reg.VLV_CTL, 1, 1⟩
def F.VLV_CTL_IE_CFG : Fld := ⟨Reg.VLV_CTL, 0, 0⟩
def Reg.VLV_STAT : Nat := 0xB004
def F.VLV_STAT_PARFLT : Fld := ⟨Reg.VLV_STAT, 7, 7⟩
def F.VLV_STAT_CFGREJ : Fld := ⟨Reg.VLV_STAT, 6, 6⟩
def F.VLV_STAT_WEARSAT : Fld := ⟨Reg.VLV_STAT, 5, 5⟩
def F.VLV_STAT_FSAFE : Fld := ⟨Reg.VLV_STAT, 4, 4⟩
def F.VLV_STAT_BANKFLT : Fld := ⟨Reg.VLV_STAT, 3, 3⟩
def F.VLV_STAT_CHFLT : Fld := ⟨Reg.VLV_STAT, 2, 2⟩
def F.VLV_STAT_DUTYLIM : Fld := ⟨Reg.VLV_STAT, 1, 1⟩
def F.VLV_STAT_NOMOVE : Fld := ⟨Reg.VLV_STAT, 0, 0⟩
def Reg.VLV_SNAP : Nat := 0xB008
def F.VLV_SNAP_SNAP : Fld := ⟨Reg.VLV_SNAP, 0, 0⟩
def Reg.VLV_BADCFG : Nat := 0xB00C
def F.VLV_BADCFG_CAUSE : Fld := ⟨Reg.VLV_BADCFG, 11, 8⟩
def F.VLV_BADCFG_CH : Fld := ⟨Reg.VLV_BADCFG, 5, 0⟩
def Reg.VLV_WDCFG : Nat := 0xB010
def F.VLV_WDCFG_PERIOD : Fld := ⟨Reg.VLV_WDCFG, 7, 0⟩
def Reg.VLV_LATECNT : Nat := 0xB014
def F.VLV_LATECNT_CNT : Fld := ⟨Reg.VLV_LATECNT, 31, 0⟩
def Reg.VLV_CONFCNT : Nat := 0xB018
def F.VLV_CONFCNT_DEFER : Fld := ⟨Reg.VLV_CONFCNT, 31, 16⟩
def F.VLV_CONFCNT_REFUSE : Fld := ⟨Reg.VLV_CONFCNT, 15, 0⟩
def Reg.VLV_POISCNT : Nat := 0xB01C
def F.VLV_POISCNT_CNT : Fld := ⟨Reg.VLV_POISCNT, 31, 0⟩
def Reg.VLV_ENMAP_LO : Nat := 0xB020
def F.VLV_ENMAP_LO_MAP : Fld := ⟨Reg.VLV_ENMAP_LO, 31, 0⟩
def Reg.VLV_ENMAP_HI : Nat := 0xB024
def F.VLV_ENMAP_HI_MAP : Fld := ⟨Reg.VLV_ENMAP_HI, 31, 0⟩
def Reg.VLV_FLTMAP_LO : Nat := 0xB028
def F.VLV_FLTMAP_LO_MAP : Fld := ⟨Reg.VLV_FLTMAP_LO, 31, 0⟩
def Reg.VLV_FLTMAP_HI : Nat := 0xB02C
def F.VLV_FLTMAP_HI_MAP : Fld := ⟨Reg.VLV_FLTMAP_HI, 31, 0⟩
def Reg.VLV_BANKk_STAT (i : Nat) : Nat := 0xB080 + 0x8 * (i % 12)
def F.VLV_BANKk_STAT_HSON (i : Nat) : Fld := ⟨Reg.VLV_BANKk_STAT i, 31, 31⟩
def F.VLV_BANKk_STAT_FAULT (i : Nat) : Fld := ⟨Reg.VLV_BANKk_STAT i, 30, 30⟩
def F.VLV_BANKk_STAT_FCAUSE (i : Nat) : Fld := ⟨Reg.VLV_BANKk_STAT i, 29, 28⟩
def F.VLV_BANKk_STAT_PEAK (i : Nat) : Fld := ⟨Reg.VLV_BANKk_STAT i, 27, 27⟩
def F.VLV_BANKk_STAT_PEAKCH (i : Nat) : Fld := ⟨Reg.VLV_BANKk_STAT i, 25, 24⟩
def F.VLV_BANKk_STAT_ONMAP (i : Nat) : Fld := ⟨Reg.VLV_BANKk_STAT i, 23, 20⟩
def F.VLV_BANKk_STAT_DEFMAP (i : Nat) : Fld := ⟨Reg.VLV_BANKk_STAT i, 19, 16⟩
def F.VLV_BANKk_STAT_MA (i : Nat) : Fld := ⟨Reg.VLV_BANKk_STAT i, 15, 0⟩
def Reg.VLV_BANKk_CUR (i : Nat) : Nat := 0xB084 + 0x8 * (i % 12)
def F.VLV_BANKk_CUR_PEAK (i : Nat) : Fld := ⟨Reg.VLV_BANKk_CUR i, 31, 16⟩
def F.VLV_BANKk_CUR_AVG (i : Nat) : Fld := ⟨Reg.VLV_BANKk_CUR i, 15, 0⟩
def Reg.VLV_TRWj_STAT (i : Nat) : Nat := 0xB100 + 0x8 * (i % 6)
def F.VLV_TRWj_STAT_LINK (i : Nat) : Fld := ⟨Reg.VLV_TRWj_STAT i, 31, 31⟩
def F.VLV_TRWj_STAT_FSAFE (i : Nat) : Fld := ⟨Reg.VLV_TRWj_STAT i, 30, 30⟩
def F.VLV_TRWj_STAT_FSREQ (i : Nat) : Fld := ⟨Reg.VLV_TRWj_STAT i, 29, 29⟩
def F.VLV_TRWj_STAT_OT (i : Nat) : Fld := ⟨Reg.VLV_TRWj_STAT i, 28, 28⟩
def F.VLV_TRWj_STAT_EXPCNT (i : Nat) : Fld := ⟨Reg.VLV_TRWj_STAT i, 23, 16⟩
def F.VLV_TRWj_STAT_CRCERR (i : Nat) : Fld := ⟨Reg.VLV_TRWj_STAT i, 15, 0⟩
def Reg.VLV_TRWj_WDOG (i : Nat) : Nat := 0xB104 + 0x8 * (i % 6)
def F.VLV_TRWj_WDOG_RESUME (i : Nat) : Fld := ⟨Reg.VLV_TRWj_WDOG i, 31, 31⟩
def F.VLV_TRWj_WDOG_SINCE (i : Nat) : Fld := ⟨Reg.VLV_TRWj_WDOG i, 15, 0⟩
def Reg.VLV_CHn_CTL (i : Nat) : Nat := 0xB400 + 0x40 * (i % 48)
def F.VLV_CHn_CTL_EN (i : Nat) : Fld := ⟨Reg.VLV_CHn_CTL i, 31, 31⟩
def F.VLV_CHn_CTL_MODE (i : Nat) : Fld := ⟨Reg.VLV_CHn_CTL i, 30, 30⟩
def F.VLV_CHn_CTL_SRC (i : Nat) : Fld := ⟨Reg.VLV_CHn_CTL i, 29, 28⟩
def F.VLV_CHn_CTL_DIPEN (i : Nat) : Fld := ⟨Reg.VLV_CHn_CTL i, 27, 27⟩
def F.VLV_CHn_CTL_CHOP (i : Nat) : Fld := ⟨Reg.VLV_CHn_CTL i, 20, 16⟩
def Reg.VLV_CHn_PEAK (i : Nat) : Nat := 0xB404 + 0x40 * (i % 48)
def F.VLV_CHn_PEAK_TPEAK (i : Nat) : Fld := ⟨Reg.VLV_CHn_PEAK i, 31, 16⟩
def F.VLV_CHn_PEAK_IPEAK (i : Nat) : Fld := ⟨Reg.VLV_CHn_PEAK i, 15, 0⟩
def Reg.VLV_CHn_HOLD (i : Nat) : Nat := 0xB408 + 0x40 * (i % 48)
def F.VLV_CHn_HOLD_IMAX (i : Nat) : Fld := ⟨Reg.VLV_CHn_HOLD i, 31, 16⟩
def F.VLV_CHn_HOLD_IHOLD (i : Nat) : Fld := ⟨Reg.VLV_CHn_HOLD i, 15, 0⟩
def Reg.VLV_CHn_DITHER (i : Nat) : Nat := 0xB40C + 0x40 * (i % 48)
def F.VLV_CHn_DITHER_FREQ (i : Nat) : Fld := ⟨Reg.VLV_CHn_DITHER i, 24, 16⟩
def F.VLV_CHn_DITHER_AMP (i : Nat) : Fld := ⟨Reg.VLV_CHn_DITHER i, 15, 0⟩
def Reg.VLV_CHn_DIP (i : Nat) : Nat := 0xB410 + 0x40 * (i % 48)
def F.VLV_CHn_DIP_START (i : Nat) : Fld := ⟨Reg.VLV_CHn_DIP i, 31, 22⟩
def F.VLV_CHn_DIP_END (i : Nat) : Fld := ⟨Reg.VLV_CHn_DIP i, 21, 12⟩
def F.VLV_CHn_DIP_DEPTH (i : Nat) : Fld := ⟨Reg.VLV_CHn_DIP i, 11, 0⟩
def Reg.VLV_CHn_DUTY (i : Nat) : Nat := 0xB414 + 0x40 * (i % 48)
def F.VLV_CHn_DUTY_EN (i : Nat) : Fld := ⟨Reg.VLV_CHn_DUTY i, 31, 31⟩
def F.VLV_CHn_DUTY_ACT (i : Nat) : Fld := ⟨Reg.VLV_CHn_DUTY i, 30, 30⟩
def F.VLV_CHn_DUTY_WIN (i : Nat) : Fld := ⟨Reg.VLV_CHn_DUTY i, 29, 24⟩
def F.VLV_CHn_DUTY_LIMIT (i : Nat) : Fld := ⟨Reg.VLV_CHn_DUTY i, 23, 16⟩
def Reg.VLV_CHn_CMD (i : Nat) : Nat := 0xB418 + 0x40 * (i % 48)
def F.VLV_CHn_CMD_ON (i : Nat) : Fld := ⟨Reg.VLV_CHn_CMD i, 31, 31⟩
def F.VLV_CHn_CMD_MA (i : Nat) : Fld := ⟨Reg.VLV_CHn_CMD i, 11, 0⟩
def Reg.VLV_CHn_STAT (i : Nat) : Nat := 0xB41C + 0x40 * (i % 48)
def F.VLV_CHn_STAT_FLAGS (i : Nat) : Fld := ⟨Reg.VLV_CHn_STAT i, 15, 0⟩
def Reg.VLV_CHn_MEAS (i : Nat) : Nat := 0xB420 + 0x40 * (i % 48)
def F.VLV_CHn_MEAS_PEAK (i : Nat) : Fld := ⟨Reg.VLV_CHn_MEAS i, 31, 16⟩
def F.VLV_CHn_MEAS_MA (i : Nat) : Fld := ⟨Reg.VLV_CHn_MEAS i, 15, 0⟩
def Reg.VLV_CHn_MOTION (i : Nat) : Nat := 0xB424 + 0x40 * (i % 48)
def F.VLV_CHn_MOTION_DEPTH (i : Nat) : Fld := ⟨Reg.VLV_CHn_MOTION i, 31, 16⟩
def F.VLV_CHn_MOTION_T (i : Nat) : Fld := ⟨Reg.VLV_CHn_MOTION i, 15, 0⟩
def Reg.VLV_CHn_DUTYUSE (i : Nat) : Nat := 0xB428 + 0x40 * (i % 48)
def F.VLV_CHn_DUTYUSE_PEAK (i : Nat) : Fld := ⟨Reg.VLV_CHn_DUTYUSE i, 31, 16⟩
def F.VLV_CHn_DUTYUSE_USE (i : Nat) : Fld := ⟨Reg.VLV_CHn_DUTYUSE i, 15, 0⟩
def Reg.VLV_CHn_WEAR_LO (i : Nat) : Nat := 0xB42C + 0x40 * (i % 48)
def F.VLV_CHn_WEAR_LO_CNT (i : Nat) : Fld := ⟨Reg.VLV_CHn_WEAR_LO i, 31, 0⟩
def Reg.VLV_CHn_WEAR_HI (i : Nat) : Nat := 0xB430 + 0x40 * (i % 48)
def F.VLV_CHn_WEAR_HI_CNT (i : Nat) : Fld := ⟨Reg.VLV_CHn_WEAR_HI i, 7, 0⟩
def Reg.VLV_CHn_FSAFE (i : Nat) : Nat := 0xB434 + 0x40 * (i % 48)
def F.VLV_CHn_FSAFE_ENTRY (i : Nat) : Fld := ⟨Reg.VLV_CHn_FSAFE i, 31, 0⟩
/-! ### Block 0x0C (LSW) -/

def Reg.LSW_CTL : Nat := 0xC000
def F.LSW_CTL_IE_CFG : Fld := ⟨Reg.LSW_CTL, 5, 5⟩
def F.LSW_CTL_IE_FSAFE : Fld := ⟨Reg.LSW_CTL, 4, 4⟩
def F.LSW_CTL_IE_GRP : Fld := ⟨Reg.LSW_CTL, 3, 3⟩
def F.LSW_CTL_IE_SHED : Fld := ⟨Reg.LSW_CTL, 2, 2⟩
def F.LSW_CTL_IE_OL : Fld := ⟨Reg.LSW_CTL, 1, 1⟩
def F.LSW_CTL_IE_CHFLT : Fld := ⟨Reg.LSW_CTL, 0, 0⟩
def Reg.LSW_STAT : Nat := 0xC004
def F.LSW_STAT_PARFLT : Fld := ⟨Reg.LSW_STAT, 7, 7⟩
def F.LSW_STAT_CFGREJ : Fld := ⟨Reg.LSW_STAT, 6, 6⟩
def F.LSW_STAT_WEARSAT : Fld := ⟨Reg.LSW_STAT, 5, 5⟩
def F.LSW_STAT_FSAFE : Fld := ⟨Reg.LSW_STAT, 4, 4⟩
def F.LSW_STAT_GRPOVER : Fld := ⟨Reg.LSW_STAT, 3, 3⟩
def F.LSW_STAT_SHED : Fld := ⟨Reg.LSW_STAT, 2, 2⟩
def F.LSW_STAT_OPENLOAD : Fld := ⟨Reg.LSW_STAT, 1, 1⟩
def F.LSW_STAT_CHFLT : Fld := ⟨Reg.LSW_STAT, 0, 0⟩
def Reg.LSW_SNAP : Nat := 0xC008
def F.LSW_SNAP_SNAP : Fld := ⟨Reg.LSW_SNAP, 0, 0⟩
def Reg.LSW_BADCFG : Nat := 0xC00C
def F.LSW_BADCFG_CAUSE : Fld := ⟨Reg.LSW_BADCFG, 11, 8⟩
def F.LSW_BADCFG_CH : Fld := ⟨Reg.LSW_BADCFG, 5, 0⟩
def Reg.LSW_WDCFG : Nat := 0xC010
def F.LSW_WDCFG_PERIOD : Fld := ⟨Reg.LSW_WDCFG, 7, 0⟩
def Reg.LSW_FSUNLOCK : Nat := 0xC014
def F.LSW_FSUNLOCK_STATE : Fld := ⟨Reg.LSW_FSUNLOCK, 31, 30⟩
def F.LSW_FSUNLOCK_KEY : Fld := ⟨Reg.LSW_FSUNLOCK, 15, 0⟩
def Reg.LSW_FSVER : Nat := 0xC018
def F.LSW_FSVER_VER : Fld := ⟨Reg.LSW_FSVER, 31, 0⟩
def Reg.LSW_POISCNT : Nat := 0xC01C
def F.LSW_POISCNT_CNT : Fld := ⟨Reg.LSW_POISCNT, 31, 0⟩
def Reg.LSW_ENMAP_LO : Nat := 0xC020
def F.LSW_ENMAP_LO_MAP : Fld := ⟨Reg.LSW_ENMAP_LO, 31, 0⟩
def Reg.LSW_ENMAP_HI : Nat := 0xC024
def F.LSW_ENMAP_HI_MAP : Fld := ⟨Reg.LSW_ENMAP_HI, 31, 0⟩
def Reg.LSW_FLTMAP_LO : Nat := 0xC028
def F.LSW_FLTMAP_LO_MAP : Fld := ⟨Reg.LSW_FLTMAP_LO, 31, 0⟩
def Reg.LSW_FLTMAP_HI : Nat := 0xC02C
def F.LSW_FLTMAP_HI_MAP : Fld := ⟨Reg.LSW_FLTMAP_HI, 31, 0⟩
def Reg.LSW_OLMAP_LO : Nat := 0xC030
def F.LSW_OLMAP_LO_MAP : Fld := ⟨Reg.LSW_OLMAP_LO, 31, 0⟩
def Reg.LSW_OLMAP_HI : Nat := 0xC034
def F.LSW_OLMAP_HI_MAP : Fld := ⟨Reg.LSW_OLMAP_HI, 31, 0⟩
def Reg.LSW_SHEDMAP_LO : Nat := 0xC038
def F.LSW_SHEDMAP_LO_MAP : Fld := ⟨Reg.LSW_SHEDMAP_LO, 31, 0⟩
def Reg.LSW_SHEDMAP_HI : Nat := 0xC03C
def F.LSW_SHEDMAP_HI_MAP : Fld := ⟨Reg.LSW_SHEDMAP_HI, 31, 0⟩
def Reg.LSW_GRPg_STAT (i : Nat) : Nat := 0xC040 + 0x8 * (i % 4)
def F.LSW_GRPg_STAT_LIM (i : Nat) : Fld := ⟨Reg.LSW_GRPg_STAT i, 31, 16⟩
def F.LSW_GRPg_STAT_BUDSUM (i : Nat) : Fld := ⟨Reg.LSW_GRPg_STAT i, 15, 0⟩
def Reg.LSW_GRPg_CUR (i : Nat) : Nat := 0xC044 + 0x8 * (i % 4)
def F.LSW_GRPg_CUR_PEAK (i : Nat) : Fld := ⟨Reg.LSW_GRPg_CUR i, 31, 16⟩
def F.LSW_GRPg_CUR_AVG (i : Nat) : Fld := ⟨Reg.LSW_GRPg_CUR i, 15, 0⟩
def Reg.LSW_SHRj_STAT (i : Nat) : Nat := 0xC060 + 0x8 * (i % 8)
def F.LSW_SHRj_STAT_LINK (i : Nat) : Fld := ⟨Reg.LSW_SHRj_STAT i, 31, 31⟩
def F.LSW_SHRj_STAT_FSAFE (i : Nat) : Fld := ⟨Reg.LSW_SHRj_STAT i, 30, 30⟩
def F.LSW_SHRj_STAT_FSREQ (i : Nat) : Fld := ⟨Reg.LSW_SHRj_STAT i, 29, 29⟩
def F.LSW_SHRj_STAT_OT (i : Nat) : Fld := ⟨Reg.LSW_SHRj_STAT i, 28, 28⟩
def F.LSW_SHRj_STAT_EXPCNT (i : Nat) : Fld := ⟨Reg.LSW_SHRj_STAT i, 23, 16⟩
def F.LSW_SHRj_STAT_CRCERR (i : Nat) : Fld := ⟨Reg.LSW_SHRj_STAT i, 15, 0⟩
def Reg.LSW_SHRj_WDOG (i : Nat) : Nat := 0xC064 + 0x8 * (i % 8)
def F.LSW_SHRj_WDOG_RESUME (i : Nat) : Fld := ⟨Reg.LSW_SHRj_WDOG i, 31, 31⟩
def F.LSW_SHRj_WDOG_SINCE (i : Nat) : Fld := ⟨Reg.LSW_SHRj_WDOG i, 15, 0⟩
def Reg.LSW_GENk (i : Nat) : Nat := 0xC0A0 + 0x4 * (i % 8)
def F.LSW_GENk_FREQ (i : Nat) : Fld := ⟨Reg.LSW_GENk i, 10, 0⟩
def Reg.LSW_TOTAL : Nat := 0xC0C0
def F.LSW_TOTAL_PEAK : Fld := ⟨Reg.LSW_TOTAL, 31, 16⟩
def F.LSW_TOTAL_AVG : Fld := ⟨Reg.LSW_TOTAL, 15, 0⟩
def Reg.LSW_CONFCNT : Nat := 0xC0C4
def F.LSW_CONFCNT_HELD : Fld := ⟨Reg.LSW_CONFCNT, 31, 16⟩
def F.LSW_CONFCNT_REFUSED : Fld := ⟨Reg.LSW_CONFCNT, 15, 0⟩
def Reg.LSW_SHEDCNT : Nat := 0xC0C8
def F.LSW_SHEDCNT_CNT : Fld := ⟨Reg.LSW_SHEDCNT, 31, 0⟩
def Reg.LSW_FSSTAT : Nat := 0xC0CC
def F.LSW_FSSTAT_MAP : Fld := ⟨Reg.LSW_FSSTAT, 13, 0⟩
def Reg.LSW_FSCNT : Nat := 0xC0D0
def F.LSW_FSCNT_CNT : Fld := ⟨Reg.LSW_FSCNT, 31, 0⟩
def Reg.LSW_TRIPCNT : Nat := 0xC0D4
def F.LSW_TRIPCNT_CNT : Fld := ⟨Reg.LSW_TRIPCNT, 31, 0⟩
def Reg.LSW_OLCNT : Nat := 0xC0D8
def F.LSW_OLCNT_CNT : Fld := ⟨Reg.LSW_OLCNT, 31, 0⟩
def Reg.LSW_BUSV : Nat := 0xC0DC
def F.LSW_BUSV_LOW : Fld := ⟨Reg.LSW_BUSV, 31, 16⟩
def F.LSW_BUSV_MV : Fld := ⟨Reg.LSW_BUSV, 15, 0⟩
def Reg.LSW_CHn_CTL (i : Nat) : Nat := 0xC100 + 0x10 * (i % 64)
def F.LSW_CHn_CTL_EN (i : Nat) : Fld := ⟨Reg.LSW_CHn_CTL i, 31, 31⟩
def F.LSW_CHn_CTL_MODE (i : Nat) : Fld := ⟨Reg.LSW_CHn_CTL i, 30, 30⟩
def F.LSW_CHn_CTL_SRC (i : Nat) : Fld := ⟨Reg.LSW_CHn_CTL i, 29, 28⟩
def F.LSW_CHn_CTL_GEN (i : Nat) : Fld := ⟨Reg.LSW_CHn_CTL i, 27, 25⟩
def F.LSW_CHn_CTL_PUEN (i : Nat) : Fld := ⟨Reg.LSW_CHn_CTL i, 24, 24⟩
def F.LSW_CHn_CTL_ONOL (i : Nat) : Fld := ⟨Reg.LSW_CHn_CTL i, 23, 23⟩
def F.LSW_CHn_CTL_SHED (i : Nat) : Fld := ⟨Reg.LSW_CHn_CTL i, 22, 20⟩
def F.LSW_CHn_CTL_PHASE (i : Nat) : Fld := ⟨Reg.LSW_CHn_CTL i, 19, 14⟩
def F.LSW_CHn_CTL_TLIM (i : Nat) : Fld := ⟨Reg.LSW_CHn_CTL i, 13, 8⟩
def F.LSW_CHn_CTL_TAU (i : Nat) : Fld := ⟨Reg.LSW_CHn_CTL i, 7, 0⟩
def Reg.LSW_CHn_LIM (i : Nat) : Nat := 0xC104 + 0x10 * (i % 64)
def F.LSW_CHn_LIM_BUD (i : Nat) : Fld := ⟨Reg.LSW_CHn_LIM i, 31, 20⟩
def F.LSW_CHn_LIM_OLTHR (i : Nat) : Fld := ⟨Reg.LSW_CHn_LIM i, 19, 10⟩
def F.LSW_CHn_LIM_IWIRE (i : Nat) : Fld := ⟨Reg.LSW_CHn_LIM i, 9, 0⟩
def Reg.LSW_CHn_CMD (i : Nat) : Nat := 0xC108 + 0x10 * (i % 64)
def F.LSW_CHn_CMD_ON (i : Nat) : Fld := ⟨Reg.LSW_CHn_CMD i, 31, 31⟩
def F.LSW_CHn_CMD_DUTY (i : Nat) : Fld := ⟨Reg.LSW_CHn_CMD i, 10, 0⟩
def Reg.LSW_CHn_STAT (i : Nat) : Nat := 0xC10C + 0x10 * (i % 64)
def F.LSW_CHn_STAT_MA (i : Nat) : Fld := ⟨Reg.LSW_CHn_STAT i, 31, 16⟩
def F.LSW_CHn_STAT_FLAGS (i : Nat) : Fld := ⟨Reg.LSW_CHn_STAT i, 15, 0⟩
def Reg.LSW_WEARn_LO (i : Nat) : Nat := 0xC800 + 0x8 * (i % 64)
def F.LSW_WEARn_LO_CNT (i : Nat) : Fld := ⟨Reg.LSW_WEARn_LO i, 31, 0⟩
def Reg.LSW_WEARn_HI (i : Nat) : Nat := 0xC804 + 0x8 * (i % 64)
def F.LSW_WEARn_HI_CNT (i : Nat) : Fld := ⟨Reg.LSW_WEARn_HI i, 7, 0⟩
/-! ### Block 0x0D (CAN) -/

def Reg.CAN_CTL : Nat := 0xD000
def F.CAN_CTL_IE_POIS : Fld := ⟨Reg.CAN_CTL, 4, 4⟩
def F.CAN_CTL_IE_PTN : Fld := ⟨Reg.CAN_CTL, 3, 3⟩
def F.CAN_CTL_IE_ALONE : Fld := ⟨Reg.CAN_CTL, 2, 2⟩
def F.CAN_CTL_IE_BUS : Fld := ⟨Reg.CAN_CTL, 1, 1⟩
def F.CAN_CTL_IE_CFG : Fld := ⟨Reg.CAN_CTL, 0, 0⟩
def Reg.CAN_STAT : Nat := 0xD004
def F.CAN_STAT_PARFLT : Fld := ⟨Reg.CAN_STAT, 7, 7⟩
def F.CAN_STAT_CFGREJ : Fld := ⟨Reg.CAN_STAT, 6, 6⟩
def F.CAN_STAT_POISON : Fld := ⟨Reg.CAN_STAT, 5, 5⟩
def F.CAN_STAT_PTN : Fld := ⟨Reg.CAN_STAT, 4, 4⟩
def F.CAN_STAT_ALONE : Fld := ⟨Reg.CAN_STAT, 3, 3⟩
def F.CAN_STAT_BUSOFF : Fld := ⟨Reg.CAN_STAT, 2, 2⟩
def F.CAN_STAT_RXOVF : Fld := ⟨Reg.CAN_STAT, 1, 1⟩
def F.CAN_STAT_WAKE : Fld := ⟨Reg.CAN_STAT, 0, 0⟩
def Reg.CAN_SNAP : Nat := 0xD008
def F.CAN_SNAP_SNAP : Fld := ⟨Reg.CAN_SNAP, 0, 0⟩
def Reg.CAN_BADCFG : Nat := 0xD00C
def F.CAN_BADCFG_CAUSE : Fld := ⟨Reg.CAN_BADCFG, 11, 8⟩
def F.CAN_BADCFG_CH : Fld := ⟨Reg.CAN_BADCFG, 2, 0⟩
def Reg.CAN_RXCNT_LO : Nat := 0xD010
def F.CAN_RXCNT_LO_CNT : Fld := ⟨Reg.CAN_RXCNT_LO, 31, 0⟩
def Reg.CAN_RXCNT_HI : Nat := 0xD014
def F.CAN_RXCNT_HI_CNT : Fld := ⟨Reg.CAN_RXCNT_HI, 31, 0⟩
def Reg.CAN_TXCNT_LO : Nat := 0xD018
def F.CAN_TXCNT_LO_CNT : Fld := ⟨Reg.CAN_TXCNT_LO, 31, 0⟩
def Reg.CAN_TXCNT_HI : Nat := 0xD01C
def F.CAN_TXCNT_HI_CNT : Fld := ⟨Reg.CAN_TXCNT_HI, 31, 0⟩
def Reg.CAN_PTNCFG : Nat := 0xD020
def F.CAN_PTNCFG_CLEAR : Fld := ⟨Reg.CAN_PTNCFG, 31, 31⟩
def F.CAN_PTNCFG_TMO : Fld := ⟨Reg.CAN_PTNCFG, 23, 16⟩
def F.CAN_PTNCFG_OFF : Fld := ⟨Reg.CAN_PTNCFG, 12, 0⟩
def Reg.CAN_PTNCNT : Nat := 0xD024
def F.CAN_PTNCNT_OVF : Fld := ⟨Reg.CAN_PTNCNT, 31, 16⟩
def F.CAN_PTNCNT_LIVE : Fld := ⟨Reg.CAN_PTNCNT, 8, 0⟩
def Reg.CAN_RXDROP : Nat := 0xD028
def F.CAN_RXDROP_CNT : Fld := ⟨Reg.CAN_RXDROP, 31, 0⟩
def Reg.CAN_POISCNT : Nat := 0xD02C
def F.CAN_POISCNT_CNT : Fld := ⟨Reg.CAN_POISCNT, 31, 0⟩
def Reg.CAN_ALONEMAP : Nat := 0xD030
def F.CAN_ALONEMAP_MAP : Fld := ⟨Reg.CAN_ALONEMAP, 7, 0⟩
def Reg.CAN_WAKESRC : Nat := 0xD034
def F.CAN_WAKESRC_VALID : Fld := ⟨Reg.CAN_WAKESRC, 31, 31⟩
def F.CAN_WAKESRC_CAUSE : Fld := ⟨Reg.CAN_WAKESRC, 1, 1⟩
def F.CAN_WAKESRC_CH : Fld := ⟨Reg.CAN_WAKESRC, 0, 0⟩
def Reg.CAN_STAMP : Nat := 0xD038
def F.CAN_STAMP_US : Fld := ⟨Reg.CAN_STAMP, 31, 0⟩
def Reg.CAN_CLAIMMAP : Nat := 0xD03C
def F.CAN_CLAIMMAP_MAP : Fld := ⟨Reg.CAN_CLAIMMAP, 7, 0⟩
def Reg.CAN_CHc_CTL (i : Nat) : Nat := 0xD100 + 0x40 * (i % 8)
def F.CAN_CHc_CTL_EN (i : Nat) : Fld := ⟨Reg.CAN_CHc_CTL i, 31, 31⟩
def F.CAN_CHc_CTL_MODE (i : Nat) : Fld := ⟨Reg.CAN_CHc_CTL i, 30, 29⟩
def F.CAN_CHc_CTL_TERM (i : Nat) : Fld := ⟨Reg.CAN_CHc_CTL i, 28, 28⟩
def F.CAN_CHc_CTL_PROTO (i : Nat) : Fld := ⟨Reg.CAN_CHc_CTL i, 27, 27⟩
def F.CAN_CHc_CTL_CLAIM (i : Nat) : Fld := ⟨Reg.CAN_CHc_CTL i, 26, 26⟩
def F.CAN_CHc_CTL_ALONEHOLD (i : Nat) : Fld := ⟨Reg.CAN_CHc_CTL i, 25, 25⟩
def F.CAN_CHc_CTL_AUTOREC (i : Nat) : Fld := ⟨Reg.CAN_CHc_CTL i, 24, 24⟩
def F.CAN_CHc_CTL_WUFEN (i : Nat) : Fld := ⟨Reg.CAN_CHc_CTL i, 23, 23⟩
def F.CAN_CHc_CTL_RXALL (i : Nat) : Fld := ⟨Reg.CAN_CHc_CTL i, 22, 22⟩
def F.CAN_CHc_CTL_RXALLR (i : Nat) : Fld := ⟨Reg.CAN_CHc_CTL i, 21, 19⟩
def Reg.CAN_CHc_BT (i : Nat) : Nat := 0xD104 + 0x40 * (i % 8)
def F.CAN_CHc_BT_NRATE (i : Nat) : Fld := ⟨Reg.CAN_CHc_BT i, 31, 28⟩
def F.CAN_CHc_BT_NSP (i : Nat) : Fld := ⟨Reg.CAN_CHc_BT i, 27, 22⟩
def F.CAN_CHc_BT_DRATE (i : Nat) : Fld := ⟨Reg.CAN_CHc_BT i, 21, 18⟩
def F.CAN_CHc_BT_DSP (i : Nat) : Fld := ⟨Reg.CAN_CHc_BT i, 17, 12⟩
def F.CAN_CHc_BT_TDC (i : Nat) : Fld := ⟨Reg.CAN_CHc_BT i, 11, 11⟩
def Reg.CAN_CHc_STAT (i : Nat) : Nat := 0xD108 + 0x40 * (i % 8)
def F.CAN_CHc_STAT_STATE (i : Nat) : Fld := ⟨Reg.CAN_CHc_STAT i, 31, 29⟩
def F.CAN_CHc_STAT_ERRST (i : Nat) : Fld := ⟨Reg.CAN_CHc_STAT i, 28, 27⟩
def F.CAN_CHc_STAT_ALONE (i : Nat) : Fld := ⟨Reg.CAN_CHc_STAT i, 26, 26⟩
def F.CAN_CHc_STAT_SUSP (i : Nat) : Fld := ⟨Reg.CAN_CHc_STAT i, 25, 25⟩
def F.CAN_CHc_STAT_LASTERR (i : Nat) : Fld := ⟨Reg.CAN_CHc_STAT i, 24, 22⟩
def F.CAN_CHc_STAT_TEC (i : Nat) : Fld := ⟨Reg.CAN_CHc_STAT i, 15, 8⟩
def F.CAN_CHc_STAT_REC (i : Nat) : Fld := ⟨Reg.CAN_CHc_STAT i, 7, 0⟩
def Reg.CAN_CHc_DET (i : Nat) : Nat := 0xD10C + 0x40 * (i % 8)
def F.CAN_CHc_DET_TMO (i : Nat) : Fld := ⟨Reg.CAN_CHc_DET i, 31, 24⟩
def F.CAN_CHc_DET_DONE (i : Nat) : Fld := ⟨Reg.CAN_CHc_DET i, 23, 23⟩
def F.CAN_CHc_DET_FAIL (i : Nat) : Fld := ⟨Reg.CAN_CHc_DET i, 22, 22⟩
def F.CAN_CHc_DET_NFOUND (i : Nat) : Fld := ⟨Reg.CAN_CHc_DET i, 21, 18⟩
def F.CAN_CHc_DET_DFOUND (i : Nat) : Fld := ⟨Reg.CAN_CHc_DET i, 17, 14⟩
def Reg.CAN_CHc_ACCTAB (i : Nat) : Nat := 0xD110 + 0x40 * (i % 8)
def F.CAN_CHc_ACCTAB_NACC (i : Nat) : Fld := ⟨Reg.CAN_CHc_ACCTAB i, 31, 23⟩
def F.CAN_CHc_ACCTAB_OFF (i : Nat) : Fld := ⟨Reg.CAN_CHc_ACCTAB i, 18, 0⟩
def Reg.CAN_CHc_RXBUF (i : Nat) : Nat := 0xD114 + 0x40 * (i % 8)
def F.CAN_CHc_RXBUF_NBUF (i : Nat) : Fld := ⟨Reg.CAN_CHc_RXBUF i, 31, 25⟩
def F.CAN_CHc_RXBUF_OFF (i : Nat) : Fld := ⟨Reg.CAN_CHc_RXBUF i, 17, 0⟩
def Reg.CAN_CHc_TXBUF (i : Nat) : Nat := 0xD118 + 0x40 * (i % 8)
def F.CAN_CHc_TXBUF_NBUF (i : Nat) : Fld := ⟨Reg.CAN_CHc_TXBUF i, 31, 25⟩
def F.CAN_CHc_TXBUF_OFF (i : Nat) : Fld := ⟨Reg.CAN_CHc_TXBUF i, 17, 0⟩
def Reg.CAN_CHc_CLAIM (i : Nat) : Nat := 0xD11C + 0x40 * (i % 8)
def F.CAN_CHc_CLAIM_PREF (i : Nat) : Fld := ⟨Reg.CAN_CHc_CLAIM i, 31, 24⟩
def F.CAN_CHc_CLAIM_MIN (i : Nat) : Fld := ⟨Reg.CAN_CHc_CLAIM i, 23, 16⟩
def F.CAN_CHc_CLAIM_MAX (i : Nat) : Fld := ⟨Reg.CAN_CHc_CLAIM i, 15, 8⟩
def F.CAN_CHc_CLAIM_CUR (i : Nat) : Fld := ⟨Reg.CAN_CHc_CLAIM i, 7, 0⟩
def Reg.CAN_CHc_NAME_LO (i : Nat) : Nat := 0xD120 + 0x40 * (i % 8)
def F.CAN_CHc_NAME_LO_NAME (i : Nat) : Fld := ⟨Reg.CAN_CHc_NAME_LO i, 31, 0⟩
def Reg.CAN_CHc_NAME_HI (i : Nat) : Nat := 0xD124 + 0x40 * (i % 8)
def F.CAN_CHc_NAME_HI_NAME (i : Nat) : Fld := ⟨Reg.CAN_CHc_NAME_HI i, 31, 0⟩
def Reg.CAN_CHc_CLMSTAT (i : Nat) : Nat := 0xD128 + 0x40 * (i % 8)
def F.CAN_CHc_CLMSTAT_STATE (i : Nat) : Fld := ⟨Reg.CAN_CHc_CLMSTAT i, 31, 29⟩
def F.CAN_CHc_CLMSTAT_CONTESTS (i : Nat) : Fld := ⟨Reg.CAN_CHc_CLMSTAT i, 15, 0⟩
def Reg.CAN_CHc_ERRCNT (i : Nat) : Nat := 0xD12C + 0x40 * (i % 8)
def F.CAN_CHc_ERRCNT_ACKSTREAK (i : Nat) : Fld := ⟨Reg.CAN_CHc_ERRCNT i, 31, 16⟩
def F.CAN_CHc_ERRCNT_ERRS (i : Nat) : Fld := ⟨Reg.CAN_CHc_ERRCNT i, 15, 0⟩
def Reg.CAN_CHc_WUFID (i : Nat) : Nat := 0xD130 + 0x40 * (i % 8)
def F.CAN_CHc_WUFID_IDE (i : Nat) : Fld := ⟨Reg.CAN_CHc_WUFID i, 31, 31⟩
def F.CAN_CHc_WUFID_ID (i : Nat) : Fld := ⟨Reg.CAN_CHc_WUFID i, 28, 0⟩
def Reg.CAN_CHc_WUFMASK (i : Nat) : Nat := 0xD134 + 0x40 * (i % 8)
def F.CAN_CHc_WUFMASK_MASK (i : Nat) : Fld := ⟨Reg.CAN_CHc_WUFMASK i, 28, 0⟩
def Reg.CAN_CHc_LOAD (i : Nat) : Nat := 0xD138 + 0x40 * (i % 8)
def F.CAN_CHc_LOAD_PEAK (i : Nat) : Fld := ⟨Reg.CAN_CHc_LOAD i, 31, 16⟩
def F.CAN_CHc_LOAD_LAST (i : Nat) : Fld := ⟨Reg.CAN_CHc_LOAD i, 15, 0⟩
def Reg.CAN_CHc_TXPEND (i : Nat) : Nat := 0xD13C + 0x40 * (i % 8)
def F.CAN_CHc_TXPEND_RING (i : Nat) : Fld := ⟨Reg.CAN_CHc_TXPEND i, 25, 20⟩
def F.CAN_CHc_TXPEND_REPLACE (i : Nat) : Fld := ⟨Reg.CAN_CHc_TXPEND i, 15, 0⟩
def Reg.CAN_PTNk (i : Nat) : Nat := 0xD400 + 0x4 * (i % 256)
def F.CAN_PTNk_STATE (i : Nat) : Fld := ⟨Reg.CAN_PTNk i, 31, 29⟩
def F.CAN_PTNk_CH (i : Nat) : Fld := ⟨Reg.CAN_PTNk i, 26, 24⟩
def F.CAN_PTNk_ADDR (i : Nat) : Fld := ⟨Reg.CAN_PTNk i, 23, 16⟩
def F.CAN_PTNk_AGE (i : Nat) : Fld := ⟨Reg.CAN_PTNk i, 15, 0⟩
/-! ### Block 0x0E (DSPS) -/

def Reg.DSP_SCTL : Nat := 0xE000
def F.DSP_SCTL_STRIPEN : Fld := ⟨Reg.DSP_SCTL, 31, 31⟩
def F.DSP_SCTL_OVL : Fld := ⟨Reg.DSP_SCTL, 30, 30⟩
def F.DSP_SCTL_IE_FB : Fld := ⟨Reg.DSP_SCTL, 2, 2⟩
def F.DSP_SCTL_IE_PWR : Fld := ⟨Reg.DSP_SCTL, 1, 1⟩
def F.DSP_SCTL_IE_IMG : Fld := ⟨Reg.DSP_SCTL, 0, 0⟩
def Reg.DSP_SSTAT : Nat := 0xE004
def F.DSP_SSTAT_PARFLT : Fld := ⟨Reg.DSP_SSTAT, 5, 5⟩
def F.DSP_SSTAT_FALLBACK : Fld := ⟨Reg.DSP_SSTAT, 4, 4⟩
def F.DSP_SSTAT_IMGREJ : Fld := ⟨Reg.DSP_SSTAT, 3, 3⟩
def F.DSP_SSTAT_SEQDONE : Fld := ⟨Reg.DSP_SSTAT, 2, 2⟩
def F.DSP_SSTAT_REVERSED : Fld := ⟨Reg.DSP_SSTAT, 1, 1⟩
def F.DSP_SSTAT_UNDER : Fld := ⟨Reg.DSP_SSTAT, 0, 0⟩
def Reg.DSP_PWR : Nat := 0xE008
def F.DSP_PWR_REQ : Fld := ⟨Reg.DSP_PWR, 31, 31⟩
def F.DSP_PWR_MODE : Fld := ⟨Reg.DSP_PWR, 30, 30⟩
def Reg.DSP_PWRSTAT : Nat := 0xE00C
def F.DSP_PWRSTAT_STATE : Fld := ⟨Reg.DSP_PWRSTAT, 31, 28⟩
def F.DSP_PWRSTAT_STEP : Fld := ⟨Reg.DSP_PWRSTAT, 27, 24⟩
def F.DSP_PWRSTAT_REVAT : Fld := ⟨Reg.DSP_PWRSTAT, 21, 18⟩
def F.DSP_PWRSTAT_BLLIT : Fld := ⟨Reg.DSP_PWRSTAT, 23, 23⟩
def F.DSP_PWRSTAT_REV : Fld := ⟨Reg.DSP_PWRSTAT, 22, 22⟩
def F.DSP_PWRSTAT_MODE : Fld := ⟨Reg.DSP_PWRSTAT, 17, 16⟩
def F.DSP_PWRSTAT_REVCNT : Fld := ⟨Reg.DSP_PWRSTAT, 15, 0⟩
def Reg.DSP_BL : Nat := 0xE010
def F.DSP_BL_RAMP : Fld := ⟨Reg.DSP_BL, 31, 24⟩
def F.DSP_BL_FDUTY : Fld := ⟨Reg.DSP_BL, 21, 11⟩
def F.DSP_BL_SDUTY : Fld := ⟨Reg.DSP_BL, 10, 0⟩
def Reg.DSP_SBASE : Nat := 0xE014
def F.DSP_SBASE_OFF : Fld := ⟨Reg.DSP_SBASE, 12, 0⟩
def Reg.DSP_SSEQ : Nat := 0xE018
def F.DSP_SSEQ_SEQ : Fld := ⟨Reg.DSP_SSEQ, 31, 0⟩
def Reg.DSP_SCOUNT : Nat := 0xE01C
def F.DSP_SCOUNT_UNDER : Fld := ⟨Reg.DSP_SCOUNT, 31, 16⟩
def F.DSP_SCOUNT_FALLBACKS : Fld := ⟨Reg.DSP_SCOUNT, 15, 0⟩
def Reg.DSP_SPALk (i : Nat) : Nat := 0xE020 + 0x4 * (i % 8)
def F.DSP_SPALk_RGB (i : Nat) : Fld := ⟨Reg.DSP_SPALk i, 29, 0⟩
/-! ### Block 0x10 (FAB) -/

def Reg.FAB_CTL : Nat := 0x10000
def F.FAB_CTL_IE_SHOUT : Fld := ⟨Reg.FAB_CTL, 1, 1⟩
def F.FAB_CTL_IE_EXP : Fld := ⟨Reg.FAB_CTL, 0, 0⟩
def Reg.FAB_STAT : Nat := 0x10004
def F.FAB_STAT_EXPCNT : Fld := ⟨Reg.FAB_STAT, 31, 16⟩
def F.FAB_STAT_PARFLT : Fld := ⟨Reg.FAB_STAT, 4, 4⟩
def F.FAB_STAT_CREDERR : Fld := ⟨Reg.FAB_STAT, 3, 3⟩
def F.FAB_STAT_EXP : Fld := ⟨Reg.FAB_STAT, 2, 2⟩
def F.FAB_STAT_SHAREDOUT : Fld := ⟨Reg.FAB_STAT, 1, 1⟩
def F.FAB_STAT_FULL : Fld := ⟨Reg.FAB_STAT, 0, 0⟩
def Reg.FAB_SNAP : Nat := 0x10008
def F.FAB_SNAP_SNAP : Fld := ⟨Reg.FAB_SNAP, 0, 0⟩
def Reg.FAB_OCC : Nat := 0x1000C
def F.FAB_OCC_HWM : Fld := ⟨Reg.FAB_OCC, 29, 16⟩
def F.FAB_OCC_OCC : Fld := ⟨Reg.FAB_OCC, 13, 0⟩
def Reg.FAB_SHARED : Nat := 0x10010
def F.FAB_SHARED_UNUSEDRES : Fld := ⟨Reg.FAB_SHARED, 29, 16⟩
def F.FAB_SHARED_SHAREDFREE : Fld := ⟨Reg.FAB_SHARED, 13, 0⟩
def Reg.FAB_OLDEST : Nat := 0x10014
def F.FAB_OLDEST_REQ : Fld := ⟨Reg.FAB_OLDEST, 31, 28⟩
def F.FAB_OLDEST_CLASS : Fld := ⟨Reg.FAB_OLDEST, 27, 24⟩
def F.FAB_OLDEST_TAG : Fld := ⟨Reg.FAB_OLDEST, 12, 0⟩
def Reg.FAB_WAITCNT_LO : Nat := 0x10018
def F.FAB_WAITCNT_LO_WAITCNT : Fld := ⟨Reg.FAB_WAITCNT_LO, 31, 0⟩
def Reg.FAB_WAITCNT_HI : Nat := 0x1001C
def F.FAB_WAITCNT_HI_WAITCNT : Fld := ⟨Reg.FAB_WAITCNT_HI, 31, 0⟩
def Reg.FAB_CREDn (i : Nat) : Nat := 0x10100 + 0x4 * (i % 16)
def F.FAB_CREDn_RESERVE (i : Nat) : Fld := ⟨Reg.FAB_CREDn i, 29, 16⟩
def F.FAB_CREDn_LIMIT (i : Nat) : Fld := ⟨Reg.FAB_CREDn i, 13, 0⟩
def Reg.FAB_INUSEn (i : Nat) : Nat := 0x10200 + 0x4 * (i % 16)
def F.FAB_INUSEn_PEAK (i : Nat) : Fld := ⟨Reg.FAB_INUSEn i, 29, 16⟩
def F.FAB_INUSEn_INUSE (i : Nat) : Fld := ⟨Reg.FAB_INUSEn i, 13, 0⟩
def Reg.FAB_WAITn (i : Nat) : Nat := 0x10300 + 0x4 * (i % 16)
def F.FAB_WAITn_MAXWAIT (i : Nat) : Fld := ⟨Reg.FAB_WAITn i, 31, 0⟩
/-! ### Block 0x11 (MEM) -/

def Reg.MEM_CTL : Nat := 0x11000
def F.MEM_CTL_DEVTHR : Fld := ⟨Reg.MEM_CTL, 31, 24⟩
def F.MEM_CTL_IE_WEAR : Fld := ⟨Reg.MEM_CTL, 4, 4⟩
def F.MEM_CTL_IE_DEV : Fld := ⟨Reg.MEM_CTL, 3, 3⟩
def F.MEM_CTL_IE_UE : Fld := ⟨Reg.MEM_CTL, 2, 2⟩
def F.MEM_CTL_IE_CE : Fld := ⟨Reg.MEM_CTL, 1, 1⟩
def F.MEM_CTL_IE_CFG : Fld := ⟨Reg.MEM_CTL, 0, 0⟩
def Reg.MEM_STAT : Nat := 0x11004
def F.MEM_STAT_READY : Fld := ⟨Reg.MEM_STAT, 31, 31⟩
def F.MEM_STAT_PARFLT : Fld := ⟨Reg.MEM_STAT, 7, 7⟩
def F.MEM_STAT_CFGREJ : Fld := ⟨Reg.MEM_STAT, 6, 6⟩
def F.MEM_STAT_WEARSAT : Fld := ⟨Reg.MEM_STAT, 5, 5⟩
def F.MEM_STAT_LOGDROP : Fld := ⟨Reg.MEM_STAT, 4, 4⟩
def F.MEM_STAT_DEV2 : Fld := ⟨Reg.MEM_STAT, 3, 3⟩
def F.MEM_STAT_DEVFAIL : Fld := ⟨Reg.MEM_STAT, 2, 2⟩
def F.MEM_STAT_UE : Fld := ⟨Reg.MEM_STAT, 1, 1⟩
def F.MEM_STAT_CE : Fld := ⟨Reg.MEM_STAT, 0, 0⟩
def Reg.MEM_SNAP : Nat := 0x11008
def F.MEM_SNAP_SNAP : Fld := ⟨Reg.MEM_SNAP, 0, 0⟩
def Reg.MEM_BADCFG : Nat := 0x1100C
def F.MEM_BADCFG_CAUSE : Fld := ⟨Reg.MEM_BADCFG, 11, 8⟩
def F.MEM_BADCFG_SUB : Fld := ⟨Reg.MEM_BADCFG, 2, 0⟩
def Reg.MEM_SIZE : Nat := 0x11010
def F.MEM_SIZE_SUBS : Fld := ⟨Reg.MEM_SIZE, 31, 24⟩
def F.MEM_SIZE_GIB : Fld := ⟨Reg.MEM_SIZE, 15, 0⟩
def Reg.MEM_SCRUB : Nat := 0x11014
def F.MEM_SCRUB_EN : Fld := ⟨Reg.MEM_SCRUB, 31, 31⟩
def F.MEM_SCRUB_PERIOD : Fld := ⟨Reg.MEM_SCRUB, 7, 0⟩
def Reg.MEM_SCRUBPOS : Nat := 0x11018
def F.MEM_SCRUBPOS_LINE : Fld := ⟨Reg.MEM_SCRUBPOS, 30, 0⟩
def Reg.MEM_SCRUBPASS : Nat := 0x1101C
def F.MEM_SCRUBPASS_CNT : Fld := ⟨Reg.MEM_SCRUBPASS, 31, 0⟩
def Reg.MEM_CECNT_LO : Nat := 0x11020
def F.MEM_CECNT_LO_CNT : Fld := ⟨Reg.MEM_CECNT_LO, 31, 0⟩
def Reg.MEM_CECNT_HI : Nat := 0x11024
def F.MEM_CECNT_HI_CNT : Fld := ⟨Reg.MEM_CECNT_HI, 31, 0⟩
def Reg.MEM_RMWCNT_LO : Nat := 0x11028
def F.MEM_RMWCNT_LO_CNT : Fld := ⟨Reg.MEM_RMWCNT_LO, 31, 0⟩
def Reg.MEM_RMWCNT_HI : Nat := 0x1102C
def F.MEM_RMWCNT_HI_CNT : Fld := ⟨Reg.MEM_RMWCNT_HI, 31, 0⟩
def Reg.MEM_UECNT : Nat := 0x11030
def F.MEM_UECNT_CNT : Fld := ⟨Reg.MEM_UECNT, 31, 0⟩
def Reg.MEM_POISWR : Nat := 0x11034
def F.MEM_POISWR_CNT : Fld := ⟨Reg.MEM_POISWR, 31, 0⟩
def Reg.MEM_LOGDROP : Nat := 0x11038
def F.MEM_LOGDROP_CNT : Fld := ⟨Reg.MEM_LOGDROP, 31, 0⟩
def Reg.MEM_LINECMD : Nat := 0x1103C
def F.MEM_LINECMD_BUSY : Fld := ⟨Reg.MEM_LINECMD, 31, 31⟩
def F.MEM_LINECMD_CMD : Fld := ⟨Reg.MEM_LINECMD, 3, 0⟩
def Reg.MEM_LINEADDR_LO : Nat := 0x11040
def F.MEM_LINEADDR_LO_ADDR : Fld := ⟨Reg.MEM_LINEADDR_LO, 31, 6⟩
def Reg.MEM_LINEADDR_HI : Nat := 0x11044
def F.MEM_LINEADDR_HI_ADDR : Fld := ⟨Reg.MEM_LINEADDR_HI, 7, 0⟩
def Reg.MEM_DSTADDR_LO : Nat := 0x11048
def F.MEM_DSTADDR_LO_ADDR : Fld := ⟨Reg.MEM_DSTADDR_LO, 31, 6⟩
def Reg.MEM_DSTADDR_HI : Nat := 0x1104C
def F.MEM_DSTADDR_HI_ADDR : Fld := ⟨Reg.MEM_DSTADDR_HI, 7, 0⟩
def Reg.MEM_LINESTAT : Nat := 0x11050
def F.MEM_LINESTAT_RESULT : Fld := ⟨Reg.MEM_LINESTAT, 31, 28⟩
def F.MEM_LINESTAT_NSYM : Fld := ⟨Reg.MEM_LINESTAT, 27, 24⟩
def F.MEM_LINESTAT_POIS : Fld := ⟨Reg.MEM_LINESTAT, 6, 0⟩
def Reg.MEM_LOGHEAD : Nat := 0x11054
def F.MEM_LOGHEAD_COUNT : Fld := ⟨Reg.MEM_LOGHEAD, 31, 24⟩
def F.MEM_LOGHEAD_OLDEST : Fld := ⟨Reg.MEM_LOGHEAD, 15, 8⟩
def Reg.MEM_LOGPOP : Nat := 0x11058
def F.MEM_LOGPOP_POP : Fld := ⟨Reg.MEM_LOGPOP, 0, 0⟩
def Reg.MEM_START : Nat := 0x1105C
def F.MEM_START_STATE : Fld := ⟨Reg.MEM_START, 31, 30⟩
def F.MEM_START_CAUSE : Fld := ⟨Reg.MEM_START, 29, 28⟩
def F.MEM_START_SUB : Fld := ⟨Reg.MEM_START, 26, 24⟩
def F.MEM_START_MS : Fld := ⟨Reg.MEM_START, 15, 0⟩
def Reg.MEM_INJ : Nat := 0x11060
def F.MEM_INJ_FIRST : Fld := ⟨Reg.MEM_INJ, 31, 24⟩
def F.MEM_INJ_NSYM : Fld := ⟨Reg.MEM_INJ, 15, 8⟩
def F.MEM_INJ_MASK : Fld := ⟨Reg.MEM_INJ, 7, 0⟩
def Reg.MEM_BW : Nat := 0x11064
def F.MEM_BW_PEAK : Fld := ⟨Reg.MEM_BW, 31, 16⟩
def F.MEM_BW_LAST : Fld := ⟨Reg.MEM_BW, 15, 0⟩
def Reg.MEM_RDLAT : Nat := 0x11068
def F.MEM_RDLAT_PEAK : Fld := ⟨Reg.MEM_RDLAT, 31, 16⟩
def F.MEM_RDLAT_LAST : Fld := ⟨Reg.MEM_RDLAT, 15, 0⟩
def Reg.MEM_RMWLAT : Nat := 0x1106C
def F.MEM_RMWLAT_PEAK : Fld := ⟨Reg.MEM_RMWLAT, 31, 16⟩
def F.MEM_RMWLAT_LAST : Fld := ⟨Reg.MEM_RMWLAT, 15, 0⟩
def Reg.MEM_SUBn_STAT (i : Nat) : Nat := 0x11100 + 0x40 * (i % 8)
def F.MEM_SUBn_STAT_TRAINED (i : Nat) : Fld := ⟨Reg.MEM_SUBn_STAT i, 31, 31⟩
def F.MEM_SUBn_STAT_ERASE (i : Nat) : Fld := ⟨Reg.MEM_SUBn_STAT i, 30, 30⟩
def F.MEM_SUBn_STAT_DEV2 (i : Nat) : Fld := ⟨Reg.MEM_SUBn_STAT i, 29, 29⟩
def F.MEM_SUBn_STAT_FAILDEV (i : Nat) : Fld := ⟨Reg.MEM_SUBn_STAT i, 23, 20⟩
def F.MEM_SUBn_STAT_DEV2ID (i : Nat) : Fld := ⟨Reg.MEM_SUBn_STAT i, 19, 16⟩
def Reg.MEM_SUBn_MARK (i : Nat) : Nat := 0x11104 + 0x40 * (i % 8)
def F.MEM_SUBn_MARK_CLEAR (i : Nat) : Fld := ⟨Reg.MEM_SUBn_MARK i, 4, 4⟩
def F.MEM_SUBn_MARK_DEV (i : Nat) : Fld := ⟨Reg.MEM_SUBn_MARK i, 3, 0⟩
def Reg.MEM_SUBn_DEVCNT0 (i : Nat) : Nat := 0x11108 + 0x40 * (i % 8)
def F.MEM_SUBn_DEVCNT0_CNT3 (i : Nat) : Fld := ⟨Reg.MEM_SUBn_DEVCNT0 i, 31, 24⟩
def F.MEM_SUBn_DEVCNT0_CNT2 (i : Nat) : Fld := ⟨Reg.MEM_SUBn_DEVCNT0 i, 23, 16⟩
def F.MEM_SUBn_DEVCNT0_CNT1 (i : Nat) : Fld := ⟨Reg.MEM_SUBn_DEVCNT0 i, 15, 8⟩
def F.MEM_SUBn_DEVCNT0_CNT0 (i : Nat) : Fld := ⟨Reg.MEM_SUBn_DEVCNT0 i, 7, 0⟩
def Reg.MEM_SUBn_DEVCNT1 (i : Nat) : Nat := 0x1110C + 0x40 * (i % 8)
def F.MEM_SUBn_DEVCNT1_CNT3 (i : Nat) : Fld := ⟨Reg.MEM_SUBn_DEVCNT1 i, 31, 24⟩
def F.MEM_SUBn_DEVCNT1_CNT2 (i : Nat) : Fld := ⟨Reg.MEM_SUBn_DEVCNT1 i, 23, 16⟩
def F.MEM_SUBn_DEVCNT1_CNT1 (i : Nat) : Fld := ⟨Reg.MEM_SUBn_DEVCNT1 i, 15, 8⟩
def F.MEM_SUBn_DEVCNT1_CNT0 (i : Nat) : Fld := ⟨Reg.MEM_SUBn_DEVCNT1 i, 7, 0⟩
def Reg.MEM_SUBn_DEVCNT2 (i : Nat) : Nat := 0x11110 + 0x40 * (i % 8)
def F.MEM_SUBn_DEVCNT2_CNT1 (i : Nat) : Fld := ⟨Reg.MEM_SUBn_DEVCNT2 i, 15, 8⟩
def F.MEM_SUBn_DEVCNT2_CNT0 (i : Nat) : Fld := ⟨Reg.MEM_SUBn_DEVCNT2 i, 7, 0⟩
def Reg.MEM_SUBn_CE (i : Nat) : Nat := 0x11114 + 0x40 * (i % 8)
def F.MEM_SUBn_CE_CNT (i : Nat) : Fld := ⟨Reg.MEM_SUBn_CE i, 31, 0⟩
def Reg.MEM_SUBn_WEAR_LO (i : Nat) : Nat := 0x11118 + 0x40 * (i % 8)
def F.MEM_SUBn_WEAR_LO_CNT (i : Nat) : Fld := ⟨Reg.MEM_SUBn_WEAR_LO i, 31, 0⟩
def Reg.MEM_SUBn_WEAR_HI (i : Nat) : Nat := 0x1111C + 0x40 * (i % 8)
def F.MEM_SUBn_WEAR_HI_CNT (i : Nat) : Fld := ⟨Reg.MEM_SUBn_WEAR_HI i, 7, 0⟩
def Reg.MEM_SUBn_UE (i : Nat) : Nat := 0x11120 + 0x40 * (i % 8)
def F.MEM_SUBn_UE_CNT (i : Nat) : Fld := ⟨Reg.MEM_SUBn_UE i, 31, 0⟩
def Reg.MEM_SUBn_LOAD (i : Nat) : Nat := 0x11124 + 0x40 * (i % 8)
def F.MEM_SUBn_LOAD_PEAK (i : Nat) : Fld := ⟨Reg.MEM_SUBn_LOAD i, 31, 16⟩
def F.MEM_SUBn_LOAD_LAST (i : Nat) : Fld := ⟨Reg.MEM_SUBn_LOAD i, 15, 0⟩
def Reg.MEM_LOGk_W (i : Nat) (j : Nat) : Nat := 0x11400 + 0x10 * (i % 48) + 0x4 * (j % 4)
def F.MEM_LOGk_W_ENTRY (i : Nat) (j : Nat) : Fld := ⟨Reg.MEM_LOGk_W i j, 31, 0⟩
/-! ### Block 0x12 (NFL) -/

def Reg.NFL_CTL : Nat := 0x12000
def F.NFL_CTL_RAWEN : Fld := ⟨Reg.NFL_CTL, 31, 31⟩
def F.NFL_CTL_IE_POIS : Fld := ⟨Reg.NFL_CTL, 3, 3⟩
def F.NFL_CTL_IE_FAIL : Fld := ⟨Reg.NFL_CTL, 2, 2⟩
def F.NFL_CTL_IE_UNC : Fld := ⟨Reg.NFL_CTL, 1, 1⟩
def F.NFL_CTL_IE_CFG : Fld := ⟨Reg.NFL_CTL, 0, 0⟩
def Reg.NFL_STAT : Nat := 0x12004
def F.NFL_STAT_PARFLT : Fld := ⟨Reg.NFL_STAT, 6, 6⟩
def F.NFL_STAT_CFGREJ : Fld := ⟨Reg.NFL_STAT, 5, 5⟩
def F.NFL_STAT_WEARSAT : Fld := ⟨Reg.NFL_STAT, 4, 4⟩
def F.NFL_STAT_POISON : Fld := ⟨Reg.NFL_STAT, 3, 3⟩
def F.NFL_STAT_FAIL : Fld := ⟨Reg.NFL_STAT, 2, 2⟩
def F.NFL_STAT_UNC : Fld := ⟨Reg.NFL_STAT, 1, 1⟩
def F.NFL_STAT_LOGDROP : Fld := ⟨Reg.NFL_STAT, 0, 0⟩
def Reg.NFL_SNAP : Nat := 0x12008
def F.NFL_SNAP_SNAP : Fld := ⟨Reg.NFL_SNAP, 0, 0⟩
def Reg.NFL_BADCFG : Nat := 0x1200C
def F.NFL_BADCFG_CAUSE : Fld := ⟨Reg.NFL_BADCFG, 11, 8⟩
def Reg.NFL_GEOM : Nat := 0x12010
def F.NFL_GEOM_CHAN : Fld := ⟨Reg.NFL_GEOM, 31, 28⟩
def F.NFL_GEOM_DIES : Fld := ⟨Reg.NFL_GEOM, 27, 24⟩
def F.NFL_GEOM_BLOCKS : Fld := ⟨Reg.NFL_GEOM, 23, 8⟩
def Reg.NFL_STRIDX : Nat := 0x12014
def F.NFL_STRIDX_REGION : Fld := ⟨Reg.NFL_STRIDX, 11, 0⟩
def Reg.NFL_STRDATA : Nat := 0x12018
def F.NFL_STRDATA_TCODE : Fld := ⟨Reg.NFL_STRDATA, 4, 0⟩
def Reg.NFL_RDCNT_LO : Nat := 0x1201C
def F.NFL_RDCNT_LO_CNT : Fld := ⟨Reg.NFL_RDCNT_LO, 31, 0⟩
def Reg.NFL_RDCNT_HI : Nat := 0x12020
def F.NFL_RDCNT_HI_CNT : Fld := ⟨Reg.NFL_RDCNT_HI, 31, 0⟩
def Reg.NFL_PGCNT_LO : Nat := 0x12024
def F.NFL_PGCNT_LO_CNT : Fld := ⟨Reg.NFL_PGCNT_LO, 31, 0⟩
def Reg.NFL_PGCNT_HI : Nat := 0x12028
def F.NFL_PGCNT_HI_CNT : Fld := ⟨Reg.NFL_PGCNT_HI, 31, 0⟩
def Reg.NFL_ERCNT_LO : Nat := 0x1202C
def F.NFL_ERCNT_LO_CNT : Fld := ⟨Reg.NFL_ERCNT_LO, 31, 0⟩
def Reg.NFL_ERCNT_HI : Nat := 0x12030
def F.NFL_ERCNT_HI_CNT : Fld := ⟨Reg.NFL_ERCNT_HI, 31, 0⟩
def Reg.NFL_CBITS_LO : Nat := 0x12034
def F.NFL_CBITS_LO_CNT : Fld := ⟨Reg.NFL_CBITS_LO, 31, 0⟩
def Reg.NFL_CBITS_HI : Nat := 0x12038
def F.NFL_CBITS_HI_CNT : Fld := ⟨Reg.NFL_CBITS_HI, 31, 0⟩
def Reg.NFL_UECNT : Nat := 0x1203C
def F.NFL_UECNT_CNT : Fld := ⟨Reg.NFL_UECNT, 31, 0⟩
def Reg.NFL_LOGHEAD : Nat := 0x12040
def F.NFL_LOGHEAD_COUNT : Fld := ⟨Reg.NFL_LOGHEAD, 31, 24⟩
def F.NFL_LOGHEAD_OLDEST : Fld := ⟨Reg.NFL_LOGHEAD, 15, 8⟩
def Reg.NFL_LOGPOP : Nat := 0x12044
def F.NFL_LOGPOP_POP : Fld := ⟨Reg.NFL_LOGPOP, 0, 0⟩
def Reg.NFL_BUSY : Nat := 0x12048
def F.NFL_BUSY_MAP : Fld := ⟨Reg.NFL_BUSY, 7, 0⟩
def Reg.NFL_POISCNT : Nat := 0x1204C
def F.NFL_POISCNT_CNT : Fld := ⟨Reg.NFL_POISCNT, 31, 0⟩
def Reg.NFL_CHc_STAT (i : Nat) : Nat := 0x12100 + 0x40 * (i % 8)
def F.NFL_CHc_STAT_PRESENT (i : Nat) : Fld := ⟨Reg.NFL_CHc_STAT i, 31, 31⟩
def F.NFL_CHc_STAT_BUSY (i : Nat) : Fld := ⟨Reg.NFL_CHc_STAT i, 30, 30⟩
def F.NFL_CHc_STAT_QUEUE (i : Nat) : Fld := ⟨Reg.NFL_CHc_STAT i, 7, 0⟩
def Reg.NFL_CHc_RDLAT (i : Nat) : Nat := 0x12104 + 0x40 * (i % 8)
def F.NFL_CHc_RDLAT_PEAK (i : Nat) : Fld := ⟨Reg.NFL_CHc_RDLAT i, 31, 16⟩
def F.NFL_CHc_RDLAT_LAST (i : Nat) : Fld := ⟨Reg.NFL_CHc_RDLAT i, 15, 0⟩
def Reg.NFL_CHc_PGLAT (i : Nat) : Nat := 0x12108 + 0x40 * (i % 8)
def F.NFL_CHc_PGLAT_PEAK (i : Nat) : Fld := ⟨Reg.NFL_CHc_PGLAT i, 31, 16⟩
def F.NFL_CHc_PGLAT_LAST (i : Nat) : Fld := ⟨Reg.NFL_CHc_PGLAT i, 15, 0⟩
def Reg.NFL_CHc_ERLAT (i : Nat) : Nat := 0x1210C + 0x40 * (i % 8)
def F.NFL_CHc_ERLAT_PEAK (i : Nat) : Fld := ⟨Reg.NFL_CHc_ERLAT i, 31, 16⟩
def F.NFL_CHc_ERLAT_LAST (i : Nat) : Fld := ⟨Reg.NFL_CHc_ERLAT i, 15, 0⟩
def Reg.NFL_CHc_BITS (i : Nat) : Nat := 0x12110 + 0x40 * (i % 8)
def F.NFL_CHc_BITS_PEAK (i : Nat) : Fld := ⟨Reg.NFL_CHc_BITS i, 31, 16⟩
def F.NFL_CHc_BITS_LAST (i : Nat) : Fld := ⟨Reg.NFL_CHc_BITS i, 15, 0⟩
def Reg.NFL_CHc_HISTq (i : Nat) (j : Nat) : Nat := 0x12114 + 0x40 * (i % 8) + 0x4 * (j % 4)
def F.NFL_CHc_HISTq_CNT (i : Nat) (j : Nat) : Fld := ⟨Reg.NFL_CHc_HISTq i j, 31, 0⟩
def Reg.NFL_CHc_FAILS (i : Nat) : Nat := 0x12124 + 0x40 * (i % 8)
def F.NFL_CHc_FAILS_PROG (i : Nat) : Fld := ⟨Reg.NFL_CHc_FAILS i, 31, 16⟩
def F.NFL_CHc_FAILS_ERASE (i : Nat) : Fld := ⟨Reg.NFL_CHc_FAILS i, 15, 0⟩
def Reg.NFL_CHc_WEAR_LO (i : Nat) : Nat := 0x12128 + 0x40 * (i % 8)
def F.NFL_CHc_WEAR_LO_CNT (i : Nat) : Fld := ⟨Reg.NFL_CHc_WEAR_LO i, 31, 0⟩
def Reg.NFL_CHc_WEAR_HI (i : Nat) : Nat := 0x1212C + 0x40 * (i % 8)
def F.NFL_CHc_WEAR_HI_CNT (i : Nat) : Fld := ⟨Reg.NFL_CHc_WEAR_HI i, 7, 0⟩
def Reg.NFL_LOGk_W (i : Nat) (j : Nat) : Nat := 0x12400 + 0x10 * (i % 16) + 0x4 * (j % 4)
def F.NFL_LOGk_W_ENTRY (i : Nat) (j : Nat) : Fld := ⟨Reg.NFL_LOGk_W i j, 31, 0⟩
/-! ### Block 0x13 (TER) -/

def Reg.TER_CTL : Nat := 0x13000
def F.TER_CTL_EN : Fld := ⟨Reg.TER_CTL, 31, 31⟩
def F.TER_CTL_IE_POIS : Fld := ⟨Reg.TER_CTL, 4, 4⟩
def F.TER_CTL_IE_DRV : Fld := ⟨Reg.TER_CTL, 3, 3⟩
def F.TER_CTL_IE_WEAR : Fld := ⟨Reg.TER_CTL, 2, 2⟩
def F.TER_CTL_IE_SPACE : Fld := ⟨Reg.TER_CTL, 1, 1⟩
def F.TER_CTL_IE_CFG : Fld := ⟨Reg.TER_CTL, 0, 0⟩
def Reg.TER_STAT : Nat := 0x13004
def F.TER_STAT_READY : Fld := ⟨Reg.TER_STAT, 31, 31⟩
def F.TER_STAT_DEGRADED : Fld := ⟨Reg.TER_STAT, 30, 30⟩
def F.TER_STAT_MISSING : Fld := ⟨Reg.TER_STAT, 29, 29⟩
def F.TER_STAT_PARFLT : Fld := ⟨Reg.TER_STAT, 7, 7⟩
def F.TER_STAT_CFGREJ : Fld := ⟨Reg.TER_STAT, 6, 6⟩
def F.TER_STAT_POISON : Fld := ⟨Reg.TER_STAT, 5, 5⟩
def F.TER_STAT_DRVCHG : Fld := ⟨Reg.TER_STAT, 4, 4⟩
def F.TER_STAT_WEARWARN : Fld := ⟨Reg.TER_STAT, 3, 3⟩
def F.TER_STAT_SPACE : Fld := ⟨Reg.TER_STAT, 2, 2⟩
def F.TER_STAT_CAMDROP : Fld := ⟨Reg.TER_STAT, 1, 1⟩
def F.TER_STAT_TILEUNM : Fld := ⟨Reg.TER_STAT, 0, 0⟩
def Reg.TER_SNAP : Nat := 0x13008
def F.TER_SNAP_SNAP : Fld := ⟨Reg.TER_SNAP, 0, 0⟩
def Reg.TER_BADCFG : Nat := 0x1300C
def F.TER_BADCFG_CAUSE : Fld := ⟨Reg.TER_BADCFG, 11, 8⟩
def Reg.TER_MAPBASE : Nat := 0x13010
def F.TER_MAPBASE_BASE : Fld := ⟨Reg.TER_MAPBASE, 27, 0⟩
def Reg.TER_MAPSIZE : Nat := 0x13014
def F.TER_MAPSIZE_SIZE : Fld := ⟨Reg.TER_MAPSIZE, 15, 0⟩
def Reg.TER_STAGEBASE : Nat := 0x13018
def F.TER_STAGEBASE_BASE : Fld := ⟨Reg.TER_STAGEBASE, 27, 0⟩
def Reg.TER_STAGESIZE : Nat := 0x1301C
def F.TER_STAGESIZE_SIZE : Fld := ⟨Reg.TER_STAGESIZE, 15, 0⟩
def Reg.TER_READY : Nat := 0x13020
def F.TER_READY_STATE : Fld := ⟨Reg.TER_READY, 31, 30⟩
def F.TER_READY_MS : Fld := ⟨Reg.TER_READY, 15, 0⟩
def Reg.TER_CAPLIM : Nat := 0x13024
def F.TER_CAPLIM_EXT : Fld := ⟨Reg.TER_CAPLIM, 31, 0⟩
def Reg.TER_NSEXT : Nat := 0x13028
def F.TER_NSEXT_EXT : Fld := ⟨Reg.TER_NSEXT, 31, 0⟩
def Reg.TER_PHYSEXT : Nat := 0x1302C
def F.TER_PHYSEXT_EXT : Fld := ⟨Reg.TER_PHYSEXT, 31, 0⟩
def Reg.TER_PHYSFREE : Nat := 0x13030
def F.TER_PHYSFREE_EXT : Fld := ⟨Reg.TER_PHYSFREE, 31, 0⟩
def Reg.TER_NANDSTAT : Nat := 0x13034
def F.TER_NANDSTAT_SPARE : Fld := ⟨Reg.TER_NANDSTAT, 31, 16⟩
def F.TER_NANDSTAT_RETIRED : Fld := ⟨Reg.TER_NANDSTAT, 15, 0⟩
def Reg.TER_NANDERASE : Nat := 0x13038
def F.TER_NANDERASE_MAX : Fld := ⟨Reg.TER_NANDERASE, 31, 16⟩
def F.TER_NANDERASE_MEAN : Fld := ⟨Reg.TER_NANDERASE, 15, 0⟩
def Reg.TER_NANDWEAR : Nat := 0x1303C
def F.TER_NANDWEAR_PCTUSED : Fld := ⟨Reg.TER_NANDWEAR, 7, 0⟩
def Reg.TER_TIERCTL : Nat := 0x13040
def F.TER_TIERCTL_HIGH : Fld := ⟨Reg.TER_TIERCTL, 31, 24⟩
def F.TER_TIERCTL_LOW : Fld := ⟨Reg.TER_TIERCTL, 23, 16⟩
def F.TER_TIERCTL_AGE : Fld := ⟨Reg.TER_TIERCTL, 15, 0⟩
def Reg.TER_REFRESH : Nat := 0x13044
def F.TER_REFRESH_EN : Fld := ⟨Reg.TER_REFRESH, 31, 31⟩
def F.TER_REFRESH_DAYS : Fld := ⟨Reg.TER_REFRESH, 7, 0⟩
def Reg.TER_CAMCTL : Nat := 0x13048
def F.TER_CAMCTL_EN : Fld := ⟨Reg.TER_CAMCTL, 31, 31⟩
def F.TER_CAMCTL_NS : Fld := ⟨Reg.TER_CAMCTL, 5, 0⟩
def Reg.TER_TILECTL : Nat := 0x1304C
def F.TER_TILECTL_EN : Fld := ⟨Reg.TER_TILECTL, 31, 31⟩
def F.TER_TILECTL_NS : Fld := ⟨Reg.TER_TILECTL, 5, 0⟩
def Reg.TER_TILEIDX : Nat := 0x13050
def F.TER_TILEIDX_USED : Fld := ⟨Reg.TER_TILEIDX, 16, 0⟩
def Reg.TER_RAWBLK : Nat := 0x13054
def F.TER_RAWBLK_LENT : Fld := ⟨Reg.TER_RAWBLK, 4, 0⟩
def Reg.TER_POISMAPS : Nat := 0x13058
def F.TER_POISMAPS_USED : Fld := ⟨Reg.TER_POISMAPS, 16, 0⟩
def Reg.TER_POISCNT : Nat := 0x1305C
def F.TER_POISCNT_CNT : Fld := ⟨Reg.TER_POISCNT, 31, 0⟩
def Reg.TER_RDBYTES_LO : Nat := 0x13060
def F.TER_RDBYTES_LO_CNT : Fld := ⟨Reg.TER_RDBYTES_LO, 31, 0⟩
def Reg.TER_RDBYTES_HI : Nat := 0x13064
def F.TER_RDBYTES_HI_CNT : Fld := ⟨Reg.TER_RDBYTES_HI, 31, 0⟩
def Reg.TER_WRBYTES_LO : Nat := 0x13068
def F.TER_WRBYTES_LO_CNT : Fld := ⟨Reg.TER_WRBYTES_LO, 31, 0⟩
def Reg.TER_WRBYTES_HI : Nat := 0x1306C
def F.TER_WRBYTES_HI_CNT : Fld := ⟨Reg.TER_WRBYTES_HI, 31, 0⟩
def Reg.TER_NANDWR_LO : Nat := 0x13070
def F.TER_NANDWR_LO_CNT : Fld := ⟨Reg.TER_NANDWR_LO, 31, 0⟩
def Reg.TER_NANDWR_HI : Nat := 0x13074
def F.TER_NANDWR_HI_CNT : Fld := ⟨Reg.TER_NANDWR_HI, 31, 0⟩
def Reg.TER_CMDCNT_LO : Nat := 0x13078
def F.TER_CMDCNT_LO_CNT : Fld := ⟨Reg.TER_CMDCNT_LO, 31, 0⟩
def Reg.TER_CMDCNT_HI : Nat := 0x1307C
def F.TER_CMDCNT_HI_CNT : Fld := ⟨Reg.TER_CMDCNT_HI, 31, 0⟩
def Reg.TER_LAT : Nat := 0x13080
def F.TER_LAT_PEAK : Fld := ⟨Reg.TER_LAT, 31, 16⟩
def F.TER_LAT_LAST : Fld := ⟨Reg.TER_LAT, 15, 0⟩
def Reg.TER_BW : Nat := 0x13084
def F.TER_BW_OUT : Fld := ⟨Reg.TER_BW, 31, 16⟩
def F.TER_BW_IN : Fld := ⟨Reg.TER_BW, 15, 0⟩
def Reg.TER_MIGR : Nat := 0x13088
def F.TER_MIGR_CNT : Fld := ⟨Reg.TER_MIGR, 31, 0⟩
def Reg.TER_DEGRADED : Nat := 0x1308C
def F.TER_DEGRADED_EXT : Fld := ⟨Reg.TER_DEGRADED, 31, 0⟩
def Reg.TER_MISSING : Nat := 0x13090
def F.TER_MISSING_EXT : Fld := ⟨Reg.TER_MISSING, 31, 0⟩
def Reg.TER_CAMDROP : Nat := 0x13094
def F.TER_CAMDROP_CNT : Fld := ⟨Reg.TER_CAMDROP, 31, 0⟩
def Reg.TER_TILEMERGE : Nat := 0x13098
def F.TER_TILEMERGE_UNMERGED : Fld := ⟨Reg.TER_TILEMERGE, 31, 16⟩
def F.TER_TILEMERGE_MERGED : Fld := ⟨Reg.TER_TILEMERGE, 15, 0⟩
def Reg.TER_FWVER : Nat := 0x1309C
def F.TER_FWVER_VER : Fld := ⟨Reg.TER_FWVER, 31, 0⟩
def Reg.TER_DRVd_STAT (i : Nat) : Nat := 0x13100 + 0x10 * (i % 32)
def F.TER_DRVd_STAT_STATE (i : Nat) : Fld := ⟨Reg.TER_DRVd_STAT i, 31, 29⟩
def F.TER_DRVd_STAT_GEN (i : Nat) : Fld := ⟨Reg.TER_DRVd_STAT i, 27, 24⟩
def F.TER_DRVd_STAT_WIDTH (i : Nat) : Fld := ⟨Reg.TER_DRVd_STAT i, 23, 20⟩
def F.TER_DRVd_STAT_MEDERR (i : Nat) : Fld := ⟨Reg.TER_DRVd_STAT i, 15, 0⟩
def Reg.TER_DRVd_CAP (i : Nat) : Nat := 0x13104 + 0x10 * (i % 32)
def F.TER_DRVd_CAP_EXT (i : Nat) : Fld := ⟨Reg.TER_DRVd_CAP i, 31, 0⟩
def Reg.TER_DRVd_WEAR (i : Nat) : Nat := 0x13108 + 0x10 * (i % 32)
def F.TER_DRVd_WEAR_PCTUSED (i : Nat) : Fld := ⟨Reg.TER_DRVd_WEAR i, 31, 24⟩
def F.TER_DRVd_WEAR_SPARE (i : Nat) : Fld := ⟨Reg.TER_DRVd_WEAR i, 23, 16⟩
def F.TER_DRVd_WEAR_CRITWARN (i : Nat) : Fld := ⟨Reg.TER_DRVd_WEAR i, 15, 8⟩
def F.TER_DRVd_WEAR_TEMPC (i : Nat) : Fld := ⟨Reg.TER_DRVd_WEAR i, 7, 0⟩
def Reg.TER_NSn_CFG (i : Nat) : Nat := 0x13300 + 0x4 * (i % 64)
def F.TER_NSn_CFG_STATE (i : Nat) : Fld := ⟨Reg.TER_NSn_CFG i, 31, 30⟩
def F.TER_NSn_CFG_KIND (i : Nat) : Fld := ⟨Reg.TER_NSn_CFG i, 29, 29⟩
def F.TER_NSn_CFG_POLICY (i : Nat) : Fld := ⟨Reg.TER_NSn_CFG i, 28, 27⟩
def F.TER_NSn_CFG_COPIES2 (i : Nat) : Fld := ⟨Reg.TER_NSn_CFG i, 26, 26⟩
def F.TER_NSn_CFG_HOSTRO (i : Nat) : Fld := ⟨Reg.TER_NSn_CFG i, 25, 25⟩
def F.TER_NSn_CFG_HOSTEN (i : Nat) : Fld := ⟨Reg.TER_NSn_CFG i, 24, 24⟩
def F.TER_NSn_CFG_POIS (i : Nat) : Fld := ⟨Reg.TER_NSn_CFG i, 23, 23⟩
def F.TER_NSn_CFG_DEGR (i : Nat) : Fld := ⟨Reg.TER_NSn_CFG i, 22, 22⟩
def F.TER_NSn_CFG_MISS (i : Nat) : Fld := ⟨Reg.TER_NSn_CFG i, 21, 21⟩
/-! ### Block 0x14 (PCE) -/

def Reg.PCE_CTL : Nat := 0x14000
def F.PCE_CTL_EN : Fld := ⟨Reg.PCE_CTL, 31, 31⟩
def F.PCE_CTL_SPLIT : Fld := ⟨Reg.PCE_CTL, 30, 30⟩
def F.PCE_CTL_IE_ERR : Fld := ⟨Reg.PCE_CTL, 2, 2⟩
def F.PCE_CTL_IE_HP : Fld := ⟨Reg.PCE_CTL, 1, 1⟩
def F.PCE_CTL_IE_CFG : Fld := ⟨Reg.PCE_CTL, 0, 0⟩
def Reg.PCE_STAT : Nat := 0x14004
def F.PCE_STAT_RPUP : Fld := ⟨Reg.PCE_STAT, 31, 31⟩
def F.PCE_STAT_EPUP : Fld := ⟨Reg.PCE_STAT, 30, 30⟩
def F.PCE_STAT_PARFLT : Fld := ⟨Reg.PCE_STAT, 4, 4⟩
def F.PCE_STAT_CFGREJ : Fld := ⟨Reg.PCE_STAT, 3, 3⟩
def F.PCE_STAT_POISON : Fld := ⟨Reg.PCE_STAT, 2, 2⟩
def F.PCE_STAT_FATAL : Fld := ⟨Reg.PCE_STAT, 1, 1⟩
def F.PCE_STAT_SURPRISE : Fld := ⟨Reg.PCE_STAT, 0, 0⟩
def Reg.PCE_BADCFG : Nat := 0x14008
def F.PCE_BADCFG_CAUSE : Fld := ⟨Reg.PCE_BADCFG, 11, 8⟩
def Reg.PCE_RPLINK : Nat := 0x1400C
def F.PCE_RPLINK_GEN : Fld := ⟨Reg.PCE_RPLINK, 31, 28⟩
def F.PCE_RPLINK_WIDTH : Fld := ⟨Reg.PCE_RPLINK, 27, 24⟩
def F.PCE_RPLINK_DOWNS : Fld := ⟨Reg.PCE_RPLINK, 15, 0⟩
def Reg.PCE_RPERR : Nat := 0x14010
def F.PCE_RPERR_UNCORR : Fld := ⟨Reg.PCE_RPERR, 31, 16⟩
def F.PCE_RPERR_CORR : Fld := ⟨Reg.PCE_RPERR, 15, 0⟩
def Reg.PCE_EPLINK : Nat := 0x14014
def F.PCE_EPLINK_GEN : Fld := ⟨Reg.PCE_EPLINK, 31, 28⟩
def F.PCE_EPLINK_WIDTH : Fld := ⟨Reg.PCE_EPLINK, 27, 24⟩
def F.PCE_EPLINK_DOWNS : Fld := ⟨Reg.PCE_EPLINK, 15, 0⟩
def Reg.PCE_EPCTL : Nat := 0x14018
def F.PCE_EPCTL_EN : Fld := ⟨Reg.PCE_EPCTL, 31, 31⟩
def F.PCE_EPCTL_APLOG2 : Fld := ⟨Reg.PCE_EPCTL, 4, 0⟩
def Reg.PCE_EPBASE : Nat := 0x1401C
def F.PCE_EPBASE_BASE : Fld := ⟨Reg.PCE_EPBASE, 27, 0⟩
def Reg.PCE_OBCTL : Nat := 0x14020
def F.PCE_OBCTL_DALEEN : Fld := ⟨Reg.PCE_OBCTL, 31, 31⟩
def Reg.PCE_LOGHEAD : Nat := 0x14024
def F.PCE_LOGHEAD_COUNT : Fld := ⟨Reg.PCE_LOGHEAD, 31, 24⟩
def F.PCE_LOGHEAD_OLDEST : Fld := ⟨Reg.PCE_LOGHEAD, 15, 8⟩
def Reg.PCE_LOGPOP : Nat := 0x14028
def F.PCE_LOGPOP_POP : Fld := ⟨Reg.PCE_LOGPOP, 0, 0⟩
def Reg.PCE_POISCNT : Nat := 0x1402C
def F.PCE_POISCNT_CNT : Fld := ⟨Reg.PCE_POISCNT, 31, 0⟩
def Reg.PCE_SLOTs_CTL (i : Nat) : Nat := 0x14100 + 0x8 * (i % 32)
def F.PCE_SLOTs_CTL_PWR (i : Nat) : Fld := ⟨Reg.PCE_SLOTs_CTL i, 31, 31⟩
def F.PCE_SLOTs_CTL_ATTN (i : Nat) : Fld := ⟨Reg.PCE_SLOTs_CTL i, 30, 30⟩
def Reg.PCE_SLOTs_STAT (i : Nat) : Nat := 0x14104 + 0x8 * (i % 32)
def F.PCE_SLOTs_STAT_PRESENT (i : Nat) : Fld := ⟨Reg.PCE_SLOTs_STAT i, 31, 31⟩
def F.PCE_SLOTs_STAT_LINK (i : Nat) : Fld := ⟨Reg.PCE_SLOTs_STAT i, 30, 30⟩
def F.PCE_SLOTs_STAT_GEN (i : Nat) : Fld := ⟨Reg.PCE_SLOTs_STAT i, 29, 26⟩
def F.PCE_SLOTs_STAT_WIDTH (i : Nat) : Fld := ⟨Reg.PCE_SLOTs_STAT i, 25, 22⟩
def F.PCE_SLOTs_STAT_SURPRISE (i : Nat) : Fld := ⟨Reg.PCE_SLOTs_STAT i, 21, 21⟩
def F.PCE_SLOTs_STAT_DOWNS (i : Nat) : Fld := ⟨Reg.PCE_SLOTs_STAT i, 15, 0⟩
def Reg.PCE_LOGk_W (i : Nat) (j : Nat) : Nat := 0x14200 + 0x10 * (i % 16) + 0x4 * (j % 4)
def F.PCE_LOGk_W_ENTRY (i : Nat) (j : Nat) : Fld := ⟨Reg.PCE_LOGk_W i j, 31, 0⟩
/-! ### Block 0x15 (ETH) -/

def Reg.ETH_CTL : Nat := 0x15000
def F.ETH_CTL_IE_POIS : Fld := ⟨Reg.ETH_CTL, 4, 4⟩
def F.ETH_CTL_IE_PTP : Fld := ⟨Reg.ETH_CTL, 3, 3⟩
def F.ETH_CTL_IE_LINK : Fld := ⟨Reg.ETH_CTL, 2, 2⟩
def F.ETH_CTL_IE_DROP : Fld := ⟨Reg.ETH_CTL, 1, 1⟩
def F.ETH_CTL_IE_CFG : Fld := ⟨Reg.ETH_CTL, 0, 0⟩
def Reg.ETH_STAT : Nat := 0x15004
def F.ETH_STAT_PARFLT : Fld := ⟨Reg.ETH_STAT, 5, 5⟩
def F.ETH_STAT_CFGREJ : Fld := ⟨Reg.ETH_STAT, 4, 4⟩
def F.ETH_STAT_POISON : Fld := ⟨Reg.ETH_STAT, 3, 3⟩
def F.ETH_STAT_PTP : Fld := ⟨Reg.ETH_STAT, 2, 2⟩
def F.ETH_STAT_LINK : Fld := ⟨Reg.ETH_STAT, 1, 1⟩
def F.ETH_STAT_DROP : Fld := ⟨Reg.ETH_STAT, 0, 0⟩
def Reg.ETH_SNAP : Nat := 0x15008
def F.ETH_SNAP_SNAP : Fld := ⟨Reg.ETH_SNAP, 0, 0⟩
def Reg.ETH_BADCFG : Nat := 0x1500C
def F.ETH_BADCFG_CAUSE : Fld := ⟨Reg.ETH_BADCFG, 11, 8⟩
def F.ETH_BADCFG_UNIT : Fld := ⟨Reg.ETH_BADCFG, 5, 0⟩
def Reg.ETH_MAC_LO : Nat := 0x15010
def F.ETH_MAC_LO_MAC : Fld := ⟨Reg.ETH_MAC_LO, 31, 0⟩
def Reg.ETH_MAC_HI : Nat := 0x15014
def F.ETH_MAC_HI_MAC : Fld := ⟨Reg.ETH_MAC_HI, 15, 0⟩
def Reg.ETH_ENGIP : Nat := 0x15018
def F.ETH_ENGIP_ADDR : Fld := ⟨Reg.ETH_ENGIP, 31, 0⟩
def Reg.ETH_ENGMASK : Nat := 0x1501C
def F.ETH_ENGMASK_ADDR : Fld := ⟨Reg.ETH_ENGMASK, 31, 0⟩
def Reg.ETH_ENGGW : Nat := 0x15020
def F.ETH_ENGGW_ADDR : Fld := ⟨Reg.ETH_ENGGW, 31, 0⟩
def Reg.ETH_FDBAGE : Nat := 0x15024
def F.ETH_FDBAGE_AGE : Fld := ⟨Reg.ETH_FDBAGE, 15, 0⟩
def Reg.ETH_PTPCTL : Nat := 0x15028
def F.ETH_PTPCTL_EN : Fld := ⟨Reg.ETH_PTPCTL, 31, 31⟩
def F.ETH_PTPCTL_PRIO1 : Fld := ⟨Reg.ETH_PTPCTL, 15, 8⟩
def F.ETH_PTPCTL_PRIO2 : Fld := ⟨Reg.ETH_PTPCTL, 7, 0⟩
def Reg.ETH_PTPSTAT : Nat := 0x1502C
def F.ETH_PTPSTAT_GM : Fld := ⟨Reg.ETH_PTPSTAT, 31, 31⟩
def F.ETH_PTPSTAT_SLAVE : Fld := ⟨Reg.ETH_PTPSTAT, 30, 27⟩
def F.ETH_PTPSTAT_STEPS : Fld := ⟨Reg.ETH_PTPSTAT, 15, 8⟩
def F.ETH_PTPSTAT_CLASS : Fld := ⟨Reg.ETH_PTPSTAT, 7, 0⟩
def Reg.ETH_RIOCTL : Nat := 0x15030
def F.ETH_RIOCTL_EN : Fld := ⟨Reg.ETH_RIOCTL, 31, 31⟩
def Reg.ETH_NVMECTL : Nat := 0x15034
def F.ETH_NVMECTL_EN : Fld := ⟨Reg.ETH_NVMECTL, 31, 31⟩
def F.ETH_NVMECTL_DIGEST : Fld := ⟨Reg.ETH_NVMECTL, 30, 30⟩
def F.ETH_NVMECTL_MAXCONN : Fld := ⟨Reg.ETH_NVMECTL, 22, 16⟩
def F.ETH_NVMECTL_PORT : Fld := ⟨Reg.ETH_NVMECTL, 15, 0⟩
def Reg.ETH_NVMESTAT : Nat := 0x15038
def F.ETH_NVMESTAT_REJ : Fld := ⟨Reg.ETH_NVMESTAT, 31, 16⟩
def F.ETH_NVMESTAT_CONN : Fld := ⟨Reg.ETH_NVMESTAT, 6, 0⟩
def Reg.ETH_SVC : Nat := 0x1503C
def F.ETH_SVC_EN : Fld := ⟨Reg.ETH_SVC, 31, 31⟩
def Reg.ETH_DSCBASE : Nat := 0x15040
def F.ETH_DSCBASE_EN : Fld := ⟨Reg.ETH_DSCBASE, 31, 31⟩
def F.ETH_DSCBASE_BASE : Fld := ⟨Reg.ETH_DSCBASE, 27, 0⟩
def Reg.ETH_RXCNT_LO : Nat := 0x15044
def F.ETH_RXCNT_LO_CNT : Fld := ⟨Reg.ETH_RXCNT_LO, 31, 0⟩
def Reg.ETH_RXCNT_HI : Nat := 0x15048
def F.ETH_RXCNT_HI_CNT : Fld := ⟨Reg.ETH_RXCNT_HI, 31, 0⟩
def Reg.ETH_BUFUSE : Nat := 0x1504C
def F.ETH_BUFUSE_PEAK : Fld := ⟨Reg.ETH_BUFUSE, 31, 16⟩
def F.ETH_BUFUSE_NOW : Fld := ⟨Reg.ETH_BUFUSE, 15, 0⟩
def Reg.ETH_NVMEBW : Nat := 0x15050
def F.ETH_NVMEBW_OUT : Fld := ⟨Reg.ETH_NVMEBW, 31, 16⟩
def F.ETH_NVMEBW_IN : Fld := ⟨Reg.ETH_NVMEBW, 15, 0⟩
def Reg.ETH_POISCNT : Nat := 0x15054
def F.ETH_POISCNT_CNT : Fld := ⟨Reg.ETH_POISCNT, 31, 0⟩
def Reg.ETH_Pp_CTL (i : Nat) : Nat := 0x15100 + 0x40 * (i % 7)
def F.ETH_Pp_CTL_EN (i : Nat) : Fld := ⟨Reg.ETH_Pp_CTL i, 31, 31⟩
def F.ETH_Pp_CTL_ROLE (i : Nat) : Fld := ⟨Reg.ETH_Pp_CTL i, 30, 30⟩
def F.ETH_Pp_CTL_PTPEN (i : Nat) : Fld := ⟨Reg.ETH_Pp_CTL i, 29, 29⟩
def F.ETH_Pp_CTL_MDNS (i : Nat) : Fld := ⟨Reg.ETH_Pp_CTL i, 28, 28⟩
def F.ETH_Pp_CTL_JUMBO (i : Nat) : Fld := ⟨Reg.ETH_Pp_CTL i, 27, 27⟩
def F.ETH_Pp_CTL_PVID (i : Nat) : Fld := ⟨Reg.ETH_Pp_CTL i, 11, 0⟩
def Reg.ETH_Pp_STAT (i : Nat) : Nat := 0x15104 + 0x40 * (i % 7)
def F.ETH_Pp_STAT_LINK (i : Nat) : Fld := ⟨Reg.ETH_Pp_STAT i, 31, 31⟩
def F.ETH_Pp_STAT_ASCAP (i : Nat) : Fld := ⟨Reg.ETH_Pp_STAT i, 30, 30⟩
def F.ETH_Pp_STAT_PTPROLE (i : Nat) : Fld := ⟨Reg.ETH_Pp_STAT i, 29, 28⟩
def F.ETH_Pp_STAT_DOWNS (i : Nat) : Fld := ⟨Reg.ETH_Pp_STAT i, 15, 0⟩
def Reg.ETH_Pp_RXFR (i : Nat) : Nat := 0x15108 + 0x40 * (i % 7)
def F.ETH_Pp_RXFR_CNT (i : Nat) : Fld := ⟨Reg.ETH_Pp_RXFR i, 31, 0⟩
def Reg.ETH_Pp_TXFR (i : Nat) : Nat := 0x1510C + 0x40 * (i % 7)
def F.ETH_Pp_TXFR_CNT (i : Nat) : Fld := ⟨Reg.ETH_Pp_TXFR i, 31, 0⟩
def Reg.ETH_Pp_DROP (i : Nat) : Nat := 0x15110 + 0x40 * (i % 7)
def F.ETH_Pp_DROP_CNT (i : Nat) : Fld := ⟨Reg.ETH_Pp_DROP i, 31, 0⟩
def Reg.ETH_Pp_PDELAY (i : Nat) : Nat := 0x15114 + 0x40 * (i % 7)
def F.ETH_Pp_PDELAY_NS (i : Nat) : Fld := ⟨Reg.ETH_Pp_PDELAY i, 31, 0⟩
def Reg.ETH_Pp_GCL (i : Nat) : Nat := 0x15118 + 0x40 * (i % 7)
def F.ETH_Pp_GCL_ACTIVE (i : Nat) : Fld := ⟨Reg.ETH_Pp_GCL i, 31, 31⟩
def F.ETH_Pp_GCL_N (i : Nat) : Fld := ⟨Reg.ETH_Pp_GCL i, 5, 0⟩
def Reg.ETH_Pp_GCYCLE (i : Nat) : Nat := 0x1511C + 0x40 * (i % 7)
def F.ETH_Pp_GCYCLE_NS (i : Nat) : Fld := ⟨Reg.ETH_Pp_GCYCLE i, 29, 0⟩
def Reg.ETH_Pp_GOFF (i : Nat) : Nat := 0x15120 + 0x40 * (i % 7)
def F.ETH_Pp_GOFF_NS (i : Nat) : Fld := ⟨Reg.ETH_Pp_GOFF i, 29, 0⟩
def Reg.ETH_Pp_HOLD (i : Nat) : Nat := 0x15124 + 0x40 * (i % 7)
def F.ETH_Pp_HOLD_CNT (i : Nat) : Fld := ⟨Reg.ETH_Pp_HOLD i, 31, 0⟩
def Reg.ETH_RIOs_CFG (i : Nat) : Nat := 0x15400 + 0x20 * (i % 32)
def F.ETH_RIOs_CFG_EN (i : Nat) : Fld := ⟨Reg.ETH_RIOs_CFG i, 31, 31⟩
def F.ETH_RIOs_CFG_DIR (i : Nat) : Fld := ⟨Reg.ETH_RIOs_CFG i, 30, 30⟩
def F.ETH_RIOs_CFG_PORT (i : Nat) : Fld := ⟨Reg.ETH_RIOs_CFG i, 29, 26⟩
def F.ETH_RIOs_CFG_PCP (i : Nat) : Fld := ⟨Reg.ETH_RIOs_CFG i, 25, 23⟩
def F.ETH_RIOs_CFG_VID (i : Nat) : Fld := ⟨Reg.ETH_RIOs_CFG i, 22, 11⟩
def F.ETH_RIOs_CFG_LEN (i : Nat) : Fld := ⟨Reg.ETH_RIOs_CFG i, 10, 0⟩
def Reg.ETH_RIOs_MACLO (i : Nat) : Nat := 0x15404 + 0x20 * (i % 32)
def F.ETH_RIOs_MACLO_MAC (i : Nat) : Fld := ⟨Reg.ETH_RIOs_MACLO i, 31, 0⟩
def Reg.ETH_RIOs_MACHI (i : Nat) : Nat := 0x15408 + 0x20 * (i % 32)
def F.ETH_RIOs_MACHI_ETYPE (i : Nat) : Fld := ⟨Reg.ETH_RIOs_MACHI i, 31, 16⟩
def F.ETH_RIOs_MACHI_MAC (i : Nat) : Fld := ⟨Reg.ETH_RIOs_MACHI i, 15, 0⟩
def Reg.ETH_RIOs_STAT (i : Nat) : Nat := 0x1540C + 0x20 * (i % 32)
def F.ETH_RIOs_STAT_FRAMES (i : Nat) : Fld := ⟨Reg.ETH_RIOs_STAT i, 31, 16⟩
def F.ETH_RIOs_STAT_SHORT (i : Nat) : Fld := ⟨Reg.ETH_RIOs_STAT i, 15, 8⟩
def F.ETH_RIOs_STAT_REPLACE (i : Nat) : Fld := ⟨Reg.ETH_RIOs_STAT i, 7, 0⟩
def Reg.ETH_UDPm_CTL (i : Nat) : Nat := 0x15800 + 0x10 * (i % 8)
def F.ETH_UDPm_CTL_EN (i : Nat) : Fld := ⟨Reg.ETH_UDPm_CTL i, 31, 31⟩
def F.ETH_UDPm_CTL_COPY (i : Nat) : Fld := ⟨Reg.ETH_UDPm_CTL i, 30, 30⟩
def F.ETH_UDPm_CTL_PORT (i : Nat) : Fld := ⟨Reg.ETH_UDPm_CTL i, 15, 0⟩
def Reg.ETH_UDPm_SRC (i : Nat) : Nat := 0x15804 + 0x10 * (i % 8)
def F.ETH_UDPm_SRC_ADDR (i : Nat) : Fld := ⟨Reg.ETH_UDPm_SRC i, 31, 0⟩
def Reg.ETH_UDPm_LAYOUT (i : Nat) : Nat := 0x15808 + 0x10 * (i % 8)
def F.ETH_UDPm_LAYOUT_ADDR (i : Nat) : Fld := ⟨Reg.ETH_UDPm_LAYOUT i, 31, 0⟩
def Reg.ETH_UDPm_DROP (i : Nat) : Nat := 0x1580C + 0x10 * (i % 8)
def F.ETH_UDPm_DROP_CNT (i : Nat) : Fld := ⟨Reg.ETH_UDPm_DROP i, 31, 0⟩
def Reg.ETH_LIDu_BASE (i : Nat) : Nat := 0x15900 + 0x10 * (i % 4)
def F.ETH_LIDu_BASE_BASE (i : Nat) : Fld := ⟨Reg.ETH_LIDu_BASE i, 27, 0⟩
def Reg.ETH_LIDu_CFG (i : Nat) : Nat := 0x15904 + 0x10 * (i % 4)
def F.ETH_LIDu_CFG_EN (i : Nat) : Fld := ⟨Reg.ETH_LIDu_CFG i, 31, 31⟩
def F.ETH_LIDu_CFG_ENTRY (i : Nat) : Fld := ⟨Reg.ETH_LIDu_CFG i, 30, 30⟩
def F.ETH_LIDu_CFG_LOG2 (i : Nat) : Fld := ⟨Reg.ETH_LIDu_CFG i, 4, 0⟩
def Reg.ETH_LIDu_WPOS (i : Nat) : Nat := 0x15908 + 0x10 * (i % 4)
def F.ETH_LIDu_WPOS_WPOS (i : Nat) : Fld := ⟨Reg.ETH_LIDu_WPOS i, 31, 0⟩
def Reg.ETH_ALLOWk (i : Nat) : Nat := 0x15A00 + 0x4 * (i % 16)
def F.ETH_ALLOWk_ADDR (i : Nat) : Fld := ⟨Reg.ETH_ALLOWk i, 31, 0⟩
/-! ### Block 0x16 (GNS) -/

def Reg.GNS_CTL : Nat := 0x16000
def F.GNS_CTL_IE_POIS : Fld := ⟨Reg.GNS_CTL, 4, 4⟩
def F.GNS_CTL_IE_ANT : Fld := ⟨Reg.GNS_CTL, 3, 3⟩
def F.GNS_CTL_IE_FIX : Fld := ⟨Reg.GNS_CTL, 2, 2⟩
def F.GNS_CTL_IE_CFG : Fld := ⟨Reg.GNS_CTL, 1, 1⟩
def F.GNS_CTL_IE_MARK : Fld := ⟨Reg.GNS_CTL, 0, 0⟩
def Reg.GNS_STAT : Nat := 0x16004
def F.GNS_STAT_PARFLT : Fld := ⟨Reg.GNS_STAT, 7, 7⟩
def F.GNS_STAT_CFGREJ : Fld := ⟨Reg.GNS_STAT, 6, 6⟩
def F.GNS_STAT_ANTFLT : Fld := ⟨Reg.GNS_STAT, 5, 5⟩
def F.GNS_STAT_CHSHORT : Fld := ⟨Reg.GNS_STAT, 4, 4⟩
def F.GNS_STAT_FIXLOST : Fld := ⟨Reg.GNS_STAT, 3, 3⟩
def F.GNS_STAT_MARKSTOP : Fld := ⟨Reg.GNS_STAT, 2, 2⟩
def F.GNS_STAT_FIX : Fld := ⟨Reg.GNS_STAT, 1, 1⟩
def F.GNS_STAT_TIMEVALID : Fld := ⟨Reg.GNS_STAT, 0, 0⟩
def Reg.GNS_SNAP : Nat := 0x16008
def F.GNS_SNAP_SNAP : Fld := ⟨Reg.GNS_SNAP, 0, 0⟩
def Reg.GNS_RUN : Nat := 0x1600C
def F.GNS_RUN_EN : Fld := ⟨Reg.GNS_RUN, 31, 31⟩
def F.GNS_RUN_ANT1 : Fld := ⟨Reg.GNS_RUN, 30, 30⟩
def F.GNS_RUN_MARK : Fld := ⟨Reg.GNS_RUN, 29, 29⟩
def F.GNS_RUN_RATE : Fld := ⟨Reg.GNS_RUN, 28, 26⟩
def F.GNS_RUN_ELMASK : Fld := ⟨Reg.GNS_RUN, 7, 0⟩
def Reg.GNS_SIG : Nat := 0x16010
def F.GNS_SIG_EN : Fld := ⟨Reg.GNS_SIG, 8, 0⟩
def Reg.GNS_TRK : Nat := 0x16014
def F.GNS_TRK_PLLBW : Fld := ⟨Reg.GNS_TRK, 31, 24⟩
def F.GNS_TRK_DLLBW : Fld := ⟨Reg.GNS_TRK, 23, 16⟩
def Reg.GNS_OBSBASE : Nat := 0x16018
def F.GNS_OBSBASE_BASE : Fld := ⟨Reg.GNS_OBSBASE, 27, 0⟩
def Reg.GNS_OBSCFG : Nat := 0x1601C
def F.GNS_OBSCFG_OLOG2 : Fld := ⟨Reg.GNS_OBSCFG, 31, 28⟩
def Reg.GNS_ESEQ : Nat := 0x16020
def F.GNS_ESEQ_ESEQ : Fld := ⟨Reg.GNS_ESEQ, 31, 0⟩
def Reg.GNS_FIX : Nat := 0x16024
def F.GNS_FIX_NSV : Fld := ⟨Reg.GNS_FIX, 31, 24⟩
def F.GNS_FIX_TYPE : Fld := ⟨Reg.GNS_FIX, 23, 16⟩
def F.GNS_FIX_PDOP : Fld := ⟨Reg.GNS_FIX, 15, 0⟩
def Reg.GNS_CHUSE : Nat := 0x16028
def F.GNS_CHUSE_ANT1 : Fld := ⟨Reg.GNS_CHUSE, 31, 16⟩
def F.GNS_CHUSE_ANT0 : Fld := ⟨Reg.GNS_CHUSE, 15, 0⟩
def Reg.GNS_CHSHORT : Nat := 0x1602C
def F.GNS_CHSHORT_CNT : Fld := ⟨Reg.GNS_CHSHORT, 31, 0⟩
def Reg.GNS_GFBASE : Nat := 0x16030
def F.GNS_GFBASE_BASE : Fld := ⟨Reg.GNS_GFBASE, 27, 0⟩
def Reg.GNS_BADCFG : Nat := 0x16034
def F.GNS_BADCFG_CAUSE : Fld := ⟨Reg.GNS_BADCFG, 11, 8⟩
def Reg.GNS_MARK : Nat := 0x16038
def F.GNS_MARK_ACTIVE : Fld := ⟨Reg.GNS_MARK, 31, 31⟩
def F.GNS_MARK_SIG : Fld := ⟨Reg.GNS_MARK, 15, 0⟩
def Reg.GNS_RESID : Nat := 0x1603C
def F.GNS_RESID_RESMAX : Fld := ⟨Reg.GNS_RESID, 31, 16⟩
def F.GNS_RESID_RESRMS : Fld := ⟨Reg.GNS_RESID, 15, 0⟩
def Reg.GNS_EPOCHCNT_LO : Nat := 0x16040
def F.GNS_EPOCHCNT_LO_CNT : Fld := ⟨Reg.GNS_EPOCHCNT_LO, 31, 0⟩
def Reg.GNS_EPOCHCNT_HI : Nat := 0x16044
def F.GNS_EPOCHCNT_HI_CNT : Fld := ⟨Reg.GNS_EPOCHCNT_HI, 31, 0⟩
def Reg.GNS_SLIPCNT_LO : Nat := 0x16048
def F.GNS_SLIPCNT_LO_CNT : Fld := ⟨Reg.GNS_SLIPCNT_LO, 31, 0⟩
def Reg.GNS_SLIPCNT_HI : Nat := 0x1604C
def F.GNS_SLIPCNT_HI_CNT : Fld := ⟨Reg.GNS_SLIPCNT_HI, 31, 0⟩
def Reg.GNS_ACQ : Nat := 0x16050
def F.GNS_ACQ_SEARCHES : Fld := ⟨Reg.GNS_ACQ, 31, 16⟩
def F.GNS_ACQ_BUSY : Fld := ⟨Reg.GNS_ACQ, 15, 0⟩
def Reg.GNS_TTFF : Nat := 0x16054
def F.GNS_TTFF_MS : Fld := ⟨Reg.GNS_TTFF, 31, 0⟩
def Reg.GNS_POISCNT : Nat := 0x16058
def F.GNS_POISCNT_CNT : Fld := ⟨Reg.GNS_POISCNT, 31, 0⟩
def Reg.GNS_OBSTIME : Nat := 0x1605C
def F.GNS_OBSTIME_PEAK : Fld := ⟨Reg.GNS_OBSTIME, 31, 16⟩
def F.GNS_OBSTIME_LAST : Fld := ⟨Reg.GNS_OBSTIME, 15, 0⟩
def Reg.GNS_ISBp (i : Nat) : Nat := 0x16060 + 0x4 * (i % 6)
def F.GNS_ISBp_ISB (i : Nat) : Fld := ⟨Reg.GNS_ISBp i, 31, 0⟩
def Reg.GNS_AIDSTAT : Nat := 0x16078
def F.GNS_AIDSTAT_ORB : Fld := ⟨Reg.GNS_AIDSTAT, 31, 28⟩
def F.GNS_AIDSTAT_POS : Fld := ⟨Reg.GNS_AIDSTAT, 23, 23⟩
def F.GNS_AIDSTAT_TBOUND : Fld := ⟨Reg.GNS_AIDSTAT, 22, 0⟩
def Reg.GNS_EPHCNT : Nat := 0x1607C
def F.GNS_EPHCNT_GLO : Fld := ⟨Reg.GNS_EPHCNT, 31, 24⟩
def F.GNS_EPHCNT_BDS : Fld := ⟨Reg.GNS_EPHCNT, 23, 16⟩
def F.GNS_EPHCNT_GAL : Fld := ⟨Reg.GNS_EPHCNT, 15, 8⟩
def F.GNS_EPHCNT_GPS : Fld := ⟨Reg.GNS_EPHCNT, 7, 0⟩
def Reg.GNS_ANTa_CTL (i : Nat) : Nat := 0x16080 + 0x40 * (i % 2)
def F.GNS_ANTa_CTL_FEED (i : Nat) : Fld := ⟨Reg.GNS_ANTa_CTL i, 31, 31⟩
def F.GNS_ANTa_CTL_VOLT (i : Nat) : Fld := ⟨Reg.GNS_ANTa_CTL i, 30, 30⟩
def Reg.GNS_ANTa_STAT (i : Nat) : Nat := 0x16084 + 0x40 * (i % 2)
def F.GNS_ANTa_STAT_FEEDST (i : Nat) : Fld := ⟨Reg.GNS_ANTa_STAT i, 31, 30⟩
def F.GNS_ANTa_STAT_MA (i : Nat) : Fld := ⟨Reg.GNS_ANTa_STAT i, 15, 0⟩
def Reg.GNS_ANTa_POSX (i : Nat) : Nat := 0x16088 + 0x40 * (i % 2)
def F.GNS_ANTa_POSX_POS (i : Nat) : Fld := ⟨Reg.GNS_ANTa_POSX i, 31, 0⟩
def Reg.GNS_ANTa_POSY (i : Nat) : Nat := 0x1608C + 0x40 * (i % 2)
def F.GNS_ANTa_POSY_POS (i : Nat) : Fld := ⟨Reg.GNS_ANTa_POSY i, 31, 0⟩
def Reg.GNS_ANTa_POSZ (i : Nat) : Nat := 0x16090 + 0x40 * (i % 2)
def F.GNS_ANTa_POSZ_POS (i : Nat) : Fld := ⟨Reg.GNS_ANTa_POSZ i, 31, 0⟩
def Reg.GNS_ANTa_CABLE (i : Nat) : Nat := 0x16094 + 0x40 * (i % 2)
def F.GNS_ANTa_CABLE_DELAY (i : Nat) : Fld := ⟨Reg.GNS_ANTa_CABLE i, 15, 0⟩
def Reg.GNS_ANTa_CN0 (i : Nat) : Nat := 0x16098 + 0x40 * (i % 2)
def F.GNS_ANTa_CN0_L5 (i : Nat) : Fld := ⟨Reg.GNS_ANTa_CN0 i, 23, 16⟩
def F.GNS_ANTa_CN0_L2 (i : Nat) : Fld := ⟨Reg.GNS_ANTa_CN0 i, 15, 8⟩
def F.GNS_ANTa_CN0_L1 (i : Nat) : Fld := ⟨Reg.GNS_ANTa_CN0 i, 7, 0⟩
def Reg.GNS_ANTa_SIGCNT (i : Nat) : Nat := 0x1609C + 0x40 * (i % 2)
def F.GNS_ANTa_SIGCNT_L5 (i : Nat) : Fld := ⟨Reg.GNS_ANTa_SIGCNT i, 29, 20⟩
def F.GNS_ANTa_SIGCNT_L2 (i : Nat) : Fld := ⟨Reg.GNS_ANTa_SIGCNT i, 19, 10⟩
def F.GNS_ANTa_SIGCNT_L1 (i : Nat) : Fld := ⟨Reg.GNS_ANTa_SIGCNT i, 9, 0⟩
def Reg.GNS_ANTa_SLIPS (i : Nat) : Nat := 0x160A0 + 0x40 * (i % 2)
def F.GNS_ANTa_SLIPS_CNT (i : Nat) : Fld := ⟨Reg.GNS_ANTa_SLIPS i, 31, 0⟩
def Reg.GNS_ANTa_LOSTS (i : Nat) : Nat := 0x160A4 + 0x40 * (i % 2)
def F.GNS_ANTa_LOSTS_CNT (i : Nat) : Fld := ⟨Reg.GNS_ANTa_LOSTS i, 31, 0⟩
def Reg.GNS_SVTRKs_LO (i : Nat) : Nat := 0x16100 + 0x10 * (i % 4)
def F.GNS_SVTRKs_LO_SV (i : Nat) : Fld := ⟨Reg.GNS_SVTRKs_LO i, 31, 0⟩
def Reg.GNS_SVTRKs_HI (i : Nat) : Nat := 0x16104 + 0x10 * (i % 4)
def F.GNS_SVTRKs_HI_SV (i : Nat) : Fld := ⟨Reg.GNS_SVTRKs_HI i, 31, 0⟩
def Reg.GNS_SVUSEs_LO (i : Nat) : Nat := 0x16108 + 0x10 * (i % 4)
def F.GNS_SVUSEs_LO_SV (i : Nat) : Fld := ⟨Reg.GNS_SVUSEs_LO i, 31, 0⟩
def Reg.GNS_SVUSEs_HI (i : Nat) : Nat := 0x1610C + 0x10 * (i % 4)
def F.GNS_SVUSEs_HI_SV (i : Nat) : Fld := ⟨Reg.GNS_SVUSEs_HI i, 31, 0⟩
def Reg.GNS_ACQu_SIG (i : Nat) : Nat := 0x16200 + 0x20 * (i % 16)
def F.GNS_ACQu_SIG_STATE (i : Nat) : Fld := ⟨Reg.GNS_ACQu_SIG i, 31, 30⟩
def F.GNS_ACQu_SIG_ANT (i : Nat) : Fld := ⟨Reg.GNS_ACQu_SIG i, 29, 29⟩
def F.GNS_ACQu_SIG_SYS (i : Nat) : Fld := ⟨Reg.GNS_ACQu_SIG i, 28, 27⟩
def F.GNS_ACQu_SIG_SV (i : Nat) : Fld := ⟨Reg.GNS_ACQu_SIG i, 26, 21⟩
def F.GNS_ACQu_SIG_SIG (i : Nat) : Fld := ⟨Reg.GNS_ACQu_SIG i, 20, 17⟩
def Reg.GNS_ACQu_WCODE (i : Nat) : Nat := 0x16204 + 0x20 * (i % 16)
def F.GNS_ACQu_WCODE_NC (i : Nat) : Fld := ⟨Reg.GNS_ACQu_WCODE i, 15, 0⟩
def Reg.GNS_ACQu_WDOP (i : Nat) : Nat := 0x16208 + 0x20 * (i % 16)
def F.GNS_ACQu_WDOP_WD (i : Nat) : Fld := ⟨Reg.GNS_ACQu_WDOP i, 15, 0⟩
def Reg.GNS_ACQu_CELLS (i : Nat) : Nat := 0x1620C + 0x20 * (i % 16)
def F.GNS_ACQu_CELLS_CNT (i : Nat) : Fld := ⟨Reg.GNS_ACQu_CELLS i, 31, 0⟩
def Reg.GNS_ACQu_TIME (i : Nat) : Nat := 0x16210 + 0x20 * (i % 16)
def F.GNS_ACQu_TIME_PEAK (i : Nat) : Fld := ⟨Reg.GNS_ACQu_TIME i, 31, 16⟩
def F.GNS_ACQu_TIME_LAST (i : Nat) : Fld := ⟨Reg.GNS_ACQu_TIME i, 15, 0⟩
def Reg.GNS_CHPk (i : Nat) : Nat := 0x16400 + 0x4 * (i % 192)
def F.GNS_CHPk_STATE1 (i : Nat) : Fld := ⟨Reg.GNS_CHPk i, 31, 29⟩
def F.GNS_CHPk_ANT1 (i : Nat) : Fld := ⟨Reg.GNS_CHPk i, 28, 28⟩
def F.GNS_CHPk_SIG1 (i : Nat) : Fld := ⟨Reg.GNS_CHPk i, 27, 24⟩
def F.GNS_CHPk_CN01 (i : Nat) : Fld := ⟨Reg.GNS_CHPk i, 23, 16⟩
def F.GNS_CHPk_STATE0 (i : Nat) : Fld := ⟨Reg.GNS_CHPk i, 15, 13⟩
def F.GNS_CHPk_ANT0 (i : Nat) : Fld := ⟨Reg.GNS_CHPk i, 12, 12⟩
def F.GNS_CHPk_SIG0 (i : Nat) : Fld := ⟨Reg.GNS_CHPk i, 11, 8⟩
def F.GNS_CHPk_CN00 (i : Nat) : Fld := ⟨Reg.GNS_CHPk i, 7, 0⟩
/-! ### Block 0x17 (CAM) -/

def Reg.CAM_CTL : Nat := 0x17000
def F.CAM_CTL_IE_POIS : Fld := ⟨Reg.CAM_CTL, 2, 2⟩
def F.CAM_CTL_IE_SKIP : Fld := ⟨Reg.CAM_CTL, 1, 1⟩
def F.CAM_CTL_IE_CFG : Fld := ⟨Reg.CAM_CTL, 0, 0⟩
def Reg.CAM_STAT : Nat := 0x17004
def F.CAM_STAT_PARFLT : Fld := ⟨Reg.CAM_STAT, 6, 6⟩
def F.CAM_STAT_BSFULL : Fld := ⟨Reg.CAM_STAT, 5, 5⟩
def F.CAM_STAT_SKIP : Fld := ⟨Reg.CAM_STAT, 4, 4⟩
def F.CAM_STAT_CFGREJ : Fld := ⟨Reg.CAM_STAT, 3, 3⟩
def F.CAM_STAT_ENCOVERSLOW : Fld := ⟨Reg.CAM_STAT, 2, 2⟩
def F.CAM_STAT_OVERSLOW : Fld := ⟨Reg.CAM_STAT, 1, 1⟩
def Reg.CAM_SNAP : Nat := 0x17008
def F.CAM_SNAP_SNAP : Fld := ⟨Reg.CAM_SNAP, 0, 0⟩
def Reg.CAM_BUDGET : Nat := 0x1700C
def F.CAM_BUDGET_LIMIT : Fld := ⟨Reg.CAM_BUDGET, 31, 16⟩
def F.CAM_BUDGET_SUM : Fld := ⟨Reg.CAM_BUDGET, 15, 0⟩
def Reg.CAM_ENCBUDGET : Nat := 0x17010
def F.CAM_ENCBUDGET_LIMIT : Fld := ⟨Reg.CAM_ENCBUDGET, 31, 16⟩
def F.CAM_ENCBUDGET_SUM : Fld := ⟨Reg.CAM_ENCBUDGET, 15, 0⟩
def Reg.CAM_LINKUP : Nat := 0x17014
def F.CAM_LINKUP_STREAM : Fld := ⟨Reg.CAM_LINKUP, 11, 0⟩
def Reg.CAM_PAD : Nat := 0x17018
def F.CAM_PAD_PAD : Fld := ⟨Reg.CAM_PAD, 13, 0⟩
def Reg.CAM_BADCFG : Nat := 0x1701C
def F.CAM_BADCFG_CAUSE : Fld := ⟨Reg.CAM_BADCFG, 11, 8⟩
def F.CAM_BADCFG_UNIT : Fld := ⟨Reg.CAM_BADCFG, 5, 0⟩
def Reg.CAM_FRAMECNT_LO : Nat := 0x17020
def F.CAM_FRAMECNT_LO_CNT : Fld := ⟨Reg.CAM_FRAMECNT_LO, 31, 0⟩
def Reg.CAM_FRAMECNT_HI : Nat := 0x17024
def F.CAM_FRAMECNT_HI_CNT : Fld := ⟨Reg.CAM_FRAMECNT_HI, 31, 0⟩
def Reg.CAM_SKIPCNT_LO : Nat := 0x17028
def F.CAM_SKIPCNT_LO_CNT : Fld := ⟨Reg.CAM_SKIPCNT_LO, 31, 0⟩
def Reg.CAM_SKIPCNT_HI : Nat := 0x1702C
def F.CAM_SKIPCNT_HI_CNT : Fld := ⟨Reg.CAM_SKIPCNT_HI, 31, 0⟩
def Reg.CAM_ORPHCNT_LO : Nat := 0x17030
def F.CAM_ORPHCNT_LO_CNT : Fld := ⟨Reg.CAM_ORPHCNT_LO, 31, 0⟩
def Reg.CAM_ORPHCNT_HI : Nat := 0x17034
def F.CAM_ORPHCNT_HI_CNT : Fld := ⟨Reg.CAM_ORPHCNT_HI, 31, 0⟩
def Reg.CAM_POISCNT : Nat := 0x17038
def F.CAM_POISCNT_CNT : Fld := ⟨Reg.CAM_POISCNT, 31, 0⟩
def Reg.CAM_BACKLOG : Nat := 0x1703C
def F.CAM_BACKLOG_PEAK : Fld := ⟨Reg.CAM_BACKLOG, 31, 16⟩
def F.CAM_BACKLOG_NOW : Fld := ⟨Reg.CAM_BACKLOG, 15, 0⟩
def Reg.CAM_PIXRATE : Nat := 0x17040
def F.CAM_PIXRATE_DONE : Fld := ⟨Reg.CAM_PIXRATE, 31, 16⟩
def F.CAM_PIXRATE_IN : Fld := ⟨Reg.CAM_PIXRATE, 15, 0⟩
def Reg.CAM_PACEREQ : Nat := 0x17044
def F.CAM_PACEREQ_PACE : Fld := ⟨Reg.CAM_PACEREQ, 15, 0⟩
def Reg.CAM_ENCPACEREQ : Nat := 0x17048
def F.CAM_ENCPACEREQ_PACE : Fld := ⟨Reg.CAM_ENCPACEREQ, 15, 0⟩
def Reg.CAM_TABCNT : Nat := 0x1704C
def F.CAM_TABCNT_CNT : Fld := ⟨Reg.CAM_TABCNT, 31, 0⟩
def Reg.CAM_LNKn_CTL (i : Nat) : Nat := 0x17100 + 0x40 * (i % 12)
def F.CAM_LNKn_CTL_EN (i : Nat) : Fld := ⟨Reg.CAM_LNKn_CTL i, 31, 31⟩
def F.CAM_LNKn_CTL_POC (i : Nat) : Fld := ⟨Reg.CAM_LNKn_CTL i, 30, 30⟩
def F.CAM_LNKn_CTL_GEAR (i : Nat) : Fld := ⟨Reg.CAM_LNKn_CTL i, 29, 28⟩
def F.CAM_LNKn_CTL_VC (i : Nat) : Fld := ⟨Reg.CAM_LNKn_CTL i, 27, 26⟩
def F.CAM_LNKn_CTL_DT (i : Nat) : Fld := ⟨Reg.CAM_LNKn_CTL i, 25, 24⟩
def F.CAM_LNKn_CTL_CFA (i : Nat) : Fld := ⟨Reg.CAM_LNKn_CTL i, 23, 21⟩
def F.CAM_LNKn_CTL_PRIO (i : Nat) : Fld := ⟨Reg.CAM_LNKn_CTL i, 20, 19⟩
def F.CAM_LNKn_CTL_OUTEN (i : Nat) : Fld := ⟨Reg.CAM_LNKn_CTL i, 18, 16⟩
def F.CAM_LNKn_CTL_MVFMT (i : Nat) : Fld := ⟨Reg.CAM_LNKn_CTL i, 15, 15⟩
def F.CAM_LNKn_CTL_DLOG2 (i : Nat) : Fld := ⟨Reg.CAM_LNKn_CTL i, 14, 12⟩
def F.CAM_LNKn_CTL_CLOG2 (i : Nat) : Fld := ⟨Reg.CAM_LNKn_CTL i, 11, 9⟩
def F.CAM_LNKn_CTL_MLOG2 (i : Nat) : Fld := ⟨Reg.CAM_LNKn_CTL i, 8, 6⟩
def Reg.CAM_LNKn_GEOM (i : Nat) : Nat := 0x17104 + 0x40 * (i % 12)
def F.CAM_LNKn_GEOM_ACTH (i : Nat) : Fld := ⟨Reg.CAM_LNKn_GEOM i, 31, 16⟩
def F.CAM_LNKn_GEOM_ACTW (i : Nat) : Fld := ⟨Reg.CAM_LNKn_GEOM i, 15, 0⟩
def Reg.CAM_LNKn_TIME (i : Nat) : Nat := 0x17108 + 0x40 * (i % 12)
def F.CAM_LNKn_TIME_SYNC (i : Nat) : Fld := ⟨Reg.CAM_LNKn_TIME i, 31, 31⟩
def F.CAM_LNKn_TIME_FPSMAX (i : Nat) : Fld := ⟨Reg.CAM_LNKn_TIME i, 30, 24⟩
def F.CAM_LNKn_TIME_LINETMO (i : Nat) : Fld := ⟨Reg.CAM_LNKn_TIME i, 23, 12⟩
def F.CAM_LNKn_TIME_FRMTMO (i : Nat) : Fld := ⟨Reg.CAM_LNKn_TIME i, 11, 0⟩
def Reg.CAM_LNKn_STAT (i : Nat) : Nat := 0x1710C + 0x40 * (i % 12)
def F.CAM_LNKn_STAT_STATE (i : Nat) : Fld := ⟨Reg.CAM_LNKn_STAT i, 31, 29⟩
def F.CAM_LNKn_STAT_POCFLT (i : Nat) : Fld := ⟨Reg.CAM_LNKn_STAT i, 28, 28⟩
def F.CAM_LNKn_STAT_TRAINRETRY (i : Nat) : Fld := ⟨Reg.CAM_LNKn_STAT i, 23, 16⟩
def F.CAM_LNKn_STAT_BUFLINES (i : Nat) : Fld := ⟨Reg.CAM_LNKn_STAT i, 15, 0⟩
def Reg.CAM_LNKn_NR (i : Nat) : Nat := 0x17110 + 0x40 * (i % 12)
def F.CAM_LNKn_NR_SPAT (i : Nat) : Fld := ⟨Reg.CAM_LNKn_NR i, 31, 24⟩
def F.CAM_LNKn_NR_TEMP (i : Nat) : Fld := ⟨Reg.CAM_LNKn_NR i, 23, 16⟩
def F.CAM_LNKn_NR_MOTTHR (i : Nat) : Fld := ⟨Reg.CAM_LNKn_NR i, 15, 0⟩
def Reg.CAM_LNKn_BLACK (i : Nat) : Nat := 0x17114 + 0x40 * (i % 12)
def F.CAM_LNKn_BLACK_BLACK (i : Nat) : Fld := ⟨Reg.CAM_LNKn_BLACK i, 13, 0⟩
def Reg.CAM_LNKn_WB (i : Nat) : Nat := 0x17118 + 0x40 * (i % 12)
def F.CAM_LNKn_WB_RGAIN (i : Nat) : Fld := ⟨Reg.CAM_LNKn_WB i, 31, 16⟩
def F.CAM_LNKn_WB_BGAIN (i : Nat) : Fld := ⟨Reg.CAM_LNKn_WB i, 15, 0⟩
def Reg.CAM_LNKn_DSIZE (i : Nat) : Nat := 0x1711C + 0x40 * (i % 12)
def F.CAM_LNKn_DSIZE_H (i : Nat) : Fld := ⟨Reg.CAM_LNKn_DSIZE i, 31, 16⟩
def F.CAM_LNKn_DSIZE_W (i : Nat) : Fld := ⟨Reg.CAM_LNKn_DSIZE i, 15, 0⟩
def Reg.CAM_LNKn_CSIZE (i : Nat) : Nat := 0x17120 + 0x40 * (i % 12)
def F.CAM_LNKn_CSIZE_H (i : Nat) : Fld := ⟨Reg.CAM_LNKn_CSIZE i, 31, 16⟩
def F.CAM_LNKn_CSIZE_W (i : Nat) : Fld := ⟨Reg.CAM_LNKn_CSIZE i, 15, 0⟩
def Reg.CAM_LNKn_MSIZE (i : Nat) : Nat := 0x17124 + 0x40 * (i % 12)
def F.CAM_LNKn_MSIZE_H (i : Nat) : Fld := ⟨Reg.CAM_LNKn_MSIZE i, 31, 16⟩
def F.CAM_LNKn_MSIZE_W (i : Nat) : Fld := ⟨Reg.CAM_LNKn_MSIZE i, 15, 0⟩
def Reg.CAM_LNKn_SYNC (i : Nat) : Nat := 0x17128 + 0x40 * (i % 12)
def F.CAM_LNKn_SYNC_SYNCOFF (i : Nat) : Fld := ⟨Reg.CAM_LNKn_SYNC i, 31, 16⟩
def F.CAM_LNKn_SYNC_EXPOFF (i : Nat) : Fld := ⟨Reg.CAM_LNKn_SYNC i, 15, 0⟩
def Reg.CAM_LNKn_FSEQ (i : Nat) : Nat := 0x1712C + 0x40 * (i % 12)
def F.CAM_LNKn_FSEQ_FSEQ (i : Nat) : Fld := ⟨Reg.CAM_LNKn_FSEQ i, 31, 0⟩
def Reg.CAM_LNKn_ERRCNT (i : Nat) : Nat := 0x17130 + 0x40 * (i % 12)
def F.CAM_LNKn_ERRCNT_HDR (i : Nat) : Fld := ⟨Reg.CAM_LNKn_ERRCNT i, 31, 16⟩
def F.CAM_LNKn_ERRCNT_CRC (i : Nat) : Fld := ⟨Reg.CAM_LNKn_ERRCNT i, 15, 0⟩
def Reg.CAM_LNKn_ORPHAN (i : Nat) : Nat := 0x17134 + 0x40 * (i % 12)
def F.CAM_LNKn_ORPHAN_CNT (i : Nat) : Fld := ⟨Reg.CAM_LNKn_ORPHAN i, 31, 0⟩
def Reg.CAM_LNKn_DROPL (i : Nat) : Nat := 0x17138 + 0x40 * (i % 12)
def F.CAM_LNKn_DROPL_CNT (i : Nat) : Fld := ⟨Reg.CAM_LNKn_DROPL i, 31, 0⟩
def Reg.CAM_LNKn_INFO (i : Nat) : Nat := 0x1713C + 0x40 * (i % 12)
def F.CAM_LNKn_INFO_REMID (i : Nat) : Fld := ⟨Reg.CAM_LNKn_INFO i, 31, 0⟩
def Reg.CAM_BUFn_HBASE (i : Nat) : Nat := 0x17400 + 0x10 * (i % 12)
def F.CAM_BUFn_HBASE_BASE (i : Nat) : Fld := ⟨Reg.CAM_BUFn_HBASE i, 27, 0⟩
def Reg.CAM_BUFn_DBASE (i : Nat) : Nat := 0x17404 + 0x10 * (i % 12)
def F.CAM_BUFn_DBASE_BASE (i : Nat) : Fld := ⟨Reg.CAM_BUFn_DBASE i, 27, 0⟩
def Reg.CAM_BUFn_CBASE (i : Nat) : Nat := 0x17408 + 0x10 * (i % 12)
def F.CAM_BUFn_CBASE_BASE (i : Nat) : Fld := ⟨Reg.CAM_BUFn_CBASE i, 27, 0⟩
def Reg.CAM_BUFn_MBASE (i : Nat) : Nat := 0x1740C + 0x10 * (i % 12)
def F.CAM_BUFn_MBASE_BASE (i : Nat) : Fld := ⟨Reg.CAM_BUFn_MBASE i, 27, 0⟩
def Reg.CAM_ENCCTL : Nat := 0x177E0
def F.CAM_ENCCTL_EN : Fld := ⟨Reg.CAM_ENCCTL, 0, 0⟩
def Reg.CAM_ENCSTAT : Nat := 0x177E4
def F.CAM_ENCSTAT_RUN : Fld := ⟨Reg.CAM_ENCSTAT, 23, 0⟩
def Reg.CAM_BSBASE : Nat := 0x177E8
def F.CAM_BSBASE_BASE : Fld := ⟨Reg.CAM_BSBASE, 27, 0⟩
def Reg.CAM_BSCFG : Nat := 0x177EC
def F.CAM_BSCFG_BSLOG2 : Fld := ⟨Reg.CAM_BSCFG, 4, 0⟩
def Reg.CAM_BSWPOS : Nat := 0x177F0
def F.CAM_BSWPOS_POS : Fld := ⟨Reg.CAM_BSWPOS, 31, 0⟩
def Reg.CAM_BSRPOS : Nat := 0x177F4
def F.CAM_BSRPOS_POS : Fld := ⟨Reg.CAM_BSRPOS, 31, 0⟩
def Reg.CAM_AUDROP : Nat := 0x177F8
def F.CAM_AUDROP_CNT : Fld := ⟨Reg.CAM_AUDROP, 31, 0⟩
def Reg.CAM_ENCLOAD : Nat := 0x177FC
def F.CAM_ENCLOAD_MPIX : Fld := ⟨Reg.CAM_ENCLOAD, 15, 0⟩
def Reg.CAM_ENCs_CFG (i : Nat) : Nat := 0x17800 + 0x20 * (i % 24)
def F.CAM_ENCs_CFG_EN (i : Nat) : Fld := ⟨Reg.CAM_ENCs_CFG i, 31, 31⟩
def F.CAM_ENCs_CFG_MAIN10 (i : Nat) : Fld := ⟨Reg.CAM_ENCs_CFG i, 30, 30⟩
def F.CAM_ENCs_CFG_RC (i : Nat) : Fld := ⟨Reg.CAM_ENCs_CFG i, 29, 28⟩
def F.CAM_ENCs_CFG_SRC (i : Nat) : Fld := ⟨Reg.CAM_ENCs_CFG i, 27, 24⟩
def F.CAM_ENCs_CFG_FPSDIV (i : Nat) : Fld := ⟨Reg.CAM_ENCs_CFG i, 23, 16⟩
def F.CAM_ENCs_CFG_IPER (i : Nat) : Fld := ⟨Reg.CAM_ENCs_CFG i, 15, 0⟩
def Reg.CAM_ENCs_RATE (i : Nat) : Nat := 0x17804 + 0x20 * (i % 24)
def F.CAM_ENCs_RATE_KBPS (i : Nat) : Fld := ⟨Reg.CAM_ENCs_RATE i, 31, 0⟩
def Reg.CAM_ENCs_QP (i : Nat) : Nat := 0x17808 + 0x20 * (i % 24)
def F.CAM_ENCs_QP_QPMIN (i : Nat) : Fld := ⟨Reg.CAM_ENCs_QP i, 23, 16⟩
def F.CAM_ENCs_QP_QPMAX (i : Nat) : Fld := ⟨Reg.CAM_ENCs_QP i, 15, 8⟩
def F.CAM_ENCs_QP_QPC (i : Nat) : Fld := ⟨Reg.CAM_ENCs_QP i, 7, 0⟩
def Reg.CAM_ENCs_VBV (i : Nat) : Nat := 0x1780C + 0x20 * (i % 24)
def F.CAM_ENCs_VBV_KBIT (i : Nat) : Fld := ⟨Reg.CAM_ENCs_VBV i, 31, 0⟩
def Reg.CAM_ENCs_STAT (i : Nat) : Nat := 0x17810 + 0x20 * (i % 24)
def F.CAM_ENCs_STAT_LASTQP (i : Nat) : Fld := ⟨Reg.CAM_ENCs_STAT i, 29, 24⟩
def F.CAM_ENCs_STAT_PEND (i : Nat) : Fld := ⟨Reg.CAM_ENCs_STAT i, 15, 0⟩
def Reg.CAM_ENCs_AUSEQ (i : Nat) : Nat := 0x17814 + 0x20 * (i % 24)
def F.CAM_ENCs_AUSEQ_CNT (i : Nat) : Fld := ⟨Reg.CAM_ENCs_AUSEQ i, 31, 0⟩
def Reg.CAM_ENCs_SKIP (i : Nat) : Nat := 0x17818 + 0x20 * (i % 24)
def F.CAM_ENCs_SKIP_CNT (i : Nat) : Fld := ⟨Reg.CAM_ENCs_SKIP i, 31, 0⟩
def Reg.CAM_ENCs_CMD (i : Nat) : Nat := 0x1781C + 0x20 * (i % 24)
def F.CAM_ENCs_CMD_RESTART (i : Nat) : Fld := ⟨Reg.CAM_ENCs_CMD i, 1, 1⟩
def F.CAM_ENCs_CMD_FORCEIDR (i : Nat) : Fld := ⟨Reg.CAM_ENCs_CMD i, 0, 0⟩
/-! ### Block 0x18 (PRA) -/

def Reg.PRA_CTL : Nat := 0x18000
def F.PRA_CTL_IE_POIS : Fld := ⟨Reg.PRA_CTL, 3, 3⟩
def F.PRA_CTL_IE_AGE : Fld := ⟨Reg.PRA_CTL, 2, 2⟩
def F.PRA_CTL_IE_EXCL : Fld := ⟨Reg.PRA_CTL, 1, 1⟩
def F.PRA_CTL_IE_CFG : Fld := ⟨Reg.PRA_CTL, 0, 0⟩
def Reg.PRA_STAT : Nat := 0x18004
def F.PRA_STAT_PARFLT : Fld := ⟨Reg.PRA_STAT, 7, 7⟩
def F.PRA_STAT_CFGREJ : Fld := ⟨Reg.PRA_STAT, 6, 6⟩
def F.PRA_STAT_WPOISON : Fld := ⟨Reg.PRA_STAT, 5, 5⟩
def F.PRA_STAT_OVERAGE : Fld := ⟨Reg.PRA_STAT, 4, 4⟩
def F.PRA_STAT_SKIP : Fld := ⟨Reg.PRA_STAT, 3, 3⟩
def F.PRA_STAT_EXCL : Fld := ⟨Reg.PRA_STAT, 2, 2⟩
def F.PRA_STAT_POSESTALE : Fld := ⟨Reg.PRA_STAT, 1, 1⟩
def Reg.PRA_SNAP : Nat := 0x18008
def F.PRA_SNAP_SNAP : Fld := ⟨Reg.PRA_SNAP, 0, 0⟩
def Reg.PRA_GCTL : Nat := 0x1800C
def F.PRA_GCTL_EN : Fld := ⟨Reg.PRA_GCTL, 31, 31⟩
def F.PRA_GCTL_MODE : Fld := ⟨Reg.PRA_GCTL, 30, 30⟩
def F.PRA_GCTL_GDIV : Fld := ⟨Reg.PRA_GCTL, 23, 16⟩
def F.PRA_GCTL_PTMO : Fld := ⟨Reg.PRA_GCTL, 15, 0⟩
def Reg.PRA_GPERIOD : Nat := 0x18010
def F.PRA_GPERIOD_PERIOD : Fld := ⟨Reg.PRA_GPERIOD, 15, 0⟩
def Reg.PRA_GOFF : Nat := 0x18014
def F.PRA_GOFF_GOFF : Fld := ⟨Reg.PRA_GOFF, 19, 0⟩
def Reg.PRA_GBASE : Nat := 0x18018
def F.PRA_GBASE_BASE : Fld := ⟨Reg.PRA_GBASE, 27, 0⟩
def Reg.PRA_GCFG : Nat := 0x1801C
def F.PRA_GCFG_GLOG2 : Fld := ⟨Reg.PRA_GCFG, 31, 28⟩
def F.PRA_GCFG_STALE : Fld := ⟨Reg.PRA_GCFG, 15, 0⟩
def Reg.PRA_POSEBASE : Nat := 0x18020
def F.PRA_POSEBASE_BASE : Fld := ⟨Reg.PRA_POSEBASE, 29, 0⟩
def Reg.PRA_POSECFG : Nat := 0x18024
def F.PRA_POSECFG_EN : Fld := ⟨Reg.PRA_POSECFG, 31, 31⟩
def F.PRA_POSECFG_PLOG2 : Fld := ⟨Reg.PRA_POSECFG, 28, 24⟩
def Reg.PRA_POSEWPOS : Nat := 0x18028
def F.PRA_POSEWPOS_WPOS : Fld := ⟨Reg.PRA_POSEWPOS, 31, 0⟩
def Reg.PRA_GSEQ : Nat := 0x1802C
def F.PRA_GSEQ_GSEQ : Fld := ⟨Reg.PRA_GSEQ, 31, 0⟩
def Reg.PRA_AGE : Nat := 0x18030
def F.PRA_AGE_PEAK : Fld := ⟨Reg.PRA_AGE, 31, 16⟩
def F.PRA_AGE_LAST : Fld := ⟨Reg.PRA_AGE, 15, 0⟩
def Reg.PRA_AGEBOUND : Nat := 0x18034
def F.PRA_AGEBOUND_BOUND : Fld := ⟨Reg.PRA_AGEBOUND, 15, 0⟩
def Reg.PRA_NETID : Nat := 0x18038
def Reg.PRA_NETVER : Nat := 0x1803C
def Reg.PRA_NETSTAT : Nat := 0x18040
def F.PRA_NETSTAT_STATE : Fld := ⟨Reg.PRA_NETSTAT, 31, 30⟩
def F.PRA_NETSTAT_RESIDENT : Fld := ⟨Reg.PRA_NETSTAT, 29, 29⟩
def F.PRA_NETSTAT_OVERBUDGET : Fld := ⟨Reg.PRA_NETSTAT, 28, 28⟩
def Reg.PRA_GRIDCNT_LO : Nat := 0x18044
def F.PRA_GRIDCNT_LO_CNT : Fld := ⟨Reg.PRA_GRIDCNT_LO, 31, 0⟩
def Reg.PRA_GRIDCNT_HI : Nat := 0x18048
def F.PRA_GRIDCNT_HI_CNT : Fld := ⟨Reg.PRA_GRIDCNT_HI, 31, 0⟩
def Reg.PRA_SKIPCNT_LO : Nat := 0x1804C
def F.PRA_SKIPCNT_LO_CNT : Fld := ⟨Reg.PRA_SKIPCNT_LO, 31, 0⟩
def Reg.PRA_SKIPCNT_HI : Nat := 0x18050
def F.PRA_SKIPCNT_HI_CNT : Fld := ⟨Reg.PRA_SKIPCNT_HI, 31, 0⟩
def Reg.PRA_POISCNT : Nat := 0x18054
def F.PRA_POISCNT_CNT : Fld := ⟨Reg.PRA_POISCNT, 31, 0⟩
def Reg.PRA_BADCFG : Nat := 0x18058
def F.PRA_BADCFG_CAUSE : Fld := ⟨Reg.PRA_BADCFG, 11, 8⟩
def F.PRA_BADCFG_UNIT : Fld := ⟨Reg.PRA_BADCFG, 4, 0⟩
def Reg.PRA_LIDPTS : Nat := 0x1805C
def F.PRA_LIDPTS_CNT : Fld := ⟨Reg.PRA_LIDPTS, 31, 0⟩
def Reg.PRA_LIDDROP : Nat := 0x18060
def F.PRA_LIDDROP_CNT : Fld := ⟨Reg.PRA_LIDDROP, 31, 0⟩
def Reg.PRA_CYCTIME : Nat := 0x18064
def F.PRA_CYCTIME_PEAK : Fld := ⟨Reg.PRA_CYCTIME, 31, 16⟩
def F.PRA_CYCTIME_LAST : Fld := ⟨Reg.PRA_CYCTIME, 15, 0⟩
def Reg.PRA_SENSn_CTL (i : Nat) : Nat := 0x18100 + 0x40 * (i % 16)
def F.PRA_SENSn_CTL_EN (i : Nat) : Fld := ⟨Reg.PRA_SENSn_CTL i, 31, 31⟩
def F.PRA_SENSn_CTL_PACE (i : Nat) : Fld := ⟨Reg.PRA_SENSn_CTL i, 30, 30⟩
def F.PRA_SENSn_CTL_HDR (i : Nat) : Fld := ⟨Reg.PRA_SENSn_CTL i, 29, 29⟩
def Reg.PRA_SENSn_STAT (i : Nat) : Nat := 0x18104 + 0x40 * (i % 16)
def F.PRA_SENSn_STAT_STATE (i : Nat) : Fld := ⟨Reg.PRA_SENSn_STAT i, 31, 29⟩
def F.PRA_SENSn_STAT_FROZEN (i : Nat) : Fld := ⟨Reg.PRA_SENSn_STAT i, 28, 28⟩
def F.PRA_SENSn_STAT_LIMIT (i : Nat) : Fld := ⟨Reg.PRA_SENSn_STAT i, 27, 27⟩
def F.PRA_SENSn_STAT_MANUAL (i : Nat) : Fld := ⟨Reg.PRA_SENSn_STAT i, 26, 26⟩
def F.PRA_SENSn_STAT_CONF (i : Nat) : Fld := ⟨Reg.PRA_SENSn_STAT i, 7, 0⟩
def Reg.PRA_SENSn_RES (i : Nat) : Nat := 0x18108 + 0x40 * (i % 16)
def F.PRA_SENSn_RES_PEAK (i : Nat) : Fld := ⟨Reg.PRA_SENSn_RES i, 31, 16⟩
def F.PRA_SENSn_RES_RES (i : Nat) : Fld := ⟨Reg.PRA_SENSn_RES i, 15, 0⟩
def Reg.PRA_SENSn_DROPF (i : Nat) : Nat := 0x1810C + 0x40 * (i % 16)
def F.PRA_SENSn_DROPF_CNT (i : Nat) : Fld := ⟨Reg.PRA_SENSn_DROPF i, 31, 0⟩
def Reg.PRA_SENSn_DTX (i : Nat) : Nat := 0x18110 + 0x40 * (i % 16)
def F.PRA_SENSn_DTX_DT (i : Nat) : Fld := ⟨Reg.PRA_SENSn_DTX i, 31, 0⟩
def Reg.PRA_SENSn_DTY (i : Nat) : Nat := 0x18114 + 0x40 * (i % 16)
def F.PRA_SENSn_DTY_DT (i : Nat) : Fld := ⟨Reg.PRA_SENSn_DTY i, 31, 0⟩
def Reg.PRA_SENSn_DTZ (i : Nat) : Nat := 0x18118 + 0x40 * (i % 16)
def F.PRA_SENSn_DTZ_DT (i : Nat) : Fld := ⟨Reg.PRA_SENSn_DTZ i, 31, 0⟩
def Reg.PRA_SENSn_DRX (i : Nat) : Nat := 0x1811C + 0x40 * (i % 16)
def F.PRA_SENSn_DRX_DR (i : Nat) : Fld := ⟨Reg.PRA_SENSn_DRX i, 31, 0⟩
def Reg.PRA_SENSn_DRY (i : Nat) : Nat := 0x18120 + 0x40 * (i % 16)
def F.PRA_SENSn_DRY_DR (i : Nat) : Fld := ⟨Reg.PRA_SENSn_DRY i, 31, 0⟩
def Reg.PRA_SENSn_DRZ (i : Nat) : Nat := 0x18124 + 0x40 * (i % 16)
def F.PRA_SENSn_DRZ_DR (i : Nat) : Fld := ⟨Reg.PRA_SENSn_DRZ i, 31, 0⟩
def Reg.PRA_SENSn_LASTSEQ (i : Nat) : Nat := 0x18128 + 0x40 * (i % 16)
def F.PRA_SENSn_LASTSEQ_SEQ (i : Nat) : Fld := ⟨Reg.PRA_SENSn_LASTSEQ i, 31, 0⟩
def Reg.PRA_SENSn_EXTIME (i : Nat) : Nat := 0x1812C + 0x40 * (i % 16)
def F.PRA_SENSn_EXTIME_PEAK (i : Nat) : Fld := ⟨Reg.PRA_SENSn_EXTIME i, 31, 16⟩
def F.PRA_SENSn_EXTIME_LAST (i : Nat) : Fld := ⟨Reg.PRA_SENSn_EXTIME i, 15, 0⟩
def Reg.PRA_SENSn_EXCLCNT (i : Nat) : Nat := 0x18130 + 0x40 * (i % 16)
def F.PRA_SENSn_EXCLCNT_CNT (i : Nat) : Fld := ⟨Reg.PRA_SENSn_EXCLCNT i, 31, 0⟩
def Reg.PRA_TRKCTL : Nat := 0x18A00
def F.PRA_TRKCTL_EN : Fld := ⟨Reg.PRA_TRKCTL, 31, 31⟩
def F.PRA_TRKCTL_TLOG2 : Fld := ⟨Reg.PRA_TRKCTL, 30, 28⟩
def F.PRA_TRKCTL_DETMIN : Fld := ⟨Reg.PRA_TRKCTL, 15, 8⟩
def F.PRA_TRKCTL_GATE : Fld := ⟨Reg.PRA_TRKCTL, 7, 0⟩
def Reg.PRA_TRKBASE : Nat := 0x18A04
def F.PRA_TRKBASE_BASE : Fld := ⟨Reg.PRA_TRKBASE, 27, 0⟩
def Reg.PRA_TRKSEQ : Nat := 0x18A08
def F.PRA_TRKSEQ_GSEQ : Fld := ⟨Reg.PRA_TRKSEQ, 31, 0⟩
def Reg.PRA_TRKLIVE : Nat := 0x18A0C
def F.PRA_TRKLIVE_CONF : Fld := ⟨Reg.PRA_TRKLIVE, 26, 16⟩
def F.PRA_TRKLIVE_UNCONF : Fld := ⟨Reg.PRA_TRKLIVE, 10, 0⟩
def Reg.PRA_TRKBIRTH_LO : Nat := 0x18A10
def F.PRA_TRKBIRTH_LO_CNT : Fld := ⟨Reg.PRA_TRKBIRTH_LO, 31, 0⟩
def Reg.PRA_TRKBIRTH_HI : Nat := 0x18A14
def F.PRA_TRKBIRTH_HI_CNT : Fld := ⟨Reg.PRA_TRKBIRTH_HI, 31, 0⟩
def Reg.PRA_TRKOVF_LO : Nat := 0x18A18
def F.PRA_TRKOVF_LO_CNT : Fld := ⟨Reg.PRA_TRKOVF_LO, 31, 0⟩
def Reg.PRA_TRKOVF_HI : Nat := 0x18A1C
def F.PRA_TRKOVF_HI_CNT : Fld := ⟨Reg.PRA_TRKOVF_HI, 31, 0⟩
def Reg.PRA_TRKDISP : Nat := 0x18A20
def F.PRA_TRKDISP_CNT : Fld := ⟨Reg.PRA_TRKDISP, 31, 0⟩
def Reg.PRA_TRKCLR : Nat := 0x18A24
def F.PRA_TRKCLR_CLEAR : Fld := ⟨Reg.PRA_TRKCLR, 0, 0⟩
def Reg.PRA_TRKTIME : Nat := 0x18A28
def F.PRA_TRKTIME_PEAK : Fld := ⟨Reg.PRA_TRKTIME, 31, 16⟩
def F.PRA_TRKTIME_LAST : Fld := ⟨Reg.PRA_TRKTIME, 15, 0⟩
def Reg.PRA_ZONEBASE : Nat := 0x18A2C
def F.PRA_ZONEBASE_EN : Fld := ⟨Reg.PRA_ZONEBASE, 31, 31⟩
def F.PRA_ZONEBASE_OFF : Fld := ⟨Reg.PRA_ZONEBASE, 18, 0⟩
def Reg.PRA_ZONEm_X (i : Nat) : Nat := 0x18A30 + 0x8 * (i % 4)
def F.PRA_ZONEm_X_XFAR (i : Nat) : Fld := ⟨Reg.PRA_ZONEm_X i, 31, 16⟩
def F.PRA_ZONEm_X_XNEAR (i : Nat) : Fld := ⟨Reg.PRA_ZONEm_X i, 15, 0⟩
def Reg.PRA_ZONEm_Y (i : Nat) : Nat := 0x18A34 + 0x8 * (i % 4)
def F.PRA_ZONEm_Y_YLEFT (i : Nat) : Fld := ⟨Reg.PRA_ZONEm_Y i, 31, 16⟩
def F.PRA_ZONEm_Y_YRIGHT (i : Nat) : Fld := ⟨Reg.PRA_ZONEm_Y i, 15, 0⟩
def Reg.PRA_FCCTL : Nat := 0x18B00
def F.PRA_FCCTL_EN : Fld := ⟨Reg.PRA_FCCTL, 31, 31⟩
def F.PRA_FCCTL_FLOG2 : Fld := ⟨Reg.PRA_FCCTL, 30, 28⟩
def F.PRA_FCCTL_STALE : Fld := ⟨Reg.PRA_FCCTL, 27, 20⟩
def F.PRA_FCCTL_FCOFF : Fld := ⟨Reg.PRA_FCCTL, 14, 0⟩
def Reg.PRA_FCBASE : Nat := 0x18B04
def F.PRA_FCBASE_OFF : Fld := ⟨Reg.PRA_FCBASE, 12, 0⟩
def Reg.PRA_FCHDR : Nat := 0x18B08
def F.PRA_FCHDR_YL : Fld := ⟨Reg.PRA_FCHDR, 31, 16⟩
def F.PRA_FCHDR_YR : Fld := ⟨Reg.PRA_FCHDR, 15, 0⟩
def Reg.PRA_FCSEQ : Nat := 0x18B0C
def F.PRA_FCSEQ_FSEQ : Fld := ⟨Reg.PRA_FCSEQ, 31, 0⟩
def Reg.PRA_BRDROP : Nat := 0x18B10
def F.PRA_BRDROP_ZONE : Fld := ⟨Reg.PRA_BRDROP, 31, 16⟩
def F.PRA_BRDROP_FC : Fld := ⟨Reg.PRA_BRDROP, 15, 0⟩
def Reg.PRA_FCTIME : Nat := 0x18B14
def F.PRA_FCTIME_PEAK : Fld := ⟨Reg.PRA_FCTIME, 31, 16⟩
def F.PRA_FCTIME_LAST : Fld := ⟨Reg.PRA_FCTIME, 15, 0⟩
def Reg.PRA_FCCNT_LO : Nat := 0x18B18
def F.PRA_FCCNT_LO_CNT : Fld := ⟨Reg.PRA_FCCNT_LO, 31, 0⟩
def Reg.PRA_FCCNT_HI : Nat := 0x18B1C
def F.PRA_FCCNT_HI_CNT : Fld := ⟨Reg.PRA_FCCNT_HI, 31, 0⟩
def Reg.PRA_YLDCTL : Nat := 0x18C00
def F.PRA_YLDCTL_EN : Fld := ⟨Reg.PRA_YLDCTL, 31, 31⟩
def F.PRA_YLDCTL_YLOG2 : Fld := ⟨Reg.PRA_YLDCTL, 30, 27⟩
def F.PRA_YLDCTL_CELL : Fld := ⟨Reg.PRA_YLDCTL, 26, 25⟩
def F.PRA_YLDCTL_SPLIT : Fld := ⟨Reg.PRA_YLDCTL, 24, 24⟩
def F.PRA_YLDCTL_TCLOSE : Fld := ⟨Reg.PRA_YLDCTL, 7, 0⟩
def Reg.PRA_YLDBASE : Nat := 0x18C04
def F.PRA_YLDBASE_BASE : Fld := ⟨Reg.PRA_YLDBASE, 27, 0⟩
def Reg.PRA_YLDSRC : Nat := 0x18C08
def F.PRA_YLDSRC_MSTREAM : Fld := ⟨Reg.PRA_YLDSRC, 30, 24⟩
def F.PRA_YLDSRC_WSTREAM : Fld := ⟨Reg.PRA_YLDSRC, 22, 16⟩
def F.PRA_YLDSRC_WK : Fld := ⟨Reg.PRA_YLDSRC, 11, 8⟩
def Reg.PRA_YLDMGAIN : Nat := 0x18C0C
def F.PRA_YLDMGAIN_VAL : Fld := ⟨Reg.PRA_YLDMGAIN, 31, 0⟩
def Reg.PRA_YLDMOFF : Nat := 0x18C10
def F.PRA_YLDMOFF_VAL : Fld := ⟨Reg.PRA_YLDMOFF, 31, 0⟩
def Reg.PRA_YLDWGAIN : Nat := 0x18C14
def F.PRA_YLDWGAIN_VAL : Fld := ⟨Reg.PRA_YLDWGAIN, 31, 0⟩
def Reg.PRA_YLDWOFF : Nat := 0x18C18
def F.PRA_YLDWOFF_VAL : Fld := ⟨Reg.PRA_YLDWOFF, 31, 0⟩
def Reg.PRA_YLDDELAY : Nat := 0x18C1C
def F.PRA_YLDDELAY_WDELAY : Fld := ⟨Reg.PRA_YLDDELAY, 31, 16⟩
def F.PRA_YLDDELAY_DELAY : Fld := ⟨Reg.PRA_YLDDELAY, 15, 0⟩
def Reg.PRA_YLDORGLAT : Nat := 0x18C20
def F.PRA_YLDORGLAT_VAL : Fld := ⟨Reg.PRA_YLDORGLAT, 31, 0⟩
def Reg.PRA_YLDORGLON : Nat := 0x18C24
def F.PRA_YLDORGLON_VAL : Fld := ⟨Reg.PRA_YLDORGLON, 31, 0⟩
def Reg.PRA_YLDORGH : Nat := 0x18C28
def F.PRA_YLDORGH_VAL : Fld := ⟨Reg.PRA_YLDORGH, 31, 0⟩
def Reg.PRA_YLDWPOS : Nat := 0x18C2C
def F.PRA_YLDWPOS_POS : Fld := ⟨Reg.PRA_YLDWPOS, 31, 0⟩
def Reg.PRA_YLDRPOS : Nat := 0x18C30
def F.PRA_YLDRPOS_POS : Fld := ⟨Reg.PRA_YLDRPOS, 31, 0⟩
def Reg.PRA_YLDOPEN : Nat := 0x18C34
def F.PRA_YLDOPEN_FULL : Fld := ⟨Reg.PRA_YLDOPEN, 31, 31⟩
def F.PRA_YLDOPEN_OPEN : Fld := ⟨Reg.PRA_YLDOPEN, 4, 0⟩
def Reg.PRA_YLDDROP : Nat := 0x18C38
def F.PRA_YLDDROP_G : Fld := ⟨Reg.PRA_YLDDROP, 31, 0⟩
def Reg.PRA_YLDGAP : Nat := 0x18C3C
def F.PRA_YLDGAP_CNT : Fld := ⟨Reg.PRA_YLDGAP, 31, 0⟩
def Reg.PRA_YLDMASS_LO : Nat := 0x18C40
def F.PRA_YLDMASS_LO_G : Fld := ⟨Reg.PRA_YLDMASS_LO, 31, 0⟩
def Reg.PRA_YLDMASS_HI : Nat := 0x18C44
def F.PRA_YLDMASS_HI_G : Fld := ⟨Reg.PRA_YLDMASS_HI, 31, 0⟩
def Reg.PRA_YLDCMD : Nat := 0x18C48
def F.PRA_YLDCMD_FLUSH : Fld := ⟨Reg.PRA_YLDCMD, 0, 0⟩
/-! ### Block 0x19 (DSP) -/

def Reg.DSP_CTL : Nat := 0x19000
def F.DSP_CTL_EN : Fld := ⟨Reg.DSP_CTL, 31, 31⟩
def F.DSP_CTL_FAILN : Fld := ⟨Reg.DSP_CTL, 23, 20⟩
def F.DSP_CTL_IE_POIS : Fld := ⟨Reg.DSP_CTL, 3, 3⟩
def F.DSP_CTL_IE_CRC : Fld := ⟨Reg.DSP_CTL, 2, 2⟩
def F.DSP_CTL_IE_LANE : Fld := ⟨Reg.DSP_CTL, 1, 1⟩
def F.DSP_CTL_IE_CFG : Fld := ⟨Reg.DSP_CTL, 0, 0⟩
def Reg.DSP_STAT : Nat := 0x19004
def F.DSP_STAT_PARFLT : Fld := ⟨Reg.DSP_STAT, 6, 6⟩
def F.DSP_STAT_CFGREJ : Fld := ⟨Reg.DSP_STAT, 5, 5⟩
def F.DSP_STAT_POISON : Fld := ⟨Reg.DSP_STAT, 4, 4⟩
def F.DSP_STAT_CRCFAIL : Fld := ⟨Reg.DSP_STAT, 3, 3⟩
def F.DSP_STAT_CRCERR : Fld := ⟨Reg.DSP_STAT, 2, 2⟩
def F.DSP_STAT_LANEFAIL : Fld := ⟨Reg.DSP_STAT, 1, 1⟩
def F.DSP_STAT_NOUNIF : Fld := ⟨Reg.DSP_STAT, 0, 0⟩
def Reg.DSP_SNAP : Nat := 0x19008
def F.DSP_SNAP_SNAP : Fld := ⟨Reg.DSP_SNAP, 0, 0⟩
def Reg.DSP_BADCFG : Nat := 0x1900C
def F.DSP_BADCFG_CAUSE : Fld := ⟨Reg.DSP_BADCFG, 11, 8⟩
def Reg.DSP_LINEP : Nat := 0x19010
def F.DSP_LINEP_NS : Fld := ⟨Reg.DSP_LINEP, 15, 0⟩
def Reg.DSP_VTOTAL : Nat := 0x19014
def F.DSP_VTOTAL_LINES : Fld := ⟨Reg.DSP_VTOTAL, 11, 0⟩
def Reg.DSP_ACTIVE : Nat := 0x19018
def F.DSP_ACTIVE_VACT : Fld := ⟨Reg.DSP_ACTIVE, 27, 16⟩
def F.DSP_ACTIVE_HACT : Fld := ⟨Reg.DSP_ACTIVE, 11, 0⟩
def Reg.DSP_ROWTIM : Nat := 0x1901C
def F.DSP_ROWTIM_POLMODE : Fld := ⟨Reg.DSP_ROWTIM, 31, 30⟩
def F.DSP_ROWTIM_CPVW : Fld := ⟨Reg.DSP_ROWTIM, 23, 12⟩
def F.DSP_ROWTIM_OEGAP : Fld := ⟨Reg.DSP_ROWTIM, 11, 0⟩
def Reg.DSP_LANE : Nat := 0x19020
def F.DSP_LANE_RATE : Fld := ⟨Reg.DSP_LANE, 1, 0⟩
def Reg.DSP_FBBASE : Nat := 0x19024
def F.DSP_FBBASE_BASE : Fld := ⟨Reg.DSP_FBBASE, 27, 0⟩
def Reg.DSP_MAPBASE : Nat := 0x19028
def F.DSP_MAPBASE_BASE : Fld := ⟨Reg.DSP_MAPBASE, 27, 0⟩
def Reg.DSP_MAPSTAT : Nat := 0x1902C
def F.DSP_MAPSTAT_STATE : Fld := ⟨Reg.DSP_MAPSTAT, 31, 30⟩
def F.DSP_MAPSTAT_CAUSE : Fld := ⟨Reg.DSP_MAPSTAT, 29, 28⟩
def Reg.DSP_BG : Nat := 0x19030
def F.DSP_BG_RGB : Fld := ⟨Reg.DSP_BG, 29, 0⟩
def Reg.DSP_FSEQ : Nat := 0x19034
def F.DSP_FSEQ_SEQ : Fld := ⟨Reg.DSP_FSEQ, 31, 0⟩
def Reg.DSP_FRAMECNT_LO : Nat := 0x19038
def F.DSP_FRAMECNT_LO_CNT : Fld := ⟨Reg.DSP_FRAMECNT_LO, 31, 0⟩
def Reg.DSP_FRAMECNT_HI : Nat := 0x1903C
def F.DSP_FRAMECNT_HI_CNT : Fld := ⟨Reg.DSP_FRAMECNT_HI, 31, 0⟩
def Reg.DSP_REPEAT : Nat := 0x19040
def F.DSP_REPEAT_CNT : Fld := ⟨Reg.DSP_REPEAT, 31, 0⟩
def Reg.DSP_LATE : Nat := 0x19044
def F.DSP_LATE_CNT : Fld := ⟨Reg.DSP_LATE, 31, 0⟩
def Reg.DSP_CRCERRCNT : Nat := 0x19048
def F.DSP_CRCERRCNT_CNT : Fld := ⟨Reg.DSP_CRCERRCNT, 31, 0⟩
def Reg.DSP_POISCNT : Nat := 0x1904C
def F.DSP_POISCNT_CNT : Fld := ⟨Reg.DSP_POISCNT, 31, 0⟩
def Reg.DSP_COMPTIME : Nat := 0x19050
def F.DSP_COMPTIME_PEAK : Fld := ⟨Reg.DSP_COMPTIME, 31, 16⟩
def F.DSP_COMPTIME_LAST : Fld := ⟨Reg.DSP_COMPTIME, 15, 0⟩
def Reg.DSP_CRCFAIL : Nat := 0x19054
def F.DSP_CRCFAIL_VALID : Fld := ⟨Reg.DSP_CRCFAIL, 31, 31⟩
def F.DSP_CRCFAIL_BAND : Fld := ⟨Reg.DSP_CRCFAIL, 4, 0⟩
def Reg.DSP_FOFF : Nat := 0x19058
def F.DSP_FOFF_US : Fld := ⟨Reg.DSP_FOFF, 19, 0⟩
def Reg.DSP_PANELID : Nat := 0x1905C
def F.DSP_PANELID_ID : Fld := ⟨Reg.DSP_PANELID, 31, 0⟩
def Reg.DSP_Lk_CTL (i : Nat) : Nat := 0x19100 + 0x20 * (i % 3)
def F.DSP_Lk_CTL_EN (i : Nat) : Fld := ⟨Reg.DSP_Lk_CTL i, 31, 31⟩
def F.DSP_Lk_CTL_LINK (i : Nat) : Fld := ⟨Reg.DSP_Lk_CTL i, 27, 24⟩
def Reg.DSP_Lk_BASE (i : Nat) : Nat := 0x19104 + 0x20 * (i % 3)
def F.DSP_Lk_BASE_BASE (i : Nat) : Fld := ⟨Reg.DSP_Lk_BASE i, 27, 0⟩
def Reg.DSP_Lk_STRIDE (i : Nat) : Nat := 0x19108 + 0x20 * (i % 3)
def F.DSP_Lk_STRIDE_BYTES (i : Nat) : Fld := ⟨Reg.DSP_Lk_STRIDE i, 15, 0⟩
def Reg.DSP_Lk_POS (i : Nat) : Nat := 0x1910C + 0x20 * (i % 3)
def F.DSP_Lk_POS_Y (i : Nat) : Fld := ⟨Reg.DSP_Lk_POS i, 27, 16⟩
def F.DSP_Lk_POS_X (i : Nat) : Fld := ⟨Reg.DSP_Lk_POS i, 11, 0⟩
def Reg.DSP_Lk_SIZE (i : Nat) : Nat := 0x19110 + 0x20 * (i % 3)
def F.DSP_Lk_SIZE_H (i : Nat) : Fld := ⟨Reg.DSP_Lk_SIZE i, 27, 16⟩
def F.DSP_Lk_SIZE_W (i : Nat) : Fld := ⟨Reg.DSP_Lk_SIZE i, 11, 0⟩
def Reg.DSP_Lk_USED (i : Nat) : Nat := 0x19114 + 0x20 * (i % 3)
def F.DSP_Lk_USED_VAL (i : Nat) : Fld := ⟨Reg.DSP_Lk_USED i, 31, 0⟩
def Reg.DSP_Lk_AGE (i : Nat) : Nat := 0x19118 + 0x20 * (i % 3)
def F.DSP_Lk_AGE_PEAK (i : Nat) : Fld := ⟨Reg.DSP_Lk_AGE i, 31, 16⟩
def F.DSP_Lk_AGE_LAST (i : Nat) : Fld := ⟨Reg.DSP_Lk_AGE i, 15, 0⟩
def Reg.DSP_Lk_POISLN (i : Nat) : Nat := 0x1911C + 0x20 * (i % 3)
def F.DSP_Lk_POISLN_CNT (i : Nat) : Fld := ⟨Reg.DSP_Lk_POISLN i, 31, 0⟩
def Reg.DSP_LNn_STAT (i : Nat) : Nat := 0x19200 + 0x8 * (i % 8)
def F.DSP_LNn_STAT_LOCK (i : Nat) : Fld := ⟨Reg.DSP_LNn_STAT i, 31, 31⟩
def F.DSP_LNn_STAT_STATE (i : Nat) : Fld := ⟨Reg.DSP_LNn_STAT i, 30, 29⟩
def F.DSP_LNn_STAT_LOSSES (i : Nat) : Fld := ⟨Reg.DSP_LNn_STAT i, 15, 0⟩
def Reg.DSP_LNn_LAST (i : Nat) : Nat := 0x19204 + 0x8 * (i % 8)
def F.DSP_LNn_LAST_CRC (i : Nat) : Fld := ⟨Reg.DSP_LNn_LAST i, 31, 16⟩
def F.DSP_LNn_LAST_LINE (i : Nat) : Fld := ⟨Reg.DSP_LNn_LAST i, 11, 0⟩
def Reg.DSP_CRCb (i : Nat) : Nat := 0x19300 + 0x4 * (i % 32)
def F.DSP_CRCb_MISS (i : Nat) : Fld := ⟨Reg.DSP_CRCb i, 31, 16⟩
def F.DSP_CRCb_RUN (i : Nat) : Fld := ⟨Reg.DSP_CRCb i, 3, 0⟩
def Reg.DSP_GAMMAn (i : Nat) : Nat := 0x19380 + 0x4 * (i % 8)
def F.DSP_GAMMAn_NEG (i : Nat) : Fld := ⟨Reg.DSP_GAMMAn i, 25, 16⟩
def F.DSP_GAMMAn_POS (i : Nat) : Fld := ⟨Reg.DSP_GAMMAn i, 9, 0⟩

end Sys2Proof.Machine
end

