-- ==== Sys2Proof/Machine/RegTable.lean ====
section
/-! DEFINITION. The register table: access code, listed encodings and reset value of every field, block by block, as the
block maps of the spec print them. Reset values that depend on the ordering code or the index, and those the spec gives
no number for, are added by `regReset` in Machine/Registers.lean. -/

namespace Sys2Proof.Machine

/-- The access codes of chapter 0 (Registers and fields). -/
inductive Acc where
  | rw | ro | wo | w1c | w1s | rc | rwp
  deriving DecidableEq, Repr

/-- The encodings a field's table lists (R10): all of them, a range, or 0 and a range. -/
inductive Enc where
  | any
  | rng (lo hi : Nat)
  | zeroOr (lo hi : Nat)
  deriving DecidableEq, Repr

/-- One field: its bits, access code, listed encodings, reset value and, for an RC field of R578's first kind, the
neighbouring field it restarts from. -/
structure FieldDesc where
  hi : Nat
  lo : Nat
  acc : Acc
  enc : Enc
  reset : Nat
  present : Option (Nat × Nat)
  deriving DecidableEq, Repr

/-- One register, or one array of registers: offset, the (stride, count) of each index, and its fields. -/
structure RegDesc where
  off : Nat
  dims : List (Nat × Nat)
  fields : List FieldDesc
  deriving DecidableEq, Repr

/-- A field of any access code with every encoding listed. -/
def FieldDesc.mkAny (acc : Acc) (hi lo reset : Nat) : FieldDesc := ⟨hi, lo, acc, .any, reset, none⟩

def regsSYS0 : List RegDesc := [
  -- SYS_MODID
  ⟨0x0, [], [.mkAny .ro 31 24 0x94, .mkAny .ro 23 20 0x0, .mkAny .ro 19 16 0x0]⟩,
  -- SYS_ABSENTWR
  ⟨0x4, [], [.mkAny .ro 15 0 0x0]⟩,
  -- SYS_CTL
  ⟨0x8, [], [.mkAny .rwp 5 5 0x1, .mkAny .rwp 4 4 0x1, .mkAny .rwp 3 3 0x1, .mkAny .rwp 2 2 0x1, .mkAny .rwp 1 1 0x1, .mkAny .rwp 0 0 0x1]⟩,
  -- SYS_STAT
  ⟨0xC, [], [.mkAny .ro 31 31 0x0, .mkAny .w1c 8 8 0x0, .mkAny .w1c 7 7 0x0, .mkAny .w1c 6 6 0x0, .mkAny .w1c 5 5 0x0, .mkAny .w1c 4 4 0x0, .mkAny .w1c 3 3 0x0, .mkAny .w1c 2 2 0x0, .mkAny .w1c 1 1 0x0, .mkAny .w1c 0 0 0x0]⟩,
  -- SYS_PARBLK
  ⟨0x10, [], [.mkAny .w1c 25 0 0x0]⟩,
  -- SYS_PWRSTATE
  ⟨0x14, [], [.mkAny .ro 31 29 0x2, .mkAny .ro 28 24 0x0, .mkAny .ro 23 22 0x1, .mkAny .ro 15 0 0x0]⟩,
  -- SYS_PWRREQ
  ⟨0x18, [], [.mkAny .wo 31 31 0x0, ⟨1, 0, .rw, .rng 0 2, 0x1, none⟩]⟩,
  -- SYS_PWRCFG
  ⟨0x1C, [], [.mkAny .rwp 31 31 0x1, .mkAny .rwp 23 16 0x5, ⟨15, 8, .rwp, .rng 1 255, 0x1E, none⟩, .mkAny .rwp 7 4 0x2]⟩,
  -- SYS_SLEEPCFG
  ⟨0x20, [], [.mkAny .rwp 31 24 0x0, ⟨23, 16, .rwp, .rng 1 255, 0x1E, none⟩, ⟨15, 8, .rwp, .rng 1 255, 0xA, none⟩]⟩,
  -- SYS_SLEEPSTAT
  ⟨0x24, [], [.mkAny .ro 31 28 0x0, .mkAny .ro 26 24 0x0, .mkAny .ro 23 16 0x0, .mkAny .ro 7 0 0x0]⟩,
  -- SYS_SUPPLY
  ⟨0x28, [], [.mkAny .ro 31 30 0x0, .mkAny .ro 15 0 0x0]⟩,
  -- SYS_RSTCMD
  ⟨0x2C, [], [.mkAny .wo 31 16 0x0, .mkAny .wo 3 0 0x0]⟩,
  -- SYS_RSTCAUSE
  ⟨0x30, [], [.mkAny .ro 31 28 0x0, .mkAny .ro 27 24 0x0, .mkAny .ro 15 0 0x0]⟩,
  -- SYS_SHED
  ⟨0x34, [], [.mkAny .rwp 31 31 0x1, .mkAny .rwp 30 30 0x1, ⟨23, 16, .rwp, .rng 1 255, 0xA, none⟩, .mkAny .ro 1 0 0x0]⟩,
  -- SYS_RSTLOGk_W
  ⟨0x100, [(0x10, 16), (0x4, 4)], [.mkAny .ro 31 0 0x0]⟩,
  -- SYS_STEPTIMEs
  ⟨0x200, [(0x4, 26)], [.mkAny .rc 31 16 0x0, .mkAny .ro 15 0 0x0]⟩]

/-- The registers of block 0x00. -/
def regsSYS : List RegDesc := regsSYS0

def regsSDL0 : List RegDesc := [
  -- SDL_CTL
  ⟨0x0, [], [.mkAny .rwp 3 3 0x1, ⟨1, 0, .rwp, .rng 0 2, 0x1, none⟩]⟩,
  -- SDL_STAT
  ⟨0x4, [], [.mkAny .w1c 7 7 0x0, .mkAny .ro 6 6 0x0, .mkAny .w1c 5 5 0x0, .mkAny .ro 4 4 0x0, .mkAny .ro 2 0 0x0]⟩,
  -- SDL_SNAP
  ⟨0x8, [], [.mkAny .wo 0 0 0x0]⟩,
  -- SDL_NOW_LO
  ⟨0x10, [], [.mkAny .ro 31 0 0x0]⟩,
  -- SDL_NOW_HI
  ⟨0x14, [], [.mkAny .ro 31 0 0x0]⟩,
  -- SDL_GNSSOFF_LO
  ⟨0x18, [], [.mkAny .ro 31 0 0x0]⟩,
  -- SDL_GNSSOFF_HI
  ⟨0x1C, [], [.mkAny .ro 31 0 0x0]⟩,
  -- SDL_TRIM
  ⟨0x20, [], [.mkAny .ro 31 0 0x0]⟩,
  -- SDL_RATEERR
  ⟨0x24, [], [.mkAny .ro 31 0 0x0]⟩,
  -- SDL_ALMn_LO
  ⟨0x100, [(0x10, 16)], [.mkAny .rwp 31 0 0x0]⟩,
  -- SDL_ALMn_HI
  ⟨0x104, [(0x10, 16)], [.mkAny .rwp 31 0 0x0]⟩,
  -- SDL_ALMnCTL
  ⟨0x108, [(0x10, 16)], [⟨7, 4, .rwp, .rng 0 3, 0x0, none⟩, .mkAny .rw 0 0 0x0]⟩,
  -- SDL_ALMnLATE
  ⟨0x10C, [(0x10, 16)], [.mkAny .ro 31 0 0x0]⟩]

/-- The registers of block 0x01. -/
def regsSDL : List RegDesc := regsSDL0

def regsRTD0 : List RegDesc := [
  -- RTD_CTL
  ⟨0x0, [], [.mkAny .w1s 31 31 0x0, ⟨7, 0, .rwp, .rng 1 255, 0x18, none⟩]⟩,
  -- RTD_STAT
  ⟨0x4, [], [.mkAny .ro 31 31 0x0, .mkAny .w1c 6 6 0x0, .mkAny .w1c 5 5 0x0, .mkAny .w1c 4 4 0x0, .mkAny .w1c 3 3 0x0, .mkAny .w1c 2 2 0x0, .mkAny .ro 1 1 0x0, .mkAny .ro 0 0 0x0]⟩,
  -- RTD_SNAP
  ⟨0x8, [], [.mkAny .wo 0 0 0x0]⟩,
  -- RTD_CAL_LO
  ⟨0xC, [], [.mkAny .ro 31 0 0x0]⟩,
  -- RTD_CAL_HI
  ⟨0x10, [], [.mkAny .ro 22 8 0x0, .mkAny .ro 7 0 0x0]⟩,
  -- RTD_CALSET_LO
  ⟨0x14, [], [.mkAny .rw 31 0 0x0]⟩,
  -- RTD_CALSET_HI
  ⟨0x18, [], [.mkAny .rw 22 8 0x0, .mkAny .rw 7 0 0x0]⟩,
  -- RTD_OPSEC
  ⟨0x1C, [], [.mkAny .ro 31 0 0x0]⟩,
  -- RTD_PWRCYC
  ⟨0x20, [], [.mkAny .ro 31 0 0x0]⟩,
  -- RTD_SDLSAVE_LO
  ⟨0x24, [], [.mkAny .ro 31 0 0x0]⟩,
  -- RTD_SDLSAVE_HI
  ⟨0x28, [], [.mkAny .ro 31 0 0x0]⟩,
  -- RTD_WAKECFG
  ⟨0x2C, [], [⟨11, 10, .rwp, .rng 0 2, 0x0, none⟩, ⟨9, 8, .rwp, .rng 0 2, 0x0, none⟩, .mkAny .rwp 7 0 0x7F]⟩,
  -- RTD_WAKESTAT
  ⟨0x30, [], [.mkAny .w1c 7 0 0x0]⟩,
  -- RTD_WAKELVL
  ⟨0x34, [], [.mkAny .ro 3 3 0x0, .mkAny .ro 2 2 0x0, .mkAny .ro 1 1 0x0, .mkAny .ro 0 0 0x0]⟩,
  -- RTD_WTIMER
  ⟨0x38, [], [.mkAny .rw 31 0 0x0]⟩,
  -- RTD_CELLV
  ⟨0x3C, [], [⟨31, 16, .rc, .any, 0xFFFF, some (15, 0)⟩, .mkAny .ro 15 0 0x0]⟩,
  -- RTD_CELLQ
  ⟨0x40, [], [.mkAny .ro 31 24 0x0, .mkAny .ro 15 0 0x0]⟩,
  -- RTD_CELLCFG
  ⟨0x44, [], [.mkAny .rwp 31 16 0xAF0, .mkAny .rwp 15 0 0xA28]⟩,
  -- RTD_SAVE
  ⟨0x48, [], [.mkAny .w1s 31 31 0x0, .mkAny .ro 30 28 0x0, .mkAny .ro 15 0 0x0]⟩,
  -- RTD_VAULTCNT
  ⟨0x4C, [], [.mkAny .ro 31 0 0x0]⟩]

def regsRTD1 : List RegDesc := [
  -- RTD_BTN
  ⟨0x50, [], [.mkAny .ro 31 16 0x0, .mkAny .ro 15 0 0x0]⟩,
  -- RTD_SUPLOG
  ⟨0x54, [], [.mkAny .ro 31 28 0x0, .mkAny .ro 15 0 0x0]⟩,
  -- RTD_LASTOFF_LO
  ⟨0x58, [], [.mkAny .ro 31 0 0x0]⟩,
  -- RTD_LASTOFF_HI
  ⟨0x5C, [], [.mkAny .ro 22 8 0x0, .mkAny .ro 7 0 0x0]⟩,
  -- RTD_GPn
  ⟨0x80, [(0x4, 30)], [.mkAny .rw 31 0 0x0]⟩,
  -- RTD_WPEND_LO
  ⟨0xF8, [], [.mkAny .ro 31 0 0x0]⟩,
  -- RTD_WPEND_HI
  ⟨0xFC, [], [.mkAny .ro 29 0 0x0]⟩]

/-- The registers of block 0x02. -/
def regsRTD : List RegDesc := regsRTD0 ++ regsRTD1

def regsHLT0 : List RegDesc := [
  -- HLT_CTL
  ⟨0x0, [], [⟨31, 28, .rwp, .rng 1 15, 0x4, none⟩, .mkAny .rwp 27 27 0x1, .mkAny .rwp 26 26 0x1, .mkAny .rwp 3 3 0x1, .mkAny .rwp 2 2 0x1, .mkAny .rwp 1 1 0x1, .mkAny .rwp 0 0 0x1]⟩,
  -- HLT_STAT
  ⟨0x4, [], [.mkAny .w1c 6 6 0x0, .mkAny .w1c 5 5 0x0, .mkAny .w1c 4 4 0x0, .mkAny .w1c 3 3 0x0, .mkAny .w1c 2 2 0x0, .mkAny .w1c 1 1 0x0, .mkAny .w1c 0 0 0x0]⟩,
  -- HLT_SNAP
  ⟨0x8, [], [.mkAny .wo 0 0 0x0]⟩,
  -- HLT_BADCFG
  ⟨0xC, [], [.mkAny .ro 11 8 0x0, .mkAny .ro 3 0 0x0]⟩,
  -- HLT_ROLE
  ⟨0x10, [], [.mkAny .ro 31 30 0x2, .mkAny .ro 15 0 0x0]⟩,
  -- HLT_HOCFG
  ⟨0x14, [], [⟨31, 28, .rwp, .rng 1 10, 0xA, none⟩, ⟨27, 24, .rwp, .rng 1 15, 0x2, none⟩, .mkAny .rwp 19 0 0x0]⟩,
  -- HLT_HOREC
  ⟨0x18, [], [.mkAny .rwp 31 31 0x0, .mkAny .rwp 12 0 0x0]⟩,
  -- HLT_HOSTAT
  ⟨0x1C, [], [.mkAny .ro 31 29 0x0, .mkAny .ro 28 28 0x0, .mkAny .ro 27 24 0x0, .mkAny .ro 23 0 0x0]⟩,
  -- HLT_HOCNT
  ⟨0x20, [], [.mkAny .ro 31 16 0x0, .mkAny .ro 15 0 0x0]⟩,
  -- HLT_MIRCTL
  ⟨0x24, [], [.mkAny .ro 15 0 0x0]⟩,
  -- HLT_MIRBW
  ⟨0x28, [], [⟨31, 16, .rc, .any, 0x0, some (15, 0)⟩, .mkAny .ro 15 0 0x0]⟩,
  -- HLT_TESTQ
  ⟨0x2C, [], [⟨31, 24, .rc, .any, 0x0, some (7, 0)⟩, .mkAny .ro 7 0 0x0]⟩,
  -- HLT_UNTESTED
  ⟨0x30, [], [.mkAny .ro 31 0 0x0]⟩,
  -- HLT_TRANSCNT_LO
  ⟨0x34, [], [.mkAny .ro 31 0 0x0]⟩,
  -- HLT_TRANSCNT_HI
  ⟨0x38, [], [.mkAny .ro 31 0 0x0]⟩,
  -- HLT_LASTCNT
  ⟨0x3C, [], [.mkAny .ro 31 0 0x0]⟩,
  -- HLT_LASTTEST
  ⟨0x40, [], [.mkAny .ro 31 28 0x0, .mkAny .ro 27 24 0x0]⟩,
  -- HLT_LASTRES
  ⟨0x44, [], [.mkAny .ro 31 0 0x0]⟩,
  -- HLT_CMPSTAT
  ⟨0x48, [], [.mkAny .w1c 31 16 0x0, .mkAny .ro 15 0 0x0]⟩,
  -- HLT_CMPCNT
  ⟨0x4C, [], [.mkAny .ro 31 0 0x0]⟩]

def regsHLT1 : List RegDesc := [
  -- HLT_TOKWAIT
  ⟨0x50, [], [.mkAny .rc 31 16 0x0, .mkAny .ro 15 0 0x0]⟩,
  -- HLT_DALEn_CTL
  ⟨0x80, [(0x20, 2)], [.mkAny .rw 31 31 0x0, .mkAny .rw 30 30 0x0, .mkAny .w1s 29 29 0x0]⟩,
  -- HLT_DALEn_HB
  ⟨0x84, [(0x20, 2)], [.mkAny .wo 31 0 0x0]⟩,
  -- HLT_DALEn_STAT
  ⟨0x88, [(0x20, 2)], [.mkAny .ro 31 29 0x0, .mkAny .ro 28 28 0x0, .mkAny .ro 27 27 0x0, .mkAny .ro 23 16 0xFF, .mkAny .ro 15 12 0x0, .mkAny .ro 11 8 0x0]⟩,
  -- HLT_DALEn_HBAGE
  ⟨0x8C, [(0x20, 2)], [⟨31, 16, .rc, .any, 0x0, some (15, 0)⟩, .mkAny .ro 15 0 0x0]⟩,
  -- HLT_DALEn_FAULTS
  ⟨0x90, [(0x20, 2)], [.mkAny .ro 31 0 0x0]⟩,
  -- HLT_DALEn_ERRCNT
  ⟨0x94, [(0x20, 2)], [.mkAny .rc 31 16 0x0, .mkAny .rc 15 0 0x0]⟩,
  -- HLT_MIRn_SRC
  ⟨0x100, [(0x10, 16)], [.mkAny .rwp 27 0 0x0]⟩,
  -- HLT_MIRn_COPY
  ⟨0x104, [(0x10, 16)], [.mkAny .rwp 27 0 0x0]⟩,
  -- HLT_MIRn_CFG
  ⟨0x108, [(0x10, 16)], [.mkAny .rwp 31 31 0x0, .mkAny .rwp 30 30 0x1, ⟨13, 0, .rwp, .rng 1 16384, 0x1, none⟩]⟩,
  -- HLT_MIRn_STAT
  ⟨0x10C, [(0x10, 16)], [.mkAny .ro 31 31 0x0, .mkAny .ro 30 30 0x0, .mkAny .rc 15 0 0x0]⟩,
  -- HLT_TOKc
  ⟨0x200, [(0x8, 8)], [.mkAny .ro 31 31 0x0, .mkAny .ro 30 27 0x0, .mkAny .ro 19 16 0x0, .mkAny .ro 7 0 0x0]⟩,
  -- HLT_TOKc_SINCE
  ⟨0x204, [(0x8, 8)], [.mkAny .ro 31 0 0x0]⟩,
  -- HLT_CMPk_A
  ⟨0x280, [(0x8, 16)], [.mkAny .rw 31 0 0x0]⟩,
  -- HLT_CMPk_B
  ⟨0x284, [(0x8, 16)], [.mkAny .rw 31 0 0x0]⟩,
  -- HLT_TRANSc
  ⟨0x300, [(0x4, 8)], [.mkAny .ro 31 0 0x0]⟩,
  -- HLT_LASTc
  ⟨0x320, [(0x4, 8)], [.mkAny .ro 31 0 0x0]⟩,
  -- HLT_MONCTL
  ⟨0x400, [], [.mkAny .rwp 3 3 0x1, .mkAny .rwp 2 2 0x1, .mkAny .rwp 1 1 0x1, .mkAny .rwp 0 0 0x1]⟩,
  -- HLT_TEMPLIM
  ⟨0x404, [], [.mkAny .rwp 31 16 0x3E8, .mkAny .rwp 15 0 0x398]⟩,
  -- HLT_MONSTAT
  ⟨0x408, [], [.mkAny .w1c 5 5 0x0, .mkAny .w1c 4 4 0x0, .mkAny .w1c 3 3 0x0, .mkAny .w1c 2 2 0x0, .mkAny .w1c 1 1 0x0, .mkAny .ro 0 0 0x0]⟩]

def regsHLT2 : List RegDesc := [
  -- HLT_PACEMIN
  ⟨0x40C, [], [.mkAny .ro 31 24 0x0, .mkAny .ro 15 0 0x0]⟩,
  -- HLT_VCORE
  ⟨0x410, [], [.mkAny .ro 31 16 0x2EE, .mkAny .ro 15 0 0x0]⟩,
  -- HLT_PACEBED
  ⟨0x414, [], [.mkAny .ro 31 24 0x0, .mkAny .ro 15 0 0x0]⟩,
  -- HLT_PACEn
  ⟨0x480, [(0x4, 32)], [.mkAny .ro 31 31 0x0, .mkAny .ro 30 30 0x0, .mkAny .ro 15 0 0x0]⟩,
  -- HLT_TEMPn
  ⟨0x500, [(0x4, 24)], [.mkAny .ro 31 31 0x0, .mkAny .ro 15 0 0x0]⟩,
  -- HLT_VMONn
  ⟨0x580, [(0x4, 8)], [.mkAny .ro 31 31 0x0, .mkAny .ro 30 30 0x0, .mkAny .ro 15 0 0x0]⟩]

/-- The registers of block 0x03. -/
def regsHLT : List RegDesc := regsHLT0 ++ regsHLT1 ++ regsHLT2

def regsEVR0 : List RegDesc := [
  -- EVR_CTL
  ⟨0x0, [], [.mkAny .rwp 31 28 0xB, .mkAny .rwp 3 3 0x1, .mkAny .rwp 2 2 0x1, .mkAny .rwp 1 1 0x0, .mkAny .rwp 0 0 0x1]⟩,
  -- EVR_STAT
  ⟨0x4, [], [.mkAny .w1c 5 5 0x0, .mkAny .w1c 4 4 0x0, .mkAny .w1c 3 3 0x0, .mkAny .w1c 2 2 0x0, .mkAny .w1c 1 1 0x0, .mkAny .ro 0 0 0x0]⟩,
  -- EVR_SNAP
  ⟨0x8, [], [.mkAny .wo 0 0 0x0]⟩,
  -- EVR_BADCFG
  ⟨0xC, [], [.mkAny .ro 11 8 0x0, .mkAny .ro 2 0 0x0]⟩,
  -- EVR_FILL
  ⟨0x10, [], [.mkAny .ro 17 0 0x0]⟩,
  -- EVR_NOROOM
  ⟨0x14, [], [.mkAny .ro 31 0 0x0]⟩,
  -- EVR_QDROP
  ⟨0x18, [], [.mkAny .ro 31 0 0x0]⟩,
  -- EVR_SUPPCNT
  ⟨0x1C, [], [.mkAny .ro 31 0 0x0]⟩,
  -- EVR_NEXTNUM_LO
  ⟨0x20, [], [.mkAny .ro 31 0 0x0]⟩,
  -- EVR_NEXTNUM_HI
  ⟨0x24, [], [.mkAny .ro 15 0 0x0]⟩,
  -- EVR_QUEUE
  ⟨0x28, [], [⟨31, 16, .rc, .any, 0x0, some (15, 0)⟩, .mkAny .ro 15 0 0x0]⟩,
  -- EVR_SWREC
  ⟨0x2C, [], [.mkAny .ro 31 30 0x0, .mkAny .ro 29 29 0x0, .mkAny .rw 19 16 0x0, .mkAny .rw 15 0 0x0]⟩,
  -- EVR_SWPk_LO
  ⟨0x30, [(0x8, 3)], [.mkAny .rw 31 0 0x0]⟩,
  -- EVR_SWPk_HI
  ⟨0x34, [(0x8, 3)], [.mkAny .rw 3 0 0x0]⟩,
  -- EVR_RDPOS_LO
  ⟨0x48, [], [.mkAny .rw 31 0 0x0]⟩,
  -- EVR_RDPOS_HI
  ⟨0x4C, [], [.mkAny .rw 15 0 0x0]⟩,
  -- EVR_RDCMD
  ⟨0x50, [], [.mkAny .wo 0 0 0x0]⟩,
  -- EVR_RDSTAT
  ⟨0x54, [], [.mkAny .ro 31 31 0x0, .mkAny .ro 30 30 0x0, .mkAny .ro 29 29 0x0]⟩,
  -- EVR_RDNUM_LO
  ⟨0x58, [], [.mkAny .ro 31 0 0x0]⟩,
  -- EVR_RDNUM_HI
  ⟨0x5C, [], [.mkAny .ro 15 0 0x0]⟩]

def regsEVR1 : List RegDesc := [
  -- EVR_RDWn
  ⟨0x60, [(0x4, 8)], [.mkAny .ro 31 0 0x0]⟩,
  -- EVR_BKTs
  ⟨0xC0, [(0x4, 16)], [.mkAny .rwp 31 24 0x0, ⟨15, 0, .rwp, .rng 1 65535, 0x0, none⟩]⟩]

/-- The registers of block 0x04. -/
def regsEVR : List RegDesc := regsEVR0 ++ regsEVR1

def regsUPD0 : List RegDesc := [
  -- UPD_CTL
  ⟨0x0, [], [.mkAny .rwp 3 3 0x1, .mkAny .rwp 2 2 0x1, .mkAny .rwp 1 1 0x1, .mkAny .rwp 0 0 0x1]⟩,
  -- UPD_STAT
  ⟨0x4, [], [.mkAny .w1c 5 5 0x0, .mkAny .w1c 4 4 0x0, .mkAny .w1c 3 3 0x0, .mkAny .w1c 2 2 0x0, .mkAny .w1c 1 1 0x0, .mkAny .ro 0 0 0x0]⟩,
  -- UPD_BADCFG
  ⟨0x8, [], [.mkAny .ro 11 8 0x0, .mkAny .ro 3 0 0x0]⟩,
  -- UPD_PKGSTAT
  ⟨0xC, [], [.mkAny .ro 31 28 0x0, .mkAny .ro 27 24 0x0, .mkAny .ro 15 8 0x0]⟩,
  -- UPD_PKGID
  ⟨0x10, [], []⟩,
  -- UPD_PKGVER
  ⟨0x14, [], []⟩,
  -- UPD_CONFIRM
  ⟨0x18, [], [.mkAny .wo 31 16 0x0, .mkAny .wo 3 0 0x0]⟩,
  -- UPD_KEYSTAT
  ⟨0x1C, [], [.mkAny .ro 7 4 0x0, .mkAny .ro 3 0 0x0]⟩,
  -- UPD_STORE
  ⟨0x20, [], [.mkAny .ro 31 16 0x0, .mkAny .ro 15 0 0x0]⟩,
  -- UPD_BOOT
  ⟨0x24, [], [.mkAny .ro 31 31 0x0, .mkAny .ro 15 0 0x0]⟩,
  -- UPD_ACCCNT
  ⟨0x28, [], [.mkAny .ro 31 0 0x0]⟩,
  -- UPD_REJCNT
  ⟨0x2C, [], [.mkAny .ro 31 0 0x0]⟩,
  -- UPD_FALLCNT
  ⟨0x30, [], [.mkAny .ro 31 0 0x0]⟩,
  -- UPD_LASTERR
  ⟨0x34, [], [.mkAny .ro 31 28 0x0, .mkAny .ro 27 24 0x0, .mkAny .ro 23 16 0x0]⟩,
  -- UPD_PROGRESS
  ⟨0x38, [], [.mkAny .ro 31 16 0x0, .mkAny .ro 15 0 0x0]⟩,
  -- UPD_MIGCNT
  ⟨0x3C, [], [.mkAny .ro 31 0 0x0]⟩,
  -- UPD_ITEMk
  ⟨0x40, [(0x4, 8)], [.mkAny .ro 31 28 0x0, .mkAny .ro 27 24 0x0, .mkAny .ro 23 16 0x0, .mkAny .ro 15 8 0x0, .mkAny .ro 7 0 0x0]⟩,
  -- UPD_Uu_STAT
  ⟨0x100, [(0x20, 9)], [.mkAny .ro 31 31 0x0, .mkAny .ro 30 28 0x0, .mkAny .ro 26 24 0x0, .mkAny .ro 27 27 0x0]⟩,
  -- UPD_Uu_VERA
  ⟨0x104, [(0x20, 9)], [.mkAny .ro 31 0 0x0]⟩,
  -- UPD_Uu_VERB
  ⟨0x108, [(0x20, 9)], [.mkAny .ro 31 0 0x0]⟩]

def regsUPD1 : List RegDesc := [
  -- UPD_Uu_ARB
  ⟨0x10C, [(0x20, 9)], [.mkAny .ro 31 0 0x0]⟩,
  -- UPD_Uu_PROB
  ⟨0x110, [(0x20, 9)], [.mkAny .ro 31 0 0x0]⟩,
  -- UPD_Uu_FALLS
  ⟨0x114, [(0x20, 9)], [.mkAny .ro 31 0 0x0]⟩,
  -- UPD_Uu_CFG
  ⟨0x118, [(0x20, 9)], [.mkAny .ro 31 16 0x0, .mkAny .ro 15 0 0x0]⟩,
  -- UPD_Uu_OPSEC
  ⟨0x11C, [(0x20, 9)], [.mkAny .ro 31 0 0x0]⟩]

/-- The registers of block 0x05. -/
def regsUPD : List RegDesc := regsUPD0 ++ regsUPD1

def regsRNG0 : List RegDesc := [
  -- RNG_CTL
  ⟨0x0, [], [.mkAny .rwp 0 0 0x1]⟩,
  -- RNG_STAT
  ⟨0x4, [], [.mkAny .w1c 2 2 0x0, .mkAny .w1c 1 1 0x0, .mkAny .w1c 0 0 0x0]⟩,
  -- RNG_SNAP
  ⟨0x8, [], [.mkAny .wo 0 0 0x0]⟩,
  -- RNG_BADQ
  ⟨0xC, [], [.mkAny .ro 19 16 0x0, .mkAny .ro 6 0 0x0]⟩,
  -- RNG_DELAYCNT_LO
  ⟨0x10, [], [.mkAny .ro 31 0 0x0]⟩,
  -- RNG_DELAYCNT_HI
  ⟨0x14, [], [.mkAny .ro 31 0 0x0]⟩,
  -- RNG_OVFCNT_LO
  ⟨0x18, [], [.mkAny .ro 31 0 0x0]⟩,
  -- RNG_OVFCNT_HI
  ⟨0x1C, [], [.mkAny .ro 31 0 0x0]⟩,
  -- RNG_IEn
  ⟨0x20, [(0x4, 3)], [.mkAny .rwp 31 0 0x0]⟩,
  -- RNG_IE3
  ⟨0x2C, [], [.mkAny .rwp 15 0 0x0]⟩,
  -- RNG_IPn
  ⟨0x30, [(0x4, 4)], [.mkAny .w1c 31 0 0x0]⟩,
  -- RNG_ERRn
  ⟨0x40, [(0x4, 4)], [.mkAny .w1c 31 0 0x0]⟩,
  -- RNG_HALTn
  ⟨0x50, [(0x4, 4)], [.mkAny .ro 31 0 0x0]⟩,
  -- RNG_CFULLn
  ⟨0x60, [(0x4, 4)], [.mkAny .ro 31 0 0x0]⟩,
  -- RNG_WAITn
  ⟨0x70, [(0x4, 4)], [.mkAny .ro 31 0 0x0]⟩,
  -- RNG_QnBASE
  ⟨0x400, [(0x10, 112)], [.mkAny .rwp 29 0 0x0]⟩,
  -- RNG_QnCFG
  ⟨0x404, [(0x10, 112)], [.mkAny .rwp 31 31 0x0, .mkAny .rwp 30 30 0x0, ⟨24, 20, .rwp, .rng 4 16, 0x0, none⟩, ⟨19, 16, .rwp, .rng 0 3, 0x0, none⟩, .mkAny .rwp 6 0 0x0]⟩,
  -- RNG_QnDB
  ⟨0x408, [(0x10, 112)], [.mkAny .wo 15 0 0x0]⟩,
  -- RNG_QnSTAT
  ⟨0x40C, [(0x10, 112)], [.mkAny .ro 31 31 0x1, .mkAny .ro 30 29 0x0, .mkAny .ro 15 0 0x0]⟩]

/-- The registers of block 0x06. -/
def regsRNG : List RegDesc := regsRNG0

def regsMBX0 : List RegDesc := [
  -- MBX_CTL
  ⟨0x0, [], [.mkAny .rwp 7 0 0x0]⟩,
  -- MBX_STAT
  ⟨0x4, [], [.mkAny .w1c 31 31 0x0, .mkAny .ro 23 20 0x0, .mkAny .ro 19 16 0x0, .mkAny .ro 5 0 0x0]⟩,
  -- MBX_FULL_LO
  ⟨0x8, [], [.mkAny .ro 31 0 0x0]⟩,
  -- MBX_FULL_HI
  ⟨0xC, [], [.mkAny .ro 31 0 0x0]⟩,
  -- MBX_ABT_LO
  ⟨0x10, [], [.mkAny .w1c 31 0 0x0]⟩,
  -- MBX_ABT_HI
  ⟨0x14, [], [.mkAny .w1c 31 0 0x0]⟩,
  -- MBX_REJCNT
  ⟨0x18, [], [.mkAny .ro 31 0 0x0]⟩,
  -- MBX_LOSTCNT
  ⟨0x1C, [], [.mkAny .ro 31 0 0x0]⟩,
  -- MBX_MnLO
  ⟨0x100, [(0x10, 64)], [.mkAny .rw 31 0 0x0]⟩,
  -- MBX_MnHI
  ⟨0x104, [(0x10, 64)], [.mkAny .rw 31 28 0x0, .mkAny .rw 27 16 0x0, .mkAny .rw 15 0 0x0]⟩,
  -- MBX_MnSTAT
  ⟨0x108, [(0x10, 64)], [.mkAny .w1c 31 31 0x0, .mkAny .rwp 30 30 0x1, .mkAny .ro 29 28 0x0, .mkAny .ro 27 24 0x0]⟩]

/-- The registers of block 0x07. -/
def regsMBX : List RegDesc := regsMBX0

def regsING0 : List RegDesc := [
  -- ING_CTL
  ⟨0x0, [], [.mkAny .rwp 2 2 0x1, .mkAny .rwp 1 1 0x1, .mkAny .rwp 0 0 0x1]⟩,
  -- ING_STAT
  ⟨0x4, [], [.mkAny .w1c 6 6 0x0, .mkAny .w1c 5 5 0x0, .mkAny .w1c 4 4 0x0, .mkAny .w1c 3 3 0x0, .mkAny .w1c 2 2 0x0, .mkAny .w1c 1 1 0x0, .mkAny .w1c 0 0 0x0]⟩,
  -- ING_SNAP
  ⟨0x8, [], [.mkAny .wo 0 0 0x0]⟩,
  -- ING_REFSTAT
  ⟨0xC, [], [.mkAny .ro 3 3 0x0, .mkAny .ro 2 2 0x0, .mkAny .ro 1 1 0x0, .mkAny .ro 0 0 0x0]⟩,
  -- ING_REFDEV_AB
  ⟨0x10, [], [.mkAny .ro 15 0 0x0]⟩,
  -- ING_REFDEV_A
  ⟨0x14, [], [.mkAny .ro 15 0 0x0]⟩,
  -- ING_REFDEV_B
  ⟨0x18, [], [.mkAny .ro 15 0 0x0]⟩,
  -- ING_MIRCFG
  ⟨0x1C, [], [.mkAny .rwp 31 31 0x0, ⟨24, 20, .rwp, .rng 8 22, 0x0, none⟩]⟩,
  -- ING_MIRBASE
  ⟨0x20, [], [.mkAny .rwp 30 0 0x0]⟩,
  -- ING_MIRPOS
  ⟨0x24, [], [.mkAny .ro 31 0 0x0]⟩,
  -- ING_MIRDROP
  ⟨0x28, [], [.mkAny .ro 31 0 0x0]⟩,
  -- ING_GAPSTR
  ⟨0x2C, [], [.mkAny .ro 31 31 0x0, .mkAny .ro 6 0 0x0]⟩,
  -- ING_TRAYCNT_LO
  ⟨0x30, [], [.mkAny .ro 31 0 0x0]⟩,
  -- ING_TRAYCNT_HI
  ⟨0x34, [], [.mkAny .ro 31 0 0x0]⟩,
  -- ING_HITn
  ⟨0x38, [(0x4, 8)], [.mkAny .rc 31 0 0x0]⟩,
  -- ING_DEGMAP_LO
  ⟨0x58, [], [.mkAny .ro 31 0 0x0]⟩,
  -- ING_DEGMAP_HI
  ⟨0x5C, [], [.mkAny .ro 15 0 0x0]⟩,
  -- ING_ACHn_CFG
  ⟨0x100, [(0x4, 48)], [.mkAny .rwp 31 31 0x0, .mkAny .rwp 30 30 0x0, ⟨29, 27, .rwp, .rng 0 4, 0x0, none⟩, .mkAny .rwp 26 24 0x0, .mkAny .rwp 23 21 0x0, ⟨20, 19, .rwp, .rng 0 2, 0x0, none⟩, .mkAny .rwp 18 16 0x0, .mkAny .rwp 7 0 0x0]⟩,
  -- ING_ACCn_CFG
  ⟨0x1C0, [(0x4, 8)], [.mkAny .rwp 31 31 0x0, .mkAny .rwp 30 30 0x0, ⟨29, 25, .rwp, .rng 1 31, 0x2, none⟩, .mkAny .rwp 24 20 0x14, ⟨19, 12, .rwp, .rng 2 200, 0xA, none⟩, ⟨11, 8, .rwp, .rng 0 10, 0x4, none⟩, .mkAny .rwp 7 0 0x0]⟩,
  -- ING_ACCn_THR
  ⟨0x1E0, [(0x4, 8)], [.mkAny .rwp 31 16 0x2000, .mkAny .rwp 15 0 0x1000]⟩]

def regsING1 : List RegDesc := [
  -- ING_FQn_CFG
  ⟨0x200, [(0x4, 32)], [.mkAny .rwp 31 31 0x0, .mkAny .rwp 30 29 0x0, .mkAny .rwp 28 28 0x0, .mkAny .rwp 27 27 0x0, .mkAny .rwp 26 24 0x4, ⟨23, 16, .rwp, .rng 1 255, 0x64, none⟩, ⟨15, 8, .rwp, .rng 1 255, 0x1, none⟩, .mkAny .rwp 7 0 0x10]⟩,
  -- ING_SUPn_CFG
  ⟨0x280, [(0x4, 8)], [.mkAny .rwp 31 31 0x0, ⟨30, 29, .rwp, .rng 0 2, 0x0, none⟩, .mkAny .rwp 28 28 0x0]⟩,
  -- ING_SUPn_STAT
  ⟨0x2A0, [(0x4, 8)], [.mkAny .ro 31 31 0x0, .mkAny .ro 30 29 0x0, .mkAny .ro 15 0 0x0]⟩,
  -- ING_STRn_CFG
  ⟨0x400, [(0x4, 112)], [.mkAny .rwp 31 31 0x0, .mkAny .rwp 30 30 0x0, ⟨29, 26, .rwp, .rng 4 15, 0x4, none⟩, .mkAny .rwp 23 16 0x0, .mkAny .rwp 15 0 0x0]⟩,
  -- ING_STRn_WPOS
  ⟨0x600, [(0x4, 112)], [.mkAny .ro 31 0 0x0]⟩]

/-- The registers of block 0x08. -/
def regsING : List RegDesc := regsING0 ++ regsING1

def regsTRL0 : List RegDesc := [
  -- TRL_CTL
  ⟨0x0, [], [.mkAny .rwp 3 3 0x1, .mkAny .rwp 2 2 0x1, .mkAny .rwp 1 1 0x1, .mkAny .rwp 0 0 0x1]⟩,
  -- TRL_STAT
  ⟨0x4, [], [.mkAny .w1c 6 6 0x0, .mkAny .w1c 5 5 0x0, .mkAny .w1c 4 4 0x0, .mkAny .w1c 3 3 0x0, .mkAny .w1c 2 2 0x0, .mkAny .w1c 1 1 0x0, .mkAny .w1c 0 0 0x0]⟩,
  -- TRL_SNAP
  ⟨0x8, [], [.mkAny .wo 0 0 0x0]⟩,
  -- TRL_BADCFG
  ⟨0xC, [], [.mkAny .ro 11 8 0x0, .mkAny .ro 5 0 0x0]⟩,
  -- TRL_SPBASEA
  ⟨0x10, [], [.mkAny .rwp 12 0 0x0]⟩,
  -- TRL_SPBASEB
  ⟨0x14, [], [.mkAny .rwp 12 0 0x0]⟩,
  -- TRL_SPSRC
  ⟨0x18, [], [.mkAny .ro 31 31 0x0, .mkAny .ro 15 0 0x0]⟩,
  -- TRL_OUTBASE
  ⟨0x1C, [], [.mkAny .rwp 31 31 0x0, .mkAny .rwp 12 0 0x0]⟩,
  -- TRL_GDOFF
  ⟨0x20, [], [.mkAny .rwp 31 31 0x0, .mkAny .rwp 14 0 0x0]⟩,
  -- TRL_FCOFF
  ⟨0x24, [], [.mkAny .rwp 31 31 0x0, .mkAny .rwp 12 0 0x0]⟩,
  -- TRL_ENMAP_LO
  ⟨0x28, [], [.mkAny .ro 31 0 0x0]⟩,
  -- TRL_ENMAP_HI
  ⟨0x2C, [], [.mkAny .ro 31 0 0x0]⟩,
  -- TRL_ALMMAP_LO
  ⟨0x30, [], [.mkAny .w1c 31 0 0x0]⟩,
  -- TRL_ALMMAP_HI
  ⟨0x34, [], [.mkAny .w1c 31 0 0x0]⟩,
  -- TRL_HOLDMAP_LO
  ⟨0x38, [], [.mkAny .ro 31 0 0x0]⟩,
  -- TRL_HOLDMAP_HI
  ⟨0x3C, [], [.mkAny .ro 31 0 0x0]⟩,
  -- TRL_TRIPMAP_LO
  ⟨0x40, [], [.mkAny .ro 31 0 0x0]⟩,
  -- TRL_TRIPMAP_HI
  ⟨0x44, [], [.mkAny .ro 31 0 0x0]⟩,
  -- TRL_SAMPCNT_LO
  ⟨0x48, [], [.mkAny .ro 31 0 0x0]⟩,
  -- TRL_SAMPCNT_HI
  ⟨0x4C, [], [.mkAny .ro 31 0 0x0]⟩]

def regsTRL1 : List RegDesc := [
  -- TRL_SKIPCNT_LO
  ⟨0x50, [], [.mkAny .ro 31 0 0x0]⟩,
  -- TRL_SKIPCNT_HI
  ⟨0x54, [], [.mkAny .ro 31 0 0x0]⟩,
  -- TRL_POISCNT
  ⟨0x58, [], [.mkAny .ro 31 0 0x0]⟩,
  -- TRL_TORNCNT
  ⟨0x5C, [], [.mkAny .ro 31 0 0x0]⟩,
  -- TRL_ASATCNT
  ⟨0x60, [], [.mkAny .ro 31 0 0x0]⟩,
  -- TRL_MAXLAT
  ⟨0x64, [], [.mkAny .rc 31 16 0x0, .mkAny .ro 5 0 0x0]⟩,
  -- TRL_LOAD
  ⟨0x68, [], [⟨31, 16, .rc, .any, 0x0, some (15, 0)⟩, .mkAny .ro 15 0 0x0]⟩,
  -- TRL_LOOPS
  ⟨0x6C, [], [.mkAny .ro 7 0 0x0]⟩,
  -- TRL_SWCNT
  ⟨0x70, [], [.mkAny .ro 31 0 0x0]⟩,
  -- TRL_SEQVER
  ⟨0x74, [], [.mkAny .ro 31 0 0x0]⟩,
  -- TRL_PMERR
  ⟨0x78, [], [.mkAny .ro 31 16 0x0, .mkAny .w1c 15 15 0x0, .mkAny .ro 5 0 0x0]⟩,
  -- TRL_FCAGE
  ⟨0x7C, [], [.mkAny .rc 31 16 0x0, .mkAny .ro 15 0 0x0]⟩,
  -- TRL_Ln_CTL
  ⟨0x800, [(0x20, 64)], [.mkAny .rwp 31 31 0x0, ⟨30, 28, .rwp, .rng 0 2, 0x0, none⟩, .mkAny .rwp 27 27 0x0, .mkAny .rwp 26 24 0x0, ⟨23, 20, .rwp, .rng 0 12, 0x0, none⟩, ⟨19, 0, .rwp, .rng 250 1000000, 0x2710, none⟩]⟩,
  -- TRL_Ln_PHASE
  ⟨0x804, [(0x20, 64)], [.mkAny .rwp 19 0 0x0]⟩,
  -- TRL_Ln_STAT
  ⟨0x808, [(0x20, 64)], [.mkAny .ro 31 29 0x0, .mkAny .ro 28 28 0x0, .mkAny .ro 15 0 0x0]⟩,
  -- TRL_Ln_SP
  ⟨0x80C, [(0x20, 64)], [.mkAny .ro 31 0 0x0]⟩,
  -- TRL_Ln_OUT
  ⟨0x810, [(0x20, 64)], [.mkAny .ro 31 0 0x0]⟩,
  -- TRL_Ln_MEAS
  ⟨0x814, [(0x20, 64)], [.mkAny .ro 31 0 0x0]⟩,
  -- TRL_Ln_LAT
  ⟨0x818, [(0x20, 64)], [.mkAny .rc 31 16 0x0, .mkAny .ro 15 0 0x0]⟩]

/-- The registers of block 0x09. -/
def regsTRL : List RegDesc := regsTRL0 ++ regsTRL1

def regsFUR0 : List RegDesc := [
  -- FUR_CTL
  ⟨0x0, [], [.mkAny .rwp 31 24 0x3, .mkAny .rwp 4 4 0x1, .mkAny .rwp 3 3 0x1, .mkAny .rwp 2 2 0x1, .mkAny .rwp 1 1 0x1, .mkAny .rwp 0 0 0x1]⟩,
  -- FUR_STAT
  ⟨0x4, [], [.mkAny .w1c 8 8 0x0, .mkAny .w1c 7 7 0x0, .mkAny .w1c 6 6 0x0, .mkAny .w1c 5 5 0x0, .mkAny .w1c 4 4 0x0, .mkAny .w1c 3 3 0x0, .mkAny .w1c 2 2 0x0, .mkAny .w1c 1 1 0x0, .mkAny .w1c 0 0 0x0]⟩,
  -- FUR_SNAP
  ⟨0x8, [], [.mkAny .wo 0 0 0x0]⟩,
  -- FUR_RUN
  ⟨0xC, [], [.mkAny .rwp 31 31 0x0, ⟨17, 0, .rwp, .rng 500 200000, 0x2710, none⟩]⟩,
  -- FUR_OFFSET
  ⟨0x10, [], [.mkAny .rwp 17 0 0x0]⟩,
  -- FUR_STATE
  ⟨0x14, [], [.mkAny .ro 31 30 0x0, .mkAny .ro 29 29 0x0, .mkAny .ro 28 28 0x0, .mkAny .ro 22 16 0x0]⟩,
  -- FUR_PROGID
  ⟨0x18, [], []⟩,
  -- FUR_PROGVER
  ⟨0x1C, [], []⟩,
  -- FUR_SCANSEQ
  ⟨0x20, [], [.mkAny .ro 31 0 0x0]⟩,
  -- FUR_SCANTIME
  ⟨0x24, [], [.mkAny .rc 31 16 0x0, .mkAny .ro 15 0 0x0]⟩,
  -- FUR_FAULT
  ⟨0x28, [], [.mkAny .ro 31 28 0x0, .mkAny .ro 16 0 0x0]⟩,
  -- FUR_FAULTADDR
  ⟨0x2C, [], [.mkAny .ro 15 0 0x0]⟩,
  -- FUR_FAULTRUN
  ⟨0x30, [], [.mkAny .ro 31 24 0x0, .mkAny .ro 23 0 0x0]⟩,
  -- FUR_CMDBASEA
  ⟨0x34, [], [.mkAny .rwp 31 31 0x0, .mkAny .rwp 14 0 0x0]⟩,
  -- FUR_CMDBASEB
  ⟨0x38, [], [.mkAny .rwp 31 31 0x0, .mkAny .rwp 14 0 0x0]⟩,
  -- FUR_STATBASE
  ⟨0x3C, [], [.mkAny .rwp 31 31 0x0, .mkAny .rwp 10 0 0x0]⟩,
  -- FUR_SCANCNT_LO
  ⟨0x40, [], [.mkAny .ro 31 0 0x0]⟩,
  -- FUR_SCANCNT_HI
  ⟨0x44, [], [.mkAny .ro 31 0 0x0]⟩,
  -- FUR_OVRCNT_LO
  ⟨0x48, [], [.mkAny .ro 31 0 0x0]⟩,
  -- FUR_OVRCNT_HI
  ⟨0x4C, [], [.mkAny .ro 31 0 0x0]⟩]

def regsFUR1 : List RegDesc := [
  -- FUR_ABRTCNT
  ⟨0x50, [], [.mkAny .ro 31 0 0x0]⟩,
  -- FUR_CHGCNT
  ⟨0x54, [], [.mkAny .ro 31 0 0x0]⟩,
  -- FUR_BADCFG
  ⟨0x58, [], [.mkAny .ro 11 8 0x0]⟩,
  -- FUR_CMDSRC
  ⟨0x5C, [], [.mkAny .ro 31 31 0x0, .mkAny .ro 30 16 0x0, .mkAny .ro 15 0 0x0]⟩,
  -- FUR_MAPCNT
  ⟨0x60, [], [.mkAny .ro 26 16 0x0, .mkAny .ro 10 0 0x0]⟩,
  -- FUR_POISCNT
  ⟨0x64, [], [.mkAny .ro 31 0 0x0]⟩,
  -- FUR_LOAD
  ⟨0x68, [], [⟨31, 16, .rc, .any, 0x0, some (15, 0)⟩, .mkAny .ro 15 0 0x0]⟩,
  -- FUR_PMERR
  ⟨0x6C, [], [.mkAny .ro 31 16 0x0, .mkAny .ro 15 0 0x0]⟩,
  -- FUR_SUBSTMAPn
  ⟨0x100, [(0x4, 32)], [.mkAny .ro 31 0 0x0]⟩,
  -- FUR_OUTREJn
  ⟨0x180, [(0x4, 32)], [.mkAny .w1c 31 0 0x0]⟩,
  -- FUR_WATCHn_SEL
  ⟨0x200, [(0x8, 16)], [.mkAny .rwp 31 31 0x0, ⟨30, 28, .rwp, .rng 0 3, 0x0, none⟩, .mkAny .rwp 12 0 0x0]⟩,
  -- FUR_WATCHn_VAL
  ⟨0x204, [(0x8, 16)], [.mkAny .ro 31 0 0x0]⟩,
  -- FUR_HISTn
  ⟨0x280, [(0x4, 16)], [.mkAny .rc 31 0 0x0]⟩]

/-- The registers of block 0x0A. -/
def regsFUR : List RegDesc := regsFUR0 ++ regsFUR1

def regsVLV0 : List RegDesc := [
  -- VLV_CTL
  ⟨0x0, [], [.mkAny .rwp 4 4 0x1, .mkAny .rwp 3 3 0x1, .mkAny .rwp 2 2 0x1, .mkAny .rwp 1 1 0x1, .mkAny .rwp 0 0 0x1]⟩,
  -- VLV_STAT
  ⟨0x4, [], [.mkAny .w1c 7 7 0x0, .mkAny .w1c 6 6 0x0, .mkAny .w1c 5 5 0x0, .mkAny .w1c 4 4 0x0, .mkAny .w1c 3 3 0x0, .mkAny .w1c 2 2 0x0, .mkAny .w1c 1 1 0x0, .mkAny .w1c 0 0 0x0]⟩,
  -- VLV_SNAP
  ⟨0x8, [], [.mkAny .wo 0 0 0x0]⟩,
  -- VLV_BADCFG
  ⟨0xC, [], [.mkAny .ro 11 8 0x0, .mkAny .ro 5 0 0x0]⟩,
  -- VLV_WDCFG
  ⟨0x10, [], [⟨7, 0, .rwp, .rng 20 200, 0x32, none⟩]⟩,
  -- VLV_LATECNT
  ⟨0x14, [], [.mkAny .ro 31 0 0x0]⟩,
  -- VLV_CONFCNT
  ⟨0x18, [], [.mkAny .ro 31 16 0x0, .mkAny .ro 15 0 0x0]⟩,
  -- VLV_POISCNT
  ⟨0x1C, [], [.mkAny .ro 31 0 0x0]⟩,
  -- VLV_ENMAP_LO
  ⟨0x20, [], [.mkAny .ro 31 0 0x0]⟩,
  -- VLV_ENMAP_HI
  ⟨0x24, [], [.mkAny .ro 31 0 0x0]⟩,
  -- VLV_FLTMAP_LO
  ⟨0x28, [], [.mkAny .w1c 31 0 0x0]⟩,
  -- VLV_FLTMAP_HI
  ⟨0x2C, [], [.mkAny .w1c 31 0 0x0]⟩,
  -- VLV_BANKk_STAT
  ⟨0x80, [(0x8, 12)], [.mkAny .ro 31 31 0x0, .mkAny .w1c 30 30 0x0, .mkAny .ro 29 28 0x0, .mkAny .ro 27 27 0x0, .mkAny .ro 25 24 0x0, .mkAny .ro 23 20 0x0, .mkAny .ro 19 16 0x0, .mkAny .ro 15 0 0x0]⟩,
  -- VLV_BANKk_CUR
  ⟨0x84, [(0x8, 12)], [⟨31, 16, .rc, .any, 0x0, some (15, 0)⟩, .mkAny .ro 15 0 0x0]⟩,
  -- VLV_TRWj_STAT
  ⟨0x100, [(0x8, 6)], [.mkAny .ro 31 31 0x0, .mkAny .ro 30 30 0x0, .mkAny .ro 29 29 0x0, .mkAny .ro 28 28 0x0, .mkAny .ro 23 16 0x0, .mkAny .rc 15 0 0x0]⟩,
  -- VLV_TRWj_WDOG
  ⟨0x104, [(0x8, 6)], [.mkAny .wo 31 31 0x0, .mkAny .ro 15 0 0x0]⟩,
  -- VLV_CHn_CTL
  ⟨0x400, [(0x40, 48)], [.mkAny .rwp 31 31 0x0, .mkAny .rwp 30 30 0x0, .mkAny .rwp 29 28 0x0, .mkAny .rwp 27 27 0x0, ⟨20, 16, .rwp, .rng 2 20, 0x5, none⟩]⟩,
  -- VLV_CHn_PEAK
  ⟨0x404, [(0x40, 48)], [⟨31, 16, .rwp, .rng 10 5000, 0x3E8, none⟩, ⟨15, 0, .rwp, .rng 100 8000, 0xFA0, none⟩]⟩,
  -- VLV_CHn_HOLD
  ⟨0x408, [(0x40, 48)], [⟨31, 16, .rwp, .rng 100 4000, 0xFA0, none⟩, ⟨15, 0, .rwp, .rng 100 4000, 0x3E8, none⟩]⟩,
  -- VLV_CHn_DITHER
  ⟨0x40C, [(0x40, 48)], [⟨24, 16, .rwp, .zeroOr 50 400, 0x0, none⟩, ⟨15, 0, .rwp, .rng 0 500, 0x0, none⟩]⟩]

def regsVLV1 : List RegDesc := [
  -- VLV_CHn_DIP
  ⟨0x410, [(0x40, 48)], [.mkAny .rwp 31 22 0x14, .mkAny .rwp 21 12 0x64, ⟨11, 0, .rwp, .rng 10 4095, 0x32, none⟩]⟩,
  -- VLV_CHn_DUTY
  ⟨0x414, [(0x40, 48)], [.mkAny .rwp 31 31 0x0, .mkAny .rwp 30 30 0x0, ⟨29, 24, .rwp, .rng 1 60, 0xA, none⟩, ⟨23, 16, .rwp, .rng 1 255, 0x80, none⟩]⟩,
  -- VLV_CHn_CMD
  ⟨0x418, [(0x40, 48)], [.mkAny .rw 31 31 0x0, .mkAny .rw 11 0 0x0]⟩,
  -- VLV_CHn_STAT
  ⟨0x41C, [(0x40, 48)], [.mkAny .ro 15 0 0x400]⟩,
  -- VLV_CHn_MEAS
  ⟨0x420, [(0x40, 48)], [⟨31, 16, .rc, .any, 0x0, some (15, 0)⟩, .mkAny .ro 15 0 0x0]⟩,
  -- VLV_CHn_MOTION
  ⟨0x424, [(0x40, 48)], [.mkAny .ro 31 16 0x0, .mkAny .ro 15 0 0x0]⟩,
  -- VLV_CHn_DUTYUSE
  ⟨0x428, [(0x40, 48)], [⟨31, 16, .rc, .any, 0x0, some (15, 0)⟩, .mkAny .ro 15 0 0x0]⟩,
  -- VLV_CHn_WEAR_LO
  ⟨0x42C, [(0x40, 48)], [.mkAny .ro 31 0 0x0]⟩,
  -- VLV_CHn_WEAR_HI
  ⟨0x430, [(0x40, 48)], [.mkAny .ro 7 0 0x0]⟩,
  -- VLV_CHn_FSAFE
  ⟨0x434, [(0x40, 48)], [.mkAny .ro 31 0 0x0]⟩]

/-- The registers of block 0x0B. -/
def regsVLV : List RegDesc := regsVLV0 ++ regsVLV1

def regsLSW0 : List RegDesc := [
  -- LSW_CTL
  ⟨0x0, [], [.mkAny .rwp 5 5 0x1, .mkAny .rwp 4 4 0x1, .mkAny .rwp 3 3 0x1, .mkAny .rwp 2 2 0x1, .mkAny .rwp 1 1 0x1, .mkAny .rwp 0 0 0x1]⟩,
  -- LSW_STAT
  ⟨0x4, [], [.mkAny .w1c 7 7 0x0, .mkAny .w1c 6 6 0x0, .mkAny .w1c 5 5 0x0, .mkAny .w1c 4 4 0x0, .mkAny .w1c 3 3 0x0, .mkAny .w1c 2 2 0x0, .mkAny .w1c 1 1 0x0, .mkAny .w1c 0 0 0x0]⟩,
  -- LSW_SNAP
  ⟨0x8, [], [.mkAny .wo 0 0 0x0]⟩,
  -- LSW_BADCFG
  ⟨0xC, [], [.mkAny .ro 11 8 0x0, .mkAny .ro 5 0 0x0]⟩,
  -- LSW_WDCFG
  ⟨0x10, [], [⟨7, 0, .rwp, .rng 20 200, 0x32, none⟩]⟩,
  -- LSW_FSUNLOCK
  ⟨0x14, [], [.mkAny .ro 31 30 0x0, .mkAny .wo 15 0 0x0]⟩,
  -- LSW_FSVER
  ⟨0x18, [], [.mkAny .ro 31 0 0x0]⟩,
  -- LSW_POISCNT
  ⟨0x1C, [], [.mkAny .ro 31 0 0x0]⟩,
  -- LSW_ENMAP_LO
  ⟨0x20, [], [.mkAny .ro 31 0 0x0]⟩,
  -- LSW_ENMAP_HI
  ⟨0x24, [], [.mkAny .ro 31 0 0x0]⟩,
  -- LSW_FLTMAP_LO
  ⟨0x28, [], [.mkAny .w1c 31 0 0x0]⟩,
  -- LSW_FLTMAP_HI
  ⟨0x2C, [], [.mkAny .w1c 31 0 0x0]⟩,
  -- LSW_OLMAP_LO
  ⟨0x30, [], [.mkAny .ro 31 0 0x0]⟩,
  -- LSW_OLMAP_HI
  ⟨0x34, [], [.mkAny .ro 31 0 0x0]⟩,
  -- LSW_SHEDMAP_LO
  ⟨0x38, [], [.mkAny .w1c 31 0 0x0]⟩,
  -- LSW_SHEDMAP_HI
  ⟨0x3C, [], [.mkAny .w1c 31 0 0x0]⟩,
  -- LSW_GRPg_STAT
  ⟨0x40, [(0x8, 4)], [⟨31, 16, .rwp, .rng 1000 60000, 0xEA60, none⟩, .mkAny .ro 15 0 0x0]⟩,
  -- LSW_GRPg_CUR
  ⟨0x44, [(0x8, 4)], [⟨31, 16, .rc, .any, 0x0, some (15, 0)⟩, .mkAny .ro 15 0 0x0]⟩,
  -- LSW_SHRj_STAT
  ⟨0x60, [(0x8, 8)], [.mkAny .ro 31 31 0x0, .mkAny .ro 30 30 0x0, .mkAny .ro 29 29 0x0, .mkAny .ro 28 28 0x0, .mkAny .ro 23 16 0x0, .mkAny .rc 15 0 0x0]⟩,
  -- LSW_SHRj_WDOG
  ⟨0x64, [(0x8, 8)], [.mkAny .wo 31 31 0x0, .mkAny .ro 15 0 0x0]⟩]

def regsLSW1 : List RegDesc := [
  -- LSW_GENk
  ⟨0xA0, [(0x4, 8)], [⟨10, 0, .rwp, .rng 50 2000, 0xC8, none⟩]⟩,
  -- LSW_TOTAL
  ⟨0xC0, [], [⟨31, 16, .rc, .any, 0x0, some (15, 0)⟩, .mkAny .ro 15 0 0x0]⟩,
  -- LSW_CONFCNT
  ⟨0xC4, [], [.mkAny .ro 31 16 0x0, .mkAny .ro 15 0 0x0]⟩,
  -- LSW_SHEDCNT
  ⟨0xC8, [], [.mkAny .ro 31 0 0x0]⟩,
  -- LSW_FSSTAT
  ⟨0xCC, [], [.mkAny .ro 13 0 0x0]⟩,
  -- LSW_FSCNT
  ⟨0xD0, [], [.mkAny .ro 31 0 0x0]⟩,
  -- LSW_TRIPCNT
  ⟨0xD4, [], [.mkAny .ro 31 0 0x0]⟩,
  -- LSW_OLCNT
  ⟨0xD8, [], [.mkAny .ro 31 0 0x0]⟩,
  -- LSW_BUSV
  ⟨0xDC, [], [⟨31, 16, .rc, .any, 0xFFFF, some (15, 0)⟩, .mkAny .ro 15 0 0x0]⟩,
  -- LSW_CHn_CTL
  ⟨0x100, [(0x10, 64)], [.mkAny .rwp 31 31 0x0, .mkAny .rwp 30 30 0x0, .mkAny .rwp 29 28 0x0, .mkAny .rwp 27 25 0x0, .mkAny .rwp 24 24 0x1, .mkAny .rwp 23 23 0x0, .mkAny .rwp 22 20 0x3, .mkAny .rwp 19 14 0x0, ⟨13, 8, .rwp, .rng 1 50, 0xA, none⟩, ⟨7, 0, .rwp, .rng 1 255, 0x1E, none⟩]⟩,
  -- LSW_CHn_LIM
  ⟨0x104, [(0x10, 64)], [.mkAny .rwp 31 20 0x0, .mkAny .rwp 19 10 0xA, .mkAny .rwp 9 0 0x1F4]⟩,
  -- LSW_CHn_CMD
  ⟨0x108, [(0x10, 64)], [.mkAny .rw 31 31 0x0, ⟨10, 0, .rw, .rng 0 1024, 0x400, none⟩]⟩,
  -- LSW_CHn_STAT
  ⟨0x10C, [(0x10, 64)], [.mkAny .ro 31 16 0x0, .mkAny .ro 15 0 0x4]⟩,
  -- LSW_WEARn_LO
  ⟨0x800, [(0x8, 64)], [.mkAny .ro 31 0 0x0]⟩,
  -- LSW_WEARn_HI
  ⟨0x804, [(0x8, 64)], [.mkAny .ro 7 0 0x0]⟩]

/-- The registers of block 0x0C. -/
def regsLSW : List RegDesc := regsLSW0 ++ regsLSW1

def regsCAN0 : List RegDesc := [
  -- CAN_CTL
  ⟨0x0, [], [.mkAny .rwp 4 4 0x1, .mkAny .rwp 3 3 0x1, .mkAny .rwp 2 2 0x1, .mkAny .rwp 1 1 0x1, .mkAny .rwp 0 0 0x1]⟩,
  -- CAN_STAT
  ⟨0x4, [], [.mkAny .w1c 7 7 0x0, .mkAny .w1c 6 6 0x0, .mkAny .w1c 5 5 0x0, .mkAny .w1c 4 4 0x0, .mkAny .w1c 3 3 0x0, .mkAny .w1c 2 2 0x0, .mkAny .w1c 1 1 0x0, .mkAny .w1c 0 0 0x0]⟩,
  -- CAN_SNAP
  ⟨0x8, [], [.mkAny .wo 0 0 0x0]⟩,
  -- CAN_BADCFG
  ⟨0xC, [], [.mkAny .ro 11 8 0x0, .mkAny .ro 2 0 0x0]⟩,
  -- CAN_RXCNT_LO
  ⟨0x10, [], [.mkAny .ro 31 0 0x0]⟩,
  -- CAN_RXCNT_HI
  ⟨0x14, [], [.mkAny .ro 31 0 0x0]⟩,
  -- CAN_TXCNT_LO
  ⟨0x18, [], [.mkAny .ro 31 0 0x0]⟩,
  -- CAN_TXCNT_HI
  ⟨0x1C, [], [.mkAny .ro 31 0 0x0]⟩,
  -- CAN_PTNCFG
  ⟨0x20, [], [.mkAny .wo 31 31 0x0, .mkAny .rwp 23 16 0xA, .mkAny .rwp 12 0 0x0]⟩,
  -- CAN_PTNCNT
  ⟨0x24, [], [.mkAny .ro 31 16 0x0, .mkAny .ro 8 0 0x0]⟩,
  -- CAN_RXDROP
  ⟨0x28, [], [.mkAny .ro 31 0 0x0]⟩,
  -- CAN_POISCNT
  ⟨0x2C, [], [.mkAny .ro 31 0 0x0]⟩,
  -- CAN_ALONEMAP
  ⟨0x30, [], [.mkAny .w1c 7 0 0x0]⟩,
  -- CAN_WAKESRC
  ⟨0x34, [], [.mkAny .ro 31 31 0x0, .mkAny .ro 1 1 0x0, .mkAny .ro 0 0 0x0]⟩,
  -- CAN_STAMP
  ⟨0x38, [], [.mkAny .ro 31 0 0x0]⟩,
  -- CAN_CLAIMMAP
  ⟨0x3C, [], [.mkAny .ro 7 0 0x0]⟩,
  -- CAN_CHc_CTL
  ⟨0x100, [(0x40, 8)], [.mkAny .rwp 31 31 0x0, ⟨30, 29, .rwp, .rng 0 2, 0x0, none⟩, .mkAny .rwp 28 28 0x0, .mkAny .rwp 27 27 0x1, .mkAny .rwp 26 26 0x0, .mkAny .rwp 25 25 0x1, .mkAny .rwp 24 24 0x1, .mkAny .rwp 23 23 0x0, .mkAny .rwp 22 22 0x0, ⟨21, 19, .rwp, .rng 0 4, 0x0, none⟩]⟩,
  -- CAN_CHc_BT
  ⟨0x104, [(0x40, 8)], [⟨31, 28, .rwp, .rng 0 3, 0x1, none⟩, ⟨27, 22, .rwp, .rng 32 56, 0x38, none⟩, ⟨21, 18, .rwp, .rng 0 4, 0x0, none⟩, ⟨17, 12, .rwp, .rng 32 56, 0x2C, none⟩, .mkAny .rwp 11 11 0x1]⟩,
  -- CAN_CHc_STAT
  ⟨0x108, [(0x40, 8)], [.mkAny .ro 31 29 0x0, .mkAny .ro 28 27 0x0, .mkAny .ro 26 26 0x0, .mkAny .ro 25 25 0x0, .mkAny .ro 24 22 0x0, .mkAny .ro 15 8 0x0, .mkAny .ro 7 0 0x0]⟩,
  -- CAN_CHc_DET
  ⟨0x10C, [(0x40, 8)], [⟨31, 24, .rwp, .rng 1 255, 0x1E, none⟩, .mkAny .ro 23 23 0x0, .mkAny .ro 22 22 0x0, .mkAny .ro 21 18 0x0, .mkAny .ro 17 14 0x0]⟩]

def regsCAN1 : List RegDesc := [
  -- CAN_CHc_ACCTAB
  ⟨0x110, [(0x40, 8)], [⟨31, 23, .rwp, .rng 0 256, 0x0, none⟩, .mkAny .rwp 18 0 0x0]⟩,
  -- CAN_CHc_RXBUF
  ⟨0x114, [(0x40, 8)], [⟨31, 25, .rwp, .rng 0 64, 0x0, none⟩, .mkAny .rwp 17 0 0x0]⟩,
  -- CAN_CHc_TXBUF
  ⟨0x118, [(0x40, 8)], [⟨31, 25, .rwp, .rng 0 64, 0x0, none⟩, .mkAny .rwp 17 0 0x0]⟩,
  -- CAN_CHc_CLAIM
  ⟨0x11C, [(0x40, 8)], [.mkAny .rwp 31 24 0x80, .mkAny .rwp 23 16 0x80, ⟨15, 8, .rwp, .rng 0 253, 0x87, none⟩, .mkAny .ro 7 0 0xFE]⟩,
  -- CAN_CHc_NAME_LO
  ⟨0x120, [(0x40, 8)], [.mkAny .rwp 31 0 0x0]⟩,
  -- CAN_CHc_NAME_HI
  ⟨0x124, [(0x40, 8)], [.mkAny .rwp 31 0 0x0]⟩,
  -- CAN_CHc_CLMSTAT
  ⟨0x128, [(0x40, 8)], [.mkAny .ro 31 29 0x0, .mkAny .ro 15 0 0x0]⟩,
  -- CAN_CHc_ERRCNT
  ⟨0x12C, [(0x40, 8)], [.mkAny .ro 31 16 0x0, .mkAny .rc 15 0 0x0]⟩,
  -- CAN_CHc_WUFID
  ⟨0x130, [(0x40, 8)], [.mkAny .rwp 31 31 0x1, .mkAny .rwp 28 0 0x0]⟩,
  -- CAN_CHc_WUFMASK
  ⟨0x134, [(0x40, 8)], [.mkAny .rwp 28 0 0x1FFFFFFF]⟩,
  -- CAN_CHc_LOAD
  ⟨0x138, [(0x40, 8)], [⟨31, 16, .rc, .any, 0x0, some (15, 0)⟩, .mkAny .ro 15 0 0x0]⟩,
  -- CAN_CHc_TXPEND
  ⟨0x13C, [(0x40, 8)], [.mkAny .ro 25 20 0x0, .mkAny .rc 15 0 0x0]⟩,
  -- CAN_PTNk
  ⟨0x400, [(0x4, 256)], [.mkAny .ro 31 29 0x0, .mkAny .ro 26 24 0x0, .mkAny .ro 23 16 0x0, .mkAny .ro 15 0 0x0]⟩]

/-- The registers of block 0x0D. -/
def regsCAN : List RegDesc := regsCAN0 ++ regsCAN1

def regsDSPS0 : List RegDesc := [
  -- DSP_SCTL
  ⟨0x0, [], [.mkAny .rwp 31 31 0x1, .mkAny .rwp 30 30 0x0, .mkAny .rwp 2 2 0x1, .mkAny .rwp 1 1 0x1, .mkAny .rwp 0 0 0x1]⟩,
  -- DSP_SSTAT
  ⟨0x4, [], [.mkAny .w1c 5 5 0x0, .mkAny .w1c 4 4 0x0, .mkAny .w1c 3 3 0x0, .mkAny .w1c 2 2 0x0, .mkAny .w1c 1 1 0x0, .mkAny .w1c 0 0 0x0]⟩,
  -- DSP_PWR
  ⟨0x8, [], [.mkAny .rwp 31 31 0x0, .mkAny .rwp 30 30 0x0]⟩,
  -- DSP_PWRSTAT
  ⟨0xC, [], [.mkAny .ro 31 28 0x0, .mkAny .ro 27 24 0x0, .mkAny .ro 21 18 0x0, .mkAny .ro 23 23 0x0, .mkAny .ro 22 22 0x0, .mkAny .ro 17 16 0x0, .mkAny .ro 15 0 0x0]⟩,
  -- DSP_BL
  ⟨0x10, [], [.mkAny .rwp 31 24 0x64, ⟨21, 11, .rwp, .rng 0 1024, 0x300, none⟩, ⟨10, 0, .rwp, .rng 0 1024, 0x80, none⟩]⟩,
  -- DSP_SBASE
  ⟨0x14, [], [.mkAny .rwp 12 0 0x0]⟩,
  -- DSP_SSEQ
  ⟨0x18, [], [.mkAny .ro 31 0 0x0]⟩,
  -- DSP_SCOUNT
  ⟨0x1C, [], [.mkAny .rc 31 16 0x0, .mkAny .ro 15 0 0x0]⟩,
  -- DSP_SPALk
  ⟨0x20, [(0x4, 8)], [.mkAny .rwp 29 0 0x0]⟩]

/-- The registers of block 0x0E. -/
def regsDSPS : List RegDesc := regsDSPS0

def regsFAB0 : List RegDesc := [
  -- FAB_CTL
  ⟨0x0, [], [.mkAny .rwp 1 1 0x0, .mkAny .rwp 0 0 0x0]⟩,
  -- FAB_STAT
  ⟨0x4, [], [.mkAny .ro 31 16 0x0, .mkAny .w1c 4 4 0x0, .mkAny .w1c 3 3 0x0, .mkAny .w1c 2 2 0x0, .mkAny .ro 1 1 0x0, .mkAny .ro 0 0 0x0]⟩,
  -- FAB_SNAP
  ⟨0x8, [], [.mkAny .wo 0 0 0x0]⟩,
  -- FAB_OCC
  ⟨0xC, [], [⟨29, 16, .rc, .any, 0x0, some (13, 0)⟩, .mkAny .ro 13 0 0x0]⟩,
  -- FAB_SHARED
  ⟨0x10, [], [.mkAny .ro 29 16 0x5, .mkAny .ro 13 0 0x3]⟩,
  -- FAB_OLDEST
  ⟨0x14, [], [.mkAny .ro 31 28 0x0, .mkAny .ro 27 24 0x0, .mkAny .ro 12 0 0x0]⟩,
  -- FAB_WAITCNT_LO
  ⟨0x18, [], [.mkAny .ro 31 0 0x0]⟩,
  -- FAB_WAITCNT_HI
  ⟨0x1C, [], [.mkAny .ro 31 0 0x0]⟩,
  -- FAB_CREDn
  ⟨0x100, [(0x4, 16)], [.mkAny .rwp 29 16 0x0, .mkAny .rwp 13 0 0x0]⟩,
  -- FAB_INUSEn
  ⟨0x200, [(0x4, 16)], [⟨29, 16, .rc, .any, 0x0, some (13, 0)⟩, .mkAny .ro 13 0 0x0]⟩,
  -- FAB_WAITn
  ⟨0x300, [(0x4, 16)], [.mkAny .rc 31 0 0x0]⟩]

/-- The registers of block 0x10. -/
def regsFAB : List RegDesc := regsFAB0

def regsMEM0 : List RegDesc := [
  -- MEM_CTL
  ⟨0x0, [], [.mkAny .rwp 31 24 0x10, .mkAny .rwp 4 4 0x1, .mkAny .rwp 3 3 0x1, .mkAny .rwp 2 2 0x1, .mkAny .rwp 1 1 0x0, .mkAny .rwp 0 0 0x1]⟩,
  -- MEM_STAT
  ⟨0x4, [], [.mkAny .ro 31 31 0x0, .mkAny .w1c 7 7 0x0, .mkAny .w1c 6 6 0x0, .mkAny .w1c 5 5 0x0, .mkAny .w1c 4 4 0x0, .mkAny .w1c 3 3 0x0, .mkAny .w1c 2 2 0x0, .mkAny .w1c 1 1 0x0, .mkAny .w1c 0 0 0x0]⟩,
  -- MEM_SNAP
  ⟨0x8, [], [.mkAny .wo 0 0 0x0]⟩,
  -- MEM_BADCFG
  ⟨0xC, [], [.mkAny .ro 11 8 0x0, .mkAny .ro 2 0 0x0]⟩,
  -- MEM_SIZE
  ⟨0x10, [], [.mkAny .ro 31 24 0x0, .mkAny .ro 15 0 0x0]⟩,
  -- MEM_SCRUB
  ⟨0x14, [], [.mkAny .rwp 31 31 0x1, ⟨7, 0, .rwp, .rng 1 255, 0x18, none⟩]⟩,
  -- MEM_SCRUBPOS
  ⟨0x18, [], [.mkAny .ro 30 0 0x0]⟩,
  -- MEM_SCRUBPASS
  ⟨0x1C, [], [.mkAny .ro 31 0 0x0]⟩,
  -- MEM_CECNT_LO
  ⟨0x20, [], [.mkAny .ro 31 0 0x0]⟩,
  -- MEM_CECNT_HI
  ⟨0x24, [], [.mkAny .ro 31 0 0x0]⟩,
  -- MEM_RMWCNT_LO
  ⟨0x28, [], [.mkAny .ro 31 0 0x0]⟩,
  -- MEM_RMWCNT_HI
  ⟨0x2C, [], [.mkAny .ro 31 0 0x0]⟩,
  -- MEM_UECNT
  ⟨0x30, [], [.mkAny .ro 31 0 0x0]⟩,
  -- MEM_POISWR
  ⟨0x34, [], [.mkAny .ro 31 0 0x0]⟩,
  -- MEM_LOGDROP
  ⟨0x38, [], [.mkAny .ro 31 0 0x0]⟩,
  -- MEM_LINECMD
  ⟨0x3C, [], [.mkAny .ro 31 31 0x0, .mkAny .wo 3 0 0x0]⟩,
  -- MEM_LINEADDR_LO
  ⟨0x40, [], [.mkAny .rw 31 6 0x0]⟩,
  -- MEM_LINEADDR_HI
  ⟨0x44, [], [.mkAny .rw 7 0 0x0]⟩,
  -- MEM_DSTADDR_LO
  ⟨0x48, [], [.mkAny .rw 31 6 0x0]⟩,
  -- MEM_DSTADDR_HI
  ⟨0x4C, [], [.mkAny .rw 7 0 0x0]⟩]

def regsMEM1 : List RegDesc := [
  -- MEM_LINESTAT
  ⟨0x50, [], [.mkAny .ro 31 28 0x0, .mkAny .ro 27 24 0x0, .mkAny .ro 6 0 0x0]⟩,
  -- MEM_LOGHEAD
  ⟨0x54, [], [.mkAny .ro 31 24 0x0, .mkAny .ro 15 8 0x0]⟩,
  -- MEM_LOGPOP
  ⟨0x58, [], [.mkAny .wo 0 0 0x0]⟩,
  -- MEM_START
  ⟨0x5C, [], [.mkAny .ro 31 30 0x0, .mkAny .ro 29 28 0x0, .mkAny .ro 26 24 0x0, .mkAny .ro 15 0 0x0]⟩,
  -- MEM_INJ
  ⟨0x60, [], [⟨31, 24, .rwp, .rng 0 79, 0x0, none⟩, ⟨15, 8, .rwp, .rng 1 15, 0x1, none⟩, ⟨7, 0, .rwp, .rng 1 255, 0x1, none⟩]⟩,
  -- MEM_BW
  ⟨0x64, [], [⟨31, 16, .rc, .any, 0x0, some (15, 0)⟩, .mkAny .ro 15 0 0x0]⟩,
  -- MEM_RDLAT
  ⟨0x68, [], [.mkAny .rc 31 16 0x0, .mkAny .ro 15 0 0x0]⟩,
  -- MEM_RMWLAT
  ⟨0x6C, [], [.mkAny .rc 31 16 0x0, .mkAny .ro 15 0 0x0]⟩,
  -- MEM_SUBn_STAT
  ⟨0x100, [(0x40, 8)], [.mkAny .ro 31 31 0x0, .mkAny .ro 30 30 0x0, .mkAny .ro 29 29 0x0, .mkAny .ro 23 20 0xF, .mkAny .ro 19 16 0xF]⟩,
  -- MEM_SUBn_MARK
  ⟨0x104, [(0x40, 8)], [.mkAny .wo 4 4 0x0, .mkAny .wo 3 0 0x0]⟩,
  -- MEM_SUBn_DEVCNT0
  ⟨0x108, [(0x40, 8)], [.mkAny .ro 31 24 0x0, .mkAny .ro 23 16 0x0, .mkAny .ro 15 8 0x0, .mkAny .ro 7 0 0x0]⟩,
  -- MEM_SUBn_DEVCNT1
  ⟨0x10C, [(0x40, 8)], [.mkAny .ro 31 24 0x0, .mkAny .ro 23 16 0x0, .mkAny .ro 15 8 0x0, .mkAny .ro 7 0 0x0]⟩,
  -- MEM_SUBn_DEVCNT2
  ⟨0x110, [(0x40, 8)], [.mkAny .ro 15 8 0x0, .mkAny .ro 7 0 0x0]⟩,
  -- MEM_SUBn_CE
  ⟨0x114, [(0x40, 8)], [.mkAny .rc 31 0 0x0]⟩,
  -- MEM_SUBn_WEAR_LO
  ⟨0x118, [(0x40, 8)], [.mkAny .ro 31 0 0x0]⟩,
  -- MEM_SUBn_WEAR_HI
  ⟨0x11C, [(0x40, 8)], [.mkAny .ro 7 0 0x0]⟩,
  -- MEM_SUBn_UE
  ⟨0x120, [(0x40, 8)], [.mkAny .ro 31 0 0x0]⟩,
  -- MEM_SUBn_LOAD
  ⟨0x124, [(0x40, 8)], [⟨31, 16, .rc, .any, 0x0, some (15, 0)⟩, .mkAny .ro 15 0 0x0]⟩,
  -- MEM_LOGk_W
  ⟨0x400, [(0x10, 48), (0x4, 4)], [.mkAny .ro 31 0 0x0]⟩]

/-- The registers of block 0x11. -/
def regsMEM : List RegDesc := regsMEM0 ++ regsMEM1

def regsNFL0 : List RegDesc := [
  -- NFL_CTL
  ⟨0x0, [], [.mkAny .rwp 31 31 0x0, .mkAny .rwp 3 3 0x1, .mkAny .rwp 2 2 0x1, .mkAny .rwp 1 1 0x1, .mkAny .rwp 0 0 0x1]⟩,
  -- NFL_STAT
  ⟨0x4, [], [.mkAny .w1c 6 6 0x0, .mkAny .w1c 5 5 0x0, .mkAny .w1c 4 4 0x0, .mkAny .w1c 3 3 0x0, .mkAny .w1c 2 2 0x0, .mkAny .w1c 1 1 0x0, .mkAny .w1c 0 0 0x0]⟩,
  -- NFL_SNAP
  ⟨0x8, [], [.mkAny .wo 0 0 0x0]⟩,
  -- NFL_BADCFG
  ⟨0xC, [], [.mkAny .ro 11 8 0x0]⟩,
  -- NFL_GEOM
  ⟨0x10, [], [.mkAny .ro 31 28 0x0, .mkAny .ro 27 24 0x8, .mkAny .ro 23 8 0x2000]⟩,
  -- NFL_STRIDX
  ⟨0x14, [], [.mkAny .rw 11 0 0x0]⟩,
  -- NFL_STRDATA
  ⟨0x18, [], [⟨4, 0, .rwp, .rng 1 20, 0x5, none⟩]⟩,
  -- NFL_RDCNT_LO
  ⟨0x1C, [], [.mkAny .ro 31 0 0x0]⟩,
  -- NFL_RDCNT_HI
  ⟨0x20, [], [.mkAny .ro 31 0 0x0]⟩,
  -- NFL_PGCNT_LO
  ⟨0x24, [], [.mkAny .ro 31 0 0x0]⟩,
  -- NFL_PGCNT_HI
  ⟨0x28, [], [.mkAny .ro 31 0 0x0]⟩,
  -- NFL_ERCNT_LO
  ⟨0x2C, [], [.mkAny .ro 31 0 0x0]⟩,
  -- NFL_ERCNT_HI
  ⟨0x30, [], [.mkAny .ro 31 0 0x0]⟩,
  -- NFL_CBITS_LO
  ⟨0x34, [], [.mkAny .ro 31 0 0x0]⟩,
  -- NFL_CBITS_HI
  ⟨0x38, [], [.mkAny .ro 31 0 0x0]⟩,
  -- NFL_UECNT
  ⟨0x3C, [], [.mkAny .ro 31 0 0x0]⟩,
  -- NFL_LOGHEAD
  ⟨0x40, [], [.mkAny .ro 31 24 0x0, .mkAny .ro 15 8 0x0]⟩,
  -- NFL_LOGPOP
  ⟨0x44, [], [.mkAny .wo 0 0 0x0]⟩,
  -- NFL_BUSY
  ⟨0x48, [], [.mkAny .ro 7 0 0x0]⟩,
  -- NFL_POISCNT
  ⟨0x4C, [], [.mkAny .ro 31 0 0x0]⟩]

def regsNFL1 : List RegDesc := [
  -- NFL_CHc_STAT
  ⟨0x100, [(0x40, 8)], [.mkAny .ro 31 31 0x0, .mkAny .ro 30 30 0x0, .mkAny .ro 7 0 0x0]⟩,
  -- NFL_CHc_RDLAT
  ⟨0x104, [(0x40, 8)], [.mkAny .rc 31 16 0x0, .mkAny .ro 15 0 0x0]⟩,
  -- NFL_CHc_PGLAT
  ⟨0x108, [(0x40, 8)], [.mkAny .rc 31 16 0x0, .mkAny .ro 15 0 0x0]⟩,
  -- NFL_CHc_ERLAT
  ⟨0x10C, [(0x40, 8)], [.mkAny .rc 31 16 0x0, .mkAny .ro 15 0 0x0]⟩,
  -- NFL_CHc_BITS
  ⟨0x110, [(0x40, 8)], [.mkAny .rc 31 16 0x0, .mkAny .ro 15 0 0x0]⟩,
  -- NFL_CHc_HISTq
  ⟨0x114, [(0x40, 8), (0x4, 4)], [.mkAny .rc 31 0 0x0]⟩,
  -- NFL_CHc_FAILS
  ⟨0x124, [(0x40, 8)], [.mkAny .ro 31 16 0x0, .mkAny .ro 15 0 0x0]⟩,
  -- NFL_CHc_WEAR_LO
  ⟨0x128, [(0x40, 8)], [.mkAny .ro 31 0 0x0]⟩,
  -- NFL_CHc_WEAR_HI
  ⟨0x12C, [(0x40, 8)], [.mkAny .ro 7 0 0x0]⟩,
  -- NFL_LOGk_W
  ⟨0x400, [(0x10, 16), (0x4, 4)], [.mkAny .ro 31 0 0x0]⟩]

/-- The registers of block 0x12. -/
def regsNFL : List RegDesc := regsNFL0 ++ regsNFL1

def regsTER0 : List RegDesc := [
  -- TER_CTL
  ⟨0x0, [], [.mkAny .rwp 31 31 0x0, .mkAny .rwp 4 4 0x1, .mkAny .rwp 3 3 0x1, .mkAny .rwp 2 2 0x1, .mkAny .rwp 1 1 0x1, .mkAny .rwp 0 0 0x1]⟩,
  -- TER_STAT
  ⟨0x4, [], [.mkAny .ro 31 31 0x0, .mkAny .ro 30 30 0x0, .mkAny .ro 29 29 0x0, .mkAny .w1c 7 7 0x0, .mkAny .w1c 6 6 0x0, .mkAny .w1c 5 5 0x0, .mkAny .w1c 4 4 0x0, .mkAny .w1c 3 3 0x0, .mkAny .w1c 2 2 0x0, .mkAny .w1c 1 1 0x0, .mkAny .w1c 0 0 0x0]⟩,
  -- TER_SNAP
  ⟨0x8, [], [.mkAny .wo 0 0 0x0]⟩,
  -- TER_BADCFG
  ⟨0xC, [], [.mkAny .ro 11 8 0x0]⟩,
  -- TER_MAPBASE
  ⟨0x10, [], [.mkAny .rwp 27 0 0x0]⟩,
  -- TER_MAPSIZE
  ⟨0x14, [], [.mkAny .rwp 15 0 0x0]⟩,
  -- TER_STAGEBASE
  ⟨0x18, [], [.mkAny .rwp 27 0 0x0]⟩,
  -- TER_STAGESIZE
  ⟨0x1C, [], [.mkAny .rwp 15 0 0x0]⟩,
  -- TER_READY
  ⟨0x20, [], [.mkAny .ro 31 30 0x0, .mkAny .ro 15 0 0x0]⟩,
  -- TER_CAPLIM
  ⟨0x24, [], [.mkAny .ro 31 0 0x0]⟩,
  -- TER_NSEXT
  ⟨0x28, [], [.mkAny .ro 31 0 0x0]⟩,
  -- TER_PHYSEXT
  ⟨0x2C, [], [.mkAny .ro 31 0 0x0]⟩,
  -- TER_PHYSFREE
  ⟨0x30, [], [.mkAny .ro 31 0 0x0]⟩,
  -- TER_NANDSTAT
  ⟨0x34, [], [.mkAny .ro 31 16 0x0, .mkAny .ro 15 0 0x0]⟩,
  -- TER_NANDERASE
  ⟨0x38, [], [.mkAny .ro 31 16 0x0, .mkAny .ro 15 0 0x0]⟩,
  -- TER_NANDWEAR
  ⟨0x3C, [], [.mkAny .ro 7 0 0x0]⟩,
  -- TER_TIERCTL
  ⟨0x40, [], [.mkAny .rwp 31 24 0x5A, .mkAny .rwp 23 16 0x46, .mkAny .rwp 15 0 0x3C]⟩,
  -- TER_REFRESH
  ⟨0x44, [], [.mkAny .rwp 31 31 0x1, ⟨7, 0, .rwp, .rng 1 255, 0x1E, none⟩]⟩,
  -- TER_CAMCTL
  ⟨0x48, [], [.mkAny .rwp 31 31 0x0, .mkAny .rwp 5 0 0x0]⟩,
  -- TER_TILECTL
  ⟨0x4C, [], [.mkAny .rwp 31 31 0x0, .mkAny .rwp 5 0 0x0]⟩]

def regsTER1 : List RegDesc := [
  -- TER_TILEIDX
  ⟨0x50, [], [.mkAny .ro 16 0 0x0]⟩,
  -- TER_RAWBLK
  ⟨0x54, [], [.mkAny .ro 4 0 0x0]⟩,
  -- TER_POISMAPS
  ⟨0x58, [], [.mkAny .ro 16 0 0x0]⟩,
  -- TER_POISCNT
  ⟨0x5C, [], [.mkAny .ro 31 0 0x0]⟩,
  -- TER_RDBYTES_LO
  ⟨0x60, [], [.mkAny .ro 31 0 0x0]⟩,
  -- TER_RDBYTES_HI
  ⟨0x64, [], [.mkAny .ro 31 0 0x0]⟩,
  -- TER_WRBYTES_LO
  ⟨0x68, [], [.mkAny .ro 31 0 0x0]⟩,
  -- TER_WRBYTES_HI
  ⟨0x6C, [], [.mkAny .ro 31 0 0x0]⟩,
  -- TER_NANDWR_LO
  ⟨0x70, [], [.mkAny .ro 31 0 0x0]⟩,
  -- TER_NANDWR_HI
  ⟨0x74, [], [.mkAny .ro 31 0 0x0]⟩,
  -- TER_CMDCNT_LO
  ⟨0x78, [], [.mkAny .ro 31 0 0x0]⟩,
  -- TER_CMDCNT_HI
  ⟨0x7C, [], [.mkAny .ro 31 0 0x0]⟩,
  -- TER_LAT
  ⟨0x80, [], [.mkAny .rc 31 16 0x0, .mkAny .ro 15 0 0x0]⟩,
  -- TER_BW
  ⟨0x84, [], [.mkAny .ro 31 16 0x0, .mkAny .ro 15 0 0x0]⟩,
  -- TER_MIGR
  ⟨0x88, [], [.mkAny .ro 31 0 0x0]⟩,
  -- TER_DEGRADED
  ⟨0x8C, [], [.mkAny .ro 31 0 0x0]⟩,
  -- TER_MISSING
  ⟨0x90, [], [.mkAny .ro 31 0 0x0]⟩,
  -- TER_CAMDROP
  ⟨0x94, [], [.mkAny .ro 31 0 0x0]⟩,
  -- TER_TILEMERGE
  ⟨0x98, [], [.mkAny .ro 31 16 0x0, .mkAny .ro 15 0 0x0]⟩,
  -- TER_FWVER
  ⟨0x9C, [], [.mkAny .ro 31 0 0x0]⟩]

def regsTER2 : List RegDesc := [
  -- TER_DRVd_STAT
  ⟨0x100, [(0x10, 32)], [.mkAny .ro 31 29 0x0, .mkAny .ro 27 24 0x0, .mkAny .ro 23 20 0x0, .mkAny .rc 15 0 0x0]⟩,
  -- TER_DRVd_CAP
  ⟨0x104, [(0x10, 32)], [.mkAny .ro 31 0 0x0]⟩,
  -- TER_DRVd_WEAR
  ⟨0x108, [(0x10, 32)], [.mkAny .ro 31 24 0x0, .mkAny .ro 23 16 0x0, .mkAny .ro 15 8 0x0, .mkAny .ro 7 0 0x0]⟩,
  -- TER_NSn_CFG
  ⟨0x300, [(0x4, 64)], [.mkAny .ro 31 30 0x0, .mkAny .ro 29 29 0x0, .mkAny .ro 28 27 0x0, .mkAny .ro 26 26 0x0, .mkAny .rwp 25 25 0x1, .mkAny .rwp 24 24 0x0, .mkAny .ro 23 23 0x0, .mkAny .ro 22 22 0x0, .mkAny .ro 21 21 0x0]⟩]

/-- The registers of block 0x13. -/
def regsTER : List RegDesc := regsTER0 ++ regsTER1 ++ regsTER2

def regsPCE0 : List RegDesc := [
  -- PCE_CTL
  ⟨0x0, [], [.mkAny .rwp 31 31 0x0, .mkAny .rwp 30 30 0x0, .mkAny .rwp 2 2 0x1, .mkAny .rwp 1 1 0x1, .mkAny .rwp 0 0 0x1]⟩,
  -- PCE_STAT
  ⟨0x4, [], [.mkAny .ro 31 31 0x0, .mkAny .ro 30 30 0x0, .mkAny .w1c 4 4 0x0, .mkAny .w1c 3 3 0x0, .mkAny .w1c 2 2 0x0, .mkAny .w1c 1 1 0x0, .mkAny .w1c 0 0 0x0]⟩,
  -- PCE_BADCFG
  ⟨0x8, [], [.mkAny .ro 11 8 0x0]⟩,
  -- PCE_RPLINK
  ⟨0xC, [], [.mkAny .ro 31 28 0x0, .mkAny .ro 27 24 0x0, .mkAny .ro 15 0 0x0]⟩,
  -- PCE_RPERR
  ⟨0x10, [], [.mkAny .rc 31 16 0x0, .mkAny .rc 15 0 0x0]⟩,
  -- PCE_EPLINK
  ⟨0x14, [], [.mkAny .ro 31 28 0x0, .mkAny .ro 27 24 0x0, .mkAny .ro 15 0 0x0]⟩,
  -- PCE_EPCTL
  ⟨0x18, [], [.mkAny .rwp 31 31 0x0, ⟨4, 0, .rwp, .rng 20 36, 0x14, none⟩]⟩,
  -- PCE_EPBASE
  ⟨0x1C, [], [.mkAny .rwp 27 0 0x0]⟩,
  -- PCE_OBCTL
  ⟨0x20, [], [.mkAny .rwp 31 31 0x0]⟩,
  -- PCE_LOGHEAD
  ⟨0x24, [], [.mkAny .ro 31 24 0x0, .mkAny .ro 15 8 0x0]⟩,
  -- PCE_LOGPOP
  ⟨0x28, [], [.mkAny .wo 0 0 0x0]⟩,
  -- PCE_POISCNT
  ⟨0x2C, [], [.mkAny .ro 31 0 0x0]⟩,
  -- PCE_SLOTs_CTL
  ⟨0x100, [(0x8, 32)], [.mkAny .ro 31 31 0x1, .mkAny .rwp 30 30 0x0]⟩,
  -- PCE_SLOTs_STAT
  ⟨0x104, [(0x8, 32)], [.mkAny .ro 31 31 0x0, .mkAny .ro 30 30 0x0, .mkAny .ro 29 26 0x0, .mkAny .ro 25 22 0x0, .mkAny .ro 21 21 0x0, .mkAny .ro 15 0 0x0]⟩,
  -- PCE_LOGk_W
  ⟨0x200, [(0x10, 16), (0x4, 4)], [.mkAny .ro 31 0 0x0]⟩]

/-- The registers of block 0x14. -/
def regsPCE : List RegDesc := regsPCE0

def regsETH0 : List RegDesc := [
  -- ETH_CTL
  ⟨0x0, [], [.mkAny .rwp 4 4 0x1, .mkAny .rwp 3 3 0x1, .mkAny .rwp 2 2 0x1, .mkAny .rwp 1 1 0x1, .mkAny .rwp 0 0 0x1]⟩,
  -- ETH_STAT
  ⟨0x4, [], [.mkAny .w1c 5 5 0x0, .mkAny .w1c 4 4 0x0, .mkAny .w1c 3 3 0x0, .mkAny .w1c 2 2 0x0, .mkAny .w1c 1 1 0x0, .mkAny .w1c 0 0 0x0]⟩,
  -- ETH_SNAP
  ⟨0x8, [], [.mkAny .wo 0 0 0x0]⟩,
  -- ETH_BADCFG
  ⟨0xC, [], [.mkAny .ro 11 8 0x0, .mkAny .ro 5 0 0x0]⟩,
  -- ETH_MAC_LO
  ⟨0x10, [], [.mkAny .ro 31 0 0x0]⟩,
  -- ETH_MAC_HI
  ⟨0x14, [], [.mkAny .ro 15 0 0x0]⟩,
  -- ETH_ENGIP
  ⟨0x18, [], [.mkAny .rwp 31 0 0x0]⟩,
  -- ETH_ENGMASK
  ⟨0x1C, [], [.mkAny .rwp 31 0 0x0]⟩,
  -- ETH_ENGGW
  ⟨0x20, [], [.mkAny .rwp 31 0 0x0]⟩,
  -- ETH_FDBAGE
  ⟨0x24, [], [⟨15, 0, .rwp, .rng 10 65535, 0x12C, none⟩]⟩,
  -- ETH_PTPCTL
  ⟨0x28, [], [.mkAny .rwp 31 31 0x1, .mkAny .rwp 15 8 0xF6, .mkAny .rwp 7 0 0xF8]⟩,
  -- ETH_PTPSTAT
  ⟨0x2C, [], [.mkAny .ro 31 31 0x0, .mkAny .ro 30 27 0xF, .mkAny .ro 15 8 0x0, .mkAny .ro 7 0 0xF8]⟩,
  -- ETH_RIOCTL
  ⟨0x30, [], [.mkAny .rwp 31 31 0x0]⟩,
  -- ETH_NVMECTL
  ⟨0x34, [], [.mkAny .rwp 31 31 0x0, .mkAny .rwp 30 30 0x1, ⟨22, 16, .rwp, .rng 1 64, 0x40, none⟩, .mkAny .rwp 15 0 0x1144]⟩,
  -- ETH_NVMESTAT
  ⟨0x38, [], [.mkAny .rc 31 16 0x0, .mkAny .ro 6 0 0x0]⟩,
  -- ETH_SVC
  ⟨0x3C, [], [.mkAny .rwp 31 31 0x0]⟩,
  -- ETH_DSCBASE
  ⟨0x40, [], [.mkAny .rwp 31 31 0x0, .mkAny .rwp 27 0 0x0]⟩,
  -- ETH_RXCNT_LO
  ⟨0x44, [], [.mkAny .ro 31 0 0x0]⟩,
  -- ETH_RXCNT_HI
  ⟨0x48, [], [.mkAny .ro 31 0 0x0]⟩,
  -- ETH_BUFUSE
  ⟨0x4C, [], [⟨31, 16, .rc, .any, 0x0, some (15, 0)⟩, .mkAny .ro 15 0 0x0]⟩]

def regsETH1 : List RegDesc := [
  -- ETH_NVMEBW
  ⟨0x50, [], [.mkAny .ro 31 16 0x0, .mkAny .ro 15 0 0x0]⟩,
  -- ETH_POISCNT
  ⟨0x54, [], [.mkAny .ro 31 0 0x0]⟩,
  -- ETH_Pp_CTL
  ⟨0x100, [(0x40, 7)], [.mkAny .rwp 31 31 0x0, .mkAny .rwp 30 30 0x1, .mkAny .rwp 29 29 0x1, .mkAny .rwp 28 28 0x1, .mkAny .rwp 27 27 0x0, .mkAny .rwp 11 0 0x1]⟩,
  -- ETH_Pp_STAT
  ⟨0x104, [(0x40, 7)], [.mkAny .ro 31 31 0x0, .mkAny .ro 30 30 0x0, .mkAny .ro 29 28 0x0, .mkAny .ro 15 0 0x0]⟩,
  -- ETH_Pp_RXFR
  ⟨0x108, [(0x40, 7)], [.mkAny .rc 31 0 0x0]⟩,
  -- ETH_Pp_TXFR
  ⟨0x10C, [(0x40, 7)], [.mkAny .rc 31 0 0x0]⟩,
  -- ETH_Pp_DROP
  ⟨0x110, [(0x40, 7)], [.mkAny .rc 31 0 0x0]⟩,
  -- ETH_Pp_PDELAY
  ⟨0x114, [(0x40, 7)], [.mkAny .ro 31 0 0x0]⟩,
  -- ETH_Pp_GCL
  ⟨0x118, [(0x40, 7)], [.mkAny .ro 31 31 0x0, .mkAny .ro 5 0 0x0]⟩,
  -- ETH_Pp_GCYCLE
  ⟨0x11C, [(0x40, 7)], [.mkAny .ro 29 0 0x0]⟩,
  -- ETH_Pp_GOFF
  ⟨0x120, [(0x40, 7)], [.mkAny .ro 29 0 0x0]⟩,
  -- ETH_Pp_HOLD
  ⟨0x124, [(0x40, 7)], [.mkAny .rc 31 0 0x0]⟩,
  -- ETH_RIOs_CFG
  ⟨0x400, [(0x20, 32)], [.mkAny .rwp 31 31 0x0, .mkAny .rwp 30 30 0x0, ⟨29, 26, .rwp, .rng 0 6, 0x0, none⟩, .mkAny .rwp 25 23 0x6, .mkAny .rwp 22 11 0x0, ⟨10, 0, .rwp, .rng 1 1500, 0x2E, none⟩]⟩,
  -- ETH_RIOs_MACLO
  ⟨0x404, [(0x20, 32)], [.mkAny .rwp 31 0 0x0]⟩,
  -- ETH_RIOs_MACHI
  ⟨0x408, [(0x20, 32)], [.mkAny .rwp 31 16 0x88B5, .mkAny .rwp 15 0 0x0]⟩,
  -- ETH_RIOs_STAT
  ⟨0x40C, [(0x20, 32)], [.mkAny .rc 31 16 0x0, .mkAny .rc 15 8 0x0, .mkAny .rc 7 0 0x0]⟩,
  -- ETH_UDPm_CTL
  ⟨0x800, [(0x10, 8)], [.mkAny .rwp 31 31 0x0, .mkAny .rwp 30 30 0x0, .mkAny .rwp 15 0 0x0]⟩,
  -- ETH_UDPm_SRC
  ⟨0x804, [(0x10, 8)], [.mkAny .rwp 31 0 0x0]⟩,
  -- ETH_UDPm_LAYOUT
  ⟨0x808, [(0x10, 8)], [.mkAny .rwp 31 0 0x0]⟩,
  -- ETH_UDPm_DROP
  ⟨0x80C, [(0x10, 8)], [.mkAny .rc 31 0 0x0]⟩]

def regsETH2 : List RegDesc := [
  -- ETH_LIDu_BASE
  ⟨0x900, [(0x10, 4)], [.mkAny .rwp 27 0 0x0]⟩,
  -- ETH_LIDu_CFG
  ⟨0x904, [(0x10, 4)], [.mkAny .rwp 31 31 0x0, .mkAny .rwp 30 30 0x0, ⟨4, 0, .rwp, .rng 16 26, 0x10, none⟩]⟩,
  -- ETH_LIDu_WPOS
  ⟨0x908, [(0x10, 4)], [.mkAny .ro 31 0 0x0]⟩,
  -- ETH_ALLOWk
  ⟨0xA00, [(0x4, 16)], [.mkAny .rwp 31 0 0x0]⟩]

/-- The registers of block 0x15. -/
def regsETH : List RegDesc := regsETH0 ++ regsETH1 ++ regsETH2

def regsGNS0 : List RegDesc := [
  -- GNS_CTL
  ⟨0x0, [], [.mkAny .rwp 4 4 0x1, .mkAny .rwp 3 3 0x1, .mkAny .rwp 2 2 0x1, .mkAny .rwp 1 1 0x1, .mkAny .rwp 0 0 0x1]⟩,
  -- GNS_STAT
  ⟨0x4, [], [.mkAny .w1c 7 7 0x0, .mkAny .w1c 6 6 0x0, .mkAny .w1c 5 5 0x0, .mkAny .w1c 4 4 0x0, .mkAny .w1c 3 3 0x0, .mkAny .w1c 2 2 0x0, .mkAny .ro 1 1 0x0, .mkAny .ro 0 0 0x0]⟩,
  -- GNS_SNAP
  ⟨0x8, [], [.mkAny .wo 0 0 0x0]⟩,
  -- GNS_RUN
  ⟨0xC, [], [.mkAny .rwp 31 31 0x0, .mkAny .rwp 30 30 0x0, .mkAny .rwp 29 29 0x1, ⟨28, 26, .rwp, .rng 0 4, 0x4, none⟩, ⟨7, 0, .rwp, .rng 0 30, 0x5, none⟩]⟩,
  -- GNS_SIG
  ⟨0x10, [], [.mkAny .rwp 8 0 0x1FF]⟩,
  -- GNS_TRK
  ⟨0x14, [], [⟨31, 24, .rwp, .rng 5 30, 0xF, none⟩, ⟨23, 16, .rwp, .rng 10 200, 0x32, none⟩]⟩,
  -- GNS_OBSBASE
  ⟨0x18, [], [.mkAny .rwp 27 0 0x0]⟩,
  -- GNS_OBSCFG
  ⟨0x1C, [], [⟨31, 28, .rwp, .rng 2 6, 0x3, none⟩]⟩,
  -- GNS_ESEQ
  ⟨0x20, [], [.mkAny .ro 31 0 0x0]⟩,
  -- GNS_FIX
  ⟨0x24, [], [.mkAny .ro 31 24 0x0, .mkAny .ro 23 16 0x0, .mkAny .ro 15 0 0x0]⟩,
  -- GNS_CHUSE
  ⟨0x28, [], [.mkAny .ro 31 16 0x0, .mkAny .ro 15 0 0x0]⟩,
  -- GNS_CHSHORT
  ⟨0x2C, [], [.mkAny .ro 31 0 0x0]⟩,
  -- GNS_GFBASE
  ⟨0x30, [], [.mkAny .rwp 27 0 0x0]⟩,
  -- GNS_BADCFG
  ⟨0x34, [], [.mkAny .ro 11 8 0x0]⟩,
  -- GNS_MARK
  ⟨0x38, [], [.mkAny .ro 31 31 0x0, .mkAny .ro 15 0 0x0]⟩,
  -- GNS_RESID
  ⟨0x3C, [], [.mkAny .ro 31 16 0x0, .mkAny .ro 15 0 0x0]⟩,
  -- GNS_EPOCHCNT_LO
  ⟨0x40, [], [.mkAny .ro 31 0 0x0]⟩,
  -- GNS_EPOCHCNT_HI
  ⟨0x44, [], [.mkAny .ro 31 0 0x0]⟩,
  -- GNS_SLIPCNT_LO
  ⟨0x48, [], [.mkAny .ro 31 0 0x0]⟩,
  -- GNS_SLIPCNT_HI
  ⟨0x4C, [], [.mkAny .ro 31 0 0x0]⟩]

def regsGNS1 : List RegDesc := [
  -- GNS_ACQ
  ⟨0x50, [], [.mkAny .rc 31 16 0x0, .mkAny .ro 15 0 0x0]⟩,
  -- GNS_TTFF
  ⟨0x54, [], [.mkAny .ro 31 0 0xFFFFFFFF]⟩,
  -- GNS_POISCNT
  ⟨0x58, [], [.mkAny .ro 31 0 0x0]⟩,
  -- GNS_OBSTIME
  ⟨0x5C, [], [.mkAny .rc 31 16 0x0, .mkAny .ro 15 0 0x0]⟩,
  -- GNS_ISBp
  ⟨0x60, [(0x4, 6)], [.mkAny .ro 31 0 0x80000000]⟩,
  -- GNS_AIDSTAT
  ⟨0x78, [], [.mkAny .ro 31 28 0x0, .mkAny .ro 23 23 0x0, .mkAny .ro 22 0 0x7FFFFF]⟩,
  -- GNS_EPHCNT
  ⟨0x7C, [], [.mkAny .ro 31 24 0x0, .mkAny .ro 23 16 0x0, .mkAny .ro 15 8 0x0, .mkAny .ro 7 0 0x0]⟩,
  -- GNS_ANTa_CTL
  ⟨0x80, [(0x40, 2)], [.mkAny .rwp 31 31 0x1, .mkAny .rwp 30 30 0x1]⟩,
  -- GNS_ANTa_STAT
  ⟨0x84, [(0x40, 2)], [.mkAny .ro 31 30 0x0, .mkAny .ro 15 0 0x0]⟩,
  -- GNS_ANTa_POSX
  ⟨0x88, [(0x40, 2)], [.mkAny .rwp 31 0 0x0]⟩,
  -- GNS_ANTa_POSY
  ⟨0x8C, [(0x40, 2)], [.mkAny .rwp 31 0 0x0]⟩,
  -- GNS_ANTa_POSZ
  ⟨0x90, [(0x40, 2)], [.mkAny .rwp 31 0 0x0]⟩,
  -- GNS_ANTa_CABLE
  ⟨0x94, [(0x40, 2)], [.mkAny .rwp 15 0 0x0]⟩,
  -- GNS_ANTa_CN0
  ⟨0x98, [(0x40, 2)], [.mkAny .ro 23 16 0x0, .mkAny .ro 15 8 0x0, .mkAny .ro 7 0 0x0]⟩,
  -- GNS_ANTa_SIGCNT
  ⟨0x9C, [(0x40, 2)], [.mkAny .ro 29 20 0x0, .mkAny .ro 19 10 0x0, .mkAny .ro 9 0 0x0]⟩,
  -- GNS_ANTa_SLIPS
  ⟨0xA0, [(0x40, 2)], [.mkAny .rc 31 0 0x0]⟩,
  -- GNS_ANTa_LOSTS
  ⟨0xA4, [(0x40, 2)], [.mkAny .rc 31 0 0x0]⟩,
  -- GNS_SVTRKs_LO
  ⟨0x100, [(0x10, 4)], [.mkAny .ro 31 0 0x0]⟩,
  -- GNS_SVTRKs_HI
  ⟨0x104, [(0x10, 4)], [.mkAny .ro 31 0 0x0]⟩,
  -- GNS_SVUSEs_LO
  ⟨0x108, [(0x10, 4)], [.mkAny .ro 31 0 0x0]⟩]

def regsGNS2 : List RegDesc := [
  -- GNS_SVUSEs_HI
  ⟨0x10C, [(0x10, 4)], [.mkAny .ro 31 0 0x0]⟩,
  -- GNS_ACQu_SIG
  ⟨0x200, [(0x20, 16)], [.mkAny .ro 31 30 0x0, .mkAny .ro 29 29 0x0, .mkAny .ro 28 27 0x0, .mkAny .ro 26 21 0x0, .mkAny .ro 20 17 0x0]⟩,
  -- GNS_ACQu_WCODE
  ⟨0x204, [(0x20, 16)], [.mkAny .ro 15 0 0x0]⟩,
  -- GNS_ACQu_WDOP
  ⟨0x208, [(0x20, 16)], [.mkAny .ro 15 0 0x0]⟩,
  -- GNS_ACQu_CELLS
  ⟨0x20C, [(0x20, 16)], [.mkAny .ro 31 0 0x0]⟩,
  -- GNS_ACQu_TIME
  ⟨0x210, [(0x20, 16)], [.mkAny .rc 31 16 0x0, .mkAny .ro 15 0 0x0]⟩,
  -- GNS_CHPk
  ⟨0x400, [(0x4, 192)], [.mkAny .ro 31 29 0x0, .mkAny .ro 28 28 0x0, .mkAny .ro 27 24 0x0, .mkAny .ro 23 16 0x0, .mkAny .ro 15 13 0x0, .mkAny .ro 12 12 0x0, .mkAny .ro 11 8 0x0, .mkAny .ro 7 0 0x0]⟩]

/-- The registers of block 0x16. -/
def regsGNS : List RegDesc := regsGNS0 ++ regsGNS1 ++ regsGNS2

def regsCAM0 : List RegDesc := [
  -- CAM_CTL
  ⟨0x0, [], [.mkAny .rwp 2 2 0x1, .mkAny .rwp 1 1 0x0, .mkAny .rwp 0 0 0x1]⟩,
  -- CAM_STAT
  ⟨0x4, [], [.mkAny .w1c 6 6 0x0, .mkAny .w1c 5 5 0x0, .mkAny .w1c 4 4 0x0, .mkAny .w1c 3 3 0x0, .mkAny .ro 2 2 0x0, .mkAny .ro 1 1 0x0]⟩,
  -- CAM_SNAP
  ⟨0x8, [], [.mkAny .wo 0 0 0x0]⟩,
  -- CAM_BUDGET
  ⟨0xC, [], [.mkAny .ro 31 16 0x0, .mkAny .ro 15 0 0x0]⟩,
  -- CAM_ENCBUDGET
  ⟨0x10, [], [.mkAny .ro 31 16 0x0, .mkAny .ro 15 0 0x0]⟩,
  -- CAM_LINKUP
  ⟨0x14, [], [.mkAny .ro 11 0 0x0]⟩,
  -- CAM_PAD
  ⟨0x18, [], [.mkAny .rwp 13 0 0x400]⟩,
  -- CAM_BADCFG
  ⟨0x1C, [], [.mkAny .ro 11 8 0x0, .mkAny .ro 5 0 0x0]⟩,
  -- CAM_FRAMECNT_LO
  ⟨0x20, [], [.mkAny .ro 31 0 0x0]⟩,
  -- CAM_FRAMECNT_HI
  ⟨0x24, [], [.mkAny .ro 31 0 0x0]⟩,
  -- CAM_SKIPCNT_LO
  ⟨0x28, [], [.mkAny .ro 31 0 0x0]⟩,
  -- CAM_SKIPCNT_HI
  ⟨0x2C, [], [.mkAny .ro 31 0 0x0]⟩,
  -- CAM_ORPHCNT_LO
  ⟨0x30, [], [.mkAny .ro 31 0 0x0]⟩,
  -- CAM_ORPHCNT_HI
  ⟨0x34, [], [.mkAny .ro 31 0 0x0]⟩,
  -- CAM_POISCNT
  ⟨0x38, [], [.mkAny .ro 31 0 0x0]⟩,
  -- CAM_BACKLOG
  ⟨0x3C, [], [⟨31, 16, .rc, .any, 0x0, some (15, 0)⟩, .mkAny .ro 15 0 0x0]⟩,
  -- CAM_PIXRATE
  ⟨0x40, [], [.mkAny .ro 31 16 0x0, .mkAny .ro 15 0 0x0]⟩,
  -- CAM_PACEREQ
  ⟨0x44, [], [.mkAny .ro 15 0 0x0]⟩,
  -- CAM_ENCPACEREQ
  ⟨0x48, [], [.mkAny .ro 15 0 0x0]⟩,
  -- CAM_TABCNT
  ⟨0x4C, [], [.mkAny .ro 31 0 0x0]⟩]

def regsCAM1 : List RegDesc := [
  -- CAM_LNKn_CTL
  ⟨0x100, [(0x40, 12)], [.mkAny .rwp 31 31 0x0, .mkAny .rwp 30 30 0x0, ⟨29, 28, .rwp, .rng 0 2, 0x1, none⟩, .mkAny .rwp 27 26 0x0, ⟨25, 24, .rwp, .rng 0 2, 0x1, none⟩, ⟨23, 21, .rwp, .rng 0 4, 0x0, none⟩, .mkAny .rwp 20 19 0x0, .mkAny .rwp 18 16 0x0, .mkAny .rwp 15 15 0x0, .mkAny .rwp 14 12 0x2, .mkAny .rwp 11 9 0x2, .mkAny .rwp 8 6 0x2]⟩,
  -- CAM_LNKn_GEOM
  ⟨0x104, [(0x40, 12)], [.mkAny .rwp 31 16 0x0, .mkAny .rwp 15 0 0x0]⟩,
  -- CAM_LNKn_TIME
  ⟨0x108, [(0x40, 12)], [.mkAny .rwp 31 31 0x0, ⟨30, 24, .rwp, .rng 1 120, 0x1E, none⟩, ⟨23, 12, .rwp, .rng 10 4095, 0x64, none⟩, ⟨11, 0, .rwp, .rng 1 4095, 0xC8, none⟩]⟩,
  -- CAM_LNKn_STAT
  ⟨0x10C, [(0x40, 12)], [.mkAny .ro 31 29 0x0, .mkAny .ro 28 28 0x0, .mkAny .ro 23 16 0x0, .mkAny .ro 15 0 0x0]⟩,
  -- CAM_LNKn_NR
  ⟨0x110, [(0x40, 12)], [.mkAny .rwp 31 24 0x40, .mkAny .rwp 23 16 0x40, .mkAny .rwp 15 0 0x100]⟩,
  -- CAM_LNKn_BLACK
  ⟨0x114, [(0x40, 12)], [.mkAny .rwp 13 0 0x400]⟩,
  -- CAM_LNKn_WB
  ⟨0x118, [(0x40, 12)], [.mkAny .rwp 31 16 0x1000, .mkAny .rwp 15 0 0x1000]⟩,
  -- CAM_LNKn_DSIZE
  ⟨0x11C, [(0x40, 12)], [.mkAny .rwp 31 16 0x0, .mkAny .rwp 15 0 0x0]⟩,
  -- CAM_LNKn_CSIZE
  ⟨0x120, [(0x40, 12)], [.mkAny .rwp 31 16 0x0, .mkAny .rwp 15 0 0x0]⟩,
  -- CAM_LNKn_MSIZE
  ⟨0x124, [(0x40, 12)], [.mkAny .rwp 31 16 0x0, .mkAny .rwp 15 0 0x0]⟩,
  -- CAM_LNKn_SYNC
  ⟨0x128, [(0x40, 12)], [.mkAny .rwp 31 16 0x0, .mkAny .rwp 15 0 0x0]⟩,
  -- CAM_LNKn_FSEQ
  ⟨0x12C, [(0x40, 12)], [.mkAny .ro 31 0 0x0]⟩,
  -- CAM_LNKn_ERRCNT
  ⟨0x130, [(0x40, 12)], [.mkAny .rc 31 16 0x0, .mkAny .rc 15 0 0x0]⟩,
  -- CAM_LNKn_ORPHAN
  ⟨0x134, [(0x40, 12)], [.mkAny .ro 31 0 0x0]⟩,
  -- CAM_LNKn_DROPL
  ⟨0x138, [(0x40, 12)], [.mkAny .ro 31 0 0x0]⟩,
  -- CAM_LNKn_INFO
  ⟨0x13C, [(0x40, 12)], [.mkAny .ro 31 0 0x0]⟩,
  -- CAM_BUFn_HBASE
  ⟨0x400, [(0x10, 12)], [.mkAny .rwp 27 0 0x0]⟩,
  -- CAM_BUFn_DBASE
  ⟨0x404, [(0x10, 12)], [.mkAny .rwp 27 0 0x0]⟩,
  -- CAM_BUFn_CBASE
  ⟨0x408, [(0x10, 12)], [.mkAny .rwp 27 0 0x0]⟩,
  -- CAM_BUFn_MBASE
  ⟨0x40C, [(0x10, 12)], [.mkAny .rwp 27 0 0x0]⟩]

def regsCAM2 : List RegDesc := [
  -- CAM_ENCCTL
  ⟨0x7E0, [], [.mkAny .rwp 0 0 0x0]⟩,
  -- CAM_ENCSTAT
  ⟨0x7E4, [], [.mkAny .ro 23 0 0x0]⟩,
  -- CAM_BSBASE
  ⟨0x7E8, [], [.mkAny .rwp 27 0 0x0]⟩,
  -- CAM_BSCFG
  ⟨0x7EC, [], [⟨4, 0, .rwp, .rng 20 30, 0x18, none⟩]⟩,
  -- CAM_BSWPOS
  ⟨0x7F0, [], [.mkAny .ro 31 0 0x0]⟩,
  -- CAM_BSRPOS
  ⟨0x7F4, [], [.mkAny .rw 31 0 0x0]⟩,
  -- CAM_AUDROP
  ⟨0x7F8, [], [.mkAny .ro 31 0 0x0]⟩,
  -- CAM_ENCLOAD
  ⟨0x7FC, [], [.mkAny .ro 15 0 0x0]⟩,
  -- CAM_ENCs_CFG
  ⟨0x800, [(0x20, 24)], [.mkAny .rwp 31 31 0x0, .mkAny .rwp 30 30 0x1, ⟨29, 28, .rwp, .rng 0 2, 0x1, none⟩, .mkAny .rwp 27 24 0x0, ⟨23, 16, .rwp, .rng 1 255, 0x1, none⟩, .mkAny .rwp 15 0 0x3C]⟩,
  -- CAM_ENCs_RATE
  ⟨0x804, [(0x20, 24)], [.mkAny .rwp 31 0 0x4E20]⟩,
  -- CAM_ENCs_QP
  ⟨0x808, [(0x20, 24)], [.mkAny .rwp 23 16 0xA, .mkAny .rwp 15 8 0x33, .mkAny .rwp 7 0 0x1C]⟩,
  -- CAM_ENCs_VBV
  ⟨0x80C, [(0x20, 24)], [.mkAny .rwp 31 0 0x9C40]⟩,
  -- CAM_ENCs_STAT
  ⟨0x810, [(0x20, 24)], [.mkAny .ro 29 24 0x0, .mkAny .ro 15 0 0x0]⟩,
  -- CAM_ENCs_AUSEQ
  ⟨0x814, [(0x20, 24)], [.mkAny .ro 31 0 0x0]⟩,
  -- CAM_ENCs_SKIP
  ⟨0x818, [(0x20, 24)], [.mkAny .ro 31 0 0x0]⟩,
  -- CAM_ENCs_CMD
  ⟨0x81C, [(0x20, 24)], [.mkAny .wo 1 1 0x0, .mkAny .wo 0 0 0x0]⟩]

/-- The registers of block 0x17. -/
def regsCAM : List RegDesc := regsCAM0 ++ regsCAM1 ++ regsCAM2

def regsPRA0 : List RegDesc := [
  -- PRA_CTL
  ⟨0x0, [], [.mkAny .rwp 3 3 0x1, .mkAny .rwp 2 2 0x1, .mkAny .rwp 1 1 0x1, .mkAny .rwp 0 0 0x1]⟩,
  -- PRA_STAT
  ⟨0x4, [], [.mkAny .w1c 7 7 0x0, .mkAny .w1c 6 6 0x0, .mkAny .w1c 5 5 0x0, .mkAny .w1c 4 4 0x0, .mkAny .w1c 3 3 0x0, .mkAny .w1c 2 2 0x0, .mkAny .ro 1 1 0x0]⟩,
  -- PRA_SNAP
  ⟨0x8, [], [.mkAny .wo 0 0 0x0]⟩,
  -- PRA_GCTL
  ⟨0xC, [], [.mkAny .rwp 31 31 0x0, .mkAny .rwp 30 30 0x0, ⟨23, 16, .rwp, .rng 1 255, 0x2, none⟩, ⟨15, 0, .rwp, .rng 1 1000, 0x14, none⟩]⟩,
  -- PRA_GPERIOD
  ⟨0x10, [], [⟨15, 0, .rwp, .rng 0 1000, 0x0, none⟩]⟩,
  -- PRA_GOFF
  ⟨0x14, [], [.mkAny .rwp 19 0 0x0]⟩,
  -- PRA_GBASE
  ⟨0x18, [], [.mkAny .rwp 27 0 0x0]⟩,
  -- PRA_GCFG
  ⟨0x1C, [], [⟨31, 28, .rwp, .rng 2 6, 0x2, none⟩, .mkAny .rwp 15 0 0x64]⟩,
  -- PRA_POSEBASE
  ⟨0x20, [], [.mkAny .rwp 29 0 0x0]⟩,
  -- PRA_POSECFG
  ⟨0x24, [], [.mkAny .rwp 31 31 0x0, ⟨28, 24, .rwp, .rng 4 12, 0x4, none⟩]⟩,
  -- PRA_POSEWPOS
  ⟨0x28, [], [.mkAny .rw 31 0 0x0]⟩,
  -- PRA_GSEQ
  ⟨0x2C, [], [.mkAny .ro 31 0 0x0]⟩,
  -- PRA_AGE
  ⟨0x30, [], [.mkAny .rc 31 16 0x0, .mkAny .ro 15 0 0x0]⟩,
  -- PRA_AGEBOUND
  ⟨0x34, [], [.mkAny .rwp 15 0 0x0]⟩,
  -- PRA_NETID
  ⟨0x38, [], []⟩,
  -- PRA_NETVER
  ⟨0x3C, [], []⟩,
  -- PRA_NETSTAT
  ⟨0x40, [], [.mkAny .ro 31 30 0x0, .mkAny .ro 29 29 0x0, .mkAny .ro 28 28 0x0]⟩,
  -- PRA_GRIDCNT_LO
  ⟨0x44, [], [.mkAny .ro 31 0 0x0]⟩,
  -- PRA_GRIDCNT_HI
  ⟨0x48, [], [.mkAny .ro 31 0 0x0]⟩,
  -- PRA_SKIPCNT_LO
  ⟨0x4C, [], [.mkAny .ro 31 0 0x0]⟩]

def regsPRA1 : List RegDesc := [
  -- PRA_SKIPCNT_HI
  ⟨0x50, [], [.mkAny .ro 31 0 0x0]⟩,
  -- PRA_POISCNT
  ⟨0x54, [], [.mkAny .ro 31 0 0x0]⟩,
  -- PRA_BADCFG
  ⟨0x58, [], [.mkAny .ro 11 8 0x0, .mkAny .ro 4 0 0x0]⟩,
  -- PRA_LIDPTS
  ⟨0x5C, [], [.mkAny .ro 31 0 0x0]⟩,
  -- PRA_LIDDROP
  ⟨0x60, [], [.mkAny .ro 31 0 0x0]⟩,
  -- PRA_CYCTIME
  ⟨0x64, [], [.mkAny .rc 31 16 0x0, .mkAny .ro 15 0 0x0]⟩,
  -- PRA_SENSn_CTL
  ⟨0x100, [(0x40, 16)], [.mkAny .rwp 31 31 0x0, .mkAny .rwp 30 30 0x0, .mkAny .rwp 29 29 0x0]⟩,
  -- PRA_SENSn_STAT
  ⟨0x104, [(0x40, 16)], [.mkAny .ro 31 29 0x0, .mkAny .ro 28 28 0x0, .mkAny .ro 27 27 0x0, .mkAny .ro 26 26 0x0, .mkAny .ro 7 0 0x0]⟩,
  -- PRA_SENSn_RES
  ⟨0x108, [(0x40, 16)], [.mkAny .rc 31 16 0x0, .mkAny .ro 15 0 0x0]⟩,
  -- PRA_SENSn_DROPF
  ⟨0x10C, [(0x40, 16)], [.mkAny .ro 31 0 0x0]⟩,
  -- PRA_SENSn_DTX
  ⟨0x110, [(0x40, 16)], [.mkAny .ro 31 0 0x0]⟩,
  -- PRA_SENSn_DTY
  ⟨0x114, [(0x40, 16)], [.mkAny .ro 31 0 0x0]⟩,
  -- PRA_SENSn_DTZ
  ⟨0x118, [(0x40, 16)], [.mkAny .ro 31 0 0x0]⟩,
  -- PRA_SENSn_DRX
  ⟨0x11C, [(0x40, 16)], [.mkAny .ro 31 0 0x0]⟩,
  -- PRA_SENSn_DRY
  ⟨0x120, [(0x40, 16)], [.mkAny .ro 31 0 0x0]⟩,
  -- PRA_SENSn_DRZ
  ⟨0x124, [(0x40, 16)], [.mkAny .ro 31 0 0x0]⟩,
  -- PRA_SENSn_LASTSEQ
  ⟨0x128, [(0x40, 16)], [.mkAny .ro 31 0 0x0]⟩,
  -- PRA_SENSn_EXTIME
  ⟨0x12C, [(0x40, 16)], [.mkAny .rc 31 16 0x0, .mkAny .ro 15 0 0x0]⟩,
  -- PRA_SENSn_EXCLCNT
  ⟨0x130, [(0x40, 16)], [.mkAny .ro 31 0 0x0]⟩,
  -- PRA_TRKCTL
  ⟨0xA00, [], [.mkAny .rwp 31 31 0x0, ⟨30, 28, .rwp, .rng 2 6, 0x2, none⟩, ⟨15, 8, .rwp, .rng 1 255, 0x80, none⟩, .mkAny .rwp 7 0 0xA]⟩]

def regsPRA2 : List RegDesc := [
  -- PRA_TRKBASE
  ⟨0xA04, [], [.mkAny .rwp 27 0 0x0]⟩,
  -- PRA_TRKSEQ
  ⟨0xA08, [], [.mkAny .ro 31 0 0x0]⟩,
  -- PRA_TRKLIVE
  ⟨0xA0C, [], [.mkAny .ro 26 16 0x0, .mkAny .ro 10 0 0x0]⟩,
  -- PRA_TRKBIRTH_LO
  ⟨0xA10, [], [.mkAny .ro 31 0 0x0]⟩,
  -- PRA_TRKBIRTH_HI
  ⟨0xA14, [], [.mkAny .ro 31 0 0x0]⟩,
  -- PRA_TRKOVF_LO
  ⟨0xA18, [], [.mkAny .ro 31 0 0x0]⟩,
  -- PRA_TRKOVF_HI
  ⟨0xA1C, [], [.mkAny .ro 31 0 0x0]⟩,
  -- PRA_TRKDISP
  ⟨0xA20, [], [.mkAny .ro 31 0 0x0]⟩,
  -- PRA_TRKCLR
  ⟨0xA24, [], [.mkAny .wo 0 0 0x0]⟩,
  -- PRA_TRKTIME
  ⟨0xA28, [], [.mkAny .rc 31 16 0x0, .mkAny .ro 15 0 0x0]⟩,
  -- PRA_ZONEBASE
  ⟨0xA2C, [], [.mkAny .rwp 31 31 0x0, .mkAny .rwp 18 0 0x0]⟩,
  -- PRA_ZONEm_X
  ⟨0xA30, [(0x8, 4)], [.mkAny .rwp 31 16 0x0, .mkAny .rwp 15 0 0x0]⟩,
  -- PRA_ZONEm_Y
  ⟨0xA34, [(0x8, 4)], [.mkAny .rwp 31 16 0x0, .mkAny .rwp 15 0 0x0]⟩,
  -- PRA_FCCTL
  ⟨0xB00, [], [.mkAny .rwp 31 31 0x0, ⟨30, 28, .rwp, .rng 2 6, 0x2, none⟩, .mkAny .rwp 27 20 0xF, .mkAny .rwp 14 0 0x0]⟩,
  -- PRA_FCBASE
  ⟨0xB04, [], [.mkAny .rwp 12 0 0x0]⟩,
  -- PRA_FCHDR
  ⟨0xB08, [], [.mkAny .rwp 31 16 0x11F8, .mkAny .rwp 15 0 0xEE08]⟩,
  -- PRA_FCSEQ
  ⟨0xB0C, [], [.mkAny .ro 31 0 0x0]⟩,
  -- PRA_BRDROP
  ⟨0xB10, [], [.mkAny .ro 31 16 0x0, .mkAny .ro 15 0 0x0]⟩,
  -- PRA_FCTIME
  ⟨0xB14, [], [.mkAny .rc 31 16 0x0, .mkAny .ro 15 0 0x0]⟩,
  -- PRA_FCCNT_LO
  ⟨0xB18, [], [.mkAny .ro 31 0 0x0]⟩]

def regsPRA3 : List RegDesc := [
  -- PRA_FCCNT_HI
  ⟨0xB1C, [], [.mkAny .ro 31 0 0x0]⟩,
  -- PRA_YLDCTL
  ⟨0xC00, [], [.mkAny .rwp 31 31 0x0, ⟨30, 27, .rwp, .rng 2 8, 0x4, none⟩, .mkAny .rwp 26 25 0x1, .mkAny .rwp 24 24 0x1, ⟨7, 0, .rwp, .rng 1 255, 0x6, none⟩]⟩,
  -- PRA_YLDBASE
  ⟨0xC04, [], [.mkAny .rwp 27 0 0x0]⟩,
  -- PRA_YLDSRC
  ⟨0xC08, [], [.mkAny .rwp 30 24 0x1E, .mkAny .rwp 22 16 0x60, ⟨11, 8, .rwp, .rng 0 13, 0x0, none⟩]⟩,
  -- PRA_YLDMGAIN
  ⟨0xC0C, [], [.mkAny .rwp 31 0 0x0]⟩,
  -- PRA_YLDMOFF
  ⟨0xC10, [], [.mkAny .rwp 31 0 0x0]⟩,
  -- PRA_YLDWGAIN
  ⟨0xC14, [], [.mkAny .rwp 31 0 0x0]⟩,
  -- PRA_YLDWOFF
  ⟨0xC18, [], [.mkAny .rwp 31 0 0x0]⟩,
  -- PRA_YLDDELAY
  ⟨0xC1C, [], [.mkAny .rwp 31 16 0x2EE0, ⟨15, 0, .rwp, .rng 0 60000, 0x2EE0, none⟩]⟩,
  -- PRA_YLDORGLAT
  ⟨0xC20, [], [.mkAny .rwp 31 0 0x0]⟩,
  -- PRA_YLDORGLON
  ⟨0xC24, [], [.mkAny .rwp 31 0 0x0]⟩,
  -- PRA_YLDORGH
  ⟨0xC28, [], [.mkAny .rwp 31 0 0x0]⟩,
  -- PRA_YLDWPOS
  ⟨0xC2C, [], [.mkAny .ro 31 0 0x0]⟩,
  -- PRA_YLDRPOS
  ⟨0xC30, [], [.mkAny .rw 31 0 0x0]⟩,
  -- PRA_YLDOPEN
  ⟨0xC34, [], [.mkAny .ro 31 31 0x0, .mkAny .ro 4 0 0x0]⟩,
  -- PRA_YLDDROP
  ⟨0xC38, [], [.mkAny .ro 31 0 0x0]⟩,
  -- PRA_YLDGAP
  ⟨0xC3C, [], [.mkAny .ro 31 0 0x0]⟩,
  -- PRA_YLDMASS_LO
  ⟨0xC40, [], [.mkAny .ro 31 0 0x0]⟩,
  -- PRA_YLDMASS_HI
  ⟨0xC44, [], [.mkAny .ro 31 0 0x0]⟩,
  -- PRA_YLDCMD
  ⟨0xC48, [], [.mkAny .wo 0 0 0x0]⟩]

/-- The registers of block 0x18. -/
def regsPRA : List RegDesc := regsPRA0 ++ regsPRA1 ++ regsPRA2 ++ regsPRA3

def regsDSP0 : List RegDesc := [
  -- DSP_CTL
  ⟨0x0, [], [.mkAny .rwp 31 31 0x0, ⟨23, 20, .rwp, .rng 1 15, 0x3, none⟩, .mkAny .rwp 3 3 0x1, .mkAny .rwp 2 2 0x1, .mkAny .rwp 1 1 0x1, .mkAny .rwp 0 0 0x1]⟩,
  -- DSP_STAT
  ⟨0x4, [], [.mkAny .w1c 6 6 0x0, .mkAny .w1c 5 5 0x0, .mkAny .w1c 4 4 0x0, .mkAny .w1c 3 3 0x0, .mkAny .w1c 2 2 0x0, .mkAny .w1c 1 1 0x0, .mkAny .ro 0 0 0x1]⟩,
  -- DSP_SNAP
  ⟨0x8, [], [.mkAny .wo 0 0 0x0]⟩,
  -- DSP_BADCFG
  ⟨0xC, [], [.mkAny .ro 11 8 0x0]⟩,
  -- DSP_LINEP
  ⟨0x10, [], [⟨15, 0, .rwp, .rng 4000 65528, 0x2778, none⟩]⟩,
  -- DSP_VTOTAL
  ⟨0x14, [], [.mkAny .rwp 11 0 0x672]⟩,
  -- DSP_ACTIVE
  ⟨0x18, [], [.mkAny .rwp 27 16 0x640, .mkAny .rwp 11 0 0xA00]⟩,
  -- DSP_ROWTIM
  ⟨0x1C, [], [.mkAny .rwp 31 30 0x0, .mkAny .rwp 23 12 0x7D, .mkAny .rwp 11 0 0x19]⟩,
  -- DSP_LANE
  ⟨0x20, [], [⟨1, 0, .rwp, .rng 0 2, 0x2, none⟩]⟩,
  -- DSP_FBBASE
  ⟨0x24, [], [.mkAny .rwp 27 0 0x0]⟩,
  -- DSP_MAPBASE
  ⟨0x28, [], [.mkAny .rwp 27 0 0x0]⟩,
  -- DSP_MAPSTAT
  ⟨0x2C, [], [.mkAny .ro 31 30 0x0, .mkAny .ro 29 28 0x0]⟩,
  -- DSP_BG
  ⟨0x30, [], [.mkAny .rwp 29 0 0x0]⟩,
  -- DSP_FSEQ
  ⟨0x34, [], [.mkAny .ro 31 0 0x0]⟩,
  -- DSP_FRAMECNT_LO
  ⟨0x38, [], [.mkAny .ro 31 0 0x0]⟩,
  -- DSP_FRAMECNT_HI
  ⟨0x3C, [], [.mkAny .ro 31 0 0x0]⟩,
  -- DSP_REPEAT
  ⟨0x40, [], [.mkAny .ro 31 0 0x0]⟩,
  -- DSP_LATE
  ⟨0x44, [], [.mkAny .ro 31 0 0x0]⟩,
  -- DSP_CRCERRCNT
  ⟨0x48, [], [.mkAny .ro 31 0 0x0]⟩,
  -- DSP_POISCNT
  ⟨0x4C, [], [.mkAny .ro 31 0 0x0]⟩]

def regsDSP1 : List RegDesc := [
  -- DSP_COMPTIME
  ⟨0x50, [], [.mkAny .rc 31 16 0x0, .mkAny .ro 15 0 0x0]⟩,
  -- DSP_CRCFAIL
  ⟨0x54, [], [.mkAny .ro 31 31 0x0, .mkAny .ro 4 0 0x0]⟩,
  -- DSP_FOFF
  ⟨0x58, [], [.mkAny .rwp 19 0 0x0]⟩,
  -- DSP_PANELID
  ⟨0x5C, [], [.mkAny .ro 31 0 0x0]⟩,
  -- DSP_Lk_CTL
  ⟨0x100, [(0x20, 3)], [.mkAny .rwp 31 31 0x0, .mkAny .rwp 27 24 0x0]⟩,
  -- DSP_Lk_BASE
  ⟨0x104, [(0x20, 3)], [.mkAny .rwp 27 0 0x0]⟩,
  -- DSP_Lk_STRIDE
  ⟨0x108, [(0x20, 3)], [.mkAny .rwp 15 0 0x2800]⟩,
  -- DSP_Lk_POS
  ⟨0x10C, [(0x20, 3)], [.mkAny .rwp 27 16 0x0, .mkAny .rwp 11 0 0x0]⟩,
  -- DSP_Lk_SIZE
  ⟨0x110, [(0x20, 3)], [.mkAny .rwp 27 16 0x0, .mkAny .rwp 11 0 0x0]⟩,
  -- DSP_Lk_USED
  ⟨0x114, [(0x20, 3)], [.mkAny .ro 31 0 0x0]⟩,
  -- DSP_Lk_AGE
  ⟨0x118, [(0x20, 3)], [.mkAny .rc 31 16 0x0, .mkAny .ro 15 0 0x0]⟩,
  -- DSP_Lk_POISLN
  ⟨0x11C, [(0x20, 3)], [.mkAny .ro 31 0 0x0]⟩,
  -- DSP_LNn_STAT
  ⟨0x200, [(0x8, 8)], [.mkAny .ro 31 31 0x0, .mkAny .ro 30 29 0x0, .mkAny .rc 15 0 0x0]⟩,
  -- DSP_LNn_LAST
  ⟨0x204, [(0x8, 8)], [.mkAny .ro 31 16 0x0, .mkAny .ro 11 0 0x0]⟩,
  -- DSP_CRCb
  ⟨0x300, [(0x4, 32)], [.mkAny .rc 31 16 0x0, .mkAny .ro 3 0 0x0]⟩,
  -- DSP_GAMMAn
  ⟨0x380, [(0x4, 8)], [.mkAny .rwp 25 16 0x0, .mkAny .rwp 9 0 0x0]⟩]

/-- The registers of block 0x19. -/
def regsDSP : List RegDesc := regsDSP0 ++ regsDSP1

/-- The registers of block `b` (R85); a block the table does not assign has none. -/
def blockRegs (b : Nat) : List RegDesc :=
  match b with
  | 0x00 => regsSYS
  | 0x01 => regsSDL
  | 0x02 => regsRTD
  | 0x03 => regsHLT
  | 0x04 => regsEVR
  | 0x05 => regsUPD
  | 0x06 => regsRNG
  | 0x07 => regsMBX
  | 0x08 => regsING
  | 0x09 => regsTRL
  | 0x0A => regsFUR
  | 0x0B => regsVLV
  | 0x0C => regsLSW
  | 0x0D => regsCAN
  | 0x0E => regsDSPS
  | 0x10 => regsFAB
  | 0x11 => regsMEM
  | 0x12 => regsNFL
  | 0x13 => regsTER
  | 0x14 => regsPCE
  | 0x15 => regsETH
  | 0x16 => regsGNS
  | 0x17 => regsCAM
  | 0x18 => regsPRA
  | 0x19 => regsDSP
  | _ => []

end Sys2Proof.Machine
end

