-- ==== Sys2Proof/Machine/State.lean ====
section
/-! DEFINITION. The state of the block: everything the spec gives it, as plain data, and the state after reset.
Registers live in one sparse map from register keys to words (Machine/RegTable.lean names every one and its reset value);
what the spec holds beside the registers stands in the structures below, chapter by chapter. -/

namespace Sys2Proof.Machine

/-- The ways the machine stops with a fault: none. The spec answers every access it refuses with an error response, which is
a next state (notes/assumptions/1.md). -/
inductive Fault where
  deriving DecidableEq, Repr

/-- The ways a command is refused. -/
inductive Refusal where
  /-- Raised by the dispatcher for a command without a meaning; safe. -/
  | notModelled (mnemonic : String)
  deriving DecidableEq, Repr

/-- The ordering codes (R1). -/
inductive Code where
  | f | h | l
  deriving DecidableEq, Repr

/-- The answer to the last register access: a completed write or command, a read value, an error response (R13,
R63, R70), or a read completed with poisoned data (R26). -/
inductive Resp where
  | none
  | done
  | value (v : Nat)
  | error
  | poisoned
  deriving DecidableEq, Repr

/-- Where an interrupt goes. `noDale`: destination carrying Dale while none carries; it stays pending (R503). -/
inductive Dest where
  | agent (a : Agent)
  | noDale
  | core (n : Nat)
  deriving DecidableEq, Repr

/-- What raised an interrupt: a status bit (register key and bit), a ring's pending bit, a ring error, a mailbox post, take or
abort, an alarm, a core's machine timer, or a notice to a firmware agent numbered by its register key. -/
inductive IrqSrc where
  | status (key bit : Nat)
  | ring (q : Nat)
  | ringErr (q : Nat)
  | mboxPost (m : Nat)
  | mboxTake (m : Nat)
  | mboxAbort (m : Nat)
  | alarm (n : Nat)
  | timer (core : Nat)
  | notice (key : Nat)
  | accessFault
  deriving DecidableEq, Repr

/-- An interrupt raised. -/
structure Irq where
  dest : Dest
  src : IrqSrc
  deriving DecidableEq, Repr

/-! ### Chapter 1: the tracker and the Bed bridge -/

/-- A tracker entry in use: its tag, requester and class, what it reads or writes, and the poison bit of its data (R22, R23). -/
structure FabEntry where
  tag : Nat
  req : Nat
  cls : Nat
  write : Bool
  addr : Nat
  len : Nat
  ack : Nat
  poison : Bool
  deriving DecidableEq, Repr

/-- A request held by its requester (R23). -/
structure FabWait where
  req : Nat
  cls : Nat
  write : Bool
  addr : Nat
  len : Nat
  since : Nat
  poison : Bool
  deriving DecidableEq, Repr

/-- The tracker: entries in use, oldest first, held requests, oldest first, and the places of the NAND page buffers whose data a forced
write left poisoned (R26). -/
structure Fab where
  entries : List FabEntry := []
  waits : List FabWait := []
  pageMarks : List (Nat × Nat) := []
  deriving DecidableEq, Repr

/-- What hangs on a line's arrival in the Bed store: nothing, the publication of an analyser stream's frame whose header it is (R134), or the next
step of a forecast record, whose lines carry `forecast` in steps 1 and 2 and `pointer` in step 3 (R205). -/
inductive LineTag where
  | plain
  | analyser (n : Nat)
  | forecast
  | pointer
  deriving DecidableEq, Repr

/-- A line on its way through the Bed bridge (R16, R17). -/
structure BridgeLine where
  addr : Nat
  data : Bytes
  poison : Bool
  dale : Bool
  frame : LineTag
  deriving DecidableEq, Repr

/-- The Bed bridge: posted writes towards Canopy, accepted inbound lines in acceptance order, and Dale writes that wait. -/
structure Bridge where
  outbound : List BridgeLine := []
  inbound : List BridgeLine := []
  waiting : List BridgeLine := []
  deriving DecidableEq, Repr

/-! ### Chapter 3: posted writes to Root -/

/-- A posting latch (R76, R77): the Root register's offset, the latest value (RW and RWP fields), the 1 bits of every merged
write (W1C and W1S fields), and the instant the last write completed. -/
structure Latch where
  off : Nat
  value : W32
  ones : W32
  time : Nat
  deriving DecidableEq, Repr

/-! ### Chapter 4: rings -/

/-- A descriptor the engine has taken and not completed (R94). `running` is false while it waits for its AT time or a fence;
`cq` is the completion ring that holds its slot. -/
structure Desc where
  idx : Nat
  op : Nat
  cpl : Bool
  irq : Bool
  fence : Bool
  tmode : Nat
  eflags : Nat
  tag : Nat
  deadline : Nat
  payload : Bytes
  running : Bool
  started : Nat
  late : Nat
  poison : Bool
  cq : Fin 128
  deriving DecidableEq, Repr

/-- What a ring holds beside its registers: the tail of a submission ring or the consumer's index of a completion ring, the
slots reserved in a completion ring (R93), the GAP owed, the descriptors taken, and the instant of a phase mismatch (R92). -/
structure Ring where
  idx : Nat := 0
  reserved : Nat := 0
  gap : Bool := false
  taken : List Desc := []
  mismatch : Option Nat := none
  deriving DecidableEq, Repr

/-! ### Chapter 22: the event recorder -/

/-- A record of the event recorder before it has a number (R546). `time` is the instant of its stamp while it is queued. -/
structure Rec where
  code : Nat
  sev : Nat
  clamp : Bool
  root : Bool
  opsec : Nat
  pwrcyc : Nat
  frag : Nat
  p0 : Nat
  p1 : Nat
  p2 : Nat
  supp : Nat
  software : Bool
  time : Nat
  deriving DecidableEq, Repr

/-- The token bucket of a CODE (R552): the severity it was last used at, the tokens it holds and the CODE's suppressed count.
Severity 16 stands for a bucket no record has used yet: it holds the `bases` tokens of the record's severity. -/
structure Bucket where
  sev : Nat := 16
  tokens : Nat := 0
  supp : Nat := 0
  deriving DecidableEq, Repr

/-- The recorder: queue, store (record number and record, oldest first), the next record number, buckets by CODE, the tokens
of the buckets no record has used yet by severity, and the instant of each severity's last refill. -/
structure Evr where
  queue : List Rec := []
  store : List (Nat × Rec) := []
  next : Nat := 0
  buckets : SMap Bucket := []
  bases : SMap Nat := []
  refilled : SMap Nat := []
  deriving DecidableEq, Repr



/-! ### Chapter 2: pace, monitors and Sundial -/

/-- What the monitors and Sundial hold beside their registers: breaches per domain (R43), the held rails (R41), which limits the
junction temperature stands above (R45), the trim Root saved at the last LOCKED state (R55), SDL_GNSSOFF before its last change with that instant (R219), the instant of the last mark, the
consecutive marks counted, the machine-timer compares (R53) and the latched time and destination of each alarm (R58). -/
structure Timing where
  breachBed : Bool := false
  breachCanopy : Bool := false
  aboveWarn : Bool := false
  aboveCrit : Bool := false
  savedTrim : Int := 0
  trimSaved : Bool := false
  offWas : Nat × Nat := (0, 0)
  lastMark : Nat := 0
  goodMarks : Nat := 0
  badMarks : Nat := 0
  compares : SMap Nat := []
  coming : List Nat := []
  lastRail : Option Nat := none
  alarms : SMap (Nat × Nat) := []
  deriving DecidableEq, Repr


/-! ### Chapter 20: maintenance tokens -/

/-- A maintenance token beside its register (R511, R512): the instant its holding began, whether that holding has been recorded as
longer than 1 h, and the requests that wait: owner, activity and the instant each began to wait. -/
structure Token where
  since : Nat := 0
  hourTold : Bool := false
  waits : List (Nat × Nat × Nat) := []
  deriving DecidableEq, Repr


/-! ### Chapter 5: sensor ingest -/

/-- A sample in an open frame: its stamp, the instant it entered, its value and its tray flags (R116). -/
structure Samp where
  t : Nat
  entered : Nat
  v : Frac
  sat : Bool
  settle : Bool
  deg : Bool
  gap : Bool
  deriving DecidableEq, Repr

/-- An analyser frame on its way through the Bed bridge: its one tray and the frame's 512 bytes (R134). -/
structure Flight where
  tray : List Samp × (Bytes × Bool)
  bytes : Bytes
  deriving DecidableEq, Repr

/-- A stream: its open frame, oldest sample first, the GAP owed, the instant its enabling write completed (R117), whether its frame count has
passed 2^32 (R119), and its frames that the Bed bridge has accepted and not yet delivered, oldest first (R134). -/
structure Stream where
  buf : List Samp := []
  gap : Bool := false
  since : Nat := 0
  wrapped : Bool := false
  flight : List Flight := []
  deriving DecidableEq, Repr

/-- An analogue channel's converter: the first input instant after its last restart, the end of SETTLE, the last stamp, the
low-pass value and the samples of the moving average, newest first (R122). -/
structure Chan where
  restart : Nat := 0
  settleEnd : Nat := 0
  last : Option Nat := none
  y : Option Frac := none
  hist : List Int := []
  deriving DecidableEq, Repr

/-- An acoustic channel: the crossings counted and not yet reported, newest first, the instant of the last one, and the instant the present
report period began (R123). -/
structure Acoustic where
  hits : List Nat := []
  last : Option Nat := none
  since : Nat := 0
  deriving DecidableEq, Repr

/-- A frequency input: its edge stamps, newest first, the quadrature count, and the instant its measurement began (R124). -/
structure FreqIn where
  edges : List Nat := []
  count : Int := 0
  since : Nat := 0
  deriving DecidableEq, Repr

/-- A CAPTURE that runs: its descriptor, stream, destination, tray count, trays written, frames written, the stamp of its first
sample, and the instant it started (R136). -/
structure Capture where
  q : Nat
  d : Desc
  stream : Nat
  dest : Nat
  count : Nat
  trays : Nat
  frames : Nat
  first : Option Nat
  since : Nat
  deriving DecidableEq, Repr

/-- The ingest unit beside its registers: streams, converters, the instants at which supplies faulted (R125), the consecutive
checks beyond the vote limit (R128, R129), whether every analogue tray carries DEG, whether DRIFT has risen, the GAP owed to the
mirror (R130) and the captures that run. -/
structure Ingest where
  streams : SMap Stream := []
  chans : SMap Chan := []
  acoustics : SMap Acoustic := []
  freqs : SMap FreqIn := []
  supOff : SMap Nat := []
  devRun : Nat := 0
  degAll : Bool := false
  driftSeen : Bool := false
  mirGap : Bool := false
  captures : List Capture := []
  deriving DecidableEq, Repr


/-! ### Chapter 6: cameras -/

/-- A frame of a camera link, open or closed (R146, R147, R160): its number and stamps, the lines placed, the counts and flags
of its descriptor, the indexes of its pad lines replaced for CRC errors, the instant of its last line, its raw lines in 14-bit units, and
the registers and tables in force for it (R150). -/
structure CamFrame where
  fseq : Nat
  tfs : Nat
  lines : Nat := 0
  nshort : Nat := 0
  nlong : Nat := 0
  nbad : Nat := 0
  flags : Nat := 0
  padIdx : List Nat := []
  lastLine : Nat
  dur : Nat := 0
  skip : Nat := 0
  raw : List (List Nat) := []
  force : List W32 := []
  tables : SMap Bytes := []
  deriving DecidableEq, Repr

/-- What becomes of lines outside an open frame: orphans, lines of a skipped frame, or lines after an OVERRUN (R145, R147). -/
inductive LineMode where
  | orphan | skipped | dropped
  deriving DecidableEq, Repr

/-- A camera link beside its registers: training (R141), frame assembly, the arrival times in its line buffer, the frames closed
and not yet processed, the number of the previous processed frame for the history tags (R149), the values of NR, BLACK, WB and
SYNC in force (R150), tables loaded and in force, the power over coax (R140), and the last transaction sent over the control channel (R159). -/
structure CamLink where
  trainStart : Nat := 0
  fails : Nat := 0
  lastStart : Option Nat := none
  lastFs : Nat := 0
  stalled : Bool := false
  mode : LineMode := .orphan
  frame : Option CamFrame := none
  closed : List CamFrame := []
  buffer : List Nat := []
  prevSeq : Option Nat := none
  skip : Nat := 0
  inForce : List W32 := []
  shadow : SMap Bytes := []
  active : SMap Bytes := []
  loaded : List Nat := []
  pocOff : Nat := 0
  lastSync : Option Nat := none
  sent : List Nat := []
  deriving DecidableEq, Repr

/-- An output slot written: frame number, stamp, write order (0: never written), and the frame's flags (R151). -/
structure SlotInfo where
  fseq : Nat := 0
  tfs : Nat := 0
  order : Nat := 0
  flags : Nat := 0
  deriving DecidableEq, Repr

/-- A picture that waits in an encoder session (R155). -/
structure Picture where
  slot : Nat
  fseq : Nat
  tfs : Nat
  deriving DecidableEq, Repr

/-- An encoder session: its link, pending pictures oldest first, admitted frames seen, pictures since the last IDR, the IDR owed, and the
pictures skipped since the last entry (R154-R156). -/
structure EncSession where
  src : Nat := 0
  pend : List Picture := []
  seen : Nat := 0
  sinceIdr : Nat := 0
  idr : Bool := true
  skip : Nat := 0
  stopping : Bool := false
  deriving DecidableEq, Repr

/-- The camera pipeline beside its registers: links, output slots by (link × 3 + output) × 128 + slot, the last write order, the
slots engines hold by the same key, sessions, and the pixels received, processed and coded in the last second. -/
structure Camera where
  links : SMap CamLink := []
  slots : SMap SlotInfo := []
  order : Nat := 0
  holds : List Nat := []
  sessions : SMap EncSession := []
  pixIn : List (Nat × Nat) := []
  pixDone : List (Nat × Nat) := []
  pixEnc : List (Nat × Nat) := []
  deriving DecidableEq, Repr


/-! ### Chapter 7: Prairie, the field grid -/

/-- A camera frame at stage 1 (R173, R191): its number, frame start, placement time of its last line, machine-vision slot, the seed of what stage 1
made of it, and the feature rows that poisoned slot lines mark. -/
structure VisionFrame where
  fseq : Nat
  tfs : Nat
  tend : Nat
  slot : Nat
  seed : Nat := 0
  marked : List Nat := []
  deriving DecidableEq, Repr

/-- A Prairie sensor beside its registers: the pending frame and the newest whose stage 1 has completed, whether its last frame did
not fit the network, the record in force and the one installed from the next cycle (R186), the six corrections in 1/3.6e12 of the
register's unit, the components at their limit, freeze and exclusion with the consecutive counts of R190. -/
structure Sensor where
  pend : Option VisionFrame := none
  ready : Option VisionFrame := none
  mismatch : Bool := false
  cal : Option Bytes := none
  calNew : Option Bytes := none
  corr : List Int := [0, 0, 0, 0, 0, 0]
  atLimit : List Nat := []
  frozen : Bool := false
  freezeNew : Option Bool := none
  excluded : Bool := false
  above : Nat := 0
  good : Nat := 0
  deriving DecidableEq, Repr

/-- A network package as Prairie keeps it (R177-R180): its place, identity, the geometry of its tensors, its depth bins, height band and lidar
window, whether the camera features are BF16 and the scale of INT8 ones, the stages of kinds 4 and 5 it has, and whether its declared operations
exceed the reference budget. -/
structure Net where
  addr : Nat
  len : Nat
  netid : Nat
  netver : Nat
  mvfmt : Nat
  mw : Nat
  mh : Nat
  fc : Nat
  lc : Nat
  d : Nat
  fh : Nat
  fw : Nat
  dnear : Nat
  dfar : Nat
  zmin : Int
  zmax : Int
  lwin : Nat
  wide : Bool
  scale : Nat
  mode4 : Bool
  mode5 : Bool
  heavy : Bool
  deriving DecidableEq, Repr

/-- The machine's pose at a time (R169, R170): position in mm, yaw, pitch and roll in turns, the header's offset in mm, the age of the newest record
used in ns, the motion in mm/s and µrad/s, and whether there is a pose. -/
structure PoseNow where
  px : Frac := ⟨0, 1⟩
  py : Frac := ⟨0, 1⟩
  yaw : Frac := ⟨0, 1⟩
  pitch : Frac := ⟨0, 1⟩
  roll : Frac := ⟨0, 1⟩
  hx : Frac := ⟨0, 1⟩
  hz : Frac := ⟨0, 1⟩
  age : Nat := 0
  speed : Frac := ⟨0, 1⟩
  yawrate : Frac := ⟨0, 1⟩
  valid : Bool := false
  deriving DecidableEq, Repr

/-- A camera in a grid cycle: its frame, whether it is excluded, its active size, its record and correction, whether the header carries it, and the
pose at its exposure (R174). -/
structure CamView where
  sens : Nat
  frame : VisionFrame
  excl : Bool
  aw : Nat
  ah : Nat
  cal : Bytes
  corr : List Int
  pose : PoseNow
  hdr : Bool
  deriving DecidableEq, Repr

/-- A lidar point in a grid cycle: its sensor, whether that is excluded, the cell it falls in, its time, its height in m, its offset from the cell
centre in cells, its intensity and return index (R175). -/
structure LidHit where
  sens : Nat
  excl : Bool
  cell : Nat
  t : Nat
  z : Frac
  dx : Frac
  dy : Frac
  intens : Nat
  ret : Nat
  deriving DecidableEq, Repr

/-- A grid cycle that has started and not published. -/
structure GridCycle where
  tg : Nat
  tnew : Option Nat
  flags : Nat
  smask : Nat
  xmask : Nat
  npts : Nat
  nskip : Nat
  pose : PoseNow
  net : Net
  cams : List CamView
  pts : List LidHit
  deriving DecidableEq, Repr

/-- A published grid as Prairie's own stages read it from the feature store (R168): its number, time, flags and pose. -/
structure GridRef where
  gseq : Nat
  tg : Nat
  tpub : Nat
  flags : Nat
  pose : PoseNow
  deriving DecidableEq, Repr

/-- Prairie's grid beside its registers: sensors, the frame stage 1 runs on, the loaded and the active network and one that becomes active with the
next cycle (R179), the running cycle, the next slot, the number of grids since Canopy power-up, cycles skipped, whether RESTART is owed and whether
a correction changed, the time of the previous cycle, the last sync instant used in PACED mode, the last grid's cell words and the last grid. -/
structure Prairie where
  sensors : SMap Sensor := []
  run : Option (Nat × VisionFrame) := none
  loaded : Option Net := none
  net : Option Net := none
  next : Option (Net × Bool) := none
  cycle : Option GridCycle := none
  slot : Nat := 0
  grids : Nat := 0
  skipped : Nat := 0
  restart : Bool := true
  calChange : Bool := false
  lastTg : Option Nat := none
  lastSync : Option Nat := none
  cells : List Nat := []
  grid : Option GridRef := none
  deriving DecidableEq, Repr


/-! ### Chapter 8: tracks, forecast and yield -/

/-- A track slot (R199, R202): state 1 NEW, 2 TENTATIVE, 3 CONFIRMED (a FREE slot is the default), TID, the hit history, the counts,
the values of its last row (a probability from 0 to 1, m, m/s and the heading in turns), the grid times of placement and last detection, the flags of
the last update, and its row of tensor 8 as BF16 patterns (R197). -/
structure Track where
  st : Nat := 0
  tid : Nat := 0
  hist : Nat := 0
  updates : Nat := 0
  misses : Nat := 0
  exist : Frac := ⟨0, 1⟩
  cls : Nat := 0
  cscore : Frac := ⟨0, 1⟩
  x : Frac := ⟨0, 1⟩
  y : Frac := ⟨0, 1⟩
  len : Frac := ⟨0, 1⟩
  wid : Frac := ⟨0, 1⟩
  hgt : Frac := ⟨0, 1⟩
  head : Frac := ⟨0, 1⟩
  vx : Frac := ⟨0, 1⟩
  vy : Frac := ⟨0, 1⟩
  tplace : Nat := 0
  tlast : Nat := 0
  flags : Nat := 0
  mem : List Nat := []
  deriving DecidableEq, Repr

/-- Counts of one track update (R201). -/
structure TrackCounts where
  births : Nat := 0
  deletions : Nat := 0
  displaced : Nat := 0
  overflow : Nat := 0
  poison : Bool := false
  deriving DecidableEq, Repr

/-- A grid whose kind 5 stage has completed (R198, R204): the grid, its cell words, the seed of tensor 10, the values of its channels 0 and 1 that
are known as (cell, BF16 pattern), and its poisoned cells. -/
structure MassMap where
  grid : GridRef
  words : List Nat
  seed : Nat
  rho : List (Nat × Nat)
  conf : List (Nat × Nat)
  poison : List Nat
  deriving DecidableEq, Repr

/-- A forecast record on its way (R205): its number, time, slot, flags, grid number, header, trays and pointer line, the addresses of its slot and of
the pointer page, its step-0 profile, the step under way, the lines of that step that have not reached the Bed store, how many steps the sampler
issues before the next TF, and the time from TF to the pointer in µs. -/
structure FcRun where
  fseq : Nat
  tf : Nat
  slot : Nat
  flags : Nat
  gseq : Nat
  head : Bytes
  trays : Bytes
  ptr : Bytes
  addr : Nat
  base : Nat
  prof : List Frac
  steps : Nat
  us : Nat
  step : Nat := 1
  left : Nat := 0
  deriving DecidableEq, Repr

/-- A cell of an open tile (R210, R212): exact sums, samples placed and flags. -/
structure TileCell where
  wet : Frac := ⟨0, 1⟩
  water : Frac := ⟨0, 1⟩
  area : Frac := ⟨0, 1⟩
  samples : Nat := 0
  flags : Nat := 0
  deriving DecidableEq, Repr

/-- An open tile: its indices, the times of its first and last mass, its use order, flags, cells, and why it must close as soon as
it can (the FLUSH or EVICT flag, 0 for neither). -/
structure Tile where
  te : Int
  tn : Int
  topen : Nat
  tlast : Nat
  used : Nat
  flags : Nat
  cells : SMap TileCell
  closing : Nat
  deriving DecidableEq, Repr

/-- Tracks, forecast and yield beside their registers: track slots, the next TID, whether a clear is pending, the next table and the
grid last updated from; the newest grid with a mass map, the forecast's next number, the GAP it owes, the record in steps 1 and 2, those in step 3,
the header span in force, and the step-0 profiles of the last 60 s; the tiler's place in the mirror log (position, tray, sample) and the stamp of
the last mass-flow sample it read, the open tiles, their use count, and the exact masses placed and dropped. -/
structure Products where
  tracks : SMap Track := []
  nextTid : Nat := 1
  clear : Bool := false
  table : Nat := 0
  updated : Option Nat := none
  mass : Option MassMap := none
  fseq : Nat := 0
  fcGap : Bool := false
  fc : Option FcRun := none
  posted : List FcRun := []
  hdr : Option (Int × Int) := none
  profiles : List (Nat × List Frac) := []
  readAt : Nat × Nat × Nat := (0, 0, 0)
  lastStamp : Option Nat := none
  tiles : List Tile := []
  uses : Nat := 0
  placed : Frac := ⟨0, 1⟩
  dropped : Frac := ⟨0, 1⟩
  deriving DecidableEq, Repr


/-! ### Chapter 9: GNSS -/

/-- What a tracking channel tracks beside GNS_CHPk (R217): the satellite, its GLONASS number k, the instants of its assignment and of its last loss
of lock, and whether lock was lost since the last epoch. -/
structure GnsChan where
  sys : Nat := 0
  sv : Nat := 0
  k : Int := 0
  since : Nat := 0
  lostAt : Nat := 0
  lost : Bool := false
  deriving DecidableEq, Repr

/-- A signal of a satellite on an antenna. -/
structure SigKey where
  ant : Nat
  sys : Nat
  sv : Nat
  sig : Nat
  deriving DecidableEq, Repr

/-- A place held as an aid: earth-centred in mm (R231), or latitude and longitude in 10^-11 degree and height in mm (R232). -/
inductive Place where
  | ecef (x y z : Int)
  | geo (lat lon hgt : Int)
  deriving DecidableEq, Repr

/-- A position or velocity aid: its bound in mm or mm/s, the position where it is one, the velocity east, north and up in mm/s, and when it came. -/
structure PosAid where
  bound : Nat
  place : Option Place
  vel : Int × Int × Int
  taken : Nat
  deriving DecidableEq, Repr

/-- An ephemeris held: its satellite, its RTCM frame, and its reference time in GPS ns. -/
structure Ephemeris where
  sys : Nat
  sv : Nat
  frame : Bytes
  ref : Int
  deriving DecidableEq, Repr

/-- The guidance configuration in force (R234). -/
structure GuideCfg where
  pathId : Nat
  points : List (Int × Int)
  closed : Bool
  rbase : Nat
  rlog2 : Nat
  pose : Bool
  tilt : Bool
  hdguse : Bool
  pitch : Nat
  roll : Nat
  area : Nat
  ahead : Nat
  capture : Nat
  warn : Nat
  most : Nat
  deriving DecidableEq, Repr

/-- The guidance firmware (R234-R241): the CSEQ applied, the configuration, whether the area is bad, the GAP it owes, records written, the Dale that
wrote the last, the solution state (0 NONE, 1 STANDALONE, 2 FLOAT, 3 FIXED), the GPS time of the last MSM set, the base's satellites by system and its
position in 0.1 mm, the last messages 1033 and 1230, and the last heading in turns. -/
structure GuideFw where
  seq : Option Nat := none
  cfg : Option GuideCfg := none
  bad : Bool := false
  gap : Bool := false
  count : Nat := 0
  dale : Option Agent := none
  sol : Nat := 0
  msm : Option Int := none
  sats : SMap Nat := []
  base : Option (Int × Int × Int) := none
  notes : SMap Bytes := []
  head : Option Frac := none
  deriving DecidableEq, Repr

/-- The GNSS baseband and the guidance firmware beside their registers: channels; the search each unit runs, with the instant it ends; signals that
are searched again later, with the instant; the signals and the loop bandwidths in force; epochs written, the next slot, the grid index of the last
one (in GPS time or in Sundial time) and its time; the fix; the last mark sent, its GPS time and the fix's residual in mm; the aids used and, where a
wider one came, the last of those (R231); ephemerides; the broadcast leap seconds; feed switch-off instants; whether a firmware switch leaves the next
epoch unwritten (R538); and the guidance firmware. -/
structure Gnss where
  chans : SMap GnsChan := []
  search : SMap (Option (SigKey × Int × Nat)) := []
  again : List (SigKey × Nat) := []
  sig : Nat := 0x1FF
  trk : Nat := 0x0F320000
  shortTold : Bool := false
  epochs : Nat := 0
  slot : Nat := 0
  lastIdx : Option (Bool × Int) := none
  lastEpoch : Option Nat := none
  missed : Bool := false
  start : Nat := 0
  firstFix : Bool := false
  fixAt : Option Nat := none
  rms : Nat := 0
  lastMark : Option Nat := none
  markGps : Nat := 0
  timeAid : Option (Nat × Nat × Nat) := none
  timeWide : Option (Nat × Nat × Nat) := none
  posAid : Option PosAid := none
  posWide : Option PosAid := none
  velAid : Option PosAid := none
  velWide : Option PosAid := none
  ephs : List Ephemeris := []
  leap : Option Nat := none
  noTrim : Bool := false
  skipNext : Bool := false
  feedOff : SMap Nat := []
  guide : GuideFw := {}
  deriving DecidableEq, Repr


/-! ### Chapter 10: Trellis -/

/-- A Trellis loop beside its registers. `raw` is the 128-byte record in force, `pend` one that waits for the next sample start; `kih`,
`ad`, `bd` and `dh` the coefficients of R256; `i`, `d` and `xprev` the states; `r` the set-point in force, `ulast` and `f` the last
output and feed-forward, `y` and `tin` the last measurement; `count` samples since enabled, `last` the last sample instant, `busy` the
end of the last sample, `since` the enabling; `seqA`, `seqB` the SEQs accepted, `target` and `step` the stream value and RS, `manual`
the accepted VALUE; `fresh`, `entry`, `modeReq` what the next sample owes; `prev` and `from0` the states left for TRIPPED and TRACK;
`casc` the outer loop's latest output; `minv` the first sample of the unbroken invalid run; `fvalid`, `ft`, `stale`, `back` the
feed-forward of R251; `sphold` and `skipped` the flags owed. -/
structure Loop where
  raw : Bytes := []
  pend : Option Bytes := none
  kih : Frac := ⟨0, 1⟩
  ad : Frac := ⟨0, 1⟩
  bd : Frac := ⟨0, 1⟩
  dh : Frac := ⟨0, 1⟩
  i : Frac := ⟨0, 1⟩
  d : Frac := ⟨0, 1⟩
  xprev : Frac := ⟨0, 1⟩
  r : Option Frac := none
  ulast : Frac := ⟨0, 1⟩
  f : Frac := ⟨0, 1⟩
  y : Frac := ⟨0, 1⟩
  tin : Nat := 0
  count : Nat := 0
  last : Option Nat := none
  busy : Nat := 0
  since : Nat := 0
  seqA : Nat := 0
  seqB : Nat := 0
  target : Option Frac := none
  step : Option Frac := none
  manual : Option Frac := none
  area : Option Nat := none
  sphold : Bool := false
  fresh : Bool := false
  entry : Bool := false
  modeReq : Option Nat := none
  prev : Nat := 2
  from0 : Nat := 2
  casc : Option Frac := none
  minv : Option Nat := none
  fvalid : Frac := ⟨0, 1⟩
  ft : Option Nat := none
  stale : Option (Nat × Frac) := none
  back : Option (Nat × Frac) := none
  skipped : Bool := false
  asatTold : Bool := false
  deriving DecidableEq, Repr

/-- The busy time of an engine in the Sundial second `sec` so far, in ns, and its share of the second before in 0.01 % (notes/assumptions/33.md). -/
structure BusyLoad where
  sec : Nat := 0
  acc : Nat := 0
  share : Nat := 0
  deriving DecidableEq, Repr

/-- The Trellis block beside its registers: its loops, and whether a set-point base register was lost to a parity fault. -/
structure Trellis where
  loops : SMap Loop := []
  spLost : Bool := false
  busyEnd : Nat := 0
  load : BusyLoad := {}
  deriving DecidableEq, Repr


/-! ### Chapter 11: Furrow -/

/-- An entry of the I/O map (R280). -/
structure MapEntry where
  kind : Nat
  mflags : Nat
  target : Nat
  idx : Nat
  off : Nat
  width : Nat
  scale : Int
  maxage : Nat
  subst : Int
  deriving DecidableEq, Repr

/-- A checked program image (R299): identity, version, required cycle, constant region, layout, instructions, initial values, map. -/
structure Prog where
  id : Nat
  ver : Nat
  cycle : Nat
  constLo : Nat
  constHi : Nat
  layout : Nat
  code : List Nat
  inits : List (Nat × Nat × Int)
  ins : List MapEntry
  outs : List MapEntry
  deriving DecidableEq, Repr

/-- A timer (R278). `last` is none until it is first evaluated after an activation that set it to 0: LAST is then the first TLATCH. -/
structure Timer where
  et : Nat := 0
  q : Bool := false
  inp : Bool := false
  run : Bool := false
  last : Option Nat := none
  deriving DecidableEq, Repr

/-- A counter (R278, R293). `kind` is 1 or 2 once a CTU or CTD has used it and `pv` its last preset, so that RSTC can recompute Q. -/
structure Counter where
  cv : Int := 0
  q : Bool := false
  inp : Bool := false
  kind : Nat := 0
  pv : Int := 0
  deriving DecidableEq, Repr

/-- A REP under way (R294). -/
structure Rep where
  start : Nat
  len : Nat
  str : Nat
  n : Nat
  pass : Nat
  deriving DecidableEq, Repr

/-- A scan (R274, R289): its state, its header's facts, and TEND once it has ended. -/
structure Scan where
  pc : Nat := 0
  a : Bool := false
  w : Int := 0
  x : Nat := 0
  stack : List (Bool × Nat) := []
  rep : Option Rep := none
  seq : Nat
  tlatch : Nat
  started : Nat
  ended : Option Nat := none
  overrun : Bool := false
  subst : Bool := false
  sat : Bool := false
  first : Bool := false
  handover : Bool := false
  changed : Bool := false
  deriving DecidableEq, Repr

/-- The words of a release (R288): the boundary, the scan's TLATCH, the words and those that carry the poison mark. -/
structure WordRelease where
  boundary : Nat
  tlatch : Nat
  words : SMap Int
  bad : List Nat
  deriving DecidableEq, Repr

/-- Furrow beside its registers: the programs of the two banks (active, inactive), the memories and their poison marks (area 0 flag
groups of 64, 1 words, 2 timers, 3 counters, 4 edges), poisoned instruction words, the scan, the last two releases, whether the
most recent scan stands aborted, what the next scan owes, the last boundary, the first TLATCH since an activation, changes and reads that wait, the PROGACT that waits, the CMD lines
accepted, the SEQs accepted by area and line, and the map entries in substitution. -/
structure Furrow where
  active : Option Prog := none
  other : Option Prog := none
  flags : SMap Bool := []
  words : SMap Int := []
  timers : SMap Timer := []
  counters : SMap Counter := []
  edges : SMap Bool := []
  bad : List (Nat × Nat) := []
  badCode : List Nat := []
  scan : Option Scan := none
  rels : List WordRelease := []
  aborted : Bool := false
  lastOvr : Bool := false
  first : Bool := false
  changed : Bool := false
  boundary : Option Nat := none
  timer0 : Nat := 0
  timerFresh : Bool := false
  changes : List (Nat × Desc) := []
  reads : List (Nat × Desc) := []
  act : Option Desc := none
  area : Option Nat := none
  cmd : SMap Bytes := []
  seqs : SMap Nat := []
  cmdLost : List Nat := []
  subst : List Nat := []
  load : BusyLoad := {}
  deriving DecidableEq, Repr


/-! ### Chapters 12 and 13: the output stages -/

/-- An accepted timed valve event whose time has not come (R320): channel, time, the time a pulse turns off, on or off, current in
mA, the descriptor's TAG and whether it asked for a report. -/
structure ValveEvent where
  ch : Nat
  t : Nat
  stop : Option Nat
  on : Bool
  ma : Nat
  tag : Nat
  report : Bool
  deriving DecidableEq, Repr

/-- A valve pulse that runs: when it turns off, its duration in ns, its TAG, whether it reports, and whether it was a timed event. -/
structure ValvePulse where
  stop : Nat
  dur : Nat
  tag : Nat
  report : Bool
  timed : Bool
  deriving DecidableEq, Repr

/-- A valve channel beside its registers, whose STAT flags hold its state: the commanded current in mA, the applied current, the
last turn-on, the end of the peak phase, the DIP word of a detection window that has not closed, the result of the closed one
(depth and motion time; none for no dip), the running pulse, and the TAG of a SET that reports the end of the peak. -/
structure Valve where
  ma : Frac := ⟨0, 1⟩
  lvl : Nat := 0
  ton : Nat := 0
  peakEnd : Nat := 0
  window : Option W32 := none
  dip : Option (Option (Nat × Nat)) := none
  pulse : Option ValvePulse := none
  rep : Option Nat := none
  deriving DecidableEq, Repr

/-- The VLV block beside its registers: channels, accepted events, the channels deferred in the order asked for, the actuations not
yet committed by channel, and the instant of the last commit (R324). -/
structure Valves where
  chs : SMap Valve := []
  evs : List ValveEvent := []
  defq : List Nat := []
  wear : SMap Nat := []
  lastCommit : Nat := 0
  deriving DecidableEq, Repr

/-- A load-switch pulse: when it ends, none before its actual start; its duration in ns; and its TAG. -/
structure SwitchPulse where
  stop : Option Nat
  dur : Nat
  tag : Nat
  deriving DecidableEq, Repr

/-- A load-switch channel beside its registers: the commanded duty, the duty before it and the instant of the change (R334), the running
pulse, the last instants the output turned on and off, when current limiting began, whether the switch is still hot, and the energy in
nJ not yet committed. -/
structure Switch where
  duty : Frac := ⟨1, 1⟩
  was : Frac := ⟨0, 1⟩
  changed : Nat := 0
  pulse : Option SwitchPulse := none
  ton : Nat := 0
  offSince : Nat := 0
  limSince : Option Nat := none
  hot : Bool := false
  energy : Nat := 0
  deriving DecidableEq, Repr

/-- A pin group (R336): whether a shed holds admissions back, since when the mean has stayed at or below LIM, and whether the
present excursion has been reported. -/
structure PinGroup where
  blocked : Bool := false
  okSince : Option Nat := none
  told : Bool := false
  deriving DecidableEq, Repr

/-- The LSW block beside its registers: channels, groups, the FREQ of each pulse generator before its last change and that instant, the instants of the last heat update and the last shed evaluation, when the
fail-safe table was unlocked, and the FSWRITE that has passed its first checks and waits for its token. -/
structure Switches where
  chs : SMap Switch := []
  grps : SMap PinGroup := []
  gens : SMap (Nat × Nat) := []
  lastHeat : Nat := 0
  lastShed : Nat := 0
  openAt : Option Nat := none
  writing : Option Desc := none
  deriving DecidableEq, Repr

/-- An output-stage IC (0 to 5 Trowel, 6 to 13 Shears 0 to 7), powered from the main and load supplies: its fail-safe state, whether a
lasting fault holds it there (R498), the instant and period in force of its watchdog, the last accepted refresh, the instants of frames
sent again within the last second, the TABLEVER it holds and its non-volatile writes. -/
structure OutIc where
  fsafe : Bool := true
  locked : Bool := false
  last : Nat := 0
  period : Nat := 0x32
  accepted : Nat := 0
  resent : List Nat := []
  ver : Nat := 0
  writes : Nat := 0
  deriving DecidableEq, Repr

/-- What the output stages and Root keep while Bed is unpowered: the ICs, their fail-safe entries (valve channel n at n, load-switch
channel n at 48 + n), the entries the ICs in a fail-safe state apply, the heating estimates in mA² (R338), the identity, version and CODES of the last table written, the ICs that
hold it, and the Root wear store (valve actuations at n, load-switch energy in nJ at 48 + n, corrected lines of rank n at 112 + n,
erases of NAND package c at 120 + c). -/
structure Outs where
  ics : SMap OutIc := []
  entries : SMap Nat := []
  applied : SMap Nat := []
  heat : SMap Frac := []
  tableId : Nat := 0
  tableVer : Nat := 0
  tableCodes : Nat := 0
  holders : Nat := 0
  wear : SMap Nat := []
  deriving DecidableEq, Repr


/-! ### Chapter 14: CAN -/

/-- Where a frame waiting to be sent comes from: the claim logic, the network management of R481, Furrow's transmit buffer b, or a
SEND descriptor. -/
inductive TxKind where
  | claim
  | mgmt
  | buffer (b : Nat)
  | ring (d : Desc)
  deriving DecidableEq, Repr

/-- A frame waiting to be sent or in transmission: its ID word (R359), DLC, data, whether its source address is the controller's, its
starts, whether it has begun, the stamp of its last start, and whether a CANCEL has marked it. -/
structure TxFrame where
  kind : TxKind
  id : Nat
  dlc : Nat
  data : Bytes
  sasub : Bool
  starts : Nat := 0
  begun : Bool := false
  stamp : Nat := 0
  marked : Bool := false
  deriving DecidableEq, Repr

/-- An acceptance entry as the controller holds it (R357). -/
structure AccEntry where
  id : Nat
  mask : Nat
  action : Nat
  buf : Nat
  deriving DecidableEq, Repr

/-- A CAN controller beside its registers: frames waiting, oldest first; the acceptance copies with the instants they were made, newest first; the instant detection began; the transmit
error counter beyond the register; SEQ of each receive buffer, releases of each transmit buffer and the data last made pending
from it; CANCELs that wait for a marked frame with the frames they cancelled; the instant of its own claim, the claim decisions
that wait, the claim that waits out its back-off (its end, and the address unless none is left), the addresses lost; whether a
claim request waits; and whether a KEEPAWAKE or a wake-up frame has been received. -/
structure Can where
  pend : List TxFrame := []
  acc : List (Nat × List AccEntry) := []
  detSince : Nat := 0
  tec : Nat := 0
  rxSeq : SMap Nat := []
  rel : SMap Nat := []
  lastData : SMap Bytes := []
  cancels : List (Desc × Nat) := []
  claimAt : Option Nat := none
  contests : List Nat := []
  backoff : Option (Nat × Bool) := none
  lost : List Nat := []
  asked : Bool := false
  keep : Option Nat := none
  wuf : Bool := false
  deriving DecidableEq, Repr

/-- The CAN block beside its registers: controllers, the NAME and the instant of the last frame of each partner slot, whether PTNFULL
has been told and whether partner tracking has stopped. -/
structure Cans where
  ctl : SMap Can := []
  names : SMap Nat := []
  seen : SMap Nat := []
  fullTold : Bool := false
  stopped : Bool := false
  deriving DecidableEq, Repr


/-! ### Chapter 15: the Ethernet switch -/

/-- A filtering database entry: MAC, VLAN, port mask, whether it is static, and when a frame last refreshed it (R373). -/
structure FdbEntry where
  mac : Nat
  vid : Nat
  ports : Nat
  static : Bool
  seen : Nat
  deriving DecidableEq, Repr

/-- A frame that waits on an egress port: its class, the remote I/O stream it belongs to, and the XMIT descriptor that completes
when it starts. -/
structure EgFrame where
  port : Nat
  cls : Nat
  frame : EthFrame
  stream : Option Nat
  desc : Option Desc
  deriving DecidableEq, Repr

/-- A gate control list: entries of mask and interval, and GOFF (R376). -/
structure GateList where
  entries : List (Nat × Nat) := []
  off : Nat := 0
  deriving DecidableEq, Repr

/-- A gate control list that waits for its first cycle start (R377). -/
structure GclWait where
  port : Nat
  list : GateList
  start : Nat
  desc : Desc
  deriving DecidableEq, Repr

/-- An NVMe/TCP connection with its controller (R384, R458): connection number, host address, controller ID, CC and CSTS, keep-alive
timeout in ms and the instant it was last refreshed, the Asynchronous Event Configuration, the command identifiers of waiting
Asynchronous Event Requests, the namespaces changed since the log was read, the Error Information count, and the queues granted. -/
structure NvmeConn where
  id : Nat
  addr : Nat
  ctrl : Nat
  cc : Nat := 0
  csts : Nat := 0
  kato : Nat := 0
  seen : Nat := 0
  aec : Nat := 0
  aers : List Nat := []
  owed : Bool := false
  changed : List Nat := []
  errors : Nat := 0
  queues : Nat := 0
  deriving DecidableEq, Repr

/-- The switch beside its registers: filtering database, frames waiting on egress ports, gate lists in force and waiting, templates
and frame counts of the remote I/O streams, layout records of the enabled UDP entries, posted receive buffers, the grandmaster's
identity, and the NVMe/TCP connections. -/
structure Eth where
  fdb : List FdbEntry := []
  out : List EgFrame := []
  lists : SMap GateList := []
  gclWait : List GclWait := []
  tpl : SMap Bytes := []
  seq : SMap Nat := []
  layouts : SMap Bytes := []
  posted : List Desc := []
  gm : Nat := 0
  conns : List NvmeConn := []
  deriving DecidableEq, Repr



/-! ### Chapter 16: the cab panel -/

/-- A composition under way (R397): its start, the words of the layer registers in force (CTL, BASE, STRIDE, POS and SIZE of layers 0
to 2) and of DSP_BG, and the display slot layer 0 holds: its key, address, stride, width and height. -/
structure Comp where
  start : Nat
  regs : List W32
  slot : Option (Nat × Nat × Nat × Nat × Nat) := none
  deriving DecidableEq, Repr

/-- The panel beside the registers of its two windows. The strip unit: rails, backlight, its duty and the start of its ramp, the instant
of panel_vdd on and of the present sequence step, the request that waits for the end of the step, panel_pol, the lanes (0 OFF, 1
TRAIN, 2 RUN), col_lock, the starts of the present and of the first training attempt, the panel's timing as last written (HACT,
VACT, LINEP, VTOTAL, FOFF), frame periods without a complete frame, whether the engine has reported a failure, the instants of the
last frame start and strip refresh, the gamma words the drivers hold and the strip memory. The engine: the buffer scanned, whether
the other one holds a complete frame, the composition under way, the band CRCs by buffer × 32 + band, the start of a map read,
whether MAPLOAD has asked for one, its descriptor, and whether a firmware switch makes the next frame repeat the previous one (R538). -/
structure Panel where
  vdd : Bool := false
  vgl : Bool := false
  avdd : Bool := false
  vgh : Bool := false
  bl : Bool := false
  duty : Nat := 0
  rampAt : Nat := 0
  vddAt : Nat := 0
  stepAt : Nat := 0
  owed : Option Bool := none
  pol : Bool := false
  lanes : Nat := 0
  locks : Nat := 0
  trainAt : Nat := 0
  trainFirst : Nat := 0
  hact : Nat := 0xA00
  vact : Nat := 0x640
  linep : Nat := 0x2778
  vtotal : Nat := 0x672
  foff : Nat := 0
  missed : Nat := 0
  failed : Bool := false
  lastFrame : Option Nat := none
  lastStrip : Option Nat := none
  gamma : List W32 := []
  strip : Bytes := []
  front : Option Nat := none
  built : Bool := false
  comp : Option Comp := none
  crcs : SMap Nat := []
  mapAt : Option Nat := none
  mapAgain : Bool := false
  mapDesc : Option Desc := none
  again : Bool := false
  deriving DecidableEq, Repr


/-! ### Chapter 17: DRAM and NAND -/

/-- MEM beside its registers: the wrong symbols of stored codewords by line index (symbol and XOR value), the corrections not yet
committed by subchannel, the line command and the MEM_SCRUB write that wait for the DRAM token, and the instant of the last scrub
visit. -/
structure Dram where
  errs : SMap (List (Nat × Nat)) := []
  wear : SMap Nat := []
  cmd : Option Nat := none
  scrub : Option W32 := none
  visited : Nat := 0
  deriving DecidableEq, Repr

/-- NAND: programmed pages by page address (18,432 bytes; an unlisted page is erased), the TCODE of each region, the regions whose
entry has an uncorrectable error, and the erases not yet committed by channel. -/
structure Nand where
  pages : SMap Bytes := []
  strength : SMap Nat := []
  strBad : List Nat := []
  wear : SMap Nat := []
  deriving DecidableEq, Repr

/-- The last access fault of a Dale core (R419): its cause, the faulting virtual address and whether it was delegated to supervisor mode; and
the vendor CSRs mpcause and spcause, which keep their value until the next poison trap that writes them. -/
structure CoreTrap where
  cause : Nat := 0
  tval : Nat := 0
  deleg : Bool := false
  mpcause : Nat := 0
  spcause : Nat := 0
  deriving DecidableEq, Repr



/-! ### Chapter 18: Terrace and PCI Express -/

/-- A namespace (R440, R443, R459): KIND (1 STREAM), POLICY (0 PIN0, 1 PIN1, 2 HOT), COPIES2, size in extents, WPOS, and, once NSDELETE
has been taken, the commands accepted before it that have not completed. -/
structure Ns where
  present : Bool := false
  kind : Nat := 0
  policy : Nat := 0
  copies2 : Bool := false
  size : Nat := 0
  wpos : Nat := 0
  deleting : Option (List Desc) := none
  deriving DecidableEq, Repr

/-- An extent (R442): STATE, POISALL, the drives and places of its copies (drive 0xFF NAND or none), the poison map, the instant of the
last write, the instant it became DEGRADED, the drive whose copy missed writes (0xFF none), the blocks covered since POISALL, and
whether a move of it was abandoned since its last write. -/
structure Ext where
  st : Nat := 0
  poisAll : Bool := false
  a : Nat := 255
  b : Nat := 255
  la : Nat := 0
  lb : Nat := 0
  pmap : Nat := 0xFFFF
  wrote : Nat := 0
  since : Nat := 0
  stale : Nat := 255
  cover : List Nat := []
  stay : Bool := false
  deriving DecidableEq, Repr

/-- A drive number (R447): the state of the slot's drive, its usable extents, the generation count of the number, what the drive connected in
the slot is (whether it meets R438, its extents, its label), and when its link came up. -/
structure Drive where
  st : Nat := 0
  cap : Nat := 0
  gen : Nat := 1
  seen : Option (Bool × Nat × Option (Nat × Nat × Nat)) := none
  upAt : Nat := 0
  deriving DecidableEq, Repr

/-- A move to tier 1 under way (R445): the extent, the drives it goes to, the passes that found changed blocks, and whether the present
pass has found one. -/
structure Move where
  key : Nat
  dst : List Nat
  passes : Nat := 0
  dirty : Bool := false
  deriving DecidableEq, Repr

/-- A completion sent to an NVMe/TCP host: connection, command identifier, status code type and code, the first dword and the data. -/
structure HostCpl where
  conn : Nat
  cid : Nat
  sct : Nat := 0
  sc : Nat := 0
  dw0 : Nat := 0
  data : Bytes := []
  deriving DecidableEq, Repr

/-- Terrace. Kept on non-volatile media: namespaces, extents (namespace × 2^30 + extent), blocks written and poisoned blocks (namespace ×
2^42 + LBA), drive generations, the tile index (key and record offset), erase counts and retired blocks, the initial spare blocks.
Lost with Canopy: drive states, the move and the evacuation under way, whether it stops, whether SPACE and CAMDROP have been told, a
refresh pass asked for, the lent blocks. The completions sent to hosts, oldest first. -/
structure Terrace where
  nss : SMap Ns := []
  exts : SMap Ext := []
  blocks : SMap Bytes := []
  bad : List Nat := []
  drives : SMap Drive := []
  index : List (Nat × Nat) := []
  erases : SMap Nat := []
  retired : List Nat := []
  spares : Option Nat := none
  move : Option Move := none
  evac : Option Desc := none
  stopping : Bool := false
  spaceTold : Bool := false
  pass : Bool := false
  lent : List Nat := []
  cpls : List HostCpl := []
  deriving DecidableEq, Repr

/-- The PCE block beside its registers: slots switched off by command. -/
structure Pce where
  off : List Nat := []
  deriving DecidableEq, Repr


/-! ### Chapter 19: power -/

/-- A copy of the Root save (R490): whether its CRC-32 holds, the calendar, operating seconds and power-cycle count, the last saved
Sundial time, the anti-rollback counters, the wear store, and the Root registers kept. -/
structure RootSave where
  ok : Bool := false
  cal : Nat := 0
  opsec : Nat := 0
  pwrcyc : Nat := 0
  sdl : Nat := 0
  arb : SMap Nat := []
  wear : SMap Nat := []
  regs : SMap W32 := []
  deriving DecidableEq, Repr

/-- Power, reset and Root beside their registers (R469-R493). `st` is the power state (0 Vault, 1 Root-armed, 2 Doze, 3 Field), `step` the
code of the present step and `stepAt` its start; `turn` the step a reversal has set to follow it (0x20 stands for the Field state and 0 for
the Doze state). `booted` says that this Bed power-up has been counted and logged; `cause` is what the next Bed power-up logs. `held` says that a module reset
holds Bed in reset, `reset` that one is in force, `hot` that it waits for the sensors. `early` holds the durations of steps before
SYS runs. `retries`, `retryAt` and `failed` follow R477; `reqAt` is the last SLEEPREQ or GOSLEEP, `holdAt` the start of the hold window, `sent`
the GOSLEEPs sent, `parts` the controllers that take part; `ignBar` bars IGNOFF timers started at or before it; `bu6At` is the end of BU6,
`under16` whether the input has read 16 V or less since. `coolAt`, `hotAt` and `shedAt` are since when the junction stands below WARN and at
140 °C, and when WAITING began. `wuf` are the wake-up frames the transceivers copied, `canWake` the CAN wakes to report; `tableDue` says that a deferred table waits in the Doze state (R541). The calendar `cal` and
Root's own time `root` count 1/64 ns; `lastOff` is the calendar at the last Bed power-down; `calC`, `sdlC`, `offC` are the copies of one
Root edge. `part` is the part second of operating time in ns; `savedAt` the time of the last save, `wEnd` the end of RTD_WTIMER's
count; `saves` the two copies, newest first; `hourly` and `low` the priority rules of R491, `lowRun` the measurements below VLOW in a row. -/
structure Pwr where
  st : Nat := 0
  step : Nat := 0
  stepAt : Nat := 0
  turn : Option Nat := none
  booted : Bool := false
  cause : Nat := 1
  held : Bool := false
  reset : Bool := false
  rstAs : Nat := 0
  hot : Bool := false
  early : List (Nat × Nat) := []
  retries : Nat := 0
  retryAt : Option Nat := none
  failed : Bool := false
  reqAt : Nat := 0
  holdAt : Nat := 0
  sent : Nat := 0
  parts : List Nat := []
  ignBar : Option Nat := none
  bu6At : Nat := 0
  under16 : Bool := false
  coolAt : Option Nat := none
  hotAt : Option Nat := none
  shedAt : Nat := 0
  wuf : List (Nat × W32 × W32) := []
  canWake : List (Nat × Nat) := []
  tableDue : Bool := false
  cal : Nat := 0
  root : Nat := 0
  lastOff : Nat := 0
  calC : Nat := 0
  sdlC : Nat := 0
  offC : Nat := 0
  part : Nat := 0
  savedAt : Nat := 0
  wEnd : Option Nat := none
  saves : List RootSave := []
  hourly : Bool := false
  low : Bool := false
  lowRun : Nat := 0
  deriving DecidableEq, Repr


/-! ### Chapter 20: health -/

/-- A targeted self-test queued (R496): its resource, the instant it was triggered, and the TEST descriptors that asked for it. -/
structure TestReq where
  res : Nat
  since : Nat
  descs : List Desc := []
  deriving DecidableEq, Repr

/-- A handover that waits (R507, R508): fault or planned, its cause, the Dale it leaves, the instant of detection or of ARMED (0 while not
armed), the instant of step 1 (none while it waits for the token), the earliest switch, the HANDOVER descriptor, and the owner of its token. -/
structure Handover where
  fault : Bool
  cause : Nat
  src : Nat
  det : Nat := 0
  since : Option Nat := none
  at0 : Nat := 0
  desc : Option Desc := none
  owner : Nat := 6
  deriving DecidableEq, Repr

/-- The health unit beside its registers: queued tests, oldest first; passes by resource and instant within the last hour; the last heartbeat
of each Dale; the handover that waits; when CARRY became NONE, and whether a restart has been ordered since; the sides written of each
comparison channel (1 A, 2 B); the mirrors in force (region, source base, other base, size), lines mirrored by region beyond whole thousands, and
the end of the last mirror copy; TOKTAKEs that wait (class, owner, descriptor); lasting registers by block, spare words used by Bed
memory, retired units by engine, engines stopped, and the switches since Bed power-up (HOSEQ, R509). -/
structure Health where
  tests : List TestReq := []
  passes : List (Nat × Nat) := []
  hb : SMap Nat := []
  hand : Option Handover := none
  noneSince : Option Nat := none
  ordered : Bool := false
  half : SMap Nat := []
  mirrors : List (Fin 16 × Nat × Nat × Nat) := []
  mirLines : SMap Nat := []
  syncEnd : Nat := 0
  takes : List (Nat × Nat × Desc) := []
  lostRegs : SMap Nat := []
  spareWords : SMap Nat := []
  units : SMap Nat := []
  engOff : List Nat := []
  switches : Nat := 0
  deriving DecidableEq, Repr


/-! ### Chapter 21: updating -/

/-- A slot of a unit (R520, R521): state (0 EMPTY, 1 STAGED, 2 PROBATION, 3 CONFIRMED, 4 FAILED, 5 STALE), VERSION, CFGVER, the SHA-384 of
its image and the image. -/
structure Slot where
  st : Nat := 0
  ver : Nat := 0
  cfgver : Nat := 0
  digest : Nat := 0
  data : Bytes := []
  deriving DecidableEq, Repr

/-- A configuration record (R542): whether it is valid, CFGVER, SEQ and its body. -/
structure CfgRec where
  ok : Bool := false
  cfgver : Nat := 0
  seq : Nat := 0
  body : Bytes := []
  deriving DecidableEq, Repr

/-- An item of a package (R525), and whether it is SKIPPED. -/
structure PkgItem where
  kind : Nat
  unit : Nat
  order : Nat
  flags : Nat
  ver : Nat
  win : Nat
  cfgver : Nat
  data : Bytes
  skip : Bool := false
  deriving DecidableEq, Repr

/-- A requirement (R526). -/
structure PkgReq where
  unit : Nat
  before : Nat
  minver : Nat
  maxver : Nat
  deriving DecidableEq, Repr

/-- A package staged (R524): identity, version, the key slots it revokes, its items by index and its requirements. -/
structure Package where
  id : Nat
  ver : Nat
  revoke : Nat
  items : List PkgItem
  reqs : List PkgReq
  deriving DecidableEq, Repr

/-- An APPLY that runs (R528): its descriptor, the Bed store address it names, the index of the item and the stage it has reached, the items
confirmed, the ABORTs that wait, and the ICs of the item that fail. Stages: 0 not started, 1 waits for its token, 2 the standing Dale runs
the new image, 3 the handover has been asked for, 4 it carries, 5 the other Dale runs the new image, 6 on probation, 7 PROGLOAD given, 8
PROGACT given, 9 output ICs switch one at a time, 10 Bed firmware waits for a boundary of the Furrow cycle. -/
structure UpdRun where
  desc : Desc
  area : Nat
  item : Nat
  stage : Nat := 0
  done : Nat := 0
  aborts : List Desc := []
  icFail : List Nat := []
  deriving DecidableEq, Repr

/-- UPD beside its registers: the boot and the image store (slots by 2 × unit + slot, configuration records likewise, the slot each unit runs,
fall-backs and operating seconds at the last confirmation by unit, the newest fail-safe table deferred), the anti-rollback counters in Root, the
key slots present, revoked and their fused hashes, the package staged, the APPLY that runs, the probations by unit (start and window in ns), and the
ring 30 entry UPD waits for, and the units whose confirmation waits for a Root save. -/
structure Upd where
  slots : SMap Slot := []
  cfg : SMap CfgRec := []
  act : SMap Nat := []
  falls : SMap Nat := []
  opsec : SMap Nat := []
  table : Option Bytes := none
  arb : SMap Nat := []
  present : Nat := 0xF
  revoked : Nat := 0
  keys : SMap Nat := []
  pkg : Option Package := none
  run : Option UpdRun := none
  prob : List (Nat × Nat × Nat) := []
  furIdx : Option Nat := none
  unsaved : List Nat := []
  deriving DecidableEq, Repr



/-! ### The state -/

/-- The state of the block. -/
structure State where
  /-- The ordering code, fused at manufacture (R3). -/
  code : Code := .f
  /-- SYS_MODID.HWREV, fused (R4). -/
  hwrev : Nat := 0
  /-- Whether the Root, Bed and Canopy domains are powered (R11, R12). -/
  rootOn : Bool := true
  bedOn : Bool := false
  canopyOn : Bool := false
  /-- Sundial time in ns, a multiple of 8 (R49). -/
  now : Nat := 0
  /-- The registers that do not hold their reset value. -/
  regs : SMap W32 := []
  /-- Root registers (the copies stand in `regs`, R75), where they differ from the reset value. -/
  rootRegs : SMap W32 := []
  /-- The posting latches that await commit (R76). -/
  latches : List Latch := []
  /-- Counters wider than 32 bits, by the key of their _LO register (R71). -/
  wide : SMap Nat := []
  /-- The banked registers of the agents, by bank and key (R73, R555, R557). -/
  banks : SMap W32 := []
  /-- The keys of registers whose hidden parity bit mismatches (R80). -/
  badParity : List Nat := []
  /-- Memory (R32). -/
  mem : Memory := {}
  /-- The answer to the last access. -/
  resp : Resp := .none
  /-- The interrupts raised, oldest first. -/
  irqs : List Irq := []
  /-- The model's own counter of free values (notes/assumptions/2.md). -/
  free : Nat := 0
  fab : Fab := {}
  bridge : Bridge := {}
  /-- The rings (R86). -/
  rings : SMap Ring := []
  /-- The staging words of the mailbox agents, by agent ID (R107). -/
  mbxStage : SMap W32 := []
  /-- The mailbox agents held in reset (R108, R112). -/
  held : List Nat := []
  /-- Abort interrupts owed to senders in reset or powered down: agent ID and mailbox (R112). -/
  mbxOwed : List (Nat × Nat) := []
  evr : Evr := {}
  tim : Timing := {}
  /-- The maintenance tokens by class (R511). -/
  toks : SMap Token := []
  ing : Ingest := {}
  cam : Camera := {}
  pra : Prairie := {}
  prod : Products := {}
  gns : Gnss := {}
  trl : Trellis := {}
  fur : Furrow := {}
  vlv : Valves := {}
  lsw : Switches := {}
  outs : Outs := {}
  can : Cans := {}
  eth : Eth := {}
  pan : Panel := {}
  dram : Dram := {}
  nand : Nand := {}
  traps : SMap CoreTrap := []
  ter : Terrace := {}
  pce : Pce := {}
  pwr : Pwr := {}
  hlt : Health := {}
  upd : Upd := {}
  /-- The waiting commands, first in, first out. -/
  pending : List Instr := []
  deriving DecidableEq, Repr

/-- The state after reset: Root power-on complete, Bed and Canopy not powered, every register at its reset value, memory with
nothing listed, no command waiting (R492). The module's choices are DESIGN CHOICE of notes/assumptions/3.md: the ordering code fused is F and the
hardware revision 0 (R4 gives neither), and registers the spec gives no reset value for hold 0. -/
def State.reset : State := {}

end Sys2Proof.Machine
end

