-- ==== Sys2Proof/Machine/Registers.lean ====
section
/-! DEFINITION. Reading and writing registers and their fields: reset values, the decoding of an address into a block and a
register with its aliases and holes (R62-R66), units the ordering code does not carry (R5), who may write what (R70), and
the write and read effects of the access codes (R10, R578). -/

namespace Sys2Proof.Machine

/-! ### Fields of a word -/

/-- The field `[hi:lo]` of a register word. -/
def getBits (w : W32) (hi lo : Nat) : Nat := (w.toNat >>> lo) % 2 ^ (hi + 1 - lo)

/-- The mask of the field `[hi:lo]`. -/
def fieldMask (hi lo : Nat) : W32 := BitVec.ofNat 32 ((2 ^ (hi + 1 - lo) - 1) <<< lo)

/-- The word with the field `[hi:lo]` set to `v`, cut to the field's width. -/
def setBits (w : W32) (hi lo v : Nat) : W32 :=
  (w &&& ~~~ fieldMask hi lo) ||| BitVec.ofNat 32 ((v % 2 ^ (hi + 1 - lo)) <<< lo)

/-! ### Reset values -/

/-- The index of the register array entry `key` lies in, if `key` is entry `i` of an array at `base`. -/
def arrayIdx (key base stride count : Nat) : Option Nat :=
  if base ≤ key ∧ (key - base) % stride = 0 ∧ (key - base) / stride < count then some ((key - base) / stride) else none

/-- Find the description of the register at `off` among `rs`. -/
def descMatch (off : Nat) (d : RegDesc) : Bool :=
  match d.dims with
  | [] => decide (off = d.off)
  | [(s1, n1)] => (arrayIdx off d.off s1 n1).isSome
  | (s1, n1) :: (s2, n2) :: _ =>
    decide (d.off ≤ off) && decide ((off - d.off) / s1 < n1) && decide ((off - d.off) % s1 / s2 < n2) &&
      decide ((off - d.off) % s1 % s2 = 0)

/-- The register at offset `off` of block `blk`; none for a hole (R66). -/
def findReg (blk off : Nat) : Option RegDesc := (blockRegs blk).find? (descMatch off)

/-- The reset word of a description. -/
def RegDesc.resetWord (d : RegDesc) : W32 :=
  d.fields.foldl (fun w f => setBits w f.hi f.lo f.reset) 0

/-- The credit table's reset reserve and limit (R27). -/
def credReset : List (Nat × Nat) :=
  [(256, 4096), (256, 4096), (1024, 6144), (512, 2048), (256, 2048), (128, 512), (512, 4096), (256, 2048),
   (512, 4096), (512, 4096), (64, 256), (512, 1024), (64, 256), (64, 512), (64, 1024), (32, 256)]

/-- One of three values by ordering code. -/
def Code.pick {α : Type} (c : Code) (f h l : α) : α :=
  match c with
  | .f => f
  | .h => h
  | .l => l

/-- The load-switch class of channel n (R331): 0 the 10 A class, 1 the 5 A class, 2 the 2 A class. -/
def lswClass (n : Nat) : Nat := if n < 16 then 0 else if n < 48 then 1 else 2

/-- Reset words that depend on the ordering code or on the index of the register (R4, R27, R30, R143, R183, R331, R559 and the
maps of the blocks concerned); none where the table of registers gives the word. -/
def specialReset (code : Code) (hwrev key : Nat) : Option W32 :=
  if key = Reg.SYS_MODID then
    some (BitVec.ofNat 32 (0x94000000 + code.pick 1 2 3 * 0x100000 + hwrev % 16 * 0x10000))
  else if key = Reg.FAB_SHARED then some (BitVec.ofNat 32 (code.pick (5024 * 65536 + 3168) (5024 * 65536 + 3168) (4512 * 65536 + 3680)))
  else if key = Reg.CAM_BUDGET then some (BitVec.ofNat 32 (code.pick 3600 2400 1200 * 65536))
  else if key = Reg.CAM_ENCBUDGET then some (BitVec.ofNat 32 (code.pick 2000 1400 700 * 65536))
  else if key = Reg.PRA_GPERIOD then some (BitVec.ofNat 32 (code.pick 0x32 0x32 0x64))
  else if key = Reg.PRA_AGEBOUND then some (BitVec.ofNat 32 (code.pick 0x352 0x3D4 0x3D4))
  else if key = Reg.TRL_LOOPS then some (BitVec.ofNat 32 (code.pick 0x40 0x40 0x20))
  else if key = Reg.MEM_SIZE then some (BitVec.ofNat 32 (code.pick 0x08000080 0x04000040 0x02000020))
  else if key = Reg.NFL_GEOM then some (BitVec.ofNat 32 (code.pick 0x88200000 0x88200000 0x48200000))
  else if key = Reg.TER_CAPLIM then some (BitVec.ofNat 32 (code.pick 0x40000000 0x40000000 0x000E0000))
  else if (arrayIdx key (Reg.FAB_CREDn 0) 4 16).isSome then
    let n := (key - Reg.FAB_CREDn 0) / 4
    let c := credReset.getD n (0, 0)
    some (BitVec.ofNat 32 (if n = 8 ∧ code = .l then 0 else c.1 * 65536 + c.2))
  else if (arrayIdx key (Reg.NFL_CHc_STAT 0) 0x40 8).isSome then
    let c := (key - Reg.NFL_CHc_STAT 0) / 0x40
    some (BitVec.ofNat 32 (if c < code.pick 8 8 4 then 0x80000000 else 0))
  else if (arrayIdx key (Reg.LSW_CHn_LIM 0) 0x10 64).isSome then
    let k := lswClass ((key - Reg.LSW_CHn_LIM 0) / 0x10)
    some (BitVec.ofNat 32 (if k = 0 then 1000 * 0x100000 + 0x00A * 0x400 + 0x1F4
      else if k = 1 then 500 * 0x100000 + 0x005 * 0x400 + 0x0FA else 200 * 0x100000 + 0x002 * 0x400 + 0x064))
  else if (arrayIdx key (Reg.DSP_SPALk 0) 4 8).isSome then
    some (if key = Reg.DSP_SPALk 0 then 0 else 0x3FFFFFFF)
  else if (arrayIdx key (Reg.EVR_BKTs 0) 4 16).isSome then
    let s := (key - Reg.EVR_BKTs 0) / 4
    some (BitVec.ofNat 32 ((if s < 4 then 4 else if s < 8 then 8 else if s < 12 then 16 else 0) * 0x1000000 +
      (if s < 8 then 0x3E8 else 0x64)))
  else none

/-- The reset word of the register at `key` (block × 0x1000 + offset). ONOL of LSW_CHn_CTL resets to 1 on JX-940-F only (R340). -/
def regReset (code : Code) (hwrev key : Nat) : W32 :=
  match specialReset code hwrev key with
  | some w => w
  | none =>
    match findReg (key / 0x1000) (key % 0x1000) with
    | some d =>
      if (arrayIdx key (Reg.LSW_CHn_CTL 0) 0x10 64).isSome ∧ code = .f then
        setBits d.resetWord 23 23 1
      else d.resetWord
    | none => 0

/-! ### The registers of a state -/

/-- The word of the register at `key`. -/
def State.reg (s : State) (key : Nat) : W32 := SMap.get (regReset s.code s.hwrev) s.regs key

/-- The state with the register at `key` holding `w`. -/
def State.setReg (s : State) (key : Nat) (w : W32) : State :=
  { s with regs := SMap.set (regReset s.code s.hwrev) s.regs key w }

/-- The value of a field. -/
def State.rd (s : State) (f : Fld) : Nat := getBits (s.reg f.addr) f.hi f.lo

/-- The state with a field holding `v`, cut to the field's width. -/
def State.wr (s : State) (f : Fld) (v : Nat) : State := s.setReg f.addr (setBits (s.reg f.addr) f.hi f.lo v)

/-- Whether a one-bit field is 1. -/
def State.on (s : State) (f : Fld) : Bool := decide (s.rd f = 1)

/-- A one-bit field set to a truth value. -/
def State.wrB (s : State) (f : Fld) (b : Bool) : State := s.wr f (if b then 1 else 0)

/-- The width of a field. -/
def Fld.width (f : Fld) : Nat := f.hi + 1 - f.lo

/-- A saturating counter field advanced by `n`. -/
def State.incBy (s : State) (f : Fld) (n : Nat) : State := s.wr f (satAdd f.width (s.rd f) n)

/-- A saturating counter field advanced by one. -/
def State.inc (s : State) (f : Fld) : State := s.incBy f 1

/-- A field set to `v`, saturating at the field's largest value. -/
def State.wrSat (s : State) (f : Fld) (v : Nat) : State := s.wr f (min v (maxOf f.width))

/-- A peak field raised to `v` where `v` is larger, saturating. -/
def State.peak (s : State) (f : Fld) (v : Nat) : State :=
  s.wr f (max (s.rd f) (min v (maxOf f.width)))

/-- The last value of a measured quantity and its peak. -/
def State.measured (s : State) (last peakF : Fld) (v : Nat) : State := (s.wrSat last v).peak peakF v

/-- The register at `key` returned to its reset word. -/
def State.resetReg (s : State) (key : Nat) : State := s.setReg key (regReset s.code s.hwrev key)

/-- Every register whose key satisfies `p` returned to its reset word. -/
def State.resetRegs (s : State) (p : Nat → Bool) : State :=
  { s with regs := SMap.keep (fun k => !p k) s.regs }

/-- A counter wider than 32 bits, by the key of its _LO register. -/
def State.wideGet (s : State) (key : Nat) : Nat := SMap.get (fun _ => 0) s.wide key

/-- A wide counter set. -/
def State.wideSet (s : State) (key v : Nat) : State := { s with wide := SMap.set (fun _ => 0) s.wide key v }

/-- A 64-bit counter advanced by `n`, saturating (R71). -/
def State.wideAdd (s : State) (key n : Nat) : State := s.wideSet key (satAdd 64 (s.wideGet key) n)

/-- The key of register `key` in bank `b` (R73). -/
def bankKey (b key : Nat) : Nat := b * 0x100000 + key

/-- A banked register of bank `b`; the banks reset to zero. -/
def State.bankReg (s : State) (b key : Nat) : W32 := SMap.get (fun _ => 0) s.banks (bankKey b key)

/-- A banked register set. -/
def State.setBank (s : State) (b key : Nat) (w : W32) : State :=
  { s with banks := SMap.set (fun _ => 0) s.banks (bankKey b key) w }

/-! ### Addresses (R62-R66) -/

/-- The first address of register space (R32). -/
def regSpace : Nat := 0xFE00000000

/-- The decoded offset within a block (R65): the bits its map says it decodes. -/
def decodeOff (blk off : Nat) : Nat :=
  match blk with
  | 0x00 => off &&& 0x3FC
  | 0x01 => off &&& 0x1FC
  | 0x02 => off &&& 0x0FC
  | 0x04 => off &&& 0x0FC
  | 0x05 => off &&& 0x3FC
  | 0x07 => off &&& 0x7FC
  | 0x08 => off &&& 0x7FC
  | 0x0A => off &&& 0x3FC
  | 0x0E => off &&& 0x03C
  | 0x10 => if off &&& 0x300 = 0 then off &&& 0x01C else off &&& 0x33C
  | 0x13 => off &&& 0x3FC
  | 0x14 => off &&& 0x3FC
  | 0x19 => off &&& 0x3FC
  | _ => off &&& 0xFFC

/-- Whether block number `blk` is assigned (R64, R85). -/
def assigned (blk : Nat) : Bool := decide (blk ≤ 0x19) && decide (blk ≠ 0x0F)

/-- Whether a block lies in the Bed domain or, for RTD, in Root with its copies on the Bed side (R11, R85). -/
def bedBlock (blk : Nat) : Bool := decide (blk < 0x0F)

/-- Whether the domain that answers for a block is powered (R13). -/
def State.blockOn (s : State) (blk : Nat) : Bool := if bedBlock blk then s.bedOn else s.canopyOn

/-! ### Units the ordering code does not carry (R2, R5) -/

/-- An array of registers some of whose entries a code does not carry: block, first offset, stride, count, and the index
ranges absent on JX-940-H and JX-940-L. -/
structure AbsentArr where
  blk : Nat
  base : Nat
  stride : Nat
  span : Nat
  count : Nat
  absH : List (Nat × Nat)
  absL : List (Nat × Nat)
  deriving DecidableEq, Repr

/-- The absent units of the codes, from the comparison table of R2 and the chapters that restate it. -/
def absentArrays : List AbsentArr := [
  ⟨0x08, 0x038, 4, 4, 8, [], [(4, 7)]⟩,
  ⟨0x08, 0x100, 4, 4, 48, [(32, 47)], [(24, 47)]⟩,
  ⟨0x08, 0x1C0, 4, 4, 8, [], [(4, 7)]⟩,
  ⟨0x08, 0x1E0, 4, 4, 8, [], [(4, 7)]⟩,
  ⟨0x08, 0x200, 4, 4, 32, [(24, 31)], [(16, 31)]⟩,
  ⟨0x08, 0x280, 4, 4, 8, [(6, 7)], [(4, 7)]⟩,
  ⟨0x08, 0x2A0, 4, 4, 8, [(6, 7)], [(4, 7)]⟩,
  ⟨0x08, 0x400, 4, 4, 112, [(32, 47), (88, 95), (110, 111)], [(24, 47), (52, 55), (60, 63), (80, 95), (108, 111)]⟩,
  ⟨0x08, 0x600, 4, 4, 112, [(32, 47), (88, 95), (110, 111)], [(24, 47), (52, 55), (60, 63), (80, 95), (108, 111)]⟩,
  ⟨0x09, 0x800, 0x20, 0x20, 64, [], [(32, 63)]⟩,
  ⟨0x0B, 0x080, 8, 8, 12, [(8, 11)], [(4, 11)]⟩,
  ⟨0x0B, 0x100, 8, 8, 6, [(4, 5)], [(2, 5)]⟩,
  ⟨0x0B, 0x400, 0x40, 0x40, 48, [(32, 47)], [(16, 47)]⟩,
  ⟨0x0C, 0x060, 8, 8, 8, [(1, 1), (5, 5)], [(1, 1), (4, 5), (7, 7)]⟩,
  ⟨0x0C, 0x100, 0x10, 0x10, 64, [(8, 15), (36, 47), (60, 63)], [(4, 15), (28, 47), (56, 63)]⟩,
  ⟨0x0C, 0x800, 8, 8, 64, [(8, 15), (36, 47), (60, 63)], [(4, 15), (28, 47), (56, 63)]⟩,
  ⟨0x0D, 0x100, 0x40, 0x40, 8, [(6, 7)], [(4, 7)]⟩,
  ⟨0x06, 0x400, 0x10, 0x10, 112, [(54, 55)], [(52, 55), (110, 111)]⟩,
  ⟨0x07, 0x100, 0x10, 0x10, 64, [], [(56, 63)]⟩,
  ⟨0x10, 0x100, 4, 4, 16, [], [(8, 8)]⟩,
  ⟨0x11, 0x100, 0x40, 0x40, 8, [(4, 7)], [(2, 7)]⟩,
  ⟨0x12, 0x100, 0x40, 0x40, 8, [], [(4, 7)]⟩,
  ⟨0x13, 0x100, 0x10, 0x10, 32, [], [(0, 31)]⟩,
  ⟨0x15, 0x100, 0x40, 0x40, 7, [], [(2, 3), (5, 5)]⟩,
  ⟨0x15, 0x900, 0x10, 0x10, 4, [(2, 3)], [(1, 3)]⟩,
  ⟨0x16, 0x080, 0x40, 0x40, 2, [], [(1, 1)]⟩,
  ⟨0x16, 0x400, 4, 4, 192, [], [(96, 191)]⟩,
  ⟨0x17, 0x100, 0x40, 0x40, 12, [(8, 11)], [(4, 11)]⟩,
  ⟨0x17, 0x400, 0x10, 0x10, 12, [(8, 11)], [(4, 11)]⟩,
  ⟨0x18, 0x100, 0x40, 0x40, 16, [(8, 11), (14, 15)], [(4, 11), (13, 15)]⟩]

/-- Whether index `i` lies in one of the ranges. -/
def inRanges (i : Nat) (rs : List (Nat × Nat)) : Bool := rs.any (fun r => decide (r.1 ≤ i) && decide (i ≤ r.2))

/-- Whether the register at `off` of block `blk` belongs to a unit the code does not carry (R5). -/
def absentReg (code : Code) (blk off : Nat) : Bool :=
  match code with
  | .f => false
  | _ =>
    (decide (code = .l) && decide (blk = 0x14)) ||
    absentArrays.any (fun a => decide (a.blk = blk) && decide (a.base ≤ off) && decide (off < a.base + a.stride * a.count) &&
      decide ((off - a.base) % a.stride < a.span) &&
      inRanges ((off - a.base) / a.stride) (code.pick [] a.absH a.absL))

/-! ### Who may write (R70) -/

/-- Which Dale carries: HLT_ROLE.CARRY (0 Dale A, 1 Dale B, 2 NONE). -/
def State.carrier (s : State) : Option Agent :=
  match s.rd F.HLT_ROLE_CARRY with
  | 0 => some .daleA
  | 1 => some .daleB
  | _ => none

/-- The snapshot register of a block, where it has one (R72). -/
def snapKey (blk : Nat) : Option Nat :=
  match blk with
  | 0x01 => some Reg.SDL_SNAP
  | 0x02 => some Reg.RTD_SNAP
  | 0x03 => some Reg.HLT_SNAP
  | 0x04 => some Reg.EVR_SNAP
  | 0x06 => some Reg.RNG_SNAP
  | 0x08 => some Reg.ING_SNAP
  | 0x09 => some Reg.TRL_SNAP
  | 0x0A => some Reg.FUR_SNAP
  | 0x0B => some Reg.VLV_SNAP
  | 0x0C => some Reg.LSW_SNAP
  | 0x0D => some Reg.CAN_SNAP
  | 0x10 => some Reg.FAB_SNAP
  | 0x11 => some Reg.MEM_SNAP
  | 0x12 => some Reg.NFL_SNAP
  | 0x13 => some Reg.TER_SNAP
  | 0x15 => some Reg.ETH_SNAP
  | 0x16 => some Reg.GNS_SNAP
  | 0x17 => some Reg.CAM_SNAP
  | 0x18 => some Reg.PRA_SNAP
  | 0x19 => some Reg.DSP_SNAP
  | _ => none

/-- The holding-register bank of an agent (R73). -/
def agentBank : Agent → Option Nat
  | .daleA => some 0
  | .daleB => some 1
  | .trellisSeq => some 2
  | .furrowRt => some 3
  | .scarecrow => some 4
  | .terrace => some 5
  | .gnss => some 6
  | .pcie => some 7
  | .svc => some 7
  | _ => none

/-- The mailbox agent ID (R105). -/
def agentMbx : Agent → Option Nat
  | .daleA => some 0
  | .daleB => some 1
  | .trellisSeq => some 2
  | .furrowRt => some 3
  | .terrace => some 4
  | .gnss => some 5
  | .scarecrow => some 6
  | .pcie => some 7
  | _ => none

/-- The confirming agent of an update unit (R519): whether `a` confirms unit `u`. -/
def State.confirms (s : State) (a : Agent) (u : Nat) : Bool :=
  match u with
  | 0 => decide (a = .daleA)
  | 1 => decide (a = .daleB)
  | 2 => decide (a = .trellisSeq)
  | 3 => decide (a = .gnss)
  | 4 => decide (a = .terrace)
  | 5 => decide (a = .dspFw)
  | 6 => decide (a = .updEngine)
  | 7 => decide (a = .updEngine)
  | 8 => decide (s.carrier = some a)
  | _ => false

/-- Whether a write by `a` to the register at `off` of block `blk` is admitted (R70 and the exceptions of R106, R500, R555,
R531). R500's list is read as closed: HLT_DALEn_CTL, HLT_DALEn_HB and HLT_CMPk accept the writers it names and no other (DEDUCED,
notes/assumptions/16.md). -/
def State.admits (s : State) (a : Agent) (blk off : Nat) : Bool :=
  let key := blk * 0x1000 + off
  if blk = 0x07 then (agentMbx a).isSome
  else
    ((agentBank a).isSome && decide (snapKey blk = some key)) ||
    ((agentBank a).isSome && (decide (key = Reg.EVR_RDPOS_LO) || decide (key = Reg.EVR_RDPOS_HI) || decide (key = Reg.EVR_RDCMD))) ||
    ((agentBank a).isSome && (decide (key = Reg.EVR_SWREC) ||
      decide (Reg.EVR_SWPk_LO 0 ≤ key ∧ key < Reg.EVR_SWPk_LO 0 + 0x18))) ||
    decide (key = Reg.UPD_CONFIRM) ||
    (if decide (key = Reg.HLT_DALEn_CTL 0) || decide (key = Reg.HLT_DALEn_HB 0) then decide (a = .daleA) || decide (a = .scarecrow)
     else if decide (key = Reg.HLT_DALEn_CTL 1) || decide (key = Reg.HLT_DALEn_HB 1) then decide (a = .daleB) || decide (a = .scarecrow)
     else if (arrayIdx key (Reg.HLT_CMPk_A 0) 8 16).isSome then decide (a = .daleA)
     else if (arrayIdx key (Reg.HLT_CMPk_B 0) 8 16).isSome then decide (a = .daleB)
     else if bedBlock blk then
       match a with
       | .daleA => decide (s.carrier = some .daleA)
       | .daleB => decide (s.carrier = some .daleB)
       | .trellisSeq => true
       | .furrowRt => true
       | .scarecrow => true
       | .svc => true
       | .terrace => [68, 69, 95, 98, 99, 107].any (fun q => decide (key = Reg.RNG_QnDB q))
       | .updEngine => decide (key = Reg.RNG_QnDB 30)
       | _ => false
     else
       match a with
       | .daleA => true
       | .daleB => true
       | .svc => true
       | .terrace => decide (blk = 0x13) || decide (key = Reg.CAM_BSRPOS) || decide (key = Reg.PRA_YLDRPOS)
       | .gnss => decide (blk = 0x16)
       | .dspFw => decide (blk = 0x19)
       | _ => false)

/-! ### The effect of a write and of a read on the fields (R10, R578) -/

/-- Whether an encoding is listed. -/
def Enc.ok (e : Enc) (v : Nat) : Bool :=
  match e with
  | .any => true
  | .rng lo hi => decide (lo ≤ v) && decide (v ≤ hi)
  | .zeroOr lo hi => decide (v = 0) || (decide (lo ≤ v) && decide (v ≤ hi))

/-- Whether every written field of `v` has a listed encoding (R10). -/
def RegDesc.listed (d : RegDesc) (v : W32) : Bool :=
  d.fields.all (fun f => match f.acc with
    | .rw => f.enc.ok (getBits v f.hi f.lo)
    | .rwp => f.enc.ok (getBits v f.hi f.lo)
    | _ => true)

/-- The word a register holds after `v` is written over `old`, field by field. -/
def RegDesc.written (d : RegDesc) (old v : W32) : W32 :=
  d.fields.foldl (fun w f => match f.acc with
    | .rw => setBits w f.hi f.lo (getBits v f.hi f.lo)
    | .rwp => setBits w f.hi f.lo (getBits v f.hi f.lo)
    | .w1c => setBits w f.hi f.lo (getBits (old &&& ~~~ v) f.hi f.lo)
    | .w1s => setBits w f.hi f.lo (getBits (old ||| v) f.hi f.lo)
    | _ => w) old

/-- The word as an access reads it: WO fields read 0. -/
def RegDesc.visible (d : RegDesc) (w : W32) : W32 :=
  d.fields.foldl (fun w f => match f.acc with
    | .wo => setBits w f.hi f.lo 0
    | _ => w) w

/-- The word after a read: RC fields restart from the neighbouring field that reports the present value, or from 0 (R578). -/
def RegDesc.afterRead (d : RegDesc) (w : W32) : W32 :=
  d.fields.foldl (fun x f => match f.acc with
    | .rc => setBits x f.hi f.lo (match f.present with
      | some (hi, lo) => getBits w hi lo
      | none => 0)
    | _ => x) w

/-- Whether a register holds an RWP field, and so a hidden parity bit (R80). -/
def RegDesc.protectedReg (d : RegDesc) : Bool := d.fields.any (fun f => decide (f.acc = .rwp))

end Sys2Proof.Machine
end

