-- ==== Sys2Proof/Machine/Flags.lean ====
section
/-! DEFINITION. What an event leaves behind beside its own registers: free values, interrupts, status flags with their
interrupt enables, and the event recorder (R546-R556). -/

namespace Sys2Proof.Machine

/-! ### Free values -/

/-- The next free value (notes/assumptions/2.md). -/
def State.freshNat (s : State) : Nat := Config.freeNat s.free

/-- The state after a free value is used. -/
def State.tickFree (s : State) : State := { s with free := s.free + 1 }

/-! ### Interrupts (R503) -/

/-- An interrupt raised. -/
def State.irq (s : State) (d : Dest) (src : IrqSrc) : State := { s with irqs := s.irqs ++ [⟨d, src⟩] }

/-- Where an interrupt to the carrying Dale goes; it stays pending while no Dale carries (R503). -/
def State.carryDest (s : State) : Dest :=
  match s.carrier with
  | some a => .agent a
  | none => .noDale

/-- An interrupt to the carrying Dale. -/
def State.irqCarry (s : State) (src : IrqSrc) : State := s.irq s.carryDest src

/-- An interrupt to Scarecrow. -/
def State.irqScare (s : State) (src : IrqSrc) : State := s.irq (.agent .scarecrow) src

/-- An interrupt to the carrying Dale and to Scarecrow. -/
def State.irqBoth (s : State) (src : IrqSrc) : State := (s.irqCarry src).irqScare src

/-- A four-valued destination field: 0 carrying Dale, 1 Trellis sequencer, 2 Furrow runtime, 3 Scarecrow (R59, R88). -/
def State.destOf (s : State) (d : Nat) : Dest :=
  match d with
  | 0 => s.carryDest
  | 1 => .agent .trellisSeq
  | 2 => .agent .furrowRt
  | 3 => .agent .scarecrow
  | _ => s.carryDest

/-- A status bit's interrupt to the carrying Dale and Scarecrow, if its enable is 1. -/
def State.notify (s : State) (stat ie : Fld) : State :=
  if s.on ie then s.irqBoth (.status stat.addr stat.lo) else s

/-- A status bit's interrupt to the carrying Dale alone, if its enable is 1. -/
def State.notifyDale (s : State) (stat ie : Fld) : State :=
  if s.on ie then s.irqCarry (.status stat.addr stat.lo) else s

/-- A status bit set, with its interrupt to the carrying Dale and Scarecrow. -/
def State.flag (s : State) (stat ie : Fld) : State := (s.wr stat 1).notify stat ie

/-- A status bit set, with its interrupt to the carrying Dale alone. -/
def State.flagDale (s : State) (stat ie : Fld) : State := (s.wr stat 1).notifyDale stat ie

/-! ### Root registers: true values (R75) -/

/-- The true value of a Root register. -/
def State.rootReg (s : State) (key : Nat) : W32 := SMap.get (regReset s.code s.hwrev) s.rootRegs key

/-- A Root register set by the module itself. -/
def State.setRoot (s : State) (key : Nat) (w : W32) : State :=
  { s with rootRegs := SMap.set (regReset s.code s.hwrev) s.rootRegs key w }

/-- A field of a Root register. -/
def State.rootRd (s : State) (f : Fld) : Nat := getBits (s.rootReg f.addr) f.hi f.lo

/-- A field of a Root register set. -/
def State.rootWr (s : State) (f : Fld) (v : Nat) : State := s.setRoot f.addr (setBits (s.rootReg f.addr) f.hi f.lo v)

/-- Whether a one-bit field of a Root register is 1. -/
def State.rootBit (s : State) (f : Fld) : Bool := decide (s.rootRd f = 1)

/-! ### The event recorder -/

/-- Slots of the store (R546). -/
def evrSlots : Nat := 131072

/-- Severities of the module's records (R550). -/
def sevInfo : Nat := 0x2
def sevWarning : Nat := 0x6
def sevFault : Nat := 0xA
def sevSafety : Nat := 0xD

/-- The event-record time fragment (R61); 0xFF_FFFF when Sundial does not run (R546). -/
def State.fragment (s : State) : Nat := if s.bedOn then s.now % 1000000000 / 64 else 0xFFFFFF

/-- A record with the stamps of this instant (R547). -/
def State.stamp (s : State) (code sev p0 p1 p2 : Nat) (clamp software : Bool) : Rec :=
  { code := code, sev := sev, clamp := clamp, root := !s.bedOn, opsec := (s.rootReg Reg.RTD_OPSEC).toNat,
    pwrcyc := (s.rootReg Reg.RTD_PWRCYC).toNat, frag := s.fragment, p0 := p0 % 2 ^ 36, p1 := p1 % 2 ^ 36,
    p2 := p2 % 2 ^ 36, supp := 0, software := software, time := s.now }

/-- The queue's occupancy registers brought up to date. -/
def State.evrQueueRegs (s : State) : State :=
  (s.wr F.EVR_QUEUE_NOW s.evr.queue.length).peak F.EVR_QUEUE_PEAK s.evr.queue.length

/-- Whether queued record `q` stays ahead of a new record `r`: a later stamp, or at one instant a higher source or a
software commit, goes behind (R551, R555). -/
def queueAhead (r q : Rec) : Bool :=
  decide (q.time < r.time) ||
    (if r.software then true else !q.software && decide (q.code / 256 ≤ r.code / 256))

/-- The queue with `r` in its place. -/
def queueInsert (r : Rec) (q : List Rec) : List Rec :=
  q.filter (queueAhead r) ++ [r] ++ q.filter (fun x => !queueAhead r x)

/-- The newest record of severity below `sev` taken out; none where there is none. The list is newest first. -/
def dropNewestBelow (sev : Nat) : List Rec → Option (List Rec)
  | [] => none
  | x :: rest => if x.sev < sev then some rest else (dropNewestBelow sev rest).map (fun y => x :: y)

/-- A drop from the queue (R551). -/
def State.evrDrop (s : State) : State := (s.inc F.EVR_QDROP_CNT).flag F.EVR_STAT_QDROP F.EVR_CTL_IE_QDROP

/-- A record enters the queue (R551); the second component says whether it did. -/
def State.enqueue (s : State) (r : Rec) : State × Bool :=
  if s.evr.queue.length < 64 then
    (({ s with evr := { s.evr with queue := queueInsert r s.evr.queue } }).evrQueueRegs, true)
  else if 0xC ≤ r.sev then
    match dropNewestBelow r.sev s.evr.queue.reverse with
    | some q => ((({ s with evr := { s.evr with queue := queueInsert r q.reverse } }).evrQueueRegs).evrDrop, true)
    | none => (s.evrDrop, false)
  else (s.evrDrop, false)

/-- The depth of the buckets of a severity. -/
def State.depth (s : State) (sev : Nat) : Nat := s.rd (F.EVR_BKTs_DEPTH sev)

/-- The tokens an unused bucket of severity `sev` holds: full at the reset depth, then cut and refilled with the others. -/
def State.baseTokens (s : State) (sev : Nat) : Nat :=
  SMap.get (fun v => if v < 4 then 4 else if v < 8 then 8 else if v < 12 then 16 else 0) s.evr.bases sev

/-- The bucket of a CODE (R552). -/
def State.bucket (s : State) (code : Nat) : Bucket := SMap.get (fun _ => {}) s.evr.buckets code

/-- The bucket of a CODE set. -/
def State.setBucket (s : State) (code : Nat) (b : Bucket) : State :=
  { s with evr := { s.evr with buckets := SMap.set (fun _ => {}) s.evr.buckets code b } }

/-- The tokens of the bucket of `code` as a record of severity `sev` finds it: at most DEPTH. -/
def State.tokens (s : State) (code sev : Nat) : Nat :=
  let b := s.bucket code
  min (if b.sev = 16 then s.baseTokens sev else b.tokens) (s.depth sev)

/-- One token into every bucket of severity `sev` that holds fewer than DEPTH (R552). -/
def State.refill (s : State) (sev : Nat) : State :=
  let d := s.depth sev
  let base := s.baseTokens sev
  { s with evr := { s.evr with
      bases := SMap.set (fun v => if v < 4 then 4 else if v < 8 then 8 else if v < 12 then 16 else 0) s.evr.bases sev
        (if base < d then base + 1 else base)
      buckets := s.evr.buckets.map (fun x =>
        if x.2.sev = sev ∧ x.2.tokens < d then (x.1, { x.2 with tokens := x.2.tokens + 1 }) else x) } }

/-- The refill of severity `sev` that falls at this Sundial time, made once (R552). -/
def State.refillDue (s : State) (sev : Nat) : State :=
  let period := s.rd (F.EVR_BKTs_PERIOD sev) * 1000000
  if 0 < period ∧ s.now % period = 0 ∧ SMap.get (fun _ => 0) s.evr.refilled sev ≠ s.now + 1 then
    ({ s with evr := { s.evr with refilled := SMap.set (fun _ => 0) s.evr.refilled sev (s.now + 1) } }).refill sev
  else s

/-- A record of `code` and `sev` takes its token or is suppressed (R552), after a refill that falls at the same instant; the second component
says whether it may go on. -/
def State.takeBucket (s : State) (code sev : Nat) : State × Bool :=
  let s := if s.bedOn then s.refillDue sev else s
  if s.depth sev = 0 then (s, true)
  else if s.tokens code sev = 0 then
    (((s.setBucket code ⟨sev, 0, satAdd 28 (s.bucket code).supp 1⟩).inc F.EVR_SUPPCNT_CNT).flag
      F.EVR_STAT_SUPP F.EVR_CTL_IE_SUPP, false)
  else (s.setBucket code ⟨sev, s.tokens code sev - 1, (s.bucket code).supp⟩, true)

/-- The suppressed count of a CODE returned to 0. -/
def State.clearSupp (s : State) (code : Nat) : State := s.setBucket code { s.bucket code with supp := 0 }

/-- The store without the oldest record of severity at most `sev`; none where there is none. The list is oldest first. -/
def evictOldest (sev : Nat) : List (Nat × Rec) → Option (List (Nat × Rec))
  | [] => none
  | x :: rest => if x.2.sev ≤ sev then some rest else (evictOldest sev rest).map (fun y => x :: y)

/-- EVR_FILL and EVR_STAT.FULL brought up to date. -/
def State.evrFillRegs (s : State) : State :=
  (s.wr F.EVR_FILL_RECS s.evr.store.length).wrB F.EVR_STAT_FULL (decide (s.evr.store.length = evrSlots))

/-- A record written over the slots `keep`: it takes the next record number and carries the suppressed count (R554, R552). -/
def State.appendRec (s : State) (keep : List (Nat × Rec)) (r : Rec) : State :=
  ({ s with evr := { s.evr with
      store := keep ++ [(s.evr.next, { r with supp := (s.bucket r.code).supp, time := 0 })]
      next := satAdd 48 s.evr.next 1 } }.clearSupp r.code).evrFillRegs

/-- A record is written to the store, or dropped for want of a slot (R553). -/
def State.storeRec (s : State) (r : Rec) : State :=
  if s.evr.store.length < evrSlots then s.appendRec s.evr.store r
  else
    match evictOldest r.sev s.evr.store with
    | some keep => s.appendRec keep r
    | none => (s.inc F.EVR_NOROOM_CNT).flag F.EVR_STAT_NOROOM F.EVR_CTL_IE_NOROOM

/-- An event is recorded (R547, R551, R556): code `src` and `ev` (R549), severity and three parameters. While Bed is powered
the record enters the queue; while it is not, Root writes it. -/
def State.record (s : State) (src ev sev p0 p1 p2 : Nat) : State :=
  let r := s.stamp (src * 256 + ev) sev p0 p1 p2 false false
  if s.bedOn then (s.enqueue r).1
  else
    let t := s.takeBucket r.code r.sev
    if t.2 then t.1.storeRec r else t.1

end Sys2Proof.Machine
end

