-- ==== Sys2Proof/Machine/Operands.lean ====
section
/-! DEFINITION. The operand forms: the fields of a descriptor's header and payload (R94), signed and wide numbers, and the
encoder of result bytes (R95). -/

namespace Sys2Proof.Machine

/-- The `n`-byte little-endian value at byte `off` of a run of bytes. -/
def leAt (b : Bytes) (off n : Nat) : Nat := leValue ((b.drop off).take n)

/-- The `n`-byte little-endian value at descriptor byte `off` (16 to 63) of the payload. -/
def Desc.le (d : Desc) (off n : Nat) : Nat := leAt d.payload (off - 16) n

/-- A signed `n`-byte value of the payload. -/
def Desc.leS (d : Desc) (off n : Nat) : Int := toSigned (8 * n) (d.le off n)

/-- Whether payload bytes `off` to `off + n - 1` are all 0. -/
def Desc.zeros (d : Desc) (off n : Nat) : Bool := decide (d.le off n = 0)

/-- Bits `[hi:lo]` of a natural number. -/
def bitsOf (v hi lo : Nat) : Nat := (v >>> lo) % 2 ^ (hi + 1 - lo)

/-- Whether bit `i` of a number is set. -/
def bitAt (v i : Nat) : Bool := v.testBit i

/-- A run of bytes cut or zero-filled to `n` bytes. -/
def fitBytes (n : Nat) (b : Bytes) : Bytes := (b ++ List.replicate n 0).take n

/-- A run of bytes with the `n`-byte little-endian value `v` at byte `off`, growing it with zeros where it is shorter. -/
def putLe (b : Bytes) (off n v : Nat) : Bytes :=
  fitBytes off b ++ leBytes n v ++ b.drop (off + n)

/-- Result bytes from a list of (entry byte number 24 to 63, size, value). -/
def resultOf (l : List (Nat × Nat × Nat)) : Bytes :=
  l.foldl (fun b x => putLe b (x.1 - 24) x.2.1 x.2.2) (List.replicate 40 0)

/-- A signed number clamped to `[lo, hi]`. -/
def clampI (lo hi x : Int) : Int := max lo (min hi x)

/-- The largest and smallest values of a signed n-bit field. -/
def satS (n : Nat) (x : Int) : Int := clampI (-(2 ^ (n - 1) : Nat)) ((2 ^ (n - 1) : Nat) - 1) x

end Sys2Proof.Machine
end

