-- ==== Sys2Proof/Machine/Ops.lean ====
section
/-! DEFINITION. The operations every family shares: the gate of a register access (R5, R13, R70), memory and its poison marks
(R15, R417), the Bed bridge (R16), and the rings: slots, entries, completion, disable and halt (R86-R103). -/

namespace Sys2Proof.Machine

/-! ### Outcomes -/

/-- Every command of this block answers a next state. -/
abbrev Out := Host.Outcome State Fault Refusal

/-- An access completed with an error response and no effect. -/
def State.fail (s : State) : State := { s with resp := .error }

/-- Whether agent `a` is a Dale. -/
def isDale (a : Agent) : Bool := decide (a = .daleA) || decide (a = .daleB)

/-- An access of agent `a` fails: an error response, and an access fault in the Dale core that made it (R13, R63). The command names the
Dale, not the core (notes/assumptions/17.md). -/
def State.failFor (s : State) (a : Agent) : State := if isDale a then (s.irq (.agent a) .accessFault).fail else s.fail

/-- An access of Gorge requester `req` fails (R13, R21): requesters 0 and 1 are the Dales. -/
def State.failReq (s : State) (req : Nat) : State :=
  if req = 0 then s.failFor .daleA else if req = 1 then s.failFor .daleB else s.fail

/-- An access completed. -/
def State.done (s : State) : State := { s with resp := .done }

/-- An access completed with a value read. -/
def State.answer (s : State) (v : Nat) : State := { s with resp := .value v }

/-- A write by `a` to the register at decoded offset `off` of block `blk` (R5, R13, R70, R498): an unpowered domain, a writer that
is not admitted and a block held in its safe state by five lasting registers get an error response, a write to an absent unit is counted and discarded, any other has the effect `k`. -/
def State.gate (s : State) (a : Agent) (blk off : Nat) (k : State → State) : State :=
  if s.blockOn blk = false then s.failFor a
  else if s.admits a blk off = false then s.failFor a
  else if 5 ≤ SMap.get (fun _ => 0) s.hlt.lostRegs blk then s.failFor a
  else if absentReg s.code blk off && (findReg blk off).isSome then
    (if s.bedOn then s.inc F.SYS_ABSENTWR_CNT else s).done
  else (k s.done)

/-! ### Memory (R15, R32, R417) -/

/-- The Bed store (R32). -/
def bedStoreBase : Nat := 0xF000000000

/-- Whether an address lies in the Bed store. -/
def inBedStore (a : Nat) : Bool := decide (bedStoreBase ≤ a) && decide (a < bedStoreBase + 0x2000000)

/-- The size of installed DRAM (R2, R32). -/
def Code.dramSize (c : Code) : Nat := c.pick 0x2000000000 0x1000000000 0x800000000

/-- The Prairie feature store window and its size by code (R32). -/
def featureBase : Nat := 0xF400000000
def Code.featureSize (c : Code) : Nat := c.pick 0x8000000 0x4000000 0x2000000

/-- The PCI Express outbound memory window (R32), carried by JX-940-F and H. -/
def pcieWindow : Nat := 0xE000000000
def pcieWindowSize : Nat := 0x1000000000

/-- Whether an address lies in installed DRAM. -/
def inDram (c : Code) (a : Nat) : Bool := decide (a < c.dramSize)

/-- Whether the `n` bytes from `a` on lie wholly in the Bed store. -/
def inBedRange (a n : Nat) : Bool := inBedStore a && decide (a + n ≤ bedStoreBase + 0x2000000)

/-- Whether the `n` bytes from `a` on lie wholly in installed DRAM. -/
def inDramRange (c : Code) (a n : Nat) : Bool := decide (a + n ≤ c.dramSize)

/-- Whether the `n` bytes from `a` on lie wholly in one Canopy memory of the code. -/
def Code.memAt (c : Code) (a n : Nat) : Bool :=
  inDramRange c a n || (decide (featureBase ≤ a) && decide (a + n ≤ featureBase + c.featureSize))

/-- Whether the `n` bytes from `a` on lie in memory that answers now: the Bed store, DRAM or the feature store of a powered
domain (R13, R32). -/
def State.memOk (s : State) (a n : Nat) : Bool :=
  (s.bedOn && inBedRange a n) ||
  (s.canopyOn && s.code.memAt a n)

/-- The granule of the poison mark at an address: a 64-bit word in the Bed store, a 64-byte line elsewhere. -/
def granule (a : Nat) : Nat := if inBedStore a then 8 else 64

/-- The first addresses of the granules a range touches. -/
def granulesOf (a n : Nat) : List Nat :=
  if n = 0 then []
  else
    let g := granule a
    (List.range ((a + n - 1) / g - a / g + 1)).map (fun i => (a / g + i) * g)

/-- Whether any granule of a range carries the mark. -/
def Memory.poisoned (m : Memory) (a n : Nat) : Bool :=
  let g := granule a
  m.poison.any (fun p => decide (p < a + n) && decide (a < p + g))

/-- The marks after a write of `n` bytes at `a`: poisoned data marks every granule it touches, clean data that covers a whole
granule clears its mark, clean data that covers part of one keeps it (R15, R416, R417). -/
def Memory.remark (m : Memory) (a n : Nat) (p : Bool) : Memory :=
  if p then (granulesOf a n).foldl (fun x g => x.mark g true) m
  else { m with poison := m.poison.filter (fun g => !(decide (a ≤ g) && decide (g + granule a ≤ a + n))) }

/-- The marked granules a range touches. -/
def Memory.poisonCount (m : Memory) (a n : Nat) : Nat :=
  (m.poison.filter (fun p => decide (p < a + n) && decide (a < p + granule a))).length

/-- The wrong symbols of the DRAM lines a write of `n` bytes at `a` covers whole are written over. -/
def State.reencode (s : State) (a n : Nat) : State :=
  if s.dram.errs = [] then s
  else { s with dram := { s.dram with errs := SMap.keep (fun l => decide (64 * l < a) || decide (a + n < 64 * l + 64)) s.dram.errs } }

/-- A write of bytes with their poison bit to one place. -/
def State.storeOne (s : State) (a : Nat) (b : Bytes) (p : Bool) : State :=
  { s.reencode a b.length with mem := (s.mem.writeBytes a b).remark a b.length p }

/-- The parts of a range of `n` bytes at `a` that the mirror regions in force write a second time (R504): region, first byte, length
and the address on the other side. -/
def State.mirrorParts (s : State) (a n : Nat) : List (Fin 16 × Nat × Nat × Nat) :=
  (s.hlt.mirrors.filter (fun m => decide (a < m.2.1 + m.2.2.2) && decide (m.2.1 < a + n))).map (fun m =>
    let lo := max a m.2.1
    (m.1, lo, min (a + n) (m.2.1 + m.2.2.2) - lo, m.2.2.1 + (lo - m.2.1)))

/-- Lines mirrored counted in thousands by HLT_MIRn_STAT.KLINES. -/
def State.mirrorCount (s : State) (r : Fin 16) (lo n : Nat) : State :=
  let k := SMap.get (fun _ => 0) s.hlt.mirLines r + ((lo + n + 63) / 64 - lo / 64)
  ({ s with hlt := { s.hlt with mirLines := SMap.set (fun _ => 0) s.hlt.mirLines r (k % 1000) } }).incBy (F.HLT_MIRn_STAT_KLINES r) (k / 1000)

/-- A range just written is copied to the other side of every mirror region it lies in. -/
def State.mirror (s : State) (a n : Nat) (p : Bool) : State :=
  (s.mirrorParts a n).foldl (fun x m => (x.storeOne m.2.2.2 (x.mem.readBytes m.2.1 m.2.2.1) p).mirrorCount m.1 m.2.1 m.2.2.1) s

/-- A write of bytes with their poison bit. -/
def State.store (s : State) (a : Nat) (b : Bytes) (p : Bool) : State := (s.storeOne a b p).mirror a b.length p

/-- A clean write of bytes. -/
def State.put (s : State) (a : Nat) (b : Bytes) : State := s.store a b false

/-- A range written with open content of a given form; its marks are cleared. -/
def State.putContent (s : State) (a n : Nat) (c : Content) : State :=
  ({ s.reencode a n with mem := (s.mem.free a n c).remark a n false, free := s.free + 1 }).mirror a n false

/-- A range whose content the spec leaves open is written: its bytes become free values, its marks are cleared. -/
def State.putFree (s : State) (a n : Nat) : State := s.putContent a n (.any s.free)

/-- A range written with zeros. -/
def State.putZero (s : State) (a n : Nat) : State :=
  ({ s.reencode a n with mem := (s.mem.zero a n).remark a n false }).mirror a n false

/-! ### The Bed bridge (R16, R17) -/

/-- Transfers the bridge queues towards Canopy. -/
def bridgeDepth : Nat := 1024

/-- A Bed engine hands a posted write towards Canopy to the bridge: the second component is false where it is refused because
the queue is full or Canopy is not powered (R16). -/
def State.handoff (s : State) (a : Nat) (b : Bytes) : State × Bool :=
  if s.canopyOn = false ∨ bridgeDepth ≤ s.bridge.outbound.length then (s, false)
  else ({ s with bridge := { s.bridge with outbound := s.bridge.outbound ++ [⟨a, b, false, false, .plain⟩] } }, true)

/-- Whether a Canopy agent's lines find room in the inbound queue (R17): 64 lines are kept for Dale cores. -/
def State.inboundRoom (s : State) (dale : Bool) (lines : Nat) : Bool :=
  if dale then decide ((s.bridge.inbound.filter (fun l => l.dale)).length + lines ≤ 64)
  else decide ((s.bridge.inbound.filter (fun l => !l.dale)).length + lines ≤ 960)

/-- Lines accepted into the inbound queue. -/
def State.accept (s : State) (ls : List BridgeLine) : State :=
  { s with bridge := { s.bridge with inbound := s.bridge.inbound ++ ls } }

/-- A run of bytes cut at 64-byte boundaries from address `a` on, as bridge lines; `fuel` bounds the lines. -/
def linesOf (fuel a : Nat) (b : Bytes) (p dale : Bool) : List BridgeLine :=
  match fuel with
  | 0 => []
  | k + 1 =>
    if b.length = 0 then []
    else
      let n := 64 - a % 64
      ⟨a, b.take n, p, dale, .plain⟩ :: linesOf k (a + n) (b.drop n) p dale

/-- A Canopy engine writes bytes into the Bed store through the bridge: refused whole where a line finds no room (R17). -/
def State.bridgeWrite (s : State) (a : Nat) (b : Bytes) : State × Bool :=
  let ls := linesOf (b.length / 64 + 2) a b false false
  if s.inboundRoom false ls.length then (s.accept ls, true) else (s, false)

/-- A Canopy engine writes bytes: into the Bed store through the bridge, elsewhere at once; false where the bridge refuses (R17). -/
def State.engineWrite (s : State) (a : Nat) (b : Bytes) : State × Bool :=
  if inBedStore a then s.bridgeWrite a b else (s.put a b, true)

/-! ### Rings: who they belong to (R86, R87) -/

/-- Rings of the module. -/
def ringCount : Nat := 112

/-- The block index of a ring's engine (R87). -/
def ringBlock (q : Nat) : Nat :=
  if q < 8 then 0x08 else if q < 24 then 0x09 else if q < 32 then 0x0A else if q < 40 then 0x0B else if q < 48 then 0x0C
  else if q < 64 then 0x0D else if q < 66 then 0x05 else if q < 68 then 0x03 else if q < 72 then 0x12 else if q < 80 then 0x13
  else if q < 88 then 0x15 else if q < 92 then 0x16 else if q < 100 then 0x17 else if q < 108 then 0x18 else if q < 110 then 0x19
  else 0x14

/-- Whether a ring's engine lies in the Bed domain. -/
def ringBed (q : Nat) : Bool := decide (q < 68)

/-- The submission rings, as the engine chapters assign them; every other ring is a completion ring or unused. -/
def submissionRings : List Nat :=
  [0, 2, 6, 8, 10, 14, 24, 26, 30, 32, 34, 38, 40, 42, 46, 48, 49, 50, 51, 52, 53, 54, 55, 64, 66, 68, 70, 72, 74, 76,
   80, 82, 84, 88, 92, 98, 100, 108, 110]

/-- Whether ring `q` serves submissions. -/
def isSubmission (q : Nat) : Bool := submissionRings.contains q

/-- Whether the engine of ring `q` knows opcode `op` on that ring. -/
def knownOp (q op : Nat) : Bool :=
  let l : List Nat :=
    if q < 8 then [1, 2]
    else if q < 24 then [1, 2, 3, 4]
    else if q < 30 then [1, 2, 0x10, 0x11]
    else if q < 32 then [0x10, 0x11]
    else if q < 40 then [1, 2, 3]
    else if q = 46 then [1, 2, 3, 0x10, 0x11]
    else if q < 48 then [1, 2, 3, 0x11]
    else if q < 64 then [1, 2]
    else if q < 66 then [1, 2, 3, 4, 5]
    else if q < 68 then [1, 2, 3, 4]
    else if q = 68 then [1, 2, 3]
    else if q = 70 then [1, 2, 3, 0x10, 0x11, 0x12]
    else if q = 72 then [1, 2, 3, 4, 5, 6, 7, 8, 9]
    else if q = 74 then [0x10, 0x11, 0x12, 0x13, 0x14]
    else if q = 76 then [0x20]
    else if q = 80 then [0x10, 0x11, 0x12]
    else if q = 82 then [1]
    else if q = 84 then [2]
    else if q = 88 then [1, 2, 3, 4, 5, 6]
    else if q = 92 then [1, 2, 0x10]
    else if q = 98 then [0x10]
    else if q = 100 then [1, 2, 0x10, 0x11, 0x12, 0x13, 0x14]
    else if q = 108 then [1]
    else if q = 110 then [1, 2]
    else []
  l.contains op

/-- Descriptors that may wait for their AT time beside the ring's running work: an engine with a scheduler moves them there
(the engine chapters); an engine without one holds the ring (R98). -/
def schedSize (q : Nat) : Nat :=
  if q < 8 then 8 else if q < 32 then 16 else if q < 40 then 0 else if q < 64 then 16 else if q = 66 then 65536 else 0

/-- Whether an engine starts a descriptor with opcode `op` at once whatever its AT time: the valve sequencer takes a timed event into its
own lists (R320), and a timed HANDOVER names its earliest switch (R516). -/
def ownTiming (q op : Nat) : Bool := (decide (32 ≤ q) && decide (q < 40)) || (decide (q = 66) && decide (op = 2))

/-- The requester ID under which a Canopy engine's rings use the tracker (R27, R102). -/
def ringRequester (q : Nat) : Option Nat :=
  if q < 68 then none else if q < 72 then some 7 else if q < 80 then some 6 else if q < 88 then some 9 else if q < 92 then some 10
  else if q < 100 then some 3 else if q < 108 then some 2 else if q < 110 then some 5 else some 8

/-! ### Rings: state -/

/-- Whether the engine of ring `q` waits on the tracker (R102): it issues nothing else until the wait ends. -/
def State.engineWaits (s : State) (q : Nat) : Bool :=
  match ringRequester q with
  | some n => s.fab.waits.any (fun w => decide (w.req = n))
  | none => false

/-- A completion entry on its way into ring `q`: a Canopy engine's ring in the Bed store is reached through the bridge, in the order the bridge
accepts lines; an entry that finds no line waits for one, since no entry is lost (R17, R102; notes/assumptions/19.md). -/
def State.entryOut (s : State) (q a : Nat) (b : Bytes) : State :=
  if ringBed q || !inBedStore a then s.put a b
  else
    let l : BridgeLine := ⟨a, b, false, false, .plain⟩
    if s.inboundRoom false 1 = true ∧ s.bridge.waiting.any (fun x => !x.dale) = false then s.accept [l]
    else { s with bridge := { s.bridge with waiting := s.bridge.waiting ++ [l] } }

/-- What a ring holds beside its registers. -/
def State.ring (s : State) (q : Nat) : Ring := SMap.get (fun _ => {}) s.rings q

/-- A ring set. -/
def State.setRing (s : State) (q : Nat) (r : Ring) : State :=
  { s with rings := SMap.set (fun _ => {}) s.rings q r }

/-- Entries of a ring. -/
def State.ringSize (s : State) (q : Nat) : Nat := 2 ^ s.rd (F.RNG_QnCFG_LOG2N q)

/-- The address of entry `i` of a ring. -/
def State.ringAddr (s : State) (q i : Nat) : Nat := s.rd (F.RNG_QnBASE_BASE q) * 1024 + 64 * i

/-- The head index of a ring. -/
def State.ringHead (s : State) (q : Nat) : Nat := s.rd (F.RNG_QnSTAT_HEAD q)

/-- Whether ring `q` is an enabled completion ring whose engine serves it as one. -/
def State.cqReady (s : State) (q : Nat) : Bool :=
  s.on (F.RNG_QnCFG_EN q) && s.on (F.RNG_QnCFG_KIND q) && !isSubmission q

/-- Entries of a completion ring the consumer has not consumed. -/
def State.unconsumed (s : State) (q : Nat) : Nat :=
  (s.ringHead q + s.ringSize q - (s.ring q).idx) % s.ringSize q

/-- Free slots of a completion ring: at most 2^n - 1 entries are unconsumed or reserved (R93). -/
def State.slots (s : State) (q : Nat) : Nat := s.ringSize q - 1 - (s.unconsumed q + (s.ring q).reserved)

/-- Bit `q` of an array of bitmap registers at `base` set or cleared. -/
def State.mapBit (s : State) (base q : Nat) (v : Bool) : State :=
  s.wrB ⟨base + 4 * (q / 32 % 4), q % 32, q % 32⟩ v

/-- Bit `q` of an array of bitmap registers. -/
def State.mapOn (s : State) (base q : Nat) : Bool := s.on ⟨base + 4 * (q / 32 % 4), q % 32, q % 32⟩

/-- RNG_CFULLn brought up to date for ring `q`. -/
def State.fullBit (s : State) (q : Nat) : State :=
  s.mapBit (Reg.RNG_CFULLn 0) q (s.on (F.RNG_QnCFG_EN q) && s.on (F.RNG_QnCFG_KIND q) && decide (s.unconsumed q = s.ringSize q - 1))

/-- The head of a ring moves one entry on; the phase flips after the last entry (R90). -/
def State.advance (s : State) (q : Nat) : State :=
  let h := s.ringHead q
  if h + 1 = s.ringSize q then
    (s.wr (F.RNG_QnSTAT_HEAD q) 0).wr (F.RNG_QnSTAT_PHASE q) (1 - s.rd (F.RNG_QnSTAT_PHASE q))
  else s.wr (F.RNG_QnSTAT_HEAD q) (h + 1)

/-- An interrupt of ring `q` to its DEST. -/
def State.ringIrq (s : State) (q : Nat) (src : IrqSrc) : State := s.irq (s.destOf (s.rd (F.RNG_QnCFG_DEST q))) src

/-- The pending bit of a completion ring, with its interrupt (R101). -/
def State.ringPending (s : State) (q : Nat) : State :=
  let t := s.mapBit (Reg.RNG_IPn 0) q true
  if t.mapOn (Reg.RNG_IEn 0) q then t.ringIrq q (.ring q) else t

/-- The error bit of a ring, with its interrupt to DEST and Scarecrow (R104). -/
def State.ringErr (s : State) (q cause : Nat) : State :=
  let t := (((s.mapBit (Reg.RNG_ERRn 0) q true).wr F.RNG_BADQ_CAUSE cause).wr F.RNG_BADQ_Q q)
  if t.on F.RNG_CTL_IE_ERR then (t.ringIrq q (.ringErr q)).irqScare (.ringErr q) else t

/-- A set-up write refused (R88). -/
def State.ringRefuse (s : State) (q cause : Nat) : State := (s.wr F.RNG_STAT_CFGREJ 1).ringErr q cause

/-- A doorbell refused (R92, R93). -/
def State.doorbellRefuse (s : State) (q cause : Nat) : State := (s.wr F.RNG_STAT_DBREJ 1).ringErr q cause

/-! ### Rings: entries (R95, R100, R101) -/

/-- One completion entry as its 64 bytes. -/
def entryBytes (op status estat flags tag phase sq sqidx stamp lateness : Nat) (result : Bytes) : Bytes :=
  leBytes 1 op ++ leBytes 1 status ++ leBytes 1 estat ++ leBytes 1 flags ++ leBytes 2 tag ++ leBytes 1 0 ++
  leBytes 1 (phase * 128 + sq % 128) ++ leBytes 8 stamp ++ leBytes 2 sqidx ++ leBytes 2 0 ++ leBytes 4 (min lateness 0xFFFFFFFF) ++
  fitBytes 40 result

/-- An entry written at the head of completion ring `q`, in one transaction; it carries the GAP owed. -/
def State.writeEntry (s : State) (q op status estat : Nat) (delayed overdue poison : Bool) (tag sq sqidx lateness : Nat)
    (result : Bytes) : State :=
  let r := s.ring q
  let flags := (if delayed then 1 else 0) + (if overdue then 2 else 0) + (if poison then 4 else 0) + (if r.gap then 8 else 0)
  let t := s.entryOut q (s.ringAddr q (s.ringHead q))
    (entryBytes op status estat flags tag (s.rd (F.RNG_QnSTAT_PHASE q)) sq sqidx s.now lateness result)
  let u := ((t.setRing q { r with gap := false }).advance q).fullBit q
  if delayed || overdue then u.wideAdd Reg.RNG_DELAYCNT_LO 1 else u

/-- An entry for completion ring `q` dropped: counted, and the next entry carries GAP (R93). -/
def State.dropEntry (s : State) (q : Nat) : State :=
  (s.wideAdd Reg.RNG_OVFCNT_LO 1).setRing q { s.ring q with gap := true }

/-- An entry with no submission behind it, written if a slot is free and dropped otherwise; `ip` says whether it sets the
pending bit (R93, R101). The second component says whether it was written. -/
def State.looseEntry (s : State) (q op tag status estat : Nat) (poison : Bool) (result : Bytes) (ip : Bool) : State × Bool :=
  if s.cqReady q ∧ 0 < s.slots q then
    let t := s.writeEntry q op status estat false false poison tag 0x7F 0 0 result
    (if ip then t.ringPending q else t, true)
  else (s.dropEntry q, false)

/-- A clean entry with STATUS 0 and no submission behind it. -/
def State.eventEntry (s : State) (q op tag estat : Nat) (result : Bytes) (ip : Bool) : State × Bool :=
  s.looseEntry q op tag 0 estat false result ip

/-- An event on a block's event ring and in the recorder: the parameters are taken from the result bytes (R549): P0 byte 24,
P1 bytes 36 to 39, P2 bytes 25 to 27. -/
def State.blockEvent (s : State) (q op blk tag sev : Nat) (result : Bytes) (ip : Bool) : State :=
  (s.eventEntry q op tag 0 result ip).1.record blk tag sev (leAt result 0 1) (leAt result 12 4) (leAt result 1 3)

/-! ### Rings: descriptors -/

/-- The outcome an engine gives a descriptor. -/
structure Result where
  status : Nat := 0
  estat : Nat := 0
  poison : Bool := false
  bytes : Bytes := []
  deriving DecidableEq, Repr

/-- The oldest descriptor of ring `q` that runs and carries opcode `op`; none while the engine waits on the tracker (R102). -/
def State.running (s : State) (q op : Nat) : Option Desc :=
  if s.engineWaits q then none else (s.ring q).taken.find? (fun d => d.running && decide (d.op = op))

/-- The first element equal to `d` taken out. -/
def dropDesc (d : Desc) : List Desc → List Desc
  | [] => []
  | x :: r => if x = d then r else x :: dropDesc d r

/-- The completion ring of a submission ring. -/
def State.cqOf (s : State) (q : Nat) : Nat := s.rd (F.RNG_QnCFG_CQ q)

/-- A descriptor leaves its ring: its reserved slot is released. -/
def State.unreserve (s : State) (q : Nat) (d : Desc) : State :=
  let t := s.setRing q { s.ring q with taken := dropDesc d (s.ring q).taken }
  let c := d.cq.val
  t.setRing c { t.ring c with reserved := (t.ring c).reserved - 1 }

/-- A fenced descriptor at the front of the taken list starts: every earlier one has completed (R100). One whose AT time has
not come stays held. -/
def State.unfence (s : State) (q : Nat) : State :=
  match (s.ring q).taken with
  | d :: rest =>
    if d.running = false ∧ d.fence = true ∧ (d.tmode ≠ 1 ∨ d.deadline ≤ s.now ∨ ownTiming q d.op = true) then
      let late := if d.tmode = 1 ∧ ownTiming q d.op = false then s.now - d.deadline else 0
      s.setRing q { s.ring q with taken := { d with running := true, started := s.now, late := late } :: rest }
    else s
  | [] => s

/-- A descriptor completes (R98-R101): its entry is written under CPL or where the status or a flag asks for it, and the
pending bit is set under IRQ or where CPL is 0. An entry whose completion ring is no longer enabled is dropped, counted and owed as GAP: DESIGN
CHOICE, R93 does not say (notes/assumptions/26.md). -/
def State.complete (s : State) (q : Nat) (d : Desc) (r : Result) : State :=
  let delayed := decide (0 < d.late) && decide (r.status ≠ 4)
  let overdue := decide (d.tmode = 2) && decide (d.deadline < s.now)
  let lateness := if d.tmode = 1 then d.late else if overdue then s.now - d.deadline else 0
  let c := d.cq.val
  let t := s.unreserve q d
  let must := decide (r.status ≠ 0) || delayed || overdue || r.poison
  let u :=
    if d.cpl || must then
      if t.cqReady c then
        let v := t.writeEntry c d.op r.status r.estat delayed overdue r.poison d.tag q d.idx lateness r.bytes
        if d.irq || !d.cpl then v.ringPending c else v
      else t.dropEntry c
    else t
  u.unfence q

/-- The meaning of an opcode: the oldest running descriptor of ring `q` with opcode `op` is carried out by `f` and completes.
Where the ring holds none, nothing happens. -/
def State.serve (s : State) (q op : Nat) (f : Desc → State → State × Result) : State :=
  match s.running q op with
  | some d =>
    let x := f d s
    x.1.complete q d x.2
  | none => s

/-- A timed descriptor that has waited `n` ns: the wait counts as lateness (R98, R512). -/
def Desc.waited (d : Desc) (n : Nat) : Desc := if d.tmode = 1 then { d with late := d.late + n } else d

/-- The descriptor `d` of ring `q` with `n` ns of lateness to report. -/
def State.lateDesc (s : State) (q : Nat) (d : Desc) (n : Nat) : State :=
  s.setRing q { s.ring q with taken := (s.ring q).taken.map (fun x => if x = d then { d with late := n } else x) }

/-- As `serve`, where the meaning may complete with LATE: the third component is the lateness it reports (R98). -/
def State.serveAt (s : State) (q op : Nat) (f : Desc → State → State × Result × Nat) : State :=
  match s.running q op with
  | some d =>
    let x := f d s
    if x.2.2 = 0 then x.1.complete q d x.2.1
    else (x.1.lateDesc q d x.2.2).complete q { d with late := x.2.2 } x.2.1
  | none => s

/-- A ring stops (R103): descriptors not started get no entry and release their slots; the state reads IDLE. -/
def State.ringStop (s : State) (q : Nat) : State :=
  let waiting := (s.ring q).taken.filter (fun d => !d.running)
  let t := waiting.foldl (fun x d => x.unreserve q d) s
  (((t.setRing q { t.ring q with mismatch := none }).wr (F.RNG_QnCFG_EN q) 0).wr (F.RNG_QnSTAT_STATE q) 0).mapBit
    (Reg.RNG_HALTn 0) q false |>.mapBit (Reg.RNG_CFULLn 0) q false |>.mapBit (Reg.RNG_WAITn 0) q false

/-- A ring disabled by the module with a cause (R103, R104). -/
def State.ringKill (s : State) (q cause : Nat) : State :=
  if s.on (F.RNG_QnCFG_EN q) then (s.ringStop q).ringErr q cause else s

/-- Every ring of a Canopy engine disabled with cause POWERDOWN; its descriptors are cut short without an entry (R103). -/
def State.canopyRingsOff (s : State) : State :=
  (List.range 44).foldl (fun x i =>
    let q := 68 + i
    let t := x.ringKill q 9
    t.setRing q { t.ring q with taken := [], reserved := 0 }) s

/-- Whether engine `e` of Canopy runs: 0 Prairie, 1 camera pipeline, 2 HEVC encoder, 3 GNSS baseband, 4 display engine; a second lasting unit
stops it until Canopy next powers up (R498). -/
def State.engineUp (s : State) (e : Nat) : Bool := s.canopyOn && !s.hlt.engOff.contains e

/-! ### Targeted self-tests and parity faults (R82, R495, R496) -/

/-- HLT_TESTQ brought up to date. -/
def State.testRegs (s : State) : State := (s.wr F.HLT_TESTQ_NOW s.hlt.tests.length).peak F.HLT_TESTQ_PEAK s.hlt.tests.length

/-- A targeted self-test of resource `res` is triggered: merged into a queued test of the same resource, queued, or dropped where 64
wait; a drop is counted and raises UNTESTED once until the bit is cleared. `ds` are the TEST descriptors that ask for it; one whose test is
dropped completes with RESULT 0. -/
def State.queueTest (s : State) (res : Nat) (ds : List Desc) : State :=
  if s.hlt.tests.any (fun t => decide (t.res = res)) then
    { s with hlt := { s.hlt with tests := s.hlt.tests.map (fun t => if t.res = res then { t with descs := t.descs ++ ds } else t) } }
  else if s.hlt.tests.length < 64 then
    let one : TestReq := { res := res, since := s.now, descs := ds }
    ({ s with hlt := { s.hlt with tests := s.hlt.tests ++ [one] } }).testRegs
  else
    let t := s.inc F.HLT_UNTESTED_CNT
    let t := if t.on F.HLT_STAT_UNTESTED then t
      else ((t.flagDale F.HLT_STAT_UNTESTED F.HLT_CTL_IE_LAST).eventEntry 67 0x80 6 0
        (resultOf [(24, 1, res / 2 ^ 28), (28, 8, s.now), (36, 4, res)]) true).1
    ds.foldl (fun x d => x.complete 66 d {}) t

/-- A targeted self-test triggered by an error report. -/
def State.triggerTest (s : State) (res : Nat) : State := s.queueTest res []

/-- The common effects of a register parity fault of block `blk`: the SYS_PARBLK bit, the record with its three parameters, and the
targeted self-test of the first register that mismatches. -/
def State.parityFault (s : State) (blk off count : Nat) : State :=
  ((s.setReg Reg.SYS_PARBLK (s.reg Reg.SYS_PARBLK ||| BitVec.ofNat 32 (1 <<< blk))).record blk 0xFF sevFault blk off count).triggerTest
    (2 * 2 ^ 28 + blk * 2 ^ 16 + off)

/-! ### Poisoned descriptor lines -/

/-- What the engine of ring `q` counts when a descriptor line arrives poisoned (R243, R268, R304, R329, R349, R370, R389, R406). -/
def State.poisonLine (s : State) (q : Nat) : State :=
  match ringBlock q with
  | 0x09 => s.flag F.TRL_STAT_POISON F.TRL_CTL_IE_POIS
  | 0x0A => (s.inc F.FUR_POISCNT_CNT).flag F.FUR_STAT_POISON F.FUR_CTL_IE_POIS
  | 0x0B => s.inc F.VLV_POISCNT_CNT
  | 0x0C => s.inc F.LSW_POISCNT_CNT
  | 0x0D => (s.inc F.CAN_POISCNT_CNT).flag F.CAN_STAT_POISON F.CAN_CTL_IE_POIS
  | 0x15 => (s.inc F.ETH_POISCNT_CNT).flag F.ETH_STAT_POISON F.ETH_CTL_IE_POIS
  | 0x16 =>
    let t := s.inc F.GNS_POISCNT_CNT
    if t.on F.GNS_CTL_IE_POIS then t.irqBoth (.status Reg.GNS_POISCNT 0) else t
  | 0x19 => (s.inc F.DSP_POISCNT_CNT).flag F.DSP_STAT_POISON F.DSP_CTL_IE_POIS
  | _ => s

/-! ### Plain register writes (R10, R80) -/

/-- Whether every field of `v` has a listed encoding in the register at `key` (R10). -/
def listedAt (key : Nat) (v : W32) : Bool :=
  match findReg (key / 0x1000) (key % 0x1000) with
  | some d => d.listed v
  | none => true

/-- The hidden parity bit of the register at `key` recomputed over the value held (R80). -/
def State.reparity (s : State) (key : Nat) : State := { s with badParity := s.badParity.filter (fun k => k ≠ key) }

/-- A write applied field by field under the access codes, with the parity bit recomputed (R80). -/
def State.applyWrite (s : State) (key : Nat) (v : W32) : State :=
  match findReg (key / 0x1000) (key % 0x1000) with
  | some d => { s.setReg key (d.written (s.reg key) v) with badParity := s.badParity.filter (fun k => k ≠ key) }
  | none => s

/-- A write applied where every encoding is listed; where one is not, the register is unchanged and its parity bit recomputed over the value
held (R10, R80). -/
def State.plainWrite (s : State) (key : Nat) (v : W32) : State := if listedAt key v then s.applyWrite key v else s.reparity key

/-! ### Mailboxes (R105-R112) -/

/-- Whether mailbox agent `id` is held in reset or its domain is powered down: Bed agents with Bed, the others with Canopy. -/
def State.mbxDomainOn (s : State) (id : Nat) : Bool :=
  if id = 2 ∨ id = 3 ∨ id = 6 then s.bedOn else s.canopyOn

/-- Whether mailbox agent `id` runs. -/
def State.mbxRuns (s : State) (id : Nat) : Bool := s.mbxDomainOn id && !s.held.contains id

/-- The agent of a mailbox ID. -/
def mbxAgent (id : Nat) : Agent :=
  match id with
  | 0 => .daleA
  | 1 => .daleB
  | 2 => .trellisSeq
  | 3 => .furrowRt
  | 4 => .terrace
  | 5 => .gnss
  | 6 => .scarecrow
  | _ => .pcie

/-- A notice in mailbox `m` is aborted (R112). -/
def State.mbxAbort (s : State) (m : Nat) : State :=
  if s.on (F.MBX_MnSTAT_FULL m) then
    let src := s.rd (F.MBX_MnSTAT_SRC m)
    let t := ((((s.wr (F.MBX_MnSTAT_FULL m) 0).wr (F.MBX_MnSTAT_LAST m) 2).resetReg (Reg.MBX_MnLO m)).resetReg
      (Reg.MBX_MnHI m)).mapBit Reg.MBX_FULL_LO m false
    let u := (t.mapBit Reg.MBX_ABT_LO m true).inc F.MBX_LOSTCNT_CNT
    if u.mbxRuns src then u.irq (.agent (mbxAgent src)) (.mboxAbort m)
    else { u with mbxOwed := u.mbxOwed ++ [(src, m)] }
  else s

/-- Agent `id` enters reset or loses its domain: every mailbox it receives is emptied (R112). -/
def State.mbxAbortAll (s : State) (id : Nat) : State :=
  (List.range 8).foldl (fun x i => x.mbxAbort (8 * id + i)) s

/-- The abort interrupts owed to agents that run again are raised (R112). -/
def State.mbxPayOwed (s : State) : State :=
  let pay := s.mbxOwed.filter (fun p => s.mbxRuns p.1)
  pay.foldl (fun x p => x.irq (.agent (mbxAgent p.1)) (.mboxAbort p.2))
    { s with mbxOwed := s.mbxOwed.filter (fun p => !s.mbxRuns p.1) }

/-- Agent `id` is held in reset (R112). -/
def State.holdAgent (s : State) (id : Nat) : State :=
  if s.held.contains id then s else ({ s with held := insertNat id s.held }).mbxAbortAll id

/-- Several agents lose their domain at one instant: an abort owed to one of them waits until it next runs (R112). -/
def State.holdAgents (s : State) (ids : List Nat) : State :=
  let new := ids.filter (fun i => !s.held.contains i)
  new.foldl (fun x i => x.mbxAbortAll i) { s with held := new.foldl (fun l i => insertNat i l) s.held }

/-- Agent `id` runs again. -/
def State.freeAgent (s : State) (id : Nat) : State :=
  ({ s with held := s.held.filter (fun x => x ≠ id) }).mbxPayOwed

/-! ### The switch of the carrying role (R506, R577) -/

/-- The state of Dale `n`: 0 OFF, 1 RUN, 2 RESET, 3 TEST, 4 ISOLATED. -/
def State.daleState (s : State) (n : Nat) : Nat := s.rd (F.HLT_DALEn_STAT_STATE n)

/-- Whether Dale `n` runs and is READY. -/
def State.daleReady (s : State) (n : Nat) : Bool := decide (s.daleState n = 1) && s.on (F.HLT_DALEn_CTL_READY n)

/-- The READY Dale a fault handover goes to. -/
def State.readyDale (s : State) (src : Nat) : Option Nat :=
  if s.daleReady (1 - src) then some (1 - src) else if s.daleReady src then some src else none

/-- The handover whose switch is due at this instant, with the Dale the role passes to: now is a boundary, a fault handover finds a READY Dale,
a planned one is past steps 1 to 3 with the mirrors synchronised and its AT time reached. -/
def State.switchDue (s : State) : Option (Handover × Nat) :=
  if s.bedOn = false ∨ s.canopyOn = false ∨ s.now % (s.rd F.HLT_HOCFG_HOPER * 1000000) ≠ s.rd F.HLT_HOCFG_HOPHASE * 1000 then none
  else
    match s.hlt.hand with
    | none => none
    | some h =>
      if h.fault then (s.readyDale h.src).map (fun n => (h, n))
      else if h.since.isSome = true ∧ h.det ≠ 0 ∧ s.on (F.HLT_DALEn_CTL_ARMED (1 - h.src)) = true ∧ s.rd F.HLT_MIRCTL_SYNC = 0 ∧ h.at0 ≤ s.now ∧
          s.daleReady (1 - h.src) = true then some (h, 1 - h.src)
      else none

/-! ### Loads and measured times -/

/-- Busy time added at `now`; a new second closes the one before. -/
def BusyLoad.add (l : BusyLoad) (now busy : Nat) : BusyLoad :=
  let sec := now / 1000000000
  if sec = l.sec then { l with acc := l.acc + busy }
  else { sec := sec, acc := busy, share := if l.sec + 1 = sec then min 10000 (l.acc / 100000) else 0 }

/-- TRL_LOAD and FUR_LOAD with busy time added. -/
def State.trlBusy (s : State) (busy : Nat) : State :=
  let l := s.trl.load.add s.now busy
  ({ s with trl := { s.trl with load := l } }).measured F.TRL_LOAD_LAST F.TRL_LOAD_PEAK l.share
def State.furBusy (s : State) (busy : Nat) : State :=
  let l := s.fur.load.add s.now busy
  ({ s with fur := { s.fur with load := l } }).measured F.FUR_LOAD_LAST F.FUR_LOAD_PEAK l.share

/-- The registers [31:16] PEAK, [15:0] LAST whose measure depends on timing that the model leaves out, with the greatest value of each: their
values are free (notes/assumptions/33.md). -/
def timedMeasure (key : Nat) : Option Nat :=
  if key = Reg.HLT_MIRBW ∨ key = Reg.MEM_BW ∨ key = Reg.MEM_RDLAT ∨ key = Reg.MEM_RMWLAT ∨ key = Reg.TER_LAT then some 65535
  else if ((arrayIdx key (Reg.CAN_CHc_LOAD 0) (Reg.CAN_CHc_LOAD 1 - Reg.CAN_CHc_LOAD 0) 8).isSome ||
      (arrayIdx key (Reg.MEM_SUBn_LOAD 0) (Reg.MEM_SUBn_LOAD 1 - Reg.MEM_SUBn_LOAD 0) 8).isSome) then some 10000
  else if ([Reg.NFL_CHc_RDLAT, Reg.NFL_CHc_PGLAT, Reg.NFL_CHc_ERLAT].any (fun r => (arrayIdx key (r 0) (r 1 - r 0) 8).isSome)) then some 65535
  else none

/-- A free measure: LAST is open, PEAK is at least LAST and at least what it was. -/
def State.freeMeasure (s : State) (key top : Nat) : State :=
  let x := s.freshNat
  let last := x % (top + 1)
  let peak := max (max last (getBits (s.reg key) 31 16)) (x / 65536 % (top + 1))
  (s.setReg key (BitVec.ofNat 32 (peak * 65536 + last))).tickFree

/-- What a drive reports, read every 60 s (TER_DRVd_WEAR): open once 60 s have passed since its link came up. -/
def State.driveWear (s : State) (d : Nat) : State :=
  let x := SMap.get (fun _ => ({} : Drive)) s.ter.drives d
  if x.seen.isSome ∧ x.upAt + 60000000000 ≤ s.now then (s.setReg (Reg.TER_DRVd_WEAR d) (BitVec.ofNat 32 s.freshNat)).tickFree else s

/-- TER_BW and ETH_NVMEBW: two free rates. -/
def State.freeRates (s : State) (key : Nat) : State := (s.setReg key (BitVec.ofNat 32 s.freshNat)).tickFree

end Sys2Proof.Machine
end

