-- ==== Sys2Proof/Machine/Ingest.lean ====
section
/-! DEFINITION. Sensor ingest: streams and frames (R116-R120), wired channels (R121-R125), the converter references (R127-R129),
the mirror (R130) and the ING rings (R135-R137). -/

namespace Sys2Proof.Machine

/-! ### State access -/

/-- A stream. -/
def State.stream (s : State) (n : Nat) : Stream := SMap.get (fun _ => {}) s.ing.streams n

/-- A stream set. -/
def State.setStream (s : State) (n : Nat) (x : Stream) : State :=
  { s with ing := { s.ing with streams := SMap.set (fun _ => {}) s.ing.streams n x } }

/-- An analogue channel's converter. -/
def State.chan (s : State) (n : Nat) : Chan := SMap.get (fun _ => {}) s.ing.chans n

/-- An analogue channel's converter set. -/
def State.setChan (s : State) (n : Nat) (x : Chan) : State :=
  { s with ing := { s.ing with chans := SMap.set (fun _ => {}) s.ing.chans n x } }

/-- Analogue channels, acoustic channels, frequency inputs and sensor supplies by code (R2). -/
def Code.analogues (c : Code) : Nat := c.pick 48 32 24
def Code.acousticChannels (c : Code) : Nat := c.pick 8 8 4
def Code.freqInputs (c : Code) : Nat := c.pick 32 24 16
def Code.supplies (c : Code) : Nat := c.pick 8 6 4

/-! ### Event entries (R137) -/

/-- The result bytes of an ING event about `subject`. -/
def State.ingResult (s : State) (subject : Nat) : Bytes :=
  resultOf [(24, 1, subject), (26, 2, s.rd F.ING_REFDEV_AB_DEV), (28, 2, s.rd F.ING_REFDEV_A_DEV), (30, 2, s.rd F.ING_REFDEV_B_DEV),
    (32, 4, (s.reg Reg.ING_DEGMAP_LO).toNat), (36, 2, (s.reg Reg.ING_DEGMAP_HI).toNat)]

/-- An event entry on rings 4 and 5. -/
def State.ingEntry (s : State) (tag subject : Nat) : State :=
  let r := s.ingResult subject
  (((s.eventEntry 4 0x80 tag 0 r true).1).eventEntry 5 0x80 tag 0 r true).1

/-- An event entry on rings 4 and 5 that is also recorded (R549). -/
def State.ingEvent (s : State) (tag subject sev : Nat) : State :=
  let r := s.ingResult subject
  (s.ingEntry tag subject).record 0x08 tag sev (leAt r 0 1) (leAt r 12 4) (leAt r 1 3)

/-! ### Frames (R114-R120, R130) -/

/-- The exponent floor of a stream (R118, R123, R132). -/
def State.streamEmin (s : State) (n : Nat) : Int :=
  if n < 48 then toSigned 8 (s.rd (F.ING_ACHn_CFG_EMIN n))
  else if n < 56 then 35
  else if n < 64 then toSigned 8 (s.rd (F.ING_ACCn_CFG_EMIN (n - 56)))
  else if n < 96 then toSigned 8 (s.rd (F.ING_FQn_CFG_EMIN (n - 64)))
  else 0

/-- The sample period of a stream in ns, rounded down to a multiple of 8 (R116). The 14 values of an analyser message all bear the message's
stamp: DESIGN CHOICE, the spec gives these streams no sample period (notes/assumptions/23.md). -/
def State.streamPeriod (s : State) (n : Nat) : Nat :=
  let p :=
    if n < 48 then 62500 * 2 ^ s.rd (F.ING_ACHn_CFG_RATE n)
    else if n < 56 then 1000000 * 2 ^ s.rd (F.ING_ACCn_CFG_RPT (n - 48))
    else if n < 64 then 5208
    else if n < 96 then 62500 * 2 ^ s.rd (F.ING_FQn_CFG_RATE (n - 64))
    else if n < 104 then 0
    else 1000000
  p / 8 * 8

/-- A list cut into runs of `k`; `fuel` bounds the runs. -/
def chunks {α : Type} (k fuel : Nat) (l : List α) : List (List α) :=
  match fuel with
  | 0 => []
  | f + 1 => match l with
    | [] => []
    | _ => l.take k :: chunks k f (l.drop k)

/-- The flags of a tray: bit 3 GAP, bit 2 SETTLE, bit 1 SAT, bit 0 DEG (R116). -/
def trayFlags (l : List Samp) (sat : Bool) : Nat :=
  (if l.any (fun x => x.gap) then 8 else 0) + (if l.any (fun x => x.settle) then 4 else 0) +
  (if sat || l.any (fun x => x.sat) then 2 else 0) + (if l.any (fun x => x.deg) then 1 else 0)

/-- The header word of a frame (R116). -/
def frameHead (phase stream nlast count flags : Nat) : Nat :=
  phase * 2 ^ 63 + stream * 2 ^ 56 + nlast * 2 ^ 52 + count * 2 ^ 48 + flags

/-- The flags of a frame, tray by tray. -/
def frameFlags (trays : List (List Samp × (Bytes × Bool))) (gapFirst : Bool) : Nat :=
  (trays.zipIdx.foldl (fun f x =>
    f + (trayFlags x.1.1 x.1.2.2 ||| (if gapFirst ∧ x.2 = 0 then 8 else 0)) * 2 ^ (4 * x.2)) 0)

/-- A frame as its 512 bytes. -/
def frameBytes (phase stream : Nat) (trays : List (List Samp × (Bytes × Bool))) (gapFirst : Bool) : Bytes :=
  let nlast := (trays.getLast?.map (fun x => x.1.length)).getD 0
  let head := leBytes 8 (frameHead phase stream nlast trays.length (frameFlags trays gapFirst))
  let stamps := fitBytes 56 ((trays.map (fun x => leBytes 8 ((x.1.head?.map (fun y => y.t)).getD 0))).flatten)
  head ++ stamps ++ fitBytes 448 ((trays.map (fun x => x.2.1)).flatten)

/-- The PHASE of frame `pos` of a buffer of 2^l frames (R117, R119). -/
def framePhase (pos l : Nat) : Nat := 1 - pos / 2 ^ l % 2

/-- A published frame of a mirrored stream handed through the bridge into the DRAM log, or counted in MIRDROP (R130). -/
def State.mirrorFrame (s : State) (n : Nat) (trays : List (List Samp × (Bytes × Bool))) : State :=
  if s.on F.ING_MIRCFG_EN ∧ s.on (F.ING_STRn_CFG_MIR n) then
    let l := s.rd F.ING_MIRCFG_LOG2F
    let pos := s.rd F.ING_MIRPOS_POS
    let r := s.handoff (s.rd F.ING_MIRBASE_BASE * 512 + 512 * (pos % 2 ^ l)) (frameBytes (framePhase pos l) n trays s.ing.mirGap)
    if r.2 then
      let t := { r.1 with ing := { r.1.ing with mirGap := false } }
      t.wr F.ING_MIRPOS_POS (pos + 1)
    else
      let t := (s.inc F.ING_MIRDROP_CNT).wr F.ING_STAT_MIRDROP 1
      { t with ing := { t.ing with mirGap := true } }
  else s

/-- One running capture takes a published frame (R136): one whose first sample is stamped at or after its start. -/
def State.captureFrame (s : State) (c : Capture) (trays : List (List Samp × (Bytes × Bool))) (bytes : Bytes) : State :=
  let t0 := ((trays.head?.bind (fun x => x.1.head?)).map (fun y => y.t)).getD 0
  if t0 < c.since ∧ c.first = none then s
  else
    let others := s.ing.captures.filter (fun x => x ≠ c)
    let a := c.dest + 512 * c.frames
    let first := c.first.getD t0
    let ok := inBedRange a 512 || inDramRange s.code a 512
    let w : State × Bool :=
      if ok = false then (s, false) else if inBedStore a then (s.put a bytes, true) else s.handoff a bytes
    let c2 := { c with trays := c.trays + trays.length, frames := c.frames + 1, first := some first }
    let res : Bytes := resultOf [(24, 8, first), (32, 4, c2.trays)]
    if w.2 = false then
      let st := if ok then 6 else 5
      ({ s with ing := { s.ing with captures := others } }).complete c.q c.d
        { status := st, bytes := resultOf [(24, 8, c.first.getD 0), (32, 4, c.trays)] }
    else if c.count ≤ c2.trays then
      ({ w.1 with ing := { w.1.ing with captures := others } }).complete c.q c.d { bytes := res }
    else { w.1 with ing := { w.1.ing with captures := others ++ [c2] } }

/-- The write position of stream `n` moves one frame on, modulo 2^32 (R119). -/
def State.stepWpos (s : State) (n : Nat) : State :=
  let pos := s.rd (F.ING_STRn_WPOS_WPOS n)
  (s.setStream n { s.stream n with wrapped := (s.stream n).wrapped || decide (pos + 1 = 2 ^ 32) }).wr (F.ING_STRn_WPOS_WPOS n) (pos + 1)

/-- A frame of stream `n` has come to stand in its buffer: WPOS, the tray count, the mirror and the captures take it, and a GAP frame raises its
flag, register and event entry (R119, R130, R136, R137). -/
def State.framePublished (s : State) (n : Nat) (trays : List (List Samp × (Bytes × Bool))) (bytes : Bytes) : State :=
  let t := (s.stepWpos n).wideAdd Reg.ING_TRAYCNT_LO trays.length
  let t := t.mirrorFrame n trays
  let t := (t.ing.captures.filter (fun c => decide (c.stream = n))).foldl (fun x c => x.captureFrame c trays bytes) t
  if trays.any (fun x => x.1.any (fun y => y.gap)) then
    (((t.wr F.ING_GAPSTR_VALID 1).wr F.ING_GAPSTR_STREAM n).flag F.ING_STAT_GAP F.ING_CTL_IE_GAP).ingEntry 5 n
  else t

/-- A frame of stream `n` written into its buffer, trays and stamps before the header, and published (R117). -/
def State.publishFrame (s : State) (n : Nat) (samples : List Samp) : State :=
  if samples = [] ∨ s.on (F.ING_STRn_CFG_EN n) = false then s
  else
    let trays := (chunks 14 7 samples).map (fun l => (l, trayBytes (l.map (fun x => x.v)) (s.streamEmin n)))
    let l := s.rd (F.ING_STRn_CFG_LOG2F n)
    let pos := s.rd (F.ING_STRn_WPOS_WPOS n)
    let bytes := frameBytes (framePhase pos l) n trays false
    (s.put (bedStoreBase + s.rd (F.ING_STRn_CFG_BASE n) * 512 + 512 * (pos % 2 ^ l)) bytes).framePublished n trays bytes

/-- The oldest analyser frame of stream `n` on its way has reached its buffer whole: it is published (R117, R134). -/
def State.frameLanded (s : State) (n : Nat) : State :=
  match (s.stream n).flight with
  | f :: r => (s.setStream n { s.stream n with flight := r }).framePublished n [f.tray] f.bytes
  | [] => s

/-- The lines of a frame of stream `n` at `a` as they pass the bridge: the tray lines, bytes 8 to 63 of line 0, and the header word last (R117). -/
def frameLines (n a : Nat) (bytes : Bytes) : List BridgeLine :=
  (List.range 7).map (fun i => ⟨a + 64 * (i + 1), (bytes.drop (64 * (i + 1))).take 64, false, false, .plain⟩) ++
    [⟨a + 8, (bytes.drop 8).take 56, false, false, .plain⟩, ⟨a, bytes.take 8, false, false, .analyser n⟩]

/-- The open frame published as it stands. -/
def State.publishOpen (s : State) (n : Nat) : State :=
  let st := s.stream n
  (s.setStream n { st with buf := [] }).publishFrame n st.buf

/-- A sample of input instant `instant` placed in the open frame of stream `n`, which is published when its seventh tray fills; one of an
instant before the enabling write is not the stream's (R117, R120). -/
def State.placeAt (s : State) (n instant : Nat) (x : Samp) : State :=
  let st := s.stream n
  if s.on (F.ING_STRn_CFG_EN n) = false ∨ instant < st.since then s
  else
    let buf := st.buf ++ [{ x with gap := st.gap }]
    let t := s.setStream n { st with buf := buf, gap := false }
    if buf.length = 98 then t.publishOpen n else t

/-- A sample whose stamp is its input instant placed in the open frame. -/
def State.placeSample (s : State) (n : Nat) (x : Samp) : State := s.placeAt n x.t x

/-- FRAME_FLUSH_TIMEOUT: the oldest sample has waited FLUSH × 125 µs (R120). -/
def execFrameFlushTimeout (n : Nat) (s : State) : Host.Outcome State Fault Refusal :=
  .next (
    match (s.stream n).buf with
    | x :: _ =>
      if s.bedOn = true ∧ n < 112 ∧ 0 < s.rd (F.ING_STRn_CFG_FLUSH n) ∧
          x.entered + s.rd (F.ING_STRn_CFG_FLUSH n) * 125000 ≤ s.now then s.publishOpen n
      else s
    | [] => s)

/-- Stream `n` stops: the analyser frames on their way through the bridge still reach the buffer and are not published. -/
def State.dropFlight (s : State) (n : Nat) : State :=
  let t := s.setStream n { s.stream n with flight := [] }
  if (s.stream n).flight = [] then s
  else { t with bridge := { t.bridge with inbound := t.bridge.inbound.map (fun l => if l.frame = .analyser n then { l with frame := .plain } else l) } }

/-- A write of ING_STRn_CFG (R117, R138): EN = 0 publishes the open frame; an enabling write whose buffer is misaligned or
outside the Bed store leaves EN = 0 with CFGREJ, else the write position is 0; LOG2F and BASE of an enabled stream stand. -/
def State.streamCfgWrite (s : State) (n : Nat) (v : W32) : State :=
  let key := Reg.ING_STRn_CFG n
  if listedAt key v = false then s
  else if s.on (F.ING_STRn_CFG_EN n) then
    if getBits v 31 31 = 0 then ((s.publishOpen n).dropFlight n).applyWrite key v
    else if getBits v 29 26 ≠ s.rd (F.ING_STRn_CFG_LOG2F n) ∨ getBits v 15 0 ≠ s.rd (F.ING_STRn_CFG_BASE n) then
      s.wr F.ING_STAT_CFGREJ 1
    else s.applyWrite key v
  else if getBits v 31 31 = 0 then s.applyWrite key v
  else
    let size := 512 * 2 ^ getBits v 29 26
    let base := getBits v 15 0 * 512
    if base % size ≠ 0 ∨ 0x2000000 < base + size then (s.applyWrite key (setBits v 31 31 0)).wr F.ING_STAT_CFGREJ 1
    else ((s.applyWrite key v).wr (F.ING_STRn_WPOS_WPOS n) 0).setStream n { s.stream n with buf := [], since := s.now, wrapped := false }

/-- STREAM_ENABLE. -/
def execStreamEnable (agent : Agent) (n : Nat) (value : W32) (s : State) : Host.Outcome State Fault Refusal :=
  .next (if n < 112 then s.gate agent 0x08 (0x400 + 4 * n) (fun t => t.streamCfgWrite n (setBits value 31 31 1)) else s.fail)

/-- STREAM_DISABLE. -/
def execStreamDisable (agent : Agent) (n : Nat) (value : W32) (s : State) : Host.Outcome State Fault Refusal :=
  .next (if n < 112 then s.gate agent 0x08 (0x400 + 4 * n) (fun t => t.streamCfgWrite n (setBits value 31 31 0)) else s.fail)

/-- The newest frame of a stream as a Bed engine finds it (R119): its header word and address; none where the stream is
disabled, has published nothing since, or the header's PHASE is not the one of its position. -/
def State.newestFrame (s : State) (n : Nat) : Option (Nat × Nat) :=
  let pos := s.rd (F.ING_STRn_WPOS_WPOS n)
  let l := s.rd (F.ING_STRn_CFG_LOG2F n)
  if s.on (F.ING_STRn_CFG_EN n) = false ∨ (pos = 0 ∧ (s.stream n).wrapped = false) then none
  else
    let k := (pos + (2 ^ 32 - 1)) % 2 ^ 32
    let a := bedStoreBase + s.rd (F.ING_STRn_CFG_BASE n) * 512 + 512 * (k % 2 ^ l)
    let h := s.mem.readLe a 8
    if bitsOf h 63 63 = framePhase k l then some (h, a) else none

/-- A sample as a consumer reads it: value, stamp, tray flags, whether any of its words is poisoned, and its frame's WPOS. -/
structure Reading where
  v : Frac
  stamp : Nat
  flags : Nat
  poison : Bool
  wpos : Nat
  deriving DecidableEq, Repr

/-- Sample `k` of tray `t` of the frame at `a`. -/
def State.readSample (s : State) (n a h t k : Nat) : Reading :=
  let line := a + 64 * (t + 1)
  { v := traySample (s.mem.readLe line 64) k
    stamp := s.mem.readLe (a + 8 + 8 * t) 8 + k * s.streamPeriod n
    flags := bitsOf h (4 * t + 3) (4 * t)
    poison := s.mem.poisoned a 8 || s.mem.poisoned (a + 8 + 8 * t) 8 ||
      s.mem.poisoned (line + 36 * k / 8) ((36 * k + 35) / 8 - 36 * k / 8 + 1) || s.mem.poisoned (line + 63) 1
    wpos := s.rd (F.ING_STRn_WPOS_WPOS n) }

/-- The newest sample of a stream stamped at or before `limit`, from its newest frame (R119, R274). -/
def State.newestSample (s : State) (n limit : Nat) : Option Reading :=
  match s.newestFrame n with
  | none => none
  | some (h, a) =>
    let count := bitsOf h 50 48
    let nlast := bitsOf h 55 52
    if count = 0 ∨ nlast = 0 ∨ 14 < nlast then none
    else
      let all := ((List.range count).map (fun t =>
        (List.range (if t + 1 = count then nlast else 14)).map (fun k => s.readSample n a h t k))).flatten
      (all.filter (fun r => decide (r.stamp ≤ limit))).getLast?

/-! ### Analogue channels (R121, R122) -/

/-- Whether channel `n`'s trays carry DEG now (R128, R129). -/
def State.chanDeg (s : State) (n : Nat) : Bool := s.ing.degAll || s.mapOn Reg.ING_DEGMAP_LO n

/-- The output period of channel `n` in ns. -/
def State.chanPeriod (s : State) (n : Nat) : Nat := 62500 * 2 ^ s.rd (F.ING_ACHn_CFG_RATE n)

/-- The converter's span: the code limited to -1.02 or -0.02 and +1.02 of full scale, with whether it was beyond. The limits are no whole
number of steps of 2^-24 and are taken towards 0: DESIGN CHOICE, R121 does not round them (notes/assumptions/24.md). -/
def convert (range : Nat) (code : Int) : Int × Bool :=
  let hi : Int := 17112760
  let lo : Int := if range = 0 then -17112760 else -335544
  (clampI lo hi code, decide (code < lo) || decide (hi < code))

/-- The channel's filter: the value of this sample and the filter's next state (R122). -/
def filterStep (filt fpar : Nat) (c : Chan) (x : Int) : Frac × Chan :=
  let xf : Frac := ⟨x, 2 ^ 24⟩
  match filt with
  | 1 =>
    let y := match c.y with
      | none => xf
      | some y => y.add ((xf.sub y).mul ⟨1, 2 ^ fpar⟩)
    (y, { c with y := some y })
  | 2 =>
    let h := (x :: c.hist).take (2 ^ fpar)
    (⟨h.foldl (fun a b => a + b) 0, 2 ^ 24 * h.length⟩, { c with hist := h })
  | _ => (xf, c)

/-- ANALOGUE_SAMPLE: the sample of a grid instant leaves the decimation filter 3 output periods after it. -/
def execAnalogueSample (n instant : Nat) (code : Int) (s : State) : Host.Outcome State Fault Refusal :=
  let p := s.chanPeriod n
  let c := s.chan n
  .next (
    if s.bedOn = false ∨ s.code.analogues ≤ n ∨ s.on (F.ING_ACHn_CFG_EN n) = false ∨ instant % p ≠ 0 ∨ s.now < instant + 3 * p ∨
        instant < c.restart ∨ (match c.last with | some l => decide (instant ≤ l) | none => false) = true then s
    else
      let x := convert (s.rd (F.ING_ACHn_CFG_RANGE n)) code
      let y := filterStep (s.rd (F.ING_ACHn_CFG_FILT n)) (s.rd (F.ING_ACHn_CFG_FPAR n)) c x.1
      (s.setChan n { y.2 with last := some instant }).placeAt n instant
        { t := (instant + 7) / 8 * 8, entered := s.now, v := y.1, sat := x.2, settle := decide (instant < c.settleEnd),
          deg := s.chanDeg n, gap := false })

/-- The converter of channel `n` restarts: the open frame is published, the filter and SETTLE start afresh (R122). -/
def State.chanRestart (s : State) (n : Nat) : State :=
  let p := s.chanPeriod n
  let filt := s.rd (F.ING_ACHn_CFG_FILT n)
  let span := 3 + (if filt = 1 ∨ filt = 2 then 2 ^ s.rd (F.ING_ACHn_CFG_FPAR n) else 0)
  s.setChan n { restart := s.now, settleEnd := s.now + span * p }

/-- A write of ING_ACHn_CFG: one that changes any field other than EMIN restarts the channel. -/
def State.chanCfgWrite (s : State) (n : Nat) (v : W32) : State :=
  let key := Reg.ING_ACHn_CFG n
  if listedAt key v = false then s
  else if s.reg key &&& 0xFFFF0000 = v &&& 0xFFFF0000 then s.applyWrite key v
  else ((s.publishOpen n).applyWrite key v).chanRestart n

/-- ANALOGUE_CFG_WRITE. -/
def execAnalogueCfgWrite (agent : Agent) (n : Nat) (value : W32) (s : State) : Host.Outcome State Fault Refusal :=
  .next (if n < 48 then s.gate agent 0x08 (0x100 + 4 * n) (fun t => t.chanCfgWrite n value) else s.fail)

/-! ### Acoustic channels (R123) -/

/-- A plain sample stamped and entered now. -/
def State.plainSample (s : State) (v : Frac) (sat : Bool) : Samp :=
  { t := s.now, entered := s.now, v := v, sat := sat, settle := false, deg := false, gap := false }

/-- An acoustic channel. -/
def State.acoustic (s : State) (n : Nat) : Acoustic := SMap.get (fun _ => {}) s.ing.acoustics n

/-- An acoustic channel set. -/
def State.setAcoustic (s : State) (n : Nat) (x : Acoustic) : State :=
  { s with ing := { s.ing with acoustics := SMap.set (fun _ => {}) s.ing.acoustics n x } }

/-- ACOUSTIC_HIT: the envelope rises through HIGH; it counts unless the dead time runs or the detector has not re-armed. -/
def execAcousticHit (n : Nat) (rearmed : Bool) (s : State) : Host.Outcome State Fault Refusal :=
  let a := s.acoustic n
  let live := match a.last with
    | none => true
    | some t => rearmed && decide (t + s.rd (F.ING_ACCn_CFG_DEAD n) * 10000 ≤ s.now)
  .next (
    if s.bedOn = true ∧ n < s.code.acousticChannels ∧ s.on (F.ING_ACCn_CFG_EN n) = true ∧ live = true then
      (s.setAcoustic n { a with hits := s.now :: a.hits, last := some s.now }).inc (F.ING_HITn_HITS n)
    else s)

/-- ACOUSTIC_REPORT: at the end of a report period of 2^RPT ms the hits whose crossings fell in it go to stream 48 + n. The first period begins
with the write that enables the channel: DESIGN CHOICE, R123 does not place the periods (notes/assumptions/27.md). -/
def execAcousticReport (n : Nat) (s : State) : Host.Outcome State Fault Refusal :=
  let a := s.acoustic n
  let fin := a.since + 1000000 * 2 ^ s.rd (F.ING_ACCn_CFG_RPT n)
  .next (
    if s.bedOn = true ∧ n < s.code.acousticChannels ∧ s.on (F.ING_ACCn_CFG_EN n) = true ∧ fin ≤ s.now then
      (s.setAcoustic n { a with hits := a.hits.filter (fun t => decide (fin ≤ t)), since := fin }).placeSample (48 + n)
        { s.plainSample (Frac.ofInt (a.hits.filter (fun t => decide (t < fin))).length) false with t := fin }
    else s)

/-- A write of ING_ACCn_CFG: BPHI lies above BPLO / 2 or the register keeps its value; EN = 0, enabling and another RPT begin the counting afresh
(R123, R138). -/
def State.acousticCfgWrite (s : State) (n : Nat) (v : W32) : State :=
  let key := Reg.ING_ACCn_CFG n
  if listedAt key v = false ∨ 2 * getBits v 24 20 ≤ getBits v 29 25 then s
  else
    let t := s.applyWrite key v
    if getBits v 31 31 = 1 ∧ s.on (F.ING_ACCn_CFG_EN n) = true ∧ getBits v 11 8 = s.rd (F.ING_ACCn_CFG_RPT n) then t
    else t.setAcoustic n { since := s.now }

/-- ACOUSTIC_RAW_SAMPLE: with RAW = 1 the band-passed signal goes to stream 56 + n. -/
def execAcousticRawSample (n : Nat) (value : Int) (s : State) : Host.Outcome State Fault Refusal :=
  .next (
    if s.bedOn = true ∧ n < s.code.acousticChannels ∧ s.on (F.ING_ACCn_CFG_EN n) = true ∧ s.on (F.ING_ACCn_CFG_RAW n) = true then
      s.placeSample (56 + n) (s.plainSample ⟨value, 2 ^ 35⟩ false)
    else s)

/-! ### Frequency inputs (R124) -/

/-- A frequency input. -/
def State.freq (s : State) (n : Nat) : FreqIn := SMap.get (fun _ => {}) s.ing.freqs n

/-- A frequency input set. -/
def State.setFreq (s : State) (n : Nat) (x : FreqIn) : State :=
  { s with ing := { s.ing with freqs := SMap.set (fun _ => {}) s.ing.freqs n x } }

/-- Whether input `n` is the second of a pair, whose own configuration is ignored. -/
def State.freqSecond (s : State) (n : Nat) : Bool :=
  decide (n % 2 = 1) && s.on (F.ING_FQn_CFG_EN (n - 1)) && decide (2 ≤ s.rd (F.ING_FQn_CFG_MODE (n - 1)))

/-- FREQ_EDGE: the edge is stamped; a quadrature pair counts. -/
def execFreqEdge (n : Nat) (step : Int) (s : State) : Host.Outcome State Fault Refusal :=
  let f := s.freq n
  .next (
    if s.bedOn = true ∧ n < s.code.freqInputs ∧ (s.on (F.ING_FQn_CFG_EN n) = true ∨ s.freqSecond n = true) then
      let t := s.setFreq n { f with edges := (s.now :: f.edges).take 256 }
      let m := if s.freqSecond n then n - 1 else n
      if t.rd (F.ING_FQn_CFG_MODE m) = 1 + 1 ∧ (step = 1 ∨ step = -1) then
        t.setFreq m { t.freq m with count := (t.freq m).count + step }
      else t
    else s)

/-- The sum of the latest DIV edge intervals; none where fewer have been measured. -/
def intervals (edges : List Nat) (div : Nat) : Option Nat :=
  match edges.head?, edges.drop div with
  | some a, b :: _ => some (a - b)
  | _, _ => none

/-- Whether no edge of input `n` has come for TMO × 10 ms, counted from the start of the measurement while none has come. PHASE is judged on
input n alone: DESIGN CHOICE, R124 does not say whose edges count (notes/assumptions/25.md). -/
def State.freqStill (s : State) (n : Nat) : Bool :=
  decide ((s.freq n).edges.headD (s.freq n).since + s.rd (F.ING_FQn_CFG_TMO n) * 10000000 ≤ s.now)

/-- A phase in turns brought into -0.5 to below 0.5. -/
def wrapTurn (x : Frac) : Frac := x.sub (Frac.ofInt ((x.add ⟨1, 2⟩).floor))

/-- The measurement input `n` carries, with SAT; none where no measurement is complete yet, or PERIOD is timed out and no edge ever came. -/
def State.freqValue (s : State) (n : Nat) : Option (Frac × Bool) :=
  let f := s.freq n
  let div := s.rd (F.ING_FQn_CFG_DIV n)
  match s.rd (F.ING_FQn_CFG_MODE n) with
  | 0 =>
    if s.freqStill n then some (Frac.ofInt 0, false)
    else match intervals f.edges div with
      | some d => if d = 0 then none else some (⟨div * 1000000000, d⟩, false)
      | none => none
  | 1 =>
    if s.freqStill n then f.edges.head?.map (fun e => (⟨(s.now - e : Nat), 1000000000⟩, false))
    else match intervals f.edges div with
      | some d => some (⟨d, div * 1000000000⟩, false)
      | none => none
  | 2 => some (Frac.ofInt f.count, false)
  | _ =>
    if s.freqStill n then some (Frac.ofInt 0, true)
    else match f.edges.head?, (s.freq (n + 1)).edges with
      | some a, b :: c :: _ => if b = c then none else some (wrapTurn ⟨(a : Int) - b, b - c⟩, false)
      | _, _ => none

/-- FREQ_OUTPUT_SAMPLE: stream 64 + n takes the latest complete measurement; before the first one its value is free. -/
def execFreqOutputSample (n : Nat) (s : State) : Host.Outcome State Fault Refusal :=
  .next (
    if s.bedOn = true ∧ n < s.code.freqInputs ∧ s.on (F.ING_FQn_CFG_EN n) = true ∧ s.freqSecond n = false then
      match s.freqValue n with
      | some (v, sat) => s.placeSample (64 + n) (s.plainSample v sat)
      | none => s.tickFree.placeSample (64 + n) (s.plainSample (Frac.ofInt s.freshNat) false)
    else s)

/-- A write of ING_FQn_CFG: PAIR and PHASE are valid for even n only (R124); a MODE or EN change starts the measurement
afresh, of both inputs of a pair. -/
def State.freqCfgWrite (s : State) (n : Nat) (v : W32) : State :=
  let key := Reg.ING_FQn_CFG n
  if listedAt key v = false ∨ (n % 2 = 1 ∧ 2 ≤ getBits v 30 29) then s
  else
    let t := s.applyWrite key v
    let t' := t.setFreq n { since := s.now }
    if getBits v 31 29 = getBits (s.reg key) 31 29 then t
    else if n % 2 = 0 ∧ (2 ≤ getBits v 30 29 ∨ 2 ≤ s.rd (F.ING_FQn_CFG_MODE n)) then t'.setFreq (n + 1) { since := s.now }
    else t'

/-! ### Sensor supplies (R125) -/

/-- A supply fault: output off, the fault shown, SUPFLT, event entries and the record. -/
def State.supplyFault (s : State) (n fault : Nat) : State :=
  if s.bedOn = true ∧ n < s.code.supplies ∧ s.on (F.ING_SUPn_STAT_ON n) = true then
    let t := (s.wr (F.ING_SUPn_STAT_ON n) 0).wr (F.ING_SUPn_STAT_FAULT n) fault
    let t := { t with ing := { t.ing with supOff := SMap.set (fun _ => 0) t.ing.supOff n t.now } }
    (t.flag F.ING_STAT_SUPFLT F.ING_CTL_IE_SUP).ingEvent 4 n sevFault
  else s

/-- SUPPLY_OVERCURRENT. -/
def execSupplyOvercurrent (n : Nat) (s : State) : Host.Outcome State Fault Refusal := .next (s.supplyFault n 1)

/-- SUPPLY_BACKFEED. -/
def execSupplyBackfeed (n : Nat) (s : State) : Host.Outcome State Fault Refusal := .next (s.supplyFault n 2)

/-- A supply's output switched on, its fault cleared. -/
def State.supplyOn (s : State) (n : Nat) : State := (s.wr (F.ING_SUPn_STAT_ON n) 1).wr (F.ING_SUPn_STAT_FAULT n) 0

/-- SUPPLY_RETRY: with RETRY = 1 a faulted supply is tried again 1 s after it switched off. -/
def execSupplyRetry (n : Nat) (s : State) : Host.Outcome State Fault Refusal :=
  .next (
    if s.bedOn = true ∧ n < s.code.supplies ∧ s.on (F.ING_SUPn_CFG_EN n) = true ∧ s.on (F.ING_SUPn_CFG_RETRY n) = true ∧
        s.rd (F.ING_SUPn_STAT_FAULT n) ≠ 0 ∧ SMap.get (fun _ => 0) s.ing.supOff n + 1000000000 ≤ s.now then s.supplyOn n
    else s)

/-- SUPPLY_CURRENT_SAMPLE: the output current in ING_SUPn_STAT and, in A, in stream 104 + n (R118). -/
def execSupplyCurrentSample (n ma : Nat) (s : State) : Host.Outcome State Fault Refusal :=
  .next (
    if s.bedOn = true ∧ n < s.code.supplies then
      (s.wrSat (F.ING_SUPn_STAT_MA n) ma).placeSample (104 + n) (s.plainSample ⟨ma, 1000⟩ false)
    else s)

/-- A write of ING_SUPn_CFG: EN = 0 switches the output off and ends a fault, EN = 1 switches it on unless a fault holds it. -/
def State.supplyCfgWrite (s : State) (n : Nat) (v : W32) : State :=
  let key := Reg.ING_SUPn_CFG n
  if listedAt key v = false then s
  else
    let t := s.applyWrite key v
    if getBits v 31 31 = 0 then (t.wr (F.ING_SUPn_STAT_ON n) 0).wr (F.ING_SUPn_STAT_FAULT n) 0
    else if t.rd (F.ING_SUPn_STAT_FAULT n) = 0 then t.wr (F.ING_SUPn_STAT_ON n) 1
    else t

/-! ### Converter references (R127-R129) -/

/-- The three deviations measured; DRIFT's first rise raises its flag, entries and record (R127). -/
def State.measureRefs (s : State) (ab a b : Int) : State :=
  let t := ((s.wr F.ING_REFDEV_AB_DEV (toPattern 16 ab)).wr F.ING_REFDEV_A_DEV (toPattern 16 a)).wr F.ING_REFDEV_B_DEV (toPattern 16 b)
  let drift := decide (50 < ab.natAbs)
  let t := t.wrB F.ING_REFSTAT_DRIFT drift
  if drift && !t.ing.driftSeen then
    (({ t with ing := { t.ing with driftSeen := true } }).flag F.ING_STAT_REFDRIFT F.ING_CTL_IE_REF).ingEvent 1 0 sevWarning
  else t

/-- Reference `r` (0 REFA, 1 REFB) is outvoted: its channels move to the other and restart, and the move is told (R128). -/
def State.outvote (s : State) (r : Nat) : State :=
  let moved := (List.range s.code.analogues).filter (fun n => decide (s.rd (F.ING_ACHn_CFG_REF n) = r))
  let t := moved.foldl (fun x n => (((x.publishOpen n).mapBit Reg.ING_DEGMAP_LO n true).chanRestart n)) s
  let t := if r = 0 then t.wr F.ING_REFSTAT_AOUT 1 else t.wr F.ING_REFSTAT_BOUT 1
  let t := { t.wr F.ING_REFSTAT_UNRES 0 with ing := { t.ing with degAll := false, devRun := 0 } }
  (t.flag F.ING_STAT_REFMOVE F.ING_CTL_IE_REF).ingEvent 2 r sevFault

/-- The vote is unresolved: UNRES, DEG on every analogue tray, and an event entry when it first comes (R129, R137). -/
def State.unresolved (s : State) : State :=
  let t := { s with ing := { s.ing with degAll := true } }
  if t.on F.ING_REFSTAT_UNRES then t else (t.wr F.ING_REFSTAT_UNRES 1).ingEntry 3 0

/-- The vote of R128. -/
def State.vote (s : State) (a b : Int) : State :=
  if a.natAbs ≤ 100 ∧ 100 < b.natAbs then s.outvote 1
  else if b.natAbs ≤ 100 ∧ 100 < a.natAbs then s.outvote 0
  else s.unresolved

/-- The judgement of a check: with both references in service against each other, with one out against the bandgap alone. -/
def State.judgeRefs (s : State) (ab a b : Int) : State :=
  let one := s.on F.ING_REFSTAT_AOUT || s.on F.ING_REFSTAT_BOUT
  let far := if s.on F.ING_REFSTAT_AOUT then decide (200 < b.natAbs) else if s.on F.ING_REFSTAT_BOUT then decide (200 < a.natAbs)
    else decide (200 < ab.natAbs)
  if far then
    let run := s.ing.devRun + 1
    let t := { s with ing := { s.ing with devRun := run, degAll := s.ing.degAll || !one } }
    if run < 2 then t else if one then t.unresolved else t.vote a b
  else { s.wr F.ING_REFSTAT_UNRES 0 with ing := { s.ing with devRun := 0, degAll := false } }

/-- REFERENCE_CHECK. -/
def execReferenceCheck (ab a b : Int) (s : State) : Host.Outcome State Fault Refusal :=
  .next (if s.bedOn then (s.measureRefs ab a b).judgeRefs ab a b else s)

/-! ### Descriptors (R136) -/

/-- CAPTURE: the descriptor that runs becomes a running capture, which the stream's frames fill and complete. -/
def execCapture (q : Nat) (s : State) : Host.Outcome State Fault Refusal :=
  .next (
    if 8 ≤ q then s
    else
      match (s.ring q).taken.find? (fun d => d.running && decide (d.op = 1) &&
          !s.ing.captures.any (fun c => decide (c.q = q) && decide (c.d = d))) with
      | none => s
      | some d =>
        let n := d.le 16 1
        let cnt := d.le 20 4
        let dest := d.le 24 8
        if 112 ≤ n ∨ cnt = 0 ∨ 2 ^ 20 < cnt ∨ dest % 512 ≠ 0 ∨ s.on (F.ING_STRn_CFG_EN n) = false then s.complete q d { status := 2 }
        else if (inBedRange dest 512 || inDramRange s.code dest 512) = false then s.complete q d { status := 5 }
        else { s with ing := { s.ing with captures := s.ing.captures ++ [⟨q, d, n, dest, cnt, 0, 0, none, d.started⟩] } })

/-- REFCHECK: the measurement of R127 at once, without voting. -/
def execRefcheck (q : Nat) (ab a b : Int) (s : State) : Host.Outcome State Fault Refusal :=
  .next (if q < 8 then
    s.serve q 2 (fun _ t => (t.measureRefs ab a b,
      { bytes := resultOf [(24, 2, toPattern 16 ab), (26, 2, toPattern 16 a), (28, 2, toPattern 16 b)] }))
  else s)

end Sys2Proof.Machine
end

