-- ==== Sys2Proof/Machine/Codes.lean ====
section
/-! DEFINITION. Check codes and number formats that tables in memory carry: CRC-32 of the IEEE 802.3 polynomial, CRC-24Q, binary32,
BF16, and SHA-384. -/

namespace Sys2Proof.Machine

/-- One reflected CRC step per bit. -/
def crcBits (poly : Nat) : Nat → Nat → Nat
  | 0, c => c
  | k + 1, c => crcBits poly k (if c % 2 = 1 then (c / 2).xor poly else c / 2)

/-- CRC-32 with the IEEE 802.3 polynomial: reflected, all ones in, inverted out. -/
def crc32 (b : Bytes) : Nat :=
  (b.foldl (fun c x => crcBits 0xEDB88320 8 (c.xor x.toNat)) 0xFFFFFFFF).xor 0xFFFFFFFF

/-- One CRC step per bit, most significant bit first, for a 24-bit register. -/
def crc24Bits : Nat → Nat → Nat
  | 0, c => c
  | k + 1, c => crc24Bits k (if c.testBit 23 then ((c * 2) % 2 ^ 24).xor 0x864CFB else c * 2)

/-- CRC-24Q: polynomial 0x864CFB, register 0 at the start. -/
def crc24q (b : Bytes) : Nat := b.foldl (fun c x => crc24Bits 8 (c.xor (x.toNat * 2 ^ 16))) 0

/-- A binary32 pattern as an exact value; none for an infinity or a NaN. -/
def f32 (w : Nat) : Option Frac :=
  let e := bitsOf w 30 23
  let m := bitsOf w 22 0
  let sign : Int := if bitAt w 31 then -1 else 1
  if e = 255 then none
  else
    let k := if e = 0 then 1 else e
    let x := if e = 0 then m else 2 ^ 23 + m
    some (if 150 ≤ k then ⟨sign * (x * 2 ^ (k - 150) : Nat), 1⟩ else ⟨sign * x, 2 ^ (150 - k)⟩)

/-- A BF16 pattern: the upper half of a binary32. -/
def bf16 (w : Nat) : Option Frac := f32 (w % 65536 * 65536)

/-! ### SHA-384 -/

/-- The first primes, those below 410. -/
def shaPrimes : List Nat :=
  (List.range 410).filter (fun n => decide (2 ≤ n) && (List.range 19).all (fun d => decide (n ≤ d + 2) || decide (n % (d + 2) ≠ 0)))

/-- The greatest `x` below `lo + 2 ^ bits` whose power `k` is at most `n`, sought from the top bit down. -/
def powRoot (k n lo : Nat) : Nat → Nat
  | 0 => lo
  | b + 1 => powRoot k n (if (lo + 2 ^ b) ^ k ≤ n then lo + 2 ^ b else lo) b

/-- The first 64 fraction bits of the root of degree `k` of a prime (notes/assumptions/71.md). -/
def rootBits (k p : Nat) : BitVec 64 := BitVec.ofNat 64 (powRoot k (p * 2 ^ (64 * k)) 0 72)

/-- The round constants, from the cube roots of the first 80 primes; the initial value, from the square roots of the ninth to the sixteenth. -/
def shaK : List (BitVec 64) := shaPrimes.map (rootBits 3)
def shaInit : List (BitVec 64) := ((shaPrimes.drop 8).take 8).map (rootBits 2)

/-- A word mixed with itself: rotated right by each of `rot`, and shifted right by `sh` where that is not 0. -/
def shaMix (rot : List Nat) (sh : Nat) (x : BitVec 64) : BitVec 64 :=
  rot.foldl (fun a r => a ^^^ x.rotateRight r) (if sh = 0 then 0 else x >>> sh)

/-- The message schedule grown by `k` words; the list is newest first. -/
def shaGrow : Nat → List (BitVec 64) → List (BitVec 64)
  | 0, w => w
  | k + 1, w => shaGrow k ((w.getD 15 0 + shaMix [1, 8] 7 (w.getD 14 0) + w.getD 6 0 + shaMix [19, 61] 6 (w.getD 1 0)) :: w)

/-- One round on the eight working words, the newest first: `choose` takes bits of the sixth or seventh word by the fifth, `most` the bits most
of the first three hold. -/
def shaRound (v : List (BitVec 64)) (kw : BitVec 64 × BitVec 64) : List (BitVec 64) :=
  let at' := fun i => v.getD i 0
  let choose := at' 6 ^^^ (at' 4 &&& (at' 5 ^^^ at' 6))
  let most := (at' 0 &&& (at' 1 ||| at' 2)) ||| (at' 1 &&& at' 2)
  let up := kw.1 + kw.2 + at' 7 + choose + shaMix [14, 18, 41] 0 (at' 4)
  (up + most + shaMix [28, 34, 39] 0 (at' 0)) :: v.take 3 ++ (at' 3 + up) :: (v.drop 4).take 3

/-- The words of a block of 128 bytes. -/
def shaWords (b : Bytes) : List (BitVec 64) :=
  (List.range 16).map (fun i => BitVec.ofNat 64 (((b.drop (8 * i)).take 8).foldl (fun x y => x * 256 + y.toNat) 0))

/-- One block hashed in. -/
def shaBlock (h : List (BitVec 64)) (b : Bytes) : List (BitVec 64) :=
  let w := (shaGrow 64 (shaWords b).reverse).reverse
  List.zipWith (· + ·) h ((List.zip shaK w).foldl shaRound h)

/-- Blocks hashed in; `fuel` bounds them. -/
def shaBlocks : Nat → List (BitVec 64) → Bytes → List (BitVec 64)
  | 0, h, _ => h
  | k + 1, h, b => if b = [] then h else shaBlocks k (shaBlock h (b.take 128)) (b.drop 128)

/-- The SHA-384 digest of a run of bytes, 48 bytes. -/
def sha384 (b : Bytes) : Bytes :=
  let pad := (239 - b.length % 128) % 128
  let m := b ++ [0x80] ++ List.replicate pad 0 ++ (leBytes 16 (8 * b.length)).reverse
  (((shaBlocks (m.length / 128 + 1) shaInit m).take 6).map (fun w => (leBytes 8 w.toNat).reverse)).flatten

end Sys2Proof.Machine
end

