-- ==== Sys2Proof/Machine/Camera.lean ====
section
/-! DEFINITION. Camera links, frame assembly, output slots and the HEVC encoder (R139-R161). The spec gives the order and the parameters of the
pipeline's stages and no arithmetic for the noise filters, the shading interpolation, the demosaic and the scaler, nor the encoder's: where a
value passes through one of them it is free content in the form R152 fixes (notes/assumptions/2.md). -/

namespace Sys2Proof.Machine

/-! ### State access -/

/-- Camera inputs by code (R2). -/
def Code.cameras (c : Code) : Nat := c.pick 12 8 4

/-- A camera link. -/
def State.link (s : State) (n : Nat) : CamLink := SMap.get (fun _ => {}) s.cam.links n

/-- A camera link set. -/
def State.setLink (s : State) (n : Nat) (x : CamLink) : State :=
  { s with cam := { s.cam with links := SMap.set (fun _ => {}) s.cam.links n x } }

/-- The state of a link (R141): 0 OFF, 1 TRAIN, 2 LOCKED, 3 STREAM, 4 LOST. -/
def State.linkState (s : State) (n : Nat) : Nat := s.rd (F.CAM_LNKn_STAT_STATE n)

/-- A link's state entered, with CAM_LINKUP. -/
def State.linkEnter (s : State) (n st : Nat) : State :=
  (s.wr (F.CAM_LNKn_STAT_STATE n) st).mapBit Reg.CAM_LINKUP n (decide (st = 3))

/-- Whether link `n` exists and the pipeline is powered. -/
def State.linkOk (s : State) (n : Nat) : Bool := s.engineUp 1 && decide (n < s.code.cameras)

/-- A link event on rings 96 and 97 (R160). -/
def State.camEvent (s : State) (tag n : Nat) : State :=
  let r := resultOf [(24, 1, n), (28, 8, s.now)]
  (((s.eventEntry 96 0x80 tag 0 r true).1).eventEntry 97 0x80 tag 0 r true).1

/-- A refused write: previous contents kept, CFGREJ, BADCFG (R161). -/
def State.camReject (s : State) (cause unit : Nat) : State :=
  ((s.wr F.CAM_BADCFG_CAUSE cause).wr F.CAM_BADCFG_UNIT unit).flag F.CAM_STAT_CFGREJ F.CAM_CTL_IE_CFG

/-! ### Budgets (R143, R144) -/

/-- Nominal and slow-corner pipeline figures in tenths of Mpixel/s. -/
def Code.pipeFigures (c : Code) : Nat × Nat := c.pick (36000, 28125) (24000, 18750) (12000, 9375)

/-- Nominal and slow-corner encoder figures in tenths of Mpixel/s. -/
def Code.encFigures (c : Code) : Nat × Nat := c.pick (20000, 15625) (14000, 10938) (7000, 5469)

/-- `a / b` rounded up. -/
def ceilDiv (a b : Nat) : Nat := (a + b - 1) / b

/-- The declared rate of link `n` in pixel/s. -/
def State.linkRate (s : State) (n : Nat) : Nat :=
  s.rd (F.CAM_LNKn_GEOM_ACTW n) * s.rd (F.CAM_LNKn_GEOM_ACTH n) * s.rd (F.CAM_LNKn_TIME_FPSMAX n)

/-- The declared sum over enabled links, and link `extra` too where it is given, in Mpixel/s rounded up. -/
def State.linkSum (s : State) (extra : Option Nat) : Nat :=
  ceilDiv ((List.range 12).foldl (fun x n =>
    if s.on (F.CAM_LNKn_CTL_EN n) ∨ extra = some n then x + s.linkRate n else x) 0) 1000000

/-- The declared rate of session `n` in pixel/s: the exact quotient is rounded up in the sum. -/
def State.sessionRate (s : State) (n : Nat) : Nat × Nat :=
  let l := s.rd (F.CAM_ENCs_CFG_SRC n)
  (s.rd (F.CAM_LNKn_CSIZE_W l) * s.rd (F.CAM_LNKn_CSIZE_H l) * s.rd (F.CAM_LNKn_TIME_FPSMAX l), s.rd (F.CAM_ENCs_CFG_FPSDIV n))

/-- The declared sum over enabled sessions, in Mpixel/s rounded up. -/
def State.encSum (s : State) (extra : Option Nat) : Nat :=
  let t := (List.range 24).foldl (fun (x : Frac) n =>
    if s.on (F.CAM_ENCs_CFG_EN n) ∨ extra = some n then x.add ⟨(s.sessionRate n).1, max 1 (s.sessionRate n).2⟩ else x) (Frac.ofInt 0)
  (-(((t.mul ⟨-1, 1000000⟩).floor))).toNat

/-- The budget registers brought up to date. -/
def State.camBudget (s : State) : State :=
  let a := s.linkSum none
  let b := s.encSum none
  let t := ((s.wrSat F.CAM_BUDGET_SUM a).wrSat F.CAM_ENCBUDGET_SUM b).wrB F.CAM_STAT_OVERSLOW (decide (s.code.pipeFigures.2 < 10 * a))
  let t := t.wrB F.CAM_STAT_ENCOVERSLOW (decide (s.code.encFigures.2 < 10 * b))
  let t := t.wr F.CAM_PACEREQ_PACE (if t.on F.CAM_STAT_OVERSLOW then ceilDiv (a * 10240) s.code.pipeFigures.1 else 0)
  t.wr F.CAM_ENCPACEREQ_PACE (if t.on F.CAM_STAT_ENCOVERSLOW then ceilDiv (b * 10240) s.code.encFigures.1 else 0)

/-- Pixels of the last second, in Mpixel/s, with the events that still count. -/
def windowRate (now : Nat) (l : List (Nat × Nat)) : Nat × List (Nat × Nat) :=
  let k := l.filter (fun x => decide (now < x.1 + 1000000000))
  (k.foldl (fun a x => a + x.2) 0 / 1000000, k)

/-- CAM_PIXRATE and CAM_ENCLOAD after pixels were received, processed and coded. -/
def State.camRates (s : State) (inPx donePx encPx : Nat) : State :=
  let add (l : List (Nat × Nat)) (n : Nat) := if n = 0 then l else l ++ [(s.now, n)]
  let a := windowRate s.now (add s.cam.pixIn inPx)
  let b := windowRate s.now (add s.cam.pixDone donePx)
  let c := windowRate s.now (add s.cam.pixEnc encPx)
  let t := { s with cam := { s.cam with pixIn := a.2, pixDone := b.2, pixEnc := c.2 } }
  ((t.wrSat F.CAM_PIXRATE_IN a.1).wrSat F.CAM_PIXRATE_DONE b.1).wrSat F.CAM_ENCLOAD_MPIX c.1

/-- The two rates brought up to date as time passes (R161). -/
def State.camAge (s : State) : State :=
  if s.cam.pixIn = [] ∧ s.cam.pixDone = [] ∧ s.cam.pixEnc = [] then s else s.camRates 0 0 0

/-! ### Output slots (R151, R152) -/

/-- A size rounded up to a multiple of `g`. -/
def roundUp (n g : Nat) : Nat := ceilDiv n g * g

/-- The size register of output `o` (0 display, 1 coding, 2 machine vision): width and height. -/
def State.outSize (s : State) (n o : Nat) : Nat × Nat :=
  match o with
  | 0 => (s.rd (F.CAM_LNKn_DSIZE_W n), s.rd (F.CAM_LNKn_DSIZE_H n))
  | 1 => (s.rd (F.CAM_LNKn_CSIZE_W n), s.rd (F.CAM_LNKn_CSIZE_H n))
  | _ => (s.rd (F.CAM_LNKn_MSIZE_W n), s.rd (F.CAM_LNKn_MSIZE_H n))

/-- log2 of the slots of an output. -/
def State.outLog2 (s : State) (n o : Nat) : Nat :=
  match o with
  | 0 => s.rd (F.CAM_LNKn_CTL_DLOG2 n)
  | 1 => s.rd (F.CAM_LNKn_CTL_CLOG2 n)
  | _ => s.rd (F.CAM_LNKn_CTL_MLOG2 n)

/-- The base address of an output's slots. -/
def State.outBase (s : State) (n o : Nat) : Nat :=
  4096 * (match o with
    | 0 => s.rd (F.CAM_BUFn_DBASE_BASE n)
    | 1 => s.rd (F.CAM_BUFn_CBASE_BASE n)
    | _ => s.rd (F.CAM_BUFn_MBASE_BASE n))

/-- Whether output `o` of link `n` is enabled (OUTEN: bit 2 display, bit 1 coding, bit 0 machine vision). -/
def State.outOn (s : State) (n o : Nat) : Bool := bitAt (s.rd (F.CAM_LNKn_CTL_OUTEN n)) (2 - o)

/-- Bytes of a pixel row of output `o`. -/
def rowBytes (o w : Nat) : Nat := if o = 0 then 4 * w else if o = 1 then 2 * w else w

/-- The row stride of an output. -/
def State.outStride (s : State) (n o : Nat) : Nat := roundUp (rowBytes o (s.outSize n o).1) 64

/-- The planes of an output: the first byte after the header and the rows of each (R152). -/
def State.outPlanes (s : State) (n o : Nat) : List (Nat × Nat) :=
  let st := s.outStride n o
  let h := (s.outSize n o).2
  match o with
  | 0 => [(64, h)]
  | 1 => [(64, h), (64 + st * h, h / 2)]
  | _ => if s.on (F.CAM_LNKn_CTL_MVFMT n) then [(64, h)] else [(64, h), (64 + st * h, h), (64 + 2 * st * h, h)]

/-- Bytes of a slot: header and planes, rounded up to 4 KiB. -/
def State.slotBytes (s : State) (n o : Nat) : Nat :=
  roundUp (64 + (s.outPlanes n o).foldl (fun a p => a + p.2 * s.outStride n o) 0) 4096

/-- The key of a slot. -/
def slotKey (n o k : Nat) : Nat := (n * 3 + o) * 128 + k

/-- What a slot holds. -/
def State.slotInfo (s : State) (key : Nat) : SlotInfo := SMap.get (fun _ => {}) s.cam.slots key

/-- The address of a slot. -/
def State.slotAddr (s : State) (n o k : Nat) : Nat := s.outBase n o + k * s.slotBytes n o

/-- The oldest slot of an output that no engine holds (R151). -/
def State.freeSlot (s : State) (n o : Nat) : Option Nat :=
  ((List.range (2 ^ s.outLog2 n o)).filter (fun k => !s.cam.holds.contains (slotKey n o k))).foldl (fun b k => match b with
    | none => some k
    | some j => if (s.slotInfo (slotKey n o k)).order < (s.slotInfo (slotKey n o j)).order then some k else some j) none

/-- The newest slot of an output written at or before `when0` (0: the newest). -/
def State.newestSlot (s : State) (n o when0 : Nat) : Option Nat :=
  ((List.range (2 ^ s.outLog2 n o)).filter (fun k =>
      let i := s.slotInfo (slotKey n o k)
      decide (0 < i.order) && (decide (when0 = 0) || decide (i.tfs ≤ when0)))).foldl (fun b k => match b with
    | none => some k
    | some j => if (s.slotInfo (slotKey n o j)).order < (s.slotInfo (slotKey n o k)).order then some k else some j) none

/-- The header of a slot as its 64 bytes. -/
def slotHeader (fseq tfs w h stride flags : Nat) : Bytes :=
  leBytes 4 fseq ++ leBytes 4 0 ++ leBytes 8 tfs ++ leBytes 2 w ++ leBytes 2 h ++ leBytes 4 stride ++ leBytes 4 flags ++ leBytes 36 0

/-- Whether line `i` of a frame that was closed after `f.lines` lines is a pad line (R147). -/
def CamFrame.padLine (f : CamFrame) (i : Nat) : Bool := decide (f.lines ≤ i) || f.padIdx.contains i

/-- Whether the pad value comes out of the pipeline as value 0: it does not lie above the black level, and the tables in force add no offset and
start the tone curve at 0. -/
def State.padDark (s : State) (f : CamFrame) : Bool :=
  decide (s.rd F.CAM_PAD_PAD ≤ getBits (f.force.getD 1 0) 13 0) &&
  (((SMap.get (fun _ => []) f.tables 1).drop 18).all (fun b => b == 0)) && (((SMap.get (fun _ => []) f.tables 2).take 2).all (fun b => b == 0))

/-- The rows of `rows` output rows that pad lines alone fill, of an active frame of `ah` lines. -/
def CamFrame.padRows (f : CamFrame) (ah rows : Nat) : List Nat :=
  (List.range rows).filter (fun r =>
    (List.range (ceilDiv ((r + 1) * ah) rows - r * ah / rows)).all (fun j => f.padLine (r * ah / rows + j)))

/-- The content of a plane of an output, and the 16-bit word that a row of value 0 repeats (R152): 0 on the display, luma 64 and chroma 512 in bits
[15:6] for coding, -128 for machine vision. -/
def planeContent (o plane seed : Nat) : Content × Nat :=
  match o, plane with
  | 0, _ => (.display seed, 0)
  | 1, 0 => (.luma seed, 0x1000)
  | 1, _ => (.chroma seed, 0x8000)
  | _, _ => (.any seed, 0x8080)

/-- The planes of a slot at `a` written: every sample in its format, the rows that pad lines fill dark where the pad value is. -/
def State.writePlanes (s : State) (n o a : Nat) (f : CamFrame) : State :=
  let st := s.outStride n o
  let dark := s.padDark f
  let ah := s.rd (F.CAM_LNKn_GEOM_ACTH n)
  (s.outPlanes n o).zipIdx.foldl (fun x p =>
    let c := planeContent o p.2 x.free
    let t := x.putContent (a + p.1.1) (st * p.1.2) c.1
    if dark then
      (f.padRows ah p.1.2).foldl (fun y r =>
        y.put (a + p.1.1 + st * r) ((List.replicate (st / 2) (leBytes 2 c.2)).flatten)) t
    else t) s

/-- A frame written into an output's oldest free slot: planes first, header last; 0xFF where every slot is held or the output is
disabled. -/
def State.writeSlot (s : State) (n o : Nat) (f : CamFrame) : State × Nat :=
  if s.outOn n o = false then (s, 0xFF)
  else
    match s.freeSlot n o with
    | none => (s, 0xFF)
    | some k =>
      let a := s.slotAddr n o k
      let z := s.outSize n o
      let t := s.writePlanes n o a f
      let t := t.put a (slotHeader f.fseq f.tfs z.1 z.2 (s.outStride n o) f.flags)
      let i : SlotInfo := ⟨f.fseq, f.tfs, t.cam.order + 1, f.flags⟩
      ({ t with cam := { t.cam with order := t.cam.order + 1, slots := SMap.set (fun _ => {}) t.cam.slots (slotKey n o k) i } }, k)

/-- An engine takes hold of a slot, or lets it go. -/
def State.holdSlot (s : State) (key : Nat) : State := { s with cam := { s.cam with holds := key :: s.cam.holds } }
def State.dropSlot (s : State) (key : Nat) : State := { s with cam := { s.cam with holds := s.cam.holds.erase key } }

/-! ### Enabling and disabling a link (R141, R144, R161) -/

/-- Whether the active size is as CAM_LNKn_GEOM asks. -/
def geomOk (w h : Nat) : Bool :=
  decide (64 ≤ w ∧ w ≤ 4096 ∧ 64 ≤ h ∧ h ≤ 4096 ∧ w % 8 = 0 ∧ w * h ≤ 8388608)

/-- Whether an output size is as R152 asks. -/
def outSizeOk (o aw ah w h : Nat) : Bool :=
  decide (64 ≤ w ∧ w ≤ aw ∧ 64 ≤ h ∧ h ≤ ah ∧ aw ≤ 8 * w ∧ ah ≤ 8 * h) && (decide (o ≠ 1) || decide (w % 2 = 0 ∧ h % 2 = 0))

/-- Bytes of a history line (R149). -/
def histLine (w : Nat) : Nat := 64 + w * 12 / 8

/-- Why enabling link `n` is refused; 0 where it is not. -/
def State.linkCause (s : State) (n : Nat) : Nat :=
  let aw := s.rd (F.CAM_LNKn_GEOM_ACTW n)
  let ah := s.rd (F.CAM_LNKn_GEOM_ACTH n)
  let outs := (List.range 3).filter (fun o => s.outOn n o)
  if s.code.pipeFigures.1 < 10 * s.linkSum (some n) then 1
  else if geomOk aw ah = false then 2
  else if (s.rd (F.CAM_LNKn_NR_TEMP n) ≠ 0 ∧ inDramRange s.code (4096 * s.rd (F.CAM_BUFn_HBASE_BASE n)) (ah * histLine aw) = false) ∨
      outs.any (fun o => !inDramRange s.code (s.outBase n o) (2 ^ s.outLog2 n o * s.slotBytes n o)) = true then 3
  else if outs.any (fun o => !outSizeOk o aw ah (s.outSize n o).1 (s.outSize n o).2) = true then 4
  else 0

/-- The values in force of the registers taken at a frame start (R150). -/
def State.linkForce (s : State) (n : Nat) : List W32 :=
  [s.reg (Reg.CAM_LNKn_NR n), s.reg (Reg.CAM_LNKn_BLACK n), s.reg (Reg.CAM_LNKn_WB n), s.reg (Reg.CAM_LNKn_SYNC n)]

/-- The open frame of a link closed: padded where it is short (R147). -/
def State.closeFrame (s : State) (n extra : Nat) : State :=
  let l := s.link n
  match l.frame with
  | none => s
  | some f =>
    let short := decide (f.lines < s.rd (F.CAM_LNKn_GEOM_ACTH n))
    let g := { f with flags := f.flags ||| extra ||| (if short then 4 else 0), dur := min (s.now - f.tfs) 0xFFFFFFFF }
    s.setLink n { l with frame := none, mode := .orphan, closed := l.closed ++ [g] }

/-- FFLAGS bits (R160). -/
def ffStopped : Nat := 0x10
def ffNofe : Nat := 0x20
def ffOverrun : Nat := 0x200
def ffParity : Nat := 0x8000

/-- The slots of a link forgotten. -/
def State.forgetSlots (s : State) (n : Nat) : State :=
  { s with cam := { s.cam with slots := SMap.keep (fun k => decide (k / 384 ≠ n)) s.cam.slots } }

/-- A link goes OFF: the open frame closes, power over coax is off, INFO reads 0. -/
def State.linkOff (s : State) (n extra : Nat) : State :=
  let t := ((s.closeFrame n extra).linkEnter n 0).wr (F.CAM_LNKn_INFO_REMID n) 0
  ((t.wr (F.CAM_LNKn_CTL_EN n) 0).wr (F.CAM_LNKn_STAT_POCFLT n) 0).camBudget

/-- A link starts training. -/
def State.linkStart (s : State) (n : Nat) : State :=
  let l := s.link n
  let t := ((s.forgetSlots n).linkEnter n 1).wr (F.CAM_LNKn_STAT_TRAINRETRY n) 0
  (t.setLink n { l with trainStart := s.now, fails := 0, lastStart := none, stalled := false, mode := .orphan, frame := none,
                        prevSeq := none, inForce := s.linkForce n }).camBudget

/-- A write of CAM_LNKn_CTL. -/
def State.linkCtlWrite (s : State) (n : Nat) (v : W32) : State :=
  let key := Reg.CAM_LNKn_CTL n
  if listedAt key v = false then s
  else if s.on (F.CAM_LNKn_CTL_EN n) then
    if (s.reg key) &&& 0x7FFFFFC0 ≠ v &&& 0x7FFFFFC0 then s.camReject 5 n
    else if getBits v 31 31 = 0 then s.linkOff n ffStopped
    else s
  else if getBits v 31 31 = 0 then s.applyWrite key v
  else
    let t := s.applyWrite key (setBits v 31 31 0)
    let cause := t.linkCause n
    if cause = 0 then (t.applyWrite key v).linkStart n else s.camReject cause n

/-- LINK_ENABLE. -/
def execLinkEnable (agent : Agent) (n : Nat) (value : W32) (s : State) : Host.Outcome State Fault Refusal :=
  .next (if n < 12 then s.gate agent 0x17 (0x100 + 0x40 * n) (fun t => t.linkCtlWrite n (setBits value 31 31 1)) else s.fail)

/-- LINK_DISABLE. -/
def execLinkDisable (agent : Agent) (n : Nat) (value : W32) (s : State) : Host.Outcome State Fault Refusal :=
  .next (if n < 12 then s.gate agent 0x17 (0x100 + 0x40 * n) (fun t => t.linkCtlWrite n (setBits value 31 31 0)) else s.fail)

/-! ### Link events (R140-R142) -/

/-- LINK_TRAIN_TIMEOUT: no lock within 100 ms; the tenth consecutive failure raises TRAINFAIL, after which retries come every
1 s. -/
def execLinkTrainTimeout (n : Nat) (s : State) : Host.Outcome State Fault Refusal :=
  let l := s.link n
  .next (
    if s.linkOk n = true ∧ s.linkState n = 1 ∧ l.trainStart + 100000000 ≤ s.now then
      let t := (s.inc (F.CAM_LNKn_STAT_TRAINRETRY n)).setLink n
        { l with fails := l.fails + 1, trainStart := if l.fails + 1 < 10 then s.now else s.now + 900000000 }
      if l.fails + 1 = 10 then t.camEvent 3 n else t
    else s)

/-- LINK_LOCK: TRAIN to LOCKED with the serialiser's ID and a LOCKED entry; LOST to LOCKED. -/
def execLinkLock (n remId : Nat) (s : State) : Host.Outcome State Fault Refusal :=
  .next (
    if s.linkOk n = false then s
    else if s.linkState n = 1 then
      ((((s.setLink n { s.link n with fails := 0, mode := .orphan }).linkEnter n 2).wr (F.CAM_LNKn_INFO_REMID n) remId)).camEvent 1 n
    else if s.linkState n = 4 then (s.setLink n { s.link n with mode := .orphan }).linkEnter n 2
    else s)

/-- LINK_LOCK_LOST: STREAM to LOST; the open frame closes as STOPPED. -/
def execLinkLockLost (n : Nat) (s : State) : Host.Outcome State Fault Refusal :=
  .next (if s.linkOk n = true ∧ s.linkState n = 3 then ((s.closeFrame n ffStopped).linkEnter n 4).camEvent 2 n else s)

/-- The frame period P in ns, rounded down to a multiple of 8 (R142). -/
def State.framePeriod (s : State) (n : Nat) : Nat := 1000000000 / s.rd (F.CAM_LNKn_TIME_FPSMAX n) / 8 * 8

/-- FRAME_SYNC_SEND: at each time t with t mod P = SYNCOFF µs. -/
def execFrameSyncSend (n : Nat) (s : State) : Host.Outcome State Fault Refusal :=
  let l := s.link n
  .next (
    if s.linkOk n = true ∧ s.on (F.CAM_LNKn_CTL_EN n) = true ∧ s.on (F.CAM_LNKn_TIME_SYNC n) = true ∧ 0 < s.framePeriod n ∧
        s.now % s.framePeriod n = getBits (l.inForce.getD 3 0) 31 16 * 1000 then
      s.setLink n { l with lastSync := some s.now }
    else s)

/-- POC_OVERCURRENT. -/
def execPocOvercurrent (n : Nat) (s : State) : Host.Outcome State Fault Refusal :=
  .next (
    if s.linkOk n = true ∧ s.on (F.CAM_LNKn_CTL_EN n) = true ∧ s.on (F.CAM_LNKn_CTL_POC n) = true ∧
        s.on (F.CAM_LNKn_STAT_POCFLT n) = false then
      ((s.wr (F.CAM_LNKn_STAT_POCFLT n) 1).setLink n { s.link n with pocOff := s.now }).camEvent 5 n
    else s)

/-- POC_RETRY: every 1 s while POC remains 1. -/
def execPocRetry (n : Nat) (s : State) : Host.Outcome State Fault Refusal :=
  .next (
    if s.linkOk n = true ∧ s.on (F.CAM_LNKn_CTL_POC n) = true ∧ s.on (F.CAM_LNKn_STAT_POCFLT n) = true ∧
        (s.link n).pocOff + 1000000000 ≤ s.now then s.wr (F.CAM_LNKn_STAT_POCFLT n) 0
    else s)

/-! ### Frame assembly (R145-R147, R150) -/

/-- The link whose line the pipeline takes next: highest PRIO, then oldest line (R145). -/
def State.nextLine (s : State) : Option Nat :=
  (List.range 12).foldl (fun b n => match (s.link n).buffer with
    | [] => b
    | a :: _ => match b with
      | none => some n
      | some m =>
        let pn := s.rd (F.CAM_LNKn_CTL_PRIO n)
        let pm := s.rd (F.CAM_LNKn_CTL_PRIO m)
        if pm < pn ∨ (pn = pm ∧ a < (s.link m).buffer.headD 0) then some n else some m) none

/-- The buffer registers of a link and CAM_BACKLOG brought up to date. -/
def State.bufferRegs (s : State) (n : Nat) : State :=
  let t := s.wr (F.CAM_LNKn_STAT_BUFLINES n) (s.link n).buffer.length
  let total := (List.range 12).foldl (fun a k => a + (t.link k).buffer.length) 0
  (t.wr F.CAM_BACKLOG_NOW total).peak F.CAM_BACKLOG_PEAK total

/-- The pipeline takes up to `k` buffered lines. -/
def State.serveLines (s : State) (k : Nat) : State :=
  match k with
  | 0 => s
  | j + 1 =>
    match s.nextLine with
    | none => s
    | some n =>
      let l := s.link n
      (((s.setLink n { l with buffer := l.buffer.tail }).bufferRegs n).camRates 0 (s.rd (F.CAM_LNKn_GEOM_ACTW n)) 0).serveLines j

/-- The tables loaded since the last frame start become active, and the registers taken at a frame start come into force. -/
def State.takeTables (s : State) (n : Nat) : State × Bool :=
  let l := s.link n
  let active := l.loaded.foldl (fun m k => SMap.set (fun _ => []) m k (SMap.get (fun _ => []) l.shadow k)) l.active
  ((s.setLink n { l with active := active, loaded := [], inForce := s.linkForce n }).incBy F.CAM_TABCNT_CNT l.loaded.length,
    !l.loaded.isEmpty)

/-- A frame skipped whole (R145, R147). -/
def State.skipFrame (s : State) (n : Nat) : State :=
  let l := s.link n
  ((s.setLink n { l with skip := min 255 (l.skip + 1), mode := .skipped }).wideAdd Reg.CAM_SKIPCNT_LO 1).flag
    F.CAM_STAT_SKIP F.CAM_CTL_IE_SKIP

/-- FRAME_START. -/
def execFrameStart (n served : Nat) (s : State) : Host.Outcome State Fault Refusal :=
  .next (
    if s.linkOk n = false ∨ (s.linkState n ≠ 2 ∧ s.linkState n ≠ 3) then s
    else
      let t := ((s.serveLines served).closeFrame n ffNofe).linkEnter n 3
      let x := t.takeTables n
      let t := x.1.setLink n { x.1.link n with lastFs := s.now, stalled := false }
      let l := t.link n
      let p := t.framePeriod n
      let gap := l.lastStart.map (fun a => s.now - a)
      let early := match gap with
        | some g => decide (10 * g < 9 * p)
        | none => false
      let late := match gap with
        | some g => decide (3 * p < 2 * g)
        | none => false
      if early = true ∨ 32 < l.buffer.length then t.skipFrame n
      else
        let seq := (t.rd (F.CAM_LNKn_FSEQ_FSEQ n) + 1) % 2 ^ 32
        let f : CamFrame := { fseq := seq, tfs := s.now, lastLine := s.now, force := l.inForce, tables := l.active,
                              flags := (if late then 0x40 else 0) + (if x.2 then 0x10000 else 0) }
        ((t.wr (F.CAM_LNKn_FSEQ_FSEQ n) seq).wideAdd Reg.CAM_FRAMECNT_LO 1).setLink n
          { l with frame := some f, lastStart := some s.now })

/-- A header error (R147): the packet is discarded. -/
def State.headerError (s : State) (n : Nat) : State :=
  let l := s.link n
  let t := s.inc (F.CAM_LNKn_ERRCNT_HDR n)
  match l.frame with
  | some f => t.setLink n { l with frame := some { f with flags := f.flags ||| 0x100 } }
  | none => t

/-- The CSI-2 data type that CAM_LNKn_CTL.DT selects, and the factor that brings its values to 14 bits (R139). -/
def State.linkType (s : State) (n : Nat) : Nat × Nat :=
  match s.rd (F.CAM_LNKn_CTL_DT n) with
  | 0 => (0x2B, 16)
  | 1 => (0x2C, 4)
  | _ => (0x2D, 1)

/-- Whether a packet is of the link's virtual channel and data type; any other is discarded (R139). -/
def State.linkTakes (s : State) (n : Nat) (p : CamLine) : Bool :=
  decide (p.vc = s.rd (F.CAM_LNKn_CTL_VC n)) && decide (p.dt = (s.linkType n).1)

/-- A line as placed: its pixels in 14-bit units, cut or padded to ACTW, or pad alone where its CRC failed (R139, R147). -/
def State.placedLine (s : State) (n : Nat) (px : List Nat) (crcBad : Bool) : List Nat :=
  let aw := s.rd (F.CAM_LNKn_GEOM_ACTW n)
  let pad := s.rd F.CAM_PAD_PAD
  if crcBad then List.replicate aw pad
  else
    let l := (px.take aw).map (fun v => v * (s.linkType n).2)
    l ++ List.replicate (aw - l.length) pad

/-- An image line. -/
def State.imageLine (s : State) (n : Nat) (line : List Nat) (crcBad : Bool) : State :=
  let px := line.length
  let l := s.link n
  let aw := s.rd (F.CAM_LNKn_GEOM_ACTW n)
  match l.frame with
  | none =>
    match l.mode with
    | .orphan => (s.inc (F.CAM_LNKn_ORPHAN_CNT n)).wideAdd Reg.CAM_ORPHCNT_LO 1
    | .skipped => s
    | .dropped => s.inc (F.CAM_LNKn_DROPL_CNT n)
  | some f =>
    if s.rd (F.CAM_LNKn_GEOM_ACTH n) ≤ f.lines then
      s.setLink n { l with frame := some { f with flags := f.flags ||| 8, lastLine := s.now } }
    else if 64 ≤ l.buffer.length then
      let t := s.closeFrame n ffOverrun
      (t.setLink n { t.link n with mode := .dropped }).inc (F.CAM_LNKn_DROPL_CNT n)
    else
      let g := { f with lines := f.lines + 1, lastLine := s.now, raw := f.raw ++ [s.placedLine n line crcBad] }
      let g := if crcBad then { g with nbad := g.nbad + 1, flags := g.flags ||| 0x80, padIdx := g.padIdx ++ [f.lines] }
        else if px < aw then { g with nshort := g.nshort + 1, flags := g.flags ||| 1 }
        else if aw < px then { g with nlong := g.nlong + 1, flags := g.flags ||| 2 }
        else g
      let t := if crcBad then s.inc (F.CAM_LNKn_ERRCNT_CRC n) else s
      ((t.setLink n { l with frame := some g, buffer := l.buffer ++ [s.now] }).bufferRegs n).camRates aw 0 0

/-- LINE_ARRIVAL. -/
def execLineArrival (n : Nat) (px : CamLine) (crcBad hdrErr frameEnd : Bool) (served : Nat) (s : State) : Host.Outcome State Fault Refusal :=
  .next (
    if s.linkOk n = false ∨ (s.linkState n ≠ 2 ∧ s.linkState n ≠ 3) then s
    else
      let t := s.serveLines served
      let t := if hdrErr then t.headerError n else t
      let t := if px.px = [] ∨ t.linkTakes n px = false then t else t.imageLine n px.px crcBad
      if frameEnd = true ∧ px.vc = t.rd (F.CAM_LNKn_CTL_VC n) then
        match (t.link n).frame with
        | some _ => t.closeFrame n 0
        | none => t
      else t)

/-- LINE_TIMEOUT: no line for LINETMO within an open frame. -/
def execLineTimeout (n : Nat) (s : State) : Host.Outcome State Fault Refusal :=
  .next (match (s.link n).frame with
    | some f =>
      if s.linkOk n = true ∧ f.lastLine + s.rd (F.CAM_LNKn_TIME_LINETMO n) * 1000 ≤ s.now then s.closeFrame n ffStopped else s
    | none => s)

/-- FRAME_STALL: no frame start for FRMTMO, told once per stall. -/
def execFrameStall (n : Nat) (s : State) : Host.Outcome State Fault Refusal :=
  let l := s.link n
  .next (
    if s.linkOk n = true ∧ s.linkState n = 3 ∧ l.stalled = false ∧ l.lastFs + s.rd (F.CAM_LNKn_TIME_FRMTMO n) * 1000000 ≤ s.now then
      (s.setLink n { l with stalled := true }).camEvent 4 n
    else s)

/-! ### Processing (R149, R151, R155, R157, R160) -/

/-- A poison event: counted, with its interrupt (R157). -/
def State.camPoison (s : State) : State :=
  let t := s.inc F.CAM_POISCNT_CNT
  if t.on F.CAM_CTL_IE_POIS then t.irqBoth (.status Reg.CAM_POISCNT 0) else t

/-- 12-bit pixels packed two to 3 bytes (R149). -/
def pack12 : List Nat → Bytes
  | a :: b :: r => leBytes 3 (a % 4096 + 4096 * (b % 4096)) ++ pack12 r
  | [a] => leBytes 3 (a % 4096)
  | [] => []

/-- Pixel `j` of a packed history line. -/
def unpack12 (b : Bytes) (j : Nat) : Nat :=
  let v := leAt b (3 * (j / 2)) 3
  if j % 2 = 0 then v % 4096 else v / 4096

/-- What stage 2 writes back for a raw line with no spatial filtering: the raw pixel where no history is used or the difference exceeds MOTTHR,
a free blend elsewhere; the top 12 of its 14 bits (R149; notes/assumptions/28.md). -/
def State.temporalLine (s : State) (hit : Bool) (motthr : Nat) (raw : List Nat) (hist : Bytes) : List Nat :=
  raw.zipIdx.map (fun p =>
    let h := 4 * unpack12 hist p.2
    if hit = true ∧ max p.1 h - min p.1 h ≤ motthr then Config.freeNat (s.free + p.2) % 4096 else p.1 / 4)

/-- Stage 2 of one line: its history is used only where the tag carries the previous frame's number and the line is clean; the result and the tag
are written back in one write, which with the lines rewritten just before it, from `run` on, cleans every granule it completes. The flags
collected: bit 10 TNRRESET, bit 11 POISONHIST. -/
def State.historyLine (s : State) (n i run : Nat) (f : CamFrame) (flags : Nat) : State × Nat :=
  let w := s.rd (F.CAM_LNKn_GEOM_ACTW n)
  let size := histLine w
  let a := 4096 * s.rd (F.CAM_BUFn_HBASE_BASE n) + i * size
  let nr := f.force.getD 0 0
  let bad := s.mem.poisoned a size
  let hit := decide ((s.link n).prevSeq = some (s.mem.readLe a 4)) && !bad
  let t := if bad then s.camPoison else s
  let tag := leBytes 4 f.fseq ++ leBytes 60 0
  let t :=
    if getBits nr 31 24 = 0 then
      { t.put a (tag ++ pack12 (t.temporalLine hit (getBits nr 15 0) (f.raw.getD i []) (s.mem.readBytes (a + 64) (size - 64)))) with free := t.free + w }
    else (t.put a tag).putFree (a + 64) (size - 64)
  ({ t with mem := t.mem.remark run (a + size - run) false }, flags ||| (if hit then 0 else 0x400) ||| (if bad then 0x800 else 0))

/-- Stage 2 of a frame: every line that is not a pad line, where TEMP is not 0. The third component is where the run of rewritten lines began. -/
def State.historyFrame (s : State) (n : Nat) (f : CamFrame) : State × Nat :=
  if getBits (f.force.getD 0 0) 23 16 = 0 then (s, 0)
  else
    let size := histLine (s.rd (F.CAM_LNKn_GEOM_ACTW n))
    let base := 4096 * s.rd (F.CAM_BUFn_HBASE_BASE n)
    let r := (List.range f.lines).foldl (fun (x : (State × Nat) × Nat) i =>
      if f.padIdx.contains i then (x.1, base + (i + 1) * size) else (x.1.1.historyLine n i x.2 f x.1.2, x.2)) ((s, 0), base)
    r.1

/-- An encoder session. -/
def State.session (s : State) (k : Nat) : EncSession := SMap.get (fun _ => {}) s.cam.sessions k

/-- An encoder session set, with CAM_ENCs_STAT.PEND. -/
def State.setSession (s : State) (k : Nat) (x : EncSession) : State :=
  ({ s with cam := { s.cam with sessions := SMap.set (fun _ => {}) s.cam.sessions k x } }).wr (F.CAM_ENCs_STAT_PEND k) x.pend.length

/-- The sessions that hold coding slot `k` of link `n` as their oldest picture release it uncoded (R155). -/
def State.releaseOldest (s : State) (n k : Nat) : State :=
  (List.range 24).foldl (fun x i =>
    let e := x.session i
    match e.pend with
    | p :: r =>
      if e.src = n ∧ p.slot = k then
        (((x.dropSlot (slotKey n 1 k)).setSession i { e with pend := r, skip := min 255 (e.skip + 1) }).inc (F.CAM_ENCs_SKIP_CNT i)).flag
          F.CAM_STAT_SKIP F.CAM_CTL_IE_SKIP
      else x
    | [] => x) s

/-- The coding slots of link `n` that the encoder holds (R151). -/
def State.heldCoding (s : State) (n : Nat) : List Nat :=
  (List.range (2 ^ s.outLog2 n 1)).filter (fun k =>
    (List.range 24).any (fun i => decide ((s.session i).src = n) && (s.session i).pend.any (fun p => decide (p.slot = k))))

/-- The encoder holds at most 3 coding slots of a link: beyond that the oldest is released (R151, R155). -/
def State.trimHolds (s : State) (n : Nat) : State :=
  let held := s.heldCoding n
  if held.length ≤ 3 then s
  else
    match held.foldl (fun (b : Option Nat) k => match b with
        | none => some k
        | some j => if (s.slotInfo (slotKey n 1 k)).order < (s.slotInfo (slotKey n 1 j)).order then some k else some j) none with
    | some k => s.releaseOldest n k
    | none => s

/-- A picture of link `n` offered to session `k`: every FPSDIV-th admitted frame waits (R154, R155). -/
def State.offerPicture (s : State) (k n : Nat) (p : Picture) : State :=
  if s.on (F.CAM_ENCs_CFG_EN k) = false ∨ s.on F.CAM_ENCCTL_EN = false ∨ (s.session k).src ≠ n ∨ (s.session k).stopping = true then s
  else
    let e := s.session k
    let t := s.setSession k { e with seen := e.seen + 1 }
    if e.seen % max 1 (s.rd (F.CAM_ENCs_CFG_FPSDIV k)) ≠ 0 ∨ p.slot = 0xFF then t
    else ((t.holdSlot (slotKey n 1 p.slot)).setSession k { e with seen := e.seen + 1, pend := e.pend ++ [p] }).trimHolds n

/-- The result bytes of a frame descriptor (R160). -/
def frameResult (f : CamFrame) (ds cs ms : Nat) : Bytes :=
  resultOf [(24, 4, f.fseq), (28, 8, f.tfs), (36, 4, f.dur), (40, 2, f.lines), (42, 2, f.nshort), (44, 2, f.nlong), (46, 2, f.nbad),
    (48, 4, f.flags), (52, 1, f.skip), (53, 1, ds), (54, 1, cs), (55, 1, ms)]

/-- FRAME_PROCESSED. -/
def execFrameProcessed (n : Nat) (s : State) : Host.Outcome State Fault Refusal :=
  let l := s.link n
  .next (match l.closed with
    | f0 :: rest =>
      if s.linkOk n then
        let h := s.historyFrame n f0
        let free := (List.range 3).map (fun o => h.1.outOn n o && (h.1.freeSlot n o).isNone)
        let f := { f0 with skip := l.skip, flags := f0.flags ||| h.2 ||| (if free.getD 0 false then 0x1000 else 0) |||
                            (if free.getD 1 false then 0x2000 else 0) ||| (if free.getD 2 false then 0x4000 else 0) }
        let d := h.1.writeSlot n 0 f
        let c := d.1.writeSlot n 1 f
        let m := c.1.writeSlot n 2 f
        let t := m.1.setLink n { m.1.link n with closed := rest, prevSeq := some f.fseq, skip := 0 }
        let t := (List.range 24).foldl (fun x k => x.offerPicture k n ⟨c.2, f.fseq, f.tfs⟩) t
        (t.looseEntry 94 0x81 n 0 0 (bitAt f.flags 11) (frameResult f d.2 c.2 m.2)
          (decide (f.flags % 0x10000 ≠ 0) || decide (f.skip ≠ 0))).1
      else s
    | [] => s)

/-! ### The encoder (R154-R156) -/

/-- A write of CAM_ENCs_CFG. -/
def State.encCfgWrite (s : State) (k : Nat) (v : W32) : State :=
  let key := Reg.CAM_ENCs_CFG k
  let src := getBits v 27 24
  if listedAt key v = false then s
  else if s.on (F.CAM_ENCs_CFG_EN k) then
    if (s.reg key) &&& 0x7FFFFFFF ≠ v &&& 0x7FFFFFFF then s.camReject 5 (k + 12)
    else if getBits v 31 31 = 0 then
      let t := (s.session k).pend.foldl (fun x p => x.dropSlot (slotKey src 1 p.slot)) (s.applyWrite key v)
      ((t.setSession k {}).mapBit Reg.CAM_ENCSTAT k false).camBudget
    else s
  else if getBits v 31 31 = 0 then s.applyWrite key v
  else
    let t := s.applyWrite key (setBits v 31 31 0)
    if s.code.encFigures.1 < 10 * t.encSum (some k) then s.camReject 6 (k + 12)
    else if s.code.cameras ≤ src ∨ t.outOn src 1 = false then s.camReject 7 (k + 12)
    else
      let s := (s.session k).pend.foldl (fun x p => x.dropSlot (slotKey (s.session k).src 1 p.slot)) s
      (((s.applyWrite key v).setSession k { src := src }).mapBit Reg.CAM_ENCSTAT k (s.on F.CAM_ENCCTL_EN)).camBudget

/-- A write of CAM_ENCCTL: EN = 1 needs CAM_BSBASE set, aligned to the buffer and in DRAM. -/
def State.encCtlWrite (s : State) (v : W32) : State :=
  let base := 4096 * s.rd F.CAM_BSBASE_BASE
  let size := 2 ^ s.rd F.CAM_BSCFG_BSLOG2
  if getBits v 0 0 = 1 ∧ (base = 0 ∨ base % size ≠ 0 ∨ inDramRange s.code base size = false) then s.camReject 3 12
  else
    let t := s.plainWrite Reg.CAM_ENCCTL v
    (List.range 24).foldl (fun x k => x.mapBit Reg.CAM_ENCSTAT k (x.on F.CAM_ENCCTL_EN && x.on (F.CAM_ENCs_CFG_EN k))) t

/-- The bytes of the bitstream buffer in use. -/
def State.bsUsed (s : State) : Nat := (s.rd F.CAM_BSWPOS_POS + 2 ^ 32 - s.rd F.CAM_BSRPOS_POS) % 2 ^ 32

/-- The result bytes of an access-unit entry (R160). -/
def auResult (off len : Nat) (p : Picture) (kind qp skip : Nat) : Bytes :=
  resultOf [(24, 4, off), (28, 4, len), (32, 8, p.tfs), (40, 4, p.fseq), (44, 1, kind), (45, 1, qp), (46, 1, skip)]

/-- A session that was told to stop after its present picture stops. -/
def State.encStopIfDue (s : State) (k : Nat) : State :=
  if (s.session k).stopping then
    let t := (s.session k).pend.foldl (fun x p => x.dropSlot (slotKey (s.session k).src 1 p.slot)) s
    (((t.wr (F.CAM_ENCs_CFG_EN k) 0).setSession k {}).mapBit Reg.CAM_ENCSTAT k false).camBudget
  else s

/-- The QP of a picture: QPC under constant QP, else the rate control's, within QPMIN and QPMAX (R154). -/
def State.pictureQp (s : State) (k qp : Nat) : Nat :=
  min (s.rd (F.CAM_ENCs_QP_QPMAX k)) (max (s.rd (F.CAM_ENCs_QP_QPMIN k))
    (if s.rd (F.CAM_ENCs_CFG_RC k) = 0 then s.rd (F.CAM_ENCs_QP_QPC k) else qp))

/-- How an access unit begins in the Annex B format: a start code and the NAL unit header of a VPS before an IDR picture, of a coded slice else
(R154; the codes are ITU-T H.265's, notes/assumptions/29.md). -/
def auHead (idr : Bool) : Bytes := if idr then [0, 0, 0, 1, 0x40, 1] else [0, 0, 0, 1, 0x02, 1]

/-- An access unit of `len` bytes written at `a`: its start, then coded bytes the spec does not give. -/
def State.putUnit (s : State) (a len : Nat) (idr : Bool) : State := (s.putFree a len).put a ((auHead idr).take len)

/-- PICTURE_ENCODE: the session's oldest pending picture is coded, IDR or P; its access unit goes into the bitstream buffer
whole and contiguous, or is dropped with BSFULL (R156). -/
def execPictureEncode (n len qp : Nat) (s : State) : Host.Outcome State Fault Refusal :=
  let e := s.session n
  let src := e.src
  let qp := s.pictureQp n qp
  .next (match e.pend with
    | p :: rest =>
      if s.engineUp 2 = false ∨ 24 ≤ n then s
      else
        let iper := s.rd (F.CAM_ENCs_CFG_IPER n)
        let idr := e.idr || (decide (0 < iper) && decide (iper ≤ e.sinceIdr))
        let slotA := s.slotAddr src 1 p.slot
        let pois := s.mem.poisoned (slotA + 64) (s.slotBytes src 1 - 64)
        let size := 2 ^ s.rd F.CAM_BSCFG_BSLOG2
        let w := s.rd F.CAM_BSWPOS_POS
        let off0 := w % size
        let pad := if size < off0 + len then size - off0 else 0
        let off := (off0 + pad) % size
        let fits := decide (s.bsUsed + pad + len ≤ size)
        let z := s.outSize src 1
        let t := (s.dropSlot (slotKey src 1 p.slot)).camRates 0 0 (z.1 * z.2)
        let t := if pois then t.camPoison else t
        let t := (t.wr (F.CAM_ENCs_STAT_LASTQP n) qp)
        let kind := if idr then 0 else 1
        if fits then
          let t := (t.putUnit (4096 * s.rd F.CAM_BSBASE_BASE + off) len idr).wr F.CAM_BSWPOS_POS (w + pad + len)
          let t := (t.inc (F.CAM_ENCs_AUSEQ_CNT n)).setSession n
            { e with pend := rest, idr := false, sinceIdr := if idr then 1 else e.sinceIdr + 1, skip := 0 }
          ((t.looseEntry 95 0x82 n 0 0 pois (auResult off len p kind qp e.skip) true).1).encStopIfDue n
        else
          let t := ((t.inc F.CAM_AUDROP_CNT).flag F.CAM_STAT_BSFULL F.CAM_CTL_IE_CFG).setSession n
            { e with pend := rest, idr := true, skip := 0 }
          ((t.looseEntry 95 0x82 n 0x41 0 pois (auResult off 0 p kind qp e.skip) true).1).encStopIfDue n
    | [] => s)

/-- A write of CAM_BSRPOS: one that would release bytes beyond CAM_BSWPOS keeps the previous value (R156). -/
def State.bsrposSet (s : State) (v : W32) : State :=
  if s.bsUsed < (v.toNat + 2 ^ 32 - s.rd F.CAM_BSRPOS_POS) % 2 ^ 32 then s else s.setReg Reg.CAM_BSRPOS v

/-- BSRPOS_WRITE. -/
def execBsrposWrite (agent : Agent) (value : W32) (s : State) : Host.Outcome State Fault Refusal :=
  .next (s.gate agent 0x17 0x7F4 (fun t => t.bsrposSet value))

/-- A write of CAM_ENCs_CMD: RESTART starts the stream afresh with an IDR picture, FORCEIDR codes the next picture as IDR. -/
def State.encCmdWrite (s : State) (k : Nat) (v : W32) : State :=
  let e := s.session k
  if getBits v 1 1 = 1 then s.setSession k { e with idr := true, sinceIdr := 0, seen := 0 }
  else if getBits v 0 0 = 1 then s.setSession k { e with idr := true }
  else s

/-- ENC_RESTART. -/
def execEncRestart (agent : Agent) (n : Nat) (s : State) : Host.Outcome State Fault Refusal :=
  .next (if n < 24 then s.gate agent 0x17 (0x81C + 0x20 * n) (fun t => t.encCmdWrite n 2) else s.fail)

/-- ENC_FORCEIDR. -/
def execEncForceidr (agent : Agent) (n : Nat) (s : State) : Host.Outcome State Fault Refusal :=
  .next (if n < 24 then s.gate agent 0x17 (0x81C + 0x20 * n) (fun t => t.encCmdWrite n 1) else s.fail)

/-! ### Opcodes (R159) -/

/-- Bytes of a LOADTAB table. -/
def tableBytes (k : Nat) : Nat := if k = 0 then 8712 else if k = 1 then 24 else 2048

/-- LOADTAB. -/
def execLoadtab (q : Nat) (s : State) : Host.Outcome State Fault Refusal :=
  .next (if q = 92 then
    s.serve q 1 (fun d t =>
      let n := d.le 16 1
      let k := d.le 17 1
      let a := d.le 24 8
      if t.code.cameras ≤ n ∨ 2 < k ∨ a % 64 ≠ 0 then (t, { status := 2 })
      else if inDramRange t.code a (tableBytes k) = false then (t, { status := 5 })
      else if t.mem.poisoned a (tableBytes k) then (t.camPoison, { status := 0x43 })
      else
        let l := t.link n
        (t.setLink n { l with shadow := SMap.set (fun _ => []) l.shadow k (t.mem.readBytes a (tableBytes k)),
                              loaded := insertNat k l.loaded }, {}))
  else s)

/-- CCI: one I²C transaction, sent over the uplink; the camera's answer comes from outside. -/
def execCci (q : Nat) (ack : Bool) (data : Nat) (s : State) : Host.Outcome State Fault Refusal :=
  .next (if q = 92 then
    s.serve q 2 (fun d t =>
      let n := d.le 16 1
      let cnt := d.le 19 1
      if t.code.cameras ≤ n ∨ 128 ≤ d.le 17 1 ∨ cnt = 0 ∨ 8 < cnt then (t, { status := 2 })
      else if t.linkState n ≠ 2 ∧ t.linkState n ≠ 3 then (t, { status := 0x44 })
      else
      let t := t.setLink n { t.link n with sent := [d.le 17 1, d.le 18 1 % 4, cnt, d.le 20 2, if bitAt (d.le 18 1) 0 then 0 else d.le 24 cnt] }
      if ack = false then (t, { status := 0x42 })
      else if bitAt (d.le 18 1) 0 then (t, { bytes := resultOf [(24, 8, data % 2 ^ (8 * cnt))] })
      else (t, {}))
  else s)

/-- One row of an EXPORT, line by line: poisoned source data marks the destination line it lands in (R157). -/
def State.copyRow (s : State) (src dst n : Nat) : State :=
  (List.range (ceilDiv n 64)).foldl (fun x i =>
    let k := min 64 (n - 64 * i)
    x.store (dst + 64 * i) (x.mem.readBytes (src + 64 * i) k) (x.mem.poisoned (src + 64 * i) k)) s

/-- The rows EXPORT copies, as (source, destination) pairs: plane after plane, H rows each at the destination stride. -/
def exportRows (planes : List (Nat × Nat × Nat × Nat)) (dst stride : Nat) : List (Nat × Nat) :=
  (planes.foldl (fun (x : List (Nat × Nat) × Nat) p =>
    (x.1 ++ (List.range p.2.1).map (fun i => (p.1 + i * p.2.2.1, dst + (x.2 + i) * stride)), x.2 + p.2.1)) ([], 0)).1

/-- EXPORT. -/
def execCamExport (q : Nat) (s : State) : Host.Outcome State Fault Refusal :=
  .next (if q = 92 ∨ q = 98 then
    s.serve q 0x10 (fun d t =>
      let n := d.le 16 1
      let o := d.le 17 1
      let x := d.le 20 2
      let y := d.le 22 2
      let w := d.le 24 2
      let h := d.le 26 2
      let stride := d.le 28 4
      let dst := d.le 32 8
      let z := t.outSize n o
      if t.code.cameras ≤ n ∨ 2 < o ∨ stride % 64 ≠ 0 ∨ dst % 64 ≠ 0 ∨ z.1 < x + w ∨ z.2 < y + h ∨ (o = 1 ∧ (x % 2 = 1 ∨ y % 2 = 1 ∨ w % 2 = 1 ∨ h % 2 = 1)) then (t, { status := 2 })
      else
        let st := t.outStride n o
        match t.newestSlot n o (d.le 40 8) with
        | none => (t, { status := 0x40 })
        | some k =>
          let a := t.slotAddr n o k
          let rb := rowBytes o w
          let planes := (t.outPlanes n o).zipIdx.map (fun p =>
            let chroma := o = 1 ∧ p.2 = 1
            (a + p.1.1 + (if chroma then y / 2 else y) * st + rowBytes o x, (if chroma then h / 2 else h), st, rb))
          let rows := exportRows planes dst stride
          if rb ≠ 0 ∧ rows ≠ [] ∧ inDramRange t.code dst ((rows.length - 1) * stride + rb) = false then (t, { status := 5 })
          else
            let pois := rows.any (fun r => t.mem.poisoned r.1 rb)
            let u := rows.foldl (fun v r => (if v.mem.poisoned r.1 rb then v.camPoison else v).copyRow r.1 r.2 rb) t
            let i := t.slotInfo (slotKey n o k)
            (u, { poison := pois, bytes := resultOf [(24, 4, i.fseq), (28, 8, i.tfs), (36, 4, rows.length * rb)] }))
  else s)

/-! ### Other writes and the parity rule (R161) -/

/-- A write of another register of link `n`: the values taken at a frame start may change while the link is enabled, any other
change is refused with ENABLED; GEOM and the output sizes are checked. -/
def State.linkRegWrite (s : State) (n off : Nat) (v : W32) : State :=
  let key := Reg.CAM_LNKn_CTL n + off
  if listedAt key v = false then s
  else if off = 0x10 ∨ off = 0x14 ∨ off = 0x18 then s.applyWrite key v
  else if off = 0x28 then
    if getBits v 31 16 * 1000 < s.framePeriod n then s.applyWrite key v else s
  else if s.on (F.CAM_LNKn_CTL_EN n) ∧ (s.applyWrite key v).reg key ≠ s.reg key then s.camReject 5 n
  else if off = 0x08 then (s.applyWrite key v).camBudget
  else if off = 0x04 ∧ geomOk (getBits v 15 0) (getBits v 31 16) = false then s.camReject 2 n
  else if (off = 0x1C ∨ off = 0x20 ∨ off = 0x24) ∧
      outSizeOk ((off - 0x1C) / 4) (s.rd (F.CAM_LNKn_GEOM_ACTW n)) (s.rd (F.CAM_LNKn_GEOM_ACTH n)) (getBits v 15 0) (getBits v 31 16) = false
      then s.camReject 4 n
  else (s.applyWrite key v).camBudget

/-- A write of a buffer base of link `n`. -/
def State.linkBufWrite (s : State) (n off : Nat) (v : W32) : State :=
  let key := Reg.CAM_BUFn_HBASE n + off
  if s.on (F.CAM_LNKn_CTL_EN n) ∧ (s.applyWrite key v).reg key ≠ s.reg key then s.camReject 5 n else s.plainWrite key v

/-- A write of another register of session `k`. -/
def State.encRegWrite (s : State) (k off : Nat) (v : W32) : State :=
  let key := Reg.CAM_ENCs_CFG k + off
  if off = 0x0C ∧ s.on (F.CAM_ENCs_CFG_EN k) ∧ (s.applyWrite key v).reg key ≠ s.reg key then s.camReject 5 (k + 12)
  else s.plainWrite key v

/-- The further effect of a parity fault in the CAM register at offset `off`. -/
def State.camParity (s : State) (off : Nat) : State :=
  if 0x100 ≤ off ∧ off < 0x400 then s.linkOff ((off - 0x100) / 0x40) ffParity
  else if 0x400 ≤ off ∧ off < 0x4C0 then s.linkOff ((off - 0x400) / 0x10) ffParity
  else if 0x800 ≤ off ∧ off < 0xB00 then
    let k := (off - 0x800) / 0x20
    let t := s.setSession k { s.session k with stopping := true }
    if (t.session k).pend = [] then t.encStopIfDue k else t
  else s

end Sys2Proof.Machine
end

