-- ==== Sys2Proof/Machine/Lift.lean ====
section
/-! DEFINITION. The geometry of the field grid: poses (R169, R170), the lift of camera features (R174), the lidar encoder (R175) and the warp of
the previous grid (R176). Lengths are in m and exact; the real functions the spec names without a precision are opaque but for the values that are
exact (notes/assumptions/2.md), and sums of the lift are FP32. -/

namespace Sys2Proof.Machine

/-! ### Real functions -/

/-- A real function of Config at a value. -/
def realFn (k : Nat) (x : Frac) : Frac := let r := Config.real k x.num x.den; ⟨r.1, max 1 r.2⟩

/-- Cosine and sine of an angle in turns, and of one in radians: exact at 0. -/
def cosTurn (x : Frac) : Frac := if x.num = 0 then ⟨1, 1⟩ else realFn 0 x
def sinTurn (x : Frac) : Frac := if x.num = 0 then ⟨0, 1⟩ else realFn 1 x
def cosRad (x : Frac) : Frac := if x.num = 0 then ⟨1, 1⟩ else realFn 2 x
def sinRad (x : Frac) : Frac := if x.num = 0 then ⟨0, 1⟩ else realFn 3 x

/-- e^x, positive, exact at 0. -/
def expReal (x : Frac) : Frac := if x.num = 0 then ⟨1, 1⟩ else ⟨max 1 (realFn 4 x).num, (realFn 4 x).den⟩

/-- The base-2 logarithm, exact at 1, and 2^x, exact at 0. -/
def log2Real (x : Frac) : Frac := if x.num = x.den then ⟨0, 1⟩ else realFn 5 x
def pow2Real (x : Frac) : Frac := if x.num = 0 then ⟨1, 1⟩ else realFn 6 x

/-- An angle in radians as turns. -/
def turnsOf (x : Frac) : Frac := if x.num = 0 then ⟨0, 1⟩ else realFn 7 x

/-- A BF16 pattern as a number; the spec gives an infinity and a NaN no number, and the one taken is open. -/
def bf16Real (w : Nat) : Frac := (bf16 w).getD (realFn 9 ⟨w, 1⟩)

/-- A value rounded to `p` significant bits as the pattern of a binary format with an 8-bit exponent, ties to even, to infinity where it is too
large: binary32 for p = 24, BF16 for p = 8. -/
def floatBits (p : Nat) (x : Frac) : Nat :=
  if x.num = 0 then 0
  else
    let n := x.num.natAbs
    let e0 : Int := (Nat.log2 n : Int) - Nat.log2 x.den
    let below := if 0 ≤ e0 then decide (n < x.den * 2 ^ e0.toNat) else decide (n * 2 ^ (-e0).toNat < x.den)
    let e := max (-126) (if below then e0 - 1 else e0)
    let q := (Frac.scaled ⟨n, x.den⟩ ((p : Int) - 1 - e)).toNat
    min (255 * 2 ^ (p - 1)) ((e + 126).toNat * 2 ^ (p - 1) + q) + (if x.num < 0 then 2 ^ (p + 7) else 0)

/-- A value rounded to FP32; one beyond its range stands as it is. -/
def toF32 (x : Frac) : Frac := (f32 (floatBits 24 x)).getD x

/-- A value as a BF16 pattern. -/
def toBf16 (x : Frac) : Nat := floatBits 8 x

/-! ### Vectors -/

/-- A point or a direction, in m. -/
structure Vec where
  x : Frac
  y : Frac
  z : Frac
  deriving DecidableEq, Repr

def Vec.add (a b : Vec) : Vec := ⟨a.x.add b.x, a.y.add b.y, a.z.add b.z⟩
def Vec.sub (a b : Vec) : Vec := ⟨a.x.sub b.x, a.y.sub b.y, a.z.sub b.z⟩
def Vec.dot (a b : Vec) : Frac := ((a.x.mul b.x).add (a.y.mul b.y)).add (a.z.mul b.z)

/-- A rotation by its rows. -/
structure Rot where
  a : Vec
  b : Vec
  c : Vec
  deriving DecidableEq, Repr

def Rot.apply (r : Rot) (v : Vec) : Vec := ⟨r.a.dot v, r.b.dot v, r.c.dot v⟩

/-- The inverse of a rotation. -/
def Rot.inv (r : Rot) : Rot := ⟨⟨r.a.x, r.b.x, r.c.x⟩, ⟨r.a.y, r.b.y, r.c.y⟩, ⟨r.a.z, r.b.z, r.c.z⟩⟩

def fr0 : Frac := ⟨0, 1⟩
def fr1 : Frac := ⟨1, 1⟩

/-- Rotations about the axes by an angle given by its cosine and sine, counter-clockwise seen from the axis's positive end. -/
def rotX (c s : Frac) : Rot := ⟨⟨fr1, fr0, fr0⟩, ⟨fr0, c, s.neg⟩, ⟨fr0, s, c⟩⟩
def rotY (c s : Frac) : Rot := ⟨⟨c, fr0, s⟩, ⟨fr0, fr1, fr0⟩, ⟨s.neg, fr0, c⟩⟩
def rotZ (c s : Frac) : Rot := ⟨⟨c, s.neg, fr0⟩, ⟨s, c, fr0⟩, ⟨fr0, fr0, fr1⟩⟩

/-- First `q`, then `p`. -/
def Rot.after (p q : Rot) : Rot :=
  let t := q.inv
  ⟨⟨p.a.dot t.a, p.a.dot t.b, p.a.dot t.c⟩, ⟨p.b.dot t.a, p.b.dot t.b, p.b.dot t.c⟩, ⟨p.c.dot t.a, p.c.dot t.b, p.c.dot t.c⟩⟩

/-- The rotation of a quaternion in units of 2^-30 (R185). -/
def quatRot (w x y z : Int) : Rot :=
  let f (n : Int) : Frac := ⟨n, 2 ^ 60⟩
  ⟨⟨f (w * w + x * x - y * y - z * z), f (2 * (x * y - w * z)), f (2 * (x * z + w * y))⟩,
   ⟨f (2 * (x * y + w * z)), f (w * w - x * x + y * y - z * z), f (2 * (y * z - w * x))⟩,
   ⟨f (2 * (x * z - w * y)), f (2 * (y * z + w * x)), f (w * w - x * x - y * y + z * z)⟩⟩

/-! ### Pose (R169, R170) -/

/-- A pose record: bytes 0 to 44 of R169. -/
structure PoseRec where
  t : Nat
  px : Int
  py : Int
  yaw : Nat
  speed : Int
  yawrate : Int
  pitch : Int
  roll : Int
  hx : Int
  hz : Int
  deriving DecidableEq, Repr

/-- The address of the pose record at index `i`. -/
def State.poseAddr (s : State) (i : Nat) : Nat := 1024 * s.rd F.PRA_POSEBASE_BASE + 64 * (i % 2 ^ s.rd F.PRA_POSECFG_PLOG2)

/-- The pose record at index `i` of the table; none where it is poisoned or not valid. -/
def State.poseRec (s : State) (i : Nat) : Option PoseRec :=
  let a := s.poseAddr i
  if s.mem.poisoned a 64 ∨ (s.mem.readLe (a + 44) 1) % 2 = 0 then none
  else
    let int (o n : Nat) : Int := toSigned (8 * n) (s.mem.readLe (a + o) n)
    some ⟨s.mem.readLe a 8, int 8 8, int 16 8, s.mem.readLe (a + 24) 4, int 28 4, int 32 4, int 36 2, int 38 2, int 40 2, int 42 2⟩

/-- The records of the table that Prairie uses, oldest first: valid, each later than the one before; none while the table is disabled. -/
def State.poses (s : State) : List PoseRec :=
  if s.on F.PRA_POSECFG_EN = false then [] else
  let size := 2 ^ s.rd F.PRA_POSECFG_PLOG2
  let w := s.rd F.PRA_POSEWPOS_WPOS
  ((List.range size).foldl (fun (l : List PoseRec) k =>
    match s.poseRec ((w + 2 ^ 32 - size + k) % 2 ^ 32) with
    | some r => (match l with
      | p :: _ => if p.t < r.t then r :: l else l
      | [] => [r])
    | none => l) []).reverse

/-- The poisoned records of the table (R191). -/
def State.posePoison (s : State) : Nat :=
  if s.on F.PRA_POSECFG_EN then
    ((List.range (2 ^ s.rd F.PRA_POSECFG_PLOG2)).filter (fun i => s.mem.poisoned (s.poseAddr i) 64)).length
  else 0

/-- The newest record at or before time `t` and the first after it. -/
def bracket (t : Nat) : List PoseRec → Option PoseRec × Option PoseRec
  | [] => (none, none)
  | r :: rest => if r.t ≤ t then (match bracket t rest with
      | (none, b) => (some r, b)
      | x => x) else (none, some r)

/-- The shortest turn from one yaw to another. -/
def yawStep (a b : Nat) : Int := toSigned 32 (b + 2 ^ 32 - a)

/-- A record as a pose that is `age` ns old. -/
def PoseRec.pose (r : PoseRec) (age : Nat) : PoseNow :=
  { px := ⟨r.px, 1⟩, py := ⟨r.py, 1⟩, yaw := ⟨r.yaw, 2 ^ 32⟩, pitch := ⟨r.pitch, 65536⟩, roll := ⟨r.roll, 65536⟩, hx := ⟨r.hx, 1⟩, hz := ⟨r.hz, 1⟩,
    age := age, speed := ⟨r.speed, 1⟩, yawrate := ⟨r.yawrate, 1⟩, valid := true }

/-- The machine's motion over `t` s in the frame it starts in, with speed `v` in m/s along x and turn `w` in rad/s: x, y and the angle turned in
radians (R170, R204). -/
def arc (v w t : Frac) : Frac × Frac × Frac :=
  if w.num = 0 then (v.mul t, fr0, fr0)
  else
    let a := w.mul t
    ((v.div w).mul (sinRad a), (v.div w).mul (fr1.sub (cosRad a)), a)

/-- A record's pose carried on by `ns` with its SPEED and YAWRATE. -/
def PoseRec.onward (r : PoseRec) (ns : Nat) : PoseNow :=
  let p := r.pose ns
  let m := arc ⟨r.speed, 1⟩ ⟨r.yawrate, 1000000⟩ ⟨ns, 1000000000⟩
  let c := cosTurn p.yaw
  let d := sinTurn p.yaw
  { p with px := p.px.add ((c.mul m.1).sub (d.mul m.2.1)), py := p.py.add ((d.mul m.1).add (c.mul m.2.1)), yaw := p.yaw.add (turnsOf m.2.2) }

/-- The pose between two records, linear in time. -/
def poseBetween (t : Nat) (a b : PoseRec) : PoseNow :=
  let k (x y : Int) : Int := x * (b.t - a.t : Nat) + (y - x) * (t - a.t : Nat)
  let d := b.t - a.t
  { px := ⟨k a.px b.px, d⟩, py := ⟨k a.py b.py, d⟩, yaw := ⟨k a.yaw (a.yaw + yawStep a.yaw b.yaw), 2 ^ 32 * d⟩,
    pitch := ⟨k a.pitch b.pitch, 65536 * d⟩, roll := ⟨k a.roll b.roll, 65536 * d⟩, hx := ⟨k a.hx b.hx, d⟩, hz := ⟨k a.hz b.hz, d⟩, age := 0,
    speed := ⟨k a.speed b.speed, d⟩, yawrate := ⟨k a.yawrate b.yawrate, d⟩, valid := true }

/-- The pose at time `t` (R170): interpolated between the records that bracket it; beyond the newest carried on from it. Before the oldest record
that one's pose stands, a DESIGN CHOICE (notes/assumptions/30.md). Without a record, or with the table disabled, there is none. -/
def State.poseAt (s : State) (t : Nat) : PoseNow :=
  if s.on F.PRA_POSECFG_EN = false then {}
  else
    match bracket t s.poses with
    | (some a, some b) => if t = a.t then a.pose 0 else poseBetween t a b
    | (some a, none) => if t = a.t then a.pose 0 else a.onward (t - a.t)
    | (none, some b) => b.pose 0
    | (none, none) => {}

/-- Whether a pose was extrapolated for more than 200 ms, and for more than 1 s or is not available at all. -/
def PoseNow.stale (p : PoseNow) : Bool := p.valid && decide (200000000 < p.age)
def PoseNow.lost (p : PoseNow) : Bool := !p.valid || decide (1000000000 < p.age)

/-- PRA_STAT.POSESTALE: the pose at this instant is stale. -/
def State.poseRefresh (s : State) : State := s.wrB F.PRA_STAT_POSESTALE ((s.poseAt s.now).stale)

/-- mm as m. -/
def metres (x : Frac) : Frac := ⟨x.num, x.den * 1000⟩

/-- From machine axes to the local tangent plane: yaw about z after pitch about y after roll about x, an order and signs the spec leaves open
(DESIGN CHOICE, notes/assumptions/30.md). -/
def PoseNow.rot (p : PoseNow) : Rot :=
  (rotZ (cosTurn p.yaw) (sinTurn p.yaw)).after ((rotY (cosTurn p.pitch) (sinTurn p.pitch)).after (rotX (cosTurn p.roll) (sinTurn p.roll)))

/-- A point of the machine frame in the tangent plane, and back. -/
def PoseNow.toPlane (p : PoseNow) (v : Vec) : Vec := (p.rot.apply v).add ⟨metres p.px, metres p.py, fr0⟩
def PoseNow.ofPlane (p : PoseNow) (v : Vec) : Vec := p.rot.inv.apply (v.sub ⟨metres p.px, metres p.py, fr0⟩)

/-- A point of the machine frame at pose `a`, in the frame at pose `b`. -/
def moveFrame (a b : PoseNow) (v : Vec) : Vec := if a = b then v else b.ofPlane (a.toPlane v)

/-! ### Sensors in the machine frame (R174, R185) -/

/-- A point in a sensor's axes, in the machine frame: the record's extrinsics, then the correction (in 1/3.6e12 of its unit), then the header's
offset. The order of the correction's rotations, x then y then z, is a DESIGN CHOICE (notes/assumptions/30.md). -/
def sensorPoint (cal : Bytes) (corr : List Int) (hdr : Bool) (pose : PoseNow) (v : Vec) : Vec :=
  let i (o : Nat) : Int := toSigned 32 (leAt cal o 4)
  let d (k : Nat) (unit : Nat) : Frac := ⟨corr.getD k 0, 3600000000000 * unit⟩
  let m := ((quatRot (i 60) (i 64) (i 68) (i 72)).apply v).add ⟨⟨i 48, 10000⟩, ⟨i 52, 10000⟩, ⟨i 56, 10000⟩⟩
  let turn := (rotZ (cosRad (d 5 1000000)) (sinRad (d 5 1000000))).after
    ((rotY (cosRad (d 4 1000000)) (sinRad (d 4 1000000))).after (rotX (cosRad (d 3 1000000)) (sinRad (d 3 1000000))))
  let m := (turn.apply m).add ⟨d 0 10000, d 1 10000, d 2 10000⟩
  if hdr then m.add ⟨metres pose.hx, fr0, metres pose.hz⟩ else m

/-- The direction (rx, ry) of a sensor pixel: exact for a pinhole without distortion, else the open inverse of Config (R174, R185). -/
def undistort (cal : Bytes) (xs ys : Frac) : Frac × Frac :=
  let c (o : Nat) : Frac := (f32 (leAt cal o 4)).getD fr0
  if leAt cal 1 1 = 0 ∧ (List.range 5).all (fun k => decide ((c (24 + 4 * k)).num = 0)) = true then
    ((xs.sub (c 16)).div (c 8), (ys.sub (c 20)).div (c 12))
  else
    let r := Config.undistort (leAt cal 1 1) ((cal.drop 8).take 36) (xs.num, xs.den) (ys.num, ys.den)
    (⟨r.1.1, max 1 r.1.2⟩, ⟨r.2.1, max 1 r.2.2⟩)

/-- The cell under a point of the grid frame, in m; none outside the grid (R162). -/
def Code.cellAt (c : Code) (x y : Frac) : Option Nat :=
  let i := (x.mul ⟨8, 1⟩).floor
  let j := ((y.add ⟨16, 1⟩).mul ⟨8, 1⟩).floor
  if 0 ≤ i ∧ i < c.pick 512 512 256 ∧ 0 ≤ j ∧ j < 256 then some (i.toNat * 256 + j.toNat) else none

/-- The centre of a cell in the grid frame (R162). -/
def cellCentre (idx : Nat) : Vec := ⟨⟨2 * (idx / 256 : Nat) + 1, 16⟩, ⟨2 * ((idx % 256 : Nat) : Int) + 1 - 256, 16⟩, fr0⟩

/-- Whether a height lies in the network's band, in cm. -/
def Net.inBand (n : Net) (z : Frac) : Bool := Frac.le ⟨n.zmin, 100⟩ z && z.lt ⟨n.zmax, 100⟩

/-! ### The camera lift (R174) -/

/-- Feature `c` of feature pixel (u, v) of a camera's tensor 1, and logit `d` of its tensor 2: what stage 1 wrote is the network's. -/
def Net.feature (n : Net) (f : VisionFrame) (v u c : Nat) : Frac :=
  let k := (v * n.fw + u) * n.fc + c
  if n.wide then bf16Real ((Config.freeByte f.seed (2 * k)).toNat + 256 * (Config.freeByte f.seed (2 * k + 1)).toNat)
  else (Frac.ofInt (toSigned 8 (Config.freeByte f.seed k).toNat)).mul ((f32 n.scale).getD (realFn 9 ⟨n.scale, 1⟩))
def Net.logit (n : Net) (f : VisionFrame) (v u d : Nat) : Frac :=
  let k := 2 ^ 40 + 2 * ((v * n.fw + u) * n.d + d)
  bf16Real ((Config.freeByte f.seed k).toNat + 256 * (Config.freeByte f.seed (k + 1)).toNat)

/-- The softmax over the depth bins of a feature pixel. -/
def Net.depthProbs (n : Net) (f : VisionFrame) (v u : Nat) : List Frac :=
  let es := (List.range n.d).map (fun d => expReal (n.logit f v u d))
  let sum := es.foldl Frac.add fr0
  es.map (fun e => e.div sum)

/-- The range of a depth bin along the optical axis, in m. -/
def Net.depth (n : Net) (d : Nat) : Frac :=
  if d = 0 then ⟨n.dnear, 1000⟩
  else if d + 1 = n.d then ⟨n.dfar, 1000⟩
  else (Frac.mul ⟨n.dnear, 1000⟩ (pow2Real ((log2Real ⟨n.dfar, n.dnear⟩).mul ⟨d, n.d - 1⟩)))

/-- A lift point that falls on the grid: its cell, its weight and its feature pixel. -/
structure CamHit where
  cell : Nat
  p : Frac
  v : Nat
  u : Nat
  deriving DecidableEq, Repr

/-- The least weight with which a feature is lifted. -/
def CamHit.lifted (h : CamHit) : Bool := Frac.le ⟨1, 256⟩ h.p

/-- Where the lift point of depth `d` of feature pixel (u, v) of a camera lies in the grid frame. -/
def CamView.point (c : CamView) (n : Net) (tg : PoseNow) (v u d : Nat) : Vec :=
  let zd := n.depth d
  let r := undistort c.cal ⟨(2 * u + 1 : Nat) * c.aw, 2 * n.fw⟩ ⟨(2 * v + 1 : Nat) * c.ah, 2 * n.fh⟩
  moveFrame c.pose tg (sensorPoint c.cal c.corr c.hdr c.pose ⟨zd.mul r.1, zd.mul r.2, zd⟩)

/-- Every lift point of a camera that falls on the grid, in the order of the rule's loops. -/
def CamView.hits (c : CamView) (code : Code) (n : Net) (tg : PoseNow) : List CamHit :=
  (List.range n.fh).flatMap (fun v => (List.range n.fw).flatMap (fun u =>
    (n.depthProbs c.frame v u).zipIdx.filterMap (fun e =>
      let pm := c.point n tg v u e.2
      if n.inBand pm.z then (code.cellAt pm.x pm.y).map (fun i => ⟨i, e.1, v, u⟩) else none)))

/-- The camera grid, tensor 5: channel `ch` of cell `idx` from the lifted points of the cameras that contribute, as a BF16 pattern. Each sum is
rounded to FP32; products are exact (DESIGN CHOICE, notes/assumptions/30.md). -/
def camGrid (n : Net) (hits : List (CamView × List CamHit)) (idx ch : Nat) : Nat :=
  let l := hits.flatMap (fun x => (x.2.filter (fun h => decide (h.cell = idx) && h.lifted)).map (fun h => (x.1, h)))
  let acc := l.foldl (fun a x => toF32 (a.add (x.2.p.mul (n.feature x.1.frame x.2.v x.2.u ch)))) fr0
  let w := l.foldl (fun a x => toF32 (a.add x.2.p)) fr0
  toBf16 (acc.div (w.max fr1))

/-! ### The lidar encoder (R175) -/

/-- What Prairie reads of a unit's point buffer: the records of its window, and the poisoned lines among the newest ones. -/
structure LidRead where
  recs : List Bytes := []
  bad : Nat := 0
  deriving DecidableEq, Repr

/-- The lines of the buffer of unit `u`, newest first. -/
def State.lidarLines (s : State) (u : Nat) : List Nat :=
  let size := 2 ^ s.rd (F.ETH_LIDu_CFG_LOG2 u)
  let w := s.rd (F.ETH_LIDu_WPOS_WPOS u)
  (List.range (size / 4)).map (fun k => 4096 * s.rd (F.ETH_LIDu_BASE_BASE u) + 64 * (((w + 3) / 4 + size - 1 - k) % (size / 4)))

/-- The point records of a line whose time lies in (TG - LWIN, TG]. -/
def State.linePoints (s : State) (tg lwin a : Nat) : List Bytes :=
  ((List.range 4).map (fun k => s.mem.readBytes (a + 16 * k) 16)).filter (fun r =>
    decide (leAt r 0 8 ≤ tg) && decide (tg < leAt r 0 8 + lwin) && decide (bitsOf (leAt r 8 8) 63 44 ≠ 0))

/-- The window of unit `u`'s points. A poisoned line's times cannot be read: the ones that lie after the newest clean line wholly older than the
window count (DESIGN CHOICE, notes/assumptions/30.md). -/
def State.lidarWindow (s : State) (u tg lwin : Nat) : LidRead :=
  if s.on (F.ETH_LIDu_CFG_EN u) = false then {}
  else
    let r := (s.lidarLines u).foldl (fun (x : LidRead × Bool) a =>
      if s.mem.poisoned a 64 then (if x.2 then x else ({ x.1 with bad := x.1.bad + 1 }, false))
      else
        let l := s.linePoints tg lwin a
        let old := (List.range 4).all (fun k => decide (s.mem.readLe (a + 16 * k) 8 + lwin ≤ tg))
        ({ x.1 with recs := l ++ x.1.recs }, x.2 || old)) ({}, false)
    r.1

/-- A point record as a point of its sensor's axes (R133, R185). -/
def lidarVec (w : Nat) : Vec :=
  let r : Frac := ⟨bitsOf w 63 44, 4000⟩
  let az : Frac := ⟨bitsOf w 43 28, 65536⟩
  let el : Frac := ⟨toSigned 14 (bitsOf w 27 14), 65536⟩
  ⟨(r.mul (cosTurn el)).mul (cosTurn az), (r.mul (cosTurn el)).mul (sinTurn az), r.mul (sinTurn el)⟩

/-- A point record lifted: moved from the pose at its time to the pose at TG; none where it misses the band or the grid. -/
def State.lidarHit (s : State) (n : Net) (tg : PoseNow) (sens : Nat) (excl : Bool) (cal : Bytes) (corr : List Int) (hdr : Bool) (r : Bytes) :
    Option LidHit :=
  let t := leAt r 0 8
  let w := leAt r 8 8
  let pose := s.poseAt t
  let pm := moveFrame pose tg (sensorPoint cal corr hdr pose (lidarVec w))
  if n.inBand pm.z then
    (s.code.cellAt pm.x pm.y).map (fun i =>
      let c := cellCentre i
      ⟨sens, excl, i, t, pm.z, (pm.x.sub c.x).mul ⟨8, 1⟩, (pm.y.sub c.y).mul ⟨8, 1⟩, bitsOf w 13 6, bitsOf w 5 4⟩)
  else none

/-- A point put into a list of points, oldest first. -/
def insertHit (h : LidHit) : List LidHit → List LidHit
  | [] => [h]
  | x :: l => if h.t < x.t then h :: x :: l else x :: insertHit h l

/-- Channel `ch` of the lidar encoding of a cell whose points are `l`, as a BF16 pattern; 0 without points. -/
def lidarChannel (l : List LidHit) (ch : Nat) : Nat :=
  match l with
  | [] => 0
  | h :: r =>
    let n := l.length
    let mean (f : LidHit → Frac) : Frac := (l.foldl (fun a x => a.add (f x)) fr0).mul ⟨1, n⟩
    toBf16 (match ch with
      | 0 => log2Real ⟨1 + n, 1⟩
      | 1 => mean (fun x => x.z)
      | 2 => r.foldl (fun a x => a.max x.z) h.z
      | 3 => r.foldl (fun a x => a.min x.z) h.z
      | 4 => mean (fun x => ⟨x.intens, 255⟩)
      | 5 => mean (fun x => if 0 < x.ret then fr1 else fr0)
      | 6 => mean (fun x => x.dx)
      | _ => mean (fun x => x.dy))

/-- The lidar encoding, tensor 3. -/
def lidarEncoding (pts : List LidHit) (idx ch : Nat) : Nat := lidarChannel (pts.filter (fun h => !h.excl && decide (h.cell = idx))) ch

/-! ### The warp (R176) -/

/-- Channel `ch` of cell `idx` of the previous output grid in the feature store, from its first byte on in the layout of R166 (DESIGN CHOICE,
notes/assumptions/30.md): 0 where the cell or its line is poisoned. -/
def State.prevValue (s : State) (idx ch : Nat) : Frac :=
  let a := featureBase + 2 * (idx * s.code.pick 64 32 32 + ch)
  if 0x8000 ≤ s.pra.cells.getD idx 0 ∨ s.mem.poisoned a 2 = true then fr0 else bf16Real (s.mem.readLe a 2)

/-- `f` sampled bilinearly between cell centres at a point of the grid; beyond the outermost centres the nearest one stands (DESIGN CHOICE,
notes/assumptions/30.md). -/
def Code.bilinear (c : Code) (f : Nat → Frac) (x y : Frac) : Frac :=
  let gx := (x.mul ⟨8, 1⟩).sub ⟨1, 2⟩
  let gy := ((y.add ⟨16, 1⟩).mul ⟨8, 1⟩).sub ⟨1, 2⟩
  let fx := gx.sub (Frac.ofInt gx.floor)
  let fy := gy.sub (Frac.ofInt gy.floor)
  let top : Int := (c.pick 512 512 256 : Nat) - 1
  let at_ (di dj : Int) : Frac := f ((max 0 (min top (gx.floor + di))).toNat * 256 + (max 0 (min 255 (gy.floor + dj))).toNat)
  let lerp (t a b : Frac) : Frac := if t.num = 0 then a else (a.mul (fr1.sub t)).add (b.mul t)
  lerp fx (lerp fy (at_ 0 0) (if fy.num = 0 then fr0 else at_ 0 1)) (if fx.num = 0 then fr0 else lerp fy (at_ 1 0) (if fy.num = 0 then fr0 else at_ 1 1))

/-- The cell centre of `idx` at pose `tg`, in the frame of the previous grid; none where there is no previous grid or the point lies outside it. -/
def State.warpPoint (s : State) (tg : PoseNow) (idx : Nat) : Option Vec :=
  match s.pra.grid with
  | none => none
  | some g =>
    let p := moveFrame tg g.pose (cellCentre idx)
    if (s.code.cellAt p.x p.y).isSome then some p else none

/-- The warped previous grid, tensor 6, as a BF16 pattern. -/
def State.warped (s : State) (restart : Bool) (tg : PoseNow) (idx ch : Nat) : Nat :=
  if restart then 0
  else
    match s.warpPoint tg idx with
    | some p => toBf16 (s.code.bilinear (fun i => s.prevValue i ch) p.x p.y)
    | none => 0

end Sys2Proof.Machine
end

