-- ==== Sys2Proof/Machine/Tokens.lean ====
section
/-! DEFINITION. The maintenance tokens of R511 and R512, which engines and firmware of several chapters hold. -/

namespace Sys2Proof.Machine

/-- Owner IDs beyond the mailbox agents (R512). -/
def ownerUpdate : Nat := 8
def ownerMem : Nat := 9
def ownerNand : Nat := 10
def ownerPrairie : Nat := 11

/-- What a token holds beside its register. -/
def State.token (s : State) (c : Nat) : Token := SMap.get (fun _ => {}) s.toks c

/-- A token set, with its count of waiting requests and its age in ms. -/
def State.setToken (s : State) (c : Nat) (t : Token) : State :=
  (({ s with toks := SMap.set (fun _ => {}) s.toks c t }).wrSat (F.HLT_TOKc_WAIT c) t.waits.length).wrSat (F.HLT_TOKc_SINCE_MS c)
    (if s.on (F.HLT_TOKc_HELD c) then (s.now - t.since) / 1000000 else 0)

/-- Whether `owner` holds the token of class `c`. -/
def State.holdsToken (s : State) (c owner : Nat) : Bool := s.on (F.HLT_TOKc_HELD c) && decide (s.rd (F.HLT_TOKc_OWNER c) = owner)

/-- The token granted; the time waited is measured. A TOKTAKE completes when it is granted (R516). -/
def State.tokGrant (s : State) (c owner act since : Nat) : State :=
  let t := (((s.wr (F.HLT_TOKc_HELD c) 1).wr (F.HLT_TOKc_OWNER c) owner).wr (F.HLT_TOKc_ACT c) act)
  let t := t.measured F.HLT_TOKWAIT_LAST F.HLT_TOKWAIT_PEAK ((s.now - since) / 1000000)
  let t := t.setToken c { s.token c with since := s.now, hourTold := false }
  if act = 0xC then
    match t.hlt.takes.find? (fun x => decide (x.1 = c) && decide (x.2.1 = owner)) with
    | some x => ({ t with hlt := { t.hlt with takes := t.hlt.takes.filter (fun y => decide (y ≠ x)) } }).complete 66 (x.2.2.waited (s.now - since)) {}
    | none => t
  else t

/-- Whether a request is already among those that wait. -/
def State.tokAsked (s : State) (c owner act : Nat) : Bool :=
  (s.token c).waits.any (fun w => decide (w.1 = owner) && decide (w.2.1 = act))

/-- A request placed in order of arrival; of requests of one instant the lower owner ID goes first. -/
def tokInsert (w : Nat × Nat × Nat) (l : List (Nat × Nat × Nat)) : List (Nat × Nat × Nat) :=
  l.filter (fun x => decide (x.2.2 < w.2.2) || decide (x.1 ≤ w.1)) ++ [w] ++ l.filter (fun x => !(decide (x.2.2 < w.2.2) || decide (x.1 ≤ w.1)))

/-- A request: granted at once where the token is free, else it waits. The second component says whether the owner holds it now
for this activity. -/
def State.tokAsk (s : State) (c owner act : Nat) : State × Bool :=
  if s.on (F.HLT_TOKc_HELD c) = false then (s.tokGrant c owner act s.now, true)
  else if s.holdsToken c owner = true ∧ s.rd (F.HLT_TOKc_ACT c) = act then (s, true)
  else if s.tokAsked c owner act then (s, false)
  else (s.setToken c { s.token c with waits := tokInsert (owner, act, s.now) (s.token c).waits }, false)

/-- The token released: the request that has waited longest is granted. -/
def State.tokGive (s : State) (c : Nat) : State :=
  let t := (((s.wr (F.HLT_TOKc_HELD c) 0).wr (F.HLT_TOKc_OWNER c) 0).wr (F.HLT_TOKc_ACT c) 0)
  match (s.token c).waits with
  | w :: rest => (t.setToken c { s.token c with waits := rest }).tokGrant c w.1 w.2.1 w.2.2
  | [] => t.setToken c {}

/-- A waiting request is withdrawn because its activity has ended. -/
def State.tokWithdraw (s : State) (c owner act : Nat) : State :=
  s.setToken c { s.token c with waits := (s.token c).waits.filter (fun w => !(decide (w.1 = owner) && decide (w.2.1 = act))) }

/-- The activities of a unit that stops end: its waiting requests are withdrawn and the tokens it holds are released (R511). -/
def State.tokEnd (s : State) (owner : Nat) : State :=
  (List.range 8).foldl (fun t c =>
    let u := if (t.token c).waits.any (fun w => decide (w.1 = owner)) then
        t.setToken c { t.token c with waits := (t.token c).waits.filter (fun w => decide (w.1 ≠ owner)) } else t
    if u.holdsToken c owner then u.tokGive c else u) s

end Sys2Proof.Machine
end

