-- ==== Sys2Proof/Machine/Prairie.lean ====
section
/-! DEFINITION. Prairie: the field grid (R162-R195). What a stage of the loaded network computes the spec leaves to the network: its tensors are
free values, and what the alignment estimator finds per sensor is an operand (notes/assumptions/2.md). -/

namespace Sys2Proof.Machine

/-! ### State access -/

/-- A sensor. -/
def State.sensor (s : State) (n : Nat) : Sensor := SMap.get (fun _ => {}) s.pra.sensors n

/-- A sensor set. -/
def State.setSensor (s : State) (n : Nat) (x : Sensor) : State :=
  { s with pra := { s.pra with sensors := SMap.set (fun _ => {}) s.pra.sensors n x } }

/-- Cells along x, channels per cell, and the bytes of a grid slot (R162, R164). -/
def Code.gridNi (c : Code) : Nat := c.pick 512 512 256
def Code.gridNc (c : Code) : Nat := c.pick 64 32 32
def Code.gridStride (c : Code) : Nat := c.pick 0x2000000 0x1000000 0x800000
def Code.gridCells (c : Code) : Nat := c.gridNi * 256

/-- Lidar units by code (R2) and the points a grid lifts (R175). -/
def Code.lidars (c : Code) : Nat := c.pick 4 2 1
def Code.lidarPoints (c : Code) : Nat := c.pick 2097152 1048576 524288

/-- Whether the code carries sensor `n` (R171). -/
def Code.hasSensor (c : Code) (n : Nat) : Bool := decide (n < c.cameras) || (decide (12 ≤ n) && decide (n < 12 + c.lidars))

/-- Whether sensor `n` is excluded now. -/
def State.sensExcluded (s : State) (n : Nat) : Bool := (s.sensor n).excluded

/-- A sensor's state shown (R173-R190): 0 OFF, 1 ACTIVE, 2 EXCLUDED, 3 MISMATCH, 4 NODATA. -/
def State.showSensor (s : State) (n st : Nat) : State := s.wr (F.PRA_SENSn_STAT_STATE n) st

/-- A poison event (R191). -/
def State.praPoison (s : State) : State :=
  let t := s.inc F.PRA_POISCNT_CNT
  if t.on F.PRA_CTL_IE_POIS then t.irqBoth (.status Reg.PRA_POISCNT 0) else t

/-- `n` poison events. -/
def State.praPoisons (s : State) (n : Nat) : State := (List.range n).foldl (fun t _ => t.praPoison) s

/-- A refused write (R195, R215). -/
def State.praReject (s : State) (cause unit : Nat) : State :=
  ((s.wr F.PRA_BADCFG_CAUSE cause).wr F.PRA_BADCFG_UNIT unit).flag F.PRA_STAT_CFGREJ F.PRA_CTL_IE_CFG

/-- The result bytes of a PRA event (R194). -/
def State.praResult (s : State) (n : Nat) : Bytes :=
  if n < 16 then
    resultOf [(24, 1, n), (28, 8, s.now), (36, 2, s.rd (F.PRA_SENSn_RES_RES n)), (38, 1, s.rd (F.PRA_SENSn_STAT_CONF n))]
  else resultOf [(28, 8, s.now)]

/-- An event entry on rings 103 and 104. -/
def State.praEvent (s : State) (tag n : Nat) : State :=
  let r := s.praResult n
  (((s.eventEntry 103 0x80 tag 0 r true).1).eventEntry 104 0x80 tag 0 r true).1

/-! ### Corrections (R185-R187) -/

/-- The denominator in which corrections are held: rates are per 3,600 s and periods in ns. -/
def corrDen : Int := 3600000000000

/-- A correction rounded towards zero to the register's unit. -/
def corrShown (c : Int) : Int := Int.tdiv c corrDen

/-- The correction registers brought up to date; LIMIT shows whether any component is at its limit. -/
def State.showCorr (s : State) (n : Nat) : State :=
  let x := s.sensor n
  let t := (List.range 6).foldl (fun y k =>
    y.setReg (Reg.PRA_SENSn_DTX n + 4 * k) (BitVec.ofNat 32 (toPattern 32 (corrShown (x.corr.getD k 0))))) s
  (t.wrB (F.PRA_SENSn_STAT_LIMIT n) (decide (x.atLimit ≠ []))).wrB (F.PRA_SENSn_STAT_FROZEN n) x.frozen

/-- The largest magnitude of component `k` of a record, in the register's unit: TMAX in mm for 0.1 mm, RMAX in µrad. -/
def corrMax (cal : Bytes) (k : Nat) : Int := if k < 3 then 10 * leAt cal 100 2 else leAt cal 102 2

/-- The rate per hour of component `k`, in the register's unit. -/
def corrRate (cal : Bytes) (k : Nat) : Int := if k < 3 then 10 * leAt cal 104 2 else leAt cal 106 2

/-- The record and the freeze installed with CALLOAD and CALFREEZE come into force at a cycle's start. -/
def State.installCal (s : State) (n : Nat) : State :=
  let x := s.sensor n
  let x := match x.calNew with
    | some r => { x with cal := some r, calNew := none, atLimit := [], frozen := bitAt (leAt r 111 1) 1
                         corr := (List.range 6).map (fun k => corrDen * toSigned 32 (leAt r (76 + 4 * k) 4)) }
    | none => x
  let x := match x.freezeNew with
    | some b => { x with frozen := b, freezeNew := none }
    | none => x
  let moved := decide (x.corr ≠ (s.sensor n).corr)
  let t := (s.setSensor n x).showCorr n
  if moved then { t with pra := { t.pra with calChange := true } } else t

/-! ### Grid cycles (R173, R181-R183) -/

/-- Whether sensor `n` is in use: enabled, carried by the code, with a record in force. -/
def State.sensUsed (s : State) (n : Nat) : Bool :=
  s.on (F.PRA_SENSn_CTL_EN n) && s.code.hasSensor n && (s.sensor n).cal.isSome

/-- Whether the newest processed frame of camera `n` is recent enough to contribute to a grid at `tg`. -/
def State.camFresh (s : State) (n tg : Nat) : Option VisionFrame :=
  match (s.sensor n).ready with
  | some f => if tg ≤ f.tend + s.rd F.PRA_GCFG_STALE * 1000000 then some f else none
  | none => none

/-- The lidar windows of a cycle, by unit (R175). -/
def State.lidarWindows (s : State) (net : Net) (tg : Nat) : List LidRead :=
  (List.range 4).map (fun u => if s.sensUsed (12 + u) then s.lidarWindow u tg (net.lwin * 1000) else {})

/-- The state of sensor `n` in the cycle that starts at `tg`. -/
def State.cycleState (s : State) (reads : List LidRead) (tg n : Nat) : Nat :=
  if s.sensUsed n = false then 0
  else if s.sensExcluded n then 2
  else if (s.sensor n).mismatch then 3
  else if n < 12 then (if (s.camFresh n tg).isSome then 1 else 4)
  else if ((reads.getD (n - 12) {}).recs.isEmpty) then 4 else 1

/-- A bitmap of the sensors with property `p`. -/
def sensMap (p : Nat → Bool) : Nat := (List.range 16).foldl (fun a n => if p n then a + 2 ^ n else a) 0

/-- A cycle that falls due while the previous has not published is skipped (R182). -/
def State.skipCycle (s : State) : State :=
  let t := (s.wideAdd Reg.PRA_SKIPCNT_LO 1).flag F.PRA_STAT_SKIP F.PRA_CTL_IE_AGE
  { t with pra := { t.pra with skipped := t.pra.skipped + 1 } }

/-- Whether a line of the active network's package is poisoned (R191). -/
def State.weightsPoisoned (s : State) : Bool :=
  match s.pra.net with
  | some n => s.mem.poisoned n.addr n.len
  | none => false

/-- Whether the active network lies outside the reference budget: its declared operations, or the frames per second of all enabled cameras (R180). -/
def State.overBudget (s : State) (n : Net) : Bool :=
  n.heavy || decide (s.code.pick 360 240 120 < (List.range 12).foldl (fun a k =>
    if s.on (F.CAM_LNKn_CTL_EN k) then a + s.rd (F.CAM_LNKn_TIME_FPSMAX k) else a) 0)

/-- The camera `n` in the cycle that starts at `tg`: its newest frame, recent enough, with the pose at its exposure (R173, R174). -/
def State.camView (s : State) (tg n : Nat) : Option CamView :=
  match s.camFresh n tg, (s.sensor n).cal with
  | some f, some cal =>
    if s.sensUsed n ∧ (s.sensor n).mismatch = false then
      some ⟨n, f, s.sensExcluded n, s.rd (F.CAM_LNKn_GEOM_ACTW n), s.rd (F.CAM_LNKn_GEOM_ACTH n), cal, (s.sensor n).corr,
        s.poseAt (f.tfs - s.rd (F.CAM_LNKn_SYNC_EXPOFF n) * 1000), s.on (F.PRA_SENSn_CTL_HDR n)⟩
    else none
  | _, _ => none

/-- The lidar points of a cycle in the band and on the grid, oldest first. -/
def State.cyclePoints (s : State) (net : Net) (tg : PoseNow) (reads : List LidRead) : List LidHit :=
  (reads.zipIdx.flatMap (fun e =>
    let n := 12 + e.2
    match (s.sensor n).cal with
    | some cal => e.1.recs.filterMap (s.lidarHit net tg n (s.sensExcluded n) cal (s.sensor n).corr (s.on (F.PRA_SENSn_CTL_HDR n)))
    | none => [])).foldl (fun l h => insertHit h l) []

/-- The first `k` of the points of unexcluded sensors taken out. -/
def dropPoints : Nat → List LidHit → List LidHit
  | _, [] => []
  | 0, l => l
  | k + 1, h :: l => if h.excl then h :: dropPoints (k + 1) l else dropPoints k l

/-- The newest of a list of times. -/
def newestOf (l : List Nat) : Option Nat := if l = [] then none else some (l.foldl max 0)

/-- The network that was made active with NETACT comes into force (R179): the first grid under it carries RESTART. What stage 1 made under the
network before is not used, a DESIGN CHOICE (notes/assumptions/31.md). -/
def State.activate (s : State) (n : Net) (resident : Bool) : State :=
  let t := { s with pra := { s.pra with net := some n, next := none, restart := true } }
  let t := (List.range 12).foldl (fun x k => x.setSensor k { x.sensor k with ready := none }) t
  let t := ((t.setReg Reg.PRA_NETID (BitVec.ofNat 32 n.netid)).setReg Reg.PRA_NETVER (BitVec.ofNat 32 n.netver)).wr F.PRA_NETSTAT_STATE 3
  let t := (t.wrB F.PRA_NETSTAT_RESIDENT resident).wrB F.PRA_NETSTAT_OVERBUDGET (t.overBudget n)
  t.praEvent 5 16

/-- The times and points of a cycle's lidar units: the oldest points beyond the grid's limit and those of poisoned lines are discarded and counted,
each unit shows its points lifted and its encoding time (R175, R191). -/
def State.lidarShow (s : State) (pts : List LidHit) (bad drop : Nat) (lidars : List (Nat × Nat)) : State :=
  let live := pts.filter (fun h => !h.excl)
  let t := ((s.praPoisons bad).incBy F.PRA_LIDDROP_CNT (4 * bad + drop)).wr F.PRA_LIDPTS_CNT live.length
  let t := (List.range 4).foldl (fun x u => if x.code.hasSensor (12 + u) then
    x.wr (F.PRA_SENSn_LASTSEQ_SEQ (12 + u)) (live.filter (fun h => decide (h.sens = 12 + u))).length else x) t
  lidars.foldl (fun x l => if x.code.hasSensor (12 + l.1) then
    x.measured (F.PRA_SENSn_EXTIME_LAST (12 + l.1)) (F.PRA_SENSn_EXTIME_PEAK (12 + l.1)) l.2 else x) t

/-- A cycle starts: records installed come into force, each sensor's state is judged, the pose at TG is taken, the lidar buffers are read. -/
def State.beginCycle (s : State) (net : Net) (paceTmo : Bool) (lidars : List (Nat × Nat)) : State :=
  let tg := s.now
  let t := (List.range 16).foldl (fun x n => x.installCal n) s
  let reads := t.lidarWindows net tg
  let st (n : Nat) : Nat := t.cycleState reads tg n
  let pose := t.poseAt tg
  let pts := t.cyclePoints net pose reads
  let live := (pts.filter (fun h => !h.excl)).length
  let spare := live - t.code.lidarPoints
  let pts := dropPoints spare pts
  let cams := (List.range 12).filterMap (fun n => t.camView tg n)
  let times := (cams.filter (fun c => !c.excl)).map (fun c => c.frame.tend) ++ (pts.filter (fun h => !h.excl)).map (fun h => h.t)
  let bad := (reads.map (fun r => r.bad)).foldl (· + ·) 0
  let heavy := t.overBudget net
  let restart := t.pra.restart || pose.lost
  let wp := t.weightsPoisoned
  let frozen := (List.range 16).any (fun n => (t.sensor n).frozen)
  let flags := (if pose.stale then 1 else 0) + (if paceTmo then 2 else 0) + (if heavy then 8 else 0) + (if frozen then 16 else 0) +
    (if restart then 64 else 0) + (if wp then 512 else 0)
  let c : GridCycle :=
    { tg := tg, tnew := newestOf times, flags := flags, smask := sensMap (fun n => decide (st n = 1)), xmask := sensMap (fun n => t.sensExcluded n),
      npts := min live t.code.lidarPoints, nskip := t.pra.skipped, pose := pose, net := net, cams := cams, pts := pts }
  let t := (List.range 16).foldl (fun x n => if x.code.hasSensor n then x.showSensor n (st n) else x) t
  let t := ((t.lidarShow pts bad spare lidars).praPoisons s.posePoison).wrB F.PRA_NETSTAT_OVERBUDGET heavy
  let t := if wp then ((t.praPoison).wr F.PRA_STAT_WPOISON 1).praEvent 4 16 else t
  let t := t.poseRefresh
  { t with pra := { t.pra with cycle := some c, skipped := 0 } }

/-- A cycle falls due: it starts, under the network that NETACT has made the next one, or is skipped. -/
def State.cycleDue (s : State) (paceTmo : Bool) (lidars : List (Nat × Nat)) : State :=
  if s.pra.cycle.isSome then s.skipCycle
  else
    let t := match s.pra.next with
      | some n => s.activate n.1 n.2
      | none => s
    match t.pra.net with
    | none => t
    | some net => t.beginCycle net paceTmo lidars

/-- The pacing cameras. -/
def State.pacers (s : State) : List Nat :=
  (List.range 12).filter (fun n => s.on (F.PRA_SENSn_CTL_PACE n) && s.code.hasSensor n)

/-- Whether stage 1 has completed for every pacing camera's frame of the sync instant. -/
def State.pacersReady (s : State) (sync : Nat) : Bool :=
  s.pacers.all (fun n => match (s.sensor n).ready with
    | some f => decide (sync ≤ f.tfs) && decide (2 * f.tfs < 2 * sync + s.framePeriod n)
    | none => false)

/-- Whether `sync` is a sync instant of the pacing cameras, and a GDIV-th one counted from the last one used. -/
def State.syncDue (s : State) (sync : Nat) : Bool :=
  match s.pacers with
  | n :: _ =>
    let p := s.framePeriod n
    decide (0 < p) && decide (sync ≤ s.now) && decide (sync % p = s.rd (F.CAM_LNKn_SYNC_SYNCOFF n) * 1000) &&
      (match s.pra.lastSync with
        | some l => decide (l < sync) && decide ((sync - l) % (s.rd F.PRA_GCTL_GDIV * p) = 0)
        | none => true)
  | [] => false

/-- Whether grid cycles run. -/
def State.gridRuns (s : State) : Bool := s.engineUp 0 && s.on F.PRA_GCTL_EN

/-- GRID_CYCLE_START: at a TIMED instant, or in PACED mode once stage 1 has completed for every pacing camera's frame. -/
def execGridCycleStart (sync : Nat) (lidars : List (Nat × Nat)) (s : State) : Host.Outcome State Fault Refusal :=
  .next (
    if s.gridRuns = false then s
    else if s.on F.PRA_GCTL_MODE = false then
      if s.now % (s.rd F.PRA_GPERIOD_PERIOD * 1000000) = s.rd F.PRA_GOFF_GOFF * 1000 then s.cycleDue false lidars else s
    else if s.syncDue sync = true ∧ s.pacersReady sync = true then
      ({ s with pra := { s.pra with lastSync := some sync } }).cycleDue false lidars
    else s)

/-- PACE_TIMEOUT: PTMO ms after a sync instant the paced cycle starts without the late cameras. -/
def execPaceTimeout (sync : Nat) (lidars : List (Nat × Nat)) (s : State) : Host.Outcome State Fault Refusal :=
  .next (
    if s.gridRuns = true ∧ s.on F.PRA_GCTL_MODE = true ∧ s.syncDue sync = true ∧ s.pacersReady sync = false ∧
        sync + s.rd F.PRA_GCTL_PTMO * 1000000 ≤ s.now then
      ({ s with pra := { s.pra with lastSync := some sync } }).cycleDue true lidars
    else s)

/-! ### Stage 1 (R173) -/

/-- A frame that is not used, or is replaced. -/
def State.dropFrame (s : State) (n : Nat) : State := s.inc (F.PRA_SENSn_DROPF_CNT n)

/-- A machine-vision slot has been written: its frame becomes the camera's pending frame, or is not used. A pending frame that stage 1 has started
on is not replaced. -/
def State.offerVision (s : State) (net : Net) (n slot tend : Nat) : State :=
  let key := slotKey n 2 slot
  let i := s.slotInfo key
  let z := s.outSize n 2
  if bitAt i.flags 2 ∨ bitAt i.flags 4 ∨ bitAt i.flags 9 then s.dropFrame n
  else if z ≠ (net.mw, net.mh) ∨ s.rd (F.CAM_LNKn_CTL_MVFMT n) ≠ net.mvfmt then
    ((s.dropFrame n).setSensor n { s.sensor n with mismatch := true }).showSensor n 3
  else
    let f : VisionFrame := { fseq := i.fseq, tfs := i.tfs, tend := tend, slot := slot }
    let t := match (s.sensor n).pend with
      | some old => (s.dropSlot (slotKey n 2 old.slot)).dropFrame n
      | none => s
    (t.holdSlot key).setSensor n { t.sensor n with pend := some f, mismatch := false }

/-- The camera whose pending frame stage 1 takes next: pacing cameras first, then in order of TFS. -/
def State.nextVision (s : State) : Option (Nat × VisionFrame) :=
  ((List.range 12).filterMap (fun n => (s.sensor n).pend.map (fun f => (n, f)))).foldl (fun b x => match b with
    | none => some x
    | some y =>
      let px := s.on (F.PRA_SENSn_CTL_PACE x.1)
      let py := s.on (F.PRA_SENSn_CTL_PACE y.1)
      if (px && !py) || (decide (px = py) && decide (x.2.tfs < y.2.tfs)) then some x else some y) none

/-- Stage 1, when it runs on no frame, starts on the next pending one. -/
def State.startVision (s : State) : State :=
  if s.pra.run.isSome then s
  else
    match s.nextVision with
    | none => s
    | some (n, f) =>
      let t := s.setSensor n { s.sensor n with pend := none }
      { t with pra := { t.pra with run := some (n, f) } }

/-- The source rows of camera `n`'s machine-vision slot `slot` that a poisoned line reaches (R191). -/
def State.badRows (s : State) (n slot : Nat) : List Nat :=
  let a := s.slotAddr n 2 slot
  let st := s.outStride n 2
  (s.outPlanes n 2).flatMap (fun p => (List.range p.2).filter (fun r => s.mem.poisoned (a + p.1 + st * r) st))

/-- The feature rows that poisoned source rows mark: row v where one lies from floor((v - 2) MH / FH) to ceil((v + 3) MH / FH) - 1 (R191). -/
def Net.markedRows (n : Net) (bad : List Nat) : List Nat :=
  (List.range n.fh).filter (fun (v : Nat) => bad.any (fun r =>
    decide (((v : Int) - 2) * n.mh / n.fh ≤ r) && decide (r < ceilDiv ((v + 3) * n.mh) n.fh)))

/-- The stage 1 run under way completes after `us` µs: its slot is let go, each poisoned line of it is a poison event (R191), and what it wrote into
tensors 1 and 2 is the network's, a free value. The next pending frame starts. -/
def State.stage1Done (s : State) (net : Net) (us : Nat) : State :=
  match s.pra.run with
  | none => s
  | some (n, f) =>
    let bad := s.mem.poisonCount (s.slotAddr n 2 f.slot) (s.slotBytes n 2)
    let g := { f with seed := s.free, marked := net.markedRows (s.badRows n f.slot) }
    let t := (((s.tickFree).dropSlot (slotKey n 2 f.slot)).setSensor n { s.sensor n with ready := some g }).praPoisons bad
    let t := (t.measured (F.PRA_SENSn_EXTIME_LAST n) (F.PRA_SENSn_EXTIME_PEAK n) us).wr (F.PRA_SENSn_LASTSEQ_SEQ n) f.fseq
    ({ t with pra := { t.pra with run := none } }).startVision

/-- STAGE1_RUN. -/
def execStage1Run (n slot tend : Nat) (runs : List Nat) (s : State) : Host.Outcome State Fault Refusal :=
  .next (
    match s.pra.net with
    | none => s
    | some net =>
      if s.engineUp 0 = false ∨ s.code.cameras ≤ n ∨ s.on (F.PRA_SENSn_CTL_EN n) = false ∨ (s.slotInfo (slotKey n 2 slot)).order = 0 then s
      else runs.foldl (fun t us => t.stage1Done net us) ((s.offerVision net n slot tend).startVision))

/-! ### Publication (R164-R168, R182, R183, R194) -/

/-- What reaches a cell in a cycle: each camera with its lift points, and the lidar points. -/
structure Reach where
  cams : List (CamView × List CamHit)
  pts : List LidHit

/-- What reaches the cells of a cycle's grid. -/
def GridCycle.reach (c : GridCycle) (code : Code) : Reach := ⟨c.cams.map (fun v => (v, v.hits code c.net c.pose)), c.pts⟩

/-- The reach of one cell. -/
def Reach.at (r : Reach) (idx : Nat) : Reach :=
  ⟨r.cams.map (fun x => (x.1, x.2.filter (fun h => decide (h.cell = idx)))), r.pts.filter (fun h => decide (h.cell = idx))⟩

/-- The sensors that contribute to a cell, with the time of each contribution: a camera its frame's TEND, as in TNEW (DEDUCED, R183;
notes/assumptions/30.md). -/
def Reach.contributors (r : Reach) : List (Nat × Nat) :=
  r.cams.filterMap (fun x => if x.1.excl = false ∧ x.2.any CamHit.lifted = true then some (x.1.sens, x.1.frame.tend) else none) ++
  (r.pts.filter (fun h => !h.excl)).map (fun h => (h.sens, h.t))

/-- Whether the coverage of an unexcluded sensor, and of an excluded one, includes a cell. -/
def Reach.covers (r : Reach) (excl : Bool) : Bool :=
  r.cams.any (fun x => decide (x.1.excl = excl) && !x.2.isEmpty) || r.pts.any (fun h => decide (h.excl = excl))

/-- Whether a marked feature pixel reaches a cell with a weight that is lifted (R191). -/
def Reach.marked (r : Reach) : Bool :=
  r.cams.any (fun x => !x.1.excl && x.2.any (fun h => h.lifted && x.1.frame.marked.contains h.v))

/-- The word of a cell (R165) from what reaches it, whether its warped position lies inside the previous grid, its previous AGE and the grid period
in ms. -/
def cellWord (r : Reach) (tg : Nat) (warped allPoison : Bool) (prevAge periodMs : Nat) : Nat :=
  let l := r.contributors
  let n := (l.map (fun x => x.1)).eraseDups.length
  let newest := (l.map (fun x => x.2)).foldl max 0
  (if r.marked || allPoison then 0x8000 else 0) + (if n = 0 ∧ r.covers false = false then 0x4000 else 0) + (if r.covers true then 0x2000 else 0) +
  (if n = 0 ∧ warped = true then 0x1000 else 0) + min n 15 * 256 + min 255 (if n = 0 then prevAge + periodMs else (tg - newest) / 1000000)

/-- The words of every cell of a cycle's grid. CARRY is 0 under RESTART, for nothing is carried (DESIGN CHOICE, notes/assumptions/30.md); the AGE
that the first grid's cells take the period on top of is a free value. -/
def State.cellWords (s : State) (c : GridCycle) : List Nat :=
  let r := c.reach s.code
  let period := match s.pra.lastTg with
    | some l => (c.tg - l) / 1000000
    | none => 0
  (List.range s.code.gridCells).map (fun i =>
    let prev := if s.pra.cells.isEmpty then (Config.freeByte s.free i).toNat else s.pra.cells.getD i 0 % 256
    cellWord (r.at i) c.tg (!bitAt c.flags 6 && (s.warpPoint c.pose i).isSome) (bitAt c.flags 9) prev period)

/-- The seed of the output grid: what stages 2 and 3 of the network make of the lidar encoding, the camera grid and the warped grid (R172). -/
def State.outputSeed (s : State) (c : GridCycle) : Nat :=
  let hits := (c.reach s.code).cams.filter (fun x => !x.1.excl)
  Config.stage s.freshNat (fun i ch => camGrid c.net (hits.map (fun x => (x.1, x.2))) i ch) (fun i ch => lidarEncoding c.pts i ch)
    (fun i ch => s.warped (bitAt c.flags 6) c.pose i ch)

/-- The output grid written at `a` in the layout of R166: the values of the listed elements, the others the network's, +0 in poisoned cells. -/
def State.putTensor (s : State) (a seed : Nat) (values : List (Nat × Nat)) (words : List Nat) : State :=
  let nc := s.code.gridNc
  let t := s.putContent a (2 * s.code.gridCells * nc) (.rel seed a)
  let t := values.foldl (fun x v => if v.1 < x.code.gridCells * nc then x.put (a + 2 * v.1) (leBytes 2 v.2) else x) t
  words.zipIdx.foldl (fun x w => if 0x8000 ≤ w.1 then x.putZero (a + 2 * nc * w.2) (2 * nc) else x) t

/-- The 128-byte slot header (R167); the pose in whole mm and units of yaw, to the nearest. -/
def gridHeader (gseq flags tpub age npois : Nat) (tnew : Nat) (c : GridCycle) : Bytes :=
  leBytes 4 gseq ++ leBytes 4 flags ++ leBytes 8 c.tg ++ leBytes 8 tnew ++ leBytes 8 tpub ++ leBytes 4 c.smask ++ leBytes 4 c.xmask ++
  leBytes 4 c.net.netid ++ leBytes 4 c.net.netver ++ leBytes 8 (toPattern 64 (rhe c.pose.px.num c.pose.px.den)) ++
  leBytes 8 (toPattern 64 (rhe c.pose.py.num c.pose.py.den)) ++ leBytes 4 (toPattern 32 (c.pose.yaw.scaled 32)) ++
  leBytes 4 (min 0xFFFFFFFF (c.pose.age / 1000)) ++ leBytes 4 (min 0xFFFFFFFF age) ++ leBytes 4 npois ++ leBytes 4 c.npts ++
  leBytes 4 (min 0xFFFFFFFF c.nskip) ++ leBytes 40 0

/-- The address of the next grid slot. -/
def State.gridSlotAddr (s : State) : Nat := 4096 * s.rd F.PRA_GBASE_BASE + s.pra.slot * s.code.gridStride

/-! ### Refinement and exclusion (R187, R188, R190) -/

/-- One component moved towards its estimate, within its rate and its limit. -/
def moveCorr (cal : Bytes) (period : Nat) (k : Nat) (c est : Int) : Int :=
  let step := corrRate cal k * period
  let goal := corrDen * est
  let lim := corrDen * corrMax cal k
  clampI (-lim) lim (if c < goal then min goal (c + step) else max goal (c - step))

/-- The components of a correction that stand at their limit. -/
def limitList (cal : Bytes) (corr : List Int) : List Nat :=
  (List.range 6).filter (fun k => decide (corrDen * corrMax cal k ≤ (corr.getD k 0).natAbs))

/-- A sensor's correction refined after a cycle; arriving at a limit puts a CALLIMIT event on the event rings. -/
def State.refine (s : State) (o : SensOut) (period : Nat) : State :=
  let x := s.sensor o.sens
  match x.cal with
  | none => s
  | some cal =>
    if bitAt (leAt cal 111 1) 2 = false ∨ x.frozen = true ∨ o.conf < leAt cal 110 1 then s
    else
      let corr := (List.range 6).map (fun k => moveCorr cal period k (x.corr.getD k 0) (o.est.getD k 0))
      let lim := limitList cal corr
      let arrived := lim.any (fun k => !x.atLimit.contains k)
      let t := (s.setSensor o.sens { x with corr := corr, atLimit := lim }).showCorr o.sens
      let t := if corr ≠ x.corr then { t with pra := { t.pra with calChange := true } } else t
      if arrived then t.praEvent 3 o.sens else t

/-- A sensor is excluded: from the next cycle its features are not lifted; the exclusion is counted, told and recorded. -/
def State.excludeSensor (s : State) (n : Nat) (manual : Bool) : State :=
  let t := s.setSensor n { s.sensor n with excluded := true, above := 0, good := 0 }
  let t := ((t.showSensor n 2).inc (F.PRA_SENSn_EXCLCNT_CNT n)).wrB (F.PRA_SENSn_STAT_MANUAL n) manual
  let t := (t.flag F.PRA_STAT_EXCL F.PRA_CTL_IE_EXCL).praEvent 1 n
  let r := t.praResult n
  t.record 0x18 1 sevWarning (leAt r 0 1) (leAt r 12 4) (leAt r 1 3)

/-- A sensor is returned to use. -/
def State.reinstateSensor (s : State) (n : Nat) : State :=
  let t := s.setSensor n { s.sensor n with excluded := false, above := 0, good := 0 }
  (((t.showSensor n 1).wr (F.PRA_SENSn_STAT_MANUAL n) 0)).praEvent 2 n

/-- A sensor's residual shown, and its exclusion or reinstatement judged. -/
def State.judgeSensor (s : State) (o : SensOut) : State :=
  let x := s.sensor o.sens
  let t := s.wr (F.PRA_SENSn_STAT_CONF o.sens) (min 255 o.conf)
  let t := if o.conf = 0 then t else t.measured (F.PRA_SENSn_RES_RES o.sens) (F.PRA_SENSn_RES_PEAK o.sens) o.res
  match x.cal with
  | none => t
  | some cal =>
    let resmax := leAt cal 108 2
    if o.conf < leAt cal 110 1 then t.setSensor o.sens { x with above := 0, good := 0 }
    else if x.excluded then
      let good := if 40 * o.res < 300 * resmax then x.good + 1 else 0
      if 200 ≤ good ∧ bitAt (leAt cal 111 1) 0 = true ∧ t.on (F.PRA_SENSn_STAT_MANUAL o.sens) = false then t.reinstateSensor o.sens
      else t.setSensor o.sens { x with good := good }
    else
      let above := if 10 * resmax < o.res then x.above + 1 else 0
      if max 1 (leAt cal 112 1) ≤ above then t.excludeSensor o.sens false else t.setSensor o.sens { x with above := above }

/-- The entry of a grid on ring 102 (R194). -/
def State.gridEntry (s : State) (slot gseq tg age flags npois : Nat) : State :=
  (s.looseEntry 102 0x83 slot 0 0 false (resultOf [(24, 4, gseq), (28, 8, tg), (36, 4, age), (40, 4, flags), (44, 4, npois)])
    (decide (flags &&& 0x387 ≠ 0))).1

/-- What a published grid leaves in Prairie: the next slot, the cell words and the grid its own stages read. -/
def State.keepGrid (s : State) (c : GridCycle) (gseq flags : Nat) (words : List Nat) : State :=
  { s with pra := { s.pra with
      cycle := none, slot := (s.pra.slot + 1) % 2 ^ s.rd F.PRA_GCFG_GLOG2, grids := s.pra.grids + 1, restart := false, calChange := false,
      lastTg := some c.tg, cells := words, grid := some ⟨gseq, c.tg, s.now, flags, c.pose⟩ } }

/-- GRID_PUBLISH: cell-state plane and tensor first, the header last in one write, then the entry, and the refinement and the
judgement of every sensor. -/
def execGridPublish (values : List (Nat × Nat)) (sens : List SensOut) (s : State) : Host.Outcome State Fault Refusal :=
  .next (
    match s.pra.cycle with
    | none => s
    | some c =>
      if s.engineUp 0 = false then s
      else
        let tnew := c.tnew.getD (s.freshNat % 2 ^ 64)
        let ageNs := s.now - tnew
        let period := (s.pra.lastTg.map (fun l => c.tg - l)).getD 0
        let words := s.cellWords c
        let npois := (words.filter (fun w => decide (0x8000 ≤ w))).length
        let aged := decide (s.rd F.PRA_AGEBOUND_BOUND * 100000 < ageNs)
        let flags := c.flags + (if 0 < npois then 4 else 0) + (if s.pra.calChange then 32 else 0) + (if 0 < c.nskip then 128 else 0) +
          (if aged then 256 else 0)
        let gseq := s.pra.grids % 2 ^ 32
        let a := s.gridSlotAddr
        let slot := s.pra.slot
        let plane := 2 * s.code.gridCells
        let seed := s.outputSeed c
        let bad := if bitAt c.flags 6 then 0 else s.mem.poisonCount featureBase (plane * s.code.gridNc)
        let age := min 0xFFFFFFFF (ageNs / 1000)
        let t := (s.tickFree).praPoisons bad
        let t := t.put (a + 4096) (words.flatMap (leBytes 2))
        let t := (t.putTensor (a + 4096 + plane) seed values words).putTensor featureBase seed values words
        let t := t.putFree (featureBase + plane * s.code.gridNc) (s.code.featureSize - plane * s.code.gridNc)
        let t := (t.putZero (a + 128) 3968).put a (gridHeader gseq flags s.now age npois tnew c)
        let t := t.keepGrid c gseq flags words
        let t := (((t.wr F.PRA_GSEQ_GSEQ gseq).measured F.PRA_AGE_LAST F.PRA_AGE_PEAK (ageNs / 100000)).measured
          F.PRA_CYCTIME_LAST F.PRA_CYCTIME_PEAK ((s.now - c.tg) / 100000)).wideAdd Reg.PRA_GRIDCNT_LO 1
        let t := t.gridEntry slot gseq c.tg age flags npois
        let t := if aged then (t.flag F.PRA_STAT_OVERAGE F.PRA_CTL_IE_AGE).praEvent 6 16 else t
        (sens.filter (fun o => decide (o.sens < 16) && t.sensUsed o.sens)).foldl (fun x o => (x.refine o period).judgeSensor o) t)

/-! ### Network opcodes (R177-R180, R193) -/

/-- The reference budget of a code, in 10^6 operations: camera frame, stage 2 and stages 3 to 5 (R180, R198). -/
def Code.budget (c : Code) : Nat × Nat × Nat := c.pick (400000, 20000, 2000000) (400000, 10000, 1000000) (400000, 5000, 1000000)

/-- A field of a package in memory: `n` bytes at `o`. -/
def Memory.field (m : Memory) (a o n : Nat) : Nat := m.readLe (a + o) n

/-- Where the records of a package lie (R177): counts and first addresses of its stages, tensors and layers. -/
structure PkgMap where
  ns : Nat
  so : Nat
  nt : Nat
  tq : Nat
  nl : Nat
  lo : Nat
  deriving DecidableEq, Repr

/-- The records of the package at `a` with header `hdr`. -/
def pkgMap (a : Nat) (hdr : Bytes) : PkgMap :=
  ⟨leAt hdr 76 4, a + leAt hdr 80 4, leAt hdr 84 4, a + leAt hdr 88 4, leAt hdr 92 4, a + leAt hdr 96 4⟩

/-- Whether the sections of a package lie within its LENGTH. -/
def pkgInside (hdr : Bytes) (len : Nat) : Bool :=
  decide (leAt hdr 80 4 + 16 * leAt hdr 76 4 ≤ len) && decide (leAt hdr 88 4 + 16 * leAt hdr 84 4 ≤ len) &&
  decide (leAt hdr 96 4 + 32 * leAt hdr 92 4 ≤ len) && decide (leAt hdr 104 8 + leAt hdr 112 8 ≤ len)

/-- A stage record: its kind, first layer and layer count. -/
structure StageRec where
  kind : Nat
  first : Nat
  count : Nat
  deriving DecidableEq, Repr

/-- The stages of a package. -/
def State.stageRecs (s : State) (p : PkgMap) : List StageRec :=
  (List.range p.ns).map (fun i => ⟨s.mem.field (p.so + 16 * i) 0 1, s.mem.field (p.so + 16 * i) 2 2, s.mem.field (p.so + 16 * i) 4 2⟩)

/-- Whether every stage record keeps R178 and R196: kinds 1 to 5, kinds 4 and 5 at most once, layers the package has, reserved bytes 0. -/
def State.stagesOk (s : State) (p : PkgMap) : Bool :=
  let l := s.stageRecs p
  l.all (fun r => decide (1 ≤ r.kind) && decide (r.kind ≤ 5) && decide (r.first + r.count ≤ p.nl)) &&
  (List.range p.ns).all (fun i => decide (s.mem.field (p.so + 16 * i) 1 1 = 0) && decide (s.mem.field (p.so + 16 * i) 6 10 = 0)) &&
  [4, 5].all (fun v => decide ((l.filter (fun r => decide (r.kind = v))).length ≤ 1))

/-- Whether a stage of kind `v` is present. -/
def State.hasStage (s : State) (p : PkgMap) (v : Nat) : Bool := (s.stageRecs p).any (fun r => decide (r.kind = v))

/-- Track slots of a code (R196). -/
def Code.tracks (c : Code) : Nat := c.pick 1024 1024 512

/-- The shape and type a boundary tensor must have (R172, R196): least and greatest H, W and C, and type; a type of none is not fixed there. -/
def tensorShape (c : Code) (hdr : Bytes) (id : Nat) : Option (Nat × Nat × (Nat × Nat) × Option Nat) :=
  let ni := c.gridNi
  let fh := leAt hdr 38 2
  let fw := leAt hdr 40 2
  let one (x : Nat) : Nat × Nat := (x, x)
  match id with
  | 0 => some (leAt hdr 28 2, leAt hdr 26 2, one (if leAt hdr 25 1 = 0 then 3 else 1), some 0)
  | 1 => some (fh, fw, one (leAt hdr 32 2), none)
  | 2 => some (fh, fw, one (leAt hdr 36 2), some 1)
  | 3 => some (ni, 256, one 8, some 1)
  | 4 => some (ni, 256, one (leAt hdr 34 2), some 1)
  | 5 => some (ni, 256, one (leAt hdr 32 2), some 1)
  | 6 => some (ni, 256, one c.gridNc, some 1)
  | 7 => some (ni, 256, one c.gridNc, some 1)
  | 8 => some (c.tracks + 256, 1, (8, 256), some 1)
  | 9 => some (c.tracks + 256, 1, one 16, some 1)
  | 10 => some (ni, 256, one 2, some 1)
  | _ => none

/-- A tensor record. -/
structure TensorRec where
  h : Nat
  w : Nat
  c : Nat
  type : Nat
  deriving DecidableEq, Repr

/-- Tensor `i` of a package. -/
def State.tensorRec (s : State) (p : PkgMap) (i : Nat) : TensorRec :=
  let a := p.tq + 16 * i
  ⟨s.mem.field a 0 2, s.mem.field a 2 2, s.mem.field a 4 2, s.mem.field a 6 1⟩

/-- Whether tensor record `i` keeps R178 and has the shape its role fixes. -/
def State.tensorOk (s : State) (hdr : Bytes) (p : PkgMap) (i : Nat) : Bool :=
  let r := s.tensorRec p i
  let a := p.tq + 16 * i
  decide (r.type ≤ 1) && decide (s.mem.field a 7 1 = 0) && decide (s.mem.field a 12 4 = 0) &&
  (match tensorShape s.code hdr i with
    | some (h, w, c, t) => decide (r.h = h) && decide (r.w = w) && decide (c.1 ≤ r.c) && decide (r.c ≤ c.2) && decide (t.getD r.type = r.type)
    | none => true)

/-- A layer record. -/
structure LayerRec where
  op : Nat
  in0 : Nat
  in1 : Nat
  out : Nat
  p0 : Nat
  p1 : Nat
  deriving DecidableEq, Repr

/-- Layer `i` of a package. -/
def State.layerRec (s : State) (p : PkgMap) (i : Nat) : LayerRec :=
  let a := p.lo + 32 * i
  ⟨s.mem.field a 0 1, s.mem.field a 2 2, s.mem.field a 4 2, s.mem.field a 6 2, s.mem.field a 16 4, s.mem.field a 20 4⟩

/-- Whether layer record `i` keeps R178: byte 1 is 0, its tensors are the package's or none, its weights start in the weight section, and a
parameter that selects among named values names one. -/
def State.layerOk (s : State) (hdr : Bytes) (p : PkgMap) (i : Nat) : Bool :=
  let l := s.layerRec p i
  decide (s.mem.field (p.lo + 32 * i) 1 1 = 0) && [l.in0, l.in1, l.out].all (fun t => decide (t < p.nt) || decide (t = 0xFFFF)) &&
  decide (s.mem.field (p.lo + 32 * i) 8 8 ≤ leAt hdr 112 8) &&
  (decide (l.op ≠ 5) || decide (l.p0 ≤ 4)) && (decide (l.op ≠ 6 ∧ l.op ≠ 7) || decide (l.p1 ≤ 1))

/-- The layers of a stage of kind `v`, in order; none without such a stage. -/
def State.stageLayers (s : State) (p : PkgMap) (v : Nat) : List LayerRec :=
  match (s.stageRecs p).find? (fun r => decide (r.kind = v)) with
  | some r => (List.range r.count).map (fun k => s.layerRec p (r.first + k))
  | none => []

/-- The roles of tensors 8 to 10 (R196): 8 is IN1 and OUT of the one GRU layer of the kind 4 stage that writes it, 9 and 10 are OUT of the last
layers of the stages of kinds 4 and 5. -/
def State.rolesOk (s : State) (p : PkgMap) : Bool :=
  let track := s.stageLayers p 4
  let writes := track.filter (fun l => decide (l.out = 8))
  (!s.hasStage p 4 || (decide (10 ≤ p.nt) && decide (writes.length = 1) &&
    writes.all (fun l => decide (l.op = 0x0C) && decide (l.in1 = 8)) && decide ((track.getLast?.map (fun l => l.out)) = some 9))) &&
  (!s.hasStage p 5 || (decide (11 ≤ p.nt) && decide (((s.stageLayers p 5).getLast?.map (fun l => l.out)) = some 10)))

/-- Whether two sizes agree under broadcast of a dimension of size 1, to `o`. -/
def broadcast (a b o : Nat) : Bool := (decide (a = b) || decide (a = 1) || decide (b = 1)) && decide (o = max a b)

/-- Whether the tensors of a layer fit its operation, where the operation fixes their shapes alone (R178, R179); of the others the shape also
depends on how the operation treats its edges, which the spec does not state. -/
def State.layerFits (s : State) (p : PkgMap) (l : LayerRec) : Bool :=
  let x := s.tensorRec p l.in0
  let y := s.tensorRec p l.in1
  let o := s.tensorRec p l.out
  let same := decide (x.h = o.h) && decide (x.w = o.w) && decide (x.c = o.c)
  let has1 := decide (l.in1 ≠ 0xFFFF)
  decide (1 ≤ l.op) && decide (l.op ≤ 0x0D) && decide (l.in0 ≠ 0xFFFF) && decide (l.out ≠ 0xFFFF) &&
  (match l.op with
    | 0x03 => has1 && broadcast x.h y.h o.h && broadcast x.w y.w o.w && broadcast x.c y.c o.c
    | 0x04 => has1 && broadcast x.h y.h o.h && broadcast x.w y.w o.w && broadcast x.c y.c o.c
    | 0x05 => same
    | 0x06 => decide (x.c = o.c)
    | 0x07 => decide (x.c = o.c)
    | 0x08 => has1 && decide (x.h = y.h) && decide (x.h = o.h) && decide (x.w = y.w) && decide (x.w = o.w) && decide (x.c + y.c = o.c)
    | 0x09 => same
    | 0x0A => same
    | 0x0B => has1
    | 0x0C => has1 && decide (y.c = l.p0) && decide (o.c = l.p0)
    | 0x0D => same && decide (x.type ≠ o.type)
    | _ => true)

/-- Whether every header field lies in its range (R177). -/
def netRanges (hdr : Bytes) : Bool :=
  let mw := leAt hdr 26 2
  let mh := leAt hdr 28 2
  let fh := leAt hdr 38 2
  let fw := leAt hdr 40 2
  let dn := leAt hdr 44 4
  let df := leAt hdr 48 4
  decide (leAt hdr 25 1 ≤ 1) && decide (8 ≤ leAt hdr 32 2 ∧ leAt hdr 32 2 ≤ 128) && decide (leAt hdr 34 2 ≤ 64) &&
  decide (16 ≤ leAt hdr 36 2 ∧ leAt hdr 36 2 ≤ 128) && decide (mh ≤ 32 * fh ∧ fh ≤ mh) && decide (mw ≤ 32 * fw ∧ fw ≤ mw) &&
  decide (dn < df ∧ df ≤ 120000) && decide (toSigned 16 (leAt hdr 52 2) < toSigned 16 (leAt hdr 54 2)) &&
  decide (1000 ≤ leAt hdr 56 4 ∧ leAt hdr 56 4 ≤ 200000)

/-- Whether the header's check code, the digest of the rest and the length match (R177, R179). -/
def State.netIntact (s : State) (a len : Nat) : Bool :=
  let hdr := s.mem.readBytes a 256
  decide (leAt hdr 252 4 = crc32 (hdr.take 252)) && decide (leAt hdr 16 8 = len) && decide (256 ≤ len) &&
    decide ((hdr.drop 192).take 48 = sha384 (s.mem.readBytes (a + 256) (len - 256)))

/-- Whether the records of a package keep R172, R178 and R196. -/
def State.netRecords (s : State) (a len : Nat) : Bool :=
  let hdr := s.mem.readBytes a 256
  let p := pkgMap a hdr
  pkgInside hdr len && s.stagesOk p && decide (8 ≤ p.nt) && (List.range p.nt).all (fun i => s.tensorOk hdr p i) &&
    (List.range p.nl).all (fun i => s.layerOk hdr p i) && s.rolesOk p

/-- The status of a package (R179), the first that applies; 0 where it loads. `busy`: another NETLOAD has not completed. -/
def State.netStatus (s : State) (a len : Nat) (busy layersFit : Bool) : Nat :=
  let hdr := s.mem.readBytes a 256
  let p := pkgMap a hdr
  if s.netIntact a len = false then 0x40
  else if leAt hdr 0 4 ≠ 0x314E5250 ∨ leAt hdr 4 4 ≠ 1 ∨ leAt hdr 42 2 ≠ 0 ∨ leAt hdr 100 4 ≠ 0 ∨ leAt hdr 120 72 ≠ 0 ∨ leAt hdr 240 12 ≠ 0 then 0x41
  else if bitAt (leAt hdr 24 1) (s.code.pick 1 2 3) = false ∨ leAt hdr 30 2 ≠ s.code.gridNc then 0x42
  else if netRanges hdr = false ∨ s.netRecords a len = false then 0x43
  else if s.code.featureSize < 2 * leAt hdr 72 4 then 0x44
  else if busy then 0x45
  else if layersFit = false ∨ (List.range p.nl).all (fun i => s.layerFits p (s.layerRec p i)) = false then 0x49
  else 0

/-- The network a checked package describes. -/
def State.netOf (s : State) (a len : Nat) : Net :=
  let hdr := s.mem.readBytes a 256
  let b := s.code.budget
  let p := pkgMap a hdr
  { addr := a, len := len, netid := leAt hdr 8 4, netver := leAt hdr 12 4, mvfmt := leAt hdr 25 1, mw := leAt hdr 26 2, mh := leAt hdr 28 2,
    fc := leAt hdr 32 2, lc := leAt hdr 34 2, d := leAt hdr 36 2, fh := leAt hdr 38 2, fw := leAt hdr 40 2, dnear := leAt hdr 44 4,
    dfar := leAt hdr 48 4, zmin := toSigned 16 (leAt hdr 52 2), zmax := toSigned 16 (leAt hdr 54 2), lwin := leAt hdr 56 4,
    wide := decide ((s.tensorRec p 1).type = 1), scale := s.mem.field (p.tq + 16) 8 4, mode4 := s.hasStage p 4, mode5 := s.hasStage p 5,
    heavy := decide (b.1 < leAt hdr 60 4) || decide (b.2.1 < leAt hdr 64 4) || decide (b.2.2 < leAt hdr 68 4) }

/-- PRA_NETSTAT.STATE with no load under way. -/
def State.showNet (s : State) : State :=
  s.wr F.PRA_NETSTAT_STATE (if s.pra.loaded.isSome then 2 else if s.pra.net.isSome then 3 else 0)

/-- What a NETLOAD's place and length answer before the package is read; 0 where it is read. -/
def State.netPlace (s : State) (d : Desc) : Nat :=
  if d.le 24 8 % 4096 ≠ 0 then 2 else if inDramRange s.code (d.le 24 8) (max (d.le 32 8) 256) = false then 5 else 0

/-- A NETLOAD checked, and its network built into the inactive bank. -/
def State.netBuild (s : State) (d : Desc) (busy layersFit : Bool) : State × Result :=
  let a := d.le 24 8
  let len := d.le 32 8
  let st := if s.netPlace d ≠ 0 then s.netPlace d else s.netStatus a len busy layersFit
  if st ≠ 0 then ((if busy then s else s.showNet), { status := st })
  else
    let n := s.netOf a len
    (({ s with pra := { s.pra with loaded := some n } }).wr F.PRA_NETSTAT_STATE 2, { bytes := resultOf [(24, 4, n.netid), (28, 4, n.netver)] })

/-- NETLOAD: while the load goes on PRA_NETSTAT shows LOADING; one that starts meanwhile is refused. -/
def execNetload (q : Nat) (finished layersFit : Bool) (s : State) : Host.Outcome State Fault Refusal :=
  .next (if q = 100 then
    match s.running q 1 with
    | none => s
    | some d =>
      match (dropDesc d (s.ring q).taken).find? (fun x => x.running && decide (x.op = 1)) with
      | some e => s.complete q e (s.netBuild e true layersFit).2
      | none =>
        if finished = false then s.wr F.PRA_NETSTAT_STATE 1
        else
          let r := s.netBuild d false layersFit
          r.1.complete q d r.2
  else s)

/-- The active network leaves. -/
def State.deactivate (s : State) : State :=
  let t := { s with pra := { s.pra with net := none, next := none } }
  let t := (((t.wr F.PRA_GCTL_EN 0).setReg Reg.PRA_NETID 0).setReg Reg.PRA_NETVER 0).showNet
  (t.wr F.PRA_NETSTAT_RESIDENT 0).wr F.PRA_NETSTAT_OVERBUDGET 0

/-- NETACT: the loaded network is the active one from the next cycle that starts; at once where none is active, for no cycle could start. -/
def execNetact (q : Nat) (resident : Bool) (s : State) : Host.Outcome State Fault Refusal :=
  .next (if q = 100 then
    s.serve q 2 (fun d t =>
      if d.le 16 1 = 0 then (t.deactivate, {})
      else if d.le 16 1 = 1 then
        match t.pra.loaded with
        | some n =>
          let u := { t with pra := { t.pra with loaded := none } }
          (if u.pra.net.isNone then u.activate n resident else { u with pra := { u.pra with next := some (n, resident) } }, {})
        | none => (t, { status := 0x46 })
      else (t, { status := 2 }))
  else s)

/-! ### Calibration opcodes (R185-R190) -/

/-- Whether a binary32 pattern is positive. -/
def f32Positive (w : Nat) : Bool := decide (0 < w) && decide (w < 0x7F800001)

/-- Whether a calibration record is accepted for sensor `n` (R186). A MODEL that R185 does not list is refused, a DESIGN CHOICE
(notes/assumptions/31.md). -/
def calOk (n : Nat) (r : Bytes) : Bool :=
  let q := (List.range 4).foldl (fun a k => a + (toSigned 32 (leAt r (60 + 4 * k) 4)).natAbs ^ 2) 0
  let lidar := decide (12 ≤ n)
  decide ((2 ^ 30 - 2 ^ 20) ^ 2 ≤ q) && decide (q ≤ (2 ^ 30 + 2 ^ 20) ^ 2) &&
  decide (leAt r 0 1 = if lidar then 2 else 1) && decide (leAt r 2 6 = 0) && decide (leAt r 44 4 = 0) && decide (leAt r 113 15 = 0) &&
  (if lidar then decide (leAt r 8 36 = 0) && decide (leAt r 1 1 = 0) else decide (leAt r 1 1 ≤ 1) && f32Positive (leAt r 8 4) && f32Positive (leAt r 12 4)) &&
  (List.range 6).all (fun k => decide (((toSigned 32 (leAt r (76 + 4 * k) 4)).natAbs : Int) ≤ corrMax r k))

/-- CALLOAD: a poisoned source line is not installed. -/
def execCalload (q : Nat) (s : State) : Host.Outcome State Fault Refusal :=
  .next (if q = 100 then
    s.serve q 0x10 (fun d t =>
      let n := d.le 16 1
      let a := d.le 24 8
      if a % 64 ≠ 0 then (t, { status := 2 })
      else if t.memOk a 128 = false then (t, { status := 5 })
      else if t.code.hasSensor n = false then (t, { status := 0x48 })
      else if t.mem.poisoned a 128 then (t.praPoison, { status := 0x47, poison := true })
      else
        let r := t.mem.readBytes a 128
        if calOk n r = false then (t, { status := 0x47 })
        else
          let was := t.sensExcluded n
          let u := t.setSensor n { t.sensor n with calNew := some r, excluded := false, above := 0, good := 0 }
          let u := ((u.showSensor n 1).wr (F.PRA_SENSn_STAT_MANUAL n) 0).wr (F.PRA_SENSn_RES_RES n) 0
          (if was then u.praEvent 2 n else u, {}))
  else s)

/-- The record in force with the present correction. -/
def Sensor.recordNow (x : Sensor) : Bytes :=
  (List.range 6).foldl (fun b k => putLe b (76 + 4 * k) 4 (toPattern 32 (corrShown (x.corr.getD k 0)))) (x.cal.getD (List.replicate 128 0))

/-- CALREAD. -/
def execCalread (q : Nat) (s : State) : Host.Outcome State Fault Refusal :=
  .next (if q = 100 then
    s.serve q 0x11 (fun d t =>
      let n := d.le 16 1
      let a := d.le 24 8
      if a % 64 ≠ 0 then (t, { status := 2 })
      else if t.memOk a 128 = false then (t, { status := 5 })
      else if t.code.hasSensor n = false then (t, { status := 0x48 })
      else (t.put a (t.sensor n).recordNow, {}))
  else s)

/-- The sensors of a mask frozen or released from the next cycle that starts. -/
def State.freezeMask (s : State) (mask : Nat) (v : Bool) : State :=
  (List.range 16).foldl (fun t n => if bitAt mask n then t.setSensor n { t.sensor n with freezeNew := some v } else t) s

/-- CALFREEZE: it takes the calibration token for its duration; while another activity holds the token, the command waits. -/
def execCalfreeze (q : Nat) (s : State) : Host.Outcome State Fault Refusal :=
  .next (if q = 100 then
    match s.running q 0x12 with
    | none => s
    | some d =>
      let ok := decide (d.le 16 1 ≤ 1) && (List.range 16).all (fun n => !bitAt (d.le 20 4) n || s.code.hasSensor n)
      if decide (d.le 16 1 ≤ 1) = false then s.complete q d { status := 2 }
      else if ok = false ∨ 65536 ≤ d.le 20 4 then s.complete q d { status := 0x48 }
      else
        let t := s.tokAsk 3 ownerPrairie 8
        if t.2 = false then t.1
        else
          let wait := s.now - d.started
          ((t.1.freezeMask (d.le 20 4) (decide (d.le 16 1 = 1))).tokGive 3).complete q (d.waited wait) {}
  else s)

/-- REINSTATE. -/
def execReinstate (q : Nat) (s : State) : Host.Outcome State Fault Refusal :=
  .next (if q = 100 then
    s.serve q 0x13 (fun d t =>
      let n := d.le 16 1
      if t.code.hasSensor n = false then (t, { status := 0x48 })
      else if t.sensExcluded n then (t.reinstateSensor n, {}) else (t, {}))
  else s)

/-- EXCLUDE. -/
def execExclude (q : Nat) (s : State) : Host.Outcome State Fault Refusal :=
  .next (if q = 100 then
    s.serve q 0x14 (fun d t =>
      let n := d.le 16 1
      if t.code.hasSensor n = false then (t, { status := 0x48 })
      else if t.sensExcluded n then (t.wr (F.PRA_SENSn_STAT_MANUAL n) 1, {}) else (t.excludeSensor n true, {}))
  else s)

/-! ### Register writes (R181, R195) -/

/-- The cause for which an enabling write of PRA_GCTL is refused; none where it stands (R181). -/
def State.gctlCause (s : State) (v : W32) : Option Nat :=
  let paced := decide (getBits v 30 30 = 1)
  let ps := s.pacers
  let a := 4096 * s.rd F.PRA_GBASE_BASE
  let bad := ps = [] ∨ ps.any (fun n => !s.on (F.CAM_LNKn_TIME_SYNC n) ||
      ps.any (fun m => decide (s.rd (F.CAM_LNKn_TIME_FPSMAX n) ≠ s.rd (F.CAM_LNKn_TIME_FPSMAX m)) ||
        decide (s.rd (F.CAM_LNKn_SYNC_SYNCOFF n) ≠ s.rd (F.CAM_LNKn_SYNC_SYNCOFF m)))) = true
  let fps := s.rd (F.CAM_LNKn_TIME_FPSMAX (ps.head?.getD 0))
  if paced = true ∧ bad then some 1
  else if (if paced then decide (s.code.pick 20 20 10 * getBits v 23 16 < fps) else decide (s.rd F.PRA_GPERIOD_PERIOD < s.code.pick 50 50 100)) = true then some 2
  else if s.pra.net.isNone then some 6
  else if a % s.code.gridStride ≠ 0 ∨ inDramRange s.code a (2 ^ s.rd F.PRA_GCFG_GLOG2 * s.code.gridStride) = false then some 3
  else none

/-- A write of a PRA register of the grid map (offsets below 0xA00). -/
def State.praGridWrite (s : State) (off : Nat) (v : W32) : State :=
  let key := 0x18000 + off
  let en := s.on F.PRA_GCTL_EN
  if listedAt key v = false then s
  else if off = 0x00C then
    if en then (if getBits v 30 0 ≠ getBits (s.reg key) 30 0 then s.praReject 4 0x1F else s.applyWrite key v)
    else if getBits v 31 31 = 0 then s.applyWrite key v
    else
      match s.gctlCause v with
      | some c => s.praReject c 0x1F
      | none =>
        let t := s.applyWrite key v
        { t with pra := { t.pra with slot := 0, lastSync := none } }
  else if en = true ∧ (off = 0x010 ∨ off = 0x014 ∨ off = 0x018 ∨ off = 0x01C ∨ off = 0x024) then s.praReject 4 0x1F
  else if off = 0x014 ∧ s.rd F.PRA_GPERIOD_PERIOD * 1000 ≤ getBits v 19 0 then s.reparity key
  else if off = 0x010 ∧ 1000 < getBits v 15 0 then s.reparity key
  else if off = 0x020 ∨ off = 0x024 then
    let base := if off = 0x020 then 1024 * getBits v 29 0 else 1024 * s.rd F.PRA_POSEBASE_BASE
    let size := 64 * 2 ^ (if off = 0x024 then getBits v 28 24 else s.rd F.PRA_POSECFG_PLOG2)
    let on := if off = 0x024 then decide (getBits v 31 31 = 1) else s.on F.PRA_POSECFG_EN
    if on = true ∧ (base % size ≠ 0 ∨ inDramRange s.code base size = false) then s.praReject 5 0x1F else (s.applyWrite key v).poseRefresh
  else if off = 0x028 then (s.applyWrite key v).poseRefresh
  else if 0x100 ≤ off ∧ off < 0x500 ∧ (off - 0x100) % 0x40 = 0 then
    let n := (off - 0x100) / 0x40
    if en = true ∧ s.on F.PRA_GCTL_MODE = true ∧ getBits v 30 30 ≠ s.rd (F.PRA_SENSn_CTL_PACE n) then s.praReject 4 n
    else s.applyWrite key v
  else s.applyWrite key v

end Sys2Proof.Machine
end

