-- ==== Sys2Proof/Machine/Products.lean ====
section
/-! DEFINITION. Prairie's products: tracks (R196-R203), the crop-mass forecast (R204-R207) and the yield tiles (R209-R212). -/

namespace Sys2Proof.Machine

/-! ### Tracks (R199, R200) -/

/-- A track slot. -/
def State.track (s : State) (n : Nat) : Track := SMap.get (fun _ => {}) s.prod.tracks n

/-- A track slot set. -/
def State.setTrack (s : State) (n : Nat) (x : Track) : State :=
  { s with prod := { s.prod with tracks := SMap.set (fun _ => {}) s.prod.tracks n x } }

/-- Row `r` of tensors 8 and 9; every channel 0 where it is not listed. -/
def trackRow (rows : List TrackRow) (r : Nat) : TrackRow := (rows.find? (fun x => decide (x.row = r))).getD ⟨r, [], [], false, false⟩

/-- Channel `k` of a row of tensor 9 (R197). -/
def rowValue (r : TrackRow) (k : Nat) : Frac := bf16Real (r.ch.getD k 0)

/-- CLASS: the index of the highest score, the lowest on a tie. -/
def rowClass (r : TrackRow) : Nat := (List.range 5).foldl (fun b k => if (rowValue r (2 + b)).lt (rowValue r (2 + k)) then k else b) 0

/-- Whether a row lies in a poisoned line of tensor 9: a line holds two rows of 32 bytes. -/
def rowPoisoned (rows : List TrackRow) (r : Nat) : Bool := rows.any (fun x => x.linePoison && decide (x.row / 2 = r / 2))

/-- Whether a row is a detection (R199): DET at least DETMIN / 256. -/
def State.isHit (s : State) (r : TrackRow) : Bool := Frac.le ⟨s.rd F.PRA_TRKCTL_DETMIN, 256⟩ (rowValue r 0)

/-- The cell under a row's centre; none outside the grid. -/
def State.rowCell (s : State) (r : TrackRow) : Option Nat := s.code.cellAt (rowValue r 7) (rowValue r 8)

/-- Whether the cell under a row's centre carries POISON. -/
def State.cellPoisoned (s : State) (r : TrackRow) : Bool :=
  match s.rowCell r with
  | some i => decide (0x8000 ≤ s.pra.cells.getD i 0)
  | none => false

/-- Hits among the low `n` bits of a history. -/
def onesIn (h n : Nat) : Nat := ((List.range n).filter (fun k => h.testBit k)).length

/-- The next TID from `t` on: not 0, and not held by a live slot (R200). -/
def freeTid (held : List Nat) : Nat → Nat → Nat
  | 0, t => t
  | f + 1, t => if t = 0 ∨ held.contains t = true then freeTid held f ((t + 1) % 2 ^ 32) else t

/-- A TID issued. -/
def State.issueTid (s : State) : State × Nat :=
  let held := (s.prod.tracks.map (fun p => p.2.tid)).filter (fun t => decide (t ≠ 0))
  let t := freeTid held 1026 s.prod.nextTid
  ({ s with prod := { s.prod with nextTid := (t + 1) % 2 ^ 32 } }, t)

/-- The heading in turns whose cosine and sine are given: exact along x. -/
def headTurns (c d : Frac) : Frac :=
  if d.num = 0 ∧ 0 < c.num then fr0 else let r := Config.angle (c.num, c.den) (d.num, d.den); ⟨r.1, max 1 r.2⟩

/-- The values of a row taken into a slot. -/
def Track.take (x : Track) (r : TrackRow) : Track :=
  { x with exist := rowValue r 1, cls := rowClass r, cscore := rowValue r (2 + rowClass r), x := rowValue r 7, y := rowValue r 8, len := rowValue r 9,
           wid := rowValue r 10, hgt := rowValue r 15, head := headTurns (rowValue r 11) (rowValue r 12), vx := rowValue r 13, vy := rowValue r 14 }

/-- The memory row that the stage leaves: 0 where it is poisoned (R213). -/
def rowMem (r : TrackRow) : List Nat := if r.memPoison then [] else r.mem

/-- One slot of the update (R199, R213). A freed slot's memory row is 0. -/
def State.updateSlot (s : State) (c : TrackCounts) (tg n : Nat) (r : TrackRow) (held : Bool) : State × TrackCounts :=
  let x := { s.track n with mem := rowMem r }
  let s := if r.memPoison then s.praPoison else s
  let mem := if r.memPoison then 8 else 0
  if held then (s.setTrack n { x with flags := 1 + mem }, c)
  else if (s.rowCell r).isNone then (s.setTrack n {}, { c with deletions := c.deletions + 1 })
  else if s.cellPoisoned r then ((s.praPoison).setTrack n { x.take r with flags := 1 + mem }, { c with poison := true })
  else
    let hit := s.isHit r
    let hist := (x.hist * 2 + (if hit then 1 else 0)) % 2 ^ 32
    let up := min (x.updates + 1) 0xFFFFFFFF
    let misses := if hit then 0 else x.misses + 1
    let faint := (rowValue r 1).lt ⟨1, 5⟩
    let y := { x.take r with hist := hist, updates := up, misses := misses, tlast := if hit then tg else x.tlast,
                             flags := (if hit then 0 else 2) + mem }
    if x.st = 1 then
      if 3 ≤ onesIn hist (min up 5) then
        let t := s.issueTid
        (t.1.setTrack n { y with st := 2, tid := t.2 }, { c with births := c.births + 1 })
      else if 5 ≤ up ∨ faint = true then (s.setTrack n {}, c)
      else (s.setTrack n y, c)
    else if 10 ≤ misses ∨ faint = true then (s.setTrack n {}, { c with deletions := c.deletions + 1 })
    else if x.st = 2 ∧ (rowValue r 1).lt ⟨7, 10⟩ = false then (s.setTrack n { y with st := 3, flags := y.flags + 4 }, c)
    else (s.setTrack n y, c)

/-- Whether a candidate may be placed: a detection over a clean cell, with no slot of its class within the gate. -/
def State.candidateOk (s : State) (r : TrackRow) : Bool :=
  let gate : Frac := ⟨s.rd F.PRA_TRKCTL_GATE, 10⟩
  s.isHit r && !s.cellPoisoned r &&
  !(s.prod.tracks.any (fun p => decide (p.2.cls = rowClass r) &&
      (let dx := p.2.x.sub (rowValue r 7)
       let dy := p.2.y.sub (rowValue r 8)
       Frac.le ((dx.mul dx).add (dy.mul dy)) (gate.mul gate))))

/-- Candidates in order: EXIST descending, then row ascending. -/
def insertCand (r : TrackRow) : List TrackRow → List TrackRow
  | [] => [r]
  | x :: l => if (rowValue x 1).lt (rowValue r 1) = true ∨ ((rowValue x 1).eqv (rowValue r 1) = true ∧ r.row < x.row) then r :: x :: l
      else x :: insertCand r l

/-- The unconfirmed slot of lowest EXIST, the lowest index on a tie. -/
def State.weakest (s : State) : Option (Nat × Track) :=
  (s.prod.tracks.filter (fun p => decide (p.2.st ≠ 3))).foldl (fun b p => match b with
    | none => some p
    | some q => if p.2.exist.lt q.2.exist then some p else b) none

/-- One candidate placed, in the lowest FREE slot or in place of a weaker unconfirmed one (R199). -/
def State.placeCand (s : State) (c : TrackCounts) (tg : Nat) (r : TrackRow) : State × TrackCounts :=
  let y := { (({} : Track).take r) with st := 1, hist := 1, updates := 1, tplace := tg, tlast := tg, flags := if r.memPoison then 8 else 0, mem := rowMem r }
  match (List.range s.code.tracks).find? (fun n => decide ((s.track n).st = 0)) with
  | some n => (s.setTrack n y, c)
  | none =>
    match s.weakest with
    | some w => if (rowValue r 1).le w.2.exist then (s, { c with overflow := c.overflow + 1 })
      else (s.setTrack w.1 y, { c with displaced := c.displaced + 1 })
    | none => (s, { c with overflow := c.overflow + 1 })

/-- One update of every slot and candidate. A poisoned line of tensor 9 is one poison event; so is a poisoned memory row. -/
def State.updateTracks (s : State) (g : GridRef) (rows : List TrackRow) : State × TrackCounts :=
  let t := if s.prod.clear || bitAt g.flags 6 then { s with prod := { s.prod with tracks := [] } } else s
  let t := t.praPoisons ((rows.filter (fun r => r.linePoison)).map (fun r => r.row / 2)).eraseDups.length
  let u := (t.prod.tracks.map (fun p => p.1)).foldl (fun x n => x.1.updateSlot x.2 g.tg n (trackRow rows n) (rowPoisoned rows n)) (t, {})
  let nt := s.code.tracks
  let cand := rows.filter (fun r => decide (nt ≤ r.row) && decide (r.row < nt + 256) && !rowPoisoned rows r.row)
  let v := u.1.praPoisons (cand.filter (fun r => r.memPoison)).length
  let v := v.praPoisons (cand.filter (fun r => v.isHit r && v.cellPoisoned r)).length
  let good := (cand.filter v.candidateOk).foldl (fun l r => insertCand r l) []
  good.foldl (fun x r => x.1.placeCand x.2 g.tg r) (v, u.2)

/-! ### Track table and zone line (R201-R203, R214) -/

/-- A value times `k` rounded to the nearest whole number, ties to even, within `[lo, hi]` (R202). -/
def scaledTo (x : Frac) (k : Nat) (lo hi : Int) : Int := clampI lo hi (rhe (x.num * k) x.den)

/-- An unsigned and a signed field of a record. -/
def fieldU (n k : Nat) (x : Frac) : Bytes := leBytes n (scaledTo x k 0 (2 ^ (8 * n) - 1 : Nat)).toNat
def fieldS (n k : Nat) (x : Frac) : Bytes := leBytes n (toPattern (8 * n) (scaledTo x k (-(2 ^ (8 * n - 1) : Nat)) (2 ^ (8 * n - 1) - 1 : Nat)))

/-- A track record (R202). -/
def Track.bytes (x : Track) : Bytes :=
  if x.st = 0 then leBytes 64 0
  else
    leBytes 4 x.tid ++ leBytes 1 x.st ++ leBytes 1 x.cls ++ leBytes 1 x.hist ++ leBytes 1 x.misses ++ leBytes 4 x.updates ++ fieldU 2 65535 x.exist ++
    fieldU 2 65535 x.cscore ++ fieldS 4 1000 x.x ++ fieldS 4 1000 x.y ++ fieldU 2 1000 x.len ++ fieldU 2 1000 x.wid ++ fieldU 2 1000 x.hgt ++
    leBytes 2 (toPattern 16 (x.head.scaled 16)) ++ fieldS 2 1000 x.vx ++ fieldS 2 1000 x.vy ++ leBytes 8 x.tplace ++ leBytes 8 x.tlast ++
    leBytes 1 x.flags ++ leBytes 11 0

/-- Live slots: confirmed and unconfirmed. -/
def State.trackLive (s : State) : Nat × Nat :=
  ((s.prod.tracks.filter (fun p => decide (p.2.st = 3))).length, (s.prod.tracks.filter (fun p => decide (p.2.st ≠ 3))).length)

/-- Header bytes 24 to 35 of a track table. -/
def trackHeadCounts (live : Nat × Nat) (c : TrackCounts) : Bytes :=
  leBytes 2 live.1 ++ leBytes 2 live.2 ++ leBytes 2 c.births ++ leBytes 2 c.deletions ++ leBytes 2 c.displaced ++ leBytes 2 c.overflow

/-- The update published: records first, the header last, then the entry on ring 105. -/
def State.publishTracks (s : State) (g : GridRef) (c : TrackCounts) (cleared : Bool) : State :=
  if s.on F.PRA_TRKCTL_EN = false then s
  else
    let nt := s.code.tracks
    let i := s.prod.table
    let a := 4096 * s.rd F.PRA_TRKBASE_BASE + i * (128 * nt)
    let flags := (if c.poison then 1 else 0) + (if bitAt g.flags 6 then 2 else 0) + (if cleared then 4 else 0) + (if bitAt g.flags 7 then 8 else 0)
    let head := trackHeadCounts s.trackLive c
    let t := s.putZero (a + 4096) (64 * nt)
    let t := s.prod.tracks.foldl (fun x p => x.put (a + 4096 + 64 * p.1) p.2.bytes) t
    let t := (t.putZero (a + 128) 3968).put a (leBytes 4 g.gseq ++ leBytes 4 flags ++ leBytes 8 g.tg ++ leBytes 8 s.now ++ head ++ leBytes 92 0)
    let t := { t with prod := { t.prod with table := (i + 1) % 2 ^ s.rd F.PRA_TRKCTL_TLOG2 } }
    let t := (t.wr F.PRA_TRKSEQ_GSEQ g.gseq).measured F.PRA_TRKTIME_LAST F.PRA_TRKTIME_PEAK ((s.now - g.tpub) / 10000)
    let ip := s.prod.tracks.any (fun p => bitAt p.2.flags 2) || decide (0 < c.displaced) || decide (0 < c.overflow) || c.poison
    (t.looseEntry 105 0x84 i 0 0 false (resultOf [(24, 4, g.gseq), (28, 8, g.tg), (36, 12, leValue head)]) ip).1

/-- Zone `m`'s 12 bytes of the zone line (R203): a zone that is off holds no track. -/
def State.zoneBytes (s : State) (m : Nat) : Bytes :=
  let near := s.rd (F.PRA_ZONEm_X_XNEAR m)
  let far := s.rd (F.PRA_ZONEm_X_XFAR m)
  let inX (x : Frac) : Bool := Frac.le ⟨near, 10⟩ x && x.le ⟨far, 10⟩
  let inY (y : Frac) : Bool := Frac.le ⟨toSigned 16 (s.rd (F.PRA_ZONEm_Y_YRIGHT m)), 10⟩ y && y.le ⟨toSigned 16 (s.rd (F.PRA_ZONEm_Y_YLEFT m)), 10⟩
  let l := s.prod.tracks.filter (fun p => decide (near < far) && decide (p.2.st = 3) && inX p.2.x && inY p.2.y)
  let counts := (List.range 5).map (fun k => (BitVec.ofNat 8 (min 255 (l.filter (fun p => decide (p.2.cls = k))).length) : Byte))
  let first := l.foldl (fun b p => match b with
    | none => some p.2
    | some q => if p.2.x.lt q.x then some p.2 else b) (none : Option Track)
  counts ++ leBytes 1 0 ++ (match first with
    | some q => fieldU 2 1000 q.x ++ leBytes 4 q.tid
    | none => leBytes 2 0xFFFF ++ leBytes 4 0)

/-- ZONE_LINE_WRITE: one line through the Bed bridge, or one refusal counted. -/
def State.zoneLine (s : State) (g : GridRef) : State :=
  if s.on F.PRA_ZONEBASE_EN = false then s
  else
    let b := leBytes 4 g.gseq ++ leBytes 8 g.tg ++ ((List.range 4).map (fun m => s.zoneBytes m)).flatten ++ leBytes 3 0 ++ leBytes 1 0x80
    let r := s.bridgeWrite (bedStoreBase + 64 * s.rd F.PRA_ZONEBASE_OFF) b
    if r.2 then r.1 else s.inc F.PRA_BRDROP_ZONE

/-- TRACK_UPDATE: once per published grid of a network with a kind 4 stage. -/
def execTrackUpdate (rows : List TrackRow) (s : State) : Host.Outcome State Fault Refusal :=
  .next (
    match s.pra.grid with
    | none => s
    | some g =>
      if s.engineUp 0 = false ∨ (s.pra.net.map (fun n => n.mode4)) ≠ some true ∨ s.prod.updated = some g.gseq then s
      else
        let u := s.updateTracks g rows
        let t := { u.1 with prod := { u.1.prod with clear := false, updated := some g.gseq } }
        let live := t.trackLive
        let t := (((t.wr F.PRA_TRKLIVE_CONF live.1).wr F.PRA_TRKLIVE_UNCONF live.2).wideAdd Reg.PRA_TRKBIRTH_LO u.2.births).wideAdd
          Reg.PRA_TRKOVF_LO u.2.overflow
        let t := t.setReg Reg.PRA_TRKDISP (BitVec.ofNat 32 (satAdd 32 (t.reg Reg.PRA_TRKDISP).toNat u.2.displaced))
        (t.publishTracks g u.2 s.prod.clear).zoneLine g)

/-- A write of PRA_TRKCLR. -/
def State.trkClearWrite (s : State) : State := { s with prod := { s.prod with clear := true } }

/-- TRACK_CLEAR. -/
def execTrackClear (agent : Agent) (s : State) : Host.Outcome State Fault Refusal :=
  .next (s.gate agent 0x18 0xA24 (fun t => t.trkClearWrite))

/-! ### Forecast (R204-R207) -/

/-- The header span in force, YR and YL in mm: the forecast's since its last TF while it runs, else the register (R215). -/
def State.hdrNow (s : State) : Int × Int :=
  if s.on F.PRA_FCCTL_EN then s.prod.hdr.getD (toSigned 16 (s.rd F.PRA_FCHDR_YR), toSigned 16 (s.rd F.PRA_FCHDR_YL))
  else (toSigned 16 (s.rd F.PRA_FCHDR_YR), toSigned 16 (s.rd F.PRA_FCHDR_YL))

/-- The width of a bin and the centre of bin `b`, in m, of a header span in mm. -/
def binWidth (h : Int × Int) : Frac := ⟨h.2 - h.1, 16000⟩
def binCentre (h : Int × Int) (b : Nat) : Frac := ⟨32 * h.1 + (2 * (b : Int) + 1) * (h.2 - h.1), 32000⟩

/-- Channel 0 of tensor 10 in a cell. -/
def MassMap.density (m : MassMap) (i : Nat) : Frac :=
  bf16Real ((m.rho.find? (fun x => decide (x.1 = i))).elim
    ((Config.freeByte m.seed (4 * i)).toNat + 256 * (Config.freeByte m.seed (4 * i + 1)).toNat) (fun x => x.2))

/-- Whether a cell's word carries POISON or NOCOV. -/
def cellUnusable (w : Nat) : Bool := decide (0x8000 ≤ w) || bitAt w 14

/-- A sub-sample of R204: the cell it lies in, whether it met poisoned data, and the density there; no density where it is invalid. -/
structure SubSample where
  poison : Option Nat := none
  rho : Option Frac := none

/-- The sub-sample of a mass map at a point of the grid frame. -/
def MassMap.sample (m : MassMap) (c : Code) (x y : Frac) : SubSample :=
  match c.cellAt x y with
  | none => {}
  | some i =>
    if m.poison.contains i ∨ 0x8000 ≤ m.words.getD i 0 then { poison := some i }
    else if cellUnusable (m.words.getD i 0) then {}
    else { rho := some (c.bilinear m.density x y) }

/-- The four sub-samples of bin `b` at step `k` (R204): the bin's centre at the cutter bar at each time, moved into the frame of the grid. -/
def MassMap.subs (m : MassMap) (c : Code) (p : PoseNow) (v w yb : Frac) (k : Nat) : List SubSample :=
  (List.range 4).map (fun q =>
    let a := arc v w ⟨8 * k + 2 * q + 1, 40⟩
    let x := a.1.sub (yb.mul (sinRad a.2.2))
    let y := a.2.1.add (yb.mul (cosRad a.2.2))
    let g := moveFrame p m.grid.pose ⟨x, y, fr0⟩
    m.sample c g.x g.y)

/-- What the sampler computes for a record: the flows of the 17 rows over 40 steps in kg/s, HZ per bin, and the cells in which it met poison. -/
structure Flows where
  rows : List (List Frac)
  hz : List Nat
  met : List Nat

/-- The sampling of R204. -/
def forecastFlows (m : MassMap) (c : Code) (p : PoseNow) (h : Int × Int) : Flows :=
  let v := metres p.speed
  let w : Frac := ⟨p.yawrate.num, p.yawrate.den * 1000000⟩
  let w := if w.abs.lt ⟨1, 1000000⟩ then fr0 else w
  let subs (b : Nat) : List (List SubSample) := (List.range 40).map (fun k => m.subs c p v w (binCentre h b) k)
  let all := (List.range 16).map subs
  let row (b : Nat) : List Frac :=
    let gain := (binWidth h).mul ((v.sub (w.mul (binCentre h b))).max fr0)
    (all.getD b []).map (fun l => (l.foldl (fun a x => a.add ((x.rho.getD fr0).mul gain)) fr0).mul ⟨1, 4⟩)
  let rows := (List.range 16).map row
  let sum := (List.range 40).map (fun k => rows.foldl (fun a r => a.add (r.getD k fr0)) fr0)
  ⟨rows ++ [sum], all.map (fun l => (l.findIdx? (fun q => q.any (fun x => x.rho.isNone))).getD 40),
    ((all.flatten).flatten.filterMap (fun x => x.poison)).eraseDups⟩

/-- Every flow 0: the machine stands, or no grid is usable. -/
def noFlow : List (List Frac) := List.replicate 17 (List.replicate 40 fr0)

/-- The 51 tray lines of a record (R206). -/
def forecastTrays (rows : List (List Frac)) : Bytes :=
  (List.range 51).flatMap (fun i =>
    let r := rows.getD (i / 3) []
    (trayBytes ((List.range 14).map (fun k => if i % 3 = 2 ∧ 12 ≤ k then fr0 else r.getD (14 * (i % 3) + k) fr0)) 0).1)

/-- The record header (R206), its valid mark in byte 63. -/
def forecastHead (fseq fflags tf : Nat) (g : Option GridRef) (speed : Int) (hz : List Nat) (binw : Nat) : Bytes :=
  leBytes 4 fseq ++ leBytes 4 fflags ++ leBytes 8 tf ++ leBytes 8 ((g.map (fun x => x.tg)).getD 0) ++ leBytes 4 ((g.map (fun x => x.gseq)).getD 0) ++
  leBytes 4 (toPattern 32 speed) ++ ((List.range 16).map (fun b => (BitVec.ofNat 8 (hz.getD b 0) : Byte))) ++ leBytes 2 binw ++ leBytes 14 0

/-- A line with its valid mark, 0x80 in byte 63. -/
def validMark (b : Bytes) : Bytes := b.take 63 ++ [0x80]

/-- The lines of bytes at `a` with what hangs on their arrival. -/
def taggedLines (a : Nat) (b : Bytes) (tag : LineTag) : List BridgeLine :=
  (linesOf (b.length / 64 + 2) a b false false).map (fun l => { l with frame := tag })

/-- The record abandoned (R207): its lines on the way still arrive, its valid marks are never written. -/
def State.fcAbandon (s : State) : State :=
  ({ s with
      prod := { s.prod with fcGap := true, fc := none }
      bridge := { s.bridge with inbound := s.bridge.inbound.map (fun (l : BridgeLine) => if l.frame = LineTag.forecast then { l with frame := LineTag.plain } else l) } }).inc
    F.PRA_BRDROP_FC

/-- The lines of a record's step under way: the header with byte 63 = 0, the 51 tray lines, or the header and the pointer line with their valid
marks (R205). -/
def FcRun.lines (r : FcRun) : List BridgeLine :=
  if r.step = 1 then taggedLines r.addr r.head .forecast
  else if r.step = 2 then taggedLines (r.addr + 64) r.trays .forecast
  else taggedLines r.addr (validMark r.head) .plain ++ taggedLines r.base r.ptr .pointer

/-- A step of a record handed to the bridge; the lines of a step that finds no room are refused whole and the record is abandoned (R205, R207). -/
def State.fcIssue (s : State) (r : FcRun) : State :=
  let ls := r.lines
  if s.inboundRoom false ls.length = false then s.fcAbandon
  else
    let t := s.accept ls
    if r.step = 3 then { t with prod := { t.prod with fc := none, fcGap := false, posted := t.prod.posted ++ [r] } }
    else { t with prod := { t.prod with fc := some { r with left := ls.length } } }

/-- A line of the record under way has reached the Bed store: the next step starts behind the last line of the one before (R205). -/
def State.fcLanded (s : State) : State :=
  match s.prod.fc with
  | none => s
  | some r =>
    if 1 < r.left then { s with prod := { s.prod with fc := some { r with left := r.left - 1 } } }
    else if r.step < r.steps ∧ s.engineUp 0 = true then s.fcIssue { r with step := r.step + 1, left := 0 }
    else { s with prod := { s.prod with fc := some { r with left := 0 } } }

/-- A pointer line has reached the Bed store: its record is delivered, with its entry on ring 106 (R206, R214, R215). -/
def State.fcDelivered (s : State) : State :=
  match s.prod.posted with
  | [] => s
  | r :: rest =>
    let keep := s.prod.profiles.filter (fun x => decide (r.tf ≤ x.1 + 60000000000))
    let t := { s with prod := { s.prod with posted := rest, profiles := keep ++ [(r.tf, r.prof)] } }
    let t := ((t.wr F.PRA_FCSEQ_FSEQ r.fseq).measured F.PRA_FCTIME_LAST F.PRA_FCTIME_PEAK r.us).wideAdd Reg.PRA_FCCNT_LO 1
    (t.looseEntry 106 0x85 r.slot 0 0 false (resultOf [(24, 4, r.fseq), (28, 8, r.tf), (36, 4, r.flags), (40, 4, r.gseq)]) (decide (r.flags ≠ 0))).1

/-- An inbound line of the Bed bridge reaches the Bed store, with what hangs on its arrival. -/
def State.landLine (s : State) (l : BridgeLine) : State :=
  let t := s.store l.addr l.data l.poison
  match l.frame with
  | .plain => t
  | .analyser n => t.frameLanded n
  | .forecast => t.fcLanded
  | .pointer => t.fcDelivered

/-- The mass map of the newest grid taken over, once its kind 5 stage has completed (R204). -/
def State.massTake (s : State) (rho conf : List (Nat × Nat)) (poison : List Nat) : State :=
  match s.pra.grid with
  | none => s
  | some g =>
    if (s.prod.mass.map (fun m => m.grid)) = some g then s
    else { s.tickFree with prod := { s.prod with mass := some ⟨g, s.pra.cells, s.free, rho, conf, poison⟩ } }

/-- The record of the forecast at TF, with the poison its sub-samples met counted; how many of its steps start and the µs to its pointer are the
command's (R204, R206). -/
def State.fcBuild (s : State) (steps us : Nat) : State × FcRun :=
  let h := (toSigned 16 (s.rd F.PRA_FCHDR_YR), toSigned 16 (s.rd F.PRA_FCHDR_YL))
  let p := s.poseAt s.now
  let m := s.prod.mass
  let stopped := decide (p.speed.num ≤ 0)
  let f := m.map (fun x => forecastFlows x s.code p h)
  let rows := if stopped then noFlow else (f.map (fun x => x.rows)).getD noFlow
  let met := ((f.map (fun x => x.met)).getD []).length
  let old := (m.map (fun x => decide (s.rd F.PRA_FCCTL_STALE * 10000000 < s.now - x.grid.tg))).getD false
  let ff := (if p.stale then 1 else 0) + (if m.isNone then 2 else 0) + (if 0 < met then 4 else 0) + (if s.prod.fcGap then 8 else 0) +
    (if stopped then 16 else 0) + (if old then 32 else 0)
  let fseq := s.prod.fseq
  let n := 2 ^ s.rd F.PRA_FCCTL_FLOG2
  let base := bedStoreBase + 4096 * s.rd F.PRA_FCBASE_OFF
  let g := m.map (fun x => x.grid)
  let t := s.praPoisons met
  ({ t with prod := { t.prod with fseq := (fseq + 1) % 2 ^ 32, hdr := some h } },
    { fseq := fseq, tf := s.now, slot := fseq % n, flags := ff, gseq := (g.map (fun x => x.gseq)).getD 0,
      head := forecastHead fseq ff s.now g (rhe p.speed.num p.speed.den) ((f.map (fun x => x.hz)).getD []) ((h.2 - h.1) / 16).toNat,
      trays := forecastTrays rows,
      ptr := leBytes 4 fseq ++ leBytes 1 (fseq % n) ++ leBytes 3 0 ++ leBytes 8 s.now ++ leBytes 47 0 ++ leBytes 1 0x80,
      addr := base + 4096 + 4096 * (fseq % n), base := base, prof := (List.range 16).map (fun b => (rows.getD b []).getD 0 fr0),
      steps := steps, us := us })

/-- FORECAST_SAMPLE: at each TF the record before it is abandoned where its pointer has not been handed over, and the new one starts. A package
without a kind 5 stage publishes no forecast (R198). -/
def execForecastSample (massDone : Bool) (rho conf : List (Nat × Nat)) (poison : List Nat) (steps us : Nat) (s : State) :
    Host.Outcome State Fault Refusal :=
  .next (
    if s.engineUp 0 = false ∨ s.on F.PRA_FCCTL_EN = false ∨ s.now % 20000000 ≠ s.rd F.PRA_FCCTL_FCOFF * 1000 then s
    else
      let t := if s.prod.fc.isSome then s.fcAbandon else s
      if (t.pra.net.map (fun n => n.mode5)) ≠ some true then t
      else
        let r := (if massDone then t.massTake rho conf poison else t).fcBuild steps us
        if steps = 0 then { r.1 with prod := { r.1.prod with fc := some { r.2 with step := 0 } } } else r.1.fcIssue r.2)

/-! ### Yield tiles (R209-R212) -/

/-- The frame at position `pos` of the mirror log: its address, if it holds a frame of stream `n` (R130). -/
def State.logFrame (s : State) (pos n : Nat) : Option Nat :=
  let a := 512 * s.rd F.ING_MIRBASE_BASE + 512 * (pos % 2 ^ s.rd F.ING_MIRCFG_LOG2F)
  let h := s.mem.readLe a 8
  if bitsOf h 63 63 = framePhase pos (s.rd F.ING_MIRCFG_LOG2F) ∧ bitsOf h 62 56 = n then some a else none

/-- The samples of the frame at `a` of stream `n` that the tiler uses, as (tray, sample): of the analyser streams sample WK alone (R209). -/
def State.frameSamples (s : State) (n a : Nat) : List (Nat × Nat) :=
  let h := s.mem.readLe a 8
  let count := bitsOf h 50 48
  (List.range count).flatMap (fun t =>
    ((List.range (if t + 1 = count then bitsOf h 55 52 else 14)).filter (fun k => decide (n < 96 ∨ 104 ≤ n ∨ k = s.rd F.PRA_YLDSRC_WK))).map (fun k => (t, k)))

/-- The samples of stream `n` in the mirror log, in publication order, from position `pos` on, over `frames` frames: position, tray, sample. -/
def State.logSamples (s : State) (n pos frames : Nat) : List (Nat × Nat × Nat) :=
  (List.range frames).flatMap (fun i =>
    let p := (pos + i) % 2 ^ 32
    match s.logFrame p n with
    | some a => (s.frameSamples n a).map (fun x => (p, x.1, x.2))
    | none => [])

/-- The frames of the mirror log that can be read: how many from which position on. -/
def State.logSpan (s : State) : Nat × Nat :=
  let w := s.rd F.ING_MIRPOS_POS
  let size := 2 ^ s.rd F.ING_MIRCFG_LOG2F
  ((w + 2 ^ 32 - size) % 2 ^ 32, size)

/-- A sample of stream `n` of the log. -/
def State.logReading (s : State) (n : Nat) (x : Nat × Nat × Nat) : Option Reading :=
  (s.logFrame x.1 n).map (fun a => s.readSample n a (s.mem.readLe a 8) x.2.1 x.2.2)

/-- The mass-flow sample that the tiler reads next: the first behind its place, in publication order; what the log has overwritten is passed over. -/
def State.nextSample (s : State) : Option (Nat × Nat × Nat) :=
  let c := s.prod.readAt
  let w := s.rd F.ING_MIRPOS_POS
  let size := 2 ^ s.rd F.ING_MIRCFG_LOG2F
  let behind := (w + 2 ^ 32 - c.1) % 2 ^ 32
  let start := if size < behind then (w + 2 ^ 32 - size) % 2 ^ 32 else c.1
  (s.logSamples (s.rd F.PRA_YLDSRC_MSTREAM) start (min size behind)).find? (fun x =>
    decide (x.1 ≠ c.1) || decide (c.2.1 < x.2.1) || (decide (c.2.1 = x.2.1) && decide (c.2.2 ≤ x.2.2)))

/-- `gain × value + offset` with the binary32 coefficients of two registers; 0 for a coefficient that is no number. -/
def State.yldScale (s : State) (gain offset : Nat) (v : Frac) : Frac :=
  ((((f32 (s.reg gain).toNat).getD ⟨0, 1⟩).mul v).add ((f32 (s.reg offset).toNat).getD ⟨0, 1⟩))

/-- Mass dropped, in g. -/
def State.yldDrop (s : State) (g : Frac) : State :=
  let t := s.prod.dropped.add g
  ({ s with prod := { s.prod with dropped := t } }).wrSat F.PRA_YLDDROP_G t.floor.toNat

/-- The open tiles shown in PRA_YLDOPEN. -/
def State.showTiles (s : State) : State := s.wr F.PRA_YLDOPEN_OPEN s.prod.tiles.length

/-- The tiles set. -/
def State.setTiles (s : State) (l : List Tile) : State := ({ s with prod := { s.prod with tiles := l } }).showTiles

/-- Whether a tile may close (R211). -/
def State.tileRoom (s : State) : Bool :=
  decide ((s.rd F.PRA_YLDWPOS_POS + 2 ^ 32 - s.rd F.PRA_YLDRPOS_POS) % 2 ^ 32 < 2 ^ s.rd F.PRA_YLDCTL_YLOG2)

/-- A value rounded to the nearest unit of an unsigned 32-bit field, saturating. -/
def tileU32 (x : Frac) : Nat := min 0xFFFFFFFF (rhe x.num x.den).toNat

/-- A cell as its 16 bytes (R212). -/
def TileCell.bytes (c : TileCell) : Bytes :=
  leBytes 4 (tileU32 c.wet) ++ leBytes 4 (tileU32 c.water) ++ leBytes 4 (tileU32 c.area) ++ leBytes 2 (min 0xFFFF c.samples) ++ leBytes 2 c.flags

/-- The mass of a tile. -/
def Tile.mass (x : Tile) : Frac := x.cells.foldl (fun m c => m.add c.2.wet) ⟨0, 1⟩

/-- A tile written: cells first, the header last, then the entry on ring 107; PRA_YLDWPOS advances. -/
def State.writeTile (s : State) (x : Tile) (extra : Nat) : State :=
  let w := s.rd F.PRA_YLDWPOS_POS
  let n := 2 ^ s.rd F.PRA_YLDCTL_YLOG2
  let a := 4096 * s.rd F.PRA_YLDBASE_BASE + (w % n) * 266240
  let flags := x.flags ||| extra
  let mass := (rhe x.mass.num x.mass.den).toNat
  let t := s.putZero (a + 4096) 262144
  let t := x.cells.foldl (fun y c => y.put (a + 4096 + 16 * c.1) c.2.bytes) t
  let head := leBytes 4 w ++ leBytes 4 flags ++ leBytes 4 (toPattern 32 x.te) ++ leBytes 4 (toPattern 32 x.tn) ++ leBytes 4 (s.rd F.PRA_YLDCTL_CELL) ++
    leBytes 4 (s.rd F.PRA_YLDORGLAT_VAL) ++ leBytes 4 (s.rd F.PRA_YLDORGLON_VAL) ++ leBytes 4 (s.rd F.PRA_YLDORGH_VAL) ++ leBytes 8 x.topen ++
    leBytes 8 s.now ++ leBytes 8 mass ++ leBytes 4 x.cells.length ++ leBytes 4036 0
  let t := (t.put a head).wr F.PRA_YLDWPOS_POS (w + 1)
  let t := t.setTiles (s.prod.tiles.filter (fun y => decide (y.te ≠ x.te ∨ y.tn ≠ x.tn)))
  (t.looseEntry 107 0x86 (w % n) 0 0 false
    (resultOf [(24, 4, w), (28, 4, toPattern 32 x.te), (32, 4, toPattern 32 x.tn), (36, 4, flags), (40, 8, mass)]) true).1

/-- A tile closes, or stays open with FULL while no slot is free. -/
def State.closeTile (s : State) (x : Tile) (extra : Nat) : State :=
  if s.tileRoom then s.writeTile x extra
  else (s.setTiles (s.prod.tiles.map (fun y => if y.te = x.te ∧ y.tn = x.tn then { y with closing := y.closing ||| extra } else y))).wr F.PRA_YLDOPEN_FULL 1

/-- The tile that has been used least recently. -/
def oldestTile (l : List Tile) : Option Tile :=
  l.foldl (fun b x => match b with
    | none => some x
    | some y => if x.used < y.used then some x else b) none

/-- Tile (te, tn) opened if it is not, closing the least recently used where 16 are open; none where it cannot be opened. -/
def State.openTile (s : State) (te tn : Int) : State × Option Tile :=
  match s.prod.tiles.find? (fun x => decide (x.te = te ∧ x.tn = tn)) with
  | some x => (s, some x)
  | none =>
    let t := if s.prod.tiles.length < 16 then s else match oldestTile s.prod.tiles with
      | some x => s.closeTile x 16
      | none => s
    if t.prod.tiles.length < 16 then (t, some ⟨te, tn, t.now, t.now, 0, 0, [], 0⟩) else (t, none)

/-- A tile put back among the open ones as the most recently used. -/
def State.keepTile (s : State) (x : Tile) : State :=
  let l := s.prod.tiles.filter (fun y => decide (y.te ≠ x.te ∨ y.tn ≠ x.tn))
  ({ s with prod := { s.prod with uses := s.prod.uses + 1 } }).setTiles (l ++ [{ x with used := s.prod.uses + 1 }])

/-- One bin's part of a sample added to its cell. -/
def State.addToCell (s : State) (e n : Int) (wet water area : Frac) (flags : Nat) : State :=
  let r := s.openTile (e / 128) (n / 128)
  match r.2 with
  | none => r.1.yldDrop wet
  | some x =>
    let key := ((n % 128) * 128 + e % 128).toNat
    let c := SMap.get (fun _ => {}) x.cells key
    let c := { c with wet := c.wet.add wet, water := c.water.add water, area := c.area.add area, samples := c.samples + 1, flags := c.flags ||| flags }
    let t := r.1.keepTile { x with cells := SMap.set (fun _ => {}) x.cells key c, tlast := s.now, flags := x.flags ||| (if flags % 2 = 1 then 2 else 0) ||| flags / 4 % 2 }
    let m := t.prod.placed.add wet
    ({ t with prod := { t.prod with placed := m } }).wideSet Reg.PRA_YLDMASS_LO (min (2 ^ 64 - 1) m.floor.toNat)

/-- Flags set on the tile used last. -/
def State.flagTile (s : State) (flags : Nat) : State :=
  match s.prod.tiles.getLast? with
  | some x => s.setTiles (s.prod.tiles.dropLast ++ [{ x with flags := x.flags ||| flags }])
  | none => s

/-- The distance of two times. -/
def apart (a b : Nat) : Nat := if a ≤ b then b - a else a - b

/-- The step-0 profile of the delivered record nearest to `tc`, within 0.1 s. -/
def State.profileAt (s : State) (tc : Nat) : Option (List Frac) :=
  ((s.prod.profiles.filter (fun x => decide (apart x.1 tc ≤ 100000000))).foldl (fun b x => match b with
    | none => some x
    | some y => if apart x.1 tc < apart y.1 tc then some x else b) none).map (fun x => x.2)

/-- The time to which a mass-flow sample's moisture belongs (R209). -/
def State.moistTime (s : State) (stamp : Nat) : Nat :=
  stamp + s.rd F.PRA_YLDDELAY_DELAY * 1000000 - s.rd F.PRA_YLDDELAY_WDELAY * 1000000

/-- The moisture sample of the log nearest to a time, the earlier of two; none where none lies within 10 s (R209). -/
def State.nearestMoist (s : State) (want : Nat) : Option (Nat × Nat × Nat) :=
  let n := s.rd F.PRA_YLDSRC_WSTREAM
  ((s.logSamples n s.logSpan.1 s.logSpan.2).foldl (fun b x =>
    match s.logReading n x with
    | none => b
    | some r =>
      if 10000000000 < apart r.stamp want then b
      else match b with
        | some y => if apart r.stamp want < apart y.2 want then some (x, r.stamp) else b
        | none => some (x, r.stamp)) (none : Option ((Nat × Nat × Nat) × Nat))).map (fun y => y.1)

/-- The east and north cell numbers under the bin centres for a cut at `tc`, in the local tangent plane (R210, R211). -/
def State.yieldCells (s : State) (tc : Nat) : List (Int × Int) :=
  let p := s.poseAt tc
  let cs : Frac := ⟨2 ^ s.rd F.PRA_YLDCTL_CELL, 2⟩
  (List.range 16).map (fun b =>
    let q := p.toPlane ⟨fr0, binCentre s.hdrNow b, fr0⟩
    ((q.x.div cs).floor, (q.y.div cs).floor))

/-- The cut time of a mass-flow sample (R209). -/
def State.cutTime (s : State) (stamp : Nat) : Nat := stamp - s.rd F.PRA_YLDDELAY_DELAY * 1000000

/-- The sample period for a mass-flow sample: the stream's; an analyser stream has none, and the time since the sample before stands for it
(notes/assumptions/23.md). -/
def State.yieldDt (s : State) (stamp : Nat) : Nat :=
  let n := s.rd F.PRA_YLDSRC_MSTREAM
  if 96 ≤ n ∧ n < 104 then (s.prod.lastStamp.map (fun l => stamp - l)).getD 0 else s.streamPeriod n

/-- The mass-flow samples missing before a stamp: whole periods since the last sample read, but for its own (R215). -/
def State.missingBefore (s : State) (stamp : Nat) : Nat :=
  let n := s.rd F.PRA_YLDSRC_MSTREAM
  match s.prod.lastStamp with
  | some l => if 96 ≤ n ∧ n < 104 ∨ s.streamPeriod n = 0 then 0 else (stamp - l + s.streamPeriod n / 2) / s.streamPeriod n - 1
  | none => 0

/-- A mass-flow sample split over the 16 bins and placed (R210); `gap` is the cell flag of samples missing before it. -/
def State.placeYield (s : State) (r : Reading) (w : Option Frac) (gap : Nat) : State :=
  let q := (s.yldScale Reg.PRA_YLDMGAIN Reg.PRA_YLDMOFF r.v).max ⟨0, 1⟩
  let dt : Frac := ⟨s.yieldDt r.stamp, 1000000000⟩
  let mass := (q.mul dt).mul ⟨1000, 1⟩
  let tc := s.cutTime r.stamp
  match bracket tc s.poses with
  | (none, _) => (s.yldDrop mass).flagTile 1
  | (some _, _) =>
    let p := s.poseAt tc
    let cells := s.yieldCells tc
    let prof := if s.on F.PRA_YLDCTL_SPLIT then (s.profileAt tc).getD [] else []
    let sum := prof.foldl Frac.add fr0
    let flat := decide (sum.num ≤ 0)
    let h := s.hdrNow
    let flags := (if flat then 1 else 0) + (if w.isNone then 2 else 0) + gap
    (List.range 16).foldl (fun t b =>
      let part := mass.mul (if flat then ⟨1, 16⟩ else (prof.getD b fr0).div sum)
      let v := ((metres p.speed).sub ((binCentre h b).mul ⟨p.yawrate.num, p.yawrate.den * 1000000⟩)).max fr0
      let area := (((binWidth h).mul v).mul dt).mul ⟨10000, 1⟩
      let c := cells.getD b (0, 0)
      t.addToCell c.1 c.2 part ((part.mul (w.getD fr0)).mul ⟨1, 100⟩) area flags) s

/-- A mass-flow sample read: the samples missing before it count, a poisoned line's sample is not placed, and a poisoned moisture line gives no
moisture (R209, R213, R215). -/
def State.readYield (s : State) (x : Nat × Nat × Nat) (r : Reading) : State :=
  let miss := s.missingBefore r.stamp
  let t := { s with prod := { s.prod with readAt := (x.1, x.2.1, x.2.2 + 1) } }
  let t := if miss = 0 then t else (t.incBy F.PRA_YLDGAP_CNT miss).flagTile 1
  let u :=
    if r.poison then ((t.praPoison).inc F.PRA_YLDGAP_CNT).flagTile 5
    else
      let m := (s.nearestMoist (s.moistTime r.stamp)).bind (s.logReading (s.rd F.PRA_YLDSRC_WSTREAM))
      let bad := (m.map (fun y => y.poison)).getD false
      let w := if bad then none else m.map (fun y => s.yldScale Reg.PRA_YLDWGAIN Reg.PRA_YLDWOFF y.v)
      let v := (if bad then t.praPoison else t).placeYield r w (if miss = 0 then 0 else 4)
      if bad then v.flagTile 5 else v
  { u with prod := { u.prod with lastStamp := some r.stamp } }

/-- YIELD_SAMPLE: the tiler reads the next mass-flow sample of the log. The operands name what the state fixes (its place, the moisture sample
nearest to it, the cells under the bins); a command that names another is none of the tiler's steps. -/
def execYieldSample (pos tray k : Nat) (moist : Option (Nat × Nat × Nat)) (cells : List (Int × Int)) (s : State) : Host.Outcome State Fault Refusal :=
  .next (
    if s.engineUp 0 = false ∨ s.on F.PRA_YLDCTL_EN = false ∨ s.nextSample ≠ some (pos, tray, k) then s
    else
      match s.logReading (s.rd F.PRA_YLDSRC_MSTREAM) (pos, tray, k) with
      | none => s
      | some r => if moist ≠ s.nearestMoist (s.moistTime r.stamp) ∨ cells ≠ s.yieldCells (s.cutTime r.stamp) then s else s.readYield (pos, tray, k) r)

/-- TILE_CLOSE: no mass has entered the tile for TCLOSE × 10 s. -/
def execTileClose (te tn : Int) (s : State) : Host.Outcome State Fault Refusal :=
  .next (
    match s.prod.tiles.find? (fun x => decide (x.te = te ∧ x.tn = tn)) with
    | none => s
    | some x => if s.engineUp 0 = true ∧ x.tlast + s.rd F.PRA_YLDCTL_TCLOSE * 10000000000 ≤ s.now then s.closeTile x 0 else s)

/-- Every open tile closed with FLUSH. -/
def State.flushTiles (s : State) : State := s.prod.tiles.foldl (fun t x => t.closeTile x 8) s

/-- YIELD_FLUSH. -/
def execYieldFlush (agent : Agent) (s : State) : Host.Outcome State Fault Refusal :=
  .next (s.gate agent 0x18 0xC48 (fun t => t.flushTiles))

/-- A write of PRA_YLDRPOS: one that would pass PRA_YLDWPOS keeps the previous value; tiles that waited to close now close. -/
def State.yldrposSet (s : State) (v : W32) : State :=
  let used := (s.rd F.PRA_YLDWPOS_POS + 2 ^ 32 - s.rd F.PRA_YLDRPOS_POS) % 2 ^ 32
  if used < (v.toNat + 2 ^ 32 - s.rd F.PRA_YLDRPOS_POS) % 2 ^ 32 then s
  else
    let t := s.setReg Reg.PRA_YLDRPOS v
    let t := if t.tileRoom then t.wr F.PRA_YLDOPEN_FULL 0 else t
    (t.prod.tiles.filter (fun x => decide (x.closing ≠ 0))).foldl (fun y x => y.closeTile x x.closing) t

/-- YLDRPOS_WRITE. -/
def execYldrposWrite (agent : Agent) (value : W32) (s : State) : Host.Outcome State Fault Refusal :=
  .next (s.gate agent 0x18 0xC30 (fun t => t.yldrposSet value))

/-! ### Register writes and parity (R215) -/

/-- Every track slot freed and publication stopped. -/
def State.tracksOff (s : State) : State :=
  (((({ s with prod := { s.prod with tracks := [] } }).wr F.PRA_TRKCTL_EN 0).wr F.PRA_TRKLIVE_CONF 0)).wr F.PRA_TRKLIVE_UNCONF 0

/-- The tiler's open tiles discarded into PRA_YLDDROP. -/
def State.tilesDiscard (s : State) : State :=
  ((s.prod.tiles.foldl (fun t x => t.yldDrop x.mass) s).setTiles []).wr F.PRA_YLDOPEN_FULL 0

/-- A write of a PRA register from offset 0xA00 on. -/
def State.praProductWrite (s : State) (off : Nat) (v : W32) : State :=
  let key := 0x18000 + off
  if listedAt key v = false then s
  else if off = 0xA00 then
    let ring := 2 ^ getBits v 30 28 * (128 * s.code.tracks)
    let a := 4096 * s.rd F.PRA_TRKBASE_BASE
    if s.on F.PRA_TRKCTL_EN ∧ getBits v 30 28 ≠ s.rd F.PRA_TRKCTL_TLOG2 then s.praReject 4 0x1F
    else if s.on F.PRA_TRKCTL_EN = false ∧ getBits v 31 31 = 1 then
      if (s.pra.net.map (fun n => n.mode4)) ≠ some true then s.praReject 9 0x1F
      else if a % ring ≠ 0 ∨ inDramRange s.code a ring = false then s.praReject 7 0x1F
      else
        let t := s.applyWrite key v
        { t with prod := { t.prod with table := 0 } }
    else s.applyWrite key v
  else if off = 0xA04 then (if s.on F.PRA_TRKCTL_EN then s.praReject 4 0x1F else s.applyWrite key v)
  else if off = 0xA24 then (if getBits v 0 0 = 1 then s.trkClearWrite else s)
  else if off = 0xB00 then
    let area := 4096 + 4096 * 2 ^ getBits v 30 28
    if 20000 ≤ getBits v 14 0 then s
    else if s.on F.PRA_FCCTL_EN ∧ getBits v 30 28 ≠ s.rd F.PRA_FCCTL_FLOG2 ∨ s.on F.PRA_FCCTL_EN ∧ getBits v 14 0 ≠ s.rd F.PRA_FCCTL_FCOFF then
      s.praReject 4 0x1F
    else if s.on F.PRA_FCCTL_EN = false ∧ getBits v 31 31 = 1 then
      if inBedRange (bedStoreBase + 4096 * s.rd F.PRA_FCBASE_OFF) area = false then s.praReject 8 0x1F
      else if (s.pra.net.map (fun n => n.mode5)) ≠ some true then s.praReject 9 0x1F
      else if toSigned 16 (s.rd F.PRA_FCHDR_YL) ≤ toSigned 16 (s.rd F.PRA_FCHDR_YR) then s.praReject 0xA 0x1F
      else
        let t := s.applyWrite key v
        { t with prod := { t.prod with fseq := 0, fcGap := false, hdr := none } }
    else s.applyWrite key v
  else if off = 0xB04 then (if s.on F.PRA_FCCTL_EN then s.praReject 4 0x1F else s.applyWrite key v)
  else if off = 0xB08 then
    if toSigned 16 (getBits v 31 16) ≤ toSigned 16 (getBits v 15 0) then s.praReject 0xA 0x1F else s.applyWrite key v
  else if off = 0xC00 then
    let en := s.on F.PRA_YLDCTL_EN
    if en = true ∧ getBits v 30 25 ≠ getBits (s.reg key) 30 25 then s.praReject 4 0x1F
    else if en = true ∧ getBits v 31 31 = 0 then (s.flushTiles).applyWrite key v
    else if en = false ∧ getBits v 31 31 = 1 ∧
        inDramRange s.code (4096 * s.rd F.PRA_YLDBASE_BASE) (2 ^ getBits v 30 27 * 266240) = false then s.praReject 0xB 0x1F
    else if en = false ∧ getBits v 31 31 = 1 then
      let t := s.applyWrite key v
      { t with prod := { t.prod with readAt := (s.rd F.ING_MIRPOS_POS, 0, 0), lastStamp := none } }
    else s.applyWrite key v
  else if off = 0xC04 ∨ (0xC20 ≤ off ∧ off < 0xC2C) then (if s.on F.PRA_YLDCTL_EN then s.praReject 4 0x1F else s.applyWrite key v)
  else if off = 0xC30 then s.yldrposSet v
  else if off = 0xC48 then (if getBits v 0 0 = 1 then s.flushTiles else s)
  else s.applyWrite key v

/-- A write of any PRA register. -/
def State.praWrite (s : State) (off : Nat) (v : W32) : State := if off < 0xA00 then s.praGridWrite off v else s.praProductWrite off v

/-- The further effect of a parity fault in the PRA register at offset `off`, which has been returned to reset (R195, R215). -/
def State.praParity (s : State) (off : Nat) : State :=
  if off = 0x00C ∨ off = 0x01C ∨ off = 0x018 ∨ off = 0x010 ∨ off = 0x014 ∨ off = 0x024 then s.wr F.PRA_GCTL_EN 0
  else if 0x100 ≤ off ∧ off < 0x500 then s.showSensor ((off - 0x100) / 0x40) 0
  else if 0xA00 ≤ off ∧ off < 0xA50 then s.tracksOff
  else if 0xB00 ≤ off ∧ off < 0xB20 then s.wr F.PRA_FCCTL_EN 0
  else if 0xC00 ≤ off then (s.tilesDiscard).wr F.PRA_YLDCTL_EN 0
  else s

end Sys2Proof.Machine
end

