-- ==== Sys2Proof/Machine/Fabric.lean ====
section
/-! DEFINITION. The commands of Gorge, its transaction tracker and the Bed bridge (R15-R31). -/

namespace Sys2Proof.Machine

/-- Entries of the tracker (R23). -/
def trackerSize : Nat := 8192

/-- Entries requester `n` holds. -/
def Fab.inUse (f : Fab) (n : Nat) : Nat := (f.entries.filter (fun e => decide (e.req = n))).length

/-- Reserved entries not in use (R24). -/
def State.unusedReserve (s : State) : Nat :=
  (List.range 16).foldl (fun x n => x + (s.rd (F.FAB_CREDn_RESERVE n) - s.fab.inUse n)) 0

/-- Free entries of the shared pool, taken as 0 while they compute below 0 (R24, R29). -/
def State.sharedFree (s : State) : Nat := trackerSize - s.fab.entries.length - s.unusedReserve

/-- Whether requester `q` is below its reserve and the tracker holds a free entry (R24, R29). -/
def State.belowReserve (s : State) (q : Nat) : Bool :=
  decide (s.fab.inUse q < s.rd (F.FAB_CREDn_RESERVE q)) && decide (s.fab.entries.length < trackerSize)

/-- Whether requester `q` may take a shared entry (R24). -/
def State.mayShare (s : State) (q : Nat) : Bool :=
  decide (s.fab.inUse q < s.rd (F.FAB_CREDn_LIMIT q)) && decide (0 < s.sharedFree)

/-- Whether requester `q` holds its limit (R29). -/
def State.atLimit (s : State) (q : Nat) : Bool := decide (s.rd (F.FAB_CREDn_LIMIT q) ≤ s.fab.inUse q)

/-- Whether a waiting request is eligible now. -/
def State.eligible (s : State) (q : Nat) : Bool := !s.atLimit q && (s.belowReserve q || s.mayShare q)

/-- Completion bound of a target class in ns (R26). -/
def classBound (c : Nat) : Nat :=
  match c with
  | 0 => 2000
  | 1 => 4000
  | 2 => 8000
  | 3 => 4000
  | 4 => 20000
  | 5 => 10000
  | 6 => 1000000
  | _ => 10000

/-- The FAB status registers brought up to date; SHAREDOUT raises its interrupt when it rises (R30). -/
def State.fabRegs (s : State) : State :=
  let n := s.fab.entries.length
  let was := s.on F.FAB_STAT_SHAREDOUT
  let out := decide (s.sharedFree = 0)
  let t := ((((s.wr F.FAB_OCC_OCC n).peak F.FAB_OCC_HWM n).wr F.FAB_SHARED_UNUSEDRES s.unusedReserve).wr
    F.FAB_SHARED_SHAREDFREE s.sharedFree)
  let t := (t.wrB F.FAB_STAT_FULL (decide (n = trackerSize))).wrB F.FAB_STAT_SHAREDOUT out
  let t := (List.range 16).foldl (fun x i => (x.wr (F.FAB_INUSEn_INUSE i) (x.fab.inUse i)).peak (F.FAB_INUSEn_PEAK i) (x.fab.inUse i)) t
  let t := match t.fab.entries with
    | e :: _ => ((t.wr F.FAB_OLDEST_REQ e.req).wr F.FAB_OLDEST_CLASS e.cls).wr F.FAB_OLDEST_TAG e.tag
    | [] => t.setReg Reg.FAB_OLDEST 0
  if out && !was then t.notify F.FAB_STAT_SHAREDOUT F.FAB_CTL_IE_SHOUT else t

/-- The rings of the engine that issues as requester `n` (R27, R102). -/
def requesterRings (n : Nat) : List Nat :=
  match n with
  | 2 => [100, 101, 102, 103, 104, 105, 106, 107]
  | 3 => [92, 93, 94, 95, 96, 97, 98, 99]
  | 5 => [108, 109]
  | 6 => [72, 73, 74, 75, 76, 77, 78, 79]
  | 7 => [68, 69, 70, 71]
  | 8 => [110, 111]
  | 9 => [80, 81, 82, 83, 84, 85, 86, 87]
  | 10 => [88, 89, 90, 91]
  | _ => []

/-- RNG_WAITn of an engine's enabled rings (R102). -/
def State.ringsWait (s : State) (n : Nat) (v : Bool) : State :=
  (requesterRings n).foldl (fun x q => x.mapBit (Reg.RNG_WAITn 0) q (v && x.on (F.RNG_QnCFG_EN q))) s

/-- The lowest tag from `k` on that no entry carries; `fuel` bounds the search. -/
def lowestTag (used : List Nat) (fuel k : Nat) : Nat :=
  match fuel with
  | 0 => k
  | n + 1 => if used.contains k then lowestTag used n (k + 1) else k

/-- The tag given: the wanted one where no entry carries it, else the lowest unused. -/
def Fab.tagFor (f : Fab) (want : Nat) : Nat :=
  let used := f.entries.map (fun e => e.tag)
  if want < trackerSize ∧ used.contains want = false then want else lowestTag used trackerSize 0

/-- A request acknowledged after waiting since `since` (R30: FAB_WAITn.MAXWAIT). -/
def State.grant (s : State) (w : FabWait) (tag : Nat) : State :=
  let e : FabEntry := ⟨s.fab.tagFor tag, w.req, w.cls, w.write, w.addr, w.len, s.now, w.poison⟩
  ({ s with fab := { s.fab with entries := s.fab.entries ++ [e] } }).peak (F.FAB_WAITn_MAXWAIT w.req) (s.now - w.since)

/-- Whether requests of target class `cls` are acknowledged: no DRAM request before MEM is READY (R421). -/
def State.classOpen (s : State) (cls : Nat) : Bool := !(decide (cls = 1) || decide (cls = 2)) || s.on F.MEM_STAT_READY

/-- The request acknowledged next: the oldest below its reserve, else the oldest that may share. -/
def State.nextGrant (s : State) : Option FabWait :=
  let open_ := s.fab.waits.filter (fun w => s.classOpen w.cls)
  match open_.find? (fun w => !s.atLimit w.req && s.belowReserve w.req) with
  | some w => some w
  | none => open_.find? (fun w => s.eligible w.req)

/-- Waiting requests acknowledged while one is eligible (R25); `fuel` bounds them. -/
def State.grantWaits (s : State) (fuel tag : Nat) : State :=
  match fuel with
  | 0 => s
  | k + 1 =>
    match s.nextGrant with
    | some w =>
      let t := { s with fab := { s.fab with waits := s.fab.waits.filter (fun x => x.req ≠ w.req) } }
      ((t.grant w tag).ringsWait w.req false).grantWaits k tag
    | none => s

/-- Whether an older request that could be acknowledged waits (R24). -/
def State.olderWaits (s : State) : Bool := s.fab.waits.any (fun x => s.classOpen x.cls && s.eligible x.req)

/-- Whether a request is acknowledged at once (R24, R421). -/
def State.grantsNow (s : State) (req cls : Nat) : Bool :=
  s.classOpen cls && !s.atLimit req && (s.belowReserve req || (s.mayShare req && !s.olderWaits))

/-- Whether the range of a request lies where its target class answers on this ordering code (R26, R32): the Bed store, installed DRAM, the
feature store, the register space and the PCI Express window; the NAND page buffers and the switch buffers have no place in the map. -/
def Code.classOk (c : Code) (cls a n : Nat) : Bool :=
  match cls with
  | 0 => inBedRange a n
  | 1 => inDramRange c a n
  | 2 => inDramRange c a n
  | 3 => decide (featureBase ≤ a) && decide (a + n ≤ featureBase + c.featureSize)
  | 5 => decide (0xFE00000000 ≤ a) && decide (a + n ≤ 0xFE01000000)
  | 6 => decide (c ≠ .l) && decide (pcieWindow ≤ a) && decide (a + n ≤ pcieWindow + pcieWindowSize)
  | _ => true

/-- GORGE_REQUEST (R24): acknowledged from the reserve or the shared pool, or held waiting. A requester that waits presents
nothing else (R23). An address outside its target's range and any access while Canopy is not powered get an error response (R13, R32). -/
def execGorgeRequest (req cls : Nat) (kind : Xfer) (addr len tag : Nat) (s : State) : Host.Outcome State Fault Refusal :=
  .next (
    if s.canopyOn = false then s.failReq req
    else if 16 ≤ req ∨ 8 ≤ cls ∨ len = 0 ∨ 256 < len ∨ (s.code = .l ∧ req = 8) ∨
        s.fab.waits.any (fun w => decide (w.req = req)) = true then s
    else if s.code.classOk cls addr len = false then s.failReq req
    else
      let w : FabWait := ⟨req, cls, kind.write, addr, len, s.now, kind.poison⟩
      if s.grantsNow req cls then (s.grant w tag).fabRegs
      else
        ((({ s with fab := { s.fab with waits := s.fab.waits ++ [w] } }).wideAdd Reg.FAB_WAITCNT_LO 1).ringsWait req true).fabRegs)

/-- The entry with a tag. -/
def Fab.entry (f : Fab) (tag : Nat) : Option FabEntry := f.entries.find? (fun e => decide (e.tag = tag))

/-- An entry freed, and the request it makes eligible acknowledged (R25). -/
def State.freeEntry (s : State) (tag newTag : Nat) : State :=
  (({ s with fab := { s.fab with entries := s.fab.entries.filter (fun e => e.tag ≠ tag) } }).grantWaits 16 newTag).fabRegs

/-- ENTRY_RELEASE (R25). -/
def execEntryRelease (tag newTag : Nat) (s : State) : Host.Outcome State Fault Refusal :=
  .next (match s.fab.entry tag with
    | some _ => s.freeEntry tag newTag
    | none => s)

/-- What a forced completion does (R26): a read completes with the poison mark on its data; a write marks the addressed lines poisoned where the
target is a memory (a NAND page buffer by its place), and ends with an error status at any other target. -/
def State.poisonTarget (s : State) (e : FabEntry) : State :=
  if e.write = false then { s with resp := .poisoned }
  else if 4 < e.cls then s.fail
  else if e.cls = 4 then { s with fab := { s.fab with pageMarks := s.fab.pageMarks ++ [(e.addr, e.len)] } }
  else if s.memOk e.addr e.len then { s with mem := s.mem.remark e.addr e.len true }
  else s

/-- A Dale's access to a Canopy block passes the tracker as target class 5 (R67): its entry is acknowledged, or counted as waiting (R24, R30), and
released with the access. One that the target does not complete is a GORGE_REQUEST of class 5 and meets the forced completion of R26. -/
def State.throughTracker (s : State) (a : Agent) (blk addr : Nat) (write : Bool) : State :=
  if isDale a = true ∧ bedBlock blk = false ∧ s.canopyOn = true then
    let req := if a = .daleA then 0 else 1
    let w : FabWait := ⟨req, 5, write, addr, 4, s.now, false⟩
    if s.grantsNow req 5 then
      let t := (s.grant w 0).fabRegs
      ({ t with fab := s.fab }).fabRegs
    else s.wideAdd Reg.FAB_WAITCNT_LO 1
  else s

/-- FORCED_COMPLETION (R26): the entry's deadline is its acknowledge time plus the bound of its class. -/
def execForcedCompletion (tag newTag : Nat) (s : State) : Host.Outcome State Fault Refusal :=
  .next (match s.fab.entry tag with
    | some e =>
      if e.ack + classBound e.cls ≤ s.now then
        ((((s.poisonTarget e).flag F.FAB_STAT_EXP F.FAB_CTL_IE_EXP).inc F.FAB_STAT_EXPCNT).record 0x10 0x40 sevWarning
          0 0 0).freeEntry tag newTag
      else s
    | none => s)

/-- Whether the credit table with entry `n` as `v` keeps the rules of R28. -/
def State.creditOk (s : State) (n : Nat) (v : W32) : Bool :=
  let res := getBits v 29 16
  let lim := getBits v 13 0
  let sum := (List.range 16).foldl (fun x i => x + (if i = n then res else s.rd (F.FAB_CREDn_RESERVE i))) 0
  decide (sum ≤ 8192) && decide (res ≤ lim) && decide (lim ≤ 8192) && (decide (n ≠ 11) || decide (256 ≤ res))

/-- A write of FAB_CREDn (R28, R29). -/
def State.creditWrite (s : State) (n : Nat) (v : W32) : State :=
  if s.creditOk n v then ((s.applyWrite (Reg.FAB_CREDn n) v).grantWaits 16 trackerSize).fabRegs
  else s.wr F.FAB_STAT_CREDERR 1

/-- FAB_CRED_WRITE. -/
def execFabCredWrite (agent : Agent) (n : Nat) (value : W32) (s : State) : Host.Outcome State Fault Refusal :=
  .next (if n < 16 then s.gate agent 0x10 (0x100 + 4 * n) (fun t => t.creditWrite n value) else s.fail)

/-- BRIDGE_HANDOFF (R16). -/
def execBridgeHandoff (addr : Nat) (data : Bytes) (s : State) : Host.Outcome State Fault Refusal :=
  .next (if s.bedOn then
    let r := s.handoff addr data
    if r.2 then r.1.done else r.1.fail
  else s.fail)

/-- BRIDGE_INBOUND_WRITE (R17): a Dale's write waits for a line of its share, any other agent's is refused where none of the
other 960 lines is free. -/
def execBridgeInboundWrite (agent : Agent) (addr : Nat) (data : Bytes) (poison : Bool) (s : State) : Host.Outcome State Fault Refusal :=
  let dale := decide (agent = .daleA) || decide (agent = .daleB)
  let line : BridgeLine := ⟨addr, data, poison, dale, .plain⟩
  .next (
    if s.canopyOn = false ∨ inBedRange addr data.length = false ∨ 64 < addr % 64 + data.length then s.fail
    else if s.inboundRoom dale 1 = true ∧ (dale = false ∨ s.bridge.waiting.any (fun x => x.dale) = false) then (s.accept [line]).done
    else if dale then ({ s with bridge := { s.bridge with waiting := s.bridge.waiting ++ [line] } }).done
    else s.fail)

/-- The first line of `l` with the share `dale` taken out. -/
def dropLine (dale : Bool) : List BridgeLine → List BridgeLine
  | [] => []
  | x :: r => if x.dale = dale then r else x :: dropLine dale r

/-- The oldest waiting write whose share has a line takes it (R17). -/
def State.bridgeAdmit (s : State) : State :=
  match s.bridge.waiting.find? (fun l => s.inboundRoom l.dale 1) with
  | some l => ({ s with bridge := { s.bridge with waiting := dropLine l.dale s.bridge.waiting } }).accept [l]
  | none => s

/-- BRIDGE_DRAIN (R15, R17): the oldest accepted line reaches the Bed store. -/
def execBridgeDrain (s : State) : Host.Outcome State Fault Refusal :=
  .next (match s.bridge.inbound with
    | l :: r => (({ s with bridge := { s.bridge with inbound := r } }).landLine l).bridgeAdmit
    | [] => s)

end Sys2Proof.Machine
end

