-- ==== Sys2Proof/Machine/Time.lean ====
section
/-! DEFINITION. Pace gauges, core rails, temperature and voltage monitors, Sundial, its discipline and its alarms (R33-R61). -/

namespace Sys2Proof.Machine

/-- A status bit set, with its interrupt only where it was 0. -/
def State.flagRise (s : State) (stat ie : Fld) : State := if s.on stat then s else s.flag stat ie

/-! ### Pace gauges (R38-R41) -/

/-- The gauges of a domain: 0 to 3 Bed, 4 to 31 Canopy (R38). -/
def gaugesOf (canopy : Bool) : List Nat := if canopy then (List.range 28).map (fun i => i + 4) else List.range 4

/-- Insertion into a rising list with repeats. -/
def insertSorted (x : Nat) : List Nat → List Nat
  | [] => [x]
  | y :: r => if x ≤ y then x :: y :: r else y :: insertSorted x r

/-- A list sorted rising. -/
def sortNat (l : List Nat) : List Nat := l.foldr insertSorted []

/-- Twice the median of a list: the middle value doubled, or the sum of the two middle values. -/
def median2 (l : List Nat) : Nat :=
  let t := sortNat l
  let n := t.length
  if n % 2 = 1 then 2 * t.getD (n / 2) 0 else t.getD (n / 2 - 1) 0 + t.getD (n / 2) 0

/-- Whether reading `r` differs by more than 25 % from the median of the others (R41). -/
def farFromMedian (r : Nat) (others : List Nat) : Bool :=
  match others with
  | [] => false
  | _ => decide (median2 others < 4 * (max (2 * r) (median2 others) - min (2 * r) (median2 others)))

/-- A gauge counts for the pace of its domain: valid and not excluded. -/
def State.gaugeOk (s : State) (n : Nat) : Bool := s.on (F.HLT_PACEn_VALID n) && !s.on (F.HLT_PACEn_EXCL n)

/-- The unexcluded gauges of a domain. -/
def State.goodGauges (s : State) (canopy : Bool) : List Nat := (gaugesOf canopy).filter (fun n => s.gaugeOk n)

/-- The reading of gauge `n`. -/
def State.pace (s : State) (n : Nat) : Nat := s.rd (F.HLT_PACEn_PACE n)

/-- The lowest pace among gauges, with the gauge that reads it (the lowest index of equals). -/
def State.lowestPace (s : State) (l : List Nat) : Option (Nat × Nat) :=
  l.foldl (fun b n => match b with
    | none => some (n, s.pace n)
    | some (k, p) => if s.pace n < p then some (n, s.pace n) else some (k, p)) none

/-- A gauge excluded until its domain next powers up (R41). -/
def State.excludeGauge (s : State) (n : Nat) : State :=
  ((s.wr (F.HLT_PACEn_EXCL n) 1).flag F.HLT_MONSTAT_GAUGEFLT F.HLT_MONCTL_IE_PACE).record 0x03 0x40 sevWarning 0 0 0

/-- The readings of a domain taken in, and its gauges judged: first by range, then against the median of the others. -/
def State.measureDomain (s : State) (canopy : Bool) (readings : List Nat) : State :=
  let on := if canopy then s.canopyOn else s.bedOn
  let t := (gaugesOf canopy).foldl (fun x n =>
    if on then ((x.wr (F.HLT_PACEn_VALID n) 1).wrSat (F.HLT_PACEn_PACE n) (readings.getD n 0)) else x.wr (F.HLT_PACEn_VALID n) 0) s
  let t := (t.goodGauges canopy).foldl (fun x n =>
    if t.pace n < 0x200 ∨ 0x600 < t.pace n then x.excludeGauge n else x) t
  (t.goodGauges canopy).foldl (fun x n =>
    if farFromMedian (t.pace n) (((t.goodGauges canopy).filter (fun m => m ≠ n)).map t.pace) then x.excludeGauge n else x) t

/-- HLT_PACEMIN and HLT_PACEBED (R39). Where no valid, unexcluded gauge is left, the last IDX and PACE stand: DESIGN CHOICE, R39 is silent
(notes/assumptions/13.md). -/
def State.paceRegs (s : State) : State :=
  let t := match s.lowestPace (s.goodGauges false) with
    | some (n, p) => (s.wr F.HLT_PACEBED_IDX n).wr F.HLT_PACEBED_PACE p
    | none => s
  match t.lowestPace (t.goodGauges t.canopyOn) with
  | some (n, p) => (t.wr F.HLT_PACEMIN_IDX n).wr F.HLT_PACEMIN_PACE p
  | none => t

/-- Whether a domain is in a pace floor breach: its rail at 0.800 V and its lowest gauge below 0x0320 (R43). -/
def State.inBreach (s : State) (canopy : Bool) : Bool :=
  (if canopy then s.canopyOn && decide (s.rd F.HLT_VCORE_CANOPY = 800) else s.bedOn && decide (s.rd F.HLT_VCORE_BED = 800)) &&
    (match s.lowestPace (s.goodGauges canopy) with
      | some (_, p) => decide (p < 0x320)
      | none => false)

/-- The start or the end of a domain's breach recorded, with its interrupt at the start (R43). -/
def State.breachEdge (s : State) (was is : Bool) : State :=
  if is && !was then (s.notify F.HLT_MONSTAT_BREACH F.HLT_MONCTL_IE_PACE).record 0x03 0x41 sevWarning 0 0 0
  else if was && !is then s.record 0x03 0x42 sevInfo 0 0 0
  else s

/-- Both domains judged for a breach. -/
def State.judgeBreach (s : State) : State :=
  let b := s.inBreach false
  let c := s.inBreach true
  let t := { (s.wrB F.HLT_MONSTAT_BREACH (b || c)) with tim := { s.tim with breachBed := b, breachCanopy := c } }
  (t.breachEdge s.tim.breachBed b).breachEdge s.tim.breachCanopy c

/-- PACE_GAUGE_MEASURE. -/
def execPaceGaugeMeasure (readings : List Nat) (s : State) : Host.Outcome State Fault Refusal :=
  .next (if s.bedOn then (((s.measureDomain false readings).measureDomain true readings).paceRegs).judgeBreach else s)

/-! ### Core rails (R42) -/

/-- The rail's next set-point in mV: the rule of R42, or up to 0.80 V where fewer than two gauges remain (R41). -/
def State.nextRail (s : State) (canopy : Bool) (v : Nat) : Nat :=
  let good := s.goodGauges canopy
  if good.length < 2 ∧ (gaugesOf canopy).any (fun n => s.on (F.HLT_PACEn_EXCL n)) = true then min 800 (v + 5)
  else
    match s.lowestPace good with
    | some (_, p) => if p < 0x360 ∧ v < 800 then v + 5 else if 0x3C0 < p ∧ 700 < v then v - 5 else v
    | none => v

/-- Canopy's rails are off: its gauges read with VALID 0 (R39), HLT_VCORE.CANOPY reads 0 (R47), and a breach of Canopy ends (R43). -/
def State.canopyDark (s : State) : State :=
  let t := { s with canopyOn := false }
  if t.bedOn then
    (((gaugesOf true).foldl (fun x n => x.wr (F.HLT_PACEn_VALID n) 0) t).wr F.HLT_VCORE_CANOPY 0).paceRegs.judgeBreach
  else t

/-- RAIL_REGULATION: at most one step each 1 ms (R42). -/
def execRailRegulation (s : State) : Host.Outcome State Fault Refusal :=
  .next (
    if s.bedOn = true ∧ (match s.tim.lastRail with | some a => decide (a + 1000000 ≤ s.now) | none => true) = true then
      let s : State := { s with tim := { s.tim with lastRail := some s.now } }
      let t := s.wr F.HLT_VCORE_BED (s.nextRail false (s.rd F.HLT_VCORE_BED))
      (if t.canopyOn then t.wr F.HLT_VCORE_CANOPY (t.nextRail true (t.rd F.HLT_VCORE_CANOPY)) else t).judgeBreach
    else s)

/-! ### Temperature and voltage monitors (R44-R46) -/

/-- The junction temperature: the highest reading of sensors 0 to 15 (R45). -/
def junction (temps : List (Option Int)) : Option Int :=
  (temps.take 16).foldl (fun b x => match b, x with
    | none, y => y
    | some a, some c => some (max a c)
    | some a, none => some a) none

/-- Where the junction temperature stands about a limit: above it from a rising crossing until 3 °C below it (R45). A reading equal to the
limit counts as crossed and one exactly 3 °C below as not yet back: DESIGN CHOICE, R45 does not say (notes/assumptions/14.md). -/
def crossed (was : Bool) (t limit : Int) : Bool := if was then decide (limit - 24 ≤ t) else decide (limit ≤ t)

/-- A crossing of a limit: the status bit with its interrupt, and a record of a rising one. -/
def State.crossing (s : State) (was is : Bool) (stat ie : Fld) (ev sev : Nat) : State :=
  if was = is then s
  else
    let t := s.flag stat ie
    if is then t.record 0x03 ev sev 0 0 0 else t

/-- What the junction temperature means for shedding (R487) and the thermal cut (R488): WAITING at a rising crossing of CRIT, NONE at a falling one
while it waits, and since when it stands below WARN and at 140 °C. -/
def State.shedWatch (s : State) (j warn : Int) (wasCrit isCrit : Bool) : State :=
  let cool := if j < warn then some (s.pwr.coolAt.getD s.now) else none
  let hot := if 1120 ≤ j then some (s.pwr.hotAt.getD s.now) else none
  let t : State := { s with pwr := { s.pwr with coolAt := cool, hotAt := hot } }
  if isCrit && !wasCrit && t.on F.SYS_SHED_EN then
    ({ t with pwr := { t.pwr with shedAt := t.now } }.wr F.SYS_SHED_SHST 1).flag F.SYS_STAT_SHED F.SYS_CTL_IE_SHED
  else if wasCrit && !isCrit && decide (t.rd F.SYS_SHED_SHST = 1) then t.wr F.SYS_SHED_SHST 0
  else t

/-- TEMP_SENSOR_UPDATE. A module reset with cause THERMAL is held until every sensor reads below 135 °C (R488). -/
def execTempSensorUpdate (temps : List (Option Int)) (s : State) : Host.Outcome State Fault Refusal :=
  .next (
    if s.bedOn then
      let t := (List.range 24).foldl (fun x n => match temps.getD n none with
        | some v => (x.wr (F.HLT_TEMPn_VALID n) 1).wr (F.HLT_TEMPn_TEMP n) (toPattern 16 v)
        | none => x.wr (F.HLT_TEMPn_VALID n) 0) s
      match junction temps with
      | some j =>
        let w := crossed s.tim.aboveWarn j (toSigned 16 (s.rd F.HLT_TEMPLIM_WARN))
        let c := crossed s.tim.aboveCrit j (toSigned 16 (s.rd F.HLT_TEMPLIM_CRIT))
        let u := { t with tim := { t.tim with aboveWarn := w, aboveCrit := c } }
        let u := (u.crossing s.tim.aboveWarn w F.HLT_MONSTAT_TWARN F.HLT_MONCTL_IE_TWARN 0x43 sevWarning).crossing
          s.tim.aboveCrit c F.HLT_MONSTAT_TCRIT F.HLT_MONCTL_IE_TCRIT 0x44 sevSafety
        u.shedWatch j (toSigned 16 (s.rd F.HLT_TEMPLIM_WARN)) s.tim.aboveCrit c
      | none => t
    else if s.pwr.hot = true ∧ temps.all (fun r => match r with | some v => decide (v < 1080) | none => true) = true then
      { s with pwr := { s.pwr with hot := false } }
    else s)

/-- The windows of the voltage monitors in mV (R46). -/
def voltWindow (n : Nat) : Nat × Nat :=
  match n with
  | 0 => (9000, 32000)
  | 1 => (1100, 1300)
  | 2 => (680, 820)
  | 3 => (680, 820)
  | 4 => (1067, 1133)
  | 5 => (1710, 1890)
  | 6 => (1710, 1890)
  | _ => (2500, 3600)

/-- One monitor's reading taken in. -/
def State.voltReading (s : State) (n : Nat) (r : Option Nat) : State :=
  match r with
  | none => s.wr (F.HLT_VMONn_VALID n) 0
  | some v =>
    let out := decide (v < (voltWindow n).1) || decide ((voltWindow n).2 < v)
    let was := s.on (F.HLT_VMONn_OUT n)
    let t := ((s.wr (F.HLT_VMONn_VALID n) 1).wrSat (F.HLT_VMONn_MV n) v).wrB (F.HLT_VMONn_OUT n) out
    if out then
      let u := t.flagRise F.HLT_MONSTAT_VOUT F.HLT_MONCTL_IE_VOUT
      if was then u else u.record 0x03 0x45 sevWarning 0 0 0
    else t

/-- SYS_SUPPLY from the reading of the main input: SYSV is known 1 s after BU6 (R494). -/
def State.supplyReading (s : State) (r : Option Nat) : State :=
  match r with
  | none => s
  | some v =>
    let t : State := { s with pwr := { s.pwr with under16 := s.pwr.under16 || decide (v ≤ 16000) } }
    let t := t.wrSat F.SYS_SUPPLY_MV v
    if 2 ≤ t.pwr.st ∧ t.rd F.SYS_SUPPLY_SYSV = 0 ∧ t.pwr.bu6At + 1000000000 ≤ t.now then t.wr F.SYS_SUPPLY_SYSV (if t.pwr.under16 then 1 else 2) else t

/-- VOLTAGE_MONITOR_UPDATE. -/
def execVoltageMonitorUpdate (mv : List (Option Nat)) (s : State) : Host.Outcome State Fault Refusal :=
  .next (if s.bedOn then ((List.range 8).foldl (fun x n => x.voltReading n (mv.getD n none)) s).supplyReading (mv.getD 0 none) else s)

/-! ### Sundial (R49-R58) -/

/-- SUNDIAL_SAVE: Root saves Sundial time (R51). -/
def execSundialSave (s : State) : Host.Outcome State Fault Refusal :=
  .next (if s.bedOn then s.wideSet Reg.RTD_SDLSAVE_LO s.now else s)

/-- The compare of a core written: at or before Sundial time it raises its interrupt at once, a later one when Sundial reaches it (R53). -/
def State.setCompare (s : State) (core cmp : Nat) : State :=
  let t : State := { s with tim := { s.tim with compares := SMap.set (fun _ => 0) s.tim.compares core cmp,
                                                coming := s.tim.coming.filter (fun c => c ≠ core) } }
  if cmp ≤ s.now then t.irq (.core core) (.timer core) else { t with tim := { t.tim with coming := insertNat core t.tim.coming } }

/-- The compares that Sundial time has reached raise their interrupts. -/
def State.timersDue (s : State) : State :=
  let due := s.tim.coming.filter (fun c => decide (SMap.get (fun _ => 0) s.tim.compares c ≤ s.now))
  due.foldl (fun x c => x.irq (.core c) (.timer c)) { s with tim := { s.tim with coming := s.tim.coming.filter (fun c => !due.contains c) } }

/-- The time CSR of every core reads Sundial time (R53); the 40 ns by which a read may lag are timing. -/
def State.timeCsr (s : State) (_core : Nat) : Nat := s.now

/-- TIMER_COMPARE_MATCH: a core's machine-timer compare is written (R53); one that lies ahead matches as time passes. -/
def execTimerCompareMatch (core cmp : Nat) (s : State) : Host.Outcome State Fault Refusal :=
  .next (if s.canopyOn = true ∧ core < 16 then s.setCompare core cmp else s)

/-- A change of SDL_STAT by the module raises IE_STAT's interrupt where a field changes value (R55, R59). -/
def State.sdlChange (s : State) (k : State → State) : State :=
  let t := k s
  if t.reg Reg.SDL_STAT ≠ s.reg Reg.SDL_STAT ∧ t.on F.SDL_CTL_IE_STAT = true then t.irqBoth (.status Reg.SDL_STAT 0) else t

/-- SDL_TRIM set, within its range of ±50 ppm (R50). -/
def State.setTrim (s : State) (v : Int) : State := s.wr F.SDL_TRIM_TRIM (toPattern 32 (clampI (-50000000) 50000000 v))

/-- The present trim. -/
def State.trim (s : State) : Int := toSigned 32 (s.rd F.SDL_TRIM_TRIM)

/-- The servo's adjustment at a mark: the spec gives its aim and its limits (R50), not its value: a free step of at most 1 ppm. -/
def State.servo (s : State) : State :=
  if s.on F.SDL_STAT_TCXOLOSS then s
  else (s.setTrim (s.trim + ((s.freshNat % 2000001 : Nat) : Int) - 1000000)).tickFree

/-- The discipline state entered, its mark counts restarted. -/
def State.sdlEnter (s : State) (st : Nat) : State :=
  { s.wr F.SDL_STAT_STATE st with tim := { s.tim with goodMarks := 0, badMarks := 0 } }

/-- The discipline state after a mark with rate error `e` (R55). -/
def State.sdlMark (s : State) (e : Int) : State :=
  match s.rd F.SDL_STAT_STATE with
  | 0 => ((s.setTrim s.tim.savedTrim).sdlEnter 1).servo
  | 1 =>
    let good := if e.natAbs ≤ 10000 then s.tim.goodMarks + 1 else 0
    let t := ({ s with tim := { s.tim with goodMarks := good } }).servo
    if 60 ≤ good then { t.sdlEnter 2 with tim := { t.tim with savedTrim := t.trim, trimSaved := true, goodMarks := 0, badMarks := 0 } } else t
  | 2 =>
    let bad := if 1000000 < e.natAbs then s.tim.badMarks + 1 else 0
    let t := ({ s with tim := { s.tim with badMarks := bad } }).servo
    if 3 ≤ bad then (t.sdlEnter 1).record 0x01 0x41 sevWarning 0 0 0 else t
  | _ => (s.sdlEnter 1).servo

/-- A mark of a reference; only the selected one disciplines Sundial (R55). -/
def State.refMark (s : State) (source stamp gps : Nat) (rateErr : Int) : State :=
  if s.bedOn = true ∧ source ≠ 0 ∧ s.rd F.SDL_CTL_MODE = source then
    s.sdlChange (fun t =>
      let u := (t.wideSet Reg.SDL_GNSSOFF_LO (toPattern 64 ((gps : Int) - stamp))).wr F.SDL_RATEERR_ERR (toPattern 32 rateErr)
      ({ u with tim := { u.tim with lastMark := u.now, offWas := (t.wideGet Reg.SDL_GNSSOFF_LO, u.now) } }).sdlMark rateErr)
  else s

/-- REFERENCE_MARK. -/
def execReferenceMark (source stamp gps : Nat) (rateErr : Int) (s : State) : Host.Outcome State Fault Refusal :=
  .next (s.refMark source stamp gps rateErr)

/-- MARK_TIMEOUT: no mark for 3 s (R55). -/
def execMarkTimeout (s : State) : Host.Outcome State Fault Refusal :=
  .next (
    if s.bedOn = true ∧ s.tim.lastMark + 3000000000 ≤ s.now then
      match s.rd F.SDL_STAT_STATE with
      | 1 => s.sdlChange (fun t => (t.setTrim t.tim.savedTrim).sdlEnter 0)
      | 2 => s.sdlChange (fun t => (t.sdlEnter 3).record 0x01 0x40 sevWarning 0 0 0)
      | _ => s
    else s)

/-- A write of SDL_CTL: one that changes MODE restarts the servo and enters FREE; any other leaves the discipline alone (R55). -/
def State.sdlCtlWrite (s : State) (v : W32) : State :=
  let t := s.plainWrite Reg.SDL_CTL v
  if t.rd F.SDL_CTL_MODE = s.rd F.SDL_CTL_MODE then t
  else t.sdlChange (fun u => (u.setTrim u.tim.savedTrim).sdlEnter 0)

/-- SDL_MODE_WRITE. -/
def execSdlModeWrite (agent : Agent) (value : W32) (s : State) : Host.Outcome State Fault Refusal :=
  .next (s.gate agent 0x01 0x000 (fun t => t.sdlCtlWrite value))

/-- The multiplying loop runs open-loop: TCXOLOSS, Scarecrow notified, the event recorded (R57). -/
def State.tcxoLost (s : State) : State :=
  if s.on F.SDL_STAT_TCXOLOSS then s
  else (s.sdlChange (fun t => t.wr F.SDL_STAT_TCXOLOSS 1)).irqScare (.notice Reg.SDL_STAT) |>.record 0x01 0x44 sevFault 0 0 0

/-- Whether a reference is present: ACQUIRE or LOCKED. -/
def State.refPresent (s : State) : Bool := decide (s.rd F.SDL_STAT_STATE = 1) || decide (s.rd F.SDL_STAT_STATE = 2)

/-- DRIFT_CHECK (R56). -/
def execDriftCheck (neededTrim rootDiff : Int) (rootAtFault : Bool) (s : State) : Host.Outcome State Fault Refusal :=
  .next (
    if s.bedOn then
      let t := if 20000000 < neededTrim.natAbs then
          (s.sdlChange (fun x => x.wr F.SDL_STAT_DRIFT 1)).record 0x01 0x42 sevWarning 0 0 0
        else s
      if rootDiff.natAbs ≤ 500000000 then t
      else if t.refPresent then
        if rootAtFault then t.sdlChange (fun x => x.wr F.SDL_STAT_ROOTFLT 1) else t.tcxoLost
      else (t.sdlChange (fun x => (x.wr F.SDL_STAT_DRIFT 1).wr F.SDL_STAT_ROOTFLT 1)).record 0x01 0x43 sevWarning 0 0 0
    else s)

/-- TCXO_LOSS. -/
def execTcxoLoss (s : State) : Host.Outcome State Fault Refusal := .next (if s.bedOn then s.tcxoLost else s)

/-- TCXO_RETURN: the loop relocks without a step, TCXOLOSS clears and the return is recorded (R57). -/
def execTcxoReturn (s : State) : Host.Outcome State Fault Refusal :=
  .next (if s.bedOn = true ∧ s.on F.SDL_STAT_TCXOLOSS = true then
    (s.sdlChange (fun t => t.wr F.SDL_STAT_TCXOLOSS 0)).record 0x01 0x45 sevInfo 0 0 0 else s)

/-! ### Alarms (R58) -/

/-- Alarm `n` fires: the interrupt to the latched destination, the lateness, ARM cleared. -/
def State.alarmFires (s : State) (n dest late : Nat) : State :=
  ((s.wr (F.SDL_ALMnCTL_ARM n) 0).wrSat (F.SDL_ALMnLATE_LATE n) late).irq (s.destOf dest) (.alarm n)

/-- The time the alarm registers hold. -/
def State.alarmTime (s : State) (n : Nat) : Nat :=
  (s.reg (Reg.SDL_ALMn_HI n)).toNat * 2 ^ 32 + (s.reg (Reg.SDL_ALMn_LO n)).toNat

/-- A write of SDL_ALMnCTL: ARM = 1 latches time and destination and fires at once where the time has passed, ARM = 0
disarms (R58). -/
def State.alarmCtlWrite (s : State) (n : Nat) (v : W32) : State :=
  if listedAt (Reg.SDL_ALMnCTL n) v = false then s
  else
    let t := s.applyWrite (Reg.SDL_ALMnCTL n) v
    if getBits v 0 0 = 1 then
      let at0 := t.alarmTime n
      let u := { t with tim := { t.tim with alarms := SMap.set (fun _ => (0, 0)) t.tim.alarms n (at0, getBits v 7 4) } }
      if at0 ≤ u.now then u.alarmFires n (getBits v 7 4) (u.now - at0) else u
    else t

/-- ALARM_ARM. -/
def execAlarmArm (agent : Agent) (n : Nat) (value : W32) (s : State) : Host.Outcome State Fault Refusal :=
  .next (if n < 16 then s.gate agent 0x01 (0x108 + 0x10 * n) (fun t => t.alarmCtlWrite n (setBits value 0 0 1)) else s.fail)

/-- ALARM_DISARM. -/
def execAlarmDisarm (agent : Agent) (n : Nat) (value : W32) (s : State) : Host.Outcome State Fault Refusal :=
  .next (if n < 16 then s.gate agent 0x01 (0x108 + 0x10 * n) (fun t => t.alarmCtlWrite n (setBits value 0 0 0)) else s.fail)

/-- ALARM_FIRE: Sundial time has reached the latched time of an armed alarm. -/
def execAlarmFire (n : Nat) (s : State) : Host.Outcome State Fault Refusal :=
  let l := SMap.get (fun _ => (0, 0)) s.tim.alarms n
  .next (if s.bedOn = true ∧ n < 16 ∧ s.on (F.SDL_ALMnCTL_ARM n) = true ∧ l.1 ≤ s.now then s.alarmFires n l.2 0 else s)

end Sys2Proof.Machine
end

