-- ==== Sys2Proof/Machine/Gnss.lean ====
section
/-! DEFINITION. The GNSS baseband (R216-R233, R243, R244). What the radio measures comes from outside the block, as operands
(notes/assumptions/2.md). -/

namespace Sys2Proof.Machine

/-! ### State access -/

/-- Tracking channels, search units and antennas by code. -/
def Code.gnsChannels (c : Code) : Nat := c.pick 384 384 192
def Code.gnsUnits (c : Code) : Nat := c.pick 16 16 8
def Code.antennas (c : Code) : Nat := c.pick 2 2 1

/-- A channel's satellite. -/
def State.gnsChan (s : State) (n : Nat) : GnsChan := SMap.get (fun _ => {}) s.gns.chans n

/-- The fields of GNS_CHPk that belong to channel `n`: state, antenna, signal and C/N0. -/
def chpKey (n : Nat) : Nat := 0x16400 + 4 * (n / 2)
def chpState (n : Nat) : Fld := if n % 2 = 1 then ⟨chpKey n, 31, 29⟩ else ⟨chpKey n, 15, 13⟩
def chpAnt (n : Nat) : Fld := if n % 2 = 1 then ⟨chpKey n, 28, 28⟩ else ⟨chpKey n, 12, 12⟩
def chpSig (n : Nat) : Fld := if n % 2 = 1 then ⟨chpKey n, 27, 24⟩ else ⟨chpKey n, 11, 8⟩
def chpCn0 (n : Nat) : Fld := if n % 2 = 1 then ⟨chpKey n, 23, 16⟩ else ⟨chpKey n, 7, 0⟩

/-- The state of channel `n`: 0 IDLE, 1 PULLIN, 2 TRACK, 3 LOST. -/
def State.chanState (s : State) (n : Nat) : Nat := s.rd (chpState n)

/-- The channels in use. -/
def State.usedChannels (s : State) : List Nat := (List.range s.code.gnsChannels).filter (fun n => decide (s.chanState n ≠ 0))

/-- A poison event of GNS. -/
def State.gnsPoison (s : State) : State :=
  let t := s.inc F.GNS_POISCNT_CNT
  if t.on F.GNS_CTL_IE_POIS then t.irqBoth (.status Reg.GNS_POISCNT 0) else t

/-- A refused write (R244). -/
def State.gnsReject (s : State) (cause : Nat) : State := (s.wr F.GNS_BADCFG_CAUSE cause).flag F.GNS_STAT_CFGREJ F.GNS_CTL_IE_CFG

/-- An event entry on ring 91 (R233). -/
def State.gnsEvent (s : State) (tag subject value : Nat) : State :=
  (s.eventEntry 91 0x80 tag 0 (resultOf [(24, 1, subject), (28, 8, s.now), (36, 4, value % 2 ^ 32)]) true).1

/-- GNS_CHUSE, GNS_SVTRKs and the antennas' signal counts brought up to date. -/
def State.gnsCounts (s : State) : State :=
  let used := s.usedChannels
  let n (a : Nat) : Nat := (used.filter (fun c => decide (s.rd (chpAnt c) = a))).length
  let t := (s.wr F.GNS_CHUSE_ANT0 (n 0)).wr F.GNS_CHUSE_ANT1 (n 1)
  (List.range 4).foldl (fun x y =>
    let sv := used.filterMap (fun c => if (s.gnsChan c).sys = y ∧ s.chanState c = 2 then some (s.gnsChan c).sv else none)
    let m := (List.range 64).foldl (fun a b => if sv.contains (b + 1) then a + 2 ^ b else a) 0
    (x.wr (F.GNS_SVTRKs_LO_SV y) (m % 2 ^ 32)).wr (F.GNS_SVTRKs_HI_SV y) (m / 2 ^ 32)) t

/-! ### Signals (R216) -/

/-- The system of a signal code, its carrier in Hz (k for GLONASS) and its band: 0 L1, 1 L2, 2 L5. -/
def systemOf (c : Nat) : Nat := if c < 3 then 0 else if c < 5 then 1 else if c < 7 then 2 else 3
def carrierHz (c : Nat) (k : Int) : Int :=
  match c with
  | 1 => 1227600000
  | 2 => 1176450000
  | 4 => 1176450000
  | 6 => 1176450000
  | 7 => 1602000000 + 562500 * k
  | 8 => 1246000000 + 437500 * k
  | _ => 1575420000
def bandOf (c : Nat) : Nat := if c = 1 ∨ c = 8 then 1 else if c = 2 ∨ c = 4 ∨ c = 6 then 2 else 0

/-- The primary of a secondary signal code. -/
def primaryOf (c : Nat) : Nat := if c = 1 ∨ c = 2 then 0 else if c = 4 then 3 else if c = 6 then 5 else if c = 8 then 7 else c

/-- Whether a code, a system and a GLONASS number name a signal of R216. -/
def signalOk (sys sig : Nat) (k : Int) : Bool :=
  decide (sig < 9) && decide (sys = systemOf sig) && (if sys = 3 then decide (-7 ≤ k ∧ k ≤ 6) else decide (k = 0))

/-! ### Channels (R217) -/

/-- The signal a channel tracks. -/
def State.chanKey (s : State) (n : Nat) : SigKey := ⟨s.rd (chpAnt n), (s.gnsChan n).sys, (s.gnsChan n).sv, s.rd (chpSig n)⟩

/-- A channel's satellite set. -/
def State.setGnsChan (s : State) (n : Nat) (c : GnsChan) : State :=
  { s with gns := { s.gns with chans := SMap.set (fun _ => {}) s.gns.chans n c } }

/-- A free channel of an antenna (channels 0 to 191 antenna 0, 192 to 383 antenna 1). -/
def State.freeChannel (s : State) (ant : Nat) : Option Nat :=
  (List.range 192).map (fun n => n + 192 * ant) |>.find? (fun n => decide (n < s.code.gnsChannels) && decide (s.chanState n = 0))

/-- A signal is given a channel, in PULLIN, or stays untracked. -/
def State.assignChannel (s : State) (x : SigKey) (k : Int) : State :=
  match s.freeChannel x.ant with
  | some n =>
    let t := (((s.wr (chpState n) 1).wr (chpAnt n) x.ant).wr (chpSig n) x.sig).wr (chpCn0 n) 0
    (t.setGnsChan n { sys := x.sys, sv := x.sv, k := k, since := s.now }).gnsCounts
  | none =>
    let t := (s.inc F.GNS_CHSHORT_CNT).flag F.GNS_STAT_CHSHORT F.GNS_CTL_IE_CFG
    if t.gns.shortTold then t else ({ t with gns := { t.gns with shortTold := true } }).gnsEvent 6 x.ant 0

/-- A channel freed. -/
def State.dropChannel (s : State) (n : Nat) : State :=
  ((((s.wr (chpState n) 0).wr (chpAnt n) 0).wr (chpSig n) 0).wr (chpCn0 n) 0).setGnsChan n {}

/-- The channel of antenna 1 that tracks what channel `n` of antenna 0 does. -/
def State.twinOf (s : State) (n : Nat) : Option Nat :=
  if s.rd (chpAnt n) = 0 then s.usedChannels.find? (fun m => decide (s.chanKey m = { s.chanKey n with ant := 1 })) else none

/-- A channel freed, and with it the one of antenna 1 that tracks the same signal: antenna 1 tracks only what antenna 0 tracks. -/
def State.freeGnsChannel (s : State) (n : Nat) : State :=
  match s.twinOf n with
  | some m => (s.dropChannel m).dropChannel n
  | none => s.dropChannel n

/-- A channel loses lock. -/
def State.loseLock (s : State) (n : Nat) : State :=
  ((s.wr (chpState n) 3).wr (chpCn0 n) 0).setGnsChan n { s.gnsChan n with lostAt := s.now, lost := true }

/-- Every channel freed and every search ended. -/
def State.freeAllChannels (s : State) : State :=
  let t := (s.usedChannels.foldl (fun x n => x.dropChannel n) s).gnsCounts
  let t := { t with gns := { t.gns with search := [], again := [] } }
  ((List.range 16).foldl (fun x u => x.wr (F.GNS_ACQu_SIG_STATE u) 0) t).wr F.GNS_ACQ_BUSY 0

/-- Whether the baseband runs. -/
def State.gnsRuns (s : State) : Bool := s.engineUp 3 && s.on F.GNS_RUN_EN

/-- Whether antenna `a` is tracked. -/
def State.antOn (s : State) (a : Nat) : Bool := decide (a = 0) || (decide (a = 1) && s.on F.GNS_RUN_ANT1 && decide (1 < s.code.antennas))

/-- Whether signal code `c` is enabled, by GNS_SIG as of the last epoch. -/
def State.sigOn (s : State) (c : Nat) : Bool := decide (c < 9) && bitAt s.gns.sig c

/-- Whether a channel is given to a signal, and whether it tracks it. -/
def State.hasChannel (s : State) (x : SigKey) : Bool := s.usedChannels.any (fun n => decide (s.chanKey n = x))
def State.tracksSignal (s : State) (x : SigKey) : Bool := s.usedChannels.any (fun n => decide (s.chanKey n = x) && decide (s.chanState n = 2))

/-- Whether antenna 0 allows a signal: antenna 1 tracks only signals that antenna 0 tracks. -/
def State.antAllows (s : State) (x : SigKey) : Bool := decide (x.ant = 0) || s.tracksSignal { x with ant := 0 }

/-! ### Search windows (R221, R222) -/

/-- The full code of a primary signal in half-chips; a half-chip lasts 1 / 2,046,000 s. -/
def fullCode (sig : Nat) : Nat := if sig = 3 then 8184 else if sig = 5 then 20460 else 2046

/-- The speed of light in m/s. -/
def lightSpeed : Nat := 299792458

/-- GPS time in ns at the Sundial time `t`: by SDL_GNSSOFF current at that instant once it is known, before by the calendar (R219). -/
def State.gnssOffAt (s : State) (t : Nat) : Int := toSigned 64 (if t < s.tim.offWas.2 then s.tim.offWas.1 else s.wideGet Reg.SDL_GNSSOFF_LO)
def State.calendarGps (s : State) : Int := (s.pwr.cal / 64 : Nat) - 315964800 * 1000000000
def State.gpsNow (s : State) : Int := if s.on F.GNS_STAT_TIMEVALID then (s.now : Int) + s.gnssOffAt s.now else s.calendarGps

/-- The value congruent to `x` modulo `m` that lies nearest to `g`. -/
def nearestTo (m x g : Int) : Int := x + m * ((2 * (g - x) + m) / (2 * m))

/-- Seconds and weeks in ns. -/
def secNs : Int := 1000000000
def weekNs : Int := 604800 * secNs

/-- The ephemeris age class of a satellite: 0 current, 1 old, 2 none (R222). -/
def State.ephClass (s : State) (sys sv : Nat) : Nat :=
  match s.gns.ephs.find? (fun e => decide (e.sys = sys) && decide (e.sv = sv)) with
  | some e =>
    let age := (s.gpsNow - e.ref).natAbs
    if age ≤ 14400000000000 then 0 else if age ≤ 1209600000000000 then 1 else 2
  | none => 2

/-- The smallest time bound in ns; none for the full code. -/
def State.timeBound (s : State) : Option Frac :=
  let aid : Option Frac := s.gns.timeAid.map (fun a => ⟨a.2.2 * 1000, 1⟩)
  let sdl : Option Frac :=
    match s.rd F.SDL_STAT_STATE with
    | 1 => if 0 < s.tim.lastMark then some ⟨1000, 1⟩ else none
    | 2 => some ⟨100, 1⟩
    | 3 => some ((⟨1000, 1⟩ : Frac).add ⟨25 * (s.now - s.tim.lastMark : Nat), 10000000⟩)
    | _ => none
  match aid, sdl with
  | some a, some b => some (a.min b)
  | some a, none => some a
  | none, b => b

/-- The smaller of two bounds where they are given. -/
def leastOf (a b : Option Nat) : Option Nat :=
  match a, b with
  | some x, some y => some (min x y)
  | some x, none => some x
  | none, y => y

/-- Whether the fix is less than `ns` old. -/
def State.fixWithin (s : State) (ns : Nat) : Bool := (s.gns.fixAt.map (fun t => decide (s.now < t + ns))).getD false

/-- The smallest position bound in mm. -/
def State.posBound (s : State) : Option Nat :=
  leastOf (s.gns.posAid.map (fun a => a.bound)) (if s.fixWithin 60000000000 then some 10000 else none)

/-- The smallest velocity bound in mm/s; 15 m/s where there is none. -/
def State.velBound (s : State) : Nat :=
  (leastOf (s.gns.velAid.map (fun a => a.bound)) (if s.fixWithin 10000000000 then some 2000 else none)).getD 15000

/-- The frequency bound in units of 10^-8. -/
def State.freqBound (s : State) : Nat :=
  match s.rd F.SDL_STAT_STATE with
  | 2 => 1
  | 1 => 20
  | 3 => 20
  | _ => if s.tim.trimSaved && !s.gns.noTrim then 100 else 350

/-- A fraction rounded up. -/
def Frac.ceil (x : Frac) : Int := -(x.neg.floor)

/-- Code cells of a search. -/
def State.searchNc (s : State) (sys sv sig : Nat) : Nat :=
  let full := fullCode sig
  match s.timeBound, s.posBound, s.ephClass sys sv with
  | some t, some p, e =>
    if e = 2 then full
    else
      let wc := (t.mul ⟨lightSpeed, 1000000000⟩).add ⟨p + (if e = 0 then 5000 else 3000000), 1000⟩
      if (⟨(full : Int) * lightSpeed, 2046000⟩ : Frac).le (wc.mul ⟨2, 1⟩) then full
      else 2 * (wc.div ⟨lightSpeed, 2046000⟩).ceil.toNat + 1
  | _, _, _ => full

/-- The Doppler half-window of a search in Hz. -/
def State.searchWd (s : State) (sys sv sig : Nat) (k : Int) : Frac :=
  let evs := match s.ephClass sys sv with
    | 0 => 50
    | 1 => 1000
    | _ => 800000
  ((⟨carrierHz sig k * s.freqBound, 100000000⟩ : Frac).add ((⟨(s.velBound + evs : Nat), 1000⟩ : Frac).mul ⟨carrierHz sig k, lightSpeed⟩))

/-- Doppler bins of a search. -/
def dopBins (wd : Frac) : Nat := 2 * (wd.div ⟨125, 1⟩).ceil.toNat + 1

/-- Cells a search unit tests in a second: 6.6 million at the nominal corner, scaled with the pace (R34, R221). -/
def State.searchRate (s : State) : Frac := ⟨6600000 * max 1 (s.rd F.HLT_PACEMIN_PACE), 1024⟩

/-- How long a search of `nc` code cells and `nd` Doppler bins takes, in ns: ceil(ND / 32) dwells of max(10 ms, NC × min(ND, 32) / RS) (R221). -/
def State.searchTime (s : State) (nc nd : Nat) : Nat :=
  let td := (Frac.mul ⟨nc * min nd 32, 1⟩ ((⟨1000000000, 1⟩ : Frac).div s.searchRate)).max ⟨10000000, 1⟩
  ceilDiv nd 32 * td.ceil.toNat

/-- The predicted elevation of a satellite in degrees. -/
def elevOf (sky : List Sat) (sys sv : Nat) : Option Int := (sky.find? (fun x => decide (x.sys = sys) && decide (x.sv = sv))).map (fun x => x.elev)

/-- Whether a primary signal waits for a search: enabled, of a satellite not predicted below ELMASK, on an antenna in use, without a channel or a
search, and not held back after a failed pull-in (R217, R221). -/
def State.searchable (s : State) (sky : List Sat) (x : SigKey) : Bool :=
  s.antOn x.ant && s.sigOn x.sig && decide (primaryOf x.sig = x.sig) && decide (systemOf x.sig = x.sys) && decide (1 ≤ x.sv ∧ x.sv ≤ 64) &&
  decide ((s.rd F.GNS_RUN_ELMASK : Int) < (elevOf sky x.sys x.sv).getD 91) && !s.hasChannel x && s.antAllows x &&
  !(s.gns.search.any (fun u => decide ((u.2.map (fun y => y.1)) = some x))) && !(s.gns.again.any (fun a => decide (a.1 = x) && decide (s.now < a.2)))

/-- Whether a signal is the next that a unit takes: no signal that waits is of a satellite predicted higher (R221). -/
def State.searchFirst (s : State) (sky : List Sat) (x : SigKey) : Bool :=
  s.searchable sky x && !(sky.any (fun y => decide ((elevOf sky x.sys x.sv).getD (-91) < y.elev) &&
    [0, 1].any (fun a => [0, 3, 5, 7].any (fun c => s.searchable sky ⟨a, y.sys, y.sv, c⟩))))

/-- The search of unit `u` set or ended. -/
def State.setSearch (s : State) (u : Nat) (x : Option (SigKey × Int × Nat)) : State :=
  let t := { s with gns := { s.gns with search := SMap.set (fun _ => none) s.gns.search u x } }
  t.wr F.GNS_ACQ_BUSY (t.gns.search.foldl (fun a p => if p.2.isSome then a + 2 ^ p.1 else a) 0)

/-- A search starts: its windows are computed from the bounds held. -/
def State.startSearch (s : State) (u : Nat) (x : SigKey) (k : Int) : State :=
  let nc := s.searchNc x.sys x.sv x.sig
  let wd := s.searchWd x.sys x.sv x.sig k
  let t := ((((s.wr (F.GNS_ACQu_SIG_ANT u) x.ant).wr (F.GNS_ACQu_SIG_SYS u) x.sys).wr (F.GNS_ACQu_SIG_SV u) x.sv).wr (F.GNS_ACQu_SIG_SIG u) x.sig).wr
    (F.GNS_ACQu_SIG_STATE u) 1
  let t := ((t.wrSat (F.GNS_ACQu_WCODE_NC u) nc).wrSat (F.GNS_ACQu_WDOP_WD u) wd.ceil.toNat).wrSat (F.GNS_ACQu_CELLS_CNT u) (nc * dopBins wd)
  t.setSearch u (some (x, k, s.now + s.searchTime nc (dopBins wd)))

/-- A search ends, finding its signal or not. -/
def State.endSearch (s : State) (u : Nat) (x : SigKey) (k : Int) (found : Bool) : State :=
  let took := s.searchTime (s.searchNc x.sys x.sv x.sig) (dopBins (s.searchWd x.sys x.sv x.sig k))
  let t := ((s.setSearch u none).wr (F.GNS_ACQu_SIG_STATE u) (if found then 2 else 3)).measured (F.GNS_ACQu_TIME_LAST u) (F.GNS_ACQu_TIME_PEAK u)
    (took / 1000000)
  let t := t.inc F.GNS_ACQ_SEARCHES
  if found then t.assignChannel x k else t

/-- SIGNAL_SEARCH: an idle unit takes the waiting signal of the satellite predicted highest, unless TCXOLOSS is 1; a unit whose dwells are over
reports. -/
def execSignalSearch (u ant sys sv sig : Nat) (k : Int) (found : Bool) (sky : List Sat) (s : State) : Host.Outcome State Fault Refusal :=
  let x : SigKey := ⟨ant, sys, sv, sig⟩
  .next (
    if s.gnsRuns = false ∨ s.code.gnsUnits ≤ u ∨ signalOk sys sig k = false then s
    else
      match SMap.get (fun _ => none) s.gns.search u with
      | some r => if r.1 = x ∧ r.2.1 = k ∧ r.2.2 ≤ s.now then s.endSearch u x k found else s
      | none => if s.on F.SDL_STAT_TCXOLOSS = false ∧ s.searchFirst sky x = true then s.startSearch u x k else s)

/-- CHANNEL_LOCK: TRACK is reached, and the satellite's secondary signals are handed over. -/
def execChannelLock (ch : Nat) (seconds : List Nat) (s : State) : Host.Outcome State Fault Refusal :=
  .next (
    if s.gnsRuns = false ∨ s.code.gnsChannels ≤ ch ∨ (s.chanState ch ≠ 1 ∧ s.chanState ch ≠ 3) ∨ s.antAllows (s.chanKey ch) = false then s
    else
      let was := s.chanState ch
      let x := s.chanKey ch
      let t := (s.wr (chpState ch) 2).gnsCounts
      if was = 3 then t
      else (seconds.filter (fun c => decide (primaryOf c = x.sig) && decide (c ≠ x.sig) && s.sigOn c)).foldl
        (fun y c => if y.hasChannel { x with sig := c } || !y.antAllows { x with sig := c } then y
          else y.assignChannel { x with sig := c } (s.gnsChan ch).k) t)

/-- CHANNEL_LOCK_LOSS: the channel of antenna 1 that tracks the same signal stops tracking it too. -/
def execChannelLockLoss (ch : Nat) (s : State) : Host.Outcome State Fault Refusal :=
  .next (
    if s.gnsRuns = false ∨ s.code.gnsChannels ≤ ch ∨ s.chanState ch ≠ 2 then s
    else
      let t := (s.loseLock ch).inc (F.GNS_ANTa_LOSTS_CNT (s.rd (chpAnt ch)))
      (match s.twinOf ch with
        | some m => if s.chanState m = 2 then t.loseLock m else t
        | none => t).gnsCounts)

/-- CHANNEL_FREE: after 10 s without lock, or below the mask by 2°; a found signal that has not reached lock within 200 ms is searched again 2 s
later. -/
def execChannelFree (ch : Nat) (low : Bool) (s : State) : Host.Outcome State Fault Refusal :=
  .next (
    if s.gnsRuns = false ∨ s.code.gnsChannels ≤ ch then s
    else
      let st := s.chanState ch
      let failed := decide (st = 1) && decide ((s.gnsChan ch).since + 200000000 ≤ s.now)
      if st ≠ 0 ∧ (low = true ∨ failed = true ∨ (st = 3 ∧ (s.gnsChan ch).lostAt + 10000000000 ≤ s.now)) then
        let t := if failed then
            { s with gns := { s.gns with again := (s.gns.again.filter (fun a => decide (s.now < a.2))) ++ [(s.chanKey ch, s.now + 2000000000)] } }
          else s
        (t.freeGnsChannel ch).gnsCounts
      else s)

/-! ### Antenna feeds (R218) -/

/-- ANTENNA_FEED_FAULT: the current the feed has carried long enough decides its state: below 3 mA OPEN, in its limit of 150 mA SHORT and off, else
OK. A change into OPEN or SHORT is flagged, told and recorded. -/
def execAntennaFeedFault (a ma : Nat) (s : State) : Host.Outcome State Fault Refusal :=
  let st := if ma < 3 then 2 else if 150 ≤ ma then 3 else 1
  .next (
    if s.canopyOn = false ∨ s.code.antennas ≤ a ∨ s.on (F.GNS_ANTa_CTL_FEED a) = false ∨ s.rd (F.GNS_ANTa_STAT_FEEDST a) = 3 then s
    else
      let t := (s.wr (F.GNS_ANTa_STAT_FEEDST a) st).wrSat (F.GNS_ANTa_STAT_MA a) (if st = 3 then 0 else ma)
      if st = 1 ∨ s.rd (F.GNS_ANTa_STAT_FEEDST a) = st then t
      else
        let t := t.flag F.GNS_STAT_ANTFLT F.GNS_CTL_IE_ANT
        let t := { t with gns := { t.gns with feedOff := SMap.set (fun _ => 0) t.gns.feedOff a t.now } }
        (t.gnsEvent 3 a st).record 0x16 3 sevFault a st 0)

/-- ANTENNA_FEED_RETRY: 1 s after SHORT the feed is switched on again. -/
def execAntennaFeedRetry (a : Nat) (s : State) : Host.Outcome State Fault Refusal :=
  .next (
    if s.canopyOn = true ∧ a < s.code.antennas ∧ s.on (F.GNS_ANTa_CTL_FEED a) = true ∧ s.rd (F.GNS_ANTa_STAT_FEEDST a) = 3 ∧
        SMap.get (fun _ => 0) s.gns.feedOff a + 1000000000 ≤ s.now then s.wr (F.GNS_ANTa_STAT_FEEDST a) 1
    else s)

/-- The feed of antenna `a` follows its FEED bit. -/
def State.feedApply (s : State) (a : Nat) : State :=
  if s.on (F.GNS_ANTa_CTL_FEED a) then s.wr (F.GNS_ANTa_STAT_FEEDST a) 1
  else (s.wr (F.GNS_ANTa_STAT_FEEDST a) 0).wr (F.GNS_ANTa_STAT_MA a) 0

/-! ### Aids (R231, R232) -/

/-- GNS_AIDSTAT and GNS_EPHCNT brought up to date. -/
def State.gnsAidRegs (s : State) : State :=
  let cur (y : Nat) : Nat := (s.gns.ephs.filter (fun e => decide (e.sys = y) && decide (s.ephClass e.sys e.sv = 0))).length
  let orb := (List.range 4).foldl (fun a y => if 0 < cur y then a + 2 ^ y else a) 0
  let tb := match s.timeBound with
    | some b => min 0x7FFFFF (b.div ⟨1000, 1⟩).ceil.toNat
    | none => 0x7FFFFF
  ((((((s.wr F.GNS_AIDSTAT_ORB orb).wrB F.GNS_AIDSTAT_POS s.posBound.isSome).wr F.GNS_AIDSTAT_TBOUND tb).wrSat F.GNS_EPHCNT_GPS (cur 0)).wrSat
    F.GNS_EPHCNT_GAL (cur 1)).wrSat F.GNS_EPHCNT_BDS (cur 2)).wrSat F.GNS_EPHCNT_GLO (cur 3)

/-- AIDTIME: an aid wider than the one held is kept but not used. -/
def execAidtime (q : Nat) (s : State) : Host.Outcome State Fault Refusal :=
  .next (if q = 88 then
    s.serve q 1 (fun d t =>
      let x := (d.le 24 8, d.le 32 8, d.le 40 4)
      if (t.gns.timeAid.map (fun a => decide (a.2.2 < x.2.2))).getD false then ({ t with gns := { t.gns with timeWide := some x } }, {})
      else (({ t with gns := { t.gns with timeAid := some x } }).gnsAidRegs, {}))
  else s)

/-- Whether an aid of bound `b` is wider than the one held. -/
def widerThan (held : Option PosAid) (b : Nat) : Bool := (held.map (fun a => decide (a.bound < b))).getD false

/-- A position aid taken: used, unless its bound is wider than the one held. -/
def State.takePos (s : State) (a : PosAid) : State :=
  if widerThan s.gns.posAid a.bound then { s with gns := { s.gns with posWide := some a } }
  else ({ s with gns := { s.gns with posAid := some a } }).gnsAidRegs

/-- A velocity aid taken, likewise. -/
def State.takeVel (s : State) (a : PosAid) : State :=
  if widerThan s.gns.velAid a.bound then { s with gns := { s.gns with velWide := some a } }
  else { s with gns := { s.gns with velAid := some a } }

/-- A signed payload field of `n` bytes. -/
def Desc.int (d : Desc) (o n : Nat) : Int := toSigned (8 * n) (d.le o n)

/-- AIDPOS: the position and the velocity are two aids, each with its bound. -/
def execAidpos (q : Nat) (s : State) : Host.Outcome State Fault Refusal :=
  .next (if q = 88 then
    s.serve q 2 (fun d t =>
      let v := (d.int 56 2, d.int 58 2, d.int 60 2)
      let p := some (Place.ecef (d.int 24 8) (d.int 32 8) (d.int 40 8))
      ((t.takePos ⟨d.le 48 4, p, v, t.now⟩).takeVel ⟨d.le 52 4, none, v, t.now⟩, {}))
  else s)

/-- SOLUTION: its position and velocity are used as AIDPOS, with the 3-sigma of SIGH as the position's bound. The descriptor carries no sigma of the
velocity: that bound is a free value (notes/assumptions/32.md). -/
def execSolution (q : Nat) (s : State) : Host.Outcome State Fault Refusal :=
  .next (if q = 88 then
    s.serve q 4 (fun d t =>
      let v := (d.int 48 2, d.int 50 2, d.int 52 2)
      let u := if d.le 20 1 = 0 then t else t.takePos ⟨3 * d.le 44 2, some (Place.geo (d.int 24 8) (d.int 32 8) (d.int 40 4)), v, t.now⟩
      (if bitAt (d.le 60 2) 1 then (u.takeVel ⟨u.freshNat, none, v, u.now⟩).tickFree else u, {}))
  else s)

/-- Bits `[off, off + n)` of a run of bytes, most significant bit first. -/
def bitsMsb (b : Bytes) (off n : Nat) : Nat :=
  (List.range n).foldl (fun a i => 2 * a + (if bitAt (b.getD ((off + i) / 8) 0).toNat (7 - (off + i) % 8) then 1 else 0)) 0

/-- The system of an ephemeris message; none for another message. -/
def ephSystem (msg : Nat) : Option Nat :=
  if msg = 1019 then some 0 else if msg = 1045 ∨ msg = 1046 then some 1 else if msg = 1042 then some 2 else if msg = 1020 then some 3 else none

/-- The RTCM frames of a run of bytes from offset `pos` on: where each whole frame lies, its bytes, and whether it passes CRC-24Q; `fuel` bounds
them. -/
def rtcmFrames : Nat → Nat → Bytes → List (Nat × Bytes × Bool)
  | 0, _, _ => []
  | f + 1, pos, b =>
    match b with
    | [] => []
    | x :: rest =>
      if x ≠ 0xD3 then rtcmFrames f (pos + 1) rest
      else
        let n := bitsMsb b 14 10 + 6
        if b.length < n then []
        else
          let fr := b.take n
          (pos, fr, decide (crc24q (fr.take (n - 3)) = bitsMsb fr (8 * (n - 3)) 24)) :: rtcmFrames f (pos + n) (b.drop n)

/-- The reference time of an ephemeris frame in GPS ns, nearest to `g`: the week and time of ephemeris of messages 1019, 1042, 1045 and 1046, and the
time of day of message 1020, with the field places of RTCM 10403 (PRESUMED, notes/assumptions/32.md). -/
def ephRef (fr : Bytes) (leap g : Int) : Int :=
  match bitsMsb fr 24 12 with
  | 1019 => nearestTo (1024 * weekNs) (bitsMsb fr 42 10 * weekNs + 16 * bitsMsb fr 312 16 * secNs) g
  | 1042 => nearestTo (8192 * weekNs) ((bitsMsb fr 42 13 + 1356) * weekNs + (8 * bitsMsb fr 323 17 + 14) * secNs) g
  | 1020 => nearestTo (86400 * secNs) ((900 * bitsMsb fr 65 7 - 10800 + leap) * secNs) g
  | _ => nearestTo (4096 * weekNs) ((bitsMsb fr 42 12 + 1024) * weekNs + 60 * bitsMsb fr 318 14 * secNs) g

/-- One frame accepted: its ephemeris replaces the one held for its satellite. -/
def State.takeFrame (s : State) (fr : Bytes) : Option State :=
  (ephSystem (bitsMsb fr 24 12)).map (fun y =>
    let sv := bitsMsb fr 36 6
    let e : Ephemeris := ⟨y, sv, fr, ephRef fr (s.gns.leap.getD 0) s.gpsNow⟩
    { s with gns := { s.gns with ephs := s.gns.ephs.filter (fun e => !(decide (e.sys = y) && decide (e.sv = sv))) ++ [e] } })

/-- AIDORB: a frame that fails its check, or of another message, or in a poisoned line, is rejected (R231, R243). -/
def execAidorb (q : Nat) (s : State) : Host.Outcome State Fault Refusal :=
  .next (if q = 88 then
    s.serve q 3 (fun d t =>
      let a := d.le 24 8
      let n := d.le 32 4
      if a % 64 ≠ 0 then (t, { status := 2 })
      else if (inDramRange t.code a n || inBedRange a n) = false then (t, { status := 5 })
      else
        let bad := t.mem.poisoned a n
        let u := if bad then t.gnsPoison else t
        let r := (rtcmFrames n 0 (t.mem.readBytes a n)).foldl (fun (x : State × Nat × Nat) fr =>
          match (if fr.2.2 && !t.mem.poisoned (a + fr.1) fr.2.1.length then x.1.takeFrame fr.2.1 else none) with
          | some y => (y, x.2.1 + 1, x.2.2)
          | none => (x.1, x.2.1, x.2.2 + 1)) (u, 0, 0)
        (r.1.gnsAidRegs, { status := if r.2.1 = 0 then 0x40 else 0, poison := bad, bytes := resultOf [(24, 4, r.2.1), (28, 4, r.2.2)] }))
  else s)

/-- ORBREAD: into DRAM, or through the Bed bridge into the Bed store (R17); a destination in the Bed store that the bridge refuses answers BRIDGE. -/
def execOrbread (q : Nat) (s : State) : Host.Outcome State Fault Refusal :=
  .next (if q = 88 then
    s.serve q 5 (fun d t =>
      let a := d.le 24 8
      let b := (t.gns.ephs.map (fun e => e.frame)).flatten
      if a % 64 ≠ 0 then (t, { status := 2 })
      else if (inDramRange t.code a (d.le 32 4) || inBedRange a (d.le 32 4)) = false then (t, { status := 5 })
      else if d.le 32 4 < b.length then (t, { status := 0x41 })
      else
        let r := t.engineWrite a b
        if r.2 then (r.1, { bytes := resultOf [(24, 4, b.length), (28, 4, t.gns.ephs.length)] }) else (t, { status := 6 }))
  else s)

/-- GNSS_RESTART: hot keeps the aids, warm discards ephemerides, cold discards every aid and the use of the saved trim. -/
def execGnssRestart (q : Nat) (s : State) : Host.Outcome State Fault Refusal :=
  .next (if q = 88 then
    s.serve q 6 (fun d t =>
      let k := d.le 16 1
      if 2 < k then (t, { status := 2 })
      else
        let g := { t.gns with start := t.now, firstFix := false, fixAt := none }
        let g := if k = 0 then g else if k = 1 then { g with ephs := [] } else { g with ephs := [], timeAid := none, timeWide := none, posAid := none, posWide := none, velAid := none, velWide := none, noTrim := true }
        (((({ t with gns := g }).freeAllChannels).wr F.GNS_STAT_FIX 0).gnsAidRegs, {}))
  else s)

/-! ### Epochs (R219, R224-R227, R233) -/

/-- The epoch period in ns. -/
def State.epochPeriod (s : State) : Nat :=
  match s.rd F.GNS_RUN_RATE with
  | 0 => 1000000000
  | 1 => 500000000
  | 2 => 200000000
  | 3 => 100000000
  | _ => 50000000

/-- Whether an ephemeris of a satellite is held. -/
def State.ephHeld (s : State) (sys sv : Nat) : Bool := s.gns.ephs.any (fun e => decide (e.sys = sys) && decide (e.sv = sv))

/-- Whether an observation is one of its channel: the channel tracks that signal, enabled, of that satellite on that antenna. -/
def State.obsOk (s : State) (o : ObsIn) : Bool :=
  decide (o.chan < s.code.gnsChannels) && decide (s.chanState o.chan = 2) && s.sigOn o.sig &&
  decide (s.chanKey o.chan = ⟨o.antk / 128 % 2, o.sys, o.sv, o.sig⟩)

/-- An observation record (R226): ANTK and EPH from what the module holds; a loss of lock since the last epoch is a SLIP; signals with a pilot never
carry HALFCYC. -/
def State.obsBytes (s : State) (o : ObsIn) : Bytes :=
  let k := if o.sys = 3 then ((s.gnsChan o.chan).k + 7).toNat % 16 else 0
  let fl := (o.oflags &&& (if 1 ≤ o.sig ∧ o.sig ≤ 6 then 0x17 else 0x1F)) ||| (if (s.gnsChan o.chan).lost then 16 else 0)
  leBytes 8 o.psr ++ leBytes 8 (toPattern 64 o.adr) ++ leBytes 4 (toPattern 32 o.dop) ++ leBytes 2 (min 0xFFFF o.cn0) ++
  leBytes 2 (min 0xFFFF o.lockt) ++ leBytes 1 o.sys ++ leBytes 1 o.sv ++ leBytes 1 o.sig ++ leBytes 1 (k + o.antk / 128 % 2 * 128) ++ leBytes 2 o.chan ++
  leBytes 2 (fl + (if s.ephHeld o.sys o.sv then 32 else 0))

/-- An ISB field: 0x8000_0000 where the pair is not estimated. -/
def isbWord (x : Option Int) : Nat :=
  match x with
  | some v => toPattern 32 v
  | none => 0x80000000

/-- The epoch header (R225). -/
def epochHeader (eseq eflags tepoch nobs : Nat) (gpst : Int) (isb : List (Option Int)) (e : EpochIn) : Bytes :=
  leBytes 4 eseq ++ leBytes 4 eflags ++ leBytes 8 tepoch ++ leBytes 8 (if e.timeValid then toPattern 64 gpst else 0) ++
  leBytes 4 (toPattern 32 e.clkbias) ++ leBytes 4 (toPattern 32 e.clkdrift) ++ leBytes 8 (toPattern 64 e.x) ++ leBytes 8 (toPattern 64 e.y) ++
  leBytes 8 (toPattern 64 e.z) ++ leBytes 2 nobs ++ leBytes 1 e.nsv ++ leBytes 1 e.leap ++ leBytes 2 e.pdop ++ leBytes 2 0 ++
  ((List.range 6).map (fun p => leBytes 4 (isbWord (isb.getD p none)))).flatten ++
  ((List.range 6).map (fun p => leBytes 1 (min 255 (e.isbsig.getD p 0)))).flatten ++ leBytes 2 0 ++ leBytes 4 (min 0xFFFFFFFF e.resrms) ++
  leBytes 4 (min 0xFFFFFFFF e.resmax) ++ leBytes 2 e.residx ++ leBytes 22 0

/-- The C/N0 and count registers of antenna `a` after an epoch. -/
def State.antRegs (s : State) (a : Nat) (obs : List ObsIn) : State :=
  let l (b : Nat) : List ObsIn := obs.filter (fun o => decide (o.antk / 128 % 2 = a) && decide (bandOf o.sig = b))
  let mean (b : Nat) : Nat := if l b = [] then 0 else (l b).foldl (fun x o => x + o.cn0) 0 / (100 * (l b).length)
  (((((s.wr (F.GNS_ANTa_CN0_L1 a) (mean 0)).wr (F.GNS_ANTa_CN0_L2 a) (mean 1)).wr (F.GNS_ANTa_CN0_L5 a) (mean 2)).wr
    (F.GNS_ANTa_SIGCNT_L1 a) (l 0).length).wr (F.GNS_ANTa_SIGCNT_L2 a) (l 1).length).wr (F.GNS_ANTa_SIGCNT_L5 a) (l 2).length

/-- The two systems of ISB pair `p` (R227). -/
def isbPair (p : Nat) : Nat × Nat := [(1, 0), (2, 0), (3, 0), (2, 1), (3, 1), (3, 2)].getD p (0, 0)

/-- The ones of a satellite bitmap. -/
def onesOf (m : Nat) : Nat := ((List.range 64).filter (fun b => bitAt m b)).length

/-- The six offsets: a pair is estimated while both its systems contribute at least two satellites to the fix. -/
def isbEstimated (e : EpochIn) : List (Option Int) :=
  (List.range 6).map (fun p =>
    if e.fix = true ∧ 2 ≤ onesOf (e.used.getD (isbPair p).1 0) ∧ 2 ≤ onesOf (e.used.getD (isbPair p).2 0) then e.isb.getD p none else none)

/-- The six offsets mirrored; a step of more than 20 ns between consecutive epochs raises ISBSTEP. -/
def State.isbRegs (s : State) (l : List (Option Int)) (consecutive : Bool) : State :=
  (List.range 6).foldl (fun t p =>
    let old := s.rd (F.GNS_ISBp_ISB p)
    let new := isbWord (l.getD p none)
    let step := toSigned 32 new - toSigned 32 old
    let u := t.wr (F.GNS_ISBp_ISB p) new
    if consecutive = true ∧ old ≠ 0x80000000 ∧ new ≠ 0x80000000 ∧ 2000 < step.natAbs then u.gnsEvent 5 p (toPattern 32 step) else u) s

/-- The fix: valid, first, or lost. -/
def State.fixRegs (s : State) (tepoch : Nat) (e : EpochIn) : State :=
  let t := ((s.wr F.GNS_FIX_NSV (if e.fix then e.nsv else 0)).wrB ⟨Reg.GNS_FIX, 16, 16⟩ e.fix).wr F.GNS_FIX_PDOP (if e.fix then e.pdop else 0)
  let t := t.wrB F.GNS_STAT_FIX e.fix
  if e.fix then
    let t := { t with gns := { t.gns with fixAt := some tepoch, rms := e.resrms } }
    if s.gns.firstFix then t
    else
      let ms := (tepoch - s.gns.start) / 1000000
      (({ t with gns := { t.gns with firstFix := true } }).wrSat F.GNS_TTFF_MS ms).gnsEvent 1 0 ms
  else if s.on F.GNS_STAT_FIX then (t.flag F.GNS_STAT_FIXLOST F.GNS_CTL_IE_FIX).gnsEvent 2 0 0
  else t

/-- The index of an epoch on its grid: whole periods in GPS time once it is known, in Sundial time before (R219). -/
def State.epochIndex (s : State) (tepoch : Nat) : Bool × Int :=
  if s.on F.GNS_STAT_TIMEVALID then (true, ((tepoch : Int) + s.gnssOffAt tepoch) / s.epochPeriod) else (false, (tepoch / s.epochPeriod : Nat))

/-- Whether `tepoch` is an epoch: a whole multiple of the period on the grid in force, later than the last one, and not ahead. -/
def State.isEpoch (s : State) (tepoch : Nat) : Bool :=
  decide (tepoch ≤ s.now) && (s.gns.lastEpoch.map (fun l => decide (l < tepoch))).getD true &&
  (if s.on F.GNS_STAT_TIMEVALID then decide (((tepoch : Int) + s.gnssOffAt tepoch) % s.epochPeriod = 0) else decide (tepoch % s.epochPeriod = 0))

/-- Whether no epoch lies between the last one and `tepoch`. -/
def State.nextEpoch (s : State) (tepoch : Nat) : Bool :=
  match s.gns.lastIdx, s.gns.lastEpoch with
  | some i, some l => if i.1 = (s.epochIndex tepoch).1 then decide ((s.epochIndex tepoch).2 = i.2 + 1) else decide (tepoch < l + 2 * s.epochPeriod)
  | _, _ => true

/-- The GPS time of an epoch: the grid's once GPS time is known; at first the broadcast time, its week the one nearest to the calendar (R219). -/
def State.epochGps (s : State) (tepoch : Nat) (e : EpochIn) : Int :=
  if s.on F.GNS_STAT_TIMEVALID then (tepoch : Int) + s.gnssOffAt tepoch else nearestTo (1024 * weekNs) e.gpst s.calendarGps

/-- What takes effect at an epoch: GNS_SIG, whose cleared signals leave their channels, and GNS_TRK (R217, R244). -/
def State.epochApply (s : State) : State :=
  let t := { s with gns := { s.gns with sig := s.rd F.GNS_SIG_EN, trk := (s.reg Reg.GNS_TRK).toNat } }
  ((t.usedChannels.filter (fun n => !t.sigOn (t.rd (chpSig n)))).foldl (fun x n => x.freeGnsChannel n) t).gnsCounts

/-- The navigation data decoded since the last epoch, and the ephemerises found poisoned: those are discarded (R223, R243). -/
def State.epochNav (s : State) (e : EpochIn) : State :=
  let t := e.nav.foldl (fun x fr => (x.takeFrame fr).getD x) s
  e.poison.foldl (fun x p => ({ x with gns := { x.gns with ephs := x.gns.ephs.filter (fun y => !(decide (y.sys = p.1) && decide (y.sv = p.2))) } }).gnsPoison) t

/-- GNSS_EPOCH: records first, the header last in one write, then the entry on ring 90. A firmware switch leaves one epoch unwritten (R538). -/
def execGnssEpoch (tepoch : Nat) (e : EpochIn) (s : State) : Host.Outcome State Fault Refusal :=
  .next (
    if s.gnsRuns = false ∨ s.isEpoch tepoch = false then s
    else if s.gns.skipNext then { s with gns := { s.gns with skipNext := false, missed := true } }
    else
      let s := (s.epochApply).epochNav e
      let obs := (e.obs.filter s.obsOk).take s.code.gnsChannels
      let slot := s.gns.slot
      let a := 4096 * s.rd F.GNS_OBSBASE_BASE + slot * 16384
      let eseq := s.gns.epochs % 2 ^ 32
      let follows := s.nextEpoch tepoch && !s.gns.missed
      let ef := (if e.timeValid then 1 else 0) + (if e.fix then 2 else 0) + (if s.rd F.SDL_STAT_STATE = 2 then 0 else 4) +
        (if s.on F.SDL_STAT_TCXOLOSS then 8 else 0) + (if e.poison = [] then 0 else 16) + (if follows then 0 else 32)
      let isb := isbEstimated e
      let gps := s.epochGps tepoch e
      let slips := obs.filter (fun o => bitAt o.oflags 4 || (s.gnsChan o.chan).lost)
      let t := s.put (a + 128) (obs.flatMap s.obsBytes)
      let t := t.put a (epochHeader eseq ef tepoch obs.length gps isb e)
      let idx : Bool × Int := if s.on F.GNS_STAT_TIMEVALID || !e.timeValid then s.epochIndex tepoch else (true, gps / s.epochPeriod)
      let t := { t with gns := { t.gns with
        epochs := t.gns.epochs + 1, slot := (slot + 1) % 2 ^ s.rd F.GNS_OBSCFG_OLOG2, lastEpoch := some tepoch, lastIdx := some idx, missed := false,
        leap := if e.leap = 0xFF then t.gns.leap else some e.leap } }
      let t := obs.foldl (fun x o => x.setGnsChan o.chan { x.gnsChan o.chan with lost := false }) t
      let t := ((t.wr F.GNS_ESEQ_ESEQ eseq).wideAdd Reg.GNS_EPOCHCNT_LO 1).measured F.GNS_OBSTIME_LAST F.GNS_OBSTIME_PEAK ((s.now - tepoch) / 10000)
      let t := (t.wrSat F.GNS_RESID_RESMAX (e.resmax / 100)).wrSat F.GNS_RESID_RESRMS (e.resrms / 100)
      let t := (t.wrB F.GNS_STAT_TIMEVALID e.timeValid).fixRegs tepoch e
      let t := t.isbRegs isb follows
      let t := (t.antRegs 0 obs).antRegs 1 obs
      let t := obs.foldl (fun x o => x.wrSat (chpCn0 o.chan) (o.cn0 / 100)) t
      let t := slips.foldl (fun x o => (x.wideAdd Reg.GNS_SLIPCNT_LO 1).inc (F.GNS_ANTa_SLIPS_CNT (o.antk / 128 % 2))) t
      let t := (List.range 4).foldl (fun x y => (x.wr (F.GNS_SVUSEs_LO_SV y) (e.used.getD y 0 % 2 ^ 32)).wr (F.GNS_SVUSEs_HI_SV y) (e.used.getD y 0 / 2 ^ 32)) t
      (t.eventEntry 90 0x87 slot 0 (resultOf [(24, 4, eseq), (28, 8, tepoch), (36, 2, obs.length), (40, 4, ef)]) true).1.gnsAidRegs)

/-- GNSS_MARK: one mark per GPS whole second while a fix from at least five satellites has RESRMS at or below 10 m (R220). A lock ends what a cold
RESTART took from the saved trim, for a new one is saved. -/
def execGnssMark (stamp gps sig : Nat) (rateErr : Int) (s : State) : Host.Outcome State Fault Refusal :=
  .next (
    if s.gnsRuns = true ∧ s.on F.GNS_RUN_MARK = true ∧ s.on F.GNS_STAT_FIX = true ∧ 5 ≤ s.rd F.GNS_FIX_NSV ∧ s.gns.rms ≤ 10000 ∧
        gps % 1000000000 = 0 ∧ s.gns.markGps < gps then
      let t := ((s.wr F.GNS_MARK_ACTIVE 1).wrSat F.GNS_MARK_SIG sig)
      let t := ({ t with gns := { t.gns with lastMark := some s.now, markGps := gps } }).refMark 1 stamp gps rateErr
      if t.rd F.SDL_STAT_STATE = 2 then { t with gns := { t.gns with noTrim := false } } else t
    else s)

/-- MARKSTOP: no mark could be sent for 3 s while MARK is 1. -/
def execMarkstop (s : State) : Host.Outcome State Fault Refusal :=
  .next (match s.gns.lastMark with
    | some m =>
      if s.gnsRuns = true ∧ s.on F.GNS_RUN_MARK = true ∧ m + 3000000000 ≤ s.now then
        let t := { s.wr F.GNS_MARK_ACTIVE 0 with gns := { s.gns with lastMark := none } }
        (t.flag F.GNS_STAT_MARKSTOP F.GNS_CTL_IE_MARK).gnsEvent 4 0 0
      else s
    | none => s)

/-! ### Register writes and parity (R244) -/

/-- A write of a GNS register. -/
def State.gnsWrite (s : State) (off : Nat) (v : W32) : State :=
  let key := 0x16000 + off
  let en := s.on F.GNS_RUN_EN
  if listedAt key v = false then s
  else if off = 0x00C then
    let size := 2 ^ s.rd F.GNS_OBSCFG_OLOG2 * 16384
    let a := 4096 * s.rd F.GNS_OBSBASE_BASE
    if en = true ∧ getBits v 28 26 ≠ s.rd F.GNS_RUN_RATE then s.gnsReject 3
    else if getBits v 30 30 = 1 ∧ s.code.antennas = 1 then s.gnsReject 4
    else if en = false ∧ getBits v 31 31 = 1 ∧ (a % size ≠ 0 ∨ inDramRange s.code a size = false) then s.gnsReject 1
    else if en = false ∧ getBits v 31 31 = 1 then
      let t := s.applyWrite key v
      { t with gns := { t.gns with start := s.now, firstFix := false, slot := 0, lastIdx := none, lastEpoch := none, missed := false, lastMark := some s.now,
                                   sig := s.rd F.GNS_SIG_EN, trk := (s.reg Reg.GNS_TRK).toNat } }
    else if en = true ∧ getBits v 31 31 = 0 then (((s.applyWrite key v).freeAllChannels).wr F.GNS_STAT_FIX 0).wr F.GNS_MARK_ACTIVE 0
    else if en = true ∧ s.on F.GNS_RUN_MARK = false ∧ getBits v 29 29 = 1 then
      let t := s.applyWrite key v
      { t with gns := { t.gns with lastMark := some s.now } }
    else if getBits v 29 29 = 0 then (s.applyWrite key v).wr F.GNS_MARK_ACTIVE 0
    else s.applyWrite key v
  else if off = 0x010 then
    if (List.range 9).any (fun c => decide (getBits v c c = 1) && decide (getBits v (primaryOf c) (primaryOf c) = 0)) then s.gnsReject 2
    else s.applyWrite key v
  else if en = true ∧ (off = 0x018 ∨ off = 0x01C) then s.gnsReject 3
  else if off = 0x080 ∨ off = 0x0C0 then
    let a := (off - 0x080) / 0x40
    let t := s.applyWrite key v
    if t.on (F.GNS_ANTa_CTL_FEED a) = s.on (F.GNS_ANTa_CTL_FEED a) then t else t.feedApply a
  else s.applyWrite key v

/-- The further effect of a parity fault in the GNS register at offset `off`. -/
def State.gnsParity (s : State) (off : Nat) : State :=
  if off = 0x00C then ((s.freeAllChannels).wr F.GNS_STAT_FIX 0).wr F.GNS_MARK_ACTIVE 0
  else if off = 0x080 ∨ off = 0x0C0 then s.feedApply ((off - 0x080) / 0x40)
  else s

end Sys2Proof.Machine
end

