-- ==== Sys2Proof/Machine/Valves.lean ====
section
/-! DEFINITION. The valve banks (R309-R330): command state and drive of a channel, bank budgets and the peak slot, motion
detection, protection, duty limit, and timed events. Drives change at the instant of their cause (notes/assumptions/12.md). -/

namespace Sys2Proof.Machine

/-! ### State access -/

/-- Channels and banks by code (R309). -/
def Code.valves (c : Code) : Nat := c.pick 48 32 16

/-- A channel. -/
def State.valve (s : State) (n : Nat) : Valve := SMap.get (fun _ => {}) s.vlv.chs n

/-- A channel set. -/
def State.setValve (s : State) (n : Nat) (x : Valve) : State :=
  { s with vlv := { s.vlv with chs := SMap.set (fun _ => {}) s.vlv.chs n x } }

/-- Bit `b` of VLV_CHn_STAT.FLAGS (R330). -/
def vlvFlag (n b : Nat) : Fld := ⟨Reg.VLV_CHn_STAT n, b, b⟩

/-- Whether flag `b` of channel `n` is 1: 0 ON, 1 PEAK, 2 HOLD, 3 MOVED, 4 NOMOVE, 5 DUTYLIM, 6 OPEN, 7 SHORT, 8 OTEMP, 9 HSOFF,
10 PERMIT, 11 DEFER, 12 CLAMP, 13 FSAFE, 14 WEARSAT, 15 CMD. -/
def State.vOn (s : State) (n b : Nat) : Bool := s.on (vlvFlag n b)

/-- A flag of channel `n` set or cleared. -/
def State.vSet (s : State) (n b : Nat) (v : Bool) : State := s.wrB (vlvFlag n b) v

/-- Whether channel `n` is proportional. -/
def State.prop (s : State) (n : Nat) : Bool := s.on (F.VLV_CHn_CTL_MODE n)

/-- The channels of bank `b`. -/
def bankChannels (b : Nat) : List Nat := (List.range 4).map (fun i => 4 * b + i)

/-- The peak time of channel `n` in ns. -/
def State.tpeak (s : State) (n : Nat) : Nat := s.rd (F.VLV_CHn_PEAK_TPEAK n) * 10000

/-- An output-stage IC. -/
def State.outIc (s : State) (i : Nat) : OutIc := SMap.get (fun _ => {}) s.outs.ics i

/-- An output-stage IC set. -/
def State.setOutIc (s : State) (i : Nat) (x : OutIc) : State :=
  { s with outs := { s.outs with ics := SMap.set (fun _ => {}) s.outs.ics i x } }

/-- The stored fail-safe entry of an output: valve channel n at n, load-switch channel n at 48 + n. -/
def State.fsEntry (s : State) (k : Nat) : Nat := SMap.get (fun _ => 0) s.outs.entries k

/-- The fail-safe entry an IC in its fail-safe state applies to an output (R345). -/
def State.fsApplied (s : State) (k : Nat) : Nat := SMap.get (fun _ => 0) s.outs.applied k

/-! ### Events and refusals (R329, R330) -/

/-- The result bytes of an event entry; where the spec gives the cause detail no value it is free. -/
def State.vlvResult (s : State) (subject : Nat) (detail : Option Nat) : Bytes :=
  resultOf [(24, 1, subject), (28, 8, s.now), (36, 4, detail.getD s.freshNat)]

/-- An event entry on rings 36 and 37. -/
def State.vlvEntry (s : State) (tag subject : Nat) (detail : Option Nat) : State :=
  let r := s.vlvResult subject detail
  let t := (((s.eventEntry 36 0x80 tag 0 r true).1).eventEntry 37 0x80 tag 0 r true).1
  if detail = none then t.tickFree else t

/-- An event entry on rings 36 and 37 that is also recorded. -/
def State.vlvEvent (s : State) (tag subject sev : Nat) (detail : Option Nat) : State :=
  let r := s.vlvResult subject detail
  (s.vlvEntry tag subject detail).record 0x0B tag sev (leAt r 0 1) (leAt r 12 4) (leAt r 1 3)

/-- A configuration write refused. -/
def State.vlvReject (s : State) (n cause : Nat) : State :=
  ((s.wr F.VLV_BADCFG_CAUSE cause).wr F.VLV_BADCFG_CH n).flag F.VLV_STAT_CFGREJ F.VLV_CTL_IE_CFG

/-- An actuation entry on ring 36 (R329): AFLAGS bits 2 CUT and 4 BLOCKED are `ended`; the motion bits are the pulse's own. -/
def State.actuation (s : State) (n tag ended ton toff : Nat) : State :=
  let x := s.valve n
  let blocked := bitAt ended 4
  let dip := if blocked then none else x.dip
  let fl := ended + (match dip with
    | some (some _) => 1
    | some none => 2
    | none => 0) + (if s.vOn n 5 then 8 else 0)
  let depth := match dip with
    | some (some d) => d.1
    | _ => 0
  let mt := match dip with
    | some (some d) => d.2
    | _ => 0xFFFFFFFF
  (s.looseEntry 36 0x89 tag 0 0 false
    (resultOf [(24, 1, n), (25, 1, fl), (26, 2, depth), (28, 8, ton), (36, 4, mt), (40, 8, toff)]) true).1

/-! ### Budgets and the peak slot (R315, R316) -/

/-- The budget of channel `n` outside and inside its peak phase. -/
def State.vBudget (s : State) (n : Nat) : Nat × Nat :=
  if s.prop n then (s.rd (F.VLV_CHn_HOLD_IMAX n), s.rd (F.VLV_CHn_HOLD_IMAX n))
  else (s.rd (F.VLV_CHn_HOLD_IHOLD n), s.rd (F.VLV_CHn_PEAK_IPEAK n))

/-- Whether the limits of R315 hold for the budgets `l`, of which at most one is in its peak at any instant. -/
def limitsOk (l : List (Nat × Nat)) : Bool :=
  let cont : Nat := (l.map (fun x => x.1)).foldl (fun a b => a + b) 0
  let rise : Nat := (l.map (fun x => x.2 - x.1)).foldl max 0
  decide (cont ≤ 12000) && decide (cont + rise ≤ 20000)

/-- The other channels of the bank of `n` that are on or whose turn-on is deferred. -/
def State.bankOn (s : State) (n : Nat) : List Nat :=
  (bankChannels (n / 4)).filter (fun c => decide (c ≠ n) && (s.vOn c 0 || s.vOn c 11))

/-- The budgets those channels hold: outside its peak a channel that is on counts at its hold budget. -/
def State.bankHeld (s : State) (n : Nat) : List (Nat × Nat) :=
  (s.bankOn n).map (fun c => if s.vOn c 1 || s.vOn c 11 then s.vBudget c else ((s.vBudget c).1, (s.vBudget c).1))

/-- Accepted on-events of the bank of channel `n`, other channels than `n`. -/
def State.bankEvents (s : State) (n : Nat) : List ValveEvent :=
  s.vlv.evs.filter (fun e => decide (e.ch / 4 = n / 4) && decide (e.ch ≠ n) && e.on)

/-- The check of an untimed turn-on of channel `n`. -/
def State.untimedOk (s : State) (n : Nat) : Bool :=
  limitsOk (s.vBudget n :: s.bankHeld n ++ (s.bankEvents n).map (fun e => s.vBudget e.ch))

/-- Whether two half-open intervals overlap; none has no end. -/
def overlap (a : Nat) (a2 : Option Nat) (b : Nat) (b2 : Option Nat) : Bool :=
  (match b2 with
    | some x => decide (a < x)
    | none => true) &&
  (match a2 with
    | some x => decide (b < x)
    | none => true) &&
  decide (a2 ≠ some a) && decide (b2 ≠ some b)

/-- The on-interval of an event: a pulse's span, nothing for a SET off, and for a SET on from its time to the next accepted SET off of
its channel, without end where there is none. -/
def State.eventSpan (s : State) (e : ValveEvent) : Nat × Option Nat :=
  (e.t,
    if e.on = false then some e.t
    else match e.stop with
      | some x => some x
      | none => ((s.vlv.evs.filter (fun x => decide (x.ch = e.ch) && !x.on && decide (e.t < x.t))).map (fun x => x.t)).foldl (fun o t =>
          some (match o with
            | none => t
            | some y => min y t)) none)

/-- The accepted on-events of the bank of `e` on other channels whose on-intervals overlap its own. -/
def State.overlapping (s : State) (e : ValveEvent) : List ValveEvent :=
  (s.bankEvents e.ch).filter (fun x => overlap (s.eventSpan x).1 (s.eventSpan x).2 e.t (s.eventSpan e).2)

/-- The check of the timed turn-on `e`. -/
def State.timedOk (s : State) (e : ValveEvent) : Bool :=
  limitsOk (s.vBudget e.ch :: s.bankHeld e.ch ++ (s.overlapping e).map (fun x => s.vBudget x.ch))

/-- A refusal with BANKLIMIT for channel `n`, against the other counted channels `cs`: ESTAT holds the conflicting one, and where several
are counted one of them, free. -/
def State.bankLimit (s : State) (n : Nat) (cs : List Nat) : State × Result × Nat :=
  (s.tickFree, { status := 0x42, estat := cs.getD (s.freshNat % max cs.length 1) n }, 0)

/-- The channel whose peak overlaps a peak of channel `n` from `t` on: a channel in its peak phase, or an accepted event. -/
def State.peakConflict (s : State) (n t : Nat) : Option Nat :=
  let stop := t + s.tpeak n
  match (bankChannels (n / 4)).find? (fun c => decide (c ≠ n) && s.vOn c 1 && decide (t < (s.valve c).peakEnd)) with
  | some c => some c
  | none =>
    ((s.bankEvents n).find? (fun e => !s.prop e.ch && overlap e.t (some (e.t + s.tpeak e.ch)) t (some stop))).map (fun e => e.ch)

/-! ### Drive (R309, R311-R316) -/

/-- The maps of VLV_BANKk_STAT brought up to date (R309, R330). -/
def State.bankRegs (s : State) (b : Nat) : State :=
  let cs := bankChannels b
  let on := cs.filter (fun c => s.vOn c 0)
  let peak := cs.find? (fun c => s.vOn c 1)
  let bits (l : List Nat) : Nat := (l.map (fun c => 2 ^ (c % 4))).foldl (fun a x => a + x) 0
  let t := s.wrB (F.VLV_BANKk_STAT_HSON b) (!on.isEmpty && !s.on (F.VLV_BANKk_STAT_FAULT b))
  let t := (t.wrB (F.VLV_BANKk_STAT_PEAK b) peak.isSome).wr (F.VLV_BANKk_STAT_PEAKCH b) ((peak.map (fun c => c % 4)).getD 0)
  (t.wr (F.VLV_BANKk_STAT_ONMAP b) (bits on)).wr (F.VLV_BANKk_STAT_DEFMAP b) (bits (cs.filter (fun c => s.vOn c 11)))

/-- A set-point as it is applied, in mA, with CLAMP (R312). -/
def State.setPoint (s : State) (n : Nat) (ma : Frac) : Nat × Bool :=
  let imax := s.rd (F.VLV_CHn_HOLD_IMAX n)
  if ma.lt (Frac.ofInt 50) then (0, false)
  else if ma.lt (Frac.ofInt 100) then (100, true)
  else if (Frac.ofInt imax).lt ma then (imax, true)
  else ((rhe ma.num ma.den).toNat, false)

/-- Whether channel `n` may be driven: enabled, permitted, and neither faulted, tripped nor in a fail-safe state. Under a duty limit a
channel that is on goes on where ACT is HOLD, and no other turns on (R316, R318). -/
def State.vCan (s : State) (n : Nat) : Bool :=
  s.on (F.VLV_CHn_CTL_EN n) && s.vOn n 10 && !s.vOn n 6 && !s.vOn n 7 && !s.vOn n 8 && !s.vOn n 9 && !s.vOn n 13 &&
    (!s.vOn n 5 || (s.vOn n 0 && !s.on (F.VLV_CHn_DUTY_ACT n)))

/-- The current a PROP channel that is on is regulated at: its set-point, under a duty limit at most IHOLD (R318). -/
def State.propLevel (s : State) (n : Nat) : Nat :=
  let sp := (s.setPoint n (s.valve n).ma).1
  if s.vOn n 5 then min sp (s.rd (F.VLV_CHn_HOLD_IHOLD n)) else sp

/-- Whether the command state of channel `n` asks for a drive. -/
def State.vWants (s : State) (n : Nat) : Bool :=
  s.vOn n 15 && (!s.prop n || decide ((s.setPoint n (s.valve n).ma).1 ≠ 0))

/-- The actuations of channel `n`: the Root value plus the uncommitted count (R324). -/
def State.valveWear (s : State) (n : Nat) : Nat :=
  SMap.get (fun _ => 0) s.outs.wear n + SMap.get (fun _ => 0) s.vlv.wear n

/-- The last value of a wear counter. -/
def wearTop : Nat := 2 ^ 40 - 1

/-- One actuation counted (R324). -/
def State.actuate (s : State) (n : Nat) : State :=
  if wearTop ≤ s.valveWear n then s
  else
    let t := { s with vlv := { s.vlv with wear := SMap.set (fun _ => 0) s.vlv.wear n (SMap.get (fun _ => 0) s.vlv.wear n + 1) } }
    if t.valveWear n = wearTop then
      ((t.vSet n 14 true).flag F.VLV_STAT_WEARSAT F.VLV_CTL_IE_DUTY).vlvEvent 6 n sevWarning none
    else t

/-- Channel `n` turns on at this instant (R311, R312). -/
def State.valveStart (s : State) (n : Nat) : State :=
  let x := s.valve n
  if s.prop n then
    let sp := s.setPoint n x.ma
    let t := (s.vSet n 0 true).vSet n 12 sp.2
    ((t.setValve n { x with lvl := sp.1, ton := s.now, peakEnd := s.now, dip := none, window := none }).actuate n).bankRegs (n / 4)
  else
    let w := if s.on (F.VLV_CHn_CTL_DIPEN n) then some (s.reg (Reg.VLV_CHn_DIP n)) else none
    let y : Valve := { x with lvl := s.rd (F.VLV_CHn_PEAK_IPEAK n), ton := s.now, peakEnd := s.now + s.tpeak n, window := w, dip := none }
    let t := (((s.vSet n 0 true).vSet n 1 true).vSet n 12 false).vSet n 11 false
    ((t.setValve n y).actuate n).bankRegs (n / 4)

/-- A deferral ends without a turn-on. -/
def State.undefer (s : State) (n : Nat) : State :=
  (s.vSet n 11 false).bankRegs (n / 4) |> fun t => { t with vlv := { t.vlv with defq := t.vlv.defq.filter (fun c => c ≠ n) } }

/-- The oldest deferred turn-on of bank `b` starts where the peak slot is free for it (R316); a pulse lasts from there
(notes/assumptions/34.md). -/
def State.grantPeak (s : State) (b : Nat) : State :=
  match s.vlv.defq.find? (fun c => decide (c / 4 = b)) with
  | some n =>
    if s.peakConflict n s.now = none then
      let t := (s.undefer n).valveStart n
      t.setValve n { t.valve n with pulse := (t.valve n).pulse.map (fun p => { p with stop := s.now + p.dur }) }
    else s
  | none => s

/-- Whether channel `n` is on because its Trowel drives its fail-safe state (R326); its protection turns it off there too. -/
def State.valveSafeOn (s : State) (n : Nat) : Bool :=
  s.vOn n 13 && !s.vOn n 6 && !s.vOn n 7 && !s.vOn n 8 && !s.vOn n 9 && decide (s.fsApplied n / 2 ^ 30 ≠ 0)

/-- The current a fail-safe entry holds a valve channel at, in mA: an open-loop PWM state regulates none (R326, R344). -/
def safeLevel (e : Nat) : Nat :=
  if e / 2 ^ 30 ≠ 1 then 0 else if bitAt e 29 then bitsOf e 11 0 else bitsOf e 7 0 * 20

/-- The drive of channel `n` ends, but for that of a fail-safe state; nothing is granted yet. -/
def State.valveStop (s : State) (n : Nat) : State :=
  let t := if s.vOn n 11 then s.undefer n else s
  let t := (((t.vSet n 0 (s.valveSafeOn n)).vSet n 1 false).vSet n 2 false).vSet n 12 false
  (t.setValve n { t.valve n with lvl := if s.valveSafeOn n then safeLevel (s.fsApplied n) else 0, window := none, rep := none }).bankRegs (n / 4)

/-- Channel `n` turns off; a deferred turn-on of its bank may start. -/
def State.valveOff (s : State) (n : Nat) : State := (s.valveStop n).grantPeak (n / 4)

/-- Channel `n` is brought to its command state; the second component is false where a new turn-on is refused with BANKLIMIT. -/
def State.valveFollow (s : State) (n : Nat) : State × Bool :=
  if (s.vCan n && s.vWants n) = false then (s.valveOff n, true)
  else if s.vOn n 11 then (s, true)
  else if s.vOn n 0 then
    if s.prop n then
      ((s.vSet n 12 (s.setPoint n (s.valve n).ma).2).setValve n { s.valve n with lvl := s.propLevel n }, true)
    else (s, true)
  else if s.untimedOk n = false then (s.inc F.VLV_CONFCNT_REFUSE, false)
  else if s.prop n then (s.valveStart n, true)
  else if s.peakConflict n s.now = none ∧ s.vlv.defq.any (fun c => decide (c / 4 = n / 4)) = false then (s.valveStart n, true)
  else
    let t := (s.vSet n 11 true).inc F.VLV_CONFCNT_DEFER
    (({ t with vlv := { t.vlv with defq := t.vlv.defq ++ [n] } }).bankRegs (n / 4), true)

/-- Channel `n` follows its command state as a new turn-on; a refusal is only counted. -/
def State.valveResume (s : State) (n : Nat) : State := (s.valveFollow n).1

/-- A pulse of channel `n` has ended, with the AFLAGS bits `fl`, and reports where asked; its TON is free where it never turned on. -/
def State.pulseDone (s : State) (n fl : Nat) : State :=
  let x := s.valve n
  match x.pulse with
  | none => s
  | some p =>
    let t := s.setValve n { x with pulse := none }
    if p.report = false then t
    else if s.vOn n 0 then t.actuation n p.tag fl x.ton s.now
    else (t.actuation n p.tag fl t.freshNat s.now).tickFree

/-- A running pulse ends early with CUT; its turn-off is its last command (R321). -/
def State.valveCut (s : State) (n : Nat) : State :=
  if (s.valve n).pulse.isSome then (s.pulseDone n 4).vSet n 15 false else s

/-- An untimed command to channel `n` (R310, R316); the second component is false where it is refused and not taken. -/
def State.valveCommand (s : State) (n : Nat) (on : Bool) (ma : Frac) : State × Bool :=
  let x := s.valve n
  let old := s.vOn n 15
  let r := ((s.setValve n { x with ma := ma }).vSet n 15 on).valveFollow n
  if r.2 then r else ((r.1.setValve n { r.1.valve n with ma := x.ma }).vSet n 15 old, false)

/-! ### Sources of commands (R283, R310) -/

/-- A Furrow release of kind VLVPERM: a permit of 0 turns the channel off and cuts a pulse, its return is a new turn-on. -/
def State.valvePermit (s : State) (n : Nat) (v : Bool) : State :=
  let t := s.vSet n 10 v
  if s.vOn n 10 = v then s else if v then t.valveResume n else (t.valveCut n).valveOff n

/-- A Furrow release of kind VLVON; the second component is false where the channel refuses it. -/
def State.valveRelease (s : State) (n : Nat) (v : Bool) : State × Bool :=
  if s.code.valves ≤ n ∨ s.rd (F.VLV_CHn_CTL_SRC n) ≠ 0 then (s, false)
  else s.valveCommand n v (if v then Frac.ofInt (s.rd (F.VLV_CHn_HOLD_IHOLD n)) else Frac.ofInt 0)

/-- A Trellis output in A; the second component is false where the channel refuses it (R265). -/
def State.valveValue (s : State) (n : Nat) (amps : Frac) : State × Bool :=
  if s.code.valves ≤ n ∨ s.rd (F.VLV_CHn_CTL_SRC n) ≠ 1 ∨ s.prop n = false then (s, false)
  else s.valveCommand n true (amps.mul (Frac.ofInt 1000))

/-- A write of VLV_CHn_CMD: taken from the carrying Dale where SRC is 3, refused with NOTSRC or BANKLIMIT (R310, R316). -/
def State.valveCmdWrite (s : State) (a : Agent) (n : Nat) (v : W32) : State :=
  if s.rd (F.VLV_CHn_CTL_SRC n) ≠ 3 ∨ s.carrier ≠ some a then s.vlvReject n 3
  else if listedAt (Reg.VLV_CHn_CMD n) v = false then s.vlvReject n 2
  else
    let r := s.valveCommand n (bitAt v.toNat 31) (Frac.ofInt (getBits v 11 0))
    if r.2 then r.1.applyWrite (Reg.VLV_CHn_CMD n) v else r.1.vlvReject n 4

/-- VALVE_UNTIMED_COMMAND: a write of VLV_CHn_CMD; the other sources command within their own steps. -/
def execValveUntimedCommand (agent : Agent) (n : Nat) (value : W32) (s : State) : Host.Outcome State Fault Refusal :=
  .next (if n < 48 then s.gate agent 0x0B (0x418 + 0x40 * n) (fun t => t.valveCmdWrite agent n value) else s.fail)

/-! ### Peak end, motion, protection and duty (R311, R314, R317-R319) -/

/-- PEAK_PHASE_END: the channel holds at IHOLD and the peak slot passes on; a SET with REPORT is reported. -/
def State.peakEndNow (s : State) (n : Nat) : State :=
  let x := s.valve n
  let t := ((s.vSet n 1 false).vSet n 2 true).setValve n { x with lvl := s.rd (F.VLV_CHn_HOLD_IHOLD n), rep := none, peakEnd := s.now }
  let t := match x.rep with
    | some tag => t.actuation n tag 0 x.ton 0
    | none => t
  (t.bankRegs (n / 4)).grantPeak (n / 4)

/-- PEAK_PHASE_END. -/
def execPeakPhaseEnd (n : Nat) (s : State) : Host.Outcome State Fault Refusal :=
  .next (if s.bedOn = true ∧ n < s.code.valves ∧ s.vOn n 1 = true ∧ (s.valve n).peakEnd ≤ s.now then s.peakEndNow n else s)

/-- DIP_WINDOW_CLOSE: the window closes at END or when the current first reaches IPEAK; `depth` is the greatest fall found in it and
`us` the time from turn-on to the lowest sample. -/
def execDipWindowClose (n : Nat) (reached : Bool) (depth us : Nat) (s : State) : Host.Outcome State Fault Refusal :=
  .next (
    let x := s.valve n
    match x.window with
    | some w =>
      if s.bedOn = true ∧ n < s.code.valves ∧ (reached = true ∨ x.ton + getBits w 21 12 * 100000 ≤ s.now) then
        if getBits w 11 0 ≤ depth then
          let t := ((s.wrSat (F.VLV_CHn_MOTION_DEPTH n) depth).wrSat (F.VLV_CHn_MOTION_T n) us).setValve n
            { x with window := none, dip := some (some (depth, us)) }
          (t.vSet n 3 true).vSet n 4 false
        else
          let t := ((s.wr (F.VLV_CHn_MOTION_DEPTH n) 0).wr (F.VLV_CHn_MOTION_T n) 0xFFFF).setValve n { x with window := none, dip := some none }
          (((t.vSet n 4 true).vSet n 3 false).flag F.VLV_STAT_NOMOVE F.VLV_CTL_IE_DUTY).vlvEntry 1 n none
      else s
    | none => s)

/-- BANK_TRIP with cause 1 SHORT or 2 AVG: the bank turns off and stays off until FAULT is written 1. -/
def execBankTrip (b cause : Nat) (s : State) : Host.Outcome State Fault Refusal :=
  .next (
    if s.bedOn = true ∧ 4 * b < s.code.valves ∧ (cause = 1 ∨ cause = 2) ∧ s.on (F.VLV_BANKk_STAT_HSON b) = true then
      let t := (s.wr (F.VLV_BANKk_STAT_FAULT b) 1).wr (F.VLV_BANKk_STAT_FCAUSE b) cause
      let t := (bankChannels b).foldl (fun x c => ((x.vSet c 9 true).valveCut c).valveStop c) t
      (t.flag F.VLV_STAT_BANKFLT F.VLV_CTL_IE_BANK).vlvEvent 4 b sevFault (some cause)
    else s)

/-- A write of 1 to a bank's FAULT: the bank is re-enabled and its commanded channels turn on again. -/
def State.bankClear (s : State) (b : Nat) : State :=
  if s.on (F.VLV_BANKk_STAT_FAULT b) then
    let t := (s.wr (F.VLV_BANKk_STAT_FAULT b) 0).wr (F.VLV_BANKk_STAT_FCAUSE b) 0
    let t := (bankChannels b).foldl (fun x c => x.vSet c 9 false) t
    (bankChannels b).foldl (fun x c => x.valveResume c) (t.bankRegs b)
  else s

/-- BANK_FAULT_CLEAR. -/
def execBankFaultClear (agent : Agent) (b : Nat) (s : State) : Host.Outcome State Fault Refusal :=
  .next (if b < 12 then s.gate agent 0x0B (0x080 + 8 * b) (fun t => t.bankClear b) else s.fail)

/-- DUTY_LIMIT_ENTRY: the heating H of channel `n`, times 65,536, has reached LIMIT / 256. -/
def execDutyLimitEntry (n h : Nat) (s : State) : Host.Outcome State Fault Refusal :=
  .next (
    if s.bedOn = true ∧ n < s.code.valves ∧ s.on (F.VLV_CHn_DUTY_EN n) = true ∧ s.vOn n 5 = false ∧
        s.rd (F.VLV_CHn_DUTY_LIMIT n) * 256 ≤ h then
      let t := (s.measured (F.VLV_CHn_DUTYUSE_USE n) (F.VLV_CHn_DUTYUSE_PEAK n) h).vSet n 5 true
      let t :=
        if s.on (F.VLV_CHn_DUTY_ACT n) then (t.valveCut n).valveOff n
        else if t.vOn n 1 then t.peakEndNow n
        else if t.vOn n 0 ∧ t.prop n then t.setValve n { t.valve n with lvl := t.propLevel n }
        else if t.vOn n 11 then t.undefer n
        else t
      (t.flag F.VLV_STAT_DUTYLIM F.VLV_CTL_IE_DUTY).vlvEntry 2 n none
    else s)

/-- The duty limit of channel `n` ends: it follows its command state. -/
def State.dutyEnd (s : State) (n : Nat) : State := (s.vSet n 5 false).valveResume n

/-- DUTY_LIMIT_EXIT: H has fallen below LIMIT × 7 / 256. -/
def execDutyLimitExit (n h : Nat) (s : State) : Host.Outcome State Fault Refusal :=
  .next (
    if s.bedOn = true ∧ n < s.code.valves ∧ s.vOn n 5 = true ∧ h < s.rd (F.VLV_CHn_DUTY_LIMIT n) * 7 * 256 then
      (s.measured (F.VLV_CHn_DUTYUSE_USE n) (F.VLV_CHn_DUTYUSE_PEAK n) h).dutyEnd n
    else s)

/-- A channel turned off by its Trowel: flag 6 OPEN, 7 SHORT or 8 OTEMP (R319). -/
def State.valveFault (s : State) (n flag : Nat) : State :=
  let t := (s.vSet n flag true).mapBit Reg.VLV_FLTMAP_LO n true
  ((((t.valveCut n).valveOff n).flag F.VLV_STAT_CHFLT F.VLV_CTL_IE_CHFLT)).vlvEvent 3 n sevFault none

/-- VALVE_CHANNEL_FAULT: 0 OPEN or 1 SHORT of channel `n`, 2 OTEMP of the whole Trowel of channel `n`. -/
def execValveChannelFault (n kind : Nat) (s : State) : Host.Outcome State Fault Refusal :=
  .next (
    if s.bedOn = false ∨ s.code.valves ≤ n then s
    else if kind = 2 then
      (List.range 8).foldl (fun x i => x.valveFault (n / 8 * 8 + i) 8) (s.wr (F.VLV_TRWj_STAT_OT (n / 8)) 1)
    else if kind = 1 then s.valveFault n 7
    else if kind = 0 ∧ s.vOn n 0 = true ∧ 100 ≤ (s.valve n).lvl then s.valveFault n 6
    else s)

/-- A fault cleared by software: ignored while OTEMP stands and the die is still hot. -/
def State.valveClear (s : State) (n : Nat) : State :=
  if s.mapOn Reg.VLV_FLTMAP_LO n = false ∨ (s.vOn n 8 = true ∧ s.on (F.VLV_TRWj_STAT_OT (n / 8)) = true) then s
  else ((((s.mapBit Reg.VLV_FLTMAP_LO n false).vSet n 6 false).vSet n 7 false).vSet n 8 false).valveResume n

/-- A write of VLV_FLTMAP_LO (`hi` 0) or _HI. -/
def State.fltmapWrite (s : State) (hi : Nat) (v : W32) : State :=
  (List.range 32).foldl (fun x i => if bitAt v.toNat i ∧ 32 * hi + i < s.code.valves then x.valveClear (32 * hi + i) else x) s

/-- VALVE_FAULT_CLEAR. -/
def execValveFaultClear (agent : Agent) (hi : Bool) (value : W32) (s : State) : Host.Outcome State Fault Refusal :=
  let k := if hi then 1 else 0
  .next (s.gate agent 0x0B (0x028 + 4 * k) (fun t => t.fltmapWrite k value))

/-! ### Descriptors and timed events (R320-R322, R328) -/

/-- A command of a descriptor: channel, on, the pulse's duration in ns, current, TAG and REPORT; none where the payload breaks its
opcode's rules (R328). -/
def State.valveDesc (s : State) (d : Desc) (pulse : Bool) : Option ValveEvent :=
  let n := d.le 16 1
  let dur := d.le 24 4
  let ma := d.le 28 4
  if s.code.valves ≤ n ∨ d.tmode = 2 ∨ 4000 < ma ∨ (ma ≠ 0 ∧ s.prop n = false) ∨ (pulse = true ∧ (dur < 100 ∨ 4000000000 < dur)) ∨
      (pulse = false ∧ 1 < d.le 17 1) then none
  else
    let t := if d.tmode = 1 then d.deadline else s.now
    some { ch := n, t := t, stop := if pulse then some (t + dur * 1000) else none, on := pulse || decide (d.le 17 1 = 1), ma := ma,
           tag := d.tag, report := bitAt d.eflags 0 }

/-- The accepted events of a bank: those whose time has not come and the timed pulses that run. -/
def State.bankLoad (s : State) (b : Nat) : Nat :=
  (s.vlv.evs.filter (fun e => decide (e.ch / 4 = b))).length +
  ((bankChannels b).filter (fun c => match (s.valve c).pulse with
    | some p => p.timed
    | none => false)).length

/-- Whether the on-interval of `e` overlaps an accepted timed event of its channel. -/
def State.channelBusy (s : State) (e : ValveEvent) : Bool :=
  let span := s.eventSpan e
  (s.vlv.evs.filter (fun x => decide (x.ch = e.ch))).any (fun x => overlap x.t (s.eventSpan x).2 span.1 span.2) ||
  (match (s.valve e.ch).pulse with
    | some p => p.timed && overlap (s.valve e.ch).ton (some p.stop) span.1 span.2
    | none => false)

/-- A timed event checked in the order of R320 and accepted; status, ESTAT and lateness of its completion. -/
def State.valveAccept (s : State) (d : Desc) (e : ValveEvent) : State × Result × Nat :=
  if e.t < d.started + 20000 then (s.inc F.VLV_LATECNT_CNT, { status := 4 }, d.started - e.t)
  else if s.rd (F.VLV_CHn_CTL_SRC e.ch) ≠ 2 then (s, { status := 0x40 }, 0)
  else if s.channelBusy e then (s, { status := 0x45, estat := e.ch }, 0)
  else
    let peak := if e.on ∧ s.prop e.ch = false then s.peakConflict e.ch e.t else none
    match peak with
    | some c => (s.inc F.VLV_CONFCNT_REFUSE, { status := 0x41, estat := c }, 0)
    | none =>
      if e.on ∧ s.timedOk e = false then
        (s.inc F.VLV_CONFCNT_REFUSE).bankLimit e.ch ((s.bankOn e.ch ++ (s.overlapping e).map (fun x => x.ch)).eraseDups)
      else if 16 ≤ s.bankLoad (e.ch / 4) then (s, { status := 0x44 }, 0)
      else ({ s with vlv := { s.vlv with evs := s.vlv.evs ++ [e] } }, {}, 0)

/-- An untimed PULSE or SET taken. -/
def State.valveUntimed (s : State) (e : ValveEvent) : State × Result × Nat :=
  let n := e.ch
  if s.rd (F.VLV_CHn_CTL_SRC n) ≠ 2 then (s, { status := 0x40 }, 0)
  else
    let s := if e.on then s else s.pulseDone n 0
    let r := s.valveCommand n e.on (if e.on then Frac.ofInt e.ma else Frac.ofInt 0)
    if r.2 = false then
      r.1.bankLimit n ((s.bankOn n ++ (s.bankEvents n).map (fun x => x.ch)).eraseDups)
    else
      match e.stop with
      | some stop =>
        let t := r.1.pulseDone n 0
        (t.setValve n { t.valve n with pulse := some ⟨stop, stop - s.now, e.tag, e.report, false⟩ }, {}, 0)
      | none =>
        if e.on ∧ e.report ∧ (r.1.vOn n 1 = true ∨ r.1.vOn n 11 = true) then
          (r.1.setValve n { r.1.valve n with rep := some e.tag }, {}, 0)
        else (r.1, {}, 0)

/-- The meaning of PULSE and SET. -/
def State.valveServe (s : State) (q op : Nat) (pulse : Bool) : State :=
  s.serveAt q op (fun d t => match t.valveDesc d pulse with
    | none => (t, { status := 2 }, 0)
    | some e => if d.tmode = 1 then t.valveAccept d e else t.valveUntimed e)

/-- VLV_PULSE. -/
def execVlvPulse (q : Nat) (s : State) : Host.Outcome State Fault Refusal :=
  .next (if 32 ≤ q ∧ q < 40 then s.valveServe q 1 true else s)

/-- VLV_SET. -/
def execVlvSet (q : Nat) (s : State) : Host.Outcome State Fault Refusal :=
  .next (if 32 ≤ q ∧ q < 40 then s.valveServe q 2 false else s)

/-- CANCEL of the events of channel `n` with TAG `tag`: removed, a running pulse with that TAG is cut. -/
def State.valveCancel (s : State) (n tag : Nat) : State × Nat :=
  let gone := s.vlv.evs.filter (fun e => decide (e.ch = n) && decide (e.tag = tag))
  let t := { s with vlv := { s.vlv with evs := s.vlv.evs.filter (fun e => !(decide (e.ch = n) && decide (e.tag = tag))) } }
  let t := match (t.valve n).pulse with
    | some p => if p.tag = tag then (t.valveCut n).valveOff n else t
    | none => t
  (t.grantPeak (n / 4), gone.length)

/-- VLV_CANCEL. -/
def execVlvCancel (q : Nat) (s : State) : Host.Outcome State Fault Refusal :=
  .next (if 32 ≤ q ∧ q < 40 then
    s.serve q 3 (fun d t =>
      if t.code.valves ≤ d.le 16 1 ∨ d.tmode ≠ 0 then (t, { status := 2 })
      else
        let r := t.valveCancel (d.le 16 1) (d.le 20 2)
        (r.1, { bytes := resultOf [(24, 4, r.2)] }))
  else s)

/-- The timed event `e` of channel `n` is blocked: a BLOCKED event and, where it reports, an actuation entry whose TON, and for a pulse
TOFF, is free. -/
def State.blockedEvent (s : State) (n : Nat) (e : ValveEvent) : State :=
  let t := s.vlvEntry 7 n none
  if e.report = false then t
  else if e.stop = none then (t.actuation n e.tag 16 t.freshNat 0).tickFree
  else (t.actuation n e.tag 16 t.freshNat t.tickFree.freshNat).tickFree.tickFree

/-- A timed event at its time: blocked under R321, else the output changes; a SET leaves its command state in either case
(notes/assumptions/34.md). -/
def State.fireEvent (s : State) (e : ValveEvent) : State :=
  let n := e.ch
  let s := { s with vlv := { s.vlv with evs := dropFirst s.vlv.evs } }
  let blocked := s.vCan n = false ∨ s.vOn n 5 = true
  let s := if blocked then s.blockedEvent n e else s
  if e.on = false then
    let t := s.pulseDone n 0
    ((t.setValve n { t.valve n with ma := Frac.ofInt 0 }).vSet n 15 false).valveOff n
  else if blocked then
    let t := if e.stop = none then
        (s.setValve n { s.valve n with ma := if s.prop n then Frac.ofInt e.ma else (s.valve n).ma }).vSet n 15 true
      else s
    t.grantPeak (n / 4)
  else
    let x := s.valve n
    let t := (s.setValve n { x with ma := if s.prop n then Frac.ofInt e.ma else x.ma }).vSet n 15 true
    let t := if t.vOn n 11 then t.undefer n else t
    let t :=
      if t.vWants n = false then t.valveOff n
      else if t.vOn n 0 then t.valveResume n
      else t.valveStart n
    match e.stop with
    | some stop => t.setValve n { t.valve n with pulse := some ⟨stop, stop - e.t, e.tag, e.report, true⟩ }
    | none => if e.report ∧ t.vOn n 1 then t.setValve n { t.valve n with rep := some e.tag } else t
where
  /-- The accepted events without `e`. -/
  dropFirst (l : List ValveEvent) : List ValveEvent :=
    match l with
    | [] => []
    | x :: r => if x = e then r else x :: dropFirst r

/-- The running pulse of channel `n` turns it off at its end and is reported. -/
def State.pulseOff (s : State) (n : Nat) : State :=
  let x := s.valve n
  match x.pulse with
  | none => s
  | some _ =>
    let t := s.pulseDone n 0
    ((t.setValve n { t.valve n with ma := if s.prop n then Frac.ofInt 0 else x.ma }).vSet n 15 false).valveOff n

/-- The due event of bank `b` with the earliest time; at one time a turn-off goes first (R316). -/
def State.nextEvent (s : State) (b : Nat) : Option ValveEvent :=
  (s.vlv.evs.filter (fun e => decide (e.ch / 4 = b) && decide (e.t ≤ s.now))).foldl (fun o e =>
    match o with
    | none => some e
    | some x => if e.t < x.t ∨ (e.t = x.t ∧ e.on = false ∧ x.on = true) then some e else some x) none

/-- TIMED_VALVE_EVENT: in bank `b` the timed pulses whose end has come turn off, and the earliest due event takes place. -/
def execTimedValveEvent (b : Nat) (s : State) : Host.Outcome State Fault Refusal :=
  .next (
    if s.bedOn = false ∨ s.code.valves ≤ 4 * b then s
    else
      let t := (bankChannels b).foldl (fun x c => match (x.valve c).pulse with
        | some p => if p.timed ∧ p.stop ≤ s.now then x.pulseOff c else x
        | none => x) s
      match t.nextEvent b with
      | some e => t.fireEvent e
      | none => t)

/-! ### Enabling, disabling and register writes (R322, R330) -/

/-- Channel `n` has been disabled: its accepted events are discarded, a running pulse is cut, it turns off, and its command state ends. -/
def State.valveDisable (s : State) (n : Nat) : State :=
  let gone := (s.vlv.evs.filter (fun e => decide (e.ch = n))).length
  let t := { s with vlv := { s.vlv with evs := s.vlv.evs.filter (fun e => e.ch ≠ n) } }
  let t := if gone = 0 then t else t.vlvEntry 7 n (some gone)
  let t := ((t.valveCut n).vSet n 15 false).mapBit Reg.VLV_ENMAP_LO n false
  (t.setValve n { t.valve n with ma := Frac.ofInt 0 }).valveOff n

/-- Channel `n` has been enabled; under SRC 3 its register is its command. -/
def State.valveEnable (s : State) (n : Nat) : State :=
  let t := s.mapBit Reg.VLV_ENMAP_LO n true
  if t.rd (F.VLV_CHn_CTL_SRC n) = 3 then
    ((t.setValve n { t.valve n with ma := Frac.ofInt (t.rd (F.VLV_CHn_CMD_MA n)) }).vSet n 15 (t.on (F.VLV_CHn_CMD_ON n))).valveResume n
  else t.valveResume n

/-- A write of VLV_CHn_CTL. -/
def State.valveCtlWrite (s : State) (n : Nat) (v : W32) : State :=
  let key := Reg.VLV_CHn_CTL n
  let en := s.on (F.VLV_CHn_CTL_EN n)
  if listedAt key v = false then s.vlvReject n 2
  else if en ∧ (getBits v 30 30 ≠ s.rd (F.VLV_CHn_CTL_MODE n) ∨ getBits v 29 28 ≠ s.rd (F.VLV_CHn_CTL_SRC n)) then s.vlvReject n 1
  else
    let t := s.applyWrite key v
    if en ∧ getBits v 31 31 = 0 then t.valveDisable n
    else if en = false ∧ getBits v 31 31 = 1 then t.valveEnable n
    else t

/-- Why a write of a set-up register of channel `n` at register offset `r` is refused: 1 ENABLED, 2 RANGE; 0 where it is not. -/
def State.valveCause (s : State) (n r : Nat) (v : W32) : Nat :=
  let en := s.on (F.VLV_CHn_CTL_EN n)
  if listedAt (0xB400 + 0x40 * n + r) v = false then 2
  else if r = 0x04 then
    if en then 1
    else if getBits v 15 0 < s.rd (F.VLV_CHn_HOLD_IHOLD n) ∨ getBits v 31 16 < s.rd (F.VLV_CHn_DIP_END n) * 10 then 2 else 0
  else if r = 0x08 then
    if en ∧ getBits v 31 16 ≠ s.rd (F.VLV_CHn_HOLD_IMAX n) then 1
    else if s.rd (F.VLV_CHn_PEAK_IPEAK n) < getBits v 15 0 then 2 else 0
  else if r = 0x10 then
    if getBits v 21 12 ≤ getBits v 31 22 ∨ s.rd (F.VLV_CHn_PEAK_TPEAK n) < getBits v 21 12 * 10 then 2 else 0
  else 0

/-- A write of a set-up register of channel `n`. -/
def State.valveSetWrite (s : State) (n r : Nat) (v : W32) : State :=
  let cause := s.valveCause n r v
  if cause ≠ 0 then s.vlvReject n cause
  else
    let t := s.applyWrite (0xB400 + 0x40 * n + r) v
    if r = 0x08 ∧ t.vOn n 2 = true then t.setValve n { t.valve n with lvl := getBits v 15 0 }
    else if r = 0x14 ∧ getBits v 31 31 = 0 ∧ t.vOn n 5 = true then t.dutyEnd n
    else if r = 0x14 ∧ t.vOn n 5 = true ∧ t.on (F.VLV_CHn_DUTY_ACT n) = true then (t.valveCut n).valveOff n
    else t

/-- A write to the VLV block, but for the command registers and RESUME. -/
def State.vlvWrite (s : State) (off : Nat) (v : W32) : State :=
  if 0x400 ≤ off then
    let n := (off - 0x400) / 0x40
    let r := off % 0x40
    if r = 0 then s.valveCtlWrite n v else if r ≤ 0x14 then s.valveSetWrite n r v else s.plainWrite (0xB000 + off) v
  else if off = 0x028 then s.fltmapWrite 0 v
  else if off = 0x02C then s.fltmapWrite 1 v
  else if 0x080 ≤ off ∧ off < 0x0E0 ∧ off % 8 = 0 then
    if bitAt v.toNat 30 then s.bankClear ((off - 0x080) / 8) else s
  else if listedAt (0xB000 + off) v = false then s.vlvReject 0 2
  else s.applyWrite (0xB000 + off) v

/-- What a register parity fault in VLV does beside the common effects: channel `n` turns off with EN = 0. -/
def State.vlvParity (s : State) (off : Nat) : State :=
  if 0x400 ≤ off then
    let n := (off - 0x400) / 0x40
    ((s.wr (F.VLV_CHn_CTL_EN n) 0).reparity (Reg.VLV_CHn_CTL n)).valveDisable n
  else s

end Sys2Proof.Machine
end

