-- ==== Sys2Proof/Machine/Switches.lean ====
section
/-! DEFINITION. The protected load switches (R331-R341, R347-R350): command state, budget and shedding, protection, wire heating and
open-load detection. -/

namespace Sys2Proof.Machine

/-! ### State access -/

/-- Whether the ordering code carries load-switch channel `n` (R331). -/
def State.lswCarried (s : State) (n : Nat) : Bool := decide (n < 64) && !absentReg s.code 0x0C (0x100 + 0x10 * n)

/-- A channel. -/
def State.sw (s : State) (n : Nat) : Switch := SMap.get (fun _ => {}) s.lsw.chs n

/-- A channel set. -/
def State.setSw (s : State) (n : Nat) (x : Switch) : State :=
  { s with lsw := { s.lsw with chs := SMap.set (fun _ => {}) s.lsw.chs n x } }

/-- A pin group. -/
def State.grp (s : State) (g : Nat) : PinGroup := SMap.get (fun _ => {}) s.lsw.grps g

/-- A pin group set. -/
def State.setGrp (s : State) (g : Nat) (x : PinGroup) : State :=
  { s with lsw := { s.lsw with grps := SMap.set (fun _ => {}) s.lsw.grps g x } }

/-- Bit `b` of LSW_CHn_STAT.FLAGS (R350). -/
def lswFlag (n b : Nat) : Fld := ⟨Reg.LSW_CHn_STAT n, b, b⟩

/-- Whether flag `b` of channel `n` is 1: 0 ON, 1 CMD, 2 PERMIT, 3 NOBUD, 4 SHED, 5 OVERCUR, 6 OTEMP, 7 WIRETRIP, 8 OPENOFF,
9 OPENON, 10 LIMITING, 11 CLAMP, 12 FSAFE, 13 WEARSAT. -/
def State.lOn (s : State) (n b : Nat) : Bool := s.on (lswFlag n b)

/-- A flag of channel `n` set or cleared. -/
def State.lSet (s : State) (n b : Nat) (v : Bool) : State := s.wrB (lswFlag n b) v

/-- Whether channel `n` is a PWM channel. -/
def State.pwm (s : State) (n : Nat) : Bool := s.on (F.LSW_CHn_CTL_MODE n)

/-- The pin group of channel `n` (R332). -/
def groupOf (n : Nat) : Nat := if n < 16 then n / 4 else if n < 48 then (n - 16) / 8 else (n - 48) / 4

/-- The channels of group `g`, ascending. -/
def groupChannels (g : Nat) : List Nat :=
  (List.range 4).map (fun i => 4 * g + i) ++ (List.range 8).map (fun i => 16 + 8 * g + i) ++ (List.range 4).map (fun i => 48 + 4 * g + i)

/-- The current limit of a channel's class in mA (R331). -/
def classLimit (n : Nat) : Nat := if lswClass n = 0 then 40000 else if lswClass n = 1 then 20000 else 8000

/-- The rating of a channel's class in mA. -/
def classRating (n : Nat) : Nat := if lswClass n = 0 then 10000 else if lswClass n = 1 then 5000 else 2000

/-! ### Events and refusals (R349, R350) -/

/-- The result bytes of an event entry; where the spec gives the detail no value it is free. -/
def State.lswResult (s : State) (subject : Nat) (detail : Option Nat) : Bytes :=
  resultOf [(24, 1, subject), (28, 8, s.now), (36, 4, detail.getD s.freshNat)]

/-- An event entry on rings 44 and 45. -/
def State.lswEntry (s : State) (tag subject : Nat) (detail : Option Nat) : State :=
  let r := s.lswResult subject detail
  let t := (((s.eventEntry 44 0x80 tag 0 r true).1).eventEntry 45 0x80 tag 0 r true).1
  if detail = none then t.tickFree else t

/-- An event entry on rings 44 and 45 that is also recorded. -/
def State.lswEvent (s : State) (tag subject sev : Nat) (detail : Option Nat) : State :=
  let r := s.lswResult subject detail
  (s.lswEntry tag subject detail).record 0x0C tag sev (leAt r 0 1) (leAt r 12 4) (leAt r 1 3)

/-- A configuration write refused. -/
def State.lswReject (s : State) (n cause : Nat) : State :=
  ((s.wr F.LSW_BADCFG_CAUSE cause).wr F.LSW_BADCFG_CH n).flag F.LSW_STAT_CFGREJ F.LSW_CTL_IE_CFG

/-! ### Budget and drive (R334, R335) -/

/-- A duty as it is applied, in 1/1,024, with CLAMP: values above 1 as 1, below 0 as 0. -/
def dutySteps (d : Frac) : Nat × Bool :=
  if d.num < 0 then (0, true)
  else if (Frac.ofInt 1).lt d then (1024, true)
  else ((rhe (d.num * 1024) d.den).toNat, false)

/-- The budgets counted in group `g`, in mA. -/
def State.budSum (s : State) (g : Nat) : Nat :=
  (((groupChannels g).filter (fun c => s.lOn c 0)).map (fun c => s.rd (F.LSW_CHn_LIM_BUD c) * 10)).foldl (fun a b => a + b) 0

/-- BUDSUM brought up to date. -/
def State.budReg (s : State) (g : Nat) : State := s.wrSat (F.LSW_GRPg_STAT_BUDSUM g) (s.budSum g)

/-- Whether channel `n` may be driven. -/
def State.lCan (s : State) (n : Nat) : Bool :=
  s.lswCarried n && s.on (F.LSW_CHn_CTL_EN n) && s.lOn n 2 && !s.lOn n 4 && !s.lOn n 5 && !s.lOn n 6 && !s.lOn n 7 && !s.lOn n 12

/-- Whether the command state of channel `n` asks for a drive: on, and a PWM duty above 0. -/
def State.lWants (s : State) (n : Nat) : Bool := s.lOn n 1 && (!s.pwm n || decide ((dutySteps (s.sw n).duty).1 ≠ 0))

/-- CLAMP of channel `n` from its commanded duty. -/
def State.lClamp (s : State) (n : Nat) : State := s.lSet n 11 (s.pwm n && s.lOn n 1 && (dutySteps (s.sw n).duty).2)

/-- The open-load map of channel `n` brought up to date (R340). -/
def State.olMap (s : State) (n : Nat) : State := s.mapBit Reg.LSW_OLMAP_LO n (s.lOn n 8 || s.lOn n 9)

/-- The period of a pulse generator that runs at `f` Hz, in ns (R334). -/
def pwmPeriod (f : Nat) : Nat := 1000000000 / f / 8 * 8

/-- The FREQ generator `k` runs at: a change waits for the start of its next period. -/
def State.genFreq (s : State) (k : Nat) : Nat :=
  let g := SMap.get (fun _ => (0xC8, 0)) s.lsw.gens k
  if g.2 / pwmPeriod g.1 < s.now / pwmPeriod g.1 then s.rd (F.LSW_GENk_FREQ k) else g.1

/-- The period of channel `n` and the delay of its start, PHASE / 64 of it. -/
def State.pwmPlace (s : State) (n : Nat) : Nat × Nat :=
  let p := pwmPeriod (s.genFreq (s.rd (F.LSW_CHn_CTL_GEN n)))
  (p, s.rd (F.LSW_CHn_CTL_PHASE n) * p / 64)

/-- The duty channel `n` runs at: a change waits for the start of the channel's next period. -/
def State.dutyNow (s : State) (n : Nat) : Frac :=
  let x := s.sw n
  let p := s.pwmPlace n
  if (x.changed + p.1 - p.2) / p.1 < (s.now + p.1 - p.2) / p.1 then x.duty else x.was

/-- The on-time in a period of `p` ns of a duty of `steps` / 1,024: at least 20 µs, and no off-time shorter than that. -/
def onTime (p steps : Nat) : Nat :=
  let t := steps * p / 1024
  if steps = 0 then 0 else if t < 20000 then min p 20000 else if p - t < 20000 then p else t

/-- Whether the output of channel `n` stands high now, outside a fail-safe state (R334). -/
def State.lswHigh (s : State) (n : Nat) : Bool :=
  let p := s.pwmPlace n
  s.lOn n 0 && !s.lOn n 12 && (!s.pwm n || decide ((s.now + p.1 - p.2) % p.1 < onTime p.1 (dutySteps (s.dutyNow n)).1))

/-- Channel `n` turns on: OPENOFF clears, and a pulse that has not started lasts from here. -/
def State.lswStart (s : State) (n : Nat) : State :=
  let t := (((s.lSet n 0 true).lSet n 3 false).lSet n 8 false).olMap n
  let x := t.sw n
  (t.setSw n { x with ton := s.now, was := ⟨0, 1⟩, changed := s.now,
                      pulse := x.pulse.map (fun p => { p with stop := some (p.stop.getD (s.now + p.dur)) }) }).budReg (groupOf n)

/-- Whether channel `n` is on because its Shears drives its fail-safe state (R342); its protection turns it off there too. -/
def State.lswSafeOn (s : State) (n : Nat) : Bool :=
  s.lOn n 12 && !s.lOn n 5 && !s.lOn n 6 && !s.lOn n 7 && decide (s.fsApplied (48 + n) / 2 ^ 30 ≠ 0)

/-- Channel `n` turns off, but for a fail-safe state; nothing is admitted yet. -/
def State.lswStop (s : State) (n : Nat) : State :=
  if s.lOn n 0 then
    let t := ((s.lSet n 0 (s.lswSafeOn n)).lSet n 3 false).lSet n 10 false
    (t.setSw n { t.sw n with offSince := s.now, limSince := none }).budReg (groupOf n)
  else s.lSet n 3 false

/-- Whether the budget of channel `n` fits its group. -/
def State.budFits (s : State) (n : Nat) : Bool :=
  decide (s.budSum (groupOf n) + s.rd (F.LSW_CHn_LIM_BUD n) * 10 ≤ s.rd (F.LSW_GRPg_STAT_LIM (groupOf n)))

/-- The held channels of a group admitted in ascending order, each only if it fits (R335), unless a shed holds them back (R336). -/
def State.admitHeld (s : State) (g : Nat) : State :=
  if (s.grp g).blocked then s
  else
    ((groupChannels g).filter (fun c => s.lOn c 3)).foldl (fun x c =>
      if x.lCan c ∧ x.lWants c ∧ x.budFits c then x.lswStart c else x) s

/-- Channel `n` turns off, and its group admits held channels. -/
def State.lswOff (s : State) (n : Nat) : State := if s.lOn n 0 then (s.lswStop n).admitHeld (groupOf n) else s.lswStop n

/-- Channel `n` is brought to its command state. -/
def State.lswFollow (s : State) (n : Nat) : State :=
  let s := s.lClamp n
  if (s.lCan n && s.lWants n) = false then s.lswOff n
  else if s.lOn n 0 then s
  else if s.lOn n 3 then s.admitHeld (groupOf n)
  else if s.budFits n then s.lswStart n
  else (s.lSet n 3 true).inc F.LSW_CONFCNT_HELD

/-- An untimed command to channel `n`. -/
def State.lswCommand (s : State) (n : Nat) (on : Bool) (duty : Frac) : State :=
  let x := s.sw n
  let x := if x.duty = duty then x else { x with duty := duty, was := s.dutyNow n, changed := s.now }
  ((s.setSw n x).lSet n 1 on).lswFollow n

/-! ### Sources of commands (R333) -/

/-- A command refused. -/
def State.lswRefused (s : State) : State := s.inc F.LSW_CONFCNT_REFUSED

/-- A Furrow release of kind LSWPERM. -/
def State.lswPermit (s : State) (n : Nat) (v : Bool) : State :=
  if s.lOn n 2 = v then s else (s.lSet n 2 v).lswFollow n

/-- A Furrow release of kind LSWON with the duty of the channel's LSWDUTY entry, if it has one; the second component is false where the
channel refuses it. -/
def State.lswRelease (s : State) (n : Nat) (v : Bool) (duty : Option Frac) : State × Bool :=
  if s.lswCarried n = false ∨ s.rd (F.LSW_CHn_CTL_SRC n) ≠ 0 then (s.lswRefused, false)
  else (s.lswCommand n v (if s.pwm n then duty.getD (Frac.ofInt 1) else Frac.ofInt 1), true)

/-- A Furrow release of kind LSWDUTY is refused where the channel's source is not Furrow or the channel is no PWM channel. -/
def State.lswDutyOk (s : State) (n : Nat) : Bool := s.lswCarried n && decide (s.rd (F.LSW_CHn_CTL_SRC n) = 0) && s.pwm n

/-- A Trellis duty: the channel is on while it is above 0. -/
def State.lswValue (s : State) (n : Nat) (u : Frac) : State × Bool :=
  if s.lswCarried n = false ∨ s.rd (F.LSW_CHn_CTL_SRC n) ≠ 1 ∨ s.pwm n = false then (s.lswRefused, false)
  else (s.lswCommand n (decide (0 < u.num)) u, true)

/-- A write of LSW_CHn_CMD: taken from the carrying Dale where SRC is 3. -/
def State.lswCmdWrite (s : State) (a : Agent) (n : Nat) (v : W32) : State :=
  if s.rd (F.LSW_CHn_CTL_SRC n) ≠ 3 ∨ s.carrier ≠ some a then s.lswRefused.lswReject n 3
  else if listedAt (Reg.LSW_CHn_CMD n) v = false then s.lswReject n 2
  else (s.applyWrite (Reg.LSW_CHn_CMD n) v).lswCommand n (bitAt v.toNat 31)
    (if s.pwm n then ⟨getBits v 10 0, 1024⟩ else Frac.ofInt 1)

/-- LSW_UNTIMED_COMMAND: a write of LSW_CHn_CMD; the other sources command within their own steps. -/
def execLswUntimedCommand (agent : Agent) (n : Nat) (value : W32) (s : State) : Host.Outcome State Fault Refusal :=
  .next (if n < 64 then s.gate agent 0x0C (0x108 + 0x10 * n) (fun t => t.lswCmdWrite agent n value) else s.fail)

/-! ### Shedding (R336) -/

/-- The channel a group sheds: the lowest SHED among the channels on, the highest number among equals; SHED 7 never, and no channel in
a fail-safe state (R342). -/
def State.shedChoice (s : State) (g : Nat) : Option Nat :=
  ((groupChannels g).filter (fun c => s.lOn c 0 && !s.lOn c 12 && decide (s.rd (F.LSW_CHn_CTL_SHED c) ≠ 7))).foldl (fun o c =>
    match o with
    | none => some c
    | some b => if s.rd (F.LSW_CHn_CTL_SHED c) ≤ s.rd (F.LSW_CHn_CTL_SHED b) then some c else some b) none

/-- A channel shed. -/
def State.shed (s : State) (n mean : Nat) : State :=
  let g := groupOf n
  let t := (s.setGrp g { s.grp g with blocked := true, okSince := none }).lswStop n
  let t := ((t.lSet n 4 true).mapBit Reg.LSW_SHEDMAP_LO n true).inc F.LSW_SHEDCNT_CNT
  (t.flag F.LSW_STAT_SHED F.LSW_CTL_IE_SHED).lswEntry 5 n (some mean)

/-- One group's evaluation with its 100 ms mean in mA. -/
def State.evalGroup (s : State) (g mean : Nat) : State :=
  let lim := s.rd (F.LSW_GRPg_STAT_LIM g)
  let t := s.measured (F.LSW_GRPg_CUR_AVG g) (F.LSW_GRPg_CUR_PEAK g) mean
  let x := t.grp g
  let ok : Option Nat := if mean ≤ lim then some (x.okSince.getD s.now) else none
  let t := t.setGrp g { x with okSince := ok, told := x.told && decide (lim + 3000 < mean) }
  let t :=
    if lim + 3000 < mean then
      match t.shedChoice g with
      | some n => t.shed n mean
      | none =>
        if (t.grp g).told then t
        else ((t.setGrp g { t.grp g with told := true }).flag F.LSW_STAT_GRPOVER F.LSW_CTL_IE_GRP).lswEvent 6 g sevFault (some mean)
    else t
  let y := t.grp g
  match y.okSince with
  | some since =>
    if y.blocked ∧ since + 1000000000 ≤ s.now then (t.setGrp g { y with blocked := false }).admitHeld g else t
  | none => t

/-- SHED_EVALUATION, every 10 ms: the means of the four groups over the last 100 ms, in mA. -/
def execShedEvaluation (means : List Nat) (s : State) : Host.Outcome State Fault Refusal :=
  .next (
    if s.bedOn = true ∧ s.lsw.lastShed + 10000000 ≤ s.now then
      let t := { s with lsw := { s.lsw with lastShed := s.now } }
      let t := (List.range 4).foldl (fun x g => x.evalGroup g (means.getD g 0)) t
      t.measured F.LSW_TOTAL_AVG F.LSW_TOTAL_PEAK (((means.take 4).foldl (fun a b => a + b) 0) / 100)
    else s)

/-- A write of LSW_SHEDMAP_LO (`hi` 0) or _HI: each channel written 1 follows its command state. -/
def State.shedmapWrite (s : State) (hi : Nat) (v : W32) : State :=
  (List.range 32).foldl (fun x i =>
    let n := 32 * hi + i
    if bitAt v.toNat i ∧ x.mapOn Reg.LSW_SHEDMAP_LO n then ((x.mapBit Reg.LSW_SHEDMAP_LO n false).lSet n 4 false).lswFollow n else x) s

/-- SHED_CLEAR. -/
def execShedClear (agent : Agent) (hi : Bool) (value : W32) (s : State) : Host.Outcome State Fault Refusal :=
  let k := if hi then 1 else 0
  .next (s.gate agent 0x0C (0x038 + 4 * k) (fun t => t.shedmapWrite k value))

/-! ### Protection and wire heating (R337, R338, R341) -/

/-- A channel turned off by its Shears: flag 5 OVERCUR, 6 OTEMP, 7 WIRETRIP. -/
def State.lswFault (s : State) (n flag : Nat) (detail : Option Nat) : State :=
  let t := ((s.lSet n flag true).mapBit Reg.LSW_FLTMAP_LO n true).lswOff n
  let t := if flag = 7 then t.inc F.LSW_TRIPCNT_CNT else t
  (t.flag F.LSW_STAT_CHFLT F.LSW_CTL_IE_CHFLT).lswEvent (flag - 4) n sevFault detail

/-- The heating estimate of channel `n` in mA². -/
def State.heat (s : State) (n : Nat) : Frac := SMap.get (fun _ => ⟨0, 1⟩) s.outs.heat n

/-- IWIRE² of channel `n` in mA². -/
def State.wireLimit (s : State) (n : Nat) : Frac := Frac.ofInt (((20 * s.rd (F.LSW_CHn_LIM_IWIRE n)) ^ 2 : Nat) : Int)

/-- WIRETRIP raised where S has reached IWIRE². -/
def State.wireTrip (s : State) (n : Nat) : State :=
  if (s.wireLimit n).le (s.heat n) ∧ s.lOn n 7 = false ∧ s.lswCarried n = true then
    s.lswFault n 7 (some ((s.heat n).mul ⟨1, 10000⟩).floor.toNat)
  else s

/-- The energy counter of channel `n`, in nJ: the Root value plus the uncommitted count. -/
def State.lswWear (s : State) (n : Nat) : Nat := SMap.get (fun _ => 0) s.outs.wear (48 + n) + (s.sw n).energy

/-- The last value of an energy counter, in nJ. -/
def energyTop : Nat := wearTop * 1000000000

/-- `nj` of energy delivered by channel `n` (R341). -/
def State.lswEnergy (s : State) (n nj : Nat) : State :=
  if energyTop ≤ s.lswWear n then s
  else
    let t := s.setSw n { s.sw n with energy := (s.sw n).energy + min nj (energyTop - s.lswWear n) }
    if energyTop ≤ t.lswWear n then
      ((t.lSet n 13 true).flag F.LSW_STAT_WEARSAT F.LSW_CTL_IE_GRP).lswEvent 8 n sevWarning none
    else t

/-- One channel's millisecond with mean current `ma` and output voltage `mv`. -/
def State.heatStep (s : State) (n ma mv : Nat) : State :=
  let h := s.heat n
  let tau := s.rd (F.LSW_CHn_CTL_TAU n)
  let h2 := h.add (((Frac.ofInt ((ma ^ 2 : Nat) : Int)).sub h).mul ⟨1, 1000 * tau⟩)
  let t := { s with outs := { s.outs with heat := SMap.set (fun _ => ⟨0, 1⟩) s.outs.heat n h2 } }
  if s.bedOn = false then t
  else
    let lim := decide (classLimit n ≤ ma) && t.lOn n 0
    let t := ((t.wrSat (F.LSW_CHn_STAT_MA n) ma).lSet n 10 lim).setSw n
      { t.sw n with limSince := if lim then some ((t.sw n).limSince.getD s.now) else none }
    (t.lswEnergy n (ma * mv)).wireTrip n

/-- WIRE_HEAT_UPDATE, every 1 ms: for each channel its number, mean current in mA and output voltage in mV over that millisecond (0
where not listed), and the load supply voltage in mV. -/
def execWireHeatUpdate (meas : List (Nat × Nat × Nat)) (busv : Nat) (s : State) : Host.Outcome State Fault Refusal :=
  .next (
    if s.bedOn = true ∧ s.now < s.lsw.lastHeat + 1000000 then s
    else
      let t := { s with lsw := { s.lsw with lastHeat := s.now } }
      let t := ((List.range 64).filter (fun n => s.lswCarried n)).foldl (fun x n =>
        match meas.find? (fun m => decide (m.1 = n)) with
        | some m => x.heatStep n m.2.1 m.2.2
        | none => x.heatStep n 0 0) t
      if s.bedOn then (t.wrSat F.LSW_BUSV_MV busv).wr F.LSW_BUSV_LOW (min (t.rd F.LSW_BUSV_LOW) busv) else t)

/-- LSW_CHANNEL_FAULT: 0 OVERCUR of a channel in current limit for TLIM ms, 1 OTEMP, 2 WIRETRIP of one whose S has reached IWIRE². -/
def execLswChannelFault (n kind : Nat) (s : State) : Host.Outcome State Fault Refusal :=
  .next (
    if s.bedOn = false ∨ s.lswCarried n = false then s
    else if kind = 0 then
      match (s.sw n).limSince with
      | some t0 => if t0 + s.rd (F.LSW_CHn_CTL_TLIM n) * 1000000 ≤ s.now then s.lswFault n 5 none else s
      | none => s
    else if kind = 1 then (s.setSw n { s.sw n with hot := true }).lswFault n 6 none
    else if kind = 2 then s.wireTrip n
    else s)

/-- Whether software may clear the faults of channel `n` now (R337). -/
def State.clearable (s : State) (n : Nat) : Bool :=
  (!s.lOn n 6 || !(s.sw n).hot) && (!s.lOn n 7 || ((s.heat n).mul ⟨2, 1⟩).le (s.wireLimit n))

/-- A write of LSW_FLTMAP_LO (`hi` 0) or _HI. -/
def State.lswFltmapWrite (s : State) (hi : Nat) (v : W32) : State :=
  (List.range 32).foldl (fun x i =>
    let n := 32 * hi + i
    if bitAt v.toNat i ∧ x.mapOn Reg.LSW_FLTMAP_LO n ∧ x.clearable n then
      ((((x.mapBit Reg.LSW_FLTMAP_LO n false).lSet n 5 false).lSet n 6 false).lSet n 7 false).lswFollow n
    else x) s

/-- LSW_FAULT_CLEAR. -/
def execLswFaultClear (agent : Agent) (hi : Bool) (value : W32) (s : State) : Host.Outcome State Fault Refusal :=
  let k := if hi then 1 else 0
  .next (s.gate agent 0x0C (0x028 + 4 * k) (fun t => t.lswFltmapWrite k value))

/-! ### Open load (R339, R340) -/

/-- The first detection of an open load, flag 8 OPENOFF or 9 OPENON. -/
def State.openLoad (s : State) (n flag : Nat) : State :=
  if s.lOn n flag then s
  else
    ((((s.lSet n flag true).olMap n).inc F.LSW_OLCNT_CNT).flag F.LSW_STAT_OPENLOAD F.LSW_CTL_IE_OL).lswEntry 4 n none

/-- OPEN_LOAD_OFF: the output has stood above 3.0 V (`high`) or below it for 5 ms. -/
def execOpenLoadOff (n : Nat) (high : Bool) (s : State) : Host.Outcome State Fault Refusal :=
  .next (
    if s.bedOn = false ∨ s.lswCarried n = false ∨ s.lOn n 0 = true then s
    else if high then
      if s.on (F.LSW_CHn_CTL_PUEN n) = true ∧ (s.sw n).offSince + 15000000 ≤ s.now then s.openLoad n 8 else s
    else (s.lSet n 8 false).olMap n)

/-- OPEN_LOAD_ON: over 100 ms of on-time the mean current was below OLTHR (`low`) or above it. -/
def execOpenLoadOn (n : Nat) (low : Bool) (s : State) : Host.Outcome State Fault Refusal :=
  .next (
    if s.bedOn = false ∨ s.lswCarried n = false ∨ s.lOn n 0 = false ∨ s.on (F.LSW_CHn_CTL_ONOL n) = false ∨
        s.now < (s.sw n).ton + 100000000 then s
    else if low then s.openLoad n 9
    else (s.lSet n 9 false).olMap n)

/-! ### Descriptors (R347, R348) -/

/-- The channel of a PULSE or SET descriptor and the duty it gives; none where the payload breaks its opcode's rules. -/
def State.lswDesc (s : State) (d : Desc) (pulse : Bool) : Option (Nat × Frac) :=
  let n := d.le 16 1
  let dur := d.le 24 4
  let duty := d.le 28 2
  if s.lswCarried n = false ∨ 1024 < duty ∨ (duty ≠ 0 ∧ s.pwm n = false) ∨ (pulse = true ∧ (dur < 100 ∨ 4000000000 < dur)) ∨
      (pulse = false ∧ 1 < d.le 17 1) then none
  else some (n, if s.pwm n then ⟨duty, 1024⟩ else Frac.ofInt 1)

/-- The meaning of PULSE and SET: ESTAT 1 HELD, 2 SHED. -/
def State.lswServe (s : State) (q op : Nat) (pulse : Bool) : State :=
  s.serve q op (fun d t => match t.lswDesc d pulse with
    | none => (t, { status := 2 })
    | some (n, duty) =>
      if t.rd (F.LSW_CHn_CTL_SRC n) ≠ 2 then (t.lswRefused, { status := 0x40 })
      else
        let on := pulse || decide (d.le 17 1 = 1)
        let dur := d.le 24 4 * 1000
        let p : Option SwitchPulse := if pulse then some ⟨none, dur, d.tag⟩ else none
        let u := (t.setSw n { t.sw n with pulse := p }).lswCommand n on duty
        let u := if pulse ∧ (u.lOn n 0 = true ∨ u.lWants n = false) then
            u.setSw n { u.sw n with pulse := some ⟨some (t.now + dur), dur, d.tag⟩ }
          else u
        (u, { estat := if u.lOn n 4 then 2 else if u.lOn n 3 then 1 else 0 }))

/-- LSW_PULSE. -/
def execLswPulse (q : Nat) (s : State) : Host.Outcome State Fault Refusal :=
  .next (if 40 ≤ q ∧ q < 48 then s.lswServe q 1 true else s)

/-- LSW_SET. -/
def execLswSet (q : Nat) (s : State) : Host.Outcome State Fault Refusal :=
  .next (if 40 ≤ q ∧ q < 48 then s.lswServe q 2 false else s)

/-- The running pulse of channel `n` ends: the channel turns off. -/
def State.lswPulseOff (s : State) (n : Nat) : State := ((s.setSw n { s.sw n with pulse := none }).lSet n 1 false).lswFollow n

/-- The scheduled commands of channel `n` with TAG `tag` removed from ring `q`, without completion entries; how many there were. -/
def State.unschedule (s : State) (q n tag : Nat) : State × Nat :=
  let gone := (s.ring q).taken.filter (fun d =>
    !d.running && decide (d.tmode = 1) && decide (d.tag = tag) && decide (d.le 16 1 = n) && decide (d.op = 1 ∨ d.op = 2))
  (gone.foldl (fun x d => x.unreserve q d) s, gone.length)

/-- LSW_CANCEL. -/
def execLswCancel (q : Nat) (s : State) : Host.Outcome State Fault Refusal :=
  .next (if 40 ≤ q ∧ q < 48 then
    s.serve q 3 (fun d t =>
      let n := d.le 16 1
      let tag := d.le 20 2
      if t.lswCarried n = false ∨ d.tmode ≠ 0 then (t, { status := 2 })
      else
        let r := [40, 42, 46].foldl (fun (x : State × Nat) p =>
          let y := x.1.unschedule p n tag
          (y.1, x.2 + y.2)) (t, 0)
        let u := match (r.1.sw n).pulse with
          | some p => if p.tag = tag then r.1.lswPulseOff n else r.1
          | none => r.1
        (u, { bytes := resultOf [(24, 4, r.2)] }))
  else s)

/-- PULSE_END: a running untimed valve pulse, or any load-switch pulse, runs out. -/
def execPulseEnd (valve : Bool) (n : Nat) (s : State) : Host.Outcome State Fault Refusal :=
  .next (
    if s.bedOn = false then s
    else if valve then
      match (s.valve n).pulse with
      | some p => if p.timed = false ∧ p.stop ≤ s.now ∧ s.vOn n 11 = false then s.pulseOff n else s
      | none => s
    else
      match (s.sw n).pulse with
      | some p => if p.stop.any (fun x => decide (x ≤ s.now)) then s.lswPulseOff n else s
      | none => s)

/-! ### Enabling, disabling and register writes (R350) -/

/-- Channel `n` has been disabled: it turns off, and its command state ends. -/
def State.lswDisable (s : State) (n : Nat) : State :=
  (((s.mapBit Reg.LSW_ENMAP_LO n false).lSet n 1 false).setSw n { s.sw n with pulse := none }).lswFollow n

/-- Channel `n` has been enabled; under SRC 3 its register is its command. -/
def State.lswEnable (s : State) (n : Nat) : State :=
  let t := s.mapBit Reg.LSW_ENMAP_LO n true
  if t.rd (F.LSW_CHn_CTL_SRC n) = 3 then
    t.lswCommand n (t.on (F.LSW_CHn_CMD_ON n)) (if t.pwm n then ⟨t.rd (F.LSW_CHn_CMD_DUTY n), 1024⟩ else Frac.ofInt 1)
  else t.lswFollow n

/-- A write of LSW_CHn_CTL. -/
def State.lswCtlWrite (s : State) (n : Nat) (v : W32) : State :=
  let key := Reg.LSW_CHn_CTL n
  let en := s.on (F.LSW_CHn_CTL_EN n)
  if s.code ≠ .f ∧ getBits v 23 23 = 1 then s.lswReject n 4
  else if listedAt key v = false then s.lswReject n 2
  else if en ∧ (getBits v 30 30 ≠ s.rd (F.LSW_CHn_CTL_MODE n) ∨ getBits v 29 28 ≠ s.rd (F.LSW_CHn_CTL_SRC n)) then s.lswReject n 1
  else
    let t := s.applyWrite key v
    let t := if getBits v 23 23 = 0 then (t.lSet n 9 false).olMap n else t
    if en ∧ getBits v 31 31 = 0 then t.lswDisable n
    else if en = false ∧ getBits v 31 31 = 1 then t.lswEnable n
    else t

/-- A write of LSW_CHn_LIM: BUD from 100 mA to the class rating, IWIRE from 100 mA to 1.5 times it. -/
def State.lswLimWrite (s : State) (n : Nat) (v : W32) : State :=
  let bud := getBits v 31 20 * 10
  let wire := getBits v 9 0 * 20
  if s.on (F.LSW_CHn_CTL_EN n) = true ∧ getBits v 31 20 ≠ s.rd (F.LSW_CHn_LIM_BUD n) then s.lswReject n 1
  else if bud < 100 ∨ classRating n < bud ∨ wire < 100 ∨ classRating n * 3 / 2 < wire then s.lswReject n 2
  else s.applyWrite (Reg.LSW_CHn_LIM n) v

/-- A write of a group's LIM: a higher limit may admit held channels. -/
def State.lswGrpWrite (s : State) (g : Nat) (v : W32) : State :=
  if listedAt (Reg.LSW_GRPg_STAT g) v = false then s.lswReject 0 2
  else (s.applyWrite (Reg.LSW_GRPg_STAT g) v).admitHeld g

/-- A write of a pulse generator's FREQ, which the generator takes at the start of its next period. -/
def State.genWrite (s : State) (k : Nat) (v : W32) : State :=
  if listedAt (Reg.LSW_GENk k) v = false then s.lswReject 0 2
  else
    let t := { s with lsw := { s.lsw with gens := SMap.set (fun _ => (0xC8, 0)) s.lsw.gens k (s.genFreq k, s.now) } }
    t.applyWrite (Reg.LSW_GENk k) v

/-- A write to the LSW block, but for the command registers, LSW_FSUNLOCK and RESUME. -/
def State.lswWrite (s : State) (off : Nat) (v : W32) : State :=
  if 0x100 ≤ off ∧ off < 0x500 then
    let n := (off - 0x100) / 0x10
    let r := off % 0x10
    if r = 0 then s.lswCtlWrite n v else if r = 4 then s.lswLimWrite n v else s
  else if off = 0x028 then s.lswFltmapWrite 0 v
  else if off = 0x02C then s.lswFltmapWrite 1 v
  else if 0x0A0 ≤ off ∧ off < 0x0C0 then s.genWrite ((off - 0x0A0) / 4) v
  else if off = 0x038 then s.shedmapWrite 0 v
  else if off = 0x03C then s.shedmapWrite 1 v
  else if 0x040 ≤ off ∧ off < 0x060 ∧ off % 8 = 0 then s.lswGrpWrite ((off - 0x040) / 8) v
  else if listedAt (0xC000 + off) v = false then s.lswReject 0 2
  else s.applyWrite (0xC000 + off) v

/-- What a register parity fault in LSW does beside the common effects: a mismatch in LSW_CHn_CTL or _LIM turns channel `n` off. -/
def State.lswParity (s : State) (off : Nat) : State :=
  if 0x100 ≤ off ∧ off < 0x500 ∧ (off % 0x10 = 0 ∨ off % 0x10 = 4) then
    let n := (off - 0x100) / 0x10
    ((s.wr (F.LSW_CHn_CTL_EN n) 0).reparity (Reg.LSW_CHn_CTL n)).lswDisable n
  else s

end Sys2Proof.Machine
end

