-- ==== Sys2Proof/Machine/OutStages.lean ====
section
/-! DEFINITION. The output-stage ICs (R324-R326, R342-R345, R471): serial watchdog, fail-safe states, the fail-safe table and the
wear store. IC 0 to 5 is Trowel 0 to 5, IC 6 to 13 is Shears 0 to 7. -/

namespace Sys2Proof.Machine

/-! ### The ICs -/

/-- Whether the ordering code carries IC `i` (R309, R331). -/
def State.icCarried (s : State) (i : Nat) : Bool :=
  if i < 6 then decide (8 * i < s.code.valves) else decide (i < 14) && !absentReg s.code 0x0C (0x060 + 8 * (i - 6))

/-- The key of IC `i`'s status register, and a field of it. -/
def icStat (i hi lo : Nat) : Fld := ⟨if i < 6 then Reg.VLV_TRWj_STAT i else Reg.LSW_SHRj_STAT (i - 6), hi, lo⟩

/-- LINK, FSAFE, FSREQ, OT, EXPCNT and CRCERR of IC `i`. -/
def icLink (i : Nat) : Fld := icStat i 31 31
def icFsafe (i : Nat) : Fld := icStat i 30 30
def icReq (i : Nat) : Fld := icStat i 29 29
def icOt (i : Nat) : Fld := icStat i 28 28
def icExp (i : Nat) : Fld := icStat i 23 16
def icCrc (i : Nat) : Fld := icStat i 15 0

/-- SINCE of IC `i`. -/
def icSince (i : Nat) : Fld := if i < 6 then F.VLV_TRWj_WDOG_SINCE i else F.LSW_SHRj_WDOG_SINCE (i - 6)

/-- The programmed watchdog period of IC `i` in ms. -/
def State.icPeriod (s : State) (i : Nat) : Nat := if i < 6 then s.rd F.VLV_WDCFG_PERIOD else s.rd F.LSW_WDCFG_PERIOD

/-- The resource identifier of IC `i` (R495, class 6). -/
def icRes (i : Nat) : Nat := 6 * 2 ^ 28 + (if i < 6 then i else 16 + (i - 6))

/-- The eight channels of IC `i`. -/
def icChannels (i : Nat) : List Nat := (List.range 8).map (fun k => 8 * (if i < 6 then i else i - 6) + k)

/-! ### Fail-safe states (R326, R342) -/

/-- The entry IC `i` applies to output `k` is the one it holds now. -/
def State.applyEntry (s : State) (k : Nat) : State :=
  { s with outs := { s.outs with applied := SMap.set (fun _ => 0) s.outs.applied k (s.fsEntry k) } }

/-- The channels of IC `i`, which drives the fail-safe states it applies, show them. -/
def State.safeShown (s : State) (i : Nat) : State :=
  if i < 6 then (icChannels i).foldl (fun x n => (x.vSet n 13 true).valveStop n) s
  else
    (icChannels i).foldl (fun x n =>
      let t := x.lSet n 12 true
      (t.lSet n 0 (t.lswSafeOn n)).budReg (groupOf n)) s

/-- The channels of IC `i` take their fail-safe states; command states are kept. -/
def State.safeChannels (s : State) (i : Nat) : State :=
  ((icChannels i).foldl (fun x n => if i < 6 then (x.valveStop n).applyEntry n else (x.lswStop n).applyEntry (48 + n)) s).safeShown i

/-- IC `i` enters its fail-safe state: an expiry is counted and tested for; one not yet in that state is also reported. -/
def State.enterSafe (s : State) (i : Nat) (expiry : Bool) : State :=
  let t := if expiry then (s.inc (icExp i)).triggerTest (icRes i) else s
  if (s.outIc i).fsafe then t
  else
    let t := ((t.setOutIc i { t.outIc i with fsafe := true }).wr (icFsafe i) 1).safeChannels i
    if i < 6 then (t.flag F.VLV_STAT_FSAFE F.VLV_CTL_IE_FSAFE).vlvEvent 5 i sevSafety none
    else (t.flag F.LSW_STAT_FSAFE F.LSW_CTL_IE_FSAFE).lswEvent 7 (i - 6) sevSafety none

/-- The ICs the ordering code carries. -/
def State.ics (s : State) : List Nat := (List.range 14).filter (fun i => s.icCarried i)

/-- The fail-safe request line is asserted: every IC takes its fail-safe state (R471). -/
def State.requestSafe (s : State) : State := s.ics.foldl (fun x i => (x.wr (icReq i) 1).enterSafe i false) s

/-- FAILSAFE_REQUEST: the power supervisor asserts the line. -/
def execFailsafeRequest (s : State) : Host.Outcome State Fault Refusal :=
  .next (if s.bedOn then s.requestSafe else s)

/-- A write of RESUME: ignored unless LINK is 1, FSREQ is 0 and no lasting fault holds the IC; every channel starts from OFF and
follows its command state. -/
def State.resumeIc (s : State) (i : Nat) : State :=
  let x := s.outIc i
  if x.fsafe = false ∨ x.locked = true ∨ s.on (icLink i) = false ∨ s.on (icReq i) = true then s
  else
    let t := (s.setOutIc i { x with fsafe := false }).wr (icFsafe i) 0
    if i < 6 then
      let t := (icChannels i).foldl (fun y n => ((y.vSet n 13 false).valveStop n)) t
      (icChannels i).foldl (fun y n => y.valveResume n) t
    else
      let t := (icChannels i).foldl (fun y n => (y.lSet n 12 false).lswStop n) t
      (icChannels i).foldl (fun y n => y.lswFollow n) t

/-- OUTPUT_STAGE_RESUME: RESUME written to VLV_TRWj_WDOG or LSW_SHRj_WDOG. -/
def execOutputStageResume (agent : Agent) (ic : Nat) (s : State) : Host.Outcome State Fault Refusal :=
  .next (
    if ic < 6 then s.gate agent 0x0B (0x104 + 8 * ic) (fun t => t.resumeIc ic)
    else if ic < 14 then s.gate agent 0x0C (0x064 + 8 * (ic - 6)) (fun t => t.resumeIc ic)
    else s.fail)

/-! ### The serial watchdog (R325) -/

/-- What an IC reads back with a refresh: frames sent again, the channels that are still hot, and for a Trowel the mean current of each
channel and of each of its two banks over 1 s, in mA. -/
def State.readback (s : State) (i : Nat) (r : Readback) : State :=
  let t := s.incBy (icCrc i) r.resent
  let win := (List.replicate r.resent s.now ++ (t.outIc i).resent).filter (fun x => decide (s.now < x + 1000000000))
  let t := t.setOutIc i { t.outIc i with resent := win }
  let t := if 0 < r.resent ∧ 16 ≤ win.length then t.triggerTest (icRes i) else t
  let t := t.wrB (icOt i) (!r.hot.isEmpty)
  if i < 6 then
    let t := (icChannels i).zipIdx.foldl (fun x c => x.measured (F.VLV_CHn_MEAS_MA c.1) (F.VLV_CHn_MEAS_PEAK c.1) (r.ma.getD c.2 0)) t
    [0, 1].foldl (fun x k =>
      let b := 2 * i + k
      let sum := ((r.ma.drop (4 * k)).take 4).foldl (fun a m => a + m) 0
      let y := (x.wrSat (F.VLV_BANKk_STAT_MA b) sum).peak (F.VLV_BANKk_CUR_PEAK b) sum
      y.wrSat (F.VLV_BANKk_CUR_AVG b) (r.avg.getD k 0)) t
  else (icChannels i).zipIdx.foldl (fun x c => x.setSw c.1 { x.sw c.1 with hot := (x.sw c.1).hot && r.hot.contains c.2 }) t

/-- WATCHDOG_REFRESH: accepted between P / 4 and P after the last one with the expected sequence value; any other is an expiry. -/
def execWatchdogRefresh (ic : Nat) (r : Readback) (s : State) : Host.Outcome State Fault Refusal :=
  .next (
    if s.bedOn = false ∨ s.icCarried ic = false ∨ s.on (icLink ic) = false then s
    else
      let t := s.readback ic r
      let x := t.outIc ic
      if r.seqOk = true ∧ x.last + x.period * 250000 ≤ s.now ∧ s.now ≤ x.last + x.period * 1000000 then
        (t.setOutIc ic { x with last := s.now, period := s.icPeriod ic, accepted := s.now }).wr (icSince ic) 0
      else (t.setOutIc ic { x with last := s.now }).enterSafe ic true)

/-- WATCHDOG_EXPIRY: no refresh was accepted within P. -/
def execWatchdogExpiry (ic : Nat) (s : State) : Host.Outcome State Fault Refusal :=
  .next (
    let x := s.outIc ic
    if s.bedOn = false ∨ s.icCarried ic = false ∨ s.now ≤ x.last + x.period * 1000000 then s
    else (s.setOutIc ic { x with last := s.now }).enterSafe ic true)

/-! ### Wear (R324, R341) -/

/-- The lines corrected in a rank (R424) and the erases of a NAND package (R435), committed and not. -/
def State.rankWear (s : State) (n : Nat) : Nat := SMap.get (fun _ => 0) s.outs.wear (112 + n) + SMap.get (fun _ => 0) s.dram.wear n
def State.packWear (s : State) (c : Nat) : Nat := SMap.get (fun _ => 0) s.outs.wear (120 + c) + SMap.get (fun _ => 0) s.nand.wear c

/-- The uncommitted wear counts added to the Root wear store. -/
def State.commitWear (s : State) : State :=
  let w := (List.range 48).foldl (fun m n => SMap.set (fun _ => 0) m n (s.valveWear n)) s.outs.wear
  let w := (List.range 64).foldl (fun m n => SMap.set (fun _ => 0) m (48 + n) (s.lswWear n)) w
  let w := s.dram.wear.foldl (fun m p => SMap.set (fun _ => 0) m (112 + p.1) (s.rankWear p.1)) w
  let w := s.nand.wear.foldl (fun m p => SMap.set (fun _ => 0) m (120 + p.1) (s.packWear p.1)) w
  let chs := (List.range 64).foldl (fun m n => SMap.set (fun _ => {}) m n { s.sw n with energy := 0 }) s.lsw.chs
  { s with dram := { s.dram with wear := [] }, nand := { s.nand with wear := [] }, outs := { s.outs with wear := w }, lsw := { s.lsw with chs := chs },
           vlv := { s.vlv with wear := [], lastCommit := s.now } }

/-- WEAR_COMMIT. -/
def execWearCommit (s : State) : Host.Outcome State Fault Refusal :=
  .next (if s.bedOn = true ∧ s.vlv.lastCommit + 1000000000 ≤ s.now then s.commitWear else s)

/-! ### The fail-safe table (R343-R345) -/

/-- A write of LSW_FSUNLOCK that R70 admits: the two keys in order from Scarecrow open the table, any other value or order locks it, and any
other agent's write gets an error response with NOTAGENT. -/
def State.fsunlock (s : State) (a : Agent) (v : W32) : State :=
  if a ≠ .scarecrow then (s.lswReject 0 5).failFor a
  else
    let st := s.rd F.LSW_FSUNLOCK_STATE
    let key := getBits v 15 0
    let next := if st = 0 ∧ key = 0xA5C3 then 1 else if st = 1 ∧ key = 0x3C5A then 2 else 0
    let t := s.done.wr F.LSW_FSUNLOCK_STATE next
    { t with lsw := { t.lsw with openAt := if next = 2 then some s.now else none } }

/-- FSUNLOCK_WRITE. -/
def execFsunlockWrite (agent : Agent) (value : W32) (s : State) : Host.Outcome State Fault Refusal :=
  .next (s.gate agent 0x0C 0x014 (fun t => t.fsunlock agent value))

/-- The unlock ends. -/
def State.fslock (s : State) : State :=
  let t := s.wr F.LSW_FSUNLOCK_STATE 0
  { t with lsw := { t.lsw with openAt := none } }

/-- FSUNLOCK_TIMEOUT: 10 ms after the second key. -/
def execFsunlockTimeout (s : State) : Host.Outcome State Fault Refusal :=
  .next (match s.lsw.openAt with
    | some t0 => if t0 + 10000000 ≤ s.now then s.fslock else s
    | none => s)

/-- Whether an entry keeps R344: `k` below 48 names a valve channel, any other a load switch. -/
def entryOk (k e : Nat) : Bool :=
  let freq := bitsOf e 11 0
  let duty := bitsOf e 21 12
  match e / 2 ^ 30 with
  | 0 => decide (e = 0)
  | 1 =>
    if 48 ≤ k then decide (e = 2 ^ 30)
    else if bitAt e 29 then decide (bitsOf e 28 12 = 0) && decide (100 ≤ freq) && decide (freq ≤ 4000)
    else
      let ip := bitsOf e 23 16
      let tp := bitsOf e 15 8
      let ih := bitsOf e 7 0
      decide (bitsOf e 28 24 = 0) && decide (2 ≤ ip) && decide (ip ≤ 160) && decide (1 ≤ tp) && decide (tp ≤ 250) && decide (5 ≤ ih) &&
        decide (ih ≤ 200) && decide (ih * 20 ≤ ip * 50)
  | 2 =>
    decide (1 ≤ duty) && decide (duty ≤ 1023) && decide (5 ≤ freq) &&
      (if 48 ≤ k then decide (bitsOf e 23 22 = 0) && decide (freq ≤ 200) else decide (bitsOf e 29 22 = 0) && decide (freq ≤ 2000))
  | _ => false

/-- Whether output `k` is carried. -/
def State.outCarried (s : State) (k : Nat) : Bool := if k < 48 then decide (k < s.code.valves) else s.lswCarried (k - 48)

/-- Entry `k` of a table image. -/
def tableEntry (b : Bytes) (k : Nat) : Nat := if k < 48 then leAt b (64 + 4 * k) 4 else leAt b (256 + 4 * (k - 48)) 4

/-- The bit of CODES that accepts an ordering code. -/
def Code.codesBit (c : Code) : Nat := c.pick 1 2 3

/-- Whether the head of a table image passes FSCHECK. -/
def tableHeadOk (c : Code) (b : Bytes) : Bool :=
  decide (leAt b 0 4 = 0x31534146) && decide (leAt b 4 4 = 1) && bitAt (leAt b 16 1) c.codesBit && decide (leAt b 17 43 = 0) &&
    decide (leAt b 60 4 = crc32 (b.take 60 ++ (b.drop 64).take 448))

/-- The output an IC drives. -/
def icOf (k : Nat) : Nat := if k < 48 then k / 8 else 6 + (k - 48) / 8

/-- The ICs of `who` commit the entries and version of image `b`. -/
def State.commitTable (s : State) (b : Bytes) (who : List Nat) : State :=
  let es := (List.range 112).foldl (fun m k => if who.contains (icOf k) then SMap.set (fun _ => 0) m k (tableEntry b k) else m) s.outs.entries
  let t := { s with outs := { s.outs with entries := es, holders := (who.map (fun i => 2 ^ i)).foldl (fun a x => a + x) 0 } }
  who.foldl (fun x i => x.setOutIc i { x.outIc i with ver := leAt b 12 4, writes := (x.outIc i).writes + 1 }) t

/-- The registers that show what the ICs store (R330, R350). -/
def State.storedRegs (s : State) : State :=
  let t := (List.range 48).foldl (fun x n => if n < s.code.valves then x.wr (F.VLV_CHn_FSAFE_ENTRY n) (x.fsEntry n) else x) s
  let t := (t.wr F.LSW_FSVER_VER s.outs.tableVer).wr F.LSW_FSSTAT_MAP s.outs.holders
  t.wrSat F.LSW_FSCNT_CNT (((List.range 14).map (fun i => (s.outIc i).writes)).foldl max 0)

/-- The status of an FSWRITE whose image is `b`, before any IC commits; 0 where it may go on. -/
def State.fswriteStatus (s : State) (a : Nat) (b : Bytes) : Nat :=
  if s.mem.poisoned a 512 ∨ tableHeadOk s.code b = false then 0x48
  else if (List.range 112).any (fun k => !(if s.outCarried k then entryOk k (tableEntry b k) else decide (tableEntry b k = 0))) then 0x49
  else 0

/-- Poisoned table lines counted. -/
def State.tablePoison (s : State) (a : Nat) : State :=
  s.incBy F.LSW_POISCNT_CNT ((List.range 8).filter (fun i => s.mem.poisoned (a + 64 * i) 64)).length

/-- The write of the table once its first checks have passed and the OUTPUT token is held; `failed` names the ICs that do not commit. -/
def State.fswriteRun (s : State) (d : Desc) (failed : List Nat) : State × Result :=
  let a := d.le 24 8
  let b := s.mem.readBytes a 512
  let s := s.tablePoison a
  let st := s.fswriteStatus a b
  if st ≠ 0 then (s, { status := st })
  else
    let who := s.ics.filter (fun i => !failed.contains i)
    let t := s.commitTable b who
    if who.length < s.ics.length then (t.storedRegs, { status := 0x4A })
    else
      let t := { t with outs := { t.outs with tableId := leAt b 8 4, tableVer := leAt b 12 4, tableCodes := leAt b 16 1 } }
      ((((t.storedRegs.eventEntry 44 0x80 9 0 (t.lswResult t.freshNat none) true).1).eventEntry 45 0x80 9 0 (t.lswResult t.freshNat none) true).1.tickFree, {})

/-- Whether the module is in the Doze state (R472). -/
def State.inDoze (s : State) : Bool := decide (s.rd F.SYS_PWRSTATE_STATE = 2) && decide (s.rd F.SYS_PWRSTATE_STEP = 0)

/-- FSWRITE on ring 46: the unlock ends when it is taken; it writes while it holds the OUTPUT token. -/
def State.fswrite (s : State) (failed : List Nat) : State :=
  match s.running 46 0x10 with
  | none => s
  | some d =>
    let a := d.le 24 8
    let waiting := decide (s.lsw.writing = some d)
    let opened := match s.lsw.openAt with
      | some t0 => decide (s.rd F.LSW_FSUNLOCK_STATE = 2) && decide (d.started < t0 + 10000000)
      | none => false
    let t := if waiting then s else s.fslock
    if waiting = false ∧ s.inDoze = false then t.complete 46 d { status := 0x46 }
    else if waiting = false ∧ opened = false then t.complete 46 d { status := 0x47 }
    else if a % 64 ≠ 0 then t.complete 46 d { status := 2 }
    else if inBedRange a 512 = false then t.complete 46 d { status := 5 }
    else
      let r := t.tokAsk 6 6 0xB
      if r.2 = false then { r.1 with lsw := { r.1.lsw with writing := some d } }
      else
        let x := r.1.fswriteRun d failed
        (({ x.1 with lsw := { x.1.lsw with writing := none } }).tokGive 6).complete 46 (if waiting then d.waited (s.now - d.started) else d) x.2

/-- FSWRITE. -/
def execFswrite (failed : List Nat) (s : State) : Host.Outcome State Fault Refusal :=
  .next (s.fswrite failed)

/-- The image FSREAD writes: the entries as each IC holds them under the head of the last table written. -/
def State.fsImage (s : State) : Bytes :=
  let head := leBytes 4 0x31534146 ++ leBytes 4 1 ++ leBytes 4 s.outs.tableId ++ leBytes 4 s.outs.tableVer ++ leBytes 1 s.outs.tableCodes ++
    leBytes 1 0 ++ leBytes 2 s.outs.holders ++ List.replicate 40 0
  let body := ((List.range 112).map (fun k => leBytes 4 (s.fsEntry k))).flatten
  head ++ leBytes 4 (crc32 (head ++ body)) ++ body

/-- FSREAD. -/
def execFsread (q : Nat) (s : State) : Host.Outcome State Fault Refusal :=
  .next (if 40 ≤ q ∧ q < 48 then
    s.serve q 0x11 (fun d t =>
      let a := d.le 24 8
      if a % 64 ≠ 0 then (t, { status := 2 })
      else if inBedRange a 512 = false then (t, { status := 5 })
      else (t.put a t.fsImage, {}))
  else s)

/-! ### Register writes -/

/-- A write to the VLV block (R330). -/
def State.vlvBlockWrite (s : State) (a : Agent) (off : Nat) (v : W32) : State :=
  if 0x400 ≤ off ∧ (off - 0x400) % 0x40 = 0x18 then s.valveCmdWrite a ((off - 0x400) / 0x40) v
  else if 0x100 ≤ off ∧ off < 0x130 ∧ off % 8 = 4 then (if bitAt v.toNat 31 then s.resumeIc ((off - 0x100) / 8) else s)
  else s.vlvWrite off v

/-- A write to the LSW block (R350). -/
def State.lswBlockWrite (s : State) (a : Agent) (off : Nat) (v : W32) : State :=
  if 0x100 ≤ off ∧ off < 0x500 ∧ off % 0x10 = 8 then s.lswCmdWrite a ((off - 0x100) / 0x10) v
  else if off = 0x014 then s.fsunlock a v
  else if 0x060 ≤ off ∧ off < 0x0A0 ∧ off % 8 = 4 then (if bitAt v.toNat 31 then s.resumeIc (6 + (off - 0x060) / 8) else s)
  else s.lswWrite off v

end Sys2Proof.Machine
end

