-- ==== Sys2Proof/Machine/Mem.lean ====
section
/-! DEFINITION. DRAM and its error correction (R410-R426): the address map, decoding, device marks, narrow writes, poison, patrol scrub,
line commands, the error log and start-up. -/

namespace Sys2Proof.Machine

/-! ### The address map (R411) -/

/-- Bits that select the subchannel. -/
def Code.subBits (c : Code) : Nat := c.pick 3 2 1

/-- Subchannels present (R410). -/
def Code.subs (c : Code) : Nat := c.pick 8 4 2

/-- Subchannel, line within the row, bank group, bank and row of an address. -/
def dramSub (c : Code) (a : Nat) : Nat := a / 64 % 2 ^ c.subBits
def dramCol (c : Code) (a : Nat) : Nat := a / 2 ^ (6 + c.subBits) % 128
def dramGroup (c : Code) (a : Nat) : Nat := a / 2 ^ (13 + c.subBits) % 8
def dramBank (c : Code) (a : Nat) : Nat := a / 2 ^ (16 + c.subBits) % 4
def dramRow (c : Code) (a : Nat) : Nat := a / 2 ^ (18 + c.subBits) % 65536

/-- The resource identifier of the row block of an address (R495, class 0). -/
def dramRes (c : Code) (a : Nat) : Nat := dramSub c a * 2 ^ 21 + dramGroup c a * 2 ^ 18 + dramBank c a * 2 ^ 16 + dramRow c a

/-- Whether MEM serves the line at `a` now. -/
def State.lineAnswers (s : State) (a : Nat) : Bool := s.canopyOn && inDram s.code a

/-- Whether a line can be read or written: it answers, DRAM is ready and the address is a line's. -/
def State.lineOk (s : State) (a : Nat) : Bool := s.canopyOn && s.on F.MEM_STAT_READY && inDram s.code a && decide (a % 64 = 0)

/-! ### The line code (R412, R413) -/

/-- The product in GF(2^8) with x^8 + x^4 + x^3 + x^2 + 1; `n` bits of the multiplier are left. -/
def gf8Step : Nat → Nat → Nat → Nat → Nat
  | 0, _, _, r => r
  | k + 1, a, b, r =>
    gf8Step k (if 128 ≤ a then (a * 2).xor 0x11D else a * 2) (b / 2) (if b % 2 = 1 then r.xor a else r)
def gf8Mul (a b : Nat) : Nat := gf8Step 8 a b 0

/-- The generator g(x), highest coefficient first, over the first `k` powers of α. -/
def rsGen : Nat → List Nat
  | 0 => [1]
  | k + 1 =>
    let g := rsGen k
    let root := (List.range k).foldl (fun r _ => gf8Mul r 2) 1
    List.zipWith (fun x y => x.xor y) (g ++ [0]) (0 :: g.map (fun c => gf8Mul c root))

/-- The check symbols of a message: the remainder of m(x) × x^15 divided by g(x). -/
def rsCheck (msg : List Nat) : List Nat :=
  let g := (rsGen 15).drop 1
  msg.foldl (fun r m =>
    let f := (r.getD 0 0).xor m
    List.zipWith (fun x y => x.xor (gf8Mul f y)) (r.drop 1 ++ [0]) g) (List.replicate 15 0)

/-- The codeword of a line: 64 data symbols, the metadata symbol, 15 check symbols. -/
def lineCode (data : Bytes) (poison : Bool) : List Nat :=
  let m := (fitBytes 64 data).map (fun b => b.toNat) ++ [if poison then 1 else 0]
  m ++ rsCheck m

/-- The device that carries a symbol. -/
def symDevice (s : Nat) : Nat := s / 8

/-- The wrong symbols of a stored line. -/
def State.lineErrs (s : State) (a : Nat) : List (Nat × Nat) := SMap.get (fun _ => []) s.dram.errs (a / 64)

/-- The codeword as the devices hold it. -/
def State.storedCode (s : State) (a : Nat) : List Nat :=
  (lineCode (s.mem.readBytes a 64) (s.mem.marked a)).zipIdx.map (fun c => (s.lineErrs a).foldl (fun x e => if e.1 = c.2 then x.xor e.2 else x) c.1)

/-- Wrong symbols added to a stored line: XOR values of one symbol combine, and a symbol that reads right again leaves the list. -/
def addErrs (es ups : List (Nat × Nat)) : List (Nat × Nat) :=
  ((List.range 80).map (fun k => (k, (es ++ ups).foldl (fun x e => if e.1 = k then x.xor (e.2 % 256) else x) 0))).filter (fun e => e.2 ≠ 0)

/-- The wrong symbols of the line at `a` set. -/
def State.setErrs (s : State) (a : Nat) (es : List (Nat × Nat)) : State :=
  { s with dram := { s.dram with errs := SMap.set (fun _ => []) s.dram.errs (a / 64) es } }

/-! ### The log (R423) -/

/-- An entry of the log; a full log drops it. -/
def State.memLog (s : State) (type req nsym erase devmask a : Nat) : State :=
  let n := s.rd F.MEM_LOGHEAD_COUNT
  if 48 ≤ n then (s.inc F.MEM_LOGDROP_CNT).flag F.MEM_STAT_LOGDROP F.MEM_CTL_IE_UE
  else
    let k := (s.rd F.MEM_LOGHEAD_OLDEST + n) % 48
    let sub := dramSub s.code a
    let w0 := type * 2 ^ 28 + req % 16 * 2 ^ 24 + nsym % 16 * 2 ^ 20 + sub * 2 ^ 17 + erase * 2 ^ 16 + devmask % 1024 * 2 ^ 6
    let w1 := dramGroup s.code a * 2 ^ 29 + dramBank s.code a * 2 ^ 27 + dramRow s.code a * 2 ^ 11 + dramCol s.code a * 2 ^ 4
    let put (x : State) (w v : Nat) : State := x.setReg (Reg.MEM_LOGk_W k w) (BitVec.ofNat 32 v)
    let t := put (put (put (put s 0 w0) 1 w1) 2 (a / 64)) 3 (s.now / 1000)
    let t := t.wr F.MEM_LOGHEAD_COUNT (n + 1)
    if 1 ≤ type ∧ type ≤ 4 then t.triggerTest (dramRes s.code a) else t

/-- The oldest entry released. -/
def State.memPop (s : State) : State :=
  let n := s.rd F.MEM_LOGHEAD_COUNT
  if n = 0 then s else (s.wr F.MEM_LOGHEAD_COUNT (n - 1)).wr F.MEM_LOGHEAD_OLDEST ((s.rd F.MEM_LOGHEAD_OLDEST + 1) % 48)

/-! ### Device marks (R415) -/

/-- The count of device `d` of subchannel `n`. -/
def devCount (n d : Nat) : Fld := ⟨Reg.MEM_SUBn_DEVCNT0 n + 4 * (d / 4 % 3), 8 * (d % 4) + 7, 8 * (d % 4)⟩

/-- The devices of a list of wrong symbols, as a mask and as a list. -/
def devicesOf (es : List (Nat × Nat)) : List Nat := (List.range 10).filter (fun d => es.any (fun e => decide (symDevice e.1 = d)))
def devMask (l : List Nat) : Nat := (l.map (fun d => 2 ^ d)).foldl (fun a x => a + x) 0

/-- Whether a device of subchannel `n` is marked, and which. -/
def State.marking (s : State) (n : Nat) : Option Nat :=
  if s.on (F.MEM_SUBn_STAT_ERASE n) then some (s.rd (F.MEM_SUBn_STAT_FAILDEV n)) else none

/-- Device `d` of subchannel `n` marked. -/
def State.markDevice (s : State) (n d : Nat) : State := (s.wr (F.MEM_SUBn_STAT_ERASE n) 1).wr (F.MEM_SUBn_STAT_FAILDEV n) d

/-- A device counted as wrong in a decoded line; reaching DEVTHR marks it, or reports a second one. -/
def State.countDevice (s : State) (req nsym devmask a n d : Nat) : State :=
  let was := s.rd (devCount n d)
  let t := s.inc (devCount n d)
  let thr := t.rd F.MEM_CTL_DEVTHR
  if thr = 0 ∨ t.rd (devCount n d) < thr ∨ thr ≤ was then t
  else
    match t.marking n with
    | none =>
      (((t.markDevice n d).flag F.MEM_STAT_DEVFAIL F.MEM_CTL_IE_DEV).memLog 5 req nsym 0 devmask a).record 0x11 0x40 sevFault 0 0 0
    | some m =>
      if m = d ∨ t.on (F.MEM_SUBn_STAT_DEV2 n) = true then t
      else
        ((((t.wr (F.MEM_SUBn_STAT_DEV2 n) 1).wr (F.MEM_SUBn_STAT_DEV2ID n) d).flag F.MEM_STAT_DEV2 F.MEM_CTL_IE_DEV).memLog 6 req nsym 1
          devmask a).record 0x11 0x41 sevFault 0 0 0

/-! ### Decoding (R414, R416, R417, R424) -/

/-- What a decode of a line gave: 0 clean, 1 corrected, 2 uncorrectable, with the symbols corrected. -/
structure Decode where
  out : Nat
  nsym : Nat
  deriving DecidableEq, Repr

/-- A correction counted in the wear of its rank; saturation is reported once. -/
def State.rankCount (s : State) (n : Nat) : State :=
  if wearTop ≤ s.rankWear n then s
  else
    let t := { s with dram := { s.dram with wear := SMap.set (fun _ => 0) s.dram.wear n (SMap.get (fun _ => 0) s.dram.wear n + 1) } }
    if t.rankWear n = wearTop then (t.flag F.MEM_STAT_WEARSAT F.MEM_CTL_IE_WEAR).record 0x11 0x46 sevWarning 0 0 0 else t

/-- A line corrected: counted, logged, and its devices judged. -/
def State.corrected (s : State) (req nsym devmask a : Nat) (devs : List Nat) : State :=
  let n := dramSub s.code a
  let erase := if s.on (F.MEM_SUBn_STAT_ERASE n) then 1 else 0
  let t := ((s.inc (F.MEM_SUBn_CE_CNT n)).wideAdd Reg.MEM_CECNT_LO 1).rankCount n
  let t := (t.flag F.MEM_STAT_CE F.MEM_CTL_IE_CE).memLog 1 req nsym erase devmask a
  devs.foldl (fun x d => x.countDevice req nsym devmask a n d) t

/-- Whether a code in normal or erasure mode corrects a list of wrong symbols. -/
def correctable (mark : Option Nat) (es : List (Nat × Nat)) : Bool :=
  match mark with
  | none => decide (es.length ≤ 7)
  | some d => decide ((es.filter (fun e => symDevice e.1 ≠ d)).length ≤ 3)

/-- The line's data with the wrong symbols as read. -/
def asRead (b : Bytes) (es : List (Nat × Nat)) : Bytes :=
  b.zipIdx.map (fun c => es.foldl (fun x e => if e.1 = c.2 then x ^^^ BitVec.ofNat 8 e.2 else x) c.1)

/-- The event number of an uncorrectable log type in the recorder: UE, SCRUBUE, RMWUE. -/
def ueEvent (type : Nat) : Nat := if type = 2 then 0x43 else if type = 3 then 0x45 else 0x42

/-- A line decoded for requester `req`; an uncorrectable one is logged as `type` and written back poisoned, its data as read. -/
def State.decodeLine (s : State) (req type a : Nat) : State × Decode :=
  let es := s.lineErrs a
  let n := dramSub s.code a
  let mark := s.marking n
  if es = [] then (s, ⟨0, 0⟩)
  else if correctable mark es then (s.corrected req es.length (devMask (devicesOf es ∪ mark.toList)) a (devicesOf es), ⟨1, es.length⟩)
  else
    let erase := if mark.isSome then 1 else 0
    let t := s.store a (asRead (s.mem.readBytes a 64) es) true
    let t := (t.inc F.MEM_UECNT_CNT).inc (F.MEM_SUBn_UE_CNT n)
    let t := (t.flag F.MEM_STAT_UE F.MEM_CTL_IE_UE).memLog type req 0xF erase (devMask (devicesOf es ∪ mark.toList)) a
    (t.record 0x11 (ueEvent type) sevFault 0 0 0, ⟨2, 0xF⟩)

/-- DRAM_READ: requester, line, symbols found wrong since the line was last decoded, and whether a pattern beyond the code's reach is
taken as correctable (R414), which gives no error report that names its symbols. -/
def execDramRead (req addr : Nat) (wrong : List (Nat × Nat)) (taken : Bool) (s : State) : Host.Outcome State Fault Refusal :=
  .next (
    if s.lineAnswers addr = false then s.failReq req
    else if s.lineOk addr = false then s
    else
      let t := s.setErrs addr (addErrs (s.lineErrs addr) wrong)
      if taken = true ∧ correctable (t.marking (dramSub s.code addr)) (t.lineErrs addr) = false then
        ((t.corrected req (t.freshNat % 12) (t.freshNat / 16) addr []).putFree addr 64).tickFree
      else (t.decodeLine req 2 addr).1)

/-- DRAM_LINE_WRITE: 64 bytes with their poison bit. -/
def execDramLineWrite (addr : Nat) (data : Bytes) (poison : Bool) (s : State) : Host.Outcome State Fault Refusal :=
  .next (
    if s.lineAnswers addr = false then s.fail
    else if s.lineOk addr = false then s
    else
      let t := s.store addr (fitBytes 64 data) poison
      if poison then t.inc F.MEM_POISWR_CNT else t)

/-- Bytes merged under a mask. -/
def mergeBytes (mask : Nat) (old new : Bytes) : Bytes :=
  old.zipIdx.map (fun c => if bitAt mask c.2 then new.getD c.2 c.1 else c.1)

/-- DRAM_PARTIAL_WRITE: the line, its byte mask, bytes and poison bit, and the symbols the read part finds wrong. -/
def execDramPartialWrite (req addr mask : Nat) (data : Bytes) (poison : Bool) (wrong : List (Nat × Nat)) (s : State) :
    Host.Outcome State Fault Refusal :=
  .next (
    if s.lineAnswers addr = false then s.failReq req
    else if s.lineOk addr = false ∨ mask % 2 ^ 64 = 2 ^ 64 - 1 then s
    else
      let t := s.setErrs addr (addErrs (s.lineErrs addr) wrong)
      let r := t.decodeLine req 4 addr
      let bad := poison || r.1.mem.marked addr
      let t := (r.1.store addr (mergeBytes mask (r.1.mem.readBytes addr 64) data) bad).wideAdd Reg.MEM_RMWCNT_LO 1
      if poison then t.inc F.MEM_POISWR_CNT else t)

/-! ### Poison traps (R419) -/

/-- The cause a consuming access traps with: 0 load, 1 fetch, 2 AMO or LR/SC. -/
def poisonCause (kind : Nat) : Nat := if kind = 1 then 1 else if kind = 2 then 7 else 5

/-- POISON_TRAP: a retiring access of a Dale core consumes the mark of the line at `addr`; `src.1` names a response of 3 a register or device or
4 PCI Express, whose mark no memory holds, and `src.2` says that the trap is delegated to supervisor mode, where spcause holds the
value of mpcause. -/
def execPoisonTrap (core kind va addr : Nat) (src : Nat × Bool) (s : State) : Host.Outcome State Fault Refusal :=
  .next (
    let from0 := if inDram s.code addr then 0 else if inBedStore addr then 1 else if featureBase ≤ addr ∧ addr < featureBase + s.code.featureSize then 2
      else if src.1 = 4 then 4 else 3
    if s.canopyOn = false ∨ 16 ≤ core ∨ (from0 < 3 ∧ s.mem.poisoned (addr / 64 * 64) 64 = false) then s
    else
      let v := 2 ^ 63 + from0 * 2 ^ 60 + addr / 64 % 2 ^ 34 * 64
      let old := SMap.get (fun _ => ({} : CoreTrap)) s.traps core
      let t : CoreTrap := ⟨poisonCause kind, va, src.2, v, if src.2 then v else old.spcause⟩
      { s with traps := SMap.set (fun _ => {}) s.traps core t })

/-! ### Patrol scrub and line commands (R422, R426) -/

/-- A write refused: 1 RANGE, 2 BUSY, 3 MARKED, 4 ABSENT. -/
def State.memReject (s : State) (cause sub : Nat) : State :=
  ((s.wr F.MEM_BADCFG_CAUSE cause).wr F.MEM_BADCFG_SUB sub).flag F.MEM_STAT_CFGREJ F.MEM_CTL_IE_CFG

/-- One scrub visit: a corrected line is written back corrected, an uncorrectable one poisoned. -/
def State.scrubLine (s : State) (a : Nat) : State × Decode :=
  let r := s.decodeLine 12 3 a
  (if r.2.out = 1 then r.1.setErrs a [] else r.1, r.2)

/-- The time between two scrub visits in ns: a pass over every line takes PERIOD hours (R422). -/
def State.scrubStep (s : State) : Nat := s.rd F.MEM_SCRUB_PERIOD * 3600000000000 / (s.code.dramSize / 64)

/-- SCRUB_VISIT: the next line, with the symbols found wrong. -/
def execScrubVisit (wrong : List (Nat × Nat)) (s : State) : Host.Outcome State Fault Refusal :=
  .next (
    let l := s.rd F.MEM_SCRUBPOS_LINE
    if s.on F.MEM_SCRUB_EN = false ∨ s.lineOk (64 * l) = false ∨ s.now < s.dram.visited + s.scrubStep then s
    else
      let s := { s with dram := { s.dram with visited := s.now } }
      let t := ((s.setErrs (64 * l) (addErrs (s.lineErrs (64 * l)) wrong)).scrubLine (64 * l)).1
      if s.code.dramSize ≤ 64 * (l + 1) then
        (t.wr F.MEM_SCRUBPOS_LINE 0).setReg Reg.MEM_SCRUBPASS (BitVec.ofNat 32 (satAdd 32 (t.reg Reg.MEM_SCRUBPASS).toNat 1))
      else t.wr F.MEM_SCRUBPOS_LINE (l + 1))

/-- The line and the destination of a command. -/
def State.lineAddr (s : State) : Nat := s.rd F.MEM_LINEADDR_LO_ADDR * 64 + s.rd F.MEM_LINEADDR_HI_ADDR * 2 ^ 32
def State.lineDst (s : State) : Nat := s.rd F.MEM_DSTADDR_LO_ADDR * 64 + s.rd F.MEM_DSTADDR_HI_ADDR * 2 ^ 32

/-- The result of a command. -/
def State.lineResult (s : State) (result nsym pois : Nat) : State :=
  ((s.wr F.MEM_LINESTAT_RESULT result).wr F.MEM_LINESTAT_NSYM nsym).wr F.MEM_LINESTAT_POIS pois

/-- The wrong symbols INJECT gives a line. -/
def State.injectErrs (s : State) : List (Nat × Nat) :=
  (List.range (s.rd F.MEM_INJ_NSYM)).map (fun k => ((s.rd F.MEM_INJ_FIRST + k) % 80, s.rd F.MEM_INJ_MASK))

/-- One line copied with its mark; with whether it carried one. -/
def State.copyLine (s : State) (a b : Nat) : State × Bool :=
  let r := s.decodeLine 12 2 a
  let p := r.1.mem.marked a
  (r.1.store b (r.1.mem.readBytes a 64) p, p)

/-- A line command carried out: 1 ZERO, 2 SCRUB, 3 INJECT, 4 COPY. -/
def State.lineRun (s : State) (cmd : Nat) : State :=
  let a := s.lineAddr
  match cmd with
  | 1 => ((s.putZero a 64).setErrs a []).lineResult 1 0 0
  | 2 =>
    let r := s.scrubLine a
    r.1.lineResult (r.2.out + 1) (if r.2.out = 1 then r.2.nsym else 0) 0
  | 3 =>
    let r := s.decodeLine 12 2 a
    (r.1.setErrs a (addErrs [] r.1.injectErrs)).lineResult 1 0 0
  | 4 =>
    let r := (List.range 64).foldl (fun (x : State × Nat) i =>
      let y := x.1.copyLine (a + 64 * i) (s.lineDst + 64 * i)
      (y.1, if y.2 then x.2 + 1 else x.2)) (s, 0)
    r.1.lineResult 1 0 r.2
  | _ => s

/-- Whether a command's addresses are refused with RANGE. -/
def State.lineBad (s : State) (cmd : Nat) : Bool :=
  let a := s.lineAddr
  let b := s.lineDst
  decide (cmd = 0 ∨ 4 < cmd) || !inDram s.code a ||
    (decide (cmd = 4) && (decide (a % 4096 ≠ 0) || decide (b % 4096 ≠ 0) || !inDramRange s.code b 4096 || decide (a = b)))

/-- The line command that waits runs once the DRAM token is held for it. -/
def State.lineGo (s : State) : State :=
  match s.dram.cmd with
  | none => s
  | some c =>
    let r := s.tokAsk 0 ownerMem 2
    if r.2 = false then r.1
    else
      let t := r.1.lineRun c
      ((({ t with dram := { t.dram with cmd := none } }).wr F.MEM_LINECMD_BUSY 0).tokGive 0)

/-- The MEM_SCRUB write that waits takes effect once the DRAM token is held for it. -/
def State.scrubGo (s : State) : State :=
  match s.dram.scrub with
  | none => s
  | some v =>
    let r := s.tokAsk 0 ownerMem 1
    if r.2 = false then r.1
    else (({ r.1 with dram := { r.1.dram with scrub := none } }).applyWrite Reg.MEM_SCRUB v).tokGive 0

/-- What MEM holds back for its token goes on where the token has come free. -/
def State.memWaiting (s : State) : State := if s.canopyOn then s.lineGo.scrubGo else s

/-- A write of MEM_LINECMD. -/
def State.lineCmdWrite (s : State) (cmd : Nat) : State :=
  if s.on F.MEM_LINECMD_BUSY then s.memReject 2 0
  else if s.lineBad cmd then s.memReject 1 0
  else (({ s with dram := { s.dram with cmd := some cmd } }).wr F.MEM_LINECMD_BUSY 1).lineGo

/-- One of the four line commands: a write of MEM_LINECMD by `agent`. -/
def State.lineWrite (s : State) (agent : Agent) (cmd : Nat) : State := s.gate agent 0x11 0x03C (fun t => t.lineCmdWrite cmd)

/-- LINE_ZERO. -/
def execLineZero (agent : Agent) (s : State) : Host.Outcome State Fault Refusal := .next (s.lineWrite agent 1)

/-- LINE_SCRUB. -/
def execLineScrub (agent : Agent) (s : State) : Host.Outcome State Fault Refusal := .next (s.lineWrite agent 2)

/-- LINE_INJECT. -/
def execLineInject (agent : Agent) (s : State) : Host.Outcome State Fault Refusal := .next (s.lineWrite agent 3)

/-- LINE_COPY. -/
def execLineCopy (agent : Agent) (s : State) : Host.Outcome State Fault Refusal := .next (s.lineWrite agent 4)

/-! ### Device marks by software (R415) -/

/-- A write of MEM_SUBn_MARK. -/
def State.markWrite (s : State) (n : Nat) (v : W32) : State :=
  let d := getBits v 3 0
  if bitAt v.toNat 4 then (s.wr (F.MEM_SUBn_STAT_ERASE n) 0).wr (F.MEM_SUBn_STAT_FAILDEV n) 0xF
  else if 9 < d then s.memReject 1 n
  else
    match s.marking n with
    | none => s.markDevice n d
    | some m => if m = d then s else s.memReject 3 n

/-- DEVICE_MARK_SET. -/
def execDeviceMarkSet (agent : Agent) (n dev : Nat) (s : State) : Host.Outcome State Fault Refusal :=
  .next (if n < 8 then s.gate agent 0x11 (0x104 + 0x40 * n) (fun t => t.markWrite n (BitVec.ofNat 32 (dev % 16))) else s.fail)

/-- DEVICE_MARK_CLEAR. -/
def execDeviceMarkClear (agent : Agent) (n : Nat) (s : State) : Host.Outcome State Fault Refusal :=
  .next (if n < 8 then s.gate agent 0x11 (0x104 + 0x40 * n) (fun t => t.markWrite n 16) else s.fail)

/-! ### Start-up (R421) -/

/-- What DRAM start-up found: a subchannel that did not train, whether the checker test failed, the mismatching lines by subchannel
and device, and the duration in ms. -/
abbrev StartFound := Option Nat × Bool × List (Nat × Nat × Nat) × Nat

/-- Start-up fails: cause 1 TRAIN, 2 CHECKER, 3 DEVICES. -/
def State.startFail (s : State) (cause sub : Nat) : State :=
  (((s.wr F.MEM_START_STATE 3).wr F.MEM_START_CAUSE cause).wr F.MEM_START_SUB sub).record 0x11 0x44 sevFault 0 0 0

/-- The devices of subchannel `n` whose count has reached DEVTHR. -/
def State.overThr (s : State) (n : Nat) : List Nat :=
  (List.range 10).filter (fun d => decide (s.rd F.MEM_CTL_DEVTHR ≠ 0) && decide (s.rd F.MEM_CTL_DEVTHR ≤ s.rd (devCount n d)))

/-- DRAM start-up: every line zero and clean, hard failures marked, READY set. -/
def State.dramStart (s : State) (f : StartFound) : State :=
  let s := { s with dram := { s.dram with errs := [], cmd := none, scrub := none } }
  let s := (s.putZero 0 s.code.dramSize).wrSat F.MEM_START_MS f.2.2.2
  match f.1 with
  | some n => s.startFail 1 n
  | none =>
    let s : State := (List.range s.code.subs).foldl (fun x n => x.wr (F.MEM_SUBn_STAT_TRAINED n) 1) s
    if f.2.1 then s.startFail 2 0
    else
      let s : State := f.2.2.1.foldl (fun x c => if c.1 < s.code.subs ∧ c.2.1 < 10 then x.wrSat (devCount c.1 c.2.1) c.2.2 else x) s
      match (List.range s.code.subs).find? (fun n => decide (2 ≤ (s.overThr n).length)) with
      | some n => s.startFail 3 n
      | none =>
        let t : State := (List.range s.code.subs).foldl (fun x n =>
          match x.overThr n with
          | [d] => ((x.markDevice n d).memLog 7 12 0 0 (2 ^ d) (64 * n))
          | _ => x) s
        let any := (List.range s.code.subs).any (fun n => (t.marking n).isSome)
        (t.wr F.MEM_START_STATE (if any then 2 else 1)).wr F.MEM_STAT_READY 1

/-! ### Register writes and parity (R426) -/

/-- A write to the MEM block. -/
def State.memWrite (s : State) (off : Nat) (v : W32) : State :=
  let key := 0x11000 + off
  if off = 0x03C then s.lineCmdWrite (getBits v 3 0)
  else if off = 0x014 then (if listedAt key v then ({ s with dram := { s.dram with scrub := some v } }).scrubGo else s)
  else if off = 0x058 then (if bitAt v.toNat 0 then s.memPop else s)
  else if 0x100 ≤ off ∧ off < 0x300 ∧ off % 0x40 = 4 then s.markWrite ((off - 0x100) / 0x40) v
  else s.plainWrite key v

/-- What a parity fault does beyond returning the register to reset. -/
def State.memParity (s : State) : State := s.flag F.MEM_STAT_PARFLT F.MEM_CTL_IE_CFG

end Sys2Proof.Machine
end

