-- ==== Sys2Proof/Machine/Rings.lean ====
section
/-! DEFINITION. The commands of the RNG block (R86-R104): setting a ring up and disabling it, doorbells, and the engine's taking
of descriptors. -/

namespace Sys2Proof.Machine

/-! ### Set-up (R88, R89) -/

/-- Why an enabling write of RNG_QnCFG is refused: 1 BADSIZE, 2 BASEALIGN, 3 BASEPLACE, 4 BADCQ; 0 where it is not. Where several hold,
RNG_BADQ reports the first in the order of R88's list: DESIGN CHOICE, R88 gives no order (notes/assumptions/20.md). -/
def State.enableCause (s : State) (q : Nat) (v : W32) : Nat :=
  let n := getBits v 24 20
  let base := s.rd (F.RNG_QnBASE_BASE q) * 1024
  let size := 64 * 2 ^ n
  let cq := getBits v 6 0
  if n < 4 ∨ 16 < n then 1
  else if base % size ≠ 0 then 2
  else if (if ringBed q then inBedRange base size else inDramRange s.code base size || inBedRange base size) = false then 3
  else if getBits v 30 30 = 0 ∧
      (ringCount ≤ cq ∨ ringBlock cq ≠ ringBlock q ∨ s.on (F.RNG_QnCFG_EN cq) = false ∨ s.on (F.RNG_QnCFG_KIND cq) = false) then 4
  else 0

/-- A ring enabled: head 0, phase 1 (R89), with its RNG_WAITn bit where its engine waits (R102). -/
def State.ringStart (s : State) (q : Nat) (v : W32) : State :=
  let t := s.applyWrite (Reg.RNG_QnCFG q) v
  let u := ((t.wr (F.RNG_QnSTAT_HEAD q) 0).wr (F.RNG_QnSTAT_PHASE q) 1).wr (F.RNG_QnSTAT_STATE q) 1
  (((u.setRing q { u.ring q with idx := 0, mismatch := none }).mapBit (Reg.RNG_HALTn 0) q false).mapBit (Reg.RNG_WAITn 0) q
    (u.engineWaits q)).fullBit q

/-- A write of RNG_QnCFG: refused with ENABLED where it changes any field but EN of an enabled ring, stopping a ring with
EN = 0, checked under R88 where it enables one, and plain otherwise. -/
def State.ringCfgWrite (s : State) (q : Nat) (v : W32) : State :=
  let key := Reg.RNG_QnCFG q
  if s.on (F.RNG_QnCFG_EN q) then
    if (setBits (s.reg key) 31 31 0) &&& 0x41FF007F ≠ (setBits v 31 31 0) &&& 0x41FF007F then s.ringRefuse q 5
    else if getBits v 31 31 = 0 then s.ringStop q
    else s
  else if getBits v 31 31 = 1 ∧ (getBits v 24 20 < 4 ∨ 16 < getBits v 24 20) then s.ringRefuse q 1
  else if listedAt key v = false then s
  else if getBits v 31 31 = 0 then s.applyWrite key v
  else
    let cause := s.enableCause q v
    if cause = 0 then s.ringStart q v else s.ringRefuse q cause

/-- A write of RNG_QnBASE: refused with ENABLED while EN is 1 (R88). -/
def State.ringBaseWrite (s : State) (q : Nat) (v : W32) : State :=
  if s.on (F.RNG_QnCFG_EN q) then s.ringRefuse q 5 else s.plainWrite (Reg.RNG_QnBASE q) v

/-- RING_ENABLE. -/
def execRingEnable (agent : Agent) (q : Nat) (value : W32) (s : State) : Host.Outcome State Fault Refusal :=
  .next (if q < ringCount then s.gate agent 0x06 (0x404 + 0x10 * q) (fun t => t.ringCfgWrite q (setBits value 31 31 1)) else s.fail)

/-- RING_DISABLE: a write of EN = 0 that leaves every other field as it is. -/
def execRingDisable (agent : Agent) (q : Nat) (s : State) : Host.Outcome State Fault Refusal :=
  .next (if q < ringCount then
    s.gate agent 0x06 (0x404 + 0x10 * q) (fun t => t.ringCfgWrite q (setBits (t.reg (Reg.RNG_QnCFG q)) 31 31 0))
  else s.fail)

/-! ### Doorbells (R92, R93) -/

/-- A doorbell: refused with NOTEN or BADDB, else a new tail or a new consumer's index. -/
def State.doorbell (s : State) (q idx : Nat) : State :=
  if s.on (F.RNG_QnCFG_EN q) = false then s.doorbellRefuse q 7
  else if s.ringSize q ≤ idx then s.doorbellRefuse q 6
  else
    let r := s.ring q
    if s.on (F.RNG_QnCFG_KIND q) then
      if s.unconsumed q < (idx + s.ringSize q - r.idx) % s.ringSize q then s.doorbellRefuse q 6
      else (s.setRing q { r with idx := idx }).fullBit q
    else s.setRing q { r with idx := idx }

/-- SUBMISSION_DOORBELL. -/
def execSubmissionDoorbell (agent : Agent) (q : Nat) (value : W32) (s : State) : Host.Outcome State Fault Refusal :=
  .next (if q < ringCount then s.gate agent 0x06 (0x408 + 0x10 * q) (fun t => t.doorbell q (getBits value 15 0)) else s.fail)

/-- COMPLETION_DOORBELL. -/
def execCompletionDoorbell (agent : Agent) (q : Nat) (value : W32) (s : State) : Host.Outcome State Fault Refusal :=
  .next (if q < ringCount then s.gate agent 0x06 (0x408 + 0x10 * q) (fun t => t.doorbell q (getBits value 15 0)) else s.fail)

/-! ### Taking a descriptor (R92-R100) -/

/-- A descriptor line parsed under R94. -/
def parseDesc (idx : Nat) (cq : Fin 128) (b : Bytes) : Desc :=
  let h := leAt b 0 8
  { idx := idx, op := bitsOf h 7 0, cpl := bitAt h 8, irq := bitAt h 9, fence := bitAt h 10, tmode := bitsOf h 12 11,
    eflags := bitsOf h 23 16, tag := bitsOf h 47 32, deadline := leAt b 8 8, payload := (b.drop 16).take 48,
    running := true, started := 0, late := 0, poison := false, cq := cq }

/-- The PHASE bit of a descriptor line. -/
def linePhase (b : Bytes) : Nat := bitsOf (leAt b 0 8) 63 63

/-- Whether the header's reserved fields are 0, TMODE is not 3, and DEADLINE is 0 where TMODE is 0 (R94, R96). That a DEADLINE that is not 0
under TMODE 0 answers BADDESC, ahead of BADOP, is a DESIGN CHOICE (notes/assumptions/21.md). -/
def headerOk (b : Bytes) : Bool :=
  let h := leAt b 0 8
  decide (bitsOf h 62 48 = 0) && decide (bitsOf h 31 24 = 0) && decide (bitsOf h 15 13 = 0) &&
    decide (bitsOf h 12 11 ≠ 3) && (decide (bitsOf h 12 11 ≠ 0) || decide (leAt b 8 8 = 0))

/-- Whether the engine of ring `q` is powered. -/
def State.engineOn (s : State) (q : Nat) : Bool := if ringBed q then s.bedOn else s.canopyOn

/-- Whether the engine of ring `q` has room for a further descriptor: a CAN controller holds at most 32 ring frames (R362). -/
def State.engineRoom (s : State) (q : Nat) : Bool :=
  if 48 ≤ q ∧ q < 56 then decide (((s.ring q).taken.filter (fun d => d.running && decide (d.op = 1))).length < 32) else true

/-- Whether the engine may take the entry at the head of ring `q`: the ring is an enabled submission ring the engine serves,
not halted, with an entry before the tail; the engine does not wait on the tracker; no descriptor holds the ring; and the
completion ring has a free slot. An enabled ring of the other kind than its engine gives it takes no entry, so no slot is awaited (R87). -/
def State.takeReady (s : State) (q : Nat) : Bool :=
  let held := (s.ring q).taken.filter (fun d => !d.running)
  s.engineOn q && s.on (F.RNG_QnCFG_EN q) && !s.on (F.RNG_QnCFG_KIND q) && isSubmission q &&
    decide (s.rd (F.RNG_QnSTAT_STATE q) = 1) && decide (s.ringHead q ≠ (s.ring q).idx) && !s.mapOn (Reg.RNG_WAITn 0) q &&
    !held.any (fun d => d.fence) && (held.isEmpty || decide (0 < schedSize q)) &&
    s.on (F.RNG_QnCFG_EN (s.cqOf q)) && s.on (F.RNG_QnCFG_KIND (s.cqOf q)) &&
    (isSubmission (s.cqOf q) || decide (0 < s.slots (s.cqOf q))) && s.engineRoom q && !absentReg s.code 0x06 (0x400 + 0x10 * q)

/-- Whether the entry at the head of ring `q` finds the engine's scheduler full: one more waiting descriptor holds the ring, any other passes (R98,
R136, R269, R305, R347, R362). -/
def State.schedHolds (s : State) (q : Nat) : Bool :=
  let a := s.ringAddr q (s.ringHead q)
  let b := s.mem.readBytes a 64
  let d := parseDesc 0 0 b
  decide (0 < schedSize q) && decide (schedSize q ≤ ((s.ring q).taken.filter (fun d => !d.running)).length) && !s.mem.poisoned a 64 &&
    headerOk b && knownOp q d.op && decide (d.tmode = 1) && decide (s.now < d.deadline)

/-- The entry at the head of ring `q` is taken: its slot is reserved and the head moves on. A poisoned line, a bad header and
an unknown opcode complete at once (R96, R97); a descriptor before its AT time or behind a fence is held; any other runs. -/
def State.takeLine (s : State) (q : Nat) : State :=
  let a := s.ringAddr q (s.ringHead q)
  let b := s.mem.readBytes a 64
  let c := s.cqOf q
  let poisoned := s.mem.poisoned a 64
  let d0 := parseDesc (s.ringHead q) (Fin.ofNat 128 c) b
  let d := if poisoned then { d0 with op := 0, tag := 0, cpl := true, irq := true, fence := false, tmode := 0, deadline := 0,
                                      eflags := 0, payload := [] } else d0
  let t := (s.setRing c { s.ring c with reserved := (s.ring c).reserved + 1 }).advance q
  let early := (t.ring q).taken
  let bad := if poisoned then 3 else if headerOk b = false then 2 else if knownOp q d.op = false then 1 else 0
  let waits := decide (bad = 0) && ((d.fence && !early.isEmpty) ||
    (decide (d.tmode = 1) && !ownTiming q d.op && decide (s.now < d.deadline)))
  let late := if bad = 0 ∧ waits = false ∧ d.tmode = 1 ∧ ownTiming q d.op = false then s.now - d.deadline else 0
  let e := { d with running := !waits, started := if waits then 0 else s.now, late := late }
  let u := t.setRing q { t.ring q with taken := early ++ [e], mismatch := none }
  if bad = 0 then u else (if poisoned then u.poisonLine q else u).complete q e { status := bad }

/-- DESCRIPTOR_TAKE. A head entry without the expected phase is left in place for the second reading. -/
def execDescriptorTake (q : Nat) (s : State) : Host.Outcome State Fault Refusal :=
  .next (
    if q < ringCount ∧ s.takeReady q = true ∧ (s.ring q).mismatch = none then
      let a := s.ringAddr q (s.ringHead q)
      if s.mem.poisoned a 64 = false ∧ linePhase (s.mem.readBytes a 64) ≠ s.rd (F.RNG_QnSTAT_PHASE q) then
        s.setRing q { s.ring q with mismatch := some s.now }
      else if s.schedHolds q then s
      else s.takeLine q
    else s)

/-- PHASE_RECHECK: 1 µs after the mismatch the engine reads the entry again; the ring halts with PHASEERR where it still
mismatches (R92). -/
def execPhaseRecheck (q : Nat) (s : State) : Host.Outcome State Fault Refusal :=
  .next (
    match (s.ring q).mismatch with
    | some at0 =>
      if q < ringCount ∧ s.takeReady q = true ∧ at0 + 1000 ≤ s.now then
        let a := s.ringAddr q (s.ringHead q)
        if s.mem.poisoned a 64 = false ∧ linePhase (s.mem.readBytes a 64) ≠ s.rd (F.RNG_QnSTAT_PHASE q) then
          (((s.setRing q { s.ring q with mismatch := none }).wr (F.RNG_QnSTAT_STATE q) 2).mapBit (Reg.RNG_HALTn 0) q true).ringErr q 8
        else if s.schedHolds q then s.setRing q { s.ring q with mismatch := none }
        else s.takeLine q
      else s
    | none => s)

/-- The first held descriptor whose AT time has come starts; a fenced one only at the front (R98, R100). -/
def startHeld (now : Nat) (front : Bool) : List Desc → List Desc
  | [] => []
  | d :: r =>
    if d.running = false ∧ d.tmode = 1 ∧ d.deadline ≤ now ∧ (d.fence = false ∨ front = true) then
      { d with running := true, started := now, late := now - d.deadline } :: r
    else d :: startHeld now false r

/-- AT_DEADLINE_START. -/
def execAtDeadlineStart (q : Nat) (s : State) : Host.Outcome State Fault Refusal :=
  .next (if s.engineOn q then s.setRing q { s.ring q with taken := startHeld s.now true (s.ring q).taken } else s)

end Sys2Proof.Machine
end

