-- ==== Sys2Proof/Machine/Can.lean ====
section
/-! DEFINITION. The CAN controllers (R351-R371): controller states, acceptance and delivery, the transmit queue, address claim and the
partner table. -/

namespace Sys2Proof.Machine

/-! ### State access -/

/-- Controllers by code (R2). -/
def Code.cans (c : Code) : Nat := c.pick 8 6 4

/-- A controller. -/
def State.ctl (s : State) (c : Nat) : Can := SMap.get (fun _ => {}) s.can.ctl c

/-- A controller set, with its count of ring frames held. -/
def State.setCtl (s : State) (c : Nat) (x : Can) : State :=
  let n := (x.pend.filter (fun f => match f.kind with
    | .ring _ => true
    | _ => false)).length
  ({ s with can := { s.can with ctl := SMap.set (fun _ => {}) s.can.ctl c x } }).wrSat (F.CAN_CHc_TXPEND_RING c) n

/-- The state of controller `c`: 0 OFF, 1 DETECT, 2 ACTIVE, 3 LISTEN, 4 BUSOFF, 5 STANDBY. -/
def State.canState (s : State) (c : Nat) : Nat := s.rd (F.CAN_CHc_STAT_STATE c)

/-- The claim state of controller `c`: 0 IDLE, 1 CLAIMING, 2 CLAIMED, 3 CANNOTCLAIM. -/
def State.claimState (s : State) (c : Nat) : Nat := s.rd (F.CAN_CHc_CLMSTAT_STATE c)

/-- The claim state set, with the controller's bit in CAN_CLAIMMAP. -/
def State.setClaim (s : State) (c st : Nat) : State :=
  (s.wr (F.CAN_CHc_CLMSTAT_STATE c) st).wrB ⟨Reg.CAN_CLAIMMAP, c, c⟩ (decide (st = 2))

/-- The NAME of controller `c`. -/
def State.canName (s : State) (c : Nat) : Nat := s.rd (F.CAN_CHc_NAME_HI_NAME c) * 2 ^ 32 + s.rd (F.CAN_CHc_NAME_LO_NAME c)

/-- The CAN frame stamp (R61). -/
def canStamp (t : Nat) : Nat := t / 1000 % 2 ^ 32

/-- The Sundial time of the start of frame stamped `stamp`, from a Sundial time less than 2^32 µs after it (R356). -/
def canSof (tref stamp : Nat) : Nat := (tref / 1000 - (tref / 1000 + 2 ^ 32 - stamp) % 2 ^ 32) * 1000

/-- The length a DLC codes under ISO 11898-1. -/
def dlcLen (fdf : Bool) (dlc : Nat) : Nat :=
  if dlc ≤ 8 then dlc
  else if fdf = false then 8
  else [12, 16, 20, 24, 32, 48, 64].getD (dlc - 9) 64

/-! ### Events and refusals -/

/-- An event entry on rings 62 and 63; `rec` records it with that severity. -/
def State.canEvent (s : State) (tag c addr slot name : Nat) (rec : Option Nat) : State :=
  let r := resultOf [(24, 1, c), (25, 1, addr), (26, 2, slot), (28, 8, s.now), (36, 8, name)]
  let t := (((s.eventEntry 62 0x80 tag 0 r true).1).eventEntry 63 0x80 tag 0 r true).1
  match rec with
  | some sev => t.record 0x0D tag sev (leAt r 0 1) (leAt r 12 4) (leAt r 1 3)
  | none => t

/-- An event of controller `c` with its current address and no partner. -/
def State.ctlEvent (s : State) (tag c : Nat) (rec : Option Nat) : State :=
  s.canEvent tag c (s.rd (F.CAN_CHc_CLAIM_CUR c)) 0xFFFF 0 rec

/-- A configuration write refused: 1 ENABLED, 2 RANGE, 3 PLACE, 4 ACCPOISON, 5 NOWAKE. -/
def State.canReject (s : State) (c cause : Nat) : State :=
  ((s.wr F.CAN_BADCFG_CAUSE cause).wr F.CAN_BADCFG_CH c).flag F.CAN_STAT_CFGREJ F.CAN_CTL_IE_CFG

/-- A poison event. -/
def State.canPoison (s : State) : State := (s.inc F.CAN_POISCNT_CNT).flag F.CAN_STAT_POISON F.CAN_CTL_IE_POIS

/-! ### Error counters (R353) -/

/-- ERRST from the counters, with an ERRPASSIVE event at entry and exit. -/
def State.errState (s : State) (c : Nat) : State :=
  let st := if 127 < (s.ctl c).tec ∨ 127 < s.rd (F.CAN_CHc_STAT_REC c) then 1 else 0
  if s.rd (F.CAN_CHc_STAT_ERRST c) = 2 ∨ s.rd (F.CAN_CHc_STAT_ERRST c) = st then s
  else (s.wr (F.CAN_CHc_STAT_ERRST c) st).ctlEvent 4 c none

/-- The transmit error counter set; above 255 the controller goes to BUSOFF. -/
def State.setTec (s : State) (c n : Nat) : State :=
  let t := (s.setCtl c { s.ctl c with tec := n }).wrSat (F.CAN_CHc_STAT_TEC c) n
  if 255 < n ∧ t.canState c = 2 then
    (((t.wr (F.CAN_CHc_STAT_STATE c) 4).wr (F.CAN_CHc_STAT_ERRST c) 2).flag F.CAN_STAT_BUSOFF F.CAN_CTL_IE_BUS).ctlEvent 2 c (some sevFault)
  else t.errState c

/-- A bus error met: counted and named in LASTERR. -/
def State.busError (s : State) (c err : Nat) : State := (s.wr (F.CAN_CHc_STAT_LASTERR c) err).inc (F.CAN_CHc_ERRCNT_ERRS c)

/-- ALONE and SUSP of controller `c` end (R365). -/
def State.aloneEnd (s : State) (c : Nat) : State :=
  ((s.wr (F.CAN_CHc_STAT_ALONE c) 0).wr (F.CAN_CHc_STAT_SUSP c) 0).wr ⟨Reg.CAN_ALONEMAP, c, c⟩ 0

/-! ### Frames waiting -/

/-- A frame added behind those that wait. -/
def State.pendFrame (s : State) (c : Nat) (f : TxFrame) : State := s.setCtl c { s.ctl c with pend := (s.ctl c).pend ++ [f] }

/-- An Address Claimed frame from source `sa`: PGN 60928, priority 6, destination 0xFF (R366). -/
def State.pendClaim (s : State) (c sa : Nat) : State :=
  let x := s.ctl c
  let f : TxFrame := { kind := .claim, id := 2 ^ 31 + 0x18EEFF00 + sa, dlc := 8, data := leBytes 8 (s.canName c), sasub := false }
  s.setCtl c { x with pend := x.pend.filter (fun g => decide (g.kind ≠ .claim) || g.begun) ++ [f], claimAt := none }

/-- A network management frame of kind `b` with bytes 2 and 3 (R481). -/
def State.pendMgmt (s : State) (c b hold : Nat) : State :=
  let data : Bytes := leBytes 1 0x4E ++ leBytes 1 b ++ leBytes 2 hold ++ List.replicate 4 0xFF
  s.pendFrame c { kind := .mgmt, id := 2 ^ 31 + 0x18EFFF00 + s.rd (F.CAN_CHc_CLAIM_CUR c), dlc := 8, data := data, sasub := false }

/-- The identifier a frame is sent with: the controller's address replaces bits [7:0] under SASUB. -/
def State.sentId (s : State) (c : Nat) (f : TxFrame) : Nat :=
  if f.sasub then f.id / 256 * 256 + s.rd (F.CAN_CHc_CLAIM_CUR c) else f.id

/-- The arbitration value of an ID word: the lower wins. -/
def arbValue (id : Nat) : Nat :=
  if bitAt id 31 then bitsOf id 28 18 * 2 ^ 19 + 2 ^ 18 + bitsOf id 17 0 else bitsOf id 10 0 * 2 ^ 19

/-- The rank of a frame among equals: claim frames first, then buffer frames, then ring frames. -/
def TxKind.rank (k : TxKind) : Nat :=
  match k with
  | .claim => 0
  | .mgmt => 1
  | .buffer _ => 2
  | .ring _ => 3

/-- Whether frame `f` may start: a SASUB frame only while the claim state is CLAIMED; a buffer frame behind one that has begun waits. -/
def State.mayStart (s : State) (c : Nat) (f : TxFrame) : Bool :=
  !f.begun && (!f.sasub || decide (s.claimState c = 2))

/-- The frame the controller starts next (R361). -/
def State.nextFrame (s : State) (c : Nat) : Option TxFrame :=
  ((s.ctl c).pend.filter (fun f => s.mayStart c f)).foldl (fun o f =>
    match o with
    | none => some f
    | some g =>
      let a := arbValue (s.sentId c f)
      let b := arbValue (s.sentId c g)
      if a < b ∨ (a = b ∧ f.kind.rank < g.kind.rank) then some f else some g) none

/-- The frame in transmission. -/
def State.onBus (s : State) (c : Nat) : Option TxFrame := (s.ctl c).pend.find? (fun f => f.begun)

/-- The first frame equal to `f` replaced by `l`. -/
def swapFrame (f : TxFrame) (l : List TxFrame) : List TxFrame → List TxFrame
  | [] => []
  | g :: r => if g = f then l ++ r else g :: swapFrame f l r

/-- The waiting list with `f` replaced by `l`. -/
def State.swap (s : State) (c : Nat) (f : TxFrame) (l : List TxFrame) : State :=
  s.setCtl c { s.ctl c with pend := swapFrame f l (s.ctl c).pend }

/-- CAN_FRAME_START: the pending frame with the lowest arbitration value starts. -/
def execCanFrameStart (c : Nat) (s : State) : Host.Outcome State Fault Refusal :=
  .next (
    if s.bedOn = true ∧ c < s.code.cans ∧ s.canState c = 2 ∧ s.on (F.CAN_CHc_STAT_SUSP c) = false ∧ s.onBus c = none then
      match s.nextFrame c with
      | some f => s.swap c f [{ f with begun := true, starts := f.starts + 1, stamp := canStamp s.now, id := s.sentId c f }]
      | none => s
    else s)

/-- A ring frame completes with a status. -/
def State.frameDone (s : State) (c : Nat) (f : TxFrame) (st : Nat) : State :=
  match f.kind with
  | .ring d => s.complete (48 + c) d { status := st, bytes := if st = 0 then resultOf [(24, 4, f.stamp), (28, 1, min f.starts 255)] else [] }
  | _ => s

/-- The CANCELs that waited for the marked frame complete; `sent` says whether it was acknowledged (R363). -/
def State.settleCancels (s : State) (c : Nat) (sent : Bool) : State :=
  let l := (s.ctl c).cancels
  l.foldl (fun x p => x.complete (48 + c) p.1
    { bytes := resultOf [(24, 4, p.2 + (if sent then 0 else 1)), (28, 4, if sent then 1 else 0)] }) (s.setCtl c { s.ctl c with cancels := [] })

/-- CAN_FRAME_ACKNOWLEDGED. -/
def execCanFrameAcknowledged (c : Nat) (s : State) : Host.Outcome State Fault Refusal :=
  .next (
    match s.onBus c with
    | none => s
    | some f =>
      let t := (s.swap c f []).wideAdd Reg.CAN_TXCNT_LO 1
      let t := t.wr (F.CAN_CHc_ERRCNT_ACKSTREAK c) 0
      let t := t.setTec c ((t.ctl c).tec - 1)
      let t := if f.kind = .claim then t.setCtl c { t.ctl c with claimAt := some s.now } else t
      let t := t.frameDone c f 0
      if f.marked then t.settleCancels c true else t)

/-- 128 transmissions in a row without an acknowledgement (R365). -/
def State.ackError (s : State) (c : Nat) : State :=
  let t := s.inc (F.CAN_CHc_ERRCNT_ACKSTREAK c)
  if s.rd (F.CAN_CHc_ERRCNT_ACKSTREAK c) = 127 then
    let t := (t.wr (F.CAN_CHc_STAT_ALONE c) 1).wr ⟨Reg.CAN_ALONEMAP, c, c⟩ 1
    let t := if t.on (F.CAN_CHc_CTL_ALONEHOLD c) then t.wr (F.CAN_CHc_STAT_SUSP c) 1 else t
    (t.flag F.CAN_STAT_ALONE F.CAN_CTL_IE_ALONE).ctlEvent 1 c none
  else t

/-- CAN_FRAME_LOST: the frame is pending again; a marked one, and any frame of a controller that is off, ends here. -/
def execCanFrameLost (c err : Nat) (s : State) : Host.Outcome State Fault Refusal :=
  .next (
    match s.onBus c with
    | none => s
    | some f =>
      if 6 < err then s
      else
        let off := decide (s.canState c = 0)
        let t := if f.marked ∨ off = true then s.swap c f [] else s.swap c f [{ f with begun := false }]
        let t :=
          if err = 0 then t
          else
            let u := t.busError c err
            let u := if err = 3 then u.ackError c else u
            if err = 3 ∧ s.rd (F.CAN_CHc_STAT_ERRST c) = 1 then u else u.setTec c ((u.ctl c).tec + 8)
        if f.marked then (t.frameDone c f 0x43).settleCancels c false
        else if off = true then t.frameDone c f 0x41
        else t)

/-- CAN_RECEIVE_ERROR: the receive error counter grows by `inc`. -/
def execCanReceiveError (c err inc : Nat) (s : State) : Host.Outcome State Fault Refusal :=
  .next (
    if s.bedOn = false ∨ s.code.cans ≤ c ∨ (s.canState c ≠ 2 ∧ s.canState c ≠ 3) ∨ err = 0 ∨ 6 < err then s
    else ((s.busError c err).incBy (F.CAN_CHc_STAT_REC c) inc).errState c)

/-- BUS_OFF_RECOVERY. -/
def execBusOffRecovery (c : Nat) (s : State) : Host.Outcome State Fault Refusal :=
  .next (
    if s.bedOn = true ∧ s.canState c = 4 ∧ s.on (F.CAN_CHc_CTL_AUTOREC c) = true then
      let t := ((s.wr (F.CAN_CHc_STAT_STATE c) 2).wr (F.CAN_CHc_STAT_ERRST c) 0).wr (F.CAN_CHc_STAT_REC c) 0
      ((t.setCtl c { t.ctl c with tec := 0 }).wr (F.CAN_CHc_STAT_TEC c) 0).ctlEvent 3 c none
    else s)

/-- A write of CAN_ALONEMAP. -/
def State.aloneWrite (s : State) (v : W32) : State :=
  (List.range 8).foldl (fun x c => if bitAt v.toNat c ∧ x.on ⟨Reg.CAN_ALONEMAP, c, c⟩ then x.aloneEnd c else x) s

/-- ALONE_CLEAR. -/
def execAloneClear (agent : Agent) (value : W32) (s : State) : Host.Outcome State Fault Refusal :=
  .next (s.gate agent 0x0D 0x030 (fun t => t.aloneWrite value))

/-! ### Descriptors (R362, R363) -/

/-- The payload of a SEND: ID word, DLC, SASUB, and the address of its data where it is INDIRECT; none where it breaks the rules. -/
def sendDesc (d : Desc) : Option (Nat × Nat × Bool × Option Nat) :=
  let id := d.le 16 4
  let dlc := d.le 20 1
  let fl := d.le 21 1
  let fdf := bitAt id 30
  let ind := bitAt fl 1
  if 15 < dlc ∨ 3 < fl ∨ (fdf = false ∧ 8 < dlc) ∨ (bitAt id 29 = true ∧ fdf = false) ∨ (40 < dlcLen fdf dlc ∧ ind = false) ∨
      (bitAt id 31 = false ∧ 0x7FF < bitsOf id 28 0) ∨ (ind = true ∧ d.le 24 8 % 64 ≠ 0) then none
  else some (id, dlc, bitAt fl 0, if ind then some (d.le 24 8) else none)

/-- Whether a SASUB frame has no address to send from (R362). -/
def State.noAddr (s : State) (c : Nat) : Bool := decide (s.claimState c = 3) || !s.on (F.CAN_CHc_CTL_CLAIM c)

/-- A SEND taken: it completes with an error, or its frame is pending. -/
def State.sendFrame (s : State) (c : Nat) (d : Desc) : State :=
  let q := 48 + c
  match sendDesc d with
  | none => s.complete q d { status := 2 }
  | some (id, dlc, sasub, ind) =>
    let len := dlcLen (bitAt id 30) dlc
    if s.canState c ≠ 2 ∧ s.canState c ≠ 4 then s.complete q d { status := 0x40 }
    else if sasub = true ∧ s.noAddr c = true then s.complete q d { status := 0x42 }
    else
      match ind with
      | none => s.pendFrame c { kind := .ring d, id := id, dlc := dlc, data := (d.payload.drop 8).take len, sasub := sasub }
      | some a =>
        if inBedRange a len = false then s.complete q d { status := 5 }
        else if s.mem.poisoned a len then s.canPoison.complete q d { status := 0x44 }
        else s.pendFrame c { kind := .ring d, id := id, dlc := dlc, data := s.mem.readBytes a len, sasub := sasub }

/-- SEND: the oldest running SEND of the ring whose frame is not yet pending. -/
def execSendCmd (q : Nat) (s : State) : Host.Outcome State Fault Refusal :=
  .next (
    if q < 48 ∨ 56 ≤ q then s
    else
      let c := q - 48
      match (s.ring q).taken.find? (fun d => d.running && decide (d.op = 1) && !(s.ctl c).pend.any (fun f => decide (f.kind = .ring d))) with
      | some d => s.sendFrame c d
      | none => s)

/-- The TAG of a ring frame. -/
def TxFrame.hasTag (f : TxFrame) (tag : Nat) : Bool :=
  match f.kind with
  | .ring d => decide (d.tag = tag)
  | _ => false

/-- CAN_CANCEL: frames that have not begun complete CANCELLED; one that has is marked, and the CANCEL waits for it. -/
def execCanCancel (q : Nat) (s : State) : Host.Outcome State Fault Refusal :=
  .next (
    if q < 48 ∨ 56 ≤ q then s
    else
      let c := q - 48
      match (s.ring q).taken.find? (fun d => d.running && decide (d.op = 2) && !(s.ctl c).cancels.any (fun p => decide (p.1 = d))) with
      | none => s
      | some d =>
        let tag := d.le 20 2
        if d.tmode ≠ 0 then s.complete q d { status := 2 }
        else
          let gone := (s.ctl c).pend.filter (fun f => f.hasTag tag && !f.begun)
          let t := gone.foldl (fun x f => (x.swap c f []).frameDone c f 0x43) s
          match (t.ctl c).pend.find? (fun f => f.hasTag tag && f.begun) with
          | some f =>
            let u := t.swap c f [{ f with marked := true }]
            u.setCtl c { u.ctl c with cancels := (u.ctl c).cancels ++ [(d, gone.length)] }
          | none => t.complete q d { bytes := resultOf [(24, 4, gone.length)] })

/-! ### Furrow's transmit buffers (R364) -/

/-- A field a Furrow release overlays: bit position, width, value, and whether it is big-endian. -/
structure Overlay where
  off : Nat
  width : Nat
  value : Nat
  big : Bool
  deriving DecidableEq, Repr

/-- The place of bit `k` of a field in a run of bytes: byte and bit. Little-endian fields count up from bit 0 of byte 0; big-endian
fields count down from the most significant bit of byte 0. -/
def bitPlace (big : Bool) (k : Nat) : Nat × Nat := if big then (k / 8, 7 - k % 8) else (k / 8, k % 8)

/-- One bit of a run of bytes set to a truth value. -/
def setBitAt (b : Bytes) (p : Nat × Nat) (v : Bool) : Bytes :=
  b.zipIdx.map (fun x => if x.2 = p.1 then (if v then x.1 ||| BitVec.ofNat 8 (2 ^ p.2) else x.1 &&& ~~~ BitVec.ofNat 8 (2 ^ p.2)) else x.1)

/-- A field written into a run of bytes. -/
def overlayField (b : Bytes) (o : Overlay) : Bytes :=
  (List.range o.width).foldl (fun x i =>
    setBitAt x (bitPlace o.big (o.off + i)) (o.value.testBit (if o.big then o.width - 1 - i else i))) b

/-- A field read from a run of bytes. -/
def fieldOf (b : Bytes) (big : Bool) (off width : Nat) : Nat :=
  (List.range width).foldl (fun v i =>
    let p := bitPlace big (off + i)
    let bit := ((b.getD p.1 0).toNat / 2 ^ p.2) % 2
    v + bit * 2 ^ (if big then width - 1 - i else i)) 0

/-- The frame of buffer `b` made pending: it replaces one that has not begun, or waits behind one that has. -/
def State.pendBuffer (s : State) (c b : Nat) (f : TxFrame) : State :=
  match (s.ctl c).pend.find? (fun g => decide (g.kind = .buffer b) && !g.begun) with
  | some g => (s.swap c g [f]).inc (F.CAN_CHc_TXPEND_REPLACE c)
  | none => s.pendFrame c f

/-- A Furrow release to transmit buffer `b` of controller `c`; the second component is false where it is refused. -/
def State.canRelease (s : State) (c b : Nat) (fields : List Overlay) : State × Bool :=
  let a := bedStoreBase + s.rd (F.CAN_CHc_TXBUF_OFF c) * 128 + 128 * b
  if s.code.cans ≤ c ∨ s.rd (F.CAN_CHc_TXBUF_NBUF c) ≤ b ∨ (s.canState c ≠ 2 ∧ s.canState c ≠ 4) then (s, false)
  else if s.mem.poisoned a 128 then (s.canPoison, false)
  else
    let id := s.mem.readLe a 4
    let dlc := s.mem.readLe (a + 4) 1
    let fl := s.mem.readLe (a + 5) 1
    let div := s.mem.readLe (a + 6) 2
    if bitAt fl 0 = true ∧ s.noAddr c = true then (s, false)
    else
      let data := (fields.foldl overlayField (s.mem.readBytes (a + 64) 64)).take (dlcLen (bitAt id 30) dlc)
      let x := s.ctl c
      let n := SMap.get (fun _ => 0) x.rel b + 1
      let t := s.setCtl c { x with rel := SMap.set (fun _ => 0) x.rel b n }
      let due := if bitAt fl 1 then decide (SMap.get (fun _ => []) x.lastData b ≠ leBytes 1 1 ++ data) else decide (n % div = 0)
      if div = 0 ∨ due = false then (t, true)
      else
        let y := t.ctl c
        let t := t.setCtl c { y with lastData := SMap.set (fun _ => []) y.lastData b (leBytes 1 1 ++ data) }
        (t.pendBuffer c b { kind := .buffer b, id := id, dlc := dlc, data := data, sasub := bitAt fl 0 }, true)

/-! ### The partner table (R367) -/

/-- Slots of the partner table. -/
def partnerSlots : Nat := 256

/-- The NAME of slot `k`, its state and its address. -/
def State.ptnName (s : State) (k : Nat) : Nat := SMap.get (fun _ => 0) s.can.names k
def State.ptnState (s : State) (k : Nat) : Nat := s.rd (F.CAN_PTNk_STATE k)
def State.ptnAddr (s : State) (k : Nat) : Nat := s.rd (F.CAN_PTNk_ADDR k)

/-- LIVE brought up to date. -/
def State.ptnLive (s : State) : State :=
  s.wr F.CAN_PTNCNT_LIVE ((List.range partnerSlots).filter (fun k => decide (s.ptnState k ≠ 0))).length

/-- The instant of the last frame of slot `k` set; AGE starts afresh. -/
def State.ptnSeen (s : State) (k : Nat) : State :=
  ({ s with can := { s.can with seen := SMap.set (fun _ => 0) s.can.seen k s.now } }).wr (F.CAN_PTNk_AGE k) 0

/-- A partner event. -/
def State.ptnEvent (s : State) (tag k : Nat) : State :=
  (s.flag F.CAN_STAT_PTN F.CAN_CTL_IE_PTN).canEvent tag (s.rd (F.CAN_PTNk_CH k)) (s.ptnAddr k) k (s.ptnName k) none

/-- The slot's NAME and the instant of its last claim in the NAME area. -/
def State.ptnArea (s : State) (k : Nat) : State :=
  s.put (bedStoreBase + s.rd F.CAN_PTNCFG_OFF * 4096 + 16 * k) (leBytes 8 (s.ptnName k) ++ leBytes 8 s.now)

/-- Slot `k` given a state and an address. -/
def State.ptnSet (s : State) (k c st addr : Nat) : State :=
  (((s.wr (F.CAN_PTNk_STATE k) st).wr (F.CAN_PTNk_CH k) c).wr (F.CAN_PTNk_ADDR k) addr).ptnLive

/-- Another PRESENT slot of the controller that holds the address. -/
def State.ptnHolder (s : State) (c addr k : Nat) : Option Nat :=
  (List.range partnerSlots).find? (fun j => decide (j ≠ k) && decide (s.ptnState j = 1) && decide (s.rd (F.CAN_PTNk_CH j) = c) &&
    decide (s.ptnAddr j = addr))

/-- Slot `k`, known or new, claims `addr`: where another PRESENT slot holds it the lower NAME keeps it. -/
def State.ptnClaim (s : State) (c addr k tag : Nat) : State :=
  match s.ptnHolder c addr k with
  | some j =>
    if s.ptnName k < s.ptnName j then
      let t := (s.ptnSet j c 3 0xFE).ptnEvent 12 j
      let t := (t.ptnSet k c 1 addr).ptnSeen k
      if tag = 0 then t.ptnArea k else (t.ptnArea k).ptnEvent tag k
    else (((s.ptnSet k c 3 0xFE).ptnSeen k).ptnArea k).ptnEvent 12 k
  | none =>
    let t := ((s.ptnSet k c 1 addr).ptnSeen k).ptnArea k
    if tag = 0 then t else t.ptnEvent tag k

/-- The LOST slot with the oldest last frame. -/
def State.oldestLost (s : State) : Option Nat :=
  ((List.range partnerSlots).filter (fun k => decide (s.ptnState k = 2))).foldl (fun o k =>
    match o with
    | none => some k
    | some j => if SMap.get (fun _ => 0) s.can.seen k < SMap.get (fun _ => 0) s.can.seen j then some k else some j) none

/-- An Address Claimed from `addr` with NAME `name` on controller `c` updates the table. -/
def State.partnerUpdate (s : State) (c addr name : Nat) : State :=
  match (List.range partnerSlots).find? (fun k => decide (s.ptnState k ≠ 0) && decide (s.rd (F.CAN_PTNk_CH k) = c) && decide (s.ptnName k = name)) with
  | some k =>
    if addr = 0xFE then (((s.ptnSet k c 3 0xFE).ptnSeen k).ptnArea k).ptnEvent 12 k
    else if s.ptnAddr k ≠ addr then s.ptnClaim c addr k 10
    else s.ptnClaim c addr k (if s.ptnState k = 2 then 9 else 0)
  | none =>
    let slot := match (List.range partnerSlots).find? (fun k => decide (s.ptnState k = 0)) with
      | some k => some k
      | none => s.oldestLost
    match slot with
    | some k =>
      let t := { s with can := { s.can with names := SMap.set (fun _ => 0) s.can.names k name } }
      if addr = 0xFE then (((t.ptnSet k c 3 0xFE).ptnSeen k).ptnArea k).ptnEvent 9 k
      else (t.ptnSet k c 3 0xFE).ptnClaim c addr k 9
    | none =>
      let t := s.inc F.CAN_PTNCNT_OVF
      if t.can.fullTold then t
      else ((({ t with can := { t.can with fullTold := true } }).flag F.CAN_STAT_PTN F.CAN_CTL_IE_PTN)).canEvent 13 c addr 0xFFFF name none

/-- A 29-bit frame from `addr` on controller `c` returns the AGE of the PRESENT or LOST slots that hold the address to 0; a LOST one
with no PRESENT holder is PRESENT again. -/
def State.partnerHeard (s : State) (c addr : Nat) : State :=
  let ks := (List.range partnerSlots).filter (fun k => (decide (s.ptnState k = 1) || decide (s.ptnState k = 2)) &&
    decide (s.rd (F.CAN_PTNk_CH k) = c) && decide (s.ptnAddr k = addr))
  let t := ks.foldl (fun x k => x.ptnSeen k) s
  if ks.any (fun k => decide (s.ptnState k = 1)) then t
  else
    match ks.head? with
    | some k => (t.ptnSet k c 1 addr).ptnEvent 9 k
    | none => t

/-- PARTNER_TIMEOUT: no frame from the entry's address for TMO s. -/
def execPartnerTimeout (k : Nat) (s : State) : Host.Outcome State Fault Refusal :=
  .next (
    let tmo := s.rd F.CAN_PTNCFG_TMO
    if s.bedOn = true ∧ k < partnerSlots ∧ s.can.stopped = false ∧ s.ptnState k = 1 ∧ tmo ≠ 0 ∧
        SMap.get (fun _ => 0) s.can.seen k + tmo * 1000000000 ≤ s.now then
      ((s.wrSat (F.CAN_PTNk_AGE k) ((s.now - SMap.get (fun _ => 0) s.can.seen k) / 1000000000)).wr (F.CAN_PTNk_STATE k) 2).ptnEvent 11 k
    else s)

/-- A write of CAN_PTNCFG: CLEAR frees every entry; tracking resumes after a parity fault. -/
def State.ptncfgWrite (s : State) (v : W32) : State :=
  let t := ({ s with can := { s.can with stopped := false } }).applyWrite Reg.CAN_PTNCFG v
  if bitAt v.toNat 31 then
    let u := (List.range partnerSlots).foldl (fun x k => x.resetReg (Reg.CAN_PTNk k)) t
    ({ u with can := { u.can with names := [], seen := [], fullTold := false } }).ptnLive
  else t

/-! ### Address claim (R366) -/

/-- ADDRESS_CLAIM: a controller in ACTIVE with CLAIM = 1 claims PREF. -/
def execAddressClaim (c : Nat) (s : State) : Host.Outcome State Fault Refusal :=
  .next (
    if s.bedOn = true ∧ c < s.code.cans ∧ s.canState c = 2 ∧ s.on (F.CAN_CHc_CTL_CLAIM c) = true ∧ s.claimState c = 0 then
      let pref := s.rd (F.CAN_CHc_CLAIM_PREF c)
      ((s.setClaim c 1).wr (F.CAN_CHc_CLAIM_CUR c) pref).pendClaim c pref
    else s)

/-- CLAIM_HOLDOFF_EXPIRY. -/
def execClaimHoldoffExpiry (c : Nat) (s : State) : Host.Outcome State Fault Refusal :=
  .next (
    match (s.ctl c).claimAt with
    | some t0 =>
      if s.bedOn = true ∧ s.claimState c = 1 ∧ (s.ctl c).contests = [] ∧ (s.ctl c).backoff = none ∧ t0 + 250000000 ≤ s.now then
        (s.setClaim c 2).ctlEvent 7 c none
      else s
    | none => s)

/-- The lowest address from MIN to MAX that no PRESENT partner of the controller holds and that was not lost. -/
def State.freeAddress (s : State) (c : Nat) : Option Nat :=
  let lo := s.rd (F.CAN_CHc_CLAIM_MIN c)
  let hi := s.rd (F.CAN_CHc_CLAIM_MAX c)
  ((List.range (hi + 1 - lo)).map (fun i => lo + i)).find? (fun a => !(s.ctl c).lost.contains a && (s.ptnHolder c a partnerSlots).isNone)

/-- CLAIM_CONTEST: the oldest contest is decided by NAME; the lower wins. -/
def execClaimContest (c r : Nat) (s : State) : Host.Outcome State Fault Refusal :=
  .next (
    match (s.ctl c).contests with
    | [] => s
    | name :: rest =>
      let own := s.canName c
      let x := s.ctl c
      let t := s.setCtl c { x with contests := rest }
      if name = own then t.inc (F.CAN_CHc_CLMSTAT_CONTESTS c)
      else if own < name then t.pendClaim c (t.rd (F.CAN_CHc_CLAIM_CUR c))
      else
        let cur := t.rd (F.CAN_CHc_CLAIM_CUR c)
        let keep := (t.ctl c).pend.filter (fun f => decide (f.kind ≠ .claim) || f.begun)
        let t := t.setCtl c { t.ctl c with lost := insertNat cur (t.ctl c).lost, claimAt := none, pend := keep }
        let able := bitAt own 63 && (t.freeAddress c).isSome
        let t := (t.inc (F.CAN_CHc_CLMSTAT_CONTESTS c)).wr (F.CAN_CHc_CLAIM_CUR c) 0xFE
        let t := t.setCtl c { t.ctl c with backoff := some (s.now + 600000 * (r % 256), able) }
        t.setClaim c (if able then 1 else 3))

/-- CLAIM_BACKOFF_EXPIRY: 0.6 ms × r after the decision the controller claims the free address, or says that it cannot claim. -/
def execClaimBackoffExpiry (c : Nat) (s : State) : Host.Outcome State Fault Refusal :=
  .next (
    match (s.ctl c).backoff with
    | none => s
    | some (at0, able) =>
      if s.now < at0 then s
      else
        let t := s.setCtl c { s.ctl c with backoff := none }
        match (if able then t.freeAddress c else none) with
        | some a => ((t.setClaim c 1).wr (F.CAN_CHc_CLAIM_CUR c) a).pendClaim c a
        | none => ((t.setClaim c 3).pendClaim c 0xFE).ctlEvent 8 c (some sevWarning))

/-- CLAIM_REQUEST: a Request for PGN 60928 is answered. -/
def execClaimRequest (c : Nat) (s : State) : Host.Outcome State Fault Refusal :=
  .next (
    if (s.ctl c).asked = true ∧ s.claimState c ≠ 0 then
      (s.setCtl c { s.ctl c with asked := false }).pendClaim c (if s.claimState c = 3 then 0xFE else s.rd (F.CAN_CHc_CLAIM_CUR c))
    else s)

/-! ### Reception (R355-R360) -/

/-- Whether an acceptance entry keeps R357. -/
def AccEntry.ok (e : AccEntry) : Bool :=
  decide (bitsOf e.id 30 29 = 0) && decide (bitsOf e.mask 30 29 = 0) && decide (bitsOf e.action 6 4 ≤ 4) && !bitAt e.action 7 && decide (e.buf ≤ 63)

/-- Whether a frame matches an entry. -/
def State.accMatch (s : State) (c : Nat) (e : AccEntry) (id : Nat) : Bool :=
  let da := bitsOf id 15 8
  (!bitAt e.mask 31 || decide (bitAt e.id 31 = bitAt id 31)) &&
  decide ((bitsOf e.id 28 0 &&& bitsOf e.mask 28 0) = (bitsOf id 28 0 &&& bitsOf e.mask 28 0)) &&
  (!bitAt e.action 3 || (bitAt id 31 && decide (bitsOf id 25 18 < 240) &&
    (decide (da = s.rd (F.CAN_CHc_CLAIM_CUR c)) || decide (da = 0xFF))))

/-- A frame written to receive buffer `b` (R359). -/
def State.rxBuffer (s : State) (c b : Nat) (f : CanFrame) : State :=
  if s.rd (F.CAN_CHc_RXBUF_NBUF c) ≤ b then s
  else
    let x := s.ctl c
    let seq := (SMap.get (fun _ => 0) x.rxSeq b + 1) % 2 ^ 32
    let len := dlcLen (bitAt f.id 30) f.dlc
    let bytes := leBytes 4 seq ++ leBytes 4 f.id ++ leBytes 8 s.now ++ leBytes 4 (canStamp f.sof) ++ leBytes 1 (f.dlc + (if f.esi then 16 else 0)) ++
      leBytes 1 c ++ leBytes 2 len ++ List.replicate 36 0 ++ leBytes 4 seq ++ fitBytes 64 (f.data.take len)
    (s.setCtl c { x with rxSeq := SMap.set (fun _ => 0) x.rxSeq b seq }).put
      (bedStoreBase + s.rd (F.CAN_CHc_RXBUF_OFF c) * 128 + 128 * b) bytes

/-- A frame delivered to receive ring `r`; the second component says whether it found room (R360). -/
def State.rxRing (s : State) (c r tag : Nat) (ip : Bool) (f : CanFrame) : State × Bool :=
  let q := 57 + r
  let len := dlcLen (bitAt f.id 30) f.dlc
  let two := decide (28 < len)
  let data := fitBytes 64 (f.data.take len)
  let need := if two then 2 else 1
  let first := leBytes 4 f.id ++ leBytes 4 (canStamp f.sof) ++ leBytes 1 (f.dlc + (if f.esi then 16 else 0)) ++ leBytes 1 c ++ leBytes 2 len ++ data.take 28
  if s.cqReady q = true ∧ need ≤ s.slots q then
    let t := (s.looseEntry q 0x8A tag 0 (if two then 1 else 0) false first ip).1
    if two then ((t.looseEntry q 0x8A tag 0 2 false (leBytes 4 f.id ++ data.drop 28) ip).1, true) else (t, true)
  else ((((s.dropEntry q).inc F.CAN_RXDROP_CNT).flag F.CAN_STAT_RXOVF F.CAN_CTL_IE_BUS).ctlEvent 15 c none, false)

/-- The acceptance copy a frame that starts at `sof` is judged by: the last one completed before it (R358). -/
def State.accAt (s : State) (c sof : Nat) : List AccEntry :=
  match (s.ctl c).acc.find? (fun x => decide (x.1 < sof)) with
  | some x => x.2
  | none => []

/-- A received data frame delivered under the acceptance copy (R357). -/
def State.deliver (s : State) (c : Nat) (f : CanFrame) : State :=
  match (s.accAt c f.sof).zipIdx.find? (fun e => s.accMatch c e.1 f.id) with
  | some (e, i) =>
    let toBuf := bitAt e.action 0 && decide (e.buf < s.rd (F.CAN_CHc_RXBUF_NBUF c))
    let t := if toBuf then s.rxBuffer c e.buf f else s
    let r := if bitAt e.action 1 then t.rxRing c (bitsOf e.action 6 4) i (bitAt e.action 2) f else (t, false)
    if toBuf || r.2 then r.1.wideAdd Reg.CAN_RXCNT_LO 1 else r.1
  | none =>
    if s.on (F.CAN_CHc_CTL_RXALL c) then
      let r := s.rxRing c (s.rd (F.CAN_CHc_CTL_RXALLR c)) 0xFFFF false f
      if r.2 then r.1.wideAdd Reg.CAN_RXCNT_LO 1 else r.1
    else s

/-- The PGN of a 29-bit identifier whose PDU format is below 240. -/
def pdu1 (id : Nat) : Nat := bitsOf id 25 16 * 256

/-- What the network management reads inside the controller, whatever the acceptance table holds: claims, requests, partners,
KEEPAWAKE and wake-up frames (R366-R368, R481). -/
def State.protocol (s : State) (c : Nat) (f : CanFrame) : State :=
  let id := bitsOf f.id 28 0
  let ext := bitAt f.id 31
  let sa := bitsOf id 7 0
  let da := bitsOf id 15 8
  let cur := s.rd (F.CAN_CHc_CLAIM_CUR c)
  let name := leAt f.data 0 8
  let hit := decide (bitAt f.id 31 = s.on (F.CAN_CHc_WUFID_IDE c)) &&
    decide ((id &&& s.rd (F.CAN_CHc_WUFMASK_MASK c)) = (s.rd (F.CAN_CHc_WUFID_ID c) &&& s.rd (F.CAN_CHc_WUFMASK_MASK c)))
  let t := if hit ∧ s.on (F.CAN_CHc_CTL_WUFEN c) then s.setCtl c { s.ctl c with wuf := true } else s
  if ext = false then t
  else
    let claim := decide (pdu1 id = 60928) && decide (8 ≤ f.data.length)
    let t := if claim ∧ (t.claimState c = 1 ∨ t.claimState c = 2) ∧ sa = cur ∧ cur ≠ 0xFE then
        t.setCtl c { t.ctl c with contests := (t.ctl c).contests ++ [name] } else t
    let t := if pdu1 id = 59904 ∧ (da = cur ∨ da = 0xFF) ∧ leAt f.data 0 3 = 60928 then t.setCtl c { t.ctl c with asked := true } else t
    let t := if pdu1 id = 0xEF00 ∧ (da = cur ∨ da = 0xFF) ∧ leAt f.data 0 2 = 0x024E then t.setCtl c { t.ctl c with keep := some sa } else t
    if t.on (F.CAN_CHc_CTL_PROTO c) = false ∨ t.can.stopped = true then t
    else
      let t := t.partnerHeard c sa
      if claim ∧ name ≠ t.canName c then t.partnerUpdate c sa name else t

/-- The receive error counter after a frame received without error: one less, or a value from 119 to 127 where it stood above 127. -/
def State.recDown (s : State) (c : Nat) : State :=
  let r := s.rd (F.CAN_CHc_STAT_REC c)
  if 127 < r then ((s.wr (F.CAN_CHc_STAT_REC c) (119 + s.freshNat % 9)).tickFree).errState c
  else (s.wr (F.CAN_CHc_STAT_REC c) (r - 1)).errState c

/-- CAN_FRAME_RECEIVED. -/
def execCanFrameReceived (c : Nat) (f : CanFrame) (s : State) : Host.Outcome State Fault Refusal :=
  .next (
    if s.bedOn = false ∨ s.code.cans ≤ c ∨ (s.canState c ≠ 2 ∧ s.canState c ≠ 3) ∨ s.now < f.sof then s
    else
      let t := ((s.wr (F.CAN_CHc_ERRCNT_ACKSTREAK c) 0).aloneEnd c).recDown c
      if f.remote then t else (t.deliver c f).protocol c f)

/-! ### The acceptance copy (R358) -/

/-- The acceptance table copied into the controller; a poisoned line or a bad entry leaves the previous copy in force.
Copies of the last 10 ms and the one before them are kept: no frame lasts longer. -/
def State.accCopy (s : State) (c : Nat) : State :=
  let n := s.rd (F.CAN_CHc_ACCTAB_NACC c)
  let a := bedStoreBase + s.rd (F.CAN_CHc_ACCTAB_OFF c) * 64
  let es := (List.range n).map (fun i =>
    let e := a + 16 * i
    ((⟨s.mem.readLe e 4, s.mem.readLe (e + 4) 4, s.mem.readLe (e + 8) 1, s.mem.readLe (e + 9) 1⟩ : AccEntry), s.mem.readLe (e + 10) 6))
  if s.mem.poisoned a (16 * n) then s.canPoison.canReject c 4
  else if es.any (fun e => !e.1.ok || decide (e.2 ≠ 0)) then s.canReject c 2
  else
    let x := s.ctl c
    let old := x.acc.filter (fun e => decide (s.now < e.1 + 10000000)) ++ (x.acc.filter (fun e => decide (e.1 + 10000000 ≤ s.now))).take 1
    s.setCtl c { x with acc := (s.now, es.map (fun e => e.1)) :: old }

/-- Areas of the CAN block: first byte and size, by register key. -/
def State.canAreas (s : State) : List (Nat × Nat × Nat) :=
  (Reg.CAN_PTNCFG, s.rd F.CAN_PTNCFG_OFF * 4096, 4096) ::
  ((List.range s.code.cans).map (fun c => [(Reg.CAN_CHc_RXBUF c, s.rd (F.CAN_CHc_RXBUF_OFF c) * 128, s.rd (F.CAN_CHc_RXBUF_NBUF c) * 128),
    (Reg.CAN_CHc_TXBUF c, s.rd (F.CAN_CHc_TXBUF_OFF c) * 128, s.rd (F.CAN_CHc_TXBUF_NBUF c) * 128)])).flatten

/-- Whether an area of register `key` would be misplaced: not wholly in the Bed store, not aligned to its size, or over another. -/
def State.badArea (s : State) (key base size : Nat) : Bool :=
  decide (size ≠ 0) && (decide (base % size ≠ 0) || decide (0x2000000 < base + size) ||
    s.canAreas.any (fun a => decide (a.1 ≠ key) && decide (a.2.2 ≠ 0) && decide (a.2.1 < base + size) && decide (base < a.2.1 + a.2.2)))

/-- A write of CAN_CHc_ACCTAB. -/
def State.acctabWrite (s : State) (c : Nat) (v : W32) : State :=
  if 256 < getBits v 31 23 then s.canReject c 2
  else if 0x2000000 < getBits v 18 0 * 64 + getBits v 31 23 * 16 then s.canReject c 3
  else (s.applyWrite (Reg.CAN_CHc_ACCTAB c) v).accCopy c

/-- ACCEPTANCE_TABLE_COPY. -/
def execAcceptanceTableCopy (agent : Agent) (c : Nat) (value : W32) (s : State) : Host.Outcome State Fault Refusal :=
  .next (if c < 8 then s.gate agent 0x0D (0x110 + 0x40 * c) (fun t => t.acctabWrite c value) else s.fail)

/-! ### Controller states (R353, R354) -/

/-- The claim logic returns to IDLE with no address. -/
def State.claimIdle (s : State) (c : Nat) : State :=
  let x := s.ctl c
  let keep := x.pend.filter (fun f => decide (f.kind ≠ .claim) || f.begun)
  ((s.setCtl c { x with pend := keep, claimAt := none, contests := [], backoff := none, lost := [], asked := false }).setClaim c 0).wr (F.CAN_CHc_CLAIM_CUR c) 0xFE

/-- A controller enabled. -/
def State.canStart (s : State) (c : Nat) : State :=
  let mode := s.rd (F.CAN_CHc_CTL_MODE c)
  let st := if mode = 0 then 2 else if mode = 1 then 3 else 1
  let t := (((s.resetReg (Reg.CAN_CHc_STAT c)).wr (F.CAN_CHc_STAT_STATE c) st).resetReg (Reg.CAN_CHc_ERRCNT c)).resetReg (Reg.CAN_CHc_CLMSTAT c)
  let t := ((t.wr (F.CAN_CHc_DET_DONE c) 0).wr (F.CAN_CHc_DET_FAIL c) 0).wr (F.CAN_CHc_CLAIM_CUR c) 0xFE
  (t.setCtl c { pend := (s.ctl c).pend, cancels := (s.ctl c).cancels, acc := (s.ctl c).acc, detSince := s.now }).accCopy c

/-- A controller goes OFF: pending ring frames complete ABORTED and buffer frames are discarded; a frame in transmission ends at its end
of frame. -/
def State.canStop (s : State) (c : Nat) : State :=
  let x := s.ctl c
  let waiting := x.pend.filter (fun f => !f.begun)
  let t := s.setCtl c { x with pend := x.pend.filter (fun f => f.begun) }
  let t := waiting.foldl (fun y f => y.frameDone c f 0x41) t
  ((t.claimIdle c).aloneEnd c).wr (F.CAN_CHc_STAT_STATE c) 0

/-- What a changed MODE or CLAIM of an enabled controller does. -/
def State.canModeNow (s : State) (c oldMode : Nat) (oldClaim : Bool) : State :=
  let mode := s.rd (F.CAN_CHc_CTL_MODE c)
  let s := if oldClaim ∧ s.on (F.CAN_CHc_CTL_CLAIM c) = false then s.claimIdle c else s
  if mode = oldMode then s
  else if mode = 0 ∧ s.canState c = 3 then s.wr (F.CAN_CHc_STAT_STATE c) 2
  else if mode = 1 ∧ s.canState c = 2 then (s.claimIdle c).wr (F.CAN_CHc_STAT_STATE c) 3
  else s

/-- A write of CAN_CHc_CTL. -/
def State.canCtlWrite (s : State) (c : Nat) (v : W32) : State :=
  let key := Reg.CAN_CHc_CTL c
  let en := s.on (F.CAN_CHc_CTL_EN c)
  let fixed : W32 := 0x18F80000
  if 2 ≤ c ∧ getBits v 23 23 = 1 then s.canReject c 5
  else if listedAt key v = false then s.canReject c 2
  else if en ∧ (s.reg key &&& fixed) ≠ (v &&& fixed) then s.canReject c 1
  else
    let mode := s.rd (F.CAN_CHc_CTL_MODE c)
    let claim := s.on (F.CAN_CHc_CTL_CLAIM c)
    let t := s.applyWrite key v
    if en = false ∧ getBits v 31 31 = 1 then t.canStart c
    else if en = true ∧ getBits v 31 31 = 0 then t.canStop c
    else if en then t.canModeNow c mode claim
    else t

/-- CAN_ENABLE. -/
def execCanEnable (agent : Agent) (c : Nat) (value : W32) (s : State) : Host.Outcome State Fault Refusal :=
  .next (if c < 8 then s.gate agent 0x0D (0x100 + 0x40 * c) (fun t => t.canCtlWrite c (setBits value 31 31 1)) else s.fail)

/-- CAN_DISABLE: a write of EN = 0 that leaves every other field as it is. -/
def execCanDisable (agent : Agent) (c : Nat) (s : State) : Host.Outcome State Fault Refusal :=
  .next (if c < 8 then
    s.gate agent 0x0D (0x100 + 0x40 * c) (fun t => t.canCtlWrite c (setBits (t.reg (Reg.CAN_CHc_CTL c)) 31 31 0))
  else s.fail)

/-- CAN_MODE_WRITE: a write of MODE that leaves every other field as it is. -/
def execCanModeWrite (agent : Agent) (c mode : Nat) (s : State) : Host.Outcome State Fault Refusal :=
  .next (if c < 8 then
    s.gate agent 0x0D (0x100 + 0x40 * c) (fun t => t.canCtlWrite c (setBits (t.reg (Reg.CAN_CHc_CTL c)) 30 29 mode))
  else s.fail)

/-- BUS_RATE_DETECT. -/
def execBusRateDetect (c nrate drate : Nat) (s : State) : Host.Outcome State Fault Refusal :=
  .next (
    if s.bedOn = true ∧ c < s.code.cans ∧ s.canState c = 1 ∧ nrate ≤ 3 ∧ drate ≤ 4 then
      let t := (((s.wr (F.CAN_CHc_BT_NRATE c) nrate).wr (F.CAN_CHc_BT_DRATE c) drate).reparity (Reg.CAN_CHc_BT c)).wr (F.CAN_CHc_DET_DONE c) 1
      (((t.wr (F.CAN_CHc_DET_NFOUND c) nrate).wr (F.CAN_CHc_DET_DFOUND c) drate).wr (F.CAN_CHc_STAT_STATE c) 3).ctlEvent 5 c none
    else s)

/-- DETECT_TIMEOUT. -/
def execDetectTimeout (c : Nat) (s : State) : Host.Outcome State Fault Refusal :=
  .next (
    if s.bedOn = true ∧ c < s.code.cans ∧ s.canState c = 1 ∧ s.on (F.CAN_CHc_DET_FAIL c) = false ∧
        (s.ctl c).detSince + s.rd (F.CAN_CHc_DET_TMO c) * 1000000000 ≤ s.now then
      (s.wr (F.CAN_CHc_DET_FAIL c) 1).ctlEvent 6 c none
    else s)

/-! ### Register writes and parity (R371) -/

/-- A write of a controller register at register offset `r`. -/
def State.canSetWrite (s : State) (c r : Nat) (v : W32) : State :=
  let key := 0xD100 + 0x40 * c + r
  let en := s.on (F.CAN_CHc_CTL_EN c)
  let locked := decide (r = 0x04) || decide (r = 0x14) || decide (r = 0x18) || decide (r = 0x1C) || decide (r = 0x20) || decide (r = 0x24)
  if en ∧ locked then s.canReject c 1
  else if listedAt key v = false then s.canReject c 2
  else if (r = 0x14 ∨ r = 0x18) ∧ (64 < getBits v 31 25 ∨ s.badArea key (getBits v 17 0 * 128) (getBits v 31 25 * 128) = true) then
    s.canReject c (if 64 < getBits v 31 25 then 2 else 3)
  else if r = 0x1C ∧ (getBits v 31 24 < getBits v 23 16 ∨ getBits v 15 8 < getBits v 31 24 ∨ 0xFD < getBits v 15 8) then s.canReject c 2
  else s.applyWrite key v

/-- A write to the CAN block. -/
def State.canWrite (s : State) (off : Nat) (v : W32) : State :=
  if 0x100 ≤ off ∧ off < 0x300 then
    let c := (off - 0x100) / 0x40
    let r := off % 0x40
    if r = 0 then s.canCtlWrite c v else if r = 0x10 then s.acctabWrite c v else s.canSetWrite c r v
  else if off = 0x020 then
    if s.badArea Reg.CAN_PTNCFG (getBits v 12 0 * 4096) 4096 then s.canReject 0 3 else s.ptncfgWrite v
  else if off = 0x030 then s.aloneWrite v
  else if listedAt (0xD000 + off) v = false then s.canReject 0 2
  else s.applyWrite (0xD000 + off) v

/-- PARTNER_CLEAR: a write of CAN_PTNCFG with CLEAR = 1. -/
def execPartnerClear (agent : Agent) (value : W32) (s : State) : Host.Outcome State Fault Refusal :=
  .next (s.gate agent 0x0D 0x020 (fun t => t.canWrite 0x020 (setBits value 31 31 1)))

/-- What a register parity fault in CAN does beside the common effects. -/
def State.canParity (s : State) (off : Nat) : State :=
  if 0x100 ≤ off ∧ off < 0x300 then
    let c := (off - 0x100) / 0x40
    let r := off % 0x40
    if r = 0 ∨ r = 0x04 ∨ r = 0x1C ∨ r = 0x20 ∨ r = 0x24 then ((s.wr (F.CAN_CHc_CTL_EN c) 0).reparity (Reg.CAN_CHc_CTL c)).canStop c else s
  else if off = 0x020 then { s with can := { s.can with stopped := true } }
  else s

end Sys2Proof.Machine
end

