-- ==== Sys2Proof/Machine/Eth.lean ====
section
/-! DEFINITION. The Ethernet switch (R372-R390): ports, the bridge and its gates, gPTP marks, remote I/O streams, sensor intake and the
host port. -/

namespace Sys2Proof.Machine

/-! ### State access -/

/-- External ports. -/
def ethPorts : Nat := 7

/-- Whether port `p` is external and carried (R372). -/
def Code.hasPort (c : Code) (p : Nat) : Bool := decide (p < ethPorts) && !absentReg c 0x15 (0x100 + 0x40 * p)

/-- Lidar units by code (R2). -/
def Code.lidarUnits (c : Code) : Nat := c.pick 4 2 1

/-- Whether port `p` is enabled with its link up. -/
def State.linkUp (s : State) (p : Nat) : Bool := s.code.hasPort p && s.on (F.ETH_Pp_CTL_EN p) && s.on (F.ETH_Pp_STAT_LINK p)

/-- The host port's MAC address. -/
def State.ethMac (s : State) : Nat := s.rd F.ETH_MAC_HI_MAC * 2 ^ 32 + s.rd F.ETH_MAC_LO_MAC

/-- A big-endian value of `n` bytes at byte `off`. -/
def beAt (b : Bytes) (off n : Nat) : Nat := leValue ((b.drop off).take n).reverse

/-- `n` big-endian bytes of `v`. -/
def beBytes (n v : Nat) : Bytes := (leBytes n v).reverse

/-- A frame as it lies in memory: addresses, tag, EtherType and payload, without the frame check sequence. -/
def frameImage (f : EthFrame) : Bytes :=
  beBytes 6 f.dst ++ beBytes 6 f.src ++
  (match f.tag with
    | some (pcp, vid) => beBytes 2 0x8100 ++ beBytes 2 (pcp * 2 ^ 13 + vid)
    | none => []) ++ beBytes 2 f.etype ++ f.payload

/-- A frame read from its bytes in memory. -/
def parseFrame (b : Bytes) : EthFrame :=
  let tagged := decide (beAt b 12 2 = 0x8100)
  let h := if tagged then 16 else 12
  { dst := beAt b 0 6, src := beAt b 6 6, tag := if tagged then some (beAt b 14 2 / 2 ^ 13, beAt b 14 2 % 2 ^ 12) else none
    etype := beAt b h 2, payload := b.drop (h + 2) }

/-- The length of a frame on the wire, with its check sequence. -/
def ethSize (f : EthFrame) : Nat := (frameImage f).length + 4

/-- The class of a frame: its PCP, 0 where it is untagged. -/
def ethCls (f : EthFrame) : Nat :=
  match f.tag with
  | some (pcp, _) => pcp
  | none => 0

/-- The VLAN of a frame that arrives on port `p`: untagged frames and priority tags take the port's PVID. -/
def State.vlanOf (s : State) (p : Nat) (f : EthFrame) : Nat :=
  let pvid := if p < ethPorts then s.rd (F.ETH_Pp_CTL_PVID p) else 1
  match f.tag with
  | some (_, vid) => if vid = 0 then pvid else vid
  | none => pvid

/-- The largest frame of port `p`. -/
def State.frameMax (s : State) (p : Nat) : Nat :=
  if p = 4 ∨ p = 5 then (if s.on (F.ETH_Pp_CTL_JUMBO p) then 9022 else 1522) else if p = 7 ∨ p = 8 then 9022 else 1522

/-! ### Events and refusals -/

/-- An event entry on ring 87. -/
def State.ethEvent (s : State) (tag unit detail : Nat) : State :=
  (s.eventEntry 87 0x80 tag 0 (resultOf [(24, 1, unit), (28, 8, s.now), (36, 8, detail)]) true).1

/-- A configuration write refused: 1 ENABLED, 2 RANGE, 3 PLACE, 4 ABSENT. -/
def State.ethReject (s : State) (unit cause : Nat) : State :=
  ((s.wr F.ETH_BADCFG_CAUSE cause).wr F.ETH_BADCFG_UNIT unit).flag F.ETH_STAT_CFGREJ F.ETH_CTL_IE_CFG

/-- A poison event. -/
def State.ethPoison (s : State) : State := (s.inc F.ETH_POISCNT_CNT).flag F.ETH_STAT_POISON F.ETH_CTL_IE_POIS

/-- A frame dropped at ingress port `p`. -/
def State.ethDrop (s : State) (p : Nat) : State :=
  (if p < ethPorts then s.inc (F.ETH_Pp_DROP_CNT p) else s).flag F.ETH_STAT_DROP F.ETH_CTL_IE_DROP

/-! ### Gates (R376) -/

/-- The gate list in force on a port. -/
def State.gateList (s : State) (p : Nat) : GateList := SMap.get (fun _ => {}) s.eth.lists p

/-- The cycle of a list in ns. -/
def GateList.cycle (g : GateList) : Nat := g.entries.foldl (fun a e => a + e.2) 0

/-- How long class `c` stays open from the start of a run of entries. -/
def openLead (c : Nat) : List (Nat × Nat) → Nat
  | [] => 0
  | e :: r => if bitAt e.1 c then e.2 + openLead c r else 0

/-- How long class `c` stays open from position `pos` of a run of entries. -/
def openFrom (c : Nat) : List (Nat × Nat) → Nat → Nat
  | [], _ => 0
  | e :: r, pos => if e.2 ≤ pos then openFrom c r (pos - e.2) else if bitAt e.1 c then e.2 - pos + openLead c r else 0

/-- The position of Sundial time `t` in the cycle. -/
def GateList.position (g : GateList) (t : Nat) : Nat := (t + g.cycle - g.off % g.cycle) % g.cycle

/-- How long class `c` stays open from Sundial time `t`; none where nothing closes it. -/
def GateList.openNs (g : GateList) (c t : Nat) : Option Nat :=
  if g.entries.all (fun e => bitAt e.1 c) then none else some (openFrom c (g.entries ++ g.entries) (g.position t))

/-- The time a frame of `n` bytes with its preamble takes on port `p`, in ns rounded up. -/
def wireNs (p n : Nat) : Nat := if p = 4 ∨ p = 5 then ((n + 8) * 8 + 9) / 10 else if p = 6 then (n + 8) * 80 else (n + 8) * 8

/-- Whether a frame may start on port `p` at time `t`: its link is up and its last bit leaves before its gate closes. -/
def State.mayStartAt (s : State) (e : EgFrame) (t : Nat) : Bool :=
  s.linkUp e.port &&
  (match (s.gateList e.port).openNs e.cls t with
    | none => true
    | some n => decide (wireNs e.port (ethSize e.frame) ≤ n))

/-- Shared buffer in use, in bytes. -/
def State.bufferUse (s : State) : Nat := s.eth.out.foldl (fun a e => a + ethSize e.frame) 0

/-- ETH_BUFUSE brought up to date. -/
def State.ethBufRegs (s : State) : State :=
  let n := (s.bufferUse + 1023) / 1024
  (s.wrSat F.ETH_BUFUSE_NOW n).peak F.ETH_BUFUSE_PEAK n

/-- A frame starts at time `t`: counted, and the XMIT that sent it completes with its egress stamp. -/
def State.frameSent (s : State) (e : EgFrame) (t : Nat) : State :=
  let u := s.inc (F.ETH_Pp_TXFR_CNT e.port)
  match e.desc with
  | some d => u.complete 82 d { bytes := resultOf [(24, 8, t)] }
  | none => u

/-- A frame reaches its egress port: it starts at once where it may, else it waits, in HOLD where its gate keeps it; where the shared buffer has no
room it is dropped at ingress port `src`. -/
def State.egress (s : State) (src : Nat) (e : EgFrame) : State :=
  if s.mayStartAt e s.now then s.frameSent e s.now
  else if 0x400000 < s.bufferUse + ethSize e.frame then
    let t := s.ethDrop src
    match e.desc with
    | some d => t.complete 82 d { bytes := resultOf [(24, 8, 0)] }
    | none => t
  else
    let t := { s with eth := { s.eth with out := s.eth.out ++ [e] } }
    (if s.linkUp e.port then t.inc (F.ETH_Pp_HOLD_CNT e.port) else t).ethBufRegs

/-- The frames of a port in the order their classes take it: higher classes first, each class in order of arrival. -/
def byClass (l : List EgFrame) : List EgFrame :=
  ((List.range 8).reverse.map (fun c => l.filter (fun e => decide (e.cls = c)))).flatten

/-- The first element equal to `e` taken out. -/
def dropEg (e : EgFrame) : List EgFrame → List EgFrame
  | [] => []
  | x :: r => if x = e then r else x :: dropEg e r

/-- Frames held on port `p` start one behind another while their gates let them. -/
def State.drainPort (s : State) (p : Nat) : State :=
  ((byClass (s.eth.out.filter (fun e => decide (e.port = p)))).foldl (fun (x : State × Nat) e =>
    if x.1.mayStartAt e x.2 then
      (({ x.1 with eth := { x.1.eth with out := dropEg e x.1.eth.out } }).frameSent e x.2, x.2 + wireNs p (ethSize e.frame + 12))
    else x) (s, s.now)).1.ethBufRegs

/-- A list installed on its port: the old one ends, and GCLLOAD completes. -/
def State.gclInstall (s : State) (w : GclWait) : State :=
  let t := { s with eth := { s.eth with lists := SMap.set (fun _ => {}) s.eth.lists w.port w.list, gclWait := s.eth.gclWait.filter (fun x => x ≠ w) } }
  let t := ((t.wr (F.ETH_Pp_GCL_ACTIVE w.port) 1).wr (F.ETH_Pp_GCL_N w.port) w.list.entries.length).wr (F.ETH_Pp_GCYCLE_NS w.port) w.list.cycle
  (t.wr (F.ETH_Pp_GOFF_NS w.port) w.list.off).complete 80 w.desc {}

/-- Lists whose first cycle has started are in force. -/
def State.gclDue (s : State) (p : Nat) : State :=
  (s.eth.gclWait.filter (fun w => decide (w.port = p) && decide (w.start ≤ s.now))).foldl (fun x w => x.gclInstall w) s

/-- GATE_OPEN: a list whose first cycle starts comes into force, and frames held for open gates start. -/
def execGateOpen (port : Nat) (s : State) : Host.Outcome State Fault Refusal :=
  .next (if s.canopyOn = true ∧ s.code.hasPort port = true then (s.gclDue port).drainPort port else s)

/-! ### The filtering database (R373) -/

/-- Entries of the filtering database. -/
def fdbSize : Nat := 4096

/-- The entry of an address in a VLAN. -/
def State.fdbFind (s : State) (mac vid : Nat) : Option FdbEntry := s.eth.fdb.find? (fun e => decide (e.mac = mac) && decide (e.vid = vid))

/-- The database without an address. -/
def State.fdbDrop (s : State) (mac vid : Nat) : State :=
  { s with eth := { s.eth with fdb := s.eth.fdb.filter (fun e => !(decide (e.mac = mac) && decide (e.vid = vid))) } }

/-- The database with an entry added. -/
def State.fdbAdd (s : State) (e : FdbEntry) : State := { s with eth := { s.eth with fdb := s.eth.fdb ++ [e] } }

/-- Whether an address is a group address. -/
def groupMac (m : Nat) : Bool := bitAt m 40

/-- The source of a frame learned. -/
def State.fdbLearn (s : State) (p vid mac : Nat) : State :=
  if groupMac mac then s
  else
    match s.fdbFind mac vid with
    | some e => if e.static then s else (s.fdbDrop mac vid).fdbAdd { e with ports := 2 ^ p, seen := s.now }
    | none => if s.eth.fdb.length < fdbSize then s.fdbAdd ⟨mac, vid, 2 ^ p, false, s.now⟩ else s

/-- FDB_ENTRY_AGEING. -/
def execFdbEntryAgeing (mac vid : Nat) (s : State) : Host.Outcome State Fault Refusal :=
  .next (match s.fdbFind mac vid with
    | some e => if s.canopyOn = true ∧ e.static = false ∧ e.seen + s.rd F.ETH_FDBAGE_AGE * 1000000000 ≤ s.now then s.fdbDrop mac vid else s
    | none => s)

/-- The ports a frame from ingress port `p` leaves by: 7 is the host port. Link-local addresses are never forwarded, and mDNS reaches the
host port only from ports with MDNS = 1. -/
def State.egressPorts (s : State) (p : Nat) (f : EthFrame) : List Nat :=
  let all := (List.range ethPorts).filter (fun x => s.linkUp x && decide (x ≠ p))
  let host := if p = 7 ∨ (f.dst = 0x01005E0000FB ∧ p < ethPorts ∧ s.on (F.ETH_Pp_CTL_MDNS p) = false) then [] else [7]
  if f.dst / 16 = 0x0180C200000 then []
  else if f.dst = s.ethMac then (if p = 7 then [] else [7])
  else if f.dst = s.ethMac + 1 then []
  else
    match s.fdbFind f.dst (s.vlanOf p f) with
    | some e => (List.range 8).filter (fun x => bitAt e.ports x && decide (x ≠ p) && (decide (x = 7) || s.linkUp x))
    | none => all ++ host

/-! ### The host port (R383) -/

/-- RXBUF: the oldest receive descriptor not yet posted is checked and posted. -/
def execRxbuf (s : State) : Host.Outcome State Fault Refusal :=
  .next (match (s.ring 84).taken.find? (fun d => d.running && decide (d.op = 2) && !s.eth.posted.contains d) with
    | some d =>
      if d.le 24 8 % 64 ≠ 0 ∨ d.le 32 2 < 1536 then s.complete 84 d { status := 2 }
      else if s.memOk (d.le 24 8) (d.le 32 2) = false then s.complete 84 d { status := 5 }
      else { s with eth := { s.eth with posted := s.eth.posted ++ [d] } }
    | none => s)

/-- A frame for port 7 fills the oldest posted buffer, or is dropped. -/
def State.hostFrame (s : State) (p : Nat) (f : EthFrame) (tarr : Nat) : State :=
  match s.eth.posted with
  | [] => s.ethDrop p
  | d :: rest =>
    let b := frameImage f
    let size := d.le 32 2
    let cut := b.take size
    let t := { s with eth := { s.eth with posted := rest } }
    let w : State × Bool := if inBedStore (d.le 24 8) then t.bridgeWrite (d.le 24 8) cut else (t.put (d.le 24 8) cut, true)
    w.1.complete 84 d { status := if w.2 then 0 else 6, estat := if size < b.length then 1 else 0
                        bytes := resultOf [(24, 2, cut.length), (26, 1, p), (28, 8, tarr)] }

/-- A frame sent towards the ports `ps`; where it came from XMIT, the copy on the last port completes it. -/
def State.forward (s : State) (src : Nat) (f : EthFrame) (tarr : Nat) (desc : Option Desc) (ps : List Nat) : State :=
  let fit := ps.filter (fun p => decide (ethSize f ≤ s.frameMax p))
  let t := fit.zipIdx.foldl (fun x e =>
    if e.1 = 7 then x.hostFrame src f tarr
    else x.egress src { port := e.1, cls := ethCls f, frame := f, stream := none, desc := if e.2 + 1 = fit.length then desc else none }) s
  match desc with
  | some d => if (fit.getLast?.map (fun p => decide (p ≠ 7))).getD false then t else t.complete 82 d { bytes := resultOf [(24, 8, t.now)] }
  | none => t

/-- XMIT. -/
def execXmit (s : State) : Host.Outcome State Fault Refusal :=
  .next (match (s.ring 82).taken.find? (fun d => d.running && decide (d.op = 1) && !s.eth.out.any (fun e => decide (e.desc = some d))) with
    | some d =>
      let a := d.le 24 8
      let n := d.le 32 2
      let mask := d.le 34 1
      let ps := (List.range 7).filter (fun p => bitAt mask p)
      if n < 14 ∨ 9018 < n ∨ 128 ≤ mask then s.complete 82 d { status := 2 }
      else if s.memOk a n = false then s.complete 82 d { status := 5 }
      else if ps.any (fun p => !s.code.hasPort p) then s.complete 82 d { status := 0x43 }
      else if s.mem.poisoned a n then s.ethPoison.complete 82 d { status := 0x44 }
      else
        let f := parseFrame (s.mem.readBytes a n)
        s.forward 7 f s.now (some d) (if mask = 0 then s.egressPorts 7 f else ps)
    | none => s)

/-! ### Remote I/O (R378-R380) -/

/-- Remote I/O streams. -/
def rioStreams : Nat := 32

/-- A stream's peer address. -/
def State.rioMac (s : State) (n : Nat) : Nat := s.rd (F.ETH_RIOs_MACHI_MAC n) * 2 ^ 32 + s.rd (F.ETH_RIOs_MACLO_MAC n)

/-- Whether input stream `n` takes a frame of port `p`. -/
def State.rioTakes (s : State) (p : Nat) (f : EthFrame) (n : Nat) : Bool :=
  s.on (F.ETH_RIOs_CFG_EN n) && !s.on (F.ETH_RIOs_CFG_DIR n) && decide (s.rd (F.ETH_RIOs_CFG_PORT n) = p) &&
    decide (f.src = s.rioMac n) && decide (f.etype = s.rd (F.ETH_RIOs_MACHI_ETYPE n)) &&
    (match f.tag with
      | some (_, vid) => decide (s.rd (F.ETH_RIOs_CFG_VID n) = vid) && decide (vid ≠ 0)
      | none => decide (s.rd (F.ETH_RIOs_CFG_VID n) = 0))

/-- The input stream that takes a frame. -/
def State.rioOf (s : State) (p : Nat) (f : EthFrame) : Option Nat := (List.range rioStreams).find? (fun n => s.rioTakes p f n)

/-- The first byte of slot `k` of stream `n`. -/
def rioSlot (n k : Nat) : Nat := 0xF001FE0000 + 0x1000 * n + 0x800 * (k % 2)

/-- The header line of a slot. -/
def rioHeader (k len port tarr valid : Nat) : Bytes :=
  leBytes 4 k ++ leBytes 2 len ++ leBytes 1 port ++ leBytes 1 0 ++ leBytes 8 tarr ++ List.replicate 47 0 ++ leBytes 1 valid

/-- A frame of an input stream written into its slot: header with VALID 0, payload, header with VALID 0x80; a refused line ends it. -/
def State.rioWrite (s : State) (n port tarr : Nat) (payload : Bytes) : State :=
  let k := (SMap.get (fun _ => 0) s.eth.seq n + 1) % 2 ^ 32
  let len := s.rd (F.ETH_RIOs_CFG_LEN n)
  let t := { s with eth := { s.eth with seq := SMap.set (fun _ => 0) s.eth.seq n k } }
  let a := rioSlot n k
  let w1 := t.bridgeWrite a (rioHeader k len port tarr 0)
  if w1.2 = false then w1.1
  else
    let w2 := w1.1.bridgeWrite (a + 64) (payload.take len)
    if w2.2 = false then w2.1 else (w2.1.bridgeWrite a (rioHeader k len port tarr 0x80)).1

/-- A frame received on an external port counted. -/
def State.frameIn (s : State) (p : Nat) : State := (s.inc (F.ETH_Pp_RXFR_CNT p)).wideAdd Reg.ETH_RXCNT_LO 1

/-- RIO_INPUT_FRAME. -/
def execRioInputFrame (port : Nat) (f : EthFrame) (tarr : Nat) (s : State) : Host.Outcome State Fault Refusal :=
  .next (
    if s.canopyOn = false ∨ s.linkUp port = false then s
    else
      match s.rioOf port f with
      | none => s
      | some n =>
        let t := s.frameIn port
        if f.payload.length < s.rd (F.ETH_RIOs_CFG_LEN n) then t.inc (F.ETH_RIOs_STAT_SHORT n)
        else
          let u := t.inc (F.ETH_RIOs_STAT_FRAMES n)
          if u.on F.ETH_RIOCTL_EN then u.rioWrite n port tarr f.payload else u)

/-- The template of a stream: all 0 until RIOTPL loads it. -/
def State.rioTemplate (s : State) (n : Nat) : Bytes :=
  let t := SMap.get (fun _ => []) s.eth.tpl n
  fitBytes (s.rd (F.ETH_RIOs_CFG_LEN n)) t

/-- RIOTPL. -/
def execRiotpl (s : State) : Host.Outcome State Fault Refusal :=
  .next (s.serve 80 0x12 (fun d t =>
    let n := d.le 16 1
    let a := d.le 24 8
    let len := d.le 32 2
    if rioStreams ≤ n ∨ len = 0 ∨ t.rd (F.ETH_RIOs_CFG_LEN n) < len then (t, { status := 2 })
    else if t.memOk a len = false then (t, { status := 5 })
    else if t.on (F.ETH_RIOs_CFG_DIR n) = false then (t, { status := 0x41 })
    else if t.mem.poisoned a len then (t.ethPoison, { status := 0x44 })
    else ({ t with eth := { t.eth with tpl := SMap.set (fun _ => []) t.eth.tpl n (t.mem.readBytes a len) } }, {})))

/-- A Furrow release to output stream `n`; the second component is false where it is refused (R283, R380). -/
def State.rioRelease (s : State) (n : Nat) (fields : List Overlay) : State × Bool :=
  if s.canopyOn = false ∨ bridgeDepth ≤ s.bridge.outbound.length ∨ rioStreams ≤ n ∨ s.on (F.ETH_RIOs_CFG_EN n) = false ∨
      s.on (F.ETH_RIOs_CFG_DIR n) = false then (s, false)
  else
    let payload := fields.foldl overlayField (s.rioTemplate n)
    let vid := s.rd (F.ETH_RIOs_CFG_VID n)
    let pcp := s.rd (F.ETH_RIOs_CFG_PCP n)
    let f : EthFrame := ⟨s.rioMac n, s.ethMac + 1, if vid = 0 then none else some (pcp, vid), s.rd (F.ETH_RIOs_MACHI_ETYPE n), payload⟩
    let old := s.eth.out.find? (fun e => decide (e.stream = some n))
    let t := match old with
      | some e => ({ s with eth := { s.eth with out := dropEg e s.eth.out } }).inc (F.ETH_RIOs_STAT_REPLACE n)
      | none => s
    ((t.inc (F.ETH_RIOs_STAT_FRAMES n)).egress 9 { port := s.rd (F.ETH_RIOs_CFG_PORT n), cls := pcp, frame := f, stream := some n, desc := none }, true)

/-! ### Sensor intake (R131-R134, R381, R382) -/

/-- An IPv4 UDP datagram in a frame: source and destination address, whether it is a fragment, destination port and payload. -/
def udpOf (f : EthFrame) : Option (Nat × Nat × Bool × Nat × Bytes) :=
  let b := f.payload
  let ihl := beAt b 0 1 % 16 * 4
  if f.etype ≠ 0x0800 ∨ beAt b 0 1 / 16 ≠ 4 ∨ ihl < 20 ∨ beAt b 9 1 ≠ 17 ∨ b.length < ihl + 8 then none
  else
    let u := b.drop ihl
    some (beAt b 12 4, beAt b 16 4, decide (beAt b 6 2 % 0x4000 ≠ 0), beAt u 2 2, (u.take (beAt u 4 2)).drop 8)

/-- The intake entry a datagram matches. -/
def State.udpEntry (s : State) (src dst port : Nat) : Option Nat :=
  if dst ≠ s.rd F.ETH_ENGIP_ADDR then none
  else (List.range 8).find? (fun m => s.on (F.ETH_UDPm_CTL_EN m) && decide (s.rd (F.ETH_UDPm_CTL_PORT m) = port) &&
    (decide (s.rd (F.ETH_UDPm_SRC_ADDR m) = 0) || decide (s.rd (F.ETH_UDPm_SRC_ADDR m) = src)))

/-- Whether a frame on port `p` is service port access: a UDP datagram to ETH_ENGIP on port 7440 on port 6 while ETH_SVC.EN is 1 (R388). -/
def State.isService (s : State) (p : Nat) (f : EthFrame) : Bool :=
  match udpOf f with
  | some (_, dst, frag, port, _) => decide (p = 6) && s.on F.ETH_SVC_EN && !frag && decide (dst = s.rd F.ETH_ENGIP_ADDR) && decide (port = 7440)
  | none => false

/-- The intake entry a frame matches. -/
def State.intakeOf (s : State) (f : EthFrame) : Option Nat :=
  match udpOf f with
  | some (src, dst, _, port, _) => s.udpEntry src dst port
  | none => none

/-- A value of `n` bytes of a packet, in its byte order. -/
def pktAt (big : Bool) (b : Bytes) (off n : Nat) : Nat := if big then beAt b off n else leAt b off n

/-- The packet's own time in PTP ns. -/
def packetTime (l b : Bytes) : Nat :=
  let big := bitAt (leAt l 3 1) 0
  let off := leAt l 8 2
  if leAt l 2 1 = 1 then pktAt big b off 8 else pktAt big b off 4 * 1000000000 + pktAt big b (off + 4) 4

/-- The Sundial time a packet carries: its own time where its layout gives one and its unit is synchronised, else the arrival stamp minus
LATENCY (R131); with whether it is the packet's own. -/
def State.packetStamp (s : State) (l b : Bytes) (tarr : Nat) (sync : Bool) : Int × Bool :=
  if leAt l 2 1 ≠ 0 ∧ sync = true then
    ((packetTime l b : Int) - toSigned 64 (s.wideGet Reg.SDL_GNSSOFF_LO) - 315964819 * 1000000000, true)
  else ((tarr : Int) - leAt l 4 4, false)

/-- One output of a lidar layout: the raw value of descriptor `f`, times MULT, shifted (R132). -/
def lidarField (l b : Bytes) (f block point : Nat) : Int :=
  let d := (l.drop (24 + 8 * f)).take 8
  let w := leAt d 2 1
  let off := (if 0x8000 ≤ leAt d 0 2 then block else point) + leAt d 0 2 % 0x8000
  let raw := pktAt (bitAt (leAt l 3 1) 0) b off w
  let x : Int := if w = 0 then 0 else if leAt d 3 1 = 1 then toSigned (8 * w) raw else raw
  let y := x * leAt d 4 2
  let sh := toSigned 8 (leAt d 6 1)
  if 0 ≤ sh then y / (2 ^ sh.toNat : Nat) else y * (2 ^ (-sh).toNat : Nat)

/-- A value cut to `n` bits where it lies in `[lo, hi]`; outside it the field is a free value (notes/assumptions/2.md). -/
def State.fieldOr (s : State) (n : Nat) (lo hi v : Int) : State × Nat :=
  if lo ≤ v ∧ v ≤ hi then (s, toPattern n v) else (s.tickFree, s.freshNat % 2 ^ n)

/-- One point of a packet: its 16 bytes, or nothing where RANGE is 0 (R133). RET is a free value. -/
def State.lidarPoint (s : State) (l b : Bytes) (unit : Nat) (t : Int × Bool) (block point : Nat) : State × Bytes :=
  let range := lidarField l b 0 block point
  if range = 0 then (s, [])
  else
    let r := s.fieldOr 20 0 (2 ^ 20 - 1) range
    let e := r.1.fieldOr 14 (-8192) 8191 (lidarField l b 2 block point)
    let i := e.1.fieldOr 8 0 255 (lidarField l b 3 block point)
    let ret := i.1.freshNat % 4
    let w := r.2 * 2 ^ 44 + toPattern 16 (lidarField l b 1 block point) * 2 ^ 28 + e.2 * 2 ^ 14 + i.2 * 2 ^ 6 + ret * 16 + unit * 4 + (if t.2 then 2 else 0)
    (i.1.tickFree, leBytes 8 (toPattern 64 (t.1 + lidarField l b 4 block point)) ++ leBytes 8 w)

/-- The blocks and points of a packet, as first bytes. -/
def lidarPlaces (l : Bytes) : List (Nat × Nat) :=
  ((List.range (leAt l 12 2)).map (fun k =>
    let block := leAt l 10 2 + k * leAt l 14 2
    (List.range (leAt l 16 2)).map (fun p => (block, block + p * leAt l 18 2)))).flatten

/-- The points of a packet, in order. -/
def State.lidarPoints (s : State) (l b : Bytes) (unit : Nat) (t : Int × Bool) : State × List Bytes :=
  (lidarPlaces l).foldl (fun x pl =>
    let r := x.1.lidarPoint l b unit t pl.1 pl.2
    (r.1, if r.2 = [] then x.2 else x.2 ++ [r.2])) (s, [])

/-- A lidar packet goes to the point buffer of its unit: the records, then WPOS in one write, then the entry on ring 86 (R382). -/
def State.lidarPacket (s : State) (l b : Bytes) (tarr : Nat) (sync : Bool) : State :=
  let unit := leAt l 1 1
  let r := s.lidarPoints l b unit (s.packetStamp l b tarr sync)
  let base := s.rd (F.ETH_LIDu_BASE_BASE unit) * 4096
  let size := 2 ^ s.rd (F.ETH_LIDu_CFG_LOG2 unit)
  let pos := s.rd (F.ETH_LIDu_WPOS_WPOS unit)
  let t := r.2.zipIdx.foldl (fun x e => x.put (base + 16 * ((pos + e.2) % size)) e.1) r.1
  let wpos := (pos + r.2.length) % 2 ^ 32
  let t := t.wr (F.ETH_LIDu_WPOS_WPOS unit) wpos
  if t.on (F.ETH_LIDu_CFG_ENTRY unit) then
    (t.eventEntry 86 0x8B unit 0 (resultOf [(24, 4, wpos), (28, 4, r.2.length), (32, 8, tarr)]) false).1
  else t

/-- The samples of an analyser message: absent values are 0; a NaN or an infinity is 0 and sets SAT (R134). -/
def analyserValues (l b : Bytes) : List (Frac × Bool) :=
  (List.range 14).map (fun k =>
    let off := leAt l (24 + 2 * k) 2
    if off = 0xFFFF then (Frac.ofInt 0, false)
    else
      match f32 (pktAt (bitAt (leAt l 3 1) 0) b off 4) with
      | some x => (x, false)
      | none => (Frac.ofInt 0, true))

/-- An analyser message becomes a frame with one tray, written through the Bed bridge and published when its header word has reached the Bed
store; a refused write loses it, and the next frame carries GAP (R117, R134). -/
def State.analyserPacket (s : State) (l b : Bytes) (tarr : Nat) (sync : Bool) : State :=
  let n := 96 + leAt l 1 1
  let stamp := ((s.packetStamp l b tarr sync).1).toNat
  if s.on (F.ING_STRn_CFG_EN n) = false ∨ stamp < (s.stream n).since then s
  else
    let vs := analyserValues l b
    let gap := (s.stream n).gap
    let tray := trayBytes (vs.map (fun v => v.1)) (toSigned 8 (leAt l 52 1))
    let samples : List Samp := vs.map (fun v => { t := stamp, entered := s.now, v := v.1, sat := v.2, settle := false, deg := false, gap := gap })
    let trays := [(samples, tray)]
    let lg := s.rd (F.ING_STRn_CFG_LOG2F n)
    let pos := (s.rd (F.ING_STRn_WPOS_WPOS n) + (s.stream n).flight.length) % 2 ^ 32
    let bytes := frameBytes (framePhase pos lg) n trays false
    let lines := frameLines n (bedStoreBase + s.rd (F.ING_STRn_CFG_BASE n) * 512 + 512 * (pos % 2 ^ lg)) bytes
    if s.inboundRoom false lines.length then
      (s.accept lines).setStream n { s.stream n with gap := false, flight := (s.stream n).flight ++ [⟨(samples, tray), bytes⟩] }
    else s.setStream n { s.stream n with gap := true }

/-- Whether a datagram decodes under a layout record. -/
def State.decodes (s : State) (l b : Bytes) : Bool :=
  let kind := leAt l 0 1
  let unit := leAt l 1 1
  let timeOk := decide (leAt l 2 1 = 0) || (decide (leAt l 2 1 ≤ 2) && decide (leAt l 8 2 + 8 ≤ b.length))
  timeOk &&
  (if kind = 1 then decide (unit < s.code.lidarUnits) && s.on (F.ETH_LIDu_CFG_EN unit) && decide (leAt l 10 2 + leAt l 12 2 * leAt l 14 2 ≤ b.length)
   else decide (kind = 2) && decide (unit < 8) &&
     (List.range 14).all (fun k => decide (leAt l (24 + 2 * k) 2 = 0xFFFF) || decide (leAt l (24 + 2 * k) 2 + 4 ≤ b.length)))

/-- UDP_INTAKE. -/
def execUdpIntake (port : Nat) (f : EthFrame) (tarr : Nat) (late sync : Bool) (s : State) : Host.Outcome State Fault Refusal :=
  .next (
    if s.canopyOn = false ∨ s.linkUp port = false ∨ s.isService port f = true then s
    else
      match udpOf f with
      | none => s
      | some (src, dst, frag, dport, data) =>
        match s.udpEntry src dst dport with
        | none => s
        | some m =>
          let t := (s.frameIn port).fdbLearn port (s.vlanOf port f) f.src
          let t := if t.on (F.ETH_UDPm_CTL_COPY m) then t.hostFrame port f tarr else t
          let l := SMap.get (fun _ => []) t.eth.layouts m
          if frag ∨ late ∨ t.decodes l data = false then t.inc (F.ETH_UDPm_DROP_CNT m)
          else if leAt l 0 1 = 1 then t.lidarPacket l data tarr sync
          else t.analyserPacket l data tarr sync)

/-! ### Forwarding and links -/

/-- ETH_FRAME_FORWARD: a frame no stream and no intake entry takes is learned from and forwarded. -/
def execEthFrameForward (port : Nat) (f : EthFrame) (tarr : Nat) (s : State) : Host.Outcome State Fault Refusal :=
  .next (
    if s.canopyOn = false ∨ s.linkUp port = false ∨ (s.rioOf port f).isSome ∨ (s.intakeOf f).isSome ∨ s.isService port f = true then s
    else
      let t := s.frameIn port
      if t.frameMax port < ethSize f then t
      else
        let u := t.fdbLearn port (t.vlanOf port f) f.src
        u.forward port f tarr none (u.egressPorts port f))

/-- A port's link goes down. -/
def State.linkDown (s : State) (p : Nat) : State :=
  if s.on (F.ETH_Pp_STAT_LINK p) then
    ((((((s.wr (F.ETH_Pp_STAT_LINK p) 0).wr (F.ETH_Pp_STAT_ASCAP p) 0).wr (F.ETH_Pp_STAT_PTPROLE p) 0).inc (F.ETH_Pp_STAT_DOWNS p)).flag
      F.ETH_STAT_LINK F.ETH_CTL_IE_LINK)).ethEvent 2 p 0
  else s

/-- ETH_LINK_CHANGE. -/
def execEthLinkChange (port : Nat) (up : Bool) (pdelay : Option Nat) (s : State) : Host.Outcome State Fault Refusal :=
  .next (
    if s.canopyOn = false ∨ s.code.hasPort port = false ∨ s.on (F.ETH_Pp_CTL_EN port) = false then s
    else if up then
      if s.on (F.ETH_Pp_STAT_LINK port) then s
      else
        let cap := pdelay.isSome && s.on (F.ETH_Pp_CTL_PTPEN port) && s.on F.ETH_PTPCTL_EN
        let t := ((s.wr (F.ETH_Pp_STAT_LINK port) 1).wrB (F.ETH_Pp_STAT_ASCAP port) cap).wr (F.ETH_Pp_PDELAY_NS port) (if cap then pdelay.getD 0 else 0)
        ((t.flag F.ETH_STAT_LINK F.ETH_CTL_IE_LINK).ethEvent 1 port 0).drainPort port
    else s.linkDown port)

/-! ### gPTP (R374, R375) -/

/-- The clockClass announced. -/
def State.clockClass (s : State) : Nat :=
  if s.rd F.SDL_CTL_MODE = 1 ∧ s.rd F.SDL_STAT_STATE = 2 then 6 else if s.rd F.SDL_CTL_MODE = 1 ∧ s.rd F.SDL_STAT_STATE = 3 then 7 else 248

/-- ETH_PTPSTAT as it stands: the class announced follows Sundial, and in PTP the module is never grandmaster. -/
def State.ptpStat (s : State) : State :=
  let t := s.wr F.ETH_PTPSTAT_CLASS s.clockClass
  if s.rd F.SDL_CTL_MODE = 2 then t.wr F.ETH_PTPSTAT_GM 0 else t

/-- GRANDMASTER_CHANGE: the module is never grandmaster in PTP, and never slave to a port whose link is down. -/
def execGrandmasterChange (gm : Nat) (own : Bool) (slave steps : Nat) (roles : List Nat) (s : State) : Host.Outcome State Fault Refusal :=
  .next (
    if s.canopyOn = false ∨ s.on F.ETH_PTPCTL_EN = false ∨ gm = s.eth.gm ∨ (own = true ∧ s.rd F.SDL_CTL_MODE = 2) ∨
        (own = false ∧ (s.linkUp slave = false ∨ s.on (F.ETH_Pp_CTL_PTPEN slave) = false)) then s
    else
      let t := { s with eth := { s.eth with gm := gm } }
      let t := ((t.wrB F.ETH_PTPSTAT_GM own).wr F.ETH_PTPSTAT_SLAVE (if own then 0xF else slave)).wrSat F.ETH_PTPSTAT_STEPS (if own then 0 else steps)
      let t := t.ptpStat
      let t := (List.range ethPorts).foldl (fun x p => if x.code.hasPort p then x.wr (F.ETH_Pp_STAT_PTPROLE p) (roles.getD p 0) else x) t
      (t.flag F.ETH_STAT_PTP F.ETH_CTL_IE_PTP).ethEvent 3 (if own then 0xF else slave) gm)

/-- PTP_MARK: a mark for PTP whole second `sec`, GPS time being PTP time less 315,964,819 s. -/
def execPtpMark (stamp sec : Nat) (rateErr : Int) (s : State) : Host.Outcome State Fault Refusal :=
  .next (
    if s.canopyOn = true ∧ s.on F.ETH_PTPCTL_EN = true ∧ s.rd F.ETH_PTPSTAT_SLAVE ≠ 0xF ∧ s.linkUp (s.rd F.ETH_PTPSTAT_SLAVE) = true then
      s.refMark 2 stamp ((sec - 315964819) * 1000000000) rateErr
    else s)

/-! ### Commands of ring 80 (R377, R383) -/

/-- The entries of a list in memory. -/
def State.gclEntries (s : State) (a n : Nat) : List (Nat × Nat) := (List.range n).map (fun i => (s.mem.readLe (a + 8 * i) 1, s.mem.readLe (a + 8 * i + 4) 4))

/-- Whether a list keeps R376. -/
def State.gclOk (s : State) (a n off : Nat) : Bool :=
  let l := s.gclEntries a n
  let cycle : Nat := l.foldl (fun x e => x + e.2) 0
  decide (1 ≤ n) && decide (n ≤ 32) && l.all (fun e => decide (e.2 % 8 = 0) && decide (1000 ≤ e.2) && decide (e.2 ≤ 1000000000)) &&
    (List.range n).all (fun i => decide (s.mem.readLe (a + 8 * i + 1) 3 = 0)) && decide (cycle ≤ 1000000000) && decide (off < cycle)

/-- The first cycle start of a list at or after `t`. -/
def GateList.startAt (g : GateList) (t : Nat) : Nat := if g.position t = 0 then t else t + (g.cycle - g.position t)

/-- GCLLOAD: a list that keeps R376 waits for its first cycle start; one that waits already for the port is superseded. -/
def execGclload (s : State) : Host.Outcome State Fault Refusal :=
  .next (match (s.ring 80).taken.find? (fun d => d.running && decide (d.op = 0x10) && !s.eth.gclWait.any (fun w => decide (w.desc = d))) with
    | some d =>
      let p := d.le 16 1
      let n := d.le 17 1
      let a := d.le 24 8
      let off := d.le 20 4
      if 7 ≤ p then s.complete 80 d { status := 2 }
      else if s.memOk a (8 * n) = false then s.complete 80 d { status := 5 }
      else if s.mem.poisoned a (8 * n) ∧ s.code.hasPort p = true then s.ethPoison.complete 80 d { status := 0x44 }
      else if s.gclOk a n off = false then s.complete 80 d { status := 0x40 }
      else if s.code.hasPort p = false then s.complete 80 d { status := 0x43 }
      else
        let g : GateList := ⟨s.gclEntries a n, off⟩
        let w : GclWait := ⟨p, g, g.startAt (if d.tmode = 1 then max d.deadline d.started else d.started), d⟩
        let old := s.eth.gclWait.filter (fun w => decide (w.port = p))
        let t := old.foldl (fun x w => ({ x with eth := { x.eth with gclWait := x.eth.gclWait.filter (fun y => y ≠ w) } }).complete 80 w.desc { status := 0x45 }) s
        (({ t with eth := { t.eth with gclWait := t.eth.gclWait ++ [w] } }).gclDue p)
    | none => s)

/-- FDBSET. -/
def execFdbset (s : State) : Host.Outcome State Fault Refusal :=
  .next (s.serve 80 0x11 (fun d t =>
    let mac := d.le 24 6
    let vid := d.le 30 2
    let act := d.le 33 1
    let mask := d.le 32 1
    if 1 < act ∨ 4094 < vid then (t, { status := 2 })
    else if act = 0 then (t.fdbDrop mac vid, {})
    else
      let u := t.fdbDrop mac vid
      if u.eth.fdb.length ≥ fdbSize then (t, { status := 0x42 })
      else if (List.range ethPorts).any (fun p => bitAt mask p && !t.code.hasPort p) then (t, { status := 0x43 })
      else (u.fdbAdd (⟨mac, vid, mask, true, t.now⟩ : FdbEntry), {})))

/-! ### Register writes and parity (R390) -/

/-- A write of ETH_Pp_CTL. -/
def State.portCtlWrite (s : State) (p : Nat) (v : W32) : State :=
  let key := Reg.ETH_Pp_CTL p
  let en := s.on (F.ETH_Pp_CTL_EN p)
  if en ∧ (s.reg key &&& 0x48000000) ≠ (v &&& 0x48000000) then s.ethReject p 1
  else if listedAt key v = false then s.ethReject p 2
  else
    let t := s.applyWrite key v
    if en ∧ getBits v 31 31 = 0 then t.linkDown p else t

/-- A write of ETH_RIOs_CFG. -/
def State.rioCfgWrite (s : State) (n : Nat) (v : W32) : State :=
  let key := Reg.ETH_RIOs_CFG n
  let en := s.on (F.ETH_RIOs_CFG_EN n)
  let len := getBits v 10 0
  if en ∧ (s.reg key &&& 0x7C0007FF) ≠ (v &&& 0x7C0007FF) then s.ethReject n 1
  else if listedAt key v = false ∨ len = 0 ∨ 1500 < len ∨ 6 < getBits v 29 26 then s.ethReject n 2
  else if getBits v 31 31 = 1 ∧ s.code.hasPort (getBits v 29 26) = false then s.ethReject n 4
  else
    let t := s.applyWrite key v
    if en = false ∧ getBits v 31 31 = 1 then { t with eth := { t.eth with seq := SMap.set (fun _ => 0) t.eth.seq n 0 } } else t

/-- A write of ETH_UDPm_CTL: an enabling write reads the layout record. -/
def State.udpCtlWrite (s : State) (m : Nat) (v : W32) : State :=
  let key := Reg.ETH_UDPm_CTL m
  let a := s.rd (F.ETH_UDPm_LAYOUT_ADDR m) * 256
  let rise := !s.on (F.ETH_UDPm_CTL_EN m) && decide (getBits v 31 31 = 1)
  if listedAt key v = false then s.ethReject m 2
  else if rise = false then s.applyWrite key v
  else if inDramRange s.code a 64 = false then s.ethReject m 3
  else if s.mem.poisoned a 64 then ((s.applyWrite key (setBits v 31 31 0)).ethPoison).ethEvent 5 m 0
  else
    let t := s.applyWrite key v
    { t with eth := { t.eth with layouts := SMap.set (fun _ => []) t.eth.layouts m (s.mem.readBytes a 64) } }

/-- A write of ETH_LIDu_BASE or ETH_LIDu_CFG. -/
def State.lidarWrite (s : State) (u r : Nat) (v : W32) : State :=
  let key := Reg.ETH_LIDu_BASE u + r
  let en := s.on (F.ETH_LIDu_CFG_EN u)
  if r = 0 then (if en then s.ethReject u 1 else s.plainWrite key v)
  else if en ∧ getBits v 4 0 ≠ s.rd (F.ETH_LIDu_CFG_LOG2 u) then s.ethReject u 1
  else if listedAt key v = false ∨ getBits v 4 0 < 16 ∨ 26 < getBits v 4 0 then s.ethReject u 2
  else
    let size := 16 * 2 ^ getBits v 4 0
    let base := s.rd (F.ETH_LIDu_BASE_BASE u) * 4096
    if getBits v 31 31 = 1 ∧ (base % size ≠ 0 ∨ inDramRange s.code base size = false) then s.ethReject u 3 else s.applyWrite key v

/-- Every target connection closed. -/
def State.nvmeCloseAll (s : State) : State := ({ s with eth := { s.eth with conns := [] } }).wr F.ETH_NVMESTAT_CONN 0

/-- A write to the ETH block. -/
def State.ethWrite (s : State) (off : Nat) (v : W32) : State :=
  let key := 0x15000 + off
  if 0x100 ≤ off ∧ off < 0x2C0 then if off % 0x40 = 0 then s.portCtlWrite ((off - 0x100) / 0x40) v else s.plainWrite key v
  else if 0x400 ≤ off ∧ off < 0x800 then if off % 0x20 = 0 then s.rioCfgWrite ((off - 0x400) / 0x20) v else s.plainWrite key v
  else if 0x800 ≤ off ∧ off < 0x880 then if off % 0x10 = 0 then s.udpCtlWrite ((off - 0x800) / 0x10) v else s.plainWrite key v
  else if 0x900 ≤ off ∧ off < 0x940 then
    if off % 0x10 < 8 then s.lidarWrite ((off - 0x900) / 0x10) (off % 0x10) v else s.plainWrite key v
  else if listedAt key v = false then s.ethReject 0 2
  else
    let t := s.applyWrite key v
    if off = 0x034 ∧ getBits v 31 31 = 0 then t.nvmeCloseAll else t

/-- What a register parity fault in ETH does beside the common effects: the register is at reset, so its unit is disabled. -/
def State.ethParity (s : State) (off : Nat) : State :=
  if 0x100 ≤ off ∧ off < 0x2C0 ∧ off % 0x40 = 0 then s.linkDown ((off - 0x100) / 0x40)
  else if off = 0x034 then s.nvmeCloseAll
  else s

end Sys2Proof.Machine
end

