-- ==== Sys2Proof/Machine/Bch.lean ====
section
/-! DEFINITION. The page code of the NAND (R428, R429): a binary BCH code over GF(2^18), its encoder and its decoder. -/

namespace Sys2Proof.Machine

/-! ### GF(2^18) with x^18 + x^7 + 1 -/

/-- The product; `n` bits of the multiplier are left. -/
def gf18Step : Nat → Nat → Nat → Nat → Nat
  | 0, _, _, r => r
  | k + 1, a, b, r =>
    gf18Step k (if 2 ^ 17 ≤ a then (a * 2).xor 0x40081 else a * 2) (b / 2) (if b % 2 = 1 then r.xor a else r)
def gf18Mul (a b : Nat) : Nat := gf18Step 18 a b 0

/-- Squared `n` times. -/
def gf18Square : Nat → Nat → Nat
  | 0, a => a
  | k + 1, a => gf18Square k (gf18Mul a a)

/-- Powers, by the bits of the exponent; `n` bits are left. -/
def gf18PowStep : Nat → Nat → Nat → Nat → Nat
  | 0, _, _, r => r
  | k + 1, a, e, r => gf18PowStep k (gf18Mul a a) (e / 2) (if e % 2 = 1 then gf18Mul r a else r)
def gf18Pow (a e : Nat) : Nat := gf18PowStep 18 a e 1

/-- The order of α and the inverse of a non-zero element. -/
def gf18Order : Nat := 2 ^ 18 - 1
def gf18Inv (a : Nat) : Nat := gf18Pow a (2 ^ 18 - 2)

/-- α to a power. -/
def alpha (e : Nat) : Nat := gf18Pow 2 (e % gf18Order)

/-! ### The generator -/

/-- The exponents conjugate to `i`. -/
def coset (i : Nat) : List Nat :=
  (List.range 18).foldl (fun l k =>
    let e := i * 2 ^ k % gf18Order
    if l.contains e then l else l ++ [e]) []

/-- A polynomial over GF(2^18), lowest coefficient first, times x + r. -/
def mulRoot (p : List Nat) (r : Nat) : List Nat :=
  List.zipWith (fun x y => x.xor y) (0 :: p) (p.map (fun c => gf18Mul c r) ++ [0])

/-- The minimal polynomial of α^i over GF(2): bit k is the coefficient of x^k. -/
def minPoly (i : Nat) : Nat :=
  ((coset i).foldl (fun p e => mulRoot p (alpha e)) [1]).zipIdx.foldl (fun v c => v + c.1 % 2 * 2 ^ c.2) 0

/-- The product of two polynomials over GF(2); `n` bits of the second are left. -/
def gf2Mul : Nat → Nat → Nat → Nat
  | 0, _, _ => 0
  | k + 1, a, b => (if b % 2 = 1 then a else 0).xor (gf2Mul k (2 * a) (b / 2))

/-- The generator for strength `t`: the least common multiple of the minimal polynomials of α^1 to α^(2t). -/
def bchGen (t : Nat) : Nat :=
  ((List.range (2 * t)).foldl (fun (x : Nat × List Nat) k =>
    if x.2.contains (k + 1) then x else (gf2Mul 19 x.1 (minPoly (k + 1)), x.2 ++ coset (k + 1))) (1, [])).1

/-! ### The page -/

/-- Data, metadata and page sizes. -/
def pageData : Nat := 16384
def pageMeta : Nat := 32
def pageSize : Nat := 18432
def pageParity : Nat := 16424

/-- Bit `j` of a run of bytes. -/
def bitOfBytes (b : Bytes) (j : Nat) : Bool := ((b.getD (j / 8) 0).toNat / 2 ^ (j % 8)) % 2 == 1

/-- The bits of a run of bytes in their order. -/
def bitsOfBytes (b : Bytes) : List Bool := (b.map (fun x => (List.range 8).map (fun k => x.toNat / 2 ^ k % 2 == 1))).flatten

/-- The remainder of a message, highest coefficient first, times x^n, divided by the generator `g` of degree `n`. -/
def bchRemainder (g n : Nat) (msg : List Bool) : Nat :=
  msg.foldl (fun r m =>
    let top := decide (2 ^ (n - 1) ≤ r) != m
    let s := r * 2 % 2 ^ n
    if top then s.xor (g % 2 ^ n) else s) 0

/-- The parity bytes of a message of data and metadata. -/
def bchParity (t : Nat) (msg : Bytes) : Bytes :=
  let n := 18 * t
  let r := bchRemainder (bchGen t) n (bitsOfBytes msg)
  (List.range (n / 8)).map (fun i =>
    BitVec.ofNat 8 ((List.range 8).foldl (fun v k => v + r / 2 ^ (n - 1 - (8 * i + k)) % 2 * 2 ^ k) 0))

/-- A programmed page: data, metadata, eight copies of TCODE, parity, and 0xFF to the end. -/
def pageOf (data meta0 : Bytes) (tcode : Nat) : Bytes :=
  let msg := fitBytes pageData data ++ fitBytes pageMeta meta0
  let b := msg ++ List.replicate 8 (BitVec.ofNat 8 tcode) ++ bchParity (8 * tcode) msg
  (b ++ List.replicate pageSize 0xFF).take pageSize

/-! ### Decoding -/

/-- The received word, highest coefficient first: message bits, then parity bits. -/
def received (t : Nat) (page : Bytes) : List Bool :=
  bitsOfBytes (page.take (pageData + pageMeta)) ++ (bitsOfBytes (page.drop pageParity)).take (18 * t)

/-- The syndrome of α^i. -/
def syndrome (w : List Bool) (i : Nat) : Nat :=
  let x := alpha i
  w.foldl (fun s b => (gf18Mul s x).xor (if b then 1 else 0)) 0

/-- The state of the Berlekamp-Massey search: locator, previous locator, length, gap and previous discrepancy. -/
structure Search where
  c : List Nat := [1]
  b : List Nat := [1]
  len : Nat := 0
  m : Nat := 1
  last : Nat := 1

/-- The sum of two polynomials. -/
def polyAdd : List Nat → List Nat → List Nat
  | x :: p, y :: q => x.xor y :: polyAdd p q
  | [], q => q
  | p, [] => p

/-- One step of the search over the syndromes `s` at position `n`. -/
def searchStep (s : List Nat) (x : Search) (n : Nat) : Search :=
  let d := (List.range (x.len + 1)).foldl (fun v i => v.xor (gf18Mul (x.c.getD i 0) (s.getD (n - i) 0))) 0
  if d = 0 then { x with m := x.m + 1 }
  else
    let f := gf18Mul d (gf18Inv x.last)
    let c := polyAdd x.c (List.replicate x.m 0 ++ x.b.map (fun y => gf18Mul f y))
    if 2 * x.len ≤ n then { c := c, b := x.c, len := n + 1 - x.len, m := 1, last := d }
    else { x with c := c, m := x.m + 1 }

/-- A polynomial's value. -/
def polyAt (p : List Nat) (x : Nat) : Nat := p.foldr (fun c v => c.xor (gf18Mul v x)) 0

/-- The exponents of the wrong bits of a received word of `n` bits under strength `t`; none where more than `t` are wrong. -/
def bchErrors (t : Nat) (w : List Bool) : Option (List Nat) :=
  let s := (List.range (2 * t)).map (fun i => syndrome w (i + 1))
  if s.all (fun x => decide (x = 0)) then some []
  else
    let x := (List.range (2 * t)).foldl (searchStep s) {}
    let roots := (List.range w.length).filter (fun e => decide (polyAt x.c (alpha (gf18Order - e)) = 0))
    if x.len ≤ t ∧ roots.length = x.len then some roots else none

/-- A page's data and metadata with the wrong bits put right: exponent e of a word of n bits is its bit n - 1 - e. -/
def correctPage (t : Nat) (page : Bytes) (errs : List Nat) : Bytes :=
  let n := 8 * (pageData + pageMeta) + 18 * t
  (page.take (pageData + pageMeta)).zipIdx.map (fun c =>
    errs.foldl (fun b e => if (n - 1 - e) / 8 = c.2 then b ^^^ BitVec.ofNat 8 (2 ^ ((n - 1 - e) % 8)) else b) c.1)

/-- The zero bits of a page. -/
def zeroBits (page : Bytes) : Nat := ((bitsOfBytes page).filter (fun b => !b)).length

/-- The TCODE of a page: the value from 1 to 20 that at least five of its eight copies hold. -/
def pageTcode (page : Bytes) : Option Nat :=
  let l := (page.drop (pageData + pageMeta)).take 8
  ((List.range 20).map (fun k => k + 1)).find? (fun v => decide (5 ≤ (l.filter (fun b => decide (b.toNat = v))).length))

/-- A page with some bits flipped. -/
def flipBits (page : Bytes) (flips : List Nat) : Bytes :=
  if flips = [] then page
  else page.zipIdx.map (fun c => flips.foldl (fun b f => if f / 8 = c.2 then b ^^^ BitVec.ofNat 8 (2 ^ (f % 8)) else b) c.1)

end Sys2Proof.Machine
end

