-- ==== Sys2Proof/Machine/TerWear.lean ====
section
/-! DEFINITION. What Terrace does when a NAND operation of tier 0 reports: erase counts, strength raises, retired blocks and spares (R451). -/

namespace Sys2Proof.Machine

/-- Whether Terrace runs. -/
def State.terUp (s : State) : Bool := s.canopyOn && (decide (s.rd F.TER_READY_STATE = 2) || s.ter.stopping)

/-- NAND blocks of the module: channels × 8 dies × 8,192 blocks. -/
def Code.nandBlocks (c : Code) : Nat := c.pick 8 8 4 * 65536

/-- Spare blocks left. -/
def State.spareBlocks (s : State) : Nat := s.ter.spares.getD 0 - s.ter.retired.length

/-- An event on rings 78 and 79 (R462). -/
def State.terEvent (s : State) (tag drive ns detail : Nat) : State :=
  let r := resultOf [(24, 1, drive), (25, 1, ns), (28, 8, s.now), (36, 4, detail)]
  ((s.eventEntry 78 0x80 tag 0 r true).1.eventEntry 79 0x80 tag 0 r true).1

/-- TER_NANDSTAT, TER_NANDERASE and TER_NANDWEAR. -/
def State.wearRegs (s : State) : State :=
  let sum := s.ter.erases.foldl (fun a e => a + e.2) 0
  let top := s.ter.erases.foldl (fun a e => max a e.2) 0
  let n := s.code.nandBlocks
  ((((s.wrSat F.TER_NANDSTAT_SPARE s.spareBlocks).wrSat F.TER_NANDSTAT_RETIRED s.ter.retired.length).wrSat F.TER_NANDERASE_MAX top).wrSat
    F.TER_NANDERASE_MEAN (sum / n)).wrSat F.TER_NANDWEAR_PCTUSED (sum / (30 * n))

/-- The mean erase count of a region's 128 blocks, rounded down; block numbers are page addresses / 1,024. -/
def State.regionMean (s : State) (r : Nat) : Nat := (s.ter.erases.filter (fun e => e.1 / 128 = r)).foldl (fun a e => a + e.2) 0 / 128

/-- A region's entry of the NFL table raised to at least `k`. -/
def State.raiseTcode (s : State) (r k : Nat) : State :=
  let now := SMap.get (fun _ => 5) s.nand.strength r
  if now < k then { s with nand := { s.nand with strength := SMap.set (fun _ => 5) s.nand.strength r (min k 20) } } else s

/-- The TCODE a mean erase count selects at least. -/
def wearTcode (mean : Nat) : Nat := if mean < 1000 then 5 else if mean < 2000 then 8 else if mean < 3000 then 12 else 16

/-- An erase of a tier 0 block counted. -/
def State.terErase (s : State) (p : Nat) : State :=
  if s.terUp = false then s
  else
    let b := p / 1024
    let t := { s with ter := { s.ter with erases := SMap.set (fun _ => 0) s.ter.erases b (SMap.get (fun _ => 0) s.ter.erases b + 1) } }
    (t.raiseTcode (b / 128) (wearTcode (t.regionMean (b / 128)))).wearRegs

/-- A HIGH log entry in a region raises its TCODE by one. -/
def State.terHigh (s : State) (p : Nat) : State :=
  if s.terUp then s.raiseTcode (p / 1024 / 128) (SMap.get (fun _ => 5) s.nand.strength (p / 1024 / 128) + 1) else s

/-- A block retired; spares below 2 % of all blocks set WEARWARN. -/
def State.terRetire (s : State) (p : Nat) : State :=
  let b := p / 1024
  if s.terUp = false ∨ s.ter.retired.contains b = true then s
  else
    let t := { s with ter := { s.ter with retired := insertNat b s.ter.retired } }.wearRegs
    if 50 * t.spareBlocks < s.code.nandBlocks ∧ s.code.nandBlocks ≤ 50 * s.spareBlocks then
      (t.flag F.TER_STAT_WEARWARN F.TER_CTL_IE_WEAR).terEvent 6 255 255 0
    else t

/-- Whether tier 0 is read-only. -/
def State.tierReadOnly (s : State) : Bool := decide (s.spareBlocks = 0)

/-- The slot number of a log entry: 0x1F for the root port. -/
def logSlot (slot : Option Nat) : Nat := slot.getD 0x1F

/-- An entry of the root port's log (R468); a full log drops it. -/
def State.pceLog (s : State) (type : Nat) (slot : Option Nat) (hdr addr : Nat) : State :=
  let n := s.rd F.PCE_LOGHEAD_COUNT
  if 16 ≤ n then s
  else
    let k := (s.rd F.PCE_LOGHEAD_OLDEST + n) % 16
    let put (x : State) (w v : Nat) : State := x.setReg (Reg.PCE_LOGk_W k w) (BitVec.ofNat 32 v)
    (put (put (put (put s 0 (type * 2 ^ 28 + logSlot slot % 32 * 2 ^ 16)) 1 hdr) 2 (addr / 256)) 3 (s.now / 1000)).wr F.PCE_LOGHEAD_COUNT (n + 1)

/-- Poisoned TLPs of one block to or from the drive in `slot`: at least one; their number and header are free (R454, R466). -/
def State.pcePoison (s : State) (slot : Nat) : State :=
  let t := (s.incBy F.PCE_POISCNT_CNT (1 + s.freshNat % 64)).pceLog 6 (some slot) (Config.freeNat (s.free + 1)) (Config.freeNat (s.free + 2))
  { t.flag F.PCE_STAT_POISON F.PCE_CTL_IE_ERR with free := s.free + 3 }

end Sys2Proof.Machine
end

