-- ==== Sys2Proof/Machine/Nand.lean ====
section
/-! DEFINITION. NAND and its controller (R427-R436): pages, strengths, reads, programs and erases, raw mode, and the log. -/

namespace Sys2Proof.Machine

/-! ### Addresses (R427, R430, R520) -/

/-- NFL channels by code. -/
def Code.nands (c : Code) : Nat := c.pick 8 8 4

/-- Channel, die, block and page of a page address. -/
def nandChan (p : Nat) : Nat := p / 2 ^ 26 % 8
def nandDie (p : Nat) : Nat := p / 2 ^ 23 % 8
def nandBlock (p : Nat) : Nat := p / 2 ^ 10 % 8192

/-- The region of a page. -/
def nandRegion (p : Nat) : Nat := nandChan p * 512 + nandDie p * 64 + nandBlock p / 128

/-- Whether a page address lies in the image store: blocks 0 to 63 of every die of channels 0 and 1. -/
def inImageStore (p : Nat) : Bool := decide (nandChan p < 2) && decide (nandBlock p < 64)

/-- The resource identifier of a block (R495, class 1). -/
def nandRes (p : Nat) : Nat := 2 ^ 28 + nandChan p * 2 ^ 19 + nandDie p * 2 ^ 16 + nandBlock p

/-- A page as the device holds it. -/
def State.nandPage (s : State) (p : Nat) : Bytes :=
  let b := SMap.get (fun _ => []) s.nand.pages p
  if b = [] then List.replicate pageSize 0xFF else b

/-- The TCODE of a region: an entry with an uncorrectable error reads as 20. -/
def State.tcodeOf (s : State) (r : Nat) : Nat :=
  if s.nand.strBad.contains r then 20 else SMap.get (fun _ => 5) s.nand.strength r

/-! ### Refusals, the log and wear (R435, R436) -/

/-- A write refused: 1 RANGE, 2 ABSENT. -/
def State.nflReject (s : State) (cause : Nat) : State := (s.wr F.NFL_BADCFG_CAUSE cause).flag F.NFL_STAT_CFGREJ F.NFL_CTL_IE_CFG

/-- An entry of the log: type, TCODE, source, bits corrected, page address and metadata; a full log drops it. -/
def State.nflLog (s : State) (type tcode src bits p meta0 : Nat) : State :=
  let n := s.rd F.NFL_LOGHEAD_COUNT
  let t := if 16 ≤ n then s.flag F.NFL_STAT_LOGDROP F.NFL_CTL_IE_UNC
    else
      let k := (s.rd F.NFL_LOGHEAD_OLDEST + n) % 16
      let put (x : State) (w v : Nat) : State := x.setReg (Reg.NFL_LOGk_W k w) (BitVec.ofNat 32 v)
      let w0 := type * 2 ^ 28 + tcode % 32 * 2 ^ 23 + src * 2 ^ 20 + min bits 0xFFFF
      (put (put (put (put s 0 w0) 1 p) 2 meta0) 3 (s.now / 1000)).wr F.NFL_LOGHEAD_COUNT (n + 1)
  let t := if type = 3 ∧ src ≠ 2 then t.terHigh p else if src ≠ 2 ∧ (4 ≤ type ∨ type = 1 ∧ tcode = 20) then t.terRetire p else t
  if type ≤ 3 then t.triggerTest (nandRes p) else t

/-- The oldest entry released. -/
def State.nflPop (s : State) : State :=
  let n := s.rd F.NFL_LOGHEAD_COUNT
  if n = 0 then s else (s.wr F.NFL_LOGHEAD_COUNT (n - 1)).wr F.NFL_LOGHEAD_OLDEST ((s.rd F.NFL_LOGHEAD_OLDEST + 1) % 16)

/-- An erase counted in the wear of its package; saturation is reported once. -/
def State.packCount (s : State) (c : Nat) : State :=
  if wearTop ≤ s.packWear c then s
  else
    let t := { s with nand := { s.nand with wear := SMap.set (fun _ => 0) s.nand.wear c (SMap.get (fun _ => 0) s.nand.wear c + 1) } }
    if t.packWear c = wearTop then (t.flag F.NFL_STAT_WEARSAT F.NFL_CTL_IE_UNC).record 0x12 0x43 sevWarning 0 0 0 else t

/-! ### Operations (R428, R430-R433) -/

/-- What an operation reports: its status, the bits corrected, t, whether the page was erased, and the metadata. -/
structure NandOut where
  status : Nat := 0
  bits : Nat := 0
  t : Nat := 0
  erased : Bool := false
  info : Bytes := []
  deriving DecidableEq, Repr

/-- The result bytes of an operation. -/
def NandOut.bytes (o : NandOut) : Bytes :=
  leBytes 2 o.bits ++ leBytes 1 o.t ++ leBytes 1 (if o.erased then 1 else 0) ++ List.replicate 4 0 ++ o.info

/-- An operation's outcome for its descriptor. -/
def NandOut.result (o : NandOut) : Result := { status := o.status, poison := decide (o.status = 0x40 ∨ o.status = 0x41), bytes := o.bytes }

/-- The counters of a page read with `e` bits corrected under `t`. -/
def State.readCounts (s : State) (c e t : Nat) : State :=
  let x := (s.wideAdd Reg.NFL_RDCNT_LO 1).wideAdd Reg.NFL_CBITS_LO e
  let x := x.measured (F.NFL_CHc_BITS_LAST c) (F.NFL_CHc_BITS_PEAK c) e
  x.inc (F.NFL_CHc_HISTq_CNT c (min 3 (4 * e / t)))

/-- A page that cannot be read: its bytes go to the destination poisoned. -/
def State.readFail (s : State) (page : Bytes) (src p dest type tcode : Nat) : State × NandOut :=
  let t := s.store dest (page.take pageData) true
  let t := (t.inc F.NFL_UECNT_CNT).wideAdd Reg.NFL_RDCNT_LO 1
  let t := (t.flag F.NFL_STAT_UNC F.NFL_CTL_IE_UNC).nflLog type tcode src 0xFFFF p (leAt page pageData 4)
  (t.record 0x12 0x40 sevFault 0 0 0, { status := 0x3F + type, t := 8 * tcode, info := List.replicate 32 0 })

/-- A page image decoded into `dest`: erased, corrected, or not. -/
def State.decodePage (s : State) (page : Bytes) (src p dest : Nat) : State × NandOut :=
  let c := nandChan p
  if zeroBits page ≤ 8 then
    ((s.put dest (List.replicate pageData 0xFF)).wideAdd Reg.NFL_RDCNT_LO 1, { erased := true, info := List.replicate pageMeta 0xFF })
  else
    match pageTcode page with
    | none => s.readFail page src p dest 2 0
    | some k =>
      match bchErrors (8 * k) (received (8 * k) page) with
      | none => s.readFail page src p dest 1 k
      | some errs =>
        let b := correctPage (8 * k) page errs
        let e := errs.length
        let t := (s.put dest (b.take pageData)).readCounts c e (8 * k)
        let t := if 3 * (8 * k) ≤ 4 * e then t.nflLog 3 k src e p (leAt b pageData 4) else t
        (t, { bits := e, t := 8 * k, info := b.drop pageData })

/-- Why a page address is not served for a source (0 ring 68, 1 ring 70, 2 update port). -/
def State.badPage (s : State) (src p : Nat) : Bool :=
  decide (2 ^ 29 ≤ p) || decide (s.code.nands ≤ nandChan p) || (inImageStore p != decide (src = 2))

/-- Whether a buffer of `n` bytes is aligned and in installed DRAM: 0, or the status of R96. -/
def State.bufStatus (s : State) (a n : Nat) : Nat := if a % 64 ≠ 0 then 2 else if inDramRange s.code a n = false then 5 else 0

/-- READ. -/
def State.nandRead (s : State) (src p dest : Nat) (flips : List Nat) : State × NandOut :=
  if s.bufStatus dest pageData ≠ 0 then (s, { status := s.bufStatus dest pageData })
  else if s.badPage src p then (s, { status := 0x45 })
  else s.decodePage (flipBits (s.nandPage p) flips) src p dest

/-- The content of a page after bytes are programmed: a page already programmed holds free bytes. -/
def State.nandStore (s : State) (p : Nat) (b : Bytes) : State :=
  let old := SMap.get (fun _ => []) s.nand.pages p
  let v := if old = [] then b else (List.range pageSize).map (fun i => Config.freeByte s.free i)
  { s with nand := { s.nand with pages := SMap.set (fun _ => []) s.nand.pages p v }, free := if old = [] then s.free else s.free + 1 }

/-- A page whose program failed holds free bytes. -/
def State.nandFree (s : State) (p : Nat) : State :=
  { s with nand := { s.nand with pages := SMap.set (fun _ => []) s.nand.pages p ((List.range pageSize).map (fun i => Config.freeByte s.free i)) }, free := s.free + 1 }

/-- The programmed pages of a block whose erase failed hold free bytes. -/
def State.blockFree (s : State) (p : Nat) : State :=
  (s.nand.pages.filter (fun e => decide (e.1 / 1024 = p / 1024))).foldl (fun x e => x.nandFree e.1) s

/-- A failure the device reports: 4 PROGFAIL, 5 ERASEFAIL. -/
def State.nandFail (s : State) (src p type : Nat) : State × NandOut :=
  let c := nandChan p
  let t := if type = 4 then s.inc (F.NFL_CHc_FAILS_PROG c) else s.inc (F.NFL_CHc_FAILS_ERASE c)
  let t := (t.flag F.NFL_STAT_FAIL F.NFL_CTL_IE_FAIL).nflLog type 0 src 0xFFFF p 0
  (t.record 0x12 (0x3D + type) sevFault 0 0 0, { status := 0x3E + type })

/-- A poisoned source. -/
def State.srcPoison (s : State) : State × NandOut :=
  ((s.inc F.NFL_POISCNT_CNT).flag F.NFL_STAT_POISON F.NFL_CTL_IE_POIS, { status := 0x46 })

/-- PROGRAM under the region's strength; `bad` says that its entry has an uncorrectable error. -/
def State.nandProgram (s : State) (src p from0 : Nat) (info : Bytes) (fail bad : Bool) : State × NandOut :=
  if s.bufStatus from0 pageData ≠ 0 then (s, { status := s.bufStatus from0 pageData })
  else if s.badPage src p then (s, { status := 0x45 })
  else if s.mem.poisoned from0 pageData then s.srcPoison
  else
    let r := nandRegion p
    let s := if bad then { s with nand := { s.nand with strBad := insertNat r s.nand.strBad } } else s
    let k := if src = 2 then 20 else s.tcodeOf r
    let s := s.wideAdd Reg.NFL_PGCNT_LO 1
    if fail then
      let x := s.nandFail src p 4
      (x.1.nandFree p, { x.2 with t := 8 * k })
    else (s.nandStore p (pageOf (s.mem.readBytes from0 pageData) info k), { t := 8 * k })

/-- ERASE of the block of a page address. -/
def State.nandErase (s : State) (src p : Nat) (fail : Bool) : State × NandOut :=
  if p % 1024 ≠ 0 then (s, { status := 2 })
  else if s.badPage src p then (s, { status := 0x45 })
  else
    let t := (s.wideAdd Reg.NFL_ERCNT_LO 1).packCount (nandChan p)
    let t := if src = 2 then t else t.terErase p
    if fail then
      let x := t.nandFail src p 5
      (x.1.blockFree p, x.2)
    else ({ t with nand := { t.nand with pages := SMap.keep (fun k => decide (k / 1024 ≠ p / 1024)) t.nand.pages } }, {})

/-- The source of a ring. -/
def nflSource (q : Nat) : Nat := if q = 68 then 0 else 1

/-- An operation of ring 68 or 70. -/
def State.nflServe (s : State) (q op : Nat) (f : Desc → State → State × NandOut) : State :=
  if q = 68 ∨ q = 70 then
    s.serve q op (fun d t =>
      let r := f d t
      (r.1, r.2.result))
  else s

/-- NAND_READ. -/
def execNandRead (q : Nat) (flips : List Nat) (s : State) : Host.Outcome State Fault Refusal :=
  .next (s.nflServe q 1 (fun d t => t.nandRead (nflSource q) (d.le 16 4) (d.le 24 8) flips))

/-- NAND_PROGRAM. -/
def execNandProgram (q : Nat) (fail tableBad : Bool) (s : State) : Host.Outcome State Fault Refusal :=
  .next (s.nflServe q 2 (fun d t => t.nandProgram (nflSource q) (d.le 16 4) (d.le 24 8) (d.payload.drop 16) fail tableBad))

/-- NAND_ERASE. -/
def execNandErase (q : Nat) (fail : Bool) (s : State) : Host.Outcome State Fault Refusal :=
  .next (s.nflServe q 3 (fun d t => t.nandErase (nflSource q) (d.le 16 4) fail))

/-! ### Raw mode (R432) -/

/-- An operation of raw mode. -/
def State.rawServe (s : State) (op : Nat) (f : Desc → State → State × NandOut) : State :=
  s.nflServe 70 op (fun d t => if t.on F.NFL_CTL_RAWEN then f d t else (t, { status := 0x44 }))

/-- RAWREAD. -/
def execRawread (flips : List Nat) (s : State) : Host.Outcome State Fault Refusal :=
  .next (s.rawServe 0x10 (fun d t =>
    if t.bufStatus (d.le 24 8) pageSize ≠ 0 then (t, { status := t.bufStatus (d.le 24 8) pageSize })
    else if t.badPage 1 (d.le 16 4) then (t, { status := 0x45 })
    else ((t.put (d.le 24 8) (flipBits (t.nandPage (d.le 16 4)) flips)).wideAdd Reg.NFL_RDCNT_LO 1, {})))

/-- RAWPROG. -/
def execRawprog (fail : Bool) (s : State) : Host.Outcome State Fault Refusal :=
  .next (s.rawServe 0x11 (fun d t =>
    let a := d.le 24 8
    let p := d.le 16 4
    if t.bufStatus a pageSize ≠ 0 then (t, { status := t.bufStatus a pageSize })
    else if d.zeros 32 32 = false then (t, { status := 2 })
    else if t.badPage 1 p then (t, { status := 0x45 })
    else if t.mem.poisoned a pageSize then t.srcPoison
    else
      let u := t.wideAdd Reg.NFL_PGCNT_LO 1
      if fail then
        let x := u.nandFail 1 p 4
        (x.1.nandFree p, x.2)
      else (u.nandStore p (t.mem.readBytes a pageSize), {})))

/-- DECODE. -/
def execDecode (s : State) : Host.Outcome State Fault Refusal :=
  .next (s.rawServe 0x12 (fun d t =>
    let dest := d.le 24 8
    let img := d.le 32 8
    if t.bufStatus dest pageData ≠ 0 then (t, { status := t.bufStatus dest pageData })
    else if t.bufStatus img pageSize ≠ 0 then (t, { status := t.bufStatus img pageSize })
    else if t.mem.poisoned img pageSize then t.srcPoison
    else t.decodePage (t.mem.readBytes img pageSize) 1 0 dest))

/-! ### The log and registers (R423, R430, R436) -/

/-- LOG_POP. -/
def execLogPop (agent : Agent) (nfl : Bool) (s : State) : Host.Outcome State Fault Refusal :=
  .next (if nfl then s.gate agent 0x12 0x044 (fun t => t.nflPop) else s.gate agent 0x11 0x058 (fun t => t.memPop))

/-- The operations of channel `c` that have been taken and not completed. -/
def State.nflQueue (s : State) (c : Nat) : Nat :=
  (((s.ring 68).taken ++ (s.ring 70).taken).filter (fun d => d.running && [1, 2, 3, 0x10, 0x11].contains d.op &&
    decide (nandChan (d.le 16 4) = c))).length

/-- NFL_BUSY and NFL_CHc_STAT as they stand. -/
def State.nflBusy (s : State) : State :=
  (List.range s.code.nands).foldl (fun x c =>
    ((x.wrSat (F.NFL_CHc_STAT_QUEUE c) (s.nflQueue c)).wrB (F.NFL_CHc_STAT_BUSY c) (decide (s.nflQueue c ≠ 0))).wrB ⟨Reg.NFL_BUSY, c, c⟩
      (decide (s.nflQueue c ≠ 0))) s

/-- NFL_STRDATA follows the entry that NFL_STRIDX addresses. -/
def State.strShow (s : State) : State := s.wr F.NFL_STRDATA_TCODE (s.tcodeOf (s.rd F.NFL_STRIDX_REGION))

/-- A write to the NFL block. -/
def State.nflWrite (s : State) (off : Nat) (v : W32) : State :=
  let key := 0x12000 + off
  if off = 0x014 then (s.plainWrite key v).strShow
  else if off = 0x018 then
    let k := getBits v 4 0
    let r := s.rd F.NFL_STRIDX_REGION
    if k < 1 ∨ 20 < k then s.nflReject 1
    else
      let n : Nand := { s.nand with strength := SMap.set (fun _ => 5) s.nand.strength r k, strBad := s.nand.strBad.filter (fun x => x ≠ r) }
      ({ s with nand := n }).applyWrite key v
  else if off = 0x044 then (if bitAt v.toNat 0 then s.nflPop else s)
  else s.plainWrite key v

/-- What a parity fault does beyond returning the register to reset. -/
def State.nflParity (s : State) : State := s.wr F.NFL_STAT_PARFLT 1

end Sys2Proof.Machine
end

