-- ==== Sys2Proof/Machine/Terrace.lean ====
section
/-! DEFINITION. Terrace (R437-R464): namespaces, the extent map, placement and moves, drives, poisoned blocks, intake from the engines, its
commands and its registers. -/

namespace Sys2Proof.Machine

/-! ### Access -/

/-- Bytes of a block; blocks of an extent. -/
def blockBytes : Nat := 4096
def extBlocks : Nat := 1024

/-- A namespace. -/
def State.ns (s : State) (n : Nat) : Ns := SMap.get (fun _ => {}) s.ter.nss n
def State.setNs (s : State) (n : Nat) (x : Ns) : State := { s with ter := { s.ter with nss := SMap.set (fun _ => {}) s.ter.nss n x } }

/-- The key of extent `e` of namespace `n`, and of a block. -/
def extKey (n e : Nat) : Nat := n * 2 ^ 30 + e
def blkKey (n lba : Nat) : Nat := n * 2 ^ 42 + lba

/-- An extent by its key. -/
def State.ext (s : State) (k : Nat) : Ext := SMap.get (fun _ => {}) s.ter.exts k
def State.setExt (s : State) (k : Nat) (x : Ext) : State := { s with ter := { s.ter with exts := SMap.set (fun _ => {}) s.ter.exts k x } }

/-- The namespace of an extent's key. -/
def extNs (k : Nat) : Nat := k / 2 ^ 30

/-- A drive number. -/
def State.drive (s : State) (d : Nat) : Drive := SMap.get (fun _ => {}) s.ter.drives d
def State.setDrive (s : State) (d : Nat) (x : Drive) : State := { s with ter := { s.ter with drives := SMap.set (fun _ => {}) s.ter.drives d x } }

/-- Extents tier 0 offers (R437). -/
def Code.tier0 (c : Code) : Nat := c.pick 1835008 1835008 917504

/-- Extents in use on tier 0. -/
def State.tier0Used (s : State) : Nat := (s.ter.exts.filter (fun e => decide (e.2.st ≠ 0 ∧ e.2.a = 255 ∧ e.2.b = 255))).length

/-- Whether a copy of the extent lies on drive `d`. -/
def Ext.on (x : Ext) (d : Nat) : Bool := decide (x.st ≠ 0) && (decide (x.a = d) || decide (x.b = d))

/-- Extents in use on drive `d`, those a move writes among them. -/
def State.driveUsed (s : State) (d : Nat) : Nat :=
  (s.ter.exts.filter (fun e => e.2.on d)).length + (match s.ter.move with | some m => if m.dst.contains d then 1 else 0 | none => 0)

/-- Free extents of drive `d`. -/
def State.driveFree (s : State) (d : Nat) : Nat := (s.drive d).cap - s.driveUsed d

/-- Whether a drive answers: MEMBER or EVACUATING. -/
def State.reachable (s : State) (d : Nat) : Bool := decide ((s.drive d).st = 2) || decide ((s.drive d).st = 6)

/-- The MEMBER drive with the most free extents, the lowest of equals, outside `not0` (R444). -/
def State.bestDrive (s : State) (not0 : List Nat) : Option Nat :=
  (List.range 32).foldl (fun b d =>
    if (s.drive d).st ≠ 2 ∨ not0.contains d = true ∨ s.driveFree d = 0 then b
    else match b with
      | none => some d
      | some x => if s.driveFree x < s.driveFree d then some d else b) none

/-- The drives a new tier 1 extent goes to; none where the tier has no room. -/
def State.tier1Place (s : State) (two : Bool) : Option (List Nat) :=
  match s.bestDrive [] with
  | none => none
  | some x =>
    if two then
      match s.bestDrive [x] with
      | some y => some [x, y]
      | none => none
    else some [x]

/-- Where a new extent of namespace `n` goes: the drives, or none of them for tier 0; or the status it is refused with (R444, R451). -/
def State.placeExt (s : State) (x : Ns) : List Nat × Nat :=
  let t1 := match s.tier1Place x.copies2 with
    | some l => (l, 0)
    | none => ([], 0x42)
  if x.policy = 1 then t1
  else if s.tier0Used < s.code.tier0 then (if s.tierReadOnly then ([], 0x44) else ([], 0))
  else if x.policy = 2 then t1
  else ([], 0x42)

/-! ### What registers show (R464) -/

/-- Extents of a state. -/
def State.extCount (s : State) (st : Nat) : Nat := (s.ter.exts.filter (fun e => e.2.st = st)).length

/-- Usable and free physical extents: tier 0, and the drives that answer. -/
def State.physExt (s : State) : Nat :=
  (List.range 32).foldl (fun a d => if s.reachable d then a + (s.drive d).cap else a) s.code.tier0
def State.physFree (s : State) : Nat :=
  (List.range 32).foldl (fun a d => if s.reachable d then a + s.driveFree d else a) (s.code.tier0 - s.tier0Used)

/-- The sum of the namespaces' sizes. -/
def State.nsExt (s : State) : Nat := s.ter.nss.foldl (fun a e => a + e.2.size) 0

/-- Whether a block of an extent is poisoned, and whether the block itself is. -/
def State.extBad (s : State) (k : Nat) : Bool :=
  (s.ext k).poisAll || s.ter.bad.any (fun b => decide (b / 2 ^ 42 = extNs k ∧ b % 2 ^ 42 / 1024 = k % 2 ^ 30))
def State.blockBad (s : State) (n lba : Nat) : Bool := (s.ext (extKey n (lba / 1024))).poisAll || s.ter.bad.contains (blkKey n lba)

/-- One namespace's register. -/
def State.nsReg (s : State) (n : Nat) : State :=
  let x := s.ns n
  let es := s.ter.exts.filter (fun e => decide (extNs e.1 = n))
  let t := (s.wr (F.TER_NSn_CFG_STATE n) (if x.present then (if x.deleting.isSome then 2 else 1) else 0)).wr (F.TER_NSn_CFG_KIND n) x.kind
  let t := (t.wr (F.TER_NSn_CFG_POLICY n) x.policy).wrB (F.TER_NSn_CFG_COPIES2 n) x.copies2
  let t := (t.wrB (F.TER_NSn_CFG_POIS n) (es.any (fun e => s.extBad e.1))).wrB (F.TER_NSn_CFG_DEGR n) (es.any (fun e => e.2.st = 4))
  t.wrB (F.TER_NSn_CFG_MISS n) (es.any (fun e => e.2.st = 5))

/-- Terrace's registers brought up to date; SPACE is raised when free extents fall below 5 % (R462). -/
def State.terRegs (s : State) : State :=
  let t := (((s.wr F.TER_NSEXT_EXT s.nsExt).wr F.TER_PHYSEXT_EXT s.physExt).wr F.TER_PHYSFREE_EXT s.physFree)
  let t := ((t.wr F.TER_DEGRADED_EXT (s.extCount 4)).wr F.TER_MISSING_EXT (s.extCount 5)).wr F.TER_TILEIDX_USED s.ter.index.length
  let t := (t.wr F.TER_POISMAPS_USED (s.ter.exts.filter (fun e => e.2.pmap ≠ 0xFFFF)).length).wr F.TER_RAWBLK_LENT s.ter.lent.length
  let t := (t.wrB F.TER_STAT_DEGRADED (decide (s.extCount 4 ≠ 0))).wrB F.TER_STAT_MISSING (decide (s.extCount 5 ≠ 0))
  let t : State := (List.range 64).foldl (fun x n => x.nsReg n) t
  let t : State := (List.range 32).foldl (fun x d => (x.wr (F.TER_DRVd_STAT_STATE d) (s.drive d).st).wr (F.TER_DRVd_CAP_EXT d) (s.drive d).cap) t
  let low := decide (20 * s.physFree < s.physExt)
  if low = s.ter.spaceTold then t
  else
    let t := { t with ter := { t.ter with spaceTold := low } }
    if low then (t.flag F.TER_STAT_SPACE F.TER_CTL_IE_SPACE).terEvent 7 255 255 0 else t

/-! ### Poison (R453-R455) -/

/-- A poison event. -/
def State.terPoison (s : State) (n lba : Nat) : State :=
  let x := s.ext (extKey n (lba / 1024))
  ((s.inc F.TER_POISCNT_CNT).flag F.TER_STAT_POISON F.TER_CTL_IE_POIS).terEvent 5 x.a n (lba / 1024)

/-- A block marked poisoned: its extent takes a poison map, or sets POISALL where the pool is exhausted. -/
def State.markBlock (s : State) (n lba : Nat) : State :=
  let k := extKey n (lba / 1024)
  let x := s.ext k
  if x.poisAll then s
  else if x.pmap ≠ 0xFFFF then { s with ter := { s.ter with bad := insertNat (blkKey n lba) s.ter.bad } }
  else if (s.ter.exts.filter (fun e => e.2.pmap ≠ 0xFFFF)).length < 65536 then
    let t := (s.setExt k { x with pmap := s.freshNat % 0xFFFF }).tickFree
    { t with ter := { t.ter with bad := insertNat (blkKey n lba) t.ter.bad } }
  else s.setExt k { x with poisAll := true, cover := [] }

/-- A block's mark cleared: it was written whole or deallocated. -/
def State.clearBlock (s : State) (n lba : Nat) : State :=
  let k := extKey n (lba / 1024)
  let x := s.ext k
  if x.poisAll then
    let c := insertNat lba x.cover
    s.setExt k (if c.length = 1024 then { x with poisAll := false, cover := [] } else { x with cover := c })
  else
    let t := { s with ter := { s.ter with bad := s.ter.bad.filter (fun b => b ≠ blkKey n lba) } }
    if x.pmap ≠ 0xFFFF ∧ t.extBad k = false then t.setExt k { x with pmap := 0xFFFF } else t

/-! ### Blocks -/

/-- The content of a block: zeros where it was never written or was deallocated. -/
def State.blockOf (s : State) (n lba : Nat) : Bytes := fitBytes blockBytes (SMap.get (fun _ => []) s.ter.blocks (blkKey n lba))

/-- The extents a range of blocks touches. -/
def extsOf (lba cnt : Nat) : List Nat := if cnt = 0 then [] else (List.range ((lba + cnt - 1) / 1024 - lba / 1024 + 1)).map (fun i => lba / 1024 + i)

/-- A block written, with the mark its source carries; `whole` says that the write covers it. -/
def State.writeBlock (s : State) (n lba : Nat) (b : Bytes) (poison whole : Bool) : State :=
  let k := extKey n (lba / 1024)
  let t := { s with ter := { s.ter with blocks := SMap.set (fun _ => []) s.ter.blocks (blkKey n lba) (fitBytes blockBytes b) } }
  let x := t.ext k
  let lost := if x.st = 4 then (if x.a ≠ 255 ∧ s.reachable x.a = false then x.a else if x.b ≠ 255 ∧ s.reachable x.b = false then x.b else x.stale) else x.stale
  let t := t.setExt k { x with wrote := s.now, stale := lost, stay := false }
  let t := match t.ter.move with
    | some m => if m.key = k then { t with ter := { t.ter with move := some { m with dirty := true } } } else t
    | none => t
  let t := if x.a = 255 ∧ x.b = 255 then t.wideAdd Reg.TER_NANDWR_LO blockBytes else t
  if poison then
    let u := t.markBlock n lba
    if x.a < 32 then (u.terPoison n lba).pcePoison x.a else u
  else if whole then t.clearBlock n lba else t

/-- An extent takes its place on the drives `l`, or on tier 0 where `l` is empty; the places themselves are free. -/
def State.takeExt (s : State) (k : Nat) (l : List Nat) : State :=
  let two := decide (l.length = 2)
  (s.setExt k { st := if l = [] then 1 else 2, a := l.getD 0 255, b := l.getD 1 255, la := s.freshNat % 2 ^ 32, lb := if two then Config.freeNat (s.free + 1) % 2 ^ 32 else 0,
                wrote := s.now }).tickFree.tickFree

/-- The extents a write needs are taken in order; a status other than 0 says why one cannot be, and then nothing changes. -/
def State.needExts (s : State) (n : Nat) (es : List Nat) : State × Nat :=
  let r := es.foldl (fun (x : State × Nat) e =>
    if x.2 ≠ 0 then x
    else
      let y := x.1.ext (extKey n e)
      if y.st = 5 then (x.1, 0x45)
      else if y.st = 0 then
        let p := x.1.placeExt (s.ns n)
        if p.2 ≠ 0 then (x.1, p.2) else (x.1.takeExt (extKey n e) p.1, 0)
      else if y.a = 255 ∧ s.tierReadOnly = true then (x.1, 0x44)
      else x) (s, 0)
  if r.2 = 0 then r else (s, r.2)

/-- A command counted. -/
def State.terCmd (s : State) : State := s.wideAdd Reg.TER_CMDCNT_LO 1

/-- Whether namespace `n` takes a command; `d` is the descriptor of a local one. -/
def State.nsOpen (s : State) (n : Nat) (d : Option Desc) : Bool :=
  (s.ns n).present && (match (s.ns n).deleting with
    | none => true
    | some l => (match d with | some x => l.contains x | none => false))

/-- The checks of a range, in the order of R459's reading: NONS, RANGE; 0 for none. -/
def State.rangeStatus (s : State) (n lba cnt : Nat) (d : Option Desc) : Nat :=
  if s.nsOpen n d = false then 0x40 else if (s.ns n).size * 1024 < lba + cnt then 0x41 else 0

/-- Whether an extent of the range is MISSING. -/
def State.anyMissing (s : State) (n lba cnt : Nat) : Bool := (extsOf lba cnt).any (fun e => decide ((s.ext (extKey n e)).st = 5))

/-- Blocks whose media do not read: marked, counted as media errors of their drives. -/
def State.mediaBad (s : State) (n : Nat) (bad : List Nat) : State :=
  bad.foldl (fun x lba =>
    let e := x.ext (extKey n (lba / 1024))
    let t := x.markBlock n lba
    if e.a < 32 then t.inc (F.TER_DRVd_STAT_MEDERR e.a) else t) s

/-- The blocks of `bad` that lie in the range and have been written. -/
def State.badIn (s : State) (n lba cnt : Nat) (bad : List Nat) : List Nat :=
  bad.filter (fun b => decide (lba ≤ b ∧ b < lba + cnt) && decide ((s.ext (extKey n (b / 1024))).st ≠ 0))

/-! ### States of extents and drives (R447-R450) -/

/-- Drive copies of an extent. -/
def Ext.copies (x : Ext) : List Nat := [x.a, x.b].filter (fun d => d ≠ 255)

/-- The state of a tier 1 extent as its copies stand. -/
def State.judged (s : State) (k : Nat) (x : Ext) : Ext :=
  if x.st = 0 ∨ x.st = 3 ∨ (x.a = 255 ∧ x.b = 255 ∧ x.st = 1) then x
  else
    let good := x.copies.filter (fun d => s.reachable d && decide (d ≠ x.stale))
    let want := if (s.ns (extNs k)).copies2 then 2 else 1
    let st := if good = [] then 5 else if good.length < want then 4 else 2
    { x with st := st, since := if st = 4 ∧ x.st ≠ 4 then s.now else x.since }

/-- Every extent judged again. -/
def State.judgeAll (s : State) : State :=
  { s with ter := { s.ter with exts := s.ter.exts.map (fun e => (e.1, s.judged e.1 e.2)) } }

/-- The move under way is abandoned: its extent stays where it lies. -/
def State.moveAbandon (s : State) : State :=
  match s.ter.move with
  | some m =>
    let x := s.ext m.key
    (({ s with ter := { s.ter with move := none } }).setExt m.key { x with st := if x.a = 255 then 1 else 2, stay := true }).tokGive 2
  | none => s

/-- A drive's state set, with DRVCHG. -/
def State.driveState (s : State) (d st : Nat) : State :=
  (s.setDrive d { s.drive d with st := st }).flag F.TER_STAT_DRVCHG F.TER_CTL_IE_DRV

/-- An evacuation under way ends with a status; the time it waited for its token counts as lateness (R512). -/
def State.evacEnd (s : State) (status : Nat) : State :=
  match s.ter.evac with
  | some d =>
    let t := { s with ter := { s.ter with evac := none } }
    let t := if t.holdsToken 2 4 ∧ t.rd (F.HLT_TOKc_ACT 2) = 7 then t.tokGive 2 else t.tokWithdraw 2 4 7
    t.complete 72 (d.waited ((if s.holdsToken 2 4 then (s.token 2).since else s.now) - d.started)) { status := status }
  | none => s

/-- A drive that held extents is lost: `st` is MISSING or FAILED, `tag` the event; blocks of writes in flight to a single copy are
poisoned. -/
def State.driveLost (s : State) (d st tag : Nat) (flight : List (Nat × Nat)) : State :=
  let n := (s.ter.exts.filter (fun e => e.2.on d)).length
  let s := if (s.drive d).st = 6 then s.evacEnd 0x45 else s
  let s := match s.ter.move with | some m => if m.dst.contains d then s.moveAbandon else s | none => s
  let t := (s.driveState d st).judgeAll
  let t : State := flight.foldl (fun x f => if (x.ext (extKey f.1 (f.2 / 1024))).copies = [d] then x.markBlock f.1 f.2 else x) t
  (t.terEvent tag d 255 n).terRegs

/-- A drive's copies are reachable again. -/
def State.driveBack (s : State) (d : Nat) : State := (s.driveState d 2).judgeAll

/-- Whether a label is current in slot `d`. -/
def State.labelCurrent (s : State) (d : Nat) (l : Option (Nat × Nat × Nat)) : Bool :=
  match l with
  | some x => decide (x.1 = s.ethMac) && decide (x.2.1 = d) && decide (x.2.2 = (s.drive d).gen)
  | none => false

/-- Terrace judges the drive whose link has come up (R447, R449): whether it meets R438, its extents and its label are kept, for the release
of a MISSING slot whose connected drive is another one. -/
def State.judgeDrive (s : State) (d : Nat) (suits : Bool) (exts : Nat) (label : Option (Nat × Nat × Nat)) : State :=
  let x := s.drive d
  let cap := exts - 1
  let now := s.setDrive d { x with cap := cap, seen := some (suits, exts, label), upAt := s.now }
  match x.st with
  | 0 =>
    (if suits = false then now.driveState d 7
    else if label = none then ((now.driveState d 1).terEvent 1 d 255 0)
    else if s.labelCurrent d label then now.driveBack d
    else now.driveState d 4).terRegs
  | 3 =>
    if suits ∧ s.labelCurrent d label = true then
      let n := (s.ter.exts.filter (fun e => e.2.on d)).length
      ((now.driveBack d).terEvent 3 d 255 n).terRegs
    else s.setDrive d { x with seen := some (suits, exts, label), upAt := s.now }
  | _ => s.setDrive d { x with seen := some (suits, exts, label), upAt := s.now }

/-! ### Commands -/

/-- A command of ring `q` carried out while Terrace runs. -/
def State.terServe (s : State) (q op : Nat) (f : Desc → State → State × Result) : State :=
  if s.terUp then
    let t := s.serve q op (fun d x =>
      let r := f d x.terCmd
      (r.1.terRegs, r.2))
    t
  else s

/-- The commands Terrace has accepted. -/
def State.terAccepted (s : State) : Nat := ([72, 74, 76].map (fun q => ((s.ring q).taken.filter (fun d => d.running)).length)).foldl (fun a b => a + b) 0

/-- Terrace stops once the accepted commands have completed. -/
def State.terStopDue (s : State) : State :=
  if s.ter.stopping ∧ s.terAccepted = 0 then
    let t := match s.ter.move with | some _ => s.moveAbandon | none => s
    ({ t with ter := { t.ter with stopping := false } }.wr F.TER_READY_STATE 0).wr F.TER_STAT_READY 0
  else s

/-- Namespaces whose NSDELETE waits: completed commands leave the list. -/
def State.deletePrune (s : State) : State :=
  { s with ter := { s.ter with nss := s.ter.nss.map (fun e => (e.1, { e.2 with deleting := e.2.deleting.map (fun l => l.filter (fun d => (s.ring 74).taken.contains d)) })) } }

/-- After a local command. -/
def State.terAfter (s : State) : State := s.deletePrune.terStopDue

/-- Namespaces changed: the asynchronous event of every connection (R458). -/
def NvmeConn.told (c : NvmeConn) (nsid : Nat) : NvmeConn :=
  let fresh := decide (c.changed = [])
  let c := { c with changed := insertNat nsid c.changed }
  if fresh && bitAt c.aec 8 then { c with owed := true } else c

/-- The Asynchronous Event Requests that wait on connections that are owed the event complete: Notice, Namespace Attribute Changed, log
page 4. -/
def State.payEvents (s : State) : State :=
  let due := s.eth.conns.filter (fun c => c.owed && decide (c.aers ≠ []))
  let cpls := due.map (fun c => ({ conn := c.id, cid := c.aers.getD 0 0, dw0 := 0x040002 } : HostCpl))
  { s with eth := { s.eth with conns := s.eth.conns.map (fun c => if c.owed ∧ c.aers ≠ [] then { c with owed := false, aers := c.aers.drop 1 } else c) },
           ter := { s.ter with cpls := s.ter.cpls ++ cpls } }

/-- Namespace `n` is created, deleted or changes its export. -/
def State.nsChanged (s : State) (n : Nat) : State :=
  ({ s with eth := { s.eth with conns := s.eth.conns.map (fun c => NvmeConn.told c (n + 1)) } }).payEvents

/-- NSCREATE. -/
def execNscreate (s : State) : Host.Outcome State Fault Refusal :=
  .next ((s.terServe 72 1 (fun d t =>
    let n := d.le 16 1
    let size := d.le 20 4
    let x : Ns := { present := true, kind := d.le 17 1, policy := d.le 18 1, copies2 := bitAt (d.le 19 1) 0, size := size }
    if 64 ≤ n ∨ 1 < d.le 17 1 ∨ 2 < d.le 18 1 ∨ size = 0 ∨ (t.ns n).present = true then (t, { status := 2 })
    else if t.code = .l ∧ d.le 18 1 ≠ 0 then (t, { status := 0x47 })
    else if t.rd F.TER_CAPLIM_EXT < t.nsExt + size then (t, { status := 0x42 })
    else if t.rd F.TER_MAPSIZE_SIZE * 0x1000000 < 16 * (t.nsExt + size) then (t, { status := 0x46 })
    else ((t.setNs n x).nsChanged n, {}))).terAfter)

/-- The content of namespace `n` given up. -/
def State.nsDrop (s : State) (n : Nat) : State :=
  let s := match s.ter.move with | some m => if extNs m.key = n then s.moveAbandon else s | none => s
  let t := { s.ter with exts := SMap.keep (fun k => decide (extNs k ≠ n)) s.ter.exts, blocks := SMap.keep (fun k => decide (k / 2 ^ 42 ≠ n)) s.ter.blocks, bad := s.ter.bad.filter (fun k => decide (k / 2 ^ 42 ≠ n)) }
  let t := { t with index := if s.rd F.TER_TILECTL_NS = n then [] else t.index }
  (({ s with ter := t }).setNs n {}).resetReg (Reg.TER_NSn_CFG n)

/-- NSDELETE: it waits until every command accepted before it has completed; then the extents are freed. -/
def execNsdelete (s : State) : Host.Outcome State Fault Refusal :=
  .next (
    match s.running 72 2 with
    | none => s
    | some d =>
      let n := d.le 16 1
      let x := s.ns n
      if s.terUp = false then s
      else if 64 ≤ n ∨ x.present = false then (s.terServe 72 2 (fun _ t => (t, { status := 0x40 }))).terAfter
      else
        match x.deleting with
        | none =>
          let l := (s.ring 74).taken.filter (fun y => y.running && decide (y.le 16 1 = n))
          let t := (s.setNs n { x with deleting := some l }).terRegs
          if l ≠ [] then t
          else
            let freed := (s.ter.exts.filter (fun e => decide (extNs e.1 = n ∧ e.2.st ≠ 0))).length
            (t.terServe 72 2 (fun _ u => ((u.nsDrop n).nsChanged n, { bytes := resultOf [(24, 4, freed)] }))).terAfter
        | some l =>
          if l ≠ [] then s
          else
            let freed := (s.ter.exts.filter (fun e => decide (extNs e.1 = n ∧ e.2.st ≠ 0))).length
            (s.terServe 72 2 (fun _ u => ((u.nsDrop n).nsChanged n, { bytes := resultOf [(24, 4, freed)] }))).terAfter)

/-- NSINFO. -/
def execNsinfo (s : State) : Host.Outcome State Fault Refusal :=
  .next ((s.terServe 72 3 (fun d t =>
    let n := d.le 16 1
    let a := d.le 24 8
    let es := t.ter.exts.filter (fun e => decide (extNs e.1 = n ∧ e.2.st ≠ 0))
    let bad := es.foldl (fun m e => if e.2.poisAll then m + 1024 else m) (t.ter.bad.filter (fun b => decide (b / 2 ^ 42 = n))).length
    if 64 ≤ n then (t, { status := 2 })
    else if t.bufStatus a 64 ≠ 0 then (t, { status := t.bufStatus a 64 })
    else if t.nsOpen n none = false then (t, { status := 0x40 })
    else (t.put a (leBytes 8 (t.ns n).size ++ leBytes 8 es.length ++ leBytes 8 (t.ns n).wpos ++ leBytes 8 bad ++ leBytes 32 0), {}))).terAfter)

/-- One extent map entry (R442). -/
def State.mapEntry (s : State) (k : Nat) : Bytes :=
  let x := s.ext k
  let fl := (if s.extBad k then 1 else 0) + (if x.poisAll then 2 else 0) + (if x.stale ≠ 255 then 4 else 0)
  let age := if x.st = 0 then 0 else min 0xFFFF ((s.now - x.wrote) / 60000000000)
  leBytes 1 x.st ++ leBytes 1 fl ++ leBytes 1 x.a ++ leBytes 1 x.b ++ leBytes 4 x.la ++ leBytes 4 x.lb ++ leBytes 2 x.pmap ++ leBytes 2 age

/-- EXTREAD. -/
def execExtread (s : State) : Host.Outcome State Fault Refusal :=
  .next ((s.terServe 72 8 (fun d t =>
    let n := d.le 16 1
    let first := d.le 20 4
    let cnt := d.le 24 4
    let a := d.le 32 8
    if 64 ≤ n ∨ cnt = 0 then (t, { status := 2 })
    else if t.bufStatus a (16 * cnt) ≠ 0 then (t, { status := t.bufStatus a (16 * cnt) })
    else if t.nsOpen n none = false then (t, { status := 0x40 })
    else if (t.ns n).size < first + cnt then (t, { status := 0x41 })
    else (t.put a ((List.range cnt).map (fun i => t.mapEntry (extKey n (first + i)))).flatten, {}))).terAfter)

/-- ADMIT. -/
def execAdmitCmd (s : State) : Host.Outcome State Fault Refusal :=
  .next ((s.terServe 72 4 (fun d t =>
    let n := d.le 16 1
    if 32 ≤ n then (t, { status := 2 })
    else if (t.drive n).st = 1 ∨ (t.drive n).st = 4 then (t.driveState n 2, {})
    else (t, { status := 0x47 }))).terAfter)

/-- The copies on drive `n` forgotten; STALE extents become DEGRADED or MISSING for good. -/
def State.forgetDrive (s : State) (n : Nat) : State :=
  let f (x : Ext) : Ext :=
    if x.on n = false then x
    else
      let x := if x.stale = n then { x with stale := 255 } else x
      if x.a = n then { x with a := x.b, la := x.lb, b := 255, lb := 0, st := if x.b = 255 then 5 else x.st } else { x with b := 255, lb := 0 }
  { s with ter := { s.ter with exts := s.ter.exts.map (fun e => (e.1, f e.2)) } }

/-- RELEASE: the slot is EMPTY; another drive connected in a MISSING slot is judged as on link up (R447). -/
def execReleaseCmd (s : State) : Host.Outcome State Fault Refusal :=
  .next ((s.terServe 72 5 (fun d t =>
    let n := d.le 16 1
    if 32 ≤ n then (t, { status := 2 })
    else if (t.drive n).st = 3 ∨ (t.drive n).st = 5 then
      let x := t.drive n
      let u := (t.driveState n 0).forgetDrive n
      let u := (u.setDrive n { x with st := 0, cap := 0, gen := x.gen + 1 }).judgeAll
      match (if x.st = 3 then x.seen else none) with
      | some (suits, exts, label) => (u.judgeDrive n suits exts label, {})
      | none => (u, {})
    else (t, { status := 0x47 }))).terAfter)

/-- A command of ring 72 that runs under the NAND token for its duration: while another activity holds the token the command waits; one
that fails takes no token (R511, R512). -/
def State.nandServe (s : State) (op : Nat) (f : Desc → State → State × Result) : State :=
  match s.running 72 op with
  | none => s
  | some d =>
    if s.terUp = false then s
    else
      let x := f d s.terCmd
      if x.2.status ≠ 0 then (x.1.terRegs.complete 72 d x.2).terAfter
      else
        let k := s.tokAsk 1 4 5
        if k.2 = false then k.1
        else
          let y := f d (k.1.tokGive 1).terCmd
          (y.1.terRegs.complete 72 (d.waited (s.now - d.started)) y.2).terAfter

/-- RAWLEND: erased blocks taken out of use; their page addresses are written, 4 bytes each. -/
def execRawlend (blocks : List Nat) (s : State) : Host.Outcome State Fault Refusal :=
  .next (s.nandServe 6 (fun d t =>
    let n := d.le 16 1
    let a := d.le 24 8
    let l := blocks.take n
    if n < 1 ∨ 16 < n ∨ l.length < n then (t, { status := 2 })
    else if t.bufStatus a (4 * n) ≠ 0 then (t, { status := t.bufStatus a (4 * n) })
    else if 16 < t.ter.lent.length + n then (t, { status := 0x48 })
    else (({ t with ter := { t.ter with lent := t.ter.lent ++ l } }).put a (l.map (fun p => leBytes 4 p)).flatten, {})))

/-- RAWRETURN: the listed blocks are erased and taken back; one whose erase fails is retired. -/
def execRawreturn (fails : List Nat) (s : State) : Host.Outcome State Fault Refusal :=
  .next (s.nandServe 7 (fun d t =>
    let n := d.le 16 1
    let a := d.le 24 8
    if n < 1 ∨ 16 < n then (t, { status := 2 })
    else if t.bufStatus a (4 * n) ≠ 0 then (t, { status := t.bufStatus a (4 * n) })
    else
      let l := (List.range n).map (fun i => t.mem.readLe (a + 4 * i) 4)
      if l.all (fun p => t.ter.lent.contains p) = false then (t, { status := 2 })
      else
        let t : State := l.foldl (fun x p => (x.nandErase 0 p (fails.contains p)).1) t
        ({ t with ter := { t.ter with lent := t.ter.lent.filter (fun p => !l.contains p) } }, {})))

/-- One step of an evacuation: the lowest extent with a copy on drive `n` moves to another MEMBER drive. -/
def State.evacMove (s : State) (n : Nat) : State :=
  match s.ter.exts.find? (fun e => e.2.on n) with
  | none => s
  | some (k, x) =>
    match s.bestDrive [x.a, x.b] with
    | none => s
    | some t =>
      let y := if x.a = n then { x with a := t, la := s.freshNat % 2 ^ 32 } else { x with b := t, lb := s.freshNat % 2 ^ 32 }
      (((s.setExt k y).tickFree).inc F.TER_MIGR_CNT).judgeAll

/-- EVACUATE: the drive's extents move away one by one under the storage token; it completes when the drive is NEW. -/
def execEvacuate (s : State) : Host.Outcome State Fault Refusal :=
  .next (
    match s.running 72 9 with
    | none => s
    | some d =>
      let n := d.le 16 1
      if s.terUp = false then s
      else if 32 ≤ n then (s.terServe 72 9 (fun _ t => (t, { status := 2 }))).terAfter
      else
        if s.ter.evac = some d then
          let k := s.tokAsk 2 4 7
          if k.2 = false then k.1
          else
            let t := k.1.evacMove n
            if t.ter.exts.any (fun e => e.2.on n) then t.terRegs
            else
              let t := (t.driveState n 1)
              (((t.setDrive n { t.drive n with gen := (t.drive n).gen + 1 }).evacEnd 0).terRegs).terAfter
        else if (s.drive n).st = 2 then
          let t := s.driveState n 6
          ((({ t with ter := { t.ter with evac := some d } }).tokAsk 2 4 7).1).terRegs
        else (s.terServe 72 9 (fun _ t => (t, { status := 0x47 }))).terAfter)

/-! ### Reads and writes -/

/-- Blocks read into a buffer: a poisoned block's lines carry the mark. The third component says whether any was. -/
def State.readInto (s : State) (n lba cnt a : Nat) : State × Bool :=
  (List.range cnt).foldl (fun (x : State × Bool) i =>
    let p := x.1.blockBad n (lba + i)
    let t := x.1.store (a + blockBytes * i) (x.1.blockOf n (lba + i)) p
    (if p then t.terPoison n (lba + i) else t, x.2 || p)) (s, false)

/-- TER_READ. -/
def execTerRead (bad : List Nat) (s : State) : Host.Outcome State Fault Refusal :=
  .next ((s.terServe 74 0x10 (fun d t =>
    let n := d.le 16 1
    let cnt := d.le 20 4
    let lba := d.le 24 8
    let a := d.le 32 8
    if 64 ≤ n ∨ cnt < 1 ∨ 65536 < cnt then (t, { status := 2 })
    else if t.bufStatus a (blockBytes * cnt) ≠ 0 then (t, { status := t.bufStatus a (blockBytes * cnt) })
    else if t.rangeStatus n lba cnt (some d) ≠ 0 then (t, { status := t.rangeStatus n lba cnt (some d) })
    else if t.anyMissing n lba cnt then (t, { status := 0x45 })
    else
      let t := t.mediaBad n (t.badIn n lba cnt bad)
      let r := t.readInto n lba cnt a
      (r.1.wideAdd Reg.TER_RDBYTES_LO (blockBytes * cnt), { poison := r.2 }))).terAfter)

/-- TER_WRITE. -/
def execTerWrite (s : State) : Host.Outcome State Fault Refusal :=
  .next ((s.terServe 74 0x11 (fun d t =>
    let n := d.le 16 1
    let cnt := d.le 20 4
    let lba := d.le 24 8
    let a := d.le 32 8
    if 64 ≤ n ∨ cnt < 1 ∨ 65536 < cnt then (t, { status := 2 })
    else if t.bufStatus a (blockBytes * cnt) ≠ 0 then (t, { status := t.bufStatus a (blockBytes * cnt) })
    else if t.rangeStatus n lba cnt (some d) ≠ 0 then (t, { status := t.rangeStatus n lba cnt (some d) })
    else if (t.ns n).kind = 1 then (t, { status := 0x49 })
    else
      let r := t.needExts n (extsOf lba cnt)
      if r.2 ≠ 0 then (t, { status := r.2 })
      else
        let t : State := (List.range cnt).foldl (fun x i =>
          let b := a + blockBytes * i
          x.writeBlock n (lba + i) (t.mem.readBytes b blockBytes) (t.mem.poisoned b blockBytes) true) r.1
        (t.wideAdd Reg.TER_WRBYTES_LO (blockBytes * cnt), {}))).terAfter)

/-- Bytes placed over a block at an offset. -/
def overlay (old : Bytes) (off : Nat) (b : Bytes) : Bytes := (fitBytes blockBytes old).take off ++ b ++ (fitBytes blockBytes old).drop (off + b.length)

/-- Bytes appended at WPOS, with the offsets of its poisoned 64-byte lines; the status is 0, NOTSTREAM, STREAMFULL or a placement's. -/
def State.appendBytes (s : State) (n : Nat) (b : Bytes) (bad : List Nat) : State × Nat :=
  let x := s.ns n
  let w := x.wpos
  let len := b.length
  if x.kind ≠ 1 then (s, 0x49)
  else if x.size * 4194304 < w + len then (s, 0x43)
  else
    let first := w / blockBytes
    let cnt := (w + len - 1) / blockBytes - first + 1
    let r := s.needExts n (extsOf first cnt)
    if r.2 ≠ 0 then (s, r.2)
    else
      let t : State := (List.range cnt).foldl (fun y i =>
        let lo := max w ((first + i) * blockBytes)
        let hi := min (w + len) ((first + i + 1) * blockBytes)
        let piece := (b.drop (lo - w)).take (hi - lo)
        let p := bad.any (fun o => decide (lo ≤ w + o + 63 ∧ w + o < hi))
        y.writeBlock n (first + i) (overlay (y.blockOf n (first + i)) (lo - (first + i) * blockBytes) piece) p (decide (hi - lo = blockBytes))) r.1
      ((t.setNs n { t.ns n with wpos := roundUp (w + len) 64 }).wideAdd Reg.TER_WRBYTES_LO len, 0)

/-- The offsets of the poisoned lines of a run of memory. -/
def State.badLines (s : State) (a len : Nat) : List Nat :=
  ((List.range ((len + 63) / 64)).filter (fun i => s.mem.poisoned (a + 64 * i) (min 64 (len - 64 * i)))).map (fun i => 64 * i)

/-- APPEND. -/
def execAppend (s : State) : Host.Outcome State Fault Refusal :=
  .next ((s.terServe 74 0x12 (fun d t =>
    let n := d.le 16 1
    let len := d.le 20 4
    let a := d.le 32 8
    if 64 ≤ n ∨ len < 1 ∨ 2 ^ 28 < len then (t, { status := 2 })
    else if t.bufStatus a len ≠ 0 then (t, { status := t.bufStatus a len })
    else if t.nsOpen n (some d) = false then (t, { status := 0x40 })
    else
      let r := t.appendBytes n (t.mem.readBytes a len) (t.badLines a len)
      (r.1, { status := r.2, bytes := if r.2 = 0 then resultOf [(24, 8, (t.ns n).wpos)] else [] }))).terAfter)

/-- TER_FLUSH. -/
def execTerFlush (s : State) : Host.Outcome State Fault Refusal :=
  .next ((s.terServe 74 0x13 (fun d t =>
    if 64 ≤ d.le 16 1 then (t, { status := 2 })
    else (t, { status := if t.nsOpen (d.le 16 1) (some d) then 0 else 0x40 }))).terAfter)

/-- Blocks deallocated: their content reads as zeros, their marks clear, and extents wholly in the range are freed. A STREAM frees only
whole extents wholly before WPOS. -/
def State.deallocRange (s : State) (n lba cnt : Nat) : State :=
  let x := s.ns n
  let whole := (extsOf lba cnt).filter (fun e => decide (lba ≤ e * 1024 ∧ (e + 1) * 1024 ≤ lba + cnt) &&
    (decide (x.kind = 0) || decide ((e + 1) * 4194304 ≤ x.wpos)))
  let inside (k : Nat) : Bool :=
    decide (k / 2 ^ 42 = n) && (if x.kind = 0 then decide (lba ≤ k % 2 ^ 42 ∧ k % 2 ^ 42 < lba + cnt) else whole.contains (k % 2 ^ 42 / 1024))
  let s := match s.ter.move with | some m => if extNs m.key = n ∧ whole.contains (m.key % 2 ^ 30) = true then s.moveAbandon else s | none => s
  let t : State := if x.kind = 0 then (List.range cnt).foldl (fun y i => y.clearBlock n (lba + i)) s else s
  let t := { t with ter := { t.ter with blocks := SMap.keep (fun k => !inside k) t.ter.blocks, bad := t.ter.bad.filter (fun k => !inside k) } }
  whole.foldl (fun y e => y.setExt (extKey n e) {}) t

/-- DEALLOC. -/
def execDealloc (s : State) : Host.Outcome State Fault Refusal :=
  .next ((s.terServe 74 0x14 (fun d t =>
    let n := d.le 16 1
    let cnt := d.le 20 4
    let lba := d.le 24 8
    if 64 ≤ n ∨ cnt < 1 ∨ 65536 < cnt then (t, { status := 2 })
    else if t.rangeStatus n lba cnt (some d) ≠ 0 then (t, { status := t.rangeStatus n lba cnt (some d) })
    else if t.anyMissing n lba cnt then (t, { status := 0x45 })
    else (t.deallocRange n lba cnt, {}))).terAfter)

/-! ### NAND refresh (R452) -/

/-- TER_REFRESH: a full pass is started. -/
def execTerRefresh (s : State) : Host.Outcome State Fault Refusal :=
  .next ((s.terServe 76 0x20 (fun _ t => ({ t with ter := { t.ter with pass := true } }, {}))).terAfter)

/-- REFRESH_PASS: every programmed page of tier 0 is read under the NAND token; weak pages are rewritten elsewhere, and blocks whose pages
do not read are marked poisoned. -/
def execRefreshPass (bad : List (Nat × Nat)) (rewritten : Nat) (s : State) : Host.Outcome State Fault Refusal :=
  .next (
    if s.terUp = false ∨ (s.on F.TER_REFRESH_EN = false ∧ s.ter.pass = false) then s
    else
      let r := s.tokAsk 1 4 4
      if r.2 = false then r.1
      else
        let t := { r.1 with ter := { r.1.ter with pass := false } }
        let t : State := bad.foldl (fun x b => if (x.ext (extKey b.1 (b.2 / 1024))).st = 1 then x.markBlock b.1 b.2 else x) t
        ((t.wideAdd Reg.TER_NANDWR_LO (16384 * rewritten)).tokGive 1).terRegs)

/-! ### Drives -/

/-- The link of a drive is lost (R447). -/
def State.terLinkLost (s : State) (d : Nat) (flight : List (Nat × Nat)) : State :=
  let t := (s.wr (F.TER_DRVd_STAT_GEN d) 0).wr (F.TER_DRVd_STAT_WIDTH d) 0
  let t := t.setDrive d { t.drive d with seen := none }
  match (s.drive d).st with
  | 2 => t.driveLost d 3 2 flight
  | 6 => t.driveLost d 3 2 flight
  | 1 => ((t.setDrive d { t.drive d with cap := 0 }).driveState d 0).terRegs
  | 4 => ((t.setDrive d { t.drive d with cap := 0 }).driveState d 0).terRegs
  | 7 => ((t.setDrive d { t.drive d with cap := 0 }).driveState d 0).terRegs
  | _ => t

/-- DRIVE_LINK_LOST: the loss of a drive's link, or no answer for 1 s, reaches Terrace. -/
def execDriveLinkLost (slot : Nat) (flight : List (Nat × Nat)) (s : State) : Host.Outcome State Fault Refusal :=
  .next (if s.terUp = false ∨ 32 ≤ slot then s else s.terLinkLost slot flight)

/-- DRIVE_FAILED: a MEMBER drive warns read-only, or fails 8 commands in 60 s. -/
def execDriveFailed (slot : Nat) (flight : List (Nat × Nat)) (s : State) : Host.Outcome State Fault Refusal :=
  .next (if s.terUp = false ∨ 32 ≤ slot ∨ (s.drive slot).st ≠ 2 then s else s.driveLost slot 5 4 flight)

/-! ### Moves (R444, R445, R449, R450) -/

/-- The namespace's poisoned blocks of an extent reach the destination of a copy. -/
def State.copyPoison (s : State) (k : Nat) : State :=
  (s.ter.bad.filter (fun b => decide (b / 2 ^ 42 = extNs k ∧ b % 2 ^ 42 / 1024 = k % 2 ^ 30))).foldl (fun x b => x.terPoison (extNs k) (b % 2 ^ 42)) s

/-- Whether a HOT extent qualifies to move. -/
def State.moveDue (s : State) (e : Nat × Ext) : Bool :=
  let used := s.tier0Used * 100
  decide (e.2.st = 1) && decide ((s.ns (extNs e.1)).policy = 2) && !e.2.stay &&
    (decide (s.rd F.TER_TIERCTL_HIGH * s.code.tier0 ≤ used) ||
      (decide (s.rd F.TER_TIERCTL_LOW * s.code.tier0 ≤ used) && decide (s.rd F.TER_TIERCTL_AGE * 60000000000 ≤ s.now - e.2.wrote)))

/-- The extent to move: the one written longest ago. -/
def State.moveNext (s : State) : Option Nat :=
  ((s.ter.exts.filter (fun e => s.moveDue e)).foldl (fun (b : Option (Nat × Ext)) e => match b with
    | none => some e
    | some x => if e.2.wrote < x.2.wrote then some e else b) none).map (fun e => e.1)

/-- HOT_EXTENT_MOVE: a move starts, or its pass ends: a pass that found changed blocks is made again, up to 16; else the entry is
switched. -/
def execHotExtentMove (s : State) : Host.Outcome State Fault Refusal :=
  .next (
    if s.terUp = false then s
    else
      match s.ter.move with
      | some m =>
        let x := s.ext m.key
        if m.dirty ∧ 16 ≤ m.passes + 1 then s.moveAbandon.terRegs
        else if m.dirty then { s with ter := { s.ter with move := some { m with passes := m.passes + 1, dirty := false } } }
        else
          let y : Ext := { x with st := 2, a := m.dst.getD 0 255, b := m.dst.getD 1 255, la := s.freshNat % 2 ^ 32, lb := if m.dst.length = 2 then Config.freeNat (s.free + 1) % 2 ^ 32 else 0 }
          let t := (({ s with ter := { s.ter with move := none } }).setExt m.key y).tickFree.tickFree
          ((((t.copyPoison m.key).inc F.TER_MIGR_CNT).judgeAll).tokGive 2).terRegs
      | none =>
        match s.moveNext with
        | none => if s.holdsToken 2 4 ∧ s.rd (F.HLT_TOKc_ACT 2) = 6 then s.tokGive 2 else s
        | some k =>
          match s.tier1Place (s.ns (extNs k)).copies2 with
          | none => s
          | some l =>
            let r := s.tokAsk 2 4 6
            if r.2 = false then r.1
            else (({ r.1 with ter := { r.1.ter with move := some { key := k, dst := l } } }).setExt k { r.1.ext k with st := 3 }).terRegs)

/-- A DEGRADED extent whose stale copy is reachable, or one that has waited AGE minutes and finds room for a new copy. -/
def State.mirrorNext (s : State) : Option (Nat × Option Nat) :=
  match s.ter.exts.find? (fun e => decide (e.2.st = 4 ∧ e.2.stale ≠ 255) && s.reachable e.2.stale && e.2.copies.any (fun d => s.reachable d && decide (d ≠ e.2.stale))) with
  | some e => some (e.1, none)
  | none =>
    match s.ter.exts.find? (fun e => decide (e.2.st = 4 ∧ s.rd F.TER_TIERCTL_AGE * 60000000000 ≤ s.now - e.2.since) && (s.bestDrive [e.2.a, e.2.b]).isSome) with
    | some e => (s.bestDrive [e.2.a, e.2.b]).map (fun d => (e.1, some d))
    | none => none

/-- DEGRADED_REMIRROR: under the storage token a stale copy is made good, or a new second copy placed and the lost one's place
released. -/
def execDegradedRemirror (s : State) : Host.Outcome State Fault Refusal :=
  .next (
    if s.terUp = false ∨ s.ter.move.isSome = true then s
    else
      match s.mirrorNext with
      | none => s
      | some (k, d) =>
        let r := s.tokAsk 2 4 6
        if r.2 = false then r.1
        else
          let x := r.1.ext k
          let good := (x.copies.filter (fun c => s.reachable c && decide (c ≠ x.stale))).getD 0 255
          let y : Ext := match d with
            | none => { x with stale := 255 }
            | some c => { x with a := good, la := if good = x.a then x.la else x.lb, b := c, lb := s.freshNat % 2 ^ 32, stale := 255 }
          (((((r.1.setExt k y).tickFree).copyPoison k).judgeAll).tokGive 2).terRegs)

/-! ### Intake from the engines (R456, R457) -/

/-- A record: its header, the payload and its padding. -/
def terRecord (kind flags src len seq time prev : Nat) (payload : Bytes) : Bytes :=
  leBytes 4 0x31434552 ++ leBytes 1 kind ++ leBytes 1 flags ++ leBytes 2 src ++ leBytes 4 len ++ leBytes 4 seq ++ leBytes 8 time ++
    leBytes 4 (crc32 payload) ++ leBytes 4 prev ++ fitBytes (roundUp (32 + len) 64 - 32) payload

/-- The entry at the consumer's index of a completion ring, as its bytes. -/
def State.entryAt (s : State) (q : Nat) : Bytes := s.mem.readBytes (s.ringAddr q (s.ring q).idx) 64

/-- The entry is consumed. -/
def State.consume (s : State) (q : Nat) : State := s.doorbell q (((s.ring q).idx + 1) % s.ringSize q)

/-- An access unit dropped: counted, and told once until CAMDROP is cleared. -/
def State.camDrop (s : State) : State :=
  let t := s.inc F.TER_CAMDROP_CNT
  if s.on F.TER_STAT_CAMDROP then t else (t.flag F.TER_STAT_CAMDROP F.TER_CTL_IE_SPACE).terEvent 8 255 (s.rd F.TER_CAMCTL_NS) 0

/-- ACCESS_UNIT_INTAKE: the oldest entry of ring 95 is taken; its access unit becomes a record, and CAM_BSRPOS passes it. -/
def execAccessUnitIntake (s : State) : Host.Outcome State Fault Refusal :=
  .next (
    if s.terUp = false ∨ s.on F.TER_CAMCTL_EN = false ∨ s.cqReady 95 = false ∨ s.unconsumed 95 = 0 then s
    else
      let e := s.entryAt 95
      let off := leAt e 24 4
      let len := leAt e 28 4
      let n := s.rd F.TER_CAMCTL_NS
      if len = 0 then s.consume 95
      else
        let size := 2 ^ s.rd F.CAM_BSCFG_BSLOG2
        let a := s.rd F.CAM_BSBASE_BASE * 4096 + off
        let pois := s.mem.poisoned a len
        let flags := (if pois then 1 else 0) + (if leAt e 44 1 = 0 then 8 else 0)
        let rec0 := terRecord 1 flags (leAt e 4 2) len (leAt e 40 4) (leAt e 32 8) 0 (s.mem.readBytes a len)
        let bad := (s.badLines a len).map (fun o => o + 32)
        let r := if s.nsOpen n none then s.appendBytes n rec0 bad else (s, 0x40)
        let t := if r.2 = 0 then r.1 else s.camDrop
        let pos := s.rd F.CAM_BSRPOS_POS
        let adv := (off + len + size - pos % size) % size
        ((t.bsrposSet (BitVec.ofNat 32 (pos + (if adv = 0 then size else adv)))).consume 95).terRegs)

/-- Bytes of a tile slot. -/
def tileBytes : Nat := 266240

/-- The key of a tile: CELL, TE, TN and the origin. -/
def tileKey (b : Bytes) : Nat := leAt b 8 24

/-- Two cells added, field by field. -/
def addCell (x y : Bytes) : Bytes :=
  leBytes 4 (satAdd 32 (leAt x 0 4) (leAt y 0 4)) ++ leBytes 4 (satAdd 32 (leAt x 4 4) (leAt y 4 4)) ++ leBytes 4 (satAdd 32 (leAt x 8 4) (leAt y 8 4)) ++
    leBytes 2 (satAdd 16 (leAt x 12 2) (leAt y 12 2)) ++ leBytes 2 (leAt x 14 2 ||| leAt y 14 2)

/-- A tile with an earlier copy added to it. -/
def mergeTile (new old : Bytes) : Bytes :=
  let cells := (List.range 16384).map (fun i => addCell ((new.drop (4096 + 16 * i)).take 16) ((old.drop (4096 + 16 * i)).take 16))
  let head := new.take 4 ++ leBytes 4 (leAt new 4 4 ||| leAt old 4 4) ++ (new.drop 8).take 24 ++ leBytes 8 (min (leAt new 32 8) (leAt old 32 8)) ++
    leBytes 8 (max (leAt new 40 8) (leAt old 40 8)) ++ leBytes 8 (leAt new 48 8 + leAt old 48 8) ++ leBytes 4 (cells.filter (fun c => leAt c 12 2 ≠ 0)).length
  fitBytes 4096 head ++ cells.flatten

/-- Bytes of a STREAM namespace from a byte offset on. -/
def State.streamBytes (s : State) (n off len : Nat) : Bytes :=
  let first := off / blockBytes
  let cnt := (off + len - 1) / blockBytes - first + 1
  ((((List.range cnt).map (fun i => s.blockOf n (first + i))).flatten).drop (off - first * blockBytes)).take len

/-- Whether any block of a byte range of a namespace is poisoned or not reachable. -/
def State.streamBad (s : State) (n off len : Nat) : Bool :=
  let first := off / blockBytes
  (List.range ((off + len - 1) / blockBytes - first + 1)).any (fun i => s.blockBad n (first + i) || decide ((s.ext (extKey n ((first + i) / 1024))).st = 5))

/-- TILE_INTAKE: the oldest entry of ring 107 is taken; its tile is stored, merged with its earlier copy, and PRA_YLDRPOS passes it. -/
def execTileIntake (s : State) : Host.Outcome State Fault Refusal :=
  .next (
    if s.terUp = false ∨ s.on F.TER_TILECTL_EN = false ∨ s.cqReady 107 = false ∨ s.unconsumed 107 = 0 then s
    else
      let e := s.entryAt 107
      let n := s.rd F.TER_TILECTL_NS
      let slot := leAt e 4 2
      let a := 4096 * s.rd F.PRA_YLDBASE_BASE + slot * tileBytes
      let tile := s.mem.readBytes a tileBytes
      let pois := s.mem.poisoned a tileBytes
      let key := tileKey tile
      let old := (s.ter.index.find? (fun x => decide (x.1 = key))).map (fun x => x.2)
      let bad := match old with | some o => s.streamBad n o (32 + tileBytes) | none => false
      let full := old.isNone && decide (65536 ≤ s.ter.index.length)
      let s1 := if bad then s.terPoison n (old.getD 0 / blockBytes) else s
      let body := match old with | some o => if bad then tile else mergeTile tile ((s.streamBytes n o (32 + tileBytes)).drop 32) | none => tile
      let merged := old.isSome && !bad
      let flags := (if pois then 1 else 0) + (if merged then 2 else 0) + (if bad || full then 4 else 0)
      let rec0 := terRecord 2 flags 0 tileBytes (leAt body 0 4) (leAt body 40 8) (if merged then old.getD 0 / 64 else 0) body
      let r := if s.nsOpen n none then s1.appendBytes n rec0 ((s.badLines a tileBytes).map (fun o => o + 32)) else (s1, 0x40)
      if r.2 ≠ 0 then s
      else
        let off := (s.ns n).wpos
        let t := if full then r.1 else { r.1 with ter := { r.1.ter with index := r.1.ter.index.filter (fun x => x.1 ≠ key) ++ [(key, off)] } }
        let t := if merged then t.inc F.TER_TILEMERGE_MERGED else if bad || full then (t.inc F.TER_TILEMERGE_UNMERGED).flag F.TER_STAT_TILEUNM F.TER_CTL_IE_SPACE else t
        ((t.yldrposSet (BitVec.ofNat 32 (leAt tile 0 4 + 1))).consume 107).terRegs)

/-! ### Registers (R464) -/

/-- A write refused: 1 ENABLED, 2 PLACE, 3 SMALL, 4 NOMAP, 5 RANGE. -/
def State.terReject (s : State) (cause : Nat) : State := (s.wr F.TER_BADCFG_CAUSE cause).flag F.TER_STAT_CFGREJ F.TER_CTL_IE_CFG

/-- The map and staging regions. -/
def State.terMap (s : State) : Nat × Nat := (s.rd F.TER_MAPBASE_BASE * 4096, s.rd F.TER_MAPSIZE_SIZE * 0x1000000)
def State.terStage (s : State) : Nat × Nat := (s.rd F.TER_STAGEBASE_BASE * 4096, s.rd F.TER_STAGESIZE_SIZE * 0x1000000)

/-- Why an enabling write is refused; 0 for none. -/
def State.terCause (s : State) : Nat :=
  let m := s.terMap
  let g := s.terStage
  if inDramRange s.code m.1 m.2 = false ∨ inDramRange s.code g.1 g.2 = false ∨ (m.1 < g.1 + g.2 ∧ g.1 < m.1 + m.2) then 2
  else if g.2 < 2 ^ 30 then 3
  else if m.2 < 16 * s.nsExt then 4
  else 0

/-- Terrace loads the map: READY after `ms`, or FAIL. The regions' content becomes Terrace's own. -/
def State.terLoad (s : State) (ms : Option Nat) : State :=
  match ms with
  | none => s.wr F.TER_READY_STATE 3
  | some m =>
    let t := (s.putFree s.terMap.1 s.terMap.2).putFree s.terStage.1 s.terStage.2
    let spares := if t.ter.spares.isSome then t else { t with ter := { t.ter with spares := some (t.freshNat % (t.code.nandBlocks / 8 + 1)) }, free := t.free + 1 }
    let t := ((spares.wr F.TER_READY_STATE 2).wrSat F.TER_READY_MS m).wr F.TER_STAT_READY 1
    (t.judgeAll.wearRegs).terRegs

/-- Terrace stops: accepted commands complete first. -/
def State.terStop (s : State) : State :=
  if s.terUp then ({ s with ter := { s.ter with stopping := true } }.wr F.TER_STAT_READY 0).wr F.TER_READY_STATE 0 |>.terStopDue else s

/-- A write to TER_CTL. -/
def State.terCtlWrite (s : State) (v : W32) (ms : Option Nat) : State :=
  let rise := !s.on F.TER_CTL_EN && decide (getBits v 31 31 = 1)
  let fall := s.on F.TER_CTL_EN && decide (getBits v 31 31 = 0)
  if rise ∧ s.terCause ≠ 0 then s.terReject s.terCause
  else
    let t := s.applyWrite Reg.TER_CTL v
    if rise then (if t.ter.stopping then { t with ter := { t.ter with stopping := false } } else t).terLoad ms
    else if fall then t.terStop
    else t

/-- A write to the TER block. -/
def State.terWrite (s : State) (off : Nat) (v : W32) : State :=
  let key := 0x13000 + off
  if off = 0 then s.tickFree.terCtlWrite v (some s.freshNat)
  else if 0x010 ≤ off ∧ off ≤ 0x01C then
    if s.on F.TER_CTL_EN then s.terReject 1
    else if off = 0x014 ∧ 1024 < getBits v 15 0 then s.terReject 5
    else s.plainWrite key v
  else if off = 0x040 then (if getBits v 31 24 ≤ getBits v 23 16 ∨ 100 < getBits v 31 24 then s.terReject 5 else s.plainWrite key v)
  else if off = 0x044 then (if getBits v 7 0 = 0 then s.terReject 5 else s.plainWrite key v)
  else if 0x300 ≤ off ∧ off < 0x400 then
    let n := (off - 0x300) / 4
    if (s.ns n).present = false then s.terReject 5
    else
      let t := s.plainWrite key v
      if t.rd (F.TER_NSn_CFG_HOSTEN n) ≠ s.rd (F.TER_NSn_CFG_HOSTEN n) ∨ t.rd (F.TER_NSn_CFG_HOSTRO n) ≠ s.rd (F.TER_NSn_CFG_HOSTRO n) then t.nsChanged n else t
  else s.plainWrite key v

/-- What a parity fault does beyond returning the register to reset. -/
def State.terParity (s : State) (off : Nat) : State :=
  let t := s.wr F.TER_STAT_PARFLT 1
  if off = 0 then t.terStop
  else if 0x300 ≤ off ∧ off < 0x400 then (t.nsReg ((off - 0x300) / 4)).nsChanged ((off - 0x300) / 4)
  else t

/-- TERRACE_ENABLE. -/
def execTerraceEnable (agent : Agent) (value : W32) (ms : Option Nat) (s : State) : Host.Outcome State Fault Refusal :=
  .next (s.gate agent 0x13 0x000 (fun t => t.terCtlWrite value ms))

/-- TERRACE_STOP. -/
def execTerraceStop (agent : Agent) (value : W32) (s : State) : Host.Outcome State Fault Refusal :=
  .next (s.gate agent 0x13 0x000 (fun t => t.terCtlWrite value (some 0)))

/-- What Canopy's power-down leaves of Terrace: what lies on non-volatile media. -/
def State.terCanopyDown (s : State) : State :=
  let t : State := (List.range 32).foldl (fun y d => y.setDrive d { y.drive d with st := 0, cap := 0, seen := none }) s.moveAbandon
  let x : Terrace := { t.ter with move := none, evac := none, stopping := false }
  { t with ter := { x with spaceTold := false, pass := false, lent := [], nss := x.nss.map (fun e => (e.1, { e.2 with deleting := none })) } }

end Sys2Proof.Machine
end

