-- ==== Sys2Proof/Machine/Nvme.lean ====
section
/-! DEFINITION. The NVMe/TCP target and its commands (R384, R446, R458, R459). Fields of NVMe data structures that the spec does not state are
free; the layouts of those it states are those of the NVM Express specifications (notes/assumptions/70.md). -/

namespace Sys2Proof.Machine

/-- A completion sent to a host. -/
def State.hostCpl (s : State) (c : HostCpl) : State := { s with ter := { s.ter with cpls := s.ter.cpls ++ [c] } }

/-- A completion with a status. -/
def State.hostStatus (s : State) (conn cid sct sc : Nat) : State := s.hostCpl { conn := conn, cid := cid, sct := sct, sc := sc }

/-- A connection by its number. -/
def State.hostConn (s : State) (conn : Nat) : Option NvmeConn := s.eth.conns.find? (fun c => decide (c.id = conn))

/-- A connection set. -/
def State.setConn (s : State) (c : NvmeConn) : State :=
  { s with eth := { s.eth with conns := s.eth.conns.map (fun x => if x.id = c.id then c else x) } }

/-- Whether the target runs. -/
def State.targetOn (s : State) : Bool := s.terUp && !s.ter.stopping && s.on F.ETH_NVMECTL_EN

/-- A command of a connection carried out; a connection that does not exist has no commands. -/
def State.hostServe (s : State) (conn : Nat) (f : NvmeConn → State → State) : State :=
  if s.targetOn then
    match s.hostConn conn with
    | some c => f c s
    | none => s
  else s

/-- Whether an address may connect: ETH_ALLOWk lists it. -/
def State.hostAllowed (s : State) (addr : Nat) : Bool :=
  decide (addr ≠ 0) && (List.range 16).any (fun k => decide ((s.reg (Reg.ETH_ALLOWk k)).toNat = addr))

/-- ETH_NVMESTAT.CONN. -/
def State.connReg (s : State) : State := s.wr F.ETH_NVMESTAT_CONN s.eth.conns.length

/-- NVME_CONNECT: the administration queue of a new connection opens a controller of its own; an I/O queue joins an open one. -/
def execNvmeConnect (conn addr qid kato : Nat) (s : State) : Host.Outcome State Fault Refusal :=
  .next (
    if s.targetOn = false then s
    else if s.hostAllowed addr = false then (s.inc F.ETH_NVMESTAT_REJ).ethEvent 4 0 addr
    else
      match s.hostConn conn with
      | some c => if qid = 0 then s else (s.setConn { c with seen := s.now }).hostStatus conn 0 0 0
      | none =>
        if qid ≠ 0 ∨ s.rd F.ETH_NVMECTL_MAXCONN ≤ s.eth.conns.length then s.inc F.ETH_NVMESTAT_REJ
        else
          let id := s.freshNat % 0xFFF0
          let c : NvmeConn := { id := conn, addr := addr, ctrl := id, kato := kato, seen := s.now }
          (({ s.tickFree with eth := { s.eth with conns := s.eth.conns ++ [c] } }).connReg).hostCpl { conn := conn, cid := 0, dw0 := id })

/-- Controller Capabilities: MQES 127, contiguous queues, the NVM command set; the other fields are free. -/
def nvmeCap (free : Nat) : Nat := 127 + 2 ^ 16 + free % 256 * 2 ^ 24 + 2 ^ 37

/-- NVME_PROPERTY_GET. -/
def execNvmePropertyGet (conn cid ofst : Nat) (s : State) : Host.Outcome State Fault Refusal :=
  .next (s.hostServe conn (fun c t =>
    if ofst = 0 then (t.hostCpl { conn := conn, cid := cid, data := leBytes 8 (nvmeCap t.freshNat) }).tickFree
    else if ofst = 8 then (t.hostCpl { conn := conn, cid := cid, data := leBytes 8 (t.freshNat % 2 ^ 32) }).tickFree
    else if ofst = 0x14 then t.hostCpl { conn := conn, cid := cid, dw0 := c.cc, data := leBytes 8 c.cc }
    else if ofst = 0x1C then t.hostCpl { conn := conn, cid := cid, dw0 := c.csts, data := leBytes 8 c.csts }
    else t.hostStatus conn cid 0 2))

/-- NVME_PROPERTY_SET: CC.EN makes the controller ready; a shutdown notification completes at once. -/
def execNvmePropertySet (conn cid ofst value : Nat) (s : State) : Host.Outcome State Fault Refusal :=
  .next (s.hostServe conn (fun c t =>
    if ofst ≠ 0x14 then t.hostStatus conn cid 0 2
    else
      let rdy := if value % 2 = 1 then 1 else 0
      let shst := if value / 2 ^ 14 % 4 = 0 then 0 else 8
      let x : NvmeConn := if rdy = 0 then { c with aers := [], owed := false } else c
      (t.setConn { x with cc := value % 2 ^ 32, csts := rdy + shst }).hostStatus conn cid 0 0))

/-- NVME_DISCONNECT. -/
def execNvmeDisconnect (conn cid : Nat) (s : State) : Host.Outcome State Fault Refusal :=
  .next (s.hostServe conn (fun c t =>
    ({ t.hostStatus conn cid 0 0 with eth := { t.eth with conns := t.eth.conns.filter (fun x => x.id ≠ c.id) } }).connReg))

/-- Whether namespace NSID is exported (R458). -/
def State.exported (s : State) (nsid : Nat) : Bool :=
  decide (1 ≤ nsid) && decide (nsid ≤ 64) && s.nsOpen (nsid - 1) none && s.on (F.TER_NSn_CFG_HOSTEN (nsid - 1))

/-- Bytes written over a run of free bytes at an offset. -/
def patch (b : Bytes) (off : Nat) (v : Bytes) : Bytes := b.take off ++ v ++ b.drop (off + v.length)

/-- `n` free bytes. -/
def State.freeBytes (s : State) (n : Nat) : Bytes := (List.range n).map (fun i => Config.freeByte s.free i)

/-- The ASCII bytes of a string. -/
def asciiBytes (t : String) : Bytes := t.toList.map (fun c => BitVec.ofNat 8 c.toNat)

/-- A hexadecimal digit in lower case. -/
def hexDigit (v : Nat) : Byte := BitVec.ofNat 8 (if v % 16 < 10 then 48 + v % 16 else 87 + v % 16)

/-- The subsystem's NQN, padded with zeros to 256 bytes. -/
def State.nqn (s : State) : Bytes :=
  fitBytes 256 (asciiBytes "nqn.2023-04.com.hequaquel:jx940." ++ (List.range 12).map (fun i => hexDigit (s.ethMac / 16 ^ (11 - i))))

/-- Identify Controller: CNTLID, MDTS 1 MiB (256 × 4 KiB), NN, no volatile write cache, atomic write units of one block, the NQN; ONCS
offers Write Zeroes and Dataset Management. -/
def State.identifyCtrl (s : State) (c : NvmeConn) : Bytes :=
  let b := patch (s.freeBytes 4096) 78 (leBytes 2 c.ctrl)
  let b := patch (patch b 77 (leBytes 1 8)) 516 (leBytes 4 64)
  let b := patch (patch b 520 (leBytes 2 12)) 525 (leBytes 1 0)
  patch (patch b 526 (leBytes 2 0 ++ leBytes 2 0)) 768 s.nqn

/-- The blocks of a namespace that are allocated. -/
def State.nsUsed (s : State) (n : Nat) : Nat := (s.ter.exts.filter (fun e => decide (extNs e.1 = n ∧ e.2.st ≠ 0))).length * 1024

/-- Identify Namespace: size, capacity and use in blocks, one format of 4,096-byte blocks without metadata. -/
def State.identifyNs (s : State) (n : Nat) : Bytes :=
  let z := (s.ns n).size * 1024
  let b := patch (s.freeBytes 4096) 0 (leBytes 8 z ++ leBytes 8 z ++ leBytes 8 (s.nsUsed n))
  patch (patch b 25 (leBytes 1 0 ++ leBytes 1 0)) 128 (leBytes 4 (12 * 2 ^ 16))

/-- NVME_IDENTIFY: CNS 0 namespace, 1 controller, 2 active namespaces above NSID, 3 namespace identification descriptors. -/
def execNvmeIdentify (conn cid cns nsid : Nat) (s : State) : Host.Outcome State Fault Refusal :=
  .next (s.hostServe conn (fun c t =>
    let ok (b : Bytes) (u : State) : State := u.hostCpl { conn := conn, cid := cid, data := b }
    if cns = 1 then (ok (t.identifyCtrl c) t).tickFree
    else if cns = 2 then
      ok (fitBytes 4096 (((List.range 64).filter (fun n => decide (nsid < n + 1) && t.exported (n + 1))).map (fun n => leBytes 4 (n + 1))).flatten) t
    else if 3 < cns then t.hostStatus conn cid 0 2
    else if t.exported nsid = false then t.hostStatus conn cid 0 0x0B
    else if cns = 0 then (ok (t.identifyNs (nsid - 1)) t).tickFree
    else (ok (t.freeBytes 4096) t).tickFree))

/-- NVME_GET_LOG_PAGE: 1 Error Information, 2 SMART / Health, 4 Changed Namespace List, which the read clears unless it is retained. -/
def execNvmeGetLogPage (conn cid lid len : Nat) (retain : Bool) (s : State) : Host.Outcome State Fault Refusal :=
  .next (s.hostServe conn (fun c t =>
    let ok (b : Bytes) (u : State) : State := u.hostCpl { conn := conn, cid := cid, data := fitBytes len b }
    if lid = 1 then (ok (patch (t.freeBytes 64) 0 (leBytes 8 c.errors)) t).tickFree
    else if lid = 2 then
      let b := patch (t.freeBytes 512) 5 (leBytes 1 (t.rd F.TER_NANDWEAR_PCTUSED))
      (ok b t).tickFree
    else if lid = 4 then
      let u := ok (c.changed.map (fun n => leBytes 4 n)).flatten t
      if retain then u else u.setConn { c with changed := [] }
    else t.hostStatus conn cid 1 9))

/-- NVME_SET_FEATURES: 0x07 Number of Queues, 0x0B Asynchronous Event Configuration, 0x0F Keep Alive Timer. -/
def execNvmeSetFeatures (conn cid fid value : Nat) (s : State) : Host.Outcome State Fault Refusal :=
  .next (s.hostServe conn (fun c t =>
    if fid = 0x07 then (t.setConn { c with queues := value % 2 ^ 32 }).hostCpl { conn := conn, cid := cid, dw0 := value % 2 ^ 32 }
    else if fid = 0x0B then (t.setConn { c with aec := value % 2 ^ 32 }).hostStatus conn cid 0 0
    else if fid = 0x0F then (t.setConn { c with kato := value % 2 ^ 32, seen := t.now }).hostStatus conn cid 0 0
    else t.hostStatus conn cid 0 2))

/-- NVME_GET_FEATURES. -/
def execNvmeGetFeatures (conn cid fid : Nat) (s : State) : Host.Outcome State Fault Refusal :=
  .next (s.hostServe conn (fun c t =>
    if fid = 0x07 then t.hostCpl { conn := conn, cid := cid, dw0 := c.queues }
    else if fid = 0x0B then t.hostCpl { conn := conn, cid := cid, dw0 := c.aec }
    else if fid = 0x0F then t.hostCpl { conn := conn, cid := cid, dw0 := c.kato }
    else t.hostStatus conn cid 0 2))

/-- NVME_ASYNC_EVENT_REQUEST: it waits until the connection is owed an event. -/
def execNvmeAsyncEventRequest (conn cid : Nat) (s : State) : Host.Outcome State Fault Refusal :=
  .next (s.hostServe conn (fun c t => (t.setConn { c with aers := c.aers ++ [cid] }).payEvents))

/-- NVME_KEEP_ALIVE. -/
def execNvmeKeepAlive (conn cid : Nat) (s : State) : Host.Outcome State Fault Refusal :=
  .next (s.hostServe conn (fun c t => (t.setConn { c with seen := t.now }).hostStatus conn cid 0 0))

/-! ### I/O commands -/

/-- The host status of R459 for a local one. -/
def hostCode (status : Nat) : Nat × Nat :=
  if status = 0x45 then (0, 0x82) else if status = 0x42 then (0, 0x81) else if status = 0x44 ∨ status = 0x49 then (0, 0x20)
  else if status = 0x41 then (0, 0x80) else if status = 0x40 then (0, 0x0B) else (0, 0)

/-- A failed command's completion; it counts among the connection's errors. -/
def State.hostFail (s : State) (c : NvmeConn) (cid : Nat) (code : Nat × Nat) : State :=
  (s.setConn { c with errors := c.errors + 1 }).hostStatus c.id cid code.1 code.2

/-- An I/O command on a range: MDTS, the namespace and the range are checked, then `f` runs on the namespace number. -/
def State.hostRange (s : State) (conn cid nsid lba blocks : Nat) (bounded : Bool) (f : NvmeConn → Nat → State → State) : State :=
  s.hostServe conn (fun c t =>
    let t := t.terCmd
    if t.exported nsid = false then t.hostFail c cid (0, 0x0B)
    else if bounded ∧ 256 < blocks then t.hostFail c cid (0, 2)
    else if (t.ns (nsid - 1)).size * 1024 < lba + blocks then t.hostFail c cid (0, 0x80)
    else f c (nsid - 1) t) |>.terRegs

/-- Whether a host may write namespace `n`. -/
def State.hostWritable (s : State) (n : Nat) : Bool := !s.on (F.TER_NSn_CFG_HOSTRO n) && decide ((s.ns n).kind = 0)

/-- NVME_READ: the blocks' bytes; a poisoned block ends the command with Unrecovered Read Error and no data. -/
def execNvmeRead (conn cid nsid lba blocks : Nat) (bad : List Nat) (s : State) : Host.Outcome State Fault Refusal :=
  .next (s.hostRange conn cid nsid lba blocks true (fun c n t =>
    if t.anyMissing n lba blocks then t.hostFail c cid (0, 0x82)
    else
      let t := t.mediaBad n (t.badIn n lba blocks bad)
      match (List.range blocks).find? (fun i => t.blockBad n (lba + i)) with
      | some i => (t.terPoison n (lba + i)).hostFail c cid (2, 0x81)
      | none =>
        (t.wideAdd Reg.TER_RDBYTES_LO (blockBytes * blocks)).hostCpl
          { conn := conn, cid := cid, data := ((List.range blocks).map (fun i => t.blockOf n (lba + i))).flatten }))

/-- Blocks written for a host. -/
def State.hostStore (s : State) (c : NvmeConn) (cid n lba : Nat) (data : List Bytes) : State :=
  if s.hostWritable n = false then s.hostFail c cid (0, 0x20)
  else
    let r := s.needExts n (extsOf lba data.length)
    if r.2 ≠ 0 then s.hostFail c cid (hostCode r.2)
    else
      let t : State := data.zipIdx.foldl (fun x b => x.writeBlock n (lba + b.2) b.1 false true) r.1
      (t.wideAdd Reg.TER_WRBYTES_LO (blockBytes * data.length)).hostStatus c.id cid 0 0

/-- NVME_WRITE. -/
def execNvmeWrite (conn cid nsid lba : Nat) (data : List Bytes) (s : State) : Host.Outcome State Fault Refusal :=
  .next (s.hostRange conn cid nsid lba data.length true (fun c n t => t.hostStore c cid n lba data))

/-- NVME_FLUSH: nothing is held in volatile memory. -/
def execNvmeFlush (conn cid nsid : Nat) (s : State) : Host.Outcome State Fault Refusal :=
  .next (s.hostRange conn cid nsid 0 0 false (fun c _ t => t.hostStatus c.id cid 0 0))

/-- NVME_DATASET_MANAGEMENT: ranges are deallocated; other attributes change nothing. -/
def execNvmeDatasetManagement (conn cid nsid : Nat) (dealloc : Bool) (ranges : List (Nat × Nat)) (s : State) : Host.Outcome State Fault Refusal :=
  .next (s.hostRange conn cid nsid 0 0 false (fun c n t =>
    if dealloc = false then t.hostStatus c.id cid 0 0
    else if t.hostWritable n = false then t.hostFail c cid (0, 0x20)
    else if ranges.any (fun r => decide ((t.ns n).size * 1024 < r.1 + r.2)) then t.hostFail c cid (0, 0x80)
    else if ranges.any (fun r => t.anyMissing n r.1 r.2) then t.hostFail c cid (0, 0x82)
    else
      let u : State := ranges.foldl (fun x r => x.deallocRange n r.1 r.2) t
      u.hostStatus c.id cid 0 0))

/-- NVME_WRITE_ZEROES. -/
def execNvmeWriteZeroes (conn cid nsid lba blocks : Nat) (s : State) : Host.Outcome State Fault Refusal :=
  .next (s.hostRange conn cid nsid lba blocks false (fun c n t => t.hostStore c cid n lba (List.replicate blocks (List.replicate 4096 0))))

end Sys2Proof.Machine
end

