-- ==== Sys2Proof/Machine/Pcie.lean ====
section
/-! DEFINITION. The PCE block (R465-R468): the root port and its slots, the endpoint, the error log and the registers; and the arrival of a
drive's link, which Terrace judges (R447). -/

namespace Sys2Proof.Machine

/-- The oldest entry released. -/
def State.pcePop (s : State) : State :=
  let n := s.rd F.PCE_LOGHEAD_COUNT
  if n = 0 then s else (s.wr F.PCE_LOGHEAD_COUNT (n - 1)).wr F.PCE_LOGHEAD_OLDEST ((s.rd F.PCE_LOGHEAD_OLDEST + 1) % 16)

/-- Whether the block is present and powered. -/
def State.pceOn (s : State) : Bool := s.canopyOn && decide (s.code ≠ .l)

/-- A slot's link goes down; `surprise` says that it was not switched off by command. -/
def State.slotDown (s : State) (n : Nat) (surprise : Bool) : State :=
  if s.on (F.PCE_SLOTs_STAT_LINK n) = false then s
  else
    let t := ((s.wr (F.PCE_SLOTs_STAT_PRESENT n) 0).wr (F.PCE_SLOTs_STAT_LINK n) 0).wr (F.PCE_SLOTs_STAT_GEN n) 0
    ((t.wr (F.PCE_SLOTs_STAT_WIDTH n) 0).wrB (F.PCE_SLOTs_STAT_SURPRISE n) surprise).inc (F.PCE_SLOTs_STAT_DOWNS n)

/-- The root port's link goes down, with every slot behind it. -/
def State.rootDown (s : State) : State :=
  let t := if s.on F.PCE_STAT_RPUP then (((s.wr F.PCE_STAT_RPUP 0).wr F.PCE_RPLINK_GEN 0).wr F.PCE_RPLINK_WIDTH 0).inc F.PCE_RPLINK_DOWNS else s
  (List.range 32).foldl (fun x n => x.slotDown n true) t

/-- SURPRISE. -/
def State.pceSurprise (s : State) : State := s.flag F.PCE_STAT_SURPRISE F.PCE_CTL_IE_HP

/-- PCIE_LINK_LOSS: the root port detects that a slot's link, or its own, is lost. -/
def execPcieLinkLoss (slot : Option Nat) (s : State) : Host.Outcome State Fault Refusal :=
  .next (
    if s.pceOn = false then s
    else
      match slot with
      | none => if s.on F.PCE_STAT_RPUP then (s.rootDown.pceSurprise).pceLog 4 none 0 0 else s
      | some n =>
        if 32 ≤ n ∨ s.on (F.PCE_SLOTs_STAT_LINK n) = false then s
        else if s.on (F.PCE_SLOTs_CTL_PWR n) then ((s.slotDown n true).pceSurprise).pceLog 4 slot 0 0
        else (s.slotDown n false).pceLog 5 slot 0 0)

/-- COMPLETION_TIMEOUT: the request completes with an error response; a Dale core that issued it takes an access fault,
which is no poison trap and leaves mpcause and spcause as they are (R419). -/
def execCompletionTimeout (slot : Option Nat) (hdr addr : Nat) (core : Option (Nat × Nat × Nat × Bool)) (s : State) : Host.Outcome State Fault Refusal :=
  .next (
    if s.pceOn = false ∨ s.on F.PCE_CTL_EN = false then s
    else
      let t := (s.pceLog 7 slot hdr addr).inc F.PCE_RPERR_UNCORR
      match core with
      | some (c, kind, va, deleg) =>
        if c < 16 then
          let old := SMap.get (fun _ => ({} : CoreTrap)) t.traps c
          let x : CoreTrap := { old with cause := if kind = 1 then 1 else if kind = 2 then 7 else 5, tval := va, deleg := deleg }
          { t with traps := SMap.set (fun _ => {}) t.traps c x }
        else t
      | none => t)

/-- The endpoint's link goes down. -/
def State.endDown (s : State) : State :=
  if s.on F.PCE_STAT_EPUP then
    ((((s.wr F.PCE_STAT_EPUP 0).wr F.PCE_EPLINK_GEN 0).wr F.PCE_EPLINK_WIDTH 0).inc F.PCE_EPLINK_DOWNS).mbxAbortAll 7
  else s

/-- ENDPOINT_LINK_CHANGE: mailboxes 56 to 63 have a receiver only while the link is up. -/
def execEndpointLinkChange (up : Bool) (gen width : Nat) (s : State) : Host.Outcome State Fault Refusal :=
  .next (
    if s.pceOn = false then s
    else if up = false then s.endDown
    else if s.on F.PCE_CTL_EN = false ∨ s.on F.PCE_CTL_SPLIT = false ∨ s.on F.PCE_EPCTL_EN = false then s
    else (((s.wr F.PCE_STAT_EPUP 1).wr F.PCE_EPLINK_GEN gen).wr F.PCE_EPLINK_WIDTH width).mbxPayOwed)

/-- DRIVE_LINK_UP: the link of a slot comes up behind the root port, and Terrace judges the drive. -/
def execDriveLinkUp (slot gen width rpGen rpWidth : Nat) (suits : Bool) (exts : Nat) (label : Option (Nat × Nat × Nat)) (wear : W32) (s : State) :
    Host.Outcome State Fault Refusal :=
  .next (
    if s.pceOn = false ∨ s.on F.PCE_CTL_EN = false ∨ 32 ≤ slot ∨ s.on (F.PCE_SLOTs_CTL_PWR slot) = false then s
    else
      let t := ((s.wr F.PCE_STAT_RPUP 1).wr F.PCE_RPLINK_GEN rpGen).wr F.PCE_RPLINK_WIDTH rpWidth
      let t := (((t.wr (F.PCE_SLOTs_STAT_PRESENT slot) 1).wr (F.PCE_SLOTs_STAT_LINK slot) 1).wr (F.PCE_SLOTs_STAT_GEN slot) gen).wr (F.PCE_SLOTs_STAT_WIDTH slot) width
      if s.terUp = false then t
      else
        let t := ((t.wr (F.TER_DRVd_STAT_GEN slot) gen).wr (F.TER_DRVd_STAT_WIDTH slot) width).setReg (Reg.TER_DRVd_WEAR slot) wear
        t.judgeDrive slot suits exts label)

/-- SLOTPWR: a slot powered off loses its drive. -/
def execSlotpwr (s : State) : Host.Outcome State Fault Refusal :=
  .next (s.serve 110 1 (fun d t =>
    let n := d.le 16 1
    let on := d.le 17 1
    if 32 ≤ n ∨ 1 < on then (t, { status := 2 })
    else if on = 1 then (t.wr (F.PCE_SLOTs_CTL_PWR n) 1, {})
    else
      let u := t.wr (F.PCE_SLOTs_CTL_PWR n) 0
      if t.on (F.PCE_SLOTs_STAT_LINK n) = false then (u, {})
      else
        let u := (u.slotDown n false).pceLog 5 (some n) 0 0
        (if u.terUp then u.terLinkLost n [] else u, {})))

/-- RETRAIN: a slot's link, or the root port's, trains again. -/
def execRetrain (gen width : Nat) (s : State) : Host.Outcome State Fault Refusal :=
  .next (s.serve 110 2 (fun d t =>
    let n := d.le 16 1
    if n = 0xFF then (if t.on F.PCE_STAT_RPUP then (t.wr F.PCE_RPLINK_GEN gen).wr F.PCE_RPLINK_WIDTH width else t, {})
    else if 32 ≤ n then (t, { status := 2 })
    else if t.on (F.PCE_SLOTs_STAT_LINK n) then
      let u := (t.wr (F.PCE_SLOTs_STAT_GEN n) gen).wr (F.PCE_SLOTs_STAT_WIDTH n) width
      (if u.terUp then (u.wr (F.TER_DRVd_STAT_GEN n) gen).wr (F.TER_DRVd_STAT_WIDTH n) width else u, {})
    else (t, {})))

/-! ### Registers (R468) -/

/-- A write refused: 1 ENABLED, 2 PLACE, 3 RANGE. -/
def State.pceReject (s : State) (cause : Nat) : State := (s.wr F.PCE_BADCFG_CAUSE cause).flag F.PCE_STAT_CFGREJ F.PCE_CTL_IE_CFG

/-- Whether the aperture is aligned to its size and lies in installed DRAM. -/
def State.apertureOk (s : State) (base log2 : Nat) : Bool := decide (base * 4096 % 2 ^ log2 = 0) && inDramRange s.code (base * 4096) (2 ^ log2)

/-- Both links go down. -/
def State.pceLinksDown (s : State) : State := s.rootDown.endDown

/-- A write to the PCE block. -/
def State.pceWrite (s : State) (off : Nat) (v : W32) : State :=
  let key := 0x14000 + off
  if off = 0x000 then
    let en := s.on F.PCE_CTL_EN
    if en ∧ getBits v 30 30 ≠ s.rd F.PCE_CTL_SPLIT then s.pceReject 1
    else if en = false ∧ getBits v 31 31 = 1 ∧ s.apertureOk (s.rd F.PCE_EPBASE_BASE) (s.rd F.PCE_EPCTL_APLOG2) = false then s.pceReject 2
    else
      let t := s.plainWrite key v
      if en ∧ getBits v 31 31 = 0 then t.pceLinksDown else t
  else if off = 0x018 then
    if getBits v 4 0 < 20 then s.pceReject 3
    else if s.on F.PCE_CTL_EN ∧ getBits v 31 31 = 1 ∧ s.apertureOk (s.rd F.PCE_EPBASE_BASE) (getBits v 4 0) = false then s.pceReject 2
    else
      let t := s.plainWrite key v
      if getBits v 31 31 = 0 then t.endDown else t
  else if off = 0x01C then
    if s.on F.PCE_CTL_EN ∧ s.apertureOk (getBits v 27 0) (s.rd F.PCE_EPCTL_APLOG2) = false then s.pceReject 2 else s.plainWrite key v
  else if off = 0x028 then (if bitAt v.toNat 0 then s.pcePop else s)
  else s.plainWrite key v

/-- What a parity fault does beyond returning the register to reset. -/
def State.pceParity (s : State) (off : Nat) : State :=
  let t := s.flag F.PCE_STAT_PARFLT F.PCE_CTL_IE_CFG
  if off = 0 then t.pceLinksDown else t

end Sys2Proof.Machine
end

