-- ==== Sys2Proof/Machine/Recorder.lean ====
section
/-! DEFINITION. The commands of the event recorder (R546-R558). -/

namespace Sys2Proof.Machine

/-- The queue without its head. -/
def State.popQueue (s : State) : State :=
  ({ s with evr := { s.evr with queue := s.evr.queue.tail } }).evrQueueRegs

/-- A write cut short by a loss of supply: the record is lost, and the record it was overwriting too; neither is counted
(R548). -/
def State.cutWrite (s : State) (r : Rec) : State :=
  if s.evr.store.length < evrSlots then s
  else
    match evictOldest r.sev s.evr.store with
    | some keep => ({ s with evr := { s.evr with store := keep } }).evrFillRegs
    | none => s

/-- EVENT_RECORD_WRITE: the record at the head of the queue takes its token, unless software took it at the commit, and is
written or dropped (R552, R553). -/
def execEventRecordWrite (cut : Bool) (s : State) : Host.Outcome State Fault Refusal :=
  .next (match s.evr.queue with
    | r :: _ =>
      if s.bedOn then
        let t := s.popQueue
        let u := if r.software then (t, true) else t.takeBucket r.code r.sev
        if u.2 then (if cut then u.1.cutWrite r else u.1.storeRec r) else u.1
      else s
    | [] => s)

/-- BUCKET_REFILL: while Bed is powered at each Sundial time that PERIOD ms divides, once; while it is not, when Root's
oscillator has counted PERIOD ms (R552). -/
def execBucketRefill (sev : Nat) (s : State) : Host.Outcome State Fault Refusal :=
  .next (if 16 ≤ sev ∨ s.rootOn = false then s else if s.bedOn then s.refillDue sev else s.refill sev)

/-- The buckets of a severity cut to its DEPTH after a write lowered it (R552). -/
def State.cutBuckets (s : State) (sev : Nat) : State :=
  let d := s.depth sev
  { s with evr := { s.evr with
      bases := SMap.set (fun v => if v < 4 then 4 else if v < 8 then 8 else if v < 12 then 16 else 0) s.evr.bases sev
        (min (s.baseTokens sev) d)
      buckets := s.evr.buckets.map (fun x => if x.2.sev = sev then (x.1, { x.2 with tokens := min x.2.tokens d }) else x) } }

/-! ### Software records (R555) -/

/-- The RESULT of an agent's bank set. -/
def State.swResult (s : State) (b res : Nat) (clamp : Bool) : State :=
  s.setBank b Reg.EVR_SWREC (setBits (setBits (s.bankReg b Reg.EVR_SWREC) 31 30 res) 29 29 (if clamp then 1 else 0))

/-- The staged parameter `k` of a bank. -/
def State.staged (s : State) (b k : Nat) : Nat :=
  (getBits (s.bankReg b (Reg.EVR_SWPk_HI k)) 3 0) * 2 ^ 32 + (s.bankReg b (Reg.EVR_SWPk_LO k)).toNat

/-- The CODE [15:8] range an agent's bank may write (R555): the Dales 0x80 to 0xFF, a firmware agent 0x20 + its ID. -/
def swRange (b src : Nat) : Bool :=
  match b with
  | 0 => decide (0x80 ≤ src)
  | 1 => decide (0x80 ≤ src)
  | 2 => decide (src = 0x22)
  | 3 => decide (src = 0x23)
  | 4 => decide (src = 0x26)
  | 5 => decide (src = 0x24)
  | 6 => decide (src = 0x25)
  | _ => false

/-- A commit refused: RESULT REFUSED, the cause and the bank in EVR_BADCFG, and CFGREJ. -/
def State.swRefuse (s : State) (b cause : Nat) : State :=
  (((s.swResult b 3 false).wr F.EVR_BADCFG_CAUSE cause).wr F.EVR_BADCFG_BANK b).flag F.EVR_STAT_CFGREJ F.EVR_CTL_IE_CFG

/-- A commit of `code` and `sev` from bank `b`, judged in the order of R555. -/
def State.swCommit (s : State) (b : Nat) (v : W32) : State :=
  let code := getBits v 15 0
  let sev0 := getBits v 19 16
  if b = 7 then s.swRefuse b 2
  else if swRange b (code / 256) = false then s.swRefuse b 3
  else
    let clamp := decide (s.rd F.EVR_CTL_MAXSEV < sev0)
    let sev := min sev0 (s.rd F.EVR_CTL_MAXSEV)
    let t := s.setBank b Reg.EVR_SWREC (setBits (setBits (s.bankReg b Reg.EVR_SWREC) 19 16 sev0) 15 0 code)
    let u := t.takeBucket code sev
    if u.2 then
      let w := u.1.enqueue (u.1.stamp code sev (t.staged b 0) (t.staged b 1) (t.staged b 2) clamp true)
      w.1.swResult b (if w.2 then 1 else 0) clamp
    else u.1.swResult b 2 clamp

/-- SWREC_COMMIT. -/
def execSwrecCommit (agent : Agent) (value : W32) (s : State) : Host.Outcome State Fault Refusal :=
  .next (s.gate agent 0x04 0x02C (fun t => match agentBank agent with
    | some b => t.swCommit b value
    | none => t))

/-! ### Reading (R557) -/

/-- The 256 bits of a record as a number (R546). -/
def Rec.word (r : Rec) : Nat :=
  r.code + r.sev * 2 ^ 16 + (if r.clamp then 2 ^ 20 else 0) + (if r.root then 2 ^ 21 else 0) + r.opsec * 2 ^ 24 +
  r.pwrcyc * 2 ^ 56 + r.frag * 2 ^ 88 + r.p0 * 2 ^ 112 + r.p1 * 2 ^ 148 + r.p2 * 2 ^ 184 + r.supp * 2 ^ 220 + 0xA5 * 2 ^ 248

/-- A 48-bit value in a pair of banked registers. -/
def State.bankPair (s : State) (b lo : Nat) (v : Nat) : State :=
  (s.setBank b lo (BitVec.ofNat 32 v)).setBank b (lo + 4) (BitVec.ofNat 32 (v / 2 ^ 32))

/-- A fetch into bank `b`: the oldest held record whose number is at least RDPOS. -/
def State.fetchRec (s : State) (b : Nat) : State :=
  let pos := (getBits (s.bankReg b Reg.EVR_RDPOS_HI) 15 0) * 2 ^ 32 + (s.bankReg b Reg.EVR_RDPOS_LO).toNat
  match s.evr.store.find? (fun x => decide (pos ≤ x.1)) with
  | some (n, r) =>
    let w := r.word
    let t := (List.range 8).foldl (fun x i => x.setBank b (Reg.EVR_RDWn i) (BitVec.ofNat 32 (w / 2 ^ (32 * i)))) s
    ((t.bankPair b Reg.EVR_RDNUM_LO n).bankPair b Reg.EVR_RDPOS_LO (satAdd 48 n 1)).setBank b Reg.EVR_RDSTAT
      (BitVec.ofNat 32 (2 ^ 31 + (if pos < n then 2 ^ 30 else 0)))
  | none => s.setBank b Reg.EVR_RDSTAT (BitVec.ofNat 32 (2 ^ 29))

/-- FETCH: a write of 1 to EVR_RDCMD.FETCH. -/
def execFetch (agent : Agent) (s : State) : Host.Outcome State Fault Refusal :=
  .next (s.gate agent 0x04 0x050 (fun t => match agentBank agent with
    | some b => t.fetchRec b
    | none => t))

/-- ROOT_EVENT_RECORD: while Bed is not powered, Root writes the record of a Root-domain event itself (R556). -/
def execRootEventRecord (event sev : Nat) (p0 p1 p2 : Nat) (s : State) : Host.Outcome State Fault Refusal :=
  .next (if s.rootOn = true ∧ s.bedOn = false then s.record 0x02 event sev p0 p1 p2 else s)

end Sys2Proof.Machine
end

