-- ==== Sys2Proof/Machine/FurrowImage.lean ====
section
/-! DEFINITION. The Furrow program image (R280-R283, R289, R290, R294, R299, R300): instruction formats, the I/O map's rules, and the
checks of PROGLOAD. -/

namespace Sys2Proof.Machine

/-! ### Sizes (R278) -/

def furFlags : Nat := 8192
def furWords : Nat := 2048
def furTimers : Nat := 1024
def furCounters : Nat := 512
def furEdges : Nat := 2048

/-- The largest and smallest values of a word. -/
def sat36 (x : Int) : Int := satS 36 x

/-! ### Instructions (R289, R290) -/

/-- The bits of [23:0] that must be 0 in an instruction with this OP; none for an undefined OP. R's SRC = 1 adds bit 22, and format B
does not list operation 3. -/
def opZeros (op : Nat) : Option Nat :=
  if op = 0x00 ∨ op = 0x0C ∨ op = 0x11 ∨ op = 0x3D ∨ op = 0x3E ∨ op = 0x52 ∨ op = 0x6F then some 0xFFFFFF
  else if 0x01 ≤ op ∧ op ≤ 0x0B then some 0x7FE000
  else if op = 0x0D then some 0xFFFFFE
  else if op = 0x10 then some 0xFFFFFC
  else if op = 0x14 ∨ op = 0x15 then some 0x7FF800
  else if 0x18 ≤ op ∧ op ≤ 0x1A then some 0
  else if 0x1B ≤ op ∧ op ≤ 0x1D then some 0xE00000
  else if op = 0x1E ∨ op = 0x1F ∨ op = 0x50 then some 0xFFFC00
  else if op = 0x20 ∨ op = 0x21 then some 0xF00000
  else if op = 0x22 ∨ op = 0x23 ∨ op = 0x51 then some 0xFFFE00
  else if op = 0x30 ∨ (0x32 ≤ op ∧ op ≤ 0x37) ∨ (0x39 ≤ op ∧ op ≤ 0x3C) ∨ (0x40 ≤ op ∧ op ≤ 0x45) then some 0x7FF800
  else if op = 0x31 ∨ op = 0x38 ∨ (0x48 ≤ op ∧ op ≤ 0x4D) then some 0xF00000
  else if 0x60 ≤ op ∧ op ≤ 0x62 then some 0xFF0000
  else if op = 0x68 then some 0
  else none

/-- OP of an instruction word. -/
def furOp (w : Nat) : Nat := w / 2 ^ 24

/-- Whether a word is an instruction: its OP is defined, its 0 bits are 0, and its operands are listed. -/
def instrOk (w : Nat) : Bool :=
  match opZeros (furOp w) with
  | none => false
  | some z => decide (w &&& z = 0) && !(decide (furOp w = 0x10) && decide (w % 4 = 3)) &&
      !(decide (furOp w = 0x68) && ((bitAt w 23 && bitAt w 22) || decide (w % 256 = 0)))

/-- Whether an instruction may stand in a REP body. -/
def bodyOk (w : Nat) : Bool := !([0x60, 0x61, 0x62, 0x68, 0x6F].contains (furOp w))

/-- Whether a jump or a REP at `p` keeps R294 and R300 in a program of `n` instructions. -/
def flowOk (code : List Nat) (n p w : Nat) : Bool :=
  if 0x60 ≤ furOp w ∧ furOp w ≤ 0x62 then decide (w % 65536 < n)
  else if furOp w = 0x68 then decide (p + w % 256 < n) && ((code.drop (p + 1)).take (w % 256)).all bodyOk
  else true

/-- PROGCODE: whether every instruction passes. -/
def codeOk (code : List Nat) : Bool :=
  code.zipIdx.all (fun c => instrOk c.1 && flowOk code code.length c.2 c.1)

/-! ### The I/O map (R280-R283) -/

/-- Flags of a map entry. -/
def MapEntry.signed (e : MapEntry) : Bool := bitAt e.mflags 0
def MapEntry.big (e : MapEntry) : Bool := bitAt e.mflags 1
def MapEntry.invert (e : MapEntry) : Bool := bitAt e.mflags 2

/-- Whether an entry names a word, and its flag or word. -/
def MapEntry.isWord (e : MapEntry) : Bool := bitAt e.target 15
def MapEntry.cell (e : MapEntry) : Nat := e.target % 8192

/-- The entry in 16 bytes. -/
def mapEntryOf (b : Bytes) : MapEntry :=
  { kind := leAt b 0 1, mflags := leAt b 1 1, target := leAt b 2 2, idx := leAt b 4 2, off := leAt b 6 2, width := leAt b 8 1
    scale := toSigned 8 (leAt b 9 1), maxage := leAt b 10 2, subst := toSigned 32 (leAt b 12 4) }

/-- The rules every entry keeps. -/
def MapEntry.formOk (e : MapEntry) : Bool :=
  decide (e.mflags < 8) && decide (bitsOf e.target 14 13 = 0) && decide (e.cell < if e.isWord then furWords else furFlags) &&
    decide (e.maxage ≤ 60000)

/-- Whether a frame field lies in a frame of `n` bits and is raw. -/
def MapEntry.fieldOk (e : MapEntry) (n : Nat) : Bool :=
  decide (1 ≤ e.width) && decide (e.width ≤ 36) && decide (e.off + e.width ≤ n) && decide (e.scale = 0)

/-- Whether an index names a frame buffer: [15:12] controller 0 to 7, [11:0] buffer 0 to 63. -/
def canIndexOk (i : Nat) : Bool := decide (i / 4096 ≤ 7) && decide (i % 4096 ≤ 63)

/-- Whether an input entry keeps its kind's rules (R281). -/
def MapEntry.inOk (e : MapEntry) : Bool :=
  e.formOk &&
  match e.kind with
  | 1 => decide (e.idx < 112) && decide (e.off = 0) && decide (e.width = 0)
  | 2 => decide (e.idx < 48) && decide (e.off < 32) && decide (e.width = 0)
  | 3 => decide (e.idx < 64) && decide (e.off < 32) && decide (e.width = 0)
  | 4 => decide (e.idx < 64) && (decide (e.off = 0) || (decide (16 ≤ e.off) && decide (e.off ≤ 33))) && decide (e.width = 0)
  | 5 => decide (e.idx = 0) && [8, 16, 32].contains e.width && decide (e.off + e.width / 8 ≤ 64)
  | 6 => decide (e.idx < 16) && decide (e.off ≤ 71) && decide (e.width = 0)
  | 7 => canIndexOk e.idx && e.fieldOk 512
  | 8 => decide (e.idx < 32) && e.fieldOk 12000
  | 9 => decide (e.idx = 0) && decide (e.off ≤ 6) && decide (e.width = 0)
  | _ => false

/-- Whether an output entry keeps its kind's rules (R283): kinds 1 to 4 take a flag, kind 5 a word. -/
def MapEntry.outOk (e : MapEntry) : Bool :=
  e.formOk &&
  match e.kind with
  | 1 => decide (e.idx < 48) && !e.isWord && decide (e.width = 0)
  | 2 => decide (e.idx < 48) && !e.isWord && decide (e.width = 0)
  | 3 => decide (e.idx < 64) && !e.isWord && decide (e.width = 0)
  | 4 => decide (e.idx < 64) && !e.isWord && decide (e.width = 0)
  | 5 => decide (e.idx < 64) && e.isWord && decide (e.width = 0)
  | 6 => canIndexOk e.idx && e.fieldOk 512
  | 7 => decide (e.idx < 32) && e.fieldOk 12000
  | _ => false

/-- The bits of a frame that a field entry covers. -/
def MapEntry.bits (e : MapEntry) : List (Nat × Nat) := (List.range e.width).map (fun i => bitPlace e.big (e.off + i))

/-- Whether two output entries collide. -/
def collide (a b : MapEntry) : Bool :=
  decide (a.kind = b.kind) && decide (a.idx = b.idx) && (decide (a.kind < 6) || a.bits.any (fun x => b.bits.contains x))

/-- No two elements stand in a relation. -/
def noPair {α : Type} (r : α → α → Bool) : List α → Bool
  | [] => true
  | x :: l => l.all (fun y => !r x y) && noPair r l

/-- Whether word `k` lies in the constant region. -/
def Prog.isConst (p : Prog) (k : Nat) : Bool := decide (p.constLo ≤ k) && decide (k ≤ p.constHi)

/-- PROGMAP: whether the map of an image passes. -/
def Prog.mapOk (p : Prog) : Bool :=
  p.ins.all MapEntry.inOk && p.outs.all MapEntry.outOk && noPair collide p.outs &&
    p.ins.all (fun e => !(e.isWord && p.isConst e.cell)) && noPair (fun a b => decide (a.target = b.target)) p.ins

/-! ### The image (R299, R300) -/

/-- Chunks of `n` bytes from offset `off`. -/
def imgChunks (b : Bytes) (off n count : Nat) : List Bytes := (List.range count).map (fun k => (b.drop (off + n * k)).take n)

/-- An image read as a program. -/
def progOf (b : Bytes) : Prog :=
  { id := leAt b 8 4, ver := leAt b 12 4, cycle := leAt b 56 4, constLo := leAt b 60 2, constHi := leAt b 62 2, layout := leAt b 64 4
    code := (imgChunks b (leAt b 28 4) 4 (leAt b 24 4)).map leValue
    inits := (imgChunks b (leAt b 36 4) 16 (leAt b 32 4)).map (fun r => (leAt r 0 1, leAt r 2 2, toSigned 64 (leAt r 8 8)))
    ins := (imgChunks b (leAt b 44 4) 16 (leAt b 40 4)).map mapEntryOf
    outs := (imgChunks b (leAt b 52 4) 16 (leAt b 48 4)).map mapEntryOf }

/-- Whether a section of `n` items of `size` bytes lies between the header and LENGTH; an empty one lies anywhere. -/
def sectionOk (len off n size : Nat) : Bool := decide (n = 0) || (decide (256 ≤ off) && decide (off + n * size ≤ len))

/-- Whether an initial-value record is well formed. -/
def initOk (r : Bytes) : Bool :=
  decide (leAt r 0 1 ≤ 1) && decide (leAt r 1 1 = 0) && decide (leAt r 4 4 = 0) &&
    decide (leAt r 2 2 < if leAt r 0 1 = 1 then furWords else furFlags) &&
    (if leAt r 0 1 = 1 then decide (sat36 (toSigned 64 (leAt r 8 8)) = toSigned 64 (leAt r 8 8)) else true)

/-- PROGFMT: whether the header and the sections pass. -/
def formatOk (b : Bytes) : Bool :=
  let len := b.length
  decide (leAt b 0 4 = 0x31575546) && decide (leAt b 4 4 = 1) && decide (leAt b 68 124 = 0) && decide (leAt b 240 12 = 0) &&
    decide (1 ≤ leAt b 24 4) && decide (leAt b 24 4 ≤ 65536) && decide (leAt b 40 4 ≤ 1024) && decide (leAt b 48 4 ≤ 1024) &&
    sectionOk len (leAt b 28 4) (leAt b 24 4) 4 && sectionOk len (leAt b 36 4) (leAt b 32 4) 16 &&
    sectionOk len (leAt b 44 4) (leAt b 40 4) 16 && sectionOk len (leAt b 52 4) (leAt b 48 4) 16 &&
    (decide (leAt b 62 2 < leAt b 60 2) || decide (leAt b 62 2 < furWords)) &&
    (imgChunks b (leAt b 36 4) 16 (leAt b 32 4)).all initOk

/-- PROGCHECK: whether HCRC, DIGEST and LENGTH match. -/
def digestOk (b : Bytes) : Bool :=
  decide (256 ≤ b.length) && decide (leAt b 16 8 = b.length) && decide (leAt b 252 4 = crc32 (b.take 252)) &&
    decide ((b.drop 192).take 48 = sha384 (b.drop 256))

/-- The status of PROGLOAD for an image that carries no poison; 0 where it passes. -/
def imageStatus (b : Bytes) : Nat :=
  if digestOk b = false then 0x43
  else if formatOk b = false then 0x44
  else if codeOk (progOf b).code = false then 0x45
  else if (progOf b).mapOk = false then 0x46
  else 0

end Sys2Proof.Machine
end

