-- ==== Sys2Proof/Machine/Trellis.lean ====
section
/-! DEFINITION. The Trellis control engine (R245-R272): block-floating arithmetic, the control law, inputs, set-points, modes, cascades,
trips, outputs and commands. -/

namespace Sys2Proof.Machine

/-! ### Block-floating arithmetic (R258-R260) -/

/-- `m × 2^k`. -/
def fracPow (m k : Int) : Frac := if 0 ≤ k then ⟨m * (2 ^ k.toNat : Nat), 1⟩ else ⟨m, 2 ^ (-k).toNat⟩

/-- Whether a mantissa of `b` bits is out of range. -/
def mantOver (b : Nat) (m : Int) : Bool := decide (m < -(2 ^ (b - 1) : Nat)) || decide (((2 ^ (b - 1) : Nat) : Int) ≤ m)

/-- The least exponent from `e` upwards, at most 127, at which every value fits `b` bits; `fuel` bounds the search. -/
def fitExp (b : Nat) (xs : List Frac) : Nat → Int → Int
  | 0, e => e
  | k + 1, e => if e < 127 ∧ xs.any (fun x => mantOver b (x.scaled ((b : Int) - 1 - e))) = true then fitExp b xs k (e + 1) else e

/-- A value as mantissa and exponent of a form with `b`-bit mantissas, half to even. -/
def toMant (b : Nat) (x : Frac) : Int × Int :=
  let e := fitExp b [x] 256 (-128)
  (clampI (-(2 ^ (b - 1) : Nat)) ((2 ^ (b - 1) : Nat) - 1) (x.scaled ((b : Int) - 1 - e)), e)

/-- A value rounded to a mantissa of `b` bits under its least exponent. -/
def roundTo (b : Nat) (x : Frac) : Frac :=
  let m := toMant b x
  fracPow m.1 (m.2 - ((b : Int) - 1))

/-- The largest magnitude of a value: (2^35 - 1) × 2^92. -/
def trlTop : Frac := ⟨((2 ^ 35 - 1) * 2 ^ 92 : Nat), 1⟩

/-- A value saturated at the largest magnitude, and flushed to 0 below 2^-k; with whether it was saturated (R259). -/
def trlBound (k : Nat) (x : Frac) : Frac × Bool :=
  if x.abs.lt ⟨1, 2 ^ k⟩ then (⟨0, 1⟩, false)
  else if trlTop.lt x.abs then (if x.num < 0 then trlTop.neg else trlTop, true)
  else (x, false)

/-- A stage: its values share the least exponent at which each fits 36 bits; with whether one was saturated (R258). -/
def stage (xs : List Frac) : List Frac × Bool :=
  let bs := xs.map (fun x => trlBound 163 x)
  let vs := bs.map (fun b => b.1)
  let e := fitExp 36 vs 256 (-128)
  (vs.map (fun x => fracPow (mantSat (x.scaled (35 - e))) (e - 35)), bs.any (fun b => b.2))

/-- A stage of one value. -/
def stage1 (x : Frac) : Frac × Bool :=
  let r := stage [x]
  (r.1.getD 0 x, r.2)

/-- A state held with a 72-bit mantissa. -/
def state72 (x : Frac) : Frac × Bool :=
  let b := trlBound 199 x
  (roundTo 72 b.1, b.2)

/-- The value of a wide form (R260). -/
def wideVal (w : Nat) : Frac := fracPow (toSigned 36 (w % 2 ^ 36)) (toSigned 8 (w / 2 ^ 36 % 256) - 35)

/-- A value in wide form. -/
def toWide (x : Frac) : Nat :=
  let m := toMant 36 x
  toPattern 36 m.1 + toPattern 8 m.2 * 2 ^ 36

/-- A value in short form. -/
def toShort (x : Frac) : Nat :=
  let m := toMant 24 x
  toPattern 24 m.1 * 256 + toPattern 8 m.2

/-- The zero value. -/
def fzero : Frac := ⟨0, 1⟩

/-! ### State access -/

/-- Loops by code (R2). -/
def Code.loops (c : Code) : Nat := c.pick 64 64 32

/-- A loop. -/
def State.loop (s : State) (n : Nat) : Loop := SMap.get (fun _ => {}) s.trl.loops n

/-- A loop set. -/
def State.setLoop (s : State) (n : Nat) (l : Loop) : State :=
  { s with trl := { s.trl with loops := SMap.set (fun _ => {}) s.trl.loops n l } }

/-- Whether loop `n` is enabled. -/
def State.loopOn (s : State) (n : Nat) : Bool := s.on (F.TRL_Ln_CTL_EN n)

/-- The state of loop `n`: 0 OFF, 1 MANUAL, 2 AUTO, 3 CASCADE, 4 TRACK, 5 TRIPPED. -/
def State.loopState (s : State) (n : Nat) : Nat := s.rd (F.TRL_Ln_STAT_STATE n)

/-- The state of loop `n` set; a change is counted and TRIPMAP follows. -/
def State.setLoopState (s : State) (n st : Nat) : State :=
  let t := if s.loopState n = st then s else s.inc F.TRL_SWCNT_CNT
  (t.wr (F.TRL_Ln_STAT_STATE n) st).mapBit Reg.TRL_TRIPMAP_LO n (decide (st = 5))

/-- Fields of a loop's record (R255). -/
def Loop.flag (l : Loop) (b : Nat) : Bool := bitAt (leAt l.raw 2 2) b
def Loop.wide (l : Loop) (off : Nat) : Frac := wideVal (leAt l.raw off 8)
def Loop.ms (l : Loop) (off : Nat) : Nat := leAt l.raw off 2 * 1000000
def Loop.kp (l : Loop) : Frac := l.wide 16
def Loop.kff (l : Loop) : Frac := l.wide 48
def Loop.ubias (l : Loop) : Frac := l.wide 56
def Loop.umin (l : Loop) : Frac := l.wide 64
def Loop.umax (l : Loop) : Frac := l.wide 72
def Loop.imin (l : Loop) : Frac := l.wide 80
def Loop.imax (l : Loop) : Frac := l.wide 88
def Loop.dumax (l : Loop) : Frac := l.wide 96
def Loop.safeval (l : Loop) : Frac := l.wide 104
def Loop.msrc (l : Loop) : Nat := leAt l.raw 112 4
def Loop.ffsrc (l : Loop) : Nat := leAt l.raw 116 4
def Loop.outdst (l : Loop) : Nat := leAt l.raw 120 4

/-- The kind and the index of a source or destination word (R248, R265). -/
def wordKind (w : Nat) : Nat := bitsOf w 31 28
def wordIndex (w : Nat) : Nat := bitsOf w 15 0
def dstIndex (w : Nat) : Nat := bitsOf w 7 0

/-! ### Events and refusals -/

/-- An event of loop `n` with the value `w` in wide form, on rings 12 and 13, recorded with severity `rec` where its rule says so (R271). -/
def State.trlTell (s : State) (tag n w : Nat) (rec : Option Nat) : State :=
  let r := resultOf [(24, 1, n), (28, 8, s.now), (36, 8, w)]
  let t := (((s.eventEntry 12 0x80 tag 0 r true).1).eventEntry 13 0x80 tag 0 r true).1
  let t := t.mapBit Reg.TRL_ALMMAP_LO n true
  match rec with
  | some sev => t.record 0x09 tag sev (leAt r 0 1) (leAt r 12 4) (leAt r 1 3)
  | none => t

/-- An event whose value the spec does not name: a free one, written under its least exponent. -/
def State.trlEvent (s : State) (tag n : Nat) (rec : Option Nat) : State :=
  (s.trlTell tag n (toWide (wideVal (s.freshNat % 2 ^ 44))) rec).tickFree

/-- A write refused: 1 NOPAR, 2 RANGE, 3 CASCSRC, 4 CASCRATE, 5 DSTBUSY, 6 DSTBAD, 7 ENABLED, 8 SPPLACE, 9 NOSRC. -/
def State.trlReject (s : State) (n cause : Nat) : State :=
  ((s.wr F.TRL_BADCFG_CAUSE cause).wr F.TRL_BADCFG_LOOP n).flag F.TRL_STAT_CFGREJ F.TRL_CTL_IE_CFG

/-- A poison event. -/
def State.trlPoison (s : State) : State := (s.inc F.TRL_POISCNT_CNT).flag F.TRL_STAT_POISON F.TRL_CTL_IE_POIS

/-! ### The control law (R257, R263) -/

/-- What one evaluation of the law gives: u, r, y, f, e, the flags of R266 and the loop after it. -/
structure LawOut where
  u : Frac
  r : Frac
  e : Frac
  flags : Nat
  loop : Loop
  deriving DecidableEq, Repr

/-- The set-point in force after this sample: `rIn` as it stands in CASCADE, else moved towards `rIn` by at most RS. -/
def Loop.ramped (l : Loop) (cascade : Bool) (rIn : Frac) : Frac :=
  match l.r, l.step with
  | some r, some st => if cascade then rIn else r.add (Frac.clamp st.neg st (rIn.sub r))
  | _, _ => rIn

/-- A value clamped to UMIN and UMAX, then where `rate` holds and DUMAX is above 0 to ulast ± DH; with the flags. -/
def Loop.outClamp (l : Loop) (rate : Bool) (u0 : Frac) : Frac × Nat :=
  let c := if u0.lt l.umin then (l.umin, 0x40) else if l.umax.lt u0 then (l.umax, 0x20) else (u0, 0)
  if rate ∧ 0 < l.dumax.num then
    let lo := l.ulast.sub l.dh
    let hi := l.ulast.add l.dh
    if c.1.lt lo then (lo, c.2 + 0x100) else if hi.lt c.1 then (hi, c.2 + 0x100) else c
  else c

/-- One sample of the law. `entry` marks an entry sample; `track` carries the inner loop's set-point in force in TRACK. -/
def Loop.law (l : Loop) (cascade entry : Bool) (track : Option Frac) (rIn y f : Frac) : LawOut :=
  let s1 := stage [l.ramped cascade rIn, y, f]
  let r := s1.1.getD 0 fzero
  let y := s1.1.getD 1 fzero
  let f := s1.1.getD 2 fzero
  let e0 := if l.flag 1 then y.sub r else r.sub y
  let s2 := stage [e0, l.kp.mul e0]
  let e := s2.1.getD 0 fzero
  let p := s2.1.getD 1 fzero
  let x := if l.flag 0 then (if l.flag 1 then y else y.neg) else e
  let xs := state72 x
  let xprev := if entry then xs.1 else l.xprev
  let d := state72 (if entry then fzero else (l.ad.mul l.d).add (l.bd.mul (x.sub xprev)))
  let d4 := stage1 d.1
  let v := l.ubias.add (l.kff.mul f)
  match track with
  | some isp =>
    let c := l.outClamp false isp
    let i := state72 (Frac.clamp l.imin l.imax (((c.1.sub p).sub d4.1).sub v))
    let i3 := stage1 i.1
    let s5 := stage [v, c.1, c.1]
    let u := s5.1.getD 2 fzero
    let sat := s1.2 || s2.2 || xs.2 || d.2 || d4.2 || i.2 || i3.2 || s5.2
    { u := u, r := r, e := e, flags := c.2 + (if sat then 0x200 else 0)
      loop := { l with r := some r, f := f, y := y, xprev := xs.1, d := d.1, i := i.1, ulast := u } }
  | none =>
    let want := (l.ulast.sub p).sub v
    let it := state72 (Frac.clamp l.imin l.imax (if entry then want else l.i.add (l.kih.mul e)))
    let i3 := stage1 it.1
    let u0 := ((p.add i3.1).add d4.1).add v
    let c := l.outClamp true u0
    let s5 := stage [v, u0, c.1]
    let u0s := s5.1.getD 1 fzero
    let u := s5.1.getD 2 fzero
    let hold := !entry && ((u.lt u0s && decide (0 < e.num)) || (u0s.lt u && decide (e.num < 0)))
    let bump := entry && (decide (c.2 ≠ 0) || want.lt l.imin || l.imax.lt want)
    let sat := s1.2 || s2.2 || xs.2 || d.2 || d4.2 || it.2 || i3.2 || s5.2
    { u := u, r := r, e := e
      flags := c.2 + (if hold then 0x80 else 0) + (if sat then 0x200 else 0) + (if bump then 0x2000 else 0)
      loop := { l with r := some r, f := f, y := y, xprev := xs.1, d := d.1, i := (if hold then l.i else it.1), ulast := u } }

/-! ### Installing a record (R256) -/

/-- A record installed: its coefficients, each rounded once, from a period of `us` µs. -/
def Loop.install (l : Loop) (raw : Bytes) (us : Nat) : Loop :=
  let h : Frac := ⟨us, 1000000⟩
  let n := { l with raw := raw, pend := none }
  let tfd := n.wide 40
  let kd := n.wide 32
  let den := tfd.add h
  { n with
    kih := (stage1 ((n.wide 24).mul h)).1
    ad := (stage1 (tfd.div den)).1
    bd := if tfd.num = 0 ∧ kd.num = 0 then fzero else (stage1 (kd.div den)).1
    dh := (stage1 (n.dumax.mul h)).1 }

/-- A record installed in loop `n`. -/
def State.installLoop (s : State) (n : Nat) (raw : Bytes) : State :=
  (s.setLoop n ((s.loop n).install raw (s.rd (F.TRL_Ln_CTL_PERIOD n)))).wr (F.TRL_Ln_STAT_PARVALID n) 1

/-! ### Inputs (R249-R252) -/

/-- What a source gives at a sample: its value and stamp, whether it is valid, whether it sets INWARN, whether it is poisoned. -/
structure InVal where
  v : Frac
  tin : Nat
  ok : Bool
  warn : Bool
  poison : Bool
  deriving DecidableEq, Repr

/-- A source that gives nothing. -/
def noInput : InVal := ⟨fzero, 0, false, false, false⟩

/-- Whether `ts` lies more than `age` ns after a stamp. -/
def tooOld (ts tin age : Nat) : Bool := decide (tin + age < ts)

/-- KIND 1: the last valid sample of the newest frame of a stream (R249). -/
def State.inStream (s : State) (idx ts age : Nat) : InVal :=
  match s.newestSample idx (2 ^ 64) with
  | some r => ⟨r.v, r.stamp, !r.poison && !tooOld ts r.stamp age, decide (r.flags % 4 ≠ 0), r.poison⟩
  | none => noInput

/-- KIND 2: a sample of the guidance record the pointer line names (R250, R240). -/
def State.inGuide (s : State) (l : Loop) (idx ts : Nat) : InVal :=
  if s.on F.TRL_GDOFF_EN = false then noInput
  else
    let a := bedStoreBase + s.rd F.TRL_GDOFF_OFF * 1024
    let slot := s.mem.readLe (a + 4) 1
    let h := a + 64 * (1 + 2 * slot)
    if s.mem.poisoned a 64 then { noInput with poison := true }
    else if 3 < slot ∨ s.mem.readLe (a + 63) 1 ≠ 0x80 then noInput
    else if s.mem.poisoned h 128 then { noInput with poison := true }
    else if s.mem.readLe h 4 ≠ s.mem.readLe a 4 ∨ s.mem.readLe (h + 63) 1 ≠ 0x80 then noInput
    else
      let g := s.mem.readLe (h + 4) 4
      let tsol := s.mem.readLe (h + 8) 8
      ⟨traySample (s.mem.readLe (h + 64) 64) idx, tsol, decide (g &&& leAt l.raw 12 2 = 0) && !tooOld ts tsol (l.ms 4),
        decide (g &&& leAt l.raw 14 2 ≠ 0), false⟩

/-- KIND 3: the flow a forecast record gives for `ts` and LEAD (R251, R205); the second component is the age of the record used, if the
checks passed. -/
def State.inForecast (s : State) (l : Loop) (w ts : Nat) : InVal × Option Nat :=
  if s.on F.TRL_FCOFF_EN = false then (noInput, none)
  else
    let idx := wordIndex w
    let a := bedStoreBase + s.rd F.TRL_FCOFF_OFF * 4096
    let h := a + 4096 * (1 + s.mem.readLe (a + 4) 1)
    let bad (l : List (Nat × Nat)) : Bool := l.any (fun x => s.mem.poisoned x.1 x.2)
    if bad [(a, 5), (a + 8, 8), (a + 63, 1)] then ({ noInput with poison := true }, none)
    else if s.mem.readLe (a + 63) 1 ≠ 0x80 ∨ inBedRange h 4096 = false then (noInput, none)
    else
      let perm := bitAt w 16
      let words := [(h, 8), (h + 63, 1), if idx < 16 then (h + 32 + idx, 1) else (h + 32, 16)] ++ (if perm then [(h + 28, 4)] else [])
      if bad words then ({ noInput with poison := true }, none)
      else if s.mem.readLe h 4 ≠ s.mem.readLe a 4 ∨ s.mem.readLe (h + 63) 1 ≠ 0x80 then (noInput, none)
      else
        let tf := s.mem.readLe (h + 8) 8
        let lead := leAt l.raw 124 4 * 1000000
        let hz := if idx < 16 then s.mem.readLe (h + 32 + idx) 1
          else (List.range 16).foldl (fun m b => min m (s.mem.readLe (h + 32 + b) 1)) 255
        let k := (ts + lead - tf) / 200000000
        let fine := decide (tf ≤ ts + lead) && decide (k < hz) && decide (k < 40) && !bitAt (s.mem.readLe (h + 4) 4) 1 && !tooOld ts tf (l.ms 8)
        let t := h + 64 * (1 + 3 * idx + k / 14)
        let b := 36 * (k % 14)
        if fine = false then (⟨fzero, tf, false, false, false⟩, some (ts - tf))
        else if bad [(t + b / 8, (b + 35) / 8 - b / 8 + 1), (t + 63, 1)] then (⟨fzero, tf, false, false, true⟩, some (ts - tf))
        else
          let f := traySample (s.mem.readLe t 64) (k % 14)
          let speed := toSigned 32 (s.mem.readLe (h + 28) 4)
          if perm then
            if speed ≤ 0 then (⟨fzero, tf, false, false, false⟩, some (ts - tf))
            else (⟨f.div ⟨speed, 1000⟩, tf, true, false, false⟩, some (ts - tf))
          else (⟨f, tf, true, false, false⟩, some (ts - tf))

/-- KIND 4: a Furrow word as released at the last boundary strictly before `ts` (R252, R288). -/
def State.inFurrow (s : State) (idx ts age : Nat) : InVal :=
  if s.fur.aborted then noInput
  else
    match s.fur.rels.find? (fun r => decide (r.boundary < ts)) with
    | some r =>
      let bad := r.bad.contains idx
      ⟨Frac.ofInt (SMap.get (fun _ => 0) r.words idx), r.tlatch, !bad && !tooOld ts r.tlatch age, false, bad⟩
    | none => noInput

/-- A source word read at `ts`; a KIND 3 read reports its record's age in TRL_FCAGE. -/
def State.readInput (s : State) (l : Loop) (w ts : Nat) : State × InVal :=
  match wordKind w with
  | 1 => (s, s.inStream (wordIndex w) ts (l.ms 4))
  | 2 => (s, s.inGuide l (wordIndex w) ts)
  | 3 =>
    let r := s.inForecast l w ts
    match r.2 with
    | some age => (s.measured F.TRL_FCAGE_LAST F.TRL_FCAGE_PEAK (age / 1000000), r.1)
    | none => (s, r.1)
  | 4 => (s, s.inFurrow (wordIndex w) ts (l.ms 4))
  | _ => (s, noInput)

/-! ### Feed-forward (R251) -/

/-- A value part of the way from `a` to `b`: `t` of `span` ns. -/
def between (a b : Frac) (t span : Nat) : Frac := a.add ((b.sub a).mul ⟨t, span⟩)

/-- The feed-forward of a valid sample: the live value, or the ramp back to it. -/
def Loop.ffLive (l : Loop) (v : Frac) (ts : Nat) : Loop × Frac :=
  let ramp := l.ms 10
  let back := match l.stale with
    | some _ => some (ts, l.f)
    | none => l.back
  let n := { l with stale := none, fvalid := v, ft := some ts }
  match back with
  | some (t0, f0) => if ramp ≠ 0 ∧ ts < t0 + ramp then ({ n with back := some (t0, f0) }, between f0 v (ts - t0) ramp) else ({ n with back := none }, v)
  | none => ({ n with back := none }, v)

/-- The feed-forward of an invalid sample: held, or faded out once FFTMO has passed; the third component says that FFSTALE begins. -/
def Loop.ffHeld (l : Loop) (ts : Nat) : Loop × Frac × Bool :=
  let ft := l.ft.getD ts
  let n := { l with ft := some ft }
  let begins := l.stale.isNone && decide (ft + l.ms 8 ≤ ts)
  let n := if begins then { n with stale := some (ts, l.f), back := none } else n
  match n.stale with
  | some (t0, f0) => (n, if l.ms 10 ≠ 0 ∧ ts < t0 + l.ms 10 then between f0 fzero (ts - t0) (l.ms 10) else fzero, begins)
  | none => (n, l.fvalid, false)

/-! ### Cascades (R261) -/

/-- The enabled loop whose destination is the set-point of loop `n`. -/
def State.outerOf (s : State) (n : Nat) : Option Nat :=
  (List.range s.code.loops).find? (fun m => s.loopOn m && decide (wordKind (s.loop m).outdst = 3) && decide (dstIndex (s.loop m).outdst = n))

/-- Whether an outer loop of period `po`, phase `ho` and number `o` suits an inner one. -/
def cascFits (o po ho n pn hn : Nat) : Bool :=
  decide (o < n) && decide (pn ≠ 0) && decide (po % pn = 0) && decide (2 ≤ po / pn) && decide (po / pn ≤ 256) && decide (ho = hn)

/-- Levels above loop `n`. -/
def State.levelsUp (s : State) (fuel n : Nat) : Nat :=
  match fuel with
  | 0 => 0
  | k + 1 =>
    match s.outerOf n with
    | some o => 1 + s.levelsUp k o
    | none => 0

/-- Levels below a loop whose destination word is `w`. -/
def State.levelsDown (s : State) (fuel w : Nat) : Nat :=
  match fuel with
  | 0 => 0
  | k + 1 => if wordKind w = 3 then 1 + (if s.loopOn (dstIndex w) then s.levelsDown k (s.loop (dstIndex w)).outdst else 0) else 0

/-- Whether loop `n` with destination `w`, period and phase in µs breaks the cascade rules. -/
def State.cascBad (s : State) (n w per ph : Nat) : Bool :=
  (match s.outerOf n with
    | some o => !cascFits o (s.rd (F.TRL_Ln_CTL_PERIOD o)) (s.rd (F.TRL_Ln_PHASE_PHASE o)) n per ph
    | none => false) ||
  (decide (wordKind w = 3) && decide (dstIndex w < s.code.loops) &&
    !cascFits n per ph (dstIndex w) (s.rd (F.TRL_Ln_CTL_PERIOD (dstIndex w))) (s.rd (F.TRL_Ln_PHASE_PHASE (dstIndex w)))) ||
  decide (4 < s.levelsUp 64 n + s.levelsDown 64 w + 1)

/-! ### Outputs (R265) -/

/-- The output of an outer loop becomes the latest one its inner loop finds when it enters CASCADE (R262); in TRACK that is all it does
(R263). -/
def State.outerOutput (s : State) (w : Nat) (u : Frac) : State :=
  if wordKind w = 3 then s.setLoop (dstIndex w) { s.loop (dstIndex w) with casc := some u } else s

/-- A value handed to a destination; the second component is false where the channel refuses it. -/
def State.applyOut (s : State) (w : Nat) (u : Frac) : State × Bool :=
  match wordKind w with
  | 1 => s.valveValue (dstIndex w) u
  | 2 => s.lswValue (dstIndex w) u
  | 3 => (s.outerOutput w u, true)
  | _ => (s, true)

/-- A loop stops: SAFEVAL of the record in force is applied once, its state is OFF, and a record that waited is installed (R256, R262, R265). -/
def State.loopStop (s : State) (n : Nat) : State :=
  let l := s.loop n
  let t := (s.setLoop n { l with ulast := l.safeval, sphold := false }).setLoopState n 0
  let t := ((t.mapBit Reg.TRL_ENMAP_LO n false).mapBit Reg.TRL_HOLDMAP_LO n false).reparity (Reg.TRL_Ln_CTL n)
  let a := t.applyOut l.outdst l.safeval
  let t := if a.2 then a.1 else a.1.trlEvent 9 n none
  match l.pend with
  | some raw => t.installLoop n raw
  | none => t

/-! ### Set-points (R253, R254, R268) -/

/-- The area in force: 0 Dale A, 1 Dale B; none while no Dale carries. -/
def State.spArea (s : State) : Option Nat :=
  match s.carrier with
  | some .daleA => some 0
  | some .daleB => some 1
  | _ => none

/-- TRL_SPSRC after a change of the carrying role (R254). -/
def State.trlRole (s : State) : State :=
  match s.spArea with
  | some a => if s.rd F.TRL_SPSRC_DALE = a then s else (s.wr F.TRL_SPSRC_DALE a).inc F.TRL_SPSRC_SWITCHES
  | none => s

/-- The set-point line of loop `n` read at a sample; with the flags SPHOLD and HANDOVER, and whether it was poisoned. -/
def State.spLine (s : State) (n : Nat) : State × Nat × Bool :=
  if s.trl.spLost then (s, 1, false)
  else
    match s.spArea with
    | none => (s, if (s.loop n).sphold then 1 else 0, false)
    | some a =>
      let l := s.loop n
      let hand := match l.area with
        | some b => if a = b then 0 else 0x800
        | none => 0
      let s := s.setLoop n { l with area := some a }
      let l := s.loop n
      let at0 := bedStoreBase + s.rd (if a = 0 then F.TRL_SPBASEA_OFF else F.TRL_SPBASEB_OFF) * 4096 + 64 * n
      let seq := s.mem.readLe at0 4
      let seen := if a = 0 then l.seqA else l.seqB
      if s.mem.poisoned at0 24 || s.mem.poisoned (at0 + 56) 8 then
        if l.sphold then (s, hand + 1, true)
        else ((s.setLoop n { l with sphold := true }).trlTell 1 n (toWide (l.r.getD fzero)) (some sevWarning), hand + 1, true)
      else if s.mem.readLe (at0 + 60) 4 ≠ seq then (s.inc F.TRL_TORNCNT_CNT, hand + (if l.sphold then 1 else 0), false)
      else if seq = 0 ∨ seq = seen then (s, hand + (if l.sphold then 1 else 0), false)
      else
        let v := wideVal (s.mem.readLe (at0 + 8) 8)
        let ramp := wideVal (s.mem.readLe (at0 + 16) 8)
        let rs := (stage1 (ramp.abs.mul ⟨s.rd (F.TRL_Ln_CTL_PERIOD n), 1000000⟩)).1
        let l := { l with target := some v, manual := some v, sphold := false, step := if ramp.num = 0 then none else some rs }
        (s.setLoop n (if a = 0 then { l with seqA := seq } else { l with seqB := seq }), hand, false)

/-! ### Modes (R262, R263) -/

/-- The state a MODE selects. -/
def modeState (m : Nat) : Nat := m + 1

/-- An outer loop enters TRACK while its inner loop is not in CASCADE, and leaves it for the state it left. -/
def State.trackNow (s : State) (n : Nat) : State :=
  let l := s.loop n
  let cur := s.loopState n
  if wordKind l.outdst = 3 then
    let inner := s.loopState (dstIndex l.outdst)
    if (cur = 2 ∨ cur = 3) ∧ inner ≠ 3 then (s.setLoop n { l with from0 := cur }).setLoopState n 4
    else if cur = 4 ∧ inner = 3 then s.setLoopState n l.from0
    else s
  else s

/-- What is owed at a sample start: a record that waits, the transfer at enabling, a MODE change, and TRACK of an outer loop. -/
def State.modesNow (s : State) (n : Nat) : State :=
  let s := match (s.loop n).pend with
    | some raw => s.installLoop n raw
    | none => s
  let l := s.loop n
  let s :=
    if l.fresh then
      let st := modeState (s.rd (F.TRL_Ln_CTL_MODE n))
      (s.setLoop n { l with fresh := false, modeReq := none, ulast := l.safeval, i := fzero, d := fzero, entry := decide (st ≠ 1) }).setLoopState n st
    else
      match l.modeReq with
      | none => s
      | some m =>
        let st := modeState m
        let cur := s.loopState n
        let was := if cur = 4 then l.from0 else cur
        let l := { l with modeReq := none }
        if cur = 5 then
          ((s.setLoop n { l with entry := decide (st ≠ 1), manual := none }).setLoopState n st).trlEvent 4 n none
        else if st = was then s.setLoop n l
        else if st = 1 then (s.setLoop n { l with manual := none }).setLoopState n 1
        else
          let l := if was = 3 then { l with target := none, r := some (l.casc.getD (l.r.getD fzero)) } else { l with entry := l.entry || decide (cur ≠ 4) }
          if cur = 4 then s.setLoop n { l with from0 := st } else (s.setLoop n l).setLoopState n st
  s.trackNow n

/-! ### The sample (R245-R247, R264, R266, R271) -/

/-- Whether a sample of loop `n` falls at `ts` and has not been run. -/
def State.dueAt (s : State) (n ts : Nat) : Bool :=
  let l := s.loop n
  s.loopOn n && decide (ts % (s.rd (F.TRL_Ln_CTL_PERIOD n) * 1000) = s.rd (F.TRL_Ln_PHASE_PHASE n) * 1000) && decide (l.since ≤ ts) &&
    (match l.last with
      | some t => decide (t < ts)
      | none => true)

/-- The output line of a sample (R266). -/
def State.outLine (s : State) (n ts tout flags : Nat) (u r y f : Frac) : State :=
  if s.on F.TRL_OUTBASE_EN then
    s.put (bedStoreBase + s.rd F.TRL_OUTBASE_OFF * 4096 + 64 * n)
      (leBytes 4 ((s.loop n).count % 2 ^ 32) ++ leBytes 2 flags ++ leBytes 1 (s.loopState n) ++ leBytes 1 0 ++ leBytes 8 ts ++ leBytes 8 tout ++
        leBytes 8 (s.loop n).tin ++ leBytes 8 (toWide u) ++ leBytes 8 (toWide r) ++ leBytes 8 (toWide y) ++ leBytes 8 (toWide f))
  else s

/-- The sample log (R271); the entry's STAMP is TOUT. -/
def State.sampleLog (s : State) (n ts tout flags : Nat) (u e : Frac) : State :=
  let l := s.loop n
  if s.on (F.TRL_Ln_CTL_LOGEN n) ∧ (l.count - 1) % 2 ^ s.rd (F.TRL_Ln_CTL_LOGDEC n) = 0 then
    let r := resultOf [(24, 8, ts), (32, 4, tout - ts), (36, 4, min ((tout - l.tin) / 1000) 0xFFFFFFFF), (40, 8, toWide u), (48, 8, toWide e), (56, 2, flags)]
    { (({ s with now := tout }).eventEntry (16 + s.rd (F.TRL_Ln_CTL_LOGR n)) 0x88 n 0 r false).1 with now := s.now }
  else s

/-- The registers of a sample. -/
def State.sampleRegs (s : State) (n ts tout flags : Nat) (u r y : Frac) : State :=
  let t := (s.wr (F.TRL_Ln_STAT_FLAGS n) flags).wr (F.TRL_Ln_SP_VAL n) (toShort r)
  let t := (t.wr (F.TRL_Ln_OUT_VAL n) (toShort u)).wr (F.TRL_Ln_MEAS_VAL n) (toShort y)
  let t := t.mapBit Reg.TRL_HOLDMAP_LO n (bitAt flags 0)
  let lat := min ((tout - ts) / 10) 0xFFFF
  let t := t.measured (F.TRL_Ln_LAT_LAST n) (F.TRL_Ln_LAT_PEAK n) lat
  let t := if t.rd F.TRL_MAXLAT_PEAK < lat then (t.wr F.TRL_MAXLAT_PEAK lat).wr F.TRL_MAXLAT_LOOP n else t
  t.wideAdd Reg.TRL_SAMPCNT_LO 1

/-- What a sample decides: the value it applies (none where it applies nothing), u as reported, e, and the law's flags. -/
structure SampleOut where
  apply : Option Frac
  u : Frac
  e : Frac
  flags : Nat
  deriving DecidableEq, Repr

/-- A sample with an invalid measurement in AUTO, CASCADE or TRACK (R264). -/
def State.measLost (s : State) (n ts : Nat) : State × SampleOut :=
  let l := s.loop n
  let s := match l.minv with
    | some _ => s
    | none => (s.setLoop n { l with minv := some ts }).trlEvent 2 n none
  let l := s.loop n
  if l.minv.getD ts + l.ms 6 ≤ ts then
    let u := if l.flag 4 then l.ulast else l.safeval
    let t := (s.setLoop n { l with ulast := u, prev := s.loopState n }).setLoopState n 5
    let t := (t.flag F.TRL_STAT_TRIP F.TRL_CTL_IE_TRIP).trlEvent 3 n (some sevFault)
    (t, ⟨some u, u, fzero, 2⟩)
  else (s, ⟨if s.loopState n = 4 then none else some l.ulast, l.ulast, fzero, 2⟩)

/-- The set-point a sample moves towards: held under SPHOLD, the outer loop's latest output in CASCADE, else the stream's value. -/
def Loop.rIn (l : Loop) (cascade held : Bool) (y : Frac) : Frac :=
  if held then l.r.getD y
  else if cascade then l.casc.getD (l.r.getD y)
  else l.target.getD (l.r.getD y)

/-- The law of a sample in the loop's state; `ok` says whether the measurement `y` is valid. -/
def State.sampleLaw (s : State) (n ts : Nat) (ok held : Bool) (y f : Frac) : State × SampleOut :=
  let l := s.loop n
  let st := s.loopState n
  if st = 1 then
    match l.manual with
    | some v =>
      let c := l.outClamp true v
      let u := stage1 c.1
      (s.setLoop n { l with ulast := u.1, f := f }, ⟨some u.1, u.1, fzero, c.2 + (if u.2 then 0x200 else 0)⟩)
    | none => (s.setLoop n { l with f := f }, ⟨some l.ulast, l.ulast, fzero, 0⟩)
  else if st = 5 then (s.setLoop n { l with f := f }, ⟨none, l.ulast, fzero, 0⟩)
  else if ok = false then (s.setLoop n { l with f := f }).measLost n ts
  else
    let inner := s.loop (dstIndex l.outdst)
    let track := if st = 4 then some (inner.r.getD l.ulast) else none
    let o := { l with entry := false }.law (decide (st = 3) && !held) l.entry track (l.rIn (decide (st = 3)) held y) y f
    (s.setLoop n o.loop, ⟨if st = 4 then none else some o.u, o.u, o.e, o.flags⟩)

/-- The measurement taken into the loop: a valid one ends the invalid run, is the set-point in force under SPTRACK and where there is
none yet, and resumes a tripped loop under AUTORESUME. -/
def State.takeMeas (s : State) (n : Nat) (m : InVal) : State :=
  let l := s.loop n
  let st := s.loopState n
  if m.ok = false then (if m.tin = 0 then s else s.setLoop n { l with tin := m.tin })
  else
    let y := (stage1 m.v).1
    let l := { l with y := y, tin := m.tin, minv := none }
    let l := if (st = 1 ∨ st = 5) ∧ l.flag 3 = true then { l with r := some y } else l
    let l := if l.r.isNone ∧ l.target.isNone then { l with r := some y } else l
    if st = 5 ∧ l.flag 2 = true then (((s.setLoop n { l with entry := true }).setLoopState n l.prev).trackNow n).trlEvent 4 n none
    else s.setLoop n l

/-- The feed-forward of a sample; with its flags and whether a poisoned word was read. -/
def State.takeFf (s : State) (n ts : Nat) : State × Frac × Nat × Bool :=
  let l := s.loop n
  if wordKind l.ffsrc = 0 then (s, fzero, 0, false)
  else
    let r := s.readInput l l.ffsrc ts
    let warn := if r.2.warn then 4 else 0
    if r.2.ok then
      let x := l.ffLive r.2.v ts
      (r.1.setLoop n x.1, x.2, warn, false)
    else
      let x := l.ffHeld ts
      let t := r.1.setLoop n x.1
      let t := if x.2.2 then t.trlEvent 5 n none else t
      (t, x.2.1, warn + 8 + (if x.1.stale.isSome then 16 else 0), r.2.poison)

/-- A saturation in a sample: flagged and counted, the event once per loop until TRL_STAT.ASAT is cleared (R259). -/
def State.asatNow (s : State) (n : Nat) : State :=
  let told := (s.loop n).asatTold && s.on F.TRL_STAT_ASAT
  let t := (s.inc F.TRL_ASATCNT_CNT).flag F.TRL_STAT_ASAT F.TRL_CTL_IE_SKIP
  if told then t else (t.setLoop n { t.loop n with asatTold := true }).trlEvent 6 n none

/-- The end of the engine's last computation. -/
def State.setBusyEnd (s : State) (t : Nat) : State := { s with trl := { s.trl with busyEnd := t } }

/-- One sample of loop `n` at `ts`, whose destination takes the output at `tout`. -/
def State.runSample (s : State) (n ts tout : Nat) : State :=
  let s := s.setLoop n { s.loop n with last := some ts, busy := tout, count := (s.loop n).count + 1 }
  let s := s.modesNow n
  let sp := s.spLine n
  let s := sp.1
  let skip := if (s.loop n).skipped then 0x400 else 0
  let s := s.setLoop n { s.loop n with skipped := false }
  let m := s.readInput (s.loop n) (s.loop n).msrc ts
  let s := m.1.takeMeas n m.2
  let ff := s.takeFf n ts
  let s := if sp.2.2 || m.2.poison || ff.2.2.2 then ff.1.trlPoison else ff.1
  let held := s.trl.spLost || (s.loop n).sphold
  let o := s.sampleLaw n ts m.2.ok held (s.loop n).y ff.2.1
  let s := o.1
  let flags := sp.2.1 ||| skip ||| (if m.2.warn then 4 else 0) ||| ff.2.2.1 ||| o.2.flags
  let s := if bitAt flags 9 then s.asatNow n else s
  let w := (s.loop n).outdst
  let a := match o.2.apply with
    | some u => s.applyOut w u
    | none => (s.outerOutput w o.2.u, true)
  let flags := flags ||| (if a.2 then 0 else 0x1000)
  let s := if a.2 then a.1 else a.1.trlEvent 9 n none
  let l := s.loop n
  let s := s.sampleRegs n ts tout flags o.2.u (l.r.getD fzero) l.y
  let s := s.outLine n ts tout flags o.2.u (l.r.getD fzero) l.y l.f
  let s := (s.trlBusy (tout - max ts s.trl.busyEnd)).setBusyEnd tout
  s.sampleLog n ts tout flags o.2.u o.2.e

/-- A sample skipped because the loop's previous one still runs (R247). -/
def State.skipSample (s : State) (n ts : Nat) : State :=
  let t := s.setLoop n { s.loop n with last := some ts, skipped := true }
  ((t.wideAdd Reg.TRL_SKIPCNT_LO 1).flag F.TRL_STAT_SKIP F.TRL_CTL_IE_SKIP).trlEvent 7 n none

/-- LOOP_SAMPLE; a switch of the carrying role due at its instant comes first (R577). -/
def execLoopSample (n ts tout : Nat) (s : State) : Host.Outcome State Fault Refusal :=
  .next (
    if s.bedOn = false ∨ s.code.loops ≤ n ∨ s.now < ts ∨ tout < s.now ∨ s.dueAt n ts = false ∨
        (List.range n).any (fun m => s.dueAt m ts) = true ∨ (ts = s.now ∧ s.switchDue.isSome = true) then s
    else if ts < (s.loop n).busy then s.skipSample n ts
    else s.runSample n ts tout)

/-! ### Enabling and modes (R261, R262, R265, R272) -/

/-- Whether two kinds of input have their areas. -/
def State.srcOk (s : State) (a b : Nat) : Bool :=
  ((wordKind a ≠ 2 && wordKind b ≠ 2) || s.on F.TRL_GDOFF_EN) && ((wordKind a ≠ 3 && wordKind b ≠ 3) || s.on F.TRL_FCOFF_EN)

/-- Whether an enabled loop names the destination `w`. -/
def State.dstBusy (s : State) (n w : Nat) : Bool :=
  decide (1 ≤ wordKind w) && (List.range s.code.loops).any (fun m => decide (m ≠ n) && s.loopOn m &&
    decide (wordKind (s.loop m).outdst = wordKind w) && decide (dstIndex (s.loop m).outdst = dstIndex w))

/-- Whether a destination is none the code carries. -/
def State.dstBad (s : State) (w : Nat) : Bool :=
  decide (3 < wordKind w) || (decide (wordKind w = 1) && decide (s.code.valves ≤ dstIndex w)) ||
    (decide (wordKind w = 2) && !s.lswCarried (dstIndex w)) || (decide (wordKind w = 3) && decide (s.code.loops ≤ dstIndex w))

/-- Why an enabling write of TRL_Ln_CTL is refused; 0 where it is not. -/
def State.loopCause (s : State) (n : Nat) (v : W32) : Nat :=
  let l := s.loop n
  let per := getBits v 19 0
  let ph := s.rd (F.TRL_Ln_PHASE_PHASE n)
  if s.on (F.TRL_Ln_STAT_PARVALID n) = false then 1
  else if per < 250 ∨ 1000000 < per ∨ per ≤ ph then 2
  else if s.rd F.TRL_SPBASEA_OFF = s.rd F.TRL_SPBASEB_OFF then 8
  else if s.srcOk l.msrc l.ffsrc = false then 9
  else if getBits v 30 28 = 2 ∧ s.outerOf n = none then 3
  else if s.cascBad n l.outdst per ph then 4
  else if s.dstBusy n l.outdst then 5
  else if s.dstBad l.outdst then 6
  else 0

/-- A loop enabled: its set-point in force is cleared, the SEQs are forgotten, and its first sample makes the transfer. -/
def State.loopStart (s : State) (n : Nat) (v : W32) : State :=
  let t := s.applyWrite (Reg.TRL_Ln_CTL n) v
  let l := t.loop n
  let clean : Loop := { raw := l.raw, fresh := true, since := t.now, casc := l.casc, asatTold := l.asatTold, y := l.y }
  ((t.setLoop n clean).installLoop n l.raw).mapBit Reg.TRL_ENMAP_LO n true

/-- A write of TRL_Ln_CTL. -/
def State.loopCtlWrite (s : State) (n : Nat) (v : W32) : State :=
  let key := Reg.TRL_Ln_CTL n
  let keep : W32 := 0x0FFFFFFF
  if 2 < getBits v 30 28 ∨ 12 < getBits v 23 20 then s
  else if s.loopOn n then
    if getBits v 31 31 = 0 then
      if (s.reg key &&& keep) ≠ (v &&& keep) then s.trlReject n 7 else (s.applyWrite key v).loopStop n
    else if (s.reg key &&& keep) ≠ (v &&& keep) then s.trlReject n 7
    else if getBits v 30 28 = 2 ∧ s.outerOf n = none then s.trlReject n 3
    else (s.applyWrite key v).setLoop n { s.loop n with modeReq := some (getBits v 30 28) }
  else if getBits v 31 31 = 1 then
    let c := s.loopCause n v
    if c = 0 then s.loopStart n v else s.trlReject n c
  else if listedAt key v then s.applyWrite key v
  else s

/-- LOOP_ENABLE. -/
def execLoopEnable (agent : Agent) (n : Nat) (value : W32) (s : State) : Host.Outcome State Fault Refusal :=
  .next (if n < 64 then s.gate agent 0x09 (0x800 + 0x20 * n) (fun t => t.loopCtlWrite n (setBits value 31 31 1)) else s.fail)

/-- LOOP_DISABLE: a write of EN = 0 that leaves every other field as it is. -/
def execLoopDisable (agent : Agent) (n : Nat) (s : State) : Host.Outcome State Fault Refusal :=
  .next (if n < 64 then
    s.gate agent 0x09 (0x800 + 0x20 * n) (fun t => t.loopCtlWrite n (setBits (t.reg (Reg.TRL_Ln_CTL n)) 31 31 0))
  else s.fail)

/-- LOOP_MODE_WRITE: a write of MODE that leaves every other field as it is. -/
def execLoopModeWrite (agent : Agent) (n mode : Nat) (s : State) : Host.Outcome State Fault Refusal :=
  .next (if n < 64 then
    s.gate agent 0x09 (0x800 + 0x20 * n) (fun t => t.loopCtlWrite n (setBits (t.reg (Reg.TRL_Ln_CTL n)) 30 28 mode))
  else s.fail)

/-! ### Commands (R270) -/

/-- Whether an input source word keeps R248. -/
def srcWordOk (w : Nat) (meas : Bool) : Bool :=
  let k := wordKind w
  let top := [0, 111, 9, 16, 2047].getD k 0
  decide (bitsOf w 27 17 = 0) && decide (k ≤ 4) && (!bitAt w 16 || decide (k = 3)) && decide (k = 0 ∨ wordIndex w ≤ top) &&
    (!meas || (decide (k ≠ 0) && decide (k ≠ 3)))

/-- Whether a parameter record keeps R255. -/
def recordOk (raw : Bytes) : Bool :=
  let l : Loop := { raw := raw }
  let within (off hi : Nat) : Bool := decide (1 ≤ leAt raw off 2) && decide (leAt raw off 2 ≤ hi)
  decide (leAt raw 0 1 = 1) && decide (leAt raw 2 2 < 32) && within 4 60000 && within 6 60000 && within 8 60000 &&
    decide (leAt raw 10 2 ≤ 60000) && decide (leAt raw 124 4 ≤ 7800) &&
    ([16, 24, 32, 40, 48, 56, 64, 72, 80, 88, 96, 104].all (fun o => decide (leAt raw o 8 < 2 ^ 44))) &&
    decide (0 ≤ (l.wide 24).num) && decide (0 ≤ (l.wide 40).num) && decide (0 ≤ l.dumax.num) &&
    l.umin.le l.umax && l.imin.le l.imax && l.umin.le l.safeval && l.safeval.le l.umax &&
    srcWordOk l.msrc true && srcWordOk l.ffsrc false && decide (bitsOf l.outdst 27 8 = 0)

/-- LOADPAR. -/
def State.loadPar (s : State) (d : Desc) : State × Result :=
  let n := d.le 16 1
  let a := d.le 24 8
  let raw := s.mem.readBytes a 128
  let new : Loop := { raw := raw }
  if a % 64 ≠ 0 then (s, { status := 2 })
  else if inBedRange a 128 = false then (s, { status := 5 })
  else if s.mem.poisoned a 128 then (s.trlPoison, { status := 0x43 })
  else if recordOk raw = false then (s, { status := 0x40 })
  else if s.code.loops ≤ n ∨ leAt raw 1 1 ≠ n then (s, { status := 0x41 })
  else if s.loopOn n = true ∧ new.outdst ≠ (s.loop n).outdst then (s, { status := 0x42 })
  else if s.srcOk new.msrc new.ffsrc = false then (s, { status := 0x44 })
  else if s.loopOn n = true ∧ s.cascBad n new.outdst (s.rd (F.TRL_Ln_CTL_PERIOD n)) (s.rd (F.TRL_Ln_PHASE_PHASE n)) = true then
    (s.trlReject n 4, { status := 2 })
  else if s.loopOn n then (s.setLoop n { s.loop n with pend := some raw }, {})
  else (s.installLoop n raw, {})

/-- Whether `q` is a ring that takes Trellis commands. -/
def trlRing (q : Nat) : Bool := decide (q = 8) || decide (q = 10) || decide (q = 14)

/-- LOADPAR. -/
def execLoadpar (q : Nat) (s : State) : Host.Outcome State Fault Refusal :=
  .next (if trlRing q then s.serve q 1 (fun d t => t.loadPar d) else s)

/-- SETMODE. -/
def execSetmode (q : Nat) (s : State) : Host.Outcome State Fault Refusal :=
  .next (if trlRing q then s.serve q 2 (fun d t =>
    let n := d.le 16 1
    let m := d.le 17 1
    if t.code.loops ≤ n ∨ 2 < m then (t, { status := 2 })
    else if t.loopOn n = true ∧ m = 2 ∧ t.outerOf n = none then (t.trlReject n 3, { status := 2 })
    else
      let u := (t.wr (F.TRL_Ln_CTL_MODE n) m).reparity (Reg.TRL_Ln_CTL n)
      (if u.loopOn n then u.setLoop n { u.loop n with modeReq := some m } else u, {})) else s)

/-- Why a destination of READPAR or READSTATE is refused; 0 where it is not. -/
def State.trlDest (s : State) (n a size : Nat) : Nat :=
  if s.code.loops ≤ n ∨ a % 64 ≠ 0 then 2 else if inBedRange a size = false then 5 else 0

/-- A record with its wide values written under their least exponents (R260). -/
def wideNormal (raw : Bytes) : Bytes :=
  [16, 24, 32, 40, 48, 56, 64, 72, 80, 88, 96, 104].foldl (fun b o => putLe b o 8 (toWide (wideVal (leAt raw o 8)))) raw

/-- READPAR: with no record installed the bytes written are free. -/
def execReadpar (q : Nat) (s : State) : Host.Outcome State Fault Refusal :=
  .next (if trlRing q then s.serve q 3 (fun d t =>
    let n := d.le 16 1
    let a := d.le 24 8
    let c := t.trlDest n a 128
    if c ≠ 0 then (t, { status := c })
    else if (t.loop n).raw = [] then (t.putFree a 128, {})
    else (t.put a (wideNormal (t.loop n).raw), {})) else s)

/-- A 72-bit state as 9 mantissa bytes and an exponent byte. -/
def stateBytes (x : Frac) : Bytes :=
  let m := toMant 72 x
  leBytes 9 (toPattern 72 m.1) ++ leBytes 1 (toPattern 8 m.2)

/-- READSTATE. -/
def execReadstate (q : Nat) (s : State) : Host.Outcome State Fault Refusal :=
  .next (if trlRing q then s.serve q 4 (fun d t =>
    let n := d.le 16 1
    let a := d.le 24 8
    let c := t.trlDest n a 64
    let l := t.loop n
    let inv := match l.minv with
      | some t0 => (t.now - t0) / 1000000
      | none => 0
    if c ≠ 0 then (t, { status := c })
    else (t.put a (stateBytes l.i ++ stateBytes l.d ++ leBytes 8 (toWide l.xprev) ++ leBytes 8 (toWide (l.r.getD fzero)) ++
      leBytes 8 (toWide l.ulast) ++ leBytes 8 (toWide l.f) ++ leBytes 4 (min inv 0xFFFFFFFF) ++ leBytes 8 (l.last.getD 0)), {})) else s)

/-! ### Faults, register writes and parity (R268, R272) -/

/-- PARAMETER_MEMORY_ERROR: a corrected error is counted; an uncorrectable one stops the loop with SAFEVAL from the second copy. Either
triggers the test of the word (R495). -/
def execParameterMemoryError (n word : Nat) (corrected : Bool) (s : State) : Host.Outcome State Fault Refusal :=
  .next (
    if s.bedOn = false ∨ s.code.loops ≤ n then s
    else
      let t := (s.wr F.TRL_PMERR_LOOP n).triggerTest (0x41000000 + word % 2 ^ 22)
      if corrected then t.inc F.TRL_PMERR_CNT
      else
        let u := (t.wr F.TRL_PMERR_UNC 1).flag F.TRL_STAT_PMERR F.TRL_CTL_IE_CFG
        let u := if u.loopOn n then (u.wr (F.TRL_Ln_CTL_EN n) 0).loopStop n else u
        u.trlEvent 8 n (some sevFault))

/-- A write to the TRL block. -/
def State.trlWrite (s : State) (off : Nat) (v : W32) : State :=
  let key := 0x9000 + off
  let anyOn := (List.range s.code.loops).any (fun n => s.loopOn n)
  let kindOn (k : Nat) : Bool := (List.range s.code.loops).any (fun n => s.loopOn n && (decide (wordKind (s.loop n).msrc = k) || decide (wordKind (s.loop n).ffsrc = k)))
  if 0x800 ≤ off then
    let n := (off - 0x800) / 0x20
    if off % 0x20 = 0 then s.loopCtlWrite n v
    else if off % 0x20 = 4 ∧ s.loopOn n = true then s.trlReject n 7
    else s.plainWrite key v
  else if (off = 0x010 ∨ off = 0x014) ∧ anyOn = true then s.trlReject 0 7
  else if off = 0x010 ∨ off = 0x014 then { s.plainWrite key v with trl := { s.trl with spLost := false } }
  else if (off = 0x020 ∧ kindOn 2 = true) ∨ (off = 0x024 ∧ kindOn 3 = true) then s.trlReject 0 7
  else s.plainWrite key v

/-- What a register parity fault in TRL does beside the common effects. -/
def State.trlParity (s : State) (off : Nat) (was : Bool) : State :=
  if 0x800 ≤ off ∧ (off % 0x20 = 0 ∨ off % 0x20 = 4) then
    let n := (off - 0x800) / 0x20
    if was then (s.wr (F.TRL_Ln_CTL_EN n) 0).loopStop n else s
  else if off = 0x010 ∨ off = 0x014 then { s with trl := { s.trl with spLost := true } }
  else s

end Sys2Proof.Machine
end

