-- ==== Sys2Proof/Machine/UpdBase.lean ====
section
/-! DEFINITION. The slots, configuration records and probations of the updatable units (R519-R522, R530-R534, R542, R544), as far as the units
themselves need them. -/

namespace Sys2Proof.Machine

/-! ### Stores -/

/-- The slots as a module is delivered: slot A confirmed with VERSION 0, slot B empty (notes/assumptions/3.md). -/
def slotMade (i : Nat) : Slot := if i % 2 = 0 then { st := 3 } else {}

/-- A slot of unit `u` (0 A, 1 B). -/
def State.slot (s : State) (u k : Nat) : Slot := SMap.get slotMade s.upd.slots (2 * u + k)

/-- The slot unit `u` runs. -/
def State.slotAct (s : State) (u : Nat) : Nat := SMap.get (fun _ => 0) s.upd.act u

/-- The anti-rollback counter of unit `u`. -/
def State.arb (s : State) (u : Nat) : Nat := SMap.get (fun _ => 0) s.upd.arb u

/-- The configuration slots of a unit: units 0 and 1 share unit 0's. -/
def cfgUnit (u : Nat) : Nat := if u = 1 then 0 else u

/-- A configuration record. -/
def State.cfgRec (s : State) (u k : Nat) : CfgRec := SMap.get (fun _ => {}) s.upd.cfg (2 * cfgUnit u + k)

/-- Whether unit `u` is on probation, with its start and window. -/
def State.probation (s : State) (u : Nat) : Option (Nat × Nat) := (s.upd.prob.find? (fun p => decide (p.1 = u))).map (fun p => p.2)

/-- The confirmed slot of a unit with the higher VERSION (the slot it runs, of equals), passing over those in `bad`. -/
def State.bootSlot (s : State) (u : Nat) (bad : List Nat) : Option Nat :=
  let ok := fun k => decide ((s.slot u k).st = 3) && !bad.contains (2 * u + k)
  let a := s.slotAct u
  if ok a && (!ok (1 - a) || decide ((s.slot u (1 - a)).ver ≤ (s.slot u a).ver)) then some a
  else if ok (1 - a) then some (1 - a) else none

/-- The active confirmed VERSION of a unit. -/
def State.confirmedVer (s : State) (u : Nat) : Nat := ((s.bootSlot u []).map (fun k => (s.slot u k).ver)).getD 0

/-- The CFGVER of the image unit `u` runs. -/
def State.runCfgver (s : State) (u : Nat) : Nat := (s.slot u (s.slotAct u)).cfgver

/-- The slot of the valid record with the highest SEQ whose CFGVER is at most `v`. -/
def State.cfgFor (s : State) (u v : Nat) : Option Nat :=
  let ok := fun k => (s.cfgRec u k).ok && decide ((s.cfgRec u k).cfgver ≤ v)
  if ok 0 && (!ok 1 || decide ((s.cfgRec u 1).seq ≤ (s.cfgRec u 0).seq)) then some 0 else if ok 1 then some 1 else none

/-! ### Registers -/

/-- Unit `u`'s registers as the stores hold them (R545). -/
def State.unitRegs (s : State) (u : Nat) : State :=
  let t := ((s.wr (F.UPD_Uu_STAT_ACT u) (s.slotAct u)).wr (F.UPD_Uu_STAT_STA u) (s.slot u 0).st).wr (F.UPD_Uu_STAT_STB u) (s.slot u 1).st
  let t := (t.wrB (F.UPD_Uu_STAT_PROB u) (s.probation u).isSome).wr (F.UPD_Uu_VERA_VER u) (s.slot u 0).ver
  let t := (t.wr (F.UPD_Uu_VERB_VER u) (s.slot u 1).ver).wrSat (F.UPD_Uu_FALLS_CNT u) (SMap.get (fun _ => 0) s.upd.falls u)
  let t := t.wr (F.UPD_Uu_OPSEC_SEC u) (SMap.get (fun _ => 0) s.upd.opsec u)
  let t := match s.probation u with
    | some p => t.wrSat (F.UPD_Uu_PROB_MS u) ((p.1 + p.2 - s.now) / 1000000)
    | none => t.wr (F.UPD_Uu_PROB_MS u) 0
  if u ≤ 5 then
    match s.cfgFor u (s.runCfgver u) with
    | some k => (t.wrSat (F.UPD_Uu_CFG_CFGVER u) (s.cfgRec u k).cfgver).wr (F.UPD_Uu_CFG_SEQ u) (s.cfgRec u k).seq
    | none => t.wr (F.UPD_Uu_CFG_CFGVER u) 0 |>.wr (F.UPD_Uu_CFG_SEQ u) 0
  else t

/-- Whether unit `u`'s slots lie in the boot store. -/
def inBoot (u : Nat) : Bool := decide (u = 2) || decide (6 ≤ u)

/-- Units of `n` bytes taken by a run of bytes. -/
def unitsOf (n : Nat) (b : Bytes) : Nat := (b.length + n - 1) / n

/-- The registers of the block: every unit, the free stores, the keys, and PROBATION with its interrupt when it rises. -/
def State.updRegs (s : State) : State :=
  let t := (List.range 9).foldl (fun x u => x.unitRegs u) s
  let used := fun boot n => (List.range 18).foldl (fun a k => if inBoot (k / 2) = boot then a + unitsOf n (s.slot (k / 2) (k % 2)).data else a) 0
  let cfg := (List.range 12).foldl (fun a k => a + (if (s.cfgRec (k / 2) (k % 2)).ok ∧ k / 2 ≠ 1 then unitsOf 16384 (s.cfgRec (k / 2) (k % 2)).body else 0)) 0
  let table := if s.upd.table.isSome then 1 else 0
  let t := (t.wr F.UPD_STORE_IMGFREE (16384 - used false 1048576)).wr F.UPD_STORE_BOOTFREE (16384 - (used true 16384 + cfg + table))
  let t := (t.wr F.UPD_KEYSTAT_REVOKED s.upd.revoked).wr F.UPD_KEYSTAT_PRESENT s.upd.present
  let on := !s.upd.prob.isEmpty
  let was := s.on F.UPD_STAT_PROBATION
  let t := t.wrB F.UPD_STAT_PROBATION on
  if on && !was && t.on F.UPD_CTL_IE_PROB then t.irqBoth (.status Reg.UPD_STAT 0) else t

/-- A slot set. -/
def State.setSlot (s : State) (u k : Nat) (x : Slot) : State :=
  { s with upd := { s.upd with slots := SMap.set slotMade s.upd.slots (2 * u + k) x } }

/-- The slot a unit runs set. -/
def State.setAct (s : State) (u k : Nat) : State := { s with upd := { s.upd with act := SMap.set (fun _ => 0) s.upd.act u k } }

/-! ### Events (R544) -/

/-- An event entry on ring 65 for unit `u`; `rec` records it with that severity. -/
def State.updEvent (s : State) (tag u slot ver old : Nat) (rec : Option Nat) : State :=
  let r := resultOf [(24, 1, u), (25, 1, slot), (28, 8, s.now), (36, 4, ver), (40, 4, old)]
  let t := (s.eventEntry 65 0x80 tag 0 r true).1
  match rec with
  | some sev => t.record 0x05 tag sev u ver slot
  | none => t

/-- The state of the running package's item. -/
def State.itemState (s : State) (k st status : Nat) : State :=
  (s.wr (F.UPD_ITEMk_STATE k) st).wr (F.UPD_ITEMk_STATUS k) status

/-! ### Starts and probation (R522, R530, R533) -/

/-- A slot whose digest does not match at a start is FAILED. -/
def State.failBad (s : State) (u : Nat) (bad : List Nat) : State :=
  [0, 1].foldl (fun x k => if bad.contains (2 * u + k) ∧ (x.slot u k).st = 3 then x.setSlot u k { x.slot u k with st := 4 } else x) s

/-- A start of unit `u`: a slot found on probation is FAILED, and the confirmed slot with the higher VERSION whose digest matches is started. -/
def State.startUnit (s : State) (u : Nat) (bad : List Nat) : State :=
  let t := [0, 1].foldl (fun x k => if (x.slot u k).st = 2 then x.setSlot u k { x.slot u k with st := 4 } else x) s
  let best := t.bootSlot u []
  let t := match best with
    | some k => if bad.contains (2 * u + k) then t.setSlot u k { t.slot u k with st := 4 } else t
    | none => t
  match t.bootSlot u bad with
  | some k => (t.failBad u (if best = some k then [] else bad)).setAct u k
  | none => t.failBad u bad

/-- The slot of unit `u` that does not run starts, on probation with the window `win` in s (0: the default of R519). -/
def State.startNew (s : State) (u win : Nat) : State :=
  let k := 1 - s.slotAct u
  let dflt := [600, 600, 60, 120, 300, 60, 0, 0, 60].getD u 60
  let w := (if win = 0 then dflt else win) * 1000000000
  let t := (s.setSlot u k { s.slot u k with st := 2 }).setAct u k
  let t : State := { t with upd := { t.upd with prob := t.upd.prob ++ [(u, s.now, w)] } }
  (t.updRegs).updEvent 1 u k (s.slot u k).ver 0 none

/-- Unit `u` leaves probation. -/
def State.offProbation (s : State) (u : Nat) : State :=
  { s with upd := { s.upd with prob := s.upd.prob.filter (fun p => decide (p.1 ≠ u)) } }

/-- What a fall-back of unit `u` leaves in the stores and registers, before the previous image starts: the slot FAILED, the counts, the
FELLBACK event and record (R533). -/
def State.fellMark (s : State) (u : Nat) : State :=
  let k := s.slotAct u
  let prev := if (s.slot u (1 - k)).st = 3 then 1 - k else k
  let t := (s.setSlot u k { s.slot u k with st := 4 }).setAct u prev
  let t := t.offProbation u
  let t : State := { t with upd := { t.upd with falls := SMap.set (fun _ => 0) t.upd.falls u (satAdd 32 (SMap.get (fun _ => 0) t.upd.falls u) 1) } }
  let t := (t.updRegs).inc F.UPD_FALLCNT_CNT
  (t.flag F.UPD_STAT_FELLBACK F.UPD_CTL_IE_FALL).updEvent 3 u k (s.slot u k).ver 0 (some sevWarning)

/-! ### The end of a package (R528, R529) -/

/-- The APPLY that runs completes with `st`; further ABORTs complete with it. -/
def State.endApply (s : State) (st unit : Nat) : State :=
  match s.upd.run with
  | none => s
  | some r =>
    let t : State := { s with upd := { s.upd with run := none, pkg := none, furIdx := none } }
    let t := (t.wr F.UPD_PKGSTAT_STATE (if st = 0 then 4 else 5)).wr F.UPD_PKGSTAT_STATUS st
    let t := if st = 0 then (t.inc F.UPD_ACCCNT_CNT).flag F.UPD_STAT_DONE F.UPD_CTL_IE_DONE
      else (((t.inc F.UPD_REJCNT_CNT).wr F.UPD_LASTERR_UNIT unit).wr F.UPD_LASTERR_ITEM r.item).wr F.UPD_LASTERR_STATUS st
    let t := t.complete 64 r.desc { status := st, estat := if t.upd.table.isSome then 1 else 0, bytes := leBytes 4 r.done }
    r.aborts.foldl (fun x d => x.complete 64 d {}) t

/-- The token an update of unit `u` holds. -/
def updToken (u : Nat) : Nat := if u ≤ 1 then 4 else if u = 2 ∨ u = 8 then 5 else if u ≤ 5 then 7 else 6

/-- The package stops because unit `u` fell back: its item reads FELLBACK and its token is released (R529). -/
def State.fellStop (s : State) (u : Nat) : State :=
  match s.upd.run with
  | none => s
  | some r =>
    let t := if s.holdsToken (updToken u) ownerUpdate then s.tokGive (updToken u) else s
    (t.itemState r.item 6 0x49).endApply 0x49 u

/-- Every unit of `us` on probation falls back without starting anything (a power-down or a reset). -/
def State.fellAll (s : State) (us : List Nat) : State :=
  us.foldl (fun x u => if (x.probation u).isSome then (x.fellMark u).fellStop u else x) s

/-! ### Ring 30 (R540) -/

/-- UPD puts a descriptor with opcode `op` on ring 30 and rings its doorbell; the second component is the entry, none where the ring is not
enabled or holds no free entry. -/
def State.updPost (s : State) (op : Nat) (payload : List (Nat × Nat × Nat)) : State × Option Nat :=
  let i := (s.ring 30).idx
  let next := if i + 1 = s.ringSize 30 then 0 else i + 1
  if s.on (F.RNG_QnCFG_EN 30) = false ∨ s.on (F.RNG_QnCFG_KIND 30) = true ∨ next = s.ringHead 30 then (s, none)
  else
    let ph := if s.ringHead 30 ≤ i then s.rd (F.RNG_QnSTAT_PHASE 30) else 1 - s.rd (F.RNG_QnSTAT_PHASE 30)
    let line := payload.foldl (fun b x => putLe b x.1 x.2.1 x.2.2) (leBytes 8 (op + 0x100 + ph * 2 ^ 63) ++ List.replicate 56 0)
    let t := s.put (s.ringAddr 30 i) line
    (t.setRing 30 { t.ring 30 with idx := next }, some i)

/-- The item that runs is refused by its unit before it runs: the package stops with ITEMFAIL (R528). -/
def State.itemFail (s : State) (r : UpdRun) (u : Nat) : State :=
  let t := if s.holdsToken (updToken u) ownerUpdate then s.tokGive (updToken u) else s
  (t.itemState r.item 1 0x51).endApply 0x51 u

/-- The item that runs. -/
def State.runItem (s : State) : Option (UpdRun × PkgItem) :=
  match s.upd.run, s.upd.pkg with
  | some r, some p => (p.items[r.item]?).map (fun i => (r, i))
  | _, _ => none

/-- The run set. -/
def State.setRun (s : State) (r : UpdRun) : State := { s with upd := { s.upd with run := some r } }

/-- UPD gives a command on ring 30 for the item that runs and waits for it. -/
def State.furGive (s : State) (r : UpdRun) (stage op : Nat) (payload : List (Nat × Nat × Nat)) : State :=
  let x := s.updPost op payload
  match x.2 with
  | some i => { x.1 with upd := { x.1.upd with furIdx := some i, run := some { r with stage := stage } } }
  | none => s.itemFail r 8

/-- The entry UPD waits for on ring 30 completes with `st`: PROGLOAD leads to PROGACT, PROGACT starts the probation. -/
def State.furTold (s : State) (d : Desc) (st : Nat) : State :=
  if s.upd.furIdx = some d.idx then
    let t : State := { s with upd := { s.upd with furIdx := none } }
    match t.runItem with
    | some (r, i) =>
      if st ≠ 0 then t.itemFail r 8
      else if r.stage = 7 then t.furGive r 8 0x11 [(16, 1, bitsOf i.flags 1 1)]
      else ((t.setRun { r with stage := 6 }).itemState r.item 4 0).startNew 8 i.win
    | none => t
  else s

end Sys2Proof.Machine
end

