-- ==== Sys2Proof/Machine/Furrow.lean ====
section
/-! DEFINITION. The Furrow cyclic processor (R273-R288, R296-R308): memories, latch and release, faults and HALT, run-time changes, and
loading and activating a program. -/

namespace Sys2Proof.Machine

/-! ### Memories and poison (R278, R304) -/

/-- Furrow's part of the state changed. -/
def State.setFur (s : State) (f : Furrow) : State := { s with fur := f }

/-- A flag, a word, a timer, a counter and an edge memory. -/
def State.furFlag (s : State) (i : Nat) : Bool := SMap.get (fun _ => false) s.fur.flags i
def State.furWord (s : State) (i : Nat) : Int := SMap.get (fun _ => 0) s.fur.words i
def State.furTimer (s : State) (i : Nat) : Timer := SMap.get (fun _ => {}) s.fur.timers i
def State.furCounter (s : State) (i : Nat) : Counter := SMap.get (fun _ => {}) s.fur.counters i
def State.furEdge (s : State) (i : Nat) : Bool := SMap.get (fun _ => false) s.fur.edges i

/-- Whether an entry of an area carries the mark: area 0 flags (in groups of 64), 1 words, 2 timers, 3 counters, 4 edges. -/
def State.furBad (s : State) (area i : Nat) : Bool := s.fur.bad.contains (area, if area = 0 then i / 64 else i)

/-- The mark of an entry cleared. -/
def State.furClean (s : State) (area i : Nat) : State :=
  s.setFur { s.fur with bad := s.fur.bad.filter (fun p => p ≠ (area, i)) }

/-- A flag stored: in a marked group the other flags become 0 and the mark is cleared. -/
def State.setFlag (s : State) (i : Nat) (v : Bool) : State :=
  let s := if s.furBad 0 i then
      (s.setFur { s.fur with flags := SMap.keep (fun k => decide (k / 64 ≠ i / 64)) s.fur.flags }).furClean 0 (i / 64)
    else s
  s.setFur { s.fur with flags := SMap.set (fun _ => false) s.fur.flags i v }

/-- A word stored. -/
def State.setWord (s : State) (i : Nat) (v : Int) : State :=
  let s := s.furClean 1 i
  s.setFur { s.fur with words := SMap.set (fun _ => 0) s.fur.words i v }

/-- A timer, a counter and an edge memory stored. -/
def State.setTimer (s : State) (i : Nat) (t : Timer) : State :=
  let s := s.furClean 2 i
  s.setFur { s.fur with timers := SMap.set (fun _ => {}) s.fur.timers i t }
def State.setCounter (s : State) (i : Nat) (c : Counter) : State :=
  let s := s.furClean 3 i
  s.setFur { s.fur with counters := SMap.set (fun _ => {}) s.fur.counters i c }
def State.setEdge (s : State) (i : Nat) (v : Bool) : State :=
  let s := s.furClean 4 i
  s.setFur { s.fur with edges := SMap.set (fun _ => false) s.fur.edges i v }

/-- A free word for a marked entry read outside an instruction. -/
def State.freeWord (s : State) (i : Nat) : Int := toSigned 36 (leValue ((List.range 5).map (fun k => Config.freeByte s.free (8 * i + k))))

/-- The value of an entry as the release, the status area, READMEM and the watches read it: free where it is marked. -/
def State.furValue (s : State) (area i : Nat) : Int :=
  if s.furBad area i then (if area = 0 ∨ area = 4 then s.freeWord (area * 65536 + i) % 2 else s.freeWord (area * 65536 + i))
  else if area = 0 then (if s.furFlag i then 1 else 0)
  else if area = 1 then s.furWord i
  else if area = 2 then (s.furTimer i).et
  else if area = 3 then (s.furCounter i).cv
  else if area = 4 then (if s.furEdge i then 1 else 0)
  else 0

/-! ### Events and refusals (R304, R307, R308) -/

/-- A poison event. -/
def State.furPoison (s : State) : State := (s.inc F.FUR_POISCNT_CNT).flag F.FUR_STAT_POISON F.FUR_CTL_IE_POIS

/-- An event on rings 28 and 29, recorded with severity `rec` where its rule says so. -/
def State.furEvent (s : State) (tag cause place remain x : Nat) (rec : Option Nat) : State :=
  let r := resultOf [(24, 1, cause), (26, 2, place), (28, 8, s.now), (36, 4, s.rd F.FUR_SCANSEQ_SEQ), (40, 4, remain), (44, 4, x)]
  let t := (((s.eventEntry 28 0x80 tag 0 r true).1).eventEntry 29 0x80 tag 0 r true).1
  match rec with
  | some sev => t.record 0x0A tag sev (leAt r 0 1) (leAt r 12 4) (leAt r 1 3)
  | none => t

/-- A write refused: 1 ENABLED, 2 NOPROG, 3 RANGE, 4 CYCLE, 5 PLACE. -/
def State.furReject (s : State) (cause : Nat) : State :=
  (s.wr F.FUR_BADCFG_CAUSE cause).flag F.FUR_STAT_CFGREJ F.FUR_CTL_IE_FAULT

/-- The state of Furrow: 0 STOPPED, 1 RUN, 2 HALT. -/
def State.furState (s : State) : Nat := s.rd F.FUR_STATE_STATE

/-- CHGPEND brought up to date. -/
def State.chgReg (s : State) : State := s.wr F.FUR_STATE_CHGPEND (min s.fur.changes.length 64)

/-! ### Release (R274, R283, R284, R288) -/

/-- The flag or word value of an output entry, or its SAFE value. -/
def State.outValue (s : State) (safe : Bool) (e : MapEntry) : Int :=
  if safe then (if e.isWord then e.subst else e.subst % 2)
  else
    let v := s.furValue (if e.isWord then 1 else 0) e.cell
    if e.isWord then v else if e.invert then 1 - v else v

/-- A refused output entry. -/
def State.outRefused (s : State) (i : Nat) : State :=
  let told := s.mapOn (Reg.FUR_OUTREJn 0) i
  let t := (s.mapBit (Reg.FUR_OUTREJn 0) i true).flag F.FUR_STAT_OUTREJ F.FUR_CTL_IE_SUBST
  if told then t else t.furEvent 5 0 i 0 0 none

/-- The duty a channel's LSWDUTY entry gives. -/
def State.dutyOf (s : State) (safe : Bool) (p : Prog) (n : Nat) : Option Frac :=
  (p.outs.find? (fun e => decide (e.kind = 5) && decide (e.idx = n))).map (fun e => fracPow (s.outValue safe e) (-e.scale))

/-- A frame field of an output entry. -/
def State.outField (s : State) (safe : Bool) (e : MapEntry) : Overlay :=
  { off := e.off, width := e.width, value := toPattern e.width (s.outValue safe e), big := e.big }

/-- One output entry of kinds 1 to 5 handed on; the second component is false where the destination refuses it. -/
def State.outHand (s : State) (safe : Bool) (p : Prog) (e : MapEntry) : State × Bool :=
  let on := decide (s.outValue safe e ≠ 0)
  match e.kind with
  | 1 => if e.idx < s.code.valves then (s.valvePermit e.idx on, true) else (s, false)
  | 2 => s.valveRelease e.idx on
  | 3 => if s.lswCarried e.idx then (s.lswPermit e.idx on, true) else (s, false)
  | 4 => s.lswRelease e.idx on (s.dutyOf safe p e.idx)
  | 5 =>
    if s.lswDutyOk e.idx = false then (s.lswRefused, false)
    else if p.outs.any (fun f => decide (f.kind = 4) && decide (f.idx = e.idx)) then (s, true)
    else (s.lswCommand e.idx (s.lOn e.idx 1) (fracPow (s.outValue safe e) (-e.scale)), true)
  | _ => (s, true)

/-- The output entries of the kinds given, by position. -/
def Prog.outsOf (p : Prog) (ok : Nat → Bool) : List (MapEntry × Nat) := p.outs.zipIdx.filter (fun e => ok e.1.kind)

/-- A list of output entries handed on one by one. -/
def State.outAll (s : State) (safe : Bool) (p : Prog) (l : List (MapEntry × Nat)) : State :=
  l.foldl (fun x e =>
    let r := x.outHand safe p e.1
    if r.2 then r.1 else r.1.outRefused e.2) s

/-- Elements without repeats. -/
def nubNat (l : List Nat) : List Nat := l.foldl (fun a x => insertNat x a) []

/-- The frame entries of a kind handed on, buffer by buffer or stream by stream. -/
def State.outFrames (s : State) (safe : Bool) (p : Prog) (kind : Nat) : State :=
  let l := p.outsOf (fun k => decide (k = kind))
  (nubNat (l.map (fun e => e.1.idx))).foldl (fun x i =>
    let g := l.filter (fun e => decide (e.1.idx = i))
    let fs := g.map (fun e => x.outField safe e.1)
    let r := if kind = 6 then x.canRelease (i / 4096) (i % 4096) fs else x.rioRelease i fs
    if r.2 then r.1 else g.foldl (fun y e => y.outRefused e.2) r.1) s

/-- The watches' values at a release (R308). -/
def State.watches (s : State) : State :=
  (List.range 16).foldl (fun x n =>
    if x.on (F.FUR_WATCHn_SEL_EN n) then
      x.wr (F.FUR_WATCHn_VAL_VAL n) (toPattern 32 (satS 32 (x.furValue (x.rd (F.FUR_WATCHn_SEL_AREA n)) (x.rd (F.FUR_WATCHn_SEL_INDEX n)))))
    else x) s

/-- A release: permits, valve commands, switch commands in channel order, then frames. A free value a marked entry gave is used up. -/
def State.furRelease (s : State) (safe : Bool) : State :=
  match s.fur.active with
  | none => s
  | some p =>
    let t := s.outAll safe p (p.outsOf (fun k => decide (k = 1) || decide (k = 2) || decide (k = 3) || decide (k = 5)))
    let sw := p.outsOf (fun k => decide (k = 4))
    let t := (List.range 64).foldl (fun x n => x.outAll safe p (sw.filter (fun e => decide (e.1.idx = n)))) t
    let t := (t.outFrames safe p 6).outFrames safe p 7
    t.watches.tickFree

/-- The words of a scan published at a boundary; the last two releases are kept (R252, R288). -/
def State.publishWords (s : State) (sc : Scan) : State :=
  let r : WordRelease := { boundary := s.now, tlatch := sc.tlatch, words := s.fur.words
                           bad := (s.fur.bad.filter (fun p => p.1 = 1)).map (fun p => p.2) }
  s.setFur { s.fur with rels := (r :: s.fur.rels).take 2 }

/-! ### Changes and reads (R298, R306) -/

/-- A SETVAL applied and completed. -/
def State.applyChange (s : State) (q : Nat) (d : Desc) : State :=
  let i := d.le 18 2
  let t := if d.le 16 1 = 0 then s.setFlag i (decide (d.le 24 1 % 2 = 1)) else s.setWord i (d.leS 24 8)
  (t.inc F.FUR_CHGCNT_CNT).complete q d {}

/-- Up to `n` waiting changes applied in ring order. -/
def State.applyChanges (s : State) (n : Nat) : State :=
  let l := s.fur.changes.take n
  let t := s.setFur { s.fur with changes := s.fur.changes.drop n, changed := s.fur.changed || !l.isEmpty }
  (l.foldl (fun x c => x.applyChange c.1 c.2) t).chgReg

/-- Bits packed eight to a byte, first in bit 0. -/
def packBits : List Bool → Bytes
  | a :: b :: c :: d :: e :: f :: g :: h :: r =>
    BitVec.ofNat 8 (([a, b, c, d, e, f, g, h].zipIdx.map (fun x => if x.1 then 2 ^ x.2 else 0)).foldl (fun x y => x + y) 0) :: packBits r
  | [] => []
  | l => [BitVec.ofNat 8 ((l.zipIdx.map (fun x => if x.1 then 2 ^ x.2 else 0)).foldl (fun x y => x + y) 0)]

/-- The bytes READMEM writes. -/
def State.memBytes (s : State) (area first count : Nat) : Bytes :=
  let l := (List.range count).map (fun k => first + k)
  if area = 0 ∨ area = 4 then packBits (l.map (fun i => decide (s.furValue area i ≠ 0)))
  else if area = 2 then
    (l.map (fun i =>
      let t := s.furTimer i
      leBytes 8 (toPattern 64 (s.furValue 2 i)) ++
        leBytes 8 ((if t.q then 1 else 0) + (if t.inp then 2 else 0) + (if t.run then 4 else 0)))).flatten
  else (l.map (fun i => leBytes 8 (toPattern 64 (s.furValue area i)))).flatten

/-- A READMEM carried out and completed. -/
def State.applyRead (s : State) (q : Nat) (d : Desc) : State :=
  let b := s.memBytes (d.le 16 1) (d.le 18 2) (d.le 20 2)
  ((s.put (d.le 24 8) b).tickFree).complete q d { bytes := leBytes 4 b.length }

/-- Every waiting read carried out. -/
def State.applyReads (s : State) : State :=
  s.fur.reads.foldl (fun x c => x.applyRead c.1 c.2) (s.setFur { s.fur with reads := [] })

/-- While Furrow does not run, changes and reads act at once. -/
def State.furIdle (s : State) : State := (s.applyChanges s.fur.changes.length).applyReads

/-! ### Stop, HALT and abort (R277, R296, R297) -/

/-- Unit 8 falls back: UPD gives PROGACT for the previous program, which the inactive bank still holds (R533, R540). -/
def State.fellFurrow (s : State) : State :=
  let keep := match s.fur.active, s.fur.other with
    | some a, some b => decide (a.layout = b.layout)
    | _, _ => false
  let t := s.fellMark 8
  ((t.updPost 0x11 [(16, 1, if keep then 0 else 1)]).1).fellStop 8

/-- Furrow enters HALT: the SAFE values are released once. A program on probation falls back. -/
def State.furHalt (s : State) : State :=
  let t := ((s.wr F.FUR_STATE_STATE 2).setFur { s.fur with scan := none }).furRelease true
  let t := ((t.flag F.FUR_STAT_HALT F.FUR_CTL_IE_HALT).furEvent 3 0 0 0 0 (some sevFault)).furIdle
  if (t.probation 8).isSome then t.fellFurrow else t

/-- A scan aborted with a cause at an address. -/
def State.furAbort (s : State) (sc : Scan) (cause addr : Nat) : State :=
  let remain := match sc.rep with
    | some r => r.n - r.pass
    | none => 0
  let t := s.setFur { s.fur with scan := none, aborted := true, lastOvr := sc.overrun }
  let t := (((t.wr F.FUR_FAULT_CAUSE cause).wr F.FUR_FAULT_REMAIN remain).wr F.FUR_FAULTADDR_ADDR addr).wr F.FUR_FAULTRUN_X sc.x
  let t := (t.flag F.FUR_STAT_FAULT F.FUR_CTL_IE_FAULT).inc F.FUR_ABRTCNT_CNT
  let t := if cause = 8 then
      (((t.wr F.FUR_STAT_PMERR 1).wr F.FUR_PMERR_ADDR addr).record 0x0A 0x40 sevFault addr 0 0).triggerTest (0x42000000 + addr)
    else t
  let t := if cause = 7 ∨ cause = 8 then t.furPoison else t
  let t := (t.furEvent 2 cause (addr % 65536) remain sc.x (some sevFault)).inc F.FUR_FAULTRUN_RUN
  if t.rd F.FUR_CTL_FAULTMAX ≠ 0 ∧ t.rd F.FUR_CTL_FAULTMAX ≤ t.rd F.FUR_FAULTRUN_RUN then t.furHalt else t

/-! ### Activation (R301) -/

/-- The channels of a permit kind that a program names. -/
def Prog.permits (p : Prog) (kind : Nat) : List Nat := (p.outs.filter (fun e => e.kind = kind)).map (fun e => e.idx)

/-- The permits of channels that the old program named and the new one does not return to 1 (R310, R333). -/
def State.freePermits (s : State) (old new : Prog) : State :=
  let t := ((old.permits 1).filter (fun n => !(new.permits 1).contains n && decide (n < s.code.valves))).foldl (fun x n => x.valvePermit n true) s
  ((old.permits 3).filter (fun n => !(new.permits 3).contains n && t.lswCarried n)).foldl (fun x n => x.lswPermit n true) t

/-- The data memory initialised from an image. -/
def Furrow.initialised (f : Furrow) (p : Prog) : Furrow :=
  { f with
    flags := p.inits.foldl (fun m r => if r.1 = 0 then SMap.set (fun _ => false) m r.2.1 (decide (r.2.2 % 2 = 1)) else m) []
    words := p.inits.foldl (fun m r => if r.1 = 1 then SMap.set (fun _ => 0) m r.2.1 r.2.2 else m) []
    timers := [], counters := [], edges := [], bad := [], timerFresh := true }

/-- Furrow with the banks switched to program `p`. -/
def Furrow.switched (f : Furrow) (p : Prog) (mode : Nat) : Furrow :=
  let g : Furrow := { f with active := some p, other := f.active, badCode := [], first := true, subst := [] }
  if mode = 1 then g.initialised p else g

/-- The registers that show the active program `p`; a HALT ends. -/
def State.progRegs (s : State) (p : Prog) (loaded : Bool) : State :=
  let t := (s.wr F.FUR_STATE_BANK (1 - s.rd F.FUR_STATE_BANK)).wrB F.FUR_STATE_LOADED loaded
  let t := (t.setReg Reg.FUR_PROGID (BitVec.ofNat 32 p.id)).setReg Reg.FUR_PROGVER (BitVec.ofNat 32 p.ver)
  let t := (t.wr F.FUR_MAPCNT_OUT p.outs.length).wr F.FUR_MAPCNT_IN p.ins.length
  if t.furState = 2 then (t.wr F.FUR_STATE_STATE (if t.on F.FUR_RUN_EN then 1 else 0)).wr F.FUR_FAULTRUN_RUN 0 else t

/-- The banks switch: the loaded program becomes active and the old one stays in the inactive bank. -/
def State.furSwitch (s : State) (d : Desc) : State :=
  match s.fur.other with
  | none => (s.furTold d 2).complete 30 d { status := 2 }
  | some p =>
    let t : State := (s.furTold d 0).setFur (s.fur.switched p (d.le 16 1))
    let t : State := match s.fur.active with
      | some old => t.freePermits old p
      | none => t
    ((t.progRegs p s.fur.active.isSome).furEvent 6 0 0 0 0 none).complete 30 d {}

/-- A PROGACT that waits takes effect. -/
def State.furActivate (s : State) : State :=
  match s.fur.act with
  | some d => (s.setFur { s.fur with act := none }).furSwitch d
  | none => s

/-! ### The command areas (R286) -/

/-- One line of the area in force read; a poisoned or torn line leaves the accepted values. -/
def State.cmdLine (s : State) (a base l : Nat) : State :=
  let at0 := base + 64 * l
  let seq := s.mem.readLe at0 4
  if s.mem.poisoned at0 64 then s.furPoison
  else if s.mem.readLe (at0 + 60) 4 ≠ seq then s.inc F.FUR_CMDSRC_TORN
  else if seq = 0 ∨ seq = SMap.get (fun _ => 0) s.fur.seqs (16 * a + l) then s
  else s.setFur { s.fur with seqs := SMap.set (fun _ => 0) s.fur.seqs (16 * a + l) seq
                             cmd := SMap.set (fun _ => []) s.fur.cmd l (s.mem.readBytes at0 64) }

/-- The carrying Dale's area read whole; the second component says that this is the first latch on the other area. -/
def State.cmdLatch (s : State) : State × Bool :=
  match s.spArea with
  | none => (s, false)
  | some a =>
    let hand := match s.fur.area with
      | some b => decide (a ≠ b)
      | none => false
    let t := (s.setFur { s.fur with area := some a }).wr F.FUR_CMDSRC_DALE a
    let t := if hand then t.inc F.FUR_CMDSRC_SWITCHES else t
    let en := if a = 0 then t.on F.FUR_CMDBASEA_EN else t.on F.FUR_CMDBASEB_EN
    let base := bedStoreBase + 1024 * (if a = 0 then t.rd F.FUR_CMDBASEA_OFF else t.rd F.FUR_CMDBASEB_OFF)
    (if en then (List.range 16).foldl (fun x l => x.cmdLine a base l) t else t, hand)

/-- Whether the command areas in force stand lost to a parity fault. -/
def State.cmdGone (s : State) : Bool := s.fur.cmdLost.contains (s.fur.area.getD 0)

/-! ### Latch (R281, R282, R285) -/

/-- What a source gives at a latch: its value, none for a substitution, and whether poison was the cause. -/
abbrev SourceVal := Option Frac × Bool

/-- A source that gives nothing. -/
def noSource : SourceVal := (none, false)

/-- A whole number from a source. -/
def sourceNat (n : Nat) : SourceVal := (some (Frac.ofInt n), false)

/-- Whether a stamp exceeds MAXAGE at `tb`. -/
def MapEntry.aged (e : MapEntry) (tb stamp : Nat) : Bool := decide (e.maxage ≠ 0) && decide (stamp + e.maxage * 1000000 < tb)

/-- A raw frame field, sign-extended under SIGNED. -/
def MapEntry.raw (e : MapEntry) (b : Bytes) : Frac :=
  let v := fieldOf b e.big e.off e.width
  Frac.ofInt (if e.signed then toSigned e.width v else v)

/-- KIND 1: a stream's newest sample. -/
def State.srcStream (s : State) (e : MapEntry) (tb : Nat) : SourceVal :=
  match s.newestSample e.idx tb with
  | some r => if r.poison then (none, true) else if e.aged tb r.stamp then noSource else (some r.v, false)
  | none => noSource

/-- KIND 4: a Trellis loop. -/
def State.srcLoop (s : State) (e : MapEntry) (tb : Nat) : SourceVal :=
  let n := e.idx
  match (s.loop n).last with
  | none => noSource
  | some ts =>
    if s.loopOn n = false ∨ e.aged tb ts then noSource
    else if e.off = 0 then sourceNat (s.loopState n)
    else if e.off < 32 then sourceNat (if bitAt (s.rd (F.TRL_Ln_STAT_FLAGS n)) (e.off - 16) then 1 else 0)
    else if e.off = 32 then (some (s.loop n).ulast, false)
    else (some (s.loop n).y, false)

/-- KIND 5: the zone line. -/
def State.srcZone (s : State) (e : MapEntry) (tb : Nat) : SourceVal :=
  let a := bedStoreBase + 64 * s.rd F.PRA_ZONEBASE_OFF
  if s.canopyOn = false ∨ s.on F.PRA_ZONEBASE_EN = false then noSource
  else if s.mem.poisoned a 64 then (none, true)
  else if s.mem.readLe (a + 63) 1 ≠ 0x80 ∨ e.aged tb (s.mem.readLe (a + 4) 8) = true then noSource
  else sourceNat (s.mem.readLe (a + e.off) (e.width / 8))

/-- KIND 6: the values of the last accepted line. -/
def State.srcCmd (s : State) (e : MapEntry) : SourceVal :=
  let b := SMap.get (fun _ => []) s.fur.cmd e.idx
  if s.cmdGone ∨ b = [] then noSource
  else if e.off < 64 then sourceNat (bitsOf (leAt b 8 8) e.off e.off)
  else (some (Frac.ofInt (toSigned 36 (bitsOf (leAt b 16 36) (36 * (e.off - 64) + 35) (36 * (e.off - 64))))), false)

/-- KIND 7: a CAN receive buffer; the stamp counts µs modulo 2^32. -/
def State.srcCan (s : State) (e : MapEntry) (tb : Nat) : SourceVal :=
  let c := e.idx / 4096
  let b := e.idx % 4096
  let a := bedStoreBase + s.rd (F.CAN_CHc_RXBUF_OFF c) * 128 + 128 * b
  if s.code.cans ≤ c ∨ s.on (F.CAN_CHc_CTL_EN c) = false ∨ s.rd (F.CAN_CHc_RXBUF_NBUF c) ≤ b ∨
      SMap.get (fun _ => 0) (s.ctl c).rxSeq b = 0 then noSource
  else if s.mem.poisoned a 128 then (none, true)
  else
    let age := (tb / 1000 + 2 ^ 32 - s.mem.readLe (a + 16) 4) % 2 ^ 32
    if e.maxage ≠ 0 ∧ e.maxage * 1000 < age then noSource else (some (e.raw (s.mem.readBytes (a + 64) 64)), false)

/-- Whether slot `k` of a remote I/O stream holds a frame stamped at or before `tb`. -/
def State.rioHeld (s : State) (n k tb : Nat) : Bool :=
  decide (s.mem.readLe (rioSlot n k + 63) 1 = 0x80) && decide (s.mem.readLe (rioSlot n k + 8) 8 ≤ tb)

/-- KIND 8: the newest frame of a remote I/O stream. -/
def State.srcRio (s : State) (e : MapEntry) (tb : Nat) : SourceVal :=
  let n := e.idx
  if s.canopyOn = false ∨ s.on F.ETH_RIOCTL_EN = false ∨ s.on (F.ETH_RIOs_CFG_EN n) = false ∨ s.on (F.ETH_RIOs_CFG_DIR n) = true ∨
      SMap.get (fun _ => 0) s.eth.seq n = 0 then noSource
  else
    let q (k : Nat) : Nat := s.mem.readLe (rioSlot n k) 4
    let bad (k : Nat) : Bool := s.mem.poisoned (rioSlot n k) 64
    let pick : Option Nat :=
      match s.rioHeld n 0 tb, s.rioHeld n 1 tb with
      | true, true => some (if (q 1 + 2 ^ 32 - q 0) % 2 ^ 32 < 2 ^ 31 then 1 else 0)
      | true, false => some 0
      | false, true => some 1
      | false, false => none
    match pick with
    | none => if bad 0 || bad 1 then (none, true) else noSource
    | some k =>
      let len := s.mem.readLe (rioSlot n k + 4) 2
      if bad k || s.mem.poisoned (rioSlot n k + 64 + e.off / 8) ((e.off + e.width - 1) / 8 - e.off / 8 + 1) then (none, true)
      else if e.aged tb (s.mem.readLe (rioSlot n k + 8) 8) ∨ 8 * len < e.off + e.width then noSource
      else (some (e.raw (s.mem.readBytes (rioSlot n k + 64) len)), false)

/-- KIND 9: a module state bit. -/
def State.srcSys (s : State) (e : MapEntry) (hand : Bool) : SourceVal :=
  sourceNat (match e.off with
    | 0 => if s.fur.first then 1 else 0
    | 1 => if s.canopyOn then 1 else 0
    | 2 => s.fur.area.getD 0
    | 3 => if hand then 1 else 0
    | 4 => if s.fur.lastOvr then 1 else 0
    | 5 => if s.fur.aborted then 1 else 0
    | _ => if s.rootBit F.RTD_WAKELVL_IGN then 1 else 0)

/-- The source of an input entry. -/
def State.source (s : State) (e : MapEntry) (tb : Nat) (hand : Bool) : SourceVal :=
  match e.kind with
  | 1 => s.srcStream e tb
  | 2 =>
    if s.code.valves ≤ e.idx ∨ s.on (F.VLV_CHn_CTL_EN e.idx) = false then noSource
    else sourceNat (bitsOf (s.reg (Reg.VLV_CHn_STAT e.idx)).toNat e.off e.off)
  | 3 =>
    if s.lswCarried e.idx = false ∨ s.on (F.LSW_CHn_CTL_EN e.idx) = false then noSource
    else sourceNat (bitsOf (s.reg (Reg.LSW_CHn_STAT e.idx)).toNat e.off e.off)
  | 4 => s.srcLoop e tb
  | 5 => s.srcZone e tb
  | 6 => s.srcCmd e
  | 7 => s.srcCan e tb
  | 8 => s.srcRio e tb
  | 9 => s.srcSys e hand
  | _ => noSource

/-- One input entry latched; entry `i` goes into substitution with an event where it was not. -/
def State.latchEntry (s : State) (e : MapEntry) (i : Nat) (v : SourceVal) : State :=
  let s := if v.2 then s.furPoison else s
  match v.1 with
  | some x =>
    let n := sat36 (x.scaled e.scale)
    let t := if e.isWord then s.setWord e.cell n else s.setFlag e.cell (decide (1 ≤ n) != e.invert)
    t.setFur { t.fur with subst := t.fur.subst.filter (fun k => k ≠ i) }
  | none =>
    let t := if e.isWord then s.setWord e.cell e.subst else s.setFlag e.cell (decide (e.subst % 2 = 1))
    if t.fur.subst.contains i then t
    else (((t.setFur { t.fur with subst := insertNat i t.fur.subst }).flag F.FUR_STAT_SUBST F.FUR_CTL_IE_SUBST).furEvent 4 0 i 0 0 none)

/-- Every input entry latched; every source is read as it stands at the boundary. -/
def State.latchAll (s : State) (p : Prog) (hand : Bool) : State :=
  let t := p.ins.zipIdx.foldl (fun x e => x.latchEntry e.1 e.2 (s.source e.1 s.now hand)) s
  (List.range 32).foldl (fun x n =>
    x.wr (F.FUR_SUBSTMAPn_MAP n) ((t.fur.subst.filter (fun i => decide (i / 32 = n))).foldl (fun m i => m + 2 ^ (i % 32)) 0)) t

/-! ### The status area (R287) -/

/-- The header of the status area. -/
def State.statHeader (s : State) (sc : Scan) (ver valid : Nat) : Bytes :=
  let fl := (if sc.overrun then 1 else 0) + (if sc.subst then 2 else 0) + (if sc.sat then 4 else 0) + (if sc.first then 8 else 0) +
    (if sc.handover then 16 else 0) + (if sc.changed then 32 else 0)
  leBytes 4 sc.seq ++ leBytes 4 fl ++ leBytes 8 sc.tlatch ++ leBytes 8 s.now ++ leBytes 4 ver ++ List.replicate 35 0 ++ leBytes 1 valid

/-- Tray `t` of words: 14 words under exponent 35. -/
def State.statTray (s : State) (t : Nat) : Bytes :=
  leBytes 64 ((List.range 14).foldl (fun w k =>
    if 14 * t + k < furWords then w + toPattern 36 (s.furValue 1 (14 * t + k)) * 2 ^ (36 * k) else w) (35 * 2 ^ 504))

/-- The status area written after a completed scan. -/
def State.statArea (s : State) (sc : Scan) : State :=
  if s.on F.FUR_STATBASE_EN = false then s
  else
    let a := bedStoreBase + 16384 * s.rd F.FUR_STATBASE_OFF
    let ver := (s.fur.active.map (fun p => p.ver)).getD 0
    let body := packBits ((List.range furFlags).map (fun i => decide (s.furValue 0 i ≠ 0))) ++ ((List.range 147).map (fun t => s.statTray t)).flatten
    (((s.put a (s.statHeader sc ver 0)).put (a + 64) body).put a (s.statHeader sc ver 0x80)).tickFree

/-! ### Cycle boundaries (R273-R277) -/

/-- The cycle in ns. -/
def State.furCycle (s : State) : Nat := s.rd F.FUR_RUN_CYCLE * 1000

/-- Whether the present instant is a boundary that has not been processed. -/
def State.furDue (s : State) : Bool :=
  decide (s.now % s.furCycle = s.rd F.FUR_OFFSET_OFFSET * 1000) && decide (s.fur.boundary ≠ some s.now)

/-- A scan starts: latch, changes, and the cleared accumulators. -/
def State.scanStart (s : State) : State :=
  match s.fur.active with
  | none => s
  | some p =>
    let c := s.cmdLatch
    let t := c.1.latchAll p c.2
    let t := t.applyChanges 64
    let f := if t.fur.timerFresh then { t.fur with timerFresh := false, timer0 := t.now } else t.fur
    let seq := (t.rd F.FUR_SCANSEQ_SEQ + 1) % 2 ^ 32
    let sc : Scan := { seq := seq, tlatch := t.now, started := t.now, subst := !f.subst.isEmpty, first := f.first, handover := c.2, changed := f.changed }
    (t.setFur { f with scan := some sc, first := false, changed := false }).wr F.FUR_SCANSEQ_SEQ seq

/-- The first boundary a scan overruns (R275). -/
def State.furOverrun (s : State) (sc : Scan) : State :=
  let t := s.setFur { s.fur with scan := some { sc with overrun := true } }
  let t := ((t.flag F.FUR_STAT_OVERRUN F.FUR_CTL_IE_OVR).wideAdd Reg.FUR_OVRCNT_LO 1).inc (F.FUR_HISTn_CNT 15)
  t.furEvent 1 0 0 0 0 none

/-- Furrow enters STOPPED. -/
def State.furStopped (s : State) : State :=
  (((s.wr F.FUR_STATE_STATE 0).setFur { s.fur with scan := none }).furIdle).furActivate

/-- What follows at a boundary once no scan runs: the release of the scan that ended, activation, and the next scan. -/
def State.furTurn (s : State) : State :=
  let stop := decide (s.furState = 1) && !s.on F.FUR_RUN_EN
  let t := if stop then (s.furRelease true).applyReads
    else
      match s.fur.scan with
      | some sc => if s.furState = 1 then ((s.furRelease false).publishWords sc).applyReads else s
      | none => s
  let t := t.setFur { t.fur with scan := none }
  if stop then t.furStopped
  else
    let t := t.furActivate
    if t.furState = 1 then t.scanStart else t

/-- CYCLE_BOUNDARY; a switch of the carrying role due at this instant comes first (R577). -/
def execCycleBoundary (s : State) : Host.Outcome State Fault Refusal :=
  .next (
    if s.bedOn = false ∨ s.furDue = false ∨ (s.furState ≠ 1 ∧ s.fur.act = none) ∨ s.switchDue.isSome = true then s
    else
      let s := s.setFur { s.fur with boundary := some s.now }
      match s.fur.scan with
      | some sc =>
        if sc.ended.isSome then s.furTurn
        else if sc.overrun then (s.furAbort sc 9 sc.pc).furTurn
        else s.furOverrun sc
      | none => s.furTurn)

/-! ### Enabling and stopping (R277, R308) -/

/-- The enabled areas: first byte and length. -/
def State.furAreas (s : State) : List (Nat × Nat) :=
  (if s.on F.FUR_CMDBASEA_EN then [(1024 * s.rd F.FUR_CMDBASEA_OFF, 1024)] else []) ++
  (if s.on F.FUR_CMDBASEB_EN then [(1024 * s.rd F.FUR_CMDBASEB_OFF, 1024)] else []) ++
  (if s.on F.FUR_STATBASE_EN then [(16384 * s.rd F.FUR_STATBASE_OFF, 64 * 164)] else [])

/-- Why an enabling write of FUR_RUN is refused; 0 where it is not. -/
def State.furCause (s : State) (v : W32) : Nat :=
  let cyc := getBits v 17 0
  match s.fur.active with
  | none => 2
  | some p =>
    if cyc < 500 ∨ 200000 < cyc ∨ cyc ≤ s.rd F.FUR_OFFSET_OFFSET then 3
    else if p.cycle ≠ 0 ∧ p.cycle ≠ cyc then 4
    else if s.furAreas.any (fun a => decide (0x2000000 < a.1 + a.2)) ||
        !noPair (fun a b => decide (a.1 < b.1 + b.2) && decide (b.1 < a.1 + a.2)) s.furAreas then 5
    else 0

/-- A write of FUR_RUN. -/
def State.furRunWrite (s : State) (v : W32) : State :=
  let en := s.on F.FUR_RUN_EN
  if en ∧ getBits v 17 0 ≠ s.rd F.FUR_RUN_CYCLE then s.furReject 1
  else if en = false ∧ getBits v 31 31 = 1 then
    let c := s.furCause v
    if c ≠ 0 then s.furReject c
    else
      let t := s.applyWrite Reg.FUR_RUN v
      let t := t.setFur { t.fur with first := true, boundary := some t.now }
      if t.furState = 0 then t.wr F.FUR_STATE_STATE 1 else t
  else
    let t := s.plainWrite Reg.FUR_RUN v
    if getBits v 31 31 = 0 ∧ t.furState = 2 then (t.wr F.FUR_FAULTRUN_RUN 0).furStopped else t

/-- FURROW_ENABLE. -/
def execFurrowEnable (agent : Agent) (value : W32) (s : State) : Host.Outcome State Fault Refusal :=
  .next (s.gate agent 0x0A 0x00C (fun t => t.furRunWrite (setBits value 31 31 1)))

/-- FURROW_DISABLE: the register written back with EN = 0. -/
def execFurrowDisable (agent : Agent) (s : State) : Host.Outcome State Fault Refusal :=
  .next (s.gate agent 0x0A 0x00C (fun t => t.furRunWrite (setBits (t.reg Reg.FUR_RUN) 31 31 0)))

/-! ### Commands (R298-R301, R306) -/

/-- The size of a data memory. -/
def furSize (area : Nat) : Nat :=
  if area = 0 then furFlags else if area = 1 then furWords else if area = 2 then furTimers else if area = 3 then furCounters else furEdges

/-- The status of a SETVAL that is not applied; 0 where it is. -/
def State.setvalStatus (s : State) (d : Desc) : Nat :=
  let area := d.le 16 1
  let i := d.le 18 2
  let v := d.leS 24 8
  let const := (s.fur.active.map (fun p => p.isConst i)).getD false
  if 2 < area then 2
  else if area ≠ 0 ∧ i < furWords ∧ decide (area = 2) ≠ const then 0x40
  else if (if area = 0 then furFlags else furWords) ≤ i ∨ sat36 v ≠ v ∨ (area = 0 ∧ v ≠ 0 ∧ v ≠ 1) then 0x41
  else 0

/-- A command of ring `q` taken with the list of those that wait: one already in it is not taken twice. -/
def nextWaiting (l : List (Nat × Desc)) (ds : List Desc) (q op : Nat) : Option Desc :=
  ds.find? (fun d => d.running && decide (d.op = op) && !l.contains (q, d))

/-- SETVAL. -/
def execSetval (q : Nat) (s : State) : Host.Outcome State Fault Refusal :=
  .next (
    if s.bedOn = false ∨ (q ≠ 24 ∧ q ≠ 26) then s
    else
      match nextWaiting s.fur.changes (s.ring q).taken q 1 with
      | none => s
      | some d =>
        let st := s.setvalStatus d
        if st ≠ 0 then s.complete q d { status := st }
        else
          let t := (s.setFur { s.fur with changes := s.fur.changes ++ [(q, d)] }).chgReg
          if t.furState = 1 then t else t.furIdle)

/-- The status of a READMEM that is not carried out; 0 where it is. -/
def readmemStatus (d : Desc) : Nat :=
  let area := d.le 16 1
  let n := d.le 20 2
  let size := if area = 0 ∨ area = 4 then (n + 7) / 8 else if area = 2 then 16 * n else 8 * n
  if 4 < area ∨ d.le 24 8 % 64 ≠ 0 then 2
  else if inBedRange (d.le 24 8) size = false then 5
  else if furSize area < d.le 18 2 + n then 0x41
  else 0

/-- READMEM. -/
def execReadmem (q : Nat) (s : State) : Host.Outcome State Fault Refusal :=
  .next (
    if s.bedOn = false ∨ (q ≠ 24 ∧ q ≠ 26) then s
    else
      match nextWaiting s.fur.reads (s.ring q).taken q 2 with
      | none => s
      | some d =>
        let st := readmemStatus d
        if st ≠ 0 then s.complete q d { status := st }
        else if s.furState = 1 then s.setFur { s.fur with reads := s.fur.reads ++ [(q, d)] }
        else s.applyRead q d)

/-- What PROGLOAD does with its descriptor: a failing image leaves the inactive bank empty. -/
def State.progload (t : State) (d : Desc) : State × Result :=
  let a := d.le 24 8
  let n := d.le 32 8
  if a % 64 ≠ 0 then (t, { status := 2 })
  else if inBedRange a n = false then (t, { status := 5 })
  else
    let t := (t.setFur { t.fur with other := none }).wr F.FUR_STATE_LOADED 0
    let b := t.mem.readBytes a n
    if t.mem.poisoned a n then (t.furPoison, { status := 0x43 })
    else
      let st := imageStatus b
      if st ≠ 0 then (t, { status := st })
      else
        let p := progOf b
        ((t.setFur { t.fur with other := some p }).wr F.FUR_STATE_LOADED 1, { bytes := leBytes 4 p.id ++ leBytes 4 p.ver })

/-- PROGLOAD. -/
def execProgload (s : State) : Host.Outcome State Fault Refusal :=
  .next (
    if s.bedOn = false then s
    else s.serve 30 0x10 (fun d t => let x := t.progload d; (x.1.furTold d x.2.status, x.2)))

/-- PROGACT: while one waits for its boundary the next is not begun. -/
def execProgact (s : State) : Host.Outcome State Fault Refusal :=
  .next (
    match s.running 30 0x11 with
    | none => s
    | some d =>
      if s.bedOn = false ∨ s.fur.act.isSome then s
      else
        let mode := d.le 16 1
        match s.fur.other with
        | none => (s.furTold d 2).complete 30 d { status := 2 }
        | some p =>
          if 1 < mode then (s.furTold d 2).complete 30 d { status := 2 }
          else if mode = 0 ∧ s.fur.active.map (fun o => o.layout) ≠ some p.layout then (s.furTold d 0x48).complete 30 d { status := 0x48 }
          else
            let t := s.setFur { s.fur with act := some d }
            if t.furState = 1 ∨ (t.furState = 2 ∧ t.on F.FUR_RUN_EN = true) then t else t.furActivate)

/-! ### Register writes and parity (R308) -/

/-- A write to the FUR block. -/
def State.furWrite (s : State) (off : Nat) (v : W32) : State :=
  let key := 0xA000 + off
  if off = 0x00C then s.furRunWrite v
  else if off = 0x010 ∨ off = 0x034 ∨ off = 0x038 ∨ off = 0x03C then
    if s.on F.FUR_RUN_EN then s.furReject 1
    else
      let t := s.plainWrite key v
      if off = 0x034 ∨ off = 0x038 then t.setFur { t.fur with cmdLost := t.fur.cmdLost.filter (fun a => a ≠ (off - 0x034) / 4) } else t
  else s.plainWrite key v

/-- What a parity fault of the register at `off` does beyond returning it to reset. -/
def State.furParity (s : State) (off : Nat) : State :=
  let t := s.wr F.FUR_STAT_PARFLT 1
  if off = 0x00C ∨ off = 0x010 then t.furHalt
  else if off = 0x034 ∨ off = 0x038 then t.setFur { t.fur with cmdLost := insertNat ((off - 0x034) / 4) t.fur.cmdLost }
  else t

end Sys2Proof.Machine
end

