-- ==== Sys2Proof/Machine/Panel.lean ====
section
/-! DEFINITION. The cab panel port (R391-R409): row timing, lanes, composition and frame memory, band checks, the uniformity map, the status
strip, fallback and the power sequence. -/

namespace Sys2Proof.Machine

/-! ### Timing (R391, R392) -/

/-- The frame period in ns. -/
def State.panPeriod (s : State) : Nat := s.pan.linep * s.pan.vtotal

/-- Whether a panel frame starts now. -/
def State.frameNow (s : State) : Bool := decide (s.now % s.panPeriod = s.pan.foff * 1000 % s.panPeriod)

/-- The levels of panel_stv, panel_cpv and panel_oe while a frame is scanned. -/
def State.rowPins (s : State) : Bool × Bool × Bool :=
  let t := (s.now + s.panPeriod - s.pan.foff * 1000 % s.panPeriod) % s.panPeriod
  let line := t / s.pan.linep
  let off := t % s.pan.linep
  (decide (line = 0), decide (line < s.pan.vact) && decide (off < 8 * s.rd F.DSP_ROWTIM_CPVW),
    decide ((line + 1) % s.pan.vtotal < s.pan.vact) && decide (s.pan.linep ≤ off + 8 * s.rd F.DSP_ROWTIM_OEGAP))

/-- panel_pol after the line starts of one frame. -/
def State.polNext (s : State) : Bool :=
  match s.rd F.DSP_ROWTIM_POLMODE with
  | 0 => !s.pan.pol
  | 1 => if s.pan.vtotal % 2 = 1 then !s.pan.pol else s.pan.pol
  | _ => if s.pan.vtotal / 2 % 2 = 1 then !s.pan.pol else s.pan.pol

/-! ### Lanes (R393-R396) -/

/-- One step of the CRC-16 of line and configuration packets. -/
def crc16Bits : Nat → Nat → Nat
  | 0, c => c
  | k + 1, c => crc16Bits k (if c.testBit 15 then ((c * 2) % 65536).xor 0x1021 else c * 2)

/-- CRC-16: polynomial 0x1021, initial value 0xFFFF (R394). -/
def crc16 (b : Bytes) : Nat := b.foldl (fun c x => crc16Bits 8 (c.xor (x.toNat * 256))) 0xFFFF

/-- Pixels of 30 bits as a line packet's bytes: R, G, B of 10 bits each, least significant bit first. -/
def packPixels (px : List Nat) : Bytes :=
  let w := px.zipIdx.foldl (fun a p => a + (p.1 / 2 ^ 20 % 1024 + p.1 / 2 ^ 10 % 1024 * 2 ^ 10 + p.1 % 1024 * 2 ^ 20) * 2 ^ (30 * p.2)) 0
  leBytes ((30 * px.length + 7) / 8) w

/-- The bytes of items 2 and 3 of a line packet. -/
def packetBody (line : Nat) (px : List Nat) : Bytes := leBytes 2 line ++ packPixels px

/-- The symbols of a line packet at HACT active pixels. -/
def packetSymbols (hact : Nat) : Nat := 1 + 2 + (hact / 8 * 30 + 7) / 8 + 2 + 1

/-- DSP_LNn_STAT and the lanes' state agree. -/
def State.laneRegs (s : State) : State :=
  if s.canopyOn then
    (List.range 8).foldl (fun x n => (x.wrB (F.DSP_LNn_STAT_LOCK n) (bitAt s.pan.locks n)).wr (F.DSP_LNn_STAT_STATE n) s.pan.lanes) s
  else s

/-- The lanes enter a state with these lock levels. -/
def State.laneSet (s : State) (st locks : Nat) : State := ({ s with pan := { s.pan with lanes := st, locks := locks } }).laneRegs

/-- Training starts for the first time. -/
def State.laneTrain (s : State) : State :=
  ({ s with pan := { s.pan with trainAt := s.now, trainFirst := s.now } }).laneSet 1 0

/-- A scanned frame's last line packets: `px` gives the pixel of a column of the line. -/
def State.lastPackets (s : State) (line : Nat) (px : Nat → Nat) : State :=
  if s.pan.lanes = 2 ∧ s.canopyOn = true then
    let w := s.pan.hact / 8
    (List.range 8).foldl (fun x n =>
      (x.wr (F.DSP_LNn_LAST_LINE n) line).wr (F.DSP_LNn_LAST_CRC n) (crc16 (packetBody line ((List.range w).map (fun c => px (n * w + c)))))) s
  else s

/-- A black frame sent. -/
def State.blackFrame (s : State) : State := s.lastPackets (s.pan.vact - 1) (fun _ => 0)

/-- The gamma words are sent in vertical blanking. -/
def State.sendGamma (s : State) : State :=
  if s.pan.lanes = 2 ∧ s.canopyOn = true then
    { s with pan := { s.pan with gamma := (List.range 8).map (fun n => s.reg (Reg.DSP_GAMMAn n)) } }
  else s

/-! ### Engine events and refusals (R407, R408) -/

/-- The result bytes of an engine event. -/
def State.dspResult (s : State) (unit : Nat) : Bytes :=
  resultOf [(24, 1, unit), (28, 8, s.now), (36, 4, (s.reg Reg.DSP_FSEQ).toNat)]

/-- An engine event on ring 109; `rec` says whether it is recorded. -/
def State.dspEvent (s : State) (tag unit : Nat) (recorded : Bool) : State :=
  let r := s.dspResult unit
  let t := if s.canopyOn then (s.eventEntry 109 0x80 tag 0 r true).1 else s
  if recorded then t.record 0x19 tag sevFault unit (leAt r 12 4) 0 else t

/-- A poison event of the port. -/
def State.dspPoison (s : State) : State :=
  if s.canopyOn then (s.inc F.DSP_POISCNT_CNT).flag F.DSP_STAT_POISON F.DSP_CTL_IE_POIS else s

/-- A write refused: 1 ENABLED, 2 RANGE, 3 LANERATE, 4 PLACE. -/
def State.dspReject (s : State) (cause : Nat) : State := (s.wr F.DSP_BADCFG_CAUSE cause).flag F.DSP_STAT_CFGREJ F.DSP_CTL_IE_CFG

/-! ### The uniformity map (R400) -/

/-- No valid map is held. -/
def State.mapDrop (s : State) (st cause : Nat) : State :=
  (((s.wr F.DSP_MAPSTAT_STATE st).wr F.DSP_MAPSTAT_CAUSE cause).wr F.DSP_STAT_NOUNIF 1).setReg Reg.DSP_PANELID 0

/-- The map is bad: 1 FORMAT, 2 SIZE, 3 CRC. -/
def State.mapBad (s : State) (cause : Nat) : State := (s.mapDrop 3 cause).dspEvent 4 0 false

/-- The MAPLOAD that waits for the read completes. -/
def State.mapDone (s : State) (status : Nat) : State :=
  match s.pan.mapDesc with
  | some d =>
    ({ s with pan := { s.pan with mapDesc := none } }).complete 108 d
      { status := status, bytes := resultOf [(24, 4, (s.reg Reg.DSP_MAPSTAT).toNat)] }
  | none => s

/-- panel_vdd goes off: a read under way is abandoned. -/
def State.mapAbandon (s : State) : State :=
  let t := { s with pan := { s.pan with mapAt := none, mapAgain := false } }
  (if s.pan.mapAt.isSome ∧ s.canopyOn = true then t.mapDrop 0 0 else t).mapDone 0x40

/-- The read ends: the header and the map are checked, and a good map is copied. -/
def State.mapEnd (s : State) (e : Bytes) : State :=
  let w := leAt e 4 2
  let h := leAt e 6 2
  let body := fitBytes (w * h) (e.drop 64)
  let t := { s with pan := { s.pan with mapAt := none } }
  let t :=
    if leAt e 0 4 ≠ 0x31464E55 then t.mapBad 1
    else if w ≠ s.rd F.DSP_ACTIVE_HACT ∨ h ≠ s.rd F.DSP_ACTIVE_VACT then t.mapBad 2
    else if crc32 body ≠ leAt e 12 4 then t.mapBad 3
    else
      ((((t.put (s.rd F.DSP_MAPBASE_BASE * 4096) body).wr F.DSP_MAPSTAT_STATE 2).wr F.DSP_MAPSTAT_CAUSE 0).wr F.DSP_STAT_NOUNIF 0).setReg
        Reg.DSP_PANELID (BitVec.ofNat 32 (leAt e 8 4))
  t.mapDone 0

/-- The bytes a read takes: the header alone where it does not fit this panel. -/
def State.mapLen (s : State) (e : Bytes) : Nat :=
  if leAt e 0 4 = 0x31464E55 ∧ leAt e 4 2 = s.rd F.DSP_ACTIVE_HACT ∧ leAt e 6 2 = s.rd F.DSP_ACTIVE_VACT then 64 + leAt e 4 2 * leAt e 6 2 else 64

/-- UNIFORMITY_MAP_READ: the read starts when its condition holds, and ends when its bytes have passed at 20 MHz. -/
def execUniformityMapRead (eeprom : Bytes) (s : State) : Host.Outcome State Fault Refusal :=
  .next (
    if s.canopyOn = false ∨ s.pan.vdd = false then s
    else
      match s.pan.mapAt with
      | some t0 => if t0 + 400 * s.mapLen eeprom ≤ s.now then s.mapEnd eeprom else s
      | none =>
        if s.pan.vddAt + 10000000 ≤ s.now ∧ (s.rd F.DSP_MAPSTAT_STATE = 0 ∨ s.pan.mapAgain = true) then
          ({ s with pan := { s.pan with mapAt := some s.now, mapAgain := false } }).mapDrop 1 0
        else s)

/-- MAPLOAD: the read is repeated; the descriptor completes when it ends. -/
def execMapload (s : State) : Host.Outcome State Fault Refusal :=
  .next (
    match s.running 108 1 with
    | some d =>
      if s.pan.mapDesc = some d then s
      else if s.pan.vdd = false then
        s.complete 108 d { status := 0x40, bytes := resultOf [(24, 4, (s.reg Reg.DSP_MAPSTAT).toNat)] }
      else
        { s with pan := { s.pan with mapDesc := some d, mapAgain := s.pan.mapAt.isNone } }
    | none => s)

/-! ### Composition (R397, R398, R400, R406) -/

/-- The words of layer `k` in force: CTL, BASE, STRIDE, POS, SIZE at 0 to 4. -/
def Comp.word (c : Comp) (k i : Nat) : W32 := c.regs.getD (5 * k + i) 0

/-- Where layer `k` lies: left, top, width and height. -/
def Comp.box (c : Comp) (k : Nat) : Nat × Nat × Nat × Nat :=
  (getBits (c.word k 3) 11 0, getBits (c.word k 3) 27 16, getBits (c.word k 4) 11 0, getBits (c.word k 4) 27 16)

/-- Whether layer `k` is shown. -/
def Comp.shown (c : Comp) (k : Nat) : Bool := decide (getBits (c.word k 0) 31 31 = 1) && (decide (k ≠ 0) || c.slot.isSome)

/-- The address of pixel (x, y) of layer `k`'s own picture, and whether the picture holds it. -/
def Comp.pixAddr (c : Comp) (k x y : Nat) : Nat × Bool :=
  if k = 0 then
    match c.slot with
    | some (_, a, stride, w, h) => (a + 64 + y * stride + 4 * x, decide (x < w) && decide (y < h))
    | none => (0, false)
  else (getBits (c.word k 1) 27 0 * 4096 + y * getBits (c.word k 2) 15 0 + 4 * x, true)

/-- Whether row `r` of the panel crosses layer `k`, shown. -/
def Comp.crosses (c : Comp) (k r : Nat) : Bool :=
  let b := c.box k
  c.shown k && decide (b.2.1 ≤ r) && decide (r < b.2.1 + b.2.2.2)

/-- Whether the part of layer `k` that row `r` reads is poisoned. -/
def State.layerPoisoned (s : State) (c : Comp) (k r : Nat) : Bool :=
  let b := c.box k
  let w := min b.2.2.1 (s.pan.hact - b.1)
  c.crosses k r && decide (0 < w) && s.mem.poisoned (c.pixAddr k 0 (r - b.2.1)).1 (4 * w)

/-- The pixel of layer `k` at row `r` and column `col`, with its alpha in thirds; none where the layer does not reach. A pixel beyond
the camera's picture is free. -/
def State.layerPixel (s : State) (c : Comp) (k r col seed : Nat) : Option (Nat × Nat) :=
  let b := c.box k
  if c.crosses k r = false ∨ col < b.1 ∨ b.1 + b.2.2.1 ≤ col then none
  else
    let p := c.pixAddr k (col - b.1) (r - b.2.1)
    if p.2 = false then some (Config.freeNat seed % 2 ^ 30, 3)
    else
      let v := s.mem.readLe p.1 4
      some (v % 2 ^ 30, if k = 0 then 3 else v / 2 ^ 30)

/-- One subpixel over another with alpha in thirds; where the blend is no whole number its rounding is free. -/
def blend (a top bot seed : Nat) : Nat :=
  let n := a * top + (3 - a) * bot
  if n % 3 = 0 then n / 3 else Config.freeNat seed % 1024

/-- Pixel over pixel: the three subpixels blended. -/
def blendOver (a top bot seed : Nat) : Nat :=
  (List.range 3).foldl (fun v ch => v + blend a (top / 2 ^ (10 * ch) % 1024) (bot / 2 ^ (10 * ch) % 1024) (seed + ch) * 2 ^ (10 * ch)) 0

/-- The composed pixel at row `r` and column `col`; `hide` lists the layers transparent on this row. -/
def State.composed (s : State) (c : Comp) (hide : List Nat) (r col : Nat) : Nat :=
  let seed := s.free + 10 * (r * s.pan.hact + col)
  (List.range 3).foldl (fun v k =>
    if hide.contains k then v
    else
      match s.layerPixel c k r col seed with
      | some p => blendOver p.2 p.1 v (seed + 1 + 3 * k)
      | none => v) (getBits (c.regs.getD 15 0) 29 0)

/-- A subpixel corrected by the map's byte `g`. -/
def unifSub (g : Int) (v : Nat) : Nat := min 1023 (rhe ((v : Int) * (512 + g)) 512).toNat

/-- A pixel corrected. -/
def unifPixel (g : Int) (v : Nat) : Nat :=
  (List.range 3).foldl (fun x ch => x + unifSub g (v / 2 ^ (10 * ch) % 1024) * 2 ^ (10 * ch)) 0

/-- Row `r` of the composed frame as its pixel words' bytes. -/
def State.composedRow (s : State) (c : Comp) (unif : Bool) (r : Nat) : Bytes :=
  let hide := (List.range 3).filter (fun k => s.layerPoisoned c k r)
  ((List.range s.pan.hact).map (fun col =>
    let v := s.composed c hide r col
    leBytes 4 (if unif then unifPixel (toSigned 8 (s.mem.read (s.rd F.DSP_MAPBASE_BASE * 4096 + r * s.pan.hact + col)).toNat) v else v))).flatten

/-- The address of frame buffer `b`. -/
def State.fbAddr (s : State) (b : Nat) : Nat := s.rd F.DSP_FBBASE_BASE * 4096 + b * 0x1000000

/-- The first row and the number of rows of band `b`. -/
def State.band (s : State) (b : Nat) : Nat × Nat :=
  let bh := ceilDiv s.pan.vact 32
  (b * bh, min ((b + 1) * bh) s.pan.vact - b * bh)

/-- The address and the bytes of band `b` in buffer `f`. -/
def State.bandSpan (s : State) (f b : Nat) : Nat × Nat := (s.fbAddr f + (s.band b).1 * s.pan.hact * 4, (s.band b).2 * s.pan.hact * 4)

/-- Band `b` of the frame written into buffer `f`, and its CRC recorded; `src` is the state the layers are read in. -/
def State.writeBand (s src : State) (c : Comp) (unif : Bool) (f b : Nat) : State :=
  let rows := ((List.range (s.band b).2).map (fun i => src.composedRow c unif ((s.band b).1 + i))).flatten
  let t := s.put (s.bandSpan f b).1 rows
  { t with pan := { t.pan with crcs := SMap.set (fun _ => 0) t.pan.crcs (f * 32 + b) (crc32 rows) } }

/-- The poisoned layer lines of a composition counted. -/
def State.countLayerPoison (s : State) (c : Comp) : State :=
  (List.range 3).foldl (fun x k =>
    (List.range s.pan.vact).foldl (fun y r => if s.layerPoisoned c k r then (y.inc (F.DSP_Lk_POISLN_CNT k)).dspPoison else y) x) s

/-- The map is given up where a line of it is poisoned. -/
def State.mapPoison (s : State) : State :=
  if s.rd F.DSP_MAPSTAT_STATE = 2 ∧ s.mem.poisoned (s.rd F.DSP_MAPBASE_BASE * 4096) (s.pan.hact * s.pan.vact) = true then (s.mapBad 3).dspPoison
  else s

/-- The buffer that is not scanned. -/
def State.backBuffer (s : State) : Nat := match s.pan.front with | some b => 1 - b | none => 0

/-- Layer 0's slot is let go. -/
def State.dropLayer (s : State) (c : Comp) : State := match c.slot with | some (k, _) => s.dropSlot k | none => s

/-- FRAME_COMPOSE: the composition under way completes. -/
def execFrameCompose (s : State) : Host.Outcome State Fault Refusal :=
  .next (
    match s.pan.comp with
    | none => s
    | some c =>
      if s.engineUp 4 = false ∨ s.on F.DSP_CTL_EN = false then s
      else
        let t := (s.countLayerPoison c).mapPoison
        let unif := decide (t.rd F.DSP_MAPSTAT_STATE = 2)
        let u : State := (List.range 32).foldl (fun x b => if 0 < (s.band b).2 then x.writeBand t c unif s.backBuffer b else x) t
        let u := { u with free := u.free + 10 * s.pan.hact * s.pan.vact, pan := { u.pan with comp := none, built := true } }
        (u.dropLayer c).measured F.DSP_COMPTIME_LAST F.DSP_COMPTIME_PEAK ((s.now - c.start) / 10000))

/-- The layer registers take effect and a composition starts. -/
def State.startComp (s : State) : State :=
  let regs := (List.range 15).map (fun i => s.reg (Reg.DSP_Lk_CTL 0 + 0x20 * (i / 5) + 4 * (i % 5))) ++ [s.reg Reg.DSP_BG]
  let n := s.rd (F.DSP_Lk_CTL_LINK 0)
  let t := (List.range 2).foldl (fun x i => x.wr (F.DSP_Lk_USED_VAL (i + 1)) (s.rd (F.DSP_Lk_BASE_BASE (i + 1)))) s
  match (if s.on (F.DSP_Lk_CTL_EN 0) ∧ n < s.code.cameras then s.newestSlot n 0 0 else none) with
  | some k =>
    let i := s.slotInfo (slotKey n 0 k)
    let z := s.outSize n 0
    let c : Comp := { start := s.now, regs := regs, slot := some (slotKey n 0 k, s.slotAddr n 0 k, s.outStride n 0, z.1, z.2) }
    let t := (t.wr (F.DSP_Lk_USED_VAL 0) i.fseq).measured (F.DSP_Lk_AGE_LAST 0) (F.DSP_Lk_AGE_PEAK 0) ((s.now - i.tfs) / 1000000)
    { t.holdSlot (slotKey n 0 k) with pan := { t.pan with comp := some c } }
  | none => { t with pan := { t.pan with comp := some { start := s.now, regs := regs } } }

/-- The engine stops delivering: what it composes and holds is given up. -/
def State.engineOff (s : State) : State :=
  let t := match s.pan.comp with | some c => s.dropLayer c | none => s
  { t with pan := { t.pan with front := none, built := false, comp := none } }

/-! ### The status strip (R401) -/

/-- The strip image's bytes: header and palette indexes. -/
def stripBytes : Nat := 1280 * 120

/-- The address of the strip image. -/
def State.stripAddr (s : State) : Nat := bedStoreBase + s.rd F.DSP_SBASE_OFF * 4096

/-- An image discarded. -/
def State.imgReject (s : State) (poison : Bool) : State :=
  (if poison then s.dspPoison else s).flag F.DSP_SSTAT_IMGREJ F.DSP_SCTL_IE_IMG

/-- The strip unit checks the header and takes a new image. -/
def State.stripCheck (s : State) (torn : Bool) : State :=
  let a := s.stripAddr
  if s.memOk a (64 + stripBytes) = false then s
  else if s.mem.poisoned a 64 then s.imgReject true
  else
    let seq := s.mem.readLe a 4
    if seq = s.rd F.DSP_SSEQ_SEQ ∨ s.mem.readLe (a + 60) 4 ≠ seq then s
    else
      let img := s.mem.readBytes (a + 64) stripBytes
      if s.mem.poisoned (a + 64) stripBytes then s.imgReject true
      else if torn ∨ img.any (fun b => bitAt b.toNat 3 || bitAt b.toNat 7) = true then s.imgReject false
      else ({ s with pan := { s.pan with strip := img } }).wr F.DSP_SSEQ_SEQ seq

/-- The strip's pixel at image row `r` and column `c`. -/
def State.stripPixel (s : State) (r c : Nat) : Nat :=
  let b := (s.pan.strip.getD (1280 * r + c / 2) 0).toNat
  s.rd (F.DSP_SPALk_RGB ((if c % 2 = 0 then b else b / 16) % 8))

/-- STRIP_REFRESH: at each whole second a new image is taken and, in STRIP mode, one frame is scanned. -/
def execStripRefresh (torn : Bool) (s : State) : Host.Outcome State Fault Refusal :=
  .next (
    if s.bedOn = false ∨ s.rd F.DSP_PWRSTAT_MODE ≠ 2 ∨ s.now % 1000000000 ≠ 0 ∨ s.pan.lastStrip = some s.now then s
    else
      let t := ({ s with pan := { s.pan with lastStrip := some s.now } }).stripCheck torn
      t.lastPackets (t.pan.vact - 1) (fun c => t.stripPixel 119 c))

/-! ### The power sequence (R403, R404) -/

/-- Step codes: U1 to U7 are 1 to 7, D1 to D6 are 9 to 14. -/
def stepWait (s : State) (k : Nat) : Nat :=
  match k with
  | 1 => 10000000
  | 2 => 5000000
  | 3 => 5000000
  | 4 => 5000000
  | 6 => s.panPeriod
  | 7 => s.rd F.DSP_BL_RAMP * 1000000
  | 9 => 20000000
  | 10 => s.panPeriod
  | 11 => 5000000
  | 12 => 5000000
  | 13 => 5000000
  | 14 => 20000000
  | _ => 0

/-- The backlight ramps to the duty of the mode. -/
def State.ramp (s : State) : State :=
  { s with pan := { s.pan with duty := if s.rd F.DSP_PWRSTAT_MODE = 1 then s.rd F.DSP_BL_FDUTY else s.rd F.DSP_BL_SDUTY, rampAt := s.now } }

/-- The panel enters FULL (1) or STRIP (2). -/
def State.panMode (s : State) (m : Nat) : State :=
  ({ s with pan := { s.pan with missed := 0, failed := false } }.wr F.DSP_PWRSTAT_MODE m).ramp

/-- Whether the panel is to show FULL. -/
def State.wantsFull (s : State) : Bool := !s.on F.DSP_PWR_MODE && !s.on F.DSP_SSTAT_FALLBACK && s.canopyOn

/-- A step of a sequence begins. -/
def State.enterStep (s : State) (k : Nat) : State :=
  let s := (s.wr F.DSP_PWRSTAT_STEP k).wr F.DSP_PWRSTAT_STATE (if k < 8 then 1 else 3)
  let s := { s with pan := { s.pan with stepAt := s.now, owed := none } }
  match k with
  | 1 => { s with pan := { s.pan with vdd := true, vddAt := s.now } }
  | 2 => { s with pan := { s.pan with vgl := true } }
  | 3 => { s with pan := { s.pan with avdd := true } }
  | 4 => { s with pan := { s.pan with vgh := true } }
  | 5 => s.laneTrain
  | 6 => s.blackFrame
  | 7 => ({ s with pan := { s.pan with bl := true } }.wr F.DSP_PWRSTAT_BLLIT 1).panMode (if s.wantsFull then 1 else 2)
  | 9 => (({ s with pan := { s.pan with bl := false, duty := 0 } }).wr F.DSP_PWRSTAT_BLLIT 0).wr F.DSP_PWRSTAT_MODE 0
  | 10 => s.blackFrame
  | 11 => { s with pan := { s.pan with vgh := false } }
  | 12 => { s with pan := { s.pan with avdd := false } }
  | 13 => { s with pan := { s.pan with vgl := false } }
  | 14 => (({ s with pan := { s.pan with vdd := false } }).laneSet 0 0).mapAbandon
  | _ => s

/-- A sequence ends. -/
def State.seqDone (s : State) (st : Nat) : State :=
  ((s.wr F.DSP_PWRSTAT_STEP 0).wr F.DSP_PWRSTAT_STATE st).flag F.DSP_SSTAT_SEQDONE F.DSP_SCTL_IE_PWR

/-- The step a reversed sequence starts from: 0 where the table gives none. -/
def reverseTo (k : Nat) : Nat :=
  match k with
  | 1 => 14
  | 2 => 13
  | 3 => 12
  | 4 => 11
  | 5 => 11
  | 6 => 11
  | 7 => 9
  | 9 => 6
  | 10 => 7
  | 11 => 4
  | 12 => 3
  | 13 => 2
  | 14 => 1
  | _ => 0

/-- The sequence reverses at step `k`. -/
def State.reverseAt (s : State) (k : Nat) : State :=
  let t := ((s.wr F.DSP_PWRSTAT_REV 1).wr F.DSP_PWRSTAT_REVAT k).inc F.DSP_PWRSTAT_REVCNT
  (t.flag F.DSP_SSTAT_REVERSED F.DSP_SCTL_IE_PWR).enterStep (reverseTo k)

/-- A sequence starts from rest. -/
def State.startSeq (s : State) (k : Nat) : State := ((s.wr F.DSP_PWRSTAT_REV 0).wr F.DSP_PWRSTAT_REVAT 0).enterStep k

/-- A request for on or off. -/
def State.panelRequest (s : State) (on : Bool) : State :=
  match s.rd F.DSP_PWRSTAT_STATE with
  | 0 => if on then s.startSeq 1 else s
  | 1 =>
    if on then { s with pan := { s.pan with owed := none } }
    else if s.rd F.DSP_PWRSTAT_STEP = 5 then s.reverseAt 5
    else { s with pan := { s.pan with owed := some false } }
  | 2 => if on then s else s.startSeq 9
  | _ => { s with pan := { s.pan with owed := if on then some true else none } }

/-- The present step has ended: a waiting request reverses the sequence, else the next step begins. -/
def State.stepEnd (s : State) : State :=
  let k := s.rd F.DSP_PWRSTAT_STEP
  if s.pan.owed.isSome then s.reverseAt k
  else if k = 7 then s.seqDone 2
  else if k = 14 then s.seqDone 0
  else s.enterStep (k + 1)

/-- PANEL_SEQUENCE_STEP: the wait of the present step is over. -/
def execPanelSequenceStep (s : State) : Host.Outcome State Fault Refusal :=
  .next (
    let k := s.rd F.DSP_PWRSTAT_STEP
    if s.bedOn = false ∨ k = 0 ∨ k = 5 ∨ s.now < s.pan.stepAt + stepWait s k then s else s.stepEnd)

/-- LANE_TRAINING: the lock levels once the training symbols have been sent. -/
def execLaneTraining (locks : Nat) (s : State) : Host.Outcome State Fault Refusal :=
  .next (
    if s.bedOn = false ∨ s.pan.lanes ≠ 1 ∨ s.now < s.pan.trainAt + 110000 then s
    else if locks % 256 = 255 then
      let t := (s.laneSet 2 255).sendGamma
      if s.rd F.DSP_PWRSTAT_STEP = 5 then t.stepEnd else t
    else
      let t := s.laneSet 1 (locks % 256)
      if s.pan.trainFirst + 20000000 ≤ s.now then
        let n := ((List.range 8).find? (fun i => !bitAt locks i)).getD 0
        let u := if t.canopyOn then t.flag F.DSP_STAT_LANEFAIL F.DSP_CTL_IE_LANE else t
        (u.dspEvent 3 n true).panelRequest false
      else if s.pan.trainAt + 1000000 ≤ s.now then { t with pan := { t.pan with trainAt := s.now } }
      else t)

/-- LANE_LOCK_LOSS: line packets stop on every lane and training restarts. -/
def execLaneLockLoss (lane : Nat) (s : State) : Host.Outcome State Fault Refusal :=
  .next (
    if s.bedOn = false ∨ s.pan.lanes ≠ 2 ∨ 8 ≤ lane then s
    else (if s.canopyOn then s.inc (F.DSP_LNn_STAT_LOSSES lane) else s).laneTrain)

/-! ### Scan-out and band checks (R398, R399, R402) -/

/-- Whether band `b` of buffer `f` reads as it was written. -/
def State.bandGood (s : State) (f b : Nat) : Bool :=
  let p := s.bandSpan f b
  !s.mem.poisoned p.1 p.2 && decide (crc32 (s.mem.readBytes p.1 p.2) = SMap.get (fun _ => 0) s.pan.crcs (f * 32 + b))

/-- The poisoned rows of a band, each a poison event. -/
def State.countRowPoison (s : State) (f b : Nat) : State :=
  (List.range (s.band b).2).foldl (fun x i =>
    if s.mem.poisoned (s.fbAddr f + ((s.band b).1 + i) * s.pan.hact * 4) (s.pan.hact * 4) then x.dspPoison else x) s

/-- Band `b` of buffer `f` scanned and checked. -/
def State.checkBand (s : State) (f b : Nat) : State :=
  if (s.band b).2 = 0 then s
  else if s.bandGood f b then s.wr (F.DSP_CRCb_RUN b) 0
  else
    let t := (s.countRowPoison f b).inc (F.DSP_CRCb_MISS b)
    let t := (t.inc (F.DSP_CRCb_RUN b)).inc F.DSP_CRCERRCNT_CNT
    let t := (t.flag F.DSP_STAT_CRCERR F.DSP_CTL_IE_CRC).dspEvent 1 b false
    if t.rd (F.DSP_CRCb_RUN b) = t.rd F.DSP_CTL_FAILN ∧ s.rd (F.DSP_CRCb_RUN b) ≠ t.rd F.DSP_CTL_FAILN then
      let t := (t.wr F.DSP_CRCFAIL_VALID 1).wr F.DSP_CRCFAIL_BAND b
      let t := (t.flag F.DSP_STAT_CRCFAIL F.DSP_CTL_IE_CRC).dspEvent 2 b true
      let t := t.triggerTest (dramRes s.code (s.bandSpan f b).1)
      { t with pan := { t.pan with failed := true } }
    else t

/-- The engine scans the new frame if it is complete, else the old one again; a firmware switch repeats one frame (R538). -/
def State.engineScan (s : State) (late : Nat) : State :=
  let t : State :=
    if s.pan.again then { s.inc F.DSP_REPEAT_CNT with pan := { s.pan with again := false } }
    else if s.pan.built then { s with pan := { s.pan with front := some s.backBuffer, built := false } }
    else if s.pan.front.isSome then s.inc F.DSP_REPEAT_CNT else s
  match t.pan.front with
  | none => t
  | some f =>
    let t := (t.wr F.DSP_FSEQ_SEQ (t.rd F.DSP_FSEQ_SEQ + 1)).wideAdd Reg.DSP_FRAMECNT_LO 1
    ((List.range 32).foldl (fun x b => x.checkBand f b) t).incBy F.DSP_LATE_CNT late

/-- The pixel sent at row `r` and column `c` of a frame in FULL: a late or poisoned row is black, the strip covers the bottom rows. -/
def State.fullPixel (s : State) (late : List Nat) (r c : Nat) : Nat :=
  if s.on F.DSP_SCTL_OVL ∧ s.pan.vact ≤ r + 120 then s.stripPixel (r + 120 - s.pan.vact) c
  else
    match s.pan.front with
    | none => 0
    | some f =>
      let a := s.fbAddr f + r * s.pan.hact * 4
      if late.contains r ∨ s.mem.poisoned a (s.pan.hact * 4) = true then 0 else s.mem.readLe (a + 4 * c) 4 % 2 ^ 30

/-- The mode the panel shows from this frame on. -/
def State.frameMode (s : State) : State :=
  if s.rd F.DSP_PWRSTAT_STATE ≠ 2 then s
  else
    match s.rd F.DSP_PWRSTAT_MODE with
    | 2 => if s.wantsFull then s.panMode 1 else s
    | 1 => if s.on F.DSP_PWR_MODE then s.panMode 2 else s
    | _ => s

/-- The strip unit's frame in FULL: lines not delivered are sent black and counted. -/
def State.fullFrame (s : State) (late : List Nat) (torn : Bool) : State :=
  let t := if s.on F.DSP_SCTL_OVL then s.stripCheck torn else s
  let given := t.engineUp 4 && t.on F.DSP_CTL_EN && t.pan.front.isSome
  let lost := if given then (late.filter (fun r => decide (r < t.pan.vact))).eraseDups.length else t.pan.vact
  let t := if lost = 0 then t else (t.incBy F.DSP_SCOUNT_UNDER lost).wr F.DSP_SSTAT_UNDER 1
  let t := { t with pan := { t.pan with missed := if lost = 0 then 0 else t.pan.missed + 1 } }
  t.lastPackets (t.pan.vact - 1) (fun c => if given then t.fullPixel late (t.pan.vact - 1) c else
    if t.on F.DSP_SCTL_OVL then t.stripPixel 119 c else 0)

/-- PANEL_FRAME_START. -/
def execPanelFrameStart (late : List Nat) (torn : Bool) (s : State) : Host.Outcome State Fault Refusal :=
  .next (
    if s.bedOn = false ∨ s.frameNow = false ∨ s.pan.lastFrame = some s.now then s
    else
      let t := { s with pan := { s.pan with lastFrame := some s.now, pol := s.polNext } }
      let t := t.sendGamma.frameMode
      let t : State :=
        if t.engineUp 4 ∧ t.on F.DSP_CTL_EN = true then
          let u := t.engineScan (late.filter (fun r => decide (r < s.pan.vact))).eraseDups.length
          if u.pan.comp.isNone then u.startComp else u
        else t
      if t.rd F.DSP_PWRSTAT_MODE = 1 then t.fullFrame late torn else t)

/-- DISPLAY_FALLBACK: in FULL, the panel falls back where frames are missing, Canopy is not powered or the engine has failed. -/
def execDisplayFallback (s : State) : Host.Outcome State Fault Refusal :=
  .next (
    if s.bedOn = false ∨ s.rd F.DSP_PWRSTAT_MODE ≠ 1 ∨ ¬ (2 ≤ s.pan.missed ∨ s.canopyOn = false ∨ s.pan.failed = true) then s
    else
      let t := (s.inc F.DSP_SCOUNT_FALLBACKS).flag F.DSP_SSTAT_FALLBACK F.DSP_SCTL_IE_FB
      let t := t.record 0x0E 0x40 sevWarning 0 0 0
      if s.on F.DSP_SCTL_STRIPEN then t.panMode 2
      else { t with pan := { t.pan with missed := 0, failed := false } }.panelRequest false)

/-- Entry into the Doze state with REQ = 1 (R402). -/
def State.panelDoze (s : State) : State :=
  if s.on F.DSP_PWR_REQ = false ∨ s.rd F.DSP_PWRSTAT_STATE = 0 then s
  else if s.on F.DSP_SCTL_STRIPEN then (if s.rd F.DSP_PWRSTAT_MODE = 1 then s.panMode 2 else s)
  else s.panelRequest false

/-- The engine loses its domain: what it holds is lost. -/
def State.panelCanopyDown (s : State) : State :=
  let t := s.engineOff
  { t with pan := { t.pan with crcs := [], mapAt := none, mapAgain := false, mapDesc := none } }

/-- The rails fall without sequence (R404), and the strip unit is back at reset; the column drivers lose their power too. -/
def State.panelLost (s : State) : State := { s with pan := {} }

/-! ### Register writes and parity (R408, R409) -/

/-- The panel's timing as the strip unit keeps it. -/
def State.panTiming (s : State) : State :=
  { s with pan := { s.pan with hact := s.rd F.DSP_ACTIVE_HACT, vact := s.rd F.DSP_ACTIVE_VACT, linep := s.rd F.DSP_LINEP_NS, vtotal := s.rd F.DSP_VTOTAL_LINES, foff := s.rd F.DSP_FOFF_US } }

/-- Whether the offset is one of the registers that EN = 1 locks. -/
def dspLocked (off : Nat) : Bool := [0x010, 0x014, 0x018, 0x020, 0x024, 0x058].contains off

/-- Whether line packets do not fit the line period (R394). -/
def State.laneRateBad (s : State) : Bool :=
  let r := 3 * (s.rd F.DSP_LANE_RATE + 2)
  decide (s.rd F.DSP_LINEP_NS * r < packetSymbols (s.rd F.DSP_ACTIVE_HACT) * 40 + 200 * r)

/-- Whether the timing registers do not agree. -/
def State.timingBad (s : State) : Bool :=
  decide (s.rd F.DSP_VTOTAL_LINES < s.rd F.DSP_ACTIVE_VACT + 4) ||
    decide (s.rd F.DSP_VTOTAL_LINES * s.rd F.DSP_LINEP_NS ≤ s.rd F.DSP_FOFF_US * 1000)

/-- The cause a write of `v` at `off` is refused with; 0 for none. -/
def State.dspCause (s : State) (off : Nat) (v : W32) : Nat :=
  let b := getBits v 27 0 * 4096
  if s.on F.DSP_CTL_EN ∧ dspLocked off = true then 1
  else if off = 0x000 then
    if getBits v 23 20 = 0 then 2
    else if getBits v 31 31 = 1 ∧ s.on F.DSP_CTL_EN = false then (if s.timingBad then 2 else if s.laneRateBad then 3 else 0)
    else 0
  else if off = 0x010 then (if getBits v 15 0 < 4000 ∨ getBits v 15 0 % 8 ≠ 0 then 2 else 0)
  else if off = 0x014 then (if getBits v 11 0 < s.rd F.DSP_ACTIVE_VACT + 4 then 2 else 0)
  else if off = 0x018 then
    (if getBits v 11 0 < 640 ∨ 2560 < getBits v 11 0 ∨ getBits v 11 0 % 8 ≠ 0 ∨ getBits v 27 16 < 480 ∨ 1600 < getBits v 27 16 then 2 else 0)
  else if off = 0x01C then (if getBits v 31 30 = 3 then 2 else 0)
  else if off = 0x020 then (if getBits v 1 0 = 3 then 2 else 0)
  else if off = 0x024 then (if b % 0x2000000 ≠ 0 ∨ inDramRange s.code b 0x2000000 = false then 4 else 0)
  else if off = 0x028 then (if b % 0x400000 ≠ 0 ∨ inDramRange s.code b 0x400000 = false then 4 else 0)
  else if off = 0x058 then (if s.rd F.DSP_VTOTAL_LINES * s.rd F.DSP_LINEP_NS ≤ getBits v 19 0 * 1000 then 2 else 0)
  else if off = 0x124 ∨ off = 0x144 then (if inDram s.code b then 0 else 4)
  else if off = 0x128 ∨ off = 0x148 then (if getBits v 15 0 % 64 ≠ 0 then 2 else 0)
  else 0

/-- A write to the Canopy window. -/
def State.dspWrite (s : State) (off : Nat) (v : W32) : State :=
  let c := s.dspCause off v
  if c ≠ 0 then s.dspReject c
  else
    let t := s.plainWrite (0x19000 + off) v
    let t := if off = 0 ∧ s.on F.DSP_CTL_EN = true ∧ t.on F.DSP_CTL_EN = false then t.engineOff else t
    t.panTiming

/-- What a parity fault of the register at `off` does beyond returning it to reset. -/
def State.dspParity (s : State) (off : Nat) : State :=
  let t := s.wr F.DSP_STAT_PARFLT 1
  let t := if off = 0 ∨ dspLocked off = true then t.engineOff else t
  (if dspLocked off then { (t.wr F.DSP_CTL_EN 0).reparity Reg.DSP_CTL with pan := { t.pan with failed := true } } else t).panTiming

/-- A write to the Bed window. -/
def State.dsWrite (s : State) (off : Nat) (v : W32) : State :=
  let t := s.plainWrite (0xE000 + off) v
  if off = 0x008 then t.panelRequest (bitAt v.toNat 31)
  else if off = 0x010 ∧ t.pan.bl = true then t.ramp
  else t

/-- What a parity fault of the register at `off` does beyond returning it to reset. -/
def State.dsParity (s : State) (off : Nat) : State :=
  let t := s.wr F.DSP_SSTAT_PARFLT 1
  if off = 0x008 then t.panelRequest false else t

/-- The word of DSP_PWR. -/
def panelWord (on mode : Bool) : W32 := BitVec.ofNat 32 ((if on then 2 ^ 31 else 0) + (if mode then 2 ^ 30 else 0))

/-- PANEL_POWER_ON. -/
def execPanelPowerOn (agent : Agent) (mode : Bool) (s : State) : Host.Outcome State Fault Refusal :=
  .next (s.gate agent 0x0E 0x008 (fun t => t.dsWrite 0x008 (panelWord true mode)))

/-- PANEL_POWER_OFF. -/
def execPanelPowerOff (agent : Agent) (mode : Bool) (s : State) : Host.Outcome State Fault Refusal :=
  .next (s.gate agent 0x0E 0x008 (fun t => t.dsWrite 0x008 (panelWord false mode)))

/-- FALLBACK_CLEAR. -/
def execFallbackClear (agent : Agent) (value : W32) (s : State) : Host.Outcome State Fault Refusal :=
  .next (s.gate agent 0x0E 0x004 (fun t => t.dsWrite 0x004 value))

end Sys2Proof.Machine
end

