-- ==== Sys2Proof/Machine/Mailbox.lean ====
section
/-! DEFINITION. The commands of the MBX block (R105-R112). -/

namespace Sys2Proof.Machine

/-- A refused write to MBX: an error response, the cause, the writer and the mailbox in MBX_STAT, and the count (R106, R108). -/
def State.mbxRefuse (s : State) (a : Agent) (m cause : Nat) : State :=
  let id := (agentMbx a).getD 0xF
  ((((s.wr F.MBX_STAT_CAUSE cause).wr F.MBX_STAT_AGENT id).wr F.MBX_STAT_MBOX m).inc F.MBX_REJCNT_CNT).failFor a

/-- A write to MBX by `a` at offset `off`, mailbox `m` (0 outside the arrays): a writer that is not a mailbox agent is refused
with NOTAGENT (R106), an absent mailbox follows R5. -/
def State.mbxGate (s : State) (a : Agent) (off m : Nat) (k : Nat → State → State) : State :=
  if s.bedOn = false then s.failFor a
  else
    match agentMbx a with
    | none => s.mbxRefuse a m 5
    | some id =>
      if 5 ≤ SMap.get (fun _ => 0) s.hlt.lostRegs 0x07 then s.failFor a
      else if absentReg s.code 0x07 off && (findReg 0x07 off).isSome then (s.inc F.SYS_ABSENTWR_CNT).done else k id s.done

/-- Whether the receiver of mailbox `m` is powered; for the PCI Express endpoint side, whether a cab computer's link is up. -/
def State.mbxReachable (s : State) (m : Nat) : Bool :=
  s.mbxDomainOn (m / 8) && (if m / 8 = 7 then s.on F.PCE_STAT_EPUP else true)

/-- Whether PTR and the body are as R108 asks. -/
def State.mbxPtrOk (s : State) (m ptr len : Nat) : Bool :=
  let rx := m / 8
  decide (ptr % 64 = 0) && (decide (len = 0) || inBedRange ptr (64 * len) ||
    (!(decide (rx = 2) || decide (rx = 3) || decide (rx = 6)) && inDramRange s.code ptr (64 * len)))

/-- A write of PTR[31:0] to any MBX_MnLO lands in the sender's staging word (R107). -/
def State.mbxStageWrite (s : State) (id : Nat) (v : W32) : State :=
  { s with mbxStage := SMap.set (fun _ => 0) s.mbxStage id v }

/-- A write to MBX_MnHI posts the staged notice, or is refused with the first cause that holds (R108, R110). -/
def State.mbxPost (s : State) (a : Agent) (id m : Nat) (v : W32) : State :=
  let lo := SMap.get (fun _ => 0) s.mbxStage id
  let ptr := getBits v 15 0 * 2 ^ 32 + lo.toNat
  if s.on (F.MBX_MnSTAT_FULL m) then s.mbxRefuse a m 1
  else if s.mbxReachable m = false then s.mbxRefuse a m 2
  else if s.held.contains (m / 8) then s.mbxRefuse a m 3
  else if s.mbxPtrOk m ptr (getBits v 27 16) = false then s.mbxRefuse a m 4
  else
    let t := ((((s.setReg (Reg.MBX_MnLO m) lo).setReg (Reg.MBX_MnHI m) v).wr (F.MBX_MnSTAT_FULL m) 1).wr
      (F.MBX_MnSTAT_SRC m) id).mapBit Reg.MBX_FULL_LO m true
    if t.on (F.MBX_MnSTAT_IE m) then t.irq (.agent (mbxAgent (m / 8))) (.mboxPost m) else t

/-- The receiver takes the notice of mailbox `m` (R110). -/
def State.mbxTake (s : State) (m : Nat) : State :=
  let src := s.rd (F.MBX_MnSTAT_SRC m)
  let t := ((((s.wr (F.MBX_MnSTAT_FULL m) 0).wr (F.MBX_MnSTAT_LAST m) 1).resetReg (Reg.MBX_MnLO m)).resetReg
    (Reg.MBX_MnHI m)).mapBit Reg.MBX_FULL_LO m false
  if bitAt (t.rd F.MBX_CTL_TAKEIE) src then t.irq (.agent (mbxAgent src)) (.mboxTake m) else t

/-- A write of MBX_MnSTAT by agent `id`: IE is written; a 1 to FULL from the receiver takes the notice held, from any other
agent it is ignored. -/
def State.mbxStatWrite (s : State) (id m : Nat) (v : W32) : State :=
  let t := { s.wr (F.MBX_MnSTAT_IE m) (getBits v 30 30) with badParity := s.badParity.filter (fun k => k ≠ Reg.MBX_MnSTAT m) }
  if getBits v 31 31 = 1 ∧ m / 8 = id ∧ t.on (F.MBX_MnSTAT_FULL m) = true then t.mbxTake m else t

/-- A write of 1 to ABT bit `m` clears it only if the writer is the mailbox's SRC (R112). -/
def State.mbxAbtWrite (s : State) (id m : Nat) : State :=
  if s.rd (F.MBX_MnSTAT_SRC m) = id then s.mapBit Reg.MBX_ABT_LO m false else s

/-- MAILBOX_STAGE. -/
def execMailboxStage (agent : Agent) (m : Nat) (value : W32) (s : State) : Host.Outcome State Fault Refusal :=
  .next (if m < 64 then s.mbxGate agent (0x100 + 0x10 * m) m (fun id t => t.mbxStageWrite id value) else s.fail)

/-- MAILBOX_POST. -/
def execMailboxPost (agent : Agent) (m : Nat) (value : W32) (s : State) : Host.Outcome State Fault Refusal :=
  .next (if m < 64 then s.mbxGate agent (0x104 + 0x10 * m) m (fun id t => t.mbxPost agent id m value) else s.fail)

/-- MAILBOX_TAKE. -/
def execMailboxTake (agent : Agent) (m : Nat) (value : W32) (s : State) : Host.Outcome State Fault Refusal :=
  .next (if m < 64 then s.mbxGate agent (0x108 + 0x10 * m) m (fun id t => t.mbxStatWrite id m (setBits value 31 31 1)) else s.fail)

/-- MAILBOX_ABT_CLEAR. -/
def execMailboxAbtClear (agent : Agent) (m : Nat) (s : State) : Host.Outcome State Fault Refusal :=
  .next (if m < 64 then s.mbxGate agent (if m < 32 then 0x010 else 0x014) 0 (fun id t => t.mbxAbtWrite id m) else s.fail)

end Sys2Proof.Machine
end

