-- ==== Sys2Proof/Machine/Roles.lean ====
section
/-! DEFINITION. The two Dales and the carrying role (R499-R510): holding a Dale in reset, releasing it, faults, mirror regions, and the
switch of the role with its record. -/

namespace Sys2Proof.Machine

/-! ### State access -/

/-- The Dale that carries. -/
def State.carryIdx (s : State) : Option Nat := if s.rd F.HLT_ROLE_CARRY = 2 then none else some (s.rd F.HLT_ROLE_CARRY)

/-- The resource of a whole Dale (R495). -/
def daleRes (n : Nat) : Nat := 3 * 2 ^ 28 + n * 2 ^ 16 + 0xF

/-- The health unit set. -/
def State.setHlt (s : State) (h : Health) : State := { s with hlt := h }

/-- An event entry on ring 67 (R517); `rec` records it with that severity and first parameter, and the
others under R549. -/
def State.hltEvent (s : State) (tag b24 b25 res : Nat) (rec : Option (Nat × Nat)) : State :=
  let t := (s.eventEntry 67 0x80 tag 0 (resultOf [(24, 1, b24), (25, 1, b25), (28, 8, s.now), (36, 4, res)]) true).1
  match rec with
  | some (sev, p0) => t.record 0x03 tag sev p0 res b25
  | none => t

/-- CARRY set (2 NONE), with the Dales' own bits and the engines that follow the role. -/
def State.setCarry (s : State) (c : Nat) : State :=
  (((s.wr F.HLT_ROLE_CARRY c).wrB (F.HLT_DALEn_STAT_CARRY 0) (decide (c = 0))).wrB (F.HLT_DALEn_STAT_CARRY 1) (decide (c = 1))).trlRole

/-- No Dale carries: NODALE is raised once (R503). -/
def State.noCarry (s : State) : State :=
  if s.rd F.HLT_ROLE_CARRY = 2 then s
  else
    let t := s.setCarry 2
    (t.setHlt { t.hlt with noneSince := some s.now, ordered := false }).hltEvent 4 0 0 0 none

/-! ### A planned handover that ends without a switch (R507, R510) -/

/-- The token of a planned handover released, or its request withdrawn. -/
def State.handToken (s : State) (owner : Nat) : State :=
  if s.holdsToken 4 owner = true ∧ s.rd (F.HLT_TOKc_ACT 4) = 0xA then s.tokGive 4 else s.tokWithdraw 4 owner 0xA

/-- The HANDOVER descriptor as it completes: where its AT time had passed at step 1 the difference is its lateness (R98, R512). -/
def Handover.lateDesc (h : Handover) (d : Desc) : Desc := d.waited (h.since.getD d.deadline - d.deadline)

/-- The planned handover that waits ends with a status. -/
def State.endPlanned (s : State) (st : Nat) : State :=
  match s.hlt.hand with
  | some h =>
    if h.fault then s
    else
      let t := (s.setHlt { s.hlt with hand := none }).wr F.HLT_HOSTAT_STATE 0
      let t := if h.cause = 2 then t else t.handToken h.owner
      match h.desc with
      | some d => t.complete 66 (h.lateDesc d) { status := st }
      | none => t
  | none => s

/-! ### Reset and release -/

/-- Dale `n` is held in reset: READY and ARMED clear and its mailboxes are emptied; a handover it takes part in ends, and a carrying Dale
leaves CARRY at NONE. -/
def State.daleHold (s : State) (n : Nat) : State :=
  let t := (if s.daleState n = 4 then s else s.wr (F.HLT_DALEn_STAT_STATE n) 2)
  let t := ((t.wr (F.HLT_DALEn_CTL_READY n) 0).wr (F.HLT_DALEn_CTL_ARMED n) 0).holdAgent n
  let planned := match s.hlt.hand with
    | some h => !h.fault
    | none => false
  if s.carryIdx = some n then (if planned then t.endPlanned 0x43 else t).noCarry
  else if planned then t.endPlanned 0x41 else t

/-- Dale `n` is released from reset and its software starts as standing, from the slot of R522; it stays in reset where no slot is bootable. -/
def State.daleStart (s : State) (n : Nat) (bad : List Nat) : State :=
  let t := (s.startUnit n bad).updRegs
  if (t.bootSlot n bad).isSome ∧ t.daleState n ≠ 4 then
    let t := (t.wr (F.HLT_DALEn_STAT_STATE n) 1).freeAgent n
    (t.setHlt { t.hlt with hb := SMap.set (fun _ => 0) t.hlt.hb n t.now }).wr (F.HLT_DALEn_HBAGE_AGE n) 0
  else t

/-- Dale `n` starts its new slot, on probation (R536). -/
def State.daleNew (s : State) (n win : Nat) : State :=
  let t := ((s.daleHold n).startNew n win).wr (F.HLT_DALEn_STAT_STATE n) 1
  let t := t.freeAgent n
  t.setHlt { t.hlt with hb := SMap.set (fun _ => 0) t.hlt.hb n t.now }

/-- Dale `n` is isolated until Bed next powers up (R498). -/
def State.daleIsolate (s : State) (n : Nat) : State := (s.daleHold n).wr (F.HLT_DALEn_STAT_STATE n) 4

/-! ### Faults (R501, R508) -/

/-- A fault handover waits for the next boundary with a READY Dale. -/
def State.faultHand (s : State) (src cause : Nat) : State :=
  let h : Handover := { fault := true, cause := cause, src := src, det := s.now, since := some s.now }
  (s.setHlt { s.hlt with hand := some h }).wr F.HLT_HOSTAT_STATE 1

/-- A Dale fault with a cause: 4 HEARTBEAT, 5 L2UNC, 6 DECLARED. -/
def State.daleFault (s : State) (n cause : Nat) : State :=
  if s.daleState n ≠ 1 then s
  else
    let carried := decide (s.carryIdx = some n)
    let t := ((s.daleHold n).wr (F.HLT_DALEn_STAT_FCAUSE n) cause).inc (F.HLT_DALEn_FAULTS_CNT n)
    let t := (t.flagDale F.HLT_STAT_DALEFLT F.HLT_CTL_IE_DALE).hltEvent 2 n cause (daleRes n) (some (sevFault, n))
    let t := if (t.probation n).isSome then (t.fellMark n).fellStop n else t
    let t := if carried then t.faultHand n cause else t
    t.triggerTest (daleRes n)

/-! ### Mirror regions (R504, R505) -/

/-- First byte of a region's SRC and COPY area, and its size. -/
def State.mirSrc (s : State) (n : Nat) : Nat := s.rd (F.HLT_MIRn_SRC_BASE n) * 4096
def State.mirCopy (s : State) (n : Nat) : Nat := s.rd (F.HLT_MIRn_COPY_BASE n) * 4096
def State.mirSize (s : State) (n : Nat) : Nat := s.rd (F.HLT_MIRn_CFG_SIZE n) * 65536

/-- The mirrors in force, from the enabled regions and the side each copies. -/
def State.mirRefresh (s : State) : State :=
  let l : List (Fin 16 × Nat × Nat × Nat) := ((List.finRange 16).filter (fun (n : Fin 16) => s.on (F.HLT_MIRn_CFG_EN n))).map (fun (n : Fin 16) =>
    if s.on (F.HLT_MIRn_STAT_DIR n) then (n, s.mirCopy n, s.mirSrc n, s.mirSize n) else (n, s.mirSrc n, s.mirCopy n, s.mirSize n))
  s.setHlt { s.hlt with mirrors := l }

/-- SYNC of region `n`. -/
def State.mirSync (s : State) (n : Nat) (v : Bool) : State :=
  (s.wrB (F.HLT_MIRn_STAT_SYNC n) v).wrB ⟨Reg.HLT_MIRCTL, n, n⟩ v

/-- The copy that enabling a region began ends: the source side stands whole on the other side. -/
def State.mirFinish (s : State) (n : Nat) : State :=
  match s.hlt.mirrors.find? (fun m => decide (m.1.val = n)) with
  | some m =>
    let poisoned := s.mem.poison.filter (fun g => decide (m.2.1 ≤ g) && decide (g < m.2.1 + m.2.2.2))
    let t := s.storeOne m.2.2.1 (s.mem.readBytes m.2.1 m.2.2.2) false
    let t : State := poisoned.foldl (fun x g => { x with mem := x.mem.mark (m.2.2.1 + (g - m.2.1)) true }) t
    (t.mirSync n false).setHlt { t.hlt with syncEnd := s.now }
  | none => s

/-- Every enabled region with SWAP = 1 reverses its direction. -/
def State.mirSwap (s : State) : State :=
  ((List.range 16).foldl (fun x n =>
    if x.on (F.HLT_MIRn_CFG_EN n) && x.on (F.HLT_MIRn_CFG_SWAP n) then x.wrB (F.HLT_MIRn_STAT_DIR n) (!x.on (F.HLT_MIRn_STAT_DIR n)) else x) s).mirRefresh

/-! ### The switch (R506, R509) -/

/-- The handover record (R509). -/
def State.handRecord (s : State) (h : Handover) (dst det : Nat) : State :=
  if s.on F.HLT_HOREC_EN then
    let a := bedStoreBase + s.rd F.HLT_HOREC_OFF * 4096
    let line0 := [(0, 4, s.hlt.switches), (4, 1, if h.fault then 1 else 0), (5, 1, h.cause), (6, 1, h.src), (7, 1, dst), (8, 8, s.now),
      (16, 8, det), (32, 2, s.rd F.HLT_MIRCTL_SYNC), (63, 1, 0x80)].foldl (fun b x => putLe b x.1 x.2.1 x.2.2) (List.replicate 64 (0 : Byte))
    let rest := fitBytes 256 ((List.range 112).map (fun q => leBytes 2 (s.ring q).idx)).flatten
    (s.put (a + 64) rest).put a line0
  else s

/-- The new carrier gets every interrupt with destination carrying Dale whose source is pending. -/
def State.handIrqs (s : State) (n : Nat) : State :=
  let a : Agent := if n = 0 then .daleA else .daleB
  let t : State := { s with irqs := s.irqs.map (fun i => if i.dest = .noDale then { i with dest := .agent a } else i) }
  (List.range 112).foldl (fun x q =>
    if x.mapOn (Reg.RNG_IPn 0) q && x.mapOn (Reg.RNG_IEn 0) q && decide (x.rd (F.RNG_QnCFG_DEST q) = 0) then x.irqCarry (.ring q) else x) t

/-- The role passes to Dale `n` at this instant. -/
def State.switchTo (s : State) (h : Handover) (n : Nat) : State :=
  let det := if h.fault then h.det else max h.det (max h.at0 s.hlt.syncEnd)
  let t := (s.setCarry n).inc F.HLT_ROLE_SWITCHES
  let t := if h.fault then t.inc F.HLT_HOCNT_FAULT else t.inc F.HLT_HOCNT_PLANNED
  let t := ((t.wr F.HLT_HOSTAT_STATE 0).wrB F.HLT_HOSTAT_KIND h.fault).wr F.HLT_HOSTAT_CAUSE h.cause
  let t := (t.wrSat F.HLT_HOSTAT_GAP ((s.now - det) / 1000)).setHlt { t.hlt with hand := none, noneSince := none, ordered := false, switches := t.hlt.switches + 1 }
  let t := ((t.handIrqs n).mirSwap).wr (F.HLT_DALEn_CTL_ARMED n) 0
  let t := t.handRecord h n h.det
  let t := (t.flagDale F.HLT_STAT_HANDOVER F.HLT_CTL_IE_HO).hltEvent 3 n h.cause 0 none
  let t := match h.desc with
    | some d => t.complete 66 (h.lateDesc d) { bytes := leBytes 8 s.now ++ leBytes 4 t.hlt.switches }
    | none => t
  let t := if h.fault ∨ h.cause = 2 then t else t.handToken h.owner
  match t.upd.run with
  | some r => if h.cause = 2 ∧ r.stage = 3 then t.setRun { r with stage := 4 } else t
  | none => t

/-! ### Asking for a planned handover (R507, R513) -/

/-- Whether Dale `n` is being updated. -/
def State.daleBusy (s : State) (n : Nat) : Bool := (s.probation n).isSome

/-- PREPARE is posted to the standing Dale's first mailbox. -/
def State.handPrepare (s : State) (h : Handover) : State :=
  let t := s.setHlt { s.hlt with hand := some { h with since := some s.now } }
  let stage := t.mbxStage
  let u := ({ t with mbxStage := SMap.set (fun _ => 0) stage 6 0 }).mbxPost .scarecrow 6 (8 * (1 - h.src)) 0x10000000
  { u with mbxStage := stage }

/-- A planned handover that waits for its token goes on once it holds it. -/
def State.handGo (s : State) : State :=
  match s.hlt.hand with
  | some h => if h.fault = false ∧ h.since = none ∧ s.holdsToken 4 h.owner = true ∧ s.rd (F.HLT_TOKc_ACT 4) = 0xA then s.handPrepare h else s
  | none => s

/-- A planned handover asked for with a cause (1 COMMAND, 2 UPDATE, 3 TEST); the second component is the status that refuses it, or 0. The
token of one that a descriptor commands is held for the Dale that asked, of one for a test for Scarecrow (notes/assumptions/63.md). -/
def State.askHandover (s : State) (cause at0 : Nat) (desc : Option Desc) : State × Nat :=
  match s.carryIdx with
  | none => (s, 0x41)
  | some c =>
    if s.hlt.hand.isSome then (s, 0x43)
    else if s.daleReady (1 - c) = false ∨ (cause ≠ 2 ∧ (s.daleBusy 0 || s.daleBusy 1) = true) then (s, 0x41)
    else
      let h : Handover := { fault := false, cause := cause, src := c, at0 := at0, desc := desc, owner := if cause = 1 then c else 6 }
      let t := (s.setHlt { s.hlt with hand := some h }).wr F.HLT_HOSTAT_STATE 1
      if cause = 2 then (t.handPrepare h, 0)
      else
        let r := t.tokAsk 4 h.owner 0xA
        (r.1.handGo, 0)

end Sys2Proof.Machine
end

