-- ==== Sys2Proof/Machine/Root.lean ====
section
/-! DEFINITION. What Root keeps (R75-R79, R489-R493): posting latches and their commit, the copies of the Root registers, the calendar, and
the Root save. -/

namespace Sys2Proof.Machine

/-! ### Saves (R490) -/

/-- Whether a Root register belongs to the save: RTD_GPn, the registers with RWP fields, and those R493 gives as restored. -/
def savedRoot (key : Nat) : Bool :=
  (arrayIdx key (Reg.RTD_GPn 0) 4 30).isSome || [Reg.RTD_CTL, Reg.RTD_WAKECFG, Reg.RTD_CELLCFG, Reg.RTD_CELLQ, Reg.RTD_VAULTCNT, Reg.RTD_BTN].contains key

/-- Root's state as a save holds it. -/
def State.saveImage (s : State) (ok : Bool) : RootSave :=
  { ok := ok, cal := s.pwr.cal, opsec := (s.rootReg Reg.RTD_OPSEC).toNat, pwrcyc := (s.rootReg Reg.RTD_PWRCYC).toNat,
    sdl := s.wideGet Reg.RTD_SDLSAVE_LO, arb := s.upd.arb, wear := s.outs.wear, regs := SMap.keep savedRoot s.rootRegs }

/-- Power set. -/
def State.setPwr (s : State) (p : Pwr) : State := { s with pwr := p }

/-- A status bit of SYS set where Bed runs, with its interrupt. -/
def State.sysFlag (s : State) (stat ie : Fld) : State := if s.bedOn then s.flag stat ie else s

/-- A Root save with its cause (1 PERIODIC, 2 POWERDOWN, 3 SUPPLY, 4 PRIORITY, 5 VLOW, 6 COMMAND, 7 UPDATE), written over the older copy; one
whose verify fails sets SAVEFAIL and is recorded. -/
def State.rootSave (s : State) (cause : Nat) (ok : Bool) : State :=
  let t := s.setPwr { s.pwr with saves := s.saveImage ok :: s.pwr.saves.take 1, savedAt := s.pwr.root }
  let t := ((t.rootWr F.RTD_SAVE_CAUSE cause).rootWr F.RTD_SAVE_AGE 0).rootWr F.RTD_SAVE_NOW 0
  if ok then t
  else ((t.rootWr F.RTD_STAT_SAVEFAIL 1).sysFlag F.SYS_STAT_CELL F.SYS_CTL_IE_CELL).record 0x02 0x42 sevWarning cause 0 0

/-- The newest valid save. -/
def State.validSave (s : State) : Option RootSave := s.pwr.saves.find? (fun x => x.ok)

/-! ### The calendar (R61) -/

/-- 1/64 ns in a second, and in 1/32,768 s. -/
def calSec : Nat := 64000000000
def calSub : Nat := 1953125

/-- The 55 bits of a calendar value: SUB above SEC. -/
def calWord (c : Nat) : Nat := c / calSec % 2 ^ 40 + c % calSec / calSub * 2 ^ 40

/-- The calendar a CALSET pair stands for. -/
def calOf (w : Nat) : Nat := w % 2 ^ 40 * calSec + bitsOf w 54 40 * calSub

/-- A Root register's low and high words set from a value. -/
def State.rootPair (s : State) (lo v : Nat) : State := (s.setRoot lo (BitVec.ofNat 32 v)).setRoot (lo + 4) (BitVec.ofNat 32 (v / 2 ^ 32))

/-! ### Copies and latches (R75-R79) -/

/-- Root registers as words: every RTD register but RTD_SNAP, the holding registers and RTD_WPEND (R493). -/
def rootKeys : List Nat :=
  [Reg.RTD_CTL, Reg.RTD_STAT, Reg.RTD_CALSET_LO, Reg.RTD_CALSET_HI, Reg.RTD_OPSEC, Reg.RTD_PWRCYC, Reg.RTD_WAKECFG, Reg.RTD_WAKESTAT,
   Reg.RTD_WAKELVL, Reg.RTD_WTIMER, Reg.RTD_CELLV, Reg.RTD_CELLQ, Reg.RTD_CELLCFG, Reg.RTD_SAVE, Reg.RTD_VAULTCNT, Reg.RTD_BTN, Reg.RTD_SUPLOG] ++
  (List.range 30).map Reg.RTD_GPn

/-- RTD_WPEND brought up to date. -/
def State.wpend (s : State) : State :=
  let bits := fun lo => (s.latches.filter (fun l => decide (lo ≤ l.off) && decide (l.off < lo + 128))).foldl (fun a l => a ||| 2 ^ ((l.off - lo) / 4)) 0
  (s.setReg Reg.RTD_WPEND_LO (BitVec.ofNat 32 (bits 0))).setReg Reg.RTD_WPEND_HI (BitVec.ofNat 32 (bits 128))

/-- Every copy refreshed at one instant, the anti-rollback counters among them. -/
def State.refreshCopies (s : State) : State :=
  if s.bedOn then
    let t := rootKeys.foldl (fun x k => x.setReg k (x.rootReg k)) s
    let t := (List.range 9).foldl (fun x u => x.wr (F.UPD_Uu_ARB_CNT u) (x.arb u)) t
    (t.setPwr { t.pwr with calC := t.pwr.cal, sdlC := t.wideGet Reg.RTD_SDLSAVE_LO, offC := t.pwr.lastOff }).wpend
  else s

/-- The word a latch commits: RW and RWP fields replaced, W1C and W1S fields under the merged 1 bits (R77). -/
def RegDesc.committed (d : RegDesc) (old : W32) (l : Latch) : W32 :=
  d.fields.foldl (fun w f => match f.acc with
    | .rw => setBits w f.hi f.lo (getBits l.value f.hi f.lo)
    | .rwp => setBits w f.hi f.lo (getBits l.value f.hi f.lo)
    | .w1c => setBits w f.hi f.lo (getBits (old &&& ~~~ l.ones) f.hi f.lo)
    | .w1s => setBits w f.hi f.lo (getBits (old ||| l.ones) f.hi f.lo)
    | _ => w) old

/-- One latch commits to its Root register; RTD_WTIMER starts to count down. -/
def State.commitLatch (s : State) (l : Latch) : State :=
  let key := 0x2000 + l.off
  match findReg 2 l.off with
  | some d =>
    let t := { s.setRoot key (d.committed (s.rootReg key) l) with badParity := s.badParity.filter (fun k => k ≠ key) }
    if key = Reg.RTD_WTIMER then
      let n := t.rootRd F.RTD_WTIMER_SEC
      t.setPwr { t.pwr with wEnd := if n = 0 then none else some (t.pwr.root + n * calSec) }
    else t
  | none => s

/-- CALLOAD loads RTD_CALSET once its own write has committed; it reads 0 then (R493). -/
def State.calLoad (s : State) : State :=
  if s.rootBit F.RTD_CTL_CALLOAD then
    let w := (s.rootReg Reg.RTD_CALSET_LO).toNat + (s.rootReg Reg.RTD_CALSET_HI).toNat * 2 ^ 32
    ((s.setPwr { s.pwr with cal := calOf w }).rootWr F.RTD_CTL_CALLOAD 0).rootWr F.RTD_STAT_CALVALID 1
  else s

/-- The latches that satisfy `p` commit, and then a CALLOAD among them loads; RTD_WPEND follows (R79). -/
def State.commitLatches (s : State) (p : Latch → Bool) : State :=
  let t : State := (s.latches.filter p).foldl (fun x l => x.commitLatch l) s
  let t := ({ t with latches := t.latches.filter (fun l => !p l) }).calLoad
  if t.bedOn then t.wpend else t

/-- A write posted into a Root register's latch, merged with one that is pending (R76, R77). A value with an unlisted encoding changes
nothing (R10), and RTD_CELLCFG keeps both thresholds unless VLOW is below VOK. -/
def State.postRoot (s : State) (off : Nat) (v : W32) : State :=
  let key := 0x2000 + off
  if listedAt key v = false ∨ (key = Reg.RTD_CELLCFG ∧ getBits v 31 16 ≤ getBits v 15 0) then s
  else
    let old := s.latches.find? (fun l => decide (l.off = off))
    let ones := match old with
      | some l => l.ones ||| v
      | none => v
    let new : Latch := ⟨off, v, ones, s.now⟩
    let rest : List Latch := s.latches.filter (fun l => decide (l.off ≠ off))
    ({ s with latches := rest ++ [new] }).wpend

/-- RTD_CAL and its companions as the holding registers of bank `b` (R72, R493). -/
def State.rootSnap (s : State) (b : Nat) : State :=
  let put := fun (x : State) (lo v : Nat) => (x.setBank b lo (BitVec.ofNat 32 v)).setBank b (lo + 4) (BitVec.ofNat 32 (v / 2 ^ 32))
  put (put (put s Reg.RTD_CAL_LO (calWord s.pwr.calC)) Reg.RTD_SDLSAVE_LO s.pwr.sdlC) Reg.RTD_LASTOFF_LO (calWord s.pwr.offC)

/-- ROOT_REGISTER_WRITE: the write is posted. -/
def execRootRegisterWrite (agent : Agent) (off : Nat) (value : W32) (s : State) : Host.Outcome State Fault Refusal :=
  .next (
    let o := decodeOff 2 off
    s.gate agent 0x02 o (fun t =>
      if o % 4 = 0 ∧ rootKeys.contains (0x2000 + o) = true then t.postRoot o value else t))

/-- ROOT_EDGE: latches whose write completed at least 1 µs ago commit, and the copies are refreshed. -/
def execRootEdge (s : State) : Host.Outcome State Fault Refusal :=
  .next (if s.rootOn then (s.commitLatches (fun l => decide (l.time + 1000 ≤ s.now))).refreshCopies else s)

/-- Every pending latch commits at once because the Bed rail has fallen (R78). -/
def State.commitAll (s : State) : State := s.commitLatches (fun _ => true)

/-- BED_RAIL_FALL_COMMIT. -/
def execBedRailFallCommit (s : State) : Host.Outcome State Fault Refusal :=
  .next (if s.bedOn then s else s.commitAll)

/-- RTD_CALLOAD: a write of RTD_CTL with CALLOAD = 1. -/
def execRtdCalload (agent : Agent) (value : W32) (s : State) : Host.Outcome State Fault Refusal :=
  .next (s.gate agent 0x02 0x000 (fun t => t.postRoot 0x000 (setBits value 31 31 1)))

/-- RTD_SAVE_NOW: a write of RTD_SAVE with NOW = 1; the save runs once the write has committed. -/
def execRtdSaveNow (agent : Agent) (s : State) : Host.Outcome State Fault Refusal :=
  .next (s.gate agent 0x02 0x048 (fun t => t.postRoot 0x048 0x80000000))

end Sys2Proof.Machine
end

