-- ==== Sys2Proof/Machine/Update.lean ====
section
/-! DEFINITION. Updating the module in service (R519-R545): packages, staging, the apply run with its tokens, requirements and switching
methods, probation, and configuration records. -/

namespace Sys2Proof.Machine

/-! ### Packages (R523-R526) -/

/-- The slot size of a unit (R519). -/
def slotSize (u : Nat) : Nat := [2 ^ 31, 2 ^ 31, 2 ^ 24, 2 ^ 26, 2 ^ 28, 2 ^ 26, 2 ^ 20, 2 ^ 20, 2 ^ 20].getD u 0

/-- Item record `k` of a package, and requirement record `k`. -/
def itemRec (b : Bytes) (k : Nat) : Bytes := (b.drop (leAt b 28 4 + 128 * k)).take 128
def reqRec (b : Bytes) (k : Nat) : Bytes := (b.drop (leAt b 32 4 + 16 * k)).take 16

/-- The item records, as many as fit the package. -/
def itemRecs (b : Bytes) : List Bytes := (List.range (leAt b 26 1)).map (itemRec b)

/-- The data of an item. -/
def itemData (b r : Bytes) : Bytes := (b.drop (leAt r 8 8)).take (leAt r 16 8)

/-- The item of a record. -/
def itemOf (b r : Bytes) : PkgItem :=
  { kind := leAt r 0 1, unit := leAt r 1 1, order := leAt r 2 1, flags := leAt r 3 1, ver := leAt r 4 4, win := leAt r 24 4,
    cfgver := leAt r 28 4, data := itemData b r }

/-- The requirement of a record. -/
def reqOf (r : Bytes) : PkgReq := { unit := leAt r 0 1, before := leAt r 1 1, minver := leAt r 4 4, maxver := leAt r 8 4 }

/-- PKGCHECK: HCRC, LENGTH, DIGEST and every IDIGEST match. -/
def pkgChecks (b : Bytes) : Bool :=
  decide (512 ≤ b.length) && decide (leAt b 16 8 = b.length) && decide (leAt b 508 4 = crc32 (b.take 508)) &&
    decide ((b.drop 192).take 48 = sha384 (b.drop 512)) && (itemRecs b).all (fun r => decide ((r.drop 32).take 48 = sha384 (itemData b r)))

/-- Whether a record's form is right. -/
def itemFormOk (b r : Bytes) : Bool :=
  let kind := leAt r 0 1
  let unit := leAt r 1 1
  let fl := leAt r 3 1
  decide (r.length = 128) && decide (1 ≤ kind) && decide (kind ≤ 3) &&
    (if kind = 3 then decide (unit = 0xFF) else if kind = 2 then decide (unit ≤ 5) else decide (unit ≤ 8)) &&
    decide (fl ≤ 3) && (!bitAt fl 0 || (decide (kind = 1) && decide (unit = 0))) && decide (leAt r 8 8 % 4096 = 0) &&
    decide (512 ≤ leAt r 8 8) && decide (leAt r 8 8 + leAt r 16 8 ≤ b.length) && decide (leAt r 24 4 ≤ 3600) && decide (leAt r 80 48 = 0)

/-- Whether a requirement's form is right. -/
def reqFormOk (r : Bytes) : Bool :=
  decide (r.length = 16) && decide (leAt r 0 1 ≤ 8) && decide (leAt r 2 2 = 0) && decide (leAt r 12 4 = 0)

/-- PKGFMT: magic, format, counts, offsets, orders and reserved bytes. -/
def pkgFormOk (b : Bytes) : Bool :=
  let n := leAt b 26 1
  let m := leAt b 27 1
  let ks := leAt b 25 1
  decide (leAt b 0 4 = 0x31474B50) && decide (leAt b 4 4 = 1) && decide (1 ≤ n) && decide (n ≤ 8) && decide (m ≤ 32) && decide (ks ≤ 3) &&
    decide (leAt b 36 1 < 2 ^ ks) && decide (512 ≤ leAt b 28 4) && decide (leAt b 28 4 + 128 * n ≤ b.length) &&
    (decide (m = 0) || (decide (512 ≤ leAt b 32 4) && decide (leAt b 32 4 + 16 * m ≤ b.length))) &&
    decide (leAt b 37 155 = 0) && decide (leAt b 240 16 = 0) && decide (leAt b 449 59 = 0) &&
    (itemRecs b).all (itemFormOk b) && noPair (fun x y => decide (leAt x 2 1 = leAt y 2 1)) (itemRecs b) &&
    ((List.range m).map (reqRec b)).all reqFormOk

/-- Whether the carried key is the fused one of its slot, present and not revoked (R523). -/
def State.keyOk (s : State) (b : Bytes) : Bool :=
  let k := leAt b 25 1
  bitAt s.upd.present k && !bitAt s.upd.revoked k &&
    decide (leValue (sha384 ((b.drop 352).take 97)) = SMap.get (fun _ => 0) s.upd.keys k)

/-- The units an IMAGE item serves. -/
def PkgItem.units (i : PkgItem) : List Nat := if i.kind ≠ 1 then [] else if bitAt i.flags 0 then [0, 1] else [i.unit]

/-- The CFGVER of the image that will read unit `u`'s record once the package is applied. -/
def State.readerCfgver (s : State) (l : List PkgItem) (u : Nat) : Nat :=
  match l.find? (fun i => i.units.contains u) with
  | some i => i.cfgver
  | none => s.runCfgver u

/-- Whether the data of a CONFIG item is a configuration record of its unit and version (R542): its checks match, and its form is right. -/
def recordCrcOk (i : PkgItem) : Bool :=
  let b := i.data
  decide (64 ≤ b.length) && decide (leAt b 60 4 = crc32 (b.take 60)) && decide (leAt b 16 4 + 64 = b.length) &&
    decide (leAt b 20 4 = crc32 (b.drop 64))
def recordFormOk (i : PkgItem) : Bool :=
  let b := i.data
  decide (leAt b 0 4 = 0x31474643) && decide (cfgUnit (leAt b 4 1) = cfgUnit i.unit) && decide (leAt b 5 3 = 0) && decide (leAt b 8 4 = i.ver) &&
    decide (leAt b 24 36 = 0)

/-- The first status of R527 that applies to a package of bytes `b`; 0 where none does. `sig` says whether the signature verifies. -/
def State.stageStatus (s : State) (b : Bytes) (sig : Bool) : Nat :=
  let l := (itemRecs b).map (itemOf b)
  if pkgChecks b = false ∨ l.any (fun i => decide (i.kind = 2) && !recordCrcOk i) = true then 0x40
  else if pkgFormOk b = false ∨ l.any (fun i => decide (i.kind = 2) && !recordFormOk i) = true then 0x41
  else if bitAt (leAt b 24 1) s.code.codesBit = false then 0x42
  else if s.keyOk b = false ∨ sig = false then 0x43
  else if l.any (fun i => i.units.any (fun u => decide (s.arb u = 0xFFFFFFFF))) then 0x45
  else if l.any (fun i => i.units.any (fun u => decide (i.ver < s.arb u)) || (decide (i.kind = 3) && decide (i.ver < s.rd F.LSW_FSVER_VER))) then 0x44
  else if l.any (fun i => decide (i.kind = 2) && decide (s.readerCfgver l i.unit < i.ver)) then 0x46
  else if l.any (fun i => if i.kind = 1 then i.units.any (fun u => decide (slotSize u < i.data.length))
      else if i.kind = 2 then decide (2 ^ 20 + 64 < i.data.length) else decide (512 < i.data.length)) then 0x47
  else 0

/-! ### Staging (R527) -/

/-- The item as STAGE leaves it: SKIPPED where every unit it serves already runs its VERSION confirmed. -/
def State.skipped (s : State) (i : PkgItem) : PkgItem :=
  { i with skip := decide (i.kind = 1) && i.units.all (fun u => decide ((s.bootSlot u []).isSome) && decide (s.confirmedVer u = i.ver)) }

/-- The inactive slots of an item's units made EMPTY, or written with its image. -/
def State.writeSlots (s : State) (i : PkgItem) (written : Bool) : State :=
  if i.skip then s
  else i.units.foldl (fun x u => x.setSlot u (1 - x.slotAct u)
    (if written then { st := 1, ver := i.ver, cfgver := i.cfgver, digest := leValue (sha384 i.data), data := i.data } else { st := 0 })) s

/-- The item registers of a package. -/
def State.itemRegs (s : State) (l : List PkgItem) : State :=
  (List.range 8).foldl (fun x k => match l[k]? with
    | some i => ((((x.wr (F.UPD_ITEMk_STATE k) (if i.skip then 8 else 1)).wr (F.UPD_ITEMk_KIND k) i.kind).wr (F.UPD_ITEMk_UNIT k) i.unit).wr
        (F.UPD_ITEMk_ORDER k) i.order).wr (F.UPD_ITEMk_STATUS k) 0
    | none => x.resetReg (Reg.UPD_ITEMk k)) s

/-- A STAGE that fails. -/
def State.stageFail (s : State) (st : Nat) : State × Result :=
  let t := ((s.inc F.UPD_REJCNT_CNT).wr F.UPD_LASTERR_UNIT 0xF).wr F.UPD_LASTERR_STATUS st
  let t := (t.wr F.UPD_LASTERR_ITEM 0).wr F.UPD_PKGSTAT_STATUS st
  if st = 0x4E then (t, { status := st })
  else (({ t with upd := { t.upd with pkg := none } }).wr F.UPD_PKGSTAT_STATE 5, { status := st })

/-- STAGE of the package at its address. `fail` names a store write that fails, or Canopy's power-down (true), with the items whose
writing had begun. -/
def State.stage (s : State) (d : Desc) (sig : Bool) (fail : Option (Bool × Nat)) : State × Result :=
  let a := d.le 24 8
  let n := d.le 32 8
  if a % 4096 ≠ 0 then (s, { status := 2 })
  else if s.canopyOn = false ∨ inDramRange s.code a n = false then (s, { status := 5 })
  else if s.upd.run.isSome then s.stageFail 0x4E
  else
    let b := s.mem.readBytes a n
    let st := if s.mem.poisoned a n then 0x40 else s.stageStatus b sig
    if st ≠ 0 then s.stageFail st
    else
      let l := ((itemRecs b).map (itemOf b)).map s.skipped
      match fail with
      | some (off, begun) =>
        let t : State := (l.take begun).foldl (fun x i => x.writeSlots i false) s
        t.updRegs.stageFail (if off then 0x50 else 0x4F)
      | none =>
        let t : State := l.foldl (fun x i => x.writeSlots i true) s
        let p : Package := { id := leAt b 8 4, ver := leAt b 12 4, revoke := leAt b 36 1, items := l, reqs := ((List.range (leAt b 27 1)).map (reqRec b)).map reqOf }
        let t : State := { t with upd := { t.upd with pkg := some p } }
        let mib := (n + 1048575) / 1048576
        let t := ((t.updRegs.itemRegs l).wrSat F.UPD_PROGRESS_DONE mib).wrSat F.UPD_PROGRESS_TOTAL mib
        let t := ((t.setReg Reg.UPD_PKGID (BitVec.ofNat 32 p.id)).setReg Reg.UPD_PKGVER (BitVec.ofNat 32 p.ver)).wr F.UPD_PKGSTAT_STATUS 0
        (t.wr F.UPD_PKGSTAT_STATE 2, { bytes := leBytes 4 p.id ++ leBytes 4 p.ver })

/-- STAGE. -/
def execStage (sig : Bool) (fail : Option (Bool × Nat)) (s : State) : Host.Outcome State Fault Refusal :=
  .next (if s.bedOn then s.serve 64 1 (fun d t => t.stage d sig fail) else s)

/-! ### Switching (R536-R540) -/

/-- What switching an engine's firmware does: GNSS leaves one epoch unwritten, Terrace stops and starts with its commands waiting, the
display engine repeats a frame (R538). -/
def State.engineSwitch (s : State) (u : Nat) : State :=
  if u = 3 then (if s.gnsRuns then { s with gns := { s.gns with skipNext := true } } else s)
  else if u = 4 then
    (if s.terUp then
      let t := (s.wr F.TER_STAT_READY 0).wr F.TER_READY_STATE 0
      (t.terLoad (some t.freshNat)).tickFree
    else s)
  else if u = 5 then { s with pan := { s.pan with again := true } }
  else s

/-- Unit `u`'s previous image starts again after a fall-back (R533). -/
def State.updFall (s : State) (u : Nat) : State :=
  if (s.probation u).isNone then s
  else if u ≤ 1 then
    let carried := decide (s.carryIdx = some u)
    let t := ((s.fellMark u).fellStop u).daleHold u
    let t := if carried then t.faultHand u 2 else t
    t.daleStart u []
  else if u = 8 then s.fellFurrow
  else ((s.fellMark u).fellStop u).engineSwitch u

/-! ### Configuration records (R542, R543) -/

/-- The slot a new record of unit `u` replaces: an invalid one or the one with the lower SEQ, but while the unit is on probation never the
one its previous confirmed image reads. -/
def State.cfgTarget (s : State) (u : Nat) : Nat :=
  let low := if (s.cfgRec u 0).ok = false then 0 else if (s.cfgRec u 1).ok = false then 1
    else if (s.cfgRec u 0).seq < (s.cfgRec u 1).seq then 0 else 1
  let units := if u ≤ 1 then [0, 1] else [u]
  match units.find? (fun v => (s.probation v).isSome) with
  | some v =>
    let kept := s.cfgFor u (s.slot v (1 - s.slotAct v)).cfgver
    if kept = some low then 1 - low else low
  | none => low

/-- The SEQ the next record of a unit takes. -/
def State.nextSeq (s : State) (u : Nat) : Nat :=
  (max (if (s.cfgRec u 0).ok then (s.cfgRec u 0).seq else 0) (if (s.cfgRec u 1).ok then (s.cfgRec u 1).seq else 0) + 1) % 2 ^ 32

/-- A record written for unit `u`. -/
def State.cfgPut (s : State) (u cfgver : Nat) (body : Bytes) : State :=
  let x : CfgRec := { ok := true, cfgver := cfgver, seq := s.nextSeq u, body := body }
  let k := 2 * cfgUnit u + s.cfgTarget u
  ({ s with upd := { s.upd with cfg := SMap.set (fun _ => {}) s.upd.cfg k x } }).updRegs

/-- The unit's record written by its running image: it migrates the record where the one in force has a lower CFGVER (R543). -/
def State.cfgWriteBy (s : State) (u : Nat) (body : Bytes) : State × Nat :=
  let v := s.runCfgver u
  let old := (s.cfgFor u v).map (fun k => (s.cfgRec u k).cfgver)
  let seq := s.nextSeq u
  let t := s.cfgPut u v body
  match old with
  | some o =>
    if o < v then
      (((t.inc F.UPD_MIGCNT_CNT).wr F.UPD_STAT_MIGRATED 1).updEvent 4 (cfgUnit u) (t.slotAct u) v o (some sevInfo), seq)
    else (t, seq)
  | none => (t, seq)

/-- A record as CFGREAD returns it: its header and its body. -/
def cfgBytes (u : Nat) (x : CfgRec) : Bytes :=
  let h := [(0, 4, 0x31474643), (4, 1, u), (8, 4, x.cfgver), (12, 4, x.seq), (16, 4, x.body.length), (20, 4, crc32 x.body)].foldl
    (fun b f => putLe b f.1 f.2.1 f.2.2) (List.replicate 60 (0 : Byte))
  h ++ leBytes 4 (crc32 h) ++ x.body

/-- CFGREAD: at most the capacity named is written, into the Bed store at once and towards Canopy through the bridge (R14, R16). -/
def execCfgread (s : State) : Host.Outcome State Fault Refusal :=
  .next (if s.bedOn then s.serve 64 4 (fun d t =>
    let u := d.le 16 1
    if 5 < u then (t, { status := 2 })
    else if inBedStore (d.le 24 8) = true ∧ inBedRange (d.le 24 8) (d.le 32 4) = false then (t, { status := 5 })
    else if inBedStore (d.le 24 8) = false ∧ t.code.memAt (d.le 24 8) (d.le 32 4) = false then (t, { status := 5 })
    else
      match t.cfgFor u (t.runCfgver u) with
      | some k =>
        let x := t.cfgRec u k
        let b := (cfgBytes (cfgUnit u) x).take (d.le 32 4)
        let y := if inBedStore (d.le 24 8) then (t.put (d.le 24 8) b, true) else t.handoff (d.le 24 8) b
        if y.2 then (y.1, { bytes := leBytes 4 x.cfgver ++ leBytes 4 x.seq ++ leBytes 4 x.body.length })
        else (y.1, { status := 6 })
      | none => (t, { bytes := leBytes 12 0 })) else s)

/-- CFGWRITE: UPD reads its source, which lies in the Bed store (R14). -/
def execCfgwrite (s : State) : Host.Outcome State Fault Refusal :=
  .next (if s.bedOn then s.serve 64 5 (fun d t =>
    let u := d.le 16 1
    let n := d.le 32 4
    if 5 < u ∨ 2 ^ 20 < n then (t, { status := 2 })
    else if inBedRange (d.le 24 8) n = false then (t, { status := 5 })
    else if t.mem.poisoned (d.le 24 8) n then (t, { status := 3, poison := true })
    else
      let x := t.cfgWriteBy u (t.mem.readBytes (d.le 24 8) n)
      (x.1, { bytes := leBytes 4 0 ++ leBytes 4 x.2 })) else s)

/-! ### The apply run (R528) -/

/-- The item with the lowest ORDER of at least `o`. -/
def Package.next (p : Package) (o : Nat) : Option Nat :=
  ((p.items.zipIdx.filter (fun e => decide (o ≤ e.1.order))).foldl (fun b e => match b with
    | none => some (e.1.order, e.2)
    | some (m, k) => if e.1.order < m then some (e.1.order, e.2) else some (m, k)) (none : Option (Nat × Nat))).map (fun x => x.2)

/-- The run goes on to the next item, or the package ends. -/
def State.nextItem (s : State) (r : UpdRun) (i : PkgItem) : State :=
  match s.upd.pkg with
  | some p =>
    match p.next (i.order + 1) with
    | some k => (s.wr F.UPD_PKGSTAT_ITEM k).setRun { r with item := k, stage := 0 }
    | none => (s.setRun r).endApply 0 0xF
  | none => s

/-- The package stops at its item with a status. -/
def State.stopItem (s : State) (r : UpdRun) (i : PkgItem) (st : Nat) : State := (s.itemState r.item 1 st).endApply st i.unit

/-- Whether the requirements that stand before an item hold (R526). -/
def State.reqsOk (s : State) (p : Package) (i : PkgItem) : Bool :=
  (p.reqs.filter (fun q => decide (q.before = i.order))).all (fun q => decide (q.minver ≤ s.confirmedVer q.unit) && decide (s.confirmedVer q.unit ≤ q.maxver))

/-- The refusal of R513 that an IMAGE item meets, or 0. -/
def State.pairStatus (s : State) (i : PkgItem) : Nat :=
  match s.carryIdx with
  | none => 0x4C
  | some c =>
    if i.unit ≤ 1 then
      let o := if bitAt i.flags 0 then c else 1 - i.unit
      if s.daleReady o = false ∨ (s.daleBusy 0 || s.daleBusy 1) = true then 0x4A else 0
    else if (i.unit = 6 ∨ i.unit = 7) ∧ s.ics.any (fun k => (s.outIc k).fsafe) = true then 0x4B
    else 0

/-- The ICs of a unit that the code carries. -/
def State.unitIcs (s : State) (u : Nat) : List Nat := s.ics.filter (fun k => decide (k < 6) == decide (u = 6))

/-- The keys the package revokes are fused with the first of its items that is confirmed (R523). -/
def State.fuseKeys (s : State) : State :=
  match s.upd.pkg, s.upd.run with
  | some p, some r => if r.done = 0 then { s with upd := { s.upd with revoked := s.upd.revoked ||| p.revoke } } else s
  | _, _ => s

/-- The requirements of R532 for unit `u`: the slot CONFIRMED, an older one STALE, the counter raised, the keys revoked with the first
item, and a Root save whose verify says whether the confirmation stands. -/
def State.confirmStore (s : State) (u : Nat) (saveOk : Bool) : State :=
  let k := s.slotAct u
  let v := (s.slot u k).ver
  let t := s.setSlot u k { s.slot u k with st := 3 }
  let t : State := { t with upd := { t.upd with arb := SMap.set (fun _ => 0) t.upd.arb u (max (s.arb u) v) } }
  let o := t.slot u (1 - k)
  let t := if o.st = 3 ∧ o.ver < t.arb u then t.setSlot u (1 - k) { o with st := 5 } else t
  let t := t.fuseKeys
  let t : State := { t with upd := { t.upd with opsec := SMap.set (fun _ => 0) t.upd.opsec u (t.rootReg Reg.RTD_OPSEC).toNat } }
  ((t.offProbation u).rootSave 7 saveOk).updRegs

/-- Whether the present instant is a boundary of the Furrow cycle, where Bed firmware switches banks (R273, R537). -/
def State.bankBoundary (s : State) : Bool := decide (s.now % s.furCycle = s.rd F.FUR_OFFSET_OFFSET * 1000)

/-- An item begins once its token is held; Bed firmware's waits for its boundary. -/
def State.startItem (s : State) (r : UpdRun) (i : PkgItem) : State :=
  let t := s.itemState r.item 3 0
  let on := fun (x : State) => x.itemState r.item 4 0
  if i.unit ≤ 1 then
    match t.carryIdx with
    | none => t.itemFail r i.unit
    | some c =>
      if bitAt i.flags 0 ∨ i.unit = 1 - c then (on t).daleNew (1 - c) i.win |>.setRun { r with stage := 2 }
      else
        let x := t.askHandover 2 0 none
        x.1.setRun { r with stage := if x.2 = 0 then 3 else 2 }
  else if i.unit = 8 then
    if inBedRange r.area i.data.length = false ∨ r.area % 64 ≠ 0 then t.itemFail r 8
    else (t.put r.area i.data).furGive { r with stage := 7 } 7 0x10 [(24, 8, r.area), (32, 8, i.data.length)]
  else if i.unit = 6 ∨ i.unit = 7 then (on t).startNew i.unit i.win |>.setRun { r with stage := 9 }
  else if i.unit = 2 ∧ t.bankBoundary = false then t.setRun { r with stage := 10 }
  else ((on t).startNew i.unit i.win).engineSwitch i.unit |>.setRun { r with stage := 6 }

/-- The Dale item's stage before the switch: the standing Dale is READY with its mirrors synchronised, and the handover is asked for. -/
def State.daleStage (s : State) (r : UpdRun) (i : PkgItem) : State :=
  match s.carryIdx with
  | none => s
  | some c =>
    if s.daleReady (1 - c) = true ∧ s.rd F.HLT_MIRCTL_SYNC = 0 ∧ (bitAt i.flags 0 = true ∨ (s.probation (1 - c)).isSome ∨ i.unit = c) then
      let x := s.askHandover 2 0 none
      if x.2 = 0 then x.1.setRun { r with stage := 3 } else s
    else s

/-- A confirmed item: its state, the CONFIRMED event, its token, and the next item (R532); a Dale item that serves both Dales goes on with
the other one. -/
def State.confirmed (s : State) (u : Nat) : State :=
  let k := s.slotAct u
  let t := s.updEvent 2 u k (s.slot u k).ver 0 none
  match t.runItem with
  | none => t
  | some (r, i) =>
    if r.stage = 4 ∧ bitAt i.flags 0 = true then (t.daleNew (1 - u) i.win).setRun { r with stage := 5 }
    else
      let t := (t.itemState r.item 5 0).tokGive (updToken u)
      t.nextItem { r with done := r.done + 1 } i

/-- One step of the run; the same state where it waits. -/
def State.updStep (s : State) : State :=
  match s.upd.pkg, s.runItem with
  | some p, some (r, i) =>
    match r.stage with
    | 0 =>
      if r.aborts ≠ [] then s.endApply 0x4D 0xF
      else if i.skip then s.nextItem r i
      else if s.reqsOk p i = false then s.stopItem r i 0x46
      else if i.kind = 2 then ((s.fuseKeys.cfgPut i.unit i.ver (i.data.drop 64)).itemState r.item 5 0).nextItem { r with done := r.done + 1 } i
      else if i.kind = 3 then
        (((({ s with upd := { s.upd with table := some i.data } }).itemState r.item 7 0).updEvent 5 0xFF 0 i.ver 0 none)).nextItem r i
      else if s.pairStatus i ≠ 0 then s.stopItem r i (s.pairStatus i)
      else
        let x := s.tokAsk (updToken i.unit) ownerUpdate 9
        if x.2 then x.1.startItem r i else (x.1.itemState r.item 2 0).setRun { r with stage := 1 }
    | 1 => if s.holdsToken (updToken i.unit) ownerUpdate then s.startItem r i else s
    | 2 => s.daleStage r i
    | 3 => if s.hlt.hand.isNone then s.setRun { r with stage := 2 } else s
    | 4 =>
      if bitAt i.flags 0 = false ∧ (s.probation i.unit).isNone ∧ s.carryIdx = some (1 - i.unit) then
        ((s.itemState r.item 4 0).daleNew i.unit i.win).setRun { r with stage := 5 }
      else s
    | 10 => if s.bankBoundary then ((s.itemState r.item 4 0).startNew i.unit i.win).setRun { r with stage := 6 } else s
    | 9 =>
      match (s.unitIcs i.unit).find? (fun k => r.icFail.contains k) with
      | some _ => s.updFall i.unit
      | none => ((s.confirmStore i.unit true)).confirmed i.unit
    | _ => s
  | _, _ => s

/-- The run goes on until it waits; `fuel` bounds it. -/
def State.updGo (s : State) (fuel : Nat) : State :=
  match fuel with
  | 0 => s
  | k + 1 =>
    let t := s.updStep
    if t.upd.run = s.upd.run then t else t.updGo k

/-- The run goes on. -/
def State.updRun (s : State) : State := s.updGo 64

/-- APPLY: begun by its descriptor, and carried on each time the command is given while it runs. `icFail` names the ICs that fail their
confirmation (R539). -/
def execApply (icFail : List Nat) (s : State) : Host.Outcome State Fault Refusal :=
  .next (
    if s.bedOn = false then s
    else
      match s.upd.run with
      | some r => (s.setRun { r with icFail := icFail }).updRun
      | none =>
        match s.running 64 2 with
        | none => s
        | some d =>
          match s.upd.pkg with
          | none => s.complete 64 d { status := 0x48 }
          | some p =>
            match p.next 0 with
            | none => s.complete 64 d { status := 0x48 }
            | some k =>
              let t : State := p.items.zipIdx.foldl (fun x e => if e.1.skip then x else x.itemState e.2 2 0) s
              let t := ((t.wr F.UPD_PKGSTAT_STATE 3).wr F.UPD_PKGSTAT_STATUS 0).wr F.UPD_PKGSTAT_ITEM k
              (t.setRun { desc := d, area := d.le 24 8, item := k, icFail := icFail }).updRun)

/-- ABORT: the running item reaches its end first (R529); with no APPLY running it completes at once. -/
def execAbortCmd (s : State) : Host.Outcome State Fault Refusal :=
  .next (
    if s.bedOn = false then s
    else
      match s.upd.run with
      | none => s.serve 64 3 (fun _ t => (t, {}))
      | some r =>
        match (s.ring 64).taken.find? (fun d => d.running && decide (d.op = 3) && !r.aborts.contains d) with
        | some d => (s.setRun { r with aborts := r.aborts ++ [d] }).updRun
        | none => s)

/-! ### Confirmation (R531-R533) -/

/-- A write of UPD_CONFIRM refused: 1 RANGE, 2 NOTAGENT. -/
def State.updReject (s : State) (u cause : Nat) : State :=
  ((s.wr F.UPD_BADCFG_CAUSE cause).wr F.UPD_BADCFG_UNIT u).flag F.UPD_STAT_CFGREJ F.UPD_CTL_IE_CFG

/-- A write of UPD_CONFIRM by `a`: `k` is what the confirming agent's write does for its unit. -/
def State.confirmGate (s : State) (a : Agent) (v : W32) (k : Nat → State → State) : State :=
  let u := getBits v 3 0
  if s.bedOn = false then s.fail
  else if 8 < u then (s.updReject u 1).done
  else if s.confirms a u = false then (s.updReject u 2).fail
  else k u s.done

/-- Whether UPD accepts a confirmation of unit `u` now: it is on probation, and a Dale's item has reached the stage R536 asks for. -/
def State.mayConfirm (s : State) (u : Nat) : Bool :=
  (s.probation u).isSome &&
    (match s.upd.run with
      | some r => decide (1 < u) || (decide (r.stage = 4) && decide (s.carryIdx = some u)) || decide (r.stage = 5)
      | none => true)

/-- A unit's confirmation, committed in the order of R532. -/
def State.confirmUnit (s : State) (u : Nat) (saveOk : Bool) : State :=
  if s.mayConfirm u = false then s
  else
    let t := s.confirmStore u saveOk
    if saveOk then (t.confirmed u).updRun else { t with upd := { t.upd with unsaved := t.upd.unsaved ++ [u] } }

/-- A confirmation that waited for a Root save stands once one has verified. -/
def State.confirmSaved (s : State) : State :=
  let l := s.upd.unsaved
  l.foldl (fun x u => (x.confirmed u).updRun) { s with upd := { s.upd with unsaved := [] } }

/-- CONFIRM: the write of KEY 0xC0F1. -/
def execConfirm (agent : Agent) (value : W32) (saveOk : Bool) (s : State) : Host.Outcome State Fault Refusal :=
  .next (s.confirmGate agent (setBits value 31 16 0xC0F1) (fun u t => t.confirmUnit u saveOk))

/-- DECLARE_FAILURE: the write of KEY 0xFA11. -/
def execDeclareFailure (agent : Agent) (value : W32) (s : State) : Host.Outcome State Fault Refusal :=
  .next (s.confirmGate agent (setBits value 31 16 0xFA11) (fun u t => (t.updFall u).updRun))

/-- A write of UPD_CONFIRM: any other KEY does nothing. -/
def State.updConfirmWrite (s : State) (a : Agent) (v : W32) (saveOk : Bool) : State :=
  if getBits v 31 16 = 0xC0F1 then s.confirmGate a v (fun u t => t.confirmUnit u saveOk)
  else if getBits v 31 16 = 0xFA11 then s.confirmGate a v (fun u t => (t.updFall u).updRun)
  else s.confirmGate a v (fun _ t => t)

/-- PROBATION_EXPIRY: the window of unit `u` has ended. -/
def execProbationExpiry (u : Nat) (s : State) : Host.Outcome State Fault Refusal :=
  .next (match s.probation u with
    | some (t0, w) => if s.bedOn = true ∧ t0 + w ≤ s.now then s.updFall u else s
    | none => s)

/-! ### The deferred table (R541) -/

/-- The newest deferred table written by FSWRITE's rules; `failed` names ICs that do not commit. -/
def State.deferredWrite (s : State) (b : Bytes) (failed : List Nat) : State × Nat :=
  if tableHeadOk s.code b = false then (s, 0x48)
  else if (List.range 112).any (fun k => !(if s.outCarried k then entryOk k (tableEntry b k) else decide (tableEntry b k = 0))) then (s, 0x49)
  else
    let who := s.ics.filter (fun i => !failed.contains i)
    let t := (s.commitTable b who).storedRegs
    if who.length < s.ics.length then (t, 0x4A)
    else
      let t : State := { t with outs := { t.outs with tableId := leAt b 8 4, tableVer := leAt b 12 4, tableCodes := leAt b 16 1 } }
      (t.storedRegs, 0)

/-- Scarecrow writes the deferred table: on DONE it is no longer deferred, any other status is recorded. -/
def State.deferredTable (s : State) (failed : List Nat) : State :=
  match s.upd.table with
  | none => s
  | some b =>
    let x := s.tokAsk 6 6 0xB
    if x.2 = false then x.1
    else
      let y := x.1.deferredWrite b failed
      let t := y.1.tokGive 6
      if y.2 = 0 then (({ t with upd := { t.upd with table := none } }).updRegs).updEvent 6 0xFF 0 (leAt b 12 4) 0 none
      else t.record 0x05 0x41 sevWarning y.2 (leAt b 12 4) 0

end Sys2Proof.Machine
end

