-- ==== Sys2Proof/Machine/PowerBase.lean ====
section
/-! DEFINITION. What the steps of the power sequences do to the domains (R474-R478, R484): Bed and Canopy returned to their reset values, the
start of Bed's firmware, the stop of Bed's engines, and the closing of Canopy. -/

namespace Sys2Proof.Machine

/-! ### The reset log (R494) -/

/-- SYS_RSTLOG entry `i` written, SYS_RSTCAUSE showing it; the time is Sundial's in µs. -/
def State.rstEntry (s : State) (i cause : Nat) : State :=
  let w0 := cause * 2 ^ 28 + s.rd F.SYS_PWRSTATE_STATE * 2 ^ 24 + s.pwr.step * 2 ^ 16
  let t := (s.wr (F.SYS_RSTLOGk_W_ENTRY i 0) w0).wr (F.SYS_RSTLOGk_W_ENTRY i 1) (s.rootReg Reg.RTD_PWRCYC).toNat
  let t := (t.wr (F.SYS_RSTLOGk_W_ENTRY i 2) (s.rootReg Reg.RTD_OPSEC).toNat).wr (F.SYS_RSTLOGk_W_ENTRY i 3) (s.now / 1000)
  (t.wr F.SYS_RSTCAUSE_CAUSE cause).wr F.SYS_RSTCAUSE_NEWEST i

/-- A reset logged; the oldest of 16 entries is overwritten. -/
def State.logReset (s : State) (cause : Nat) : State :=
  (s.rstEntry ((s.rd F.SYS_RSTCAUSE_NEWEST + 1) % 16) cause).inc F.SYS_RSTCAUSE_COUNT

/-! ### Bed at its reset values (BU3) -/

/-- Whether a Bed register keeps its word at BU3: the store's own count, and in a module reset the reset log and SDL_TRIM (R484, R494). -/
def bedKept (reset : Bool) (key : Nat) : Bool :=
  decide (key = Reg.EVR_NOROOM) ||
    (reset && (decide (key = Reg.SYS_RSTCAUSE) || (decide (Reg.SYS_RSTLOGk_W 0 0 ≤ key) && decide (key < Reg.SYS_RSTLOGk_W 0 0 + 0x100)) || decide (key = Reg.SDL_TRIM)))

/-- Sequences and timers of SYS as Bed finds them. -/
def Pwr.fresh (p : Pwr) : Pwr :=
  { p with retries := 0, retryAt := none, failed := false, ignBar := none, bu6At := 0, under16 := false, coolAt := none, hotAt := none, shedAt := 0,
           sent := 0, parts := [], tableDue := false, held := false, hot := false }

/-- Every Bed block at its reset values and the Bed store written clean (R32, R474). What a module reset leaves is what only a Bed power-up
ends: lasting faults, the switches counted (R509), the isolation of a Dale (R498), excluded gauges and the Bed rail (R41, R42). At a power-up SDL_TRIM holds the saved trim
(R55). That RTD's holding banks, read in Bed, are zeroed with Bed's is a DESIGN CHOICE beside R73 and R85 (notes/assumptions/15.md). -/
def State.bedReset (s : State) (reset : Bool) : State :=
  let isolated := (List.range 2).filter (fun n => reset && decide (s.daleState n = 4))
  let t := s.resetRegs (fun k => decide (k < 0xF000) && !bedKept reset k)
  let hlt : Health := if reset then { lostRegs := s.hlt.lostRegs, spareWords := s.hlt.spareWords, units := s.hlt.units, switches := s.hlt.switches } else {}
  let ics := if reset then s.outs.ics else (List.range 14).foldl (fun m i => SMap.set (fun _ => {}) m i { s.outIc i with locked := false }) s.outs.ics
  let tim : Timing := { savedTrim := s.tim.savedTrim, trimSaved := s.tim.trimSaved, breachBed := reset && s.tim.breachBed }
  let excl := (List.range 4).filter (fun n => reset && s.on (F.HLT_PACEn_EXCL n))
  let rail := s.rd F.HLT_VCORE_BED
  let upd : Upd := { s.upd with pkg := none, run := none, prob := [], furIdx := none, unsaved := [] }
  let t : State := { t with wide := SMap.keep (fun k => decide (0x10000 ≤ k) || decide (k / 0x1000 = 2)) s.wide, banks := [], badParity := [], rings := [],
                            mbxStage := [], mbxOwed := [], toks := [], tim := tim, ing := {}, trl := {}, fur := {}, vlv := {}, lsw := {}, can := {},
                            pan := {}, hlt := hlt, upd := upd, outs := { s.outs with ics := ics }, evr := { s.evr with queue := [] },
                            irqs := s.irqs.filter (fun i => decide (i.dest ≠ .noDale)), held := [0, 1, 4, 5], pwr := s.pwr.fresh }
  let t : State := isolated.foldl (fun x n => x.wr (F.HLT_DALEn_STAT_STATE n) 4) t
  let t : State := excl.foldl (fun x n => x.wr (F.HLT_PACEn_EXCL n) 1) t
  let t := if reset then t.wr F.HLT_VCORE_BED rail else t.setTrim t.tim.savedTrim
  ({ t with bedOn := true }.putZero bedStoreBase 0x2000000).evrFillRegs

/-- Sundial as Bed powers up: the larger of the calendar and the last saved time and 1 s, rounded up to a multiple of 8 (R51). -/
def State.sundialStart (s : State) : State :=
  let c := s.pwr.cal / 64
  let m := max c (s.wideGet Reg.RTD_SDLSAVE_LO + 1000000000)
  { s with now := (m + 7) / 8 * 8 }

/-- The durations measured before SYS ran, now in SYS_STEPTIMEs. -/
def State.earlySteps (s : State) : State :=
  let t : State := s.pwr.early.foldl (fun x e => x.measured (F.SYS_STEPTIMEs_LAST (e.1 - 1)) (F.SYS_STEPTIMEs_PEAK (e.1 - 1)) e.2) s
  t.setPwr { t.pwr with early := [] }

/-! ### The start of Bed's firmware (BU4) -/

/-- Anti-rollback counters raised to the confirmed versions, the power-cycle count and the reset log of a Bed power-up (R494, R522). -/
def State.bedPowerUp (s : State) : State :=
  let t : State := (List.range 9).foldl (fun x u =>
    { x with upd := { x.upd with arb := SMap.set (fun _ => 0) x.upd.arb u (max (x.arb u) (x.confirmedVer u)) } }) s
  let t := t.setRoot Reg.RTD_PWRCYC (BitVec.ofNat 32 (satAdd 32 (t.rootReg Reg.RTD_PWRCYC).toNat 1))
  let t := t.rstEntry 0 t.pwr.cause
  t.setPwr { t.pwr with cause := 3, booted := true }

/-- Unit 2 starts, and with it units 6 to 8; the second component is false where unit 2 has no bootable slot (R522). -/
def State.bedBoot (s : State) (ms : Nat) (bad : List Nat) : State × Bool :=
  let t := if s.pwr.booted then s else s.bedPowerUp
  let can := (t.bootSlot 2 bad).isSome
  let t := t.startUnit 2 bad
  if can then
    let t := ([6, 7, 8].foldl (fun x u => x.startUnit u bad) t).updRegs
    (((t.wr F.UPD_BOOT_SLOT (t.slotAct 2)).wrSat F.UPD_BOOT_MS ms).refreshCopies, true)
  else (t.updRegs.record 0x05 0x40 sevFault 0 0 0, false)

/-! ### Links and transceivers (BU5, BU6) -/

/-- The serial links of the output stages trained and the fail-safe request line released; an IC stays in its fail-safe state until
RESUME (R471). -/
def State.linksUp (s : State) : State :=
  let t : State := s.ics.foldl (fun x i =>
    let y := (((x.wr (icReq i) 0).wr (icLink i) 1).wrB (icFsafe i) (x.outIc i).fsafe).setOutIc i { x.outIc i with last := x.now, period := x.icPeriod i }
    if (x.outIc i).fsafe then y.safeShown i else y) s
  t.storedRegs

/-- CAN controllers and transceivers ready: a controller in standby returns to the state its MODE gives, and CAN wakes are reported. -/
def State.cansUp (s : State) : State :=
  let t : State := (List.range s.code.cans).foldl (fun x c =>
    if x.canState c = 5 then x.wr (F.CAN_CHc_STAT_STATE c) (if x.rd (F.CAN_CHc_CTL_MODE c) = 1 then 3 else 2) else x) s
  let t : State := s.pwr.canWake.foldl (fun x w =>
    ((((x.wr F.CAN_WAKESRC_VALID 1).wr F.CAN_WAKESRC_CAUSE w.2).wr F.CAN_WAKESRC_CH w.1).wr F.CAN_STAT_WAKE 1).ctlEvent 14 w.1 none) t
  t.setPwr { t.pwr with canWake := [], wuf := [] }

/-! ### Bed's engines stop (BD3, BD4) -/

/-- Furrow enters STOPPED, Trellis loops stop, the CAN transceivers enter standby; transceivers 0 and 1 copy their wake-up frames (R368). -/
def State.enginesStop (s : State) : State :=
  let t := if s.rd F.FUR_STATE_STATE = 0 then s else ((s.furRelease true).furStopped).wr F.FUR_RUN_EN 0
  let t : State := (List.range 64).foldl (fun x n => if x.loopOn n then (x.wr (F.TRL_Ln_CTL_EN n) 0).loopStop n else x) t
  let wuf := ((List.range 2).filter (fun c => t.on (F.CAN_CHc_CTL_WUFEN c) && (decide (t.canState c = 2) || decide (t.canState c = 3)))).map
    (fun c => (c, t.reg (Reg.CAN_CHc_WUFID c), t.reg (Reg.CAN_CHc_WUFMASK c)))
  let t : State := (List.range t.code.cans).foldl (fun x c =>
    if x.canState c = 2 ∨ x.canState c = 3 then x.wr (F.CAN_CHc_STAT_STATE c) 5 else x) t
  t.setPwr { t.pwr with wuf := wuf }

/-- The recorder's queue is written out (R551). -/
def State.emptyQueue (s : State) (fuel : Nat) : State :=
  match fuel, s.evr.queue with
  | k + 1, r :: _ =>
    let t := s.popQueue
    let u := if r.software then (t, true) else t.takeBucket r.code r.sev
    (if u.2 then u.1.storeRec r else u.1).emptyQueue k
  | _, _ => s

/-- What BD4 saves: the queue, Sundial, the wear counts, the posted writes and the Root save (R475). -/
def State.bedSaves (s : State) (ok : Bool) : State :=
  let t := (s.fellAll (List.range 9)).emptyQueue 64
  let t := (t.wideSet Reg.RTD_SDLSAVE_LO t.now).commitWear
  let t := t.setPwr { t.pwr with lastOff := t.pwr.cal }
  (t.commitAll).rootSave 2 ok

/-! ### Canopy (CU3, CU5, CD4) -/

/-- Every Canopy block at its reset values (CU3); what stands on NAND and drives stays. -/
def State.canopyReset (s : State) : State :=
  let t := s.resetRegs (fun k => decide (0x10000 ≤ k))
  let ter : Terrace := { s.ter with cpls := [] }
  let t : State := { t with wide := SMap.keep (fun k => decide (k < 0x10000)) s.wide, banks := SMap.keep (fun k => decide (k % 0x100000 < 0x10000)) s.banks,
                            badParity := s.badParity.filter (fun k => k < 0x10000), fab := {}, bridge := {}, cam := {}, pra := {}, prod := {},
                            gns := {}, eth := {}, traps := [], pce := {}, ter := ter, dram := { s.dram with errs := [], cmd := none, scrub := none, visited := 0 },
                            hlt := { s.hlt with engOff := [] }, tim := { s.tim with compares := [], coming := [], breachCanopy := false } }
  let t : State := (gaugesOf true).foldl (fun x n => (x.wr (F.HLT_PACEn_EXCL n) 0).wr (F.HLT_PACEn_VALID n) 0) t
  { t.wr F.HLT_VCORE_CANOPY 750 with canopyOn := true }

/-- The Canopy agents start with Dale A carrying (CU5, R21); the analyser streams owe GAP (R134). -/
def State.agentsStart (s : State) (bad : List Nat) : State :=
  let t := ([3, 4, 5].foldl (fun x u => x.startUnit u bad) s).updRegs
  let t := (t.daleStart 0 bad).daleStart 1 bad
  let t := if t.daleState 0 = 1 then t.setCarry 0 else t
  let t := if t.carryIdx.isSome then t.setHlt { t.hlt with noneSince := none, ordered := false, hand := none } else t
  let t := if t.carryIdx = some 0 then t.handIrqs 0 else t
  let t : State := (List.range 8).foldl (fun x i => x.setStream (96 + i) { x.stream (96 + i) with gap := true, flight := [] }) t
  (((t.freeAgent 4).freeAgent 5).freeAgent 7).laneRegs

/-- The Bed bridge closes: what it holds reaches its place first. -/
def State.bridgeClose (s : State) : State :=
  let t : State := s.bridge.inbound.foldl (fun x l => x.landLine l) s
  let t : State := s.bridge.outbound.foldl (fun x l => x.store l.addr l.data l.poison) t
  { t with bridge := {} }

/-- What CD4 does: the Dales held in reset, the bridge closed, Canopy's rings disabled, its mailboxes emptied, its links down. -/
def State.canopyClose (s : State) : State :=
  let t := ((s.fellAll [0, 1, 3, 4, 5]).bridgeClose).holdAgents [0, 1, 4, 5, 7]
  let t := ((t.daleHold 0).daleHold 1).noCarry
  let t := [0, 1].foldl (fun x n => if x.daleState n = 4 then x else x.wr (F.HLT_DALEn_STAT_STATE n) 0) t
  let t := ((t.setHlt { t.hlt with hand := none }).wr F.HLT_HOSTAT_STATE 0)
  let t := ((t.canopyRingsOff).pceLinksDown).nvmeCloseAll
  [4, ownerMem, ownerPrairie].foldl State.tokEnd ((t.panelDoze).panelCanopyDown).terCanopyDown

end Sys2Proof.Machine
end

