-- ==== Sys2Proof/Machine/Power.lean ====
section
/-! DEFINITION. The power sequences, network sleep, wakes, resets and heat (R469-R488): a sequence is the code of its present step; each
duration of a sequence's command ends one step, with the step's effect, and enters the next. -/

namespace Sys2Proof.Machine

/-! ### Steps -/

/-- The length of step code `n` recorded in SYS_STEPTIMEs, or kept for it while SYS does not run. -/
def State.logStep (s : State) (n ms : Nat) : State :=
  if s.bedOn then s.measured (F.SYS_STEPTIMEs_LAST (n - 1)) (F.SYS_STEPTIMEs_PEAK (n - 1)) ms
  else s.setPwr { s.pwr with early := s.pwr.early ++ [(n, ms)] }

/-- Step code `n` shown (0 for none). -/
def State.setStep (s : State) (n : Nat) : State :=
  let t := s.setPwr { s.pwr with step := n, stepAt := s.now }
  if t.bedOn then t.wr F.SYS_PWRSTATE_STEP n else t

/-- A reversal counted (R479). -/
def State.reversed (s : State) : State := if s.bedOn then (s.wr F.SYS_STAT_REVERSED 1).inc F.SYS_PWRSTATE_REVCNT else s

/-- The step that follows the present one where a reversal has set it. -/
def State.setTurn (s : State) (n : Option Nat) : State := s.setPwr { s.pwr with turn := n }

/-- SYS_PWRSTATE.TARGET: 0 SLEEP, 1 DOZE, 2 FIELD. -/
def State.target (s : State) : Nat := s.rd F.SYS_PWRSTATE_TARGET

/-- A step is entered, with what happens at its start. CD1 takes no time. -/
def State.pwrEnter (s : State) (n : Nat) : State :=
  let t := (s.setStep n).setTurn none
  match n with
  | 0x07 => (t.wr F.SYS_SLEEPSTAT_PHASE 4).requestSafe
  | 0x08 => t.panelRequest false
  | 0x05 => t.wr F.SYS_SLEEPSTAT_PHASE 0
  | 0x0A => t.wr F.SYS_SLEEPSTAT_PHASE 0
  | 0x12 =>
    let u := t.wr F.SYS_STAT_CDOWN 1
    let u := if u.on F.SYS_CTL_IE_CDOWN then
        ((u.irq (.agent .daleA) (.status Reg.SYS_STAT 31)).irq (.agent .daleB) (.status Reg.SYS_STAT 31)).irqScare (.status Reg.SYS_STAT 31)
      else u
    (u.logStep 0x12 0).setStep 0x13
  | 0x14 => t.terStop
  | _ => t

/-! ### Network sleep (R481, R482) -/

/-- The controllers that take part in the sleep agreement. -/
def State.sleepers (s : State) : List Nat :=
  (List.range s.code.cans).filter (fun c => bitAt (s.rd F.SYS_SLEEPCFG_SLEEPEN) c && decide (s.canState c = 2) && decide (s.claimState c = 2))

/-- A network management frame on each controller that takes part. -/
def State.sendMgmt (s : State) (kind hold : Nat) : State := s.pwr.parts.foldl (fun x c => x.pendMgmt c kind hold) s

/-- The hold window in ns. -/
def State.holdOff (s : State) : Nat := s.rd F.SYS_SLEEPCFG_HOLDOFF * 100000000

/-- SLEEPREQ with the hold time left in 10 ms units. -/
def State.sleepReq (s : State) : State :=
  (s.sendMgmt 1 ((s.pwr.holdAt + s.holdOff - s.now) / 10000000)).setPwr { s.pwr with reqAt := s.now }

/-- TARGET SLEEP in the Doze state: N1, or BD1 where no controller takes part. -/
def State.startSleep (s : State) : State :=
  let p := s.sleepers
  let t := s.setPwr { s.pwr with parts := p, holdAt := s.now, sent := 0 }
  if p.isEmpty then t.pwrEnter 0x07 else ((t.pwrEnter 0x18).wr F.SYS_SLEEPSTAT_PHASE 1).sleepReq

/-- A GOSLEEP sent; after the third N3 begins. -/
def State.goSleep (s : State) : State :=
  let t := s.sendMgmt 3 0xFFFF
  let t := t.setPwr { t.pwr with sent := t.pwr.sent + 1, reqAt := t.now }
  if t.pwr.sent = 3 then ((t.logStep 0x19 ((t.now - t.pwr.stepAt) / 1000000)).pwrEnter 0x1A).wr F.SYS_SLEEPSTAT_PHASE 3 else t

/-! ### Towards TARGET (R473) -/

/-- The sequence towards TARGET starts where none runs. -/
def State.kick (s : State) : State :=
  if s.bedOn = false ∨ s.pwr.step ≠ 0 ∨ s.pwr.tableDue = true then s
  else if s.pwr.st = 2 then
    if s.target = 2 then
      if s.pwr.failed = true ∨ s.pwr.retryAt.isSome = true ∨ s.rd F.SYS_SHED_SHST = 2 then s else s.pwrEnter 0x0D
    else if s.target = 0 then s.startSleep
    else s
  else if s.pwr.st = 3 ∧ s.target ≠ 2 then s.pwrEnter 0x12
  else s

/-- Whether a wake source is enabled. -/
def State.wakeOn (s : State) (src : Nat) : Bool := bitAt (s.rootRd F.RTD_WAKECFG_EN) src

/-- Root latches a wake from an enabled source and accepts it: BU1 (R480). -/
def State.wakeAccept (s : State) (src : Nat) : State :=
  if s.pwr.st = 1 ∧ s.wakeOn src = true then
    let t := s.rootWr F.RTD_WAKESTAT_SRC (s.rootRd F.RTD_WAKESTAT_SRC ||| 2 ^ src)
    if t.pwr.step = 0 then (t.setPwr { t.pwr with early := [] }).pwrEnter 0x01 else t
  else s

/-- STATECHG on reaching a state. -/
def State.stateReached (s : State) (st : Nat) : State :=
  let t := s.setStep 0
  let t := (t.setPwr { t.pwr with st := st }).wr F.SYS_PWRSTATE_STATE st
  ((t.setTurn none).flag F.SYS_STAT_STATECHG F.SYS_CTL_IE_STATE)

/-- The Doze state is reached: CDOWN clears; after Bed up the CAN controllers are ready and a module reset ends; a deferred fail-safe table is
written before the next sequence (R541). -/
def State.enterDoze (s : State) : State :=
  let up := decide (s.pwr.step ≤ 6)
  let t := if up then s.cansUp else s
  let t := t.wr F.SYS_STAT_CDOWN 0
  let t := if up then t.setPwr { t.pwr with bu6At := t.now, reset := false, under16 := false } else t
  let t := t.stateReached 2
  (t.setPwr { t.pwr with tableDue := t.upd.table.isSome }).kick

/-- The Field state is reached. -/
def State.enterField (s : State) : State :=
  let t := s.setPwr { s.pwr with retries := 0 }
  ((t.wr F.SYS_STAT_CDOWN 0).stateReached 3).kick

/-- Bed's rails are off: pending latches commit (R78), and the next Bed power-up logs WAKE. -/
def State.bedGone (s : State) : State :=
  let t := s.commitAll
  t.setPwr { t.pwr with st := 1, step := 0, turn := none, cause := 3, early := [], booted := false }

/-- The Root-armed state is reached: ign_sense high starts Bed up at once. -/
def State.enterArmed (s : State) : State :=
  let t := s.bedGone
  if t.rootRd F.RTD_WAKELVL_IGN = 1 then t.wakeAccept 1 else t

/-- Canopy up has failed: recorded, and to be tried again while RETRY allows (R477). -/
def State.canopyFailed (s : State) : State :=
  let t := (s.wr F.SYS_STAT_CANFAIL 1).record 0x00 0x41 sevSafety 0 0 0
  if t.pwr.retries < t.rd F.SYS_PWRCFG_RETRY then t.setPwr { t.pwr with retryAt := some (t.now + 1000000000) }
  else t.setPwr { t.pwr with failed := true }

/-- The step that follows step `n`. A reversal during CD4 takes effect at the end of CD5, so `endStep` keeps it. -/
def State.following (s : State) (n : Nat) : Nat :=
  match s.pwr.turn with
  | some m => if n = 0x15 then 0x16 else m
  | none => if n = 6 ∨ n = 0x17 then 0 else if n = 0x11 then 0x20 else n + 1

/-- Step `m` follows; CD6 and BD6 take no time. -/
def State.goStep (s : State) (m : Nat) : State :=
  match m with
  | 0x00 => s.enterDoze
  | 0x01 => s.bedGone.pwrEnter 0x01
  | 0x0C => s.enterArmed
  | 0x17 => (s.logStep 0x17 0).enterDoze
  | 0x20 => s.enterField
  | _ => s.pwrEnter m

/-- What step `n` does as it ends; the second component is the step to follow where it is not the next one. -/
def State.stepEffect (s : State) (q : SeqIn) (n ms : Nat) : State × Option Nat :=
  match n with
  | 0x02 => (s.sundialStart, none)
  | 0x03 =>
    let t := (s.bedReset s.pwr.reset).earlySteps
    let t := if s.pwr.reset then
        (t.wr F.SYS_PWRSTATE_STEP 3).record 0x00 (if s.pwr.rstAs = 8 then 0x43 else 0x44) sevSafety s.pwr.rstAs 0 0
      else t
    (t, none)
  | 0x04 =>
    let x := s.bedBoot ms q.bad
    (x.1, if x.2 then none else some 4)
  | 0x05 => (s.linksUp, none)
  | 0x09 => (s.enginesStop, none)
  | 0x0A => (if s.bedOn then s.bedSaves q.saveOk else s, none)
  | 0x0B => ({ s with bedOn := false }, none)
  | 0x0F => (s.canopyReset, none)
  | 0x10 =>
    let t := s.dramStart q.found
    if t.on F.MEM_STAT_READY then ((t.grantWaits 16 trackerSize).fabRegs, none) else (t.canopyFailed, some 0x16)
  | 0x11 => (s.agentsStart q.bad, none)
  | 0x15 => (s.canopyClose, none)
  | 0x16 => (s.canopyDark, none)
  | _ => (s, none)

/-- The present step ends after `ms`: its length, its effect, and the step that follows. BU5 cannot follow a Bed down that ends a Bed up
whose blocks never ran: BU3 follows. -/
def State.endStep (s : State) (q : SeqIn) (ms : Nat) : State :=
  let n := s.pwr.step
  let x := (s.logStep n ms).stepEffect q n ms
  let m := x.2.getD (x.1.following n)
  let t := x.1.goStep (if m = 5 ∧ x.1.bedOn = false then 3 else m)
  if n = 0x15 then t.setTurn x.1.pwr.turn else t

/-- Whether the present step waits for something: GO or the grace time, the posted writes not committed at BD4 (R79), the panel's down sequence, a
running FSWRITE, or cool sensors. -/
def State.stepWaits (s : State) : Bool :=
  decide (s.pwr.step = 0x13) || (decide (s.pwr.step = 0x0A) && s.bedOn && !s.latches.isEmpty) || (decide (s.pwr.step = 0x08) && s.bedOn && decide (s.rd F.DSP_PWRSTAT_STATE ≠ 0)) ||
    (decide (s.pwr.step = 0x0D) && s.lsw.writing.isSome) || (decide (s.pwr.step = 0x03) && s.pwr.hot)

/-- The steps of a sequence whose codes lie from `lo` to `hi` end one after the other. -/
def State.runSteps (lo hi : Nat) (q : SeqIn) : List Nat → State → State
  | [], s => s
  | ms :: r, s =>
    if lo ≤ s.pwr.step ∧ s.pwr.step ≤ hi ∧ s.stepWaits = false then State.runSteps lo hi q r (s.endStep q ms) else s

/-- BED_UP. -/
def execBedUp (q : SeqIn) (s : State) : Host.Outcome State Fault Refusal := .next (State.runSteps 0x01 0x06 q q.durs s)

/-- BED_DOWN. -/
def execBedDown (q : SeqIn) (s : State) : Host.Outcome State Fault Refusal := .next (State.runSteps 0x07 0x0B q q.durs s)

/-- CANOPY_UP. -/
def execCanopyUp (q : SeqIn) (s : State) : Host.Outcome State Fault Refusal := .next (State.runSteps 0x0D 0x11 q q.durs s.kick)

/-- CANOPY_UP_RETRY: 1 s after a failure CU2 to CU5 run again (R477). -/
def execCanopyUpRetry (q : SeqIn) (s : State) : Host.Outcome State Fault Refusal :=
  .next (
    match s.pwr.retryAt with
    | some t0 =>
      if t0 ≤ s.now ∧ s.bedOn = true ∧ s.pwr.st = 2 ∧ s.pwr.step = 0 ∧ s.target = 2 ∧ s.rd F.SYS_SHED_SHST ≠ 2 then
        State.runSteps 0x0D 0x11 q q.durs ((s.setPwr { s.pwr with retryAt := none, retries := s.pwr.retries + 1 }).pwrEnter 0x0E)
      else s
    | none => s)

/-- CANOPY_DOWN. -/
def execCanopyDown (q : SeqIn) (s : State) : Host.Outcome State Fault Refusal := .next (State.runSteps 0x12 0x16 q q.durs s.kick)

/-- CD2 ends, after the time it has lasted. -/
def State.graceEnds (s : State) : State :=
  if s.pwr.step = 0x13 then (s.logStep 0x13 ((s.now - s.pwr.stepAt) / 1000000)).pwrEnter 0x14 else s

/-- CANOPY_GRACE_TIMEOUT. -/
def execCanopyGraceTimeout (s : State) : Host.Outcome State Fault Refusal :=
  .next (if s.pwr.step = 0x13 ∧ s.pwr.stepAt + s.rd F.SYS_PWRCFG_CANGRACE * 1000000000 ≤ s.now then s.graceEnds else s)

/-! ### Requests (R473, R479, R483) -/

/-- Whether the step is one of N2, N3 and BD1 to BD3. -/
def State.lateStep (s : State) : Bool :=
  decide (s.pwr.step = 0x19) || decide (s.pwr.step = 0x1A) || (decide (0x07 ≤ s.pwr.step) && decide (s.pwr.step ≤ 0x09))

/-- Whether network sleep or Bed down runs. -/
def State.sleeping (s : State) : Bool :=
  (decide (0x18 ≤ s.pwr.step) && decide (s.pwr.step ≤ 0x1A)) || (decide (0x07 ≤ s.pwr.step) && decide (s.pwr.step ≤ 0x0C))

/-- The frames and counts of a wake request during network sleep or Bed down (R483). -/
def State.sleepBroken (s : State) : State :=
  if s.pwr.turn.isSome then s
  else if s.pwr.step = 0x18 then s.sendMgmt 4 0xFFFF
  else if s.lateStep then
    let t := s.sendMgmt 4 0xFFFF
    let t : State := s.pwr.parts.foldl (fun x c => x.pendClaim c (x.rd (F.CAN_CHc_CLAIM_CUR c))) t
    (t.flag F.SYS_STAT_SLEEPABORT F.SYS_CTL_IE_SLEEP).inc F.SYS_SLEEPSTAT_ABORTS
  else s

/-- TARGET, as it now stands, against the sequence that runs: the reversals of R479. -/
def State.steer (s : State) : State :=
  let n := s.pwr.step
  let turned := s.pwr.turn.isSome
  if n = 0 then s
  else if n ≤ 6 then
    if s.target = 0 ∧ turned = false then (s.setTurn (some (if n ≤ 4 then 0x0A else 0))).reversed
    else if s.target ≠ 0 ∧ turned = true then (s.setTurn none).reversed else s
  else if n ≤ 0x0C then
    if s.target ≠ 0 ∧ turned = false then (s.setTurn (some (if n ≤ 0x0A then 5 else 1))).reversed
    else if s.target = 0 ∧ turned = true then (s.setTurn none).reversed else s
  else if n ≤ 0x11 then
    if s.target ≠ 2 ∧ turned = false then
      if n = 0x0D then (s.setStep 0).reversed
      else if n ≤ 0x0F then (s.setTurn (some 0x16)).reversed
      else if n = 0x10 then (s.pwrEnter 0x16).reversed
      else (s.pwrEnter 0x12).reversed
    else if s.target = 2 ∧ turned = true then (s.setTurn none).reversed else s
  else if n ≤ 0x17 then
    let up := decide (s.target = 2) && decide (s.rd F.SYS_SHED_SHST ≠ 2)
    if up = true ∧ turned = false then
      if n ≤ 0x13 then s.reversed.enterField
      else (s.setTurn (some (if n = 0x14 then 0x20 else 0x0E))).reversed
    else if up = false ∧ turned = true then (s.setTurn none).reversed else s
  else if s.target ≠ 0 then
    ((((s.logStep n ((s.now - s.pwr.stepAt) / 1000000)).wr F.SYS_SLEEPSTAT_PHASE 0).setStep 0).reversed)
  else s

/-- TARGET set to `v` by a request. -/
def State.powerRequest (s : State) (v : Nat) : State :=
  let t := s.wr F.SYS_PWRSTATE_TARGET v
  ((if v = 0 then t else t.sleepBroken).steer).kick

/-- A wake request that is not a write of TARGET: it abandons or reverses the way to sleep; FIELD where its source is IGN. -/
def State.wakeRequest (s : State) (ign : Bool) : State :=
  if s.bedOn && s.sleeping then s.powerRequest (if ign then 2 else 1) else s

/-- A write of SYS_PWRREQ: TARGET is set and any IGNOFF timer is cancelled; GO from the carrying Dale ends CD2 (R473, R478). -/
def State.pwrreqWrite (s : State) (a : Agent) (v : W32) : State :=
  if listedAt Reg.SYS_PWRREQ v = false then s
  else
    let t := s.applyWrite Reg.SYS_PWRREQ v
    let t := t.setPwr { t.pwr with ignBar := some t.now, failed := false, retries := 0, retryAt := none }
    let t := t.powerRequest (getBits v 1 0)
    if getBits v 31 31 = 1 ∧ t.carrier = some a then t.graceEnds else t

/-- PWRREQ_TARGET. -/
def execPwrreqTarget (agent : Agent) (value : W32) (s : State) : Host.Outcome State Fault Refusal :=
  .next (s.gate agent 0x00 0x018 (fun t => t.pwrreqWrite agent value))

/-- PWRREQ_GO: a write of SYS_PWRREQ with GO = 1. -/
def execPwrreqGo (agent : Agent) (value : W32) (s : State) : Host.Outcome State Fault Refusal :=
  .next (s.gate agent 0x00 0x018 (fun t => t.pwrreqWrite agent (setBits value 31 31 1)))

/-- A debounced level of RTD_WAKELVL. -/
def State.wakeLevel (s : State) (f : Fld) (v : Bool) : State := s.rootWr f (if v then 1 else 0)

/-- IGNITION_RISE. -/
def execIgnitionRise (s : State) : Host.Outcome State Fault Refusal :=
  .next (
    if s.rootOn = false then s
    else
      let t := s.wakeLevel F.RTD_WAKELVL_IGN true
      if t.bedOn = false then (if t.pwr.st = 1 then t.wakeAccept 1 else t)
      else
        let t := t.setPwr { t.pwr with ignBar := some t.now }
        if t.on F.SYS_PWRCFG_AUTO then t.powerRequest 2 else t.wakeRequest true)

/-- IGNITION_OFF_TIMEOUT: ign_sense has been low since `since`, or since BU6. -/
def execIgnitionOffTimeout (since : Nat) (s : State) : Host.Outcome State Fault Refusal :=
  .next (
    if s.bedOn = false ∨ s.pwr.reset = true ∨ s.now < since then s
    else
      let t := s.wakeLevel F.RTD_WAKELVL_IGN false
      let barred := match t.pwr.ignBar with
        | some b => decide (since ≤ b)
        | none => false
      if t.on F.SYS_PWRCFG_AUTO = true ∧ barred = false ∧ t.pwr.bu6At ≤ since ∧ since + t.rd F.SYS_PWRCFG_IGNOFF * 1000000000 ≤ t.now then
        (t.setPwr { t.pwr with ignBar := some since }).powerRequest 0
      else t)

/-! ### Wakes (R480, R483) -/

/-- WAKE: Root latches an enabled source in Root-armed. -/
def execWake (src : Nat) (s : State) : Host.Outcome State Fault Refusal :=
  .next (
    if s.rootOn = false ∨ 8 ≤ src then s
    else if s.pwr.st = 1 then s.wakeAccept src
    else if s.wakeOn src then s.wakeRequest (decide (src = 1)) else s)

/-- WAKE_TIMER_EXPIRY: RTD_WTIMER has counted down to 0. -/
def execWakeTimerExpiry (s : State) : Host.Outcome State Fault Refusal :=
  .next (
    match s.pwr.wEnd with
    | some e =>
      if s.rootOn = true ∧ e ≤ s.pwr.root then
        let t := (s.setPwr { s.pwr with wEnd := none }).rootWr F.RTD_WTIMER_SEC 0
        if t.pwr.st = 1 then t.wakeAccept 7 else if t.wakeOn 7 then t.wakeRequest false else t
      else s
    | none => s)

/-- WAKE_INPUT_EDGE: a debounced edge of wake_in1 or wake_in2. -/
def execWakeInputEdge (n : Nat) (rising : Bool) (s : State) : Host.Outcome State Fault Refusal :=
  .next (
    if s.rootOn = false ∨ (n ≠ 1 ∧ n ≠ 2) then s
    else
      let t := s.wakeLevel (if n = 1 then F.RTD_WAKELVL_WAKE1 else F.RTD_WAKELVL_WAKE2) rising
      let e := t.rootRd (if n = 1 then F.RTD_WAKECFG_W1EDGE else F.RTD_WAKECFG_W2EDGE)
      if (e = 0 ∧ rising = false) ∨ (e = 1 ∧ rising = true) ∨ t.wakeOn (n + 1) = false then t
      else if t.pwr.st = 1 then t.wakeAccept (n + 1)
      else t.wakeRequest false)

/-- SELECTIVE_WAKE: a transceiver in standby receives a frame that matches the identifier it copied, or counts 32 frame errors. -/
def execSelectiveWake (c : Nat) (id : Option Nat) (s : State) : Host.Outcome State Fault Refusal :=
  .next (
    match s.pwr.wuf.find? (fun w => decide (w.1 = c)) with
    | none => s
    | some w =>
      let hit := match id with
        | some i => decide (bitAt i 31 = bitAt w.2.1.toNat 31) && decide (i % 2 ^ 29 &&& w.2.2.toNat % 2 ^ 29 = w.2.1.toNat % 2 ^ 29 &&& w.2.2.toNat % 2 ^ 29)
        | none => true
      if s.rootOn = false ∨ hit = false then s
      else
        let t := s.setPwr { s.pwr with canWake := s.pwr.canWake ++ [(c, if id.isSome then 0 else 1)] }
        if t.pwr.st = 1 then t.wakeAccept (4 + c) else if t.wakeOn (4 + c) then t.wakeRequest false else t)

/-- SLEEP_HOLD: N1 starts, or its next SLEEPREQ falls due. -/
def execSleepHold (s : State) : Host.Outcome State Fault Refusal :=
  .next (
    if s.bedOn = false then s
    else if s.pwr.step = 0x18 then (if s.pwr.reqAt + 100000000 ≤ s.now then s.sleepReq else s)
    else if s.pwr.st = 2 ∧ s.pwr.step = 0 ∧ s.target = 0 then s.kick
    else s)

/-- KEEPAWAKE: the last one received by controller `c` takes effect. -/
def execKeepawake (c : Nat) (s : State) : Host.Outcome State Fault Refusal :=
  .next (
    match (s.ctl c).keep with
    | none => s
    | some sa =>
      if s.bedOn = false then s
      else
        let t := ((s.setCtl c { s.ctl c with keep := none }).wr F.SYS_SLEEPSTAT_KACH c).wr F.SYS_SLEEPSTAT_KASRC sa
        if t.pwr.step = 0x18 then t.setPwr { t.pwr with holdAt := t.now }
        else if t.lateStep then t.wakeRequest false
        else t)

/-- SLEEP_HOLD_EXPIRY: the hold window has passed without KEEPAWAKE, or the next GOSLEEP is due. -/
def execSleepHoldExpiry (s : State) : Host.Outcome State Fault Refusal :=
  .next (
    if s.bedOn = false then s
    else if s.pwr.step = 0x18 ∧ s.pwr.holdAt + s.holdOff ≤ s.now then
      (((s.logStep 0x18 ((s.now - s.pwr.stepAt) / 1000000)).pwrEnter 0x19).wr F.SYS_SLEEPSTAT_PHASE 2).goSleep
    else if s.pwr.step = 0x19 ∧ s.pwr.reqAt + 10000000 ≤ s.now then s.goSleep
    else s)

/-- SLEEP_WAIT_EXPIRY. -/
def execSleepWaitExpiry (s : State) : Host.Outcome State Fault Refusal :=
  .next (
    if s.bedOn = true ∧ s.pwr.step = 0x1A ∧ s.pwr.reqAt + s.rd F.SYS_SLEEPCFG_SBDLY * 10000000 ≤ s.now then
      (s.logStep 0x1A ((s.now - s.pwr.stepAt) / 1000000)).pwrEnter 0x07
    else s)

/-- LATE_WAKE: controller `c`, with WUFEN = 1, has received its wake-up frame after sleep was agreed. -/
def execLateWake (c : Nat) (s : State) : Host.Outcome State Fault Refusal :=
  .next (
    if s.bedOn = true ∧ (s.ctl c).wuf = true then
      let t := s.setCtl c { s.ctl c with wuf := false }
      if t.lateStep then t.wakeRequest false else t
    else s)

/-! ### Supply (R469, R470, R472) -/

/-- RTD_SUPLOG. -/
def State.supLog (s : State) (event mv : Nat) : State :=
  s.setRoot Reg.RTD_SUPLOG (BitVec.ofNat 32 (event * 2 ^ 28 + min mv 0xFFFF))

/-- SYS_SUPPLY: the main input, and the system voltage once it is known. -/
def State.supplyMv (s : State) (mv : Nat) : State := if s.bedOn then s.wrSat F.SYS_SUPPLY_MV mv else s

/-- SUPPLY_LOW. -/
def execSupplyLow (mv : Nat) (s : State) : Host.Outcome State Fault Refusal :=
  .next (
    if s.rootOn = true ∧ s.pwr.st ≠ 0 ∧ 6000 ≤ mv ∧ mv < 9000 then
      ((s.supLog 1 mv).supplyMv mv).sysFlag F.SYS_STAT_SUPLOW F.SYS_CTL_IE_SUP
    else s)

/-- SUPPLY_HIGH. -/
def execSupplyHigh (mv : Nat) (s : State) : Host.Outcome State Fault Refusal :=
  .next (
    if s.rootOn = true ∧ s.pwr.st ≠ 0 ∧ 32000 < mv ∧ mv ≤ 60000 then
      (((s.supLog 3 mv).supplyMv mv).sysFlag F.SYS_STAT_SUPHIGH F.SYS_CTL_IE_SUP).record 0x00 0x40 sevWarning mv 0 0
    else s)

/-- The Bed and Canopy rails fall with no sequence: what they held is lost, and the module is in the Vault state. -/
def State.railsFall (s : State) : State :=
  let t := if s.bedOn then (s.requestSafe).panelLost else s
  let t := if t.canopyOn then { t.terCanopyDown with bridge := {} } else t
  let upd : Upd := { t.upd with prob := [], run := none, pkg := none, furIdx := none, unsaved := [] }
  let t : State := { t with upd := upd, dram := {}, nand := { t.nand with wear := [] }, vlv := {}, lsw := {}, canopyOn := false, bedOn := false }
  t.setPwr { t.pwr.fresh with st := 0, step := 0, turn := none, cause := 2, reset := false, booted := false, early := [], wuf := [], canWake := [] }

/-- SUPPLY_FAILURE. -/
def execSupplyFailure (mv : Nat) (saveOk : Bool) (s : State) : Host.Outcome State Fault Refusal :=
  .next (
    if s.rootOn = true ∧ s.pwr.st ≠ 0 ∧ mv < 6000 then
      let t := ((s.railsFall).commitAll).supLog 2 mv
      let t := t.setRoot Reg.RTD_VAULTCNT (BitVec.ofNat 32 (satAdd 32 (t.rootReg Reg.RTD_VAULTCNT).toNat 1))
      (t.record 0x02 0x40 sevSafety mv 0 0).rootSave 3 saveOk
    else s)

/-- SUPPLY_RETURN: Root-armed, with a wake from SUPPLY where it is enabled. -/
def execSupplyReturn (mv : Nat) (s : State) : Host.Outcome State Fault Refusal :=
  .next (
    if s.rootOn = true ∧ s.pwr.st = 0 ∧ 8000 < mv then
      let t := (s.supLog 4 mv).setPwr { s.pwr with st := 1, step := 0 }
      let t := t.wakeAccept 0
      if t.rootRd F.RTD_WAKELVL_IGN = 1 then t.wakeAccept 1 else t
    else s)

/-! ### Resets (R484-R486) -/

/-- Canopy's rails go off with no sequence. -/
def State.canopyCut (s : State) : State := if s.canopyOn then s.canopyClose.canopyDark else s

/-- A module reset with a cause: logged; where one is in force already it adds nothing further. Outputs take their fail-safe states, Canopy
goes off, units on probation fall back, and Bed runs from BU3. -/
def State.moduleReset (s : State) (cause : Nat) (q : SeqIn) : State :=
  if s.bedOn = false ∧ s.pwr.reset = false then s
  else
    let s := s.logReset cause
    if s.pwr.reset then s
    else
      let t := ((s.requestSafe).canopyCut).fellAll (List.range 9)
      let t := t.setPwr { t.pwr with held := true, reset := true, rstAs := cause, hot := decide (cause = 8), st := 2, step := 3, turn := none, early := [] }
      State.runSteps 0x01 0x06 q q.durs { t with bedOn := false }

/-- A Canopy restart: CD4 and CD5 at once, and CU2 to CU5 where TARGET is FIELD (R485). -/
def State.canopyRestart (s : State) (cause : Nat) (q : SeqIn) : State :=
  let t := s.logReset cause
  if t.canopyOn = false then t
  else
    let u := t.pwrEnter 0x15
    let u := if u.target = 2 then u.setTurn (some 0x0E) else u
    State.runSteps 0x0E 0x16 q q.durs u

/-- A write of SYS_RSTCMD: one whose KEY is not 0x52E5 is ignored. -/
def State.rstcmdWrite (s : State) (v : W32) (q : SeqIn) : State :=
  if getBits v 31 16 ≠ 0x52E5 then s
  else
    match getBits v 3 0 with
    | 1 => s.moduleReset 5 q
    | 2 => s.canopyRestart 6 q
    | _ => s

/-- MODULE_RESET: a write of SYS_RSTCMD with KIND MODULE. -/
def execModuleReset (agent : Agent) (value : W32) (q : SeqIn) (s : State) : Host.Outcome State Fault Refusal :=
  .next (s.gate agent 0x00 0x02C (fun t => t.rstcmdWrite (setBits value 3 0 1) q))

/-- CANOPY_RESTART: a write of SYS_RSTCMD with KIND CANOPY. -/
def execCanopyRestart (agent : Agent) (value : W32) (q : SeqIn) (s : State) : Host.Outcome State Fault Refusal :=
  .next (s.gate agent 0x00 0x02C (fun t => t.rstcmdWrite (setBits value 3 0 2) q))

/-- RESET_BUTTON: a debounced press: a wake in Root-armed, a module reset while Bed is powered. -/
def execResetButton (released : Bool) (q : SeqIn) (s : State) : Host.Outcome State Fault Refusal :=
  .next (
    if s.rootOn = false ∨ s.rootBit F.RTD_STAT_BTNSTUCK = true then s
    else
      let n := satAdd 16 (s.rootRd F.RTD_BTN_PRESS) 1
      let t := (s.rootWr F.RTD_BTN_PRESS n).wakeLevel F.RTD_WAKELVL_BTN (!released)
      if t.pwr.st = 1 ∧ t.bedOn = false then t.wakeAccept 6 else t.moduleReset 4 q)

/-- BUTTON_STUCK: the input has been low for 10 s without a break. -/
def execButtonStuck (s : State) : Host.Outcome State Fault Refusal :=
  .next (
    if s.rootOn = true ∧ s.rootBit F.RTD_WAKELVL_BTN = true ∧ s.rootBit F.RTD_STAT_BTNSTUCK = false then
      ((s.rootWr F.RTD_STAT_BTNSTUCK 1).rootWr F.RTD_BTN_STUCK (satAdd 16 (s.rootRd F.RTD_BTN_STUCK) 1)).record 0x02 0x41 sevWarning 0 0 0
    else s)

/-- BUTTON_UNMASK: the input has stayed high for 2 s. -/
def execButtonUnmask (s : State) : Host.Outcome State Fault Refusal :=
  .next (
    if s.rootOn = true ∧ s.rootBit F.RTD_STAT_BTNSTUCK = true then (s.rootWr F.RTD_STAT_BTNSTUCK 0).wakeLevel F.RTD_WAKELVL_BTN false else s)

/-! ### Heat (R487, R488) -/

/-- THERMAL_SHED: WAIT seconds above CRIT: Canopy down with no grace. -/
def execThermalShed (s : State) : Host.Outcome State Fault Refusal :=
  .next (
    if s.bedOn = true ∧ s.on F.SYS_SHED_EN = true ∧ s.rd F.SYS_SHED_SHST = 1 ∧ s.tim.aboveCrit = true ∧
        s.pwr.shedAt + s.rd F.SYS_SHED_WAIT * 1000000000 ≤ s.now then
      let t := s.wr F.SYS_SHED_SHST 2
      let n := t.pwr.step
      if n = 0 ∧ t.pwr.st = 3 then (t.pwrEnter 0x12).graceEnds
      else if n = 0x13 then t.graceEnds
      else if n = 0x0D then (t.setStep 0).reversed
      else if n = 0x0E ∨ n = 0x0F then (t.setTurn (some 0x16)).reversed
      else if n = 0x10 then (t.pwrEnter 0x16).reversed
      else if n = 0x11 then ((t.pwrEnter 0x12).graceEnds).reversed
      else if 0x14 ≤ n ∧ n ≤ 0x16 ∧ t.pwr.turn.isSome = true then (t.setTurn none).reversed
      else t
    else s)

/-- THERMAL_RETURN: 60 s below WARN with AUTORET. -/
def execThermalReturn (s : State) : Host.Outcome State Fault Refusal :=
  .next (
    match s.pwr.coolAt with
    | some c =>
      if s.bedOn = true ∧ s.on F.SYS_SHED_AUTORET = true ∧ s.rd F.SYS_SHED_SHST = 2 ∧ c + 60000000000 ≤ s.now then (s.wr F.SYS_SHED_SHST 0).kick else s
    | none => s)

/-- The reading of temperature sensor `n`. -/
def State.tempOf (s : State) (n : Nat) : Int := toSigned 16 (s.rd (F.HLT_TEMPn_TEMP n))

/-- THERMAL_CUT: a junction at 140 °C for 10 ms cuts Canopy from CD4; a Bed-domain sensor at 150 °C starts a module reset. -/
def execThermalCut (sensor : Option Nat) (q : SeqIn) (s : State) : Host.Outcome State Fault Refusal :=
  .next (
    if s.bedOn = false then s
    else
      match sensor with
      | none =>
        let due := match s.pwr.hotAt with
          | some h => decide (h + 10000000 ≤ s.now)
          | none => false
        if due = true ∧ s.canopyOn = true ∧ s.pwr.step ≠ 0x15 ∧ s.pwr.step ≠ 0x16 then
          State.runSteps 0x15 0x16 q q.durs ((s.record 0x00 0x42 sevSafety 0 0 0).pwrEnter 0x15)
        else s
      | some n => if n < 24 ∧ s.on (F.HLT_TEMPn_VALID n) = true ∧ 1200 ≤ s.tempOf n then s.moduleReset 8 q else s)

/-- DEFERRED_FSTABLE_WRITE: in the Doze state, before the next sequence, the deferred table is written once the Furrow token is free. -/
def execDeferredFstableWrite (failed : List Nat) (s : State) : Host.Outcome State Fault Refusal :=
  .next (
    if s.inDoze = true ∧ s.bedOn = true ∧ s.pwr.tableDue = true then
      let a := s.tokAsk 6 6 0xB
      if a.2 then
        let t := a.1.deferredTable failed
        (t.setPwr { t.pwr with tableDue := false }).kick
      else a.1
    else s)

end Sys2Proof.Machine
end

