-- ==== Sys2Proof/Machine/Health.lean ====
section
/-! DEFINITION. Scarecrow (R495-R518): targeted self-tests, Dale heartbeats and faults, comparison channels, mirror regions, the saddle handover
and the maintenance tokens. -/

namespace Sys2Proof.Machine

/-! ### Resources (R495) -/

/-- The class of a resource, and the Dale of a class 3 resource. -/
def resClass (r : Nat) : Nat := r / 2 ^ 28
def resDale (r : Nat) : Nat := r / 2 ^ 16 % 2

/-- The token of a class, where it takes one (R511). -/
def classToken (c : Nat) : Option Nat :=
  match c with
  | 0 => some 0
  | 1 => some 1
  | 3 => some 4
  | 5 => some 7
  | 6 => some 6
  | _ => none

/-- Whether the resource's domain is powered. -/
def State.testable (s : State) (r : Nat) : Bool :=
  if resClass r = 2 ∨ resClass r = 4 ∨ resClass r = 6 then s.bedOn else s.bedOn && s.canopyOn

/-- What may go on once a token, a test or a role has changed. -/
def State.afterHealth (s : State) : State := (s.handGo.memWaiting).updRun

/-! ### Triggers -/

/-- ENGINE_CHECK_ERROR: a check error in a unit of a Canopy engine, or an error in the Bed store or Furrow's memories (R495, R304). -/
def execEngineCheckError (res : Nat) (corrected : Bool) (s : State) : Host.Outcome State Fault Refusal :=
  .next (
    if s.testable res = false then s
    else if resClass res = 5 ∧ res / 2 ^ 20 % 256 < 5 then s.triggerTest res
    else if resClass res = 4 then
      let w := res % 2 ^ 22
      match res / 2 ^ 24 % 16 with
      | 0 => (if corrected then s else { s with mem := s.mem.mark (bedStoreBase + 8 * w) true }).triggerTest res
      | 2 =>
        let t := s.inc F.FUR_PMERR_CNT
        let t : State := if corrected then t else { t with fur := { t.fur with badCode := insertNat w t.fur.badCode } }
        t.triggerTest res
      | 3 =>
        let t := s.inc F.FUR_PMERR_CNT
        let mark := (w / 65536, w % 65536)
        let t : State := if corrected = true ∨ t.fur.bad.contains mark = true then t else { t with fur := { t.fur with bad := t.fur.bad ++ [mark] } }
        t.triggerTest res
      | _ => s
    else s)

/-! ### The outcome of a test (R497, R498) -/

/-- The action on a lasting fault; `part` says what of a Dale has failed: core 0 to 7, 8 a way of the L2, anything else the whole. -/
def State.lastingAction (s : State) (r part : Nat) : State :=
  let d := r % 2 ^ 28
  match resClass r with
  | 1 => s.terRetire (d / 2 ^ 19 % 8 * 2 ^ 26 + d / 2 ^ 16 % 8 * 2 ^ 23 + d % 8192 * 2 ^ 10)
  | 2 =>
    let b := d / 2 ^ 16 % 32
    s.setHlt { s.hlt with lostRegs := SMap.set (fun _ => 0) s.hlt.lostRegs b (SMap.get (fun _ => 0) s.hlt.lostRegs b + 1) }
  | 3 =>
    let n := resDale r
    let t := if part < 8 then s.wr ⟨Reg.HLT_DALEn_STAT n, 16 + part, 16 + part⟩ 0
      else if part = 8 then s.wrSat (F.HLT_DALEn_STAT_L2RET n) (s.rd (F.HLT_DALEn_STAT_L2RET n) + 1) else s
    if 8 < part ∨ 4 < t.rd (F.HLT_DALEn_STAT_L2RET n) ∨ t.rd (F.HLT_DALEn_STAT_CORES n) = 0 then t.daleIsolate n else t
  | 4 =>
    let m := d / 2 ^ 24 % 16
    let k := SMap.get (fun _ => 0) s.hlt.spareWords m
    if k < 256 then s.setHlt { s.hlt with spareWords := SMap.set (fun _ => 0) s.hlt.spareWords m (k + 1) }
    else if m = 0 then { s with mem := s.mem.mark (bedStoreBase + 8 * (d % 2 ^ 22)) true }
    else s
  | 5 =>
    let e := d / 2 ^ 20 % 256
    let k := SMap.get (fun _ => 0) s.hlt.units e + 1
    s.setHlt { s.hlt with units := SMap.set (fun _ => 0) s.hlt.units e k, engOff := if 2 ≤ k then insertNat e s.hlt.engOff else s.hlt.engOff }
  | 6 =>
    let i := if bitAt d 4 then 6 + d % 16 else d % 16
    if s.icCarried i then (s.enterSafe i false).setOutIc i { (s.enterSafe i false).outIc i with locked := true } else s
  | _ => s

/-- A register that has been tested holds its reset value. -/
def State.testedReg (s : State) (r : Nat) : State :=
  let key := r / 2 ^ 16 % 32 * 0x1000 + r % 4096
  if resClass r = 2 then (if key / 0x1000 = 2 then s.setRoot key (regReset s.code s.hwrev key) else s.resetReg key) else s

/-- The passes of the last hour. -/
def State.recentPasses (s : State) : List (Nat × Nat) := s.hlt.passes.filter (fun p => decide (s.now < p.2 + 3600000000000))

/-- A test of `r` judged: 1 PASS, 2 LASTING, 3 REPEAT, with the registers that show it. -/
def State.testResult (s : State) (r part : Nat) (found : Bool) : State × Nat :=
  let c := resClass r
  let recent := s.recentPasses
  let again := decide (s.rd F.HLT_CTL_REPEAT ≤ (recent.filter (fun p => decide (p.1 = r))).length + 1)
  let res := if found then 2 else if again then 3 else 1
  let t := ((s.testedReg r).wr F.HLT_LASTTEST_CLASS c).wr F.HLT_LASTTEST_RESULT res
  let t := t.setReg Reg.HLT_LASTRES (BitVec.ofNat 32 r)
  let t := t.setHlt { t.hlt with passes := if res = 1 then recent ++ [(r, s.now)] else recent.filter (fun p => decide (p.1 ≠ r)) }
  if res = 1 then ((t.inc (F.HLT_TRANSc_CNT c)).wideAdd Reg.HLT_TRANSCNT_LO 1, 1)
  else
    let t := ((t.inc (F.HLT_LASTc_CNT c)).inc F.HLT_LASTCNT_CNT).flagDale F.HLT_STAT_LASTING F.HLT_CTL_IE_LAST
    ((t.hltEvent 1 c res r (some (sevFault, r))).lastingAction r part, res)

/-- The test of `r` leaves the queue; the TEST descriptors that asked for it complete. -/
def State.testDone (s : State) (r res : Nat) : State :=
  let ds := ((s.hlt.tests.find? (fun t => decide (t.res = r))).map (fun t => t.descs)).getD []
  let t := (s.setHlt { s.hlt with tests := s.hlt.tests.filter (fun t => decide (t.res ≠ r)) }).testRegs
  ds.foldl (fun x d => x.complete 66 (d.waited (s.now - d.started)) { bytes := leBytes 1 res }) t

/-- A class 3 test: the Dale is held in reset while it runs, and released where it is not isolated. -/
def State.daleTest (s : State) (r part : Nat) (found : Bool) (bad : List Nat) : State × Nat :=
  let n := resDale r
  let t := (s.daleHold n).wr (F.HLT_DALEn_STAT_TESTPEND n) 0
  let x := (t.wr (F.HLT_DALEn_STAT_STATE n) 3).testResult r part found
  if x.1.daleState n = 4 then x else ((x.1.wr (F.HLT_DALEn_STAT_STATE n) 2).daleStart n bad, x.2)

/-- A test of the carrying Dale waits: for a planned handover with cause TEST where one can run, else with TESTPEND set (R499). -/
def State.testWaits (s : State) (n : Nat) : State :=
  if s.on F.HLT_CTL_AUTO = true ∧ s.daleReady (1 - n) = true ∧ s.hlt.hand.isNone = true then
    let x := s.askHandover 3 0 none
    if x.2 = 0 then x.1 else s.wr (F.HLT_DALEn_STAT_TESTPEND n) 1
  else if s.hlt.hand.isSome then s
  else s.wr (F.HLT_DALEn_STAT_TESTPEND n) 1

/-- Whether a queued test of resource `r` may be the next of its class: the oldest, tests of the carrying Dale and of a Dale that is off or
isolated set aside. -/
def State.nextTest (s : State) (c : Nat) : Option Nat :=
  (s.hlt.tests.find? (fun t => decide (resClass t.res = c) &&
    !(decide (c = 3) && (decide (s.carryIdx = some (resDale t.res)) || decide (s.daleState (resDale t.res) = 0) ||
      decide (s.daleState (resDale t.res) = 4))))).map (fun t => t.res)

/-- SELF_TEST: the oldest queued test of a class runs, once its token is granted. -/
def execSelfTest (res : Nat) (found : Bool) (part : Nat) (bad : List Nat) (s : State) : Host.Outcome State Fault Refusal :=
  .next (
    if s.testable res = false ∨ s.hlt.tests.any (fun t => decide (t.res = res)) = false then s
    else if resClass res = 3 ∧ s.carryIdx = some (resDale res) then s.testWaits (resDale res)
    else if s.nextTest (resClass res) ≠ some res then s
    else
      let a := match classToken (resClass res) with
        | some k => s.tokAsk k 6 3
        | none => (s, true)
      if a.2 = false then a.1
      else
        let x := if resClass res = 3 then a.1.daleTest res part found bad else a.1.testResult res part found
        let t := x.1.testDone res x.2
        let t := match classToken (resClass res) with
          | some k => t.tokGive k
          | none => t
        t.afterHealth)

/-! ### Dales (R500, R501) -/

/-- A write of HLT_DALEn_HB. -/
def State.heartbeat (s : State) (n : Nat) : State :=
  let age := if s.daleState n = 1 then (s.now - SMap.get (fun _ => 0) s.hlt.hb n) / 1000 else 0
  let t := s.setHlt { s.hlt with hb := SMap.set (fun _ => 0) s.hlt.hb n s.now }
  (t.peak (F.HLT_DALEn_HBAGE_PEAK n) age).wr (F.HLT_DALEn_HBAGE_AGE n) 0

/-- HEARTBEAT. -/
def execHeartbeat (agent : Agent) (n : Nat) (s : State) : Host.Outcome State Fault Refusal :=
  .next (if n < 2 then s.gate agent 0x03 (0x084 + 0x20 * n) (fun t => t.heartbeat n) else s.fail)

/-- HEARTBEAT_TIMEOUT: the age reaches HBPER while READY is 1 or the Dale carries. -/
def execHeartbeatTimeout (n : Nat) (s : State) : Host.Outcome State Fault Refusal :=
  .next (
    let last := SMap.get (fun _ => 0) s.hlt.hb n
    if s.bedOn = true ∧ n < 2 ∧ s.daleState n = 1 ∧ (s.on (F.HLT_DALEn_CTL_READY n) = true ∨ s.carryIdx = some n) ∧
        last + s.rd F.HLT_HOCFG_HBPER * 1000000 ≤ s.now then
      (s.measured (F.HLT_DALEn_HBAGE_AGE n) (F.HLT_DALEn_HBAGE_PEAK n) ((s.now - last) / 1000)).daleFault n 4
    else s)

/-- A Dale becomes READY while none carries: a fault handover to it waits for the next boundary (R503). -/
def State.readyHand (s : State) (n : Nat) : State :=
  if s.carryIdx.isNone = true ∧ s.daleState n = 1 ∧ s.hlt.hand.isNone = true then
    let t := s.faultHand (1 - n) 0
    match t.hlt.hand, s.hlt.noneSince with
    | some h, some at0 => t.setHlt { t.hlt with hand := some { h with det := at0 } }
    | _, _ => t
  else s

/-- ARMED written 1 by the standing Dale after step 1 of a planned handover (R507). -/
def State.armed (s : State) (n : Nat) : State :=
  match s.hlt.hand with
  | some h =>
    if h.fault = false ∧ h.src = 1 - n ∧ h.since.isSome = true then
      (s.setHlt { s.hlt with hand := some { h with det := if h.det = 0 then s.now else h.det } }).wr F.HLT_HOSTAT_STATE 2
    else s
  | none => s

/-- Whether Dale `n` stands to take the role in a planned handover. -/
def State.standing (s : State) (n : Nat) : Bool :=
  match s.hlt.hand with
  | some h => !h.fault && decide (h.src = 1 - n)
  | none => false

/-- What READY and ARMED of Dale `n` bring, both written; `was` is READY before. -/
def State.daleMarks (s : State) (n : Nat) (was : Bool) : State :=
  let t := if was = false ∧ s.on (F.HLT_DALEn_CTL_READY n) = true then s.readyHand n else s
  let t := if t.standing n = true ∧ t.on (F.HLT_DALEn_CTL_READY n) = false then t.endPlanned 0x41 else t
  (if t.on (F.HLT_DALEn_CTL_ARMED n) then t.armed n else t).updRun

/-- A write of HLT_DALEn_CTL: READY, ARMED, and FAIL, which declares a fault. -/
def State.daleCtlWrite (s : State) (n : Nat) (v : W32) : State :=
  let t := (s.wr (F.HLT_DALEn_CTL_READY n) (getBits v 31 31)).wr (F.HLT_DALEn_CTL_ARMED n) (getBits v 30 30)
  if getBits v 29 29 = 1 then (t.daleFault n 6).updRun else t.daleMarks n (s.on (F.HLT_DALEn_CTL_READY n))

/-- DALE_READY_WRITE: a write of HLT_DALEn_CTL with FAIL = 0. -/
def execDaleReadyWrite (agent : Agent) (n : Nat) (value : W32) (s : State) : Host.Outcome State Fault Refusal :=
  .next (if n < 2 then s.gate agent 0x03 (0x080 + 0x20 * n) (fun t => t.daleCtlWrite n (setBits value 29 29 0)) else s.fail)

/-- DALE_DECLARE_FAIL: a write of HLT_DALEn_CTL with FAIL = 1. -/
def execDaleDeclareFail (agent : Agent) (n : Nat) (s : State) : Host.Outcome State Fault Refusal :=
  .next (if n < 2 then s.gate agent 0x03 (0x080 + 0x20 * n) (fun t => t.daleCtlWrite n 0x20000000) else s.fail)

/-- DALE_CACHE_ERROR: counted; an uncorrectable error in L2 tags or state is a Dale fault, any other triggers a test. -/
def execDaleCacheError (n core : Nat) (unc tagState : Bool) (s : State) : Host.Outcome State Fault Refusal :=
  .next (
    if s.bedOn = false ∨ s.canopyOn = false ∨ 2 ≤ n ∨ s.daleState n ≠ 1 ∨ (8 ≤ core ∧ core ≠ 15) then s
    else
      let t := s.inc (if unc then F.HLT_DALEn_ERRCNT_UNC n else F.HLT_DALEn_ERRCNT_CORR n)
      if unc && tagState then t.daleFault n 5 else t.triggerTest (3 * 2 ^ 28 + n * 2 ^ 16 + core))

/-! ### Comparison channels (R502) -/

/-- A signature written: the channel closes once both sides are. -/
def State.compare (s : State) (k side : Nat) (v : W32) : State :=
  let t := s.setReg (if side = 0 then Reg.HLT_CMPk_A k else Reg.HLT_CMPk_B k) v
  let h := SMap.get (fun _ => 0) t.hlt.half k ||| (side + 1)
  let half : Fld := ⟨Reg.HLT_CMPSTAT, k, k⟩
  if h = 3 then
    let t := (t.setHlt { t.hlt with half := SMap.set (fun _ => 0) t.hlt.half k 0 }).wr half 0
    if t.reg (Reg.HLT_CMPk_A k) = t.reg (Reg.HLT_CMPk_B k) then t.inc F.HLT_CMPCNT_CNT
    else
      let t := (t.wr ⟨Reg.HLT_CMPSTAT, 16 + k, 16 + k⟩ 1).flagDale F.HLT_STAT_CMP F.HLT_CTL_IE_DALE
      match t.carryIdx with
      | some c => (t.hltEvent 5 k 0 (daleRes (1 - c)) none).triggerTest (daleRes (1 - c))
      | none => t.hltEvent 5 k 0 0 none
  else (t.setHlt { t.hlt with half := SMap.set (fun _ => 0) t.hlt.half k h }).wr half 1

/-- COMPARISON_WRITE: each Dale writes its own side. -/
def execComparisonWrite (agent : Agent) (k : Nat) (value : W32) (s : State) : Host.Outcome State Fault Refusal :=
  .next (
    let side := if agent = .daleB then 1 else 0
    if k < 16 then s.gate agent 0x03 (0x280 + 8 * k + 4 * side) (fun t => t.compare k side value) else s.fail)

/-! ### Mirror regions (R504, R518) -/

/-- A mirror write refused: 1 ENABLED, 2 PLACE, 3 RANGE, 4 OVERLAP. -/
def State.mirReject (s : State) (n cause : Nat) : State :=
  ((s.wr F.HLT_BADCFG_CAUSE cause).wr F.HLT_BADCFG_UNIT n).flagDale F.HLT_STAT_CFGREJ F.HLT_CTL_IE_CFG

/-- Whether two ranges of DRAM meet. -/
def rangesMeet (a n b m : Nat) : Bool := decide (a < b + m) && decide (b < a + n)

/-- Whether the areas of region `n`, with `size` bytes, meet each other or those of another enabled region. -/
def State.mirOverlaps (s : State) (n size : Nat) : Bool :=
  let mine := [s.mirSrc n, s.mirCopy n]
  rangesMeet (s.mirSrc n) size (s.mirCopy n) size ||
    (List.range 16).any (fun m => decide (m ≠ n) && s.on (F.HLT_MIRn_CFG_EN m) &&
      mine.any (fun a => rangesMeet a size (s.mirSrc m) (s.mirSize m) || rangesMeet a size (s.mirCopy m) (s.mirSize m)))

/-- A write of HLT_MIRn_CFG: enabling copies the source side whole and mirrors from then on; `finish` says that the copy has ended. -/
def State.mirCfgWrite (s : State) (n : Nat) (v : W32) (finish : Bool) : State :=
  let key := Reg.HLT_MIRn_CFG n
  let size := getBits v 13 0
  let was := s.on (F.HLT_MIRn_CFG_EN n)
  let on := getBits v 31 31 = 1
  if was = true ∧ size ≠ s.rd (F.HLT_MIRn_CFG_SIZE n) then s.mirReject n 1
  else if size = 0 ∨ 16384 < size then s.mirReject n 3
  else if was = false ∧ on ∧ (s.mirSrc n + size * 65536 ≤ s.code.dramSize ∧ s.mirCopy n + size * 65536 ≤ s.code.dramSize) = False then s.mirReject n 2
  else if was = false ∧ on ∧ s.mirOverlaps n (size * 65536) = true then s.mirReject n 4
  else
    let t := (s.applyWrite key v).mirRefresh
    if on then
      let t := if was then t else t.mirSync n true
      if finish = true ∧ t.on (F.HLT_MIRn_STAT_SYNC n) = true ∧ t.canopyOn = true then t.mirFinish n else t
    else t.mirSync n false

/-- A write of a region's SRC (0) or COPY (4). -/
def State.mirBaseWrite (s : State) (n off : Nat) (v : W32) : State :=
  if s.on (F.HLT_MIRn_CFG_EN n) then s.mirReject n 1
  else if getBits v 3 0 ≠ 0 ∨ s.code.dramSize ≤ getBits v 27 0 * 4096 then s.mirReject n 2
  else s.applyWrite (Reg.HLT_MIRn_SRC n + off) v

/-- MIRROR_REGION_ENABLE: a write of HLT_MIRn_CFG. -/
def execMirrorRegionEnable (agent : Agent) (n : Nat) (value : W32) (finish : Bool) (s : State) : Host.Outcome State Fault Refusal :=
  .next (if n < 16 then s.gate agent 0x03 (0x108 + 0x10 * n) (fun t => t.mirCfgWrite n value finish) else s.fail)

/-! ### The handover's commands (R507, R508, R516) -/

/-- A running descriptor of ring 66 with opcode `op` that nothing waits for yet. -/
def State.freshDesc (s : State) (op : Nat) : Option Desc :=
  (s.ring 66).taken.find? (fun d => d.running && decide (d.op = op) &&
    !(s.hlt.tests.any (fun t => t.descs.contains d) || s.hlt.takes.any (fun x => decide (x.2.2 = d)) ||
      decide ((s.hlt.hand.bind (fun h => h.desc)) = some d)))

/-- HANDOVER. -/
def execHandover (s : State) : Host.Outcome State Fault Refusal :=
  .next (
    match s.freshDesc 2 with
    | none => s
    | some d =>
      let x := s.askHandover 1 (if d.tmode = 1 then d.deadline else 0) (some d)
      if x.2 = 0 then x.1 else x.1.complete 66 d { status := x.2 })

/-- HANDOVER_SWITCH: at a boundary the role passes (R506). -/
def execHandoverSwitch (s : State) : Host.Outcome State Fault Refusal :=
  .next (
    let t := s.handGo
    match t.switchDue with
    | some (h, n) => (t.switchTo h n).afterHealth
    | none => t)

/-- HANDOVER_PREPARE_TIMEOUT: 1 s after step 1. -/
def execHandoverPrepareTimeout (s : State) : Host.Outcome State Fault Refusal :=
  .next (
    match s.hlt.hand with
    | some h =>
      match h.since with
      | some at1 =>
        if h.fault = true ∨ s.now < at1 + 1000000000 then s
        else if h.det = 0 ∨ s.on (F.HLT_DALEn_CTL_ARMED (1 - h.src)) = false then (s.endPlanned 0x42).afterHealth
        else if s.rd F.HLT_MIRCTL_SYNC ≠ 0 ∨ s.now < h.at0 then (s.endPlanned 0x44).afterHealth
        else s
      | none => s
    | none => s)

/-- NO_DALE_RESTART: 10 s with CARRY NONE and no READY Dale: one Canopy restart, with cause HEALTH. -/
def execNoDaleRestart (q : SeqIn) (s : State) : Host.Outcome State Fault Refusal :=
  .next (
    match s.hlt.noneSince with
    | some t0 =>
      if s.bedOn = true ∧ s.canopyOn = true ∧ s.rd F.HLT_ROLE_CARRY = 2 ∧ t0 + 10000000000 ≤ s.now ∧ s.hlt.ordered = false ∧ s.daleReady 0 = false ∧
          s.daleReady 1 = false ∧ s.on F.HLT_CTL_RESTART = true then
        ({ s with hlt := { s.hlt with ordered := true } }).canopyRestart 7 q
      else s
    | none => s)

/-! ### TEST, TOKTAKE and TOKGIVE (R512, R513, R516) -/

/-- Whether the Dale opposite `n` can stand in: READY, not under test, not being updated, not isolated. -/
def State.otherReady (s : State) (n : Nat) : Bool := s.daleReady (1 - n) && !s.daleBusy (1 - n)

/-- TEST. -/
def execTestCmd (s : State) : Host.Outcome State Fault Refusal :=
  .next (
    match s.freshDesc 1 with
    | none => s
    | some d =>
      let r := d.le 16 4
      let n := resDale r
      if 7 < resClass r ∨ (resClass r = 3 ∧ 8 ≤ r % 16 ∧ r % 16 ≠ 15) then s.complete 66 d { status := 2 }
      else if resClass r = 3 ∧ s.carryIdx = some n ∧ s.otherReady n = false then s.complete 66 d { status := 0x40 }
      else if resClass r = 3 ∧ s.carryIdx ≠ some n ∧ s.otherReady n = false then s.complete 66 d { status := 0x41 }
      else s.queueTest r [d])

/-- The Dale that owns ring 66. -/
def State.ringOwner (s : State) : Nat := s.carryIdx.getD 0

/-- TOKTAKE: it completes when the token is granted. -/
def execToktake (s : State) : Host.Outcome State Fault Refusal :=
  .next (
    match s.freshDesc 3 with
    | none => s
    | some d =>
      let c := d.le 16 1
      let o := s.ringOwner
      if 7 < c then s.complete 66 d { status := 2 }
      else if s.holdsToken c o then s.complete 66 d { status := 0x45 }
      else
        let t := s.setHlt { s.hlt with takes := s.hlt.takes ++ [(c, o, d)] }
        if t.on (F.HLT_TOKc_HELD c) then t.setToken c { t.token c with waits := tokInsert (o, 0xC, t.now) (t.token c).waits }
        else t.tokGrant c o 0xC t.now)

/-- TOKGIVE. -/
def execTokgive (s : State) : Host.Outcome State Fault Refusal :=
  .next (
    match s.freshDesc 4 with
    | none => s
    | some d =>
      let c := d.le 16 1
      if 7 < c then s.complete 66 d { status := 2 }
      else if s.holdsToken c s.ringOwner = false ∨ s.rd (F.HLT_TOKc_ACT c) ≠ 0xC then s.complete 66 d { status := 0x46 }
      else ((s.complete 66 d {}).tokGive c).afterHealth)

/-- TOKEN_HELD_ONE_HOUR. -/
def execTokenHeldOneHour (c : Nat) (s : State) : Host.Outcome State Fault Refusal :=
  .next (
    let k := s.token c
    if s.bedOn = true ∧ c < 8 ∧ s.on (F.HLT_TOKc_HELD c) = true ∧ k.hourTold = false ∧ k.since + 3600000000000 < s.now then
      (s.setToken c { k with hourTold := true }).record 0x03 0x46 sevWarning c 0 0
    else s)

end Sys2Proof.Machine
end

