-- ==== Sys2Proof/Machine/Idle.lean ====
section
/-! DEFINITION. What a step does on an empty queue: time passes. While Bed runs, while a module reset holds it, and from the end
of BU2 on, Sundial advances one tick of 8 ns (R49, R474, R484), and operating time with it wherever Bed's rails are on (R61); otherwise Root's
oscillator makes one edge of 1/32,768 s. The calendar, operating seconds, RTD_WTIMER and RTD_SAVE.AGE follow, the timer compares that
Sundial reaches, and the Bed bridge passes its oldest transfer on into DRAM (R16). Everything else that time brings about has a command of its own
(notes/assumptions/5.md). -/

namespace Sys2Proof.Machine

/-- The oldest outbound transfer of the bridge reaches DRAM. -/
def State.drainOutbound (s : State) : State :=
  match s.bridge.outbound with
  | l :: r => ({ s with bridge := { s.bridge with outbound := r } }).store l.addr l.data l.poison
  | [] => s

/-- Root's time advanced by `n` units of 1/64 ns: the calendar, the seconds left of RTD_WTIMER and the minutes since the last save. -/
def State.rootTime (s : State) (n : Nat) : State :=
  let t := s.setPwr { s.pwr with cal := s.pwr.cal + n, root := s.pwr.root + n }
  let t := match t.pwr.wEnd with
    | some e => t.rootWr F.RTD_WTIMER_SEC ((e - t.pwr.root + calSec - 1) / calSec)
    | none => t
  t.rootWr F.RTD_SAVE_AGE (min ((t.pwr.root - t.pwr.savedAt) / (60 * calSec)) 0xFFFF)

/-- Operating time: one second counted for each whole second of Bed-powered time (R61). -/
def State.opTime (s : State) (ns : Nat) : State :=
  let p := s.pwr.part + ns
  if 1000000000 ≤ p then
    (s.setPwr { s.pwr with part := p - 1000000000 }).setRoot Reg.RTD_OPSEC (BitVec.ofNat 32 (satAdd 32 (s.rootReg Reg.RTD_OPSEC).toNat 1))
  else s.setPwr { s.pwr with part := p }

/-- PRA_STAT.POSESTALE follows the age of the pose (R170, R195). -/
def State.poseAge (s : State) : State := if s.canopyOn then s.poseRefresh else s

/-- Time passes. -/
def State.tick (s : State) : State :=
  if s.rootOn = false then s
  else if s.bedOn then (((({ s with now := s.now + 8 }).rootTime 512).opTime 8).timersDue).camAge.poseAge.drainOutbound
  else if s.pwr.held = true ∨ s.pwr.step = 3 then (({ s with now := s.now + 8 }).rootTime 512).opTime 8
  else if s.pwr.step = 2 ∨ s.pwr.step = 0x0A ∨ s.pwr.step = 0x0B then (s.rootTime 512).opTime 8
  else s.rootTime calSub

end Sys2Proof.Machine
end

