-- ==== Sys2Proof/Machine/Access.lean ====
section
/-! DEFINITION. Register accesses by address (R62-R74): the path of a write to the function of its block, reads with their read effects
(R10, R578), snapshots, configuration parity (R80-R84) and service port access (R388). -/

namespace Sys2Proof.Machine

/-! ### Snapshots (R71-R74) -/

/-- The 64-bit counters a block's snapshot covers, by their _LO keys. -/
def wideKeys : List Nat :=
  [Reg.HLT_TRANSCNT_LO, Reg.RNG_DELAYCNT_LO, Reg.RNG_OVFCNT_LO, Reg.ING_TRAYCNT_LO, Reg.TRL_SAMPCNT_LO, Reg.TRL_SKIPCNT_LO,
   Reg.FUR_SCANCNT_LO, Reg.FUR_OVRCNT_LO, Reg.CAN_RXCNT_LO, Reg.CAN_TXCNT_LO, Reg.FAB_WAITCNT_LO, Reg.MEM_CECNT_LO,
   Reg.MEM_RMWCNT_LO, Reg.NFL_RDCNT_LO, Reg.NFL_PGCNT_LO, Reg.NFL_ERCNT_LO, Reg.NFL_CBITS_LO, Reg.TER_RDBYTES_LO,
   Reg.TER_WRBYTES_LO, Reg.TER_NANDWR_LO, Reg.TER_CMDCNT_LO, Reg.ETH_RXCNT_LO, Reg.GNS_EPOCHCNT_LO, Reg.GNS_SLIPCNT_LO] ++
  [Reg.CAM_FRAMECNT_LO, Reg.CAM_SKIPCNT_LO, Reg.CAM_ORPHCNT_LO, Reg.PRA_GRIDCNT_LO, Reg.PRA_SKIPCNT_LO, Reg.PRA_TRKBIRTH_LO,
   Reg.PRA_TRKOVF_LO, Reg.PRA_FCCNT_LO, Reg.PRA_YLDMASS_LO, Reg.DSP_FRAMECNT_LO]

/-- What a snapshot of block `blk` captures: the _LO key of each pair and its value. The wear counters show the Root value plus the
uncommitted count (R324); those of units the ordering code does not carry are left out. -/
def State.snapValues (s : State) (blk : Nat) : List (Nat × Nat) :=
  let wide := (wideKeys.filter (fun k => decide (k / 0x1000 = blk))).map (fun k => (k, s.wideGet k))
  let per := fun (n : Nat) (key val : Nat → Nat) =>
    ((List.range n).filter (fun i => !absentReg s.code blk (key i % 0x1000))).map (fun i => (key i, val i))
  wide ++
  match blk with
  | 0x01 => [(Reg.SDL_NOW_LO, s.now), (Reg.SDL_GNSSOFF_LO, s.wideGet Reg.SDL_GNSSOFF_LO)]
  | 0x04 => [(Reg.EVR_NEXTNUM_LO, s.evr.next)]
  | 0x0B => per 48 Reg.VLV_CHn_WEAR_LO (fun n => s.valveWear n)
  | 0x0C => per 64 Reg.LSW_WEARn_LO (fun n => s.lswWear n / 1000000000)
  | 0x11 => per 8 Reg.MEM_SUBn_WEAR_LO (fun n => s.rankWear n)
  | 0x12 => per 8 Reg.NFL_CHc_WEAR_LO (fun n => s.packWear n)
  | _ => []

/-- A snapshot of block `blk` fills the bank of agent `a`; an agent without a bank fills none. -/
def State.snapshot (s : State) (a : Agent) (blk : Nat) : State :=
  match agentBank a with
  | some b => if blk = 0x02 then s.rootSnap b else (s.snapValues blk).foldl (fun x p => x.bankPair b p.1 p.2) s
  | none => s

/-- Whether `lo` is the first of a pair of holding registers. -/
def holdsPair (lo : Nat) : Bool :=
  wideKeys.contains lo || [Reg.SDL_NOW_LO, Reg.SDL_GNSSOFF_LO, Reg.EVR_NEXTNUM_LO, Reg.RTD_CAL_LO, Reg.RTD_SDLSAVE_LO, Reg.RTD_LASTOFF_LO].contains lo ||
  (arrayIdx lo (Reg.VLV_CHn_WEAR_LO 0) 0x40 48).isSome || (arrayIdx lo (Reg.LSW_WEARn_LO 0) 8 64).isSome ||
  (arrayIdx lo (Reg.MEM_SUBn_WEAR_LO 0) 0x40 8).isSome || (arrayIdx lo (Reg.NFL_CHc_WEAR_LO 0) 0x40 8).isSome

/-- Whether the register at `key` is banked: a holding register (R73) or one of the recorder's own (R555, R557). -/
def bankedKey (key : Nat) : Bool :=
  holdsPair key || (decide (4 ≤ key) && holdsPair (key - 4)) ||
  (decide (Reg.EVR_SWREC ≤ key) && decide (key < 0x4080) && decide (key % 4 = 0))

/-! ### Configuration parity (R80-R84) -/

/-- The word of a register returned to its reset value by a safe state: the RWP and RW fields; what other fields report stands. -/
def RegDesc.parityReset (d : RegDesc) (reset old : W32) : W32 :=
  d.fields.foldl (fun w f => match f.acc with
    | .rw => setBits w f.hi f.lo (getBits reset f.hi f.lo)
    | .rwp => setBits w f.hi f.lo (getBits reset f.hi f.lo)
    | _ => w) old

/-- The register at `key` returned to its reset value, its parity bit recomputed; a Root register in Root itself. -/
def State.safeReg (s : State) (key : Nat) : State :=
  match findReg (key / 0x1000) (key % 0x1000) with
  | some d =>
    let t : State := { s with badParity := s.badParity.filter (fun k => k ≠ key) }
    if key / 0x1000 = 2 then t.setRoot key (d.parityReset (regReset s.code s.hwrev key) (s.rootReg key))
    else t.setReg key (d.parityReset (regReset s.code s.hwrev key) (s.reg key))
  | none => s

/-- The further effect of a mismatch in the register at `key` (a ring that is not enabled reports no cause: DESIGN CHOICE beside R104,
notes/assumptions/22.md), beside PARFLT and the register's return to reset (R104, R161, R195, R215,
R244, R272, R308, R330, R350, R371, R390, R408, R409, R464, R468, R518). -/
def State.parityOne (s : State) (key : Nat) : State :=
  let off := key % 0x1000
  match key / 0x1000 with
  | 0x03 =>
    if 0x100 ≤ off ∧ off < 0x200 then
      let n := (off - 0x100) / 0x10
      ((s.safeReg key).wr (F.HLT_MIRn_CFG_EN n) 0).mirRefresh.mirSync n false
    else s.safeReg key
  | 0x06 =>
    if 0x400 ≤ off ∧ off % 0x10 < 8 then
      let q := (off - 0x400) / 0x10
      let t := if s.rd (F.RNG_QnSTAT_STATE q) = 0 then s else (s.wr (F.RNG_QnCFG_EN q) 1).ringKill q 0xA
      t.safeReg key
    else s.safeReg key
  | 0x09 => (s.safeReg key).trlParity off (decide (s.rd (F.TRL_Ln_STAT_STATE ((off - 0x800) / 0x20)) ≠ 0))
  | 0x0A => (s.safeReg key).furParity off
  | 0x0B => (s.safeReg key).vlvParity off
  | 0x0C => (s.safeReg key).lswParity off
  | 0x0D => (s.safeReg key).canParity off
  | 0x0E => (s.safeReg key).dsParity off
  | 0x11 => (s.safeReg key).memParity
  | 0x12 => (s.safeReg key).nflParity
  | 0x13 => (s.safeReg key).terParity off
  | 0x14 => (s.safeReg key).pceParity off
  | 0x15 => (s.safeReg key).ethParity off
  | 0x16 => (s.safeReg key).gnsParity off
  | 0x17 => (s.camParity off).safeReg key
  | 0x18 => (s.safeReg key).praParity off
  | 0x19 => (s.safeReg key).dspParity off
  | _ => s.safeReg key

/-- The keys of the registers that block `blk` returns to reset as a whole: SDL (R60), MBX (R113), FAB (R31), UPD (R545) and the monitor
group of HLT (R48). Elsewhere the mismatching register alone returns (R104, R138, R161 and the other blocks' rules). -/
def safeKeys (blk : Nat) (bad : List Nat) : List Nat :=
  match blk with
  | 0x01 => Reg.SDL_CTL :: ((List.range 16).map (fun n => [Reg.SDL_ALMn_LO n, Reg.SDL_ALMn_HI n, Reg.SDL_ALMnCTL n])).flatten
  | 0x03 => if bad.any (fun k => decide (Reg.HLT_MONCTL ≤ k)) then [Reg.HLT_MONCTL, Reg.HLT_TEMPLIM] else []
  | 0x05 => [Reg.UPD_CTL]
  | 0x07 => Reg.MBX_CTL :: (List.range 64).map Reg.MBX_MnSTAT
  | 0x10 => Reg.FAB_CTL :: (List.range 16).map Reg.FAB_CREDn
  | _ => []

/-- PARFLT of a block, with the interrupt its map gives it. The blocks whose further effect sets it are left out. -/
def State.parityFlag (s : State) (blk : Nat) (bad : List Nat) : State :=
  match blk with
  | 0x00 => s.wr F.SYS_STAT_PARFLT 1
  | 0x01 => s.sdlChange (fun t => t.wr F.SDL_STAT_PARFLT 1)
  | 0x02 => s.rootWr F.RTD_STAT_PARFLT 1
  | 0x03 =>
    let t := if bad.any (fun k => decide (Reg.HLT_MONCTL ≤ k)) then s.wr F.HLT_MONSTAT_PARFLT 1 else s
    if bad.any (fun k => decide (k < Reg.HLT_MONCTL)) then t.flagDale F.HLT_STAT_PARFLT F.HLT_CTL_IE_CFG else t
  | 0x04 => s.flag F.EVR_STAT_PARFLT F.EVR_CTL_IE_CFG
  | 0x05 => s.flag F.UPD_STAT_PARFLT F.UPD_CTL_IE_CFG
  | 0x06 => s.wr F.RNG_STAT_PARFLT 1
  | 0x07 => s.wr F.MBX_STAT_PARFLT 1
  | 0x08 => s.wr F.ING_STAT_PARFLT 1
  | 0x09 => s.wr F.TRL_STAT_PARFLT 1
  | 0x0B => s.wr F.VLV_STAT_PARFLT 1
  | 0x0C => s.wr F.LSW_STAT_PARFLT 1
  | 0x0D => s.wr F.CAN_STAT_PARFLT 1
  | 0x10 => s.wr F.FAB_STAT_PARFLT 1
  | 0x15 => s.wr F.ETH_STAT_PARFLT 1
  | 0x16 => s.wr F.GNS_STAT_PARFLT 1
  | 0x17 => s.wr F.CAM_STAT_PARFLT 1
  | 0x18 => s.wr F.PRA_STAT_PARFLT 1
  | _ => s

/-- Whether block `blk`'s registers are powered; Root's stand in Root. -/
def State.parityPower (s : State) (blk : Nat) : Bool := if blk = 2 then s.rootOn else s.blockOn blk

/-- The block enters its safe state where any of its registers mismatches (R82): registers to reset, the further effects, PARFLT, the
SYS_PARBLK bit, one record with the block, the first mismatching offset and the number of mismatches, and the targeted self-test. -/
def State.parityEnter (s : State) (blk : Nat) : State :=
  let bad := s.badParity.filter (fun k => decide (k / 0x1000 = blk))
  match bad with
  | [] => s
  | k :: _ =>
    if s.parityPower blk then
      let t := bad.foldl (fun x j => x.parityOne j) s
      let t := (safeKeys blk bad).foldl (fun x j => x.safeReg j) t
      let t := if blk = 0x10 then (t.grantWaits 16 trackerSize).fabRegs else t
      let t := t.parityFlag blk bad
      if s.bedOn then t.parityFault blk (k % 0x1000) bad.length else t.record blk 0xFF sevFault blk (k % 0x1000) bad.length
    else s

/-- A bit of a protected register flips, or its hidden parity bit (bit 32); two flips in one register cancel (R80). -/
def State.upset (s : State) (u : Nat × Nat) : State :=
  let blk := u.1 / 0x1000
  let off := u.1 % 0x1000
  match findReg blk off with
  | some d =>
    if s.parityPower blk = true ∧ absentReg s.code blk off = false ∧
        ((u.2 = 32 ∧ d.protectedReg = true) ∨ d.fields.any (fun f => decide (f.acc = .rwp) && decide (f.lo ≤ u.2) && decide (u.2 ≤ f.hi)) = true) then
      let bit : W32 := BitVec.ofNat 32 (2 ^ u.2)
      let t := if u.2 = 32 then s else if blk = 2 then s.setRoot u.1 (s.rootReg u.1 ^^^ bit) else s.setReg u.1 (s.reg u.1 ^^^ bit)
      { t with badParity := if t.badParity.contains u.1 then t.badParity.filter (fun k => k ≠ u.1) else insertNat u.1 t.badParity }
    else s
  | none => s

/-- PARITY_SWEEP: the bits that flipped since the last sweep, and the check of every protected register of every powered block (R81). -/
def execParitySweep (upsets : List (Nat × Nat)) (s : State) : Host.Outcome State Fault Refusal :=
  .next ((List.range 26).foldl (fun x b => x.parityEnter b) (upsets.foldl (fun x u => x.upset u) s))

/-! ### Writes -/

/-- A power sequence with nothing found amiss, for a module reset ordered by a plain register write. -/
def plainSeq : SeqIn := { durs := [], found := (none, false, [], 0), bad := [], saveOk := true }

/-- A write to the HLT block. -/
def State.hltWrite (s : State) (off : Nat) (v : W32) : State :=
  let key := 0x3000 + off
  if off = 0x080 ∨ off = 0x0A0 then s.daleCtlWrite ((off - 0x080) / 0x20) v
  else if off = 0x084 ∨ off = 0x0A4 then s.heartbeat ((off - 0x084) / 0x20)
  else if 0x100 ≤ off ∧ off < 0x200 then
    let n := (off - 0x100) / 0x10
    let r := off % 0x10
    if r = 8 then s.mirCfgWrite n v false else if r < 8 then s.mirBaseWrite n r v else s
  else if 0x280 ≤ off ∧ off < 0x300 then s.compare ((off - 0x280) / 8) (off % 8 / 4) v
  else if key = Reg.HLT_TEMPLIM then
    if toSigned 16 (getBits v 31 16) < toSigned 16 (getBits v 15 0) then s else s.plainWrite key v
  else if listedAt key v = false ∨ (key = Reg.HLT_HOCFG ∧ getBits v 31 28 * 1000 ≤ getBits v 19 0) then s.mirReject 0 3
  else s.applyWrite key v

/-- A write to the EVR block by agent `a` (R555, R557, R559). -/
def State.evrWrite (s : State) (a : Agent) (off : Nat) (v : W32) : State :=
  let key := 0x4000 + off
  match agentBank a with
  | some b =>
    if key = Reg.EVR_SWREC then s.swCommit b v
    else if key = Reg.EVR_RDCMD then (if getBits v 0 0 = 1 then s.fetchRec b else s)
    else if bankedKey key then
      match findReg 0x04 off with
      | some d => s.setBank b key (d.written (s.bankReg b key) v)
      | none => s
    else if listedAt key v = false then
      (((s.wr F.EVR_BADCFG_CAUSE 1).wr F.EVR_BADCFG_BANK b).flag F.EVR_STAT_CFGREJ F.EVR_CTL_IE_CFG)
    else if 0x0C0 ≤ off then (s.applyWrite key v).cutBuckets ((off - 0x0C0) / 4)
    else s.applyWrite key v
  | none => s.plainWrite key v

/-- A write to the ING block (R123, R130, R138). -/
def State.ingWrite (s : State) (off : Nat) (v : W32) : State :=
  let key := 0x8000 + off
  if 0x400 ≤ off ∧ off < 0x5C0 then s.streamCfgWrite ((off - 0x400) / 4) v
  else if 0x100 ≤ off ∧ off < 0x1C0 then s.chanCfgWrite ((off - 0x100) / 4) v
  else if 0x1C0 ≤ off ∧ off < 0x1E0 then s.acousticCfgWrite ((off - 0x1C0) / 4) v
  else if 0x1E0 ≤ off ∧ off < 0x200 ∧ getBits v 31 16 ≤ getBits v 15 0 then s
  else if 0x200 ≤ off ∧ off < 0x280 then s.freqCfgWrite ((off - 0x200) / 4) v
  else if 0x280 ≤ off ∧ off < 0x2A0 then s.supplyCfgWrite ((off - 0x280) / 4) v
  else if key = Reg.ING_MIRCFG ∧ s.on F.ING_MIRCFG_EN = false ∧ getBits v 31 31 = 1 then
    let l := getBits v 24 20
    let size := 512 * 2 ^ l
    let base := s.rd F.ING_MIRBASE_BASE * 512
    if l < 8 ∨ 22 < l then s.wr F.ING_STAT_CFGREJ 1
    else if base % size ≠ 0 ∨ inDramRange s.code base size = false then (s.plainWrite key (setBits v 31 31 0)).wr F.ING_STAT_CFGREJ 1
    else s.plainWrite key v
  else s.plainWrite key v

/-- A write to the CAM block (R161). -/
def State.camWrite (s : State) (off : Nat) (v : W32) : State :=
  let key := 0x17000 + off
  if 0x100 ≤ off ∧ off < 0x400 then
    let n := (off - 0x100) / 0x40
    if off % 0x40 = 0 then s.linkCtlWrite n v else s.linkRegWrite n (off % 0x40) v
  else if 0x400 ≤ off ∧ off < 0x4C0 then s.linkBufWrite ((off - 0x400) / 0x10) (off % 0x10) v
  else if key = Reg.CAM_ENCCTL then s.encCtlWrite v
  else if key = Reg.CAM_BSRPOS then s.bsrposSet v
  else if 0x800 ≤ off ∧ off < 0xB00 then
    let k := (off - 0x800) / 0x20
    if off % 0x20 = 0 then s.encCfgWrite k v else if off % 0x20 = 0x1C then s.encCmdWrite k v else s.encRegWrite k (off % 0x20) v
  else s.plainWrite key v

/-- A write to the RNG block. -/
def State.rngWrite (s : State) (off : Nat) (v : W32) : State :=
  if 0x400 ≤ off ∧ off < 0xB00 then
    let q := (off - 0x400) / 0x10
    let r := off % 0x10
    if r = 0 then s.ringBaseWrite q v else if r = 4 then s.ringCfgWrite q v else if r = 8 then s.doorbell q (getBits v 15 0) else s
  else s.plainWrite (0x6000 + off) v

/-- The effect of an admitted write of `v` by agent `a` to the register at decoded offset `off` of block `blk`, a hole among them. -/
def State.regAct (s : State) (a : Agent) (blk off : Nat) (v : W32) : State :=
  let key := blk * 0x1000 + off
  if (findReg blk off).isNone then s
  else if snapKey blk = some key then (if getBits v 0 0 = 1 then s.snapshot a blk else s)
  else
    match blk with
    | 0x00 => if key = Reg.SYS_PWRREQ then s.pwrreqWrite a v else if key = Reg.SYS_RSTCMD then s.rstcmdWrite v plainSeq else s.plainWrite key v
    | 0x01 =>
      if key = Reg.SDL_CTL then s.sdlCtlWrite v
      else if key = Reg.SDL_STAT then s.sdlChange (fun t => t.plainWrite key v)
      else if 0x100 ≤ off ∧ off % 0x10 = 8 then s.alarmCtlWrite ((off - 0x100) / 0x10) v else s.plainWrite key v
    | 0x02 => if rootKeys.contains key then s.postRoot off v else s
    | 0x03 => s.hltWrite off v
    | 0x04 => s.evrWrite a off v
    | 0x05 => if key = Reg.UPD_CONFIRM then s.updConfirmWrite a v true else s.plainWrite key v
    | 0x06 => s.rngWrite off v
    | 0x08 => s.ingWrite off v
    | 0x09 => s.trlWrite off v
    | 0x0A => s.furWrite off v
    | 0x0B => s.vlvBlockWrite a off v
    | 0x0C => s.lswBlockWrite a off v
    | 0x0D => s.canWrite off v
    | 0x0E => s.dsWrite off v
    | 0x10 => if 0x100 ≤ off ∧ off < 0x140 then s.creditWrite ((off - 0x100) / 4) v else s.plainWrite key v
    | 0x11 => s.memWrite off v
    | 0x12 => s.nflWrite off v
    | 0x13 => s.terWrite off v
    | 0x14 => s.pceWrite off v
    | 0x15 => s.ethWrite off v
    | 0x16 => s.gnsWrite off v
    | 0x17 => s.camWrite off v
    | 0x18 => s.praWrite off v
    | 0x19 => s.dspWrite off v
    | _ => s.plainWrite key v

/-- A software write recomputes the parity bit of its register over the values then held (R80); a Root register does so as it commits. -/
def State.regEffect (s : State) (a : Agent) (blk off : Nat) (v : W32) : State :=
  let t := s.regAct a blk off v
  if blk = 0x02 then t else t.reparity (blk * 0x1000 + off)

/-- The effect of an accepted write to MBX by mailbox agent `id` (R105-R113). -/
def State.mbxWrite (s : State) (a : Agent) (id off : Nat) (v : W32) : State :=
  let m := (off - 0x100) / 0x10
  if 0x100 ≤ off ∧ off < 0x500 then
    match off % 0x10 with
    | 0 => s.mbxStageWrite id v
    | 4 => s.mbxPost a id m v
    | 8 => s.mbxStatWrite id m v
    | _ => s
  else if off = 0x010 ∨ off = 0x014 then
    (List.range 32).foldl (fun x i => if bitAt v.toNat i then x.mbxAbtWrite id (8 * (off - 0x010) + i) else x) s
  else if (findReg 0x07 off).isSome then s.plainWrite (0x7000 + off) v
  else s

/-- A 32-bit write by agent `a` at decoded offset `off` of block `blk` (R70 first, then R5 and the block's own rules). -/
def State.writeReg (s : State) (a : Agent) (blk off : Nat) (v : W32) : State :=
  if blk = 0x07 then
    s.mbxGate a off (if 0x100 ≤ off ∧ off < 0x500 then (off - 0x100) / 0x10 else 0) (fun id t => t.mbxWrite a id off v)
  else s.gate a blk off (fun t => t.regEffect a blk off v)

/-- The block and decoded offset an access of `size` bits by agent `a` at `addr` names (R32, R62-R65); none for an access that the register space does
not accept. -/
def regTarget (a : Agent) (addr size : Nat) : Option (Nat × Nat) :=
  let blk := (addr - regSpace) / 0x10000
  if addr < regSpace ∨ assigned blk = false then none
  else if (size = 32 ∧ addr % 4 = 0) ∨ (size = 64 ∧ addr % 8 = 0 ∧ isDale a = true) then some (blk, decodeOff blk (addr % 0x1000))
  else none

/-- A write of `size` bits at `addr`; a 64-bit one is two 32-bit writes, the lower address first, and errs where either does. -/
def State.writeAt (s : State) (a : Agent) (addr size value : Nat) : State :=
  match regTarget a addr size with
  | none => s.failFor a
  | some (blk, off) =>
    let s := s.throughTracker a blk addr true
    let t := s.writeReg a blk off (BitVec.ofNat 32 value)
    if size = 64 then
      let t2 := t.throughTracker a blk (addr + 4) true
      let u := t2.writeReg a blk (decodeOff blk (addr % 0x1000 + 4)) (BitVec.ofNat 32 (value / 2 ^ 32))
      if t.resp = .error then u.fail else u
    else t

/-- REGISTER_WRITE. -/
def execRegisterWrite (agent : Agent) (addr size value : Nat) (s : State) : Host.Outcome State Fault Refusal :=
  .next (s.writeAt agent addr size value)

/-- SNAPSHOT: a write of the block's SNAP register. -/
def execSnapshot (agent : Agent) (block : Nat) (value : W32) (s : State) : Host.Outcome State Fault Refusal :=
  .next (match snapKey block with
    | some k => s.gate agent block (k % 0x1000) (fun t => t.regEffect agent block (k % 0x1000) value)
    | none => s.fail)

/-! ### Reads -/

/-- A register whose measure the model leaves open. -/
def State.timed (s : State) (key : Nat) : State :=
  match timedMeasure key with
  | some top => s.freeMeasure key top
  | none => s

/-- A register that follows the time brought up to date as it is read. -/
def State.refresh (s : State) (key : Nat) : State :=
  let ms := fun (t0 : Nat) => (s.now - t0) / 1000000
  match key / 0x1000 with
  | 0x03 =>
    if key = Reg.HLT_DALEn_HBAGE 0 ∨ key = Reg.HLT_DALEn_HBAGE 1 then
      let n := (key - Reg.HLT_DALEn_HBAGE 0) / 0x20
      if s.daleState n = 1 then
        s.measured (F.HLT_DALEn_HBAGE_AGE n) (F.HLT_DALEn_HBAGE_PEAK n) ((s.now - SMap.get (fun _ => 0) s.hlt.hb n) / 1000)
      else s
    else
      match arrayIdx key (Reg.HLT_TOKc_SINCE 0) 8 8 with
      | some c => s.wrSat (F.HLT_TOKc_SINCE_MS c) (if s.on (F.HLT_TOKc_HELD c) then ms (s.token c).since else 0)
      | none => s.timed key
  | 0x05 =>
    match arrayIdx key (Reg.UPD_Uu_PROB 0) 0x20 9 with
    | some u => s.unitRegs u
    | none => s
  | 0x09 =>
    if key = Reg.TRL_SEQVER then s.wr F.TRL_SEQVER_VER (s.slot 2 (s.slotAct 2)).ver
    else if key = Reg.TRL_LOAD then s.trlBusy 0 else s
  | 0x0A => if key = Reg.FUR_LOAD then s.furBusy 0 else s
  | 0x12 => if key = Reg.NFL_BUSY ∨ (arrayIdx key (Reg.NFL_CHc_STAT 0) 0x40 8).isSome then s.nflBusy else s.timed key
  | 0x13 =>
    if key = Reg.TER_FWVER then s.wr F.TER_FWVER_VER (s.slot 4 (s.slotAct 4)).ver
    else if key = Reg.TER_BW then s.freeRates key
    else
      match arrayIdx key (Reg.TER_DRVd_WEAR 0) 0x10 32 with
      | some d => s.driveWear d
      | none => s.timed key
  | 0x0B =>
    match arrayIdx key (Reg.VLV_TRWj_WDOG 0) 8 6 with
    | some j => s.wrSat (icSince j) (ms (s.outIc j).accepted)
    | none => s
  | 0x0C =>
    match arrayIdx key (Reg.LSW_SHRj_WDOG 0) 8 8 with
    | some j => s.wrSat (icSince (6 + j)) (ms (s.outIc (6 + j)).accepted)
    | none => s
  | 0x0D =>
    if key = Reg.CAN_STAMP then s.setReg key (BitVec.ofNat 32 (canStamp s.now))
    else
      match arrayIdx key (Reg.CAN_PTNk 0) 4 256 with
      | some k =>
        if s.rd (F.CAN_PTNk_STATE k) = 0 then s
        else s.wrSat (F.CAN_PTNk_AGE k) ((s.now - SMap.get (fun _ => 0) s.can.seen k) / 1000000000)
      | none => s.timed key
  | 0x15 =>
    if key = Reg.ETH_PTPSTAT then s.ptpStat
    else if key = Reg.ETH_NVMEBW then s.freeRates key else s
  | _ => s.timed key

/-- Whether agent `a` lies in Bed and so reaches no Canopy register (R14). -/
def bedAgent (a : Agent) : Bool :=
  decide (a = .trellisSeq) || decide (a = .furrowRt) || decide (a = .scarecrow) || decide (a = .updEngine)

/-- The peak of Trowel bank `k` restarts from the bank current its status register shows (R578). -/
def State.bankPeak (s : State) (k : Nat) : State := s.wr (F.VLV_BANKk_CUR_PEAK k) (s.rd (F.VLV_BANKk_STAT_MA k))

/-- A 32-bit read of the register at decoded offset `off` of block `blk` by agent `a`: 0 for an absent unit (R5) and a hole (R66), the agent's own
bank for a banked register (R73), and else the register, after the parity check of R83, with its read effects. -/
def State.readWord (s : State) (a : Agent) (blk off : Nat) : State × W32 :=
  let key := blk * 0x1000 + off
  if absentReg s.code blk off then (s, 0)
  else
    match findReg blk off with
    | none => (s, 0)
    | some d =>
      if bankedKey key then
        match agentBank a with
        | some b => (s, d.visible (s.bankReg b key))
        | none => (s, 0)
      else
        let t := if decide (blk ≠ 2) && s.badParity.contains key then s.parityEnter blk else s
        let t := t.refresh key
        let u := t.setReg key (d.afterRead (t.reg key))
        let u := if blk = 0x0B ∧ 0x84 ≤ off ∧ off ≤ 0xDC ∧ off % 8 = 4 then u.bankPeak ((off - 0x84) / 8) else u
        let u := if key = Reg.RTD_CELLV then u.rootWr F.RTD_CELLV_LOW (u.rootRd F.RTD_CELLV_MV) else u
        (u, d.visible (t.reg key))

/-- A 32-bit read: an unpowered domain and a Canopy block read from Bed get an error response (R13, R14). -/
def State.readReg (s : State) (a : Agent) (blk off : Nat) : State :=
  if s.blockOn blk = false then s.failFor a
  else if bedAgent a = true ∧ bedBlock blk = false then s.fail
  else
    let r := s.readWord a blk off
    r.1.answer r.2.toNat

/-- The value the last access answered, where it answered one. -/
def Resp.word : Resp → Option Nat
  | .value v => some v
  | _ => Option.none

/-- A read of `size` bits at `addr`; a 64-bit one is two 32-bit reads, the lower address first. -/
def State.readAt (s : State) (a : Agent) (addr size : Nat) : State :=
  match regTarget a addr size with
  | none => s.failFor a
  | some (blk, off) =>
    let t := (s.throughTracker a blk addr false).readReg a blk off
    if size = 64 then
      let u := (t.throughTracker a blk (addr + 4) false).readReg a blk (decodeOff blk (addr % 0x1000 + 4))
      match t.resp.word, u.resp.word with
      | some lo, some hi => u.answer (hi * 2 ^ 32 + lo)
      | _, _ => u.fail
    else t

/-- READ_CLEAR: a read of a register; its RC fields restart (R578). -/
def execReadClear (agent : Agent) (addr size : Nat) (s : State) : Host.Outcome State Fault Refusal :=
  .next (s.readAt agent addr size)

/-! ### Service port access (R388) -/

/-- `n` words read from `addr` on: the index of the word that fails, and the words read before it. -/
def State.serviceReads (s : State) (addr k : Nat) : Nat → State × Option Nat × Bytes
  | 0 => (s, none, [])
  | n + 1 =>
    let t := s.readAt .svc addr 32
    match t.resp.word with
    | some v =>
      let r := State.serviceReads t (addr + 4) (k + 1) n
      (r.1, r.2.1, leBytes 4 v ++ r.2.2)
    | none => (t, some k, [])

/-- `n` words of `b` written from `addr` on: the index of the word that fails. -/
def State.serviceWrites (s : State) (addr k : Nat) (b : Bytes) : Nat → State × Option Nat
  | 0 => (s, none)
  | n + 1 =>
    let t := s.writeAt .svc addr 32 (leAt b 0 4)
    if t.resp = .error then (t, some k) else State.serviceWrites t (addr + 4) (k + 1) (b.drop 4) n

/-- The one's complement sum of a run of big-endian 16-bit words, complemented (RFC 791). -/
def ipChecksum (b : Bytes) : Nat :=
  let sum := (List.range (b.length / 2)).foldl (fun a i => a + beAt b (2 * i) 2) 0
  let fold := sum % 65536 + sum / 65536
  65535 - (fold % 65536 + fold / 65536)

/-- The reply datagram to the sender of frame `f`, with the payload `body`. -/
def State.serviceFrame (s : State) (f : EthFrame) (body : Bytes) : EthFrame :=
  let ip := f.payload
  let ihl := beAt ip 0 1 % 16 * 4
  let head := fun (sum : Nat) => beBytes 1 0x45 ++ beBytes 1 0 ++ beBytes 2 (28 + body.length) ++ beBytes 4 0 ++ beBytes 1 64 ++ beBytes 1 17 ++
    beBytes 2 sum ++ beBytes 4 (s.rd F.ETH_ENGIP_ADDR) ++ beBytes 4 (beAt ip 12 4)
  let udp := beBytes 2 7440 ++ beBytes 2 (beAt ip ihl 2) ++ beBytes 2 (8 + body.length) ++ beBytes 2 0
  { dst := f.src, src := s.ethMac + 1, tag := f.tag, etype := 0x0800, payload := head (ipChecksum (head 0)) ++ udp ++ body }

/-- A service datagram in frame `f` with OP `op` is carried out and answered on port 6. One that is no such request does nothing. -/
def State.service (s : State) (f : EthFrame) (op : Nat) : State :=
  if s.canopyOn = false ∨ s.linkUp 6 = false ∨ s.isService 6 f = false then s
  else
    match udpOf f with
    | none => s
    | some (_, _, _, _, req) =>
      let n := leAt req 5 1
      let t := (s.frameIn 6).fdbLearn 6 (s.vlanOf 6 f) f.src
      if leAt req 4 1 ≠ op ∨ n = 0 ∨ 64 < n ∨ req.length < 16 + (if op = 2 then 4 * n else 0) then s
      else
        let r : State × Option Nat × Bytes :=
          if op = 1 then State.serviceReads t (leAt req 8 8) 0 n
          else
            let w := State.serviceWrites t (leAt req 8 8) 0 (req.drop 16) n
            (w.1, w.2, [])
        let body := req.take 6 ++ leBytes 1 (if r.2.1.isSome then 1 else 0) ++ leBytes 1 (r.2.1.getD 0) ++ List.replicate 8 0 ++ r.2.2
        r.1.egress 6 { port := 6, cls := ethCls f, frame := s.serviceFrame f body, stream := none, desc := none }

/-- SERVICE_READ. -/
def execServiceRead (f : EthFrame) (s : State) : Host.Outcome State Fault Refusal := .next (s.service f 1)

/-- SERVICE_WRITE. -/
def execServiceWrite (f : EthFrame) (s : State) : Host.Outcome State Fault Refusal := .next (s.service f 2)

end Sys2Proof.Machine
end

