-- ==== Sys2Proof/Machine/Cell.lean ====
section
/-! DEFINITION. The backup cell, the Root save and Root power-on (R489-R492). -/

namespace Sys2Proof.Machine

/-- The cell's full charge in µAh (R489). -/
def cellFull : Nat := 50000

/-- The charge in µAh that a voltage implies, linear between the rows of R491; none below the last row. -/
def chargeAt (mv : Nat) : Option Nat :=
  if 3200 ≤ mv then some 50000
  else if 3000 ≤ mv then some (30000 + (mv - 3000) * 100)
  else if 2800 ≤ mv then some (10000 + (mv - 2800) * 100)
  else if 2600 ≤ mv then some (2500 + (mv - 2600) * 75 / 2)
  else none

/-- RTD_CELLQ set to a charge. -/
def State.cellCharge (s : State) (uah : Nat) : State := (s.rootWr F.RTD_CELLQ_UAH uah).rootWr F.RTD_CELLQ_PCT (uah * 100 / cellFull)

/-- The count re-based to the charge the voltage implies, a free value where R491 gives none; saves run hourly from now on. -/
def State.rebase (s : State) (mv : Nat) : State :=
  let t := match chargeAt mv with
    | some q => s.cellCharge q
    | none => (s.cellCharge (s.freshNat % (cellFull + 1))).tickFree
  let t := (t.setPwr { t.pwr with hourly := true }).rootWr F.RTD_STAT_REBASE 1
  (t.sysFlag F.SYS_STAT_CELL F.SYS_CTL_IE_CELL).record 0x02 0x43 sevWarning mv 0 0

/-- A Root save, and the confirmations that waited for it where it verifies (R490, R532). -/
def State.saveAndConfirm (s : State) (cause : Nat) (ok : Bool) : State :=
  let t := s.rootSave cause ok
  if ok = true ∧ t.bedOn = true ∧ t.upd.unsaved ≠ [] then t.confirmSaved else t

/-- The second measurement in a row below VLOW. -/
def State.cellLow (s : State) (mv : Nat) (ok : Bool) : State :=
  let t := (s.setPwr { s.pwr with low := true }).rootWr F.RTD_STAT_CELLLOW 1
  let t := (t.sysFlag F.SYS_STAT_CELL F.SYS_CTL_IE_CELL).record 0x02 0x44 sevWarning mv 0 0
  let t := t.saveAndConfirm 5 ok
  if cellFull / 5 < t.rootRd F.RTD_CELLQ_UAH then t.cellCharge 0 else t

/-- CELL_MEASURE. -/
def execCellMeasure (mv : Nat) (dq : Int) (saveOk : Bool) (s : State) : Host.Outcome State Fault Refusal :=
  .next (
    if s.rootOn = false then s
    else
      let v := min mv 0xFFFF
      let t := (s.rootWr F.RTD_CELLV_MV v).rootWr F.RTD_CELLV_LOW (min v (s.rootRd F.RTD_CELLV_LOW))
      let t := t.cellCharge (clampI 0 cellFull ((t.rootRd F.RTD_CELLQ_UAH : Int) + dq)).toNat
      let charging := decide (2 ≤ t.pwr.st) && decide (t.pwr.step = 0) && decide (v < 3300)
      let t := t.rootWr F.RTD_STAT_CHARGING (if charging then 1 else 0)
      let t := if 3300 ≤ v ∧ 2 ≤ t.pwr.st then t.setPwr { t.pwr with hourly := false } else t
      let below := decide (v < t.rootRd F.RTD_CELLCFG_VLOW)
      let run := if below then t.pwr.lowRun + 1 else 0
      let t := t.setPwr { t.pwr with lowRun := min run 2, low := t.pwr.low && below }
      let t := if run = 2 ∧ t.pwr.low = false then t.cellLow v saveOk else t
      let t := if t.rootRd F.RTD_CELLQ_UAH = 0 ∧ t.rootRd F.RTD_CELLCFG_VOK ≤ v then t.rebase v else t
      if v < 2300 ∧ t.pwr.st = 0 then { t with rootOn := false } else t)

/-- The cause of the Root save that is due (R490, R491). -/
def State.saveDue (s : State) : Option Nat :=
  let hour := 3600 * calSec
  let age := s.pwr.root - s.pwr.savedAt
  if s.rootBit F.RTD_SAVE_NOW then some 6
  else if s.upd.unsaved ≠ [] then some 7
  else if s.pwr.low = true ∧ hour ≤ age then some 5
  else if s.pwr.hourly = true ∧ s.bedOn = false ∧ hour ≤ age then some 4
  else if (if s.bedOn then 1 else s.rootRd F.RTD_CTL_SAVEINT) * hour ≤ age then some 1
  else none

/-- ROOT_SAVE: the save that is due. -/
def execRootSave (ok : Bool) (s : State) : Host.Outcome State Fault Refusal :=
  .next (
    match s.saveDue with
    | some c => if s.rootOn then s.saveAndConfirm c ok else s
    | none => s)

/-- ROOT_POWER_ON: every Root register at its reset value, and the content of the newest valid save restored. -/
def execRootPowerOn (s : State) : Host.Outcome State Fault Refusal :=
  .next (
    if s.rootOn then s
    else
      let v := s.validSave.getD {}
      let evr : Evr := { s.evr with buckets := [], bases := [], refilled := [] }
      let pwr : Pwr := { cal := v.cal, saves := s.pwr.saves }
      let upd : Upd := { s.upd with arb := v.arb }
      let t : State := { s with rootOn := true, rootRegs := v.regs, latches := [], evr := evr, pwr := pwr, upd := upd, outs := { s.outs with wear := v.wear } }
      let t := (t.wideSet Reg.RTD_SDLSAVE_LO v.sdl).setRoot Reg.RTD_OPSEC (BitVec.ofNat 32 v.opsec)
      let t := t.setRoot Reg.RTD_PWRCYC (BitVec.ofNat 32 v.pwrcyc)
      if s.validSave.isSome then (t.rootWr F.RTD_STAT_CALLOST 1).rootWr F.RTD_STAT_CALVALID 0 else t)

end Sys2Proof.Machine
end

