-- ==== Sys2Proof/Machine/FurrowIsa.lean ====
section
/-! DEFINITION. The Furrow instruction set (R289-R296): the words of the instructions, their effects, and the step of a scan. -/

namespace Sys2Proof.Machine

/-! ### Words (R289) -/

/-- The word of an instruction; none where an operand does not fit its field. -/
def encN (op : Nat) : Option Nat := some (op * 2 ^ 24)
def encA (op : Nat) (bit : Bool) : Option Nat := some (op * 2 ^ 24 + if bit then 1 else 0)

/-- Formats F, W and E: an index below `n` in the low bits, X in bit 23. -/
def encX (op n : Nat) (x : Bool) (i : Nat) : Option Nat :=
  if i < n then some (op * 2 ^ 24 + (if x then 2 ^ 23 else 0) + i) else none

/-- Format I. -/
def encI (op : Nat) (imm : Int) : Option Nat :=
  if -(2 ^ 19) ≤ imm ∧ imm < 2 ^ 19 then some (op * 2 ^ 24 + toPattern 20 imm) else none

/-- Format B. -/
def encB (op k : Nat) : Option Nat := if k < 3 then some (op * 2 ^ 24 + k) else none

/-- Formats TI and TW. -/
def encTI (op base count t : Nat) : Option Nat :=
  if base < 4 ∧ count < 4096 ∧ t < furTimers then some (op * 2 ^ 24 + base * 2 ^ 22 + count * 2 ^ 10 + t) else none
def encTW (op word t : Nat) : Option Nat :=
  if word < furWords ∧ t < furTimers then some (op * 2 ^ 24 + word * 2 ^ 10 + t) else none

/-- Format CW. -/
def encCW (op word c : Nat) : Option Nat :=
  if word < furWords ∧ c < furCounters then some (op * 2 ^ 24 + word * 2 ^ 9 + c) else none

/-- Formats T, C and J: a number below `n`. -/
def encLow (op n i : Nat) : Option Nat := if i < n then some (op * 2 ^ 24 + i) else none

/-- Format R. -/
def encR (op : Nat) (src : Bool) (count str len : Nat) : Option Nat :=
  if str < 8 ∧ 1 ≤ len ∧ len < 256 ∧ count < (if src then furWords else 4096) then
    some (op * 2 ^ 24 + (if src then 2 ^ 23 else 0) + count * 2 ^ 11 + str * 2 ^ 8 + len)
  else none

/-- The word of a Furrow instruction (R289); none where an operand does not fit its field, and for every command that is no Furrow instruction. -/
def furEncode : Instr → Option Nat
  | .furNop => encN 0x00
  | .furLd x f => encX 0x01 furFlags x f
  | .furLdn x f => encX 0x02 furFlags x f
  | .furAnd x f => encX 0x03 furFlags x f
  | .furAndn x f => encX 0x04 furFlags x f
  | .furOr x f => encX 0x05 furFlags x f
  | .furOrn x f => encX 0x06 furFlags x f
  | .furXor x f => encX 0x07 furFlags x f
  | .furSt x f => encX 0x08 furFlags x f
  | .furStn x f => encX 0x09 furFlags x f
  | .furSet x f => encX 0x0A furFlags x f
  | .furRst x f => encX 0x0B furFlags x f
  | .furNot => encN 0x0C
  | .furLda bit => encA 0x0D bit
  | .furOpen op => encB 0x10 op
  | .furClose => encN 0x11
  | .furFp x e => encX 0x14 furEdges x e
  | .furFn x e => encX 0x15 furEdges x e
  | .furTon base count t => encTI 0x18 base count t
  | .furTof base count t => encTI 0x19 base count t
  | .furTp base count t => encTI 0x1A base count t
  | .furTonw word t => encTW 0x1B word t
  | .furTofw word t => encTW 0x1C word t
  | .furTpw word t => encTW 0x1D word t
  | .furRstt t => encLow 0x1E furTimers t
  | .furLdt t => encLow 0x1F furTimers t
  | .furCtu word c => encCW 0x20 word c
  | .furCtd word c => encCW 0x21 word c
  | .furRstc c => encLow 0x22 furCounters c
  | .furLdc c => encLow 0x23 furCounters c
  | .furLdw x i => encX 0x30 furWords x i
  | .furLdi imm => encI 0x31 imm
  | .furStw x i => encX 0x32 furWords x i
  | .furStwc x i => encX 0x33 furWords x i
  | .furAddw x i => encX 0x34 furWords x i
  | .furSubw x i => encX 0x35 furWords x i
  | .furMulw x i => encX 0x36 furWords x i
  | .furDivw x i => encX 0x37 furWords x i
  | .furAddi imm => encI 0x38 imm
  | .furMinw x i => encX 0x39 furWords x i
  | .furMaxw x i => encX 0x3A furWords x i
  | .furAndw x i => encX 0x3B furWords x i
  | .furOrw x i => encX 0x3C furWords x i
  | .furNeg => encN 0x3D
  | .furAbs => encN 0x3E
  | .furCeq x i => encX 0x40 furWords x i
  | .furCne x i => encX 0x41 furWords x i
  | .furClt x i => encX 0x42 furWords x i
  | .furCle x i => encX 0x43 furWords x i
  | .furCgt x i => encX 0x44 furWords x i
  | .furCge x i => encX 0x45 furWords x i
  | .furCeqi imm => encI 0x48 imm
  | .furCnei imm => encI 0x49 imm
  | .furClti imm => encI 0x4A imm
  | .furClei imm => encI 0x4B imm
  | .furCgti imm => encI 0x4C imm
  | .furCgei imm => encI 0x4D imm
  | .furLdte t => encLow 0x50 furTimers t
  | .furLdcv c => encLow 0x51 furCounters c
  | .furLdx => encN 0x52
  | .furJmp target => encLow 0x60 65536 target
  | .furJc target => encLow 0x61 65536 target
  | .furJnc target => encLow 0x62 65536 target
  | .furRep src count str len => encR 0x68 src count str len
  | .furEnd => encN 0x6F
  | _ => none

/-- The instruction whose opcode and fields a word holds, whatever its other bits (R289). -/
def furFields (w : Nat) : Option Instr :=
  match w / 2 ^ 24 with
  | 0x00 => some .furNop
  | 0x01 => some (.furLd (bitAt w 23) (bitsOf w 22 0))
  | 0x02 => some (.furLdn (bitAt w 23) (bitsOf w 22 0))
  | 0x03 => some (.furAnd (bitAt w 23) (bitsOf w 22 0))
  | 0x04 => some (.furAndn (bitAt w 23) (bitsOf w 22 0))
  | 0x05 => some (.furOr (bitAt w 23) (bitsOf w 22 0))
  | 0x06 => some (.furOrn (bitAt w 23) (bitsOf w 22 0))
  | 0x07 => some (.furXor (bitAt w 23) (bitsOf w 22 0))
  | 0x08 => some (.furSt (bitAt w 23) (bitsOf w 22 0))
  | 0x09 => some (.furStn (bitAt w 23) (bitsOf w 22 0))
  | 0x0A => some (.furSet (bitAt w 23) (bitsOf w 22 0))
  | 0x0B => some (.furRst (bitAt w 23) (bitsOf w 22 0))
  | 0x0C => some .furNot
  | 0x0D => some (.furLda (bitAt w 0))
  | 0x10 => some (.furOpen (bitsOf w 1 0))
  | 0x11 => some .furClose
  | 0x14 => some (.furFp (bitAt w 23) (bitsOf w 22 0))
  | 0x15 => some (.furFn (bitAt w 23) (bitsOf w 22 0))
  | 0x18 => some (.furTon (bitsOf w 23 22) (bitsOf w 21 10) (bitsOf w 9 0))
  | 0x19 => some (.furTof (bitsOf w 23 22) (bitsOf w 21 10) (bitsOf w 9 0))
  | 0x1A => some (.furTp (bitsOf w 23 22) (bitsOf w 21 10) (bitsOf w 9 0))
  | 0x1B => some (.furTonw (bitsOf w 20 10) (bitsOf w 9 0))
  | 0x1C => some (.furTofw (bitsOf w 20 10) (bitsOf w 9 0))
  | 0x1D => some (.furTpw (bitsOf w 20 10) (bitsOf w 9 0))
  | 0x1E => some (.furRstt (bitsOf w 15 0))
  | 0x1F => some (.furLdt (bitsOf w 15 0))
  | 0x20 => some (.furCtu (bitsOf w 19 9) (bitsOf w 8 0))
  | 0x21 => some (.furCtd (bitsOf w 19 9) (bitsOf w 8 0))
  | 0x22 => some (.furRstc (bitsOf w 15 0))
  | 0x23 => some (.furLdc (bitsOf w 15 0))
  | 0x30 => some (.furLdw (bitAt w 23) (bitsOf w 22 0))
  | 0x31 => some (.furLdi (toSigned 20 (bitsOf w 19 0)))
  | 0x32 => some (.furStw (bitAt w 23) (bitsOf w 22 0))
  | 0x33 => some (.furStwc (bitAt w 23) (bitsOf w 22 0))
  | 0x34 => some (.furAddw (bitAt w 23) (bitsOf w 22 0))
  | 0x35 => some (.furSubw (bitAt w 23) (bitsOf w 22 0))
  | 0x36 => some (.furMulw (bitAt w 23) (bitsOf w 22 0))
  | 0x37 => some (.furDivw (bitAt w 23) (bitsOf w 22 0))
  | 0x38 => some (.furAddi (toSigned 20 (bitsOf w 19 0)))
  | 0x39 => some (.furMinw (bitAt w 23) (bitsOf w 22 0))
  | 0x3A => some (.furMaxw (bitAt w 23) (bitsOf w 22 0))
  | 0x3B => some (.furAndw (bitAt w 23) (bitsOf w 22 0))
  | 0x3C => some (.furOrw (bitAt w 23) (bitsOf w 22 0))
  | 0x3D => some .furNeg
  | 0x3E => some .furAbs
  | 0x40 => some (.furCeq (bitAt w 23) (bitsOf w 22 0))
  | 0x41 => some (.furCne (bitAt w 23) (bitsOf w 22 0))
  | 0x42 => some (.furClt (bitAt w 23) (bitsOf w 22 0))
  | 0x43 => some (.furCle (bitAt w 23) (bitsOf w 22 0))
  | 0x44 => some (.furCgt (bitAt w 23) (bitsOf w 22 0))
  | 0x45 => some (.furCge (bitAt w 23) (bitsOf w 22 0))
  | 0x48 => some (.furCeqi (toSigned 20 (bitsOf w 19 0)))
  | 0x49 => some (.furCnei (toSigned 20 (bitsOf w 19 0)))
  | 0x4A => some (.furClti (toSigned 20 (bitsOf w 19 0)))
  | 0x4B => some (.furClei (toSigned 20 (bitsOf w 19 0)))
  | 0x4C => some (.furCgti (toSigned 20 (bitsOf w 19 0)))
  | 0x4D => some (.furCgei (toSigned 20 (bitsOf w 19 0)))
  | 0x50 => some (.furLdte (bitsOf w 15 0))
  | 0x51 => some (.furLdcv (bitsOf w 15 0))
  | 0x52 => some .furLdx
  | 0x60 => some (.furJmp (bitsOf w 15 0))
  | 0x61 => some (.furJc (bitsOf w 15 0))
  | 0x62 => some (.furJnc (bitsOf w 15 0))
  | 0x68 => some (.furRep (bitAt w 23) (bitsOf w 22 11) (bitsOf w 10 8) (bitsOf w 7 0))
  | 0x6F => some .furEnd
  | _ => none

/-- The Furrow instruction a word holds: none for an unassigned opcode, an operand out of range and a reserved bit that is 1. -/
def furDecode (w : Nat) : Option Instr := (furFields w).filter (fun i => decide (furEncode i = some w))

/-! ### The step of a scan (R274, R294-R296, R304) -/

/-- What an instruction answers: a fault, or the state and the scan after it. -/
inductive FurOut where
  | fault (cause : Nat)
  | ok (s : State) (sc : Scan)

/-- The scan that runs. -/
def State.scanNow (s : State) : Option Scan :=
  match s.fur.scan with
  | some sc => if sc.ended.isNone then some sc else none
  | none => none

/-- The instruction the scan has reached; none beyond the program. -/
def State.furCode (s : State) (pc : Nat) : Option Nat :=
  match s.fur.active with
  | some p => p.code[pc]?
  | none => none

/-- The end of a pass of a REP body: the next pass, or the end of the REP. -/
def Scan.passEnd (sc : Scan) : Scan :=
  match sc.rep with
  | none => sc
  | some r =>
    if sc.pc ≠ r.start + r.len then sc
    else if r.pass + 1 < r.n then { sc with pc := r.start, x := (r.pass + 1) * 2 ^ r.str, rep := some { r with pass := r.pass + 1 } }
    else { sc with x := 0, rep := none }

/-- The scan goes on: execution that passes the last instruction faults with PCEND. -/
def State.scanNext (s : State) (sc : Scan) : State :=
  let sc := sc.passEnd
  if (s.furCode sc.pc).isNone then s.furAbort sc 0xA sc.pc else s.setFur { s.fur with scan := some sc }

/-- A scan that has ended: counters, and the status area. -/
def State.scanDone (s : State) (sc : Scan) : State :=
  let d := s.now - sc.started
  let t := s.setFur { s.fur with scan := some { sc with ended := some s.now }, aborted := false, lastOvr := sc.overrun }
  let t := ((t.wr F.FUR_FAULTRUN_RUN 0).wideAdd Reg.FUR_SCANCNT_LO 1).measured F.FUR_SCANTIME_LAST F.FUR_SCANTIME_PEAK (d / 1000)
  let t := (if sc.overrun then t else t.inc (F.FUR_HISTn_CNT (min 15 (d * 16 / t.furCycle)))).furBusy d
  t.statArea sc

/-- One instruction of the running scan, where the word `w` stands at the scan's address: its effect `f`, given the scan with its
address moved past it, or the fault it takes. A marked instruction word faults with PMEM. -/
def State.furRun (s : State) (w : Option Nat) (f : State → Scan → FurOut) : State :=
  match s.scanNow with
  | none => s
  | some sc =>
    if s.bedOn = false ∨ s.furState ≠ 1 ∨ w = none ∨ s.furCode sc.pc ≠ w then s
    else if s.fur.badCode.contains sc.pc then s.furAbort sc 8 sc.pc
    else
      match f s { sc with pc := sc.pc + 1 } with
      | .fault c => s.furAbort sc c sc.pc
      | .ok t n => if n.ended.isSome then t.scanDone n else t.scanNext n

/-! ### Operands (R289, R291) -/

/-- The address of an indexed operand. -/
def Scan.at (sc : Scan) (x : Bool) (i : Nat) : Nat := if x then i + sc.x else i

/-- An instruction that reads entry `i` of an area: ADDR beyond the memory, POISON on a marked entry. -/
def State.furGet (s : State) (area : Nat) (sc : Scan) (x : Bool) (i : Nat) (k : Nat → FurOut) : FurOut :=
  let a := sc.at x i
  if furSize area ≤ a then .fault 4 else if s.furBad area a then .fault 7 else k a

/-- An instruction on a flag that gives a new a. -/
def furFlagOp (x : Bool) (i : Nat) (g : Bool → Bool → Bool) (s : State) (sc : Scan) : FurOut :=
  s.furGet 0 sc x i (fun a => .ok s { sc with a := g sc.a (s.furFlag a) })

/-- A store to a flag, where `go` holds. -/
def furFlagSt (x : Bool) (i : Nat) (go : Bool → Bool) (v : Bool → Bool) (s : State) (sc : Scan) : FurOut :=
  let a := sc.at x i
  if furFlags ≤ a then .fault 4 else .ok (if go sc.a then s.setFlag a (v sc.a) else s) sc

/-- An instruction on the accumulators alone. -/
def furAcc (g : Scan → Scan) (s : State) (sc : Scan) : FurOut := .ok s (g sc)

/-- w replaced by an exact value, saturated; a saturation sets SAT. -/
def Scan.setW (sc : Scan) (v : Int) : Scan := { sc with w := sat36 v, sat := sc.sat || decide (sat36 v ≠ v) }

/-- An instruction on a word that gives a new w; none is a division by 0. -/
def furWordOp (x : Bool) (i : Nat) (g : Int → Int → Option Int) (s : State) (sc : Scan) : FurOut :=
  s.furGet 1 sc x i (fun a =>
    match g sc.w (s.furWord a) with
    | some v => .ok s (sc.setW v)
    | none => .fault 5)

/-- A comparison of w with a word. -/
def furCmp (x : Bool) (i : Nat) (r : Int → Int → Bool) (s : State) (sc : Scan) : FurOut :=
  s.furGet 1 sc x i (fun a => .ok s { sc with a := r sc.w (s.furWord a) })

/-- A store of w where `go` holds: CONSTWR in the constant region. -/
def furWordSt (x : Bool) (i : Nat) (go : Bool → Bool) (s : State) (sc : Scan) : FurOut :=
  let a := sc.at x i
  if furWords ≤ a then .fault 4
  else if go sc.a = false then .ok s sc
  else if (s.fur.active.map (fun p => p.isConst a)).getD false then .fault 6
  else .ok (s.setWord a sc.w) sc

/-- Bitwise operations over 36 bits. -/
def and36 (a b : Int) : Int := toSigned 36 (toPattern 36 a &&& toPattern 36 b)
def or36 (a b : Int) : Int := toSigned 36 (toPattern 36 a ||| toPattern 36 b)

/-- Relations. -/
def relEq (a b : Int) : Bool := decide (a = b)
def relNe (a b : Int) : Bool := decide (a ≠ b)
def relLt (a b : Int) : Bool := decide (a < b)
def relLe (a b : Int) : Bool := decide (a ≤ b)
def relGt (a b : Int) : Bool := decide (b < a)
def relGe (a b : Int) : Bool := decide (b ≤ a)

/-! ### The stack (R289, R295) -/

/-- OPEN. -/
def furPush (op : Nat) (s : State) (sc : Scan) : FurOut :=
  if 16 ≤ sc.stack.length then .fault 1 else .ok s { sc with stack := (sc.a, op) :: sc.stack }

/-- A logic operation of the stack. -/
def logicOp (op : Nat) (v a : Bool) : Bool := if op = 0 then v && a else if op = 1 then v || a else v != a

/-- CLOSE. -/
def furPop (s : State) (sc : Scan) : FurOut :=
  match sc.stack with
  | [] => .fault 2
  | (v, op) :: r => .ok s { sc with a := logicOp op v sc.a, stack := r }

/-! ### Timers, edges and counters (R292, R293) -/

/-- The µs since a timer was last evaluated. -/
def State.timerDt (s : State) (t : Timer) (tscan : Nat) : Nat := (tscan - t.last.getD s.fur.timer0) / 1000

/-- TON, TOF and TP over the preset `pt` in µs and the time `dt` since the last evaluation. -/
def Timer.on (t : Timer) (a : Bool) (dt pt : Nat) : Timer :=
  let et := if a && t.inp then min (t.et + dt) pt else 0
  { t with et := et, q := a && decide (pt ≤ et), inp := a }
def Timer.off (t : Timer) (a : Bool) (dt pt : Nat) : Timer :=
  if a then { t with et := 0, run := false, q := true, inp := a }
  else if t.inp then { t with et := 0, run := decide (0 < pt), q := decide (0 < pt), inp := a }
  else if t.run then
    let et := min (t.et + dt) pt
    { t with et := et, run := decide (et < pt), q := decide (et < pt), inp := a }
  else { t with q := false, inp := a }
def Timer.pulse (t : Timer) (a : Bool) (dt pt : Nat) : Timer :=
  if a && !t.inp && !t.run then { t with et := 0, run := decide (0 < pt), q := decide (0 < pt), inp := a }
  else if t.run then
    let et := min (t.et + dt) pt
    { t with et := et, run := decide (et < pt), q := decide (et < pt), inp := a }
  else { t with q := false, inp := a }

/-- A timer evaluated with the preset `pt` in µs. -/
def furTime (i pt : Nat) (g : Timer → Bool → Nat → Nat → Timer) (s : State) (sc : Scan) : FurOut :=
  s.furGet 2 sc false i (fun i =>
    let t := s.furTimer i
    let u := { g t sc.a (s.timerDt t sc.tlatch) pt with last := some sc.tlatch }
    .ok (s.setTimer i u) { sc with a := u.q })

/-- The preset of a TI operand in µs. -/
def presetTI (base count : Nat) : Nat := count * 10 ^ base * 1000

/-- A timer evaluated with its preset from a word in ms. -/
def furTimeW (word i : Nat) (g : Timer → Bool → Nat → Nat → Timer) (s : State) (sc : Scan) : FurOut :=
  s.furGet 1 sc false word (fun k => furTime i ((clampI 0 34359738 (s.furWord k)).toNat * 1000) g s sc)

/-- A rising or falling edge. -/
def furEdgeOp (x : Bool) (i : Nat) (g : Bool → Bool → Bool) (s : State) (sc : Scan) : FurOut :=
  s.furGet 4 sc x i (fun i => .ok (s.setEdge i sc.a) { sc with a := g sc.a (s.furEdge i) })

/-- A counter's Q under its kind (1 up, 2 down) and preset. -/
def Counter.qOf (c : Counter) : Bool := if c.kind = 1 then decide (c.pv ≤ c.cv) else if c.kind = 2 then decide (c.cv ≤ 0) else c.q

/-- A counter counted up or down. -/
def furCount (word i kind : Nat) (step : Int) (s : State) (sc : Scan) : FurOut :=
  s.furGet 1 sc false word (fun k => s.furGet 3 sc false i (fun i =>
    let c := s.furCounter i
    let n : Counter := { c with cv := if sc.a && !c.inp then sat36 (c.cv + step) else c.cv, inp := sc.a, kind := kind, pv := s.furWord k }
    .ok (s.setCounter i { n with q := n.qOf }) { sc with a := n.qOf }))

/-- RSTT. -/
def furResetTimer (i : Nat) (s : State) (sc : Scan) : FurOut :=
  .ok (if sc.a then s.setTimer i { s.furTimer i with et := 0, q := false, run := false } else s) sc

/-- RSTC. -/
def furResetCounter (i : Nat) (s : State) (sc : Scan) : FurOut :=
  let c : Counter := { s.furCounter i with cv := 0 }
  .ok (if sc.a then s.setCounter i { c with q := c.qOf } else s) sc

/-! ### Control (R294, R295) -/

/-- A jump where `go` holds. -/
def furJump (target : Nat) (go : Bool → Bool) (s : State) (sc : Scan) : FurOut :=
  .ok s (if go sc.a then { sc with pc := target } else sc)

/-- REP with `n` passes. -/
def furRepeat (n str len : Nat) (s : State) (sc : Scan) : FurOut :=
  if n = 0 then .ok s { sc with pc := sc.pc + len, x := 0 }
  else .ok s { sc with x := 0, rep := some { start := sc.pc, len := len, str := str, n := n, pass := 0 } }

/-- END. -/
def furEnd (s : State) (sc : Scan) : FurOut :=
  if sc.stack.isEmpty then .ok s { sc with ended := some s.now } else .fault 3

/-! ### The instructions -/

/-- NOP. -/
def execFurNop (s : State) : Host.Outcome State Fault Refusal :=
  .next (s.furRun (furEncode .furNop) (furAcc (fun c => c)))

/-- LD. -/
def execFurLd (x : Bool) (f : Nat) (s : State) : Host.Outcome State Fault Refusal :=
  .next (s.furRun (furEncode (.furLd x f)) (furFlagOp x f (fun _ f => f)))

/-- LDN. -/
def execFurLdn (x : Bool) (f : Nat) (s : State) : Host.Outcome State Fault Refusal :=
  .next (s.furRun (furEncode (.furLdn x f)) (furFlagOp x f (fun _ f => !f)))

/-- AND. -/
def execFurAnd (x : Bool) (f : Nat) (s : State) : Host.Outcome State Fault Refusal :=
  .next (s.furRun (furEncode (.furAnd x f)) (furFlagOp x f (fun a f => a && f)))

/-- ANDN. -/
def execFurAndn (x : Bool) (f : Nat) (s : State) : Host.Outcome State Fault Refusal :=
  .next (s.furRun (furEncode (.furAndn x f)) (furFlagOp x f (fun a f => a && !f)))

/-- OR. -/
def execFurOr (x : Bool) (f : Nat) (s : State) : Host.Outcome State Fault Refusal :=
  .next (s.furRun (furEncode (.furOr x f)) (furFlagOp x f (fun a f => a || f)))

/-- ORN. -/
def execFurOrn (x : Bool) (f : Nat) (s : State) : Host.Outcome State Fault Refusal :=
  .next (s.furRun (furEncode (.furOrn x f)) (furFlagOp x f (fun a f => a || !f)))

/-- XOR. -/
def execFurXor (x : Bool) (f : Nat) (s : State) : Host.Outcome State Fault Refusal :=
  .next (s.furRun (furEncode (.furXor x f)) (furFlagOp x f (fun a f => a != f)))

/-- ST. -/
def execFurSt (x : Bool) (f : Nat) (s : State) : Host.Outcome State Fault Refusal :=
  .next (s.furRun (furEncode (.furSt x f)) (furFlagSt x f (fun _ => true) (fun a => a)))

/-- STN. -/
def execFurStn (x : Bool) (f : Nat) (s : State) : Host.Outcome State Fault Refusal :=
  .next (s.furRun (furEncode (.furStn x f)) (furFlagSt x f (fun _ => true) (fun a => !a)))

/-- SET. -/
def execFurSet (x : Bool) (f : Nat) (s : State) : Host.Outcome State Fault Refusal :=
  .next (s.furRun (furEncode (.furSet x f)) (furFlagSt x f (fun a => a) (fun _ => true)))

/-- RST. -/
def execFurRst (x : Bool) (f : Nat) (s : State) : Host.Outcome State Fault Refusal :=
  .next (s.furRun (furEncode (.furRst x f)) (furFlagSt x f (fun a => a) (fun _ => false)))

/-- NOT. -/
def execFurNot (s : State) : Host.Outcome State Fault Refusal :=
  .next (s.furRun (furEncode .furNot) (furAcc (fun c => { c with a := !c.a })))

/-- LDA. -/
def execFurLda (bit : Bool) (s : State) : Host.Outcome State Fault Refusal :=
  .next (s.furRun (furEncode (.furLda bit)) (furAcc (fun c => { c with a := bit })))

/-- OPEN. -/
def execFurOpen (op : Nat) (s : State) : Host.Outcome State Fault Refusal :=
  .next (s.furRun (furEncode (.furOpen op)) (furPush op))

/-- CLOSE. -/
def execFurClose (s : State) : Host.Outcome State Fault Refusal :=
  .next (s.furRun (furEncode .furClose) (furPop))

/-- FP. -/
def execFurFp (x : Bool) (e : Nat) (s : State) : Host.Outcome State Fault Refusal :=
  .next (s.furRun (furEncode (.furFp x e)) (furEdgeOp x e (fun a v => a && !v)))

/-- FN. -/
def execFurFn (x : Bool) (e : Nat) (s : State) : Host.Outcome State Fault Refusal :=
  .next (s.furRun (furEncode (.furFn x e)) (furEdgeOp x e (fun a v => !a && v)))

/-- TON. -/
def execFurTon (base count t : Nat) (s : State) : Host.Outcome State Fault Refusal :=
  .next (s.furRun (furEncode (.furTon base count t)) (furTime t (presetTI base count) Timer.on))

/-- TOF. -/
def execFurTof (base count t : Nat) (s : State) : Host.Outcome State Fault Refusal :=
  .next (s.furRun (furEncode (.furTof base count t)) (furTime t (presetTI base count) Timer.off))

/-- TP. -/
def execFurTp (base count t : Nat) (s : State) : Host.Outcome State Fault Refusal :=
  .next (s.furRun (furEncode (.furTp base count t)) (furTime t (presetTI base count) Timer.pulse))

/-- TONW. -/
def execFurTonw (word t : Nat) (s : State) : Host.Outcome State Fault Refusal :=
  .next (s.furRun (furEncode (.furTonw word t)) (furTimeW word t Timer.on))

/-- TOFW. -/
def execFurTofw (word t : Nat) (s : State) : Host.Outcome State Fault Refusal :=
  .next (s.furRun (furEncode (.furTofw word t)) (furTimeW word t Timer.off))

/-- TPW. -/
def execFurTpw (word t : Nat) (s : State) : Host.Outcome State Fault Refusal :=
  .next (s.furRun (furEncode (.furTpw word t)) (furTimeW word t Timer.pulse))

/-- RSTT. -/
def execFurRstt (t : Nat) (s : State) : Host.Outcome State Fault Refusal :=
  .next (s.furRun (furEncode (.furRstt t)) (furResetTimer t))

/-- LDT. -/
def execFurLdt (t : Nat) (s : State) : Host.Outcome State Fault Refusal :=
  .next (s.furRun (furEncode (.furLdt t)) (fun s c => s.furGet 2 c false t (fun i => .ok s { c with a := (s.furTimer i).q })))

/-- CTU. -/
def execFurCtu (word c : Nat) (s : State) : Host.Outcome State Fault Refusal :=
  .next (s.furRun (furEncode (.furCtu word c)) (furCount word c 1 1))

/-- CTD. -/
def execFurCtd (word c : Nat) (s : State) : Host.Outcome State Fault Refusal :=
  .next (s.furRun (furEncode (.furCtd word c)) (furCount word c 2 (-1)))

/-- RSTC. -/
def execFurRstc (c : Nat) (s : State) : Host.Outcome State Fault Refusal :=
  .next (s.furRun (furEncode (.furRstc c)) (furResetCounter c))

/-- LDC. -/
def execFurLdc (c : Nat) (s : State) : Host.Outcome State Fault Refusal :=
  .next (s.furRun (furEncode (.furLdc c)) (fun s n => s.furGet 3 n false c (fun i => .ok s { n with a := (s.furCounter i).q })))

/-- LDW. -/
def execFurLdw (x : Bool) (i : Nat) (s : State) : Host.Outcome State Fault Refusal :=
  .next (s.furRun (furEncode (.furLdw x i)) (furWordOp x i (fun _ v => some v)))

/-- LDI. -/
def execFurLdi (imm : Int) (s : State) : Host.Outcome State Fault Refusal :=
  .next (s.furRun (furEncode (.furLdi imm)) (furAcc (fun c => { c with w := imm })))

/-- STW. -/
def execFurStw (x : Bool) (i : Nat) (s : State) : Host.Outcome State Fault Refusal :=
  .next (s.furRun (furEncode (.furStw x i)) (furWordSt x i (fun _ => true)))

/-- STWC. -/
def execFurStwc (x : Bool) (i : Nat) (s : State) : Host.Outcome State Fault Refusal :=
  .next (s.furRun (furEncode (.furStwc x i)) (furWordSt x i (fun a => a)))

/-- ADDW. -/
def execFurAddw (x : Bool) (i : Nat) (s : State) : Host.Outcome State Fault Refusal :=
  .next (s.furRun (furEncode (.furAddw x i)) (furWordOp x i (fun w v => some (w + v))))

/-- SUBW. -/
def execFurSubw (x : Bool) (i : Nat) (s : State) : Host.Outcome State Fault Refusal :=
  .next (s.furRun (furEncode (.furSubw x i)) (furWordOp x i (fun w v => some (w - v))))

/-- MULW. -/
def execFurMulw (x : Bool) (i : Nat) (s : State) : Host.Outcome State Fault Refusal :=
  .next (s.furRun (furEncode (.furMulw x i)) (furWordOp x i (fun w v => some (w * v))))

/-- DIVW. -/
def execFurDivw (x : Bool) (i : Nat) (s : State) : Host.Outcome State Fault Refusal :=
  .next (s.furRun (furEncode (.furDivw x i)) (furWordOp x i (fun w v => if v = 0 then none else some (Int.tdiv w v))))

/-- ADDI. -/
def execFurAddi (imm : Int) (s : State) : Host.Outcome State Fault Refusal :=
  .next (s.furRun (furEncode (.furAddi imm)) (furAcc (fun c => c.setW (c.w + imm))))

/-- MINW. -/
def execFurMinw (x : Bool) (i : Nat) (s : State) : Host.Outcome State Fault Refusal :=
  .next (s.furRun (furEncode (.furMinw x i)) (furWordOp x i (fun w v => some (min w v))))

/-- MAXW. -/
def execFurMaxw (x : Bool) (i : Nat) (s : State) : Host.Outcome State Fault Refusal :=
  .next (s.furRun (furEncode (.furMaxw x i)) (furWordOp x i (fun w v => some (max w v))))

/-- ANDW. -/
def execFurAndw (x : Bool) (i : Nat) (s : State) : Host.Outcome State Fault Refusal :=
  .next (s.furRun (furEncode (.furAndw x i)) (furWordOp x i (fun w v => some (and36 w v))))

/-- ORW. -/
def execFurOrw (x : Bool) (i : Nat) (s : State) : Host.Outcome State Fault Refusal :=
  .next (s.furRun (furEncode (.furOrw x i)) (furWordOp x i (fun w v => some (or36 w v))))

/-- NEG. -/
def execFurNeg (s : State) : Host.Outcome State Fault Refusal :=
  .next (s.furRun (furEncode .furNeg) (furAcc (fun c => c.setW (-c.w))))

/-- ABS. -/
def execFurAbs (s : State) : Host.Outcome State Fault Refusal :=
  .next (s.furRun (furEncode .furAbs) (furAcc (fun c => c.setW c.w.natAbs)))

/-- CEQ. -/
def execFurCeq (x : Bool) (i : Nat) (s : State) : Host.Outcome State Fault Refusal :=
  .next (s.furRun (furEncode (.furCeq x i)) (furCmp x i relEq))

/-- CNE. -/
def execFurCne (x : Bool) (i : Nat) (s : State) : Host.Outcome State Fault Refusal :=
  .next (s.furRun (furEncode (.furCne x i)) (furCmp x i relNe))

/-- CLT. -/
def execFurClt (x : Bool) (i : Nat) (s : State) : Host.Outcome State Fault Refusal :=
  .next (s.furRun (furEncode (.furClt x i)) (furCmp x i relLt))

/-- CLE. -/
def execFurCle (x : Bool) (i : Nat) (s : State) : Host.Outcome State Fault Refusal :=
  .next (s.furRun (furEncode (.furCle x i)) (furCmp x i relLe))

/-- CGT. -/
def execFurCgt (x : Bool) (i : Nat) (s : State) : Host.Outcome State Fault Refusal :=
  .next (s.furRun (furEncode (.furCgt x i)) (furCmp x i relGt))

/-- CGE. -/
def execFurCge (x : Bool) (i : Nat) (s : State) : Host.Outcome State Fault Refusal :=
  .next (s.furRun (furEncode (.furCge x i)) (furCmp x i relGe))

/-- CEQI. -/
def execFurCeqi (imm : Int) (s : State) : Host.Outcome State Fault Refusal :=
  .next (s.furRun (furEncode (.furCeqi imm)) (furAcc (fun c => { c with a := relEq c.w imm })))

/-- CNEI. -/
def execFurCnei (imm : Int) (s : State) : Host.Outcome State Fault Refusal :=
  .next (s.furRun (furEncode (.furCnei imm)) (furAcc (fun c => { c with a := relNe c.w imm })))

/-- CLTI. -/
def execFurClti (imm : Int) (s : State) : Host.Outcome State Fault Refusal :=
  .next (s.furRun (furEncode (.furClti imm)) (furAcc (fun c => { c with a := relLt c.w imm })))

/-- CLEI. -/
def execFurClei (imm : Int) (s : State) : Host.Outcome State Fault Refusal :=
  .next (s.furRun (furEncode (.furClei imm)) (furAcc (fun c => { c with a := relLe c.w imm })))

/-- CGTI. -/
def execFurCgti (imm : Int) (s : State) : Host.Outcome State Fault Refusal :=
  .next (s.furRun (furEncode (.furCgti imm)) (furAcc (fun c => { c with a := relGt c.w imm })))

/-- CGEI. -/
def execFurCgei (imm : Int) (s : State) : Host.Outcome State Fault Refusal :=
  .next (s.furRun (furEncode (.furCgei imm)) (furAcc (fun c => { c with a := relGe c.w imm })))

/-- LDTE. -/
def execFurLdte (t : Nat) (s : State) : Host.Outcome State Fault Refusal :=
  .next (s.furRun (furEncode (.furLdte t)) (fun s c => s.furGet 2 c false t (fun i => .ok s { c with w := (s.furTimer i).et })))

/-- LDCV. -/
def execFurLdcv (c : Nat) (s : State) : Host.Outcome State Fault Refusal :=
  .next (s.furRun (furEncode (.furLdcv c)) (fun s n => s.furGet 3 n false c (fun i => .ok s { n with w := (s.furCounter i).cv })))

/-- LDX. -/
def execFurLdx (s : State) : Host.Outcome State Fault Refusal :=
  .next (s.furRun (furEncode .furLdx) (furAcc (fun c => { c with w := c.x })))

/-- JMP. -/
def execFurJmp (target : Nat) (s : State) : Host.Outcome State Fault Refusal :=
  .next (s.furRun (furEncode (.furJmp target)) (furJump target (fun _ => true)))

/-- JC. -/
def execFurJc (target : Nat) (s : State) : Host.Outcome State Fault Refusal :=
  .next (s.furRun (furEncode (.furJc target)) (furJump target (fun a => a)))

/-- JNC. -/
def execFurJnc (target : Nat) (s : State) : Host.Outcome State Fault Refusal :=
  .next (s.furRun (furEncode (.furJnc target)) (furJump target (fun a => !a)))

/-- REP. -/
def execFurRep (src : Bool) (count str len : Nat) (s : State) : Host.Outcome State Fault Refusal :=
  .next (s.furRun (furEncode (.furRep src count str len)) (fun s c =>
    if src then s.furGet 1 c false count (fun k => furRepeat (clampI 0 65535 (s.furWord k)).toNat str len s c)
    else furRepeat count str len s c))

/-- END. -/
def execFurEnd (s : State) : Host.Outcome State Fault Refusal :=
  .next (s.furRun (furEncode .furEnd) (furEnd))

end Sys2Proof.Machine
end

