-- ==== Sys2Proof/Machine/Guide.lean ====
section
/-! DEFINITION. The guidance firmware (R234-R242): its control area, the intake of corrections, the solution's states, heading and origin, and the path
error it writes for Trellis. What its filter estimates from the observations is an operand (notes/assumptions/2.md). -/

namespace Sys2Proof.Machine

/-! ### The control area (R234, R243) -/

/-- The guidance firmware's state set. -/
def State.setGuide (s : State) (g : GuideFw) : State := { s with gns := { s.gns with guide := g } }

/-- The points of the path of the control area at `a`, in mm. -/
def State.pathPoints (s : State) (a : Nat) : List (Int × Int) :=
  (List.range (s.mem.readLe (a + 8) 2)).map (fun p =>
    (toSigned 32 (s.mem.readLe (a + 128 + 8 * p) 4), toSigned 32 (s.mem.readLe (a + 132 + 8 * p) 4)))

/-- Whether two points lie at least 0.1 m apart. -/
def pointsApart (a b : Int × Int) : Bool := decide (10000 ≤ (b.1 - a.1) ^ 2 + (b.2 - a.2) ^ 2)

/-- Whether every two consecutive points of a path lie apart, the last and the first of a closed one too. -/
def spaced : List (Int × Int) → Bool
  | a :: b :: l => pointsApart a b && spaced (b :: l)
  | _ => true

/-- Whether a stream number is one of ingest's, or none. -/
def streamOrNone (n : Nat) : Bool := decide (n < 112) || decide (n = 0xFF)

/-- Whether the control area at `a` may be applied: its fields in range, unlisted bytes 0, points at least 0.1 m apart, no line
poisoned (R234, R243). -/
def State.gfAreaOk (s : State) (a : Nat) : Bool :=
  let n := s.mem.readLe (a + 8) 2
  let rb := s.mem.readLe (a + 64) 8
  let rl := s.mem.readLe (a + 72) 1
  let gd := s.mem.readLe (a + 76) 4
  let pts := s.pathPoints a
  let zero (o k : Nat) : Bool := decide (s.mem.readLe (a + o) k = 0)
  decide (n = 0 ∨ (2 ≤ n ∧ n ≤ 4000)) && decide (s.mem.readLe (a + 10) 1 ≤ 1) && zero 11 53 && decide (rb % 64 = 0) &&
  decide (12 ≤ rl ∧ rl ≤ 20) && (inDramRange s.code rb (64 + 2 ^ rl) || inBedRange rb (64 + 2 ^ rl)) && decide (s.mem.readLe (a + 73) 1 ≤ 7) &&
  streamOrNone (s.mem.readLe (a + 74) 1) && streamOrNone (s.mem.readLe (a + 75) 1) && decide (gd % 1024 = 0) &&
  inBedRange (bedStoreBase + gd) 576 && zero 92 36 && zero (128 + 8 * n) (32768 - 128 - 8 * n) && !s.mem.poisoned a 32768 && spaced pts &&
  (decide (s.mem.readLe (a + 10) 1 = 0) || decide (n = 0) || pointsApart (pts.getLastD (0, 0)) (pts.headD (0, 0)))

/-- The configuration of the control area at `a`; CORRWARN and CORRMAX are 100 and 600 where they are 0. -/
def State.gfConfig (s : State) (a : Nat) : GuideCfg :=
  let b (o n : Nat) : Nat := s.mem.readLe (a + o) n
  let orElse (x d : Nat) : Nat := if x = 0 then d else x
  { pathId := b 4 4, points := s.pathPoints a, closed := decide (b 10 1 = 1), rbase := b 64 8, rlog2 := b 72 1, pose := bitAt (b 73 1) 0,
    tilt := bitAt (b 73 1) 1, hdguse := bitAt (b 73 1) 2, pitch := b 74 1, roll := b 75 1, area := b 76 4, ahead := b 80 4, capture := b 84 4,
    warn := orElse (b 88 2) 100, most := orElse (b 90 2) 600 }

/-- The control area read where its CSEQ has changed; a bad area leaves the previous configuration in force. -/
def State.gfRead (s : State) : State :=
  let a := 4096 * s.rd F.GNS_GFBASE_BASE
  let cs := s.mem.readLe a 4
  if s.gns.guide.seq = some cs then s
  else if s.gfAreaOk a then s.setGuide { s.gns.guide with seq := some cs, cfg := some (s.gfConfig a), bad := false }
  else s.setGuide { s.gns.guide with bad := true }

/-! ### The intake of corrections (R235) -/

/-- A Dale core's line into the Bed store: queued, or waiting behind its own earlier lines (R17, R20). -/
def State.daleWrite (s : State) (a : Nat) (b : Bytes) : State :=
  let l : BridgeLine := ⟨a, b, false, true, .plain⟩
  if s.inboundRoom true 1 = true ∧ s.bridge.waiting = [] then s.accept [l]
  else { s with bridge := { s.bridge with waiting := s.bridge.waiting ++ [l] } }

/-- A Dale core's store, into the Bed store through the bridge. -/
def State.coreStore (s : State) (a : Nat) (b : Bytes) : State := if inBedStore a then s.daleWrite a b else s.put a b

/-- The bytes of the intake buffer from stream position `pos` on; none where its line is poisoned. -/
def State.intakeBytes (s : State) (c : GuideCfg) (pos n : Nat) : List (Option Byte) :=
  (List.range n).map (fun k =>
    let a := c.rbase + 64 + (pos + k) % 2 ^ c.rlog2
    if s.mem.poisoned a 1 then none else some (s.mem.read a))

/-- The RTCM frames that pass CRC-24Q in a run of bytes, and how many bytes stay for the next epoch: those from a preamble on whose frame is not yet
whole. A byte that begins no such frame, or that poison took, is passed over; `fuel` bounds the search. -/
def rtcmScan : Nat → List (Option Byte) → List Bytes × Nat
  | 0, l => ([], l.length)
  | f + 1, l =>
    match l with
    | [] => ([], 0)
    | x :: rest =>
      if x ≠ some 0xD3 then rtcmScan f rest
      else
        let b := l.filterMap id
        let n := bitsMsb b 14 10 + 6
        if (l.take 3).contains none then rtcmScan f rest
        else if l.length < 3 ∨ l.length < n then ([], l.length)
        else
          let fr := (l.take n).filterMap id
          if fr.length = n ∧ crc24q (fr.take (n - 3)) = bitsMsb fr (8 * (n - 3)) 24 then
            let r := rtcmScan f (l.drop n)
            (fr :: r.1, r.2)
          else rtcmScan f rest

/-- The system of an MSM message (R235); none for another. -/
def msmSystem (m : Nat) : Option Nat :=
  if [1074, 1075, 1077].contains m then some 0 else if [1094, 1095, 1097].contains m then some 1
  else if [1124, 1125, 1127].contains m then some 2 else if [1084, 1085, 1087].contains m then some 3 else none

/-- The epoch of an MSM message in GPS ns, nearest to `g`; its fields lie as in RTCM 10403 (PRESUMED, notes/assumptions/32.md). -/
def msmEpoch (sys : Nat) (fr : Bytes) (leap g : Int) : Int :=
  let ms : Int := bitsMsb fr 48 30
  match sys with
  | 2 => nearestTo weekNs (ms * 1000000 + 14 * secNs) g
  | 3 => nearestTo weekNs ((bitsMsb fr 48 3 * 86400000 + bitsMsb fr 51 27) * 1000000 + (leap - 10800) * secNs) g
  | _ => nearestTo weekNs (ms * 1000000) g

/-- The satellites of an MSM message as a bitmap: bit n is satellite n + 1. -/
def msmSats (fr : Bytes) : Nat :=
  (List.range 64).foldl (fun a b => if bitsMsb fr (97 + b) 1 = 1 then a + 2 ^ b else a) 0

/-- The base position of message 1005 or 1006, in 0.1 mm. -/
def basePlace (fr : Bytes) : Int × Int × Int :=
  (toSigned 38 (bitsMsb fr 58 38), toSigned 38 (bitsMsb fr 98 38), toSigned 38 (bitsMsb fr 138 38))

/-- Whether a base position differs by more than 1 m. -/
def baseMoved (a b : Int × Int × Int) : Bool :=
  decide (10000 ^ 2 < (a.1 - b.1) ^ 2 + (a.2.1 - b.2.1) ^ 2 + (a.2.2 - b.2.2) ^ 2)

/-- A message taken (R235): MSM sets, the base position with whether it moved, descriptors and biases, ephemerides, which are passed on as AIDORB;
every other message is ignored. -/
def State.takeMessage (s : State) (g : Int) (fr : Bytes) : State × Bool :=
  let w := s.gns.guide
  let m := bitsMsb fr 24 12
  match msmSystem m with
  | some y =>
    let e := msmEpoch y fr (s.gns.leap.getD 0) g
    let sats := if w.msm = some e then w.sats else []
    (s.setGuide { w with msm := some e, sats := SMap.set (fun _ => 0) sats y (SMap.get (fun _ => 0) sats y ||| msmSats fr) }, false)
  | none =>
    if m = 1005 ∨ m = 1006 then
      (s.setGuide { w with base := some (basePlace fr) }, (w.base.map (fun b => baseMoved b (basePlace fr))).getD false)
    else if m = 1033 ∨ m = 1230 then (s.setGuide { w with notes := SMap.set (fun _ => []) w.notes m fr }, false)
    else ((s.takeFrame fr).getD s, false)

/-- The intake read at an epoch whose GPS time is `g`: what overran the buffer is discarded, RPOS advances past what was consumed; with whether the
base moved. -/
def State.intake (s : State) (c : GuideCfg) (g : Int) : State × Bool :=
  if s.mem.poisoned c.rbase 64 then (s, false)
  else
    let w := s.mem.readLe c.rbase 4
    let r := s.mem.readLe (c.rbase + 4) 4
    let held := (w + 2 ^ 32 - r) % 2 ^ 32
    let n := min held (2 ^ c.rlog2)
    let x := rtcmScan (n + 1) (s.intakeBytes c (r + (held - n)) n)
    let t := x.1.foldl (fun (y : State × Bool) fr =>
      let z := y.1.takeMessage g fr
      (z.1, y.2 || z.2)) (s, false)
    let pos := (w + 2 ^ 32 - x.2) % 2 ^ 32
    ((if pos = r then t.1 else (t.1.gnsAidRegs).coreStore (c.rbase + 4) (leBytes 4 pos)), t.2)

/-! ### The epoch read, and the solution's states (R224-R226, R237) -/

/-- The epoch of an observation slot as the firmware reads it: TEPOCH, GPS time, satellites in the fix, whether there is one, and the satellites that
carry phase. -/
structure EpochRead where
  tepoch : Nat
  gpst : Int
  nsv : Nat
  fix : Bool
  phase : List (Nat × Nat)

/-- The slot `k` read. -/
def State.epochRead (s : State) (k : Nat) : EpochRead :=
  let a := 4096 * s.rd F.GNS_OBSBASE_BASE + k * 16384
  let rec_ (i : Nat) : Option (Nat × Nat) :=
    if bitAt (s.mem.readLe (a + 128 + 32 * i + 30) 2) 1 then some (s.mem.readLe (a + 128 + 32 * i + 24) 1, s.mem.readLe (a + 128 + 32 * i + 25) 1) else none
  ⟨s.mem.readLe (a + 8) 8, toSigned 64 (s.mem.readLe (a + 16) 8), s.mem.readLe (a + 58) 1, bitAt (s.mem.readLe (a + 4) 4) 1,
    ((List.range (s.mem.readLe (a + 56) 2)).filterMap rec_).eraseDups⟩

/-- The correction age at an epoch, in ns; none before the first MSM set. -/
def GuideFw.age (w : GuideFw) (e : EpochRead) : Option Nat := w.msm.map (fun m => (e.gpst - m).toNat)

/-- The satellites with phase that the last MSM set has in common with an epoch. -/
def GuideFw.common (w : GuideFw) (e : EpochRead) : Nat :=
  (e.phase.filter (fun p => decide (1 ≤ p.2) && bitAt (SMap.get (fun _ => 0) w.sats p.1) (p.2 - 1))).length

/-- The solution's next state (R237): one event an epoch. -/
def solutionNext (st : Nat) (e : EpochRead) (fresh moved : Bool) (shared : Nat) (g : GuideIn) : Nat :=
  let valid := decide (300 ≤ g.ratio) && decide (6 ≤ g.twoBand)
  if e.nsv < 4 then 0
  else
    match st with
    | 0 => if e.fix = true ∧ 5 ≤ e.nsv then 1 else 0
    | 1 => if fresh = true ∧ 5 ≤ shared then 2 else 1
    | 2 => if moved = true ∨ fresh = false then 1 else if valid then 3 else 2
    | _ => if moved = true ∨ fresh = false then 1 else if g.fixedSv < 5 ∨ valid = false then 2 else 3

/-! ### Heading, origin and yaw (R239) -/

/-- A heading in turns from the components of a vector: 0 along the first. -/
def turnOf (c d : Frac) : Frac :=
  if d.num = 0 ∧ 0 < c.num then fr0 else let r := Config.angle (c.num, c.den) (d.num, d.den); ⟨r.1, max 1 r.2⟩

/-- A square root: exact for squares. -/
def sqrtReal (x : Frac) : Frac :=
  let a := Nat.sqrt x.num.natAbs
  let b := Nat.sqrt x.den
  if (a * a : Nat) = x.num ∧ b * b = x.den then ⟨a, b⟩ else realFn 8 x

/-- Coordinate `k` of antenna `a`'s phase centre in m. -/
def State.antPos (s : State) (a k : Nat) : Frac := ⟨toSigned 32 (s.reg (Reg.GNS_ANTa_POSX a + 4 * k)).toNat, 10000⟩

/-- Whether the dual-antenna heading is used: asked for, on a code with two antennas, with a baseline whose length checks. -/
def State.dualHeading (s : State) (c : GuideCfg) (g : GuideIn) : Bool :=
  c.hdguse && decide (1 < s.code.antennas) && (g.baseline.map (fun b => decide (b.2.natAbs ≤ 20))).getD false

/-- The machine's heading in turns, clockwise from true north, and whether it is the last one held: from the baseline, else from the course over
ground from 0.5 m/s on, else the last. Where none was ever known the heading is a free value. -/
def State.heading (s : State) (c : GuideCfg) (g : GuideIn) : Frac × Bool :=
  if s.dualHeading c g then
    (Frac.add ⟨(g.baseline.map (fun b => b.1)).getD 0, 2 ^ 32⟩
      (turnOf ((s.antPos 1 0).sub (s.antPos 0 0)) ((s.antPos 1 1).sub (s.antPos 0 1))), false)
  else if 500 ^ 2 ≤ g.vel.1 ^ 2 + g.vel.2 ^ 2 then (turnOf ⟨g.vel.2, 1⟩ ⟨g.vel.1, 1⟩, false)
  else (s.gns.guide.head.getD ⟨s.freshNat % 2 ^ 32, 2 ^ 32⟩, true)

/-- The convergence of true north in the local tangent plane, in turns. -/
def State.convergence (s : State) (g : GuideIn) : Frac :=
  Frac.mul ⟨g.latlon.2 - 10000 * toSigned 32 (s.rd F.PRA_YLDORGLON_VAL), 36000000000000⟩ (sinTurn ⟨g.latlon.1, 36000000000000⟩)

/-- YAW in turns from the heading. -/
def State.yawFrom (s : State) (head : Frac) (g : GuideIn) : Frac := ((⟨1, 4⟩ : Frac).sub head).add (s.convergence g)

/-- Pitch and roll in rad where TILT asks for them and both streams deliver (R239). -/
def State.tiltOf (s : State) (c : GuideCfg) : Option (Frac × Frac) :=
  if c.tilt ∧ c.pitch < 112 ∧ c.roll < 112 then
    match s.newestSample c.pitch s.now, s.newestSample c.roll s.now with
    | some p, some r => if p.poison || r.poison then none else some (p.v, r.v)
    | _, _ => none
  else none

/-- The machine's origin in the local tangent plane, in m: antenna 0 less the rotation of its place in the machine. -/
def State.originOf (s : State) (g : GuideIn) (yaw pitch roll : Frac) : Vec :=
  let r := (rotZ (cosTurn yaw) (sinTurn yaw)).after ((rotY (cosRad pitch) (sinRad pitch)).after (rotX (cosRad roll) (sinRad roll)))
  (Vec.mk ⟨g.place.1, 1000⟩ ⟨g.place.2.1, 1000⟩ ⟨g.place.2.2, 1000⟩).sub (r.apply ⟨s.antPos 0 0, s.antPos 0 1, s.antPos 0 2⟩)

/-! ### The path error (R240, R241) -/

/-- Where a point lies against a path: the segment, the share of it up to the closest point, the squared distance, and the segment's ends in m. -/
structure PathPlace where
  seg : Nat
  t : Frac
  d2 : Frac
  a : Frac × Frac
  b : Frac × Frac

/-- A path point in m. -/
def pathPoint (p : Int × Int) : Frac × Frac := (⟨p.1, 1000⟩, ⟨p.2, 1000⟩)

/-- The segments of a path. -/
def pathSegments (c : GuideCfg) : List ((Int × Int) × (Int × Int)) :=
  List.zip c.points (c.points.drop 1) ++ (if c.closed then [(c.points.getLastD (0, 0), c.points.headD (0, 0))] else [])

/-- A point against one segment. -/
def onSegment (seg : Nat) (e : (Int × Int) × (Int × Int)) (x y : Frac) : PathPlace :=
  let a := pathPoint e.1
  let b := pathPoint e.2
  let dx := b.1.sub a.1
  let dy := b.2.sub a.2
  let t := ((((x.sub a.1).mul dx).add ((y.sub a.2).mul dy)).div ((dx.mul dx).add (dy.mul dy))).clamp fr0 fr1
  let t := if t.lt fr0 then fr0 else if fr1.lt t then fr1 else t
  let u := x.sub (a.1.add (dx.mul t))
  let v := y.sub (a.2.add (dy.mul t))
  ⟨seg, t, (u.mul u).add (v.mul v), a, b⟩

/-- The closest place of a path to a point, the first of equals. -/
def closest (c : GuideCfg) (x y : Frac) : Option PathPlace :=
  (pathSegments c).zipIdx.foldl (fun b e =>
    let p := onSegment e.2 e.1 x y
    match b with
    | some q => if p.d2.lt q.d2 then some p else b
    | none => some p) none

/-- The direction of a place's segment and its length. -/
def PathPlace.dir (p : PathPlace) : Frac × Frac := (p.b.1.sub p.a.1, p.b.2.sub p.a.2)
def PathPlace.len (p : PathPlace) : Frac := let d := p.dir; sqrtReal ((d.1.mul d.1).add (d.2.mul d.2))

/-- The lateral offset of a point from the path, positive to the left. -/
def PathPlace.offset (p : PathPlace) (x y : Frac) : Frac :=
  let d := p.dir
  ((d.1.mul (y.sub p.a.2)).sub (d.2.mul (x.sub p.a.1))).div p.len

/-- The distance along the path up to a place, in mm. -/
def pathAlong (c : GuideCfg) (p : PathPlace) : Int :=
  let before := ((pathSegments c).take p.seg).zipIdx.foldl (fun a e => a.add (onSegment e.2 e.1 fr0 fr0).len) fr0
  let d := (before.add (p.len.mul p.t)).mul ⟨1000, 1⟩
  rhe d.num d.den

/-- Whether the closest point is an end of an open path. -/
def pathEnd (c : GuideCfg) (p : PathPlace) : Bool :=
  !c.closed && ((decide (p.seg = 0) && decide (p.t.num ≤ 0)) || (decide (p.seg + 2 = c.points.length) && fr1.le p.t))

/-- An angle in turns wrapped to (-1/2, 1/2], and one as radians. -/
def halfTurn (x : Frac) : Frac := x.sub (Frac.ofInt (-((x.sub ⟨1, 2⟩).neg.floor)))
def radOf (x : Frac) : Frac := if x.num = 0 then fr0 else realFn 10 x

/-- What the firmware puts into a guidance record: its samples 0 to 9, the path segment and distance, whether the closest point is an end, and
whether |XTE| exceeds CAPTURE. -/
structure PathError where
  samples : List Frac
  seg : Nat := 0
  along : Int := 0
  ends : Bool := false
  off : Bool := false

/-- The path error of an epoch (R241). Without a path the samples that need one are free values. -/
def State.pathError (s : State) (c : GuideCfg) (g : GuideIn) (o : Vec) (yaw : Frac) (tilt : Option (Frac × Frac)) : PathError :=
  let q (x : Int) : Frac := ⟨x, 2 ^ 32⟩
  let cy := cosTurn yaw
  let sy := sinTurn yaw
  let speed := (Frac.mul ⟨g.vel.1, 1000⟩ cy).add (Frac.mul ⟨g.vel.2, 1000⟩ sy)
  let rest := [q g.sigma.1, q g.sigma.2, (tilt.map (fun t => t.1)).getD fr0, (tilt.map (fun t => t.2)).getD fr0]
  let hx := o.x.add (cy.mul ⟨c.ahead, 1000⟩)
  let hy := o.y.add (sy.mul ⟨c.ahead, 1000⟩)
  match closest c o.x o.y, closest c hx hy with
  | some p, some h =>
    let xte := p.offset o.x o.y
    { samples := [xte, radOf (halfTurn (yaw.sub (turnOf p.dir.1 p.dir.2))), q g.curv, speed, q g.yawrate, h.offset hx hy] ++ rest,
      seg := p.seg, along := pathAlong c p, ends := pathEnd c p, off := Frac.lt ⟨c.capture, 1000⟩ xte.abs }
  | _, _ => { samples := [q s.freshNat, q s.freshNat, q s.freshNat, speed, q g.yawrate, q s.freshNat] ++ rest }

/-- The header line of a guidance record (R241). -/
def guideHead (seq flags tsol twrite pathId fix : Nat) (p : PathError) (valid : Nat) : Bytes :=
  leBytes 4 seq ++ leBytes 4 flags ++ leBytes 8 tsol ++ leBytes 8 twrite ++ leBytes 4 pathId ++ leBytes 4 p.seg ++ leBytes 8 (toPattern 64 p.along) ++
  leBytes 1 fix ++ leBytes 22 0 ++ leBytes 1 valid

/-- A pose record written by the firmware with POSE = 1 (R169, R239), into the table in force. -/
def State.firmwarePose (s : State) (t : Nat) (g : GuideIn) (o : Vec) (yaw speed : Frac) (tilt : Option (Frac × Frac)) (fix : Nat) : State :=
  let w := s.rd F.PRA_POSEWPOS_WPOS
  let mm (x : Frac) : Nat := toPattern 64 (rhe (x.num * 1000) x.den)
  let tw (x : Option Frac) : Nat := toPattern 16 ((turnsOf (x.getD fr0)).scaled 16)
  (((s.put (s.poseAddr w) (leBytes 8 t ++ leBytes 8 (mm o.x) ++ leBytes 8 (mm o.y) ++ leBytes 4 (toPattern 32 (yaw.scaled 32)) ++
    leBytes 4 (mm speed % 2 ^ 32) ++ leBytes 4 (toPattern 32 (rhe (g.yawrate * 1000000) (2 ^ 32))) ++ leBytes 2 (tw (tilt.map (fun x => x.1))) ++
    leBytes 2 (tw (tilt.map (fun x => x.2))) ++ leBytes 2 (toPattern 16 g.hdr.1) ++ leBytes 2 (toPattern 16 g.hdr.2) ++
    leBytes 1 (if fix = 0 then 0 else 1) ++ leBytes 19 0)).wr F.PRA_POSEWPOS_WPOS (w + 1))).poseRefresh

/-- A solved epoch: the solution's state moves, and the record goes out: the slot's header with byte 63 = 0, its tray line, the header with 0x80, and
the pointer line (R240). -/
def State.guideRecord (s : State) (dale : Agent) (c : GuideCfg) (e : EpochRead) (moved : Bool) (g : GuideIn) : State :=
  let w := s.gns.guide
  let age := w.age e
  let fresh := (age.map (fun a => decide (a ≤ c.most * 100000000))).getD false
  let fix := solutionNext w.sol e fresh moved (w.common e) g
  let hd := s.heading c g
  let tilt := s.tiltOf c
  let yaw := s.yawFrom hd.1 g
  let o := s.originOf g yaw ((tilt.map (fun t => t.1)).getD fr0) ((tilt.map (fun t => t.2)).getD fr0)
  let p := s.pathError c g o yaw tilt
  let on (b : Bool) (v : Nat) : Nat := if b then v else 0
  let fl := on (decide (fix = 0)) 1 + on (decide (fix ≠ 3)) 2 + on hd.2 4 + on ((age.map (fun a => decide (c.warn * 100000000 < a))).getD false) 8 +
    on c.points.isEmpty 16 + on p.ends 32 + on p.off 64 + on (c.tilt && tilt.isNone) 128 + on ((w.dale.map (fun d => decide (d ≠ dale))).getD false) 256 +
    on w.bad 512 + on w.gap 1024
  let seq := w.count % 2 ^ 32
  let k := seq % 4
  let base := bedStoreBase + c.area
  let h (v : Nat) : Bytes := guideHead seq fl e.tepoch s.now c.pathId fix p v
  let tray := (trayBytes ((List.range 14).map (fun i => p.samples.getD i fr0)) 0).1
  let t := (((s.daleWrite (base + 64 + 128 * k) (h 0)).daleWrite (base + 128 + 128 * k) tray).daleWrite (base + 64 + 128 * k) (h 0x80)).daleWrite
    base (leBytes 4 seq ++ leBytes 1 k ++ leBytes 3 0 ++ leBytes 8 e.tepoch ++ leBytes 47 0 ++ leBytes 1 0x80)
  let t := if c.pose then t.firmwarePose e.tepoch g o yaw (p.samples.getD 3 fr0) tilt fix else t
  (t.setGuide { t.gns.guide with count := seq + 1, gap := false, dale := some dale, sol := fix, head := some hd.1 }).tickFree

/-- GUIDANCE_RECORD: an epoch's processing by the firmware on the carrying Dale: the control area, the intake, then the record. An epoch that is not
solved, or whose slot is poisoned, gets no record and the next carries GAP. -/
def execGuidanceRecord (g : GuideIn) (s : State) : Host.Outcome State Fault Refusal :=
  .next (
    match s.carrier with
    | none => s
    | some dale =>
      if s.canopyOn = false then s
      else
        let s := s.gfRead
        match s.gns.guide.cfg with
        | none => s
        | some c =>
          let bad := s.mem.poisoned (4096 * s.rd F.GNS_OBSBASE_BASE + g.slot * 16384) 16384
          let e := s.epochRead g.slot
          let r := s.intake c (if bad then s.gpsNow else e.gpst)
          if g.solved = false ∨ bad = true then r.1.setGuide { r.1.gns.guide with gap := true }
          else r.1.guideRecord dale c e r.2 g)

end Sys2Proof.Machine
end

