-- ==== Sys2Proof/Machine/Dispatch.lean ====
section
/-! DEFINITION. One arm per command; each arm is one direct call of the command's meaning. -/

namespace Sys2Proof.Machine

def exec (i : Instr) (s : State) : Host.Outcome State Fault Refusal :=
  match i with
  | .registerWrite agent addr size value => Sys2Proof.Machine.execRegisterWrite agent addr size value s
  | .readClear agent addr size => Sys2Proof.Machine.execReadClear agent addr size s
  | .snapshot agent block value => Sys2Proof.Machine.execSnapshot agent block value s
  | .paritySweep upsets => Sys2Proof.Machine.execParitySweep upsets s
  | .rootRegisterWrite agent off value => Sys2Proof.Machine.execRootRegisterWrite agent off value s
  | .rootEdge => Sys2Proof.Machine.execRootEdge s
  | .bedRailFallCommit => Sys2Proof.Machine.execBedRailFallCommit s
  | .gorgeRequest req cls kind addr len tag => Sys2Proof.Machine.execGorgeRequest req cls kind addr len tag s
  | .entryRelease tag newTag => Sys2Proof.Machine.execEntryRelease tag newTag s
  | .forcedCompletion tag newTag => Sys2Proof.Machine.execForcedCompletion tag newTag s
  | .fabCredWrite agent n value => Sys2Proof.Machine.execFabCredWrite agent n value s
  | .bridgeHandoff addr data => Sys2Proof.Machine.execBridgeHandoff addr data s
  | .bridgeInboundWrite agent addr data poison => Sys2Proof.Machine.execBridgeInboundWrite agent addr data poison s
  | .bridgeDrain => Sys2Proof.Machine.execBridgeDrain s
  | .paceGaugeMeasure readings => Sys2Proof.Machine.execPaceGaugeMeasure readings s
  | .railRegulation => Sys2Proof.Machine.execRailRegulation s
  | .tempSensorUpdate temps => Sys2Proof.Machine.execTempSensorUpdate temps s
  | .voltageMonitorUpdate mv => Sys2Proof.Machine.execVoltageMonitorUpdate mv s
  | .sundialSave => Sys2Proof.Machine.execSundialSave s
  | .timerCompareMatch core cmp => Sys2Proof.Machine.execTimerCompareMatch core cmp s
  | .referenceMark source stamp gps rateErr => Sys2Proof.Machine.execReferenceMark source stamp gps rateErr s
  | .markTimeout => Sys2Proof.Machine.execMarkTimeout s
  | .sdlModeWrite agent value => Sys2Proof.Machine.execSdlModeWrite agent value s
  | .driftCheck neededTrim rootDiff rootAtFault => Sys2Proof.Machine.execDriftCheck neededTrim rootDiff rootAtFault s
  | .tcxoLoss => Sys2Proof.Machine.execTcxoLoss s
  | .tcxoReturn => Sys2Proof.Machine.execTcxoReturn s
  | .alarmArm agent n value => Sys2Proof.Machine.execAlarmArm agent n value s
  | .alarmDisarm agent n value => Sys2Proof.Machine.execAlarmDisarm agent n value s
  | .alarmFire n => Sys2Proof.Machine.execAlarmFire n s
  | .ringEnable agent q value => Sys2Proof.Machine.execRingEnable agent q value s
  | .ringDisable agent q => Sys2Proof.Machine.execRingDisable agent q s
  | .submissionDoorbell agent q value => Sys2Proof.Machine.execSubmissionDoorbell agent q value s
  | .completionDoorbell agent q value => Sys2Proof.Machine.execCompletionDoorbell agent q value s
  | .descriptorTake q => Sys2Proof.Machine.execDescriptorTake q s
  | .phaseRecheck q => Sys2Proof.Machine.execPhaseRecheck q s
  | .atDeadlineStart q => Sys2Proof.Machine.execAtDeadlineStart q s
  | .mailboxStage agent m value => Sys2Proof.Machine.execMailboxStage agent m value s
  | .mailboxPost agent m value => Sys2Proof.Machine.execMailboxPost agent m value s
  | .mailboxTake agent m value => Sys2Proof.Machine.execMailboxTake agent m value s
  | .mailboxAbtClear agent m => Sys2Proof.Machine.execMailboxAbtClear agent m s
  | .analogueSample n instant code => Sys2Proof.Machine.execAnalogueSample n instant code s
  | .frameFlushTimeout n => Sys2Proof.Machine.execFrameFlushTimeout n s
  | .streamEnable agent n value => Sys2Proof.Machine.execStreamEnable agent n value s
  | .streamDisable agent n value => Sys2Proof.Machine.execStreamDisable agent n value s
  | .analogueCfgWrite agent n value => Sys2Proof.Machine.execAnalogueCfgWrite agent n value s
  | .acousticHit n rearmed => Sys2Proof.Machine.execAcousticHit n rearmed s
  | .acousticReport n => Sys2Proof.Machine.execAcousticReport n s
  | .freqEdge n step => Sys2Proof.Machine.execFreqEdge n step s
  | .freqOutputSample n => Sys2Proof.Machine.execFreqOutputSample n s
  | .supplyOvercurrent n => Sys2Proof.Machine.execSupplyOvercurrent n s
  | .supplyBackfeed n => Sys2Proof.Machine.execSupplyBackfeed n s
  | .supplyRetry n => Sys2Proof.Machine.execSupplyRetry n s
  | .referenceCheck ab a b => Sys2Proof.Machine.execReferenceCheck ab a b s
  | .capture q => Sys2Proof.Machine.execCapture q s
  | .refcheck q ab a b => Sys2Proof.Machine.execRefcheck q ab a b s
  | .linkEnable agent n value => Sys2Proof.Machine.execLinkEnable agent n value s
  | .linkDisable agent n value => Sys2Proof.Machine.execLinkDisable agent n value s
  | .linkTrainTimeout n => Sys2Proof.Machine.execLinkTrainTimeout n s
  | .linkLock n remId => Sys2Proof.Machine.execLinkLock n remId s
  | .linkLockLost n => Sys2Proof.Machine.execLinkLockLost n s
  | .frameSyncSend n => Sys2Proof.Machine.execFrameSyncSend n s
  | .pocOvercurrent n => Sys2Proof.Machine.execPocOvercurrent n s
  | .pocRetry n => Sys2Proof.Machine.execPocRetry n s
  | .frameStart n served => Sys2Proof.Machine.execFrameStart n served s
  | .lineArrival n px crcBad hdrErr frameEnd served => Sys2Proof.Machine.execLineArrival n px crcBad hdrErr frameEnd served s
  | .lineTimeout n => Sys2Proof.Machine.execLineTimeout n s
  | .frameStall n => Sys2Proof.Machine.execFrameStall n s
  | .frameProcessed n => Sys2Proof.Machine.execFrameProcessed n s
  | .pictureEncode n len qp => Sys2Proof.Machine.execPictureEncode n len qp s
  | .bsrposWrite agent value => Sys2Proof.Machine.execBsrposWrite agent value s
  | .loadtab q => Sys2Proof.Machine.execLoadtab q s
  | .cci q ack data => Sys2Proof.Machine.execCci q ack data s
  | .camExport q => Sys2Proof.Machine.execCamExport q s
  | .encRestart agent n => Sys2Proof.Machine.execEncRestart agent n s
  | .encForceidr agent n => Sys2Proof.Machine.execEncForceidr agent n s
  | .gridCycleStart sync lidars => Sys2Proof.Machine.execGridCycleStart sync lidars s
  | .paceTimeout sync lidars => Sys2Proof.Machine.execPaceTimeout sync lidars s
  | .stage1Run n slot tend runs => Sys2Proof.Machine.execStage1Run n slot tend runs s
  | .gridPublish values sens => Sys2Proof.Machine.execGridPublish values sens s
  | .netload q finished layersFit => Sys2Proof.Machine.execNetload q finished layersFit s
  | .netact q resident => Sys2Proof.Machine.execNetact q resident s
  | .calload q => Sys2Proof.Machine.execCalload q s
  | .calread q => Sys2Proof.Machine.execCalread q s
  | .calfreeze q => Sys2Proof.Machine.execCalfreeze q s
  | .reinstate q => Sys2Proof.Machine.execReinstate q s
  | .exclude q => Sys2Proof.Machine.execExclude q s
  | .trackUpdate rows => Sys2Proof.Machine.execTrackUpdate rows s
  | .trackClear agent => Sys2Proof.Machine.execTrackClear agent s
  | .forecastSample massDone rho conf poison steps us => Sys2Proof.Machine.execForecastSample massDone rho conf poison steps us s
  | .yieldSample pos tray k moist cells => Sys2Proof.Machine.execYieldSample pos tray k moist cells s
  | .tileClose te tn => Sys2Proof.Machine.execTileClose te tn s
  | .yieldFlush agent => Sys2Proof.Machine.execYieldFlush agent s
  | .yldrposWrite agent value => Sys2Proof.Machine.execYldrposWrite agent value s
  | .gnssEpoch tepoch e => Sys2Proof.Machine.execGnssEpoch tepoch e s
  | .signalSearch u ant sys sv sig k found sky => Sys2Proof.Machine.execSignalSearch u ant sys sv sig k found sky s
  | .channelLock ch seconds => Sys2Proof.Machine.execChannelLock ch seconds s
  | .channelLockLoss ch => Sys2Proof.Machine.execChannelLockLoss ch s
  | .channelFree ch low => Sys2Proof.Machine.execChannelFree ch low s
  | .antennaFeedFault a ma => Sys2Proof.Machine.execAntennaFeedFault a ma s
  | .gnssMark stamp gps sig rateErr => Sys2Proof.Machine.execGnssMark stamp gps sig rateErr s
  | .markstop => Sys2Proof.Machine.execMarkstop s
  | .aidtime q => Sys2Proof.Machine.execAidtime q s
  | .aidpos q => Sys2Proof.Machine.execAidpos q s
  | .aidorb q => Sys2Proof.Machine.execAidorb q s
  | .solution q => Sys2Proof.Machine.execSolution q s
  | .orbread q => Sys2Proof.Machine.execOrbread q s
  | .gnssRestart q => Sys2Proof.Machine.execGnssRestart q s
  | .guidanceRecord g => Sys2Proof.Machine.execGuidanceRecord g s
  | .loopSample n ts tout => Sys2Proof.Machine.execLoopSample n ts tout s
  | .loopEnable agent n value => Sys2Proof.Machine.execLoopEnable agent n value s
  | .loopDisable agent n => Sys2Proof.Machine.execLoopDisable agent n s
  | .loopModeWrite agent n mode => Sys2Proof.Machine.execLoopModeWrite agent n mode s
  | .loadpar q => Sys2Proof.Machine.execLoadpar q s
  | .setmode q => Sys2Proof.Machine.execSetmode q s
  | .readpar q => Sys2Proof.Machine.execReadpar q s
  | .readstate q => Sys2Proof.Machine.execReadstate q s
  | .parameterMemoryError n word corrected => Sys2Proof.Machine.execParameterMemoryError n word corrected s
  | .cycleBoundary => Sys2Proof.Machine.execCycleBoundary s
  | .furrowEnable agent value => Sys2Proof.Machine.execFurrowEnable agent value s
  | .furrowDisable agent => Sys2Proof.Machine.execFurrowDisable agent s
  | .furNop => Sys2Proof.Machine.execFurNop s
  | .furLd x f => Sys2Proof.Machine.execFurLd x f s
  | .furLdn x f => Sys2Proof.Machine.execFurLdn x f s
  | .furAnd x f => Sys2Proof.Machine.execFurAnd x f s
  | .furAndn x f => Sys2Proof.Machine.execFurAndn x f s
  | .furOr x f => Sys2Proof.Machine.execFurOr x f s
  | .furOrn x f => Sys2Proof.Machine.execFurOrn x f s
  | .furXor x f => Sys2Proof.Machine.execFurXor x f s
  | .furSt x f => Sys2Proof.Machine.execFurSt x f s
  | .furStn x f => Sys2Proof.Machine.execFurStn x f s
  | .furSet x f => Sys2Proof.Machine.execFurSet x f s
  | .furRst x f => Sys2Proof.Machine.execFurRst x f s
  | .furNot => Sys2Proof.Machine.execFurNot s
  | .furLda bit => Sys2Proof.Machine.execFurLda bit s
  | .furOpen op => Sys2Proof.Machine.execFurOpen op s
  | .furClose => Sys2Proof.Machine.execFurClose s
  | .furFp x e => Sys2Proof.Machine.execFurFp x e s
  | .furFn x e => Sys2Proof.Machine.execFurFn x e s
  | .furTon base count t => Sys2Proof.Machine.execFurTon base count t s
  | .furTof base count t => Sys2Proof.Machine.execFurTof base count t s
  | .furTp base count t => Sys2Proof.Machine.execFurTp base count t s
  | .furTonw word t => Sys2Proof.Machine.execFurTonw word t s
  | .furTofw word t => Sys2Proof.Machine.execFurTofw word t s
  | .furTpw word t => Sys2Proof.Machine.execFurTpw word t s
  | .furRstt t => Sys2Proof.Machine.execFurRstt t s
  | .furLdt t => Sys2Proof.Machine.execFurLdt t s
  | .furCtu word c => Sys2Proof.Machine.execFurCtu word c s
  | .furCtd word c => Sys2Proof.Machine.execFurCtd word c s
  | .furRstc c => Sys2Proof.Machine.execFurRstc c s
  | .furLdc c => Sys2Proof.Machine.execFurLdc c s
  | .furLdw x k => Sys2Proof.Machine.execFurLdw x k s
  | .furLdi imm => Sys2Proof.Machine.execFurLdi imm s
  | .furStw x k => Sys2Proof.Machine.execFurStw x k s
  | .furStwc x k => Sys2Proof.Machine.execFurStwc x k s
  | .furAddw x k => Sys2Proof.Machine.execFurAddw x k s
  | .furSubw x k => Sys2Proof.Machine.execFurSubw x k s
  | .furMulw x k => Sys2Proof.Machine.execFurMulw x k s
  | .furDivw x k => Sys2Proof.Machine.execFurDivw x k s
  | .furAddi imm => Sys2Proof.Machine.execFurAddi imm s
  | .furMinw x k => Sys2Proof.Machine.execFurMinw x k s
  | .furMaxw x k => Sys2Proof.Machine.execFurMaxw x k s
  | .furAndw x k => Sys2Proof.Machine.execFurAndw x k s
  | .furOrw x k => Sys2Proof.Machine.execFurOrw x k s
  | .furNeg => Sys2Proof.Machine.execFurNeg s
  | .furAbs => Sys2Proof.Machine.execFurAbs s
  | .furCeq x k => Sys2Proof.Machine.execFurCeq x k s
  | .furCne x k => Sys2Proof.Machine.execFurCne x k s
  | .furClt x k => Sys2Proof.Machine.execFurClt x k s
  | .furCle x k => Sys2Proof.Machine.execFurCle x k s
  | .furCgt x k => Sys2Proof.Machine.execFurCgt x k s
  | .furCge x k => Sys2Proof.Machine.execFurCge x k s
  | .furCeqi imm => Sys2Proof.Machine.execFurCeqi imm s
  | .furCnei imm => Sys2Proof.Machine.execFurCnei imm s
  | .furClti imm => Sys2Proof.Machine.execFurClti imm s
  | .furClei imm => Sys2Proof.Machine.execFurClei imm s
  | .furCgti imm => Sys2Proof.Machine.execFurCgti imm s
  | .furCgei imm => Sys2Proof.Machine.execFurCgei imm s
  | .furLdte t => Sys2Proof.Machine.execFurLdte t s
  | .furLdcv c => Sys2Proof.Machine.execFurLdcv c s
  | .furLdx => Sys2Proof.Machine.execFurLdx s
  | .furJmp target => Sys2Proof.Machine.execFurJmp target s
  | .furJc target => Sys2Proof.Machine.execFurJc target s
  | .furJnc target => Sys2Proof.Machine.execFurJnc target s
  | .furRep src count str len => Sys2Proof.Machine.execFurRep src count str len s
  | .furEnd => Sys2Proof.Machine.execFurEnd s
  | .setval q => Sys2Proof.Machine.execSetval q s
  | .readmem q => Sys2Proof.Machine.execReadmem q s
  | .progload => Sys2Proof.Machine.execProgload s
  | .progact => Sys2Proof.Machine.execProgact s
  | .valveUntimedCommand agent n value => Sys2Proof.Machine.execValveUntimedCommand agent n value s
  | .peakPhaseEnd n => Sys2Proof.Machine.execPeakPhaseEnd n s
  | .dipWindowClose n reached depth us => Sys2Proof.Machine.execDipWindowClose n reached depth us s
  | .bankTrip b cause => Sys2Proof.Machine.execBankTrip b cause s
  | .bankFaultClear agent b => Sys2Proof.Machine.execBankFaultClear agent b s
  | .dutyLimitEntry n h => Sys2Proof.Machine.execDutyLimitEntry n h s
  | .dutyLimitExit n h => Sys2Proof.Machine.execDutyLimitExit n h s
  | .valveChannelFault n kind => Sys2Proof.Machine.execValveChannelFault n kind s
  | .valveFaultClear agent hi value => Sys2Proof.Machine.execValveFaultClear agent hi value s
  | .vlvPulse q => Sys2Proof.Machine.execVlvPulse q s
  | .vlvSet q => Sys2Proof.Machine.execVlvSet q s
  | .vlvCancel q => Sys2Proof.Machine.execVlvCancel q s
  | .timedValveEvent b => Sys2Proof.Machine.execTimedValveEvent b s
  | .wearCommit => Sys2Proof.Machine.execWearCommit s
  | .watchdogRefresh ic r => Sys2Proof.Machine.execWatchdogRefresh ic r s
  | .watchdogExpiry ic => Sys2Proof.Machine.execWatchdogExpiry ic s
  | .failsafeRequest => Sys2Proof.Machine.execFailsafeRequest s
  | .outputStageResume agent ic => Sys2Proof.Machine.execOutputStageResume agent ic s
  | .lswUntimedCommand agent n value => Sys2Proof.Machine.execLswUntimedCommand agent n value s
  | .shedEvaluation means => Sys2Proof.Machine.execShedEvaluation means s
  | .shedClear agent hi value => Sys2Proof.Machine.execShedClear agent hi value s
  | .wireHeatUpdate meas busv => Sys2Proof.Machine.execWireHeatUpdate meas busv s
  | .lswChannelFault n kind => Sys2Proof.Machine.execLswChannelFault n kind s
  | .lswFaultClear agent hi value => Sys2Proof.Machine.execLswFaultClear agent hi value s
  | .openLoadOff n high => Sys2Proof.Machine.execOpenLoadOff n high s
  | .openLoadOn n low => Sys2Proof.Machine.execOpenLoadOn n low s
  | .lswPulse q => Sys2Proof.Machine.execLswPulse q s
  | .lswSet q => Sys2Proof.Machine.execLswSet q s
  | .lswCancel q => Sys2Proof.Machine.execLswCancel q s
  | .fsunlockWrite agent value => Sys2Proof.Machine.execFsunlockWrite agent value s
  | .fsunlockTimeout => Sys2Proof.Machine.execFsunlockTimeout s
  | .fswrite failed => Sys2Proof.Machine.execFswrite failed s
  | .fsread q => Sys2Proof.Machine.execFsread q s
  | .canEnable agent c value => Sys2Proof.Machine.execCanEnable agent c value s
  | .canDisable agent c => Sys2Proof.Machine.execCanDisable agent c s
  | .canModeWrite agent c mode => Sys2Proof.Machine.execCanModeWrite agent c mode s
  | .busRateDetect c nrate drate => Sys2Proof.Machine.execBusRateDetect c nrate drate s
  | .detectTimeout c => Sys2Proof.Machine.execDetectTimeout c s
  | .canFrameReceived c f => Sys2Proof.Machine.execCanFrameReceived c f s
  | .acceptanceTableCopy agent c value => Sys2Proof.Machine.execAcceptanceTableCopy agent c value s
  | .sendCmd q => Sys2Proof.Machine.execSendCmd q s
  | .canCancel q => Sys2Proof.Machine.execCanCancel q s
  | .canFrameStart c => Sys2Proof.Machine.execCanFrameStart c s
  | .canFrameAcknowledged c => Sys2Proof.Machine.execCanFrameAcknowledged c s
  | .canFrameLost c err => Sys2Proof.Machine.execCanFrameLost c err s
  | .busOffRecovery c => Sys2Proof.Machine.execBusOffRecovery c s
  | .aloneClear agent value => Sys2Proof.Machine.execAloneClear agent value s
  | .addressClaim c => Sys2Proof.Machine.execAddressClaim c s
  | .claimHoldoffExpiry c => Sys2Proof.Machine.execClaimHoldoffExpiry c s
  | .claimContest c r => Sys2Proof.Machine.execClaimContest c r s
  | .claimBackoffExpiry c => Sys2Proof.Machine.execClaimBackoffExpiry c s
  | .claimRequest c => Sys2Proof.Machine.execClaimRequest c s
  | .partnerTimeout k => Sys2Proof.Machine.execPartnerTimeout k s
  | .partnerClear agent value => Sys2Proof.Machine.execPartnerClear agent value s
  | .selectiveWake c id => Sys2Proof.Machine.execSelectiveWake c id s
  | .ethFrameForward port f tarr => Sys2Proof.Machine.execEthFrameForward port f tarr s
  | .ethLinkChange port up pdelay => Sys2Proof.Machine.execEthLinkChange port up pdelay s
  | .ptpMark stamp sec rateErr => Sys2Proof.Machine.execPtpMark stamp sec rateErr s
  | .grandmasterChange gm own slave steps roles => Sys2Proof.Machine.execGrandmasterChange gm own slave steps roles s
  | .gclload => Sys2Proof.Machine.execGclload s
  | .fdbset => Sys2Proof.Machine.execFdbset s
  | .riotpl => Sys2Proof.Machine.execRiotpl s
  | .xmit => Sys2Proof.Machine.execXmit s
  | .rxbuf => Sys2Proof.Machine.execRxbuf s
  | .rioInputFrame port f tarr => Sys2Proof.Machine.execRioInputFrame port f tarr s
  | .udpIntake port f tarr late sync => Sys2Proof.Machine.execUdpIntake port f tarr late sync s
  | .nvmeConnect conn addr qid kato => Sys2Proof.Machine.execNvmeConnect conn addr qid kato s
  | .nvmePropertyGet conn cid ofst => Sys2Proof.Machine.execNvmePropertyGet conn cid ofst s
  | .nvmePropertySet conn cid ofst value => Sys2Proof.Machine.execNvmePropertySet conn cid ofst value s
  | .nvmeDisconnect conn cid => Sys2Proof.Machine.execNvmeDisconnect conn cid s
  | .nvmeIdentify conn cid cns nsid => Sys2Proof.Machine.execNvmeIdentify conn cid cns nsid s
  | .nvmeGetLogPage conn cid lid len retain => Sys2Proof.Machine.execNvmeGetLogPage conn cid lid len retain s
  | .nvmeSetFeatures conn cid fid value => Sys2Proof.Machine.execNvmeSetFeatures conn cid fid value s
  | .nvmeGetFeatures conn cid fid => Sys2Proof.Machine.execNvmeGetFeatures conn cid fid s
  | .nvmeAsyncEventRequest conn cid => Sys2Proof.Machine.execNvmeAsyncEventRequest conn cid s
  | .nvmeKeepAlive conn cid => Sys2Proof.Machine.execNvmeKeepAlive conn cid s
  | .nvmeRead conn cid nsid lba blocks bad => Sys2Proof.Machine.execNvmeRead conn cid nsid lba blocks bad s
  | .nvmeWrite conn cid nsid lba data => Sys2Proof.Machine.execNvmeWrite conn cid nsid lba data s
  | .nvmeFlush conn cid nsid => Sys2Proof.Machine.execNvmeFlush conn cid nsid s
  | .nvmeDatasetManagement conn cid nsid dealloc ranges => Sys2Proof.Machine.execNvmeDatasetManagement conn cid nsid dealloc ranges s
  | .nvmeWriteZeroes conn cid nsid lba blocks => Sys2Proof.Machine.execNvmeWriteZeroes conn cid nsid lba blocks s
  | .serviceRead f => Sys2Proof.Machine.execServiceRead f s
  | .serviceWrite f => Sys2Proof.Machine.execServiceWrite f s
  | .panelFrameStart late torn => Sys2Proof.Machine.execPanelFrameStart late torn s
  | .frameCompose => Sys2Proof.Machine.execFrameCompose s
  | .laneTraining locks => Sys2Proof.Machine.execLaneTraining locks s
  | .laneLockLoss lane => Sys2Proof.Machine.execLaneLockLoss lane s
  | .stripRefresh torn => Sys2Proof.Machine.execStripRefresh torn s
  | .displayFallback => Sys2Proof.Machine.execDisplayFallback s
  | .fallbackClear agent value => Sys2Proof.Machine.execFallbackClear agent value s
  | .panelPowerOn agent mode => Sys2Proof.Machine.execPanelPowerOn agent mode s
  | .panelPowerOff agent mode => Sys2Proof.Machine.execPanelPowerOff agent mode s
  | .panelSequenceStep => Sys2Proof.Machine.execPanelSequenceStep s
  | .uniformityMapRead eeprom => Sys2Proof.Machine.execUniformityMapRead eeprom s
  | .mapload => Sys2Proof.Machine.execMapload s
  | .dramRead req addr wrong taken => Sys2Proof.Machine.execDramRead req addr wrong taken s
  | .dramLineWrite addr data poison => Sys2Proof.Machine.execDramLineWrite addr data poison s
  | .dramPartialWrite req addr mask data poison wrong => Sys2Proof.Machine.execDramPartialWrite req addr mask data poison wrong s
  | .deviceMarkSet agent n dev => Sys2Proof.Machine.execDeviceMarkSet agent n dev s
  | .deviceMarkClear agent n => Sys2Proof.Machine.execDeviceMarkClear agent n s
  | .poisonTrap core kind va addr src => Sys2Proof.Machine.execPoisonTrap core kind va addr src s
  | .scrubVisit wrong => Sys2Proof.Machine.execScrubVisit wrong s
  | .lineZero agent => Sys2Proof.Machine.execLineZero agent s
  | .lineScrub agent => Sys2Proof.Machine.execLineScrub agent s
  | .lineInject agent => Sys2Proof.Machine.execLineInject agent s
  | .lineCopy agent => Sys2Proof.Machine.execLineCopy agent s
  | .logPop agent nfl => Sys2Proof.Machine.execLogPop agent nfl s
  | .nandRead q flips => Sys2Proof.Machine.execNandRead q flips s
  | .nandProgram q fail tableBad => Sys2Proof.Machine.execNandProgram q fail tableBad s
  | .nandErase q fail => Sys2Proof.Machine.execNandErase q fail s
  | .rawread flips => Sys2Proof.Machine.execRawread flips s
  | .rawprog fail => Sys2Proof.Machine.execRawprog fail s
  | .decode => Sys2Proof.Machine.execDecode s
  | .nscreate => Sys2Proof.Machine.execNscreate s
  | .nsdelete => Sys2Proof.Machine.execNsdelete s
  | .nsinfo => Sys2Proof.Machine.execNsinfo s
  | .admitCmd => Sys2Proof.Machine.execAdmitCmd s
  | .releaseCmd => Sys2Proof.Machine.execReleaseCmd s
  | .rawlend blocks => Sys2Proof.Machine.execRawlend blocks s
  | .rawreturn fails => Sys2Proof.Machine.execRawreturn fails s
  | .extread => Sys2Proof.Machine.execExtread s
  | .evacuate => Sys2Proof.Machine.execEvacuate s
  | .terRead bad => Sys2Proof.Machine.execTerRead bad s
  | .terWrite => Sys2Proof.Machine.execTerWrite s
  | .append => Sys2Proof.Machine.execAppend s
  | .terFlush => Sys2Proof.Machine.execTerFlush s
  | .dealloc => Sys2Proof.Machine.execDealloc s
  | .terRefresh => Sys2Proof.Machine.execTerRefresh s
  | .refreshPass bad rewritten => Sys2Proof.Machine.execRefreshPass bad rewritten s
  | .driveLinkUp slot gen width rpGen rpWidth suits exts label wear => Sys2Proof.Machine.execDriveLinkUp slot gen width rpGen rpWidth suits exts label wear s
  | .driveLinkLost slot flight => Sys2Proof.Machine.execDriveLinkLost slot flight s
  | .driveFailed slot flight => Sys2Proof.Machine.execDriveFailed slot flight s
  | .hotExtentMove => Sys2Proof.Machine.execHotExtentMove s
  | .degradedRemirror => Sys2Proof.Machine.execDegradedRemirror s
  | .accessUnitIntake => Sys2Proof.Machine.execAccessUnitIntake s
  | .tileIntake => Sys2Proof.Machine.execTileIntake s
  | .terraceEnable agent value ms => Sys2Proof.Machine.execTerraceEnable agent value ms s
  | .terraceStop agent value => Sys2Proof.Machine.execTerraceStop agent value s
  | .slotpwr => Sys2Proof.Machine.execSlotpwr s
  | .retrain gen width => Sys2Proof.Machine.execRetrain gen width s
  | .pcieLinkLoss slot => Sys2Proof.Machine.execPcieLinkLoss slot s
  | .completionTimeout slot hdr addr core => Sys2Proof.Machine.execCompletionTimeout slot hdr addr core s
  | .supplyLow mv => Sys2Proof.Machine.execSupplyLow mv s
  | .supplyHigh mv => Sys2Proof.Machine.execSupplyHigh mv s
  | .supplyFailure mv saveOk => Sys2Proof.Machine.execSupplyFailure mv saveOk s
  | .supplyReturn mv => Sys2Proof.Machine.execSupplyReturn mv s
  | .wake src => Sys2Proof.Machine.execWake src s
  | .wakeTimerExpiry => Sys2Proof.Machine.execWakeTimerExpiry s
  | .bedUp q => Sys2Proof.Machine.execBedUp q s
  | .bedDown q => Sys2Proof.Machine.execBedDown q s
  | .canopyUp q => Sys2Proof.Machine.execCanopyUp q s
  | .canopyUpRetry q => Sys2Proof.Machine.execCanopyUpRetry q s
  | .canopyDown q => Sys2Proof.Machine.execCanopyDown q s
  | .canopyGraceTimeout => Sys2Proof.Machine.execCanopyGraceTimeout s
  | .pwrreqGo agent value => Sys2Proof.Machine.execPwrreqGo agent value s
  | .pwrreqTarget agent value => Sys2Proof.Machine.execPwrreqTarget agent value s
  | .ignitionRise => Sys2Proof.Machine.execIgnitionRise s
  | .ignitionOffTimeout since => Sys2Proof.Machine.execIgnitionOffTimeout since s
  | .sleepHold => Sys2Proof.Machine.execSleepHold s
  | .keepawake c => Sys2Proof.Machine.execKeepawake c s
  | .sleepHoldExpiry => Sys2Proof.Machine.execSleepHoldExpiry s
  | .sleepWaitExpiry => Sys2Proof.Machine.execSleepWaitExpiry s
  | .lateWake c => Sys2Proof.Machine.execLateWake c s
  | .moduleReset agent value q => Sys2Proof.Machine.execModuleReset agent value q s
  | .canopyRestart agent value q => Sys2Proof.Machine.execCanopyRestart agent value q s
  | .resetButton released q => Sys2Proof.Machine.execResetButton released q s
  | .buttonStuck => Sys2Proof.Machine.execButtonStuck s
  | .thermalShed => Sys2Proof.Machine.execThermalShed s
  | .thermalReturn => Sys2Proof.Machine.execThermalReturn s
  | .thermalCut sensor q => Sys2Proof.Machine.execThermalCut sensor q s
  | .cellMeasure mv dq saveOk => Sys2Proof.Machine.execCellMeasure mv dq saveOk s
  | .rootSave ok => Sys2Proof.Machine.execRootSave ok s
  | .rtdSaveNow agent => Sys2Proof.Machine.execRtdSaveNow agent s
  | .rtdCalload agent value => Sys2Proof.Machine.execRtdCalload agent value s
  | .rootPowerOn => Sys2Proof.Machine.execRootPowerOn s
  | .selfTest res found part bad => Sys2Proof.Machine.execSelfTest res found part bad s
  | .heartbeat agent n => Sys2Proof.Machine.execHeartbeat agent n s
  | .heartbeatTimeout n => Sys2Proof.Machine.execHeartbeatTimeout n s
  | .daleDeclareFail agent n => Sys2Proof.Machine.execDaleDeclareFail agent n s
  | .daleReadyWrite agent n value => Sys2Proof.Machine.execDaleReadyWrite agent n value s
  | .comparisonWrite agent k value => Sys2Proof.Machine.execComparisonWrite agent k value s
  | .mirrorRegionEnable agent n value finish => Sys2Proof.Machine.execMirrorRegionEnable agent n value finish s
  | .handover => Sys2Proof.Machine.execHandover s
  | .handoverSwitch => Sys2Proof.Machine.execHandoverSwitch s
  | .handoverPrepareTimeout => Sys2Proof.Machine.execHandoverPrepareTimeout s
  | .noDaleRestart q => Sys2Proof.Machine.execNoDaleRestart q s
  | .testCmd => Sys2Proof.Machine.execTestCmd s
  | .toktake => Sys2Proof.Machine.execToktake s
  | .tokgive => Sys2Proof.Machine.execTokgive s
  | .stage sig fail => Sys2Proof.Machine.execStage sig fail s
  | .apply icFail => Sys2Proof.Machine.execApply icFail s
  | .abortCmd => Sys2Proof.Machine.execAbortCmd s
  | .cfgread => Sys2Proof.Machine.execCfgread s
  | .cfgwrite => Sys2Proof.Machine.execCfgwrite s
  | .confirm agent value saveOk => Sys2Proof.Machine.execConfirm agent value saveOk s
  | .declareFailure agent value => Sys2Proof.Machine.execDeclareFailure agent value s
  | .probationExpiry u => Sys2Proof.Machine.execProbationExpiry u s
  | .deferredFstableWrite failed => Sys2Proof.Machine.execDeferredFstableWrite failed s
  | .eventRecordWrite cut => Sys2Proof.Machine.execEventRecordWrite cut s
  | .bucketRefill sev => Sys2Proof.Machine.execBucketRefill sev s
  | .swrecCommit agent value => Sys2Proof.Machine.execSwrecCommit agent value s
  | .fetch agent => Sys2Proof.Machine.execFetch agent s
  | .rootEventRecord event sev p0 p1 p2 => Sys2Proof.Machine.execRootEventRecord event sev p0 p1 p2 s
  | .daleCacheError n core unc tagState => Sys2Proof.Machine.execDaleCacheError n core unc tagState s
  | .engineCheckError res corrected => Sys2Proof.Machine.execEngineCheckError res corrected s
  | .endpointLinkChange up gen width => Sys2Proof.Machine.execEndpointLinkChange up gen width s
  | .antennaFeedRetry a => Sys2Proof.Machine.execAntennaFeedRetry a s
  | .pulseEnd valve n => Sys2Proof.Machine.execPulseEnd valve n s
  | .wakeInputEdge n rising => Sys2Proof.Machine.execWakeInputEdge n rising s
  | .acousticRawSample n value => Sys2Proof.Machine.execAcousticRawSample n value s
  | .supplyCurrentSample n ma => Sys2Proof.Machine.execSupplyCurrentSample n ma s
  | .fdbEntryAgeing mac vid => Sys2Proof.Machine.execFdbEntryAgeing mac vid s
  | .gateOpen port => Sys2Proof.Machine.execGateOpen port s
  | .canReceiveError c err inc => Sys2Proof.Machine.execCanReceiveError c err inc s
  | .tokenHeldOneHour c => Sys2Proof.Machine.execTokenHeldOneHour c s
  | .buttonUnmask => Sys2Proof.Machine.execButtonUnmask s

end Sys2Proof.Machine
end

