-- ==== Sys2Proof/Safety.lean ====
section
/-! DEFINITION. What claims call a sound state, in the terms of the spec: the domains nested (R12), Sundial on a tick (R49), the maps and the
memory in their canonical form, and the fixed part of the module, which no command changes (R1, R3, R4). -/

namespace Sys2Proof

/-- The commands that can power a domain or cut it, move Sundial or move a power sequence: the accesses that reach SYS_PWRREQ and SYS_RSTCMD, and
the commands of chapter 19. -/
def Instr.movesPower : Instr → Bool
  | .registerWrite .. | .selectiveWake .. | .serviceRead .. | .serviceWrite .. | .supplyFailure .. | .supplyReturn ..
  | .wake .. | .wakeTimerExpiry | .bedUp .. | .bedDown .. | .canopyUp .. | .canopyUpRetry ..
  | .canopyDown .. | .canopyGraceTimeout | .pwrreqGo .. | .pwrreqTarget .. | .ignitionRise | .ignitionOffTimeout ..
  | .sleepHold | .keepawake .. | .sleepHoldExpiry | .sleepWaitExpiry | .lateWake .. | .moduleReset ..
  | .canopyRestart .. | .resetButton .. | .thermalShed | .thermalReturn | .thermalCut .. | .noDaleRestart ..
  | .deferredFstableWrite .. | .wakeInputEdge .. | .rootPowerOn | .cellMeasure .. => true
  | _ => false

/-- The commands that can power Root or cut it (R491, R492). -/
def Instr.movesRoot : Instr → Bool
  | .cellMeasure .. | .rootPowerOn => true
  | _ => false

/-- The commands that are instructions of a Furrow program (R289). -/
def Instr.furrow : Instr → Bool
  | .furNop | .furLd .. | .furLdn .. | .furAnd .. | .furAndn .. | .furOr ..
  | .furOrn .. | .furXor .. | .furSt .. | .furStn .. | .furSet .. | .furRst ..
  | .furNot | .furLda .. | .furOpen .. | .furClose | .furFp .. | .furFn ..
  | .furTon .. | .furTof .. | .furTp .. | .furTonw .. | .furTofw .. | .furTpw ..
  | .furRstt .. | .furLdt .. | .furCtu .. | .furCtd .. | .furRstc .. | .furLdc ..
  | .furLdw .. | .furLdi .. | .furStw .. | .furStwc .. | .furAddw .. | .furSubw ..
  | .furMulw .. | .furDivw .. | .furAddi .. | .furMinw .. | .furMaxw .. | .furAndw ..
  | .furOrw .. | .furNeg | .furAbs | .furCeq .. | .furCne .. | .furClt ..
  | .furCle .. | .furCgt .. | .furCge .. | .furCeqi .. | .furCnei .. | .furClti ..
  | .furClei .. | .furCgti .. | .furCgei .. | .furLdte .. | .furLdcv .. | .furLdx
  | .furJmp .. | .furJc .. | .furJnc .. | .furRep .. | .furEnd => true
  | _ => false

end Sys2Proof

namespace Sys2Proof.Machine

/-- A domain is powered only while every domain above it is: Canopy never without Bed, Bed never without Root (R12). -/
def State.nested (s : State) : Prop := (s.canopyOn = true → s.bedOn = true) ∧ (s.bedOn = true → s.rootOn = true)

/-- What is fused at manufacture: the ordering code and the hardware revision (R3, R4). -/
def State.fused (s : State) : Code × Nat := (s.code, s.hwrev)

/-- What no command outside the power chapter changes: what is fused, the powered domains, Sundial time and the waiting commands. -/
def State.frame (s : State) : Code × Nat × Bool × Bool × Bool × Nat × List Instr :=
  (s.code, s.hwrev, s.rootOn, s.bedOn, s.canopyOn, s.now, s.pending)

/-- Sundial time is a whole number of its 8 ns ticks (R49). -/
def State.onTick (s : State) : Prop := s.now % 8 = 0

/-- Memory in its canonical form. -/
def State.memWf (s : State) : Prop := s.mem.wf = true

/-- The register map in its canonical form. -/
def State.regsWf (s : State) : Prop := SMap.wf (regReset s.code s.hwrev) s.regs = true

/-- The domains that each power state powers once no sequence runs: Vault and Root-armed neither Bed nor Canopy, Doze Bed, Field both (R469). -/
def settled (st : Nat) (bed canopy : Bool) : Bool :=
  match st with
  | 0 => !bed && !canopy
  | 1 => !bed && !canopy
  | 2 => bed && !canopy
  | 3 => bed && canopy
  | _ => false

/-- What may stand during step `step` of a sequence (R474-R478, R481): the power state it set out from, the domains powered, and the step a
reversal has set to follow (R479). Step code 0 is the power state itself. -/
def stepLegal (st step : Nat) (turn : Option Nat) (bed canopy : Bool) : Bool :=
  match step with
  | 0x00 => turn.isNone && settled st bed canopy
  | 0x01 => (turn.isNone || decide (turn = some 0x0A)) && decide (st = 1) && !bed && !canopy
  | 0x02 => (turn.isNone || decide (turn = some 0x0A)) && decide (st = 1) && !bed && !canopy
  | 0x03 => (turn.isNone || decide (turn = some 0x0A)) && (decide (st = 1) || decide (st = 2)) && !bed && !canopy
  | 0x04 => (turn.isNone || decide (turn = some 0x0A)) && (decide (st = 1) || decide (st = 2)) && bed && !canopy
  | 0x05 => (turn.isNone || decide (turn = some 0)) && (decide (st = 1) || decide (st = 2)) && bed && !canopy
  | 0x06 => (turn.isNone || decide (turn = some 0)) && (decide (st = 1) || decide (st = 2)) && bed && !canopy
  | 0x07 => (turn.isNone || decide (turn = some 5)) && decide (st = 2) && bed && !canopy
  | 0x08 => (turn.isNone || decide (turn = some 5)) && decide (st = 2) && bed && !canopy
  | 0x09 => (turn.isNone || decide (turn = some 5)) && decide (st = 2) && bed && !canopy
  | 0x0A => (turn.isNone || decide (turn = some 5)) && (decide (st = 1) || decide (st = 2)) && !canopy
  | 0x0B => (turn.isNone || decide (turn = some 1)) && (decide (st = 1) || decide (st = 2)) && !canopy
  | 0x0D => turn.isNone && decide (st = 2) && bed && !canopy
  | 0x0E => (turn.isNone || decide (turn = some 0x16)) && (decide (st = 2) || decide (st = 3)) && bed && !canopy
  | 0x0F => (turn.isNone || decide (turn = some 0x16)) && (decide (st = 2) || decide (st = 3)) && bed && !canopy
  | 0x10 => turn.isNone && (decide (st = 2) || decide (st = 3)) && bed && canopy
  | 0x11 => turn.isNone && (decide (st = 2) || decide (st = 3)) && bed && canopy
  | 0x13 => turn.isNone && (decide (st = 2) || decide (st = 3)) && bed && canopy
  | 0x14 => (turn.isNone || decide (turn = some 0x20)) && (decide (st = 2) || decide (st = 3)) && bed && canopy
  | 0x15 => (turn.isNone || decide (turn = some 0x0E)) && (decide (st = 2) || decide (st = 3)) && bed && canopy
  | 0x16 => (turn.isNone || decide (turn = some 0x0E)) && (decide (st = 2) || decide (st = 3)) && bed
  | 0x18 => turn.isNone && decide (st = 2) && bed && !canopy
  | 0x19 => turn.isNone && decide (st = 2) && bed && !canopy
  | 0x1A => turn.isNone && decide (st = 2) && bed && !canopy
  | _ => false

/-- A sound power state: the domains nested (R12), Sundial on a tick (R49), the module's domains and sequence as `stepLegal` says, and Vault
where Root itself is off (R489). -/
def State.powerSound (s : State) : Prop :=
  s.nested ∧ s.onTick ∧ stepLegal s.pwr.st s.pwr.step s.pwr.turn s.bedOn s.canopyOn = true ∧ (s.rootOn = false → s.pwr.st = 0)

/-- Command `c` in state `s` completes in a next state of which `P` holds. -/
def Completes (c : Instr) (s : State) (P : State → Prop) : Prop := ∃ t, exec c s = .next t ∧ P t

/-- A write by `a` to the register at offset `off` of block `blk` is accepted: the block's domain is powered (R13), the writer is admitted
(R70), the block is not held in its safe state for good (R498), and the ordering code carries the unit (R5). -/
def State.accepts (s : State) (a : Agent) (blk off : Nat) : Bool :=
  s.blockOn blk && s.admits a blk off && decide (SMap.get (fun _ => 0) s.hlt.lostRegs blk < 5) && !absentReg s.code blk off

/-- The scan `sc` runs in `s` and has reached the unmarked word of the Furrow instruction `i` (R273, R289, R304). -/
def State.scanAt (s : State) (i : Instr) (sc : Scan) : Bool :=
  s.bedOn && decide (s.furState = 1) && decide (s.fur.scan = some sc) && sc.ended.isNone && (furEncode i).isSome &&
    decide (s.furCode sc.pc = furEncode i) && !s.fur.badCode.contains sc.pc

/-- Entry `a` of Furrow's data memory `area` exists and carries no mark (R278, R304). -/
def State.furClear (s : State) (area a : Nat) : Bool := decide (a < furSize area) && !s.furBad area a

/-- The registers outside block `blk` read as before. -/
def State.regsBut (blk : Nat) (s t : State) : Prop := ∀ k, k / 0x1000 ≠ blk → t.reg k = s.reg k

/-- The registers and the 64-bit counters of every block but those of `blks` read as before. -/
def State.keepsRegs (blks : List Nat) (s t : State) : Prop :=
  ∀ k, blks.contains (k / 0x1000) = false → t.reg k = s.reg k ∧ t.wideGet k = s.wideGet k

/-- Address `a` lies in the entries of a ring (R86, R88). -/
def State.inRings (s : State) (a : Nat) : Prop := ∃ q, s.ringAddr q 0 ≤ a ∧ a < s.ringAddr q (s.ringSize q)

/-- The indices of every ring lie inside it (R90). -/
def State.ringsIn (s : State) : Prop := ∀ q, s.ringHead q < s.ringSize q ∧ (s.ring q).idx < s.ringSize q

/-- Every byte of memory outside the rings and the `n` bytes from `a` on reads as before, where no mirror region writes a second time (R504). -/
def State.keepsMem (a n : Nat) (s t : State) : Prop :=
  s.hlt.mirrors = [] → s.ringsIn → ∀ x, ¬ s.inRings x → (x < a ∨ a + n ≤ x) → t.mem.read x = s.mem.read x

end Sys2Proof.Machine
end

