-- ==== Sys2Proof/Certificates/Slice0/Obligations.lean ====
section
/-! DEFINITION. The statements about this hardware, for the provers: each is named in OBLIGATIONS.json. A clause that says a command
`Completes` gives the next state of the command's own effect, or what that state holds; a frame gives what a command leaves unchanged. -/

set_option linter.unusedVariables false

open Sys2Proof Sys2Proof.Machine

/-- A step carries out the command at the front of the queue. Whatever the state, a step with a command at the front of the queue is exec of that command on the state with the rest of the queue; with an empty queue (the model's choice, log 5) a step lets time pass: nothing where Root is off, one Sundial tick of 8 ns where Bed runs. (R1, R49, R67) -/
def Obligations.StepRunsTheFrontCommand : Prop :=
  (∀ (s : State) (c : Instr) (rest : List Instr), s.pending = c :: rest → step s = exec c { s with pending := rest }) ∧
  (∀ s : State, s.pending = [] → step s = .next s.tick) ∧
  (∀ s : State, s.pending = [] → s.rootOn = false → step s = .next s) ∧
  (∀ s : State, s.pending = [] → s.rootOn = true → s.bedOn = true → ∃ t, step s = .next t ∧ t.now = s.now + 8 ∧ t.pending = [])

/-- The state after reset. After reset Root alone is powered, no command waits and nothing is listed in memory; every register whose reset value its field table gives reads that value. (That Root stands powered and the module in the Vault state, and that memory reads 0, are the model's choices: log 3 and log 4.) (R4, R85, R492) -/
def Obligations.ResetState : Prop :=
  State.reset.rootOn = true ∧ State.reset.bedOn = false ∧ State.reset.canopyOn = false ∧ State.reset.now = 0 ∧ State.reset.pending = [] ∧
  (∀ a : Nat, State.reset.mem.read a = 0) ∧
  (∀ (blk off : Nat) (d : RegDesc), off < 0x1000 → findReg blk off = some d → specialReset State.reset.code State.reset.hwrev (blk * 0x1000 + off) = none →
    (arrayIdx (blk * 0x1000 + off) (Reg.LSW_CHn_CTL 0) 0x10 64).isSome = false → State.reset.reg (blk * 0x1000 + off) = d.resetWord)

/-- The invariants hold after reset. The state after reset has a sound power state, memory and registers in canonical form, and every ring index inside its ring. (R12, R49, R492) -/
def Obligations.ResetIsSound : Prop :=
  State.reset.powerSound ∧ State.reset.memWf ∧ State.reset.regsWf ∧ State.reset.ringsIn

/-- Decoding a Furrow instruction's word gives the instruction back. For every Furrow instruction, with every operand at every value its field admits, the word that encodes it decodes to it, and a word decodes to an instruction only if it is that instruction's word; no other command has a word, and a word is 32 bits. (R289, R290) -/
def Obligations.FurrowWordsRoundTrip : Prop :=
  (∀ (i : Instr) (w : Nat), furEncode i = some w → furDecode w = some i ∧ w < 2 ^ 32 ∧ i.furrow = true) ∧
  (∀ (i : Instr) (w : Nat), furDecode w = some i → furEncode i = some w)

/-- Canopy is never on without Bed, and Bed never without Root. Every step from a sound power state leads to a sound power state: the domains stay nested, and every power state and every step of a power sequence powers the domains the spec gives it. (Sundial on its tick, and which reversal a step may carry, are further clauses of the invariant.) (R12) -/
def Obligations.PowerStateStaysSound : Prop :=
  ∀ s t : State, s.powerSound → step s = .next t → t.powerSound

/-- Every step keeps memory and the register map in canonical form. Where memory and the register map stand in their canonical form, they do after every step: addresses rise strictly, no entry equals what an unlisted address reads as, and the registers that hold their reset value are not listed. (R32, R85) -/
def Obligations.CanonicalFormsKept : Prop :=
  ∀ s t : State, s.memWf → s.regsWf → step s = .next t → t.memWf ∧ t.regsWf

/-- A hole reads 0, drops admitted writes and answers refused ones with an error. Where an access names an offset that selects no register, and the block's domain is powered, a read answers 0 and changes nothing else; a write from an admitted writer is discarded without an error and changes nothing else; a write that R70 refuses gets its error response. A Dale's access to a Canopy block passes the tracker first, as R67 says. (R66) -/
def Obligations.HolesReadZeroAndDropWrites : Prop :=
  ∀ (s : State) (a : Agent) (addr blk off : Nat) (v : W32), regTarget a addr 32 = some (blk, off) → findReg blk off = none → s.blockOn blk = true →
    ((bedAgent a = true → bedBlock blk = true) → exec (.readClear a addr 32) s = .next ((s.throughTracker a blk addr false).answer 0)) ∧
    (s.admits a blk off = true → SMap.get (fun _ => 0) s.hlt.lostRegs blk < 5 → exec (.registerWrite a addr 32 v.toNat) s = .next (s.throughTracker a blk addr true).done) ∧
    (s.admits a blk off = false → ∃ t, exec (.registerWrite a addr 32 v.toNat) s = .next t ∧ t.resp = .error ∧ (blk ≠ 0x07 → t = (s.throughTracker a blk addr true).failFor a))

/-- Posted writes to one Root register merge field by field and commit once. A second write to a Root register whose first is pending leaves one latch, with the later value and the 1 bits of both; a commit gives the RW and RWP fields the later value, clears the W1C bits and sets the W1S bits under the merged 1 bits, and touches no other Root register; the edge that commits a latch releases it. (R77) -/
def Obligations.PostedWritesMerge : Prop :=
  (∀ (s : State) (a : Agent) (off : Nat) (v : W32) (l : Latch), s.accepts a 0x02 (decodeOff 2 off) = true →
    rootKeys.contains (0x2000 + decodeOff 2 off) = true → listedAt (0x2000 + decodeOff 2 off) v = true →
    (0x2000 + decodeOff 2 off = Reg.RTD_CELLCFG → getBits v 15 0 < getBits v 31 16) →
    s.latches.find? (fun x => decide (x.off = decodeOff 2 off)) = some l →
    Completes (.rootRegisterWrite a off v) s (fun t => t.latches =
      s.latches.filter (fun x => decide (x.off ≠ decodeOff 2 off)) ++ [⟨decodeOff 2 off, v, l.ones ||| v, s.now⟩])) ∧
  (∀ (s : State) (l : Latch) (d : RegDesc) (f : FieldDesc), findReg 2 l.off = some d → f ∈ d.fields →
    let old := s.rootReg (0x2000 + l.off)
    let new := (s.commitLatch l).rootReg (0x2000 + l.off)
    (f.acc = .rw ∨ f.acc = .rwp → getBits new f.hi f.lo = getBits l.value f.hi f.lo) ∧
    (f.acc = .w1c → getBits new f.hi f.lo = getBits (old &&& ~~~ l.ones) f.hi f.lo) ∧
    (f.acc = .w1s → getBits new f.hi f.lo = getBits (old ||| l.ones) f.hi f.lo)) ∧
  (∀ (s : State) (l : Latch) (k : Nat), k ≠ 0x2000 + l.off → (s.commitLatch l).rootReg k = s.rootReg k) ∧
  (∀ s t : State, s.rootOn = true → exec .rootEdge s = .next t → t.latches = s.latches.filter (fun l => !decide (l.time + 1000 ≤ s.now)))

/-- Every command completes, and what no command outside the power chapter changes. Every command, with every operand, completes in every state: there is a next state, and it keeps what is fused and the waiting commands. Only the commands of the power chapter, and the accesses that reach SYS_PWRREQ and SYS_RSTCMD, change which of Bed and Canopy is powered, Sundial time, the power state, its step or its reversal; only CELL_MEASURE and ROOT_POWER_ON change whether Root is powered. (That an access the spec refuses is a next state with an error response is the model's choice: log 1.) (R3, R4, R12, R49, R63, R473, R479, R491, R492) -/
def Obligations.ModuleFrame : Prop :=
  ∀ (c : Instr) (s : State), ∃ t, exec c s = .next t ∧
    t.code = s.code ∧ t.hwrev = s.hwrev ∧ t.pending = s.pending ∧ (c.movesRoot = false → t.rootOn = s.rootOn) ∧
    (c.movesPower = false → t.bedOn = s.bedOn ∧ t.canopyOn = s.canopyOn ∧ t.now = s.now ∧
      t.pwr.st = s.pwr.st ∧ t.pwr.step = s.pwr.step ∧ t.pwr.turn = s.pwr.turn)

/-- Each register access completes with its effect. An accepted write to a register of SYS outside the request registers holds the word its access codes give; a write to a hole changes nothing (a Dale's access to a Canopy block passes the tracker); an access to an unassigned window errs; a read brings a register that follows the time up to date, answers the visible word and restarts its read-clear fields (a Trowel bank's peak from the bank current); a snapshot copies every 64-bit counter of its block into the agent's bank; a flip in SDL_CTL returns it to reset and is reported; a Root register write is posted, and commits at the first edge 1 µs later or when the Bed rail falls. (R5, R10, R64, R66, R70, R72, R75, R76, R77, R78, R80, R81) -/
def Obligations.RegisterAccessesComplete : Prop :=
  (∀ (s : State) (a : Agent) (addr : Nat) (v : W32) (off : Nat) (d : RegDesc), regTarget a addr 32 = some (0x00, off) → s.accepts a 0x00 off = true → findReg 0x00 off = some d → off ≠ Reg.SYS_PWRREQ → off ≠ Reg.SYS_RSTCMD → 
    Completes (.registerWrite a addr 32 v.toNat) s (fun t => t = if d.listed v = true then { (s.setReg off (d.written (s.reg off) v)).done with badParity := s.badParity.filter (fun k => k ≠ off) } else s.done)) ∧
  (∀ (s : State) (a : Agent) (addr : Nat) (v : W32) (blk off : Nat), regTarget a addr 32 = some (blk, off) → s.accepts a blk off = true → blk ≠ 0x07 → findReg blk off = none → 
    Completes (.registerWrite a addr 32 v.toNat) s (fun t => t = (s.throughTracker a blk addr true).done)) ∧
  (∀ (s : State) (a : Agent) (addr size : Nat) (v : W32), assigned ((addr - regSpace) / 0x10000) = false → 
    Completes (.registerWrite a addr size v.toNat) s (fun t => t = s.failFor a)) ∧
  (∀ (s : State) (a : Agent) (addr : Nat) (blk off : Nat) (d : RegDesc), regTarget a addr 32 = some (blk, off) → s.blockOn blk = true → bedAgent a = true → bedBlock blk = true → absentReg s.code blk off = false → findReg blk off = some d → bankedKey (blk * 0x1000 + off) = false → s.badParity = [] → ¬ (blk = 0x0B ∧ 0x84 ≤ off ∧ off ≤ 0xDC ∧ off % 8 = 4) → 
    Completes (.readClear a addr 32) s (fun t => let u := (s.throughTracker a blk addr false).refresh (blk * 0x1000 + off)
      t.resp = .value (d.visible (u.reg (blk * 0x1000 + off))).toNat ∧ t.reg (blk * 0x1000 + off) = d.afterRead (u.reg (blk * 0x1000 + off)) ∧ t.mem = s.mem ∧ t.irqs = s.irqs)) ∧
  (∀ (s : State) (a : Agent) (addr k : Nat), regTarget a addr 32 = some (0x0B, 0x84 + 8 * k) → k < 12 → s.bedOn = true → absentReg s.code 0x0B (0x84 + 8 * k) = false → s.badParity = [] → 
    Completes (.readClear a addr 32) s (fun t => t.resp = .value (s.reg (Reg.VLV_BANKk_CUR k)).toNat ∧ t.rd (F.VLV_BANKk_CUR_PEAK k) = s.rd (F.VLV_BANKk_STAT_MA k) ∧ t.mem = s.mem)) ∧
  (∀ (s : State) (a : Agent) (blk : Nat) (v : W32) (b k : Nat), snapKey blk = some k → s.accepts a blk (k % 0x1000) = true → getBits v 0 0 = 1 → blk ≠ 0x02 → agentBank a = some b → 
    Completes (.snapshot a blk v) s (fun t => t.resp = .done ∧ t.regs = s.regs ∧ t.mem = s.mem ∧
      wideKeys.all (fun x => decide (x / 0x1000 ≠ blk) || (decide (t.bankReg b x = BitVec.ofNat 32 (s.wideGet x)) && decide (t.bankReg b (x + 4) = BitVec.ofNat 32 (s.wideGet x / 2 ^ 32)))) = true)) ∧
  (∀ (s : State) (n : Nat), s.bedOn = true → n < 2 → s.badParity = [] → 
    Completes (.paritySweep [(Reg.SDL_CTL, n)]) s (fun t => t.rd F.SDL_STAT_PARFLT = 1 ∧ t.rd F.SDL_CTL_MODE = 1 ∧ t.badParity = [] ∧ getBits (t.reg Reg.SYS_PARBLK) 1 1 = 1)) ∧
  (∀ (s : State) (a : Agent) (off : Nat) (v : W32), s.accepts a 0x02 (decodeOff 2 off) = true → decodeOff 2 off % 4 = 0 → rootKeys.contains (0x2000 + decodeOff 2 off) = true → listedAt (0x2000 + decodeOff 2 off) v = true → 0x2000 + decodeOff 2 off ≠ Reg.RTD_CELLCFG → s.latches = [] → 
    Completes (.rootRegisterWrite a off v) s (fun t => t.resp = .done ∧ t.latches = [⟨decodeOff 2 off, v, v, s.now⟩] ∧ t.rootRegs = s.rootRegs ∧ t.mem = s.mem)) ∧
  (∀ (s : State) (l : Latch) (d : RegDesc), s.rootOn = true → s.bedOn = true → s.latches = [l] → l.time + 1000 ≤ s.now → findReg 2 l.off = some d → rootKeys.contains (0x2000 + l.off) = true → l.off ≠ 0 → s.rootBit F.RTD_CTL_CALLOAD = false → 
    Completes (.rootEdge) s (fun t => t.latches = [] ∧ t.rootReg (0x2000 + l.off) = d.committed (s.rootReg (0x2000 + l.off)) l ∧ t.reg (0x2000 + l.off) = t.rootReg (0x2000 + l.off))) ∧
  (∀ (s : State) (l : Latch) (d : RegDesc), s.bedOn = false → s.latches = [l] → findReg 2 l.off = some d → l.off ≠ 0 → s.rootBit F.RTD_CTL_CALLOAD = false → 
    Completes (.bedRailFallCommit) s (fun t => t.latches = [] ∧ t.rootReg (0x2000 + l.off) = d.committed (s.rootReg (0x2000 + l.off)) l ∧ t.regs = s.regs))

/-- Each Gorge and Bed bridge command completes with its effect. A GORGE_REQUEST outside its target's range or with Canopy off gets an error response; otherwise GORGE_REQUEST adds a tracker entry when MEM is READY or the target is no DRAM, and the requester is below its limit and either below its reserve or entitled to a shared entry with no older eligible request, and otherwise waits; ENTRY_RELEASE frees the entry of its tag; FORCED_COMPLETION at the entry's bound sets FAB_STAT.EXP and poisons the lines of a write to memory; FAB_CRED_WRITE takes a table that keeps R28 and sets CREDERR on any other; BRIDGE_HANDOFF queues the write or is refused; BRIDGE_INBOUND_WRITE of a Dale takes a line or waits, any other agent's takes one or is refused; BRIDGE_DRAIN takes the oldest line. (R15, R16, R17, R24, R25, R26, R28, R29, R421) -/
def Obligations.GorgeAndBridgeCommandsComplete : Prop :=
  (∀ (s : State) (req cls : Nat) (kind : Xfer) (addr len tag : Nat), s.canopyOn = true → req < 16 → cls < 8 → 0 < len → len ≤ 256 → ¬ (s.code = .l ∧ req = 8) → s.code.classOk cls addr len = true → s.fab.waits.any (fun w => decide (w.req = req)) = false → 
    Completes (.gorgeRequest req cls kind addr len tag) s (fun t => if (cls ≠ 1 ∧ cls ≠ 2 ∨ s.on F.MEM_STAT_READY = true) ∧ s.atLimit req = false ∧ (s.belowReserve req = true ∨ (s.mayShare req = true ∧ s.olderWaits = false)) then
      t.fab.entries = s.fab.entries ++ [⟨s.fab.tagFor tag, req, cls, kind.write, addr, len, s.now, kind.poison⟩] ∧ t.fab.waits = s.fab.waits
      else t.fab.entries = s.fab.entries ∧ t.fab.waits = s.fab.waits ++ [⟨req, cls, kind.write, addr, len, s.now, kind.poison⟩])) ∧
  (∀ (s : State) (req cls : Nat) (kind : Xfer) (addr len tag : Nat), s.canopyOn = false ∨ (req < 16 ∧ cls < 8 ∧ 0 < len ∧ len ≤ 256 ∧ ¬ (s.code = .l ∧ req = 8) ∧ s.fab.waits.any (fun w => decide (w.req = req)) = false ∧ s.code.classOk cls addr len = false) → 
    Completes (.gorgeRequest req cls kind addr len tag) s (fun t => t = s.failReq req ∧ t.resp = .error ∧ t.fab = s.fab)) ∧
  (∀ (s : State) (tag want : Nat), (s.fab.entry tag).isSome = true → s.fab.waits = [] → 
    Completes (.entryRelease tag want) s (fun t => t.fab.entries = s.fab.entries.filter (fun x => x.tag ≠ tag) ∧ t.mem = s.mem)) ∧
  (∀ (s : State) (tag want : Nat) (e : FabEntry), s.fab.entry tag = some e → s.fab.waits = [] → e.ack + classBound e.cls ≤ s.now → 
    Completes (.forcedCompletion tag want) s (fun t => t.fab.entries = s.fab.entries.filter (fun x => x.tag ≠ tag) ∧ t.rd F.FAB_STAT_EXP = 1 ∧
      t.mem = if e.write = true ∧ e.cls ≤ 3 ∧ s.memOk e.addr e.len = true then s.mem.remark e.addr e.len true else s.mem)) ∧
  (∀ (s : State) (a : Agent) (n : Nat) (v : W32), n < 16 → s.accepts a 0x10 (0x100 + 4 * n) = true → 
    Completes (.fabCredWrite a n v) s (fun t => t.resp = .done ∧
      (s.creditOk n v = true → t.rd (F.FAB_CREDn_RESERVE n) = getBits v 29 16 ∧ t.rd (F.FAB_CREDn_LIMIT n) = getBits v 13 0) ∧
      (s.creditOk n v = false → t.rd F.FAB_STAT_CREDERR = 1 ∧ t.reg (Reg.FAB_CREDn n) = s.reg (Reg.FAB_CREDn n)))) ∧
  (∀ (s : State) (addr : Nat) (data : Bytes), s.bedOn = true → 
    Completes (.bridgeHandoff addr data) s (fun t => if s.canopyOn = true ∧ s.bridge.outbound.length < 1024 then
      t = { s with bridge := { s.bridge with outbound := s.bridge.outbound ++ [⟨addr, data, false, false, .plain⟩] }, resp := .done }
      else t = { s with resp := .error })) ∧
  (∀ (s : State) (a : Agent) (addr : Nat) (data : Bytes) (p : Bool), s.canopyOn = true → inBedRange addr data.length = true → addr % 64 + data.length ≤ 64 → 
    Completes (.bridgeInboundWrite a addr data p) s (fun t => if a = .daleA ∨ a = .daleB then
      t.resp = .done ∧
      (if s.inboundRoom true 1 = true ∧ s.bridge.waiting.any (fun x => x.dale) = false then t.bridge.inbound = s.bridge.inbound ++ [⟨addr, data, p, true, .plain⟩]
      else t.bridge.waiting = s.bridge.waiting ++ [⟨addr, data, p, true, .plain⟩] ∧ t.bridge.inbound = s.bridge.inbound)
      else if s.inboundRoom false 1 = true then t.resp = .done ∧ t.bridge.inbound = s.bridge.inbound ++ [⟨addr, data, p, false, .plain⟩]
      else t = { s with resp := .error })) ∧
  (∀ (s : State) (l : BridgeLine) (r : List BridgeLine), s.bridge.inbound = l :: r → s.bridge.waiting = [] → 
    Completes (.bridgeDrain) s (fun t => t.bridge.inbound = r ∧ t.mem = (({ s with bridge := { s.bridge with inbound := r } }).store l.addr l.data l.poison).mem))

/-- The gauges, the core rails, the temperature and the voltage monitors report what they read. Every Bed gauge reads as measured and VALID, the Bed rail moves by 5 mV by the rule of R42, every temperature sensor and voltage monitor reads as measured, and OUT says whether the voltage lies outside its window. (R38, R39, R42, R44, R46) -/
def Obligations.MonitorCommandsComplete : Prop :=
  (∀ (s : State) (readings : List Nat) (n : Nat), s.bedOn = true → n < 4 → 
    Completes (.paceGaugeMeasure readings) s (fun t => t.rd (F.HLT_PACEn_VALID n) = 1 ∧ t.rd (F.HLT_PACEn_PACE n) = min (readings.getD n 0) 0xFFFF)) ∧
  (∀ (s : State) (n p : Nat), s.bedOn = true → s.tim.lastRail.all (fun a => decide (a + 1000000 ≤ s.now)) = true → 2 ≤ (s.goodGauges false).length → s.lowestPace (s.goodGauges false) = some (n, p) → 
    Completes (.railRegulation) s (fun t => (p < 0x360 → s.rd F.HLT_VCORE_BED < 800 → t.rd F.HLT_VCORE_BED = s.rd F.HLT_VCORE_BED + 5) ∧
      (0x3C0 < p → 700 < s.rd F.HLT_VCORE_BED → t.rd F.HLT_VCORE_BED = s.rd F.HLT_VCORE_BED - 5) ∧
      (0x360 ≤ p → p ≤ 0x3C0 → t.rd F.HLT_VCORE_BED = s.rd F.HLT_VCORE_BED))) ∧
  (∀ (s : State) (temps : List (Option Int)) (n : Nat), s.bedOn = true → n < 24 → 
    Completes (.tempSensorUpdate temps) s (fun t => if (temps.getD n none).isSome = true then t.rd (F.HLT_TEMPn_VALID n) = 1 ∧ t.rd (F.HLT_TEMPn_TEMP n) = toPattern 16 ((temps.getD n none).getD 0)
      else t.rd (F.HLT_TEMPn_VALID n) = 0)) ∧
  (∀ (s : State) (mv : List (Option Nat)) (n : Nat), s.bedOn = true → n < 8 → 
    Completes (.voltageMonitorUpdate mv) s (fun t => if (mv.getD n none).isSome = true then t.rd (F.HLT_VMONn_VALID n) = 1 ∧ t.rd (F.HLT_VMONn_MV n) = min ((mv.getD n none).getD 0) 0xFFFF ∧
      t.rd (F.HLT_VMONn_OUT n) = (if (mv.getD n none).getD 0 < (voltWindow n).1 ∨ (voltWindow n).2 < (mv.getD n none).getD 0 then 1 else 0)
      else t.rd (F.HLT_VMONn_VALID n) = 0))

/-- Each Sundial command completes with its effect. Root saves Sundial time; a compare at or before now raises the core's interrupt, a later one is kept; a mark of the selected reference is taken; three seconds without a mark move ACQUIRE to FREE and LOCKED to HOLDOVER; a write that changes MODE enters FREE; a drift above 20 ppm sets DRIFT; loss and return of the TCXO set and clear TCXOLOSS; an alarm is latched, disarmed, and fires with its interrupt. (R51, R53, R55, R56, R57, R58) -/
def Obligations.SundialCommandsComplete : Prop :=
  (∀ (s : State), s.bedOn = true → 
    Completes (.sundialSave) s (fun t => t.wideGet Reg.RTD_SDLSAVE_LO = s.now ∧ t.mem = s.mem ∧ t.regs = s.regs)) ∧
  (∀ (s : State) (core cmp : Nat), s.canopyOn = true → core < 16 → cmp ≤ s.now → 
    Completes (.timerCompareMatch core cmp) s (fun t => t.irqs = s.irqs ++ [⟨.core core, .timer core⟩] ∧ t.mem = s.mem ∧ t.regs = s.regs)) ∧
  (∀ (s : State) (core cmp : Nat), s.canopyOn = true → core < 16 → s.now < cmp → 
    Completes (.timerCompareMatch core cmp) s (fun t => SMap.get (fun _ => 0) t.tim.compares core = cmp ∧ t.tim.coming.contains core = true ∧ t.irqs = s.irqs)) ∧
  (∀ (s : State) (source stamp gps : Nat) (e : Int), s.bedOn = true → source ≠ 0 → s.rd F.SDL_CTL_MODE = source → 
    Completes (.referenceMark source stamp gps e) s (fun t => t.tim.lastMark = s.now ∧ t.wideGet Reg.SDL_GNSSOFF_LO = toPattern 64 ((gps : Int) - stamp) ∧
      (s.rd F.SDL_STAT_STATE = 0 → t.rd F.SDL_STAT_STATE = 1))) ∧
  (∀ (s : State), s.bedOn = true → s.tim.lastMark + 3000000000 ≤ s.now → 
    Completes (.markTimeout) s (fun t => (s.rd F.SDL_STAT_STATE = 1 → t.rd F.SDL_STAT_STATE = 0) ∧ (s.rd F.SDL_STAT_STATE = 2 → t.rd F.SDL_STAT_STATE = 3) ∧
      (s.rd F.SDL_STAT_STATE ≠ 1 → s.rd F.SDL_STAT_STATE ≠ 2 → t = s))) ∧
  (∀ (s : State) (a : Agent) (v : W32), s.accepts a 0x01 0x000 = true → listedAt Reg.SDL_CTL v = true → getBits v 1 0 ≠ s.rd F.SDL_CTL_MODE → 
    Completes (.sdlModeWrite a v) s (fun t => t.resp = .done ∧ t.rd F.SDL_CTL_MODE = getBits v 1 0 ∧ t.rd F.SDL_STAT_STATE = 0)) ∧
  (∀ (s : State) (trim diff : Int) (flt : Bool), s.bedOn = true → 20000000 < trim.natAbs → 
    Completes (.driftCheck trim diff flt) s (fun t => t.rd F.SDL_STAT_DRIFT = 1)) ∧
  (∀ (s : State), s.bedOn = true → 
    Completes (.tcxoLoss) s (fun t => t.rd F.SDL_STAT_TCXOLOSS = 1)) ∧
  (∀ (s : State), s.bedOn = true → 
    Completes (.tcxoReturn) s (fun t => t.rd F.SDL_STAT_TCXOLOSS = 0)) ∧
  (∀ (s : State) (a : Agent) (n : Nat) (v : W32), n < 16 → s.accepts a 0x01 (0x108 + 0x10 * n) = true → listedAt (Reg.SDL_ALMnCTL n) (setBits v 0 0 1) = true → 
    Completes (.alarmArm a n v) s (fun t => t.resp = .done ∧
      (if s.now < s.alarmTime n then SMap.get (fun _ => (0, 0)) t.tim.alarms n = (s.alarmTime n, getBits v 7 4) ∧ t.rd (F.SDL_ALMnCTL_ARM n) = 1
      else t.irqs = s.irqs ++ [⟨s.destOf (getBits v 7 4), .alarm n⟩] ∧ t.rd (F.SDL_ALMnCTL_ARM n) = 0))) ∧
  (∀ (s : State) (a : Agent) (n : Nat) (v : W32), n < 16 → s.accepts a 0x01 (0x108 + 0x10 * n) = true → listedAt (Reg.SDL_ALMnCTL n) (setBits v 0 0 0) = true → 
    Completes (.alarmDisarm a n v) s (fun t => t.resp = .done ∧ t.rd (F.SDL_ALMnCTL_ARM n) = 0 ∧ t.irqs = s.irqs)) ∧
  (∀ (s : State) (n : Nat), s.bedOn = true → n < 16 → s.on (F.SDL_ALMnCTL_ARM n) = true → (SMap.get (fun _ => (0, 0)) s.tim.alarms n).1 ≤ s.now → 
    Completes (.alarmFire n) s (fun t => t.rd (F.SDL_ALMnCTL_ARM n) = 0 ∧ t.irqs = s.irqs ++ [⟨s.destOf (SMap.get (fun _ => (0, 0)) s.tim.alarms n).2, .alarm n⟩]))

/-- Each command of the ring block completes with its effect. An enabling write that R88 accepts starts the ring at entry 0 with phase 1; a disable returns it to IDLE; a submission doorbell moves the tail, a completion doorbell the consumer's index; the engine takes the descriptor at the head, reserving a slot; at the second reading a line that still mismatches halts the ring; an AT descriptor whose time has come starts. (R88, R89, R92, R93, R94, R98, R100, R103) -/
def Obligations.RingCommandsComplete : Prop :=
  (∀ (s : State) (a : Agent) (q : Nat) (v : W32), q < 112 → s.accepts a 0x06 (0x404 + 0x10 * q) = true → s.on (F.RNG_QnCFG_EN q) = false → listedAt (Reg.RNG_QnCFG q) (setBits v 31 31 1) = true → s.enableCause q (setBits v 31 31 1) = 0 → 
    Completes (.ringEnable a q v) s (fun t => t.resp = .done ∧ t.on (F.RNG_QnCFG_EN q) = true ∧ t.rd (F.RNG_QnCFG_LOG2N q) = getBits v 24 20 ∧ t.ringHead q = 0 ∧ t.rd (F.RNG_QnSTAT_PHASE q) = 1 ∧
      t.rd (F.RNG_QnSTAT_STATE q) = 1 ∧ (t.ring q).idx = 0 ∧ t.mem = s.mem ∧ t.irqs = s.irqs)) ∧
  (∀ (s : State) (a : Agent) (q : Nat), q < 112 → s.accepts a 0x06 (0x404 + 0x10 * q) = true → s.on (F.RNG_QnCFG_EN q) = true → listedAt (Reg.RNG_QnCFG q) (setBits (s.reg (Reg.RNG_QnCFG q)) 31 31 0) = true → 
    Completes (.ringDisable a q) s (fun t => t.resp = .done ∧ t.on (F.RNG_QnCFG_EN q) = false ∧ t.rd (F.RNG_QnSTAT_STATE q) = 0 ∧ (t.ring q).taken.all (fun d => d.running) = true ∧ t.mem = s.mem)) ∧
  (∀ (s : State) (a : Agent) (q : Nat) (v : W32), q < 112 → s.accepts a 0x06 (0x408 + 0x10 * q) = true → s.on (F.RNG_QnCFG_EN q) = true → s.on (F.RNG_QnCFG_KIND q) = false → getBits v 15 0 < s.ringSize q → 
    Completes (.submissionDoorbell a q v) s (fun t => t = s.done.setRing q { s.ring q with idx := getBits v 15 0 })) ∧
  (∀ (s : State) (a : Agent) (q : Nat) (v : W32), q < 112 → s.accepts a 0x06 (0x408 + 0x10 * q) = true → s.on (F.RNG_QnCFG_EN q) = true → s.on (F.RNG_QnCFG_KIND q) = true → getBits v 15 0 < s.ringSize q → (getBits v 15 0 + s.ringSize q - (s.ring q).idx) % s.ringSize q ≤ s.unconsumed q → 
    Completes (.completionDoorbell a q v) s (fun t => t.resp = .done ∧ (t.ring q).idx = getBits v 15 0 ∧ t.mem = s.mem ∧ t.irqs = s.irqs)) ∧
  (∀ (s : State) (q : Nat), q < 112 → s.takeReady q = true → (s.ring q).mismatch = none → s.mem.poisoned (s.ringAddr q (s.ringHead q)) 64 = false → linePhase (s.mem.readBytes (s.ringAddr q (s.ringHead q)) 64) = s.rd (F.RNG_QnSTAT_PHASE q) → headerOk (s.mem.readBytes (s.ringAddr q (s.ringHead q)) 64) = true → knownOp q (parseDesc 0 0 (s.mem.readBytes (s.ringAddr q (s.ringHead q)) 64)).op = true → (parseDesc 0 0 (s.mem.readBytes (s.ringAddr q (s.ringHead q)) 64)).fence = false → (parseDesc 0 0 (s.mem.readBytes (s.ringAddr q (s.ringHead q)) 64)).tmode ≠ 1 → 
    Completes (.descriptorTake q) s (fun t => (t.ring q).taken = (s.ring q).taken ++ [{ parseDesc (s.ringHead q) (Fin.ofNat 128 (s.cqOf q)) (s.mem.readBytes (s.ringAddr q (s.ringHead q)) 64) with started := s.now }] ∧
      (t.ring (s.cqOf q)).reserved = (s.ring (s.cqOf q)).reserved + 1 ∧ t.mem = s.mem ∧ t.irqs = s.irqs)) ∧
  (∀ (s : State) (q n : Nat), q < 112 → s.takeReady q = true → (s.ring q).mismatch = some n → n + 1000 ≤ s.now → s.mem.poisoned (s.ringAddr q (s.ringHead q)) 64 = false → linePhase (s.mem.readBytes (s.ringAddr q (s.ringHead q)) 64) ≠ s.rd (F.RNG_QnSTAT_PHASE q) → 
    Completes (.phaseRecheck q) s (fun t => t.rd (F.RNG_QnSTAT_STATE q) = 2 ∧ t.rd F.RNG_BADQ_CAUSE = 8 ∧ t.rd F.RNG_BADQ_Q = q ∧ (t.ring q).mismatch = none ∧ (t.ring q).taken = (s.ring q).taken)) ∧
  (∀ (s : State) (q : Nat) (d : Desc) (r : List Desc), s.engineOn q = true → (s.ring q).taken = d :: r → d.running = false → d.tmode = 1 → d.deadline ≤ s.now → 
    Completes (.atDeadlineStart q) s (fun t => (t.ring q).taken = { d with running := true, started := s.now, late := s.now - d.deadline } :: r ∧ t.mem = s.mem ∧ t.regs = s.regs))

/-- Each mailbox command completes with its effect. A write to any MBX_MnLO lands in the sender's staging word; a write to MBX_MnHI posts the staged notice with its sender and FULL, or is refused with the first cause that holds; the receiver's take empties the mailbox with LAST TAKEN; the sender's write clears the ABT bit and any other agent's leaves it. (R106, R107, R108, R110, R112) -/
def Obligations.MailboxCommandsComplete : Prop :=
  (∀ (s : State) (a : Agent) (m : Nat) (v : W32) (id : Nat), s.bedOn = true → agentMbx a = some id → SMap.get (fun _ => 0) s.hlt.lostRegs 0x07 < 5 → m < 64 → absentReg s.code 0x07 (0x100 + 0x10 * m) = false → 
    Completes (.mailboxStage a m v) s (fun t => t.resp = .done ∧ SMap.get (fun _ => 0) t.mbxStage id = v ∧ t.regs = s.regs ∧ t.mem = s.mem)) ∧
  (∀ (s : State) (a : Agent) (m : Nat) (v : W32) (id : Nat), s.bedOn = true → agentMbx a = some id → SMap.get (fun _ => 0) s.hlt.lostRegs 0x07 < 5 → m < 64 → absentReg s.code 0x07 (0x104 + 0x10 * m) = false → s.mbxReachable m = true → s.held.contains (m / 8) = false → s.mbxPtrOk m (getBits v 15 0 * 2 ^ 32 + (SMap.get (fun _ => 0) s.mbxStage id).toNat) (getBits v 27 16) = true → 
    Completes (.mailboxPost a m v) s (fun t => if s.on (F.MBX_MnSTAT_FULL m) = true then t.resp = .error ∧ t.rd F.MBX_STAT_CAUSE = 1 ∧ t.rd F.MBX_STAT_AGENT = id ∧ t.rd F.MBX_STAT_MBOX = m ∧ t.reg (Reg.MBX_MnHI m) = s.reg (Reg.MBX_MnHI m)
      else t.resp = .done ∧ t.reg (Reg.MBX_MnLO m) = SMap.get (fun _ => 0) s.mbxStage id ∧ t.reg (Reg.MBX_MnHI m) = v ∧ t.on (F.MBX_MnSTAT_FULL m) = true ∧
      t.rd (F.MBX_MnSTAT_SRC m) = id ∧ t.irqs = s.irqs ++ (if s.on (F.MBX_MnSTAT_IE m) = true then [⟨.agent (mbxAgent (m / 8)), .mboxPost m⟩] else []))) ∧
  (∀ (s : State) (a : Agent) (m : Nat) (v : W32) (id : Nat), s.bedOn = true → agentMbx a = some id → SMap.get (fun _ => 0) s.hlt.lostRegs 0x07 < 5 → m < 64 → m / 8 = id → absentReg s.code 0x07 (0x108 + 0x10 * m) = false → s.on (F.MBX_MnSTAT_FULL m) = true → 
    Completes (.mailboxTake a m v) s (fun t => t.resp = .done ∧ t.on (F.MBX_MnSTAT_FULL m) = false ∧ t.rd (F.MBX_MnSTAT_LAST m) = 1 ∧ t.rd (F.MBX_MnSTAT_IE m) = getBits v 30 30 ∧ t.mem = s.mem)) ∧
  (∀ (s : State) (a : Agent) (m : Nat) (id : Nat), s.bedOn = true → agentMbx a = some id → SMap.get (fun _ => 0) s.hlt.lostRegs 0x07 < 5 → m < 64 → absentReg s.code 0x07 (if m < 32 then 0x010 else 0x014) = false → 
    Completes (.mailboxAbtClear a m) s (fun t => t.resp = .done ∧ t.mapOn Reg.MBX_ABT_LO m = (if s.rd (F.MBX_MnSTAT_SRC m) = id then false else s.mapOn Reg.MBX_ABT_LO m) ∧ t.mem = s.mem ∧ t.irqs = s.irqs))

/-- Each channel and stream command of sensor ingest completes with its effect. A sample enters its stream's open frame with its stamp and flags; a flushed frame moves the write position; enabling a stream empties its frame and starts at position 0; a channel write that changes more than EMIN restarts the converter; a hit counts; a report carries the hits of its period (the periods start at the enabling write: the model's choice, log 27); an edge is stamped and a quadrature pair counts. (R116, R117, R119, R120, R122, R123, R124) -/
def Obligations.SensorChannelCommandsComplete : Prop :=
  (∀ (s : State) (n instant : Nat) (code : Int), s.bedOn = true → n < s.code.analogues → s.on (F.ING_ACHn_CFG_EN n) = true → instant % s.chanPeriod n = 0 → instant + 3 * s.chanPeriod n ≤ s.now → (s.chan n).restart ≤ instant → (s.chan n).last.all (fun l => decide (l < instant)) = true → s.on (F.ING_STRn_CFG_EN n) = true → (s.stream n).since ≤ instant → (s.stream n).buf.length < 97 → 
    Completes (.analogueSample n instant code) s (fun t => (t.stream n).buf = (s.stream n).buf ++ [⟨(instant + 7) / 8 * 8, s.now, (filterStep (s.rd (F.ING_ACHn_CFG_FILT n)) (s.rd (F.ING_ACHn_CFG_FPAR n)) (s.chan n) (convert (s.rd (F.ING_ACHn_CFG_RANGE n)) code).1).1,
      (convert (s.rd (F.ING_ACHn_CFG_RANGE n)) code).2, decide (instant < (s.chan n).settleEnd), s.chanDeg n, (s.stream n).gap⟩] ∧
      (t.chan n).last = some instant ∧ t.regs = s.regs ∧ t.mem = s.mem)) ∧
  (∀ (s : State) (n : Nat) (x : Samp) (r : List Samp), s.bedOn = true → n < 112 → s.on (F.ING_STRn_CFG_EN n) = true → (s.stream n).buf = x :: r → 0 < s.rd (F.ING_STRn_CFG_FLUSH n) → x.entered + s.rd (F.ING_STRn_CFG_FLUSH n) * 125000 ≤ s.now → 
    Completes (.frameFlushTimeout n) s (fun t => t.rd (F.ING_STRn_WPOS_WPOS n) = (s.rd (F.ING_STRn_WPOS_WPOS n) + 1) % 2 ^ 32 ∧ (t.stream n).buf = [])) ∧
  (∀ (s : State) (a : Agent) (n : Nat) (v : W32), n < 112 → s.accepts a 0x08 (0x400 + 4 * n) = true → listedAt (Reg.ING_STRn_CFG n) (setBits v 31 31 1) = true → s.on (F.ING_STRn_CFG_EN n) = false → getBits v 15 0 * 512 % (512 * 2 ^ getBits v 29 26) = 0 → getBits v 15 0 * 512 + 512 * 2 ^ getBits v 29 26 ≤ 0x2000000 → 
    Completes (.streamEnable a n v) s (fun t => t.resp = .done ∧ t.on (F.ING_STRn_CFG_EN n) = true ∧ t.rd (F.ING_STRn_CFG_LOG2F n) = getBits v 29 26 ∧ t.rd (F.ING_STRn_CFG_BASE n) = getBits v 15 0 ∧
      t.rd (F.ING_STRn_WPOS_WPOS n) = 0 ∧ t.stream n = ⟨[], (s.stream n).gap, s.now, false, (s.stream n).flight⟩ ∧ t.mem = s.mem)) ∧
  (∀ (s : State) (a : Agent) (n : Nat) (v : W32), n < 112 → s.accepts a 0x08 (0x400 + 4 * n) = true → listedAt (Reg.ING_STRn_CFG n) (setBits v 31 31 0) = true → 
    Completes (.streamDisable a n v) s (fun t => t.resp = .done ∧ t.on (F.ING_STRn_CFG_EN n) = false ∧ (s.on (F.ING_STRn_CFG_EN n) = true → (t.stream n).buf = []))) ∧
  (∀ (s : State) (a : Agent) (n : Nat) (v : W32), n < 48 → s.accepts a 0x08 (0x100 + 4 * n) = true → listedAt (Reg.ING_ACHn_CFG n) v = true → 
    Completes (.analogueCfgWrite a n v) s (fun t => t.resp = .done ∧ t.rd (F.ING_ACHn_CFG_EN n) = getBits v 31 31 ∧ t.rd (F.ING_ACHn_CFG_RATE n) = getBits v 23 21 ∧ t.rd (F.ING_ACHn_CFG_EMIN n) = getBits v 7 0 ∧
      (s.reg (Reg.ING_ACHn_CFG n) &&& 0xFFFF0000 ≠ v &&& 0xFFFF0000 → (t.chan n).restart = s.now ∧ (t.chan n).last = none) ∧
      (s.reg (Reg.ING_ACHn_CFG n) &&& 0xFFFF0000 = v &&& 0xFFFF0000 → t.ing = s.ing ∧ t.mem = s.mem))) ∧
  (∀ (s : State) (n : Nat) (re : Bool), s.bedOn = true → n < s.code.acousticChannels → s.on (F.ING_ACCn_CFG_EN n) = true → (s.acoustic n).last.all (fun x => re && decide (x + s.rd (F.ING_ACCn_CFG_DEAD n) * 10000 ≤ s.now)) = true → 
    Completes (.acousticHit n re) s (fun t => t.acoustic n = ⟨s.now :: (s.acoustic n).hits, some s.now, (s.acoustic n).since⟩ ∧ t.rd (F.ING_HITn_HITS n) = min (s.rd (F.ING_HITn_HITS n) + 1) 0xFFFFFFFF ∧ t.mem = s.mem ∧ t.irqs = s.irqs)) ∧
  (∀ (s : State) (n fin : Nat), s.bedOn = true → n < s.code.acousticChannels → s.on (F.ING_ACCn_CFG_EN n) = true → fin = (s.acoustic n).since + 1000000 * 2 ^ s.rd (F.ING_ACCn_CFG_RPT n) → fin ≤ s.now → s.on (F.ING_STRn_CFG_EN (48 + n)) = true → (s.stream (48 + n)).since ≤ fin → (s.stream (48 + n)).buf.length < 97 → 
    Completes (.acousticReport n) s (fun t => (t.acoustic n).hits = (s.acoustic n).hits.filter (fun x => decide (fin ≤ x)) ∧ (t.acoustic n).since = fin ∧ t.regs = s.regs ∧ t.mem = s.mem ∧
      (t.stream (48 + n)).buf = (s.stream (48 + n)).buf ++
      [⟨fin, s.now, Frac.ofInt ((s.acoustic n).hits.filter (fun x => decide (x < fin))).length, false, false, false, (s.stream (48 + n)).gap⟩])) ∧
  (∀ (s : State) (n : Nat) (x : Int), s.bedOn = true → n < s.code.acousticChannels → s.on (F.ING_ACCn_CFG_EN n) = true → s.on (F.ING_ACCn_CFG_RAW n) = true → s.on (F.ING_STRn_CFG_EN (56 + n)) = true → (s.stream (56 + n)).since ≤ s.now → (s.stream (56 + n)).buf.length < 97 → 
    Completes (.acousticRawSample n x) s (fun t => t.regs = s.regs ∧ t.mem = s.mem ∧
      (t.stream (56 + n)).buf = (s.stream (56 + n)).buf ++ [⟨s.now, s.now, ⟨x, 2 ^ 35⟩, false, false, false, (s.stream (56 + n)).gap⟩])) ∧
  (∀ (s : State) (n : Nat) (step : Int), s.bedOn = true → n < s.code.freqInputs → s.on (F.ING_FQn_CFG_EN n) = true ∨ s.freqSecond n = true → 
    Completes (.freqEdge n step) s (fun t => (t.freq n).edges = (s.now :: (s.freq n).edges).take 256 ∧ t.regs = s.regs ∧ t.mem = s.mem ∧
      (s.freqSecond n = true → s.rd (F.ING_FQn_CFG_MODE (n - 1)) = 2 → step = 1 ∨ step = -1 → (t.freq (n - 1)).count = (s.freq (n - 1)).count + step))) ∧
  (∀ (s : State) (n : Nat), s.bedOn = true → n < s.code.freqInputs → s.on (F.ING_FQn_CFG_EN n) = true → s.freqSecond n = false → s.on (F.ING_STRn_CFG_EN (64 + n)) = true → (s.stream (64 + n)).since ≤ s.now → (s.stream (64 + n)).buf.length < 97 → 
    Completes (.freqOutputSample n) s (fun t => t.regs = s.regs ∧ t.mem = s.mem ∧ t.free = s.free + (if (s.freqValue n).isSome = true then 0 else 1) ∧
      (t.stream (64 + n)).buf.length = (s.stream (64 + n)).buf.length + 1 ∧
      ((s.freqValue n).isSome = true → ((t.stream (64 + n)).buf.getLast?.map (fun x => (x.v, x.sat, x.t))) = (s.freqValue n).map (fun p => (p.1, p.2, s.now)))))

/-- Each sensor supply, reference and capture command completes with its effect. A faulted supply switches off, shows its fault and sets SUPFLT; a retry switches it on again; the current shows in MA; a check writes the three deviations and DRIFT, and the second deviating check in a row moves the channels off the reference the bandgap outvotes; REFCHECK measures without voting; CAPTURE starts. (R118, R125, R127, R128, R136) -/
def Obligations.SupplyAndReferenceCommandsComplete : Prop :=
  (∀ (s : State) (n : Nat), s.bedOn = true → n < s.code.supplies → s.on (F.ING_SUPn_STAT_ON n) = true → 
    Completes (.supplyOvercurrent n) s (fun t => t.on (F.ING_SUPn_STAT_ON n) = false ∧ t.rd (F.ING_SUPn_STAT_FAULT n) = 1 ∧ t.rd F.ING_STAT_SUPFLT = 1)) ∧
  (∀ (s : State) (n : Nat), s.bedOn = true → n < s.code.supplies → s.on (F.ING_SUPn_STAT_ON n) = true → 
    Completes (.supplyBackfeed n) s (fun t => t.on (F.ING_SUPn_STAT_ON n) = false ∧ t.rd (F.ING_SUPn_STAT_FAULT n) = 2 ∧ t.rd F.ING_STAT_SUPFLT = 1)) ∧
  (∀ (s : State) (n : Nat), s.bedOn = true → n < s.code.supplies → s.on (F.ING_SUPn_CFG_EN n) = true → s.on (F.ING_SUPn_CFG_RETRY n) = true → s.rd (F.ING_SUPn_STAT_FAULT n) ≠ 0 → SMap.get (fun _ => 0) s.ing.supOff n + 1000000000 ≤ s.now → 
    Completes (.supplyRetry n) s (fun t => t.on (F.ING_SUPn_STAT_ON n) = true ∧ t.rd (F.ING_SUPn_STAT_FAULT n) = 0 ∧ t.mem = s.mem ∧ t.irqs = s.irqs)) ∧
  (∀ (s : State) (n ma : Nat), s.bedOn = true → n < s.code.supplies → 
    Completes (.supplyCurrentSample n ma) s (fun t => t.rd (F.ING_SUPn_STAT_MA n) = min ma 0xFFFF)) ∧
  (∀ (s : State) (ab a b : Int), s.bedOn = true → 
    Completes (.referenceCheck ab a b) s (fun t => t.rd F.ING_REFDEV_AB_DEV = toPattern 16 ab ∧ t.rd F.ING_REFDEV_A_DEV = toPattern 16 a ∧ t.rd F.ING_REFDEV_B_DEV = toPattern 16 b ∧
      t.rd F.ING_REFSTAT_DRIFT = (if 50 < ab.natAbs then 1 else 0) ∧
      (s.on F.ING_REFSTAT_AOUT = false → s.on F.ING_REFSTAT_BOUT = false → 200 < ab.natAbs → s.ing.devRun = 1 → a.natAbs ≤ 100 → 100 < b.natAbs →
      t.on F.ING_REFSTAT_BOUT = true ∧ t.rd F.ING_STAT_REFMOVE = 1))) ∧
  (∀ (s : State) (q : Nat) (ab a b : Int) (d : Desc), q < 8 → s.running q 2 = some d → 
    Completes (.refcheck q ab a b) s (fun t => t.rd F.ING_REFDEV_AB_DEV = toPattern 16 ab ∧ t.rd F.ING_REFDEV_A_DEV = toPattern 16 a ∧ t.rd F.ING_REFDEV_B_DEV = toPattern 16 b ∧
      t.rd F.ING_REFSTAT_AOUT = s.rd F.ING_REFSTAT_AOUT ∧ t.rd F.ING_REFSTAT_BOUT = s.rd F.ING_REFSTAT_BOUT ∧ t.ing.devRun = s.ing.devRun)) ∧
  (∀ (s : State) (q : Nat) (d : Desc), q < 8 → (s.ring q).taken = [d] → d.running = true → d.op = 1 → s.ing.captures = [] → d.le 16 1 < 112 → 0 < d.le 20 4 → d.le 20 4 ≤ 2 ^ 20 → d.le 24 8 % 512 = 0 → s.on (F.ING_STRn_CFG_EN (d.le 16 1)) = true → inBedRange (d.le 24 8) 512 = true ∨ inDramRange s.code (d.le 24 8) 512 = true → 
    Completes (.capture q) s (fun t => t.ing.captures = [⟨q, d, d.le 16 1, d.le 24 8, d.le 20 4, 0, 0, none, d.started⟩] ∧ t.mem = s.mem ∧ t.regs = s.regs))

/-- Each camera link command completes with its effect. An accepted enable starts training and a disable goes OFF; a training timeout counts, a lock enters LOCKED with the serialiser's ID, a lost lock enters LOST and closes the frame; a frame sync is sent; power over coax trips and is retried; a frame start opens a numbered frame or, too early, is skipped; a line of the link's virtual channel and data type is placed and judged, any other discarded; timeouts close the frame or tell the stall. (R140, R141, R142, R144, R145, R147) -/
def Obligations.CameraLinkCommandsComplete : Prop :=
  (∀ (s : State) (a : Agent) (n : Nat) (v : W32), n < 12 → s.accepts a 0x17 (0x100 + 0x40 * n) = true → listedAt (Reg.CAM_LNKn_CTL n) (setBits v 31 31 1) = true → s.on (F.CAM_LNKn_CTL_EN n) = false → (s.applyWrite (Reg.CAM_LNKn_CTL n) (setBits (setBits v 31 31 1) 31 31 0)).linkCause n = 0 → 
    Completes (.linkEnable a n v) s (fun t => t.resp = .done ∧ t.on (F.CAM_LNKn_CTL_EN n) = true ∧ t.linkState n = 1 ∧ t.mapOn Reg.CAM_LINKUP n = false ∧ (t.link n).frame = none ∧ (t.link n).trainStart = s.now ∧ t.mem = s.mem)) ∧
  (∀ (s : State) (a : Agent) (n : Nat) (v : W32), n < 12 → s.accepts a 0x17 (0x100 + 0x40 * n) = true → listedAt (Reg.CAM_LNKn_CTL n) (setBits v 31 31 0) = true → s.on (F.CAM_LNKn_CTL_EN n) = true → s.reg (Reg.CAM_LNKn_CTL n) &&& 0x7FFFFFC0 = setBits v 31 31 0 &&& 0x7FFFFFC0 → 
    Completes (.linkDisable a n v) s (fun t => t.resp = .done ∧ t.on (F.CAM_LNKn_CTL_EN n) = false ∧ t.mem = s.mem ∧
      (s.on (F.CAM_LNKn_CTL_EN n) = true → t.linkState n = 0 ∧ (t.link n).frame = none ∧ t.rd (F.CAM_LNKn_INFO_REMID n) = 0))) ∧
  (∀ (s : State) (n : Nat), s.linkOk n = true → s.linkState n = 1 → (s.link n).trainStart + 100000000 ≤ s.now → 
    Completes (.linkTrainTimeout n) s (fun t => t.rd (F.CAM_LNKn_STAT_TRAINRETRY n) = satAdd (F.CAM_LNKn_STAT_TRAINRETRY n).width (s.rd (F.CAM_LNKn_STAT_TRAINRETRY n)) 1 ∧ (t.link n).fails = (s.link n).fails + 1 ∧ t.linkState n = 1)) ∧
  (∀ (s : State) (n id : Nat), s.linkOk n = true → s.linkState n = 1 ∨ s.linkState n = 4 → 
    Completes (.linkLock n id) s (fun t => t.linkState n = 2 ∧ (s.linkState n = 1 → t.rd (F.CAM_LNKn_INFO_REMID n) = id % 2 ^ (F.CAM_LNKn_INFO_REMID n).width))) ∧
  (∀ (s : State) (n : Nat), s.linkOk n = true → s.linkState n = 3 → 
    Completes (.linkLockLost n) s (fun t => t.linkState n = 4 ∧ (t.link n).frame = none ∧ t.mapOn Reg.CAM_LINKUP n = false)) ∧
  (∀ (s : State) (n : Nat), s.linkOk n = true → s.on (F.CAM_LNKn_CTL_EN n) = true → s.on (F.CAM_LNKn_TIME_SYNC n) = true → 0 < s.framePeriod n → s.now % s.framePeriod n = getBits ((s.link n).inForce.getD 3 0) 31 16 * 1000 → 
    Completes (.frameSyncSend n) s (fun t => (t.link n).lastSync = some s.now ∧ t.regs = s.regs ∧ t.mem = s.mem ∧ t.irqs = s.irqs)) ∧
  (∀ (s : State) (n : Nat), s.linkOk n = true → s.on (F.CAM_LNKn_CTL_EN n) = true → s.on (F.CAM_LNKn_CTL_POC n) = true → s.on (F.CAM_LNKn_STAT_POCFLT n) = false → 
    Completes (.pocOvercurrent n) s (fun t => t.on (F.CAM_LNKn_STAT_POCFLT n) = true ∧ (t.link n).pocOff = s.now)) ∧
  (∀ (s : State) (n : Nat), s.linkOk n = true → s.on (F.CAM_LNKn_CTL_POC n) = true → s.on (F.CAM_LNKn_STAT_POCFLT n) = true → (s.link n).pocOff + 1000000000 ≤ s.now → 
    Completes (.pocRetry n) s (fun t => t = s.wr (F.CAM_LNKn_STAT_POCFLT n) 0)) ∧
  (∀ (s : State) (n served : Nat), s.linkOk n = true → s.linkState n = 2 ∨ s.linkState n = 3 → s.nextLine = none → (s.link n).buffer = [] → 
    Completes (.frameStart n served) s (fun t => t.linkState n = 3 ∧
      ((s.link n).lastStart.any (fun x => decide (10 * (s.now - x) < 9 * s.framePeriod n)) = false → t.rd (F.CAM_LNKn_FSEQ_FSEQ n) = (s.rd (F.CAM_LNKn_FSEQ_FSEQ n) + 1) % 2 ^ 32 ∧
      (t.link n).frame.map (fun f => (f.fseq, f.tfs, f.lines)) = some ((s.rd (F.CAM_LNKn_FSEQ_FSEQ n) + 1) % 2 ^ 32, s.now, 0)) ∧
      ((s.link n).lastStart.any (fun x => decide (10 * (s.now - x) < 9 * s.framePeriod n)) = true →
      t.rd (F.CAM_LNKn_FSEQ_FSEQ n) = s.rd (F.CAM_LNKn_FSEQ_FSEQ n) ∧ (t.link n).mode = .skipped ∧ (t.link n).frame = none))) ∧
  (∀ (s : State) (n : Nat) (px : CamLine) (crc : Bool) (served : Nat), s.linkOk n = true → s.linkState n = 2 ∨ s.linkState n = 3 → s.nextLine = none → (s.link n).buffer = [] → px.px ≠ [] → s.linkTakes n px = true → (s.link n).frame = none → 
    Completes (.lineArrival n px crc false false served) s (fun t => (s.link n).mode = .orphan → t.rd (F.CAM_LNKn_ORPHAN_CNT n) = satAdd (F.CAM_LNKn_ORPHAN_CNT n).width (s.rd (F.CAM_LNKn_ORPHAN_CNT n)) 1)) ∧
  (∀ (s : State) (n : Nat) (px : CamLine) (crc : Bool) (served : Nat) (f : CamFrame), s.linkOk n = true → s.linkState n = 2 ∨ s.linkState n = 3 → s.nextLine = none → (s.link n).buffer = [] → px.px ≠ [] → s.linkTakes n px = true → (s.link n).frame = some f → f.lines < s.rd (F.CAM_LNKn_GEOM_ACTH n) → 
    Completes (.lineArrival n px crc false false served) s (fun t => (t.link n).buffer = [s.now] ∧ (t.link n).frame.map (fun g => (g.lines, g.lastLine, g.raw)) = some (f.lines + 1, s.now, f.raw ++ [s.placedLine n px.px crc]) ∧
      (t.link n).frame.map (fun g => (g.nbad, g.nshort, g.nlong)) = some (f.nbad + (if crc = true then 1 else 0),
      f.nshort + (if crc = false ∧ px.px.length < s.rd (F.CAM_LNKn_GEOM_ACTW n) then 1 else 0), f.nlong + (if crc = false ∧ s.rd (F.CAM_LNKn_GEOM_ACTW n) < px.px.length then 1 else 0)))) ∧
  (∀ (s : State) (n : Nat) (px : CamLine) (crc : Bool) (served : Nat) (f : CamFrame), s.linkOk n = true → s.linkState n = 2 ∨ s.linkState n = 3 → s.nextLine = none → (s.link n).buffer = [] → px.px ≠ [] → s.linkTakes n px = true → (s.link n).frame = some f → s.rd (F.CAM_LNKn_GEOM_ACTH n) ≤ f.lines → 
    Completes (.lineArrival n px crc false false served) s (fun t => (t.link n).frame.map (fun g => (g.lines, g.lastLine)) = some (f.lines, s.now))) ∧
  (∀ (s : State) (n : Nat) (px : CamLine) (crc : Bool) (served : Nat), s.linkOk n = true → s.linkState n = 2 ∨ s.linkState n = 3 → s.nextLine = none → s.linkTakes n px = false → 
    Completes (.lineArrival n px crc false false served) s (fun t => t = s)) ∧
  (∀ (s : State) (n : Nat) (f : CamFrame), s.linkOk n = true → (s.link n).frame = some f → f.lastLine + s.rd (F.CAM_LNKn_TIME_LINETMO n) * 1000 ≤ s.now → 
    Completes (.lineTimeout n) s (fun t => (t.link n).frame = none ∧ (t.link n).mode = .orphan ∧ (t.link n).closed.length = (s.link n).closed.length + 1 ∧ t.regs = s.regs)) ∧
  (∀ (s : State) (n : Nat), s.linkOk n = true → s.linkState n = 3 → (s.link n).stalled = false → (s.link n).lastFs + s.rd (F.CAM_LNKn_TIME_FRMTMO n) * 1000000 ≤ s.now → 
    Completes (.frameStall n) s (fun t => (t.link n).stalled = true ∧ t.linkState n = 3))

/-- Each pipeline, encoder and camera descriptor command completes with its effect. A closed frame is processed and leaves the queue; a picture is coded into the bitstream buffer where it fits, and dropped with an IDR owed where it does not; the read position moves only over bytes in use; a table is loaded; a camera control transaction answers; an export copies its rows or finds no frame; a session restarts or codes the next picture as IDR. (R151, R154, R155, R156, R159, R160) -/
def Obligations.CameraPipelineCommandsComplete : Prop :=
  (∀ (s : State) (n : Nat) (f : CamFrame) (r : List CamFrame), s.linkOk n = true → (s.link n).closed = f :: r → 
    Completes (.frameProcessed n) s (fun t => (t.link n).closed = r ∧ (t.link n).prevSeq = some f.fseq ∧ t.linkState n = s.linkState n)) ∧
  (∀ (s : State) (n len qp : Nat) (p : Picture) (r : List Picture), s.engineUp 2 = true → n < 24 → (s.session n).pend = p :: r → (s.session n).stopping = false → s.rd F.CAM_BSWPOS_POS % 2 ^ s.rd F.CAM_BSCFG_BSLOG2 + len ≤ 2 ^ s.rd F.CAM_BSCFG_BSLOG2 → 
    Completes (.pictureEncode n len qp) s (fun t => (t.session n).pend = r ∧ (if s.bsUsed + len ≤ 2 ^ s.rd F.CAM_BSCFG_BSLOG2 then
      t.rd F.CAM_BSWPOS_POS = (s.rd F.CAM_BSWPOS_POS + len) % 2 ^ 32 ∧ (t.session n).idr = false ∧ t.rd F.CAM_AUDROP_CNT = s.rd F.CAM_AUDROP_CNT
      else t.rd F.CAM_BSWPOS_POS = s.rd F.CAM_BSWPOS_POS ∧ (t.session n).idr = true ∧ t.rd F.CAM_STAT_BSFULL = 1))) ∧
  (∀ (s : State) (a : Agent) (v : W32), s.accepts a 0x17 0x7F4 = true → 
    Completes (.bsrposWrite a v) s (fun t => t = if s.bsUsed < (v.toNat + 2 ^ 32 - s.rd F.CAM_BSRPOS_POS) % 2 ^ 32 then s.done else s.done.setReg Reg.CAM_BSRPOS v)) ∧
  (∀ (s : State) (d : Desc), s.running 92 1 = some d → d.le 16 1 < s.code.cameras → d.le 17 1 ≤ 2 → d.le 24 8 % 64 = 0 → inDramRange s.code (d.le 24 8) (tableBytes (d.le 17 1)) = true → s.mem.poisoned (d.le 24 8) (tableBytes (d.le 17 1)) = false → 
    Completes (.loadtab 92) s (fun t => SMap.get (fun _ => []) (t.link (d.le 16 1)).shadow (d.le 17 1) = s.mem.readBytes (d.le 24 8) (tableBytes (d.le 17 1)) ∧
      (t.link (d.le 16 1)).loaded.contains (d.le 17 1) = true ∧ (t.link (d.le 16 1)).active = (s.link (d.le 16 1)).active)) ∧
  (∀ (s : State) (ack : Bool) (data : Nat) (d : Desc), s.running 92 2 = some d → d.le 16 1 < s.code.cameras → d.le 17 1 < 128 → 0 < d.le 19 1 → d.le 19 1 ≤ 8 → s.linkState (d.le 16 1) = 2 ∨ s.linkState (d.le 16 1) = 3 → 
    Completes (.cci 92 ack data) s (fun t => t = (s.setLink (d.le 16 1) { s.link (d.le 16 1) with sent := [d.le 17 1, d.le 18 1 % 4, d.le 19 1, d.le 20 2, if bitAt (d.le 18 1) 0 then 0 else d.le 24 (d.le 19 1)] }).complete 92 d (if ack = false then { status := 0x42 } else if bitAt (d.le 18 1) 0 = true then { bytes := resultOf [(24, 8, data % 2 ^ (8 * d.le 19 1))] } else {}))) ∧
  (∀ (s : State) (q : Nat) (d : Desc), q = 92 ∨ q = 98 → s.running q 0x10 = some d → d.le 16 1 < s.code.cameras → d.le 17 1 ≤ 2 → d.le 28 4 % 64 = 0 → d.le 32 8 % 64 = 0 → d.le 20 2 + d.le 24 2 ≤ (s.outSize (d.le 16 1) (d.le 17 1)).1 → d.le 22 2 + d.le 26 2 ≤ (s.outSize (d.le 16 1) (d.le 17 1)).2 → d.le 17 1 = 1 → d.le 20 2 % 2 = 0 ∧ d.le 22 2 % 2 = 0 ∧ d.le 24 2 % 2 = 0 ∧ d.le 26 2 % 2 = 0 → s.newestSlot (d.le 16 1) (d.le 17 1) (d.le 40 8) = none → 
    Completes (.camExport q) s (fun t => t = s.complete q d { status := 0x40 })) ∧
  (∀ (s : State) (q : Nat) (d : Desc) (k : Nat), q = 92 ∨ q = 98 → s.running q 0x10 = some d → d.le 16 1 < s.code.cameras → d.le 17 1 ≤ 2 → d.le 28 4 % 64 = 0 → d.le 32 8 % 64 = 0 → d.le 20 2 + d.le 24 2 ≤ (s.outSize (d.le 16 1) (d.le 17 1)).1 → d.le 22 2 + d.le 26 2 ≤ (s.outSize (d.le 16 1) (d.le 17 1)).2 → d.le 17 1 = 1 → d.le 20 2 % 2 = 0 ∧ d.le 22 2 % 2 = 0 ∧ d.le 24 2 % 2 = 0 ∧ d.le 26 2 % 2 = 0 → s.newestSlot (d.le 16 1) (d.le 17 1) (d.le 40 8) = some k → inDramRange s.code (d.le 32 8) (3 * d.le 26 2 * d.le 28 4 + 16384) = true → s.mem.poison = [] → 
    Completes (.camExport q) s (fun t => let o := d.le 17 1
      let rows := exportRows ((s.outPlanes (d.le 16 1) o).zipIdx.map (fun p =>
      (s.slotAddr (d.le 16 1) o k + p.1.1 + (if o = 1 ∧ p.2 = 1 then d.le 22 2 / 2 else d.le 22 2) * s.outStride (d.le 16 1) o + rowBytes o (d.le 20 2),
      (if o = 1 ∧ p.2 = 1 then d.le 26 2 / 2 else d.le 26 2), s.outStride (d.le 16 1) o, rowBytes o (d.le 24 2)))) (d.le 32 8) (d.le 28 4)
      t = (rows.foldl (fun v r => v.copyRow r.1 r.2 (rowBytes o (d.le 24 2))) s).complete q d
      { bytes := resultOf [(24, 4, (s.slotInfo (slotKey (d.le 16 1) o k)).fseq), (28, 8, (s.slotInfo (slotKey (d.le 16 1) o k)).tfs), (36, 4, rows.length * rowBytes o (d.le 24 2))] })) ∧
  (∀ (s : State) (a : Agent) (n : Nat), n < 24 → s.accepts a 0x17 (0x81C + 0x20 * n) = true → 
    Completes (.encRestart a n) s (fun t => t = s.done.setSession n { s.session n with idr := true, sinceIdr := 0, seen := 0 })) ∧
  (∀ (s : State) (a : Agent) (n : Nat), n < 24 → s.accepts a 0x17 (0x81C + 0x20 * n) = true → 
    Completes (.encForceidr a n) s (fun t => t = s.done.setSession n { s.session n with idr := true }))

/-- Each grid, network and sensor command of Prairie completes with its effect. A due cycle starts at its time with the network's number, or is skipped and counted while the last has not published; in PACED mode a sync instant is used once; a frame is offered to stage 1 and its run makes it ready; a published grid takes the next number; a network is loaded, activated and withdrawn; a calibration is loaded, read and frozen; a sensor is excluded and reinstated. (R168, R173, R177, R179, R181, R182, R186, R189, R190) -/
def Obligations.GridCommandsComplete : Prop :=
  (∀ (s : State) (sync : Nat) (lidars : List (Nat × Nat)) (net : Net), s.gridRuns = true → (s.pra.next.map (fun x => x.1)).or s.pra.net = some net → s.on F.PRA_GCTL_MODE = false → s.now % (s.rd F.PRA_GPERIOD_PERIOD * 1000000) = s.rd F.PRA_GOFF_GOFF * 1000 → s.pra.cycle = none → 
    Completes (.gridCycleStart sync lidars) s (fun t => t.pra.cycle.map (fun c => (c.tg, c.net, c.nskip)) = some (s.now, net, s.pra.skipped) ∧ t.pra.skipped = 0 ∧ t.pra.net = some net ∧ t.pra.next = none)) ∧
  (∀ (s : State) (sync : Nat) (lidars : List (Nat × Nat)) (c : GridCycle), s.gridRuns = true → s.on F.PRA_GCTL_MODE = false → s.now % (s.rd F.PRA_GPERIOD_PERIOD * 1000000) = s.rd F.PRA_GOFF_GOFF * 1000 → s.pra.cycle = some c → 
    Completes (.gridCycleStart sync lidars) s (fun t => t.pra.cycle = some c ∧ t.pra.skipped = s.pra.skipped + 1 ∧ t.rd F.PRA_STAT_SKIP = 1 ∧ t.mem = s.mem)) ∧
  (∀ (s : State) (sync : Nat) (lidars : List (Nat × Nat)) (net : Net), s.gridRuns = true → (s.pra.next.map (fun x => x.1)).or s.pra.net = some net → s.on F.PRA_GCTL_MODE = true → s.syncDue sync = true → s.pacersReady sync = true → 
    Completes (.gridCycleStart sync lidars) s (fun t => t.pra.lastSync = some sync ∧ (s.pra.cycle = none → t.pra.cycle.map (fun c => (c.tg, c.net, bitAt c.flags 1)) = some (s.now, net, false)) ∧
      (s.pra.cycle.isSome = true → t.pra.cycle = s.pra.cycle ∧ t.pra.skipped = s.pra.skipped + 1))) ∧
  (∀ (s : State) (sync : Nat) (lidars : List (Nat × Nat)) (net : Net), s.gridRuns = true → (s.pra.next.map (fun x => x.1)).or s.pra.net = some net → s.on F.PRA_GCTL_MODE = true → s.syncDue sync = true → s.pacersReady sync = false → sync + s.rd F.PRA_GCTL_PTMO * 1000000 ≤ s.now → 
    Completes (.paceTimeout sync lidars) s (fun t => t.pra.lastSync = some sync ∧ (s.pra.cycle = none → t.pra.cycle.map (fun c => (c.tg, bitAt c.flags 1)) = some (s.now, true)) ∧
      (s.pra.cycle.isSome = true → t.pra.cycle = s.pra.cycle ∧ t.pra.skipped = s.pra.skipped + 1))) ∧
  (∀ (s : State) (n slot tend : Nat) (net : Net), bitAt (s.slotInfo (slotKey n 2 slot)).flags 2 = false ∧ bitAt (s.slotInfo (slotKey n 2 slot)).flags 4 = false ∧ bitAt (s.slotInfo (slotKey n 2 slot)).flags 9 = false → s.outSize n 2 = (net.mw, net.mh) → s.rd (F.CAM_LNKn_CTL_MVFMT n) = net.mvfmt → s.pra.run.isSome = true → s.pra.net = some net → s.engineUp 0 = true → n < s.code.cameras → s.on (F.PRA_SENSn_CTL_EN n) = true → (s.slotInfo (slotKey n 2 slot)).order ≠ 0 → 
    Completes (.stage1Run n slot tend []) s (fun t => (t.sensor n).pend.map (fun f => (f.fseq, f.tfs, f.tend, f.slot)) = some ((s.slotInfo (slotKey n 2 slot)).fseq, (s.slotInfo (slotKey n 2 slot)).tfs, tend, slot) ∧
      (t.sensor n).mismatch = false ∧ t.pra.run = s.pra.run ∧ t.cam.holds.contains (slotKey n 2 slot) = true ∧ t.mem = s.mem)) ∧
  (∀ (s : State) (n slot tend : Nat) (net : Net), bitAt (s.slotInfo (slotKey n 2 slot)).flags 2 = false ∧ bitAt (s.slotInfo (slotKey n 2 slot)).flags 4 = false ∧ bitAt (s.slotInfo (slotKey n 2 slot)).flags 9 = false → s.outSize n 2 = (net.mw, net.mh) → s.rd (F.CAM_LNKn_CTL_MVFMT n) = net.mvfmt → s.pra.run = none → (List.range 12).all (fun k => decide (k = n) || (s.sensor k).pend.isNone) = true → s.pra.net = some net → s.engineUp 0 = true → n < s.code.cameras → s.on (F.PRA_SENSn_CTL_EN n) = true → (s.slotInfo (slotKey n 2 slot)).order ≠ 0 → 
    Completes (.stage1Run n slot tend []) s (fun t => t.pra.run.map (fun r => (r.1, r.2.fseq, r.2.tfs, r.2.tend, r.2.slot)) = some (n, (s.slotInfo (slotKey n 2 slot)).fseq, (s.slotInfo (slotKey n 2 slot)).tfs, tend, slot) ∧
      (t.sensor n).pend = none ∧ t.cam.holds.contains (slotKey n 2 slot) = true ∧ t.mem = s.mem)) ∧
  (∀ (s : State) (n slot tend us m : Nat) (net : Net) (g : VisionFrame), s.pra.run = some (m, g) → s.pra.net = some net → s.engineUp 0 = true → n < s.code.cameras → s.on (F.PRA_SENSn_CTL_EN n) = true → (s.slotInfo (slotKey n 2 slot)).order ≠ 0 → 
    Completes (.stage1Run n slot tend [us]) s (fun t => (t.sensor m).ready.map (fun f => (f.fseq, f.tfs, f.tend, f.slot)) = some (g.fseq, g.tfs, g.tend, g.slot) ∧ t.rd (F.PRA_SENSn_LASTSEQ_SEQ m) = g.fseq % 2 ^ (F.PRA_SENSn_LASTSEQ_SEQ 0).width ∧
      t.rd (F.PRA_SENSn_EXTIME_LAST m) = min us (2 ^ (F.PRA_SENSn_EXTIME_LAST 0).width - 1))) ∧
  (∀ (s : State) (n slot tend : Nat) (net : Net), bitAt (s.slotInfo (slotKey n 2 slot)).flags 2 = true ∨ bitAt (s.slotInfo (slotKey n 2 slot)).flags 4 = true ∨ bitAt (s.slotInfo (slotKey n 2 slot)).flags 9 = true → s.pra.net = some net → s.engineUp 0 = true → n < s.code.cameras → s.on (F.PRA_SENSn_CTL_EN n) = true → (s.slotInfo (slotKey n 2 slot)).order ≠ 0 → 
    Completes (.stage1Run n slot tend []) s (fun t => t.rd (F.PRA_SENSn_DROPF_CNT n) = satAdd (F.PRA_SENSn_DROPF_CNT 0).width (s.rd (F.PRA_SENSn_DROPF_CNT n)) 1 ∧ t.mem = s.mem)) ∧
  (∀ (s : State) (values : List (Nat × Nat)) (sens : List SensOut) (c : GridCycle), s.pra.cycle = some c → s.engineUp 0 = true → 
    Completes (.gridPublish values sens) s (fun t => t.pra.cycle = none ∧ t.pra.grids = s.pra.grids + 1 ∧ t.rd F.PRA_GSEQ_GSEQ = s.pra.grids % 2 ^ 32 ∧ t.pra.lastTg = some c.tg ∧ t.pra.cells = s.cellWords c ∧
      t.pra.restart = false ∧ t.pra.grid.map (fun g => (g.gseq, g.tg, g.tpub, g.pose)) = some (s.pra.grids % 2 ^ 32, c.tg, s.now, c.pose))) ∧
  (∀ (s : State) (fit : Bool) (d : Desc), s.running 100 1 = some d → (dropDesc d (s.ring 100).taken).find? (fun x => x.running && decide (x.op = 1)) = none → d.le 24 8 % 4096 = 0 → inDramRange s.code (d.le 24 8) (max (d.le 32 8) 256) = true → 
    Completes (.netload 100 true fit) s (fun t => if s.netStatus (d.le 24 8) (d.le 32 8) false fit = 0 then t.pra.loaded = some (s.netOf (d.le 24 8) (d.le 32 8)) ∧ t.rd F.PRA_NETSTAT_STATE = 2
      else t = (s.showNet).complete 100 d { status := s.netStatus (d.le 24 8) (d.le 32 8) false fit })) ∧
  (∀ (s : State) (fit : Bool) (d : Desc), s.running 100 1 = some d → (dropDesc d (s.ring 100).taken).find? (fun x => x.running && decide (x.op = 1)) = none → 
    Completes (.netload 100 false fit) s (fun t => t = s.wr F.PRA_NETSTAT_STATE 1)) ∧
  (∀ (s : State) (res : Bool) (d : Desc), s.running 100 2 = some d → d.le 16 1 = 0 → 
    Completes (.netact 100 res) s (fun t => t.pra.net = none ∧ t.on F.PRA_GCTL_EN = false ∧ t.reg Reg.PRA_NETID = 0 ∧ t.rd F.PRA_NETSTAT_STATE = if s.pra.loaded.isSome = true then 2 else 0)) ∧
  (∀ (s : State) (res : Bool) (d : Desc), s.running 100 2 = some d → d.le 16 1 = 1 → 
    Completes (.netact 100 res) s (fun t => (s.pra.loaded.isSome = true → s.pra.net = none → t.pra.net = s.pra.loaded ∧ t.pra.loaded = none ∧ t.pra.restart = true ∧ t.rd F.PRA_NETSTAT_STATE = 3) ∧
      (s.pra.loaded.isSome = true → s.pra.net.isSome = true → t.pra.next = s.pra.loaded.map (fun n => (n, res)) ∧ t.pra.loaded = none ∧ t.pra.net = s.pra.net) ∧
      (s.pra.loaded = none → t = s.complete 100 d { status := 0x46 }))) ∧
  (∀ (s : State) (d : Desc), s.running 100 0x10 = some d → d.le 24 8 % 64 = 0 → s.memOk (d.le 24 8) 128 = true → s.code.hasSensor (d.le 16 1) = true → s.mem.poisoned (d.le 24 8) 128 = false → 
    Completes (.calload 100) s (fun t => if calOk (d.le 16 1) (s.mem.readBytes (d.le 24 8) 128) = true then (t.sensor (d.le 16 1)).calNew = some (s.mem.readBytes (d.le 24 8) 128) ∧
      (t.sensor (d.le 16 1)).excluded = false ∧ t.rd (F.PRA_SENSn_STAT_STATE (d.le 16 1)) = 1
      else t = s.complete 100 d { status := 0x47 })) ∧
  (∀ (s : State) (d : Desc), s.running 100 0x11 = some d → d.le 24 8 % 64 = 0 → s.memOk (d.le 24 8) 128 = true → s.code.hasSensor (d.le 16 1) = true → 
    Completes (.calread 100) s (fun t => t = (s.put (d.le 24 8) (s.sensor (d.le 16 1)).recordNow).complete 100 d {})) ∧
  (∀ (s : State) (d : Desc), s.running 100 0x12 = some d → d.le 16 1 ≤ 1 → d.le 20 4 < 65536 → (List.range 16).all (fun n => !bitAt (d.le 20 4) n || s.code.hasSensor n) = true → s.on (F.HLT_TOKc_HELD 3) = false → (s.token 3).waits = [] → 
    Completes (.calfreeze 100) s (fun t => (List.range 16).all (fun n => decide ((t.sensor n).freezeNew = if bitAt (d.le 20 4) n = true then some (decide (d.le 16 1 = 1)) else (s.sensor n).freezeNew)) = true ∧
      t.on (F.HLT_TOKc_HELD 3) = false)) ∧
  (∀ (s : State) (d : Desc), s.running 100 0x13 = some d → s.code.hasSensor (d.le 16 1) = true → 
    Completes (.reinstate 100) s (fun t => if s.sensExcluded (d.le 16 1) = true then t.sensExcluded (d.le 16 1) = false ∧ t.rd (F.PRA_SENSn_STAT_STATE (d.le 16 1)) = 1 ∧ t.rd (F.PRA_SENSn_STAT_MANUAL (d.le 16 1)) = 0
      else t = s.complete 100 d {})) ∧
  (∀ (s : State) (d : Desc), s.running 100 0x14 = some d → s.code.hasSensor (d.le 16 1) = true → 
    Completes (.exclude 100) s (fun t => t.sensExcluded (d.le 16 1) = true ∧ t.rd (F.PRA_SENSn_STAT_MANUAL (d.le 16 1)) = 1 ∧
      (s.sensExcluded (d.le 16 1) = false → t.rd (F.PRA_SENSn_STAT_STATE (d.le 16 1)) = 2 ∧ t.rd F.PRA_STAT_EXCL = 1 ∧
      t.rd (F.PRA_SENSn_EXCLCNT_CNT (d.le 16 1)) = satAdd (F.PRA_SENSn_EXCLCNT_CNT 0).width (s.rd (F.PRA_SENSn_EXCLCNT_CNT (d.le 16 1))) 1)))

/-- Each track, forecast and yield command completes with its effect. A grid's track update is made once and counts the live tracks; a clear is owed to the next update; a forecast is numbered and is delivered through the bridge or abandoned with GAP owed; a yield sample goes to its tile, is dropped without a pose, or is counted where it is poisoned; a tile closes into the next slot or waits for room; the read position moves only over tiles published. (R199, R201, R204, R207, R210, R211) -/
def Obligations.PrairieProductCommandsComplete : Prop :=
  (∀ (s : State) (rows : List TrackRow) (g : GridRef) (net : Net), s.pra.grid = some g → s.pra.net = some net → net.mode4 = true → s.engineUp 0 = true → s.prod.updated ≠ some g.gseq → 
    Completes (.trackUpdate rows) s (fun t => t.prod.updated = some g.gseq ∧ t.prod.clear = false ∧ t.prod.tracks = (s.updateTracks g rows).1.prod.tracks ∧ t.rd F.PRA_TRKLIVE_CONF = t.trackLive.1 % 2 ^ F.PRA_TRKLIVE_CONF.width ∧
      t.rd F.PRA_TRKLIVE_UNCONF = t.trackLive.2 % 2 ^ F.PRA_TRKLIVE_UNCONF.width ∧ (s.on F.PRA_TRKCTL_EN = true → t.rd F.PRA_TRKSEQ_GSEQ = g.gseq % 2 ^ 32))) ∧
  (∀ (s : State) (a : Agent), s.accepts a 0x18 0xA24 = true → 
    Completes (.trackClear a) s (fun t => t = { s.done with prod := { s.prod with clear := true } })) ∧
  (∀ (s : State) (md : Bool) (rho conf : List (Nat × Nat)) (po : List Nat) (steps us : Nat), s.engineUp 0 = true → s.on F.PRA_FCCTL_EN = true → s.now % 20000000 = s.rd F.PRA_FCCTL_FCOFF * 1000 → s.pra.net.map (fun n => n.mode5) = some true → 
    Completes (.forecastSample md rho conf po steps us) s (fun t => t.prod.fseq = (s.prod.fseq + 1) % 2 ^ 32 ∧ t.prod.hdr = some (toSigned 16 (s.rd F.PRA_FCHDR_YR), toSigned 16 (s.rd F.PRA_FCHDR_YL)) ∧
      t.mem = s.mem)) ∧
  (∀ (s : State) (md : Bool) (rho conf : List (Nat × Nat)) (po : List Nat) (steps us : Nat), s.engineUp 0 = true → s.on F.PRA_FCCTL_EN = true → s.now % 20000000 = s.rd F.PRA_FCCTL_FCOFF * 1000 → s.pra.net.map (fun n => n.mode5) = some true → 0 < steps → s.inboundRoom false 1 = true → 
    Completes (.forecastSample md rho conf po steps us) s (fun t => t.prod.fc.map (fun r => (r.fseq, r.tf, r.step, r.left)) = some (s.prod.fseq, s.now, 1, 1) ∧ t.bridge.inbound.length = s.bridge.inbound.length + 1 ∧
      (s.prod.fc = none → t.prod.fcGap = s.prod.fcGap))) ∧
  (∀ (s : State) (md : Bool) (rho conf : List (Nat × Nat)) (po : List Nat) (steps us : Nat), s.engineUp 0 = true → s.on F.PRA_FCCTL_EN = true → s.now % 20000000 = s.rd F.PRA_FCCTL_FCOFF * 1000 → s.pra.net.map (fun n => n.mode5) = some true → s.prod.fc = none → 0 < steps → s.inboundRoom false 1 = false → 
    Completes (.forecastSample md rho conf po steps us) s (fun t => t.prod.fc = none ∧ t.prod.fcGap = true ∧ t.rd F.PRA_BRDROP_FC = satAdd F.PRA_BRDROP_FC.width (s.rd F.PRA_BRDROP_FC) 1)) ∧
  (∀ (s : State) (pos tray k : Nat) (r : Reading), s.engineUp 0 = true → s.on F.PRA_YLDCTL_EN = true → s.nextSample = some (pos, tray, k) → s.logReading (s.rd F.PRA_YLDSRC_MSTREAM) (pos, tray, k) = some r → 
    Completes (.yieldSample pos tray k (s.nearestMoist (s.moistTime r.stamp)) (s.yieldCells (s.cutTime r.stamp))) s (fun t => t.prod.readAt = (pos, tray, k + 1) ∧ t.prod.lastStamp = some r.stamp ∧
      (r.poison = true → t.rd F.PRA_YLDGAP_CNT = satAdd F.PRA_YLDGAP_CNT.width (satAdd F.PRA_YLDGAP_CNT.width (s.rd F.PRA_YLDGAP_CNT) (s.missingBefore r.stamp)) 1 ∧
      t.prod.dropped = s.prod.dropped ∧ t.prod.placed = s.prod.placed))) ∧
  (∀ (s : State) (pos tray k : Nat) (r : Reading), s.engineUp 0 = true → s.on F.PRA_YLDCTL_EN = true → s.nextSample = some (pos, tray, k) → s.logReading (s.rd F.PRA_YLDSRC_MSTREAM) (pos, tray, k) = some r → r.poison = false → (bracket (s.cutTime r.stamp) s.poses).1 = none → 
    Completes (.yieldSample pos tray k (s.nearestMoist (s.moistTime r.stamp)) (s.yieldCells (s.cutTime r.stamp))) s (fun t => t.prod.dropped = s.prod.dropped.add ((((s.yldScale Reg.PRA_YLDMGAIN Reg.PRA_YLDMOFF r.v).max ⟨0, 1⟩).mul ⟨s.yieldDt r.stamp, 1000000000⟩).mul ⟨1000, 1⟩) ∧
      t.prod.placed = s.prod.placed ∧ t.prod.tiles.length = s.prod.tiles.length)) ∧
  (∀ (s : State) (pos tray k : Nat) (r : Reading) (te tn : Int), s.engineUp 0 = true → s.on F.PRA_YLDCTL_EN = true → s.nextSample = some (pos, tray, k) → s.logReading (s.rd F.PRA_YLDSRC_MSTREAM) (pos, tray, k) = some r → r.poison = false → (bracket (s.cutTime r.stamp) s.poses).1.isSome = true → (s.yieldCells (s.cutTime r.stamp)).all (fun c => decide (c.1 / 128 = te ∧ c.2 / 128 = tn)) = true → s.prod.tiles.length < 16 ∨ s.prod.tiles.any (fun x => decide (x.te = te ∧ x.tn = tn)) = true → 
    Completes (.yieldSample pos tray k (s.nearestMoist (s.moistTime r.stamp)) (s.yieldCells (s.cutTime r.stamp))) s (fun t => t.prod.dropped = s.prod.dropped ∧ t.prod.tiles.any (fun x => decide (x.te = te ∧ x.tn = tn ∧ x.tlast = s.now)) = true)) ∧
  (∀ (s : State) (te tn : Int) (x : Tile), s.engineUp 0 = true → s.prod.tiles.find? (fun y => decide (y.te = te ∧ y.tn = tn)) = some x → x.tlast + s.rd F.PRA_YLDCTL_TCLOSE * 10000000000 ≤ s.now → 
    Completes (.tileClose te tn) s (fun t => if s.tileRoom = true then t.rd F.PRA_YLDWPOS_POS = (s.rd F.PRA_YLDWPOS_POS + 1) % 2 ^ 32 ∧ t.prod.tiles = s.prod.tiles.filter (fun y => decide (y.te ≠ te ∨ y.tn ≠ tn))
      else t.rd F.PRA_YLDOPEN_FULL = 1 ∧ t.prod.tiles.length = s.prod.tiles.length ∧ t.rd F.PRA_YLDWPOS_POS = s.rd F.PRA_YLDWPOS_POS)) ∧
  (∀ (s : State) (a : Agent), s.accepts a 0x18 0xC48 = true → (s.rd F.PRA_YLDWPOS_POS + 2 ^ 32 - s.rd F.PRA_YLDRPOS_POS) % 2 ^ 32 + s.prod.tiles.length ≤ 2 ^ s.rd F.PRA_YLDCTL_YLOG2 → 
    Completes (.yieldFlush a) s (fun t => t.prod.tiles = [] ∧ t.rd F.PRA_YLDWPOS_POS = (s.rd F.PRA_YLDWPOS_POS + s.prod.tiles.length) % 2 ^ 32)) ∧
  (∀ (s : State) (a : Agent), s.accepts a 0x18 0xC48 = true → s.prod.tiles ≠ [] → 2 ^ s.rd F.PRA_YLDCTL_YLOG2 ≤ (s.rd F.PRA_YLDWPOS_POS + 2 ^ 32 - s.rd F.PRA_YLDRPOS_POS) % 2 ^ 32 → 
    Completes (.yieldFlush a) s (fun t => t.prod.tiles.length = s.prod.tiles.length ∧ t.rd F.PRA_YLDOPEN_FULL = 1 ∧ t.rd F.PRA_YLDWPOS_POS = s.rd F.PRA_YLDWPOS_POS)) ∧
  (∀ (s : State) (a : Agent) (v : W32), s.accepts a 0x18 0xC30 = true → 
    Completes (.yldrposWrite a v) s (fun t => if (s.rd F.PRA_YLDWPOS_POS + 2 ^ 32 - s.rd F.PRA_YLDRPOS_POS) % 2 ^ 32 < (v.toNat + 2 ^ 32 - s.rd F.PRA_YLDRPOS_POS) % 2 ^ 32 then t = s.done
      else t.reg Reg.PRA_YLDRPOS = v))

/-- Each tracking, antenna and epoch command of the GNSS baseband completes with its effect. A search counts and gives a found signal a free channel in PULLIN; a channel locks, loses lock and is freed; an antenna feed faults and is retried; an epoch takes the next number and slot and shows its fix and time; a mark is sent on a whole GPS second and its absence for 3 s is told. (R217, R218, R219, R220, R221, R223) -/
def Obligations.SatelliteCommandsComplete : Prop :=
  (∀ (s : State) (u ant sys sv sig : Nat) (k : Int) (found : Bool) (sky : List Sat), s.gnsRuns = true → u < s.code.gnsUnits → signalOk sys sig k = true → SMap.get (fun _ => none) s.gns.search u = none → s.on F.SDL_STAT_TCXOLOSS = false → s.searchFirst sky ⟨ant, sys, sv, sig⟩ = true → 
    Completes (.signalSearch u ant sys sv sig k found sky) s (fun t => SMap.get (fun _ => none) t.gns.search u = some (⟨ant, sys, sv, sig⟩, k, s.now + s.searchTime (s.searchNc sys sv sig) (dopBins (s.searchWd sys sv sig k))) ∧
      t.rd (F.GNS_ACQu_SIG_STATE u) = 1 ∧ t.rd (F.GNS_ACQu_WCODE_NC u) = min (s.searchNc sys sv sig) (2 ^ (F.GNS_ACQu_WCODE_NC 0).width - 1) ∧ t.mem = s.mem)) ∧
  (∀ (s : State) (u ant sys sv sig : Nat) (k : Int) (found : Bool) (sky : List Sat) (e : Nat), s.gnsRuns = true → u < s.code.gnsUnits → signalOk sys sig k = true → SMap.get (fun _ => none) s.gns.search u = some (⟨ant, sys, sv, sig⟩, k, e) → e ≤ s.now → 
    Completes (.signalSearch u ant sys sv sig k found sky) s (fun t => SMap.get (fun _ => none) t.gns.search u = none ∧ t.rd F.GNS_ACQ_SEARCHES = satAdd F.GNS_ACQ_SEARCHES.width (s.rd F.GNS_ACQ_SEARCHES) 1 ∧
      t.rd (F.GNS_ACQu_SIG_STATE u) = (if found = true then 2 else 3) ∧
      (found = true → (s.freeChannel ant).all (fun n => decide (t.chanState n = 1 ∧ (t.gnsChan n).sv = sv ∧ (t.gnsChan n).since = s.now)) = true) ∧ t.mem = s.mem)) ∧
  (∀ (s : State) (ch : Nat) (l : List Nat), s.gnsRuns = true → ch < s.code.gnsChannels → s.chanState ch = 1 ∨ s.chanState ch = 3 → s.antAllows (s.chanKey ch) = true → 
    Completes (.channelLock ch l) s (fun t => t.chanState ch = 2 ∧ t.mem = s.mem)) ∧
  (∀ (s : State) (ch : Nat), s.gnsRuns = true → ch < s.code.gnsChannels → s.chanState ch = 2 → 
    Completes (.channelLockLoss ch) s (fun t => t.chanState ch = 3 ∧ t.rd (chpCn0 ch) = 0 ∧ (t.gnsChan ch).lostAt = s.now ∧ t.mem = s.mem)) ∧
  (∀ (s : State) (ch : Nat) (low : Bool), s.gnsRuns = true → ch < s.code.gnsChannels → s.chanState ch = 1 → (s.gnsChan ch).since + 200000000 ≤ s.now → 
    Completes (.channelFree ch low) s (fun t => t.chanState ch = 0 ∧ t.gnsChan ch = {} ∧ t.gns.again.contains (s.chanKey ch, s.now + 2000000000) = true ∧ t.mem = s.mem)) ∧
  (∀ (s : State) (ch : Nat) (low : Bool), s.gnsRuns = true → ch < s.code.gnsChannels → s.chanState ch ≠ 0 → low = true ∨ (s.chanState ch = 3 ∧ (s.gnsChan ch).lostAt + 10000000000 ≤ s.now) → 
    Completes (.channelFree ch low) s (fun t => t.chanState ch = 0 ∧ t.gnsChan ch = {} ∧ t.mem = s.mem)) ∧
  (∀ (s : State) (a ma : Nat), s.canopyOn = true → a < s.code.antennas → s.on (F.GNS_ANTa_CTL_FEED a) = true → s.rd (F.GNS_ANTa_STAT_FEEDST a) ≠ 3 → 
    Completes (.antennaFeedFault a ma) s (fun t => t.rd (F.GNS_ANTa_STAT_FEEDST a) = (if ma < 3 then 2 else if 150 ≤ ma then 3 else 1) ∧
      (150 ≤ ma → t.rd F.GNS_STAT_ANTFLT = 1 ∧ SMap.get (fun _ => 0) t.gns.feedOff a = s.now) ∧
      (ma < 3 → s.rd (F.GNS_ANTa_STAT_FEEDST a) ≠ 2 → t.rd F.GNS_STAT_ANTFLT = 1))) ∧
  (∀ (s : State) (a : Nat), s.canopyOn = true → a < s.code.antennas → s.on (F.GNS_ANTa_CTL_FEED a) = true → s.rd (F.GNS_ANTa_STAT_FEEDST a) = 3 → SMap.get (fun _ => 0) s.gns.feedOff a + 1000000000 ≤ s.now → 
    Completes (.antennaFeedRetry a) s (fun t => t = s.wr (F.GNS_ANTa_STAT_FEEDST a) 1)) ∧
  (∀ (s : State) (tepoch : Nat) (e : EpochIn), s.gnsRuns = true → s.isEpoch tepoch = true → 
    Completes (.gnssEpoch tepoch e) s (fun t => if s.gns.skipNext = true then t = { s with gns := { s.gns with skipNext := false, missed := true } }
      else t.gns.epochs = s.gns.epochs + 1 ∧ t.gns.lastEpoch = some tepoch ∧ t.gns.slot = (s.gns.slot + 1) % 2 ^ s.rd F.GNS_OBSCFG_OLOG2 ∧
      t.rd F.GNS_ESEQ_ESEQ = s.gns.epochs % 2 ^ 32 ∧ t.on F.GNS_STAT_TIMEVALID = e.timeValid ∧ t.on F.GNS_STAT_FIX = e.fix)) ∧
  (∀ (s : State) (stamp gps sig : Nat) (r : Int), s.gnsRuns = true → s.on F.GNS_RUN_MARK = true → s.on F.GNS_STAT_FIX = true → 5 ≤ s.rd F.GNS_FIX_NSV → s.gns.rms ≤ 10000 → gps % 1000000000 = 0 → s.gns.markGps < gps → 
    Completes (.gnssMark stamp gps sig r) s (fun t => t.rd F.GNS_MARK_ACTIVE = 1 ∧ t.gns.markGps = gps ∧ t.gns.lastMark = some s.now ∧ t.rd F.GNS_MARK_SIG = min sig 0xFFFF)) ∧
  (∀ (s : State) (m : Nat), s.gnsRuns = true → s.on F.GNS_RUN_MARK = true → s.gns.lastMark = some m → m + 3000000000 ≤ s.now → 
    Completes (.markstop) s (fun t => t.rd F.GNS_MARK_ACTIVE = 0 ∧ t.rd F.GNS_STAT_MARKSTOP = 1 ∧ t.gns.lastMark = none))

/-- Each aid descriptor and the guidance record complete with their effect. A time or position aid replaces the one held unless its bound is wider; orbits that pass their check replace the satellite's ephemeris, and poisoned ones none; held orbits are read out where they fit; a restart discards what its kind says; a guidance epoch that is not solved owes GAP, and a solved one takes the next number. (R231, R232, R234, R240) -/
def Obligations.AidAndGuidanceCommandsComplete : Prop :=
  (∀ (s : State) (d : Desc), s.running 88 1 = some d → 
    Completes (.aidtime 88) s (fun t => if (s.gns.timeAid.map (fun a => decide (a.2.2 < d.le 40 4))).getD false = true then t.gns.timeAid = s.gns.timeAid ∧ t.gns.timeWide = some (d.le 24 8, d.le 32 8, d.le 40 4)
      else t.gns.timeAid = some (d.le 24 8, d.le 32 8, d.le 40 4) ∧ t.gns.timeWide = s.gns.timeWide)) ∧
  (∀ (s : State) (d : Desc), s.running 88 2 = some d → 
    Completes (.aidpos 88) s (fun t => t.gns.posAid = (if widerThan s.gns.posAid (d.le 48 4) = true then s.gns.posAid
      else some ⟨d.le 48 4, some (Place.ecef (d.int 24 8) (d.int 32 8) (d.int 40 8)), (d.int 56 2, d.int 58 2, d.int 60 2), s.now⟩) ∧
      t.gns.velAid = (if widerThan s.gns.velAid (d.le 52 4) = true then s.gns.velAid else some ⟨d.le 52 4, none, (d.int 56 2, d.int 58 2, d.int 60 2), s.now⟩))) ∧
  (∀ (s : State) (d : Desc), s.running 88 4 = some d → 
    Completes (.solution 88) s (fun t => t.gns.posAid = (if d.le 20 1 = 0 ∨ widerThan s.gns.posAid (3 * d.le 44 2) = true then s.gns.posAid
      else some ⟨3 * d.le 44 2, some (Place.geo (d.int 24 8) (d.int 32 8) (d.int 40 4)), (d.int 48 2, d.int 50 2, d.int 52 2), s.now⟩) ∧
      (bitAt (d.le 60 2) 1 = true → t.gns.velAid = if widerThan s.gns.velAid s.freshNat = true then s.gns.velAid else some ⟨s.freshNat, none, (d.int 48 2, d.int 50 2, d.int 52 2), s.now⟩))) ∧
  (∀ (s : State) (d : Desc) (pos y : Nat) (fr : Bytes), s.running 88 3 = some d → d.le 24 8 % 64 = 0 → inDramRange s.code (d.le 24 8) (d.le 32 4) = true ∨ inBedRange (d.le 24 8) (d.le 32 4) = true → s.mem.poisoned (d.le 24 8) (d.le 32 4) = false → rtcmFrames (d.le 32 4) 0 (s.mem.readBytes (d.le 24 8) (d.le 32 4)) = [(pos, fr, true)] → s.mem.poisoned (d.le 24 8 + pos) fr.length = false → ephSystem (bitsMsb fr 24 12) = some y → 
    Completes (.aidorb 88) s (fun t => t.gns.ephs = s.gns.ephs.filter (fun e => !(decide (e.sys = y) && decide (e.sv = bitsMsb fr 36 6))) ++ [⟨y, bitsMsb fr 36 6, fr, ephRef fr (s.gns.leap.getD 0) s.gpsNow⟩])) ∧
  (∀ (s : State) (d : Desc), s.running 88 3 = some d → d.le 24 8 % 64 = 0 → inDramRange s.code (d.le 24 8) (d.le 32 4) = true ∨ inBedRange (d.le 24 8) (d.le 32 4) = true → (rtcmFrames (d.le 32 4) 0 (s.mem.readBytes (d.le 24 8) (d.le 32 4))).all (fun f => !f.2.2 || s.mem.poisoned (d.le 24 8 + f.1) f.2.1.length || (ephSystem (bitsMsb f.2.1 24 12)).isNone) = true → 
    Completes (.aidorb 88) s (fun t => t.gns.ephs = s.gns.ephs ∧ (s.mem.poisoned (d.le 24 8) (d.le 32 4) = true → t.rd F.GNS_POISCNT_CNT = satAdd F.GNS_POISCNT_CNT.width (s.rd F.GNS_POISCNT_CNT) 1))) ∧
  (∀ (s : State) (d : Desc), s.running 88 5 = some d → d.le 24 8 % 64 = 0 → inDramRange s.code (d.le 24 8) (d.le 32 4) = true ∨ inBedRange (d.le 24 8) (d.le 32 4) = true → 
    Completes (.orbread 88) s (fun t => if d.le 32 4 < ((s.gns.ephs.map (fun e => e.frame)).flatten).length then t = s.complete 88 d { status := 0x41 }
      else if (s.engineWrite (d.le 24 8) (s.gns.ephs.map (fun e => e.frame)).flatten).2 = true then t = (s.engineWrite (d.le 24 8) (s.gns.ephs.map (fun e => e.frame)).flatten).1.complete 88 d
      { bytes := resultOf [(24, 4, ((s.gns.ephs.map (fun e => e.frame)).flatten).length), (28, 4, s.gns.ephs.length)] }
      else t = s.complete 88 d { status := 6 })) ∧
  (∀ (s : State) (d : Desc), s.running 88 6 = some d → d.le 16 1 ≤ 2 → 
    Completes (.gnssRestart 88) s (fun t => t.gns.start = s.now ∧ t.gns.firstFix = false ∧ t.gns.fixAt = none ∧ t.rd F.GNS_STAT_FIX = 0 ∧ t.gns.ephs = (if d.le 16 1 = 0 then s.gns.ephs else []) ∧
      t.gns.timeAid = (if d.le 16 1 = 2 then none else s.gns.timeAid) ∧ t.gns.posAid = (if d.le 16 1 = 2 then none else s.gns.posAid) ∧ t.gns.velAid = (if d.le 16 1 = 2 then none else s.gns.velAid))) ∧
  (∀ (s : State) (g : GuideIn) (dale : Agent) (c : GuideCfg), s.carrier = some dale → s.canopyOn = true → (s.gfRead).gns.guide.cfg = some c → 
    Completes (.guidanceRecord g) s (fun t => if g.solved = true ∧ (s.gfRead).mem.poisoned (4096 * (s.gfRead).rd F.GNS_OBSBASE_BASE + g.slot * 16384) 16384 = false then
      t.gns.guide.count = s.gns.guide.count % 2 ^ 32 + 1 ∧ t.gns.guide.gap = false ∧ t.gns.guide.dale = some dale
      else t.gns.guide.gap = true ∧ t.gns.guide.count = s.gns.guide.count))

/-- Each Trellis command completes with its effect. A due sample runs once and is counted, or is skipped and counted while the previous one still runs; an accepted enable starts the loop and a disable turns it OFF; a mode write changes MODE; a record is installed or waits for the next sample; a record and a state are read out; a parameter error is counted, and one not corrected disables the loop. (R247, R256, R261, R262, R268, R270) -/
def Obligations.TrellisCommandsComplete : Prop :=
  (∀ (s : State) (n ts tout : Nat), s.bedOn = true → n < s.code.loops → ts ≤ s.now → s.now ≤ tout → s.dueAt n ts = true → (List.range n).any (fun m => s.dueAt m ts) = false → ts = s.now → s.switchDue = none → 
    Completes (.loopSample n ts tout) s (fun t => (t.loop n).last = some ts ∧
      (if ts < (s.loop n).busy then (t.loop n).skipped = true ∧ t.rd F.TRL_STAT_SKIP = 1 ∧ t.wideGet Reg.TRL_SKIPCNT_LO = satAdd 64 (s.wideGet Reg.TRL_SKIPCNT_LO) 1
      else (t.loop n).busy = tout ∧ (t.loop n).count = (s.loop n).count + 1 ∧ t.wideGet Reg.TRL_SAMPCNT_LO = satAdd 64 (s.wideGet Reg.TRL_SAMPCNT_LO) 1))) ∧
  (∀ (s : State) (a : Agent) (n : Nat) (v : W32), n < 64 → s.accepts a 0x09 (0x800 + 0x20 * n) = true → getBits v 30 28 ≤ 2 → getBits v 23 20 ≤ 12 → s.loopOn n = false → s.loopCause n (setBits v 31 31 1) = 0 → 
    Completes (.loopEnable a n v) s (fun t => t.resp = .done ∧ t.loopOn n = true ∧ t.rd (F.TRL_Ln_CTL_PERIOD n) = getBits v 19 0 ∧ t.rd (F.TRL_Ln_CTL_MODE n) = getBits v 30 28 ∧
      t.mapOn Reg.TRL_ENMAP_LO n = true ∧ (t.loop n).since = s.now ∧ (t.loop n).raw = (s.loop n).raw ∧ t.mem = s.mem)) ∧
  (∀ (s : State) (a : Agent) (n : Nat), n < 64 → s.accepts a 0x09 (0x800 + 0x20 * n) = true → s.rd (F.TRL_Ln_CTL_MODE n) ≤ 2 → s.rd (F.TRL_Ln_CTL_LOGDEC n) ≤ 12 → s.loopOn n = true → 
    Completes (.loopDisable a n) s (fun t => t.resp = .done ∧ t.loopOn n = false ∧ t.loopState n = 0 ∧ t.mapOn Reg.TRL_ENMAP_LO n = false)) ∧
  (∀ (s : State) (a : Agent) (n mode : Nat), n < 64 → s.accepts a 0x09 (0x800 + 0x20 * n) = true → mode ≤ 2 → s.rd (F.TRL_Ln_CTL_LOGDEC n) ≤ 12 → s.loopOn n = true → mode = 2 → (s.outerOf n).isSome = true → 
    Completes (.loopModeWrite a n mode) s (fun t => t.resp = .done ∧ t.rd (F.TRL_Ln_CTL_MODE n) = mode ∧ (t.loop n).modeReq = some mode ∧ t.loopOn n = true ∧ t.mem = s.mem)) ∧
  (∀ (s : State) (q : Nat) (d : Desc), trlRing q = true → s.running q 1 = some d → d.le 24 8 % 64 = 0 → inBedRange (d.le 24 8) 128 = true → s.mem.poisoned (d.le 24 8) 128 = false → recordOk (s.mem.readBytes (d.le 24 8) 128) = true → d.le 16 1 < s.code.loops → leAt (s.mem.readBytes (d.le 24 8) 128) 1 1 = d.le 16 1 → s.srcOk ({ raw := s.mem.readBytes (d.le 24 8) 128 } : Loop).msrc ({ raw := s.mem.readBytes (d.le 24 8) 128 } : Loop).ffsrc = true → s.loopOn (d.le 16 1) = true → ({ raw := s.mem.readBytes (d.le 24 8) 128 } : Loop).outdst = (s.loop (d.le 16 1)).outdst → s.loopOn (d.le 16 1) = true → s.cascBad (d.le 16 1) ({ raw := s.mem.readBytes (d.le 24 8) 128 } : Loop).outdst (s.rd (F.TRL_Ln_CTL_PERIOD (d.le 16 1))) (s.rd (F.TRL_Ln_PHASE_PHASE (d.le 16 1))) = false → 
    Completes (.loadpar q) s (fun t => if s.loopOn (d.le 16 1) = true then (t.loop (d.le 16 1)).pend = some (s.mem.readBytes (d.le 24 8) 128) ∧ (t.loop (d.le 16 1)).raw = (s.loop (d.le 16 1)).raw
      else (t.loop (d.le 16 1)).raw = s.mem.readBytes (d.le 24 8) 128 ∧ t.rd (F.TRL_Ln_STAT_PARVALID (d.le 16 1)) = 1)) ∧
  (∀ (s : State) (q : Nat) (d : Desc), trlRing q = true → s.running q 2 = some d → d.le 16 1 < s.code.loops → d.le 17 1 ≤ 2 → s.loopOn (d.le 16 1) = true → d.le 17 1 = 2 → (s.outerOf (d.le 16 1)).isSome = true → 
    Completes (.setmode q) s (fun t => t.rd (F.TRL_Ln_CTL_MODE (d.le 16 1)) = d.le 17 1 ∧ (s.loopOn (d.le 16 1) = true → (t.loop (d.le 16 1)).modeReq = some (d.le 17 1)))) ∧
  (∀ (s : State) (q : Nat) (d : Desc), trlRing q = true → s.running q 3 = some d → s.trlDest (d.le 16 1) (d.le 24 8) 128 = 0 → 
    Completes (.readpar q) s (fun t => t = (if (s.loop (d.le 16 1)).raw = [] then s.putFree (d.le 24 8) 128 else s.put (d.le 24 8) (wideNormal (s.loop (d.le 16 1)).raw)).complete q d {})) ∧
  (∀ (s : State) (q : Nat) (d : Desc), trlRing q = true → s.running q 4 = some d → s.trlDest (d.le 16 1) (d.le 24 8) 64 = 0 → 
    Completes (.readstate q) s (fun t => t = (s.put (d.le 24 8) (stateBytes (s.loop (d.le 16 1)).i ++ stateBytes (s.loop (d.le 16 1)).d ++ leBytes 8 (toWide (s.loop (d.le 16 1)).xprev) ++
      leBytes 8 (toWide ((s.loop (d.le 16 1)).r.getD ⟨0, 1⟩)) ++ leBytes 8 (toWide (s.loop (d.le 16 1)).ulast) ++ leBytes 8 (toWide (s.loop (d.le 16 1)).f) ++
      leBytes 4 (((s.loop (d.le 16 1)).minv.map (fun b => min ((s.now - b) / 1000000) 0xFFFFFFFF)).getD 0) ++
      leBytes 8 ((s.loop (d.le 16 1)).last.getD 0))).complete q d {})) ∧
  (∀ (s : State) (n word : Nat) (corr : Bool), s.bedOn = true → n < s.code.loops → 
    Completes (.parameterMemoryError n word corr) s (fun t => t.rd F.TRL_PMERR_LOOP = n ∧ (if corr = true then t.rd F.TRL_PMERR_CNT = satAdd F.TRL_PMERR_CNT.width (s.rd F.TRL_PMERR_CNT) 1 ∧ t.loopOn n = s.loopOn n
      else t.rd F.TRL_PMERR_UNC = 1 ∧ t.rd F.TRL_STAT_PMERR = 1 ∧ t.loopOn n = false)))

/-- Each cycle, enable, change, read and program command of Furrow completes with its effect. A boundary starts a scan at the head of the program with the next sequence number, or marks the overrun of the scan that has not ended and does nothing else to it, or aborts with WATCHDOG a scan that already overran; enabling is accepted or refused with its cause; disabling lets the running scan end and leaves HALT; SETVAL waits for its boundary while Furrow runs and acts at once otherwise; READMEM likewise; PROGLOAD fills the inactive bank or leaves it empty; PROGACT waits for its boundary while Furrow runs and switches the banks at once otherwise. (R273, R274, R275, R276, R277, R298, R300, R301, R306) -/
def Obligations.FurrowCommandsComplete : Prop :=
  (∀ (s : State) (p : Prog), s.bedOn = true → s.furDue = true → s.switchDue = none → s.furState = 1 → s.on F.FUR_RUN_EN = true → s.fur.scan = none → s.fur.act = none → s.fur.active = some p → 
    Completes (.cycleBoundary) s (fun t => t.fur.boundary = some s.now ∧ t.fur.first = false ∧ t.rd F.FUR_SCANSEQ_SEQ = (s.rd F.FUR_SCANSEQ_SEQ + 1) % 2 ^ 32 ∧
      t.fur.scan.map (fun c => (c.pc, c.a, c.x, c.stack)) = some (0, false, 0, []) ∧ t.fur.scan.map (fun c => (c.seq, c.tlatch, c.first)) = some ((s.rd F.FUR_SCANSEQ_SEQ + 1) % 2 ^ 32, s.now, s.fur.first) ∧ t.fur.scan.map (fun c => (c.overrun, c.ended)) = some (false, none))) ∧
  (∀ (s : State) (p : Prog) (sc : Scan) (e : Nat), s.bedOn = true → s.furDue = true → s.switchDue = none → s.furState = 1 → s.on F.FUR_RUN_EN = true → s.fur.scan = some sc → sc.ended = some e → s.fur.act = none → s.fur.active = some p → 
    Completes (.cycleBoundary) s (fun t => t.fur.boundary = some s.now ∧ t.rd F.FUR_SCANSEQ_SEQ = (s.rd F.FUR_SCANSEQ_SEQ + 1) % 2 ^ 32 ∧ t.fur.scan.map (fun c => (c.seq, c.tlatch, c.pc, c.ended)) = some ((s.rd F.FUR_SCANSEQ_SEQ + 1) % 2 ^ 32, s.now, 0, none))) ∧
  (∀ (s : State) (sc : Scan), s.bedOn = true → s.furDue = true → s.switchDue = none → s.furState = 1 → s.fur.scan = some sc → sc.ended = none → sc.overrun = false → 
    Completes (.cycleBoundary) s (fun t => t.fur = { s.fur with boundary := some s.now, scan := some { sc with overrun := true } } ∧ t.rd F.FUR_STAT_OVERRUN = 1 ∧ t.rd F.FUR_SCANSEQ_SEQ = s.rd F.FUR_SCANSEQ_SEQ)) ∧
  (∀ (s : State) (sc : Scan) (p : Prog), s.bedOn = true → s.furDue = true → s.switchDue = none → s.furState = 1 → s.on F.FUR_RUN_EN = true → s.rd F.FUR_CTL_FAULTMAX = 0 → s.fur.scan = some sc → sc.ended = none → sc.overrun = true → s.fur.act = none → s.fur.active = some p → 
    Completes (.cycleBoundary) s (fun t => t.rd F.FUR_FAULT_CAUSE = 9 ∧ t.rd F.FUR_STAT_FAULT = 1 ∧ t.fur.aborted = true ∧ t.fur.boundary = some s.now ∧ t.fur.scan.map (fun c => (c.pc, c.tlatch)) = some (0, s.now))) ∧
  (∀ (s : State) (a : Agent) (v : W32), s.accepts a 0x0A 0x00C = true → s.on F.FUR_RUN_EN = false → 
    Completes (.furrowEnable a v) s (fun t => t.resp = .done ∧ (s.furCause (setBits v 31 31 1) = 0 → t.on F.FUR_RUN_EN = true ∧ t.rd F.FUR_RUN_CYCLE = getBits v 17 0 ∧ t.fur.first = true ∧ t.furState = (if s.furState = 0 then 1 else s.furState)) ∧
      (s.furCause (setBits v 31 31 1) ≠ 0 → t.rd F.FUR_BADCFG_CAUSE = s.furCause (setBits v 31 31 1) ∧ t.rd F.FUR_STAT_CFGREJ = 1 ∧ t.reg Reg.FUR_RUN = s.reg Reg.FUR_RUN ∧ t.fur = s.fur))) ∧
  (∀ (s : State) (a : Agent), s.accepts a 0x0A 0x00C = true → listedAt Reg.FUR_RUN (setBits (s.reg Reg.FUR_RUN) 31 31 0) = true → 
    Completes (.furrowDisable a) s (fun t => t.resp = .done ∧ t.on F.FUR_RUN_EN = false ∧ t.rd F.FUR_RUN_CYCLE = s.rd F.FUR_RUN_CYCLE ∧ (s.furState = 1 → t.furState = 1 ∧ t.fur = s.fur) ∧
      (s.furState = 2 → s.fur.act = none → t.furState = 0 ∧ t.rd F.FUR_FAULTRUN_RUN = 0 ∧ t.fur.scan = none))) ∧
  (∀ (s : State) (q : Nat) (d : Desc), s.bedOn = true → q = 24 ∨ q = 26 → nextWaiting s.fur.changes (s.ring q).taken q 1 = some d → s.setvalStatus d = 0 → 
    Completes (.setval q) s (fun t => if s.furState = 1 then t.fur.changes = s.fur.changes ++ [(q, d)] ∧ t.fur.words = s.fur.words ∧ t.fur.flags = s.fur.flags ∧ t.rd F.FUR_STATE_CHGPEND = min (s.fur.changes.length + 1) 64
      else t.fur.changes = [] ∧ t.fur.reads = [] ∧ (d.le 16 1 = 0 → t.furFlag (d.le 18 2) = decide (d.le 24 1 % 2 = 1)) ∧ (d.le 16 1 ≠ 0 → t.furWord (d.le 18 2) = d.leS 24 8))) ∧
  (∀ (s : State) (q : Nat) (d : Desc), s.bedOn = true → q = 24 ∨ q = 26 → nextWaiting s.fur.changes (s.ring q).taken q 1 = some d → s.setvalStatus d ≠ 0 → 
    Completes (.setval q) s (fun t => t = s.complete q d { status := s.setvalStatus d })) ∧
  (∀ (s : State) (q : Nat) (d : Desc), s.bedOn = true → q = 24 ∨ q = 26 → nextWaiting s.fur.reads (s.ring q).taken q 2 = some d → 
    Completes (.readmem q) s (fun t => if readmemStatus d ≠ 0 then t = s.complete q d { status := readmemStatus d }
      else if s.furState = 1 then t = { s with fur := { s.fur with reads := s.fur.reads ++ [(q, d)] } }
      else t = ((s.put (d.le 24 8) (s.memBytes (d.le 16 1) (d.le 18 2) (d.le 20 2))).tickFree).complete q d { bytes := leBytes 4 (s.memBytes (d.le 16 1) (d.le 18 2) (d.le 20 2)).length })) ∧
  (∀ (s : State) (d : Desc), s.bedOn = true → s.running 30 0x10 = some d → d.le 24 8 % 64 = 0 → inBedRange (d.le 24 8) (d.le 32 8) = true → s.mem.poisoned (d.le 24 8) (d.le 32 8) = false → 
    Completes (.progload) s (fun t => t.fur.active = s.fur.active ∧
      if imageStatus (s.mem.readBytes (d.le 24 8) (d.le 32 8)) = 0 then t.fur.other = some (progOf (s.mem.readBytes (d.le 24 8) (d.le 32 8))) ∧ t.rd F.FUR_STATE_LOADED = 1
      else t.fur.other = none ∧ t.rd F.FUR_STATE_LOADED = 0)) ∧
  (∀ (s : State) (d : Desc) (p : Prog), s.bedOn = true → s.running 30 0x11 = some d → s.fur.act = none → s.fur.other = some p → d.le 16 1 ≤ 1 → d.le 16 1 = 0 → s.fur.active.map (fun o => o.layout) = some p.layout → 
    Completes (.progact) s (fun t => if s.furState = 1 ∨ (s.furState = 2 ∧ s.on F.FUR_RUN_EN = true) then t = { s with fur := { s.fur with act := some d } }
      else t.fur.act = none ∧ t.fur.active = some p ∧ t.fur.other = s.fur.active ∧ t.fur.first = true ∧ t.reg Reg.FUR_PROGID = BitVec.ofNat 32 p.id ∧ (d.le 16 1 = 0 → t.fur.words = s.fur.words)))

/-- A scan that goes on repeats the body of its REP, ends the REP after its last pass, and faults beyond the program. Going on from an address outside the end of a REP body keeps the scan; at the end of the body the next pass begins with X = pass × 2^STR, or, after the last, the REP ends with X = 0; with no instruction at the address reached, the scan is aborted with PCEND. (R289, R294, R295) -/
def Obligations.FurrowScanAdvances : Prop :=
  ∀ (s : State) (sc : Scan),
    ((sc.rep = none ∨ ∃ r, sc.rep = some r ∧ sc.pc ≠ r.start + r.len) → (s.furCode sc.pc).isSome = true →
      s.scanNext sc = { s with fur := { s.fur with scan := some sc } }) ∧
    (∀ r, sc.rep = some r → sc.pc = r.start + r.len → r.pass + 1 < r.n → (s.furCode r.start).isSome = true →
      s.scanNext sc = { s with fur := { s.fur with scan := some { sc with pc := r.start, x := (r.pass + 1) <<< r.str, rep := some { r with pass := r.pass + 1 } } } }) ∧
    (∀ r, sc.rep = some r → sc.pc = r.start + r.len → r.n ≤ r.pass + 1 → (s.furCode sc.pc).isSome = true →
      s.scanNext sc = { s with fur := { s.fur with scan := some { sc with x := 0, rep := none } } }) ∧
    (sc.rep = none → s.furCode sc.pc = none →
      (s.scanNext sc).fur.scan = none ∧ (s.rd F.FUR_CTL_FAULTMAX = 0 → (s.scanNext sc).rd F.FUR_FAULT_CAUSE = 0xA ∧ (s.scanNext sc).rd F.FUR_STAT_FAULT = 1))

/-- A faulting Furrow instruction has no effect and aborts the scan with its cause. With the scan at the instruction: an operand address beyond its memory faults with ADDR, a marked entry read with POISON, a divisor 0 with DIVZERO, a store into the constant region with CONSTWR, OPEN on a full stack with STACKOVF, CLOSE on an empty one with STACKUNF, END on a stack that is not empty with STACKEND, each by the abort of R296: data memory is as before, no scan runs, and the fault registers hold cause and address. (R289, R291, R295, R296, R304) -/
def Obligations.FurrowFaultsAbortTheScan : Prop :=
  (∀ (s : State) (sc : Scan) (x : Bool) (f : Nat), s.scanAt (.furLd x f) sc = true → 8192 ≤ sc.at x f →
      exec (.furLd x f) s = .next (s.furAbort sc 4 sc.pc)) ∧
    (∀ (s : State) (sc : Scan) (x : Bool) (f : Nat), s.scanAt (.furLd x f) sc = true → sc.at x f < 8192 → s.furBad 0 (sc.at x f) = true →
      exec (.furLd x f) s = .next (s.furAbort sc 7 sc.pc)) ∧
    (∀ (s : State) (sc : Scan) (x : Bool) (i : Nat), s.scanAt (.furDivw x i) sc = true → s.furClear 1 (sc.at x i) = true → s.furWord (sc.at x i) = 0 →
      exec (.furDivw x i) s = .next (s.furAbort sc 5 sc.pc)) ∧
    (∀ (s : State) (sc : Scan) (p : Prog) (x : Bool) (i : Nat), s.scanAt (.furStw x i) sc = true → sc.at x i < 2048 → s.fur.active = some p → p.isConst (sc.at x i) = true →
      exec (.furStw x i) s = .next (s.furAbort sc 6 sc.pc)) ∧
    (∀ (s : State) (sc : Scan) (op : Nat), s.scanAt (.furOpen op) sc = true → sc.stack.length = 16 →
      exec (.furOpen op) s = .next (s.furAbort sc 1 sc.pc)) ∧
    (∀ (s : State) (sc : Scan), s.scanAt .furClose sc = true → sc.stack = [] →
      exec .furClose s = .next (s.furAbort sc 2 sc.pc)) ∧
    (∀ (s : State) (sc : Scan), s.scanAt .furEnd sc = true → sc.stack ≠ [] →
      exec .furEnd s = .next (s.furAbort sc 3 sc.pc)) ∧
    (∀ (s : State) (sc : Scan) (cause addr : Nat), s.rd F.FUR_CTL_FAULTMAX = 0 → cause < 16 → addr < 65536 → cause ≠ 7 → cause ≠ 8 →
      (s.furAbort sc cause addr).fur = { s.fur with scan := none, aborted := true, lastOvr := sc.overrun } ∧
      (s.furAbort sc cause addr).rd F.FUR_FAULT_CAUSE = cause ∧ (s.furAbort sc cause addr).rd F.FUR_FAULTADDR_ADDR = addr ∧
      (s.furAbort sc cause addr).rd F.FUR_FAULTRUN_X = sc.x % 2 ^ 24 ∧ (s.furAbort sc cause addr).rd F.FUR_STAT_FAULT = 1)

/-- Each flag, stack and edge instruction of Furrow completes with its effect on a. With the running scan at the instruction's unmarked word, its operand within its memory and unmarked, the instruction gives the accumulator a the value of the opcode table, or stores a, and the scan goes on at the next address; OPEN pushes, CLOSE pops; FP and FN keep a in the edge memory. Nothing else of the state changes but what going on does. (R289, R290, R293, R294, R295) -/
def Obligations.FurrowFlagInstructionsComplete : Prop :=
  (∀ (s : State) (sc : Scan), s.scanAt (.furNop) sc = true → 
    Completes (.furNop) s (fun t => t = s.scanNext { sc with pc := sc.pc + 1 })) ∧
  (∀ (s : State) (sc : Scan) (x : Bool) (f : Nat), s.scanAt (.furLd x f) sc = true → s.furClear 0 (sc.at x f) = true → 
    Completes (.furLd x f) s (fun t => t = s.scanNext { sc with pc := sc.pc + 1, a := s.furFlag (sc.at x f) })) ∧
  (∀ (s : State) (sc : Scan) (x : Bool) (f : Nat), s.scanAt (.furLdn x f) sc = true → s.furClear 0 (sc.at x f) = true → 
    Completes (.furLdn x f) s (fun t => t = s.scanNext { sc with pc := sc.pc + 1, a := !s.furFlag (sc.at x f) })) ∧
  (∀ (s : State) (sc : Scan) (x : Bool) (f : Nat), s.scanAt (.furAnd x f) sc = true → s.furClear 0 (sc.at x f) = true → 
    Completes (.furAnd x f) s (fun t => t = s.scanNext { sc with pc := sc.pc + 1, a := sc.a && s.furFlag (sc.at x f) })) ∧
  (∀ (s : State) (sc : Scan) (x : Bool) (f : Nat), s.scanAt (.furAndn x f) sc = true → s.furClear 0 (sc.at x f) = true → 
    Completes (.furAndn x f) s (fun t => t = s.scanNext { sc with pc := sc.pc + 1, a := sc.a && !s.furFlag (sc.at x f) })) ∧
  (∀ (s : State) (sc : Scan) (x : Bool) (f : Nat), s.scanAt (.furOr x f) sc = true → s.furClear 0 (sc.at x f) = true → 
    Completes (.furOr x f) s (fun t => t = s.scanNext { sc with pc := sc.pc + 1, a := sc.a || s.furFlag (sc.at x f) })) ∧
  (∀ (s : State) (sc : Scan) (x : Bool) (f : Nat), s.scanAt (.furOrn x f) sc = true → s.furClear 0 (sc.at x f) = true → 
    Completes (.furOrn x f) s (fun t => t = s.scanNext { sc with pc := sc.pc + 1, a := sc.a || !s.furFlag (sc.at x f) })) ∧
  (∀ (s : State) (sc : Scan) (x : Bool) (f : Nat), s.scanAt (.furXor x f) sc = true → s.furClear 0 (sc.at x f) = true → 
    Completes (.furXor x f) s (fun t => t = s.scanNext { sc with pc := sc.pc + 1, a := xor sc.a (s.furFlag (sc.at x f)) })) ∧
  (∀ (s : State) (sc : Scan) (x : Bool) (f : Nat), s.scanAt (.furSt x f) sc = true → sc.at x f < 8192 → 
    Completes (.furSt x f) s (fun t => t = (s.setFlag (sc.at x f) sc.a).scanNext { sc with pc := sc.pc + 1 })) ∧
  (∀ (s : State) (sc : Scan) (x : Bool) (f : Nat), s.scanAt (.furStn x f) sc = true → sc.at x f < 8192 → 
    Completes (.furStn x f) s (fun t => t = (s.setFlag (sc.at x f) (!sc.a)).scanNext { sc with pc := sc.pc + 1 })) ∧
  (∀ (s : State) (sc : Scan) (x : Bool) (f : Nat), s.scanAt (.furSet x f) sc = true → sc.at x f < 8192 → 
    Completes (.furSet x f) s (fun t => t = (if sc.a = true then s.setFlag (sc.at x f) true else s).scanNext { sc with pc := sc.pc + 1 })) ∧
  (∀ (s : State) (sc : Scan) (x : Bool) (f : Nat), s.scanAt (.furRst x f) sc = true → sc.at x f < 8192 → 
    Completes (.furRst x f) s (fun t => t = (if sc.a = true then s.setFlag (sc.at x f) false else s).scanNext { sc with pc := sc.pc + 1 })) ∧
  (∀ (s : State) (sc : Scan), s.scanAt (.furNot) sc = true → 
    Completes (.furNot) s (fun t => t = s.scanNext { sc with pc := sc.pc + 1, a := !sc.a })) ∧
  (∀ (s : State) (sc : Scan) (bit : Bool), s.scanAt (.furLda bit) sc = true → 
    Completes (.furLda bit) s (fun t => t = s.scanNext { sc with pc := sc.pc + 1, a := bit })) ∧
  (∀ (s : State) (sc : Scan) (op : Nat), s.scanAt (.furOpen op) sc = true → sc.stack.length < 16 → 
    Completes (.furOpen op) s (fun t => t = s.scanNext { sc with pc := sc.pc + 1, stack := (sc.a, op) :: sc.stack })) ∧
  (∀ (s : State) (sc : Scan) (v : Bool) (op : Nat) (r : List (Bool × Nat)), s.scanAt (.furClose) sc = true → sc.stack = (v, op) :: r → op ≤ 2 → 
    Completes (.furClose) s (fun t => t = s.scanNext { sc with pc := sc.pc + 1, a := if op = 0 then v && sc.a else if op = 1 then v || sc.a else xor v sc.a, stack := r })) ∧
  (∀ (s : State) (sc : Scan) (x : Bool) (e : Nat), s.scanAt (.furFp x e) sc = true → s.furClear 4 (sc.at x e) = true → 
    Completes (.furFp x e) s (fun t => t = (s.setEdge (sc.at x e) sc.a).scanNext { sc with pc := sc.pc + 1, a := sc.a && !s.furEdge (sc.at x e) })) ∧
  (∀ (s : State) (sc : Scan) (x : Bool) (e : Nat), s.scanAt (.furFn x e) sc = true → s.furClear 4 (sc.at x e) = true → 
    Completes (.furFn x e) s (fun t => t = (s.setEdge (sc.at x e) sc.a).scanNext { sc with pc := sc.pc + 1, a := !sc.a && s.furEdge (sc.at x e) }))

/-- Each word instruction and comparison of Furrow completes with its effect on w, a or a word. With the running scan at the instruction's unmarked word and its operand within its memory and unmarked, arithmetic is exact and then saturated to 36 bits, a saturation sets SAT and leaves a, DIVW truncates towards zero for a divisor other than 0, comparisons are signed, bitwise operations act on 36 bits, STW and STWC store outside the constant region; the scan goes on at the next address and nothing else changes but what going on does. (R289, R290, R291) -/
def Obligations.FurrowWordInstructionsComplete : Prop :=
  (∀ (s : State) (sc : Scan) (x : Bool) (i : Nat), s.scanAt (.furLdw x i) sc = true → s.furClear 1 (sc.at x i) = true → 
    Completes (.furLdw x i) s (fun t => t = s.scanNext { sc with pc := sc.pc + 1, w := sat36 (s.furWord (sc.at x i)), sat := sc.sat || decide (sat36 (s.furWord (sc.at x i)) ≠ s.furWord (sc.at x i)) })) ∧
  (∀ (s : State) (sc : Scan) (imm : Int), s.scanAt (.furLdi imm) sc = true → 
    Completes (.furLdi imm) s (fun t => t = s.scanNext { sc with pc := sc.pc + 1, w := imm })) ∧
  (∀ (s : State) (sc : Scan) (x : Bool) (i : Nat), s.scanAt (.furStw x i) sc = true → sc.at x i < 2048 → (s.fur.active.map (fun p => p.isConst (sc.at x i))).getD false = false → 
    Completes (.furStw x i) s (fun t => t = (s.setWord (sc.at x i) sc.w).scanNext { sc with pc := sc.pc + 1 })) ∧
  (∀ (s : State) (sc : Scan) (x : Bool) (i : Nat), s.scanAt (.furStwc x i) sc = true → sc.at x i < 2048 → sc.a = true → (s.fur.active.map (fun p => p.isConst (sc.at x i))).getD false = false → 
    Completes (.furStwc x i) s (fun t => t = (if sc.a = true then s.setWord (sc.at x i) sc.w else s).scanNext { sc with pc := sc.pc + 1 })) ∧
  (∀ (s : State) (sc : Scan) (x : Bool) (i : Nat), s.scanAt (.furAddw x i) sc = true → s.furClear 1 (sc.at x i) = true → 
    Completes (.furAddw x i) s (fun t => t = s.scanNext { sc with pc := sc.pc + 1, w := sat36 (sc.w + s.furWord (sc.at x i)), sat := sc.sat || decide (sat36 (sc.w + s.furWord (sc.at x i)) ≠ sc.w + s.furWord (sc.at x i)) })) ∧
  (∀ (s : State) (sc : Scan) (x : Bool) (i : Nat), s.scanAt (.furSubw x i) sc = true → s.furClear 1 (sc.at x i) = true → 
    Completes (.furSubw x i) s (fun t => t = s.scanNext { sc with pc := sc.pc + 1, w := sat36 (sc.w - s.furWord (sc.at x i)), sat := sc.sat || decide (sat36 (sc.w - s.furWord (sc.at x i)) ≠ sc.w - s.furWord (sc.at x i)) })) ∧
  (∀ (s : State) (sc : Scan) (x : Bool) (i : Nat), s.scanAt (.furMulw x i) sc = true → s.furClear 1 (sc.at x i) = true → 
    Completes (.furMulw x i) s (fun t => t = s.scanNext { sc with pc := sc.pc + 1, w := sat36 (sc.w * s.furWord (sc.at x i)), sat := sc.sat || decide (sat36 (sc.w * s.furWord (sc.at x i)) ≠ sc.w * s.furWord (sc.at x i)) })) ∧
  (∀ (s : State) (sc : Scan) (x : Bool) (i : Nat), s.scanAt (.furDivw x i) sc = true → s.furClear 1 (sc.at x i) = true → s.furWord (sc.at x i) ≠ 0 → 
    Completes (.furDivw x i) s (fun t => t = s.scanNext { sc with pc := sc.pc + 1, w := sat36 (Int.tdiv sc.w (s.furWord (sc.at x i))), sat := sc.sat || decide (sat36 (Int.tdiv sc.w (s.furWord (sc.at x i))) ≠ Int.tdiv sc.w (s.furWord (sc.at x i))) })) ∧
  (∀ (s : State) (sc : Scan) (imm : Int), s.scanAt (.furAddi imm) sc = true → 
    Completes (.furAddi imm) s (fun t => t = s.scanNext { sc with pc := sc.pc + 1, w := sat36 (sc.w + imm), sat := sc.sat || decide (sat36 (sc.w + imm) ≠ sc.w + imm) })) ∧
  (∀ (s : State) (sc : Scan) (x : Bool) (i : Nat), s.scanAt (.furMinw x i) sc = true → s.furClear 1 (sc.at x i) = true → 
    Completes (.furMinw x i) s (fun t => t = s.scanNext { sc with pc := sc.pc + 1, w := sat36 (min sc.w (s.furWord (sc.at x i))), sat := sc.sat || decide (sat36 (min sc.w (s.furWord (sc.at x i))) ≠ min sc.w (s.furWord (sc.at x i))) })) ∧
  (∀ (s : State) (sc : Scan) (x : Bool) (i : Nat), s.scanAt (.furMaxw x i) sc = true → s.furClear 1 (sc.at x i) = true → 
    Completes (.furMaxw x i) s (fun t => t = s.scanNext { sc with pc := sc.pc + 1, w := sat36 (max sc.w (s.furWord (sc.at x i))), sat := sc.sat || decide (sat36 (max sc.w (s.furWord (sc.at x i))) ≠ max sc.w (s.furWord (sc.at x i))) })) ∧
  (∀ (s : State) (sc : Scan) (x : Bool) (i : Nat), s.scanAt (.furAndw x i) sc = true → s.furClear 1 (sc.at x i) = true → 
    Completes (.furAndw x i) s (fun t => t = s.scanNext { sc with pc := sc.pc + 1, w := sat36 (toSigned 36 (toPattern 36 sc.w &&& toPattern 36 (s.furWord (sc.at x i)))), sat := sc.sat || decide (sat36 (toSigned 36 (toPattern 36 sc.w &&& toPattern 36 (s.furWord (sc.at x i)))) ≠ toSigned 36 (toPattern 36 sc.w &&& toPattern 36 (s.furWord (sc.at x i)))) })) ∧
  (∀ (s : State) (sc : Scan) (x : Bool) (i : Nat), s.scanAt (.furOrw x i) sc = true → s.furClear 1 (sc.at x i) = true → 
    Completes (.furOrw x i) s (fun t => t = s.scanNext { sc with pc := sc.pc + 1, w := sat36 (toSigned 36 (toPattern 36 sc.w ||| toPattern 36 (s.furWord (sc.at x i)))), sat := sc.sat || decide (sat36 (toSigned 36 (toPattern 36 sc.w ||| toPattern 36 (s.furWord (sc.at x i)))) ≠ toSigned 36 (toPattern 36 sc.w ||| toPattern 36 (s.furWord (sc.at x i)))) })) ∧
  (∀ (s : State) (sc : Scan), s.scanAt (.furNeg) sc = true → 
    Completes (.furNeg) s (fun t => t = s.scanNext { sc with pc := sc.pc + 1, w := sat36 (-sc.w), sat := sc.sat || decide (sat36 (-sc.w) ≠ -sc.w) })) ∧
  (∀ (s : State) (sc : Scan), s.scanAt (.furAbs) sc = true → 
    Completes (.furAbs) s (fun t => t = s.scanNext { sc with pc := sc.pc + 1, w := sat36 sc.w.natAbs, sat := sc.sat || decide (sat36 sc.w.natAbs ≠ sc.w.natAbs) })) ∧
  (∀ (s : State) (sc : Scan) (x : Bool) (i : Nat), s.scanAt (.furCeq x i) sc = true → s.furClear 1 (sc.at x i) = true → 
    Completes (.furCeq x i) s (fun t => t = s.scanNext { sc with pc := sc.pc + 1, a := decide (sc.w = s.furWord (sc.at x i)) })) ∧
  (∀ (s : State) (sc : Scan) (x : Bool) (i : Nat), s.scanAt (.furCne x i) sc = true → s.furClear 1 (sc.at x i) = true → 
    Completes (.furCne x i) s (fun t => t = s.scanNext { sc with pc := sc.pc + 1, a := decide (sc.w ≠ s.furWord (sc.at x i)) })) ∧
  (∀ (s : State) (sc : Scan) (x : Bool) (i : Nat), s.scanAt (.furClt x i) sc = true → s.furClear 1 (sc.at x i) = true → 
    Completes (.furClt x i) s (fun t => t = s.scanNext { sc with pc := sc.pc + 1, a := decide (sc.w < s.furWord (sc.at x i)) })) ∧
  (∀ (s : State) (sc : Scan) (x : Bool) (i : Nat), s.scanAt (.furCle x i) sc = true → s.furClear 1 (sc.at x i) = true → 
    Completes (.furCle x i) s (fun t => t = s.scanNext { sc with pc := sc.pc + 1, a := decide (sc.w ≤ s.furWord (sc.at x i)) })) ∧
  (∀ (s : State) (sc : Scan) (x : Bool) (i : Nat), s.scanAt (.furCgt x i) sc = true → s.furClear 1 (sc.at x i) = true → 
    Completes (.furCgt x i) s (fun t => t = s.scanNext { sc with pc := sc.pc + 1, a := decide (sc.w > s.furWord (sc.at x i)) })) ∧
  (∀ (s : State) (sc : Scan) (x : Bool) (i : Nat), s.scanAt (.furCge x i) sc = true → s.furClear 1 (sc.at x i) = true → 
    Completes (.furCge x i) s (fun t => t = s.scanNext { sc with pc := sc.pc + 1, a := decide (sc.w ≥ s.furWord (sc.at x i)) })) ∧
  (∀ (s : State) (sc : Scan) (imm : Int), s.scanAt (.furCeqi imm) sc = true → 
    Completes (.furCeqi imm) s (fun t => t = s.scanNext { sc with pc := sc.pc + 1, a := decide (sc.w = imm) })) ∧
  (∀ (s : State) (sc : Scan) (imm : Int), s.scanAt (.furCnei imm) sc = true → 
    Completes (.furCnei imm) s (fun t => t = s.scanNext { sc with pc := sc.pc + 1, a := decide (sc.w ≠ imm) })) ∧
  (∀ (s : State) (sc : Scan) (imm : Int), s.scanAt (.furClti imm) sc = true → 
    Completes (.furClti imm) s (fun t => t = s.scanNext { sc with pc := sc.pc + 1, a := decide (sc.w < imm) })) ∧
  (∀ (s : State) (sc : Scan) (imm : Int), s.scanAt (.furClei imm) sc = true → 
    Completes (.furClei imm) s (fun t => t = s.scanNext { sc with pc := sc.pc + 1, a := decide (sc.w ≤ imm) })) ∧
  (∀ (s : State) (sc : Scan) (imm : Int), s.scanAt (.furCgti imm) sc = true → 
    Completes (.furCgti imm) s (fun t => t = s.scanNext { sc with pc := sc.pc + 1, a := decide (sc.w > imm) })) ∧
  (∀ (s : State) (sc : Scan) (imm : Int), s.scanAt (.furCgei imm) sc = true → 
    Completes (.furCgei imm) s (fun t => t = s.scanNext { sc with pc := sc.pc + 1, a := decide (sc.w ≥ imm) })) ∧
  (∀ (s : State) (sc : Scan) (n : Nat), s.scanAt (.furLdte n) sc = true → s.furClear 2 n = true → 
    Completes (.furLdte n) s (fun t => t = s.scanNext { sc with pc := sc.pc + 1, w := (s.furTimer n).et })) ∧
  (∀ (s : State) (sc : Scan) (n : Nat), s.scanAt (.furLdcv n) sc = true → s.furClear 3 n = true → 
    Completes (.furLdcv n) s (fun t => t = s.scanNext { sc with pc := sc.pc + 1, w := (s.furCounter n).cv })) ∧
  (∀ (s : State) (sc : Scan), s.scanAt (.furLdx) sc = true → 
    Completes (.furLdx) s (fun t => t = s.scanNext { sc with pc := sc.pc + 1, w := sc.x }))

/-- Each timer, counter and control instruction of Furrow completes with its effect. With the running scan at the instruction's unmarked word and its operands within their memories and unmarked: a timer takes ET, RUN, Q, IN and LAST as R292 gives them from the time since LAST and the preset, a counter CV, IN and Q as R293 does, RSTT and RSTC clear under a, LDT and LDC load Q; jumps take effect at once; REP begins its passes at X = 0 or skips its body for a count of 0; END with an empty stack ends the scan. (R289, R290, R292, R293, R294, R295) -/
def Obligations.FurrowTimersAndControlComplete : Prop :=
  (∀ (s : State) (sc : Scan) (base count n : Nat), s.scanAt (.furTon base count n) sc = true → s.furClear 2 n = true → (s.furCode (({ sc with pc := sc.pc + 1 } : Scan).passEnd).pc).isSome = true → 
    Completes (.furTon base count n) s (fun t => t = (s.setTimer n (t.furTimer n)).scanNext { sc with pc := sc.pc + 1, a := (t.furTimer n).q } ∧ (t.furTimer n).last = some sc.tlatch ∧ (t.furTimer n).inp = sc.a ∧
      (t.furTimer n).et = (if sc.a = true ∧ (s.furTimer n).inp = true then min ((s.furTimer n).et + ((sc.tlatch - (s.furTimer n).last.getD s.fur.timer0) / 1000)) (count * 10 ^ base * 1000) else 0) ∧ (t.furTimer n).q = (sc.a && decide (count * 10 ^ base * 1000 ≤ (t.furTimer n).et)) ∧ (t.furTimer n).run = (s.furTimer n).run)) ∧
  (∀ (s : State) (sc : Scan) (base count n : Nat), s.scanAt (.furTof base count n) sc = true → s.furClear 2 n = true → (s.furCode (({ sc with pc := sc.pc + 1 } : Scan).passEnd).pc).isSome = true → 
    Completes (.furTof base count n) s (fun t => t = (s.setTimer n (t.furTimer n)).scanNext { sc with pc := sc.pc + 1, a := (t.furTimer n).q } ∧ (t.furTimer n).last = some sc.tlatch ∧ (t.furTimer n).inp = sc.a ∧
      (t.furTimer n).et = (if sc.a = true ∨ (s.furTimer n).inp = true then 0 else if (s.furTimer n).run = true then min ((s.furTimer n).et + ((sc.tlatch - (s.furTimer n).last.getD s.fur.timer0) / 1000)) (count * 10 ^ base * 1000) else (s.furTimer n).et) ∧ (t.furTimer n).run = (if sc.a = true then false else if (s.furTimer n).inp = true then decide (0 < count * 10 ^ base * 1000) else (s.furTimer n).run && decide ((t.furTimer n).et < count * 10 ^ base * 1000)) ∧ (t.furTimer n).q = (sc.a || (t.furTimer n).run))) ∧
  (∀ (s : State) (sc : Scan) (base count n : Nat), s.scanAt (.furTp base count n) sc = true → s.furClear 2 n = true → (s.furCode (({ sc with pc := sc.pc + 1 } : Scan).passEnd).pc).isSome = true → 
    Completes (.furTp base count n) s (fun t => t = (s.setTimer n (t.furTimer n)).scanNext { sc with pc := sc.pc + 1, a := (t.furTimer n).q } ∧ (t.furTimer n).last = some sc.tlatch ∧ (t.furTimer n).inp = sc.a ∧
      (t.furTimer n).et = (if sc.a = true ∧ (s.furTimer n).inp = false ∧ (s.furTimer n).run = false then 0 else if (s.furTimer n).run = true then min ((s.furTimer n).et + ((sc.tlatch - (s.furTimer n).last.getD s.fur.timer0) / 1000)) (count * 10 ^ base * 1000) else (s.furTimer n).et) ∧ (t.furTimer n).run = (if sc.a = true ∧ (s.furTimer n).inp = false ∧ (s.furTimer n).run = false then decide (0 < count * 10 ^ base * 1000) else (s.furTimer n).run && decide ((t.furTimer n).et < count * 10 ^ base * 1000)) ∧ (t.furTimer n).q = (t.furTimer n).run)) ∧
  (∀ (s : State) (sc : Scan) (word n : Nat), s.scanAt (.furTonw word n) sc = true → s.furClear 1 word = true → s.furClear 2 n = true → (s.furCode (({ sc with pc := sc.pc + 1 } : Scan).passEnd).pc).isSome = true → 
    Completes (.furTonw word n) s (fun t => t = (s.setTimer n (t.furTimer n)).scanNext { sc with pc := sc.pc + 1, a := (t.furTimer n).q } ∧ (t.furTimer n).last = some sc.tlatch ∧ (t.furTimer n).inp = sc.a ∧
      (t.furTimer n).et = (if sc.a = true ∧ (s.furTimer n).inp = true then min ((s.furTimer n).et + ((sc.tlatch - (s.furTimer n).last.getD s.fur.timer0) / 1000)) ((clampI 0 34359738 (s.furWord word)).toNat * 1000) else 0) ∧ (t.furTimer n).q = (sc.a && decide ((clampI 0 34359738 (s.furWord word)).toNat * 1000 ≤ (t.furTimer n).et)) ∧ (t.furTimer n).run = (s.furTimer n).run)) ∧
  (∀ (s : State) (sc : Scan) (word n : Nat), s.scanAt (.furTofw word n) sc = true → s.furClear 1 word = true → s.furClear 2 n = true → (s.furCode (({ sc with pc := sc.pc + 1 } : Scan).passEnd).pc).isSome = true → 
    Completes (.furTofw word n) s (fun t => t = (s.setTimer n (t.furTimer n)).scanNext { sc with pc := sc.pc + 1, a := (t.furTimer n).q } ∧ (t.furTimer n).last = some sc.tlatch ∧ (t.furTimer n).inp = sc.a ∧
      (t.furTimer n).et = (if sc.a = true ∨ (s.furTimer n).inp = true then 0 else if (s.furTimer n).run = true then min ((s.furTimer n).et + ((sc.tlatch - (s.furTimer n).last.getD s.fur.timer0) / 1000)) ((clampI 0 34359738 (s.furWord word)).toNat * 1000) else (s.furTimer n).et) ∧ (t.furTimer n).run = (if sc.a = true then false else if (s.furTimer n).inp = true then decide (0 < (clampI 0 34359738 (s.furWord word)).toNat * 1000) else (s.furTimer n).run && decide ((t.furTimer n).et < (clampI 0 34359738 (s.furWord word)).toNat * 1000)) ∧ (t.furTimer n).q = (sc.a || (t.furTimer n).run))) ∧
  (∀ (s : State) (sc : Scan) (word n : Nat), s.scanAt (.furTpw word n) sc = true → s.furClear 1 word = true → s.furClear 2 n = true → (s.furCode (({ sc with pc := sc.pc + 1 } : Scan).passEnd).pc).isSome = true → 
    Completes (.furTpw word n) s (fun t => t = (s.setTimer n (t.furTimer n)).scanNext { sc with pc := sc.pc + 1, a := (t.furTimer n).q } ∧ (t.furTimer n).last = some sc.tlatch ∧ (t.furTimer n).inp = sc.a ∧
      (t.furTimer n).et = (if sc.a = true ∧ (s.furTimer n).inp = false ∧ (s.furTimer n).run = false then 0 else if (s.furTimer n).run = true then min ((s.furTimer n).et + ((sc.tlatch - (s.furTimer n).last.getD s.fur.timer0) / 1000)) ((clampI 0 34359738 (s.furWord word)).toNat * 1000) else (s.furTimer n).et) ∧ (t.furTimer n).run = (if sc.a = true ∧ (s.furTimer n).inp = false ∧ (s.furTimer n).run = false then decide (0 < (clampI 0 34359738 (s.furWord word)).toNat * 1000) else (s.furTimer n).run && decide ((t.furTimer n).et < (clampI 0 34359738 (s.furWord word)).toNat * 1000)) ∧ (t.furTimer n).q = (t.furTimer n).run)) ∧
  (∀ (s : State) (sc : Scan) (n : Nat), s.scanAt (.furRstt n) sc = true → 
    Completes (.furRstt n) s (fun t => t = (if sc.a = true then s.setTimer n { s.furTimer n with et := 0, q := false, run := false } else s).scanNext { sc with pc := sc.pc + 1 })) ∧
  (∀ (s : State) (sc : Scan) (n : Nat), s.scanAt (.furLdt n) sc = true → s.furClear 2 n = true → 
    Completes (.furLdt n) s (fun t => t = s.scanNext { sc with pc := sc.pc + 1, a := (s.furTimer n).q })) ∧
  (∀ (s : State) (sc : Scan) (word c : Nat), s.scanAt (.furCtu word c) sc = true → s.furClear 1 word = true → s.furClear 3 c = true → -2 ^ 35 ≤ (s.furCounter c).cv → (s.furCounter c).cv < 2 ^ 35 → (s.furCode (({ sc with pc := sc.pc + 1 } : Scan).passEnd).pc).isSome = true → 
    Completes (.furCtu word c) s (fun t => t = (s.setCounter c (t.furCounter c)).scanNext { sc with pc := sc.pc + 1, a := (t.furCounter c).q } ∧ (t.furCounter c).inp = sc.a ∧
      (t.furCounter c).cv = (if sc.a = true ∧ (s.furCounter c).inp = false then min ((s.furCounter c).cv + 1) (2 ^ 35 - 1) else (s.furCounter c).cv) ∧ (t.furCounter c).q = decide (s.furWord word ≤ (t.furCounter c).cv))) ∧
  (∀ (s : State) (sc : Scan) (word c : Nat), s.scanAt (.furCtd word c) sc = true → s.furClear 1 word = true → s.furClear 3 c = true → -2 ^ 35 ≤ (s.furCounter c).cv → (s.furCounter c).cv < 2 ^ 35 → (s.furCode (({ sc with pc := sc.pc + 1 } : Scan).passEnd).pc).isSome = true → 
    Completes (.furCtd word c) s (fun t => t = (s.setCounter c (t.furCounter c)).scanNext { sc with pc := sc.pc + 1, a := (t.furCounter c).q } ∧ (t.furCounter c).inp = sc.a ∧
      (t.furCounter c).cv = (if sc.a = true ∧ (s.furCounter c).inp = false then max ((s.furCounter c).cv - 1) (-2 ^ 35) else (s.furCounter c).cv) ∧ (t.furCounter c).q = decide ((t.furCounter c).cv ≤ 0))) ∧
  (∀ (s : State) (sc : Scan) (c : Nat), s.scanAt (.furRstc c) sc = true → 
    Completes (.furRstc c) s (fun t => t = (if sc.a = true then s.setCounter c { ({ s.furCounter c with cv := 0 } : Counter) with q := ({ s.furCounter c with cv := 0 } : Counter).qOf } else s).scanNext { sc with pc := sc.pc + 1 })) ∧
  (∀ (s : State) (sc : Scan) (c : Nat), s.scanAt (.furLdc c) sc = true → s.furClear 3 c = true → 
    Completes (.furLdc c) s (fun t => t = s.scanNext { sc with pc := sc.pc + 1, a := (s.furCounter c).q })) ∧
  (∀ (s : State) (sc : Scan) (target : Nat), s.scanAt (.furJmp target) sc = true → 
    Completes (.furJmp target) s (fun t => t = s.scanNext { sc with pc := target })) ∧
  (∀ (s : State) (sc : Scan) (target : Nat), s.scanAt (.furJc target) sc = true → 
    Completes (.furJc target) s (fun t => t = s.scanNext { sc with pc := if sc.a = true then target else sc.pc + 1 })) ∧
  (∀ (s : State) (sc : Scan) (target : Nat), s.scanAt (.furJnc target) sc = true → 
    Completes (.furJnc target) s (fun t => t = s.scanNext { sc with pc := if sc.a = true then sc.pc + 1 else target })) ∧
  (∀ (s : State) (sc : Scan) (n str len : Nat), s.scanAt (.furRep false n str len) sc = true → 
    Completes (.furRep false n str len) s (fun t => if n = 0 then t = s.scanNext { sc with pc := sc.pc + 1 + len, x := 0 } else t = s.scanNext { sc with pc := sc.pc + 1, x := 0, rep := some { start := sc.pc + 1, len := len, str := str, n := n, pass := 0 } })) ∧
  (∀ (s : State) (sc : Scan) (word str len n : Nat), s.scanAt (.furRep true word str len) sc = true → s.furClear 1 word = true → n = (clampI 0 65535 (s.furWord word)).toNat → 
    Completes (.furRep true word str len) s (fun t => if n = 0 then t = s.scanNext { sc with pc := sc.pc + 1 + len, x := 0 } else t = s.scanNext { sc with pc := sc.pc + 1, x := 0, rep := some { start := sc.pc + 1, len := len, str := str, n := n, pass := 0 } })) ∧
  (∀ (s : State) (sc : Scan), s.scanAt (.furEnd) sc = true → sc.stack = [] → 
    Completes (.furEnd) s (fun t => t.fur.scan = some { sc with pc := sc.pc + 1, ended := some s.now } ∧ t.fur.aborted = false ∧ t.fur.lastOvr = sc.overrun ∧ t.rd F.FUR_FAULTRUN_RUN = 0 ∧
      t.fur.words = s.fur.words ∧ t.fur.flags = s.fur.flags))

/-- Each drive, motion, protection and duty command of a valve channel completes with its effect. A write of VLV_CHn_CMD turns an idle channel on in its peak phase, or off, or is refused for its source or the bank's budget; at the end of its peak a channel holds at IHOLD and hands the peak slot on; a motion window closes as moved or not moved; a trip turns the bank off; clearing ends it; the duty limit cuts the drive and ends; a fault of a channel or Trowel turns it off until it is cleared; a pulse that runs out turns the channel off. (R309, R310, R311, R312, R314, R315, R316, R317, R318, R319, R321) -/
def Obligations.ValveDriveCommandsComplete : Prop :=
  (∀ (s : State) (a : Agent) (n : Nat) (v : W32), n < 48 → s.accepts a 0x0B (0x418 + 0x40 * n) = true → s.rd (F.VLV_CHn_CTL_SRC n) = 3 → s.carrier = some a → listedAt (Reg.VLV_CHn_CMD n) v = true → bitAt v.toNat 31 = true → s.vCan n = true → s.prop n = false → s.vOn n 0 = false → s.vOn n 11 = false → s.peakConflict n s.now = none → s.vlv.defq.any (fun c => decide (c / 4 = n / 4)) = false → 
    Completes (.valveUntimedCommand a n v) s (fun t => t.resp = .done ∧ (s.untimedOk n = true → t.vOn n 15 = true ∧ t.vOn n 0 = true ∧ t.vOn n 1 = true ∧ (t.valve n).lvl = s.rd (F.VLV_CHn_PEAK_IPEAK n) ∧ (t.valve n).ton = s.now ∧
      (t.valve n).peakEnd = s.now + s.rd (F.VLV_CHn_PEAK_TPEAK n) * 10000 ∧ t.rd (F.VLV_CHn_CMD_MA n) = getBits v 11 0) ∧
      (s.untimedOk n = false → t.vOn n 15 = s.vOn n 15 ∧ t.vOn n 0 = false ∧ t.rd F.VLV_BADCFG_CAUSE = 4 ∧ t.rd F.VLV_BADCFG_CH = n ∧ t.reg (Reg.VLV_CHn_CMD n) = s.reg (Reg.VLV_CHn_CMD n)))) ∧
  (∀ (s : State) (a : Agent) (n : Nat) (v : W32), n < 48 → s.accepts a 0x0B (0x418 + 0x40 * n) = true → s.rd (F.VLV_CHn_CTL_SRC n) = 3 → s.carrier = some a → listedAt (Reg.VLV_CHn_CMD n) v = true → bitAt v.toNat 31 = true → s.vCan n = true → s.prop n = false → s.vOn n 0 = false → s.vOn n 11 = false → s.untimedOk n = true → s.peakConflict n s.now ≠ none ∨ s.vlv.defq.any (fun c => decide (c / 4 = n / 4)) = true → 
    Completes (.valveUntimedCommand a n v) s (fun t => t.resp = .done ∧ t.vOn n 15 = true ∧ t.vOn n 11 = true ∧ t.vOn n 0 = false ∧ t.vlv.defq = s.vlv.defq ++ [n] ∧ t.rd F.VLV_CONFCNT_DEFER = satAdd F.VLV_CONFCNT_DEFER.width (s.rd F.VLV_CONFCNT_DEFER) 1)) ∧
  (∀ (s : State) (a : Agent) (n : Nat) (v : W32), n < 48 → s.accepts a 0x0B (0x418 + 0x40 * n) = true → s.rd (F.VLV_CHn_CTL_SRC n) = 3 → s.carrier = some a → listedAt (Reg.VLV_CHn_CMD n) v = true → bitAt v.toNat 31 = false → s.vOn n 11 = true ∨ s.vlv.defq.contains n = false → 
    Completes (.valveUntimedCommand a n v) s (fun t => t.resp = .done ∧ t.vOn n 15 = false ∧ t.vOn n 0 = s.valveSafeOn n ∧ t.vOn n 1 = false ∧ t.vOn n 2 = false ∧ (t.valve n).lvl = (if s.valveSafeOn n = true then safeLevel (s.fsApplied n) else 0))) ∧
  (∀ (s : State) (a : Agent) (n : Nat) (v : W32), n < 48 → s.accepts a 0x0B (0x418 + 0x40 * n) = true → s.rd (F.VLV_CHn_CTL_SRC n) ≠ 3 → 
    Completes (.valveUntimedCommand a n v) s (fun t => t.resp = .done ∧ t.rd F.VLV_BADCFG_CAUSE = 3 ∧ t.rd F.VLV_BADCFG_CH = n ∧ t.rd F.VLV_STAT_CFGREJ = 1 ∧ t.vlv = s.vlv ∧ t.reg (Reg.VLV_CHn_STAT n) = s.reg (Reg.VLV_CHn_STAT n))) ∧
  (∀ (s : State) (n : Nat), s.bedOn = true → n < s.code.valves → s.vOn n 1 = true → (s.valve n).peakEnd ≤ s.now → s.vlv.defq.contains n = false → 
    Completes (.peakPhaseEnd n) s (fun t => t.vOn n 1 = false ∧ t.vOn n 2 = true ∧ t.vOn n 0 = s.vOn n 0 ∧ (t.valve n).lvl = s.rd (F.VLV_CHn_HOLD_IHOLD n) ∧ (t.valve n).rep = none)) ∧
  (∀ (s : State) (n m : Nat), s.bedOn = true → n < s.code.valves → s.vOn n 1 = true → (s.valve n).peakEnd ≤ s.now → s.vlv.defq = [m] → m ≠ n → m / 4 = n / 4 → s.prop m = false → s.vlv.evs = [] → (bankChannels (n / 4)).all (fun c => decide (c = n) || !s.vOn c 1) = true → 
    Completes (.peakPhaseEnd n) s (fun t => t.vOn n 1 = false ∧ t.vOn m 0 = true ∧ t.vOn m 1 = true ∧ t.vOn m 11 = false ∧ t.vlv.defq = [] ∧ (t.valve m).ton = s.now)) ∧
  (∀ (s : State) (n : Nat) (reached : Bool) (depth us : Nat) (w : W32), s.bedOn = true → n < s.code.valves → (s.valve n).window = some w → reached = true ∨ (s.valve n).ton + getBits w 21 12 * 100000 ≤ s.now → 
    Completes (.dipWindowClose n reached depth us) s (fun t => (t.valve n).window = none ∧
      if getBits w 11 0 ≤ depth then t.vOn n 3 = true ∧ t.vOn n 4 = false ∧ t.rd (F.VLV_CHn_MOTION_DEPTH n) = min depth 65535 ∧ t.rd (F.VLV_CHn_MOTION_T n) = min us 65535 ∧ (t.valve n).dip = some (some (depth, us))
      else t.vOn n 4 = true ∧ t.vOn n 3 = false ∧ t.rd (F.VLV_CHn_MOTION_DEPTH n) = 0 ∧ t.rd (F.VLV_CHn_MOTION_T n) = 0xFFFF ∧ t.rd F.VLV_STAT_NOMOVE = 1 ∧ (t.valve n).dip = some none)) ∧
  (∀ (s : State) (b cause : Nat), s.bedOn = true → 4 * b < s.code.valves → cause = 1 ∨ cause = 2 → s.on (F.VLV_BANKk_STAT_HSON b) = true → 
    Completes (.bankTrip b cause) s (fun t => t.on (F.VLV_BANKk_STAT_FAULT b) = true ∧ t.rd (F.VLV_BANKk_STAT_FCAUSE b) = cause ∧ t.on (F.VLV_BANKk_STAT_HSON b) = false ∧ t.rd F.VLV_STAT_BANKFLT = 1 ∧
      (bankChannels b).all (fun c => t.vOn c 9 && !t.vOn c 0 && decide ((t.valve c).lvl = 0) && decide ((t.valve c).pulse = none)) = true)) ∧
  (∀ (s : State) (a : Agent) (b : Nat), b < 12 → s.accepts a 0x0B (0x080 + 8 * b) = true → 
    Completes (.bankFaultClear a b) s (fun t => t.resp = .done ∧ t.on (F.VLV_BANKk_STAT_FAULT b) = false ∧ (s.on (F.VLV_BANKk_STAT_FAULT b) = true → (bankChannels b).all (fun c => !t.vOn c 9) = true) ∧
      (s.on (F.VLV_BANKk_STAT_FAULT b) = false → t = s.done))) ∧
  (∀ (s : State) (n h : Nat), s.bedOn = true → n < s.code.valves → s.on (F.VLV_CHn_DUTY_EN n) = true → s.vOn n 5 = false → s.rd (F.VLV_CHn_DUTY_LIMIT n) * 256 ≤ h → s.vlv.defq.contains n = false → 
    Completes (.dutyLimitEntry n h) s (fun t => t.vOn n 5 = true ∧ t.rd F.VLV_STAT_DUTYLIM = 1 ∧ t.rd (F.VLV_CHn_DUTYUSE_USE n) = min h 65535 ∧ (s.on (F.VLV_CHn_DUTY_ACT n) = true → t.vOn n 0 = s.valveSafeOn n ∧ (t.valve n).lvl = (if s.valveSafeOn n = true then safeLevel (s.fsApplied n) else 0) ∧ (t.valve n).pulse = none) ∧
      (s.on (F.VLV_CHn_DUTY_ACT n) = false → s.vOn n 1 = true → t.vOn n 1 = false ∧ t.vOn n 2 = true ∧ (t.valve n).lvl = s.rd (F.VLV_CHn_HOLD_IHOLD n)))) ∧
  (∀ (s : State) (n h : Nat), s.bedOn = true → n < s.code.valves → s.on (F.VLV_CHn_DUTY_EN n) = true → s.vOn n 5 = false → s.rd (F.VLV_CHn_DUTY_LIMIT n) * 256 ≤ h → s.on (F.VLV_CHn_DUTY_ACT n) = false → s.vOn n 11 = true → s.vOn n 1 = false → s.vOn n 0 = false → 
    Completes (.dutyLimitEntry n h) s (fun t => t.vOn n 5 = true ∧ t.rd F.VLV_STAT_DUTYLIM = 1 ∧ t.vOn n 11 = false ∧ t.vOn n 0 = false ∧ t.vlv.defq.contains n = false)) ∧
  (∀ (s : State) (n h : Nat), s.bedOn = true → n < s.code.valves → s.vOn n 5 = true → h < s.rd (F.VLV_CHn_DUTY_LIMIT n) * 7 * 256 → 
    Completes (.dutyLimitExit n h) s (fun t => t.vOn n 5 = false ∧ t.vOn n 15 = s.vOn n 15 ∧ t.rd (F.VLV_CHn_DUTYUSE_USE n) = min h 65535)) ∧
  (∀ (s : State) (n kind : Nat), s.bedOn = true → n < s.code.valves → kind = 2 ∨ kind = 1 ∨ (kind = 0 ∧ s.vOn n 0 = true ∧ 100 ≤ (s.valve n).lvl) → 
    Completes (.valveChannelFault n kind) s (fun t => t.rd F.VLV_STAT_CHFLT = 1 ∧ t.mapOn Reg.VLV_FLTMAP_LO n = true ∧ t.vOn n (6 + kind) = true ∧ (t.valve n).pulse = none ∧
      (kind = 2 → t.on (F.VLV_TRWj_STAT_OT (n / 8)) = true ∧ (List.range 8).all (fun i => t.vOn (n / 8 * 8 + i) 8) = true))) ∧
  (∀ (s : State) (a : Agent) (hi : Bool) (v : W32) (n : Nat), n < s.code.valves → hi = decide (32 ≤ n) → s.accepts a 0x0B (0x028 + if hi then 4 else 0) = true → bitAt v.toNat (n % 32) = true → s.vOn n 8 = false ∨ s.on (F.VLV_TRWj_STAT_OT (n / 8)) = false → 
    Completes (.valveFaultClear a hi v) s (fun t => t.resp = .done ∧ t.mapOn Reg.VLV_FLTMAP_LO n = false ∧ (s.mapOn Reg.VLV_FLTMAP_LO n = true → t.vOn n 6 = false ∧ t.vOn n 7 = false ∧ t.vOn n 8 = false))) ∧
  (∀ (s : State) (n : Nat) (p : ValvePulse), s.bedOn = true → (s.valve n).pulse = some p → p.timed = false → p.stop ≤ s.now → s.vOn n 11 = false → s.vlv.defq.contains n = false → 
    Completes (.pulseEnd true n) s (fun t => (t.valve n).pulse = none ∧ t.vOn n 15 = false ∧ t.vOn n 0 = s.valveSafeOn n ∧ (t.valve n).lvl = (if s.valveSafeOn n = true then safeLevel (s.fsApplied n) else 0))) ∧
  (∀ (s : State) (n : Nat) (p : SwitchPulse) (x : Nat), s.bedOn = true → (s.sw n).pulse = some p → p.stop = some x → x ≤ s.now → 
    Completes (.pulseEnd false n) s (fun t => (t.sw n).pulse = none ∧ t.lOn n 1 = false))

/-- Each PULSE, SET and CANCEL descriptor, timed event and wear commit of the valve banks completes with its effect. A timed PULSE or SET that passes the checks of R320 in their order is accepted as an event, and one that fails a check completes with that check's status and adds none; an untimed one is refused where SRC is not 2 or turns the channel on or off at once; CANCEL removes the events of its channel and tag and cuts the running pulse of that tag; at its time the earliest event of a bank turns its channel on, or off, or is blocked; the wear counts move to the Root store. (R316, R320, R321, R322, R324, R328) -/
def Obligations.ValveTimedCommandsComplete : Prop :=
  (∀ (s : State) (q : Nat) (d : Desc) (e : ValveEvent), 32 ≤ q → q < 40 → s.running q 1 = some d → s.valveDesc d true = some e → d.tmode = 1 → d.started + 20000 ≤ e.t → 
    Completes (.vlvPulse q) s (fun t => if s.rd (F.VLV_CHn_CTL_SRC e.ch) ≠ 2 then t = s.complete q d { status := 0x40 }
      else if s.channelBusy e = true then t = s.complete q d { status := 0x45, estat := e.ch }
      else if e.on = true ∧ s.prop e.ch = false ∧ s.peakConflict e.ch e.t ≠ none then t = (s.inc F.VLV_CONFCNT_REFUSE).complete q d { status := 0x41, estat := (s.peakConflict e.ch e.t).getD 0 }
      else if e.on = true ∧ s.timedOk e = false then t.vlv.evs = s.vlv.evs ∧ t.rd F.VLV_CONFCNT_REFUSE = satAdd F.VLV_CONFCNT_REFUSE.width (s.rd F.VLV_CONFCNT_REFUSE) 1
      else if 16 ≤ s.bankLoad (e.ch / 4) then t = s.complete q d { status := 0x44 }
      else t = ({ s with vlv := { s.vlv with evs := s.vlv.evs ++ [e] } }).complete q d {})) ∧
  (∀ (s : State) (q : Nat) (d : Desc) (e : ValveEvent), 32 ≤ q → q < 40 → s.running q 1 = some d → s.valveDesc d true = some e → d.tmode = 1 → e.t < d.started + 20000 → 
    Completes (.vlvPulse q) s (fun t => t.vlv.evs = s.vlv.evs ∧ t.rd F.VLV_LATECNT_CNT = satAdd F.VLV_LATECNT_CNT.width (s.rd F.VLV_LATECNT_CNT) 1)) ∧
  (∀ (s : State) (q : Nat) (d : Desc) (e : ValveEvent), 32 ≤ q → q < 40 → s.running q 2 = some d → s.valveDesc d false = some e → d.tmode = 1 → d.started + 20000 ≤ e.t → 
    Completes (.vlvSet q) s (fun t => if s.rd (F.VLV_CHn_CTL_SRC e.ch) ≠ 2 then t = s.complete q d { status := 0x40 }
      else if s.channelBusy e = true then t = s.complete q d { status := 0x45, estat := e.ch }
      else if e.on = true ∧ s.prop e.ch = false ∧ s.peakConflict e.ch e.t ≠ none then t = (s.inc F.VLV_CONFCNT_REFUSE).complete q d { status := 0x41, estat := (s.peakConflict e.ch e.t).getD 0 }
      else if e.on = true ∧ s.timedOk e = false then t.vlv.evs = s.vlv.evs ∧ t.rd F.VLV_CONFCNT_REFUSE = satAdd F.VLV_CONFCNT_REFUSE.width (s.rd F.VLV_CONFCNT_REFUSE) 1
      else if 16 ≤ s.bankLoad (e.ch / 4) then t = s.complete q d { status := 0x44 }
      else t = ({ s with vlv := { s.vlv with evs := s.vlv.evs ++ [e] } }).complete q d {})) ∧
  (∀ (s : State) (q : Nat) (d : Desc) (e : ValveEvent), 32 ≤ q → q < 40 → s.running q 2 = some d → s.valveDesc d false = some e → d.tmode = 1 → e.t < d.started + 20000 → 
    Completes (.vlvSet q) s (fun t => t.vlv.evs = s.vlv.evs ∧ t.rd F.VLV_LATECNT_CNT = satAdd F.VLV_LATECNT_CNT.width (s.rd F.VLV_LATECNT_CNT) 1)) ∧
  (∀ (s : State) (q : Nat) (d : Desc) (e : ValveEvent), 32 ≤ q → q < 40 → s.running q 1 = some d → s.valveDesc d true = some e → d.tmode = 0 → s.rd (F.VLV_CHn_CTL_SRC e.ch) = 2 → s.vCan e.ch = true → s.prop e.ch = false → s.vOn e.ch 0 = false → s.vOn e.ch 11 = false → s.untimedOk e.ch = true → s.peakConflict e.ch s.now = none → s.vlv.defq.any (fun c => decide (c / 4 = e.ch / 4)) = false → 
    Completes (.vlvPulse q) s (fun t => t.vOn e.ch 15 = true ∧ t.vOn e.ch 0 = true ∧ t.vOn e.ch 1 = true ∧ (t.valve e.ch).pulse.map (fun p => (p.stop, p.tag, p.report, p.timed)) = some (s.now + d.le 24 4 * 1000, d.tag, bitAt d.eflags 0, false))) ∧
  (∀ (s : State) (q : Nat) (d : Desc) (e : ValveEvent), 32 ≤ q → q < 40 → s.running q 1 = some d → s.valveDesc d true = some e → d.tmode = 0 → 
    Completes (.vlvPulse q) s (fun t => if s.rd (F.VLV_CHn_CTL_SRC e.ch) ≠ 2 then t = s.complete q d { status := 0x40 }
      else if (s.valveCommand e.ch true (Frac.ofInt e.ma)).2 = false then t.vlv.evs = s.vlv.evs ∧ t.vOn e.ch 15 = s.vOn e.ch 15
      else t.vOn e.ch 15 = true ∧ (t.valve e.ch).pulse.map (fun p => (p.dur, p.tag, p.report, p.timed)) = some (d.le 24 4 * 1000, d.tag, bitAt d.eflags 0, false))) ∧
  (∀ (s : State) (q : Nat) (d : Desc), 32 ≤ q → q < 40 → s.running q 1 = some d → s.valveDesc d true = none → 
    Completes (.vlvPulse q) s (fun t => t = s.complete q d { status := 2 })) ∧
  (∀ (s : State) (q : Nat) (d : Desc) (e : ValveEvent), 32 ≤ q → q < 40 → s.running q 2 = some d → s.valveDesc d false = some e → d.tmode = 0 → 
    Completes (.vlvSet q) s (fun t => if s.rd (F.VLV_CHn_CTL_SRC e.ch) ≠ 2 then t = s.complete q d { status := 0x40 }
      else if e.on = false ∧ s.vlv.defq.any (fun c => decide (c / 4 = e.ch / 4)) = false then t.vOn e.ch 15 = false ∧ t.vOn e.ch 0 = s.valveSafeOn e.ch ∧ (t.valve e.ch).pulse = none ∧
      (t.valve e.ch).lvl = (if s.valveSafeOn e.ch = true then safeLevel (s.fsApplied e.ch) else 0)
      else if e.on = true ∧ s.vOn e.ch 11 = false ∧ s.vOn e.ch 0 = false ∧ s.vCan e.ch = true ∧ s.prop e.ch = false ∧ s.untimedOk e.ch = true ∧ s.peakConflict e.ch s.now = none ∧ s.vlv.defq.any (fun c => decide (c / 4 = e.ch / 4)) = false
      then t.vOn e.ch 15 = true ∧ t.vOn e.ch 0 = true ∧ t.vOn e.ch 1 = true else t.vlv.evs = s.vlv.evs)) ∧
  (∀ (s : State) (q : Nat) (d : Desc), 32 ≤ q → q < 40 → s.running q 3 = some d → d.le 16 1 < s.code.valves → d.tmode = 0 → 
    Completes (.vlvCancel q) s (fun t => t.vlv.evs = s.vlv.evs.filter (fun e => !(decide (e.ch = d.le 16 1) && decide (e.tag = d.le 20 2))) ∧
      ((s.valve (d.le 16 1)).pulse.map (fun p => p.tag) = some (d.le 20 2) → (t.valve (d.le 16 1)).pulse = none ∧ t.vOn (d.le 16 1) 15 = false))) ∧
  (∀ (s : State) (b : Nat) (e : ValveEvent), s.bedOn = true → 4 * b < s.code.valves → (bankChannels b).all (fun c => (s.valve c).pulse.all (fun p => !p.timed || decide (s.now < p.stop))) = true → s.nextEvent b = some e → s.vlv.defq.any (fun c => decide (c / 4 = b)) = false → 
    Completes (.timedValveEvent b) s (fun t => t.vlv.evs = s.vlv.evs.erase e ∧ (e.on = false → t.vOn e.ch 15 = false ∧ t.vOn e.ch 0 = s.valveSafeOn e.ch) ∧
      (e.on = true → (s.vCan e.ch = false ∨ s.vOn e.ch 5 = true) → t.vOn e.ch 0 = s.vOn e.ch 0 ∧ t.vOn e.ch 15 = (e.stop.isNone || s.vOn e.ch 15)) ∧
      (e.on = true → s.vCan e.ch = true → s.vOn e.ch 5 = false → s.prop e.ch = false → s.vOn e.ch 0 = false → s.vOn e.ch 11 = false → t.vOn e.ch 15 = true ∧ t.vOn e.ch 0 = true ∧
      t.vOn e.ch 1 = true ∧ (t.valve e.ch).pulse = (e.stop.map (fun p => ⟨p, p - e.t, e.tag, e.report, true⟩)).or (s.valve e.ch).pulse))) ∧
  (∀ (s : State), s.bedOn = true → s.vlv.lastCommit + 1000000000 ≤ s.now → 
    Completes (.wearCommit) s (fun t => t.vlv.wear = [] ∧ t.vlv.lastCommit = s.now ∧ (List.range 48).all (fun n => decide (t.valveWear n = s.valveWear n)) = true ∧ t.regs = s.regs))

/-- Each drive, shedding, protection, open-load and descriptor command of a load switch completes with its effect. A write of LSW_CHn_CMD turns a channel that may be driven on where its budget fits and holds it otherwise, or turns it off, or is refused for its source; a group above its limit by more than 3 A sheds the channel R336 chooses; clearing lets channels follow their command again; each millisecond moves the heating estimate of R338 and trips the wire; a fault turns the channel off until it may be cleared; open loads are shown and end; PULSE, SET and CANCEL act on the channel they name. (R333, R334, R335, R336, R337, R338, R339, R340, R341, R347, R348) -/
def Obligations.LoadSwitchCommandsComplete : Prop :=
  (∀ (s : State) (a : Agent) (n : Nat) (v : W32), n < 64 → s.accepts a 0x0C (0x108 + 0x10 * n) = true → s.rd (F.LSW_CHn_CTL_SRC n) = 3 → s.carrier = some a → listedAt (Reg.LSW_CHn_CMD n) v = true → bitAt v.toNat 31 = true → s.lCan n = true → s.pwm n = false → s.lOn n 0 = false → s.lOn n 3 = false → 
    Completes (.lswUntimedCommand a n v) s (fun t => t.resp = .done ∧ t.lOn n 1 = true ∧ (s.budFits n = true → t.lOn n 0 = true ∧ t.lOn n 3 = false ∧ t.lOn n 8 = false ∧ (t.sw n).ton = s.now) ∧
      (s.budFits n = false → t.lOn n 0 = false ∧ t.lOn n 3 = true))) ∧
  (∀ (s : State) (a : Agent) (n : Nat) (v : W32), n < 64 → s.accepts a 0x0C (0x108 + 0x10 * n) = true → s.rd (F.LSW_CHn_CTL_SRC n) = 3 → s.carrier = some a → listedAt (Reg.LSW_CHn_CMD n) v = true → bitAt v.toNat 31 = true → s.lCan n = true → s.pwm n = false → s.lOn n 0 = true ∨ (s.lOn n 3 = true ∧ (s.grp (groupOf n)).blocked = true) → 
    Completes (.lswUntimedCommand a n v) s (fun t => t.resp = .done ∧ t.lOn n 1 = true ∧ t.lOn n 0 = s.lOn n 0 ∧ t.lOn n 3 = s.lOn n 3 ∧ (t.sw n).duty = Frac.ofInt 1)) ∧
  (∀ (s : State) (a : Agent) (n : Nat) (v : W32), n < 64 → s.accepts a 0x0C (0x108 + 0x10 * n) = true → s.rd (F.LSW_CHn_CTL_SRC n) = 3 → s.carrier = some a → listedAt (Reg.LSW_CHn_CMD n) v = true → bitAt v.toNat 31 = false → 
    Completes (.lswUntimedCommand a n v) s (fun t => t.resp = .done ∧ t.lOn n 1 = false ∧ t.lOn n 3 = false ∧ t.lOn n 0 = (s.lOn n 0 && s.lswSafeOn n))) ∧
  (∀ (s : State) (a : Agent) (n : Nat) (v : W32), n < 64 → s.accepts a 0x0C (0x108 + 0x10 * n) = true → s.rd (F.LSW_CHn_CTL_SRC n) ≠ 3 → 
    Completes (.lswUntimedCommand a n v) s (fun t => t.resp = .done ∧ t.rd F.LSW_BADCFG_CAUSE = 3 ∧ t.rd F.LSW_BADCFG_CH = n ∧ t.rd F.LSW_STAT_CFGREJ = 1 ∧ t.lsw = s.lsw ∧ t.reg (Reg.LSW_CHn_STAT n) = s.reg (Reg.LSW_CHn_STAT n))) ∧
  (∀ (s : State) (means : List Nat) (g n : Nat), s.bedOn = true → s.lsw.lastShed + 10000000 ≤ s.now → g < 4 → s.rd (F.LSW_GRPg_STAT_LIM g) + 3000 < means.getD g 0 → s.shedChoice g = some n → 
    Completes (.shedEvaluation means) s (fun t => t.lsw.lastShed = s.now ∧ t.lOn n 4 = true ∧ t.mapOn Reg.LSW_SHEDMAP_LO n = true ∧ t.lOn n 0 = s.lswSafeOn n ∧ (t.grp g).blocked = true ∧ t.rd F.LSW_STAT_SHED = 1)) ∧
  (∀ (s : State) (means : List Nat), s.bedOn = true → s.lsw.lastShed + 10000000 ≤ s.now → 
    Completes (.shedEvaluation means) s (fun t => t.lsw.lastShed = s.now ∧ (List.range 4).all (fun g => decide (t.rd (F.LSW_GRPg_CUR_AVG g) = min (means.getD g 0) (maxOf (F.LSW_GRPg_CUR_AVG g).width))) = true ∧
      (List.range 4).all (fun g => (t.grp g).okSince.isSome == decide (means.getD g 0 ≤ s.rd (F.LSW_GRPg_STAT_LIM g))) = true)) ∧
  (∀ (s : State) (a : Agent) (hi : Bool) (v : W32) (n : Nat), n < 64 → hi = decide (32 ≤ n) → s.accepts a 0x0C (0x038 + if hi then 4 else 0) = true → bitAt v.toNat (n % 32) = true → 
    Completes (.shedClear a hi v) s (fun t => t.resp = .done ∧ t.mapOn Reg.LSW_SHEDMAP_LO n = false ∧ (s.mapOn Reg.LSW_SHEDMAP_LO n = true → t.lOn n 4 = false))) ∧
  (∀ (s : State) (meas : List (Nat × Nat × Nat)) (n busv : Nat) (m : Nat × Nat × Nat), s.bedOn = true → s.lsw.lastHeat + 1000000 ≤ s.now → s.lswCarried n = true → (meas.find? (fun x => decide (x.1 = n))).getD (n, 0, 0) = m → 
    Completes (.wireHeatUpdate meas busv) s (fun t => t.lsw.lastHeat = s.now ∧ t.heat n = (s.heat n).add (((Frac.ofInt ((m.2.1 ^ 2 : Nat) : Int)).sub (s.heat n)).mul ⟨1, 1000 * s.rd (F.LSW_CHn_CTL_TAU n)⟩) ∧
      ((s.wireLimit n).le (t.heat n) = true → t.lOn n 7 = true) ∧ t.rd F.LSW_BUSV_MV = min busv (maxOf F.LSW_BUSV_MV.width))) ∧
  (∀ (s : State) (meas : List (Nat × Nat × Nat)) (n busv : Nat) (m : Nat × Nat × Nat), s.bedOn = false → s.lswCarried n = true → (meas.find? (fun x => decide (x.1 = n))).getD (n, 0, 0) = m → 
    Completes (.wireHeatUpdate meas busv) s (fun t => t.heat n = (s.heat n).add (((Frac.ofInt ((m.2.1 ^ 2 : Nat) : Int)).sub (s.heat n)).mul ⟨1, 1000 * s.rd (F.LSW_CHn_CTL_TAU n)⟩) ∧ t.regs = s.regs)) ∧
  (∀ (s : State) (n kind : Nat), s.bedOn = true → s.lswCarried n = true → (kind = 0 ∧ (s.sw n).limSince.any (fun t0 => decide (t0 + s.rd (F.LSW_CHn_CTL_TLIM n) * 1000000 ≤ s.now)) = true) ∨ kind = 1 ∨ (kind = 2 ∧ (s.wireLimit n).le (s.heat n) = true ∧ s.lOn n 7 = false) → 
    Completes (.lswChannelFault n kind) s (fun t => t.lOn n (5 + kind) = true ∧ t.mapOn Reg.LSW_FLTMAP_LO n = true ∧ t.rd F.LSW_STAT_CHFLT = 1 ∧ t.lOn n 0 = false)) ∧
  (∀ (s : State) (a : Agent) (hi : Bool) (v : W32) (n : Nat), n < 64 → hi = decide (32 ≤ n) → s.accepts a 0x0C (0x028 + if hi then 4 else 0) = true → bitAt v.toNat (n % 32) = true → s.mapOn Reg.LSW_FLTMAP_LO n = true → 
    Completes (.lswFaultClear a hi v) s (fun t => t.resp = .done ∧ if s.clearable n = true then t.mapOn Reg.LSW_FLTMAP_LO n = false ∧ t.lOn n 5 = false ∧ t.lOn n 6 = false ∧ t.lOn n 7 = false
      else t.mapOn Reg.LSW_FLTMAP_LO n = true)) ∧
  (∀ (s : State) (n : Nat) (high : Bool), s.bedOn = true → s.lswCarried n = true → s.lOn n 0 = false → high = true → s.on (F.LSW_CHn_CTL_PUEN n) = true ∧ (s.sw n).offSince + 15000000 ≤ s.now → 
    Completes (.openLoadOff n high) s (fun t => t.lOn n 8 = high ∧ (high = true → s.lOn n 8 = false → t.mapOn Reg.LSW_OLMAP_LO n = true ∧ t.rd F.LSW_STAT_OPENLOAD = 1) ∧ (high = false → t.mapOn Reg.LSW_OLMAP_LO n = s.lOn n 9))) ∧
  (∀ (s : State) (n : Nat) (low : Bool), s.bedOn = true → s.lswCarried n = true → s.lOn n 0 = true → s.on (F.LSW_CHn_CTL_ONOL n) = true → (s.sw n).ton + 100000000 ≤ s.now → 
    Completes (.openLoadOn n low) s (fun t => t.lOn n 9 = low ∧ (low = true → s.lOn n 9 = false → t.mapOn Reg.LSW_OLMAP_LO n = true ∧ t.rd F.LSW_STAT_OPENLOAD = 1) ∧ (low = false → t.mapOn Reg.LSW_OLMAP_LO n = s.lOn n 8))) ∧
  (∀ (s : State) (q : Nat) (d : Desc) (n : Nat) (duty : Frac), 40 ≤ q → q < 48 → s.running q 1 = some d → s.lswDesc d true = some (n, duty) → 
    Completes (.lswPulse q) s (fun t => if s.rd (F.LSW_CHn_CTL_SRC n) ≠ 2 then t = (s.inc F.LSW_CONFCNT_REFUSED).complete q d { status := 0x40 }
      else t.lOn n 1 = true ∧ (t.sw n).pulse.map (fun p => (p.dur, p.tag)) = some (d.le 24 4 * 1000, d.tag) ∧ (t.sw n).duty = duty ∧
      (t.lOn n 0 = true → (t.sw n).pulse.map (fun p => p.stop) = some (some (s.now + d.le 24 4 * 1000))) ∧
      (s.lCan n = true → s.pwm n = false → s.lOn n 0 = false → s.lOn n 3 = false → t.lOn n 0 = s.budFits n))) ∧
  (∀ (s : State) (q : Nat) (d : Desc) (n : Nat) (duty : Frac), 40 ≤ q → q < 48 → s.running q 2 = some d → s.lswDesc d false = some (n, duty) → 
    Completes (.lswSet q) s (fun t => if s.rd (F.LSW_CHn_CTL_SRC n) ≠ 2 then t = (s.inc F.LSW_CONFCNT_REFUSED).complete q d { status := 0x40 }
      else t.lOn n 1 = decide (d.le 17 1 = 1) ∧ (t.sw n).pulse = none ∧ (t.sw n).duty = duty ∧ (d.le 17 1 = 0 → t.lOn n 0 = (s.lOn n 0 && s.lswSafeOn n)) ∧
      (d.le 17 1 = 1 → s.lCan n = true → s.pwm n = false → s.lOn n 0 = false → s.lOn n 3 = false → t.lOn n 0 = s.budFits n))) ∧
  (∀ (s : State) (q : Nat) (d : Desc), 40 ≤ q → q < 48 → s.running q 3 = some d → s.lswCarried (d.le 16 1) = true → d.tmode = 0 → 
    Completes (.lswCancel q) s (fun t => [40, 42, 46].all (fun p => (t.ring p).taken.all (fun x => x.running || !(decide (x.tmode = 1) && decide (x.tag = d.le 20 2) && decide (x.le 16 1 = d.le 16 1) && decide (x.op = 1 ∨ x.op = 2)))) = true ∧
      ((s.sw (d.le 16 1)).pulse.map (fun p => p.tag) = some (d.le 20 2) → (t.sw (d.le 16 1)).pulse = none ∧ t.lOn (d.le 16 1) 1 = false)))

/-- Each watchdog, fail-safe and fail-safe table command completes with its effect. A refresh in its window with the right sequence value restarts the watchdog and any other is an expiry; an expiry and the fail-safe request bring an IC and its channels into their fail-safe states; RESUME ends that state; the two keys open the table for 10 ms; a table that passes FSCHECK is committed by every carried IC; FSREAD writes the table as the ICs hold it. (R325, R326, R342, R343, R344, R345, R471) -/
def Obligations.OutputStageCommandsComplete : Prop :=
  (∀ (s : State) (ic : Nat) (r : Readback), s.bedOn = true → s.icCarried ic = true → s.on (icLink ic) = true → r.seqOk = true → (s.outIc ic).last + (s.outIc ic).period * 250000 ≤ s.now → s.now ≤ (s.outIc ic).last + (s.outIc ic).period * 1000000 → 
    Completes (.watchdogRefresh ic r) s (fun t => (t.outIc ic).last = s.now ∧ (t.outIc ic).period = s.icPeriod ic ∧ (t.outIc ic).fsafe = (s.outIc ic).fsafe ∧ t.rd (icSince ic) = 0)) ∧
  (∀ (s : State) (ic : Nat) (r : Readback), s.bedOn = true → s.icCarried ic = true → s.on (icLink ic) = true → r.seqOk = false ∨ s.now < (s.outIc ic).last + (s.outIc ic).period * 250000 ∨ (s.outIc ic).last + (s.outIc ic).period * 1000000 < s.now → 
    Completes (.watchdogRefresh ic r) s (fun t => (t.outIc ic).fsafe = true ∧ (t.outIc ic).last = s.now)) ∧
  (∀ (s : State) (ic : Nat), s.bedOn = true → s.icCarried ic = true → (s.outIc ic).last + (s.outIc ic).period * 1000000 < s.now → 
    Completes (.watchdogExpiry ic) s (fun t => (t.outIc ic).fsafe = true ∧ (t.outIc ic).last = s.now ∧ t.rd (icExp ic) = min (s.rd (icExp ic) + 1) 255 ∧
      ((s.outIc ic).fsafe = false → t.on (icFsafe ic) = true ∧ (icChannels ic).all (fun n => if ic < 6 then t.vOn n 13 else t.lOn n 12) = true))) ∧
  (∀ (s : State), s.bedOn = true → 
    Completes (.failsafeRequest) s (fun t => s.ics.all (fun i => (t.outIc i).fsafe && t.on (icReq i)) = true ∧ (s.ics.all (fun i => (s.outIc i).fsafe || (icChannels i).all (fun n => if i < 6 then t.vOn n 13 else t.lOn n 12))) = true)) ∧
  (∀ (s : State) (a : Agent) (ic : Nat), ic < 14 → s.accepts a (if ic < 6 then 0x0B else 0x0C) (if ic < 6 then 0x104 + 8 * ic else 0x064 + 8 * (ic - 6)) = true → 
    Completes (.outputStageResume a ic) s (fun t => t.resp = .done ∧ (t.outIc ic).fsafe = ((s.outIc ic).fsafe && ((s.outIc ic).locked || !s.on (icLink ic) || s.on (icReq ic))))) ∧
  (∀ (s : State) (a : Agent) (v : W32), s.accepts a 0x0C 0x014 = true → 
    Completes (.fsunlockWrite a v) s (fun t => if a = .scarecrow then t.resp = .done ∧ t.rd F.LSW_FSUNLOCK_STATE = (if s.rd F.LSW_FSUNLOCK_STATE = 0 ∧ getBits v 15 0 = 0xA5C3 then 1 else if s.rd F.LSW_FSUNLOCK_STATE = 1 ∧ getBits v 15 0 = 0x3C5A then 2 else 0) ∧
      t.lsw.openAt = (if s.rd F.LSW_FSUNLOCK_STATE = 1 ∧ getBits v 15 0 = 0x3C5A then some s.now else none)
      else t.resp = .error ∧ t.rd F.LSW_BADCFG_CAUSE = 5 ∧ t.rd F.LSW_FSUNLOCK_STATE = s.rd F.LSW_FSUNLOCK_STATE)) ∧
  (∀ (s : State) (t0 : Nat), s.lsw.openAt = some t0 → t0 + 10000000 ≤ s.now → 
    Completes (.fsunlockTimeout) s (fun t => t.rd F.LSW_FSUNLOCK_STATE = 0 ∧ t.lsw.openAt = none)) ∧
  (∀ (s : State) (d : Desc) (t0 : Nat), s.running 46 0x10 = some d → s.lsw.writing = none → s.inDoze = true → s.lsw.openAt = some t0 → s.rd F.LSW_FSUNLOCK_STATE = 2 → d.started < t0 + 10000000 → d.le 24 8 % 64 = 0 → inBedRange (d.le 24 8) 512 = true → (s.fslock.tokAsk 6 6 0xB).2 = true → s.fswriteStatus (d.le 24 8) (s.mem.readBytes (d.le 24 8) 512) = 0 → 
    Completes (.fswrite []) s (fun t => t.outs.tableVer = leAt (s.mem.readBytes (d.le 24 8) 512) 12 4 ∧ t.rd F.LSW_FSVER_VER = leAt (s.mem.readBytes (d.le 24 8) 512) 12 4 ∧ t.lsw.openAt = none ∧ t.lsw.writing = none ∧
      (List.range 112).all (fun k => !s.icCarried (icOf k) || decide (t.fsEntry k = tableEntry (s.mem.readBytes (d.le 24 8) 512) k)) = true)) ∧
  (∀ (s : State) (failed : List Nat) (d : Desc), s.running 46 0x10 = some d → s.lsw.writing = none → s.inDoze = false → 
    Completes (.fswrite failed) s (fun t => t.outs = s.outs ∧ t = s.fslock.complete 46 d { status := 0x46 })) ∧
  (∀ (s : State) (q : Nat) (d : Desc), 40 ≤ q → q < 48 → s.running q 0x11 = some d → 
    Completes (.fsread q) s (fun t => if d.le 24 8 % 64 ≠ 0 then t = s.complete q d { status := 2 }
      else if inBedRange (d.le 24 8) 512 = false then t = s.complete q d { status := 5 }
      else t = (s.put (d.le 24 8) s.fsImage).complete q d {}))

/-- Each CAN frame, error, recovery and transmit command completes with its effect. The pending frame with the lowest arbitration value starts; an acknowledged frame leaves and lowers TEC; a lost frame is pending again and an error raises TEC, above 255 to BUSOFF; a received frame ends ALONE and reaches the buffer its acceptance entry names; a receive error is counted; recovery returns to ACTIVE; SEND makes its frame pending; CANCEL removes the frames of its tag that have not begun. (R353, R355, R357, R359, R361, R362, R363, R365) -/
def Obligations.CanBusCommandsComplete : Prop :=
  (∀ (s : State) (c : Nat) (f : TxFrame), s.bedOn = true → c < s.code.cans → s.canState c = 2 → s.on (F.CAN_CHc_STAT_SUSP c) = false → s.onBus c = none → s.nextFrame c = some f → 
    Completes (.canFrameStart c) s (fun t => (t.ctl c).pend.length = (s.ctl c).pend.length ∧ t.onBus c = some { f with begun := true, starts := f.starts + 1, stamp := s.now / 1000 % 2 ^ 32, id := s.sentId c f } ∧ t.canState c = 2)) ∧
  (∀ (s : State) (c : Nat) (f : TxFrame), c < 8 → s.onBus c = some f → 
    Completes (.canFrameAcknowledged c) s (fun t => (t.ctl c).pend = (s.ctl c).pend.erase f ∧ (t.ctl c).tec = (s.ctl c).tec - 1 ∧ t.rd (F.CAN_CHc_ERRCNT_ACKSTREAK c) = 0 ∧ (f.marked = true → (t.ctl c).cancels = []) ∧
      (f.kind = .claim → (t.ctl c).claimAt = some s.now))) ∧
  (∀ (s : State) (c err : Nat) (f : TxFrame), c < 8 → s.onBus c = some f → err ≤ 6 → f.marked = false → s.canState c = 2 → 
    Completes (.canFrameLost c err) s (fun t => if err = 0 then t = s.swap c f [{ f with begun := false }]
      else t.rd (F.CAN_CHc_STAT_LASTERR c) = err ∧ t.onBus c = ((swapFrame f [{ f with begun := false }] (s.ctl c).pend).find? (fun g => g.begun)) ∧
      (t.ctl c).tec = (if err = 3 ∧ s.rd (F.CAN_CHc_STAT_ERRST c) = 1 then (s.ctl c).tec else (s.ctl c).tec + 8) ∧
      (¬ (err = 3 ∧ s.rd (F.CAN_CHc_STAT_ERRST c) = 1) → t.canState c = if 247 < (s.ctl c).tec then 4 else 2))) ∧
  (∀ (s : State) (c err inc : Nat), s.bedOn = true → c < s.code.cans → s.canState c = 2 ∨ s.canState c = 3 → 0 < err → err ≤ 6 → 
    Completes (.canReceiveError c err inc) s (fun t => t.rd (F.CAN_CHc_STAT_LASTERR c) = err ∧ t.rd (F.CAN_CHc_STAT_REC c) = min (s.rd (F.CAN_CHc_STAT_REC c) + inc) (maxOf (F.CAN_CHc_STAT_REC c).width) ∧ t.canState c = s.canState c)) ∧
  (∀ (s : State) (c : Nat) (f : CanFrame) (e : AccEntry) (l : List AccEntry), s.bedOn = true → c < s.code.cans → s.canState c = 2 ∨ s.canState c = 3 → f.sof ≤ s.now → f.remote = false → s.accAt c f.sof = e :: l → s.accMatch c e f.id = true → e.action = 1 → e.buf < s.rd (F.CAN_CHc_RXBUF_NBUF c) → s.rd (F.CAN_CHc_STAT_ERRST c) = 0 → s.rd (F.CAN_CHc_STAT_REC c) ≤ 127 → (s.ctl c).tec ≤ 127 → 
    Completes (.canFrameReceived c f) s (fun t => SMap.get (fun _ => 0) (t.ctl c).rxSeq e.buf = (SMap.get (fun _ => 0) (s.ctl c).rxSeq e.buf + 1) % 2 ^ 32 ∧ t.rd (F.CAN_CHc_STAT_ALONE c) = 0 ∧ t.rd (F.CAN_CHc_STAT_SUSP c) = 0 ∧ t.rd (F.CAN_CHc_ERRCNT_ACKSTREAK c) = 0 ∧
      (bitAt f.id 31 = false → t.mem = (s.put (bedStoreBase + s.rd (F.CAN_CHc_RXBUF_OFF c) * 128 + 128 * e.buf) (leBytes 4 ((SMap.get (fun _ => 0) (s.ctl c).rxSeq e.buf + 1) % 2 ^ 32) ++ leBytes 4 f.id ++ leBytes 8 s.now ++
      leBytes 4 (f.sof / 1000 % 2 ^ 32) ++ leBytes 1 (f.dlc + (if f.esi = true then 16 else 0)) ++ leBytes 1 c ++ leBytes 2 (dlcLen (bitAt f.id 30) f.dlc) ++ List.replicate 36 0 ++
      leBytes 4 ((SMap.get (fun _ => 0) (s.ctl c).rxSeq e.buf + 1) % 2 ^ 32) ++ fitBytes 64 (f.data.take (dlcLen (bitAt f.id 30) f.dlc)))).mem))) ∧
  (∀ (s : State) (c : Nat), c < 8 → s.bedOn = true → s.canState c = 4 → s.on (F.CAN_CHc_CTL_AUTOREC c) = true → 
    Completes (.busOffRecovery c) s (fun t => t.canState c = 2 ∧ (t.ctl c).tec = 0 ∧ t.rd (F.CAN_CHc_STAT_TEC c) = 0 ∧ t.rd (F.CAN_CHc_STAT_REC c) = 0 ∧ t.rd (F.CAN_CHc_STAT_ERRST c) = 0 ∧ (t.ctl c).pend = (s.ctl c).pend)) ∧
  (∀ (s : State) (a : Agent) (v : W32) (c : Nat), c < 8 → s.accepts a 0x0D 0x030 = true → bitAt v.toNat c = true → 
    Completes (.aloneClear a v) s (fun t => t.resp = .done ∧ t.on ⟨Reg.CAN_ALONEMAP, c, c⟩ = false ∧ (s.on ⟨Reg.CAN_ALONEMAP, c, c⟩ = true → t.rd (F.CAN_CHc_STAT_ALONE c) = 0 ∧ t.rd (F.CAN_CHc_STAT_SUSP c) = 0))) ∧
  (∀ (s : State) (c : Nat) (d : Desc) (id dlc : Nat) (sasub : Bool), c < 8 → (s.ring (48 + c)).taken.find? (fun d => d.running && decide (d.op = 1) && !(s.ctl c).pend.any (fun f => decide (f.kind = .ring d))) = some d → sendDesc d = some (id, dlc, sasub, none) → 
    Completes (.sendCmd (48 + c)) s (fun t => if s.canState c ≠ 2 ∧ s.canState c ≠ 4 then t = s.complete (48 + c) d { status := 0x40 }
      else if sasub = true ∧ s.noAddr c = true then t = s.complete (48 + c) d { status := 0x42 }
      else (t.ctl c).pend = (s.ctl c).pend ++ [{ kind := .ring d, id := id, dlc := dlc, data := (d.payload.drop 8).take (dlcLen (bitAt id 30) dlc), sasub := sasub }] ∧ t.mem = s.mem)) ∧
  (∀ (s : State) (c : Nat) (d : Desc), c < 8 → (s.ring (48 + c)).taken.find? (fun d => d.running && decide (d.op = 1) && !(s.ctl c).pend.any (fun f => decide (f.kind = .ring d))) = some d → sendDesc d = none → 
    Completes (.sendCmd (48 + c)) s (fun t => t = s.complete (48 + c) d { status := 2 })) ∧
  (∀ (s : State) (c : Nat) (d : Desc) (id dlc p : Nat) (sasub : Bool), c < 8 → (s.ring (48 + c)).taken.find? (fun d => d.running && decide (d.op = 1) && !(s.ctl c).pend.any (fun f => decide (f.kind = .ring d))) = some d → sendDesc d = some (id, dlc, sasub, some p) → s.canState c = 2 ∨ s.canState c = 4 → ¬ (sasub = true ∧ s.noAddr c = true) → 
    Completes (.sendCmd (48 + c)) s (fun t => if inBedRange p (dlcLen (bitAt id 30) dlc) = false then t = s.complete (48 + c) d { status := 5 }
      else if s.mem.poisoned p (dlcLen (bitAt id 30) dlc) = true then t = s.canPoison.complete (48 + c) d { status := 0x44 }
      else (t.ctl c).pend = (s.ctl c).pend ++ [{ kind := .ring d, id := id, dlc := dlc, data := s.mem.readBytes p (dlcLen (bitAt id 30) dlc), sasub := sasub }] ∧ t.mem = s.mem)) ∧
  (∀ (s : State) (c : Nat) (d : Desc), c < 8 → (s.ring (48 + c)).taken.find? (fun d => d.running && decide (d.op = 2) && !(s.ctl c).cancels.any (fun p => decide (p.1 = d))) = some d → d.tmode = 0 → 
    Completes (.canCancel (48 + c)) s (fun t => (t.ctl c).pend.any (fun f => f.hasTag (d.le 20 2) && !f.begun) = false ∧
      (((s.ctl c).pend.any (fun f => f.hasTag (d.le 20 2) && f.begun) = false → (t.ctl c).cancels = (s.ctl c).cancels ∧ (t.ctl c).pend = (s.ctl c).pend.filter (fun f => !f.hasTag (d.le 20 2)))) ∧
      ((s.ctl c).pend.any (fun f => f.hasTag (d.le 20 2) && f.begun) = true → (t.ctl c).cancels.length = (s.ctl c).cancels.length + 1)))

/-- Each CAN state, acceptance, address claim and partner command completes with its effect. Enabling starts a controller in the state of its MODE with no address; disabling ends its waiting frames and its address; a MODE write moves ACTIVE and LISTEN; detection takes the rates or fails; a valid acceptance table is copied; a claim sends Address Claimed, is held after 250 ms, is defended against a higher NAME and lost to a lower, and goes on after the back-off; partners time out and are cleared; a matching frame wakes a controller in standby. (R353, R354, R358, R366, R367, R368, R371) -/
def Obligations.CanControlCommandsComplete : Prop :=
  (∀ (s : State) (a : Agent) (c : Nat) (v : W32), c < 8 → s.accepts a 0x0D (0x100 + 0x40 * c) = true → s.on (F.CAN_CHc_CTL_EN c) = false → listedAt (Reg.CAN_CHc_CTL c) (setBits v 31 31 1) = true → 
    Completes (.canEnable a c v) s (fun t => t.resp = .done ∧ if 2 ≤ c ∧ getBits v 23 23 = 1 then t.can = s.can ∧ t.rd F.CAN_BADCFG_CAUSE = 5 ∧ t.rd F.CAN_STAT_CFGREJ = 1
      else t.on (F.CAN_CHc_CTL_EN c) = true ∧ t.canState c = (if getBits v 30 29 = 0 then 2 else if getBits v 30 29 = 1 then 3 else 1) ∧ (t.ctl c).pend = (s.ctl c).pend ∧ (t.ctl c).tec = 0 ∧ t.rd (F.CAN_CHc_CLAIM_CUR c) = 0xFE ∧ t.claimState c = 0)) ∧
  (∀ (s : State) (a : Agent) (c : Nat), c < 8 → s.accepts a 0x0D (0x100 + 0x40 * c) = true → s.on (F.CAN_CHc_CTL_EN c) = true → 2 ≤ c → getBits (s.reg (Reg.CAN_CHc_CTL c)) 23 23 = 0 → listedAt (Reg.CAN_CHc_CTL c) (setBits (s.reg (Reg.CAN_CHc_CTL c)) 31 31 0) = true → 
    Completes (.canDisable a c) s (fun t => t.resp = .done ∧ t.on (F.CAN_CHc_CTL_EN c) = false ∧ t.canState c = 0 ∧ (t.ctl c).pend = (s.ctl c).pend.filter (fun f => f.begun) ∧ t.claimState c = 0 ∧ t.rd (F.CAN_CHc_CLAIM_CUR c) = 0xFE)) ∧
  (∀ (s : State) (a : Agent) (c mode : Nat), c < 8 → mode ≤ 1 → s.accepts a 0x0D (0x100 + 0x40 * c) = true → s.on (F.CAN_CHc_CTL_EN c) = true → 2 ≤ c → getBits (s.reg (Reg.CAN_CHc_CTL c)) 23 23 = 0 → listedAt (Reg.CAN_CHc_CTL c) (setBits (s.reg (Reg.CAN_CHc_CTL c)) 30 29 mode) = true → s.rd (F.CAN_CHc_CTL_MODE c) ≠ mode → 
    Completes (.canModeWrite a c mode) s (fun t => t.resp = .done ∧ t.rd (F.CAN_CHc_CTL_MODE c) = mode ∧ t.canState c = (if mode = 0 ∧ s.canState c = 3 then 2 else if mode = 1 ∧ s.canState c = 2 then 3 else s.canState c) ∧
      (mode = 1 → s.canState c = 2 → t.claimState c = 0 ∧ t.rd (F.CAN_CHc_CLAIM_CUR c) = 0xFE))) ∧
  (∀ (s : State) (c nrate drate : Nat), s.bedOn = true → c < s.code.cans → s.canState c = 1 → nrate ≤ 3 → drate ≤ 4 → 
    Completes (.busRateDetect c nrate drate) s (fun t => t.canState c = 3 ∧ t.rd (F.CAN_CHc_BT_NRATE c) = nrate ∧ t.rd (F.CAN_CHc_BT_DRATE c) = drate ∧ t.rd (F.CAN_CHc_DET_DONE c) = 1 ∧ t.rd (F.CAN_CHc_DET_NFOUND c) = nrate ∧ t.rd (F.CAN_CHc_DET_DFOUND c) = drate)) ∧
  (∀ (s : State) (c : Nat), s.bedOn = true → c < s.code.cans → s.canState c = 1 → s.on (F.CAN_CHc_DET_FAIL c) = false → (s.ctl c).detSince + s.rd (F.CAN_CHc_DET_TMO c) * 1000000000 ≤ s.now → 
    Completes (.detectTimeout c) s (fun t => t.rd (F.CAN_CHc_DET_FAIL c) = 1 ∧ t.canState c = 1 ∧ t.can = s.can)) ∧
  (∀ (s : State) (a : Agent) (c : Nat) (v : W32), c < 8 → s.accepts a 0x0D (0x110 + 0x40 * c) = true → getBits v 31 23 ≤ 256 → getBits v 18 0 * 64 + getBits v 31 23 * 16 ≤ 0x2000000 → s.mem.poisoned (bedStoreBase + getBits v 18 0 * 64) (16 * getBits v 31 23) = false → (List.range (getBits v 31 23)).all (fun i => decide (s.mem.readLe (bedStoreBase + getBits v 18 0 * 64 + 16 * i + 10) 6 = 0) && (⟨s.mem.readLe (bedStoreBase + getBits v 18 0 * 64 + 16 * i) 4, s.mem.readLe (bedStoreBase + getBits v 18 0 * 64 + 16 * i + 4) 4, s.mem.readLe (bedStoreBase + getBits v 18 0 * 64 + 16 * i + 8) 1, s.mem.readLe (bedStoreBase + getBits v 18 0 * 64 + 16 * i + 9) 1⟩ : AccEntry).ok) = true → 
    Completes (.acceptanceTableCopy a c v) s (fun t => t.resp = .done ∧ (t.ctl c).acc.head? = some (s.now, (List.range (getBits v 31 23)).map (fun i => ⟨s.mem.readLe (bedStoreBase + getBits v 18 0 * 64 + 16 * i) 4, s.mem.readLe (bedStoreBase + getBits v 18 0 * 64 + 16 * i + 4) 4, s.mem.readLe (bedStoreBase + getBits v 18 0 * 64 + 16 * i + 8) 1, s.mem.readLe (bedStoreBase + getBits v 18 0 * 64 + 16 * i + 9) 1⟩)))) ∧
  (∀ (s : State) (c : Nat), s.bedOn = true → c < s.code.cans → s.canState c = 2 → s.on (F.CAN_CHc_CTL_CLAIM c) = true → s.claimState c = 0 → 
    Completes (.addressClaim c) s (fun t => t.claimState c = 1 ∧ t.rd (F.CAN_CHc_CLAIM_CUR c) = s.rd (F.CAN_CHc_CLAIM_PREF c) ∧ (t.ctl c).claimAt = none ∧
      (t.ctl c).pend.getLast?.map (fun f => (f.kind, f.id, f.data)) = some (.claim, 2 ^ 31 + 0x18EEFF00 + s.rd (F.CAN_CHc_CLAIM_PREF c), leBytes 8 (s.canName c)))) ∧
  (∀ (s : State) (c t0 : Nat), c < 8 → s.bedOn = true → s.claimState c = 1 → (s.ctl c).claimAt = some t0 → (s.ctl c).contests = [] → (s.ctl c).backoff = none → t0 + 250000000 ≤ s.now → 
    Completes (.claimHoldoffExpiry c) s (fun t => t.claimState c = 2 ∧ t.on ⟨Reg.CAN_CLAIMMAP, c, c⟩ = true ∧ t.can.ctl = s.can.ctl)) ∧
  (∀ (s : State) (c r name : Nat) (rest : List Nat), c < 8 → (s.ctl c).contests = name :: rest → 
    Completes (.claimContest c r) s (fun t => (t.ctl c).contests = rest ∧ (s.canName c < name → t.claimState c = s.claimState c ∧ (t.ctl c).pend.getLast?.map (fun f => (f.kind, f.id)) = some (.claim, 2 ^ 31 + 0x18EEFF00 + s.rd (F.CAN_CHc_CLAIM_CUR c))) ∧
      (name < s.canName c → t.rd (F.CAN_CHc_CLAIM_CUR c) = 0xFE ∧ (t.ctl c).lost = insertNat (s.rd (F.CAN_CHc_CLAIM_CUR c)) (s.ctl c).lost ∧
      (t.ctl c).backoff.map (fun b => b.1) = some (s.now + 600000 * (r % 256)) ∧ t.claimState c = if bitAt (s.canName c) 63 = true ∧ (t.freeAddress c).isSome = true then 1 else 3))) ∧
  (∀ (s : State) (c at0 : Nat) (able : Bool), c < 8 → (s.ctl c).backoff = some (at0, able) → at0 ≤ s.now → 
    Completes (.claimBackoffExpiry c) s (fun t => (t.ctl c).backoff = none ∧ (able = true → (s.freeAddress c).isSome = true → t.claimState c = 1 ∧ t.rd (F.CAN_CHc_CLAIM_CUR c) = (s.freeAddress c).getD 0 % 256) ∧
      (able = false ∨ s.freeAddress c = none → t.claimState c = 3 ∧ (t.ctl c).pend.getLast?.map (fun f => (f.kind, f.id)) = some (.claim, 2 ^ 31 + 0x18EEFFFE)))) ∧
  (∀ (s : State) (c : Nat), c < 8 → (s.ctl c).asked = true → s.claimState c ≠ 0 → 
    Completes (.claimRequest c) s (fun t => (t.ctl c).asked = false ∧ (t.ctl c).pend.getLast?.map (fun f => (f.kind, f.id)) = some (.claim, 2 ^ 31 + 0x18EEFF00 + if s.claimState c = 3 then 0xFE else s.rd (F.CAN_CHc_CLAIM_CUR c)))) ∧
  (∀ (s : State) (k : Nat), s.bedOn = true → k < 256 → s.can.stopped = false → s.ptnState k = 1 → s.rd F.CAN_PTNCFG_TMO ≠ 0 → SMap.get (fun _ => 0) s.can.seen k + s.rd F.CAN_PTNCFG_TMO * 1000000000 ≤ s.now → 
    Completes (.partnerTimeout k) s (fun t => t.ptnState k = 2 ∧ t.ptnAddr k = s.ptnAddr k ∧ t.rd F.CAN_STAT_PTN = 1 ∧ t.can = s.can)) ∧
  (∀ (s : State) (a : Agent) (v : W32), s.accepts a 0x0D 0x020 = true → 
    Completes (.partnerClear a v) s (fun t => t.resp = .done ∧ if s.badArea Reg.CAN_PTNCFG (getBits v 12 0 * 4096) 4096 = true then t.can = s.can ∧ t.rd F.CAN_BADCFG_CAUSE = 3
      else t.can.names = [] ∧ t.can.seen = [] ∧ t.can.stopped = false ∧ t.rd F.CAN_PTNCNT_LIVE = 0 ∧ (List.range 256).all (fun k => decide (t.ptnState k = 0)) = true)) ∧
  (∀ (s : State) (c id : Nat) (w1 w2 : W32), s.rootOn = true → s.pwr.wuf.find? (fun w => decide (w.1 = c)) = some (c, w1, w2) → bitAt id 31 = bitAt w1.toNat 31 → id % 2 ^ 29 &&& w2.toNat % 2 ^ 29 = w1.toNat % 2 ^ 29 &&& w2.toNat % 2 ^ 29 → 
    Completes (.selectiveWake c (some id)) s (fun t => t.pwr.canWake = s.pwr.canWake ++ [(c, 0)]))

/-- Each frame, link, gPTP, gate and ring command of the Ethernet switch completes with its effect. A frame for a known unicast address leaves by its port and its source is learned; an oversize one is only counted; a link comes up or goes down; a PTP mark is a reference mark; another grandmaster is followed; a gate list waits for its cycle and then comes into force, and held frames start; filtering entries are set, removed and aged; templates, transmit and receive buffers are taken; a remote I/O frame is written to its slot; a lidar datagram advances its write position. (R373, R374, R375, R376, R377, R378, R379, R381, R382, R383) -/
def Obligations.SwitchCommandsComplete : Prop :=
  (∀ (s : State) (port tarr p : Nat) (f : EthFrame) (e : FdbEntry), s.canopyOn = true → s.linkUp port = true → s.rioOf port f = none → s.intakeOf f = none → s.isService port f = false → ethSize f ≤ s.frameMax port → s.fdbFind f.dst (s.vlanOf port f) = some e → e.ports = 2 ^ p → p < 7 → p ≠ port → s.linkUp p = true → f.dst ≠ s.ethMac → f.dst ≠ s.ethMac + 1 → f.dst / 16 ≠ 0x0180C200000 → f.dst ≠ f.src → (s.gateList p).entries = [] → ethSize f ≤ s.frameMax p → 
    Completes (.ethFrameForward port f tarr) s (fun t => t.rd (F.ETH_Pp_RXFR_CNT port) = min (s.rd (F.ETH_Pp_RXFR_CNT port) + 1) (maxOf (F.ETH_Pp_RXFR_CNT port).width) ∧ t.rd (F.ETH_Pp_TXFR_CNT p) = min (s.rd (F.ETH_Pp_TXFR_CNT p) + 1) (maxOf (F.ETH_Pp_TXFR_CNT p).width) ∧ t.eth.out = s.eth.out ∧
      (groupMac f.src = false → s.fdbFind f.src (s.vlanOf port f) = none → s.eth.fdb.length < 4096 → t.fdbFind f.src (s.vlanOf port f) = some ⟨f.src, s.vlanOf port f, 2 ^ port, false, s.now⟩))) ∧
  (∀ (s : State) (port tarr : Nat) (f : EthFrame), s.canopyOn = true → s.linkUp port = true → s.rioOf port f = none → s.intakeOf f = none → s.isService port f = false → s.frameMax port < ethSize f → 
    Completes (.ethFrameForward port f tarr) s (fun t => t = s.frameIn port)) ∧
  (∀ (s : State) (port : Nat) (pdelay : Option Nat), s.canopyOn = true → s.code.hasPort port = true → s.on (F.ETH_Pp_CTL_EN port) = true → s.on (F.ETH_Pp_STAT_LINK port) = false → 
    Completes (.ethLinkChange port true pdelay) s (fun t => t.linkUp port = true ∧ t.on (F.ETH_Pp_STAT_ASCAP port) = (pdelay.isSome && s.on (F.ETH_Pp_CTL_PTPEN port) && s.on F.ETH_PTPCTL_EN) ∧ t.rd F.ETH_STAT_LINK = 1)) ∧
  (∀ (s : State) (port : Nat) (pdelay : Option Nat), s.canopyOn = true → s.linkUp port = true → 
    Completes (.ethLinkChange port false pdelay) s (fun t => t.linkUp port = false ∧ t.on (F.ETH_Pp_STAT_ASCAP port) = false ∧ t.rd (F.ETH_Pp_STAT_PTPROLE port) = 0 ∧ t.rd F.ETH_STAT_LINK = 1 ∧ t.eth = s.eth)) ∧
  (∀ (s : State) (stamp sec : Nat) (rateErr : Int), s.canopyOn = true → s.on F.ETH_PTPCTL_EN = true → s.rd F.ETH_PTPSTAT_SLAVE ≠ 0xF → s.linkUp (s.rd F.ETH_PTPSTAT_SLAVE) = true → 
    Completes (.ptpMark stamp sec rateErr) s (fun t => t = s.refMark 2 stamp ((sec - 315964819) * 1000000000) rateErr)) ∧
  (∀ (s : State) (gm : Nat) (own : Bool) (slave steps : Nat) (roles : List Nat), s.canopyOn = true → s.on F.ETH_PTPCTL_EN = true → gm ≠ s.eth.gm → own = true → s.rd F.SDL_CTL_MODE ≠ 2 → own = false → s.linkUp slave = true ∧ s.on (F.ETH_Pp_CTL_PTPEN slave) = true → 
    Completes (.grandmasterChange gm own slave steps roles) s (fun t => t.eth.gm = gm ∧ t.on F.ETH_PTPSTAT_GM = own ∧ t.rd F.ETH_PTPSTAT_SLAVE = (if own = true then 0xF else slave) ∧ t.rd F.ETH_STAT_PTP = 1)) ∧
  (∀ (s : State) (d : Desc) (n : Nat), (s.ring 80).taken.find? (fun d => d.running && decide (d.op = 0x10) && !s.eth.gclWait.any (fun w => decide (w.desc = d))) = some d → s.code.hasPort (d.le 16 1) = true → s.memOk (d.le 24 8) (8 * d.le 17 1) = true → s.mem.poisoned (d.le 24 8) (8 * d.le 17 1) = false → s.gclOk (d.le 24 8) (d.le 17 1) (d.le 20 4) = true → (⟨s.gclEntries (d.le 24 8) (d.le 17 1), d.le 20 4⟩ : GateList).startAt (if d.tmode = 1 then max d.deadline d.started else d.started) = n → 
    Completes (.gclload) s (fun t => t.eth.gclWait.any (fun w => decide (w.port = d.le 16 1)) = decide (s.now < n) ∧
      (n ≤ s.now → t.gateList (d.le 16 1) = ⟨s.gclEntries (d.le 24 8) (d.le 17 1), d.le 20 4⟩ ∧ t.on (F.ETH_Pp_GCL_ACTIVE (d.le 16 1)) = true) ∧
      (s.now < n → t.gateList (d.le 16 1) = s.gateList (d.le 16 1)))) ∧
  (∀ (s : State) (port : Nat) (w : GclWait), s.canopyOn = true → s.code.hasPort port = true → s.eth.gclWait = [w] → w.port = port → w.start ≤ s.now → 
    Completes (.gateOpen port) s (fun t => t.eth.gclWait = [] ∧ t.gateList port = w.list ∧ t.on (F.ETH_Pp_GCL_ACTIVE port) = true)) ∧
  (∀ (s : State) (port : Nat) (e : EgFrame), s.canopyOn = true → s.eth.gclWait = [] → s.eth.out = [e] → e.port = port → s.mayStartAt e s.now = true → e.cls < 8 → 
    Completes (.gateOpen port) s (fun t => t.eth.out = [] ∧ t.rd (F.ETH_Pp_TXFR_CNT port) = min (s.rd (F.ETH_Pp_TXFR_CNT port) + 1) (maxOf (F.ETH_Pp_TXFR_CNT port).width) ∧ t.rd F.ETH_BUFUSE_NOW = 0)) ∧
  (∀ (s : State) (d : Desc), s.running 80 0x11 = some d → d.le 33 1 ≤ 1 → d.le 30 2 ≤ 4094 → 
    Completes (.fdbset) s (fun t => (d.le 33 1 = 0 → t.fdbFind (d.le 24 6) (d.le 30 2) = none) ∧
      (d.le 33 1 = 1 → s.eth.fdb.length < 4096 → (List.range 7).all (fun p => !bitAt (d.le 32 1) p || s.code.hasPort p) = true → t.fdbFind (d.le 24 6) (d.le 30 2) = some ⟨d.le 24 6, d.le 30 2, d.le 32 1, true, s.now⟩))) ∧
  (∀ (s : State) (mac vid : Nat) (e : FdbEntry), s.canopyOn = true → s.fdbFind mac vid = some e → e.static = false → e.seen + s.rd F.ETH_FDBAGE_AGE * 1000000000 ≤ s.now → 
    Completes (.fdbEntryAgeing mac vid) s (fun t => t.fdbFind mac vid = none ∧ t.eth.fdb = s.eth.fdb.filter (fun x => !(decide (x.mac = mac) && decide (x.vid = vid))) ∧ t.regs = s.regs)) ∧
  (∀ (s : State) (d : Desc), s.running 80 0x12 = some d → d.le 16 1 < 32 → 0 < d.le 32 2 → d.le 32 2 ≤ s.rd (F.ETH_RIOs_CFG_LEN (d.le 16 1)) → s.memOk (d.le 24 8) (d.le 32 2) = true → s.mem.poisoned (d.le 24 8) (d.le 32 2) = false → 
    Completes (.riotpl) s (fun t => if s.on (F.ETH_RIOs_CFG_DIR (d.le 16 1)) = true then SMap.get (fun _ => []) t.eth.tpl (d.le 16 1) = s.mem.readBytes (d.le 24 8) (d.le 32 2)
      else t = s.complete 80 d { status := 0x41 })) ∧
  (∀ (s : State) (d : Desc) (p : Nat), (s.ring 82).taken.find? (fun d => d.running && decide (d.op = 1) && !s.eth.out.any (fun e => decide (e.desc = some d))) = some d → 14 ≤ d.le 32 2 → d.le 32 2 ≤ 9018 → p < 7 → d.le 34 1 = 2 ^ p → s.memOk (d.le 24 8) (d.le 32 2) = true → s.mem.poisoned (d.le 24 8) (d.le 32 2) = false → s.linkUp p = true → (s.gateList p).entries = [] → ethSize (parseFrame (s.mem.readBytes (d.le 24 8) (d.le 32 2))) ≤ s.frameMax p → 
    Completes (.xmit) s (fun t => t = (s.inc (F.ETH_Pp_TXFR_CNT p)).complete 82 d { bytes := resultOf [(24, 8, s.now)] })) ∧
  (∀ (s : State) (d : Desc), (s.ring 84).taken.find? (fun d => d.running && decide (d.op = 2) && !s.eth.posted.contains d) = some d → 
    Completes (.rxbuf) s (fun t => if d.le 24 8 % 64 ≠ 0 ∨ d.le 32 2 < 1536 then t = s.complete 84 d { status := 2 }
      else if s.memOk (d.le 24 8) (d.le 32 2) = false then t = s.complete 84 d { status := 5 }
      else t = { s with eth := { s.eth with posted := s.eth.posted ++ [d] } })) ∧
  (∀ (s : State) (port tarr n : Nat) (f : EthFrame), s.canopyOn = true → s.linkUp port = true → s.rioOf port f = some n → 
    Completes (.rioInputFrame port f tarr) s (fun t => if f.payload.length < s.rd (F.ETH_RIOs_CFG_LEN n) then t = (s.frameIn port).inc (F.ETH_RIOs_STAT_SHORT n)
      else t.rd (F.ETH_RIOs_STAT_FRAMES n) = min (s.rd (F.ETH_RIOs_STAT_FRAMES n) + 1) (maxOf (F.ETH_RIOs_STAT_FRAMES n).width) ∧
      (s.on F.ETH_RIOCTL_EN = true → SMap.get (fun _ => 0) t.eth.seq n = (SMap.get (fun _ => 0) s.eth.seq n + 1) % 2 ^ 32) ∧ (s.on F.ETH_RIOCTL_EN = false → t.eth = s.eth ∧ t.bridge = s.bridge))) ∧
  (∀ (s : State) (port tarr m src dst dport : Nat) (frag late sync : Bool) (f : EthFrame) (data : Bytes), s.canopyOn = true → s.linkUp port = true → s.isService port f = false → udpOf f = some (src, dst, frag, dport, data) → s.udpEntry src dst dport = some m → s.on (F.ETH_UDPm_CTL_COPY m) = false → 
    Completes (.udpIntake port f tarr late sync) s (fun t => if frag = true ∨ late = true ∨ s.decodes (SMap.get (fun _ => []) s.eth.layouts m) data = false then t.rd (F.ETH_UDPm_DROP_CNT m) = min (s.rd (F.ETH_UDPm_DROP_CNT m) + 1) (maxOf (F.ETH_UDPm_DROP_CNT m).width) ∧ t.mem = s.mem
      else leAt (SMap.get (fun _ => []) s.eth.layouts m) 0 1 = 1 → t.rd (F.ETH_LIDu_WPOS_WPOS (leAt (SMap.get (fun _ => []) s.eth.layouts m) 1 1)) =
      (s.rd (F.ETH_LIDu_WPOS_WPOS (leAt (SMap.get (fun _ => []) s.eth.layouts m) 1 1)) + ((lidarPlaces (SMap.get (fun _ => []) s.eth.layouts m)).filter (fun p => decide (lidarField (SMap.get (fun _ => []) s.eth.layouts m) data 0 p.1 p.2 ≠ 0))).length) % 2 ^ 32))

/-- Each NVMe session command and service access completes with its effect. An address ETH_ALLOWk does not list is rejected and counted; an administration queue opens a controller whose number the completion carries; properties, features, log pages, identification and keep-alive are answered, 2 Invalid Field for anything else; an event request waits or is paid; a disconnect closes the connection; a service access is carried out word by word and answered on port 6. Bytes the spec leaves open are free and not pinned here. (R384, R388, R446, R458) -/
def Obligations.TargetSessionCommandsComplete : Prop :=
  (∀ (s : State) (conn addr qid kato : Nat), s.targetOn = true → 
    Completes (.nvmeConnect conn addr qid kato) s (fun t => (s.hostAllowed addr = false → t.eth.conns = s.eth.conns ∧ t.rd F.ETH_NVMESTAT_REJ = min (s.rd F.ETH_NVMESTAT_REJ + 1) (maxOf F.ETH_NVMESTAT_REJ.width) ∧ t.ter.cpls = s.ter.cpls) ∧
      (s.hostAllowed addr = true → qid = 0 → s.hostConn conn = none → s.eth.conns.length < s.rd F.ETH_NVMECTL_MAXCONN → t.eth.conns.length = s.eth.conns.length + 1 ∧
      t.eth.conns.getLast?.map (fun c => (c.id, c.addr)) = some (conn, addr) ∧ t.eth.conns.getLast?.map (fun c => (c.kato, c.seen)) = some (kato, s.now) ∧ t.ter.cpls.getLast?.map (fun c => c.dw0) = t.eth.conns.getLast?.map (fun c => c.ctrl)))) ∧
  (∀ (s : State) (conn cid ofst : Nat) (c : NvmeConn), s.targetOn = true → s.hostConn conn = some c → 
    Completes (.nvmePropertyGet conn cid ofst) s (fun t => t.eth = s.eth ∧ t.ter.cpls.length = s.ter.cpls.length + 1 ∧ t.ter.cpls.getLast?.map (fun x => (x.conn, x.cid, x.sc)) = some (conn, cid, if ofst = 0 ∨ ofst = 8 ∨ ofst = 0x14 ∨ ofst = 0x1C then 0 else 2) ∧
      (ofst = 0x14 → t.ter.cpls.getLast?.map (fun x => x.data) = some (leBytes 8 c.cc)) ∧ (ofst = 0x1C → t.ter.cpls.getLast?.map (fun x => x.data) = some (leBytes 8 c.csts)))) ∧
  (∀ (s : State) (conn cid ofst value : Nat) (c : NvmeConn), s.targetOn = true → s.hostConn conn = some c → 
    Completes (.nvmePropertySet conn cid ofst value) s (fun t => t.ter.cpls.getLast?.map (fun x => (x.conn, x.cid, x.sc)) = some (conn, cid, if ofst = 0x14 then 0 else 2) ∧ (ofst ≠ 0x14 → t.eth = s.eth) ∧
      (ofst = 0x14 → (t.hostConn conn).map (fun x => (x.cc, x.csts % 2)) = some (value % 2 ^ 32, value % 2)))) ∧
  (∀ (s : State) (conn cid : Nat) (c : NvmeConn), s.targetOn = true → s.hostConn conn = some c → 
    Completes (.nvmeDisconnect conn cid) s (fun t => t.hostConn conn = none ∧ t.ter.cpls.getLast?.map (fun x => (x.conn, x.cid, x.sc)) = some (conn, cid, 0))) ∧
  (∀ (s : State) (conn cid cns nsid : Nat) (c : NvmeConn), s.targetOn = true → s.hostConn conn = some c → 
    Completes (.nvmeIdentify conn cid cns nsid) s (fun t => t.eth = s.eth ∧ t.ter.cpls.getLast?.map (fun x => (x.conn, x.cid, x.sc)) = some (conn, cid, if cns = 1 ∨ cns = 2 then 0 else if 3 < cns then 2 else if s.exported nsid = true then 0 else 0x0B) ∧
      (cns = 2 → t.ter.cpls.getLast?.map (fun x => x.data) = some (fitBytes 4096 (((List.range 64).filter (fun n => decide (nsid < n + 1) && s.exported (n + 1))).map (fun n => leBytes 4 (n + 1))).flatten)))) ∧
  (∀ (s : State) (conn cid lid len : Nat) (retain : Bool) (c : NvmeConn), s.targetOn = true → s.hostConn conn = some c → 
    Completes (.nvmeGetLogPage conn cid lid len retain) s (fun t => t.ter.cpls.getLast?.map (fun x => (x.conn, x.cid, x.sct, x.sc)) = some (conn, cid, if lid = 1 ∨ lid = 2 ∨ lid = 4 then (0, 0) else (1, 9)) ∧
      (lid = 4 → t.ter.cpls.getLast?.map (fun x => x.data) = some (fitBytes len (c.changed.map (fun n => leBytes 4 n)).flatten) ∧ (retain = false → (t.hostConn conn).map (fun x => x.changed) = some [])) ∧ (lid ≠ 4 → t.eth = s.eth))) ∧
  (∀ (s : State) (conn cid fid value : Nat) (c : NvmeConn), s.targetOn = true → s.hostConn conn = some c → 
    Completes (.nvmeSetFeatures conn cid fid value) s (fun t => t.ter.cpls.getLast?.map (fun x => (x.conn, x.cid, x.sc)) = some (conn, cid, if fid = 7 ∨ fid = 0x0B ∨ fid = 0x0F then 0 else 2) ∧
      (fid = 0x0B → (t.hostConn conn).map (fun x => x.aec) = some (value % 2 ^ 32)) ∧ (fid = 0x0F → (t.hostConn conn).map (fun x => (x.kato, x.seen)) = some (value % 2 ^ 32, s.now)))) ∧
  (∀ (s : State) (conn cid fid : Nat) (c : NvmeConn), s.targetOn = true → s.hostConn conn = some c → 
    Completes (.nvmeGetFeatures conn cid fid) s (fun t => t.eth = s.eth ∧ t.ter.cpls.getLast?.map (fun x => (x.conn, x.cid, x.sc)) = some (conn, cid, if fid = 7 ∨ fid = 0x0B ∨ fid = 0x0F then 0 else 2) ∧
      (fid = 0x0B → t.ter.cpls.getLast?.map (fun x => x.dw0) = some c.aec) ∧ (fid = 0x0F → t.ter.cpls.getLast?.map (fun x => x.dw0) = some c.kato))) ∧
  (∀ (s : State) (conn cid : Nat) (c : NvmeConn), s.targetOn = true → s.hostConn conn = some c → c.owed = false → s.eth.conns = [c] → 
    Completes (.nvmeAsyncEventRequest conn cid) s (fun t => (t.hostConn conn).map (fun x => x.aers) = some (c.aers ++ [cid]) ∧ t.ter.cpls = s.ter.cpls)) ∧
  (∀ (s : State) (conn cid : Nat) (c : NvmeConn), s.targetOn = true → s.hostConn conn = some c → 
    Completes (.nvmeKeepAlive conn cid) s (fun t => (t.hostConn conn).map (fun x => x.seen) = some s.now ∧ t.ter.cpls.getLast?.map (fun x => (x.conn, x.cid, x.sc)) = some (conn, cid, 0))) ∧
  (∀ (s : State) (f : EthFrame) (src dst dport : Nat) (req : Bytes), s.canopyOn = true → s.linkUp 6 = true → s.isService 6 f = true → udpOf f = some (src, dst, false, dport, req) → req.length = 16 → leAt req 4 1 = 1 → leAt req 5 1 = 1 → (s.gateList 6).entries = [] → 
    Completes (.serviceRead f) s (fun t => t.resp = (((s.frameIn 6).fdbLearn 6 (s.vlanOf 6 f) f.src).readAt .svc (leAt req 8 8) 32).resp ∧ t.eth.out = s.eth.out)) ∧
  (∀ (s : State) (f : EthFrame) (src dst dport : Nat) (req : Bytes), s.canopyOn = true → s.linkUp 6 = true → s.isService 6 f = true → udpOf f = some (src, dst, false, dport, req) → req.length = 20 → leAt req 4 1 = 2 → leAt req 5 1 = 1 → 
    Completes (.serviceWrite f) s (fun t => t.resp = (((s.frameIn 6).fdbLearn 6 (s.vlanOf 6 f) f.src).writeAt .svc (leAt req 8 8) 32 (leAt (req.drop 16) 0 4)).resp))

/-- Each frame, lane, strip, map and power command of the cab panel completes with its effect. A frame start scans the frame that has been composed and begins the next composition; a composition completes; lanes that lock run and lanes that do not are trained again, and after 20 ms the panel is switched off; a lost lock restarts training; at a whole second the strip takes a valid image and discards a bad one; FULL falls back to STRIP or off; the power requests start, reverse and end the sequences of R403, step by step; the uniformity map is read and checked. (R391, R393, R395, R396, R397, R398, R400, R401, R402, R403, R404) -/
def Obligations.PanelCommandsComplete : Prop :=
  (∀ (s : State) (late : List Nat) (torn : Bool), s.bedOn = true → s.frameNow = true → s.pan.lastFrame ≠ some s.now → 
    Completes (.panelFrameStart late torn) s (fun t => t.pan.lastFrame = some s.now ∧ t.pan.pol = s.polNext ∧ (s.engineUp 4 = true → s.on F.DSP_CTL_EN = true → s.pan.again = false → t.pan.comp.isSome = true ∧
      (s.pan.built = true → t.pan.front = some s.backBuffer ∧ t.pan.built = false ∧ t.rd F.DSP_FSEQ_SEQ = (s.rd F.DSP_FSEQ_SEQ + 1) % 2 ^ 32)))) ∧
  (∀ (s : State) (c : Comp), s.pan.comp = some c → s.engineUp 4 = true → s.on F.DSP_CTL_EN = true → 
    Completes (.frameCompose) s (fun t => t.pan.comp = none ∧ t.pan.built = true ∧ t.pan.front = s.pan.front ∧ t.rd F.DSP_COMPTIME_LAST = min ((s.now - c.start) / 10000) (maxOf F.DSP_COMPTIME_LAST.width))) ∧
  (∀ (s : State) (locks : Nat), s.bedOn = true → s.pan.lanes = 1 → s.pan.trainAt + 110000 ≤ s.now → 
    Completes (.laneTraining locks) s (fun t => (locks % 256 = 255 → t.pan.lanes = 2 ∧ t.pan.locks = 255 ∧ (s.rd F.DSP_PWRSTAT_STEP = 5 → s.pan.owed = none → t.rd F.DSP_PWRSTAT_STEP = 6)) ∧
      (locks % 256 ≠ 255 → t.pan.lanes = 1 ∧ t.pan.locks = locks % 256 ∧ (s.now < s.pan.trainFirst + 20000000 → t.pan.trainAt = if s.pan.trainAt + 1000000 ≤ s.now then s.now else s.pan.trainAt) ∧
      (s.pan.trainFirst + 20000000 ≤ s.now → s.rd F.DSP_PWRSTAT_STATE = 1 → s.rd F.DSP_PWRSTAT_STEP = 5 → t.rd F.DSP_PWRSTAT_STEP = 11 ∧ t.rd F.DSP_PWRSTAT_REVAT = 5)))) ∧
  (∀ (s : State) (lane : Nat), s.bedOn = true → s.pan.lanes = 2 → lane < 8 → 
    Completes (.laneLockLoss lane) s (fun t => t.pan.lanes = 1 ∧ t.pan.locks = 0 ∧ t.pan.trainAt = s.now ∧ t.pan.trainFirst = s.now ∧ (s.canopyOn = true → t.rd (F.DSP_LNn_STAT_LOSSES lane) = min (s.rd (F.DSP_LNn_STAT_LOSSES lane) + 1) (maxOf (F.DSP_LNn_STAT_LOSSES lane).width)))) ∧
  (∀ (s : State) (torn : Bool), s.bedOn = true → s.rd F.DSP_PWRSTAT_MODE = 2 → s.now % 1000000000 = 0 → s.pan.lastStrip ≠ some s.now → s.memOk s.stripAddr (64 + 153600) = true → s.mem.poisoned s.stripAddr 64 = false → s.mem.readLe s.stripAddr 4 ≠ s.rd F.DSP_SSEQ_SEQ → s.mem.readLe (s.stripAddr + 60) 4 = s.mem.readLe s.stripAddr 4 → 
    Completes (.stripRefresh torn) s (fun t => t.pan.lastStrip = some s.now ∧
      if s.mem.poisoned (s.stripAddr + 64) 153600 = true ∨ torn = true ∨ (s.mem.readBytes (s.stripAddr + 64) 153600).any (fun b => bitAt b.toNat 3 || bitAt b.toNat 7) = true then t.rd F.DSP_SSTAT_IMGREJ = 1 ∧ t.pan.strip = s.pan.strip
      else t.pan.strip = s.mem.readBytes (s.stripAddr + 64) 153600 ∧ t.rd F.DSP_SSEQ_SEQ = s.mem.readLe s.stripAddr 4)) ∧
  (∀ (s : State), s.bedOn = true → s.rd F.DSP_PWRSTAT_MODE = 1 → 2 ≤ s.pan.missed ∨ s.canopyOn = false ∨ s.pan.failed = true → 
    Completes (.displayFallback) s (fun t => t.rd F.DSP_SSTAT_FALLBACK = 1 ∧ t.rd F.DSP_SCOUNT_FALLBACKS = min (s.rd F.DSP_SCOUNT_FALLBACKS + 1) (maxOf F.DSP_SCOUNT_FALLBACKS.width) ∧ t.pan.missed = 0 ∧ t.pan.failed = false ∧
      (s.on F.DSP_SCTL_STRIPEN = true → t.rd F.DSP_PWRSTAT_MODE = 2) ∧ (s.on F.DSP_SCTL_STRIPEN = false → s.rd F.DSP_PWRSTAT_STATE = 2 → t.rd F.DSP_PWRSTAT_STEP = 9 ∧ t.pan.bl = false))) ∧
  (∀ (s : State) (a : Agent) (v : W32), s.accepts a 0x0E 0x004 = true → bitAt v.toNat F.DSP_SSTAT_FALLBACK.lo = true → 
    Completes (.fallbackClear a v) s (fun t => t.resp = .done ∧ t.rd F.DSP_SSTAT_FALLBACK = 0 ∧ t.pan = s.pan)) ∧
  (∀ (s : State) (a : Agent) (mode : Bool), s.accepts a 0x0E 0x008 = true → 
    Completes (.panelPowerOn a mode) s (fun t => t.resp = .done ∧ t.on F.DSP_PWR_REQ = true ∧ t.on F.DSP_PWR_MODE = mode ∧ (s.rd F.DSP_PWRSTAT_STATE = 0 → t.rd F.DSP_PWRSTAT_STATE = 1 ∧ t.rd F.DSP_PWRSTAT_STEP = 1 ∧ t.pan.vdd = true ∧ t.pan.vddAt = s.now) ∧
      (s.rd F.DSP_PWRSTAT_STATE = 2 → t.pan = s.pan ∧ t.rd F.DSP_PWRSTAT_STATE = 2) ∧ (s.rd F.DSP_PWRSTAT_STATE = 1 → t.pan = { s.pan with owed := none }) ∧ (s.rd F.DSP_PWRSTAT_STATE = 3 → t.pan = { s.pan with owed := some true }))) ∧
  (∀ (s : State) (a : Agent) (mode : Bool), s.accepts a 0x0E 0x008 = true → 
    Completes (.panelPowerOff a mode) s (fun t => t.resp = .done ∧ t.on F.DSP_PWR_REQ = false ∧ (s.rd F.DSP_PWRSTAT_STATE = 0 → t.pan = s.pan) ∧ (s.rd F.DSP_PWRSTAT_STATE = 2 → t.rd F.DSP_PWRSTAT_STATE = 3 ∧ t.rd F.DSP_PWRSTAT_STEP = 9 ∧ t.pan.bl = false ∧ t.rd F.DSP_PWRSTAT_MODE = 0) ∧
      (s.rd F.DSP_PWRSTAT_STATE = 1 → s.rd F.DSP_PWRSTAT_STEP = 5 → t.rd F.DSP_PWRSTAT_STEP = 11 ∧ t.rd F.DSP_PWRSTAT_REVAT = 5 ∧ t.pan.vgh = false) ∧
      (s.rd F.DSP_PWRSTAT_STATE = 1 → s.rd F.DSP_PWRSTAT_STEP ≠ 5 → t.pan = { s.pan with owed := some false }) ∧ (s.rd F.DSP_PWRSTAT_STATE = 3 → t.pan = { s.pan with owed := none }))) ∧
  (∀ (s : State) (k : Nat), s.bedOn = true → s.rd F.DSP_PWRSTAT_STEP = k → [1, 2, 3, 4, 6, 7, 9, 10, 11, 12, 13, 14].contains k = true → s.pan.stepAt + stepWait s k ≤ s.now → 
    Completes (.panelSequenceStep) s (fun t => if s.pan.owed = none then
      (if k = 7 then t.rd F.DSP_PWRSTAT_STATE = 2 ∧ t.rd F.DSP_PWRSTAT_STEP = 0 ∧ t.rd F.DSP_SSTAT_SEQDONE = 1
      else if k = 14 then t.rd F.DSP_PWRSTAT_STATE = 0 ∧ t.rd F.DSP_PWRSTAT_STEP = 0 ∧ t.rd F.DSP_SSTAT_SEQDONE = 1
      else t.rd F.DSP_PWRSTAT_STEP = k + 1 ∧ t.pan.stepAt = s.now ∧ (k = 1 → t.pan.vgl = true) ∧ (k = 2 → t.pan.avdd = true) ∧ (k = 3 → t.pan.vgh = true) ∧ (k = 4 → t.pan.lanes = 1) ∧ (k = 6 → t.pan.bl = true) ∧
      (k = 10 → t.pan.vgh = false) ∧ (k = 11 → t.pan.avdd = false) ∧ (k = 12 → t.pan.vgl = false) ∧ (k = 13 → t.pan.vdd = false ∧ t.pan.lanes = 0))
      else t.rd F.DSP_PWRSTAT_STEP = reverseTo k ∧ t.rd F.DSP_PWRSTAT_REVAT = k ∧ t.rd F.DSP_SSTAT_REVERSED = 1)) ∧
  (∀ (s : State) (e : Bytes), s.canopyOn = true → s.pan.vdd = true → s.pan.mapAt = none → s.pan.vddAt + 10000000 ≤ s.now → s.rd F.DSP_MAPSTAT_STATE = 0 ∨ s.pan.mapAgain = true → 
    Completes (.uniformityMapRead e) s (fun t => t.pan.mapAt = some s.now ∧ t.pan.mapAgain = false ∧ t.rd F.DSP_MAPSTAT_STATE = 1 ∧ t.rd F.DSP_STAT_NOUNIF = 1 ∧ t.reg Reg.DSP_PANELID = 0)) ∧
  (∀ (s : State) (e : Bytes) (t0 : Nat), s.canopyOn = true → s.pan.vdd = true → s.pan.mapAt = some t0 → s.pan.mapDesc = none → t0 + 400 * s.mapLen e ≤ s.now → 
    Completes (.uniformityMapRead e) s (fun t => t.pan.mapAt = none ∧ if leAt e 0 4 ≠ 0x31464E55 then t.rd F.DSP_MAPSTAT_STATE = 3 ∧ t.rd F.DSP_MAPSTAT_CAUSE = 1
      else if leAt e 4 2 ≠ s.rd F.DSP_ACTIVE_HACT ∨ leAt e 6 2 ≠ s.rd F.DSP_ACTIVE_VACT then t.rd F.DSP_MAPSTAT_STATE = 3 ∧ t.rd F.DSP_MAPSTAT_CAUSE = 2
      else if crc32 (fitBytes (leAt e 4 2 * leAt e 6 2) (e.drop 64)) ≠ leAt e 12 4 then t.rd F.DSP_MAPSTAT_STATE = 3 ∧ t.rd F.DSP_MAPSTAT_CAUSE = 3
      else t.rd F.DSP_MAPSTAT_STATE = 2 ∧ t.rd F.DSP_STAT_NOUNIF = 0 ∧ t.reg Reg.DSP_PANELID = BitVec.ofNat 32 (leAt e 8 4) ∧ t.mem = (s.put (s.rd F.DSP_MAPBASE_BASE * 4096) (fitBytes (leAt e 4 2 * leAt e 6 2) (e.drop 64))).mem)) ∧
  (∀ (s : State) (d : Desc), s.running 108 1 = some d → s.pan.mapDesc ≠ some d → 
    Completes (.mapload) s (fun t => if s.pan.vdd = false then t = s.complete 108 d { status := 0x40, bytes := resultOf [(24, 4, (s.reg Reg.DSP_MAPSTAT).toNat)] }
      else t = { s with pan := { s.pan with mapDesc := some d, mapAgain := s.pan.mapAt.isNone } }))

/-- Each DRAM access, mark, scrub, line and log command completes with its effect. A read corrects a line within the reach of its code and leaves its data, and marks any other line poisoned; a line write stores its bytes and its mark; a partial write merges under its mask and keeps the mark; a device is marked, or refused, and its mark cleared; a consuming access traps; a scrub visit moves on; each line command acts on the line its registers name and reports its result; a pop releases the oldest entry of its log. (R414, R415, R416, R417, R418, R419, R422, R423, R424, R426) -/
def Obligations.DramCommandsComplete : Prop :=
  (∀ (s : State) (req a : Nat) (wrong : List (Nat × Nat)), s.lineOk a = true → 
    Completes (.dramRead req a wrong false) s (fun t => if addErrs (s.lineErrs a) wrong = [] then t.mem = s.mem ∧ t.regs = s.regs ∧ t.lineErrs a = []
      else if correctable (s.marking (dramSub s.code a)) (addErrs (s.lineErrs a) wrong) = true then t.mem = s.mem ∧ t.lineErrs a = addErrs (s.lineErrs a) wrong ∧ t.rd F.MEM_STAT_CE = 1
      else t.mem.poisoned a 64 = true ∧ t.rd F.MEM_STAT_UE = 1 ∧ t.rd F.MEM_UECNT_CNT = min (s.rd F.MEM_UECNT_CNT + 1) (maxOf F.MEM_UECNT_CNT.width))) ∧
  (∀ (s : State) (req a : Nat) (wrong : List (Nat × Nat)), s.lineOk a = true → correctable (s.marking (dramSub s.code a)) (addErrs (s.lineErrs a) wrong) = false → 
    Completes (.dramRead req a wrong true) s (fun t => t.rd F.MEM_STAT_CE = 1 ∧ t.rd F.MEM_UECNT_CNT = s.rd F.MEM_UECNT_CNT)) ∧
  (∀ (s : State) (a : Nat) (b : Bytes) (poison : Bool), s.lineOk a = true → s.mem.wf = true → (s.mirrorParts a 64).all (fun m => decide (m.2.2.2 + m.2.2.1 ≤ a) || decide (a + 64 ≤ m.2.2.2)) = true → 
    Completes (.dramLineWrite a b poison) s (fun t => t.mem.readBytes a 64 = fitBytes 64 b ∧ t.mem.poisoned a 64 = poison ∧ t.lineErrs a = [] ∧ t.rd F.MEM_POISWR_CNT = (if poison = true then min (s.rd F.MEM_POISWR_CNT + 1) (maxOf F.MEM_POISWR_CNT.width) else s.rd F.MEM_POISWR_CNT))) ∧
  (∀ (s : State) (req a mask : Nat) (b : Bytes) (poison : Bool) (wrong : List (Nat × Nat)), s.lineOk a = true → s.mem.wf = true → mask % 2 ^ 64 ≠ 2 ^ 64 - 1 → (s.mirrorParts a 64).all (fun m => decide (m.2.2.2 + m.2.2.1 ≤ a) || decide (a + 64 ≤ m.2.2.2)) = true → 
    Completes (.dramPartialWrite req a mask b poison wrong) s (fun t => if correctable (s.marking (dramSub s.code a)) (addErrs (s.lineErrs a) wrong) = true then t.mem.readBytes a 64 = mergeBytes mask (s.mem.readBytes a 64) b ∧ t.mem.poisoned a 64 = (poison || s.mem.marked a) ∧ t.lineErrs a = []
      else t.mem.poisoned a 64 = true ∧ t.lineErrs a = [] ∧ t.rd F.MEM_STAT_UE = 1)) ∧
  (∀ (s : State) (ag : Agent) (n dev : Nat), n < 8 → dev < 16 → s.accepts ag 0x11 (0x104 + 0x40 * n) = true → 
    Completes (.deviceMarkSet ag n dev) s (fun t => t.resp = .done ∧ if 9 < dev then t.rd F.MEM_BADCFG_CAUSE = 1 ∧ t.marking n = s.marking n
      else if s.marking n = none ∨ s.marking n = some dev then t.marking n = some dev
      else t.rd F.MEM_BADCFG_CAUSE = 3 ∧ t.rd F.MEM_BADCFG_SUB = n ∧ t.marking n = s.marking n)) ∧
  (∀ (s : State) (ag : Agent) (n : Nat), n < 8 → s.accepts ag 0x11 (0x104 + 0x40 * n) = true → 
    Completes (.deviceMarkClear ag n) s (fun t => t.resp = .done ∧ t.marking n = none ∧ t.rd (F.MEM_SUBn_STAT_FAILDEV n) = 0xF)) ∧
  (∀ (s : State) (core kind va a : Nat) (src : Nat × Bool), s.canopyOn = true → core < 16 → inDram s.code a = true → s.mem.poisoned (a / 64 * 64) 64 = true → 
    Completes (.poisonTrap core kind va a src) s (fun t => SMap.get (fun _ => {}) t.traps core = (⟨if kind = 1 then 1 else if kind = 2 then 7 else 5, va, src.2, 2 ^ 63 + a / 64 % 2 ^ 34 * 64,
      if src.2 = true then 2 ^ 63 + a / 64 % 2 ^ 34 * 64 else (SMap.get (fun _ => {}) s.traps core).spcause⟩ : CoreTrap) ∧ t.mem = s.mem ∧ t.regs = s.regs)) ∧
  (∀ (s : State) (wrong : List (Nat × Nat)) (l : Nat), s.rd F.MEM_SCRUBPOS_LINE = l → s.on F.MEM_SCRUB_EN = true → s.lineOk (64 * l) = true → s.dram.visited + s.scrubStep ≤ s.now → 
    Completes (.scrubVisit wrong) s (fun t => t.rd F.MEM_SCRUBPOS_LINE = (if s.code.dramSize ≤ 64 * (l + 1) then 0 else l + 1) ∧
      (correctable (s.marking (dramSub s.code (64 * l))) (addErrs (s.lineErrs (64 * l)) wrong) = true → t.lineErrs (64 * l) = [] ∧ t.mem = s.mem) ∧ t.dram.visited = s.now)) ∧
  (∀ (s : State) (ag : Agent), s.accepts ag 0x11 0x03C = true → s.on F.MEM_LINECMD_BUSY = false → s.lineBad 1 = false → s.on (F.HLT_TOKc_HELD 0) = false → (s.token 0).waits = [] → s.mem.wf = true → (s.mirrorParts s.lineAddr 64).all (fun m => decide (m.2.2.2 + m.2.2.1 ≤ s.lineAddr) || decide (s.lineAddr + 64 ≤ m.2.2.2)) = true → 
    Completes (.lineZero ag) s (fun t => t.resp = .done ∧ t.rd F.MEM_LINESTAT_RESULT = 1 ∧ t.on F.MEM_LINECMD_BUSY = false ∧ t.lineErrs s.lineAddr = [] ∧ t.mem.poisoned s.lineAddr 64 = false ∧ t.mem.readLe s.lineAddr 64 = 0 ∧ t.on (F.HLT_TOKc_HELD 0) = false)) ∧
  (∀ (s : State) (ag : Agent), s.accepts ag 0x11 0x03C = true → s.on F.MEM_LINECMD_BUSY = false → s.lineBad 2 = false → s.on (F.HLT_TOKc_HELD 0) = false → (s.token 0).waits = [] → 
    Completes (.lineScrub ag) s (fun t => t.resp = .done ∧ t.on F.MEM_LINECMD_BUSY = false ∧ (s.lineErrs s.lineAddr = [] → t.rd F.MEM_LINESTAT_RESULT = 1 ∧ t.mem = s.mem) ∧
      (s.lineErrs s.lineAddr ≠ [] → correctable (s.marking (dramSub s.code s.lineAddr)) (s.lineErrs s.lineAddr) = true → t.rd F.MEM_LINESTAT_RESULT = 2 ∧ t.lineErrs s.lineAddr = [] ∧ t.mem = s.mem) ∧
      (s.lineErrs s.lineAddr ≠ [] → correctable (s.marking (dramSub s.code s.lineAddr)) (s.lineErrs s.lineAddr) = false → t.rd F.MEM_LINESTAT_RESULT = 3 ∧ t.mem.poisoned s.lineAddr 64 = true))) ∧
  (∀ (s : State) (ag : Agent), s.accepts ag 0x11 0x03C = true → s.on F.MEM_LINECMD_BUSY = false → s.lineBad 3 = false → s.on (F.HLT_TOKc_HELD 0) = false → (s.token 0).waits = [] → 
    Completes (.lineInject ag) s (fun t => t.resp = .done ∧ t.rd F.MEM_LINESTAT_RESULT = 1 ∧ t.on F.MEM_LINECMD_BUSY = false ∧ t.lineErrs s.lineAddr = addErrs [] s.injectErrs ∧
      if s.lineErrs s.lineAddr = [] ∨ correctable (s.marking (dramSub s.code s.lineAddr)) (s.lineErrs s.lineAddr) = true then t.mem = s.mem else t.mem.poisoned s.lineAddr 64 = true)) ∧
  (∀ (s : State) (ag : Agent), s.accepts ag 0x11 0x03C = true → s.on F.MEM_LINECMD_BUSY = false → s.lineBad 4 = false → s.on (F.HLT_TOKc_HELD 0) = false → (s.token 0).waits = [] → s.mem.wf = true → (s.mirrorParts s.lineDst 4096).all (fun m => (decide (m.2.2.2 + m.2.2.1 ≤ s.lineDst) || decide (s.lineDst + 4096 ≤ m.2.2.2)) && (decide (m.2.2.2 + m.2.2.1 ≤ s.lineAddr) || decide (s.lineAddr + 4096 ≤ m.2.2.2))) = true → (List.range 64).all (fun i => decide (s.lineErrs (s.lineAddr + 64 * i) = [])) = true → 
    Completes (.lineCopy ag) s (fun t => t.resp = .done ∧ t.rd F.MEM_LINESTAT_RESULT = 1 ∧ t.on F.MEM_LINECMD_BUSY = false ∧ t.rd F.MEM_LINESTAT_POIS = ((List.range 64).filter (fun i => s.mem.poisoned (s.lineAddr + 64 * i) 64)).length ∧
      (List.range 64).all (fun i => decide (t.mem.readBytes (s.lineDst + 64 * i) 64 = s.mem.readBytes (s.lineAddr + 64 * i) 64) && decide (t.mem.poisoned (s.lineDst + 64 * i) 64 = s.mem.poisoned (s.lineAddr + 64 * i) 64)) = true)) ∧
  (∀ (s : State) (ag : Agent) (nfl : Bool), s.accepts ag (if nfl then 0x12 else 0x11) (if nfl then 0x044 else 0x058) = true → 
    Completes (.logPop ag nfl) s (fun t => t.resp = .done ∧ if nfl = true then t.rd F.NFL_LOGHEAD_COUNT = s.rd F.NFL_LOGHEAD_COUNT - 1 ∧ (s.rd F.NFL_LOGHEAD_COUNT ≠ 0 → t.rd F.NFL_LOGHEAD_OLDEST = (s.rd F.NFL_LOGHEAD_OLDEST + 1) % 16)
      else t.rd F.MEM_LOGHEAD_COUNT = s.rd F.MEM_LOGHEAD_COUNT - 1 ∧ (s.rd F.MEM_LOGHEAD_COUNT ≠ 0 → t.rd F.MEM_LOGHEAD_OLDEST = (s.rd F.MEM_LOGHEAD_OLDEST + 1) % 48)))

/-- Each NAND operation completes with its effect. An operation whose buffer is misaligned or outside DRAM, whose page is absent or not its source's, or whose source is poisoned completes with that status; an erased page reads as 0xFF; a page that decodes is corrected and counted; a program stores the page under its region's strength, an erase empties the block, and a device failure is counted and reported; raw operations move page images while RAWEN is 1. (R428, R430, R431, R432, R433, R434, R435) -/
def Obligations.NandCommandsComplete : Prop :=
  (∀ (s : State) (q : Nat) (flips : List Nat) (d : Desc), q = 68 ∨ q = 70 → s.running q 1 = some d → 
    Completes (.nandRead q flips) s (fun t => if s.bufStatus (d.le 24 8) pageData ≠ 0 then t = s.complete q d ({ status := s.bufStatus (d.le 24 8) pageData } : NandOut).result
      else if s.badPage (nflSource q) (d.le 16 4) = true then t = s.complete q d ({ status := 0x45 } : NandOut).result
      else if zeroBits (flipBits (s.nandPage (d.le 16 4)) flips) ≤ 8 then t = ((s.put (d.le 24 8) (List.replicate pageData 0xFF)).wideAdd Reg.NFL_RDCNT_LO 1).complete q d ({ erased := true, info := List.replicate pageMeta 0xFF } : NandOut).result
      else (pageTcode (flipBits (s.nandPage (d.le 16 4)) flips)).all (fun k => (bchErrors (8 * k) (received (8 * k) (flipBits (s.nandPage (d.le 16 4)) flips))).all (fun e => decide (t.rd (F.NFL_CHc_BITS_LAST (nandChan (d.le 16 4))) = min e.length (maxOf (F.NFL_CHc_BITS_LAST (nandChan (d.le 16 4))).width)))) = true)) ∧
  (∀ (s : State) (q : Nat) (fail bad : Bool) (d : Desc), q = 68 ∨ q = 70 → s.running q 2 = some d → 
    Completes (.nandProgram q fail bad) s (fun t => if s.bufStatus (d.le 24 8) pageData ≠ 0 then t = s.complete q d ({ status := s.bufStatus (d.le 24 8) pageData } : NandOut).result
      else if s.badPage (nflSource q) (d.le 16 4) = true then t = s.complete q d ({ status := 0x45 } : NandOut).result
      else if s.mem.poisoned (d.le 24 8) pageData = true then t.nand = s.nand ∧ t.rd F.NFL_STAT_POISON = 1
      else if fail = true then t.rd F.NFL_STAT_FAIL = 1
      else if SMap.get (fun _ => []) s.nand.pages (d.le 16 4) = [] then
      SMap.get (fun _ => []) t.nand.pages (d.le 16 4) = pageOf (s.mem.readBytes (d.le 24 8) pageData) (d.payload.drop 16) (if bad = true then 20 else s.tcodeOf (nandRegion (d.le 16 4)))
      else (SMap.get (fun _ => []) t.nand.pages (d.le 16 4)).length = pageSize)) ∧
  (∀ (s : State) (q : Nat) (fail : Bool) (d : Desc), q = 68 ∨ q = 70 → s.running q 3 = some d → 
    Completes (.nandErase q fail) s (fun t => if d.le 16 4 % 1024 ≠ 0 then t = s.complete q d ({ status := 2 } : NandOut).result
      else if s.badPage (nflSource q) (d.le 16 4) = true then t = s.complete q d ({ status := 0x45 } : NandOut).result
      else if fail = true then t.rd F.NFL_STAT_FAIL = 1
      else t.nand.pages = SMap.keep (fun k => decide (k / 1024 ≠ d.le 16 4 / 1024)) s.nand.pages)) ∧
  (∀ (s : State) (flips : List Nat) (d : Desc), s.running 70 0x10 = some d → 
    Completes (.rawread flips) s (fun t => if s.on F.NFL_CTL_RAWEN = false then t = s.complete 70 d ({ status := 0x44 } : NandOut).result
      else if s.bufStatus (d.le 24 8) pageSize ≠ 0 then t = s.complete 70 d ({ status := s.bufStatus (d.le 24 8) pageSize } : NandOut).result
      else if s.badPage 1 (d.le 16 4) = true then t = s.complete 70 d ({ status := 0x45 } : NandOut).result
      else t = ((s.put (d.le 24 8) (flipBits (s.nandPage (d.le 16 4)) flips)).wideAdd Reg.NFL_RDCNT_LO 1).complete 70 d ({} : NandOut).result)) ∧
  (∀ (s : State) (fail : Bool) (d : Desc), s.running 70 0x11 = some d → s.on F.NFL_CTL_RAWEN = true → s.bufStatus (d.le 24 8) pageSize = 0 → d.zeros 32 32 = true → s.badPage 1 (d.le 16 4) = false → 
    Completes (.rawprog fail) s (fun t => if s.mem.poisoned (d.le 24 8) pageSize = true then t.nand = s.nand ∧ t.rd F.NFL_STAT_POISON = 1
      else if fail = true then t.rd F.NFL_STAT_FAIL = 1
      else SMap.get (fun _ => []) s.nand.pages (d.le 16 4) = [] → SMap.get (fun _ => []) t.nand.pages (d.le 16 4) = s.mem.readBytes (d.le 24 8) pageSize)) ∧
  (∀ (s : State) (d : Desc), s.running 70 0x12 = some d → 
    Completes (.decode) s (fun t => if s.on F.NFL_CTL_RAWEN = false then t = s.complete 70 d ({ status := 0x44 } : NandOut).result
      else if s.bufStatus (d.le 24 8) pageData ≠ 0 then t = s.complete 70 d ({ status := s.bufStatus (d.le 24 8) pageData } : NandOut).result
      else if s.bufStatus (d.le 32 8) pageSize ≠ 0 then t = s.complete 70 d ({ status := s.bufStatus (d.le 32 8) pageSize } : NandOut).result
      else if s.mem.poisoned (d.le 32 8) pageSize = true then t.nand = s.nand ∧ t.rd F.NFL_STAT_POISON = 1
      else zeroBits (s.mem.readBytes (d.le 32 8) pageSize) ≤ 8 → t = ((s.put (d.le 24 8) (List.replicate pageData 0xFF)).wideAdd Reg.NFL_RDCNT_LO 1).complete 70 d ({ erased := true, info := List.replicate pageMeta 0xFF } : NandOut).result))

/-- Each administration command of Terrace completes with its effect. A namespace is created with its attributes or deleted with all it holds; a drive is admitted, released or evacuated; raw NAND blocks are lent and returned; the information commands write what they report to their buffer. (R437, R438, R439, R440, R441, R442, R446, R447, R450, R451, R459) -/
def Obligations.TerraceAdminComplete : Prop :=
  (∀ (s : State) (d : Desc), s.terUp = true → s.running 72 1 = some d → d.le 16 1 < 64 → d.le 17 1 ≤ 1 → d.le 18 1 ≤ 2 → s.code = .l → d.le 18 1 = 0 → d.le 20 4 ≠ 0 → (s.ns (d.le 16 1)).present = false → s.nsExt + d.le 20 4 ≤ s.rd F.TER_CAPLIM_EXT → 16 * (s.nsExt + d.le 20 4) ≤ s.rd F.TER_MAPSIZE_SIZE * 0x1000000 → 
    Completes (.nscreate) s (fun t => t.ns (d.le 16 1) = { present := true, kind := d.le 17 1, policy := d.le 18 1, copies2 := bitAt (d.le 19 1) 0, size := d.le 20 4 })) ∧
  (∀ (s : State) (d : Desc), s.terUp = true → s.running 72 2 = some d → d.le 16 1 < 64 → (s.ns (d.le 16 1)).present = true → (s.ns (d.le 16 1)).deleting = none → 
    Completes (.nsdelete) s (fun t => if (s.ring 74).taken.any (fun y => y.running && decide (y.le 16 1 = d.le 16 1)) = true then (t.ns (d.le 16 1)).deleting ≠ none ∧ (t.ns (d.le 16 1)).present = true
      else (t.ns (d.le 16 1)).present = false ∧ t.ter.exts.all (fun e => decide (extNs e.1 ≠ d.le 16 1)) = true ∧ t.ter.blocks.all (fun e => decide (e.1 / 2 ^ 42 ≠ d.le 16 1)) = true)) ∧
  (∀ (s : State) (d : Desc), s.terUp = true → s.running 72 3 = some d → d.le 16 1 < 64 → s.bufStatus (d.le 24 8) 64 = 0 → s.nsOpen (d.le 16 1) none = true → 
    Completes (.nsinfo) s (fun t => t = (((s.terCmd.put (d.le 24 8) (leBytes 8 (s.ns (d.le 16 1)).size ++ leBytes 8 (s.ter.exts.filter (fun e => decide (extNs e.1 = d.le 16 1 ∧ e.2.st ≠ 0))).length ++
      leBytes 8 (s.ns (d.le 16 1)).wpos ++ leBytes 8 ((s.ter.exts.filter (fun e => decide (extNs e.1 = d.le 16 1 ∧ e.2.st ≠ 0))).foldl (fun m e => if e.2.poisAll then m + 1024 else m)
      (s.ter.bad.filter (fun b => decide (b / 2 ^ 42 = d.le 16 1))).length) ++ leBytes 32 0)).terRegs).complete 72 d {}).terAfter)) ∧
  (∀ (s : State) (d : Desc), s.terUp = true → s.running 72 4 = some d → d.le 16 1 < 32 → 
    Completes (.admitCmd) s (fun t => (t.drive (d.le 16 1)).st = if (s.drive (d.le 16 1)).st = 1 ∨ (s.drive (d.le 16 1)).st = 4 then 2 else (s.drive (d.le 16 1)).st)) ∧
  (∀ (s : State) (d : Desc), s.terUp = true → s.running 72 5 = some d → d.le 16 1 < 32 → 
    Completes (.releaseCmd) s (fun t => if (s.drive (d.le 16 1)).st = 5 ∨ ((s.drive (d.le 16 1)).st = 3 ∧ (s.drive (d.le 16 1)).seen = none) then
      t.drive (d.le 16 1) = { s.drive (d.le 16 1) with st := 0, cap := 0, gen := (s.drive (d.le 16 1)).gen + 1 }
      else if (s.drive (d.le 16 1)).st = 3 then (t.drive (d.le 16 1)).gen = (s.drive (d.le 16 1)).gen + 1 ∧ (s.drive (d.le 16 1)).seen.all (fun x =>
      decide ((t.drive (d.le 16 1)).cap = x.2.1 - 1) && decide ((t.drive (d.le 16 1)).st = if x.1 = false then 7 else (x.2.2.map (fun y => if y = (s.ethMac, d.le 16 1, (s.drive (d.le 16 1)).gen + 1) then 2 else 4)).getD 1)) = true
      else t.drive (d.le 16 1) = s.drive (d.le 16 1) ∧ t.rd F.TER_STAT_DRVCHG = s.rd F.TER_STAT_DRVCHG)) ∧
  (∀ (s : State) (blocks : List Nat) (d : Desc), s.terUp = true → s.running 72 6 = some d → 1 ≤ d.le 16 1 → d.le 16 1 ≤ 16 → d.le 16 1 ≤ blocks.length → s.bufStatus (d.le 24 8) (4 * d.le 16 1) = 0 → 
    Completes (.rawlend blocks) s (fun t => t.ter.lent = if s.ter.lent.length + d.le 16 1 ≤ 16 ∧ (s.tokAsk 1 4 5).2 = true then s.ter.lent ++ blocks.take (d.le 16 1) else s.ter.lent)) ∧
  (∀ (s : State) (fails : List Nat) (d : Desc), s.terUp = true → s.running 72 7 = some d → 1 ≤ d.le 16 1 → d.le 16 1 ≤ 16 → s.bufStatus (d.le 24 8) (4 * d.le 16 1) = 0 → (List.range (d.le 16 1)).all (fun i => s.ter.lent.contains (s.mem.readLe (d.le 24 8 + 4 * i) 4)) = true → 
    Completes (.rawreturn fails) s (fun t => t.ter.lent = if (s.tokAsk 1 4 5).2 = true then s.ter.lent.filter (fun p => !((List.range (d.le 16 1)).map (fun i => s.mem.readLe (d.le 24 8 + 4 * i) 4)).contains p) else s.ter.lent)) ∧
  (∀ (s : State) (d : Desc), s.terUp = true → s.running 72 8 = some d → d.le 16 1 < 64 → d.le 24 4 ≠ 0 → s.bufStatus (d.le 32 8) (16 * d.le 24 4) = 0 → s.nsOpen (d.le 16 1) none = true → d.le 20 4 + d.le 24 4 ≤ (s.ns (d.le 16 1)).size → 
    Completes (.extread) s (fun t => t = (((s.terCmd.put (d.le 32 8) ((List.range (d.le 24 4)).map (fun i => s.mapEntry (extKey (d.le 16 1) (d.le 20 4 + i)))).flatten).terRegs).complete 72 d {}).terAfter)) ∧
  (∀ (s : State) (d : Desc), s.terUp = true → s.running 72 9 = some d → d.le 16 1 < 32 → s.ter.evac ≠ some d → 
    Completes (.evacuate) s (fun t => if (s.drive (d.le 16 1)).st = 2 then (t.drive (d.le 16 1)).st = 6 ∧ t.ter.evac = some d else (t.drive (d.le 16 1)).st = (s.drive (d.le 16 1)).st ∧ t.ter.evac = s.ter.evac)) ∧
  (∀ (s : State) (d : Desc), s.terUp = true → s.running 72 9 = some d → d.le 16 1 < 32 → s.ter.evac = some d → s.on (F.HLT_TOKc_HELD 2) = false → s.ter.exts.any (fun e => e.2.on (d.le 16 1)) = false → 
    Completes (.evacuate) s (fun t => t.drive (d.le 16 1) = { s.drive (d.le 16 1) with st := 1, gen := (s.drive (d.le 16 1)).gen + 1 } ∧ t.ter.evac = none))

/-- Each data command of Terrace completes with its effect. A read puts the blocks of its range into its buffer, poisoned ones with the mark; a write replaces every block of its range, an append the bytes from WPOS on; a flush changes no content; deallocated blocks read as zeros and the others stay; a refresh asks for a pass, and the pass changes no content. (R438, R440, R441, R443, R451, R452, R453, R454, R455, R459) -/
def Obligations.TerraceDataComplete : Prop :=
  (∀ (s : State) (bad : List Nat) (d : Desc), s.terUp = true → s.running 74 0x10 = some d → d.le 16 1 < 64 → 1 ≤ d.le 20 4 → d.le 20 4 ≤ 65536 → s.bufStatus (d.le 32 8) (4096 * d.le 20 4) = 0 → 
    Completes (.terRead bad) s (fun t => if s.rangeStatus (d.le 16 1) (d.le 24 8) (d.le 20 4) (some d) ≠ 0 then t = (s.terCmd.terRegs.complete 74 d { status := s.rangeStatus (d.le 16 1) (d.le 24 8) (d.le 20 4) (some d) }).terAfter
      else if s.anyMissing (d.le 16 1) (d.le 24 8) (d.le 20 4) = true then t = (s.terCmd.terRegs.complete 74 d { status := 0x45 }).terAfter
      else s.badIn (d.le 16 1) (d.le 24 8) (d.le 20 4) bad = [] → d.le 20 4 = 1 → s.blockBad (d.le 16 1) (d.le 24 8) = false →
      t = ((((s.terCmd.put (d.le 32 8) (s.blockOf (d.le 16 1) (d.le 24 8))).wideAdd Reg.TER_RDBYTES_LO 4096).terRegs).complete 74 d {}).terAfter)) ∧
  (∀ (s : State) (d : Desc), s.terUp = true → s.running 74 0x11 = some d → d.le 16 1 < 64 → 1 ≤ d.le 20 4 → d.le 20 4 ≤ 65536 → s.bufStatus (d.le 32 8) (4096 * d.le 20 4) = 0 → s.rangeStatus (d.le 16 1) (d.le 24 8) (d.le 20 4) (some d) = 0 → 
    Completes (.terWrite) s (fun t => if (s.ns (d.le 16 1)).kind = 1 ∨ (s.needExts (d.le 16 1) (extsOf (d.le 24 8) (d.le 20 4))).2 ≠ 0 then t.ter.blocks = s.ter.blocks
      else (List.range (d.le 20 4)).all (fun i => decide (t.blockOf (d.le 16 1) (d.le 24 8 + i) = s.mem.readBytes (d.le 32 8 + 4096 * i) 4096)) = true)) ∧
  (∀ (s : State) (d : Desc), s.terUp = true → s.running 74 0x12 = some d → d.le 16 1 < 64 → 1 ≤ d.le 20 4 → d.le 20 4 ≤ 2 ^ 28 → s.bufStatus (d.le 32 8) (d.le 20 4) = 0 → s.nsOpen (d.le 16 1) (some d) = true → 
    Completes (.append) s (fun t => if (s.ns (d.le 16 1)).kind ≠ 1 ∨ (s.ns (d.le 16 1)).size * 4194304 < (s.ns (d.le 16 1)).wpos + d.le 20 4 then (t.ns (d.le 16 1)).wpos = (s.ns (d.le 16 1)).wpos ∧ t.ter.blocks = s.ter.blocks
      else if (s.ns (d.le 16 1)).wpos % 4096 + d.le 20 4 ≤ 4096 then (s.needExts (d.le 16 1) [(s.ns (d.le 16 1)).wpos / 4194304]).2 = 0 → (t.ns (d.le 16 1)).wpos = roundUp ((s.ns (d.le 16 1)).wpos + d.le 20 4) 64 ∧
      t.blockOf (d.le 16 1) ((s.ns (d.le 16 1)).wpos / 4096) = overlay (s.blockOf (d.le 16 1) ((s.ns (d.le 16 1)).wpos / 4096)) ((s.ns (d.le 16 1)).wpos % 4096) (s.mem.readBytes (d.le 32 8) (d.le 20 4))
      else (t.ns (d.le 16 1)).wpos = (s.ns (d.le 16 1)).wpos ∨ (t.ns (d.le 16 1)).wpos = roundUp ((s.ns (d.le 16 1)).wpos + d.le 20 4) 64)) ∧
  (∀ (s : State) (d : Desc), s.terUp = true → s.running 74 0x13 = some d → 
    Completes (.terFlush) s (fun t => t = (s.terCmd.terRegs.complete 74 d { status := if 64 ≤ d.le 16 1 then 2 else if s.nsOpen (d.le 16 1) (some d) = true then 0 else 0x40 }).terAfter)) ∧
  (∀ (s : State) (d : Desc), s.terUp = true → s.running 74 0x14 = some d → d.le 16 1 < 64 → 1 ≤ d.le 20 4 → d.le 20 4 ≤ 65536 → d.le 24 8 + d.le 20 4 ≤ 2 ^ 42 → s.rangeStatus (d.le 16 1) (d.le 24 8) (d.le 20 4) (some d) = 0 → s.anyMissing (d.le 16 1) (d.le 24 8) (d.le 20 4) = false → (s.ns (d.le 16 1)).kind = 0 → 
    Completes (.dealloc) s (fun t => (List.range (d.le 20 4)).all (fun i => decide (t.blockOf (d.le 16 1) (d.le 24 8 + i) = List.replicate 4096 0)) = true ∧
      s.ter.blocks.all (fun b => decide (b.1 / 2 ^ 42 = d.le 16 1 ∧ d.le 24 8 ≤ b.1 % 2 ^ 42 ∧ b.1 % 2 ^ 42 < d.le 24 8 + d.le 20 4) || t.ter.blocks.contains b) = true)) ∧
  (∀ (s : State) (d : Desc), s.terUp = true → s.running 76 0x20 = some d → 
    Completes (.terRefresh) s (fun t => t.ter.pass = true ∧ t.ter.blocks = s.ter.blocks)) ∧
  (∀ (s : State) (bad : List (Nat × Nat)) (rewritten : Nat), s.terUp = true → s.on F.TER_REFRESH_EN = true ∨ s.ter.pass = true → s.on (F.HLT_TOKc_HELD 1) = false → 
    Completes (.refreshPass bad rewritten) s (fun t => t.ter.pass = false ∧ t.ter.blocks = s.ter.blocks ∧ (bad = [] → t.ter.bad = s.ter.bad)))

/-- Moves, re-mirroring, drive events, intake and the enabling of Terrace complete. A move of the extent written longest ago starts on the drives chosen, and ends with the extent there once a pass finds no change; a stale copy is made good; a drive that comes up is judged by its label, one that is lost or fails leaves MEMBER; the consumer's index passes an entry taken in; Terrace becomes READY, or FAILED, when it is enabled and stops when it is disabled. (R444, R445, R447, R448, R449, R450, R456, R457, R464) -/
def Obligations.TerraceMovesAndDrivesComplete : Prop :=
  (∀ (s : State) (k : Nat) (l : List Nat), s.terUp = true → s.ter.move = none → s.moveNext = some k → s.tier1Place (s.ns (extNs k)).copies2 = some l → s.on (F.HLT_TOKc_HELD 2) = false → 
    Completes (.hotExtentMove) s (fun t => t.ter.move = some { key := k, dst := l } ∧ (t.ext k).st = 3)) ∧
  (∀ (s : State) (m : Move), s.terUp = true → s.ter.move = some m → 
    Completes (.hotExtentMove) s (fun t => if m.dirty = true then (m.passes < 15 → t.ter.move = some { m with passes := m.passes + 1, dirty := false }) ∧ (15 ≤ m.passes → t.ter.move = none ∧ (t.ext m.key).stay = true)
      else t.ter.move = none ∧ (t.ext m.key).a = m.dst.getD 0 255 ∧ (t.ext m.key).b = m.dst.getD 1 255)) ∧
  (∀ (s : State) (k : Nat) (d : Option Nat), s.terUp = true → s.ter.move = none → s.mirrorNext = some (k, d) → s.on (F.HLT_TOKc_HELD 2) = false → 
    Completes (.degradedRemirror) s (fun t => (t.ext k).stale = 255 ∧ (d.isSome = true → some (t.ext k).b = d))) ∧
  (∀ (s : State) (slot gen width rpGen rpWidth : Nat) (suits : Bool) (exts : Nat) (label : Option (Nat × Nat × Nat)) (wear : W32), s.pceOn = true → s.on F.PCE_CTL_EN = true → slot < 32 → s.on (F.PCE_SLOTs_CTL_PWR slot) = true → 
    Completes (.driveLinkUp slot gen width rpGen rpWidth suits exts label wear) s (fun t => t.on F.PCE_STAT_RPUP = true ∧ t.on (F.PCE_SLOTs_STAT_LINK slot) = true ∧ t.rd (F.PCE_SLOTs_STAT_WIDTH slot) = width % 2 ^ (F.PCE_SLOTs_STAT_WIDTH slot).width ∧
      (s.terUp = true → (s.drive slot).st = 3 → (t.drive slot).st = if suits = true ∧ s.labelCurrent slot label = true then 2 else 3) ∧
      (s.terUp = true → (s.drive slot).st = 0 → (t.drive slot).cap = exts - 1 ∧ (t.drive slot).st = (if suits = false then 7 else if label = none then 1 else if s.labelCurrent slot label = true then 2 else 4)))) ∧
  (∀ (s : State) (slot : Nat) (flight : List (Nat × Nat)), s.terUp = true → slot < 32 → 
    Completes (.driveLinkLost slot flight) s (fun t => (t.drive slot).st = (if (s.drive slot).st = 2 ∨ (s.drive slot).st = 6 then 3 else if (s.drive slot).st = 1 ∨ (s.drive slot).st = 4 ∨ (s.drive slot).st = 7 then 0 else (s.drive slot).st))) ∧
  (∀ (s : State) (slot : Nat) (flight : List (Nat × Nat)), s.terUp = true → slot < 32 → 
    Completes (.driveFailed slot flight) s (fun t => (t.drive slot).st = if (s.drive slot).st = 2 then 5 else (s.drive slot).st)) ∧
  (∀ (s : State), s.terUp = true → s.on F.TER_CAMCTL_EN = true → s.cqReady 95 = true → s.unconsumed 95 ≠ 0 → (s.ring 95).idx < s.ringSize 95 → 
    Completes (.accessUnitIntake) s (fun t => (t.ring 95).idx = ((s.ring 95).idx + 1) % s.ringSize 95)) ∧
  (∀ (s : State) (n : Nat), s.terUp = true → s.on F.TER_TILECTL_EN = true → s.cqReady 107 = true → s.unconsumed 107 ≠ 0 → (s.ring 107).idx < s.ringSize 107 → s.rd F.TER_TILECTL_NS = n → s.ter.index = [] → s.nsOpen n none = true → (s.ns n).kind = 1 → (s.ns n).wpos = 0 → 1 ≤ (s.ns n).size → (s.ext (extKey n 0)).st = 1 → s.tierReadOnly = false → 
    Completes (.tileIntake) s (fun t => (t.ring 107).idx = ((s.ring 107).idx + 1) % s.ringSize 107 ∧ (t.ns n).wpos = 266304 ∧ t.ter.index.length = 1)) ∧
  (∀ (s : State) (ag : Agent) (v : W32) (ms : Option Nat), s.accepts ag 0x13 0x000 = true → s.on F.TER_CTL_EN = false → v.getLsbD 31 = true → s.terCause = 0 → 
    Completes (.terraceEnable ag v ms) s (fun t => t.resp = .done ∧ t.on F.TER_CTL_EN = true ∧ (if ms = none then t.rd F.TER_READY_STATE = 3 else t.rd F.TER_READY_STATE = 2 ∧ t.on F.TER_STAT_READY = true))) ∧
  (∀ (s : State) (ag : Agent) (v : W32), s.accepts ag 0x13 0x000 = true → s.on F.TER_CTL_EN = true → v.getLsbD 31 = false → s.terUp = true → 
    Completes (.terraceStop ag v) s (fun t => t.resp = .done ∧ t.on F.TER_CTL_EN = false ∧ t.rd F.TER_READY_STATE = 0 ∧ (s.terAccepted = 0 → t.terUp = false)))

/-- Each slot command and link event of the PCI Express block completes. A slot is switched on or off and loses its link with its supply; a link trains again with the generation and width it comes up with; a lost link reads as down, SURPRISE where the slot was on; a request without completion is logged and traps the core that issued it; the endpoint's link follows its event. (R465, R466, R467, R468) -/
def Obligations.PciExpressCommandsComplete : Prop :=
  (∀ (s : State) (d : Desc), s.running 110 1 = some d → d.le 16 1 < 32 → d.le 17 1 ≤ 1 → 
    Completes (.slotpwr) s (fun t => t.on (F.PCE_SLOTs_CTL_PWR (d.le 16 1)) = decide (d.le 17 1 = 1) ∧ (d.le 17 1 = 0 → t.on (F.PCE_SLOTs_STAT_LINK (d.le 16 1)) = false))) ∧
  (∀ (s : State) (gen width : Nat) (d : Desc), s.running 110 2 = some d → d.le 16 1 < 32 → 
    Completes (.retrain gen width) s (fun t => t.rd (F.PCE_SLOTs_STAT_GEN (d.le 16 1)) = (if s.on (F.PCE_SLOTs_STAT_LINK (d.le 16 1)) = true then gen % 2 ^ (F.PCE_SLOTs_STAT_GEN (d.le 16 1)).width else s.rd (F.PCE_SLOTs_STAT_GEN (d.le 16 1))))) ∧
  (∀ (s : State) (n : Nat), s.pceOn = true → n < 32 → 
    Completes (.pcieLinkLoss (some n)) s (fun t => t.on (F.PCE_SLOTs_STAT_LINK n) = false ∧ (s.on (F.PCE_SLOTs_STAT_LINK n) = true → t.on (F.PCE_SLOTs_STAT_SURPRISE n) = s.on (F.PCE_SLOTs_CTL_PWR n)))) ∧
  (∀ (s : State), s.pceOn = true → 
    Completes (.pcieLinkLoss none) s (fun t => t.on F.PCE_STAT_RPUP = false ∧ (s.on F.PCE_STAT_RPUP = true → (List.range 32).all (fun n => !t.on (F.PCE_SLOTs_STAT_LINK n)) = true))) ∧
  (∀ (s : State) (slot : Option Nat) (hdr addr : Nat) (core : Nat × Nat × Nat × Bool), s.pceOn = true → s.on F.PCE_CTL_EN = true → core.1 < 16 → 
    Completes (.completionTimeout slot hdr addr (some core)) s (fun t => SMap.get (fun _ => {}) t.traps core.1 = { SMap.get (fun _ => {}) s.traps core.1 with cause := if core.2.1 = 1 then 1 else if core.2.1 = 2 then 7 else 5, tval := core.2.2.1, deleg := core.2.2.2 })) ∧
  (∀ (s : State) (up : Bool) (gen width : Nat), s.pceOn = true → s.on F.PCE_CTL_EN = true → s.on F.PCE_CTL_SPLIT = true → s.on F.PCE_EPCTL_EN = true → 
    Completes (.endpointLinkChange up gen width) s (fun t => t.on F.PCE_STAT_EPUP = up))

/-- Each input and output command of an NVMe/TCP host completes with its effect. A read answers the blocks' bytes and a write replaces them; a flush and an attribute other than deallocate answer success and change no content; deallocated and zeroed blocks read as zeros; a namespace that is not exported answers Invalid Namespace or Format. (R384, R446, R455, R458, R459) -/
def Obligations.HostIoComplete : Prop :=
  (∀ (s : State) (conn cid nsid lba blocks : Nat) (c : NvmeConn), s.targetOn = true → s.hostConn conn = some c → 
    Completes (.nvmeRead conn cid nsid lba blocks []) s (fun t => if s.exported nsid = false then t.ter.cpls.getLast? = some { conn := conn, cid := cid, sc := 0x0B }
      else if 256 < blocks then t.ter.cpls.getLast? = some { conn := conn, cid := cid, sc := 2 }
      else if (s.ns (nsid - 1)).size * 1024 < lba + blocks then t.ter.cpls.getLast? = some { conn := conn, cid := cid, sc := 0x80 }
      else if s.anyMissing (nsid - 1) lba blocks = true then t.ter.cpls.getLast? = some { conn := conn, cid := cid, sc := 0x82 }
      else if (List.range blocks).any (fun i => s.blockBad (nsid - 1) (lba + i)) = true then t.ter.cpls.getLast? = some { conn := conn, cid := cid, sct := 2, sc := 0x81 }
      else t.ter.cpls.getLast? = some { conn := conn, cid := cid, data := ((List.range blocks).map (fun i => s.blockOf (nsid - 1) (lba + i))).flatten })) ∧
  (∀ (s : State) (conn cid nsid lba : Nat) (data : List Bytes) (c : NvmeConn), s.targetOn = true → s.hostConn conn = some c → s.exported nsid = true → data.length ≤ 256 → lba + data.length ≤ (s.ns (nsid - 1)).size * 1024 → 
    Completes (.nvmeWrite conn cid nsid lba data) s (fun t => if s.hostWritable (nsid - 1) = false then t.ter.cpls.getLast? = some { conn := conn, cid := cid, sc := 0x20 } ∧ t.ter.blocks = s.ter.blocks
      else (s.needExts (nsid - 1) (extsOf lba data.length)).2 = 0 → t.ter.cpls.getLast? = some { conn := conn, cid := cid } ∧
      (List.range data.length).all (fun i => decide (t.blockOf (nsid - 1) (lba + i) = fitBytes 4096 (data.getD i []))) = true)) ∧
  (∀ (s : State) (conn cid nsid : Nat) (c : NvmeConn), s.targetOn = true → s.hostConn conn = some c → 
    Completes (.nvmeFlush conn cid nsid) s (fun t => t.ter.cpls.getLast? = some { conn := conn, cid := cid, sc := if s.exported nsid = true then 0 else 0x0B } ∧ t.ter.blocks = s.ter.blocks)) ∧
  (∀ (s : State) (conn cid nsid : Nat) (dealloc : Bool) (ranges : List (Nat × Nat)) (c : NvmeConn), s.targetOn = true → s.hostConn conn = some c → s.exported nsid = true → (s.ns (nsid - 1)).size ≤ 2 ^ 32 → 
    Completes (.nvmeDatasetManagement conn cid nsid dealloc ranges) s (fun t => if dealloc = false then t.ter.cpls.getLast? = some { conn := conn, cid := cid } ∧ t.ter.blocks = s.ter.blocks
      else if s.hostWritable (nsid - 1) = false then t.ter.cpls.getLast? = some { conn := conn, cid := cid, sc := 0x20 } ∧ t.ter.blocks = s.ter.blocks
      else if ranges.any (fun r => decide ((s.ns (nsid - 1)).size * 1024 < r.1 + r.2)) = true then t.ter.cpls.getLast? = some { conn := conn, cid := cid, sc := 0x80 } ∧ t.ter.blocks = s.ter.blocks
      else ranges.any (fun r => s.anyMissing (nsid - 1) r.1 r.2) = false → t.ter.cpls.getLast? = some { conn := conn, cid := cid } ∧
      ranges.all (fun r => (List.range r.2).all (fun i => decide (t.blockOf (nsid - 1) (r.1 + i) = List.replicate 4096 0))) = true)) ∧
  (∀ (s : State) (conn cid nsid lba blocks : Nat) (c : NvmeConn), s.targetOn = true → s.hostConn conn = some c → s.exported nsid = true → lba + blocks ≤ (s.ns (nsid - 1)).size * 1024 → s.hostWritable (nsid - 1) = true → (s.needExts (nsid - 1) (extsOf lba blocks)).2 = 0 → 
    Completes (.nvmeWriteZeroes conn cid nsid lba blocks) s (fun t => t.ter.cpls.getLast? = some { conn := conn, cid := cid } ∧ (List.range blocks).all (fun i => decide (t.blockOf (nsid - 1) (lba + i) = List.replicate 4096 0)) = true))

/-- Each step of the power sequences ends with its effect and enters the step that follows. Bed up starts Sundial, powers Bed, starts its firmware and reaches the Doze state; Bed down stops the engines and ends in Root-armed; Canopy up powers Canopy and reaches the Field state, is retried, and goes down through its grace time. (R473, R474, R475, R476, R477, R478, R479, R482, R484) -/
def Obligations.BedAndCanopySequencesComplete : Prop :=
  (∀ (s : State) (q : SeqIn) (ms : Nat), q.durs = [ms] → s.pwr.step = 1 ∨ s.pwr.step = 2 → s.pwr.turn = none → 
    Completes (.bedUp q) s (fun t => t.pwr.step = s.pwr.step + 1 ∧ (s.pwr.step = 2 → t.now % 8 = 0 ∧ s.pwr.cal / 64 ≤ t.now ∧ s.wideGet Reg.RTD_SDLSAVE_LO + 1000000000 ≤ t.now))) ∧
  (∀ (s : State) (q : SeqIn) (ms : Nat), q.durs = [ms] → s.pwr.step = 3 → s.pwr.turn = none → s.pwr.hot = false → 
    Completes (.bedUp q) s (fun t => t.pwr.step = 4 ∧ t.bedOn = true ∧ t.canopyOn = s.canopyOn ∧ t.rings = [] ∧ t.rootRd F.RTD_STAT_CALVALID = s.rootRd F.RTD_STAT_CALVALID)) ∧
  (∀ (s : State) (q : SeqIn) (ms : Nat), q.durs = [ms] → s.pwr.step = 4 → s.pwr.turn = none → s.pwr.booted = true → s.bedOn = true → 
    Completes (.bedUp q) s (fun t => t.pwr.step = if (s.bootSlot 2 q.bad).isSome = true then 5 else 4)) ∧
  (∀ (s : State) (q : SeqIn) (ms : Nat), q.durs = [ms] → s.pwr.step = 6 → s.pwr.turn = none → s.bedOn = true → 
    Completes (.bedUp q) s (fun t => t.pwr.st = 2 ∧ t.rd F.SYS_PWRSTATE_STATE = 2 ∧ t.on F.SYS_STAT_STATECHG = true)) ∧
  (∀ (s : State) (q : SeqIn) (ms : Nat), q.durs = [ms] → s.pwr.step = 9 ∨ s.pwr.step = 10 → s.pwr.turn = none → s.bedOn = true → s.pwr.step = 10 → s.latches = [] → 
    Completes (.bedDown q) s (fun t => t.pwr.step = s.pwr.step + 1 ∧ (s.pwr.step = 9 → t.on F.FUR_RUN_EN = (s.on F.FUR_RUN_EN && decide (s.rd F.FUR_STATE_STATE = 0))) ∧ (s.pwr.step = 10 → t.latches = [] ∧ t.wideGet Reg.RTD_SDLSAVE_LO = s.now))) ∧
  (∀ (s : State) (q : SeqIn) (ms : Nat), q.durs = [ms] → s.pwr.step = 11 → s.pwr.turn = none → 
    Completes (.bedDown q) s (fun t => t.bedOn = false ∧ t.pwr.st = 1 ∧ t.latches = [])) ∧
  (∀ (s : State) (q : SeqIn) (ms : Nat), q.durs = [ms] → s.pwr.step = 15 → s.pwr.turn = none → 
    Completes (.canopyUp q) s (fun t => t.pwr.step = 16 ∧ t.canopyOn = true ∧ t.rd F.HLT_VCORE_CANOPY = 750)) ∧
  (∀ (s : State) (q : SeqIn) (ms : Nat), q.durs = [ms] → s.pwr.step = 16 → s.pwr.turn = none → 
    Completes (.canopyUp q) s (fun t => t.pwr.step = if t.on F.MEM_STAT_READY = true then 17 else 22)) ∧
  (∀ (s : State) (q : SeqIn) (ms : Nat), q.durs = [ms] → s.pwr.step = 17 → s.pwr.turn = none → 
    Completes (.canopyUp q) s (fun t => t.pwr.st = 3 ∧ t.rd F.SYS_PWRSTATE_STATE = 3 ∧ t.pwr.retries = 0)) ∧
  (∀ (s : State) (q : SeqIn) (at0 : Nat), q.durs = [] → s.pwr.retryAt = some at0 → at0 ≤ s.now → s.bedOn = true → s.pwr.st = 2 → s.pwr.step = 0 → s.target = 2 → s.rd F.SYS_SHED_SHST ≠ 2 → 
    Completes (.canopyUpRetry q) s (fun t => t.pwr.step = 14 ∧ t.pwr.retryAt = none ∧ t.pwr.retries = s.pwr.retries + 1)) ∧
  (∀ (s : State) (q : SeqIn), q.durs = [] → s.bedOn = true → s.pwr.st = 3 → s.pwr.step = 0 → s.pwr.tableDue = false → s.target ≠ 2 → 
    Completes (.canopyDown q) s (fun t => t.pwr.step = 19 ∧ t.on F.SYS_STAT_CDOWN = true)) ∧
  (∀ (s : State) (q : SeqIn) (ms : Nat), q.durs = [ms] → s.pwr.step = 22 → s.pwr.turn = none → 
    Completes (.canopyDown q) s (fun t => t.canopyOn = false ∧ t.pwr.st = 2)) ∧
  (∀ (s : State), s.pwr.step = 19 → s.pwr.stepAt + s.rd F.SYS_PWRCFG_CANGRACE * 1000000000 ≤ s.now → 
    Completes (.canopyGraceTimeout) s (fun t => t.pwr.step = 20))

/-- Each request, wake and sleep command of the power chapter completes with its effect. A write of SYS_PWRREQ sets TARGET and GO from the carrying Dale ends the grace time; ignition follows its rules; an enabled wake starts Bed up; the sleep agreement moves from hold to sleep, KEEPAWAKE renews its window and a late wake abandons it. (R473, R478, R480, R481, R482, R483) -/
def Obligations.PowerRequestsComplete : Prop :=
  (∀ (s : State) (ag : Agent) (v : W32), s.accepts ag 0x00 0x018 = true → listedAt Reg.SYS_PWRREQ v = true → 
    Completes (.pwrreqTarget ag v) s (fun t => t.resp = .done ∧ t.rd F.SYS_PWRSTATE_TARGET = v.toNat % 4)) ∧
  (∀ (s : State) (ag : Agent) (v : W32), s.accepts ag 0x00 0x018 = true → listedAt Reg.SYS_PWRREQ (setBits v 31 31 1) = true → s.carrier = some ag → s.pwr.step = 19 → v.toNat % 4 ≠ 2 → 
    Completes (.pwrreqGo ag v) s (fun t => t.resp = .done ∧ t.pwr.step = 20 ∧ t.rd F.SYS_PWRSTATE_TARGET = v.toNat % 4)) ∧
  (∀ (s : State), s.rootOn = true → 
    Completes (.ignitionRise) s (fun t => t.rootRd F.RTD_WAKELVL_IGN = 1 ∧ (s.bedOn = true → s.on F.SYS_PWRCFG_AUTO = true → t.rd F.SYS_PWRSTATE_TARGET = 2))) ∧
  (∀ (s : State) (since : Nat), s.bedOn = true → s.pwr.reset = false → s.on F.SYS_PWRCFG_AUTO = true → s.pwr.ignBar.all (fun b => decide (b < since)) = true → s.pwr.bu6At ≤ since → since + s.rd F.SYS_PWRCFG_IGNOFF * 1000000000 ≤ s.now → 
    Completes (.ignitionOffTimeout since) s (fun t => t.rootRd F.RTD_WAKELVL_IGN = 0 ∧ t.rd F.SYS_PWRSTATE_TARGET = 0)) ∧
  (∀ (s : State) (src : Nat), s.rootOn = true → src < 8 → s.pwr.st = 1 → s.wakeOn src = true → 
    Completes (.wake src) s (fun t => bitAt (t.rootRd F.RTD_WAKESTAT_SRC) src = true ∧ (s.pwr.step = 0 → t.pwr.step = 1))) ∧
  (∀ (s : State) (e : Nat), s.rootOn = true → s.pwr.wEnd = some e → e ≤ s.pwr.root → 
    Completes (.wakeTimerExpiry) s (fun t => t.pwr.wEnd = none ∧ t.rootRd F.RTD_WTIMER_SEC = 0 ∧ (s.pwr.st = 1 → s.wakeOn 7 = true → s.pwr.step = 0 → t.pwr.step = 1))) ∧
  (∀ (s : State) (n : Nat) (rising : Bool), s.rootOn = true → n = 1 ∨ n = 2 → 
    Completes (.wakeInputEdge n rising) s (fun t => t.rootRd (if n = 1 then F.RTD_WAKELVL_WAKE1 else F.RTD_WAKELVL_WAKE2) = (if rising = true then 1 else 0) ∧
      (s.pwr.st = 1 → s.pwr.step = 0 → s.wakeOn (n + 1) = true → s.rootRd (if n = 1 then F.RTD_WAKECFG_W1EDGE else F.RTD_WAKECFG_W2EDGE) = 2 → t.pwr.step = 1))) ∧
  (∀ (s : State), s.bedOn = true → s.pwr.st = 2 → s.pwr.step = 0 → s.pwr.tableDue = false → s.target = 0 → 
    Completes (.sleepHold) s (fun t => t.pwr.step = (if s.sleepers.isEmpty = true then 7 else 0x18) ∧ t.pwr.parts = s.sleepers ∧ (s.sleepers.isEmpty = false → t.rd F.SYS_SLEEPSTAT_PHASE = 1))) ∧
  (∀ (s : State) (c sa : Nat), s.bedOn = true → (s.ctl c).keep = some sa → 
    Completes (.keepawake c) s (fun t => t.rd F.SYS_SLEEPSTAT_KASRC = sa % 256 ∧ (t.ctl c).keep = none ∧ (s.pwr.step = 0x18 → t.pwr.holdAt = s.now))) ∧
  (∀ (s : State), s.bedOn = true → (s.pwr.step = 0x18 ∧ s.pwr.sent = 0 ∧ s.pwr.holdAt + s.holdOff ≤ s.now) ∨ (s.pwr.step = 0x19 ∧ s.pwr.sent ≤ 2 ∧ s.pwr.reqAt + 10000000 ≤ s.now) → 
    Completes (.sleepHoldExpiry) s (fun t => t.pwr.sent = s.pwr.sent + 1 ∧ t.pwr.step = (if s.pwr.step = 0x19 ∧ s.pwr.sent = 2 then 0x1A else 0x19))) ∧
  (∀ (s : State), s.bedOn = true → s.pwr.step = 0x1A → s.pwr.reqAt + s.rd F.SYS_SLEEPCFG_SBDLY * 10000000 ≤ s.now → 
    Completes (.sleepWaitExpiry) s (fun t => t.pwr.step = 7 ∧ t.rd F.SYS_SLEEPSTAT_PHASE = 4)) ∧
  (∀ (s : State) (c : Nat), s.bedOn = true → (s.ctl c).wuf = true → s.lateStep = true → s.pwr.turn = none → 
    Completes (.lateWake c) s (fun t => (t.ctl c).wuf = false ∧ t.on F.SYS_STAT_SLEEPABORT = true ∧ t.rd F.SYS_PWRSTATE_TARGET = 1 ∧ t.rd F.SYS_SLEEPSTAT_ABORTS = min (s.rd F.SYS_SLEEPSTAT_ABORTS + 1) (maxOf F.SYS_SLEEPSTAT_ABORTS.width)))

/-- Each reset and supply command completes with its effect. A module reset turns Canopy off, logs its cause and runs Bed from BU3; a Canopy restart runs CD4 and CD5 and then CU2; the reset button counts its presses and is ignored while stuck; supply events are logged with their voltage, a failure leaves only Root, and the return reaches Root-armed. (R469, R470, R472, R484, R485, R486, R494) -/
def Obligations.ResetsAndSupplyComplete : Prop :=
  (∀ (s : State) (ag : Agent) (v : W32) (q : SeqIn) (ms : Nat), s.accepts ag 0x00 0x02C = true → v.toNat / 2 ^ 16 = 0x52E5 → q.durs = [ms] → s.pwr.reset = false → 
    Completes (.moduleReset ag v q) s (fun t => t.resp = .done ∧ t.bedOn = true ∧ t.canopyOn = false ∧ t.pwr.step = 4 ∧ t.rd F.SYS_RSTCAUSE_CAUSE = 5 ∧ t.now = s.now)) ∧
  (∀ (s : State) (ag : Agent) (v : W32) (q : SeqIn) (m n : Nat), s.accepts ag 0x00 0x02C = true → v.toNat / 2 ^ 16 = 0x52E5 → q.durs = [m, n] → s.canopyOn = true → s.bedOn = true → s.target = 2 → 
    Completes (.canopyRestart ag v q) s (fun t => t.resp = .done ∧ t.canopyOn = false ∧ t.pwr.step = 14 ∧ t.rd F.SYS_RSTCAUSE_CAUSE = 6)) ∧
  (∀ (s : State) (released : Bool) (q : SeqIn), s.rootOn = true → s.rootBit F.RTD_STAT_BTNSTUCK = false → q.durs = [] → 
    Completes (.resetButton released q) s (fun t => t.rootRd F.RTD_BTN_PRESS = min (s.rootRd F.RTD_BTN_PRESS + 1) 65535 ∧ (s.bedOn = true → s.pwr.reset = false → t.bedOn = false ∧ t.pwr.step = 3 ∧ t.rd F.SYS_RSTCAUSE_CAUSE = 4) ∧
      (s.bedOn = false → s.pwr.st = 1 → s.wakeOn 6 = true → s.pwr.step = 0 → t.pwr.step = 1))) ∧
  (∀ (s : State), s.rootOn = true → s.rootBit F.RTD_WAKELVL_BTN = true → 
    Completes (.buttonStuck) s (fun t => t.rootBit F.RTD_STAT_BTNSTUCK = true ∧ (s.rootBit F.RTD_STAT_BTNSTUCK = false → t.rootRd F.RTD_BTN_STUCK = min (s.rootRd F.RTD_BTN_STUCK + 1) 65535))) ∧
  (∀ (s : State), s.rootOn = true → 
    Completes (.buttonUnmask) s (fun t => t.rootBit F.RTD_STAT_BTNSTUCK = false)) ∧
  (∀ (s : State) (mv : Nat), s.rootOn = true → s.pwr.st ≠ 0 → 6000 ≤ mv → mv < 9000 → 
    Completes (.supplyLow mv) s (fun t => (t.rootReg Reg.RTD_SUPLOG).toNat = 2 ^ 28 + mv ∧ (s.bedOn = true → t.on F.SYS_STAT_SUPLOW = true) ∧ (t.bedOn, t.canopyOn) = (s.bedOn, s.canopyOn))) ∧
  (∀ (s : State) (mv : Nat), s.rootOn = true → s.pwr.st ≠ 0 → 32000 < mv → mv ≤ 60000 → 
    Completes (.supplyHigh mv) s (fun t => (t.rootReg Reg.RTD_SUPLOG).toNat = 3 * 2 ^ 28 + mv ∧ (s.bedOn = true → t.on F.SYS_STAT_SUPHIGH = true) ∧ (t.bedOn, t.canopyOn) = (s.bedOn, s.canopyOn))) ∧
  (∀ (s : State) (mv : Nat) (ok : Bool), s.rootOn = true → s.pwr.st ≠ 0 → mv < 6000 → 
    Completes (.supplyFailure mv ok) s (fun t => t.rootOn = true ∧ t.bedOn = false ∧ t.canopyOn = false ∧ t.pwr.st = 0 ∧ t.latches = [] ∧ (t.rootReg Reg.RTD_SUPLOG).toNat = 2 * 2 ^ 28 + mv)) ∧
  (∀ (s : State) (mv : Nat), s.rootOn = true → s.pwr.st = 0 → 8000 < mv → 
    Completes (.supplyReturn mv) s (fun t => t.pwr.st = 1 ∧ (t.rootReg Reg.RTD_SUPLOG).toNat = 4 * 2 ^ 28 + min mv 0xFFFF ∧ (s.wakeOn 0 = true → t.pwr.step = 1)))

/-- Each command of the thermal rules, the backup cell and the Root save completes with its effect. Shedding takes Canopy down without grace and return ends it; a cut runs Canopy from CD4 or resets the module; the cell's voltage and charge are measured; a save that is due is written over the older copy, and Root power-on restores the newest valid one. (R487, R488, R489, R490, R491, R492, R493) -/
def Obligations.HeatAndRootComplete : Prop :=
  (∀ (s : State), s.bedOn = true → s.on F.SYS_SHED_EN = true → s.rd F.SYS_SHED_SHST = 1 → s.tim.aboveCrit = true → s.pwr.shedAt + s.rd F.SYS_SHED_WAIT * 1000000000 ≤ s.now → 
    Completes (.thermalShed) s (fun t => t.rd F.SYS_SHED_SHST = 2 ∧ (s.pwr.st = 3 → s.pwr.step = 0 → t.pwr.step = 20))) ∧
  (∀ (s : State) (c : Nat), s.bedOn = true → s.on F.SYS_SHED_AUTORET = true → s.rd F.SYS_SHED_SHST = 2 → s.pwr.coolAt = some c → c + 60000000000 ≤ s.now → 
    Completes (.thermalReturn) s (fun t => t.rd F.SYS_SHED_SHST = 0)) ∧
  (∀ (s : State) (q : SeqIn) (h : Nat), q.durs = [] → s.bedOn = true → s.canopyOn = true → s.pwr.hotAt = some h → h + 10000000 ≤ s.now → s.pwr.step ≠ 0x15 → s.pwr.step ≠ 0x16 → 
    Completes (.thermalCut none q) s (fun t => t.pwr.step = 0x15 ∧ t.rd F.SYS_PWRSTATE_STEP = 0x15)) ∧
  (∀ (s : State) (q : SeqIn) (n : Nat), q.durs = [] → s.bedOn = true → s.pwr.reset = false → n < 24 → s.on (F.HLT_TEMPn_VALID n) = true → 1200 ≤ s.tempOf n → 
    Completes (.thermalCut (some n) q) s (fun t => t.bedOn = false ∧ t.canopyOn = false ∧ t.pwr.hot = true ∧ t.pwr.step = 3)) ∧
  (∀ (s : State) (mv : Nat) (dq : Int) (ok : Bool), s.rootOn = true → s.rootRd F.RTD_CELLCFG_VLOW ≤ mv → s.rootRd F.RTD_CELLQ_UAH ≠ 0 → 0 ≤ dq → mv < 65536 → (s.rootRd F.RTD_CELLQ_UAH : Int) + dq ≤ 50000 → 2300 ≤ mv → 
    Completes (.cellMeasure mv dq ok) s (fun t => t.rootRd F.RTD_CELLV_MV = mv ∧ t.rootRd F.RTD_CELLV_LOW = min mv (s.rootRd F.RTD_CELLV_LOW) ∧ (t.rootRd F.RTD_CELLQ_UAH : Int) = s.rootRd F.RTD_CELLQ_UAH + dq ∧ t.pwr.lowRun = 0 ∧ t.rootOn = true)) ∧
  (∀ (s : State) (mv : Nat) (dq : Int) (ok : Bool), s.rootOn = true → 
    Completes (.cellMeasure mv dq ok) s (fun t => t.rootRd F.RTD_CELLV_MV = min mv 0xFFFF ∧ t.rootRd F.RTD_CELLV_LOW = min (min mv 0xFFFF) (s.rootRd F.RTD_CELLV_LOW) ∧ (t.rootOn = false ↔ mv < 2300 ∧ s.pwr.st = 0))) ∧
  (∀ (s : State) (ok : Bool) (c : Nat), s.rootOn = true → s.saveDue = some c → s.upd.unsaved = [] → 
    Completes (.rootSave ok) s (fun t => t.pwr.saves = s.saveImage ok :: s.pwr.saves.take 1 ∧ t.pwr.savedAt = s.pwr.root ∧ (ok = false → t.rootBit F.RTD_STAT_SAVEFAIL = true))) ∧
  (∀ (s : State) (ag : Agent), s.accepts ag 0x02 0x048 = true → 
    Completes (.rtdSaveNow ag) s (fun t => t.resp = .done ∧ t.latches.find? (fun l => decide (l.off = 0x048)) = some ⟨0x048, 0x80000000, ((s.latches.find? (fun l => decide (l.off = 0x048))).map (fun l => l.ones ||| 0x80000000)).getD 0x80000000, s.now⟩)) ∧
  (∀ (s : State) (ag : Agent) (v : W32), s.accepts ag 0x02 0x000 = true → listedAt Reg.RTD_CTL (setBits v 31 31 1) = true → 
    Completes (.rtdCalload ag v) s (fun t => t.resp = .done ∧ (t.latches.find? (fun l => decide (l.off = 0))).map (fun l => (l.value, l.time)) = some (setBits v 31 31 1, s.now))) ∧
  (∀ (s : State), s.rootOn = false → s.validSave = none → 
    Completes (.rootPowerOn) s (fun t => t.rootOn = true ∧ t.latches = [] ∧ t.pwr.st = 0 ∧ t.pwr.cal = 0 ∧ t.rootRegs = [])) ∧
  (∀ (s : State) (v : RootSave), s.rootOn = false → s.validSave = some v → 
    Completes (.rootPowerOn) s (fun t => t.rootOn = true ∧ t.latches = [] ∧ t.pwr.st = 0 ∧ (t.pwr.cal = v.cal ∧ t.upd.arb = v.arb ∧ t.outs.wear = v.wear) ∧ (t.rootReg Reg.RTD_OPSEC).toNat = v.opsec % 2 ^ 32 ∧ t.rootBit F.RTD_STAT_CALLOST = true ∧ t.rootBit F.RTD_STAT_CALVALID = false))

/-- Each self-test, Dale, comparison, mirror and token command completes with its effect. A queued test is judged and leaves the queue; a heartbeat is noted and its absence, a declared fault or an uncorrectable error holds the Dale in reset; READY and ARMED are set; a comparison closes on two signatures; a mirror region starts to synchronise; TEST queues, and TOKTAKE and TOKGIVE take and release a token. (R495, R496, R497, R498, R500, R501, R502, R504, R511, R512, R513, R516) -/
def Obligations.HealthCommandsComplete : Prop :=
  (∀ (s : State) (res : Nat) (found : Bool) (part : Nat) (bad : List Nat), s.bedOn = true → resClass res = 2 → s.nextTest 2 = some res → s.upd.run = none → 1 < s.rd F.HLT_CTL_REPEAT → s.hlt.passes = [] → 
    Completes (.selfTest res found part bad) s (fun t => t.rd F.HLT_LASTTEST_RESULT = (if found = true then 2 else 1) ∧ t.hlt.tests.all (fun x => decide (x.res ≠ res)) = true ∧
      (found = true → SMap.get (fun _ => 0) t.hlt.lostRegs (res / 2 ^ 16 % 32) = SMap.get (fun _ => 0) s.hlt.lostRegs (res / 2 ^ 16 % 32) + 1))) ∧
  (∀ (s : State) (res : Nat) (corrected : Bool), s.bedOn = true → resClass res = 4 → res / 2 ^ 24 % 16 = 2 → 
    Completes (.engineCheckError res corrected) s (fun t => t.rd F.FUR_PMERR_CNT = min (s.rd F.FUR_PMERR_CNT + 1) (maxOf F.FUR_PMERR_CNT.width) ∧ (corrected = false → t.fur.badCode.contains (res % 2 ^ 22) = true) ∧ (s.hlt.tests.length < 64 → t.hlt.tests.any (fun x => decide (x.res = res)) = true))) ∧
  (∀ (s : State) (res : Nat) (corrected : Bool), s.bedOn = true → s.canopyOn = true → resClass res = 5 → res / 2 ^ 20 % 256 < 5 → s.hlt.tests.length < 64 → 
    Completes (.engineCheckError res corrected) s (fun t => t.hlt.tests.any (fun x => decide (x.res = res)) = true)) ∧
  (∀ (s : State) (ag : Agent) (n : Nat), n < 2 → s.accepts ag 0x03 (0x084 + 0x20 * n) = true → 
    Completes (.heartbeat ag n) s (fun t => t.resp = .done ∧ SMap.get (fun _ => 0) t.hlt.hb n = s.now ∧ t.rd (F.HLT_DALEn_HBAGE_AGE n) = 0)) ∧
  (∀ (s : State) (n : Nat), s.bedOn = true → n < 2 → s.daleState n = 1 → s.on (F.HLT_DALEn_CTL_READY n) = true ∨ s.carryIdx = some n → SMap.get (fun _ => 0) s.hlt.hb n + s.rd F.HLT_HOCFG_HBPER * 1000000 ≤ s.now → 
    Completes (.heartbeatTimeout n) s (fun t => t.daleState n = 2 ∧ t.rd (F.HLT_DALEn_STAT_FCAUSE n) = 4 ∧ t.daleReady n = false ∧ t.carryIdx ≠ some n)) ∧
  (∀ (s : State) (ag : Agent) (n : Nat), n < 2 → s.accepts ag 0x03 (0x080 + 0x20 * n) = true → s.daleState n = 1 → s.upd.run = none → 
    Completes (.daleDeclareFail ag n) s (fun t => t.resp = .done ∧ t.daleState n = 2 ∧ t.rd (F.HLT_DALEn_STAT_FCAUSE n) = 6 ∧ t.daleReady n = false ∧ t.carryIdx ≠ some n)) ∧
  (∀ (s : State) (ag : Agent) (n : Nat) (v : W32), n < 2 → s.accepts ag 0x03 (0x080 + 0x20 * n) = true → s.upd.run = none → 
    Completes (.daleReadyWrite ag n v) s (fun t => t.resp = .done ∧ t.on (F.HLT_DALEn_CTL_READY n) = v.getLsbD 31 ∧ t.on (F.HLT_DALEn_CTL_ARMED n) = v.getLsbD 30)) ∧
  (∀ (s : State) (n core : Nat) (unc tagState : Bool), s.bedOn = true → s.canopyOn = true → n < 2 → core < 8 → s.daleState n = 1 → 
    Completes (.daleCacheError n core unc tagState) s (fun t => t.rd (if unc then F.HLT_DALEn_ERRCNT_UNC n else F.HLT_DALEn_ERRCNT_CORR n) = min (s.rd (if unc then F.HLT_DALEn_ERRCNT_UNC n else F.HLT_DALEn_ERRCNT_CORR n) + 1) (maxOf (if unc then F.HLT_DALEn_ERRCNT_UNC n else F.HLT_DALEn_ERRCNT_CORR n).width) ∧
      (unc && tagState → t.daleState n = 2 ∧ t.rd (F.HLT_DALEn_STAT_FCAUSE n) = 5))) ∧
  (∀ (s : State) (ag : Agent) (k : Nat) (v : W32), k < 16 → s.accepts ag 0x03 (0x280 + 8 * k + 4 * (if ag = .daleB then 1 else 0)) = true → 
    Completes (.comparisonWrite ag k v) s (fun t => t.resp = .done ∧ t.reg (if ag = .daleB then Reg.HLT_CMPk_B k else Reg.HLT_CMPk_A k) = v ∧ (SMap.get (fun _ => 0) s.hlt.half k = 0 → t.on ⟨Reg.HLT_CMPSTAT, k, k⟩ = true) ∧
      (ag ≠ .daleB → SMap.get (fun _ => 0) s.hlt.half k = 2 → s.reg (Reg.HLT_CMPk_B k) = v → t.rd F.HLT_CMPCNT_CNT = min (s.rd F.HLT_CMPCNT_CNT + 1) (maxOf F.HLT_CMPCNT_CNT.width)))) ∧
  (∀ (s : State) (ag : Agent) (n : Nat) (v : W32) (finish : Bool), n < 16 → s.accepts ag 0x03 (0x108 + 0x10 * n) = true → s.on (F.HLT_MIRn_CFG_EN n) = false → v.getLsbD 31 = true → 1 ≤ v.toNat % 2 ^ 14 → s.mirSrc n + v.toNat % 2 ^ 14 * 65536 ≤ s.code.dramSize → s.mirCopy n + v.toNat % 2 ^ 14 * 65536 ≤ s.code.dramSize → s.mirOverlaps n (v.toNat % 2 ^ 14 * 65536) = false → 
    Completes (.mirrorRegionEnable ag n v finish) s (fun t => t.resp = .done ∧ t.on (F.HLT_MIRn_CFG_EN n) = true ∧ t.on (F.HLT_MIRn_STAT_SYNC n) = !(finish && s.canopyOn))) ∧
  (∀ (s : State) (d : Desc), s.freshDesc 1 = some d → resClass (d.le 16 4) ≤ 7 → resClass (d.le 16 4) = 3 → (d.le 16 4 % 16 < 8 ∨ d.le 16 4 % 16 = 15) ∧ s.otherReady (resDale (d.le 16 4)) = true → s.hlt.tests.length < 64 → s.hlt.tests.any (fun x => decide (x.res = d.le 16 4)) = false → 
    Completes (.testCmd) s (fun t => t.hlt.tests = s.hlt.tests ++ [{ res := d.le 16 4, since := s.now, descs := [d] }])) ∧
  (∀ (s : State) (d : Desc), s.freshDesc 3 = some d → d.le 16 1 ≤ 7 → s.holdsToken (d.le 16 1) s.ringOwner = false → 
    Completes (.toktake) s (fun t => if s.on (F.HLT_TOKc_HELD (d.le 16 1)) = true then (t.token (d.le 16 1)).waits.length = (s.token (d.le 16 1)).waits.length + 1
      else t.on (F.HLT_TOKc_HELD (d.le 16 1)) = true ∧ t.rd (F.HLT_TOKc_OWNER (d.le 16 1)) = s.ringOwner ∧ t.rd (F.HLT_TOKc_ACT (d.le 16 1)) = 0xC)) ∧
  (∀ (s : State) (d : Desc), s.freshDesc 4 = some d → d.le 16 1 ≤ 7 → s.upd.run = none → (s.token (d.le 16 1)).waits = [] → 
    Completes (.tokgive) s (fun t => if s.holdsToken (d.le 16 1) s.ringOwner = false ∨ s.rd (F.HLT_TOKc_ACT (d.le 16 1)) ≠ 0xC then t = s.complete 66 d { status := 0x46 }
      else ¬(t.holdsToken (d.le 16 1) s.ringOwner = true ∧ t.rd (F.HLT_TOKc_ACT (d.le 16 1)) = 0xC))) ∧
  (∀ (s : State) (c : Nat), s.bedOn = true → c < 8 → s.on (F.HLT_TOKc_HELD c) = true → (s.token c).since + 3600000000000 < s.now → 
    Completes (.tokenHeldOneHour c) s (fun t => (t.token c).hourTold = true ∧ t.on (F.HLT_TOKc_HELD c) = true))

/-- Each command of the saddle handover completes with its effect. A planned handover waits with its PREPARE sent; at a boundary the role passes to the READY Dale; one whose standing Dale does not arm within 1 s ends; ten seconds without a Dale restart Canopy once. (R503, R506, R507, R508, R510, R516) -/
def Obligations.HandoverCommandsComplete : Prop :=
  (∀ (s : State) (d : Desc) (c : Nat), s.freshDesc 2 = some d → s.carryIdx = some c → 
    Completes (.handover) s (fun t => if s.hlt.hand.isSome = true then t = s.complete 66 d { status := 0x43 }
      else if s.daleReady (1 - c) = false ∨ (s.daleBusy 0 || s.daleBusy 1) = true then t = s.complete 66 d { status := 0x41 }
      else s.on (F.HLT_TOKc_HELD 4) = false → t.rd F.HLT_HOSTAT_STATE = 1 ∧ t.hlt.hand = some { fault := false, cause := 1, src := c, at0 := if d.tmode = 1 then d.deadline else 0, desc := some d, since := some s.now, owner := c })) ∧
  (∀ (s : State) (h : Handover), s.bedOn = true → s.canopyOn = true → s.now % (s.rd F.HLT_HOCFG_HOPER * 1000000) = s.rd F.HLT_HOCFG_HOPHASE * 1000 → s.hlt.hand = some h → h.fault = true → s.daleReady (1 - h.src) = true → s.upd.run = none → 
    Completes (.handoverSwitch) s (fun t => t.carryIdx = some (1 - h.src) ∧ t.hlt.hand = none ∧ t.rd F.HLT_ROLE_SWITCHES = min (s.rd F.HLT_ROLE_SWITCHES + 1) (maxOf F.HLT_ROLE_SWITCHES.width) ∧ t.rd F.HLT_HOSTAT_STATE = 0)) ∧
  (∀ (s : State) (h : Handover) (at1 : Nat), s.hlt.hand = some h → h.fault = false → h.since = some at1 → at1 + 1000000000 ≤ s.now → s.on (F.HLT_DALEn_CTL_ARMED (1 - h.src)) = false → s.upd.run = none → 
    Completes (.handoverPrepareTimeout) s (fun t => t.hlt.hand = none ∧ t.rd F.HLT_HOSTAT_STATE = 0 ∧ t.carryIdx = s.carryIdx)) ∧
  (∀ (s : State) (q : SeqIn) (at0 : Nat), q.durs = [] → s.hlt.noneSince = some at0 → s.bedOn = true → s.canopyOn = true → s.rd F.HLT_ROLE_CARRY = 2 → at0 + 10000000000 ≤ s.now → s.hlt.ordered = false → s.daleReady 0 = false → s.daleReady 1 = false → s.on F.HLT_CTL_RESTART = true → 
    Completes (.noDaleRestart q) s (fun t => t.hlt.ordered = true ∧ t.rd F.SYS_RSTCAUSE_CAUSE = 7 ∧ t.pwr.step = 0x15))

/-- Each command of the update engine completes with its effect. STAGE refuses a package with the first status that applies or holds it staged; APPLY of no package answers NOPKG and of a configuration item writes the record and ends DONE; ABORT with nothing running completes; records are read and written; a confirmation makes the slot CONFIRMED and raises the counter; a declared failure or an expired window ends the probation; a deferred table is written. (R523, R526, R527, R528, R529, R530, R531, R532, R533, R541, R542, R543) -/
def Obligations.UpdateCommandsComplete : Prop :=
  (∀ (s : State) (sig : Bool) (d : Desc), s.bedOn = true → s.running 64 1 = some d → d.le 24 8 % 4096 = 0 → s.canopyOn = true → inDramRange s.code (d.le 24 8) (d.le 32 8) = true → s.upd.run = none → s.mem.poisoned (d.le 24 8) (d.le 32 8) = false → 
    Completes (.stage sig none) s (fun t => if s.stageStatus (s.mem.readBytes (d.le 24 8) (d.le 32 8)) sig ≠ 0 then t.upd.pkg = none ∧ t.rd F.UPD_PKGSTAT_STATE = 5 ∧ t.rd F.UPD_PKGSTAT_STATUS = s.stageStatus (s.mem.readBytes (d.le 24 8) (d.le 32 8)) sig % 2 ^ F.UPD_PKGSTAT_STATUS.width
      else t.upd.pkg.isSome = true ∧ t.rd F.UPD_PKGSTAT_STATE = 2 ∧ (t.reg Reg.UPD_PKGID).toNat = s.mem.readLe (d.le 24 8 + 8) 4)) ∧
  (∀ (s : State) (icFail : List Nat) (d : Desc), s.bedOn = true → s.upd.run = none → s.running 64 2 = some d → s.upd.pkg = none → 
    Completes (.apply icFail) s (fun t => t = s.complete 64 d { status := 0x48 })) ∧
  (∀ (s : State) (icFail : List Nat) (d : Desc) (p : Package) (i : PkgItem), s.bedOn = true → s.upd.run = none → s.running 64 2 = some d → s.upd.pkg = some p → p.items = [i] → p.reqs = [] → i.kind = 2 → i.skip = false → i.unit ≤ 5 → 
    Completes (.apply icFail) s (fun t => t.upd.run = none ∧ t.upd.pkg = none ∧ t.rd F.UPD_PKGSTAT_STATE = 4 ∧ t.rd F.UPD_PKGSTAT_STATUS = 0 ∧ t.cfgRec i.unit (s.cfgTarget i.unit) = { ok := true, cfgver := i.ver, seq := s.nextSeq i.unit, body := i.data.drop 64 })) ∧
  (∀ (s : State) (d : Desc), s.bedOn = true → s.running 64 3 = some d → 
    Completes (.abortCmd) s (fun t => (s.upd.run = none → t = s.complete 64 d {}) ∧ (s.upd.run.map (fun r => decide (r.stage = 6) && decide (r.aborts = [])) = some true → t.upd.run = s.upd.run.map (fun r => { r with aborts := [d] })))) ∧
  (∀ (s : State) (d : Desc) (k : Nat), s.bedOn = true → s.running 64 4 = some d → d.le 16 1 ≤ 5 → inBedRange (d.le 24 8) (d.le 32 4) = true ∨ (inBedStore (d.le 24 8) = false ∧ s.code.memAt (d.le 24 8) (d.le 32 4) = true) → s.cfgFor (d.le 16 1) (s.runCfgver (d.le 16 1)) = some k → 
    Completes (.cfgread) s (fun t => if inBedStore (d.le 24 8) = true then t = (s.put (d.le 24 8) ((cfgBytes (cfgUnit (d.le 16 1)) (s.cfgRec (d.le 16 1) k)).take (d.le 32 4))).complete 64 d { bytes := leBytes 4 (s.cfgRec (d.le 16 1) k).cfgver ++ leBytes 4 (s.cfgRec (d.le 16 1) k).seq ++ leBytes 4 (s.cfgRec (d.le 16 1) k).body.length }
      else if s.canopyOn = false ∨ bridgeDepth ≤ s.bridge.outbound.length then t = s.complete 64 d { status := 6 }
      else t = (s.handoff (d.le 24 8) ((cfgBytes (cfgUnit (d.le 16 1)) (s.cfgRec (d.le 16 1) k)).take (d.le 32 4))).1.complete 64 d { bytes := leBytes 4 (s.cfgRec (d.le 16 1) k).cfgver ++ leBytes 4 (s.cfgRec (d.le 16 1) k).seq ++ leBytes 4 (s.cfgRec (d.le 16 1) k).body.length })) ∧
  (∀ (s : State) (d : Desc), s.bedOn = true → s.running 64 5 = some d → d.le 16 1 ≤ 5 → d.le 32 4 ≤ 2 ^ 20 → inBedRange (d.le 24 8) (d.le 32 4) = true → s.mem.poisoned (d.le 24 8) (d.le 32 4) = false → 
    Completes (.cfgwrite) s (fun t => t.cfgRec (d.le 16 1) (s.cfgTarget (d.le 16 1)) = { ok := true, cfgver := s.runCfgver (d.le 16 1), seq := s.nextSeq (d.le 16 1), body := s.mem.readBytes (d.le 24 8) (d.le 32 4) })) ∧
  (∀ (s : State) (ag : Agent) (v : W32) (u : Nat), s.bedOn = true → v.toNat % 16 = u → u ≤ 8 → s.confirms ag u = true → (s.probation u).isSome = true → s.upd.run = none → 
    Completes (.confirm ag v true) s (fun t => t.resp = .done ∧ (t.slot u (s.slotAct u)).st = 3 ∧ t.probation u = none ∧ t.arb u = max (s.arb u) (s.slot u (s.slotAct u)).ver)) ∧
  (∀ (s : State) (ag : Agent) (v : W32) (u : Nat), s.bedOn = true → v.toNat % 16 = u → u ≤ 8 → s.confirms ag u = true → (s.probation u).isSome = true → s.upd.run = none → 
    Completes (.declareFailure ag v) s (fun t => t.resp = .done ∧ t.probation u = none ∧ t.rd F.UPD_FALLCNT_CNT = min (s.rd F.UPD_FALLCNT_CNT + 1) (maxOf F.UPD_FALLCNT_CNT.width))) ∧
  (∀ (s : State) (u since win : Nat), s.bedOn = true → s.probation u = some (since, win) → since + win ≤ s.now → 
    Completes (.probationExpiry u) s (fun t => t.probation u = none)) ∧
  (∀ (s : State) (b : Bytes), s.inDoze = true → s.bedOn = true → s.pwr.tableDue = true → s.upd.table = some b → s.on (F.HLT_TOKc_HELD 6) = false → 
    Completes (.deferredFstableWrite []) s (fun t => t.pwr.tableDue = false ∧ ((s.deferredWrite b []).2 = 0 → t.upd.table = none)))

/-- Each command of the event recorder completes with its effect. A queued record is written to the store, or lost with a cut supply; a bucket gains one token up to its depth; a software commit in its range enters the queue; a fetch shows the oldest record from RDPOS on; Root writes its own record while Bed is not powered. (R546, R547, R551, R552, R553, R555, R556, R557) -/
def Obligations.RecorderCommandsComplete : Prop :=
  (∀ (s : State) (cut : Bool) (r : Rec) (rest : List Rec), s.bedOn = true → s.evr.queue = r :: rest → r.software = true → s.evr.store.length < evrSlots → 
    Completes (.eventRecordWrite cut) s (fun t => t.evr.queue = rest ∧ (if cut = true then t.evr.store = s.evr.store else t.evr.store = s.evr.store ++ [(s.evr.next, { r with supp := (s.bucket r.code).supp, time := 0 })]))) ∧
  (∀ (s : State) (sev : Nat), s.rootOn = true → s.bedOn = true → sev < 16 → 0 < s.rd (F.EVR_BKTs_PERIOD sev) → s.now % (s.rd (F.EVR_BKTs_PERIOD sev) * 1000000) = 0 → SMap.get (fun _ => 0) s.evr.refilled sev ≠ s.now + 1 → 
    Completes (.bucketRefill sev) s (fun t => t.baseTokens sev = (if s.baseTokens sev < s.depth sev then s.baseTokens sev + 1 else s.baseTokens sev) ∧ SMap.get (fun _ => 0) t.evr.refilled sev = s.now + 1)) ∧
  (∀ (s : State) (ag : Agent) (v : W32) (b : Nat), s.accepts ag 0x04 0x02C = true → agentBank ag = some b → 
    Completes (.swrecCommit ag v) s (fun t => t.resp = .done ∧ (if b = 7 ∨ swRange b (v.toNat % 65536 / 256) = false then getBits (t.bankReg b Reg.EVR_SWREC) 31 30 = 3 ∧ t.evr.queue = s.evr.queue
      else s.evr.queue.length < 64 → (s.takeBucket (v.toNat % 65536) (min (v.toNat / 65536 % 16) (s.rd F.EVR_CTL_MAXSEV))).2 = true → getBits (t.bankReg b Reg.EVR_SWREC) 31 30 = 1 ∧ t.evr.queue.length = s.evr.queue.length + 1))) ∧
  (∀ (s : State) (ag : Agent) (b : Nat), s.accepts ag 0x04 0x050 = true → agentBank ag = some b → 
    Completes (.fetch ag) s (fun t => t.resp = .done ∧ (s.evr.store = [] → getBits (t.bankReg b Reg.EVR_RDSTAT) 31 29 = 1) ∧
      (getBits (s.bankReg b Reg.EVR_RDPOS_HI) 15 0 = 0 → s.bankReg b Reg.EVR_RDPOS_LO = 0 → (s.evr.store.head?).all (fun x => decide (getBits (t.bankReg b Reg.EVR_RDSTAT) 31 31 = 1) && decide ((t.bankReg b (Reg.EVR_RDWn 0)).toNat = x.2.word % 2 ^ 32) && decide ((t.bankReg b Reg.EVR_RDNUM_LO).toNat = x.1 % 2 ^ 32)) = true))) ∧
  (∀ (s : State) (ev sev p0 p1 p2 : Nat), s.rootOn = true → s.bedOn = false → s.evr.store.length < evrSlots → 
    Completes (.rootEventRecord ev sev p0 p1 p2) s (fun t => t.evr.store.length = s.evr.store.length + (if (s.takeBucket (0x200 + ev) sev).2 = true then 1 else 0)))

/-- What the register, fabric, time, ring and mailbox commands leave unchanged. For each named command of chapters 1 to 4: the next state differs from the state before only in the fields the clause lists; registers and 64-bit counters outside the blocks it lists read as before; memory it does not write stays, and memory it writes only through a ring or at the address of its descriptor stays outside these. (R15, R24, R33, R49, R76, R86, R105) -/
def Obligations.FabricTimeAndRingFrames : Prop :=
  (∀ (s t : State) (agent : Agent) (off : Nat) (value : W32), exec (.rootRegisterWrite agent off value) s = .next t →
    t = { s with regs := t.regs, latches := t.latches, resp := t.resp, irqs := t.irqs } ∧
      s.keepsRegs [0x00, 0x02] t) ∧
  (∀ (s t : State), exec (.rootEdge) s = .next t →
    t = { s with regs := t.regs, rootRegs := t.rootRegs, latches := t.latches, badParity := t.badParity, pwr := t.pwr } ∧
      s.keepsRegs [0x02, 0x05] t) ∧
  (∀ (s t : State), exec (.bedRailFallCommit) s = .next t →
    t = { s with regs := t.regs, rootRegs := t.rootRegs, latches := t.latches, badParity := t.badParity, pwr := t.pwr } ∧
      s.keepsRegs [0x02] t) ∧
  (∀ (s t : State) (req cls : Nat) (kind : Xfer) (addr len tag : Nat), exec (.gorgeRequest req cls kind addr len tag) s = .next t →
    t = { s with regs := t.regs, wide := t.wide, resp := t.resp, irqs := t.irqs, fab := t.fab } ∧
      s.keepsRegs [0x06, 0x10] t) ∧
  (∀ (s t : State) (tag newTag : Nat), exec (.entryRelease tag newTag) s = .next t →
    t = { s with regs := t.regs, irqs := t.irqs, fab := t.fab } ∧
      s.keepsRegs [0x06, 0x10] t) ∧
  (∀ (s t : State) (tag newTag : Nat), exec (.forcedCompletion tag newTag) s = .next t →
    t = { s with regs := t.regs, mem := t.mem, resp := t.resp, irqs := t.irqs, fab := t.fab, evr := t.evr } ∧
      s.keepsRegs [0x04, 0x06, 0x10] t ∧
      s.keepsMem (0) 0 t) ∧
  (∀ (s t : State) (agent : Agent) (n : Nat) (value : W32), exec (.fabCredWrite agent n value) s = .next t →
    t = { s with regs := t.regs, badParity := t.badParity, resp := t.resp, irqs := t.irqs, fab := t.fab } ∧
      s.keepsRegs [0x00, 0x06, 0x10] t) ∧
  (∀ (s t : State) (addr : Nat) (data : Bytes), exec (.bridgeHandoff addr data) s = .next t →
    t = { s with resp := t.resp, bridge := t.bridge }) ∧
  (∀ (s t : State) (agent : Agent) (addr : Nat) (data : Bytes) (poison : Bool), exec (.bridgeInboundWrite agent addr data poison) s = .next t →
    t = { s with resp := t.resp, bridge := t.bridge }) ∧
  (∀ (s t : State), exec (.bridgeDrain) s = .next t →
    t = { s with regs := t.regs, wide := t.wide, mem := t.mem, irqs := t.irqs, bridge := t.bridge, rings := t.rings, ing := t.ing, prod := t.prod, dram := t.dram, hlt := t.hlt } ∧
      s.keepsRegs [0x03, 0x06, 0x08, 0x18] t ∧
      (∀ l, s.bridge.inbound.head? = some l → s.keepsMem l.addr l.data.length t)) ∧
  (∀ (s t : State) (readings : List Nat), exec (.paceGaugeMeasure readings) s = .next t →
    t = { s with regs := t.regs, irqs := t.irqs, evr := t.evr, tim := t.tim } ∧
      s.keepsRegs [0x03, 0x04] t) ∧
  (∀ (s t : State), exec (.railRegulation) s = .next t →
    t = { s with regs := t.regs, irqs := t.irqs, evr := t.evr, tim := t.tim } ∧
      s.keepsRegs [0x03, 0x04] t) ∧
  (∀ (s t : State) (temps : List (Option Int)), exec (.tempSensorUpdate temps) s = .next t →
    t = { s with regs := t.regs, irqs := t.irqs, evr := t.evr, tim := t.tim, pwr := t.pwr } ∧
      s.keepsRegs [0x00, 0x03, 0x04] t) ∧
  (∀ (s t : State) (mv : List (Option Nat)), exec (.voltageMonitorUpdate mv) s = .next t →
    t = { s with regs := t.regs, irqs := t.irqs, evr := t.evr, pwr := t.pwr } ∧
      s.keepsRegs [0x00, 0x03, 0x04] t) ∧
  (∀ (s t : State), exec (.sundialSave) s = .next t →
    t = { s with wide := t.wide } ∧
      s.keepsRegs [0x02] t) ∧
  (∀ (s t : State) (core cmp : Nat), exec (.timerCompareMatch core cmp) s = .next t →
    t = { s with irqs := t.irqs, tim := t.tim }) ∧
  (∀ (s t : State) (source stamp gps : Nat) (rateErr : Int), exec (.referenceMark source stamp gps rateErr) s = .next t →
    t = { s with regs := t.regs, wide := t.wide, irqs := t.irqs, free := t.free, evr := t.evr, tim := t.tim } ∧
      s.keepsRegs [0x01, 0x04] t) ∧
  (∀ (s t : State), exec (.markTimeout) s = .next t →
    t = { s with regs := t.regs, irqs := t.irqs, evr := t.evr, tim := t.tim } ∧
      s.keepsRegs [0x01, 0x04] t) ∧
  (∀ (s t : State) (agent : Agent) (value : W32), exec (.sdlModeWrite agent value) s = .next t →
    t = { s with regs := t.regs, badParity := t.badParity, resp := t.resp, irqs := t.irqs, tim := t.tim } ∧
      s.keepsRegs [0x00, 0x01] t) ∧
  (∀ (s t : State) (neededTrim rootDiff : Int) (rootAtFault : Bool), exec (.driftCheck neededTrim rootDiff rootAtFault) s = .next t →
    t = { s with regs := t.regs, irqs := t.irqs, evr := t.evr } ∧
      s.keepsRegs [0x01, 0x04] t) ∧
  (∀ (s t : State), exec (.tcxoLoss) s = .next t →
    t = { s with regs := t.regs, irqs := t.irqs, evr := t.evr } ∧
      s.keepsRegs [0x01, 0x04] t) ∧
  (∀ (s t : State), exec (.tcxoReturn) s = .next t →
    t = { s with regs := t.regs, irqs := t.irqs, evr := t.evr } ∧
      s.keepsRegs [0x01, 0x04] t) ∧
  (∀ (s t : State) (agent : Agent) (n : Nat) (value : W32), exec (.alarmArm agent n value) s = .next t →
    t = { s with regs := t.regs, badParity := t.badParity, resp := t.resp, irqs := t.irqs, tim := t.tim } ∧
      s.keepsRegs [0x00, 0x01] t) ∧
  (∀ (s t : State) (agent : Agent) (n : Nat) (value : W32), exec (.alarmDisarm agent n value) s = .next t →
    t = { s with regs := t.regs, badParity := t.badParity, resp := t.resp, irqs := t.irqs, tim := t.tim } ∧
      s.keepsRegs [0x00, 0x01] t) ∧
  (∀ (s t : State) (n : Nat), exec (.alarmFire n) s = .next t →
    t = { s with regs := t.regs, irqs := t.irqs } ∧
      s.keepsRegs [0x01] t) ∧
  (∀ (s t : State) (agent : Agent) (q : Nat) (value : W32), exec (.ringEnable agent q value) s = .next t →
    t = { s with regs := t.regs, badParity := t.badParity, resp := t.resp, irqs := t.irqs, rings := t.rings } ∧
      s.keepsRegs [0x00, 0x06] t) ∧
  (∀ (s t : State) (agent : Agent) (q : Nat), exec (.ringDisable agent q) s = .next t →
    t = { s with regs := t.regs, badParity := t.badParity, resp := t.resp, irqs := t.irqs, rings := t.rings } ∧
      s.keepsRegs [0x00, 0x06] t) ∧
  (∀ (s t : State) (agent : Agent) (q : Nat) (value : W32), exec (.submissionDoorbell agent q value) s = .next t →
    t = { s with regs := t.regs, resp := t.resp, irqs := t.irqs, rings := t.rings } ∧
      s.keepsRegs [0x00, 0x06] t) ∧
  (∀ (s t : State) (agent : Agent) (q : Nat) (value : W32), exec (.completionDoorbell agent q value) s = .next t →
    t = { s with regs := t.regs, resp := t.resp, irqs := t.irqs, rings := t.rings } ∧
      s.keepsRegs [0x00, 0x06] t) ∧
  (∀ (s t : State) (q : Nat), exec (.descriptorTake q) s = .next t →
    t = { s with regs := t.regs, wide := t.wide, mem := t.mem, irqs := t.irqs, bridge := t.bridge, rings := t.rings, dram := t.dram, hlt := t.hlt } ∧
      s.keepsRegs [0x03, 0x06, 0x09, 0x0A, 0x0B, 0x0C, 0x0D, 0x15, 0x16, 0x19] t ∧
      s.keepsMem 0 0 t) ∧
  (∀ (s t : State) (q : Nat), exec (.phaseRecheck q) s = .next t →
    t = { s with regs := t.regs, wide := t.wide, mem := t.mem, irqs := t.irqs, bridge := t.bridge, rings := t.rings, dram := t.dram, hlt := t.hlt } ∧
      s.keepsRegs [0x03, 0x06, 0x09, 0x0A, 0x0B, 0x0C, 0x0D, 0x15, 0x16, 0x19] t ∧
      s.keepsMem 0 0 t) ∧
  (∀ (s t : State) (q : Nat), exec (.atDeadlineStart q) s = .next t →
    t = { s with rings := t.rings }) ∧
  (∀ (s t : State) (agent : Agent) (m : Nat) (value : W32), exec (.mailboxStage agent m value) s = .next t →
    t = { s with regs := t.regs, resp := t.resp, irqs := t.irqs, mbxStage := t.mbxStage } ∧
      s.keepsRegs [0x00, 0x07] t) ∧
  (∀ (s t : State) (agent : Agent) (m : Nat) (value : W32), exec (.mailboxPost agent m value) s = .next t →
    t = { s with regs := t.regs, resp := t.resp, irqs := t.irqs } ∧
      s.keepsRegs [0x00, 0x07] t) ∧
  (∀ (s t : State) (agent : Agent) (m : Nat) (value : W32), exec (.mailboxTake agent m value) s = .next t →
    t = { s with regs := t.regs, badParity := t.badParity, resp := t.resp, irqs := t.irqs } ∧
      s.keepsRegs [0x00, 0x07] t) ∧
  (∀ (s t : State) (agent : Agent) (m : Nat), exec (.mailboxAbtClear agent m) s = .next t →
    t = { s with regs := t.regs, resp := t.resp, irqs := t.irqs } ∧
      s.keepsRegs [0x00, 0x07] t) ∧
  (∀ (s t : State) (a : Agent) (blk : Nat) (v : W32), exec (.snapshot a blk v) s = .next t →
    t = { s with regs := t.regs, banks := t.banks, resp := t.resp, irqs := t.irqs } ∧ s.keepsRegs [0x00] t) ∧
  (∀ (s t : State) (a : Agent) (addr size blk off : Nat), s.badParity = [] → regTarget a addr size = some (blk, off) →
    exec (.readClear a addr size) s = .next t →
    t = { s with regs := t.regs, wide := t.wide, rootRegs := t.rootRegs, resp := t.resp, irqs := t.irqs, free := t.free, fab := t.fab, trl := t.trl, fur := t.fur } ∧ s.keepsRegs [blk, 0x10] t)

/-- What the sensing commands leave unchanged. For each named command of chapters 5 to 9: the next state differs from the state before only in the fields the clause lists; registers and 64-bit counters outside the blocks it lists read as before; memory it does not write stays, and memory it writes only through a ring or at the address of its descriptor stays outside these. (R114, R139, R162, R196, R216) -/
def Obligations.SensingFrames : Prop :=
  (∀ (s t : State) (n instant : Nat) (code : Int), exec (.analogueSample n instant code) s = .next t →
    t = { s with regs := t.regs, wide := t.wide, mem := t.mem, irqs := t.irqs, bridge := t.bridge, rings := t.rings, ing := t.ing, dram := t.dram, hlt := t.hlt } ∧
      s.keepsRegs [0x03, 0x06, 0x08] t) ∧
  (∀ (s t : State) (n : Nat), exec (.frameFlushTimeout n) s = .next t →
    t = { s with regs := t.regs, wide := t.wide, mem := t.mem, irqs := t.irqs, bridge := t.bridge, rings := t.rings, ing := t.ing, dram := t.dram, hlt := t.hlt } ∧
      s.keepsRegs [0x03, 0x06, 0x08] t) ∧
  (∀ (s t : State) (agent : Agent) (n : Nat) (value : W32), exec (.streamEnable agent n value) s = .next t →
    t = { s with regs := t.regs, wide := t.wide, badParity := t.badParity, mem := t.mem, resp := t.resp, irqs := t.irqs, bridge := t.bridge, rings := t.rings, ing := t.ing, dram := t.dram, hlt := t.hlt } ∧
      s.keepsRegs [0x00, 0x03, 0x06, 0x08] t) ∧
  (∀ (s t : State) (agent : Agent) (n : Nat) (value : W32), exec (.streamDisable agent n value) s = .next t →
    t = { s with regs := t.regs, wide := t.wide, badParity := t.badParity, mem := t.mem, resp := t.resp, irqs := t.irqs, bridge := t.bridge, rings := t.rings, ing := t.ing, dram := t.dram, hlt := t.hlt } ∧
      s.keepsRegs [0x00, 0x03, 0x06, 0x08] t) ∧
  (∀ (s t : State) (agent : Agent) (n : Nat) (value : W32), exec (.analogueCfgWrite agent n value) s = .next t →
    t = { s with regs := t.regs, wide := t.wide, badParity := t.badParity, mem := t.mem, resp := t.resp, irqs := t.irqs, bridge := t.bridge, rings := t.rings, ing := t.ing, dram := t.dram, hlt := t.hlt } ∧
      s.keepsRegs [0x00, 0x03, 0x06, 0x08] t) ∧
  (∀ (s t : State) (n : Nat) (rearmed : Bool), exec (.acousticHit n rearmed) s = .next t →
    t = { s with regs := t.regs, ing := t.ing } ∧
      s.keepsRegs [0x08] t) ∧
  (∀ (s t : State) (n : Nat), exec (.acousticReport n) s = .next t →
    t = { s with regs := t.regs, wide := t.wide, mem := t.mem, irqs := t.irqs, bridge := t.bridge, rings := t.rings, ing := t.ing, dram := t.dram, hlt := t.hlt } ∧
      s.keepsRegs [0x03, 0x06, 0x08] t) ∧
  (∀ (s t : State) (n : Nat) (step : Int), exec (.freqEdge n step) s = .next t →
    t = { s with ing := t.ing }) ∧
  (∀ (s t : State) (n : Nat), exec (.freqOutputSample n) s = .next t →
    t = { s with regs := t.regs, wide := t.wide, mem := t.mem, irqs := t.irqs, free := t.free, bridge := t.bridge, rings := t.rings, ing := t.ing, dram := t.dram, hlt := t.hlt } ∧
      s.keepsRegs [0x03, 0x06, 0x08] t) ∧
  (∀ (s t : State) (n : Nat), exec (.supplyOvercurrent n) s = .next t →
    t = { s with regs := t.regs, wide := t.wide, mem := t.mem, irqs := t.irqs, bridge := t.bridge, rings := t.rings, evr := t.evr, ing := t.ing, dram := t.dram, hlt := t.hlt } ∧
      s.keepsRegs [0x03, 0x04, 0x06, 0x08] t ∧
      s.keepsMem 0 0 t) ∧
  (∀ (s t : State) (n : Nat), exec (.supplyBackfeed n) s = .next t →
    t = { s with regs := t.regs, wide := t.wide, mem := t.mem, irqs := t.irqs, bridge := t.bridge, rings := t.rings, evr := t.evr, ing := t.ing, dram := t.dram, hlt := t.hlt } ∧
      s.keepsRegs [0x03, 0x04, 0x06, 0x08] t ∧
      s.keepsMem 0 0 t) ∧
  (∀ (s t : State) (n : Nat), exec (.supplyRetry n) s = .next t →
    t = { s with regs := t.regs } ∧
      s.keepsRegs [0x08] t) ∧
  (∀ (s t : State) (ab a b : Int), exec (.referenceCheck ab a b) s = .next t →
    t = { s with regs := t.regs, wide := t.wide, mem := t.mem, irqs := t.irqs, bridge := t.bridge, rings := t.rings, evr := t.evr, ing := t.ing, dram := t.dram, hlt := t.hlt } ∧
      s.keepsRegs [0x03, 0x04, 0x06, 0x08] t) ∧
  (∀ (s t : State) (q : Nat), exec (.capture q) s = .next t →
    t = { s with regs := t.regs, wide := t.wide, mem := t.mem, irqs := t.irqs, bridge := t.bridge, rings := t.rings, ing := t.ing, dram := t.dram, hlt := t.hlt } ∧
      s.keepsRegs [0x03, 0x06] t ∧
      s.keepsMem 0 0 t) ∧
  (∀ (s t : State) (q : Nat) (ab a b : Int), exec (.refcheck q ab a b) s = .next t →
    t = { s with regs := t.regs, wide := t.wide, mem := t.mem, irqs := t.irqs, bridge := t.bridge, rings := t.rings, evr := t.evr, ing := t.ing, dram := t.dram, hlt := t.hlt } ∧
      s.keepsRegs [0x03, 0x04, 0x06, 0x08] t ∧
      s.keepsMem 0 0 t) ∧
  (∀ (s t : State) (agent : Agent) (n : Nat) (value : W32), exec (.linkEnable agent n value) s = .next t →
    t = { s with regs := t.regs, badParity := t.badParity, resp := t.resp, irqs := t.irqs, cam := t.cam } ∧
      s.keepsRegs [0x00, 0x17] t) ∧
  (∀ (s t : State) (agent : Agent) (n : Nat) (value : W32), exec (.linkDisable agent n value) s = .next t →
    t = { s with regs := t.regs, badParity := t.badParity, resp := t.resp, irqs := t.irqs, cam := t.cam } ∧
      s.keepsRegs [0x00, 0x17] t) ∧
  (∀ (s t : State) (n : Nat), exec (.linkTrainTimeout n) s = .next t →
    t = { s with regs := t.regs, wide := t.wide, mem := t.mem, irqs := t.irqs, bridge := t.bridge, rings := t.rings, cam := t.cam, dram := t.dram, hlt := t.hlt } ∧
      s.keepsRegs [0x03, 0x06, 0x17] t ∧
      s.keepsMem 0 0 t) ∧
  (∀ (s t : State) (n remId : Nat), exec (.linkLock n remId) s = .next t →
    t = { s with regs := t.regs, wide := t.wide, mem := t.mem, irqs := t.irqs, bridge := t.bridge, rings := t.rings, cam := t.cam, dram := t.dram, hlt := t.hlt } ∧
      s.keepsRegs [0x03, 0x06, 0x17] t ∧
      s.keepsMem 0 0 t) ∧
  (∀ (s t : State) (n : Nat), exec (.linkLockLost n) s = .next t →
    t = { s with regs := t.regs, wide := t.wide, mem := t.mem, irqs := t.irqs, bridge := t.bridge, rings := t.rings, cam := t.cam, dram := t.dram, hlt := t.hlt } ∧
      s.keepsRegs [0x03, 0x06, 0x17] t ∧
      s.keepsMem 0 0 t) ∧
  (∀ (s t : State) (n : Nat), exec (.frameSyncSend n) s = .next t →
    t = { s with cam := t.cam }) ∧
  (∀ (s t : State) (n : Nat), exec (.pocOvercurrent n) s = .next t →
    t = { s with regs := t.regs, wide := t.wide, mem := t.mem, irqs := t.irqs, bridge := t.bridge, rings := t.rings, cam := t.cam, dram := t.dram, hlt := t.hlt } ∧
      s.keepsRegs [0x03, 0x06, 0x17] t ∧
      s.keepsMem 0 0 t) ∧
  (∀ (s t : State) (n : Nat), exec (.pocRetry n) s = .next t →
    t = { s with regs := t.regs } ∧
      s.keepsRegs [0x17] t) ∧
  (∀ (s t : State) (n served : Nat), exec (.frameStart n served) s = .next t →
    t = { s with regs := t.regs, wide := t.wide, irqs := t.irqs, cam := t.cam } ∧
      s.keepsRegs [0x17] t) ∧
  (∀ (s t : State) (n : Nat) (px : CamLine) (crcBad hdrErr frameEnd : Bool) (served : Nat), exec (.lineArrival n px crcBad hdrErr frameEnd served) s = .next t →
    t = { s with regs := t.regs, wide := t.wide, cam := t.cam } ∧
      s.keepsRegs [0x17] t) ∧
  (∀ (s t : State) (n : Nat), exec (.lineTimeout n) s = .next t →
    t = { s with cam := t.cam }) ∧
  (∀ (s t : State) (n : Nat), exec (.frameStall n) s = .next t →
    t = { s with regs := t.regs, wide := t.wide, mem := t.mem, irqs := t.irqs, bridge := t.bridge, rings := t.rings, cam := t.cam, dram := t.dram, hlt := t.hlt } ∧
      s.keepsRegs [0x03, 0x06] t ∧
      s.keepsMem 0 0 t) ∧
  (∀ (s t : State) (n : Nat), exec (.frameProcessed n) s = .next t →
    t = { s with regs := t.regs, wide := t.wide, mem := t.mem, irqs := t.irqs, free := t.free, bridge := t.bridge, rings := t.rings, cam := t.cam, dram := t.dram, hlt := t.hlt } ∧
      s.keepsRegs [0x03, 0x06, 0x17] t) ∧
  (∀ (s t : State) (n len qp : Nat), exec (.pictureEncode n len qp) s = .next t →
    t = { s with regs := t.regs, wide := t.wide, mem := t.mem, irqs := t.irqs, free := t.free, bridge := t.bridge, rings := t.rings, cam := t.cam, dram := t.dram, hlt := t.hlt } ∧
      s.keepsRegs [0x03, 0x06, 0x17] t) ∧
  (∀ (s t : State) (agent : Agent) (value : W32), exec (.bsrposWrite agent value) s = .next t →
    t = { s with regs := t.regs, resp := t.resp, irqs := t.irqs } ∧
      s.keepsRegs [0x00, 0x17] t) ∧
  (∀ (s t : State) (q : Nat), exec (.loadtab q) s = .next t →
    t = { s with regs := t.regs, wide := t.wide, mem := t.mem, irqs := t.irqs, bridge := t.bridge, rings := t.rings, cam := t.cam, dram := t.dram, hlt := t.hlt } ∧
      s.keepsRegs [0x03, 0x06, 0x17] t ∧
      s.keepsMem 0 0 t) ∧
  (∀ (s t : State) (q : Nat) (ack : Bool) (data : Nat), exec (.cci q ack data) s = .next t →
    t = { s with regs := t.regs, wide := t.wide, mem := t.mem, irqs := t.irqs, bridge := t.bridge, rings := t.rings, cam := t.cam, dram := t.dram, hlt := t.hlt } ∧
      s.keepsRegs [0x03, 0x06] t ∧
      s.keepsMem 0 0 t) ∧
  (∀ (s t : State) (q : Nat), exec (.camExport q) s = .next t →
    t = { s with regs := t.regs, wide := t.wide, mem := t.mem, irqs := t.irqs, bridge := t.bridge, rings := t.rings, dram := t.dram, hlt := t.hlt } ∧
      s.keepsRegs [0x03, 0x06, 0x17] t) ∧
  (∀ (s t : State) (agent : Agent) (n : Nat), exec (.encRestart agent n) s = .next t →
    t = { s with regs := t.regs, resp := t.resp, irqs := t.irqs, cam := t.cam } ∧
      s.keepsRegs [0x00, 0x17] t) ∧
  (∀ (s t : State) (agent : Agent) (n : Nat), exec (.encForceidr agent n) s = .next t →
    t = { s with regs := t.regs, resp := t.resp, irqs := t.irqs, cam := t.cam } ∧
      s.keepsRegs [0x00, 0x17] t) ∧
  (∀ (s t : State) (sync : Nat) (lidars : List (Nat × Nat)), exec (.gridCycleStart sync lidars) s = .next t →
    t = { s with regs := t.regs, wide := t.wide, mem := t.mem, irqs := t.irqs, free := t.free, bridge := t.bridge, rings := t.rings, pra := t.pra, dram := t.dram, hlt := t.hlt } ∧
      s.keepsRegs [0x03, 0x06, 0x18] t ∧
      s.keepsMem 0 0 t) ∧
  (∀ (s t : State) (sync : Nat) (lidars : List (Nat × Nat)), exec (.paceTimeout sync lidars) s = .next t →
    t = { s with regs := t.regs, wide := t.wide, mem := t.mem, irqs := t.irqs, free := t.free, bridge := t.bridge, rings := t.rings, pra := t.pra, dram := t.dram, hlt := t.hlt } ∧
      s.keepsRegs [0x03, 0x06, 0x18] t ∧
      s.keepsMem 0 0 t) ∧
  (∀ (s t : State) (n slot tend : Nat) (runs : List Nat), exec (.stage1Run n slot tend runs) s = .next t →
    t = { s with regs := t.regs, irqs := t.irqs, free := t.free, cam := t.cam, pra := t.pra } ∧
      s.keepsRegs [0x18] t) ∧
  (∀ (s t : State) (values : List (Nat × Nat)) (sens : List SensOut), exec (.gridPublish values sens) s = .next t →
    t = { s with regs := t.regs, wide := t.wide, mem := t.mem, resp := t.resp, irqs := t.irqs, free := t.free, bridge := t.bridge, rings := t.rings, evr := t.evr, pra := t.pra, dram := t.dram, hlt := t.hlt, upd := t.upd } ∧
      s.keepsRegs [0x03, 0x04, 0x06, 0x18] t) ∧
  (∀ (s t : State) (q : Nat) (finished layersFit : Bool), exec (.netload q finished layersFit) s = .next t →
    t = { s with regs := t.regs, wide := t.wide, mem := t.mem, irqs := t.irqs, bridge := t.bridge, rings := t.rings, pra := t.pra, dram := t.dram, hlt := t.hlt } ∧
      s.keepsRegs [0x03, 0x06, 0x18] t ∧
      s.keepsMem 0 0 t) ∧
  (∀ (s t : State) (q : Nat) (resident : Bool), exec (.netact q resident) s = .next t →
    t = { s with regs := t.regs, wide := t.wide, mem := t.mem, irqs := t.irqs, bridge := t.bridge, rings := t.rings, pra := t.pra, dram := t.dram, hlt := t.hlt } ∧
      s.keepsRegs [0x03, 0x06, 0x18] t ∧
      s.keepsMem 0 0 t) ∧
  (∀ (s t : State) (q : Nat), exec (.calload q) s = .next t →
    t = { s with regs := t.regs, wide := t.wide, mem := t.mem, irqs := t.irqs, bridge := t.bridge, rings := t.rings, pra := t.pra, dram := t.dram, hlt := t.hlt } ∧
      s.keepsRegs [0x03, 0x06, 0x18] t ∧
      s.keepsMem 0 0 t) ∧
  (∀ (s t : State) (q : Nat), exec (.calread q) s = .next t →
    t = { s with regs := t.regs, wide := t.wide, mem := t.mem, irqs := t.irqs, bridge := t.bridge, rings := t.rings, dram := t.dram, hlt := t.hlt } ∧
      s.keepsRegs [0x03, 0x06] t ∧
      (∀ d, s.running 100 0x11 = some d → s.keepsMem (d.le 24 8) ((s.sensor (d.le 16 1)).recordNow.length) t)) ∧
  (∀ (s t : State) (q : Nat), exec (.calfreeze q) s = .next t →
    t = { s with regs := t.regs, wide := t.wide, mem := t.mem, irqs := t.irqs, bridge := t.bridge, rings := t.rings, toks := t.toks, pra := t.pra, dram := t.dram, hlt := t.hlt } ∧
      s.keepsRegs [0x03, 0x06] t ∧
      s.keepsMem 0 0 t) ∧
  (∀ (s t : State) (q : Nat), exec (.reinstate q) s = .next t →
    t = { s with regs := t.regs, wide := t.wide, mem := t.mem, irqs := t.irqs, bridge := t.bridge, rings := t.rings, pra := t.pra, dram := t.dram, hlt := t.hlt } ∧
      s.keepsRegs [0x03, 0x06, 0x18] t ∧
      s.keepsMem 0 0 t) ∧
  (∀ (s t : State) (q : Nat), exec (.exclude q) s = .next t →
    t = { s with regs := t.regs, wide := t.wide, mem := t.mem, irqs := t.irqs, bridge := t.bridge, rings := t.rings, evr := t.evr, pra := t.pra, dram := t.dram, hlt := t.hlt } ∧
      s.keepsRegs [0x03, 0x04, 0x06, 0x18] t ∧
      s.keepsMem 0 0 t) ∧
  (∀ (s t : State) (rows : List TrackRow), exec (.trackUpdate rows) s = .next t →
    t = { s with regs := t.regs, wide := t.wide, mem := t.mem, resp := t.resp, irqs := t.irqs, bridge := t.bridge, rings := t.rings, prod := t.prod, dram := t.dram, hlt := t.hlt } ∧
      s.keepsRegs [0x03, 0x06, 0x18] t) ∧
  (∀ (s t : State) (agent : Agent), exec (.trackClear agent) s = .next t →
    t = { s with regs := t.regs, resp := t.resp, irqs := t.irqs, prod := t.prod } ∧
      s.keepsRegs [0x00] t) ∧
  (∀ (s t : State) (massDone : Bool) (rho conf : List (Nat × Nat)) (poison : List Nat) (steps us : Nat), exec (.forecastSample massDone rho conf poison steps us) s = .next t →
    t = { s with regs := t.regs, irqs := t.irqs, free := t.free, bridge := t.bridge, prod := t.prod } ∧
      s.keepsRegs [0x18] t) ∧
  (∀ (s t : State) (pos tray k : Nat) (moist : Option (Nat × Nat × Nat)) (cells : List (Int × Int)), exec (.yieldSample pos tray k moist cells) s = .next t →
    t = { s with regs := t.regs, wide := t.wide, mem := t.mem, irqs := t.irqs, bridge := t.bridge, rings := t.rings, prod := t.prod, dram := t.dram, hlt := t.hlt } ∧
      s.keepsRegs [0x03, 0x06, 0x18] t) ∧
  (∀ (s t : State) (te tn : Int), exec (.tileClose te tn) s = .next t →
    t = { s with regs := t.regs, wide := t.wide, mem := t.mem, irqs := t.irqs, bridge := t.bridge, rings := t.rings, prod := t.prod, dram := t.dram, hlt := t.hlt } ∧
      s.keepsRegs [0x03, 0x06, 0x18] t) ∧
  (∀ (s t : State) (agent : Agent), exec (.yieldFlush agent) s = .next t →
    t = { s with regs := t.regs, wide := t.wide, mem := t.mem, resp := t.resp, irqs := t.irqs, bridge := t.bridge, rings := t.rings, prod := t.prod, dram := t.dram, hlt := t.hlt } ∧
      s.keepsRegs [0x00, 0x03, 0x06, 0x18] t) ∧
  (∀ (s t : State) (agent : Agent) (value : W32), exec (.yldrposWrite agent value) s = .next t →
    t = { s with regs := t.regs, wide := t.wide, mem := t.mem, resp := t.resp, irqs := t.irqs, bridge := t.bridge, rings := t.rings, prod := t.prod, dram := t.dram, hlt := t.hlt } ∧
      s.keepsRegs [0x00, 0x03, 0x06, 0x18] t) ∧
  (∀ (s t : State) (tepoch : Nat) (e : EpochIn), exec (.gnssEpoch tepoch e) s = .next t →
    t = { s with regs := t.regs, wide := t.wide, mem := t.mem, irqs := t.irqs, bridge := t.bridge, rings := t.rings, gns := t.gns, dram := t.dram, hlt := t.hlt } ∧
      s.keepsRegs [0x03, 0x06, 0x16] t ∧
      s.keepsMem (4096 * s.epochApply.rd F.GNS_OBSBASE_BASE + s.epochApply.gns.slot * 16384) 16384 t) ∧
  (∀ (s t : State) (u ant sys sv sig : Nat) (k : Int) (found : Bool) (sky : List Sat), exec (.signalSearch u ant sys sv sig k found sky) s = .next t →
    t = { s with regs := t.regs, wide := t.wide, mem := t.mem, irqs := t.irqs, bridge := t.bridge, rings := t.rings, gns := t.gns, dram := t.dram, hlt := t.hlt } ∧
      s.keepsRegs [0x03, 0x06, 0x16] t ∧
      s.keepsMem 0 0 t) ∧
  (∀ (s t : State) (ch : Nat) (seconds : List Nat), exec (.channelLock ch seconds) s = .next t →
    t = { s with regs := t.regs, wide := t.wide, mem := t.mem, irqs := t.irqs, bridge := t.bridge, rings := t.rings, gns := t.gns, dram := t.dram, hlt := t.hlt } ∧
      s.keepsRegs [0x03, 0x06, 0x16] t ∧
      s.keepsMem 0 0 t) ∧
  (∀ (s t : State) (ch : Nat), exec (.channelLockLoss ch) s = .next t →
    t = { s with regs := t.regs, gns := t.gns } ∧
      s.keepsRegs [0x16] t) ∧
  (∀ (s t : State) (ch : Nat) (low : Bool), exec (.channelFree ch low) s = .next t →
    t = { s with regs := t.regs, gns := t.gns } ∧
      s.keepsRegs [0x16] t) ∧
  (∀ (s t : State) (a ma : Nat), exec (.antennaFeedFault a ma) s = .next t →
    t = { s with regs := t.regs, wide := t.wide, mem := t.mem, irqs := t.irqs, bridge := t.bridge, rings := t.rings, evr := t.evr, gns := t.gns, dram := t.dram, hlt := t.hlt } ∧
      s.keepsRegs [0x03, 0x04, 0x06, 0x16] t ∧
      s.keepsMem 0 0 t) ∧
  (∀ (s t : State) (stamp gps sig : Nat) (rateErr : Int), exec (.gnssMark stamp gps sig rateErr) s = .next t →
    t = { s with regs := t.regs, wide := t.wide, irqs := t.irqs, free := t.free, evr := t.evr, tim := t.tim, gns := t.gns } ∧
      s.keepsRegs [0x01, 0x04, 0x16] t) ∧
  (∀ (s t : State), exec (.markstop) s = .next t →
    t = { s with regs := t.regs, wide := t.wide, mem := t.mem, irqs := t.irqs, bridge := t.bridge, rings := t.rings, gns := t.gns, dram := t.dram, hlt := t.hlt } ∧
      s.keepsRegs [0x03, 0x06, 0x16] t ∧
      s.keepsMem 0 0 t) ∧
  (∀ (s t : State) (q : Nat), exec (.aidtime q) s = .next t →
    t = { s with regs := t.regs, wide := t.wide, mem := t.mem, irqs := t.irqs, bridge := t.bridge, rings := t.rings, gns := t.gns, dram := t.dram, hlt := t.hlt } ∧
      s.keepsRegs [0x03, 0x06, 0x16] t ∧
      s.keepsMem 0 0 t) ∧
  (∀ (s t : State) (q : Nat), exec (.aidpos q) s = .next t →
    t = { s with regs := t.regs, wide := t.wide, mem := t.mem, irqs := t.irqs, bridge := t.bridge, rings := t.rings, gns := t.gns, dram := t.dram, hlt := t.hlt } ∧
      s.keepsRegs [0x03, 0x06, 0x16] t ∧
      s.keepsMem 0 0 t) ∧
  (∀ (s t : State) (q : Nat), exec (.aidorb q) s = .next t →
    t = { s with regs := t.regs, wide := t.wide, mem := t.mem, irqs := t.irqs, bridge := t.bridge, rings := t.rings, gns := t.gns, dram := t.dram, hlt := t.hlt } ∧
      s.keepsRegs [0x03, 0x06, 0x16] t ∧
      s.keepsMem 0 0 t) ∧
  (∀ (s t : State) (q : Nat), exec (.solution q) s = .next t →
    t = { s with regs := t.regs, wide := t.wide, mem := t.mem, irqs := t.irqs, free := t.free, bridge := t.bridge, rings := t.rings, gns := t.gns, dram := t.dram, hlt := t.hlt } ∧
      s.keepsRegs [0x03, 0x06, 0x16] t ∧
      s.keepsMem 0 0 t) ∧
  (∀ (s t : State) (q : Nat), exec (.orbread q) s = .next t →
    t = { s with regs := t.regs, wide := t.wide, mem := t.mem, irqs := t.irqs, bridge := t.bridge, rings := t.rings, dram := t.dram, hlt := t.hlt } ∧
      s.keepsRegs [0x03, 0x06] t ∧
      (∀ d, s.running 88 5 = some d → s.keepsMem (d.le 24 8) (((s.gns.ephs.map (fun e => e.frame)).flatten).length) t)) ∧
  (∀ (s t : State) (q : Nat), exec (.gnssRestart q) s = .next t →
    t = { s with regs := t.regs, wide := t.wide, mem := t.mem, irqs := t.irqs, bridge := t.bridge, rings := t.rings, gns := t.gns, dram := t.dram, hlt := t.hlt } ∧
      s.keepsRegs [0x03, 0x06, 0x16] t ∧
      s.keepsMem 0 0 t) ∧
  (∀ (s t : State) (g : GuideIn), exec (.guidanceRecord g) s = .next t →
    t = { s with regs := t.regs, mem := t.mem, free := t.free, bridge := t.bridge, held := t.held, gns := t.gns, dram := t.dram, hlt := t.hlt } ∧
      s.keepsRegs [0x03, 0x16, 0x18] t) ∧
  (∀ (s t : State) (a : Nat), exec (.antennaFeedRetry a) s = .next t →
    t = { s with regs := t.regs } ∧
      s.keepsRegs [0x16] t) ∧
  (∀ (s t : State) (n : Nat) (value : Int), exec (.acousticRawSample n value) s = .next t →
    t = { s with regs := t.regs, wide := t.wide, mem := t.mem, irqs := t.irqs, bridge := t.bridge, rings := t.rings, ing := t.ing, dram := t.dram, hlt := t.hlt } ∧
      s.keepsRegs [0x03, 0x06, 0x08] t) ∧
  (∀ (s t : State) (n ma : Nat), exec (.supplyCurrentSample n ma) s = .next t →
    t = { s with regs := t.regs, wide := t.wide, mem := t.mem, irqs := t.irqs, bridge := t.bridge, rings := t.rings, ing := t.ing, dram := t.dram, hlt := t.hlt } ∧
      s.keepsRegs [0x03, 0x06, 0x08] t)

/-- What the control commands leave unchanged. For each named command of chapters 10 to 13: the next state differs from the state before only in the fields the clause lists; registers and 64-bit counters outside the blocks it lists read as before; memory it does not write stays, and memory it writes only through a ring or at the address of its descriptor stays outside these. (R245, R273, R289, R309, R331) -/
def Obligations.ControlFrames : Prop :=
  (∀ (s t : State) (n ts tout : Nat), exec (.loopSample n ts tout) s = .next t →
    t = { s with regs := t.regs, wide := t.wide, mem := t.mem, resp := t.resp, irqs := t.irqs, free := t.free, bridge := t.bridge, rings := t.rings, held := t.held, evr := t.evr, trl := t.trl, vlv := t.vlv, lsw := t.lsw, pan := t.pan, dram := t.dram, hlt := t.hlt, upd := t.upd } ∧
      s.keepsRegs [0x03, 0x04, 0x06, 0x09, 0x0B, 0x0C] t ∧
      s.keepsMem (bedStoreBase + s.rd F.TRL_OUTBASE_OFF * 4096 + 64 * n) 64 t) ∧
  (∀ (s t : State) (agent : Agent) (n : Nat) (value : W32), exec (.loopEnable agent n value) s = .next t →
    t = { s with regs := t.regs, wide := t.wide, badParity := t.badParity, mem := t.mem, resp := t.resp, irqs := t.irqs, free := t.free, bridge := t.bridge, rings := t.rings, evr := t.evr, trl := t.trl, vlv := t.vlv, lsw := t.lsw, dram := t.dram, hlt := t.hlt, upd := t.upd } ∧
      s.keepsRegs [0x00, 0x03, 0x04, 0x06, 0x09, 0x0B, 0x0C] t ∧
      s.keepsMem 0 0 t) ∧
  (∀ (s t : State) (agent : Agent) (n : Nat), exec (.loopDisable agent n) s = .next t →
    t = { s with regs := t.regs, wide := t.wide, badParity := t.badParity, mem := t.mem, resp := t.resp, irqs := t.irqs, free := t.free, bridge := t.bridge, rings := t.rings, evr := t.evr, trl := t.trl, vlv := t.vlv, lsw := t.lsw, dram := t.dram, hlt := t.hlt, upd := t.upd } ∧
      s.keepsRegs [0x00, 0x03, 0x04, 0x06, 0x09, 0x0B, 0x0C] t ∧
      s.keepsMem 0 0 t) ∧
  (∀ (s t : State) (agent : Agent) (n mode : Nat), exec (.loopModeWrite agent n mode) s = .next t →
    t = { s with regs := t.regs, wide := t.wide, badParity := t.badParity, mem := t.mem, resp := t.resp, irqs := t.irqs, free := t.free, bridge := t.bridge, rings := t.rings, evr := t.evr, trl := t.trl, vlv := t.vlv, lsw := t.lsw, dram := t.dram, hlt := t.hlt, upd := t.upd } ∧
      s.keepsRegs [0x00, 0x03, 0x04, 0x06, 0x09, 0x0B, 0x0C] t ∧
      s.keepsMem 0 0 t) ∧
  (∀ (s t : State) (q : Nat), exec (.loadpar q) s = .next t →
    t = { s with regs := t.regs, wide := t.wide, mem := t.mem, resp := t.resp, irqs := t.irqs, bridge := t.bridge, rings := t.rings, trl := t.trl, dram := t.dram, hlt := t.hlt, upd := t.upd } ∧
      s.keepsRegs [0x03, 0x06, 0x09] t ∧
      s.keepsMem 0 0 t) ∧
  (∀ (s t : State) (q : Nat), exec (.setmode q) s = .next t →
    t = { s with regs := t.regs, wide := t.wide, badParity := t.badParity, mem := t.mem, irqs := t.irqs, bridge := t.bridge, rings := t.rings, trl := t.trl, dram := t.dram, hlt := t.hlt } ∧
      s.keepsRegs [0x03, 0x06, 0x09] t ∧
      s.keepsMem 0 0 t) ∧
  (∀ (s t : State) (q : Nat), exec (.readpar q) s = .next t →
    t = { s with regs := t.regs, wide := t.wide, mem := t.mem, irqs := t.irqs, free := t.free, bridge := t.bridge, rings := t.rings, dram := t.dram, hlt := t.hlt } ∧
      s.keepsRegs [0x03, 0x06] t ∧
      (∀ d, s.running q 3 = some d → s.keepsMem (d.le 24 8) (max 128 (wideNormal (s.loop (d.le 16 1)).raw).length) t)) ∧
  (∀ (s t : State) (q : Nat), exec (.readstate q) s = .next t →
    t = { s with regs := t.regs, wide := t.wide, mem := t.mem, irqs := t.irqs, bridge := t.bridge, rings := t.rings, dram := t.dram, hlt := t.hlt } ∧
      s.keepsRegs [0x03, 0x06] t ∧
      (∀ d, s.running q 4 = some d → s.keepsMem (d.le 24 8) (64) t)) ∧
  (∀ (s t : State) (n word : Nat) (corrected : Bool), exec (.parameterMemoryError n word corrected) s = .next t →
    t = { s with regs := t.regs, wide := t.wide, badParity := t.badParity, mem := t.mem, resp := t.resp, irqs := t.irqs, free := t.free, bridge := t.bridge, rings := t.rings, evr := t.evr, trl := t.trl, vlv := t.vlv, lsw := t.lsw, dram := t.dram, hlt := t.hlt, upd := t.upd } ∧
      s.keepsRegs [0x03, 0x04, 0x06, 0x09, 0x0B, 0x0C, 0x11] t ∧
      s.keepsMem 0 0 t) ∧
  (∀ (s t : State), exec (.cycleBoundary) s = .next t →
    t = { s with regs := t.regs, wide := t.wide, mem := t.mem, resp := t.resp, irqs := t.irqs, free := t.free, bridge := t.bridge, rings := t.rings, held := t.held, evr := t.evr, toks := t.toks, fur := t.fur, vlv := t.vlv, lsw := t.lsw, can := t.can, eth := t.eth, dram := t.dram, hlt := t.hlt, upd := t.upd } ∧
      s.keepsRegs [0x03, 0x04, 0x05, 0x06, 0x0A, 0x0B, 0x0C, 0x0D, 0x15] t) ∧
  (∀ (s t : State) (agent : Agent) (value : W32), exec (.furrowEnable agent value) s = .next t →
    t = { s with regs := t.regs, wide := t.wide, badParity := t.badParity, mem := t.mem, resp := t.resp, irqs := t.irqs, free := t.free, bridge := t.bridge, rings := t.rings, evr := t.evr, toks := t.toks, fur := t.fur, vlv := t.vlv, lsw := t.lsw, dram := t.dram, hlt := t.hlt, upd := t.upd } ∧
      s.keepsRegs [0x00, 0x03, 0x04, 0x05, 0x06, 0x0A, 0x0B, 0x0C] t) ∧
  (∀ (s t : State) (agent : Agent), exec (.furrowDisable agent) s = .next t →
    t = { s with regs := t.regs, wide := t.wide, badParity := t.badParity, mem := t.mem, resp := t.resp, irqs := t.irqs, free := t.free, bridge := t.bridge, rings := t.rings, evr := t.evr, toks := t.toks, fur := t.fur, vlv := t.vlv, lsw := t.lsw, dram := t.dram, hlt := t.hlt, upd := t.upd } ∧
      s.keepsRegs [0x00, 0x03, 0x04, 0x05, 0x06, 0x0A, 0x0B, 0x0C] t) ∧
  (∀ (s t : State) (q : Nat), exec (.setval q) s = .next t →
    t = { s with regs := t.regs, wide := t.wide, mem := t.mem, irqs := t.irqs, free := t.free, bridge := t.bridge, rings := t.rings, fur := t.fur, dram := t.dram, hlt := t.hlt } ∧
      s.keepsRegs [0x03, 0x06, 0x0A] t) ∧
  (∀ (s t : State) (q : Nat), exec (.readmem q) s = .next t →
    t = { s with regs := t.regs, wide := t.wide, mem := t.mem, irqs := t.irqs, free := t.free, bridge := t.bridge, rings := t.rings, fur := t.fur, dram := t.dram, hlt := t.hlt } ∧
      s.keepsRegs [0x03, 0x06] t ∧
      (∀ d, nextWaiting s.fur.reads (s.ring q).taken q 2 = some d → s.keepsMem (d.le 24 8) (s.memBytes (d.le 16 1) (d.le 18 2) (d.le 20 2)).length t)) ∧
  (∀ (s t : State), exec (.progload) s = .next t →
    t = { s with regs := t.regs, wide := t.wide, mem := t.mem, resp := t.resp, irqs := t.irqs, bridge := t.bridge, rings := t.rings, evr := t.evr, toks := t.toks, fur := t.fur, dram := t.dram, hlt := t.hlt, upd := t.upd } ∧
      s.keepsRegs [0x03, 0x04, 0x05, 0x06, 0x0A] t ∧
      s.keepsMem 0 0 t) ∧
  (∀ (s t : State), exec (.progact) s = .next t →
    t = { s with regs := t.regs, wide := t.wide, mem := t.mem, resp := t.resp, irqs := t.irqs, free := t.free, bridge := t.bridge, rings := t.rings, evr := t.evr, toks := t.toks, fur := t.fur, vlv := t.vlv, lsw := t.lsw, dram := t.dram, hlt := t.hlt, upd := t.upd } ∧
      s.keepsRegs [0x03, 0x04, 0x05, 0x06, 0x0A, 0x0B, 0x0C] t ∧
      s.keepsMem 0 0 t) ∧
  (∀ (s t : State) (agent : Agent) (n : Nat) (value : W32), exec (.valveUntimedCommand agent n value) s = .next t →
    t = { s with regs := t.regs, wide := t.wide, badParity := t.badParity, mem := t.mem, resp := t.resp, irqs := t.irqs, free := t.free, bridge := t.bridge, rings := t.rings, evr := t.evr, vlv := t.vlv, dram := t.dram, hlt := t.hlt } ∧
      s.keepsRegs [0x00, 0x03, 0x04, 0x06, 0x0B] t ∧
      s.keepsMem 0 0 t) ∧
  (∀ (s t : State) (n : Nat), exec (.peakPhaseEnd n) s = .next t →
    t = { s with regs := t.regs, wide := t.wide, mem := t.mem, irqs := t.irqs, free := t.free, bridge := t.bridge, rings := t.rings, evr := t.evr, vlv := t.vlv, dram := t.dram, hlt := t.hlt } ∧
      s.keepsRegs [0x03, 0x04, 0x06, 0x0B] t ∧
      s.keepsMem 0 0 t) ∧
  (∀ (s t : State) (n : Nat) (reached : Bool) (depth us : Nat), exec (.dipWindowClose n reached depth us) s = .next t →
    t = { s with regs := t.regs, wide := t.wide, mem := t.mem, irqs := t.irqs, free := t.free, bridge := t.bridge, rings := t.rings, vlv := t.vlv, dram := t.dram, hlt := t.hlt } ∧
      s.keepsRegs [0x03, 0x06, 0x0B] t ∧
      s.keepsMem 0 0 t) ∧
  (∀ (s t : State) (b cause : Nat), exec (.bankTrip b cause) s = .next t →
    t = { s with regs := t.regs, wide := t.wide, mem := t.mem, irqs := t.irqs, free := t.free, bridge := t.bridge, rings := t.rings, evr := t.evr, vlv := t.vlv, dram := t.dram, hlt := t.hlt } ∧
      s.keepsRegs [0x03, 0x04, 0x06, 0x0B] t ∧
      s.keepsMem 0 0 t) ∧
  (∀ (s t : State) (agent : Agent) (b : Nat), exec (.bankFaultClear agent b) s = .next t →
    t = { s with regs := t.regs, wide := t.wide, mem := t.mem, resp := t.resp, irqs := t.irqs, free := t.free, bridge := t.bridge, rings := t.rings, evr := t.evr, vlv := t.vlv, dram := t.dram, hlt := t.hlt } ∧
      s.keepsRegs [0x00, 0x03, 0x04, 0x06, 0x0B] t ∧
      s.keepsMem 0 0 t) ∧
  (∀ (s t : State) (n h : Nat), exec (.dutyLimitEntry n h) s = .next t →
    t = { s with regs := t.regs, wide := t.wide, mem := t.mem, irqs := t.irqs, free := t.free, bridge := t.bridge, rings := t.rings, evr := t.evr, vlv := t.vlv, dram := t.dram, hlt := t.hlt } ∧
      s.keepsRegs [0x03, 0x04, 0x06, 0x0B] t ∧
      s.keepsMem 0 0 t) ∧
  (∀ (s t : State) (n h : Nat), exec (.dutyLimitExit n h) s = .next t →
    t = { s with regs := t.regs, wide := t.wide, mem := t.mem, irqs := t.irqs, free := t.free, bridge := t.bridge, rings := t.rings, evr := t.evr, vlv := t.vlv, dram := t.dram, hlt := t.hlt } ∧
      s.keepsRegs [0x03, 0x04, 0x06, 0x0B] t ∧
      s.keepsMem 0 0 t) ∧
  (∀ (s t : State) (n kind : Nat), exec (.valveChannelFault n kind) s = .next t →
    t = { s with regs := t.regs, wide := t.wide, mem := t.mem, irqs := t.irqs, free := t.free, bridge := t.bridge, rings := t.rings, evr := t.evr, vlv := t.vlv, dram := t.dram, hlt := t.hlt } ∧
      s.keepsRegs [0x03, 0x04, 0x06, 0x0B] t ∧
      s.keepsMem 0 0 t) ∧
  (∀ (s t : State) (agent : Agent) (hi : Bool) (value : W32), exec (.valveFaultClear agent hi value) s = .next t →
    t = { s with regs := t.regs, wide := t.wide, mem := t.mem, resp := t.resp, irqs := t.irqs, free := t.free, bridge := t.bridge, rings := t.rings, evr := t.evr, vlv := t.vlv, dram := t.dram, hlt := t.hlt } ∧
      s.keepsRegs [0x00, 0x03, 0x04, 0x06, 0x0B] t ∧
      s.keepsMem 0 0 t) ∧
  (∀ (s t : State) (q : Nat), exec (.vlvPulse q) s = .next t →
    t = { s with regs := t.regs, wide := t.wide, mem := t.mem, irqs := t.irqs, free := t.free, bridge := t.bridge, rings := t.rings, evr := t.evr, vlv := t.vlv, dram := t.dram, hlt := t.hlt } ∧
      s.keepsRegs [0x03, 0x04, 0x06, 0x0B] t ∧
      s.keepsMem 0 0 t) ∧
  (∀ (s t : State) (q : Nat), exec (.vlvSet q) s = .next t →
    t = { s with regs := t.regs, wide := t.wide, mem := t.mem, irqs := t.irqs, free := t.free, bridge := t.bridge, rings := t.rings, evr := t.evr, vlv := t.vlv, dram := t.dram, hlt := t.hlt } ∧
      s.keepsRegs [0x03, 0x04, 0x06, 0x0B] t ∧
      s.keepsMem 0 0 t) ∧
  (∀ (s t : State) (q : Nat), exec (.vlvCancel q) s = .next t →
    t = { s with regs := t.regs, wide := t.wide, mem := t.mem, irqs := t.irqs, free := t.free, bridge := t.bridge, rings := t.rings, evr := t.evr, vlv := t.vlv, dram := t.dram, hlt := t.hlt } ∧
      s.keepsRegs [0x03, 0x04, 0x06, 0x0B] t ∧
      s.keepsMem 0 0 t) ∧
  (∀ (s t : State) (b : Nat), exec (.timedValveEvent b) s = .next t →
    t = { s with regs := t.regs, wide := t.wide, mem := t.mem, irqs := t.irqs, free := t.free, bridge := t.bridge, rings := t.rings, evr := t.evr, vlv := t.vlv, dram := t.dram, hlt := t.hlt } ∧
      s.keepsRegs [0x03, 0x04, 0x06, 0x0B, 0x0D, 0x11, 0x12, 0x13] t ∧
      s.keepsMem 0 0 t) ∧
  (∀ (s t : State), exec (.wearCommit) s = .next t →
    t = { s with vlv := t.vlv, lsw := t.lsw, outs := t.outs, dram := t.dram, nand := t.nand }) ∧
  (∀ (s t : State) (ic : Nat) (r : Readback), exec (.watchdogRefresh ic r) s = .next t →
    t = { s with regs := t.regs, wide := t.wide, mem := t.mem, irqs := t.irqs, free := t.free, bridge := t.bridge, rings := t.rings, evr := t.evr, vlv := t.vlv, lsw := t.lsw, outs := t.outs, dram := t.dram, hlt := t.hlt } ∧
      s.keepsRegs [0x03, 0x04, 0x06, 0x0B, 0x0C] t ∧
      s.keepsMem 0 0 t) ∧
  (∀ (s t : State) (ic : Nat), exec (.watchdogExpiry ic) s = .next t →
    t = { s with regs := t.regs, wide := t.wide, mem := t.mem, irqs := t.irqs, free := t.free, bridge := t.bridge, rings := t.rings, evr := t.evr, vlv := t.vlv, lsw := t.lsw, outs := t.outs, dram := t.dram, hlt := t.hlt } ∧
      s.keepsRegs [0x03, 0x04, 0x06, 0x0B, 0x0C] t ∧
      s.keepsMem 0 0 t) ∧
  (∀ (s t : State), exec (.failsafeRequest) s = .next t →
    t = { s with regs := t.regs, wide := t.wide, mem := t.mem, irqs := t.irqs, free := t.free, bridge := t.bridge, rings := t.rings, evr := t.evr, vlv := t.vlv, lsw := t.lsw, outs := t.outs, dram := t.dram, hlt := t.hlt } ∧
      s.keepsRegs [0x03, 0x04, 0x06, 0x0B, 0x0C] t ∧
      s.keepsMem 0 0 t) ∧
  (∀ (s t : State) (agent : Agent) (ic : Nat), exec (.outputStageResume agent ic) s = .next t →
    t = { s with regs := t.regs, wide := t.wide, mem := t.mem, resp := t.resp, irqs := t.irqs, free := t.free, bridge := t.bridge, rings := t.rings, evr := t.evr, vlv := t.vlv, lsw := t.lsw, outs := t.outs, dram := t.dram, hlt := t.hlt } ∧
      s.keepsRegs [0x00, 0x03, 0x04, 0x06, 0x0B, 0x0C] t ∧
      s.keepsMem 0 0 t) ∧
  (∀ (s t : State) (agent : Agent) (n : Nat) (value : W32), exec (.lswUntimedCommand agent n value) s = .next t →
    t = { s with regs := t.regs, badParity := t.badParity, resp := t.resp, irqs := t.irqs, lsw := t.lsw } ∧
      s.keepsRegs [0x00, 0x0C] t) ∧
  (∀ (s t : State) (means : List Nat), exec (.shedEvaluation means) s = .next t →
    t = { s with regs := t.regs, wide := t.wide, mem := t.mem, irqs := t.irqs, free := t.free, bridge := t.bridge, rings := t.rings, held := t.held, evr := t.evr, lsw := t.lsw, dram := t.dram, hlt := t.hlt } ∧
      s.keepsRegs [0x03, 0x04, 0x06, 0x0C] t ∧
      s.keepsMem 0 0 t) ∧
  (∀ (s t : State) (agent : Agent) (hi : Bool) (value : W32), exec (.shedClear agent hi value) s = .next t →
    t = { s with regs := t.regs, resp := t.resp, irqs := t.irqs, lsw := t.lsw } ∧
      s.keepsRegs [0x00, 0x0C] t) ∧
  (∀ (s t : State) (meas : List (Nat × Nat × Nat)) (busv : Nat), exec (.wireHeatUpdate meas busv) s = .next t →
    t = { s with regs := t.regs, wide := t.wide, mem := t.mem, irqs := t.irqs, free := t.free, bridge := t.bridge, rings := t.rings, evr := t.evr, lsw := t.lsw, outs := t.outs, dram := t.dram, hlt := t.hlt } ∧
      s.keepsRegs [0x03, 0x04, 0x06, 0x0C] t ∧
      s.keepsMem 0 0 t) ∧
  (∀ (s t : State) (n kind : Nat), exec (.lswChannelFault n kind) s = .next t →
    t = { s with regs := t.regs, wide := t.wide, mem := t.mem, irqs := t.irqs, free := t.free, bridge := t.bridge, rings := t.rings, evr := t.evr, lsw := t.lsw, dram := t.dram, hlt := t.hlt } ∧
      s.keepsRegs [0x03, 0x04, 0x06, 0x0C] t ∧
      s.keepsMem 0 0 t) ∧
  (∀ (s t : State) (agent : Agent) (hi : Bool) (value : W32), exec (.lswFaultClear agent hi value) s = .next t →
    t = { s with regs := t.regs, resp := t.resp, irqs := t.irqs, lsw := t.lsw } ∧
      s.keepsRegs [0x00, 0x0C] t) ∧
  (∀ (s t : State) (n : Nat) (high : Bool), exec (.openLoadOff n high) s = .next t →
    t = { s with regs := t.regs, wide := t.wide, mem := t.mem, irqs := t.irqs, free := t.free, bridge := t.bridge, rings := t.rings, dram := t.dram, hlt := t.hlt } ∧
      s.keepsRegs [0x03, 0x06, 0x0C] t ∧
      s.keepsMem 0 0 t) ∧
  (∀ (s t : State) (n : Nat) (low : Bool), exec (.openLoadOn n low) s = .next t →
    t = { s with regs := t.regs, wide := t.wide, mem := t.mem, irqs := t.irqs, free := t.free, bridge := t.bridge, rings := t.rings, dram := t.dram, hlt := t.hlt } ∧
      s.keepsRegs [0x03, 0x06, 0x0C] t ∧
      s.keepsMem 0 0 t) ∧
  (∀ (s t : State) (q : Nat), exec (.lswPulse q) s = .next t →
    t = { s with regs := t.regs, wide := t.wide, mem := t.mem, irqs := t.irqs, bridge := t.bridge, rings := t.rings, lsw := t.lsw, dram := t.dram, hlt := t.hlt } ∧
      s.keepsRegs [0x03, 0x06, 0x0C] t ∧
      s.keepsMem 0 0 t) ∧
  (∀ (s t : State) (q : Nat), exec (.lswSet q) s = .next t →
    t = { s with regs := t.regs, wide := t.wide, mem := t.mem, irqs := t.irqs, bridge := t.bridge, rings := t.rings, lsw := t.lsw, dram := t.dram, hlt := t.hlt } ∧
      s.keepsRegs [0x03, 0x06, 0x0C] t ∧
      s.keepsMem 0 0 t) ∧
  (∀ (s t : State) (q : Nat), exec (.lswCancel q) s = .next t →
    t = { s with regs := t.regs, wide := t.wide, mem := t.mem, irqs := t.irqs, bridge := t.bridge, rings := t.rings, lsw := t.lsw, dram := t.dram, hlt := t.hlt } ∧
      s.keepsRegs [0x03, 0x06, 0x0C] t ∧
      s.keepsMem 0 0 t) ∧
  (∀ (s t : State) (agent : Agent) (value : W32), exec (.fsunlockWrite agent value) s = .next t →
    t = { s with regs := t.regs, resp := t.resp, irqs := t.irqs, lsw := t.lsw } ∧
      s.keepsRegs [0x0C] t) ∧
  (∀ (s t : State), exec (.fsunlockTimeout) s = .next t →
    t = { s with regs := t.regs, lsw := t.lsw } ∧
      s.keepsRegs [0x0C] t) ∧
  (∀ (s t : State) (failed : List Nat), exec (.fswrite failed) s = .next t →
    t = { s with regs := t.regs, wide := t.wide, mem := t.mem, irqs := t.irqs, free := t.free, bridge := t.bridge, rings := t.rings, toks := t.toks, lsw := t.lsw, outs := t.outs, dram := t.dram, hlt := t.hlt } ∧
      s.keepsRegs [0x03, 0x06, 0x0B, 0x0C] t ∧
      s.keepsMem 0 0 t) ∧
  (∀ (s t : State) (q : Nat), exec (.fsread q) s = .next t →
    t = { s with regs := t.regs, wide := t.wide, mem := t.mem, irqs := t.irqs, bridge := t.bridge, rings := t.rings, dram := t.dram, hlt := t.hlt } ∧
      s.keepsRegs [0x03, 0x06] t ∧
      (∀ d, s.running q 0x11 = some d → s.keepsMem (d.le 24 8) (s.fsImage.length) t)) ∧
  (∀ (s t : State) (valve : Bool) (n : Nat), exec (.pulseEnd valve n) s = .next t →
    t = { s with regs := t.regs, wide := t.wide, mem := t.mem, irqs := t.irqs, free := t.free, bridge := t.bridge, rings := t.rings, evr := t.evr, vlv := t.vlv, lsw := t.lsw, dram := t.dram, hlt := t.hlt } ∧
      s.keepsRegs [0x03, 0x04, 0x06, 0x0B, 0x0C, 0x0D, 0x11, 0x12, 0x13] t ∧
      s.keepsMem 0 0 t) ∧
  (∀ (c : Instr) (s t : State), c.furrow = true → exec c s = .next t →
    t = { s with regs := t.regs, wide := t.wide, mem := t.mem, resp := t.resp, irqs := t.irqs, free := t.free, bridge := t.bridge, rings := t.rings, held := t.held, evr := t.evr, toks := t.toks, fur := t.fur, vlv := t.vlv, lsw := t.lsw, can := t.can, eth := t.eth, dram := t.dram, hlt := t.hlt, upd := t.upd } ∧
      s.keepsRegs [0x03, 0x04, 0x05, 0x06, 0x0A, 0x0B, 0x0C, 0x0D, 0x15] t)

/-- What the network, panel and memory commands leave unchanged. For each named command of chapters 14 to 17: the next state differs from the state before only in the fields the clause lists; registers and 64-bit counters outside the blocks it lists read as before; memory it does not write stays, and memory it writes only through a ring or at the address of its descriptor stays outside these. (R351, R372, R391, R410) -/
def Obligations.NetworkPanelAndMemoryFrames : Prop :=
  (∀ (s t : State) (agent : Agent) (c : Nat) (value : W32), exec (.canEnable agent c value) s = .next t →
    t = { s with regs := t.regs, wide := t.wide, badParity := t.badParity, mem := t.mem, resp := t.resp, irqs := t.irqs, bridge := t.bridge, rings := t.rings, can := t.can, dram := t.dram, hlt := t.hlt } ∧
      s.keepsRegs [0x00, 0x03, 0x06, 0x0D] t ∧
      s.keepsMem 0 0 t) ∧
  (∀ (s t : State) (agent : Agent) (c : Nat), exec (.canDisable agent c) s = .next t →
    t = { s with regs := t.regs, wide := t.wide, badParity := t.badParity, mem := t.mem, resp := t.resp, irqs := t.irqs, bridge := t.bridge, rings := t.rings, can := t.can, dram := t.dram, hlt := t.hlt } ∧
      s.keepsRegs [0x00, 0x03, 0x06, 0x0D] t ∧
      s.keepsMem 0 0 t) ∧
  (∀ (s t : State) (agent : Agent) (c mode : Nat), exec (.canModeWrite agent c mode) s = .next t →
    t = { s with regs := t.regs, wide := t.wide, badParity := t.badParity, mem := t.mem, resp := t.resp, irqs := t.irqs, bridge := t.bridge, rings := t.rings, can := t.can, dram := t.dram, hlt := t.hlt } ∧
      s.keepsRegs [0x00, 0x03, 0x06, 0x0D] t ∧
      s.keepsMem 0 0 t) ∧
  (∀ (s t : State) (c nrate drate : Nat), exec (.busRateDetect c nrate drate) s = .next t →
    t = { s with regs := t.regs, wide := t.wide, badParity := t.badParity, mem := t.mem, irqs := t.irqs, bridge := t.bridge, rings := t.rings, evr := t.evr, dram := t.dram, hlt := t.hlt } ∧
      s.keepsRegs [0x03, 0x04, 0x06, 0x0D] t ∧
      s.keepsMem 0 0 t) ∧
  (∀ (s t : State) (c : Nat), exec (.detectTimeout c) s = .next t →
    t = { s with regs := t.regs, wide := t.wide, mem := t.mem, irqs := t.irqs, bridge := t.bridge, rings := t.rings, evr := t.evr, dram := t.dram, hlt := t.hlt } ∧
      s.keepsRegs [0x03, 0x04, 0x06, 0x0D] t ∧
      s.keepsMem 0 0 t) ∧
  (∀ (s t : State) (c : Nat) (f : CanFrame), exec (.canFrameReceived c f) s = .next t →
    t = { s with regs := t.regs, wide := t.wide, mem := t.mem, irqs := t.irqs, free := t.free, bridge := t.bridge, rings := t.rings, evr := t.evr, can := t.can, dram := t.dram, hlt := t.hlt } ∧
      s.keepsRegs [0x03, 0x04, 0x06, 0x0D] t) ∧
  (∀ (s t : State) (agent : Agent) (c : Nat) (value : W32), exec (.acceptanceTableCopy agent c value) s = .next t →
    t = { s with regs := t.regs, badParity := t.badParity, resp := t.resp, irqs := t.irqs, can := t.can } ∧
      s.keepsRegs [0x00, 0x0D] t) ∧
  (∀ (s t : State) (q : Nat), exec (.sendCmd q) s = .next t →
    t = { s with regs := t.regs, wide := t.wide, mem := t.mem, irqs := t.irqs, bridge := t.bridge, rings := t.rings, can := t.can, dram := t.dram, hlt := t.hlt } ∧
      s.keepsRegs [0x03, 0x06, 0x0D] t ∧
      s.keepsMem 0 0 t) ∧
  (∀ (s t : State) (q : Nat), exec (.canCancel q) s = .next t →
    t = { s with regs := t.regs, wide := t.wide, mem := t.mem, irqs := t.irqs, bridge := t.bridge, rings := t.rings, can := t.can, dram := t.dram, hlt := t.hlt } ∧
      s.keepsRegs [0x03, 0x06, 0x0D] t ∧
      s.keepsMem 0 0 t) ∧
  (∀ (s t : State) (c : Nat), exec (.canFrameStart c) s = .next t →
    t = { s with regs := t.regs, can := t.can } ∧
      s.keepsRegs [0x0D] t) ∧
  (∀ (s t : State) (c : Nat), exec (.canFrameAcknowledged c) s = .next t →
    t = { s with regs := t.regs, wide := t.wide, mem := t.mem, irqs := t.irqs, bridge := t.bridge, rings := t.rings, evr := t.evr, can := t.can, dram := t.dram, hlt := t.hlt } ∧
      s.keepsRegs [0x03, 0x04, 0x06, 0x0D] t ∧
      s.keepsMem 0 0 t) ∧
  (∀ (s t : State) (c err : Nat), exec (.canFrameLost c err) s = .next t →
    t = { s with regs := t.regs, wide := t.wide, mem := t.mem, irqs := t.irqs, bridge := t.bridge, rings := t.rings, evr := t.evr, can := t.can, dram := t.dram, hlt := t.hlt } ∧
      s.keepsRegs [0x03, 0x04, 0x06, 0x0D] t ∧
      s.keepsMem 0 0 t) ∧
  (∀ (s t : State) (c : Nat), exec (.busOffRecovery c) s = .next t →
    t = { s with regs := t.regs, wide := t.wide, mem := t.mem, irqs := t.irqs, bridge := t.bridge, rings := t.rings, evr := t.evr, can := t.can, dram := t.dram, hlt := t.hlt } ∧
      s.keepsRegs [0x03, 0x04, 0x06, 0x0D] t ∧
      s.keepsMem 0 0 t) ∧
  (∀ (s t : State) (agent : Agent) (value : W32), exec (.aloneClear agent value) s = .next t →
    t = { s with regs := t.regs, resp := t.resp, irqs := t.irqs } ∧
      s.keepsRegs [0x00, 0x0D] t) ∧
  (∀ (s t : State) (c : Nat), exec (.addressClaim c) s = .next t →
    t = { s with regs := t.regs, can := t.can } ∧
      s.keepsRegs [0x0D] t) ∧
  (∀ (s t : State) (c : Nat), exec (.claimHoldoffExpiry c) s = .next t →
    t = { s with regs := t.regs, wide := t.wide, mem := t.mem, irqs := t.irqs, bridge := t.bridge, rings := t.rings, evr := t.evr, dram := t.dram, hlt := t.hlt } ∧
      s.keepsRegs [0x03, 0x04, 0x06, 0x0D] t ∧
      s.keepsMem 0 0 t) ∧
  (∀ (s t : State) (c r : Nat), exec (.claimContest c r) s = .next t →
    t = { s with regs := t.regs, can := t.can } ∧
      s.keepsRegs [0x0D] t) ∧
  (∀ (s t : State) (c : Nat), exec (.claimBackoffExpiry c) s = .next t →
    t = { s with regs := t.regs, wide := t.wide, mem := t.mem, irqs := t.irqs, bridge := t.bridge, rings := t.rings, evr := t.evr, can := t.can, dram := t.dram, hlt := t.hlt } ∧
      s.keepsRegs [0x03, 0x04, 0x06, 0x0D] t ∧
      s.keepsMem 0 0 t) ∧
  (∀ (s t : State) (c : Nat), exec (.claimRequest c) s = .next t →
    t = { s with regs := t.regs, can := t.can } ∧
      s.keepsRegs [0x0D] t) ∧
  (∀ (s t : State) (k : Nat), exec (.partnerTimeout k) s = .next t →
    t = { s with regs := t.regs, wide := t.wide, mem := t.mem, irqs := t.irqs, bridge := t.bridge, rings := t.rings, evr := t.evr, dram := t.dram, hlt := t.hlt } ∧
      s.keepsRegs [0x03, 0x04, 0x06, 0x0D] t ∧
      s.keepsMem 0 0 t) ∧
  (∀ (s t : State) (agent : Agent) (value : W32), exec (.partnerClear agent value) s = .next t →
    t = { s with regs := t.regs, wide := t.wide, badParity := t.badParity, mem := t.mem, resp := t.resp, irqs := t.irqs, bridge := t.bridge, rings := t.rings, can := t.can, dram := t.dram, hlt := t.hlt } ∧
      s.keepsRegs [0x00, 0x03, 0x06, 0x0D] t ∧
      s.keepsMem 0 0 t) ∧
  (∀ (s t : State) (c : Nat) (id : Option Nat), exec (.selectiveWake c id) s = .next t →
    t = { s with regs := t.regs, rootRegs := t.rootRegs, wide := t.wide, mem := t.mem, irqs := t.irqs, free := t.free, bridge := t.bridge, rings := t.rings, evr := t.evr, toks := t.toks, vlv := t.vlv, lsw := t.lsw, outs := t.outs, can := t.can, pan := t.pan, dram := t.dram, ter := t.ter, pwr := t.pwr, hlt := t.hlt } ∧
      s.keepsRegs [0x00, 0x02, 0x03, 0x04, 0x06, 0x0B, 0x0C, 0x0D, 0x0E, 0x13, 0x19] t ∧
      s.keepsMem 0 0 t) ∧
  (∀ (s t : State) (port : Nat) (f : EthFrame) (tarr : Nat), exec (.ethFrameForward port f tarr) s = .next t →
    t = { s with regs := t.regs, wide := t.wide, mem := t.mem, irqs := t.irqs, bridge := t.bridge, rings := t.rings, eth := t.eth, dram := t.dram, hlt := t.hlt } ∧
      s.keepsRegs [0x03, 0x06, 0x15] t) ∧
  (∀ (s t : State) (port : Nat) (up : Bool) (pdelay : Option Nat), exec (.ethLinkChange port up pdelay) s = .next t →
    t = { s with regs := t.regs, wide := t.wide, mem := t.mem, irqs := t.irqs, bridge := t.bridge, rings := t.rings, eth := t.eth, dram := t.dram, hlt := t.hlt } ∧
      s.keepsRegs [0x03, 0x06, 0x15] t ∧
      s.keepsMem 0 0 t) ∧
  (∀ (s t : State) (stamp sec : Nat) (rateErr : Int), exec (.ptpMark stamp sec rateErr) s = .next t →
    t = { s with regs := t.regs, wide := t.wide, irqs := t.irqs, free := t.free, evr := t.evr, tim := t.tim } ∧
      s.keepsRegs [0x01, 0x04] t) ∧
  (∀ (s t : State) (gm : Nat) (own : Bool) (slave steps : Nat) (roles : List Nat), exec (.grandmasterChange gm own slave steps roles) s = .next t →
    t = { s with regs := t.regs, wide := t.wide, mem := t.mem, irqs := t.irqs, bridge := t.bridge, rings := t.rings, eth := t.eth, dram := t.dram, hlt := t.hlt } ∧
      s.keepsRegs [0x03, 0x06, 0x15] t ∧
      s.keepsMem 0 0 t) ∧
  (∀ (s t : State), exec (.gclload) s = .next t →
    t = { s with regs := t.regs, wide := t.wide, mem := t.mem, irqs := t.irqs, bridge := t.bridge, rings := t.rings, eth := t.eth, dram := t.dram, hlt := t.hlt } ∧
      s.keepsRegs [0x03, 0x06, 0x15] t ∧
      s.keepsMem 0 0 t) ∧
  (∀ (s t : State), exec (.fdbset) s = .next t →
    t = { s with regs := t.regs, wide := t.wide, mem := t.mem, irqs := t.irqs, bridge := t.bridge, rings := t.rings, eth := t.eth, dram := t.dram, hlt := t.hlt } ∧
      s.keepsRegs [0x03, 0x06] t ∧
      s.keepsMem 0 0 t) ∧
  (∀ (s t : State), exec (.riotpl) s = .next t →
    t = { s with regs := t.regs, wide := t.wide, mem := t.mem, irqs := t.irqs, bridge := t.bridge, rings := t.rings, eth := t.eth, dram := t.dram, hlt := t.hlt } ∧
      s.keepsRegs [0x03, 0x06, 0x15] t ∧
      s.keepsMem 0 0 t) ∧
  (∀ (s t : State), exec (.xmit) s = .next t →
    t = { s with regs := t.regs, wide := t.wide, mem := t.mem, irqs := t.irqs, bridge := t.bridge, rings := t.rings, eth := t.eth, dram := t.dram, hlt := t.hlt } ∧
      s.keepsRegs [0x03, 0x06, 0x15] t) ∧
  (∀ (s t : State), exec (.rxbuf) s = .next t →
    t = { s with regs := t.regs, wide := t.wide, mem := t.mem, irqs := t.irqs, bridge := t.bridge, rings := t.rings, eth := t.eth, dram := t.dram, hlt := t.hlt } ∧
      s.keepsRegs [0x03, 0x06] t ∧
      s.keepsMem 0 0 t) ∧
  (∀ (s t : State) (port : Nat) (f : EthFrame) (tarr : Nat), exec (.rioInputFrame port f tarr) s = .next t →
    t = { s with regs := t.regs, wide := t.wide, bridge := t.bridge, eth := t.eth } ∧
      s.keepsRegs [0x15] t) ∧
  (∀ (s t : State) (port : Nat) (f : EthFrame) (tarr : Nat) (late sync : Bool), exec (.udpIntake port f tarr late sync) s = .next t →
    t = { s with regs := t.regs, wide := t.wide, mem := t.mem, irqs := t.irqs, free := t.free, bridge := t.bridge, rings := t.rings, ing := t.ing, eth := t.eth, dram := t.dram, hlt := t.hlt } ∧
      s.keepsRegs [0x03, 0x06, 0x15] t) ∧
  (∀ (s t : State) (conn addr qid kato : Nat), exec (.nvmeConnect conn addr qid kato) s = .next t →
    t = { s with regs := t.regs, wide := t.wide, mem := t.mem, irqs := t.irqs, free := t.free, bridge := t.bridge, rings := t.rings, eth := t.eth, dram := t.dram, ter := t.ter, hlt := t.hlt } ∧
      s.keepsRegs [0x03, 0x06, 0x15] t ∧
      s.keepsMem 0 0 t) ∧
  (∀ (s t : State) (conn cid ofst : Nat), exec (.nvmePropertyGet conn cid ofst) s = .next t →
    t = { s with free := t.free, ter := t.ter }) ∧
  (∀ (s t : State) (conn cid ofst value : Nat), exec (.nvmePropertySet conn cid ofst value) s = .next t →
    t = { s with eth := t.eth, ter := t.ter }) ∧
  (∀ (s t : State) (conn cid : Nat), exec (.nvmeDisconnect conn cid) s = .next t →
    t = { s with regs := t.regs, eth := t.eth, ter := t.ter } ∧
      s.keepsRegs [0x15] t) ∧
  (∀ (s t : State) (conn cid cns nsid : Nat), exec (.nvmeIdentify conn cid cns nsid) s = .next t →
    t = { s with free := t.free, ter := t.ter }) ∧
  (∀ (s t : State) (conn cid lid len : Nat) (retain : Bool), exec (.nvmeGetLogPage conn cid lid len retain) s = .next t →
    t = { s with free := t.free, eth := t.eth, ter := t.ter }) ∧
  (∀ (s t : State) (conn cid fid value : Nat), exec (.nvmeSetFeatures conn cid fid value) s = .next t →
    t = { s with eth := t.eth, ter := t.ter }) ∧
  (∀ (s t : State) (conn cid fid : Nat), exec (.nvmeGetFeatures conn cid fid) s = .next t →
    t = { s with ter := t.ter }) ∧
  (∀ (s t : State) (conn cid : Nat), exec (.nvmeAsyncEventRequest conn cid) s = .next t →
    t = { s with eth := t.eth, ter := t.ter }) ∧
  (∀ (s t : State) (conn cid : Nat), exec (.nvmeKeepAlive conn cid) s = .next t →
    t = { s with eth := t.eth, ter := t.ter }) ∧
  (∀ (s t : State) (late : List Nat) (torn : Bool), exec (.panelFrameStart late torn) s = .next t →
    t = { s with regs := t.regs, wide := t.wide, mem := t.mem, irqs := t.irqs, bridge := t.bridge, rings := t.rings, evr := t.evr, cam := t.cam, pan := t.pan, dram := t.dram, hlt := t.hlt } ∧
      s.keepsRegs [0x03, 0x04, 0x06, 0x0E, 0x19] t ∧
      s.keepsMem 0 0 t) ∧
  (∀ (s t : State), exec (.frameCompose) s = .next t →
    t = { s with regs := t.regs, wide := t.wide, mem := t.mem, irqs := t.irqs, free := t.free, bridge := t.bridge, rings := t.rings, evr := t.evr, cam := t.cam, pan := t.pan, dram := t.dram, hlt := t.hlt } ∧
      s.keepsRegs [0x03, 0x04, 0x06, 0x19] t) ∧
  (∀ (s t : State) (locks : Nat), exec (.laneTraining locks) s = .next t →
    t = { s with regs := t.regs, wide := t.wide, mem := t.mem, irqs := t.irqs, bridge := t.bridge, rings := t.rings, evr := t.evr, pan := t.pan, dram := t.dram, hlt := t.hlt } ∧
      s.keepsRegs [0x03, 0x04, 0x06, 0x0E, 0x19] t ∧
      s.keepsMem 0 0 t) ∧
  (∀ (s t : State) (lane : Nat), exec (.laneLockLoss lane) s = .next t →
    t = { s with regs := t.regs, pan := t.pan } ∧
      s.keepsRegs [0x19] t) ∧
  (∀ (s t : State) (torn : Bool), exec (.stripRefresh torn) s = .next t →
    t = { s with regs := t.regs, irqs := t.irqs, pan := t.pan } ∧
      s.keepsRegs [0x0E, 0x19] t) ∧
  (∀ (s t : State), exec (.displayFallback) s = .next t →
    t = { s with regs := t.regs, wide := t.wide, mem := t.mem, irqs := t.irqs, bridge := t.bridge, rings := t.rings, evr := t.evr, pan := t.pan, dram := t.dram, hlt := t.hlt } ∧
      s.keepsRegs [0x03, 0x04, 0x06, 0x0E, 0x19] t ∧
      s.keepsMem 0 0 t) ∧
  (∀ (s t : State) (agent : Agent) (value : W32), exec (.fallbackClear agent value) s = .next t →
    t = { s with regs := t.regs, wide := t.wide, badParity := t.badParity, mem := t.mem, resp := t.resp, irqs := t.irqs, bridge := t.bridge, rings := t.rings, pan := t.pan, dram := t.dram, hlt := t.hlt } ∧
      s.keepsRegs [0x00, 0x03, 0x06, 0x0E, 0x19] t ∧
      s.keepsMem 0 0 t) ∧
  (∀ (s t : State) (agent : Agent) (mode : Bool), exec (.panelPowerOn agent mode) s = .next t →
    t = { s with regs := t.regs, wide := t.wide, badParity := t.badParity, mem := t.mem, resp := t.resp, irqs := t.irqs, bridge := t.bridge, rings := t.rings, pan := t.pan, dram := t.dram, hlt := t.hlt } ∧
      s.keepsRegs [0x00, 0x03, 0x06, 0x0E, 0x19] t ∧
      s.keepsMem 0 0 t) ∧
  (∀ (s t : State) (agent : Agent) (mode : Bool), exec (.panelPowerOff agent mode) s = .next t →
    t = { s with regs := t.regs, wide := t.wide, badParity := t.badParity, mem := t.mem, resp := t.resp, irqs := t.irqs, bridge := t.bridge, rings := t.rings, pan := t.pan, dram := t.dram, hlt := t.hlt } ∧
      s.keepsRegs [0x00, 0x03, 0x06, 0x0E, 0x19] t ∧
      s.keepsMem 0 0 t) ∧
  (∀ (s t : State), exec (.panelSequenceStep) s = .next t →
    t = { s with regs := t.regs, wide := t.wide, mem := t.mem, irqs := t.irqs, bridge := t.bridge, rings := t.rings, pan := t.pan, dram := t.dram, hlt := t.hlt } ∧
      s.keepsRegs [0x03, 0x06, 0x0E, 0x19] t ∧
      s.keepsMem 0 0 t) ∧
  (∀ (s t : State) (eeprom : Bytes), exec (.uniformityMapRead eeprom) s = .next t →
    t = { s with regs := t.regs, wide := t.wide, mem := t.mem, irqs := t.irqs, bridge := t.bridge, rings := t.rings, evr := t.evr, pan := t.pan, dram := t.dram, hlt := t.hlt } ∧
      s.keepsRegs [0x03, 0x04, 0x06, 0x19] t) ∧
  (∀ (s t : State), exec (.mapload) s = .next t →
    t = { s with regs := t.regs, wide := t.wide, mem := t.mem, irqs := t.irqs, bridge := t.bridge, rings := t.rings, pan := t.pan, dram := t.dram, hlt := t.hlt } ∧
      s.keepsRegs [0x03, 0x06] t ∧
      s.keepsMem 0 0 t) ∧
  (∀ (s t : State) (req addr : Nat) (wrong : List (Nat × Nat)) (taken : Bool), exec (.dramRead req addr wrong taken) s = .next t →
    t = { s with regs := t.regs, wide := t.wide, mem := t.mem, resp := t.resp, irqs := t.irqs, free := t.free, bridge := t.bridge, rings := t.rings, evr := t.evr, dram := t.dram, hlt := t.hlt } ∧
      s.keepsRegs [0x03, 0x04, 0x06, 0x11] t ∧
      s.keepsMem (addr) 64 t) ∧
  (∀ (s t : State) (addr : Nat) (data : Bytes) (poison : Bool), exec (.dramLineWrite addr data poison) s = .next t →
    t = { s with regs := t.regs, mem := t.mem, resp := t.resp, dram := t.dram, hlt := t.hlt } ∧
      s.keepsRegs [0x03, 0x11] t ∧
      s.keepsMem (addr) 64 t) ∧
  (∀ (s t : State) (req addr mask : Nat) (data : Bytes) (poison : Bool) (wrong : List (Nat × Nat)), exec (.dramPartialWrite req addr mask data poison wrong) s = .next t →
    t = { s with regs := t.regs, wide := t.wide, mem := t.mem, resp := t.resp, irqs := t.irqs, bridge := t.bridge, rings := t.rings, evr := t.evr, dram := t.dram, hlt := t.hlt } ∧
      s.keepsRegs [0x03, 0x04, 0x06, 0x11] t ∧
      s.keepsMem (addr) 64 t) ∧
  (∀ (s t : State) (agent : Agent) (n dev : Nat), exec (.deviceMarkSet agent n dev) s = .next t →
    t = { s with regs := t.regs, resp := t.resp, irqs := t.irqs } ∧
      s.keepsRegs [0x00, 0x11] t) ∧
  (∀ (s t : State) (agent : Agent) (n : Nat), exec (.deviceMarkClear agent n) s = .next t →
    t = { s with regs := t.regs, resp := t.resp, irqs := t.irqs } ∧
      s.keepsRegs [0x00, 0x11] t) ∧
  (∀ (s t : State) (core kind va addr : Nat) (src : Nat × Bool), exec (.poisonTrap core kind va addr src) s = .next t →
    t = { s with traps := t.traps }) ∧
  (∀ (s t : State) (wrong : List (Nat × Nat)), exec (.scrubVisit wrong) s = .next t →
    t = { s with regs := t.regs, wide := t.wide, mem := t.mem, irqs := t.irqs, bridge := t.bridge, rings := t.rings, evr := t.evr, dram := t.dram, hlt := t.hlt } ∧
      s.keepsRegs [0x03, 0x04, 0x06, 0x11] t ∧
      s.keepsMem (64 * s.rd F.MEM_SCRUBPOS_LINE) 64 t) ∧
  (∀ (s t : State) (agent : Agent), exec (.lineZero agent) s = .next t →
    t = { s with regs := t.regs, wide := t.wide, mem := t.mem, resp := t.resp, irqs := t.irqs, bridge := t.bridge, rings := t.rings, evr := t.evr, toks := t.toks, dram := t.dram, hlt := t.hlt } ∧
      s.keepsRegs [0x00, 0x03, 0x04, 0x06, 0x11] t ∧
      s.keepsMem (s.lineAddr) 64 t) ∧
  (∀ (s t : State) (agent : Agent), exec (.lineScrub agent) s = .next t →
    t = { s with regs := t.regs, wide := t.wide, mem := t.mem, resp := t.resp, irqs := t.irqs, bridge := t.bridge, rings := t.rings, evr := t.evr, toks := t.toks, dram := t.dram, hlt := t.hlt } ∧
      s.keepsRegs [0x00, 0x03, 0x04, 0x06, 0x11] t ∧
      s.keepsMem (s.lineAddr) 64 t) ∧
  (∀ (s t : State) (agent : Agent), exec (.lineInject agent) s = .next t →
    t = { s with regs := t.regs, wide := t.wide, mem := t.mem, resp := t.resp, irqs := t.irqs, bridge := t.bridge, rings := t.rings, evr := t.evr, toks := t.toks, dram := t.dram, hlt := t.hlt } ∧
      s.keepsRegs [0x00, 0x03, 0x04, 0x06, 0x11] t ∧
      s.keepsMem (s.lineAddr) 64 t) ∧
  (∀ (s t : State) (agent : Agent), exec (.lineCopy agent) s = .next t →
    t = { s with regs := t.regs, wide := t.wide, mem := t.mem, resp := t.resp, irqs := t.irqs, bridge := t.bridge, rings := t.rings, evr := t.evr, toks := t.toks, dram := t.dram, hlt := t.hlt } ∧
      s.keepsRegs [0x00, 0x03, 0x04, 0x06, 0x11] t) ∧
  (∀ (s t : State) (agent : Agent) (nfl : Bool), exec (.logPop agent nfl) s = .next t →
    t = { s with regs := t.regs, resp := t.resp, irqs := t.irqs } ∧
      s.keepsRegs [0x00, 0x11, 0x12] t) ∧
  (∀ (s t : State) (q : Nat) (flips : List Nat), exec (.nandRead q flips) s = .next t →
    t = { s with regs := t.regs, wide := t.wide, mem := t.mem, irqs := t.irqs, bridge := t.bridge, rings := t.rings, evr := t.evr, dram := t.dram, nand := t.nand, ter := t.ter, hlt := t.hlt } ∧
      s.keepsRegs [0x03, 0x04, 0x06, 0x12, 0x13] t) ∧
  (∀ (s t : State) (q : Nat) (fail tableBad : Bool), exec (.nandProgram q fail tableBad) s = .next t →
    t = { s with regs := t.regs, wide := t.wide, mem := t.mem, resp := t.resp, irqs := t.irqs, free := t.free, bridge := t.bridge, rings := t.rings, evr := t.evr, dram := t.dram, nand := t.nand, ter := t.ter, hlt := t.hlt } ∧
      s.keepsRegs [0x03, 0x04, 0x06, 0x12, 0x13] t ∧
      s.keepsMem 0 0 t) ∧
  (∀ (s t : State) (q : Nat) (fail : Bool), exec (.nandErase q fail) s = .next t →
    t = { s with regs := t.regs, wide := t.wide, mem := t.mem, resp := t.resp, irqs := t.irqs, free := t.free, bridge := t.bridge, rings := t.rings, evr := t.evr, dram := t.dram, nand := t.nand, ter := t.ter, hlt := t.hlt } ∧
      s.keepsRegs [0x03, 0x04, 0x06, 0x12, 0x13] t ∧
      s.keepsMem 0 0 t) ∧
  (∀ (s t : State) (flips : List Nat), exec (.rawread flips) s = .next t →
    t = { s with regs := t.regs, wide := t.wide, mem := t.mem, irqs := t.irqs, bridge := t.bridge, rings := t.rings, dram := t.dram, hlt := t.hlt } ∧
      s.keepsRegs [0x03, 0x06, 0x12] t ∧
      (∀ d, s.running 70 0x10 = some d → s.keepsMem (d.le 24 8) ((s.nandPage (d.le 16 4)).length) t)) ∧
  (∀ (s t : State) (fail : Bool), exec (.rawprog fail) s = .next t →
    t = { s with regs := t.regs, wide := t.wide, mem := t.mem, resp := t.resp, irqs := t.irqs, free := t.free, bridge := t.bridge, rings := t.rings, evr := t.evr, dram := t.dram, nand := t.nand, ter := t.ter, hlt := t.hlt } ∧
      s.keepsRegs [0x03, 0x04, 0x06, 0x12, 0x13] t ∧
      s.keepsMem 0 0 t) ∧
  (∀ (s t : State), exec (.decode) s = .next t →
    t = { s with regs := t.regs, wide := t.wide, mem := t.mem, irqs := t.irqs, bridge := t.bridge, rings := t.rings, evr := t.evr, dram := t.dram, nand := t.nand, ter := t.ter, hlt := t.hlt } ∧
      s.keepsRegs [0x03, 0x04, 0x06, 0x12, 0x13] t) ∧
  (∀ (s t : State) (mac vid : Nat), exec (.fdbEntryAgeing mac vid) s = .next t →
    t = { s with eth := t.eth }) ∧
  (∀ (s t : State) (port : Nat), exec (.gateOpen port) s = .next t →
    t = { s with regs := t.regs, wide := t.wide, mem := t.mem, irqs := t.irqs, bridge := t.bridge, rings := t.rings, eth := t.eth, dram := t.dram, hlt := t.hlt } ∧
      s.keepsRegs [0x03, 0x06, 0x15] t ∧
      s.keepsMem 0 0 t) ∧
  (∀ (s t : State) (c err inc : Nat), exec (.canReceiveError c err inc) s = .next t →
    t = { s with regs := t.regs, wide := t.wide, mem := t.mem, irqs := t.irqs, bridge := t.bridge, rings := t.rings, evr := t.evr, dram := t.dram, hlt := t.hlt } ∧
      s.keepsRegs [0x03, 0x04, 0x06, 0x0D] t ∧
      s.keepsMem 0 0 t)

/-- What the storage, power, health, update and recorder commands leave unchanged. For each named command of chapters 18 to 22: the next state differs from the state before only in the fields the clause lists; registers and 64-bit counters outside the blocks it lists read as before; memory it does not write stays, and memory it writes only through a ring or at the address of its descriptor stays outside these. (R437, R469, R495, R519, R546) -/
def Obligations.StoragePowerAndHealthFrames : Prop :=
  (∀ (s t : State) (conn cid nsid lba blocks : Nat) (bad : List Nat), exec (.nvmeRead conn cid nsid lba blocks bad) s = .next t →
    t = { s with regs := t.regs, wide := t.wide, mem := t.mem, irqs := t.irqs, free := t.free, bridge := t.bridge, rings := t.rings, eth := t.eth, dram := t.dram, ter := t.ter, hlt := t.hlt } ∧
      s.keepsRegs [0x03, 0x06, 0x13] t ∧
      s.keepsMem 0 0 t) ∧
  (∀ (s t : State) (conn cid nsid lba : Nat) (data : List Bytes), exec (.nvmeWrite conn cid nsid lba data) s = .next t →
    t = { s with regs := t.regs, wide := t.wide, mem := t.mem, irqs := t.irqs, free := t.free, bridge := t.bridge, rings := t.rings, eth := t.eth, dram := t.dram, ter := t.ter, hlt := t.hlt } ∧
      s.keepsRegs [0x03, 0x06, 0x13, 0x14] t ∧
      s.keepsMem 0 0 t) ∧
  (∀ (s t : State) (conn cid nsid : Nat), exec (.nvmeFlush conn cid nsid) s = .next t →
    t = { s with regs := t.regs, wide := t.wide, mem := t.mem, irqs := t.irqs, bridge := t.bridge, rings := t.rings, eth := t.eth, dram := t.dram, ter := t.ter, hlt := t.hlt } ∧
      s.keepsRegs [0x03, 0x06, 0x13] t ∧
      s.keepsMem 0 0 t) ∧
  (∀ (s t : State) (conn cid nsid : Nat) (dealloc : Bool) (ranges : List (Nat × Nat)), exec (.nvmeDatasetManagement conn cid nsid dealloc ranges) s = .next t →
    t = { s with regs := t.regs, wide := t.wide, mem := t.mem, irqs := t.irqs, bridge := t.bridge, rings := t.rings, toks := t.toks, eth := t.eth, dram := t.dram, ter := t.ter, hlt := t.hlt } ∧
      s.keepsRegs [0x03, 0x06, 0x13] t ∧
      s.keepsMem 0 0 t) ∧
  (∀ (s t : State) (conn cid nsid lba blocks : Nat), exec (.nvmeWriteZeroes conn cid nsid lba blocks) s = .next t →
    t = { s with regs := t.regs, wide := t.wide, mem := t.mem, irqs := t.irqs, free := t.free, bridge := t.bridge, rings := t.rings, eth := t.eth, dram := t.dram, ter := t.ter, hlt := t.hlt } ∧
      s.keepsRegs [0x03, 0x06, 0x13, 0x14] t ∧
      s.keepsMem 0 0 t) ∧
  (∀ (s t : State), exec (.nscreate) s = .next t →
    t = { s with regs := t.regs, wide := t.wide, mem := t.mem, irqs := t.irqs, bridge := t.bridge, rings := t.rings, held := t.held, toks := t.toks, eth := t.eth, dram := t.dram, ter := t.ter, hlt := t.hlt } ∧
      s.keepsRegs [0x03, 0x06, 0x13] t ∧
      s.keepsMem 0 0 t) ∧
  (∀ (s t : State), exec (.nsdelete) s = .next t →
    t = { s with regs := t.regs, wide := t.wide, mem := t.mem, irqs := t.irqs, bridge := t.bridge, rings := t.rings, held := t.held, toks := t.toks, eth := t.eth, dram := t.dram, ter := t.ter, hlt := t.hlt } ∧
      s.keepsRegs [0x03, 0x06, 0x13] t ∧
      s.keepsMem 0 0 t) ∧
  (∀ (s t : State), exec (.nsinfo) s = .next t →
    t = { s with regs := t.regs, wide := t.wide, mem := t.mem, irqs := t.irqs, bridge := t.bridge, rings := t.rings, toks := t.toks, dram := t.dram, ter := t.ter, hlt := t.hlt } ∧
      s.keepsRegs [0x03, 0x06, 0x13] t ∧
      (∀ d, s.running 72 3 = some d → s.keepsMem (d.le 24 8) (64) t)) ∧
  (∀ (s t : State), exec (.admitCmd) s = .next t →
    t = { s with regs := t.regs, wide := t.wide, mem := t.mem, irqs := t.irqs, bridge := t.bridge, rings := t.rings, toks := t.toks, dram := t.dram, ter := t.ter, hlt := t.hlt } ∧
      s.keepsRegs [0x03, 0x06, 0x13] t ∧
      s.keepsMem 0 0 t) ∧
  (∀ (s t : State), exec (.releaseCmd) s = .next t →
    t = { s with regs := t.regs, wide := t.wide, mem := t.mem, irqs := t.irqs, bridge := t.bridge, rings := t.rings, toks := t.toks, dram := t.dram, ter := t.ter, hlt := t.hlt } ∧
      s.keepsRegs [0x03, 0x06, 0x13] t ∧
      s.keepsMem 0 0 t) ∧
  (∀ (s t : State) (blocks : List Nat), exec (.rawlend blocks) s = .next t →
    t = { s with regs := t.regs, wide := t.wide, mem := t.mem, irqs := t.irqs, bridge := t.bridge, rings := t.rings, toks := t.toks, dram := t.dram, ter := t.ter, hlt := t.hlt } ∧
      s.keepsRegs [0x03, 0x06, 0x13] t) ∧
  (∀ (s t : State) (fails : List Nat), exec (.rawreturn fails) s = .next t →
    t = { s with regs := t.regs, wide := t.wide, mem := t.mem, resp := t.resp, irqs := t.irqs, free := t.free, bridge := t.bridge, rings := t.rings, evr := t.evr, toks := t.toks, dram := t.dram, nand := t.nand, ter := t.ter, hlt := t.hlt } ∧
      s.keepsRegs [0x03, 0x04, 0x06, 0x12, 0x13] t ∧
      s.keepsMem 0 0 t) ∧
  (∀ (s t : State), exec (.extread) s = .next t →
    t = { s with regs := t.regs, wide := t.wide, mem := t.mem, irqs := t.irqs, bridge := t.bridge, rings := t.rings, toks := t.toks, dram := t.dram, ter := t.ter, hlt := t.hlt } ∧
      s.keepsRegs [0x03, 0x06, 0x13] t ∧
      (∀ d, s.running 72 8 = some d → s.keepsMem (d.le 32 8) (16 * d.le 24 4) t)) ∧
  (∀ (s t : State), exec (.evacuate) s = .next t →
    t = { s with regs := t.regs, wide := t.wide, mem := t.mem, irqs := t.irqs, free := t.free, bridge := t.bridge, rings := t.rings, toks := t.toks, dram := t.dram, ter := t.ter, hlt := t.hlt } ∧
      s.keepsRegs [0x03, 0x06, 0x13] t ∧
      s.keepsMem 0 0 t) ∧
  (∀ (s t : State) (bad : List Nat), exec (.terRead bad) s = .next t →
    t = { s with regs := t.regs, wide := t.wide, mem := t.mem, irqs := t.irqs, free := t.free, bridge := t.bridge, rings := t.rings, toks := t.toks, dram := t.dram, ter := t.ter, hlt := t.hlt } ∧
      s.keepsRegs [0x03, 0x06, 0x13] t) ∧
  (∀ (s t : State), exec (.terWrite) s = .next t →
    t = { s with regs := t.regs, wide := t.wide, mem := t.mem, irqs := t.irqs, free := t.free, bridge := t.bridge, rings := t.rings, toks := t.toks, dram := t.dram, ter := t.ter, hlt := t.hlt } ∧
      s.keepsRegs [0x03, 0x06, 0x13, 0x14] t ∧
      s.keepsMem 0 0 t) ∧
  (∀ (s t : State), exec (.append) s = .next t →
    t = { s with regs := t.regs, wide := t.wide, mem := t.mem, irqs := t.irqs, free := t.free, bridge := t.bridge, rings := t.rings, toks := t.toks, dram := t.dram, ter := t.ter, hlt := t.hlt } ∧
      s.keepsRegs [0x03, 0x06, 0x13, 0x14] t ∧
      s.keepsMem 0 0 t) ∧
  (∀ (s t : State), exec (.terFlush) s = .next t →
    t = { s with regs := t.regs, wide := t.wide, mem := t.mem, irqs := t.irqs, bridge := t.bridge, rings := t.rings, toks := t.toks, dram := t.dram, ter := t.ter, hlt := t.hlt } ∧
      s.keepsRegs [0x03, 0x06, 0x13] t ∧
      s.keepsMem 0 0 t) ∧
  (∀ (s t : State), exec (.dealloc) s = .next t →
    t = { s with regs := t.regs, wide := t.wide, mem := t.mem, irqs := t.irqs, bridge := t.bridge, rings := t.rings, toks := t.toks, dram := t.dram, ter := t.ter, hlt := t.hlt } ∧
      s.keepsRegs [0x03, 0x06, 0x13] t ∧
      s.keepsMem 0 0 t) ∧
  (∀ (s t : State), exec (.terRefresh) s = .next t →
    t = { s with regs := t.regs, wide := t.wide, mem := t.mem, irqs := t.irqs, bridge := t.bridge, rings := t.rings, toks := t.toks, dram := t.dram, ter := t.ter, hlt := t.hlt } ∧
      s.keepsRegs [0x03, 0x06, 0x13] t ∧
      s.keepsMem 0 0 t) ∧
  (∀ (s t : State) (bad : List (Nat × Nat)) (rewritten : Nat), exec (.refreshPass bad rewritten) s = .next t →
    t = { s with regs := t.regs, wide := t.wide, mem := t.mem, irqs := t.irqs, free := t.free, bridge := t.bridge, rings := t.rings, toks := t.toks, dram := t.dram, ter := t.ter, hlt := t.hlt } ∧
      s.keepsRegs [0x03, 0x06, 0x13] t ∧
      s.keepsMem 0 0 t) ∧
  (∀ (s t : State) (slot gen width rpGen rpWidth : Nat) (suits : Bool) (exts : Nat) (label : Option (Nat × Nat × Nat)) (wear : W32), exec (.driveLinkUp slot gen width rpGen rpWidth suits exts label wear) s = .next t →
    t = { s with regs := t.regs, wide := t.wide, mem := t.mem, irqs := t.irqs, bridge := t.bridge, rings := t.rings, dram := t.dram, ter := t.ter, hlt := t.hlt } ∧
      s.keepsRegs [0x03, 0x06, 0x13, 0x14] t ∧
      s.keepsMem 0 0 t) ∧
  (∀ (s t : State) (slot : Nat) (flight : List (Nat × Nat)), exec (.driveLinkLost slot flight) s = .next t →
    t = { s with regs := t.regs, wide := t.wide, mem := t.mem, irqs := t.irqs, free := t.free, bridge := t.bridge, rings := t.rings, toks := t.toks, dram := t.dram, ter := t.ter, hlt := t.hlt } ∧
      s.keepsRegs [0x03, 0x06, 0x13] t ∧
      s.keepsMem 0 0 t) ∧
  (∀ (s t : State) (slot : Nat) (flight : List (Nat × Nat)), exec (.driveFailed slot flight) s = .next t →
    t = { s with regs := t.regs, wide := t.wide, mem := t.mem, irqs := t.irqs, free := t.free, bridge := t.bridge, rings := t.rings, toks := t.toks, dram := t.dram, ter := t.ter, hlt := t.hlt } ∧
      s.keepsRegs [0x03, 0x06, 0x13] t ∧
      s.keepsMem 0 0 t) ∧
  (∀ (s t : State), exec (.hotExtentMove) s = .next t →
    t = { s with regs := t.regs, wide := t.wide, mem := t.mem, irqs := t.irqs, free := t.free, bridge := t.bridge, rings := t.rings, toks := t.toks, dram := t.dram, ter := t.ter, hlt := t.hlt } ∧
      s.keepsRegs [0x03, 0x06, 0x13] t ∧
      s.keepsMem 0 0 t) ∧
  (∀ (s t : State), exec (.degradedRemirror) s = .next t →
    t = { s with regs := t.regs, wide := t.wide, mem := t.mem, irqs := t.irqs, free := t.free, bridge := t.bridge, rings := t.rings, toks := t.toks, dram := t.dram, ter := t.ter, hlt := t.hlt } ∧
      s.keepsRegs [0x03, 0x06, 0x13] t ∧
      s.keepsMem 0 0 t) ∧
  (∀ (s t : State), exec (.accessUnitIntake) s = .next t →
    t = { s with regs := t.regs, wide := t.wide, mem := t.mem, irqs := t.irqs, free := t.free, bridge := t.bridge, rings := t.rings, dram := t.dram, ter := t.ter, hlt := t.hlt } ∧
      s.keepsRegs [0x03, 0x06, 0x13, 0x14, 0x17] t ∧
      s.keepsMem 0 0 t) ∧
  (∀ (s t : State), exec (.tileIntake) s = .next t →
    t = { s with regs := t.regs, wide := t.wide, mem := t.mem, irqs := t.irqs, free := t.free, bridge := t.bridge, rings := t.rings, prod := t.prod, dram := t.dram, ter := t.ter, hlt := t.hlt } ∧
      s.keepsRegs [0x03, 0x06, 0x13, 0x14, 0x18] t) ∧
  (∀ (s t : State) (agent : Agent) (value : W32) (ms : Option Nat), exec (.terraceEnable agent value ms) s = .next t →
    t = { s with regs := t.regs, wide := t.wide, badParity := t.badParity, mem := t.mem, resp := t.resp, irqs := t.irqs, free := t.free, bridge := t.bridge, rings := t.rings, toks := t.toks, dram := t.dram, ter := t.ter, hlt := t.hlt } ∧
      s.keepsRegs [0x00, 0x03, 0x06, 0x13] t) ∧
  (∀ (s t : State) (agent : Agent) (value : W32), exec (.terraceStop agent value) s = .next t →
    t = { s with regs := t.regs, wide := t.wide, badParity := t.badParity, mem := t.mem, resp := t.resp, irqs := t.irqs, free := t.free, bridge := t.bridge, rings := t.rings, toks := t.toks, dram := t.dram, ter := t.ter, hlt := t.hlt } ∧
      s.keepsRegs [0x00, 0x03, 0x06, 0x13] t) ∧
  (∀ (s t : State), exec (.slotpwr) s = .next t →
    t = { s with regs := t.regs, wide := t.wide, mem := t.mem, irqs := t.irqs, free := t.free, bridge := t.bridge, rings := t.rings, toks := t.toks, dram := t.dram, ter := t.ter, hlt := t.hlt } ∧
      s.keepsRegs [0x03, 0x06, 0x13, 0x14] t ∧
      s.keepsMem 0 0 t) ∧
  (∀ (s t : State) (gen width : Nat), exec (.retrain gen width) s = .next t →
    t = { s with regs := t.regs, wide := t.wide, mem := t.mem, irqs := t.irqs, bridge := t.bridge, rings := t.rings, dram := t.dram, hlt := t.hlt } ∧
      s.keepsRegs [0x03, 0x06, 0x13, 0x14] t ∧
      s.keepsMem 0 0 t) ∧
  (∀ (s t : State) (slot : Option Nat), exec (.pcieLinkLoss slot) s = .next t →
    t = { s with regs := t.regs, mem := t.mem, irqs := t.irqs, dram := t.dram, hlt := t.hlt } ∧
      s.keepsRegs [0x03, 0x14] t ∧
      s.keepsMem 0 0 t) ∧
  (∀ (s t : State) (slot : Option Nat) (hdr addr : Nat) (core : Option (Nat × Nat × Nat × Bool)), exec (.completionTimeout slot hdr addr core) s = .next t →
    t = { s with regs := t.regs, mem := t.mem, dram := t.dram, traps := t.traps, hlt := t.hlt } ∧
      s.keepsRegs [0x03, 0x14] t ∧
      s.keepsMem 0 0 t) ∧
  (∀ (s t : State) (mv : Nat), exec (.supplyLow mv) s = .next t →
    t = { s with regs := t.regs, rootRegs := t.rootRegs, irqs := t.irqs } ∧
      s.keepsRegs [0x00, 0x02] t) ∧
  (∀ (s t : State) (mv : Nat), exec (.supplyHigh mv) s = .next t →
    t = { s with regs := t.regs, rootRegs := t.rootRegs, irqs := t.irqs, evr := t.evr } ∧
      s.keepsRegs [0x00, 0x02, 0x04] t) ∧
  (∀ (s t : State) (mv : Nat) (saveOk : Bool), exec (.supplyFailure mv saveOk) s = .next t →
    t = { s with bedOn := t.bedOn, canopyOn := t.canopyOn, regs := t.regs, rootRegs := t.rootRegs, latches := t.latches, wide := t.wide, badParity := t.badParity, mem := t.mem, irqs := t.irqs, free := t.free, bridge := t.bridge, rings := t.rings, evr := t.evr, toks := t.toks, vlv := t.vlv, lsw := t.lsw, outs := t.outs, pan := t.pan, dram := t.dram, nand := t.nand, ter := t.ter, pwr := t.pwr, hlt := t.hlt, upd := t.upd } ∧
      s.keepsRegs [0x00, 0x02, 0x03, 0x04, 0x06, 0x0B, 0x0C] t ∧
      s.keepsMem 0 0 t) ∧
  (∀ (s t : State) (mv : Nat), exec (.supplyReturn mv) s = .next t →
    t = { s with regs := t.regs, rootRegs := t.rootRegs, wide := t.wide, mem := t.mem, irqs := t.irqs, free := t.free, bridge := t.bridge, rings := t.rings, evr := t.evr, toks := t.toks, vlv := t.vlv, lsw := t.lsw, outs := t.outs, pan := t.pan, dram := t.dram, ter := t.ter, pwr := t.pwr, hlt := t.hlt } ∧
      s.keepsRegs [0x00, 0x02, 0x03, 0x04, 0x06, 0x0B, 0x0C, 0x0E, 0x13, 0x19] t ∧
      s.keepsMem 0 0 t) ∧
  (∀ (s t : State) (src : Nat), exec (.wake src) s = .next t →
    t = { s with regs := t.regs, rootRegs := t.rootRegs, wide := t.wide, mem := t.mem, irqs := t.irqs, free := t.free, bridge := t.bridge, rings := t.rings, evr := t.evr, toks := t.toks, vlv := t.vlv, lsw := t.lsw, outs := t.outs, can := t.can, pan := t.pan, dram := t.dram, ter := t.ter, pwr := t.pwr, hlt := t.hlt } ∧
      s.keepsRegs [0x00, 0x02, 0x03, 0x04, 0x06, 0x0B, 0x0C, 0x0D, 0x0E, 0x13, 0x19] t ∧
      s.keepsMem 0 0 t) ∧
  (∀ (s t : State), exec (.wakeTimerExpiry) s = .next t →
    t = { s with regs := t.regs, rootRegs := t.rootRegs, wide := t.wide, mem := t.mem, irqs := t.irqs, free := t.free, bridge := t.bridge, rings := t.rings, evr := t.evr, toks := t.toks, vlv := t.vlv, lsw := t.lsw, outs := t.outs, can := t.can, pan := t.pan, dram := t.dram, ter := t.ter, pwr := t.pwr, hlt := t.hlt } ∧
      s.keepsRegs [0x00, 0x02, 0x03, 0x04, 0x06, 0x0B, 0x0C, 0x0D, 0x0E, 0x13, 0x19] t ∧
      s.keepsMem 0 0 t) ∧
  (∀ (s t : State), exec (.canopyGraceTimeout) s = .next t →
    t = { s with regs := t.regs, wide := t.wide, mem := t.mem, irqs := t.irqs, free := t.free, bridge := t.bridge, rings := t.rings, evr := t.evr, toks := t.toks, vlv := t.vlv, lsw := t.lsw, outs := t.outs, pan := t.pan, dram := t.dram, ter := t.ter, pwr := t.pwr, hlt := t.hlt } ∧
      s.keepsRegs [0x00, 0x03, 0x04, 0x06, 0x0B, 0x0C, 0x0E, 0x13, 0x19] t ∧
      s.keepsMem 0 0 t) ∧
  (∀ (s t : State) (agent : Agent) (value : W32), exec (.pwrreqGo agent value) s = .next t →
    t = { s with regs := t.regs, wide := t.wide, badParity := t.badParity, mem := t.mem, resp := t.resp, irqs := t.irqs, free := t.free, bridge := t.bridge, rings := t.rings, evr := t.evr, toks := t.toks, vlv := t.vlv, lsw := t.lsw, outs := t.outs, can := t.can, pan := t.pan, dram := t.dram, ter := t.ter, pwr := t.pwr, hlt := t.hlt } ∧
      s.keepsRegs [0x00, 0x03, 0x04, 0x06, 0x0B, 0x0C, 0x0D, 0x0E, 0x13, 0x19] t ∧
      s.keepsMem 0 0 t) ∧
  (∀ (s t : State) (agent : Agent) (value : W32), exec (.pwrreqTarget agent value) s = .next t →
    t = { s with regs := t.regs, wide := t.wide, badParity := t.badParity, mem := t.mem, resp := t.resp, irqs := t.irqs, free := t.free, bridge := t.bridge, rings := t.rings, evr := t.evr, toks := t.toks, vlv := t.vlv, lsw := t.lsw, outs := t.outs, can := t.can, pan := t.pan, dram := t.dram, ter := t.ter, pwr := t.pwr, hlt := t.hlt } ∧
      s.keepsRegs [0x00, 0x03, 0x04, 0x06, 0x0B, 0x0C, 0x0D, 0x0E, 0x13, 0x19] t ∧
      s.keepsMem 0 0 t) ∧
  (∀ (s t : State), exec (.ignitionRise) s = .next t →
    t = { s with regs := t.regs, rootRegs := t.rootRegs, wide := t.wide, mem := t.mem, irqs := t.irqs, free := t.free, bridge := t.bridge, rings := t.rings, evr := t.evr, toks := t.toks, vlv := t.vlv, lsw := t.lsw, outs := t.outs, can := t.can, pan := t.pan, dram := t.dram, ter := t.ter, pwr := t.pwr, hlt := t.hlt } ∧
      s.keepsRegs [0x00, 0x02, 0x03, 0x04, 0x06, 0x0B, 0x0C, 0x0D, 0x0E, 0x13, 0x19] t ∧
      s.keepsMem 0 0 t) ∧
  (∀ (s t : State) (since : Nat), exec (.ignitionOffTimeout since) s = .next t →
    t = { s with regs := t.regs, rootRegs := t.rootRegs, wide := t.wide, mem := t.mem, irqs := t.irqs, free := t.free, bridge := t.bridge, rings := t.rings, evr := t.evr, toks := t.toks, vlv := t.vlv, lsw := t.lsw, outs := t.outs, can := t.can, pan := t.pan, dram := t.dram, ter := t.ter, pwr := t.pwr, hlt := t.hlt } ∧
      s.keepsRegs [0x00, 0x02, 0x03, 0x04, 0x06, 0x0B, 0x0C, 0x0D, 0x0E, 0x13, 0x19] t ∧
      s.keepsMem 0 0 t) ∧
  (∀ (s t : State), exec (.sleepHold) s = .next t →
    t = { s with regs := t.regs, wide := t.wide, mem := t.mem, irqs := t.irqs, free := t.free, bridge := t.bridge, rings := t.rings, evr := t.evr, toks := t.toks, vlv := t.vlv, lsw := t.lsw, outs := t.outs, can := t.can, pan := t.pan, dram := t.dram, ter := t.ter, pwr := t.pwr, hlt := t.hlt } ∧
      s.keepsRegs [0x00, 0x03, 0x04, 0x06, 0x0B, 0x0C, 0x0D, 0x0E, 0x13, 0x19] t ∧
      s.keepsMem 0 0 t) ∧
  (∀ (s t : State) (c : Nat), exec (.keepawake c) s = .next t →
    t = { s with regs := t.regs, wide := t.wide, mem := t.mem, irqs := t.irqs, free := t.free, bridge := t.bridge, rings := t.rings, evr := t.evr, toks := t.toks, vlv := t.vlv, lsw := t.lsw, outs := t.outs, can := t.can, pan := t.pan, dram := t.dram, ter := t.ter, pwr := t.pwr, hlt := t.hlt } ∧
      s.keepsRegs [0x00, 0x03, 0x04, 0x06, 0x0B, 0x0C, 0x0D, 0x0E, 0x13, 0x19] t ∧
      s.keepsMem 0 0 t) ∧
  (∀ (s t : State), exec (.sleepHoldExpiry) s = .next t →
    t = { s with regs := t.regs, wide := t.wide, mem := t.mem, irqs := t.irqs, free := t.free, bridge := t.bridge, rings := t.rings, evr := t.evr, toks := t.toks, vlv := t.vlv, lsw := t.lsw, outs := t.outs, can := t.can, pan := t.pan, dram := t.dram, ter := t.ter, pwr := t.pwr, hlt := t.hlt } ∧
      s.keepsRegs [0x00, 0x03, 0x04, 0x06, 0x0B, 0x0C, 0x0D, 0x0E, 0x13, 0x19] t ∧
      s.keepsMem 0 0 t) ∧
  (∀ (s t : State), exec (.sleepWaitExpiry) s = .next t →
    t = { s with regs := t.regs, wide := t.wide, mem := t.mem, irqs := t.irqs, free := t.free, bridge := t.bridge, rings := t.rings, evr := t.evr, toks := t.toks, vlv := t.vlv, lsw := t.lsw, outs := t.outs, pan := t.pan, dram := t.dram, ter := t.ter, pwr := t.pwr, hlt := t.hlt } ∧
      s.keepsRegs [0x00, 0x03, 0x04, 0x06, 0x0B, 0x0C, 0x0E, 0x13, 0x19] t ∧
      s.keepsMem 0 0 t) ∧
  (∀ (s t : State) (c : Nat), exec (.lateWake c) s = .next t →
    t = { s with regs := t.regs, wide := t.wide, mem := t.mem, irqs := t.irqs, free := t.free, bridge := t.bridge, rings := t.rings, evr := t.evr, toks := t.toks, vlv := t.vlv, lsw := t.lsw, outs := t.outs, can := t.can, pan := t.pan, dram := t.dram, ter := t.ter, pwr := t.pwr, hlt := t.hlt } ∧
      s.keepsRegs [0x00, 0x03, 0x04, 0x06, 0x0B, 0x0C, 0x0D, 0x0E, 0x13, 0x19] t ∧
      s.keepsMem 0 0 t) ∧
  (∀ (s t : State), exec (.buttonStuck) s = .next t →
    t = { s with regs := t.regs, rootRegs := t.rootRegs, irqs := t.irqs, evr := t.evr } ∧
      s.keepsRegs [0x02, 0x04] t) ∧
  (∀ (s t : State), exec (.thermalShed) s = .next t →
    t = { s with regs := t.regs, wide := t.wide, mem := t.mem, irqs := t.irqs, free := t.free, bridge := t.bridge, rings := t.rings, evr := t.evr, toks := t.toks, vlv := t.vlv, lsw := t.lsw, outs := t.outs, pan := t.pan, dram := t.dram, ter := t.ter, pwr := t.pwr, hlt := t.hlt } ∧
      s.keepsRegs [0x00, 0x03, 0x04, 0x06, 0x0B, 0x0C, 0x0E, 0x13, 0x19] t ∧
      s.keepsMem 0 0 t) ∧
  (∀ (s t : State), exec (.thermalReturn) s = .next t →
    t = { s with regs := t.regs, wide := t.wide, mem := t.mem, irqs := t.irqs, free := t.free, bridge := t.bridge, rings := t.rings, evr := t.evr, toks := t.toks, vlv := t.vlv, lsw := t.lsw, outs := t.outs, can := t.can, pan := t.pan, dram := t.dram, ter := t.ter, pwr := t.pwr, hlt := t.hlt } ∧
      s.keepsRegs [0x00, 0x03, 0x04, 0x06, 0x0B, 0x0C, 0x0D, 0x0E, 0x13, 0x19] t ∧
      s.keepsMem 0 0 t) ∧
  (∀ (s t : State) (mv : Nat) (dq : Int) (saveOk : Bool), exec (.cellMeasure mv dq saveOk) s = .next t →
    t = { s with rootOn := t.rootOn, regs := t.regs, rootRegs := t.rootRegs, wide := t.wide, mem := t.mem, resp := t.resp, irqs := t.irqs, free := t.free, bridge := t.bridge, rings := t.rings, mbxStage := t.mbxStage, held := t.held, mbxOwed := t.mbxOwed, evr := t.evr, toks := t.toks, gns := t.gns, pan := t.pan, dram := t.dram, ter := t.ter, pwr := t.pwr, hlt := t.hlt, upd := t.upd } ∧
      s.keepsRegs [0x00, 0x02, 0x03, 0x04, 0x05, 0x06, 0x07, 0x09, 0x13] t) ∧
  (∀ (s t : State) (ok : Bool), exec (.rootSave ok) s = .next t →
    t = { s with regs := t.regs, rootRegs := t.rootRegs, wide := t.wide, mem := t.mem, resp := t.resp, irqs := t.irqs, free := t.free, bridge := t.bridge, rings := t.rings, mbxStage := t.mbxStage, held := t.held, mbxOwed := t.mbxOwed, evr := t.evr, toks := t.toks, gns := t.gns, pan := t.pan, dram := t.dram, ter := t.ter, pwr := t.pwr, hlt := t.hlt, upd := t.upd } ∧
      s.keepsRegs [0x00, 0x02, 0x03, 0x04, 0x05, 0x06, 0x07, 0x09, 0x13] t) ∧
  (∀ (s t : State) (agent : Agent), exec (.rtdSaveNow agent) s = .next t →
    t = { s with regs := t.regs, latches := t.latches, resp := t.resp, irqs := t.irqs } ∧
      s.keepsRegs [0x00, 0x02] t) ∧
  (∀ (s t : State) (agent : Agent) (value : W32), exec (.rtdCalload agent value) s = .next t →
    t = { s with regs := t.regs, latches := t.latches, resp := t.resp, irqs := t.irqs } ∧
      s.keepsRegs [0x00, 0x02] t) ∧
  (∀ (s t : State), exec (.rootPowerOn) s = .next t →
    t = { s with rootOn := t.rootOn, rootRegs := t.rootRegs, latches := t.latches, wide := t.wide, evr := t.evr, outs := t.outs, pwr := t.pwr, upd := t.upd } ∧
      s.keepsRegs [0x02] t) ∧
  (∀ (s t : State) (res : Nat) (found : Bool) (part : Nat) (bad : List Nat), exec (.selfTest res found part bad) s = .next t →
    t = { s with regs := t.regs, rootRegs := t.rootRegs, wide := t.wide, badParity := t.badParity, mem := t.mem, resp := t.resp, irqs := t.irqs, free := t.free, bridge := t.bridge, rings := t.rings, mbxStage := t.mbxStage, held := t.held, mbxOwed := t.mbxOwed, evr := t.evr, toks := t.toks, gns := t.gns, vlv := t.vlv, lsw := t.lsw, outs := t.outs, pan := t.pan, dram := t.dram, ter := t.ter, pwr := t.pwr, hlt := t.hlt, upd := t.upd }) ∧
  (∀ (s t : State) (agent : Agent) (n : Nat), exec (.heartbeat agent n) s = .next t →
    t = { s with regs := t.regs, resp := t.resp, irqs := t.irqs, hlt := t.hlt } ∧
      s.keepsRegs [0x00, 0x03] t) ∧
  (∀ (s t : State) (n : Nat), exec (.heartbeatTimeout n) s = .next t →
    t = { s with regs := t.regs, wide := t.wide, mem := t.mem, resp := t.resp, irqs := t.irqs, bridge := t.bridge, rings := t.rings, held := t.held, mbxOwed := t.mbxOwed, evr := t.evr, toks := t.toks, dram := t.dram, hlt := t.hlt, upd := t.upd } ∧
      s.keepsRegs [0x03, 0x04, 0x05, 0x06, 0x07, 0x09] t ∧
      s.keepsMem 0 0 t) ∧
  (∀ (s t : State) (agent : Agent) (n : Nat), exec (.daleDeclareFail agent n) s = .next t →
    t = { s with regs := t.regs, rootRegs := t.rootRegs, wide := t.wide, mem := t.mem, resp := t.resp, irqs := t.irqs, free := t.free, bridge := t.bridge, rings := t.rings, mbxStage := t.mbxStage, held := t.held, mbxOwed := t.mbxOwed, evr := t.evr, toks := t.toks, gns := t.gns, pan := t.pan, dram := t.dram, ter := t.ter, pwr := t.pwr, hlt := t.hlt, upd := t.upd } ∧
      s.keepsRegs [0x00, 0x02, 0x03, 0x04, 0x05, 0x06, 0x07, 0x09, 0x13] t) ∧
  (∀ (s t : State) (agent : Agent) (n : Nat) (value : W32), exec (.daleReadyWrite agent n value) s = .next t →
    t = { s with regs := t.regs, rootRegs := t.rootRegs, wide := t.wide, mem := t.mem, resp := t.resp, irqs := t.irqs, free := t.free, bridge := t.bridge, rings := t.rings, mbxStage := t.mbxStage, held := t.held, mbxOwed := t.mbxOwed, evr := t.evr, toks := t.toks, gns := t.gns, pan := t.pan, dram := t.dram, ter := t.ter, pwr := t.pwr, hlt := t.hlt, upd := t.upd } ∧
      s.keepsRegs [0x00, 0x02, 0x03, 0x04, 0x05, 0x06, 0x07, 0x09, 0x13] t) ∧
  (∀ (s t : State) (agent : Agent) (k : Nat) (value : W32), exec (.comparisonWrite agent k value) s = .next t →
    t = { s with regs := t.regs, wide := t.wide, mem := t.mem, resp := t.resp, irqs := t.irqs, bridge := t.bridge, rings := t.rings, evr := t.evr, dram := t.dram, hlt := t.hlt } ∧
      s.keepsRegs [0x00, 0x03, 0x04, 0x06] t ∧
      s.keepsMem 0 0 t) ∧
  (∀ (s t : State) (agent : Agent) (n : Nat) (value : W32) (finish : Bool), exec (.mirrorRegionEnable agent n value finish) s = .next t →
    t = { s with regs := t.regs, badParity := t.badParity, mem := t.mem, resp := t.resp, irqs := t.irqs, dram := t.dram, hlt := t.hlt } ∧
      s.keepsRegs [0x00, 0x03] t) ∧
  (∀ (s t : State), exec (.handover) s = .next t →
    t = { s with regs := t.regs, wide := t.wide, mem := t.mem, resp := t.resp, irqs := t.irqs, bridge := t.bridge, rings := t.rings, mbxStage := t.mbxStage, toks := t.toks, dram := t.dram, hlt := t.hlt, upd := t.upd } ∧
      s.keepsRegs [0x03, 0x05, 0x06, 0x07] t ∧
      s.keepsMem 0 0 t) ∧
  (∀ (s t : State), exec (.handoverSwitch) s = .next t →
    t = { s with regs := t.regs, rootRegs := t.rootRegs, wide := t.wide, badParity := t.badParity, mem := t.mem, resp := t.resp, irqs := t.irqs, free := t.free, bridge := t.bridge, rings := t.rings, mbxStage := t.mbxStage, held := t.held, mbxOwed := t.mbxOwed, evr := t.evr, toks := t.toks, gns := t.gns, pan := t.pan, dram := t.dram, ter := t.ter, pwr := t.pwr, hlt := t.hlt, upd := t.upd } ∧
      s.keepsRegs [0x00, 0x02, 0x03, 0x04, 0x05, 0x06, 0x07, 0x09, 0x11, 0x13] t) ∧
  (∀ (s t : State), exec (.handoverPrepareTimeout) s = .next t →
    t = { s with regs := t.regs, rootRegs := t.rootRegs, wide := t.wide, badParity := t.badParity, mem := t.mem, resp := t.resp, irqs := t.irqs, free := t.free, bridge := t.bridge, rings := t.rings, mbxStage := t.mbxStage, held := t.held, mbxOwed := t.mbxOwed, evr := t.evr, toks := t.toks, gns := t.gns, pan := t.pan, dram := t.dram, ter := t.ter, pwr := t.pwr, hlt := t.hlt, upd := t.upd } ∧
      s.keepsRegs [0x00, 0x02, 0x03, 0x04, 0x05, 0x06, 0x07, 0x09, 0x11, 0x13] t) ∧
  (∀ (s t : State), exec (.testCmd) s = .next t →
    t = { s with regs := t.regs, wide := t.wide, mem := t.mem, irqs := t.irqs, bridge := t.bridge, rings := t.rings, dram := t.dram, hlt := t.hlt } ∧
      s.keepsRegs [0x03, 0x06] t ∧
      s.keepsMem 0 0 t) ∧
  (∀ (s t : State), exec (.toktake) s = .next t →
    t = { s with regs := t.regs, wide := t.wide, mem := t.mem, irqs := t.irqs, bridge := t.bridge, rings := t.rings, toks := t.toks, dram := t.dram, hlt := t.hlt } ∧
      s.keepsRegs [0x03, 0x06] t ∧
      s.keepsMem 0 0 t) ∧
  (∀ (s t : State), exec (.tokgive) s = .next t →
    t = { s with regs := t.regs, rootRegs := t.rootRegs, wide := t.wide, badParity := t.badParity, mem := t.mem, resp := t.resp, irqs := t.irqs, free := t.free, bridge := t.bridge, rings := t.rings, mbxStage := t.mbxStage, held := t.held, mbxOwed := t.mbxOwed, evr := t.evr, toks := t.toks, gns := t.gns, pan := t.pan, dram := t.dram, ter := t.ter, pwr := t.pwr, hlt := t.hlt, upd := t.upd } ∧
      s.keepsRegs [0x00, 0x02, 0x03, 0x04, 0x05, 0x06, 0x07, 0x09, 0x11, 0x13] t) ∧
  (∀ (s t : State) (sig : Bool) (fail : Option (Bool × Nat)), exec (.stage sig fail) s = .next t →
    t = { s with regs := t.regs, wide := t.wide, mem := t.mem, resp := t.resp, irqs := t.irqs, bridge := t.bridge, rings := t.rings, dram := t.dram, hlt := t.hlt, upd := t.upd } ∧
      s.keepsRegs [0x03, 0x05, 0x06] t ∧
      s.keepsMem 0 0 t) ∧
  (∀ (s t : State) (icFail : List Nat), exec (.apply icFail) s = .next t →
    t = { s with regs := t.regs, rootRegs := t.rootRegs, wide := t.wide, mem := t.mem, resp := t.resp, irqs := t.irqs, free := t.free, bridge := t.bridge, rings := t.rings, mbxStage := t.mbxStage, held := t.held, mbxOwed := t.mbxOwed, evr := t.evr, toks := t.toks, gns := t.gns, pan := t.pan, dram := t.dram, ter := t.ter, pwr := t.pwr, hlt := t.hlt, upd := t.upd } ∧
      s.keepsRegs [0x00, 0x02, 0x03, 0x04, 0x05, 0x06, 0x07, 0x09, 0x13] t) ∧
  (∀ (s t : State), exec (.abortCmd) s = .next t →
    t = { s with regs := t.regs, rootRegs := t.rootRegs, wide := t.wide, mem := t.mem, resp := t.resp, irqs := t.irqs, free := t.free, bridge := t.bridge, rings := t.rings, mbxStage := t.mbxStage, held := t.held, mbxOwed := t.mbxOwed, evr := t.evr, toks := t.toks, gns := t.gns, pan := t.pan, dram := t.dram, ter := t.ter, pwr := t.pwr, hlt := t.hlt, upd := t.upd } ∧
      s.keepsRegs [0x00, 0x02, 0x03, 0x04, 0x05, 0x06, 0x07, 0x09, 0x13] t) ∧
  (∀ (s t : State), exec (.cfgread) s = .next t →
    t = { s with regs := t.regs, wide := t.wide, mem := t.mem, irqs := t.irqs, bridge := t.bridge, rings := t.rings, dram := t.dram, hlt := t.hlt } ∧
      s.keepsRegs [0x03, 0x06] t ∧
      (∀ d, s.running 64 4 = some d → s.keepsMem (d.le 24 8) (d.le 32 4) t)) ∧
  (∀ (s t : State), exec (.cfgwrite) s = .next t →
    t = { s with regs := t.regs, wide := t.wide, mem := t.mem, irqs := t.irqs, bridge := t.bridge, rings := t.rings, evr := t.evr, dram := t.dram, hlt := t.hlt, upd := t.upd } ∧
      s.keepsRegs [0x03, 0x04, 0x05, 0x06] t ∧
      s.keepsMem 0 0 t) ∧
  (∀ (s t : State) (agent : Agent) (value : W32) (saveOk : Bool), exec (.confirm agent value saveOk) s = .next t →
    t = { s with regs := t.regs, rootRegs := t.rootRegs, wide := t.wide, mem := t.mem, resp := t.resp, irqs := t.irqs, free := t.free, bridge := t.bridge, rings := t.rings, mbxStage := t.mbxStage, held := t.held, mbxOwed := t.mbxOwed, evr := t.evr, toks := t.toks, gns := t.gns, pan := t.pan, dram := t.dram, ter := t.ter, pwr := t.pwr, hlt := t.hlt, upd := t.upd } ∧
      s.keepsRegs [0x00, 0x02, 0x03, 0x04, 0x05, 0x06, 0x07, 0x09, 0x13] t) ∧
  (∀ (s t : State) (agent : Agent) (value : W32), exec (.declareFailure agent value) s = .next t →
    t = { s with regs := t.regs, rootRegs := t.rootRegs, wide := t.wide, mem := t.mem, resp := t.resp, irqs := t.irqs, free := t.free, bridge := t.bridge, rings := t.rings, mbxStage := t.mbxStage, held := t.held, mbxOwed := t.mbxOwed, evr := t.evr, toks := t.toks, gns := t.gns, pan := t.pan, dram := t.dram, ter := t.ter, pwr := t.pwr, hlt := t.hlt, upd := t.upd } ∧
      s.keepsRegs [0x00, 0x02, 0x03, 0x04, 0x05, 0x06, 0x07, 0x09, 0x13] t) ∧
  (∀ (s t : State) (u : Nat), exec (.probationExpiry u) s = .next t →
    t = { s with regs := t.regs, wide := t.wide, mem := t.mem, resp := t.resp, irqs := t.irqs, free := t.free, bridge := t.bridge, rings := t.rings, held := t.held, mbxOwed := t.mbxOwed, evr := t.evr, toks := t.toks, gns := t.gns, pan := t.pan, dram := t.dram, ter := t.ter, hlt := t.hlt, upd := t.upd } ∧
      s.keepsRegs [0x03, 0x04, 0x05, 0x06, 0x07, 0x09, 0x13] t) ∧
  (∀ (s t : State) (failed : List Nat), exec (.deferredFstableWrite failed) s = .next t →
    t = { s with regs := t.regs, wide := t.wide, mem := t.mem, irqs := t.irqs, free := t.free, bridge := t.bridge, rings := t.rings, evr := t.evr, toks := t.toks, vlv := t.vlv, lsw := t.lsw, outs := t.outs, can := t.can, pan := t.pan, dram := t.dram, ter := t.ter, pwr := t.pwr, hlt := t.hlt, upd := t.upd } ∧
      s.keepsRegs [0x00, 0x03, 0x04, 0x05, 0x06, 0x0B, 0x0C, 0x0D, 0x0E, 0x13, 0x19] t ∧
      s.keepsMem 0 0 t) ∧
  (∀ (s t : State) (cut : Bool), exec (.eventRecordWrite cut) s = .next t →
    t = { s with regs := t.regs, irqs := t.irqs, evr := t.evr } ∧
      s.keepsRegs [0x04] t) ∧
  (∀ (s t : State) (sev : Nat), exec (.bucketRefill sev) s = .next t →
    t = { s with evr := t.evr }) ∧
  (∀ (s t : State) (agent : Agent) (value : W32), exec (.swrecCommit agent value) s = .next t →
    t = { s with regs := t.regs, banks := t.banks, resp := t.resp, irqs := t.irqs, evr := t.evr } ∧
      s.keepsRegs [0x00, 0x04] t) ∧
  (∀ (s t : State) (agent : Agent), exec (.fetch agent) s = .next t →
    t = { s with regs := t.regs, banks := t.banks, resp := t.resp, irqs := t.irqs } ∧
      s.keepsRegs [0x00, 0x04] t) ∧
  (∀ (s t : State) (event sev : Nat) (p0 p1 p2 : Nat), exec (.rootEventRecord event sev p0 p1 p2) s = .next t →
    t = { s with regs := t.regs, irqs := t.irqs, evr := t.evr } ∧
      s.keepsRegs [0x04] t) ∧
  (∀ (s t : State) (n core : Nat) (unc tagState : Bool), exec (.daleCacheError n core unc tagState) s = .next t →
    t = { s with regs := t.regs, wide := t.wide, mem := t.mem, resp := t.resp, irqs := t.irqs, bridge := t.bridge, rings := t.rings, held := t.held, mbxOwed := t.mbxOwed, evr := t.evr, toks := t.toks, dram := t.dram, hlt := t.hlt, upd := t.upd } ∧
      s.keepsRegs [0x03, 0x04, 0x05, 0x06, 0x07, 0x09] t ∧
      s.keepsMem 0 0 t) ∧
  (∀ (s t : State) (res : Nat) (corrected : Bool), exec (.engineCheckError res corrected) s = .next t →
    t = { s with regs := t.regs, wide := t.wide, mem := t.mem, irqs := t.irqs, bridge := t.bridge, rings := t.rings, evr := t.evr, fur := t.fur, dram := t.dram, hlt := t.hlt } ∧
      s.keepsRegs [0x03, 0x04, 0x06, 0x0A, 0x11] t ∧
      s.keepsMem (0) 0 t) ∧
  (∀ (s t : State) (up : Bool) (gen width : Nat), exec (.endpointLinkChange up gen width) s = .next t →
    t = { s with regs := t.regs, irqs := t.irqs, mbxOwed := t.mbxOwed } ∧
      s.keepsRegs [0x07, 0x14] t) ∧
  (∀ (s t : State) (n : Nat) (rising : Bool), exec (.wakeInputEdge n rising) s = .next t →
    t = { s with regs := t.regs, rootRegs := t.rootRegs, wide := t.wide, mem := t.mem, irqs := t.irqs, free := t.free, bridge := t.bridge, rings := t.rings, evr := t.evr, toks := t.toks, vlv := t.vlv, lsw := t.lsw, outs := t.outs, can := t.can, pan := t.pan, dram := t.dram, ter := t.ter, pwr := t.pwr, hlt := t.hlt } ∧
      s.keepsRegs [0x00, 0x02, 0x03, 0x04, 0x06, 0x0B, 0x0C, 0x0D, 0x0E, 0x13, 0x19] t ∧
      s.keepsMem 0 0 t) ∧
  (∀ (s t : State) (c : Nat), exec (.tokenHeldOneHour c) s = .next t →
    t = { s with regs := t.regs, irqs := t.irqs, evr := t.evr, toks := t.toks } ∧
      s.keepsRegs [0x03, 0x04] t) ∧
  (∀ (s t : State), exec (.buttonUnmask) s = .next t →
    t = { s with rootRegs := t.rootRegs })

/-- What a register write leaves unchanged, block by block. A REGISTER_WRITE outside the register space, or of an unaccepted width or alignment, changes only the response. One to a block other than SYS changes only the fields of the state its clause lists, and only registers and 64-bit counters of the blocks it lists. (R5, R64, R67, R70, R72) -/
def Obligations.RegisterWriteFrames : Prop :=
  (∀ (s : State) (a : Agent) (addr size v : Nat), regTarget a addr size = none → exec (.registerWrite a addr size v) s = .next (s.failFor a)) ∧
  (∀ (s t : State) (a : Agent) (addr size v off : Nat), regTarget a addr size = some (0x01, off) → exec (.registerWrite a addr size v) s = .next t →
    t = { s with regs := t.regs, banks := t.banks, badParity := t.badParity, resp := t.resp, irqs := t.irqs, tim := t.tim } ∧
      s.keepsRegs [0x00, 0x01] t) ∧
  (∀ (s t : State) (a : Agent) (addr size v off : Nat), regTarget a addr size = some (0x02, off) → exec (.registerWrite a addr size v) s = .next t →
    t = { s with regs := t.regs, latches := t.latches, banks := t.banks, badParity := t.badParity, resp := t.resp, irqs := t.irqs } ∧
      s.keepsRegs [0x00, 0x02] t) ∧
  (∀ (s t : State) (a : Agent) (addr size v off : Nat), regTarget a addr size = some (0x03, off) → exec (.registerWrite a addr size v) s = .next t →
    t = { s with regs := t.regs, rootRegs := t.rootRegs, wide := t.wide, banks := t.banks, badParity := t.badParity, mem := t.mem, resp := t.resp, irqs := t.irqs, free := t.free, bridge := t.bridge, rings := t.rings, mbxStage := t.mbxStage, held := t.held, mbxOwed := t.mbxOwed, evr := t.evr, toks := t.toks, gns := t.gns, pan := t.pan, dram := t.dram, ter := t.ter, pwr := t.pwr, hlt := t.hlt, upd := t.upd } ∧
      s.keepsRegs [0x00, 0x02, 0x03, 0x04, 0x05, 0x06, 0x07, 0x09, 0x13] t) ∧
  (∀ (s t : State) (a : Agent) (addr size v off : Nat), regTarget a addr size = some (0x04, off) → exec (.registerWrite a addr size v) s = .next t →
    t = { s with regs := t.regs, banks := t.banks, badParity := t.badParity, resp := t.resp, irqs := t.irqs, evr := t.evr } ∧
      s.keepsRegs [0x00, 0x04] t) ∧
  (∀ (s t : State) (a : Agent) (addr size v off : Nat), regTarget a addr size = some (0x05, off) → exec (.registerWrite a addr size v) s = .next t →
    t = { s with regs := t.regs, rootRegs := t.rootRegs, wide := t.wide, banks := t.banks, badParity := t.badParity, mem := t.mem, resp := t.resp, irqs := t.irqs, free := t.free, bridge := t.bridge, rings := t.rings, mbxStage := t.mbxStage, held := t.held, mbxOwed := t.mbxOwed, evr := t.evr, toks := t.toks, gns := t.gns, pan := t.pan, dram := t.dram, ter := t.ter, pwr := t.pwr, hlt := t.hlt, upd := t.upd } ∧
      s.keepsRegs [0x00, 0x02, 0x03, 0x04, 0x05, 0x06, 0x07, 0x09, 0x13] t) ∧
  (∀ (s t : State) (a : Agent) (addr size v off : Nat), regTarget a addr size = some (0x06, off) → exec (.registerWrite a addr size v) s = .next t →
    t = { s with regs := t.regs, banks := t.banks, badParity := t.badParity, resp := t.resp, irqs := t.irqs, rings := t.rings } ∧
      s.keepsRegs [0x00, 0x06] t) ∧
  (∀ (s t : State) (a : Agent) (addr size v off : Nat), regTarget a addr size = some (0x07, off) → exec (.registerWrite a addr size v) s = .next t →
    t = { s with regs := t.regs, banks := t.banks, badParity := t.badParity, resp := t.resp, irqs := t.irqs, mbxStage := t.mbxStage } ∧
      s.keepsRegs [0x00, 0x07] t) ∧
  (∀ (s t : State) (a : Agent) (addr size v off : Nat), regTarget a addr size = some (0x08, off) → exec (.registerWrite a addr size v) s = .next t →
    t = { s with regs := t.regs, wide := t.wide, banks := t.banks, badParity := t.badParity, mem := t.mem, resp := t.resp, irqs := t.irqs, bridge := t.bridge, rings := t.rings, ing := t.ing, dram := t.dram, hlt := t.hlt } ∧
      s.keepsRegs [0x00, 0x03, 0x06, 0x08] t) ∧
  (∀ (s t : State) (a : Agent) (addr size v off : Nat), regTarget a addr size = some (0x09, off) → exec (.registerWrite a addr size v) s = .next t →
    t = { s with regs := t.regs, wide := t.wide, banks := t.banks, badParity := t.badParity, mem := t.mem, resp := t.resp, irqs := t.irqs, free := t.free, bridge := t.bridge, rings := t.rings, evr := t.evr, trl := t.trl, vlv := t.vlv, lsw := t.lsw, dram := t.dram, hlt := t.hlt, upd := t.upd } ∧
      s.keepsRegs [0x00, 0x03, 0x04, 0x06, 0x09, 0x0B, 0x0C] t ∧
      s.keepsMem 0 0 t) ∧
  (∀ (s t : State) (a : Agent) (addr size v off : Nat), regTarget a addr size = some (0x0A, off) → exec (.registerWrite a addr size v) s = .next t →
    t = { s with regs := t.regs, wide := t.wide, banks := t.banks, badParity := t.badParity, mem := t.mem, resp := t.resp, irqs := t.irqs, free := t.free, bridge := t.bridge, rings := t.rings, evr := t.evr, toks := t.toks, fur := t.fur, vlv := t.vlv, lsw := t.lsw, dram := t.dram, hlt := t.hlt, upd := t.upd } ∧
      s.keepsRegs [0x00, 0x03, 0x04, 0x05, 0x06, 0x0A, 0x0B, 0x0C] t) ∧
  (∀ (s t : State) (a : Agent) (addr size v off : Nat), regTarget a addr size = some (0x0B, off) → exec (.registerWrite a addr size v) s = .next t →
    t = { s with regs := t.regs, wide := t.wide, banks := t.banks, badParity := t.badParity, mem := t.mem, resp := t.resp, irqs := t.irqs, free := t.free, bridge := t.bridge, rings := t.rings, evr := t.evr, vlv := t.vlv, lsw := t.lsw, outs := t.outs, dram := t.dram, hlt := t.hlt } ∧
      s.keepsRegs [0x00, 0x03, 0x04, 0x06, 0x0B, 0x0C] t ∧
      s.keepsMem 0 0 t) ∧
  (∀ (s t : State) (a : Agent) (addr size v off : Nat), regTarget a addr size = some (0x0C, off) → exec (.registerWrite a addr size v) s = .next t →
    t = { s with regs := t.regs, wide := t.wide, banks := t.banks, badParity := t.badParity, mem := t.mem, resp := t.resp, irqs := t.irqs, free := t.free, bridge := t.bridge, rings := t.rings, evr := t.evr, vlv := t.vlv, lsw := t.lsw, outs := t.outs, dram := t.dram, hlt := t.hlt } ∧
      s.keepsRegs [0x00, 0x03, 0x04, 0x06, 0x0B, 0x0C] t ∧
      s.keepsMem 0 0 t) ∧
  (∀ (s t : State) (a : Agent) (addr size v off : Nat), regTarget a addr size = some (0x0D, off) → exec (.registerWrite a addr size v) s = .next t →
    t = { s with regs := t.regs, wide := t.wide, banks := t.banks, badParity := t.badParity, mem := t.mem, resp := t.resp, irqs := t.irqs, bridge := t.bridge, rings := t.rings, can := t.can, dram := t.dram, hlt := t.hlt } ∧
      s.keepsRegs [0x00, 0x03, 0x06, 0x0D] t ∧
      s.keepsMem 0 0 t) ∧
  (∀ (s t : State) (a : Agent) (addr size v off : Nat), regTarget a addr size = some (0x0E, off) → exec (.registerWrite a addr size v) s = .next t →
    t = { s with regs := t.regs, wide := t.wide, banks := t.banks, badParity := t.badParity, mem := t.mem, resp := t.resp, irqs := t.irqs, bridge := t.bridge, rings := t.rings, pan := t.pan, dram := t.dram, hlt := t.hlt } ∧
      s.keepsRegs [0x00, 0x03, 0x06, 0x0E, 0x19] t ∧
      s.keepsMem 0 0 t) ∧
  (∀ (s t : State) (a : Agent) (addr size v off : Nat), regTarget a addr size = some (0x10, off) → exec (.registerWrite a addr size v) s = .next t →
    t = { s with regs := t.regs, wide := t.wide, banks := t.banks, badParity := t.badParity, resp := t.resp, irqs := t.irqs, fab := t.fab } ∧
      s.keepsRegs [0x00, 0x06, 0x10] t) ∧
  (∀ (s t : State) (a : Agent) (addr size v off : Nat), regTarget a addr size = some (0x11, off) → exec (.registerWrite a addr size v) s = .next t →
    t = { s with regs := t.regs, wide := t.wide, banks := t.banks, badParity := t.badParity, mem := t.mem, resp := t.resp, irqs := t.irqs, fab := t.fab, bridge := t.bridge, rings := t.rings, evr := t.evr, toks := t.toks, dram := t.dram, hlt := t.hlt } ∧
      s.keepsRegs [0x00, 0x03, 0x04, 0x06, 0x10, 0x11] t) ∧
  (∀ (s t : State) (a : Agent) (addr size v off : Nat), regTarget a addr size = some (0x12, off) → exec (.registerWrite a addr size v) s = .next t →
    t = { s with regs := t.regs, wide := t.wide, banks := t.banks, badParity := t.badParity, resp := t.resp, irqs := t.irqs, fab := t.fab, nand := t.nand } ∧
      s.keepsRegs [0x00, 0x10, 0x12] t) ∧
  (∀ (s t : State) (a : Agent) (addr size v off : Nat), regTarget a addr size = some (0x13, off) → exec (.registerWrite a addr size v) s = .next t →
    t = { s with regs := t.regs, wide := t.wide, banks := t.banks, badParity := t.badParity, mem := t.mem, resp := t.resp, irqs := t.irqs, free := t.free, fab := t.fab, bridge := t.bridge, rings := t.rings, held := t.held, toks := t.toks, eth := t.eth, dram := t.dram, ter := t.ter, hlt := t.hlt } ∧
      s.keepsRegs [0x00, 0x03, 0x06, 0x10, 0x13] t) ∧
  (∀ (s t : State) (a : Agent) (addr size v off : Nat), regTarget a addr size = some (0x14, off) → exec (.registerWrite a addr size v) s = .next t →
    t = { s with regs := t.regs, wide := t.wide, banks := t.banks, badParity := t.badParity, resp := t.resp, irqs := t.irqs, fab := t.fab, mbxOwed := t.mbxOwed } ∧
      s.keepsRegs [0x00, 0x07, 0x10, 0x14] t) ∧
  (∀ (s t : State) (a : Agent) (addr size v off : Nat), regTarget a addr size = some (0x15, off) → exec (.registerWrite a addr size v) s = .next t →
    t = { s with regs := t.regs, wide := t.wide, banks := t.banks, badParity := t.badParity, mem := t.mem, resp := t.resp, irqs := t.irqs, fab := t.fab, bridge := t.bridge, rings := t.rings, eth := t.eth, dram := t.dram, hlt := t.hlt } ∧
      s.keepsRegs [0x00, 0x03, 0x06, 0x10, 0x15] t ∧
      s.keepsMem 0 0 t) ∧
  (∀ (s t : State) (a : Agent) (addr size v off : Nat), regTarget a addr size = some (0x16, off) → exec (.registerWrite a addr size v) s = .next t →
    t = { s with regs := t.regs, wide := t.wide, banks := t.banks, badParity := t.badParity, resp := t.resp, irqs := t.irqs, fab := t.fab, gns := t.gns } ∧
      s.keepsRegs [0x00, 0x10, 0x16] t) ∧
  (∀ (s t : State) (a : Agent) (addr size v off : Nat), regTarget a addr size = some (0x17, off) → exec (.registerWrite a addr size v) s = .next t →
    t = { s with regs := t.regs, wide := t.wide, banks := t.banks, badParity := t.badParity, resp := t.resp, irqs := t.irqs, fab := t.fab, cam := t.cam } ∧
      s.keepsRegs [0x00, 0x10, 0x17] t) ∧
  (∀ (s t : State) (a : Agent) (addr size v off : Nat), regTarget a addr size = some (0x18, off) → exec (.registerWrite a addr size v) s = .next t →
    t = { s with regs := t.regs, wide := t.wide, banks := t.banks, badParity := t.badParity, mem := t.mem, resp := t.resp, irqs := t.irqs, fab := t.fab, bridge := t.bridge, rings := t.rings, pra := t.pra, prod := t.prod, dram := t.dram, hlt := t.hlt } ∧
      s.keepsRegs [0x00, 0x03, 0x06, 0x10, 0x18] t) ∧
  (∀ (s t : State) (a : Agent) (addr size v off : Nat), regTarget a addr size = some (0x19, off) → exec (.registerWrite a addr size v) s = .next t →
    t = { s with regs := t.regs, wide := t.wide, banks := t.banks, badParity := t.badParity, resp := t.resp, irqs := t.irqs, fab := t.fab, cam := t.cam, pan := t.pan } ∧
      s.keepsRegs [0x00, 0x10, 0x19] t)
end

