-- ==== Sys2Proof/Laws/Exec.lean ====
section
/-! SUPPORT. Every command completes: no command of this block faults or is refused. -/

namespace Sys2Proof.Machine

/-- Every command answers a next state. -/
theorem exec_next (c : Instr) (s : State) : ∃ t, exec c s = .next t := by
  cases c <;> exact ⟨_, rfl⟩

/-- Every step answers a next state. -/
theorem step_next (s : State) : ∃ t, step s = .next t := by
  unfold step
  split
  · exact exec_next _ _
  · exact ⟨_, rfl⟩

/-- A step with a command in front is that command on the state with the rest of the queue. -/
theorem step_cons (c : Instr) (rest : List Instr) (s : State) (h : s.pending = c :: rest) : step s = exec c { s with pending := rest } := by
  simp only [step, h]

/-- A step on an empty queue lets time pass. -/
theorem step_nil (s : State) (h : s.pending = []) : step s = .next s.tick := by
  simp only [step, h]

end Sys2Proof.Machine
end

