-- ==== Sys2Proof/Laws/Frame.lean ====
section
/-! SUPPORT. What the shared operations leave unchanged of the module: what is fused, the powered domains, Sundial time and the waiting
commands (`State.frame`). One lemma per operation, citing those of the operations it calls. -/

namespace Sys2Proof.Machine

set_option linter.unusedSimpArgs false

@[simp] theorem State.frame_with (s : State) (regs : SMap W32) (rootRegs : SMap W32) (latches : List Latch) (wide : SMap Nat) (banks : SMap W32) (badParity : List Nat) (mem : Memory) (resp : Resp) (irqs : List Irq) (free : Nat) (fab : Fab) (bridge : Bridge) (rings : SMap Ring) (mbxStage : SMap W32) (held : List Nat) (mbxOwed : List (Nat × Nat)) (evr : Evr) (tim : Timing) (toks : SMap Token) (ing : Ingest) (cam : Camera) (pra : Prairie) (prod : Products) (gns : Gnss) (trl : Trellis) (fur : Furrow) (vlv : Valves) (lsw : Switches) (outs : Outs) (can : Cans) (eth : Eth) (pan : Panel) (dram : Dram) (nand : Nand) (traps : SMap CoreTrap) (ter : Terrace) (pce : Pce) (pwr : Pwr) (hlt : Health) (upd : Upd) :
    State.frame (State.mk s.code s.hwrev s.rootOn s.bedOn s.canopyOn s.now regs rootRegs latches wide banks badParity mem resp irqs free fab bridge rings mbxStage held mbxOwed evr tim toks ing cam pra prod gns trl fur vlv lsw outs can eth pan dram nand traps ter pce pwr hlt upd s.pending) = s.frame := rfl

theorem foldl_frame {α : Type} (f : State → α → State) (h : ∀ x a, (f x a).frame = x.frame) (l : List α) (s : State) :
    (l.foldl f s).frame = s.frame := by
  induction l generalizing s with
  | nil => rfl
  | cons a l ih => rw [List.foldl_cons, ih, h]

/-! ### Registers -/

@[simp] theorem State.setReg_frame : ∀ s a1 a2, (State.setReg s a1 a2).frame = State.frame s := by intros; simp only [State.setReg,
    apply_ite State.frame, ite_self, State.frame_with, foldl_frame, implies_true]
@[simp] theorem State.wr_frame : ∀ s a1 a2, (State.wr s a1 a2).frame = State.frame s := by intros; simp only [State.wr, apply_ite State.frame,
    ite_self, State.frame_with, foldl_frame, implies_true, State.setReg_frame]
@[simp] theorem State.wrB_frame : ∀ s a1 a2, (State.wrB s a1 a2).frame = State.frame s := by intros; simp only [State.wrB, apply_ite State.frame,
    ite_self, State.frame_with, foldl_frame, implies_true, State.wr_frame]
@[simp] theorem State.incBy_frame : ∀ s a1 a2, (State.incBy s a1 a2).frame = State.frame s := by intros; simp only [State.incBy,
    apply_ite State.frame, ite_self, State.frame_with, foldl_frame, implies_true, State.wr_frame]
@[simp] theorem State.inc_frame : ∀ s a1, (State.inc s a1).frame = State.frame s := by intros; simp only [State.inc, apply_ite State.frame,
    ite_self, State.frame_with, foldl_frame, implies_true, State.incBy_frame]
@[simp] theorem State.wrSat_frame : ∀ s a1 a2, (State.wrSat s a1 a2).frame = State.frame s := by intros; simp only [State.wrSat,
    apply_ite State.frame, ite_self, State.frame_with, foldl_frame, implies_true, State.wr_frame]
@[simp] theorem State.peak_frame : ∀ s a1 a2, (State.peak s a1 a2).frame = State.frame s := by intros; simp only [State.peak, apply_ite State.frame,
    ite_self, State.frame_with, foldl_frame, implies_true, State.wr_frame]
@[simp] theorem State.measured_frame : ∀ s a1 a2 a3, (State.measured s a1 a2 a3).frame = State.frame s := by intros; simp only [State.measured,
    apply_ite State.frame, ite_self, State.frame_with, foldl_frame, implies_true, State.peak_frame, State.wrSat_frame]
@[simp] theorem State.resetReg_frame : ∀ s a1, (State.resetReg s a1).frame = State.frame s := by intros; simp only [State.resetReg,
    apply_ite State.frame, ite_self, State.frame_with, foldl_frame, implies_true, State.setReg_frame]
@[simp] theorem State.resetRegs_frame : ∀ s a1, (State.resetRegs s a1).frame = State.frame s := by intros; simp only [State.resetRegs,
    apply_ite State.frame, ite_self, State.frame_with, foldl_frame, implies_true]
@[simp] theorem State.wideSet_frame : ∀ s a1 a2, (State.wideSet s a1 a2).frame = State.frame s := by intros; simp only [State.wideSet,
    apply_ite State.frame, ite_self, State.frame_with, foldl_frame, implies_true]
@[simp] theorem State.wideAdd_frame : ∀ s a1 a2, (State.wideAdd s a1 a2).frame = State.frame s := by intros; simp only [State.wideAdd,
    apply_ite State.frame, ite_self, State.frame_with, foldl_frame, implies_true, State.wideSet_frame]
@[simp] theorem State.setBank_frame : ∀ s a1 a2 a3, (State.setBank s a1 a2 a3).frame = State.frame s := by intros; simp only [State.setBank,
    apply_ite State.frame, ite_self, State.frame_with, foldl_frame, implies_true]

/-! ### Flags -/

@[simp] theorem State.tickFree_frame : ∀ s, (State.tickFree s).frame = State.frame s := by intros; simp only [State.tickFree, apply_ite State.frame,
    ite_self, State.frame_with, foldl_frame, implies_true]
@[simp] theorem State.irq_frame : ∀ s a1 a2, (State.irq s a1 a2).frame = State.frame s := by intros; simp only [State.irq, apply_ite State.frame,
    ite_self, State.frame_with, foldl_frame, implies_true]
@[simp] theorem State.irqCarry_frame : ∀ s a1, (State.irqCarry s a1).frame = State.frame s := by intros; simp only [State.irqCarry,
    apply_ite State.frame, ite_self, State.frame_with, foldl_frame, implies_true, State.irq_frame]
@[simp] theorem State.irqScare_frame : ∀ s a1, (State.irqScare s a1).frame = State.frame s := by intros; simp only [State.irqScare,
    apply_ite State.frame, ite_self, State.frame_with, foldl_frame, implies_true, State.irq_frame]
@[simp] theorem State.irqBoth_frame : ∀ s a1, (State.irqBoth s a1).frame = State.frame s := by intros; simp only [State.irqBoth,
    apply_ite State.frame, ite_self, State.frame_with, foldl_frame, implies_true, State.irqCarry_frame, State.irqScare_frame]
@[simp] theorem State.notify_frame : ∀ s a1 a2, (State.notify s a1 a2).frame = State.frame s := by intros; simp only [State.notify,
    apply_ite State.frame, ite_self, State.frame_with, foldl_frame, implies_true, State.irqBoth_frame]
@[simp] theorem State.notifyDale_frame : ∀ s a1 a2, (State.notifyDale s a1 a2).frame = State.frame s := by intros; simp only [State.notifyDale,
    apply_ite State.frame, ite_self, State.frame_with, foldl_frame, implies_true, State.irqCarry_frame]
@[simp] theorem State.flag_frame : ∀ s a1 a2, (State.flag s a1 a2).frame = State.frame s := by intros; simp only [State.flag, apply_ite State.frame,
    ite_self, State.frame_with, foldl_frame, implies_true, State.notify_frame, State.wr_frame]
@[simp] theorem State.flagDale_frame : ∀ s a1 a2, (State.flagDale s a1 a2).frame = State.frame s := by intros; simp only [State.flagDale,
    apply_ite State.frame, ite_self, State.frame_with, foldl_frame, implies_true, State.notifyDale_frame, State.wr_frame]
@[simp] theorem State.setRoot_frame : ∀ s a1 a2, (State.setRoot s a1 a2).frame = State.frame s := by intros; simp only [State.setRoot,
    apply_ite State.frame, ite_self, State.frame_with, foldl_frame, implies_true]
@[simp] theorem State.rootWr_frame : ∀ s a1 a2, (State.rootWr s a1 a2).frame = State.frame s := by intros; simp only [State.rootWr,
    apply_ite State.frame, ite_self, State.frame_with, foldl_frame, implies_true, State.setRoot_frame]
@[simp] theorem State.evrQueueRegs_frame : ∀ s, (State.evrQueueRegs s).frame = State.frame s := by intros; simp only [State.evrQueueRegs,
    apply_ite State.frame, ite_self, State.frame_with, foldl_frame, implies_true, State.peak_frame, State.wr_frame]
@[simp] theorem State.evrDrop_frame : ∀ s, (State.evrDrop s).frame = State.frame s := by intros; simp only [State.evrDrop, apply_ite State.frame,
    ite_self, State.frame_with, foldl_frame, implies_true, State.flag_frame, State.inc_frame]
@[simp] theorem State.enqueue_frame : ∀ s a1, (State.enqueue s a1).1.frame = State.frame s := by
    intros; rw [State.enqueue]; (repeat' split) <;> simp only [apply_ite State.frame, ite_self, State.frame_with, foldl_frame, implies_true,
    State.evrDrop_frame, State.evrQueueRegs_frame]
@[simp] theorem State.setBucket_frame : ∀ s a1 a2, (State.setBucket s a1 a2).frame = State.frame s := by intros; simp only [State.setBucket,
    apply_ite State.frame, ite_self, State.frame_with, foldl_frame, implies_true]
@[simp] theorem State.refill_frame : ∀ s a1, (State.refill s a1).frame = State.frame s := by intros; simp only [State.refill, apply_ite State.frame,
    ite_self, State.frame_with, foldl_frame, implies_true]
@[simp] theorem State.refillDue_frame : ∀ s a1, (State.refillDue s a1).frame = State.frame s := by intros; simp only [State.refillDue,
    apply_ite State.frame, ite_self, State.frame_with, foldl_frame, implies_true, State.refill_frame]
@[simp] theorem State.takeBucket_frame : ∀ s a1 a2, (State.takeBucket s a1 a2).1.frame = State.frame s := by
    intros; rw [State.takeBucket]; (repeat' split) <;> simp only [apply_ite State.frame, ite_self, State.frame_with, foldl_frame, implies_true,
    State.flag_frame, State.inc_frame, State.refillDue_frame, State.setBucket_frame]
@[simp] theorem State.clearSupp_frame : ∀ s a1, (State.clearSupp s a1).frame = State.frame s := by intros; simp only [State.clearSupp,
    apply_ite State.frame, ite_self, State.frame_with, foldl_frame, implies_true, State.setBucket_frame]
@[simp] theorem State.evrFillRegs_frame : ∀ s, (State.evrFillRegs s).frame = State.frame s := by intros; simp only [State.evrFillRegs,
    apply_ite State.frame, ite_self, State.frame_with, foldl_frame, implies_true, State.wrB_frame, State.wr_frame]
@[simp] theorem State.appendRec_frame : ∀ s a1 a2, (State.appendRec s a1 a2).frame = State.frame s := by intros; simp only [State.appendRec,
    apply_ite State.frame, ite_self, State.frame_with, foldl_frame, implies_true, State.clearSupp_frame, State.evrFillRegs_frame]
@[simp] theorem State.storeRec_frame : ∀ s a1, (State.storeRec s a1).frame = State.frame s := by
    intros; rw [State.storeRec]; (repeat' split) <;> simp only [apply_ite State.frame, ite_self, State.frame_with, foldl_frame, implies_true,
    State.appendRec_frame, State.flag_frame, State.inc_frame]
@[simp] theorem State.record_frame : ∀ s a1 a2 a3 a4 a5 a6, (State.record s a1 a2 a3 a4 a5 a6).frame = State.frame s := by
    intros; simp only [State.record, apply_ite State.frame, ite_self, State.frame_with, foldl_frame, implies_true, State.enqueue_frame,
    State.storeRec_frame, State.takeBucket_frame]

/-! ### Ops -/

@[simp] theorem State.fail_frame : ∀ s, (State.fail s).frame = State.frame s := by intros; simp only [State.fail, apply_ite State.frame, ite_self,
    State.frame_with, foldl_frame, implies_true]
@[simp] theorem State.failFor_frame : ∀ s a1, (State.failFor s a1).frame = State.frame s := by intros; simp only [State.failFor,
    apply_ite State.frame, ite_self, State.frame_with, foldl_frame, implies_true, State.fail_frame, State.irq_frame]
@[simp] theorem State.failReq_frame : ∀ s a1, (State.failReq s a1).frame = State.frame s := by intros; simp only [State.failReq,
    apply_ite State.frame, ite_self, State.frame_with, foldl_frame, implies_true, State.failFor_frame, State.fail_frame]
@[simp] theorem State.done_frame : ∀ s, (State.done s).frame = State.frame s := by intros; simp only [State.done, apply_ite State.frame, ite_self,
    State.frame_with, foldl_frame, implies_true]
@[simp] theorem State.answer_frame : ∀ s a1, (State.answer s a1).frame = State.frame s := by intros; simp only [State.answer, apply_ite State.frame,
    ite_self, State.frame_with, foldl_frame, implies_true]
theorem State.gate_frame (s : State) (a : Agent) (blk off : Nat) (k : State → State) (h : ∀ t, (k t).frame = t.frame) :
    (s.gate a blk off k).frame = s.frame := by simp [State.gate, apply_ite State.frame, h, State.failFor_frame]
@[simp] theorem State.reencode_frame : ∀ s a1 a2, (State.reencode s a1 a2).frame = State.frame s := by intros; simp only [State.reencode,
    apply_ite State.frame, ite_self, State.frame_with, foldl_frame, implies_true]
@[simp] theorem State.storeOne_frame : ∀ s a1 a2 a3, (State.storeOne s a1 a2 a3).frame = State.frame s := by intros; simp only [State.storeOne,
    apply_ite State.frame, ite_self, State.frame_with, foldl_frame, implies_true, State.reencode_frame]
@[simp] theorem State.mirrorCount_frame : ∀ s a1 a2 a3, (State.mirrorCount s a1 a2 a3).frame = State.frame s := by
    intros; simp only [State.mirrorCount, apply_ite State.frame, ite_self, State.frame_with, foldl_frame, implies_true, State.incBy_frame]
@[simp] theorem State.mirror_frame : ∀ s a1 a2 a3, (State.mirror s a1 a2 a3).frame = State.frame s := by intros; simp only [State.mirror,
    apply_ite State.frame, ite_self, State.frame_with, foldl_frame, implies_true, State.mirrorCount_frame, State.storeOne_frame]
@[simp] theorem State.store_frame : ∀ s a1 a2 a3, (State.store s a1 a2 a3).frame = State.frame s := by intros; simp only [State.store,
    apply_ite State.frame, ite_self, State.frame_with, foldl_frame, implies_true, State.mirror_frame, State.storeOne_frame]
@[simp] theorem State.put_frame : ∀ s a1 a2, (State.put s a1 a2).frame = State.frame s := by intros; simp only [State.put, apply_ite State.frame,
    ite_self, State.frame_with, foldl_frame, implies_true, State.store_frame]
@[simp] theorem State.putContent_frame : ∀ s a1 a2 a3, (State.putContent s a1 a2 a3).frame = State.frame s := by
    intros; simp only [State.putContent, apply_ite State.frame, ite_self, State.frame_with, foldl_frame, implies_true, State.mirror_frame,
    State.reencode_frame]
@[simp] theorem State.putFree_frame : ∀ s a1 a2, (State.putFree s a1 a2).frame = State.frame s := by intros; simp only [State.putFree,
    apply_ite State.frame, ite_self, State.frame_with, foldl_frame, implies_true, State.putContent_frame]
@[simp] theorem State.putZero_frame : ∀ s a1 a2, (State.putZero s a1 a2).frame = State.frame s := by intros; simp only [State.putZero,
    apply_ite State.frame, ite_self, State.frame_with, foldl_frame, implies_true, State.mirror_frame, State.reencode_frame]
@[simp] theorem State.handoff_frame : ∀ s a1 a2, (State.handoff s a1 a2).1.frame = State.frame s := by
    intros; rw [State.handoff]; (repeat' split) <;> simp only [apply_ite State.frame, ite_self, State.frame_with, foldl_frame, implies_true]
@[simp] theorem State.accept_frame : ∀ s a1, (State.accept s a1).frame = State.frame s := by intros; simp only [State.accept, apply_ite State.frame,
    ite_self, State.frame_with, foldl_frame, implies_true]
@[simp] theorem State.bridgeWrite_frame : ∀ s a1 a2, (State.bridgeWrite s a1 a2).1.frame = State.frame s := by
    intros; rw [State.bridgeWrite]; (repeat' split) <;> simp only [apply_ite State.frame, ite_self, State.frame_with, foldl_frame, implies_true,
    State.accept_frame]
@[simp] theorem State.engineWrite_frame : ∀ s a1 a2, (State.engineWrite s a1 a2).1.frame = State.frame s := by
    intros; rw [State.engineWrite]; (repeat' split) <;> simp only [apply_ite State.frame, ite_self, State.frame_with, foldl_frame, implies_true,
    State.bridgeWrite_frame, State.put_frame]
@[simp] theorem State.entryOut_frame : ∀ s a1 a2 a3, (State.entryOut s a1 a2 a3).frame = State.frame s := by intros; simp only [State.entryOut,
    apply_ite State.frame, ite_self, State.frame_with, foldl_frame, implies_true, State.accept_frame, State.put_frame]
@[simp] theorem State.setRing_frame : ∀ s a1 a2, (State.setRing s a1 a2).frame = State.frame s := by intros; simp only [State.setRing,
    apply_ite State.frame, ite_self, State.frame_with, foldl_frame, implies_true]
@[simp] theorem State.mapBit_frame : ∀ s a1 a2 a3, (State.mapBit s a1 a2 a3).frame = State.frame s := by intros; simp only [State.mapBit,
    apply_ite State.frame, ite_self, State.frame_with, foldl_frame, implies_true, State.wrB_frame]
@[simp] theorem State.fullBit_frame : ∀ s a1, (State.fullBit s a1).frame = State.frame s := by intros; simp only [State.fullBit,
    apply_ite State.frame, ite_self, State.frame_with, foldl_frame, implies_true, State.mapBit_frame]
@[simp] theorem State.advance_frame : ∀ s a1, (State.advance s a1).frame = State.frame s := by intros; simp only [State.advance,
    apply_ite State.frame, ite_self, State.frame_with, foldl_frame, implies_true, State.wr_frame]
@[simp] theorem State.ringIrq_frame : ∀ s a1 a2, (State.ringIrq s a1 a2).frame = State.frame s := by intros; simp only [State.ringIrq,
    apply_ite State.frame, ite_self, State.frame_with, foldl_frame, implies_true, State.irq_frame]
@[simp] theorem State.ringPending_frame : ∀ s a1, (State.ringPending s a1).frame = State.frame s := by intros; simp only [State.ringPending,
    apply_ite State.frame, ite_self, State.frame_with, foldl_frame, implies_true, State.mapBit_frame, State.ringIrq_frame]
@[simp] theorem State.ringErr_frame : ∀ s a1 a2, (State.ringErr s a1 a2).frame = State.frame s := by intros; simp only [State.ringErr,
    apply_ite State.frame, ite_self, State.frame_with, foldl_frame, implies_true, State.irqScare_frame, State.mapBit_frame, State.ringIrq_frame,
    State.wr_frame]
@[simp] theorem State.ringRefuse_frame : ∀ s a1 a2, (State.ringRefuse s a1 a2).frame = State.frame s := by intros; simp only [State.ringRefuse,
    apply_ite State.frame, ite_self, State.frame_with, foldl_frame, implies_true, State.ringErr_frame, State.wr_frame]
@[simp] theorem State.doorbellRefuse_frame : ∀ s a1 a2, (State.doorbellRefuse s a1 a2).frame = State.frame s := by
    intros; simp only [State.doorbellRefuse, apply_ite State.frame, ite_self, State.frame_with, foldl_frame, implies_true, State.ringErr_frame,
    State.wr_frame]
@[simp] theorem State.writeEntry_frame : ∀ s a1 a2 a3 a4 a5 a6 a7 a8 a9 a10 a11 a12,
    (State.writeEntry s a1 a2 a3 a4 a5 a6 a7 a8 a9 a10 a11 a12).frame = State.frame s := by intros; simp only [State.writeEntry,
    apply_ite State.frame, ite_self, State.frame_with, foldl_frame, implies_true, State.advance_frame, State.entryOut_frame, State.fullBit_frame,
    State.setRing_frame, State.wideAdd_frame]
@[simp] theorem State.dropEntry_frame : ∀ s a1, (State.dropEntry s a1).frame = State.frame s := by intros; simp only [State.dropEntry,
    apply_ite State.frame, ite_self, State.frame_with, foldl_frame, implies_true, State.setRing_frame, State.wideAdd_frame]
@[simp] theorem State.looseEntry_frame : ∀ s a1 a2 a3 a4 a5 a6 a7 a8,
    (State.looseEntry s a1 a2 a3 a4 a5 a6 a7 a8).1.frame = State.frame s := by
    intros; rw [State.looseEntry]; (repeat' split) <;> simp only [apply_ite State.frame, ite_self, State.frame_with, foldl_frame, implies_true,
    State.dropEntry_frame, State.ringPending_frame, State.writeEntry_frame]
@[simp] theorem State.eventEntry_frame : ∀ s a1 a2 a3 a4 a5 a6, (State.eventEntry s a1 a2 a3 a4 a5 a6).1.frame = State.frame s := by
    intros; simp only [State.eventEntry, apply_ite State.frame, ite_self, State.frame_with, foldl_frame, implies_true, State.looseEntry_frame]
@[simp] theorem State.blockEvent_frame : ∀ s a1 a2 a3 a4 a5 a6 a7, (State.blockEvent s a1 a2 a3 a4 a5 a6 a7).frame = State.frame s := by
    intros; simp only [State.blockEvent, apply_ite State.frame, ite_self, State.frame_with, foldl_frame, implies_true, State.eventEntry_frame,
    State.record_frame]
@[simp] theorem State.unreserve_frame : ∀ s a1 a2, (State.unreserve s a1 a2).frame = State.frame s := by intros; simp only [State.unreserve,
    apply_ite State.frame, ite_self, State.frame_with, foldl_frame, implies_true, State.setRing_frame]
@[simp] theorem State.unfence_frame : ∀ s a1, (State.unfence s a1).frame = State.frame s := by
    intros; rw [State.unfence]; (repeat' split) <;> simp only [apply_ite State.frame, ite_self, State.frame_with, foldl_frame, implies_true,
    State.setRing_frame]
@[simp] theorem State.complete_frame : ∀ s a1 a2 a3, (State.complete s a1 a2 a3).frame = State.frame s := by intros; simp only [State.complete,
    apply_ite State.frame, ite_self, State.frame_with, foldl_frame, implies_true, State.dropEntry_frame, State.irq_frame, State.ringPending_frame,
    State.unfence_frame, State.unreserve_frame, State.writeEntry_frame]
theorem State.serve_frame (s : State) (q op : Nat) (f : Desc → State → State × Result) (h : ∀ d t, (f d t).1.frame = t.frame) :
    (s.serve q op f).frame = s.frame := by unfold State.serve; split <;> simp [h]
@[simp] theorem State.lateDesc_frame : ∀ s a1 a2 a3, (State.lateDesc s a1 a2 a3).frame = State.frame s := by intros; simp only [State.lateDesc,
    apply_ite State.frame, ite_self, State.frame_with, foldl_frame, implies_true, State.setRing_frame]
theorem State.serveAt_frame (s : State) (q op : Nat) (f : Desc → State → State × Result × Nat) (h : ∀ d t, (f d t).1.frame = t.frame) :
    (s.serveAt q op f).frame = s.frame := by unfold State.serveAt; split <;> simp [h, apply_ite State.frame]
@[simp] theorem State.ringStop_frame : ∀ s a1, (State.ringStop s a1).frame = State.frame s := by intros; simp only [State.ringStop,
    apply_ite State.frame, ite_self, State.frame_with, foldl_frame, implies_true, State.mapBit_frame, State.setRing_frame, State.unreserve_frame,
    State.wr_frame]
@[simp] theorem State.ringKill_frame : ∀ s a1 a2, (State.ringKill s a1 a2).frame = State.frame s := by intros; simp only [State.ringKill,
    apply_ite State.frame, ite_self, State.frame_with, foldl_frame, implies_true, State.ringErr_frame, State.ringStop_frame]
@[simp] theorem State.canopyRingsOff_frame : ∀ s, (State.canopyRingsOff s).frame = State.frame s := by intros; simp only [State.canopyRingsOff,
    apply_ite State.frame, ite_self, State.frame_with, foldl_frame, implies_true, State.ringKill_frame, State.setRing_frame]
@[simp] theorem State.testRegs_frame : ∀ s, (State.testRegs s).frame = State.frame s := by intros; simp only [State.testRegs, apply_ite State.frame,
    ite_self, State.frame_with, foldl_frame, implies_true, State.peak_frame, State.wr_frame]
@[simp] theorem State.queueTest_frame : ∀ s a1 a2, (State.queueTest s a1 a2).frame = State.frame s := by intros; simp only [State.queueTest,
    apply_ite State.frame, ite_self, State.frame_with, foldl_frame, implies_true, State.complete_frame, State.eventEntry_frame,
    State.flagDale_frame, State.inc_frame, State.testRegs_frame]
@[simp] theorem State.triggerTest_frame : ∀ s a1, (State.triggerTest s a1).frame = State.frame s := by intros; simp only [State.triggerTest,
    apply_ite State.frame, ite_self, State.frame_with, foldl_frame, implies_true, State.queueTest_frame]
@[simp] theorem State.parityFault_frame : ∀ s a1 a2 a3, (State.parityFault s a1 a2 a3).frame = State.frame s := by
    intros; simp only [State.parityFault, apply_ite State.frame, ite_self, State.frame_with, foldl_frame, implies_true, State.record_frame,
    State.setReg_frame, State.triggerTest_frame]
@[simp] theorem State.poisonLine_frame : ∀ s a1, (State.poisonLine s a1).frame = State.frame s := by
    intros; rw [State.poisonLine]; (repeat' split) <;> simp only [apply_ite State.frame, ite_self, State.frame_with, foldl_frame, implies_true,
    State.flag_frame, State.inc_frame, State.irqBoth_frame]
@[simp] theorem State.reparity_frame : ∀ s a1, (State.reparity s a1).frame = State.frame s := by intros; simp only [State.reparity,
    apply_ite State.frame, ite_self, State.frame_with, foldl_frame, implies_true]
@[simp] theorem State.applyWrite_frame : ∀ s a1 a2, (State.applyWrite s a1 a2).frame = State.frame s := by
    intros; rw [State.applyWrite]; (repeat' split) <;> simp only [apply_ite State.frame, ite_self, State.frame_with, foldl_frame, implies_true,
    State.setReg_frame]
@[simp] theorem State.plainWrite_frame : ∀ s a1 a2, (State.plainWrite s a1 a2).frame = State.frame s := by intros; simp only [State.plainWrite,
    apply_ite State.frame, ite_self, State.frame_with, foldl_frame, implies_true, State.applyWrite_frame, State.reparity_frame]
@[simp] theorem State.mbxAbort_frame : ∀ s a1, (State.mbxAbort s a1).frame = State.frame s := by
  intro s m; rw [State.mbxAbort]; split
  · dsimp only; split
    · simp only [State.irq_frame, State.inc_frame, State.mapBit_frame, State.resetReg_frame, State.wr_frame]
    · rw [State.frame_with]; simp only [State.inc_frame, State.mapBit_frame, State.resetReg_frame, State.wr_frame]
  · rfl
@[simp] theorem State.mbxAbortAll_frame : ∀ s a1, (State.mbxAbortAll s a1).frame = State.frame s := by intros; simp only [State.mbxAbortAll,
    apply_ite State.frame, ite_self, State.frame_with, foldl_frame, implies_true, State.mbxAbort_frame]
@[simp] theorem State.mbxPayOwed_frame : ∀ s, (State.mbxPayOwed s).frame = State.frame s := by intros; simp only [State.mbxPayOwed,
    apply_ite State.frame, ite_self, State.frame_with, foldl_frame, implies_true, State.irq_frame]
@[simp] theorem State.holdAgent_frame : ∀ s a1, (State.holdAgent s a1).frame = State.frame s := by intros; simp only [State.holdAgent,
    apply_ite State.frame, ite_self, State.frame_with, foldl_frame, implies_true, State.mbxAbortAll_frame]
@[simp] theorem State.holdAgents_frame : ∀ s a1, (State.holdAgents s a1).frame = State.frame s := by intros; simp only [State.holdAgents,
    apply_ite State.frame, ite_self, State.frame_with, foldl_frame, implies_true, State.mbxAbortAll_frame]
@[simp] theorem State.freeAgent_frame : ∀ s a1, (State.freeAgent s a1).frame = State.frame s := by intros; simp only [State.freeAgent,
    apply_ite State.frame, ite_self, State.frame_with, foldl_frame, implies_true, State.mbxPayOwed_frame]
@[simp] theorem State.trlBusy_frame : ∀ s a1, (State.trlBusy s a1).frame = State.frame s := by intros; simp only [State.trlBusy,
    apply_ite State.frame, ite_self, State.frame_with, foldl_frame, implies_true, State.measured_frame]
@[simp] theorem State.furBusy_frame : ∀ s a1, (State.furBusy s a1).frame = State.frame s := by intros; simp only [State.furBusy,
    apply_ite State.frame, ite_self, State.frame_with, foldl_frame, implies_true, State.measured_frame]
@[simp] theorem State.freeMeasure_frame : ∀ s a1 a2, (State.freeMeasure s a1 a2).frame = State.frame s := by intros; simp only [State.freeMeasure,
    apply_ite State.frame, ite_self, State.frame_with, foldl_frame, implies_true, State.peak_frame, State.setReg_frame, State.tickFree_frame]
@[simp] theorem State.driveWear_frame : ∀ s a1, (State.driveWear s a1).frame = State.frame s := by intros; simp only [State.driveWear,
    apply_ite State.frame, ite_self, State.frame_with, foldl_frame, implies_true, State.setReg_frame, State.tickFree_frame]
@[simp] theorem State.freeRates_frame : ∀ s a1, (State.freeRates s a1).frame = State.frame s := by intros; simp only [State.freeRates,
    apply_ite State.frame, ite_self, State.frame_with, foldl_frame, implies_true, State.setReg_frame, State.tickFree_frame]

/-! ### Fabric -/

@[simp] theorem State.fabRegs_frame : ∀ s, (State.fabRegs s).frame = State.frame s := by
    intros; rw [State.fabRegs]; (repeat' split) <;> simp only [apply_ite State.frame, ite_self, State.frame_with, foldl_frame, implies_true,
    State.notify_frame, State.peak_frame, State.setReg_frame, State.wrB_frame, State.wr_frame]
@[simp] theorem State.ringsWait_frame : ∀ s a1 a2, (State.ringsWait s a1 a2).frame = State.frame s := by intros; simp only [State.ringsWait,
    apply_ite State.frame, ite_self, State.frame_with, foldl_frame, implies_true, State.mapBit_frame]
@[simp] theorem State.grant_frame : ∀ s a1 a2, (State.grant s a1 a2).frame = State.frame s := by intros; simp only [State.grant,
    apply_ite State.frame, ite_self, State.frame_with, foldl_frame, implies_true, State.peak_frame]
@[simp] theorem State.grantWaits_frame (n : Nat) : ∀ s a, (State.grantWaits s n a).frame = State.frame s := by
  induction n with
  | zero => intro s a; rfl
  | succ k ih => intro s a; rw [State.grantWaits]; split <;> simp [ih]
theorem execGorgeRequest_frame : ∀ a0 a1 a2 a3 a4 a5 s, ∀ t, execGorgeRequest a0 a1 a2 a3 a4 a5 s = .next t → t.frame = State.frame s := by
    intros; rename_i h; unfold execGorgeRequest at h; injection h with h; subst h; simp only [apply_ite State.frame, ite_self, State.frame_with,
    foldl_frame, implies_true, State.fabRegs_frame, State.failReq_frame, State.grant_frame, State.ringsWait_frame, State.wideAdd_frame]
@[simp] theorem State.freeEntry_frame : ∀ s a1 a2, (State.freeEntry s a1 a2).frame = State.frame s := by intros; simp only [State.freeEntry,
    apply_ite State.frame, ite_self, State.frame_with, foldl_frame, implies_true, State.fabRegs_frame, State.grantWaits_frame]
theorem execEntryRelease_frame : ∀ a0 a1 s, ∀ t, execEntryRelease a0 a1 s = .next t → t.frame = State.frame s := by
    intros; rename_i h; unfold execEntryRelease at h; injection h with h; subst h; (repeat' split) <;> simp (disch := (intros; (repeat' split) <;> (try simp only [apply_ite State.frame, ite_self, State.frame_with, foldl_frame, implies_true, State.freeEntry_frame]) <;> (try rfl))) only [apply_ite State.frame, ite_self, State.frame_with, foldl_frame, implies_true, State.freeEntry_frame]
@[simp] theorem State.poisonTarget_frame : ∀ s a1, (State.poisonTarget s a1).frame = State.frame s := by intros; simp only [State.poisonTarget,
    apply_ite State.frame, ite_self, State.frame_with, foldl_frame, implies_true, State.fail_frame]
@[simp] theorem State.throughTracker_frame : ∀ s a1 a2 a3 a4, (State.throughTracker s a1 a2 a3 a4).frame = State.frame s := by
    intros; simp only [State.throughTracker, apply_ite State.frame, ite_self, State.frame_with, foldl_frame, implies_true, State.fabRegs_frame,
    State.grant_frame, State.wideAdd_frame]
theorem execForcedCompletion_frame : ∀ a0 a1 s, ∀ t, execForcedCompletion a0 a1 s = .next t → t.frame = State.frame s := by
    intros; rename_i h; unfold execForcedCompletion at h; injection h with h; subst h; (repeat' split) <;> simp (disch := (intros; (repeat' split) <;> (try simp only [apply_ite State.frame, ite_self, State.frame_with, foldl_frame, implies_true, State.flag_frame, State.freeEntry_frame, State.inc_frame, State.poisonTarget_frame, State.record_frame]) <;> (try rfl))) only [apply_ite State.frame, ite_self, State.frame_with, foldl_frame, implies_true, State.flag_frame, State.freeEntry_frame, State.inc_frame, State.poisonTarget_frame, State.record_frame]
@[simp] theorem State.creditWrite_frame : ∀ s a1 a2, (State.creditWrite s a1 a2).frame = State.frame s := by intros; simp only [State.creditWrite,
    apply_ite State.frame, ite_self, State.frame_with, foldl_frame, implies_true, State.applyWrite_frame, State.fabRegs_frame,
    State.grantWaits_frame, State.wr_frame]
theorem execFabCredWrite_frame : ∀ a0 a1 a2 s, ∀ t, execFabCredWrite a0 a1 a2 s = .next t → t.frame = State.frame s := by
    intros; rename_i h; unfold execFabCredWrite at h; injection h with h; subst h; simp only [apply_ite State.frame, ite_self, State.frame_with,
    foldl_frame, implies_true, State.creditWrite_frame, State.fail_frame, State.gate_frame]
theorem execBridgeHandoff_frame : ∀ a0 a1 s, ∀ t, execBridgeHandoff a0 a1 s = .next t → t.frame = State.frame s := by
    intros; rename_i h; unfold execBridgeHandoff at h; injection h with h; subst h; simp only [apply_ite State.frame, ite_self, State.frame_with,
    foldl_frame, implies_true, State.done_frame, State.fail_frame, State.handoff_frame]
theorem execBridgeInboundWrite_frame : ∀ a0 a1 a2 a3 s, ∀ t, execBridgeInboundWrite a0 a1 a2 a3 s = .next t → t.frame = State.frame s := by
    intros; rename_i h; unfold execBridgeInboundWrite at h; injection h with h; subst h; simp only [apply_ite State.frame, ite_self,
    State.frame_with, foldl_frame, implies_true, State.accept_frame, State.done_frame, State.fail_frame]
@[simp] theorem State.bridgeAdmit_frame : ∀ s, (State.bridgeAdmit s).frame = State.frame s := by
    intros; rw [State.bridgeAdmit]; (repeat' split) <;> simp only [apply_ite State.frame, ite_self, State.frame_with, foldl_frame, implies_true,
    State.accept_frame]

/-! ### Time -/

@[simp] theorem State.flagRise_frame : ∀ s a1 a2, (State.flagRise s a1 a2).frame = State.frame s := by intros; simp only [State.flagRise,
    apply_ite State.frame, ite_self, State.frame_with, foldl_frame, implies_true, State.flag_frame]
@[simp] theorem State.excludeGauge_frame : ∀ s a1, (State.excludeGauge s a1).frame = State.frame s := by intros; simp only [State.excludeGauge,
    apply_ite State.frame, ite_self, State.frame_with, foldl_frame, implies_true, State.flag_frame, State.record_frame, State.wr_frame]
@[simp] theorem State.measureDomain_frame : ∀ s a1 a2, (State.measureDomain s a1 a2).frame = State.frame s := by
    intros; simp only [State.measureDomain, apply_ite State.frame, ite_self, State.frame_with, foldl_frame, implies_true, State.excludeGauge_frame,
    State.wrSat_frame, State.wr_frame]
@[simp] theorem State.paceRegs_frame : ∀ s, (State.paceRegs s).frame = State.frame s := by
    intros; rw [State.paceRegs]; (repeat' split) <;> simp only [apply_ite State.frame, ite_self, State.frame_with, foldl_frame, implies_true,
    State.wr_frame]
@[simp] theorem State.breachEdge_frame : ∀ s a1 a2, (State.breachEdge s a1 a2).frame = State.frame s := by intros; simp only [State.breachEdge,
    apply_ite State.frame, ite_self, State.frame_with, foldl_frame, implies_true, State.notify_frame, State.record_frame]
@[simp] theorem State.judgeBreach_frame : ∀ s, (State.judgeBreach s).frame = State.frame s := by intros; simp only [State.judgeBreach,
    apply_ite State.frame, ite_self, State.frame_with, foldl_frame, implies_true, State.breachEdge_frame, State.wrB_frame]
theorem execPaceGaugeMeasure_frame : ∀ a0 s, ∀ t, execPaceGaugeMeasure a0 s = .next t → t.frame = State.frame s := by
    intros; rename_i h; unfold execPaceGaugeMeasure at h; injection h with h; subst h; simp only [apply_ite State.frame, ite_self, State.frame_with,
    foldl_frame, implies_true, State.judgeBreach_frame, State.measureDomain_frame, State.paceRegs_frame]
theorem execRailRegulation_frame : ∀ s, ∀ t, execRailRegulation s = .next t → t.frame = State.frame s := by
    intros; rename_i h; unfold execRailRegulation at h; injection h with h; subst h; simp only [apply_ite State.frame, ite_self, State.frame_with,
    foldl_frame, implies_true, State.judgeBreach_frame, State.wr_frame]
@[simp] theorem State.crossing_frame : ∀ s a1 a2 a3 a4 a5 a6, (State.crossing s a1 a2 a3 a4 a5 a6).frame = State.frame s := by
    intros; simp only [State.crossing, apply_ite State.frame, ite_self, State.frame_with, foldl_frame, implies_true, State.flag_frame,
    State.record_frame]
@[simp] theorem State.shedWatch_frame : ∀ s a1 a2 a3 a4, (State.shedWatch s a1 a2 a3 a4).frame = State.frame s := by
    intros; simp only [State.shedWatch, apply_ite State.frame, ite_self, State.frame_with, foldl_frame, implies_true, State.flag_frame,
    State.wr_frame]
theorem execTempSensorUpdate_frame : ∀ a0 s, ∀ t, execTempSensorUpdate a0 s = .next t → t.frame = State.frame s := by
    intros; rename_i h; unfold execTempSensorUpdate at h; injection h with h; subst h; (repeat' split) <;> simp (disch := (intros; (repeat' split) <;> (try simp only [apply_ite State.frame, ite_self, State.frame_with, foldl_frame, implies_true, State.crossing_frame, State.shedWatch_frame, State.wr_frame]) <;> (try rfl))) only [apply_ite State.frame, ite_self, State.frame_with, foldl_frame, implies_true, State.crossing_frame, State.shedWatch_frame, State.wr_frame]
@[simp] theorem State.voltReading_frame : ∀ s a1 a2, (State.voltReading s a1 a2).frame = State.frame s := by
    intros; unfold State.voltReading; dsimp only; (repeat' split) <;> simp only [apply_ite State.frame, ite_self, State.frame_with, foldl_frame,
    implies_true, State.flagRise_frame, State.record_frame, State.wrB_frame, State.wrSat_frame, State.wr_frame]
@[simp] theorem State.supplyReading_frame : ∀ s a1, (State.supplyReading s a1).frame = State.frame s := by
    intros; unfold State.supplyReading; dsimp only; (repeat' split) <;> simp only [apply_ite State.frame, ite_self, State.frame_with, foldl_frame,
    implies_true, State.wrSat_frame, State.wr_frame]
theorem execVoltageMonitorUpdate_frame : ∀ a0 s, ∀ t, execVoltageMonitorUpdate a0 s = .next t → t.frame = State.frame s := by
    intros; rename_i h; unfold execVoltageMonitorUpdate at h; injection h with h; subst h; simp only [apply_ite State.frame, ite_self,
    State.frame_with, foldl_frame, implies_true, State.supplyReading_frame, State.voltReading_frame]
theorem execSundialSave_frame : ∀ s, ∀ t, execSundialSave s = .next t → t.frame = State.frame s := by
    intros; rename_i h; unfold execSundialSave at h; injection h with h; subst h; simp only [apply_ite State.frame, ite_self, State.frame_with,
    foldl_frame, implies_true, State.wideSet_frame]
@[simp] theorem State.setCompare_frame : ∀ s a1 a2, (State.setCompare s a1 a2).frame = State.frame s := by intros; simp only [State.setCompare,
    apply_ite State.frame, ite_self, State.frame_with, foldl_frame, implies_true, State.irq_frame]
@[simp] theorem State.timersDue_frame : ∀ s, (State.timersDue s).frame = State.frame s := by intros; simp only [State.timersDue,
    apply_ite State.frame, ite_self, State.frame_with, foldl_frame, implies_true, State.irq_frame]
theorem execTimerCompareMatch_frame : ∀ a0 a1 s, ∀ t, execTimerCompareMatch a0 a1 s = .next t → t.frame = State.frame s := by
    intros; rename_i h; unfold execTimerCompareMatch at h; injection h with h; subst h; simp only [apply_ite State.frame, ite_self,
    State.frame_with, foldl_frame, implies_true, State.setCompare_frame]
theorem State.sdlChange_frame (s : State) (k : State → State) (h : ∀ t, (k t).frame = t.frame) : (s.sdlChange k).frame = s.frame := by
  unfold State.sdlChange; dsimp only; split <;> simp only [State.irqBoth_frame, h]
@[simp] theorem State.setTrim_frame : ∀ s a1, (State.setTrim s a1).frame = State.frame s := by intros; simp only [State.setTrim,
    apply_ite State.frame, ite_self, State.frame_with, foldl_frame, implies_true, State.wr_frame]
@[simp] theorem State.servo_frame : ∀ s, (State.servo s).frame = State.frame s := by intros; simp only [State.servo, apply_ite State.frame,
    ite_self, State.frame_with, foldl_frame, implies_true, State.setTrim_frame, State.tickFree_frame]
@[simp] theorem State.sdlEnter_frame : ∀ s a1, (State.sdlEnter s a1).frame = State.frame s := by intros; simp only [State.sdlEnter,
    apply_ite State.frame, ite_self, State.frame_with, foldl_frame, implies_true, State.wr_frame]
@[simp] theorem State.sdlMark_frame : ∀ s a1, (State.sdlMark s a1).frame = State.frame s := by
    intros; rw [State.sdlMark]; (repeat' split) <;> simp only [apply_ite State.frame, ite_self, State.frame_with, foldl_frame, implies_true,
    State.record_frame, State.sdlEnter_frame, State.servo_frame, State.setTrim_frame]
@[simp] theorem State.refMark_frame : ∀ s a1 a2 a3 a4, (State.refMark s a1 a2 a3 a4).frame = State.frame s := by intros; simp only [State.refMark,
    apply_ite State.frame, ite_self, State.frame_with, foldl_frame, implies_true, State.sdlChange_frame, State.sdlMark_frame, State.wideSet_frame,
    State.wr_frame]
theorem execReferenceMark_frame : ∀ a0 a1 a2 a3 s, ∀ t, execReferenceMark a0 a1 a2 a3 s = .next t → t.frame = State.frame s := by
    intros; rename_i h; unfold execReferenceMark at h; injection h with h; subst h; simp only [apply_ite State.frame, ite_self, State.frame_with,
    foldl_frame, implies_true, State.refMark_frame]
theorem execMarkTimeout_frame : ∀ s, ∀ t, execMarkTimeout s = .next t → t.frame = State.frame s := by
    intros; rename_i h; unfold execMarkTimeout at h; injection h with h; subst h; (repeat' split) <;> simp (disch := (intros; (repeat' split) <;> (try simp only [apply_ite State.frame, ite_self, State.frame_with, foldl_frame, implies_true, State.record_frame, State.sdlChange_frame, State.sdlEnter_frame, State.setTrim_frame]) <;> (try rfl))) only [apply_ite State.frame, ite_self, State.frame_with, foldl_frame, implies_true, State.record_frame, State.sdlChange_frame, State.sdlEnter_frame, State.setTrim_frame]
@[simp] theorem State.sdlCtlWrite_frame : ∀ s a1, (State.sdlCtlWrite s a1).frame = State.frame s := by intros; simp only [State.sdlCtlWrite,
    apply_ite State.frame, ite_self, State.frame_with, foldl_frame, implies_true, State.plainWrite_frame, State.sdlChange_frame,
    State.sdlEnter_frame, State.setTrim_frame]
theorem execSdlModeWrite_frame : ∀ a0 a1 s, ∀ t, execSdlModeWrite a0 a1 s = .next t → t.frame = State.frame s := by
    intros; rename_i h; unfold execSdlModeWrite at h; injection h with h; subst h; simp only [apply_ite State.frame, ite_self, State.frame_with,
    foldl_frame, implies_true, State.gate_frame, State.sdlCtlWrite_frame]
@[simp] theorem State.tcxoLost_frame : ∀ s, (State.tcxoLost s).frame = State.frame s := by intros; simp only [State.tcxoLost, apply_ite State.frame,
    ite_self, State.frame_with, foldl_frame, implies_true, State.irqScare_frame, State.record_frame, State.sdlChange_frame, State.wr_frame]
theorem execDriftCheck_frame : ∀ a0 a1 a2 s, ∀ t, execDriftCheck a0 a1 a2 s = .next t → t.frame = State.frame s := by
    intros; rename_i h; unfold execDriftCheck at h; injection h with h; subst h; simp only [apply_ite State.frame, ite_self, State.frame_with,
    foldl_frame, implies_true, State.record_frame, State.sdlChange_frame, State.tcxoLost_frame, State.wr_frame]
theorem execTcxoLoss_frame : ∀ s, ∀ t, execTcxoLoss s = .next t → t.frame = State.frame s := by
    intros; rename_i h; unfold execTcxoLoss at h; injection h with h; subst h; simp only [apply_ite State.frame, ite_self, State.frame_with,
    foldl_frame, implies_true, State.tcxoLost_frame]
theorem execTcxoReturn_frame : ∀ s, ∀ t, execTcxoReturn s = .next t → t.frame = State.frame s := by
    intros; rename_i h; unfold execTcxoReturn at h; injection h with h; subst h; simp only [apply_ite State.frame, ite_self, State.frame_with,
    foldl_frame, implies_true, State.record_frame, State.sdlChange_frame, State.wr_frame]
@[simp] theorem State.alarmFires_frame : ∀ s a1 a2 a3, (State.alarmFires s a1 a2 a3).frame = State.frame s := by
    intros; simp only [State.alarmFires, apply_ite State.frame, ite_self, State.frame_with, foldl_frame, implies_true, State.irq_frame,
    State.wrSat_frame, State.wr_frame]
@[simp] theorem State.alarmCtlWrite_frame : ∀ s n v, (State.alarmCtlWrite s n v).frame = State.frame s := by
  intro s n v
  rw [State.alarmCtlWrite]
  have h := State.applyWrite_frame s (Reg.SDL_ALMnCTL n) v
  revert h
  generalize s.applyWrite (Reg.SDL_ALMnCTL n) v = t
  intro h
  split
  · rfl
  · dsimp only
    split
    · split
      · rw [State.alarmFires_frame, State.frame_with, h]
      · rw [State.frame_with, h]
    · exact h
theorem execAlarmArm_frame : ∀ a0 a1 a2 s, ∀ t, execAlarmArm a0 a1 a2 s = .next t → t.frame = State.frame s := by
    intros; rename_i h; unfold execAlarmArm at h; injection h with h; subst h; simp only [apply_ite State.frame, ite_self, State.frame_with,
    foldl_frame, implies_true, State.alarmCtlWrite_frame, State.fail_frame, State.gate_frame]
theorem execAlarmDisarm_frame : ∀ a0 a1 a2 s, ∀ t, execAlarmDisarm a0 a1 a2 s = .next t → t.frame = State.frame s := by
    intros; rename_i h; unfold execAlarmDisarm at h; injection h with h; subst h; simp only [apply_ite State.frame, ite_self, State.frame_with,
    foldl_frame, implies_true, State.alarmCtlWrite_frame, State.fail_frame, State.gate_frame]
theorem execAlarmFire_frame : ∀ a0 s, ∀ t, execAlarmFire a0 s = .next t → t.frame = State.frame s := by
    intros; rename_i h; unfold execAlarmFire at h; injection h with h; subst h; simp only [apply_ite State.frame, ite_self, State.frame_with,
    foldl_frame, implies_true, State.alarmFires_frame]

/-! ### Rings -/

@[simp] theorem State.ringStart_frame : ∀ s a1 a2, (State.ringStart s a1 a2).frame = State.frame s := by intros; simp only [State.ringStart,
    apply_ite State.frame, ite_self, State.frame_with, foldl_frame, implies_true, State.applyWrite_frame, State.fullBit_frame, State.mapBit_frame,
    State.setRing_frame, State.wr_frame]
@[simp] theorem State.ringCfgWrite_frame : ∀ s a1 a2, (State.ringCfgWrite s a1 a2).frame = State.frame s := by
    intros; simp only [State.ringCfgWrite, apply_ite State.frame, ite_self, State.frame_with, foldl_frame, implies_true, State.applyWrite_frame,
    State.ringRefuse_frame, State.ringStart_frame, State.ringStop_frame]
@[simp] theorem State.ringBaseWrite_frame : ∀ s a1 a2, (State.ringBaseWrite s a1 a2).frame = State.frame s := by
    intros; simp only [State.ringBaseWrite, apply_ite State.frame, ite_self, State.frame_with, foldl_frame, implies_true, State.plainWrite_frame,
    State.ringRefuse_frame]
theorem execRingEnable_frame : ∀ a0 a1 a2 s, ∀ t, execRingEnable a0 a1 a2 s = .next t → t.frame = State.frame s := by
    intros; rename_i h; unfold execRingEnable at h; injection h with h; subst h; simp only [apply_ite State.frame, ite_self, State.frame_with,
    foldl_frame, implies_true, State.fail_frame, State.gate_frame, State.ringCfgWrite_frame]
theorem execRingDisable_frame : ∀ a0 a1 s, ∀ t, execRingDisable a0 a1 s = .next t → t.frame = State.frame s := by
    intros; rename_i h; unfold execRingDisable at h; injection h with h; subst h; simp only [apply_ite State.frame, ite_self, State.frame_with,
    foldl_frame, implies_true, State.fail_frame, State.gate_frame, State.ringCfgWrite_frame]
@[simp] theorem State.doorbell_frame : ∀ s a1 a2, (State.doorbell s a1 a2).frame = State.frame s := by intros; simp only [State.doorbell,
    apply_ite State.frame, ite_self, State.frame_with, foldl_frame, implies_true, State.doorbellRefuse_frame, State.fullBit_frame,
    State.setRing_frame]
theorem execSubmissionDoorbell_frame : ∀ a0 a1 a2 s, ∀ t, execSubmissionDoorbell a0 a1 a2 s = .next t → t.frame = State.frame s := by
    intros; rename_i h; unfold execSubmissionDoorbell at h; injection h with h; subst h; simp only [apply_ite State.frame, ite_self,
    State.frame_with, foldl_frame, implies_true, State.doorbell_frame, State.fail_frame, State.gate_frame]
theorem execCompletionDoorbell_frame : ∀ a0 a1 a2 s, ∀ t, execCompletionDoorbell a0 a1 a2 s = .next t → t.frame = State.frame s := by
    intros; rename_i h; unfold execCompletionDoorbell at h; injection h with h; subst h; simp only [apply_ite State.frame, ite_self,
    State.frame_with, foldl_frame, implies_true, State.doorbell_frame, State.fail_frame, State.gate_frame]
@[simp] theorem State.takeLine_frame : ∀ s a1, (State.takeLine s a1).frame = State.frame s := by intros; simp only [State.takeLine,
    apply_ite State.frame, ite_self, State.frame_with, foldl_frame, implies_true, State.advance_frame, State.complete_frame, State.irq_frame,
    State.poisonLine_frame, State.setRing_frame]
theorem execDescriptorTake_frame : ∀ a0 s, ∀ t, execDescriptorTake a0 s = .next t → t.frame = State.frame s := by
    intros; rename_i h; unfold execDescriptorTake at h; injection h with h; subst h; simp only [apply_ite State.frame, ite_self, State.frame_with,
    foldl_frame, implies_true, State.setRing_frame, State.takeLine_frame]
theorem execPhaseRecheck_frame : ∀ a0 s, ∀ t, execPhaseRecheck a0 s = .next t → t.frame = State.frame s := by
    intros; rename_i h; unfold execPhaseRecheck at h; injection h with h; subst h; dsimp only; (repeat' split) <;> simp only [apply_ite State.frame,
    ite_self, State.frame_with, foldl_frame, implies_true, State.mapBit_frame, State.ringErr_frame, State.setRing_frame, State.takeLine_frame,
    State.wr_frame]
theorem execAtDeadlineStart_frame : ∀ a0 s, ∀ t, execAtDeadlineStart a0 s = .next t → t.frame = State.frame s := by
    intros; rename_i h; unfold execAtDeadlineStart at h; injection h with h; subst h; simp only [apply_ite State.frame, ite_self, State.frame_with,
    foldl_frame, implies_true, State.setRing_frame]

/-! ### Tokens -/

@[simp] theorem State.setToken_frame (s : State) (c : Nat) (k : Token) : (s.setToken c k).frame = s.frame := by
  unfold State.setToken; simp only [State.wrSat_frame, State.frame_with]

@[simp] theorem State.tokGrant_frame (s : State) (c owner act since : Nat) : (s.tokGrant c owner act since).frame = s.frame := by
  unfold State.tokGrant; dsimp only
  split
  · split
    · rw [State.complete_frame, State.frame_with]; simp only [State.setToken_frame, State.measured_frame, State.wr_frame]
    · simp only [State.setToken_frame, State.measured_frame, State.wr_frame]
  · simp only [State.setToken_frame, State.measured_frame, State.wr_frame]

@[simp] theorem State.tokGive_frame (s : State) (c : Nat) : (s.tokGive c).frame = s.frame := by
  unfold State.tokGive; dsimp only
  split <;> simp only [State.tokGrant_frame, State.setToken_frame, State.wr_frame]

@[simp] theorem State.tokAsk_frame (s : State) (c owner act : Nat) : (s.tokAsk c owner act).1.frame = s.frame := by
  unfold State.tokAsk
  split
  · exact State.tokGrant_frame _ _ _ _ _
  · split
    · rfl
    · split
      · rfl
      · exact State.setToken_frame _ _ _


end Sys2Proof.Machine
end

