-- ==== Sys2Proof/Laws/SMap.lean ====
section
/-! SUPPORT. The laws of the sparse map: a read after a write, other keys untouched, and the canonical form kept. -/

namespace Sys2Proof.Machine

variable {α : Type}

theorem SMap.get_erase_same (d : Nat → α) (m : SMap α) (k : Nat) : SMap.get d (SMap.erase m k) k = d k := by
  induction m with
  | nil => rfl
  | cons e r ih =>
    obtain ⟨j, v⟩ := e
    unfold SMap.erase
    split
    · exact ih
    · next h => simp only [SMap.get, if_neg h]; exact ih

theorem SMap.get_erase_other (d : Nat → α) (m : SMap α) {k k' : Nat} (h : k' ≠ k) :
    SMap.get d (SMap.erase m k) k' = SMap.get d m k' := by
  induction m with
  | nil => rfl
  | cons e r ih =>
    obtain ⟨j, v⟩ := e
    unfold SMap.erase
    split
    · next hj =>
      subst hj
      simp only [SMap.get, if_neg (Ne.symm h)]; exact ih
    · simp only [SMap.get]; split
      · rfl
      · exact ih

theorem SMap.get_insert_same (d : Nat → α) (m : SMap α) (k : Nat) (v : α) : SMap.get d (SMap.insert m k v) k = v := by
  induction m with
  | nil => simp [SMap.insert, SMap.get]
  | cons e r ih =>
    obtain ⟨j, w⟩ := e
    unfold SMap.insert
    split
    · simp [SMap.get]
    · split
      · simp [SMap.get]
      · next h _ => simp only [SMap.get, if_neg h]; exact ih

theorem SMap.get_insert_other (d : Nat → α) (m : SMap α) {k k' : Nat} (v : α) (h : k' ≠ k) :
    SMap.get d (SMap.insert m k v) k' = SMap.get d m k' := by
  induction m with
  | nil => simp [SMap.insert, SMap.get, Ne.symm h]
  | cons e r ih =>
    obtain ⟨j, w⟩ := e
    unfold SMap.insert
    split
    · next hj => subst hj; simp [SMap.get, Ne.symm h]
    · split
      · simp [SMap.get, Ne.symm h]
      · simp only [SMap.get]; split
        · rfl
        · exact ih

variable [DecidableEq α]

/-- Reading the key just written gives the value written. -/
theorem SMap.get_set_same (d : Nat → α) (m : SMap α) (k : Nat) (v : α) : SMap.get d (SMap.set d m k v) k = v := by
  unfold SMap.set
  split
  · next h => rw [SMap.get_erase_same]; exact h.symm
  · exact SMap.get_insert_same d m k v

/-- A write leaves every other key alone. -/
theorem SMap.get_set_other (d : Nat → α) (m : SMap α) {k k' : Nat} (v : α) (h : k' ≠ k) :
    SMap.get d (SMap.set d m k v) k' = SMap.get d m k' := by
  unfold SMap.set
  split
  · exact SMap.get_erase_other d m h
  · exact SMap.get_insert_other d m v h

theorem SMap.wfFrom_mono (d : Nat → α) (m : SMap α) {a b : Nat} (hab : a ≤ b) (h : SMap.wfFrom d b m = true) :
    SMap.wfFrom d a m = true := by
  cases m with
  | nil => rfl
  | cons e r =>
    obtain ⟨j, v⟩ := e
    simp only [SMap.wfFrom, Bool.and_eq_true, decide_eq_true_eq] at h ⊢
    exact ⟨⟨Nat.le_trans hab h.1.1, h.1.2⟩, h.2⟩

theorem SMap.wfFrom_erase (d : Nat → α) (m : SMap α) (k : Nat) {a : Nat} (h : SMap.wfFrom d a m = true) :
    SMap.wfFrom d a (SMap.erase m k) = true := by
  induction m generalizing a with
  | nil => rfl
  | cons e r ih =>
    obtain ⟨j, v⟩ := e
    simp only [SMap.wfFrom, Bool.and_eq_true, decide_eq_true_eq] at h
    unfold SMap.erase
    split
    · exact SMap.wfFrom_mono d _ (Nat.le_succ_of_le h.1.1) (ih h.2)
    · simp only [SMap.wfFrom, Bool.and_eq_true, decide_eq_true_eq]
      exact ⟨h.1, ih h.2⟩

theorem SMap.wfFrom_insert (d : Nat → α) (m : SMap α) {k a : Nat} {v : α} (hk : a ≤ k) (hv : v ≠ d k)
    (h : SMap.wfFrom d a m = true) : SMap.wfFrom d a (SMap.insert m k v) = true := by
  induction m generalizing a with
  | nil => simp [SMap.insert, SMap.wfFrom, hk, hv]
  | cons e r ih =>
    obtain ⟨j, w⟩ := e
    simp only [SMap.wfFrom, Bool.and_eq_true, decide_eq_true_eq] at h
    unfold SMap.insert
    split
    · next hj =>
      subst hj
      simp only [SMap.wfFrom, Bool.and_eq_true, decide_eq_true_eq]
      exact ⟨⟨hk, hv⟩, h.2⟩
    · split
      · next hlt =>
        simp only [SMap.wfFrom, Bool.and_eq_true, decide_eq_true_eq]
        exact ⟨⟨hk, hv⟩, ⟨hlt, h.1.2⟩, h.2⟩
      · next h1 h2 =>
        simp only [SMap.wfFrom, Bool.and_eq_true, decide_eq_true_eq]
        exact ⟨h.1, ih (by omega) h.2⟩

/-- A write keeps the canonical form. -/
theorem SMap.wf_set (d : Nat → α) (m : SMap α) (k : Nat) (v : α) (h : SMap.wf d m = true) :
    SMap.wf d (SMap.set d m k v) = true := by
  unfold SMap.wf SMap.set at *
  split
  · exact SMap.wfFrom_erase d m k h
  · next hv => exact SMap.wfFrom_insert d m (Nat.zero_le k) hv h

/-- A bulk return to the default keeps the canonical form. -/
theorem SMap.wfFrom_keep (d : Nat → α) (p : Nat → Bool) (m : SMap α) {a : Nat} (h : SMap.wfFrom d a m = true) :
    SMap.wfFrom d a (SMap.keep p m) = true := by
  induction m generalizing a with
  | nil => rfl
  | cons e r ih =>
    obtain ⟨j, v⟩ := e
    simp only [SMap.wfFrom, Bool.and_eq_true, decide_eq_true_eq] at h
    unfold SMap.keep
    by_cases hp : p j = true
    · rw [List.filter_cons_of_pos (by simpa using hp)]
      simp only [SMap.wfFrom, Bool.and_eq_true, decide_eq_true_eq]
      exact ⟨h.1, ih h.2⟩
    · rw [List.filter_cons_of_neg (by simpa using hp)]
      exact SMap.wfFrom_mono d _ (Nat.le_succ_of_le h.1.1) (ih h.2)

end Sys2Proof.Machine
end

