-- ==== Sys2Proof/Laws/Memory.lean ====
section
/-! SUPPORT. The laws of memory: a byte reads as written, a write leaves every other byte alone, and every operation of memory
keeps its canonical form. -/

namespace Sys2Proof.Machine

/-! ### Blobs -/

theorem Memory.blobsFrom_mono {bs : List Blob} {a b : Nat} (hab : a ≤ b) (h : Memory.blobsFrom b bs = true) :
    Memory.blobsFrom a bs = true := by
  cases bs with
  | nil => rfl
  | cons c r =>
    simp only [Memory.blobsFrom, Bool.and_eq_true, decide_eq_true_eq] at h ⊢
    exact ⟨⟨Nat.le_trans hab h.1.1, h.1.2⟩, h.2⟩

theorem Memory.blobsFrom_punch {bs : List Blob} {a lo len : Nat} (hl : 0 < len) (h : Memory.blobsFrom a bs = true) :
    Memory.blobsFrom a (Memory.punch lo len bs) = true := by
  induction bs generalizing a with
  | nil => rfl
  | cons c r ih =>
    simp only [Memory.blobsFrom, Bool.and_eq_true, decide_eq_true_eq] at h
    have hr := ih h.2
    unfold Memory.punch
    split
    · simp only [Memory.blobsFrom, Bool.and_eq_true, decide_eq_true_eq]
      exact ⟨h.1, hr⟩
    · by_cases h1 : c.lo < lo <;> by_cases h2 : lo + len < c.lo + c.len <;>
        simp only [h1, h2, if_true, if_false, List.nil_append, List.cons_append, Memory.blobsFrom, Bool.and_eq_true, decide_eq_true_eq]
      · exact ⟨⟨h.1.1, by omega⟩, ⟨by omega, by omega⟩, Memory.blobsFrom_mono (by omega) hr⟩
      · exact ⟨⟨h.1.1, by omega⟩, Memory.blobsFrom_mono (by omega) hr⟩
      · exact ⟨⟨by omega, by omega⟩, Memory.blobsFrom_mono (by omega) hr⟩
      · exact Memory.blobsFrom_mono (by omega) hr

/-- What a punched list holds lies outside the range and inside a blob of the list before. -/
theorem Memory.mem_punch {bs : List Blob} {lo len : Nat} {b : Blob} (hb : b ∈ Memory.punch lo len bs) :
    (b.lo + b.len ≤ lo ∨ lo + len ≤ b.lo) ∧ ∃ c ∈ bs, c.lo ≤ b.lo ∧ b.lo + b.len ≤ c.lo + c.len ∧ b.seed = c.seed := by
  induction bs with
  | nil => simp [Memory.punch] at hb
  | cons c r ih =>
    unfold Memory.punch at hb
    split at hb
    · next hc =>
      rcases List.mem_cons.mp hb with rfl | hb
      · exact ⟨hc, _, List.mem_cons_self, Nat.le_refl _, Nat.le_refl _, rfl⟩
      · obtain ⟨h1, d, hd, h2⟩ := ih hb
        exact ⟨h1, d, List.mem_cons_of_mem _ hd, h2⟩
    · rw [List.mem_append, List.mem_append] at hb
      rcases hb with (hb | hb) | hb
      · split at hb
        · simp only [List.mem_singleton] at hb
          subst hb
          exact ⟨.inl (by simp only; omega), c, List.mem_cons_self, by simp only; omega, by simp only; omega, rfl⟩
        · simp at hb
      · split at hb
        · simp only [List.mem_singleton] at hb
          subst hb
          exact ⟨.inr (by simp only; omega), c, List.mem_cons_self, by simp only; omega, by simp only; omega, rfl⟩
        · simp at hb
      · obtain ⟨h1, d, hd, h2⟩ := ih hb
        exact ⟨h1, d, List.mem_cons_of_mem _ hd, h2⟩

theorem Memory.mem_placeBlob {bs : List Blob} {n b : Blob} : b ∈ Memory.placeBlob n bs ↔ b = n ∨ b ∈ bs := by
  induction bs with
  | nil => simp [Memory.placeBlob]
  | cons c r ih =>
    unfold Memory.placeBlob
    split
    · simp
    · simp only [List.mem_cons, ih]
      tauto

theorem Memory.blobsFrom_placeBlob {bs : List Blob} {n : Blob} {a : Nat} (h : Memory.blobsFrom a bs = true) (ha : a ≤ n.lo) (hn : 0 < n.len)
    (hd : ∀ b ∈ bs, b.lo + b.len ≤ n.lo ∨ n.lo + n.len ≤ b.lo) : Memory.blobsFrom a (Memory.placeBlob n bs) = true := by
  induction bs generalizing a with
  | nil => simp [Memory.placeBlob, Memory.blobsFrom, ha, hn]
  | cons c r ih =>
    simp only [Memory.blobsFrom, Bool.and_eq_true, decide_eq_true_eq] at h
    have hc := hd c List.mem_cons_self
    unfold Memory.placeBlob
    split
    · simp only [Memory.blobsFrom, Bool.and_eq_true, decide_eq_true_eq]
      exact ⟨⟨ha, hn⟩, ⟨by omega, h.1.2⟩, h.2⟩
    · simp only [Memory.blobsFrom, Bool.and_eq_true, decide_eq_true_eq]
      exact ⟨h.1, ih h.2 (by omega) (fun b hb => hd b (List.mem_cons_of_mem _ hb))⟩

theorem Memory.blobsApart_iff {bytes : List Host.Cell} {bs : List Blob} :
    Memory.blobsApart bytes bs = true ↔ ∀ b ∈ bs, ∀ c ∈ bytes, c.1 < b.lo ∨ b.lo + b.len ≤ c.1 := by
  simp [Memory.blobsApart]

theorem Memory.blobAt_none {bs : List Blob} {a : Nat} (h : ∀ b ∈ bs, a < b.lo ∨ b.lo + b.len ≤ a) : Memory.blobAt bs a = none := by
  rw [Memory.blobAt, List.find?_eq_none]
  intro b hb
  have := h b hb
  simp only [Bool.and_eq_true, decide_eq_true_eq]
  omega

/-- Outside the range a punched list gives the blob content it gave before. -/
theorem Memory.blobAt_punch {bs : List Blob} {lo len a : Nat} (h : a < lo ∨ lo + len ≤ a) :
    (Memory.blobAt (Memory.punch lo len bs) a).map Blob.seed = (Memory.blobAt bs a).map Blob.seed := by
  induction bs with
  | nil => rfl
  | cons c r ih =>
    unfold Memory.blobAt at *
    unfold Memory.punch
    split
    · rw [List.find?_cons, List.find?_cons]
      split <;> simp_all
    · rw [List.find?_cons (as := r), List.find?_append, List.find?_append]
      by_cases hin : c.lo ≤ a ∧ a < c.lo + c.len
      · simp only [hin.1, hin.2, decide_true, Bool.and_self]
        rcases h with h | h
        · rw [if_pos (by omega)]
          simp [hin.1, show a < c.lo + (lo - c.lo) by omega]
        · by_cases h1 : c.lo < lo
          · rw [if_pos h1, if_pos (by omega)]
            simp [h, show ¬ a < c.lo + (lo - c.lo) by omega, show a < lo + len + (c.lo + c.len - (lo + len)) by omega]
          · rw [if_neg h1, if_pos (by omega)]
            simp [h, show a < lo + len + (c.lo + c.len - (lo + len)) by omega]
      · have e1 : (if c.lo < lo then [{ c with len := lo - c.lo }] else ([] : List Blob)).find? (fun b => decide (b.lo ≤ a) && decide (a < b.lo + b.len)) = none := by
          split
          · simp; omega
          · rfl
        have e2 : (if lo + len < c.lo + c.len then [{ c with lo := lo + len, len := c.lo + c.len - (lo + len) }] else ([] : List Blob)).find? (fun b => decide (b.lo ≤ a) && decide (a < b.lo + b.len)) = none := by
          split
          · simp; omega
          · rfl
        rw [e1, e2]
        have e3 : (decide (c.lo ≤ a) && decide (a < c.lo + c.len)) = false := by simp; omega
        simp [e3, ih]

/-! ### Reads and writes -/

/-- The byte just written reads back. -/
theorem Memory.read_write_same (m : Memory) (a : Nat) (v : Byte) : (m.write a v).read a = v := by
  have h : Memory.blobAt (Memory.punch a 1 m.blobs) a = none := by
    apply Memory.blobAt_none
    intro b hb
    have := (Memory.mem_punch hb).1
    omega
  simp only [Memory.read, Memory.write, h, SMap.get_set_same]

/-- A write leaves every other byte alone. -/
theorem Memory.read_write_other (m : Memory) {a x : Nat} (v : Byte) (h : x ≠ a) : (m.write a v).read x = m.read x := by
  have hb := Memory.blobAt_punch (bs := m.blobs) (lo := a) (len := 1) (a := x) (by omega)
  simp only [Memory.read, Memory.write]
  cases h1 : Memory.blobAt (Memory.punch a 1 m.blobs) x <;> cases h2 : Memory.blobAt m.blobs x <;> simp_all [SMap.get_set_other]

/-- A run of bytes leaves the bytes outside it alone. -/
theorem Memory.read_writeBytes_other (m : Memory) {a x : Nat} (bs : Bytes) (h : x < a ∨ a + bs.length ≤ x) :
    (m.writeBytes a bs).read x = m.read x := by
  induction bs generalizing m a with
  | nil => rfl
  | cons b r ih =>
    simp only [List.length_cons] at h
    simp only [Memory.writeBytes]
    rw [ih (m.write a b) (by omega), Memory.read_write_other m b (by omega)]

/-- A run of bytes reads back byte by byte. -/
theorem Memory.read_writeBytes_same (m : Memory) {a i : Nat} (bs : Bytes) (h : i < bs.length) :
    (m.writeBytes a bs).read (a + i) = bs[i] := by
  induction bs generalizing m a i with
  | nil => simp at h
  | cons b r ih =>
    simp only [Memory.writeBytes]
    cases i with
    | zero =>
      rw [Memory.read_writeBytes_other _ r (by omega), Nat.add_zero, Memory.read_write_same]
      rfl
    | succ k =>
      rw [show a + (k + 1) = a + 1 + k by omega, ih (m.write a b) (by simpa using h)]
      rfl

/-! ### The canonical form -/

theorem SMap.mem_erase {α : Type} {m : SMap α} {k : Nat} {c : Nat × α} (h : c ∈ SMap.erase m k) : c ∈ m ∧ c.1 ≠ k := by
  induction m with
  | nil => simp [SMap.erase] at h
  | cons e r ih =>
    obtain ⟨j, v⟩ := e
    unfold SMap.erase at h
    split at h
    · exact ⟨List.mem_cons_of_mem _ (ih h).1, (ih h).2⟩
    · rcases List.mem_cons.mp h with rfl | h
      · exact ⟨List.mem_cons_self, by assumption⟩
      · exact ⟨List.mem_cons_of_mem _ (ih h).1, (ih h).2⟩

theorem SMap.mem_insert {α : Type} {m : SMap α} {k : Nat} {v : α} {c : Nat × α} (h : c ∈ SMap.insert m k v) : c = (k, v) ∨ c ∈ m := by
  induction m with
  | nil => simpa [SMap.insert] using h
  | cons e r ih =>
    obtain ⟨j, w⟩ := e
    unfold SMap.insert at h
    split at h
    · rcases List.mem_cons.mp h with rfl | h
      · exact .inl rfl
      · exact .inr (List.mem_cons_of_mem _ h)
    · split at h
      · exact List.mem_cons.mp h
      · rcases List.mem_cons.mp h with rfl | h
        · exact .inr List.mem_cons_self
        · exact (ih h).imp id (List.mem_cons_of_mem _)

theorem SMap.mem_set {α : Type} [DecidableEq α] {d : Nat → α} {m : SMap α} {k : Nat} {v : α} {c : Nat × α} (h : c ∈ SMap.set d m k v) :
    c.1 = k ∨ c ∈ m := by
  unfold SMap.set at h
  split at h
  · exact .inr (SMap.mem_erase h).1
  · exact (SMap.mem_insert h).imp (fun e => by rw [e]) id

theorem risingFrom_mono {l : List Nat} {a b : Nat} (hab : a ≤ b) (h : risingFrom b l = true) : risingFrom a l = true := by
  cases l with
  | nil => rfl
  | cons j r =>
    simp only [risingFrom, Bool.and_eq_true, decide_eq_true_eq] at h ⊢
    exact ⟨Nat.le_trans hab h.1, h.2⟩

theorem risingFrom_filter {l : List Nat} {a : Nat} (p : Nat → Bool) (h : risingFrom a l = true) : risingFrom a (l.filter p) = true := by
  induction l generalizing a with
  | nil => rfl
  | cons j r ih =>
    simp only [risingFrom, Bool.and_eq_true, decide_eq_true_eq] at h
    by_cases hp : p j = true
    · rw [List.filter_cons_of_pos hp]
      simp only [risingFrom, Bool.and_eq_true, decide_eq_true_eq]
      exact ⟨h.1, ih h.2⟩
    · rw [List.filter_cons_of_neg hp]
      exact risingFrom_mono (by omega) (ih h.2)

theorem risingFrom_insertNat {l : List Nat} {a k : Nat} (hk : a ≤ k) (h : risingFrom a l = true) : risingFrom a (insertNat k l) = true := by
  induction l generalizing a with
  | nil => simp [insertNat, risingFrom, hk]
  | cons j r ih =>
    simp only [risingFrom, Bool.and_eq_true, decide_eq_true_eq] at h
    unfold insertNat
    split
    · simp only [risingFrom, Bool.and_eq_true, decide_eq_true_eq]
      exact ⟨hk, by omega, h.2⟩
    · split
      · simp only [risingFrom, Bool.and_eq_true, decide_eq_true_eq]
        exact h
      · simp only [risingFrom, Bool.and_eq_true, decide_eq_true_eq]
        exact ⟨h.1, ih (by omega) h.2⟩

/-- The parts of the canonical form. -/
theorem Memory.wf_iff (m : Memory) : m.wf = true ↔ SMap.wf Memory.unlisted m.bytes = true ∧ Memory.blobsFrom 0 m.blobs = true ∧
    (∀ b ∈ m.blobs, ∀ c ∈ m.bytes, c.1 < b.lo ∨ b.lo + b.len ≤ c.1) ∧ risingFrom 0 m.poison = true := by
  unfold Memory.wf
  simp only [Bool.and_eq_true, Memory.blobsApart_iff]
  tauto

/-- A byte write keeps the canonical form. -/
theorem Memory.wf_write {m : Memory} (a : Nat) (v : Byte) (h : m.wf = true) : (m.write a v).wf = true := by
  rw [Memory.wf_iff] at *
  refine ⟨SMap.wf_set _ _ _ _ h.1, Memory.blobsFrom_punch (by omega) h.2.1, ?_, h.2.2.2⟩
  intro b hb c hc
  obtain ⟨h1, d, hd, h2, h3, _⟩ := Memory.mem_punch hb
  rcases SMap.mem_set hc with e | hc
  · omega
  · have := h.2.2.1 d hd c hc
    omega

/-- A run of bytes keeps the canonical form. -/
theorem Memory.wf_writeBytes {m : Memory} (a : Nat) (bs : Bytes) (h : m.wf = true) : (m.writeBytes a bs).wf = true := by
  induction bs generalizing m a with
  | nil => exact h
  | cons b r ih => exact ih (a + 1) (Memory.wf_write a b h)

theorem Memory.keep_wf {m : Memory} {lo len : Nat} (hl : 0 < len) (h : m.wf = true) :
    let k := SMap.keep (fun a => decide (a < lo) || decide (lo + len ≤ a)) m.bytes
    SMap.wf Memory.unlisted k = true ∧ Memory.blobsFrom 0 (Memory.punch lo len m.blobs) = true ∧
    (∀ b ∈ Memory.punch lo len m.blobs, ∀ c ∈ k, c.1 < b.lo ∨ b.lo + b.len ≤ c.1) := by
  rw [Memory.wf_iff] at h
  refine ⟨SMap.wfFrom_keep _ _ _ h.1, Memory.blobsFrom_punch hl h.2.1, ?_⟩
  intro b hb c hc
  obtain ⟨_, d, hd, h2, h3, _⟩ := Memory.mem_punch hb
  have := h.2.2.1 d hd c (List.mem_of_mem_filter hc)
  omega

/-- A range of open content keeps the canonical form. -/
theorem Memory.wf_free {m : Memory} (lo len : Nat) (seed : Content) (h : m.wf = true) : (m.free lo len seed).wf = true := by
  unfold Memory.free
  split
  · exact h
  · next hl =>
    have hk := Memory.keep_wf (lo := lo) (len := len) (by omega) h
    rw [Memory.wf_iff] at h ⊢
    refine ⟨hk.1, Memory.blobsFrom_placeBlob hk.2.1 (Nat.zero_le _) (by simp only; omega) (fun b hb => (Memory.mem_punch hb).1), ?_, h.2.2.2⟩
    intro b hb c hc
    rcases Memory.mem_placeBlob.mp hb with rfl | hb
    · have hc := (List.mem_filter.mp hc).2
      simpa using hc
    · exact hk.2.2 b hb c hc

/-- A range of zeros keeps the canonical form. -/
theorem Memory.wf_zero {m : Memory} (lo len : Nat) (h : m.wf = true) : (m.zero lo len).wf = true := by
  unfold Memory.zero
  split
  · exact h
  · next hl =>
    have hk := Memory.keep_wf (lo := lo) (len := len) (by omega) h
    rw [Memory.wf_iff] at h ⊢
    exact ⟨hk.1, hk.2.1, hk.2.2, h.2.2.2⟩

/-- A mark keeps the canonical form. -/
theorem Memory.wf_mark {m : Memory} (g : Nat) (p : Bool) (h : m.wf = true) : (m.mark g p).wf = true := by
  rw [Memory.wf_iff] at *
  refine ⟨h.1, h.2.1, h.2.2.1, ?_⟩
  cases p
  · exact risingFrom_filter _ h.2.2.2
  · exact risingFrom_insertNat (Nat.zero_le _) h.2.2.2

/-- Marks over a range keep the canonical form. -/
theorem Memory.wf_remark {m : Memory} (a n : Nat) (p : Bool) (h : m.wf = true) : (m.remark a n p).wf = true := by
  unfold Memory.remark
  split
  · generalize granulesOf a n = l
    induction l generalizing m with
    | nil => exact h
    | cons g r ih => exact ih (Memory.wf_mark g true h)
  · rw [Memory.wf_iff] at *
    exact ⟨h.1, h.2.1, h.2.2.1, risingFrom_filter _ h.2.2.2⟩

/-- Memory right after reset is canonical. -/
theorem State.reset_memWf : State.reset.mem.wf = true := by decide

end Sys2Proof.Machine
end

