-- ==== Sys2Proof/Laws/Regs.lean ====
section
/-! SUPPORT. The laws of registers and fields: a field reads as written, and every other field and register is left alone. -/

namespace Sys2Proof.Machine

/-! ### Bits of a word -/

theorem getBits_testBit (w : W32) (hi lo i : Nat) :
    (getBits w hi lo).testBit i = (decide (i < hi + 1 - lo) && w.toNat.testBit (lo + i)) := by
  unfold getBits
  rw [Nat.testBit_mod_two_pow, Nat.testBit_shiftRight]

theorem fieldMask_testBit {hi lo : Nat} (h : hi < 32) (i : Nat) :
    (fieldMask hi lo).toNat.testBit i = (decide (lo ≤ i) && decide (i ≤ hi)) := by
  unfold fieldMask
  rw [BitVec.toNat_ofNat, Nat.testBit_mod_two_pow, Nat.testBit_shiftLeft, Nat.testBit_two_pow_sub_one]
  rw [Bool.eq_iff_iff]
  simp only [Bool.and_eq_true, decide_eq_true_eq]
  omega

theorem setBits_testBit {hi lo : Nat} (h : hi < 32) (w : W32) (v i : Nat) (hi32 : i < 32) :
    (setBits w hi lo v).toNat.testBit i =
      if lo ≤ i ∧ i ≤ hi then v.testBit (i - lo) else w.toNat.testBit i := by
  unfold setBits
  rw [BitVec.toNat_or, Nat.testBit_or, BitVec.toNat_and, Nat.testBit_and, BitVec.toNat_not]
  rw [Nat.sub_sub, Nat.add_comm, ← Nat.sub_sub, Nat.sub_right_comm]
  rw [show 2 ^ 32 - 1 - (fieldMask hi lo).toNat = 2 ^ 32 - ((fieldMask hi lo).toNat + 1) by omega]
  rw [Nat.testBit_two_pow_sub_succ (fieldMask hi lo).isLt, fieldMask_testBit h, BitVec.toNat_ofNat, Nat.testBit_mod_two_pow,
    Nat.testBit_shiftLeft, Nat.testBit_mod_two_pow]
  by_cases h1 : lo ≤ i
  · by_cases h2 : i ≤ hi
    · simp [h1, h2, hi32, show i - lo < hi + 1 - lo by omega]
    · simp [h1, h2, hi32, show ¬ i - lo < hi + 1 - lo by omega]
  · simp [h1, hi32]

/-- A field reads as it was written, cut to its width. -/
theorem getBits_setBits_same {hi lo : Nat} (h : hi < 32) (w : W32) (v : Nat) :
    getBits (setBits w hi lo v) hi lo = v % 2 ^ (hi + 1 - lo) := by
  apply Nat.eq_of_testBit_eq
  intro i
  rw [getBits_testBit, Nat.testBit_mod_two_pow]
  by_cases h1 : i < hi + 1 - lo
  · rw [setBits_testBit h w v (lo + i) (by omega)]
    simp [h1, show lo + i ≤ hi by omega]
  · simp [h1]

/-- Writing a field leaves a field beside it alone. -/
theorem getBits_setBits_other {hi lo hi' lo' : Nat} (h : hi < 32) (h' : hi' < 32) (hd : hi < lo' ∨ hi' < lo) (w : W32) (v : Nat) :
    getBits (setBits w hi lo v) hi' lo' = getBits w hi' lo' := by
  apply Nat.eq_of_testBit_eq
  intro i
  rw [getBits_testBit, getBits_testBit]
  by_cases h1 : i < hi' + 1 - lo'
  · rw [setBits_testBit h w v (lo' + i) (by omega), if_neg (by omega)]
  · simp [h1]

/-! ### Registers -/

@[simp] theorem State.reg_setReg_same (s : State) (k : Nat) (w : W32) : (s.setReg k w).reg k = w :=
  SMap.get_set_same _ _ _ _

theorem State.reg_setReg_other (s : State) {k k' : Nat} (w : W32) (h : k' ≠ k) : (s.setReg k w).reg k' = s.reg k' :=
  SMap.get_set_other _ _ _ h

/-- A register is left alone by a write of a field of another. -/
theorem State.reg_wr_other (s : State) {f : Fld} {k : Nat} (v : Nat) (h : k ≠ f.addr) : (s.wr f v).reg k = s.reg k :=
  s.reg_setReg_other _ h

/-- A field reads as it was written, cut to its width. -/
theorem State.rd_wr_same (s : State) (f : Fld) (v : Nat) (h : f.hi < 32) : (s.wr f v).rd f = v % 2 ^ (f.hi + 1 - f.lo) := by
  unfold State.rd State.wr
  rw [State.reg_setReg_same, getBits_setBits_same h]

/-- A field of another register is left alone. -/
theorem State.rd_wr_other (s : State) {f g : Fld} (v : Nat) (h : g.addr ≠ f.addr) : (s.wr f v).rd g = s.rd g := by
  unfold State.rd
  rw [s.reg_wr_other v h]

/-- A field beside the one written is left alone. -/
theorem State.rd_wr_beside (s : State) {f g : Fld} (v : Nat) (hf : f.hi < 32) (hg : g.hi < 32) (h : f.hi < g.lo ∨ g.hi < f.lo) :
    (s.wr f v).rd g = s.rd g := by
  by_cases ha : g.addr = f.addr
  · unfold State.rd State.wr
    rw [ha, State.reg_setReg_same, getBits_setBits_other hf hg h]
  · exact s.rd_wr_other v ha

end Sys2Proof.Machine
end

