-- ==== Sys2Proof/Laws/State.lean ====
section
/-! SUPPORT. What the plain updates of the state leave unchanged: one conjunct per field, each true by unfolding, so that no later proof
unfolds a record update. -/

namespace Sys2Proof.Machine

/-- `State.setReg` changes nothing but `regs`. -/
@[simp] theorem State.setReg_keeps (s : State) (key : Nat) (w : W32) :
    (s.setReg key w).code = s.code ∧ (s.setReg key w).hwrev = s.hwrev ∧ (s.setReg key w).rootOn = s.rootOn ∧ (s.setReg key w).bedOn = s.bedOn ∧
    (s.setReg key w).canopyOn = s.canopyOn ∧ (s.setReg key w).now = s.now ∧ (s.setReg key w).rootRegs = s.rootRegs ∧
    (s.setReg key w).latches = s.latches ∧ (s.setReg key w).wide = s.wide ∧ (s.setReg key w).banks = s.banks ∧
    (s.setReg key w).badParity = s.badParity ∧ (s.setReg key w).mem = s.mem ∧ (s.setReg key w).resp = s.resp ∧ (s.setReg key w).irqs = s.irqs ∧
    (s.setReg key w).free = s.free ∧ (s.setReg key w).fab = s.fab ∧ (s.setReg key w).bridge = s.bridge ∧ (s.setReg key w).rings = s.rings ∧
    (s.setReg key w).mbxStage = s.mbxStage ∧ (s.setReg key w).held = s.held ∧ (s.setReg key w).mbxOwed = s.mbxOwed ∧ (s.setReg key w).evr = s.evr ∧
    (s.setReg key w).tim = s.tim ∧ (s.setReg key w).toks = s.toks ∧ (s.setReg key w).ing = s.ing ∧ (s.setReg key w).cam = s.cam ∧
    (s.setReg key w).pra = s.pra ∧ (s.setReg key w).prod = s.prod ∧ (s.setReg key w).gns = s.gns ∧ (s.setReg key w).trl = s.trl ∧
    (s.setReg key w).fur = s.fur ∧ (s.setReg key w).vlv = s.vlv ∧ (s.setReg key w).lsw = s.lsw ∧ (s.setReg key w).outs = s.outs ∧
    (s.setReg key w).can = s.can ∧ (s.setReg key w).eth = s.eth ∧ (s.setReg key w).pan = s.pan ∧ (s.setReg key w).dram = s.dram ∧
    (s.setReg key w).nand = s.nand ∧ (s.setReg key w).traps = s.traps ∧ (s.setReg key w).ter = s.ter ∧ (s.setReg key w).pce = s.pce ∧
    (s.setReg key w).pwr = s.pwr ∧ (s.setReg key w).hlt = s.hlt ∧ (s.setReg key w).upd = s.upd ∧ (s.setReg key w).pending = s.pending := by
  exact ⟨rfl, rfl, rfl, rfl, rfl, rfl, rfl, rfl, rfl, rfl, rfl, rfl, rfl, rfl, rfl, rfl, rfl, rfl, rfl, rfl, rfl, rfl, rfl, rfl, rfl, rfl, rfl, rfl,
    rfl, rfl, rfl, rfl, rfl, rfl, rfl, rfl, rfl, rfl, rfl, rfl, rfl, rfl, rfl, rfl, rfl, rfl⟩

/-- `State.wr` changes nothing but `regs`. -/
@[simp] theorem State.wr_keeps (s : State) (f : Fld) (v : Nat) :
    (s.wr f v).code = s.code ∧ (s.wr f v).hwrev = s.hwrev ∧ (s.wr f v).rootOn = s.rootOn ∧ (s.wr f v).bedOn = s.bedOn ∧
    (s.wr f v).canopyOn = s.canopyOn ∧ (s.wr f v).now = s.now ∧ (s.wr f v).rootRegs = s.rootRegs ∧ (s.wr f v).latches = s.latches ∧
    (s.wr f v).wide = s.wide ∧ (s.wr f v).banks = s.banks ∧ (s.wr f v).badParity = s.badParity ∧ (s.wr f v).mem = s.mem ∧ (s.wr f v).resp = s.resp ∧
    (s.wr f v).irqs = s.irqs ∧ (s.wr f v).free = s.free ∧ (s.wr f v).fab = s.fab ∧ (s.wr f v).bridge = s.bridge ∧ (s.wr f v).rings = s.rings ∧
    (s.wr f v).mbxStage = s.mbxStage ∧ (s.wr f v).held = s.held ∧ (s.wr f v).mbxOwed = s.mbxOwed ∧ (s.wr f v).evr = s.evr ∧ (s.wr f v).tim = s.tim ∧
    (s.wr f v).toks = s.toks ∧ (s.wr f v).ing = s.ing ∧ (s.wr f v).cam = s.cam ∧ (s.wr f v).pra = s.pra ∧ (s.wr f v).prod = s.prod ∧
    (s.wr f v).gns = s.gns ∧ (s.wr f v).trl = s.trl ∧ (s.wr f v).fur = s.fur ∧ (s.wr f v).vlv = s.vlv ∧ (s.wr f v).lsw = s.lsw ∧
    (s.wr f v).outs = s.outs ∧ (s.wr f v).can = s.can ∧ (s.wr f v).eth = s.eth ∧ (s.wr f v).pan = s.pan ∧ (s.wr f v).dram = s.dram ∧
    (s.wr f v).nand = s.nand ∧ (s.wr f v).traps = s.traps ∧ (s.wr f v).ter = s.ter ∧ (s.wr f v).pce = s.pce ∧ (s.wr f v).pwr = s.pwr ∧
    (s.wr f v).hlt = s.hlt ∧ (s.wr f v).upd = s.upd ∧ (s.wr f v).pending = s.pending := by
  exact ⟨rfl, rfl, rfl, rfl, rfl, rfl, rfl, rfl, rfl, rfl, rfl, rfl, rfl, rfl, rfl, rfl, rfl, rfl, rfl, rfl, rfl, rfl, rfl, rfl, rfl, rfl, rfl, rfl,
    rfl, rfl, rfl, rfl, rfl, rfl, rfl, rfl, rfl, rfl, rfl, rfl, rfl, rfl, rfl, rfl, rfl, rfl⟩

/-- `State.wrB` changes nothing but `regs`. -/
@[simp] theorem State.wrB_keeps (s : State) (f : Fld) (b : Bool) :
    (s.wrB f b).code = s.code ∧ (s.wrB f b).hwrev = s.hwrev ∧ (s.wrB f b).rootOn = s.rootOn ∧ (s.wrB f b).bedOn = s.bedOn ∧
    (s.wrB f b).canopyOn = s.canopyOn ∧ (s.wrB f b).now = s.now ∧ (s.wrB f b).rootRegs = s.rootRegs ∧ (s.wrB f b).latches = s.latches ∧
    (s.wrB f b).wide = s.wide ∧ (s.wrB f b).banks = s.banks ∧ (s.wrB f b).badParity = s.badParity ∧ (s.wrB f b).mem = s.mem ∧
    (s.wrB f b).resp = s.resp ∧ (s.wrB f b).irqs = s.irqs ∧ (s.wrB f b).free = s.free ∧ (s.wrB f b).fab = s.fab ∧ (s.wrB f b).bridge = s.bridge ∧
    (s.wrB f b).rings = s.rings ∧ (s.wrB f b).mbxStage = s.mbxStage ∧ (s.wrB f b).held = s.held ∧ (s.wrB f b).mbxOwed = s.mbxOwed ∧
    (s.wrB f b).evr = s.evr ∧ (s.wrB f b).tim = s.tim ∧ (s.wrB f b).toks = s.toks ∧ (s.wrB f b).ing = s.ing ∧ (s.wrB f b).cam = s.cam ∧
    (s.wrB f b).pra = s.pra ∧ (s.wrB f b).prod = s.prod ∧ (s.wrB f b).gns = s.gns ∧ (s.wrB f b).trl = s.trl ∧ (s.wrB f b).fur = s.fur ∧
    (s.wrB f b).vlv = s.vlv ∧ (s.wrB f b).lsw = s.lsw ∧ (s.wrB f b).outs = s.outs ∧ (s.wrB f b).can = s.can ∧ (s.wrB f b).eth = s.eth ∧
    (s.wrB f b).pan = s.pan ∧ (s.wrB f b).dram = s.dram ∧ (s.wrB f b).nand = s.nand ∧ (s.wrB f b).traps = s.traps ∧ (s.wrB f b).ter = s.ter ∧
    (s.wrB f b).pce = s.pce ∧ (s.wrB f b).pwr = s.pwr ∧ (s.wrB f b).hlt = s.hlt ∧ (s.wrB f b).upd = s.upd ∧ (s.wrB f b).pending = s.pending := by
  exact ⟨rfl, rfl, rfl, rfl, rfl, rfl, rfl, rfl, rfl, rfl, rfl, rfl, rfl, rfl, rfl, rfl, rfl, rfl, rfl, rfl, rfl, rfl, rfl, rfl, rfl, rfl, rfl, rfl,
    rfl, rfl, rfl, rfl, rfl, rfl, rfl, rfl, rfl, rfl, rfl, rfl, rfl, rfl, rfl, rfl, rfl, rfl⟩

/-- `State.incBy` changes nothing but `regs`. -/
@[simp] theorem State.incBy_keeps (s : State) (f : Fld) (n : Nat) :
    (s.incBy f n).code = s.code ∧ (s.incBy f n).hwrev = s.hwrev ∧ (s.incBy f n).rootOn = s.rootOn ∧ (s.incBy f n).bedOn = s.bedOn ∧
    (s.incBy f n).canopyOn = s.canopyOn ∧ (s.incBy f n).now = s.now ∧ (s.incBy f n).rootRegs = s.rootRegs ∧ (s.incBy f n).latches = s.latches ∧
    (s.incBy f n).wide = s.wide ∧ (s.incBy f n).banks = s.banks ∧ (s.incBy f n).badParity = s.badParity ∧ (s.incBy f n).mem = s.mem ∧
    (s.incBy f n).resp = s.resp ∧ (s.incBy f n).irqs = s.irqs ∧ (s.incBy f n).free = s.free ∧ (s.incBy f n).fab = s.fab ∧
    (s.incBy f n).bridge = s.bridge ∧ (s.incBy f n).rings = s.rings ∧ (s.incBy f n).mbxStage = s.mbxStage ∧ (s.incBy f n).held = s.held ∧
    (s.incBy f n).mbxOwed = s.mbxOwed ∧ (s.incBy f n).evr = s.evr ∧ (s.incBy f n).tim = s.tim ∧ (s.incBy f n).toks = s.toks ∧
    (s.incBy f n).ing = s.ing ∧ (s.incBy f n).cam = s.cam ∧ (s.incBy f n).pra = s.pra ∧ (s.incBy f n).prod = s.prod ∧ (s.incBy f n).gns = s.gns ∧
    (s.incBy f n).trl = s.trl ∧ (s.incBy f n).fur = s.fur ∧ (s.incBy f n).vlv = s.vlv ∧ (s.incBy f n).lsw = s.lsw ∧ (s.incBy f n).outs = s.outs ∧
    (s.incBy f n).can = s.can ∧ (s.incBy f n).eth = s.eth ∧ (s.incBy f n).pan = s.pan ∧ (s.incBy f n).dram = s.dram ∧ (s.incBy f n).nand = s.nand ∧
    (s.incBy f n).traps = s.traps ∧ (s.incBy f n).ter = s.ter ∧ (s.incBy f n).pce = s.pce ∧ (s.incBy f n).pwr = s.pwr ∧ (s.incBy f n).hlt = s.hlt ∧
    (s.incBy f n).upd = s.upd ∧ (s.incBy f n).pending = s.pending := by
  exact ⟨rfl, rfl, rfl, rfl, rfl, rfl, rfl, rfl, rfl, rfl, rfl, rfl, rfl, rfl, rfl, rfl, rfl, rfl, rfl, rfl, rfl, rfl, rfl, rfl, rfl, rfl, rfl, rfl,
    rfl, rfl, rfl, rfl, rfl, rfl, rfl, rfl, rfl, rfl, rfl, rfl, rfl, rfl, rfl, rfl, rfl, rfl⟩

/-- `State.inc` changes nothing but `regs`. -/
@[simp] theorem State.inc_keeps (s : State) (f : Fld) :
    (s.inc f).code = s.code ∧ (s.inc f).hwrev = s.hwrev ∧ (s.inc f).rootOn = s.rootOn ∧ (s.inc f).bedOn = s.bedOn ∧ (s.inc f).canopyOn = s.canopyOn ∧
    (s.inc f).now = s.now ∧ (s.inc f).rootRegs = s.rootRegs ∧ (s.inc f).latches = s.latches ∧ (s.inc f).wide = s.wide ∧ (s.inc f).banks = s.banks ∧
    (s.inc f).badParity = s.badParity ∧ (s.inc f).mem = s.mem ∧ (s.inc f).resp = s.resp ∧ (s.inc f).irqs = s.irqs ∧ (s.inc f).free = s.free ∧
    (s.inc f).fab = s.fab ∧ (s.inc f).bridge = s.bridge ∧ (s.inc f).rings = s.rings ∧ (s.inc f).mbxStage = s.mbxStage ∧ (s.inc f).held = s.held ∧
    (s.inc f).mbxOwed = s.mbxOwed ∧ (s.inc f).evr = s.evr ∧ (s.inc f).tim = s.tim ∧ (s.inc f).toks = s.toks ∧ (s.inc f).ing = s.ing ∧
    (s.inc f).cam = s.cam ∧ (s.inc f).pra = s.pra ∧ (s.inc f).prod = s.prod ∧ (s.inc f).gns = s.gns ∧ (s.inc f).trl = s.trl ∧ (s.inc f).fur = s.fur ∧
    (s.inc f).vlv = s.vlv ∧ (s.inc f).lsw = s.lsw ∧ (s.inc f).outs = s.outs ∧ (s.inc f).can = s.can ∧ (s.inc f).eth = s.eth ∧ (s.inc f).pan = s.pan ∧
    (s.inc f).dram = s.dram ∧ (s.inc f).nand = s.nand ∧ (s.inc f).traps = s.traps ∧ (s.inc f).ter = s.ter ∧ (s.inc f).pce = s.pce ∧
    (s.inc f).pwr = s.pwr ∧ (s.inc f).hlt = s.hlt ∧ (s.inc f).upd = s.upd ∧ (s.inc f).pending = s.pending := by
  exact ⟨rfl, rfl, rfl, rfl, rfl, rfl, rfl, rfl, rfl, rfl, rfl, rfl, rfl, rfl, rfl, rfl, rfl, rfl, rfl, rfl, rfl, rfl, rfl, rfl, rfl, rfl, rfl, rfl,
    rfl, rfl, rfl, rfl, rfl, rfl, rfl, rfl, rfl, rfl, rfl, rfl, rfl, rfl, rfl, rfl, rfl, rfl⟩

/-- `State.wrSat` changes nothing but `regs`. -/
@[simp] theorem State.wrSat_keeps (s : State) (f : Fld) (v : Nat) :
    (s.wrSat f v).code = s.code ∧ (s.wrSat f v).hwrev = s.hwrev ∧ (s.wrSat f v).rootOn = s.rootOn ∧ (s.wrSat f v).bedOn = s.bedOn ∧
    (s.wrSat f v).canopyOn = s.canopyOn ∧ (s.wrSat f v).now = s.now ∧ (s.wrSat f v).rootRegs = s.rootRegs ∧ (s.wrSat f v).latches = s.latches ∧
    (s.wrSat f v).wide = s.wide ∧ (s.wrSat f v).banks = s.banks ∧ (s.wrSat f v).badParity = s.badParity ∧ (s.wrSat f v).mem = s.mem ∧
    (s.wrSat f v).resp = s.resp ∧ (s.wrSat f v).irqs = s.irqs ∧ (s.wrSat f v).free = s.free ∧ (s.wrSat f v).fab = s.fab ∧
    (s.wrSat f v).bridge = s.bridge ∧ (s.wrSat f v).rings = s.rings ∧ (s.wrSat f v).mbxStage = s.mbxStage ∧ (s.wrSat f v).held = s.held ∧
    (s.wrSat f v).mbxOwed = s.mbxOwed ∧ (s.wrSat f v).evr = s.evr ∧ (s.wrSat f v).tim = s.tim ∧ (s.wrSat f v).toks = s.toks ∧
    (s.wrSat f v).ing = s.ing ∧ (s.wrSat f v).cam = s.cam ∧ (s.wrSat f v).pra = s.pra ∧ (s.wrSat f v).prod = s.prod ∧ (s.wrSat f v).gns = s.gns ∧
    (s.wrSat f v).trl = s.trl ∧ (s.wrSat f v).fur = s.fur ∧ (s.wrSat f v).vlv = s.vlv ∧ (s.wrSat f v).lsw = s.lsw ∧ (s.wrSat f v).outs = s.outs ∧
    (s.wrSat f v).can = s.can ∧ (s.wrSat f v).eth = s.eth ∧ (s.wrSat f v).pan = s.pan ∧ (s.wrSat f v).dram = s.dram ∧ (s.wrSat f v).nand = s.nand ∧
    (s.wrSat f v).traps = s.traps ∧ (s.wrSat f v).ter = s.ter ∧ (s.wrSat f v).pce = s.pce ∧ (s.wrSat f v).pwr = s.pwr ∧ (s.wrSat f v).hlt = s.hlt ∧
    (s.wrSat f v).upd = s.upd ∧ (s.wrSat f v).pending = s.pending := by
  exact ⟨rfl, rfl, rfl, rfl, rfl, rfl, rfl, rfl, rfl, rfl, rfl, rfl, rfl, rfl, rfl, rfl, rfl, rfl, rfl, rfl, rfl, rfl, rfl, rfl, rfl, rfl, rfl, rfl,
    rfl, rfl, rfl, rfl, rfl, rfl, rfl, rfl, rfl, rfl, rfl, rfl, rfl, rfl, rfl, rfl, rfl, rfl⟩

/-- `State.resetReg` changes nothing but `regs`. -/
@[simp] theorem State.resetReg_keeps (s : State) (key : Nat) :
    (s.resetReg key).code = s.code ∧ (s.resetReg key).hwrev = s.hwrev ∧ (s.resetReg key).rootOn = s.rootOn ∧ (s.resetReg key).bedOn = s.bedOn ∧
    (s.resetReg key).canopyOn = s.canopyOn ∧ (s.resetReg key).now = s.now ∧ (s.resetReg key).rootRegs = s.rootRegs ∧
    (s.resetReg key).latches = s.latches ∧ (s.resetReg key).wide = s.wide ∧ (s.resetReg key).banks = s.banks ∧
    (s.resetReg key).badParity = s.badParity ∧ (s.resetReg key).mem = s.mem ∧ (s.resetReg key).resp = s.resp ∧ (s.resetReg key).irqs = s.irqs ∧
    (s.resetReg key).free = s.free ∧ (s.resetReg key).fab = s.fab ∧ (s.resetReg key).bridge = s.bridge ∧ (s.resetReg key).rings = s.rings ∧
    (s.resetReg key).mbxStage = s.mbxStage ∧ (s.resetReg key).held = s.held ∧ (s.resetReg key).mbxOwed = s.mbxOwed ∧ (s.resetReg key).evr = s.evr ∧
    (s.resetReg key).tim = s.tim ∧ (s.resetReg key).toks = s.toks ∧ (s.resetReg key).ing = s.ing ∧ (s.resetReg key).cam = s.cam ∧
    (s.resetReg key).pra = s.pra ∧ (s.resetReg key).prod = s.prod ∧ (s.resetReg key).gns = s.gns ∧ (s.resetReg key).trl = s.trl ∧
    (s.resetReg key).fur = s.fur ∧ (s.resetReg key).vlv = s.vlv ∧ (s.resetReg key).lsw = s.lsw ∧ (s.resetReg key).outs = s.outs ∧
    (s.resetReg key).can = s.can ∧ (s.resetReg key).eth = s.eth ∧ (s.resetReg key).pan = s.pan ∧ (s.resetReg key).dram = s.dram ∧
    (s.resetReg key).nand = s.nand ∧ (s.resetReg key).traps = s.traps ∧ (s.resetReg key).ter = s.ter ∧ (s.resetReg key).pce = s.pce ∧
    (s.resetReg key).pwr = s.pwr ∧ (s.resetReg key).hlt = s.hlt ∧ (s.resetReg key).upd = s.upd ∧ (s.resetReg key).pending = s.pending := by
  exact ⟨rfl, rfl, rfl, rfl, rfl, rfl, rfl, rfl, rfl, rfl, rfl, rfl, rfl, rfl, rfl, rfl, rfl, rfl, rfl, rfl, rfl, rfl, rfl, rfl, rfl, rfl, rfl, rfl,
    rfl, rfl, rfl, rfl, rfl, rfl, rfl, rfl, rfl, rfl, rfl, rfl, rfl, rfl, rfl, rfl, rfl, rfl⟩

/-- `State.wideSet` changes nothing but `wide`. -/
@[simp] theorem State.wideSet_keeps (s : State) (key v : Nat) :
    (s.wideSet key v).code = s.code ∧ (s.wideSet key v).hwrev = s.hwrev ∧ (s.wideSet key v).rootOn = s.rootOn ∧ (s.wideSet key v).bedOn = s.bedOn ∧
    (s.wideSet key v).canopyOn = s.canopyOn ∧ (s.wideSet key v).now = s.now ∧ (s.wideSet key v).regs = s.regs ∧
    (s.wideSet key v).rootRegs = s.rootRegs ∧ (s.wideSet key v).latches = s.latches ∧ (s.wideSet key v).banks = s.banks ∧
    (s.wideSet key v).badParity = s.badParity ∧ (s.wideSet key v).mem = s.mem ∧ (s.wideSet key v).resp = s.resp ∧ (s.wideSet key v).irqs = s.irqs ∧
    (s.wideSet key v).free = s.free ∧ (s.wideSet key v).fab = s.fab ∧ (s.wideSet key v).bridge = s.bridge ∧ (s.wideSet key v).rings = s.rings ∧
    (s.wideSet key v).mbxStage = s.mbxStage ∧ (s.wideSet key v).held = s.held ∧ (s.wideSet key v).mbxOwed = s.mbxOwed ∧
    (s.wideSet key v).evr = s.evr ∧ (s.wideSet key v).tim = s.tim ∧ (s.wideSet key v).toks = s.toks ∧ (s.wideSet key v).ing = s.ing ∧
    (s.wideSet key v).cam = s.cam ∧ (s.wideSet key v).pra = s.pra ∧ (s.wideSet key v).prod = s.prod ∧ (s.wideSet key v).gns = s.gns ∧
    (s.wideSet key v).trl = s.trl ∧ (s.wideSet key v).fur = s.fur ∧ (s.wideSet key v).vlv = s.vlv ∧ (s.wideSet key v).lsw = s.lsw ∧
    (s.wideSet key v).outs = s.outs ∧ (s.wideSet key v).can = s.can ∧ (s.wideSet key v).eth = s.eth ∧ (s.wideSet key v).pan = s.pan ∧
    (s.wideSet key v).dram = s.dram ∧ (s.wideSet key v).nand = s.nand ∧ (s.wideSet key v).traps = s.traps ∧ (s.wideSet key v).ter = s.ter ∧
    (s.wideSet key v).pce = s.pce ∧ (s.wideSet key v).pwr = s.pwr ∧ (s.wideSet key v).hlt = s.hlt ∧ (s.wideSet key v).upd = s.upd ∧
    (s.wideSet key v).pending = s.pending := by
  exact ⟨rfl, rfl, rfl, rfl, rfl, rfl, rfl, rfl, rfl, rfl, rfl, rfl, rfl, rfl, rfl, rfl, rfl, rfl, rfl, rfl, rfl, rfl, rfl, rfl, rfl, rfl, rfl, rfl,
    rfl, rfl, rfl, rfl, rfl, rfl, rfl, rfl, rfl, rfl, rfl, rfl, rfl, rfl, rfl, rfl, rfl, rfl⟩

/-- `State.wideAdd` changes nothing but `wide`. -/
@[simp] theorem State.wideAdd_keeps (s : State) (key n : Nat) :
    (s.wideAdd key n).code = s.code ∧ (s.wideAdd key n).hwrev = s.hwrev ∧ (s.wideAdd key n).rootOn = s.rootOn ∧ (s.wideAdd key n).bedOn = s.bedOn ∧
    (s.wideAdd key n).canopyOn = s.canopyOn ∧ (s.wideAdd key n).now = s.now ∧ (s.wideAdd key n).regs = s.regs ∧
    (s.wideAdd key n).rootRegs = s.rootRegs ∧ (s.wideAdd key n).latches = s.latches ∧ (s.wideAdd key n).banks = s.banks ∧
    (s.wideAdd key n).badParity = s.badParity ∧ (s.wideAdd key n).mem = s.mem ∧ (s.wideAdd key n).resp = s.resp ∧ (s.wideAdd key n).irqs = s.irqs ∧
    (s.wideAdd key n).free = s.free ∧ (s.wideAdd key n).fab = s.fab ∧ (s.wideAdd key n).bridge = s.bridge ∧ (s.wideAdd key n).rings = s.rings ∧
    (s.wideAdd key n).mbxStage = s.mbxStage ∧ (s.wideAdd key n).held = s.held ∧ (s.wideAdd key n).mbxOwed = s.mbxOwed ∧
    (s.wideAdd key n).evr = s.evr ∧ (s.wideAdd key n).tim = s.tim ∧ (s.wideAdd key n).toks = s.toks ∧ (s.wideAdd key n).ing = s.ing ∧
    (s.wideAdd key n).cam = s.cam ∧ (s.wideAdd key n).pra = s.pra ∧ (s.wideAdd key n).prod = s.prod ∧ (s.wideAdd key n).gns = s.gns ∧
    (s.wideAdd key n).trl = s.trl ∧ (s.wideAdd key n).fur = s.fur ∧ (s.wideAdd key n).vlv = s.vlv ∧ (s.wideAdd key n).lsw = s.lsw ∧
    (s.wideAdd key n).outs = s.outs ∧ (s.wideAdd key n).can = s.can ∧ (s.wideAdd key n).eth = s.eth ∧ (s.wideAdd key n).pan = s.pan ∧
    (s.wideAdd key n).dram = s.dram ∧ (s.wideAdd key n).nand = s.nand ∧ (s.wideAdd key n).traps = s.traps ∧ (s.wideAdd key n).ter = s.ter ∧
    (s.wideAdd key n).pce = s.pce ∧ (s.wideAdd key n).pwr = s.pwr ∧ (s.wideAdd key n).hlt = s.hlt ∧ (s.wideAdd key n).upd = s.upd ∧
    (s.wideAdd key n).pending = s.pending := by
  exact ⟨rfl, rfl, rfl, rfl, rfl, rfl, rfl, rfl, rfl, rfl, rfl, rfl, rfl, rfl, rfl, rfl, rfl, rfl, rfl, rfl, rfl, rfl, rfl, rfl, rfl, rfl, rfl, rfl,
    rfl, rfl, rfl, rfl, rfl, rfl, rfl, rfl, rfl, rfl, rfl, rfl, rfl, rfl, rfl, rfl, rfl, rfl⟩

/-- `State.setBank` changes nothing but `banks`. -/
@[simp] theorem State.setBank_keeps (s : State) (b key : Nat) (w : W32) :
    (s.setBank b key w).code = s.code ∧ (s.setBank b key w).hwrev = s.hwrev ∧ (s.setBank b key w).rootOn = s.rootOn ∧
    (s.setBank b key w).bedOn = s.bedOn ∧ (s.setBank b key w).canopyOn = s.canopyOn ∧ (s.setBank b key w).now = s.now ∧
    (s.setBank b key w).regs = s.regs ∧ (s.setBank b key w).rootRegs = s.rootRegs ∧ (s.setBank b key w).latches = s.latches ∧
    (s.setBank b key w).wide = s.wide ∧ (s.setBank b key w).badParity = s.badParity ∧ (s.setBank b key w).mem = s.mem ∧
    (s.setBank b key w).resp = s.resp ∧ (s.setBank b key w).irqs = s.irqs ∧ (s.setBank b key w).free = s.free ∧ (s.setBank b key w).fab = s.fab ∧
    (s.setBank b key w).bridge = s.bridge ∧ (s.setBank b key w).rings = s.rings ∧ (s.setBank b key w).mbxStage = s.mbxStage ∧
    (s.setBank b key w).held = s.held ∧ (s.setBank b key w).mbxOwed = s.mbxOwed ∧ (s.setBank b key w).evr = s.evr ∧ (s.setBank b key w).tim = s.tim ∧
    (s.setBank b key w).toks = s.toks ∧ (s.setBank b key w).ing = s.ing ∧ (s.setBank b key w).cam = s.cam ∧ (s.setBank b key w).pra = s.pra ∧
    (s.setBank b key w).prod = s.prod ∧ (s.setBank b key w).gns = s.gns ∧ (s.setBank b key w).trl = s.trl ∧ (s.setBank b key w).fur = s.fur ∧
    (s.setBank b key w).vlv = s.vlv ∧ (s.setBank b key w).lsw = s.lsw ∧ (s.setBank b key w).outs = s.outs ∧ (s.setBank b key w).can = s.can ∧
    (s.setBank b key w).eth = s.eth ∧ (s.setBank b key w).pan = s.pan ∧ (s.setBank b key w).dram = s.dram ∧ (s.setBank b key w).nand = s.nand ∧
    (s.setBank b key w).traps = s.traps ∧ (s.setBank b key w).ter = s.ter ∧ (s.setBank b key w).pce = s.pce ∧ (s.setBank b key w).pwr = s.pwr ∧
    (s.setBank b key w).hlt = s.hlt ∧ (s.setBank b key w).upd = s.upd ∧ (s.setBank b key w).pending = s.pending := by
  exact ⟨rfl, rfl, rfl, rfl, rfl, rfl, rfl, rfl, rfl, rfl, rfl, rfl, rfl, rfl, rfl, rfl, rfl, rfl, rfl, rfl, rfl, rfl, rfl, rfl, rfl, rfl, rfl, rfl,
    rfl, rfl, rfl, rfl, rfl, rfl, rfl, rfl, rfl, rfl, rfl, rfl, rfl, rfl, rfl, rfl, rfl, rfl⟩

/-- `State.tickFree` changes nothing but `free`. -/
@[simp] theorem State.tickFree_keeps (s : State) :
    (s.tickFree).code = s.code ∧ (s.tickFree).hwrev = s.hwrev ∧ (s.tickFree).rootOn = s.rootOn ∧ (s.tickFree).bedOn = s.bedOn ∧
    (s.tickFree).canopyOn = s.canopyOn ∧ (s.tickFree).now = s.now ∧ (s.tickFree).regs = s.regs ∧ (s.tickFree).rootRegs = s.rootRegs ∧
    (s.tickFree).latches = s.latches ∧ (s.tickFree).wide = s.wide ∧ (s.tickFree).banks = s.banks ∧ (s.tickFree).badParity = s.badParity ∧
    (s.tickFree).mem = s.mem ∧ (s.tickFree).resp = s.resp ∧ (s.tickFree).irqs = s.irqs ∧ (s.tickFree).fab = s.fab ∧ (s.tickFree).bridge = s.bridge ∧
    (s.tickFree).rings = s.rings ∧ (s.tickFree).mbxStage = s.mbxStage ∧ (s.tickFree).held = s.held ∧ (s.tickFree).mbxOwed = s.mbxOwed ∧
    (s.tickFree).evr = s.evr ∧ (s.tickFree).tim = s.tim ∧ (s.tickFree).toks = s.toks ∧ (s.tickFree).ing = s.ing ∧ (s.tickFree).cam = s.cam ∧
    (s.tickFree).pra = s.pra ∧ (s.tickFree).prod = s.prod ∧ (s.tickFree).gns = s.gns ∧ (s.tickFree).trl = s.trl ∧ (s.tickFree).fur = s.fur ∧
    (s.tickFree).vlv = s.vlv ∧ (s.tickFree).lsw = s.lsw ∧ (s.tickFree).outs = s.outs ∧ (s.tickFree).can = s.can ∧ (s.tickFree).eth = s.eth ∧
    (s.tickFree).pan = s.pan ∧ (s.tickFree).dram = s.dram ∧ (s.tickFree).nand = s.nand ∧ (s.tickFree).traps = s.traps ∧ (s.tickFree).ter = s.ter ∧
    (s.tickFree).pce = s.pce ∧ (s.tickFree).pwr = s.pwr ∧ (s.tickFree).hlt = s.hlt ∧ (s.tickFree).upd = s.upd ∧ (s.tickFree).pending = s.pending := by
  exact ⟨rfl, rfl, rfl, rfl, rfl, rfl, rfl, rfl, rfl, rfl, rfl, rfl, rfl, rfl, rfl, rfl, rfl, rfl, rfl, rfl, rfl, rfl, rfl, rfl, rfl, rfl, rfl, rfl,
    rfl, rfl, rfl, rfl, rfl, rfl, rfl, rfl, rfl, rfl, rfl, rfl, rfl, rfl, rfl, rfl, rfl, rfl⟩

/-- `State.irq` changes nothing but `irqs`. -/
@[simp] theorem State.irq_keeps (s : State) (d : Dest) (src : IrqSrc) :
    (s.irq d src).code = s.code ∧ (s.irq d src).hwrev = s.hwrev ∧ (s.irq d src).rootOn = s.rootOn ∧ (s.irq d src).bedOn = s.bedOn ∧
    (s.irq d src).canopyOn = s.canopyOn ∧ (s.irq d src).now = s.now ∧ (s.irq d src).regs = s.regs ∧ (s.irq d src).rootRegs = s.rootRegs ∧
    (s.irq d src).latches = s.latches ∧ (s.irq d src).wide = s.wide ∧ (s.irq d src).banks = s.banks ∧ (s.irq d src).badParity = s.badParity ∧
    (s.irq d src).mem = s.mem ∧ (s.irq d src).resp = s.resp ∧ (s.irq d src).free = s.free ∧ (s.irq d src).fab = s.fab ∧
    (s.irq d src).bridge = s.bridge ∧ (s.irq d src).rings = s.rings ∧ (s.irq d src).mbxStage = s.mbxStage ∧ (s.irq d src).held = s.held ∧
    (s.irq d src).mbxOwed = s.mbxOwed ∧ (s.irq d src).evr = s.evr ∧ (s.irq d src).tim = s.tim ∧ (s.irq d src).toks = s.toks ∧
    (s.irq d src).ing = s.ing ∧ (s.irq d src).cam = s.cam ∧ (s.irq d src).pra = s.pra ∧ (s.irq d src).prod = s.prod ∧ (s.irq d src).gns = s.gns ∧
    (s.irq d src).trl = s.trl ∧ (s.irq d src).fur = s.fur ∧ (s.irq d src).vlv = s.vlv ∧ (s.irq d src).lsw = s.lsw ∧ (s.irq d src).outs = s.outs ∧
    (s.irq d src).can = s.can ∧ (s.irq d src).eth = s.eth ∧ (s.irq d src).pan = s.pan ∧ (s.irq d src).dram = s.dram ∧ (s.irq d src).nand = s.nand ∧
    (s.irq d src).traps = s.traps ∧ (s.irq d src).ter = s.ter ∧ (s.irq d src).pce = s.pce ∧ (s.irq d src).pwr = s.pwr ∧ (s.irq d src).hlt = s.hlt ∧
    (s.irq d src).upd = s.upd ∧ (s.irq d src).pending = s.pending := by
  exact ⟨rfl, rfl, rfl, rfl, rfl, rfl, rfl, rfl, rfl, rfl, rfl, rfl, rfl, rfl, rfl, rfl, rfl, rfl, rfl, rfl, rfl, rfl, rfl, rfl, rfl, rfl, rfl, rfl,
    rfl, rfl, rfl, rfl, rfl, rfl, rfl, rfl, rfl, rfl, rfl, rfl, rfl, rfl, rfl, rfl, rfl, rfl⟩

/-- `State.irqCarry` changes nothing but `irqs`. -/
@[simp] theorem State.irqCarry_keeps (s : State) (src : IrqSrc) :
    (s.irqCarry src).code = s.code ∧ (s.irqCarry src).hwrev = s.hwrev ∧ (s.irqCarry src).rootOn = s.rootOn ∧ (s.irqCarry src).bedOn = s.bedOn ∧
    (s.irqCarry src).canopyOn = s.canopyOn ∧ (s.irqCarry src).now = s.now ∧ (s.irqCarry src).regs = s.regs ∧ (s.irqCarry src).rootRegs = s.rootRegs ∧
    (s.irqCarry src).latches = s.latches ∧ (s.irqCarry src).wide = s.wide ∧ (s.irqCarry src).banks = s.banks ∧
    (s.irqCarry src).badParity = s.badParity ∧ (s.irqCarry src).mem = s.mem ∧ (s.irqCarry src).resp = s.resp ∧ (s.irqCarry src).free = s.free ∧
    (s.irqCarry src).fab = s.fab ∧ (s.irqCarry src).bridge = s.bridge ∧ (s.irqCarry src).rings = s.rings ∧ (s.irqCarry src).mbxStage = s.mbxStage ∧
    (s.irqCarry src).held = s.held ∧ (s.irqCarry src).mbxOwed = s.mbxOwed ∧ (s.irqCarry src).evr = s.evr ∧ (s.irqCarry src).tim = s.tim ∧
    (s.irqCarry src).toks = s.toks ∧ (s.irqCarry src).ing = s.ing ∧ (s.irqCarry src).cam = s.cam ∧ (s.irqCarry src).pra = s.pra ∧
    (s.irqCarry src).prod = s.prod ∧ (s.irqCarry src).gns = s.gns ∧ (s.irqCarry src).trl = s.trl ∧ (s.irqCarry src).fur = s.fur ∧
    (s.irqCarry src).vlv = s.vlv ∧ (s.irqCarry src).lsw = s.lsw ∧ (s.irqCarry src).outs = s.outs ∧ (s.irqCarry src).can = s.can ∧
    (s.irqCarry src).eth = s.eth ∧ (s.irqCarry src).pan = s.pan ∧ (s.irqCarry src).dram = s.dram ∧ (s.irqCarry src).nand = s.nand ∧
    (s.irqCarry src).traps = s.traps ∧ (s.irqCarry src).ter = s.ter ∧ (s.irqCarry src).pce = s.pce ∧ (s.irqCarry src).pwr = s.pwr ∧
    (s.irqCarry src).hlt = s.hlt ∧ (s.irqCarry src).upd = s.upd ∧ (s.irqCarry src).pending = s.pending := by
  exact ⟨rfl, rfl, rfl, rfl, rfl, rfl, rfl, rfl, rfl, rfl, rfl, rfl, rfl, rfl, rfl, rfl, rfl, rfl, rfl, rfl, rfl, rfl, rfl, rfl, rfl, rfl, rfl, rfl,
    rfl, rfl, rfl, rfl, rfl, rfl, rfl, rfl, rfl, rfl, rfl, rfl, rfl, rfl, rfl, rfl, rfl, rfl⟩

/-- `State.irqScare` changes nothing but `irqs`. -/
@[simp] theorem State.irqScare_keeps (s : State) (src : IrqSrc) :
    (s.irqScare src).code = s.code ∧ (s.irqScare src).hwrev = s.hwrev ∧ (s.irqScare src).rootOn = s.rootOn ∧ (s.irqScare src).bedOn = s.bedOn ∧
    (s.irqScare src).canopyOn = s.canopyOn ∧ (s.irqScare src).now = s.now ∧ (s.irqScare src).regs = s.regs ∧ (s.irqScare src).rootRegs = s.rootRegs ∧
    (s.irqScare src).latches = s.latches ∧ (s.irqScare src).wide = s.wide ∧ (s.irqScare src).banks = s.banks ∧
    (s.irqScare src).badParity = s.badParity ∧ (s.irqScare src).mem = s.mem ∧ (s.irqScare src).resp = s.resp ∧ (s.irqScare src).free = s.free ∧
    (s.irqScare src).fab = s.fab ∧ (s.irqScare src).bridge = s.bridge ∧ (s.irqScare src).rings = s.rings ∧ (s.irqScare src).mbxStage = s.mbxStage ∧
    (s.irqScare src).held = s.held ∧ (s.irqScare src).mbxOwed = s.mbxOwed ∧ (s.irqScare src).evr = s.evr ∧ (s.irqScare src).tim = s.tim ∧
    (s.irqScare src).toks = s.toks ∧ (s.irqScare src).ing = s.ing ∧ (s.irqScare src).cam = s.cam ∧ (s.irqScare src).pra = s.pra ∧
    (s.irqScare src).prod = s.prod ∧ (s.irqScare src).gns = s.gns ∧ (s.irqScare src).trl = s.trl ∧ (s.irqScare src).fur = s.fur ∧
    (s.irqScare src).vlv = s.vlv ∧ (s.irqScare src).lsw = s.lsw ∧ (s.irqScare src).outs = s.outs ∧ (s.irqScare src).can = s.can ∧
    (s.irqScare src).eth = s.eth ∧ (s.irqScare src).pan = s.pan ∧ (s.irqScare src).dram = s.dram ∧ (s.irqScare src).nand = s.nand ∧
    (s.irqScare src).traps = s.traps ∧ (s.irqScare src).ter = s.ter ∧ (s.irqScare src).pce = s.pce ∧ (s.irqScare src).pwr = s.pwr ∧
    (s.irqScare src).hlt = s.hlt ∧ (s.irqScare src).upd = s.upd ∧ (s.irqScare src).pending = s.pending := by
  exact ⟨rfl, rfl, rfl, rfl, rfl, rfl, rfl, rfl, rfl, rfl, rfl, rfl, rfl, rfl, rfl, rfl, rfl, rfl, rfl, rfl, rfl, rfl, rfl, rfl, rfl, rfl, rfl, rfl,
    rfl, rfl, rfl, rfl, rfl, rfl, rfl, rfl, rfl, rfl, rfl, rfl, rfl, rfl, rfl, rfl, rfl, rfl⟩

/-- `State.setRoot` changes nothing but `rootRegs`. -/
@[simp] theorem State.setRoot_keeps (s : State) (key : Nat) (w : W32) :
    (s.setRoot key w).code = s.code ∧ (s.setRoot key w).hwrev = s.hwrev ∧ (s.setRoot key w).rootOn = s.rootOn ∧ (s.setRoot key w).bedOn = s.bedOn ∧
    (s.setRoot key w).canopyOn = s.canopyOn ∧ (s.setRoot key w).now = s.now ∧ (s.setRoot key w).regs = s.regs ∧
    (s.setRoot key w).latches = s.latches ∧ (s.setRoot key w).wide = s.wide ∧ (s.setRoot key w).banks = s.banks ∧
    (s.setRoot key w).badParity = s.badParity ∧ (s.setRoot key w).mem = s.mem ∧ (s.setRoot key w).resp = s.resp ∧ (s.setRoot key w).irqs = s.irqs ∧
    (s.setRoot key w).free = s.free ∧ (s.setRoot key w).fab = s.fab ∧ (s.setRoot key w).bridge = s.bridge ∧ (s.setRoot key w).rings = s.rings ∧
    (s.setRoot key w).mbxStage = s.mbxStage ∧ (s.setRoot key w).held = s.held ∧ (s.setRoot key w).mbxOwed = s.mbxOwed ∧
    (s.setRoot key w).evr = s.evr ∧ (s.setRoot key w).tim = s.tim ∧ (s.setRoot key w).toks = s.toks ∧ (s.setRoot key w).ing = s.ing ∧
    (s.setRoot key w).cam = s.cam ∧ (s.setRoot key w).pra = s.pra ∧ (s.setRoot key w).prod = s.prod ∧ (s.setRoot key w).gns = s.gns ∧
    (s.setRoot key w).trl = s.trl ∧ (s.setRoot key w).fur = s.fur ∧ (s.setRoot key w).vlv = s.vlv ∧ (s.setRoot key w).lsw = s.lsw ∧
    (s.setRoot key w).outs = s.outs ∧ (s.setRoot key w).can = s.can ∧ (s.setRoot key w).eth = s.eth ∧ (s.setRoot key w).pan = s.pan ∧
    (s.setRoot key w).dram = s.dram ∧ (s.setRoot key w).nand = s.nand ∧ (s.setRoot key w).traps = s.traps ∧ (s.setRoot key w).ter = s.ter ∧
    (s.setRoot key w).pce = s.pce ∧ (s.setRoot key w).pwr = s.pwr ∧ (s.setRoot key w).hlt = s.hlt ∧ (s.setRoot key w).upd = s.upd ∧
    (s.setRoot key w).pending = s.pending := by
  exact ⟨rfl, rfl, rfl, rfl, rfl, rfl, rfl, rfl, rfl, rfl, rfl, rfl, rfl, rfl, rfl, rfl, rfl, rfl, rfl, rfl, rfl, rfl, rfl, rfl, rfl, rfl, rfl, rfl,
    rfl, rfl, rfl, rfl, rfl, rfl, rfl, rfl, rfl, rfl, rfl, rfl, rfl, rfl, rfl, rfl, rfl, rfl⟩

/-- `State.rootWr` changes nothing but `rootRegs`. -/
@[simp] theorem State.rootWr_keeps (s : State) (f : Fld) (v : Nat) :
    (s.rootWr f v).code = s.code ∧ (s.rootWr f v).hwrev = s.hwrev ∧ (s.rootWr f v).rootOn = s.rootOn ∧ (s.rootWr f v).bedOn = s.bedOn ∧
    (s.rootWr f v).canopyOn = s.canopyOn ∧ (s.rootWr f v).now = s.now ∧ (s.rootWr f v).regs = s.regs ∧ (s.rootWr f v).latches = s.latches ∧
    (s.rootWr f v).wide = s.wide ∧ (s.rootWr f v).banks = s.banks ∧ (s.rootWr f v).badParity = s.badParity ∧ (s.rootWr f v).mem = s.mem ∧
    (s.rootWr f v).resp = s.resp ∧ (s.rootWr f v).irqs = s.irqs ∧ (s.rootWr f v).free = s.free ∧ (s.rootWr f v).fab = s.fab ∧
    (s.rootWr f v).bridge = s.bridge ∧ (s.rootWr f v).rings = s.rings ∧ (s.rootWr f v).mbxStage = s.mbxStage ∧ (s.rootWr f v).held = s.held ∧
    (s.rootWr f v).mbxOwed = s.mbxOwed ∧ (s.rootWr f v).evr = s.evr ∧ (s.rootWr f v).tim = s.tim ∧ (s.rootWr f v).toks = s.toks ∧
    (s.rootWr f v).ing = s.ing ∧ (s.rootWr f v).cam = s.cam ∧ (s.rootWr f v).pra = s.pra ∧ (s.rootWr f v).prod = s.prod ∧
    (s.rootWr f v).gns = s.gns ∧ (s.rootWr f v).trl = s.trl ∧ (s.rootWr f v).fur = s.fur ∧ (s.rootWr f v).vlv = s.vlv ∧ (s.rootWr f v).lsw = s.lsw ∧
    (s.rootWr f v).outs = s.outs ∧ (s.rootWr f v).can = s.can ∧ (s.rootWr f v).eth = s.eth ∧ (s.rootWr f v).pan = s.pan ∧
    (s.rootWr f v).dram = s.dram ∧ (s.rootWr f v).nand = s.nand ∧ (s.rootWr f v).traps = s.traps ∧ (s.rootWr f v).ter = s.ter ∧
    (s.rootWr f v).pce = s.pce ∧ (s.rootWr f v).pwr = s.pwr ∧ (s.rootWr f v).hlt = s.hlt ∧ (s.rootWr f v).upd = s.upd ∧
    (s.rootWr f v).pending = s.pending := by
  exact ⟨rfl, rfl, rfl, rfl, rfl, rfl, rfl, rfl, rfl, rfl, rfl, rfl, rfl, rfl, rfl, rfl, rfl, rfl, rfl, rfl, rfl, rfl, rfl, rfl, rfl, rfl, rfl, rfl,
    rfl, rfl, rfl, rfl, rfl, rfl, rfl, rfl, rfl, rfl, rfl, rfl, rfl, rfl, rfl, rfl, rfl, rfl⟩

/-- `State.setBucket` changes nothing but `evr`. -/
@[simp] theorem State.setBucket_keeps (s : State) (code : Nat) (b : Bucket) :
    (s.setBucket code b).code = s.code ∧ (s.setBucket code b).hwrev = s.hwrev ∧ (s.setBucket code b).rootOn = s.rootOn ∧
    (s.setBucket code b).bedOn = s.bedOn ∧ (s.setBucket code b).canopyOn = s.canopyOn ∧ (s.setBucket code b).now = s.now ∧
    (s.setBucket code b).regs = s.regs ∧ (s.setBucket code b).rootRegs = s.rootRegs ∧ (s.setBucket code b).latches = s.latches ∧
    (s.setBucket code b).wide = s.wide ∧ (s.setBucket code b).banks = s.banks ∧ (s.setBucket code b).badParity = s.badParity ∧
    (s.setBucket code b).mem = s.mem ∧ (s.setBucket code b).resp = s.resp ∧ (s.setBucket code b).irqs = s.irqs ∧ (s.setBucket code b).free = s.free ∧
    (s.setBucket code b).fab = s.fab ∧ (s.setBucket code b).bridge = s.bridge ∧ (s.setBucket code b).rings = s.rings ∧
    (s.setBucket code b).mbxStage = s.mbxStage ∧ (s.setBucket code b).held = s.held ∧ (s.setBucket code b).mbxOwed = s.mbxOwed ∧
    (s.setBucket code b).tim = s.tim ∧ (s.setBucket code b).toks = s.toks ∧ (s.setBucket code b).ing = s.ing ∧ (s.setBucket code b).cam = s.cam ∧
    (s.setBucket code b).pra = s.pra ∧ (s.setBucket code b).prod = s.prod ∧ (s.setBucket code b).gns = s.gns ∧ (s.setBucket code b).trl = s.trl ∧
    (s.setBucket code b).fur = s.fur ∧ (s.setBucket code b).vlv = s.vlv ∧ (s.setBucket code b).lsw = s.lsw ∧ (s.setBucket code b).outs = s.outs ∧
    (s.setBucket code b).can = s.can ∧ (s.setBucket code b).eth = s.eth ∧ (s.setBucket code b).pan = s.pan ∧ (s.setBucket code b).dram = s.dram ∧
    (s.setBucket code b).nand = s.nand ∧ (s.setBucket code b).traps = s.traps ∧ (s.setBucket code b).ter = s.ter ∧ (s.setBucket code b).pce = s.pce ∧
    (s.setBucket code b).pwr = s.pwr ∧ (s.setBucket code b).hlt = s.hlt ∧ (s.setBucket code b).upd = s.upd ∧
    (s.setBucket code b).pending = s.pending := by
  exact ⟨rfl, rfl, rfl, rfl, rfl, rfl, rfl, rfl, rfl, rfl, rfl, rfl, rfl, rfl, rfl, rfl, rfl, rfl, rfl, rfl, rfl, rfl, rfl, rfl, rfl, rfl, rfl, rfl,
    rfl, rfl, rfl, rfl, rfl, rfl, rfl, rfl, rfl, rfl, rfl, rfl, rfl, rfl, rfl, rfl, rfl, rfl⟩

/-- `State.fail` changes nothing but `resp`. -/
@[simp] theorem State.fail_keeps (s : State) :
    (s.fail).code = s.code ∧ (s.fail).hwrev = s.hwrev ∧ (s.fail).rootOn = s.rootOn ∧ (s.fail).bedOn = s.bedOn ∧ (s.fail).canopyOn = s.canopyOn ∧
    (s.fail).now = s.now ∧ (s.fail).regs = s.regs ∧ (s.fail).rootRegs = s.rootRegs ∧ (s.fail).latches = s.latches ∧ (s.fail).wide = s.wide ∧
    (s.fail).banks = s.banks ∧ (s.fail).badParity = s.badParity ∧ (s.fail).mem = s.mem ∧ (s.fail).irqs = s.irqs ∧ (s.fail).free = s.free ∧
    (s.fail).fab = s.fab ∧ (s.fail).bridge = s.bridge ∧ (s.fail).rings = s.rings ∧ (s.fail).mbxStage = s.mbxStage ∧ (s.fail).held = s.held ∧
    (s.fail).mbxOwed = s.mbxOwed ∧ (s.fail).evr = s.evr ∧ (s.fail).tim = s.tim ∧ (s.fail).toks = s.toks ∧ (s.fail).ing = s.ing ∧
    (s.fail).cam = s.cam ∧ (s.fail).pra = s.pra ∧ (s.fail).prod = s.prod ∧ (s.fail).gns = s.gns ∧ (s.fail).trl = s.trl ∧ (s.fail).fur = s.fur ∧
    (s.fail).vlv = s.vlv ∧ (s.fail).lsw = s.lsw ∧ (s.fail).outs = s.outs ∧ (s.fail).can = s.can ∧ (s.fail).eth = s.eth ∧ (s.fail).pan = s.pan ∧
    (s.fail).dram = s.dram ∧ (s.fail).nand = s.nand ∧ (s.fail).traps = s.traps ∧ (s.fail).ter = s.ter ∧ (s.fail).pce = s.pce ∧ (s.fail).pwr = s.pwr ∧
    (s.fail).hlt = s.hlt ∧ (s.fail).upd = s.upd ∧ (s.fail).pending = s.pending := by
  exact ⟨rfl, rfl, rfl, rfl, rfl, rfl, rfl, rfl, rfl, rfl, rfl, rfl, rfl, rfl, rfl, rfl, rfl, rfl, rfl, rfl, rfl, rfl, rfl, rfl, rfl, rfl, rfl, rfl,
    rfl, rfl, rfl, rfl, rfl, rfl, rfl, rfl, rfl, rfl, rfl, rfl, rfl, rfl, rfl, rfl, rfl, rfl⟩

/-- `State.done` changes nothing but `resp`. -/
@[simp] theorem State.done_keeps (s : State) :
    (s.done).code = s.code ∧ (s.done).hwrev = s.hwrev ∧ (s.done).rootOn = s.rootOn ∧ (s.done).bedOn = s.bedOn ∧ (s.done).canopyOn = s.canopyOn ∧
    (s.done).now = s.now ∧ (s.done).regs = s.regs ∧ (s.done).rootRegs = s.rootRegs ∧ (s.done).latches = s.latches ∧ (s.done).wide = s.wide ∧
    (s.done).banks = s.banks ∧ (s.done).badParity = s.badParity ∧ (s.done).mem = s.mem ∧ (s.done).irqs = s.irqs ∧ (s.done).free = s.free ∧
    (s.done).fab = s.fab ∧ (s.done).bridge = s.bridge ∧ (s.done).rings = s.rings ∧ (s.done).mbxStage = s.mbxStage ∧ (s.done).held = s.held ∧
    (s.done).mbxOwed = s.mbxOwed ∧ (s.done).evr = s.evr ∧ (s.done).tim = s.tim ∧ (s.done).toks = s.toks ∧ (s.done).ing = s.ing ∧
    (s.done).cam = s.cam ∧ (s.done).pra = s.pra ∧ (s.done).prod = s.prod ∧ (s.done).gns = s.gns ∧ (s.done).trl = s.trl ∧ (s.done).fur = s.fur ∧
    (s.done).vlv = s.vlv ∧ (s.done).lsw = s.lsw ∧ (s.done).outs = s.outs ∧ (s.done).can = s.can ∧ (s.done).eth = s.eth ∧ (s.done).pan = s.pan ∧
    (s.done).dram = s.dram ∧ (s.done).nand = s.nand ∧ (s.done).traps = s.traps ∧ (s.done).ter = s.ter ∧ (s.done).pce = s.pce ∧ (s.done).pwr = s.pwr ∧
    (s.done).hlt = s.hlt ∧ (s.done).upd = s.upd ∧ (s.done).pending = s.pending := by
  exact ⟨rfl, rfl, rfl, rfl, rfl, rfl, rfl, rfl, rfl, rfl, rfl, rfl, rfl, rfl, rfl, rfl, rfl, rfl, rfl, rfl, rfl, rfl, rfl, rfl, rfl, rfl, rfl, rfl,
    rfl, rfl, rfl, rfl, rfl, rfl, rfl, rfl, rfl, rfl, rfl, rfl, rfl, rfl, rfl, rfl, rfl, rfl⟩

/-- `State.answer` changes nothing but `resp`. -/
@[simp] theorem State.answer_keeps (s : State) (v : Nat) :
    (s.answer v).code = s.code ∧ (s.answer v).hwrev = s.hwrev ∧ (s.answer v).rootOn = s.rootOn ∧ (s.answer v).bedOn = s.bedOn ∧
    (s.answer v).canopyOn = s.canopyOn ∧ (s.answer v).now = s.now ∧ (s.answer v).regs = s.regs ∧ (s.answer v).rootRegs = s.rootRegs ∧
    (s.answer v).latches = s.latches ∧ (s.answer v).wide = s.wide ∧ (s.answer v).banks = s.banks ∧ (s.answer v).badParity = s.badParity ∧
    (s.answer v).mem = s.mem ∧ (s.answer v).irqs = s.irqs ∧ (s.answer v).free = s.free ∧ (s.answer v).fab = s.fab ∧ (s.answer v).bridge = s.bridge ∧
    (s.answer v).rings = s.rings ∧ (s.answer v).mbxStage = s.mbxStage ∧ (s.answer v).held = s.held ∧ (s.answer v).mbxOwed = s.mbxOwed ∧
    (s.answer v).evr = s.evr ∧ (s.answer v).tim = s.tim ∧ (s.answer v).toks = s.toks ∧ (s.answer v).ing = s.ing ∧ (s.answer v).cam = s.cam ∧
    (s.answer v).pra = s.pra ∧ (s.answer v).prod = s.prod ∧ (s.answer v).gns = s.gns ∧ (s.answer v).trl = s.trl ∧ (s.answer v).fur = s.fur ∧
    (s.answer v).vlv = s.vlv ∧ (s.answer v).lsw = s.lsw ∧ (s.answer v).outs = s.outs ∧ (s.answer v).can = s.can ∧ (s.answer v).eth = s.eth ∧
    (s.answer v).pan = s.pan ∧ (s.answer v).dram = s.dram ∧ (s.answer v).nand = s.nand ∧ (s.answer v).traps = s.traps ∧ (s.answer v).ter = s.ter ∧
    (s.answer v).pce = s.pce ∧ (s.answer v).pwr = s.pwr ∧ (s.answer v).hlt = s.hlt ∧ (s.answer v).upd = s.upd ∧ (s.answer v).pending = s.pending := by
  exact ⟨rfl, rfl, rfl, rfl, rfl, rfl, rfl, rfl, rfl, rfl, rfl, rfl, rfl, rfl, rfl, rfl, rfl, rfl, rfl, rfl, rfl, rfl, rfl, rfl, rfl, rfl, rfl, rfl,
    rfl, rfl, rfl, rfl, rfl, rfl, rfl, rfl, rfl, rfl, rfl, rfl, rfl, rfl, rfl, rfl, rfl, rfl⟩

/-- `State.setRing` changes nothing but `rings`. -/
@[simp] theorem State.setRing_keeps (s : State) (q : Nat) (r : Ring) :
    (s.setRing q r).code = s.code ∧ (s.setRing q r).hwrev = s.hwrev ∧ (s.setRing q r).rootOn = s.rootOn ∧ (s.setRing q r).bedOn = s.bedOn ∧
    (s.setRing q r).canopyOn = s.canopyOn ∧ (s.setRing q r).now = s.now ∧ (s.setRing q r).regs = s.regs ∧ (s.setRing q r).rootRegs = s.rootRegs ∧
    (s.setRing q r).latches = s.latches ∧ (s.setRing q r).wide = s.wide ∧ (s.setRing q r).banks = s.banks ∧ (s.setRing q r).badParity = s.badParity ∧
    (s.setRing q r).mem = s.mem ∧ (s.setRing q r).resp = s.resp ∧ (s.setRing q r).irqs = s.irqs ∧ (s.setRing q r).free = s.free ∧
    (s.setRing q r).fab = s.fab ∧ (s.setRing q r).bridge = s.bridge ∧ (s.setRing q r).mbxStage = s.mbxStage ∧ (s.setRing q r).held = s.held ∧
    (s.setRing q r).mbxOwed = s.mbxOwed ∧ (s.setRing q r).evr = s.evr ∧ (s.setRing q r).tim = s.tim ∧ (s.setRing q r).toks = s.toks ∧
    (s.setRing q r).ing = s.ing ∧ (s.setRing q r).cam = s.cam ∧ (s.setRing q r).pra = s.pra ∧ (s.setRing q r).prod = s.prod ∧
    (s.setRing q r).gns = s.gns ∧ (s.setRing q r).trl = s.trl ∧ (s.setRing q r).fur = s.fur ∧ (s.setRing q r).vlv = s.vlv ∧
    (s.setRing q r).lsw = s.lsw ∧ (s.setRing q r).outs = s.outs ∧ (s.setRing q r).can = s.can ∧ (s.setRing q r).eth = s.eth ∧
    (s.setRing q r).pan = s.pan ∧ (s.setRing q r).dram = s.dram ∧ (s.setRing q r).nand = s.nand ∧ (s.setRing q r).traps = s.traps ∧
    (s.setRing q r).ter = s.ter ∧ (s.setRing q r).pce = s.pce ∧ (s.setRing q r).pwr = s.pwr ∧ (s.setRing q r).hlt = s.hlt ∧
    (s.setRing q r).upd = s.upd ∧ (s.setRing q r).pending = s.pending := by
  exact ⟨rfl, rfl, rfl, rfl, rfl, rfl, rfl, rfl, rfl, rfl, rfl, rfl, rfl, rfl, rfl, rfl, rfl, rfl, rfl, rfl, rfl, rfl, rfl, rfl, rfl, rfl, rfl, rfl,
    rfl, rfl, rfl, rfl, rfl, rfl, rfl, rfl, rfl, rfl, rfl, rfl, rfl, rfl, rfl, rfl, rfl, rfl⟩

/-- `State.mapBit` changes nothing but `regs`. -/
@[simp] theorem State.mapBit_keeps (s : State) (base q : Nat) (v : Bool) :
    (s.mapBit base q v).code = s.code ∧ (s.mapBit base q v).hwrev = s.hwrev ∧ (s.mapBit base q v).rootOn = s.rootOn ∧
    (s.mapBit base q v).bedOn = s.bedOn ∧ (s.mapBit base q v).canopyOn = s.canopyOn ∧ (s.mapBit base q v).now = s.now ∧
    (s.mapBit base q v).rootRegs = s.rootRegs ∧ (s.mapBit base q v).latches = s.latches ∧ (s.mapBit base q v).wide = s.wide ∧
    (s.mapBit base q v).banks = s.banks ∧ (s.mapBit base q v).badParity = s.badParity ∧ (s.mapBit base q v).mem = s.mem ∧
    (s.mapBit base q v).resp = s.resp ∧ (s.mapBit base q v).irqs = s.irqs ∧ (s.mapBit base q v).free = s.free ∧ (s.mapBit base q v).fab = s.fab ∧
    (s.mapBit base q v).bridge = s.bridge ∧ (s.mapBit base q v).rings = s.rings ∧ (s.mapBit base q v).mbxStage = s.mbxStage ∧
    (s.mapBit base q v).held = s.held ∧ (s.mapBit base q v).mbxOwed = s.mbxOwed ∧ (s.mapBit base q v).evr = s.evr ∧ (s.mapBit base q v).tim = s.tim ∧
    (s.mapBit base q v).toks = s.toks ∧ (s.mapBit base q v).ing = s.ing ∧ (s.mapBit base q v).cam = s.cam ∧ (s.mapBit base q v).pra = s.pra ∧
    (s.mapBit base q v).prod = s.prod ∧ (s.mapBit base q v).gns = s.gns ∧ (s.mapBit base q v).trl = s.trl ∧ (s.mapBit base q v).fur = s.fur ∧
    (s.mapBit base q v).vlv = s.vlv ∧ (s.mapBit base q v).lsw = s.lsw ∧ (s.mapBit base q v).outs = s.outs ∧ (s.mapBit base q v).can = s.can ∧
    (s.mapBit base q v).eth = s.eth ∧ (s.mapBit base q v).pan = s.pan ∧ (s.mapBit base q v).dram = s.dram ∧ (s.mapBit base q v).nand = s.nand ∧
    (s.mapBit base q v).traps = s.traps ∧ (s.mapBit base q v).ter = s.ter ∧ (s.mapBit base q v).pce = s.pce ∧ (s.mapBit base q v).pwr = s.pwr ∧
    (s.mapBit base q v).hlt = s.hlt ∧ (s.mapBit base q v).upd = s.upd ∧ (s.mapBit base q v).pending = s.pending := by
  exact ⟨rfl, rfl, rfl, rfl, rfl, rfl, rfl, rfl, rfl, rfl, rfl, rfl, rfl, rfl, rfl, rfl, rfl, rfl, rfl, rfl, rfl, rfl, rfl, rfl, rfl, rfl, rfl, rfl,
    rfl, rfl, rfl, rfl, rfl, rfl, rfl, rfl, rfl, rfl, rfl, rfl, rfl, rfl, rfl, rfl, rfl, rfl⟩

end Sys2Proof.Machine
end

