-- ==== Sys2Proof/Laws/Ops.lean ====
section
/-! SUPPORT. What the operations that the meanings share can do: the gate before a register access, the service of a descriptor, and the
writes of memory, which keep its canonical form. -/

namespace Sys2Proof.Machine

/-! ### The gate -/

/-- All that a gated access can do: a failed access, an absent unit counted or discarded, or the effect itself. -/
theorem State.gate_cases (s : State) (a : Agent) (blk off : Nat) (k : State → State) :
    s.gate a blk off k = s.failFor a ∨ (s.bedOn = true ∧ s.gate a blk off k = (s.inc F.SYS_ABSENTWR_CNT).done) ∨
      (s.bedOn = false ∧ s.gate a blk off k = s.done) ∨
      (s.blockOn blk = true ∧ s.admits a blk off = true ∧ s.gate a blk off k = k s.done) := by
  unfold State.gate
  split
  · exact .inl rfl
  · split
    · exact .inl rfl
    · split
      · exact .inl rfl
      · split
        · split
          · exact .inr (.inl ⟨by assumption, rfl⟩)
          · exact .inr (.inr (.inl ⟨by simpa using ‹¬ s.bedOn = true›, rfl⟩))
        · exact .inr (.inr (.inr ⟨by simpa using ‹¬ s.blockOn blk = false›, by simpa using ‹¬ s.admits a blk off = false›, rfl⟩))

/-- An accepted access has its effect. -/
theorem State.gate_accepts {s : State} {a : Agent} {blk off : Nat} (k : State → State) (h : s.accepts a blk off = true) :
    s.gate a blk off k = k s.done := by
  simp only [State.accepts, Bool.and_eq_true, decide_eq_true_eq, Bool.not_eq_true'] at h
  simp [State.gate, h.1.1.1, h.1.1.2, h.2, Nat.not_le.mpr h.1.2]

/-- An access into a domain without power fails. -/
theorem State.gate_off {s : State} {a : Agent} {blk off : Nat} (k : State → State) (h : s.blockOn blk = false) :
    s.gate a blk off k = s.failFor a := by
  simp [State.gate, h]

/-- An access of an agent that is not admitted fails. -/
theorem State.gate_refused {s : State} {a : Agent} {blk off : Nat} (k : State → State) (h : s.admits a blk off = false) :
    s.gate a blk off k = s.failFor a := by
  simp [State.gate, h]

/-- A failed access answers an error, whoever made it. -/
@[simp] theorem State.failFor_resp (s : State) (a : Agent) : (s.failFor a).resp = .error := by
  unfold State.failFor
  split <;> rfl

/-- A failed access changes nothing but the response and the interrupts. -/
theorem State.failFor_eq (s : State) (a : Agent) : s.failFor a = { s with resp := .error, irqs := (s.failFor a).irqs } := by
  unfold State.failFor
  split <;> rfl

/-! ### Descriptors -/

/-- All that the service of an opcode can do. -/
theorem State.serve_cases (s : State) (q op : Nat) (f : Desc → State → State × Result) :
    (s.running q op = none ∧ s.serve q op f = s) ∨
      (∃ d, s.running q op = some d ∧ s.serve q op f = (f d s).1.complete q d (f d s).2) := by
  unfold State.serve
  cases h : s.running q op with
  | none => exact .inl ⟨rfl, rfl⟩
  | some d => exact .inr ⟨d, rfl, rfl⟩

/-- A descriptor that runs on a ring is one of those taken and carries the opcode. -/
theorem State.running_mem {s : State} {q op : Nat} {d : Desc} (h : s.running q op = some d) :
    d ∈ (s.ring q).taken ∧ d.running = true ∧ d.op = op := by
  unfold State.running at h
  split at h
  · exact absurd h (by simp)
  have h1 := List.mem_of_find?_eq_some h
  have h2 := List.find?_some h
  simp only [Bool.and_eq_true, decide_eq_true_eq] at h2
  exact ⟨h1, h2.1, h2.2⟩

/-- A ring reads as it was set. -/
@[simp] theorem State.ring_setRing_same (s : State) (q : Nat) (r : Ring) : (s.setRing q r).ring q = r :=
  SMap.get_set_same _ _ _ _

/-- Setting a ring leaves every other ring alone. -/
theorem State.ring_setRing_other (s : State) {q p : Nat} (r : Ring) (h : p ≠ q) : (s.setRing q r).ring p = s.ring p :=
  SMap.get_set_other _ _ _ h

/-! ### The canonical form of the register map -/

/-- A register write keeps the register map canonical. -/
theorem State.regsWf_setReg {s : State} (k : Nat) (w : W32) (h : s.regsWf) : (s.setReg k w).regsWf :=
  SMap.wf_set _ _ _ _ h

/-- A field write keeps the register map canonical. -/
theorem State.regsWf_wr {s : State} (f : Fld) (v : Nat) (h : s.regsWf) : (s.wr f v).regsWf :=
  State.regsWf_setReg _ _ h

/-- A bulk return to the reset values keeps the register map canonical. -/
theorem State.regsWf_resetRegs {s : State} (p : Nat → Bool) (h : s.regsWf) : (s.resetRegs p).regsWf :=
  SMap.wfFrom_keep _ (fun k => !p k) _ h

/-- The register map right after reset is canonical. -/
theorem State.reset_regsWf : State.reset.regsWf := rfl

/-! ### The canonical form of memory -/

theorem State.reencode_mem (s : State) (a n : Nat) : (s.reencode a n).mem = s.mem := by
  unfold State.reencode
  split <;> rfl

theorem State.mirrorCount_mem (s : State) (r : Fin 16) (lo n : Nat) : (s.mirrorCount r lo n).mem = s.mem := rfl

/-- A write to one place keeps memory canonical. -/
theorem State.memWf_storeOne {s : State} (a : Nat) (b : Bytes) (p : Bool) (h : s.memWf) : (s.storeOne a b p).memWf :=
  Memory.wf_remark _ _ _ (Memory.wf_writeBytes _ _ h)

/-- The second write of the mirror regions keeps memory canonical. -/
theorem State.memWf_mirror {s : State} (a n : Nat) (p : Bool) (h : s.memWf) : (s.mirror a n p).memWf := by
  unfold State.mirror
  generalize s.mirrorParts a n = l
  induction l generalizing s with
  | nil => exact h
  | cons m r ih => exact ih (State.memWf_storeOne _ _ p h)

/-- A write of bytes keeps memory canonical. -/
theorem State.memWf_store {s : State} (a : Nat) (b : Bytes) (p : Bool) (h : s.memWf) : (s.store a b p).memWf :=
  State.memWf_mirror _ _ _ (State.memWf_storeOne _ _ _ h)

/-- A clean write of bytes keeps memory canonical. -/
theorem State.memWf_put {s : State} (a : Nat) (b : Bytes) (h : s.memWf) : (s.put a b).memWf := State.memWf_store _ _ _ h

/-- A write of open content keeps memory canonical. -/
theorem State.memWf_putFree {s : State} (a n : Nat) (h : s.memWf) : (s.putFree a n).memWf :=
  State.memWf_mirror _ _ _ (Memory.wf_remark _ _ _ (Memory.wf_free _ _ _ h))

/-- A write of zeros keeps memory canonical. -/
theorem State.memWf_putZero {s : State} (a n : Nat) (h : s.memWf) : (s.putZero a n).memWf :=
  State.memWf_mirror _ _ _ (Memory.wf_remark _ _ _ (Memory.wf_zero _ _ h))

end Sys2Proof.Machine
end

