-- ==== Sys2Proof/WellFormed.lean ====
section
/-! DEFINITION. Well-formed commands: every operand names something the module has, or a value its place can carry. The step runs any
command; an ill-formed one is what no sender can spell. -/

namespace Sys2Proof

/-- Whether the operands of a command are in range: rings below 112, mailboxes below 64, channels below the count of their array in the
register maps, Furrow operands within their fields (R289). -/
def Instr.wf : Instr → Bool
  | .registerWrite _ addr size value => decide ((size = 8 ∨ size = 16 ∨ size = 32 ∨ size = 64) ∧ addr < 2 ^ 48 ∧ value < 2 ^ size)
  | .readClear _ addr size => decide ((size = 8 ∨ size = 16 ∨ size = 32 ∨ size = 64) ∧ addr < 2 ^ 48)
  | .snapshot _ block _ => decide (block < 26)
  | .paritySweep upsets => decide (∀ u ∈ upsets, u.1 < 0x1A000 ∧ u.2 ≤ 32)
  | .rootRegisterWrite _ off _ => decide (off < 0x1000)
  | .gorgeRequest req cls _ _ len tag => decide (req < 16 ∧ cls < 16 ∧ 1 ≤ len ∧ len ≤ 256 ∧ tag < 8192)
  | .entryRelease tag newTag => decide (tag < 8192 ∧ newTag < 8192)
  | .forcedCompletion tag newTag => decide (tag < 8192 ∧ newTag < 8192)
  | .fabCredWrite _ n _ => decide (n < 16)
  | .bridgeInboundWrite _ _ data _ => decide (1 ≤ data.length ∧ data.length ≤ 64)
  | .timerCompareMatch core _ => decide (core < 16)
  | .referenceMark source _ _ _ => decide (source < 3)
  | .alarmArm _ n _ => decide (n < 16)
  | .alarmDisarm _ n _ => decide (n < 16)
  | .alarmFire n => decide (n < 16)
  | .ringEnable _ q _ => decide (q < 112)
  | .ringDisable _ q => decide (q < 112)
  | .submissionDoorbell _ q _ => decide (q < 112)
  | .completionDoorbell _ q _ => decide (q < 112)
  | .descriptorTake q => decide (q < 112)
  | .phaseRecheck q => decide (q < 112)
  | .atDeadlineStart q => decide (q < 112)
  | .mailboxStage _ m _ => decide (m < 64)
  | .mailboxPost _ m _ => decide (m < 64)
  | .mailboxTake _ m _ => decide (m < 64)
  | .mailboxAbtClear _ m => decide (m < 64)
  | .analogueSample n _ _ => decide (n < 48)
  | .frameFlushTimeout n => decide (n < 112)
  | .streamEnable _ n _ => decide (n < 112)
  | .streamDisable _ n _ => decide (n < 112)
  | .analogueCfgWrite _ n _ => decide (n < 48)
  | .acousticHit n _ => decide (n < 8)
  | .acousticReport n => decide (n < 8)
  | .freqEdge n _ => decide (n < 32)
  | .freqOutputSample n => decide (n < 32)
  | .supplyOvercurrent n => decide (n < 8)
  | .supplyBackfeed n => decide (n < 8)
  | .supplyRetry n => decide (n < 8)
  | .capture q => decide (q < 112)
  | .refcheck q _ _ _ => decide (q < 112)
  | .linkEnable _ n _ => decide (n < 12)
  | .linkDisable _ n _ => decide (n < 12)
  | .linkTrainTimeout n => decide (n < 12)
  | .linkLock n _ => decide (n < 12)
  | .linkLockLost n => decide (n < 12)
  | .frameSyncSend n => decide (n < 12)
  | .pocOvercurrent n => decide (n < 12)
  | .pocRetry n => decide (n < 12)
  | .frameStart n _ => decide (n < 12)
  | .lineArrival n px _ _ _ _ => decide (n < 12 ∧ px.vc < 16 ∧ px.dt < 64 ∧ px.px.length < 65536 ∧ (px.px.all (fun v => decide (v < 16384))) = true)
  | .lineTimeout n => decide (n < 12)
  | .frameStall n => decide (n < 12)
  | .frameProcessed n => decide (n < 12)
  | .pictureEncode n _ _ => decide (n < 24)
  | .loadtab q => decide (q < 112)
  | .cci q _ _ => decide (q < 112)
  | .camExport q => decide (q < 112)
  | .encRestart _ n => decide (n < 24)
  | .encForceidr _ n => decide (n < 24)
  | .netload q _ _ => decide (q < 112)
  | .netact q _ => decide (q < 112)
  | .calload q => decide (q < 112)
  | .calread q => decide (q < 112)
  | .calfreeze q => decide (q < 112)
  | .reinstate q => decide (q < 112)
  | .exclude q => decide (q < 112)
  | .signalSearch u ant _ _ _ _ _ _ => decide (u < 16 ∧ ant < 2)
  | .channelLock ch _ => decide (ch < 192)
  | .channelLockLoss ch => decide (ch < 192)
  | .channelFree ch _ => decide (ch < 192)
  | .antennaFeedFault a _ => decide (a < 2)
  | .aidtime q => decide (q < 112)
  | .aidpos q => decide (q < 112)
  | .aidorb q => decide (q < 112)
  | .solution q => decide (q < 112)
  | .orbread q => decide (q < 112)
  | .gnssRestart q => decide (q < 112)
  | .loopSample n _ _ => decide (n < 64)
  | .loopEnable _ n _ => decide (n < 64)
  | .loopDisable _ n => decide (n < 64)
  | .loopModeWrite _ n mode => decide (n < 64 ∧ mode < 8)
  | .loadpar q => decide (q < 112)
  | .setmode q => decide (q < 112)
  | .readpar q => decide (q < 112)
  | .readstate q => decide (q < 112)
  | .parameterMemoryError n _ _ => decide (n < 64)
  | .furLd _ f => decide (f < 8192)
  | .furLdn _ f => decide (f < 8192)
  | .furAnd _ f => decide (f < 8192)
  | .furAndn _ f => decide (f < 8192)
  | .furOr _ f => decide (f < 8192)
  | .furOrn _ f => decide (f < 8192)
  | .furXor _ f => decide (f < 8192)
  | .furSt _ f => decide (f < 8192)
  | .furStn _ f => decide (f < 8192)
  | .furSet _ f => decide (f < 8192)
  | .furRst _ f => decide (f < 8192)
  | .furOpen op => decide (op < 3)
  | .furFp _ e => decide (e < 2048)
  | .furFn _ e => decide (e < 2048)
  | .furTon base count t => decide (base < 4 ∧ count < 4096 ∧ t < 1024)
  | .furTof base count t => decide (base < 4 ∧ count < 4096 ∧ t < 1024)
  | .furTp base count t => decide (base < 4 ∧ count < 4096 ∧ t < 1024)
  | .furTonw word t => decide (word < 2048 ∧ t < 1024)
  | .furTofw word t => decide (word < 2048 ∧ t < 1024)
  | .furTpw word t => decide (word < 2048 ∧ t < 1024)
  | .furRstt t => decide (t < 1024)
  | .furLdt t => decide (t < 1024)
  | .furCtu word c => decide (word < 2048 ∧ c < 512)
  | .furCtd word c => decide (word < 2048 ∧ c < 512)
  | .furRstc c => decide (c < 512)
  | .furLdc c => decide (c < 512)
  | .furLdw _ k => decide (k < 2048)
  | .furLdi imm => decide (-(2 ^ 19) ≤ imm ∧ imm < 2 ^ 19)
  | .furStw _ k => decide (k < 2048)
  | .furStwc _ k => decide (k < 2048)
  | .furAddw _ k => decide (k < 2048)
  | .furSubw _ k => decide (k < 2048)
  | .furMulw _ k => decide (k < 2048)
  | .furDivw _ k => decide (k < 2048)
  | .furAddi imm => decide (-(2 ^ 19) ≤ imm ∧ imm < 2 ^ 19)
  | .furMinw _ k => decide (k < 2048)
  | .furMaxw _ k => decide (k < 2048)
  | .furAndw _ k => decide (k < 2048)
  | .furOrw _ k => decide (k < 2048)
  | .furCeq _ k => decide (k < 2048)
  | .furCne _ k => decide (k < 2048)
  | .furClt _ k => decide (k < 2048)
  | .furCle _ k => decide (k < 2048)
  | .furCgt _ k => decide (k < 2048)
  | .furCge _ k => decide (k < 2048)
  | .furCeqi imm => decide (-(2 ^ 19) ≤ imm ∧ imm < 2 ^ 19)
  | .furCnei imm => decide (-(2 ^ 19) ≤ imm ∧ imm < 2 ^ 19)
  | .furClti imm => decide (-(2 ^ 19) ≤ imm ∧ imm < 2 ^ 19)
  | .furClei imm => decide (-(2 ^ 19) ≤ imm ∧ imm < 2 ^ 19)
  | .furCgti imm => decide (-(2 ^ 19) ≤ imm ∧ imm < 2 ^ 19)
  | .furCgei imm => decide (-(2 ^ 19) ≤ imm ∧ imm < 2 ^ 19)
  | .furLdte t => decide (t < 1024)
  | .furLdcv c => decide (c < 512)
  | .furJmp target => decide (target < 16384)
  | .furJc target => decide (target < 16384)
  | .furJnc target => decide (target < 16384)
  | .furRep _ count str len => decide (count < 4096 ∧ str < 8 ∧ 1 ≤ len ∧ len < 256)
  | .setval q => decide (q < 112)
  | .readmem q => decide (q < 112)
  | .valveUntimedCommand _ n _ => decide (n < 48)
  | .peakPhaseEnd n => decide (n < 48)
  | .dipWindowClose n _ _ _ => decide (n < 48)
  | .bankTrip b _ => decide (b < 12)
  | .bankFaultClear _ b => decide (b < 12)
  | .dutyLimitEntry n _ => decide (n < 48)
  | .dutyLimitExit n _ => decide (n < 48)
  | .valveChannelFault n _ => decide (n < 48)
  | .vlvPulse q => decide (q < 112)
  | .vlvSet q => decide (q < 112)
  | .vlvCancel q => decide (q < 112)
  | .timedValveEvent b => decide (b < 12)
  | .watchdogRefresh ic r => decide (ic < 14 ∧ r.ma.length ≤ 8 ∧ r.avg.length ≤ 2)
  | .watchdogExpiry ic => decide (ic < 14)
  | .outputStageResume _ ic => decide (ic < 14)
  | .lswUntimedCommand _ n _ => decide (n < 64)
  | .shedEvaluation means => decide (means.length = 4)
  | .lswChannelFault n _ => decide (n < 64)
  | .openLoadOff n _ => decide (n < 64)
  | .openLoadOn n _ => decide (n < 64)
  | .lswPulse q => decide (q < 112)
  | .lswSet q => decide (q < 112)
  | .lswCancel q => decide (q < 112)
  | .fsread q => decide (q < 112)
  | .canEnable _ c _ => decide (c < 8)
  | .canDisable _ c => decide (c < 8)
  | .canModeWrite _ c mode => decide (c < 8 ∧ mode < 4)
  | .busRateDetect c _ _ => decide (c < 8)
  | .detectTimeout c => decide (c < 8)
  | .canFrameReceived c f => decide (c < 8 ∧ f.dlc < 16 ∧ f.id < 2 ^ 32 ∧ f.data.length ≤ 64)
  | .acceptanceTableCopy _ c _ => decide (c < 8)
  | .sendCmd q => decide (q < 112)
  | .canCancel q => decide (q < 112)
  | .canFrameStart c => decide (c < 8)
  | .canFrameAcknowledged c => decide (c < 8)
  | .canFrameLost c _ => decide (c < 8)
  | .busOffRecovery c => decide (c < 8)
  | .addressClaim c => decide (c < 8)
  | .claimHoldoffExpiry c => decide (c < 8)
  | .claimContest c _ => decide (c < 8)
  | .claimBackoffExpiry c => decide (c < 8)
  | .claimRequest c => decide (c < 8)
  | .partnerTimeout k => decide (k < 256)
  | .selectiveWake c _ => decide (c < 8)
  | .ethFrameForward port f _ => decide (port < 7 ∧ f.dst < 2 ^ 48 ∧ f.src < 2 ^ 48 ∧ f.etype < 2 ^ 16)
  | .ethLinkChange port _ _ => decide (port < 7)
  | .grandmasterChange _ _ slave _ roles => decide (slave < 16 ∧ roles.length = 7)
  | .rioInputFrame port f _ => decide (port < 7 ∧ f.dst < 2 ^ 48 ∧ f.src < 2 ^ 48 ∧ f.etype < 2 ^ 16)
  | .udpIntake port f _ _ _ => decide (port < 7 ∧ f.dst < 2 ^ 48 ∧ f.src < 2 ^ 48 ∧ f.etype < 2 ^ 16)
  | .serviceRead f => decide (f.dst < 2 ^ 48 ∧ f.src < 2 ^ 48 ∧ f.etype < 2 ^ 16)
  | .serviceWrite f => decide (f.dst < 2 ^ 48 ∧ f.src < 2 ^ 48 ∧ f.etype < 2 ^ 16)
  | .laneTraining locks => decide (locks < 256)
  | .laneLockLoss lane => decide (lane < 8)
  | .dramRead req _ _ _ => decide (req < 16)
  | .dramLineWrite addr data _ => decide (data.length = 64 ∧ addr % 64 = 0)
  | .dramPartialWrite req addr mask data _ _ => decide (req < 16 ∧ mask < 2 ^ 64 ∧ data.length = 64 ∧ addr % 64 = 0)
  | .deviceMarkSet _ n _ => decide (n < 8)
  | .deviceMarkClear _ n => decide (n < 8)
  | .poisonTrap core _ _ _ _ => decide (core < 16)
  | .nandRead q _ => decide (q < 112)
  | .nandProgram q _ _ => decide (q < 112)
  | .nandErase q _ => decide (q < 112)
  | .driveLinkUp slot _ _ _ _ _ _ _ _ => decide (slot < 32)
  | .driveLinkLost slot _ => decide (slot < 32)
  | .driveFailed slot _ => decide (slot < 32)
  | .wake src => decide (src < 8)
  | .keepawake c => decide (c < 8)
  | .lateWake c => decide (c < 8)
  | .selfTest res _ _ _ => decide (res < 2 ^ 32)
  | .heartbeat _ n => decide (n < 2)
  | .heartbeatTimeout n => decide (n < 2)
  | .daleDeclareFail _ n => decide (n < 2)
  | .daleReadyWrite _ n _ => decide (n < 2)
  | .comparisonWrite _ k _ => decide (k < 16)
  | .mirrorRegionEnable _ n _ _ => decide (n < 16)
  | .probationExpiry u => decide (u < 9)
  | .bucketRefill sev => decide (sev < 16)
  | .rootEventRecord event sev _ _ _ => decide (event < 256 ∧ sev < 16)
  | .daleCacheError n core _ _ => decide (n < 2 ∧ core < 16)
  | .engineCheckError res _ => decide (res < 2 ^ 32)
  | .antennaFeedRetry a => decide (a < 2)
  | .pulseEnd _ n => decide (n < 64)
  | .wakeInputEdge n _ => decide (n = 1 ∨ n = 2)
  | .acousticRawSample n _ => decide (n < 8)
  | .supplyCurrentSample n _ => decide (n < 8)
  | .fdbEntryAgeing mac vid => decide (mac < 2 ^ 48 ∧ vid < 4096)
  | .gateOpen port => decide (port < 7)
  | .canReceiveError c _ _ => decide (c < 8)
  | .tokenHeldOneHour c => decide (c < 8)
  | .rootEdge => true
  | .bedRailFallCommit => true
  | .bridgeHandoff _ _ => true
  | .bridgeDrain => true
  | .paceGaugeMeasure _ => true
  | .railRegulation => true
  | .tempSensorUpdate _ => true
  | .voltageMonitorUpdate _ => true
  | .sundialSave => true
  | .markTimeout => true
  | .sdlModeWrite _ _ => true
  | .driftCheck _ _ _ => true
  | .tcxoLoss => true
  | .tcxoReturn => true
  | .referenceCheck _ _ _ => true
  | .bsrposWrite _ _ => true
  | .gridCycleStart _ _ => true
  | .paceTimeout _ _ => true
  | .stage1Run _ _ _ _ => true
  | .gridPublish _ _ => true
  | .trackUpdate _ => true
  | .trackClear _ => true
  | .forecastSample _ _ _ _ _ _ => true
  | .yieldSample _ _ _ _ _ => true
  | .tileClose _ _ => true
  | .yieldFlush _ => true
  | .yldrposWrite _ _ => true
  | .gnssEpoch _ _ => true
  | .gnssMark _ _ _ _ => true
  | .markstop => true
  | .guidanceRecord _ => true
  | .cycleBoundary => true
  | .furrowEnable _ _ => true
  | .furrowDisable _ => true
  | .furNop => true
  | .furNot => true
  | .furLda _ => true
  | .furClose => true
  | .furNeg => true
  | .furAbs => true
  | .furLdx => true
  | .furEnd => true
  | .progload => true
  | .progact => true
  | .valveFaultClear _ _ _ => true
  | .wearCommit => true
  | .failsafeRequest => true
  | .shedClear _ _ _ => true
  | .wireHeatUpdate _ _ => true
  | .lswFaultClear _ _ _ => true
  | .fsunlockWrite _ _ => true
  | .fsunlockTimeout => true
  | .fswrite _ => true
  | .aloneClear _ _ => true
  | .partnerClear _ _ => true
  | .ptpMark _ _ _ => true
  | .gclload => true
  | .fdbset => true
  | .riotpl => true
  | .xmit => true
  | .rxbuf => true
  | .nvmeConnect _ _ _ _ => true
  | .nvmePropertyGet _ _ _ => true
  | .nvmePropertySet _ _ _ _ => true
  | .nvmeDisconnect _ _ => true
  | .nvmeIdentify _ _ _ _ => true
  | .nvmeGetLogPage _ _ _ _ _ => true
  | .nvmeSetFeatures _ _ _ _ => true
  | .nvmeGetFeatures _ _ _ => true
  | .nvmeAsyncEventRequest _ _ => true
  | .nvmeKeepAlive _ _ => true
  | .nvmeRead _ _ _ _ _ _ => true
  | .nvmeWrite _ _ _ _ _ => true
  | .nvmeFlush _ _ _ => true
  | .nvmeDatasetManagement _ _ _ _ _ => true
  | .nvmeWriteZeroes _ _ _ _ _ => true
  | .panelFrameStart _ _ => true
  | .frameCompose => true
  | .stripRefresh _ => true
  | .displayFallback => true
  | .fallbackClear _ _ => true
  | .panelPowerOn _ _ => true
  | .panelPowerOff _ _ => true
  | .panelSequenceStep => true
  | .uniformityMapRead _ => true
  | .mapload => true
  | .scrubVisit _ => true
  | .lineZero _ => true
  | .lineScrub _ => true
  | .lineInject _ => true
  | .lineCopy _ => true
  | .logPop _ _ => true
  | .rawread _ => true
  | .rawprog _ => true
  | .decode => true
  | .nscreate => true
  | .nsdelete => true
  | .nsinfo => true
  | .admitCmd => true
  | .releaseCmd => true
  | .rawlend _ => true
  | .rawreturn _ => true
  | .extread => true
  | .evacuate => true
  | .terRead _ => true
  | .terWrite => true
  | .append => true
  | .terFlush => true
  | .dealloc => true
  | .terRefresh => true
  | .refreshPass _ _ => true
  | .hotExtentMove => true
  | .degradedRemirror => true
  | .accessUnitIntake => true
  | .tileIntake => true
  | .terraceEnable _ _ _ => true
  | .terraceStop _ _ => true
  | .slotpwr => true
  | .retrain _ _ => true
  | .pcieLinkLoss _ => true
  | .completionTimeout _ _ _ _ => true
  | .supplyLow _ => true
  | .supplyHigh _ => true
  | .supplyFailure _ _ => true
  | .supplyReturn _ => true
  | .wakeTimerExpiry => true
  | .bedUp _ => true
  | .bedDown _ => true
  | .canopyUp _ => true
  | .canopyUpRetry _ => true
  | .canopyDown _ => true
  | .canopyGraceTimeout => true
  | .pwrreqGo _ _ => true
  | .pwrreqTarget _ _ => true
  | .ignitionRise => true
  | .ignitionOffTimeout _ => true
  | .sleepHold => true
  | .sleepHoldExpiry => true
  | .sleepWaitExpiry => true
  | .moduleReset _ _ _ => true
  | .canopyRestart _ _ _ => true
  | .resetButton _ _ => true
  | .buttonStuck => true
  | .thermalShed => true
  | .thermalReturn => true
  | .thermalCut _ _ => true
  | .cellMeasure _ _ _ => true
  | .rootSave _ => true
  | .rtdSaveNow _ => true
  | .rtdCalload _ _ => true
  | .rootPowerOn => true
  | .handover => true
  | .handoverSwitch => true
  | .handoverPrepareTimeout => true
  | .noDaleRestart _ => true
  | .testCmd => true
  | .toktake => true
  | .tokgive => true
  | .stage _ _ => true
  | .apply _ => true
  | .abortCmd => true
  | .cfgread => true
  | .cfgwrite => true
  | .confirm _ _ _ => true
  | .declareFailure _ _ => true
  | .deferredFstableWrite _ => true
  | .eventRecordWrite _ => true
  | .swrecCommit _ _ => true
  | .fetch _ => true
  | .endpointLinkChange _ _ _ => true
  | .buttonUnmask => true

end Sys2Proof
end

