-- ==== Sys2Proof/Tests/Slice0.lean ====
section
/-! SUPPORT. The tests: a term for each check of WellFormed.lean, words and formulas worked out by hand from the spec, one step of each group of
commands, and for every statement states and operands that meet its hypotheses. -/

namespace Sys2Proof.Tests
open Sys2Proof Sys2Proof.Machine

set_option linter.unusedVariables false
set_option Elab.async false

/-! ### Small states -/

def outc (o : Host.Outcome State Fault Refusal) (p : State → Bool) : Bool := match o with
  | .next t => p t
  | _ => false
/-- Everything powered, Dale A carrying. -/
def up : State := ({ State.reset with rootOn := true, bedOn := true, canopyOn := true }).wr F.HLT_ROLE_CARRY 0
/-- The same state under another name. -/
def base : State := up
/-- `s` at Sundial time `n`. -/
def later (n : Nat) (s : State) : State := { s with now := n }
/-- One tracker entry. -/
def oneEntry : State := { up with fab := { up.fab with entries := [⟨5, 15, 0, true, 0x40, 64, 0, false⟩] } }
/-- One line in the bridge. -/
def oneLine : State := { up with bridge := { up.bridge with inbound := [⟨0xF000000000, [7], false, true, .plain⟩] } }
/-- Two valid gauges of Bed. -/
def paced : State := (((up.wr (F.HLT_PACEn_VALID 0) 1).wr (F.HLT_PACEn_PACE 0) 0x400).wr (F.HLT_PACEn_VALID 1) 1).wr (F.HLT_PACEn_PACE 1) 0x35F
def dflt : RegDesc := ⟨0, [], []⟩
/-- One posted write. -/
def oneLatch : State := { later 5000 up with latches := [⟨0x030, 0x99, 0x99, 100⟩] }
def descAt (b o : Nat) : RegDesc := (findReg b o).getD dflt
/-- A descriptor that runs. -/
def desc (op c : Nat) (pl : Bytes) : Desc := ⟨0, op, true, true, false, 0, 0, 0x1234, 0, fitBytes 48 pl, true, 0, 0, false, Fin.ofNat 128 c⟩
/-- Rings `q` and its completion ring `c` enabled with 16 entries in the Bed store. -/
def ringsUp (q c : Nat) (s : State) : State :=
  let t := ((s.wr (F.RNG_QnCFG_EN q) 1).wr (F.RNG_QnCFG_LOG2N q) 4).wr (F.RNG_QnCFG_CQ q) c
  let t := (((t.wr (F.RNG_QnCFG_EN c) 1).wr (F.RNG_QnCFG_KIND c) 1).wr (F.RNG_QnCFG_LOG2N c) 4).wr (F.RNG_QnBASE_BASE c) 0x3C000001
  ((((t.wr (F.RNG_QnBASE_BASE q) 0x3C000000).wr (F.RNG_QnSTAT_STATE q) 1).wr (F.RNG_QnSTAT_STATE c) 1).wr (F.RNG_QnSTAT_PHASE q) 1).wr (F.RNG_QnSTAT_PHASE c) 1
/-- A descriptor of opcode `op` and payload `pl` runs on ring `q`. -/
def run (q c op : Nat) (pl : Bytes) (s : State) : State :=
  let t := ringsUp q c s
  (t.setRing q { t.ring q with taken := [desc op c pl] }).setRing c { t.ring c with reserved := 1 }
/-- A descriptor line waits at the head of ring `q`. -/
def waits (q c : Nat) (line : Bytes) (s : State) : State :=
  let t := ringsUp q c s
  ({ t with mem := t.mem.writeBytes 0xF000000000 line }).setRing q { t.ring q with idx := 1 }
/-- A mailbox that holds a notice of agent `src`. -/
def noticed (m src : Nat) (s : State) : State := (s.wr (F.MBX_MnSTAT_FULL m) 1).wr (F.MBX_MnSTAT_SRC m) src
/-- Stream `n` enabled with frames at the foot of the Bed store. -/
def streamOn (n : Nat) (s : State) : State := (s.wr (F.ING_STRn_CFG_EN n) 1).wr (F.ING_STRn_CFG_LOG2F n) 3
def aSamp : Samp := ⟨8, 100, ⟨1, 2⟩, false, false, false, false⟩
/-- Link 3 of the camera in state `st`, enabled. -/
def linkIn (st : Nat) (s : State) : State :=
  (((s.wr (F.CAM_LNKn_CTL_EN 3) 1).wr (F.CAM_LNKn_STAT_STATE 3) st).wr (F.CAM_LNKn_GEOM_ACTW 3) 64).wr (F.CAM_LNKn_GEOM_ACTH 3) 64 |>.wr (F.CAM_LNKn_TIME_FPSMAX 3) 30
def aFrame : CamFrame := { fseq := 5, tfs := 0, lastLine := 0 }
def exportArgs : Bytes := [3, 0, 0, 0, 0, 0, 2, 0, 64, 0, 3, 0, 0, 1, 0, 0, 0, 0, 0x10]
/-- Link 3 with a display output of 64 by 64. -/
def sized (s : State) : State := ((linkIn 3 s).wr (F.CAM_LNKn_DSIZE_W 3) 64).wr (F.CAM_LNKn_DSIZE_H 3) 64
/-- Slot 0 of that output written. -/
def slotted (s : State) : State := { s with cam := { s.cam with order := 1, slots := [(slotKey 3 0 0, ⟨5, 8, 1, 0⟩)] } }
def aNet : Net :=
  ⟨0x100000, 0x1000, 7, 2, 0, 64, 64, 1, 1, 2, 1, 1, 1, 100, 0, 1000, 0, false, 0, true, true, false⟩
def noPose : PoseNow := {}
def aCycle : GridCycle := ⟨80, some 8, 0, 0, 0, 0, 0, noPose, aNet, [], []⟩
def aGrid : GridRef := ⟨4, 80, 160, 0, noPose⟩
/-- Prairie with an active network and the grid stage enabled. -/
def gridOn (s : State) : State := ({ s with pra := { s.pra with net := some aNet } }).wr F.PRA_GCTL_EN 1
def pra (p : Prairie → Prairie) (s : State) : State := { s with pra := p s.pra }
def prod (p : Products → Products) (s : State) : State := { s with prod := p s.prod }
/-- Camera 3 paces; its frame of the sync instant 0 is ready. -/
def paces (s : State) : State := ((linkIn 3 (gridOn s)).wr (F.PRA_SENSn_CTL_PACE 3) 1).wr F.PRA_GCTL_MODE 1
def aTile : Tile := ⟨0, 0, 8, 8, 1, 0, [], 0⟩
def gnsOn (s : State) : State := (s.wr F.GNS_RUN_EN 1).wr F.GNS_SIG_EN 0x1FF
def gns (p : Gnss → Gnss) (s : State) : State := { s with gns := p s.gns }
/-- One RTCM frame of message 1019 for satellite 5. -/
def eph19 : Bytes := let b := [0xD3, 0, 6, 0x3F, 0xB1, 0x40, 0, 0, 0]; b ++ beBytes 3 (crc24q b)
def epoch0 : EpochIn := ⟨true, true, 1, 2, 3, 4, 5, 6, 5, 18, 150, [], [], 10, 20, 0, [], [], [], []⟩
def guide0 : GuideIn := ⟨2, true, 300, 8, 4, (1, 2, 3), (4, 5), (6, 7), none, 0, 0, (5, 6), (0, 0)⟩
/-- Loop 5 enabled with a period of 1 ms, no record. -/
def loop5 (s : State) : State := ((s.wr (F.TRL_Ln_CTL_EN 5) 1).wr (F.TRL_Ln_CTL_PERIOD 5) 1000).wr (F.TRL_Ln_STAT_STATE 5) 1
def parRec : Bytes := [1, 63, 0, 0, 1, 0, 1, 0, 1, 0, 0, 0] ++ leBytes 100 0 ++ leBytes 4 0x10000000 ++ leBytes 12 0
def parArgs : Bytes := [63, 0, 0, 0, 0, 0, 0, 0, 0, 0x10, 0, 0, 0xF0]
def parMem : State := { up with mem := up.mem.writeBytes 0xF000001000 parRec }
/-- A program of the words `c`. -/
def aProg (c : List Nat) : Prog := ⟨1, 1, 0, 0, 0, 0, c, [], [], []⟩
/-- A scan that stands on the first instruction. -/
def aScan : Scan := { seq := 1, tlatch := 8, started := 8 }
/-- Furrow runs the scan `sc` on the word `c`. -/
def furAt (c : Nat) (sc : Scan) (s : State) : State :=
  ({ s with fur := { s.fur with active := some (aProg [c, 0x6F000000, 0, 0]), scan := some sc } }).wr F.FUR_STATE_STATE 1
/-- Furrow's word and timer. -/
def fword (i : Nat) (v : Int) (s : State) : State := { s with fur := { s.fur with words := [(i, v)] } }
def ftimer (i : Nat) (v : Timer) (s : State) : State := { s with fur := { s.fur with timers := [(i, v)] } }
/-- Valve channel `n` enabled, permitted and commanded by register, with a peak of 1 A for 1 ms and a hold of 200 mA. -/
def valveOn (n : Nat) (s : State) : State :=
  (((((s.wr (F.VLV_CHn_CTL_EN n) 1).wr (F.VLV_CHn_CTL_SRC n) 3).wr (vlvFlag n 10) 1).wr (F.VLV_CHn_PEAK_IPEAK n) 1000).wr (F.VLV_CHn_PEAK_TPEAK n) 100).wr (F.VLV_CHn_HOLD_IHOLD n) 200
/-- The same channel commanded by rings. -/
def srcRing (n : Nat) : State := (valveOn n up).wr (F.VLV_CHn_CTL_SRC n) 2
/-- A timed descriptor for the instant 50 µs. -/
def pulseDesc (q op : Nat) (pl : Bytes) : Desc := { desc op (q + 1) pl with tmode := 1, deadline := 50000 }
def pulseRun (q op : Nat) (pl : Bytes) : State :=
  let t := run q (q + 1) op pl (srcRing 3)
  t.setRing q { t.ring q with taken := [pulseDesc q op pl] }
/-- The same for an instant that has no lead. -/
def lateDesc (q op : Nat) (pl : Bytes) : Desc := { desc op (q + 1) pl with tmode := 1, deadline := 10000 }
def lateRun (q op : Nat) (pl : Bytes) : State :=
  let t := run q (q + 1) op pl (srcRing 3)
  t.setRing q { t.ring q with taken := [lateDesc q op pl] }
def vlvEvs (l : List ValveEvent) (s : State) : State := { s with vlv := { s.vlv with evs := l } }
/-- Load-switch channel `n` enabled, permitted and commanded by register. -/
def lswReady (n : Nat) (s : State) : State :=
  (((s.wr (F.LSW_CHn_CTL_EN n) 1).wr (F.LSW_CHn_CTL_SRC n) 3).wr (lswFlag n 2) 1).wr (F.LSW_CHn_LIM_BUD n) 100
/-- A table image without drives, and a descriptor for it. -/
def fsImg : Bytes :=
  let h := leBytes 4 0x31534146 ++ leBytes 4 1 ++ leBytes 4 9 ++ leBytes 4 7 ++ [0xFF] ++ leBytes 43 0
  h ++ leBytes 4 (crc32 (h ++ leBytes 448 0)) ++ leBytes 448 0
def fsArgs : Bytes := [0, 0, 0, 0, 0, 0, 0, 0, 0, 0x10, 0, 0, 0xF0]
/-- The table unlocked in Doze with the image at its place. -/
def fsMem : State :=
  let t := ((run 46 47 0x10 fsArgs { up with mem := up.mem.writeBytes 0xF000001000 fsImg }).wr F.SYS_PWRSTATE_STATE 2).wr F.LSW_FSUNLOCK_STATE 2
  { t with lsw := { t.lsw with openAt := some 0 } }
/-- A transmit frame with the identifier `id`. -/
def aTx (id : Nat) : TxFrame := { kind := .mgmt, id := id, dlc := 0, data := [], sasub := false }
/-- Controller `c` ACTIVE with frames waiting. -/
def canActive (c : Nat) (l : List TxFrame) (s : State) : State :=
  ((s.wr (F.CAN_CHc_CTL_EN c) 1).wr (F.CAN_CHc_STAT_STATE c) 2).setCtl c { pend := l }
/-- Ports 1, 2 and 6 enabled with their links up. -/
def links (s : State) : State := [1, 2, 6].foldl (fun x p => (x.wr (F.ETH_Pp_CTL_EN p) 1).wr (F.ETH_Pp_STAT_LINK p) 1 |>.wr (F.ETH_Pp_CTL_PVID p) 1) s
/-- A frame from station BB to station AA. -/
def ethIn : EthFrame := ⟨0x0200000000AA, 0x0200000000BB, none, 0x88B5, List.replicate 46 0⟩
def dflt2 : Desc := desc 0x10 81 [2, 1]
/-- Input stream 31 enabled on port 2. -/
def rioOn : State :=
  (((((links up).wr (F.ETH_RIOs_CFG_EN 31) 1).wr (F.ETH_RIOs_CFG_PORT 31) 2).wr (F.ETH_RIOs_CFG_LEN 31) 8).wr (F.ETH_RIOs_MACHI_ETYPE 31) 0x88F7).wr (F.ETH_RIOs_MACHI_MAC 31) 0x0200
    |>.wr (F.ETH_RIOs_MACLO_MAC 31) 0xBB |>.wr F.ETH_RIOCTL_EN 1
/-- An IPv4 UDP frame from address 1 to address 9. -/
def udpTo (port : Nat) (b : Bytes) : EthFrame :=
  ⟨0x0200000000AA, 0x0200000000BB, none, 0x0800, [0x45, 0, 0, 0, 0, 0, 0, 0, 64, 17, 0, 0] ++ beBytes 4 1 ++ beBytes 4 9 ++ beBytes 2 1 ++ beBytes 2 port ++ beBytes 2 (8 + b.length) ++ [0, 0] ++ b⟩
def udpFrame (b : Bytes) : EthFrame := udpTo 2368 b
/-- Lidar unit 0 with a layout of one block of two one-byte points. -/
def lidarOn : State :=
  let t := ((((links up).wr F.ETH_ENGIP_ADDR 9).wr (F.ETH_UDPm_CTL_EN 0) 1).wr (F.ETH_UDPm_CTL_PORT 0) 2368).wr (F.ETH_LIDu_CFG_EN 0) 1 |>.wr (F.ETH_LIDu_CFG_LOG2 0) 16
  let l : Bytes := [1, 0, 0, 0] ++ leBytes 4 0 ++ leBytes 2 0 ++ leBytes 2 0 ++ leBytes 2 1 ++ leBytes 2 3 ++ leBytes 2 3 ++ leBytes 2 1 ++ leBytes 4 0 ++ ([0, 0, 1, 0, 1, 0, 0, 0] ++ leBytes 32 0)
  { t with eth := { t.eth with layouts := [(0, l)] } }
/-- Terrace runs. -/
def terOn (s : State) : State := s.wr F.TER_READY_STATE 2
/-- The target runs and lists one host. -/
def target (s : State) : State :=
  let t := (s.wr F.ETH_NVMECTL_EN 1).wr F.ETH_NVMECTL_MAXCONN 4
  let t := t.setReg (Reg.ETH_ALLOWk 15) 0x0A000001
  terOn t
def svcReq (op : Nat) (w : Bytes) : Bytes := [1, 0, 0, 0] ++ leBytes 1 op ++ [1, 0, 0] ++ leBytes 8 0xFE0000001C ++ w
def svcFrame (op : Nat) (w : Bytes) : EthFrame := udpTo 7440 (svcReq op w)
def svcOn : State := ((links up).wr F.ETH_ENGIP_ADDR 9).wr F.ETH_SVC_EN 1
def aConn : NvmeConn := { id := 7, addr := 0x0A000001, ctrl := 1, changed := [2] }
def session : State := let t := target up; { t with eth := { t.eth with conns := [aConn] } }
/-- A panel of eight columns and one row with its engine enabled. -/
def panelSmall (p : Panel) : State :=
  (({ up with pan := { p with hact := 8, vact := 1 } }.wr F.DSP_CTL_EN 1).wr F.DSP_ACTIVE_HACT 8).wr F.DSP_ACTIVE_VACT 1
/-- A uniformity map for it. -/
def unifMap : Bytes := leBytes 4 0x31464E55 ++ leBytes 2 8 ++ leBytes 2 1 ++ leBytes 4 77 ++ leBytes 4 (crc32 [1, 2, 3, 4, 5, 6, 7, 8]) ++ leBytes 48 0 ++ [1, 2, 3, 4, 5, 6, 7, 8]
/-- DRAM started up. -/
def dramOn (s : State) : State := s.wr F.MEM_STAT_READY 1
/-- Namespace 2 of four extents, `k` its kind, policy HOT. -/
def nsOn (k : Nat) (s : State) : State := { s with ter := { s.ter with nss := [(2, { present := true, kind := k, policy := 0, size := 4 })], spares := some 30000 } }
def terDrv (d : Drive) (s : State) : State := { s with ter := { s.ter with drives := [(31, d)] } }
/-- Terrace runs with namespace 2 and memory at the foot of DRAM; `op` runs on ring `q`. -/
def terRun (q op k : Nat) (pl : Bytes) : State := run q (q + 1) op pl (nsOn k (terOn (dramOn up)))
/-- A session of a host that may write namespace 2. -/
def hostNs (k : Nat) : State := ((nsOn k session).wr (F.TER_NSn_CFG_HOSTEN 2) 1).wr (F.TER_NSn_CFG_HOSTRO 2) 0
/-- The PCE block enabled with slot 31 powered and linked. -/
def pceUp (s : State) : State := ((s.wr F.PCE_CTL_EN 1).wr (F.PCE_SLOTs_CTL_PWR 31) 1).wr (F.PCE_SLOTs_STAT_LINK 31) 1
/-- Entry line `b` waits on completion ring `q`. -/
def entryWaits (q : Nat) (b : Bytes) (s : State) : State :=
  let t := (ringsUp (q - 1) q s).wr (F.RNG_QnSTAT_HEAD q) 1
  { t with mem := t.mem.writeBytes 0xF000000400 b }
/-- Power in state `st` at step `n`. -/
def pw (st n : Nat) (s : State) : State := ({ s with pwr := { s.pwr with st := st, step := n, booted := true } }).wr F.SYS_PWRSTATE_STATE st
/-- Bed without Canopy. -/
def bedOnly : State := pw 2 0 { up with canopyOn := false }
/-- Root alone. -/
def armed : State := { State.reset with rootOn := true, pwr := { State.reset.pwr with st := 1 } }
def seqOf (l : List Nat) : SeqIn := ⟨l, (none, false, [], 5), [], true⟩
/-- Root's wake sources enabled. -/
def waking (s : State) : State := s.rootWr F.RTD_WAKECFG_EN 0xFF
/-- The sleep agreement at step `n`, its controller 0 ACTIVE. -/
def agreed (n : Nat) : State := { canActive 0 [] (pw 2 n bedOnly) with now := 10 ^ 12 }
def rstKey (k : Nat) : W32 := BitVec.ofNat 32 (0x52E5 * 2 ^ 16 + k)
def hltd (h : Health → Health) (s : State) : State := { s with hlt := h s.hlt }
def updd (u : Upd → Upd) (s : State) : State := { s with upd := u s.upd }
def evrd (e : Evr → Evr) (s : State) : State := { s with evr := e s.evr }
/-- Both Dales run and are READY. -/
def dalesOn (s : State) : State := ((((s.wr (F.HLT_DALEn_STAT_STATE 0) 1).wr (F.HLT_DALEn_STAT_STATE 1) 1).wr (F.HLT_DALEn_CTL_READY 0) 1).wr (F.HLT_DALEn_CTL_READY 1) 1)
def aHand (fault : Bool) : Handover := { fault := fault, cause := 4, src := 0, since := some 0 }
def aRec (soft : Bool) : Rec := { (up.stamp 0x8001 2 1 2 3 false soft) with time := 5 }
def cfgItem : PkgItem := { kind := 2, unit := 5, order := 9, flags := 0, ver := 3, win := 0, cfgver := 0, data := List.replicate 66 7 }
def cfgPkg : Package := { id := 1, ver := 2, revoke := 0, items := [cfgItem], reqs := [] }
/-- Camera 3's machine-vision slot 1 written, under the active network. -/
def seen : State := (({ up with pra := { up.pra with net := some aNet }, cam := { up.cam with slots := [(slotKey 3 2 1, ⟨5, 8, 1, 0⟩)] } }.wr (F.PRA_SENSn_CTL_EN 3) 1).wr (F.CAM_LNKn_MSIZE_W 3) 64).wr (F.CAM_LNKn_MSIZE_H 3) 64
/-- The bridge without room for an inbound line. -/
def full (s : State) : State := { s with bridge := { s.bridge with inbound := List.replicate 1024 ⟨0xF000000000, [7], false, false, .plain⟩ } }
/-- The tiler enabled, with one mass-flow sample of stream 0 in the log. -/
def sampled : State := (({ up with mem := up.mem.writeBytes 0 (leBytes 8 (2 ^ 63 + 14 * 2 ^ 52 + 2 ^ 48)) }.wr F.PRA_YLDCTL_EN 1).wr F.PRA_YLDSRC_MSTREAM 0).wr F.ING_MIRPOS_POS 1
def aReading : Reading := ⟨⟨0, 34359738368⟩, 0, 0, false, 0⟩
/-- The same with one pose record, 20 m east and north of the origin. -/
def posed : State := (({ sampled with mem := sampled.mem.writeBytes 1024 (leBytes 8 0 ++ leBytes 8 20000 ++ leBytes 8 20000 ++ leBytes 20 0 ++ [1]) }.wr F.PRA_POSECFG_EN 1).wr F.PRA_POSEBASE_BASE 1).wr F.PRA_POSECFG_PLOG2 0
def aGuide : GuideCfg := ⟨1, [], false, 0x1000000, 12, false, false, false, 0xFF, 0xFF, 0, 2000, 5000, 100, 600⟩
/-- Guidance with a configuration in force. -/
def guided : State := gns (fun g => { g with guide := { seq := some 0, cfg := some aGuide } }) (gnsOn up)

/-! ### Ill-formed commands, one for each check, and their well-formed neighbours (WellFormed.lean) -/

theorem test_wf_refuses_1 :
    ([.registerWrite .svc 1 24 1, .registerWrite .svc 281474976710656 32 1, .registerWrite .svc 1 32 4294967296, .readClear .svc 1 24,
     .readClear .svc 281474976710656 32, .snapshot .svc 26 0, .paritySweep [(0x1A000, 0)], .paritySweep [(0, 33)],
     .rootRegisterWrite .svc 4096 0, .gorgeRequest 16 1 ⟨false, false⟩ 1 1 1, .gorgeRequest 1 16 ⟨false, false⟩ 1 1 1, .gorgeRequest 1 1 ⟨false, false⟩ 1 0 1,
     .gorgeRequest 1 1 ⟨false, false⟩ 1 257 1, .gorgeRequest 1 1 ⟨false, false⟩ 1 1 8192, .entryRelease 8192 1, .entryRelease 1 8192,
     .forcedCompletion 8192 1, .forcedCompletion 1 8192, .fabCredWrite .svc 16 0, .bridgeInboundWrite .svc 1 [] false,
     .bridgeInboundWrite .svc 1 (List.replicate 65 0) false, .timerCompareMatch 16 1, .referenceMark 3 1 1 1, .alarmArm .svc 16 0,
     .alarmDisarm .svc 16 0, .alarmFire 16, .ringEnable .svc 112 0, .ringDisable .svc 112,
     .submissionDoorbell .svc 112 0, .completionDoorbell .svc 112 0, .descriptorTake 112, .phaseRecheck 112,
     .atDeadlineStart 112, .mailboxStage .svc 64 0, .mailboxPost .svc 64 0, .mailboxTake .svc 64 0,
     .mailboxAbtClear .svc 64, .analogueSample 48 1 1, .frameFlushTimeout 112, .streamEnable .svc 112 0,
     .streamDisable .svc 112 0, .analogueCfgWrite .svc 48 0, .acousticHit 8 false, .acousticReport 8,
     .freqEdge 32 1, .freqOutputSample 32, .supplyOvercurrent 8, .supplyBackfeed 8,
     .supplyRetry 8, .capture 112, .refcheck 112 1 1 1, .linkEnable .svc 12 0,
     .linkDisable .svc 12 0, .linkTrainTimeout 12, .linkLock 12 1, .linkLockLost 12,
     .frameSyncSend 12, .pocOvercurrent 12, .pocRetry 12, .frameStart 12 1] : List Instr).all (fun i => !i.wf) = true := by decide +kernel

theorem test_wf_refuses_2 :
    ([.lineArrival 12 ⟨0, 0, []⟩ false false false 1, .lineArrival 1 ⟨16, 0, []⟩ false false false 1, .lineArrival 1 ⟨0, 64, []⟩ false false false 1, .lineArrival 1 ⟨0, 0, List.replicate 65536 0⟩ false false false 1,
     .lineArrival 1 ⟨0, 0, [16384]⟩ false false false 1, .lineTimeout 12, .frameStall 12, .frameProcessed 12,
     .pictureEncode 24 1 1, .loadtab 112, .cci 112 false 1, .camExport 112,
     .encRestart .svc 24, .encForceidr .svc 24, .netload 112 false false, .netact 112 false,
     .calload 112, .calread 112, .calfreeze 112, .reinstate 112,
     .exclude 112, .signalSearch 16 1 1 1 1 1 false [], .signalSearch 1 2 1 1 1 1 false [], .channelLock 192 [],
     .channelLockLoss 192, .channelFree 192 false, .antennaFeedFault 2 1, .aidtime 112,
     .aidpos 112, .aidorb 112, .solution 112, .orbread 112,
     .gnssRestart 112, .loopSample 64 1 1, .loopEnable .svc 64 0, .loopDisable .svc 64,
     .loopModeWrite .svc 64 1, .loopModeWrite .svc 1 8, .loadpar 112, .setmode 112,
     .readpar 112, .readstate 112, .parameterMemoryError 64 1 false, .furLd false 8192,
     .furLdn false 8192, .furAnd false 8192, .furAndn false 8192, .furOr false 8192,
     .furOrn false 8192, .furXor false 8192, .furSt false 8192, .furStn false 8192,
     .furSet false 8192, .furRst false 8192, .furOpen 3, .furFp false 2048,
     .furFn false 2048, .furTon 4 1 1, .furTon 1 4096 1, .furTon 1 1 1024] : List Instr).all (fun i => !i.wf) = true := by decide +kernel

theorem test_wf_refuses_3 :
    ([.furTof 4 1 1, .furTof 1 4096 1, .furTof 1 1 1024, .furTp 4 1 1,
     .furTp 1 4096 1, .furTp 1 1 1024, .furTonw 2048 1, .furTonw 1 1024,
     .furTofw 2048 1, .furTofw 1 1024, .furTpw 2048 1, .furTpw 1 1024,
     .furRstt 1024, .furLdt 1024, .furCtu 2048 1, .furCtu 1 512,
     .furCtd 2048 1, .furCtd 1 512, .furRstc 512, .furLdc 512,
     .furLdw false 2048, .furLdi (-524289), .furLdi 524288, .furStw false 2048,
     .furStwc false 2048, .furAddw false 2048, .furSubw false 2048, .furMulw false 2048,
     .furDivw false 2048, .furAddi (-524289), .furAddi 524288, .furMinw false 2048,
     .furMaxw false 2048, .furAndw false 2048, .furOrw false 2048, .furCeq false 2048,
     .furCne false 2048, .furClt false 2048, .furCle false 2048, .furCgt false 2048,
     .furCge false 2048, .furCeqi (-524289), .furCeqi 524288, .furCnei (-524289),
     .furCnei 524288, .furClti (-524289), .furClti 524288, .furClei (-524289),
     .furClei 524288, .furCgti (-524289), .furCgti 524288, .furCgei (-524289),
     .furCgei 524288, .furLdte 1024, .furLdcv 512, .furJmp 16384,
     .furJc 16384, .furJnc 16384, .furRep false 4096 1 1, .furRep false 1 8 1] : List Instr).all (fun i => !i.wf) = true := by decide +kernel

theorem test_wf_refuses_4 :
    ([.furRep false 1 1 0, .furRep false 1 1 256, .setval 112, .readmem 112,
     .valveUntimedCommand .svc 48 0, .peakPhaseEnd 48, .dipWindowClose 48 false 1 1, .bankTrip 12 1,
     .bankFaultClear .svc 12, .dutyLimitEntry 48 1, .dutyLimitExit 48 1, .valveChannelFault 48 1,
     .vlvPulse 112, .vlvSet 112, .vlvCancel 112, .timedValveEvent 12,
     .watchdogRefresh 14 ⟨true, 0, [], [], []⟩, .watchdogRefresh 1 ⟨true, 0, [], (List.replicate 9 0), []⟩, .watchdogRefresh 1 ⟨true, 0, [], [], (List.replicate 3 0)⟩, .watchdogExpiry 14,
     .outputStageResume .svc 14, .lswUntimedCommand .svc 64 0, .shedEvaluation (List.replicate 5 0), .lswChannelFault 64 1,
     .openLoadOff 64 false, .openLoadOn 64 false, .lswPulse 112, .lswSet 112,
     .lswCancel 112, .fsread 112, .canEnable .svc 8 0, .canDisable .svc 8,
     .canModeWrite .svc 8 1, .canModeWrite .svc 1 4, .busRateDetect 8 1 1, .detectTimeout 8,
     .canFrameReceived 8 ⟨0, 1, false, 1, false, []⟩, .canFrameReceived 1 ⟨0, 1, false, 16, false, []⟩, .canFrameReceived 1 ⟨0, 2 ^ 32, false, 1, false, []⟩, .canFrameReceived 1 ⟨0, 1, false, 1, false, (List.replicate 65 0)⟩,
     .acceptanceTableCopy .svc 8 0, .sendCmd 112, .canCancel 112, .canFrameStart 8,
     .canFrameAcknowledged 8, .canFrameLost 8 1, .busOffRecovery 8, .addressClaim 8,
     .claimHoldoffExpiry 8, .claimContest 8 1, .claimBackoffExpiry 8, .claimRequest 8,
     .partnerTimeout 256, .selectiveWake 8 none, .ethFrameForward 7 ⟨1, 1, none, 1, []⟩ 1, .ethFrameForward 1 ⟨2 ^ 48, 1, none, 1, []⟩ 1,
     .ethFrameForward 1 ⟨1, 2 ^ 48, none, 1, []⟩ 1, .ethFrameForward 1 ⟨1, 1, none, 65536, []⟩ 1, .ethLinkChange 7 false none, .grandmasterChange 1 false 16 1 (List.replicate 7 0)] : List Instr).all (fun i => !i.wf) = true := by decide +kernel

theorem test_wf_refuses_5 :
    ([.grandmasterChange 1 false 1 1 (List.replicate 8 0), .rioInputFrame 7 ⟨1, 1, none, 1, []⟩ 1, .rioInputFrame 1 ⟨2 ^ 48, 1, none, 1, []⟩ 1, .rioInputFrame 1 ⟨1, 2 ^ 48, none, 1, []⟩ 1,
     .rioInputFrame 1 ⟨1, 1, none, 65536, []⟩ 1, .udpIntake 7 ⟨1, 1, none, 1, []⟩ 1 false false, .udpIntake 1 ⟨2 ^ 48, 1, none, 1, []⟩ 1 false false, .udpIntake 1 ⟨1, 2 ^ 48, none, 1, []⟩ 1 false false,
     .udpIntake 1 ⟨1, 1, none, 65536, []⟩ 1 false false, .serviceRead ⟨2 ^ 48, 1, none, 1, []⟩, .serviceRead ⟨1, 2 ^ 48, none, 1, []⟩, .serviceRead ⟨1, 1, none, 65536, []⟩,
     .serviceWrite ⟨2 ^ 48, 1, none, 1, []⟩, .serviceWrite ⟨1, 2 ^ 48, none, 1, []⟩, .serviceWrite ⟨1, 1, none, 65536, []⟩, .laneTraining 256,
     .laneLockLoss 8, .dramRead 16 1 [] false, .dramLineWrite 64 (List.replicate 65 0) false, .dramLineWrite 65 (List.replicate 64 0) false,
     .dramPartialWrite 16 64 1 (List.replicate 64 0) false [], .dramPartialWrite 1 64 18446744073709551616 (List.replicate 64 0) false [], .dramPartialWrite 1 64 1 (List.replicate 65 0) false [], .dramPartialWrite 1 65 1 (List.replicate 64 0) false [],
     .deviceMarkSet .svc 8 1, .deviceMarkClear .svc 8, .poisonTrap 16 1 1 1 (1, false), .nandRead 112 [],
     .nandProgram 112 false false, .nandErase 112 false, .driveLinkUp 32 1 1 1 1 false 1 none 0, .driveLinkLost 32 [],
     .driveFailed 32 [], .wake 8, .keepawake 8, .lateWake 8,
     .selfTest 4294967296 false 1 [], .heartbeat .svc 2, .heartbeatTimeout 2, .daleDeclareFail .svc 2,
     .daleReadyWrite .svc 2 0, .comparisonWrite .svc 16 0, .mirrorRegionEnable .svc 16 0 false, .probationExpiry 9,
     .bucketRefill 16, .rootEventRecord 256 1 1 1 1, .rootEventRecord 1 16 1 1 1, .daleCacheError 2 1 false false,
     .daleCacheError 1 16 false false, .engineCheckError 4294967296 false, .antennaFeedRetry 2, .pulseEnd false 64,
     .wakeInputEdge 3 false, .acousticRawSample 8 1, .supplyCurrentSample 8 1, .fdbEntryAgeing 281474976710656 1,
     .fdbEntryAgeing 1 4096, .gateOpen 7, .canReceiveError 8 1 1, .tokenHeldOneHour 8] : List Instr).all (fun i => !i.wf) = true := by decide +kernel

theorem test_wf_admits_1 :
    ([.registerWrite .svc 1 32 1, .readClear .svc 1 32, .snapshot .svc 1 0, .paritySweep [],
     .rootRegisterWrite .svc 1 0, .gorgeRequest 1 1 ⟨false, false⟩ 1 1 1, .entryRelease 1 1, .forcedCompletion 1 1,
     .fabCredWrite .svc 1 0, .bridgeInboundWrite .svc 1 [0] false, .timerCompareMatch 1 1, .referenceMark 1 1 1 1,
     .alarmArm .svc 1 0, .alarmDisarm .svc 1 0, .alarmFire 1, .ringEnable .svc 1 0,
     .ringDisable .svc 1, .submissionDoorbell .svc 1 0, .completionDoorbell .svc 1 0, .descriptorTake 1,
     .phaseRecheck 1, .atDeadlineStart 1, .mailboxStage .svc 1 0, .mailboxPost .svc 1 0,
     .mailboxTake .svc 1 0, .mailboxAbtClear .svc 1, .analogueSample 1 1 1, .frameFlushTimeout 1,
     .streamEnable .svc 1 0, .streamDisable .svc 1 0, .analogueCfgWrite .svc 1 0, .acousticHit 1 false,
     .acousticReport 1, .freqEdge 1 1, .freqOutputSample 1, .supplyOvercurrent 1,
     .supplyBackfeed 1, .supplyRetry 1, .capture 1, .refcheck 1 1 1 1,
     .linkEnable .svc 1 0, .linkDisable .svc 1 0, .linkTrainTimeout 1, .linkLock 1 1,
     .linkLockLost 1, .frameSyncSend 1, .pocOvercurrent 1, .pocRetry 1,
     .frameStart 1 1, .lineArrival 1 ⟨0, 0, []⟩ false false false 1, .lineTimeout 1, .frameStall 1,
     .frameProcessed 1, .pictureEncode 1 1 1, .loadtab 1, .cci 1 false 1,
     .camExport 1, .encRestart .svc 1, .encForceidr .svc 1, .netload 1 false false,
     .netact 1 false, .calload 1, .calread 1, .calfreeze 1,
     .reinstate 1, .exclude 1, .signalSearch 1 1 1 1 1 1 false [], .channelLock 1 [],
     .channelLockLoss 1, .channelFree 1 false, .antennaFeedFault 1 1, .aidtime 1,
     .aidpos 1, .aidorb 1, .solution 1, .orbread 1,
     .gnssRestart 1, .loopSample 1 1 1, .loopEnable .svc 1 0, .loopDisable .svc 1] : List Instr).all (fun i => i.wf) = true := by decide +kernel

theorem test_wf_admits_2 :
    ([.loopModeWrite .svc 1 1, .loadpar 1, .setmode 1, .readpar 1,
     .readstate 1, .parameterMemoryError 1 1 false, .furLd false 1, .furLdn false 1,
     .furAnd false 1, .furAndn false 1, .furOr false 1, .furOrn false 1,
     .furXor false 1, .furSt false 1, .furStn false 1, .furSet false 1,
     .furRst false 1, .furOpen 1, .furFp false 1, .furFn false 1,
     .furTon 1 1 1, .furTof 1 1 1, .furTp 1 1 1, .furTonw 1 1,
     .furTofw 1 1, .furTpw 1 1, .furRstt 1, .furLdt 1,
     .furCtu 1 1, .furCtd 1 1, .furRstc 1, .furLdc 1,
     .furLdw false 1, .furLdi 1, .furStw false 1, .furStwc false 1,
     .furAddw false 1, .furSubw false 1, .furMulw false 1, .furDivw false 1,
     .furAddi 1, .furMinw false 1, .furMaxw false 1, .furAndw false 1,
     .furOrw false 1, .furCeq false 1, .furCne false 1, .furClt false 1,
     .furCle false 1, .furCgt false 1, .furCge false 1, .furCeqi 1,
     .furCnei 1, .furClti 1, .furClei 1, .furCgti 1,
     .furCgei 1, .furLdte 1, .furLdcv 1, .furJmp 1,
     .furJc 1, .furJnc 1, .furRep false 1 1 1, .setval 1,
     .readmem 1, .valveUntimedCommand .svc 1 0, .peakPhaseEnd 1, .dipWindowClose 1 false 1 1,
     .bankTrip 1 1, .bankFaultClear .svc 1, .dutyLimitEntry 1 1, .dutyLimitExit 1 1,
     .valveChannelFault 1 1, .vlvPulse 1, .vlvSet 1, .vlvCancel 1,
     .timedValveEvent 1, .watchdogRefresh 1 ⟨true, 0, [], [], []⟩, .watchdogExpiry 1, .outputStageResume .svc 1] : List Instr).all (fun i => i.wf) = true := by decide +kernel

theorem test_wf_admits_3 :
    ([.lswUntimedCommand .svc 1 0, .shedEvaluation (List.replicate 4 0), .lswChannelFault 1 1, .openLoadOff 1 false,
     .openLoadOn 1 false, .lswPulse 1, .lswSet 1, .lswCancel 1,
     .fsread 1, .canEnable .svc 1 0, .canDisable .svc 1, .canModeWrite .svc 1 1,
     .busRateDetect 1 1 1, .detectTimeout 1, .canFrameReceived 1 ⟨0, 1, false, 1, false, []⟩, .acceptanceTableCopy .svc 1 0,
     .sendCmd 1, .canCancel 1, .canFrameStart 1, .canFrameAcknowledged 1,
     .canFrameLost 1 1, .busOffRecovery 1, .addressClaim 1, .claimHoldoffExpiry 1,
     .claimContest 1 1, .claimBackoffExpiry 1, .claimRequest 1, .partnerTimeout 1,
     .selectiveWake 1 none, .ethFrameForward 1 ⟨1, 1, none, 1, []⟩ 1, .ethLinkChange 1 false none, .grandmasterChange 1 false 1 1 (List.replicate 7 0),
     .rioInputFrame 1 ⟨1, 1, none, 1, []⟩ 1, .udpIntake 1 ⟨1, 1, none, 1, []⟩ 1 false false, .serviceRead ⟨1, 1, none, 1, []⟩, .serviceWrite ⟨1, 1, none, 1, []⟩,
     .laneTraining 1, .laneLockLoss 1, .dramRead 1 1 [] false, .dramLineWrite 64 (List.replicate 64 0) false,
     .dramPartialWrite 1 64 1 (List.replicate 64 0) false [], .deviceMarkSet .svc 1 1, .deviceMarkClear .svc 1, .poisonTrap 1 1 1 1 (1, true),
     .nandRead 1 [], .nandProgram 1 false false, .nandErase 1 false, .driveLinkUp 1 1 1 1 1 false 1 none 0,
     .driveLinkLost 1 [], .driveFailed 1 [], .wake 1, .keepawake 1,
     .lateWake 1, .selfTest 1 false 1 [], .heartbeat .svc 1, .heartbeatTimeout 1,
     .daleDeclareFail .svc 1, .daleReadyWrite .svc 1 0, .comparisonWrite .svc 1 0, .mirrorRegionEnable .svc 1 0 false,
     .probationExpiry 1, .bucketRefill 1, .rootEventRecord 1 1 1 1 1, .daleCacheError 1 1 false false,
     .engineCheckError 1 false, .antennaFeedRetry 1, .pulseEnd false 1, .wakeInputEdge 1 false,
     .acousticRawSample 1 1, .supplyCurrentSample 1 1, .fdbEntryAgeing 1 1, .gateOpen 1,
     .canReceiveError 1 1 1, .tokenHeldOneHour 1] : List Instr).all (fun i => i.wf) = true := by decide +kernel

/-! ### Words written out from the spec's encodings (R289, R290, R546) -/

/-- Each word is put together by hand from R289's fields: the operation in bits 31:24 and the operand below it. -/
theorem test_furrow_words :
    ([(0x00000000, some .furNop), (0x01000005, some (.furLd false 5)), (0x02801FFF, some (.furLdn true 0x1FFF)), (0x0D000001, some (.furLda true)),
      (0x10000002, some (.furOpen 2)), (0x140007FF, some (.furFp false 0x7FF)), (0x18FFFFFF, some (.furTon 3 0xFFF 0x3FF)),
      (0x1B1FFC03, some (.furTonw 0x7FF 3)), (0x1E0003FF, some (.furRstt 0x3FF)), (0x200003FF, some (.furCtu 1 0x1FF)),
      (0x23000007, some (.furLdc 7)), (0x310FFFFF, some (.furLdi (-1))), (0x340007FF, some (.furAddw false 0x7FF)),
      (0x4D080000, some (.furCgei (-524288))), (0x60003FFF, some (.furJmp 0x3FFF)), (0x687FFFFF, some (.furRep false 0xFFF 7 0xFF)),
      (0x6F000000, some .furEnd)] : List (Nat × Option Instr)).all (fun p => decide (furDecode p.1 = p.2)) = true := by decide +kernel

/-- Reserved operand bits, operation codes without an instruction and a repeat count of 0 decode to nothing. -/
theorem test_furrow_words_refused : ([0x01002000, 0x0E000000, 0x68000800, 0x00000001] : List Nat).all (fun w => decide (furDecode w = none)) = true := by
  decide +kernel

/-- The record of step 4 of chapter 22's bus-off flood reads as the eight words the chapter gives. -/
theorem test_record_words :
    let r : Rec := ⟨0x0D02, 0xA, false, false, 0x981A3C, 0x1F47, 6250000, 3, 0, 0xFFFF81, 3, false, 0⟩
    (List.range 8).map (fun i => r.word / 2 ^ (32 * i) % 2 ^ 32) =
      [0x3C0A0D02, 0x4700981A, 0x1000001F, 0x00035F5E, 0x00000000, 0x81000000, 0x3000FFFF, 0xA5000000] := by decide +kernel

/-! ### Formulas with the values worked out by hand -/

/-- R356 across a wrap of the stamp: 7 µs before 2^32 + 5 µs. -/
theorem test_can_stamp_wraps : canSof ((2 ^ 32 + 5) * 1000 + 999) 0xFFFFFFFE = (2 ^ 32 - 2) * 1000 := by decide +kernel

/-- The check value of the CRC of IEEE 802.3 over the digits 1 to 9. -/
theorem test_crc32 : crc32 [0x31, 0x32, 0x33, 0x34, 0x35, 0x36, 0x37, 0x38, 0x39] = 0xCBF43926 := by decide +kernel

/-- SHA-384 of "abc", the example of FIPS 180-4. -/
theorem test_sha384 : (sha384 [0x61, 0x62, 0x63]).take 16 =
    [0xCB, 0x00, 0x75, 0x3F, 0x45, 0xA3, 0x5E, 0x8B, 0xB5, 0xA0, 0x3D, 0x69, 0x9A, 0xC6, 0x50, 0x07] := by decide +kernel

/-- R42: the lowest Bed pace 0x35F lies below 0x360, so the Bed rail rises by 5 mV from 750 mV. -/
theorem test_rail_rises : outc (execRailRegulation (paced.wr F.HLT_VCORE_BED 750)) (fun t => decide (t.rd F.HLT_VCORE_BED = 755)) = true := by
  decide +kernel

/-- R65: an address decodes to its block and offset; below the register space nothing answers. -/
theorem test_reg_target : regTarget .svc 0xFE00030004 32 = some (3, 4) ∧ regTarget .svc 0xFE00030004 64 = none ∧
    regTarget .daleA 0xFE00030008 64 = some (3, 8) ∧ regTarget .daleA 0x1000 32 = none := by decide +kernel

/-! ### States that meet the hypotheses of the general statements -/

theorem test_hyps_StepRunsTheFrontCommand :
    (∃ (s : State) (c : Instr) (rest : List Instr), s.pending = c :: rest) ∧ (∃ s : State, s.pending = []) ∧
      (∃ s : State, s.pending = [] ∧ s.rootOn = false) ∧ (∃ s : State, s.pending = [] ∧ s.rootOn = true ∧ s.bedOn = true) :=
  ⟨⟨{ up with pending := [.rootEdge, .sundialSave] }, _, _, rfl⟩, ⟨up, rfl⟩, ⟨{ up with rootOn := false }, rfl, rfl⟩, ⟨up, rfl, rfl, rfl⟩⟩

theorem test_hyps_ResetState :
    ∃ d : RegDesc, (0x000 : Nat) < 0x1000 ∧ findReg 4 0x000 = some d ∧ specialReset State.reset.code State.reset.hwrev (4 * 0x1000 + 0x000) = none ∧
      (arrayIdx (4 * 0x1000 + 0x000) (Reg.LSW_CHn_CTL 0) 0x10 64).isSome = false := ⟨descAt 4 0x000, by decide +kernel⟩

theorem test_hyps_FurrowWordsRoundTrip :
    (∃ (i : Instr) (w : Nat), furEncode i = some w) ∧ (∃ (i : Instr) (w : Nat), furDecode w = some i) :=
  ⟨⟨.furRep true 0x7FF 7 255, 0x68BFFFFF, by decide +kernel⟩, ⟨.furRep true 0x7FF 7 255, 0x68BFFFFF, by decide +kernel⟩⟩

theorem test_hyps_PowerStateStaysSound : ∃ s t : State, s.powerSound ∧ step s = .next t :=
  ⟨State.reset, State.reset.tick, by unfold State.powerSound State.nested State.onTick; decide +kernel, rfl⟩

theorem test_hyps_CanonicalFormsKept : ∃ s t : State, s.memWf ∧ s.regsWf ∧ step s = .next t :=
  ⟨up, up.tick, by unfold State.memWf; decide +kernel, by unfold State.regsWf; decide +kernel, rfl⟩

theorem test_hyps_HolesReadZeroAndDropWrites :
    (∃ (s : State) (a : Agent) (addr blk off : Nat), regTarget a addr 32 = some (blk, off) ∧ findReg blk off = none ∧ s.blockOn blk = true ∧
      (bedAgent a = true → bedBlock blk = true) ∧ s.admits a blk off = true ∧ SMap.get (fun _ => 0) s.hlt.lostRegs blk < 5) ∧
    (∃ (s : State) (a : Agent) (addr blk off : Nat), regTarget a addr 32 = some (blk, off) ∧ findReg blk off = none ∧ s.blockOn blk = true ∧
      s.admits a blk off = false ∧ blk ≠ 0x07) :=
  ⟨⟨up, .daleA, 0xFE00040080, 4, 0x80, by decide +kernel⟩, ⟨up, .gnss, 0xFE0001007C, 1, 0x7C, by decide +kernel⟩⟩

theorem test_hyps_PostedWritesMerge :
    (∃ (s : State) (a : Agent) (off : Nat) (v : W32) (l : Latch), s.accepts a 0x02 (decodeOff 2 off) = true ∧
      rootKeys.contains (0x2000 + decodeOff 2 off) = true ∧ listedAt (0x2000 + decodeOff 2 off) v = true ∧
      (0x2000 + decodeOff 2 off = Reg.RTD_CELLCFG → getBits v 15 0 < getBits v 31 16) ∧
      s.latches.find? (fun x => decide (x.off = decodeOff 2 off)) = some l) ∧
    ([(0x044, Acc.rwp), (0x014, .rw), (0x030, .w1c), (0x000, .w1s)] : List (Nat × Acc)).all (fun p =>
      match findReg 2 p.1 with
      | some d => d.fields.any (fun f => decide (f.acc = p.2))
      | none => false) = true ∧
    (∃ (l : Latch) (k : Nat), k ≠ 0x2000 + l.off) ∧ (∃ s t : State, s.rootOn = true ∧ exec .rootEdge s = .next t) :=
  ⟨⟨oneLatch, .daleA, 0x030, 0x55, ⟨0x030, 0x99, 0x99, 100⟩, by decide +kernel⟩,
    by decide +kernel,
    ⟨⟨0x030, 0x99, 0x99, 100⟩, 0, by decide⟩, ⟨oneLatch, _, rfl, rfl⟩⟩

theorem test_hyps_ModuleFrame :
    (∃ c : Instr, c.movesRoot = false) ∧ (∃ c : Instr, c.movesPower = false) := ⟨⟨.rootEdge, rfl⟩, ⟨.rootEdge, rfl⟩⟩

/-- Every frame's first hypothesis: a command completes, whatever its state and operands. -/
theorem test_hyps_Frames (c : Instr) (s : State) : ∃ t, exec c s = .next t := exec_next c s

/-- The further hypotheses of the frames' memory clauses. -/
theorem test_hyps_FrameClauses :
    oneLine.bridge.inbound.head?.isSome = true ∧
    ([(100, 0x11), (88, 5), (16, 3), (18, 4), (40, 0x11), (70, 0x10), (72, 3), (72, 8), (64, 4)] : List (Nat × Nat)).all (fun p =>
      ((run p.1 (p.1 + 1) p.2 [] up).running p.1 p.2).isSome) = true ∧
    (nextWaiting (run 24 25 2 [] up).fur.reads ((run 24 25 2 [] up).ring 24).taken 24 2).isSome = true ∧ up.hlt.mirrors = [] ∧
    up.badParity = [] := by decide +kernel

/-- The hypotheses of the register-write and read frames: an address in each block, and addresses and widths that nothing accepts. -/
theorem test_hyps_RegisterWriteFrames :
    ([0x01, 0x02, 0x03, 0x04, 0x05, 0x06, 0x07, 0x08, 0x09, 0x0A, 0x0B, 0x0C, 0x0D, 0x0E, 0x10, 0x11, 0x12, 0x13, 0x14, 0x15, 0x16, 0x17, 0x18, 0x19] : List Nat).all (fun b => decide (regTarget .svc (0xFE00000000 + 0x10000 * b) 32 = some (b, 0))) = true ∧
      regTarget .svc 0x1000 32 = none ∧ regTarget .svc 0xFE00030002 32 = none ∧ regTarget .svc 0xFE000F0000 32 = none := by decide +kernel

/-! ### One step each: the first clause of each group of statements, on a small state (the rules are those the statement cites) -/

theorem test_step_registerWrite :
    let s : State := up
    let a : Agent := .daleA
    let addr : Nat := 0xFE0000001C
    let v : W32 := 0x3
    let off : Nat := 0x1C
    let d : RegDesc := descAt 0 0x1C
    outc (execRegisterWrite a addr 32 v.toNat s) (fun t => decide (t = if d.listed v = true then { (s.setReg off (d.written (s.reg off) v)).done with badParity := s.badParity.filter (fun k => k ≠ off) } else s.done)) = true := by decide +kernel

theorem test_step_gorgeRequest :
    let s : State := up
    let req : Nat := 15
    let cls : Nat := 7
    let kind : Xfer := ⟨true, true⟩
    let addr : Nat := 0
    let len : Nat := 256
    let tag : Nat := 8191
    outc (execGorgeRequest req cls kind addr len tag s) (fun t => decide (if (cls ≠ 1 ∧ cls ≠ 2 ∨ s.on F.MEM_STAT_READY = true) ∧ s.atLimit req = false ∧ (s.belowReserve req = true ∨ (s.mayShare req = true ∧ s.olderWaits = false)) then
      t.fab.entries = s.fab.entries ++ [⟨s.fab.tagFor tag, req, cls, kind.write, addr, len, s.now, kind.poison⟩] ∧ t.fab.waits = s.fab.waits
      else t.fab.entries = s.fab.entries ∧ t.fab.waits = s.fab.waits ++ [⟨req, cls, kind.write, addr, len, s.now, kind.poison⟩])) = true := by decide +kernel

theorem test_step_paceGaugeMeasure :
    let s : State := up
    let readings : List Nat := [0x400, 0x3F0, 0x10, 0x20000]
    let n : Nat := 3
    outc (execPaceGaugeMeasure readings s) (fun t => decide (t.rd (F.HLT_PACEn_VALID n) = 1 ∧ t.rd (F.HLT_PACEn_PACE n) = min (readings.getD n 0) 0xFFFF)) = true := by decide +kernel

theorem test_step_sundialSave :
    let s : State := later 8 up
    outc (execSundialSave s) (fun t => decide (t.wideGet Reg.RTD_SDLSAVE_LO = s.now ∧ t.mem = s.mem ∧ t.regs = s.regs)) = true := by decide +kernel

theorem test_step_ringEnable :
    let s : State := up.wr (F.RNG_QnBASE_BASE 111) 0x3C000000
    let a : Agent := .daleA
    let q : Nat := 111
    let v : W32 := 0x40400000
    outc (execRingEnable a q v s) (fun t => decide (t.resp = .done ∧ t.on (F.RNG_QnCFG_EN q) = true ∧ t.rd (F.RNG_QnCFG_LOG2N q) = getBits v 24 20 ∧ t.ringHead q = 0 ∧ t.rd (F.RNG_QnSTAT_PHASE q) = 1 ∧
      t.rd (F.RNG_QnSTAT_STATE q) = 1 ∧ (t.ring q).idx = 0 ∧ t.mem = s.mem ∧ t.irqs = s.irqs)) = true := by decide +kernel

theorem test_step_mailboxStage :
    let s : State := up
    let a : Agent := .pcie
    let m : Nat := 63
    let v : W32 := 0xFFFFFFFF
    let id : Nat := 7
    outc (execMailboxStage a m v s) (fun t => decide (t.resp = .done ∧ SMap.get (fun _ => 0) t.mbxStage id = v ∧ t.regs = s.regs ∧ t.mem = s.mem)) = true := by decide +kernel

theorem test_step_analogueSample :
    let s : State := later 1000000 ((streamOn 47 up).wr (F.ING_ACHn_CFG_EN 47) 1)
    let n : Nat := 47
    let instant : Nat := 62500
    let code : Int := 20000000
    outc (execAnalogueSample n instant code s) (fun t => decide ((t.stream n).buf = (s.stream n).buf ++ [⟨(instant + 7) / 8 * 8, s.now, (filterStep (s.rd (F.ING_ACHn_CFG_FILT n)) (s.rd (F.ING_ACHn_CFG_FPAR n)) (s.chan n) (convert (s.rd (F.ING_ACHn_CFG_RANGE n)) code).1).1,
      (convert (s.rd (F.ING_ACHn_CFG_RANGE n)) code).2, decide (instant < (s.chan n).settleEnd), s.chanDeg n, (s.stream n).gap⟩] ∧
      (t.chan n).last = some instant ∧ t.regs = s.regs ∧ t.mem = s.mem)) = true := by decide +kernel

theorem test_step_supplyOvercurrent :
    let s : State := up.wr (F.ING_SUPn_STAT_ON 7) 1
    let n : Nat := 7
    outc (execSupplyOvercurrent n s) (fun t => decide (t.on (F.ING_SUPn_STAT_ON n) = false ∧ t.rd (F.ING_SUPn_STAT_FAULT n) = 1 ∧ t.rd F.ING_STAT_SUPFLT = 1)) = true := by decide +kernel

theorem test_step_linkEnable :
    let s : State := (linkIn 0 up).wr (F.CAM_LNKn_CTL_EN 3) 0
    let a : Agent := .daleA
    let n : Nat := 3
    let v : W32 := 0x00000000
    outc (execLinkEnable a n v s) (fun t => decide (t.resp = .done ∧ t.on (F.CAM_LNKn_CTL_EN n) = true ∧ t.linkState n = 1 ∧ t.mapOn Reg.CAM_LINKUP n = false ∧ (t.link n).frame = none ∧ (t.link n).trainStart = s.now ∧ t.mem = s.mem)) = true := by decide +kernel

theorem test_step_frameProcessed :
    let s : State := (linkIn 3 up).setLink 3 { closed := [aFrame] }
    let n : Nat := 3
    let f : CamFrame := aFrame
    let r : List CamFrame := []
    outc (execFrameProcessed n s) (fun t => decide ((t.link n).closed = r ∧ (t.link n).prevSeq = some f.fseq ∧ t.linkState n = s.linkState n)) = true := by decide +kernel

theorem test_step_gridCycleStart :
    let s : State := gridOn up
    let sync : Nat := 0
    let lidars : List (Nat × Nat) := [(0, 100)]
    let net : Net := aNet
    outc (execGridCycleStart sync lidars s) (fun t => decide (t.pra.cycle.map (fun c => (c.tg, c.net, c.nskip)) = some (s.now, net, s.pra.skipped) ∧ t.pra.skipped = 0 ∧ t.pra.net = some net ∧ t.pra.next = none)) = true := by decide +kernel

theorem test_step_signalSearch :
    let s : State := gnsOn up
    let u : Nat := 15
    let ant : Nat := 0
    let sys : Nat := 0
    let sv : Nat := 5
    let sig : Nat := 0
    let k : Int := 0
    let found : Bool := true
    let sky : List Sat := [⟨0, 5, 40⟩]
    outc (execSignalSearch u ant sys sv sig k found sky s) (fun t => decide (SMap.get (fun _ => none) t.gns.search u = some (⟨ant, sys, sv, sig⟩, k, s.now + s.searchTime (s.searchNc sys sv sig) (dopBins (s.searchWd sys sv sig k))) ∧
      t.rd (F.GNS_ACQu_SIG_STATE u) = 1 ∧ t.rd (F.GNS_ACQu_WCODE_NC u) = min (s.searchNc sys sv sig) (2 ^ (F.GNS_ACQu_WCODE_NC 0).width - 1) ∧ t.mem = s.mem)) = true := by decide +kernel

theorem test_step_aidtime :
    let s : State := run 88 89 1 [1] up
    let d : Desc := desc 1 89 [1]
    outc (execAidtime 88 s) (fun t => decide (if (s.gns.timeAid.map (fun a => decide (a.2.2 < d.le 40 4))).getD false = true then t.gns.timeAid = s.gns.timeAid ∧ t.gns.timeWide = some (d.le 24 8, d.le 32 8, d.le 40 4)
      else t.gns.timeAid = some (d.le 24 8, d.le 32 8, d.le 40 4) ∧ t.gns.timeWide = s.gns.timeWide)) = true := by decide +kernel

theorem test_step_loopSample :
    let s : State := loop5 (later 1000000 up)
    let n : Nat := 5
    let ts : Nat := 1000000
    let tout : Nat := 1000400
    outc (execLoopSample n ts tout s) (fun t => decide ((t.loop n).last = some ts ∧
      (if ts < (s.loop n).busy then (t.loop n).skipped = true ∧ t.rd F.TRL_STAT_SKIP = 1 ∧ t.wideGet Reg.TRL_SKIPCNT_LO = satAdd 64 (s.wideGet Reg.TRL_SKIPCNT_LO) 1
      else (t.loop n).busy = tout ∧ (t.loop n).count = (s.loop n).count + 1 ∧ t.wideGet Reg.TRL_SAMPCNT_LO = satAdd 64 (s.wideGet Reg.TRL_SAMPCNT_LO) 1))) = true := by decide +kernel

theorem test_step_cycleBoundary :
    let s : State := ((furAt 0 aScan (later 1000000 up)).setFur { (furAt 0 aScan up).fur with scan := none, first := true }).wr F.FUR_RUN_CYCLE 500 |>.wr F.FUR_RUN_EN 1
    outc (execCycleBoundary s) (fun t => decide (t.fur.boundary = some s.now ∧ t.fur.first = false ∧ t.rd F.FUR_SCANSEQ_SEQ = (s.rd F.FUR_SCANSEQ_SEQ + 1) % 2 ^ 32 ∧
      t.fur.scan.map (fun c => (c.pc, c.a, c.x, c.stack)) = some (0, false, 0, []) ∧ t.fur.scan.map (fun c => (c.seq, c.tlatch, c.first)) = some ((s.rd F.FUR_SCANSEQ_SEQ + 1) % 2 ^ 32, s.now, s.fur.first) ∧ t.fur.scan.map (fun c => (c.overrun, c.ended)) = some (false, none))) = true := by decide +kernel

theorem test_step_furNop :
    let s : State := furAt ((furEncode .furNop).get!) ({ aScan with a := true, w := 7 }) (up)
    let sc : Scan := { aScan with a := true, w := 7 }
    outc (execFurNop s) (fun t => decide (t = s.scanNext { sc with pc := sc.pc + 1 })) = true := by decide +kernel

theorem test_step_furLdw :
    let s : State := furAt ((furEncode (.furLdw (false) (2047))).get!) ({ aScan with w := 34359738367 }) (fword 2047 (-3) up)
    let sc : Scan := { aScan with w := 34359738367 }
    let x : Bool := false
    let i : Nat := 2047
    outc (execFurLdw x i s) (fun t => decide (t = s.scanNext { sc with pc := sc.pc + 1, w := sat36 (s.furWord (sc.at x i)), sat := sc.sat || decide (sat36 (s.furWord (sc.at x i)) ≠ s.furWord (sc.at x i)) })) = true := by decide +kernel

theorem test_step_furTon :
    let s : State := furAt ((furEncode (.furTon (3) (2) (1023))).get!) ({ aScan with a := true, tlatch := 900000008 }) (ftimer 1023 ⟨5, false, true, true, some 8⟩ up)
    let sc : Scan := { aScan with a := true, tlatch := 900000008 }
    let base : Nat := 3
    let count : Nat := 2
    let n : Nat := 1023
    outc (execFurTon base count n s) (fun t => decide (t = (s.setTimer n (t.furTimer n)).scanNext { sc with pc := sc.pc + 1, a := (t.furTimer n).q } ∧ (t.furTimer n).last = some sc.tlatch ∧ (t.furTimer n).inp = sc.a ∧
      (t.furTimer n).et = (if sc.a = true ∧ (s.furTimer n).inp = true then min ((s.furTimer n).et + ((sc.tlatch - (s.furTimer n).last.getD s.fur.timer0) / 1000)) (count * 10 ^ base * 1000) else 0) ∧ (t.furTimer n).q = (sc.a && decide (count * 10 ^ base * 1000 ≤ (t.furTimer n).et)) ∧ (t.furTimer n).run = (s.furTimer n).run)) = true := by decide +kernel

theorem test_step_valveUntimedCommand :
    let s : State := valveOn 47 up
    let a : Agent := .daleA
    let n : Nat := 47
    let v : W32 := 0x80000000
    outc (execValveUntimedCommand a n v s) (fun t => decide (t.resp = .done ∧ (s.untimedOk n = true → t.vOn n 15 = true ∧ t.vOn n 0 = true ∧ t.vOn n 1 = true ∧ (t.valve n).lvl = s.rd (F.VLV_CHn_PEAK_IPEAK n) ∧ (t.valve n).ton = s.now ∧
      (t.valve n).peakEnd = s.now + s.rd (F.VLV_CHn_PEAK_TPEAK n) * 10000 ∧ t.rd (F.VLV_CHn_CMD_MA n) = getBits v 11 0) ∧
      (s.untimedOk n = false → t.vOn n 15 = s.vOn n 15 ∧ t.vOn n 0 = false ∧ t.rd F.VLV_BADCFG_CAUSE = 4 ∧ t.rd F.VLV_BADCFG_CH = n ∧ t.reg (Reg.VLV_CHn_CMD n) = s.reg (Reg.VLV_CHn_CMD n)))) = true := by decide +kernel

theorem test_step_vlvPulse :
    let s : State := pulseRun 32 1 [3, 0, 0, 0, 0, 0, 0, 0, 100]
    let q : Nat := 32
    let d : Desc := pulseDesc 32 1 [3, 0, 0, 0, 0, 0, 0, 0, 100]
    let e : ValveEvent := ⟨3, 50000, some 150000, true, 0, 0x1234, false⟩
    outc (execVlvPulse q s) (fun t => decide (if s.rd (F.VLV_CHn_CTL_SRC e.ch) ≠ 2 then t = s.complete q d { status := 0x40 }
      else if s.channelBusy e = true then t = s.complete q d { status := 0x45, estat := e.ch }
      else if e.on = true ∧ s.prop e.ch = false ∧ s.peakConflict e.ch e.t ≠ none then t = (s.inc F.VLV_CONFCNT_REFUSE).complete q d { status := 0x41, estat := (s.peakConflict e.ch e.t).getD 0 }
      else if e.on = true ∧ s.timedOk e = false then t.vlv.evs = s.vlv.evs ∧ t.rd F.VLV_CONFCNT_REFUSE = satAdd F.VLV_CONFCNT_REFUSE.width (s.rd F.VLV_CONFCNT_REFUSE) 1
      else if 16 ≤ s.bankLoad (e.ch / 4) then t = s.complete q d { status := 0x44 }
      else t = ({ s with vlv := { s.vlv with evs := s.vlv.evs ++ [e] } }).complete q d {})) = true := by decide +kernel

theorem test_step_lswUntimedCommand :
    let s : State := lswReady 63 up
    let a : Agent := .daleA
    let n : Nat := 63
    let v : W32 := 0x80000000
    outc (execLswUntimedCommand a n v s) (fun t => decide (t.resp = .done ∧ t.lOn n 1 = true ∧ (s.budFits n = true → t.lOn n 0 = true ∧ t.lOn n 3 = false ∧ t.lOn n 8 = false ∧ (t.sw n).ton = s.now) ∧
      (s.budFits n = false → t.lOn n 0 = false ∧ t.lOn n 3 = true))) = true := by decide +kernel

theorem test_step_watchdogRefresh :
    let s : State := later 5000000 ((up.wr (icLink 13) 1).setOutIc 13 { fsafe := false, last := 0, period := 20 })
    let ic : Nat := 13
    let r : Readback := ⟨true, 0, [], [], []⟩
    outc (execWatchdogRefresh ic r s) (fun t => decide ((t.outIc ic).last = s.now ∧ (t.outIc ic).period = s.icPeriod ic ∧ (t.outIc ic).fsafe = (s.outIc ic).fsafe ∧ t.rd (icSince ic) = 0)) = true := by decide +kernel

theorem test_step_canFrameStart :
    let s : State := canActive 7 [aTx 5, aTx 3] (later 9000 up)
    let c : Nat := 7
    let f : TxFrame := aTx 3
    outc (execCanFrameStart c s) (fun t => decide ((t.ctl c).pend.length = (s.ctl c).pend.length ∧ t.onBus c = some { f with begun := true, starts := f.starts + 1, stamp := s.now / 1000 % 2 ^ 32, id := s.sentId c f } ∧ t.canState c = 2)) = true := by decide +kernel

theorem test_step_canEnable :
    let s : State := up.setCtl 7 { pend := [{ aTx 3 with begun := true }] }
    let a : Agent := .daleA
    let c : Nat := 7
    let v : W32 := 0
    outc (execCanEnable a c v s) (fun t => decide (t.resp = .done ∧ if 2 ≤ c ∧ getBits v 23 23 = 1 then t.can = s.can ∧ t.rd F.CAN_BADCFG_CAUSE = 5 ∧ t.rd F.CAN_STAT_CFGREJ = 1
      else t.on (F.CAN_CHc_CTL_EN c) = true ∧ t.canState c = (if getBits v 30 29 = 0 then 2 else if getBits v 30 29 = 1 then 3 else 1) ∧ (t.ctl c).pend = (s.ctl c).pend ∧ (t.ctl c).tec = 0 ∧ t.rd (F.CAN_CHc_CLAIM_CUR c) = 0xFE ∧ t.claimState c = 0)) = true := by decide +kernel

theorem test_step_ethFrameForward :
    let s : State := { links up with eth := { up.eth with fdb := [⟨0x0200000000AA, 1, 4, true, 0⟩] } }
    let port : Nat := 1
    let tarr : Nat := 8
    let p : Nat := 2
    let f : EthFrame := ethIn
    outc (execEthFrameForward port f tarr s) (fun t => decide (t.rd (F.ETH_Pp_RXFR_CNT port) = min (s.rd (F.ETH_Pp_RXFR_CNT port) + 1) (maxOf (F.ETH_Pp_RXFR_CNT port).width) ∧ t.rd (F.ETH_Pp_TXFR_CNT p) = min (s.rd (F.ETH_Pp_TXFR_CNT p) + 1) (maxOf (F.ETH_Pp_TXFR_CNT p).width) ∧ t.eth.out = s.eth.out ∧
      (groupMac f.src = false → s.fdbFind f.src (s.vlanOf port f) = none → s.eth.fdb.length < 4096 → t.fdbFind f.src (s.vlanOf port f) = some ⟨f.src, s.vlanOf port f, 2 ^ port, false, s.now⟩))) = true := by decide +kernel

theorem test_step_panelFrameStart :
    let s : State := panelSmall { up.pan with built := true }
    let late : List Nat := []
    let torn : Bool := false
    outc (execPanelFrameStart late torn s) (fun t => decide (t.pan.lastFrame = some s.now ∧ t.pan.pol = s.polNext ∧ (s.engineUp 4 = true → s.on F.DSP_CTL_EN = true → s.pan.again = false → t.pan.comp.isSome = true ∧
      (s.pan.built = true → t.pan.front = some s.backBuffer ∧ t.pan.built = false ∧ t.rd F.DSP_FSEQ_SEQ = (s.rd F.DSP_FSEQ_SEQ + 1) % 2 ^ 32)))) = true := by decide +kernel

theorem test_step_dramRead :
    let s : State := dramOn up
    let req : Nat := 1
    let a : Nat := 64
    let wrong : List (Nat × Nat) := [(3, 5)]
    outc (execDramRead req a wrong false s) (fun t => decide (if addErrs (s.lineErrs a) wrong = [] then t.mem = s.mem ∧ t.regs = s.regs ∧ t.lineErrs a = []
      else if correctable (s.marking (dramSub s.code a)) (addErrs (s.lineErrs a) wrong) = true then t.mem = s.mem ∧ t.lineErrs a = addErrs (s.lineErrs a) wrong ∧ t.rd F.MEM_STAT_CE = 1
      else t.mem.poisoned a 64 = true ∧ t.rd F.MEM_STAT_UE = 1 ∧ t.rd F.MEM_UECNT_CNT = min (s.rd F.MEM_UECNT_CNT + 1) (maxOf F.MEM_UECNT_CNT.width))) = true := by decide +kernel

theorem test_step_hotExtentMove :
    let s : State := let t := terDrv { st := 2, cap := 9 } (terRun 76 0 0 []); let u := t.setNs 2 { t.ns 2 with policy := 2 }; { u with now := 10 ^ 15, ter := { u.ter with exts := [(extKey 2 1, { st := 1 })] } }.wr F.TER_TIERCTL_LOW 0
    let k : Nat := extKey 2 1
    let l : List Nat := [31]
    outc (execHotExtentMove s) (fun t => decide (t.ter.move = some { key := k, dst := l } ∧ (t.ext k).st = 3)) = true := by decide +kernel

theorem test_step_slotpwr :
    let s : State := run 110 111 1 [31] (pceUp up)
    let d : Desc := desc 1 111 [31]
    outc (execSlotpwr s) (fun t => decide (t.on (F.PCE_SLOTs_CTL_PWR (d.le 16 1)) = decide (d.le 17 1 = 1) ∧ (d.le 17 1 = 0 → t.on (F.PCE_SLOTs_STAT_LINK (d.le 16 1)) = false))) = true := by decide +kernel

theorem test_step_bedUp :
    let s : State := pw 1 1 armed
    let q : SeqIn := seqOf [3]
    outc (execBedUp q s) (fun t => decide (t.pwr.step = s.pwr.step + 1 ∧ (s.pwr.step = 2 → t.now % 8 = 0 ∧ s.pwr.cal / 64 ≤ t.now ∧ s.wideGet Reg.RTD_SDLSAVE_LO + 1000000000 ≤ t.now))) = true := by decide +kernel

theorem test_step_pwrreqTarget :
    let s : State := bedOnly
    let ag : Agent := .scarecrow
    let v : W32 := 2
    outc (execPwrreqTarget ag v s) (fun t => decide (t.resp = .done ∧ t.rd F.SYS_PWRSTATE_TARGET = v.toNat % 4)) = true := by decide +kernel

theorem test_step_moduleReset :
    let s : State := pw 3 0 up
    let ag : Agent := .daleA
    let v : W32 := rstKey 1
    let q : SeqIn := seqOf [3]
    outc (execModuleReset ag v q s) (fun t => decide (t.resp = .done ∧ t.bedOn = true ∧ t.canopyOn = false ∧ t.pwr.step = 4 ∧ t.rd F.SYS_RSTCAUSE_CAUSE = 5 ∧ t.now = s.now)) = true := by decide +kernel

theorem test_step_thermalShed :
    let s : State := let t := ((pw 3 0 up).wr F.SYS_SHED_EN 1).wr F.SYS_SHED_SHST 1; { t with now := 10 ^ 15, tim := { t.tim with aboveCrit := true } }
    outc (execThermalShed s) (fun t => decide (t.rd F.SYS_SHED_SHST = 2 ∧ (s.pwr.st = 3 → s.pwr.step = 0 → t.pwr.step = 20))) = true := by decide +kernel

theorem test_step_selfTest :
    let s : State := hltd (fun h => { h with tests := [{ res := 0x20030004, since := 0 }] }) (up.wr F.HLT_CTL_REPEAT 3)
    let res : Nat := 0x20030004
    let found : Bool := true
    let part : Nat := 15
    let bad : List Nat := []
    outc (execSelfTest res found part bad s) (fun t => decide (t.rd F.HLT_LASTTEST_RESULT = (if found = true then 2 else 1) ∧ t.hlt.tests.all (fun x => decide (x.res ≠ res)) = true ∧
      (found = true → SMap.get (fun _ => 0) t.hlt.lostRegs (res / 2 ^ 16 % 32) = SMap.get (fun _ => 0) s.hlt.lostRegs (res / 2 ^ 16 % 32) + 1))) = true := by decide +kernel

theorem test_step_handover :
    let s : State := run 66 67 2 [] (dalesOn up)
    let d : Desc := desc 2 67 []
    let c : Nat := 0
    outc (execHandover s) (fun t => decide (if s.hlt.hand.isSome = true then t = s.complete 66 d { status := 0x43 }
      else if s.daleReady (1 - c) = false ∨ (s.daleBusy 0 || s.daleBusy 1) = true then t = s.complete 66 d { status := 0x41 }
      else s.on (F.HLT_TOKc_HELD 4) = false → t.rd F.HLT_HOSTAT_STATE = 1 ∧ t.hlt.hand = some { fault := false, cause := 1, src := c, at0 := if d.tmode = 1 then d.deadline else 0, desc := some d, since := some s.now, owner := c })) = true := by decide +kernel

theorem test_step_stage :
    let s : State := run 64 65 1 [0, 0, 0, 0, 0, 0, 0, 0, 0, 0, 0, 0, 0, 0, 0, 0, 64] (dramOn up)
    let sig : Bool := true
    let d : Desc := desc 1 65 [0, 0, 0, 0, 0, 0, 0, 0, 0, 0, 0, 0, 0, 0, 0, 0, 64]
    outc (execStage sig none s) (fun t => decide (if s.stageStatus (s.mem.readBytes (d.le 24 8) (d.le 32 8)) sig ≠ 0 then t.upd.pkg = none ∧ t.rd F.UPD_PKGSTAT_STATE = 5 ∧ t.rd F.UPD_PKGSTAT_STATUS = s.stageStatus (s.mem.readBytes (d.le 24 8) (d.le 32 8)) sig % 2 ^ F.UPD_PKGSTAT_STATUS.width
      else t.upd.pkg.isSome = true ∧ t.rd F.UPD_PKGSTAT_STATE = 2 ∧ (t.reg Reg.UPD_PKGID).toNat = s.mem.readLe (d.le 24 8 + 8) 4)) = true := by decide +kernel

theorem test_step_eventRecordWrite :
    let s : State := evrd (fun e => { e with queue := [aRec true] }) up
    let cut : Bool := false
    let r : Rec := aRec true
    let rest : List Rec := []
    outc (execEventRecordWrite cut s) (fun t => decide (t.evr.queue = rest ∧ (if cut = true then t.evr.store = s.evr.store else t.evr.store = s.evr.store ++ [(s.evr.next, { r with supp := (s.bucket r.code).supp, time := 0 })]))) = true := by decide +kernel

/-! ### States that meet the hypotheses of the completion statements -/

theorem test_hyps_RegisterAccessesComplete :
    (∃ (s : State) (a : Agent) (addr : Nat) (v : W32) (off : Nat) (d : RegDesc), (regTarget a addr 32 = some (0x00, off)) ∧ (s.accepts a 0x00 off = true) ∧ (findReg 0x00 off = some d) ∧ (off ≠ Reg.SYS_PWRREQ) ∧ (off ≠ Reg.SYS_RSTCMD)) ∧
    (∃ (s : State) (a : Agent) (addr : Nat) (v : W32) (blk off : Nat), (regTarget a addr 32 = some (blk, off)) ∧ (s.accepts a blk off = true) ∧ (blk ≠ 0x07) ∧ (findReg blk off = none)) ∧
    (∃ (s : State) (a : Agent) (addr size : Nat) (v : W32), (assigned ((addr - regSpace) / 0x10000) = false)) ∧
    (∃ (s : State) (a : Agent) (addr : Nat) (blk off : Nat) (d : RegDesc), (regTarget a addr 32 = some (blk, off)) ∧ (s.blockOn blk = true) ∧ (bedAgent a = true → bedBlock blk = true) ∧ (absentReg s.code blk off = false) ∧ (findReg blk off = some d) ∧ (bankedKey (blk * 0x1000 + off) = false) ∧ (s.badParity = []) ∧ (¬ (blk = 0x0B ∧ 0x84 ≤ off ∧ off ≤ 0xDC ∧ off % 8 = 4))) ∧
    (∃ (s : State) (a : Agent) (addr k : Nat), (regTarget a addr 32 = some (0x0B, 0x84 + 8 * k)) ∧ (k < 12) ∧ (s.bedOn = true) ∧ (absentReg s.code 0x0B (0x84 + 8 * k) = false) ∧ (s.badParity = [])) ∧
    (∃ (s : State) (a : Agent) (blk : Nat) (v : W32) (b k : Nat), (snapKey blk = some k) ∧ (s.accepts a blk (k % 0x1000) = true) ∧ (getBits v 0 0 = 1) ∧ (blk ≠ 0x02) ∧ (agentBank a = some b)) ∧
    (∃ (s : State) (n : Nat), (s.bedOn = true) ∧ (n < 2) ∧ (s.badParity = [])) ∧
    (∃ (s : State) (a : Agent) (off : Nat) (v : W32), (s.accepts a 0x02 (decodeOff 2 off) = true) ∧ (decodeOff 2 off % 4 = 0) ∧ (rootKeys.contains (0x2000 + decodeOff 2 off) = true) ∧ (listedAt (0x2000 + decodeOff 2 off) v = true) ∧ (0x2000 + decodeOff 2 off ≠ Reg.RTD_CELLCFG) ∧ (s.latches = [])) ∧
    (∃ (s : State) (l : Latch) (d : RegDesc), (s.rootOn = true) ∧ (s.bedOn = true) ∧ (s.latches = [l]) ∧ (l.time + 1000 ≤ s.now) ∧ (findReg 2 l.off = some d) ∧ (rootKeys.contains (0x2000 + l.off) = true) ∧ (l.off ≠ 0) ∧ (s.rootBit F.RTD_CTL_CALLOAD = false)) ∧
    (∃ (s : State) (l : Latch) (d : RegDesc), (s.bedOn = false) ∧ (s.latches = [l]) ∧ (findReg 2 l.off = some d) ∧ (l.off ≠ 0) ∧ (s.rootBit F.RTD_CTL_CALLOAD = false)) :=
  ⟨⟨up, .daleA, 0xFE0000001C, 0x3, 0x1C, descAt 0 0x1C, by decide +kernel⟩,
   ⟨up, .daleA, 0xFE00000038, 1, 0x00, 0x38, by decide +kernel⟩,
   ⟨up, .daleB, 0xFE000F0000, 32, 1, by decide +kernel⟩,
   ⟨up.setReg Reg.EVR_QUEUE 0x00050003, .svc, 0xFE00040014, 0x04, 0x14, descAt 0x04 0x14, by decide +kernel⟩,
   ⟨(up.wr (F.VLV_BANKk_CUR_PEAK 1) 900).wr (F.VLV_BANKk_STAT_MA 1) 700, .daleA, 0xFE000B008C, 1, by decide +kernel⟩,
   ⟨up.wideSet Reg.GNS_SLIPCNT_LO 0x500000007, .pcie, 0x16, 1, 7, Reg.GNS_SNAP, by decide +kernel⟩,
   ⟨up.wr F.SDL_CTL_MODE 2, 1, by decide +kernel⟩,
   ⟨up, .furrowRt, 0x180, 0xFFFFFFFF, by decide +kernel⟩,
   ⟨oneLatch, ⟨0x030, 0x99, 0x99, 100⟩, descAt 2 0x030, by decide +kernel⟩,
   ⟨{ oneLatch with bedOn := false, canopyOn := false }, ⟨0x030, 0x99, 0x99, 100⟩, descAt 2 0x030, by decide +kernel⟩⟩

theorem test_hyps_GorgeAndBridgeCommandsComplete :
    (∃ (s : State) (req cls : Nat) (kind : Xfer) (addr len tag : Nat), (s.canopyOn = true) ∧ (req < 16) ∧ (cls < 8) ∧ (0 < len) ∧ (len ≤ 256) ∧ (¬ (s.code = .l ∧ req = 8)) ∧ (s.code.classOk cls addr len = true) ∧ (s.fab.waits.any (fun w => decide (w.req = req)) = false)) ∧
    (∃ (s : State) (req cls : Nat) (kind : Xfer) (addr len tag : Nat), (s.canopyOn = false ∨ (req < 16 ∧ cls < 8 ∧ 0 < len ∧ len ≤ 256 ∧ ¬ (s.code = .l ∧ req = 8) ∧ s.fab.waits.any (fun w => decide (w.req = req)) = false ∧ s.code.classOk cls addr len = false))) ∧
    (∃ (s : State) (tag want : Nat), ((s.fab.entry tag).isSome = true) ∧ (s.fab.waits = [])) ∧
    (∃ (s : State) (tag want : Nat) (e : FabEntry), (s.fab.entry tag = some e) ∧ (s.fab.waits = []) ∧ (e.ack + classBound e.cls ≤ s.now)) ∧
    (∃ (s : State) (a : Agent) (n : Nat) (v : W32), (n < 16) ∧ (s.accepts a 0x10 (0x100 + 4 * n) = true)) ∧
    (∃ (s : State) (addr : Nat) (data : Bytes), (s.bedOn = true)) ∧
    (∃ (s : State) (a : Agent) (addr : Nat) (data : Bytes) (p : Bool), (s.canopyOn = true) ∧ (inBedRange addr data.length = true) ∧ (addr % 64 + data.length ≤ 64)) ∧
    (∃ (s : State) (l : BridgeLine) (r : List BridgeLine), (s.bridge.inbound = l :: r) ∧ (s.bridge.waiting = [])) :=
  ⟨⟨up, 15, 7, ⟨true, true⟩, 0, 256, 8191, by decide +kernel⟩,
   ⟨up, 0, 1, ⟨false, false⟩, 0xE000000000, 64, 0, by decide +kernel⟩,
   ⟨oneEntry, 5, 0, by decide +kernel⟩,
   ⟨later 2000 oneEntry, 5, 0, ⟨5, 15, 0, true, 0x40, 64, 0, false⟩, by decide +kernel⟩,
   ⟨up, .daleB, 15, 0x00010002, by decide +kernel⟩,
   ⟨up, 0x40, [1, 2], by decide +kernel⟩,
   ⟨up, .daleA, 0xF000000000, [1, 2], true, by decide +kernel⟩,
   ⟨oneLine, ⟨0xF000000000, [7], false, true, .plain⟩, [], by decide +kernel⟩⟩

theorem test_hyps_MonitorCommandsComplete :
    (∃ (s : State) (readings : List Nat) (n : Nat), (s.bedOn = true) ∧ (n < 4)) ∧
    (∃ (s : State) (n p : Nat), (s.bedOn = true) ∧ (s.tim.lastRail.all (fun a => decide (a + 1000000 ≤ s.now)) = true) ∧ (2 ≤ (s.goodGauges false).length) ∧ (s.lowestPace (s.goodGauges false) = some (n, p))) ∧
    (∃ (s : State) (temps : List (Option Int)) (n : Nat), (s.bedOn = true) ∧ (n < 24)) ∧
    (∃ (s : State) (mv : List (Option Nat)) (n : Nat), (s.bedOn = true) ∧ (n < 8)) :=
  ⟨⟨up, [0x400, 0x3F0, 0x10, 0x20000], 3, by decide +kernel⟩,
   ⟨paced, 1, 0x35F, by decide +kernel⟩,
   ⟨up, [some 1200, none, some (-5)], 2, by decide +kernel⟩,
   ⟨up, [some 8999, some 1100], 0, by decide +kernel⟩⟩

theorem test_hyps_SundialCommandsComplete :
    (∃ (s : State) , (s.bedOn = true)) ∧
    (∃ (s : State) (core cmp : Nat), (s.canopyOn = true) ∧ (core < 16) ∧ (cmp ≤ s.now)) ∧
    (∃ (s : State) (core cmp : Nat), (s.canopyOn = true) ∧ (core < 16) ∧ (s.now < cmp)) ∧
    (∃ (s : State) (source stamp gps : Nat) (e : Int), (s.bedOn = true) ∧ (source ≠ 0) ∧ (s.rd F.SDL_CTL_MODE = source)) ∧
    (∃ (s : State) , (s.bedOn = true) ∧ (s.tim.lastMark + 3000000000 ≤ s.now)) ∧
    (∃ (s : State) (a : Agent) (v : W32), (s.accepts a 0x01 0x000 = true) ∧ (listedAt Reg.SDL_CTL v = true) ∧ (getBits v 1 0 ≠ s.rd F.SDL_CTL_MODE)) ∧
    (∃ (s : State) (trim diff : Int) (flt : Bool), (s.bedOn = true) ∧ (20000000 < trim.natAbs)) ∧
    (∃ (s : State) , (s.bedOn = true)) ∧
    (∃ (s : State) , (s.bedOn = true)) ∧
    (∃ (s : State) (a : Agent) (n : Nat) (v : W32), (n < 16) ∧ (s.accepts a 0x01 (0x108 + 0x10 * n) = true) ∧ (listedAt (Reg.SDL_ALMnCTL n) (setBits v 0 0 1) = true)) ∧
    (∃ (s : State) (a : Agent) (n : Nat) (v : W32), (n < 16) ∧ (s.accepts a 0x01 (0x108 + 0x10 * n) = true) ∧ (listedAt (Reg.SDL_ALMnCTL n) (setBits v 0 0 0) = true)) ∧
    (∃ (s : State) (n : Nat), (s.bedOn = true) ∧ (n < 16) ∧ (s.on (F.SDL_ALMnCTL_ARM n) = true) ∧ ((SMap.get (fun _ => (0, 0)) s.tim.alarms n).1 ≤ s.now)) :=
  ⟨⟨later 8 up, by decide +kernel⟩,
   ⟨up, 15, 0, by decide +kernel⟩,
   ⟨up, 15, 8, by decide +kernel⟩,
   ⟨(up.wr F.SDL_CTL_MODE 1).wr F.SDL_STAT_STATE 0, 1, 8, 0, 5, by decide +kernel⟩,
   ⟨(later 3000000000 up).wr F.SDL_STAT_STATE 1, by decide +kernel⟩,
   ⟨up.wr F.SDL_STAT_STATE 2, .daleA, 2, by decide +kernel⟩,
   ⟨up, -20000001, 600000000, false, by decide +kernel⟩,
   ⟨up, by decide +kernel⟩,
   ⟨up.wr F.SDL_STAT_TCXOLOSS 1, by decide +kernel⟩,
   ⟨up.setReg (Reg.SDL_ALMn_HI 15) 1, .daleA, 15, 0x20, by decide +kernel⟩,
   ⟨up.wr (F.SDL_ALMnCTL_ARM 15) 1, .daleA, 15, 1, by decide +kernel⟩,
   ⟨up.wr (F.SDL_ALMnCTL_ARM 15) 1, 15, by decide +kernel⟩⟩

theorem test_hyps_RingCommandsComplete :
    (∃ (s : State) (a : Agent) (q : Nat) (v : W32), (q < 112) ∧ (s.accepts a 0x06 (0x404 + 0x10 * q) = true) ∧ (s.on (F.RNG_QnCFG_EN q) = false) ∧ (listedAt (Reg.RNG_QnCFG q) (setBits v 31 31 1) = true) ∧ (s.enableCause q (setBits v 31 31 1) = 0)) ∧
    (∃ (s : State) (a : Agent) (q : Nat), (q < 112) ∧ (s.accepts a 0x06 (0x404 + 0x10 * q) = true) ∧ (s.on (F.RNG_QnCFG_EN q) = true) ∧ (listedAt (Reg.RNG_QnCFG q) (setBits (s.reg (Reg.RNG_QnCFG q)) 31 31 0) = true)) ∧
    (∃ (s : State) (a : Agent) (q : Nat) (v : W32), (q < 112) ∧ (s.accepts a 0x06 (0x408 + 0x10 * q) = true) ∧ (s.on (F.RNG_QnCFG_EN q) = true) ∧ (s.on (F.RNG_QnCFG_KIND q) = false) ∧ (getBits v 15 0 < s.ringSize q)) ∧
    (∃ (s : State) (a : Agent) (q : Nat) (v : W32), (q < 112) ∧ (s.accepts a 0x06 (0x408 + 0x10 * q) = true) ∧ (s.on (F.RNG_QnCFG_EN q) = true) ∧ (s.on (F.RNG_QnCFG_KIND q) = true) ∧ (getBits v 15 0 < s.ringSize q) ∧ ((getBits v 15 0 + s.ringSize q - (s.ring q).idx) % s.ringSize q ≤ s.unconsumed q)) ∧
    (∃ (s : State) (q : Nat), (q < 112) ∧ (s.takeReady q = true) ∧ ((s.ring q).mismatch = none) ∧ (s.mem.poisoned (s.ringAddr q (s.ringHead q)) 64 = false) ∧ (linePhase (s.mem.readBytes (s.ringAddr q (s.ringHead q)) 64) = s.rd (F.RNG_QnSTAT_PHASE q)) ∧ (headerOk (s.mem.readBytes (s.ringAddr q (s.ringHead q)) 64) = true) ∧ (knownOp q (parseDesc 0 0 (s.mem.readBytes (s.ringAddr q (s.ringHead q)) 64)).op = true) ∧ ((parseDesc 0 0 (s.mem.readBytes (s.ringAddr q (s.ringHead q)) 64)).fence = false) ∧ ((parseDesc 0 0 (s.mem.readBytes (s.ringAddr q (s.ringHead q)) 64)).tmode ≠ 1)) ∧
    (∃ (s : State) (q n : Nat), (q < 112) ∧ (s.takeReady q = true) ∧ ((s.ring q).mismatch = some n) ∧ (n + 1000 ≤ s.now) ∧ (s.mem.poisoned (s.ringAddr q (s.ringHead q)) 64 = false) ∧ (linePhase (s.mem.readBytes (s.ringAddr q (s.ringHead q)) 64) ≠ s.rd (F.RNG_QnSTAT_PHASE q))) ∧
    (∃ (s : State) (q : Nat) (d : Desc) (r : List Desc), (s.engineOn q = true) ∧ ((s.ring q).taken = d :: r) ∧ (d.running = false) ∧ (d.tmode = 1) ∧ (d.deadline ≤ s.now)) :=
  ⟨⟨up.wr (F.RNG_QnBASE_BASE 111) 0x3C000000, .daleA, 111, 0x40400000, by decide +kernel⟩,
   ⟨run 24 25 1 [] up, .furrowRt, 24, by decide +kernel⟩,
   ⟨ringsUp 68 69 up, .terrace, 68, 15, by decide +kernel⟩,
   ⟨(ringsUp 68 69 up).wr (F.RNG_QnSTAT_HEAD 69) 3, .terrace, 69, 3, by decide +kernel⟩,
   ⟨waits 24 25 (leBytes 8 (2 ^ 63 + 0x10)) up, 24, by decide +kernel⟩,
   ⟨(later 1500 (waits 24 25 [] up)).setRing 24 { idx := 1, mismatch := some 500 }, 24, 500, by decide +kernel⟩,
   ⟨(later 900 (run 24 25 0x10 [] up)).setRing 24 { taken := [{ desc 0x10 25 [] with running := false, tmode := 1, deadline := 800 }] }, 24, { desc 0x10 25 [] with running := false, tmode := 1, deadline := 800 }, [], by decide +kernel⟩⟩

theorem test_hyps_MailboxCommandsComplete :
    (∃ (s : State) (a : Agent) (m : Nat) (v : W32) (id : Nat), (s.bedOn = true) ∧ (agentMbx a = some id) ∧ (SMap.get (fun _ => 0) s.hlt.lostRegs 0x07 < 5) ∧ (m < 64) ∧ (absentReg s.code 0x07 (0x100 + 0x10 * m) = false)) ∧
    (∃ (s : State) (a : Agent) (m : Nat) (v : W32) (id : Nat), (s.bedOn = true) ∧ (agentMbx a = some id) ∧ (SMap.get (fun _ => 0) s.hlt.lostRegs 0x07 < 5) ∧ (m < 64) ∧ (absentReg s.code 0x07 (0x104 + 0x10 * m) = false) ∧ (s.mbxReachable m = true) ∧ (s.held.contains (m / 8) = false) ∧ (s.mbxPtrOk m (getBits v 15 0 * 2 ^ 32 + (SMap.get (fun _ => 0) s.mbxStage id).toNat) (getBits v 27 16) = true)) ∧
    (∃ (s : State) (a : Agent) (m : Nat) (v : W32) (id : Nat), (s.bedOn = true) ∧ (agentMbx a = some id) ∧ (SMap.get (fun _ => 0) s.hlt.lostRegs 0x07 < 5) ∧ (m < 64) ∧ (m / 8 = id) ∧ (absentReg s.code 0x07 (0x108 + 0x10 * m) = false) ∧ (s.on (F.MBX_MnSTAT_FULL m) = true)) ∧
    (∃ (s : State) (a : Agent) (m : Nat) (id : Nat), (s.bedOn = true) ∧ (agentMbx a = some id) ∧ (SMap.get (fun _ => 0) s.hlt.lostRegs 0x07 < 5) ∧ (m < 64) ∧ (absentReg s.code 0x07 (if m < 32 then 0x010 else 0x014) = false)) :=
  ⟨⟨up, .pcie, 63, 0xFFFFFFFF, 7, by decide +kernel⟩,
   ⟨{ up with held := [] }, .scarecrow, 17, 0xF0, 6, by decide +kernel⟩,
   ⟨noticed 17 1 up, .trellisSeq, 17, 0x40000000, 2, by decide +kernel⟩,
   ⟨(noticed 63 1 up).mapBit Reg.MBX_ABT_LO 63 true, .daleB, 63, 1, by decide +kernel⟩⟩

theorem test_hyps_SensorChannelCommandsComplete :
    (∃ (s : State) (n instant : Nat) (code : Int), (s.bedOn = true) ∧ (n < s.code.analogues) ∧ (s.on (F.ING_ACHn_CFG_EN n) = true) ∧ (instant % s.chanPeriod n = 0) ∧ (instant + 3 * s.chanPeriod n ≤ s.now) ∧ ((s.chan n).restart ≤ instant) ∧ ((s.chan n).last.all (fun l => decide (l < instant)) = true) ∧ (s.on (F.ING_STRn_CFG_EN n) = true) ∧ ((s.stream n).since ≤ instant) ∧ ((s.stream n).buf.length < 97)) ∧
    (∃ (s : State) (n : Nat) (x : Samp) (r : List Samp), (s.bedOn = true) ∧ (n < 112) ∧ (s.on (F.ING_STRn_CFG_EN n) = true) ∧ ((s.stream n).buf = x :: r) ∧ (0 < s.rd (F.ING_STRn_CFG_FLUSH n)) ∧ (x.entered + s.rd (F.ING_STRn_CFG_FLUSH n) * 125000 ≤ s.now)) ∧
    (∃ (s : State) (a : Agent) (n : Nat) (v : W32), (n < 112) ∧ (s.accepts a 0x08 (0x400 + 4 * n) = true) ∧ (listedAt (Reg.ING_STRn_CFG n) (setBits v 31 31 1) = true) ∧ (s.on (F.ING_STRn_CFG_EN n) = false) ∧ (getBits v 15 0 * 512 % (512 * 2 ^ getBits v 29 26) = 0) ∧ (getBits v 15 0 * 512 + 512 * 2 ^ getBits v 29 26 ≤ 0x2000000)) ∧
    (∃ (s : State) (a : Agent) (n : Nat) (v : W32), (n < 112) ∧ (s.accepts a 0x08 (0x400 + 4 * n) = true) ∧ (listedAt (Reg.ING_STRn_CFG n) (setBits v 31 31 0) = true)) ∧
    (∃ (s : State) (a : Agent) (n : Nat) (v : W32), (n < 48) ∧ (s.accepts a 0x08 (0x100 + 4 * n) = true) ∧ (listedAt (Reg.ING_ACHn_CFG n) v = true)) ∧
    (∃ (s : State) (n : Nat) (re : Bool), (s.bedOn = true) ∧ (n < s.code.acousticChannels) ∧ (s.on (F.ING_ACCn_CFG_EN n) = true) ∧ ((s.acoustic n).last.all (fun x => re && decide (x + s.rd (F.ING_ACCn_CFG_DEAD n) * 10000 ≤ s.now)) = true)) ∧
    (∃ (s : State) (n fin : Nat), (s.bedOn = true) ∧ (n < s.code.acousticChannels) ∧ (s.on (F.ING_ACCn_CFG_EN n) = true) ∧ (fin = (s.acoustic n).since + 1000000 * 2 ^ s.rd (F.ING_ACCn_CFG_RPT n)) ∧ (fin ≤ s.now) ∧ (s.on (F.ING_STRn_CFG_EN (48 + n)) = true) ∧ ((s.stream (48 + n)).since ≤ fin) ∧ ((s.stream (48 + n)).buf.length < 97)) ∧
    (∃ (s : State) (n : Nat) (x : Int), (s.bedOn = true) ∧ (n < s.code.acousticChannels) ∧ (s.on (F.ING_ACCn_CFG_EN n) = true) ∧ (s.on (F.ING_ACCn_CFG_RAW n) = true) ∧ (s.on (F.ING_STRn_CFG_EN (56 + n)) = true) ∧ ((s.stream (56 + n)).since ≤ s.now) ∧ ((s.stream (56 + n)).buf.length < 97)) ∧
    (∃ (s : State) (n : Nat) (step : Int), (s.bedOn = true) ∧ (n < s.code.freqInputs) ∧ (s.on (F.ING_FQn_CFG_EN n) = true ∨ s.freqSecond n = true)) ∧
    (∃ (s : State) (n : Nat), (s.bedOn = true) ∧ (n < s.code.freqInputs) ∧ (s.on (F.ING_FQn_CFG_EN n) = true) ∧ (s.freqSecond n = false) ∧ (s.on (F.ING_STRn_CFG_EN (64 + n)) = true) ∧ ((s.stream (64 + n)).since ≤ s.now) ∧ ((s.stream (64 + n)).buf.length < 97)) :=
  ⟨⟨later 1000000 ((streamOn 47 up).wr (F.ING_ACHn_CFG_EN 47) 1), 47, 62500, 20000000, by decide +kernel⟩,
   ⟨later 200000 (((streamOn 111 up).wr (F.ING_STRn_CFG_FLUSH 111) 1).setStream 111 { buf := [aSamp] }), 111, aSamp, [], by decide +kernel⟩,
   ⟨up, .daleA, 111, 0x10000010, by decide +kernel⟩,
   ⟨(streamOn 111 up).setStream 111 { buf := [aSamp] }, .daleA, 111, 0x10000010, by decide +kernel⟩,
   ⟨later 80 up, .daleA, 47, 0x80200005, by decide +kernel⟩,
   ⟨up.wr (F.ING_ACCn_CFG_EN 7) 1, 7, false, by decide +kernel⟩,
   ⟨later 70000000 (((streamOn 55 up).wr (F.ING_ACCn_CFG_EN 7) 1).setAcoustic 7 { hits := [64000000, 5000000] }), 7, 1000000 * 2 ^ up.rd (F.ING_ACCn_CFG_RPT 7), by decide +kernel⟩,
   ⟨((streamOn 63 up).wr (F.ING_ACCn_CFG_EN 7) 1).wr (F.ING_ACCn_CFG_RAW 7) 1, 7, -5, by decide +kernel⟩,
   ⟨(up.wr (F.ING_FQn_CFG_EN 30) 1).wr (F.ING_FQn_CFG_MODE 30) 2, 31, -1, by decide +kernel⟩,
   ⟨((streamOn 95 up).wr (F.ING_FQn_CFG_EN 31) 1).setFreq 31 ⟨[100, 50], 0, 0⟩, 31, by decide +kernel⟩⟩

theorem test_hyps_SupplyAndReferenceCommandsComplete :
    (∃ (s : State) (n : Nat), (s.bedOn = true) ∧ (n < s.code.supplies) ∧ (s.on (F.ING_SUPn_STAT_ON n) = true)) ∧
    (∃ (s : State) (n : Nat), (s.bedOn = true) ∧ (n < s.code.supplies) ∧ (s.on (F.ING_SUPn_STAT_ON n) = true)) ∧
    (∃ (s : State) (n : Nat), (s.bedOn = true) ∧ (n < s.code.supplies) ∧ (s.on (F.ING_SUPn_CFG_EN n) = true) ∧ (s.on (F.ING_SUPn_CFG_RETRY n) = true) ∧ (s.rd (F.ING_SUPn_STAT_FAULT n) ≠ 0) ∧ (SMap.get (fun _ => 0) s.ing.supOff n + 1000000000 ≤ s.now)) ∧
    (∃ (s : State) (n ma : Nat), (s.bedOn = true) ∧ (n < s.code.supplies)) ∧
    (∃ (s : State) (ab a b : Int), (s.bedOn = true)) ∧
    (∃ (s : State) (q : Nat) (ab a b : Int) (d : Desc), (q < 8) ∧ (s.running q 2 = some d)) ∧
    (∃ (s : State) (q : Nat) (d : Desc), (q < 8) ∧ ((s.ring q).taken = [d]) ∧ (d.running = true) ∧ (d.op = 1) ∧ (s.ing.captures = []) ∧ (d.le 16 1 < 112) ∧ (0 < d.le 20 4) ∧ (d.le 20 4 ≤ 2 ^ 20) ∧ (d.le 24 8 % 512 = 0) ∧ (s.on (F.ING_STRn_CFG_EN (d.le 16 1)) = true) ∧ (inBedRange (d.le 24 8) 512 = true ∨ inDramRange s.code (d.le 24 8) 512 = true)) :=
  ⟨⟨up.wr (F.ING_SUPn_STAT_ON 7) 1, 7, by decide +kernel⟩,
   ⟨up.wr (F.ING_SUPn_STAT_ON 7) 1, 7, by decide +kernel⟩,
   ⟨later 1000000000 (((up.wr (F.ING_SUPn_CFG_EN 7) 1).wr (F.ING_SUPn_CFG_RETRY 7) 1).wr (F.ING_SUPn_STAT_FAULT 7) 2), 7, by decide +kernel⟩,
   ⟨up, 7, 70000, by decide +kernel⟩,
   ⟨{ up with ing := { up.ing with devRun := 1 } }, -201, 100, 101, by decide +kernel⟩,
   ⟨run 6 7 2 [] up, 6, -201, 0, 1000, desc 2 7 [], by decide +kernel⟩,
   ⟨run 6 7 1 (leBytes 4 111 ++ leBytes 4 14 ++ leBytes 8 0x200) (streamOn 111 up), 6, desc 1 7 (leBytes 4 111 ++ leBytes 4 14 ++ leBytes 8 0x200), by decide +kernel⟩⟩

theorem test_hyps_CameraLinkCommandsComplete :
    (∃ (s : State) (a : Agent) (n : Nat) (v : W32), (n < 12) ∧ (s.accepts a 0x17 (0x100 + 0x40 * n) = true) ∧ (listedAt (Reg.CAM_LNKn_CTL n) (setBits v 31 31 1) = true) ∧ (s.on (F.CAM_LNKn_CTL_EN n) = false) ∧ ((s.applyWrite (Reg.CAM_LNKn_CTL n) (setBits (setBits v 31 31 1) 31 31 0)).linkCause n = 0)) ∧
    (∃ (s : State) (a : Agent) (n : Nat) (v : W32), (n < 12) ∧ (s.accepts a 0x17 (0x100 + 0x40 * n) = true) ∧ (listedAt (Reg.CAM_LNKn_CTL n) (setBits v 31 31 0) = true) ∧ (s.on (F.CAM_LNKn_CTL_EN n) = true → s.reg (Reg.CAM_LNKn_CTL n) &&& 0x7FFFFFC0 = setBits v 31 31 0 &&& 0x7FFFFFC0)) ∧
    (∃ (s : State) (n : Nat), (s.linkOk n = true) ∧ (s.linkState n = 1) ∧ ((s.link n).trainStart + 100000000 ≤ s.now)) ∧
    (∃ (s : State) (n id : Nat), (s.linkOk n = true) ∧ (s.linkState n = 1 ∨ s.linkState n = 4)) ∧
    (∃ (s : State) (n : Nat), (s.linkOk n = true) ∧ (s.linkState n = 3)) ∧
    (∃ (s : State) (n : Nat), (s.linkOk n = true) ∧ (s.on (F.CAM_LNKn_CTL_EN n) = true) ∧ (s.on (F.CAM_LNKn_TIME_SYNC n) = true) ∧ (0 < s.framePeriod n) ∧ (s.now % s.framePeriod n = getBits ((s.link n).inForce.getD 3 0) 31 16 * 1000)) ∧
    (∃ (s : State) (n : Nat), (s.linkOk n = true) ∧ (s.on (F.CAM_LNKn_CTL_EN n) = true) ∧ (s.on (F.CAM_LNKn_CTL_POC n) = true) ∧ (s.on (F.CAM_LNKn_STAT_POCFLT n) = false)) ∧
    (∃ (s : State) (n : Nat), (s.linkOk n = true) ∧ (s.on (F.CAM_LNKn_CTL_POC n) = true) ∧ (s.on (F.CAM_LNKn_STAT_POCFLT n) = true) ∧ ((s.link n).pocOff + 1000000000 ≤ s.now)) ∧
    (∃ (s : State) (n served : Nat), (s.linkOk n = true) ∧ (s.linkState n = 2 ∨ s.linkState n = 3) ∧ (s.nextLine = none) ∧ ((s.link n).buffer = [])) ∧
    (∃ (s : State) (n : Nat) (px : CamLine) (crc : Bool) (served : Nat), (s.linkOk n = true) ∧ (s.linkState n = 2 ∨ s.linkState n = 3) ∧ (s.nextLine = none) ∧ ((s.link n).buffer = []) ∧ (px.px ≠ []) ∧ (s.linkTakes n px = true) ∧ ((s.link n).frame = none)) ∧
    (∃ (s : State) (n : Nat) (px : CamLine) (crc : Bool) (served : Nat) (f : CamFrame), (s.linkOk n = true) ∧ (s.linkState n = 2 ∨ s.linkState n = 3) ∧ (s.nextLine = none) ∧ ((s.link n).buffer = []) ∧ (px.px ≠ []) ∧ (s.linkTakes n px = true) ∧ ((s.link n).frame = some f) ∧ (f.lines < s.rd (F.CAM_LNKn_GEOM_ACTH n))) ∧
    (∃ (s : State) (n : Nat) (px : CamLine) (crc : Bool) (served : Nat) (f : CamFrame), (s.linkOk n = true) ∧ (s.linkState n = 2 ∨ s.linkState n = 3) ∧ (s.nextLine = none) ∧ ((s.link n).buffer = []) ∧ (px.px ≠ []) ∧ (s.linkTakes n px = true) ∧ ((s.link n).frame = some f) ∧ (s.rd (F.CAM_LNKn_GEOM_ACTH n) ≤ f.lines)) ∧
    (∃ (s : State) (n : Nat) (px : CamLine) (crc : Bool) (served : Nat), (s.linkOk n = true) ∧ (s.linkState n = 2 ∨ s.linkState n = 3) ∧ (s.nextLine = none) ∧ (s.linkTakes n px = false)) ∧
    (∃ (s : State) (n : Nat) (f : CamFrame), (s.linkOk n = true) ∧ ((s.link n).frame = some f) ∧ (f.lastLine + s.rd (F.CAM_LNKn_TIME_LINETMO n) * 1000 ≤ s.now)) ∧
    (∃ (s : State) (n : Nat), (s.linkOk n = true) ∧ (s.linkState n = 3) ∧ ((s.link n).stalled = false) ∧ ((s.link n).lastFs + s.rd (F.CAM_LNKn_TIME_FRMTMO n) * 1000000 ≤ s.now)) :=
  ⟨⟨(linkIn 0 up).wr (F.CAM_LNKn_CTL_EN 3) 0, .daleA, 3, 0x00000000, by decide +kernel⟩,
   ⟨(linkIn 3 up).setLink 3 { frame := some aFrame }, .daleA, 3, (linkIn 3 up).reg (Reg.CAM_LNKn_CTL 3), by decide +kernel⟩,
   ⟨later 100000000 (linkIn 1 up), 3, by decide +kernel⟩,
   ⟨linkIn 1 up, 3, 0x1234567, by decide +kernel⟩,
   ⟨(linkIn 3 up).setLink 3 { frame := some aFrame }, 3, by decide +kernel⟩,
   ⟨(later 33333328 (linkIn 3 up)).wr (F.CAM_LNKn_TIME_SYNC 3) 1, 3, by decide +kernel⟩,
   ⟨(linkIn 3 up).wr (F.CAM_LNKn_CTL_POC 3) 1, 3, by decide +kernel⟩,
   ⟨later 1000000000 (((linkIn 3 up).wr (F.CAM_LNKn_CTL_POC 3) 1).wr (F.CAM_LNKn_STAT_POCFLT 3) 1), 3, by decide +kernel⟩,
   ⟨later 8 (linkIn 2 up), 3, 5, by decide +kernel⟩,
   ⟨(later 8 (linkIn 3 up)), 3, ⟨0, 0x2C, [9]⟩, true, 3, by decide +kernel⟩,
   ⟨(later 8 (linkIn 3 up)).setLink 3 { frame := some aFrame }, 3, ⟨0, 0x2C, List.replicate 65 7⟩, false, 3, aFrame, by decide +kernel⟩,
   ⟨(later 8 (linkIn 3 up)).setLink 3 { frame := some { aFrame with lines := 64 } }, 3, ⟨0, 0x2C, [9]⟩, true, 3, { aFrame with lines := 64 }, by decide +kernel⟩,
   ⟨(later 8 (linkIn 3 up)).setLink 3 { frame := some aFrame }, 3, ⟨1, 0x2B, [9]⟩, false, 3, by decide +kernel⟩,
   ⟨(later 800000000 (linkIn 3 up)).setLink 3 { frame := some aFrame }, 3, aFrame, by decide +kernel⟩,
   ⟨later 80000000000 (linkIn 3 up), 3, by decide +kernel⟩⟩

theorem test_hyps_CameraPipelineCommandsComplete :
    (∃ (s : State) (n : Nat) (f : CamFrame) (r : List CamFrame), (s.linkOk n = true) ∧ ((s.link n).closed = f :: r)) ∧
    (∃ (s : State) (n len qp : Nat) (p : Picture) (r : List Picture), (s.engineUp 2 = true) ∧ (n < 24) ∧ ((s.session n).pend = p :: r) ∧ ((s.session n).stopping = false) ∧ (s.rd F.CAM_BSWPOS_POS % 2 ^ s.rd F.CAM_BSCFG_BSLOG2 + len ≤ 2 ^ s.rd F.CAM_BSCFG_BSLOG2)) ∧
    (∃ (s : State) (a : Agent) (v : W32), (s.accepts a 0x17 0x7F4 = true)) ∧
    (∃ (s : State) (d : Desc), (s.running 92 1 = some d) ∧ (d.le 16 1 < s.code.cameras) ∧ (d.le 17 1 ≤ 2) ∧ (d.le 24 8 % 64 = 0) ∧ (inDramRange s.code (d.le 24 8) (tableBytes (d.le 17 1)) = true) ∧ (s.mem.poisoned (d.le 24 8) (tableBytes (d.le 17 1)) = false)) ∧
    (∃ (s : State) (ack : Bool) (data : Nat) (d : Desc), (s.running 92 2 = some d) ∧ (d.le 16 1 < s.code.cameras) ∧ (d.le 17 1 < 128) ∧ (0 < d.le 19 1) ∧ (d.le 19 1 ≤ 8) ∧ (s.linkState (d.le 16 1) = 2 ∨ s.linkState (d.le 16 1) = 3)) ∧
    (∃ (s : State) (q : Nat) (d : Desc), (q = 92 ∨ q = 98) ∧ (s.running q 0x10 = some d) ∧ (d.le 16 1 < s.code.cameras) ∧ (d.le 17 1 ≤ 2) ∧ (d.le 28 4 % 64 = 0) ∧ (d.le 32 8 % 64 = 0) ∧ (d.le 20 2 + d.le 24 2 ≤ (s.outSize (d.le 16 1) (d.le 17 1)).1) ∧ (d.le 22 2 + d.le 26 2 ≤ (s.outSize (d.le 16 1) (d.le 17 1)).2) ∧ (d.le 17 1 = 1 → d.le 20 2 % 2 = 0 ∧ d.le 22 2 % 2 = 0 ∧ d.le 24 2 % 2 = 0 ∧ d.le 26 2 % 2 = 0) ∧ (s.newestSlot (d.le 16 1) (d.le 17 1) (d.le 40 8) = none)) ∧
    (∃ (s : State) (q : Nat) (d : Desc) (k : Nat), (q = 92 ∨ q = 98) ∧ (s.running q 0x10 = some d) ∧ (d.le 16 1 < s.code.cameras) ∧ (d.le 17 1 ≤ 2) ∧ (d.le 28 4 % 64 = 0) ∧ (d.le 32 8 % 64 = 0) ∧ (d.le 20 2 + d.le 24 2 ≤ (s.outSize (d.le 16 1) (d.le 17 1)).1) ∧ (d.le 22 2 + d.le 26 2 ≤ (s.outSize (d.le 16 1) (d.le 17 1)).2) ∧ (d.le 17 1 = 1 → d.le 20 2 % 2 = 0 ∧ d.le 22 2 % 2 = 0 ∧ d.le 24 2 % 2 = 0 ∧ d.le 26 2 % 2 = 0) ∧ (s.newestSlot (d.le 16 1) (d.le 17 1) (d.le 40 8) = some k) ∧ (inDramRange s.code (d.le 32 8) (3 * d.le 26 2 * d.le 28 4 + 16384) = true) ∧ (s.mem.poison = [])) ∧
    (∃ (s : State) (a : Agent) (n : Nat), (n < 24) ∧ (s.accepts a 0x17 (0x81C + 0x20 * n) = true)) ∧
    (∃ (s : State) (a : Agent) (n : Nat), (n < 24) ∧ (s.accepts a 0x17 (0x81C + 0x20 * n) = true)) :=
  ⟨⟨(linkIn 3 up).setLink 3 { closed := [aFrame] }, 3, aFrame, [], by decide +kernel⟩,
   ⟨up.setSession 23 { pend := [⟨0, 5, 0⟩] }, 23, 100, 30, ⟨0, 5, 0⟩, [], by decide +kernel⟩,
   ⟨up.wr F.CAM_BSWPOS_POS 100, .terrace, 100, by decide +kernel⟩,
   ⟨run 92 93 1 [3, 1] up, desc 1 93 [3, 1], by decide +kernel⟩,
   ⟨run 92 93 2 [3, 127, 3, 8] (linkIn 3 up), true, 0x55, desc 2 93 [3, 127, 3, 8], by decide +kernel⟩,
   ⟨run 98 99 0x10 exportArgs (sized up), 98, desc 0x10 99 exportArgs, by decide +kernel⟩,
   ⟨run 98 99 0x10 exportArgs (slotted (sized up)), 98, desc 0x10 99 exportArgs, 0, by decide +kernel⟩,
   ⟨up, .daleA, 23, by decide +kernel⟩,
   ⟨up, .daleA, 23, by decide +kernel⟩⟩

theorem test_hyps_GridCommandsComplete :
    (∃ (s : State) (sync : Nat) (lidars : List (Nat × Nat)) (net : Net), (s.gridRuns = true) ∧ ((s.pra.next.map (fun x => x.1)).or s.pra.net = some net) ∧ (s.on F.PRA_GCTL_MODE = false) ∧ (s.now % (s.rd F.PRA_GPERIOD_PERIOD * 1000000) = s.rd F.PRA_GOFF_GOFF * 1000) ∧ (s.pra.cycle = none)) ∧
    (∃ (s : State) (sync : Nat) (lidars : List (Nat × Nat)) (c : GridCycle), (s.gridRuns = true) ∧ (s.on F.PRA_GCTL_MODE = false) ∧ (s.now % (s.rd F.PRA_GPERIOD_PERIOD * 1000000) = s.rd F.PRA_GOFF_GOFF * 1000) ∧ (s.pra.cycle = some c)) ∧
    (∃ (s : State) (sync : Nat) (lidars : List (Nat × Nat)) (net : Net), (s.gridRuns = true) ∧ ((s.pra.next.map (fun x => x.1)).or s.pra.net = some net) ∧ (s.on F.PRA_GCTL_MODE = true) ∧ (s.syncDue sync = true) ∧ (s.pacersReady sync = true)) ∧
    (∃ (s : State) (sync : Nat) (lidars : List (Nat × Nat)) (net : Net), (s.gridRuns = true) ∧ ((s.pra.next.map (fun x => x.1)).or s.pra.net = some net) ∧ (s.on F.PRA_GCTL_MODE = true) ∧ (s.syncDue sync = true) ∧ (s.pacersReady sync = false) ∧ (sync + s.rd F.PRA_GCTL_PTMO * 1000000 ≤ s.now)) ∧
    (∃ (s : State) (n slot tend : Nat) (net : Net), (bitAt (s.slotInfo (slotKey n 2 slot)).flags 2 = false ∧ bitAt (s.slotInfo (slotKey n 2 slot)).flags 4 = false ∧ bitAt (s.slotInfo (slotKey n 2 slot)).flags 9 = false) ∧ (s.outSize n 2 = (net.mw, net.mh)) ∧ (s.rd (F.CAM_LNKn_CTL_MVFMT n) = net.mvfmt) ∧ (s.pra.run.isSome = true) ∧ (s.pra.net = some net) ∧ (s.engineUp 0 = true) ∧ (n < s.code.cameras) ∧ (s.on (F.PRA_SENSn_CTL_EN n) = true) ∧ ((s.slotInfo (slotKey n 2 slot)).order ≠ 0)) ∧
    (∃ (s : State) (n slot tend : Nat) (net : Net), (bitAt (s.slotInfo (slotKey n 2 slot)).flags 2 = false ∧ bitAt (s.slotInfo (slotKey n 2 slot)).flags 4 = false ∧ bitAt (s.slotInfo (slotKey n 2 slot)).flags 9 = false) ∧ (s.outSize n 2 = (net.mw, net.mh)) ∧ (s.rd (F.CAM_LNKn_CTL_MVFMT n) = net.mvfmt) ∧ (s.pra.run = none) ∧ ((List.range 12).all (fun k => decide (k = n) || (s.sensor k).pend.isNone) = true) ∧ (s.pra.net = some net) ∧ (s.engineUp 0 = true) ∧ (n < s.code.cameras) ∧ (s.on (F.PRA_SENSn_CTL_EN n) = true) ∧ ((s.slotInfo (slotKey n 2 slot)).order ≠ 0)) ∧
    (∃ (s : State) (n slot tend us m : Nat) (net : Net) (g : VisionFrame), (s.pra.run = some (m, g)) ∧ (s.pra.net = some net) ∧ (s.engineUp 0 = true) ∧ (n < s.code.cameras) ∧ (s.on (F.PRA_SENSn_CTL_EN n) = true) ∧ ((s.slotInfo (slotKey n 2 slot)).order ≠ 0)) ∧
    (∃ (s : State) (n slot tend : Nat) (net : Net), (bitAt (s.slotInfo (slotKey n 2 slot)).flags 2 = true ∨ bitAt (s.slotInfo (slotKey n 2 slot)).flags 4 = true ∨ bitAt (s.slotInfo (slotKey n 2 slot)).flags 9 = true) ∧ (s.pra.net = some net) ∧ (s.engineUp 0 = true) ∧ (n < s.code.cameras) ∧ (s.on (F.PRA_SENSn_CTL_EN n) = true) ∧ ((s.slotInfo (slotKey n 2 slot)).order ≠ 0)) ∧
    (∃ (s : State) (values : List (Nat × Nat)) (sens : List SensOut) (c : GridCycle), (s.pra.cycle = some c) ∧ (s.engineUp 0 = true)) ∧
    (∃ (s : State) (fit : Bool) (d : Desc), (s.running 100 1 = some d) ∧ ((dropDesc d (s.ring 100).taken).find? (fun x => x.running && decide (x.op = 1)) = none) ∧ (d.le 24 8 % 4096 = 0) ∧ (inDramRange s.code (d.le 24 8) (max (d.le 32 8) 256) = true)) ∧
    (∃ (s : State) (fit : Bool) (d : Desc), (s.running 100 1 = some d) ∧ ((dropDesc d (s.ring 100).taken).find? (fun x => x.running && decide (x.op = 1)) = none)) ∧
    (∃ (s : State) (res : Bool) (d : Desc), (s.running 100 2 = some d) ∧ (d.le 16 1 = 0)) ∧
    (∃ (s : State) (res : Bool) (d : Desc), (s.running 100 2 = some d) ∧ (d.le 16 1 = 1)) ∧
    (∃ (s : State) (d : Desc), (s.running 100 0x10 = some d) ∧ (d.le 24 8 % 64 = 0) ∧ (s.memOk (d.le 24 8) 128 = true) ∧ (s.code.hasSensor (d.le 16 1) = true) ∧ (s.mem.poisoned (d.le 24 8) 128 = false)) ∧
    (∃ (s : State) (d : Desc), (s.running 100 0x11 = some d) ∧ (d.le 24 8 % 64 = 0) ∧ (s.memOk (d.le 24 8) 128 = true) ∧ (s.code.hasSensor (d.le 16 1) = true)) ∧
    (∃ (s : State) (d : Desc), (s.running 100 0x12 = some d) ∧ (d.le 16 1 ≤ 1) ∧ (d.le 20 4 < 65536) ∧ ((List.range 16).all (fun n => !bitAt (d.le 20 4) n || s.code.hasSensor n) = true) ∧ (s.on (F.HLT_TOKc_HELD 3) = false) ∧ ((s.token 3).waits = [])) ∧
    (∃ (s : State) (d : Desc), (s.running 100 0x13 = some d) ∧ (s.code.hasSensor (d.le 16 1) = true)) ∧
    (∃ (s : State) (d : Desc), (s.running 100 0x14 = some d) ∧ (s.code.hasSensor (d.le 16 1) = true)) :=
  ⟨⟨gridOn up, 0, [(0, 100)], aNet, by decide +kernel⟩,
   ⟨pra (fun p => { p with cycle := some aCycle }) (gridOn up), 0, [], aCycle, by decide +kernel⟩,
   ⟨(paces up).setSensor 3 { ready := some ⟨5, 0, 0, 0, 0, []⟩ }, 0, [], aNet, by decide +kernel⟩,
   ⟨later 900000000 (paces up), 0, [], aNet, by decide +kernel⟩,
   ⟨pra (fun p => { p with run := some (1, ⟨5, 0, 0, 0, 0, []⟩) }) seen, 3, 1, 40, aNet, by decide +kernel⟩,
   ⟨seen, 3, 1, 40, aNet, by decide +kernel⟩,
   ⟨pra (fun p => { p with run := some (1, ⟨5, 0, 0, 0, 0, []⟩) }) seen, 3, 1, 40, 70, 1, aNet, ⟨5, 0, 0, 0, 0, []⟩, by decide +kernel⟩,
   ⟨{ seen with cam := { seen.cam with slots := [(slotKey 3 2 1, ⟨5, 8, 1, 16⟩)] } }, 3, 1, 40, aNet, by decide +kernel⟩,
   ⟨pra (fun p => { p with cycle := some aCycle, grids := 2 ^ 32 }) (gridOn up), [(5, 1)], [], aCycle, by decide +kernel⟩,
   ⟨run 100 101 1 [] up, true, desc 1 101 [], by decide +kernel⟩,
   ⟨run 100 101 1 [] up, true, desc 1 101 [], by decide +kernel⟩,
   ⟨run 100 101 2 [0] (gridOn up), true, desc 2 101 [0], by decide +kernel⟩,
   ⟨run 100 101 2 [1] (pra (fun p => { p with loaded := some aNet }) up), true, desc 2 101 [1], by decide +kernel⟩,
   ⟨run 100 101 0x10 [12] { up with mem := up.mem.writeBytes 0 ([2] ++ leBytes 59 0 ++ leBytes 4 (2 ^ 30) ++ leBytes 64 0) }, desc 0x10 101 [12], by decide +kernel⟩,
   ⟨run 100 101 0x11 [3] up, desc 0x11 101 [3], by decide +kernel⟩,
   ⟨run 100 101 0x12 [1, 0, 0, 0, 0x08, 0x10] up, desc 0x12 101 [1, 0, 0, 0, 0x08, 0x10], by decide +kernel⟩,
   ⟨run 100 101 0x13 [15] (up.setSensor 15 { excluded := true }), desc 0x13 101 [15], by decide +kernel⟩,
   ⟨run 100 101 0x14 [15] up, desc 0x14 101 [15], by decide +kernel⟩⟩

theorem test_hyps_PrairieProductCommandsComplete :
    (∃ (s : State) (rows : List TrackRow) (g : GridRef) (net : Net), (s.pra.grid = some g) ∧ (s.pra.net = some net) ∧ (net.mode4 = true) ∧ (s.engineUp 0 = true) ∧ (s.prod.updated ≠ some g.gseq)) ∧
    (∃ (s : State) (a : Agent), (s.accepts a 0x18 0xA24 = true)) ∧
    (∃ (s : State) (md : Bool) (rho conf : List (Nat × Nat)) (po : List Nat) (steps us : Nat), (s.engineUp 0 = true) ∧ (s.on F.PRA_FCCTL_EN = true) ∧ (s.now % 20000000 = s.rd F.PRA_FCCTL_FCOFF * 1000) ∧ (s.pra.net.map (fun n => n.mode5) = some true)) ∧
    (∃ (s : State) (md : Bool) (rho conf : List (Nat × Nat)) (po : List Nat) (steps us : Nat), (s.engineUp 0 = true) ∧ (s.on F.PRA_FCCTL_EN = true) ∧ (s.now % 20000000 = s.rd F.PRA_FCCTL_FCOFF * 1000) ∧ (s.pra.net.map (fun n => n.mode5) = some true) ∧ (0 < steps) ∧ (s.inboundRoom false 1 = true)) ∧
    (∃ (s : State) (md : Bool) (rho conf : List (Nat × Nat)) (po : List Nat) (steps us : Nat), (s.engineUp 0 = true) ∧ (s.on F.PRA_FCCTL_EN = true) ∧ (s.now % 20000000 = s.rd F.PRA_FCCTL_FCOFF * 1000) ∧ (s.pra.net.map (fun n => n.mode5) = some true) ∧ (s.prod.fc = none) ∧ (0 < steps) ∧ (s.inboundRoom false 1 = false)) ∧
    (∃ (s : State) (pos tray k : Nat) (r : Reading), (s.engineUp 0 = true) ∧ (s.on F.PRA_YLDCTL_EN = true) ∧ (s.nextSample = some (pos, tray, k)) ∧ (s.logReading (s.rd F.PRA_YLDSRC_MSTREAM) (pos, tray, k) = some r)) ∧
    (∃ (s : State) (pos tray k : Nat) (r : Reading), (s.engineUp 0 = true) ∧ (s.on F.PRA_YLDCTL_EN = true) ∧ (s.nextSample = some (pos, tray, k)) ∧ (s.logReading (s.rd F.PRA_YLDSRC_MSTREAM) (pos, tray, k) = some r) ∧ (r.poison = false) ∧ ((bracket (s.cutTime r.stamp) s.poses).1 = none)) ∧
    (∃ (s : State) (pos tray k : Nat) (r : Reading) (te tn : Int), (s.engineUp 0 = true) ∧ (s.on F.PRA_YLDCTL_EN = true) ∧ (s.nextSample = some (pos, tray, k)) ∧ (s.logReading (s.rd F.PRA_YLDSRC_MSTREAM) (pos, tray, k) = some r) ∧ (r.poison = false) ∧ ((bracket (s.cutTime r.stamp) s.poses).1.isSome = true) ∧ ((s.yieldCells (s.cutTime r.stamp)).all (fun c => decide (c.1 / 128 = te ∧ c.2 / 128 = tn)) = true) ∧ (s.prod.tiles.length < 16 ∨ s.prod.tiles.any (fun x => decide (x.te = te ∧ x.tn = tn)) = true)) ∧
    (∃ (s : State) (te tn : Int) (x : Tile), (s.engineUp 0 = true) ∧ (s.prod.tiles.find? (fun y => decide (y.te = te ∧ y.tn = tn)) = some x) ∧ (x.tlast + s.rd F.PRA_YLDCTL_TCLOSE * 10000000000 ≤ s.now)) ∧
    (∃ (s : State) (a : Agent), (s.accepts a 0x18 0xC48 = true) ∧ ((s.rd F.PRA_YLDWPOS_POS + 2 ^ 32 - s.rd F.PRA_YLDRPOS_POS) % 2 ^ 32 + s.prod.tiles.length ≤ 2 ^ s.rd F.PRA_YLDCTL_YLOG2)) ∧
    (∃ (s : State) (a : Agent), (s.accepts a 0x18 0xC48 = true) ∧ (s.prod.tiles ≠ []) ∧ (2 ^ s.rd F.PRA_YLDCTL_YLOG2 ≤ (s.rd F.PRA_YLDWPOS_POS + 2 ^ 32 - s.rd F.PRA_YLDRPOS_POS) % 2 ^ 32)) ∧
    (∃ (s : State) (a : Agent) (v : W32), (s.accepts a 0x18 0xC30 = true)) :=
  ⟨⟨(pra (fun p => { p with grid := some aGrid }) (gridOn up)).wr F.PRA_TRKCTL_EN 1, [⟨1024, [0x3F80, 0x3F80, 0x3F00], [], false, false⟩], aGrid, aNet, by decide +kernel⟩,
   ⟨up, .daleB, by decide +kernel⟩,
   ⟨pra (fun p => { p with net := some { aNet with mode5 := true } }) ((gridOn up).wr F.PRA_FCCTL_EN 1), true, [], [], [], 3, 10, by decide +kernel⟩,
   ⟨pra (fun p => { p with net := some { aNet with mode5 := true } }) ((gridOn up).wr F.PRA_FCCTL_EN 1), true, [], [], [], 3, 10, by decide +kernel⟩,
   ⟨full (pra (fun p => { p with net := some { aNet with mode5 := true } }) ((gridOn up).wr F.PRA_FCCTL_EN 1)), true, [], [], [], 3, 10, by decide +kernel⟩,
   ⟨sampled, 0, 0, 0, aReading, by decide +kernel⟩,
   ⟨sampled, 0, 0, 0, aReading, by decide +kernel⟩,
   ⟨posed, 0, 0, 0, aReading, 0, 0, by decide +kernel⟩,
   ⟨later (10 ^ 13) (prod (fun p => { p with tiles := [aTile] }) up), 0, 0, aTile, by decide +kernel⟩,
   ⟨prod (fun p => { p with tiles := [aTile] }) up, .daleA, by decide +kernel⟩,
   ⟨(prod (fun p => { p with tiles := [aTile] }) up).wr F.PRA_YLDWPOS_POS 0x80000000, .daleA, by decide +kernel⟩,
   ⟨up.wr F.PRA_YLDWPOS_POS 7, .terrace, 7, by decide +kernel⟩⟩

theorem test_hyps_SatelliteCommandsComplete :
    (∃ (s : State) (u ant sys sv sig : Nat) (k : Int) (found : Bool) (sky : List Sat), (s.gnsRuns = true) ∧ (u < s.code.gnsUnits) ∧ (signalOk sys sig k = true) ∧ (SMap.get (fun _ => none) s.gns.search u = none) ∧ (s.on F.SDL_STAT_TCXOLOSS = false) ∧ (s.searchFirst sky ⟨ant, sys, sv, sig⟩ = true)) ∧
    (∃ (s : State) (u ant sys sv sig : Nat) (k : Int) (found : Bool) (sky : List Sat) (e : Nat), (s.gnsRuns = true) ∧ (u < s.code.gnsUnits) ∧ (signalOk sys sig k = true) ∧ (SMap.get (fun _ => none) s.gns.search u = some (⟨ant, sys, sv, sig⟩, k, e)) ∧ (e ≤ s.now)) ∧
    (∃ (s : State) (ch : Nat) (l : List Nat), (s.gnsRuns = true) ∧ (ch < s.code.gnsChannels) ∧ (s.chanState ch = 1 ∨ s.chanState ch = 3) ∧ (s.antAllows (s.chanKey ch) = true)) ∧
    (∃ (s : State) (ch : Nat), (s.gnsRuns = true) ∧ (ch < s.code.gnsChannels) ∧ (s.chanState ch = 2)) ∧
    (∃ (s : State) (ch : Nat) (low : Bool), (s.gnsRuns = true) ∧ (ch < s.code.gnsChannels) ∧ (s.chanState ch = 1) ∧ ((s.gnsChan ch).since + 200000000 ≤ s.now)) ∧
    (∃ (s : State) (ch : Nat) (low : Bool), (s.gnsRuns = true) ∧ (ch < s.code.gnsChannels) ∧ (s.chanState ch ≠ 0) ∧ (low = true ∨ (s.chanState ch = 3 ∧ (s.gnsChan ch).lostAt + 10000000000 ≤ s.now))) ∧
    (∃ (s : State) (a ma : Nat), (s.canopyOn = true) ∧ (a < s.code.antennas) ∧ (s.on (F.GNS_ANTa_CTL_FEED a) = true) ∧ (s.rd (F.GNS_ANTa_STAT_FEEDST a) ≠ 3)) ∧
    (∃ (s : State) (a : Nat), (s.canopyOn = true) ∧ (a < s.code.antennas) ∧ (s.on (F.GNS_ANTa_CTL_FEED a) = true) ∧ (s.rd (F.GNS_ANTa_STAT_FEEDST a) = 3) ∧ (SMap.get (fun _ => 0) s.gns.feedOff a + 1000000000 ≤ s.now)) ∧
    (∃ (s : State) (tepoch : Nat) (e : EpochIn), (s.gnsRuns = true) ∧ (s.isEpoch tepoch = true)) ∧
    (∃ (s : State) (stamp gps sig : Nat) (r : Int), (s.gnsRuns = true) ∧ (s.on F.GNS_RUN_MARK = true) ∧ (s.on F.GNS_STAT_FIX = true) ∧ (5 ≤ s.rd F.GNS_FIX_NSV) ∧ (s.gns.rms ≤ 10000) ∧ (gps % 1000000000 = 0) ∧ (s.gns.markGps < gps)) ∧
    (∃ (s : State) (m : Nat), (s.gnsRuns = true) ∧ (s.on F.GNS_RUN_MARK = true) ∧ (s.gns.lastMark = some m) ∧ (m + 3000000000 ≤ s.now)) :=
  ⟨⟨gnsOn up, 15, 0, 0, 5, 0, 0, true, [⟨0, 5, 40⟩], by decide +kernel⟩,
   ⟨later 80000000 (gns (fun g => { g with search := [(15, some (⟨0, 0, 5, 0⟩, 0, 70000000))] }) (gnsOn up)), 15, 0, 0, 5, 0, 0, true, [], 70000000, by decide +kernel⟩,
   ⟨(gnsOn up).wr (chpState 383) 1, 383, [1, 2], by decide +kernel⟩,
   ⟨(gnsOn up).wr (chpState 383) 2, 383, by decide +kernel⟩,
   ⟨later 10000000000 ((gnsOn up).wr (chpState 383) 1), 383, false, by decide +kernel⟩,
   ⟨later 10000000000 ((gnsOn up).wr (chpState 383) 3), 383, false, by decide +kernel⟩,
   ⟨(later 8 up).wr (F.GNS_ANTa_CTL_FEED 1) 1, 1, 150, by decide +kernel⟩,
   ⟨((later 1000000000 up).wr (F.GNS_ANTa_CTL_FEED 1) 1).wr (F.GNS_ANTa_STAT_FEEDST 1) 3, 1, by decide +kernel⟩,
   ⟨gnsOn up, 0, epoch0, by decide +kernel⟩,
   ⟨(((gnsOn up).wr F.GNS_RUN_MARK 1).wr F.GNS_STAT_FIX 1).wr F.GNS_FIX_NSV 5, 8, 2000000000, 3, 0, by decide +kernel⟩,
   ⟨later 3000000008 (gns (fun g => { g with lastMark := some 8 }) ((gnsOn up).wr F.GNS_RUN_MARK 1)), 8, by decide +kernel⟩⟩

theorem test_hyps_AidAndGuidanceCommandsComplete :
    (∃ (s : State) (d : Desc), (s.running 88 1 = some d)) ∧
    (∃ (s : State) (d : Desc), (s.running 88 2 = some d)) ∧
    (∃ (s : State) (d : Desc), (s.running 88 4 = some d)) ∧
    (∃ (s : State) (d : Desc) (pos y : Nat) (fr : Bytes), (s.running 88 3 = some d) ∧ (d.le 24 8 % 64 = 0) ∧ (inDramRange s.code (d.le 24 8) (d.le 32 4) = true ∨ inBedRange (d.le 24 8) (d.le 32 4) = true) ∧ (s.mem.poisoned (d.le 24 8) (d.le 32 4) = false) ∧ (rtcmFrames (d.le 32 4) 0 (s.mem.readBytes (d.le 24 8) (d.le 32 4)) = [(pos, fr, true)]) ∧ (s.mem.poisoned (d.le 24 8 + pos) fr.length = false) ∧ (ephSystem (bitsMsb fr 24 12) = some y)) ∧
    (∃ (s : State) (d : Desc), (s.running 88 3 = some d) ∧ (d.le 24 8 % 64 = 0) ∧ (inDramRange s.code (d.le 24 8) (d.le 32 4) = true ∨ inBedRange (d.le 24 8) (d.le 32 4) = true) ∧ ((rtcmFrames (d.le 32 4) 0 (s.mem.readBytes (d.le 24 8) (d.le 32 4))).all (fun f => !f.2.2 || s.mem.poisoned (d.le 24 8 + f.1) f.2.1.length || (ephSystem (bitsMsb f.2.1 24 12)).isNone) = true)) ∧
    (∃ (s : State) (d : Desc), (s.running 88 5 = some d) ∧ (d.le 24 8 % 64 = 0) ∧ (inDramRange s.code (d.le 24 8) (d.le 32 4) = true ∨ inBedRange (d.le 24 8) (d.le 32 4) = true)) ∧
    (∃ (s : State) (d : Desc), (s.running 88 6 = some d) ∧ (d.le 16 1 ≤ 2)) ∧
    (∃ (s : State) (g : GuideIn) (dale : Agent) (c : GuideCfg), (s.carrier = some dale) ∧ (s.canopyOn = true) ∧ ((s.gfRead).gns.guide.cfg = some c)) :=
  ⟨⟨run 88 89 1 [1] up, desc 1 89 [1], by decide +kernel⟩,
   ⟨run 88 89 2 [1] up, desc 2 89 [1], by decide +kernel⟩,
   ⟨run 88 89 4 [0, 0, 0, 0, 1] up, desc 4 89 [0, 0, 0, 0, 1], by decide +kernel⟩,
   ⟨run 88 89 3 [0, 0, 0, 0, 0, 0, 0, 0, 0, 0x10, 0, 0, 0, 0, 0, 0, 12] { up with mem := up.mem.writeBytes 0x1000 eph19 }, desc 3 89 [0, 0, 0, 0, 0, 0, 0, 0, 0, 0x10, 0, 0, 0, 0, 0, 0, 12], 0, 0, eph19, by decide +kernel⟩,
   ⟨run 88 89 3 [0, 0, 0, 0, 0, 0, 0, 0, 0, 0x10, 0, 0, 0, 0, 0, 0, 12] { up with mem := { up.mem.writeBytes 0x1000 eph19 with poison := [0x1000] } }, desc 3 89 [0, 0, 0, 0, 0, 0, 0, 0, 0, 0x10, 0, 0, 0, 0, 0, 0, 12], by decide +kernel⟩,
   ⟨run 88 89 5 [] (gns (fun g => { g with ephs := [⟨0, 5, eph19, 8⟩] }) up), desc 5 89 [], by decide +kernel⟩,
   ⟨run 88 89 6 [1] (gns (fun g => { g with ephs := [⟨0, 5, eph19, 8⟩], timeAid := some (1, 2, 3) }) up), desc 6 89 [1], by decide +kernel⟩,
   ⟨guided, guide0, .daleA, aGuide, by decide +kernel⟩⟩

theorem test_hyps_TrellisCommandsComplete :
    (∃ (s : State) (n ts tout : Nat), (s.bedOn = true) ∧ (n < s.code.loops) ∧ (ts ≤ s.now) ∧ (s.now ≤ tout) ∧ (s.dueAt n ts = true) ∧ ((List.range n).any (fun m => s.dueAt m ts) = false) ∧ (ts = s.now → s.switchDue = none)) ∧
    (∃ (s : State) (a : Agent) (n : Nat) (v : W32), (n < 64) ∧ (s.accepts a 0x09 (0x800 + 0x20 * n) = true) ∧ (getBits v 30 28 ≤ 2) ∧ (getBits v 23 20 ≤ 12) ∧ (s.loopOn n = false) ∧ (s.loopCause n (setBits v 31 31 1) = 0)) ∧
    (∃ (s : State) (a : Agent) (n : Nat), (n < 64) ∧ (s.accepts a 0x09 (0x800 + 0x20 * n) = true) ∧ (s.rd (F.TRL_Ln_CTL_MODE n) ≤ 2) ∧ (s.rd (F.TRL_Ln_CTL_LOGDEC n) ≤ 12) ∧ (s.loopOn n = true)) ∧
    (∃ (s : State) (a : Agent) (n mode : Nat), (n < 64) ∧ (s.accepts a 0x09 (0x800 + 0x20 * n) = true) ∧ (mode ≤ 2) ∧ (s.rd (F.TRL_Ln_CTL_LOGDEC n) ≤ 12) ∧ (s.loopOn n = true) ∧ (mode = 2 → (s.outerOf n).isSome = true)) ∧
    (∃ (s : State) (q : Nat) (d : Desc), (trlRing q = true) ∧ (s.running q 1 = some d) ∧ (d.le 24 8 % 64 = 0) ∧ (inBedRange (d.le 24 8) 128 = true) ∧ (s.mem.poisoned (d.le 24 8) 128 = false) ∧ (recordOk (s.mem.readBytes (d.le 24 8) 128) = true) ∧ (d.le 16 1 < s.code.loops) ∧ (leAt (s.mem.readBytes (d.le 24 8) 128) 1 1 = d.le 16 1) ∧ (s.srcOk ({ raw := s.mem.readBytes (d.le 24 8) 128 } : Loop).msrc ({ raw := s.mem.readBytes (d.le 24 8) 128 } : Loop).ffsrc = true) ∧ (s.loopOn (d.le 16 1) = true → ({ raw := s.mem.readBytes (d.le 24 8) 128 } : Loop).outdst = (s.loop (d.le 16 1)).outdst) ∧ (s.loopOn (d.le 16 1) = true → s.cascBad (d.le 16 1) ({ raw := s.mem.readBytes (d.le 24 8) 128 } : Loop).outdst (s.rd (F.TRL_Ln_CTL_PERIOD (d.le 16 1))) (s.rd (F.TRL_Ln_PHASE_PHASE (d.le 16 1))) = false)) ∧
    (∃ (s : State) (q : Nat) (d : Desc), (trlRing q = true) ∧ (s.running q 2 = some d) ∧ (d.le 16 1 < s.code.loops) ∧ (d.le 17 1 ≤ 2) ∧ (s.loopOn (d.le 16 1) = true → d.le 17 1 = 2 → (s.outerOf (d.le 16 1)).isSome = true)) ∧
    (∃ (s : State) (q : Nat) (d : Desc), (trlRing q = true) ∧ (s.running q 3 = some d) ∧ (s.trlDest (d.le 16 1) (d.le 24 8) 128 = 0)) ∧
    (∃ (s : State) (q : Nat) (d : Desc), (trlRing q = true) ∧ (s.running q 4 = some d) ∧ (s.trlDest (d.le 16 1) (d.le 24 8) 64 = 0)) ∧
    (∃ (s : State) (n word : Nat) (corr : Bool), (s.bedOn = true) ∧ (n < s.code.loops)) :=
  ⟨⟨loop5 (later 1000000 up), 5, 1000000, 1000400, by decide +kernel⟩,
   ⟨((up.setLoop 63 { raw := parRec }).wr (F.TRL_Ln_STAT_PARVALID 63) 1).wr F.TRL_SPBASEB_OFF 1, .trellisSeq, 63, 0x000003E8, by decide +kernel⟩,
   ⟨loop5 up, .trellisSeq, 5, by decide +kernel⟩,
   ⟨loop5 up, .trellisSeq, 5, 1, by decide +kernel⟩,
   ⟨run 8 9 1 parArgs parMem, 8, desc 1 9 parArgs, by decide +kernel⟩,
   ⟨run 14 15 2 [5, 1] (loop5 up), 14, desc 2 15 [5, 1], by decide +kernel⟩,
   ⟨run 14 15 3 [5, 0, 0, 0, 0, 0, 0, 0, 0, 0, 0, 0, 0xF0] up, 14, desc 3 15 [5, 0, 0, 0, 0, 0, 0, 0, 0, 0, 0, 0, 0xF0], by decide +kernel⟩,
   ⟨run 14 15 4 [5, 0, 0, 0, 0, 0, 0, 0, 0, 0, 0, 0, 0xF0] up, 14, desc 4 15 [5, 0, 0, 0, 0, 0, 0, 0, 0, 0, 0, 0, 0xF0], by decide +kernel⟩,
   ⟨loop5 up, 5, 3, false, by decide +kernel⟩⟩

theorem test_hyps_FurrowCommandsComplete :
    (∃ (s : State) (p : Prog), (s.bedOn = true) ∧ (s.furDue = true) ∧ (s.switchDue = none) ∧ (s.furState = 1) ∧ (s.on F.FUR_RUN_EN = true) ∧ (s.fur.scan = none) ∧ (s.fur.act = none) ∧ (s.fur.active = some p)) ∧
    (∃ (s : State) (p : Prog) (sc : Scan) (e : Nat), (s.bedOn = true) ∧ (s.furDue = true) ∧ (s.switchDue = none) ∧ (s.furState = 1) ∧ (s.on F.FUR_RUN_EN = true) ∧ (s.fur.scan = some sc) ∧ (sc.ended = some e) ∧ (s.fur.act = none) ∧ (s.fur.active = some p)) ∧
    (∃ (s : State) (sc : Scan), (s.bedOn = true) ∧ (s.furDue = true) ∧ (s.switchDue = none) ∧ (s.furState = 1) ∧ (s.fur.scan = some sc) ∧ (sc.ended = none) ∧ (sc.overrun = false)) ∧
    (∃ (s : State) (sc : Scan) (p : Prog), (s.bedOn = true) ∧ (s.furDue = true) ∧ (s.switchDue = none) ∧ (s.furState = 1) ∧ (s.on F.FUR_RUN_EN = true) ∧ (s.rd F.FUR_CTL_FAULTMAX = 0) ∧ (s.fur.scan = some sc) ∧ (sc.ended = none) ∧ (sc.overrun = true) ∧ (s.fur.act = none) ∧ (s.fur.active = some p)) ∧
    (∃ (s : State) (a : Agent) (v : W32), (s.accepts a 0x0A 0x00C = true) ∧ (s.on F.FUR_RUN_EN = false)) ∧
    (∃ (s : State) (a : Agent), (s.accepts a 0x0A 0x00C = true) ∧ (listedAt Reg.FUR_RUN (setBits (s.reg Reg.FUR_RUN) 31 31 0) = true)) ∧
    (∃ (s : State) (q : Nat) (d : Desc), (s.bedOn = true) ∧ (q = 24 ∨ q = 26) ∧ (nextWaiting s.fur.changes (s.ring q).taken q 1 = some d) ∧ (s.setvalStatus d = 0)) ∧
    (∃ (s : State) (q : Nat) (d : Desc), (s.bedOn = true) ∧ (q = 24 ∨ q = 26) ∧ (nextWaiting s.fur.changes (s.ring q).taken q 1 = some d) ∧ (s.setvalStatus d ≠ 0)) ∧
    (∃ (s : State) (q : Nat) (d : Desc), (s.bedOn = true) ∧ (q = 24 ∨ q = 26) ∧ (nextWaiting s.fur.reads (s.ring q).taken q 2 = some d)) ∧
    (∃ (s : State) (d : Desc), (s.bedOn = true) ∧ (s.running 30 0x10 = some d) ∧ (d.le 24 8 % 64 = 0) ∧ (inBedRange (d.le 24 8) (d.le 32 8) = true) ∧ (s.mem.poisoned (d.le 24 8) (d.le 32 8) = false)) ∧
    (∃ (s : State) (d : Desc) (p : Prog), (s.bedOn = true) ∧ (s.running 30 0x11 = some d) ∧ (s.fur.act = none) ∧ (s.fur.other = some p) ∧ (d.le 16 1 ≤ 1) ∧ (d.le 16 1 = 0 → s.fur.active.map (fun o => o.layout) = some p.layout)) :=
  ⟨⟨((furAt 0 aScan (later 1000000 up)).setFur { (furAt 0 aScan up).fur with scan := none, first := true }).wr F.FUR_RUN_CYCLE 500 |>.wr F.FUR_RUN_EN 1, aProg [0, 0x6F000000, 0, 0], by decide +kernel⟩,
   ⟨((furAt 0 { aScan with ended := some 16 } (later 1000000 up)).wr F.FUR_RUN_CYCLE 500).wr F.FUR_RUN_EN 1, aProg [0, 0x6F000000, 0, 0], { aScan with ended := some 16 }, 16, by decide +kernel⟩,
   ⟨(furAt 0 aScan (later 1000000 up)).wr F.FUR_RUN_CYCLE 500, aScan, by decide +kernel⟩,
   ⟨((furAt 0 { aScan with overrun := true } (later 1000000 up)).wr F.FUR_RUN_CYCLE 500 |>.wr F.FUR_RUN_EN 1).wr F.FUR_CTL_FAULTMAX 0, { aScan with overrun := true }, aProg [0, 0x6F000000, 0, 0], by decide +kernel⟩,
   ⟨({ up with fur := { up.fur with active := some (aProg [0x6F000000]) } }), .daleA, 500, by decide +kernel⟩,
   ⟨(furAt 0 aScan up).wr F.FUR_RUN_EN 1 |>.wr F.FUR_RUN_CYCLE 500, .daleA, by decide +kernel⟩,
   ⟨run 24 25 1 [1, 0, 5, 0, 0, 0, 0, 0, 0xFE, 0xFF, 0xFF, 0xFF, 0xFF, 0xFF, 0xFF, 0xFF] up, 24, desc 1 25 [1, 0, 5, 0, 0, 0, 0, 0, 0xFE, 0xFF, 0xFF, 0xFF, 0xFF, 0xFF, 0xFF, 0xFF], by decide +kernel⟩,
   ⟨run 24 25 1 [3] up, 24, desc 1 25 [3], by decide +kernel⟩,
   ⟨run 24 25 2 [1, 0, 0, 0, 2, 0, 0, 0, 0, 0, 0, 0, 0xF0] up, 24, desc 2 25 [1, 0, 0, 0, 2, 0, 0, 0, 0, 0, 0, 0, 0xF0], by decide +kernel⟩,
   ⟨run 30 31 0x10 [0, 0, 0, 0, 0, 0, 0, 0, 0, 0, 0, 0, 0xF0] ({ up with fur := { up.fur with other := some (aProg [0]) } }), desc 0x10 31 [0, 0, 0, 0, 0, 0, 0, 0, 0, 0, 0, 0, 0xF0], by decide +kernel⟩,
   ⟨run 30 31 0x11 [1] ({ up with fur := { up.fur with other := some (aProg [0]) } }), desc 0x11 31 [1], aProg [0], by decide +kernel⟩⟩

theorem test_hyps_FurrowFlagInstructionsComplete :
    (∃ (s : State) (sc : Scan), (s.scanAt (.furNop) sc = true)) ∧
    (∃ (s : State) (sc : Scan) (x : Bool) (f : Nat), (s.scanAt (.furLd x f) sc = true) ∧ (s.furClear 0 (sc.at x f) = true)) ∧
    (∃ (s : State) (sc : Scan) (x : Bool) (f : Nat), (s.scanAt (.furLdn x f) sc = true) ∧ (s.furClear 0 (sc.at x f) = true)) ∧
    (∃ (s : State) (sc : Scan) (x : Bool) (f : Nat), (s.scanAt (.furAnd x f) sc = true) ∧ (s.furClear 0 (sc.at x f) = true)) ∧
    (∃ (s : State) (sc : Scan) (x : Bool) (f : Nat), (s.scanAt (.furAndn x f) sc = true) ∧ (s.furClear 0 (sc.at x f) = true)) ∧
    (∃ (s : State) (sc : Scan) (x : Bool) (f : Nat), (s.scanAt (.furOr x f) sc = true) ∧ (s.furClear 0 (sc.at x f) = true)) ∧
    (∃ (s : State) (sc : Scan) (x : Bool) (f : Nat), (s.scanAt (.furOrn x f) sc = true) ∧ (s.furClear 0 (sc.at x f) = true)) ∧
    (∃ (s : State) (sc : Scan) (x : Bool) (f : Nat), (s.scanAt (.furXor x f) sc = true) ∧ (s.furClear 0 (sc.at x f) = true)) ∧
    (∃ (s : State) (sc : Scan) (x : Bool) (f : Nat), (s.scanAt (.furSt x f) sc = true) ∧ (sc.at x f < 8192)) ∧
    (∃ (s : State) (sc : Scan) (x : Bool) (f : Nat), (s.scanAt (.furStn x f) sc = true) ∧ (sc.at x f < 8192)) ∧
    (∃ (s : State) (sc : Scan) (x : Bool) (f : Nat), (s.scanAt (.furSet x f) sc = true) ∧ (sc.at x f < 8192)) ∧
    (∃ (s : State) (sc : Scan) (x : Bool) (f : Nat), (s.scanAt (.furRst x f) sc = true) ∧ (sc.at x f < 8192)) ∧
    (∃ (s : State) (sc : Scan), (s.scanAt (.furNot) sc = true)) ∧
    (∃ (s : State) (sc : Scan) (bit : Bool), (s.scanAt (.furLda bit) sc = true)) ∧
    (∃ (s : State) (sc : Scan) (op : Nat), (s.scanAt (.furOpen op) sc = true) ∧ (sc.stack.length < 16)) ∧
    (∃ (s : State) (sc : Scan) (v : Bool) (op : Nat) (r : List (Bool × Nat)), (s.scanAt (.furClose) sc = true) ∧ (sc.stack = (v, op) :: r) ∧ (op ≤ 2)) ∧
    (∃ (s : State) (sc : Scan) (x : Bool) (e : Nat), (s.scanAt (.furFp x e) sc = true) ∧ (s.furClear 4 (sc.at x e) = true)) ∧
    (∃ (s : State) (sc : Scan) (x : Bool) (e : Nat), (s.scanAt (.furFn x e) sc = true) ∧ (s.furClear 4 (sc.at x e) = true)) :=
  ⟨⟨furAt ((furEncode .furNop).get!) ({ aScan with a := true, w := 7 }) (up), { aScan with a := true, w := 7 }, by decide +kernel⟩,
   ⟨furAt ((furEncode (.furLd (true) (8000))).get!) ({ aScan with a := true, x := 191 }) (up), { aScan with a := true, x := 191 }, true, 8000, by decide +kernel⟩,
   ⟨furAt ((furEncode (.furLdn (true) (8000))).get!) ({ aScan with a := true, x := 191 }) (up), { aScan with a := true, x := 191 }, true, 8000, by decide +kernel⟩,
   ⟨furAt ((furEncode (.furAnd (true) (8000))).get!) ({ aScan with a := true, x := 191 }) (up), { aScan with a := true, x := 191 }, true, 8000, by decide +kernel⟩,
   ⟨furAt ((furEncode (.furAndn (true) (8000))).get!) ({ aScan with a := true, x := 191 }) (up), { aScan with a := true, x := 191 }, true, 8000, by decide +kernel⟩,
   ⟨furAt ((furEncode (.furOr (true) (8000))).get!) ({ aScan with a := true, x := 191 }) (up), { aScan with a := true, x := 191 }, true, 8000, by decide +kernel⟩,
   ⟨furAt ((furEncode (.furOrn (true) (8000))).get!) ({ aScan with a := true, x := 191 }) (up), { aScan with a := true, x := 191 }, true, 8000, by decide +kernel⟩,
   ⟨furAt ((furEncode (.furXor (true) (8000))).get!) ({ aScan with a := true, x := 191 }) (up), { aScan with a := true, x := 191 }, true, 8000, by decide +kernel⟩,
   ⟨furAt ((furEncode (.furSt (false) (8191))).get!) ({ aScan with a := true, w := 7 }) (up), { aScan with a := true, w := 7 }, false, 8191, by decide +kernel⟩,
   ⟨furAt ((furEncode (.furStn (false) (8191))).get!) ({ aScan with a := true, w := 7 }) (up), { aScan with a := true, w := 7 }, false, 8191, by decide +kernel⟩,
   ⟨furAt ((furEncode (.furSet (false) (8191))).get!) ({ aScan with a := true, w := 7 }) (up), { aScan with a := true, w := 7 }, false, 8191, by decide +kernel⟩,
   ⟨furAt ((furEncode (.furRst (false) (8191))).get!) ({ aScan with a := true, w := 7 }) (up), { aScan with a := true, w := 7 }, false, 8191, by decide +kernel⟩,
   ⟨furAt ((furEncode .furNot).get!) ({ aScan with a := true, w := 7 }) (up), { aScan with a := true, w := 7 }, by decide +kernel⟩,
   ⟨furAt ((furEncode (.furLda (true))).get!) ({ aScan with a := true, w := 7 }) (up), { aScan with a := true, w := 7 }, true, by decide +kernel⟩,
   ⟨furAt ((furEncode (.furOpen (2))).get!) ({ aScan with a := true, w := 7 }) (up), { aScan with a := true, w := 7 }, 2, by decide +kernel⟩,
   ⟨furAt ((furEncode .furClose).get!) ({ aScan with a := true, stack := [(true, 2)] }) (up), { aScan with a := true, stack := [(true, 2)] }, true, 2, [], by decide +kernel⟩,
   ⟨furAt ((furEncode (.furFp (false) (2047))).get!) ({ aScan with a := true, w := 7 }) (up), { aScan with a := true, w := 7 }, false, 2047, by decide +kernel⟩,
   ⟨furAt ((furEncode (.furFn (false) (2047))).get!) ({ aScan with a := true, w := 7 }) (up), { aScan with a := true, w := 7 }, false, 2047, by decide +kernel⟩⟩

theorem test_hyps_FurrowWordInstructionsComplete :
    (∃ (s : State) (sc : Scan) (x : Bool) (i : Nat), (s.scanAt (.furLdw x i) sc = true) ∧ (s.furClear 1 (sc.at x i) = true)) ∧
    (∃ (s : State) (sc : Scan) (imm : Int), (s.scanAt (.furLdi imm) sc = true)) ∧
    (∃ (s : State) (sc : Scan) (x : Bool) (i : Nat), (s.scanAt (.furStw x i) sc = true) ∧ (sc.at x i < 2048) ∧ ((s.fur.active.map (fun p => p.isConst (sc.at x i))).getD false = false)) ∧
    (∃ (s : State) (sc : Scan) (x : Bool) (i : Nat), (s.scanAt (.furStwc x i) sc = true) ∧ (sc.at x i < 2048) ∧ (sc.a = true → (s.fur.active.map (fun p => p.isConst (sc.at x i))).getD false = false)) ∧
    (∃ (s : State) (sc : Scan) (x : Bool) (i : Nat), (s.scanAt (.furAddw x i) sc = true) ∧ (s.furClear 1 (sc.at x i) = true)) ∧
    (∃ (s : State) (sc : Scan) (x : Bool) (i : Nat), (s.scanAt (.furSubw x i) sc = true) ∧ (s.furClear 1 (sc.at x i) = true)) ∧
    (∃ (s : State) (sc : Scan) (x : Bool) (i : Nat), (s.scanAt (.furMulw x i) sc = true) ∧ (s.furClear 1 (sc.at x i) = true)) ∧
    (∃ (s : State) (sc : Scan) (x : Bool) (i : Nat), (s.scanAt (.furDivw x i) sc = true) ∧ (s.furClear 1 (sc.at x i) = true) ∧ (s.furWord (sc.at x i) ≠ 0)) ∧
    (∃ (s : State) (sc : Scan) (imm : Int), (s.scanAt (.furAddi imm) sc = true)) ∧
    (∃ (s : State) (sc : Scan) (x : Bool) (i : Nat), (s.scanAt (.furMinw x i) sc = true) ∧ (s.furClear 1 (sc.at x i) = true)) ∧
    (∃ (s : State) (sc : Scan) (x : Bool) (i : Nat), (s.scanAt (.furMaxw x i) sc = true) ∧ (s.furClear 1 (sc.at x i) = true)) ∧
    (∃ (s : State) (sc : Scan) (x : Bool) (i : Nat), (s.scanAt (.furAndw x i) sc = true) ∧ (s.furClear 1 (sc.at x i) = true)) ∧
    (∃ (s : State) (sc : Scan) (x : Bool) (i : Nat), (s.scanAt (.furOrw x i) sc = true) ∧ (s.furClear 1 (sc.at x i) = true)) ∧
    (∃ (s : State) (sc : Scan), (s.scanAt (.furNeg) sc = true)) ∧
    (∃ (s : State) (sc : Scan), (s.scanAt (.furAbs) sc = true)) ∧
    (∃ (s : State) (sc : Scan) (x : Bool) (i : Nat), (s.scanAt (.furCeq x i) sc = true) ∧ (s.furClear 1 (sc.at x i) = true)) ∧
    (∃ (s : State) (sc : Scan) (x : Bool) (i : Nat), (s.scanAt (.furCne x i) sc = true) ∧ (s.furClear 1 (sc.at x i) = true)) ∧
    (∃ (s : State) (sc : Scan) (x : Bool) (i : Nat), (s.scanAt (.furClt x i) sc = true) ∧ (s.furClear 1 (sc.at x i) = true)) ∧
    (∃ (s : State) (sc : Scan) (x : Bool) (i : Nat), (s.scanAt (.furCle x i) sc = true) ∧ (s.furClear 1 (sc.at x i) = true)) ∧
    (∃ (s : State) (sc : Scan) (x : Bool) (i : Nat), (s.scanAt (.furCgt x i) sc = true) ∧ (s.furClear 1 (sc.at x i) = true)) ∧
    (∃ (s : State) (sc : Scan) (x : Bool) (i : Nat), (s.scanAt (.furCge x i) sc = true) ∧ (s.furClear 1 (sc.at x i) = true)) ∧
    (∃ (s : State) (sc : Scan) (imm : Int), (s.scanAt (.furCeqi imm) sc = true)) ∧
    (∃ (s : State) (sc : Scan) (imm : Int), (s.scanAt (.furCnei imm) sc = true)) ∧
    (∃ (s : State) (sc : Scan) (imm : Int), (s.scanAt (.furClti imm) sc = true)) ∧
    (∃ (s : State) (sc : Scan) (imm : Int), (s.scanAt (.furClei imm) sc = true)) ∧
    (∃ (s : State) (sc : Scan) (imm : Int), (s.scanAt (.furCgti imm) sc = true)) ∧
    (∃ (s : State) (sc : Scan) (imm : Int), (s.scanAt (.furCgei imm) sc = true)) ∧
    (∃ (s : State) (sc : Scan) (n : Nat), (s.scanAt (.furLdte n) sc = true) ∧ (s.furClear 2 n = true)) ∧
    (∃ (s : State) (sc : Scan) (n : Nat), (s.scanAt (.furLdcv n) sc = true) ∧ (s.furClear 3 n = true)) ∧
    (∃ (s : State) (sc : Scan), (s.scanAt (.furLdx) sc = true)) :=
  ⟨⟨furAt ((furEncode (.furLdw (false) (2047))).get!) ({ aScan with w := 34359738367 }) (fword 2047 (-3) up), { aScan with w := 34359738367 }, false, 2047, by decide +kernel⟩,
   ⟨furAt ((furEncode (.furLdi (-524288))).get!) ({ aScan with a := true, w := 7 }) (up), { aScan with a := true, w := 7 }, -524288, by decide +kernel⟩,
   ⟨furAt ((furEncode (.furStw (false) (2047))).get!) ({ aScan with a := true, w := 7 }) (up), { aScan with a := true, w := 7 }, false, 2047, by decide +kernel⟩,
   ⟨furAt ((furEncode (.furStwc (false) (2047))).get!) ({ aScan with a := true, w := 7 }) (up), { aScan with a := true, w := 7 }, false, 2047, by decide +kernel⟩,
   ⟨furAt ((furEncode (.furAddw (false) (2047))).get!) ({ aScan with w := 34359738367 }) (fword 2047 (-3) up), { aScan with w := 34359738367 }, false, 2047, by decide +kernel⟩,
   ⟨furAt ((furEncode (.furSubw (false) (2047))).get!) ({ aScan with w := 34359738367 }) (fword 2047 (-3) up), { aScan with w := 34359738367 }, false, 2047, by decide +kernel⟩,
   ⟨furAt ((furEncode (.furMulw (false) (2047))).get!) ({ aScan with w := 34359738367 }) (fword 2047 (-3) up), { aScan with w := 34359738367 }, false, 2047, by decide +kernel⟩,
   ⟨furAt ((furEncode (.furDivw (false) (2047))).get!) ({ aScan with w := 34359738367 }) (fword 2047 (-3) up), { aScan with w := 34359738367 }, false, 2047, by decide +kernel⟩,
   ⟨furAt ((furEncode (.furAddi (524287))).get!) ({ aScan with w := 34359738367 }) (up), { aScan with w := 34359738367 }, 524287, by decide +kernel⟩,
   ⟨furAt ((furEncode (.furMinw (false) (2047))).get!) ({ aScan with w := 34359738367 }) (fword 2047 (-3) up), { aScan with w := 34359738367 }, false, 2047, by decide +kernel⟩,
   ⟨furAt ((furEncode (.furMaxw (false) (2047))).get!) ({ aScan with w := 34359738367 }) (fword 2047 (-3) up), { aScan with w := 34359738367 }, false, 2047, by decide +kernel⟩,
   ⟨furAt ((furEncode (.furAndw (false) (2047))).get!) ({ aScan with w := 34359738367 }) (fword 2047 (-3) up), { aScan with w := 34359738367 }, false, 2047, by decide +kernel⟩,
   ⟨furAt ((furEncode (.furOrw (false) (2047))).get!) ({ aScan with w := 34359738367 }) (fword 2047 (-3) up), { aScan with w := 34359738367 }, false, 2047, by decide +kernel⟩,
   ⟨furAt ((furEncode .furNeg).get!) ({ aScan with w := -34359738368 }) (up), { aScan with w := -34359738368 }, by decide +kernel⟩,
   ⟨furAt ((furEncode .furAbs).get!) ({ aScan with w := -34359738368 }) (up), { aScan with w := -34359738368 }, by decide +kernel⟩,
   ⟨furAt ((furEncode (.furCeq (false) (2047))).get!) ({ aScan with a := true, w := 7 }) (fword 2047 (-3) up), { aScan with a := true, w := 7 }, false, 2047, by decide +kernel⟩,
   ⟨furAt ((furEncode (.furCne (false) (2047))).get!) ({ aScan with a := true, w := 7 }) (fword 2047 (-3) up), { aScan with a := true, w := 7 }, false, 2047, by decide +kernel⟩,
   ⟨furAt ((furEncode (.furClt (false) (2047))).get!) ({ aScan with a := true, w := 7 }) (fword 2047 (-3) up), { aScan with a := true, w := 7 }, false, 2047, by decide +kernel⟩,
   ⟨furAt ((furEncode (.furCle (false) (2047))).get!) ({ aScan with a := true, w := 7 }) (fword 2047 (-3) up), { aScan with a := true, w := 7 }, false, 2047, by decide +kernel⟩,
   ⟨furAt ((furEncode (.furCgt (false) (2047))).get!) ({ aScan with a := true, w := 7 }) (fword 2047 (-3) up), { aScan with a := true, w := 7 }, false, 2047, by decide +kernel⟩,
   ⟨furAt ((furEncode (.furCge (false) (2047))).get!) ({ aScan with a := true, w := 7 }) (fword 2047 (-3) up), { aScan with a := true, w := 7 }, false, 2047, by decide +kernel⟩,
   ⟨furAt ((furEncode (.furCeqi (-524288))).get!) ({ aScan with a := true, w := 7 }) (up), { aScan with a := true, w := 7 }, -524288, by decide +kernel⟩,
   ⟨furAt ((furEncode (.furCnei (-524288))).get!) ({ aScan with a := true, w := 7 }) (up), { aScan with a := true, w := 7 }, -524288, by decide +kernel⟩,
   ⟨furAt ((furEncode (.furClti (-524288))).get!) ({ aScan with a := true, w := 7 }) (up), { aScan with a := true, w := 7 }, -524288, by decide +kernel⟩,
   ⟨furAt ((furEncode (.furClei (-524288))).get!) ({ aScan with a := true, w := 7 }) (up), { aScan with a := true, w := 7 }, -524288, by decide +kernel⟩,
   ⟨furAt ((furEncode (.furCgti (-524288))).get!) ({ aScan with a := true, w := 7 }) (up), { aScan with a := true, w := 7 }, -524288, by decide +kernel⟩,
   ⟨furAt ((furEncode (.furCgei (-524288))).get!) ({ aScan with a := true, w := 7 }) (up), { aScan with a := true, w := 7 }, -524288, by decide +kernel⟩,
   ⟨furAt ((furEncode (.furLdte (1023))).get!) ({ aScan with a := true, w := 7 }) (up), { aScan with a := true, w := 7 }, 1023, by decide +kernel⟩,
   ⟨furAt ((furEncode (.furLdcv (511))).get!) ({ aScan with a := true, w := 7 }) (up), { aScan with a := true, w := 7 }, 511, by decide +kernel⟩,
   ⟨furAt ((furEncode .furLdx).get!) ({ aScan with x := 5 }) (up), { aScan with x := 5 }, by decide +kernel⟩⟩

theorem test_hyps_FurrowTimersAndControlComplete :
    (∃ (s : State) (sc : Scan) (base count n : Nat), (s.scanAt (.furTon base count n) sc = true) ∧ (s.furClear 2 n = true) ∧ ((s.furCode (({ sc with pc := sc.pc + 1 } : Scan).passEnd).pc).isSome = true)) ∧
    (∃ (s : State) (sc : Scan) (base count n : Nat), (s.scanAt (.furTof base count n) sc = true) ∧ (s.furClear 2 n = true) ∧ ((s.furCode (({ sc with pc := sc.pc + 1 } : Scan).passEnd).pc).isSome = true)) ∧
    (∃ (s : State) (sc : Scan) (base count n : Nat), (s.scanAt (.furTp base count n) sc = true) ∧ (s.furClear 2 n = true) ∧ ((s.furCode (({ sc with pc := sc.pc + 1 } : Scan).passEnd).pc).isSome = true)) ∧
    (∃ (s : State) (sc : Scan) (word n : Nat), (s.scanAt (.furTonw word n) sc = true) ∧ (s.furClear 1 word = true) ∧ (s.furClear 2 n = true) ∧ ((s.furCode (({ sc with pc := sc.pc + 1 } : Scan).passEnd).pc).isSome = true)) ∧
    (∃ (s : State) (sc : Scan) (word n : Nat), (s.scanAt (.furTofw word n) sc = true) ∧ (s.furClear 1 word = true) ∧ (s.furClear 2 n = true) ∧ ((s.furCode (({ sc with pc := sc.pc + 1 } : Scan).passEnd).pc).isSome = true)) ∧
    (∃ (s : State) (sc : Scan) (word n : Nat), (s.scanAt (.furTpw word n) sc = true) ∧ (s.furClear 1 word = true) ∧ (s.furClear 2 n = true) ∧ ((s.furCode (({ sc with pc := sc.pc + 1 } : Scan).passEnd).pc).isSome = true)) ∧
    (∃ (s : State) (sc : Scan) (n : Nat), (s.scanAt (.furRstt n) sc = true)) ∧
    (∃ (s : State) (sc : Scan) (n : Nat), (s.scanAt (.furLdt n) sc = true) ∧ (s.furClear 2 n = true)) ∧
    (∃ (s : State) (sc : Scan) (word c : Nat), (s.scanAt (.furCtu word c) sc = true) ∧ (s.furClear 1 word = true) ∧ (s.furClear 3 c = true) ∧ (-2 ^ 35 ≤ (s.furCounter c).cv) ∧ ((s.furCounter c).cv < 2 ^ 35) ∧ ((s.furCode (({ sc with pc := sc.pc + 1 } : Scan).passEnd).pc).isSome = true)) ∧
    (∃ (s : State) (sc : Scan) (word c : Nat), (s.scanAt (.furCtd word c) sc = true) ∧ (s.furClear 1 word = true) ∧ (s.furClear 3 c = true) ∧ (-2 ^ 35 ≤ (s.furCounter c).cv) ∧ ((s.furCounter c).cv < 2 ^ 35) ∧ ((s.furCode (({ sc with pc := sc.pc + 1 } : Scan).passEnd).pc).isSome = true)) ∧
    (∃ (s : State) (sc : Scan) (c : Nat), (s.scanAt (.furRstc c) sc = true)) ∧
    (∃ (s : State) (sc : Scan) (c : Nat), (s.scanAt (.furLdc c) sc = true) ∧ (s.furClear 3 c = true)) ∧
    (∃ (s : State) (sc : Scan) (target : Nat), (s.scanAt (.furJmp target) sc = true)) ∧
    (∃ (s : State) (sc : Scan) (target : Nat), (s.scanAt (.furJc target) sc = true)) ∧
    (∃ (s : State) (sc : Scan) (target : Nat), (s.scanAt (.furJnc target) sc = true)) ∧
    (∃ (s : State) (sc : Scan) (n str len : Nat), (s.scanAt (.furRep false n str len) sc = true)) ∧
    (∃ (s : State) (sc : Scan) (word str len n : Nat), (s.scanAt (.furRep true word str len) sc = true) ∧ (s.furClear 1 word = true) ∧ (n = (clampI 0 65535 (s.furWord word)).toNat)) ∧
    (∃ (s : State) (sc : Scan), (s.scanAt (.furEnd) sc = true) ∧ (sc.stack = [])) :=
  ⟨⟨furAt ((furEncode (.furTon (3) (2) (1023))).get!) ({ aScan with a := true, tlatch := 900000008 }) (ftimer 1023 ⟨5, false, true, true, some 8⟩ up), { aScan with a := true, tlatch := 900000008 }, 3, 2, 1023, by decide +kernel⟩,
   ⟨furAt ((furEncode (.furTof (3) (2) (1023))).get!) ({ aScan with a := true, tlatch := 900000008 }) (ftimer 1023 ⟨5, false, true, true, some 8⟩ up), { aScan with a := true, tlatch := 900000008 }, 3, 2, 1023, by decide +kernel⟩,
   ⟨furAt ((furEncode (.furTp (3) (2) (1023))).get!) ({ aScan with a := true, tlatch := 900000008 }) (ftimer 1023 ⟨5, false, true, true, some 8⟩ up), { aScan with a := true, tlatch := 900000008 }, 3, 2, 1023, by decide +kernel⟩,
   ⟨furAt ((furEncode (.furTonw (9) (1023))).get!) ({ aScan with a := true, tlatch := 900000008 }) (ftimer 1023 ⟨5, false, true, true, some 8⟩ (fword 9 2000 up)), { aScan with a := true, tlatch := 900000008 }, 9, 1023, by decide +kernel⟩,
   ⟨furAt ((furEncode (.furTofw (9) (1023))).get!) ({ aScan with a := true, tlatch := 900000008 }) (ftimer 1023 ⟨5, false, true, true, some 8⟩ (fword 9 2000 up)), { aScan with a := true, tlatch := 900000008 }, 9, 1023, by decide +kernel⟩,
   ⟨furAt ((furEncode (.furTpw (9) (1023))).get!) ({ aScan with a := true, tlatch := 900000008 }) (ftimer 1023 ⟨5, false, true, true, some 8⟩ (fword 9 2000 up)), { aScan with a := true, tlatch := 900000008 }, 9, 1023, by decide +kernel⟩,
   ⟨furAt ((furEncode (.furRstt (1023))).get!) ({ aScan with a := true, w := 7 }) (up), { aScan with a := true, w := 7 }, 1023, by decide +kernel⟩,
   ⟨furAt ((furEncode (.furLdt (1023))).get!) ({ aScan with a := true, w := 7 }) (up), { aScan with a := true, w := 7 }, 1023, by decide +kernel⟩,
   ⟨furAt ((furEncode (.furCtu (9) (511))).get!) ({ aScan with a := true, w := 7 }) (fword 9 1 up), { aScan with a := true, w := 7 }, 9, 511, by decide +kernel⟩,
   ⟨furAt ((furEncode (.furCtd (9) (511))).get!) ({ aScan with a := true, w := 7 }) (fword 9 1 up), { aScan with a := true, w := 7 }, 9, 511, by decide +kernel⟩,
   ⟨furAt ((furEncode (.furRstc (511))).get!) ({ aScan with a := true, w := 7 }) (up), { aScan with a := true, w := 7 }, 511, by decide +kernel⟩,
   ⟨furAt ((furEncode (.furLdc (511))).get!) ({ aScan with a := true, w := 7 }) (up), { aScan with a := true, w := 7 }, 511, by decide +kernel⟩,
   ⟨furAt ((furEncode (.furJmp (1))).get!) ({ aScan with a := true, w := 7 }) (up), { aScan with a := true, w := 7 }, 1, by decide +kernel⟩,
   ⟨furAt ((furEncode (.furJc (0))).get!) ({ aScan with a := true, w := 7 }) (up), { aScan with a := true, w := 7 }, 0, by decide +kernel⟩,
   ⟨furAt ((furEncode (.furJnc (0))).get!) ({ aScan with a := true, w := 7 }) (up), { aScan with a := true, w := 7 }, 0, by decide +kernel⟩,
   ⟨furAt ((furEncode (.furRep (false) (3) (1) (1))).get!) ({ aScan with a := true, w := 7 }) (up), { aScan with a := true, w := 7 }, 3, 1, 1, by decide +kernel⟩,
   ⟨furAt ((furEncode (.furRep (true) (9) (1) (1))).get!) ({ aScan with a := true, w := 7 }) (fword 9 70000 up), { aScan with a := true, w := 7 }, 9, 1, 1, 65535, by decide +kernel⟩,
   ⟨furAt ((furEncode .furEnd).get!) ({ aScan with a := true, w := 7 }) (up), { aScan with a := true, w := 7 }, by decide +kernel⟩⟩

theorem test_hyps_ValveDriveCommandsComplete :
    (∃ (s : State) (a : Agent) (n : Nat) (v : W32), (n < 48) ∧ (s.accepts a 0x0B (0x418 + 0x40 * n) = true) ∧ (s.rd (F.VLV_CHn_CTL_SRC n) = 3) ∧ (s.carrier = some a) ∧ (listedAt (Reg.VLV_CHn_CMD n) v = true) ∧ (bitAt v.toNat 31 = true) ∧ (s.vCan n = true) ∧ (s.prop n = false) ∧ (s.vOn n 0 = false) ∧ (s.vOn n 11 = false) ∧ (s.peakConflict n s.now = none) ∧ (s.vlv.defq.any (fun c => decide (c / 4 = n / 4)) = false)) ∧
    (∃ (s : State) (a : Agent) (n : Nat) (v : W32), (n < 48) ∧ (s.accepts a 0x0B (0x418 + 0x40 * n) = true) ∧ (s.rd (F.VLV_CHn_CTL_SRC n) = 3) ∧ (s.carrier = some a) ∧ (listedAt (Reg.VLV_CHn_CMD n) v = true) ∧ (bitAt v.toNat 31 = true) ∧ (s.vCan n = true) ∧ (s.prop n = false) ∧ (s.vOn n 0 = false) ∧ (s.vOn n 11 = false) ∧ (s.untimedOk n = true) ∧ (s.peakConflict n s.now ≠ none ∨ s.vlv.defq.any (fun c => decide (c / 4 = n / 4)) = true)) ∧
    (∃ (s : State) (a : Agent) (n : Nat) (v : W32), (n < 48) ∧ (s.accepts a 0x0B (0x418 + 0x40 * n) = true) ∧ (s.rd (F.VLV_CHn_CTL_SRC n) = 3) ∧ (s.carrier = some a) ∧ (listedAt (Reg.VLV_CHn_CMD n) v = true) ∧ (bitAt v.toNat 31 = false) ∧ (s.vOn n 11 = true ∨ s.vlv.defq.contains n = false)) ∧
    (∃ (s : State) (a : Agent) (n : Nat) (v : W32), (n < 48) ∧ (s.accepts a 0x0B (0x418 + 0x40 * n) = true) ∧ (s.rd (F.VLV_CHn_CTL_SRC n) ≠ 3)) ∧
    (∃ (s : State) (n : Nat), (s.bedOn = true) ∧ (n < s.code.valves) ∧ (s.vOn n 1 = true) ∧ ((s.valve n).peakEnd ≤ s.now) ∧ (s.vlv.defq.contains n = false)) ∧
    (∃ (s : State) (n m : Nat), (s.bedOn = true) ∧ (n < s.code.valves) ∧ (s.vOn n 1 = true) ∧ ((s.valve n).peakEnd ≤ s.now) ∧ (s.vlv.defq = [m]) ∧ (m ≠ n) ∧ (m / 4 = n / 4) ∧ (s.prop m = false) ∧ (s.vlv.evs = []) ∧ ((bankChannels (n / 4)).all (fun c => decide (c = n) || !s.vOn c 1) = true)) ∧
    (∃ (s : State) (n : Nat) (reached : Bool) (depth us : Nat) (w : W32), (s.bedOn = true) ∧ (n < s.code.valves) ∧ ((s.valve n).window = some w) ∧ (reached = true ∨ (s.valve n).ton + getBits w 21 12 * 100000 ≤ s.now)) ∧
    (∃ (s : State) (b cause : Nat), (s.bedOn = true) ∧ (4 * b < s.code.valves) ∧ (cause = 1 ∨ cause = 2) ∧ (s.on (F.VLV_BANKk_STAT_HSON b) = true)) ∧
    (∃ (s : State) (a : Agent) (b : Nat), (b < 12) ∧ (s.accepts a 0x0B (0x080 + 8 * b) = true)) ∧
    (∃ (s : State) (n h : Nat), (s.bedOn = true) ∧ (n < s.code.valves) ∧ (s.on (F.VLV_CHn_DUTY_EN n) = true) ∧ (s.vOn n 5 = false) ∧ (s.rd (F.VLV_CHn_DUTY_LIMIT n) * 256 ≤ h) ∧ (s.vlv.defq.contains n = false)) ∧
    (∃ (s : State) (n h : Nat), (s.bedOn = true) ∧ (n < s.code.valves) ∧ (s.on (F.VLV_CHn_DUTY_EN n) = true) ∧ (s.vOn n 5 = false) ∧ (s.rd (F.VLV_CHn_DUTY_LIMIT n) * 256 ≤ h) ∧ (s.on (F.VLV_CHn_DUTY_ACT n) = false) ∧ (s.vOn n 11 = true) ∧ (s.vOn n 1 = false) ∧ (s.vOn n 0 = false)) ∧
    (∃ (s : State) (n h : Nat), (s.bedOn = true) ∧ (n < s.code.valves) ∧ (s.vOn n 5 = true) ∧ (h < s.rd (F.VLV_CHn_DUTY_LIMIT n) * 7 * 256)) ∧
    (∃ (s : State) (n kind : Nat), (s.bedOn = true) ∧ (n < s.code.valves) ∧ (kind = 2 ∨ kind = 1 ∨ (kind = 0 ∧ s.vOn n 0 = true ∧ 100 ≤ (s.valve n).lvl))) ∧
    (∃ (s : State) (a : Agent) (hi : Bool) (v : W32) (n : Nat), (n < s.code.valves) ∧ (hi = decide (32 ≤ n)) ∧ (s.accepts a 0x0B (0x028 + if hi then 4 else 0) = true) ∧ (bitAt v.toNat (n % 32) = true) ∧ (s.vOn n 8 = false ∨ s.on (F.VLV_TRWj_STAT_OT (n / 8)) = false)) ∧
    (∃ (s : State) (n : Nat) (p : ValvePulse), (s.bedOn = true) ∧ ((s.valve n).pulse = some p) ∧ (p.timed = false) ∧ (p.stop ≤ s.now) ∧ (s.vOn n 11 = false) ∧ (s.vlv.defq.contains n = false)) ∧
    (∃ (s : State) (n : Nat) (p : SwitchPulse) (x : Nat), (s.bedOn = true) ∧ ((s.sw n).pulse = some p) ∧ (p.stop = some x) ∧ (x ≤ s.now)) :=
  ⟨⟨valveOn 47 up, .daleA, 47, 0x80000000, by decide +kernel⟩,
   ⟨{ valveOn 47 up with vlv := { up.vlv with defq := [46] } }, .daleA, 47, 0x80000000, by decide +kernel⟩,
   ⟨(valveOn 0 up).wr (vlvFlag 0 0) 1, .daleA, 0, 0, by decide +kernel⟩,
   ⟨up, .daleA, 0, 0, by decide +kernel⟩,
   ⟨later 8 (((valveOn 5 up).wr (vlvFlag 5 1) 1).wr (vlvFlag 5 0) 1), 5, by decide +kernel⟩,
   ⟨later 8 (((valveOn 5 { up with vlv := { up.vlv with defq := [6] } }).wr (vlvFlag 5 1) 1).wr (vlvFlag 6 11) 1), 5, 6, by decide +kernel⟩,
   ⟨up.setValve 47 { window := some 0x64 }, 47, true, 100, 70000, 0x64, by decide +kernel⟩,
   ⟨up.wr (F.VLV_BANKk_STAT_HSON 11) 1, 11, 2, by decide +kernel⟩,
   ⟨(up.wr (F.VLV_BANKk_STAT_FAULT 11) 1).wr (vlvFlag 45 9) 1, .daleA, 11, by decide +kernel⟩,
   ⟨(valveOn 3 up).wr (F.VLV_CHn_DUTY_EN 3) 1 |>.wr (F.VLV_CHn_DUTY_ACT 3) 1, 3, 66000, by decide +kernel⟩,
   ⟨((valveOn 3 { up with vlv := { up.vlv with defq := [3] } }).wr (F.VLV_CHn_DUTY_EN 3) 1).wr (vlvFlag 3 11) 1, 3, 65536, by decide +kernel⟩,
   ⟨((valveOn 3 up).wr (F.VLV_CHn_DUTY_LIMIT 3) 16).wr (vlvFlag 3 5) 1, 3, 5, by decide +kernel⟩,
   ⟨(valveOn 3 up).wr (vlvFlag 3 0) 1, 3, 1, by decide +kernel⟩,
   ⟨(up.mapBit Reg.VLV_FLTMAP_LO 47 true).wr (vlvFlag 47 7) 1, .daleA, true, 0x8000, 47, by decide +kernel⟩,
   ⟨(up.wr (vlvFlag 3 0) 1).setValve 3 { pulse := some ⟨0, 1, 1, true, false⟩ }, 3, ⟨0, 1, 1, true, false⟩, by decide +kernel⟩,
   ⟨up.setSw 3 { pulse := some ⟨some 0, 1, 1⟩ }, 3, ⟨some 0, 1, 1⟩, 0, by decide +kernel⟩⟩

theorem test_hyps_ValveTimedCommandsComplete :
    (∃ (s : State) (q : Nat) (d : Desc) (e : ValveEvent), (32 ≤ q) ∧ (q < 40) ∧ (s.running q 1 = some d) ∧ (s.valveDesc d true = some e) ∧ (d.tmode = 1) ∧ (d.started + 20000 ≤ e.t)) ∧
    (∃ (s : State) (q : Nat) (d : Desc) (e : ValveEvent), (32 ≤ q) ∧ (q < 40) ∧ (s.running q 1 = some d) ∧ (s.valveDesc d true = some e) ∧ (d.tmode = 1) ∧ (e.t < d.started + 20000)) ∧
    (∃ (s : State) (q : Nat) (d : Desc) (e : ValveEvent), (32 ≤ q) ∧ (q < 40) ∧ (s.running q 2 = some d) ∧ (s.valveDesc d false = some e) ∧ (d.tmode = 1) ∧ (d.started + 20000 ≤ e.t)) ∧
    (∃ (s : State) (q : Nat) (d : Desc) (e : ValveEvent), (32 ≤ q) ∧ (q < 40) ∧ (s.running q 2 = some d) ∧ (s.valveDesc d false = some e) ∧ (d.tmode = 1) ∧ (e.t < d.started + 20000)) ∧
    (∃ (s : State) (q : Nat) (d : Desc) (e : ValveEvent), (32 ≤ q) ∧ (q < 40) ∧ (s.running q 1 = some d) ∧ (s.valveDesc d true = some e) ∧ (d.tmode = 0) ∧ (s.rd (F.VLV_CHn_CTL_SRC e.ch) = 2) ∧ (s.vCan e.ch = true) ∧ (s.prop e.ch = false) ∧ (s.vOn e.ch 0 = false) ∧ (s.vOn e.ch 11 = false) ∧ (s.untimedOk e.ch = true) ∧ (s.peakConflict e.ch s.now = none) ∧ (s.vlv.defq.any (fun c => decide (c / 4 = e.ch / 4)) = false)) ∧
    (∃ (s : State) (q : Nat) (d : Desc) (e : ValveEvent), (32 ≤ q) ∧ (q < 40) ∧ (s.running q 1 = some d) ∧ (s.valveDesc d true = some e) ∧ (d.tmode = 0)) ∧
    (∃ (s : State) (q : Nat) (d : Desc), (32 ≤ q) ∧ (q < 40) ∧ (s.running q 1 = some d) ∧ (s.valveDesc d true = none)) ∧
    (∃ (s : State) (q : Nat) (d : Desc) (e : ValveEvent), (32 ≤ q) ∧ (q < 40) ∧ (s.running q 2 = some d) ∧ (s.valveDesc d false = some e) ∧ (d.tmode = 0)) ∧
    (∃ (s : State) (q : Nat) (d : Desc), (32 ≤ q) ∧ (q < 40) ∧ (s.running q 3 = some d) ∧ (d.le 16 1 < s.code.valves) ∧ (d.tmode = 0)) ∧
    (∃ (s : State) (b : Nat) (e : ValveEvent), (s.bedOn = true) ∧ (4 * b < s.code.valves) ∧ ((bankChannels b).all (fun c => (s.valve c).pulse.all (fun p => !p.timed || decide (s.now < p.stop))) = true) ∧ (s.nextEvent b = some e) ∧ (s.vlv.defq.any (fun c => decide (c / 4 = b)) = false)) ∧
    (∃ (s : State) , (s.bedOn = true) ∧ (s.vlv.lastCommit + 1000000000 ≤ s.now)) :=
  ⟨⟨pulseRun 32 1 [3, 0, 0, 0, 0, 0, 0, 0, 100], 32, pulseDesc 32 1 [3, 0, 0, 0, 0, 0, 0, 0, 100], ⟨3, 50000, some 150000, true, 0, 0x1234, false⟩, by decide +kernel⟩,
   ⟨lateRun 32 1 [3, 0, 0, 0, 0, 0, 0, 0, 100], 32, lateDesc 32 1 [3, 0, 0, 0, 0, 0, 0, 0, 100], ⟨3, 10000, some 110000, true, 0, 0x1234, false⟩, by decide +kernel⟩,
   ⟨pulseRun 38 2 [3, 1], 38, pulseDesc 38 2 [3, 1], ⟨3, 50000, none, true, 0, 0x1234, false⟩, by decide +kernel⟩,
   ⟨lateRun 38 2 [3, 1], 38, lateDesc 38 2 [3, 1], ⟨3, 10000, none, true, 0, 0x1234, false⟩, by decide +kernel⟩,
   ⟨run 32 33 1 [3, 0, 0, 0, 0, 0, 0, 0, 100] (srcRing 3), 32, desc 1 33 [3, 0, 0, 0, 0, 0, 0, 0, 100], ⟨3, 0, some 100000, true, 0, 0x1234, false⟩, by decide +kernel⟩,
   ⟨run 32 33 1 [3, 0, 0, 0, 0, 0, 0, 0, 100] (srcRing 3), 32, desc 1 33 [3, 0, 0, 0, 0, 0, 0, 0, 100], ⟨3, 0, some 100000, true, 0, 0x1234, false⟩, by decide +kernel⟩,
   ⟨run 32 33 1 [48] up, 32, desc 1 33 [48], by decide +kernel⟩,
   ⟨run 38 39 2 [3, 1] (srcRing 3), 38, desc 2 39 [3, 1], ⟨3, 0, none, true, 0, 0x1234, false⟩, by decide +kernel⟩,
   ⟨run 34 35 3 [3, 0, 0, 0, 7] (vlvEvs [⟨3, 50000, none, true, 0, 7, false⟩] (up.setValve 3 { pulse := some ⟨900, 9, 7, true, false⟩ })), 34, desc 3 35 [3, 0, 0, 0, 7], by decide +kernel⟩,
   ⟨vlvEvs [⟨47, 60000, none, false, 0, 7, false⟩, ⟨47, 50000, some 50500, true, 0, 7, true⟩] (valveOn 47 (later 60000 up)), 11, ⟨47, 50000, some 50500, true, 0, 7, true⟩, by decide +kernel⟩,
   ⟨later 1000000000 { up with vlv := { up.vlv with wear := [(47, 3)] } }, by decide +kernel⟩⟩

set_option maxRecDepth 100000 in
theorem test_hyps_LoadSwitchCommandsComplete :
    (∃ (s : State) (a : Agent) (n : Nat) (v : W32), (n < 64) ∧ (s.accepts a 0x0C (0x108 + 0x10 * n) = true) ∧ (s.rd (F.LSW_CHn_CTL_SRC n) = 3) ∧ (s.carrier = some a) ∧ (listedAt (Reg.LSW_CHn_CMD n) v = true) ∧ (bitAt v.toNat 31 = true) ∧ (s.lCan n = true) ∧ (s.pwm n = false) ∧ (s.lOn n 0 = false) ∧ (s.lOn n 3 = false)) ∧
    (∃ (s : State) (a : Agent) (n : Nat) (v : W32), (n < 64) ∧ (s.accepts a 0x0C (0x108 + 0x10 * n) = true) ∧ (s.rd (F.LSW_CHn_CTL_SRC n) = 3) ∧ (s.carrier = some a) ∧ (listedAt (Reg.LSW_CHn_CMD n) v = true) ∧ (bitAt v.toNat 31 = true) ∧ (s.lCan n = true) ∧ (s.pwm n = false) ∧ (s.lOn n 0 = true ∨ (s.lOn n 3 = true ∧ (s.grp (groupOf n)).blocked = true))) ∧
    (∃ (s : State) (a : Agent) (n : Nat) (v : W32), (n < 64) ∧ (s.accepts a 0x0C (0x108 + 0x10 * n) = true) ∧ (s.rd (F.LSW_CHn_CTL_SRC n) = 3) ∧ (s.carrier = some a) ∧ (listedAt (Reg.LSW_CHn_CMD n) v = true) ∧ (bitAt v.toNat 31 = false)) ∧
    (∃ (s : State) (a : Agent) (n : Nat) (v : W32), (n < 64) ∧ (s.accepts a 0x0C (0x108 + 0x10 * n) = true) ∧ (s.rd (F.LSW_CHn_CTL_SRC n) ≠ 3)) ∧
    (∃ (s : State) (means : List Nat) (g n : Nat), (s.bedOn = true) ∧ (s.lsw.lastShed + 10000000 ≤ s.now) ∧ (g < 4) ∧ (s.rd (F.LSW_GRPg_STAT_LIM g) + 3000 < means.getD g 0) ∧ (s.shedChoice g = some n)) ∧
    (∃ (s : State) (means : List Nat), (s.bedOn = true) ∧ (s.lsw.lastShed + 10000000 ≤ s.now)) ∧
    (∃ (s : State) (a : Agent) (hi : Bool) (v : W32) (n : Nat), (n < 64) ∧ (hi = decide (32 ≤ n)) ∧ (s.accepts a 0x0C (0x038 + if hi then 4 else 0) = true) ∧ (bitAt v.toNat (n % 32) = true)) ∧
    (∃ (s : State) (meas : List (Nat × Nat × Nat)) (n busv : Nat) (m : Nat × Nat × Nat), (s.bedOn = true) ∧ (s.lsw.lastHeat + 1000000 ≤ s.now) ∧ (s.lswCarried n = true) ∧ ((meas.find? (fun x => decide (x.1 = n))).getD (n, 0, 0) = m)) ∧
    (∃ (s : State) (meas : List (Nat × Nat × Nat)) (n busv : Nat) (m : Nat × Nat × Nat), (s.bedOn = false) ∧ (s.lswCarried n = true) ∧ ((meas.find? (fun x => decide (x.1 = n))).getD (n, 0, 0) = m)) ∧
    (∃ (s : State) (n kind : Nat), (s.bedOn = true) ∧ (s.lswCarried n = true) ∧ ((kind = 0 ∧ (s.sw n).limSince.any (fun t0 => decide (t0 + s.rd (F.LSW_CHn_CTL_TLIM n) * 1000000 ≤ s.now)) = true) ∨ kind = 1 ∨ (kind = 2 ∧ (s.wireLimit n).le (s.heat n) = true ∧ s.lOn n 7 = false))) ∧
    (∃ (s : State) (a : Agent) (hi : Bool) (v : W32) (n : Nat), (n < 64) ∧ (hi = decide (32 ≤ n)) ∧ (s.accepts a 0x0C (0x028 + if hi then 4 else 0) = true) ∧ (bitAt v.toNat (n % 32) = true) ∧ (s.mapOn Reg.LSW_FLTMAP_LO n = true)) ∧
    (∃ (s : State) (n : Nat) (high : Bool), (s.bedOn = true) ∧ (s.lswCarried n = true) ∧ (s.lOn n 0 = false) ∧ (high = true → s.on (F.LSW_CHn_CTL_PUEN n) = true ∧ (s.sw n).offSince + 15000000 ≤ s.now)) ∧
    (∃ (s : State) (n : Nat) (low : Bool), (s.bedOn = true) ∧ (s.lswCarried n = true) ∧ (s.lOn n 0 = true) ∧ (s.on (F.LSW_CHn_CTL_ONOL n) = true) ∧ ((s.sw n).ton + 100000000 ≤ s.now)) ∧
    (∃ (s : State) (q : Nat) (d : Desc) (n : Nat) (duty : Frac), (40 ≤ q) ∧ (q < 48) ∧ (s.running q 1 = some d) ∧ (s.lswDesc d true = some (n, duty))) ∧
    (∃ (s : State) (q : Nat) (d : Desc) (n : Nat) (duty : Frac), (40 ≤ q) ∧ (q < 48) ∧ (s.running q 2 = some d) ∧ (s.lswDesc d false = some (n, duty))) ∧
    (∃ (s : State) (q : Nat) (d : Desc), (40 ≤ q) ∧ (q < 48) ∧ (s.running q 3 = some d) ∧ (s.lswCarried (d.le 16 1) = true) ∧ (d.tmode = 0)) :=
  ⟨⟨lswReady 63 up, .daleA, 63, 0x80000000, by decide +kernel⟩,
   ⟨((lswReady 63 up).wr (lswFlag 63 3) 1).setGrp 3 { blocked := true }, .daleA, 63, 0x80000000, by decide +kernel⟩,
   ⟨(lswReady 0 up).wr (lswFlag 0 0) 1, .daleA, 0, 0, by decide +kernel⟩,
   ⟨up, .daleA, 0, 0, by decide +kernel⟩,
   ⟨later 10000000 ((lswReady 63 up).wr (lswFlag 63 0) 1), [0, 0, 0, 200000], 3, 63, by decide +kernel⟩,
   ⟨later 10000000 up, [1, 2, 3, 400000], by decide +kernel⟩,
   ⟨(up.mapBit Reg.LSW_SHEDMAP_LO 63 true).wr (lswFlag 63 4) 1, .daleA, true, 0x80000000, 63, by decide +kernel⟩,
   ⟨later 1000000 (lswReady 63 up), [(63, 9000, 24000), (1, 5, 5)], 63, 24000, (63, 9000, 24000), by decide +kernel⟩,
   ⟨{ State.reset with rootOn := true }, [], 63, 0, (63, 0, 0), by decide +kernel⟩,
   ⟨(lswReady 63 (later 900000000 up)).setSw 63 { limSince := some 0 }, 63, 0, by decide +kernel⟩,
   ⟨(up.mapBit Reg.LSW_FLTMAP_LO 63 true).wr (lswFlag 63 5) 1, .daleA, true, 0x80000000, 63, by decide +kernel⟩,
   ⟨later 15000000 (up.wr (F.LSW_CHn_CTL_PUEN 63) 1), 63, true, by decide +kernel⟩,
   ⟨later 100000000 ((up.wr (F.LSW_CHn_CTL_ONOL 63) 1).wr (lswFlag 63 0) 1), 63, true, by decide +kernel⟩,
   ⟨run 40 41 1 [63, 0, 0, 0, 0, 0, 0, 0, 100] ((lswReady 63 up).wr (F.LSW_CHn_CTL_SRC 63) 2), 40, desc 1 41 [63, 0, 0, 0, 0, 0, 0, 0, 100], 63, Frac.ofInt 1, by decide +kernel⟩,
   ⟨run 42 43 2 [63, 1] ((lswReady 63 up).wr (F.LSW_CHn_CTL_SRC 63) 2), 42, desc 2 43 [63, 1], 63, Frac.ofInt 1, by decide +kernel⟩,
   ⟨run 46 47 3 [63, 0, 0, 0, 7] (up.setSw 63 { pulse := some ⟨some 900, 9, 7⟩ }), 46, desc 3 47 [63, 0, 0, 0, 7], by decide +kernel⟩⟩

set_option maxRecDepth 100000 in
theorem test_hyps_OutputStageCommandsComplete :
    (∃ (s : State) (ic : Nat) (r : Readback), (s.bedOn = true) ∧ (s.icCarried ic = true) ∧ (s.on (icLink ic) = true) ∧ (r.seqOk = true) ∧ ((s.outIc ic).last + (s.outIc ic).period * 250000 ≤ s.now) ∧ (s.now ≤ (s.outIc ic).last + (s.outIc ic).period * 1000000)) ∧
    (∃ (s : State) (ic : Nat) (r : Readback), (s.bedOn = true) ∧ (s.icCarried ic = true) ∧ (s.on (icLink ic) = true) ∧ (r.seqOk = false ∨ s.now < (s.outIc ic).last + (s.outIc ic).period * 250000 ∨ (s.outIc ic).last + (s.outIc ic).period * 1000000 < s.now)) ∧
    (∃ (s : State) (ic : Nat), (s.bedOn = true) ∧ (s.icCarried ic = true) ∧ ((s.outIc ic).last + (s.outIc ic).period * 1000000 < s.now)) ∧
    (∃ (s : State) , (s.bedOn = true)) ∧
    (∃ (s : State) (a : Agent) (ic : Nat), (ic < 14) ∧ (s.accepts a (if ic < 6 then 0x0B else 0x0C) (if ic < 6 then 0x104 + 8 * ic else 0x064 + 8 * (ic - 6)) = true)) ∧
    (∃ (s : State) (a : Agent) (v : W32), (s.accepts a 0x0C 0x014 = true)) ∧
    (∃ (s : State) (t0 : Nat), (s.lsw.openAt = some t0) ∧ (t0 + 10000000 ≤ s.now)) ∧
    (∃ (s : State) (d : Desc) (t0 : Nat), (s.running 46 0x10 = some d) ∧ (s.lsw.writing = none) ∧ (s.inDoze = true) ∧ (s.lsw.openAt = some t0) ∧ (s.rd F.LSW_FSUNLOCK_STATE = 2) ∧ (d.started < t0 + 10000000) ∧ (d.le 24 8 % 64 = 0) ∧ (inBedRange (d.le 24 8) 512 = true) ∧ ((s.fslock.tokAsk 6 6 0xB).2 = true) ∧ (s.fswriteStatus (d.le 24 8) (s.mem.readBytes (d.le 24 8) 512) = 0)) ∧
    (∃ (s : State) (failed : List Nat) (d : Desc), (s.running 46 0x10 = some d) ∧ (s.lsw.writing = none) ∧ (s.inDoze = false)) ∧
    (∃ (s : State) (q : Nat) (d : Desc), (40 ≤ q) ∧ (q < 48) ∧ (s.running q 0x11 = some d)) :=
  ⟨⟨later 5000000 ((up.wr (icLink 13) 1).setOutIc 13 { fsafe := false, last := 0, period := 20 }), 13, ⟨true, 0, [], [], []⟩, by decide +kernel⟩,
   ⟨later 5000000 ((up.wr (icLink 5) 1).setOutIc 5 { fsafe := false, last := 0, period := 20 }), 5, ⟨false, 0, [], [], []⟩, by decide +kernel⟩,
   ⟨later 5000000000 (up.setOutIc 5 { fsafe := false, last := 0, period := 20 }), 5, by decide +kernel⟩,
   ⟨up, by decide +kernel⟩,
   ⟨(up.wr (icLink 13) 1).setOutIc 13 { fsafe := true }, .daleA, 13, by decide +kernel⟩,
   ⟨up, .scarecrow, 0xA5C3, by decide +kernel⟩,
   ⟨later 10000000 { up with lsw := { up.lsw with openAt := some 0 } }, 0, by decide +kernel⟩,
   ⟨fsMem, desc 0x10 47 fsArgs, 0, by decide +kernel⟩,
   ⟨run 46 47 0x10 fsArgs (up.wr F.SYS_PWRSTATE_STATE 3), [], desc 0x10 47 fsArgs, by decide +kernel⟩,
   ⟨run 46 47 0x11 fsArgs up, 46, desc 0x11 47 fsArgs, by decide +kernel⟩⟩

theorem test_hyps_CanBusCommandsComplete :
    (∃ (s : State) (c : Nat) (f : TxFrame), (s.bedOn = true) ∧ (c < s.code.cans) ∧ (s.canState c = 2) ∧ (s.on (F.CAN_CHc_STAT_SUSP c) = false) ∧ (s.onBus c = none) ∧ (s.nextFrame c = some f)) ∧
    (∃ (s : State) (c : Nat) (f : TxFrame), (c < 8) ∧ (s.onBus c = some f)) ∧
    (∃ (s : State) (c err : Nat) (f : TxFrame), (c < 8) ∧ (s.onBus c = some f) ∧ (err ≤ 6) ∧ (f.marked = false) ∧ (s.canState c = 2)) ∧
    (∃ (s : State) (c err inc : Nat), (s.bedOn = true) ∧ (c < s.code.cans) ∧ (s.canState c = 2 ∨ s.canState c = 3) ∧ (0 < err) ∧ (err ≤ 6)) ∧
    (∃ (s : State) (c : Nat) (f : CanFrame) (e : AccEntry) (l : List AccEntry), (s.bedOn = true) ∧ (c < s.code.cans) ∧ (s.canState c = 2 ∨ s.canState c = 3) ∧ (f.sof ≤ s.now) ∧ (f.remote = false) ∧ (s.accAt c f.sof = e :: l) ∧ (s.accMatch c e f.id = true) ∧ (e.action = 1) ∧ (e.buf < s.rd (F.CAN_CHc_RXBUF_NBUF c)) ∧ (s.rd (F.CAN_CHc_STAT_ERRST c) = 0) ∧ (s.rd (F.CAN_CHc_STAT_REC c) ≤ 127) ∧ ((s.ctl c).tec ≤ 127)) ∧
    (∃ (s : State) (c : Nat), (c < 8) ∧ (s.bedOn = true) ∧ (s.canState c = 4) ∧ (s.on (F.CAN_CHc_CTL_AUTOREC c) = true)) ∧
    (∃ (s : State) (a : Agent) (v : W32) (c : Nat), (c < 8) ∧ (s.accepts a 0x0D 0x030 = true) ∧ (bitAt v.toNat c = true)) ∧
    (∃ (s : State) (c : Nat) (d : Desc) (id dlc : Nat) (sasub : Bool), (c < 8) ∧ ((s.ring (48 + c)).taken.find? (fun d => d.running && decide (d.op = 1) && !(s.ctl c).pend.any (fun f => decide (f.kind = .ring d))) = some d) ∧ (sendDesc d = some (id, dlc, sasub, none))) ∧
    (∃ (s : State) (c : Nat) (d : Desc), (c < 8) ∧ ((s.ring (48 + c)).taken.find? (fun d => d.running && decide (d.op = 1) && !(s.ctl c).pend.any (fun f => decide (f.kind = .ring d))) = some d) ∧ (sendDesc d = none)) ∧
    (∃ (s : State) (c : Nat) (d : Desc) (id dlc p : Nat) (sasub : Bool), (c < 8) ∧ ((s.ring (48 + c)).taken.find? (fun d => d.running && decide (d.op = 1) && !(s.ctl c).pend.any (fun f => decide (f.kind = .ring d))) = some d) ∧ (sendDesc d = some (id, dlc, sasub, some p)) ∧ (s.canState c = 2 ∨ s.canState c = 4) ∧ (¬ (sasub = true ∧ s.noAddr c = true))) ∧
    (∃ (s : State) (c : Nat) (d : Desc), (c < 8) ∧ ((s.ring (48 + c)).taken.find? (fun d => d.running && decide (d.op = 2) && !(s.ctl c).cancels.any (fun p => decide (p.1 = d))) = some d) ∧ (d.tmode = 0)) :=
  ⟨⟨canActive 7 [aTx 5, aTx 3] (later 9000 up), 7, aTx 3, by decide +kernel⟩,
   ⟨canActive 7 [aTx 5, { aTx 3 with begun := true }] up, 7, { aTx 3 with begun := true }, by decide +kernel⟩,
   ⟨canActive 7 [{ aTx 3 with begun := true }] up, 7, 6, { aTx 3 with begun := true }, by decide +kernel⟩,
   ⟨canActive 7 [] up, 7, 2, 300, by decide +kernel⟩,
   ⟨later 9000 ((let t := canActive 7 [] up; t.setCtl 7 { t.ctl 7 with acc := [(1, [⟨5, 0x7FFFFFFF, 1, 2⟩])] }).wr (F.CAN_CHc_RXBUF_NBUF 7) 4), 7, { id := 2 ^ 31 + 5, dlc := 2, data := [1, 2], sof := 2, remote := false, esi := false }, ⟨5, 0x7FFFFFFF, 1, 2⟩, [], by decide +kernel⟩,
   ⟨((canActive 7 [] up).wr (F.CAN_CHc_STAT_STATE 7) 4).wr (F.CAN_CHc_CTL_AUTOREC 7) 1, 7, by decide +kernel⟩,
   ⟨((canActive 7 [] up).wr (F.CAN_CHc_STAT_ALONE 7) 1).wr ⟨Reg.CAN_ALONEMAP, 7, 7⟩ 1, .daleA, 0x80, 7, by decide +kernel⟩,
   ⟨run 55 56 1 [5, 0, 0, 0, 2, 0, 0, 0, 0xAA, 0xBB] (canActive 7 [] up), 7, desc 1 56 [5, 0, 0, 0, 2, 0, 0, 0, 0xAA, 0xBB], 5, 2, false, by decide +kernel⟩,
   ⟨run 55 56 1 [5, 0, 0, 0, 16] up, 7, desc 1 56 [5, 0, 0, 0, 16], by decide +kernel⟩,
   ⟨run 55 56 1 ([5, 0, 0, 0xC0, 15, 2, 0, 0] ++ leBytes 8 0xF000000040) (canActive 7 [] up), 7, desc 1 56 ([5, 0, 0, 0xC0, 15, 2, 0, 0] ++ leBytes 8 0xF000000040), 0xC0000005, 15, 0xF000000040, false, by decide +kernel⟩,
   ⟨run 55 56 2 [0, 0, 0, 0, 0x34, 0x12] (canActive 7 [{ aTx 3 with kind := .ring (desc 1 56 [9]) }] up), 7, desc 2 56 [0, 0, 0, 0, 0x34, 0x12], by decide +kernel⟩⟩

theorem test_hyps_CanControlCommandsComplete :
    (∃ (s : State) (a : Agent) (c : Nat) (v : W32), (c < 8) ∧ (s.accepts a 0x0D (0x100 + 0x40 * c) = true) ∧ (s.on (F.CAN_CHc_CTL_EN c) = false) ∧ (listedAt (Reg.CAN_CHc_CTL c) (setBits v 31 31 1) = true)) ∧
    (∃ (s : State) (a : Agent) (c : Nat), (c < 8) ∧ (s.accepts a 0x0D (0x100 + 0x40 * c) = true) ∧ (s.on (F.CAN_CHc_CTL_EN c) = true) ∧ (2 ≤ c → getBits (s.reg (Reg.CAN_CHc_CTL c)) 23 23 = 0) ∧ (listedAt (Reg.CAN_CHc_CTL c) (setBits (s.reg (Reg.CAN_CHc_CTL c)) 31 31 0) = true)) ∧
    (∃ (s : State) (a : Agent) (c mode : Nat), (c < 8) ∧ (mode ≤ 1) ∧ (s.accepts a 0x0D (0x100 + 0x40 * c) = true) ∧ (s.on (F.CAN_CHc_CTL_EN c) = true) ∧ (2 ≤ c → getBits (s.reg (Reg.CAN_CHc_CTL c)) 23 23 = 0) ∧ (listedAt (Reg.CAN_CHc_CTL c) (setBits (s.reg (Reg.CAN_CHc_CTL c)) 30 29 mode) = true) ∧ (s.rd (F.CAN_CHc_CTL_MODE c) ≠ mode)) ∧
    (∃ (s : State) (c nrate drate : Nat), (s.bedOn = true) ∧ (c < s.code.cans) ∧ (s.canState c = 1) ∧ (nrate ≤ 3) ∧ (drate ≤ 4)) ∧
    (∃ (s : State) (c : Nat), (s.bedOn = true) ∧ (c < s.code.cans) ∧ (s.canState c = 1) ∧ (s.on (F.CAN_CHc_DET_FAIL c) = false) ∧ ((s.ctl c).detSince + s.rd (F.CAN_CHc_DET_TMO c) * 1000000000 ≤ s.now)) ∧
    (∃ (s : State) (a : Agent) (c : Nat) (v : W32), (c < 8) ∧ (s.accepts a 0x0D (0x110 + 0x40 * c) = true) ∧ (getBits v 31 23 ≤ 256) ∧ (getBits v 18 0 * 64 + getBits v 31 23 * 16 ≤ 0x2000000) ∧ (s.mem.poisoned (bedStoreBase + getBits v 18 0 * 64) (16 * getBits v 31 23) = false) ∧ ((List.range (getBits v 31 23)).all (fun i => decide (s.mem.readLe (bedStoreBase + getBits v 18 0 * 64 + 16 * i + 10) 6 = 0) && (⟨s.mem.readLe (bedStoreBase + getBits v 18 0 * 64 + 16 * i) 4, s.mem.readLe (bedStoreBase + getBits v 18 0 * 64 + 16 * i + 4) 4, s.mem.readLe (bedStoreBase + getBits v 18 0 * 64 + 16 * i + 8) 1, s.mem.readLe (bedStoreBase + getBits v 18 0 * 64 + 16 * i + 9) 1⟩ : AccEntry).ok) = true)) ∧
    (∃ (s : State) (c : Nat), (s.bedOn = true) ∧ (c < s.code.cans) ∧ (s.canState c = 2) ∧ (s.on (F.CAN_CHc_CTL_CLAIM c) = true) ∧ (s.claimState c = 0)) ∧
    (∃ (s : State) (c t0 : Nat), (c < 8) ∧ (s.bedOn = true) ∧ (s.claimState c = 1) ∧ ((s.ctl c).claimAt = some t0) ∧ ((s.ctl c).contests = []) ∧ ((s.ctl c).backoff = none) ∧ (t0 + 250000000 ≤ s.now)) ∧
    (∃ (s : State) (c r name : Nat) (rest : List Nat), (c < 8) ∧ ((s.ctl c).contests = name :: rest)) ∧
    (∃ (s : State) (c at0 : Nat) (able : Bool), (c < 8) ∧ ((s.ctl c).backoff = some (at0, able)) ∧ (at0 ≤ s.now)) ∧
    (∃ (s : State) (c : Nat), (c < 8) ∧ ((s.ctl c).asked = true) ∧ (s.claimState c ≠ 0)) ∧
    (∃ (s : State) (k : Nat), (s.bedOn = true) ∧ (k < 256) ∧ (s.can.stopped = false) ∧ (s.ptnState k = 1) ∧ (s.rd F.CAN_PTNCFG_TMO ≠ 0) ∧ (SMap.get (fun _ => 0) s.can.seen k + s.rd F.CAN_PTNCFG_TMO * 1000000000 ≤ s.now)) ∧
    (∃ (s : State) (a : Agent) (v : W32), (s.accepts a 0x0D 0x020 = true)) ∧
    (∃ (s : State) (c id : Nat) (w1 w2 : W32), (s.rootOn = true) ∧ (s.pwr.wuf.find? (fun w => decide (w.1 = c)) = some (c, w1, w2)) ∧ (bitAt id 31 = bitAt w1.toNat 31) ∧ (id % 2 ^ 29 &&& w2.toNat % 2 ^ 29 = w1.toNat % 2 ^ 29 &&& w2.toNat % 2 ^ 29)) :=
  ⟨⟨up.setCtl 7 { pend := [{ aTx 3 with begun := true }] }, .daleA, 7, 0, by decide +kernel⟩,
   ⟨canActive 7 [aTx 3] up, .daleA, 7, by decide +kernel⟩,
   ⟨canActive 7 [aTx 3] up, .daleA, 7, 1, by decide +kernel⟩,
   ⟨up.wr (F.CAN_CHc_STAT_STATE 7) 1, 7, 3, 4, by decide +kernel⟩,
   ⟨later 900000000000 (up.wr (F.CAN_CHc_STAT_STATE 7) 1), 7, by decide +kernel⟩,
   ⟨up, .daleA, 7, 0x01000040, by decide +kernel⟩,
   ⟨(canActive 7 [] up).wr (F.CAN_CHc_CTL_CLAIM 7) 1, 7, by decide +kernel⟩,
   ⟨(later 250000000 up).wr (F.CAN_CHc_CLMSTAT_STATE 7) 1 |>.setCtl 7 { claimAt := some 0 }, 7, 0, by decide +kernel⟩,
   ⟨up.setCtl 7 { contests := [1] }, 7, 3, 1, [], by decide +kernel⟩,
   ⟨(later 9 up).setCtl 7 { backoff := some (8, true) }, 7, 8, true, by decide +kernel⟩,
   ⟨(up.setCtl 7 { asked := true }).wr (F.CAN_CHc_CLMSTAT_STATE 7) 3, 7, by decide +kernel⟩,
   ⟨(later 900000000000 up).wr (F.CAN_PTNk_STATE 255) 1 |>.wr F.CAN_PTNCFG_TMO 5, 255, by decide +kernel⟩,
   ⟨up.wr (F.CAN_PTNk_STATE 255) 1, .daleA, 0, by decide +kernel⟩,
   ⟨up.setPwr { up.pwr with wuf := [(1, 0x80000005, 0xFF)] }, 1, 0x80000105, 0x80000005, 0xFF, by decide +kernel⟩⟩

theorem test_hyps_SwitchCommandsComplete :
    (∃ (s : State) (port tarr p : Nat) (f : EthFrame) (e : FdbEntry), (s.canopyOn = true) ∧ (s.linkUp port = true) ∧ (s.rioOf port f = none) ∧ (s.intakeOf f = none) ∧ (s.isService port f = false) ∧ (ethSize f ≤ s.frameMax port) ∧ (s.fdbFind f.dst (s.vlanOf port f) = some e) ∧ (e.ports = 2 ^ p) ∧ (p < 7) ∧ (p ≠ port) ∧ (s.linkUp p = true) ∧ (f.dst ≠ s.ethMac) ∧ (f.dst ≠ s.ethMac + 1) ∧ (f.dst / 16 ≠ 0x0180C200000) ∧ (f.dst ≠ f.src) ∧ ((s.gateList p).entries = []) ∧ (ethSize f ≤ s.frameMax p)) ∧
    (∃ (s : State) (port tarr : Nat) (f : EthFrame), (s.canopyOn = true) ∧ (s.linkUp port = true) ∧ (s.rioOf port f = none) ∧ (s.intakeOf f = none) ∧ (s.isService port f = false) ∧ (s.frameMax port < ethSize f)) ∧
    (∃ (s : State) (port : Nat) (pdelay : Option Nat), (s.canopyOn = true) ∧ (s.code.hasPort port = true) ∧ (s.on (F.ETH_Pp_CTL_EN port) = true) ∧ (s.on (F.ETH_Pp_STAT_LINK port) = false)) ∧
    (∃ (s : State) (port : Nat) (pdelay : Option Nat), (s.canopyOn = true) ∧ (s.linkUp port = true)) ∧
    (∃ (s : State) (stamp sec : Nat) (rateErr : Int), (s.canopyOn = true) ∧ (s.on F.ETH_PTPCTL_EN = true) ∧ (s.rd F.ETH_PTPSTAT_SLAVE ≠ 0xF) ∧ (s.linkUp (s.rd F.ETH_PTPSTAT_SLAVE) = true)) ∧
    (∃ (s : State) (gm : Nat) (own : Bool) (slave steps : Nat) (roles : List Nat), (s.canopyOn = true) ∧ (s.on F.ETH_PTPCTL_EN = true) ∧ (gm ≠ s.eth.gm) ∧ (own = true → s.rd F.SDL_CTL_MODE ≠ 2) ∧ (own = false → s.linkUp slave = true ∧ s.on (F.ETH_Pp_CTL_PTPEN slave) = true)) ∧
    (∃ (s : State) (d : Desc) (n : Nat), ((s.ring 80).taken.find? (fun d => d.running && decide (d.op = 0x10) && !s.eth.gclWait.any (fun w => decide (w.desc = d))) = some d) ∧ (s.code.hasPort (d.le 16 1) = true) ∧ (s.memOk (d.le 24 8) (8 * d.le 17 1) = true) ∧ (s.mem.poisoned (d.le 24 8) (8 * d.le 17 1) = false) ∧ (s.gclOk (d.le 24 8) (d.le 17 1) (d.le 20 4) = true) ∧ ((⟨s.gclEntries (d.le 24 8) (d.le 17 1), d.le 20 4⟩ : GateList).startAt (if d.tmode = 1 then max d.deadline d.started else d.started) = n)) ∧
    (∃ (s : State) (port : Nat) (w : GclWait), (s.canopyOn = true) ∧ (s.code.hasPort port = true) ∧ (s.eth.gclWait = [w]) ∧ (w.port = port) ∧ (w.start ≤ s.now)) ∧
    (∃ (s : State) (port : Nat) (e : EgFrame), (s.canopyOn = true) ∧ (s.eth.gclWait = []) ∧ (s.eth.out = [e]) ∧ (e.port = port) ∧ (s.mayStartAt e s.now = true) ∧ (e.cls < 8)) ∧
    (∃ (s : State) (d : Desc), (s.running 80 0x11 = some d) ∧ (d.le 33 1 ≤ 1) ∧ (d.le 30 2 ≤ 4094)) ∧
    (∃ (s : State) (mac vid : Nat) (e : FdbEntry), (s.canopyOn = true) ∧ (s.fdbFind mac vid = some e) ∧ (e.static = false) ∧ (e.seen + s.rd F.ETH_FDBAGE_AGE * 1000000000 ≤ s.now)) ∧
    (∃ (s : State) (d : Desc), (s.running 80 0x12 = some d) ∧ (d.le 16 1 < 32) ∧ (0 < d.le 32 2) ∧ (d.le 32 2 ≤ s.rd (F.ETH_RIOs_CFG_LEN (d.le 16 1))) ∧ (s.memOk (d.le 24 8) (d.le 32 2) = true) ∧ (s.mem.poisoned (d.le 24 8) (d.le 32 2) = false)) ∧
    (∃ (s : State) (d : Desc) (p : Nat), ((s.ring 82).taken.find? (fun d => d.running && decide (d.op = 1) && !s.eth.out.any (fun e => decide (e.desc = some d))) = some d) ∧ (14 ≤ d.le 32 2) ∧ (d.le 32 2 ≤ 9018) ∧ (p < 7) ∧ (d.le 34 1 = 2 ^ p) ∧ (s.memOk (d.le 24 8) (d.le 32 2) = true) ∧ (s.mem.poisoned (d.le 24 8) (d.le 32 2) = false) ∧ (s.linkUp p = true) ∧ ((s.gateList p).entries = []) ∧ (ethSize (parseFrame (s.mem.readBytes (d.le 24 8) (d.le 32 2))) ≤ s.frameMax p)) ∧
    (∃ (s : State) (d : Desc), ((s.ring 84).taken.find? (fun d => d.running && decide (d.op = 2) && !s.eth.posted.contains d) = some d)) ∧
    (∃ (s : State) (port tarr n : Nat) (f : EthFrame), (s.canopyOn = true) ∧ (s.linkUp port = true) ∧ (s.rioOf port f = some n)) ∧
    (∃ (s : State) (port tarr m src dst dport : Nat) (frag late sync : Bool) (f : EthFrame) (data : Bytes), (s.canopyOn = true) ∧ (s.linkUp port = true) ∧ (s.isService port f = false) ∧ (udpOf f = some (src, dst, frag, dport, data)) ∧ (s.udpEntry src dst dport = some m) ∧ (s.on (F.ETH_UDPm_CTL_COPY m) = false)) :=
  ⟨⟨{ links up with eth := { up.eth with fdb := [⟨0x0200000000AA, 1, 4, true, 0⟩] } }, 1, 8, 2, ethIn, ⟨0x0200000000AA, 1, 4, true, 0⟩, by decide +kernel⟩,
   ⟨links up, 1, 8, { ethIn with payload := List.replicate 1501 0, tag := some (0, 1) }, by decide +kernel⟩,
   ⟨up.wr (F.ETH_Pp_CTL_EN 6) 1, 6, none, by decide +kernel⟩,
   ⟨links up, 2, none, by decide +kernel⟩,
   ⟨((links up).wr F.ETH_PTPCTL_EN 1).wr F.ETH_PTPSTAT_SLAVE 2, 8, 315964820, 0, by decide +kernel⟩,
   ⟨(((links up).wr F.ETH_PTPCTL_EN 1).wr (F.ETH_Pp_CTL_PTPEN 2) 1), 9, false, 2, 3, [1, 1, 2], by decide +kernel⟩,
   ⟨run 80 81 0x10 [2, 1] { links up with mem := up.mem.writeBytes 0 [1, 0, 0, 0, 0xE8, 3, 0, 0] }, desc 0x10 81 [2, 1], 0, by decide +kernel⟩,
   ⟨{ links up with eth := { up.eth with gclWait := [⟨2, ⟨[(1, 1000)], 0⟩, 0, dflt2⟩] } }, 2, ⟨2, ⟨[(1, 1000)], 0⟩, 0, dflt2⟩, by decide +kernel⟩,
   ⟨{ links up with eth := { up.eth with out := [⟨2, 0, ethIn, none, none⟩] } }, 2, ⟨2, 0, ethIn, none, none⟩, by decide +kernel⟩,
   ⟨run 80 81 0x11 [0, 0, 0, 0, 0, 0, 0, 0, 0xAA, 0, 0, 0, 0, 2, 1, 0, 4, 1] (links up), desc 0x11 81 [0, 0, 0, 0, 0, 0, 0, 0, 0xAA, 0, 0, 0, 0, 2, 1, 0, 4, 1], by decide +kernel⟩,
   ⟨later 900000000000 { up with eth := { up.eth with fdb := [⟨5, 1, 4, false, 0⟩] } }, 5, 1, ⟨5, 1, 4, false, 0⟩, by decide +kernel⟩,
   ⟨((run 80 81 0x12 [31, 0, 0, 0, 0, 0, 0, 0, 0, 0, 0, 0, 0, 0, 0, 0, 8] up).wr (F.ETH_RIOs_CFG_LEN 31) 8).wr (F.ETH_RIOs_CFG_DIR 31) 1, desc 0x12 81 [31, 0, 0, 0, 0, 0, 0, 0, 0, 0, 0, 0, 0, 0, 0, 0, 8], by decide +kernel⟩,
   ⟨run 82 83 1 [0, 0, 0, 0, 0, 0, 0, 0, 0, 0, 0, 0, 0, 0, 0, 0, 64, 0, 4] (links up), desc 1 83 [0, 0, 0, 0, 0, 0, 0, 0, 0, 0, 0, 0, 0, 0, 0, 0, 64, 0, 4], 2, by decide +kernel⟩,
   ⟨run 84 85 2 [0, 0, 0, 0, 0, 0, 0, 0, 0, 0, 0, 0, 0, 0, 0, 0, 0, 8] up, desc 2 85 [0, 0, 0, 0, 0, 0, 0, 0, 0, 0, 0, 0, 0, 0, 0, 0, 0, 8], by decide +kernel⟩,
   ⟨rioOn, 2, 8, 31, { ethIn with etype := 0x88F7 }, by decide +kernel⟩,
   ⟨lidarOn, 2, 8, 0, 1, 9, 2368, false, false, false, udpFrame [7, 0, 9], [7, 0, 9], by decide +kernel⟩⟩

theorem test_hyps_TargetSessionCommandsComplete :
    (∃ (s : State) (conn addr qid kato : Nat), (s.targetOn = true)) ∧
    (∃ (s : State) (conn cid ofst : Nat) (c : NvmeConn), (s.targetOn = true) ∧ (s.hostConn conn = some c)) ∧
    (∃ (s : State) (conn cid ofst value : Nat) (c : NvmeConn), (s.targetOn = true) ∧ (s.hostConn conn = some c)) ∧
    (∃ (s : State) (conn cid : Nat) (c : NvmeConn), (s.targetOn = true) ∧ (s.hostConn conn = some c)) ∧
    (∃ (s : State) (conn cid cns nsid : Nat) (c : NvmeConn), (s.targetOn = true) ∧ (s.hostConn conn = some c)) ∧
    (∃ (s : State) (conn cid lid len : Nat) (retain : Bool) (c : NvmeConn), (s.targetOn = true) ∧ (s.hostConn conn = some c)) ∧
    (∃ (s : State) (conn cid fid value : Nat) (c : NvmeConn), (s.targetOn = true) ∧ (s.hostConn conn = some c)) ∧
    (∃ (s : State) (conn cid fid : Nat) (c : NvmeConn), (s.targetOn = true) ∧ (s.hostConn conn = some c)) ∧
    (∃ (s : State) (conn cid : Nat) (c : NvmeConn), (s.targetOn = true) ∧ (s.hostConn conn = some c) ∧ (c.owed = false) ∧ (s.eth.conns = [c])) ∧
    (∃ (s : State) (conn cid : Nat) (c : NvmeConn), (s.targetOn = true) ∧ (s.hostConn conn = some c)) ∧
    (∃ (s : State) (f : EthFrame) (src dst dport : Nat) (req : Bytes), (s.canopyOn = true) ∧ (s.linkUp 6 = true) ∧ (s.isService 6 f = true) ∧ (udpOf f = some (src, dst, false, dport, req)) ∧ (req.length = 16) ∧ (leAt req 4 1 = 1) ∧ (leAt req 5 1 = 1) ∧ ((s.gateList 6).entries = [])) ∧
    (∃ (s : State) (f : EthFrame) (src dst dport : Nat) (req : Bytes), (s.canopyOn = true) ∧ (s.linkUp 6 = true) ∧ (s.isService 6 f = true) ∧ (udpOf f = some (src, dst, false, dport, req)) ∧ (req.length = 20) ∧ (leAt req 4 1 = 2) ∧ (leAt req 5 1 = 1)) :=
  ⟨⟨target up, 7, 0x0A000001, 0, 5, by decide +kernel⟩,
   ⟨session, 7, 3, 0x1C, aConn, by decide +kernel⟩,
   ⟨session, 7, 3, 0x14, 0x460001, aConn, by decide +kernel⟩,
   ⟨session, 7, 3, aConn, by decide +kernel⟩,
   ⟨session, 7, 3, 0, 1, aConn, by decide +kernel⟩,
   ⟨session, 7, 3, 4, 16, false, aConn, by decide +kernel⟩,
   ⟨session, 7, 3, 0x0F, 5, aConn, by decide +kernel⟩,
   ⟨session, 7, 3, 0x0F, aConn, by decide +kernel⟩,
   ⟨session, 7, 3, aConn, by decide +kernel⟩,
   ⟨later 8 session, 7, 3, aConn, by decide +kernel⟩,
   ⟨svcOn, svcFrame 1 [], 1, 9, 7440, svcReq 1 [], by decide +kernel⟩,
   ⟨svcOn, svcFrame 2 [3, 0, 0, 0], 1, 9, 7440, svcReq 2 [3, 0, 0, 0], by decide +kernel⟩⟩

theorem test_hyps_PanelCommandsComplete :
    (∃ (s : State) (late : List Nat) (torn : Bool), (s.bedOn = true) ∧ (s.frameNow = true) ∧ (s.pan.lastFrame ≠ some s.now)) ∧
    (∃ (s : State) (c : Comp), (s.pan.comp = some c) ∧ (s.engineUp 4 = true) ∧ (s.on F.DSP_CTL_EN = true)) ∧
    (∃ (s : State) (locks : Nat), (s.bedOn = true) ∧ (s.pan.lanes = 1) ∧ (s.pan.trainAt + 110000 ≤ s.now)) ∧
    (∃ (s : State) (lane : Nat), (s.bedOn = true) ∧ (s.pan.lanes = 2) ∧ (lane < 8)) ∧
    (∃ (s : State) (torn : Bool), (s.bedOn = true) ∧ (s.rd F.DSP_PWRSTAT_MODE = 2) ∧ (s.now % 1000000000 = 0) ∧ (s.pan.lastStrip ≠ some s.now) ∧ (s.memOk s.stripAddr (64 + 153600) = true) ∧ (s.mem.poisoned s.stripAddr 64 = false) ∧ (s.mem.readLe s.stripAddr 4 ≠ s.rd F.DSP_SSEQ_SEQ) ∧ (s.mem.readLe (s.stripAddr + 60) 4 = s.mem.readLe s.stripAddr 4)) ∧
    (∃ (s : State) , (s.bedOn = true) ∧ (s.rd F.DSP_PWRSTAT_MODE = 1) ∧ (2 ≤ s.pan.missed ∨ s.canopyOn = false ∨ s.pan.failed = true)) ∧
    (∃ (s : State) (a : Agent) (v : W32), (s.accepts a 0x0E 0x004 = true) ∧ (bitAt v.toNat F.DSP_SSTAT_FALLBACK.lo = true)) ∧
    (∃ (s : State) (a : Agent) (mode : Bool), (s.accepts a 0x0E 0x008 = true)) ∧
    (∃ (s : State) (a : Agent) (mode : Bool), (s.accepts a 0x0E 0x008 = true)) ∧
    (∃ (s : State) (k : Nat), (s.bedOn = true) ∧ (s.rd F.DSP_PWRSTAT_STEP = k) ∧ ([1, 2, 3, 4, 6, 7, 9, 10, 11, 12, 13, 14].contains k = true) ∧ (s.pan.stepAt + stepWait s k ≤ s.now)) ∧
    (∃ (s : State) (e : Bytes), (s.canopyOn = true) ∧ (s.pan.vdd = true) ∧ (s.pan.mapAt = none) ∧ (s.pan.vddAt + 10000000 ≤ s.now) ∧ (s.rd F.DSP_MAPSTAT_STATE = 0 ∨ s.pan.mapAgain = true)) ∧
    (∃ (s : State) (e : Bytes) (t0 : Nat), (s.canopyOn = true) ∧ (s.pan.vdd = true) ∧ (s.pan.mapAt = some t0) ∧ (s.pan.mapDesc = none) ∧ (t0 + 400 * s.mapLen e ≤ s.now)) ∧
    (∃ (s : State) (d : Desc), (s.running 108 1 = some d) ∧ (s.pan.mapDesc ≠ some d)) :=
  ⟨⟨panelSmall { up.pan with built := true }, [], false, by decide +kernel⟩,
   ⟨later 80000 (panelSmall { up.pan with comp := some { start := 0, regs := [] } }), { start := 0, regs := [] }, by decide +kernel⟩,
   ⟨(later 20000000 (panelSmall { up.pan with lanes := 1 })).wr F.DSP_PWRSTAT_STEP 5 |>.wr F.DSP_PWRSTAT_STATE 1, 255, by decide +kernel⟩,
   ⟨panelSmall { up.pan with lanes := 2, locks := 255 }, 7, by decide +kernel⟩,
   ⟨let t := (panelSmall up.pan).wr F.DSP_PWRSTAT_MODE 2; { t with mem := (t.mem.writeBytes t.stripAddr [5]).writeBytes (t.stripAddr + 60) [5] }, false, by decide +kernel⟩,
   ⟨(panelSmall { up.pan with missed := 2 }).wr F.DSP_PWRSTAT_MODE 1 |>.wr F.DSP_SCTL_STRIPEN 1, by decide +kernel⟩,
   ⟨up.wr F.DSP_SSTAT_FALLBACK 1, .daleA, 0xFFFFFFFF, by decide +kernel⟩,
   ⟨up, .daleA, false, by decide +kernel⟩,
   ⟨up.wr F.DSP_PWRSTAT_STATE 2, .daleA, false, by decide +kernel⟩,
   ⟨(later 20000000 (panelSmall up.pan)).wr F.DSP_PWRSTAT_STEP 13, 13, by decide +kernel⟩,
   ⟨later 10000000 (panelSmall { up.pan with vdd := true }), [], by decide +kernel⟩,
   ⟨later 10000000 (panelSmall { up.pan with vdd := true, mapAt := some 0 }), unifMap, 0, by decide +kernel⟩,
   ⟨run 108 109 1 [] (panelSmall { up.pan with vdd := true }), desc 1 109 [], by decide +kernel⟩⟩

theorem test_hyps_DramCommandsComplete :
    (∃ (s : State) (req a : Nat) (wrong : List (Nat × Nat)), (s.lineOk a = true)) ∧
    (∃ (s : State) (req a : Nat) (wrong : List (Nat × Nat)), (s.lineOk a = true) ∧ (correctable (s.marking (dramSub s.code a)) (addErrs (s.lineErrs a) wrong) = false)) ∧
    (∃ (s : State) (a : Nat) (b : Bytes) (poison : Bool), (s.lineOk a = true) ∧ (s.mem.wf = true) ∧ ((s.mirrorParts a 64).all (fun m => decide (m.2.2.2 + m.2.2.1 ≤ a) || decide (a + 64 ≤ m.2.2.2)) = true)) ∧
    (∃ (s : State) (req a mask : Nat) (b : Bytes) (poison : Bool) (wrong : List (Nat × Nat)), (s.lineOk a = true) ∧ (s.mem.wf = true) ∧ (mask % 2 ^ 64 ≠ 2 ^ 64 - 1) ∧ ((s.mirrorParts a 64).all (fun m => decide (m.2.2.2 + m.2.2.1 ≤ a) || decide (a + 64 ≤ m.2.2.2)) = true)) ∧
    (∃ (s : State) (ag : Agent) (n dev : Nat), (n < 8) ∧ (dev < 16) ∧ (s.accepts ag 0x11 (0x104 + 0x40 * n) = true)) ∧
    (∃ (s : State) (ag : Agent) (n : Nat), (n < 8) ∧ (s.accepts ag 0x11 (0x104 + 0x40 * n) = true)) ∧
    (∃ (s : State) (core kind va a : Nat) (src : Nat × Bool), (s.canopyOn = true) ∧ (core < 16) ∧ (inDram s.code a = true) ∧ (s.mem.poisoned (a / 64 * 64) 64 = true)) ∧
    (∃ (s : State) (wrong : List (Nat × Nat)) (l : Nat), (s.rd F.MEM_SCRUBPOS_LINE = l) ∧ (s.on F.MEM_SCRUB_EN = true) ∧ (s.lineOk (64 * l) = true) ∧ (s.dram.visited + s.scrubStep ≤ s.now)) ∧
    (∃ (s : State) (ag : Agent), (s.accepts ag 0x11 0x03C = true) ∧ (s.on F.MEM_LINECMD_BUSY = false) ∧ (s.lineBad 1 = false) ∧ (s.on (F.HLT_TOKc_HELD 0) = false) ∧ ((s.token 0).waits = []) ∧ (s.mem.wf = true) ∧ ((s.mirrorParts s.lineAddr 64).all (fun m => decide (m.2.2.2 + m.2.2.1 ≤ s.lineAddr) || decide (s.lineAddr + 64 ≤ m.2.2.2)) = true)) ∧
    (∃ (s : State) (ag : Agent), (s.accepts ag 0x11 0x03C = true) ∧ (s.on F.MEM_LINECMD_BUSY = false) ∧ (s.lineBad 2 = false) ∧ (s.on (F.HLT_TOKc_HELD 0) = false) ∧ ((s.token 0).waits = [])) ∧
    (∃ (s : State) (ag : Agent), (s.accepts ag 0x11 0x03C = true) ∧ (s.on F.MEM_LINECMD_BUSY = false) ∧ (s.lineBad 3 = false) ∧ (s.on (F.HLT_TOKc_HELD 0) = false) ∧ ((s.token 0).waits = [])) ∧
    (∃ (s : State) (ag : Agent), (s.accepts ag 0x11 0x03C = true) ∧ (s.on F.MEM_LINECMD_BUSY = false) ∧ (s.lineBad 4 = false) ∧ (s.on (F.HLT_TOKc_HELD 0) = false) ∧ ((s.token 0).waits = []) ∧ (s.mem.wf = true) ∧ ((s.mirrorParts s.lineDst 4096).all (fun m => (decide (m.2.2.2 + m.2.2.1 ≤ s.lineDst) || decide (s.lineDst + 4096 ≤ m.2.2.2)) && (decide (m.2.2.2 + m.2.2.1 ≤ s.lineAddr) || decide (s.lineAddr + 4096 ≤ m.2.2.2))) = true) ∧ ((List.range 64).all (fun i => decide (s.lineErrs (s.lineAddr + 64 * i) = [])) = true)) ∧
    (∃ (s : State) (ag : Agent) (nfl : Bool), (s.accepts ag (if nfl then 0x12 else 0x11) (if nfl then 0x044 else 0x058) = true)) :=
  ⟨⟨dramOn up, 1, 64, [(3, 5)], by decide +kernel⟩,
   ⟨dramOn up, 1, 64, (List.range 8).map (fun i => (9 * i, 1)), by decide +kernel⟩,
   ⟨dramOn up, up.code.dramSize - 64, [1, 2], true, by decide +kernel⟩,
   ⟨dramOn up, 1, 64, 3, [7, 8, 9], false, [(3, 5)], by decide +kernel⟩,
   ⟨dramOn up, .daleA, 7, 9, by decide +kernel⟩,
   ⟨(dramOn up).markDevice 7 2, .daleA, 7, by decide +kernel⟩,
   ⟨{ up with mem := up.mem.remark 64 64 true }, 15, 2, 9, 70, (0, true), by decide +kernel⟩,
   ⟨later 9000000000 ((dramOn up).wr F.MEM_SCRUB_EN 1), [(3, 5)], 0, by decide +kernel⟩,
   ⟨{ dramOn up with mem := up.mem.writeBytes 0 [5] }, .daleA, by decide +kernel⟩,
   ⟨(dramOn up).setErrs 0 [(3, 5)], .daleA, by decide +kernel⟩,
   ⟨((dramOn up).wr F.MEM_INJ_NSYM 3).wr F.MEM_INJ_MASK 7, .daleA, by decide +kernel⟩,
   ⟨({ dramOn up with mem := (up.mem.writeBytes 5 [5]).remark 64 64 true }).wr F.MEM_DSTADDR_LO_ADDR 64, .daleA, by decide +kernel⟩,
   ⟨(up.wr F.MEM_LOGHEAD_COUNT 48).wr F.MEM_LOGHEAD_OLDEST 47, .daleA, false, by decide +kernel⟩⟩

theorem test_hyps_NandCommandsComplete :
    (∃ (s : State) (q : Nat) (flips : List Nat) (d : Desc), (q = 68 ∨ q = 70) ∧ (s.running q 1 = some d)) ∧
    (∃ (s : State) (q : Nat) (fail bad : Bool) (d : Desc), (q = 68 ∨ q = 70) ∧ (s.running q 2 = some d)) ∧
    (∃ (s : State) (q : Nat) (fail : Bool) (d : Desc), (q = 68 ∨ q = 70) ∧ (s.running q 3 = some d)) ∧
    (∃ (s : State) (flips : List Nat) (d : Desc), (s.running 70 0x10 = some d)) ∧
    (∃ (s : State) (fail : Bool) (d : Desc), (s.running 70 0x11 = some d) ∧ (s.on F.NFL_CTL_RAWEN = true) ∧ (s.bufStatus (d.le 24 8) pageSize = 0) ∧ (d.zeros 32 32 = true) ∧ (s.badPage 1 (d.le 16 4) = false)) ∧
    (∃ (s : State) (d : Desc), (s.running 70 0x12 = some d)) :=
  ⟨⟨run 68 69 1 [0, 0, 1, 0] (dramOn up), 68, [], desc 1 69 [0, 0, 1, 0], by decide +kernel⟩,
   ⟨run 68 69 2 [0, 0, 1, 0] (dramOn up), 68, false, false, desc 2 69 [0, 0, 1, 0], by decide +kernel⟩,
   ⟨run 68 69 3 [0, 0, 1, 0] { up with nand := { up.nand with pages := [(0x10005, [1]), (0x20000, [2])] } }, 68, false, desc 3 69 [0, 0, 1, 0], by decide +kernel⟩,
   ⟨(run 70 71 0x10 [0, 0, 1, 0] (dramOn up)).wr F.NFL_CTL_RAWEN 1, [3], desc 0x10 71 [0, 0, 1, 0], by decide +kernel⟩,
   ⟨(run 70 71 0x11 [0, 0, 1, 0] (dramOn up)).wr F.NFL_CTL_RAWEN 1, false, desc 0x11 71 [0, 0, 1, 0], by decide +kernel⟩,
   ⟨(run 70 71 0x12 [] (dramOn up)).wr F.NFL_CTL_RAWEN 1, desc 0x12 71 [], by decide +kernel⟩⟩

theorem test_hyps_TerraceAdminComplete :
    (∃ (s : State) (d : Desc), (s.terUp = true) ∧ (s.running 72 1 = some d) ∧ (d.le 16 1 < 64) ∧ (d.le 17 1 ≤ 1) ∧ (d.le 18 1 ≤ 2) ∧ (s.code = .l → d.le 18 1 = 0) ∧ (d.le 20 4 ≠ 0) ∧ ((s.ns (d.le 16 1)).present = false) ∧ (s.nsExt + d.le 20 4 ≤ s.rd F.TER_CAPLIM_EXT) ∧ (16 * (s.nsExt + d.le 20 4) ≤ s.rd F.TER_MAPSIZE_SIZE * 0x1000000)) ∧
    (∃ (s : State) (d : Desc), (s.terUp = true) ∧ (s.running 72 2 = some d) ∧ (d.le 16 1 < 64) ∧ ((s.ns (d.le 16 1)).present = true) ∧ ((s.ns (d.le 16 1)).deleting = none)) ∧
    (∃ (s : State) (d : Desc), (s.terUp = true) ∧ (s.running 72 3 = some d) ∧ (d.le 16 1 < 64) ∧ (s.bufStatus (d.le 24 8) 64 = 0) ∧ (s.nsOpen (d.le 16 1) none = true)) ∧
    (∃ (s : State) (d : Desc), (s.terUp = true) ∧ (s.running 72 4 = some d) ∧ (d.le 16 1 < 32)) ∧
    (∃ (s : State) (d : Desc), (s.terUp = true) ∧ (s.running 72 5 = some d) ∧ (d.le 16 1 < 32)) ∧
    (∃ (s : State) (blocks : List Nat) (d : Desc), (s.terUp = true) ∧ (s.running 72 6 = some d) ∧ (1 ≤ d.le 16 1) ∧ (d.le 16 1 ≤ 16) ∧ (d.le 16 1 ≤ blocks.length) ∧ (s.bufStatus (d.le 24 8) (4 * d.le 16 1) = 0)) ∧
    (∃ (s : State) (fails : List Nat) (d : Desc), (s.terUp = true) ∧ (s.running 72 7 = some d) ∧ (1 ≤ d.le 16 1) ∧ (d.le 16 1 ≤ 16) ∧ (s.bufStatus (d.le 24 8) (4 * d.le 16 1) = 0) ∧ ((List.range (d.le 16 1)).all (fun i => s.ter.lent.contains (s.mem.readLe (d.le 24 8 + 4 * i) 4)) = true)) ∧
    (∃ (s : State) (d : Desc), (s.terUp = true) ∧ (s.running 72 8 = some d) ∧ (d.le 16 1 < 64) ∧ (d.le 24 4 ≠ 0) ∧ (s.bufStatus (d.le 32 8) (16 * d.le 24 4) = 0) ∧ (s.nsOpen (d.le 16 1) none = true) ∧ (d.le 20 4 + d.le 24 4 ≤ (s.ns (d.le 16 1)).size)) ∧
    (∃ (s : State) (d : Desc), (s.terUp = true) ∧ (s.running 72 9 = some d) ∧ (d.le 16 1 < 32) ∧ (s.ter.evac ≠ some d)) ∧
    (∃ (s : State) (d : Desc), (s.terUp = true) ∧ (s.running 72 9 = some d) ∧ (d.le 16 1 < 32) ∧ (s.ter.evac = some d) ∧ (s.on (F.HLT_TOKc_HELD 2) = false) ∧ (s.ter.exts.any (fun e => e.2.on (d.le 16 1)) = false)) :=
  ⟨⟨(run 72 73 1 [2, 1, 2, 1, 5] (terOn up)).wr F.TER_MAPSIZE_SIZE 1, desc 1 73 [2, 1, 2, 1, 5], by decide +kernel⟩,
   ⟨{ terRun 72 2 0 [2] with ter := { (terRun 72 2 0 [2]).ter with exts := [(extKey 2 0, { st := 1 })], blocks := [(blkKey 2 5, [1])] } }, desc 2 73 [2], by decide +kernel⟩,
   ⟨terRun 72 3 0 [2], desc 3 73 [2], by decide +kernel⟩,
   ⟨terDrv { st := 4 } (terRun 72 4 0 [31]), desc 4 73 [31], by decide +kernel⟩,
   ⟨terDrv { st := 3 } (terRun 72 5 0 [31]), desc 5 73 [31], by decide +kernel⟩,
   ⟨terRun 72 6 0 [2], [1024, 2048, 4096], desc 6 73 [2], by decide +kernel⟩,
   ⟨let t := terRun 72 7 0 [1]; { t with ter := { t.ter with lent := [0, 1024] } }, [], desc 7 73 [1], by decide +kernel⟩,
   ⟨terRun 72 8 0 [2, 0, 0, 0, 1, 0, 0, 0, 3], desc 8 73 [2, 0, 0, 0, 1, 0, 0, 0, 3], by decide +kernel⟩,
   ⟨terDrv { st := 2 } (terRun 72 9 0 [31]), desc 9 73 [31], by decide +kernel⟩,
   ⟨let t := terDrv { st := 6, cap := 9 } (terRun 72 9 0 [31]); { t with ter := { t.ter with evac := some (desc 9 73 [31]) } }, desc 9 73 [31], by decide +kernel⟩⟩

theorem test_hyps_TerraceDataComplete :
    (∃ (s : State) (bad : List Nat) (d : Desc), (s.terUp = true) ∧ (s.running 74 0x10 = some d) ∧ (d.le 16 1 < 64) ∧ (1 ≤ d.le 20 4) ∧ (d.le 20 4 ≤ 65536) ∧ (s.bufStatus (d.le 32 8) (4096 * d.le 20 4) = 0)) ∧
    (∃ (s : State) (d : Desc), (s.terUp = true) ∧ (s.running 74 0x11 = some d) ∧ (d.le 16 1 < 64) ∧ (1 ≤ d.le 20 4) ∧ (d.le 20 4 ≤ 65536) ∧ (s.bufStatus (d.le 32 8) (4096 * d.le 20 4) = 0) ∧ (s.rangeStatus (d.le 16 1) (d.le 24 8) (d.le 20 4) (some d) = 0)) ∧
    (∃ (s : State) (d : Desc), (s.terUp = true) ∧ (s.running 74 0x12 = some d) ∧ (d.le 16 1 < 64) ∧ (1 ≤ d.le 20 4) ∧ (d.le 20 4 ≤ 2 ^ 28) ∧ (s.bufStatus (d.le 32 8) (d.le 20 4) = 0) ∧ (s.nsOpen (d.le 16 1) (some d) = true)) ∧
    (∃ (s : State) (d : Desc), (s.terUp = true) ∧ (s.running 74 0x13 = some d)) ∧
    (∃ (s : State) (d : Desc), (s.terUp = true) ∧ (s.running 74 0x14 = some d) ∧ (d.le 16 1 < 64) ∧ (1 ≤ d.le 20 4) ∧ (d.le 20 4 ≤ 65536) ∧ (d.le 24 8 + d.le 20 4 ≤ 2 ^ 42) ∧ (s.rangeStatus (d.le 16 1) (d.le 24 8) (d.le 20 4) (some d) = 0) ∧ (s.anyMissing (d.le 16 1) (d.le 24 8) (d.le 20 4) = false) ∧ ((s.ns (d.le 16 1)).kind = 0)) ∧
    (∃ (s : State) (d : Desc), (s.terUp = true) ∧ (s.running 76 0x20 = some d)) ∧
    (∃ (s : State) (bad : List (Nat × Nat)) (rewritten : Nat), (s.terUp = true) ∧ (s.on F.TER_REFRESH_EN = true ∨ s.ter.pass = true) ∧ (s.on (F.HLT_TOKc_HELD 1) = false)) :=
  ⟨⟨let t := terRun 74 0x10 0 [2, 0, 0, 0, 1]; { t with ter := { t.ter with blocks := [(blkKey 2 0, [9, 8])] } }, [], desc 0x10 75 [2, 0, 0, 0, 1], by decide +kernel⟩,
   ⟨let t := terRun 74 0x11 0 [2, 0, 0, 0, 2]; { t with mem := t.mem.writeBytes 4095 [5, 6] }, desc 0x11 75 [2, 0, 0, 0, 2], by decide +kernel⟩,
   ⟨let t := terRun 74 0x12 1 [2, 0, 0, 0, 3, 0, 0, 0, 0, 0, 0, 0, 0, 0, 0, 0, 64]; { t.setNs 2 { t.ns 2 with wpos := 4160 } with mem := t.mem.writeBytes 64 [5, 6, 7] }, desc 0x12 75 [2, 0, 0, 0, 3, 0, 0, 0, 0, 0, 0, 0, 0, 0, 0, 0, 64], by decide +kernel⟩,
   ⟨terRun 74 0x13 0 [2], desc 0x13 75 [2], by decide +kernel⟩,
   ⟨let t := terRun 74 0x14 0 [2, 0, 0, 0, 2]; { t with ter := { t.ter with blocks := [(blkKey 2 0, [1]), (blkKey 2 1, [1]), (blkKey 2 2, [1])] } }, desc 0x14 75 [2, 0, 0, 0, 2], by decide +kernel⟩,
   ⟨terRun 76 0x20 0 [], desc 0x20 77 [], by decide +kernel⟩,
   ⟨(terRun 76 0x20 0 []).wr F.TER_REFRESH_EN 1, [], 3, by decide +kernel⟩⟩

theorem test_hyps_TerraceMovesAndDrivesComplete :
    (∃ (s : State) (k : Nat) (l : List Nat), (s.terUp = true) ∧ (s.ter.move = none) ∧ (s.moveNext = some k) ∧ (s.tier1Place (s.ns (extNs k)).copies2 = some l) ∧ (s.on (F.HLT_TOKc_HELD 2) = false)) ∧
    (∃ (s : State) (m : Move), (s.terUp = true) ∧ (s.ter.move = some m)) ∧
    (∃ (s : State) (k : Nat) (d : Option Nat), (s.terUp = true) ∧ (s.ter.move = none) ∧ (s.mirrorNext = some (k, d)) ∧ (s.on (F.HLT_TOKc_HELD 2) = false)) ∧
    (∃ (s : State) (slot gen width rpGen rpWidth : Nat) (suits : Bool) (exts : Nat) (label : Option (Nat × Nat × Nat)) (wear : W32), (s.pceOn = true) ∧ (s.on F.PCE_CTL_EN = true) ∧ (slot < 32) ∧ (s.on (F.PCE_SLOTs_CTL_PWR slot) = true)) ∧
    (∃ (s : State) (slot : Nat) (flight : List (Nat × Nat)), (s.terUp = true) ∧ (slot < 32)) ∧
    (∃ (s : State) (slot : Nat) (flight : List (Nat × Nat)), (s.terUp = true) ∧ (slot < 32)) ∧
    (∃ (s : State) , (s.terUp = true) ∧ (s.on F.TER_CAMCTL_EN = true) ∧ (s.cqReady 95 = true) ∧ (s.unconsumed 95 ≠ 0) ∧ ((s.ring 95).idx < s.ringSize 95)) ∧
    (∃ (s : State) (n : Nat), (s.terUp = true) ∧ (s.on F.TER_TILECTL_EN = true) ∧ (s.cqReady 107 = true) ∧ (s.unconsumed 107 ≠ 0) ∧ ((s.ring 107).idx < s.ringSize 107) ∧ (s.rd F.TER_TILECTL_NS = n) ∧ (s.ter.index = []) ∧ (s.nsOpen n none = true) ∧ ((s.ns n).kind = 1) ∧ ((s.ns n).wpos = 0) ∧ (1 ≤ (s.ns n).size) ∧ ((s.ext (extKey n 0)).st = 1) ∧ (s.tierReadOnly = false)) ∧
    (∃ (s : State) (ag : Agent) (v : W32) (ms : Option Nat), (s.accepts ag 0x13 0x000 = true) ∧ (s.on F.TER_CTL_EN = false) ∧ (v.getLsbD 31 = true) ∧ (s.terCause = 0)) ∧
    (∃ (s : State) (ag : Agent) (v : W32), (s.accepts ag 0x13 0x000 = true) ∧ (s.on F.TER_CTL_EN = true) ∧ (v.getLsbD 31 = false) ∧ (s.terUp = true)) :=
  ⟨⟨let t := terDrv { st := 2, cap := 9 } (terRun 76 0 0 []); let u := t.setNs 2 { t.ns 2 with policy := 2 }; { u with now := 10 ^ 15, ter := { u.ter with exts := [(extKey 2 1, { st := 1 })] } }.wr F.TER_TIERCTL_LOW 0, extKey 2 1, [31], by decide +kernel⟩,
   ⟨let t := terDrv { st := 2, cap := 9 } (terRun 76 0 0 []); { t with ter := { t.ter with exts := [(extKey 2 1, { st := 3 })], move := some ⟨extKey 2 1, [31], 15, false⟩ } }, ⟨extKey 2 1, [31], 15, false⟩, by decide +kernel⟩,
   ⟨let t := terDrv { st := 2, cap := 9 } (terRun 76 0 0 []); { t with ter := { t.ter with drives := [(30, { st := 2, cap := 9 }), (31, { st := 2, cap := 9 })], exts := [(extKey 2 1, { st := 4, a := 30, b := 31, stale := 31 })] } }, extKey 2 1, none, by decide +kernel⟩,
   ⟨pceUp (terRun 76 0 0 []), 31, 4, 4, 4, 8, true, 100, some (0, 31, 1), 5, by decide +kernel⟩,
   ⟨terDrv { st := 2, cap := 9 } (terRun 76 0 0 []), 31, [], by decide +kernel⟩,
   ⟨terDrv { st := 2, cap := 9 } (terRun 76 0 0 []), 31, [], by decide +kernel⟩,
   ⟨(entryWaits 95 ([0x80, 1] ++ List.replicate 26 0 ++ [3]) (terRun 76 0 1 [])).wr F.TER_CAMCTL_EN 1 |>.wr F.TER_CAMCTL_NS 2, by decide +kernel⟩,
   ⟨let t := (entryWaits 107 [1] (terRun 76 0 1 [])).wr F.TER_TILECTL_EN 1 |>.wr F.TER_TILECTL_NS 2; { t with ter := { t.ter with exts := [(extKey 2 0, { st := 1 })] } }, 2, by decide +kernel⟩,
   ⟨(((dramOn up).wr F.TER_MAPSIZE_SIZE 1).wr F.TER_STAGESIZE_SIZE 64).wr F.TER_STAGEBASE_BASE 0x4000, .daleA, 0x80000000, some 7, by decide +kernel⟩,
   ⟨(terOn (dramOn up)).wr F.TER_CTL_EN 1, .daleA, 0, by decide +kernel⟩⟩

theorem test_hyps_PciExpressCommandsComplete :
    (∃ (s : State) (d : Desc), (s.running 110 1 = some d) ∧ (d.le 16 1 < 32) ∧ (d.le 17 1 ≤ 1)) ∧
    (∃ (s : State) (gen width : Nat) (d : Desc), (s.running 110 2 = some d) ∧ (d.le 16 1 < 32)) ∧
    (∃ (s : State) (n : Nat), (s.pceOn = true) ∧ (n < 32)) ∧
    (∃ (s : State) , (s.pceOn = true)) ∧
    (∃ (s : State) (slot : Option Nat) (hdr addr : Nat) (core : Nat × Nat × Nat × Bool), (s.pceOn = true) ∧ (s.on F.PCE_CTL_EN = true) ∧ (core.1 < 16)) ∧
    (∃ (s : State) (up : Bool) (gen width : Nat), (s.pceOn = true) ∧ (s.on F.PCE_CTL_EN = true) ∧ (s.on F.PCE_CTL_SPLIT = true) ∧ (s.on F.PCE_EPCTL_EN = true)) :=
  ⟨⟨run 110 111 1 [31] (pceUp up), desc 1 111 [31], by decide +kernel⟩,
   ⟨run 110 111 2 [31] (pceUp up), 3, 4, desc 2 111 [31], by decide +kernel⟩,
   ⟨pceUp up, 31, by decide +kernel⟩,
   ⟨(pceUp up).wr F.PCE_STAT_RPUP 1, by decide +kernel⟩,
   ⟨pceUp up, some 3, 4, 5, (15, 2, 77, true), by decide +kernel⟩,
   ⟨((pceUp base).wr F.PCE_CTL_SPLIT 1).wr F.PCE_EPCTL_EN 1, true, 4, 4, by decide +kernel⟩⟩

theorem test_hyps_HostIoComplete :
    (∃ (s : State) (conn cid nsid lba blocks : Nat) (c : NvmeConn), (s.targetOn = true) ∧ (s.hostConn conn = some c)) ∧
    (∃ (s : State) (conn cid nsid lba : Nat) (data : List Bytes) (c : NvmeConn), (s.targetOn = true) ∧ (s.hostConn conn = some c) ∧ (s.exported nsid = true) ∧ (data.length ≤ 256) ∧ (lba + data.length ≤ (s.ns (nsid - 1)).size * 1024)) ∧
    (∃ (s : State) (conn cid nsid : Nat) (c : NvmeConn), (s.targetOn = true) ∧ (s.hostConn conn = some c)) ∧
    (∃ (s : State) (conn cid nsid : Nat) (dealloc : Bool) (ranges : List (Nat × Nat)) (c : NvmeConn), (s.targetOn = true) ∧ (s.hostConn conn = some c) ∧ (s.exported nsid = true) ∧ ((s.ns (nsid - 1)).size ≤ 2 ^ 32)) ∧
    (∃ (s : State) (conn cid nsid lba blocks : Nat) (c : NvmeConn), (s.targetOn = true) ∧ (s.hostConn conn = some c) ∧ (s.exported nsid = true) ∧ (lba + blocks ≤ (s.ns (nsid - 1)).size * 1024) ∧ (s.hostWritable (nsid - 1) = true) ∧ ((s.needExts (nsid - 1) (extsOf lba blocks)).2 = 0)) :=
  ⟨⟨{ hostNs 0 with ter := { (hostNs 0).ter with blocks := [(blkKey 2 1, [9, 8])] } }, 7, 3, 3, 1, 1, aConn, by decide +kernel⟩,
   ⟨hostNs 0, 7, 3, 3, 1, [[5], [6]], aConn, by decide +kernel⟩,
   ⟨hostNs 0, 7, 3, 3, aConn, by decide +kernel⟩,
   ⟨{ hostNs 0 with ter := { (hostNs 0).ter with blocks := [(blkKey 2 1, [9, 8])] } }, 7, 3, 3, true, [(1, 1), (5, 2)], aConn, by decide +kernel⟩,
   ⟨{ hostNs 0 with ter := { (hostNs 0).ter with blocks := [(blkKey 2 1, [9, 8])] } }, 7, 3, 3, 1, 2, aConn, by decide +kernel⟩⟩

theorem test_hyps_BedAndCanopySequencesComplete :
    (∃ (s : State) (q : SeqIn) (ms : Nat), (q.durs = [ms]) ∧ (s.pwr.step = 1 ∨ s.pwr.step = 2) ∧ (s.pwr.turn = none)) ∧
    (∃ (s : State) (q : SeqIn) (ms : Nat), (q.durs = [ms]) ∧ (s.pwr.step = 3) ∧ (s.pwr.turn = none) ∧ (s.pwr.hot = false)) ∧
    (∃ (s : State) (q : SeqIn) (ms : Nat), (q.durs = [ms]) ∧ (s.pwr.step = 4) ∧ (s.pwr.turn = none) ∧ (s.pwr.booted = true) ∧ (s.bedOn = true)) ∧
    (∃ (s : State) (q : SeqIn) (ms : Nat), (q.durs = [ms]) ∧ (s.pwr.step = 6) ∧ (s.pwr.turn = none) ∧ (s.bedOn = true)) ∧
    (∃ (s : State) (q : SeqIn) (ms : Nat), (q.durs = [ms]) ∧ (s.pwr.step = 9 ∨ s.pwr.step = 10) ∧ (s.pwr.turn = none) ∧ (s.bedOn = true) ∧ (s.pwr.step = 10 → s.latches = [])) ∧
    (∃ (s : State) (q : SeqIn) (ms : Nat), (q.durs = [ms]) ∧ (s.pwr.step = 11) ∧ (s.pwr.turn = none)) ∧
    (∃ (s : State) (q : SeqIn) (ms : Nat), (q.durs = [ms]) ∧ (s.pwr.step = 15) ∧ (s.pwr.turn = none)) ∧
    (∃ (s : State) (q : SeqIn) (ms : Nat), (q.durs = [ms]) ∧ (s.pwr.step = 16) ∧ (s.pwr.turn = none)) ∧
    (∃ (s : State) (q : SeqIn) (ms : Nat), (q.durs = [ms]) ∧ (s.pwr.step = 17) ∧ (s.pwr.turn = none)) ∧
    (∃ (s : State) (q : SeqIn) (at0 : Nat), (q.durs = []) ∧ (s.pwr.retryAt = some at0) ∧ (at0 ≤ s.now) ∧ (s.bedOn = true) ∧ (s.pwr.st = 2) ∧ (s.pwr.step = 0) ∧ (s.target = 2) ∧ (s.rd F.SYS_SHED_SHST ≠ 2)) ∧
    (∃ (s : State) (q : SeqIn), (q.durs = []) ∧ (s.bedOn = true) ∧ (s.pwr.st = 3) ∧ (s.pwr.step = 0) ∧ (s.pwr.tableDue = false) ∧ (s.target ≠ 2)) ∧
    (∃ (s : State) (q : SeqIn) (ms : Nat), (q.durs = [ms]) ∧ (s.pwr.step = 22) ∧ (s.pwr.turn = none)) ∧
    (∃ (s : State) , (s.pwr.step = 19) ∧ (s.pwr.stepAt + s.rd F.SYS_PWRCFG_CANGRACE * 1000000000 ≤ s.now)) :=
  ⟨⟨pw 1 1 armed, seqOf [3], 3, by decide +kernel⟩,
   ⟨pw 1 3 armed, seqOf [3], 3, by decide +kernel⟩,
   ⟨pw 1 4 bedOnly, seqOf [3], 3, by decide +kernel⟩,
   ⟨pw 1 6 bedOnly, seqOf [3], 3, by decide +kernel⟩,
   ⟨(pw 2 9 bedOnly).wr F.FUR_RUN_EN 1 |>.wr F.FUR_STATE_STATE 1, seqOf [3], 3, by decide +kernel⟩,
   ⟨pw 2 11 bedOnly, seqOf [3], 3, by decide +kernel⟩,
   ⟨pw 2 15 bedOnly, seqOf [3], 3, by decide +kernel⟩,
   ⟨pw 2 16 up, seqOf [3], 3, by decide +kernel⟩,
   ⟨pw 2 17 up, seqOf [3], 3, by decide +kernel⟩,
   ⟨{ bedOnly with pwr := { bedOnly.pwr with retryAt := some 0 } }.wr F.SYS_PWRSTATE_TARGET 2, seqOf [], 0, by decide +kernel⟩,
   ⟨pw 3 0 up, seqOf [], by decide +kernel⟩,
   ⟨pw 3 22 up, seqOf [3], 3, by decide +kernel⟩,
   ⟨{ pw 3 19 up with now := 10 ^ 15 }, by decide +kernel⟩⟩

theorem test_hyps_PowerRequestsComplete :
    (∃ (s : State) (ag : Agent) (v : W32), (s.accepts ag 0x00 0x018 = true) ∧ (listedAt Reg.SYS_PWRREQ v = true)) ∧
    (∃ (s : State) (ag : Agent) (v : W32), (s.accepts ag 0x00 0x018 = true) ∧ (listedAt Reg.SYS_PWRREQ (setBits v 31 31 1) = true) ∧ (s.carrier = some ag) ∧ (s.pwr.step = 19) ∧ (v.toNat % 4 ≠ 2)) ∧
    (∃ (s : State) , (s.rootOn = true)) ∧
    (∃ (s : State) (since : Nat), (s.bedOn = true) ∧ (s.pwr.reset = false) ∧ (s.on F.SYS_PWRCFG_AUTO = true) ∧ (s.pwr.ignBar.all (fun b => decide (b < since)) = true) ∧ (s.pwr.bu6At ≤ since) ∧ (since + s.rd F.SYS_PWRCFG_IGNOFF * 1000000000 ≤ s.now)) ∧
    (∃ (s : State) (src : Nat), (s.rootOn = true) ∧ (src < 8) ∧ (s.pwr.st = 1) ∧ (s.wakeOn src = true)) ∧
    (∃ (s : State) (e : Nat), (s.rootOn = true) ∧ (s.pwr.wEnd = some e) ∧ (e ≤ s.pwr.root)) ∧
    (∃ (s : State) (n : Nat) (rising : Bool), (s.rootOn = true) ∧ (n = 1 ∨ n = 2)) ∧
    (∃ (s : State) , (s.bedOn = true) ∧ (s.pwr.st = 2) ∧ (s.pwr.step = 0) ∧ (s.pwr.tableDue = false) ∧ (s.target = 0)) ∧
    (∃ (s : State) (c sa : Nat), (s.bedOn = true) ∧ ((s.ctl c).keep = some sa)) ∧
    (∃ (s : State) , (s.bedOn = true) ∧ ((s.pwr.step = 0x18 ∧ s.pwr.sent = 0 ∧ s.pwr.holdAt + s.holdOff ≤ s.now) ∨ (s.pwr.step = 0x19 ∧ s.pwr.sent ≤ 2 ∧ s.pwr.reqAt + 10000000 ≤ s.now))) ∧
    (∃ (s : State) , (s.bedOn = true) ∧ (s.pwr.step = 0x1A) ∧ (s.pwr.reqAt + s.rd F.SYS_SLEEPCFG_SBDLY * 10000000 ≤ s.now)) ∧
    (∃ (s : State) (c : Nat), (s.bedOn = true) ∧ ((s.ctl c).wuf = true) ∧ (s.lateStep = true) ∧ (s.pwr.turn = none)) :=
  ⟨⟨bedOnly, .scarecrow, 2, by decide +kernel⟩,
   ⟨pw 3 19 up, .daleA, 1, by decide +kernel⟩,
   ⟨bedOnly.wr F.SYS_PWRCFG_AUTO 1, by decide +kernel⟩,
   ⟨{ bedOnly.wr F.SYS_PWRCFG_AUTO 1 with now := 10 ^ 15 }, 5, by decide +kernel⟩,
   ⟨waking armed, 7, by decide +kernel⟩,
   ⟨waking { armed with pwr := { armed.pwr with wEnd := some 0 } }, 0, by decide +kernel⟩,
   ⟨((waking armed).rootWr F.RTD_WAKECFG_W1EDGE 2).rootWr F.RTD_WAKECFG_W2EDGE 2, 2, false, by decide +kernel⟩,
   ⟨bedOnly.wr F.SYS_PWRSTATE_TARGET 0, by decide +kernel⟩,
   ⟨(agreed 0x18).setCtl 0 { keep := some 0x99 }, 0, 0x99, by decide +kernel⟩,
   ⟨agreed 0x18, by decide +kernel⟩,
   ⟨agreed 0x1A, by decide +kernel⟩,
   ⟨(agreed 0x1A).setCtl 1 { wuf := true }, 1, by decide +kernel⟩⟩

theorem test_hyps_ResetsAndSupplyComplete :
    (∃ (s : State) (ag : Agent) (v : W32) (q : SeqIn) (ms : Nat), (s.accepts ag 0x00 0x02C = true) ∧ (v.toNat / 2 ^ 16 = 0x52E5) ∧ (q.durs = [ms]) ∧ (s.pwr.reset = false)) ∧
    (∃ (s : State) (ag : Agent) (v : W32) (q : SeqIn) (m n : Nat), (s.accepts ag 0x00 0x02C = true) ∧ (v.toNat / 2 ^ 16 = 0x52E5) ∧ (q.durs = [m, n]) ∧ (s.canopyOn = true) ∧ (s.bedOn = true) ∧ (s.target = 2)) ∧
    (∃ (s : State) (released : Bool) (q : SeqIn), (s.rootOn = true) ∧ (s.rootBit F.RTD_STAT_BTNSTUCK = false) ∧ (q.durs = [])) ∧
    (∃ (s : State) , (s.rootOn = true) ∧ (s.rootBit F.RTD_WAKELVL_BTN = true)) ∧
    (∃ (s : State) , (s.rootOn = true)) ∧
    (∃ (s : State) (mv : Nat), (s.rootOn = true) ∧ (s.pwr.st ≠ 0) ∧ (6000 ≤ mv) ∧ (mv < 9000)) ∧
    (∃ (s : State) (mv : Nat), (s.rootOn = true) ∧ (s.pwr.st ≠ 0) ∧ (32000 < mv) ∧ (mv ≤ 60000)) ∧
    (∃ (s : State) (mv : Nat) (ok : Bool), (s.rootOn = true) ∧ (s.pwr.st ≠ 0) ∧ (mv < 6000)) ∧
    (∃ (s : State) (mv : Nat), (s.rootOn = true) ∧ (s.pwr.st = 0) ∧ (8000 < mv)) :=
  ⟨⟨pw 3 0 up, .daleA, rstKey 1, seqOf [3], 3, by decide +kernel⟩,
   ⟨(pw 3 0 up).wr F.SYS_PWRSTATE_TARGET 2, .daleA, rstKey 2, seqOf [3, 4], 3, 4, by decide +kernel⟩,
   ⟨pw 3 0 up, true, seqOf [], by decide +kernel⟩,
   ⟨bedOnly.rootWr F.RTD_WAKELVL_BTN 1, by decide +kernel⟩,
   ⟨bedOnly.rootWr F.RTD_STAT_BTNSTUCK 1, by decide +kernel⟩,
   ⟨bedOnly, 8999, by decide +kernel⟩,
   ⟨bedOnly, 60000, by decide +kernel⟩,
   ⟨pw 3 0 up, 5999, true, by decide +kernel⟩,
   ⟨waking { State.reset with rootOn := true }, 12000, by decide +kernel⟩⟩

theorem test_hyps_HeatAndRootComplete :
    (∃ (s : State) , (s.bedOn = true) ∧ (s.on F.SYS_SHED_EN = true) ∧ (s.rd F.SYS_SHED_SHST = 1) ∧ (s.tim.aboveCrit = true) ∧ (s.pwr.shedAt + s.rd F.SYS_SHED_WAIT * 1000000000 ≤ s.now)) ∧
    (∃ (s : State) (c : Nat), (s.bedOn = true) ∧ (s.on F.SYS_SHED_AUTORET = true) ∧ (s.rd F.SYS_SHED_SHST = 2) ∧ (s.pwr.coolAt = some c) ∧ (c + 60000000000 ≤ s.now)) ∧
    (∃ (s : State) (q : SeqIn) (h : Nat), (q.durs = []) ∧ (s.bedOn = true) ∧ (s.canopyOn = true) ∧ (s.pwr.hotAt = some h) ∧ (h + 10000000 ≤ s.now) ∧ (s.pwr.step ≠ 0x15) ∧ (s.pwr.step ≠ 0x16)) ∧
    (∃ (s : State) (q : SeqIn) (n : Nat), (q.durs = []) ∧ (s.bedOn = true) ∧ (s.pwr.reset = false) ∧ (n < 24) ∧ (s.on (F.HLT_TEMPn_VALID n) = true) ∧ (1200 ≤ s.tempOf n)) ∧
    (∃ (s : State) (mv : Nat) (dq : Int) (ok : Bool), (s.rootOn = true) ∧ (s.rootRd F.RTD_CELLCFG_VLOW ≤ mv) ∧ (s.rootRd F.RTD_CELLQ_UAH ≠ 0) ∧ (0 ≤ dq) ∧ (mv < 65536) ∧ ((s.rootRd F.RTD_CELLQ_UAH : Int) + dq ≤ 50000) ∧ (2300 ≤ mv)) ∧
    (∃ (s : State) (mv : Nat) (dq : Int) (ok : Bool), (s.rootOn = true)) ∧
    (∃ (s : State) (ok : Bool) (c : Nat), (s.rootOn = true) ∧ (s.saveDue = some c) ∧ (s.upd.unsaved = [])) ∧
    (∃ (s : State) (ag : Agent), (s.accepts ag 0x02 0x048 = true)) ∧
    (∃ (s : State) (ag : Agent) (v : W32), (s.accepts ag 0x02 0x000 = true) ∧ (listedAt Reg.RTD_CTL (setBits v 31 31 1) = true)) ∧
    (∃ (s : State) , (s.rootOn = false) ∧ (s.validSave = none)) ∧
    (∃ (s : State) (v : RootSave), (s.rootOn = false) ∧ (s.validSave = some v)) :=
  ⟨⟨let t := ((pw 3 0 up).wr F.SYS_SHED_EN 1).wr F.SYS_SHED_SHST 1; { t with now := 10 ^ 15, tim := { t.tim with aboveCrit := true } }, by decide +kernel⟩,
   ⟨let t := (bedOnly.wr F.SYS_SHED_AUTORET 1).wr F.SYS_SHED_SHST 2; { t with now := 10 ^ 15, pwr := { t.pwr with coolAt := some 0 } }, 0, by decide +kernel⟩,
   ⟨{ pw 3 0 up with now := 10 ^ 15, pwr := { (pw 3 0 up).pwr with hotAt := some 0 } }, seqOf [], 0, by decide +kernel⟩,
   ⟨((pw 3 0 up).wr (F.HLT_TEMPn_VALID 23) 1).wr (F.HLT_TEMPn_TEMP 23) 1200, seqOf [], 23, by decide +kernel⟩,
   ⟨bedOnly.rootWr F.RTD_CELLQ_UAH 40000, 3100, 10000, true, by decide +kernel⟩,
   ⟨{ bedOnly with pwr := { bedOnly.pwr with lowRun := 1 } }, 2200, -5, false, by decide +kernel⟩,
   ⟨bedOnly.rootWr F.RTD_SAVE_NOW 1, false, 6, by decide +kernel⟩,
   ⟨bedOnly, .scarecrow, by decide +kernel⟩,
   ⟨bedOnly, .scarecrow, 1, by decide +kernel⟩,
   ⟨{ State.reset with rootOn := false }, by decide +kernel⟩,
   ⟨{ State.reset with rootOn := false, pwr := { State.reset.pwr with saves := [{ ok := true, cal := 5, opsec := 9 }] } }, { ok := true, cal := 5, opsec := 9 }, by decide +kernel⟩⟩

theorem test_hyps_HealthCommandsComplete :
    (∃ (s : State) (res : Nat) (found : Bool) (part : Nat) (bad : List Nat), (s.bedOn = true) ∧ (resClass res = 2) ∧ (s.nextTest 2 = some res) ∧ (s.upd.run = none) ∧ (1 < s.rd F.HLT_CTL_REPEAT) ∧ (s.hlt.passes = [])) ∧
    (∃ (s : State) (res : Nat) (corrected : Bool), (s.bedOn = true) ∧ (resClass res = 4) ∧ (res / 2 ^ 24 % 16 = 2)) ∧
    (∃ (s : State) (res : Nat) (corrected : Bool), (s.bedOn = true) ∧ (s.canopyOn = true) ∧ (resClass res = 5) ∧ (res / 2 ^ 20 % 256 < 5) ∧ (s.hlt.tests.length < 64)) ∧
    (∃ (s : State) (ag : Agent) (n : Nat), (n < 2) ∧ (s.accepts ag 0x03 (0x084 + 0x20 * n) = true)) ∧
    (∃ (s : State) (n : Nat), (s.bedOn = true) ∧ (n < 2) ∧ (s.daleState n = 1) ∧ (s.on (F.HLT_DALEn_CTL_READY n) = true ∨ s.carryIdx = some n) ∧ (SMap.get (fun _ => 0) s.hlt.hb n + s.rd F.HLT_HOCFG_HBPER * 1000000 ≤ s.now)) ∧
    (∃ (s : State) (ag : Agent) (n : Nat), (n < 2) ∧ (s.accepts ag 0x03 (0x080 + 0x20 * n) = true) ∧ (s.daleState n = 1) ∧ (s.upd.run = none)) ∧
    (∃ (s : State) (ag : Agent) (n : Nat) (v : W32), (n < 2) ∧ (s.accepts ag 0x03 (0x080 + 0x20 * n) = true) ∧ (s.upd.run = none)) ∧
    (∃ (s : State) (n core : Nat) (unc tagState : Bool), (s.bedOn = true) ∧ (s.canopyOn = true) ∧ (n < 2) ∧ (core < 8) ∧ (s.daleState n = 1)) ∧
    (∃ (s : State) (ag : Agent) (k : Nat) (v : W32), (k < 16) ∧ (s.accepts ag 0x03 (0x280 + 8 * k + 4 * (if ag = .daleB then 1 else 0)) = true)) ∧
    (∃ (s : State) (ag : Agent) (n : Nat) (v : W32) (finish : Bool), (n < 16) ∧ (s.accepts ag 0x03 (0x108 + 0x10 * n) = true) ∧ (s.on (F.HLT_MIRn_CFG_EN n) = false) ∧ (v.getLsbD 31 = true) ∧ (1 ≤ v.toNat % 2 ^ 14) ∧ (s.mirSrc n + v.toNat % 2 ^ 14 * 65536 ≤ s.code.dramSize) ∧ (s.mirCopy n + v.toNat % 2 ^ 14 * 65536 ≤ s.code.dramSize) ∧ (s.mirOverlaps n (v.toNat % 2 ^ 14 * 65536) = false)) ∧
    (∃ (s : State) (d : Desc), (s.freshDesc 1 = some d) ∧ (resClass (d.le 16 4) ≤ 7) ∧ (resClass (d.le 16 4) = 3 → (d.le 16 4 % 16 < 8 ∨ d.le 16 4 % 16 = 15) ∧ s.otherReady (resDale (d.le 16 4)) = true) ∧ (s.hlt.tests.length < 64) ∧ (s.hlt.tests.any (fun x => decide (x.res = d.le 16 4)) = false)) ∧
    (∃ (s : State) (d : Desc), (s.freshDesc 3 = some d) ∧ (d.le 16 1 ≤ 7) ∧ (s.holdsToken (d.le 16 1) s.ringOwner = false)) ∧
    (∃ (s : State) (d : Desc), (s.freshDesc 4 = some d) ∧ (d.le 16 1 ≤ 7) ∧ (s.upd.run = none) ∧ ((s.token (d.le 16 1)).waits = [])) ∧
    (∃ (s : State) (c : Nat), (s.bedOn = true) ∧ (c < 8) ∧ (s.on (F.HLT_TOKc_HELD c) = true) ∧ ((s.token c).since + 3600000000000 < s.now)) :=
  ⟨⟨hltd (fun h => { h with tests := [{ res := 0x20030004, since := 0 }] }) (up.wr F.HLT_CTL_REPEAT 3), 0x20030004, true, 15, [], by decide +kernel⟩,
   ⟨up, 0x42000007, false, by decide +kernel⟩,
   ⟨up, 0x50400001, true, by decide +kernel⟩,
   ⟨{ up with now := 8000 }, .daleB, 1, by decide +kernel⟩,
   ⟨{ dalesOn up with now := 10 ^ 12 }, 0, by decide +kernel⟩,
   ⟨dalesOn up, .daleA, 0, by decide +kernel⟩,
   ⟨dalesOn up, .daleB, 1, 0x40000000, by decide +kernel⟩,
   ⟨dalesOn up, 1, 7, true, true, by decide +kernel⟩,
   ⟨up, .daleB, 15, 77, by decide +kernel⟩,
   ⟨up.wr (F.HLT_MIRn_COPY_BASE 15) 0x100, .daleA, 15, 0x80000001, false, by decide +kernel⟩,
   ⟨run 66 67 1 [4, 0, 3, 0x20] up, desc 1 67 [4, 0, 3, 0x20], by decide +kernel⟩,
   ⟨run 66 67 3 [7] up, desc 3 67 [7], by decide +kernel⟩,
   ⟨(((run 66 67 4 [7] up).wr (F.HLT_TOKc_HELD 7) 1).wr (F.HLT_TOKc_OWNER 7) 0).wr (F.HLT_TOKc_ACT 7) 0xC, desc 4 67 [7], by decide +kernel⟩,
   ⟨{ up.wr (F.HLT_TOKc_HELD 7) 1 with now := 10 ^ 15 }, 7, by decide +kernel⟩⟩

theorem test_hyps_HandoverCommandsComplete :
    (∃ (s : State) (d : Desc) (c : Nat), (s.freshDesc 2 = some d) ∧ (s.carryIdx = some c)) ∧
    (∃ (s : State) (h : Handover), (s.bedOn = true) ∧ (s.canopyOn = true) ∧ (s.now % (s.rd F.HLT_HOCFG_HOPER * 1000000) = s.rd F.HLT_HOCFG_HOPHASE * 1000) ∧ (s.hlt.hand = some h) ∧ (h.fault = true) ∧ (s.daleReady (1 - h.src) = true) ∧ (s.upd.run = none)) ∧
    (∃ (s : State) (h : Handover) (at1 : Nat), (s.hlt.hand = some h) ∧ (h.fault = false) ∧ (h.since = some at1) ∧ (at1 + 1000000000 ≤ s.now) ∧ (s.on (F.HLT_DALEn_CTL_ARMED (1 - h.src)) = false) ∧ (s.upd.run = none)) ∧
    (∃ (s : State) (q : SeqIn) (at0 : Nat), (q.durs = []) ∧ (s.hlt.noneSince = some at0) ∧ (s.bedOn = true) ∧ (s.canopyOn = true) ∧ (s.rd F.HLT_ROLE_CARRY = 2) ∧ (at0 + 10000000000 ≤ s.now) ∧ (s.hlt.ordered = false) ∧ (s.daleReady 0 = false) ∧ (s.daleReady 1 = false) ∧ (s.on F.HLT_CTL_RESTART = true)) :=
  ⟨⟨run 66 67 2 [] (dalesOn up), desc 2 67 [], 0, by decide +kernel⟩,
   ⟨hltd (fun h => { h with hand := some (aHand true) }) (dalesOn (up.wr F.HLT_HOCFG_HOPHASE 0)), aHand true, by decide +kernel⟩,
   ⟨{ hltd (fun h => { h with hand := some (aHand false) }) (dalesOn up) with now := 10 ^ 10 }, aHand false, 0, by decide +kernel⟩,
   ⟨{ hltd (fun h => { h with noneSince := some 0 }) ((up.wr F.HLT_ROLE_CARRY 2).wr F.HLT_CTL_RESTART 1) with now := 10 ^ 11 }, seqOf [], 0, by decide +kernel⟩⟩

set_option maxRecDepth 100000 in
theorem test_hyps_UpdateCommandsComplete :
    (∃ (s : State) (sig : Bool) (d : Desc), (s.bedOn = true) ∧ (s.running 64 1 = some d) ∧ (d.le 24 8 % 4096 = 0) ∧ (s.canopyOn = true) ∧ (inDramRange s.code (d.le 24 8) (d.le 32 8) = true) ∧ (s.upd.run = none) ∧ (s.mem.poisoned (d.le 24 8) (d.le 32 8) = false)) ∧
    (∃ (s : State) (icFail : List Nat) (d : Desc), (s.bedOn = true) ∧ (s.upd.run = none) ∧ (s.running 64 2 = some d) ∧ (s.upd.pkg = none)) ∧
    (∃ (s : State) (icFail : List Nat) (d : Desc) (p : Package) (i : PkgItem), (s.bedOn = true) ∧ (s.upd.run = none) ∧ (s.running 64 2 = some d) ∧ (s.upd.pkg = some p) ∧ (p.items = [i]) ∧ (p.reqs = []) ∧ (i.kind = 2) ∧ (i.skip = false) ∧ (i.unit ≤ 5)) ∧
    (∃ (s : State) (d : Desc), (s.bedOn = true) ∧ (s.running 64 3 = some d)) ∧
    (∃ (s : State) (d : Desc) (k : Nat), (s.bedOn = true) ∧ (s.running 64 4 = some d) ∧ (d.le 16 1 ≤ 5) ∧ (inBedRange (d.le 24 8) (d.le 32 4) = true ∨ (inBedStore (d.le 24 8) = false ∧ s.code.memAt (d.le 24 8) (d.le 32 4) = true)) ∧ (s.cfgFor (d.le 16 1) (s.runCfgver (d.le 16 1)) = some k)) ∧
    (∃ (s : State) (d : Desc), (s.bedOn = true) ∧ (s.running 64 5 = some d) ∧ (d.le 16 1 ≤ 5) ∧ (d.le 32 4 ≤ 2 ^ 20) ∧ (inBedRange (d.le 24 8) (d.le 32 4) = true) ∧ (s.mem.poisoned (d.le 24 8) (d.le 32 4) = false)) ∧
    (∃ (s : State) (ag : Agent) (v : W32) (u : Nat), (s.bedOn = true) ∧ (v.toNat % 16 = u) ∧ (u ≤ 8) ∧ (s.confirms ag u = true) ∧ ((s.probation u).isSome = true) ∧ (s.upd.run = none)) ∧
    (∃ (s : State) (ag : Agent) (v : W32) (u : Nat), (s.bedOn = true) ∧ (v.toNat % 16 = u) ∧ (u ≤ 8) ∧ (s.confirms ag u = true) ∧ ((s.probation u).isSome = true) ∧ (s.upd.run = none)) ∧
    (∃ (s : State) (u since win : Nat), (s.bedOn = true) ∧ (s.probation u = some (since, win)) ∧ (since + win ≤ s.now)) ∧
    (∃ (s : State) (b : Bytes), (s.inDoze = true) ∧ (s.bedOn = true) ∧ (s.pwr.tableDue = true) ∧ (s.upd.table = some b) ∧ (s.on (F.HLT_TOKc_HELD 6) = false)) :=
  ⟨⟨run 64 65 1 [0, 0, 0, 0, 0, 0, 0, 0, 0, 0, 0, 0, 0, 0, 0, 0, 64] (dramOn up), true, desc 1 65 [0, 0, 0, 0, 0, 0, 0, 0, 0, 0, 0, 0, 0, 0, 0, 0, 64], by decide +kernel⟩,
   ⟨run 64 65 2 [] up, [], desc 2 65 [], by decide +kernel⟩,
   ⟨updd (fun u => { u with pkg := some cfgPkg }) (run 64 65 2 [] up), [], desc 2 65 [], cfgPkg, cfgItem, by decide +kernel⟩,
   ⟨run 64 65 3 [] up, desc 3 65 [], by decide +kernel⟩,
   ⟨updd (fun u => { u with cfg := [(2, { ok := true, cfgver := 0, seq := 5, body := [1, 2] }), (4, { ok := true, cfgver := 0, seq := 5, body := [1, 2] })] }) (run 64 65 4 [2, 0, 0, 0, 0, 0, 0, 0, 0, 0, 0, 0, 0, 0, 0, 0, 64] (dramOn up)), desc 4 65 [2, 0, 0, 0, 0, 0, 0, 0, 0, 0, 0, 0, 0, 0, 0, 0, 64], 0, by decide +kernel⟩,
   ⟨run 64 65 5 [1, 0, 0, 0, 0, 0, 0, 0, 0, 0, 0x10, 0, 0xF0, 0, 0, 0, 3] (dramOn up), desc 5 65 [1, 0, 0, 0, 0, 0, 0, 0, 0, 0, 0x10, 0, 0xF0, 0, 0, 0, 3], by decide +kernel⟩,
   ⟨updd (fun u => { u with prob := [(0, 0, 9)], act := [(0, 1)], slots := [(1, { st := 2, ver := 7 })] }) up, .daleA, 0, 0, by decide +kernel⟩,
   ⟨updd (fun u => { u with prob := [(3, 0, 9)], act := [(3, 1)], slots := [(7, { st := 2, ver := 7 })] }) up, .gnss, 3, 3, by decide +kernel⟩,
   ⟨{ updd (fun u => { u with prob := [(8, 0, 9)] }) up with now := 80 }, 8, 0, 9, by decide +kernel⟩,
   ⟨{ updd (fun u => { u with table := some fsImg }) bedOnly with pwr := { bedOnly.pwr with tableDue := true } }, fsImg, by decide +kernel⟩⟩

theorem test_hyps_RecorderCommandsComplete :
    (∃ (s : State) (cut : Bool) (r : Rec) (rest : List Rec), (s.bedOn = true) ∧ (s.evr.queue = r :: rest) ∧ (r.software = true) ∧ (s.evr.store.length < evrSlots)) ∧
    (∃ (s : State) (sev : Nat), (s.rootOn = true) ∧ (s.bedOn = true) ∧ (sev < 16) ∧ (0 < s.rd (F.EVR_BKTs_PERIOD sev)) ∧ (s.now % (s.rd (F.EVR_BKTs_PERIOD sev) * 1000000) = 0) ∧ (SMap.get (fun _ => 0) s.evr.refilled sev ≠ s.now + 1)) ∧
    (∃ (s : State) (ag : Agent) (v : W32) (b : Nat), (s.accepts ag 0x04 0x02C = true) ∧ (agentBank ag = some b)) ∧
    (∃ (s : State) (ag : Agent) (b : Nat), (s.accepts ag 0x04 0x050 = true) ∧ (agentBank ag = some b)) ∧
    (∃ (s : State) (ev sev p0 p1 p2 : Nat), (s.rootOn = true) ∧ (s.bedOn = false) ∧ (s.evr.store.length < evrSlots)) :=
  ⟨⟨evrd (fun e => { e with queue := [aRec true] }) up, false, aRec true, [], by decide +kernel⟩,
   ⟨evrd (fun e => { e with bases := [(2, 1)] }) (up.wr (F.EVR_BKTs_PERIOD 2) 1), 2, by decide +kernel⟩,
   ⟨up, .daleA, 0x00028001, 0, by decide +kernel⟩,
   ⟨up, .daleA, 0, by decide +kernel⟩,
   ⟨armed, 0x42, 6, 1, 2, 3, by decide +kernel⟩⟩

end Sys2Proof.Tests
end

section
/-! SUPPORT. What no command outside the power chapter changes, one lemma for each operation, each citing those of the operations it
calls. The lemmas of this part are tagged for `simp`, so that the proof of an operation is the split of its own branches. -/

namespace Sys2Proof.Machine

/-- What only the power chapter changes: what is fused, the powered domains, Sundial time and the waiting commands, and of the power
sequence its state, its step and its reversal. -/
structure Still where
  code : Code
  hwrev : Nat
  rootOn : Bool
  bedOn : Bool
  canopyOn : Bool
  now : Nat
  pending : List Instr
  st : Nat
  step : Nat
  turn : Option Nat

/-- What only the power chapter changes, of a state. -/
def State.still (s : State) : Still :=
  ⟨s.code, s.hwrev, s.rootOn, s.bedOn, s.canopyOn, s.now, s.pending, s.pwr.st, s.pwr.step, s.pwr.turn⟩

/-- What no command but CELL_MEASURE and ROOT_POWER_ON changes: what is fused, whether Root is powered, the waiting commands. -/
def Still.fixed (x : Still) : Code × Nat × Bool × List Instr := (x.code, x.hwrev, x.rootOn, x.pending)

/-- The command whose outcome is `o` completes from `s` and leaves `State.still` alone. -/
def KeepsStill (o : Host.Outcome State Fault Refusal) (s : State) : Prop := ∃ t, o = .next t ∧ t.still = s.still

/-- The command whose outcome is `o` completes from `s` and leaves `Still.fixed` alone. -/
def KeepsFixed (o : Host.Outcome State Fault Refusal) (s : State) : Prop := ∃ t, o = .next t ∧ t.still.fixed = s.still.fixed

@[simp] theorem keepsStill_next (t s : State) : KeepsStill (.next t) s ↔ t.still = s.still := by simp [KeepsStill]
@[simp] theorem keepsFixed_next (t s : State) : KeepsFixed (.next t) s ↔ t.still.fixed = s.still.fixed := by simp [KeepsFixed]

/-- A Furrow instruction's own effect on `State.still`: `x` where it faults. -/
def FurOut.still (x : Still) : FurOut → Still
  | .fault _ => x
  | .ok t _ => t.still

@[simp] theorem FurOut.still_fault (x : Still) (c : Nat) : FurOut.still x (.fault c) = x := rfl
@[simp] theorem FurOut.still_ok (x : Still) (t : State) (sc : Scan) : FurOut.still x (.ok t sc) = t.still := rfl
@[simp] theorem FurOut.still_ite (c : Prop) [Decidable c] (x : Still) (a b : FurOut) :
    FurOut.still x (if c then a else b) = if c then FurOut.still x a else FurOut.still x b := apply_ite _ _ _ _

/-! ### Record updates, branches and loops -/

/-- A record update of other fields keeps `State.still`; of `pwr` it may change what is no part of the sequence. It is not proved by
`rfl`, or the kernel would compare the states themselves. -/
@[simp] theorem State.still_mk (s : State) (regs : SMap W32) (rootRegs : SMap W32) (latches : List Latch) (wide : SMap Nat) (banks : SMap W32) (badParity : List Nat)
    (mem : Memory) (resp : Resp) (irqs : List Irq) (free : Nat) (fab : Fab) (bridge : Bridge) (rings : SMap Ring) (mbxStage : SMap W32)
    (held : List Nat) (mbxOwed : List (Nat × Nat)) (evr : Evr) (tim : Timing) (toks : SMap Token) (ing : Ingest) (cam : Camera)
    (pra : Prairie) (prod : Products) (gns : Gnss) (trl : Trellis) (fur : Furrow) (vlv : Valves) (lsw : Switches) (outs : Outs) (can : Cans)
    (eth : Eth) (pan : Panel) (dram : Dram) (nand : Nand) (traps : SMap CoreTrap) (ter : Terrace) (pce : Pce) (pwr : Pwr) (hlt : Health)
    (upd : Upd)
    (h : pwr.st = s.pwr.st ∧ pwr.step = s.pwr.step ∧ pwr.turn = s.pwr.turn) :
    State.still (State.mk s.code s.hwrev s.rootOn s.bedOn s.canopyOn s.now regs rootRegs latches wide banks badParity mem resp irqs free fab bridge rings
    mbxStage held mbxOwed evr tim toks ing cam pra prod gns trl fur vlv lsw outs can eth pan dram nand traps ter pce pwr hlt upd s.pending) = s.still := by
  simp only [State.still, h]

@[simp] theorem State.still_ite (c : Prop) [Decidable c] (s t : State) : (if c then s else t).still = if c then s.still else t.still :=
  apply_ite _ _ _ _

@[simp] theorem State.still_fst_ite {α : Type} (c : Prop) [Decidable c] (p q : State × α) :
    (if c then p else q).1.still = if c then p.1.still else q.1.still := apply_ite (fun p : State × α => p.1.still) _ _ _

/-- An optional next state keeps what each of its outcomes keeps. -/
theorem State.still_getD (o : Option State) (s : State) (h : ∀ t, o = some t → t.still = s.still) : (o.getD s).still = s.still := by
  cases o with
  | none => rfl
  | some t => exact h t rfl

@[simp] theorem foldl_still {α : Type} (f : State → α → State) (h : ∀ x a, (f x a).still = x.still) (l : List α) (s : State) :
    (l.foldl f s).still = s.still := by
  induction l generalizing s with
  | nil => rfl
  | cons a l ih => rw [List.foldl_cons, ih, h]

/-- A loop over a state and a result keeps what each round keeps. -/
@[simp] theorem foldl_fst_still {α β : Type} (f : State × β → α → State × β) (h : ∀ x a, (f x a).1.still = x.1.still) (l : List α)
    (x : State × β) : (l.foldl f x).1.still = x.1.still := by
  induction l generalizing x with
  | nil => rfl
  | cons a l ih => rw [List.foldl_cons, ih, h]

/-- A loop over a state and two results keeps what each round keeps. -/
@[simp] theorem foldl_fst_fst_still {α β γ : Type} (f : (State × β) × γ → α → (State × β) × γ) (h : ∀ x a, (f x a).1.1.still = x.1.1.still)
    (l : List α) (x : (State × β) × γ) : (l.foldl f x).1.1.still = x.1.1.still := by
  induction l generalizing x with
  | nil => rfl
  | cons a l ih => rw [List.foldl_cons, ih, h]

/-! ### Registers and fields -/

@[simp] theorem State.setReg_still (s : State) (key : Nat) (w : W32) : (s.setReg key w).still = s.still := by simp [State.setReg]
@[simp] theorem State.wr_still (s : State) (f : Fld) (v : Nat) : (s.wr f v).still = s.still := by simp [State.wr]
@[simp] theorem State.wrB_still (s : State) (f : Fld) (b : Bool) : (s.wrB f b).still = s.still := by simp [State.wrB]
@[simp] theorem State.incBy_still (s : State) (f : Fld) (n : Nat) : (s.incBy f n).still = s.still := by simp [State.incBy]
@[simp] theorem State.inc_still (s : State) (f : Fld) : (s.inc f).still = s.still := by simp [State.inc]
@[simp] theorem State.wrSat_still (s : State) (f : Fld) (v : Nat) : (s.wrSat f v).still = s.still := by simp [State.wrSat]
@[simp] theorem State.peak_still (s : State) (f : Fld) (v : Nat) : (s.peak f v).still = s.still := by simp [State.peak]
@[simp] theorem State.measured_still (s : State) (last peakF : Fld) (v : Nat) : (s.measured last peakF v).still = s.still := by simp [State.measured]
@[simp] theorem State.resetReg_still (s : State) (key : Nat) : (s.resetReg key).still = s.still := by simp [State.resetReg]
@[simp] theorem State.resetRegs_still (s : State) (p : Nat → Bool) : (s.resetRegs p).still = s.still := by simp [State.resetRegs]
@[simp] theorem State.wideSet_still (s : State) (key v : Nat) : (s.wideSet key v).still = s.still := by simp [State.wideSet]
@[simp] theorem State.wideAdd_still (s : State) (key n : Nat) : (s.wideAdd key n).still = s.still := by simp [State.wideAdd]
@[simp] theorem State.setBank_still (s : State) (b key : Nat) (w : W32) : (s.setBank b key w).still = s.still := by simp [State.setBank]

/-! ### Flags, interrupts and the event recorder -/

@[simp] theorem State.tickFree_still (s : State) : s.tickFree.still = s.still := by simp [State.tickFree]
@[simp] theorem State.irq_still (s : State) (d : Dest) (src : IrqSrc) : (s.irq d src).still = s.still := by simp [State.irq]
@[simp] theorem State.irqCarry_still (s : State) (src : IrqSrc) : (s.irqCarry src).still = s.still := by simp [State.irqCarry]
@[simp] theorem State.irqScare_still (s : State) (src : IrqSrc) : (s.irqScare src).still = s.still := by simp [State.irqScare]
@[simp] theorem State.irqBoth_still (s : State) (src : IrqSrc) : (s.irqBoth src).still = s.still := by simp [State.irqBoth]
@[simp] theorem State.notify_still (s : State) (stat ie : Fld) : (s.notify stat ie).still = s.still := by simp [State.notify]
@[simp] theorem State.notifyDale_still (s : State) (stat ie : Fld) : (s.notifyDale stat ie).still = s.still := by simp [State.notifyDale]
@[simp] theorem State.flag_still (s : State) (stat ie : Fld) : (s.flag stat ie).still = s.still := by simp [State.flag]
@[simp] theorem State.flagDale_still (s : State) (stat ie : Fld) : (s.flagDale stat ie).still = s.still := by simp [State.flagDale]
@[simp] theorem State.setRoot_still (s : State) (key : Nat) (w : W32) : (s.setRoot key w).still = s.still := by simp [State.setRoot]
@[simp] theorem State.rootWr_still (s : State) (f : Fld) (v : Nat) : (s.rootWr f v).still = s.still := by simp [State.rootWr]
@[simp] theorem State.evrQueueRegs_still (s : State) : s.evrQueueRegs.still = s.still := by simp [State.evrQueueRegs]
@[simp] theorem State.evrDrop_still (s : State) : s.evrDrop.still = s.still := by simp [State.evrDrop]

@[simp] theorem State.enqueue_still (s : State) (r : Rec) : (s.enqueue r).1.still = s.still := by
  unfold State.enqueue
  (repeat' split) <;> simp

@[simp] theorem State.setBucket_still (s : State) (code : Nat) (b : Bucket) : (s.setBucket code b).still = s.still := by simp [State.setBucket]
@[simp] theorem State.refill_still (s : State) (sev : Nat) : (s.refill sev).still = s.still := by simp [State.refill]
@[simp] theorem State.refillDue_still (s : State) (sev : Nat) : (s.refillDue sev).still = s.still := by simp [State.refillDue]
@[simp] theorem State.takeBucket_still (s : State) (code sev : Nat) : (s.takeBucket code sev).1.still = s.still := by simp [State.takeBucket]
@[simp] theorem State.clearSupp_still (s : State) (code : Nat) : (s.clearSupp code).still = s.still := by simp [State.clearSupp]
@[simp] theorem State.evrFillRegs_still (s : State) : s.evrFillRegs.still = s.still := by simp [State.evrFillRegs]

@[simp] theorem State.appendRec_still (s : State) (keep : List (Nat × Rec)) (r : Rec) : (s.appendRec keep r).still = s.still := by
  simp [State.appendRec]

@[simp] theorem State.storeRec_still (s : State) (r : Rec) : (s.storeRec r).still = s.still := by
  unfold State.storeRec
  (repeat' split) <;> simp

@[simp] theorem State.record_still (s : State) (src ev sev p0 p1 p2 : Nat) : (s.record src ev sev p0 p1 p2).still = s.still := by simp [State.record]

/-! ### Shared operations -/

@[simp] theorem State.fail_still (s : State) : s.fail.still = s.still := by simp [State.fail]
@[simp] theorem State.failFor_still (s : State) (a : Agent) : (s.failFor a).still = s.still := by simp [State.failFor]
@[simp] theorem State.failReq_still (s : State) (req : Nat) : (s.failReq req).still = s.still := by simp [State.failReq]
@[simp] theorem State.done_still (s : State) : s.done.still = s.still := by simp [State.done]
@[simp] theorem State.answer_still (s : State) (v : Nat) : (s.answer v).still = s.still := by simp [State.answer]

@[simp] theorem State.gate_still (s : State) (a : Agent) (blk off : Nat) (k : State → State) (h : ∀ t, (k t).still = t.still) :
    (s.gate a blk off k).still = s.still := by
  simp [State.gate, h]

@[simp] theorem State.reencode_still (s : State) (a n : Nat) : (s.reencode a n).still = s.still := by simp [State.reencode]
@[simp] theorem State.storeOne_still (s : State) (a : Nat) (b : Bytes) (p : Bool) : (s.storeOne a b p).still = s.still := by simp [State.storeOne]
@[simp] theorem State.mirrorCount_still (s : State) (r : Fin 16) (lo n : Nat) : (s.mirrorCount r lo n).still = s.still := by simp [State.mirrorCount]
@[simp] theorem State.mirror_still (s : State) (a n : Nat) (p : Bool) : (s.mirror a n p).still = s.still := by simp [State.mirror]
@[simp] theorem State.store_still (s : State) (a : Nat) (b : Bytes) (p : Bool) : (s.store a b p).still = s.still := by simp [State.store]
@[simp] theorem State.put_still (s : State) (a : Nat) (b : Bytes) : (s.put a b).still = s.still := by simp [State.put]
@[simp] theorem State.putContent_still (s : State) (a n : Nat) (c : Content) : (s.putContent a n c).still = s.still := by simp [State.putContent]
@[simp] theorem State.putFree_still (s : State) (a n : Nat) : (s.putFree a n).still = s.still := by simp [State.putFree]
@[simp] theorem State.putZero_still (s : State) (a n : Nat) : (s.putZero a n).still = s.still := by simp [State.putZero]
@[simp] theorem State.handoff_still (s : State) (a : Nat) (b : Bytes) : (s.handoff a b).1.still = s.still := by simp [State.handoff]
@[simp] theorem State.accept_still (s : State) (ls : List BridgeLine) : (s.accept ls).still = s.still := by simp [State.accept]
@[simp] theorem State.bridgeWrite_still (s : State) (a : Nat) (b : Bytes) : (s.bridgeWrite a b).1.still = s.still := by simp [State.bridgeWrite]
@[simp] theorem State.engineWrite_still (s : State) (a : Nat) (b : Bytes) : (s.engineWrite a b).1.still = s.still := by simp [State.engineWrite]
@[simp] theorem State.entryOut_still (s : State) (q a : Nat) (b : Bytes) : (s.entryOut q a b).still = s.still := by simp [State.entryOut]
@[simp] theorem State.setRing_still (s : State) (q : Nat) (r : Ring) : (s.setRing q r).still = s.still := by simp [State.setRing]
@[simp] theorem State.mapBit_still (s : State) (base q : Nat) (v : Bool) : (s.mapBit base q v).still = s.still := by simp [State.mapBit]
@[simp] theorem State.fullBit_still (s : State) (q : Nat) : (s.fullBit q).still = s.still := by simp [State.fullBit]
@[simp] theorem State.advance_still (s : State) (q : Nat) : (s.advance q).still = s.still := by simp [State.advance]
@[simp] theorem State.ringIrq_still (s : State) (q : Nat) (src : IrqSrc) : (s.ringIrq q src).still = s.still := by simp [State.ringIrq]
@[simp] theorem State.ringPending_still (s : State) (q : Nat) : (s.ringPending q).still = s.still := by simp [State.ringPending]
@[simp] theorem State.ringErr_still (s : State) (q cause : Nat) : (s.ringErr q cause).still = s.still := by simp [State.ringErr]
@[simp] theorem State.ringRefuse_still (s : State) (q cause : Nat) : (s.ringRefuse q cause).still = s.still := by simp [State.ringRefuse]
@[simp] theorem State.doorbellRefuse_still (s : State) (q cause : Nat) : (s.doorbellRefuse q cause).still = s.still := by simp [State.doorbellRefuse]

@[simp] theorem State.writeEntry_still (s : State) (q op status estat : Nat) (delayed overdue poison : Bool) (tag sq sqidx lateness : Nat) (result : Bytes) :
    (s.writeEntry q op status estat delayed overdue poison tag sq sqidx lateness result).still = s.still := by
  simp [State.writeEntry]

@[simp] theorem State.dropEntry_still (s : State) (q : Nat) : (s.dropEntry q).still = s.still := by simp [State.dropEntry]

@[simp] theorem State.looseEntry_still (s : State) (q op tag status estat : Nat) (poison : Bool) (result : Bytes) (ip : Bool) :
    (s.looseEntry q op tag status estat poison result ip).1.still = s.still := by
  simp [State.looseEntry]

@[simp] theorem State.eventEntry_still (s : State) (q op tag estat : Nat) (result : Bytes) (ip : Bool) :
    (s.eventEntry q op tag estat result ip).1.still = s.still := by
  simp [State.eventEntry]

@[simp] theorem State.unreserve_still (s : State) (q : Nat) (d : Desc) : (s.unreserve q d).still = s.still := by simp [State.unreserve]

@[simp] theorem State.unfence_still (s : State) (q : Nat) : (s.unfence q).still = s.still := by
  unfold State.unfence
  split <;> simp

@[simp] theorem State.complete_still (s : State) (q : Nat) (d : Desc) (r : Result) : (s.complete q d r).still = s.still := by simp [State.complete]

@[simp] theorem State.serve_still (s : State) (q op : Nat) (f : Desc → State → State × Result) (h : ∀ d t, (f d t).1.still = t.still) :
    (s.serve q op f).still = s.still := by
  unfold State.serve
  split <;> simp [h]

@[simp] theorem State.lateDesc_still (s : State) (q : Nat) (d : Desc) (n : Nat) : (s.lateDesc q d n).still = s.still := by simp [State.lateDesc]

@[simp] theorem State.serveAt_still (s : State) (q op : Nat) (f : Desc → State → State × Result × Nat) (h : ∀ d t, (f d t).1.still = t.still) :
    (s.serveAt q op f).still = s.still := by
  unfold State.serveAt
  split <;> simp [h]

@[simp] theorem State.ringStop_still (s : State) (q : Nat) : (s.ringStop q).still = s.still := by simp [State.ringStop]
@[simp] theorem State.ringKill_still (s : State) (q cause : Nat) : (s.ringKill q cause).still = s.still := by simp [State.ringKill]
@[simp] theorem State.canopyRingsOff_still (s : State) : s.canopyRingsOff.still = s.still := by simp [State.canopyRingsOff]
@[simp] theorem State.testRegs_still (s : State) : s.testRegs.still = s.still := by simp [State.testRegs]
@[simp] theorem State.queueTest_still (s : State) (res : Nat) (ds : List Desc) : (s.queueTest res ds).still = s.still := by simp [State.queueTest]
@[simp] theorem State.triggerTest_still (s : State) (res : Nat) : (s.triggerTest res).still = s.still := by simp [State.triggerTest]

@[simp] theorem State.parityFault_still (s : State) (blk off count : Nat) : (s.parityFault blk off count).still = s.still := by
  simp [State.parityFault]

@[simp] theorem State.poisonLine_still (s : State) (q : Nat) : (s.poisonLine q).still = s.still := by
  unfold State.poisonLine
  split <;> simp

@[simp] theorem State.reparity_still (s : State) (key : Nat) : (s.reparity key).still = s.still := by simp [State.reparity]

@[simp] theorem State.applyWrite_still (s : State) (key : Nat) (v : W32) : (s.applyWrite key v).still = s.still := by
  unfold State.applyWrite
  split <;> simp

@[simp] theorem State.plainWrite_still (s : State) (key : Nat) (v : W32) : (s.plainWrite key v).still = s.still := by simp [State.plainWrite]
@[simp] theorem State.mbxAbort_still (s : State) (m : Nat) : (s.mbxAbort m).still = s.still := by simp [State.mbxAbort]
@[simp] theorem State.mbxAbortAll_still (s : State) (id : Nat) : (s.mbxAbortAll id).still = s.still := by simp [State.mbxAbortAll]
@[simp] theorem State.mbxPayOwed_still (s : State) : s.mbxPayOwed.still = s.still := by simp [State.mbxPayOwed]
@[simp] theorem State.holdAgent_still (s : State) (id : Nat) : (s.holdAgent id).still = s.still := by simp [State.holdAgent]
@[simp] theorem State.holdAgents_still (s : State) (ids : List Nat) : (s.holdAgents ids).still = s.still := by simp [State.holdAgents]
@[simp] theorem State.freeAgent_still (s : State) (id : Nat) : (s.freeAgent id).still = s.still := by simp [State.freeAgent]
@[simp] theorem State.trlBusy_still (s : State) (busy : Nat) : (s.trlBusy busy).still = s.still := by simp [State.trlBusy]
@[simp] theorem State.furBusy_still (s : State) (busy : Nat) : (s.furBusy busy).still = s.still := by simp [State.furBusy]
@[simp] theorem State.freeMeasure_still (s : State) (key top : Nat) : (s.freeMeasure key top).still = s.still := by simp [State.freeMeasure]
@[simp] theorem State.driveWear_still (s : State) (d : Nat) : (s.driveWear d).still = s.still := by simp [State.driveWear]
@[simp] theorem State.freeRates_still (s : State) (key : Nat) : (s.freeRates key).still = s.still := by simp [State.freeRates]

/-! ### Sensor ingest -/

@[simp] theorem State.setStream_still (s : State) (n : Nat) (x : Stream) : (s.setStream n x).still = s.still := by simp [State.setStream]
@[simp] theorem State.setChan_still (s : State) (n : Nat) (x : Chan) : (s.setChan n x).still = s.still := by simp [State.setChan]
@[simp] theorem State.ingEntry_still (s : State) (tag subject : Nat) : (s.ingEntry tag subject).still = s.still := by simp [State.ingEntry]
@[simp] theorem State.ingEvent_still (s : State) (tag subject sev : Nat) : (s.ingEvent tag subject sev).still = s.still := by simp [State.ingEvent]

@[simp] theorem State.mirrorFrame_still (s : State) (n : Nat) (trays : List (List Samp × Bytes × Bool)) :
    (s.mirrorFrame n trays).still = s.still := by
  simp [State.mirrorFrame]

@[simp] theorem State.captureFrame_still (s : State) (c : Capture) (trays : List (List Samp × Bytes × Bool)) (bytes : Bytes) :
    (s.captureFrame c trays bytes).still = s.still := by
  simp [State.captureFrame]

@[simp] theorem State.stepWpos_still (s : State) (n : Nat) : (s.stepWpos n).still = s.still := by simp [State.stepWpos]

@[simp] theorem State.framePublished_still (s : State) (n : Nat) (trays : List (List Samp × Bytes × Bool)) (bytes : Bytes) :
    (s.framePublished n trays bytes).still = s.still := by
  simp [State.framePublished]

@[simp] theorem State.publishFrame_still (s : State) (n : Nat) (samples : List Samp) : (s.publishFrame n samples).still = s.still := by
  simp [State.publishFrame]

@[simp] theorem State.frameLanded_still (s : State) (n : Nat) : (s.frameLanded n).still = s.still := by
  unfold State.frameLanded
  split <;> simp

@[simp] theorem State.publishOpen_still (s : State) (n : Nat) : (s.publishOpen n).still = s.still := by simp [State.publishOpen]
@[simp] theorem State.placeAt_still (s : State) (n instant : Nat) (x : Samp) : (s.placeAt n instant x).still = s.still := by simp [State.placeAt]
@[simp] theorem State.placeSample_still (s : State) (n : Nat) (x : Samp) : (s.placeSample n x).still = s.still := by simp [State.placeSample]

@[simp] theorem execFrameFlushTimeout_still (n : Nat) (s : State) : KeepsStill (execFrameFlushTimeout n s) s := by
  unfold execFrameFlushTimeout
  split <;> simp

@[simp] theorem State.dropFlight_still (s : State) (n : Nat) : (s.dropFlight n).still = s.still := by simp [State.dropFlight]
@[simp] theorem State.streamCfgWrite_still (s : State) (n : Nat) (v : W32) : (s.streamCfgWrite n v).still = s.still := by simp [State.streamCfgWrite]

@[simp] theorem execStreamEnable_still (agent : Agent) (n : Nat) (value : W32) (s : State) : KeepsStill (execStreamEnable agent n value s) s := by
  simp [execStreamEnable]

@[simp] theorem execStreamDisable_still (agent : Agent) (n : Nat) (value : W32) (s : State) : KeepsStill (execStreamDisable agent n value s) s := by
  simp [execStreamDisable]

@[simp] theorem execAnalogueSample_still (n instant : Nat) (code : Int) (s : State) : KeepsStill (execAnalogueSample n instant code s) s := by
  simp [execAnalogueSample]

@[simp] theorem State.chanRestart_still (s : State) (n : Nat) : (s.chanRestart n).still = s.still := by simp [State.chanRestart]
@[simp] theorem State.chanCfgWrite_still (s : State) (n : Nat) (v : W32) : (s.chanCfgWrite n v).still = s.still := by simp [State.chanCfgWrite]

@[simp] theorem execAnalogueCfgWrite_still (agent : Agent) (n : Nat) (value : W32) (s : State) : KeepsStill (execAnalogueCfgWrite agent n value s) s := by
  simp [execAnalogueCfgWrite]

@[simp] theorem State.setAcoustic_still (s : State) (n : Nat) (x : Acoustic) : (s.setAcoustic n x).still = s.still := by simp [State.setAcoustic]
@[simp] theorem execAcousticHit_still (n : Nat) (rearmed : Bool) (s : State) : KeepsStill (execAcousticHit n rearmed s) s := by simp [execAcousticHit]
@[simp] theorem execAcousticReport_still (n : Nat) (s : State) : KeepsStill (execAcousticReport n s) s := by simp [execAcousticReport]

@[simp] theorem State.acousticCfgWrite_still (s : State) (n : Nat) (v : W32) : (s.acousticCfgWrite n v).still = s.still := by
  simp [State.acousticCfgWrite]

@[simp] theorem execAcousticRawSample_still (n : Nat) (value : Int) (s : State) : KeepsStill (execAcousticRawSample n value s) s := by
  simp [execAcousticRawSample]

@[simp] theorem State.setFreq_still (s : State) (n : Nat) (x : FreqIn) : (s.setFreq n x).still = s.still := by simp [State.setFreq]

@[simp] theorem execFreqEdge_still (n : Nat) (step : Int) (s : State) : KeepsStill (execFreqEdge n step s) s := by
  unfold execFreqEdge
  dsimp only
  (repeat' split) <;> simp

@[simp] theorem execFreqOutputSample_still (n : Nat) (s : State) : KeepsStill (execFreqOutputSample n s) s := by
  unfold execFreqOutputSample
  (repeat' split) <;> simp

@[simp] theorem State.freqCfgWrite_still (s : State) (n : Nat) (v : W32) : (s.freqCfgWrite n v).still = s.still := by simp [State.freqCfgWrite]
@[simp] theorem State.supplyFault_still (s : State) (n fault : Nat) : (s.supplyFault n fault).still = s.still := by simp [State.supplyFault]
@[simp] theorem execSupplyOvercurrent_still (n : Nat) (s : State) : KeepsStill (execSupplyOvercurrent n s) s := by simp [execSupplyOvercurrent]
@[simp] theorem execSupplyBackfeed_still (n : Nat) (s : State) : KeepsStill (execSupplyBackfeed n s) s := by simp [execSupplyBackfeed]
@[simp] theorem State.supplyOn_still (s : State) (n : Nat) : (s.supplyOn n).still = s.still := by simp [State.supplyOn]
@[simp] theorem execSupplyRetry_still (n : Nat) (s : State) : KeepsStill (execSupplyRetry n s) s := by simp [execSupplyRetry]
@[simp] theorem execSupplyCurrentSample_still (n ma : Nat) (s : State) : KeepsStill (execSupplyCurrentSample n ma s) s := by simp [execSupplyCurrentSample]
@[simp] theorem State.supplyCfgWrite_still (s : State) (n : Nat) (v : W32) : (s.supplyCfgWrite n v).still = s.still := by simp [State.supplyCfgWrite]
@[simp] theorem State.measureRefs_still (s : State) (ab a b : Int) : (s.measureRefs ab a b).still = s.still := by simp [State.measureRefs]
@[simp] theorem State.outvote_still (s : State) (r : Nat) : (s.outvote r).still = s.still := by simp [State.outvote]
@[simp] theorem State.unresolved_still (s : State) : s.unresolved.still = s.still := by simp [State.unresolved]
@[simp] theorem State.vote_still (s : State) (a b : Int) : (s.vote a b).still = s.still := by simp [State.vote]
@[simp] theorem State.judgeRefs_still (s : State) (ab a b : Int) : (s.judgeRefs ab a b).still = s.still := by simp [State.judgeRefs]
@[simp] theorem execReferenceCheck_still (ab a b : Int) (s : State) : KeepsStill (execReferenceCheck ab a b s) s := by simp [execReferenceCheck]

@[simp] theorem execCapture_still (q : Nat) (s : State) : KeepsStill (execCapture q s) s := by
  unfold execCapture
  (repeat' split) <;> simp

@[simp] theorem execRefcheck_still (q : Nat) (ab a b : Int) (s : State) : KeepsStill (execRefcheck q ab a b s) s := by simp [execRefcheck]

/-! ### Camera pipeline -/

@[simp] theorem State.setLink_still (s : State) (n : Nat) (x : CamLink) : (s.setLink n x).still = s.still := by simp [State.setLink]
@[simp] theorem State.linkEnter_still (s : State) (n st : Nat) : (s.linkEnter n st).still = s.still := by simp [State.linkEnter]
@[simp] theorem State.camEvent_still (s : State) (tag n : Nat) : (s.camEvent tag n).still = s.still := by simp [State.camEvent]
@[simp] theorem State.camReject_still (s : State) (cause unit : Nat) : (s.camReject cause unit).still = s.still := by simp [State.camReject]
@[simp] theorem State.camBudget_still (s : State) : s.camBudget.still = s.still := by simp [State.camBudget]

@[simp] theorem State.camRates_still (s : State) (inPx donePx encPx : Nat) : (s.camRates inPx donePx encPx).still = s.still := by
  simp [State.camRates]

@[simp] theorem State.camAge_still (s : State) : s.camAge.still = s.still := by simp [State.camAge]

@[simp] theorem State.writePlanes_still (s : State) (n o a : Nat) (f : CamFrame) : (s.writePlanes n o a f).still = s.still := by
  simp [State.writePlanes]

@[simp] theorem State.writeSlot_still (s : State) (n o : Nat) (f : CamFrame) : (s.writeSlot n o f).1.still = s.still := by
  unfold State.writeSlot
  (repeat' split) <;> simp

@[simp] theorem State.holdSlot_still (s : State) (key : Nat) : (s.holdSlot key).still = s.still := by simp [State.holdSlot]
@[simp] theorem State.dropSlot_still (s : State) (key : Nat) : (s.dropSlot key).still = s.still := by simp [State.dropSlot]

@[simp] theorem State.closeFrame_still (s : State) (n extra : Nat) : (s.closeFrame n extra).still = s.still := by
  unfold State.closeFrame
  dsimp only
  split <;> simp

@[simp] theorem State.forgetSlots_still (s : State) (n : Nat) : (s.forgetSlots n).still = s.still := by simp [State.forgetSlots]
@[simp] theorem State.linkOff_still (s : State) (n extra : Nat) : (s.linkOff n extra).still = s.still := by simp [State.linkOff]
@[simp] theorem State.linkStart_still (s : State) (n : Nat) : (s.linkStart n).still = s.still := by simp [State.linkStart]
@[simp] theorem State.linkCtlWrite_still (s : State) (n : Nat) (v : W32) : (s.linkCtlWrite n v).still = s.still := by simp [State.linkCtlWrite]

@[simp] theorem execLinkEnable_still (agent : Agent) (n : Nat) (value : W32) (s : State) : KeepsStill (execLinkEnable agent n value s) s := by
  simp [execLinkEnable]

@[simp] theorem execLinkDisable_still (agent : Agent) (n : Nat) (value : W32) (s : State) : KeepsStill (execLinkDisable agent n value s) s := by
  simp [execLinkDisable]

@[simp] theorem execLinkTrainTimeout_still (n : Nat) (s : State) : KeepsStill (execLinkTrainTimeout n s) s := by simp [execLinkTrainTimeout]
@[simp] theorem execLinkLock_still (n remId : Nat) (s : State) : KeepsStill (execLinkLock n remId s) s := by simp [execLinkLock]
@[simp] theorem execLinkLockLost_still (n : Nat) (s : State) : KeepsStill (execLinkLockLost n s) s := by simp [execLinkLockLost]
@[simp] theorem execFrameSyncSend_still (n : Nat) (s : State) : KeepsStill (execFrameSyncSend n s) s := by simp [execFrameSyncSend]
@[simp] theorem execPocOvercurrent_still (n : Nat) (s : State) : KeepsStill (execPocOvercurrent n s) s := by simp [execPocOvercurrent]
@[simp] theorem execPocRetry_still (n : Nat) (s : State) : KeepsStill (execPocRetry n s) s := by simp [execPocRetry]
@[simp] theorem State.bufferRegs_still (s : State) (n : Nat) : (s.bufferRegs n).still = s.still := by simp [State.bufferRegs]

@[simp] theorem State.serveLines_still (s : State) (k : Nat) : (s.serveLines k).still = s.still := by
  induction k generalizing s with
  | zero => rfl
  | succ k ih =>
    unfold State.serveLines
    split <;> simp [ih]

@[simp] theorem State.takeTables_still (s : State) (n : Nat) : (s.takeTables n).1.still = s.still := by simp [State.takeTables]
@[simp] theorem State.skipFrame_still (s : State) (n : Nat) : (s.skipFrame n).still = s.still := by simp [State.skipFrame]
@[simp] theorem execFrameStart_still (n served : Nat) (s : State) : KeepsStill (execFrameStart n served s) s := by simp [execFrameStart]

@[simp] theorem State.headerError_still (s : State) (n : Nat) : (s.headerError n).still = s.still := by
  unfold State.headerError
  dsimp only
  split <;> simp

@[simp] theorem State.imageLine_still (s : State) (n : Nat) (line : List Nat) (crcBad : Bool) : (s.imageLine n line crcBad).still = s.still := by
  unfold State.imageLine
  dsimp only
  (repeat' split) <;> simp

@[simp] theorem execLineArrival_still (n : Nat) (px : CamLine) (crcBad hdrErr frameEnd : Bool) (served : Nat) (s : State) :
    KeepsStill (execLineArrival n px crcBad hdrErr frameEnd served s) s := by
  unfold execLineArrival
  dsimp only
  (repeat' split) <;> simp

@[simp] theorem execLineTimeout_still (n : Nat) (s : State) : KeepsStill (execLineTimeout n s) s := by
  unfold execLineTimeout
  split <;> simp

@[simp] theorem execFrameStall_still (n : Nat) (s : State) : KeepsStill (execFrameStall n s) s := by simp [execFrameStall]
@[simp] theorem State.camPoison_still (s : State) : s.camPoison.still = s.still := by simp [State.camPoison]

@[simp] theorem State.historyLine_still (s : State) (n i run : Nat) (f : CamFrame) (flags : Nat) :
    (s.historyLine n i run f flags).1.still = s.still := by
  simp [State.historyLine]

@[simp] theorem State.historyFrame_still (s : State) (n : Nat) (f : CamFrame) : (s.historyFrame n f).1.still = s.still := by
  unfold State.historyFrame
  split
  · rfl
  · refine foldl_fst_fst_still _ (fun x i => ?_) _ _
    split <;> simp

@[simp] theorem State.setSession_still (s : State) (k : Nat) (x : EncSession) : (s.setSession k x).still = s.still := by simp [State.setSession]

@[simp] theorem State.releaseOldest_still (s : State) (n k : Nat) : (s.releaseOldest n k).still = s.still := by
  refine foldl_still _ (fun x i => ?_) _ _
  dsimp only
  split <;> simp

@[simp] theorem State.trimHolds_still (s : State) (n : Nat) : (s.trimHolds n).still = s.still := by
  unfold State.trimHolds
  dsimp only
  (repeat' split) <;> simp

@[simp] theorem State.offerPicture_still (s : State) (k n : Nat) (p : Picture) : (s.offerPicture k n p).still = s.still := by
  simp [State.offerPicture]

@[simp] theorem execFrameProcessed_still (n : Nat) (s : State) : KeepsStill (execFrameProcessed n s) s := by
  unfold execFrameProcessed
  dsimp only
  split <;> simp

@[simp] theorem State.encCfgWrite_still (s : State) (k : Nat) (v : W32) : (s.encCfgWrite k v).still = s.still := by simp [State.encCfgWrite]
@[simp] theorem State.encCtlWrite_still (s : State) (v : W32) : (s.encCtlWrite v).still = s.still := by simp [State.encCtlWrite]
@[simp] theorem State.encStopIfDue_still (s : State) (k : Nat) : (s.encStopIfDue k).still = s.still := by simp [State.encStopIfDue]
@[simp] theorem State.putUnit_still (s : State) (a len : Nat) (idr : Bool) : (s.putUnit a len idr).still = s.still := by simp [State.putUnit]

@[simp] theorem execPictureEncode_still (n len qp : Nat) (s : State) : KeepsStill (execPictureEncode n len qp s) s := by
  unfold execPictureEncode
  dsimp only
  split <;> simp

@[simp] theorem State.bsrposSet_still (s : State) (v : W32) : (s.bsrposSet v).still = s.still := by simp [State.bsrposSet]
@[simp] theorem execBsrposWrite_still (agent : Agent) (value : W32) (s : State) : KeepsStill (execBsrposWrite agent value s) s := by simp [execBsrposWrite]
@[simp] theorem State.encCmdWrite_still (s : State) (k : Nat) (v : W32) : (s.encCmdWrite k v).still = s.still := by simp [State.encCmdWrite]
@[simp] theorem execEncRestart_still (agent : Agent) (n : Nat) (s : State) : KeepsStill (execEncRestart agent n s) s := by simp [execEncRestart]
@[simp] theorem execEncForceidr_still (agent : Agent) (n : Nat) (s : State) : KeepsStill (execEncForceidr agent n s) s := by simp [execEncForceidr]
@[simp] theorem execLoadtab_still (q : Nat) (s : State) : KeepsStill (execLoadtab q s) s := by simp [execLoadtab]
@[simp] theorem execCci_still (q : Nat) (ack : Bool) (data : Nat) (s : State) : KeepsStill (execCci q ack data s) s := by simp [execCci]
@[simp] theorem State.copyRow_still (s : State) (src dst n : Nat) : (s.copyRow src dst n).still = s.still := by simp [State.copyRow]

@[simp] theorem execCamExport_still (q : Nat) (s : State) : KeepsStill (execCamExport q s) s := by
  unfold execCamExport
  simp only [keepsStill_next]
  split
  refine State.serve_still _ _ _ _ fun d t => ?_
  (repeat' split) <;> simp
  rfl

@[simp] theorem State.linkRegWrite_still (s : State) (n off : Nat) (v : W32) : (s.linkRegWrite n off v).still = s.still := by
  simp [State.linkRegWrite]

@[simp] theorem State.linkBufWrite_still (s : State) (n off : Nat) (v : W32) : (s.linkBufWrite n off v).still = s.still := by
  simp [State.linkBufWrite]

@[simp] theorem State.encRegWrite_still (s : State) (k off : Nat) (v : W32) : (s.encRegWrite k off v).still = s.still := by simp [State.encRegWrite]
@[simp] theorem State.camParity_still (s : State) (off : Nat) : (s.camParity off).still = s.still := by simp [State.camParity]

/-! ### Lift -/

@[simp] theorem State.poseRefresh_still (s : State) : s.poseRefresh.still = s.still := by simp [State.poseRefresh]

/-! ### Maintenance tokens -/

@[simp] theorem State.setToken_still (s : State) (c : Nat) (t : Token) : (s.setToken c t).still = s.still := by simp [State.setToken]

@[simp] theorem State.tokGrant_still (s : State) (c owner act since : Nat) : (s.tokGrant c owner act since).still = s.still := by
  unfold State.tokGrant
  dsimp only
  (repeat' split) <;> simp

@[simp] theorem State.tokAsk_still (s : State) (c owner act : Nat) : (s.tokAsk c owner act).1.still = s.still := by simp [State.tokAsk]

@[simp] theorem State.tokGive_still (s : State) (c : Nat) : (s.tokGive c).still = s.still := by
  unfold State.tokGive
  split <;> simp

@[simp] theorem State.tokWithdraw_still (s : State) (c owner act : Nat) : (s.tokWithdraw c owner act).still = s.still := by simp [State.tokWithdraw]
@[simp] theorem State.tokEnd_still (s : State) (owner : Nat) : (s.tokEnd owner).still = s.still := by simp [State.tokEnd]

/-! ### Field grid -/

@[simp] theorem State.setSensor_still (s : State) (n : Nat) (x : Sensor) : (s.setSensor n x).still = s.still := by simp [State.setSensor]
@[simp] theorem State.showSensor_still (s : State) (n st : Nat) : (s.showSensor n st).still = s.still := by simp [State.showSensor]
@[simp] theorem State.praPoison_still (s : State) : s.praPoison.still = s.still := by simp [State.praPoison]
@[simp] theorem State.praPoisons_still (s : State) (n : Nat) : (s.praPoisons n).still = s.still := by simp [State.praPoisons]
@[simp] theorem State.praReject_still (s : State) (cause unit : Nat) : (s.praReject cause unit).still = s.still := by simp [State.praReject]
@[simp] theorem State.praEvent_still (s : State) (tag n : Nat) : (s.praEvent tag n).still = s.still := by simp [State.praEvent]
@[simp] theorem State.showCorr_still (s : State) (n : Nat) : (s.showCorr n).still = s.still := by simp [State.showCorr]
@[simp] theorem State.installCal_still (s : State) (n : Nat) : (s.installCal n).still = s.still := by simp [State.installCal]
@[simp] theorem State.skipCycle_still (s : State) : s.skipCycle.still = s.still := by simp [State.skipCycle]
@[simp] theorem State.activate_still (s : State) (n : Net) (resident : Bool) : (s.activate n resident).still = s.still := by simp [State.activate]

@[simp] theorem State.lidarShow_still (s : State) (pts : List LidHit) (bad drop : Nat) (lidars : List (Nat × Nat)) :
    (s.lidarShow pts bad drop lidars).still = s.still := by
  simp [State.lidarShow]

@[simp] theorem State.beginCycle_still (s : State) (net : Net) (paceTmo : Bool) (lidars : List (Nat × Nat)) :
    (s.beginCycle net paceTmo lidars).still = s.still := by
  simp [State.beginCycle]

@[simp] theorem State.cycleDue_still (s : State) (paceTmo : Bool) (lidars : List (Nat × Nat)) : (s.cycleDue paceTmo lidars).still = s.still := by
  unfold State.cycleDue
  dsimp only
  (repeat' split) <;> simp

@[simp] theorem execGridCycleStart_still (sync : Nat) (lidars : List (Nat × Nat)) (s : State) : KeepsStill (execGridCycleStart sync lidars s) s := by
  simp [execGridCycleStart]

@[simp] theorem execPaceTimeout_still (sync : Nat) (lidars : List (Nat × Nat)) (s : State) : KeepsStill (execPaceTimeout sync lidars s) s := by
  simp [execPaceTimeout]

@[simp] theorem State.dropFrame_still (s : State) (n : Nat) : (s.dropFrame n).still = s.still := by simp [State.dropFrame]

@[simp] theorem State.offerVision_still (s : State) (net : Net) (n slot tend : Nat) : (s.offerVision net n slot tend).still = s.still := by
  unfold State.offerVision
  split <;> simp

@[simp] theorem State.startVision_still (s : State) : s.startVision.still = s.still := by
  unfold State.startVision
  (repeat' split) <;> simp

@[simp] theorem State.stage1Done_still (s : State) (net : Net) (us : Nat) : (s.stage1Done net us).still = s.still := by
  unfold State.stage1Done
  split <;> simp

@[simp] theorem execStage1Run_still (n slot tend : Nat) (runs : List Nat) (s : State) : KeepsStill (execStage1Run n slot tend runs s) s := by
  unfold execStage1Run
  split <;> simp

@[simp] theorem State.putTensor_still (s : State) (a seed : Nat) (values : List (Nat × Nat)) (words : List Nat) :
    (s.putTensor a seed values words).still = s.still := by
  simp [State.putTensor]

@[simp] theorem State.refine_still (s : State) (o : SensOut) (period : Nat) : (s.refine o period).still = s.still := by
  unfold State.refine
  dsimp only
  split <;> simp

@[simp] theorem State.excludeSensor_still (s : State) (n : Nat) (manual : Bool) : (s.excludeSensor n manual).still = s.still := by
  simp [State.excludeSensor]

@[simp] theorem State.reinstateSensor_still (s : State) (n : Nat) : (s.reinstateSensor n).still = s.still := by simp [State.reinstateSensor]

@[simp] theorem State.judgeSensor_still (s : State) (o : SensOut) : (s.judgeSensor o).still = s.still := by
  unfold State.judgeSensor
  dsimp only
  split <;> simp

@[simp] theorem State.gridEntry_still (s : State) (slot gseq tg age flags npois : Nat) :
    (s.gridEntry slot gseq tg age flags npois).still = s.still := by
  simp [State.gridEntry]

@[simp] theorem State.keepGrid_still (s : State) (c : GridCycle) (gseq flags : Nat) (words : List Nat) :
    (s.keepGrid c gseq flags words).still = s.still := by
  simp [State.keepGrid]

@[simp] theorem execGridPublish_still (values : List (Nat × Nat)) (sens : List SensOut) (s : State) : KeepsStill (execGridPublish values sens s) s := by
  unfold execGridPublish
  split <;> simp

@[simp] theorem State.showNet_still (s : State) : s.showNet.still = s.still := by simp [State.showNet]

@[simp] theorem State.netBuild_still (s : State) (d : Desc) (busy layersFit : Bool) : (s.netBuild d busy layersFit).1.still = s.still := by
  simp [State.netBuild]

@[simp] theorem execNetload_still (q : Nat) (finished layersFit : Bool) (s : State) : KeepsStill (execNetload q finished layersFit s) s := by
  unfold execNetload
  (repeat' split) <;> simp

@[simp] theorem State.deactivate_still (s : State) : s.deactivate.still = s.still := by simp [State.deactivate]

@[simp] theorem execNetact_still (q : Nat) (resident : Bool) (s : State) : KeepsStill (execNetact q resident s) s := by
  unfold execNetact
  simp only [keepsStill_next]
  split
  refine State.serve_still _ _ _ _ fun d t => ?_
  (repeat' split) <;> simp
  rfl

@[simp] theorem execCalload_still (q : Nat) (s : State) : KeepsStill (execCalload q s) s := by simp [execCalload]
@[simp] theorem execCalread_still (q : Nat) (s : State) : KeepsStill (execCalread q s) s := by simp [execCalread]
@[simp] theorem State.freezeMask_still (s : State) (mask : Nat) (v : Bool) : (s.freezeMask mask v).still = s.still := by simp [State.freezeMask]

@[simp] theorem execCalfreeze_still (q : Nat) (s : State) : KeepsStill (execCalfreeze q s) s := by
  unfold execCalfreeze
  (repeat' split) <;> simp

@[simp] theorem execReinstate_still (q : Nat) (s : State) : KeepsStill (execReinstate q s) s := by simp [execReinstate]
@[simp] theorem execExclude_still (q : Nat) (s : State) : KeepsStill (execExclude q s) s := by simp [execExclude]

@[simp] theorem State.praGridWrite_still (s : State) (off : Nat) (v : W32) : (s.praGridWrite off v).still = s.still := by
  unfold State.praGridWrite
  (repeat' split) <;> simp

/-! ### Tracks, forecast and yield -/

@[simp] theorem State.setTrack_still (s : State) (n : Nat) (x : Track) : (s.setTrack n x).still = s.still := by simp [State.setTrack]
@[simp] theorem State.issueTid_still (s : State) : s.issueTid.1.still = s.still := by simp [State.issueTid]

@[simp] theorem State.updateSlot_still (s : State) (c : TrackCounts) (tg n : Nat) (r : TrackRow) (held : Bool) :
    (s.updateSlot c tg n r held).1.still = s.still := by
  simp [State.updateSlot]

@[simp] theorem State.placeCand_still (s : State) (c : TrackCounts) (tg : Nat) (r : TrackRow) : (s.placeCand c tg r).1.still = s.still := by
  unfold State.placeCand
  (repeat' split) <;> simp

@[simp] theorem State.updateTracks_still (s : State) (g : GridRef) (rows : List TrackRow) : (s.updateTracks g rows).1.still = s.still := by
  simp [State.updateTracks]

@[simp] theorem State.publishTracks_still (s : State) (g : GridRef) (c : TrackCounts) (cleared : Bool) :
    (s.publishTracks g c cleared).still = s.still := by
  simp [State.publishTracks]

@[simp] theorem State.zoneLine_still (s : State) (g : GridRef) : (s.zoneLine g).still = s.still := by simp [State.zoneLine]

@[simp] theorem execTrackUpdate_still (rows : List TrackRow) (s : State) : KeepsStill (execTrackUpdate rows s) s := by
  unfold execTrackUpdate
  split <;> simp

@[simp] theorem State.trkClearWrite_still (s : State) : s.trkClearWrite.still = s.still := by simp [State.trkClearWrite]
@[simp] theorem execTrackClear_still (agent : Agent) (s : State) : KeepsStill (execTrackClear agent s) s := by simp [execTrackClear]
@[simp] theorem State.fcAbandon_still (s : State) : s.fcAbandon.still = s.still := by simp [State.fcAbandon]
@[simp] theorem State.fcIssue_still (s : State) (r : FcRun) : (s.fcIssue r).still = s.still := by simp [State.fcIssue]

@[simp] theorem State.fcLanded_still (s : State) : s.fcLanded.still = s.still := by
  unfold State.fcLanded
  split <;> simp

@[simp] theorem State.fcDelivered_still (s : State) : s.fcDelivered.still = s.still := by
  unfold State.fcDelivered
  split <;> simp

@[simp] theorem State.landLine_still (s : State) (l : BridgeLine) : (s.landLine l).still = s.still := by
  unfold State.landLine
  split <;> simp

@[simp] theorem State.massTake_still (s : State) (rho conf : List (Nat × Nat)) (poison : List Nat) :
    (s.massTake rho conf poison).still = s.still := by
  unfold State.massTake
  split <;> simp

@[simp] theorem State.fcBuild_still (s : State) (steps us : Nat) : (s.fcBuild steps us).1.still = s.still := by simp [State.fcBuild]

@[simp] theorem execForecastSample_still (massDone : Bool) (rho conf : List (Nat × Nat)) (poison : List Nat) (steps us : Nat) (s : State) :
    KeepsStill (execForecastSample massDone rho conf poison steps us s) s := by
  simp [execForecastSample]

@[simp] theorem State.yldDrop_still (s : State) (g : Frac) : (s.yldDrop g).still = s.still := by simp [State.yldDrop]
@[simp] theorem State.showTiles_still (s : State) : s.showTiles.still = s.still := by simp [State.showTiles]
@[simp] theorem State.setTiles_still (s : State) (l : List Tile) : (s.setTiles l).still = s.still := by simp [State.setTiles]
@[simp] theorem State.writeTile_still (s : State) (x : Tile) (extra : Nat) : (s.writeTile x extra).still = s.still := by simp [State.writeTile]
@[simp] theorem State.closeTile_still (s : State) (x : Tile) (extra : Nat) : (s.closeTile x extra).still = s.still := by simp [State.closeTile]

@[simp] theorem State.openTile_still (s : State) (te tn : Int) : (s.openTile te tn).1.still = s.still := by
  unfold State.openTile
  dsimp only
  (repeat' split) <;> simp

@[simp] theorem State.keepTile_still (s : State) (x : Tile) : (s.keepTile x).still = s.still := by simp [State.keepTile]

@[simp] theorem State.addToCell_still (s : State) (e n : Int) (wet water area : Frac) (flags : Nat) :
    (s.addToCell e n wet water area flags).still = s.still := by
  unfold State.addToCell
  dsimp only
  split <;> simp

@[simp] theorem State.flagTile_still (s : State) (flags : Nat) : (s.flagTile flags).still = s.still := by
  unfold State.flagTile
  split <;> simp

@[simp] theorem State.placeYield_still (s : State) (r : Reading) (w : Option Frac) (gap : Nat) : (s.placeYield r w gap).still = s.still := by
  unfold State.placeYield
  dsimp only
  split <;> simp

@[simp] theorem State.readYield_still (s : State) (x : Nat × Nat × Nat) (r : Reading) : (s.readYield x r).still = s.still := by simp [State.readYield]

@[simp] theorem execYieldSample_still (pos tray k : Nat) (moist : Option (Nat × Nat × Nat)) (cells : List (Int × Int)) (s : State) :
    KeepsStill (execYieldSample pos tray k moist cells s) s := by
  unfold execYieldSample
  (repeat' split) <;> simp

@[simp] theorem execTileClose_still (te tn : Int) (s : State) : KeepsStill (execTileClose te tn s) s := by
  unfold execTileClose
  split <;> simp

@[simp] theorem State.flushTiles_still (s : State) : s.flushTiles.still = s.still := by simp [State.flushTiles]
@[simp] theorem execYieldFlush_still (agent : Agent) (s : State) : KeepsStill (execYieldFlush agent s) s := by simp [execYieldFlush]
@[simp] theorem State.yldrposSet_still (s : State) (v : W32) : (s.yldrposSet v).still = s.still := by simp [State.yldrposSet]

@[simp] theorem execYldrposWrite_still (agent : Agent) (value : W32) (s : State) : KeepsStill (execYldrposWrite agent value s) s := by
  simp [execYldrposWrite]

@[simp] theorem State.tracksOff_still (s : State) : s.tracksOff.still = s.still := by simp [State.tracksOff]
@[simp] theorem State.tilesDiscard_still (s : State) : s.tilesDiscard.still = s.still := by simp [State.tilesDiscard]

@[simp] theorem State.praProductWrite_still (s : State) (off : Nat) (v : W32) : (s.praProductWrite off v).still = s.still := by
  simp [State.praProductWrite]

@[simp] theorem State.praWrite_still (s : State) (off : Nat) (v : W32) : (s.praWrite off v).still = s.still := by simp [State.praWrite]
@[simp] theorem State.praParity_still (s : State) (off : Nat) : (s.praParity off).still = s.still := by simp [State.praParity]

/-! ### Gorge and the Bed bridge -/

@[simp] theorem State.fabRegs_still (s : State) : s.fabRegs.still = s.still := by
  unfold State.fabRegs
  dsimp only
  (repeat' split) <;> simp

@[simp] theorem State.ringsWait_still (s : State) (n : Nat) (v : Bool) : (s.ringsWait n v).still = s.still := by simp [State.ringsWait]
@[simp] theorem State.grant_still (s : State) (w : FabWait) (tag : Nat) : (s.grant w tag).still = s.still := by simp [State.grant]

@[simp] theorem State.grantWaits_still (s : State) (fuel tag : Nat) : (s.grantWaits fuel tag).still = s.still := by
  induction fuel generalizing s with
  | zero => rfl
  | succ k ih =>
    unfold State.grantWaits
    split <;> simp [ih]

@[simp] theorem execGorgeRequest_still (req cls : Nat) (kind : Xfer) (addr len tag : Nat) (s : State) :
    KeepsStill (execGorgeRequest req cls kind addr len tag s) s := by
  simp [execGorgeRequest]

@[simp] theorem State.freeEntry_still (s : State) (tag newTag : Nat) : (s.freeEntry tag newTag).still = s.still := by simp [State.freeEntry]

@[simp] theorem execEntryRelease_still (tag newTag : Nat) (s : State) : KeepsStill (execEntryRelease tag newTag s) s := by
  unfold execEntryRelease
  split <;> simp

@[simp] theorem State.poisonTarget_still (s : State) (e : FabEntry) : (s.poisonTarget e).still = s.still := by simp [State.poisonTarget]

@[simp] theorem State.throughTracker_still (s : State) (a : Agent) (blk addr : Nat) (write : Bool) :
    (s.throughTracker a blk addr write).still = s.still := by
  simp [State.throughTracker]

@[simp] theorem execForcedCompletion_still (tag newTag : Nat) (s : State) : KeepsStill (execForcedCompletion tag newTag s) s := by
  unfold execForcedCompletion
  split <;> simp

@[simp] theorem State.creditWrite_still (s : State) (n : Nat) (v : W32) : (s.creditWrite n v).still = s.still := by simp [State.creditWrite]

@[simp] theorem execFabCredWrite_still (agent : Agent) (n : Nat) (value : W32) (s : State) : KeepsStill (execFabCredWrite agent n value s) s := by
  simp [execFabCredWrite]

@[simp] theorem execBridgeHandoff_still (addr : Nat) (data : Bytes) (s : State) : KeepsStill (execBridgeHandoff addr data s) s := by
  simp [execBridgeHandoff]

@[simp] theorem execBridgeInboundWrite_still (agent : Agent) (addr : Nat) (data : Bytes) (poison : Bool) (s : State) :
    KeepsStill (execBridgeInboundWrite agent addr data poison s) s := by
  simp [execBridgeInboundWrite]

@[simp] theorem State.bridgeAdmit_still (s : State) : s.bridgeAdmit.still = s.still := by
  unfold State.bridgeAdmit
  split <;> simp

@[simp] theorem execBridgeDrain_still (s : State) : KeepsStill (execBridgeDrain s) s := by
  unfold execBridgeDrain
  split <;> simp

/-! ### Pace and time -/

@[simp] theorem State.flagRise_still (s : State) (stat ie : Fld) : (s.flagRise stat ie).still = s.still := by simp [State.flagRise]
@[simp] theorem State.excludeGauge_still (s : State) (n : Nat) : (s.excludeGauge n).still = s.still := by simp [State.excludeGauge]

@[simp] theorem State.measureDomain_still (s : State) (canopy : Bool) (readings : List Nat) : (s.measureDomain canopy readings).still = s.still := by
  simp [State.measureDomain]

@[simp] theorem State.paceRegs_still (s : State) : s.paceRegs.still = s.still := by
  unfold State.paceRegs
  dsimp only
  (repeat' split) <;> simp

@[simp] theorem State.breachEdge_still (s : State) (was is : Bool) : (s.breachEdge was is).still = s.still := by simp [State.breachEdge]
@[simp] theorem State.judgeBreach_still (s : State) : s.judgeBreach.still = s.still := by simp [State.judgeBreach]

@[simp] theorem execPaceGaugeMeasure_still (readings : List Nat) (s : State) : KeepsStill (execPaceGaugeMeasure readings s) s := by
  simp [execPaceGaugeMeasure]

@[simp] theorem execRailRegulation_still (s : State) : KeepsStill (execRailRegulation s) s := by simp [execRailRegulation]

@[simp] theorem State.crossing_still (s : State) (was is : Bool) (stat ie : Fld) (ev sev : Nat) :
    (s.crossing was is stat ie ev sev).still = s.still := by
  simp [State.crossing]

@[simp] theorem State.shedWatch_still (s : State) (j warn : Int) (wasCrit isCrit : Bool) : (s.shedWatch j warn wasCrit isCrit).still = s.still := by
  simp [State.shedWatch]

@[simp] theorem execTempSensorUpdate_still (temps : List (Option Int)) (s : State) : KeepsStill (execTempSensorUpdate temps s) s := by
  refine (keepsStill_next _ _).mpr ?_
  split
  · extract_lets t
    have ht : t.still = s.still := by
      refine foldl_still _ (fun x n => ?_) _ _
      split <;> simp
    clear_value t
    split <;> simp [ht]
  · split <;> simp

@[simp] theorem State.voltReading_still (s : State) (n : Nat) (r : Option Nat) : (s.voltReading n r).still = s.still := by
  unfold State.voltReading
  split <;> simp

@[simp] theorem State.supplyReading_still (s : State) (r : Option Nat) : (s.supplyReading r).still = s.still := by
  unfold State.supplyReading
  split <;> simp

@[simp] theorem execVoltageMonitorUpdate_still (mv : List (Option Nat)) (s : State) : KeepsStill (execVoltageMonitorUpdate mv s) s := by
  simp [execVoltageMonitorUpdate]

@[simp] theorem execSundialSave_still (s : State) : KeepsStill (execSundialSave s) s := by simp [execSundialSave]
@[simp] theorem State.setCompare_still (s : State) (core cmp : Nat) : (s.setCompare core cmp).still = s.still := by simp [State.setCompare]
@[simp] theorem State.timersDue_still (s : State) : s.timersDue.still = s.still := by simp [State.timersDue]

@[simp] theorem execTimerCompareMatch_still (core cmp : Nat) (s : State) : KeepsStill (execTimerCompareMatch core cmp s) s := by
  simp [execTimerCompareMatch]

@[simp] theorem State.sdlChange_still (s : State) (k : State → State) (h : ∀ t, (k t).still = t.still) : (s.sdlChange k).still = s.still := by
  simp [State.sdlChange, h]

@[simp] theorem State.setTrim_still (s : State) (v : Int) : (s.setTrim v).still = s.still := by simp [State.setTrim]
@[simp] theorem State.servo_still (s : State) : s.servo.still = s.still := by simp [State.servo]
@[simp] theorem State.sdlEnter_still (s : State) (st : Nat) : (s.sdlEnter st).still = s.still := by simp [State.sdlEnter]

@[simp] theorem State.sdlMark_still (s : State) (e : Int) : (s.sdlMark e).still = s.still := by
  unfold State.sdlMark
  split <;> simp

@[simp] theorem State.refMark_still (s : State) (source stamp gps : Nat) (rateErr : Int) : (s.refMark source stamp gps rateErr).still = s.still := by
  simp [State.refMark]

@[simp] theorem execReferenceMark_still (source stamp gps : Nat) (rateErr : Int) (s : State) :
    KeepsStill (execReferenceMark source stamp gps rateErr s) s := by
  simp [execReferenceMark]

@[simp] theorem execMarkTimeout_still (s : State) : KeepsStill (execMarkTimeout s) s := by
  unfold execMarkTimeout
  (repeat' split) <;> simp

@[simp] theorem State.sdlCtlWrite_still (s : State) (v : W32) : (s.sdlCtlWrite v).still = s.still := by simp [State.sdlCtlWrite]

@[simp] theorem execSdlModeWrite_still (agent : Agent) (value : W32) (s : State) : KeepsStill (execSdlModeWrite agent value s) s := by
  simp [execSdlModeWrite]

@[simp] theorem State.tcxoLost_still (s : State) : s.tcxoLost.still = s.still := by simp [State.tcxoLost]

@[simp] theorem execDriftCheck_still (neededTrim rootDiff : Int) (rootAtFault : Bool) (s : State) :
    KeepsStill (execDriftCheck neededTrim rootDiff rootAtFault s) s := by
  simp [execDriftCheck]

@[simp] theorem execTcxoLoss_still (s : State) : KeepsStill (execTcxoLoss s) s := by simp [execTcxoLoss]
@[simp] theorem execTcxoReturn_still (s : State) : KeepsStill (execTcxoReturn s) s := by simp [execTcxoReturn]
@[simp] theorem State.alarmFires_still (s : State) (n dest late : Nat) : (s.alarmFires n dest late).still = s.still := by simp [State.alarmFires]
@[simp] theorem State.alarmCtlWrite_still (s : State) (n : Nat) (v : W32) : (s.alarmCtlWrite n v).still = s.still := by simp [State.alarmCtlWrite]

@[simp] theorem execAlarmArm_still (agent : Agent) (n : Nat) (value : W32) (s : State) : KeepsStill (execAlarmArm agent n value s) s := by
  simp [execAlarmArm]

@[simp] theorem execAlarmDisarm_still (agent : Agent) (n : Nat) (value : W32) (s : State) : KeepsStill (execAlarmDisarm agent n value s) s := by
  simp [execAlarmDisarm]

@[simp] theorem execAlarmFire_still (n : Nat) (s : State) : KeepsStill (execAlarmFire n s) s := by simp [execAlarmFire]

/-! ### Satellite navigation -/

@[simp] theorem State.gnsPoison_still (s : State) : s.gnsPoison.still = s.still := by simp [State.gnsPoison]
@[simp] theorem State.gnsReject_still (s : State) (cause : Nat) : (s.gnsReject cause).still = s.still := by simp [State.gnsReject]

@[simp] theorem State.gnsEvent_still (s : State) (tag subject value : Nat) : (s.gnsEvent tag subject value).still = s.still := by
  simp [State.gnsEvent]

@[simp] theorem State.gnsCounts_still (s : State) : s.gnsCounts.still = s.still := by simp [State.gnsCounts]
@[simp] theorem State.setGnsChan_still (s : State) (n : Nat) (c : GnsChan) : (s.setGnsChan n c).still = s.still := by simp [State.setGnsChan]

@[simp] theorem State.assignChannel_still (s : State) (x : SigKey) (k : Int) : (s.assignChannel x k).still = s.still := by
  unfold State.assignChannel
  split <;> simp

@[simp] theorem State.dropChannel_still (s : State) (n : Nat) : (s.dropChannel n).still = s.still := by simp [State.dropChannel]

@[simp] theorem State.freeGnsChannel_still (s : State) (n : Nat) : (s.freeGnsChannel n).still = s.still := by
  unfold State.freeGnsChannel
  split <;> simp

@[simp] theorem State.loseLock_still (s : State) (n : Nat) : (s.loseLock n).still = s.still := by simp [State.loseLock]
@[simp] theorem State.freeAllChannels_still (s : State) : s.freeAllChannels.still = s.still := by simp [State.freeAllChannels]

@[simp] theorem State.setSearch_still (s : State) (u : Nat) (x : Option (SigKey × Int × Nat)) : (s.setSearch u x).still = s.still := by
  simp [State.setSearch]

@[simp] theorem State.startSearch_still (s : State) (u : Nat) (x : SigKey) (k : Int) : (s.startSearch u x k).still = s.still := by
  simp [State.startSearch]

@[simp] theorem State.endSearch_still (s : State) (u : Nat) (x : SigKey) (k : Int) (found : Bool) : (s.endSearch u x k found).still = s.still := by
  simp [State.endSearch]

@[simp] theorem execSignalSearch_still (u ant sys sv sig : Nat) (k : Int) (found : Bool) (sky : List Sat) (s : State) :
    KeepsStill (execSignalSearch u ant sys sv sig k found sky s) s := by
  unfold execSignalSearch
  (repeat' split) <;> simp

@[simp] theorem execChannelLock_still (ch : Nat) (seconds : List Nat) (s : State) : KeepsStill (execChannelLock ch seconds s) s := by
  simp [execChannelLock]

@[simp] theorem execChannelLockLoss_still (ch : Nat) (s : State) : KeepsStill (execChannelLockLoss ch s) s := by
  unfold execChannelLockLoss
  (repeat' split) <;> simp

@[simp] theorem execChannelFree_still (ch : Nat) (low : Bool) (s : State) : KeepsStill (execChannelFree ch low s) s := by simp [execChannelFree]
@[simp] theorem execAntennaFeedFault_still (a ma : Nat) (s : State) : KeepsStill (execAntennaFeedFault a ma s) s := by simp [execAntennaFeedFault]
@[simp] theorem execAntennaFeedRetry_still (a : Nat) (s : State) : KeepsStill (execAntennaFeedRetry a s) s := by simp [execAntennaFeedRetry]
@[simp] theorem State.feedApply_still (s : State) (a : Nat) : (s.feedApply a).still = s.still := by simp [State.feedApply]
@[simp] theorem State.gnsAidRegs_still (s : State) : s.gnsAidRegs.still = s.still := by simp [State.gnsAidRegs]
@[simp] theorem execAidtime_still (q : Nat) (s : State) : KeepsStill (execAidtime q s) s := by simp [execAidtime]
@[simp] theorem State.takePos_still (s : State) (a : PosAid) : (s.takePos a).still = s.still := by simp [State.takePos]
@[simp] theorem State.takeVel_still (s : State) (a : PosAid) : (s.takeVel a).still = s.still := by simp [State.takeVel]
@[simp] theorem execAidpos_still (q : Nat) (s : State) : KeepsStill (execAidpos q s) s := by simp [execAidpos]
@[simp] theorem execSolution_still (q : Nat) (s : State) : KeepsStill (execSolution q s) s := by simp [execSolution]

theorem State.takeFrame_still (s t : State) (fr : Bytes) (h : s.takeFrame fr = some t) : t.still = s.still := by
  obtain ⟨y, -, rfl⟩ := Option.map_eq_some_iff.mp h
  simp

@[simp] theorem State.takeFrame_getD_still (s : State) (fr : Bytes) : ((s.takeFrame fr).getD s).still = s.still :=
  State.still_getD _ _ fun _ => s.takeFrame_still _ fr

@[simp] theorem execAidorb_still (q : Nat) (s : State) : KeepsStill (execAidorb q s) s := by
  simp only [execAidorb, keepsStill_next]
  split
  · refine State.serve_still _ _ _ _ fun d t => ?_
    split
    · rfl
    · split
      · rfl
      · simp only [State.gnsAidRegs_still]
        refine Eq.trans (foldl_fst_still _ (fun x fr => ?_) _ _) ?_
        · split
          · next y hy =>
            split at hy
            · exact State.takeFrame_still _ _ _ hy
            · cases hy
          · rfl
        · simp
  · rfl

@[simp] theorem execOrbread_still (q : Nat) (s : State) : KeepsStill (execOrbread q s) s := by simp [execOrbread]
@[simp] theorem execGnssRestart_still (q : Nat) (s : State) : KeepsStill (execGnssRestart q s) s := by simp [execGnssRestart]
@[simp] theorem State.antRegs_still (s : State) (a : Nat) (obs : List ObsIn) : (s.antRegs a obs).still = s.still := by simp [State.antRegs]

@[simp] theorem State.isbRegs_still (s : State) (l : List (Option Int)) (consecutive : Bool) : (s.isbRegs l consecutive).still = s.still := by
  simp [State.isbRegs]

@[simp] theorem State.fixRegs_still (s : State) (tepoch : Nat) (e : EpochIn) : (s.fixRegs tepoch e).still = s.still := by simp [State.fixRegs]
@[simp] theorem State.epochApply_still (s : State) : s.epochApply.still = s.still := by simp [State.epochApply]
@[simp] theorem State.epochNav_still (s : State) (e : EpochIn) : (s.epochNav e).still = s.still := by simp [State.epochNav]
@[simp] theorem execGnssEpoch_still (tepoch : Nat) (e : EpochIn) (s : State) : KeepsStill (execGnssEpoch tepoch e s) s := by simp [execGnssEpoch]

@[simp] theorem execGnssMark_still (stamp gps sig : Nat) (rateErr : Int) (s : State) : KeepsStill (execGnssMark stamp gps sig rateErr s) s := by
  simp [execGnssMark]

@[simp] theorem execMarkstop_still (s : State) : KeepsStill (execMarkstop s) s := by
  unfold execMarkstop
  split <;> simp

@[simp] theorem State.gnsWrite_still (s : State) (off : Nat) (v : W32) : (s.gnsWrite off v).still = s.still := by simp [State.gnsWrite]
@[simp] theorem State.gnsParity_still (s : State) (off : Nat) : (s.gnsParity off).still = s.still := by simp [State.gnsParity]

/-! ### Valve banks -/

@[simp] theorem State.setValve_still (s : State) (n : Nat) (x : Valve) : (s.setValve n x).still = s.still := by simp [State.setValve]
@[simp] theorem State.vSet_still (s : State) (n b : Nat) (v : Bool) : (s.vSet n b v).still = s.still := by simp [State.vSet]
@[simp] theorem State.setOutIc_still (s : State) (i : Nat) (x : OutIc) : (s.setOutIc i x).still = s.still := by simp [State.setOutIc]

@[simp] theorem State.vlvEntry_still (s : State) (tag subject : Nat) (detail : Option Nat) : (s.vlvEntry tag subject detail).still = s.still := by
  simp [State.vlvEntry]

@[simp] theorem State.vlvEvent_still (s : State) (tag subject sev : Nat) (detail : Option Nat) :
    (s.vlvEvent tag subject sev detail).still = s.still := by
  simp [State.vlvEvent]

@[simp] theorem State.vlvReject_still (s : State) (n cause : Nat) : (s.vlvReject n cause).still = s.still := by simp [State.vlvReject]

@[simp] theorem State.actuation_still (s : State) (n tag ended ton toff : Nat) : (s.actuation n tag ended ton toff).still = s.still := by
  simp [State.actuation]

@[simp] theorem State.bankLimit_still (s : State) (n : Nat) (cs : List Nat) : (s.bankLimit n cs).1.still = s.still := by simp [State.bankLimit]
@[simp] theorem State.bankRegs_still (s : State) (b : Nat) : (s.bankRegs b).still = s.still := by simp [State.bankRegs]
@[simp] theorem State.actuate_still (s : State) (n : Nat) : (s.actuate n).still = s.still := by simp [State.actuate]
@[simp] theorem State.valveStart_still (s : State) (n : Nat) : (s.valveStart n).still = s.still := by simp [State.valveStart]
@[simp] theorem State.undefer_still (s : State) (n : Nat) : (s.undefer n).still = s.still := by simp [State.undefer]

@[simp] theorem State.grantPeak_still (s : State) (b : Nat) : (s.grantPeak b).still = s.still := by
  unfold State.grantPeak
  split <;> simp

@[simp] theorem State.valveStop_still (s : State) (n : Nat) : (s.valveStop n).still = s.still := by simp [State.valveStop]
@[simp] theorem State.valveOff_still (s : State) (n : Nat) : (s.valveOff n).still = s.still := by simp [State.valveOff]
@[simp] theorem State.valveFollow_still (s : State) (n : Nat) : (s.valveFollow n).1.still = s.still := by simp [State.valveFollow]
@[simp] theorem State.valveResume_still (s : State) (n : Nat) : (s.valveResume n).still = s.still := by simp [State.valveResume]

@[simp] theorem State.pulseDone_still (s : State) (n fl : Nat) : (s.pulseDone n fl).still = s.still := by
  unfold State.pulseDone
  dsimp only
  split <;> simp

@[simp] theorem State.valveCut_still (s : State) (n : Nat) : (s.valveCut n).still = s.still := by simp [State.valveCut]

@[simp] theorem State.valveCommand_still (s : State) (n : Nat) (on : Bool) (ma : Frac) : (s.valveCommand n on ma).1.still = s.still := by
  simp [State.valveCommand]

@[simp] theorem State.valvePermit_still (s : State) (n : Nat) (v : Bool) : (s.valvePermit n v).still = s.still := by simp [State.valvePermit]
@[simp] theorem State.valveRelease_still (s : State) (n : Nat) (v : Bool) : (s.valveRelease n v).1.still = s.still := by simp [State.valveRelease]
@[simp] theorem State.valveValue_still (s : State) (n : Nat) (amps : Frac) : (s.valveValue n amps).1.still = s.still := by simp [State.valveValue]

@[simp] theorem State.valveCmdWrite_still (s : State) (a : Agent) (n : Nat) (v : W32) : (s.valveCmdWrite a n v).still = s.still := by
  simp [State.valveCmdWrite]

@[simp] theorem execValveUntimedCommand_still (agent : Agent) (n : Nat) (value : W32) (s : State) :
    KeepsStill (execValveUntimedCommand agent n value s) s := by
  simp [execValveUntimedCommand]

@[simp] theorem State.peakEndNow_still (s : State) (n : Nat) : (s.peakEndNow n).still = s.still := by
  unfold State.peakEndNow
  dsimp only
  split <;> simp

@[simp] theorem execPeakPhaseEnd_still (n : Nat) (s : State) : KeepsStill (execPeakPhaseEnd n s) s := by simp [execPeakPhaseEnd]

@[simp] theorem execDipWindowClose_still (n : Nat) (reached : Bool) (depth us : Nat) (s : State) :
    KeepsStill (execDipWindowClose n reached depth us s) s := by
  unfold execDipWindowClose
  dsimp only
  split <;> simp

@[simp] theorem execBankTrip_still (b cause : Nat) (s : State) : KeepsStill (execBankTrip b cause s) s := by simp [execBankTrip]
@[simp] theorem State.bankClear_still (s : State) (b : Nat) : (s.bankClear b).still = s.still := by simp [State.bankClear]

@[simp] theorem execBankFaultClear_still (agent : Agent) (b : Nat) (s : State) : KeepsStill (execBankFaultClear agent b s) s := by
  simp [execBankFaultClear]

@[simp] theorem execDutyLimitEntry_still (n h : Nat) (s : State) : KeepsStill (execDutyLimitEntry n h s) s := by simp [execDutyLimitEntry]
@[simp] theorem State.dutyEnd_still (s : State) (n : Nat) : (s.dutyEnd n).still = s.still := by simp [State.dutyEnd]
@[simp] theorem execDutyLimitExit_still (n h : Nat) (s : State) : KeepsStill (execDutyLimitExit n h s) s := by simp [execDutyLimitExit]
@[simp] theorem State.valveFault_still (s : State) (n flag : Nat) : (s.valveFault n flag).still = s.still := by simp [State.valveFault]
@[simp] theorem execValveChannelFault_still (n kind : Nat) (s : State) : KeepsStill (execValveChannelFault n kind s) s := by simp [execValveChannelFault]
@[simp] theorem State.valveClear_still (s : State) (n : Nat) : (s.valveClear n).still = s.still := by simp [State.valveClear]
@[simp] theorem State.fltmapWrite_still (s : State) (hi : Nat) (v : W32) : (s.fltmapWrite hi v).still = s.still := by simp [State.fltmapWrite]

@[simp] theorem execValveFaultClear_still (agent : Agent) (hi : Bool) (value : W32) (s : State) : KeepsStill (execValveFaultClear agent hi value s) s := by
  simp [execValveFaultClear]

@[simp] theorem State.valveAccept_still (s : State) (d : Desc) (e : ValveEvent) : (s.valveAccept d e).1.still = s.still := by
  unfold State.valveAccept
  dsimp only
  (repeat' split) <;> simp

@[simp] theorem State.valveUntimed_still (s : State) (e : ValveEvent) : (s.valveUntimed e).1.still = s.still := by
  unfold State.valveUntimed
  (repeat' split) <;> simp

@[simp] theorem State.valveServe_still (s : State) (q op : Nat) (pulse : Bool) : (s.valveServe q op pulse).still = s.still := by
  unfold State.valveServe
  refine (State.serveAt_still _ _ _ _ fun d t => ?_)
  (repeat' split) <;> simp

@[simp] theorem execVlvPulse_still (q : Nat) (s : State) : KeepsStill (execVlvPulse q s) s := by simp [execVlvPulse]
@[simp] theorem execVlvSet_still (q : Nat) (s : State) : KeepsStill (execVlvSet q s) s := by simp [execVlvSet]

@[simp] theorem State.valveCancel_still (s : State) (n tag : Nat) : (s.valveCancel n tag).1.still = s.still := by
  unfold State.valveCancel
  dsimp only
  split <;> simp

@[simp] theorem execVlvCancel_still (q : Nat) (s : State) : KeepsStill (execVlvCancel q s) s := by simp [execVlvCancel]
@[simp] theorem State.blockedEvent_still (s : State) (n : Nat) (e : ValveEvent) : (s.blockedEvent n e).still = s.still := by simp [State.blockedEvent]

@[simp] theorem State.fireEvent_still (s : State) (e : ValveEvent) : (s.fireEvent e).still = s.still := by
  unfold State.fireEvent
  extract_lets n _ s1 blocked s2 t1 _ x t2 t3 t4 t5
  have h2 : s2.still = s.still := by simp [s2, s1]
  clear_value s2
  have h5 : t5.still = s.still := by simp [t5, t4, t3, h2]
  clear_value t5
  split
  · simp [t1, h2]
  · split
    · simp [t2, h2]
    · split
      · simp [h5]
      · simp [h5]

@[simp] theorem State.pulseOff_still (s : State) (n : Nat) : (s.pulseOff n).still = s.still := by
  unfold State.pulseOff
  dsimp only
  split <;> simp

@[simp] theorem execTimedValveEvent_still (b : Nat) (s : State) : KeepsStill (execTimedValveEvent b s) s := by
  refine (keepsStill_next _ _).mpr ?_
  split
  · rfl
  · extract_lets t
    have ht : t.still = s.still := by
      refine foldl_still _ (fun x c => ?_) _ _
      (repeat' split) <;> simp
    clear_value t
    split <;> simp [ht]

@[simp] theorem State.valveDisable_still (s : State) (n : Nat) : (s.valveDisable n).still = s.still := by simp [State.valveDisable]
@[simp] theorem State.valveEnable_still (s : State) (n : Nat) : (s.valveEnable n).still = s.still := by simp [State.valveEnable]
@[simp] theorem State.valveCtlWrite_still (s : State) (n : Nat) (v : W32) : (s.valveCtlWrite n v).still = s.still := by simp [State.valveCtlWrite]
@[simp] theorem State.valveSetWrite_still (s : State) (n r : Nat) (v : W32) : (s.valveSetWrite n r v).still = s.still := by simp [State.valveSetWrite]
@[simp] theorem State.vlvWrite_still (s : State) (off : Nat) (v : W32) : (s.vlvWrite off v).still = s.still := by simp [State.vlvWrite]
@[simp] theorem State.vlvParity_still (s : State) (off : Nat) : (s.vlvParity off).still = s.still := by simp [State.vlvParity]

/-! ### Load switches -/

@[simp] theorem State.setSw_still (s : State) (n : Nat) (x : Switch) : (s.setSw n x).still = s.still := by simp [State.setSw]
@[simp] theorem State.setGrp_still (s : State) (g : Nat) (x : PinGroup) : (s.setGrp g x).still = s.still := by simp [State.setGrp]
@[simp] theorem State.lSet_still (s : State) (n b : Nat) (v : Bool) : (s.lSet n b v).still = s.still := by simp [State.lSet]

@[simp] theorem State.lswEntry_still (s : State) (tag subject : Nat) (detail : Option Nat) : (s.lswEntry tag subject detail).still = s.still := by
  simp [State.lswEntry]

@[simp] theorem State.lswEvent_still (s : State) (tag subject sev : Nat) (detail : Option Nat) :
    (s.lswEvent tag subject sev detail).still = s.still := by
  simp [State.lswEvent]

@[simp] theorem State.lswReject_still (s : State) (n cause : Nat) : (s.lswReject n cause).still = s.still := by simp [State.lswReject]
@[simp] theorem State.budReg_still (s : State) (g : Nat) : (s.budReg g).still = s.still := by simp [State.budReg]
@[simp] theorem State.lClamp_still (s : State) (n : Nat) : (s.lClamp n).still = s.still := by simp [State.lClamp]
@[simp] theorem State.olMap_still (s : State) (n : Nat) : (s.olMap n).still = s.still := by simp [State.olMap]
@[simp] theorem State.lswStart_still (s : State) (n : Nat) : (s.lswStart n).still = s.still := by simp [State.lswStart]
@[simp] theorem State.lswStop_still (s : State) (n : Nat) : (s.lswStop n).still = s.still := by simp [State.lswStop]
@[simp] theorem State.admitHeld_still (s : State) (g : Nat) : (s.admitHeld g).still = s.still := by simp [State.admitHeld]
@[simp] theorem State.lswOff_still (s : State) (n : Nat) : (s.lswOff n).still = s.still := by simp [State.lswOff]
@[simp] theorem State.lswFollow_still (s : State) (n : Nat) : (s.lswFollow n).still = s.still := by simp [State.lswFollow]

@[simp] theorem State.lswCommand_still (s : State) (n : Nat) (on : Bool) (duty : Frac) : (s.lswCommand n on duty).still = s.still := by
  simp [State.lswCommand]

@[simp] theorem State.lswRefused_still (s : State) : s.lswRefused.still = s.still := by simp [State.lswRefused]
@[simp] theorem State.lswPermit_still (s : State) (n : Nat) (v : Bool) : (s.lswPermit n v).still = s.still := by simp [State.lswPermit]

@[simp] theorem State.lswRelease_still (s : State) (n : Nat) (v : Bool) (duty : Option Frac) : (s.lswRelease n v duty).1.still = s.still := by
  simp [State.lswRelease]

@[simp] theorem State.lswValue_still (s : State) (n : Nat) (u : Frac) : (s.lswValue n u).1.still = s.still := by simp [State.lswValue]

@[simp] theorem State.lswCmdWrite_still (s : State) (a : Agent) (n : Nat) (v : W32) : (s.lswCmdWrite a n v).still = s.still := by
  simp [State.lswCmdWrite]

@[simp] theorem execLswUntimedCommand_still (agent : Agent) (n : Nat) (value : W32) (s : State) :
    KeepsStill (execLswUntimedCommand agent n value s) s := by
  simp [execLswUntimedCommand]

@[simp] theorem State.shed_still (s : State) (n mean : Nat) : (s.shed n mean).still = s.still := by simp [State.shed]

@[simp] theorem State.evalGroup_still (s : State) (g mean : Nat) : (s.evalGroup g mean).still = s.still := by
  unfold State.evalGroup
  dsimp only
  (repeat' split) <;> simp

@[simp] theorem execShedEvaluation_still (means : List Nat) (s : State) : KeepsStill (execShedEvaluation means s) s := by simp [execShedEvaluation]
@[simp] theorem State.shedmapWrite_still (s : State) (hi : Nat) (v : W32) : (s.shedmapWrite hi v).still = s.still := by simp [State.shedmapWrite]

@[simp] theorem execShedClear_still (agent : Agent) (hi : Bool) (value : W32) (s : State) : KeepsStill (execShedClear agent hi value s) s := by
  simp [execShedClear]

@[simp] theorem State.lswFault_still (s : State) (n flag : Nat) (detail : Option Nat) : (s.lswFault n flag detail).still = s.still := by
  simp [State.lswFault]

@[simp] theorem State.wireTrip_still (s : State) (n : Nat) : (s.wireTrip n).still = s.still := by simp [State.wireTrip]
@[simp] theorem State.lswEnergy_still (s : State) (n nj : Nat) : (s.lswEnergy n nj).still = s.still := by simp [State.lswEnergy]
@[simp] theorem State.heatStep_still (s : State) (n ma mv : Nat) : (s.heatStep n ma mv).still = s.still := by simp [State.heatStep]

@[simp] theorem execWireHeatUpdate_still (meas : List (Nat × Nat × Nat)) (busv : Nat) (s : State) : KeepsStill (execWireHeatUpdate meas busv s) s := by
  unfold execWireHeatUpdate
  extract_lets _ t u
  have ht : t.still = s.still := by simp [t]
  have hu : u.still = t.still := by
    refine foldl_still _ (fun x n => ?_) _ _
    split <;> simp
  clear_value u
  simp [hu, ht]

@[simp] theorem execLswChannelFault_still (n kind : Nat) (s : State) : KeepsStill (execLswChannelFault n kind s) s := by
  unfold execLswChannelFault
  (repeat' split) <;> simp

@[simp] theorem State.lswFltmapWrite_still (s : State) (hi : Nat) (v : W32) : (s.lswFltmapWrite hi v).still = s.still := by
  simp [State.lswFltmapWrite]

@[simp] theorem execLswFaultClear_still (agent : Agent) (hi : Bool) (value : W32) (s : State) : KeepsStill (execLswFaultClear agent hi value s) s := by
  simp [execLswFaultClear]

@[simp] theorem State.openLoad_still (s : State) (n flag : Nat) : (s.openLoad n flag).still = s.still := by simp [State.openLoad]
@[simp] theorem execOpenLoadOff_still (n : Nat) (high : Bool) (s : State) : KeepsStill (execOpenLoadOff n high s) s := by simp [execOpenLoadOff]
@[simp] theorem execOpenLoadOn_still (n : Nat) (low : Bool) (s : State) : KeepsStill (execOpenLoadOn n low s) s := by simp [execOpenLoadOn]

@[simp] theorem State.lswServe_still (s : State) (q op : Nat) (pulse : Bool) : (s.lswServe q op pulse).still = s.still := by
  unfold State.lswServe
  refine (State.serve_still _ _ _ _ fun d t => ?_)
  (repeat' split) <;> simp

@[simp] theorem execLswPulse_still (q : Nat) (s : State) : KeepsStill (execLswPulse q s) s := by simp [execLswPulse]
@[simp] theorem execLswSet_still (q : Nat) (s : State) : KeepsStill (execLswSet q s) s := by simp [execLswSet]
@[simp] theorem State.lswPulseOff_still (s : State) (n : Nat) : (s.lswPulseOff n).still = s.still := by simp [State.lswPulseOff]
@[simp] theorem State.unschedule_still (s : State) (q n tag : Nat) : (s.unschedule q n tag).1.still = s.still := by simp [State.unschedule]

@[simp] theorem execLswCancel_still (q : Nat) (s : State) : KeepsStill (execLswCancel q s) s := by
  unfold execLswCancel
  simp only [keepsStill_next]
  split
  refine State.serve_still _ _ _ _ fun d t => ?_
  (repeat' split) <;> simp
  rfl

@[simp] theorem execPulseEnd_still (valve : Bool) (n : Nat) (s : State) : KeepsStill (execPulseEnd valve n s) s := by
  unfold execPulseEnd
  (repeat' split) <;> simp

@[simp] theorem State.lswDisable_still (s : State) (n : Nat) : (s.lswDisable n).still = s.still := by simp [State.lswDisable]
@[simp] theorem State.lswEnable_still (s : State) (n : Nat) : (s.lswEnable n).still = s.still := by simp [State.lswEnable]
@[simp] theorem State.lswCtlWrite_still (s : State) (n : Nat) (v : W32) : (s.lswCtlWrite n v).still = s.still := by simp [State.lswCtlWrite]
@[simp] theorem State.lswLimWrite_still (s : State) (n : Nat) (v : W32) : (s.lswLimWrite n v).still = s.still := by simp [State.lswLimWrite]
@[simp] theorem State.lswGrpWrite_still (s : State) (g : Nat) (v : W32) : (s.lswGrpWrite g v).still = s.still := by simp [State.lswGrpWrite]
@[simp] theorem State.genWrite_still (s : State) (k : Nat) (v : W32) : (s.genWrite k v).still = s.still := by simp [State.genWrite]
@[simp] theorem State.lswWrite_still (s : State) (off : Nat) (v : W32) : (s.lswWrite off v).still = s.still := by simp [State.lswWrite]
@[simp] theorem State.lswParity_still (s : State) (off : Nat) : (s.lswParity off).still = s.still := by simp [State.lswParity]

/-! ### Output stages -/

@[simp] theorem State.applyEntry_still (s : State) (k : Nat) : (s.applyEntry k).still = s.still := by simp [State.applyEntry]
@[simp] theorem State.safeShown_still (s : State) (i : Nat) : (s.safeShown i).still = s.still := by simp [State.safeShown]
@[simp] theorem State.safeChannels_still (s : State) (i : Nat) : (s.safeChannels i).still = s.still := by simp [State.safeChannels]
@[simp] theorem State.enterSafe_still (s : State) (i : Nat) (expiry : Bool) : (s.enterSafe i expiry).still = s.still := by simp [State.enterSafe]
@[simp] theorem State.requestSafe_still (s : State) : s.requestSafe.still = s.still := by simp [State.requestSafe]
@[simp] theorem execFailsafeRequest_still (s : State) : KeepsStill (execFailsafeRequest s) s := by simp [execFailsafeRequest]
@[simp] theorem State.resumeIc_still (s : State) (i : Nat) : (s.resumeIc i).still = s.still := by simp [State.resumeIc]

@[simp] theorem execOutputStageResume_still (agent : Agent) (ic : Nat) (s : State) : KeepsStill (execOutputStageResume agent ic s) s := by
  simp [execOutputStageResume]

@[simp] theorem State.readback_still (s : State) (i : Nat) (r : Readback) : (s.readback i r).still = s.still := by simp [State.readback]

@[simp] theorem execWatchdogRefresh_still (ic : Nat) (r : Readback) (s : State) : KeepsStill (execWatchdogRefresh ic r s) s := by
  simp [execWatchdogRefresh]

@[simp] theorem execWatchdogExpiry_still (ic : Nat) (s : State) : KeepsStill (execWatchdogExpiry ic s) s := by simp [execWatchdogExpiry]
@[simp] theorem State.commitWear_still (s : State) : s.commitWear.still = s.still := by simp [State.commitWear]
@[simp] theorem execWearCommit_still (s : State) : KeepsStill (execWearCommit s) s := by simp [execWearCommit]
@[simp] theorem State.fsunlock_still (s : State) (a : Agent) (v : W32) : (s.fsunlock a v).still = s.still := by simp [State.fsunlock]

@[simp] theorem execFsunlockWrite_still (agent : Agent) (value : W32) (s : State) : KeepsStill (execFsunlockWrite agent value s) s := by
  simp [execFsunlockWrite]

@[simp] theorem State.fslock_still (s : State) : s.fslock.still = s.still := by simp [State.fslock]

@[simp] theorem execFsunlockTimeout_still (s : State) : KeepsStill (execFsunlockTimeout s) s := by
  unfold execFsunlockTimeout
  split <;> simp

@[simp] theorem State.commitTable_still (s : State) (b : Bytes) (who : List Nat) : (s.commitTable b who).still = s.still := by
  simp [State.commitTable]

@[simp] theorem State.storedRegs_still (s : State) : s.storedRegs.still = s.still := by simp [State.storedRegs]
@[simp] theorem State.tablePoison_still (s : State) (a : Nat) : (s.tablePoison a).still = s.still := by simp [State.tablePoison]

@[simp] theorem State.fswriteRun_still (s : State) (d : Desc) (failed : List Nat) : (s.fswriteRun d failed).1.still = s.still := by
  simp [State.fswriteRun]

@[simp] theorem State.fswrite_still (s : State) (failed : List Nat) : (s.fswrite failed).still = s.still := by
  unfold State.fswrite
  split <;> simp

@[simp] theorem execFswrite_still (failed : List Nat) (s : State) : KeepsStill (execFswrite failed s) s := by simp [execFswrite]
@[simp] theorem execFsread_still (q : Nat) (s : State) : KeepsStill (execFsread q s) s := by simp [execFsread]

@[simp] theorem State.vlvBlockWrite_still (s : State) (a : Agent) (off : Nat) (v : W32) : (s.vlvBlockWrite a off v).still = s.still := by
  simp [State.vlvBlockWrite]

@[simp] theorem State.lswBlockWrite_still (s : State) (a : Agent) (off : Nat) (v : W32) : (s.lswBlockWrite a off v).still = s.still := by
  simp [State.lswBlockWrite]

/-! ### DRAM -/

@[simp] theorem State.setErrs_still (s : State) (a : Nat) (es : List (Nat × Nat)) : (s.setErrs a es).still = s.still := by simp [State.setErrs]

@[simp] theorem State.memLog_still (s : State) (type req nsym erase devmask a : Nat) : (s.memLog type req nsym erase devmask a).still = s.still := by
  simp [State.memLog]

@[simp] theorem State.memPop_still (s : State) : s.memPop.still = s.still := by simp [State.memPop]
@[simp] theorem State.markDevice_still (s : State) (n d : Nat) : (s.markDevice n d).still = s.still := by simp [State.markDevice]

@[simp] theorem State.countDevice_still (s : State) (req nsym devmask a n d : Nat) : (s.countDevice req nsym devmask a n d).still = s.still := by
  unfold State.countDevice
  dsimp only
  (repeat' split) <;> simp

@[simp] theorem State.rankCount_still (s : State) (n : Nat) : (s.rankCount n).still = s.still := by simp [State.rankCount]

@[simp] theorem State.corrected_still (s : State) (req nsym devmask a : Nat) (devs : List Nat) :
    (s.corrected req nsym devmask a devs).still = s.still := by
  simp [State.corrected]

@[simp] theorem State.decodeLine_still (s : State) (req type a : Nat) : (s.decodeLine req type a).1.still = s.still := by simp [State.decodeLine]

@[simp] theorem execDramRead_still (req addr : Nat) (wrong : List (Nat × Nat)) (taken : Bool) (s : State) :
    KeepsStill (execDramRead req addr wrong taken s) s := by
  simp [execDramRead]

@[simp] theorem execDramLineWrite_still (addr : Nat) (data : Bytes) (poison : Bool) (s : State) : KeepsStill (execDramLineWrite addr data poison s) s := by
  simp [execDramLineWrite]

@[simp] theorem execDramPartialWrite_still (req addr mask : Nat) (data : Bytes) (poison : Bool) (wrong : List (Nat × Nat)) (s : State) :
    KeepsStill (execDramPartialWrite req addr mask data poison wrong s) s := by
  simp [execDramPartialWrite]

@[simp] theorem execPoisonTrap_still (core kind va addr : Nat) (src : Nat × Bool) (s : State) : KeepsStill (execPoisonTrap core kind va addr src s) s := by
  simp [execPoisonTrap]

@[simp] theorem State.memReject_still (s : State) (cause sub : Nat) : (s.memReject cause sub).still = s.still := by simp [State.memReject]
@[simp] theorem State.scrubLine_still (s : State) (a : Nat) : (s.scrubLine a).1.still = s.still := by simp [State.scrubLine]
@[simp] theorem execScrubVisit_still (wrong : List (Nat × Nat)) (s : State) : KeepsStill (execScrubVisit wrong s) s := by simp [execScrubVisit]

@[simp] theorem State.lineResult_still (s : State) (result nsym pois : Nat) : (s.lineResult result nsym pois).still = s.still := by
  simp [State.lineResult]

@[simp] theorem State.copyLine_still (s : State) (a b : Nat) : (s.copyLine a b).1.still = s.still := by simp [State.copyLine]

@[simp] theorem State.lineRun_still (s : State) (cmd : Nat) : (s.lineRun cmd).still = s.still := by
  unfold State.lineRun
  split <;> simp

@[simp] theorem State.lineGo_still (s : State) : s.lineGo.still = s.still := by
  unfold State.lineGo
  split <;> simp

@[simp] theorem State.scrubGo_still (s : State) : s.scrubGo.still = s.still := by
  unfold State.scrubGo
  split <;> simp

@[simp] theorem State.memWaiting_still (s : State) : s.memWaiting.still = s.still := by simp [State.memWaiting]
@[simp] theorem State.lineCmdWrite_still (s : State) (cmd : Nat) : (s.lineCmdWrite cmd).still = s.still := by simp [State.lineCmdWrite]
@[simp] theorem State.lineWrite_still (s : State) (agent : Agent) (cmd : Nat) : (s.lineWrite agent cmd).still = s.still := by simp [State.lineWrite]
@[simp] theorem execLineZero_still (agent : Agent) (s : State) : KeepsStill (execLineZero agent s) s := by simp [execLineZero]
@[simp] theorem execLineScrub_still (agent : Agent) (s : State) : KeepsStill (execLineScrub agent s) s := by simp [execLineScrub]
@[simp] theorem execLineInject_still (agent : Agent) (s : State) : KeepsStill (execLineInject agent s) s := by simp [execLineInject]
@[simp] theorem execLineCopy_still (agent : Agent) (s : State) : KeepsStill (execLineCopy agent s) s := by simp [execLineCopy]

@[simp] theorem State.markWrite_still (s : State) (n : Nat) (v : W32) : (s.markWrite n v).still = s.still := by
  unfold State.markWrite
  (repeat' split) <;> simp

@[simp] theorem execDeviceMarkSet_still (agent : Agent) (n dev : Nat) (s : State) : KeepsStill (execDeviceMarkSet agent n dev s) s := by
  simp [execDeviceMarkSet]

@[simp] theorem execDeviceMarkClear_still (agent : Agent) (n : Nat) (s : State) : KeepsStill (execDeviceMarkClear agent n s) s := by
  simp [execDeviceMarkClear]

@[simp] theorem State.startFail_still (s : State) (cause sub : Nat) : (s.startFail cause sub).still = s.still := by simp [State.startFail]

@[simp] theorem State.dramStart_still (s : State) (f : StartFound) : (s.dramStart f).still = s.still := by
  unfold State.dramStart
  extract_lets _ s1 s2 s3 s4 t any
  have h2 : s2.still = s.still := by simp [s2, s1]
  have h3 : s3.still = s.still := by simp [s3, h2]
  have h4 : s4.still = s.still := by simp [s4, h3]
  have ht : t.still = s.still := by
    refine (foldl_still _ (fun x n => ?_) _ _).trans h4
    split <;> simp
  clear_value s2 s3 s4 t
  (repeat' split) <;> simp [h2, h3, h4, ht]

@[simp] theorem State.memWrite_still (s : State) (off : Nat) (v : W32) : (s.memWrite off v).still = s.still := by simp [State.memWrite]
@[simp] theorem State.memParity_still (s : State) : s.memParity.still = s.still := by simp [State.memParity]

/-! ### Rings -/

@[simp] theorem State.ringStart_still (s : State) (q : Nat) (v : W32) : (s.ringStart q v).still = s.still := by simp [State.ringStart]
@[simp] theorem State.ringCfgWrite_still (s : State) (q : Nat) (v : W32) : (s.ringCfgWrite q v).still = s.still := by simp [State.ringCfgWrite]
@[simp] theorem State.ringBaseWrite_still (s : State) (q : Nat) (v : W32) : (s.ringBaseWrite q v).still = s.still := by simp [State.ringBaseWrite]

@[simp] theorem execRingEnable_still (agent : Agent) (q : Nat) (value : W32) (s : State) : KeepsStill (execRingEnable agent q value s) s := by
  simp [execRingEnable]

@[simp] theorem execRingDisable_still (agent : Agent) (q : Nat) (s : State) : KeepsStill (execRingDisable agent q s) s := by simp [execRingDisable]
@[simp] theorem State.doorbell_still (s : State) (q idx : Nat) : (s.doorbell q idx).still = s.still := by simp [State.doorbell]

@[simp] theorem execSubmissionDoorbell_still (agent : Agent) (q : Nat) (value : W32) (s : State) :
    KeepsStill (execSubmissionDoorbell agent q value s) s := by
  simp [execSubmissionDoorbell]

@[simp] theorem execCompletionDoorbell_still (agent : Agent) (q : Nat) (value : W32) (s : State) :
    KeepsStill (execCompletionDoorbell agent q value s) s := by
  simp [execCompletionDoorbell]

@[simp] theorem State.takeLine_still (s : State) (q : Nat) : (s.takeLine q).still = s.still := by simp [State.takeLine]
@[simp] theorem execDescriptorTake_still (q : Nat) (s : State) : KeepsStill (execDescriptorTake q s) s := by simp [execDescriptorTake]

@[simp] theorem execPhaseRecheck_still (q : Nat) (s : State) : KeepsStill (execPhaseRecheck q s) s := by
  unfold execPhaseRecheck
  split <;> simp

@[simp] theorem execAtDeadlineStart_still (q : Nat) (s : State) : KeepsStill (execAtDeadlineStart q s) s := by simp [execAtDeadlineStart]

/-! ### CAN -/

@[simp] theorem State.setCtl_still (s : State) (c : Nat) (x : Can) : (s.setCtl c x).still = s.still := by simp [State.setCtl]
@[simp] theorem State.setClaim_still (s : State) (c st : Nat) : (s.setClaim c st).still = s.still := by simp [State.setClaim]

@[simp] theorem State.canEvent_still (s : State) (tag c addr slot name : Nat) (rec : Option Nat) :
    (s.canEvent tag c addr slot name rec).still = s.still := by
  unfold State.canEvent
  split <;> simp

@[simp] theorem State.ctlEvent_still (s : State) (tag c : Nat) (rec : Option Nat) : (s.ctlEvent tag c rec).still = s.still := by simp [State.ctlEvent]
@[simp] theorem State.canReject_still (s : State) (c cause : Nat) : (s.canReject c cause).still = s.still := by simp [State.canReject]
@[simp] theorem State.canPoison_still (s : State) : s.canPoison.still = s.still := by simp [State.canPoison]
@[simp] theorem State.errState_still (s : State) (c : Nat) : (s.errState c).still = s.still := by simp [State.errState]
@[simp] theorem State.setTec_still (s : State) (c n : Nat) : (s.setTec c n).still = s.still := by simp [State.setTec]
@[simp] theorem State.busError_still (s : State) (c err : Nat) : (s.busError c err).still = s.still := by simp [State.busError]
@[simp] theorem State.aloneEnd_still (s : State) (c : Nat) : (s.aloneEnd c).still = s.still := by simp [State.aloneEnd]
@[simp] theorem State.pendFrame_still (s : State) (c : Nat) (f : TxFrame) : (s.pendFrame c f).still = s.still := by simp [State.pendFrame]
@[simp] theorem State.pendClaim_still (s : State) (c sa : Nat) : (s.pendClaim c sa).still = s.still := by simp [State.pendClaim]
@[simp] theorem State.pendMgmt_still (s : State) (c b hold : Nat) : (s.pendMgmt c b hold).still = s.still := by simp [State.pendMgmt]
@[simp] theorem State.swap_still (s : State) (c : Nat) (f : TxFrame) (l : List TxFrame) : (s.swap c f l).still = s.still := by simp [State.swap]

@[simp] theorem execCanFrameStart_still (c : Nat) (s : State) : KeepsStill (execCanFrameStart c s) s := by
  unfold execCanFrameStart
  (repeat' split) <;> simp

@[simp] theorem State.frameDone_still (s : State) (c : Nat) (f : TxFrame) (st : Nat) : (s.frameDone c f st).still = s.still := by
  unfold State.frameDone
  split <;> simp

@[simp] theorem State.settleCancels_still (s : State) (c : Nat) (sent : Bool) : (s.settleCancels c sent).still = s.still := by
  simp [State.settleCancels]

@[simp] theorem execCanFrameAcknowledged_still (c : Nat) (s : State) : KeepsStill (execCanFrameAcknowledged c s) s := by
  unfold execCanFrameAcknowledged
  split <;> simp

@[simp] theorem State.ackError_still (s : State) (c : Nat) : (s.ackError c).still = s.still := by simp [State.ackError]

@[simp] theorem execCanFrameLost_still (c err : Nat) (s : State) : KeepsStill (execCanFrameLost c err s) s := by
  unfold execCanFrameLost
  split <;> simp

@[simp] theorem execCanReceiveError_still (c err inc : Nat) (s : State) : KeepsStill (execCanReceiveError c err inc s) s := by simp [execCanReceiveError]
@[simp] theorem execBusOffRecovery_still (c : Nat) (s : State) : KeepsStill (execBusOffRecovery c s) s := by simp [execBusOffRecovery]
@[simp] theorem State.aloneWrite_still (s : State) (v : W32) : (s.aloneWrite v).still = s.still := by simp [State.aloneWrite]
@[simp] theorem execAloneClear_still (agent : Agent) (value : W32) (s : State) : KeepsStill (execAloneClear agent value s) s := by simp [execAloneClear]

@[simp] theorem State.sendFrame_still (s : State) (c : Nat) (d : Desc) : (s.sendFrame c d).still = s.still := by
  unfold State.sendFrame
  (repeat' split) <;> simp

@[simp] theorem execSendCmd_still (q : Nat) (s : State) : KeepsStill (execSendCmd q s) s := by
  unfold execSendCmd
  dsimp only
  (repeat' split) <;> simp

@[simp] theorem execCanCancel_still (q : Nat) (s : State) : KeepsStill (execCanCancel q s) s := by
  unfold execCanCancel
  dsimp only
  (repeat' split) <;> simp

@[simp] theorem State.pendBuffer_still (s : State) (c b : Nat) (f : TxFrame) : (s.pendBuffer c b f).still = s.still := by
  unfold State.pendBuffer
  split <;> simp

@[simp] theorem State.canRelease_still (s : State) (c b : Nat) (fields : List Overlay) : (s.canRelease c b fields).1.still = s.still := by
  simp [State.canRelease]

@[simp] theorem State.ptnLive_still (s : State) : s.ptnLive.still = s.still := by simp [State.ptnLive]
@[simp] theorem State.ptnSeen_still (s : State) (k : Nat) : (s.ptnSeen k).still = s.still := by simp [State.ptnSeen]
@[simp] theorem State.ptnEvent_still (s : State) (tag k : Nat) : (s.ptnEvent tag k).still = s.still := by simp [State.ptnEvent]
@[simp] theorem State.ptnArea_still (s : State) (k : Nat) : (s.ptnArea k).still = s.still := by simp [State.ptnArea]
@[simp] theorem State.ptnSet_still (s : State) (k c st addr : Nat) : (s.ptnSet k c st addr).still = s.still := by simp [State.ptnSet]

@[simp] theorem State.ptnClaim_still (s : State) (c addr k tag : Nat) : (s.ptnClaim c addr k tag).still = s.still := by
  unfold State.ptnClaim
  split <;> simp

@[simp] theorem State.partnerUpdate_still (s : State) (c addr name : Nat) : (s.partnerUpdate c addr name).still = s.still := by
  unfold State.partnerUpdate
  dsimp only
  (repeat' split) <;> simp

@[simp] theorem State.partnerHeard_still (s : State) (c addr : Nat) : (s.partnerHeard c addr).still = s.still := by
  unfold State.partnerHeard
  dsimp only
  (repeat' split) <;> simp

@[simp] theorem execPartnerTimeout_still (k : Nat) (s : State) : KeepsStill (execPartnerTimeout k s) s := by simp [execPartnerTimeout]
@[simp] theorem State.ptncfgWrite_still (s : State) (v : W32) : (s.ptncfgWrite v).still = s.still := by simp [State.ptncfgWrite]
@[simp] theorem execAddressClaim_still (c : Nat) (s : State) : KeepsStill (execAddressClaim c s) s := by simp [execAddressClaim]

@[simp] theorem execClaimHoldoffExpiry_still (c : Nat) (s : State) : KeepsStill (execClaimHoldoffExpiry c s) s := by
  unfold execClaimHoldoffExpiry
  split <;> simp

@[simp] theorem execClaimContest_still (c r : Nat) (s : State) : KeepsStill (execClaimContest c r s) s := by
  unfold execClaimContest
  split <;> simp

@[simp] theorem execClaimBackoffExpiry_still (c : Nat) (s : State) : KeepsStill (execClaimBackoffExpiry c s) s := by
  unfold execClaimBackoffExpiry
  dsimp only
  (repeat' split) <;> simp

@[simp] theorem execClaimRequest_still (c : Nat) (s : State) : KeepsStill (execClaimRequest c s) s := by simp [execClaimRequest]
@[simp] theorem State.rxBuffer_still (s : State) (c b : Nat) (f : CanFrame) : (s.rxBuffer c b f).still = s.still := by simp [State.rxBuffer]

@[simp] theorem State.rxRing_still (s : State) (c r tag : Nat) (ip : Bool) (f : CanFrame) : (s.rxRing c r tag ip f).1.still = s.still := by
  simp [State.rxRing]

@[simp] theorem State.deliver_still (s : State) (c : Nat) (f : CanFrame) : (s.deliver c f).still = s.still := by
  unfold State.deliver
  split <;> simp

@[simp] theorem State.protocol_still (s : State) (c : Nat) (f : CanFrame) : (s.protocol c f).still = s.still := by simp [State.protocol]
@[simp] theorem State.recDown_still (s : State) (c : Nat) : (s.recDown c).still = s.still := by simp [State.recDown]

@[simp] theorem execCanFrameReceived_still (c : Nat) (f : CanFrame) (s : State) : KeepsStill (execCanFrameReceived c f s) s := by
  simp [execCanFrameReceived]

@[simp] theorem State.accCopy_still (s : State) (c : Nat) : (s.accCopy c).still = s.still := by simp [State.accCopy]
@[simp] theorem State.acctabWrite_still (s : State) (c : Nat) (v : W32) : (s.acctabWrite c v).still = s.still := by simp [State.acctabWrite]

@[simp] theorem execAcceptanceTableCopy_still (agent : Agent) (c : Nat) (value : W32) (s : State) :
    KeepsStill (execAcceptanceTableCopy agent c value s) s := by
  simp [execAcceptanceTableCopy]

@[simp] theorem State.claimIdle_still (s : State) (c : Nat) : (s.claimIdle c).still = s.still := by simp [State.claimIdle]
@[simp] theorem State.canStart_still (s : State) (c : Nat) : (s.canStart c).still = s.still := by simp [State.canStart]
@[simp] theorem State.canStop_still (s : State) (c : Nat) : (s.canStop c).still = s.still := by simp [State.canStop]

@[simp] theorem State.canModeNow_still (s : State) (c oldMode : Nat) (oldClaim : Bool) : (s.canModeNow c oldMode oldClaim).still = s.still := by
  simp [State.canModeNow]

@[simp] theorem State.canCtlWrite_still (s : State) (c : Nat) (v : W32) : (s.canCtlWrite c v).still = s.still := by simp [State.canCtlWrite]

@[simp] theorem execCanEnable_still (agent : Agent) (c : Nat) (value : W32) (s : State) : KeepsStill (execCanEnable agent c value s) s := by
  simp [execCanEnable]

@[simp] theorem execCanDisable_still (agent : Agent) (c : Nat) (s : State) : KeepsStill (execCanDisable agent c s) s := by simp [execCanDisable]

@[simp] theorem execCanModeWrite_still (agent : Agent) (c mode : Nat) (s : State) : KeepsStill (execCanModeWrite agent c mode s) s := by
  simp [execCanModeWrite]

@[simp] theorem execBusRateDetect_still (c nrate drate : Nat) (s : State) : KeepsStill (execBusRateDetect c nrate drate s) s := by simp [execBusRateDetect]
@[simp] theorem execDetectTimeout_still (c : Nat) (s : State) : KeepsStill (execDetectTimeout c s) s := by simp [execDetectTimeout]
@[simp] theorem State.canSetWrite_still (s : State) (c r : Nat) (v : W32) : (s.canSetWrite c r v).still = s.still := by simp [State.canSetWrite]
@[simp] theorem State.canWrite_still (s : State) (off : Nat) (v : W32) : (s.canWrite off v).still = s.still := by simp [State.canWrite]

@[simp] theorem execPartnerClear_still (agent : Agent) (value : W32) (s : State) : KeepsStill (execPartnerClear agent value s) s := by
  simp [execPartnerClear]

@[simp] theorem State.canParity_still (s : State) (off : Nat) : (s.canParity off).still = s.still := by simp [State.canParity]

/-! ### Ethernet -/

@[simp] theorem State.ethEvent_still (s : State) (tag unit detail : Nat) : (s.ethEvent tag unit detail).still = s.still := by simp [State.ethEvent]
@[simp] theorem State.ethReject_still (s : State) (unit cause : Nat) : (s.ethReject unit cause).still = s.still := by simp [State.ethReject]
@[simp] theorem State.ethPoison_still (s : State) : s.ethPoison.still = s.still := by simp [State.ethPoison]
@[simp] theorem State.ethDrop_still (s : State) (p : Nat) : (s.ethDrop p).still = s.still := by simp [State.ethDrop]
@[simp] theorem State.ethBufRegs_still (s : State) : s.ethBufRegs.still = s.still := by simp [State.ethBufRegs]

@[simp] theorem State.frameSent_still (s : State) (e : EgFrame) (t : Nat) : (s.frameSent e t).still = s.still := by
  unfold State.frameSent
  split <;> simp

@[simp] theorem State.egress_still (s : State) (src : Nat) (e : EgFrame) : (s.egress src e).still = s.still := by
  unfold State.egress
  (repeat' split) <;> simp

@[simp] theorem State.drainPort_still (s : State) (p : Nat) : (s.drainPort p).still = s.still := by simp [State.drainPort]
@[simp] theorem State.gclInstall_still (s : State) (w : GclWait) : (s.gclInstall w).still = s.still := by simp [State.gclInstall]
@[simp] theorem State.gclDue_still (s : State) (p : Nat) : (s.gclDue p).still = s.still := by simp [State.gclDue]
@[simp] theorem execGateOpen_still (port : Nat) (s : State) : KeepsStill (execGateOpen port s) s := by simp [execGateOpen]
@[simp] theorem State.fdbDrop_still (s : State) (mac vid : Nat) : (s.fdbDrop mac vid).still = s.still := by simp [State.fdbDrop]
@[simp] theorem State.fdbAdd_still (s : State) (e : FdbEntry) : (s.fdbAdd e).still = s.still := by simp [State.fdbAdd]

@[simp] theorem State.fdbLearn_still (s : State) (p vid mac : Nat) : (s.fdbLearn p vid mac).still = s.still := by
  unfold State.fdbLearn
  (repeat' split) <;> simp

@[simp] theorem execFdbEntryAgeing_still (mac vid : Nat) (s : State) : KeepsStill (execFdbEntryAgeing mac vid s) s := by
  unfold execFdbEntryAgeing
  split <;> simp

@[simp] theorem execRxbuf_still (s : State) : KeepsStill (execRxbuf s) s := by
  unfold execRxbuf
  split <;> simp

@[simp] theorem State.hostFrame_still (s : State) (p : Nat) (f : EthFrame) (tarr : Nat) : (s.hostFrame p f tarr).still = s.still := by
  unfold State.hostFrame
  split <;> simp

@[simp] theorem State.forward_still (s : State) (src : Nat) (f : EthFrame) (tarr : Nat) (desc : Option Desc) (ps : List Nat) :
    (s.forward src f tarr desc ps).still = s.still := by
  unfold State.forward
  split <;> simp

@[simp] theorem execXmit_still (s : State) : KeepsStill (execXmit s) s := by
  unfold execXmit
  split <;> simp

@[simp] theorem State.rioWrite_still (s : State) (n port tarr : Nat) (payload : Bytes) : (s.rioWrite n port tarr payload).still = s.still := by
  simp [State.rioWrite]

@[simp] theorem State.frameIn_still (s : State) (p : Nat) : (s.frameIn p).still = s.still := by simp [State.frameIn]

@[simp] theorem execRioInputFrame_still (port : Nat) (f : EthFrame) (tarr : Nat) (s : State) : KeepsStill (execRioInputFrame port f tarr s) s := by
  unfold execRioInputFrame
  (repeat' split) <;> simp

@[simp] theorem execRiotpl_still (s : State) : KeepsStill (execRiotpl s) s := by simp [execRiotpl]

@[simp] theorem State.rioRelease_still (s : State) (n : Nat) (fields : List Overlay) : (s.rioRelease n fields).1.still = s.still := by
  unfold State.rioRelease
  dsimp only
  (repeat' split) <;> simp

@[simp] theorem State.fieldOr_still (s : State) (n : Nat) (lo hi v : Int) : (s.fieldOr n lo hi v).1.still = s.still := by simp [State.fieldOr]

@[simp] theorem State.lidarPoint_still (s : State) (l b : Bytes) (unit : Nat) (t : Int × Bool) (block point : Nat) :
    (s.lidarPoint l b unit t block point).1.still = s.still := by
  simp [State.lidarPoint]

@[simp] theorem State.lidarPoints_still (s : State) (l b : Bytes) (unit : Nat) (t : Int × Bool) : (s.lidarPoints l b unit t).1.still = s.still := by
  simp [State.lidarPoints]

@[simp] theorem State.lidarPacket_still (s : State) (l b : Bytes) (tarr : Nat) (sync : Bool) : (s.lidarPacket l b tarr sync).still = s.still := by
  simp [State.lidarPacket]

@[simp] theorem State.analyserPacket_still (s : State) (l b : Bytes) (tarr : Nat) (sync : Bool) :
    (s.analyserPacket l b tarr sync).still = s.still := by
  simp [State.analyserPacket]

@[simp] theorem execUdpIntake_still (port : Nat) (f : EthFrame) (tarr : Nat) (late sync : Bool) (s : State) :
    KeepsStill (execUdpIntake port f tarr late sync s) s := by
  unfold execUdpIntake
  (repeat' split) <;> simp

@[simp] theorem execEthFrameForward_still (port : Nat) (f : EthFrame) (tarr : Nat) (s : State) : KeepsStill (execEthFrameForward port f tarr s) s := by
  simp [execEthFrameForward]

@[simp] theorem State.linkDown_still (s : State) (p : Nat) : (s.linkDown p).still = s.still := by simp [State.linkDown]

@[simp] theorem execEthLinkChange_still (port : Nat) (up : Bool) (pdelay : Option Nat) (s : State) :
    KeepsStill (execEthLinkChange port up pdelay s) s := by
  simp [execEthLinkChange]

@[simp] theorem State.ptpStat_still (s : State) : s.ptpStat.still = s.still := by simp [State.ptpStat]

@[simp] theorem execGrandmasterChange_still (gm : Nat) (own : Bool) (slave steps : Nat) (roles : List Nat) (s : State) :
    KeepsStill (execGrandmasterChange gm own slave steps roles s) s := by
  simp [execGrandmasterChange]

@[simp] theorem execPtpMark_still (stamp sec : Nat) (rateErr : Int) (s : State) : KeepsStill (execPtpMark stamp sec rateErr s) s := by simp [execPtpMark]

@[simp] theorem execGclload_still (s : State) : KeepsStill (execGclload s) s := by
  unfold execGclload
  split <;> simp

@[simp] theorem execFdbset_still (s : State) : KeepsStill (execFdbset s) s := by simp [execFdbset]
@[simp] theorem State.portCtlWrite_still (s : State) (p : Nat) (v : W32) : (s.portCtlWrite p v).still = s.still := by simp [State.portCtlWrite]
@[simp] theorem State.rioCfgWrite_still (s : State) (n : Nat) (v : W32) : (s.rioCfgWrite n v).still = s.still := by simp [State.rioCfgWrite]
@[simp] theorem State.udpCtlWrite_still (s : State) (m : Nat) (v : W32) : (s.udpCtlWrite m v).still = s.still := by simp [State.udpCtlWrite]
@[simp] theorem State.lidarWrite_still (s : State) (u r : Nat) (v : W32) : (s.lidarWrite u r v).still = s.still := by simp [State.lidarWrite]
@[simp] theorem State.nvmeCloseAll_still (s : State) : s.nvmeCloseAll.still = s.still := by simp [State.nvmeCloseAll]
@[simp] theorem State.ethWrite_still (s : State) (off : Nat) (v : W32) : (s.ethWrite off v).still = s.still := by simp [State.ethWrite]
@[simp] theorem State.ethParity_still (s : State) (off : Nat) : (s.ethParity off).still = s.still := by simp [State.ethParity]

/-! ### Wear of Terrace -/

@[simp] theorem State.terEvent_still (s : State) (tag drive ns detail : Nat) : (s.terEvent tag drive ns detail).still = s.still := by
  simp [State.terEvent]

@[simp] theorem State.wearRegs_still (s : State) : s.wearRegs.still = s.still := by simp [State.wearRegs]
@[simp] theorem State.raiseTcode_still (s : State) (r k : Nat) : (s.raiseTcode r k).still = s.still := by simp [State.raiseTcode]
@[simp] theorem State.terErase_still (s : State) (p : Nat) : (s.terErase p).still = s.still := by simp [State.terErase]
@[simp] theorem State.terHigh_still (s : State) (p : Nat) : (s.terHigh p).still = s.still := by simp [State.terHigh]
@[simp] theorem State.terRetire_still (s : State) (p : Nat) : (s.terRetire p).still = s.still := by simp [State.terRetire]

@[simp] theorem State.pceLog_still (s : State) (type : Nat) (slot : Option Nat) (hdr addr : Nat) : (s.pceLog type slot hdr addr).still = s.still := by
  simp [State.pceLog]

@[simp] theorem State.pcePoison_still (s : State) (slot : Nat) : (s.pcePoison slot).still = s.still := by simp [State.pcePoison]

/-! ### NAND -/

@[simp] theorem State.nflReject_still (s : State) (cause : Nat) : (s.nflReject cause).still = s.still := by simp [State.nflReject]

@[simp] theorem State.nflLog_still (s : State) (type tcode src bits p meta0 : Nat) : (s.nflLog type tcode src bits p meta0).still = s.still := by
  simp [State.nflLog]

@[simp] theorem State.nflPop_still (s : State) : s.nflPop.still = s.still := by simp [State.nflPop]
@[simp] theorem State.packCount_still (s : State) (c : Nat) : (s.packCount c).still = s.still := by simp [State.packCount]
@[simp] theorem State.readCounts_still (s : State) (c e t : Nat) : (s.readCounts c e t).still = s.still := by simp [State.readCounts]

@[simp] theorem State.readFail_still (s : State) (page : Bytes) (src p dest type tcode : Nat) :
    (s.readFail page src p dest type tcode).1.still = s.still := by
  simp [State.readFail]

@[simp] theorem State.decodePage_still (s : State) (page : Bytes) (src p dest : Nat) : (s.decodePage page src p dest).1.still = s.still := by
  unfold State.decodePage
  (repeat' split) <;> simp

@[simp] theorem State.nandRead_still (s : State) (src p dest : Nat) (flips : List Nat) : (s.nandRead src p dest flips).1.still = s.still := by
  simp [State.nandRead]

@[simp] theorem State.nandStore_still (s : State) (p : Nat) (b : Bytes) : (s.nandStore p b).still = s.still := by simp [State.nandStore]
@[simp] theorem State.nandFree_still (s : State) (p : Nat) : (s.nandFree p).still = s.still := by simp [State.nandFree]
@[simp] theorem State.blockFree_still (s : State) (p : Nat) : (s.blockFree p).still = s.still := by simp [State.blockFree]
@[simp] theorem State.nandFail_still (s : State) (src p type : Nat) : (s.nandFail src p type).1.still = s.still := by simp [State.nandFail]
@[simp] theorem State.srcPoison_still (s : State) : s.srcPoison.1.still = s.still := by simp [State.srcPoison]

@[simp] theorem State.nandProgram_still (s : State) (src p from0 : Nat) (info : Bytes) (fail bad : Bool) :
    (s.nandProgram src p from0 info fail bad).1.still = s.still := by
  simp [State.nandProgram]

@[simp] theorem State.nandErase_still (s : State) (src p : Nat) (fail : Bool) : (s.nandErase src p fail).1.still = s.still := by
  simp [State.nandErase]

@[simp] theorem State.nflServe_still (s : State) (q op : Nat) (f : Desc → State → State × NandOut) (h : ∀ d t, (f d t).1.still = t.still) :
    (s.nflServe q op f).still = s.still := by
  simp [State.nflServe, h]

@[simp] theorem execNandRead_still (q : Nat) (flips : List Nat) (s : State) : KeepsStill (execNandRead q flips s) s := by simp [execNandRead]

@[simp] theorem execNandProgram_still (q : Nat) (fail tableBad : Bool) (s : State) : KeepsStill (execNandProgram q fail tableBad s) s := by
  simp [execNandProgram]

@[simp] theorem execNandErase_still (q : Nat) (fail : Bool) (s : State) : KeepsStill (execNandErase q fail s) s := by simp [execNandErase]

@[simp] theorem State.rawServe_still (s : State) (op : Nat) (f : Desc → State → State × NandOut) (h : ∀ d t, (f d t).1.still = t.still) :
    (s.rawServe op f).still = s.still := by
  simp [State.rawServe, h]

@[simp] theorem execRawread_still (flips : List Nat) (s : State) : KeepsStill (execRawread flips s) s := by simp [execRawread]
@[simp] theorem execRawprog_still (fail : Bool) (s : State) : KeepsStill (execRawprog fail s) s := by simp [execRawprog]
@[simp] theorem execDecode_still (s : State) : KeepsStill (execDecode s) s := by simp [execDecode]
@[simp] theorem execLogPop_still (agent : Agent) (nfl : Bool) (s : State) : KeepsStill (execLogPop agent nfl s) s := by simp [execLogPop]
@[simp] theorem State.nflBusy_still (s : State) : s.nflBusy.still = s.still := by simp [State.nflBusy]
@[simp] theorem State.strShow_still (s : State) : s.strShow.still = s.still := by simp [State.strShow]
@[simp] theorem State.nflWrite_still (s : State) (off : Nat) (v : W32) : (s.nflWrite off v).still = s.still := by simp [State.nflWrite]
@[simp] theorem State.nflParity_still (s : State) : s.nflParity.still = s.still := by simp [State.nflParity]

/-! ### Terrace -/

@[simp] theorem State.setNs_still (s : State) (n : Nat) (x : Ns) : (s.setNs n x).still = s.still := by simp [State.setNs]
@[simp] theorem State.setExt_still (s : State) (k : Nat) (x : Ext) : (s.setExt k x).still = s.still := by simp [State.setExt]
@[simp] theorem State.setDrive_still (s : State) (d : Nat) (x : Drive) : (s.setDrive d x).still = s.still := by simp [State.setDrive]
@[simp] theorem State.nsReg_still (s : State) (n : Nat) : (s.nsReg n).still = s.still := by simp [State.nsReg]
@[simp] theorem State.terRegs_still (s : State) : s.terRegs.still = s.still := by simp [State.terRegs]
@[simp] theorem State.terPoison_still (s : State) (n lba : Nat) : (s.terPoison n lba).still = s.still := by simp [State.terPoison]
@[simp] theorem State.markBlock_still (s : State) (n lba : Nat) : (s.markBlock n lba).still = s.still := by simp [State.markBlock]
@[simp] theorem State.clearBlock_still (s : State) (n lba : Nat) : (s.clearBlock n lba).still = s.still := by simp [State.clearBlock]

@[simp] theorem State.writeBlock_still (s : State) (n lba : Nat) (b : Bytes) (poison whole : Bool) :
    (s.writeBlock n lba b poison whole).still = s.still := by
  unfold State.writeBlock
  extract_lets k _ t x lost t2 _ t3 t4 u
  have h3 : t3.still = s.still := by
    simp only [t3, t2, t]
    (repeat' split) <;> simp
  clear_value t3
  simp [u, t4, h3]

@[simp] theorem State.takeExt_still (s : State) (k : Nat) (l : List Nat) : (s.takeExt k l).still = s.still := by simp [State.takeExt]
@[simp] theorem State.needExts_still (s : State) (n : Nat) (es : List Nat) : (s.needExts n es).1.still = s.still := by simp [State.needExts]
@[simp] theorem State.terCmd_still (s : State) : s.terCmd.still = s.still := by simp [State.terCmd]
@[simp] theorem State.mediaBad_still (s : State) (n : Nat) (bad : List Nat) : (s.mediaBad n bad).still = s.still := by simp [State.mediaBad]
@[simp] theorem State.judgeAll_still (s : State) : s.judgeAll.still = s.still := by simp [State.judgeAll]

@[simp] theorem State.moveAbandon_still (s : State) : s.moveAbandon.still = s.still := by
  unfold State.moveAbandon
  split <;> simp

@[simp] theorem State.driveState_still (s : State) (d st : Nat) : (s.driveState d st).still = s.still := by simp [State.driveState]

@[simp] theorem State.evacEnd_still (s : State) (status : Nat) : (s.evacEnd status).still = s.still := by
  unfold State.evacEnd
  split <;> simp

@[simp] theorem State.driveLost_still (s : State) (d st tag : Nat) (flight : List (Nat × Nat)) : (s.driveLost d st tag flight).still = s.still := by
  unfold State.driveLost
  dsimp only
  split <;> simp

@[simp] theorem State.driveBack_still (s : State) (d : Nat) : (s.driveBack d).still = s.still := by simp [State.driveBack]

@[simp] theorem State.judgeDrive_still (s : State) (d : Nat) (suits : Bool) (exts : Nat) (label : Option (Nat × Nat × Nat)) :
    (s.judgeDrive d suits exts label).still = s.still := by
  unfold State.judgeDrive
  dsimp only
  split <;> simp

@[simp] theorem State.terServe_still (s : State) (q op : Nat) (f : Desc → State → State × Result) (h : ∀ d t, (f d t).1.still = t.still) :
    (s.terServe q op f).still = s.still := by
  simp [State.terServe, h]

@[simp] theorem State.terStopDue_still (s : State) : s.terStopDue.still = s.still := by
  unfold State.terStopDue
  (repeat' split) <;> simp

@[simp] theorem State.deletePrune_still (s : State) : s.deletePrune.still = s.still := by simp [State.deletePrune]
@[simp] theorem State.terAfter_still (s : State) : s.terAfter.still = s.still := by simp [State.terAfter]
@[simp] theorem State.payEvents_still (s : State) : s.payEvents.still = s.still := by simp [State.payEvents]
@[simp] theorem State.nsChanged_still (s : State) (n : Nat) : (s.nsChanged n).still = s.still := by simp [State.nsChanged]
@[simp] theorem execNscreate_still (s : State) : KeepsStill (execNscreate s) s := by simp [execNscreate]

@[simp] theorem State.nsDrop_still (s : State) (n : Nat) : (s.nsDrop n).still = s.still := by
  unfold State.nsDrop
  split <;> simp

@[simp] theorem execNsdelete_still (s : State) : KeepsStill (execNsdelete s) s := by
  unfold execNsdelete
  dsimp only
  (repeat' split) <;> simp

@[simp] theorem execNsinfo_still (s : State) : KeepsStill (execNsinfo s) s := by simp [execNsinfo]
@[simp] theorem execExtread_still (s : State) : KeepsStill (execExtread s) s := by simp [execExtread]
@[simp] theorem execAdmitCmd_still (s : State) : KeepsStill (execAdmitCmd s) s := by simp [execAdmitCmd]
@[simp] theorem State.forgetDrive_still (s : State) (n : Nat) : (s.forgetDrive n).still = s.still := by simp [State.forgetDrive]

@[simp] theorem execReleaseCmd_still (s : State) : KeepsStill (execReleaseCmd s) s := by
  unfold execReleaseCmd
  refine (keepsStill_next _ _).mpr ((State.terAfter_still _).trans (State.terServe_still _ _ _ _ fun d t => ?_))
  dsimp only
  (repeat' split) <;> simp

@[simp] theorem State.nandServe_still (s : State) (op : Nat) (f : Desc → State → State × Result) (h : ∀ d t, (f d t).1.still = t.still) :
    (s.nandServe op f).still = s.still := by
  unfold State.nandServe
  split <;> simp [h]

@[simp] theorem execRawlend_still (blocks : List Nat) (s : State) : KeepsStill (execRawlend blocks s) s := by simp [execRawlend]
@[simp] theorem execRawreturn_still (fails : List Nat) (s : State) : KeepsStill (execRawreturn fails s) s := by simp [execRawreturn]

@[simp] theorem State.evacMove_still (s : State) (n : Nat) : (s.evacMove n).still = s.still := by
  unfold State.evacMove
  (repeat' split) <;> simp

@[simp] theorem execEvacuate_still (s : State) : KeepsStill (execEvacuate s) s := by
  unfold execEvacuate
  split <;> simp

@[simp] theorem State.readInto_still (s : State) (n lba cnt a : Nat) : (s.readInto n lba cnt a).1.still = s.still :=
  foldl_fst_still _ (fun x i => by dsimp only; simp) _ _

@[simp] theorem execTerRead_still (bad : List Nat) (s : State) : KeepsStill (execTerRead bad s) s := by simp [execTerRead]
@[simp] theorem execTerWrite_still (s : State) : KeepsStill (execTerWrite s) s := by simp [execTerWrite]

@[simp] theorem State.appendBytes_still (s : State) (n : Nat) (b : Bytes) (bad : List Nat) : (s.appendBytes n b bad).1.still = s.still := by
  simp [State.appendBytes]

@[simp] theorem execAppend_still (s : State) : KeepsStill (execAppend s) s := by simp [execAppend]
@[simp] theorem execTerFlush_still (s : State) : KeepsStill (execTerFlush s) s := by simp [execTerFlush]

@[simp] theorem State.deallocRange_still (s : State) (n lba cnt : Nat) : (s.deallocRange n lba cnt).still = s.still := by
  unfold State.deallocRange
  split <;> simp

@[simp] theorem execDealloc_still (s : State) : KeepsStill (execDealloc s) s := by simp [execDealloc]
@[simp] theorem execTerRefresh_still (s : State) : KeepsStill (execTerRefresh s) s := by simp [execTerRefresh]

@[simp] theorem execRefreshPass_still (bad : List (Nat × Nat)) (rewritten : Nat) (s : State) : KeepsStill (execRefreshPass bad rewritten s) s := by
  simp [execRefreshPass]

@[simp] theorem State.terLinkLost_still (s : State) (d : Nat) (flight : List (Nat × Nat)) : (s.terLinkLost d flight).still = s.still := by
  unfold State.terLinkLost
  split <;> simp

@[simp] theorem execDriveLinkLost_still (slot : Nat) (flight : List (Nat × Nat)) (s : State) : KeepsStill (execDriveLinkLost slot flight s) s := by
  simp [execDriveLinkLost]

@[simp] theorem execDriveFailed_still (slot : Nat) (flight : List (Nat × Nat)) (s : State) : KeepsStill (execDriveFailed slot flight s) s := by
  simp [execDriveFailed]

@[simp] theorem State.copyPoison_still (s : State) (k : Nat) : (s.copyPoison k).still = s.still := by simp [State.copyPoison]

@[simp] theorem execHotExtentMove_still (s : State) : KeepsStill (execHotExtentMove s) s := by
  unfold execHotExtentMove
  (repeat' split) <;> simp

@[simp] theorem execDegradedRemirror_still (s : State) : KeepsStill (execDegradedRemirror s) s := by
  unfold execDegradedRemirror
  (repeat' split) <;> simp

@[simp] theorem State.consume_still (s : State) (q : Nat) : (s.consume q).still = s.still := by simp [State.consume]
@[simp] theorem State.camDrop_still (s : State) : s.camDrop.still = s.still := by simp [State.camDrop]
@[simp] theorem execAccessUnitIntake_still (s : State) : KeepsStill (execAccessUnitIntake s) s := by simp [execAccessUnitIntake]
@[simp] theorem execTileIntake_still (s : State) : KeepsStill (execTileIntake s) s := by simp [execTileIntake]
@[simp] theorem State.terReject_still (s : State) (cause : Nat) : (s.terReject cause).still = s.still := by simp [State.terReject]

@[simp] theorem State.terLoad_still (s : State) (ms : Option Nat) : (s.terLoad ms).still = s.still := by
  unfold State.terLoad
  split <;> simp

@[simp] theorem State.terStop_still (s : State) : s.terStop.still = s.still := by simp [State.terStop]
@[simp] theorem State.terCtlWrite_still (s : State) (v : W32) (ms : Option Nat) : (s.terCtlWrite v ms).still = s.still := by simp [State.terCtlWrite]
@[simp] theorem State.terWrite_still (s : State) (off : Nat) (v : W32) : (s.terWrite off v).still = s.still := by simp [State.terWrite]
@[simp] theorem State.terParity_still (s : State) (off : Nat) : (s.terParity off).still = s.still := by simp [State.terParity]

@[simp] theorem execTerraceEnable_still (agent : Agent) (value : W32) (ms : Option Nat) (s : State) :
    KeepsStill (execTerraceEnable agent value ms s) s := by
  simp [execTerraceEnable]

@[simp] theorem execTerraceStop_still (agent : Agent) (value : W32) (s : State) : KeepsStill (execTerraceStop agent value s) s := by simp [execTerraceStop]

@[simp] theorem State.terCanopyDown_still (s : State) : s.terCanopyDown.still = s.still := by
  unfold State.terCanopyDown
  extract_lets t x
  have ht : t.still = s.still := by simp [t]
  clear_value t
  simp [ht]

/-! ### NVMe over TCP -/

@[simp] theorem State.hostCpl_still (s : State) (c : HostCpl) : (s.hostCpl c).still = s.still := by simp [State.hostCpl]

@[simp] theorem State.hostStatus_still (s : State) (conn cid sct sc : Nat) : (s.hostStatus conn cid sct sc).still = s.still := by
  simp [State.hostStatus]

@[simp] theorem State.setConn_still (s : State) (c : NvmeConn) : (s.setConn c).still = s.still := by simp [State.setConn]

@[simp] theorem State.hostServe_still (s : State) (conn : Nat) (f : NvmeConn → State → State) (h : ∀ c t, (f c t).still = t.still) :
    (s.hostServe conn f).still = s.still := by
  unfold State.hostServe
  (repeat' split) <;> simp [h]

@[simp] theorem State.connReg_still (s : State) : s.connReg.still = s.still := by simp [State.connReg]

@[simp] theorem execNvmeConnect_still (conn addr qid kato : Nat) (s : State) : KeepsStill (execNvmeConnect conn addr qid kato s) s := by
  unfold execNvmeConnect
  (repeat' split) <;> simp

@[simp] theorem execNvmePropertyGet_still (conn cid ofst : Nat) (s : State) : KeepsStill (execNvmePropertyGet conn cid ofst s) s := by
  simp [execNvmePropertyGet]

@[simp] theorem execNvmePropertySet_still (conn cid ofst value : Nat) (s : State) : KeepsStill (execNvmePropertySet conn cid ofst value s) s := by
  simp [execNvmePropertySet]

@[simp] theorem execNvmeDisconnect_still (conn cid : Nat) (s : State) : KeepsStill (execNvmeDisconnect conn cid s) s := by simp [execNvmeDisconnect]

@[simp] theorem execNvmeIdentify_still (conn cid cns nsid : Nat) (s : State) : KeepsStill (execNvmeIdentify conn cid cns nsid s) s := by
  simp [execNvmeIdentify]

@[simp] theorem execNvmeGetLogPage_still (conn cid lid len : Nat) (retain : Bool) (s : State) :
    KeepsStill (execNvmeGetLogPage conn cid lid len retain s) s := by
  simp [execNvmeGetLogPage]

@[simp] theorem execNvmeSetFeatures_still (conn cid fid value : Nat) (s : State) : KeepsStill (execNvmeSetFeatures conn cid fid value s) s := by
  simp [execNvmeSetFeatures]

@[simp] theorem execNvmeGetFeatures_still (conn cid fid : Nat) (s : State) : KeepsStill (execNvmeGetFeatures conn cid fid s) s := by
  simp [execNvmeGetFeatures]

@[simp] theorem execNvmeAsyncEventRequest_still (conn cid : Nat) (s : State) : KeepsStill (execNvmeAsyncEventRequest conn cid s) s := by
  simp [execNvmeAsyncEventRequest]

@[simp] theorem execNvmeKeepAlive_still (conn cid : Nat) (s : State) : KeepsStill (execNvmeKeepAlive conn cid s) s := by simp [execNvmeKeepAlive]

@[simp] theorem State.hostFail_still (s : State) (c : NvmeConn) (cid : Nat) (code : Nat × Nat) : (s.hostFail c cid code).still = s.still := by
  simp [State.hostFail]

@[simp] theorem State.hostRange_still (s : State) (conn cid nsid lba blocks : Nat) (bounded : Bool) (f : NvmeConn → Nat → State → State)
    (h : ∀ c n t, (f c n t).still = t.still) : (s.hostRange conn cid nsid lba blocks bounded f).still = s.still := by
  simp [State.hostRange, h]

@[simp] theorem execNvmeRead_still (conn cid nsid lba blocks : Nat) (bad : List Nat) (s : State) :
    KeepsStill (execNvmeRead conn cid nsid lba blocks bad s) s := by
  unfold execNvmeRead
  refine (keepsStill_next _ _).mpr (State.hostRange_still _ _ _ _ _ _ _ _ fun c n t => ?_)
  dsimp only
  (repeat' split) <;> simp

@[simp] theorem State.hostStore_still (s : State) (c : NvmeConn) (cid n lba : Nat) (data : List Bytes) :
    (s.hostStore c cid n lba data).still = s.still := by
  simp [State.hostStore]

@[simp] theorem execNvmeWrite_still (conn cid nsid lba : Nat) (data : List Bytes) (s : State) : KeepsStill (execNvmeWrite conn cid nsid lba data s) s := by
  simp [execNvmeWrite]

@[simp] theorem execNvmeFlush_still (conn cid nsid : Nat) (s : State) : KeepsStill (execNvmeFlush conn cid nsid s) s := by simp [execNvmeFlush]

@[simp] theorem execNvmeDatasetManagement_still (conn cid nsid : Nat) (dealloc : Bool) (ranges : List (Nat × Nat)) (s : State) :
    KeepsStill (execNvmeDatasetManagement conn cid nsid dealloc ranges s) s := by
  simp [execNvmeDatasetManagement]

@[simp] theorem execNvmeWriteZeroes_still (conn cid nsid lba blocks : Nat) (s : State) :
    KeepsStill (execNvmeWriteZeroes conn cid nsid lba blocks s) s :=
  (keepsStill_next _ _).mpr (State.hostRange_still _ _ _ _ _ _ _ _ fun _ _ _ => State.hostStore_still _ _ _ _ _ _)

/-! ### PCI Express -/

@[simp] theorem State.pcePop_still (s : State) : s.pcePop.still = s.still := by simp [State.pcePop]
@[simp] theorem State.slotDown_still (s : State) (n : Nat) (surprise : Bool) : (s.slotDown n surprise).still = s.still := by simp [State.slotDown]
@[simp] theorem State.rootDown_still (s : State) : s.rootDown.still = s.still := by simp [State.rootDown]
@[simp] theorem State.pceSurprise_still (s : State) : s.pceSurprise.still = s.still := by simp [State.pceSurprise]

@[simp] theorem execPcieLinkLoss_still (slot : Option Nat) (s : State) : KeepsStill (execPcieLinkLoss slot s) s := by
  unfold execPcieLinkLoss
  (repeat' split) <;> simp

@[simp] theorem execCompletionTimeout_still (slot : Option Nat) (hdr addr : Nat) (core : Option (Nat × Nat × Nat × Bool)) (s : State) :
    KeepsStill (execCompletionTimeout slot hdr addr core s) s := by
  unfold execCompletionTimeout
  (repeat' split) <;> simp

@[simp] theorem State.endDown_still (s : State) : s.endDown.still = s.still := by simp [State.endDown]

@[simp] theorem execEndpointLinkChange_still (up : Bool) (gen width : Nat) (s : State) : KeepsStill (execEndpointLinkChange up gen width s) s := by
  simp [execEndpointLinkChange]

@[simp] theorem execDriveLinkUp_still (slot gen width rpGen rpWidth : Nat) (suits : Bool) (exts : Nat) (label : Option (Nat × Nat × Nat)) (wear : W32) (s : State) :
    KeepsStill (execDriveLinkUp slot gen width rpGen rpWidth suits exts label wear s) s := by
  simp [execDriveLinkUp]

@[simp] theorem execSlotpwr_still (s : State) : KeepsStill (execSlotpwr s) s := by simp [execSlotpwr]
@[simp] theorem execRetrain_still (gen width : Nat) (s : State) : KeepsStill (execRetrain gen width s) s := by simp [execRetrain]
@[simp] theorem State.pceReject_still (s : State) (cause : Nat) : (s.pceReject cause).still = s.still := by simp [State.pceReject]
@[simp] theorem State.pceLinksDown_still (s : State) : s.pceLinksDown.still = s.still := by simp [State.pceLinksDown]
@[simp] theorem State.pceWrite_still (s : State) (off : Nat) (v : W32) : (s.pceWrite off v).still = s.still := by simp [State.pceWrite]
@[simp] theorem State.pceParity_still (s : State) (off : Nat) : (s.pceParity off).still = s.still := by simp [State.pceParity]

/-! ### Event recorder -/

@[simp] theorem State.popQueue_still (s : State) : s.popQueue.still = s.still := by simp [State.popQueue]

@[simp] theorem State.cutWrite_still (s : State) (r : Rec) : (s.cutWrite r).still = s.still := by
  unfold State.cutWrite
  (repeat' split) <;> simp

@[simp] theorem execEventRecordWrite_still (cut : Bool) (s : State) : KeepsStill (execEventRecordWrite cut s) s := by
  unfold execEventRecordWrite
  split <;> simp

@[simp] theorem execBucketRefill_still (sev : Nat) (s : State) : KeepsStill (execBucketRefill sev s) s := by simp [execBucketRefill]
@[simp] theorem State.cutBuckets_still (s : State) (sev : Nat) : (s.cutBuckets sev).still = s.still := by simp [State.cutBuckets]
@[simp] theorem State.swResult_still (s : State) (b res : Nat) (clamp : Bool) : (s.swResult b res clamp).still = s.still := by simp [State.swResult]
@[simp] theorem State.swRefuse_still (s : State) (b cause : Nat) : (s.swRefuse b cause).still = s.still := by simp [State.swRefuse]
@[simp] theorem State.swCommit_still (s : State) (b : Nat) (v : W32) : (s.swCommit b v).still = s.still := by simp [State.swCommit]

@[simp] theorem execSwrecCommit_still (agent : Agent) (value : W32) (s : State) : KeepsStill (execSwrecCommit agent value s) s := by
  unfold execSwrecCommit
  split <;> simp

@[simp] theorem State.bankPair_still (s : State) (b lo v : Nat) : (s.bankPair b lo v).still = s.still := by simp [State.bankPair]

@[simp] theorem State.fetchRec_still (s : State) (b : Nat) : (s.fetchRec b).still = s.still := by
  unfold State.fetchRec
  dsimp only
  split <;> simp

@[simp] theorem execFetch_still (agent : Agent) (s : State) : KeepsStill (execFetch agent s) s := by
  unfold execFetch
  split <;> simp

@[simp] theorem execRootEventRecord_still (event sev p0 p1 p2 : Nat) (s : State) : KeepsStill (execRootEventRecord event sev p0 p1 p2 s) s := by
  simp [execRootEventRecord]

/-! ### Trellis -/

@[simp] theorem State.setLoop_still (s : State) (n : Nat) (l : Loop) : (s.setLoop n l).still = s.still := by simp [State.setLoop]
@[simp] theorem State.setLoopState_still (s : State) (n st : Nat) : (s.setLoopState n st).still = s.still := by simp [State.setLoopState]

@[simp] theorem State.trlTell_still (s : State) (tag n w : Nat) (rec : Option Nat) : (s.trlTell tag n w rec).still = s.still := by
  unfold State.trlTell
  split <;> simp

@[simp] theorem State.trlEvent_still (s : State) (tag n : Nat) (rec : Option Nat) : (s.trlEvent tag n rec).still = s.still := by simp [State.trlEvent]
@[simp] theorem State.trlReject_still (s : State) (n cause : Nat) : (s.trlReject n cause).still = s.still := by simp [State.trlReject]
@[simp] theorem State.trlPoison_still (s : State) : s.trlPoison.still = s.still := by simp [State.trlPoison]
@[simp] theorem State.installLoop_still (s : State) (n : Nat) (raw : Bytes) : (s.installLoop n raw).still = s.still := by simp [State.installLoop]

@[simp] theorem State.readInput_still (s : State) (l : Loop) (w ts : Nat) : (s.readInput l w ts).1.still = s.still := by
  unfold State.readInput
  dsimp only
  (repeat' split) <;> simp

@[simp] theorem State.outerOutput_still (s : State) (w : Nat) (u : Frac) : (s.outerOutput w u).still = s.still := by simp [State.outerOutput]

@[simp] theorem State.applyOut_still (s : State) (w : Nat) (u : Frac) : (s.applyOut w u).1.still = s.still := by
  unfold State.applyOut
  split <;> simp

@[simp] theorem State.loopStop_still (s : State) (n : Nat) : (s.loopStop n).still = s.still := by
  unfold State.loopStop
  dsimp only
  split <;> simp

@[simp] theorem State.trlRole_still (s : State) : s.trlRole.still = s.still := by
  unfold State.trlRole
  split <;> simp

@[simp] theorem State.spLine_still (s : State) (n : Nat) : (s.spLine n).1.still = s.still := by
  unfold State.spLine
  (repeat' split) <;> simp

@[simp] theorem State.trackNow_still (s : State) (n : Nat) : (s.trackNow n).still = s.still := by simp [State.trackNow]

@[simp] theorem State.modesNow_still (s : State) (n : Nat) : (s.modesNow n).still = s.still := by
  unfold State.modesNow
  dsimp only
  (repeat' split) <;> simp

@[simp] theorem State.outLine_still (s : State) (n ts tout flags : Nat) (u r y f : Frac) : (s.outLine n ts tout flags u r y f).still = s.still := by
  simp [State.outLine]

/-- The event of a sample is stamped with the instant of its output; Sundial itself stands where it stood. -/
@[simp] theorem State.sampleLog_still (s : State) (n ts tout flags : Nat) (u e : Frac) : (s.sampleLog n ts tout flags u e).still = s.still := by
  unfold State.sampleLog
  dsimp only
  split
  · generalize hx : (({ s with now := tout } : State).eventEntry _ _ _ _ _ _).1 = x
    have hs : x.still = ({ s with now := tout } : State).still := by rw [← hx]; exact State.eventEntry_still _ _ _ _ _ _ _
    simp only [State.still, Still.mk.injEq] at hs ⊢
    simp only [hs, and_self]
  · rfl

@[simp] theorem State.sampleRegs_still (s : State) (n ts tout flags : Nat) (u r y : Frac) : (s.sampleRegs n ts tout flags u r y).still = s.still := by
  simp [State.sampleRegs]

@[simp] theorem State.measLost_still (s : State) (n ts : Nat) : (s.measLost n ts).1.still = s.still := by
  unfold State.measLost
  extract_lets l t l' u v w
  have ht : t.still = s.still := by
    simp only [t]
    split <;> simp
  have hw : w.still = s.still := by simp [w, v, ht]
  clear_value t w
  split <;> simp [ht, hw]

@[simp] theorem State.sampleLaw_still (s : State) (n ts : Nat) (ok held : Bool) (y f : Frac) : (s.sampleLaw n ts ok held y f).1.still = s.still := by
  unfold State.sampleLaw
  dsimp only
  (repeat' split) <;> simp

@[simp] theorem State.takeMeas_still (s : State) (n : Nat) (m : InVal) : (s.takeMeas n m).still = s.still := by simp [State.takeMeas]
@[simp] theorem State.takeFf_still (s : State) (n ts : Nat) : (s.takeFf n ts).1.still = s.still := by simp [State.takeFf]
@[simp] theorem State.asatNow_still (s : State) (n : Nat) : (s.asatNow n).still = s.still := by simp [State.asatNow]
@[simp] theorem State.setBusyEnd_still (s : State) (t : Nat) : (s.setBusyEnd t).still = s.still := by simp [State.setBusyEnd]

@[simp] theorem State.runSample_still (s : State) (n ts tout : Nat) : (s.runSample n ts tout).still = s.still := by
  unfold State.runSample
  dsimp only
  split <;> simp

@[simp] theorem State.skipSample_still (s : State) (n ts : Nat) : (s.skipSample n ts).still = s.still := by simp [State.skipSample]
@[simp] theorem execLoopSample_still (n ts tout : Nat) (s : State) : KeepsStill (execLoopSample n ts tout s) s := by simp [execLoopSample]
@[simp] theorem State.loopStart_still (s : State) (n : Nat) (v : W32) : (s.loopStart n v).still = s.still := by simp [State.loopStart]
@[simp] theorem State.loopCtlWrite_still (s : State) (n : Nat) (v : W32) : (s.loopCtlWrite n v).still = s.still := by simp [State.loopCtlWrite]

@[simp] theorem execLoopEnable_still (agent : Agent) (n : Nat) (value : W32) (s : State) : KeepsStill (execLoopEnable agent n value s) s := by
  simp [execLoopEnable]

@[simp] theorem execLoopDisable_still (agent : Agent) (n : Nat) (s : State) : KeepsStill (execLoopDisable agent n s) s := by simp [execLoopDisable]

@[simp] theorem execLoopModeWrite_still (agent : Agent) (n mode : Nat) (s : State) : KeepsStill (execLoopModeWrite agent n mode s) s := by
  simp [execLoopModeWrite]

@[simp] theorem State.loadPar_still (s : State) (d : Desc) : (s.loadPar d).1.still = s.still := by simp [State.loadPar]
@[simp] theorem execLoadpar_still (q : Nat) (s : State) : KeepsStill (execLoadpar q s) s := by simp [execLoadpar]
@[simp] theorem execSetmode_still (q : Nat) (s : State) : KeepsStill (execSetmode q s) s := by simp [execSetmode]
@[simp] theorem execReadpar_still (q : Nat) (s : State) : KeepsStill (execReadpar q s) s := by simp [execReadpar]
@[simp] theorem execReadstate_still (q : Nat) (s : State) : KeepsStill (execReadstate q s) s := by simp [execReadstate]

@[simp] theorem execParameterMemoryError_still (n word : Nat) (corrected : Bool) (s : State) :
    KeepsStill (execParameterMemoryError n word corrected s) s := by
  simp [execParameterMemoryError]

@[simp] theorem State.trlWrite_still (s : State) (off : Nat) (v : W32) : (s.trlWrite off v).still = s.still := by simp [State.trlWrite]
@[simp] theorem State.trlParity_still (s : State) (off : Nat) (was : Bool) : (s.trlParity off was).still = s.still := by simp [State.trlParity]

/-! ### Update units -/

@[simp] theorem State.unitRegs_still (s : State) (u : Nat) : (s.unitRegs u).still = s.still := by
  unfold State.unitRegs
  (repeat' split) <;> simp

@[simp] theorem State.updRegs_still (s : State) : s.updRegs.still = s.still := by simp [State.updRegs]
@[simp] theorem State.setSlot_still (s : State) (u k : Nat) (x : Slot) : (s.setSlot u k x).still = s.still := by simp [State.setSlot]
@[simp] theorem State.setAct_still (s : State) (u k : Nat) : (s.setAct u k).still = s.still := by simp [State.setAct]

@[simp] theorem State.updEvent_still (s : State) (tag u slot ver old : Nat) (rec : Option Nat) :
    (s.updEvent tag u slot ver old rec).still = s.still := by
  unfold State.updEvent
  split <;> simp

@[simp] theorem State.itemState_still (s : State) (k st status : Nat) : (s.itemState k st status).still = s.still := by simp [State.itemState]
@[simp] theorem State.failBad_still (s : State) (u : Nat) (bad : List Nat) : (s.failBad u bad).still = s.still := by simp [State.failBad]

@[simp] theorem State.startUnit_still (s : State) (u : Nat) (bad : List Nat) : (s.startUnit u bad).still = s.still := by
  unfold State.startUnit
  dsimp only
  (repeat' split) <;> simp

@[simp] theorem State.startNew_still (s : State) (u win : Nat) : (s.startNew u win).still = s.still := by simp [State.startNew]
@[simp] theorem State.offProbation_still (s : State) (u : Nat) : (s.offProbation u).still = s.still := by simp [State.offProbation]
@[simp] theorem State.fellMark_still (s : State) (u : Nat) : (s.fellMark u).still = s.still := by simp [State.fellMark]

@[simp] theorem State.endApply_still (s : State) (st unit : Nat) : (s.endApply st unit).still = s.still := by
  unfold State.endApply
  split <;> simp

@[simp] theorem State.fellStop_still (s : State) (u : Nat) : (s.fellStop u).still = s.still := by
  unfold State.fellStop
  split <;> simp

@[simp] theorem State.fellAll_still (s : State) (us : List Nat) : (s.fellAll us).still = s.still := by simp [State.fellAll]

@[simp] theorem State.updPost_still (s : State) (op : Nat) (payload : List (Nat × Nat × Nat)) : (s.updPost op payload).1.still = s.still := by
  simp [State.updPost]

@[simp] theorem State.itemFail_still (s : State) (r : UpdRun) (u : Nat) : (s.itemFail r u).still = s.still := by simp [State.itemFail]
@[simp] theorem State.setRun_still (s : State) (r : UpdRun) : (s.setRun r).still = s.still := by simp [State.setRun]

@[simp] theorem State.furGive_still (s : State) (r : UpdRun) (stage op : Nat) (payload : List (Nat × Nat × Nat)) :
    (s.furGive r stage op payload).still = s.still := by
  unfold State.furGive
  dsimp only
  split <;> simp

@[simp] theorem State.furTold_still (s : State) (d : Desc) (st : Nat) : (s.furTold d st).still = s.still := by
  unfold State.furTold
  dsimp only
  (repeat' split) <;> simp

/-! ### Furrow -/

@[simp] theorem State.setFur_still (s : State) (f : Furrow) : (s.setFur f).still = s.still := by simp [State.setFur]
@[simp] theorem State.furClean_still (s : State) (area i : Nat) : (s.furClean area i).still = s.still := by simp [State.furClean]
@[simp] theorem State.setFlag_still (s : State) (i : Nat) (v : Bool) : (s.setFlag i v).still = s.still := by simp [State.setFlag]
@[simp] theorem State.setWord_still (s : State) (i : Nat) (v : Int) : (s.setWord i v).still = s.still := by simp [State.setWord]
@[simp] theorem State.setTimer_still (s : State) (i : Nat) (t : Timer) : (s.setTimer i t).still = s.still := by simp [State.setTimer]
@[simp] theorem State.setCounter_still (s : State) (i : Nat) (c : Counter) : (s.setCounter i c).still = s.still := by simp [State.setCounter]
@[simp] theorem State.setEdge_still (s : State) (i : Nat) (v : Bool) : (s.setEdge i v).still = s.still := by simp [State.setEdge]
@[simp] theorem State.furPoison_still (s : State) : s.furPoison.still = s.still := by simp [State.furPoison]

@[simp] theorem State.furEvent_still (s : State) (tag cause place remain x : Nat) (rec : Option Nat) :
    (s.furEvent tag cause place remain x rec).still = s.still := by
  unfold State.furEvent
  split <;> simp

@[simp] theorem State.furReject_still (s : State) (cause : Nat) : (s.furReject cause).still = s.still := by simp [State.furReject]
@[simp] theorem State.chgReg_still (s : State) : s.chgReg.still = s.still := by simp [State.chgReg]
@[simp] theorem State.outRefused_still (s : State) (i : Nat) : (s.outRefused i).still = s.still := by simp [State.outRefused]

@[simp] theorem State.outHand_still (s : State) (safe : Bool) (p : Prog) (e : MapEntry) : (s.outHand safe p e).1.still = s.still := by
  unfold State.outHand
  split <;> simp

@[simp] theorem State.outAll_still (s : State) (safe : Bool) (p : Prog) (l : List (MapEntry × Nat)) : (s.outAll safe p l).still = s.still := by
  simp [State.outAll]

@[simp] theorem State.outFrames_still (s : State) (safe : Bool) (p : Prog) (kind : Nat) : (s.outFrames safe p kind).still = s.still := by
  simp [State.outFrames]

@[simp] theorem State.watches_still (s : State) : s.watches.still = s.still := by simp [State.watches]

@[simp] theorem State.furRelease_still (s : State) (safe : Bool) : (s.furRelease safe).still = s.still := by
  unfold State.furRelease
  split <;> simp

@[simp] theorem State.publishWords_still (s : State) (sc : Scan) : (s.publishWords sc).still = s.still := by simp [State.publishWords]
@[simp] theorem State.applyChange_still (s : State) (q : Nat) (d : Desc) : (s.applyChange q d).still = s.still := by simp [State.applyChange]
@[simp] theorem State.applyChanges_still (s : State) (n : Nat) : (s.applyChanges n).still = s.still := by simp [State.applyChanges]
@[simp] theorem State.applyRead_still (s : State) (q : Nat) (d : Desc) : (s.applyRead q d).still = s.still := by simp [State.applyRead]
@[simp] theorem State.applyReads_still (s : State) : s.applyReads.still = s.still := by simp [State.applyReads]
@[simp] theorem State.furIdle_still (s : State) : s.furIdle.still = s.still := by simp [State.furIdle]
@[simp] theorem State.fellFurrow_still (s : State) : s.fellFurrow.still = s.still := by simp [State.fellFurrow]
@[simp] theorem State.furHalt_still (s : State) : s.furHalt.still = s.still := by simp [State.furHalt]

@[simp] theorem State.furAbort_still (s : State) (sc : Scan) (cause addr : Nat) : (s.furAbort sc cause addr).still = s.still := by
  simp [State.furAbort]

@[simp] theorem State.freePermits_still (s : State) (old new : Prog) : (s.freePermits old new).still = s.still := by simp [State.freePermits]
@[simp] theorem State.progRegs_still (s : State) (p : Prog) (loaded : Bool) : (s.progRegs p loaded).still = s.still := by simp [State.progRegs]

@[simp] theorem State.furSwitch_still (s : State) (d : Desc) : (s.furSwitch d).still = s.still := by
  unfold State.furSwitch
  (repeat' split) <;> simp

@[simp] theorem State.furActivate_still (s : State) : s.furActivate.still = s.still := by
  unfold State.furActivate
  split <;> simp

@[simp] theorem State.cmdLine_still (s : State) (a base l : Nat) : (s.cmdLine a base l).still = s.still := by simp [State.cmdLine]

@[simp] theorem State.cmdLatch_still (s : State) : s.cmdLatch.1.still = s.still := by
  unfold State.cmdLatch
  split <;> simp

@[simp] theorem State.latchEntry_still (s : State) (e : MapEntry) (i : Nat) (v : SourceVal) : (s.latchEntry e i v).still = s.still := by
  unfold State.latchEntry
  (repeat' split) <;> simp

@[simp] theorem State.latchAll_still (s : State) (p : Prog) (hand : Bool) : (s.latchAll p hand).still = s.still := by simp [State.latchAll]
@[simp] theorem State.statArea_still (s : State) (sc : Scan) : (s.statArea sc).still = s.still := by simp [State.statArea]

@[simp] theorem State.scanStart_still (s : State) : s.scanStart.still = s.still := by
  unfold State.scanStart
  split <;> simp

@[simp] theorem State.furOverrun_still (s : State) (sc : Scan) : (s.furOverrun sc).still = s.still := by simp [State.furOverrun]
@[simp] theorem State.furStopped_still (s : State) : s.furStopped.still = s.still := by simp [State.furStopped]

@[simp] theorem State.furTurn_still (s : State) : s.furTurn.still = s.still := by
  unfold State.furTurn
  split <;> simp

@[simp] theorem execCycleBoundary_still (s : State) : KeepsStill (execCycleBoundary s) s := by
  unfold execCycleBoundary
  dsimp only
  (repeat' split) <;> simp

@[simp] theorem State.furRunWrite_still (s : State) (v : W32) : (s.furRunWrite v).still = s.still := by simp [State.furRunWrite]

@[simp] theorem execFurrowEnable_still (agent : Agent) (value : W32) (s : State) : KeepsStill (execFurrowEnable agent value s) s := by
  simp [execFurrowEnable]

@[simp] theorem execFurrowDisable_still (agent : Agent) (s : State) : KeepsStill (execFurrowDisable agent s) s := by simp [execFurrowDisable]

@[simp] theorem execSetval_still (q : Nat) (s : State) : KeepsStill (execSetval q s) s := by
  unfold execSetval
  (repeat' split) <;> simp

@[simp] theorem execReadmem_still (q : Nat) (s : State) : KeepsStill (execReadmem q s) s := by
  unfold execReadmem
  (repeat' split) <;> simp

@[simp] theorem State.progload_still (t : State) (d : Desc) : (t.progload d).1.still = t.still := by simp [State.progload]
@[simp] theorem execProgload_still (s : State) : KeepsStill (execProgload s) s := by simp [execProgload]

@[simp] theorem execProgact_still (s : State) : KeepsStill (execProgact s) s := by
  unfold execProgact
  (repeat' split) <;> simp

@[simp] theorem State.furWrite_still (s : State) (off : Nat) (v : W32) : (s.furWrite off v).still = s.still := by simp [State.furWrite]
@[simp] theorem State.furParity_still (s : State) (off : Nat) : (s.furParity off).still = s.still := by simp [State.furParity]

/-! ### Cab panel -/

@[simp] theorem State.laneRegs_still (s : State) : s.laneRegs.still = s.still := by simp [State.laneRegs]
@[simp] theorem State.laneSet_still (s : State) (st locks : Nat) : (s.laneSet st locks).still = s.still := by simp [State.laneSet]
@[simp] theorem State.laneTrain_still (s : State) : s.laneTrain.still = s.still := by simp [State.laneTrain]

@[simp] theorem State.lastPackets_still (s : State) (line : Nat) (px : Nat → Nat) : (s.lastPackets line px).still = s.still := by
  simp [State.lastPackets]

@[simp] theorem State.blackFrame_still (s : State) : s.blackFrame.still = s.still := by simp [State.blackFrame]
@[simp] theorem State.sendGamma_still (s : State) : s.sendGamma.still = s.still := by simp [State.sendGamma]

@[simp] theorem State.dspEvent_still (s : State) (tag unit : Nat) (recorded : Bool) : (s.dspEvent tag unit recorded).still = s.still := by
  simp [State.dspEvent]

@[simp] theorem State.dspPoison_still (s : State) : s.dspPoison.still = s.still := by simp [State.dspPoison]
@[simp] theorem State.dspReject_still (s : State) (cause : Nat) : (s.dspReject cause).still = s.still := by simp [State.dspReject]
@[simp] theorem State.mapDrop_still (s : State) (st cause : Nat) : (s.mapDrop st cause).still = s.still := by simp [State.mapDrop]
@[simp] theorem State.mapBad_still (s : State) (cause : Nat) : (s.mapBad cause).still = s.still := by simp [State.mapBad]

@[simp] theorem State.mapDone_still (s : State) (status : Nat) : (s.mapDone status).still = s.still := by
  unfold State.mapDone
  split <;> simp

@[simp] theorem State.mapAbandon_still (s : State) : s.mapAbandon.still = s.still := by simp [State.mapAbandon]
@[simp] theorem State.mapEnd_still (s : State) (e : Bytes) : (s.mapEnd e).still = s.still := by simp [State.mapEnd]

@[simp] theorem execUniformityMapRead_still (eeprom : Bytes) (s : State) : KeepsStill (execUniformityMapRead eeprom s) s := by
  unfold execUniformityMapRead
  (repeat' split) <;> simp

@[simp] theorem execMapload_still (s : State) : KeepsStill (execMapload s) s := by
  unfold execMapload
  split <;> simp

@[simp] theorem State.writeBand_still (s src : State) (c : Comp) (unif : Bool) (f b : Nat) : (s.writeBand src c unif f b).still = s.still := by
  simp [State.writeBand]

@[simp] theorem State.countLayerPoison_still (s : State) (c : Comp) : (s.countLayerPoison c).still = s.still := by simp [State.countLayerPoison]
@[simp] theorem State.mapPoison_still (s : State) : s.mapPoison.still = s.still := by simp [State.mapPoison]

@[simp] theorem State.dropLayer_still (s : State) (c : Comp) : (s.dropLayer c).still = s.still := by
  unfold State.dropLayer
  split <;> simp

@[simp] theorem execFrameCompose_still (s : State) : KeepsStill (execFrameCompose s) s := by
  unfold execFrameCompose
  split <;> simp

@[simp] theorem State.startComp_still (s : State) : s.startComp.still = s.still := by
  unfold State.startComp
  dsimp only
  split <;> simp

@[simp] theorem State.engineOff_still (s : State) : s.engineOff.still = s.still := by
  unfold State.engineOff
  split <;> simp

@[simp] theorem State.imgReject_still (s : State) (poison : Bool) : (s.imgReject poison).still = s.still := by simp [State.imgReject]
@[simp] theorem State.stripCheck_still (s : State) (torn : Bool) : (s.stripCheck torn).still = s.still := by simp [State.stripCheck]
@[simp] theorem execStripRefresh_still (torn : Bool) (s : State) : KeepsStill (execStripRefresh torn s) s := by simp [execStripRefresh]
@[simp] theorem State.ramp_still (s : State) : s.ramp.still = s.still := by simp [State.ramp]
@[simp] theorem State.panMode_still (s : State) (m : Nat) : (s.panMode m).still = s.still := by simp [State.panMode]

@[simp] theorem State.enterStep_still (s : State) (k : Nat) : (s.enterStep k).still = s.still := by
  unfold State.enterStep
  (repeat' split) <;> simp

@[simp] theorem State.seqDone_still (s : State) (st : Nat) : (s.seqDone st).still = s.still := by simp [State.seqDone]
@[simp] theorem State.reverseAt_still (s : State) (k : Nat) : (s.reverseAt k).still = s.still := by simp [State.reverseAt]
@[simp] theorem State.startSeq_still (s : State) (k : Nat) : (s.startSeq k).still = s.still := by simp [State.startSeq]

@[simp] theorem State.panelRequest_still (s : State) (on : Bool) : (s.panelRequest on).still = s.still := by
  unfold State.panelRequest
  split <;> simp

@[simp] theorem State.stepEnd_still (s : State) : s.stepEnd.still = s.still := by simp [State.stepEnd]
@[simp] theorem execPanelSequenceStep_still (s : State) : KeepsStill (execPanelSequenceStep s) s := by simp [execPanelSequenceStep]
@[simp] theorem execLaneTraining_still (locks : Nat) (s : State) : KeepsStill (execLaneTraining locks s) s := by simp [execLaneTraining]
@[simp] theorem execLaneLockLoss_still (lane : Nat) (s : State) : KeepsStill (execLaneLockLoss lane s) s := by simp [execLaneLockLoss]
@[simp] theorem State.countRowPoison_still (s : State) (f b : Nat) : (s.countRowPoison f b).still = s.still := by simp [State.countRowPoison]
@[simp] theorem State.checkBand_still (s : State) (f b : Nat) : (s.checkBand f b).still = s.still := by simp [State.checkBand]

@[simp] theorem State.engineScan_still (s : State) (late : Nat) : (s.engineScan late).still = s.still := by
  unfold State.engineScan
  dsimp only
  split <;> simp

@[simp] theorem State.frameMode_still (s : State) : s.frameMode.still = s.still := by
  unfold State.frameMode
  (repeat' split) <;> simp

@[simp] theorem State.fullFrame_still (s : State) (late : List Nat) (torn : Bool) : (s.fullFrame late torn).still = s.still := by
  simp [State.fullFrame]

@[simp] theorem execPanelFrameStart_still (late : List Nat) (torn : Bool) (s : State) : KeepsStill (execPanelFrameStart late torn s) s := by
  simp [execPanelFrameStart]

@[simp] theorem execDisplayFallback_still (s : State) : KeepsStill (execDisplayFallback s) s := by simp [execDisplayFallback]
@[simp] theorem State.panelDoze_still (s : State) : s.panelDoze.still = s.still := by simp [State.panelDoze]
@[simp] theorem State.panelCanopyDown_still (s : State) : s.panelCanopyDown.still = s.still := by simp [State.panelCanopyDown]
@[simp] theorem State.panelLost_still (s : State) : s.panelLost.still = s.still := by simp [State.panelLost]
@[simp] theorem State.panTiming_still (s : State) : s.panTiming.still = s.still := by simp [State.panTiming]
@[simp] theorem State.dspWrite_still (s : State) (off : Nat) (v : W32) : (s.dspWrite off v).still = s.still := by simp [State.dspWrite]
@[simp] theorem State.dspParity_still (s : State) (off : Nat) : (s.dspParity off).still = s.still := by simp [State.dspParity]
@[simp] theorem State.dsWrite_still (s : State) (off : Nat) (v : W32) : (s.dsWrite off v).still = s.still := by simp [State.dsWrite]
@[simp] theorem State.dsParity_still (s : State) (off : Nat) : (s.dsParity off).still = s.still := by simp [State.dsParity]

@[simp] theorem execPanelPowerOn_still (agent : Agent) (mode : Bool) (s : State) : KeepsStill (execPanelPowerOn agent mode s) s := by
  simp [execPanelPowerOn]

@[simp] theorem execPanelPowerOff_still (agent : Agent) (mode : Bool) (s : State) : KeepsStill (execPanelPowerOff agent mode s) s := by
  simp [execPanelPowerOff]

@[simp] theorem execFallbackClear_still (agent : Agent) (value : W32) (s : State) : KeepsStill (execFallbackClear agent value s) s := by
  simp [execFallbackClear]

/-! ### Mailboxes -/

@[simp] theorem State.mbxRefuse_still (s : State) (a : Agent) (m cause : Nat) : (s.mbxRefuse a m cause).still = s.still := by simp [State.mbxRefuse]

@[simp] theorem State.mbxGate_still (s : State) (a : Agent) (off m : Nat) (k : Nat → State → State) (h : ∀ id t, (k id t).still = t.still) :
    (s.mbxGate a off m k).still = s.still := by
  unfold State.mbxGate
  (repeat' split) <;> simp [h]

@[simp] theorem State.mbxStageWrite_still (s : State) (id : Nat) (v : W32) : (s.mbxStageWrite id v).still = s.still := by simp [State.mbxStageWrite]
@[simp] theorem State.mbxPost_still (s : State) (a : Agent) (id m : Nat) (v : W32) : (s.mbxPost a id m v).still = s.still := by simp [State.mbxPost]
@[simp] theorem State.mbxTake_still (s : State) (m : Nat) : (s.mbxTake m).still = s.still := by simp [State.mbxTake]
@[simp] theorem State.mbxStatWrite_still (s : State) (id m : Nat) (v : W32) : (s.mbxStatWrite id m v).still = s.still := by simp [State.mbxStatWrite]
@[simp] theorem State.mbxAbtWrite_still (s : State) (id m : Nat) : (s.mbxAbtWrite id m).still = s.still := by simp [State.mbxAbtWrite]

@[simp] theorem execMailboxStage_still (agent : Agent) (m : Nat) (value : W32) (s : State) : KeepsStill (execMailboxStage agent m value s) s := by
  simp [execMailboxStage]

@[simp] theorem execMailboxPost_still (agent : Agent) (m : Nat) (value : W32) (s : State) : KeepsStill (execMailboxPost agent m value s) s := by
  simp [execMailboxPost]

@[simp] theorem execMailboxTake_still (agent : Agent) (m : Nat) (value : W32) (s : State) : KeepsStill (execMailboxTake agent m value s) s := by
  simp [execMailboxTake]

@[simp] theorem execMailboxAbtClear_still (agent : Agent) (m : Nat) (s : State) : KeepsStill (execMailboxAbtClear agent m s) s := by
  simp [execMailboxAbtClear]

/-! ### Roles of the Dales -/

@[simp] theorem State.setHlt_still (s : State) (h : Health) : (s.setHlt h).still = s.still := by simp [State.setHlt]

@[simp] theorem State.hltEvent_still (s : State) (tag b24 b25 res : Nat) (rec : Option (Nat × Nat)) :
    (s.hltEvent tag b24 b25 res rec).still = s.still := by
  unfold State.hltEvent
  split <;> simp

@[simp] theorem State.setCarry_still (s : State) (c : Nat) : (s.setCarry c).still = s.still := by simp [State.setCarry]
@[simp] theorem State.noCarry_still (s : State) : s.noCarry.still = s.still := by simp [State.noCarry]
@[simp] theorem State.handToken_still (s : State) (owner : Nat) : (s.handToken owner).still = s.still := by simp [State.handToken]

@[simp] theorem State.endPlanned_still (s : State) (st : Nat) : (s.endPlanned st).still = s.still := by
  unfold State.endPlanned
  (repeat' split) <;> simp

@[simp] theorem State.daleHold_still (s : State) (n : Nat) : (s.daleHold n).still = s.still := by simp [State.daleHold]
@[simp] theorem State.daleStart_still (s : State) (n : Nat) (bad : List Nat) : (s.daleStart n bad).still = s.still := by simp [State.daleStart]
@[simp] theorem State.daleNew_still (s : State) (n win : Nat) : (s.daleNew n win).still = s.still := by simp [State.daleNew]
@[simp] theorem State.daleIsolate_still (s : State) (n : Nat) : (s.daleIsolate n).still = s.still := by simp [State.daleIsolate]
@[simp] theorem State.faultHand_still (s : State) (src cause : Nat) : (s.faultHand src cause).still = s.still := by simp [State.faultHand]
@[simp] theorem State.daleFault_still (s : State) (n cause : Nat) : (s.daleFault n cause).still = s.still := by simp [State.daleFault]
@[simp] theorem State.mirRefresh_still (s : State) : s.mirRefresh.still = s.still := by simp [State.mirRefresh]
@[simp] theorem State.mirSync_still (s : State) (n : Nat) (v : Bool) : (s.mirSync n v).still = s.still := by simp [State.mirSync]

@[simp] theorem State.mirFinish_still (s : State) (n : Nat) : (s.mirFinish n).still = s.still := by
  unfold State.mirFinish
  split <;> simp

@[simp] theorem State.mirSwap_still (s : State) : s.mirSwap.still = s.still := by simp [State.mirSwap]

@[simp] theorem State.handRecord_still (s : State) (h : Handover) (dst det : Nat) : (s.handRecord h dst det).still = s.still := by
  simp [State.handRecord]

@[simp] theorem State.handIrqs_still (s : State) (n : Nat) : (s.handIrqs n).still = s.still := by simp [State.handIrqs]

@[simp] theorem State.switchTo_still (s : State) (h : Handover) (n : Nat) : (s.switchTo h n).still = s.still := by
  unfold State.switchTo
  dsimp only
  (repeat' split) <;> simp

@[simp] theorem State.handPrepare_still (s : State) (h : Handover) : (s.handPrepare h).still = s.still := by simp [State.handPrepare]

@[simp] theorem State.handGo_still (s : State) : s.handGo.still = s.still := by
  unfold State.handGo
  split <;> simp

@[simp] theorem State.askHandover_still (s : State) (cause at0 : Nat) (desc : Option Desc) : (s.askHandover cause at0 desc).1.still = s.still := by
  unfold State.askHandover
  split <;> simp

/-! ### Root -/

@[simp] theorem State.setPwr_still (s : State) (p : Pwr) (h : p.st = s.pwr.st ∧ p.step = s.pwr.step ∧ p.turn = s.pwr.turn) :
    (s.setPwr p).still = s.still := by
  simp [State.setPwr, h]

@[simp] theorem State.sysFlag_still (s : State) (stat ie : Fld) : (s.sysFlag stat ie).still = s.still := by simp [State.sysFlag]
@[simp] theorem State.rootSave_still (s : State) (cause : Nat) (ok : Bool) : (s.rootSave cause ok).still = s.still := by simp [State.rootSave]
@[simp] theorem State.wpend_still (s : State) : s.wpend.still = s.still := by simp [State.wpend]
@[simp] theorem State.refreshCopies_still (s : State) : s.refreshCopies.still = s.still := by simp [State.refreshCopies]

@[simp] theorem State.commitLatch_still (s : State) (l : Latch) : (s.commitLatch l).still = s.still := by
  unfold State.commitLatch
  split <;> simp

@[simp] theorem State.calLoad_still (s : State) : s.calLoad.still = s.still := by simp [State.calLoad]
@[simp] theorem State.commitLatches_still (s : State) (p : Latch → Bool) : (s.commitLatches p).still = s.still := by simp [State.commitLatches]
@[simp] theorem State.postRoot_still (s : State) (off : Nat) (v : W32) : (s.postRoot off v).still = s.still := by simp [State.postRoot]
@[simp] theorem State.rootSnap_still (s : State) (b : Nat) : (s.rootSnap b).still = s.still := by simp [State.rootSnap]

@[simp] theorem execRootRegisterWrite_still (agent : Agent) (off : Nat) (value : W32) (s : State) :
    KeepsStill (execRootRegisterWrite agent off value s) s := by
  simp [execRootRegisterWrite]

@[simp] theorem execRootEdge_still (s : State) : KeepsStill (execRootEdge s) s := by simp [execRootEdge]
@[simp] theorem State.commitAll_still (s : State) : s.commitAll.still = s.still := by simp [State.commitAll]
@[simp] theorem execBedRailFallCommit_still (s : State) : KeepsStill (execBedRailFallCommit s) s := by simp [execBedRailFallCommit]
@[simp] theorem execRtdCalload_still (agent : Agent) (value : W32) (s : State) : KeepsStill (execRtdCalload agent value s) s := by simp [execRtdCalload]
@[simp] theorem execRtdSaveNow_still (agent : Agent) (s : State) : KeepsStill (execRtdSaveNow agent s) s := by simp [execRtdSaveNow]

/-! ### Update -/

@[simp] theorem State.writeSlots_still (s : State) (i : PkgItem) (written : Bool) : (s.writeSlots i written).still = s.still := by
  simp [State.writeSlots]

@[simp] theorem State.itemRegs_still (s : State) (l : List PkgItem) : (s.itemRegs l).still = s.still := by
  refine foldl_still _ (fun x k => ?_) _ _
  split <;> simp

@[simp] theorem State.stageFail_still (s : State) (st : Nat) : (s.stageFail st).1.still = s.still := by simp [State.stageFail]

@[simp] theorem State.stage_still (s : State) (d : Desc) (sig : Bool) (fail : Option (Bool × Nat)) : (s.stage d sig fail).1.still = s.still := by
  unfold State.stage
  (repeat' split) <;> simp

@[simp] theorem execStage_still (sig : Bool) (fail : Option (Bool × Nat)) (s : State) : KeepsStill (execStage sig fail s) s := by simp [execStage]
@[simp] theorem State.engineSwitch_still (s : State) (u : Nat) : (s.engineSwitch u).still = s.still := by simp [State.engineSwitch]
@[simp] theorem State.updFall_still (s : State) (u : Nat) : (s.updFall u).still = s.still := by simp [State.updFall]
@[simp] theorem State.cfgPut_still (s : State) (u cfgver : Nat) (body : Bytes) : (s.cfgPut u cfgver body).still = s.still := by simp [State.cfgPut]

@[simp] theorem State.cfgWriteBy_still (s : State) (u : Nat) (body : Bytes) : (s.cfgWriteBy u body).1.still = s.still := by
  unfold State.cfgWriteBy
  dsimp only
  split <;> simp

@[simp] theorem execCfgread_still (s : State) : KeepsStill (execCfgread s) s := by
  unfold execCfgread
  simp only [keepsStill_next]
  split
  refine State.serve_still _ _ _ _ fun d t => ?_
  (repeat' split) <;> simp
  rfl

@[simp] theorem execCfgwrite_still (s : State) : KeepsStill (execCfgwrite s) s := by simp [execCfgwrite]

@[simp] theorem State.nextItem_still (s : State) (r : UpdRun) (i : PkgItem) : (s.nextItem r i).still = s.still := by
  unfold State.nextItem
  (repeat' split) <;> simp

@[simp] theorem State.stopItem_still (s : State) (r : UpdRun) (i : PkgItem) (st : Nat) : (s.stopItem r i st).still = s.still := by
  simp [State.stopItem]

@[simp] theorem State.fuseKeys_still (s : State) : s.fuseKeys.still = s.still := by
  unfold State.fuseKeys
  split <;> simp

@[simp] theorem State.confirmStore_still (s : State) (u : Nat) (saveOk : Bool) : (s.confirmStore u saveOk).still = s.still := by
  simp [State.confirmStore]

@[simp] theorem State.startItem_still (s : State) (r : UpdRun) (i : PkgItem) : (s.startItem r i).still = s.still := by
  unfold State.startItem
  dsimp only
  (repeat' split) <;> simp

@[simp] theorem State.daleStage_still (s : State) (r : UpdRun) (i : PkgItem) : (s.daleStage r i).still = s.still := by
  unfold State.daleStage
  split <;> simp

@[simp] theorem State.confirmed_still (s : State) (u : Nat) : (s.confirmed u).still = s.still := by
  unfold State.confirmed
  dsimp only
  split <;> simp

@[simp] theorem State.updStep_still (s : State) : s.updStep.still = s.still := by
  unfold State.updStep
  (repeat' split) <;> simp

@[simp] theorem State.updGo_still (s : State) (fuel : Nat) : (s.updGo fuel).still = s.still := by
  induction fuel generalizing s with
  | zero => rfl
  | succ k ih => simp [State.updGo, ih]

@[simp] theorem State.updRun_still (s : State) : s.updRun.still = s.still := by simp [State.updRun]

@[simp] theorem execApply_still (icFail : List Nat) (s : State) : KeepsStill (execApply icFail s) s := by
  unfold execApply
  (repeat' split) <;> simp

@[simp] theorem execAbortCmd_still (s : State) : KeepsStill (execAbortCmd s) s := by
  unfold execAbortCmd
  (repeat' split) <;> simp

@[simp] theorem State.updReject_still (s : State) (u cause : Nat) : (s.updReject u cause).still = s.still := by simp [State.updReject]

@[simp] theorem State.confirmGate_still (s : State) (a : Agent) (v : W32) (k : Nat → State → State) (h : ∀ u t, (k u t).still = t.still) :
    (s.confirmGate a v k).still = s.still := by
  simp [State.confirmGate, h]

@[simp] theorem State.confirmUnit_still (s : State) (u : Nat) (saveOk : Bool) : (s.confirmUnit u saveOk).still = s.still := by
  simp [State.confirmUnit]

@[simp] theorem State.confirmSaved_still (s : State) : s.confirmSaved.still = s.still := by simp [State.confirmSaved]

@[simp] theorem execConfirm_still (agent : Agent) (value : W32) (saveOk : Bool) (s : State) : KeepsStill (execConfirm agent value saveOk s) s := by
  simp [execConfirm]

@[simp] theorem execDeclareFailure_still (agent : Agent) (value : W32) (s : State) : KeepsStill (execDeclareFailure agent value s) s := by
  simp [execDeclareFailure]

@[simp] theorem State.updConfirmWrite_still (s : State) (a : Agent) (v : W32) (saveOk : Bool) : (s.updConfirmWrite a v saveOk).still = s.still := by
  simp [State.updConfirmWrite]

@[simp] theorem execProbationExpiry_still (u : Nat) (s : State) : KeepsStill (execProbationExpiry u s) s := by
  unfold execProbationExpiry
  split <;> simp

@[simp] theorem State.deferredWrite_still (s : State) (b : Bytes) (failed : List Nat) : (s.deferredWrite b failed).1.still = s.still := by
  simp [State.deferredWrite]

@[simp] theorem State.deferredTable_still (s : State) (failed : List Nat) : (s.deferredTable failed).still = s.still := by
  unfold State.deferredTable
  split <;> simp

/-! ### Steps of the power sequences -/

@[simp] theorem State.rstEntry_still (s : State) (i cause : Nat) : (s.rstEntry i cause).still = s.still := by simp [State.rstEntry]
@[simp] theorem State.logReset_still (s : State) (cause : Nat) : (s.logReset cause).still = s.still := by simp [State.logReset]
@[simp] theorem State.earlySteps_still (s : State) : s.earlySteps.still = s.still := by simp [State.earlySteps]
@[simp] theorem State.bedPowerUp_still (s : State) : s.bedPowerUp.still = s.still := by simp [State.bedPowerUp]
@[simp] theorem State.bedBoot_still (s : State) (ms : Nat) (bad : List Nat) : (s.bedBoot ms bad).1.still = s.still := by simp [State.bedBoot]
@[simp] theorem State.linksUp_still (s : State) : s.linksUp.still = s.still := by simp [State.linksUp]
@[simp] theorem State.cansUp_still (s : State) : s.cansUp.still = s.still := by simp [State.cansUp]
@[simp] theorem State.enginesStop_still (s : State) : s.enginesStop.still = s.still := by simp [State.enginesStop]

@[simp] theorem State.emptyQueue_still (s : State) (fuel : Nat) : (s.emptyQueue fuel).still = s.still := by
  induction fuel generalizing s with
  | zero => simp [State.emptyQueue]
  | succ k ih =>
    unfold State.emptyQueue
    split
    · (repeat' split) <;> simp_all
    · rfl

@[simp] theorem State.bedSaves_still (s : State) (ok : Bool) : (s.bedSaves ok).still = s.still := by simp [State.bedSaves]

@[simp] theorem State.agentsStart_still (s : State) (bad : List Nat) : (s.agentsStart bad).still = s.still := by
  unfold State.agentsStart
  dsimp only
  (repeat' split) <;> simp

@[simp] theorem State.bridgeClose_still (s : State) : s.bridgeClose.still = s.still := by simp [State.bridgeClose]
@[simp] theorem State.canopyClose_still (s : State) : s.canopyClose.still = s.still := by simp [State.canopyClose]

/-! ### Power sequences -/

@[simp] theorem State.logStep_still (s : State) (n ms : Nat) : (s.logStep n ms).still = s.still := by simp [State.logStep]
@[simp] theorem State.reversed_still (s : State) : s.reversed.still = s.still := by simp [State.reversed]
@[simp] theorem State.sendMgmt_still (s : State) (kind hold : Nat) : (s.sendMgmt kind hold).still = s.still := by simp [State.sendMgmt]
@[simp] theorem State.canopyFailed_still (s : State) : s.canopyFailed.still = s.still := by simp [State.canopyFailed]
@[simp] theorem State.sleepBroken_still (s : State) : s.sleepBroken.still = s.still := by simp [State.sleepBroken]
@[simp] theorem State.wakeLevel_still (s : State) (f : Fld) (v : Bool) : (s.wakeLevel f v).still = s.still := by simp [State.wakeLevel]
@[simp] theorem State.supLog_still (s : State) (event mv : Nat) : (s.supLog event mv).still = s.still := by simp [State.supLog]
@[simp] theorem State.supplyMv_still (s : State) (mv : Nat) : (s.supplyMv mv).still = s.still := by simp [State.supplyMv]
@[simp] theorem execSupplyLow_still (mv : Nat) (s : State) : KeepsStill (execSupplyLow mv s) s := by simp [execSupplyLow]
@[simp] theorem execSupplyHigh_still (mv : Nat) (s : State) : KeepsStill (execSupplyHigh mv s) s := by simp [execSupplyHigh]
@[simp] theorem execButtonStuck_still (s : State) : KeepsStill (execButtonStuck s) s := by simp [execButtonStuck]
@[simp] theorem execButtonUnmask_still (s : State) : KeepsStill (execButtonUnmask s) s := by simp [execButtonUnmask]

/-! ### Health -/

@[simp] theorem State.afterHealth_still (s : State) : s.afterHealth.still = s.still := by simp [State.afterHealth]

@[simp] theorem execEngineCheckError_still (res : Nat) (corrected : Bool) (s : State) : KeepsStill (execEngineCheckError res corrected s) s := by
  unfold execEngineCheckError
  (repeat' split) <;> simp

@[simp] theorem State.lastingAction_still (s : State) (r part : Nat) : (s.lastingAction r part).still = s.still := by
  unfold State.lastingAction
  split <;> simp

@[simp] theorem State.testedReg_still (s : State) (r : Nat) : (s.testedReg r).still = s.still := by simp [State.testedReg]

@[simp] theorem State.testResult_still (s : State) (r part : Nat) (found : Bool) : (s.testResult r part found).1.still = s.still := by
  simp [State.testResult]

@[simp] theorem State.testDone_still (s : State) (r res : Nat) : (s.testDone r res).still = s.still := by simp [State.testDone]

@[simp] theorem State.daleTest_still (s : State) (r part : Nat) (found : Bool) (bad : List Nat) :
    (s.daleTest r part found bad).1.still = s.still := by
  simp [State.daleTest]

@[simp] theorem State.testWaits_still (s : State) (n : Nat) : (s.testWaits n).still = s.still := by simp [State.testWaits]

@[simp] theorem execSelfTest_still (res : Nat) (found : Bool) (part : Nat) (bad : List Nat) (s : State) :
    KeepsStill (execSelfTest res found part bad s) s := by
  unfold execSelfTest
  (repeat' split) <;> simp

@[simp] theorem State.heartbeat_still (s : State) (n : Nat) : (s.heartbeat n).still = s.still := by simp [State.heartbeat]
@[simp] theorem execHeartbeat_still (agent : Agent) (n : Nat) (s : State) : KeepsStill (execHeartbeat agent n s) s := by simp [execHeartbeat]
@[simp] theorem execHeartbeatTimeout_still (n : Nat) (s : State) : KeepsStill (execHeartbeatTimeout n s) s := by simp [execHeartbeatTimeout]

@[simp] theorem State.readyHand_still (s : State) (n : Nat) : (s.readyHand n).still = s.still := by
  unfold State.readyHand
  dsimp only
  (repeat' split) <;> simp

@[simp] theorem State.armed_still (s : State) (n : Nat) : (s.armed n).still = s.still := by
  unfold State.armed
  split <;> simp

@[simp] theorem State.daleMarks_still (s : State) (n : Nat) (was : Bool) : (s.daleMarks n was).still = s.still := by simp [State.daleMarks]
@[simp] theorem State.daleCtlWrite_still (s : State) (n : Nat) (v : W32) : (s.daleCtlWrite n v).still = s.still := by simp [State.daleCtlWrite]

@[simp] theorem execDaleReadyWrite_still (agent : Agent) (n : Nat) (value : W32) (s : State) : KeepsStill (execDaleReadyWrite agent n value s) s := by
  simp [execDaleReadyWrite]

@[simp] theorem execDaleDeclareFail_still (agent : Agent) (n : Nat) (s : State) : KeepsStill (execDaleDeclareFail agent n s) s := by
  simp [execDaleDeclareFail]

@[simp] theorem execDaleCacheError_still (n core : Nat) (unc tagState : Bool) (s : State) : KeepsStill (execDaleCacheError n core unc tagState s) s := by
  simp [execDaleCacheError]

@[simp] theorem State.compare_still (s : State) (k side : Nat) (v : W32) : (s.compare k side v).still = s.still := by
  unfold State.compare
  dsimp only
  (repeat' split) <;> simp

@[simp] theorem execComparisonWrite_still (agent : Agent) (k : Nat) (value : W32) (s : State) : KeepsStill (execComparisonWrite agent k value s) s := by
  simp [execComparisonWrite]

@[simp] theorem State.mirReject_still (s : State) (n cause : Nat) : (s.mirReject n cause).still = s.still := by simp [State.mirReject]

@[simp] theorem State.mirCfgWrite_still (s : State) (n : Nat) (v : W32) (finish : Bool) : (s.mirCfgWrite n v finish).still = s.still := by
  simp [State.mirCfgWrite]

@[simp] theorem State.mirBaseWrite_still (s : State) (n off : Nat) (v : W32) : (s.mirBaseWrite n off v).still = s.still := by
  simp [State.mirBaseWrite]

@[simp] theorem execMirrorRegionEnable_still (agent : Agent) (n : Nat) (value : W32) (finish : Bool) (s : State) :
    KeepsStill (execMirrorRegionEnable agent n value finish s) s := by
  simp [execMirrorRegionEnable]

@[simp] theorem execHandover_still (s : State) : KeepsStill (execHandover s) s := by
  unfold execHandover
  split <;> simp

@[simp] theorem execHandoverSwitch_still (s : State) : KeepsStill (execHandoverSwitch s) s := by
  unfold execHandoverSwitch
  dsimp only
  split <;> simp

@[simp] theorem execHandoverPrepareTimeout_still (s : State) : KeepsStill (execHandoverPrepareTimeout s) s := by
  unfold execHandoverPrepareTimeout
  (repeat' split) <;> simp

@[simp] theorem execTestCmd_still (s : State) : KeepsStill (execTestCmd s) s := by
  unfold execTestCmd
  split <;> simp

@[simp] theorem execToktake_still (s : State) : KeepsStill (execToktake s) s := by
  unfold execToktake
  split <;> simp

@[simp] theorem execTokgive_still (s : State) : KeepsStill (execTokgive s) s := by
  unfold execTokgive
  split <;> simp

@[simp] theorem execTokenHeldOneHour_still (c : Nat) (s : State) : KeepsStill (execTokenHeldOneHour c s) s := by simp [execTokenHeldOneHour]

/-! ### Time with an empty queue -/

@[simp] theorem State.drainOutbound_still (s : State) : s.drainOutbound.still = s.still := by
  unfold State.drainOutbound
  split <;> simp

@[simp] theorem State.rootTime_still (s : State) (n : Nat) : (s.rootTime n).still = s.still := by
  unfold State.rootTime
  dsimp only
  split <;> simp

@[simp] theorem State.opTime_still (s : State) (ns : Nat) : (s.opTime ns).still = s.still := by simp [State.opTime]
@[simp] theorem State.poseAge_still (s : State) : s.poseAge.still = s.still := by simp [State.poseAge]

/-! ### Register accesses by address -/

@[simp] theorem State.snapshot_still (s : State) (a : Agent) (blk : Nat) : (s.snapshot a blk).still = s.still := by
  unfold State.snapshot
  split <;> simp

@[simp] theorem State.safeReg_still (s : State) (key : Nat) : (s.safeReg key).still = s.still := by
  unfold State.safeReg
  split <;> simp

@[simp] theorem State.parityOne_still (s : State) (key : Nat) : (s.parityOne key).still = s.still := by
  unfold State.parityOne
  split <;> simp

@[simp] theorem State.parityFlag_still (s : State) (blk : Nat) (bad : List Nat) : (s.parityFlag blk bad).still = s.still := by
  unfold State.parityFlag
  split <;> simp

@[simp] theorem State.parityEnter_still (s : State) (blk : Nat) : (s.parityEnter blk).still = s.still := by
  unfold State.parityEnter
  dsimp only
  split <;> simp

@[simp] theorem State.upset_still (s : State) (u : Nat × Nat) : (s.upset u).still = s.still := by
  unfold State.upset
  dsimp only
  split <;> simp

@[simp] theorem execParitySweep_still (upsets : List (Nat × Nat)) (s : State) : KeepsStill (execParitySweep upsets s) s := by simp [execParitySweep]
@[simp] theorem State.hltWrite_still (s : State) (off : Nat) (v : W32) : (s.hltWrite off v).still = s.still := by simp [State.hltWrite]

@[simp] theorem State.evrWrite_still (s : State) (a : Agent) (off : Nat) (v : W32) : (s.evrWrite a off v).still = s.still := by
  unfold State.evrWrite
  (repeat' split) <;> simp

@[simp] theorem State.ingWrite_still (s : State) (off : Nat) (v : W32) : (s.ingWrite off v).still = s.still := by simp [State.ingWrite]
@[simp] theorem State.camWrite_still (s : State) (off : Nat) (v : W32) : (s.camWrite off v).still = s.still := by simp [State.camWrite]
@[simp] theorem State.rngWrite_still (s : State) (off : Nat) (v : W32) : (s.rngWrite off v).still = s.still := by simp [State.rngWrite]

@[simp] theorem State.mbxWrite_still (s : State) (a : Agent) (id off : Nat) (v : W32) : (s.mbxWrite a id off v).still = s.still := by
  unfold State.mbxWrite
  (repeat' split) <;> simp

@[simp] theorem State.timed_still (s : State) (key : Nat) : (s.timed key).still = s.still := by
  unfold State.timed
  split <;> simp

@[simp] theorem State.refresh_still (s : State) (key : Nat) : (s.refresh key).still = s.still := by
  unfold State.refresh
  (repeat' split) <;> simp

@[simp] theorem State.bankPeak_still (s : State) (k : Nat) : (s.bankPeak k).still = s.still := by simp [State.bankPeak]

@[simp] theorem State.readWord_still (s : State) (a : Agent) (blk off : Nat) : (s.readWord a blk off).1.still = s.still := by
  unfold State.readWord
  (repeat' split) <;> simp

@[simp] theorem State.readReg_still (s : State) (a : Agent) (blk off : Nat) : (s.readReg a blk off).still = s.still := by simp [State.readReg]

@[simp] theorem State.readAt_still (s : State) (a : Agent) (addr size : Nat) : (s.readAt a addr size).still = s.still := by
  unfold State.readAt
  dsimp only
  (repeat' split) <;> simp

@[simp] theorem execReadClear_still (agent : Agent) (addr size : Nat) (s : State) : KeepsStill (execReadClear agent addr size s) s := by
  simp [execReadClear]

@[simp] theorem State.serviceReads_still (s : State) (addr k n : Nat) : (s.serviceReads addr k n).1.still = s.still := by
  induction n generalizing s addr k with
  | zero => rfl
  | succ n ih =>
    unfold State.serviceReads
    dsimp only
    split <;> simp [ih]

/-! ### Backup cell and Root save -/

@[simp] theorem State.cellCharge_still (s : State) (uah : Nat) : (s.cellCharge uah).still = s.still := by simp [State.cellCharge]

@[simp] theorem State.rebase_still (s : State) (mv : Nat) : (s.rebase mv).still = s.still := by
  unfold State.rebase
  split <;> simp

@[simp] theorem State.saveAndConfirm_still (s : State) (cause : Nat) (ok : Bool) : (s.saveAndConfirm cause ok).still = s.still := by
  simp [State.saveAndConfirm]

@[simp] theorem State.cellLow_still (s : State) (mv : Nat) (ok : Bool) : (s.cellLow mv ok).still = s.still := by simp [State.cellLow]

@[simp] theorem execRootSave_still (ok : Bool) (s : State) : KeepsStill (execRootSave ok s) s := by
  unfold execRootSave
  split <;> simp

/-! ### Furrow instructions -/

@[simp] theorem State.scanNext_still (s : State) (sc : Scan) : (s.scanNext sc).still = s.still := by simp [State.scanNext]
@[simp] theorem State.scanDone_still (s : State) (sc : Scan) : (s.scanDone sc).still = s.still := by simp [State.scanDone]

@[simp] theorem State.furRun_still (s : State) (w : Option Nat) (f : State → Scan → FurOut) (h : ∀ t sc, (f t sc).still t.still = t.still) :
    (s.furRun w f).still = s.still := by
  unfold State.furRun
  split
  · rfl
  · next sc _ =>
    have hf := h s { sc with pc := sc.pc + 1 }
    (repeat' split) <;> simp_all

@[simp] theorem State.furGet_still (s : State) (area : Nat) (sc : Scan) (x : Bool) (i : Nat) (k : Nat → FurOut) (y : Still)
    (h : ∀ a, (k a).still y = y) : (s.furGet area sc x i k).still y = y := by
  simp [State.furGet, h]

@[simp] theorem furFlagOp_still (x : Bool) (i : Nat) (g : Bool → Bool → Bool) (s : State) (sc : Scan) :
    (furFlagOp x i g s sc).still s.still = s.still := State.furGet_still _ _ _ _ _ _ _ fun _ => rfl

@[simp] theorem furFlagSt_still (x : Bool) (i : Nat) (go v : Bool → Bool) (s : State) (sc : Scan) :
    (furFlagSt x i go v s sc).still s.still = s.still := by
  simp [furFlagSt]

@[simp] theorem furAcc_still (g : Scan → Scan) (s : State) (sc : Scan) : (furAcc g s sc).still s.still = s.still := by simp [furAcc]

@[simp] theorem furWordOp_still (x : Bool) (i : Nat) (g : Int → Int → Option Int) (s : State) (sc : Scan) :
    (furWordOp x i g s sc).still s.still = s.still := by
  refine State.furGet_still _ _ _ _ _ _ _ fun a => ?_
  split <;> rfl

@[simp] theorem furCmp_still (x : Bool) (i : Nat) (r : Int → Int → Bool) (s : State) (sc : Scan) :
    (furCmp x i r s sc).still s.still = s.still := State.furGet_still _ _ _ _ _ _ _ fun _ => rfl

@[simp] theorem furWordSt_still (x : Bool) (i : Nat) (go : Bool → Bool) (s : State) (sc : Scan) :
    (furWordSt x i go s sc).still s.still = s.still := by
  simp [furWordSt]

@[simp] theorem furPush_still (op : Nat) (s : State) (sc : Scan) : (furPush op s sc).still s.still = s.still := by simp [furPush]

@[simp] theorem furPop_still (s : State) (sc : Scan) : (furPop s sc).still s.still = s.still := by
  unfold furPop
  split <;> simp

@[simp] theorem furTime_still (i pt : Nat) (g : Timer → Bool → Nat → Nat → Timer) (s : State) (sc : Scan) :
    (furTime i pt g s sc).still s.still = s.still := by
  simp [furTime]

@[simp] theorem furTimeW_still (word i : Nat) (g : Timer → Bool → Nat → Nat → Timer) (s : State) (sc : Scan) :
    (furTimeW word i g s sc).still s.still = s.still := by
  simp [furTimeW]

@[simp] theorem furEdgeOp_still (x : Bool) (i : Nat) (g : Bool → Bool → Bool) (s : State) (sc : Scan) :
    (furEdgeOp x i g s sc).still s.still = s.still := by
  simp [furEdgeOp]

@[simp] theorem furCount_still (word i kind : Nat) (step : Int) (s : State) (sc : Scan) :
    (furCount word i kind step s sc).still s.still = s.still := by
  simp [furCount]

@[simp] theorem furResetTimer_still (i : Nat) (s : State) (sc : Scan) : (furResetTimer i s sc).still s.still = s.still := by simp [furResetTimer]

@[simp] theorem furResetCounter_still (i : Nat) (s : State) (sc : Scan) : (furResetCounter i s sc).still s.still = s.still := by
  simp [furResetCounter]

@[simp] theorem furJump_still (target : Nat) (go : Bool → Bool) (s : State) (sc : Scan) : (furJump target go s sc).still s.still = s.still := by
  simp [furJump]

@[simp] theorem furRepeat_still (n str len : Nat) (s : State) (sc : Scan) : (furRepeat n str len s sc).still s.still = s.still := by simp [furRepeat]
@[simp] theorem furEnd_still (s : State) (sc : Scan) : (furEnd s sc).still s.still = s.still := by simp [furEnd]
@[simp] theorem execFurNop_still (s : State) : KeepsStill (execFurNop s) s := by simp [execFurNop]
@[simp] theorem execFurLd_still (x : Bool) (f : Nat) (s : State) : KeepsStill (execFurLd x f s) s := by simp [execFurLd]
@[simp] theorem execFurLdn_still (x : Bool) (f : Nat) (s : State) : KeepsStill (execFurLdn x f s) s := by simp [execFurLdn]
@[simp] theorem execFurAnd_still (x : Bool) (f : Nat) (s : State) : KeepsStill (execFurAnd x f s) s := by simp [execFurAnd]
@[simp] theorem execFurAndn_still (x : Bool) (f : Nat) (s : State) : KeepsStill (execFurAndn x f s) s := by simp [execFurAndn]
@[simp] theorem execFurOr_still (x : Bool) (f : Nat) (s : State) : KeepsStill (execFurOr x f s) s := by simp [execFurOr]
@[simp] theorem execFurOrn_still (x : Bool) (f : Nat) (s : State) : KeepsStill (execFurOrn x f s) s := by simp [execFurOrn]
@[simp] theorem execFurXor_still (x : Bool) (f : Nat) (s : State) : KeepsStill (execFurXor x f s) s := by simp [execFurXor]
@[simp] theorem execFurSt_still (x : Bool) (f : Nat) (s : State) : KeepsStill (execFurSt x f s) s := by simp [execFurSt]
@[simp] theorem execFurStn_still (x : Bool) (f : Nat) (s : State) : KeepsStill (execFurStn x f s) s := by simp [execFurStn]
@[simp] theorem execFurSet_still (x : Bool) (f : Nat) (s : State) : KeepsStill (execFurSet x f s) s := by simp [execFurSet]
@[simp] theorem execFurRst_still (x : Bool) (f : Nat) (s : State) : KeepsStill (execFurRst x f s) s := by simp [execFurRst]
@[simp] theorem execFurNot_still (s : State) : KeepsStill (execFurNot s) s := by simp [execFurNot]
@[simp] theorem execFurLda_still (bit : Bool) (s : State) : KeepsStill (execFurLda bit s) s := by simp [execFurLda]
@[simp] theorem execFurOpen_still (op : Nat) (s : State) : KeepsStill (execFurOpen op s) s := by simp [execFurOpen]
@[simp] theorem execFurClose_still (s : State) : KeepsStill (execFurClose s) s := by simp [execFurClose]
@[simp] theorem execFurFp_still (x : Bool) (e : Nat) (s : State) : KeepsStill (execFurFp x e s) s := by simp [execFurFp]
@[simp] theorem execFurFn_still (x : Bool) (e : Nat) (s : State) : KeepsStill (execFurFn x e s) s := by simp [execFurFn]
@[simp] theorem execFurTon_still (base count t : Nat) (s : State) : KeepsStill (execFurTon base count t s) s := by simp [execFurTon]
@[simp] theorem execFurTof_still (base count t : Nat) (s : State) : KeepsStill (execFurTof base count t s) s := by simp [execFurTof]
@[simp] theorem execFurTp_still (base count t : Nat) (s : State) : KeepsStill (execFurTp base count t s) s := by simp [execFurTp]
@[simp] theorem execFurTonw_still (word t : Nat) (s : State) : KeepsStill (execFurTonw word t s) s := by simp [execFurTonw]
@[simp] theorem execFurTofw_still (word t : Nat) (s : State) : KeepsStill (execFurTofw word t s) s := by simp [execFurTofw]
@[simp] theorem execFurTpw_still (word t : Nat) (s : State) : KeepsStill (execFurTpw word t s) s := by simp [execFurTpw]
@[simp] theorem execFurRstt_still (t : Nat) (s : State) : KeepsStill (execFurRstt t s) s := by simp [execFurRstt]

@[simp] theorem execFurLdt_still (t : Nat) (s : State) : KeepsStill (execFurLdt t s) s :=
  (keepsStill_next _ _).mpr (State.furRun_still _ _ _ fun _ _ => State.furGet_still _ _ _ _ _ _ _ fun _ => rfl)

@[simp] theorem execFurCtu_still (word c : Nat) (s : State) : KeepsStill (execFurCtu word c s) s := by simp [execFurCtu]
@[simp] theorem execFurCtd_still (word c : Nat) (s : State) : KeepsStill (execFurCtd word c s) s := by simp [execFurCtd]
@[simp] theorem execFurRstc_still (c : Nat) (s : State) : KeepsStill (execFurRstc c s) s := by simp [execFurRstc]

@[simp] theorem execFurLdc_still (c : Nat) (s : State) : KeepsStill (execFurLdc c s) s :=
  (keepsStill_next _ _).mpr (State.furRun_still _ _ _ fun _ _ => State.furGet_still _ _ _ _ _ _ _ fun _ => rfl)

@[simp] theorem execFurLdw_still (x : Bool) (i : Nat) (s : State) : KeepsStill (execFurLdw x i s) s := by simp [execFurLdw]
@[simp] theorem execFurLdi_still (imm : Int) (s : State) : KeepsStill (execFurLdi imm s) s := by simp [execFurLdi]
@[simp] theorem execFurStw_still (x : Bool) (i : Nat) (s : State) : KeepsStill (execFurStw x i s) s := by simp [execFurStw]
@[simp] theorem execFurStwc_still (x : Bool) (i : Nat) (s : State) : KeepsStill (execFurStwc x i s) s := by simp [execFurStwc]
@[simp] theorem execFurAddw_still (x : Bool) (i : Nat) (s : State) : KeepsStill (execFurAddw x i s) s := by simp [execFurAddw]
@[simp] theorem execFurSubw_still (x : Bool) (i : Nat) (s : State) : KeepsStill (execFurSubw x i s) s := by simp [execFurSubw]
@[simp] theorem execFurMulw_still (x : Bool) (i : Nat) (s : State) : KeepsStill (execFurMulw x i s) s := by simp [execFurMulw]
@[simp] theorem execFurDivw_still (x : Bool) (i : Nat) (s : State) : KeepsStill (execFurDivw x i s) s := by simp [execFurDivw]
@[simp] theorem execFurAddi_still (imm : Int) (s : State) : KeepsStill (execFurAddi imm s) s := by simp [execFurAddi]
@[simp] theorem execFurMinw_still (x : Bool) (i : Nat) (s : State) : KeepsStill (execFurMinw x i s) s := by simp [execFurMinw]
@[simp] theorem execFurMaxw_still (x : Bool) (i : Nat) (s : State) : KeepsStill (execFurMaxw x i s) s := by simp [execFurMaxw]
@[simp] theorem execFurAndw_still (x : Bool) (i : Nat) (s : State) : KeepsStill (execFurAndw x i s) s := by simp [execFurAndw]
@[simp] theorem execFurOrw_still (x : Bool) (i : Nat) (s : State) : KeepsStill (execFurOrw x i s) s := by simp [execFurOrw]
@[simp] theorem execFurNeg_still (s : State) : KeepsStill (execFurNeg s) s := by simp [execFurNeg]
@[simp] theorem execFurAbs_still (s : State) : KeepsStill (execFurAbs s) s := by simp [execFurAbs]
@[simp] theorem execFurCeq_still (x : Bool) (i : Nat) (s : State) : KeepsStill (execFurCeq x i s) s := by simp [execFurCeq]
@[simp] theorem execFurCne_still (x : Bool) (i : Nat) (s : State) : KeepsStill (execFurCne x i s) s := by simp [execFurCne]
@[simp] theorem execFurClt_still (x : Bool) (i : Nat) (s : State) : KeepsStill (execFurClt x i s) s := by simp [execFurClt]
@[simp] theorem execFurCle_still (x : Bool) (i : Nat) (s : State) : KeepsStill (execFurCle x i s) s := by simp [execFurCle]
@[simp] theorem execFurCgt_still (x : Bool) (i : Nat) (s : State) : KeepsStill (execFurCgt x i s) s := by simp [execFurCgt]
@[simp] theorem execFurCge_still (x : Bool) (i : Nat) (s : State) : KeepsStill (execFurCge x i s) s := by simp [execFurCge]
@[simp] theorem execFurCeqi_still (imm : Int) (s : State) : KeepsStill (execFurCeqi imm s) s := by simp [execFurCeqi]
@[simp] theorem execFurCnei_still (imm : Int) (s : State) : KeepsStill (execFurCnei imm s) s := by simp [execFurCnei]
@[simp] theorem execFurClti_still (imm : Int) (s : State) : KeepsStill (execFurClti imm s) s := by simp [execFurClti]
@[simp] theorem execFurClei_still (imm : Int) (s : State) : KeepsStill (execFurClei imm s) s := by simp [execFurClei]
@[simp] theorem execFurCgti_still (imm : Int) (s : State) : KeepsStill (execFurCgti imm s) s := by simp [execFurCgti]
@[simp] theorem execFurCgei_still (imm : Int) (s : State) : KeepsStill (execFurCgei imm s) s := by simp [execFurCgei]

@[simp] theorem execFurLdte_still (t : Nat) (s : State) : KeepsStill (execFurLdte t s) s :=
  (keepsStill_next _ _).mpr (State.furRun_still _ _ _ fun _ _ => State.furGet_still _ _ _ _ _ _ _ fun _ => rfl)

@[simp] theorem execFurLdcv_still (c : Nat) (s : State) : KeepsStill (execFurLdcv c s) s :=
  (keepsStill_next _ _).mpr (State.furRun_still _ _ _ fun _ _ => State.furGet_still _ _ _ _ _ _ _ fun _ => rfl)

@[simp] theorem execFurLdx_still (s : State) : KeepsStill (execFurLdx s) s := by simp [execFurLdx]
@[simp] theorem execFurJmp_still (target : Nat) (s : State) : KeepsStill (execFurJmp target s) s := by simp [execFurJmp]
@[simp] theorem execFurJc_still (target : Nat) (s : State) : KeepsStill (execFurJc target s) s := by simp [execFurJc]
@[simp] theorem execFurJnc_still (target : Nat) (s : State) : KeepsStill (execFurJnc target s) s := by simp [execFurJnc]
@[simp] theorem execFurRep_still (src : Bool) (count str len : Nat) (s : State) : KeepsStill (execFurRep src count str len s) s := by simp [execFurRep]
@[simp] theorem execFurEnd_still (s : State) : KeepsStill (execFurEnd s) s := by simp [execFurEnd]

/-! ### Guidance -/

@[simp] theorem State.setGuide_still (s : State) (g : GuideFw) : (s.setGuide g).still = s.still := by simp [State.setGuide]
@[simp] theorem State.gfRead_still (s : State) : s.gfRead.still = s.still := by simp [State.gfRead]
@[simp] theorem State.daleWrite_still (s : State) (a : Nat) (b : Bytes) : (s.daleWrite a b).still = s.still := by simp [State.daleWrite]
@[simp] theorem State.coreStore_still (s : State) (a : Nat) (b : Bytes) : (s.coreStore a b).still = s.still := by simp [State.coreStore]

@[simp] theorem State.takeMessage_still (s : State) (g : Int) (fr : Bytes) : (s.takeMessage g fr).1.still = s.still := by
  unfold State.takeMessage
  dsimp only
  split <;> simp

@[simp] theorem State.intake_still (s : State) (c : GuideCfg) (g : Int) : (s.intake c g).1.still = s.still := by simp [State.intake]

@[simp] theorem State.firmwarePose_still (s : State) (t : Nat) (g : GuideIn) (o : Vec) (yaw speed : Frac) (tilt : Option (Frac × Frac)) (fix : Nat) :
    (s.firmwarePose t g o yaw speed tilt fix).still = s.still := by
  simp [State.firmwarePose]

@[simp] theorem State.guideRecord_still (s : State) (dale : Agent) (c : GuideCfg) (e : EpochRead) (moved : Bool) (g : GuideIn) :
    (s.guideRecord dale c e moved g).still = s.still := by
  simp [State.guideRecord]

@[simp] theorem execGuidanceRecord_still (g : GuideIn) (s : State) : KeepsStill (execGuidanceRecord g s) s := by
  unfold execGuidanceRecord
  dsimp only
  (repeat' split) <;> simp

/-! ### The power chapter: what its operations leave alone -/

@[simp] theorem State.fixed_mk (s : State) (bedOn canopyOn : Bool) (now : Nat) (regs : SMap W32) (rootRegs : SMap W32) (latches : List Latch) (wide : SMap Nat) (banks : SMap W32) (badParity : List Nat)
    (mem : Memory) (resp : Resp) (irqs : List Irq) (free : Nat) (fab : Fab) (bridge : Bridge) (rings : SMap Ring) (mbxStage : SMap W32)
    (held : List Nat) (mbxOwed : List (Nat × Nat)) (evr : Evr) (tim : Timing) (toks : SMap Token) (ing : Ingest) (cam : Camera)
    (pra : Prairie) (prod : Products) (gns : Gnss) (trl : Trellis) (fur : Furrow) (vlv : Valves) (lsw : Switches) (outs : Outs) (can : Cans)
    (eth : Eth) (pan : Panel) (dram : Dram) (nand : Nand) (traps : SMap CoreTrap) (ter : Terrace) (pce : Pce) (pwr : Pwr) (hlt : Health)
    (upd : Upd) :
    (State.still (State.mk s.code s.hwrev s.rootOn bedOn canopyOn now regs rootRegs latches wide banks badParity mem resp irqs free fab bridge rings
    mbxStage held mbxOwed evr tim toks ing cam pra prod gns trl fur vlv lsw outs can eth pan dram nand traps ter pce pwr hlt upd s.pending)).fixed = s.still.fixed := by
  simp only [State.still, Still.fixed]

@[simp] theorem Still.fixed_ite (c : Prop) [Decidable c] (x y : Still) : (if c then x else y).fixed = if c then x.fixed else y.fixed :=
  apply_ite _ _ _ _

@[simp] theorem foldl_fixed {α : Type} (f : State → α → State) (h : ∀ x a, (f x a).still.fixed = x.still.fixed) (l : List α) (s : State) :
    (l.foldl f s).still.fixed = s.still.fixed := by
  induction l generalizing s with
  | nil => rfl
  | cons a l ih => rw [List.foldl_cons, ih, h]

@[simp] theorem State.setPwr_fixed (s : State) (p : Pwr) : (s.setPwr p).still.fixed = s.still.fixed := by simp [State.setPwr]

@[simp] theorem State.gate_fixed (s : State) (a : Agent) (blk off : Nat) (k : State → State)
    (h : ∀ t, (k t).still.fixed = t.still.fixed) : (s.gate a blk off k).still.fixed = s.still.fixed := by
  simp [State.gate, h]

/-! #### Pace and time -/

@[simp] theorem State.canopyDark_fixed (s : State) : s.canopyDark.still.fixed = s.still.fixed := by simp [State.canopyDark]

/-! #### Steps of the power sequences -/

@[simp] theorem State.bedReset_fixed (s : State) (reset : Bool) : (s.bedReset reset).still.fixed = s.still.fixed := by simp [State.bedReset]
@[simp] theorem State.sundialStart_fixed (s : State) : s.sundialStart.still.fixed = s.still.fixed := by simp [State.sundialStart]
@[simp] theorem State.canopyReset_fixed (s : State) : s.canopyReset.still.fixed = s.still.fixed := by simp [State.canopyReset]

/-! #### Power sequences -/

@[simp] theorem State.setStep_fixed (s : State) (n : Nat) : (s.setStep n).still.fixed = s.still.fixed := by simp [State.setStep]
@[simp] theorem State.setTurn_fixed (s : State) (n : Option Nat) : (s.setTurn n).still.fixed = s.still.fixed := by simp [State.setTurn]

@[simp] theorem State.pwrEnter_fixed (s : State) (n : Nat) : (s.pwrEnter n).still.fixed = s.still.fixed := by
  unfold State.pwrEnter
  split <;> simp

@[simp] theorem State.sleepReq_fixed (s : State) : s.sleepReq.still.fixed = s.still.fixed := by simp [State.sleepReq]
@[simp] theorem State.startSleep_fixed (s : State) : s.startSleep.still.fixed = s.still.fixed := by simp [State.startSleep]
@[simp] theorem State.goSleep_fixed (s : State) : s.goSleep.still.fixed = s.still.fixed := by simp [State.goSleep]
@[simp] theorem State.kick_fixed (s : State) : s.kick.still.fixed = s.still.fixed := by simp [State.kick]
@[simp] theorem State.wakeAccept_fixed (s : State) (src : Nat) : (s.wakeAccept src).still.fixed = s.still.fixed := by simp [State.wakeAccept]
@[simp] theorem State.stateReached_fixed (s : State) (st : Nat) : (s.stateReached st).still.fixed = s.still.fixed := by simp [State.stateReached]
@[simp] theorem State.enterDoze_fixed (s : State) : s.enterDoze.still.fixed = s.still.fixed := by simp [State.enterDoze]
@[simp] theorem State.enterField_fixed (s : State) : s.enterField.still.fixed = s.still.fixed := by simp [State.enterField]
@[simp] theorem State.bedGone_fixed (s : State) : s.bedGone.still.fixed = s.still.fixed := by simp [State.bedGone]
@[simp] theorem State.enterArmed_fixed (s : State) : s.enterArmed.still.fixed = s.still.fixed := by simp [State.enterArmed]

@[simp] theorem State.goStep_fixed (s : State) (m : Nat) : (s.goStep m).still.fixed = s.still.fixed := by
  unfold State.goStep
  split <;> simp

@[simp] theorem State.stepEffect_fixed (s : State) (q : SeqIn) (n ms : Nat) : (s.stepEffect q n ms).1.still.fixed = s.still.fixed := by
  unfold State.stepEffect
  split <;> simp

@[simp] theorem State.endStep_fixed (s : State) (q : SeqIn) (ms : Nat) : (s.endStep q ms).still.fixed = s.still.fixed := by simp [State.endStep]

@[simp] theorem State.runSteps_fixed (lo hi : Nat) (q : SeqIn) (l : List Nat) (s : State) :
    (State.runSteps lo hi q l s).still.fixed = s.still.fixed := by
  induction l generalizing s with
  | nil => rfl
  | cons ms r ih => simp [State.runSteps, ih]

@[simp] theorem execBedUp_fixed (q : SeqIn) (s : State) : KeepsFixed (execBedUp q s) s := by simp [execBedUp]
@[simp] theorem execBedDown_fixed (q : SeqIn) (s : State) : KeepsFixed (execBedDown q s) s := by simp [execBedDown]
@[simp] theorem execCanopyUp_fixed (q : SeqIn) (s : State) : KeepsFixed (execCanopyUp q s) s := by simp [execCanopyUp]

@[simp] theorem execCanopyUpRetry_fixed (q : SeqIn) (s : State) : KeepsFixed (execCanopyUpRetry q s) s := by
  unfold execCanopyUpRetry
  split <;> simp

@[simp] theorem execCanopyDown_fixed (q : SeqIn) (s : State) : KeepsFixed (execCanopyDown q s) s := by simp [execCanopyDown]
@[simp] theorem State.graceEnds_fixed (s : State) : s.graceEnds.still.fixed = s.still.fixed := by simp [State.graceEnds]
@[simp] theorem execCanopyGraceTimeout_fixed (s : State) : KeepsFixed (execCanopyGraceTimeout s) s := by simp [execCanopyGraceTimeout]
@[simp] theorem State.steer_fixed (s : State) : s.steer.still.fixed = s.still.fixed := by simp [State.steer]
@[simp] theorem State.powerRequest_fixed (s : State) (v : Nat) : (s.powerRequest v).still.fixed = s.still.fixed := by simp [State.powerRequest]
@[simp] theorem State.wakeRequest_fixed (s : State) (ign : Bool) : (s.wakeRequest ign).still.fixed = s.still.fixed := by simp [State.wakeRequest]

@[simp] theorem State.pwrreqWrite_fixed (s : State) (a : Agent) (v : W32) : (s.pwrreqWrite a v).still.fixed = s.still.fixed := by
  simp [State.pwrreqWrite]

@[simp] theorem execPwrreqTarget_fixed (agent : Agent) (value : W32) (s : State) : KeepsFixed (execPwrreqTarget agent value s) s := by
  simp [execPwrreqTarget]

@[simp] theorem execPwrreqGo_fixed (agent : Agent) (value : W32) (s : State) : KeepsFixed (execPwrreqGo agent value s) s := by simp [execPwrreqGo]
@[simp] theorem execIgnitionRise_fixed (s : State) : KeepsFixed (execIgnitionRise s) s := by simp [execIgnitionRise]

@[simp] theorem execIgnitionOffTimeout_fixed (since : Nat) (s : State) : KeepsFixed (execIgnitionOffTimeout since s) s := by
  simp [execIgnitionOffTimeout]

@[simp] theorem execWake_fixed (src : Nat) (s : State) : KeepsFixed (execWake src s) s := by simp [execWake]

@[simp] theorem execWakeTimerExpiry_fixed (s : State) : KeepsFixed (execWakeTimerExpiry s) s := by
  unfold execWakeTimerExpiry
  split <;> simp

@[simp] theorem execWakeInputEdge_fixed (n : Nat) (rising : Bool) (s : State) : KeepsFixed (execWakeInputEdge n rising s) s := by
  simp [execWakeInputEdge]

@[simp] theorem execSelectiveWake_fixed (c : Nat) (id : Option Nat) (s : State) : KeepsFixed (execSelectiveWake c id s) s := by
  unfold execSelectiveWake
  split <;> simp

@[simp] theorem execSleepHold_fixed (s : State) : KeepsFixed (execSleepHold s) s := by simp [execSleepHold]

@[simp] theorem execKeepawake_fixed (c : Nat) (s : State) : KeepsFixed (execKeepawake c s) s := by
  unfold execKeepawake
  split <;> simp

@[simp] theorem execSleepHoldExpiry_fixed (s : State) : KeepsFixed (execSleepHoldExpiry s) s := by simp [execSleepHoldExpiry]
@[simp] theorem execSleepWaitExpiry_fixed (s : State) : KeepsFixed (execSleepWaitExpiry s) s := by simp [execSleepWaitExpiry]
@[simp] theorem execLateWake_fixed (c : Nat) (s : State) : KeepsFixed (execLateWake c s) s := by simp [execLateWake]
@[simp] theorem State.railsFall_fixed (s : State) : s.railsFall.still.fixed = s.still.fixed := by simp [State.railsFall]

@[simp] theorem execSupplyFailure_fixed (mv : Nat) (saveOk : Bool) (s : State) : KeepsFixed (execSupplyFailure mv saveOk s) s := by
  simp [execSupplyFailure]

@[simp] theorem execSupplyReturn_fixed (mv : Nat) (s : State) : KeepsFixed (execSupplyReturn mv s) s := by simp [execSupplyReturn]
@[simp] theorem State.canopyCut_fixed (s : State) : s.canopyCut.still.fixed = s.still.fixed := by simp [State.canopyCut]

@[simp] theorem State.moduleReset_fixed (s : State) (cause : Nat) (q : SeqIn) : (s.moduleReset cause q).still.fixed = s.still.fixed := by
  simp [State.moduleReset]

@[simp] theorem State.canopyRestart_fixed (s : State) (cause : Nat) (q : SeqIn) : (s.canopyRestart cause q).still.fixed = s.still.fixed := by
  simp [State.canopyRestart]

@[simp] theorem State.rstcmdWrite_fixed (s : State) (v : W32) (q : SeqIn) : (s.rstcmdWrite v q).still.fixed = s.still.fixed := by
  unfold State.rstcmdWrite
  (repeat' split) <;> simp

@[simp] theorem execModuleReset_fixed (agent : Agent) (value : W32) (q : SeqIn) (s : State) : KeepsFixed (execModuleReset agent value q s) s := by
  simp [execModuleReset]

@[simp] theorem execCanopyRestart_fixed (agent : Agent) (value : W32) (q : SeqIn) (s : State) : KeepsFixed (execCanopyRestart agent value q s) s := by
  simp [execCanopyRestart]

@[simp] theorem execResetButton_fixed (released : Bool) (q : SeqIn) (s : State) : KeepsFixed (execResetButton released q s) s := by
  simp [execResetButton]

@[simp] theorem execThermalShed_fixed (s : State) : KeepsFixed (execThermalShed s) s := by simp [execThermalShed]

@[simp] theorem execThermalReturn_fixed (s : State) : KeepsFixed (execThermalReturn s) s := by
  unfold execThermalReturn
  split <;> simp

@[simp] theorem execThermalCut_fixed (sensor : Option Nat) (q : SeqIn) (s : State) : KeepsFixed (execThermalCut sensor q s) s := by
  unfold execThermalCut
  dsimp only
  (repeat' split) <;> simp

@[simp] theorem execDeferredFstableWrite_fixed (failed : List Nat) (s : State) : KeepsFixed (execDeferredFstableWrite failed s) s := by
  simp [execDeferredFstableWrite]

/-! #### Health -/

@[simp] theorem execNoDaleRestart_fixed (q : SeqIn) (s : State) : KeepsFixed (execNoDaleRestart q s) s := by
  unfold execNoDaleRestart
  split <;> simp

/-! #### Register accesses by address -/

@[simp] theorem State.regAct_fixed (s : State) (a : Agent) (blk off : Nat) (v : W32) : (s.regAct a blk off v).still.fixed = s.still.fixed := by
  unfold State.regAct
  (repeat' split) <;> simp

@[simp] theorem State.regEffect_fixed (s : State) (a : Agent) (blk off : Nat) (v : W32) : (s.regEffect a blk off v).still.fixed = s.still.fixed := by
  simp [State.regEffect]

@[simp] theorem State.writeReg_fixed (s : State) (a : Agent) (blk off : Nat) (v : W32) : (s.writeReg a blk off v).still.fixed = s.still.fixed := by
  simp [State.writeReg]

@[simp] theorem State.writeAt_fixed (s : State) (a : Agent) (addr size value : Nat) : (s.writeAt a addr size value).still.fixed = s.still.fixed := by
  unfold State.writeAt
  split <;> simp

@[simp] theorem execRegisterWrite_fixed (agent : Agent) (addr size value : Nat) (s : State) :
    KeepsFixed (execRegisterWrite agent addr size value s) s := by
  simp [execRegisterWrite]

@[simp] theorem execSnapshot_fixed (agent : Agent) (block : Nat) (value : W32) (s : State) : KeepsFixed (execSnapshot agent block value s) s := by
  unfold execSnapshot
  split <;> simp

@[simp] theorem State.serviceWrites_fixed (s : State) (addr k : Nat) (b : Bytes) (n : Nat) :
    (s.serviceWrites addr k b n).1.still.fixed = s.still.fixed := by
  induction n generalizing s addr k b with
  | zero => rfl
  | succ n ih => 
    unfold State.serviceWrites
    dsimp only
    split <;> simp [ih]

@[simp] theorem State.service_fixed (s : State) (f : EthFrame) (op : Nat) : (s.service f op).still.fixed = s.still.fixed := by
  unfold State.service
  (repeat' split) <;> simp

@[simp] theorem execServiceRead_fixed (f : EthFrame) (s : State) : KeepsFixed (execServiceRead f s) s := by simp [execServiceRead]
@[simp] theorem execServiceWrite_fixed (f : EthFrame) (s : State) : KeepsFixed (execServiceWrite f s) s := by simp [execServiceWrite]

/-! ### Every command -/

/-- A write of a register outside SYS stays outside the power chapter: only SYS_PWRREQ and SYS_RSTCMD reach it. -/
theorem State.regAct_still {blk : Nat} (h : blk ≠ 0) (s : State) (a : Agent) (off : Nat) (v : W32) :
    (s.regAct a blk off v).still = s.still := by
  unfold State.regAct
  dsimp only
  split
  · rfl
  · split
    · split <;> simp
    · split
      · exact absurd rfl h
      all_goals (repeat' split) <;> simp

theorem State.regEffect_still {blk : Nat} (h : blk ≠ 0) (s : State) (a : Agent) (off : Nat) (v : W32) :
    (s.regEffect a blk off v).still = s.still := by
  simp [State.regEffect, State.regAct_still h]

@[simp] theorem execSnapshot_still (agent : Agent) (block : Nat) (value : W32) (s : State) : KeepsStill (execSnapshot agent block value s) s := by
  refine (keepsStill_next _ _).mpr ?_
  split
  · next k hk =>
    have hb : block ≠ 0 := by
      rintro rfl
      cases hk
    simp [State.regEffect_still hb]
  · simp

theorem State.fused_of_still {s t : State} (h : t.still = s.still) : t.code = s.code ∧ t.hwrev = s.hwrev ∧ t.pending = s.pending :=
  ⟨congrArg Still.code h, congrArg Still.hwrev h, congrArg Still.pending h⟩

theorem execRootPowerOn_fused (s : State) :
    ∃ t, execRootPowerOn s = .next t ∧ t.code = s.code ∧ t.hwrev = s.hwrev ∧ t.pending = s.pending := by
  refine ⟨_, rfl, ?_⟩
  split
  · exact ⟨rfl, rfl, rfl⟩
  · extract_lets v _ evr pwr _ upd _ t u w
    exact State.fused_of_still (s := t) (by simp [w, u])

theorem execCellMeasure_fused (mv : Nat) (dq : Int) (saveOk : Bool) (s : State) :
    ∃ t, execCellMeasure mv dq saveOk s = .next t ∧ t.code = s.code ∧ t.hwrev = s.hwrev ∧ t.pending = s.pending := by
  refine ⟨_, rfl, ?_⟩
  split
  · exact ⟨rfl, rfl, rfl⟩
  · extract_lets v t1 t2 charging t3 p t4 below run q t5 t6 t7
    have h3 : t3.still = s.still := by simp [t3, t2, t1]
    clear_value t3
    have h4 : t4.still = s.still := by simp [t4, p, h3]
    clear_value t4
    have h7 : t7.still = s.still := by simp [t7, t6, t5, q, h4]
    clear_value t7
    obtain ⟨hc, hh, hp⟩ := State.fused_of_still h7
    split <;> exact ⟨hc, hh, hp⟩

/-- Every command outside the power chapter completes and leaves alone what only that chapter changes. -/
theorem exec_still {c : Instr} (h : c.movesPower = false) (s : State) : KeepsStill (exec c s) s := by
  cases c <;> simp [Instr.movesPower, exec] at h ⊢

/-- Every command of the power chapter but CELL_MEASURE and ROOT_POWER_ON leaves alone what is fused, Root's power and the queue. -/
theorem exec_fixed {c : Instr} (h : c.movesRoot = false) (hp : c.movesPower = true) (s : State) : KeepsFixed (exec c s) s := by
  cases c <;> simp [Instr.movesPower, Instr.movesRoot, exec] at h hp ⊢

/-- CELL_MEASURE and ROOT_POWER_ON leave alone what is fused and the queue. -/
theorem exec_fused {c : Instr} (h : c.movesRoot = true) (s : State) :
    ∃ t, exec c s = .next t ∧ t.code = s.code ∧ t.hwrev = s.hwrev ∧ t.pending = s.pending := by
  cases c <;> simp only [Instr.movesRoot, Bool.false_eq_true] at h
  · exact execCellMeasure_fused _ _ _ s
  · exact execRootPowerOn_fused s

/-- Settles O9: by the lemma of each command. -/
theorem moduleFrame : Obligations.ModuleFrame := by
  intro c s
  cases hp : c.movesPower with
  | false =>
    obtain ⟨t, ht, h⟩ := exec_still hp s
    simp only [State.still, Still.mk.injEq] at h
    obtain ⟨hcode, hrev, hroot, hbed, hcan, hnow, hpend, hst, hstep, hturn⟩ := h
    exact ⟨t, ht, hcode, hrev, hpend, fun _ => hroot, fun _ => ⟨hbed, hcan, hnow, hst, hstep, hturn⟩⟩
  | true =>
    cases hr : c.movesRoot with
    | false =>
      obtain ⟨t, ht, h⟩ := exec_fixed hr hp s
      simp only [State.still, Still.fixed, Prod.mk.injEq] at h
      obtain ⟨hcode, hrev, hroot, hpend⟩ := h
      exact ⟨t, ht, hcode, hrev, hpend, fun _ => hroot, nofun⟩
    | true =>
      obtain ⟨t, ht, hcode, hrev, hpend⟩ := exec_fused hr s
      exact ⟨t, ht, hcode, hrev, hpend, nofun, nofun⟩
end Sys2Proof.Machine
end

section
/-! SUPPORT. The reset state, and a step: the command in front, or one tick of time. -/

namespace Sys2Proof.Machine

/-- The register map after reset lists nothing, so a register reads its reset word. -/
theorem State.reset_reg (key : Nat) : State.reset.reg key = regReset State.reset.code State.reset.hwrev key := rfl

/-- A register with no special reset value reads, after reset, the word of its field table. -/
theorem regReset_of_findReg {code : Code} {hwrev key : Nat} {d : RegDesc} (hd : findReg (key / 0x1000) (key % 0x1000) = some d)
    (hs : specialReset code hwrev key = none) (hl : (arrayIdx key (Reg.LSW_CHn_CTL 0) 0x10 64).isSome = false) :
    regReset code hwrev key = d.resetWord := by
  simp [regReset, hs, hd, hl]

/-- Settles O2: nothing is listed after reset, and a register reads the word of its field table. -/
theorem resetState : Obligations.ResetState := by
  refine ⟨rfl, rfl, rfl, rfl, rfl, fun _ => rfl, fun blk off d hoff hd hs hl => ?_⟩
  have hblk : (blk * 0x1000 + off) / 0x1000 = blk := by omega
  have hmod : (blk * 0x1000 + off) % 0x1000 = off := by omega
  exact (State.reset_reg _).trans (regReset_of_findReg (by rw [hblk, hmod, hd]) hs hl)

/-- Where Bed runs, a tick advances Sundial by 8 ns and leaves the queue alone. -/
theorem State.tick_of_bedOn {s : State} (hr : s.rootOn = true) (hb : s.bedOn = true) :
    s.tick.still = { s.still with now := s.now + 8 } := by
  rw [State.tick, if_neg (by simp [hr]), if_pos hb]
  simp only [State.drainOutbound_still, State.poseAge_still, State.camAge_still, State.timersDue_still, State.opTime_still,
    State.rootTime_still]
  rfl

/-- Settles O1: a step is `exec` of the command in front, or a tick where none waits. -/
theorem stepRunsTheFrontCommand : Obligations.StepRunsTheFrontCommand := by
  refine ⟨fun s c rest h => step_cons c rest s h, step_nil, fun s hp hr => ?_, fun s hp hr hb => ?_⟩
  · rw [step_nil s hp, State.tick, if_pos hr]
  · have h := State.tick_of_bedOn hr hb
    exact ⟨_, step_nil s hp, congrArg Still.now h, (congrArg Still.pending h).trans hp⟩

end Sys2Proof.Machine
end

section
/-! SUPPORT. A register write that finds its register's parity mismatch pending. -/

namespace Sys2Proof.Machine

/-- Bed powered, with the parity bit of SYS_PWRCFG standing wrong. -/
def pwrcfgParityWrong : State := { State.reset with bedOn := true, badParity := [Reg.SYS_PWRCFG] }

/-- The word 0 gives CANGRACE of SYS_PWRCFG an encoding its field table does not list. -/
theorem pwrcfg_zero_unlisted {d : RegDesc} (hd : findReg 0x00 Reg.SYS_PWRCFG = some d) :
    d.listed 0 = false := by
  have h : (findReg 0x00 Reg.SYS_PWRCFG).map (fun d => d.listed 0) = some false := by decide
  simpa [hd] using h

/-- A write of 0 to SYS_PWRCFG changes no bit of it, yet its parity bit is computed again. -/
theorem pwrcfg_zero_reparity :
    (pwrcfgParityWrong.writeAt .trellisSeq (regSpace + Reg.SYS_PWRCFG) 32 0).badParity = [] := by
  decide

/-- Refutes O10: its first clause asks that an unlisted write to a register of SYS change nothing, but where the register's parity
mismatch is pending, the write computes its parity bit again and the mismatch is gone. -/
theorem not_registerAccessesComplete : ¬ Obligations.RegisterAccessesComplete := by
  intro h
  obtain ⟨hsys, -⟩ := h
  obtain ⟨d, hd⟩ : ∃ d, findReg 0x00 Reg.SYS_PWRCFG = some d := Option.isSome_iff_exists.mp (by decide)
  obtain ⟨t, ht, hdone⟩ := hsys pwrcfgParityWrong .trellisSeq (regSpace + Reg.SYS_PWRCFG) 0 Reg.SYS_PWRCFG d
    (by decide) (by decide) hd (by decide) (by decide)
  rw [if_neg (Bool.eq_false_iff.mp (pwrcfg_zero_unlisted hd))] at hdone
  cases ht
  have hbad : [] = [Reg.SYS_PWRCFG] := pwrcfg_zero_reparity.symm.trans (congrArg State.badParity hdone)
  cases hbad

end Sys2Proof.Machine
end

section
/-! SUPPORT. The power state stays sound (R12, R49, R469, R474-R479): what each operation of the power chapter makes of the powered domains,
the step and its reversal, and that every command keeps them as the spec gives them. -/

namespace Sys2Proof.Machine

/-- `State.powerSound` speaks only of what the power chapter changes. -/
def Still.sound (x : Still) : Prop :=
  ((x.canopyOn = true → x.bedOn = true) ∧ (x.bedOn = true → x.rootOn = true)) ∧ x.now % 8 = 0 ∧
    stepLegal x.st x.step x.turn x.bedOn x.canopyOn = true ∧ (x.rootOn = false → x.st = 0)

theorem State.powerSound_iff (s : State) : s.powerSound ↔ s.still.sound := Iff.rfl

theorem powerSound_of_still {s t : State} (h : t.still = s.still) (hs : s.powerSound) : t.powerSound := by
  rw [State.powerSound_iff, h]; exact hs

/-! ### The power state in terms of what only the power chapter changes -/

theorem State.pwr_st (s : State) : s.pwr.st = s.still.st := rfl
theorem State.pwr_step (s : State) : s.pwr.step = s.still.step := rfl
theorem State.pwr_turn (s : State) : s.pwr.turn = s.still.turn := rfl
theorem State.rootOn_eq (s : State) : s.rootOn = s.still.rootOn := rfl
theorem State.bedOn_eq (s : State) : s.bedOn = s.still.bedOn := rfl
theorem State.canopyOn_eq (s : State) : s.canopyOn = s.still.canopyOn := rfl

theorem State.setPwr_still_eq (s : State) (p : Pwr) :
    (s.setPwr p).still = { s.still with st := p.st, step := p.step, turn := p.turn } := rfl

/-! ### What the operations of the power chapter do to it -/

@[simp] theorem State.setStep_still (s : State) (n : Nat) : (s.setStep n).still = { s.still with step := n } := by
  unfold State.setStep
  dsimp only
  split
  · rw [State.wr_still]; rfl
  · rfl

@[simp] theorem State.setTurn_still (s : State) (n : Option Nat) : (s.setTurn n).still = { s.still with turn := n } := rfl

/-- CD1 takes no time, so CD2 is entered in its place. -/
@[simp] theorem State.pwrEnter_still (s : State) (n : Nat) :
    (s.pwrEnter n).still = { s.still with step := if n = 0x12 then 0x13 else n, turn := none } := by
  unfold State.pwrEnter
  split <;> simp_all

@[simp] theorem State.stateReached_still (s : State) (st : Nat) :
    (s.stateReached st).still = { s.still with st := st, step := 0, turn := none } := by
  simp only [State.stateReached, State.flag_still, State.setTurn_still, State.wr_still, State.setPwr_still_eq, State.pwr_step,
    State.setStep_still]

theorem State.bedGone_still (s : State) : s.bedGone.still = { s.still with st := 1, step := 0, turn := none } := by
  simp only [State.bedGone, State.setPwr_still_eq, State.commitAll_still]

theorem State.sundialStart_still (s : State) : ∃ n, n % 8 = 0 ∧ s.sundialStart.still = { s.still with now := n } :=
  ⟨_, Nat.mul_mod_left _ 8, rfl⟩

theorem State.still_bedOn (s : State) (b : Bool) : ({ s with bedOn := b } : State).still = { s.still with bedOn := b } := rfl
theorem State.still_canopyOn (s : State) (b : Bool) : ({ s with canopyOn := b } : State).still = { s.still with canopyOn := b } := rfl

theorem State.bedReset_still (s : State) (reset : Bool) : (s.bedReset reset).still = { s.still with bedOn := true } := by
  rw [State.bedReset, State.evrFillRegs_still, State.putZero_still]
  refine (State.still_bedOn _ _).trans (congrArg (fun x : Still => { x with bedOn := true }) ?_)
  split <;> simp [Pwr.fresh] <;> rfl

theorem State.canopyReset_still (s : State) : s.canopyReset.still = { s.still with canopyOn := true } := by
  rw [State.canopyReset]
  refine (State.still_canopyOn _ _).trans (congrArg (fun x : Still => { x with canopyOn := true }) ?_)
  simp

theorem State.canopyDark_still (s : State) : s.canopyDark.still = { s.still with canopyOn := false } := by
  unfold State.canopyDark
  dsimp only
  split
  · simp; rfl
  · rfl

theorem State.canopyCut_still (s : State) : s.canopyCut.still = { s.still with canopyOn := false } := by
  unfold State.canopyCut
  split
  · rw [State.canopyDark_still, State.canopyClose_still]
  · next h => simp only [State.still, eq_false_of_ne_true h]

theorem State.railsFall_still (s : State) :
    s.railsFall.still = { s.still with bedOn := false, canopyOn := false, st := 0, step := 0, turn := none } := by
  have h1 : (if s.bedOn then s.requestSafe.panelLost else s).still = s.still := by simp
  unfold State.railsFall
  dsimp only
  generalize (if s.bedOn then s.requestSafe.panelLost else s) = t at h1
  have h2 : (if t.canopyOn then { t.terCanopyDown with bridge := {} } else t).still = s.still := by simp [h1]
  generalize (if t.canopyOn then { t.terCanopyDown with bridge := {} } else t : State) = u at h2
  rw [← h2]
  rfl

/-! ### Sound power states -/

/-- Where the module stands in a step of a sequence, Root is powered. -/
theorem Still.sound.root_of_step {x : Still} (h : x.sound) (hn : x.step ≠ 0) : x.rootOn = true := by
  obtain ⟨-, -, hl, hr⟩ := h
  by_contra hoff
  have h0 := hr (Bool.eq_false_iff.mpr hoff)
  unfold stepLegal at hl
  split at hl <;> simp_all


/-- What a domain's power and the time must satisfy wherever a sequence can go on. -/
def Still.live (x : Still) : Prop :=
  x.rootOn = true ∧ (x.canopyOn = true → x.bedOn = true) ∧ x.now % 8 = 0

/-- Whether step `m` may follow in `x`: 0 and 0x17 lead to the Doze state, 0x20 to Field, 0x0C to Root-armed, 0x01 through it. -/
def Still.enters (x : Still) (m : Nat) : Bool :=
  match m with
  | 0x00 => x.bedOn && !x.canopyOn
  | 0x01 => !x.bedOn && !x.canopyOn
  | 0x0C => !x.bedOn && !x.canopyOn
  | 0x17 => x.bedOn && !x.canopyOn
  | 0x20 => x.bedOn && x.canopyOn
  | m => stepLegal x.st m none x.bedOn x.canopyOn

theorem State.pwrEnter_sound {s : State} {n : Nat} (hl : s.still.live)
    (h : stepLegal s.still.st (if n = 0x12 then 0x13 else n) none s.still.bedOn s.still.canopyOn = true) :
    (s.pwrEnter n).powerSound := by
  obtain ⟨hr, hc, hn⟩ := hl
  rw [State.powerSound_iff, State.pwrEnter_still]
  exact ⟨⟨hc, fun _ => hr⟩, hn, h, fun h0 => absurd (h0.symm.trans hr) Bool.false_ne_true⟩

/-- Where no step runs and Bed is powered, the module stands in Doze or in Field. -/
theorem Still.sound.of_idle {x : Still} (h : x.sound) (hstep : x.step = 0) (hbed : x.bedOn = true) :
    x.live ∧ x.turn = none ∧ (x.st = 2 ∧ x.canopyOn = false ∨ x.st = 3 ∧ x.canopyOn = true) := by
  obtain ⟨⟨hc, hb⟩, hn, hl, hr⟩ := h
  refine ⟨⟨hb hbed, hc, hn⟩, ?_⟩
  rw [hstep, stepLegal, settled.eq_def] at hl
  split at hl <;> simp_all

theorem State.sleepReq_still (s : State) : s.sleepReq.still = s.still := by
  rw [State.sleepReq, State.setPwr_still_eq, State.sendMgmt_still]
  rfl

theorem State.startSleep_sound {s : State} (hl : s.still.live) (hst : s.still.st = 2) (hb : s.still.bedOn = true)
    (hc : s.still.canopyOn = false) : s.startSleep.powerSound := by
  unfold State.startSleep
  extract_lets p _ t
  have ht : t.still = s.still := s.setPwr_still_eq _
  split
  · exact State.pwrEnter_sound (ht ▸ hl) (by rw [ht, hst, hb, hc]; rfl)
  · refine powerSound_of_still ((State.sleepReq_still _).trans (State.wr_still _ _ _)) ?_
    exact State.pwrEnter_sound (ht ▸ hl) (by rw [ht, hst, hb, hc]; rfl)

theorem State.kick_sound {s : State} (hs : s.powerSound) : s.kick.powerSound := by
  unfold State.kick
  split
  · exact hs
  next h =>
    simp only [not_or, Bool.not_eq_false, not_not] at h
    obtain ⟨hbed, hstep, -⟩ := h
    obtain ⟨hl, -, hst⟩ := Still.sound.of_idle (s.powerSound_iff.mp hs) hstep hbed
    have hb : s.still.bedOn = true := hbed
    split
    next h2 =>
      obtain ⟨hst, hc⟩ : s.still.st = 2 ∧ s.still.canopyOn = false :=
        hst.resolve_right fun h3 => absurd (h2.symm.trans h3.1) (by decide)
      split
      · split
        · exact hs
        · exact State.pwrEnter_sound hl (by rw [hst, hb, hc]; rfl)
      · split
        · exact State.startSleep_sound hl hst hb hc
        · exact hs
    next h2 =>
      obtain ⟨hst, hc⟩ : s.still.st = 3 ∧ s.still.canopyOn = true := hst.resolve_left fun h3 => h2 h3.1
      split
      · exact State.pwrEnter_sound hl (by rw [hst, hb, hc]; rfl)
      · exact hs

/-- A step, Doze or Field reached by `State.stateReached`. -/
theorem State.stateReached_sound {s : State} {st : Nat} (hl : s.still.live)
    (h : settled st s.still.bedOn s.still.canopyOn = true) : (s.stateReached st).powerSound := by
  obtain ⟨hr, hc, hn⟩ := hl
  rw [State.powerSound_iff, State.stateReached_still]
  exact ⟨⟨hc, fun _ => hr⟩, hn, by simpa [stepLegal] using h, fun h0 => absurd (h0.symm.trans hr) Bool.false_ne_true⟩

theorem State.enterDoze_sound {s : State} (hl : s.still.live) (hb : s.still.bedOn = true) (hc : s.still.canopyOn = false) :
    s.enterDoze.powerSound := by
  unfold State.enterDoze
  extract_lets up t1 t2 _ t3 t4
  have h1 : t1.still = s.still := by simp only [t1, State.still_ite, State.cansUp_still, ite_self]
  have h2 : t2.still = s.still := (State.wr_still _ _ _).trans h1
  have h3 : t3.still = s.still := by
    rw [← h2]
    unfold t3
    split <;> rfl
  have h4 : t4.powerSound := State.stateReached_sound (h3 ▸ hl) (by rw [h3, hb, hc]; rfl)
  exact State.kick_sound (powerSound_of_still (State.setPwr_still_eq _ _) h4)

theorem State.enterField_sound {s : State} (hl : s.still.live) (hb : s.still.bedOn = true) (hc : s.still.canopyOn = true) :
    s.enterField.powerSound := by
  unfold State.enterField
  extract_lets _ t
  have ht : (t.wr F.SYS_STAT_CDOWN 0).still = s.still := (State.wr_still _ _ _).trans (State.setPwr_still_eq _ _)
  exact State.kick_sound (State.stateReached_sound (ht ▸ hl) (by rw [ht, hb, hc]; rfl))

theorem State.bedGone_sound {s : State} (hl : s.still.live) (hb : s.still.bedOn = false) (hc : s.still.canopyOn = false) :
    s.bedGone.powerSound := by
  obtain ⟨hr, -, hn⟩ := hl
  rw [State.powerSound_iff, State.bedGone_still]
  simp [Still.sound, stepLegal, settled, hr, hb, hc, hn]

/-- Root-armed, and Bed up from it. -/
theorem Still.sound.of_armed {x : Still} (h : x.sound) (hst : x.st = 1) (hstep : x.step = 0) :
    x.live ∧ x.bedOn = false ∧ x.canopyOn = false := by
  obtain ⟨⟨hc, hb⟩, hn, hl, hr⟩ := h
  have hroot : x.rootOn = true := by
    by_contra h0
    exact absurd (hst.symm.trans (hr (Bool.eq_false_iff.mpr h0))) (by decide)
  refine ⟨⟨hroot, hc, hn⟩, ?_⟩
  simpa [hstep, hst, stepLegal, settled] using And.right (by simpa [hstep, hst, stepLegal, settled] using hl : _ ∧ _)

theorem State.wakeAccept_sound {s : State} (src : Nat) (hs : s.powerSound) : (s.wakeAccept src).powerSound := by
  unfold State.wakeAccept
  split
  next h =>
    extract_lets t
    have ht : t.still = s.still := State.rootWr_still _ _ _
    split
    next hstep =>
      obtain ⟨hl, hb, hc⟩ := Still.sound.of_armed (s.powerSound_iff.mp hs) h.1 ((congrArg Still.step ht).symm.trans hstep)
      have hst : s.still.st = 1 := h.1
      have hu : (t.setPwr { t.pwr with early := [] }).still = s.still := ht
      exact State.pwrEnter_sound (hu ▸ hl) (by rw [hu, hst, hb, hc]; rfl)
    · exact powerSound_of_still ht hs
  · exact hs

theorem State.enterArmed_sound {s : State} (hl : s.still.live) (hb : s.still.bedOn = false) (hc : s.still.canopyOn = false) :
    s.enterArmed.powerSound := by
  have hg := State.bedGone_sound hl hb hc
  unfold State.enterArmed
  dsimp only
  split
  · exact State.wakeAccept_sound 1 hg
  · exact hg

theorem State.goStep_sound {s : State} {m : Nat} (hl : s.still.live) (h : s.still.enters m = true) : (s.goStep m).powerSound := by
  unfold State.goStep
  split
  case h_1 =>
    obtain ⟨hb, hc⟩ : s.still.bedOn = true ∧ s.still.canopyOn = false := by simpa [Still.enters] using h
    exact State.enterDoze_sound hl hb hc
  case h_2 =>
    obtain ⟨hb, hc⟩ : s.still.bedOn = false ∧ s.still.canopyOn = false := by simpa [Still.enters] using h
    exact State.pwrEnter_sound (by rwa [State.bedGone_still]) (by rw [State.bedGone_still]; simp [stepLegal, hb, hc])
  case h_3 =>
    obtain ⟨hb, hc⟩ : s.still.bedOn = false ∧ s.still.canopyOn = false := by simpa [Still.enters] using h
    exact State.enterArmed_sound hl hb hc
  case h_4 =>
    obtain ⟨hb, hc⟩ : s.still.bedOn = true ∧ s.still.canopyOn = false := by simpa [Still.enters] using h
    have ht := s.logStep_still 0x17 0
    exact State.enterDoze_sound (ht ▸ hl) (by rwa [ht]) (by rwa [ht])
  case h_5 =>
    obtain ⟨hb, hc⟩ : s.still.bedOn = true ∧ s.still.canopyOn = true := by simpa [Still.enters] using h
    exact State.enterField_sound hl hb hc
  case h_6 h0 h1 hC h17 h20 =>
    have hm : stepLegal s.still.st m none s.still.bedOn s.still.canopyOn = true := by simpa [Still.enters] using h
    refine State.pwrEnter_sound hl ?_
    split
    next h12 => subst h12; cases hm
    · exact hm

/-- What the end of step `n` does to the domains. -/
def Still.ended (x : Still) (n : Nat) : Still :=
  match n with
  | 0x03 => { x with bedOn := true }
  | 0x0B => { x with bedOn := false }
  | 0x0F => { x with canopyOn := true }
  | 0x16 => { x with canopyOn := false }
  | _ => x

/-- The step set to follow step `n` (`State.following`). -/
def Still.following (x : Still) (n : Nat) : Nat :=
  match x.turn with
  | some m => if n = 0x15 then 0x16 else m
  | none => if n = 6 ∨ n = 0x17 then 0 else if n = 0x11 then 0x20 else n + 1

theorem State.following_eq (s : State) (n : Nat) : s.following n = s.still.following n := rfl

/-- The effect of a step's end: the domains as `Still.ended` says, Sundial on a tick. -/
theorem State.stepEffect_still (s : State) (q : SeqIn) (n ms : Nat) (hn : s.still.now % 8 = 0) :
    ∃ k, k % 8 = 0 ∧ (s.stepEffect q n ms).1.still = { s.still.ended n with now := k } := by
  unfold State.stepEffect
  split
  case h_1 => exact s.sundialStart_still
  case h_2 =>
    refine ⟨_, hn, ?_⟩
    dsimp only
    split <;> simp [State.bedReset_still, Still.ended]
  case h_8 => exact ⟨_, hn, State.canopyReset_still s⟩
  case h_12 => exact ⟨_, hn, State.canopyDark_still s⟩
  case h_7 => exact ⟨_, hn, rfl⟩
  case h_9 =>
    refine ⟨_, hn, ?_⟩
    dsimp only
    split <;> simp [Still.ended]
  case h_13 =>
    refine ⟨_, hn, ?_⟩
    unfold Still.ended
    split <;> simp_all
  all_goals exact ⟨_, hn, by simp [Still.ended]⟩

/-- The step that a step's end names itself: BU4 again where unit 2 does not start, CD5 where DRAM does not. -/
theorem State.stepEffect_next (s : State) (q : SeqIn) (n ms : Nat) :
    (s.stepEffect q n ms).2 = none ∨ (n = 0x04 ∧ (s.stepEffect q n ms).2 = some 0x04) ∨
      (n = 0x10 ∧ (s.stepEffect q n ms).2 = some 0x16) := by
  unfold State.stepEffect
  split
  case h_3 =>
    dsimp only
    split
    · exact .inl rfl
    · exact .inr (.inl ⟨rfl, rfl⟩)
  case h_9 =>
    dsimp only
    split
    · exact .inl rfl
    · exact .inr (.inr ⟨rfl, rfl⟩)
  all_goals exact .inl rfl

/-- What follows the end of a step of Bed up, Bed down, Canopy up or Canopy down may be entered: BU3 for BU5 where Bed never ran. -/
theorem Still.sound.enters_ended {x : Still} (h : x.sound) {n m : Nat} (hn : x.step = n) (hlo : n ≠ 0) (hhi : n ≤ 0x16)
    (hm : m = x.following n ∨ (n = 0x04 ∧ m = 0x04) ∨ (n = 0x10 ∧ m = 0x16)) :
    (x.ended n).enters (if m = 5 ∧ (x.ended n).bedOn = false then 3 else m) = true := by
  obtain ⟨-, -, hl, -⟩ := h
  rw [hn] at hl
  rcases hm with rfl | ⟨rfl, rfl⟩ | ⟨rfl, rfl⟩
  · unfold Still.following
    unfold stepLegal at hl
    split at hl <;> try omega
    all_goals cases ht : x.turn <;> cases hb : x.bedOn <;> simp_all [Still.ended, Still.enters, stepLegal]
  · simp_all [Still.ended, Still.enters, stepLegal]
  · simp_all [Still.ended, Still.enters, stepLegal]

theorem Still.sound.live_ended {x : Still} (h : x.sound) {n k : Nat} (hn : x.step = n) (hlo : n ≠ 0) (hk : k % 8 = 0) :
    Still.live { x.ended n with now := k } := by
  have hroot := h.root_of_step (hn.symm ▸ hlo)
  obtain ⟨⟨hc, -⟩, -, hl, -⟩ := h
  rw [hn] at hl
  unfold Still.ended
  split <;> simp_all [Still.live, stepLegal]

theorem Still.turn_ended (x : Still) (n : Nat) : (x.ended n).turn = x.turn := by
  unfold Still.ended
  split <;> rfl

/-- CD5 may carry what CD4 carries. -/
theorem stepLegal_canopyOff {st : Nat} {turn : Option Nat} {bed canopy : Bool} (h : stepLegal st 0x15 turn bed canopy = true) :
    stepLegal st 0x16 turn bed canopy = true := by
  simp only [stepLegal, Bool.and_eq_true] at h ⊢
  exact h.1

/-- The end of a step leads to a sound power state. CD4 alone hands its reversal on to CD5. -/
theorem State.endStep_sound {s : State} (q : SeqIn) (ms : Nat) (hs : s.powerSound) (hlo : s.pwr.step ≠ 0) (hhi : s.pwr.step ≤ 0x16) :
    (s.endStep q ms).powerSound := by
  have hlog : (s.logStep s.pwr.step ms).still = s.still := s.logStep_still _ _
  unfold State.endStep
  extract_lets n x m t
  obtain ⟨k, hk, hx⟩ := State.stepEffect_still (s.logStep n ms) q n ms (hlog ▸ hs.2.1)
  rw [hlog] at hx
  replace hx : x.1.still = { s.still.ended n with now := k } := hx
  have hturn : x.1.still.turn = s.still.turn := (congrArg Still.turn hx).trans (s.still.turn_ended n)
  have hlive : x.1.still.live := hx ▸ (s.powerSound_iff.mp hs).live_ended rfl hlo hk
  have hm : m = s.still.following n ∨ (n = 0x04 ∧ m = 0x04) ∨ (n = 0x10 ∧ m = 0x16) := by
    rcases State.stepEffect_next (s.logStep n ms) q n ms with h | ⟨hn, h⟩ | ⟨hn, h⟩
    · left
      calc m = x.1.following n := by simp only [m, x, h, Option.getD_none]
        _ = s.still.following n := by rw [State.following_eq, Still.following, Still.following, hturn]
    · exact .inr (.inl ⟨hn, by simp only [m, x, h, Option.getD_some]⟩)
    · exact .inr (.inr ⟨hn, by simp only [m, x, h, Option.getD_some]⟩)
  have henters := (s.powerSound_iff.mp hs).enters_ended rfl hlo hhi hm
  have ht : t.powerSound := State.goStep_sound hlive (by rw [State.bedOn_eq, hx]; exact henters)
  split
  next h15 =>
    have hm16 : m = 0x16 := by
      rcases hm with h | ⟨h4, -⟩ | ⟨h10, -⟩
      · rw [h, h15, Still.following]
        split <;> rfl
      · omega
      · omega
    have htx : t = x.1.pwrEnter 0x16 := by simp only [t, hm16]; rfl
    have hl : stepLegal s.still.st 0x15 s.still.turn s.still.bedOn s.still.canopyOn = true := by
      have h := hs.2.2.1
      rwa [show s.pwr.step = 0x15 from h15] at h
    obtain ⟨hr, hc, hn⟩ := hlive
    rw [State.powerSound_iff, State.setTurn_still, htx, State.pwrEnter_still]
    refine ⟨⟨hc, fun _ => hr⟩, hn, ?_, fun h0 => absurd (h0.symm.trans hr) Bool.false_ne_true⟩
    have hx15 : x.1.still = { s.still with now := k } := by rw [hx, h15]; rfl
    rw [State.pwr_turn, hx15]
    exact stepLegal_canopyOff hl
  · exact ht

theorem State.runSteps_sound {lo hi : Nat} (hlo : 0 < lo) (hhi : hi ≤ 0x16) (q : SeqIn) (l : List Nat) {s : State} (hs : s.powerSound) :
    (State.runSteps lo hi q l s).powerSound := by
  induction l generalizing s with
  | nil => exact hs
  | cons ms r ih =>
    unfold State.runSteps
    split
    next h => exact ih (State.endStep_sound q ms hs (by omega) (by omega))
    · exact hs

/-! ### Requests, wakes, resets and heat -/

theorem State.reversed_sound {s : State} (hs : s.powerSound) : s.reversed.powerSound := powerSound_of_still s.reversed_still hs

theorem State.setTurn_sound {s : State} {n : Option Nat} (hs : s.powerSound)
    (h : stepLegal s.pwr.st s.pwr.step n s.bedOn s.canopyOn = true) : (s.setTurn n).powerSound :=
  ⟨hs.1, hs.2.1, h, hs.2.2.2⟩

/-- Whatever step runs, the sequence may drop its reversal. -/
theorem stepLegal_none {st step : Nat} {turn : Option Nat} {bed canopy : Bool} (h : stepLegal st step turn bed canopy = true) :
    stepLegal st step none bed canopy = true := by
  unfold stepLegal at h ⊢
  split at h <;> simp_all

/-- A step that leaves no domain above another unpowered may be entered from one that runs. -/
theorem Still.sound.live_of_step {x : Still} (h : x.sound) (hn : x.step ≠ 0) : x.live :=
  ⟨h.root_of_step hn, h.1.1, h.2.1⟩

theorem State.setStep_zero_sound {s : State} (hs : s.powerSound) (h : s.pwr.turn = none)
    (hd : settled s.pwr.st s.bedOn s.canopyOn = true) : (s.setStep 0).powerSound := by
  rw [State.powerSound_iff, State.setStep_still]
  refine ⟨hs.1, hs.2.1, ?_, hs.2.2.2⟩
  rw [← State.pwr_turn, h]
  exact hd

/-- The step that a reversal sets to follow step `n` (R479). -/
def reversal (n : Nat) : Nat :=
  if n ≤ 0x04 then 0x0A else if n ≤ 0x06 then 0 else if n ≤ 0x0A then 5 else if n ≤ 0x0C then 1 else if n ≤ 0x0F then 0x16
  else if n = 0x14 then 0x20 else 0x0E

theorem stepLegal_reversal {st step : Nat} {turn : Option Nat} {bed canopy : Bool} (h : stepLegal st step turn bed canopy = true)
    (hs : (1 ≤ step ∧ step ≤ 0x0C) ∨ step = 0x0E ∨ step = 0x0F ∨ (0x14 ≤ step ∧ step ≤ 0x17)) :
    stepLegal st step (some (reversal step)) bed canopy = true := by
  unfold stepLegal at h ⊢
  split at h <;> simp_all [reversal]

/-- CU1 and network sleep set out from the Doze state. -/
theorem stepLegal_doze {st step : Nat} {turn : Option Nat} {bed canopy : Bool} (h : stepLegal st step turn bed canopy = true)
    (hs : step = 0x0D ∨ 0x17 < step) : turn = none ∧ st = 2 ∧ bed = true ∧ canopy = false := by
  unfold stepLegal at h
  split at h <;> simp_all

/-- From CU4 to CD4 both domains are powered. -/
theorem stepLegal_powered {st step : Nat} {turn : Option Nat} {bed canopy : Bool} (h : stepLegal st step turn bed canopy = true)
    (hs : 0x10 ≤ step ∧ step ≤ 0x15) : (st = 2 ∨ st = 3) ∧ bed = true ∧ canopy = true := by
  unfold stepLegal at h
  split at h <;> simp_all

theorem State.turn_sound {s : State} {m : Nat} (hs : s.powerSound) 
    (hn : (1 ≤ s.pwr.step ∧ s.pwr.step ≤ 0x0C) ∨ s.pwr.step = 0x0E ∨ s.pwr.step = 0x0F ∨ (0x14 ≤ s.pwr.step ∧ s.pwr.step ≤ 0x17))
    (hm : m = reversal s.pwr.step) : (s.setTurn (some m)).reversed.powerSound :=
  State.reversed_sound (State.setTurn_sound hs (hm ▸ stepLegal_reversal hs.2.2.1 hn))

/-- In the Vault state nothing is powered, and Root-armed may follow. -/
theorem stepLegal_vault {step : Nat} {turn : Option Nat} {bed canopy : Bool} (h : stepLegal 0 step turn bed canopy = true) :
    stepLegal 1 0 turn bed canopy = true := by
  unfold stepLegal at h
  split at h <;> simp_all [stepLegal, settled]

theorem stepLegal_field {turn : Option Nat} {bed canopy : Bool} (h : stepLegal 3 0 turn bed canopy = true) : bed = true ∧ canopy = true := by
  simp only [stepLegal, settled, Bool.and_eq_true] at h
  exact h.2

theorem stepLegal_vault_off {step : Nat} {turn : Option Nat} {bed canopy : Bool} (h : stepLegal 0 step turn bed canopy = true) :
    bed = false ∧ canopy = false := by
  unfold stepLegal at h
  split at h <;> simp_all [settled]

/-- Any step but CD1 that is legal from a step that runs. -/
theorem State.pwrEnter_sound_of {s : State} {n : Nat} (hs : s.powerSound) (hstep : s.pwr.step ≠ 0)
    (h : stepLegal s.pwr.st (if n = 0x12 then 0x13 else n) none s.bedOn s.canopyOn = true) : (s.pwrEnter n).powerSound :=
  State.pwrEnter_sound ((s.powerSound_iff.mp hs).live_of_step hstep) h

/-- CD1 and CD5 may be entered from CU4 to CD4. -/
theorem State.canopyStep_sound {s : State} {n : Nat} (hs : s.powerSound) (hstep : 0x10 ≤ s.pwr.step ∧ s.pwr.step ≤ 0x15)
    (hn : n = 0x12 ∨ n = 0x16) : (s.pwrEnter n).powerSound := by
  obtain ⟨hst, hb, hc⟩ := stepLegal_powered hs.2.2.1 hstep
  refine State.pwrEnter_sound_of hs (by omega) ?_
  rw [hb, hc]
  rcases hn with rfl | rfl <;> rcases hst with hst | hst <;> rw [hst] <;> rfl

theorem State.steer_sound {s : State} (hs : s.powerSound) : s.steer.powerSound := by
  have hnone : (s.setTurn none).reversed.powerSound := State.reversed_sound (State.setTurn_sound hs (stepLegal_none hs.2.2.1))
  have hl := hs.2.2.1
  unfold State.steer
  extract_lets n turned up
  have hstep : s.pwr.step = n := rfl
  clear_value n
  split
  · exact hs
  split
  · -- Bed up
    split
    · exact State.turn_sound hs (by omega) (by unfold reversal; split_ifs <;> omega)
    · split <;> assumption
  split
  · -- Bed down
    split
    · exact State.turn_sound hs (by omega) (by unfold reversal; split_ifs <;> omega)
    · split <;> assumption
  split
  · -- Canopy up
    split
    · split
      · obtain ⟨hturn, hst, hb, hc⟩ := stepLegal_doze hl (by omega)
        exact State.reversed_sound (State.setStep_zero_sound hs hturn (by rw [hst, hb, hc]; rfl))
      split
      · exact State.turn_sound hs (by omega) (by unfold reversal; split_ifs <;> omega)
      split
      · exact State.reversed_sound (State.canopyStep_sound hs (by omega) (.inr rfl))
      · exact State.reversed_sound (State.canopyStep_sound hs (by omega) (.inl rfl))
    · split <;> assumption
  split
  · -- Canopy down
    split
    · split
      · obtain ⟨-, hb, hc⟩ := stepLegal_powered hl (by omega)
        have hlive := (s.powerSound_iff.mp hs).live_of_step (by rw [← State.pwr_step]; omega)
        exact State.enterField_sound (s.reversed_still ▸ hlive) (s.reversed_still ▸ hb) (s.reversed_still ▸ hc)
      · exact State.turn_sound hs (by omega) (by unfold reversal; split_ifs <;> omega)
    · split <;> assumption
  split
  · -- network sleep
    obtain ⟨hturn, hst, hb, hc⟩ := stepLegal_doze hl (by omega)
    have ht := (State.wr_still _ F.SYS_SLEEPSTAT_PHASE 0).trans (s.logStep_still n ((s.now - s.pwr.stepAt) / 1000000))
    refine State.reversed_sound (State.setStep_zero_sound (powerSound_of_still ht hs) ?_ ?_)
    · rw [State.pwr_turn, ht]; exact hturn
    · rw [State.pwr_st, State.bedOn_eq, State.canopyOn_eq, ht]
      exact (by rw [hst, hb, hc]; rfl : settled s.pwr.st s.bedOn s.canopyOn = true)
  · exact hs

theorem State.ite_sound {c : Prop} [Decidable c] {s t : State} (hs : s.powerSound) (ht : t.powerSound) :
    (if c then s else t).powerSound := by
  split
  · exact hs
  · exact ht

/-- The same where the branch taken says more. -/
theorem State.ite_sound_of {c : Prop} [Decidable c] {s t : State} (hs : c → s.powerSound) (ht : t.powerSound) :
    (if c then s else t).powerSound := by
  split
  next h => exact hs h
  · exact ht

theorem State.powerRequest_sound {s : State} (v : Nat) (hs : s.powerSound) : (s.powerRequest v).powerSound := by
  unfold State.powerRequest
  refine State.kick_sound (State.steer_sound (powerSound_of_still ?_ hs))
  split <;> simp

theorem State.wakeRequest_sound {s : State} (ign : Bool) (hs : s.powerSound) : (s.wakeRequest ign).powerSound := by
  unfold State.wakeRequest
  split
  · exact State.powerRequest_sound _ hs
  · exact hs

theorem State.graceEnds_sound {s : State} (hs : s.powerSound) : s.graceEnds.powerSound := by
  unfold State.graceEnds
  split
  next h =>
    have hl := hs.2.2.1
    obtain ⟨hst, hb, hc⟩ := stepLegal_powered hl (by omega)
    have ht := s.logStep_still 0x13 ((s.now - s.pwr.stepAt) / 1000000)
    refine State.pwrEnter_sound_of (powerSound_of_still ht hs) (by rw [State.pwr_step, ht, ← State.pwr_step, h]; decide) ?_
    rw [State.pwr_st, State.bedOn_eq, State.canopyOn_eq, ht]
    rw [State.pwr_st] at hst
    rw [State.bedOn_eq] at hb
    rw [State.canopyOn_eq] at hc
    rcases hst with hst | hst <;> rw [hst, hb, hc] <;> rfl
  · exact hs

theorem State.setPwr_sound {s : State} {p : Pwr} (hs : s.powerSound) (hp : p.st = s.pwr.st ∧ p.step = s.pwr.step ∧ p.turn = s.pwr.turn) :
    (s.setPwr p).powerSound := powerSound_of_still (s.setPwr_still p hp) hs

theorem State.pwrreqWrite_sound {s : State} (a : Agent) (v : W32) (hs : s.powerSound) : (s.pwrreqWrite a v).powerSound := by
  unfold State.pwrreqWrite
  split
  · exact hs
  extract_lets t0 _ t1 t2
  have h0 : t0.powerSound := powerSound_of_still (s.applyWrite_still _ _) hs
  have h2 : t2.powerSound := State.powerRequest_sound _ (State.setPwr_sound h0 ⟨rfl, rfl, rfl⟩)
  split
  · exact State.graceEnds_sound h2
  · exact h2

/-- A module reset takes Canopy's power and then runs Bed up from BU3. -/
theorem State.moduleReset_sound {s : State} (cause : Nat) (q : SeqIn) (hs : s.powerSound) : (s.moduleReset cause q).powerSound := by
  have hlog := s.logReset_still cause
  unfold State.moduleReset
  split
  · exact hs
  next h =>
    extract_lets u t0 _ t1
    have hu : u.still = s.still := hlog
    split
    · exact powerSound_of_still hlog hs
    next hr =>
      have hbed : s.bedOn = true := by
        have hreset : u.pwr.reset = s.pwr.reset := rfl
        simpa [← hreset, hr] using h
      have ht0 : t0.still = { s.still with canopyOn := false } := by
        rw [← hu]
        simp [t0, State.canopyCut_still]
      refine State.runSteps_sound (by decide) (by decide) q _ ?_
      rw [State.powerSound_iff, State.still_bedOn, State.setPwr_still_eq, ht0]
      obtain ⟨⟨-, hb⟩, hn, -, -⟩ := hs
      exact ⟨⟨nofun, nofun⟩, hn, rfl, fun h0 => absurd (h0.symm.trans (hb hbed)) Bool.false_ne_true⟩

theorem settled_canopyOn {st : Nat} (h : settled st true true = true) : st = 3 := by
  unfold settled at h
  split at h <;> simp_all

theorem stepLegal_canopyOn {st step : Nat} {turn : Option Nat} (h : stepLegal st step turn true true = true) : st = 2 ∨ st = 3 := by
  unfold stepLegal at h
  split at h
  case h_1 =>
    simp only [Bool.and_eq_true] at h
    exact .inr (settled_canopyOn h.2)
  all_goals simp_all

/-- Where Canopy is powered, the module has left Root-armed. -/
theorem Still.sound.st_of_canopy {x : Still} (h : x.sound) (hc : x.canopyOn = true) :
    x.live ∧ (x.st = 2 ∨ x.st = 3) ∧ x.bedOn = true := by
  obtain ⟨⟨hcb, hbr⟩, hn, hl, -⟩ := h
  refine ⟨⟨hbr (hcb hc), hcb, hn⟩, ?_, hcb hc⟩
  rw [hc, hcb hc] at hl
  exact stepLegal_canopyOn hl

/-- A Canopy restart sets out from CD4. -/
theorem State.canopyRestart_sound {s : State} (cause : Nat) (q : SeqIn) (hs : s.powerSound) : (s.canopyRestart cause q).powerSound := by
  have ht := powerSound_of_still (s.logReset_still cause) hs
  unfold State.canopyRestart
  generalize s.logReset cause = t at ht
  extract_lets t u v
  split
  · exact ht
  next h =>
    obtain ⟨hlive, hst, hb⟩ := (t.powerSound_iff.mp ht).st_of_canopy (Bool.eq_true_of_not_eq_false h)
    have hc : t.still.canopyOn = true := Bool.eq_true_of_not_eq_false h
    have hl (n : Option Nat) (hn : n = none ∨ n = some 0x0E) : stepLegal t.still.st 0x15 n t.still.bedOn t.still.canopyOn = true := by
      rw [hb, hc]
      rcases hst with hst | hst <;> rcases hn with rfl | rfl <;> rw [hst] <;> rfl
    have hu : u.powerSound := State.pwrEnter_sound hlive (hl none (.inl rfl))
    have huv : u.still = { t.still with step := 0x15, turn := none } := State.pwrEnter_still t 0x15
    refine State.runSteps_sound (by decide) (by decide) q _ ?_
    unfold v
    refine State.ite_sound (State.setTurn_sound hu ?_) hu
    rw [State.pwr_st, State.pwr_step, State.bedOn_eq, State.canopyOn_eq, huv]
    exact hl _ (.inr rfl)

theorem State.rstcmdWrite_sound {s : State} (v : W32) (q : SeqIn) (hs : s.powerSound) : (s.rstcmdWrite v q).powerSound := by
  unfold State.rstcmdWrite
  split
  · exact hs
  split
  · exact State.moduleReset_sound _ _ hs
  · exact State.canopyRestart_sound _ _ hs
  · exact hs

/-- A gated access keeps the power state sound where its effect does. -/
theorem State.gate_sound {s : State} {a : Agent} {blk off : Nat} {k : State → State} (hs : s.powerSound)
    (hk : s.done.powerSound → (k s.done).powerSound) : (s.gate a blk off k).powerSound := by
  rcases s.gate_cases a blk off k with h | ⟨-, h⟩ | ⟨-, h⟩ | ⟨-, -, h⟩ <;> rw [h]
  · exact powerSound_of_still (s.failFor_still a) hs
  · exact powerSound_of_still (by simp) hs
  · exact powerSound_of_still s.done_still hs
  · exact hk (powerSound_of_still s.done_still hs)

/-! ### Register writes that reach SYS_PWRREQ and SYS_RSTCMD -/

theorem State.regAct_sound {s : State} (a : Agent) (blk off : Nat) (v : W32) (hs : s.powerSound) : (s.regAct a blk off v).powerSound := by
  by_cases hb : blk = 0
  · subst hb
    unfold State.regAct
    extract_lets key
    split
    · exact hs
    split
    · split
      · exact powerSound_of_still (s.snapshot_still _ _) hs
      · exact hs
    · exact State.ite_sound (State.pwrreqWrite_sound a v hs)
        (State.ite_sound (State.rstcmdWrite_sound v plainSeq hs) (powerSound_of_still (s.plainWrite_still _ _) hs))
  · exact powerSound_of_still (State.regAct_still hb s a off v) hs

theorem State.regEffect_sound {s : State} (a : Agent) (blk off : Nat) (v : W32) (hs : s.powerSound) : (s.regEffect a blk off v).powerSound := by
  have h := State.regAct_sound a blk off v hs
  unfold State.regEffect
  dsimp only
  split
  · exact h
  · exact powerSound_of_still (State.reparity_still _ _) h

theorem State.writeReg_sound {s : State} (a : Agent) (blk off : Nat) (v : W32) (hs : s.powerSound) : (s.writeReg a blk off v).powerSound := by
  unfold State.writeReg
  split
  · exact powerSound_of_still (by simp) hs
  · exact State.gate_sound hs fun h => State.regEffect_sound a blk off v h

theorem State.writeAt_sound {s : State} (a : Agent) (addr size value : Nat) (hs : s.powerSound) : (s.writeAt a addr size value).powerSound := by
  unfold State.writeAt
  split
  · exact powerSound_of_still (s.failFor_still a) hs
  next blk off _ =>
    have htrack {t : State} (addr : Nat) (h : t.powerSound) : (t.throughTracker a blk addr true).powerSound :=
      powerSound_of_still (t.throughTracker_still a blk addr true) h
    extract_lets s1 t t2 u
    have h1 : t.powerSound := State.writeReg_sound _ _ _ _ (htrack _ hs)
    have hu : u.powerSound := State.writeReg_sound _ _ _ _ (htrack _ h1)
    split
    · split
      · exact powerSound_of_still u.fail_still hu
      · exact hu
    · exact h1

theorem State.serviceWrites_sound {s : State} (addr k : Nat) (b : Bytes) (n : Nat) (hs : s.powerSound) :
    (s.serviceWrites addr k b n).1.powerSound := by
  induction n generalizing s addr k b with
  | zero => exact hs
  | succ n ih =>
    have h := State.writeAt_sound .svc addr 32 (leAt b 0 4) hs
    unfold State.serviceWrites
    dsimp only
    split
    · exact h
    · exact ih _ _ _ h

theorem State.service_sound {s : State} (f : EthFrame) (op : Nat) (hs : s.powerSound) : (s.service f op).powerSound := by
  unfold State.service
  split
  · exact hs
  split
  · exact hs
  next req _ =>
    have ht : ((s.frameIn 6).fdbLearn 6 (s.vlanOf 6 f) f.src).powerSound := powerSound_of_still (by simp) hs
    · refine State.ite_sound hs (powerSound_of_still (State.egress_still _ _ _) ?_)
      dsimp only
      split
      · exact powerSound_of_still (State.serviceReads_still _ _ _ _) ht
      · exact State.serviceWrites_sound _ _ _ _ ht

/-! ### Every command of the power chapter -/

/-- The command whose outcome is `o` completes in a sound power state. -/
def ReachesSound (o : Host.Outcome State Fault Refusal) : Prop := ∃ t, o = .next t ∧ t.powerSound

@[simp] theorem reachesSound_next (t : State) : ReachesSound (.next t) ↔ t.powerSound := by simp [ReachesSound]

theorem execBedUp_sound (q : SeqIn) {s : State} (hs : s.powerSound) : ReachesSound (execBedUp q s) :=
  (reachesSound_next _).mpr (State.runSteps_sound (by decide) (by decide) q _ hs)

theorem execBedDown_sound (q : SeqIn) {s : State} (hs : s.powerSound) : ReachesSound (execBedDown q s) :=
  (reachesSound_next _).mpr (State.runSteps_sound (by decide) (by decide) q _ hs)

theorem execCanopyUp_sound (q : SeqIn) {s : State} (hs : s.powerSound) : ReachesSound (execCanopyUp q s) :=
  (reachesSound_next _).mpr (State.runSteps_sound (by decide) (by decide) q _ (State.kick_sound hs))

theorem execCanopyDown_sound (q : SeqIn) {s : State} (hs : s.powerSound) : ReachesSound (execCanopyDown q s) :=
  (reachesSound_next _).mpr (State.runSteps_sound (by decide) (by decide) q _ (State.kick_sound hs))

theorem execCanopyUpRetry_sound (q : SeqIn) {s : State} (hs : s.powerSound) : ReachesSound (execCanopyUpRetry q s) := by
  refine (reachesSound_next _).mpr ?_
  split
  · split
    next t0 _ h =>
      obtain ⟨-, hb, hst, hstep, -⟩ := h
      obtain ⟨hlive, -, hd⟩ := (s.powerSound_iff.mp hs).of_idle hstep hb
      obtain ⟨-, hc⟩ := hd.resolve_right fun h3 => absurd (hst.symm.trans h3.1) (by decide)
      refine State.runSteps_sound (by decide) (by decide) q _ (State.pwrEnter_sound hlive ?_)
      rw [State.setPwr_still_eq, show s.pwr.st = 2 from hst]
      exact (by rw [show s.still.bedOn = true from hb, hc]; rfl :
        stepLegal 2 0x0E none s.still.bedOn s.still.canopyOn = true)
    · exact hs
  · exact hs

theorem execCanopyGraceTimeout_sound {s : State} (hs : s.powerSound) : ReachesSound (execCanopyGraceTimeout s) :=
  (reachesSound_next _).mpr (State.ite_sound (State.graceEnds_sound hs) hs)

theorem execPwrreqTarget_sound (agent : Agent) (value : W32) {s : State} (hs : s.powerSound) :
    ReachesSound (execPwrreqTarget agent value s) :=
  (reachesSound_next _).mpr (State.gate_sound hs (State.pwrreqWrite_sound _ _))

theorem execPwrreqGo_sound (agent : Agent) (value : W32) {s : State} (hs : s.powerSound) : ReachesSound (execPwrreqGo agent value s) :=
  (reachesSound_next _).mpr (State.gate_sound hs (State.pwrreqWrite_sound _ _))

theorem execModuleReset_sound (agent : Agent) (value : W32) (q : SeqIn) {s : State} (hs : s.powerSound) :
    ReachesSound (execModuleReset agent value q s) :=
  (reachesSound_next _).mpr (State.gate_sound hs (State.rstcmdWrite_sound _ _))

theorem execCanopyRestart_sound (agent : Agent) (value : W32) (q : SeqIn) {s : State} (hs : s.powerSound) :
    ReachesSound (execCanopyRestart agent value q s) :=
  (reachesSound_next _).mpr (State.gate_sound hs (State.rstcmdWrite_sound _ _))

theorem State.wakeLevel_sound {s : State} (f : Fld) (v : Bool) (hs : s.powerSound) : (s.wakeLevel f v).powerSound :=
  powerSound_of_still (s.wakeLevel_still f v) hs

theorem execIgnitionRise_sound {s : State} (hs : s.powerSound) : ReachesSound (execIgnitionRise s) := by
  refine (reachesSound_next _).mpr (State.ite_sound hs ?_)
  have ht := State.wakeLevel_sound F.RTD_WAKELVL_IGN true hs
  have hu (b : Option Nat) := State.setPwr_sound (p := { (s.wakeLevel F.RTD_WAKELVL_IGN true).pwr with ignBar := b }) ht ⟨rfl, rfl, rfl⟩
  exact State.ite_sound (State.ite_sound (State.wakeAccept_sound 1 ht) ht)
    (State.ite_sound (State.powerRequest_sound 2 (hu _)) (State.wakeRequest_sound true (hu _)))

theorem execIgnitionOffTimeout_sound (since : Nat) {s : State} (hs : s.powerSound) : ReachesSound (execIgnitionOffTimeout since s) := by
  refine (reachesSound_next _).mpr (State.ite_sound hs ?_)
  have ht := State.wakeLevel_sound F.RTD_WAKELVL_IGN false hs
  exact State.ite_sound (State.powerRequest_sound 0 (State.setPwr_sound ht ⟨rfl, rfl, rfl⟩)) ht

theorem execWake_sound (src : Nat) {s : State} (hs : s.powerSound) : ReachesSound (execWake src s) :=
  (reachesSound_next _).mpr (State.ite_sound hs (State.ite_sound (State.wakeAccept_sound src hs)
    (State.ite_sound (State.wakeRequest_sound _ hs) hs)))

theorem execWakeTimerExpiry_sound {s : State} (hs : s.powerSound) : ReachesSound (execWakeTimerExpiry s) := by
  refine (reachesSound_next _).mpr ?_
  split
  · have ht : ((s.setPwr { s.pwr with wEnd := none }).rootWr F.RTD_WTIMER_SEC 0).powerSound :=
      powerSound_of_still (State.rootWr_still _ _ _) (State.setPwr_sound hs ⟨rfl, rfl, rfl⟩)
    exact State.ite_sound (State.ite_sound (State.wakeAccept_sound 7 ht) (State.ite_sound (State.wakeRequest_sound false ht) ht)) hs
  · exact hs

theorem execWakeInputEdge_sound (n : Nat) (rising : Bool) {s : State} (hs : s.powerSound) : ReachesSound (execWakeInputEdge n rising s) := by
  refine (reachesSound_next _).mpr (State.ite_sound hs ?_)
  have ht := State.wakeLevel_sound (if n = 1 then F.RTD_WAKELVL_WAKE1 else F.RTD_WAKELVL_WAKE2) rising hs
  exact State.ite_sound ht (State.ite_sound (State.wakeAccept_sound _ ht) (State.wakeRequest_sound false ht))

theorem execSelectiveWake_sound (c : Nat) (id : Option Nat) {s : State} (hs : s.powerSound) : ReachesSound (execSelectiveWake c id s) := by
  refine (reachesSound_next _).mpr ?_
  split
  · exact hs
  · have ht (l : List (Nat × Nat)) := State.setPwr_sound (p := { s.pwr with canWake := l }) hs ⟨rfl, rfl, rfl⟩
    exact State.ite_sound hs (State.ite_sound (State.wakeAccept_sound _ (ht _))
      (State.ite_sound (State.wakeRequest_sound false (ht _)) (ht _)))

theorem execSleepHold_sound {s : State} (hs : s.powerSound) : ReachesSound (execSleepHold s) :=
  (reachesSound_next _).mpr (State.ite_sound hs (State.ite_sound (State.ite_sound (powerSound_of_still s.sleepReq_still hs) hs)
    (State.ite_sound (State.kick_sound hs) hs)))

theorem execKeepawake_sound (c : Nat) {s : State} (hs : s.powerSound) : ReachesSound (execKeepawake c s) := by
  refine (reachesSound_next _).mpr ?_
  split
  · exact hs
  next sa _ =>
    have ht : (((s.setCtl c { s.ctl c with keep := none }).wr F.SYS_SLEEPSTAT_KACH c).wr F.SYS_SLEEPSTAT_KASRC sa).powerSound :=
      powerSound_of_still (by simp) hs
    exact State.ite_sound hs (State.ite_sound (State.setPwr_sound ht ⟨rfl, rfl, rfl⟩)
      (State.ite_sound (State.wakeRequest_sound false ht) ht))

theorem execLateWake_sound (c : Nat) {s : State} (hs : s.powerSound) : ReachesSound (execLateWake c s) := by
  have ht : (s.setCtl c { s.ctl c with wuf := false }).powerSound := powerSound_of_still (by simp) hs
  exact (reachesSound_next _).mpr (State.ite_sound (State.ite_sound (State.wakeRequest_sound false ht) ht) hs)

/-- A step of network sleep, or BD1 after it, is entered from a step of network sleep. -/
theorem State.sleepEnter_sound {s : State} {n : Nat} (hs : s.powerSound) (hstep : 0x17 < s.pwr.step)
    (hn : n = 0x07 ∨ n = 0x19 ∨ n = 0x1A) : (s.pwrEnter n).powerSound := by
  obtain ⟨-, hst, hb, hc⟩ := stepLegal_doze hs.2.2.1 (.inr hstep)
  refine State.pwrEnter_sound_of hs (by omega) ?_
  rw [hst, hb, hc]
  rcases hn with rfl | rfl | rfl <;> rfl

theorem State.goSleep_sound {s : State} (hs : s.powerSound) (hstep : 0x17 < s.pwr.step) : s.goSleep.powerSound := by
  unfold State.goSleep
  extract_lets t _ u
  have hu : u.still = s.still := (s.sendMgmt_still 3 0xFFFF)
  refine State.ite_sound (powerSound_of_still (State.wr_still _ _ _) (State.sleepEnter_sound ?_ ?_ (.inr (.inr rfl)))) (powerSound_of_still hu hs)
  · exact powerSound_of_still ((State.logStep_still _ _ _).trans hu) hs
  · rw [State.pwr_step, State.logStep_still, hu]
    exact hstep

theorem execSleepHoldExpiry_sound {s : State} (hs : s.powerSound) : ReachesSound (execSleepHoldExpiry s) := by
  refine (reachesSound_next _).mpr (State.ite_sound hs ?_)
  split
  next h =>
    have ht := s.logStep_still 0x18 ((s.now - s.pwr.stepAt) / 1000000)
    have hu : (((s.logStep 0x18 ((s.now - s.pwr.stepAt) / 1000000)).pwrEnter 0x19).wr F.SYS_SLEEPSTAT_PHASE 2).powerSound := by
      refine powerSound_of_still (State.wr_still _ _ _) (State.sleepEnter_sound (powerSound_of_still ht hs) ?_ (.inr (.inl rfl)))
      rw [State.pwr_step, ht, ← State.pwr_step, h.1]
      decide
    refine State.goSleep_sound hu ?_
    rw [State.pwr_step, State.wr_still, State.pwrEnter_still]
    exact (by decide : 0x17 < 0x19)
  · split
    next h => exact State.goSleep_sound hs (by omega)
    · exact hs

theorem execSleepWaitExpiry_sound {s : State} (hs : s.powerSound) : ReachesSound (execSleepWaitExpiry s) := by
  refine (reachesSound_next _).mpr ?_
  split
  next h =>
    have ht := s.logStep_still 0x1A ((s.now - s.pwr.stepAt) / 1000000)
    refine State.sleepEnter_sound (powerSound_of_still ht hs) ?_ (.inl rfl)
    rw [State.pwr_step, ht, ← State.pwr_step, h.2.1]
    decide
  · exact hs

theorem State.railsFall_sound {s : State} (hs : s.powerSound) : s.railsFall.powerSound := by
  rw [State.powerSound_iff, State.railsFall_still]
  exact ⟨⟨nofun, nofun⟩, hs.2.1, rfl, fun _ => rfl⟩

theorem execSupplyFailure_sound (mv : Nat) (saveOk : Bool) {s : State} (hs : s.powerSound) :
    ReachesSound (execSupplyFailure mv saveOk s) :=
  (reachesSound_next _).mpr (State.ite_sound (powerSound_of_still (by simp) (State.railsFall_sound hs)) hs)

theorem execSupplyReturn_sound (mv : Nat) {s : State} (hs : s.powerSound) : ReachesSound (execSupplyReturn mv s) := by
  refine (reachesSound_next _).mpr ?_
  split
  next h =>
    obtain ⟨hr, hst, -⟩ := h
    have ht : ((s.supLog 4 mv).setPwr { s.pwr with st := 1, step := 0 }).powerSound := by
      rw [State.powerSound_iff, State.setPwr_still_eq, State.supLog_still]
      obtain ⟨hn, htick, hl, -⟩ := hs
      rw [hst] at hl
      refine ⟨hn, htick, ?_, fun h0 => absurd (h0.symm.trans hr) Bool.false_ne_true⟩
      exact stepLegal_vault hl
    have hu := State.wakeAccept_sound 0 ht
    exact State.ite_sound (State.wakeAccept_sound 1 hu) hu
  · exact hs

theorem execResetButton_sound (released : Bool) (q : SeqIn) {s : State} (hs : s.powerSound) :
    ReachesSound (execResetButton released q s) := by
  have ht := State.wakeLevel_sound F.RTD_WAKELVL_BTN (!released)
    (powerSound_of_still (s.rootWr_still F.RTD_BTN_PRESS (satAdd 16 (s.rootRd F.RTD_BTN_PRESS) 1)) hs)
  exact (reachesSound_next _).mpr (State.ite_sound hs (State.ite_sound (State.wakeAccept_sound 6 ht) (State.moduleReset_sound 4 q ht)))

theorem execThermalReturn_sound {s : State} (hs : s.powerSound) : ReachesSound (execThermalReturn s) := by
  refine (reachesSound_next _).mpr ?_
  split
  · exact State.ite_sound (State.kick_sound (powerSound_of_still (s.wr_still _ _) hs)) hs
  · exact hs

theorem execThermalCut_sound (sensor : Option Nat) (q : SeqIn) {s : State} (hs : s.powerSound) :
    ReachesSound (execThermalCut sensor q s) := by
  refine (reachesSound_next _).mpr (State.ite_sound hs ?_)
  split
  · dsimp only
    refine State.ite_sound_of (fun h => ?_) hs
    obtain ⟨hlive, hst, hb⟩ := (s.powerSound_iff.mp hs).st_of_canopy h.2.1
    have hc : s.still.canopyOn = true := h.2.1
    have ht := s.record_still 0x00 0x42 sevSafety 0 0 0
    refine State.runSteps_sound (by decide) (by decide) q _ (State.pwrEnter_sound (ht ▸ hlive) ?_)
    rw [ht, hb, hc]
    rcases hst with hst | hst <;> rw [hst] <;> rfl
  · exact State.ite_sound (State.moduleReset_sound 8 q hs) hs

theorem execThermalShed_sound {s : State} (hs : s.powerSound) : ReachesSound (execThermalShed s) := by
  refine (reachesSound_next _).mpr (State.ite_sound ?_ hs)
  extract_lets t n
  have ht : t.powerSound := powerSound_of_still (s.wr_still F.SYS_SHED_SHST 2) hs
  have hstep : t.pwr.step = n := rfl
  clear_value n t
  have hl := ht.2.2.1
  split
  next h =>
    rw [hstep, h.1, h.2] at hl
    obtain ⟨hb, hc⟩ := stepLegal_field hl
    obtain ⟨hlive, -, -⟩ := (t.powerSound_iff.mp ht).of_idle (hstep.trans h.1) hb
    refine State.graceEnds_sound (State.pwrEnter_sound hlive ?_)
    exact (by rw [h.2, hb, hc]; rfl : stepLegal t.pwr.st 0x13 none t.bedOn t.canopyOn = true)
  split
  · exact State.graceEnds_sound ht
  split
  · obtain ⟨hturn, hst, hb, hc⟩ := stepLegal_doze hl (by omega)
    exact State.reversed_sound (State.setStep_zero_sound ht hturn (by rw [hst, hb, hc]; rfl))
  split
  · exact State.turn_sound ht (by omega) (by unfold reversal; split_ifs <;> omega)
  split
  · exact State.reversed_sound (State.canopyStep_sound ht (by omega) (.inr rfl))
  split
  · exact State.reversed_sound (State.graceEnds_sound (State.canopyStep_sound ht (by omega) (.inl rfl)))
  · exact State.ite_sound (State.reversed_sound (State.setTurn_sound ht (stepLegal_none hl))) ht

theorem execDeferredFstableWrite_sound (failed : List Nat) {s : State} (hs : s.powerSound) :
    ReachesSound (execDeferredFstableWrite failed s) := by
  have ha : (s.tokAsk 6 6 0xB).1.powerSound := powerSound_of_still (s.tokAsk_still 6 6 0xB) hs
  have ht := powerSound_of_still (State.deferredTable_still (s.tokAsk 6 6 0xB).1 failed) ha
  exact (reachesSound_next _).mpr (State.ite_sound (State.ite_sound (State.kick_sound (State.setPwr_sound ht ⟨rfl, rfl, rfl⟩)) ha) hs)

theorem execNoDaleRestart_sound (q : SeqIn) {s : State} (hs : s.powerSound) : ReachesSound (execNoDaleRestart q s) := by
  refine (reachesSound_next _).mpr ?_
  split
  · exact State.ite_sound (State.canopyRestart_sound 7 q (powerSound_of_still (by simp) hs)) hs
  · exact hs

theorem execRegisterWrite_sound (agent : Agent) (addr size value : Nat) {s : State} (hs : s.powerSound) :
    ReachesSound (execRegisterWrite agent addr size value s) :=
  (reachesSound_next _).mpr (State.writeAt_sound _ _ _ _ hs)

theorem execServiceRead_sound (f : EthFrame) {s : State} (hs : s.powerSound) : ReachesSound (execServiceRead f s) :=
  (reachesSound_next _).mpr (State.service_sound _ _ hs)

theorem execServiceWrite_sound (f : EthFrame) {s : State} (hs : s.powerSound) : ReachesSound (execServiceWrite f s) :=
  (reachesSound_next _).mpr (State.service_sound _ _ hs)

theorem execRootPowerOn_sound {s : State} (hs : s.powerSound) : ReachesSound (execRootPowerOn s) := by
  refine (reachesSound_next _).mpr ?_
  split
  · exact hs
  next h =>
    obtain ⟨⟨hc, hb⟩, hn, -, -⟩ := hs
    have hbed : s.bedOn = false := Bool.eq_false_iff.mpr fun h1 => h (hb h1)
    have hcan : s.canopyOn = false := Bool.eq_false_iff.mpr fun h1 => h (hb (hc h1))
    extract_lets v _ evr pwr _ upd _ t u w
    have ht : w.still = { s.still with rootOn := true, st := 0, step := 0, turn := none } := by simp [w, u, t, pwr]; rfl
    have hsound : w.powerSound := by
      rw [State.powerSound_iff, ht]
      refine ⟨⟨hc, fun _ => rfl⟩, hn, ?_, nofun⟩
      exact (by rw [hbed, hcan]; rfl : stepLegal 0 0 none s.bedOn s.canopyOn = true)
    exact State.ite_sound (powerSound_of_still (by simp) hsound) hsound

theorem execCellMeasure_sound (mv : Nat) (dq : Int) (saveOk : Bool) {s : State} (hs : s.powerSound) :
    ReachesSound (execCellMeasure mv dq saveOk s) := by
  refine (reachesSound_next _).mpr (State.ite_sound hs ?_)
  extract_lets v t1 t2 charging t3 p t4 below run q t5 t6 t7
  have h3 : t3.still = s.still := by simp [t3, t2, t1]
  clear_value t3
  have h4 : t4.still = s.still := by simp [t4, p, h3]
  clear_value t4
  have h7 : t7.powerSound := powerSound_of_still (by simp [t7, t6, t5, q, h4]) hs
  clear_value t7
  split
  next h =>
    obtain ⟨⟨hc, hb⟩, hn, hl, -⟩ := h7
    obtain ⟨hbed, hcan⟩ := stepLegal_vault_off (h.2 ▸ hl)
    exact ⟨⟨hc, fun h1 => absurd (h1.symm.trans hbed) (by decide)⟩, hn, hl, fun _ => h.2⟩
  · exact h7

theorem State.tick_sound {s : State} (hs : s.powerSound) : s.tick.powerSound := by
  have hn : (s.now + 8) % 8 = 0 := (Nat.add_mod_right _ _).trans hs.2.1
  have hnow : ({ s with now := s.now + 8 } : State).powerSound := ⟨hs.1, hn, hs.2.2⟩
  unfold State.tick
  refine State.ite_sound hs (State.ite_sound ?_ (State.ite_sound ?_ (State.ite_sound ?_ ?_)))
  · exact powerSound_of_still (by simp) hnow
  · exact powerSound_of_still (by simp) hnow
  · exact powerSound_of_still (by simp) hs
  · exact powerSound_of_still (by simp) hs

/-- Every command from a sound power state completes in one. -/
theorem exec_sound (c : Instr) {s : State} (hs : s.powerSound) : ReachesSound (exec c s) := by
  cases hp : c.movesPower with
  | false =>
    obtain ⟨t, ht, h⟩ := exec_still hp s
    exact ⟨t, ht, powerSound_of_still h hs⟩
  | true =>
    cases c <;> simp only [Instr.movesPower, Bool.false_eq_true] at hp
    case registerWrite => exact execRegisterWrite_sound _ _ _ _ hs
    case selectiveWake => exact execSelectiveWake_sound _ _ hs
    case serviceRead => exact execServiceRead_sound _ hs
    case serviceWrite => exact execServiceWrite_sound _ hs
    case supplyFailure => exact execSupplyFailure_sound _ _ hs
    case supplyReturn => exact execSupplyReturn_sound _ hs
    case wake => exact execWake_sound _ hs
    case wakeTimerExpiry => exact execWakeTimerExpiry_sound hs
    case bedUp => exact execBedUp_sound _ hs
    case bedDown => exact execBedDown_sound _ hs
    case canopyUp => exact execCanopyUp_sound _ hs
    case canopyUpRetry => exact execCanopyUpRetry_sound _ hs
    case canopyDown => exact execCanopyDown_sound _ hs
    case canopyGraceTimeout => exact execCanopyGraceTimeout_sound hs
    case pwrreqGo => exact execPwrreqGo_sound _ _ hs
    case pwrreqTarget => exact execPwrreqTarget_sound _ _ hs
    case ignitionRise => exact execIgnitionRise_sound hs
    case ignitionOffTimeout => exact execIgnitionOffTimeout_sound _ hs
    case sleepHold => exact execSleepHold_sound hs
    case keepawake => exact execKeepawake_sound _ hs
    case sleepHoldExpiry => exact execSleepHoldExpiry_sound hs
    case sleepWaitExpiry => exact execSleepWaitExpiry_sound hs
    case lateWake => exact execLateWake_sound _ hs
    case moduleReset => exact execModuleReset_sound _ _ _ hs
    case canopyRestart => exact execCanopyRestart_sound _ _ _ hs
    case resetButton => exact execResetButton_sound _ _ hs
    case thermalShed => exact execThermalShed_sound hs
    case thermalReturn => exact execThermalReturn_sound hs
    case thermalCut => exact execThermalCut_sound _ _ hs
    case noDaleRestart => exact execNoDaleRestart_sound _ hs
    case deferredFstableWrite => exact execDeferredFstableWrite_sound _ hs
    case wakeInputEdge => exact execWakeInputEdge_sound _ _ hs
    case rootPowerOn => exact execRootPowerOn_sound hs
    case cellMeasure => exact execCellMeasure_sound _ _ _ hs

/-- Settles O5: a step is the command in front, or a tick of time, and neither leaves the sound power states. -/
theorem powerStateStaysSound : Obligations.PowerStateStaysSound := by
  intro s t hs ht
  cases hp : s.pending with
  | nil =>
    rw [step_nil s hp] at ht
    cases ht
    exact State.tick_sound hs
  | cons c rest =>
    rw [step_cons c rest s hp] at ht
    obtain ⟨u, hu, hsound⟩ := exec_sound c (s := { s with pending := rest }) hs
    cases hu.symm.trans ht
    exact hsound

end Sys2Proof.Machine
end

section
/-! SUPPORT. The reset state meets the invariants (R12, R49, R492). -/

namespace Sys2Proof.Machine

/-- After reset every ring's head is entry 0. -/
theorem State.reset_ringHead (q : Nat) : State.reset.ringHead q = 0 := by
  have h : ∀ i : Fin 112, getBits (regReset State.reset.code State.reset.hwrev (Reg.RNG_QnSTAT i)) 15 0 = 0 := by decide
  have hq : Reg.RNG_QnSTAT (q % 112) = Reg.RNG_QnSTAT q := by simp [Reg.RNG_QnSTAT]
  rw [State.ringHead, State.rd, State.reset_reg]
  have h1 := h ⟨q % 112, Nat.mod_lt _ (by decide)⟩
  rw [hq] at h1
  exact h1

/-- Settles O3: Root-armed and beyond are off, and nothing is listed. -/
theorem resetIsSound : Obligations.ResetIsSound :=
  ⟨⟨⟨nofun, nofun⟩, rfl, rfl, nofun⟩, State.reset_memWf, State.reset_regsWf,
    fun q => ⟨by rw [State.reset_ringHead]; exact Nat.two_pow_pos _, Nat.two_pow_pos _⟩⟩

end Sys2Proof.Machine
end

section
/-! SUPPORT. Every operation keeps memory and the register map in canonical form (R32, R85), one lemma for each operation, each citing those
of the operations it calls. -/

namespace Sys2Proof.Machine

/-- Memory and the register map stand in their canonical forms. -/
def State.wf (s : State) : Prop := s.memWf ∧ s.regsWf

/-- `State.wf` in the spelling that the lemmas of this part rewrite. -/
def State.canon (s : State) : Prop := s.wf

/-- The state `t`, made from `s`, is canonical where `s` is. Stated as an equation, so that simp follows a chain of operations of any length
back to the state it starts from: the second alternative only says that `t` may be canonical where `s` is not. -/
abbrev KeepsCanon (s t : State) : Prop := t.canon ↔ s.canon ∨ t.wf

theorem KeepsCanon.of {s t : State} (h : s.canon → t.canon) : KeepsCanon s t :=
  ⟨.inr, fun hst => hst.elim h id⟩

theorem KeepsCanon.refl (s : State) : KeepsCanon s s := .of id

theorem KeepsCanon.apply {s t : State} (h : KeepsCanon s t) (hs : s.canon) : t.canon := h.mpr (.inl hs)

/-- The command whose outcome is `o` completes in a canonical state. -/
def CanonOut (o : Host.Outcome State Fault Refusal) : Prop := ∃ t, o = .next t ∧ t.canon

@[simp] theorem canonOut_next (t : State) : CanonOut (.next t) ↔ t.canon := by simp [CanonOut]

/-- The effect of a Furrow instruction, where it has one, is canonical. -/
def FurOut.canon : FurOut → Prop
  | .fault _ => True
  | .ok t _ => t.canon

@[simp] theorem FurOut.canon_fault (c : Nat) : (FurOut.fault c).canon := trivial
@[simp] theorem FurOut.canon_ok (t : State) (sc : Scan) : (FurOut.ok t sc).canon ↔ t.canon := Iff.rfl
@[simp] theorem FurOut.canon_ite (c : Prop) [Decidable c] (a b : FurOut) :
    (if c then a else b).canon ↔ if c then a.canon else b.canon := by split <;> rfl

/-! ### Record updates, branches and loops -/

/-- A record update that keeps the registers of `t` and its memory is canonical where `t` is. -/
@[simp] theorem State.canon_mk_regs (t : State) (code : Code) (hwrev : Nat) (rootOn bedOn canopyOn : Bool) (now : Nat)
    (rootRegs : SMap W32) (latches : List Latch) (wide : SMap Nat) (banks : SMap W32) (badParity : List Nat) (mem : Memory) (resp : Resp)
    (irqs : List Irq) (free : Nat) (fab : Fab) (bridge : Bridge) (rings : SMap Ring) (mbxStage : SMap W32) (held : List Nat)
    (mbxOwed : List (Nat × Nat)) (evr : Evr) (tim : Timing) (toks : SMap Token) (ing : Ingest) (cam : Camera) (pra : Prairie)
    (prod : Products) (gns : Gnss) (trl : Trellis) (fur : Furrow) (vlv : Valves) (lsw : Switches) (outs : Outs) (can : Cans) (eth : Eth)
    (pan : Panel) (dram : Dram) (nand : Nand) (traps : SMap CoreTrap) (ter : Terrace) (pce : Pce) (pwr : Pwr) (hlt : Health) (upd : Upd)
    (pending : List Instr) (hc : code = t.code) (hh : hwrev = t.hwrev) (hm : mem = t.mem) :
    State.canon (State.mk code hwrev rootOn bedOn canopyOn now t.regs rootRegs latches wide banks badParity mem resp irqs free fab
      bridge rings mbxStage held mbxOwed evr tim toks ing cam pra prod gns trl fur vlv lsw outs can eth pan dram nand traps ter pce pwr hlt
      upd pending) ↔ t.canon := by
  subst hc hh hm; rfl

/-- Poison marks set or cleared in memory keep the canonical form. -/
theorem State.mark_canon (s : State) (g : Nat) (p : Bool) : KeepsCanon s { s with mem := s.mem.mark g p } :=
  .of fun h => ⟨Memory.wf_mark _ _ h.1, h.2⟩

theorem State.remark_canon (s : State) (a n : Nat) (p : Bool) : KeepsCanon s { s with mem := s.mem.remark a n p } :=
  .of fun h => ⟨Memory.wf_remark _ _ _ h.1, h.2⟩

@[simp] theorem State.canon_ite (c : Prop) [Decidable c] (s t : State) : (if c then s else t).canon ↔ if c then s.canon else t.canon := by
  split <;> rfl

@[simp] theorem State.canon_fst_ite {α : Type} (c : Prop) [Decidable c] (p q : State × α) :
    (if c then p else q).1.canon ↔ if c then p.1.canon else q.1.canon := by
  split <;> rfl

theorem State.canon_getD {o : Option State} {s : State} (hs : s.canon) (h : ∀ t, o = some t → t.canon) : (o.getD s).canon := by
  cases o with
  | none => exact hs
  | some t => exact h t rfl

theorem foldl_keepsCanon {α : Type} {f : State → α → State} (h : ∀ x a, x.canon → (f x a).canon) (l : List α) {s : State} (hs : s.canon) :
    (l.foldl f s).canon := by
  induction l generalizing s with
  | nil => exact hs
  | cons a l ih => exact ih (h s a hs)

@[simp] theorem foldl_canon {α : Type} (f : State → α → State) (h : ∀ x a, x.canon → (f x a).canon) (l : List α) (s : State) :
    KeepsCanon s (l.foldl f s) := .of (foldl_keepsCanon h l)

/-- A loop over a state and a result keeps what each round keeps. -/
@[simp] theorem foldl_fst_canon {α β : Type} (f : State × β → α → State × β) (h : ∀ x a, x.1.canon → (f x a).1.canon) (l : List α)
    (x : State × β) : KeepsCanon x.1 (l.foldl f x).1 := by
  refine .of fun hx => ?_
  induction l generalizing x with
  | nil => exact hx
  | cons a l ih => exact ih _ (h x a hx)

/-- A loop over a state and two results keeps what each round keeps. -/
@[simp] theorem foldl_fst_fst_canon {α β γ : Type} (f : (State × β) × γ → α → (State × β) × γ)
    (h : ∀ x a, x.1.1.canon → (f x a).1.1.canon) (l : List α) (x : (State × β) × γ) : KeepsCanon x.1.1 (l.foldl f x).1.1 := by
  refine .of fun hx => ?_
  induction l generalizing x with
  | nil => exact hx
  | cons a l ih => exact ih _ (h x a hx)

/-! ### Registers and fields -/

@[simp] theorem State.setReg_canon (s : State) (key : Nat) (w : W32) : KeepsCanon s (s.setReg key w) :=
  .of fun h => ⟨h.1, State.regsWf_setReg key w h.2⟩

@[simp] theorem State.wr_canon (s : State) (f : Fld) (v : Nat) : KeepsCanon s (s.wr f v) := .of fun h => by simp [State.wr, h]
@[simp] theorem State.wrB_canon (s : State) (f : Fld) (b : Bool) : KeepsCanon s (s.wrB f b) := .of fun h => by simp [State.wrB, h]
@[simp] theorem State.incBy_canon (s : State) (f : Fld) (n : Nat) : KeepsCanon s (s.incBy f n) := .of fun h => by simp [State.incBy, h]
@[simp] theorem State.inc_canon (s : State) (f : Fld) : KeepsCanon s (s.inc f) := .of fun h => by simp [State.inc, h]
@[simp] theorem State.wrSat_canon (s : State) (f : Fld) (v : Nat) : KeepsCanon s (s.wrSat f v) := .of fun h => by simp [State.wrSat, h]
@[simp] theorem State.peak_canon (s : State) (f : Fld) (v : Nat) : KeepsCanon s (s.peak f v) := .of fun h => by simp [State.peak, h]

@[simp] theorem State.measured_canon (s : State) (last peakF : Fld) (v : Nat) : KeepsCanon s (s.measured last peakF v) := .of fun h => by
  simp [State.measured, h]

@[simp] theorem State.resetReg_canon (s : State) (key : Nat) : KeepsCanon s (s.resetReg key) := .of fun h => by simp [State.resetReg, h]

@[simp] theorem State.resetRegs_canon (s : State) (p : Nat → Bool) : KeepsCanon s (s.resetRegs p) :=
  .of fun h => ⟨h.1, State.regsWf_resetRegs p h.2⟩

@[simp] theorem State.wideSet_canon (s : State) (key v : Nat) : KeepsCanon s (s.wideSet key v) := .of fun h => by simp [State.wideSet, h]
@[simp] theorem State.wideAdd_canon (s : State) (key n : Nat) : KeepsCanon s (s.wideAdd key n) := .of fun h => by simp [State.wideAdd, h]
@[simp] theorem State.setBank_canon (s : State) (b key : Nat) (w : W32) : KeepsCanon s (s.setBank b key w) := .of fun h => by simp [State.setBank, h]

/-! ### Flags, interrupts and the event recorder -/

@[simp] theorem State.tickFree_canon (s : State) : KeepsCanon s s.tickFree := .of fun h => by simp [State.tickFree, h]
@[simp] theorem State.irq_canon (s : State) (d : Dest) (src : IrqSrc) : KeepsCanon s (s.irq d src) := .of fun h => by simp [State.irq, h]
@[simp] theorem State.irqCarry_canon (s : State) (src : IrqSrc) : KeepsCanon s (s.irqCarry src) := .of fun h => by simp [State.irqCarry, h]
@[simp] theorem State.irqScare_canon (s : State) (src : IrqSrc) : KeepsCanon s (s.irqScare src) := .of fun h => by simp [State.irqScare, h]
@[simp] theorem State.irqBoth_canon (s : State) (src : IrqSrc) : KeepsCanon s (s.irqBoth src) := .of fun h => by simp [State.irqBoth, h]
@[simp] theorem State.notify_canon (s : State) (stat ie : Fld) : KeepsCanon s (s.notify stat ie) := .of fun h => by simp [State.notify, h]
@[simp] theorem State.notifyDale_canon (s : State) (stat ie : Fld) : KeepsCanon s (s.notifyDale stat ie) := .of fun h => by simp [State.notifyDale, h]
@[simp] theorem State.flag_canon (s : State) (stat ie : Fld) : KeepsCanon s (s.flag stat ie) := .of fun h => by simp [State.flag, h]
@[simp] theorem State.flagDale_canon (s : State) (stat ie : Fld) : KeepsCanon s (s.flagDale stat ie) := .of fun h => by simp [State.flagDale, h]
@[simp] theorem State.setRoot_canon (s : State) (key : Nat) (w : W32) : KeepsCanon s (s.setRoot key w) := .of fun h => by simp [State.setRoot, h]
@[simp] theorem State.rootWr_canon (s : State) (f : Fld) (v : Nat) : KeepsCanon s (s.rootWr f v) := .of fun h => by simp [State.rootWr, h]
@[simp] theorem State.evrQueueRegs_canon (s : State) : KeepsCanon s s.evrQueueRegs := .of fun h => by simp [State.evrQueueRegs, h]
@[simp] theorem State.evrDrop_canon (s : State) : KeepsCanon s s.evrDrop := .of fun h => by simp [State.evrDrop, h]

@[simp] theorem State.enqueue_canon (s : State) (r : Rec) : KeepsCanon s (s.enqueue r).1 := by
  refine .of fun h => ?_
  unfold State.enqueue
  (repeat' split) <;> simp [h]

@[simp] theorem State.setBucket_canon (s : State) (code : Nat) (b : Bucket) : KeepsCanon s (s.setBucket code b) := .of fun h => by
  simp [State.setBucket, h]

@[simp] theorem State.refill_canon (s : State) (sev : Nat) : KeepsCanon s (s.refill sev) := .of fun h => by simp [State.refill, h]
@[simp] theorem State.refillDue_canon (s : State) (sev : Nat) : KeepsCanon s (s.refillDue sev) := .of fun h => by simp [State.refillDue, h]

@[simp] theorem State.takeBucket_canon (s : State) (code sev : Nat) : KeepsCanon s (s.takeBucket code sev).1 := .of fun h => by
  simp [State.takeBucket, h]

@[simp] theorem State.clearSupp_canon (s : State) (code : Nat) : KeepsCanon s (s.clearSupp code) := .of fun h => by simp [State.clearSupp, h]
@[simp] theorem State.evrFillRegs_canon (s : State) : KeepsCanon s s.evrFillRegs := .of fun h => by simp [State.evrFillRegs, h]

@[simp] theorem State.appendRec_canon (s : State) (keep : List (Nat × Rec)) (r : Rec) : KeepsCanon s (s.appendRec keep r) := by
  refine .of fun h => ?_
  simp [State.appendRec, h]

@[simp] theorem State.storeRec_canon (s : State) (r : Rec) : KeepsCanon s (s.storeRec r) := by
  refine .of fun h => ?_
  unfold State.storeRec
  (repeat' split) <;> simp [h]

@[simp] theorem State.record_canon (s : State) (src ev sev p0 p1 p2 : Nat) : KeepsCanon s (s.record src ev sev p0 p1 p2) := .of fun h => by
  simp [State.record, h]

/-! ### Shared operations -/

@[simp] theorem State.fail_canon (s : State) : KeepsCanon s s.fail := .of fun h => by simp [State.fail, h]
@[simp] theorem State.failFor_canon (s : State) (a : Agent) : KeepsCanon s (s.failFor a) := .of fun h => by simp [State.failFor, h]
@[simp] theorem State.failReq_canon (s : State) (req : Nat) : KeepsCanon s (s.failReq req) := .of fun h => by simp [State.failReq, h]
@[simp] theorem State.done_canon (s : State) : KeepsCanon s s.done := .of fun h => by simp [State.done, h]
@[simp] theorem State.answer_canon (s : State) (v : Nat) : KeepsCanon s (s.answer v) := .of fun h => by simp [State.answer, h]

@[simp] theorem State.gate_canon (s : State) (a : Agent) (blk off : Nat) (k : State → State) (h : ∀ t, t.canon → (k t).canon) :
    KeepsCanon s (s.gate a blk off k) := by
  refine .of fun hs => ?_
  simp [State.gate, h, hs]

@[simp] theorem State.reencode_canon (s : State) (a n : Nat) : KeepsCanon s (s.reencode a n) := .of fun h => by simp [State.reencode, h]

@[simp] theorem State.storeOne_canon (s : State) (a : Nat) (b : Bytes) (p : Bool) : KeepsCanon s (s.storeOne a b p) :=
  .of fun h => ⟨State.memWf_storeOne a b p h.1, ((s.reencode_canon a b.length).apply h).2⟩

@[simp] theorem State.mirrorCount_canon (s : State) (r : Fin 16) (lo n : Nat) : KeepsCanon s (s.mirrorCount r lo n) := .of fun h => by
  simp [State.mirrorCount, h]

@[simp] theorem State.mirror_canon (s : State) (a n : Nat) (p : Bool) : KeepsCanon s (s.mirror a n p) := .of fun h => by
  simp +contextual [State.mirror, h]

@[simp] theorem State.store_canon (s : State) (a : Nat) (b : Bytes) (p : Bool) : KeepsCanon s (s.store a b p) := .of fun h => by simp [State.store, h]
@[simp] theorem State.put_canon (s : State) (a : Nat) (b : Bytes) : KeepsCanon s (s.put a b) := .of fun h => by simp [State.put, h]

@[simp] theorem State.putContent_canon (s : State) (a n : Nat) (c : Content) : KeepsCanon s (s.putContent a n c) := .of fun h =>
  (State.mirror_canon _ a n false).apply
    ⟨Memory.wf_remark _ _ _ (Memory.wf_free _ _ _ h.1), ((s.reencode_canon a n).apply h).2⟩

@[simp] theorem State.putFree_canon (s : State) (a n : Nat) : KeepsCanon s (s.putFree a n) := .of fun h => by simp [State.putFree, h]

@[simp] theorem State.putZero_canon (s : State) (a n : Nat) : KeepsCanon s (s.putZero a n) := .of fun h =>
  (State.mirror_canon _ a n false).apply
    ⟨Memory.wf_remark _ _ _ (Memory.wf_zero _ _ h.1), ((s.reencode_canon a n).apply h).2⟩

@[simp] theorem State.handoff_canon (s : State) (a : Nat) (b : Bytes) : KeepsCanon s (s.handoff a b).1 := .of fun h => by simp [State.handoff, h]
@[simp] theorem State.accept_canon (s : State) (ls : List BridgeLine) : KeepsCanon s (s.accept ls) := .of fun h => by simp [State.accept, h]

@[simp] theorem State.bridgeWrite_canon (s : State) (a : Nat) (b : Bytes) : KeepsCanon s (s.bridgeWrite a b).1 := .of fun h => by
  simp [State.bridgeWrite, h]

@[simp] theorem State.engineWrite_canon (s : State) (a : Nat) (b : Bytes) : KeepsCanon s (s.engineWrite a b).1 := .of fun h => by
  simp [State.engineWrite, h]

@[simp] theorem State.entryOut_canon (s : State) (q a : Nat) (b : Bytes) : KeepsCanon s (s.entryOut q a b) := .of fun h => by simp [State.entryOut, h]
@[simp] theorem State.setRing_canon (s : State) (q : Nat) (r : Ring) : KeepsCanon s (s.setRing q r) := .of fun h => by simp [State.setRing, h]
@[simp] theorem State.mapBit_canon (s : State) (base q : Nat) (v : Bool) : KeepsCanon s (s.mapBit base q v) := .of fun h => by simp [State.mapBit, h]
@[simp] theorem State.fullBit_canon (s : State) (q : Nat) : KeepsCanon s (s.fullBit q) := .of fun h => by simp [State.fullBit, h]
@[simp] theorem State.advance_canon (s : State) (q : Nat) : KeepsCanon s (s.advance q) := .of fun h => by simp [State.advance, h]
@[simp] theorem State.ringIrq_canon (s : State) (q : Nat) (src : IrqSrc) : KeepsCanon s (s.ringIrq q src) := .of fun h => by simp [State.ringIrq, h]
@[simp] theorem State.ringPending_canon (s : State) (q : Nat) : KeepsCanon s (s.ringPending q) := .of fun h => by simp [State.ringPending, h]
@[simp] theorem State.ringErr_canon (s : State) (q cause : Nat) : KeepsCanon s (s.ringErr q cause) := .of fun h => by simp [State.ringErr, h]
@[simp] theorem State.ringRefuse_canon (s : State) (q cause : Nat) : KeepsCanon s (s.ringRefuse q cause) := .of fun h => by simp [State.ringRefuse, h]

@[simp] theorem State.doorbellRefuse_canon (s : State) (q cause : Nat) : KeepsCanon s (s.doorbellRefuse q cause) := .of fun h => by
  simp [State.doorbellRefuse, h]

@[simp] theorem State.writeEntry_canon (s : State) (q op status estat : Nat) (delayed overdue poison : Bool) (tag sq sqidx lateness : Nat)
    (result : Bytes) : KeepsCanon s (s.writeEntry q op status estat delayed overdue poison tag sq sqidx lateness result) := by
  refine .of fun h => ?_
  simp [State.writeEntry, h]

@[simp] theorem State.dropEntry_canon (s : State) (q : Nat) : KeepsCanon s (s.dropEntry q) := .of fun h => by simp [State.dropEntry, h]

@[simp] theorem State.looseEntry_canon (s : State) (q op tag status estat : Nat) (poison : Bool) (result : Bytes) (ip : Bool) :
    KeepsCanon s (s.looseEntry q op tag status estat poison result ip).1 := by
  refine .of fun h => ?_
  simp [State.looseEntry, h]

@[simp] theorem State.eventEntry_canon (s : State) (q op tag estat : Nat) (result : Bytes) (ip : Bool) :
    KeepsCanon s (s.eventEntry q op tag estat result ip).1 := by
  refine .of fun h => ?_
  simp [State.eventEntry, h]

@[simp] theorem State.unreserve_canon (s : State) (q : Nat) (d : Desc) : KeepsCanon s (s.unreserve q d) := .of fun h => by simp [State.unreserve, h]

@[simp] theorem State.unfence_canon (s : State) (q : Nat) : KeepsCanon s (s.unfence q) := by
  refine .of fun h => ?_
  unfold State.unfence
  split <;> simp [h]

@[simp] theorem State.complete_canon (s : State) (q : Nat) (d : Desc) (r : Result) : KeepsCanon s (s.complete q d r) := .of fun h => by
  simp [State.complete, h]

@[simp] theorem State.serve_canon (s : State) (q op : Nat) (f : Desc → State → State × Result) (h : ∀ d t, t.canon → (f d t).1.canon) :
    KeepsCanon s (s.serve q op f) := by
  refine .of fun hs => ?_
  unfold State.serve
  split <;> simp [h, hs]

@[simp] theorem State.lateDesc_canon (s : State) (q : Nat) (d : Desc) (n : Nat) : KeepsCanon s (s.lateDesc q d n) := .of fun h => by
  simp [State.lateDesc, h]

@[simp] theorem State.serveAt_canon (s : State) (q op : Nat) (f : Desc → State → State × Result × Nat) (h : ∀ d t, t.canon → (f d t).1.canon) :
    KeepsCanon s (s.serveAt q op f) := by
  refine .of fun hs => ?_
  unfold State.serveAt
  split <;> simp [h, hs]

@[simp] theorem State.ringStop_canon (s : State) (q : Nat) : KeepsCanon s (s.ringStop q) := .of fun h => by simp +contextual [State.ringStop, h]
@[simp] theorem State.ringKill_canon (s : State) (q cause : Nat) : KeepsCanon s (s.ringKill q cause) := .of fun h => by simp [State.ringKill, h]
@[simp] theorem State.canopyRingsOff_canon (s : State) : KeepsCanon s s.canopyRingsOff := .of fun h => by simp +contextual [State.canopyRingsOff, h]
@[simp] theorem State.testRegs_canon (s : State) : KeepsCanon s s.testRegs := .of fun h => by simp [State.testRegs, h]

@[simp] theorem State.queueTest_canon (s : State) (res : Nat) (ds : List Desc) : KeepsCanon s (s.queueTest res ds) := .of fun h => by
  simp +contextual [State.queueTest, h]

@[simp] theorem State.triggerTest_canon (s : State) (res : Nat) : KeepsCanon s (s.triggerTest res) := .of fun h => by simp [State.triggerTest, h]

@[simp] theorem State.parityFault_canon (s : State) (blk off count : Nat) : KeepsCanon s (s.parityFault blk off count) := by
  refine .of fun h => ?_
  simp [State.parityFault, h]

@[simp] theorem State.poisonLine_canon (s : State) (q : Nat) : KeepsCanon s (s.poisonLine q) := by
  refine .of fun h => ?_
  unfold State.poisonLine
  split <;> simp [h]

@[simp] theorem State.reparity_canon (s : State) (key : Nat) : KeepsCanon s (s.reparity key) := .of fun h => by simp [State.reparity, h]

@[simp] theorem State.applyWrite_canon (s : State) (key : Nat) (v : W32) : KeepsCanon s (s.applyWrite key v) := by
  refine .of fun h => ?_
  unfold State.applyWrite
  split <;> simp [h]

@[simp] theorem State.plainWrite_canon (s : State) (key : Nat) (v : W32) : KeepsCanon s (s.plainWrite key v) := .of fun h => by
  simp [State.plainWrite, h]

@[simp] theorem State.mbxAbort_canon (s : State) (m : Nat) : KeepsCanon s (s.mbxAbort m) := .of fun h => by simp [State.mbxAbort, h]

@[simp] theorem State.mbxAbortAll_canon (s : State) (id : Nat) : KeepsCanon s (s.mbxAbortAll id) := .of fun h => by
  simp +contextual [State.mbxAbortAll, h]

@[simp] theorem State.mbxPayOwed_canon (s : State) : KeepsCanon s s.mbxPayOwed := .of fun h => by simp +contextual [State.mbxPayOwed, h]
@[simp] theorem State.holdAgent_canon (s : State) (id : Nat) : KeepsCanon s (s.holdAgent id) := .of fun h => by simp [State.holdAgent, h]

@[simp] theorem State.holdAgents_canon (s : State) (ids : List Nat) : KeepsCanon s (s.holdAgents ids) := .of fun h => by
  simp +contextual [State.holdAgents, h]

@[simp] theorem State.freeAgent_canon (s : State) (id : Nat) : KeepsCanon s (s.freeAgent id) := .of fun h => by simp [State.freeAgent, h]
@[simp] theorem State.trlBusy_canon (s : State) (busy : Nat) : KeepsCanon s (s.trlBusy busy) := .of fun h => by simp [State.trlBusy, h]
@[simp] theorem State.furBusy_canon (s : State) (busy : Nat) : KeepsCanon s (s.furBusy busy) := .of fun h => by simp [State.furBusy, h]

@[simp] theorem State.freeMeasure_canon (s : State) (key top : Nat) : KeepsCanon s (s.freeMeasure key top) := .of fun h => by
  simp [State.freeMeasure, h]

@[simp] theorem State.driveWear_canon (s : State) (d : Nat) : KeepsCanon s (s.driveWear d) := .of fun h => by simp [State.driveWear, h]
@[simp] theorem State.freeRates_canon (s : State) (key : Nat) : KeepsCanon s (s.freeRates key) := .of fun h => by simp [State.freeRates, h]

/-! ### Sensor ingest -/

@[simp] theorem State.setStream_canon (s : State) (n : Nat) (x : Stream) : KeepsCanon s (s.setStream n x) := .of fun h => by simp [State.setStream, h]
@[simp] theorem State.setChan_canon (s : State) (n : Nat) (x : Chan) : KeepsCanon s (s.setChan n x) := .of fun h => by simp [State.setChan, h]

@[simp] theorem State.ingEntry_canon (s : State) (tag subject : Nat) : KeepsCanon s (s.ingEntry tag subject) := .of fun h => by
  simp [State.ingEntry, h]

@[simp] theorem State.ingEvent_canon (s : State) (tag subject sev : Nat) : KeepsCanon s (s.ingEvent tag subject sev) := .of fun h => by
  simp [State.ingEvent, h]

@[simp] theorem State.mirrorFrame_canon (s : State) (n : Nat) (trays : List (List Samp × Bytes × Bool)) : KeepsCanon s (s.mirrorFrame n trays) := by
  refine .of fun h => ?_
  simp [State.mirrorFrame, h]

@[simp] theorem State.captureFrame_canon (s : State) (c : Capture) (trays : List (List Samp × Bytes × Bool)) (bytes : Bytes) :
    KeepsCanon s (s.captureFrame c trays bytes) := by
  refine .of fun h => ?_
  simp [State.captureFrame, h]

@[simp] theorem State.stepWpos_canon (s : State) (n : Nat) : KeepsCanon s (s.stepWpos n) := .of fun h => by simp [State.stepWpos, h]

@[simp] theorem State.framePublished_canon (s : State) (n : Nat) (trays : List (List Samp × Bytes × Bool)) (bytes : Bytes) :
    KeepsCanon s (s.framePublished n trays bytes) := by
  refine .of fun h => ?_
  simp +contextual [State.framePublished, h]

@[simp] theorem State.publishFrame_canon (s : State) (n : Nat) (samples : List Samp) : KeepsCanon s (s.publishFrame n samples) := by
  refine .of fun h => ?_
  simp [State.publishFrame, h]

@[simp] theorem State.frameLanded_canon (s : State) (n : Nat) : KeepsCanon s (s.frameLanded n) := by
  refine .of fun h => ?_
  unfold State.frameLanded
  split <;> simp [h]

@[simp] theorem State.publishOpen_canon (s : State) (n : Nat) : KeepsCanon s (s.publishOpen n) := .of fun h => by simp [State.publishOpen, h]

@[simp] theorem State.placeAt_canon (s : State) (n instant : Nat) (x : Samp) : KeepsCanon s (s.placeAt n instant x) := .of fun h => by
  simp [State.placeAt, h]

@[simp] theorem State.placeSample_canon (s : State) (n : Nat) (x : Samp) : KeepsCanon s (s.placeSample n x) := .of fun h => by
  simp [State.placeSample, h]

@[simp] theorem execFrameFlushTimeout_canon (n : Nat) (s : State) (h : s.canon) : CanonOut (execFrameFlushTimeout n s) := by
  unfold execFrameFlushTimeout
  split <;> simp [h]

@[simp] theorem State.dropFlight_canon (s : State) (n : Nat) : KeepsCanon s (s.dropFlight n) := .of fun h => by simp [State.dropFlight, h]

@[simp] theorem State.streamCfgWrite_canon (s : State) (n : Nat) (v : W32) : KeepsCanon s (s.streamCfgWrite n v) := .of fun h => by
  simp [State.streamCfgWrite, h]

@[simp] theorem execStreamEnable_canon (agent : Agent) (n : Nat) (value : W32) (s : State) (h : s.canon) :
    CanonOut (execStreamEnable agent n value s) := by
  simp +contextual [execStreamEnable, h]

@[simp] theorem execStreamDisable_canon (agent : Agent) (n : Nat) (value : W32) (s : State) (h : s.canon) :
    CanonOut (execStreamDisable agent n value s) := by
  simp +contextual [execStreamDisable, h]

@[simp] theorem execAnalogueSample_canon (n instant : Nat) (code : Int) (s : State) (h : s.canon) :
    CanonOut (execAnalogueSample n instant code s) := by
  simp [execAnalogueSample, h]

@[simp] theorem State.chanRestart_canon (s : State) (n : Nat) : KeepsCanon s (s.chanRestart n) := .of fun h => by simp [State.chanRestart, h]

@[simp] theorem State.chanCfgWrite_canon (s : State) (n : Nat) (v : W32) : KeepsCanon s (s.chanCfgWrite n v) := .of fun h => by
  simp [State.chanCfgWrite, h]

@[simp] theorem execAnalogueCfgWrite_canon (agent : Agent) (n : Nat) (value : W32) (s : State) (h : s.canon) :
    CanonOut (execAnalogueCfgWrite agent n value s) := by
  simp +contextual [execAnalogueCfgWrite, h]

@[simp] theorem State.setAcoustic_canon (s : State) (n : Nat) (x : Acoustic) : KeepsCanon s (s.setAcoustic n x) := .of fun h => by
  simp [State.setAcoustic, h]

@[simp] theorem execAcousticHit_canon (n : Nat) (rearmed : Bool) (s : State) (h : s.canon) : CanonOut (execAcousticHit n rearmed s) := by
  simp [execAcousticHit, h]

@[simp] theorem execAcousticReport_canon (n : Nat) (s : State) (h : s.canon) : CanonOut (execAcousticReport n s) := by simp [execAcousticReport, h]

@[simp] theorem State.acousticCfgWrite_canon (s : State) (n : Nat) (v : W32) : KeepsCanon s (s.acousticCfgWrite n v) := by
  refine .of fun h => ?_
  simp [State.acousticCfgWrite, h]

@[simp] theorem execAcousticRawSample_canon (n : Nat) (value : Int) (s : State) (h : s.canon) : CanonOut (execAcousticRawSample n value s) := by
  simp [execAcousticRawSample, h]

@[simp] theorem State.setFreq_canon (s : State) (n : Nat) (x : FreqIn) : KeepsCanon s (s.setFreq n x) := .of fun h => by simp [State.setFreq, h]

@[simp] theorem execFreqEdge_canon (n : Nat) (step : Int) (s : State) (h : s.canon) : CanonOut (execFreqEdge n step s) := by
  unfold execFreqEdge
  dsimp only
  (repeat' split) <;> simp [h]

@[simp] theorem execFreqOutputSample_canon (n : Nat) (s : State) (h : s.canon) : CanonOut (execFreqOutputSample n s) := by
  unfold execFreqOutputSample
  (repeat' split) <;> simp [h]

@[simp] theorem State.freqCfgWrite_canon (s : State) (n : Nat) (v : W32) : KeepsCanon s (s.freqCfgWrite n v) := .of fun h => by
  simp [State.freqCfgWrite, h]

@[simp] theorem State.supplyFault_canon (s : State) (n fault : Nat) : KeepsCanon s (s.supplyFault n fault) := .of fun h => by
  simp [State.supplyFault, h]

@[simp] theorem execSupplyOvercurrent_canon (n : Nat) (s : State) (h : s.canon) : CanonOut (execSupplyOvercurrent n s) := by
  simp [execSupplyOvercurrent, h]

@[simp] theorem execSupplyBackfeed_canon (n : Nat) (s : State) (h : s.canon) : CanonOut (execSupplyBackfeed n s) := by simp [execSupplyBackfeed, h]
@[simp] theorem State.supplyOn_canon (s : State) (n : Nat) : KeepsCanon s (s.supplyOn n) := .of fun h => by simp [State.supplyOn, h]
@[simp] theorem execSupplyRetry_canon (n : Nat) (s : State) (h : s.canon) : CanonOut (execSupplyRetry n s) := by simp [execSupplyRetry, h]

@[simp] theorem execSupplyCurrentSample_canon (n ma : Nat) (s : State) (h : s.canon) : CanonOut (execSupplyCurrentSample n ma s) := by
  simp [execSupplyCurrentSample, h]

@[simp] theorem State.supplyCfgWrite_canon (s : State) (n : Nat) (v : W32) : KeepsCanon s (s.supplyCfgWrite n v) := .of fun h => by
  simp [State.supplyCfgWrite, h]

@[simp] theorem State.measureRefs_canon (s : State) (ab a b : Int) : KeepsCanon s (s.measureRefs ab a b) := .of fun h => by
  simp [State.measureRefs, h]

@[simp] theorem State.outvote_canon (s : State) (r : Nat) : KeepsCanon s (s.outvote r) := .of fun h => by simp +contextual [State.outvote, h]
@[simp] theorem State.unresolved_canon (s : State) : KeepsCanon s s.unresolved := .of fun h => by simp [State.unresolved, h]
@[simp] theorem State.vote_canon (s : State) (a b : Int) : KeepsCanon s (s.vote a b) := .of fun h => by simp [State.vote, h]
@[simp] theorem State.judgeRefs_canon (s : State) (ab a b : Int) : KeepsCanon s (s.judgeRefs ab a b) := .of fun h => by simp [State.judgeRefs, h]

@[simp] theorem execReferenceCheck_canon (ab a b : Int) (s : State) (h : s.canon) : CanonOut (execReferenceCheck ab a b s) := by
  simp [execReferenceCheck, h]

@[simp] theorem execCapture_canon (q : Nat) (s : State) (h : s.canon) : CanonOut (execCapture q s) := by
  unfold execCapture
  (repeat' split) <;> simp [h]

@[simp] theorem execRefcheck_canon (q : Nat) (ab a b : Int) (s : State) (h : s.canon) : CanonOut (execRefcheck q ab a b s) := by
  simp +contextual [execRefcheck, h]

/-! ### Camera pipeline -/

@[simp] theorem State.setLink_canon (s : State) (n : Nat) (x : CamLink) : KeepsCanon s (s.setLink n x) := .of fun h => by simp [State.setLink, h]
@[simp] theorem State.linkEnter_canon (s : State) (n st : Nat) : KeepsCanon s (s.linkEnter n st) := .of fun h => by simp [State.linkEnter, h]
@[simp] theorem State.camEvent_canon (s : State) (tag n : Nat) : KeepsCanon s (s.camEvent tag n) := .of fun h => by simp [State.camEvent, h]

@[simp] theorem State.camReject_canon (s : State) (cause unit : Nat) : KeepsCanon s (s.camReject cause unit) := .of fun h => by
  simp [State.camReject, h]

@[simp] theorem State.camBudget_canon (s : State) : KeepsCanon s s.camBudget := .of fun h => by simp [State.camBudget, h]

@[simp] theorem State.camRates_canon (s : State) (inPx donePx encPx : Nat) : KeepsCanon s (s.camRates inPx donePx encPx) := by
  refine .of fun h => ?_
  simp [State.camRates, h]

@[simp] theorem State.camAge_canon (s : State) : KeepsCanon s s.camAge := .of fun h => by simp [State.camAge, h]

@[simp] theorem State.writePlanes_canon (s : State) (n o a : Nat) (f : CamFrame) : KeepsCanon s (s.writePlanes n o a f) := by
  refine .of fun h => ?_
  simp +contextual [State.writePlanes, h]

@[simp] theorem State.writeSlot_canon (s : State) (n o : Nat) (f : CamFrame) : KeepsCanon s (s.writeSlot n o f).1 := by
  refine .of fun h => ?_
  unfold State.writeSlot
  (repeat' split) <;> simp [h]

@[simp] theorem State.holdSlot_canon (s : State) (key : Nat) : KeepsCanon s (s.holdSlot key) := .of fun h => by simp [State.holdSlot, h]
@[simp] theorem State.dropSlot_canon (s : State) (key : Nat) : KeepsCanon s (s.dropSlot key) := .of fun h => by simp [State.dropSlot, h]

@[simp] theorem State.closeFrame_canon (s : State) (n extra : Nat) : KeepsCanon s (s.closeFrame n extra) := by
  refine .of fun h => ?_
  unfold State.closeFrame
  dsimp only
  split <;> simp [h]

@[simp] theorem State.forgetSlots_canon (s : State) (n : Nat) : KeepsCanon s (s.forgetSlots n) := .of fun h => by simp [State.forgetSlots, h]
@[simp] theorem State.linkOff_canon (s : State) (n extra : Nat) : KeepsCanon s (s.linkOff n extra) := .of fun h => by simp [State.linkOff, h]
@[simp] theorem State.linkStart_canon (s : State) (n : Nat) : KeepsCanon s (s.linkStart n) := .of fun h => by simp [State.linkStart, h]

@[simp] theorem State.linkCtlWrite_canon (s : State) (n : Nat) (v : W32) : KeepsCanon s (s.linkCtlWrite n v) := .of fun h => by
  simp [State.linkCtlWrite, h]

@[simp] theorem execLinkEnable_canon (agent : Agent) (n : Nat) (value : W32) (s : State) (h : s.canon) :
    CanonOut (execLinkEnable agent n value s) := by
  simp +contextual [execLinkEnable, h]

@[simp] theorem execLinkDisable_canon (agent : Agent) (n : Nat) (value : W32) (s : State) (h : s.canon) :
    CanonOut (execLinkDisable agent n value s) := by
  simp +contextual [execLinkDisable, h]

@[simp] theorem execLinkTrainTimeout_canon (n : Nat) (s : State) (h : s.canon) : CanonOut (execLinkTrainTimeout n s) := by
  simp [execLinkTrainTimeout, h]

@[simp] theorem execLinkLock_canon (n remId : Nat) (s : State) (h : s.canon) : CanonOut (execLinkLock n remId s) := by simp [execLinkLock, h]
@[simp] theorem execLinkLockLost_canon (n : Nat) (s : State) (h : s.canon) : CanonOut (execLinkLockLost n s) := by simp [execLinkLockLost, h]
@[simp] theorem execFrameSyncSend_canon (n : Nat) (s : State) (h : s.canon) : CanonOut (execFrameSyncSend n s) := by simp [execFrameSyncSend, h]
@[simp] theorem execPocOvercurrent_canon (n : Nat) (s : State) (h : s.canon) : CanonOut (execPocOvercurrent n s) := by simp [execPocOvercurrent, h]
@[simp] theorem execPocRetry_canon (n : Nat) (s : State) (h : s.canon) : CanonOut (execPocRetry n s) := by simp [execPocRetry, h]
@[simp] theorem State.bufferRegs_canon (s : State) (n : Nat) : KeepsCanon s (s.bufferRegs n) := .of fun h => by simp [State.bufferRegs, h]

@[simp] theorem State.serveLines_canon (s : State) (k : Nat) : KeepsCanon s (s.serveLines k) := by
  induction k generalizing s with
  | zero => exact .refl _
  | succ k ih =>
    refine .of fun h => ?_
    unfold State.serveLines
    split <;> simp [ih, h]

@[simp] theorem State.takeTables_canon (s : State) (n : Nat) : KeepsCanon s (s.takeTables n).1 := .of fun h => by simp [State.takeTables, h]
@[simp] theorem State.skipFrame_canon (s : State) (n : Nat) : KeepsCanon s (s.skipFrame n) := .of fun h => by simp [State.skipFrame, h]
@[simp] theorem execFrameStart_canon (n served : Nat) (s : State) (h : s.canon) : CanonOut (execFrameStart n served s) := by simp [execFrameStart, h]

@[simp] theorem State.headerError_canon (s : State) (n : Nat) : KeepsCanon s (s.headerError n) := by
  refine .of fun h => ?_
  unfold State.headerError
  dsimp only
  split <;> simp [h]

@[simp] theorem State.imageLine_canon (s : State) (n : Nat) (line : List Nat) (crcBad : Bool) : KeepsCanon s (s.imageLine n line crcBad) := by
  refine .of fun h => ?_
  unfold State.imageLine
  dsimp only
  (repeat' split) <;> simp [h]

@[simp] theorem execLineArrival_canon (n : Nat) (px : CamLine) (crcBad hdrErr frameEnd : Bool) (served : Nat) (s : State) (h : s.canon) :
    CanonOut (execLineArrival n px crcBad hdrErr frameEnd served s) := by
  unfold execLineArrival
  dsimp only
  (repeat' split) <;> simp [h]

@[simp] theorem execLineTimeout_canon (n : Nat) (s : State) (h : s.canon) : CanonOut (execLineTimeout n s) := by
  unfold execLineTimeout
  split <;> simp [h]

@[simp] theorem execFrameStall_canon (n : Nat) (s : State) (h : s.canon) : CanonOut (execFrameStall n s) := by simp [execFrameStall, h]
@[simp] theorem State.camPoison_canon (s : State) : KeepsCanon s s.camPoison := .of fun h => by simp [State.camPoison, h]

@[simp] theorem State.historyLine_canon (s : State) (n i run : Nat) (f : CamFrame) (flags : Nat) :
    KeepsCanon s (s.historyLine n i run f flags).1 := by
  refine .of fun h => ?_
  unfold State.historyLine
  extract_lets w size a nr bad hit t tag v u
  have ht : t.canon := by simp [t, h]
  have hv : v.canon := by simp [v, ht]
  have hu : u.canon := by simp [u, ht, hv]
  exact (State.remark_canon _ _ _ _).apply hu

@[simp] theorem State.historyFrame_canon (s : State) (n : Nat) (f : CamFrame) : KeepsCanon s (s.historyFrame n f).1 := by
  refine .of fun h => ?_
  unfold State.historyFrame
  split
  · exact h
  · refine (foldl_fst_fst_canon _ (fun x i hx => ?_) _ _).apply h
    split <;> simp [hx]

@[simp] theorem State.setSession_canon (s : State) (k : Nat) (x : EncSession) : KeepsCanon s (s.setSession k x) := .of fun h => by
  simp [State.setSession, h]

@[simp] theorem State.releaseOldest_canon (s : State) (n k : Nat) : KeepsCanon s (s.releaseOldest n k) := by
  refine .of (foldl_keepsCanon (fun x i hx => ?_) _)
  dsimp only
  split <;> simp [hx]

@[simp] theorem State.trimHolds_canon (s : State) (n : Nat) : KeepsCanon s (s.trimHolds n) := by
  refine .of fun h => ?_
  unfold State.trimHolds
  dsimp only
  (repeat' split) <;> simp [h]

@[simp] theorem State.offerPicture_canon (s : State) (k n : Nat) (p : Picture) : KeepsCanon s (s.offerPicture k n p) := by
  refine .of fun h => ?_
  simp [State.offerPicture, h]

@[simp] theorem execFrameProcessed_canon (n : Nat) (s : State) (h : s.canon) : CanonOut (execFrameProcessed n s) := by
  unfold execFrameProcessed
  dsimp only
  split <;> simp +contextual [h]

@[simp] theorem State.encCfgWrite_canon (s : State) (k : Nat) (v : W32) : KeepsCanon s (s.encCfgWrite k v) := .of fun h => by
  simp +contextual [State.encCfgWrite, h]

@[simp] theorem State.encCtlWrite_canon (s : State) (v : W32) : KeepsCanon s (s.encCtlWrite v) := .of fun h => by
  simp +contextual [State.encCtlWrite, h]

@[simp] theorem State.encStopIfDue_canon (s : State) (k : Nat) : KeepsCanon s (s.encStopIfDue k) := .of fun h => by
  simp +contextual [State.encStopIfDue, h]

@[simp] theorem State.putUnit_canon (s : State) (a len : Nat) (idr : Bool) : KeepsCanon s (s.putUnit a len idr) := .of fun h => by
  simp [State.putUnit, h]

@[simp] theorem execPictureEncode_canon (n len qp : Nat) (s : State) (h : s.canon) : CanonOut (execPictureEncode n len qp s) := by
  unfold execPictureEncode
  dsimp only
  split <;> simp [h]

@[simp] theorem State.bsrposSet_canon (s : State) (v : W32) : KeepsCanon s (s.bsrposSet v) := .of fun h => by simp [State.bsrposSet, h]

@[simp] theorem execBsrposWrite_canon (agent : Agent) (value : W32) (s : State) (h : s.canon) : CanonOut (execBsrposWrite agent value s) := by
  simp +contextual [execBsrposWrite, h]

@[simp] theorem State.encCmdWrite_canon (s : State) (k : Nat) (v : W32) : KeepsCanon s (s.encCmdWrite k v) := .of fun h => by
  simp [State.encCmdWrite, h]

@[simp] theorem execEncRestart_canon (agent : Agent) (n : Nat) (s : State) (h : s.canon) : CanonOut (execEncRestart agent n s) := by
  simp +contextual [execEncRestart, h]

@[simp] theorem execEncForceidr_canon (agent : Agent) (n : Nat) (s : State) (h : s.canon) : CanonOut (execEncForceidr agent n s) := by
  simp +contextual [execEncForceidr, h]

@[simp] theorem execLoadtab_canon (q : Nat) (s : State) (h : s.canon) : CanonOut (execLoadtab q s) := by simp +contextual [execLoadtab, h]

@[simp] theorem execCci_canon (q : Nat) (ack : Bool) (data : Nat) (s : State) (h : s.canon) : CanonOut (execCci q ack data s) := by
  simp +contextual [execCci, h]

@[simp] theorem State.copyRow_canon (s : State) (src dst n : Nat) : KeepsCanon s (s.copyRow src dst n) := .of fun h => by
  simp +contextual [State.copyRow, h]

@[simp] theorem execCamExport_canon (q : Nat) (s : State) (h : s.canon) : CanonOut (execCamExport q s) := by
  unfold execCamExport
  simp only [canonOut_next]
  split
  · refine (State.serve_canon _ _ _ _ fun d t ht => ?_).apply h
    (repeat' split) <;> simp +contextual [ht]
  · exact h

@[simp] theorem State.linkRegWrite_canon (s : State) (n off : Nat) (v : W32) : KeepsCanon s (s.linkRegWrite n off v) := by
  refine .of fun h => ?_
  simp [State.linkRegWrite, h]

@[simp] theorem State.linkBufWrite_canon (s : State) (n off : Nat) (v : W32) : KeepsCanon s (s.linkBufWrite n off v) := by
  refine .of fun h => ?_
  simp [State.linkBufWrite, h]

@[simp] theorem State.encRegWrite_canon (s : State) (k off : Nat) (v : W32) : KeepsCanon s (s.encRegWrite k off v) := .of fun h => by
  simp [State.encRegWrite, h]

@[simp] theorem State.camParity_canon (s : State) (off : Nat) : KeepsCanon s (s.camParity off) := .of fun h => by simp [State.camParity, h]

/-! ### Lift -/

@[simp] theorem State.poseRefresh_canon (s : State) : KeepsCanon s s.poseRefresh := .of fun h => by simp [State.poseRefresh, h]

/-! ### Maintenance tokens -/

@[simp] theorem State.setToken_canon (s : State) (c : Nat) (t : Token) : KeepsCanon s (s.setToken c t) := .of fun h => by simp [State.setToken, h]

@[simp] theorem State.tokGrant_canon (s : State) (c owner act since : Nat) : KeepsCanon s (s.tokGrant c owner act since) := by
  refine .of fun h => ?_
  unfold State.tokGrant
  dsimp only
  (repeat' split) <;> simp [h]

@[simp] theorem State.tokAsk_canon (s : State) (c owner act : Nat) : KeepsCanon s (s.tokAsk c owner act).1 := .of fun h => by simp [State.tokAsk, h]

@[simp] theorem State.tokGive_canon (s : State) (c : Nat) : KeepsCanon s (s.tokGive c) := by
  refine .of fun h => ?_
  unfold State.tokGive
  split <;> simp [h]

@[simp] theorem State.tokWithdraw_canon (s : State) (c owner act : Nat) : KeepsCanon s (s.tokWithdraw c owner act) := .of fun h => by
  simp [State.tokWithdraw, h]

@[simp] theorem State.tokEnd_canon (s : State) (owner : Nat) : KeepsCanon s (s.tokEnd owner) := .of fun h => by simp +contextual [State.tokEnd, h]

/-! ### Field grid -/

@[simp] theorem State.setSensor_canon (s : State) (n : Nat) (x : Sensor) : KeepsCanon s (s.setSensor n x) := .of fun h => by simp [State.setSensor, h]
@[simp] theorem State.showSensor_canon (s : State) (n st : Nat) : KeepsCanon s (s.showSensor n st) := .of fun h => by simp [State.showSensor, h]
@[simp] theorem State.praPoison_canon (s : State) : KeepsCanon s s.praPoison := .of fun h => by simp [State.praPoison, h]
@[simp] theorem State.praPoisons_canon (s : State) (n : Nat) : KeepsCanon s (s.praPoisons n) := .of fun h => by simp +contextual [State.praPoisons, h]

@[simp] theorem State.praReject_canon (s : State) (cause unit : Nat) : KeepsCanon s (s.praReject cause unit) := .of fun h => by
  simp [State.praReject, h]

@[simp] theorem State.praEvent_canon (s : State) (tag n : Nat) : KeepsCanon s (s.praEvent tag n) := .of fun h => by simp [State.praEvent, h]
@[simp] theorem State.showCorr_canon (s : State) (n : Nat) : KeepsCanon s (s.showCorr n) := .of fun h => by simp +contextual [State.showCorr, h]
@[simp] theorem State.installCal_canon (s : State) (n : Nat) : KeepsCanon s (s.installCal n) := .of fun h => by simp [State.installCal, h]
@[simp] theorem State.skipCycle_canon (s : State) : KeepsCanon s s.skipCycle := .of fun h => by simp [State.skipCycle, h]

@[simp] theorem State.activate_canon (s : State) (n : Net) (resident : Bool) : KeepsCanon s (s.activate n resident) := .of fun h => by
  simp +contextual [State.activate, h]

@[simp] theorem State.lidarShow_canon (s : State) (pts : List LidHit) (bad drop : Nat) (lidars : List (Nat × Nat)) :
    KeepsCanon s (s.lidarShow pts bad drop lidars) := by
  refine .of fun h => ?_
  simp +contextual [State.lidarShow, h]

@[simp] theorem State.beginCycle_canon (s : State) (net : Net) (paceTmo : Bool) (lidars : List (Nat × Nat)) :
    KeepsCanon s (s.beginCycle net paceTmo lidars) := by
  refine .of fun h => ?_
  simp +contextual [State.beginCycle, h]

@[simp] theorem State.cycleDue_canon (s : State) (paceTmo : Bool) (lidars : List (Nat × Nat)) : KeepsCanon s (s.cycleDue paceTmo lidars) := by
  refine .of fun h => ?_
  unfold State.cycleDue
  dsimp only
  (repeat' split) <;> simp [h]

@[simp] theorem execGridCycleStart_canon (sync : Nat) (lidars : List (Nat × Nat)) (s : State) (h : s.canon) :
    CanonOut (execGridCycleStart sync lidars s) := by
  simp [execGridCycleStart, h]

@[simp] theorem execPaceTimeout_canon (sync : Nat) (lidars : List (Nat × Nat)) (s : State) (h : s.canon) :
    CanonOut (execPaceTimeout sync lidars s) := by
  simp [execPaceTimeout, h]

@[simp] theorem State.dropFrame_canon (s : State) (n : Nat) : KeepsCanon s (s.dropFrame n) := .of fun h => by simp [State.dropFrame, h]

@[simp] theorem State.offerVision_canon (s : State) (net : Net) (n slot tend : Nat) : KeepsCanon s (s.offerVision net n slot tend) := by
  refine .of fun h => ?_
  unfold State.offerVision
  split <;> simp [h]

@[simp] theorem State.startVision_canon (s : State) : KeepsCanon s s.startVision := by
  refine .of fun h => ?_
  unfold State.startVision
  (repeat' split) <;> simp [h]

@[simp] theorem State.stage1Done_canon (s : State) (net : Net) (us : Nat) : KeepsCanon s (s.stage1Done net us) := by
  refine .of fun h => ?_
  unfold State.stage1Done
  split <;> simp [h]

@[simp] theorem execStage1Run_canon (n slot tend : Nat) (runs : List Nat) (s : State) (h : s.canon) :
    CanonOut (execStage1Run n slot tend runs s) := by
  unfold execStage1Run
  split <;> simp +contextual [h]

@[simp] theorem State.putTensor_canon (s : State) (a seed : Nat) (values : List (Nat × Nat)) (words : List Nat) :
    KeepsCanon s (s.putTensor a seed values words) := by
  refine .of fun h => ?_
  simp +contextual [State.putTensor, h]

@[simp] theorem State.refine_canon (s : State) (o : SensOut) (period : Nat) : KeepsCanon s (s.refine o period) := by
  refine .of fun h => ?_
  unfold State.refine
  dsimp only
  split <;> simp [h]

@[simp] theorem State.excludeSensor_canon (s : State) (n : Nat) (manual : Bool) : KeepsCanon s (s.excludeSensor n manual) := by
  refine .of fun h => ?_
  simp [State.excludeSensor, h]

@[simp] theorem State.reinstateSensor_canon (s : State) (n : Nat) : KeepsCanon s (s.reinstateSensor n) := .of fun h => by
  simp [State.reinstateSensor, h]

@[simp] theorem State.judgeSensor_canon (s : State) (o : SensOut) : KeepsCanon s (s.judgeSensor o) := by
  refine .of fun h => ?_
  unfold State.judgeSensor
  dsimp only
  split <;> simp [h]

@[simp] theorem State.gridEntry_canon (s : State) (slot gseq tg age flags npois : Nat) : KeepsCanon s (s.gridEntry slot gseq tg age flags npois) := by
  refine .of fun h => ?_
  simp [State.gridEntry, h]

@[simp] theorem State.keepGrid_canon (s : State) (c : GridCycle) (gseq flags : Nat) (words : List Nat) :
    KeepsCanon s (s.keepGrid c gseq flags words) := by
  refine .of fun h => ?_
  simp [State.keepGrid, h]

@[simp] theorem execGridPublish_canon (values : List (Nat × Nat)) (sens : List SensOut) (s : State) (h : s.canon) :
    CanonOut (execGridPublish values sens s) := by
  unfold execGridPublish
  split <;> simp +contextual [h]

@[simp] theorem State.showNet_canon (s : State) : KeepsCanon s s.showNet := .of fun h => by simp [State.showNet, h]

@[simp] theorem State.netBuild_canon (s : State) (d : Desc) (busy layersFit : Bool) : KeepsCanon s (s.netBuild d busy layersFit).1 := by
  refine .of fun h => ?_
  simp [State.netBuild, h]

@[simp] theorem execNetload_canon (q : Nat) (finished layersFit : Bool) (s : State) (h : s.canon) :
    CanonOut (execNetload q finished layersFit s) := by
  unfold execNetload
  (repeat' split) <;> simp [h]

@[simp] theorem State.deactivate_canon (s : State) : KeepsCanon s s.deactivate := .of fun h => by simp [State.deactivate, h]

@[simp] theorem execNetact_canon (q : Nat) (resident : Bool) (s : State) (h : s.canon) : CanonOut (execNetact q resident s) := by
  unfold execNetact
  simp only [canonOut_next]
  split
  · refine (State.serve_canon _ _ _ _ fun d t ht => ?_).apply h
    (repeat' split) <;> simp [ht]
  · exact h

@[simp] theorem execCalload_canon (q : Nat) (s : State) (h : s.canon) : CanonOut (execCalload q s) := by simp +contextual [execCalload, h]
@[simp] theorem execCalread_canon (q : Nat) (s : State) (h : s.canon) : CanonOut (execCalread q s) := by simp +contextual [execCalread, h]

@[simp] theorem State.freezeMask_canon (s : State) (mask : Nat) (v : Bool) : KeepsCanon s (s.freezeMask mask v) := .of fun h => by
  simp +contextual [State.freezeMask, h]

@[simp] theorem execCalfreeze_canon (q : Nat) (s : State) (h : s.canon) : CanonOut (execCalfreeze q s) := by
  unfold execCalfreeze
  (repeat' split) <;> simp [h]

@[simp] theorem execReinstate_canon (q : Nat) (s : State) (h : s.canon) : CanonOut (execReinstate q s) := by simp +contextual [execReinstate, h]
@[simp] theorem execExclude_canon (q : Nat) (s : State) (h : s.canon) : CanonOut (execExclude q s) := by simp +contextual [execExclude, h]

@[simp] theorem State.praGridWrite_canon (s : State) (off : Nat) (v : W32) : KeepsCanon s (s.praGridWrite off v) := by
  refine .of fun h => ?_
  unfold State.praGridWrite
  (repeat' split) <;> simp [h]

/-! ### Tracks, forecast and yield -/

@[simp] theorem State.setTrack_canon (s : State) (n : Nat) (x : Track) : KeepsCanon s (s.setTrack n x) := .of fun h => by simp [State.setTrack, h]
@[simp] theorem State.issueTid_canon (s : State) : KeepsCanon s s.issueTid.1 := .of fun h => by simp [State.issueTid, h]

@[simp] theorem State.updateSlot_canon (s : State) (c : TrackCounts) (tg n : Nat) (r : TrackRow) (held : Bool) :
    KeepsCanon s (s.updateSlot c tg n r held).1 := by
  refine .of fun h => ?_
  simp [State.updateSlot, h]

@[simp] theorem State.placeCand_canon (s : State) (c : TrackCounts) (tg : Nat) (r : TrackRow) : KeepsCanon s (s.placeCand c tg r).1 := by
  refine .of fun h => ?_
  unfold State.placeCand
  (repeat' split) <;> simp [h]

@[simp] theorem State.updateTracks_canon (s : State) (g : GridRef) (rows : List TrackRow) : KeepsCanon s (s.updateTracks g rows).1 := by
  refine .of fun h => ?_
  simp +contextual [State.updateTracks, h]

@[simp] theorem State.publishTracks_canon (s : State) (g : GridRef) (c : TrackCounts) (cleared : Bool) :
    KeepsCanon s (s.publishTracks g c cleared) := by
  refine .of fun h => ?_
  simp +contextual [State.publishTracks, h]

@[simp] theorem State.zoneLine_canon (s : State) (g : GridRef) : KeepsCanon s (s.zoneLine g) := .of fun h => by simp [State.zoneLine, h]

@[simp] theorem execTrackUpdate_canon (rows : List TrackRow) (s : State) (h : s.canon) : CanonOut (execTrackUpdate rows s) := by
  unfold execTrackUpdate
  split <;> simp [h]

@[simp] theorem State.trkClearWrite_canon (s : State) : KeepsCanon s s.trkClearWrite := .of fun h => by simp [State.trkClearWrite, h]

@[simp] theorem execTrackClear_canon (agent : Agent) (s : State) (h : s.canon) : CanonOut (execTrackClear agent s) := by
  simp +contextual [execTrackClear, h]

@[simp] theorem State.fcAbandon_canon (s : State) : KeepsCanon s s.fcAbandon := .of fun h => by simp [State.fcAbandon, h]
@[simp] theorem State.fcIssue_canon (s : State) (r : FcRun) : KeepsCanon s (s.fcIssue r) := .of fun h => by simp [State.fcIssue, h]

@[simp] theorem State.fcLanded_canon (s : State) : KeepsCanon s s.fcLanded := by
  refine .of fun h => ?_
  unfold State.fcLanded
  split <;> simp [h]

@[simp] theorem State.fcDelivered_canon (s : State) : KeepsCanon s s.fcDelivered := by
  refine .of fun h => ?_
  unfold State.fcDelivered
  split <;> simp [h]

@[simp] theorem State.landLine_canon (s : State) (l : BridgeLine) : KeepsCanon s (s.landLine l) := by
  refine .of fun h => ?_
  unfold State.landLine
  split <;> simp [h]

@[simp] theorem State.massTake_canon (s : State) (rho conf : List (Nat × Nat)) (poison : List Nat) : KeepsCanon s (s.massTake rho conf poison) := by
  refine .of fun h => ?_
  unfold State.massTake
  split <;> simp [h]

@[simp] theorem State.fcBuild_canon (s : State) (steps us : Nat) : KeepsCanon s (s.fcBuild steps us).1 := .of fun h => by simp [State.fcBuild, h]

@[simp] theorem execForecastSample_canon (massDone : Bool) (rho conf : List (Nat × Nat)) (poison : List Nat) (steps us : Nat) (s : State)
    (h : s.canon) : CanonOut (execForecastSample massDone rho conf poison steps us s) := by
  simp [execForecastSample, h]

@[simp] theorem State.yldDrop_canon (s : State) (g : Frac) : KeepsCanon s (s.yldDrop g) := .of fun h => by simp [State.yldDrop, h]
@[simp] theorem State.showTiles_canon (s : State) : KeepsCanon s s.showTiles := .of fun h => by simp [State.showTiles, h]
@[simp] theorem State.setTiles_canon (s : State) (l : List Tile) : KeepsCanon s (s.setTiles l) := .of fun h => by simp [State.setTiles, h]

@[simp] theorem State.writeTile_canon (s : State) (x : Tile) (extra : Nat) : KeepsCanon s (s.writeTile x extra) := .of fun h => by
  simp +contextual [State.writeTile, h]

@[simp] theorem State.closeTile_canon (s : State) (x : Tile) (extra : Nat) : KeepsCanon s (s.closeTile x extra) := .of fun h => by
  simp [State.closeTile, h]

@[simp] theorem State.openTile_canon (s : State) (te tn : Int) : KeepsCanon s (s.openTile te tn).1 := by
  refine .of fun h => ?_
  unfold State.openTile
  dsimp only
  (repeat' split) <;> simp [h]

@[simp] theorem State.keepTile_canon (s : State) (x : Tile) : KeepsCanon s (s.keepTile x) := .of fun h => by simp [State.keepTile, h]

@[simp] theorem State.addToCell_canon (s : State) (e n : Int) (wet water area : Frac) (flags : Nat) :
    KeepsCanon s (s.addToCell e n wet water area flags) := by
  refine .of fun h => ?_
  unfold State.addToCell
  dsimp only
  split <;> simp [h]

@[simp] theorem State.flagTile_canon (s : State) (flags : Nat) : KeepsCanon s (s.flagTile flags) := by
  refine .of fun h => ?_
  unfold State.flagTile
  split <;> simp [h]

@[simp] theorem State.placeYield_canon (s : State) (r : Reading) (w : Option Frac) (gap : Nat) : KeepsCanon s (s.placeYield r w gap) := by
  refine .of fun h => ?_
  unfold State.placeYield
  dsimp only
  split <;> simp +contextual [h]

@[simp] theorem State.readYield_canon (s : State) (x : Nat × Nat × Nat) (r : Reading) : KeepsCanon s (s.readYield x r) := .of fun h => by
  simp [State.readYield, h]

@[simp] theorem execYieldSample_canon (pos tray k : Nat) (moist : Option (Nat × Nat × Nat)) (cells : List (Int × Int)) (s : State) (h : s.canon) :
    CanonOut (execYieldSample pos tray k moist cells s) := by
  unfold execYieldSample
  (repeat' split) <;> simp [h]

@[simp] theorem execTileClose_canon (te tn : Int) (s : State) (h : s.canon) : CanonOut (execTileClose te tn s) := by
  unfold execTileClose
  split <;> simp [h]

@[simp] theorem State.flushTiles_canon (s : State) : KeepsCanon s s.flushTiles := .of fun h => by simp +contextual [State.flushTiles, h]

@[simp] theorem execYieldFlush_canon (agent : Agent) (s : State) (h : s.canon) : CanonOut (execYieldFlush agent s) := by
  simp +contextual [execYieldFlush, h]

@[simp] theorem State.yldrposSet_canon (s : State) (v : W32) : KeepsCanon s (s.yldrposSet v) := .of fun h => by simp +contextual [State.yldrposSet, h]

@[simp] theorem execYldrposWrite_canon (agent : Agent) (value : W32) (s : State) (h : s.canon) : CanonOut (execYldrposWrite agent value s) := by
  simp +contextual [execYldrposWrite, h]

@[simp] theorem State.tracksOff_canon (s : State) : KeepsCanon s s.tracksOff := .of fun h => by simp [State.tracksOff, h]
@[simp] theorem State.tilesDiscard_canon (s : State) : KeepsCanon s s.tilesDiscard := .of fun h => by simp +contextual [State.tilesDiscard, h]

@[simp] theorem State.praProductWrite_canon (s : State) (off : Nat) (v : W32) : KeepsCanon s (s.praProductWrite off v) := by
  refine .of fun h => ?_
  simp [State.praProductWrite, h]

@[simp] theorem State.praWrite_canon (s : State) (off : Nat) (v : W32) : KeepsCanon s (s.praWrite off v) := .of fun h => by simp [State.praWrite, h]
@[simp] theorem State.praParity_canon (s : State) (off : Nat) : KeepsCanon s (s.praParity off) := .of fun h => by simp [State.praParity, h]

/-! ### Gorge and the Bed bridge -/

@[simp] theorem State.fabRegs_canon (s : State) : KeepsCanon s s.fabRegs := by
  refine .of fun h => ?_
  unfold State.fabRegs
  dsimp only
  (repeat' split) <;> simp +contextual [h]

@[simp] theorem State.ringsWait_canon (s : State) (n : Nat) (v : Bool) : KeepsCanon s (s.ringsWait n v) := .of fun h => by
  simp +contextual [State.ringsWait, h]

@[simp] theorem State.grant_canon (s : State) (w : FabWait) (tag : Nat) : KeepsCanon s (s.grant w tag) := .of fun h => by simp [State.grant, h]

@[simp] theorem State.grantWaits_canon (s : State) (fuel tag : Nat) : KeepsCanon s (s.grantWaits fuel tag) := by
  induction fuel generalizing s with
  | zero => exact .refl _
  | succ k ih =>
    refine .of fun h => ?_
    unfold State.grantWaits
    split <;> simp [ih, h]

@[simp] theorem execGorgeRequest_canon (req cls : Nat) (kind : Xfer) (addr len tag : Nat) (s : State) (h : s.canon) :
    CanonOut (execGorgeRequest req cls kind addr len tag s) := by
  simp [execGorgeRequest, h]

@[simp] theorem State.freeEntry_canon (s : State) (tag newTag : Nat) : KeepsCanon s (s.freeEntry tag newTag) := .of fun h => by
  simp [State.freeEntry, h]

@[simp] theorem execEntryRelease_canon (tag newTag : Nat) (s : State) (h : s.canon) : CanonOut (execEntryRelease tag newTag s) := by
  unfold execEntryRelease
  split <;> simp [h]

@[simp] theorem State.poisonTarget_canon (s : State) (e : FabEntry) : KeepsCanon s (s.poisonTarget e) := .of fun h => by
  simp [State.poisonTarget, h, (s.remark_canon _ _ _).apply h]

@[simp] theorem State.throughTracker_canon (s : State) (a : Agent) (blk addr : Nat) (write : Bool) :
    KeepsCanon s (s.throughTracker a blk addr write) := by
  refine .of fun h => ?_
  simp [State.throughTracker, h]

@[simp] theorem execForcedCompletion_canon (tag newTag : Nat) (s : State) (h : s.canon) : CanonOut (execForcedCompletion tag newTag s) := by
  unfold execForcedCompletion
  split <;> simp [h]

@[simp] theorem State.creditWrite_canon (s : State) (n : Nat) (v : W32) : KeepsCanon s (s.creditWrite n v) := .of fun h => by
  simp [State.creditWrite, h]

@[simp] theorem execFabCredWrite_canon (agent : Agent) (n : Nat) (value : W32) (s : State) (h : s.canon) :
    CanonOut (execFabCredWrite agent n value s) := by
  simp +contextual [execFabCredWrite, h]

@[simp] theorem execBridgeHandoff_canon (addr : Nat) (data : Bytes) (s : State) (h : s.canon) : CanonOut (execBridgeHandoff addr data s) := by
  simp [execBridgeHandoff, h]

@[simp] theorem execBridgeInboundWrite_canon (agent : Agent) (addr : Nat) (data : Bytes) (poison : Bool) (s : State) (h : s.canon) :
    CanonOut (execBridgeInboundWrite agent addr data poison s) := by
  simp [execBridgeInboundWrite, h]

@[simp] theorem State.bridgeAdmit_canon (s : State) : KeepsCanon s s.bridgeAdmit := by
  refine .of fun h => ?_
  unfold State.bridgeAdmit
  split <;> simp [h]

@[simp] theorem execBridgeDrain_canon (s : State) (h : s.canon) : CanonOut (execBridgeDrain s) := by
  unfold execBridgeDrain
  split <;> simp [h]

/-! ### Pace and time -/

@[simp] theorem State.flagRise_canon (s : State) (stat ie : Fld) : KeepsCanon s (s.flagRise stat ie) := .of fun h => by simp [State.flagRise, h]
@[simp] theorem State.excludeGauge_canon (s : State) (n : Nat) : KeepsCanon s (s.excludeGauge n) := .of fun h => by simp [State.excludeGauge, h]

@[simp] theorem State.measureDomain_canon (s : State) (canopy : Bool) (readings : List Nat) : KeepsCanon s (s.measureDomain canopy readings) := by
  refine .of fun h => ?_
  simp +contextual [State.measureDomain, h]

@[simp] theorem State.paceRegs_canon (s : State) : KeepsCanon s s.paceRegs := by
  refine .of fun h => ?_
  unfold State.paceRegs
  dsimp only
  (repeat' split) <;> simp [h]

@[simp] theorem State.breachEdge_canon (s : State) (was is : Bool) : KeepsCanon s (s.breachEdge was is) := .of fun h => by simp [State.breachEdge, h]
@[simp] theorem State.judgeBreach_canon (s : State) : KeepsCanon s s.judgeBreach := .of fun h => by simp [State.judgeBreach, h]

@[simp] theorem execPaceGaugeMeasure_canon (readings : List Nat) (s : State) (h : s.canon) : CanonOut (execPaceGaugeMeasure readings s) := by
  simp [execPaceGaugeMeasure, h]

@[simp] theorem execRailRegulation_canon (s : State) (h : s.canon) : CanonOut (execRailRegulation s) := by simp [execRailRegulation, h]

@[simp] theorem State.crossing_canon (s : State) (was is : Bool) (stat ie : Fld) (ev sev : Nat) :
    KeepsCanon s (s.crossing was is stat ie ev sev) := by
  refine .of fun h => ?_
  simp [State.crossing, h]

@[simp] theorem State.shedWatch_canon (s : State) (j warn : Int) (wasCrit isCrit : Bool) : KeepsCanon s (s.shedWatch j warn wasCrit isCrit) := by
  refine .of fun h => ?_
  simp [State.shedWatch, h]

@[simp] theorem execTempSensorUpdate_canon (temps : List (Option Int)) (s : State) (h : s.canon) :
    CanonOut (execTempSensorUpdate temps s) := by
  refine (canonOut_next _).mpr ?_
  split
  · extract_lets t
    have ht : t.canon := by
      refine foldl_keepsCanon (fun x n hx => ?_) _ h
      split <;> simp [hx]
    clear_value t
    split <;> simp [ht]
  · split <;> simp [h]

@[simp] theorem State.voltReading_canon (s : State) (n : Nat) (r : Option Nat) : KeepsCanon s (s.voltReading n r) := by
  refine .of fun h => ?_
  unfold State.voltReading
  split <;> simp [h]

@[simp] theorem State.supplyReading_canon (s : State) (r : Option Nat) : KeepsCanon s (s.supplyReading r) := by
  refine .of fun h => ?_
  unfold State.supplyReading
  split <;> simp [h]

@[simp] theorem execVoltageMonitorUpdate_canon (mv : List (Option Nat)) (s : State) (h : s.canon) : CanonOut (execVoltageMonitorUpdate mv s) := by
  simp +contextual [execVoltageMonitorUpdate, h]

@[simp] theorem execSundialSave_canon (s : State) (h : s.canon) : CanonOut (execSundialSave s) := by simp [execSundialSave, h]

@[simp] theorem State.setCompare_canon (s : State) (core cmp : Nat) : KeepsCanon s (s.setCompare core cmp) := .of fun h => by
  simp [State.setCompare, h]

@[simp] theorem State.timersDue_canon (s : State) : KeepsCanon s s.timersDue := .of fun h => by simp +contextual [State.timersDue, h]

@[simp] theorem execTimerCompareMatch_canon (core cmp : Nat) (s : State) (h : s.canon) : CanonOut (execTimerCompareMatch core cmp s) := by
  simp [execTimerCompareMatch, h]

@[simp] theorem State.sdlChange_canon (s : State) (k : State → State) (h : ∀ t, t.canon → (k t).canon) : KeepsCanon s (s.sdlChange k) := by
  refine .of fun hs => ?_
  simp [State.sdlChange, h, hs]

@[simp] theorem State.setTrim_canon (s : State) (v : Int) : KeepsCanon s (s.setTrim v) := .of fun h => by simp [State.setTrim, h]
@[simp] theorem State.servo_canon (s : State) : KeepsCanon s s.servo := .of fun h => by simp [State.servo, h]
@[simp] theorem State.sdlEnter_canon (s : State) (st : Nat) : KeepsCanon s (s.sdlEnter st) := .of fun h => by simp [State.sdlEnter, h]

@[simp] theorem State.sdlMark_canon (s : State) (e : Int) : KeepsCanon s (s.sdlMark e) := by
  refine .of fun h => ?_
  unfold State.sdlMark
  split <;> simp [h]

@[simp] theorem State.refMark_canon (s : State) (source stamp gps : Nat) (rateErr : Int) : KeepsCanon s (s.refMark source stamp gps rateErr) := by
  refine .of fun h => ?_
  simp +contextual [State.refMark, h]

@[simp] theorem execReferenceMark_canon (source stamp gps : Nat) (rateErr : Int) (s : State) (h : s.canon) :
    CanonOut (execReferenceMark source stamp gps rateErr s) := by
  simp [execReferenceMark, h]

@[simp] theorem execMarkTimeout_canon (s : State) (h : s.canon) : CanonOut (execMarkTimeout s) := by
  unfold execMarkTimeout
  (repeat' split) <;> simp +contextual [h]

@[simp] theorem State.sdlCtlWrite_canon (s : State) (v : W32) : KeepsCanon s (s.sdlCtlWrite v) := .of fun h => by
  simp +contextual [State.sdlCtlWrite, h]

@[simp] theorem execSdlModeWrite_canon (agent : Agent) (value : W32) (s : State) (h : s.canon) : CanonOut (execSdlModeWrite agent value s) := by
  simp +contextual [execSdlModeWrite, h]

@[simp] theorem State.tcxoLost_canon (s : State) : KeepsCanon s s.tcxoLost := .of fun h => by simp +contextual [State.tcxoLost, h]

@[simp] theorem execDriftCheck_canon (neededTrim rootDiff : Int) (rootAtFault : Bool) (s : State) (h : s.canon) :
    CanonOut (execDriftCheck neededTrim rootDiff rootAtFault s) := by
  simp +contextual [execDriftCheck, h]

@[simp] theorem execTcxoLoss_canon (s : State) (h : s.canon) : CanonOut (execTcxoLoss s) := by simp [execTcxoLoss, h]
@[simp] theorem execTcxoReturn_canon (s : State) (h : s.canon) : CanonOut (execTcxoReturn s) := by simp +contextual [execTcxoReturn, h]

@[simp] theorem State.alarmFires_canon (s : State) (n dest late : Nat) : KeepsCanon s (s.alarmFires n dest late) := .of fun h => by
  simp [State.alarmFires, h]

@[simp] theorem State.alarmCtlWrite_canon (s : State) (n : Nat) (v : W32) : KeepsCanon s (s.alarmCtlWrite n v) := .of fun h => by
  simp [State.alarmCtlWrite, h]

@[simp] theorem execAlarmArm_canon (agent : Agent) (n : Nat) (value : W32) (s : State) (h : s.canon) : CanonOut (execAlarmArm agent n value s) := by
  simp +contextual [execAlarmArm, h]

@[simp] theorem execAlarmDisarm_canon (agent : Agent) (n : Nat) (value : W32) (s : State) (h : s.canon) :
    CanonOut (execAlarmDisarm agent n value s) := by
  simp +contextual [execAlarmDisarm, h]

@[simp] theorem execAlarmFire_canon (n : Nat) (s : State) (h : s.canon) : CanonOut (execAlarmFire n s) := by simp [execAlarmFire, h]

/-! ### Satellite navigation -/

@[simp] theorem State.gnsPoison_canon (s : State) : KeepsCanon s s.gnsPoison := .of fun h => by simp [State.gnsPoison, h]
@[simp] theorem State.gnsReject_canon (s : State) (cause : Nat) : KeepsCanon s (s.gnsReject cause) := .of fun h => by simp [State.gnsReject, h]

@[simp] theorem State.gnsEvent_canon (s : State) (tag subject value : Nat) : KeepsCanon s (s.gnsEvent tag subject value) := by
  refine .of fun h => ?_
  simp [State.gnsEvent, h]

@[simp] theorem State.gnsCounts_canon (s : State) : KeepsCanon s s.gnsCounts := .of fun h => by simp +contextual [State.gnsCounts, h]

@[simp] theorem State.setGnsChan_canon (s : State) (n : Nat) (c : GnsChan) : KeepsCanon s (s.setGnsChan n c) := .of fun h => by
  simp [State.setGnsChan, h]

@[simp] theorem State.assignChannel_canon (s : State) (x : SigKey) (k : Int) : KeepsCanon s (s.assignChannel x k) := by
  refine .of fun h => ?_
  unfold State.assignChannel
  split <;> simp [h]

@[simp] theorem State.dropChannel_canon (s : State) (n : Nat) : KeepsCanon s (s.dropChannel n) := .of fun h => by simp [State.dropChannel, h]

@[simp] theorem State.freeGnsChannel_canon (s : State) (n : Nat) : KeepsCanon s (s.freeGnsChannel n) := by
  refine .of fun h => ?_
  unfold State.freeGnsChannel
  split <;> simp [h]

@[simp] theorem State.loseLock_canon (s : State) (n : Nat) : KeepsCanon s (s.loseLock n) := .of fun h => by simp [State.loseLock, h]

@[simp] theorem State.freeAllChannels_canon (s : State) : KeepsCanon s s.freeAllChannels := .of fun h => by
  simp +contextual [State.freeAllChannels, h]

@[simp] theorem State.setSearch_canon (s : State) (u : Nat) (x : Option (SigKey × Int × Nat)) : KeepsCanon s (s.setSearch u x) := by
  refine .of fun h => ?_
  simp [State.setSearch, h]

@[simp] theorem State.startSearch_canon (s : State) (u : Nat) (x : SigKey) (k : Int) : KeepsCanon s (s.startSearch u x k) := by
  refine .of fun h => ?_
  simp [State.startSearch, h]

@[simp] theorem State.endSearch_canon (s : State) (u : Nat) (x : SigKey) (k : Int) (found : Bool) : KeepsCanon s (s.endSearch u x k found) := by
  refine .of fun h => ?_
  simp [State.endSearch, h]

@[simp] theorem execSignalSearch_canon (u ant sys sv sig : Nat) (k : Int) (found : Bool) (sky : List Sat) (s : State) (h : s.canon) :
    CanonOut (execSignalSearch u ant sys sv sig k found sky s) := by
  unfold execSignalSearch
  (repeat' split) <;> simp [h]

@[simp] theorem execChannelLock_canon (ch : Nat) (seconds : List Nat) (s : State) (h : s.canon) : CanonOut (execChannelLock ch seconds s) := by
  simp +contextual [execChannelLock, h]

@[simp] theorem execChannelLockLoss_canon (ch : Nat) (s : State) (h : s.canon) : CanonOut (execChannelLockLoss ch s) := by
  unfold execChannelLockLoss
  (repeat' split) <;> simp [h]

@[simp] theorem execChannelFree_canon (ch : Nat) (low : Bool) (s : State) (h : s.canon) : CanonOut (execChannelFree ch low s) := by
  simp [execChannelFree, h]

@[simp] theorem execAntennaFeedFault_canon (a ma : Nat) (s : State) (h : s.canon) : CanonOut (execAntennaFeedFault a ma s) := by
  simp [execAntennaFeedFault, h]

@[simp] theorem execAntennaFeedRetry_canon (a : Nat) (s : State) (h : s.canon) : CanonOut (execAntennaFeedRetry a s) := by
  simp [execAntennaFeedRetry, h]

@[simp] theorem State.feedApply_canon (s : State) (a : Nat) : KeepsCanon s (s.feedApply a) := .of fun h => by simp [State.feedApply, h]
@[simp] theorem State.gnsAidRegs_canon (s : State) : KeepsCanon s s.gnsAidRegs := .of fun h => by simp [State.gnsAidRegs, h]
@[simp] theorem execAidtime_canon (q : Nat) (s : State) (h : s.canon) : CanonOut (execAidtime q s) := by simp +contextual [execAidtime, h]
@[simp] theorem State.takePos_canon (s : State) (a : PosAid) : KeepsCanon s (s.takePos a) := .of fun h => by simp [State.takePos, h]
@[simp] theorem State.takeVel_canon (s : State) (a : PosAid) : KeepsCanon s (s.takeVel a) := .of fun h => by simp [State.takeVel, h]
@[simp] theorem execAidpos_canon (q : Nat) (s : State) (h : s.canon) : CanonOut (execAidpos q s) := by simp +contextual [execAidpos, h]
@[simp] theorem execSolution_canon (q : Nat) (s : State) (h : s.canon) : CanonOut (execSolution q s) := by simp +contextual [execSolution, h]

theorem State.takeFrame_canon (s t : State) (fr : Bytes) (h : s.takeFrame fr = some t) : KeepsCanon s t := by
  obtain ⟨y, -, rfl⟩ := Option.map_eq_some_iff.mp h
  exact .of fun hs => by simp [hs]

@[simp] theorem State.takeFrame_getD_canon (s : State) (fr : Bytes) : KeepsCanon s ((s.takeFrame fr).getD s) :=
  .of fun hs => State.canon_getD hs fun _ h => (s.takeFrame_canon _ fr h).apply hs

@[simp] theorem execAidorb_canon (q : Nat) (s : State) (h : s.canon) : CanonOut (execAidorb q s) := by
  simp only [execAidorb, canonOut_next]
  split
  · refine (State.serve_canon _ _ _ _ fun d t ht => ?_).apply h
    split
    · exact ht
    · split
      · exact ht
      · simp only [State.gnsAidRegs_canon]
        refine .inl ((foldl_fst_canon _ (fun x fr hx => ?_) _ _).apply ?_)
        · split
          · next y hy =>
            split at hy
            · exact (State.takeFrame_canon _ _ _ hy).apply hx
            · cases hy
          · exact hx
        · simp [ht]
  · exact h

@[simp] theorem execOrbread_canon (q : Nat) (s : State) (h : s.canon) : CanonOut (execOrbread q s) := by simp +contextual [execOrbread, h]
@[simp] theorem execGnssRestart_canon (q : Nat) (s : State) (h : s.canon) : CanonOut (execGnssRestart q s) := by simp +contextual [execGnssRestart, h]

@[simp] theorem State.antRegs_canon (s : State) (a : Nat) (obs : List ObsIn) : KeepsCanon s (s.antRegs a obs) := .of fun h => by
  simp [State.antRegs, h]

@[simp] theorem State.isbRegs_canon (s : State) (l : List (Option Int)) (consecutive : Bool) : KeepsCanon s (s.isbRegs l consecutive) := by
  refine .of fun h => ?_
  simp +contextual [State.isbRegs, h]

@[simp] theorem State.fixRegs_canon (s : State) (tepoch : Nat) (e : EpochIn) : KeepsCanon s (s.fixRegs tepoch e) := .of fun h => by
  simp [State.fixRegs, h]

@[simp] theorem State.epochApply_canon (s : State) : KeepsCanon s s.epochApply := .of fun h => by simp +contextual [State.epochApply, h]
@[simp] theorem State.epochNav_canon (s : State) (e : EpochIn) : KeepsCanon s (s.epochNav e) := .of fun h => by simp +contextual [State.epochNav, h]

@[simp] theorem execGnssEpoch_canon (tepoch : Nat) (e : EpochIn) (s : State) (h : s.canon) : CanonOut (execGnssEpoch tepoch e s) := by
  simp +contextual [execGnssEpoch, h]

@[simp] theorem execGnssMark_canon (stamp gps sig : Nat) (rateErr : Int) (s : State) (h : s.canon) :
    CanonOut (execGnssMark stamp gps sig rateErr s) := by
  simp [execGnssMark, h]

@[simp] theorem execMarkstop_canon (s : State) (h : s.canon) : CanonOut (execMarkstop s) := by
  unfold execMarkstop
  split <;> simp [h]

@[simp] theorem State.gnsWrite_canon (s : State) (off : Nat) (v : W32) : KeepsCanon s (s.gnsWrite off v) := .of fun h => by simp [State.gnsWrite, h]
@[simp] theorem State.gnsParity_canon (s : State) (off : Nat) : KeepsCanon s (s.gnsParity off) := .of fun h => by simp [State.gnsParity, h]

/-! ### Valve banks -/

@[simp] theorem State.setValve_canon (s : State) (n : Nat) (x : Valve) : KeepsCanon s (s.setValve n x) := .of fun h => by simp [State.setValve, h]
@[simp] theorem State.vSet_canon (s : State) (n b : Nat) (v : Bool) : KeepsCanon s (s.vSet n b v) := .of fun h => by simp [State.vSet, h]
@[simp] theorem State.setOutIc_canon (s : State) (i : Nat) (x : OutIc) : KeepsCanon s (s.setOutIc i x) := .of fun h => by simp [State.setOutIc, h]

@[simp] theorem State.vlvEntry_canon (s : State) (tag subject : Nat) (detail : Option Nat) : KeepsCanon s (s.vlvEntry tag subject detail) := by
  refine .of fun h => ?_
  simp [State.vlvEntry, h]

@[simp] theorem State.vlvEvent_canon (s : State) (tag subject sev : Nat) (detail : Option Nat) :
    KeepsCanon s (s.vlvEvent tag subject sev detail) := by
  refine .of fun h => ?_
  simp [State.vlvEvent, h]

@[simp] theorem State.vlvReject_canon (s : State) (n cause : Nat) : KeepsCanon s (s.vlvReject n cause) := .of fun h => by simp [State.vlvReject, h]

@[simp] theorem State.actuation_canon (s : State) (n tag ended ton toff : Nat) : KeepsCanon s (s.actuation n tag ended ton toff) := by
  refine .of fun h => ?_
  simp [State.actuation, h]

@[simp] theorem State.bankLimit_canon (s : State) (n : Nat) (cs : List Nat) : KeepsCanon s (s.bankLimit n cs).1 := .of fun h => by
  simp [State.bankLimit, h]

@[simp] theorem State.bankRegs_canon (s : State) (b : Nat) : KeepsCanon s (s.bankRegs b) := .of fun h => by simp [State.bankRegs, h]
@[simp] theorem State.actuate_canon (s : State) (n : Nat) : KeepsCanon s (s.actuate n) := .of fun h => by simp [State.actuate, h]
@[simp] theorem State.valveStart_canon (s : State) (n : Nat) : KeepsCanon s (s.valveStart n) := .of fun h => by simp [State.valveStart, h]
@[simp] theorem State.undefer_canon (s : State) (n : Nat) : KeepsCanon s (s.undefer n) := .of fun h => by simp [State.undefer, h]

@[simp] theorem State.grantPeak_canon (s : State) (b : Nat) : KeepsCanon s (s.grantPeak b) := by
  refine .of fun h => ?_
  unfold State.grantPeak
  split <;> simp [h]

@[simp] theorem State.valveStop_canon (s : State) (n : Nat) : KeepsCanon s (s.valveStop n) := .of fun h => by simp [State.valveStop, h]
@[simp] theorem State.valveOff_canon (s : State) (n : Nat) : KeepsCanon s (s.valveOff n) := .of fun h => by simp [State.valveOff, h]
@[simp] theorem State.valveFollow_canon (s : State) (n : Nat) : KeepsCanon s (s.valveFollow n).1 := .of fun h => by simp [State.valveFollow, h]
@[simp] theorem State.valveResume_canon (s : State) (n : Nat) : KeepsCanon s (s.valveResume n) := .of fun h => by simp [State.valveResume, h]

@[simp] theorem State.pulseDone_canon (s : State) (n fl : Nat) : KeepsCanon s (s.pulseDone n fl) := by
  refine .of fun h => ?_
  unfold State.pulseDone
  dsimp only
  split <;> simp [h]

@[simp] theorem State.valveCut_canon (s : State) (n : Nat) : KeepsCanon s (s.valveCut n) := .of fun h => by simp [State.valveCut, h]

@[simp] theorem State.valveCommand_canon (s : State) (n : Nat) (on : Bool) (ma : Frac) : KeepsCanon s (s.valveCommand n on ma).1 := by
  refine .of fun h => ?_
  simp [State.valveCommand, h]

@[simp] theorem State.valvePermit_canon (s : State) (n : Nat) (v : Bool) : KeepsCanon s (s.valvePermit n v) := .of fun h => by
  simp [State.valvePermit, h]

@[simp] theorem State.valveRelease_canon (s : State) (n : Nat) (v : Bool) : KeepsCanon s (s.valveRelease n v).1 := .of fun h => by
  simp [State.valveRelease, h]

@[simp] theorem State.valveValue_canon (s : State) (n : Nat) (amps : Frac) : KeepsCanon s (s.valveValue n amps).1 := .of fun h => by
  simp [State.valveValue, h]

@[simp] theorem State.valveCmdWrite_canon (s : State) (a : Agent) (n : Nat) (v : W32) : KeepsCanon s (s.valveCmdWrite a n v) := by
  refine .of fun h => ?_
  simp [State.valveCmdWrite, h]

@[simp] theorem execValveUntimedCommand_canon (agent : Agent) (n : Nat) (value : W32) (s : State) (h : s.canon) :
    CanonOut (execValveUntimedCommand agent n value s) := by
  simp +contextual [execValveUntimedCommand, h]

@[simp] theorem State.peakEndNow_canon (s : State) (n : Nat) : KeepsCanon s (s.peakEndNow n) := by
  refine .of fun h => ?_
  unfold State.peakEndNow
  dsimp only
  split <;> simp [h]

@[simp] theorem execPeakPhaseEnd_canon (n : Nat) (s : State) (h : s.canon) : CanonOut (execPeakPhaseEnd n s) := by simp [execPeakPhaseEnd, h]

@[simp] theorem execDipWindowClose_canon (n : Nat) (reached : Bool) (depth us : Nat) (s : State) (h : s.canon) :
    CanonOut (execDipWindowClose n reached depth us s) := by
  unfold execDipWindowClose
  dsimp only
  split <;> simp [h]

@[simp] theorem execBankTrip_canon (b cause : Nat) (s : State) (h : s.canon) : CanonOut (execBankTrip b cause s) := by
  simp +contextual [execBankTrip, h]

@[simp] theorem State.bankClear_canon (s : State) (b : Nat) : KeepsCanon s (s.bankClear b) := .of fun h => by simp +contextual [State.bankClear, h]

@[simp] theorem execBankFaultClear_canon (agent : Agent) (b : Nat) (s : State) (h : s.canon) : CanonOut (execBankFaultClear agent b s) := by
  simp +contextual [execBankFaultClear, h]

@[simp] theorem execDutyLimitEntry_canon (n v : Nat) (s : State) (h : s.canon) : CanonOut (execDutyLimitEntry n v s) := by
  simp [execDutyLimitEntry, h]

@[simp] theorem State.dutyEnd_canon (s : State) (n : Nat) : KeepsCanon s (s.dutyEnd n) := .of fun h => by simp [State.dutyEnd, h]

@[simp] theorem execDutyLimitExit_canon (n v : Nat) (s : State) (h : s.canon) : CanonOut (execDutyLimitExit n v s) := by
  simp [execDutyLimitExit, h]

@[simp] theorem State.valveFault_canon (s : State) (n flag : Nat) : KeepsCanon s (s.valveFault n flag) := .of fun h => by simp [State.valveFault, h]

@[simp] theorem execValveChannelFault_canon (n kind : Nat) (s : State) (h : s.canon) : CanonOut (execValveChannelFault n kind s) := by
  simp +contextual [execValveChannelFault, h]

@[simp] theorem State.valveClear_canon (s : State) (n : Nat) : KeepsCanon s (s.valveClear n) := .of fun h => by simp [State.valveClear, h]

@[simp] theorem State.fltmapWrite_canon (s : State) (hi : Nat) (v : W32) : KeepsCanon s (s.fltmapWrite hi v) := .of fun h => by
  simp +contextual [State.fltmapWrite, h]

@[simp] theorem execValveFaultClear_canon (agent : Agent) (hi : Bool) (value : W32) (s : State) (h : s.canon) :
    CanonOut (execValveFaultClear agent hi value s) := by
  simp +contextual [execValveFaultClear, h]

@[simp] theorem State.valveAccept_canon (s : State) (d : Desc) (e : ValveEvent) : KeepsCanon s (s.valveAccept d e).1 := by
  refine .of fun h => ?_
  unfold State.valveAccept
  dsimp only
  (repeat' split) <;> simp [h]

@[simp] theorem State.valveUntimed_canon (s : State) (e : ValveEvent) : KeepsCanon s (s.valveUntimed e).1 := by
  refine .of fun h => ?_
  unfold State.valveUntimed
  (repeat' split) <;> simp [h]

@[simp] theorem State.valveServe_canon (s : State) (q op : Nat) (pulse : Bool) : KeepsCanon s (s.valveServe q op pulse) := by
  refine .of fun h => ?_
  unfold State.valveServe
  refine (State.serveAt_canon _ _ _ _ fun d t ht => ?_).apply h
  (repeat' split) <;> simp [ht]

@[simp] theorem execVlvPulse_canon (q : Nat) (s : State) (h : s.canon) : CanonOut (execVlvPulse q s) := by simp [execVlvPulse, h]
@[simp] theorem execVlvSet_canon (q : Nat) (s : State) (h : s.canon) : CanonOut (execVlvSet q s) := by simp [execVlvSet, h]

@[simp] theorem State.valveCancel_canon (s : State) (n tag : Nat) : KeepsCanon s (s.valveCancel n tag).1 := by
  refine .of fun h => ?_
  unfold State.valveCancel
  dsimp only
  split <;> simp [h]

@[simp] theorem execVlvCancel_canon (q : Nat) (s : State) (h : s.canon) : CanonOut (execVlvCancel q s) := by simp +contextual [execVlvCancel, h]

@[simp] theorem State.blockedEvent_canon (s : State) (n : Nat) (e : ValveEvent) : KeepsCanon s (s.blockedEvent n e) := .of fun h => by
  simp [State.blockedEvent, h]

@[simp] theorem State.fireEvent_canon (s : State) (e : ValveEvent) : KeepsCanon s (s.fireEvent e) := by
  refine .of fun h => ?_
  unfold State.fireEvent
  extract_lets n _ s1 blocked s2 t1 _ x t2 t3 t4 t5
  have h2 : s2.canon := by simp [s2, s1, h]
  clear_value s2
  have h5 : t5.canon := by simp [t5, t4, t3, h2]
  clear_value t5
  split
  · simp [t1, h2]
  · split
    · simp [t2, h2]
    · split
      · simp [h5]
      · simp [h5]

@[simp] theorem State.pulseOff_canon (s : State) (n : Nat) : KeepsCanon s (s.pulseOff n) := by
  refine .of fun h => ?_
  unfold State.pulseOff
  dsimp only
  split <;> simp [h]

@[simp] theorem execTimedValveEvent_canon (b : Nat) (s : State) (h : s.canon) : CanonOut (execTimedValveEvent b s) := by
  refine (canonOut_next _).mpr ?_
  split
  · exact h
  · extract_lets t
    have ht : t.canon := by
      refine foldl_keepsCanon (fun x c hx => ?_) _ h
      (repeat' split) <;> simp [hx]
    clear_value t
    split <;> simp [ht]

@[simp] theorem State.valveDisable_canon (s : State) (n : Nat) : KeepsCanon s (s.valveDisable n) := .of fun h => by simp [State.valveDisable, h]
@[simp] theorem State.valveEnable_canon (s : State) (n : Nat) : KeepsCanon s (s.valveEnable n) := .of fun h => by simp [State.valveEnable, h]

@[simp] theorem State.valveCtlWrite_canon (s : State) (n : Nat) (v : W32) : KeepsCanon s (s.valveCtlWrite n v) := .of fun h => by
  simp [State.valveCtlWrite, h]

@[simp] theorem State.valveSetWrite_canon (s : State) (n r : Nat) (v : W32) : KeepsCanon s (s.valveSetWrite n r v) := .of fun h => by
  simp [State.valveSetWrite, h]

@[simp] theorem State.vlvWrite_canon (s : State) (off : Nat) (v : W32) : KeepsCanon s (s.vlvWrite off v) := .of fun h => by simp [State.vlvWrite, h]
@[simp] theorem State.vlvParity_canon (s : State) (off : Nat) : KeepsCanon s (s.vlvParity off) := .of fun h => by simp [State.vlvParity, h]

/-! ### Load switches -/

@[simp] theorem State.setSw_canon (s : State) (n : Nat) (x : Switch) : KeepsCanon s (s.setSw n x) := .of fun h => by simp [State.setSw, h]
@[simp] theorem State.setGrp_canon (s : State) (g : Nat) (x : PinGroup) : KeepsCanon s (s.setGrp g x) := .of fun h => by simp [State.setGrp, h]
@[simp] theorem State.lSet_canon (s : State) (n b : Nat) (v : Bool) : KeepsCanon s (s.lSet n b v) := .of fun h => by simp [State.lSet, h]

@[simp] theorem State.lswEntry_canon (s : State) (tag subject : Nat) (detail : Option Nat) : KeepsCanon s (s.lswEntry tag subject detail) := by
  refine .of fun h => ?_
  simp [State.lswEntry, h]

@[simp] theorem State.lswEvent_canon (s : State) (tag subject sev : Nat) (detail : Option Nat) :
    KeepsCanon s (s.lswEvent tag subject sev detail) := by
  refine .of fun h => ?_
  simp [State.lswEvent, h]

@[simp] theorem State.lswReject_canon (s : State) (n cause : Nat) : KeepsCanon s (s.lswReject n cause) := .of fun h => by simp [State.lswReject, h]
@[simp] theorem State.budReg_canon (s : State) (g : Nat) : KeepsCanon s (s.budReg g) := .of fun h => by simp [State.budReg, h]
@[simp] theorem State.lClamp_canon (s : State) (n : Nat) : KeepsCanon s (s.lClamp n) := .of fun h => by simp [State.lClamp, h]
@[simp] theorem State.olMap_canon (s : State) (n : Nat) : KeepsCanon s (s.olMap n) := .of fun h => by simp [State.olMap, h]
@[simp] theorem State.lswStart_canon (s : State) (n : Nat) : KeepsCanon s (s.lswStart n) := .of fun h => by simp [State.lswStart, h]
@[simp] theorem State.lswStop_canon (s : State) (n : Nat) : KeepsCanon s (s.lswStop n) := .of fun h => by simp [State.lswStop, h]
@[simp] theorem State.admitHeld_canon (s : State) (g : Nat) : KeepsCanon s (s.admitHeld g) := .of fun h => by simp +contextual [State.admitHeld, h]
@[simp] theorem State.lswOff_canon (s : State) (n : Nat) : KeepsCanon s (s.lswOff n) := .of fun h => by simp [State.lswOff, h]
@[simp] theorem State.lswFollow_canon (s : State) (n : Nat) : KeepsCanon s (s.lswFollow n) := .of fun h => by simp [State.lswFollow, h]

@[simp] theorem State.lswCommand_canon (s : State) (n : Nat) (on : Bool) (duty : Frac) : KeepsCanon s (s.lswCommand n on duty) := by
  refine .of fun h => ?_
  simp [State.lswCommand, h]

@[simp] theorem State.lswRefused_canon (s : State) : KeepsCanon s s.lswRefused := .of fun h => by simp [State.lswRefused, h]
@[simp] theorem State.lswPermit_canon (s : State) (n : Nat) (v : Bool) : KeepsCanon s (s.lswPermit n v) := .of fun h => by simp [State.lswPermit, h]

@[simp] theorem State.lswRelease_canon (s : State) (n : Nat) (v : Bool) (duty : Option Frac) : KeepsCanon s (s.lswRelease n v duty).1 := by
  refine .of fun h => ?_
  simp [State.lswRelease, h]

@[simp] theorem State.lswValue_canon (s : State) (n : Nat) (u : Frac) : KeepsCanon s (s.lswValue n u).1 := .of fun h => by simp [State.lswValue, h]

@[simp] theorem State.lswCmdWrite_canon (s : State) (a : Agent) (n : Nat) (v : W32) : KeepsCanon s (s.lswCmdWrite a n v) := by
  refine .of fun h => ?_
  simp [State.lswCmdWrite, h]

@[simp] theorem execLswUntimedCommand_canon (agent : Agent) (n : Nat) (value : W32) (s : State) (h : s.canon) :
    CanonOut (execLswUntimedCommand agent n value s) := by
  simp +contextual [execLswUntimedCommand, h]

@[simp] theorem State.shed_canon (s : State) (n mean : Nat) : KeepsCanon s (s.shed n mean) := .of fun h => by simp [State.shed, h]

@[simp] theorem State.evalGroup_canon (s : State) (g mean : Nat) : KeepsCanon s (s.evalGroup g mean) := by
  refine .of fun h => ?_
  unfold State.evalGroup
  dsimp only
  (repeat' split) <;> simp [h]

@[simp] theorem execShedEvaluation_canon (means : List Nat) (s : State) (h : s.canon) : CanonOut (execShedEvaluation means s) := by
  simp +contextual [execShedEvaluation, h]

@[simp] theorem State.shedmapWrite_canon (s : State) (hi : Nat) (v : W32) : KeepsCanon s (s.shedmapWrite hi v) := .of fun h => by
  simp +contextual [State.shedmapWrite, h]

@[simp] theorem execShedClear_canon (agent : Agent) (hi : Bool) (value : W32) (s : State) (h : s.canon) :
    CanonOut (execShedClear agent hi value s) := by
  simp +contextual [execShedClear, h]

@[simp] theorem State.lswFault_canon (s : State) (n flag : Nat) (detail : Option Nat) : KeepsCanon s (s.lswFault n flag detail) := by
  refine .of fun h => ?_
  simp [State.lswFault, h]

@[simp] theorem State.wireTrip_canon (s : State) (n : Nat) : KeepsCanon s (s.wireTrip n) := .of fun h => by simp [State.wireTrip, h]
@[simp] theorem State.lswEnergy_canon (s : State) (n nj : Nat) : KeepsCanon s (s.lswEnergy n nj) := .of fun h => by simp [State.lswEnergy, h]
@[simp] theorem State.heatStep_canon (s : State) (n ma mv : Nat) : KeepsCanon s (s.heatStep n ma mv) := .of fun h => by simp [State.heatStep, h]

@[simp] theorem execWireHeatUpdate_canon (meas : List (Nat × Nat × Nat)) (busv : Nat) (s : State) (h : s.canon) :
    CanonOut (execWireHeatUpdate meas busv s) := by
  unfold execWireHeatUpdate
  extract_lets _ t u
  have ht : t.canon := by simp [t, h]
  have hu : u.canon := by
    refine foldl_keepsCanon (fun x n hx => ?_) _ ht
    split <;> simp [hx]
  clear_value u
  simp [hu, h]

@[simp] theorem execLswChannelFault_canon (n kind : Nat) (s : State) (h : s.canon) : CanonOut (execLswChannelFault n kind s) := by
  unfold execLswChannelFault
  (repeat' split) <;> simp [h]

@[simp] theorem State.lswFltmapWrite_canon (s : State) (hi : Nat) (v : W32) : KeepsCanon s (s.lswFltmapWrite hi v) := by
  refine .of fun h => ?_
  simp +contextual [State.lswFltmapWrite, h]

@[simp] theorem execLswFaultClear_canon (agent : Agent) (hi : Bool) (value : W32) (s : State) (h : s.canon) :
    CanonOut (execLswFaultClear agent hi value s) := by
  simp +contextual [execLswFaultClear, h]

@[simp] theorem State.openLoad_canon (s : State) (n flag : Nat) : KeepsCanon s (s.openLoad n flag) := .of fun h => by simp [State.openLoad, h]

@[simp] theorem execOpenLoadOff_canon (n : Nat) (high : Bool) (s : State) (h : s.canon) : CanonOut (execOpenLoadOff n high s) := by
  simp [execOpenLoadOff, h]

@[simp] theorem execOpenLoadOn_canon (n : Nat) (low : Bool) (s : State) (h : s.canon) : CanonOut (execOpenLoadOn n low s) := by
  simp [execOpenLoadOn, h]

@[simp] theorem State.lswServe_canon (s : State) (q op : Nat) (pulse : Bool) : KeepsCanon s (s.lswServe q op pulse) := by
  refine .of fun h => ?_
  unfold State.lswServe
  refine (State.serve_canon _ _ _ _ fun d t ht => ?_).apply h
  (repeat' split) <;> simp [ht]

@[simp] theorem execLswPulse_canon (q : Nat) (s : State) (h : s.canon) : CanonOut (execLswPulse q s) := by simp [execLswPulse, h]
@[simp] theorem execLswSet_canon (q : Nat) (s : State) (h : s.canon) : CanonOut (execLswSet q s) := by simp [execLswSet, h]
@[simp] theorem State.lswPulseOff_canon (s : State) (n : Nat) : KeepsCanon s (s.lswPulseOff n) := .of fun h => by simp [State.lswPulseOff, h]

@[simp] theorem State.unschedule_canon (s : State) (q n tag : Nat) : KeepsCanon s (s.unschedule q n tag).1 := .of fun h => by
  simp +contextual [State.unschedule, h]

@[simp] theorem execLswCancel_canon (q : Nat) (s : State) (h : s.canon) : CanonOut (execLswCancel q s) := by
  unfold execLswCancel
  simp only [canonOut_next]
  split
  · refine (State.serve_canon _ _ _ _ fun d t ht => ?_).apply h
    (repeat' split) <;> simp [ht]
  · exact h

@[simp] theorem execPulseEnd_canon (valve : Bool) (n : Nat) (s : State) (h : s.canon) : CanonOut (execPulseEnd valve n s) := by
  unfold execPulseEnd
  (repeat' split) <;> simp [h]

@[simp] theorem State.lswDisable_canon (s : State) (n : Nat) : KeepsCanon s (s.lswDisable n) := .of fun h => by simp [State.lswDisable, h]
@[simp] theorem State.lswEnable_canon (s : State) (n : Nat) : KeepsCanon s (s.lswEnable n) := .of fun h => by simp [State.lswEnable, h]

@[simp] theorem State.lswCtlWrite_canon (s : State) (n : Nat) (v : W32) : KeepsCanon s (s.lswCtlWrite n v) := .of fun h => by
  simp [State.lswCtlWrite, h]

@[simp] theorem State.lswLimWrite_canon (s : State) (n : Nat) (v : W32) : KeepsCanon s (s.lswLimWrite n v) := .of fun h => by
  simp [State.lswLimWrite, h]

@[simp] theorem State.lswGrpWrite_canon (s : State) (g : Nat) (v : W32) : KeepsCanon s (s.lswGrpWrite g v) := .of fun h => by
  simp [State.lswGrpWrite, h]

@[simp] theorem State.genWrite_canon (s : State) (k : Nat) (v : W32) : KeepsCanon s (s.genWrite k v) := .of fun h => by simp [State.genWrite, h]
@[simp] theorem State.lswWrite_canon (s : State) (off : Nat) (v : W32) : KeepsCanon s (s.lswWrite off v) := .of fun h => by simp [State.lswWrite, h]
@[simp] theorem State.lswParity_canon (s : State) (off : Nat) : KeepsCanon s (s.lswParity off) := .of fun h => by simp [State.lswParity, h]

/-! ### Output stages -/

@[simp] theorem State.applyEntry_canon (s : State) (k : Nat) : KeepsCanon s (s.applyEntry k) := .of fun h => by simp [State.applyEntry, h]
@[simp] theorem State.safeShown_canon (s : State) (i : Nat) : KeepsCanon s (s.safeShown i) := .of fun h => by simp +contextual [State.safeShown, h]

@[simp] theorem State.safeChannels_canon (s : State) (i : Nat) : KeepsCanon s (s.safeChannels i) := .of fun h => by
  simp +contextual [State.safeChannels, h]

@[simp] theorem State.enterSafe_canon (s : State) (i : Nat) (expiry : Bool) : KeepsCanon s (s.enterSafe i expiry) := .of fun h => by
  simp [State.enterSafe, h]

@[simp] theorem State.requestSafe_canon (s : State) : KeepsCanon s s.requestSafe := .of fun h => by simp +contextual [State.requestSafe, h]
@[simp] theorem execFailsafeRequest_canon (s : State) (h : s.canon) : CanonOut (execFailsafeRequest s) := by simp [execFailsafeRequest, h]
@[simp] theorem State.resumeIc_canon (s : State) (i : Nat) : KeepsCanon s (s.resumeIc i) := .of fun h => by simp +contextual [State.resumeIc, h]

@[simp] theorem execOutputStageResume_canon (agent : Agent) (ic : Nat) (s : State) (h : s.canon) : CanonOut (execOutputStageResume agent ic s) := by
  simp +contextual [execOutputStageResume, h]

@[simp] theorem State.readback_canon (s : State) (i : Nat) (r : Readback) : KeepsCanon s (s.readback i r) := .of fun h => by
  simp +contextual [State.readback, h]

@[simp] theorem execWatchdogRefresh_canon (ic : Nat) (r : Readback) (s : State) (h : s.canon) : CanonOut (execWatchdogRefresh ic r s) := by
  simp [execWatchdogRefresh, h]

@[simp] theorem execWatchdogExpiry_canon (ic : Nat) (s : State) (h : s.canon) : CanonOut (execWatchdogExpiry ic s) := by simp [execWatchdogExpiry, h]
@[simp] theorem State.commitWear_canon (s : State) : KeepsCanon s s.commitWear := .of fun h => by simp [State.commitWear, h]
@[simp] theorem execWearCommit_canon (s : State) (h : s.canon) : CanonOut (execWearCommit s) := by simp [execWearCommit, h]
@[simp] theorem State.fsunlock_canon (s : State) (a : Agent) (v : W32) : KeepsCanon s (s.fsunlock a v) := .of fun h => by simp [State.fsunlock, h]

@[simp] theorem execFsunlockWrite_canon (agent : Agent) (value : W32) (s : State) (h : s.canon) : CanonOut (execFsunlockWrite agent value s) := by
  simp +contextual [execFsunlockWrite, h]

@[simp] theorem State.fslock_canon (s : State) : KeepsCanon s s.fslock := .of fun h => by simp [State.fslock, h]

@[simp] theorem execFsunlockTimeout_canon (s : State) (h : s.canon) : CanonOut (execFsunlockTimeout s) := by
  unfold execFsunlockTimeout
  split <;> simp [h]

@[simp] theorem State.commitTable_canon (s : State) (b : Bytes) (who : List Nat) : KeepsCanon s (s.commitTable b who) := by
  refine .of fun h => ?_
  simp +contextual [State.commitTable, h]

@[simp] theorem State.storedRegs_canon (s : State) : KeepsCanon s s.storedRegs := .of fun h => by simp +contextual [State.storedRegs, h]
@[simp] theorem State.tablePoison_canon (s : State) (a : Nat) : KeepsCanon s (s.tablePoison a) := .of fun h => by simp [State.tablePoison, h]

@[simp] theorem State.fswriteRun_canon (s : State) (d : Desc) (failed : List Nat) : KeepsCanon s (s.fswriteRun d failed).1 := by
  refine .of fun h => ?_
  simp [State.fswriteRun, h]

@[simp] theorem State.fswrite_canon (s : State) (failed : List Nat) : KeepsCanon s (s.fswrite failed) := by
  refine .of fun h => ?_
  unfold State.fswrite
  split <;> simp [h]

@[simp] theorem execFswrite_canon (failed : List Nat) (s : State) (h : s.canon) : CanonOut (execFswrite failed s) := by simp [execFswrite, h]
@[simp] theorem execFsread_canon (q : Nat) (s : State) (h : s.canon) : CanonOut (execFsread q s) := by simp +contextual [execFsread, h]

@[simp] theorem State.vlvBlockWrite_canon (s : State) (a : Agent) (off : Nat) (v : W32) : KeepsCanon s (s.vlvBlockWrite a off v) := by
  refine .of fun h => ?_
  simp [State.vlvBlockWrite, h]

@[simp] theorem State.lswBlockWrite_canon (s : State) (a : Agent) (off : Nat) (v : W32) : KeepsCanon s (s.lswBlockWrite a off v) := by
  refine .of fun h => ?_
  simp [State.lswBlockWrite, h]

/-! ### DRAM -/

@[simp] theorem State.setErrs_canon (s : State) (a : Nat) (es : List (Nat × Nat)) : KeepsCanon s (s.setErrs a es) := .of fun h => by
  simp [State.setErrs, h]

@[simp] theorem State.memLog_canon (s : State) (type req nsym erase devmask a : Nat) : KeepsCanon s (s.memLog type req nsym erase devmask a) := by
  refine .of fun h => ?_
  simp [State.memLog, h]

@[simp] theorem State.memPop_canon (s : State) : KeepsCanon s s.memPop := .of fun h => by simp [State.memPop, h]
@[simp] theorem State.markDevice_canon (s : State) (n d : Nat) : KeepsCanon s (s.markDevice n d) := .of fun h => by simp [State.markDevice, h]

@[simp] theorem State.countDevice_canon (s : State) (req nsym devmask a n d : Nat) : KeepsCanon s (s.countDevice req nsym devmask a n d) := by
  refine .of fun h => ?_
  unfold State.countDevice
  dsimp only
  (repeat' split) <;> simp [h]

@[simp] theorem State.rankCount_canon (s : State) (n : Nat) : KeepsCanon s (s.rankCount n) := .of fun h => by simp [State.rankCount, h]

@[simp] theorem State.corrected_canon (s : State) (req nsym devmask a : Nat) (devs : List Nat) :
    KeepsCanon s (s.corrected req nsym devmask a devs) := by
  refine .of fun h => ?_
  simp +contextual [State.corrected, h]

@[simp] theorem State.decodeLine_canon (s : State) (req type a : Nat) : KeepsCanon s (s.decodeLine req type a).1 := .of fun h => by
  simp [State.decodeLine, h]

@[simp] theorem execDramRead_canon (req addr : Nat) (wrong : List (Nat × Nat)) (taken : Bool) (s : State) (h : s.canon) :
    CanonOut (execDramRead req addr wrong taken s) := by
  simp [execDramRead, h]

@[simp] theorem execDramLineWrite_canon (addr : Nat) (data : Bytes) (poison : Bool) (s : State) (h : s.canon) :
    CanonOut (execDramLineWrite addr data poison s) := by
  simp [execDramLineWrite, h]

@[simp] theorem execDramPartialWrite_canon (req addr mask : Nat) (data : Bytes) (poison : Bool) (wrong : List (Nat × Nat)) (s : State) (h : s.canon) :
    CanonOut (execDramPartialWrite req addr mask data poison wrong s) := by
  simp [execDramPartialWrite, h]

@[simp] theorem execPoisonTrap_canon (core kind va addr : Nat) (src : Nat × Bool) (s : State) (h : s.canon) :
    CanonOut (execPoisonTrap core kind va addr src s) := by
  simp [execPoisonTrap, h]

@[simp] theorem State.memReject_canon (s : State) (cause sub : Nat) : KeepsCanon s (s.memReject cause sub) := .of fun h => by
  simp [State.memReject, h]

@[simp] theorem State.scrubLine_canon (s : State) (a : Nat) : KeepsCanon s (s.scrubLine a).1 := .of fun h => by simp [State.scrubLine, h]

@[simp] theorem execScrubVisit_canon (wrong : List (Nat × Nat)) (s : State) (h : s.canon) : CanonOut (execScrubVisit wrong s) := by
  simp [execScrubVisit, h]

@[simp] theorem State.lineResult_canon (s : State) (result nsym pois : Nat) : KeepsCanon s (s.lineResult result nsym pois) := by
  refine .of fun h => ?_
  simp [State.lineResult, h]

@[simp] theorem State.copyLine_canon (s : State) (a b : Nat) : KeepsCanon s (s.copyLine a b).1 := .of fun h => by simp [State.copyLine, h]

@[simp] theorem State.lineRun_canon (s : State) (cmd : Nat) : KeepsCanon s (s.lineRun cmd) := by
  refine .of fun h => ?_
  unfold State.lineRun
  split <;> simp +contextual [h]

@[simp] theorem State.lineGo_canon (s : State) : KeepsCanon s s.lineGo := by
  refine .of fun h => ?_
  unfold State.lineGo
  split <;> simp [h]

@[simp] theorem State.scrubGo_canon (s : State) : KeepsCanon s s.scrubGo := by
  refine .of fun h => ?_
  unfold State.scrubGo
  split <;> simp [h]

@[simp] theorem State.memWaiting_canon (s : State) : KeepsCanon s s.memWaiting := .of fun h => by simp [State.memWaiting, h]
@[simp] theorem State.lineCmdWrite_canon (s : State) (cmd : Nat) : KeepsCanon s (s.lineCmdWrite cmd) := .of fun h => by simp [State.lineCmdWrite, h]

@[simp] theorem State.lineWrite_canon (s : State) (agent : Agent) (cmd : Nat) : KeepsCanon s (s.lineWrite agent cmd) := .of fun h => by
  simp +contextual [State.lineWrite, h]

@[simp] theorem execLineZero_canon (agent : Agent) (s : State) (h : s.canon) : CanonOut (execLineZero agent s) := by simp [execLineZero, h]
@[simp] theorem execLineScrub_canon (agent : Agent) (s : State) (h : s.canon) : CanonOut (execLineScrub agent s) := by simp [execLineScrub, h]
@[simp] theorem execLineInject_canon (agent : Agent) (s : State) (h : s.canon) : CanonOut (execLineInject agent s) := by simp [execLineInject, h]
@[simp] theorem execLineCopy_canon (agent : Agent) (s : State) (h : s.canon) : CanonOut (execLineCopy agent s) := by simp [execLineCopy, h]

@[simp] theorem State.markWrite_canon (s : State) (n : Nat) (v : W32) : KeepsCanon s (s.markWrite n v) := by
  refine .of fun h => ?_
  unfold State.markWrite
  (repeat' split) <;> simp [h]

@[simp] theorem execDeviceMarkSet_canon (agent : Agent) (n dev : Nat) (s : State) (h : s.canon) : CanonOut (execDeviceMarkSet agent n dev s) := by
  simp +contextual [execDeviceMarkSet, h]

@[simp] theorem execDeviceMarkClear_canon (agent : Agent) (n : Nat) (s : State) (h : s.canon) : CanonOut (execDeviceMarkClear agent n s) := by
  simp +contextual [execDeviceMarkClear, h]

@[simp] theorem State.startFail_canon (s : State) (cause sub : Nat) : KeepsCanon s (s.startFail cause sub) := .of fun h => by
  simp [State.startFail, h]

@[simp] theorem State.dramStart_canon (s : State) (f : StartFound) : KeepsCanon s (s.dramStart f) := by
  refine .of fun h => ?_
  unfold State.dramStart
  extract_lets _ s1 s2 s3 s4 t any
  have h2 : s2.canon := by simp [s2, s1, h]
  have h3 : s3.canon := by simp +contextual [s3, h2]
  have h4 : s4.canon := by simp +contextual [s4, h3]
  have ht : t.canon := by
    refine foldl_keepsCanon (fun x n hx => ?_) _ h4
    split <;> simp [hx]
  clear_value s2 s3 s4 t
  (repeat' split) <;> simp [h2, h3, h4, ht]

@[simp] theorem State.memWrite_canon (s : State) (off : Nat) (v : W32) : KeepsCanon s (s.memWrite off v) := .of fun h => by simp [State.memWrite, h]
@[simp] theorem State.memParity_canon (s : State) : KeepsCanon s s.memParity := .of fun h => by simp [State.memParity, h]

/-! ### Rings -/

@[simp] theorem State.ringStart_canon (s : State) (q : Nat) (v : W32) : KeepsCanon s (s.ringStart q v) := .of fun h => by simp [State.ringStart, h]

@[simp] theorem State.ringCfgWrite_canon (s : State) (q : Nat) (v : W32) : KeepsCanon s (s.ringCfgWrite q v) := .of fun h => by
  simp [State.ringCfgWrite, h]

@[simp] theorem State.ringBaseWrite_canon (s : State) (q : Nat) (v : W32) : KeepsCanon s (s.ringBaseWrite q v) := .of fun h => by
  simp [State.ringBaseWrite, h]

@[simp] theorem execRingEnable_canon (agent : Agent) (q : Nat) (value : W32) (s : State) (h : s.canon) :
    CanonOut (execRingEnable agent q value s) := by
  simp +contextual [execRingEnable, h]

@[simp] theorem execRingDisable_canon (agent : Agent) (q : Nat) (s : State) (h : s.canon) : CanonOut (execRingDisable agent q s) := by
  simp +contextual [execRingDisable, h]

@[simp] theorem State.doorbell_canon (s : State) (q idx : Nat) : KeepsCanon s (s.doorbell q idx) := .of fun h => by simp [State.doorbell, h]

@[simp] theorem execSubmissionDoorbell_canon (agent : Agent) (q : Nat) (value : W32) (s : State) (h : s.canon) :
    CanonOut (execSubmissionDoorbell agent q value s) := by
  simp +contextual [execSubmissionDoorbell, h]

@[simp] theorem execCompletionDoorbell_canon (agent : Agent) (q : Nat) (value : W32) (s : State) (h : s.canon) :
    CanonOut (execCompletionDoorbell agent q value s) := by
  simp +contextual [execCompletionDoorbell, h]

@[simp] theorem State.takeLine_canon (s : State) (q : Nat) : KeepsCanon s (s.takeLine q) := .of fun h => by simp [State.takeLine, h]
@[simp] theorem execDescriptorTake_canon (q : Nat) (s : State) (h : s.canon) : CanonOut (execDescriptorTake q s) := by simp [execDescriptorTake, h]

@[simp] theorem execPhaseRecheck_canon (q : Nat) (s : State) (h : s.canon) : CanonOut (execPhaseRecheck q s) := by
  unfold execPhaseRecheck
  split <;> simp [h]

@[simp] theorem execAtDeadlineStart_canon (q : Nat) (s : State) (h : s.canon) : CanonOut (execAtDeadlineStart q s) := by simp [execAtDeadlineStart, h]

/-! ### CAN -/

@[simp] theorem State.setCtl_canon (s : State) (c : Nat) (x : Can) : KeepsCanon s (s.setCtl c x) := .of fun h => by simp [State.setCtl, h]
@[simp] theorem State.setClaim_canon (s : State) (c st : Nat) : KeepsCanon s (s.setClaim c st) := .of fun h => by simp [State.setClaim, h]

@[simp] theorem State.canEvent_canon (s : State) (tag c addr slot name : Nat) (rec : Option Nat) :
    KeepsCanon s (s.canEvent tag c addr slot name rec) := by
  refine .of fun h => ?_
  unfold State.canEvent
  split <;> simp [h]

@[simp] theorem State.ctlEvent_canon (s : State) (tag c : Nat) (rec : Option Nat) : KeepsCanon s (s.ctlEvent tag c rec) := .of fun h => by
  simp [State.ctlEvent, h]

@[simp] theorem State.canReject_canon (s : State) (c cause : Nat) : KeepsCanon s (s.canReject c cause) := .of fun h => by simp [State.canReject, h]
@[simp] theorem State.canPoison_canon (s : State) : KeepsCanon s s.canPoison := .of fun h => by simp [State.canPoison, h]
@[simp] theorem State.errState_canon (s : State) (c : Nat) : KeepsCanon s (s.errState c) := .of fun h => by simp [State.errState, h]
@[simp] theorem State.setTec_canon (s : State) (c n : Nat) : KeepsCanon s (s.setTec c n) := .of fun h => by simp [State.setTec, h]
@[simp] theorem State.busError_canon (s : State) (c err : Nat) : KeepsCanon s (s.busError c err) := .of fun h => by simp [State.busError, h]
@[simp] theorem State.aloneEnd_canon (s : State) (c : Nat) : KeepsCanon s (s.aloneEnd c) := .of fun h => by simp [State.aloneEnd, h]

@[simp] theorem State.pendFrame_canon (s : State) (c : Nat) (f : TxFrame) : KeepsCanon s (s.pendFrame c f) := .of fun h => by
  simp [State.pendFrame, h]

@[simp] theorem State.pendClaim_canon (s : State) (c sa : Nat) : KeepsCanon s (s.pendClaim c sa) := .of fun h => by simp [State.pendClaim, h]
@[simp] theorem State.pendMgmt_canon (s : State) (c b hold : Nat) : KeepsCanon s (s.pendMgmt c b hold) := .of fun h => by simp [State.pendMgmt, h]

@[simp] theorem State.swap_canon (s : State) (c : Nat) (f : TxFrame) (l : List TxFrame) : KeepsCanon s (s.swap c f l) := .of fun h => by
  simp [State.swap, h]

@[simp] theorem execCanFrameStart_canon (c : Nat) (s : State) (h : s.canon) : CanonOut (execCanFrameStart c s) := by
  unfold execCanFrameStart
  (repeat' split) <;> simp [h]

@[simp] theorem State.frameDone_canon (s : State) (c : Nat) (f : TxFrame) (st : Nat) : KeepsCanon s (s.frameDone c f st) := by
  refine .of fun h => ?_
  unfold State.frameDone
  split <;> simp [h]

@[simp] theorem State.settleCancels_canon (s : State) (c : Nat) (sent : Bool) : KeepsCanon s (s.settleCancels c sent) := by
  refine .of fun h => ?_
  simp +contextual [State.settleCancels, h]

@[simp] theorem execCanFrameAcknowledged_canon (c : Nat) (s : State) (h : s.canon) : CanonOut (execCanFrameAcknowledged c s) := by
  unfold execCanFrameAcknowledged
  split <;> simp [h]

@[simp] theorem State.ackError_canon (s : State) (c : Nat) : KeepsCanon s (s.ackError c) := .of fun h => by simp [State.ackError, h]

@[simp] theorem execCanFrameLost_canon (c err : Nat) (s : State) (h : s.canon) : CanonOut (execCanFrameLost c err s) := by
  unfold execCanFrameLost
  split <;> simp [h]

@[simp] theorem execCanReceiveError_canon (c err inc : Nat) (s : State) (h : s.canon) : CanonOut (execCanReceiveError c err inc s) := by
  simp [execCanReceiveError, h]

@[simp] theorem execBusOffRecovery_canon (c : Nat) (s : State) (h : s.canon) : CanonOut (execBusOffRecovery c s) := by simp [execBusOffRecovery, h]
@[simp] theorem State.aloneWrite_canon (s : State) (v : W32) : KeepsCanon s (s.aloneWrite v) := .of fun h => by simp +contextual [State.aloneWrite, h]

@[simp] theorem execAloneClear_canon (agent : Agent) (value : W32) (s : State) (h : s.canon) : CanonOut (execAloneClear agent value s) := by
  simp +contextual [execAloneClear, h]

@[simp] theorem State.sendFrame_canon (s : State) (c : Nat) (d : Desc) : KeepsCanon s (s.sendFrame c d) := by
  refine .of fun h => ?_
  unfold State.sendFrame
  (repeat' split) <;> simp [h]

@[simp] theorem execSendCmd_canon (q : Nat) (s : State) (h : s.canon) : CanonOut (execSendCmd q s) := by
  unfold execSendCmd
  dsimp only
  (repeat' split) <;> simp [h]

@[simp] theorem execCanCancel_canon (q : Nat) (s : State) (h : s.canon) : CanonOut (execCanCancel q s) := by
  unfold execCanCancel
  dsimp only
  (repeat' split) <;> simp +contextual [h]

@[simp] theorem State.pendBuffer_canon (s : State) (c b : Nat) (f : TxFrame) : KeepsCanon s (s.pendBuffer c b f) := by
  refine .of fun h => ?_
  unfold State.pendBuffer
  split <;> simp [h]

@[simp] theorem State.canRelease_canon (s : State) (c b : Nat) (fields : List Overlay) : KeepsCanon s (s.canRelease c b fields).1 := by
  refine .of fun h => ?_
  simp [State.canRelease, h]

@[simp] theorem State.ptnLive_canon (s : State) : KeepsCanon s s.ptnLive := .of fun h => by simp [State.ptnLive, h]
@[simp] theorem State.ptnSeen_canon (s : State) (k : Nat) : KeepsCanon s (s.ptnSeen k) := .of fun h => by simp [State.ptnSeen, h]
@[simp] theorem State.ptnEvent_canon (s : State) (tag k : Nat) : KeepsCanon s (s.ptnEvent tag k) := .of fun h => by simp [State.ptnEvent, h]
@[simp] theorem State.ptnArea_canon (s : State) (k : Nat) : KeepsCanon s (s.ptnArea k) := .of fun h => by simp [State.ptnArea, h]
@[simp] theorem State.ptnSet_canon (s : State) (k c st addr : Nat) : KeepsCanon s (s.ptnSet k c st addr) := .of fun h => by simp [State.ptnSet, h]

@[simp] theorem State.ptnClaim_canon (s : State) (c addr k tag : Nat) : KeepsCanon s (s.ptnClaim c addr k tag) := by
  refine .of fun h => ?_
  unfold State.ptnClaim
  split <;> simp [h]

@[simp] theorem State.partnerUpdate_canon (s : State) (c addr name : Nat) : KeepsCanon s (s.partnerUpdate c addr name) := by
  refine .of fun h => ?_
  unfold State.partnerUpdate
  dsimp only
  (repeat' split) <;> simp [h]

@[simp] theorem State.partnerHeard_canon (s : State) (c addr : Nat) : KeepsCanon s (s.partnerHeard c addr) := by
  refine .of fun h => ?_
  unfold State.partnerHeard
  dsimp only
  (repeat' split) <;> simp +contextual [h]

@[simp] theorem execPartnerTimeout_canon (k : Nat) (s : State) (h : s.canon) : CanonOut (execPartnerTimeout k s) := by simp [execPartnerTimeout, h]

@[simp] theorem State.ptncfgWrite_canon (s : State) (v : W32) : KeepsCanon s (s.ptncfgWrite v) := .of fun h => by
  simp +contextual [State.ptncfgWrite, h]

@[simp] theorem execAddressClaim_canon (c : Nat) (s : State) (h : s.canon) : CanonOut (execAddressClaim c s) := by simp [execAddressClaim, h]

@[simp] theorem execClaimHoldoffExpiry_canon (c : Nat) (s : State) (h : s.canon) : CanonOut (execClaimHoldoffExpiry c s) := by
  unfold execClaimHoldoffExpiry
  split <;> simp [h]

@[simp] theorem execClaimContest_canon (c r : Nat) (s : State) (h : s.canon) : CanonOut (execClaimContest c r s) := by
  unfold execClaimContest
  split <;> simp [h]

@[simp] theorem execClaimBackoffExpiry_canon (c : Nat) (s : State) (h : s.canon) : CanonOut (execClaimBackoffExpiry c s) := by
  unfold execClaimBackoffExpiry
  dsimp only
  (repeat' split) <;> simp [h]

@[simp] theorem execClaimRequest_canon (c : Nat) (s : State) (h : s.canon) : CanonOut (execClaimRequest c s) := by simp [execClaimRequest, h]

@[simp] theorem State.rxBuffer_canon (s : State) (c b : Nat) (f : CanFrame) : KeepsCanon s (s.rxBuffer c b f) := .of fun h => by
  simp [State.rxBuffer, h]

@[simp] theorem State.rxRing_canon (s : State) (c r tag : Nat) (ip : Bool) (f : CanFrame) : KeepsCanon s (s.rxRing c r tag ip f).1 := by
  refine .of fun h => ?_
  simp [State.rxRing, h]

@[simp] theorem State.deliver_canon (s : State) (c : Nat) (f : CanFrame) : KeepsCanon s (s.deliver c f) := by
  refine .of fun h => ?_
  unfold State.deliver
  split <;> simp [h]

@[simp] theorem State.protocol_canon (s : State) (c : Nat) (f : CanFrame) : KeepsCanon s (s.protocol c f) := .of fun h => by simp [State.protocol, h]
@[simp] theorem State.recDown_canon (s : State) (c : Nat) : KeepsCanon s (s.recDown c) := .of fun h => by simp [State.recDown, h]

@[simp] theorem execCanFrameReceived_canon (c : Nat) (f : CanFrame) (s : State) (h : s.canon) : CanonOut (execCanFrameReceived c f s) := by
  simp [execCanFrameReceived, h]

@[simp] theorem State.accCopy_canon (s : State) (c : Nat) : KeepsCanon s (s.accCopy c) := .of fun h => by simp [State.accCopy, h]

@[simp] theorem State.acctabWrite_canon (s : State) (c : Nat) (v : W32) : KeepsCanon s (s.acctabWrite c v) := .of fun h => by
  simp [State.acctabWrite, h]

@[simp] theorem execAcceptanceTableCopy_canon (agent : Agent) (c : Nat) (value : W32) (s : State) (h : s.canon) :
    CanonOut (execAcceptanceTableCopy agent c value s) := by
  simp +contextual [execAcceptanceTableCopy, h]

@[simp] theorem State.claimIdle_canon (s : State) (c : Nat) : KeepsCanon s (s.claimIdle c) := .of fun h => by simp [State.claimIdle, h]
@[simp] theorem State.canStart_canon (s : State) (c : Nat) : KeepsCanon s (s.canStart c) := .of fun h => by simp [State.canStart, h]
@[simp] theorem State.canStop_canon (s : State) (c : Nat) : KeepsCanon s (s.canStop c) := .of fun h => by simp +contextual [State.canStop, h]

@[simp] theorem State.canModeNow_canon (s : State) (c oldMode : Nat) (oldClaim : Bool) : KeepsCanon s (s.canModeNow c oldMode oldClaim) := by
  refine .of fun h => ?_
  simp [State.canModeNow, h]

@[simp] theorem State.canCtlWrite_canon (s : State) (c : Nat) (v : W32) : KeepsCanon s (s.canCtlWrite c v) := .of fun h => by
  simp [State.canCtlWrite, h]

@[simp] theorem execCanEnable_canon (agent : Agent) (c : Nat) (value : W32) (s : State) (h : s.canon) : CanonOut (execCanEnable agent c value s) := by
  simp +contextual [execCanEnable, h]

@[simp] theorem execCanDisable_canon (agent : Agent) (c : Nat) (s : State) (h : s.canon) : CanonOut (execCanDisable agent c s) := by
  simp +contextual [execCanDisable, h]

@[simp] theorem execCanModeWrite_canon (agent : Agent) (c mode : Nat) (s : State) (h : s.canon) : CanonOut (execCanModeWrite agent c mode s) := by
  simp +contextual [execCanModeWrite, h]

@[simp] theorem execBusRateDetect_canon (c nrate drate : Nat) (s : State) (h : s.canon) : CanonOut (execBusRateDetect c nrate drate s) := by
  simp [execBusRateDetect, h]

@[simp] theorem execDetectTimeout_canon (c : Nat) (s : State) (h : s.canon) : CanonOut (execDetectTimeout c s) := by simp [execDetectTimeout, h]

@[simp] theorem State.canSetWrite_canon (s : State) (c r : Nat) (v : W32) : KeepsCanon s (s.canSetWrite c r v) := .of fun h => by
  simp [State.canSetWrite, h]

@[simp] theorem State.canWrite_canon (s : State) (off : Nat) (v : W32) : KeepsCanon s (s.canWrite off v) := .of fun h => by simp [State.canWrite, h]

@[simp] theorem execPartnerClear_canon (agent : Agent) (value : W32) (s : State) (h : s.canon) : CanonOut (execPartnerClear agent value s) := by
  simp +contextual [execPartnerClear, h]

@[simp] theorem State.canParity_canon (s : State) (off : Nat) : KeepsCanon s (s.canParity off) := .of fun h => by simp [State.canParity, h]

/-! ### Ethernet -/

@[simp] theorem State.ethEvent_canon (s : State) (tag unit detail : Nat) : KeepsCanon s (s.ethEvent tag unit detail) := .of fun h => by
  simp [State.ethEvent, h]

@[simp] theorem State.ethReject_canon (s : State) (unit cause : Nat) : KeepsCanon s (s.ethReject unit cause) := .of fun h => by
  simp [State.ethReject, h]

@[simp] theorem State.ethPoison_canon (s : State) : KeepsCanon s s.ethPoison := .of fun h => by simp [State.ethPoison, h]
@[simp] theorem State.ethDrop_canon (s : State) (p : Nat) : KeepsCanon s (s.ethDrop p) := .of fun h => by simp [State.ethDrop, h]
@[simp] theorem State.ethBufRegs_canon (s : State) : KeepsCanon s s.ethBufRegs := .of fun h => by simp [State.ethBufRegs, h]

@[simp] theorem State.frameSent_canon (s : State) (e : EgFrame) (t : Nat) : KeepsCanon s (s.frameSent e t) := by
  refine .of fun h => ?_
  unfold State.frameSent
  split <;> simp [h]

@[simp] theorem State.egress_canon (s : State) (src : Nat) (e : EgFrame) : KeepsCanon s (s.egress src e) := by
  refine .of fun h => ?_
  unfold State.egress
  (repeat' split) <;> simp [h]

@[simp] theorem State.drainPort_canon (s : State) (p : Nat) : KeepsCanon s (s.drainPort p) := .of fun h => by simp +contextual [State.drainPort, h]
@[simp] theorem State.gclInstall_canon (s : State) (w : GclWait) : KeepsCanon s (s.gclInstall w) := .of fun h => by simp [State.gclInstall, h]
@[simp] theorem State.gclDue_canon (s : State) (p : Nat) : KeepsCanon s (s.gclDue p) := .of fun h => by simp +contextual [State.gclDue, h]
@[simp] theorem execGateOpen_canon (port : Nat) (s : State) (h : s.canon) : CanonOut (execGateOpen port s) := by simp [execGateOpen, h]
@[simp] theorem State.fdbDrop_canon (s : State) (mac vid : Nat) : KeepsCanon s (s.fdbDrop mac vid) := .of fun h => by simp [State.fdbDrop, h]
@[simp] theorem State.fdbAdd_canon (s : State) (e : FdbEntry) : KeepsCanon s (s.fdbAdd e) := .of fun h => by simp [State.fdbAdd, h]

@[simp] theorem State.fdbLearn_canon (s : State) (p vid mac : Nat) : KeepsCanon s (s.fdbLearn p vid mac) := by
  refine .of fun h => ?_
  unfold State.fdbLearn
  (repeat' split) <;> simp [h]

@[simp] theorem execFdbEntryAgeing_canon (mac vid : Nat) (s : State) (h : s.canon) : CanonOut (execFdbEntryAgeing mac vid s) := by
  unfold execFdbEntryAgeing
  split <;> simp [h]

@[simp] theorem execRxbuf_canon (s : State) (h : s.canon) : CanonOut (execRxbuf s) := by
  unfold execRxbuf
  split <;> simp [h]

@[simp] theorem State.hostFrame_canon (s : State) (p : Nat) (f : EthFrame) (tarr : Nat) : KeepsCanon s (s.hostFrame p f tarr) := by
  refine .of fun h => ?_
  unfold State.hostFrame
  split <;> simp [h]

@[simp] theorem State.forward_canon (s : State) (src : Nat) (f : EthFrame) (tarr : Nat) (desc : Option Desc) (ps : List Nat) :
    KeepsCanon s (s.forward src f tarr desc ps) := by
  refine .of fun h => ?_
  unfold State.forward
  split <;> simp +contextual [h]

@[simp] theorem execXmit_canon (s : State) (h : s.canon) : CanonOut (execXmit s) := by
  unfold execXmit
  split <;> simp [h]

@[simp] theorem State.rioWrite_canon (s : State) (n port tarr : Nat) (payload : Bytes) : KeepsCanon s (s.rioWrite n port tarr payload) := by
  refine .of fun h => ?_
  simp [State.rioWrite, h]

@[simp] theorem State.frameIn_canon (s : State) (p : Nat) : KeepsCanon s (s.frameIn p) := .of fun h => by simp [State.frameIn, h]

@[simp] theorem execRioInputFrame_canon (port : Nat) (f : EthFrame) (tarr : Nat) (s : State) (h : s.canon) :
    CanonOut (execRioInputFrame port f tarr s) := by
  unfold execRioInputFrame
  (repeat' split) <;> simp [h]

@[simp] theorem execRiotpl_canon (s : State) (h : s.canon) : CanonOut (execRiotpl s) := by simp +contextual [execRiotpl, h]

@[simp] theorem State.rioRelease_canon (s : State) (n : Nat) (fields : List Overlay) : KeepsCanon s (s.rioRelease n fields).1 := by
  refine .of fun h => ?_
  unfold State.rioRelease
  dsimp only
  (repeat' split) <;> simp [h]

@[simp] theorem State.fieldOr_canon (s : State) (n : Nat) (lo hi v : Int) : KeepsCanon s (s.fieldOr n lo hi v).1 := .of fun h => by
  simp [State.fieldOr, h]

@[simp] theorem State.lidarPoint_canon (s : State) (l b : Bytes) (unit : Nat) (t : Int × Bool) (block point : Nat) :
    KeepsCanon s (s.lidarPoint l b unit t block point).1 := by
  refine .of fun h => ?_
  simp [State.lidarPoint, h]

@[simp] theorem State.lidarPoints_canon (s : State) (l b : Bytes) (unit : Nat) (t : Int × Bool) : KeepsCanon s (s.lidarPoints l b unit t).1 := by
  refine .of fun h => ?_
  simp +contextual [State.lidarPoints, h]

@[simp] theorem State.lidarPacket_canon (s : State) (l b : Bytes) (tarr : Nat) (sync : Bool) : KeepsCanon s (s.lidarPacket l b tarr sync) := by
  refine .of fun h => ?_
  simp +contextual [State.lidarPacket, h]

@[simp] theorem State.analyserPacket_canon (s : State) (l b : Bytes) (tarr : Nat) (sync : Bool) : KeepsCanon s (s.analyserPacket l b tarr sync) := by
  refine .of fun h => ?_
  simp [State.analyserPacket, h]

@[simp] theorem execUdpIntake_canon (port : Nat) (f : EthFrame) (tarr : Nat) (late sync : Bool) (s : State) (h : s.canon) :
    CanonOut (execUdpIntake port f tarr late sync s) := by
  unfold execUdpIntake
  (repeat' split) <;> simp [h]

@[simp] theorem execEthFrameForward_canon (port : Nat) (f : EthFrame) (tarr : Nat) (s : State) (h : s.canon) :
    CanonOut (execEthFrameForward port f tarr s) := by
  simp [execEthFrameForward, h]

@[simp] theorem State.linkDown_canon (s : State) (p : Nat) : KeepsCanon s (s.linkDown p) := .of fun h => by simp [State.linkDown, h]

@[simp] theorem execEthLinkChange_canon (port : Nat) (up : Bool) (pdelay : Option Nat) (s : State) (h : s.canon) :
    CanonOut (execEthLinkChange port up pdelay s) := by
  simp [execEthLinkChange, h]

@[simp] theorem State.ptpStat_canon (s : State) : KeepsCanon s s.ptpStat := .of fun h => by simp [State.ptpStat, h]

@[simp] theorem execGrandmasterChange_canon (gm : Nat) (own : Bool) (slave steps : Nat) (roles : List Nat) (s : State) (h : s.canon) :
    CanonOut (execGrandmasterChange gm own slave steps roles s) := by
  simp +contextual [execGrandmasterChange, h]

@[simp] theorem execPtpMark_canon (stamp sec : Nat) (rateErr : Int) (s : State) (h : s.canon) : CanonOut (execPtpMark stamp sec rateErr s) := by
  simp [execPtpMark, h]

@[simp] theorem execGclload_canon (s : State) (h : s.canon) : CanonOut (execGclload s) := by
  unfold execGclload
  split <;> simp +contextual [h]

@[simp] theorem execFdbset_canon (s : State) (h : s.canon) : CanonOut (execFdbset s) := by simp +contextual [execFdbset, h]

@[simp] theorem State.portCtlWrite_canon (s : State) (p : Nat) (v : W32) : KeepsCanon s (s.portCtlWrite p v) := .of fun h => by
  simp [State.portCtlWrite, h]

@[simp] theorem State.rioCfgWrite_canon (s : State) (n : Nat) (v : W32) : KeepsCanon s (s.rioCfgWrite n v) := .of fun h => by
  simp [State.rioCfgWrite, h]

@[simp] theorem State.udpCtlWrite_canon (s : State) (m : Nat) (v : W32) : KeepsCanon s (s.udpCtlWrite m v) := .of fun h => by
  simp [State.udpCtlWrite, h]

@[simp] theorem State.lidarWrite_canon (s : State) (u r : Nat) (v : W32) : KeepsCanon s (s.lidarWrite u r v) := .of fun h => by
  simp [State.lidarWrite, h]

@[simp] theorem State.nvmeCloseAll_canon (s : State) : KeepsCanon s s.nvmeCloseAll := .of fun h => by simp [State.nvmeCloseAll, h]
@[simp] theorem State.ethWrite_canon (s : State) (off : Nat) (v : W32) : KeepsCanon s (s.ethWrite off v) := .of fun h => by simp [State.ethWrite, h]
@[simp] theorem State.ethParity_canon (s : State) (off : Nat) : KeepsCanon s (s.ethParity off) := .of fun h => by simp [State.ethParity, h]

/-! ### Wear of Terrace -/

@[simp] theorem State.terEvent_canon (s : State) (tag drive ns detail : Nat) : KeepsCanon s (s.terEvent tag drive ns detail) := by
  refine .of fun h => ?_
  simp [State.terEvent, h]

@[simp] theorem State.wearRegs_canon (s : State) : KeepsCanon s s.wearRegs := .of fun h => by simp [State.wearRegs, h]
@[simp] theorem State.raiseTcode_canon (s : State) (r k : Nat) : KeepsCanon s (s.raiseTcode r k) := .of fun h => by simp [State.raiseTcode, h]
@[simp] theorem State.terErase_canon (s : State) (p : Nat) : KeepsCanon s (s.terErase p) := .of fun h => by simp [State.terErase, h]
@[simp] theorem State.terHigh_canon (s : State) (p : Nat) : KeepsCanon s (s.terHigh p) := .of fun h => by simp [State.terHigh, h]
@[simp] theorem State.terRetire_canon (s : State) (p : Nat) : KeepsCanon s (s.terRetire p) := .of fun h => by simp [State.terRetire, h]

@[simp] theorem State.pceLog_canon (s : State) (type : Nat) (slot : Option Nat) (hdr addr : Nat) : KeepsCanon s (s.pceLog type slot hdr addr) := by
  refine .of fun h => ?_
  simp [State.pceLog, h]

@[simp] theorem State.pcePoison_canon (s : State) (slot : Nat) : KeepsCanon s (s.pcePoison slot) := .of fun h => by simp [State.pcePoison, h]

/-! ### NAND -/

@[simp] theorem State.nflReject_canon (s : State) (cause : Nat) : KeepsCanon s (s.nflReject cause) := .of fun h => by simp [State.nflReject, h]

@[simp] theorem State.nflLog_canon (s : State) (type tcode src bits p meta0 : Nat) : KeepsCanon s (s.nflLog type tcode src bits p meta0) := by
  refine .of fun h => ?_
  simp [State.nflLog, h]

@[simp] theorem State.nflPop_canon (s : State) : KeepsCanon s s.nflPop := .of fun h => by simp [State.nflPop, h]
@[simp] theorem State.packCount_canon (s : State) (c : Nat) : KeepsCanon s (s.packCount c) := .of fun h => by simp [State.packCount, h]
@[simp] theorem State.readCounts_canon (s : State) (c e t : Nat) : KeepsCanon s (s.readCounts c e t) := .of fun h => by simp [State.readCounts, h]

@[simp] theorem State.readFail_canon (s : State) (page : Bytes) (src p dest type tcode : Nat) :
    KeepsCanon s (s.readFail page src p dest type tcode).1 := by
  refine .of fun h => ?_
  simp [State.readFail, h]

@[simp] theorem State.decodePage_canon (s : State) (page : Bytes) (src p dest : Nat) : KeepsCanon s (s.decodePage page src p dest).1 := by
  refine .of fun h => ?_
  unfold State.decodePage
  (repeat' split) <;> simp [h]

@[simp] theorem State.nandRead_canon (s : State) (src p dest : Nat) (flips : List Nat) : KeepsCanon s (s.nandRead src p dest flips).1 := by
  refine .of fun h => ?_
  simp [State.nandRead, h]

@[simp] theorem State.nandStore_canon (s : State) (p : Nat) (b : Bytes) : KeepsCanon s (s.nandStore p b) := .of fun h => by simp [State.nandStore, h]
@[simp] theorem State.nandFree_canon (s : State) (p : Nat) : KeepsCanon s (s.nandFree p) := .of fun h => by simp [State.nandFree, h]
@[simp] theorem State.blockFree_canon (s : State) (p : Nat) : KeepsCanon s (s.blockFree p) := .of fun h => by simp +contextual [State.blockFree, h]

@[simp] theorem State.nandFail_canon (s : State) (src p type : Nat) : KeepsCanon s (s.nandFail src p type).1 := .of fun h => by
  simp [State.nandFail, h]

@[simp] theorem State.srcPoison_canon (s : State) : KeepsCanon s s.srcPoison.1 := .of fun h => by simp [State.srcPoison, h]

@[simp] theorem State.nandProgram_canon (s : State) (src p from0 : Nat) (info : Bytes) (fail bad : Bool) :
    KeepsCanon s (s.nandProgram src p from0 info fail bad).1 := by
  refine .of fun h => ?_
  simp [State.nandProgram, h]

@[simp] theorem State.nandErase_canon (s : State) (src p : Nat) (fail : Bool) : KeepsCanon s (s.nandErase src p fail).1 := by
  refine .of fun h => ?_
  simp [State.nandErase, h]

@[simp] theorem State.nflServe_canon (s : State) (q op : Nat) (f : Desc → State → State × NandOut) (h : ∀ d t, t.canon → (f d t).1.canon) :
    KeepsCanon s (s.nflServe q op f) := by
  refine .of fun hs => ?_
  simp +contextual [State.nflServe, h, hs]

@[simp] theorem execNandRead_canon (q : Nat) (flips : List Nat) (s : State) (h : s.canon) : CanonOut (execNandRead q flips s) := by
  simp +contextual [execNandRead, h]

@[simp] theorem execNandProgram_canon (q : Nat) (fail tableBad : Bool) (s : State) (h : s.canon) : CanonOut (execNandProgram q fail tableBad s) := by
  simp +contextual [execNandProgram, h]

@[simp] theorem execNandErase_canon (q : Nat) (fail : Bool) (s : State) (h : s.canon) : CanonOut (execNandErase q fail s) := by
  simp +contextual [execNandErase, h]

@[simp] theorem State.rawServe_canon (s : State) (op : Nat) (f : Desc → State → State × NandOut) (h : ∀ d t, t.canon → (f d t).1.canon) :
    KeepsCanon s (s.rawServe op f) := by
  refine .of fun hs => ?_
  simp +contextual [State.rawServe, h, hs]

@[simp] theorem execRawread_canon (flips : List Nat) (s : State) (h : s.canon) : CanonOut (execRawread flips s) := by
  simp +contextual [execRawread, h]

@[simp] theorem execRawprog_canon (fail : Bool) (s : State) (h : s.canon) : CanonOut (execRawprog fail s) := by simp +contextual [execRawprog, h]
@[simp] theorem execDecode_canon (s : State) (h : s.canon) : CanonOut (execDecode s) := by simp +contextual [execDecode, h]

@[simp] theorem execLogPop_canon (agent : Agent) (nfl : Bool) (s : State) (h : s.canon) : CanonOut (execLogPop agent nfl s) := by
  simp +contextual [execLogPop, h]

@[simp] theorem State.nflBusy_canon (s : State) : KeepsCanon s s.nflBusy := .of fun h => by simp +contextual [State.nflBusy, h]
@[simp] theorem State.strShow_canon (s : State) : KeepsCanon s s.strShow := .of fun h => by simp [State.strShow, h]
@[simp] theorem State.nflWrite_canon (s : State) (off : Nat) (v : W32) : KeepsCanon s (s.nflWrite off v) := .of fun h => by simp [State.nflWrite, h]
@[simp] theorem State.nflParity_canon (s : State) : KeepsCanon s s.nflParity := .of fun h => by simp [State.nflParity, h]

/-! ### Terrace -/

@[simp] theorem State.setNs_canon (s : State) (n : Nat) (x : Ns) : KeepsCanon s (s.setNs n x) := .of fun h => by simp [State.setNs, h]
@[simp] theorem State.setExt_canon (s : State) (k : Nat) (x : Ext) : KeepsCanon s (s.setExt k x) := .of fun h => by simp [State.setExt, h]
@[simp] theorem State.setDrive_canon (s : State) (d : Nat) (x : Drive) : KeepsCanon s (s.setDrive d x) := .of fun h => by simp [State.setDrive, h]
@[simp] theorem State.nsReg_canon (s : State) (n : Nat) : KeepsCanon s (s.nsReg n) := .of fun h => by simp [State.nsReg, h]
@[simp] theorem State.terRegs_canon (s : State) : KeepsCanon s s.terRegs := .of fun h => by simp +contextual [State.terRegs, h]
@[simp] theorem State.terPoison_canon (s : State) (n lba : Nat) : KeepsCanon s (s.terPoison n lba) := .of fun h => by simp [State.terPoison, h]
@[simp] theorem State.markBlock_canon (s : State) (n lba : Nat) : KeepsCanon s (s.markBlock n lba) := .of fun h => by simp [State.markBlock, h]
@[simp] theorem State.clearBlock_canon (s : State) (n lba : Nat) : KeepsCanon s (s.clearBlock n lba) := .of fun h => by simp [State.clearBlock, h]

@[simp] theorem State.writeBlock_canon (s : State) (n lba : Nat) (b : Bytes) (poison whole : Bool) :
    KeepsCanon s (s.writeBlock n lba b poison whole) := by
  refine .of fun h => ?_
  unfold State.writeBlock
  extract_lets k _ t x lost t2 _ t3 t4 u
  have h3 : t3.canon := by
    simp only [t3, t2, t]
    (repeat' split) <;> simp [h]
  clear_value t3
  simp [u, t4, h3]

@[simp] theorem State.takeExt_canon (s : State) (k : Nat) (l : List Nat) : KeepsCanon s (s.takeExt k l) := .of fun h => by simp [State.takeExt, h]

@[simp] theorem State.needExts_canon (s : State) (n : Nat) (es : List Nat) : KeepsCanon s (s.needExts n es).1 := .of fun h => by
  simp +contextual [State.needExts, h]

@[simp] theorem State.terCmd_canon (s : State) : KeepsCanon s s.terCmd := .of fun h => by simp [State.terCmd, h]

@[simp] theorem State.mediaBad_canon (s : State) (n : Nat) (bad : List Nat) : KeepsCanon s (s.mediaBad n bad) := .of fun h => by
  simp +contextual [State.mediaBad, h]

@[simp] theorem State.judgeAll_canon (s : State) : KeepsCanon s s.judgeAll := .of fun h => by simp [State.judgeAll, h]

@[simp] theorem State.moveAbandon_canon (s : State) : KeepsCanon s s.moveAbandon := by
  refine .of fun h => ?_
  unfold State.moveAbandon
  split <;> simp [h]

@[simp] theorem State.driveState_canon (s : State) (d st : Nat) : KeepsCanon s (s.driveState d st) := .of fun h => by simp [State.driveState, h]

@[simp] theorem State.evacEnd_canon (s : State) (status : Nat) : KeepsCanon s (s.evacEnd status) := by
  refine .of fun h => ?_
  unfold State.evacEnd
  split <;> simp [h]

@[simp] theorem State.driveLost_canon (s : State) (d st tag : Nat) (flight : List (Nat × Nat)) : KeepsCanon s (s.driveLost d st tag flight) := by
  refine .of fun h => ?_
  unfold State.driveLost
  dsimp only
  split <;> simp +contextual [h]

@[simp] theorem State.driveBack_canon (s : State) (d : Nat) : KeepsCanon s (s.driveBack d) := .of fun h => by simp [State.driveBack, h]

@[simp] theorem State.judgeDrive_canon (s : State) (d : Nat) (suits : Bool) (exts : Nat) (label : Option (Nat × Nat × Nat)) :
    KeepsCanon s (s.judgeDrive d suits exts label) := by
  refine .of fun h => ?_
  unfold State.judgeDrive
  dsimp only
  split <;> simp [h]

@[simp] theorem State.terServe_canon (s : State) (q op : Nat) (f : Desc → State → State × Result) (h : ∀ d t, t.canon → (f d t).1.canon) :
    KeepsCanon s (s.terServe q op f) := by
  refine .of fun hs => ?_
  simp +contextual [State.terServe, h, hs]

@[simp] theorem State.terStopDue_canon (s : State) : KeepsCanon s s.terStopDue := by
  refine .of fun h => ?_
  unfold State.terStopDue
  (repeat' split) <;> simp [h]

@[simp] theorem State.deletePrune_canon (s : State) : KeepsCanon s s.deletePrune := .of fun h => by simp [State.deletePrune, h]
@[simp] theorem State.terAfter_canon (s : State) : KeepsCanon s s.terAfter := .of fun h => by simp [State.terAfter, h]
@[simp] theorem State.payEvents_canon (s : State) : KeepsCanon s s.payEvents := .of fun h => by simp [State.payEvents, h]
@[simp] theorem State.nsChanged_canon (s : State) (n : Nat) : KeepsCanon s (s.nsChanged n) := .of fun h => by simp [State.nsChanged, h]
@[simp] theorem execNscreate_canon (s : State) (h : s.canon) : CanonOut (execNscreate s) := by simp +contextual [execNscreate, h]

@[simp] theorem State.nsDrop_canon (s : State) (n : Nat) : KeepsCanon s (s.nsDrop n) := by
  refine .of fun h => ?_
  unfold State.nsDrop
  split <;> simp [h]

@[simp] theorem execNsdelete_canon (s : State) (h : s.canon) : CanonOut (execNsdelete s) := by
  unfold execNsdelete
  dsimp only
  (repeat' split) <;> simp +contextual [h]

@[simp] theorem execNsinfo_canon (s : State) (h : s.canon) : CanonOut (execNsinfo s) := by simp +contextual [execNsinfo, h]
@[simp] theorem execExtread_canon (s : State) (h : s.canon) : CanonOut (execExtread s) := by simp +contextual [execExtread, h]
@[simp] theorem execAdmitCmd_canon (s : State) (h : s.canon) : CanonOut (execAdmitCmd s) := by simp +contextual [execAdmitCmd, h]
@[simp] theorem State.forgetDrive_canon (s : State) (n : Nat) : KeepsCanon s (s.forgetDrive n) := .of fun h => by simp [State.forgetDrive, h]

@[simp] theorem execReleaseCmd_canon (s : State) (h : s.canon) : CanonOut (execReleaseCmd s) := by
  unfold execReleaseCmd
  refine (canonOut_next _).mpr ((State.terAfter_canon _).apply ((State.terServe_canon _ _ _ _ fun d t ht => ?_).apply h))
  dsimp only
  (repeat' split) <;> simp [ht]

@[simp] theorem State.nandServe_canon (s : State) (op : Nat) (f : Desc → State → State × Result) (h : ∀ d t, t.canon → (f d t).1.canon) :
    KeepsCanon s (s.nandServe op f) := by
  refine .of fun hs => ?_
  unfold State.nandServe
  split <;> simp [h, hs]

@[simp] theorem execRawlend_canon (blocks : List Nat) (s : State) (h : s.canon) : CanonOut (execRawlend blocks s) := by
  simp +contextual [execRawlend, h]

@[simp] theorem execRawreturn_canon (fails : List Nat) (s : State) (h : s.canon) : CanonOut (execRawreturn fails s) := by
  simp +contextual [execRawreturn, h]

@[simp] theorem State.evacMove_canon (s : State) (n : Nat) : KeepsCanon s (s.evacMove n) := by
  refine .of fun h => ?_
  unfold State.evacMove
  (repeat' split) <;> simp [h]

@[simp] theorem execEvacuate_canon (s : State) (h : s.canon) : CanonOut (execEvacuate s) := by
  unfold execEvacuate
  split <;> simp [h]

@[simp] theorem State.readInto_canon (s : State) (n lba cnt a : Nat) : KeepsCanon s (s.readInto n lba cnt a).1 :=
  foldl_fst_canon _ (fun x i hx => by simp [hx]) _ _

@[simp] theorem execTerRead_canon (bad : List Nat) (s : State) (h : s.canon) : CanonOut (execTerRead bad s) := by simp +contextual [execTerRead, h]
@[simp] theorem execTerWrite_canon (s : State) (h : s.canon) : CanonOut (execTerWrite s) := by simp +contextual [execTerWrite, h]

@[simp] theorem State.appendBytes_canon (s : State) (n : Nat) (b : Bytes) (bad : List Nat) : KeepsCanon s (s.appendBytes n b bad).1 := by
  refine .of fun h => ?_
  simp +contextual [State.appendBytes, h]

@[simp] theorem execAppend_canon (s : State) (h : s.canon) : CanonOut (execAppend s) := by simp +contextual [execAppend, h]
@[simp] theorem execTerFlush_canon (s : State) (h : s.canon) : CanonOut (execTerFlush s) := by simp [execTerFlush, h]

@[simp] theorem State.deallocRange_canon (s : State) (n lba cnt : Nat) : KeepsCanon s (s.deallocRange n lba cnt) := by
  refine .of fun h => ?_
  unfold State.deallocRange
  split <;> simp +contextual [h]

@[simp] theorem execDealloc_canon (s : State) (h : s.canon) : CanonOut (execDealloc s) := by simp +contextual [execDealloc, h]
@[simp] theorem execTerRefresh_canon (s : State) (h : s.canon) : CanonOut (execTerRefresh s) := by simp [execTerRefresh, h]

@[simp] theorem execRefreshPass_canon (bad : List (Nat × Nat)) (rewritten : Nat) (s : State) (h : s.canon) :
    CanonOut (execRefreshPass bad rewritten s) := by
  simp +contextual [execRefreshPass, h]

@[simp] theorem State.terLinkLost_canon (s : State) (d : Nat) (flight : List (Nat × Nat)) : KeepsCanon s (s.terLinkLost d flight) := by
  refine .of fun h => ?_
  unfold State.terLinkLost
  split <;> simp [h]

@[simp] theorem execDriveLinkLost_canon (slot : Nat) (flight : List (Nat × Nat)) (s : State) (h : s.canon) :
    CanonOut (execDriveLinkLost slot flight s) := by
  simp [execDriveLinkLost, h]

@[simp] theorem execDriveFailed_canon (slot : Nat) (flight : List (Nat × Nat)) (s : State) (h : s.canon) :
    CanonOut (execDriveFailed slot flight s) := by
  simp [execDriveFailed, h]

@[simp] theorem State.copyPoison_canon (s : State) (k : Nat) : KeepsCanon s (s.copyPoison k) := .of fun h => by simp +contextual [State.copyPoison, h]

@[simp] theorem execHotExtentMove_canon (s : State) (h : s.canon) : CanonOut (execHotExtentMove s) := by
  unfold execHotExtentMove
  (repeat' split) <;> simp [h]

@[simp] theorem execDegradedRemirror_canon (s : State) (h : s.canon) : CanonOut (execDegradedRemirror s) := by
  unfold execDegradedRemirror
  (repeat' split) <;> simp [h]

@[simp] theorem State.consume_canon (s : State) (q : Nat) : KeepsCanon s (s.consume q) := .of fun h => by simp [State.consume, h]
@[simp] theorem State.camDrop_canon (s : State) : KeepsCanon s s.camDrop := .of fun h => by simp [State.camDrop, h]
@[simp] theorem execAccessUnitIntake_canon (s : State) (h : s.canon) : CanonOut (execAccessUnitIntake s) := by simp [execAccessUnitIntake, h]
@[simp] theorem execTileIntake_canon (s : State) (h : s.canon) : CanonOut (execTileIntake s) := by simp [execTileIntake, h]
@[simp] theorem State.terReject_canon (s : State) (cause : Nat) : KeepsCanon s (s.terReject cause) := .of fun h => by simp [State.terReject, h]

@[simp] theorem State.terLoad_canon (s : State) (ms : Option Nat) : KeepsCanon s (s.terLoad ms) := by
  refine .of fun h => ?_
  unfold State.terLoad
  split <;> simp [h]

@[simp] theorem State.terStop_canon (s : State) : KeepsCanon s s.terStop := .of fun h => by simp [State.terStop, h]

@[simp] theorem State.terCtlWrite_canon (s : State) (v : W32) (ms : Option Nat) : KeepsCanon s (s.terCtlWrite v ms) := .of fun h => by
  simp [State.terCtlWrite, h]

@[simp] theorem State.terWrite_canon (s : State) (off : Nat) (v : W32) : KeepsCanon s (s.terWrite off v) := .of fun h => by simp [State.terWrite, h]
@[simp] theorem State.terParity_canon (s : State) (off : Nat) : KeepsCanon s (s.terParity off) := .of fun h => by simp [State.terParity, h]

@[simp] theorem execTerraceEnable_canon (agent : Agent) (value : W32) (ms : Option Nat) (s : State) (h : s.canon) :
    CanonOut (execTerraceEnable agent value ms s) := by
  simp +contextual [execTerraceEnable, h]

@[simp] theorem execTerraceStop_canon (agent : Agent) (value : W32) (s : State) (h : s.canon) : CanonOut (execTerraceStop agent value s) := by
  simp +contextual [execTerraceStop, h]

@[simp] theorem State.terCanopyDown_canon (s : State) : KeepsCanon s s.terCanopyDown := by
  refine .of fun h => ?_
  unfold State.terCanopyDown
  extract_lets t x
  have ht : t.canon := by simp +contextual [t, h]
  clear_value t
  simp [ht]

/-! ### NVMe over TCP -/

@[simp] theorem State.hostCpl_canon (s : State) (c : HostCpl) : KeepsCanon s (s.hostCpl c) := .of fun h => by simp [State.hostCpl, h]

@[simp] theorem State.hostStatus_canon (s : State) (conn cid sct sc : Nat) : KeepsCanon s (s.hostStatus conn cid sct sc) := by
  refine .of fun h => ?_
  simp [State.hostStatus, h]

@[simp] theorem State.setConn_canon (s : State) (c : NvmeConn) : KeepsCanon s (s.setConn c) := .of fun h => by simp [State.setConn, h]

@[simp] theorem State.hostServe_canon (s : State) (conn : Nat) (f : NvmeConn → State → State) (h : ∀ c t, t.canon → (f c t).canon) :
    KeepsCanon s (s.hostServe conn f) := by
  refine .of fun hs => ?_
  unfold State.hostServe
  (repeat' split) <;> simp [h, hs]

@[simp] theorem State.connReg_canon (s : State) : KeepsCanon s s.connReg := .of fun h => by simp [State.connReg, h]

@[simp] theorem execNvmeConnect_canon (conn addr qid kato : Nat) (s : State) (h : s.canon) : CanonOut (execNvmeConnect conn addr qid kato s) := by
  unfold execNvmeConnect
  (repeat' split) <;> simp [h]

@[simp] theorem execNvmePropertyGet_canon (conn cid ofst : Nat) (s : State) (h : s.canon) : CanonOut (execNvmePropertyGet conn cid ofst s) := by
  simp +contextual [execNvmePropertyGet, h]

@[simp] theorem execNvmePropertySet_canon (conn cid ofst value : Nat) (s : State) (h : s.canon) :
    CanonOut (execNvmePropertySet conn cid ofst value s) := by
  simp +contextual [execNvmePropertySet, h]

@[simp] theorem execNvmeDisconnect_canon (conn cid : Nat) (s : State) (h : s.canon) : CanonOut (execNvmeDisconnect conn cid s) := by
  simp +contextual [execNvmeDisconnect, h]

@[simp] theorem execNvmeIdentify_canon (conn cid cns nsid : Nat) (s : State) (h : s.canon) : CanonOut (execNvmeIdentify conn cid cns nsid s) := by
  simp +contextual [execNvmeIdentify, h]

@[simp] theorem execNvmeGetLogPage_canon (conn cid lid len : Nat) (retain : Bool) (s : State) (h : s.canon) :
    CanonOut (execNvmeGetLogPage conn cid lid len retain s) := by
  simp +contextual [execNvmeGetLogPage, h]

@[simp] theorem execNvmeSetFeatures_canon (conn cid fid value : Nat) (s : State) (h : s.canon) :
    CanonOut (execNvmeSetFeatures conn cid fid value s) := by
  simp +contextual [execNvmeSetFeatures, h]

@[simp] theorem execNvmeGetFeatures_canon (conn cid fid : Nat) (s : State) (h : s.canon) : CanonOut (execNvmeGetFeatures conn cid fid s) := by
  simp +contextual [execNvmeGetFeatures, h]

@[simp] theorem execNvmeAsyncEventRequest_canon (conn cid : Nat) (s : State) (h : s.canon) : CanonOut (execNvmeAsyncEventRequest conn cid s) := by
  simp +contextual [execNvmeAsyncEventRequest, h]

@[simp] theorem execNvmeKeepAlive_canon (conn cid : Nat) (s : State) (h : s.canon) : CanonOut (execNvmeKeepAlive conn cid s) := by
  simp +contextual [execNvmeKeepAlive, h]

@[simp] theorem State.hostFail_canon (s : State) (c : NvmeConn) (cid : Nat) (code : Nat × Nat) : KeepsCanon s (s.hostFail c cid code) := by
  refine .of fun h => ?_
  simp [State.hostFail, h]

@[simp] theorem State.hostRange_canon (s : State) (conn cid nsid lba blocks : Nat) (bounded : Bool) (f : NvmeConn → Nat → State → State)
    (h : ∀ c n t, t.canon → (f c n t).canon) : KeepsCanon s (s.hostRange conn cid nsid lba blocks bounded f) := by
  refine .of fun hs => ?_
  simp +contextual [State.hostRange, h, hs]

@[simp] theorem execNvmeRead_canon (conn cid nsid lba blocks : Nat) (bad : List Nat) (s : State) (h : s.canon) :
    CanonOut (execNvmeRead conn cid nsid lba blocks bad s) := by
  unfold execNvmeRead
  refine (canonOut_next _).mpr ((State.hostRange_canon _ _ _ _ _ _ _ _ fun c n t ht => ?_).apply h)
  dsimp only
  (repeat' split) <;> simp [ht]

@[simp] theorem State.hostStore_canon (s : State) (c : NvmeConn) (cid n lba : Nat) (data : List Bytes) :
    KeepsCanon s (s.hostStore c cid n lba data) := by
  refine .of fun h => ?_
  simp +contextual [State.hostStore, h]

@[simp] theorem execNvmeWrite_canon (conn cid nsid lba : Nat) (data : List Bytes) (s : State) (h : s.canon) :
    CanonOut (execNvmeWrite conn cid nsid lba data s) := by
  simp +contextual [execNvmeWrite, h]

@[simp] theorem execNvmeFlush_canon (conn cid nsid : Nat) (s : State) (h : s.canon) : CanonOut (execNvmeFlush conn cid nsid s) := by
  simp +contextual [execNvmeFlush, h]

@[simp] theorem execNvmeDatasetManagement_canon (conn cid nsid : Nat) (dealloc : Bool) (ranges : List (Nat × Nat)) (s : State) (h : s.canon) :
    CanonOut (execNvmeDatasetManagement conn cid nsid dealloc ranges s) := by
  simp +contextual [execNvmeDatasetManagement, h]

@[simp] theorem execNvmeWriteZeroes_canon (conn cid nsid lba blocks : Nat) (s : State) (h : s.canon) :
    CanonOut (execNvmeWriteZeroes conn cid nsid lba blocks s) :=
  (canonOut_next _).mpr ((State.hostRange_canon _ _ _ _ _ _ _ _ fun _ _ _ => (State.hostStore_canon _ _ _ _ _ _).apply).apply h)

/-! ### PCI Express -/

@[simp] theorem State.pcePop_canon (s : State) : KeepsCanon s s.pcePop := .of fun h => by simp [State.pcePop, h]

@[simp] theorem State.slotDown_canon (s : State) (n : Nat) (surprise : Bool) : KeepsCanon s (s.slotDown n surprise) := .of fun h => by
  simp [State.slotDown, h]

@[simp] theorem State.rootDown_canon (s : State) : KeepsCanon s s.rootDown := .of fun h => by simp +contextual [State.rootDown, h]
@[simp] theorem State.pceSurprise_canon (s : State) : KeepsCanon s s.pceSurprise := .of fun h => by simp [State.pceSurprise, h]

@[simp] theorem execPcieLinkLoss_canon (slot : Option Nat) (s : State) (h : s.canon) : CanonOut (execPcieLinkLoss slot s) := by
  unfold execPcieLinkLoss
  (repeat' split) <;> simp [h]

@[simp] theorem execCompletionTimeout_canon (slot : Option Nat) (hdr addr : Nat) (core : Option (Nat × Nat × Nat × Bool)) (s : State) (h : s.canon) :
    CanonOut (execCompletionTimeout slot hdr addr core s) := by
  unfold execCompletionTimeout
  (repeat' split) <;> simp [h]

@[simp] theorem State.endDown_canon (s : State) : KeepsCanon s s.endDown := .of fun h => by simp [State.endDown, h]

@[simp] theorem execEndpointLinkChange_canon (up : Bool) (gen width : Nat) (s : State) (h : s.canon) :
    CanonOut (execEndpointLinkChange up gen width s) := by
  simp [execEndpointLinkChange, h]

@[simp] theorem execDriveLinkUp_canon (slot gen width rpGen rpWidth : Nat) (suits : Bool) (exts : Nat) (label : Option (Nat × Nat × Nat))
    (wear : W32) (s : State) (h : s.canon) : CanonOut (execDriveLinkUp slot gen width rpGen rpWidth suits exts label wear s) := by
  simp [execDriveLinkUp, h]

@[simp] theorem execSlotpwr_canon (s : State) (h : s.canon) : CanonOut (execSlotpwr s) := by simp +contextual [execSlotpwr, h]

@[simp] theorem execRetrain_canon (gen width : Nat) (s : State) (h : s.canon) : CanonOut (execRetrain gen width s) := by
  simp +contextual [execRetrain, h]

@[simp] theorem State.pceReject_canon (s : State) (cause : Nat) : KeepsCanon s (s.pceReject cause) := .of fun h => by simp [State.pceReject, h]
@[simp] theorem State.pceLinksDown_canon (s : State) : KeepsCanon s s.pceLinksDown := .of fun h => by simp [State.pceLinksDown, h]
@[simp] theorem State.pceWrite_canon (s : State) (off : Nat) (v : W32) : KeepsCanon s (s.pceWrite off v) := .of fun h => by simp [State.pceWrite, h]
@[simp] theorem State.pceParity_canon (s : State) (off : Nat) : KeepsCanon s (s.pceParity off) := .of fun h => by simp [State.pceParity, h]

/-! ### Event recorder -/

@[simp] theorem State.popQueue_canon (s : State) : KeepsCanon s s.popQueue := .of fun h => by simp [State.popQueue, h]

@[simp] theorem State.cutWrite_canon (s : State) (r : Rec) : KeepsCanon s (s.cutWrite r) := by
  refine .of fun h => ?_
  unfold State.cutWrite
  (repeat' split) <;> simp [h]

@[simp] theorem execEventRecordWrite_canon (cut : Bool) (s : State) (h : s.canon) : CanonOut (execEventRecordWrite cut s) := by
  unfold execEventRecordWrite
  split <;> simp [h]

@[simp] theorem execBucketRefill_canon (sev : Nat) (s : State) (h : s.canon) : CanonOut (execBucketRefill sev s) := by simp [execBucketRefill, h]
@[simp] theorem State.cutBuckets_canon (s : State) (sev : Nat) : KeepsCanon s (s.cutBuckets sev) := .of fun h => by simp [State.cutBuckets, h]

@[simp] theorem State.swResult_canon (s : State) (b res : Nat) (clamp : Bool) : KeepsCanon s (s.swResult b res clamp) := .of fun h => by
  simp [State.swResult, h]

@[simp] theorem State.swRefuse_canon (s : State) (b cause : Nat) : KeepsCanon s (s.swRefuse b cause) := .of fun h => by simp [State.swRefuse, h]
@[simp] theorem State.swCommit_canon (s : State) (b : Nat) (v : W32) : KeepsCanon s (s.swCommit b v) := .of fun h => by simp [State.swCommit, h]

@[simp] theorem execSwrecCommit_canon (agent : Agent) (value : W32) (s : State) (h : s.canon) : CanonOut (execSwrecCommit agent value s) := by
  unfold execSwrecCommit
  split <;> simp +contextual [h]

@[simp] theorem State.bankPair_canon (s : State) (b lo v : Nat) : KeepsCanon s (s.bankPair b lo v) := .of fun h => by simp [State.bankPair, h]

@[simp] theorem State.fetchRec_canon (s : State) (b : Nat) : KeepsCanon s (s.fetchRec b) := by
  refine .of fun h => ?_
  unfold State.fetchRec
  dsimp only
  split <;> simp +contextual [h]

@[simp] theorem execFetch_canon (agent : Agent) (s : State) (h : s.canon) : CanonOut (execFetch agent s) := by
  unfold execFetch
  split <;> simp +contextual [h]

@[simp] theorem execRootEventRecord_canon (event sev p0 p1 p2 : Nat) (s : State) (h : s.canon) :
    CanonOut (execRootEventRecord event sev p0 p1 p2 s) := by
  simp [execRootEventRecord, h]

/-! ### Trellis -/

@[simp] theorem State.setLoop_canon (s : State) (n : Nat) (l : Loop) : KeepsCanon s (s.setLoop n l) := .of fun h => by simp [State.setLoop, h]
@[simp] theorem State.setLoopState_canon (s : State) (n st : Nat) : KeepsCanon s (s.setLoopState n st) := .of fun h => by simp [State.setLoopState, h]

@[simp] theorem State.trlTell_canon (s : State) (tag n w : Nat) (rec : Option Nat) : KeepsCanon s (s.trlTell tag n w rec) := by
  refine .of fun h => ?_
  unfold State.trlTell
  split <;> simp [h]

@[simp] theorem State.trlEvent_canon (s : State) (tag n : Nat) (rec : Option Nat) : KeepsCanon s (s.trlEvent tag n rec) := .of fun h => by
  simp [State.trlEvent, h]

@[simp] theorem State.trlReject_canon (s : State) (n cause : Nat) : KeepsCanon s (s.trlReject n cause) := .of fun h => by simp [State.trlReject, h]
@[simp] theorem State.trlPoison_canon (s : State) : KeepsCanon s s.trlPoison := .of fun h => by simp [State.trlPoison, h]

@[simp] theorem State.installLoop_canon (s : State) (n : Nat) (raw : Bytes) : KeepsCanon s (s.installLoop n raw) := .of fun h => by
  simp [State.installLoop, h]

@[simp] theorem State.readInput_canon (s : State) (l : Loop) (w ts : Nat) : KeepsCanon s (s.readInput l w ts).1 := by
  refine .of fun h => ?_
  unfold State.readInput
  dsimp only
  (repeat' split) <;> simp [h]

@[simp] theorem State.outerOutput_canon (s : State) (w : Nat) (u : Frac) : KeepsCanon s (s.outerOutput w u) := .of fun h => by
  simp [State.outerOutput, h]

@[simp] theorem State.applyOut_canon (s : State) (w : Nat) (u : Frac) : KeepsCanon s (s.applyOut w u).1 := by
  refine .of fun h => ?_
  unfold State.applyOut
  split <;> simp [h]

@[simp] theorem State.loopStop_canon (s : State) (n : Nat) : KeepsCanon s (s.loopStop n) := by
  refine .of fun h => ?_
  unfold State.loopStop
  dsimp only
  split <;> simp [h]

@[simp] theorem State.trlRole_canon (s : State) : KeepsCanon s s.trlRole := by
  refine .of fun h => ?_
  unfold State.trlRole
  split <;> simp [h]

@[simp] theorem State.spLine_canon (s : State) (n : Nat) : KeepsCanon s (s.spLine n).1 := by
  refine .of fun h => ?_
  unfold State.spLine
  (repeat' split) <;> simp [h]

@[simp] theorem State.trackNow_canon (s : State) (n : Nat) : KeepsCanon s (s.trackNow n) := .of fun h => by simp [State.trackNow, h]

@[simp] theorem State.modesNow_canon (s : State) (n : Nat) : KeepsCanon s (s.modesNow n) := by
  refine .of fun h => ?_
  unfold State.modesNow
  dsimp only
  (repeat' split) <;> simp [h]

@[simp] theorem State.outLine_canon (s : State) (n ts tout flags : Nat) (u r y f : Frac) : KeepsCanon s (s.outLine n ts tout flags u r y f) := by
  refine .of fun h => ?_
  simp [State.outLine, h]

/-- The event of a sample is stamped with the instant of its output; Sundial itself stands where it stood. -/
@[simp] theorem State.sampleLog_canon (s : State) (n ts tout flags : Nat) (u e : Frac) :
    KeepsCanon s (s.sampleLog n ts tout flags u e) := by
  refine .of fun h => ?_
  unfold State.sampleLog
  dsimp only
  split
  · exact (State.eventEntry_canon ({ s with now := tout } : State) _ _ _ _ _ _).apply h
  · exact h

@[simp] theorem State.sampleRegs_canon (s : State) (n ts tout flags : Nat) (u r y : Frac) : KeepsCanon s (s.sampleRegs n ts tout flags u r y) := by
  refine .of fun h => ?_
  simp [State.sampleRegs, h]

@[simp] theorem State.measLost_canon (s : State) (n ts : Nat) : KeepsCanon s (s.measLost n ts).1 := by
  refine .of fun h => ?_
  unfold State.measLost
  extract_lets l t l' u v w
  have ht : t.canon := by
    simp only [t]
    split <;> simp [h]
  have hw : w.canon := by simp [w, v, ht]
  clear_value t w
  split <;> simp [ht, hw]

@[simp] theorem State.sampleLaw_canon (s : State) (n ts : Nat) (ok held : Bool) (y f : Frac) : KeepsCanon s (s.sampleLaw n ts ok held y f).1 := by
  refine .of fun h => ?_
  unfold State.sampleLaw
  dsimp only
  (repeat' split) <;> simp [h]

@[simp] theorem State.takeMeas_canon (s : State) (n : Nat) (m : InVal) : KeepsCanon s (s.takeMeas n m) := .of fun h => by simp [State.takeMeas, h]
@[simp] theorem State.takeFf_canon (s : State) (n ts : Nat) : KeepsCanon s (s.takeFf n ts).1 := .of fun h => by simp [State.takeFf, h]
@[simp] theorem State.asatNow_canon (s : State) (n : Nat) : KeepsCanon s (s.asatNow n) := .of fun h => by simp [State.asatNow, h]
@[simp] theorem State.setBusyEnd_canon (s : State) (t : Nat) : KeepsCanon s (s.setBusyEnd t) := .of fun h => by simp [State.setBusyEnd, h]

@[simp] theorem State.runSample_canon (s : State) (n ts tout : Nat) : KeepsCanon s (s.runSample n ts tout) := by
  refine .of fun h => ?_
  unfold State.runSample
  dsimp only
  split <;> simp [h]

@[simp] theorem State.skipSample_canon (s : State) (n ts : Nat) : KeepsCanon s (s.skipSample n ts) := .of fun h => by simp [State.skipSample, h]

@[simp] theorem execLoopSample_canon (n ts tout : Nat) (s : State) (h : s.canon) : CanonOut (execLoopSample n ts tout s) := by
  simp [execLoopSample, h]

@[simp] theorem State.loopStart_canon (s : State) (n : Nat) (v : W32) : KeepsCanon s (s.loopStart n v) := .of fun h => by simp [State.loopStart, h]

@[simp] theorem State.loopCtlWrite_canon (s : State) (n : Nat) (v : W32) : KeepsCanon s (s.loopCtlWrite n v) := .of fun h => by
  simp [State.loopCtlWrite, h]

@[simp] theorem execLoopEnable_canon (agent : Agent) (n : Nat) (value : W32) (s : State) (h : s.canon) :
    CanonOut (execLoopEnable agent n value s) := by
  simp +contextual [execLoopEnable, h]

@[simp] theorem execLoopDisable_canon (agent : Agent) (n : Nat) (s : State) (h : s.canon) : CanonOut (execLoopDisable agent n s) := by
  simp +contextual [execLoopDisable, h]

@[simp] theorem execLoopModeWrite_canon (agent : Agent) (n mode : Nat) (s : State) (h : s.canon) : CanonOut (execLoopModeWrite agent n mode s) := by
  simp +contextual [execLoopModeWrite, h]

@[simp] theorem State.loadPar_canon (s : State) (d : Desc) : KeepsCanon s (s.loadPar d).1 := .of fun h => by simp [State.loadPar, h]
@[simp] theorem execLoadpar_canon (q : Nat) (s : State) (h : s.canon) : CanonOut (execLoadpar q s) := by simp +contextual [execLoadpar, h]
@[simp] theorem execSetmode_canon (q : Nat) (s : State) (h : s.canon) : CanonOut (execSetmode q s) := by simp +contextual [execSetmode, h]
@[simp] theorem execReadpar_canon (q : Nat) (s : State) (h : s.canon) : CanonOut (execReadpar q s) := by simp +contextual [execReadpar, h]
@[simp] theorem execReadstate_canon (q : Nat) (s : State) (h : s.canon) : CanonOut (execReadstate q s) := by simp +contextual [execReadstate, h]

@[simp] theorem execParameterMemoryError_canon (n word : Nat) (corrected : Bool) (s : State) (h : s.canon) :
    CanonOut (execParameterMemoryError n word corrected s) := by
  simp [execParameterMemoryError, h]

@[simp] theorem State.trlWrite_canon (s : State) (off : Nat) (v : W32) : KeepsCanon s (s.trlWrite off v) := .of fun h => by simp [State.trlWrite, h]

@[simp] theorem State.trlParity_canon (s : State) (off : Nat) (was : Bool) : KeepsCanon s (s.trlParity off was) := .of fun h => by
  simp [State.trlParity, h]

/-! ### Update units -/

@[simp] theorem State.unitRegs_canon (s : State) (u : Nat) : KeepsCanon s (s.unitRegs u) := by
  refine .of fun h => ?_
  unfold State.unitRegs
  (repeat' split) <;> simp [h]

@[simp] theorem State.updRegs_canon (s : State) : KeepsCanon s s.updRegs := .of fun h => by simp +contextual [State.updRegs, h]
@[simp] theorem State.setSlot_canon (s : State) (u k : Nat) (x : Slot) : KeepsCanon s (s.setSlot u k x) := .of fun h => by simp [State.setSlot, h]
@[simp] theorem State.setAct_canon (s : State) (u k : Nat) : KeepsCanon s (s.setAct u k) := .of fun h => by simp [State.setAct, h]

@[simp] theorem State.updEvent_canon (s : State) (tag u slot ver old : Nat) (rec : Option Nat) :
    KeepsCanon s (s.updEvent tag u slot ver old rec) := by
  refine .of fun h => ?_
  unfold State.updEvent
  split <;> simp [h]

@[simp] theorem State.itemState_canon (s : State) (k st status : Nat) : KeepsCanon s (s.itemState k st status) := .of fun h => by
  simp [State.itemState, h]

@[simp] theorem State.failBad_canon (s : State) (u : Nat) (bad : List Nat) : KeepsCanon s (s.failBad u bad) := .of fun h => by simp [State.failBad, h]

@[simp] theorem State.startUnit_canon (s : State) (u : Nat) (bad : List Nat) : KeepsCanon s (s.startUnit u bad) := by
  refine .of fun h => ?_
  unfold State.startUnit
  dsimp only
  (repeat' split) <;> simp [h]

@[simp] theorem State.startNew_canon (s : State) (u win : Nat) : KeepsCanon s (s.startNew u win) := .of fun h => by simp [State.startNew, h]
@[simp] theorem State.offProbation_canon (s : State) (u : Nat) : KeepsCanon s (s.offProbation u) := .of fun h => by simp [State.offProbation, h]
@[simp] theorem State.fellMark_canon (s : State) (u : Nat) : KeepsCanon s (s.fellMark u) := .of fun h => by simp [State.fellMark, h]

@[simp] theorem State.endApply_canon (s : State) (st unit : Nat) : KeepsCanon s (s.endApply st unit) := by
  refine .of fun h => ?_
  unfold State.endApply
  split <;> simp +contextual [h]

@[simp] theorem State.fellStop_canon (s : State) (u : Nat) : KeepsCanon s (s.fellStop u) := by
  refine .of fun h => ?_
  unfold State.fellStop
  split <;> simp [h]

@[simp] theorem State.fellAll_canon (s : State) (us : List Nat) : KeepsCanon s (s.fellAll us) := .of fun h => by simp +contextual [State.fellAll, h]

@[simp] theorem State.updPost_canon (s : State) (op : Nat) (payload : List (Nat × Nat × Nat)) : KeepsCanon s (s.updPost op payload).1 := by
  refine .of fun h => ?_
  simp [State.updPost, h]

@[simp] theorem State.itemFail_canon (s : State) (r : UpdRun) (u : Nat) : KeepsCanon s (s.itemFail r u) := .of fun h => by simp [State.itemFail, h]
@[simp] theorem State.setRun_canon (s : State) (r : UpdRun) : KeepsCanon s (s.setRun r) := .of fun h => by simp [State.setRun, h]

@[simp] theorem State.furGive_canon (s : State) (r : UpdRun) (stage op : Nat) (payload : List (Nat × Nat × Nat)) :
    KeepsCanon s (s.furGive r stage op payload) := by
  refine .of fun h => ?_
  unfold State.furGive
  dsimp only
  split <;> simp [h]

@[simp] theorem State.furTold_canon (s : State) (d : Desc) (st : Nat) : KeepsCanon s (s.furTold d st) := by
  refine .of fun h => ?_
  unfold State.furTold
  dsimp only
  (repeat' split) <;> simp [h]

/-! ### Furrow -/

@[simp] theorem State.setFur_canon (s : State) (f : Furrow) : KeepsCanon s (s.setFur f) := .of fun h => by simp [State.setFur, h]
@[simp] theorem State.furClean_canon (s : State) (area i : Nat) : KeepsCanon s (s.furClean area i) := .of fun h => by simp [State.furClean, h]
@[simp] theorem State.setFlag_canon (s : State) (i : Nat) (v : Bool) : KeepsCanon s (s.setFlag i v) := .of fun h => by simp [State.setFlag, h]
@[simp] theorem State.setWord_canon (s : State) (i : Nat) (v : Int) : KeepsCanon s (s.setWord i v) := .of fun h => by simp [State.setWord, h]
@[simp] theorem State.setTimer_canon (s : State) (i : Nat) (t : Timer) : KeepsCanon s (s.setTimer i t) := .of fun h => by simp [State.setTimer, h]

@[simp] theorem State.setCounter_canon (s : State) (i : Nat) (c : Counter) : KeepsCanon s (s.setCounter i c) := .of fun h => by
  simp [State.setCounter, h]

@[simp] theorem State.setEdge_canon (s : State) (i : Nat) (v : Bool) : KeepsCanon s (s.setEdge i v) := .of fun h => by simp [State.setEdge, h]
@[simp] theorem State.furPoison_canon (s : State) : KeepsCanon s s.furPoison := .of fun h => by simp [State.furPoison, h]

@[simp] theorem State.furEvent_canon (s : State) (tag cause place remain x : Nat) (rec : Option Nat) :
    KeepsCanon s (s.furEvent tag cause place remain x rec) := by
  refine .of fun h => ?_
  unfold State.furEvent
  split <;> simp [h]

@[simp] theorem State.furReject_canon (s : State) (cause : Nat) : KeepsCanon s (s.furReject cause) := .of fun h => by simp [State.furReject, h]
@[simp] theorem State.chgReg_canon (s : State) : KeepsCanon s s.chgReg := .of fun h => by simp [State.chgReg, h]
@[simp] theorem State.outRefused_canon (s : State) (i : Nat) : KeepsCanon s (s.outRefused i) := .of fun h => by simp [State.outRefused, h]

@[simp] theorem State.outHand_canon (s : State) (safe : Bool) (p : Prog) (e : MapEntry) : KeepsCanon s (s.outHand safe p e).1 := by
  refine .of fun h => ?_
  unfold State.outHand
  split <;> simp [h]

@[simp] theorem State.outAll_canon (s : State) (safe : Bool) (p : Prog) (l : List (MapEntry × Nat)) : KeepsCanon s (s.outAll safe p l) := by
  refine .of fun h => ?_
  simp +contextual [State.outAll, h]

@[simp] theorem State.outFrames_canon (s : State) (safe : Bool) (p : Prog) (kind : Nat) : KeepsCanon s (s.outFrames safe p kind) := by
  refine .of fun h => ?_
  simp +contextual [State.outFrames, h]

@[simp] theorem State.watches_canon (s : State) : KeepsCanon s s.watches := .of fun h => by simp +contextual [State.watches, h]

@[simp] theorem State.furRelease_canon (s : State) (safe : Bool) : KeepsCanon s (s.furRelease safe) := by
  refine .of fun h => ?_
  unfold State.furRelease
  split <;> simp +contextual [h]

@[simp] theorem State.publishWords_canon (s : State) (sc : Scan) : KeepsCanon s (s.publishWords sc) := .of fun h => by simp [State.publishWords, h]

@[simp] theorem State.applyChange_canon (s : State) (q : Nat) (d : Desc) : KeepsCanon s (s.applyChange q d) := .of fun h => by
  simp [State.applyChange, h]

@[simp] theorem State.applyChanges_canon (s : State) (n : Nat) : KeepsCanon s (s.applyChanges n) := .of fun h => by
  simp +contextual [State.applyChanges, h]

@[simp] theorem State.applyRead_canon (s : State) (q : Nat) (d : Desc) : KeepsCanon s (s.applyRead q d) := .of fun h => by simp [State.applyRead, h]
@[simp] theorem State.applyReads_canon (s : State) : KeepsCanon s s.applyReads := .of fun h => by simp +contextual [State.applyReads, h]
@[simp] theorem State.furIdle_canon (s : State) : KeepsCanon s s.furIdle := .of fun h => by simp [State.furIdle, h]
@[simp] theorem State.fellFurrow_canon (s : State) : KeepsCanon s s.fellFurrow := .of fun h => by simp [State.fellFurrow, h]
@[simp] theorem State.furHalt_canon (s : State) : KeepsCanon s s.furHalt := .of fun h => by simp [State.furHalt, h]

@[simp] theorem State.furAbort_canon (s : State) (sc : Scan) (cause addr : Nat) : KeepsCanon s (s.furAbort sc cause addr) := by
  refine .of fun h => ?_
  simp [State.furAbort, h]

@[simp] theorem State.freePermits_canon (s : State) (old new : Prog) : KeepsCanon s (s.freePermits old new) := .of fun h => by
  simp +contextual [State.freePermits, h]

@[simp] theorem State.progRegs_canon (s : State) (p : Prog) (loaded : Bool) : KeepsCanon s (s.progRegs p loaded) := .of fun h => by
  simp [State.progRegs, h]

@[simp] theorem State.furSwitch_canon (s : State) (d : Desc) : KeepsCanon s (s.furSwitch d) := by
  refine .of fun h => ?_
  unfold State.furSwitch
  (repeat' split) <;> simp [h]

@[simp] theorem State.furActivate_canon (s : State) : KeepsCanon s s.furActivate := by
  refine .of fun h => ?_
  unfold State.furActivate
  split <;> simp [h]

@[simp] theorem State.cmdLine_canon (s : State) (a base l : Nat) : KeepsCanon s (s.cmdLine a base l) := .of fun h => by simp [State.cmdLine, h]

@[simp] theorem State.cmdLatch_canon (s : State) : KeepsCanon s s.cmdLatch.1 := by
  refine .of fun h => ?_
  unfold State.cmdLatch
  split <;> simp +contextual [h]

@[simp] theorem State.latchEntry_canon (s : State) (e : MapEntry) (i : Nat) (v : SourceVal) : KeepsCanon s (s.latchEntry e i v) := by
  refine .of fun h => ?_
  unfold State.latchEntry
  (repeat' split) <;> simp [h]

@[simp] theorem State.latchAll_canon (s : State) (p : Prog) (hand : Bool) : KeepsCanon s (s.latchAll p hand) := .of fun h => by
  simp +contextual [State.latchAll, h]

@[simp] theorem State.statArea_canon (s : State) (sc : Scan) : KeepsCanon s (s.statArea sc) := .of fun h => by simp [State.statArea, h]

@[simp] theorem State.scanStart_canon (s : State) : KeepsCanon s s.scanStart := by
  refine .of fun h => ?_
  unfold State.scanStart
  split <;> simp [h]

@[simp] theorem State.furOverrun_canon (s : State) (sc : Scan) : KeepsCanon s (s.furOverrun sc) := .of fun h => by simp [State.furOverrun, h]
@[simp] theorem State.furStopped_canon (s : State) : KeepsCanon s s.furStopped := .of fun h => by simp [State.furStopped, h]

@[simp] theorem State.furTurn_canon (s : State) : KeepsCanon s s.furTurn := by
  refine .of fun h => ?_
  unfold State.furTurn
  split <;> simp [h]

@[simp] theorem execCycleBoundary_canon (s : State) (h : s.canon) : CanonOut (execCycleBoundary s) := by
  unfold execCycleBoundary
  dsimp only
  (repeat' split) <;> simp [h]

@[simp] theorem State.furRunWrite_canon (s : State) (v : W32) : KeepsCanon s (s.furRunWrite v) := .of fun h => by simp [State.furRunWrite, h]

@[simp] theorem execFurrowEnable_canon (agent : Agent) (value : W32) (s : State) (h : s.canon) : CanonOut (execFurrowEnable agent value s) := by
  simp +contextual [execFurrowEnable, h]

@[simp] theorem execFurrowDisable_canon (agent : Agent) (s : State) (h : s.canon) : CanonOut (execFurrowDisable agent s) := by
  simp +contextual [execFurrowDisable, h]

@[simp] theorem execSetval_canon (q : Nat) (s : State) (h : s.canon) : CanonOut (execSetval q s) := by
  unfold execSetval
  (repeat' split) <;> simp [h]

@[simp] theorem execReadmem_canon (q : Nat) (s : State) (h : s.canon) : CanonOut (execReadmem q s) := by
  unfold execReadmem
  (repeat' split) <;> simp [h]

@[simp] theorem State.progload_canon (t : State) (d : Desc) : KeepsCanon t (t.progload d).1 := .of fun h => by simp [State.progload, h]
@[simp] theorem execProgload_canon (s : State) (h : s.canon) : CanonOut (execProgload s) := by simp +contextual [execProgload, h]

@[simp] theorem execProgact_canon (s : State) (h : s.canon) : CanonOut (execProgact s) := by
  unfold execProgact
  (repeat' split) <;> simp [h]

@[simp] theorem State.furWrite_canon (s : State) (off : Nat) (v : W32) : KeepsCanon s (s.furWrite off v) := .of fun h => by simp [State.furWrite, h]
@[simp] theorem State.furParity_canon (s : State) (off : Nat) : KeepsCanon s (s.furParity off) := .of fun h => by simp [State.furParity, h]

/-! ### Cab panel -/

@[simp] theorem State.laneRegs_canon (s : State) : KeepsCanon s s.laneRegs := .of fun h => by simp +contextual [State.laneRegs, h]
@[simp] theorem State.laneSet_canon (s : State) (st locks : Nat) : KeepsCanon s (s.laneSet st locks) := .of fun h => by simp [State.laneSet, h]
@[simp] theorem State.laneTrain_canon (s : State) : KeepsCanon s s.laneTrain := .of fun h => by simp [State.laneTrain, h]

@[simp] theorem State.lastPackets_canon (s : State) (line : Nat) (px : Nat → Nat) : KeepsCanon s (s.lastPackets line px) := by
  refine .of fun h => ?_
  simp +contextual [State.lastPackets, h]

@[simp] theorem State.blackFrame_canon (s : State) : KeepsCanon s s.blackFrame := .of fun h => by simp [State.blackFrame, h]
@[simp] theorem State.sendGamma_canon (s : State) : KeepsCanon s s.sendGamma := .of fun h => by simp [State.sendGamma, h]

@[simp] theorem State.dspEvent_canon (s : State) (tag unit : Nat) (recorded : Bool) : KeepsCanon s (s.dspEvent tag unit recorded) := by
  refine .of fun h => ?_
  simp [State.dspEvent, h]

@[simp] theorem State.dspPoison_canon (s : State) : KeepsCanon s s.dspPoison := .of fun h => by simp [State.dspPoison, h]
@[simp] theorem State.dspReject_canon (s : State) (cause : Nat) : KeepsCanon s (s.dspReject cause) := .of fun h => by simp [State.dspReject, h]
@[simp] theorem State.mapDrop_canon (s : State) (st cause : Nat) : KeepsCanon s (s.mapDrop st cause) := .of fun h => by simp [State.mapDrop, h]
@[simp] theorem State.mapBad_canon (s : State) (cause : Nat) : KeepsCanon s (s.mapBad cause) := .of fun h => by simp [State.mapBad, h]

@[simp] theorem State.mapDone_canon (s : State) (status : Nat) : KeepsCanon s (s.mapDone status) := by
  refine .of fun h => ?_
  unfold State.mapDone
  split <;> simp [h]

@[simp] theorem State.mapAbandon_canon (s : State) : KeepsCanon s s.mapAbandon := .of fun h => by simp [State.mapAbandon, h]
@[simp] theorem State.mapEnd_canon (s : State) (e : Bytes) : KeepsCanon s (s.mapEnd e) := .of fun h => by simp [State.mapEnd, h]

@[simp] theorem execUniformityMapRead_canon (eeprom : Bytes) (s : State) (h : s.canon) : CanonOut (execUniformityMapRead eeprom s) := by
  unfold execUniformityMapRead
  (repeat' split) <;> simp [h]

@[simp] theorem execMapload_canon (s : State) (h : s.canon) : CanonOut (execMapload s) := by
  unfold execMapload
  split <;> simp [h]

@[simp] theorem State.writeBand_canon (s src : State) (c : Comp) (unif : Bool) (f b : Nat) : KeepsCanon s (s.writeBand src c unif f b) := by
  refine .of fun h => ?_
  simp [State.writeBand, h]

@[simp] theorem State.countLayerPoison_canon (s : State) (c : Comp) : KeepsCanon s (s.countLayerPoison c) := .of fun h => by
  simp +contextual [State.countLayerPoison, h]

@[simp] theorem State.mapPoison_canon (s : State) : KeepsCanon s s.mapPoison := .of fun h => by simp [State.mapPoison, h]

@[simp] theorem State.dropLayer_canon (s : State) (c : Comp) : KeepsCanon s (s.dropLayer c) := by
  refine .of fun h => ?_
  unfold State.dropLayer
  split <;> simp [h]

@[simp] theorem execFrameCompose_canon (s : State) (h : s.canon) : CanonOut (execFrameCompose s) := by
  unfold execFrameCompose
  split <;> simp +contextual [h]

@[simp] theorem State.startComp_canon (s : State) : KeepsCanon s s.startComp := by
  refine .of fun h => ?_
  unfold State.startComp
  dsimp only
  split <;> simp +contextual [h]

@[simp] theorem State.engineOff_canon (s : State) : KeepsCanon s s.engineOff := by
  refine .of fun h => ?_
  unfold State.engineOff
  split <;> simp [h]

@[simp] theorem State.imgReject_canon (s : State) (poison : Bool) : KeepsCanon s (s.imgReject poison) := .of fun h => by simp [State.imgReject, h]
@[simp] theorem State.stripCheck_canon (s : State) (torn : Bool) : KeepsCanon s (s.stripCheck torn) := .of fun h => by simp [State.stripCheck, h]
@[simp] theorem execStripRefresh_canon (torn : Bool) (s : State) (h : s.canon) : CanonOut (execStripRefresh torn s) := by simp [execStripRefresh, h]
@[simp] theorem State.ramp_canon (s : State) : KeepsCanon s s.ramp := .of fun h => by simp [State.ramp, h]
@[simp] theorem State.panMode_canon (s : State) (m : Nat) : KeepsCanon s (s.panMode m) := .of fun h => by simp [State.panMode, h]

@[simp] theorem State.enterStep_canon (s : State) (k : Nat) : KeepsCanon s (s.enterStep k) := by
  refine .of fun h => ?_
  unfold State.enterStep
  (repeat' split) <;> simp [h]

@[simp] theorem State.seqDone_canon (s : State) (st : Nat) : KeepsCanon s (s.seqDone st) := .of fun h => by simp [State.seqDone, h]
@[simp] theorem State.reverseAt_canon (s : State) (k : Nat) : KeepsCanon s (s.reverseAt k) := .of fun h => by simp [State.reverseAt, h]
@[simp] theorem State.startSeq_canon (s : State) (k : Nat) : KeepsCanon s (s.startSeq k) := .of fun h => by simp [State.startSeq, h]

@[simp] theorem State.panelRequest_canon (s : State) (on : Bool) : KeepsCanon s (s.panelRequest on) := by
  refine .of fun h => ?_
  unfold State.panelRequest
  split <;> simp [h]

@[simp] theorem State.stepEnd_canon (s : State) : KeepsCanon s s.stepEnd := .of fun h => by simp [State.stepEnd, h]
@[simp] theorem execPanelSequenceStep_canon (s : State) (h : s.canon) : CanonOut (execPanelSequenceStep s) := by simp [execPanelSequenceStep, h]
@[simp] theorem execLaneTraining_canon (locks : Nat) (s : State) (h : s.canon) : CanonOut (execLaneTraining locks s) := by simp [execLaneTraining, h]
@[simp] theorem execLaneLockLoss_canon (lane : Nat) (s : State) (h : s.canon) : CanonOut (execLaneLockLoss lane s) := by simp [execLaneLockLoss, h]

@[simp] theorem State.countRowPoison_canon (s : State) (f b : Nat) : KeepsCanon s (s.countRowPoison f b) := .of fun h => by
  simp +contextual [State.countRowPoison, h]

@[simp] theorem State.checkBand_canon (s : State) (f b : Nat) : KeepsCanon s (s.checkBand f b) := .of fun h => by simp [State.checkBand, h]

@[simp] theorem State.engineScan_canon (s : State) (late : Nat) : KeepsCanon s (s.engineScan late) := by
  refine .of fun h => ?_
  unfold State.engineScan
  dsimp only
  split <;> simp +contextual [h]

@[simp] theorem State.frameMode_canon (s : State) : KeepsCanon s s.frameMode := by
  refine .of fun h => ?_
  unfold State.frameMode
  (repeat' split) <;> simp [h]

@[simp] theorem State.fullFrame_canon (s : State) (late : List Nat) (torn : Bool) : KeepsCanon s (s.fullFrame late torn) := by
  refine .of fun h => ?_
  simp [State.fullFrame, h]

@[simp] theorem execPanelFrameStart_canon (late : List Nat) (torn : Bool) (s : State) (h : s.canon) : CanonOut (execPanelFrameStart late torn s) := by
  simp [execPanelFrameStart, h]

@[simp] theorem execDisplayFallback_canon (s : State) (h : s.canon) : CanonOut (execDisplayFallback s) := by simp [execDisplayFallback, h]
@[simp] theorem State.panelDoze_canon (s : State) : KeepsCanon s s.panelDoze := .of fun h => by simp [State.panelDoze, h]
@[simp] theorem State.panelCanopyDown_canon (s : State) : KeepsCanon s s.panelCanopyDown := .of fun h => by simp [State.panelCanopyDown, h]
@[simp] theorem State.panelLost_canon (s : State) : KeepsCanon s s.panelLost := .of fun h => by simp [State.panelLost, h]
@[simp] theorem State.panTiming_canon (s : State) : KeepsCanon s s.panTiming := .of fun h => by simp [State.panTiming, h]
@[simp] theorem State.dspWrite_canon (s : State) (off : Nat) (v : W32) : KeepsCanon s (s.dspWrite off v) := .of fun h => by simp [State.dspWrite, h]
@[simp] theorem State.dspParity_canon (s : State) (off : Nat) : KeepsCanon s (s.dspParity off) := .of fun h => by simp [State.dspParity, h]
@[simp] theorem State.dsWrite_canon (s : State) (off : Nat) (v : W32) : KeepsCanon s (s.dsWrite off v) := .of fun h => by simp [State.dsWrite, h]
@[simp] theorem State.dsParity_canon (s : State) (off : Nat) : KeepsCanon s (s.dsParity off) := .of fun h => by simp [State.dsParity, h]

@[simp] theorem execPanelPowerOn_canon (agent : Agent) (mode : Bool) (s : State) (h : s.canon) : CanonOut (execPanelPowerOn agent mode s) := by
  simp +contextual [execPanelPowerOn, h]

@[simp] theorem execPanelPowerOff_canon (agent : Agent) (mode : Bool) (s : State) (h : s.canon) : CanonOut (execPanelPowerOff agent mode s) := by
  simp +contextual [execPanelPowerOff, h]

@[simp] theorem execFallbackClear_canon (agent : Agent) (value : W32) (s : State) (h : s.canon) : CanonOut (execFallbackClear agent value s) := by
  simp +contextual [execFallbackClear, h]

/-! ### Mailboxes -/

@[simp] theorem State.mbxRefuse_canon (s : State) (a : Agent) (m cause : Nat) : KeepsCanon s (s.mbxRefuse a m cause) := .of fun h => by
  simp [State.mbxRefuse, h]

@[simp] theorem State.mbxGate_canon (s : State) (a : Agent) (off m : Nat) (k : Nat → State → State) (h : ∀ id t, t.canon → (k id t).canon) :
    KeepsCanon s (s.mbxGate a off m k) := by
  refine .of fun hs => ?_
  unfold State.mbxGate
  (repeat' split) <;> simp [h, hs]

@[simp] theorem State.mbxStageWrite_canon (s : State) (id : Nat) (v : W32) : KeepsCanon s (s.mbxStageWrite id v) := .of fun h => by
  simp [State.mbxStageWrite, h]

@[simp] theorem State.mbxPost_canon (s : State) (a : Agent) (id m : Nat) (v : W32) : KeepsCanon s (s.mbxPost a id m v) := .of fun h => by
  simp [State.mbxPost, h]

@[simp] theorem State.mbxTake_canon (s : State) (m : Nat) : KeepsCanon s (s.mbxTake m) := .of fun h => by simp [State.mbxTake, h]

@[simp] theorem State.mbxStatWrite_canon (s : State) (id m : Nat) (v : W32) : KeepsCanon s (s.mbxStatWrite id m v) := .of fun h => by
  simp [State.mbxStatWrite, h]

@[simp] theorem State.mbxAbtWrite_canon (s : State) (id m : Nat) : KeepsCanon s (s.mbxAbtWrite id m) := .of fun h => by simp [State.mbxAbtWrite, h]

@[simp] theorem execMailboxStage_canon (agent : Agent) (m : Nat) (value : W32) (s : State) (h : s.canon) :
    CanonOut (execMailboxStage agent m value s) := by
  simp +contextual [execMailboxStage, h]

@[simp] theorem execMailboxPost_canon (agent : Agent) (m : Nat) (value : W32) (s : State) (h : s.canon) :
    CanonOut (execMailboxPost agent m value s) := by
  simp +contextual [execMailboxPost, h]

@[simp] theorem execMailboxTake_canon (agent : Agent) (m : Nat) (value : W32) (s : State) (h : s.canon) :
    CanonOut (execMailboxTake agent m value s) := by
  simp +contextual [execMailboxTake, h]

@[simp] theorem execMailboxAbtClear_canon (agent : Agent) (m : Nat) (s : State) (h : s.canon) : CanonOut (execMailboxAbtClear agent m s) := by
  simp +contextual [execMailboxAbtClear, h]

/-! ### Roles of the Dales -/

@[simp] theorem State.setHlt_canon (s : State) (h : Health) : KeepsCanon s (s.setHlt h) := .of fun hs => by simp [State.setHlt, hs]

@[simp] theorem State.hltEvent_canon (s : State) (tag b24 b25 res : Nat) (rec : Option (Nat × Nat)) :
    KeepsCanon s (s.hltEvent tag b24 b25 res rec) := by
  refine .of fun h => ?_
  unfold State.hltEvent
  split <;> simp [h]

@[simp] theorem State.setCarry_canon (s : State) (c : Nat) : KeepsCanon s (s.setCarry c) := .of fun h => by simp [State.setCarry, h]
@[simp] theorem State.noCarry_canon (s : State) : KeepsCanon s s.noCarry := .of fun h => by simp [State.noCarry, h]
@[simp] theorem State.handToken_canon (s : State) (owner : Nat) : KeepsCanon s (s.handToken owner) := .of fun h => by simp [State.handToken, h]

@[simp] theorem State.endPlanned_canon (s : State) (st : Nat) : KeepsCanon s (s.endPlanned st) := by
  refine .of fun h => ?_
  unfold State.endPlanned
  (repeat' split) <;> simp [h]

@[simp] theorem State.daleHold_canon (s : State) (n : Nat) : KeepsCanon s (s.daleHold n) := .of fun h => by simp [State.daleHold, h]

@[simp] theorem State.daleStart_canon (s : State) (n : Nat) (bad : List Nat) : KeepsCanon s (s.daleStart n bad) := .of fun h => by
  simp [State.daleStart, h]

@[simp] theorem State.daleNew_canon (s : State) (n win : Nat) : KeepsCanon s (s.daleNew n win) := .of fun h => by simp [State.daleNew, h]
@[simp] theorem State.daleIsolate_canon (s : State) (n : Nat) : KeepsCanon s (s.daleIsolate n) := .of fun h => by simp [State.daleIsolate, h]

@[simp] theorem State.faultHand_canon (s : State) (src cause : Nat) : KeepsCanon s (s.faultHand src cause) := .of fun h => by
  simp [State.faultHand, h]

@[simp] theorem State.daleFault_canon (s : State) (n cause : Nat) : KeepsCanon s (s.daleFault n cause) := .of fun h => by simp [State.daleFault, h]
@[simp] theorem State.mirRefresh_canon (s : State) : KeepsCanon s s.mirRefresh := .of fun h => by simp [State.mirRefresh, h]
@[simp] theorem State.mirSync_canon (s : State) (n : Nat) (v : Bool) : KeepsCanon s (s.mirSync n v) := .of fun h => by simp [State.mirSync, h]

@[simp] theorem State.mirFinish_canon (s : State) (n : Nat) : KeepsCanon s (s.mirFinish n) := by
  refine .of fun h => ?_
  unfold State.mirFinish
  split
  · extract_lets poisoned t u
    have hu : u.canon := foldl_keepsCanon (fun x g => (State.mark_canon x _ _).apply) _ ((State.storeOne_canon _ _ _ _).apply h)
    simp [hu]
  · exact h

@[simp] theorem State.mirSwap_canon (s : State) : KeepsCanon s s.mirSwap := .of fun h => by simp +contextual [State.mirSwap, h]

@[simp] theorem State.handRecord_canon (s : State) (h : Handover) (dst det : Nat) : KeepsCanon s (s.handRecord h dst det) := by
  refine .of fun hs => ?_
  simp [State.handRecord, hs]

@[simp] theorem State.handIrqs_canon (s : State) (n : Nat) : KeepsCanon s (s.handIrqs n) := .of fun h => by simp +contextual [State.handIrqs, h]

@[simp] theorem State.switchTo_canon (s : State) (h : Handover) (n : Nat) : KeepsCanon s (s.switchTo h n) := by
  refine .of fun hs => ?_
  unfold State.switchTo
  dsimp only
  (repeat' split) <;> simp [hs]

@[simp] theorem State.handPrepare_canon (s : State) (h : Handover) : KeepsCanon s (s.handPrepare h) := .of fun hs => by simp [State.handPrepare, hs]

@[simp] theorem State.handGo_canon (s : State) : KeepsCanon s s.handGo := by
  refine .of fun h => ?_
  unfold State.handGo
  split <;> simp [h]

@[simp] theorem State.askHandover_canon (s : State) (cause at0 : Nat) (desc : Option Desc) : KeepsCanon s (s.askHandover cause at0 desc).1 := by
  refine .of fun h => ?_
  unfold State.askHandover
  split <;> simp [h]

/-! ### Root -/

@[simp] theorem State.setPwr_canon (s : State) (p : Pwr) : KeepsCanon s (s.setPwr p) := .of fun h => by simp [State.setPwr, h]
@[simp] theorem State.sysFlag_canon (s : State) (stat ie : Fld) : KeepsCanon s (s.sysFlag stat ie) := .of fun h => by simp [State.sysFlag, h]

@[simp] theorem State.rootSave_canon (s : State) (cause : Nat) (ok : Bool) : KeepsCanon s (s.rootSave cause ok) := .of fun h => by
  simp [State.rootSave, h]

@[simp] theorem State.wpend_canon (s : State) : KeepsCanon s s.wpend := .of fun h => by simp [State.wpend, h]
@[simp] theorem State.refreshCopies_canon (s : State) : KeepsCanon s s.refreshCopies := .of fun h => by simp +contextual [State.refreshCopies, h]

@[simp] theorem State.commitLatch_canon (s : State) (l : Latch) : KeepsCanon s (s.commitLatch l) := by
  refine .of fun h => ?_
  unfold State.commitLatch
  split <;> simp [h]

@[simp] theorem State.calLoad_canon (s : State) : KeepsCanon s s.calLoad := .of fun h => by simp [State.calLoad, h]

@[simp] theorem State.commitLatches_canon (s : State) (p : Latch → Bool) : KeepsCanon s (s.commitLatches p) := .of fun h => by
  simp +contextual [State.commitLatches, h]

@[simp] theorem State.postRoot_canon (s : State) (off : Nat) (v : W32) : KeepsCanon s (s.postRoot off v) := .of fun h => by simp [State.postRoot, h]
@[simp] theorem State.rootSnap_canon (s : State) (b : Nat) : KeepsCanon s (s.rootSnap b) := .of fun h => by simp [State.rootSnap, h]

@[simp] theorem execRootRegisterWrite_canon (agent : Agent) (off : Nat) (value : W32) (s : State) (h : s.canon) :
    CanonOut (execRootRegisterWrite agent off value s) := by
  simp +contextual [execRootRegisterWrite, h]

@[simp] theorem execRootEdge_canon (s : State) (h : s.canon) : CanonOut (execRootEdge s) := by simp [execRootEdge, h]
@[simp] theorem State.commitAll_canon (s : State) : KeepsCanon s s.commitAll := .of fun h => by simp [State.commitAll, h]
@[simp] theorem execBedRailFallCommit_canon (s : State) (h : s.canon) : CanonOut (execBedRailFallCommit s) := by simp [execBedRailFallCommit, h]

@[simp] theorem execRtdCalload_canon (agent : Agent) (value : W32) (s : State) (h : s.canon) : CanonOut (execRtdCalload agent value s) := by
  simp +contextual [execRtdCalload, h]

@[simp] theorem execRtdSaveNow_canon (agent : Agent) (s : State) (h : s.canon) : CanonOut (execRtdSaveNow agent s) := by
  simp +contextual [execRtdSaveNow, h]

/-! ### Update -/

@[simp] theorem State.writeSlots_canon (s : State) (i : PkgItem) (written : Bool) : KeepsCanon s (s.writeSlots i written) := by
  refine .of fun h => ?_
  simp +contextual [State.writeSlots, h]

@[simp] theorem State.itemRegs_canon (s : State) (l : List PkgItem) : KeepsCanon s (s.itemRegs l) := by
  refine .of (foldl_keepsCanon (fun x k hx => ?_) _)
  split <;> simp [hx]

@[simp] theorem State.stageFail_canon (s : State) (st : Nat) : KeepsCanon s (s.stageFail st).1 := .of fun h => by simp [State.stageFail, h]

@[simp] theorem State.stage_canon (s : State) (d : Desc) (sig : Bool) (fail : Option (Bool × Nat)) : KeepsCanon s (s.stage d sig fail).1 := by
  refine .of fun h => ?_
  unfold State.stage
  (repeat' split) <;> simp +contextual [h]

@[simp] theorem execStage_canon (sig : Bool) (fail : Option (Bool × Nat)) (s : State) (h : s.canon) : CanonOut (execStage sig fail s) := by
  simp +contextual [execStage, h]

@[simp] theorem State.engineSwitch_canon (s : State) (u : Nat) : KeepsCanon s (s.engineSwitch u) := .of fun h => by simp [State.engineSwitch, h]
@[simp] theorem State.updFall_canon (s : State) (u : Nat) : KeepsCanon s (s.updFall u) := .of fun h => by simp [State.updFall, h]

@[simp] theorem State.cfgPut_canon (s : State) (u cfgver : Nat) (body : Bytes) : KeepsCanon s (s.cfgPut u cfgver body) := .of fun h => by
  simp [State.cfgPut, h]

@[simp] theorem State.cfgWriteBy_canon (s : State) (u : Nat) (body : Bytes) : KeepsCanon s (s.cfgWriteBy u body).1 := by
  refine .of fun h => ?_
  unfold State.cfgWriteBy
  dsimp only
  split <;> simp [h]

@[simp] theorem execCfgread_canon (s : State) (h : s.canon) : CanonOut (execCfgread s) := by
  unfold execCfgread
  simp only [canonOut_next]
  split
  · refine (State.serve_canon _ _ _ _ fun d t ht => ?_).apply h
    (repeat' split) <;> simp [ht]
  · exact h

@[simp] theorem execCfgwrite_canon (s : State) (h : s.canon) : CanonOut (execCfgwrite s) := by simp +contextual [execCfgwrite, h]

@[simp] theorem State.nextItem_canon (s : State) (r : UpdRun) (i : PkgItem) : KeepsCanon s (s.nextItem r i) := by
  refine .of fun h => ?_
  unfold State.nextItem
  (repeat' split) <;> simp [h]

@[simp] theorem State.stopItem_canon (s : State) (r : UpdRun) (i : PkgItem) (st : Nat) : KeepsCanon s (s.stopItem r i st) := by
  refine .of fun h => ?_
  simp [State.stopItem, h]

@[simp] theorem State.fuseKeys_canon (s : State) : KeepsCanon s s.fuseKeys := by
  refine .of fun h => ?_
  unfold State.fuseKeys
  split <;> simp [h]

@[simp] theorem State.confirmStore_canon (s : State) (u : Nat) (saveOk : Bool) : KeepsCanon s (s.confirmStore u saveOk) := by
  refine .of fun h => ?_
  simp [State.confirmStore, h]

@[simp] theorem State.startItem_canon (s : State) (r : UpdRun) (i : PkgItem) : KeepsCanon s (s.startItem r i) := by
  refine .of fun h => ?_
  unfold State.startItem
  dsimp only
  (repeat' split) <;> simp [h]

@[simp] theorem State.daleStage_canon (s : State) (r : UpdRun) (i : PkgItem) : KeepsCanon s (s.daleStage r i) := by
  refine .of fun h => ?_
  unfold State.daleStage
  split <;> simp [h]

@[simp] theorem State.confirmed_canon (s : State) (u : Nat) : KeepsCanon s (s.confirmed u) := by
  refine .of fun h => ?_
  unfold State.confirmed
  dsimp only
  split <;> simp [h]

@[simp] theorem State.updStep_canon (s : State) : KeepsCanon s s.updStep := by
  refine .of fun h => ?_
  unfold State.updStep
  (repeat' split) <;> simp [h]

@[simp] theorem State.updGo_canon (s : State) (fuel : Nat) : KeepsCanon s (s.updGo fuel) := by
  induction fuel generalizing s with
  | zero => exact .refl _
  | succ k ih => exact .of fun h => by simp [State.updGo, ih, h]

@[simp] theorem State.updRun_canon (s : State) : KeepsCanon s s.updRun := .of fun h => by simp [State.updRun, h]

@[simp] theorem execApply_canon (icFail : List Nat) (s : State) (h : s.canon) : CanonOut (execApply icFail s) := by
  unfold execApply
  (repeat' split) <;> simp +contextual [h]

@[simp] theorem execAbortCmd_canon (s : State) (h : s.canon) : CanonOut (execAbortCmd s) := by
  unfold execAbortCmd
  (repeat' split) <;> simp [h]

@[simp] theorem State.updReject_canon (s : State) (u cause : Nat) : KeepsCanon s (s.updReject u cause) := .of fun h => by simp [State.updReject, h]

@[simp] theorem State.confirmGate_canon (s : State) (a : Agent) (v : W32) (k : Nat → State → State) (h : ∀ u t, t.canon → (k u t).canon) :
    KeepsCanon s (s.confirmGate a v k) := by
  refine .of fun hs => ?_
  simp [State.confirmGate, h, hs]

@[simp] theorem State.confirmUnit_canon (s : State) (u : Nat) (saveOk : Bool) : KeepsCanon s (s.confirmUnit u saveOk) := by
  refine .of fun h => ?_
  simp [State.confirmUnit, h]

@[simp] theorem State.confirmSaved_canon (s : State) : KeepsCanon s s.confirmSaved := .of fun h => by simp +contextual [State.confirmSaved, h]

@[simp] theorem execConfirm_canon (agent : Agent) (value : W32) (saveOk : Bool) (s : State) (h : s.canon) :
    CanonOut (execConfirm agent value saveOk s) := by
  simp +contextual [execConfirm, h]

@[simp] theorem execDeclareFailure_canon (agent : Agent) (value : W32) (s : State) (h : s.canon) : CanonOut (execDeclareFailure agent value s) := by
  simp +contextual [execDeclareFailure, h]

@[simp] theorem State.updConfirmWrite_canon (s : State) (a : Agent) (v : W32) (saveOk : Bool) : KeepsCanon s (s.updConfirmWrite a v saveOk) := by
  refine .of fun h => ?_
  simp +contextual [State.updConfirmWrite, h]

@[simp] theorem execProbationExpiry_canon (u : Nat) (s : State) (h : s.canon) : CanonOut (execProbationExpiry u s) := by
  unfold execProbationExpiry
  split <;> simp [h]

@[simp] theorem State.deferredWrite_canon (s : State) (b : Bytes) (failed : List Nat) : KeepsCanon s (s.deferredWrite b failed).1 := by
  refine .of fun h => ?_
  simp [State.deferredWrite, h]

@[simp] theorem State.deferredTable_canon (s : State) (failed : List Nat) : KeepsCanon s (s.deferredTable failed) := by
  refine .of fun h => ?_
  unfold State.deferredTable
  split <;> simp [h]

/-! ### Steps of the power sequences -/

@[simp] theorem State.rstEntry_canon (s : State) (i cause : Nat) : KeepsCanon s (s.rstEntry i cause) := .of fun h => by simp [State.rstEntry, h]
@[simp] theorem State.logReset_canon (s : State) (cause : Nat) : KeepsCanon s (s.logReset cause) := .of fun h => by simp [State.logReset, h]
@[simp] theorem State.earlySteps_canon (s : State) : KeepsCanon s s.earlySteps := .of fun h => by simp +contextual [State.earlySteps, h]
@[simp] theorem State.bedPowerUp_canon (s : State) : KeepsCanon s s.bedPowerUp := .of fun h => by simp [State.bedPowerUp, h]

@[simp] theorem State.bedBoot_canon (s : State) (ms : Nat) (bad : List Nat) : KeepsCanon s (s.bedBoot ms bad).1 := .of fun h => by
  simp [State.bedBoot, h]

@[simp] theorem State.linksUp_canon (s : State) : KeepsCanon s s.linksUp := .of fun h => by simp +contextual [State.linksUp, h]
@[simp] theorem State.cansUp_canon (s : State) : KeepsCanon s s.cansUp := .of fun h => by simp +contextual [State.cansUp, h]
@[simp] theorem State.enginesStop_canon (s : State) : KeepsCanon s s.enginesStop := .of fun h => by simp +contextual [State.enginesStop, h]

@[simp] theorem State.emptyQueue_canon (s : State) (fuel : Nat) : KeepsCanon s (s.emptyQueue fuel) := by
  induction fuel generalizing s with
  | zero => exact .of fun h => by simp [State.emptyQueue, h]
  | succ k ih =>
    refine .of fun h => ?_
    unfold State.emptyQueue
    split
    · (repeat' split) <;> simp_all
    · exact h

@[simp] theorem State.bedSaves_canon (s : State) (ok : Bool) : KeepsCanon s (s.bedSaves ok) := .of fun h => by simp [State.bedSaves, h]

@[simp] theorem State.agentsStart_canon (s : State) (bad : List Nat) : KeepsCanon s (s.agentsStart bad) := by
  refine .of fun h => ?_
  unfold State.agentsStart
  dsimp only
  (repeat' split) <;> simp +contextual [h]

@[simp] theorem State.bridgeClose_canon (s : State) : KeepsCanon s s.bridgeClose := .of fun h => by simp +contextual [State.bridgeClose, h]
@[simp] theorem State.canopyClose_canon (s : State) : KeepsCanon s s.canopyClose := .of fun h => by simp [State.canopyClose, h]

/-! ### Power sequences -/

@[simp] theorem State.logStep_canon (s : State) (n ms : Nat) : KeepsCanon s (s.logStep n ms) := .of fun h => by simp [State.logStep, h]
@[simp] theorem State.reversed_canon (s : State) : KeepsCanon s s.reversed := .of fun h => by simp [State.reversed, h]

@[simp] theorem State.sendMgmt_canon (s : State) (kind hold : Nat) : KeepsCanon s (s.sendMgmt kind hold) := .of fun h => by
  simp +contextual [State.sendMgmt, h]

@[simp] theorem State.canopyFailed_canon (s : State) : KeepsCanon s s.canopyFailed := .of fun h => by simp [State.canopyFailed, h]
@[simp] theorem State.sleepBroken_canon (s : State) : KeepsCanon s s.sleepBroken := .of fun h => by simp +contextual [State.sleepBroken, h]
@[simp] theorem State.wakeLevel_canon (s : State) (f : Fld) (v : Bool) : KeepsCanon s (s.wakeLevel f v) := .of fun h => by simp [State.wakeLevel, h]
@[simp] theorem State.supLog_canon (s : State) (event mv : Nat) : KeepsCanon s (s.supLog event mv) := .of fun h => by simp [State.supLog, h]
@[simp] theorem State.supplyMv_canon (s : State) (mv : Nat) : KeepsCanon s (s.supplyMv mv) := .of fun h => by simp [State.supplyMv, h]
@[simp] theorem execSupplyLow_canon (mv : Nat) (s : State) (h : s.canon) : CanonOut (execSupplyLow mv s) := by simp [execSupplyLow, h]
@[simp] theorem execSupplyHigh_canon (mv : Nat) (s : State) (h : s.canon) : CanonOut (execSupplyHigh mv s) := by simp [execSupplyHigh, h]
@[simp] theorem execButtonStuck_canon (s : State) (h : s.canon) : CanonOut (execButtonStuck s) := by simp [execButtonStuck, h]
@[simp] theorem execButtonUnmask_canon (s : State) (h : s.canon) : CanonOut (execButtonUnmask s) := by simp [execButtonUnmask, h]

/-! ### Health -/

@[simp] theorem State.afterHealth_canon (s : State) : KeepsCanon s s.afterHealth := .of fun h => by simp [State.afterHealth, h]

@[simp] theorem execEngineCheckError_canon (res : Nat) (corrected : Bool) (s : State) (h : s.canon) :
    CanonOut (execEngineCheckError res corrected s) := by
  unfold execEngineCheckError
  (repeat' split) <;> simp [h, (s.mark_canon _ _).apply h]

@[simp] theorem State.lastingAction_canon (s : State) (r part : Nat) : KeepsCanon s (s.lastingAction r part) := by
  refine .of fun h => ?_
  unfold State.lastingAction
  split <;> simp [h, (s.mark_canon _ _).apply h]

@[simp] theorem State.testedReg_canon (s : State) (r : Nat) : KeepsCanon s (s.testedReg r) := .of fun h => by simp [State.testedReg, h]

@[simp] theorem State.testResult_canon (s : State) (r part : Nat) (found : Bool) : KeepsCanon s (s.testResult r part found).1 := by
  refine .of fun h => ?_
  simp [State.testResult, h]

@[simp] theorem State.testDone_canon (s : State) (r res : Nat) : KeepsCanon s (s.testDone r res) := .of fun h => by
  simp +contextual [State.testDone, h]

@[simp] theorem State.daleTest_canon (s : State) (r part : Nat) (found : Bool) (bad : List Nat) : KeepsCanon s (s.daleTest r part found bad).1 := by
  refine .of fun h => ?_
  simp [State.daleTest, h]

@[simp] theorem State.testWaits_canon (s : State) (n : Nat) : KeepsCanon s (s.testWaits n) := .of fun h => by simp [State.testWaits, h]

@[simp] theorem execSelfTest_canon (res : Nat) (found : Bool) (part : Nat) (bad : List Nat) (s : State) (h : s.canon) :
    CanonOut (execSelfTest res found part bad s) := by
  unfold execSelfTest
  (repeat' split) <;> simp [h]

@[simp] theorem State.heartbeat_canon (s : State) (n : Nat) : KeepsCanon s (s.heartbeat n) := .of fun h => by simp [State.heartbeat, h]

@[simp] theorem execHeartbeat_canon (agent : Agent) (n : Nat) (s : State) (h : s.canon) : CanonOut (execHeartbeat agent n s) := by
  simp +contextual [execHeartbeat, h]

@[simp] theorem execHeartbeatTimeout_canon (n : Nat) (s : State) (h : s.canon) : CanonOut (execHeartbeatTimeout n s) := by
  simp [execHeartbeatTimeout, h]

@[simp] theorem State.readyHand_canon (s : State) (n : Nat) : KeepsCanon s (s.readyHand n) := by
  refine .of fun h => ?_
  unfold State.readyHand
  dsimp only
  (repeat' split) <;> simp [h]

@[simp] theorem State.armed_canon (s : State) (n : Nat) : KeepsCanon s (s.armed n) := by
  refine .of fun h => ?_
  unfold State.armed
  split <;> simp [h]

@[simp] theorem State.daleMarks_canon (s : State) (n : Nat) (was : Bool) : KeepsCanon s (s.daleMarks n was) := .of fun h => by
  simp [State.daleMarks, h]

@[simp] theorem State.daleCtlWrite_canon (s : State) (n : Nat) (v : W32) : KeepsCanon s (s.daleCtlWrite n v) := .of fun h => by
  simp [State.daleCtlWrite, h]

@[simp] theorem execDaleReadyWrite_canon (agent : Agent) (n : Nat) (value : W32) (s : State) (h : s.canon) :
    CanonOut (execDaleReadyWrite agent n value s) := by
  simp +contextual [execDaleReadyWrite, h]

@[simp] theorem execDaleDeclareFail_canon (agent : Agent) (n : Nat) (s : State) (h : s.canon) : CanonOut (execDaleDeclareFail agent n s) := by
  simp +contextual [execDaleDeclareFail, h]

@[simp] theorem execDaleCacheError_canon (n core : Nat) (unc tagState : Bool) (s : State) (h : s.canon) :
    CanonOut (execDaleCacheError n core unc tagState s) := by
  simp [execDaleCacheError, h]

@[simp] theorem State.compare_canon (s : State) (k side : Nat) (v : W32) : KeepsCanon s (s.compare k side v) := by
  refine .of fun h => ?_
  unfold State.compare
  dsimp only
  (repeat' split) <;> simp [h]

@[simp] theorem execComparisonWrite_canon (agent : Agent) (k : Nat) (value : W32) (s : State) (h : s.canon) :
    CanonOut (execComparisonWrite agent k value s) := by
  simp +contextual [execComparisonWrite, h]

@[simp] theorem State.mirReject_canon (s : State) (n cause : Nat) : KeepsCanon s (s.mirReject n cause) := .of fun h => by simp [State.mirReject, h]

@[simp] theorem State.mirCfgWrite_canon (s : State) (n : Nat) (v : W32) (finish : Bool) : KeepsCanon s (s.mirCfgWrite n v finish) := by
  refine .of fun h => ?_
  simp [State.mirCfgWrite, h]

@[simp] theorem State.mirBaseWrite_canon (s : State) (n off : Nat) (v : W32) : KeepsCanon s (s.mirBaseWrite n off v) := by
  refine .of fun h => ?_
  simp [State.mirBaseWrite, h]

@[simp] theorem execMirrorRegionEnable_canon (agent : Agent) (n : Nat) (value : W32) (finish : Bool) (s : State) (h : s.canon) :
    CanonOut (execMirrorRegionEnable agent n value finish s) := by
  simp +contextual [execMirrorRegionEnable, h]

@[simp] theorem execHandover_canon (s : State) (h : s.canon) : CanonOut (execHandover s) := by
  unfold execHandover
  split <;> simp [h]

@[simp] theorem execHandoverSwitch_canon (s : State) (h : s.canon) : CanonOut (execHandoverSwitch s) := by
  unfold execHandoverSwitch
  dsimp only
  split <;> simp [h]

@[simp] theorem execHandoverPrepareTimeout_canon (s : State) (h : s.canon) : CanonOut (execHandoverPrepareTimeout s) := by
  unfold execHandoverPrepareTimeout
  (repeat' split) <;> simp [h]

@[simp] theorem execTestCmd_canon (s : State) (h : s.canon) : CanonOut (execTestCmd s) := by
  unfold execTestCmd
  split <;> simp [h]

@[simp] theorem execToktake_canon (s : State) (h : s.canon) : CanonOut (execToktake s) := by
  unfold execToktake
  split <;> simp [h]

@[simp] theorem execTokgive_canon (s : State) (h : s.canon) : CanonOut (execTokgive s) := by
  unfold execTokgive
  split <;> simp [h]

@[simp] theorem execTokenHeldOneHour_canon (c : Nat) (s : State) (h : s.canon) : CanonOut (execTokenHeldOneHour c s) := by
  simp [execTokenHeldOneHour, h]

/-! ### Time with an empty queue -/

@[simp] theorem State.drainOutbound_canon (s : State) : KeepsCanon s s.drainOutbound := by
  refine .of fun h => ?_
  unfold State.drainOutbound
  split <;> simp [h]

@[simp] theorem State.rootTime_canon (s : State) (n : Nat) : KeepsCanon s (s.rootTime n) := by
  refine .of fun h => ?_
  unfold State.rootTime
  dsimp only
  split <;> simp [h]

@[simp] theorem State.opTime_canon (s : State) (ns : Nat) : KeepsCanon s (s.opTime ns) := .of fun h => by simp [State.opTime, h]
@[simp] theorem State.poseAge_canon (s : State) : KeepsCanon s s.poseAge := .of fun h => by simp [State.poseAge, h]

/-! ### Register accesses by address -/

@[simp] theorem State.snapshot_canon (s : State) (a : Agent) (blk : Nat) : KeepsCanon s (s.snapshot a blk) := by
  refine .of fun h => ?_
  unfold State.snapshot
  split <;> simp +contextual [h]

@[simp] theorem State.safeReg_canon (s : State) (key : Nat) : KeepsCanon s (s.safeReg key) := by
  refine .of fun h => ?_
  unfold State.safeReg
  split <;> simp [h]

@[simp] theorem State.parityOne_canon (s : State) (key : Nat) : KeepsCanon s (s.parityOne key) := by
  refine .of fun h => ?_
  unfold State.parityOne
  split <;> simp [h]

@[simp] theorem State.parityFlag_canon (s : State) (blk : Nat) (bad : List Nat) : KeepsCanon s (s.parityFlag blk bad) := by
  refine .of fun h => ?_
  unfold State.parityFlag
  split <;> simp +contextual [h]

@[simp] theorem State.parityEnter_canon (s : State) (blk : Nat) : KeepsCanon s (s.parityEnter blk) := by
  refine .of fun h => ?_
  unfold State.parityEnter
  dsimp only
  split <;> simp +contextual [h]

@[simp] theorem State.upset_canon (s : State) (u : Nat × Nat) : KeepsCanon s (s.upset u) := by
  refine .of fun h => ?_
  unfold State.upset
  dsimp only
  split <;> simp [h]

@[simp] theorem execParitySweep_canon (upsets : List (Nat × Nat)) (s : State) (h : s.canon) : CanonOut (execParitySweep upsets s) := by
  simp +contextual [execParitySweep, h]

@[simp] theorem State.hltWrite_canon (s : State) (off : Nat) (v : W32) : KeepsCanon s (s.hltWrite off v) := .of fun h => by simp [State.hltWrite, h]

@[simp] theorem State.evrWrite_canon (s : State) (a : Agent) (off : Nat) (v : W32) : KeepsCanon s (s.evrWrite a off v) := by
  refine .of fun h => ?_
  unfold State.evrWrite
  (repeat' split) <;> simp [h]

@[simp] theorem State.ingWrite_canon (s : State) (off : Nat) (v : W32) : KeepsCanon s (s.ingWrite off v) := .of fun h => by simp [State.ingWrite, h]
@[simp] theorem State.camWrite_canon (s : State) (off : Nat) (v : W32) : KeepsCanon s (s.camWrite off v) := .of fun h => by simp [State.camWrite, h]
@[simp] theorem State.rngWrite_canon (s : State) (off : Nat) (v : W32) : KeepsCanon s (s.rngWrite off v) := .of fun h => by simp [State.rngWrite, h]

@[simp] theorem State.mbxWrite_canon (s : State) (a : Agent) (id off : Nat) (v : W32) : KeepsCanon s (s.mbxWrite a id off v) := by
  refine .of fun h => ?_
  unfold State.mbxWrite
  (repeat' split) <;> simp +contextual [h]

@[simp] theorem State.timed_canon (s : State) (key : Nat) : KeepsCanon s (s.timed key) := by
  refine .of fun h => ?_
  unfold State.timed
  split <;> simp [h]

@[simp] theorem State.refresh_canon (s : State) (key : Nat) : KeepsCanon s (s.refresh key) := by
  refine .of fun h => ?_
  unfold State.refresh
  (repeat' split) <;> simp [h]

@[simp] theorem State.bankPeak_canon (s : State) (k : Nat) : KeepsCanon s (s.bankPeak k) := .of fun h => by simp [State.bankPeak, h]

@[simp] theorem State.readWord_canon (s : State) (a : Agent) (blk off : Nat) : KeepsCanon s (s.readWord a blk off).1 := by
  refine .of fun h => ?_
  unfold State.readWord
  (repeat' split) <;> simp [h]

@[simp] theorem State.readReg_canon (s : State) (a : Agent) (blk off : Nat) : KeepsCanon s (s.readReg a blk off) := .of fun h => by
  simp [State.readReg, h]

@[simp] theorem State.readAt_canon (s : State) (a : Agent) (addr size : Nat) : KeepsCanon s (s.readAt a addr size) := by
  refine .of fun h => ?_
  unfold State.readAt
  dsimp only
  (repeat' split) <;> simp [h]

@[simp] theorem execReadClear_canon (agent : Agent) (addr size : Nat) (s : State) (h : s.canon) : CanonOut (execReadClear agent addr size s) := by
  simp [execReadClear, h]

@[simp] theorem State.serviceReads_canon (s : State) (addr k n : Nat) : KeepsCanon s (s.serviceReads addr k n).1 := by
  induction n generalizing s addr k with
  | zero => exact .refl _
  | succ n ih =>
    refine .of fun h => ?_
    unfold State.serviceReads
    dsimp only
    split <;> simp [ih, h]

/-! ### Backup cell and Root save -/

@[simp] theorem State.cellCharge_canon (s : State) (uah : Nat) : KeepsCanon s (s.cellCharge uah) := .of fun h => by simp [State.cellCharge, h]

@[simp] theorem State.rebase_canon (s : State) (mv : Nat) : KeepsCanon s (s.rebase mv) := by
  refine .of fun h => ?_
  unfold State.rebase
  split <;> simp [h]

@[simp] theorem State.saveAndConfirm_canon (s : State) (cause : Nat) (ok : Bool) : KeepsCanon s (s.saveAndConfirm cause ok) := by
  refine .of fun h => ?_
  simp [State.saveAndConfirm, h]

@[simp] theorem State.cellLow_canon (s : State) (mv : Nat) (ok : Bool) : KeepsCanon s (s.cellLow mv ok) := .of fun h => by simp [State.cellLow, h]

@[simp] theorem execRootSave_canon (ok : Bool) (s : State) (h : s.canon) : CanonOut (execRootSave ok s) := by
  unfold execRootSave
  split <;> simp [h]

/-! ### Furrow instructions -/

@[simp] theorem State.scanNext_canon (s : State) (sc : Scan) : KeepsCanon s (s.scanNext sc) := .of fun h => by simp [State.scanNext, h]
@[simp] theorem State.scanDone_canon (s : State) (sc : Scan) : KeepsCanon s (s.scanDone sc) := .of fun h => by simp [State.scanDone, h]

@[simp] theorem State.furRun_canon (s : State) (w : Option Nat) (f : State → Scan → FurOut)
    (h : ∀ t sc, t.canon → (f t sc).canon) : KeepsCanon s (s.furRun w f) := by
  refine .of fun hs => ?_
  unfold State.furRun
  split
  · exact hs
  · next sc _ =>
    have hf := h s { sc with pc := sc.pc + 1 } hs
    (repeat' split) <;> simp_all

@[simp] theorem State.furGet_canon (s : State) (area : Nat) (sc : Scan) (x : Bool) (i : Nat) (k : Nat → FurOut) (h : ∀ a, (k a).canon) :
    (s.furGet area sc x i k).canon := by
  simp [State.furGet, h]

@[simp] theorem furFlagOp_canon (x : Bool) (i : Nat) (g : Bool → Bool → Bool) (s : State) (sc : Scan) (h : s.canon) :
    (furFlagOp x i g s sc).canon := by
  simp +contextual [furFlagOp, h]

@[simp] theorem furFlagSt_canon (x : Bool) (i : Nat) (go v : Bool → Bool) (s : State) (sc : Scan) (h : s.canon) :
    (furFlagSt x i go v s sc).canon := by
  simp +contextual [furFlagSt, h]

@[simp] theorem furAcc_canon (g : Scan → Scan) (s : State) (sc : Scan) (h : s.canon) : (furAcc g s sc).canon := by simp +contextual [furAcc, h]

@[simp] theorem furWordOp_canon (x : Bool) (i : Nat) (g : Int → Int → Option Int) (s : State) (sc : Scan) (h : s.canon) :
    (furWordOp x i g s sc).canon := by
  refine State.furGet_canon _ _ _ _ _ _ fun a => ?_
  split
  · exact h
  · trivial

@[simp] theorem furCmp_canon (x : Bool) (i : Nat) (r : Int → Int → Bool) (s : State) (sc : Scan) (h : s.canon) : (furCmp x i r s sc).canon := by
  simp +contextual [furCmp, h]

@[simp] theorem furWordSt_canon (x : Bool) (i : Nat) (go : Bool → Bool) (s : State) (sc : Scan) (h : s.canon) : (furWordSt x i go s sc).canon := by
  simp +contextual [furWordSt, h]

@[simp] theorem furPush_canon (op : Nat) (s : State) (sc : Scan) (h : s.canon) : (furPush op s sc).canon := by simp +contextual [furPush, h]

@[simp] theorem furPop_canon (s : State) (sc : Scan) (h : s.canon) : (furPop s sc).canon := by
  unfold furPop
  split <;> simp +contextual [h]

@[simp] theorem furTime_canon (i pt : Nat) (g : Timer → Bool → Nat → Nat → Timer) (s : State) (sc : Scan) (h : s.canon) :
    (furTime i pt g s sc).canon := by
  simp +contextual [furTime, h]

@[simp] theorem furTimeW_canon (word i : Nat) (g : Timer → Bool → Nat → Nat → Timer) (s : State) (sc : Scan) (h : s.canon) :
    (furTimeW word i g s sc).canon := by
  simp +contextual [furTimeW, h]

@[simp] theorem furEdgeOp_canon (x : Bool) (i : Nat) (g : Bool → Bool → Bool) (s : State) (sc : Scan) (h : s.canon) :
    (furEdgeOp x i g s sc).canon := by
  simp +contextual [furEdgeOp, h]

@[simp] theorem furCount_canon (word i kind : Nat) (step : Int) (s : State) (sc : Scan) (h : s.canon) : (furCount word i kind step s sc).canon := by
  simp +contextual [furCount, h]

@[simp] theorem furResetTimer_canon (i : Nat) (s : State) (sc : Scan) (h : s.canon) : (furResetTimer i s sc).canon := by
  simp +contextual [furResetTimer, h]

@[simp] theorem furResetCounter_canon (i : Nat) (s : State) (sc : Scan) (h : s.canon) : (furResetCounter i s sc).canon := by
  simp +contextual [furResetCounter, h]

@[simp] theorem furJump_canon (target : Nat) (go : Bool → Bool) (s : State) (sc : Scan) (h : s.canon) : (furJump target go s sc).canon := by
  simp +contextual [furJump, h]

@[simp] theorem furRepeat_canon (n str len : Nat) (s : State) (sc : Scan) (h : s.canon) : (furRepeat n str len s sc).canon := by
  simp +contextual [furRepeat, h]

@[simp] theorem furEnd_canon (s : State) (sc : Scan) (h : s.canon) : (furEnd s sc).canon := by simp +contextual [furEnd, h]
@[simp] theorem execFurNop_canon (s : State) (h : s.canon) : CanonOut (execFurNop s) := by simp +contextual [execFurNop, h]
@[simp] theorem execFurLd_canon (x : Bool) (f : Nat) (s : State) (h : s.canon) : CanonOut (execFurLd x f s) := by simp +contextual [execFurLd, h]
@[simp] theorem execFurLdn_canon (x : Bool) (f : Nat) (s : State) (h : s.canon) : CanonOut (execFurLdn x f s) := by simp +contextual [execFurLdn, h]
@[simp] theorem execFurAnd_canon (x : Bool) (f : Nat) (s : State) (h : s.canon) : CanonOut (execFurAnd x f s) := by simp +contextual [execFurAnd, h]

@[simp] theorem execFurAndn_canon (x : Bool) (f : Nat) (s : State) (h : s.canon) : CanonOut (execFurAndn x f s) := by
  simp +contextual [execFurAndn, h]

@[simp] theorem execFurOr_canon (x : Bool) (f : Nat) (s : State) (h : s.canon) : CanonOut (execFurOr x f s) := by simp +contextual [execFurOr, h]
@[simp] theorem execFurOrn_canon (x : Bool) (f : Nat) (s : State) (h : s.canon) : CanonOut (execFurOrn x f s) := by simp +contextual [execFurOrn, h]
@[simp] theorem execFurXor_canon (x : Bool) (f : Nat) (s : State) (h : s.canon) : CanonOut (execFurXor x f s) := by simp +contextual [execFurXor, h]
@[simp] theorem execFurSt_canon (x : Bool) (f : Nat) (s : State) (h : s.canon) : CanonOut (execFurSt x f s) := by simp +contextual [execFurSt, h]
@[simp] theorem execFurStn_canon (x : Bool) (f : Nat) (s : State) (h : s.canon) : CanonOut (execFurStn x f s) := by simp +contextual [execFurStn, h]
@[simp] theorem execFurSet_canon (x : Bool) (f : Nat) (s : State) (h : s.canon) : CanonOut (execFurSet x f s) := by simp +contextual [execFurSet, h]
@[simp] theorem execFurRst_canon (x : Bool) (f : Nat) (s : State) (h : s.canon) : CanonOut (execFurRst x f s) := by simp +contextual [execFurRst, h]
@[simp] theorem execFurNot_canon (s : State) (h : s.canon) : CanonOut (execFurNot s) := by simp +contextual [execFurNot, h]
@[simp] theorem execFurLda_canon (bit : Bool) (s : State) (h : s.canon) : CanonOut (execFurLda bit s) := by simp +contextual [execFurLda, h]
@[simp] theorem execFurOpen_canon (op : Nat) (s : State) (h : s.canon) : CanonOut (execFurOpen op s) := by simp +contextual [execFurOpen, h]
@[simp] theorem execFurClose_canon (s : State) (h : s.canon) : CanonOut (execFurClose s) := by simp +contextual [execFurClose, h]
@[simp] theorem execFurFp_canon (x : Bool) (e : Nat) (s : State) (h : s.canon) : CanonOut (execFurFp x e s) := by simp +contextual [execFurFp, h]
@[simp] theorem execFurFn_canon (x : Bool) (e : Nat) (s : State) (h : s.canon) : CanonOut (execFurFn x e s) := by simp +contextual [execFurFn, h]

@[simp] theorem execFurTon_canon (base count t : Nat) (s : State) (h : s.canon) : CanonOut (execFurTon base count t s) := by
  simp +contextual [execFurTon, h]

@[simp] theorem execFurTof_canon (base count t : Nat) (s : State) (h : s.canon) : CanonOut (execFurTof base count t s) := by
  simp +contextual [execFurTof, h]

@[simp] theorem execFurTp_canon (base count t : Nat) (s : State) (h : s.canon) : CanonOut (execFurTp base count t s) := by
  simp +contextual [execFurTp, h]

@[simp] theorem execFurTonw_canon (word t : Nat) (s : State) (h : s.canon) : CanonOut (execFurTonw word t s) := by simp +contextual [execFurTonw, h]
@[simp] theorem execFurTofw_canon (word t : Nat) (s : State) (h : s.canon) : CanonOut (execFurTofw word t s) := by simp +contextual [execFurTofw, h]
@[simp] theorem execFurTpw_canon (word t : Nat) (s : State) (h : s.canon) : CanonOut (execFurTpw word t s) := by simp +contextual [execFurTpw, h]
@[simp] theorem execFurRstt_canon (t : Nat) (s : State) (h : s.canon) : CanonOut (execFurRstt t s) := by simp +contextual [execFurRstt, h]
@[simp] theorem execFurLdt_canon (t : Nat) (s : State) (h : s.canon) : CanonOut (execFurLdt t s) := by simp +contextual [execFurLdt, h]
@[simp] theorem execFurCtu_canon (word c : Nat) (s : State) (h : s.canon) : CanonOut (execFurCtu word c s) := by simp +contextual [execFurCtu, h]
@[simp] theorem execFurCtd_canon (word c : Nat) (s : State) (h : s.canon) : CanonOut (execFurCtd word c s) := by simp +contextual [execFurCtd, h]
@[simp] theorem execFurRstc_canon (c : Nat) (s : State) (h : s.canon) : CanonOut (execFurRstc c s) := by simp +contextual [execFurRstc, h]
@[simp] theorem execFurLdc_canon (c : Nat) (s : State) (h : s.canon) : CanonOut (execFurLdc c s) := by simp +contextual [execFurLdc, h]
@[simp] theorem execFurLdw_canon (x : Bool) (i : Nat) (s : State) (h : s.canon) : CanonOut (execFurLdw x i s) := by simp +contextual [execFurLdw, h]
@[simp] theorem execFurLdi_canon (imm : Int) (s : State) (h : s.canon) : CanonOut (execFurLdi imm s) := by simp +contextual [execFurLdi, h]
@[simp] theorem execFurStw_canon (x : Bool) (i : Nat) (s : State) (h : s.canon) : CanonOut (execFurStw x i s) := by simp +contextual [execFurStw, h]

@[simp] theorem execFurStwc_canon (x : Bool) (i : Nat) (s : State) (h : s.canon) : CanonOut (execFurStwc x i s) := by
  simp +contextual [execFurStwc, h]

@[simp] theorem execFurAddw_canon (x : Bool) (i : Nat) (s : State) (h : s.canon) : CanonOut (execFurAddw x i s) := by
  simp +contextual [execFurAddw, h]

@[simp] theorem execFurSubw_canon (x : Bool) (i : Nat) (s : State) (h : s.canon) : CanonOut (execFurSubw x i s) := by
  simp +contextual [execFurSubw, h]

@[simp] theorem execFurMulw_canon (x : Bool) (i : Nat) (s : State) (h : s.canon) : CanonOut (execFurMulw x i s) := by
  simp +contextual [execFurMulw, h]

@[simp] theorem execFurDivw_canon (x : Bool) (i : Nat) (s : State) (h : s.canon) : CanonOut (execFurDivw x i s) := by
  simp +contextual [execFurDivw, h]

@[simp] theorem execFurAddi_canon (imm : Int) (s : State) (h : s.canon) : CanonOut (execFurAddi imm s) := by simp +contextual [execFurAddi, h]

@[simp] theorem execFurMinw_canon (x : Bool) (i : Nat) (s : State) (h : s.canon) : CanonOut (execFurMinw x i s) := by
  simp +contextual [execFurMinw, h]

@[simp] theorem execFurMaxw_canon (x : Bool) (i : Nat) (s : State) (h : s.canon) : CanonOut (execFurMaxw x i s) := by
  simp +contextual [execFurMaxw, h]

@[simp] theorem execFurAndw_canon (x : Bool) (i : Nat) (s : State) (h : s.canon) : CanonOut (execFurAndw x i s) := by
  simp +contextual [execFurAndw, h]

@[simp] theorem execFurOrw_canon (x : Bool) (i : Nat) (s : State) (h : s.canon) : CanonOut (execFurOrw x i s) := by simp +contextual [execFurOrw, h]
@[simp] theorem execFurNeg_canon (s : State) (h : s.canon) : CanonOut (execFurNeg s) := by simp +contextual [execFurNeg, h]
@[simp] theorem execFurAbs_canon (s : State) (h : s.canon) : CanonOut (execFurAbs s) := by simp +contextual [execFurAbs, h]
@[simp] theorem execFurCeq_canon (x : Bool) (i : Nat) (s : State) (h : s.canon) : CanonOut (execFurCeq x i s) := by simp +contextual [execFurCeq, h]
@[simp] theorem execFurCne_canon (x : Bool) (i : Nat) (s : State) (h : s.canon) : CanonOut (execFurCne x i s) := by simp +contextual [execFurCne, h]
@[simp] theorem execFurClt_canon (x : Bool) (i : Nat) (s : State) (h : s.canon) : CanonOut (execFurClt x i s) := by simp +contextual [execFurClt, h]
@[simp] theorem execFurCle_canon (x : Bool) (i : Nat) (s : State) (h : s.canon) : CanonOut (execFurCle x i s) := by simp +contextual [execFurCle, h]
@[simp] theorem execFurCgt_canon (x : Bool) (i : Nat) (s : State) (h : s.canon) : CanonOut (execFurCgt x i s) := by simp +contextual [execFurCgt, h]
@[simp] theorem execFurCge_canon (x : Bool) (i : Nat) (s : State) (h : s.canon) : CanonOut (execFurCge x i s) := by simp +contextual [execFurCge, h]
@[simp] theorem execFurCeqi_canon (imm : Int) (s : State) (h : s.canon) : CanonOut (execFurCeqi imm s) := by simp +contextual [execFurCeqi, h]
@[simp] theorem execFurCnei_canon (imm : Int) (s : State) (h : s.canon) : CanonOut (execFurCnei imm s) := by simp +contextual [execFurCnei, h]
@[simp] theorem execFurClti_canon (imm : Int) (s : State) (h : s.canon) : CanonOut (execFurClti imm s) := by simp +contextual [execFurClti, h]
@[simp] theorem execFurClei_canon (imm : Int) (s : State) (h : s.canon) : CanonOut (execFurClei imm s) := by simp +contextual [execFurClei, h]
@[simp] theorem execFurCgti_canon (imm : Int) (s : State) (h : s.canon) : CanonOut (execFurCgti imm s) := by simp +contextual [execFurCgti, h]
@[simp] theorem execFurCgei_canon (imm : Int) (s : State) (h : s.canon) : CanonOut (execFurCgei imm s) := by simp +contextual [execFurCgei, h]
@[simp] theorem execFurLdte_canon (t : Nat) (s : State) (h : s.canon) : CanonOut (execFurLdte t s) := by simp +contextual [execFurLdte, h]
@[simp] theorem execFurLdcv_canon (c : Nat) (s : State) (h : s.canon) : CanonOut (execFurLdcv c s) := by simp +contextual [execFurLdcv, h]
@[simp] theorem execFurLdx_canon (s : State) (h : s.canon) : CanonOut (execFurLdx s) := by simp +contextual [execFurLdx, h]
@[simp] theorem execFurJmp_canon (target : Nat) (s : State) (h : s.canon) : CanonOut (execFurJmp target s) := by simp +contextual [execFurJmp, h]
@[simp] theorem execFurJc_canon (target : Nat) (s : State) (h : s.canon) : CanonOut (execFurJc target s) := by simp +contextual [execFurJc, h]
@[simp] theorem execFurJnc_canon (target : Nat) (s : State) (h : s.canon) : CanonOut (execFurJnc target s) := by simp +contextual [execFurJnc, h]

@[simp] theorem execFurRep_canon (src : Bool) (count str len : Nat) (s : State) (h : s.canon) :
    CanonOut (execFurRep src count str len s) := by
  refine (canonOut_next _).mpr ((State.furRun_canon _ _ _ fun t sc ht => ?_).apply h)
  split <;> simp [ht]

@[simp] theorem execFurEnd_canon (s : State) (h : s.canon) : CanonOut (execFurEnd s) := by simp +contextual [execFurEnd, h]

/-! ### Guidance -/

@[simp] theorem State.setGuide_canon (s : State) (g : GuideFw) : KeepsCanon s (s.setGuide g) := .of fun h => by simp [State.setGuide, h]
@[simp] theorem State.gfRead_canon (s : State) : KeepsCanon s s.gfRead := .of fun h => by simp [State.gfRead, h]
@[simp] theorem State.daleWrite_canon (s : State) (a : Nat) (b : Bytes) : KeepsCanon s (s.daleWrite a b) := .of fun h => by simp [State.daleWrite, h]
@[simp] theorem State.coreStore_canon (s : State) (a : Nat) (b : Bytes) : KeepsCanon s (s.coreStore a b) := .of fun h => by simp [State.coreStore, h]

@[simp] theorem State.takeMessage_canon (s : State) (g : Int) (fr : Bytes) : KeepsCanon s (s.takeMessage g fr).1 := by
  refine .of fun h => ?_
  unfold State.takeMessage
  dsimp only
  split <;> simp [h]

@[simp] theorem State.intake_canon (s : State) (c : GuideCfg) (g : Int) : KeepsCanon s (s.intake c g).1 := .of fun h => by
  simp +contextual [State.intake, h]

@[simp] theorem State.firmwarePose_canon (s : State) (t : Nat) (g : GuideIn) (o : Vec) (yaw speed : Frac) (tilt : Option (Frac × Frac)) (fix : Nat) :
    KeepsCanon s (s.firmwarePose t g o yaw speed tilt fix) := by
  refine .of fun h => ?_
  simp [State.firmwarePose, h]

@[simp] theorem State.guideRecord_canon (s : State) (dale : Agent) (c : GuideCfg) (e : EpochRead) (moved : Bool) (g : GuideIn) :
    KeepsCanon s (s.guideRecord dale c e moved g) := by
  refine .of fun h => ?_
  simp [State.guideRecord, h]

@[simp] theorem execGuidanceRecord_canon (g : GuideIn) (s : State) (h : s.canon) : CanonOut (execGuidanceRecord g s) := by
  unfold execGuidanceRecord
  dsimp only
  (repeat' split) <;> simp [h]

/-! ### The power chapter: what its operations leave alone -/

/-! #### Pace and time -/

@[simp] theorem State.canopyDark_canon (s : State) : KeepsCanon s s.canopyDark := .of fun h => by simp +contextual [State.canopyDark, h]

/-! #### Steps of the power sequences -/

@[simp] theorem State.bedReset_canon (s : State) (reset : Bool) : KeepsCanon s (s.bedReset reset) := .of fun h => by
  simp +contextual [State.bedReset, h]

@[simp] theorem State.sundialStart_canon (s : State) : KeepsCanon s s.sundialStart := .of fun h => by simp [State.sundialStart, h]
@[simp] theorem State.canopyReset_canon (s : State) : KeepsCanon s s.canopyReset := .of fun h => by simp +contextual [State.canopyReset, h]

/-! #### Power sequences -/

@[simp] theorem State.setStep_canon (s : State) (n : Nat) : KeepsCanon s (s.setStep n) := .of fun h => by simp +contextual [State.setStep, h]
@[simp] theorem State.setTurn_canon (s : State) (n : Option Nat) : KeepsCanon s (s.setTurn n) := .of fun h => by simp +contextual [State.setTurn, h]

@[simp] theorem State.pwrEnter_canon (s : State) (n : Nat) : KeepsCanon s (s.pwrEnter n) := by
  refine .of fun h => ?_
  unfold State.pwrEnter
  split <;> simp [h]

@[simp] theorem State.sleepReq_canon (s : State) : KeepsCanon s s.sleepReq := .of fun h => by simp +contextual [State.sleepReq, h]
@[simp] theorem State.startSleep_canon (s : State) : KeepsCanon s s.startSleep := .of fun h => by simp [State.startSleep, h]
@[simp] theorem State.goSleep_canon (s : State) : KeepsCanon s s.goSleep := .of fun h => by simp [State.goSleep, h]
@[simp] theorem State.kick_canon (s : State) : KeepsCanon s s.kick := .of fun h => by simp [State.kick, h]
@[simp] theorem State.wakeAccept_canon (s : State) (src : Nat) : KeepsCanon s (s.wakeAccept src) := .of fun h => by simp [State.wakeAccept, h]

@[simp] theorem State.stateReached_canon (s : State) (st : Nat) : KeepsCanon s (s.stateReached st) := .of fun h => by
  simp +contextual [State.stateReached, h]

@[simp] theorem State.enterDoze_canon (s : State) : KeepsCanon s s.enterDoze := .of fun h => by simp [State.enterDoze, h]
@[simp] theorem State.enterField_canon (s : State) : KeepsCanon s s.enterField := .of fun h => by simp [State.enterField, h]
@[simp] theorem State.bedGone_canon (s : State) : KeepsCanon s s.bedGone := .of fun h => by simp +contextual [State.bedGone, h]
@[simp] theorem State.enterArmed_canon (s : State) : KeepsCanon s s.enterArmed := .of fun h => by simp [State.enterArmed, h]

@[simp] theorem State.goStep_canon (s : State) (m : Nat) : KeepsCanon s (s.goStep m) := by
  refine .of fun h => ?_
  unfold State.goStep
  split <;> simp [h]

@[simp] theorem State.stepEffect_canon (s : State) (q : SeqIn) (n ms : Nat) : KeepsCanon s (s.stepEffect q n ms).1 := by
  refine .of fun h => ?_
  unfold State.stepEffect
  split <;> simp [h]

@[simp] theorem State.endStep_canon (s : State) (q : SeqIn) (ms : Nat) : KeepsCanon s (s.endStep q ms) := .of fun h => by simp [State.endStep, h]

@[simp] theorem State.runSteps_canon (lo hi : Nat) (q : SeqIn) (l : List Nat) (s : State) : KeepsCanon s (State.runSteps lo hi q l s) := by
  induction l generalizing s with
  | nil => exact .refl _
  | cons ms r ih => exact .of fun h => by simp [State.runSteps, ih, h]

@[simp] theorem execBedUp_canon (q : SeqIn) (s : State) (h : s.canon) : CanonOut (execBedUp q s) := by simp [execBedUp, h]
@[simp] theorem execBedDown_canon (q : SeqIn) (s : State) (h : s.canon) : CanonOut (execBedDown q s) := by simp [execBedDown, h]
@[simp] theorem execCanopyUp_canon (q : SeqIn) (s : State) (h : s.canon) : CanonOut (execCanopyUp q s) := by simp [execCanopyUp, h]

@[simp] theorem execCanopyUpRetry_canon (q : SeqIn) (s : State) (h : s.canon) : CanonOut (execCanopyUpRetry q s) := by
  unfold execCanopyUpRetry
  split <;> simp [h]

@[simp] theorem execCanopyDown_canon (q : SeqIn) (s : State) (h : s.canon) : CanonOut (execCanopyDown q s) := by simp [execCanopyDown, h]
@[simp] theorem State.graceEnds_canon (s : State) : KeepsCanon s s.graceEnds := .of fun h => by simp [State.graceEnds, h]
@[simp] theorem execCanopyGraceTimeout_canon (s : State) (h : s.canon) : CanonOut (execCanopyGraceTimeout s) := by simp [execCanopyGraceTimeout, h]
@[simp] theorem State.steer_canon (s : State) : KeepsCanon s s.steer := .of fun h => by simp [State.steer, h]
@[simp] theorem State.powerRequest_canon (s : State) (v : Nat) : KeepsCanon s (s.powerRequest v) := .of fun h => by simp [State.powerRequest, h]
@[simp] theorem State.wakeRequest_canon (s : State) (ign : Bool) : KeepsCanon s (s.wakeRequest ign) := .of fun h => by simp [State.wakeRequest, h]

@[simp] theorem State.pwrreqWrite_canon (s : State) (a : Agent) (v : W32) : KeepsCanon s (s.pwrreqWrite a v) := by
  refine .of fun h => ?_
  simp [State.pwrreqWrite, h]

@[simp] theorem execPwrreqTarget_canon (agent : Agent) (value : W32) (s : State) (h : s.canon) : CanonOut (execPwrreqTarget agent value s) := by
  simp +contextual [execPwrreqTarget, h]

@[simp] theorem execPwrreqGo_canon (agent : Agent) (value : W32) (s : State) (h : s.canon) : CanonOut (execPwrreqGo agent value s) := by
  simp +contextual [execPwrreqGo, h]

@[simp] theorem execIgnitionRise_canon (s : State) (h : s.canon) : CanonOut (execIgnitionRise s) := by simp [execIgnitionRise, h]

@[simp] theorem execIgnitionOffTimeout_canon (since : Nat) (s : State) (h : s.canon) : CanonOut (execIgnitionOffTimeout since s) := by
  simp [execIgnitionOffTimeout, h]

@[simp] theorem execWake_canon (src : Nat) (s : State) (h : s.canon) : CanonOut (execWake src s) := by simp [execWake, h]

@[simp] theorem execWakeTimerExpiry_canon (s : State) (h : s.canon) : CanonOut (execWakeTimerExpiry s) := by
  unfold execWakeTimerExpiry
  split <;> simp [h]

@[simp] theorem execWakeInputEdge_canon (n : Nat) (rising : Bool) (s : State) (h : s.canon) : CanonOut (execWakeInputEdge n rising s) := by
  simp [execWakeInputEdge, h]

@[simp] theorem execSelectiveWake_canon (c : Nat) (id : Option Nat) (s : State) (h : s.canon) : CanonOut (execSelectiveWake c id s) := by
  unfold execSelectiveWake
  split <;> simp [h]

@[simp] theorem execSleepHold_canon (s : State) (h : s.canon) : CanonOut (execSleepHold s) := by simp [execSleepHold, h]

@[simp] theorem execKeepawake_canon (c : Nat) (s : State) (h : s.canon) : CanonOut (execKeepawake c s) := by
  unfold execKeepawake
  split <;> simp [h]

@[simp] theorem execSleepHoldExpiry_canon (s : State) (h : s.canon) : CanonOut (execSleepHoldExpiry s) := by simp [execSleepHoldExpiry, h]
@[simp] theorem execSleepWaitExpiry_canon (s : State) (h : s.canon) : CanonOut (execSleepWaitExpiry s) := by simp [execSleepWaitExpiry, h]
@[simp] theorem execLateWake_canon (c : Nat) (s : State) (h : s.canon) : CanonOut (execLateWake c s) := by simp [execLateWake, h]
@[simp] theorem State.railsFall_canon (s : State) : KeepsCanon s s.railsFall := .of fun h => by simp +contextual [State.railsFall, h]

@[simp] theorem execSupplyFailure_canon (mv : Nat) (saveOk : Bool) (s : State) (h : s.canon) : CanonOut (execSupplyFailure mv saveOk s) := by
  simp [execSupplyFailure, h]

@[simp] theorem execSupplyReturn_canon (mv : Nat) (s : State) (h : s.canon) : CanonOut (execSupplyReturn mv s) := by
  simp +contextual [execSupplyReturn, h]

@[simp] theorem State.canopyCut_canon (s : State) : KeepsCanon s s.canopyCut := .of fun h => by simp [State.canopyCut, h]

@[simp] theorem State.moduleReset_canon (s : State) (cause : Nat) (q : SeqIn) : KeepsCanon s (s.moduleReset cause q) := by
  refine .of fun h => ?_
  simp +contextual [State.moduleReset, h]

@[simp] theorem State.canopyRestart_canon (s : State) (cause : Nat) (q : SeqIn) : KeepsCanon s (s.canopyRestart cause q) := by
  refine .of fun h => ?_
  simp [State.canopyRestart, h]

@[simp] theorem State.rstcmdWrite_canon (s : State) (v : W32) (q : SeqIn) : KeepsCanon s (s.rstcmdWrite v q) := by
  refine .of fun h => ?_
  unfold State.rstcmdWrite
  (repeat' split) <;> simp [h]

@[simp] theorem execModuleReset_canon (agent : Agent) (value : W32) (q : SeqIn) (s : State) (h : s.canon) :
    CanonOut (execModuleReset agent value q s) := by
  simp +contextual [execModuleReset, h]

@[simp] theorem execCanopyRestart_canon (agent : Agent) (value : W32) (q : SeqIn) (s : State) (h : s.canon) :
    CanonOut (execCanopyRestart agent value q s) := by
  simp +contextual [execCanopyRestart, h]

@[simp] theorem execResetButton_canon (released : Bool) (q : SeqIn) (s : State) (h : s.canon) : CanonOut (execResetButton released q s) := by
  simp [execResetButton, h]

@[simp] theorem execThermalShed_canon (s : State) (h : s.canon) : CanonOut (execThermalShed s) := by simp [execThermalShed, h]

@[simp] theorem execThermalReturn_canon (s : State) (h : s.canon) : CanonOut (execThermalReturn s) := by
  unfold execThermalReturn
  split <;> simp [h]

@[simp] theorem execThermalCut_canon (sensor : Option Nat) (q : SeqIn) (s : State) (h : s.canon) : CanonOut (execThermalCut sensor q s) := by
  unfold execThermalCut
  dsimp only
  (repeat' split) <;> simp [h]

@[simp] theorem execDeferredFstableWrite_canon (failed : List Nat) (s : State) (h : s.canon) : CanonOut (execDeferredFstableWrite failed s) := by
  simp [execDeferredFstableWrite, h]

/-! #### Health -/

@[simp] theorem execNoDaleRestart_canon (q : SeqIn) (s : State) (h : s.canon) : CanonOut (execNoDaleRestart q s) := by
  unfold execNoDaleRestart
  split <;> simp [h]

/-! #### Register accesses by address -/

@[simp] theorem State.regAct_canon (s : State) (a : Agent) (blk off : Nat) (v : W32) : KeepsCanon s (s.regAct a blk off v) := by
  refine .of fun h => ?_
  unfold State.regAct
  (repeat' split) <;> simp +contextual [h]

@[simp] theorem State.regEffect_canon (s : State) (a : Agent) (blk off : Nat) (v : W32) : KeepsCanon s (s.regEffect a blk off v) := by
  refine .of fun h => ?_
  simp [State.regEffect, h]

@[simp] theorem State.writeReg_canon (s : State) (a : Agent) (blk off : Nat) (v : W32) : KeepsCanon s (s.writeReg a blk off v) := by
  refine .of fun h => ?_
  simp +contextual [State.writeReg, h]

@[simp] theorem State.writeAt_canon (s : State) (a : Agent) (addr size value : Nat) : KeepsCanon s (s.writeAt a addr size value) := by
  refine .of fun h => ?_
  unfold State.writeAt
  split <;> simp [h]

@[simp] theorem execRegisterWrite_canon (agent : Agent) (addr size value : Nat) (s : State) (h : s.canon) :
    CanonOut (execRegisterWrite agent addr size value s) := by
  simp [execRegisterWrite, h]

@[simp] theorem execSnapshot_canon (agent : Agent) (block : Nat) (value : W32) (s : State) (h : s.canon) :
    CanonOut (execSnapshot agent block value s) := by
  unfold execSnapshot
  split <;> simp +contextual [h]

@[simp] theorem State.serviceWrites_canon (s : State) (addr k : Nat) (b : Bytes) (n : Nat) : KeepsCanon s (s.serviceWrites addr k b n).1 := by
  induction n generalizing s addr k b with
  | zero => exact .refl _
  | succ n ih =>
    refine .of fun h => ?_
    unfold State.serviceWrites
    dsimp only
    split <;> simp [ih, h]

@[simp] theorem State.service_canon (s : State) (f : EthFrame) (op : Nat) : KeepsCanon s (s.service f op) := by
  refine .of fun h => ?_
  unfold State.service
  (repeat' split) <;> simp [h]

@[simp] theorem execServiceRead_canon (f : EthFrame) (s : State) (h : s.canon) : CanonOut (execServiceRead f s) := by simp [execServiceRead, h]
@[simp] theorem execServiceWrite_canon (f : EthFrame) (s : State) (h : s.canon) : CanonOut (execServiceWrite f s) := by simp [execServiceWrite, h]

/-! #### Backup cell -/

@[simp] theorem execCellMeasure_canon (mv : Nat) (dq : Int) (saveOk : Bool) (s : State) (h : s.canon) :
    CanonOut (execCellMeasure mv dq saveOk s) := by
  simp [execCellMeasure, h]

@[simp] theorem execRootPowerOn_canon (s : State) (h : s.canon) : CanonOut (execRootPowerOn s) := by simp [execRootPowerOn, h]

/-! ### Every step -/

@[simp] theorem State.tick_canon (s : State) : KeepsCanon s s.tick := .of fun h => by simp [State.tick, h]

/-- Every command completes in a canonical state where it finds one. -/
theorem exec_canon (c : Instr) {s : State} (h : s.canon) : CanonOut (exec c s) := by
  cases c <;> simp [exec, h]

/-- Settles O6: a step is the command in front, or a tick of time, and each keeps the canonical forms. -/
theorem canonicalFormsKept : Obligations.CanonicalFormsKept := by
  intro s t hmem hregs ht
  cases hp : s.pending with
  | nil =>
    rw [step_nil s hp] at ht
    cases ht
    exact s.tick_canon.apply ⟨hmem, hregs⟩
  | cons c rest =>
    rw [step_cons c rest s hp] at ht
    obtain ⟨u, hu, hcanon⟩ := exec_canon c (s := { s with pending := rest }) ⟨hmem, hregs⟩
    cases hu.symm.trans ht
    exact hcanon

end Sys2Proof.Machine
end

section
/-! SUPPORT. A line of the Bed bridge whose arrival starts the next step of a forecast record. -/

namespace Sys2Proof.Machine

/-- A forecast record whose header is on its way: its tray line is the next step. -/
def forecastUnderWay : FcRun :=
  { fseq := 0, tf := 0, slot := 0, flags := 0, gseq := 0, head := List.replicate 64 0, trays := List.replicate 64 0, ptr := [],
    addr := bedStoreBase, base := bedStoreBase, prof := [], steps := 3, us := 0, step := 1, left := 1 }

/-- The header line of that record, the one line in the inbound queue. -/
def forecastHeaderLine : BridgeLine := ⟨bedStoreBase, List.replicate 64 0, false, false, .forecast⟩

/-- The whole module is powered, and the bridge holds only the header line of the record under way. -/
def headerInBridge : State :=
  { State.reset with
    bedOn := true, canopyOn := true, bridge := { inbound := [forecastHeaderLine] }, prod := { fc := some forecastUnderWay } }

/-- When the header has landed, Prairie hands the bridge the record's tray line (R205). -/
theorem headerInBridge_drain : ∃ t, exec .bridgeDrain headerInBridge = .next t ∧
    t.bridge.inbound = [⟨bedStoreBase + 64, List.replicate 64 0, false, false, .forecast⟩] :=
  ⟨_, rfl, by decide⟩

/-- Refutes O11: BRIDGE_DRAIN of a forecast record's header line hands the bridge the record's next lines (R205), so that the inbound queue is
then not the queue without its oldest line. -/
theorem not_gorgeAndBridgeCommandsComplete : ¬ Obligations.GorgeAndBridgeCommandsComplete := by
  intro h
  obtain ⟨-, -, -, -, -, -, -, hdrain⟩ := h
  obtain ⟨t, ht, hin, -⟩ := hdrain headerInBridge forecastHeaderLine [] rfl rfl
  obtain ⟨u, hu, hline⟩ := headerInBridge_drain
  cases ht.symm.trans hu
  exact absurd (hin.symm.trans hline) (List.cons_ne_nil _ _).symm

end Sys2Proof.Machine
end

section
/-! SUPPORT. A line of the Bed bridge whose arrival publishes a frame that a running capture takes. -/

namespace Sys2Proof.Machine

/-- After reset every ring is the one entry at address 0. -/
theorem State.reset_inRings {a : Nat} (h : State.reset.inRings a) : a < 64 := by
  have hcfg : ∀ i : Fin 112, getBits (regReset State.reset.code State.reset.hwrev (Reg.RNG_QnCFG i)) 24 20 = 0 := by decide
  have hbase : ∀ i : Fin 112, getBits (regReset State.reset.code State.reset.hwrev (Reg.RNG_QnBASE i)) 29 0 = 0 := by decide
  obtain ⟨q, -, hq⟩ := h
  have hc := hcfg ⟨q % 112, Nat.mod_lt _ (by decide)⟩
  have hb := hbase ⟨q % 112, Nat.mod_lt _ (by decide)⟩
  simp only [Reg.RNG_QnCFG, Reg.RNG_QnBASE, Nat.mod_mod] at hc hb
  simpa [State.ringAddr, State.ringSize, State.rd, State.reset_reg, F.RNG_QnCFG_LOG2N, F.RNG_QnBASE_BASE, Reg.RNG_QnCFG,
    Reg.RNG_QnBASE, hc, hb] using hq

/-- A running capture of stream 96 (R136), whose next frame goes to the second MiB of the Bed store. -/
def captureUnderWay : Capture :=
  { q := 8, stream := 96, dest := bedStoreBase + 0x100000, count := 10, trays := 0, frames := 0, first := none, since := 0,
    d := { idx := 0, op := 1, cpl := true, irq := false, fence := false, tmode := 0, eflags := 0, tag := 0, deadline := 0, payload := [],
           running := true, started := 0, late := 0, poison := false, cq := 9 } }

/-- An analyser frame of that stream, of which only the header word is listed here. -/
def frameUnderWay : Flight := ⟨([], [], false), List.replicate 8 1⟩

/-- The line that brings the frame's header word to its buffer and completes it (R117, R134). -/
def frameHeadLine : BridgeLine := ⟨bedStoreBase, List.replicate 8 1, false, false, .analyser 96⟩

/-- The whole module is powered, the capture runs, and the bridge holds only the frame's last line. -/
def frameInBridge : State :=
  { State.reset with
    bedOn := true, canopyOn := true, bridge := { inbound := [frameHeadLine] },
    ing := { streams := [(96, { flight := [frameUnderWay] })], captures := [captureUnderWay] } }

/-- When the line has landed, the capture writes the frame to its own place (R136). -/
theorem frameInBridge_drain : ∃ t, exec .bridgeDrain frameInBridge = .next t ∧ t.mem.read captureUnderWay.dest = 1 :=
  ⟨_, rfl, by decide⟩

/-- Refutes O55: BRIDGE_DRAIN of an analyser frame's last line publishes the frame, and a running capture then writes it to its own place in the
Bed store (R117, R136), outside the line's address and the rings. -/
theorem not_fabricTimeAndRingFrames : ¬ Obligations.FabricTimeAndRingFrames := by
  intro h
  obtain ⟨-, -, -, -, -, -, -, -, -, hdrain, -⟩ := h
  obtain ⟨t, ht, hread⟩ := frameInBridge_drain
  obtain ⟨-, -, hmem⟩ := hdrain _ _ ht
  obtain ⟨-, -, -, hrings⟩ := resetIsSound
  have hout : ¬ frameInBridge.inRings captureUnderWay.dest := fun hin => absurd (State.reset_inRings hin) (by decide)
  have hkept := hmem frameHeadLine rfl rfl hrings captureUnderWay.dest hout (by decide)
  exact absurd (hread.symm.trans hkept) (by decide)

end Sys2Proof.Machine
end

section
/-! SUPPORT. What an event leaves unchanged (R546-R556): recording it changes the recorder, the interrupts and the registers of block EVR, and
nothing else. -/

namespace Sys2Proof.Machine

/-! ### Reading fields -/

/-- A field reads the same where its register does. -/
theorem State.rd_congr {s t : State} {f : Fld} (h : t.reg f.addr = s.reg f.addr) : t.rd f = s.rd f := by
  unfold State.rd
  rw [h]

/-- A field is below the power of its width. -/
theorem getBits_lt (w : W32) (hi lo : Nat) : getBits w hi lo < 2 ^ (hi + 1 - lo) := Nat.mod_lt _ (by positivity)

/-- A field set to what the same field of another word reads. -/
theorem getBits_setBits_copy {hi lo : Nat} (h : hi < 32) (w v : W32) : getBits (setBits w hi lo (getBits v hi lo)) hi lo = getBits v hi lo := by
  rw [getBits_setBits_same h, Nat.mod_eq_of_lt (getBits_lt v hi lo)]

/-- A field written with a value it has room for reads that value. -/
theorem State.rd_wr_fits (s : State) {f : Fld} {v : Nat} (h : f.hi < 32) (hv : v < 2 ^ (f.hi + 1 - f.lo)) : (s.wr f v).rd f = v := by
  rw [s.rd_wr_same f v h, Nat.mod_eq_of_lt hv]

/-- A field set saturating reads the value, or its largest where it has no room for the value. -/
theorem State.rd_wrSat_same (s : State) (f : Fld) (v : Nat) (h : f.hi < 32) : (s.wrSat f v).rd f = min v (maxOf f.width) := by
  refine s.rd_wr_fits h (lt_of_le_of_lt (Nat.min_le_right _ _) ?_)
  exact Nat.sub_lt (by positivity) one_pos

/-- The carrying Dale is what HLT_ROLE says. -/
theorem State.destOf_congr {s t : State} (h : t.reg Reg.HLT_ROLE = s.reg Reg.HLT_ROLE) (d : Nat) : t.destOf d = s.destOf d := by
  unfold State.destOf State.carryDest State.carrier
  rw [show t.rd F.HLT_ROLE_CARRY = s.rd F.HLT_ROLE_CARRY from State.rd_congr h]

/-! ### Loops over an array of registers -/

/-- A loop that reaches `n` ends with what the round of `n` brings about and the other rounds keep. -/
theorem foldl_brings {α : Type} {P : State → Prop} {f : State → α → State} {l : List α} {n : α} (hn : n ∈ l) (hset : ∀ x, P (f x n))
    (hkeep : ∀ x m, m ∈ l → m ≠ n → P x → P (f x m)) (s : State) : P (l.foldl f s) := by
  obtain ⟨l₁, l₂, rfl⟩ := List.append_of_mem hn
  rw [List.foldl_append, List.foldl_cons]
  refine List.foldlRecOn l₂ f (hset _) fun x hx m hm => ?_
  by_cases h : m = n
  · exact h ▸ hset x
  · exact hkeep x m (by simp [hm]) h hx

/-! ### Status flags -/

/-- The interrupt of a status bit changes no register. -/
@[simp] theorem State.notify_reg (s : State) (stat ie : Fld) (k : Nat) : (s.notify stat ie).reg k = s.reg k := by
  unfold State.notify
  split <;> rfl

/-- A status bit set, with its interrupt, changes its own register only. -/
theorem State.flag_reg (s : State) {stat ie : Fld} {k : Nat} (h : k ≠ stat.addr) : (s.flag stat ie).reg k = s.reg k := by
  rw [State.flag, State.notify_reg, s.reg_wr_other 1 h]

theorem State.flagRise_reg (s : State) {stat ie : Fld} {k : Nat} (h : k ≠ stat.addr) : (s.flagRise stat ie).reg k = s.reg k := by
  unfold State.flagRise
  split
  · rfl
  · exact s.flag_reg h

/-! ### The event recorder -/

/-- `t` differs from `s` at most in the recorder, in the interrupts and in the registers of block EVR. -/
def State.RecordsTo (s t : State) : Prop :=
  (∃ regs irqs evr, t = { s with regs := regs, irqs := irqs, evr := evr }) ∧ ∀ k, k / 0x1000 ≠ 4 → t.reg k = s.reg k

namespace State.RecordsTo

theorem refl (s : State) : s.RecordsTo s := ⟨⟨s.regs, s.irqs, s.evr, rfl⟩, fun _ _ => rfl⟩

theorem trans {s t u : State} (h : s.RecordsTo t) (h' : t.RecordsTo u) : s.RecordsTo u := by
  obtain ⟨⟨r, i, e, rfl⟩, hreg⟩ := h
  obtain ⟨⟨r', i', e', rfl⟩, hreg'⟩ := h'
  exact ⟨⟨r', i', e', rfl⟩, fun k hk => (hreg' k hk).trans (hreg k hk)⟩

theorem evr (s : State) (e : Evr) : s.RecordsTo { s with evr := e } := ⟨⟨s.regs, s.irqs, e, rfl⟩, fun _ _ => rfl⟩

theorem wr (s : State) {f : Fld} (v : Nat) (h : f.addr / 0x1000 = 4) : s.RecordsTo (s.wr f v) :=
  ⟨⟨_, s.irqs, s.evr, rfl⟩, fun _ hk => s.reg_wr_other v fun e => hk (e ▸ h)⟩

theorem notify (s : State) (stat ie : Fld) : s.RecordsTo (s.notify stat ie) := by
  unfold State.notify
  split
  · exact ⟨⟨s.regs, _, s.evr, rfl⟩, fun _ _ => rfl⟩
  · exact refl s

theorem flag (s : State) {stat : Fld} (ie : Fld) (h : stat.addr / 0x1000 = 4) : s.RecordsTo (s.flag stat ie) :=
  (wr s 1 h).trans (notify _ stat ie)

theorem evrQueueRegs (s : State) : s.RecordsTo s.evrQueueRegs := (wr s _ rfl).trans (wr _ _ rfl)

theorem evrDrop (s : State) : s.RecordsTo s.evrDrop := (wr s _ rfl).trans (flag _ _ rfl)

theorem evrFillRegs (s : State) : s.RecordsTo s.evrFillRegs := (wr s _ rfl).trans (wr _ _ rfl)

theorem enqueue (s : State) (r : Rec) : s.RecordsTo (s.enqueue r).1 := by
  unfold State.enqueue
  split
  · exact (evr s _).trans (evrQueueRegs _)
  · split
    · split
      · exact ((evr s _).trans (evrQueueRegs _)).trans (evrDrop _)
      · exact evrDrop s
    · exact evrDrop s

theorem refillDue (s : State) (sev : Nat) : s.RecordsTo (s.refillDue sev) := by
  unfold State.refillDue
  dsimp only
  split
  · exact (evr s _).trans (evr _ _)
  · exact refl s

theorem takeBucket (s : State) (code sev : Nat) : s.RecordsTo (s.takeBucket code sev).1 := by
  have hdue : s.RecordsTo (if s.bedOn then s.refillDue sev else s) := by
    split
    · exact refillDue s sev
    · exact refl s
  unfold State.takeBucket
  generalize (if s.bedOn then s.refillDue sev else s) = t at hdue
  dsimp only
  split
  · exact hdue
  · split
    · exact ((hdue.trans (evr t _)).trans (wr _ _ rfl)).trans (flag _ _ rfl)
    · exact hdue.trans (evr t _)

theorem appendRec (s : State) (keep : List (Nat × Rec)) (r : Rec) : s.RecordsTo (s.appendRec keep r) :=
  ((evr s _).trans (evr _ _)).trans (evrFillRegs _)

theorem storeRec (s : State) (r : Rec) : s.RecordsTo (s.storeRec r) := by
  unfold State.storeRec
  split
  · exact appendRec s _ r
  · split
    · exact appendRec s _ r
    · exact (wr s _ rfl).trans (flag _ _ rfl)

theorem record (s : State) (src ev sev p0 p1 p2 : Nat) : s.RecordsTo (s.record src ev sev p0 p1 p2) := by
  unfold State.record
  dsimp only
  split
  · exact enqueue s _
  · split
    · exact (takeBucket s _ _).trans (storeRec _ _)
    · exact takeBucket s _ _

theorem tim {s t : State} (h : s.RecordsTo t) : t.tim = s.tim := by
  obtain ⟨⟨_, _, _, rfl⟩, -⟩ := h
  rfl

theorem wide {s t : State} (h : s.RecordsTo t) : t.wide = s.wide := by
  obtain ⟨⟨_, _, _, rfl⟩, -⟩ := h
  rfl

end State.RecordsTo

/-- A record leaves every register outside block EVR alone. -/
theorem State.record_reg (s : State) (src ev sev p0 p1 p2 : Nat) {k : Nat} (h : k / 0x1000 ≠ 4) :
    (s.record src ev sev p0 p1 p2).reg k = s.reg k := (State.RecordsTo.record s src ev sev p0 p1 p2).2 k h

theorem State.record_rd (s : State) (src ev sev p0 p1 p2 : Nat) {f : Fld} (h : f.addr / 0x1000 ≠ 4) :
    (s.record src ev sev p0 p1 p2).rd f = s.rd f := State.rd_congr (s.record_reg src ev sev p0 p1 p2 h)

@[simp] theorem State.record_tim (s : State) (src ev sev p0 p1 p2 : Nat) : (s.record src ev sev p0 p1 p2).tim = s.tim :=
  (State.RecordsTo.record s src ev sev p0 p1 p2).tim

@[simp] theorem State.record_wide (s : State) (src ev sev p0 p1 p2 : Nat) : (s.record src ev sev p0 p1 p2).wide = s.wide :=
  (State.RecordsTo.record s src ev sev p0 p1 p2).wide

end Sys2Proof.Machine
end

section
/-! SUPPORT. The monitors (R38-R46): what a round of gauges, sensors and voltage monitors leaves in their registers. -/

namespace Sys2Proof.Machine

/-! ### What the judging of the monitors leaves alone -/

/-- Recording the start or the end of a breach touches no register outside block EVR. -/
theorem State.breachEdge_reg (s : State) (was is : Bool) {k : Nat} (h : k / 0x1000 ≠ 4) : (s.breachEdge was is).reg k = s.reg k := by
  unfold State.breachEdge
  split
  · rw [State.record_reg _ _ _ _ _ _ _ h, State.notify_reg]
  · split
    · exact s.record_reg _ _ _ _ _ _ h
    · rfl

/-- Judging the domains for a breach touches HLT_MONSTAT only. -/
theorem State.judgeBreach_reg (s : State) {k : Nat} (hm : k ≠ Reg.HLT_MONSTAT) (h : k / 0x1000 ≠ 4) : s.judgeBreach.reg k = s.reg k := by
  unfold State.judgeBreach
  dsimp only
  rw [State.breachEdge_reg _ _ _ h, State.breachEdge_reg _ _ _ h]
  exact s.reg_wr_other _ hm

/-- The registers of the lowest pace are HLT_PACEBED and HLT_PACEMIN. -/
theorem State.paceRegs_reg (s : State) {k : Nat} (hb : k ≠ Reg.HLT_PACEBED) (hm : k ≠ Reg.HLT_PACEMIN) : s.paceRegs.reg k = s.reg k := by
  have hbed : (match s.lowestPace (s.goodGauges false) with
      | some (n, p) => (s.wr F.HLT_PACEBED_IDX n).wr F.HLT_PACEBED_PACE p
      | none => s).reg k = s.reg k := by
    split
    · rw [State.reg_wr_other _ _ hb, State.reg_wr_other _ _ hb]
    · rfl
  unfold State.paceRegs
  dsimp only
  split
  · rw [State.reg_wr_other _ _ hm, State.reg_wr_other _ _ hm]
    exact hbed
  · exact hbed

/-- A crossing of a temperature limit touches the status register only. -/
theorem State.crossing_reg (s : State) (was is : Bool) {stat ie : Fld} (ev sev : Nat) {k : Nat} (hs : k ≠ stat.addr) (h : k / 0x1000 ≠ 4) :
    (s.crossing was is stat ie ev sev).reg k = s.reg k := by
  unfold State.crossing
  split
  · rfl
  · dsimp only
    split
    · rw [State.record_reg _ _ _ _ _ _ _ h, s.flag_reg hs]
    · exact s.flag_reg hs

/-- What the junction temperature means for shedding stands in block SYS. -/
theorem State.shedWatch_reg (s : State) (j warn : Int) (was is : Bool) {k : Nat} (h : k / 0x1000 ≠ 0) :
    (s.shedWatch j warn was is).reg k = s.reg k := by
  have hshed : k ≠ F.SYS_SHED_SHST.addr := fun e => h (e ▸ rfl)
  have hstat : k ≠ F.SYS_STAT_SHED.addr := fun e => h (e ▸ rfl)
  unfold State.shedWatch
  extract_lets cool hot pwr t
  have ht : t.reg k = s.reg k := rfl
  clear_value t
  split
  · rw [State.flag_reg _ hstat, State.reg_wr_other _ _ hshed]
    exact ht
  · split
    · rw [State.reg_wr_other _ _ hshed, ht]
    · exact ht

/-- What the main input means for the supply stands in block SYS. -/
theorem State.supplyReading_reg (s : State) (r : Option Nat) {k : Nat} (h : k / 0x1000 ≠ 0) : (s.supplyReading r).reg k = s.reg k := by
  have hmv : k ≠ F.SYS_SUPPLY_MV.addr := fun e => h (e ▸ rfl)
  have hsysv : k ≠ F.SYS_SUPPLY_SYSV.addr := fun e => h (e ▸ rfl)
  cases r with
  | none => rfl
  | some v =>
    unfold State.supplyReading
    dsimp only
    split
    · rw [State.reg_wr_other _ _ hsysv, State.wrSat, State.reg_wr_other _ _ hmv]
      rfl
    · rw [State.wrSat, State.reg_wr_other _ _ hmv]
      rfl

/-! ### Pace gauges (R38, R41) -/

/-- Gauge `n` reads `v` and VALID. -/
def State.gaugeShows (s : State) (n v : Nat) : Prop := s.rd (F.HLT_PACEn_VALID n) = 1 ∧ s.rd (F.HLT_PACEn_PACE n) = v

/-- A gauge shows what its register shows. -/
theorem State.gaugeShows_congr {s t : State} {n v : Nat} (h : t.reg (Reg.HLT_PACEn n) = s.reg (Reg.HLT_PACEn n)) :
    t.gaugeShows n v ↔ s.gaugeShows n v := by
  unfold State.gaugeShows
  rw [show t.rd (F.HLT_PACEn_VALID n) = s.rd (F.HLT_PACEn_VALID n) from State.rd_congr h,
    show t.rd (F.HLT_PACEn_PACE n) = s.rd (F.HLT_PACEn_PACE n) from State.rd_congr h]

/-- A gauge excluded, be it another or the same, still shows its reading. -/
theorem State.gaugeShows_excludeGauge {s : State} {n v : Nat} (m : Nat) (h : s.gaugeShows n v) : (s.excludeGauge m).gaugeShows n v := by
  have hblk : Reg.HLT_PACEn n / 0x1000 ≠ 4 := by unfold Reg.HLT_PACEn; omega
  have hstat : Reg.HLT_PACEn n ≠ Reg.HLT_MONSTAT := by unfold Reg.HLT_PACEn Reg.HLT_MONSTAT; omega
  have hexcl : (s.excludeGauge m).reg (Reg.HLT_PACEn n) = (s.wr (F.HLT_PACEn_EXCL m) 1).reg (Reg.HLT_PACEn n) := by
    rw [State.excludeGauge, State.record_reg _ _ _ _ _ _ _ hblk, State.flag_reg _ hstat]
  obtain ⟨hvalid, hpace⟩ := h
  refine (State.gaugeShows_congr hexcl).mpr ⟨?_, ?_⟩
  · rw [s.rd_wr_beside _ (by decide : 30 < 32) (by decide : 31 < 32) (by decide : 30 < 31 ∨ 31 < 30), hvalid]
  · rw [s.rd_wr_beside _ (by decide : 30 < 32) (by decide : 15 < 32) (by decide : 30 < 0 ∨ 15 < 30), hpace]

/-- The gauges of both domains are 0 to 31 (R38). -/
theorem lt_of_mem_gaugesOf {canopy : Bool} {m : Nat} (h : m ∈ gaugesOf canopy) : m < 32 := by
  cases canopy <;> simp [gaugesOf] at h <;> omega

/-- The registers of two gauges are two registers. -/
theorem Reg.pace_ne {m n : Nat} (hm : m < 32) (hn : n < 32) (h : m ≠ n) : Reg.HLT_PACEn n ≠ Reg.HLT_PACEn m := by
  unfold Reg.HLT_PACEn
  omega

/-- A measurement of gauge `m` leaves what gauge `n` shows. -/
theorem State.gaugeShows_measured {s : State} {m n v r : Nat} {on : Bool} (hne : Reg.HLT_PACEn n ≠ Reg.HLT_PACEn m) (h : s.gaugeShows n v) :
    (if on then (s.wr (F.HLT_PACEn_VALID m) 1).wrSat (F.HLT_PACEn_PACE m) r else s.wr (F.HLT_PACEn_VALID m) 0).gaugeShows n v := by
  refine (State.gaugeShows_congr ?_).mpr h
  split
  · rw [State.wrSat, State.reg_wr_other _ _ hne, State.reg_wr_other _ _ hne]
  · exact s.reg_wr_other _ hne

/-- The judging of a domain's gauges, by range and against the median, leaves what they show. -/
theorem State.gaugeShows_judged {s : State} {n v : Nat} (l : List Nat) (p : Nat → Prop) [DecidablePred p] (h : s.gaugeShows n v) :
    (l.foldl (fun x m => if p m then x.excludeGauge m else x) s).gaugeShows n v := by
  refine List.foldlRecOn (motive := fun x : State => x.gaugeShows n v) l _ h fun x hx m _ => ?_
  split
  · exact State.gaugeShows_excludeGauge m hx
  · exact hx

/-- A gauge of a powered domain shows its reading after a measurement of the domain. -/
theorem State.gaugeShows_measureDomain (s : State) {canopy : Bool} (readings : List Nat) {n : Nat}
    (hon : (if canopy then s.canopyOn else s.bedOn) = true) (hn : n ∈ gaugesOf canopy) :
    (s.measureDomain canopy readings).gaugeShows n (min (readings.getD n 0) 0xFFFF) := by
  unfold State.measureDomain
  refine State.gaugeShows_judged _ _ (State.gaugeShows_judged _ _ (foldl_brings
    (P := fun x => x.gaugeShows n (min (readings.getD n 0) 0xFFFF)) hn (fun x => ?_) (fun x m hm hne hx => ?_) s))
  · rw [if_pos hon]
    constructor
    · rw [State.wrSat, State.rd_wr_beside _ _ (by decide : 15 < 32) (by decide : 31 < 32) (by decide : 15 < 31 ∨ 31 < 0)]
      exact x.rd_wr_same _ _ (by decide : 31 < 32)
    · exact State.rd_wrSat_same _ _ _ (by decide : 15 < 32)
  · exact State.gaugeShows_measured (Reg.pace_ne (lt_of_mem_gaugesOf hm) (lt_of_mem_gaugesOf hn) hne) hx

/-- A measurement of a domain leaves what the gauges of the other show. -/
theorem State.gaugeShows_measureDomain_other {s : State} {canopy : Bool} (readings : List Nat) {n v : Nat} (hn : n < 32)
    (hout : n ∉ gaugesOf canopy) (h : s.gaugeShows n v) : (s.measureDomain canopy readings).gaugeShows n v := by
  unfold State.measureDomain
  refine State.gaugeShows_judged _ _ (State.gaugeShows_judged _ _ (List.foldlRecOn (motive := fun x : State => x.gaugeShows n v) _ _ h
    fun x hx m hm => ?_))
  exact State.gaugeShows_measured (Reg.pace_ne (lt_of_mem_gaugesOf hm) hn fun e => hout (e ▸ hm)) hx

/-- The pace registers and a breach leave what a gauge shows. -/
theorem State.gaugeShows_paceJudged {s : State} {n v : Nat} (h : s.gaugeShows n v) : s.paceRegs.judgeBreach.gaugeShows n v := by
  have hlo : 0x3480 ≤ Reg.HLT_PACEn n := Nat.le_add_right _ _
  have hhi : Reg.HLT_PACEn n < 0x3500 := by unfold Reg.HLT_PACEn; omega
  refine (State.gaugeShows_congr ?_).mpr h
  rw [State.judgeBreach_reg _ (by unfold Reg.HLT_MONSTAT; omega) (by omega),
    State.paceRegs_reg _ (by unfold Reg.HLT_PACEBED; omega) (by unfold Reg.HLT_PACEMIN; omega)]

/-! ### The Bed rail (R42) -/

/-- The rule of R42 for a domain with at least two gauges left. -/
theorem State.nextRail_of_lowest {s : State} {canopy : Bool} {n p : Nat} (v : Nat) (hgood : 2 ≤ (s.goodGauges canopy).length)
    (hlow : s.lowestPace (s.goodGauges canopy) = some (n, p)) :
    s.nextRail canopy v = if p < 0x360 ∧ v < 800 then v + 5 else if 0x3C0 < p ∧ 700 < v then v - 5 else v := by
  rw [State.nextRail, if_neg (by omega), hlow]

/-- A step of a rail stays inside the field of HLT_VCORE. -/
theorem State.nextRail_lt {s : State} {canopy : Bool} {n p v : Nat} (hgood : 2 ≤ (s.goodGauges canopy).length)
    (hlow : s.lowestPace (s.goodGauges canopy) = some (n, p)) (hv : v < 2 ^ 16) : s.nextRail canopy v < 2 ^ 16 := by
  rw [State.nextRail_of_lowest v hgood hlow]
  split
  · omega
  · split <;> omega

/-- Which gauges count, and what they read, stands in the registers and not in the instant of the last regulation. -/
theorem State.goodGauges_withTim (s : State) (x : Timing) (canopy : Bool) :
    ({ s with tim := x } : State).goodGauges canopy = s.goodGauges canopy := rfl

theorem State.lowestPace_withTim (s : State) (x : Timing) (l : List Nat) : ({ s with tim := x } : State).lowestPace l = s.lowestPace l := rfl

/-- A test of a value that may be missing, which then passes. -/
theorem match_eq_all (o : Option Nat) (q : Nat → Bool) : (match o with | some a => q a | none => true) = o.all q := by
  cases o <;> rfl

/-- The Bed rail stays as set while the Canopy rail is set and the domains are judged for a breach. -/
theorem State.rd_bedRail {s : State} {v : Nat} (w : Nat) (h : s.rd F.HLT_VCORE_BED = v) :
    (if s.canopyOn then s.wr F.HLT_VCORE_CANOPY w else s).judgeBreach.rd F.HLT_VCORE_BED = v := by
  rw [State.rd_congr (State.judgeBreach_reg _ (by decide) (by decide))]
  split
  · rw [State.rd_wr_beside _ _ (by decide) (by decide) (by decide), h]
  · exact h

/-- RAIL_REGULATION a millisecond after the last one sets the Bed rail by its rule. -/
theorem execRailRegulation_bed {s : State} {n p : Nat} (hbed : s.bedOn = true)
    (hdue : s.tim.lastRail.all (fun a => decide (a + 1000000 ≤ s.now)) = true) (hgood : 2 ≤ (s.goodGauges false).length)
    (hlow : s.lowestPace (s.goodGauges false) = some (n, p)) :
    Completes .railRegulation s (fun t => t.rd F.HLT_VCORE_BED =
      if p < 0x360 ∧ s.rd F.HLT_VCORE_BED < 800 then s.rd F.HLT_VCORE_BED + 5
      else if 0x3C0 < p ∧ 700 < s.rd F.HLT_VCORE_BED then s.rd F.HLT_VCORE_BED - 5 else s.rd F.HLT_VCORE_BED) := by
  refine ⟨_, congrArg Host.Outcome.next (if_pos ⟨hbed, (match_eq_all _ _).trans hdue⟩), State.rd_bedRail _ ?_⟩
  have hgood' : 2 ≤ (({ s with tim := { s.tim with lastRail := some s.now } } : State).goodGauges false).length := by
    rwa [s.goodGauges_withTim]
  have hlow' := (s.lowestPace_withTim { s.tim with lastRail := some s.now } (s.goodGauges false)).trans hlow
  rw [← s.goodGauges_withTim { s.tim with lastRail := some s.now }] at hlow'
  exact (State.rd_wr_fits _ (by decide) (State.nextRail_lt hgood' hlow' (getBits_lt (s.reg Reg.HLT_VCORE) 31 16))).trans
    (State.nextRail_of_lowest _ hgood' hlow')

/-! ### Temperature sensors (R44) -/

/-- Sensor `n` shows the reading `r`: its value and VALID, or VALID 0 where there is none. -/
def State.sensorShows (s : State) (n : Nat) (r : Option Int) : Prop :=
  match r with
  | some v => s.rd (F.HLT_TEMPn_VALID n) = 1 ∧ s.rd (F.HLT_TEMPn_TEMP n) = toPattern 16 v
  | none => s.rd (F.HLT_TEMPn_VALID n) = 0

/-- One sensor's reading as TEMP_SENSOR_UPDATE takes it in. -/
def State.tempReading (s : State) (n : Nat) (r : Option Int) : State :=
  match r with
  | some v => (s.wr (F.HLT_TEMPn_VALID n) 1).wr (F.HLT_TEMPn_TEMP n) (toPattern 16 v)
  | none => s.wr (F.HLT_TEMPn_VALID n) 0

/-- A pattern of `n` bits is below 2^n. -/
theorem toPattern_lt (n : Nat) (x : Int) : toPattern n x < 2 ^ n := by
  have hpos : (0 : Int) < (2 ^ n : Nat) := by positivity
  have h0 := Int.emod_nonneg x hpos.ne'
  have h1 := Int.emod_lt_of_pos x hpos
  unfold toPattern
  omega

theorem State.sensorShows_iff {s : State} {n : Nat} {r : Option Int} : s.sensorShows n r ↔
    if r.isSome = true then s.rd (F.HLT_TEMPn_VALID n) = 1 ∧ s.rd (F.HLT_TEMPn_TEMP n) = toPattern 16 (r.getD 0)
    else s.rd (F.HLT_TEMPn_VALID n) = 0 := by
  cases r <;> simp [State.sensorShows]

theorem State.sensorShows_congr {s t : State} {n : Nat} {r : Option Int} (h : t.reg (Reg.HLT_TEMPn n) = s.reg (Reg.HLT_TEMPn n)) :
    t.sensorShows n r ↔ s.sensorShows n r := by
  unfold State.sensorShows
  rw [show t.rd (F.HLT_TEMPn_VALID n) = s.rd (F.HLT_TEMPn_VALID n) from State.rd_congr h,
    show t.rd (F.HLT_TEMPn_TEMP n) = s.rd (F.HLT_TEMPn_TEMP n) from State.rd_congr h]

theorem State.tempReading_shows (s : State) (n : Nat) (r : Option Int) : (s.tempReading n r).sensorShows n r := by
  cases r with
  | none => exact s.rd_wr_same _ _ (by decide : 31 < 32)
  | some v =>
    constructor
    · refine (State.rd_wr_beside _ _ (by decide : 15 < 32) (by decide : 31 < 32) (by decide : 15 < 31 ∨ 31 < 0)).trans ?_
      exact s.rd_wr_same _ _ (by decide : 31 < 32)
    · exact State.rd_wr_fits _ (by decide : 15 < 32) (toPattern_lt 16 v)

theorem State.tempReading_reg (s : State) {n : Nat} (r : Option Int) {k : Nat} (h : k ≠ Reg.HLT_TEMPn n) :
    (s.tempReading n r).reg k = s.reg k := by
  cases r with
  | none => exact s.reg_wr_other _ h
  | some v => exact (State.reg_wr_other _ _ h).trans (s.reg_wr_other _ h)

/-- A round of all sensors leaves each with its reading. -/
theorem State.tempReadings_show (s : State) (temps : List (Option Int)) {n : Nat} (hn : n < 24) :
    ((List.range 24).foldl (fun x m => x.tempReading m (temps.getD m none)) s).sensorShows n (temps.getD n none) := by
  refine foldl_brings (P := fun x => x.sensorShows n (temps.getD n none)) (List.mem_range.mpr hn) ?_ ?_ s
  · exact fun x => x.tempReading_shows n _
  intro x m hm hne hx
  have hm := List.mem_range.mp hm
  exact (State.sensorShows_congr (x.tempReading_reg _ (by unfold Reg.HLT_TEMPn; omega))).mpr hx

/-- TEMP_SENSOR_UPDATE leaves every sensor with its reading: the junction limits and the shedding touch other registers. -/
theorem execTempSensorUpdate_shows {s : State} (temps : List (Option Int)) {n : Nat} (hbed : s.bedOn = true) (hn : n < 24) :
    Completes (.tempSensorUpdate temps) s (fun t => t.sensorShows n (temps.getD n none)) := by
  refine ⟨_, rfl, ?_⟩
  have hlo : 0x3500 ≤ Reg.HLT_TEMPn n := Nat.le_add_right _ _
  have hhi : Reg.HLT_TEMPn n < 0x3580 := by unfold Reg.HLT_TEMPn; omega
  have hstat : Reg.HLT_TEMPn n ≠ Reg.HLT_MONSTAT := by unfold Reg.HLT_MONSTAT; omega
  have hevr : Reg.HLT_TEMPn n / 0x1000 ≠ 4 := by omega
  rw [if_pos hbed]
  extract_lets t
  have hround : t.sensorShows n (temps.getD n none) := s.tempReadings_show temps hn
  clear_value t
  split
  · refine (State.sensorShows_congr ?_).mpr hround
    rw [State.shedWatch_reg _ _ _ _ _ (by omega), State.crossing_reg _ _ _ _ _ hstat hevr, State.crossing_reg _ _ _ _ _ hstat hevr]
    rfl
  · exact hround

/-! ### Voltage monitors (R46) -/

/-- Monitor `n` shows the reading `r`: its value, VALID, and OUT where it lies outside the window; or VALID 0 where there is none. -/
def State.monitorShows (s : State) (n : Nat) (r : Option Nat) : Prop :=
  match r with
  | some v => s.rd (F.HLT_VMONn_VALID n) = 1 ∧ s.rd (F.HLT_VMONn_MV n) = min v 0xFFFF ∧
      s.rd (F.HLT_VMONn_OUT n) = if v < (voltWindow n).1 ∨ (voltWindow n).2 < v then 1 else 0
  | none => s.rd (F.HLT_VMONn_VALID n) = 0

theorem State.monitorShows_iff {s : State} {n : Nat} {r : Option Nat} : s.monitorShows n r ↔
    if r.isSome = true then s.rd (F.HLT_VMONn_VALID n) = 1 ∧ s.rd (F.HLT_VMONn_MV n) = min (r.getD 0) 0xFFFF ∧
      s.rd (F.HLT_VMONn_OUT n) = (if r.getD 0 < (voltWindow n).1 ∨ (voltWindow n).2 < r.getD 0 then 1 else 0)
    else s.rd (F.HLT_VMONn_VALID n) = 0 := by
  cases r <;> simp [State.monitorShows]

theorem State.monitorShows_congr {s t : State} {n : Nat} {r : Option Nat} (h : t.reg (Reg.HLT_VMONn n) = s.reg (Reg.HLT_VMONn n)) :
    t.monitorShows n r ↔ s.monitorShows n r := by
  unfold State.monitorShows
  rw [show t.rd (F.HLT_VMONn_VALID n) = s.rd (F.HLT_VMONn_VALID n) from State.rd_congr h,
    show t.rd (F.HLT_VMONn_MV n) = s.rd (F.HLT_VMONn_MV n) from State.rd_congr h,
    show t.rd (F.HLT_VMONn_OUT n) = s.rd (F.HLT_VMONn_OUT n) from State.rd_congr h]

/-- The three fields of a monitor as a reading `v` sets them. -/
def State.voltFields (s : State) (n v : Nat) : State :=
  ((s.wr (F.HLT_VMONn_VALID n) 1).wrSat (F.HLT_VMONn_MV n) v).wrB (F.HLT_VMONn_OUT n)
    (decide (v < (voltWindow n).1) || decide ((voltWindow n).2 < v))

theorem State.voltFields_shows (s : State) (n v : Nat) : (s.voltFields n v).monitorShows n (some v) := by
  refine ⟨?_, ?_, ?_⟩
  · refine (State.rd_wr_beside _ _ (by decide : 30 < 32) (by decide : 31 < 32) (by decide : 30 < 31 ∨ 31 < 30)).trans ?_
    refine (State.rd_wr_beside _ _ (by decide : 15 < 32) (by decide : 31 < 32) (by decide : 15 < 31 ∨ 31 < 0)).trans ?_
    exact s.rd_wr_same _ _ (by decide : 31 < 32)
  · refine (State.rd_wr_beside _ _ (by decide : 30 < 32) (by decide : 15 < 32) (by decide : 30 < 0 ∨ 15 < 30)).trans ?_
    exact State.rd_wrSat_same _ _ _ (by decide : 15 < 32)
  · refine (State.rd_wr_fits _ (by decide : 30 < 32) ?_).trans ?_
    · show _ < 2
      split <;> omega
    · simp

theorem State.voltFields_reg (s : State) {n : Nat} (v : Nat) {k : Nat} (h : k ≠ Reg.HLT_VMONn n) : (s.voltFields n v).reg k = s.reg k := by
  rw [State.voltFields, State.wrB, State.reg_wr_other _ _ h, State.wrSat, State.reg_wr_other _ _ h, State.reg_wr_other _ _ h]

/-- Beside the fields of its monitor a reading touches HLT_MONSTAT only. -/
theorem State.voltReading_some_reg (s : State) (n v : Nat) {k : Nat} (hs : k ≠ Reg.HLT_MONSTAT) (h : k / 0x1000 ≠ 4) :
    (s.voltReading n (some v)).reg k = (s.voltFields n v).reg k := by
  unfold State.voltReading
  dsimp only
  split
  · split
    · exact State.flagRise_reg _ hs
    · rw [State.record_reg _ _ _ _ _ _ _ h]
      exact State.flagRise_reg _ hs
  · rfl

/-- The voltage monitors' registers are neither HLT_MONSTAT nor in block EVR. -/
theorem Reg.vmon_apart (n : Nat) : Reg.HLT_VMONn n ≠ Reg.HLT_MONSTAT ∧ Reg.HLT_VMONn n / 0x1000 = 3 := by
  unfold Reg.HLT_VMONn Reg.HLT_MONSTAT
  omega

theorem State.voltReading_shows (s : State) (n : Nat) (r : Option Nat) : (s.voltReading n r).monitorShows n r := by
  obtain ⟨hstat, hblk⟩ := Reg.vmon_apart n
  cases r with
  | none => exact s.rd_wr_same _ _ (by decide : 31 < 32)
  | some v => exact (State.monitorShows_congr (s.voltReading_some_reg n v hstat (by omega))).mpr (s.voltFields_shows n v)

theorem State.voltReading_reg (s : State) {n : Nat} (r : Option Nat) {k : Nat} (hn : k ≠ Reg.HLT_VMONn n) (hs : k ≠ Reg.HLT_MONSTAT)
    (h : k / 0x1000 ≠ 4) : (s.voltReading n r).reg k = s.reg k := by
  cases r with
  | none => exact s.reg_wr_other _ hn
  | some v => rw [s.voltReading_some_reg n v hs h, s.voltFields_reg v hn]

/-- A round of all voltage monitors leaves each with its reading. -/
theorem State.voltReadings_show (s : State) (mv : List (Option Nat)) {n : Nat} (hn : n < 8) :
    ((List.range 8).foldl (fun x m => x.voltReading m (mv.getD m none)) s).monitorShows n (mv.getD n none) := by
  obtain ⟨hstat, hblk⟩ := Reg.vmon_apart n
  refine foldl_brings (P := fun x => x.monitorShows n (mv.getD n none)) (List.mem_range.mpr hn) ?_ ?_ s
  · exact fun x => x.voltReading_shows n _
  intro x m hm hne hx
  have hm := List.mem_range.mp hm
  exact (State.monitorShows_congr (x.voltReading_reg _ (by unfold Reg.HLT_VMONn; omega) hstat (by omega))).mpr hx

/-! ### The commands -/

/-- Settles O12: what the gauges, the sensors and the monitors show stands in their own registers, which the judging that follows leaves alone,
and the Bed rail moves by its rule. -/
theorem monitorCommandsComplete : Obligations.MonitorCommandsComplete := by
  refine ⟨fun s readings n hbed hn => ?_, fun s n p hbed hdue hgood hlow => ?_, fun s temps n hbed hn => ?_, fun s mv n hbed hn => ?_⟩
  · refine ⟨_, rfl, ?_⟩
    rw [if_pos hbed]
    refine State.gaugeShows_paceJudged (State.gaugeShows_measureDomain_other readings (by omega) ?_
      (s.gaugeShows_measureDomain readings hbed (List.mem_range.mpr hn)))
    simp only [gaugesOf, if_true, List.mem_map, not_exists, not_and]
    omega
  · obtain ⟨t, ht, hrail⟩ := execRailRegulation_bed hbed hdue hgood hlow
    refine ⟨t, ht, fun hp hv => ?_, fun hp hv => ?_, fun hlo hhi => ?_⟩
    · rw [hrail, if_pos ⟨hp, hv⟩]
    · rw [hrail, if_neg (by omega), if_pos ⟨hp, hv⟩]
    · rw [hrail, if_neg (by omega), if_neg (by omega)]
  · obtain ⟨t, ht, hshows⟩ := execTempSensorUpdate_shows temps hbed hn
    exact ⟨t, ht, State.sensorShows_iff.mp hshows⟩
  · refine ⟨_, rfl, ?_⟩
    rw [if_pos hbed]
    obtain ⟨-, hblk⟩ := Reg.vmon_apart n
    have hsupply := State.supplyReading_reg ((List.range 8).foldl (fun x m => x.voltReading m (mv.getD m none)) s) (mv.getD 0 none)
      (k := Reg.HLT_VMONn n) (by omega)
    exact State.monitorShows_iff.mp ((State.monitorShows_congr hsupply).mpr (s.voltReadings_show mv hn))

end Sys2Proof.Machine
end

section
/-! SUPPORT. Sundial (R51-R58): what its discipline and its alarms change, and what they leave alone. -/

namespace Sys2Proof.Machine

/-! ### Interrupts -/

@[simp] theorem State.irq_rd (s : State) (d : Dest) (src : IrqSrc) (f : Fld) : (s.irq d src).rd f = s.rd f := rfl
@[simp] theorem State.irqScare_rd (s : State) (src : IrqSrc) (f : Fld) : (s.irqScare src).rd f = s.rd f := rfl

/-! ### Changes of SDL_STAT (R55, R59) -/

/-- A change of SDL_STAT adds at most the interrupts of IE_STAT to what it does. -/
theorem State.sdlChange_eq (s : State) (k : State → State) : s.sdlChange k = { k s with irqs := (s.sdlChange k).irqs } := by
  unfold State.sdlChange
  dsimp only
  split <;> rfl

@[simp] theorem State.sdlChange_reg (s : State) (k : State → State) (key : Nat) : (s.sdlChange k).reg key = (k s).reg key := by
  rw [s.sdlChange_eq k]
  rfl

@[simp] theorem State.sdlChange_rd (s : State) (k : State → State) (f : Fld) : (s.sdlChange k).rd f = (k s).rd f :=
  State.rd_congr (s.sdlChange_reg k f.addr)

@[simp] theorem State.sdlChange_tim (s : State) (k : State → State) : (s.sdlChange k).tim = (k s).tim := by rw [s.sdlChange_eq k]
@[simp] theorem State.sdlChange_wide (s : State) (k : State → State) : (s.sdlChange k).wide = (k s).wide := by rw [s.sdlChange_eq k]
@[simp] theorem State.sdlChange_resp (s : State) (k : State → State) : (s.sdlChange k).resp = (k s).resp := by rw [s.sdlChange_eq k]

/-! ### The servo and the discipline states (R50, R55) -/

/-- The trim stands in SDL_TRIM alone. -/
theorem State.setTrim_rd (s : State) (v : Int) {f : Fld} (h : f.addr ≠ Reg.SDL_TRIM) : (s.setTrim v).rd f = s.rd f := s.rd_wr_other _ h

@[simp] theorem State.setTrim_tim (s : State) (v : Int) : (s.setTrim v).tim = s.tim := rfl
@[simp] theorem State.setTrim_wide (s : State) (v : Int) : (s.setTrim v).wide = s.wide := rfl

/-- The servo adjusts SDL_TRIM alone. -/
theorem State.servo_rd (s : State) {f : Fld} (h : f.addr ≠ Reg.SDL_TRIM) : s.servo.rd f = s.rd f := by
  unfold State.servo
  split
  · rfl
  · exact s.setTrim_rd _ h

@[simp] theorem State.servo_tim (s : State) : s.servo.tim = s.tim := by
  unfold State.servo
  split <;> rfl

theorem State.servo_lastMark (s : State) : s.servo.tim.lastMark = s.tim.lastMark := by rw [s.servo_tim]

@[simp] theorem State.servo_wide (s : State) : s.servo.wide = s.wide := by
  unfold State.servo
  split <;> rfl

/-- The state entered is the one SDL_STAT shows. -/
theorem State.sdlEnter_state (s : State) {n : Nat} (h : n < 8) : (s.sdlEnter n).rd F.SDL_STAT_STATE = n := s.rd_wr_fits (by decide) h

/-- Entering a state touches SDL_STAT alone. -/
theorem State.sdlEnter_rd (s : State) (n : Nat) {f : Fld} (h : f.addr ≠ Reg.SDL_STAT) : (s.sdlEnter n).rd f = s.rd f := s.rd_wr_other n h

/-- Entering a state restarts the counts of marks and no other timing. -/
@[simp] theorem State.sdlEnter_tim (s : State) (n : Nat) : (s.sdlEnter n).tim = { s.tim with goodMarks := 0, badMarks := 0 } := rfl
@[simp] theorem State.sdlEnter_wide (s : State) (n : Nat) : (s.sdlEnter n).wide = s.wide := rfl

/-- Whatever state it is taken in, a mark leaves the instant of the last mark as it has been set. -/
theorem State.sdlMark_lastMark (s : State) (e : Int) : (s.sdlMark e).tim.lastMark = s.tim.lastMark := by
  unfold State.sdlMark
  split
  · simp
  · extract_lets good x t
    have ht : t.tim.lastMark = s.tim.lastMark := (State.servo_lastMark _).trans rfl
    clear_value t
    split <;> exact ht
  · extract_lets bad x t
    have ht : t.tim.lastMark = s.tim.lastMark := (State.servo_lastMark _).trans rfl
    clear_value t
    split
    · rw [State.record_tim]
      exact ht
    · exact ht
  · simp

/-- Whatever state it is taken in, a mark leaves the wide counters as they have been set. -/
theorem State.sdlMark_wide (s : State) (e : Int) : (s.sdlMark e).wide = s.wide := by
  unfold State.sdlMark
  split
  · simp
  · extract_lets good x t
    have ht : t.wide = s.wide := State.servo_wide _
    clear_value t
    split <;> exact ht
  · extract_lets bad x t
    have ht : t.wide = s.wide := State.servo_wide _
    clear_value t
    split
    · rw [State.record_wide]
      exact ht
    · exact ht
  · simp

/-- A mark in FREE enters ACQUIRE. -/
theorem State.sdlMark_of_free {s : State} (e : Int) (h : s.rd F.SDL_STAT_STATE = 0) : (s.sdlMark e).rd F.SDL_STAT_STATE = 1 := by
  have hmark : s.sdlMark e = ((s.setTrim s.tim.savedTrim).sdlEnter 1).servo := by
    unfold State.sdlMark
    rw [h]
    rfl
  rw [hmark, State.servo_rd _ (by decide), State.sdlEnter_state _ (by decide)]

/-- The selected reference's mark: SDL_GNSSOFF, the instant of the mark, and ACQUIRE where Sundial was FREE. -/
theorem State.refMark_of_selected {s : State} {source : Nat} (stamp gps : Nat) (e : Int) (hbed : s.bedOn = true) (hsrc : source ≠ 0)
    (hmode : s.rd F.SDL_CTL_MODE = source) :
    (s.refMark source stamp gps e).tim.lastMark = s.now ∧
      (s.refMark source stamp gps e).wideGet Reg.SDL_GNSSOFF_LO = toPattern 64 ((gps : Int) - stamp) ∧
      (s.rd F.SDL_STAT_STATE = 0 → (s.refMark source stamp gps e).rd F.SDL_STAT_STATE = 1) := by
  rw [State.refMark, if_pos ⟨hbed, hsrc, hmode⟩]
  refine ⟨?_, ?_, fun hfree => ?_⟩
  · rw [State.sdlChange_tim, State.sdlMark_lastMark]
    rfl
  · rw [State.wideGet, State.sdlChange_wide, State.sdlMark_wide]
    exact SMap.get_set_same _ _ _ _
  · have hset := (s.wideSet Reg.SDL_GNSSOFF_LO (toPattern 64 ((gps : Int) - stamp))).rd_wr_other (f := F.SDL_RATEERR_ERR)
      (g := F.SDL_STAT_STATE) (toPattern 32 e) (by decide)
    rw [State.sdlChange_rd]
    exact State.sdlMark_of_free e (hset.trans hfree)

/-- The loop running open shows TCXOLOSS (R57). -/
theorem State.tcxoLost_shows (s : State) : s.tcxoLost.rd F.SDL_STAT_TCXOLOSS = 1 := by
  unfold State.tcxoLost
  split
  · next h => exact of_decide_eq_true h
  · rw [State.record_rd _ _ _ _ _ _ _ (by decide), State.irqScare_rd, State.sdlChange_rd, State.rd_wr_same _ _ _ (by decide)]
    rfl

/-- The loss of the TCXO leaves DRIFT as it is. -/
theorem State.tcxoLost_drift (s : State) : s.tcxoLost.rd F.SDL_STAT_DRIFT = s.rd F.SDL_STAT_DRIFT := by
  unfold State.tcxoLost
  split
  · rfl
  · rw [State.record_rd _ _ _ _ _ _ _ (by decide), State.irqScare_rd, State.sdlChange_rd,
      State.rd_wr_beside _ _ (by decide) (by decide) (by decide)]

/-! ### Interrupts of the core timers (R53) -/

theorem mem_insertNat_self (k : Nat) (l : List Nat) : k ∈ insertNat k l := by
  induction l with
  | nil => simp [insertNat]
  | cons j r ih =>
    unfold insertNat
    split
    · simp
    · split
      · next h => simp [h]
      · simp [ih]

/-! ### Writes of SDL registers (R10, R80) -/

/-- A write under the access codes changes its register and the pending parity mismatches alone. -/
theorem State.applyWrite_eq (s : State) (key : Nat) (v : W32) :
    s.applyWrite key v = { s with regs := (s.applyWrite key v).regs, badParity := (s.applyWrite key v).badParity } := by
  unfold State.applyWrite
  split <;> rfl

@[simp] theorem State.applyWrite_tim (s : State) (key : Nat) (v : W32) : (s.applyWrite key v).tim = s.tim := by rw [s.applyWrite_eq key v]
@[simp] theorem State.applyWrite_now (s : State) (key : Nat) (v : W32) : (s.applyWrite key v).now = s.now := by rw [s.applyWrite_eq key v]
@[simp] theorem State.applyWrite_irqs (s : State) (key : Nat) (v : W32) : (s.applyWrite key v).irqs = s.irqs := by rw [s.applyWrite_eq key v]
@[simp] theorem State.applyWrite_resp (s : State) (key : Nat) (v : W32) : (s.applyWrite key v).resp = s.resp := by rw [s.applyWrite_eq key v]

/-- A register written reads the word its access codes give. -/
theorem State.applyWrite_reg_same (s : State) {key : Nat} {d : RegDesc} (v : W32) (hd : findReg (key / 0x1000) (key % 0x1000) = some d) :
    (s.applyWrite key v).reg key = d.written (s.reg key) v := by
  unfold State.applyWrite
  rw [hd]
  exact s.reg_setReg_same key _

/-- A write leaves every other register alone. -/
theorem State.applyWrite_reg_other (s : State) {key k : Nat} (v : W32) (h : k ≠ key) : (s.applyWrite key v).reg k = s.reg k := by
  unfold State.applyWrite
  split
  · exact s.reg_setReg_other _ h
  · rfl

/-- The description of SDL_CTL. -/
def sdlCtlDesc : RegDesc := ⟨0x0, [], [.mkAny .rwp 3 3 0x1, ⟨1, 0, .rwp, .rng 0 2, 0x1, none⟩]⟩

theorem findReg_sdlCtl : findReg (Reg.SDL_CTL / 0x1000) (Reg.SDL_CTL % 0x1000) = some sdlCtlDesc := by decide

/-- A write of SDL_CTL sets MODE. -/
theorem State.applyWrite_mode (s : State) (v : W32) : (s.applyWrite Reg.SDL_CTL v).rd F.SDL_CTL_MODE = getBits v 1 0 := by
  unfold State.rd
  rw [show F.SDL_CTL_MODE.addr = Reg.SDL_CTL from rfl, s.applyWrite_reg_same v findReg_sdlCtl]
  exact getBits_setBits_copy (by decide) _ v

/-- The description of the SDL_ALMnCTL registers. -/
def sdlAlarmCtlDesc : RegDesc := ⟨0x108, [(0x10, 16)], [⟨7, 4, .rwp, .rng 0 3, 0x0, none⟩, .mkAny .rw 0 0 0x0]⟩

theorem findReg_sdlAlarmCtl (n : Nat) : findReg (Reg.SDL_ALMnCTL n / 0x1000) (Reg.SDL_ALMnCTL n % 0x1000) = some sdlAlarmCtlDesc := by
  have h : ∀ i : Fin 16, findReg ((0x1108 + 0x10 * i.val) / 0x1000) ((0x1108 + 0x10 * i.val) % 0x1000) = some sdlAlarmCtlDesc := by decide
  exact h ⟨n % 16, Nat.mod_lt _ (by decide)⟩

/-- A write of SDL_ALMnCTL sets ARM. -/
theorem State.applyWrite_arm (s : State) (n : Nat) (v : W32) :
    (s.applyWrite (Reg.SDL_ALMnCTL n) v).rd (F.SDL_ALMnCTL_ARM n) = getBits v 0 0 := by
  unfold State.rd
  rw [show (F.SDL_ALMnCTL_ARM n).addr = Reg.SDL_ALMnCTL n from rfl, s.applyWrite_reg_same v (findReg_sdlAlarmCtl n)]
  exact getBits_setBits_copy (by decide) _ v

/-! ### Alarms (R58) -/

/-- Alarm `n` has fired: ARM is cleared, and its interrupt went where HLT_ROLE and its destination say. -/
theorem State.alarmFires_effect (s : State) (n dest late : Nat) :
    (s.alarmFires n dest late).rd (F.SDL_ALMnCTL_ARM n) = 0 ∧
      (s.alarmFires n dest late).irqs = s.irqs ++ [⟨s.destOf dest, .alarm n⟩] ∧ (s.alarmFires n dest late).resp = s.resp := by
  refine ⟨?_, rfl, rfl⟩
  have hlate : (F.SDL_ALMnCTL_ARM n).addr ≠ (F.SDL_ALMnLATE_LATE n).addr := by
    change Reg.SDL_ALMnCTL n ≠ Reg.SDL_ALMnLATE n
    unfold Reg.SDL_ALMnCTL Reg.SDL_ALMnLATE
    omega
  rw [State.alarmFires, State.irq_rd, State.wrSat, State.rd_wr_other _ _ hlate]
  exact s.rd_wr_same _ _ (by decide : 0 < 32)

/-- Alarm `n` written with its time and destination latched. -/
def State.alarmLatched (s : State) (n : Nat) (v : W32) : State :=
  { s.applyWrite (Reg.SDL_ALMnCTL n) v with
    tim := { s.tim with alarms := SMap.set (fun _ => (0, 0)) s.tim.alarms n (s.alarmTime n, getBits v 7 4) } }

theorem State.alarmLatched_resp (s : State) (n : Nat) (v : W32) : (s.alarmLatched n v).resp = s.resp := s.applyWrite_resp _ v
theorem State.alarmLatched_irqs (s : State) (n : Nat) (v : W32) : (s.alarmLatched n v).irqs = s.irqs := s.applyWrite_irqs _ v

theorem State.alarmLatched_destOf (s : State) (n : Nat) (v : W32) (d : Nat) : (s.alarmLatched n v).destOf d = s.destOf d := by
  have hrole : Reg.HLT_ROLE ≠ Reg.SDL_ALMnCTL n := by
    unfold Reg.HLT_ROLE Reg.SDL_ALMnCTL
    omega
  exact State.destOf_congr (s.applyWrite_reg_other v hrole) d

/-- A write of SDL_ALMnCTL leaves the times the alarm registers hold. -/
theorem State.applyWrite_alarmTime (s : State) (n : Nat) (v : W32) : (s.applyWrite (Reg.SDL_ALMnCTL n) v).alarmTime n = s.alarmTime n := by
  unfold State.alarmTime
  rw [s.applyWrite_reg_other v (by unfold Reg.SDL_ALMn_HI Reg.SDL_ALMnCTL; omega),
    s.applyWrite_reg_other v (by unfold Reg.SDL_ALMn_LO Reg.SDL_ALMnCTL; omega)]

/-- A write of ARM = 1 with listed encodings latches time and destination, and fires at once where the time has passed. -/
theorem State.alarmCtlWrite_of_arm (s : State) (n : Nat) {v : W32} (hv : listedAt (Reg.SDL_ALMnCTL n) v = true) (harm : getBits v 0 0 = 1) :
    s.alarmCtlWrite n v = if s.alarmTime n ≤ s.now then (s.alarmLatched n v).alarmFires n (getBits v 7 4) (s.now - s.alarmTime n)
      else s.alarmLatched n v := by
  rw [State.alarmCtlWrite, if_neg (by simp [hv]), State.alarmLatched]
  dsimp only
  rw [if_pos harm, s.applyWrite_alarmTime, s.applyWrite_now, s.applyWrite_tim]

/-- An accepted write of ARM = 1: the alarm is armed where its time lies ahead, and has fired where it has passed. -/
theorem State.alarmCtlWrite_arm (s : State) (n : Nat) {v : W32} (hv : listedAt (Reg.SDL_ALMnCTL n) v = true) (harm : getBits v 0 0 = 1) :
    (s.alarmCtlWrite n v).resp = s.resp ∧
      if s.now < s.alarmTime n then
        SMap.get (fun _ => (0, 0)) (s.alarmCtlWrite n v).tim.alarms n = (s.alarmTime n, getBits v 7 4) ∧
          (s.alarmCtlWrite n v).rd (F.SDL_ALMnCTL_ARM n) = 1
      else (s.alarmCtlWrite n v).irqs = s.irqs ++ [⟨s.destOf (getBits v 7 4), .alarm n⟩] ∧
        (s.alarmCtlWrite n v).rd (F.SDL_ALMnCTL_ARM n) = 0 := by
  rw [s.alarmCtlWrite_of_arm n hv harm]
  by_cases h : s.now < s.alarmTime n
  · rw [if_neg (by omega), if_pos h]
    exact ⟨s.alarmLatched_resp n v, SMap.get_set_same _ _ _ _, (s.applyWrite_arm n v).trans harm⟩
  · obtain ⟨hoff, hirq, hresp⟩ := (s.alarmLatched n v).alarmFires_effect n (getBits v 7 4) (s.now - s.alarmTime n)
    rw [if_pos (by omega), if_neg h, hirq, hresp, s.alarmLatched_irqs, s.alarmLatched_destOf]
    exact ⟨s.alarmLatched_resp n v, rfl, hoff⟩

/-- An accepted write of ARM = 0 disarms the alarm and raises nothing. -/
theorem State.alarmCtlWrite_disarm (s : State) (n : Nat) {v : W32} (hv : listedAt (Reg.SDL_ALMnCTL n) v = true) (harm : getBits v 0 0 = 0) :
    (s.alarmCtlWrite n v).resp = s.resp ∧ (s.alarmCtlWrite n v).rd (F.SDL_ALMnCTL_ARM n) = 0 ∧ (s.alarmCtlWrite n v).irqs = s.irqs := by
  rw [State.alarmCtlWrite, if_neg (by simp [hv])]
  dsimp only
  rw [if_neg (by omega)]
  exact ⟨s.applyWrite_resp _ v, (s.applyWrite_arm n v).trans harm, s.applyWrite_irqs _ v⟩

/-! ### The commands -/

/-- A mark overdue by 3 s moves ACQUIRE to FREE and LOCKED to HOLDOVER, and changes nothing in the other states. -/
theorem execMarkTimeout_state {s : State} (hbed : s.bedOn = true) (hdue : s.tim.lastMark + 3000000000 ≤ s.now) :
    Completes .markTimeout s (fun t => (s.rd F.SDL_STAT_STATE = 1 → t.rd F.SDL_STAT_STATE = 0) ∧
      (s.rd F.SDL_STAT_STATE = 2 → t.rd F.SDL_STAT_STATE = 3) ∧
      (s.rd F.SDL_STAT_STATE ≠ 1 → s.rd F.SDL_STAT_STATE ≠ 2 → t = s)) := by
  refine ⟨_, congrArg Host.Outcome.next (if_pos ⟨hbed, hdue⟩), ?_⟩
  split
  · next h =>
    refine ⟨fun _ => ?_, by omega, by omega⟩
    rw [State.sdlChange_rd, State.sdlEnter_state _ (by decide)]
  · next h =>
    refine ⟨by omega, fun _ => ?_, by omega⟩
    rw [State.sdlChange_rd, State.record_rd _ _ _ _ _ _ _ (by decide), State.sdlEnter_state _ (by decide)]
  · next h1 h2 => exact ⟨fun h => absurd h h1, fun h => absurd h h2, fun _ _ => rfl⟩

/-- A write of SDL_CTL that changes MODE enters FREE (R55). -/
theorem State.sdlCtlWrite_mode (s : State) {v : W32} (hv : listedAt Reg.SDL_CTL v = true) (hmode : getBits v 1 0 ≠ s.rd F.SDL_CTL_MODE) :
    (s.sdlCtlWrite v).resp = s.resp ∧ (s.sdlCtlWrite v).rd F.SDL_CTL_MODE = getBits v 1 0 ∧ (s.sdlCtlWrite v).rd F.SDL_STAT_STATE = 0 := by
  have hset := s.applyWrite_mode v
  unfold State.sdlCtlWrite
  rw [State.plainWrite, if_pos hv]
  dsimp only
  rw [if_neg (by rwa [hset])]
  refine ⟨?_, ?_, ?_⟩
  · rw [State.sdlChange_resp]
    exact s.applyWrite_resp _ v
  · rw [State.sdlChange_rd, State.sdlEnter_rd _ _ (by decide), State.setTrim_rd _ _ (by decide), hset]
  · rw [State.sdlChange_rd, State.sdlEnter_state _ (by decide)]

/-- The check against the Root oscillator, once DRIFT stands, leaves it (R56). -/
theorem execDriftCheck_drift {s : State} {trim : Int} (diff : Int) (flt : Bool) (hbed : s.bedOn = true) (htrim : 20000000 < trim.natAbs) :
    Completes (.driftCheck trim diff flt) s (fun t => t.rd F.SDL_STAT_DRIFT = 1) := by
  have hset : ((s.sdlChange (fun x => x.wr F.SDL_STAT_DRIFT 1)).record 0x01 0x42 sevWarning 0 0 0).rd F.SDL_STAT_DRIFT = 1 := by
    rw [State.record_rd _ _ _ _ _ _ _ (by decide), State.sdlChange_rd, State.rd_wr_same _ _ _ (by decide)]
    rfl
  refine ⟨_, congrArg Host.Outcome.next (if_pos hbed), ?_⟩
  rw [if_pos htrim]
  generalize (s.sdlChange (fun x => x.wr F.SDL_STAT_DRIFT 1)).record 0x01 0x42 sevWarning 0 0 0 = u at hset
  dsimp only
  split
  · exact hset
  · split
    · split
      · rw [State.sdlChange_rd, State.rd_wr_beside _ _ (by decide) (by decide) (by decide), hset]
      · rw [State.tcxoLost_drift, hset]
    · rw [State.record_rd _ _ _ _ _ _ _ (by decide), State.sdlChange_rd, State.rd_wr_beside _ _ (by decide) (by decide) (by decide),
        State.rd_wr_same _ _ _ (by decide)]
      rfl

/-- The return of the TCXO clears TCXOLOSS (R57). -/
theorem execTcxoReturn_clears {s : State} (hbed : s.bedOn = true) : Completes .tcxoReturn s (fun t => t.rd F.SDL_STAT_TCXOLOSS = 0) := by
  by_cases h : s.on F.SDL_STAT_TCXOLOSS = true
  · refine ⟨_, congrArg Host.Outcome.next (if_pos ⟨hbed, h⟩), ?_⟩
    beta_reduce
    rw [State.record_rd _ _ _ _ _ _ _ (by decide), State.sdlChange_rd, State.rd_wr_same _ _ _ (by decide)]
    rfl
  · refine ⟨s, congrArg Host.Outcome.next (if_neg fun hc => h hc.2), ?_⟩
    have hlt : s.rd F.SDL_STAT_TCXOLOSS < 2 := getBits_lt _ _ _
    have hne : s.rd F.SDL_STAT_TCXOLOSS ≠ 1 := fun e => h (decide_eq_true e)
    omega

/-- Settles O13: each command's effect, by the lemma of the operation it carries out. -/
theorem sundialCommandsComplete : Obligations.SundialCommandsComplete := by
  refine ⟨fun s hbed => ?_, fun s core cmp hcan hcore hcmp => ?_, fun s core cmp hcan hcore hcmp => ?_,
    fun s source stamp gps e hbed hsrc hmode => ⟨_, rfl, State.refMark_of_selected stamp gps e hbed hsrc hmode⟩,
    fun s hbed hdue => execMarkTimeout_state hbed hdue, fun s a v hacc hv hmode => ?_,
    fun s trim diff flt hbed htrim => execDriftCheck_drift diff flt hbed htrim,
    fun s hbed => ⟨_, congrArg Host.Outcome.next (if_pos hbed), s.tcxoLost_shows⟩, fun s hbed => execTcxoReturn_clears hbed,
    fun s a n v hn hacc hv => ?_, fun s a n v hn hacc hv => ?_, fun s n hbed hn harm hdue => ?_⟩
  · exact ⟨_, congrArg Host.Outcome.next (if_pos hbed), SMap.get_set_same _ _ _ _, rfl, rfl⟩
  · refine ⟨_, congrArg Host.Outcome.next (if_pos ⟨hcan, hcore⟩), ?_⟩
    rw [State.setCompare, if_pos hcmp]
    exact ⟨rfl, rfl, rfl⟩
  · refine ⟨_, congrArg Host.Outcome.next (if_pos ⟨hcan, hcore⟩), ?_⟩
    rw [State.setCompare, if_neg (by omega)]
    exact ⟨SMap.get_set_same _ _ _ _, List.contains_iff_mem.mpr (mem_insertNat_self _ _), rfl⟩
  · exact ⟨_, congrArg Host.Outcome.next (State.gate_accepts _ hacc), s.done.sdlCtlWrite_mode hv hmode⟩
  · have harm : getBits (setBits v 0 0 1) 0 0 = 1 := getBits_setBits_same (by decide) v 1
    have hdest : getBits (setBits v 0 0 1) 7 4 = getBits v 7 4 := getBits_setBits_other (by decide) (by decide) (by decide) v 1
    refine ⟨_, congrArg Host.Outcome.next ((if_pos hn).trans (State.gate_accepts _ hacc)), ?_⟩
    have h := s.done.alarmCtlWrite_arm n hv harm
    rwa [hdest] at h
  · have harm : getBits (setBits v 0 0 0) 0 0 = 0 := getBits_setBits_same (by decide) v 0
    exact ⟨_, congrArg Host.Outcome.next ((if_pos hn).trans (State.gate_accepts _ hacc)), s.done.alarmCtlWrite_disarm n hv harm⟩
  · obtain ⟨hoff, hirq, -⟩ := s.alarmFires_effect n (SMap.get (fun _ => (0, 0)) s.tim.alarms n).2 0
    exact ⟨_, congrArg Host.Outcome.next (if_pos ⟨hbed, hn, harm, hdue⟩), hoff, hirq⟩

end Sys2Proof.Machine
end

section
/-! SUPPORT. A write to a hole (R66) that finds a parity mismatch marked at the hole. -/

namespace Sys2Proof.Machine

/-- An access to a block of Bed does not pass the tracker. -/
theorem State.throughTracker_of_bedBlock (s : State) (a : Agent) {blk : Nat} (addr : Nat) (write : Bool) (h : bedBlock blk = true) :
    s.throughTracker a blk addr write = s :=
  if_neg fun hc => absurd (h.symm.trans hc.2.1) (by decide)

/-- Outside Root, an admitted write to a hole still computes the parity bit at the hole again (R80). -/
theorem State.regEffect_hole (s : State) (a : Agent) {blk off : Nat} (v : W32) (hhole : findReg blk off = none) (hroot : blk ≠ 0x02) :
    s.regEffect a blk off v = s.reparity (blk * 0x1000 + off) := by
  simp [State.regEffect, State.regAct, hhole, hroot]

/-- All that an accepted write to a hole of a Bed block does: MBX and Root have their own rules. -/
theorem State.writeAt_hole {s : State} {a : Agent} {addr blk off : Nat} (v : W32) (hat : regTarget a addr 32 = some (blk, off))
    (hhole : findReg blk off = none) (hbed : bedBlock blk = true) (hmbx : blk ≠ 0x07) (hroot : blk ≠ 0x02)
    (hacc : s.accepts a blk off = true) : s.writeAt a addr 32 v.toNat = s.done.reparity (blk * 0x1000 + off) := by
  simp [State.writeAt, hat, s.throughTracker_of_bedBlock a addr true hbed, State.writeReg, hmbx, State.gate_accepts _ hacc,
    State.regEffect_hole _ a v hhole hroot]

/-- Bed powered, with a parity mismatch marked at the hole 0x080 of EVR. -/
def holeParityWrong : State := { State.reset with bedOn := true, badParity := [0x4080] }

/-- Refutes O7: its second clause asks that an admitted write to a hole change nothing, but where the state marks a parity mismatch at
the hole, the write removes the mark. (The model's upsets mark registers only: the statement lacks that premise.) -/
theorem not_holesReadZeroAndDropWrites : ¬ Obligations.HolesReadZeroAndDropWrites := by
  intro h
  have hat : regTarget .svc (regSpace + 0x40080) 32 = some (0x04, 0x080) := by decide
  have hhole : findReg 0x04 0x080 = none := by decide
  obtain ⟨-, hwrite, -⟩ := h holeParityWrong .svc (regSpace + 0x40080) 0x04 0x080 0 hat hhole (by decide)
  have hdropped : holeParityWrong.writeAt .svc (regSpace + 0x40080) 32 (0 : W32).toNat = holeParityWrong.done := by
    rw [← holeParityWrong.throughTracker_of_bedBlock .svc (regSpace + 0x40080) true (show bedBlock 0x04 = true by decide)]
    exact Host.Outcome.next.inj (hwrite (by decide) (by decide))
  rw [State.writeAt_hole 0 hat hhole (by decide) (by decide) (by decide) (by decide)] at hdropped
  have hmark : [] = [0x4080] := congrArg State.badParity hdropped
  cases hmark

end Sys2Proof.Machine
end

section
/-! SUPPORT. Posted writes (R76, R77): what a commit makes of each field of its Root register, and what happens to the latches. -/

namespace Sys2Proof.Machine

/-! ### The fields of a committed word -/

/-- The word whose bits the commit of latch `l` over `old` gives field `f`; none where it leaves the field alone (R77). -/
def FieldDesc.committedFrom (f : FieldDesc) (old : W32) (l : Latch) : Option W32 :=
  match f.acc with
  | .rw => some l.value
  | .rwp => some l.value
  | .w1c => some (old &&& ~~~ l.ones)
  | .w1s => some (old ||| l.ones)
  | _ => none

/-- The word `w` with field `f` committed. -/
def FieldDesc.commitInto (f : FieldDesc) (old : W32) (l : Latch) (w : W32) : W32 :=
  match f.committedFrom old l with
  | some x => setBits w f.hi f.lo (getBits x f.hi f.lo)
  | none => w

/-- A register commits field by field. -/
theorem RegDesc.committed_eq (d : RegDesc) (old : W32) (l : Latch) :
    d.committed old l = d.fields.foldl (fun w f => f.commitInto old l w) old := by
  unfold RegDesc.committed FieldDesc.commitInto FieldDesc.committedFrom
  congr 1
  funext w f
  cases f.acc <;> rfl

/-- Every field lies in a word, and no two share a bit. -/
def RegDesc.fieldsApart (d : RegDesc) : Prop :=
  (∀ f ∈ d.fields, f.hi < 32) ∧ d.fields.Pairwise (fun f g => f.hi < g.lo ∨ g.hi < f.lo)

/-- The table of Root registers gives no bit to two fields. -/
theorem fieldsApart_of_mem_regsRTD : ∀ d ∈ regsRTD, d.fieldsApart := by
  unfold RegDesc.fieldsApart
  decide

/-- A committed field leaves a field beside it alone. -/
theorem FieldDesc.getBits_commitInto_other {f g : FieldDesc} (hf : f.hi < 32) (hg : g.hi < 32) (hfg : f.hi < g.lo ∨ g.hi < f.lo)
    (old : W32) (l : Latch) (w : W32) : getBits (g.commitInto old l w) f.hi f.lo = getBits w f.hi f.lo := by
  unfold FieldDesc.commitInto
  split
  · exact getBits_setBits_other hg hf hfg.symm w _
  · rfl

/-- A committed field reads the bits it is committed from. -/
theorem FieldDesc.getBits_commitInto_same {f : FieldDesc} {old x : W32} {l : Latch} (hf : f.hi < 32) (hx : f.committedFrom old l = some x)
    (w : W32) : getBits (f.commitInto old l w) f.hi f.lo = getBits x f.hi f.lo := by
  rw [FieldDesc.commitInto, hx]
  exact getBits_setBits_copy hf w x

/-- A field of a register whose fields share no bit ends a commit with the bits it is committed from. -/
theorem RegDesc.getBits_committed {d : RegDesc} {f : FieldDesc} {old x : W32} {l : Latch} (hd : d.fieldsApart) (hf : f ∈ d.fields)
    (hx : f.committedFrom old l = some x) : getBits (d.committed old l) f.hi f.lo = getBits x f.hi f.lo := by
  obtain ⟨hword, happart⟩ := hd
  obtain ⟨before, after, hsplit⟩ := List.append_of_mem hf
  rw [hsplit, List.pairwise_append, List.pairwise_cons] at happart
  obtain ⟨-, ⟨hafter, -⟩, -⟩ := happart
  rw [d.committed_eq, hsplit, List.foldl_append, List.foldl_cons]
  refine List.foldlRecOn (motive := fun w => getBits w f.hi f.lo = getBits x f.hi f.lo) after _
    (FieldDesc.getBits_commitInto_same (hword f hf) hx _) fun w hw g hg => ?_
  have hgd : g ∈ d.fields := by simp [hsplit, hg]
  exact (FieldDesc.getBits_commitInto_other (hword f hf) (hword g hgd) (hafter g hg) old l w).trans hw

/-! ### The Root register a latch commits to -/

theorem State.setRoot_rootReg_same (s : State) (key : Nat) (w : W32) : (s.setRoot key w).rootReg key = w := SMap.get_set_same _ _ _ _

theorem State.setRoot_rootReg_other (s : State) {key k : Nat} (w : W32) (h : k ≠ key) : (s.setRoot key w).rootReg k = s.rootReg k :=
  SMap.get_set_other _ _ _ h

/-- Where a Root register lies at its offset, a commit is one write of that register, beside its parity mark and the wake timer. -/
theorem State.commitLatch_rootReg {s : State} {l : Latch} {d : RegDesc} (hd : findReg 2 l.off = some d) (k : Nat) :
    (s.commitLatch l).rootReg k = (s.setRoot (0x2000 + l.off) (d.committed (s.rootReg (0x2000 + l.off)) l)).rootReg k := by
  unfold State.commitLatch
  simp only [hd]
  split <;> rfl

/-- A commit touches no other Root register. -/
theorem State.commitLatch_rootReg_other (s : State) {l : Latch} {k : Nat} (h : k ≠ 0x2000 + l.off) :
    (s.commitLatch l).rootReg k = s.rootReg k := by
  cases hd : findReg 2 l.off with
  | some d => rw [State.commitLatch_rootReg hd, s.setRoot_rootReg_other _ h]
  | none => simp [State.commitLatch, hd]

/-- A committed field of a Root register reads the bits it is committed from. -/
theorem State.getBits_commitLatch {s : State} {l : Latch} {d : RegDesc} {f : FieldDesc} {x : W32} (hd : findReg 2 l.off = some d)
    (hf : f ∈ d.fields) (hx : f.committedFrom (s.rootReg (0x2000 + l.off)) l = some x) :
    getBits ((s.commitLatch l).rootReg (0x2000 + l.off)) f.hi f.lo = getBits x f.hi f.lo := by
  rw [State.commitLatch_rootReg hd, s.setRoot_rootReg_same]
  exact RegDesc.getBits_committed (fieldsApart_of_mem_regsRTD d (List.mem_of_find?_eq_some hd)) hf hx

/-! ### The latches that await commit -/

/-- A loop whose rounds keep the latches keeps them. -/
theorem foldl_latches {α : Type} {f : State → α → State} (h : ∀ x a, (f x a).latches = x.latches) (l : List α) (s : State) :
    (l.foldl f s).latches = s.latches :=
  List.foldlRecOn (motive := fun x => x.latches = s.latches) l f rfl fun x hx a _ => (h x a).trans hx

@[simp] theorem State.setPwr_latches (s : State) (p : Pwr) : (s.setPwr p).latches = s.latches := rfl
theorem State.rootWr_latches (s : State) (f : Fld) (v : Nat) : (s.rootWr f v).latches = s.latches := rfl
@[simp] theorem State.wpend_latches (s : State) : s.wpend.latches = s.latches := rfl

@[simp] theorem State.refreshCopies_latches (s : State) : s.refreshCopies.latches = s.latches := by
  unfold State.refreshCopies
  split
  · simp [foldl_latches]
  · rfl

@[simp] theorem State.commitLatch_latches (s : State) (l : Latch) : (s.commitLatch l).latches = s.latches := by
  unfold State.commitLatch
  split
  · dsimp only
    split <;> rfl
  · rfl

@[simp] theorem State.calLoad_latches (s : State) : s.calLoad.latches = s.latches := by
  by_cases h : s.rootBit F.RTD_CTL_CALLOAD = true
  · rw [State.calLoad, if_pos h, State.rootWr_latches, State.rootWr_latches, State.setPwr_latches]
  · rw [State.calLoad, if_neg h]

/-- The latches that commit are released, and no other. -/
theorem State.commitLatches_latches (s : State) (p : Latch → Bool) : (s.commitLatches p).latches = s.latches.filter (fun l => !p l) := by
  unfold State.commitLatches
  dsimp only
  split <;> simp [foldl_latches State.commitLatch_latches]

/-- A write posted while one to its register is pending leaves one latch: the later value, and the 1 bits of both. -/
theorem State.postRoot_merges {s : State} {off : Nat} {v : W32} {l : Latch} (hlisted : listedAt (0x2000 + off) v = true)
    (hcell : 0x2000 + off = Reg.RTD_CELLCFG → getBits v 15 0 < getBits v 31 16)
    (hpending : s.latches.find? (fun x => decide (x.off = off)) = some l) :
    (s.postRoot off v).latches = s.latches.filter (fun x => decide (x.off ≠ off)) ++ [⟨off, v, l.ones ||| v, s.now⟩] := by
  have htaken : ¬ (listedAt (0x2000 + off) v = false ∨ (0x2000 + off = Reg.RTD_CELLCFG ∧ getBits v 31 16 ≤ getBits v 15 0)) := by
    rintro (h | ⟨hkey, hle⟩)
    · simp [h] at hlisted
    · exact absurd (hcell hkey) (Nat.not_lt.mpr hle)
  unfold State.postRoot
  rw [if_neg htaken]
  simp only [hpending, State.wpend_latches]

/-- The offsets that RTD decodes lie on whole words (R65). -/
theorem decodeOff_rtd_mod_four (off : Nat) : decodeOff 2 off % 4 = 0 := by
  have h : (off &&& 0xFC) % 2 ^ 2 = off % 2 ^ 2 &&& 0xFC % 2 ^ 2 := Nat.and_mod_two_pow
  simpa [decodeOff] using h

/-- A Root register write that is accepted is posted. -/
theorem execRootRegisterWrite_posts {s : State} {a : Agent} {off : Nat} (v : W32) (hacc : s.accepts a 0x02 (decodeOff 2 off) = true)
    (hkey : rootKeys.contains (0x2000 + decodeOff 2 off) = true) :
    exec (.rootRegisterWrite a off v) s = .next (s.done.postRoot (decodeOff 2 off) v) :=
  congrArg Host.Outcome.next ((State.gate_accepts _ hacc).trans (if_pos ⟨decodeOff_rtd_mod_four off, hkey⟩))

/-- Settles O8: posting merges with the pending latch, a commit goes field by field, and the edge releases what it commits. -/
theorem postedWritesMerge : Obligations.PostedWritesMerge := by
  refine ⟨fun s a off v l hacc hkey hlisted hcell hpending => ⟨_, execRootRegisterWrite_posts v hacc hkey, ?_⟩,
    fun s l d f hd hf => ⟨fun hacc => ?_, fun hacc => ?_, fun hacc => ?_⟩,
    fun s l k hk => s.commitLatch_rootReg_other hk, fun s t hroot hedge => ?_⟩
  · exact State.postRoot_merges (s := s.done) hlisted hcell hpending
  · exact State.getBits_commitLatch hd hf (by rcases hacc with h | h <;> simp [FieldDesc.committedFrom, h])
  · exact State.getBits_commitLatch hd hf (by simp [FieldDesc.committedFrom, hacc])
  · exact State.getBits_commitLatch hd hf (by simp [FieldDesc.committedFrom, hacc])
  · have ht : t = (s.commitLatches (fun l => decide (l.time + 1000 ≤ s.now))).refreshCopies :=
      (Host.Outcome.next.inj hedge).symm.trans (if_pos hroot)
    rw [ht, State.refreshCopies_latches, State.commitLatches_latches]

end Sys2Proof.Machine
end

section
/-! SUPPORT. Rings (R88-R103): what setting a ring up, disabling it, its doorbells and the taking of a descriptor change, and what they
leave alone. -/

namespace Sys2Proof.Machine

/-! ### Fields under a write -/

/-- A one-bit field is set or clear with what it reads. -/
theorem State.on_congr {s t : State} {f : Fld} (h : t.rd f = s.rd f) : t.on f = s.on f := by
  unfold State.on
  rw [h]

theorem State.on_wr_one (s : State) {f : Fld} (h : f.hi < 32) (hbit : f.hi = f.lo) : (s.wr f 1).on f = true := by
  unfold State.on
  rw [s.rd_wr_same f 1 h, hbit, Nat.add_sub_cancel_left]
  rfl

theorem State.on_wr_zero (s : State) {f : Fld} (h : f.hi < 32) : (s.wr f 0).on f = false := by
  unfold State.on
  rw [s.rd_wr_same f 0 h, Nat.zero_mod]
  rfl

/-- A write under the access codes gives a register what a commit of the same word gives it. -/
theorem RegDesc.written_eq_committed (d : RegDesc) (old v : W32) : d.written old v = d.committed old ⟨0, v, v, 0⟩ := rfl

/-- A field of a register whose fields share no bit takes the bits written to it, where it can be written. -/
theorem State.getBits_applyWrite (s : State) {key : Nat} {d : RegDesc} {f : FieldDesc} (v : W32)
    (hd : findReg (key / 0x1000) (key % 0x1000) = some d) (hapart : d.fieldsApart) (hf : f ∈ d.fields) (hacc : f.acc = .rwp) :
    getBits ((s.applyWrite key v).reg key) f.hi f.lo = getBits v f.hi f.lo := by
  rw [s.applyWrite_reg_same v hd, d.written_eq_committed]
  exact RegDesc.getBits_committed hapart hf (by simp [FieldDesc.committedFrom, hacc])

@[simp] theorem State.applyWrite_mem (s : State) (key : Nat) (v : W32) : (s.applyWrite key v).mem = s.mem := by rw [s.applyWrite_eq key v]

/-! ### Bitmaps -/

/-- A bit of a bitmap array lies in one of its four words: a register above them is left alone. -/
theorem State.mapBit_reg_above (s : State) {base k : Nat} (q : Nat) (b : Bool) (h : base + 12 < k) :
    (s.mapBit base q b).reg k = s.reg k := by
  refine s.reg_wr_other _ (f := ⟨base + 4 * (q / 32 % 4), q % 32, q % 32⟩) ?_
  change k ≠ base + 4 * (q / 32 % 4)
  omega

theorem State.mapBit_rd_above (s : State) {base : Nat} (q : Nat) (b : Bool) {f : Fld} (h : base + 12 < f.addr) :
    (s.mapBit base q b).rd f = s.rd f := State.rd_congr (s.mapBit_reg_above q b h)

/-! ### What the operations of a ring leave alone -/

@[simp] theorem State.setRing_rd (s : State) (q : Nat) (r : Ring) (f : Fld) : (s.setRing q r).rd f = s.rd f := rfl
@[simp] theorem State.wr_ring (s : State) (f : Fld) (v q : Nat) : (s.wr f v).ring q = s.ring q := rfl
@[simp] theorem State.mapBit_ring (s : State) (base p : Nat) (b : Bool) (q : Nat) : (s.mapBit base p b).ring q = s.ring q := rfl
@[simp] theorem State.fullBit_ring (s : State) (p q : Nat) : (s.fullBit p).ring q = s.ring q := rfl

/-- The head moves on in the registers alone. -/
theorem State.advance_eq (s : State) (q : Nat) : s.advance q = { s with regs := (s.advance q).regs } := by
  unfold State.advance
  dsimp only
  split <;> rfl

@[simp] theorem State.advance_ring (s : State) (p q : Nat) : (s.advance p).ring q = s.ring q := by
  rw [s.advance_eq p]
  rfl

@[simp] theorem State.advance_mem (s : State) (q : Nat) : (s.advance q).mem = s.mem := by rw [s.advance_eq q]
@[simp] theorem State.advance_irqs (s : State) (q : Nat) : (s.advance q).irqs = s.irqs := by rw [s.advance_eq q]

/-- A ring's error changes registers and interrupts. -/
theorem State.ringErr_eq (s : State) (q cause : Nat) : s.ringErr q cause =
    { ((s.mapBit (Reg.RNG_ERRn 0) q true).wr F.RNG_BADQ_CAUSE cause).wr F.RNG_BADQ_Q q with irqs := (s.ringErr q cause).irqs } := by
  unfold State.ringErr
  dsimp only
  split <;> rfl

@[simp] theorem State.ringErr_ring (s : State) (p cause q : Nat) : (s.ringErr p cause).ring q = s.ring q := by
  rw [s.ringErr_eq p cause]
  rfl

theorem State.ringErr_rd (s : State) (q cause : Nat) (f : Fld) : (s.ringErr q cause).rd f =
    (((s.mapBit (Reg.RNG_ERRn 0) q true).wr F.RNG_BADQ_CAUSE cause).wr F.RNG_BADQ_Q q).rd f := by
  rw [s.ringErr_eq q cause]
  rfl

/-- A ring's error shows its cause and its ring in RNG_BADQ (R104). -/
theorem State.ringErr_badq (s : State) {q cause : Nat} (hq : q < 112) (hcause : cause < 16) :
    (s.ringErr q cause).rd F.RNG_BADQ_CAUSE = cause ∧ (s.ringErr q cause).rd F.RNG_BADQ_Q = q := by
  rw [State.ringErr_rd, State.ringErr_rd]
  constructor
  · rw [State.rd_wr_beside _ _ (by decide) (by decide) (by decide)]
    exact State.rd_wr_fits _ (by decide) hcause
  · exact State.rd_wr_fits _ (by decide) (lt_of_lt_of_le hq (by decide))

/-- A ring's error leaves the registers of the rings alone. -/
theorem State.ringErr_rd_above (s : State) (q cause : Nat) {f : Fld} (h : 0x6400 ≤ f.addr) : (s.ringErr q cause).rd f = s.rd f := by
  have hbadq : f.addr ≠ Reg.RNG_BADQ := by unfold Reg.RNG_BADQ; omega
  rw [State.ringErr_rd, State.rd_wr_other _ _ hbadq, State.rd_wr_other _ _ hbadq]
  exact s.mapBit_rd_above q true (lt_of_lt_of_le (by decide) h)

/-! ### The registers of a ring -/

theorem Reg.rngCfg_above (q : Nat) : 0x6400 ≤ Reg.RNG_QnCFG q := by unfold Reg.RNG_QnCFG; omega
theorem Reg.rngStat_above (q : Nat) : 0x6400 ≤ Reg.RNG_QnSTAT q := by unfold Reg.RNG_QnSTAT; omega
theorem Reg.rngCfg_ne_stat (q : Nat) : Reg.RNG_QnCFG q ≠ Reg.RNG_QnSTAT q := by unfold Reg.RNG_QnCFG Reg.RNG_QnSTAT; omega

/-- The description of the RNG_QnCFG registers. -/
def rngCfgDesc : RegDesc :=
  ⟨0x404, [(0x10, 112)], [.mkAny .rwp 31 31 0x0, .mkAny .rwp 30 30 0x0, ⟨24, 20, .rwp, .rng 4 16, 0x0, none⟩,
    ⟨19, 16, .rwp, .rng 0 3, 0x0, none⟩, .mkAny .rwp 6 0 0x0]⟩

theorem findReg_rngCfg (q : Nat) : findReg (Reg.RNG_QnCFG q / 0x1000) (Reg.RNG_QnCFG q % 0x1000) = some rngCfgDesc := by
  have h : ∀ i : Fin 112, findReg ((0x6404 + 0x10 * i.val) / 0x1000) ((0x6404 + 0x10 * i.val) % 0x1000) = some rngCfgDesc := by decide
  exact h ⟨q % 112, Nat.mod_lt _ (by decide)⟩

theorem rngCfgDesc_fieldsApart : rngCfgDesc.fieldsApart := by
  unfold RegDesc.fieldsApart
  decide

/-- A write of RNG_QnCFG sets EN and LOG2N. -/
theorem State.applyWrite_rngCfg (s : State) (q : Nat) (v : W32) :
    (s.applyWrite (Reg.RNG_QnCFG q) v).rd (F.RNG_QnCFG_EN q) = getBits v 31 31 ∧
      (s.applyWrite (Reg.RNG_QnCFG q) v).rd (F.RNG_QnCFG_LOG2N q) = getBits v 24 20 :=
  ⟨s.getBits_applyWrite (f := .mkAny .rwp 31 31 0x0) v (findReg_rngCfg q) rngCfgDesc_fieldsApart (by decide) rfl,
    s.getBits_applyWrite (f := ⟨24, 20, .rwp, .rng 4 16, 0x0, none⟩) v (findReg_rngCfg q) rngCfgDesc_fieldsApart (by decide) rfl⟩

/-! ### Enabling a ring (R88, R89) -/

/-- A ring that starts changes its RNG_QnCFG and RNG_QnSTAT and no register above the bitmaps beside. -/
theorem State.ringStart_rd_above (s : State) (q : Nat) (v : W32) {f : Fld} (h : 0x6400 ≤ f.addr) : (s.ringStart q v).rd f =
    ((((s.applyWrite (Reg.RNG_QnCFG q) v).wr (F.RNG_QnSTAT_HEAD q) 0).wr (F.RNG_QnSTAT_PHASE q) 1).wr (F.RNG_QnSTAT_STATE q) 1).rd f := by
  unfold State.ringStart State.fullBit
  dsimp only
  rw [State.mapBit_rd_above _ _ _ (lt_of_lt_of_le (by decide) h), State.mapBit_rd_above _ _ _ (lt_of_lt_of_le (by decide) h),
    State.mapBit_rd_above _ _ _ (lt_of_lt_of_le (by decide) h), State.setRing_rd]

/-- A ring that starts has the RNG_QnCFG written. -/
theorem State.ringStart_cfg (s : State) (q : Nat) (v : W32) {f : Fld} (h : f.addr = Reg.RNG_QnCFG q) :
    (s.ringStart q v).rd f = (s.applyWrite (Reg.RNG_QnCFG q) v).rd f := by
  have hne : f.addr ≠ Reg.RNG_QnSTAT q := h ▸ Reg.rngCfg_ne_stat q
  rw [s.ringStart_rd_above q v (h ▸ Reg.rngCfg_above q), State.rd_wr_other _ _ hne, State.rd_wr_other _ _ hne,
    State.rd_wr_other _ _ hne]

/-- A ring that starts stands at entry 0 with phase 1, in RUN. -/
theorem State.ringStart_stat (s : State) (q : Nat) (v : W32) :
    (s.ringStart q v).ringHead q = 0 ∧ (s.ringStart q v).rd (F.RNG_QnSTAT_PHASE q) = 1 ∧
      (s.ringStart q v).rd (F.RNG_QnSTAT_STATE q) = 1 := by
  unfold State.ringHead
  rw [s.ringStart_rd_above q v (Reg.rngStat_above q), s.ringStart_rd_above q v (Reg.rngStat_above q),
    s.ringStart_rd_above q v (Reg.rngStat_above q)]
  refine ⟨?_, ?_, State.rd_wr_same _ _ _ (by decide : 30 < 32)⟩
  · rw [State.rd_wr_beside _ _ (by decide : 30 < 32) (by decide : 15 < 32) (by decide : 30 < 0 ∨ 15 < 29),
      State.rd_wr_beside _ _ (by decide : 31 < 32) (by decide : 15 < 32) (by decide : 31 < 0 ∨ 15 < 31)]
    exact State.rd_wr_same _ _ _ (by decide : 15 < 32)
  · rw [State.rd_wr_beside _ _ (by decide : 30 < 32) (by decide : 31 < 32) (by decide : 30 < 31 ∨ 31 < 29)]
    exact State.rd_wr_same _ _ _ (by decide : 31 < 32)

/-- A ring that starts has its tail or its consumer's index at 0. -/
theorem State.ringStart_idx (s : State) (q : Nat) (v : W32) : ((s.ringStart q v).ring q).idx = 0 := by
  unfold State.ringStart
  dsimp only
  rw [State.fullBit_ring, State.mapBit_ring, State.mapBit_ring, State.ring_setRing_same]

/-- A ring that starts leaves memory, the interrupts and the response alone. -/
theorem State.ringStart_keeps (s : State) (q : Nat) (v : W32) :
    (s.ringStart q v).mem = s.mem ∧ (s.ringStart q v).irqs = s.irqs ∧ (s.ringStart q v).resp = s.resp := by
  simp [State.ringStart, State.fullBit]

/-- R88 refuses a size that RNG_QnCFG does not list first of all. -/
theorem State.log2n_of_enableCause {s : State} {q : Nat} {v : W32} (h : s.enableCause q v = 0) :
    ¬ (getBits v 24 20 < 4 ∨ 16 < getBits v 24 20) := by
  intro hsize
  rw [State.enableCause, if_pos hsize] at h
  exact absurd h one_ne_zero

/-- An enabling write that R88 accepts starts the ring. -/
theorem State.ringCfgWrite_starts {s : State} {q : Nat} {v : W32} (hoff : s.on (F.RNG_QnCFG_EN q) = false) (hen : getBits v 31 31 = 1)
    (hlisted : listedAt (Reg.RNG_QnCFG q) v = true) (hcause : s.enableCause q v = 0) : s.ringCfgWrite q v = s.ringStart q v := by
  have hsize := State.log2n_of_enableCause hcause
  simp [State.ringCfgWrite, hoff, hen, hlisted, hcause, hsize]

/-! ### Disabling a ring (R89, R103) -/

theorem dropDesc_eq_erase (d : Desc) (l : List Desc) : dropDesc d l = l.erase d := by
  induction l with
  | nil => rfl
  | cons x r ih => simp [dropDesc, List.erase_cons, ih]

/-- A descriptor that leaves its ring leaves its taken list, whichever ring its slot was reserved in. -/
theorem State.unreserve_taken (s : State) (q : Nat) (d : Desc) : ((s.unreserve q d).ring q).taken = (s.ring q).taken.erase d := by
  unfold State.unreserve
  dsimp only
  by_cases h : q = d.cq.val
  · rw [← h, State.ring_setRing_same, State.ring_setRing_same, dropDesc_eq_erase]
  · rw [State.ring_setRing_other _ _ h, State.ring_setRing_same, dropDesc_eq_erase]

theorem State.foldl_unreserve_taken (q : Nat) (l : List Desc) (s : State) :
    ((l.foldl (fun x d => x.unreserve q d) s).ring q).taken = (s.ring q).taken.diff l := by
  induction l generalizing s with
  | nil => rfl
  | cons d r ih => rw [List.foldl_cons, ih, State.unreserve_taken, List.diff_cons]

/-- Descriptors that leave their ring change what the rings hold and nothing else. -/
theorem State.foldl_unreserve_eq (q : Nat) (l : List Desc) (s : State) :
    l.foldl (fun x d => x.unreserve q d) s = { s with rings := (l.foldl (fun x d => x.unreserve q d) s).rings } := by
  refine List.foldlRecOn (motive := fun x : State => x = { s with rings := x.rings }) l _ rfl fun x hx d _ => ?_
  rw [hx]
  rfl

/-- Nothing is left of a list without the elements that pass a test but elements that fail it. -/
theorem of_mem_diff_filter {l : List Desc} {p : Desc → Bool} {d : Desc} (h : d ∈ l.diff (l.filter p)) : p d = false := by
  by_contra hp
  have hcount : (l.diff (l.filter p)).count d = 0 := by
    rw [List.count_diff, List.count_filter (by simpa using hp), Nat.sub_self]
  exact absurd h (List.count_eq_zero.mp hcount)

/-- On a ring that stops only the descriptors that run stay. -/
theorem State.ringStop_taken (s : State) (q : Nat) : ((s.ringStop q).ring q).taken.all (fun d => d.running) = true := by
  have htaken : ((s.ringStop q).ring q).taken = (s.ring q).taken.diff ((s.ring q).taken.filter (fun d => !d.running)) := by
    unfold State.ringStop
    dsimp only
    rw [State.mapBit_ring, State.mapBit_ring, State.mapBit_ring, State.wr_ring, State.wr_ring, State.ring_setRing_same,
      State.foldl_unreserve_taken]
  rw [htaken, List.all_eq_true]
  intro d hd
  simpa using of_mem_diff_filter hd

/-- A ring that stops leaves memory and the response alone. -/
theorem State.ringStop_keeps (s : State) (q : Nat) : (s.ringStop q).mem = s.mem ∧ (s.ringStop q).resp = s.resp := by
  unfold State.ringStop
  dsimp only
  rw [State.foldl_unreserve_eq]
  simp

/-- A ring that stops is disabled and IDLE. -/
theorem State.ringStop_off (s : State) (q : Nat) :
    (s.ringStop q).on (F.RNG_QnCFG_EN q) = false ∧ (s.ringStop q).rd (F.RNG_QnSTAT_STATE q) = 0 := by
  unfold State.ringStop
  dsimp only
  generalize (s.ring q).taken.filter (fun d => !d.running) = waiting
  generalize waiting.foldl (fun x d => x.unreserve q d) s = t
  have hcfg : 0x6400 ≤ (F.RNG_QnCFG_EN q).addr := Reg.rngCfg_above q
  have hstat : 0x6400 ≤ (F.RNG_QnSTAT_STATE q).addr := Reg.rngStat_above q
  have hne : (F.RNG_QnCFG_EN q).addr ≠ (F.RNG_QnSTAT_STATE q).addr := Reg.rngCfg_ne_stat q
  constructor
  · rw [State.on_congr (State.mapBit_rd_above _ _ _ (lt_of_lt_of_le (by decide) hcfg)),
      State.on_congr (State.mapBit_rd_above _ _ _ (lt_of_lt_of_le (by decide) hcfg)),
      State.on_congr (State.mapBit_rd_above _ _ _ (lt_of_lt_of_le (by decide) hcfg)), State.on_congr (State.rd_wr_other _ _ hne)]
    exact State.on_wr_zero _ (by decide : 31 < 32)
  · rw [State.mapBit_rd_above _ _ _ (lt_of_lt_of_le (by decide) hstat), State.mapBit_rd_above _ _ _ (lt_of_lt_of_le (by decide) hstat),
      State.mapBit_rd_above _ _ _ (lt_of_lt_of_le (by decide) hstat)]
    exact State.rd_wr_same _ _ _ (by decide : 30 < 32)

/-- A write of EN = 0 that leaves every other field of an enabled ring stops it. -/
theorem State.ringCfgWrite_stops {s : State} {q : Nat} (hon : s.on (F.RNG_QnCFG_EN q) = true) :
    s.ringCfgWrite q (setBits (s.reg (Reg.RNG_QnCFG q)) 31 31 0) = s.ringStop q := by
  have hen : getBits (setBits (s.reg (Reg.RNG_QnCFG q)) 31 31 0) 31 31 = 0 := getBits_setBits_same (by decide) _ 0
  have hsame : setBits (setBits (s.reg (Reg.RNG_QnCFG q)) 31 31 0) 31 31 0 = setBits (s.reg (Reg.RNG_QnCFG q)) 31 31 0 := by
    unfold setBits
    simp [BitVec.and_assoc]
  unfold State.ringCfgWrite
  dsimp only
  rw [if_pos hon, hsame, if_neg (fun h => h rfl), if_pos hen]

/-! ### Doorbells (R92, R93) -/

/-- A doorbell of an enabled submission ring inside its size moves the tail. -/
theorem State.doorbell_submission {s : State} {q idx : Nat} (hon : s.on (F.RNG_QnCFG_EN q) = true)
    (hkind : s.on (F.RNG_QnCFG_KIND q) = false) (hidx : idx < s.ringSize q) :
    s.doorbell q idx = s.setRing q { s.ring q with idx := idx } := by
  simp [State.doorbell, hon, hkind, Nat.not_le.mpr hidx]

/-- A doorbell of an enabled completion ring that passes no entry moves the consumer's index. -/
theorem State.doorbell_completion {s : State} {q idx : Nat} (hon : s.on (F.RNG_QnCFG_EN q) = true)
    (hkind : s.on (F.RNG_QnCFG_KIND q) = true) (hidx : idx < s.ringSize q)
    (hentries : (idx + s.ringSize q - (s.ring q).idx) % s.ringSize q ≤ s.unconsumed q) :
    s.doorbell q idx = (s.setRing q { s.ring q with idx := idx }).fullBit q := by
  simp [State.doorbell, hon, hkind, Nat.not_le.mpr hidx, Nat.not_lt.mpr hentries]

/-! ### Taking a descriptor (R92-R98) -/

/-- A ring that takes is a submission ring, and its completion ring is one. -/
theorem State.kinds_of_takeReady {s : State} {q : Nat} (h : s.takeReady q = true) :
    s.on (F.RNG_QnCFG_KIND q) = false ∧ s.on (F.RNG_QnCFG_KIND (s.cqOf q)) = true := by
  simp only [State.takeReady, Bool.and_eq_true, Bool.not_eq_true'] at h
  tauto

theorem State.cqOf_ne_of_takeReady {s : State} {q : Nat} (h : s.takeReady q = true) : s.cqOf q ≠ q := by
  obtain ⟨hsub, hcpl⟩ := State.kinds_of_takeReady h
  intro heq
  rw [heq, hsub] at hcpl
  exact absurd hcpl Bool.false_ne_true

/-- The line at the head of ring `q`. -/
def State.headLine (s : State) (q : Nat) : Bytes := s.mem.readBytes (s.ringAddr q (s.ringHead q)) 64

/-- The scheduler of an engine holds a ring for descriptors that carry an AT time alone. -/
theorem State.schedHolds_of_untimed {s : State} {q : Nat} (h : (parseDesc 0 0 (s.headLine q)).tmode ≠ 1) : s.schedHolds q = false := by
  unfold State.headLine at h
  simp [State.schedHolds, h]

/-- The state with a slot reserved in the completion ring of `q`, and the head of `q` moved on. -/
def State.slotTaken (s : State) (q : Nat) : State :=
  (s.setRing (s.cqOf q) { s.ring (s.cqOf q) with reserved := (s.ring (s.cqOf q)).reserved + 1 }).advance q

/-- A sound line of a known opcode, without fence or AT time, joins the taken descriptors and runs. -/
theorem State.takeLine_runs {s : State} {q : Nat} (hclean : s.mem.poisoned (s.ringAddr q (s.ringHead q)) 64 = false)
    (hheader : headerOk (s.headLine q) = true) (hop : knownOp q (parseDesc 0 0 (s.headLine q)).op = true)
    (hfence : (parseDesc 0 0 (s.headLine q)).fence = false) (htmode : (parseDesc 0 0 (s.headLine q)).tmode ≠ 1) :
    s.takeLine q = (s.slotTaken q).setRing q { (s.slotTaken q).ring q with
      taken := ((s.slotTaken q).ring q).taken ++
        [{ parseDesc (s.ringHead q) (Fin.ofNat 128 (s.cqOf q)) (s.headLine q) with started := s.now }],
      mismatch := none } := by
  unfold State.takeLine
  extract_lets a b c poisoned d0 d _ t early bad waits late e _ u
  have hb : headerOk b = true := hheader
  have hd : d = d0 := if_neg (fun h => Bool.false_ne_true (hclean.symm.trans h))
  have hop' : knownOp q d.op = true := hd ▸ hop
  have hfence' : d.fence = false := hd ▸ hfence
  have htmode' : d.tmode ≠ 1 := hd ▸ htmode
  have hbad : bad = 0 := by simp [bad, poisoned, a, hclean, hb, hop']
  have hwaits : waits = false := by simp [waits, hfence', htmode']
  have hlate : late = 0 := if_neg fun ⟨_, _, ht, _⟩ => htmode' ht
  have he : e = { d0 with started := s.now } := by
    simp only [e, hwaits, hlate, hd]
    rfl
  rw [if_pos hbad]
  simp only [u, he]
  rfl

/-- What the descriptor taken leaves in its ring, in the completion ring, in memory and in the interrupts. -/
theorem State.slotTaken_effect {s : State} {q : Nat} (hne : s.cqOf q ≠ q) :
    (s.slotTaken q).ring q = s.ring q ∧ ((s.slotTaken q).ring (s.cqOf q)).reserved = (s.ring (s.cqOf q)).reserved + 1 ∧
      (s.slotTaken q).mem = s.mem ∧ (s.slotTaken q).irqs = s.irqs := by
  unfold State.slotTaken
  refine ⟨?_, ?_, State.advance_mem _ q, State.advance_irqs _ q⟩
  · rw [State.advance_ring, State.ring_setRing_other _ _ hne.symm]
  · rw [State.advance_ring, State.ring_setRing_same]

/-! ### The second reading (R92) -/

/-- At the second reading a line that still mismatches halts the ring with PHASEERR. -/
theorem execPhaseRecheck_halts {s : State} {q n : Nat} (hq : q < 112) (hready : s.takeReady q = true) (hmis : (s.ring q).mismatch = some n)
    (hdue : n + 1000 ≤ s.now) (hclean : s.mem.poisoned (s.ringAddr q (s.ringHead q)) 64 = false)
    (hphase : linePhase (s.headLine q) ≠ s.rd (F.RNG_QnSTAT_PHASE q)) :
    exec (.phaseRecheck q) s = .next ((((s.setRing q { s.ring q with mismatch := none }).wr (F.RNG_QnSTAT_STATE q) 2).mapBit
      (Reg.RNG_HALTn 0) q true).ringErr q 8) := by
  change execPhaseRecheck q s = _
  rw [execPhaseRecheck, hmis]
  dsimp only
  rw [if_pos ⟨hq, hready, hdue⟩, if_pos ⟨hclean, hphase⟩]

/-- A ring set to HALT stays in it through its halt bit and its error. -/
theorem State.halted_state (s : State) (q : Nat) :
    (((s.wr (F.RNG_QnSTAT_STATE q) 2).mapBit (Reg.RNG_HALTn 0) q true).ringErr q 8).rd (F.RNG_QnSTAT_STATE q) = 2 := by
  have hstat : 0x6400 ≤ (F.RNG_QnSTAT_STATE q).addr := Reg.rngStat_above q
  rw [State.ringErr_rd_above _ _ _ hstat, State.mapBit_rd_above _ _ _ (lt_of_lt_of_le (by decide) hstat)]
  exact State.rd_wr_same _ _ _ (by decide : 30 < 32)

/-! ### The commands -/

/-- Settles O14: each command's effect, by the lemma of the operation it carries out. -/
theorem ringCommandsComplete : Obligations.RingCommandsComplete := by
  refine ⟨fun s a q v hq hacc hoff hlisted hcause => ?_, fun s a q hq hacc hon _ => ?_, fun s a q v hq hacc hon hkind hidx => ?_,
    fun s a q v hq hacc hon hkind hidx hentries => ?_,
    fun s q hq hready hmis hclean hphase hheader hop hfence htmode => ?_,
    fun s q n hq hready hmis hdue hclean hphase => ⟨_, execPhaseRecheck_halts hq hready hmis hdue hclean hphase, ?_⟩,
    fun s q d r hon htaken hheld htmode hdue => ?_⟩
  · have hen : getBits (setBits v 31 31 1) 31 31 = 1 := getBits_setBits_same (by decide) v 1
    have hsize : getBits (setBits v 31 31 1) 24 20 = getBits v 24 20 := getBits_setBits_other (by decide) (by decide) (by decide) v 1
    refine ⟨_, congrArg Host.Outcome.next ((if_pos hq).trans (State.gate_accepts _ hacc)), ?_⟩
    rw [State.ringCfgWrite_starts (s := s.done) hoff hen hlisted hcause]
    obtain ⟨hset, hlog⟩ := s.done.applyWrite_rngCfg q (setBits v 31 31 1)
    obtain ⟨hhead, hphase, hstate⟩ := s.done.ringStart_stat q (setBits v 31 31 1)
    obtain ⟨hmem, hirqs, hresp⟩ := s.done.ringStart_keeps q (setBits v 31 31 1)
    exact ⟨hresp, decide_eq_true ((s.done.ringStart_cfg q _ rfl).trans (hset.trans hen)),
      (s.done.ringStart_cfg q _ rfl).trans (hlog.trans hsize), hhead, hphase, hstate, s.done.ringStart_idx q _,
      hmem, hirqs⟩
  · refine ⟨_, congrArg Host.Outcome.next ((if_pos hq).trans (State.gate_accepts _ hacc)), ?_⟩
    rw [State.ringCfgWrite_stops (s := s.done) hon]
    obtain ⟨hoff, hidle⟩ := s.done.ringStop_off q
    obtain ⟨hmem, hresp⟩ := s.done.ringStop_keeps q
    exact ⟨hresp, hoff, hidle, s.done.ringStop_taken q, hmem⟩
  · exact ⟨_, congrArg Host.Outcome.next ((if_pos hq).trans (State.gate_accepts _ hacc)),
      State.doorbell_submission (s := s.done) hon hkind hidx⟩
  · refine ⟨_, congrArg Host.Outcome.next ((if_pos hq).trans (State.gate_accepts _ hacc)), ?_⟩
    rw [State.doorbell_completion (s := s.done) hon hkind hidx hentries]
    refine ⟨rfl, ?_, rfl, rfl⟩
    rw [State.fullBit_ring, State.ring_setRing_same]
  · have hne := State.cqOf_ne_of_takeReady hready
    obtain ⟨hring, hslot, hmem, hirqs⟩ := State.slotTaken_effect hne
    have htake : exec (.descriptorTake q) s = .next (s.takeLine q) := by
      change execDescriptorTake q s = _
      rw [execDescriptorTake, if_pos ⟨hq, hready, hmis⟩]
      dsimp only
      rw [if_neg fun ⟨_, hne⟩ => hne hphase, State.schedHolds_of_untimed htmode, if_neg Bool.false_ne_true]
    rw [State.takeLine_runs hclean hheader hop hfence htmode] at htake
    refine ⟨_, htake, ?_⟩
    beta_reduce
    rw [State.ring_setRing_same, State.ring_setRing_other _ _ hne, hring]
    exact ⟨rfl, hslot, hmem, hirqs⟩
  · obtain ⟨hbadcause, hbadq⟩ := State.ringErr_badq (((s.setRing q { s.ring q with mismatch := none }).wr (F.RNG_QnSTAT_STATE q) 2).mapBit
      (Reg.RNG_HALTn 0) q true) hq (cause := 8) (by decide)
    refine ⟨State.halted_state _ q, hbadcause, hbadq, ?_⟩
    rw [State.ringErr_ring, State.mapBit_ring, State.wr_ring, State.ring_setRing_same]
    exact ⟨rfl, rfl⟩
  · refine ⟨_, congrArg Host.Outcome.next (if_pos hon), ?_, rfl, rfl⟩
    rw [State.ring_setRing_same, htaken, startHeld, if_pos ⟨hheld, htmode, hdue, .inr rfl⟩]

end Sys2Proof.Machine
end

section
/-! SUPPORT. Mailboxes (R105-R112): what staging, posting and taking a notice and clearing an abort bit change. -/

namespace Sys2Proof.Machine

/-! ### The writer (R105, R106) -/

/-- A mailbox agent's write to a mailbox its ordering code carries has its effect. -/
theorem State.mbxGate_accepts {s : State} {a : Agent} {off id : Nat} (m : Nat) (k : Nat → State → State) (hbed : s.bedOn = true)
    (hagent : agentMbx a = some id) (hlost : SMap.get (fun _ => 0) s.hlt.lostRegs 0x07 < 5) (hthere : absentReg s.code 0x07 off = false) :
    s.mbxGate a off m k = k id s.done := by
  simp [State.mbxGate, hbed, hagent, Nat.not_le.mpr hlost, hthere]

/-- The mailbox agents are numbered 0 to 7 (R105). -/
theorem agentMbx_lt {a : Agent} {id : Nat} (h : agentMbx a = some id) : id < 8 := by
  cases a <;> simp [agentMbx] at h <;> omega

/-! ### The registers of a mailbox -/

theorem Reg.mbxLo_above (m : Nat) : 0x7100 ≤ Reg.MBX_MnLO m := by unfold Reg.MBX_MnLO; omega
theorem Reg.mbxHi_above (m : Nat) : 0x7100 ≤ Reg.MBX_MnHI m := by unfold Reg.MBX_MnHI; omega
theorem Reg.mbxStat_above (m : Nat) : 0x7100 ≤ Reg.MBX_MnSTAT m := by unfold Reg.MBX_MnSTAT; omega
theorem Reg.mbxLo_ne_hi (m : Nat) : Reg.MBX_MnLO m ≠ Reg.MBX_MnHI m := by unfold Reg.MBX_MnLO Reg.MBX_MnHI; omega
theorem Reg.mbxLo_ne_stat (m : Nat) : Reg.MBX_MnLO m ≠ Reg.MBX_MnSTAT m := by unfold Reg.MBX_MnLO Reg.MBX_MnSTAT; omega
theorem Reg.mbxHi_ne_stat (m : Nat) : Reg.MBX_MnHI m ≠ Reg.MBX_MnSTAT m := by unfold Reg.MBX_MnHI Reg.MBX_MnSTAT; omega

/-- The bitmap of full mailboxes lies below the registers of the mailboxes. -/
theorem State.mbxFullBit_reg (s : State) (m : Nat) (b : Bool) {k : Nat} (h : 0x7100 ≤ k) : (s.mapBit Reg.MBX_FULL_LO m b).reg k = s.reg k :=
  s.mapBit_reg_above m b (lt_of_lt_of_le (by decide) h)

theorem State.mbxFullBit_rd (s : State) (m : Nat) (b : Bool) {f : Fld} (h : 0x7100 ≤ f.addr) : (s.mapBit Reg.MBX_FULL_LO m b).rd f = s.rd f :=
  State.rd_congr (s.mbxFullBit_reg m b h)

/-- An interrupt raised under a condition changes nothing but the interrupts. -/
theorem State.irqIf_keeps (s : State) (c : Prop) [Decidable c] (d : Dest) (src : IrqSrc) :
    (if c then s.irq d src else s).resp = s.resp ∧ (if c then s.irq d src else s).mem = s.mem ∧
      (∀ k, (if c then s.irq d src else s).reg k = s.reg k) ∧
      (if c then s.irq d src else s).irqs = s.irqs ++ if c then [⟨d, src⟩] else [] := by
  split
  · exact ⟨rfl, rfl, fun _ => rfl, rfl⟩
  · exact ⟨rfl, rfl, fun _ => rfl, (List.append_nil _).symm⟩

/-! ### A refused write (R106, R108) -/

/-- A failed access changes no register. -/
@[simp] theorem State.failFor_reg (s : State) (a : Agent) (k : Nat) : (s.failFor a).reg k = s.reg k := by
  rw [s.failFor_eq a]
  rfl

/-- A refused write answers an error and shows its cause, the writer and the mailbox in MBX_STAT. -/
theorem State.mbxRefuse_shows (s : State) {a : Agent} {id m cause : Nat} (hagent : agentMbx a = some id) (hm : m < 64) (hcause : cause < 16) :
    (s.mbxRefuse a m cause).resp = .error ∧ (s.mbxRefuse a m cause).rd F.MBX_STAT_CAUSE = cause ∧
      (s.mbxRefuse a m cause).rd F.MBX_STAT_AGENT = id ∧ (s.mbxRefuse a m cause).rd F.MBX_STAT_MBOX = m := by
  have hid : id < 2 ^ 4 := lt_of_lt_of_le (agentMbx_lt hagent) (by decide)
  have hstat (f : Fld) (hf : f.addr = Reg.MBX_STAT) : (s.mbxRefuse a m cause).rd f =
      (((s.wr F.MBX_STAT_CAUSE cause).wr F.MBX_STAT_AGENT id).wr F.MBX_STAT_MBOX m).rd f := by
    have hcnt : f.addr ≠ F.MBX_REJCNT_CNT.addr := by rw [hf]; decide
    unfold State.mbxRefuse
    rw [hagent, State.rd_congr (State.failFor_reg _ a f.addr), State.inc, State.incBy, State.rd_wr_other _ _ hcnt]
    rfl
  refine ⟨State.failFor_resp _ a, ?_, ?_, ?_⟩
  · rw [hstat _ rfl, State.rd_wr_beside _ _ (by decide) (by decide) (by decide), State.rd_wr_beside _ _ (by decide) (by decide) (by decide)]
    exact s.rd_wr_fits (by decide) hcause
  · rw [hstat _ rfl, State.rd_wr_beside _ _ (by decide) (by decide) (by decide)]
    exact State.rd_wr_fits _ (by decide) hid
  · rw [hstat _ rfl]
    exact State.rd_wr_fits _ (by decide) hm

/-- A refused write leaves the registers of the mailboxes alone. -/
theorem State.mbxRefuse_reg (s : State) (a : Agent) (m cause : Nat) {k : Nat} (h : 0x7100 ≤ k) : (s.mbxRefuse a m cause).reg k = s.reg k := by
  have hstat : k ≠ Reg.MBX_STAT := by unfold Reg.MBX_STAT; omega
  have hcnt : k ≠ Reg.MBX_REJCNT := by unfold Reg.MBX_REJCNT; omega
  unfold State.mbxRefuse
  rw [State.failFor_reg, State.inc, State.incBy, State.reg_wr_other _ _ hcnt, State.reg_wr_other _ _ hstat, State.reg_wr_other _ _ hstat,
    State.reg_wr_other _ _ hstat]

/-! ### Posting a notice (R108, R110) -/

/-- A post that finds the mailbox full is refused with cause FULL. -/
theorem State.mbxPost_full {s : State} (a : Agent) (id : Nat) {m : Nat} (v : W32) (hfull : s.on (F.MBX_MnSTAT_FULL m) = true) :
    s.mbxPost a id m v = s.mbxRefuse a m 1 := by
  unfold State.mbxPost
  dsimp only
  rw [if_pos hfull]

/-- The state with a notice of agent `id` in mailbox `m`: its two words, SRC and FULL. -/
def State.noticePlaced (s : State) (id m : Nat) (lo hi : W32) : State :=
  ((((s.setReg (Reg.MBX_MnLO m) lo).setReg (Reg.MBX_MnHI m) hi).wr (F.MBX_MnSTAT_FULL m) 1).wr (F.MBX_MnSTAT_SRC m) id).mapBit
    Reg.MBX_FULL_LO m true

/-- The words of the notice placed. -/
theorem State.noticePlaced_words (s : State) (id m : Nat) (lo hi : W32) :
    (s.noticePlaced id m lo hi).reg (Reg.MBX_MnLO m) = lo ∧ (s.noticePlaced id m lo hi).reg (Reg.MBX_MnHI m) = hi := by
  unfold State.noticePlaced
  constructor
  · rw [State.mbxFullBit_reg _ _ _ (Reg.mbxLo_above m), State.reg_wr_other _ _ (Reg.mbxLo_ne_stat m), State.reg_wr_other _ _ (Reg.mbxLo_ne_stat m),
      State.reg_setReg_other _ _ (Reg.mbxLo_ne_hi m), State.reg_setReg_same]
  · rw [State.mbxFullBit_reg _ _ _ (Reg.mbxHi_above m), State.reg_wr_other _ _ (Reg.mbxHi_ne_stat m), State.reg_wr_other _ _ (Reg.mbxHi_ne_stat m),
      State.reg_setReg_same]

/-- The mailbox with the notice placed is FULL, names its sender, and keeps IE. -/
theorem State.noticePlaced_stat (s : State) {id : Nat} (m : Nat) (lo hi : W32) (hid : id < 16) :
    (s.noticePlaced id m lo hi).on (F.MBX_MnSTAT_FULL m) = true ∧ (s.noticePlaced id m lo hi).rd (F.MBX_MnSTAT_SRC m) = id ∧
      (s.noticePlaced id m lo hi).on (F.MBX_MnSTAT_IE m) = s.on (F.MBX_MnSTAT_IE m) := by
  unfold State.noticePlaced
  refine ⟨?_, ?_, State.on_congr ?_⟩
  · rw [State.on_congr (State.mbxFullBit_rd _ _ _ (Reg.mbxStat_above m)),
      State.on_congr (State.rd_wr_beside _ _ (by decide : 27 < 32) (by decide : 31 < 32) (by decide : 27 < 31 ∨ 31 < 24))]
    exact State.on_wr_one _ (by decide : 31 < 32) rfl
  · rw [State.mbxFullBit_rd _ _ _ (Reg.mbxStat_above m)]
    exact State.rd_wr_fits _ (by decide : 27 < 32) hid
  · rw [State.mbxFullBit_rd _ _ _ (Reg.mbxStat_above m),
      State.rd_wr_beside _ _ (by decide : 27 < 32) (by decide : 30 < 32) (by decide : 27 < 30 ∨ 30 < 24),
      State.rd_wr_beside _ _ (by decide : 31 < 32) (by decide : 30 < 32) (by decide : 31 < 30 ∨ 30 < 31)]
    refine State.rd_congr ?_
    change ((s.setReg (Reg.MBX_MnLO m) lo).setReg (Reg.MBX_MnHI m) hi).reg (Reg.MBX_MnSTAT m) = s.reg (Reg.MBX_MnSTAT m)
    rw [State.reg_setReg_other _ _ (Reg.mbxHi_ne_stat m).symm, State.reg_setReg_other _ _ (Reg.mbxLo_ne_stat m).symm]

theorem State.noticePlaced_keeps (s : State) (id m : Nat) (lo hi : W32) :
    (s.noticePlaced id m lo hi).resp = s.resp ∧ (s.noticePlaced id m lo hi).irqs = s.irqs := by
  simp [State.noticePlaced]

/-- A notice for an empty mailbox, a receiver that runs and a place R108 allows is placed, with its interrupt where IE asks for it. -/
theorem State.mbxPost_places {s : State} {a : Agent} {id m : Nat} {v : W32} (hempty : s.on (F.MBX_MnSTAT_FULL m) = false)
    (hreach : s.mbxReachable m = true) (hheld : s.held.contains (m / 8) = false)
    (hptr : s.mbxPtrOk m (getBits v 15 0 * 2 ^ 32 + (SMap.get (fun _ => 0) s.mbxStage id).toNat) (getBits v 27 16) = true) :
    s.mbxPost a id m v = if (s.noticePlaced id m (SMap.get (fun _ => 0) s.mbxStage id) v).on (F.MBX_MnSTAT_IE m) = true then
        (s.noticePlaced id m (SMap.get (fun _ => 0) s.mbxStage id) v).irq (.agent (mbxAgent (m / 8))) (.mboxPost m)
      else s.noticePlaced id m (SMap.get (fun _ => 0) s.mbxStage id) v := by
  unfold State.mbxPost State.noticePlaced
  dsimp only
  rw [if_neg (by simp [hempty]), if_neg (by simp [hreach]), if_neg (by rw [hheld]; exact Bool.noConfusion),
    if_neg (by rw [hptr]; exact Bool.noConfusion)]

/-- What a notice posted leaves in the registers of its mailbox and in the interrupts. -/
theorem State.mbxPost_effect {s : State} {a : Agent} {id m : Nat} {v : W32} (hid : id < 16) (hempty : s.on (F.MBX_MnSTAT_FULL m) = false)
    (hreach : s.mbxReachable m = true) (hheld : s.held.contains (m / 8) = false)
    (hptr : s.mbxPtrOk m (getBits v 15 0 * 2 ^ 32 + (SMap.get (fun _ => 0) s.mbxStage id).toNat) (getBits v 27 16) = true) :
    (s.mbxPost a id m v).resp = s.resp ∧ (s.mbxPost a id m v).reg (Reg.MBX_MnLO m) = SMap.get (fun _ => 0) s.mbxStage id ∧
      (s.mbxPost a id m v).reg (Reg.MBX_MnHI m) = v ∧ (s.mbxPost a id m v).on (F.MBX_MnSTAT_FULL m) = true ∧
      (s.mbxPost a id m v).rd (F.MBX_MnSTAT_SRC m) = id ∧ (s.mbxPost a id m v).irqs =
        s.irqs ++ if s.on (F.MBX_MnSTAT_IE m) = true then [⟨.agent (mbxAgent (m / 8)), .mboxPost m⟩] else [] := by
  rw [State.mbxPost_places hempty hreach hheld hptr]
  generalize SMap.get (fun _ => 0) s.mbxStage id = lo
  obtain ⟨hlo, hhi⟩ := s.noticePlaced_words id m lo v
  obtain ⟨hfull, hsrc, hie⟩ := s.noticePlaced_stat m lo v hid
  obtain ⟨hresp, hirqs⟩ := s.noticePlaced_keeps id m lo v
  obtain ⟨hresp', -, hreg, hirqs'⟩ := (s.noticePlaced id m lo v).irqIf_keeps
    ((s.noticePlaced id m lo v).on (F.MBX_MnSTAT_IE m) = true) (.agent (mbxAgent (m / 8))) (.mboxPost m)
  refine ⟨hresp'.trans hresp, (hreg _).trans hlo, (hreg _).trans hhi, (State.on_congr (State.rd_congr (hreg _))).trans hfull,
    (State.rd_congr (hreg _)).trans hsrc, ?_⟩
  rw [hirqs', hirqs, hie]

/-! ### Taking a notice (R110) -/

/-- The state with mailbox `m` emptied by its receiver, before any interrupt. -/
def State.mbxEmptied (s : State) (m : Nat) : State :=
  ((((s.wr (F.MBX_MnSTAT_FULL m) 0).wr (F.MBX_MnSTAT_LAST m) 1).resetReg (Reg.MBX_MnLO m)).resetReg (Reg.MBX_MnHI m)).mapBit
    Reg.MBX_FULL_LO m false

/-- A take empties the mailbox, with an interrupt to the sender where MBX_CTL asks for it. -/
theorem State.mbxTake_eq (s : State) (m : Nat) :
    s.mbxTake m = if bitAt ((s.mbxEmptied m).rd F.MBX_CTL_TAKEIE) (s.rd (F.MBX_MnSTAT_SRC m)) = true then
        (s.mbxEmptied m).irq (.agent (mbxAgent (s.rd (F.MBX_MnSTAT_SRC m)))) (.mboxTake m)
      else s.mbxEmptied m := by
  unfold State.mbxTake State.mbxEmptied
  rfl

/-- A take leaves the response and memory alone, and changes the registers by emptying the mailbox. -/
theorem State.mbxTake_keeps (s : State) (m : Nat) :
    (s.mbxTake m).resp = s.resp ∧ (s.mbxTake m).mem = s.mem ∧ ∀ k, (s.mbxTake m).reg k = (s.mbxEmptied m).reg k := by
  obtain ⟨hresp, hmem⟩ : (s.mbxEmptied m).resp = s.resp ∧ (s.mbxEmptied m).mem = s.mem := by simp [State.mbxEmptied]
  obtain ⟨hresp', hmem', hreg, -⟩ := (s.mbxEmptied m).irqIf_keeps
    (bitAt ((s.mbxEmptied m).rd F.MBX_CTL_TAKEIE) (s.rd (F.MBX_MnSTAT_SRC m)) = true)
    (.agent (mbxAgent (s.rd (F.MBX_MnSTAT_SRC m)))) (.mboxTake m)
  rw [s.mbxTake_eq m]
  exact ⟨hresp'.trans hresp, hmem'.trans hmem, hreg⟩

/-- A field of MBX_MnSTAT reads in an emptied mailbox what FULL and LAST leave it. -/
theorem State.mbxEmptied_stat (s : State) {m : Nat} {f : Fld} (hf : f.addr = Reg.MBX_MnSTAT m) :
    (s.mbxEmptied m).rd f = ((s.wr (F.MBX_MnSTAT_FULL m) 0).wr (F.MBX_MnSTAT_LAST m) 1).rd f := by
  unfold State.mbxEmptied State.resetReg
  rw [State.mbxFullBit_rd _ _ _ (hf ▸ Reg.mbxStat_above m)]
  refine State.rd_congr ?_
  rw [hf, State.reg_setReg_other _ _ (Reg.mbxHi_ne_stat m).symm, State.reg_setReg_other _ _ (Reg.mbxLo_ne_stat m).symm]

/-- A mailbox taken is empty with LAST TAKEN, and keeps IE. -/
theorem State.mbxTake_stat (s : State) (m : Nat) :
    (s.mbxTake m).on (F.MBX_MnSTAT_FULL m) = false ∧ (s.mbxTake m).rd (F.MBX_MnSTAT_LAST m) = 1 ∧
      (s.mbxTake m).rd (F.MBX_MnSTAT_IE m) = s.rd (F.MBX_MnSTAT_IE m) := by
  have hstat (f : Fld) (hf : f.addr = Reg.MBX_MnSTAT m) :
      (s.mbxTake m).rd f = ((s.wr (F.MBX_MnSTAT_FULL m) 0).wr (F.MBX_MnSTAT_LAST m) 1).rd f := by
    obtain ⟨-, -, hreg⟩ := s.mbxTake_keeps m
    exact (State.rd_congr (hreg f.addr)).trans (s.mbxEmptied_stat hf)
  refine ⟨?_, ?_, ?_⟩
  · rw [State.on_congr (hstat (F.MBX_MnSTAT_FULL m) rfl),
      State.on_congr (State.rd_wr_beside _ _ (by decide : 29 < 32) (by decide : 31 < 32) (by decide : 29 < 31 ∨ 31 < 28))]
    exact State.on_wr_zero _ (by decide : 31 < 32)
  · rw [hstat (F.MBX_MnSTAT_LAST m) rfl]
    exact State.rd_wr_same _ _ _ (by decide : 29 < 32)
  · rw [hstat (F.MBX_MnSTAT_IE m) rfl, State.rd_wr_beside _ _ (by decide : 29 < 32) (by decide : 30 < 32) (by decide : 29 < 30 ∨ 30 < 28),
      State.rd_wr_beside _ _ (by decide : 31 < 32) (by decide : 30 < 32) (by decide : 31 < 30 ∨ 30 < 31)]

/-- MBX_MnSTAT of mailbox `m` written with IE of `v`, before the notice held is taken. -/
def State.mbxIeWritten (s : State) (m : Nat) (v : W32) : State :=
  { s.wr (F.MBX_MnSTAT_IE m) (getBits v 30 30) with badParity := s.badParity.filter (fun k => k ≠ Reg.MBX_MnSTAT m) }

theorem State.mbxIeWritten_ie (s : State) (m : Nat) (v : W32) : (s.mbxIeWritten m v).rd (F.MBX_MnSTAT_IE m) = getBits v 30 30 :=
  s.rd_wr_fits (by decide : 30 < 32) (getBits_lt v 30 30)

theorem State.mbxIeWritten_full (s : State) (m : Nat) (v : W32) :
    (s.mbxIeWritten m v).on (F.MBX_MnSTAT_FULL m) = s.on (F.MBX_MnSTAT_FULL m) :=
  State.on_congr (s.rd_wr_beside _ (by decide : 30 < 32) (by decide : 31 < 32) (by decide : 30 < 31 ∨ 31 < 30))

/-- The receiver's write of 1 to FULL of a full mailbox writes IE and takes the notice. -/
theorem State.mbxStatWrite_takes {s : State} {id m : Nat} {v : W32} (hone : getBits v 31 31 = 1) (hrecv : m / 8 = id)
    (hfull : s.on (F.MBX_MnSTAT_FULL m) = true) : s.mbxStatWrite id m v = (s.mbxIeWritten m v).mbxTake m :=
  if_pos ⟨hone, hrecv, (s.mbxIeWritten_full m v).trans hfull⟩

/-! ### Abort bits (R112) -/

/-- A bit of a bitmap cleared is clear. -/
theorem State.mapOn_mapBit_false (s : State) (base q : Nat) : (s.mapBit base q false).mapOn base q = false :=
  s.on_wr_zero (Nat.mod_lt q (by decide) : q % 32 < 32)

/-- The sender's write clears the ABT bit, and any other agent's leaves it. -/
theorem State.mbxAbtWrite_effect (s : State) (id m : Nat) :
    (s.mbxAbtWrite id m).resp = s.resp ∧
      (s.mbxAbtWrite id m).mapOn Reg.MBX_ABT_LO m = (if s.rd (F.MBX_MnSTAT_SRC m) = id then false else s.mapOn Reg.MBX_ABT_LO m) ∧
      (s.mbxAbtWrite id m).mem = s.mem ∧ (s.mbxAbtWrite id m).irqs = s.irqs := by
  unfold State.mbxAbtWrite
  split
  · exact ⟨rfl, s.mapOn_mapBit_false _ m, rfl, rfl⟩
  · exact ⟨rfl, rfl, rfl, rfl⟩

/-! ### The commands -/

/-- Settles O15: each command's effect, by the lemma of the operation it carries out. -/
theorem mailboxCommandsComplete : Obligations.MailboxCommandsComplete := by
  refine ⟨fun s a m v id hbed hagent hlost hm hthere => ?_, fun s a m v id hbed hagent hlost hm hthere hreach hheld hptr => ?_,
    fun s a m v id hbed hagent hlost hm hrecv hthere hfull => ?_, fun s a m id hbed hagent hlost hm hthere => ?_⟩
  · exact ⟨_, congrArg Host.Outcome.next ((if_pos hm).trans (State.mbxGate_accepts m _ hbed hagent hlost hthere)), rfl,
      SMap.get_set_same _ _ _ _, rfl, rfl⟩
  · refine ⟨_, congrArg Host.Outcome.next ((if_pos hm).trans (State.mbxGate_accepts m _ hbed hagent hlost hthere)), ?_⟩
    beta_reduce
    by_cases hfull : s.on (F.MBX_MnSTAT_FULL m) = true
    · obtain ⟨hresp, hcause, hwriter, hbox⟩ := s.done.mbxRefuse_shows hagent hm (cause := 1) (by decide)
      rw [if_pos hfull, State.mbxPost_full (s := s.done) a id v hfull]
      exact ⟨hresp, hcause, hwriter, hbox, s.done.mbxRefuse_reg a m 1 (Reg.mbxHi_above m)⟩
    · have hempty : s.on (F.MBX_MnSTAT_FULL m) = false := by simpa using hfull
      rw [if_neg hfull]
      exact State.mbxPost_effect (s := s.done) (lt_of_lt_of_le (agentMbx_lt hagent) (by decide)) hempty hreach hheld hptr
  · have hone : getBits (setBits v 31 31 1) 31 31 = 1 := getBits_setBits_same (by decide) v 1
    have hie : getBits (setBits v 31 31 1) 30 30 = getBits v 30 30 := getBits_setBits_other (by decide) (by decide) (by decide) v 1
    refine ⟨_, congrArg Host.Outcome.next ((if_pos hm).trans (State.mbxGate_accepts m _ hbed hagent hlost hthere)), ?_⟩
    beta_reduce
    rw [State.mbxStatWrite_takes (s := s.done) hone hrecv hfull]
    obtain ⟨hresp, hmem, -⟩ := (s.done.mbxIeWritten m (setBits v 31 31 1)).mbxTake_keeps m
    obtain ⟨hempty, hlast, hkept⟩ := (s.done.mbxIeWritten m (setBits v 31 31 1)).mbxTake_stat m
    exact ⟨hresp, hempty, hlast, hkept.trans ((s.done.mbxIeWritten_ie m _).trans hie), hmem⟩
  · exact ⟨_, congrArg Host.Outcome.next ((if_pos hm).trans (State.mbxGate_accepts 0 _ hbed hagent hlost hthere)),
      s.done.mbxAbtWrite_effect id m⟩

end Sys2Proof.Machine
end

section
/-! SUPPORT. What a ring entry leaves unchanged (R15-R17, R93-R101): the writing of an entry, the completion of a descriptor and the record of an
event change memory, the rings, the Bed bridge, the interrupts, the recorder and the registers of blocks HLT, EVR and RNG, and nothing else. -/

namespace Sys2Proof.Machine

/-- `s` with all that ring entries and records may change taken from `t`. -/
def State.withEntriesOf (s t : State) : State :=
  { s with
    regs := t.regs, wide := t.wide, mem := t.mem, irqs := t.irqs, bridge := t.bridge, rings := t.rings, evr := t.evr, dram := t.dram, hlt := t.hlt }

/-- The blocks whose registers ring entries and records may change: HLT, EVR and RNG. -/
def entryBlock (blk : Nat) : Prop := blk = 3 ∨ blk = 4 ∨ blk = 6

theorem entryBlock_rngStat (q : Nat) : entryBlock (Reg.RNG_QnSTAT q / 0x1000) := by
  unfold Reg.RNG_QnSTAT entryBlock
  omega

/-- `t` differs from `s` at most as ring entries and records can make it. -/
structure State.EntersTo (s t : State) : Prop where
  eq : t = s.withEntriesOf t
  reg : ∀ k, ¬ entryBlock (k / 0x1000) → t.reg k = s.reg k

namespace State.EntersTo

theorem refl (s : State) : s.EntersTo s := ⟨rfl, fun _ _ => rfl⟩

theorem trans {s t u : State} (h : s.EntersTo t) (h' : t.EntersTo u) : s.EntersTo u :=
  ⟨h'.eq.trans ((congrArg (fun x : State => x.withEntriesOf u) h.eq).trans rfl), fun k hk => (h'.reg k hk).trans (h.reg k hk)⟩

theorem of_recordsTo {s t : State} (h : s.RecordsTo t) : s.EntersTo t := by
  obtain ⟨⟨_, _, _, rfl⟩, hreg⟩ := h
  exact ⟨rfl, fun k hk => hreg k fun h4 => hk (.inr (.inl h4))⟩

theorem rd {s t : State} (h : s.EntersTo t) {f : Fld} (hf : ¬ entryBlock (f.addr / 0x1000)) : t.rd f = s.rd f :=
  State.rd_congr (h.reg f.addr hf)

theorem ing {s t : State} (h : s.EntersTo t) : t.ing = s.ing := (congrArg State.ing h.eq).trans rfl

/-! ### Registers and memory -/

theorem wr (s : State) {f : Fld} (v : Nat) (h : entryBlock (f.addr / 0x1000)) : s.EntersTo (s.wr f v) :=
  ⟨rfl, fun _ hk => s.reg_wr_other v fun e => hk (e ▸ h)⟩

theorem mapBit (s : State) {base : Nat} (q : Nat) (b : Bool) (h : base / 0x1000 = 6) (hend : (base + 12) / 0x1000 = 6) :
    s.EntersTo (s.mapBit base q b) := by
  refine wr s (f := ⟨base + 4 * (q / 32 % 4), q % 32, q % 32⟩) _ (.inr (.inr ?_))
  change (base + 4 * (q / 32 % 4)) / 0x1000 = 6
  omega

theorem storeOne (s : State) (a : Nat) (b : Bytes) (p : Bool) : s.EntersTo (s.storeOne a b p) := by
  unfold State.storeOne State.reencode
  split <;> exact ⟨rfl, fun _ _ => rfl⟩

theorem mirrorCount (s : State) (r : Fin 16) (lo n : Nat) : s.EntersTo (s.mirrorCount r lo n) := by
  have hstat : entryBlock (Reg.HLT_MIRn_STAT r / 0x1000) := .inl (by unfold Reg.HLT_MIRn_STAT; omega)
  exact ⟨rfl, fun k hk => (State.reg_wr_other _ (f := F.HLT_MIRn_STAT_KLINES r) (k := k) _ fun e => hk (e ▸ hstat)).trans rfl⟩

/-- A write of bytes, with what the mirror regions write a second time. -/
theorem store (s : State) (a : Nat) (b : Bytes) (p : Bool) : s.EntersTo (s.store a b p) :=
  List.foldlRecOn (motive := fun x : State => s.EntersTo x) _ _ (storeOne s a b p) fun _ hx _ _ =>
    (hx.trans (storeOne _ _ _ p)).trans (mirrorCount _ _ _ _)

theorem put (s : State) (a : Nat) (b : Bytes) : s.EntersTo (s.put a b) := store s a b false

/-- A write handed to the Bed bridge, accepted or refused. -/
theorem handoff (s : State) (a : Nat) (b : Bytes) : s.EntersTo (s.handoff a b).1 := by
  unfold State.handoff
  split <;> exact ⟨rfl, fun _ _ => rfl⟩

/-! ### Entries -/

theorem setRing (s : State) (q : Nat) (r : Ring) : s.EntersTo (s.setRing q r) := ⟨rfl, fun _ _ => rfl⟩

theorem wideAdd (s : State) (key n : Nat) : s.EntersTo (s.wideAdd key n) := ⟨rfl, fun _ _ => rfl⟩

theorem entryOut (s : State) (q a : Nat) (b : Bytes) : s.EntersTo (s.entryOut q a b) := by
  unfold State.entryOut
  split
  · exact put s a b
  · dsimp only
    split <;> exact ⟨rfl, fun _ _ => rfl⟩

theorem advance (s : State) (q : Nat) : s.EntersTo (s.advance q) := by
  unfold State.advance
  dsimp only
  split
  · exact (wr s _ (entryBlock_rngStat q)).trans (wr _ _ (entryBlock_rngStat q))
  · exact wr s _ (entryBlock_rngStat q)

theorem fullBit (s : State) (q : Nat) : s.EntersTo (s.fullBit q) := mapBit s q _ rfl rfl

theorem writeEntry (s : State) (q op status estat : Nat) (delayed overdue poison : Bool) (tag sq sqidx lateness : Nat) (result : Bytes) :
    s.EntersTo (s.writeEntry q op status estat delayed overdue poison tag sq sqidx lateness result) := by
  unfold State.writeEntry
  extract_lets r flags t u
  have hu : s.EntersTo u := (((entryOut s _ _ _).trans (setRing t _ _)).trans (advance _ q)).trans (fullBit _ q)
  split
  · exact hu.trans (wideAdd u _ _)
  · exact hu

theorem dropEntry (s : State) (q : Nat) : s.EntersTo (s.dropEntry q) := (wideAdd s _ _).trans (setRing _ _ _)

theorem ringPending (s : State) (q : Nat) : s.EntersTo (s.ringPending q) := by
  have hbit : s.EntersTo (s.mapBit (Reg.RNG_IPn 0) q true) := mapBit s q true rfl rfl
  unfold State.ringPending
  dsimp only
  split
  · exact hbit.trans ⟨rfl, fun _ _ => rfl⟩
  · exact hbit

theorem looseEntry (s : State) (q op tag status estat : Nat) (poison : Bool) (result : Bytes) (ip : Bool) :
    s.EntersTo (s.looseEntry q op tag status estat poison result ip).1 := by
  unfold State.looseEntry
  split
  · have hentry := writeEntry s q op status estat false false poison tag 0x7F 0 0 result
    dsimp only
    split
    · exact hentry.trans (ringPending _ q)
    · exact hentry
  · exact dropEntry s q

theorem eventEntry (s : State) (q op tag estat : Nat) (result : Bytes) (ip : Bool) : s.EntersTo (s.eventEntry q op tag estat result ip).1 :=
  looseEntry s q op tag 0 estat false result ip

/-! ### Descriptors -/

theorem unreserve (s : State) (q : Nat) (d : Desc) : s.EntersTo (s.unreserve q d) := (setRing s _ _).trans (setRing _ _ _)

theorem unfence (s : State) (q : Nat) : s.EntersTo (s.unfence q) := by
  unfold State.unfence
  split
  · split
    · exact setRing s _ _
    · exact refl s
  · exact refl s

/-- A descriptor that completes, whether its entry is written, dropped or not wanted. -/
theorem complete (s : State) (q : Nat) (d : Desc) (r : Result) : s.EntersTo (s.complete q d r) := by
  unfold State.complete
  extract_lets delayed overdue lateness c t must v u
  have ht : s.EntersTo t := unreserve s q d
  have hu : s.EntersTo u := by
    unfold u
    split
    · split
      · have hv : s.EntersTo v := ht.trans (writeEntry t _ _ _ _ _ _ _ _ _ _ _ _)
        split
        · exact hv.trans (ringPending v c)
        · exact hv
      · exact ht.trans (dropEntry t c)
    · exact ht
  exact hu.trans (unfence u q)

end State.EntersTo

end Sys2Proof.Machine
end

section
/-! SUPPORT. Frames of sensor ingest (R116-R120, R130, R136): what the publishing of a frame changes, and what it leaves alone. -/

namespace Sys2Proof.Machine

/-! ### What publishing leaves alone -/

/-- The registers that tell of a published frame beside its stream's write position: the flags, the mirror's counts and ING_GAPSTR. -/
def frameTold : List Nat := [Reg.ING_STAT, Reg.ING_MIRPOS, Reg.ING_MIRDROP, Reg.ING_GAPSTR]

/-- The registers of block ING that the publishing of a frame leaves alone, beside its stream's write position. -/
def publishingKeeps (k : Nat) : Prop := k / 0x1000 = 8 ∧ k ∉ frameTold

/-- The registers that tell of a frame are among the first of block ING. -/
theorem publishingKeeps_above {k : Nat} (hblk : k / 0x1000 = 8) (h : Reg.ING_GAPSTR < k) : publishingKeeps k := by
  have hlow : ∀ r ∈ frameTold, r ≤ Reg.ING_GAPSTR := by decide
  exact ⟨hblk, fun hk => absurd h (Nat.not_lt.mpr (hlow k hk))⟩

/-- `s` with all that the publishing of frames may change taken from `t`. -/
def State.withFramesOf (s t : State) : State :=
  { s.withEntriesOf t with
    ing := { s.ing with streams := t.ing.streams, mirGap := t.ing.mirGap, captures := t.ing.captures } }

/-- `t` differs from `s` at most as the publishing of frames of the streams `S` can make it. -/
structure State.PublishesTo (S : Set Nat) (s t : State) : Prop where
  eq : t = s.withFramesOf t
  stream : ∀ n, n ∉ S → t.stream n = s.stream n
  reg : ∀ k, publishingKeeps k → (∀ n ∈ S, k ≠ Reg.ING_STRn_WPOS n) → t.reg k = s.reg k

/-- Setting a stream leaves every other stream alone. -/
theorem State.stream_setStream_other (s : State) {n m : Nat} (x : Stream) (h : m ≠ n) : (s.setStream n x).stream m = s.stream m :=
  SMap.get_set_other _ _ _ h

/-- A stream reads as it was set. -/
@[simp] theorem State.stream_setStream_same (s : State) (n : Nat) (x : Stream) : (s.setStream n x).stream n = x :=
  SMap.get_set_same _ _ _ _

/-- Ring entries and records leave the streams alone. -/
theorem State.EntersTo.stream {s t : State} (h : s.EntersTo t) (n : Nat) : t.stream n = s.stream n := by
  unfold State.stream
  rw [h.ing]

/-- An event entry on rings 4 and 5 (R137). -/
theorem State.EntersTo.ingEntry (s : State) (tag subject : Nat) : s.EntersTo (s.ingEntry tag subject) :=
  (eventEntry s _ _ _ _ _ _).trans (eventEntry _ _ _ _ _ _ _)

theorem State.EntersTo.ingEvent (s : State) (tag subject sev : Nat) : s.EntersTo (s.ingEvent tag subject sev) :=
  (ingEntry s tag subject).trans (of_recordsTo (.record _ _ _ _ _ _ _))

namespace State.PublishesTo

variable {S : Set Nat} {s t u : State}

theorem refl (s : State) : PublishesTo S s s := ⟨rfl, fun _ _ => rfl, fun _ _ _ => rfl⟩

theorem trans (h : PublishesTo S s t) (h' : PublishesTo S t u) : PublishesTo S s u :=
  ⟨h'.eq.trans ((congrArg (fun x : State => x.withFramesOf u) h.eq).trans rfl), fun n hn => (h'.stream n hn).trans (h.stream n hn),
    fun k hk hS => (h'.reg k hk hS).trans (h.reg k hk hS)⟩

/-- What no stream's publishing changes, no publishing of the streams `S` changes. -/
theorem widen (h : PublishesTo ∅ s t) : PublishesTo S s t :=
  ⟨h.eq, fun n _ => h.stream n (Set.notMem_empty n), fun k hk _ => h.reg k hk fun _ hn => absurd hn (Set.notMem_empty _)⟩

/-- Ring entries and records are part of publishing. -/
theorem of_entersTo (h : s.EntersTo t) : PublishesTo S s t := by
  have hing : t.ing = s.ing := h.ing
  refine ⟨h.eq.trans ?_, fun n _ => h.stream n, fun k ⟨hblk, _⟩ _ => h.reg k ?_⟩
  · unfold State.withFramesOf
    rw [hing]
    rfl
  · unfold entryBlock
    omega

theorem wr (s : State) {f : Fld} (v : Nat) (h : f.addr ∈ frameTold) : PublishesTo S s (s.wr f v) :=
  ⟨rfl, fun _ _ => rfl, fun _ hk _ => s.reg_wr_other v fun e => hk.2 (e ▸ h)⟩

/-! ### The fields kept -/

theorem resp (h : PublishesTo S s t) : t.resp = s.resp := (congrArg State.resp h.eq).trans rfl
theorem now (h : PublishesTo S s t) : t.now = s.now := (congrArg State.now h.eq).trans rfl

theorem rd (h : PublishesTo S s t) {f : Fld} (hf : publishingKeeps f.addr) (hS : ∀ n ∈ S, f.addr ≠ Reg.ING_STRn_WPOS n) : t.rd f = s.rd f :=
  State.rd_congr (h.reg f.addr hf hS)

/-! ### Mirror and captures (R130, R136) -/

/-- The GAP owed to the mirror, set. -/
theorem mirGap (s : State) (b : Bool) : PublishesTo S s { s with ing := { s.ing with mirGap := b } } :=
  ⟨rfl, fun _ _ => rfl, fun _ _ _ => rfl⟩

theorem mirrorFrame (s : State) (n : Nat) (trays : List (List Samp × (Bytes × Bool))) : PublishesTo S s (s.mirrorFrame n trays) := by
  unfold State.mirrorFrame
  split
  · extract_lets l pos r t m u
    have hr : PublishesTo S s r.1 := of_entersTo (.handoff s _ _)
    split
    · exact (hr.trans (mirGap r.1 false)).trans (wr (f := F.ING_MIRPOS_POS) _ _ (by decide))
    · exact ((wr (f := F.ING_MIRDROP_CNT) s _ (by decide)).trans (wr (f := F.ING_STAT_MIRDROP) _ _ (by decide))).trans (mirGap _ true)
  · exact refl s

/-- The captures that run, set. -/
theorem captures (s : State) (l : List Capture) : PublishesTo S s { s with ing := { s.ing with captures := l } } :=
  ⟨rfl, fun _ _ => rfl, fun _ _ _ => rfl⟩

theorem captureFrame (s : State) (c : Capture) (trays : List (List Samp × (Bytes × Bool))) (bytes : Bytes) :
    PublishesTo S s (s.captureFrame c trays bytes) := by
  unfold State.captureFrame
  extract_lets t0 others a first ok w c2 res st
  have hw : PublishesTo S s w.1 := by
    unfold w
    split
    · exact refl s
    · split
      · exact of_entersTo (.put s a bytes)
      · exact of_entersTo (.handoff s a bytes)
  split
  · exact refl s
  · split
    · exact (captures s others).trans (of_entersTo (.complete _ _ _ _))
    · split
      · exact (hw.trans (captures _ others)).trans (of_entersTo (.complete _ _ _ _))
      · exact hw.trans (captures _ _)

/-! ### Frames (R117, R119, R137) -/

theorem notify (s : State) (stat ie : Fld) : PublishesTo S s (s.notify stat ie) := of_entersTo (.of_recordsTo (.notify s stat ie))

/-- Once the write position has moved on, what a published frame brings about leaves every stream and every write position alone. -/
theorem framePublished (s : State) (n : Nat) (trays : List (List Samp × (Bytes × Bool))) (bytes : Bytes) :
    PublishesTo ∅ (s.stepWpos n) (s.framePublished n trays bytes) := by
  unfold State.framePublished
  extract_lets t1 t2 t3
  have h2 : PublishesTo ∅ (s.stepWpos n) t2 := (of_entersTo (.wideAdd _ _ _)).trans (mirrorFrame t1 n trays)
  have h3 : PublishesTo ∅ (s.stepWpos n) t3 :=
    List.foldlRecOn (motive := fun x : State => PublishesTo ∅ (s.stepWpos n) x) _ _ h2 fun x hx c _ =>
      hx.trans (captureFrame x c trays bytes)
  split
  · exact (((h3.trans (wr _ _ (by decide))).trans (wr _ _ (by decide))).trans ((wr _ _ (by decide)).trans (notify _ _ _))).trans
      (of_entersTo (.ingEntry _ _ _))
  · exact h3

/-- A stream set. -/
theorem setStream (s : State) {n : Nat} (x : Stream) (hn : n ∈ S) : PublishesTo S s (s.setStream n x) :=
  ⟨rfl, fun _ hm => s.stream_setStream_other x fun e => hm (e ▸ hn), fun _ _ _ => rfl⟩

theorem stepWpos (s : State) {n : Nat} (hn : n ∈ S) : PublishesTo S s (s.stepWpos n) :=
  (setStream s _ hn).trans ⟨rfl, fun _ _ => rfl, fun _ _ hS => State.reg_wr_other _ _ (hS n hn)⟩

end State.PublishesTo

/-- All that the publishing of samples can do: nothing, or the frame stands in its buffer and the write position moves on. -/
theorem State.publishFrame_cases (s : State) (n : Nat) (samples : List Samp) :
    ((samples = [] ∨ s.on (F.ING_STRn_CFG_EN n) = false) ∧ s.publishFrame n samples = s) ∨
      (∃ u, s.EntersTo u ∧ PublishesTo ∅ (u.stepWpos n) (s.publishFrame n samples)) := by
  unfold State.publishFrame
  split
  · next h => exact .inl ⟨h, rfl⟩
  · exact .inr ⟨_, .put s _ _, .framePublished _ n _ _⟩

theorem State.PublishesTo.publishFrame {S : Set Nat} (s : State) {n : Nat} (samples : List Samp) (hn : n ∈ S) :
    PublishesTo S s (s.publishFrame n samples) := by
  obtain ⟨-, h⟩ | ⟨u, hu, h⟩ := s.publishFrame_cases n samples
  · rw [h]
    exact refl s
  · exact ((of_entersTo hu).trans (stepWpos u hn)).trans h.widen

theorem State.PublishesTo.publishOpen {S : Set Nat} (s : State) {n : Nat} (hn : n ∈ S) : PublishesTo S s (s.publishOpen n) :=
  (setStream s _ hn).trans (publishFrame _ _ hn)

theorem State.PublishesTo.placeAt {S : Set Nat} (s : State) {n : Nat} (instant : Nat) (x : Samp) (hn : n ∈ S) :
    PublishesTo S s (s.placeAt n instant x) := by
  unfold State.placeAt
  dsimp only
  split
  · exact refl s
  · split
    · exact (setStream s _ hn).trans (publishOpen _ hn)
    · exact setStream s _ hn

/-- The write position moves on in the stream's own registers and in no stream's open frame. -/
theorem State.stepWpos_buf (s : State) (n : Nat) : ((s.stepWpos n).stream n).buf = (s.stream n).buf :=
  (congrArg Stream.buf (s.stream_setStream_same n _)).trans rfl

/-- The write position moves on modulo 2^32 (R119). -/
theorem State.stepWpos_wpos (s : State) (n : Nat) :
    (s.stepWpos n).rd (F.ING_STRn_WPOS_WPOS n) = (s.rd (F.ING_STRn_WPOS_WPOS n) + 1) % 2 ^ 32 :=
  State.rd_wr_same _ _ _ (by decide : 31 < 32)

theorem publishingKeeps_wpos (n : Nat) : publishingKeeps (Reg.ING_STRn_WPOS n) :=
  publishingKeeps_above (by unfold Reg.ING_STRn_WPOS; omega) (by unfold Reg.ING_GAPSTR Reg.ING_STRn_WPOS; omega)

/-- A published open frame is empty. -/
theorem State.publishOpen_buf (s : State) (n : Nat) : ((s.publishOpen n).stream n).buf = [] := by
  have hempty : ((s.setStream n { s.stream n with buf := [] }).stream n).buf = [] := congrArg Stream.buf (s.stream_setStream_same n _)
  unfold State.publishOpen
  obtain ⟨-, h⟩ | ⟨u, hu, h⟩ := State.publishFrame_cases (s.setStream n { s.stream n with buf := [] }) n (s.stream n).buf
  · rw [h]
    exact hempty
  · rw [h.stream n (Set.notMem_empty n), u.stepWpos_buf n, hu.stream n]
    exact hempty

/-- An enabled stream whose open frame holds samples publishes it: the write position moves one frame on. -/
theorem State.publishOpen_wpos {s : State} {n : Nat} (hbuf : (s.stream n).buf ≠ []) (hon : s.on (F.ING_STRn_CFG_EN n) = true) :
    (s.publishOpen n).rd (F.ING_STRn_WPOS_WPOS n) = (s.rd (F.ING_STRn_WPOS_WPOS n) + 1) % 2 ^ 32 := by
  unfold State.publishOpen
  obtain ⟨hnone, -⟩ | ⟨u, hu, h⟩ := State.publishFrame_cases (s.setStream n { s.stream n with buf := [] }) n (s.stream n).buf
  · exact absurd (hon.symm.trans (hnone.resolve_left hbuf)) (by decide)
  · have hwpos : ¬ entryBlock (Reg.ING_STRn_WPOS n / 0x1000) := by unfold Reg.ING_STRn_WPOS entryBlock; omega
    rw [h.rd (publishingKeeps_wpos n) (by simp), u.stepWpos_wpos n, hu.rd hwpos]
    rfl

/-- The sample `x` at the end of the open frame of stream `n`; it takes the GAP owed. -/
def State.addSample (s : State) (n : Nat) (x : Samp) : State :=
  s.setStream n { s.stream n with buf := (s.stream n).buf ++ [{ x with gap := (s.stream n).gap }], gap := false }

theorem State.addSample_buf (s : State) (n : Nat) (x : Samp) :
    ((s.addSample n x).stream n).buf = (s.stream n).buf ++ [{ x with gap := (s.stream n).gap }] :=
  (congrArg Stream.buf (s.stream_setStream_same n _)).trans rfl

/-- A sample of an enabled stream whose open frame has room for more than one is added to it. -/
theorem State.placeAt_of_room {s : State} {n instant : Nat} (x : Samp) (hon : s.on (F.ING_STRn_CFG_EN n) = true)
    (hsince : (s.stream n).since ≤ instant) (hroom : (s.stream n).buf.length < 97) : s.placeAt n instant x = s.addSample n x := by
  have hlen : ((s.stream n).buf ++ [{ x with gap := (s.stream n).gap }]).length ≠ 98 := by
    rw [List.length_append, List.length_singleton]
    omega
  unfold State.placeAt
  dsimp only
  rw [if_neg (by simp [hon, hsince]), if_neg hlen]
  rfl

theorem State.placeSample_of_room {s : State} {n : Nat} {x : Samp} (hon : s.on (F.ING_STRn_CFG_EN n) = true)
    (hsince : (s.stream n).since ≤ x.t) (hroom : (s.stream n).buf.length < 97) : s.placeSample n x = s.addSample n x :=
  State.placeAt_of_room x hon hsince hroom

end Sys2Proof.Machine
end

section
/-! SUPPORT. The channels and streams of sensor ingest (R116-R124): what a sample, a configuration write, a hit, a report and an edge change. -/

namespace Sys2Proof.Machine

/-! ### Configuration writes (R10, R117, R122) -/

/-- The description of the ING_STRn_CFG registers. -/
def streamCfgDesc : RegDesc :=
  ⟨0x400, [(0x4, 112)], [.mkAny .rwp 31 31 0x0, .mkAny .rwp 30 30 0x0, ⟨29, 26, .rwp, .rng 4 15, 0x4, none⟩, .mkAny .rwp 23 16 0x0,
    .mkAny .rwp 15 0 0x0]⟩

theorem findReg_streamCfg (n : Nat) : findReg (Reg.ING_STRn_CFG n / 0x1000) (Reg.ING_STRn_CFG n % 0x1000) = some streamCfgDesc := by
  have h : ∀ i : Fin 112, findReg ((0x8400 + 0x4 * i.val) / 0x1000) ((0x8400 + 0x4 * i.val) % 0x1000) = some streamCfgDesc := by decide
  exact h ⟨n % 112, Nat.mod_lt _ (by decide)⟩

theorem streamCfgDesc_fieldsApart : streamCfgDesc.fieldsApart := by
  unfold RegDesc.fieldsApart
  decide

/-- A write of ING_STRn_CFG sets EN, LOG2F and BASE. -/
theorem State.applyWrite_streamCfg (s : State) (n : Nat) (v : W32) :
    (s.applyWrite (Reg.ING_STRn_CFG n) v).rd (F.ING_STRn_CFG_EN n) = getBits v 31 31 ∧
      (s.applyWrite (Reg.ING_STRn_CFG n) v).rd (F.ING_STRn_CFG_LOG2F n) = getBits v 29 26 ∧
      (s.applyWrite (Reg.ING_STRn_CFG n) v).rd (F.ING_STRn_CFG_BASE n) = getBits v 15 0 :=
  ⟨s.getBits_applyWrite (f := .mkAny .rwp 31 31 0x0) v (findReg_streamCfg n) streamCfgDesc_fieldsApart (by decide) rfl,
    s.getBits_applyWrite (f := ⟨29, 26, .rwp, .rng 4 15, 0x4, none⟩) v (findReg_streamCfg n) streamCfgDesc_fieldsApart (by decide) rfl,
    s.getBits_applyWrite (f := .mkAny .rwp 15 0 0x0) v (findReg_streamCfg n) streamCfgDesc_fieldsApart (by decide) rfl⟩

/-- The description of the ING_ACHn_CFG registers. -/
def analogueCfgDesc : RegDesc :=
  ⟨0x100, [(0x4, 48)], [.mkAny .rwp 31 31 0x0, .mkAny .rwp 30 30 0x0, ⟨29, 27, .rwp, .rng 0 4, 0x0, none⟩, .mkAny .rwp 26 24 0x0,
    .mkAny .rwp 23 21 0x0, ⟨20, 19, .rwp, .rng 0 2, 0x0, none⟩, .mkAny .rwp 18 16 0x0, .mkAny .rwp 7 0 0x0]⟩

theorem findReg_analogueCfg (n : Nat) : findReg (Reg.ING_ACHn_CFG n / 0x1000) (Reg.ING_ACHn_CFG n % 0x1000) = some analogueCfgDesc := by
  have h : ∀ i : Fin 48, findReg ((0x8100 + 0x4 * i.val) / 0x1000) ((0x8100 + 0x4 * i.val) % 0x1000) = some analogueCfgDesc := by decide
  exact h ⟨n % 48, Nat.mod_lt _ (by decide)⟩

theorem analogueCfgDesc_fieldsApart : analogueCfgDesc.fieldsApart := by
  unfold RegDesc.fieldsApart
  decide

/-- A write of ING_ACHn_CFG sets EN, RATE and EMIN. -/
theorem State.applyWrite_analogueCfg (s : State) (n : Nat) (v : W32) :
    (s.applyWrite (Reg.ING_ACHn_CFG n) v).rd (F.ING_ACHn_CFG_EN n) = getBits v 31 31 ∧
      (s.applyWrite (Reg.ING_ACHn_CFG n) v).rd (F.ING_ACHn_CFG_RATE n) = getBits v 23 21 ∧
      (s.applyWrite (Reg.ING_ACHn_CFG n) v).rd (F.ING_ACHn_CFG_EMIN n) = getBits v 7 0 :=
  ⟨s.getBits_applyWrite (f := .mkAny .rwp 31 31 0x0) v (findReg_analogueCfg n) analogueCfgDesc_fieldsApart (by decide) rfl,
    s.getBits_applyWrite (f := .mkAny .rwp 23 21 0x0) v (findReg_analogueCfg n) analogueCfgDesc_fieldsApart (by decide) rfl,
    s.getBits_applyWrite (f := .mkAny .rwp 7 0 0x0) v (findReg_analogueCfg n) analogueCfgDesc_fieldsApart (by decide) rfl⟩

@[simp] theorem State.applyWrite_ing (s : State) (key : Nat) (v : W32) : (s.applyWrite key v).ing = s.ing := by rw [s.applyWrite_eq key v]

@[simp] theorem State.applyWrite_stream (s : State) (key : Nat) (v : W32) (n : Nat) : (s.applyWrite key v).stream n = s.stream n := by
  rw [s.applyWrite_eq key v]
  rfl

/-! ### Streams (R117, R120) -/

theorem Reg.streamCfg_ne_wpos (n : Nat) : Reg.ING_STRn_CFG n ≠ Reg.ING_STRn_WPOS n := by unfold Reg.ING_STRn_CFG Reg.ING_STRn_WPOS; omega

/-- An enabling write whose buffer is aligned and lies in the Bed store starts the stream at position 0 with an empty frame. -/
theorem State.streamCfgWrite_starts {s : State} {n : Nat} {v : W32} (hlisted : listedAt (Reg.ING_STRn_CFG n) v = true)
    (hoff : s.on (F.ING_STRn_CFG_EN n) = false) (hen : getBits v 31 31 = 1)
    (haligned : getBits v 15 0 * 512 % (512 * 2 ^ getBits v 29 26) = 0)
    (hinside : getBits v 15 0 * 512 + 512 * 2 ^ getBits v 29 26 ≤ 0x2000000) :
    s.streamCfgWrite n v = ((s.applyWrite (Reg.ING_STRn_CFG n) v).wr (F.ING_STRn_WPOS_WPOS n) 0).setStream n
      { s.stream n with buf := [], since := s.now, wrapped := false } := by
  simp [State.streamCfgWrite, hlisted, hoff, hen, haligned, Nat.not_lt.mpr hinside]

/-- A write of EN = 0 is applied, after the open frame of an enabled stream is published. -/
theorem State.streamCfgWrite_stops {s : State} {n : Nat} {v : W32} (hlisted : listedAt (Reg.ING_STRn_CFG n) v = true)
    (hen : getBits v 31 31 = 0) : s.streamCfgWrite n v =
      (if s.on (F.ING_STRn_CFG_EN n) then (s.publishOpen n).dropFlight n else s).applyWrite (Reg.ING_STRn_CFG n) v := by
  cases hon : s.on (F.ING_STRn_CFG_EN n) <;> simp [State.streamCfgWrite, hlisted, hen, hon]

/-- An enabled stream stands at position 0 with an empty frame, and in ING_STRn_CFG as written. -/
theorem State.streamCfgWrite_started {s : State} {n : Nat} {v : W32} (hlisted : listedAt (Reg.ING_STRn_CFG n) v = true)
    (hoff : s.on (F.ING_STRn_CFG_EN n) = false) (hen : getBits v 31 31 = 1)
    (haligned : getBits v 15 0 * 512 % (512 * 2 ^ getBits v 29 26) = 0)
    (hinside : getBits v 15 0 * 512 + 512 * 2 ^ getBits v 29 26 ≤ 0x2000000) :
    (s.streamCfgWrite n v).resp = s.resp ∧ (s.streamCfgWrite n v).on (F.ING_STRn_CFG_EN n) = true ∧
      (s.streamCfgWrite n v).rd (F.ING_STRn_CFG_LOG2F n) = getBits v 29 26 ∧
      (s.streamCfgWrite n v).rd (F.ING_STRn_CFG_BASE n) = getBits v 15 0 ∧ (s.streamCfgWrite n v).rd (F.ING_STRn_WPOS_WPOS n) = 0 ∧
      (s.streamCfgWrite n v).stream n = ⟨[], (s.stream n).gap, s.now, false, (s.stream n).flight⟩ ∧ (s.streamCfgWrite n v).mem = s.mem := by
  rw [State.streamCfgWrite_starts hlisted hoff hen haligned hinside]
  obtain ⟨hset, hlog, hbase⟩ := s.applyWrite_streamCfg n v
  have hcfg (f : Fld) (hf : f.addr = Reg.ING_STRn_CFG n) :
      ((s.applyWrite (Reg.ING_STRn_CFG n) v).wr (F.ING_STRn_WPOS_WPOS n) 0).rd f = (s.applyWrite (Reg.ING_STRn_CFG n) v).rd f :=
    State.rd_wr_other _ _ (hf ▸ Reg.streamCfg_ne_wpos n)
  have hwpos : ((s.applyWrite (Reg.ING_STRn_CFG n) v).wr (F.ING_STRn_WPOS_WPOS n) 0).rd (F.ING_STRn_WPOS_WPOS n) = 0 :=
    State.rd_wr_fits _ (by decide : 31 < 32) (by decide : 0 < 2 ^ 32)
  exact ⟨s.applyWrite_resp _ v, decide_eq_true ((hcfg _ rfl).trans (hset.trans hen)), (hcfg _ rfl).trans hlog, (hcfg _ rfl).trans hbase,
    hwpos, State.stream_setStream_same _ n _, s.applyWrite_mem _ v⟩

/-- A stream that stops keeps its open frame and the response. -/
theorem State.dropFlight_keeps (s : State) (n : Nat) :
    ((s.dropFlight n).stream n).buf = (s.stream n).buf ∧ (s.dropFlight n).resp = s.resp := by
  unfold State.dropFlight
  dsimp only
  split
  · exact ⟨rfl, rfl⟩
  · exact ⟨(congrArg Stream.buf (s.stream_setStream_same n _)).trans rfl, rfl⟩

/-- A stream disabled holds no open frame where it was enabled. -/
theorem State.streamCfgWrite_stopped {s : State} {n : Nat} {v : W32} (hlisted : listedAt (Reg.ING_STRn_CFG n) v = true)
    (hen : getBits v 31 31 = 0) :
    (s.streamCfgWrite n v).resp = s.resp ∧ (s.streamCfgWrite n v).on (F.ING_STRn_CFG_EN n) = false ∧
      (s.on (F.ING_STRn_CFG_EN n) = true → ((s.streamCfgWrite n v).stream n).buf = []) := by
  rw [State.streamCfgWrite_stops hlisted hen]
  have hoff (t : State) : (t.applyWrite (Reg.ING_STRn_CFG n) v).on (F.ING_STRn_CFG_EN n) = false := by
    obtain ⟨hset, -, -⟩ := t.applyWrite_streamCfg n v
    simp [State.on, hset, hen]
  cases hon : s.on (F.ING_STRn_CFG_EN n) with
  | false => exact ⟨s.applyWrite_resp _ v, hoff s, fun h => absurd h Bool.false_ne_true⟩
  | true =>
    obtain ⟨hbuf, hresp⟩ := (s.publishOpen n).dropFlight_keeps n
    have hpublish := State.PublishesTo.publishOpen s (Set.mem_singleton n)
    rw [if_pos rfl]
    exact ⟨(State.applyWrite_resp _ _ v).trans (hresp.trans hpublish.resp), hoff _,
      fun _ => (congrArg Stream.buf (State.applyWrite_stream _ _ v n)).trans (hbuf.trans (s.publishOpen_buf n))⟩

/-! ### Analogue channels (R121, R122) -/

/-- A converter reads as it was set. -/
@[simp] theorem State.chan_setChan_same (s : State) (n : Nat) (c : Chan) : (s.setChan n c).chan n = c := SMap.get_set_same _ _ _ _

/-- The sample of a grid instant that has left the decimation filter and that its converter has not yet given is placed in the stream. -/
theorem execAnalogueSample_places {s : State} {n instant : Nat} (code : Int) (hbed : s.bedOn = true) (hn : n < s.code.analogues)
    (hon : s.on (F.ING_ACHn_CFG_EN n) = true) (hgrid : instant % s.chanPeriod n = 0) (hleft : instant + 3 * s.chanPeriod n ≤ s.now)
    (hrestart : (s.chan n).restart ≤ instant) (hlast : (s.chan n).last.all (fun l => decide (l < instant)) = true) :
    execAnalogueSample n instant code s = .next (
      let x := convert (s.rd (F.ING_ACHn_CFG_RANGE n)) code
      let y := filterStep (s.rd (F.ING_ACHn_CFG_FILT n)) (s.rd (F.ING_ACHn_CFG_FPAR n)) (s.chan n) x.1
      (s.setChan n { y.2 with last := some instant }).placeAt n instant
        { t := (instant + 7) / 8 * 8, entered := s.now, v := y.1, sat := x.2, settle := decide (instant < (s.chan n).settleEnd),
          deg := s.chanDeg n, gap := false }) := by
  refine congrArg Host.Outcome.next (if_neg ?_)
  rintro (h | h | h | h | h | h | h)
  · exact Bool.false_ne_true (h.symm.trans hbed)
  · exact absurd hn (Nat.not_lt.mpr h)
  · exact Bool.false_ne_true (h.symm.trans hon)
  · exact h hgrid
  · exact absurd hleft (Nat.not_le.mpr h)
  · exact absurd hrestart (Nat.not_le.mpr h)
  · cases hl : (s.chan n).last with
    | none => simp [hl] at h
    | some l =>
      simp only [hl, Option.all_some, decide_eq_true_eq] at h hlast
      omega

/-- A write of ING_ACHn_CFG that changes a field other than EMIN publishes the open frame and restarts the converter. -/
theorem State.chanCfgWrite_restarts {s : State} {n : Nat} {v : W32} (hlisted : listedAt (Reg.ING_ACHn_CFG n) v = true)
    (hchange : s.reg (Reg.ING_ACHn_CFG n) &&& 0xFFFF0000 ≠ v &&& 0xFFFF0000) :
    s.chanCfgWrite n v = ((s.publishOpen n).applyWrite (Reg.ING_ACHn_CFG n) v).chanRestart n := by
  unfold State.chanCfgWrite
  rw [if_neg (by simp [hlisted]), if_neg hchange]

/-- One that changes EMIN at most is applied, and nothing else. -/
theorem State.chanCfgWrite_applies {s : State} {n : Nat} {v : W32} (hlisted : listedAt (Reg.ING_ACHn_CFG n) v = true)
    (hsame : s.reg (Reg.ING_ACHn_CFG n) &&& 0xFFFF0000 = v &&& 0xFFFF0000) :
    s.chanCfgWrite n v = s.applyWrite (Reg.ING_ACHn_CFG n) v := by
  unfold State.chanCfgWrite
  rw [if_neg (by simp [hlisted]), if_pos hsame]

/-- A write of ING_ACHn_CFG sets its fields, whether or not it restarts the converter. -/
theorem State.chanCfgWrite_fields {s : State} {n : Nat} {v : W32} (hlisted : listedAt (Reg.ING_ACHn_CFG n) v = true) :
    (s.chanCfgWrite n v).resp = s.resp ∧ (s.chanCfgWrite n v).rd (F.ING_ACHn_CFG_EN n) = getBits v 31 31 ∧
      (s.chanCfgWrite n v).rd (F.ING_ACHn_CFG_RATE n) = getBits v 23 21 ∧
      (s.chanCfgWrite n v).rd (F.ING_ACHn_CFG_EMIN n) = getBits v 7 0 := by
  by_cases hsame : s.reg (Reg.ING_ACHn_CFG n) &&& 0xFFFF0000 = v &&& 0xFFFF0000
  · rw [State.chanCfgWrite_applies hlisted hsame]
    exact ⟨s.applyWrite_resp _ v, s.applyWrite_analogueCfg n v⟩
  · have hpublish := State.PublishesTo.publishOpen s (Set.mem_singleton n)
    rw [State.chanCfgWrite_restarts hlisted hsame]
    exact ⟨((s.publishOpen n).applyWrite_resp _ v).trans hpublish.resp, (s.publishOpen n).applyWrite_analogueCfg n v⟩

/-- A converter that restarts begins at this instant with no sample given. -/
theorem State.chanCfgWrite_restarted {s : State} {n : Nat} {v : W32} (hlisted : listedAt (Reg.ING_ACHn_CFG n) v = true)
    (hchange : s.reg (Reg.ING_ACHn_CFG n) &&& 0xFFFF0000 ≠ v &&& 0xFFFF0000) :
    ((s.chanCfgWrite n v).chan n).restart = s.now ∧ ((s.chanCfgWrite n v).chan n).last = none := by
  have hpublish := State.PublishesTo.publishOpen s (Set.mem_singleton n)
  rw [State.chanCfgWrite_restarts hlisted hchange, State.chanRestart, State.chan_setChan_same]
  exact ⟨((s.publishOpen n).applyWrite_now _ v).trans hpublish.now, rfl⟩

/-! ### Acoustic channels (R123) -/

/-- A counter counts one, saturating. -/
theorem State.rd_inc_same (s : State) {f : Fld} (h : f.hi < 32) : (s.inc f).rd f = min (s.rd f + 1) (maxOf f.width) := by
  refine s.rd_wr_fits h (lt_of_le_of_lt (Nat.min_le_right _ _) ?_)
  exact Nat.sub_lt (by positivity) one_pos

/-- An acoustic channel reads as it was set. -/
@[simp] theorem State.acoustic_setAcoustic_same (s : State) (n : Nat) (a : Acoustic) : (s.setAcoustic n a).acoustic n = a :=
  SMap.get_set_same _ _ _ _

/-- A crossing counts where no dead time runs and the detector has re-armed, or where it is the first. -/
theorem execAcousticHit_counts {s : State} {n : Nat} {rearmed : Bool} (hbed : s.bedOn = true) (hn : n < s.code.acousticChannels)
    (hon : s.on (F.ING_ACCn_CFG_EN n) = true)
    (hlive : (s.acoustic n).last.all (fun x => rearmed && decide (x + s.rd (F.ING_ACCn_CFG_DEAD n) * 10000 ≤ s.now)) = true) :
    execAcousticHit n rearmed s = .next ((s.setAcoustic n { s.acoustic n with
      hits := s.now :: (s.acoustic n).hits, last := some s.now }).inc (F.ING_HITn_HITS n)) := by
  refine congrArg Host.Outcome.next (if_pos ⟨hbed, hn, hon, ?_⟩)
  cases hl : (s.acoustic n).last with
  | none => rfl
  | some x => simpa [hl] using hlive

/-! ### Frequency inputs (R124) -/

/-- A frequency input reads as it was set. -/
@[simp] theorem State.freq_setFreq_same (s : State) (n : Nat) (f : FreqIn) : (s.setFreq n f).freq n = f := SMap.get_set_same _ _ _ _

/-- Setting a frequency input leaves every other one alone. -/
theorem State.freq_setFreq_other (s : State) {n m : Nat} (f : FreqIn) (h : m ≠ n) : (s.setFreq n f).freq m = s.freq m :=
  SMap.get_set_other _ _ _ h

/-- The second input of a pair is not the first. -/
theorem State.ne_of_freqSecond {s : State} {n : Nat} (h : s.freqSecond n = true) : n - 1 ≠ n := by
  simp only [State.freqSecond, Bool.and_eq_true, decide_eq_true_eq] at h
  omega

/-- The count of input `m` moved by `step`. -/
def State.freqCount (s : State) (m : Nat) (step : Int) : State := s.setFreq m { s.freq m with count := (s.freq m).count + step }

/-- A count leaves the edges of every input alone. -/
theorem State.freqCount_edges (s : State) (m : Nat) (step : Int) (n : Nat) : ((s.freqCount m step).freq n).edges = (s.freq n).edges := by
  unfold State.freqCount
  by_cases h : n = m
  · rw [h, State.freq_setFreq_same]
  · rw [State.freq_setFreq_other _ _ h]

/-- The state with an edge of input `n` stamped. -/
def State.stampEdge (s : State) (n : Nat) : State := s.setFreq n { s.freq n with edges := (s.now :: (s.freq n).edges).take 256 }

/-- The input whose MODE an edge of input `n` is judged by: the first of its pair. -/
def State.edgeMaster (s : State) (n : Nat) : Nat := if s.freqSecond n then n - 1 else n

/-- The state after an edge of input `n` that a quadrature pair counts as `step`. -/
def State.edgeStamped (s : State) (n : Nat) (step : Int) : State :=
  if s.rd (F.ING_FQn_CFG_MODE (s.edgeMaster n)) = 2 ∧ (step = 1 ∨ step = -1) then (s.stampEdge n).freqCount (s.edgeMaster n) step
  else s.stampEdge n

theorem execFreqEdge_stamps {s : State} {n : Nat} {step : Int} (hbed : s.bedOn = true) (hn : n < s.code.freqInputs)
    (hon : s.on (F.ING_FQn_CFG_EN n) = true ∨ s.freqSecond n = true) : execFreqEdge n step s = .next (s.edgeStamped n step) :=
  congrArg Host.Outcome.next (if_pos ⟨hbed, hn, hon⟩)

/-- An edge is stamped, and a quadrature pair counts. -/
theorem State.edgeStamped_effect (s : State) (n : Nat) (step : Int) :
    ((s.edgeStamped n step).freq n).edges = (s.now :: (s.freq n).edges).take 256 ∧ (s.edgeStamped n step).regs = s.regs ∧
      (s.edgeStamped n step).mem = s.mem ∧
      (s.freqSecond n = true → s.rd (F.ING_FQn_CFG_MODE (n - 1)) = 2 → step = 1 ∨ step = -1 →
        ((s.edgeStamped n step).freq (n - 1)).count = (s.freq (n - 1)).count + step) := by
  have hstamp : ((s.stampEdge n).freq n).edges = (s.now :: (s.freq n).edges).take 256 :=
    (congrArg FreqIn.edges (s.freq_setFreq_same n _)).trans rfl
  have hmaster (h : s.freqSecond n = true) : s.edgeMaster n = n - 1 := if_pos h
  unfold State.edgeStamped
  split
  · refine ⟨(State.freqCount_edges _ _ step n).trans hstamp, rfl, rfl, fun hsecond _ _ => ?_⟩
    rw [hmaster hsecond, State.freqCount, State.freq_setFreq_same, State.stampEdge, s.freq_setFreq_other _ (State.ne_of_freqSecond hsecond)]
  · next hno => exact ⟨hstamp, rfl, rfl, fun hsecond hmode hstep => absurd ⟨by rwa [hmaster hsecond], hstep⟩ hno⟩

/-- The state after input `n` has given its measurement, or a free value before the first one. -/
def State.freqSampled (s : State) (n : Nat) : State :=
  match s.freqValue n with
  | some (v, sat) => s.addSample (64 + n) (s.plainSample v sat)
  | none => s.tickFree.addSample (64 + n) (s.plainSample (Frac.ofInt s.freshNat) false)

theorem execFreqOutputSample_adds {s : State} {n : Nat} (hbed : s.bedOn = true) (hn : n < s.code.freqInputs)
    (hon : s.on (F.ING_FQn_CFG_EN n) = true) (hfirst : s.freqSecond n = false) (hstream : s.on (F.ING_STRn_CFG_EN (64 + n)) = true)
    (hsince : (s.stream (64 + n)).since ≤ s.now) (hroom : (s.stream (64 + n)).buf.length < 97) :
    execFreqOutputSample n s = .next (s.freqSampled n) := by
  rw [execFreqOutputSample, if_pos ⟨hbed, hn, hon, hfirst⟩, State.freqSampled]
  cases s.freqValue n with
  | none => exact congrArg Host.Outcome.next (State.placeSample_of_room (s := s.tickFree) hstream hsince hroom)
  | some p => exact congrArg Host.Outcome.next (State.placeSample_of_room hstream hsince hroom)

/-- The measurement of an input is the newest sample of its stream; a value is free before the first one is complete. -/
theorem State.freqSampled_effect (s : State) (n : Nat) :
    (s.freqSampled n).regs = s.regs ∧ (s.freqSampled n).mem = s.mem ∧
      (s.freqSampled n).free = s.free + (if (s.freqValue n).isSome = true then 0 else 1) ∧
      ((s.freqSampled n).stream (64 + n)).buf.length = (s.stream (64 + n)).buf.length + 1 ∧
      ((s.freqValue n).isSome = true → (((s.freqSampled n).stream (64 + n)).buf.getLast?.map fun x => (x.v, x.sat, x.t)) =
        (s.freqValue n).map fun p => (p.1, p.2, s.now)) := by
  unfold State.freqSampled
  cases s.freqValue n with
  | none =>
    refine ⟨rfl, rfl, rfl, ?_, fun h => absurd h Bool.false_ne_true⟩
    rw [State.addSample_buf, List.length_append]
    rfl
  | some p =>
    refine ⟨rfl, rfl, rfl, ?_, fun _ => ?_⟩
    · rw [State.addSample_buf, List.length_append]
      rfl
    · rw [State.addSample_buf, List.getLast?_concat]
      rfl

/-! ### The commands -/

/-- Settles O16: each command's effect, by the lemma of the operation it carries out. -/
theorem sensorChannelCommandsComplete : Obligations.SensorChannelCommandsComplete := by
  refine ⟨fun s n instant code hbed hn hon hgrid hleft hrestart hlast hstream hsince hroom => ?_,
    fun s n x r hbed hn hon hbuf hflush hwaited => ?_, fun s a n v hn hacc hlisted hoff haligned hinside => ?_,
    fun s a n v hn hacc hlisted => ?_, fun s a n v hn hacc hlisted => ?_, fun s n rearmed hbed hn hon hlive => ?_,
    fun s n fin hbed hn hon hfin hover hstream hsince hroom => ?_, fun s n x hbed hn hon hraw hstream hsince hroom => ?_,
    fun s n step hbed hn hon => ?_, fun s n hbed hn hon hfirst hstream hsince hroom => ?_⟩
  · refine ⟨_, execAnalogueSample_places code hbed hn hon hgrid hleft hrestart hlast, ?_⟩
    extract_lets x y
    rw [State.placeAt_of_room (s := s.setChan n _) _ hstream hsince hroom]
    exact ⟨State.addSample_buf _ n _, (congrArg Chan.last (s.chan_setChan_same n _)).trans rfl, rfl, rfl⟩
  · have hexec : exec (.frameFlushTimeout n) s = .next (s.publishOpen n) := by
      change execFrameFlushTimeout n s = _
      rw [execFrameFlushTimeout, hbuf]
      exact congrArg Host.Outcome.next (if_pos ⟨hbed, hn, hflush, hwaited⟩)
    exact ⟨_, hexec, State.publishOpen_wpos (by simp [hbuf]) hon, s.publishOpen_buf n⟩
  · refine ⟨_, congrArg Host.Outcome.next ((if_pos hn).trans (State.gate_accepts _ hacc)), ?_⟩
    have hbits {hi lo : Nat} (h : hi < 31) : getBits (setBits v 31 31 1) hi lo = getBits v hi lo :=
      getBits_setBits_other (by decide) (by omega) (.inr h) v 1
    have hlog := hbits (hi := 29) (lo := 26) (by decide)
    have hbase := hbits (hi := 15) (lo := 0) (by decide)
    rw [← hlog, ← hbase] at haligned hinside ⊢
    exact State.streamCfgWrite_started (s := s.done) hlisted hoff (getBits_setBits_same (by decide) v 1) haligned hinside
  · refine ⟨_, congrArg Host.Outcome.next ((if_pos hn).trans (State.gate_accepts _ hacc)), ?_⟩
    exact State.streamCfgWrite_stopped (s := s.done) hlisted (getBits_setBits_same (by decide) v 0)
  · refine ⟨_, congrArg Host.Outcome.next ((if_pos hn).trans (State.gate_accepts _ hacc)), ?_⟩
    beta_reduce
    obtain ⟨hresp, hen, hrate, hemin⟩ := State.chanCfgWrite_fields (s := s.done) hlisted
    refine ⟨hresp, hen, hrate, hemin, fun h => State.chanCfgWrite_restarted (s := s.done) hlisted h, fun h => ?_⟩
    rw [State.chanCfgWrite_applies (s := s.done) hlisted h]
    exact ⟨s.done.applyWrite_ing _ v, s.done.applyWrite_mem _ v⟩
  · exact ⟨_, execAcousticHit_counts hbed hn hon hlive, s.acoustic_setAcoustic_same n _, State.rd_inc_same _ (by decide : 31 < 32), rfl, rfl⟩
  · subst hfin
    refine ⟨_, congrArg Host.Outcome.next (if_pos ⟨hbed, hn, hon, hover⟩), ?_⟩
    rw [State.placeSample, State.placeAt_of_room (s := s.setAcoustic n _) _ hstream hsince hroom]
    exact ⟨(congrArg Acoustic.hits (s.acoustic_setAcoustic_same n _)).trans rfl,
      (congrArg Acoustic.since (s.acoustic_setAcoustic_same n _)).trans rfl, rfl, rfl, State.addSample_buf _ _ _⟩
  · refine ⟨_, congrArg Host.Outcome.next (if_pos ⟨hbed, hn, hon, hraw⟩), ?_⟩
    rw [State.placeSample_of_room hstream hsince hroom]
    exact ⟨rfl, rfl, State.addSample_buf s _ _⟩
  · exact ⟨_, execFreqEdge_stamps hbed hn hon, s.edgeStamped_effect n step⟩
  · exact ⟨_, execFreqOutputSample_adds hbed hn hon hfirst hstream hsince hroom, s.freqSampled_effect n⟩

end Sys2Proof.Machine
end

section
/-! SUPPORT. The sensor supplies, the converter references and the captures (R118, R125-R129, R136): what a fault, a check and a descriptor
change. -/

namespace Sys2Proof.Machine

/-! ### Registers of block ING -/

/-- A field of block ING reads the same after ring entries and records. -/
theorem State.EntersTo.ing_rd {s t : State} (h : s.EntersTo t) {f : Fld} (hf : f.addr / 0x1000 = 8) : t.rd f = s.rd f :=
  h.rd (by unfold entryBlock; omega)

/-- A status bit set, with its interrupt, reads 1. -/
theorem State.flag_rd_same (s : State) {stat ie : Fld} (h : stat.hi < 32) (hbit : stat.hi = stat.lo) : (s.flag stat ie).rd stat = 1 := by
  rw [State.flag, State.rd_congr (State.notify_reg _ _ _ _), s.rd_wr_same stat 1 h, hbit, Nat.add_sub_cancel_left]
  rfl

/-- A status bit set, with its interrupt, leaves the fields of other registers alone. -/
theorem State.flag_rd_other (s : State) {stat ie f : Fld} (h : f.addr ≠ stat.addr) : (s.flag stat ie).rd f = s.rd f :=
  State.rd_congr (s.flag_reg h)

theorem State.withIng_rd (s : State) (i : Ingest) (f : Fld) : State.rd { s with ing := i } f = s.rd f := rfl

@[simp] theorem State.flag_ing (s : State) (stat ie : Fld) : (s.flag stat ie).ing = s.ing :=
  (State.EntersTo.of_recordsTo (.notify (s.wr stat 1) stat ie)).ing

/-! ### Supplies (R118, R125) -/

theorem Reg.supplyStat_block (n : Nat) : Reg.ING_SUPn_STAT n / 0x1000 = 8 := by unfold Reg.ING_SUPn_STAT; omega
theorem Reg.supplyStat_ne_stat (n : Nat) : Reg.ING_SUPn_STAT n ≠ Reg.ING_STAT := by unfold Reg.ING_SUPn_STAT Reg.ING_STAT; omega

theorem Reg.supplyStat_ne_wpos (n m : Nat) : Reg.ING_SUPn_STAT n ≠ Reg.ING_STRn_WPOS m := by unfold Reg.ING_SUPn_STAT Reg.ING_STRn_WPOS; omega

theorem publishingKeeps_supplyStat (n : Nat) : publishingKeeps (Reg.ING_SUPn_STAT n) :=
  publishingKeeps_above (Reg.supplyStat_block n) (by unfold Reg.ING_GAPSTR Reg.ING_SUPn_STAT; omega)

/-- A supply's ON and FAULT, both written, read as written. -/
theorem State.supplyStat_written (s : State) (n : Nat) {on fault : Nat} (hon : on < 2) (hfault : fault < 4) :
    ((s.wr (F.ING_SUPn_STAT_ON n) on).wr (F.ING_SUPn_STAT_FAULT n) fault).rd (F.ING_SUPn_STAT_ON n) = on ∧
      ((s.wr (F.ING_SUPn_STAT_ON n) on).wr (F.ING_SUPn_STAT_FAULT n) fault).rd (F.ING_SUPn_STAT_FAULT n) = fault := by
  refine ⟨?_, State.rd_wr_fits _ (by decide : 30 < 32) hfault⟩
  rw [State.rd_wr_beside _ _ (by decide : 30 < 32) (by decide : 31 < 32) (by decide : 30 < 31 ∨ 31 < 29)]
  exact s.rd_wr_fits (by decide : 31 < 32) hon

/-- A faulted supply is off, shows its fault and sets SUPFLT. -/
theorem State.supplyFault_shows {s : State} {n fault : Nat} (hbed : s.bedOn = true) (hn : n < s.code.supplies)
    (hon : s.on (F.ING_SUPn_STAT_ON n) = true) (hfault : fault < 4) :
    (s.supplyFault n fault).on (F.ING_SUPn_STAT_ON n) = false ∧ (s.supplyFault n fault).rd (F.ING_SUPn_STAT_FAULT n) = fault ∧
      (s.supplyFault n fault).rd F.ING_STAT_SUPFLT = 1 := by
  obtain ⟨hoff, hshown⟩ := s.supplyStat_written n (on := 0) (by decide) hfault
  rw [State.supplyFault, if_pos ⟨hbed, hn, hon⟩]
  extract_lets t i u
  clear_value i
  have hevent := State.EntersTo.ingEvent (u.flag F.ING_STAT_SUPFLT F.ING_CTL_IE_SUP) 4 n sevFault
  have hstat (f : Fld) (hf : f.addr = Reg.ING_SUPn_STAT n) :
      ((u.flag F.ING_STAT_SUPFLT F.ING_CTL_IE_SUP).ingEvent 4 n sevFault).rd f = t.rd f := by
    rw [hevent.ing_rd (hf ▸ Reg.supplyStat_block n), u.flag_rd_other (hf ▸ Reg.supplyStat_ne_stat n)]
    exact t.withIng_rd i f
  refine ⟨?_, (hstat _ rfl).trans hshown, (hevent.ing_rd rfl).trans (u.flag_rd_same (by decide) rfl)⟩
  rw [State.on_congr (hstat _ rfl)]
  exact decide_eq_false (by rw [hoff]; decide)

/-! ### The measurement of the references (R127) -/

/-- The three deviations and DRIFT written. -/
def State.refsWritten (s : State) (ab a b : Int) : State :=
  (((s.wr F.ING_REFDEV_AB_DEV (toPattern 16 ab)).wr F.ING_REFDEV_A_DEV (toPattern 16 a)).wr F.ING_REFDEV_B_DEV (toPattern 16 b)).wrB
    F.ING_REFSTAT_DRIFT (decide (50 < ab.natAbs))

theorem State.refsWritten_shows (s : State) (ab a b : Int) :
    (s.refsWritten ab a b).rd F.ING_REFDEV_AB_DEV = toPattern 16 ab ∧ (s.refsWritten ab a b).rd F.ING_REFDEV_A_DEV = toPattern 16 a ∧
      (s.refsWritten ab a b).rd F.ING_REFDEV_B_DEV = toPattern 16 b ∧
      (s.refsWritten ab a b).rd F.ING_REFSTAT_DRIFT = (if 50 < ab.natAbs then 1 else 0) := by
  have hfits (x : Int) : toPattern 16 x < 2 ^ 16 := toPattern_lt 16 x
  unfold State.refsWritten State.wrB
  refine ⟨?_, ?_, ?_, ?_⟩
  · rw [State.rd_wr_other _ _ (by decide), State.rd_wr_other _ _ (by decide), State.rd_wr_other _ _ (by decide)]
    exact State.rd_wr_fits _ (by decide) (hfits ab)
  · rw [State.rd_wr_other _ _ (by decide), State.rd_wr_other _ _ (by decide)]
    exact State.rd_wr_fits _ (by decide) (hfits a)
  · rw [State.rd_wr_other _ _ (by decide)]
    exact State.rd_wr_fits _ (by decide) (hfits b)
  · simp only [decide_eq_true_eq]
    exact State.rd_wr_fits _ (by decide) (by split <;> decide)

/-- The bits of ING_REFSTAT beside DRIFT keep their values. -/
theorem State.refsWritten_refstat (s : State) (ab a b : Int) {f : Fld} (hreg : f.addr = Reg.ING_REFSTAT) (hbits : f.hi < 2) :
    (s.refsWritten ab a b).rd f = s.rd f := by
  unfold State.refsWritten State.wrB
  rw [State.rd_wr_beside _ _ (by decide) (by omega) (.inr hbits), State.rd_wr_other _ _ (hreg ▸ by decide),
    State.rd_wr_other _ _ (hreg ▸ by decide), State.rd_wr_other _ _ (hreg ▸ by decide)]

/-- A measurement is what it writes, and the flag, entries and record of DRIFT's first rise. -/
theorem State.measureRefs_eq (s : State) (ab a b : Int) : s.measureRefs ab a b =
    if (decide (50 < ab.natAbs) && !s.ing.driftSeen) = true then
      (({ s.refsWritten ab a b with ing := { s.ing with driftSeen := true } }).flag F.ING_STAT_REFDRIFT F.ING_CTL_IE_REF).ingEvent 1 0 sevWarning
    else s.refsWritten ab a b := rfl

/-- A measurement leaves the fields of block ING outside ING_STAT as it writes them. -/
theorem State.measureRefs_rd (s : State) (ab a b : Int) {f : Fld} (hblk : f.addr / 0x1000 = 8) (hstat : f.addr ≠ Reg.ING_STAT) :
    (s.measureRefs ab a b).rd f = (s.refsWritten ab a b).rd f := by
  rw [s.measureRefs_eq ab a b]
  split
  · rw [(State.EntersTo.ingEvent _ 1 0 sevWarning).ing_rd hblk, State.flag_rd_other _ hstat]
    rfl
  · rfl

/-- A measurement does not vote. -/
theorem State.measureRefs_devRun (s : State) (ab a b : Int) : (s.measureRefs ab a b).ing.devRun = s.ing.devRun := by
  rw [s.measureRefs_eq ab a b]
  split
  · rw [(State.EntersTo.ingEvent _ 1 0 sevWarning).ing, State.flag_ing]
  · rfl

/-- A measurement shows its three deviations and DRIFT, and leaves the references in service as they are. -/
theorem State.measureRefs_shows (s : State) (ab a b : Int) :
    (s.measureRefs ab a b).rd F.ING_REFDEV_AB_DEV = toPattern 16 ab ∧ (s.measureRefs ab a b).rd F.ING_REFDEV_A_DEV = toPattern 16 a ∧
      (s.measureRefs ab a b).rd F.ING_REFDEV_B_DEV = toPattern 16 b ∧
      (s.measureRefs ab a b).rd F.ING_REFSTAT_DRIFT = (if 50 < ab.natAbs then 1 else 0) ∧
      (s.measureRefs ab a b).rd F.ING_REFSTAT_AOUT = s.rd F.ING_REFSTAT_AOUT ∧
      (s.measureRefs ab a b).rd F.ING_REFSTAT_BOUT = s.rd F.ING_REFSTAT_BOUT := by
  obtain ⟨hab, ha, hb, hdrift⟩ := s.refsWritten_shows ab a b
  exact ⟨(s.measureRefs_rd ab a b rfl (by decide)).trans hab, (s.measureRefs_rd ab a b rfl (by decide)).trans ha,
    (s.measureRefs_rd ab a b rfl (by decide)).trans hb, (s.measureRefs_rd ab a b rfl (by decide)).trans hdrift,
    (s.measureRefs_rd ab a b rfl (by decide)).trans (s.refsWritten_refstat ab a b rfl (by decide)),
    (s.measureRefs_rd ab a b rfl (by decide)).trans (s.refsWritten_refstat ab a b rfl (by decide))⟩

/-! ### The vote (R128, R129) -/

/-- What a measurement shows: the deviations and DRIFT. -/
def refsShown : List Fld := [F.ING_REFDEV_AB_DEV, F.ING_REFDEV_A_DEV, F.ING_REFDEV_B_DEV, F.ING_REFSTAT_DRIFT]

/-- What a vote decides. -/
def voteBits : List Fld := [F.ING_REFSTAT_UNRES, F.ING_REFSTAT_AOUT, F.ING_REFSTAT_BOUT]

/-- What a measurement shows is left alone by what a vote decides. -/
theorem State.rd_wr_vote (s : State) {f g : Fld} (v : Nat) (hf : f ∈ refsShown) (hg : g ∈ voteBits) : (s.wr g v).rd f = s.rd f := by
  have hapart : ∀ f ∈ refsShown, ∀ g ∈ voteBits, f.hi < 32 ∧ g.hi < 32 ∧ (f.addr ≠ g.addr ∨ g.hi < f.lo ∨ f.hi < g.lo) := by decide
  obtain ⟨hfw, hgw, hreg | hbits⟩ := hapart f hf g hg
  · exact s.rd_wr_other v hreg
  · exact s.rd_wr_beside v hgw hfw hbits

/-- The registers of the references lie in block ING above ING_STAT. -/
theorem refsShown_reg {f : Fld} (hf : f ∈ refsShown) : f.addr / 0x1000 = 8 ∧ f.addr ≠ Reg.ING_STAT := by
  have h : ∀ f ∈ refsShown, f.addr / 0x1000 = 8 ∧ f.addr ≠ Reg.ING_STAT := by decide
  exact h f hf

/-- A converter's restart changes no register. -/
theorem State.chanRestart_rd (s : State) (n : Nat) (f : Fld) : (s.chanRestart n).rd f = s.rd f := s.withIng_rd _ f

/-- One round of the move of an outvoted reference's channels. -/
def State.moveChannel (s : State) (n : Nat) : State := ((s.publishOpen n).mapBit Reg.ING_DEGMAP_LO n true).chanRestart n

/-- The move of a channel leaves alone what a measurement shows. -/
theorem State.moveChannel_rd (s : State) (n : Nat) {f : Fld} (hf : f ∈ refsShown) : (s.moveChannel n).rd f = s.rd f := by
  have hplace : ∀ f ∈ refsShown, (f.addr / 0x1000 = 8 ∧ f.addr ∉ frameTold) ∧ f.addr < Reg.ING_DEGMAP_LO := by decide
  obtain ⟨hkeeps, hlow⟩ := hplace f hf
  unfold Reg.ING_DEGMAP_LO at hlow
  have hdeg : f.addr ≠ Reg.ING_DEGMAP_LO + 4 * (n / 32 % 4) := by unfold Reg.ING_DEGMAP_LO; omega
  have hwpos : ∀ m ∈ ({n} : Set Nat), f.addr ≠ Reg.ING_STRn_WPOS m := fun m _ => by unfold Reg.ING_STRn_WPOS; omega
  rw [State.moveChannel, State.chanRestart_rd]
  exact (State.rd_wr_other (f := ⟨Reg.ING_DEGMAP_LO + 4 * (n / 32 % 4), n % 32, n % 32⟩) _ _ hdeg).trans
    ((State.PublishesTo.publishOpen s (Set.mem_singleton n)).rd hkeeps hwpos)

/-- The state in which a reference is about to be outvoted: its channels have moved to the other. -/
def State.channelsMoved (s : State) (r : Nat) : State :=
  ((List.range s.code.analogues).filter fun n => decide (s.rd (F.ING_ACHn_CFG_REF n) = r)).foldl State.moveChannel s

theorem State.channelsMoved_rd (s : State) (r : Nat) {f : Fld} (hf : f ∈ refsShown) : (s.channelsMoved r).rd f = s.rd f :=
  List.foldlRecOn (motive := fun x : State => x.rd f = s.rd f) _ _ rfl fun _ hx n _ => (State.moveChannel_rd _ n hf).trans hx

/-- The state in which the vote against reference `r` is about to be told: `r` is out, and the vote is resolved. -/
def State.referenceOut (s : State) (r : Nat) : State :=
  let t := if r = 0 then (s.channelsMoved r).wr F.ING_REFSTAT_AOUT 1 else (s.channelsMoved r).wr F.ING_REFSTAT_BOUT 1
  { t.wr F.ING_REFSTAT_UNRES 0 with ing := { t.ing with degAll := false, devRun := 0 } }

theorem State.outvote_eq (s : State) (r : Nat) :
    s.outvote r = ((s.referenceOut r).flag F.ING_STAT_REFMOVE F.ING_CTL_IE_REF).ingEvent 2 r sevFault := rfl

/-- The telling of the vote leaves the fields of block ING outside ING_STAT alone. -/
theorem State.outvote_rd (s : State) (r : Nat) {f : Fld} (hblk : f.addr / 0x1000 = 8) (hstat : f.addr ≠ Reg.ING_STAT) :
    (s.outvote r).rd f = (s.referenceOut r).rd f := by
  rw [s.outvote_eq r, (State.EntersTo.ingEvent _ 2 r sevFault).ing_rd hblk, State.flag_rd_other _ hstat]

/-- An outvoted reference leaves alone what a measurement shows. -/
theorem State.outvote_rd_shown (s : State) (r : Nat) {f : Fld} (hf : f ∈ refsShown) : (s.outvote r).rd f = s.rd f := by
  obtain ⟨hblk, hstat⟩ := refsShown_reg hf
  have hmoved := s.channelsMoved_rd r hf
  rw [s.outvote_rd r hblk hstat, State.referenceOut, State.withIng_rd, State.rd_wr_vote _ _ hf (by decide)]
  split
  · exact (State.rd_wr_vote _ _ hf (by decide)).trans hmoved
  · exact (State.rd_wr_vote _ _ hf (by decide)).trans hmoved

/-- REFB outvoted is out, and the move is told. -/
theorem State.outvote_refB (s : State) : (s.outvote 1).on F.ING_REFSTAT_BOUT = true ∧ (s.outvote 1).rd F.ING_STAT_REFMOVE = 1 := by
  constructor
  · rw [State.on_congr (s.outvote_rd 1 (by decide) (by decide)), State.referenceOut, if_neg one_ne_zero,
      State.on_congr (State.withIng_rd _ _ _), State.on_congr (State.rd_wr_beside _ _ (by decide) (by decide) (by decide))]
    exact State.on_wr_one _ (by decide) rfl
  · rw [s.outvote_eq 1, (State.EntersTo.ingEvent _ 2 1 sevFault).ing_rd rfl]
    exact State.flag_rd_same _ (by decide) rfl

/-- An unresolved vote leaves alone what a measurement shows. -/
theorem State.unresolved_rd_shown (s : State) {f : Fld} (hf : f ∈ refsShown) : s.unresolved.rd f = s.rd f := by
  obtain ⟨hblk, -⟩ := refsShown_reg hf
  unfold State.unresolved
  dsimp only
  split
  · rfl
  · rw [(State.EntersTo.ingEntry _ 3 0).ing_rd hblk, State.rd_wr_vote _ _ hf (by decide), State.withIng_rd]

theorem State.vote_rd_shown (s : State) (a b : Int) {f : Fld} (hf : f ∈ refsShown) : (s.vote a b).rd f = s.rd f := by
  unfold State.vote
  split
  · exact s.outvote_rd_shown 1 hf
  · split
    · exact s.outvote_rd_shown 0 hf
    · exact s.unresolved_rd_shown hf

/-- The judgement of a check leaves the deviations and DRIFT as measured. -/
theorem State.judgeRefs_rd_shown (s : State) (ab a b : Int) {f : Fld} (hf : f ∈ refsShown) : (s.judgeRefs ab a b).rd f = s.rd f := by
  unfold State.judgeRefs
  extract_lets one far run i t
  have ht : t.rd f = s.rd f := s.withIng_rd i f
  split
  · split
    · exact ht
    · split
      · exact (t.unresolved_rd_shown hf).trans ht
      · exact (t.vote_rd_shown a b hf).trans ht
  · exact (State.withIng_rd _ _ f).trans (State.rd_wr_vote s _ hf (by decide))

/-- The second deviating check in a row, with both references in service, moves the channels off REFB where the bandgap stands by REFA. -/
theorem State.judgeRefs_outvotesB {s : State} {ab a b : Int} (hA : s.on F.ING_REFSTAT_AOUT = false) (hB : s.on F.ING_REFSTAT_BOUT = false)
    (hfar : 200 < ab.natAbs) (hrun : s.ing.devRun = 1) (ha : a.natAbs ≤ 100) (hb : 100 < b.natAbs) :
    ∃ t : State, s.judgeRefs ab a b = t.outvote 1 := by
  refine ⟨{ s with ing := { s.ing with devRun := s.ing.devRun + 1, degAll := s.ing.degAll || true } }, ?_⟩
  simp [State.judgeRefs, hA, hB, hfar, hrun, State.vote, ha, hb]

/-! ### Captures (R136) -/

/-- The one descriptor of a ring that runs, with arguments the spec accepts, becomes a running capture. -/
theorem execCapture_starts {s : State} {q : Nat} {d : Desc} (hq : q < 8) (htaken : (s.ring q).taken = [d]) (hrun : d.running = true)
    (hop : d.op = 1) (hnone : s.ing.captures = []) (hstream : d.le 16 1 < 112) (hpos : 0 < d.le 20 4) (hmax : d.le 20 4 ≤ 2 ^ 20)
    (haligned : d.le 24 8 % 512 = 0) (hon : s.on (F.ING_STRn_CFG_EN (d.le 16 1)) = true)
    (hinside : inBedRange (d.le 24 8) 512 = true ∨ inDramRange s.code (d.le 24 8) 512 = true) :
    execCapture q s =
      .next { s with ing := { s.ing with captures := [⟨q, d, d.le 16 1, d.le 24 8, d.le 20 4, 0, 0, none, d.started⟩] } } := by
  have hargs : ¬ (112 ≤ d.le 16 1 ∨ d.le 20 4 = 0 ∨ 2 ^ 20 < d.le 20 4 ∨ d.le 24 8 % 512 ≠ 0 ∨
      s.on (F.ING_STRn_CFG_EN (d.le 16 1)) = false) := by
    rintro (h | h | h | h | h)
    · exact absurd hstream (Nat.not_lt.mpr h)
    · exact hpos.ne' h
    · exact absurd hmax (Nat.not_le.mpr h)
    · exact h haligned
    · exact Bool.false_ne_true (h.symm.trans hon)
  have hdest : ¬ (inBedRange (d.le 24 8) 512 || inDramRange s.code (d.le 24 8) 512) = false := by
    rw [(Bool.or_eq_true _ _).mpr hinside]
    decide
  unfold execCapture
  rw [if_neg (Nat.not_le.mpr hq), htaken, hnone]
  simp only [List.find?_cons, hrun, hop, List.any_nil]
  exact congrArg Host.Outcome.next ((if_neg hargs).trans (if_neg hdest))

/-! ### The commands -/

/-- Settles O17: each command's effect, by the lemma of the operation it carries out. -/
theorem supplyAndReferenceCommandsComplete : Obligations.SupplyAndReferenceCommandsComplete := by
  refine ⟨fun s n hbed hn hon => ⟨_, rfl, State.supplyFault_shows hbed hn hon (by decide)⟩,
    fun s n hbed hn hon => ⟨_, rfl, State.supplyFault_shows hbed hn hon (by decide)⟩,
    fun s n hbed hn hen hretry hfault hoff => ?_, fun s n ma hbed hn => ?_, fun s ab a b hbed => ?_, fun s q ab a b d hq hrun => ?_,
    fun s q d hq htaken hrun hop hnone hstream hpos hmax haligned hon hinside => ?_⟩
  · obtain ⟨hon, hclear⟩ := s.supplyStat_written n (on := 1) (fault := 0) (by decide) (by decide)
    exact ⟨_, congrArg Host.Outcome.next (if_pos ⟨hbed, hn, hen, hretry, hfault, hoff⟩), decide_eq_true hon, hclear, rfl, rfl⟩
  · refine ⟨_, congrArg Host.Outcome.next (if_pos ⟨hbed, hn⟩), ?_⟩
    have hplaced := State.PublishesTo.placeAt (s.wrSat (F.ING_SUPn_STAT_MA n) ma) s.now (s.plainSample ⟨ma, 1000⟩ false)
      (Set.mem_singleton (104 + n))
    exact (hplaced.rd (publishingKeeps_supplyStat n) fun m _ => Reg.supplyStat_ne_wpos n m).trans
      (s.rd_wrSat_same _ ma (by decide : 15 < 32))
  · obtain ⟨hab, ha, hb, hdrift, hA, hB⟩ := s.measureRefs_shows ab a b
    refine ⟨_, congrArg Host.Outcome.next (if_pos hbed), ?_⟩
    refine ⟨(State.judgeRefs_rd_shown _ ab a b (by decide)).trans hab, (State.judgeRefs_rd_shown _ ab a b (by decide)).trans ha,
      (State.judgeRefs_rd_shown _ ab a b (by decide)).trans hb, (State.judgeRefs_rd_shown _ ab a b (by decide)).trans hdrift,
      fun hAin hBin hfar hrun hnear hout => ?_⟩
    obtain ⟨t, ht⟩ := State.judgeRefs_outvotesB ((State.on_congr hA).trans hAin) ((State.on_congr hB).trans hBin) hfar
      ((s.measureRefs_devRun ab a b).trans hrun) hnear hout
    rw [ht]
    exact t.outvote_refB
  · obtain ⟨hab, ha, hb, -, hA, hB⟩ := s.measureRefs_shows ab a b
    have hserve : exec (.refcheck q ab a b) s = .next ((s.measureRefs ab a b).complete q d
        { bytes := resultOf [(24, 2, toPattern 16 ab), (26, 2, toPattern 16 a), (28, 2, toPattern 16 b)] }) := by
      change execRefcheck q ab a b s = _
      rw [execRefcheck, if_pos hq, State.serve, hrun]
    have hentry := State.EntersTo.complete (s.measureRefs ab a b) q d
      { bytes := resultOf [(24, 2, toPattern 16 ab), (26, 2, toPattern 16 a), (28, 2, toPattern 16 b)] }
    exact ⟨_, hserve, (hentry.ing_rd rfl).trans hab, (hentry.ing_rd rfl).trans ha, (hentry.ing_rd rfl).trans hb,
      (hentry.ing_rd rfl).trans hA, (hentry.ing_rd rfl).trans hB,
      (congrArg Ingest.devRun hentry.ing).trans (s.measureRefs_devRun ab a b)⟩
  · exact ⟨_, execCapture_starts hq htaken hrun hop hnone hstream hpos hmax haligned hon hinside, rfl, rfl, rfl⟩

end Sys2Proof.Machine
end

section
/-! SUPPORT. Camera links (R139-R147): what enabling, training, power over coax and frame assembly change, and what they leave alone. -/

namespace Sys2Proof.Machine

/-! ### Ring entries -/

/-- Ring entries and records leave the camera pipeline alone. -/
theorem State.EntersTo.cam {s t : State} (h : s.EntersTo t) : t.cam = s.cam := (congrArg State.cam h.eq).trans rfl

theorem State.EntersTo.link {s t : State} (h : s.EntersTo t) (n : Nat) : t.link n = s.link n := by
  unfold State.link
  rw [h.cam]

/-- A field of block CAM reads the same after ring entries and records. -/
theorem State.EntersTo.cam_rd {s t : State} (h : s.EntersTo t) {f : Fld} (hf : f.addr / 0x1000 = 0x17) : t.rd f = s.rd f :=
  h.rd (by unfold entryBlock; omega)

theorem State.EntersTo.linkState {s t : State} (h : s.EntersTo t) (n : Nat) : t.linkState n = s.linkState n :=
  h.cam_rd (f := F.CAM_LNKn_STAT_STATE n) (by change Reg.CAM_LNKn_STAT n / 0x1000 = 0x17; unfold Reg.CAM_LNKn_STAT; omega)

/-- A link event on rings 96 and 97 (R160). -/
theorem State.EntersTo.camEvent (s : State) (tag n : Nat) : s.EntersTo (s.camEvent tag n) :=
  (eventEntry s _ _ _ _ _ _).trans (eventEntry _ _ _ _ _ _ _)

/-! ### Setting a link -/

@[simp] theorem State.flag_link (s : State) (stat ie : Fld) (n : Nat) : (s.flag stat ie).link n = s.link n :=
  (State.EntersTo.of_recordsTo (.notify (s.wr stat 1) stat ie)).link n

/-- A link reads as it was set. -/
@[simp] theorem State.link_setLink_same (s : State) (n : Nat) (x : CamLink) : (s.setLink n x).link n = x := SMap.get_set_same _ _ _ _

theorem State.setLink_rd (s : State) (n : Nat) (x : CamLink) (f : Fld) : (s.setLink n x).rd f = s.rd f := rfl
theorem State.setLink_on (s : State) (n : Nat) (x : CamLink) (f : Fld) : (s.setLink n x).on f = s.on f := rfl
theorem State.setLink_linkState (s : State) (n m : Nat) (x : CamLink) : (s.setLink n x).linkState m = s.linkState m := rfl
theorem State.setLink_linkUp (s : State) (n m : Nat) (x : CamLink) :
    (s.setLink n x).mapOn Reg.CAM_LINKUP m = s.mapOn Reg.CAM_LINKUP m := rfl
theorem State.setLink_mem (s : State) (n : Nat) (x : CamLink) : (s.setLink n x).mem = s.mem := rfl
theorem State.setLink_resp (s : State) (n : Nat) (x : CamLink) : (s.setLink n x).resp = s.resp := rfl
theorem State.wr_link (s : State) (f : Fld) (v n : Nat) : (s.wr f v).link n = s.link n := rfl

/-! ### The registers of a link -/

/-- The registers of the links lie above those of the whole pipeline, LINKUP and the budgets among them. -/
theorem Reg.linkCtl_above (n : Nat) : 0x17100 ≤ Reg.CAM_LNKn_CTL n := Nat.le_add_right _ _
theorem Reg.linkStat_above (n : Nat) : 0x17100 ≤ Reg.CAM_LNKn_STAT n := by unfold Reg.CAM_LNKn_STAT; omega
theorem Reg.linkInfo_above (n : Nat) : 0x17100 ≤ Reg.CAM_LNKn_INFO n := by unfold Reg.CAM_LNKn_INFO; omega
theorem Reg.linkFseq_above (n : Nat) : 0x17100 ≤ Reg.CAM_LNKn_FSEQ n := by unfold Reg.CAM_LNKn_FSEQ; omega
theorem Reg.linkTime_above (n : Nat) : 0x17100 ≤ Reg.CAM_LNKn_TIME n := by unfold Reg.CAM_LNKn_TIME; omega

theorem Reg.linkStat_block (n : Nat) : Reg.CAM_LNKn_STAT n / 0x1000 = 0x17 := by unfold Reg.CAM_LNKn_STAT; omega
theorem Reg.linkInfo_block (n : Nat) : Reg.CAM_LNKn_INFO n / 0x1000 = 0x17 := by unfold Reg.CAM_LNKn_INFO; omega

theorem Reg.linkCtl_ne_stat (n : Nat) : Reg.CAM_LNKn_CTL n ≠ Reg.CAM_LNKn_STAT n := by unfold Reg.CAM_LNKn_CTL Reg.CAM_LNKn_STAT; omega
theorem Reg.linkCtl_ne_info (n : Nat) : Reg.CAM_LNKn_CTL n ≠ Reg.CAM_LNKn_INFO n := by unfold Reg.CAM_LNKn_CTL Reg.CAM_LNKn_INFO; omega
theorem Reg.linkStat_ne_info (n : Nat) : Reg.CAM_LNKn_STAT n ≠ Reg.CAM_LNKn_INFO n := by unfold Reg.CAM_LNKn_STAT Reg.CAM_LNKn_INFO; omega
theorem Reg.linkFseq_ne_stat (n : Nat) : Reg.CAM_LNKn_FSEQ n ≠ Reg.CAM_LNKn_STAT n := by unfold Reg.CAM_LNKn_FSEQ Reg.CAM_LNKn_STAT; omega
theorem Reg.linkTime_ne_stat (n : Nat) : Reg.CAM_LNKn_TIME n ≠ Reg.CAM_LNKn_STAT n := by unfold Reg.CAM_LNKn_TIME Reg.CAM_LNKn_STAT; omega

/-- The fields of CAM_LNKn_STAT beside STATE keep it as it is. -/
theorem State.linkState_wr_beside (s : State) {n : Nat} {f : Fld} (v : Nat) (h : f.hi < 29) : (s.wr f v).linkState n = s.linkState n :=
  s.rd_wr_beside v (by omega) (by decide : 31 < 32) (.inl h)

/-- A bit of CAM_LINKUP reads the same where the register does. -/
theorem State.linkUp_congr {s t : State} {n : Nat} (hn : n < 12) (h : t.reg Reg.CAM_LINKUP = s.reg Reg.CAM_LINKUP) :
    t.mapOn Reg.CAM_LINKUP n = s.mapOn Reg.CAM_LINKUP n := by
  refine State.on_congr (State.rd_congr ?_)
  change t.reg (Reg.CAM_LINKUP + 4 * (n / 32 % 4)) = s.reg (Reg.CAM_LINKUP + 4 * (n / 32 % 4))
  rw [Nat.div_eq_of_lt (lt_trans hn (by decide))]
  exact h

/-- The bitmap of streaming links lies below the registers of the links. -/
theorem State.linkUpBit_rd (s : State) (n : Nat) (b : Bool) {f : Fld} (h : 0x17100 ≤ f.addr) :
    (s.mapBit Reg.CAM_LINKUP n b).rd f = s.rd f := s.mapBit_rd_above n b (lt_of_lt_of_le (by decide) h)

/-! ### The states of a link (R141) -/

/-- Entering a state of a link touches its CAM_LNKn_STAT and CAM_LINKUP. -/
theorem State.linkEnter_rd (s : State) (n st : Nat) {f : Fld} (habove : 0x17100 ≤ f.addr) (hstat : f.addr ≠ Reg.CAM_LNKn_STAT n) :
    (s.linkEnter n st).rd f = s.rd f := (State.linkUpBit_rd _ n _ habove).trans (s.rd_wr_other st hstat)

theorem State.linkEnter_state (s : State) (n : Nat) {st : Nat} (h : st < 8) : (s.linkEnter n st).linkState n = st :=
  (State.linkUpBit_rd _ n _ (Reg.linkStat_above n)).trans (s.rd_wr_fits (by decide : 31 < 32) h)

/-- A link that enters another state than STREAM is down in CAM_LINKUP. -/
theorem State.linkEnter_down (s : State) (n : Nat) {st : Nat} (h : st ≠ 3) : (s.linkEnter n st).mapOn Reg.CAM_LINKUP n = false := by
  rw [State.linkEnter, decide_eq_false h]
  exact State.mapOn_mapBit_false _ _ n

/-! ### The budgets (R143) -/

/-- The registers that bringing the budgets up to date writes. -/
def budgetRegs : List Nat := [Reg.CAM_BUDGET, Reg.CAM_ENCBUDGET, Reg.CAM_STAT, Reg.CAM_PACEREQ, Reg.CAM_ENCPACEREQ]

/-- What bringing the budgets up to date writes. -/
theorem State.camBudget_writes (s : State) : ∃ a b x y u v, s.camBudget =
    (((((s.wr F.CAM_BUDGET_SUM a).wr F.CAM_ENCBUDGET_SUM b).wrB F.CAM_STAT_OVERSLOW x).wrB F.CAM_STAT_ENCOVERSLOW y).wr
      F.CAM_PACEREQ_PACE u).wr F.CAM_ENCPACEREQ_PACE v := by
  unfold State.camBudget
  extract_lets
  exact ⟨_, _, _, _, _, _, rfl⟩

/-- The budgets change registers alone. -/
theorem State.camBudget_keeps (s : State) : s.camBudget.cam = s.cam ∧ s.camBudget.mem = s.mem ∧ s.camBudget.resp = s.resp := by
  obtain ⟨a, b, x, y, u, v, h⟩ := s.camBudget_writes
  rw [h]
  simp

theorem State.camBudget_reg (s : State) {k : Nat} (h : k ∉ budgetRegs) : s.camBudget.reg k = s.reg k := by
  simp only [budgetRegs, List.mem_cons, List.not_mem_nil, or_false, not_or] at h
  obtain ⟨hsum, hencsum, hstat, hpace, hencpace⟩ := h
  obtain ⟨a, b, x, y, u, v, hw⟩ := s.camBudget_writes
  rw [hw, State.reg_wr_other _ _ hencpace, State.reg_wr_other _ _ hpace, State.wrB, State.reg_wr_other _ _ hstat, State.wrB,
    State.reg_wr_other _ _ hstat, State.reg_wr_other _ _ hencsum, State.reg_wr_other _ _ hsum]

theorem State.camBudget_rd (s : State) {f : Fld} (h : 0x17100 ≤ f.addr) : s.camBudget.rd f = s.rd f := by
  have hlow : ∀ r ∈ budgetRegs, r < 0x17100 := by decide
  exact State.rd_congr (s.camBudget_reg fun hk => absurd h (Nat.not_le.mpr (hlow _ hk)))

theorem State.camBudget_linkState (s : State) (n : Nat) : s.camBudget.linkState n = s.linkState n := s.camBudget_rd (Reg.linkStat_above n)

theorem State.camBudget_linkUp (s : State) {n : Nat} (hn : n < 12) : s.camBudget.mapOn Reg.CAM_LINKUP n = s.mapOn Reg.CAM_LINKUP n :=
  State.linkUp_congr hn (s.camBudget_reg (by decide))

theorem State.camBudget_link (s : State) (n : Nat) : s.camBudget.link n = s.link n := by
  obtain ⟨hcam, -, -⟩ := s.camBudget_keeps
  unfold State.link
  rw [hcam]

/-! ### The open frame closed (R147) -/

/-- The closing of a frame changes the camera pipeline alone. -/
theorem State.closeFrame_eq (s : State) (n extra : Nat) : s.closeFrame n extra = { s with cam := (s.closeFrame n extra).cam } := by
  unfold State.closeFrame
  dsimp only
  split <;> rfl

theorem State.closeFrame_keeps (s : State) (n extra : Nat) :
    (s.closeFrame n extra).regs = s.regs ∧ (s.closeFrame n extra).mem = s.mem ∧ (s.closeFrame n extra).resp = s.resp := by
  rw [s.closeFrame_eq n extra]
  exact ⟨rfl, rfl, rfl⟩

@[simp] theorem State.closeFrame_rd (s : State) (n extra : Nat) (f : Fld) : (s.closeFrame n extra).rd f = s.rd f := by
  rw [s.closeFrame_eq n extra]
  rfl

/-- A link whose frame has been closed has no open frame; its last frame start and its line buffer stay. -/
theorem State.closeFrame_link (s : State) (n extra : Nat) :
    ((s.closeFrame n extra).link n).frame = none ∧ ((s.closeFrame n extra).link n).lastStart = (s.link n).lastStart ∧
      ((s.closeFrame n extra).link n).buffer = (s.link n).buffer := by
  unfold State.closeFrame
  dsimp only
  split
  · next h => exact ⟨h, rfl, rfl⟩
  · rw [State.link_setLink_same]
    exact ⟨rfl, rfl, rfl⟩

/-- The open frame of a link, once closed, is the last of those that wait for processing. -/
theorem State.closeFrame_of_open {s : State} {n : Nat} {f : CamFrame} (extra : Nat) (h : (s.link n).frame = some f) :
    ((s.closeFrame n extra).link n).mode = .orphan ∧
      ((s.closeFrame n extra).link n).closed.length = (s.link n).closed.length + 1 := by
  unfold State.closeFrame
  dsimp only
  rw [h]
  dsimp only
  rw [State.link_setLink_same]
  exact ⟨rfl, List.length_append⟩

/-! ### Enabling and disabling (R141, R144) -/

/-- The description of the CAM_LNKn_CTL registers. -/
def linkCtlDesc : RegDesc :=
  ⟨0x100, [(0x40, 12)], [.mkAny .rwp 31 31 0x0, .mkAny .rwp 30 30 0x0, ⟨29, 28, .rwp, .rng 0 2, 0x1, none⟩, .mkAny .rwp 27 26 0x0,
    ⟨25, 24, .rwp, .rng 0 2, 0x1, none⟩, ⟨23, 21, .rwp, .rng 0 4, 0x0, none⟩, .mkAny .rwp 20 19 0x0, .mkAny .rwp 18 16 0x0,
    .mkAny .rwp 15 15 0x0, .mkAny .rwp 14 12 0x2, .mkAny .rwp 11 9 0x2, .mkAny .rwp 8 6 0x2]⟩

theorem findReg_linkCtl (n : Nat) : findReg (Reg.CAM_LNKn_CTL n / 0x1000) (Reg.CAM_LNKn_CTL n % 0x1000) = some linkCtlDesc := by
  have h : ∀ i : Fin 12, findReg ((0x17100 + 0x40 * i.val) / 0x1000) ((0x17100 + 0x40 * i.val) % 0x1000) = some linkCtlDesc := by decide
  exact h ⟨n % 12, Nat.mod_lt _ (by decide)⟩

theorem linkCtlDesc_fieldsApart : linkCtlDesc.fieldsApart := by
  unfold RegDesc.fieldsApart
  decide

/-- A write of CAM_LNKn_CTL sets EN. -/
theorem State.applyWrite_linkEn (s : State) (n : Nat) (v : W32) :
    (s.applyWrite (Reg.CAM_LNKn_CTL n) v).rd (F.CAM_LNKn_CTL_EN n) = getBits v 31 31 :=
  s.getBits_applyWrite (f := .mkAny .rwp 31 31 0x0) v (findReg_linkCtl n) linkCtlDesc_fieldsApart (by decide) rfl

/-- A link that starts trains from this instant, with no frame open, and keeps its CAM_LNKn_CTL. -/
theorem State.linkStart_shows (s : State) {n : Nat} (hn : n < 12) :
    (s.linkStart n).on (F.CAM_LNKn_CTL_EN n) = s.on (F.CAM_LNKn_CTL_EN n) ∧ (s.linkStart n).linkState n = 1 ∧
      (s.linkStart n).mapOn Reg.CAM_LINKUP n = false ∧ ((s.linkStart n).link n).frame = none ∧
      ((s.linkStart n).link n).trainStart = s.now ∧ (s.linkStart n).mem = s.mem ∧ (s.linkStart n).resp = s.resp := by
  have hlow : Reg.CAM_LINKUP ≠ Reg.CAM_LNKn_STAT n := ((by decide : Reg.CAM_LINKUP < 0x17100).trans_le (Reg.linkStat_above n)).ne
  unfold State.linkStart
  extract_lets l t
  have hen : t.rd (F.CAM_LNKn_CTL_EN n) = s.rd (F.CAM_LNKn_CTL_EN n) :=
    (State.rd_wr_other _ _ (Reg.linkCtl_ne_stat n)).trans (State.linkEnter_rd _ n 1 (Reg.linkCtl_above n) (Reg.linkCtl_ne_stat n))
  have hstate : t.linkState n = 1 := (State.linkState_wr_beside _ _ (by decide : 23 < 29)).trans (State.linkEnter_state _ n (by decide))
  have hdown : t.mapOn Reg.CAM_LINKUP n = false :=
    (State.linkUp_congr hn (State.reg_wr_other _ _ hlow)).trans (State.linkEnter_down _ n (by decide))
  have hkeeps : t.mem = s.mem ∧ t.resp = s.resp := by simp [t, State.linkEnter, State.forgetSlots]
  clear_value l t
  rw [State.camBudget_link, State.camBudget_linkState, State.camBudget_linkUp _ hn, State.on_congr (State.camBudget_rd _ (Reg.linkCtl_above n)),
    State.link_setLink_same, State.setLink_on, State.setLink_linkState, State.setLink_linkUp]
  obtain ⟨-, hmem, hresp⟩ := State.camBudget_keeps (t.setLink n { l with
    trainStart := s.now, fails := 0, lastStart := none, stalled := false, mode := .orphan, frame := none, prevSeq := none,
    inForce := s.linkForce n })
  rw [hmem, hresp, State.setLink_mem, State.setLink_resp]
  exact ⟨State.on_congr hen, hstate, hdown, rfl, rfl, hkeeps⟩

/-- A link that goes OFF is disabled with no frame open, and its INFO reads 0. -/
theorem State.linkOff_shows (s : State) (n extra : Nat) :
    (s.linkOff n extra).on (F.CAM_LNKn_CTL_EN n) = false ∧ (s.linkOff n extra).linkState n = 0 ∧
      ((s.linkOff n extra).link n).frame = none ∧ (s.linkOff n extra).rd (F.CAM_LNKn_INFO_REMID n) = 0 ∧
      (s.linkOff n extra).mem = s.mem ∧ (s.linkOff n extra).resp = s.resp := by
  obtain ⟨-, hmem, hresp⟩ := s.closeFrame_keeps n extra
  obtain ⟨hframe, -, -⟩ := s.closeFrame_link n extra
  unfold State.linkOff
  extract_lets t
  have hstate : t.linkState n = 0 :=
    (State.rd_wr_other _ _ (Reg.linkStat_ne_info n)).trans (State.linkEnter_state _ n (by decide))
  have hinfo : t.rd (F.CAM_LNKn_INFO_REMID n) = 0 := State.rd_wr_same _ _ _ (by decide : 31 < 32)
  have hkeeps : t.mem = s.mem ∧ t.resp = s.resp ∧ t.link n = (s.closeFrame n extra).link n := by
    refine ⟨?_, ?_, rfl⟩ <;> simp [t, State.linkEnter, hmem, hresp]
  clear_value t
  obtain ⟨htmem, htresp, hlink⟩ := hkeeps
  obtain ⟨-, hbmem, hbresp⟩ := State.camBudget_keeps ((t.wr (F.CAM_LNKn_CTL_EN n) 0).wr (F.CAM_LNKn_STAT_POCFLT n) 0)
  rw [State.camBudget_link, State.camBudget_linkState, State.on_congr (State.camBudget_rd _ (Reg.linkCtl_above n)),
    State.camBudget_rd _ (Reg.linkInfo_above n), hbmem, hbresp]
  refine ⟨?_, ?_, ?_, ?_, by simpa using htmem, by simpa using htresp⟩
  · rw [State.on_congr (State.rd_wr_other _ _ (Reg.linkCtl_ne_stat n))]
    exact State.on_wr_zero _ (by decide : 31 < 32)
  · rw [State.linkState_wr_beside _ _ (by decide : 28 < 29)]
    exact (State.rd_wr_other _ _ (Reg.linkCtl_ne_stat n).symm).trans hstate
  · rw [State.wr_link, State.wr_link, hlink]
    exact hframe
  · rw [State.rd_wr_other _ _ (Reg.linkStat_ne_info n).symm, State.rd_wr_other _ _ (Reg.linkCtl_ne_info n).symm]
    exact hinfo

/-- Why a link may not be enabled stands in the registers and the code. -/
theorem State.linkCause_done (s : State) (key : Nat) (v : W32) (n : Nat) :
    (s.done.applyWrite key v).linkCause n = (s.applyWrite key v).linkCause n := by
  unfold State.applyWrite
  cases findReg (key / 0x1000) (key % 0x1000) <;> rfl

/-- A write of EN = 1 that R141 accepts starts the link. -/
theorem State.linkCtlWrite_starts {s : State} {n : Nat} {v : W32} (hlisted : listedAt (Reg.CAM_LNKn_CTL n) v = true)
    (hoff : s.on (F.CAM_LNKn_CTL_EN n) = false) (hen : getBits v 31 31 = 1)
    (hcause : (s.applyWrite (Reg.CAM_LNKn_CTL n) (setBits v 31 31 0)).linkCause n = 0) :
    s.linkCtlWrite n v =
      ((s.applyWrite (Reg.CAM_LNKn_CTL n) (setBits v 31 31 0)).applyWrite (Reg.CAM_LNKn_CTL n) v).linkStart n := by
  unfold State.linkCtlWrite
  dsimp only
  rw [if_neg (by rw [hlisted]; decide), if_neg (by rw [hoff]; decide), if_neg (by omega), if_pos hcause]

/-- A write of EN = 0 that leaves the other fields of an enabled link takes it OFF. -/
theorem State.linkCtlWrite_stops {s : State} {n : Nat} {v : W32} (hlisted : listedAt (Reg.CAM_LNKn_CTL n) v = true)
    (hon : s.on (F.CAM_LNKn_CTL_EN n) = true) (hsame : s.reg (Reg.CAM_LNKn_CTL n) &&& 0x7FFFFFC0 = v &&& 0x7FFFFFC0)
    (hen : getBits v 31 31 = 0) : s.linkCtlWrite n v = s.linkOff n ffStopped := by
  unfold State.linkCtlWrite
  dsimp only
  rw [if_neg (by rw [hlisted]; decide), if_pos hon, if_neg (fun h => h hsame), if_pos hen]

/-- LINK_ENABLE with a word R141 accepts starts the training of the link. -/
theorem execLinkEnable_trains {s : State} {a : Agent} {n : Nat} {v : W32} (hn : n < 12) (hacc : s.accepts a 0x17 (0x100 + 0x40 * n) = true)
    (hlisted : listedAt (Reg.CAM_LNKn_CTL n) (setBits v 31 31 1) = true) (hoff : s.on (F.CAM_LNKn_CTL_EN n) = false)
    (hcause : (s.applyWrite (Reg.CAM_LNKn_CTL n) (setBits (setBits v 31 31 1) 31 31 0)).linkCause n = 0) :
    Completes (.linkEnable a n v) s (fun t => t.resp = .done ∧ t.on (F.CAM_LNKn_CTL_EN n) = true ∧ t.linkState n = 1 ∧
      t.mapOn Reg.CAM_LINKUP n = false ∧ (t.link n).frame = none ∧ (t.link n).trainStart = s.now ∧ t.mem = s.mem) := by
  have hen : getBits (setBits v 31 31 1) 31 31 = 1 := getBits_setBits_same (by decide) v 1
  refine ⟨_, congrArg Host.Outcome.next ((if_pos hn).trans (State.gate_accepts _ hacc)), ?_⟩
  rw [State.linkCtlWrite_starts (s := s.done) hlisted hoff hen ((s.linkCause_done _ _ n).trans hcause)]
  obtain ⟨hset, htrain, hdown, hframe, hsince, hmem, hresp⟩ := State.linkStart_shows ((s.done.applyWrite (Reg.CAM_LNKn_CTL n)
    (setBits (setBits v 31 31 1) 31 31 0)).applyWrite (Reg.CAM_LNKn_CTL n) (setBits v 31 31 1)) hn
  rw [State.applyWrite_resp, State.applyWrite_resp] at hresp
  rw [State.applyWrite_now, State.applyWrite_now] at hsince
  rw [State.applyWrite_mem, State.applyWrite_mem] at hmem
  exact ⟨hresp, hset.trans (decide_eq_true ((State.applyWrite_linkEn _ n _).trans hen)), htrain, hdown, hframe, hsince, hmem⟩

/-- LINK_DISABLE of an enabled link takes it OFF. -/
theorem execLinkDisable_stops {s : State} {a : Agent} {n : Nat} {v : W32} (hn : n < 12) (hacc : s.accepts a 0x17 (0x100 + 0x40 * n) = true)
    (hlisted : listedAt (Reg.CAM_LNKn_CTL n) (setBits v 31 31 0) = true) (hon : s.on (F.CAM_LNKn_CTL_EN n) = true)
    (hsame : s.reg (Reg.CAM_LNKn_CTL n) &&& 0x7FFFFFC0 = setBits v 31 31 0 &&& 0x7FFFFFC0) :
    Completes (.linkDisable a n v) s (fun t => t.resp = .done ∧ t.on (F.CAM_LNKn_CTL_EN n) = false ∧ t.mem = s.mem ∧
      t.linkState n = 0 ∧ (t.link n).frame = none ∧ t.rd (F.CAM_LNKn_INFO_REMID n) = 0) := by
  have hen : getBits (setBits v 31 31 0) 31 31 = 0 := getBits_setBits_same (by decide) v 0
  refine ⟨_, congrArg Host.Outcome.next ((if_pos hn).trans (State.gate_accepts _ hacc)), ?_⟩
  rw [State.linkCtlWrite_stops (s := s.done) hlisted hon hsame hen]
  obtain ⟨hclear, hstate, hframe, hinfo, hmem, hresp⟩ := s.done.linkOff_shows n ffStopped
  exact ⟨hresp, hclear, hmem, hstate, hframe, hinfo⟩

/-! ### Training, lock and loss (R141) -/

/-- LINK_TRAIN_TIMEOUT counts a failure and stays in TRAIN; the tenth is told. -/
theorem execLinkTrainTimeout_counts {s : State} {n : Nat} (hok : s.linkOk n = true) (htrain : s.linkState n = 1)
    (hdue : (s.link n).trainStart + 100000000 ≤ s.now) :
    Completes (.linkTrainTimeout n) s (fun t => t.rd (F.CAM_LNKn_STAT_TRAINRETRY n) =
        satAdd (F.CAM_LNKn_STAT_TRAINRETRY n).width (s.rd (F.CAM_LNKn_STAT_TRAINRETRY n)) 1 ∧
      (t.link n).fails = (s.link n).fails + 1 ∧ t.linkState n = 1) := by
  refine ⟨_, congrArg Host.Outcome.next (if_pos ⟨hok, htrain, hdue⟩), ?_⟩
  extract_lets t
  have htold : t.EntersTo (if (s.link n).fails + 1 = 10 then t.camEvent 3 n else t) := by
    split
    · exact .camEvent t 3 n
    · exact .refl t
  have hcount : t.rd (F.CAM_LNKn_STAT_TRAINRETRY n) =
      satAdd (F.CAM_LNKn_STAT_TRAINRETRY n).width (s.rd (F.CAM_LNKn_STAT_TRAINRETRY n)) 1 :=
    (State.setLink_rd _ n _ _).trans (s.rd_inc_same (by decide : 23 < 32))
  have hfails : (t.link n).fails = (s.link n).fails + 1 := congrArg CamLink.fails (State.link_setLink_same _ n _)
  have hstate : t.linkState n = 1 := (State.setLink_linkState _ n n _).trans ((s.linkState_wr_beside _ (by decide : 23 < 29)).trans htrain)
  exact ⟨(htold.cam_rd (Reg.linkStat_block n)).trans hcount, (congrArg CamLink.fails (htold.link n)).trans hfails,
    (htold.linkState n).trans hstate⟩

/-- LINK_LOCK in TRAIN enters LOCKED with the serialiser's ID, which is told; in LOST it enters LOCKED. -/
theorem execLinkLock_locks {s : State} {n : Nat} (id : Nat) (hok : s.linkOk n = true) (hstate : s.linkState n = 1 ∨ s.linkState n = 4) :
    Completes (.linkLock n id) s (fun t => t.linkState n = 2 ∧
      (s.linkState n = 1 → t.rd (F.CAM_LNKn_INFO_REMID n) = id % 2 ^ (F.CAM_LNKn_INFO_REMID n).width)) := by
  have hexists : ¬ s.linkOk n = false := by rw [hok]; decide
  obtain htrain | hlost := hstate
  · refine ⟨_, congrArg Host.Outcome.next ((if_neg hexists).trans (if_pos htrain)), ?_⟩
    have hevent := State.EntersTo.camEvent
      (((s.setLink n { s.link n with fails := 0, mode := .orphan }).linkEnter n 2).wr (F.CAM_LNKn_INFO_REMID n) id) 1 n
    refine ⟨(hevent.linkState n).trans ?_, fun _ => (hevent.cam_rd (Reg.linkInfo_block n)).trans ?_⟩
    · exact (State.rd_wr_other _ _ (Reg.linkStat_ne_info n)).trans (State.linkEnter_state _ n (by decide))
    · exact State.rd_wr_same _ _ _ (by decide : 31 < 32)
  · refine ⟨_, congrArg Host.Outcome.next ((if_neg hexists).trans ((if_neg (by omega)).trans (if_pos hlost))), ?_, fun h => by omega⟩
    exact State.linkEnter_state _ n (by decide)

/-- LINK_LOCK_LOST closes the frame and enters LOST, which is told. -/
theorem execLinkLockLost_loses {s : State} {n : Nat} (hn : n < 12) (hok : s.linkOk n = true) (hstream : s.linkState n = 3) :
    Completes (.linkLockLost n) s (fun t => t.linkState n = 4 ∧ (t.link n).frame = none ∧ t.mapOn Reg.CAM_LINKUP n = false) := by
  refine ⟨_, congrArg Host.Outcome.next (if_pos ⟨hok, hstream⟩), ?_⟩
  have hevent := State.EntersTo.camEvent ((s.closeFrame n ffStopped).linkEnter n 4) 2 n
  obtain ⟨hframe, -, -⟩ := s.closeFrame_link n ffStopped
  refine ⟨(hevent.linkState n).trans (State.linkEnter_state _ n (by decide)), (congrArg CamLink.frame (hevent.link n)).trans hframe, ?_⟩
  exact (State.linkUp_congr hn (hevent.reg _ (by unfold entryBlock; decide))).trans (State.linkEnter_down _ n (by decide))

/-! ### Power over coax (R140) -/

/-- POC_OVERCURRENT shows the fault and notes the instant, and is told. -/
theorem execPocOvercurrent_trips {s : State} {n : Nat} (hok : s.linkOk n = true) (hen : s.on (F.CAM_LNKn_CTL_EN n) = true)
    (hpoc : s.on (F.CAM_LNKn_CTL_POC n) = true) (hclear : s.on (F.CAM_LNKn_STAT_POCFLT n) = false) :
    Completes (.pocOvercurrent n) s (fun t => t.on (F.CAM_LNKn_STAT_POCFLT n) = true ∧ (t.link n).pocOff = s.now) := by
  refine ⟨_, congrArg Host.Outcome.next (if_pos ⟨hok, hen, hpoc, hclear⟩), ?_⟩
  have hevent := State.EntersTo.camEvent ((s.wr (F.CAM_LNKn_STAT_POCFLT n) 1).setLink n { s.link n with pocOff := s.now }) 5 n
  constructor
  · rw [State.on_congr (hevent.cam_rd (f := F.CAM_LNKn_STAT_POCFLT n) (Reg.linkStat_block n)), State.setLink_on]
    exact s.on_wr_one (by decide : 28 < 32) rfl
  · rw [hevent.link n, State.link_setLink_same]

/-! ### Frame assembly (R145-R147) -/

/-- Where no line waits, the pipeline takes none. -/
theorem State.serveLines_idle {s : State} (h : s.nextLine = none) (k : Nat) : s.serveLines k = s := by
  cases k with
  | zero => rfl
  | succ k => rw [State.serveLines, h]

/-- A link in LOCKED or STREAM takes frames and lines. -/
theorem State.not_linkIdle {s : State} {n : Nat} (hok : s.linkOk n = true) (hstate : s.linkState n = 2 ∨ s.linkState n = 3) :
    ¬ (s.linkOk n = false ∨ (s.linkState n ≠ 2 ∧ s.linkState n ≠ 3)) := by
  rintro (h | ⟨hlocked, hstream⟩)
  · exact Bool.false_ne_true (h.symm.trans hok)
  · exact hstate.elim hlocked hstream

/-- An image line of a link in LOCKED or STREAM while no line waits in the pipeline. -/
theorem execLineArrival_taken {s : State} {n : Nat} {px : CamLine} {served : Nat} (crc : Bool) (hok : s.linkOk n = true)
    (hstate : s.linkState n = 2 ∨ s.linkState n = 3) (hidle : s.nextLine = none) :
    exec (.lineArrival n px crc false false served) s =
      .next (if px.px = [] ∨ s.linkTakes n px = false then s else s.imageLine n px.px crc) := by
  refine congrArg Host.Outcome.next ((if_neg (State.not_linkIdle hok hstate)).trans ?_)
  rw [State.serveLines_idle hidle]
  exact if_neg fun h => Bool.false_ne_true h.1

/-! #### Lines (R139, R145, R147) -/

/-- A packet with pixels of the link's virtual channel and data type is an image line. -/
theorem execLineArrival_image {s : State} {n : Nat} {px : CamLine} {served : Nat} (crc : Bool) (hok : s.linkOk n = true)
    (hstate : s.linkState n = 2 ∨ s.linkState n = 3) (hidle : s.nextLine = none) (hpx : px.px ≠ []) (htakes : s.linkTakes n px = true) :
    exec (.lineArrival n px crc false false served) s = .next (s.imageLine n px.px crc) := by
  rw [execLineArrival_taken crc hok hstate hidle, if_neg (by simp [hpx, htakes])]

/-- A line outside any frame is an orphan and counts. -/
theorem State.imageLine_orphan {s : State} {n : Nat} (line : List Nat) (crc : Bool) (hframe : (s.link n).frame = none)
    (hmode : (s.link n).mode = .orphan) : s.imageLine n line crc = (s.inc (F.CAM_LNKn_ORPHAN_CNT n)).wideAdd Reg.CAM_ORPHCNT_LO 1 := by
  unfold State.imageLine
  dsimp only
  rw [hframe]
  dsimp only
  rw [hmode]

/-- The frame `f` with the line placed and judged (R139, R147). -/
def State.lineJudged (s : State) (n : Nat) (line : List Nat) (crc : Bool) (f : CamFrame) : CamFrame :=
  let g := { f with lines := f.lines + 1, lastLine := s.now, raw := f.raw ++ [s.placedLine n line crc] }
  if crc then { g with nbad := g.nbad + 1, flags := g.flags ||| 0x80, padIdx := g.padIdx ++ [f.lines] }
  else if line.length < s.rd (F.CAM_LNKn_GEOM_ACTW n) then { g with nshort := g.nshort + 1, flags := g.flags ||| 1 }
  else if s.rd (F.CAM_LNKn_GEOM_ACTW n) < line.length then { g with nlong := g.nlong + 1, flags := g.flags ||| 2 }
  else g

/-- The rates and the registers of the line buffers leave the links alone. -/
theorem State.camRates_link (s : State) (inPx donePx encPx n : Nat) : (s.camRates inPx donePx encPx).link n = s.link n := rfl
theorem State.bufferRegs_link (s : State) (m n : Nat) : (s.bufferRegs m).link n = s.link n := rfl

/-- A line within the active lines of the open frame joins it and the line buffer. -/
theorem State.imageLine_joins {s : State} {n : Nat} {f : CamFrame} (line : List Nat) (crc : Bool) (hframe : (s.link n).frame = some f)
    (hactive : f.lines < s.rd (F.CAM_LNKn_GEOM_ACTH n)) (hbuffer : (s.link n).buffer = []) :
    (s.imageLine n line crc).link n = { s.link n with frame := some (s.lineJudged n line crc f), buffer := [s.now] } := by
  unfold State.imageLine
  dsimp only
  rw [hframe]
  dsimp only
  rw [if_neg (Nat.not_le.mpr hactive), hbuffer, if_neg (by decide), State.camRates_link, State.bufferRegs_link, State.link_setLink_same]
  rfl

/-- A line beyond the active lines of the open frame is not placed. -/
theorem State.imageLine_beyond {s : State} {n : Nat} {f : CamFrame} (line : List Nat) (crc : Bool) (hframe : (s.link n).frame = some f)
    (hbeyond : s.rd (F.CAM_LNKn_GEOM_ACTH n) ≤ f.lines) :
    (s.imageLine n line crc).link n = { s.link n with frame := some { f with flags := f.flags ||| 8, lastLine := s.now } } := by
  unfold State.imageLine
  dsimp only
  rw [hframe]
  dsimp only
  rw [if_pos hbeyond]
  exact State.link_setLink_same _ n _

/-- The line judged is the next of the frame, at this instant. -/
theorem State.lineJudged_placed (s : State) (n : Nat) (line : List Nat) (crc : Bool) (f : CamFrame) :
    (s.lineJudged n line crc f).lines = f.lines + 1 ∧ (s.lineJudged n line crc f).lastLine = s.now ∧
      (s.lineJudged n line crc f).raw = f.raw ++ [s.placedLine n line crc] := by
  unfold State.lineJudged
  dsimp only
  split_ifs <;> exact ⟨rfl, rfl, rfl⟩

/-- A line counts as bad, short or long by its CRC and its length. -/
theorem State.lineJudged_counts (s : State) (n : Nat) (line : List Nat) (crc : Bool) (f : CamFrame) :
    (s.lineJudged n line crc f).nbad = f.nbad + (if crc = true then 1 else 0) ∧
      (s.lineJudged n line crc f).nshort =
        f.nshort + (if crc = false ∧ line.length < s.rd (F.CAM_LNKn_GEOM_ACTW n) then 1 else 0) ∧
      (s.lineJudged n line crc f).nlong =
        f.nlong + (if crc = false ∧ s.rd (F.CAM_LNKn_GEOM_ACTW n) < line.length then 1 else 0) := by
  unfold State.lineJudged
  generalize s.rd (F.CAM_LNKn_GEOM_ACTW n) = width
  cases crc with
  | true => simp
  | false =>
    obtain h | h | h := lt_trichotomy line.length width
    · simp [h, h.not_gt]
    · simp [h]
    · simp [h, h.not_gt]

/-! #### Frame starts (R145, R146, R150) -/

/-- Link `n` in STREAM as a frame start finds it: the frame before closed, the tables loaded since in force; with whether there were any. -/
def State.streamEntered (s : State) (n : Nat) : State × Bool :=
  let x := ((s.closeFrame n ffNofe).linkEnter n 3).takeTables n
  (x.1.setLink n { x.1.link n with lastFs := s.now, stalled := false }, x.2)

theorem State.takeTables_link (s : State) (n : Nat) :
    ((s.takeTables n).1.link n).frame = (s.link n).frame ∧ ((s.takeTables n).1.link n).lastStart = (s.link n).lastStart ∧
      ((s.takeTables n).1.link n).buffer = (s.link n).buffer := by
  unfold State.takeTables
  dsimp only
  rw [State.incBy, State.wr_link, State.link_setLink_same]
  exact ⟨rfl, rfl, rfl⟩

theorem State.takeTables_rd (s : State) (n : Nat) {f : Fld} (h : 0x17100 ≤ f.addr) : (s.takeTables n).1.rd f = s.rd f := by
  have htab : f.addr ≠ Reg.CAM_TABCNT := ((by decide : Reg.CAM_TABCNT < 0x17100).trans_le h).ne'
  exact (State.rd_wr_other _ _ htab).trans (State.setLink_rd _ n _ f)

/-- The link has no frame open; its last frame start and its line buffer stay. -/
theorem State.streamEntered_link (s : State) (n : Nat) :
    ((s.streamEntered n).1.link n).frame = none ∧ ((s.streamEntered n).1.link n).lastStart = (s.link n).lastStart ∧
      ((s.streamEntered n).1.link n).buffer = (s.link n).buffer := by
  obtain ⟨hframe, hstart, hbuffer⟩ := s.closeFrame_link n ffNofe
  obtain ⟨hframe', hstart', hbuffer'⟩ := ((s.closeFrame n ffNofe).linkEnter n 3).takeTables_link n
  unfold State.streamEntered
  dsimp only
  rw [State.link_setLink_same]
  exact ⟨hframe'.trans hframe, hstart'.trans hstart, hbuffer'.trans hbuffer⟩

/-- Beside CAM_LNKn_STAT the registers of the link stay. -/
theorem State.streamEntered_rd (s : State) {n : Nat} {f : Fld} (habove : 0x17100 ≤ f.addr) (hstat : f.addr ≠ Reg.CAM_LNKn_STAT n) :
    (s.streamEntered n).1.rd f = s.rd f := by
  unfold State.streamEntered
  dsimp only
  rw [State.setLink_rd, State.takeTables_rd _ n habove, State.linkEnter_rd _ n 3 habove hstat, State.closeFrame_rd]

theorem State.streamEntered_state (s : State) (n : Nat) : (s.streamEntered n).1.linkState n = 3 := by
  unfold State.streamEntered
  dsimp only
  rw [State.setLink_linkState]
  exact (State.takeTables_rd _ n (Reg.linkStat_above n)).trans (State.linkEnter_state _ n (by decide))

/-- Whether a frame start of link `n` comes earlier than nine tenths of the frame period after the last (R145). -/
def State.startsEarly (s : State) (n : Nat) : Bool :=
  (s.link n).lastStart.any (fun x => decide (10 * (s.now - x) < 9 * s.framePeriod n))

/-- The frame `f` opened on link `n` under the next number. -/
def State.openFrame (s : State) (n now : Nat) (f : CamFrame) : State :=
  ((s.wr (F.CAM_LNKn_FSEQ_FSEQ n) f.fseq).wideAdd Reg.CAM_FRAMECNT_LO 1).setLink n
    { s.link n with frame := some f, lastStart := some now }

/-- A frame skipped is marked on its link and counted; the link's open frame and its registers stay. -/
theorem State.skipFrame_shows (s : State) (n : Nat) :
    ((s.skipFrame n).link n).mode = .skipped ∧ ((s.skipFrame n).link n).frame = (s.link n).frame ∧
      ∀ f : Fld, 0x17100 ≤ f.addr → (s.skipFrame n).rd f = s.rd f := by
  unfold State.skipFrame
  dsimp only
  rw [State.flag_link]
  have hlink (x : CamLink) : (((s.setLink n x).wideAdd Reg.CAM_SKIPCNT_LO 1).link n) = x := s.link_setLink_same n x
  rw [hlink]
  refine ⟨rfl, rfl, fun f hf => ?_⟩
  rw [State.flag_rd_other _ ((by decide : Reg.CAM_STAT < 0x17100).trans_le hf).ne']
  rfl

/-- A frame opened stands on its link under its number, and leaves the state of the link. -/
theorem State.openFrame_shows (s : State) (n now : Nat) (f : CamFrame) :
    ((s.openFrame n now f).link n).frame = some f ∧ (s.openFrame n now f).rd (F.CAM_LNKn_FSEQ_FSEQ n) = f.fseq % 2 ^ 32 ∧
      (s.openFrame n now f).linkState n = s.linkState n := by
  unfold State.openFrame
  rw [State.link_setLink_same, State.setLink_rd, State.setLink_linkState]
  exact ⟨rfl, s.rd_wr_same _ _ (by decide : 31 < 32), s.rd_wr_other _ (Reg.linkFseq_ne_stat n).symm⟩

/-- A frame start while no line waits skips the frame where it comes early, and opens it under the next number where it does not. -/
theorem execFrameStart_skips_or_opens {s : State} {n served : Nat} (hok : s.linkOk n = true)
    (hstate : s.linkState n = 2 ∨ s.linkState n = 3) (hidle : s.nextLine = none) (hbuffer : (s.link n).buffer = []) :
    ∃ f : CamFrame, f.fseq = (s.rd (F.CAM_LNKn_FSEQ_FSEQ n) + 1) % 2 ^ 32 ∧ f.tfs = s.now ∧ f.lines = 0 ∧
      exec (.frameStart n served) s = .next (if s.startsEarly n = true then (s.streamEntered n).1.skipFrame n
        else (s.streamEntered n).1.openFrame n s.now f) := by
  obtain ⟨-, hstart, hbuf⟩ := s.streamEntered_link n
  have hseq := s.streamEntered_rd (n := n) (f := F.CAM_LNKn_FSEQ_FSEQ n) (Reg.linkFseq_above n) (Reg.linkFseq_ne_stat n)
  have htime := s.streamEntered_rd (n := n) (f := F.CAM_LNKn_TIME_FPSMAX n) (Reg.linkTime_above n) (Reg.linkTime_ne_stat n)
  have hexec : exec (.frameStart n served) s = _ := congrArg Host.Outcome.next (if_neg (State.not_linkIdle hok hstate))
  rw [State.serveLines_idle hidle] at hexec
  extract_lets entered tables l₀ t l p gap early late seq f at hexec
  have hearly : early = s.startsEarly n := by
    have hgap : gap = (s.link n).lastStart.map (fun a => s.now - a) := congrArg (Option.map _) hstart
    have hp : p = s.framePeriod n := congrArg (fun x => 1000000000 / x / 8 * 8) htime
    unfold State.startsEarly
    simp only [early, hgap, hp]
    cases (s.link n).lastStart <;> rfl
  have hroom : ¬ 32 < l.buffer.length := by
    rw [show l.buffer = [] from hbuf.trans hbuffer]
    decide
  refine ⟨f, congrArg (fun x => (x + 1) % 2 ^ 32) hseq, rfl, rfl, hexec.trans ?_⟩
  rw [hearly]
  simp only [hroom, or_false]
  rfl

/-- A frame start enters STREAM: the frame is open under the next number, or skipped under the present one where it comes early. -/
theorem execFrameStart_effect {s : State} {n served : Nat} (hok : s.linkOk n = true)
    (hstate : s.linkState n = 2 ∨ s.linkState n = 3) (hidle : s.nextLine = none) (hbuffer : (s.link n).buffer = []) :
    Completes (.frameStart n served) s (fun t => t.linkState n = 3 ∧
      (s.startsEarly n = false → t.rd (F.CAM_LNKn_FSEQ_FSEQ n) = (s.rd (F.CAM_LNKn_FSEQ_FSEQ n) + 1) % 2 ^ 32 ∧
        (t.link n).frame.map (fun f => (f.fseq, f.tfs, f.lines)) = some ((s.rd (F.CAM_LNKn_FSEQ_FSEQ n) + 1) % 2 ^ 32, s.now, 0)) ∧
      (s.startsEarly n = true → t.rd (F.CAM_LNKn_FSEQ_FSEQ n) = s.rd (F.CAM_LNKn_FSEQ_FSEQ n) ∧
        (t.link n).mode = .skipped ∧ (t.link n).frame = none)) := by
  obtain ⟨f, hseq, htfs, hlines, hexec⟩ := execFrameStart_skips_or_opens (served := served) hok hstate hidle hbuffer
  have hkept := s.streamEntered_rd (n := n) (f := F.CAM_LNKn_FSEQ_FSEQ n) (Reg.linkFseq_above n) (Reg.linkFseq_ne_stat n)
  obtain ⟨hnone, -, -⟩ := s.streamEntered_link n
  refine ⟨_, hexec, ?_⟩
  by_cases hearly : s.startsEarly n = true
  · obtain ⟨hmode, hframe, hregs⟩ := (s.streamEntered n).1.skipFrame_shows n
    rw [if_pos hearly]
    exact ⟨(hregs _ (Reg.linkStat_above n)).trans (s.streamEntered_state n), fun h => absurd (h.symm.trans hearly) Bool.false_ne_true,
      fun _ => ⟨(hregs _ (Reg.linkFseq_above n)).trans hkept, hmode, hframe.trans hnone⟩⟩
  · obtain ⟨hframe, hnumber, hstream⟩ := (s.streamEntered n).1.openFrame_shows n s.now f
    rw [if_neg hearly]
    refine ⟨hstream.trans (s.streamEntered_state n), fun _ => ⟨?_, ?_⟩, fun h => absurd h hearly⟩
    · rw [hnumber, hseq, Nat.mod_mod]
    · rw [hframe, Option.map_some, hseq, htfs, hlines]

/-! #### The end of a frame without an end packet (R147) -/

/-- LINE_TIMEOUT closes the open frame. -/
theorem execLineTimeout_closes {s : State} {n : Nat} {f : CamFrame} (hok : s.linkOk n = true) (hframe : (s.link n).frame = some f)
    (hdue : f.lastLine + s.rd (F.CAM_LNKn_TIME_LINETMO n) * 1000 ≤ s.now) :
    exec (.lineTimeout n) s = .next (s.closeFrame n ffStopped) := by
  change execLineTimeout n s = _
  rw [execLineTimeout, hframe]
  exact congrArg Host.Outcome.next (if_pos ⟨hok, hdue⟩)

/-! ### The commands -/

theorem lt_of_linkOk {s : State} {n : Nat} (h : s.linkOk n = true) : n < 12 := by
  have hn : n < s.code.cameras := of_decide_eq_true (Bool.and_eq_true_iff.mp h).2
  have hcode : ∀ c : Code, c.cameras ≤ 12 := fun c => by cases c <;> decide
  exact hn.trans_le (hcode _)

/-- Settles O18: each command's effect, by the lemma of the operation it carries out. -/
theorem cameraLinkCommandsComplete : Obligations.CameraLinkCommandsComplete := by
  refine ⟨fun s a n v hn hacc hlisted hoff hcause => execLinkEnable_trains hn hacc hlisted hoff hcause,
    fun s a n v hn hacc hlisted hon hsame => ?_,
    fun s n hok htrain hdue => execLinkTrainTimeout_counts hok htrain hdue, fun s n id hok hstate => execLinkLock_locks id hok hstate,
    fun s n hok hstream => execLinkLockLost_loses (lt_of_linkOk hok) hok hstream,
    fun s n hok hen hsync hperiod hinstant => ?_,
    fun s n hok hen hpoc hclear => execPocOvercurrent_trips hok hen hpoc hclear,
    fun s n hok hpoc hfault hdue => ⟨_, congrArg Host.Outcome.next (if_pos ⟨hok, hpoc, hfault, hdue⟩), rfl⟩,
    fun s n served hok hstate hidle hbuffer => execFrameStart_effect hok hstate hidle hbuffer,
    fun s n px crc served hok hstate hidle hbuffer hpx htakes hframe => ?_,
    fun s n px crc served f hok hstate hidle hbuffer hpx htakes hframe hactive => ?_,
    fun s n px crc served f hok hstate hidle hbuffer hpx htakes hframe hbeyond => ?_,
    fun s n px crc served hok hstate hidle htakes => ?_, fun s n f hok hframe hdue => ?_, fun s n hok hstream hstalled hdue => ?_⟩
  · obtain ⟨t, ht, hresp, hclear, hmem, hoff⟩ := execLinkDisable_stops hn hacc hlisted hon hsame
    exact ⟨t, ht, hresp, hclear, hmem, fun _ => hoff⟩
  · refine ⟨_, congrArg Host.Outcome.next (if_pos ⟨hok, hen, hsync, hperiod, hinstant⟩), ?_, rfl, rfl, rfl⟩
    rw [State.link_setLink_same]
  · refine ⟨_, execLineArrival_image crc hok hstate hidle hpx htakes, fun horphan => ?_⟩
    rw [State.imageLine_orphan _ crc hframe horphan]
    exact s.rd_inc_same (by decide : 31 < 32)
  · obtain ⟨hlines, hlast, hraw⟩ := s.lineJudged_placed n px.px crc f
    obtain ⟨hbad, hshort, hlong⟩ := s.lineJudged_counts n px.px crc f
    refine ⟨_, execLineArrival_image crc hok hstate hidle hpx htakes, ?_⟩
    beta_reduce
    rw [State.imageLine_joins px.px crc hframe hactive hbuffer, Option.map_some, Option.map_some, hlines, hlast, hraw, hbad, hshort, hlong]
    exact ⟨rfl, rfl, rfl⟩
  · exact ⟨_, execLineArrival_image crc hok hstate hidle hpx htakes,
      congrArg (fun l : CamLink => l.frame.map (fun g => (g.lines, g.lastLine))) (State.imageLine_beyond px.px crc hframe hbeyond)⟩
  · exact ⟨_, execLineArrival_taken crc hok hstate hidle, if_pos (.inr htakes)⟩
  · obtain ⟨hnone, -, -⟩ := s.closeFrame_link n ffStopped
    obtain ⟨hmode, hclosed⟩ := State.closeFrame_of_open ffStopped hframe
    obtain ⟨hregs, -, -⟩ := s.closeFrame_keeps n ffStopped
    exact ⟨_, execLineTimeout_closes hok hframe hdue, hnone, hmode, hclosed, hregs⟩
  · have hevent := State.EntersTo.camEvent (s.setLink n { s.link n with stalled := true }) 4 n
    refine ⟨_, congrArg Host.Outcome.next (if_pos ⟨hok, hstream, hstalled, hdue⟩), ?_, (hevent.linkState n).trans hstream⟩
    rw [hevent.link n, State.link_setLink_same]

end Sys2Proof.Machine
end

section
/-! SUPPORT. An EXPORT of rows wider than a camera's (R159), which do not fit where narrower rows would. -/

namespace Sys2Proof.Machine

/-- A write of bytes, with what the mirror regions write a second time, leaves the wide counters alone. -/
theorem State.store_wide (s : State) (a : Nat) (b : Bytes) (p : Bool) : (s.store a b p).wide = s.wide := by
  have hone (x : State) (a : Nat) (b : Bytes) : (x.storeOne a b p).wide = x.wide := by
    unfold State.storeOne State.reencode
    split <;> rfl
  exact List.foldlRecOn (motive := fun x : State => x.wide = s.wide) _ _ (hone s a b) fun x hx m _ =>
    (show (State.mirrorCount _ m.1 m.2.1 m.2.2.1).wide = _ from hone x _ _).trans hx

theorem State.copyRow_wide (s : State) (src dst n : Nat) : (s.copyRow src dst n).wide = s.wide :=
  List.foldlRecOn (motive := fun x : State => x.wide = s.wide) _ _ rfl fun x hx _ _ => (x.store_wide _ _ _).trans hx

/-- The rows an EXPORT copies leave the wide counters alone. -/
theorem foldl_copyRow_wide (rows : List (Nat × Nat)) (n : Nat) (s : State) :
    (rows.foldl (fun v r => v.copyRow r.1 r.2 n) s).wide = s.wide :=
  List.foldlRecOn (motive := fun x : State => x.wide = s.wide) _ _ rfl fun x hx r _ => (x.copyRow_wide r.1 r.2 n).trans hx

theorem State.unfence_wide (s : State) (q : Nat) : (s.unfence q).wide = s.wide := by
  unfold State.unfence
  split
  · split <;> rfl
  · rfl

/-- EXPORT of the whole coding output of camera 0, 16384 by 2 pixels, with stride 0 to the last 16 KiB of DRAM; it asks for no entry. -/
def wideExport : Desc :=
  { idx := 0, op := 0x10, cpl := false, irq := false, fence := false, tmode := 0, eflags := 0, tag := 0, deadline := 0,
    payload := [0, 1, 0, 0, 0, 0, 0, 0, 0x00, 0x40, 2, 0, 0, 0, 0, 0, 0x00, 0xC0, 0xFF, 0xFF, 0x1F],
    running := true, started := 0, late := 0, poison := false, cq := 93 }

/-- That EXPORT runs, CAM_LNKn_CSIZE of camera 0 holds 16384 by 2, and slot 0 of the output is written. -/
def exportUnderWay : State :=
  { State.reset with
    rings := [(92, { taken := [wideExport] })], regs := [(Reg.CAM_LNKn_CSIZE 0, 0x00024000)],
    cam := { slots := [(slotKey 0 1 0, { order := 1 })] } }

/-- A row of 32 KiB does not fit in 16 KiB: the EXPORT is refused with status 5, and the entry of the refusal, which no ring takes, is counted
as lost. -/
theorem exportUnderWay_refused : ∃ t, exec (.camExport 92) exportUnderWay = .next t ∧ t.wideGet Reg.RNG_OVFCNT_LO = 1 :=
  ⟨_, rfl, by decide⟩

/-- Where that EXPORT succeeds it writes no entry, so that none is lost. -/
theorem State.complete_wideExport_wide (s : State) (b : Bytes) : (s.complete 92 wideExport { bytes := b }).wide = s.wide :=
  (s.unreserve 92 wideExport).unfence_wide 92

/-- Refutes O19: its clause on a successful EXPORT asks only that 3 × H × stride + 16384 bytes fit in DRAM, which bounds a row of at most 8192
pixels; CAM_LNKn_CSIZE.W has 16 bits, and with stride 0 a row of 16384 pixels (32 KiB) passes the end of DRAM, so that the model refuses
the EXPORT. (A write of the register never leaves it a width above 4096, R152: the statement lacks that premise.) -/
theorem not_cameraPipelineCommandsComplete : ¬ Obligations.CameraPipelineCommandsComplete := by
  intro h
  obtain ⟨-, -, -, -, -, -, hexport, -⟩ := h
  obtain ⟨t, ht, hres⟩ := hexport exportUnderWay 92 wideExport 0 (.inl rfl) (by decide) (by decide) (by decide) (by decide) (by decide)
    (by decide) (by decide) (by decide) (by decide) (by decide) (by decide) rfl
  obtain ⟨u, hu, hlost⟩ := exportUnderWay_refused
  cases ht.symm.trans hu
  rw [State.wideGet, show t.wide = _ from congrArg State.wide hres, State.complete_wideExport_wide, foldl_copyRow_wide] at hlost
  exact absurd hlost (by decide)

end Sys2Proof.Machine
end

section
/-! SUPPORT. Prairie's own bookkeeping (R168-R195): what its events, poison counts, corrections and judgements of sensors leave alone. -/

namespace Sys2Proof.Machine

/-! ### Ring entries and records -/

/-- Ring entries and records leave Prairie alone. -/
theorem State.EntersTo.pra {s t : State} (h : s.EntersTo t) : t.pra = s.pra := (congrArg State.pra h.eq).trans rfl

theorem State.EntersTo.now {s t : State} (h : s.EntersTo t) : t.now = s.now := (congrArg State.now h.eq).trans rfl

theorem State.EntersTo.sensor {s t : State} (h : s.EntersTo t) (n : Nat) : t.sensor n = s.sensor n := by
  unfold State.sensor
  rw [h.pra]

/-- A field of block PRA reads the same after ring entries and records. -/
theorem State.EntersTo.pra_rd {s t : State} (h : s.EntersTo t) {f : Fld} (hf : f.addr / 0x1000 = 0x18) : t.rd f = s.rd f :=
  h.rd (by unfold entryBlock; omega)

/-- A Prairie event on rings 103 and 104 (R194). -/
theorem State.EntersTo.praEvent (s : State) (tag n : Nat) : s.EntersTo (s.praEvent tag n) :=
  (eventEntry s _ _ _ _ _ _).trans (eventEntry _ _ _ _ _ _ _)

theorem State.EntersTo.notify (s : State) (stat ie : Fld) : s.EntersTo (s.notify stat ie) := of_recordsTo (.notify s stat ie)

theorem State.EntersTo.mirror (s : State) (a n : Nat) (p : Bool) : s.EntersTo (s.mirror a n p) :=
  List.foldlRecOn (motive := fun x : State => s.EntersTo x) _ _ (refl s) fun _ hx _ _ =>
    (hx.trans (storeOne _ _ _ p)).trans (mirrorCount _ _ _ _)

/-! ### Sensors -/

/-- A sensor reads as it was set. -/
@[simp] theorem State.sensor_setSensor_same (s : State) (n : Nat) (x : Sensor) : (s.setSensor n x).sensor n = x := SMap.get_set_same _ _ _ _

/-- Setting a sensor leaves every other one alone. -/
theorem State.sensor_setSensor_other (s : State) {n m : Nat} (x : Sensor) (h : m ≠ n) : (s.setSensor n x).sensor m = s.sensor m :=
  SMap.get_set_other _ _ _ h

/-- A field written leaves the sensors alone. -/
theorem State.wr_sensor (s : State) (f : Fld) (v n : Nat) : (s.wr f v).sensor n = s.sensor n := rfl

/-- The registers of the sensors lie above those of the whole grid. -/
theorem Reg.sensStat_above (n : Nat) : 0x18100 ≤ Reg.PRA_SENSn_STAT n := by unfold Reg.PRA_SENSn_STAT; omega
theorem Reg.sensRes_above (n : Nat) : 0x18100 ≤ Reg.PRA_SENSn_RES n := by unfold Reg.PRA_SENSn_RES; omega
theorem Reg.sensLastseq_above (n : Nat) : 0x18100 ≤ Reg.PRA_SENSn_LASTSEQ n := by unfold Reg.PRA_SENSn_LASTSEQ; omega
theorem Reg.sensExtime_above (n : Nat) : 0x18100 ≤ Reg.PRA_SENSn_EXTIME n := by unfold Reg.PRA_SENSn_EXTIME; omega
theorem Reg.sensExclcnt_above (n : Nat) : 0x18100 ≤ Reg.PRA_SENSn_EXCLCNT n := by unfold Reg.PRA_SENSn_EXCLCNT; omega

/-! ### What the bookkeeping leaves alone -/

/-- `t` differs from `s`, in the time, in PRA_GSEQ and in what Prairie keeps, at most in the sensors and in whether a correction has moved. -/
structure State.SensesTo (s t : State) : Prop where
  pra : t.pra = { s.pra with sensors := t.pra.sensors, calChange := t.pra.calChange }
  now : t.now = s.now
  gseq : t.reg Reg.PRA_GSEQ = s.reg Reg.PRA_GSEQ

namespace State.SensesTo

variable {s t u : State}

theorem refl (s : State) : s.SensesTo s := ⟨rfl, rfl, rfl⟩

theorem trans (h : s.SensesTo t) (h' : t.SensesTo u) : s.SensesTo u :=
  ⟨h'.pra.trans ((congrArg (fun p : Prairie => { p with sensors := u.pra.sensors, calChange := u.pra.calChange }) h.pra).trans rfl),
    h'.now.trans h.now, h'.gseq.trans h.gseq⟩

theorem of_entersTo (h : s.EntersTo t) : s.SensesTo t := by
  refine ⟨?_, h.now, h.reg _ (by unfold entryBlock; decide)⟩
  rw [h.pra]

theorem net (h : s.SensesTo t) : t.pra.net = s.pra.net := (congrArg Prairie.net h.pra).trans rfl
theorem next (h : s.SensesTo t) : t.pra.next = s.pra.next := (congrArg Prairie.next h.pra).trans rfl
theorem loaded (h : s.SensesTo t) : t.pra.loaded = s.pra.loaded := (congrArg Prairie.loaded h.pra).trans rfl
theorem skipped (h : s.SensesTo t) : t.pra.skipped = s.pra.skipped := (congrArg Prairie.skipped h.pra).trans rfl
theorem restart (h : s.SensesTo t) : t.pra.restart = s.pra.restart := (congrArg Prairie.restart h.pra).trans rfl
theorem lastSync (h : s.SensesTo t) : t.pra.lastSync = s.pra.lastSync := (congrArg Prairie.lastSync h.pra).trans rfl
theorem grids (h : s.SensesTo t) : t.pra.grids = s.pra.grids := (congrArg Prairie.grids h.pra).trans rfl
theorem cycle (h : s.SensesTo t) : t.pra.cycle = s.pra.cycle := (congrArg Prairie.cycle h.pra).trans rfl
theorem lastTg (h : s.SensesTo t) : t.pra.lastTg = s.pra.lastTg := (congrArg Prairie.lastTg h.pra).trans rfl
theorem cells (h : s.SensesTo t) : t.pra.cells = s.pra.cells := (congrArg Prairie.cells h.pra).trans rfl
theorem grid (h : s.SensesTo t) : t.pra.grid = s.pra.grid := (congrArg Prairie.grid h.pra).trans rfl

/-- A loop keeps what each of its rounds keeps. -/
theorem foldl {α : Type} (f : State → α → State) (h : ∀ (x : State) a, x.SensesTo (f x a)) (l : List α) (s : State) :
    s.SensesTo (l.foldl f s) :=
  List.foldlRecOn (motive := fun x : State => s.SensesTo x) _ _ (refl s) fun x hx a _ => hx.trans (h x a)

/-! ### Registers, interrupts and memory -/

theorem setReg (s : State) {k : Nat} (w : W32) (h : Reg.PRA_GSEQ ≠ k) : s.SensesTo (s.setReg k w) := ⟨rfl, rfl, s.reg_setReg_other w h⟩

theorem wr (s : State) {f : Fld} (v : Nat) (h : Reg.PRA_GSEQ ≠ f.addr) : s.SensesTo (s.wr f v) := setReg s _ h

/-- A register of the sensors lies above PRA_GSEQ. -/
theorem wrSens (s : State) {f : Fld} (v : Nat) (h : 0x18100 ≤ f.addr) : s.SensesTo (s.wr f v) :=
  wr s v (lt_of_lt_of_le (by decide) h).ne

theorem measured (s : State) {f g : Fld} (v : Nat) (hf : Reg.PRA_GSEQ ≠ f.addr) (hg : Reg.PRA_GSEQ ≠ g.addr) : s.SensesTo (s.measured f g v) :=
  (wr s _ hf).trans (wr _ _ hg)

theorem measuredSens (s : State) {f g : Fld} (v : Nat) (hf : 0x18100 ≤ f.addr) (hg : 0x18100 ≤ g.addr) : s.SensesTo (s.measured f g v) :=
  (wrSens s _ hf).trans (wrSens _ _ hg)

theorem flag (s : State) {stat : Fld} (ie : Fld) (h : Reg.PRA_GSEQ ≠ stat.addr) : s.SensesTo (s.flag stat ie) :=
  (wr s 1 h).trans (of_entersTo (.notify _ stat ie))

theorem wideAdd (s : State) (key n : Nat) : s.SensesTo (s.wideAdd key n) := of_entersTo (.wideAdd s key n)

theorem praPoison (s : State) : s.SensesTo s.praPoison := by
  have hcount : s.SensesTo (s.inc F.PRA_POISCNT_CNT) := wr s _ (by decide)
  unfold State.praPoison
  dsimp only
  split
  · exact hcount.trans ⟨rfl, rfl, rfl⟩
  · exact hcount

theorem praPoisons (s : State) (n : Nat) : s.SensesTo (s.praPoisons n) := foldl _ (fun x _ => praPoison x) _ s

theorem tickFree (s : State) : s.SensesTo s.tickFree := ⟨rfl, rfl, rfl⟩

theorem put (s : State) (a : Nat) (b : Bytes) : s.SensesTo (s.put a b) := of_entersTo (.put s a b)

/-- A range rewritten in memory, with the wrong symbols written over and the free values used. -/
theorem rewrite (s : State) (a n free : Nat) (m : Memory) : s.SensesTo { s.reencode a n with mem := m, free := free } := by
  unfold State.reencode
  split <;> exact ⟨rfl, rfl, rfl⟩

theorem putContent (s : State) (a n : Nat) (c : Content) : s.SensesTo (s.putContent a n c) :=
  (rewrite s a n _ _).trans (of_entersTo (.mirror _ a n false))

theorem putZero (s : State) (a n : Nat) : s.SensesTo (s.putZero a n) := (rewrite s a n _ _).trans (of_entersTo (.mirror _ a n false))

theorem putFree (s : State) (a n : Nat) : s.SensesTo (s.putFree a n) := putContent s a n _

/-! ### Sensors -/

theorem setSensor (s : State) (n : Nat) (x : Sensor) : s.SensesTo (s.setSensor n x) := ⟨rfl, rfl, rfl⟩

theorem calChange (s : State) (b : Bool) : s.SensesTo { s with pra := { s.pra with calChange := b } } := ⟨rfl, rfl, rfl⟩

theorem showSensor (s : State) (n st : Nat) : s.SensesTo (s.showSensor n st) := wrSens s st (Reg.sensStat_above n)

theorem showCorr (s : State) (n : Nat) : s.SensesTo (s.showCorr n) := by
  have hcorr (x : State) (k : Nat) (w : W32) : x.SensesTo (x.setReg (Reg.PRA_SENSn_DTX n + 4 * k) w) :=
    setReg x w (by unfold Reg.PRA_GSEQ Reg.PRA_SENSn_DTX; omega)
  unfold State.showCorr
  exact ((foldl _ (fun x k => hcorr x k _) _ s).trans (wrSens _ _ (Reg.sensStat_above n))).trans
    (wrSens _ _ (Reg.sensStat_above n))

theorem praEvent (s : State) (tag n : Nat) : s.SensesTo (s.praEvent tag n) := of_entersTo (.praEvent s tag n)

theorem installCal (s : State) (n : Nat) : s.SensesTo (s.installCal n) := by
  unfold State.installCal
  extract_lets x y z moved t
  have ht : s.SensesTo t := (setSensor s n z).trans (showCorr _ n)
  split
  · exact ht.trans (calChange t true)
  · exact ht

theorem refine (s : State) (o : SensOut) (period : Nat) : s.SensesTo (s.refine o period) := by
  unfold State.refine
  extract_lets x
  split
  · exact refl s
  · split
    · exact refl s
    · extract_lets corr lim arrived t p u
      have ht : s.SensesTo t := (setSensor s _ _).trans (showCorr _ _)
      have hu : s.SensesTo u := by
        unfold u
        split
        · exact ht.trans (calChange t true)
        · exact ht
      split
      · exact hu.trans (praEvent u 3 _)
      · exact hu

theorem excludeSensor (s : State) (n : Nat) (manual : Bool) : s.SensesTo (s.excludeSensor n manual) := by
  unfold State.excludeSensor
  extract_lets x t u v r
  have hu : s.SensesTo u := (((setSensor s n _).trans (showSensor t n 2)).trans (wrSens _ _ (Reg.sensExclcnt_above n))).trans
    (wrSens _ _ (Reg.sensStat_above n))
  exact ((hu.trans (flag u _ (by decide))).trans (praEvent _ 1 n)).trans (of_entersTo (.of_recordsTo (.record v _ _ _ _ _ _)))

theorem reinstateSensor (s : State) (n : Nat) : s.SensesTo (s.reinstateSensor n) :=
  (((setSensor s n _).trans (showSensor _ n 1)).trans (wrSens _ _ (Reg.sensStat_above n))).trans (praEvent _ 2 n)

theorem judgeSensor (s : State) (o : SensOut) : s.SensesTo (s.judgeSensor o) := by
  unfold State.judgeSensor
  extract_lets x t u
  have ht : s.SensesTo t := wrSens s _ (Reg.sensStat_above o.sens)
  have hu : s.SensesTo u := by
    unfold u
    split
    · exact ht
    · exact ht.trans (measuredSens t _ (Reg.sensRes_above o.sens) (Reg.sensRes_above o.sens))
  split
  · exact hu
  · extract_lets resmax good above
    split
    · exact hu.trans (setSensor u _ _)
    · split
      · split
        · exact hu.trans (reinstateSensor u _)
        · exact hu.trans (setSensor u _ _)
      · split
        · exact hu.trans (excludeSensor u _ false)
        · exact hu.trans (setSensor u _ _)

end State.SensesTo

end Sys2Proof.Machine
end

section
/-! SUPPORT. Grid cycles (R168, R173, R181, R182): what a cycle that falls due starts with, and what becomes of one that is skipped. -/

namespace Sys2Proof.Machine

/-! ### The start of a cycle (R173, R181) -/

theorem State.SensesTo.lidarShow (s : State) (pts : List LidHit) (bad drop : Nat) (lidars : List (Nat × Nat)) :
    s.SensesTo (s.lidarShow pts bad drop lidars) := by
  unfold State.lidarShow
  extract_lets live t u
  have ht : s.SensesTo t := ((praPoisons s bad).trans (wr _ _ (by decide))).trans (wr _ _ (by decide))
  have hu : s.SensesTo u := ht.trans (foldl _ (fun x m => by
    split
    · exact wrSens x _ (Reg.sensLastseq_above (12 + m))
    · exact refl x) _ t)
  refine hu.trans (foldl _ (fun x m => ?_) _ u)
  split
  · exact measuredSens x _ (Reg.sensExtime_above _) (Reg.sensExtime_above _)
  · exact refl x

theorem State.SensesTo.poseRefresh (s : State) : s.SensesTo s.poseRefresh := wr s _ (by decide)

/-- Bit 1 of a cycle's flags tells of a pace timeout (R168, R173). -/
theorem cycleFlags_paceTmo : ∀ stale paceTmo heavy frozen restart poisoned : Bool,
    bitAt ((if stale then 1 else 0) + (if paceTmo then 2 else 0) + (if heavy then 8 else 0) + (if frozen then 16 else 0) +
      (if restart then 64 else 0) + (if poisoned then 512 else 0)) 1 = paceTmo := by decide

/-- A cycle that starts has the time, the network, the count of cycles skipped and the pace timeout told, and the count starts again. -/
theorem State.beginCycle_eq (s : State) (net : Net) (paceTmo : Bool) (lidars : List (Nat × Nat)) :
    ∃ w c, s.SensesTo w ∧ s.beginCycle net paceTmo lidars = { w with pra := { w.pra with cycle := some c, skipped := 0 } } ∧
      c.tg = s.now ∧ c.net = net ∧ c.nskip = s.pra.skipped ∧ bitAt c.flags 1 = paceTmo := by
  unfold State.beginCycle
  extract_lets tg t reads st pose all live spare pts cams times bad heavy restart poisoned frozen flags c u v v' w
  have ht : s.SensesTo t := .foldl _ (fun x n => .installCal x n) _ s
  clear_value t
  have hu : t.SensesTo u := .foldl _ (fun x n => by
    split
    · exact .showSensor x n _
    · exact .refl x) _ t
  have hv : t.SensesTo v := ((hu.trans (.lidarShow u pts bad spare lidars)).trans (.praPoisons _ s.posePoison)).trans (.wr _ _ (by decide))
  have hv' : v.SensesTo v' := by
    unfold v'
    split
    · exact ((State.SensesTo.praPoison v).trans (.wr _ _ (by decide))).trans (.praEvent _ 4 16)
    · exact .refl v
  exact ⟨w, c, ((ht.trans hv).trans hv').trans (.poseRefresh v'), rfl, rfl, rfl, ht.skipped,
    cycleFlags_paceTmo pose.stale paceTmo heavy frozen restart poisoned⟩

/-- The network that is to be the active one, in force: none is next, and the next grid carries RESTART (R179). -/
def State.netInForce (s : State) (n : Net) : State := { s with pra := { s.pra with net := some n, next := none, restart := true } }

theorem State.activate_senses (s : State) (n : Net) (resident : Bool) : (s.netInForce n).SensesTo (s.activate n resident) := by
  unfold State.activate
  extract_lets p t u v w
  have hu : (s.netInForce n).SensesTo u := .foldl _ (fun x k => .setSensor x k _) _ t
  have hv : (s.netInForce n).SensesTo v := ((hu.trans (.setReg u _ (by decide))).trans (.setReg _ _ (by decide))).trans (.wr _ _ (by decide))
  exact ((hv.trans (.wr v _ (by decide))).trans (.wr _ _ (by decide))).trans (.praEvent w 5 16)

/-- A cycle that falls due while none runs starts under the network that NETACT has made the next one, or else the active one. -/
theorem State.cycleDue_begins {s : State} {net : Net} (paceTmo : Bool) (lidars : List (Nat × Nat)) (hidle : s.pra.cycle = none)
    (hnet : (s.pra.next.map (fun x => x.1)).or s.pra.net = some net) :
    ∃ u : State, s.cycleDue paceTmo lidars = u.beginCycle net paceTmo lidars ∧ u.now = s.now ∧ u.pra.skipped = s.pra.skipped ∧ u.pra.net = some net ∧
      u.pra.next = none ∧ u.pra.lastSync = s.pra.lastSync := by
  unfold State.cycleDue
  rw [if_neg (by rw [hidle]; decide)]
  cases hnext : s.pra.next with
  | none =>
    rw [hnext] at hnet
    have hactive : s.pra.net = some net := hnet
    simp only [hactive]
    exact ⟨s, rfl, rfl, rfl, hactive, hnext, rfl⟩
  | some n =>
    rw [hnext] at hnet
    have hn : n.1 = net := Option.some.inj hnet
    have hforce := s.activate_senses n.1 n.2
    have hactive : (s.activate n.1 n.2).pra.net = some net := hforce.net.trans (congrArg some hn)
    simp only [hactive]
    exact ⟨_, rfl, hforce.now, hforce.skipped, hactive, hforce.next, hforce.lastSync⟩

/-- It has the time, that network, the count of cycles skipped and the pace timeout told, and the count starts again. -/
theorem State.cycleDue_starts {s : State} {net : Net} (paceTmo : Bool) (lidars : List (Nat × Nat)) (hidle : s.pra.cycle = none)
    (hnet : (s.pra.next.map (fun x => x.1)).or s.pra.net = some net) :
    (∃ c, (s.cycleDue paceTmo lidars).pra.cycle = some c ∧ c.tg = s.now ∧ c.net = net ∧ c.nskip = s.pra.skipped ∧ bitAt c.flags 1 = paceTmo) ∧
      (s.cycleDue paceTmo lidars).pra.skipped = 0 ∧ (s.cycleDue paceTmo lidars).pra.net = some net ∧
      (s.cycleDue paceTmo lidars).pra.next = none ∧ (s.cycleDue paceTmo lidars).pra.lastSync = s.pra.lastSync := by
  obtain ⟨u, hdue, hnow, hskip, hactive, hnext, hsync⟩ := State.cycleDue_begins paceTmo lidars hidle hnet
  obtain ⟨w, c, hw, hbegin, htg, hcnet, hnskip, htmo⟩ := u.beginCycle_eq net paceTmo lidars
  rw [hdue, hbegin]
  exact ⟨⟨c, rfl, htg.trans hnow, hcnet, hnskip.trans hskip, htmo⟩, rfl, hw.net.trans hactive, hw.next.trans hnext, hw.lastSync.trans hsync⟩

/-! ### Cycles skipped (R182) -/

/-- A status bit set, with its interrupt, changes registers and interrupts alone. -/
theorem State.flag_pra_mem (s : State) (stat ie : Fld) : (s.flag stat ie).pra = s.pra ∧ (s.flag stat ie).mem = s.mem := by
  unfold State.flag State.notify
  split <;> exact ⟨rfl, rfl⟩

/-- A cycle that falls due while another runs is skipped, counted and told. -/
theorem State.cycleDue_skips {s : State} (paceTmo : Bool) (lidars : List (Nat × Nat)) (hbusy : s.pra.cycle.isSome = true) :
    (s.cycleDue paceTmo lidars).pra = { s.pra with skipped := s.pra.skipped + 1 } ∧
      (s.cycleDue paceTmo lidars).rd F.PRA_STAT_SKIP = 1 ∧ (s.cycleDue paceTmo lidars).mem = s.mem := by
  obtain ⟨hpra, hmem⟩ := (s.wideAdd Reg.PRA_SKIPCNT_LO 1).flag_pra_mem F.PRA_STAT_SKIP F.PRA_CTL_IE_AGE
  unfold State.cycleDue State.skipCycle
  rw [if_pos hbusy]
  refine ⟨?_, State.flag_rd_same (s.wideAdd Reg.PRA_SKIPCNT_LO 1) (by decide) rfl, hmem⟩
  dsimp only
  rw [hpra]
  rfl

/-- The state in which a paced cycle falls due at the sync instant `sync`. -/
def State.syncUsed (s : State) (sync : Nat) : State := { s with pra := { s.pra with lastSync := some sync } }

/-- A paced cycle that falls due uses its sync instant once, whether it starts or is skipped. -/
theorem State.cycleDue_paced {s : State} {net : Net} (sync : Nat) (paceTmo : Bool) (lidars : List (Nat × Nat))
    (hnet : (s.pra.next.map (fun x => x.1)).or s.pra.net = some net) :
    ((s.syncUsed sync).cycleDue paceTmo lidars).pra.lastSync = some sync ∧
      (s.pra.cycle = none → ∃ c, ((s.syncUsed sync).cycleDue paceTmo lidars).pra.cycle = some c ∧ c.tg = s.now ∧ c.net = net ∧
        bitAt c.flags 1 = paceTmo) ∧
      (s.pra.cycle.isSome = true → ((s.syncUsed sync).cycleDue paceTmo lidars).pra.cycle = s.pra.cycle ∧
        ((s.syncUsed sync).cycleDue paceTmo lidars).pra.skipped = s.pra.skipped + 1) := by
  by_cases hidle : s.pra.cycle = none
  · obtain ⟨⟨c, hcycle, htg, hcnet, -, htmo⟩, -, -, -, hsync⟩ := State.cycleDue_starts (s := s.syncUsed sync) paceTmo lidars hidle hnet
    exact ⟨hsync, fun _ => ⟨c, hcycle, htg, hcnet, htmo⟩, fun h => absurd hidle (Option.isSome_iff_ne_none.mp h)⟩
  · have hbusy : s.pra.cycle.isSome = true := Option.isSome_iff_ne_none.mpr hidle
    obtain ⟨hskip, -, -⟩ := State.cycleDue_skips (s := s.syncUsed sync) paceTmo lidars hbusy
    rw [hskip]
    exact ⟨rfl, fun h => absurd h hidle, fun _ => ⟨rfl, rfl⟩⟩

end Sys2Proof.Machine
end

section
/-! SUPPORT. Stage 1 (R173, R191): what becomes of a frame offered to it, when its run starts, and what a run that completes leaves. -/

namespace Sys2Proof.Machine

/-! ### A frame offered to stage 1 (R173) -/

/-- STAGE1_RUN of an enabled camera's written slot, under an active network. -/
theorem execStage1Run_runs {s : State} {n slot : Nat} {net : Net} (tend : Nat) (runs : List Nat) (hnet : s.pra.net = some net)
    (hengine : s.engineUp 0 = true) (hn : n < s.code.cameras) (hen : s.on (F.PRA_SENSn_CTL_EN n) = true)
    (hslot : (s.slotInfo (slotKey n 2 slot)).order ≠ 0) :
    execStage1Run n slot tend runs s =
      .next (runs.foldl (fun t us => t.stage1Done net us) ((s.offerVision net n slot tend).startVision)) := by
  unfold execStage1Run
  rw [hnet]
  refine congrArg Host.Outcome.next (if_neg ?_)
  rintro (h | h | h | h)
  · exact Bool.false_ne_true (h.symm.trans hengine)
  · exact absurd hn (Nat.not_lt.mpr h)
  · exact Bool.false_ne_true (h.symm.trans hen)
  · exact hslot h

/-- The frame of camera `n` in slot `slot`, which ends at `tend`. -/
def State.visionFrame (s : State) (n slot tend : Nat) : VisionFrame :=
  { fseq := (s.slotInfo (slotKey n 2 slot)).fseq, tfs := (s.slotInfo (slotKey n 2 slot)).tfs, tend := tend, slot := slot }

/-- The state in which camera `n`'s pending frame, where it has one, has been given up for a newer one. -/
def State.pendGivenUp (s : State) (n : Nat) : State :=
  match (s.sensor n).pend with
  | some old => (s.dropSlot (slotKey n 2 old.slot)).dropFrame n
  | none => s

theorem State.pendGivenUp_keeps (s : State) (n : Nat) : (s.pendGivenUp n).pra = s.pra ∧ (s.pendGivenUp n).mem = s.mem := by
  unfold State.pendGivenUp
  split <;> exact ⟨rfl, rfl⟩

/-- A frame with a flag of R173 is not used. -/
theorem State.offerVision_unused {s : State} {n slot : Nat} (net : Net) (tend : Nat)
    (hflags : bitAt (s.slotInfo (slotKey n 2 slot)).flags 2 = true ∨ bitAt (s.slotInfo (slotKey n 2 slot)).flags 4 = true ∨
      bitAt (s.slotInfo (slotKey n 2 slot)).flags 9 = true) : s.offerVision net n slot tend = s.dropFrame n := if_pos hflags

/-- A frame without these flags, of the network's size and format, becomes the pending one, and its slot is held. -/
theorem State.offerVision_taken {s : State} {n slot : Nat} {net : Net} (tend : Nat)
    (hflags : bitAt (s.slotInfo (slotKey n 2 slot)).flags 2 = false ∧ bitAt (s.slotInfo (slotKey n 2 slot)).flags 4 = false ∧
      bitAt (s.slotInfo (slotKey n 2 slot)).flags 9 = false)
    (hsize : s.outSize n 2 = (net.mw, net.mh)) (hformat : s.rd (F.CAM_LNKn_CTL_MVFMT n) = net.mvfmt) :
    s.offerVision net n slot tend = ((s.pendGivenUp n).holdSlot (slotKey n 2 slot)).setSensor n
      { (s.pendGivenUp n).sensor n with pend := some (s.visionFrame n slot tend), mismatch := false } := by
  obtain ⟨h2, h4, h9⟩ := hflags
  unfold State.offerVision
  dsimp only
  rw [if_neg (by simp [h2, h4, h9]), if_neg (by simp [hsize, hformat])]
  rfl

/-- A frame offered leaves the run of stage 1 under way. -/
theorem State.offerVision_run (s : State) (net : Net) (n slot tend : Nat) : (s.offerVision net n slot tend).pra.run = s.pra.run := by
  unfold State.offerVision
  dsimp only
  split
  · rfl
  · split
    · rfl
    · obtain ⟨hpra, -⟩ := s.pendGivenUp_keeps n
      change (s.pendGivenUp n).pra.run = s.pra.run
      rw [hpra]

/-- What a frame taken leaves: it is pending, its camera shows no mismatch, its slot is held, and every other camera is as it was. -/
theorem State.offerVision_pends {s : State} {n slot : Nat} {net : Net} (tend : Nat)
    (hflags : bitAt (s.slotInfo (slotKey n 2 slot)).flags 2 = false ∧ bitAt (s.slotInfo (slotKey n 2 slot)).flags 4 = false ∧
      bitAt (s.slotInfo (slotKey n 2 slot)).flags 9 = false)
    (hsize : s.outSize n 2 = (net.mw, net.mh)) (hformat : s.rd (F.CAM_LNKn_CTL_MVFMT n) = net.mvfmt) :
    ((s.offerVision net n slot tend).sensor n).pend = some (s.visionFrame n slot tend) ∧
      ((s.offerVision net n slot tend).sensor n).mismatch = false ∧
      (∀ m, m ≠ n → (s.offerVision net n slot tend).sensor m = s.sensor m) ∧
      (s.offerVision net n slot tend).cam.holds.contains (slotKey n 2 slot) = true ∧ (s.offerVision net n slot tend).mem = s.mem := by
  obtain ⟨hpra, hmem⟩ := s.pendGivenUp_keeps n
  rw [State.offerVision_taken tend hflags hsize hformat, State.sensor_setSensor_same]
  refine ⟨rfl, rfl, fun m hm => ?_, ?_, hmem⟩
  · rw [State.sensor_setSensor_other _ _ hm]
    exact congrArg (fun p : Prairie => SMap.get (fun _ => {}) p.sensors m) hpra
  · exact List.contains_iff_mem.mpr List.mem_cons_self

/-! ### Stage 1 starts on a pending frame -/

theorem State.startVision_running {s : State} (h : s.pra.run.isSome = true) : s.startVision = s := if_pos h

/-- What stage 1 starting on a frame leaves alone: all but Prairie, and the camera's last frame processed. -/
theorem State.startVision_keeps (s : State) :
    s.startVision.mem = s.mem ∧ s.startVision.cam = s.cam ∧ (∀ f, s.startVision.rd f = s.rd f) ∧
      ∀ m, (s.startVision.sensor m).ready = (s.sensor m).ready := by
  unfold State.startVision
  split
  · exact ⟨rfl, rfl, fun _ => rfl, fun _ => rfl⟩
  · split
    · exact ⟨rfl, rfl, fun _ => rfl, fun _ => rfl⟩
    · next n f _ =>
      refine ⟨rfl, rfl, fun _ => rfl, fun m => ?_⟩
      change ((s.setSensor n { s.sensor n with pend := none }).sensor m).ready = _
      by_cases hm : m = n
      · rw [hm, State.sensor_setSensor_same]
      · rw [s.sensor_setSensor_other _ hm]

/-- A frame that alone is pending is the one stage 1 takes next. -/
theorem State.nextVision_sole {s : State} {n : Nat} {f : VisionFrame} (hn : n < 12) (hpend : (s.sensor n).pend = some f)
    (hothers : ∀ m, m < 12 → m ≠ n → (s.sensor m).pend = none) : s.nextVision = some (n, f) := by
  have hsole : (List.range 12).filterMap (fun m => (s.sensor m).pend.map (fun f => (m, f))) = [(n, f)] := by
    obtain ⟨l, r, hlr⟩ := List.append_of_mem (List.mem_range.mpr hn)
    have hapart : (l ++ n :: r).Nodup := hlr ▸ List.nodup_range
    have hnone (m : Nat) (hm : m ∈ l ++ n :: r) (hne : m ≠ n) : (s.sensor m).pend.map (fun f => (m, f)) = none := by
      rw [hothers m (List.mem_range.mp (hlr ▸ hm)) hne, Option.map_none]
    have hout : n ∉ l ++ r := (List.nodup_middle.mp hapart).notMem
    rw [hlr, List.filterMap_append, List.filterMap_cons, hpend,
      List.filterMap_eq_nil_iff.mpr fun m hm => hnone m (by simp [hm]) fun e => hout (by simp [← e, hm]),
      List.filterMap_eq_nil_iff.mpr fun m hm => hnone m (by simp [hm]) fun e => hout (by simp [← e, hm])]
    rfl
  unfold State.nextVision
  rw [hsole]
  rfl

/-- Stage 1, when it runs on no frame, starts on the next one, which is pending no longer. -/
theorem State.startVision_starts {s : State} {n : Nat} {f : VisionFrame} (hidle : s.pra.run = none) (hnext : s.nextVision = some (n, f)) :
    s.startVision.pra.run = some (n, f) ∧ (s.startVision.sensor n).pend = none := by
  unfold State.startVision
  rw [if_neg (by rw [hidle]; decide), hnext]
  exact ⟨rfl, congrArg Sensor.pend (s.sensor_setSensor_same n _)⟩

/-! ### A run of stage 1 completes -/

/-- Poison events leave Prairie alone. -/
theorem State.praPoisons_pra (s : State) (n : Nat) : (s.praPoisons n).pra = s.pra := by
  refine List.foldlRecOn (motive := fun x : State => x.pra = s.pra) _ _ rfl fun x hx _ _ => Eq.trans ?_ hx
  unfold State.praPoison
  dsimp only
  split <;> rfl

theorem State.praPoisons_sensor (s : State) (n m : Nat) : (s.praPoisons n).sensor m = s.sensor m := by
  unfold State.sensor
  rw [s.praPoisons_pra n]

/-- The frame `g` of camera `m` as stage 1 leaves it: what it made of it, and the rows that poisoned lines mark (R191). -/
def State.frameMade (s : State) (net : Net) (m : Nat) (g : VisionFrame) : VisionFrame :=
  { g with seed := s.free, marked := net.markedRows (s.badRows m g.slot) }

/-- The state in which the run on frame `g` of camera `m` has ended: the frame is ready, and its slot is let go. -/
def State.frameReady (s : State) (net : Net) (m : Nat) (g : VisionFrame) : State :=
  (((s.tickFree).dropSlot (slotKey m 2 g.slot)).setSensor m { s.sensor m with ready := some (s.frameMade net m g) }).praPoisons
    (s.mem.poisonCount (s.slotAddr m 2 g.slot) (s.slotBytes m 2))

theorem State.frameReady_ready (s : State) (net : Net) (m : Nat) (g : VisionFrame) :
    ((s.frameReady net m g).sensor m).ready = some (s.frameMade net m g) := by
  unfold State.frameReady
  rw [State.praPoisons_sensor, State.sensor_setSensor_same]

/-- The state in which its time and its SEQ are shown, too. -/
def State.runShown (s : State) (m us fseq : Nat) : State :=
  (s.measured (F.PRA_SENSn_EXTIME_LAST m) (F.PRA_SENSn_EXTIME_PEAK m) us).wr (F.PRA_SENSn_LASTSEQ_SEQ m) fseq

theorem State.runShown_rd (s : State) (m us fseq : Nat) :
    (s.runShown m us fseq).rd (F.PRA_SENSn_LASTSEQ_SEQ m) = fseq % 2 ^ 32 ∧
      (s.runShown m us fseq).rd (F.PRA_SENSn_EXTIME_LAST m) = min us (maxOf 16) := by
  have hne : Reg.PRA_SENSn_EXTIME m ≠ Reg.PRA_SENSn_LASTSEQ m := by unfold Reg.PRA_SENSn_EXTIME Reg.PRA_SENSn_LASTSEQ; omega
  unfold State.runShown State.measured State.peak
  refine ⟨State.rd_wr_same _ _ _ (by decide : 31 < 32), ?_⟩
  rw [State.rd_wr_other _ _ hne, State.rd_wr_beside _ _ (by decide : 31 < 32) (by decide : 15 < 32) (by decide : 31 < 0 ∨ 15 < 16)]
  exact s.rd_wrSat_same _ us (by decide : 15 < 32)

theorem State.runShown_sensor (s : State) (m us fseq n : Nat) : (s.runShown m us fseq).sensor n = s.sensor n := by
  rw [State.runShown, State.wr_sensor, State.measured, State.peak, State.wr_sensor, State.wrSat, State.wr_sensor]

/-- No run of stage 1 is under way. -/
def State.runCleared (s : State) : State := { s with pra := { s.pra with run := none } }

theorem State.runCleared_rd (s : State) (f : Fld) : s.runCleared.rd f = s.rd f := rfl
theorem State.runCleared_sensor (s : State) (n : Nat) : s.runCleared.sensor n = s.sensor n := rfl

theorem State.stage1Done_eq {s : State} {m : Nat} {g : VisionFrame} (net : Net) (us : Nat) (hrun : s.pra.run = some (m, g)) :
    s.stage1Done net us = ((s.frameReady net m g).runShown m us g.fseq).runCleared.startVision := by
  unfold State.stage1Done
  rw [hrun]
  rfl

/-- The frame of a run that completes is ready; its SEQ and the run's time are shown. -/
theorem State.stage1Done_readies {s : State} {m : Nat} {g : VisionFrame} (net : Net) (us : Nat) (hrun : s.pra.run = some (m, g)) :
    ((s.stage1Done net us).sensor m).ready = some (s.frameMade net m g) ∧
      (s.stage1Done net us).rd (F.PRA_SENSn_LASTSEQ_SEQ m) = g.fseq % 2 ^ 32 ∧
      (s.stage1Done net us).rd (F.PRA_SENSn_EXTIME_LAST m) = min us (maxOf 16) := by
  obtain ⟨-, -, hrd, hready⟩ := ((s.frameReady net m g).runShown m us g.fseq).runCleared.startVision_keeps
  rw [State.stage1Done_eq net us hrun, hready, hrd, hrd, State.runCleared_rd, State.runCleared_rd, State.runCleared_sensor, State.runShown_sensor]
  exact ⟨s.frameReady_ready net m g, State.runShown_rd _ m us g.fseq⟩

end Sys2Proof.Machine
end

section
/-! SUPPORT. Publication (R164-R168, R182, R183): the number a grid takes, and what is kept of it. -/

namespace Sys2Proof.Machine

theorem State.SensesTo.putTensor (s : State) (a seed : Nat) (values : List (Nat × Nat)) (words : List Nat) :
    s.SensesTo (s.putTensor a seed values words) := by
  unfold State.putTensor
  extract_lets nc t u
  have hu : s.SensesTo u := (putContent s a _ _).trans (foldl _ (fun x v => by
    split
    · exact put x _ _
    · exact refl x) _ t)
  refine hu.trans (foldl _ (fun x w => ?_) _ u)
  split
  · exact putZero x _ _
  · exact refl x

theorem State.SensesTo.gridEntry (s : State) (slot gseq tg age flags npois : Nat) : s.SensesTo (s.gridEntry slot gseq tg age flags npois) :=
  of_entersTo (.looseEntry s _ _ _ _ _ _ _ _)

/-- Publication writes the grid into memory, keeps it under the next number, shows that number, and then tells of it and judges the sensors. -/
theorem execGridPublish_publishes {s : State} {c : GridCycle} (values : List (Nat × Nat)) (sens : List SensOut) (hcycle : s.pra.cycle = some c)
    (hengine : s.engineUp 0 = true) :
    ∃ u flags t, execGridPublish values sens s = .next t ∧ s.SensesTo u ∧
      State.SensesTo ((u.keepGrid c (s.pra.grids % 2 ^ 32) flags (s.cellWords c)).wr F.PRA_GSEQ_GSEQ (s.pra.grids % 2 ^ 32)) t := by
  unfold execGridPublish
  rw [hcycle]
  dsimp -zeta only
  rw [if_neg (by rw [hengine]; decide)]
  extract_lets tnew ageNs period words npois aged flags gseq a slot plane seed bad age t1 t2 t3 t4 t5 t6 t7 t8 t9
  have h5 : s.SensesTo t5 := (((((State.SensesTo.tickFree s).trans (.praPoisons _ bad)).trans (.put t1 _ _)).trans
    ((State.SensesTo.putTensor t2 _ seed values words).trans (.putTensor _ featureBase seed values words))).trans (.putFree t3 _ _)).trans
    ((State.SensesTo.putZero t4 _ _).trans (.put _ _ _))
  have h7 : State.SensesTo (t6.wr F.PRA_GSEQ_GSEQ gseq) t7 :=
    ((State.SensesTo.measured _ _ (by decide) (by decide)).trans (.measured _ _ (by decide) (by decide))).trans (.wideAdd _ _ _)
  have h8 : t7.SensesTo t8 := .gridEntry t7 slot gseq c.tg age flags npois
  have h9 : t8.SensesTo t9 := by
    unfold t9
    split
    · exact (State.SensesTo.flag t8 _ (by decide)).trans (.praEvent _ 6 16)
    · exact .refl t8
  have hjudge (x : State) (o : SensOut) : x.SensesTo ((x.refine o period).judgeSensor o) :=
    (State.SensesTo.refine x o period).trans (.judgeSensor _ o)
  exact ⟨t5, flags, _, rfl, h5, ((h7.trans h8).trans h9).trans (.foldl _ hjudge _ t9)⟩

/-- A published grid takes the next number, which is shown; its time, pose and cell words are kept, and no cycle runs. -/
theorem execGridPublish_numbers {s : State} {c : GridCycle} (values : List (Nat × Nat)) (sens : List SensOut) (hcycle : s.pra.cycle = some c)
    (hengine : s.engineUp 0 = true) :
    Completes (.gridPublish values sens) s (fun t => t.pra.cycle = none ∧ t.pra.grids = s.pra.grids + 1 ∧
      t.rd F.PRA_GSEQ_GSEQ = s.pra.grids % 2 ^ 32 ∧ t.pra.lastTg = some c.tg ∧ t.pra.cells = s.cellWords c ∧ t.pra.restart = false ∧
      t.pra.grid.map (fun g => (g.gseq, g.tg, g.tpub, g.pose)) = some (s.pra.grids % 2 ^ 32, c.tg, s.now, c.pose)) := by
  obtain ⟨u, flags, t, hexec, hu, ht⟩ := execGridPublish_publishes values sens hcycle hengine
  refine ⟨t, hexec, ht.cycle, ht.grids.trans (congrArg (· + 1) hu.grids), ?_, ht.lastTg, ht.cells, ht.restart, ?_⟩
  · rw [State.rd_congr ht.gseq]
    exact State.rd_wr_fits _ (by decide) (Nat.mod_lt _ (by decide))
  · rw [ht.grid, ← hu.now]
    rfl

end Sys2Proof.Machine
end

section
/-! SUPPORT. The descriptors of Prairie's networks and sensors (R177-R190): what each leaves, and what its completion leaves alone. -/

namespace Sys2Proof.Machine

/-- The service of an opcode a descriptor of the ring runs with. -/
theorem State.serve_of_running {s : State} {q op : Nat} {d : Desc} (f : Desc → State → State × Result) (h : s.running q op = some d) :
    s.serve q op f = (f d s).1.complete q d (f d s).2 := by
  unfold State.serve
  rw [h]

/-- A field of block PRA reads the same once a descriptor has completed. -/
theorem State.complete_pra_rd (s : State) (q : Nat) (d : Desc) (r : Result) {f : Fld} (hf : f.addr / 0x1000 = 0x18) :
    (s.complete q d r).rd f = s.rd f := (State.EntersTo.complete s q d r).pra_rd hf

@[simp] theorem State.complete_pra (s : State) (q : Nat) (d : Desc) (r : Result) : (s.complete q d r).pra = s.pra :=
  (State.EntersTo.complete s q d r).pra

@[simp] theorem State.complete_sensor (s : State) (q : Nat) (d : Desc) (r : Result) (n : Nat) : (s.complete q d r).sensor n = s.sensor n :=
  (State.EntersTo.complete s q d r).sensor n

theorem Reg.sensStat_block (n : Nat) : Reg.PRA_SENSn_STAT n / 0x1000 = 0x18 := by unfold Reg.PRA_SENSn_STAT; omega
theorem Reg.sensExclcnt_block (n : Nat) : Reg.PRA_SENSn_EXCLCNT n / 0x1000 = 0x18 := by unfold Reg.PRA_SENSn_EXCLCNT; omega

/-! ### NETLOAD (R177, R179) -/

/-- A NETLOAD that runs alone shows LOADING until it has ended, and completes with what it built. -/
theorem execNetload_alone {s : State} {d : Desc} (finished fit : Bool) (hrun : s.running 100 1 = some d)
    (halone : (dropDesc d (s.ring 100).taken).find? (fun x => x.running && decide (x.op = 1)) = none) :
    execNetload 100 finished fit s = .next (if finished = false then s.wr F.PRA_NETSTAT_STATE 1 else
      (s.netBuild d false fit).1.complete 100 d (s.netBuild d false fit).2) := by
  unfold execNetload
  rw [if_pos rfl, hrun]
  dsimp only
  rw [halone]

/-- A package that lies in DRAM at a multiple of 4,096 is read. -/
theorem State.netPlace_read {s : State} {d : Desc} (haligned : d.le 24 8 % 4096 = 0)
    (hinside : inDramRange s.code (d.le 24 8) (max (d.le 32 8) 256) = true) : s.netPlace d = 0 := by
  unfold State.netPlace
  rw [if_neg (not_not_intro haligned), if_neg (by rw [hinside]; decide)]

/-- A package that passes its checks is built into the inactive bank; another leaves its status. -/
theorem State.netBuild_read {s : State} {d : Desc} (fit : Bool) (hplace : s.netPlace d = 0) :
    s.netBuild d false fit = if s.netStatus (d.le 24 8) (d.le 32 8) false fit = 0 then
        (({ s with pra := { s.pra with loaded := some (s.netOf (d.le 24 8) (d.le 32 8)) } } : State).wr F.PRA_NETSTAT_STATE 2,
          { bytes := resultOf [(24, 4, (s.netOf (d.le 24 8) (d.le 32 8)).netid), (28, 4, (s.netOf (d.le 24 8) (d.le 32 8)).netver)] })
      else (s.showNet, { status := s.netStatus (d.le 24 8) (d.le 32 8) false fit }) := by
  unfold State.netBuild
  dsimp only
  rw [if_neg (not_not_intro hplace)]
  by_cases h : s.netStatus (d.le 24 8) (d.le 32 8) false fit = 0
  · rw [if_neg (not_not_intro h), if_pos h]
  · rw [if_pos h, if_neg h]
    rfl

/-! ### NETACT (R179) -/

/-- A network in force shows ACTIVE. -/
theorem State.activate_shows (s : State) (n : Net) (resident : Bool) : (s.activate n resident).rd F.PRA_NETSTAT_STATE = 3 := by
  unfold State.activate
  extract_lets p t u v w
  rw [(State.EntersTo.praEvent w 5 16).pra_rd (by decide)]
  unfold w State.wrB
  rw [State.rd_wr_beside _ _ (by decide) (by decide) (by decide), State.rd_wr_beside _ _ (by decide) (by decide) (by decide)]
  exact State.rd_wr_fits _ (by decide) (by decide)

/-- The active network that leaves takes the one made next with it, and the grid cycles stop. -/
theorem State.deactivate_shows (s : State) :
    s.deactivate.pra.net = none ∧ s.deactivate.on F.PRA_GCTL_EN = false ∧ s.deactivate.reg Reg.PRA_NETID = 0 ∧
      s.deactivate.rd F.PRA_NETSTAT_STATE = if s.pra.loaded.isSome = true then 2 else 0 := by
  unfold State.deactivate State.showNet
  extract_lets p t u
  refine ⟨rfl, ?_, ?_, ?_⟩
  · have hen : ((u.wr F.PRA_NETSTAT_RESIDENT 0).wr F.PRA_NETSTAT_OVERBUDGET 0).rd F.PRA_GCTL_EN = (t.wr F.PRA_GCTL_EN 0).rd F.PRA_GCTL_EN := by
      refine State.rd_congr ?_
      unfold u
      rw [State.reg_wr_other _ _ (by decide), State.reg_wr_other _ _ (by decide), State.reg_wr_other _ _ (by decide),
        State.reg_setReg_other _ _ (by decide), State.reg_setReg_other _ _ (by decide)]
    rw [State.on_congr hen]
    exact t.on_wr_zero (by decide)
  · unfold u
    rw [State.reg_wr_other _ _ (by decide), State.reg_wr_other _ _ (by decide), State.reg_wr_other _ _ (by decide),
      State.reg_setReg_other _ _ (by decide), State.reg_setReg_same]
  · rw [State.rd_wr_beside _ _ (by decide) (by decide) (by decide), State.rd_wr_beside _ _ (by decide) (by decide) (by decide)]
    refine (State.rd_wr_fits _ (by decide) ?_).trans rfl
    split
    · decide
    · split <;> decide

/-- NETACT with 1: the loaded network comes into force at once where none is active, else from the next cycle on. -/
def State.netTaken (s : State) (resident : Bool) : State × Result :=
  match s.pra.loaded with
  | some n =>
    (if s.pra.net.isNone then ({ s with pra := { s.pra with loaded := none } } : State).activate n resident
      else { s with pra := { s.pra with loaded := none, next := some (n, resident) } }, {})
  | none => (s, { status := 0x46 })

theorem execNetact_takes {s : State} {d : Desc} (resident : Bool) (hrun : s.running 100 2 = some d) (hone : d.le 16 1 = 1) :
    execNetact 100 resident s = .next ((s.netTaken resident).1.complete 100 d (s.netTaken resident).2) := by
  unfold execNetact
  rw [if_pos rfl, State.serve_of_running _ hrun]
  exact congrArg (fun r : State × Result => Host.Outcome.next (r.1.complete 100 d r.2)) ((if_neg (by omega)).trans (if_pos hone))

theorem execNetact_withdraws {s : State} {d : Desc} (resident : Bool) (hrun : s.running 100 2 = some d) (hzero : d.le 16 1 = 0) :
    execNetact 100 resident s = .next (s.deactivate.complete 100 d {}) := by
  unfold execNetact
  rw [if_pos rfl, State.serve_of_running _ hrun]
  dsimp only
  rw [if_pos hzero]

/-- The loaded network comes into force where none is active, with RESTART owed to its first grid. -/
theorem State.netTaken_active {s : State} (resident : Bool) (hloaded : s.pra.loaded.isSome = true) (hnone : s.pra.net = none) :
    (s.netTaken resident).1.pra.net = s.pra.loaded ∧ (s.netTaken resident).1.pra.loaded = none ∧ (s.netTaken resident).1.pra.restart = true ∧
      (s.netTaken resident).1.rd F.PRA_NETSTAT_STATE = 3 := by
  obtain ⟨n, hn⟩ := Option.isSome_iff_exists.mp hloaded
  unfold State.netTaken
  rw [hn]
  dsimp only
  rw [if_pos (by rw [hnone]; rfl)]
  have hforce := State.activate_senses { s with pra := { s.pra with loaded := none } } n resident
  exact ⟨hforce.net, hforce.loaded, hforce.restart, State.activate_shows _ n resident⟩

/-- It is the next one where another is active. -/
theorem State.netTaken_next {s : State} (resident : Bool) (hloaded : s.pra.loaded.isSome = true) (hactive : s.pra.net.isSome = true) :
    (s.netTaken resident).1.pra.next = s.pra.loaded.map (fun n => (n, resident)) ∧ (s.netTaken resident).1.pra.loaded = none ∧
      (s.netTaken resident).1.pra.net = s.pra.net := by
  obtain ⟨n, hn⟩ := Option.isSome_iff_exists.mp hloaded
  obtain ⟨m, hm⟩ := Option.isSome_iff_exists.mp hactive
  unfold State.netTaken
  rw [hn, hm]
  exact ⟨rfl, rfl, hm⟩

/-! ### CALLOAD and CALREAD (R185, R186) -/

/-- The state with record `r` taken for sensor `n`, before its reinstatement is told. -/
def State.calTaken (s : State) (n : Nat) (r : Bytes) : State :=
  (((s.setSensor n { s.sensor n with calNew := some r, excluded := false, above := 0, good := 0 }).showSensor n 1).wr
    (F.PRA_SENSn_STAT_MANUAL n) 0).wr (F.PRA_SENSn_RES_RES n) 0

theorem State.calTaken_shows (s : State) (n : Nat) (r : Bytes) :
    ((s.calTaken n r).sensor n).calNew = some r ∧ ((s.calTaken n r).sensor n).excluded = false ∧
      (s.calTaken n r).rd (F.PRA_SENSn_STAT_STATE n) = 1 := by
  have hsensor : (s.calTaken n r).sensor n = { s.sensor n with calNew := some r, excluded := false, above := 0, good := 0 } :=
    by rw [State.calTaken, State.showSensor, State.wr_sensor, State.wr_sensor, State.wr_sensor, State.sensor_setSensor_same]
  rw [hsensor]
  refine ⟨rfl, rfl, ?_⟩
  unfold State.calTaken State.showSensor
  rw [State.rd_wr_other _ _ (by unfold F.PRA_SENSn_STAT_STATE F.PRA_SENSn_RES_RES Reg.PRA_SENSn_STAT Reg.PRA_SENSn_RES; dsimp only; omega),
    State.rd_wr_beside _ _ (by decide : 26 < 32) (by decide : 31 < 32) (by decide : 26 < 29 ∨ 31 < 26)]
  exact State.rd_wr_fits _ (by decide : 31 < 32) (by decide : 1 < 2 ^ 3)

/-- An event told on a condition. -/
theorem State.EntersTo.praEventIf (s : State) (b : Bool) (tag n : Nat) : s.EntersTo (if b then s.praEvent tag n else s) := by
  split
  · exact praEvent s tag n
  · exact refl s

/-- A clean record that stands its checks is taken; one that does not is refused. -/
theorem execCalload_reads {s : State} {d : Desc} (hrun : s.running 100 0x10 = some d) (haligned : d.le 24 8 % 64 = 0)
    (hmem : s.memOk (d.le 24 8) 128 = true) (hsensor : s.code.hasSensor (d.le 16 1) = true)
    (hclean : s.mem.poisoned (d.le 24 8) 128 = false) :
    execCalload 100 s = .next (if calOk (d.le 16 1) (s.mem.readBytes (d.le 24 8) 128) = false then s.complete 100 d { status := 0x47 } else
      (if s.sensExcluded (d.le 16 1) then (s.calTaken (d.le 16 1) (s.mem.readBytes (d.le 24 8) 128)).praEvent 2 (d.le 16 1)
        else s.calTaken (d.le 16 1) (s.mem.readBytes (d.le 24 8) 128)).complete 100 d {}) := by
  unfold execCalload
  rw [if_pos rfl, State.serve_of_running _ hrun]
  dsimp only
  rw [if_neg (not_not_intro haligned), if_neg (by rw [hmem]; decide), if_neg (by rw [hsensor]; decide), if_neg (by rw [hclean]; decide)]
  split <;> rfl

theorem execCalread_writes {s : State} {d : Desc} (hrun : s.running 100 0x11 = some d) (haligned : d.le 24 8 % 64 = 0)
    (hmem : s.memOk (d.le 24 8) 128 = true) (hsensor : s.code.hasSensor (d.le 16 1) = true) :
    execCalread 100 s = .next ((s.put (d.le 24 8) (s.sensor (d.le 16 1)).recordNow).complete 100 d {}) := by
  unfold execCalread
  rw [if_pos rfl, State.serve_of_running _ hrun]
  dsimp only
  rw [if_neg (not_not_intro haligned), if_neg (by rw [hmem]; decide), if_neg (by rw [hsensor]; decide)]

/-! ### REINSTATE and EXCLUDE (R188, R190) -/

/-- A sensor returned to use is ACTIVE, and no longer excluded by hand. -/
theorem State.reinstateSensor_shows (s : State) (n : Nat) :
    (s.reinstateSensor n).sensExcluded n = false ∧ (s.reinstateSensor n).rd (F.PRA_SENSn_STAT_STATE n) = 1 ∧
      (s.reinstateSensor n).rd (F.PRA_SENSn_STAT_MANUAL n) = 0 := by
  unfold State.reinstateSensor State.sensExcluded
  extract_lets x t
  have hevent := State.EntersTo.praEvent ((t.showSensor n 1).wr (F.PRA_SENSn_STAT_MANUAL n) 0) 2 n
  have hrd (f : Fld) (hf : f.addr = Reg.PRA_SENSn_STAT n) := hevent.pra_rd (f := f) (hf ▸ Reg.sensStat_block n)
  rw [hevent.sensor n, hrd _ rfl, hrd _ rfl]
  refine ⟨?_, ?_, State.rd_wr_same _ _ _ (by decide : 26 < 32)⟩
  · rw [State.wr_sensor, State.showSensor, State.wr_sensor, State.sensor_setSensor_same]
  rw [State.rd_wr_beside _ _ (by decide : 26 < 32) (by decide : 31 < 32) (by decide : 26 < 29 ∨ 31 < 26)]
  exact State.rd_wr_fits _ (by decide : 31 < 32) (by decide : 1 < 2 ^ 3)

/-- The state in which sensor `n` is excluded, before that is told. -/
def State.sensorOut (s : State) (n : Nat) (manual : Bool) : State :=
  ((((s.setSensor n { s.sensor n with excluded := true, above := 0, good := 0 }).showSensor n 2).inc (F.PRA_SENSn_EXCLCNT_CNT n)).wrB
    (F.PRA_SENSn_STAT_MANUAL n) manual).wr F.PRA_STAT_EXCL 1

/-- The telling of an exclusion is an interrupt, ring entries and a record. -/
theorem State.excludeSensor_tells (s : State) (n : Nat) (manual : Bool) : (s.sensorOut n manual).EntersTo (s.excludeSensor n manual) :=
  ((State.EntersTo.notify _ _ _).trans (.praEvent _ 1 n)).trans (.of_recordsTo (.record _ _ _ _ _ _ _))

/-- A sensor excluded shows it, with the exclusion counted. -/
theorem State.sensorOut_shows (s : State) (n : Nat) (manual : Bool) :
    (s.sensorOut n manual).sensExcluded n = true ∧ (s.sensorOut n manual).on (F.PRA_SENSn_STAT_MANUAL n) = manual ∧
      (s.sensorOut n manual).rd (F.PRA_SENSn_STAT_STATE n) = 2 ∧ (s.sensorOut n manual).rd F.PRA_STAT_EXCL = 1 ∧
      (s.sensorOut n manual).rd (F.PRA_SENSn_EXCLCNT_CNT n) = satAdd 32 (s.rd (F.PRA_SENSn_EXCLCNT_CNT n)) 1 := by
  have hlow : Reg.PRA_SENSn_STAT n ≠ Reg.PRA_STAT := (lt_of_lt_of_le (by decide) (Reg.sensStat_above n)).ne'
  have hlowcnt : Reg.PRA_SENSn_EXCLCNT n ≠ Reg.PRA_STAT := (lt_of_lt_of_le (by decide) (Reg.sensExclcnt_above n)).ne'
  have hne : Reg.PRA_SENSn_STAT n ≠ Reg.PRA_SENSn_EXCLCNT n := by unfold Reg.PRA_SENSn_STAT Reg.PRA_SENSn_EXCLCNT; omega
  unfold State.sensorOut State.showSensor State.wrB
  refine ⟨?_, ?_, ?_, State.rd_wr_fits _ (by decide) (by decide), ?_⟩
  · rw [State.sensExcluded, State.wr_sensor, State.wr_sensor, State.inc, State.incBy, State.wr_sensor, State.wr_sensor, State.sensor_setSensor_same]
  · rw [State.on_congr (State.rd_wr_other _ _ hlow)]
    cases manual
    · exact State.on_wr_zero _ (by decide : 26 < 32)
    · exact State.on_wr_one _ (by decide : 26 < 32) rfl
  · rw [State.rd_wr_other _ _ hlow, State.rd_wr_beside _ _ (by decide : 26 < 32) (by decide : 31 < 32) (by decide : 26 < 29 ∨ 31 < 26),
      State.inc, State.incBy, State.rd_wr_other _ _ hne]
    exact State.rd_wr_fits _ (by decide : 31 < 32) (by decide : 2 < 2 ^ 3)
  · rw [State.rd_wr_other _ _ hlowcnt, State.rd_wr_other _ _ hne.symm, State.rd_inc_same _ (by decide : 31 < 32), State.rd_wr_other _ _ hne.symm]
    rfl

theorem execReinstate_serves {s : State} {d : Desc} (hrun : s.running 100 0x13 = some d) (hsensor : s.code.hasSensor (d.le 16 1) = true) :
    execReinstate 100 s = .next ((if s.sensExcluded (d.le 16 1) then s.reinstateSensor (d.le 16 1) else s).complete 100 d {}) := by
  unfold execReinstate
  rw [if_pos rfl, State.serve_of_running _ hrun]
  dsimp only
  rw [if_neg (by rw [hsensor]; decide)]
  split <;> rfl

theorem execExclude_serves {s : State} {d : Desc} (hrun : s.running 100 0x14 = some d) (hsensor : s.code.hasSensor (d.le 16 1) = true) :
    execExclude 100 s = .next ((if s.sensExcluded (d.le 16 1) then s.wr (F.PRA_SENSn_STAT_MANUAL (d.le 16 1)) 1
      else s.excludeSensor (d.le 16 1) true).complete 100 d {}) := by
  unfold execExclude
  rw [if_pos rfl, State.serve_of_running _ hrun]
  dsimp only
  rw [if_neg (by rw [hsensor]; decide)]
  split <;> rfl

end Sys2Proof.Machine
end

section
/-! SUPPORT. CALFREEZE (R189, R511): the calibration token it takes for its duration and gives back. -/

namespace Sys2Proof.Machine

/-! ### What an entry leaves alone of block HLT -/

/-- The registers that no ring entry, written or dropped, changes: those outside block RNG that lie above the mirror regions' of block HLT. -/
def entryKeeps (k : Nat) : Prop := k / 0x1000 ≠ 6 ∧ 0x3200 ≤ k

theorem State.storeOne_reg (s : State) (a : Nat) (b : Bytes) (p : Bool) (k : Nat) : (s.storeOne a b p).reg k = s.reg k := by
  unfold State.storeOne State.reencode
  split <;> rfl

theorem State.mirrorCount_reg (s : State) (r : Fin 16) (lo n : Nat) {k : Nat} (h : 0x3200 ≤ k) : (s.mirrorCount r lo n).reg k = s.reg k :=
  (State.reg_wr_other _ (f := F.HLT_MIRn_STAT_KLINES r) (k := k) _ (by
    unfold F.HLT_MIRn_STAT_KLINES Reg.HLT_MIRn_STAT
    dsimp only
    omega)).trans rfl

theorem State.put_reg (s : State) (a : Nat) (b : Bytes) {k : Nat} (h : 0x3200 ≤ k) : (s.put a b).reg k = s.reg k :=
  List.foldlRecOn (motive := fun x : State => x.reg k = s.reg k) _ _ (s.storeOne_reg a b false k) fun x hx _ _ =>
    (State.mirrorCount_reg _ _ _ _ h).trans ((x.storeOne_reg _ _ _ k).trans hx)

theorem State.withRings_reg (s : State) (m : SMap Ring) (k : Nat) : State.reg { s with rings := m } k = s.reg k := rfl

theorem State.setRing_reg (s : State) (q : Nat) (r : Ring) (k : Nat) : (s.setRing q r).reg k = s.reg k := s.withRings_reg _ k

theorem State.withWide_reg (s : State) (m : SMap Nat) (k : Nat) : State.reg { s with wide := m } k = s.reg k := rfl

theorem State.unreserve_reg (s : State) (q : Nat) (d : Desc) (k : Nat) : (s.unreserve q d).reg k = s.reg k :=
  (State.setRing_reg _ _ _ k).trans (s.setRing_reg q _ k)

theorem State.dropEntry_reg (s : State) (q k : Nat) : (s.dropEntry q).reg k = s.reg k := (State.setRing_reg _ q _ k).trans (s.withWide_reg _ k)

theorem State.entryOut_reg (s : State) (q a : Nat) (b : Bytes) {k : Nat} (h : 0x3200 ≤ k) : (s.entryOut q a b).reg k = s.reg k := by
  unfold State.entryOut
  split
  · exact s.put_reg a b h
  · dsimp only
    split <;> rfl

theorem State.ringBit_reg (s : State) {base : Nat} (q : Nat) (b : Bool) (h : base / 0x1000 = 6) (hend : (base + 12) / 0x1000 = 6) {k : Nat}
    (hk : k / 0x1000 ≠ 6) : (s.mapBit base q b).reg k = s.reg k :=
  s.reg_wr_other (f := ⟨base + 4 * (q / 32 % 4), q % 32, q % 32⟩) _ (by dsimp only; omega)

theorem State.advance_reg (s : State) (q : Nat) {k : Nat} (hk : k / 0x1000 ≠ 6) : (s.advance q).reg k = s.reg k := by
  have hstat : k ≠ Reg.RNG_QnSTAT q := by unfold Reg.RNG_QnSTAT; omega
  unfold State.advance
  dsimp only
  split
  · rw [State.reg_wr_other _ _ hstat, State.reg_wr_other _ _ hstat]
  · exact s.reg_wr_other _ hstat

theorem State.writeEntry_reg (s : State) (q op status estat : Nat) (delayed overdue poison : Bool) (tag sq sqidx lateness : Nat) (result : Bytes)
    {k : Nat} (hk : entryKeeps k) :
    (s.writeEntry q op status estat delayed overdue poison tag sq sqidx lateness result).reg k = s.reg k := by
  obtain ⟨hrng, hmir⟩ := hk
  unfold State.writeEntry
  extract_lets r flags t u
  have hu : u.reg k = s.reg k :=
    (State.ringBit_reg _ q _ rfl rfl hrng).trans ((State.advance_reg _ q hrng).trans (s.entryOut_reg q _ _ hmir))
  split <;> exact hu

theorem State.ringPending_reg (s : State) (q : Nat) {k : Nat} (hk : k / 0x1000 ≠ 6) : (s.ringPending q).reg k = s.reg k := by
  unfold State.ringPending
  dsimp only
  split
  · exact (s.ringBit_reg q true (base := Reg.RNG_IPn 0) rfl rfl hk)
  · exact (s.ringBit_reg q true (base := Reg.RNG_IPn 0) rfl rfl hk)

theorem State.unfence_reg (s : State) (q k : Nat) : (s.unfence q).reg k = s.reg k := by
  unfold State.unfence
  split
  · split
    · exact s.setRing_reg q _ k
    · rfl
  · rfl

/-- The completion of a descriptor leaves such a register alone. -/
theorem State.complete_reg (s : State) (q : Nat) (d : Desc) (r : Result) {k : Nat} (hk : entryKeeps k) : (s.complete q d r).reg k = s.reg k := by
  unfold State.complete
  extract_lets delayed overdue lateness c t must v u
  have ht : t.reg k = s.reg k := s.unreserve_reg q d k
  have hv : v.reg k = t.reg k := State.writeEntry_reg t _ _ _ _ _ _ _ _ _ _ _ _ hk
  rw [u.unfence_reg q k]
  unfold u
  split
  · split
    · split
      · exact (v.ringPending_reg c hk.1).trans (hv.trans ht)
      · exact hv.trans ht
    · exact (t.dropEntry_reg c k).trans ht
  · exact ht

/-! ### The calibration token (R511) -/

theorem entryKeeps_token (c : Nat) : entryKeeps (Reg.HLT_TOKc c) := by unfold entryKeeps Reg.HLT_TOKc; omega

theorem State.setToken_pra (s : State) (c : Nat) (x : Token) : (s.setToken c x).pra = s.pra := rfl

/-- A token reads as it was set. -/
theorem State.token_setToken_same (s : State) (c : Nat) (x : Token) : (s.setToken c x).token c = x := SMap.get_set_same _ _ _ _

theorem State.withToks_rd (s : State) (m : SMap Token) (f : Fld) : State.rd { s with toks := m } f = s.rd f := rfl

/-- Setting a token leaves HELD as it is. -/
theorem State.setToken_held (s : State) (c : Nat) (x : Token) : (s.setToken c x).rd (F.HLT_TOKc_HELD c) = s.rd (F.HLT_TOKc_HELD c) := by
  have hsince : Reg.HLT_TOKc c ≠ Reg.HLT_TOKc_SINCE c := by unfold Reg.HLT_TOKc Reg.HLT_TOKc_SINCE; omega
  unfold State.setToken State.wrSat
  rw [State.rd_wr_other _ _ hsince, State.rd_wr_beside _ _ (by decide : 7 < 32) (by decide : 31 < 32) (by decide : 7 < 31 ∨ 31 < 0),
    State.withToks_rd]

/-- A token that nobody holds is granted at once; the requests that wait for it stay. An ACT other than TOKTAKE's completes nothing. -/
theorem State.tokAsk_granted {s : State} {c owner act : Nat} (hfree : s.on (F.HLT_TOKc_HELD c) = false) (hact : act ≠ 0xC) :
    (s.tokAsk c owner act).2 = true ∧ (s.tokAsk c owner act).1.pra = s.pra ∧ ((s.tokAsk c owner act).1.token c).waits = (s.token c).waits := by
  unfold State.tokAsk State.tokGrant
  rw [if_pos hfree]
  extract_lets t u x v
  rw [if_neg hact]
  have hu : u.pra = s.pra := by simp [u, t, State.measured, State.peak, State.wrSat]
  have hwaits : (v.token c).waits = (s.token c).waits := by rw [State.token_setToken_same]
  exact ⟨rfl, (State.setToken_pra u c _).trans hu, hwaits⟩

/-- A token given back that nobody waits for is held by nobody. -/
theorem State.tokGive_frees {s : State} {c : Nat} (hnone : (s.token c).waits = []) :
    (s.tokGive c).rd (F.HLT_TOKc_HELD c) = 0 ∧ (s.tokGive c).pra = s.pra := by
  unfold State.tokGive
  rw [hnone]
  refine ⟨?_, State.setToken_pra _ c _⟩
  dsimp only
  rw [State.setToken_held,
    State.rd_wr_beside _ _ (by decide : 19 < 32) (by decide : 31 < 32) (by decide : 19 < 31 ∨ 31 < 16),
    State.rd_wr_beside _ _ (by decide : 30 < 32) (by decide : 31 < 32) (by decide : 30 < 31 ∨ 31 < 27)]
  exact State.rd_wr_same _ _ _ (by decide : 31 < 32)

/-! ### Sensors frozen and released (R189) -/

/-- The sensors of a mask get the freeze, or its end, from the next cycle on; the others keep what they had. -/
theorem State.foldl_freeze (mask : Nat) (v : Bool) (n : Nat) (l : List Nat) (s : State) :
    ((l.foldl (fun t m => if bitAt mask m then t.setSensor m { t.sensor m with freezeNew := some v } else t) s).sensor n).freezeNew =
      if n ∈ l ∧ bitAt mask n = true then some v else (s.sensor n).freezeNew := by
  induction l generalizing s with
  | nil => simp
  | cons m l ih =>
    rw [List.foldl_cons, ih]
    by_cases hm : n = m
    · subst hm
      cases bitAt mask n <;> simp
    · have hkeep : ((if bitAt mask m then s.setSensor m { s.sensor m with freezeNew := some v } else s).sensor n) = s.sensor n := by
        split
        · exact s.sensor_setSensor_other _ hm
        · rfl
      rw [hkeep]
      simp [hm]

theorem State.freezeMask_freezeNew (s : State) (mask : Nat) (v : Bool) {n : Nat} (hn : n < 16) :
    ((s.freezeMask mask v).sensor n).freezeNew = if bitAt mask n = true then some v else (s.sensor n).freezeNew :=
  (State.foldl_freeze mask v n (List.range 16) s).trans (by simp [hn])

theorem State.freezeMask_token (s : State) (mask : Nat) (v : Bool) (c : Nat) : (s.freezeMask mask v).token c = s.token c :=
  List.foldlRecOn (motive := fun x : State => x.token c = s.token c) _ _ rfl fun x hx m _ => by
    split <;> exact hx

/-- A CALFREEZE whose operands are sound and whose token is free freezes or releases its sensors, and gives the token back. -/
theorem execCalfreeze_freezes {s : State} {d : Desc} (hrun : s.running 100 0x12 = some d) (hop : d.le 16 1 ≤ 1) (hmask : d.le 20 4 < 65536)
    (hsensors : (List.range 16).all (fun n => !bitAt (d.le 20 4) n || s.code.hasSensor n) = true)
    (hfree : s.on (F.HLT_TOKc_HELD 3) = false) :
    execCalfreeze 100 s = .next ((((s.tokAsk 3 ownerPrairie 8).1.freezeMask (d.le 20 4) (decide (d.le 16 1 = 1))).tokGive 3).complete 100
      (d.waited (s.now - d.started)) {}) := by
  obtain ⟨hgranted, -, -⟩ := State.tokAsk_granted (owner := ownerPrairie) (act := 8) hfree (by decide)
  unfold execCalfreeze
  rw [if_pos rfl, hrun]
  dsimp only
  rw [if_neg (by simp [hop]), if_neg (by simp [hop, hsensors, hmask]), hgranted, if_neg (by decide)]

end Sys2Proof.Machine
end

section
/-! SUPPORT. The commands of the field grid (R168-R190), each by what it carries out. -/

namespace Sys2Proof.Machine

/-! ### Grid cycles -/

/-- GRID_CYCLE_START at a TIMED instant. -/
theorem execGridCycleStart_timed {s : State} (sync : Nat) (lidars : List (Nat × Nat)) (hruns : s.gridRuns = true)
    (hmode : s.on F.PRA_GCTL_MODE = false) (hdue : s.now % (s.rd F.PRA_GPERIOD_PERIOD * 1000000) = s.rd F.PRA_GOFF_GOFF * 1000) :
    execGridCycleStart sync lidars s = .next (s.cycleDue false lidars) := by
  unfold execGridCycleStart
  rw [if_neg (by rw [hruns]; decide), if_pos hmode, if_pos hdue]

/-- GRID_CYCLE_START in PACED mode, once stage 1 has completed for every pacing camera. -/
theorem execGridCycleStart_paced {s : State} {sync : Nat} (lidars : List (Nat × Nat)) (hruns : s.gridRuns = true)
    (hmode : s.on F.PRA_GCTL_MODE = true) (hsync : s.syncDue sync = true) (hready : s.pacersReady sync = true) :
    execGridCycleStart sync lidars s = .next ((s.syncUsed sync).cycleDue false lidars) := by
  unfold execGridCycleStart
  rw [if_neg (by rw [hruns]; decide), if_neg (by rw [hmode]; decide), if_pos ⟨hsync, hready⟩]
  rfl

/-- PACE_TIMEOUT of a sync instant due for which a pacing camera is late. -/
theorem execPaceTimeout_paced {s : State} {sync : Nat} (lidars : List (Nat × Nat)) (hruns : s.gridRuns = true)
    (hmode : s.on F.PRA_GCTL_MODE = true) (hsync : s.syncDue sync = true) (hlate : s.pacersReady sync = false)
    (hdue : sync + s.rd F.PRA_GCTL_PTMO * 1000000 ≤ s.now) :
    execPaceTimeout sync lidars s = .next ((s.syncUsed sync).cycleDue true lidars) := by
  unfold execPaceTimeout
  rw [if_pos ⟨hruns, hmode, hsync, hlate, hdue⟩]
  rfl

/-! ### Stage 1 -/

theorem Code.cameras_le (c : Code) : c.cameras ≤ 12 := by cases c <;> decide

/-- A frame offered while stage 1 is free, no other camera's being pending, starts its run. -/
theorem State.offerVision_starts {s : State} {n slot : Nat} {net : Net} (tend : Nat)
    (hflags : bitAt (s.slotInfo (slotKey n 2 slot)).flags 2 = false ∧ bitAt (s.slotInfo (slotKey n 2 slot)).flags 4 = false ∧
      bitAt (s.slotInfo (slotKey n 2 slot)).flags 9 = false)
    (hsize : s.outSize n 2 = (net.mw, net.mh)) (hformat : s.rd (F.CAM_LNKn_CTL_MVFMT n) = net.mvfmt) (hidle : s.pra.run = none)
    (hothers : (List.range 12).all (fun k => decide (k = n) || (s.sensor k).pend.isNone) = true) (hn : n < s.code.cameras) :
    (s.offerVision net n slot tend).startVision.pra.run = some (n, s.visionFrame n slot tend) ∧
      ((s.offerVision net n slot tend).startVision.sensor n).pend = none := by
  obtain ⟨hpend, -, hkeep, -, -⟩ := State.offerVision_pends tend hflags hsize hformat
  refine State.startVision_starts ((s.offerVision_run net n slot tend).trans hidle)
    (State.nextVision_sole (hn.trans_le s.code.cameras_le) hpend fun m hm hne => ?_)
  have hnone := List.all_eq_true.mp hothers m (List.mem_range.mpr hm)
  rw [hkeep m hne]
  simpa [hne] using hnone

/-! ### The commands -/

/-- Settles O20: each command's effect, by the lemma of the operation it carries out. -/
theorem gridCommandsComplete : Obligations.GridCommandsComplete := by
  refine ⟨fun s sync lidars net hruns hnet hmode hdue hidle => ?_, fun s sync lidars c hruns hmode hdue hbusy => ?_,
    fun s sync lidars net hruns hnet hmode hsync hready => ?_, fun s sync lidars net hruns hnet hmode hsync hlate hdue => ?_,
    fun s n slot tend net hflags hsize hformat hrun hnet hengine hn hen hslot => ?_,
    fun s n slot tend net hflags hsize hformat hidle hothers hnet hengine hn hen hslot => ?_,
    fun s n slot tend us m net g hrun hnet hengine hn hen hslot => ?_,
    fun s n slot tend net hflags hnet hengine hn hen hslot => ?_,
    fun s values sens c hcycle hengine => execGridPublish_numbers values sens hcycle hengine,
    fun s fit d hrun halone haligned hinside => ?_, fun s fit d hrun halone => ⟨_, execNetload_alone false fit hrun halone, rfl⟩,
    fun s res d hrun hzero => ?_, fun s res d hrun hone => ?_, fun s d hrun haligned hmem hsensor hclean => ?_,
    fun s d hrun haligned hmem hsensor => ⟨_, execCalread_writes hrun haligned hmem hsensor, rfl⟩,
    fun s d hrun hop hmask hsensors hfree hnone => ?_, fun s d hrun hsensor => ?_, fun s d hrun hsensor => ?_⟩
  · obtain ⟨⟨c, hcycle, htg, hcnet, hskip, -⟩, hagain, hactive, hnext, -⟩ := State.cycleDue_starts false lidars hidle hnet
    refine ⟨_, execGridCycleStart_timed sync lidars hruns hmode hdue, ?_, hagain, hactive, hnext⟩
    rw [hcycle, Option.map_some, htg, hcnet, hskip]
  · obtain ⟨hpra, hstat, hmem⟩ := State.cycleDue_skips (s := s) false lidars (congrArg Option.isSome hbusy)
    refine ⟨_, execGridCycleStart_timed sync lidars hruns hmode hdue, ?_, ?_, hstat, hmem⟩
    · rw [hpra]
      exact hbusy
    · rw [hpra]
  · obtain ⟨hused, hstart, hskip⟩ := State.cycleDue_paced sync false lidars hnet
    refine ⟨_, execGridCycleStart_paced lidars hruns hmode hsync hready, hused, fun hidle => ?_, hskip⟩
    obtain ⟨c, hcycle, htg, hcnet, htmo⟩ := hstart hidle
    rw [hcycle, Option.map_some, htg, hcnet, htmo]
  · obtain ⟨hused, hstart, hskip⟩ := State.cycleDue_paced sync true lidars hnet
    refine ⟨_, execPaceTimeout_paced lidars hruns hmode hsync hlate hdue, hused, fun hidle => ?_, hskip⟩
    obtain ⟨c, hcycle, htg, -, htmo⟩ := hstart hidle
    rw [hcycle, Option.map_some, htg, htmo]
  · obtain ⟨hpend, hmatch, -, hheld, hmem⟩ := State.offerVision_pends tend hflags hsize hformat
    refine ⟨_, execStage1Run_runs tend [] hnet hengine hn hen hslot, ?_⟩
    rw [List.foldl_nil, State.startVision_running (by rw [s.offerVision_run]; exact hrun)]
    beta_reduce
    rw [hpend]
    exact ⟨rfl, hmatch, s.offerVision_run net n slot tend, hheld, hmem⟩
  · obtain ⟨-, -, -, hheld, hmem⟩ := State.offerVision_pends tend hflags hsize hformat
    obtain ⟨hrun, hpend⟩ := State.offerVision_starts tend hflags hsize hformat hidle hothers hn
    obtain ⟨hsmem, hcam, -, -⟩ := (s.offerVision net n slot tend).startVision_keeps
    refine ⟨_, execStage1Run_runs tend [] hnet hengine hn hen hslot, ?_⟩
    rw [List.foldl_nil]
    beta_reduce
    rw [hrun, hcam, hsmem]
    exact ⟨rfl, hpend, hheld, hmem⟩
  · have hbusy : (s.offerVision net n slot tend).pra.run = some (m, g) := (s.offerVision_run net n slot tend).trans hrun
    refine ⟨_, execStage1Run_runs tend [us] hnet hengine hn hen hslot, ?_⟩
    rw [List.foldl_cons, List.foldl_nil, State.startVision_running (congrArg Option.isSome hbusy)]
    obtain ⟨hready, hseq, htime⟩ := State.stage1Done_readies net us hbusy
    rw [hready]
    exact ⟨rfl, hseq, htime⟩
  · obtain ⟨hmem, -, hrd, -⟩ := (s.dropFrame n).startVision_keeps
    refine ⟨_, execStage1Run_runs tend [] hnet hengine hn hen hslot, ?_⟩
    rw [List.foldl_nil, State.offerVision_unused net tend hflags]
    beta_reduce
    rw [hrd, hmem]
    exact ⟨s.rd_inc_same (by decide : 31 < 32), rfl⟩
  · refine ⟨_, execNetload_alone true fit hrun halone, ?_⟩
    rw [if_neg (by decide), State.netBuild_read fit (State.netPlace_read haligned hinside)]
    split
    · rw [State.complete_pra, State.complete_pra_rd _ _ _ _ (by decide)]
      exact ⟨rfl, State.rd_wr_fits _ (by decide) (by decide)⟩
    · rfl
  · obtain ⟨hnone, hoff, hid, hstate⟩ := s.deactivate_shows
    have hentry := State.EntersTo.complete s.deactivate 100 d {}
    exact ⟨_, execNetact_withdraws res hrun hzero, (congrArg Prairie.net hentry.pra).trans hnone,
      (State.on_congr (hentry.pra_rd rfl)).trans hoff, (hentry.reg _ (by unfold entryBlock; decide)).trans hid, (hentry.pra_rd rfl).trans hstate⟩
  · refine ⟨_, execNetact_takes res hrun hone, ?_⟩
    beta_reduce
    rw [State.complete_pra, State.complete_pra_rd _ _ _ _ (by decide)]
    refine ⟨State.netTaken_active res, State.netTaken_next res, fun hnone => ?_⟩
    rw [State.netTaken, hnone]
  · refine ⟨_, execCalload_reads hrun haligned hmem hsensor hclean, ?_⟩
    cases calOk (d.le 16 1) (s.mem.readBytes (d.le 24 8) 128) with
    | false => rfl
    | true =>
      obtain ⟨hnew, hback, hstate⟩ := s.calTaken_shows (d.le 16 1) (s.mem.readBytes (d.le 24 8) 128)
      have htold := (State.EntersTo.praEventIf (s.calTaken (d.le 16 1) (s.mem.readBytes (d.le 24 8) 128)) (s.sensExcluded (d.le 16 1)) 2
        (d.le 16 1)).trans (.complete _ 100 d {})
      have hkept := htold.sensor (d.le 16 1)
      exact ⟨(congrArg Sensor.calNew hkept).trans hnew, (congrArg Sensor.excluded hkept).trans hback,
        (htold.pra_rd (Reg.sensStat_block _)).trans hstate⟩
  · obtain ⟨-, hpra, hwaits⟩ := State.tokAsk_granted (owner := ownerPrairie) (act := 8) hfree (by decide)
    obtain ⟨hfreed, hkept⟩ := State.tokGive_frees (s := (s.tokAsk 3 ownerPrairie 8).1.freezeMask (d.le 20 4) (decide (d.le 16 1 = 1))) (c := 3)
      (by rw [State.freezeMask_token, hwaits, hnone])
    refine ⟨_, execCalfreeze_freezes hrun hop hmask hsensors hfree, List.all_eq_true.mpr fun n hn => decide_eq_true ?_, ?_⟩
    · rw [State.complete_sensor, State.sensor, hkept]
      refine (State.freezeMask_freezeNew _ _ _ (List.mem_range.mp hn)).trans ?_
      rw [State.sensor, State.sensor, hpra]
    · exact decide_eq_false (by rw [State.rd_congr (State.complete_reg _ _ _ _ (entryKeeps_token 3)), hfreed]; decide)
  · refine ⟨_, execReinstate_serves hrun hsensor, ?_⟩
    cases s.sensExcluded (d.le 16 1) with
    | false => rfl
    | true =>
      obtain ⟨hback, hstate, hmanual⟩ := s.reinstateSensor_shows (d.le 16 1)
      have hentry := State.EntersTo.complete (s.reinstateSensor (d.le 16 1)) 100 d {}
      exact ⟨(congrArg Sensor.excluded (hentry.sensor _)).trans hback, (hentry.pra_rd (Reg.sensStat_block _)).trans hstate,
        (hentry.pra_rd (Reg.sensStat_block _)).trans hmanual⟩
  · refine ⟨_, execExclude_serves hrun hsensor, ?_⟩
    cases hexcl : s.sensExcluded (d.le 16 1) with
    | true =>
      have hentry := State.EntersTo.complete (s.wr (F.PRA_SENSn_STAT_MANUAL (d.le 16 1)) 1) 100 d {}
      exact ⟨(congrArg Sensor.excluded (hentry.sensor _)).trans hexcl,
        (hentry.pra_rd (Reg.sensStat_block _)).trans (State.rd_wr_same _ _ _ (by decide : 26 < 32)), fun h => absurd h.symm Bool.false_ne_true⟩
    | false =>
      obtain ⟨hout, hmanual, hstate, hstat, hcount⟩ := s.sensorOut_shows (d.le 16 1) true
      have hentry := (s.excludeSensor_tells (d.le 16 1) true).trans (.complete _ 100 d {})
      exact ⟨(congrArg Sensor.excluded (hentry.sensor _)).trans hout,
        (hentry.pra_rd (Reg.sensStat_block _)).trans (of_decide_eq_true hmanual), fun _ => ⟨(hentry.pra_rd (Reg.sensStat_block _)).trans hstate,
          (hentry.pra_rd rfl).trans hstat, (hentry.pra_rd (Reg.sensExclcnt_block _)).trans hcount⟩⟩

end Sys2Proof.Machine
end

section
/-! SUPPORT. Prairie's products (R199-R215): what poison counts, ring entries and writes through the Bed bridge leave alone of them. -/

namespace Sys2Proof.Machine

/-! ### What counting leaves alone -/

/-- `t` differs from `s` at most in the products, the interrupts, the free values used and the registers `l`. -/
structure State.TalliesTo (l : List Nat) (s t : State) : Prop where
  eq : t = { s with regs := t.regs, irqs := t.irqs, free := t.free, prod := t.prod }
  reg : ∀ k, k ∉ l → t.reg k = s.reg k

namespace State.TalliesTo

variable {l : List Nat} {s t u : State}

theorem refl (s : State) : TalliesTo l s s := ⟨rfl, fun _ _ => rfl⟩

theorem trans (h : TalliesTo l s t) (h' : TalliesTo l t u) : TalliesTo l s u :=
  ⟨h'.eq.trans ((congrArg (fun x : State => { x with regs := u.regs, irqs := u.irqs, free := u.free, prod := u.prod }) h.eq).trans rfl),
    fun k hk => (h'.reg k hk).trans (h.reg k hk)⟩

theorem mem (h : TalliesTo l s t) : t.mem = s.mem := (congrArg State.mem h.eq).trans rfl
theorem now (h : TalliesTo l s t) : t.now = s.now := (congrArg State.now h.eq).trans rfl
theorem bridge (h : TalliesTo l s t) : t.bridge = s.bridge := (congrArg State.bridge h.eq).trans rfl

theorem rd (h : TalliesTo l s t) (f : Fld) (hf : f.addr ∉ l) : t.rd f = s.rd f := State.rd_congr (h.reg f.addr hf)
theorem on (h : TalliesTo l s t) (f : Fld) (hf : f.addr ∉ l) : t.on f = s.on f := State.on_congr (h.rd f hf)

/-- A loop keeps what each of its rounds keeps. -/
theorem foldl {α : Type} (f : State → α → State) (h : ∀ (x : State) a, TalliesTo l x (f x a)) (as : List α) (s : State) :
    TalliesTo l s (as.foldl f s) :=
  List.foldlRecOn (motive := fun x : State => TalliesTo l s x) _ _ (refl s) fun x hx a _ => hx.trans (h x a)

/-- A loop over a state and a result keeps what each round keeps. -/
theorem foldl_fst {α β : Type} (f : State × β → α → State × β) (h : ∀ x a, TalliesTo l x.1 (f x a).1) (as : List α) (x : State × β) :
    TalliesTo l x.1 (as.foldl f x).1 :=
  List.foldlRecOn (motive := fun y : State × β => TalliesTo l x.1 y.1) _ _ (refl x.1) fun y hy a _ => hy.trans (h y a)

theorem withProd (s : State) (p : Products) : TalliesTo l s { s with prod := p } := ⟨rfl, fun _ _ => rfl⟩

theorem wr (s : State) {f : Fld} (v : Nat) (h : f.addr ∈ l) : TalliesTo l s (s.wr f v) :=
  ⟨rfl, fun _ hk => s.reg_wr_other v fun e => hk (e ▸ h)⟩

theorem praPoison (s : State) (h : Reg.PRA_POISCNT ∈ l) : TalliesTo l s s.praPoison := by
  have hcount : TalliesTo l s (s.inc F.PRA_POISCNT_CNT) := wr s _ h
  unfold State.praPoison
  dsimp only
  split
  · exact hcount.trans ⟨rfl, fun _ _ => rfl⟩
  · exact hcount

theorem praPoisons (s : State) (n : Nat) (h : Reg.PRA_POISCNT ∈ l) : TalliesTo l s (s.praPoisons n) := foldl _ (fun x _ => praPoison x h) _ s

end State.TalliesTo

/-! ### The products -/

@[simp] theorem State.praPoison_prod (s : State) : s.praPoison.prod = s.prod := by
  unfold State.praPoison
  dsimp only
  split <;> rfl

@[simp] theorem State.praPoisons_prod (s : State) (n : Nat) : (s.praPoisons n).prod = s.prod :=
  List.foldlRecOn (motive := fun x : State => x.prod = s.prod) _ _ rfl fun x hx _ _ => x.praPoison_prod.trans hx

/-- A saturating counter reads what it was advanced to. -/
theorem State.rd_incBy_same (s : State) {f : Fld} (n : Nat) (h : f.hi < 32) : (s.incBy f n).rd f = satAdd f.width (s.rd f) n :=
  s.rd_wrSat_same f (s.rd f + n) h

namespace State.EntersTo

variable {s t : State}

/-- Ring entries and records leave the products alone. -/
theorem prod (h : s.EntersTo t) : t.prod = s.prod := (congrArg State.prod h.eq).trans rfl

/-- A register of block PRA keeps its word under ring entries and records. -/
theorem pra_reg (h : s.EntersTo t) {k : Nat} (hk : k / 0x1000 = 0x18) : t.reg k = s.reg k := h.reg k (by unfold entryBlock; omega)

/-- A loop keeps what each of its rounds keeps. -/
theorem foldl {α : Type} (f : State → α → State) (h : ∀ (x : State) a, x.EntersTo (f x a)) (l : List α) (s : State) :
    s.EntersTo (l.foldl f s) :=
  List.foldlRecOn (motive := fun x : State => s.EntersTo x) _ _ (refl s) fun x hx a _ => hx.trans (h x a)

/-- A range written with zeros, with what the mirror regions write a second time. -/
theorem putZero (s : State) (a n : Nat) : s.EntersTo (s.putZero a n) := by
  have hzero : s.EntersTo { s.reencode a n with mem := (s.mem.zero a n).remark a n false } := by
    unfold State.reencode
    split <;> exact ⟨rfl, fun _ _ => rfl⟩
  exact hzero.trans (.mirror _ a n false)

/-- A write through the Bed bridge, accepted or refused. -/
theorem bridgeWrite (s : State) (a : Nat) (b : Bytes) : s.EntersTo (s.bridgeWrite a b).1 := by
  unfold State.bridgeWrite
  dsimp only
  split <;> exact ⟨rfl, fun _ _ => rfl⟩

end State.EntersTo

end Sys2Proof.Machine
end

section
/-! SUPPORT. Tracks (R199-R203): what an update changes of the state, and what its publication leaves alone. -/

namespace Sys2Proof.Machine

/-! ### The update (R199) -/

/-- The register in which a poison event counts (R191). -/
def poisonCount : List Nat := [Reg.PRA_POISCNT]

namespace State.TalliesTo

theorem setTrack {l : List Nat} (s : State) (n : Nat) (x : Track) : TalliesTo l s (s.setTrack n x) := withProd s _

theorem updateSlot (s : State) (c : TrackCounts) (tg n : Nat) (r : TrackRow) (held : Bool) :
    TalliesTo poisonCount s (s.updateSlot c tg n r held).1 := by
  unfold State.updateSlot
  extract_lets _ x t mem _ hit hist up misses faint y w
  have ht : TalliesTo poisonCount s t := by
    unfold t
    split
    · exact praPoison s (by decide)
    · exact refl s
  split
  · exact ht.trans (setTrack t n _)
  · split
    · exact ht.trans (setTrack t n _)
    · split
      · exact (ht.trans (praPoison t (by decide))).trans (setTrack _ n _)
      · split
        · split
          · exact (ht.trans (withProd t _)).trans (setTrack _ n _)
          · split <;> exact ht.trans (setTrack t n _)
        · split
          · exact ht.trans (setTrack t n _)
          · split <;> exact ht.trans (setTrack t n _)

theorem placeCand {l : List Nat} (s : State) (c : TrackCounts) (tg : Nat) (r : TrackRow) : TalliesTo l s (s.placeCand c tg r).1 := by
  unfold State.placeCand
  dsimp only
  split
  · exact setTrack s _ _
  · split
    · split
      · exact refl s
      · exact setTrack s _ _
    · exact refl s

theorem updateTracks (s : State) (g : GridRef) (rows : List TrackRow) : TalliesTo poisonCount s (s.updateTracks g rows).1 := by
  unfold State.updateTracks
  extract_lets _ t0 t u nt cand v0 v good
  have ht0 : TalliesTo poisonCount s t0 := by
    unfold t0
    split
    · exact withProd s _
    · exact refl s
  have ht : TalliesTo poisonCount s t := ht0.trans (praPoisons t0 _ (by decide))
  have hu : TalliesTo poisonCount s u.1 := ht.trans (foldl_fst _ (fun x _ => updateSlot x.1 x.2 _ _ _ _) _ (t, {}))
  have hv : TalliesTo poisonCount s v := (hu.trans (praPoisons u.1 _ (by decide))).trans (praPoisons v0 _ (by decide))
  exact hv.trans (foldl_fst _ (fun x r => placeCand x.1 x.2 _ r) _ (v, u.2))

end State.TalliesTo

/-! ### Publication (R201-R203) -/

/-- All that the publication of a table can do: nothing, or the write of the table, the next table's number and PRA_TRKSEQ, and the entry. -/
theorem State.publishTracks_cases (s : State) (g : GridRef) (c : TrackCounts) (cleared : Bool) :
    (s.on F.PRA_TRKCTL_EN = false ∧ s.publishTracks g c cleared = s) ∨
      ∃ w n d, s.EntersTo w ∧ State.EntersTo ((State.wr { w with prod := { w.prod with table := n } } F.PRA_TRKSEQ_GSEQ g.gseq).measured
        F.PRA_TRKTIME_LAST F.PRA_TRKTIME_PEAK d) (s.publishTracks g c cleared) := by
  unfold State.publishTracks
  split
  · next hoff => exact .inl ⟨hoff, rfl⟩
  · extract_lets nt i a flags head t1 t2 t3 _ t4 t5 ip
    have ht : s.EntersTo t3 :=
      (((State.EntersTo.putZero s _ _).trans (.foldl _ (fun x _ => .put x _ _) _ t1)).trans (.putZero t2 _ _)).trans (.put _ a _)
    exact .inr ⟨t3, _, _, ht, .looseEntry t5 _ _ _ _ _ _ _ _⟩

/-- A published table changes, of the products and of block PRA's registers, the next table's number, PRA_TRKSEQ and PRA_TRKTIME. -/
theorem State.publishTracks_keeps (s : State) (g : GridRef) (c : TrackCounts) (cleared : Bool) :
    (∃ n, (s.publishTracks g c cleared).prod = { s.prod with table := n }) ∧
      ∀ k, k / 0x1000 = 0x18 → k ≠ Reg.PRA_TRKSEQ → k ≠ Reg.PRA_TRKTIME → (s.publishTracks g c cleared).reg k = s.reg k := by
  obtain ⟨-, hsame⟩ | ⟨w, n, d, hw, hpub⟩ := s.publishTracks_cases g c cleared
  · rw [hsame]
    exact ⟨⟨s.prod.table, rfl⟩, fun _ _ _ _ => rfl⟩
  · refine ⟨⟨n, hpub.prod.trans (congrArg (fun p : Products => { p with table := n }) hw.prod)⟩, fun k hk hseq htime => ?_⟩
    rw [hpub.pra_reg hk, State.measured, State.peak, State.wrSat, State.reg_wr_other _ _ htime, State.reg_wr_other _ _ htime,
      State.reg_wr_other _ _ hseq]
    exact hw.pra_reg hk

/-- A published table shows its grid's number in PRA_TRKSEQ. -/
theorem State.publishTracks_seq (s : State) (g : GridRef) (c : TrackCounts) (cleared : Bool) (hen : s.on F.PRA_TRKCTL_EN = true) :
    (s.publishTracks g c cleared).rd F.PRA_TRKSEQ_GSEQ = g.gseq % 2 ^ 32 := by
  obtain ⟨hoff, -⟩ | ⟨w, n, d, -, hpub⟩ := s.publishTracks_cases g c cleared
  · exact absurd (hoff.symm.trans hen) Bool.false_ne_true
  · rw [hpub.pra_rd rfl, State.measured, State.peak, State.wrSat, State.rd_wr_other _ _ (by decide), State.rd_wr_other _ _ (by decide)]
    exact State.rd_wr_same _ _ _ (by decide)

/-- The zone line changes nothing of the products, and of block PRA's registers PRA_BRDROP at most. -/
theorem State.zoneLine_keeps (s : State) (g : GridRef) :
    (s.zoneLine g).prod = s.prod ∧ ∀ k, k / 0x1000 = 0x18 → k ≠ Reg.PRA_BRDROP → (s.zoneLine g).reg k = s.reg k := by
  unfold State.zoneLine
  split
  · exact ⟨rfl, fun _ _ _ => rfl⟩
  · extract_lets b r
    have hr : s.EntersTo r.1 := .bridgeWrite s _ b
    split
    · exact ⟨hr.prod, fun _ hk _ => hr.pra_reg hk⟩
    · exact ⟨rfl, fun _ _ hdrop => State.reg_wr_other _ _ hdrop⟩

/-! ### TRACK_UPDATE -/

/-- An update made: the state whose live tracks are then counted (R199). -/
def State.tracksUpdated (s : State) (g : GridRef) (rows : List TrackRow) : State :=
  { (s.updateTracks g rows).1 with prod := { (s.updateTracks g rows).1.prod with clear := false, updated := some g.gseq } }

/-- An update made, with the live tracks counted: the state whose table is then published (R199, R201). -/
def State.tracksCounted (s : State) (g : GridRef) (rows : List TrackRow) : State :=
  let t := s.tracksUpdated g rows
  let w := (((t.wr F.PRA_TRKLIVE_CONF t.trackLive.1).wr F.PRA_TRKLIVE_UNCONF t.trackLive.2).wideAdd Reg.PRA_TRKBIRTH_LO
    (s.updateTracks g rows).2.births).wideAdd Reg.PRA_TRKOVF_LO (s.updateTracks g rows).2.overflow
  w.setReg Reg.PRA_TRKDISP (BitVec.ofNat 32 (satAdd 32 (w.reg Reg.PRA_TRKDISP).toNat (s.updateTracks g rows).2.displaced))

theorem State.tracksCounted_prod (s : State) (g : GridRef) (rows : List TrackRow) :
    (s.tracksCounted g rows).prod = (s.tracksUpdated g rows).prod := rfl

/-- A wide counter is kept apart from the registers. -/
theorem State.wideAdd_reg (s : State) (key n k : Nat) : (s.wideAdd key n).reg k = s.reg k := rfl

/-- The counts write PRA_TRKLIVE and PRA_TRKDISP. -/
theorem State.tracksCounted_reg (s : State) (g : GridRef) (rows : List TrackRow) {k : Nat} (h : k ≠ Reg.PRA_TRKDISP) :
    (s.tracksCounted g rows).reg k = (((s.tracksUpdated g rows).wr F.PRA_TRKLIVE_CONF (s.tracksUpdated g rows).trackLive.1).wr
      F.PRA_TRKLIVE_UNCONF (s.tracksUpdated g rows).trackLive.2).reg k := by
  unfold State.tracksCounted
  dsimp only
  rw [State.reg_setReg_other _ _ h, State.wideAdd_reg, State.wideAdd_reg]

/-- The live tracks stand in PRA_TRKLIVE. -/
theorem State.tracksCounted_live (s : State) (g : GridRef) (rows : List TrackRow) :
    (s.tracksCounted g rows).rd F.PRA_TRKLIVE_CONF = (s.tracksUpdated g rows).trackLive.1 % 2 ^ F.PRA_TRKLIVE_CONF.width ∧
      (s.tracksCounted g rows).rd F.PRA_TRKLIVE_UNCONF = (s.tracksUpdated g rows).trackLive.2 % 2 ^ F.PRA_TRKLIVE_UNCONF.width := by
  have hlive := s.tracksCounted_reg g rows (k := Reg.PRA_TRKLIVE) (by decide)
  constructor
  · rw [State.rd_congr (f := F.PRA_TRKLIVE_CONF) hlive,
      State.rd_wr_beside _ _ (by decide : 10 < 32) (by decide : 26 < 32) (by decide : 10 < 16 ∨ 26 < 0)]
    exact State.rd_wr_same _ _ _ (by decide : 26 < 32)
  · rw [State.rd_congr (f := F.PRA_TRKLIVE_UNCONF) hlive]
    exact State.rd_wr_same _ _ _ (by decide : 10 < 32)

/-- Neither the update nor its counts touch PRA_TRKCTL. -/
theorem State.tracksCounted_on (s : State) (g : GridRef) (rows : List TrackRow) :
    (s.tracksCounted g rows).on F.PRA_TRKCTL_EN = s.on F.PRA_TRKCTL_EN := by
  have hupdated := (State.TalliesTo.updateTracks s g rows).trans (.withProd _ (s.tracksUpdated g rows).prod)
  refine State.on_congr (State.rd_congr ((s.tracksCounted_reg g rows (by decide)).trans ?_))
  rw [State.reg_wr_other _ _ (by decide), State.reg_wr_other _ _ (by decide)]
  exact hupdated.reg _ (by decide)

/-- An update with its table and its zone line published (R201-R203). -/
def State.tracksPublished (s : State) (g : GridRef) (rows : List TrackRow) : State :=
  ((s.tracksCounted g rows).publishTracks g (s.updateTracks g rows).2 s.prod.clear).zoneLine g

/-- TRACK_UPDATE of a grid no update has been made of, under a network with a kind 4 stage. -/
theorem execTrackUpdate_updates {s : State} {rows : List TrackRow} {g : GridRef} {net : Net} (hgrid : s.pra.grid = some g)
    (hnet : s.pra.net = some net) (hmode : net.mode4 = true) (hup : s.engineUp 0 = true) (hnew : s.prod.updated ≠ some g.gseq) :
    execTrackUpdate rows s = .next (s.tracksPublished g rows) := by
  unfold execTrackUpdate
  rw [hgrid]
  dsimp only
  rw [if_neg (by simp [hnet, hmode, hup, hnew])]
  rfl

/-- Publication leaves the tracks updated and the live tracks shown, and PRA_TRKSEQ shows the grid's number where tables are published. -/
theorem State.tracksPublished_shows (s : State) (g : GridRef) (rows : List TrackRow) :
    (∃ n, (s.tracksPublished g rows).prod = { (s.tracksUpdated g rows).prod with table := n }) ∧
      (s.tracksPublished g rows).reg Reg.PRA_TRKLIVE = (s.tracksCounted g rows).reg Reg.PRA_TRKLIVE ∧
      (s.on F.PRA_TRKCTL_EN = true → (s.tracksPublished g rows).rd F.PRA_TRKSEQ_GSEQ = g.gseq % 2 ^ 32) := by
  obtain ⟨⟨n, hpub⟩, hkeep⟩ := (s.tracksCounted g rows).publishTracks_keeps g (s.updateTracks g rows).2 s.prod.clear
  obtain ⟨hzone, hline⟩ := ((s.tracksCounted g rows).publishTracks g (s.updateTracks g rows).2 s.prod.clear).zoneLine_keeps g
  rw [s.tracksCounted_prod g rows] at hpub
  refine ⟨⟨n, hzone.trans hpub⟩, (hline _ rfl (by decide)).trans (hkeep _ rfl (by decide) (by decide)), fun hen => ?_⟩
  exact (State.rd_congr (hline _ rfl (by decide))).trans (State.publishTracks_seq _ _ _ _ ((s.tracksCounted_on g rows).trans hen))

end Sys2Proof.Machine
end

section
/-! SUPPORT. The forecast (R204-R207): what precedes a record, the record itself, and its first step through the Bed bridge. -/

namespace Sys2Proof.Machine

/-! ### Room in the Bed bridge (R17) -/

/-- The room for a Canopy agent's lines hangs on how many inbound lines are no Dale's. -/
theorem State.inboundRoom_congr {s t : State} (h : t.bridge.inbound.map (fun l => l.dale) = s.bridge.inbound.map (fun l => l.dale)) (n : Nat) :
    t.inboundRoom false n = s.inboundRoom false n := by
  have hcount (l : List BridgeLine) : (l.filter (fun x => !x.dale)).length = (l.map (fun x => x.dale)).countP (fun b => !b) := by
    rw [List.countP_map, List.countP_eq_length_filter]
    rfl
  unfold State.inboundRoom
  rw [if_neg Bool.false_ne_true, if_neg Bool.false_ne_true, hcount, hcount, h]

/-- As many lines wait inbound where they are the same Dales' and others'. -/
theorem inbound_length_congr {l m : List BridgeLine} (h : m.map (fun x => x.dale) = l.map (fun x => x.dale)) : m.length = l.length := by
  simpa using congrArg List.length h

/-! ### What precedes a record (R204, R207) -/

/-- Abandoning a record owes GAP and counts; its lines on the way become plain ones. -/
theorem State.fcAbandon_shows (s : State) :
    s.fcAbandon.prod = { s.prod with fcGap := true, fc := none } ∧ s.fcAbandon.mem = s.mem ∧ s.fcAbandon.now = s.now ∧
      s.fcAbandon.pra = s.pra ∧ s.fcAbandon.bridge.inbound.map (fun l => l.dale) = s.bridge.inbound.map (fun l => l.dale) ∧
      s.fcAbandon.rd F.PRA_BRDROP_FC = satAdd F.PRA_BRDROP_FC.width (s.rd F.PRA_BRDROP_FC) 1 := by
  refine ⟨rfl, rfl, rfl, rfl, ?_, State.rd_incBy_same _ 1 (by decide)⟩
  change (s.bridge.inbound.map _).map _ = _
  rw [List.map_map]
  refine List.map_congr_left fun l _ => ?_
  rw [Function.comp_apply]
  split <;> rfl

theorem State.fcAbandon_reg (s : State) {k : Nat} (h : k ≠ Reg.PRA_BRDROP) : s.fcAbandon.reg k = s.reg k :=
  (State.reg_wr_other _ (f := F.PRA_BRDROP_FC) _ h).trans rfl

/-- The mass map taken over is all of the products that changes. -/
theorem State.massTake_keeps (s : State) (rho conf : List (Nat × Nat)) (poison : List Nat) :
    s.TalliesTo poisonCount (s.massTake rho conf poison) ∧ ∃ m, (s.massTake rho conf poison).prod = { s.prod with mass := m } := by
  unfold State.massTake
  split
  · exact ⟨.refl s, s.prod.mass, rfl⟩
  · split
    · exact ⟨.refl s, s.prod.mass, rfl⟩
    · exact ⟨⟨rfl, fun _ _ => rfl⟩, _, rfl⟩

/-- The record under way, if any, abandoned. -/
def State.fcEnded (s : State) : State := if s.prod.fc.isSome then s.fcAbandon else s

/-- The state in which a TF builds its record: the record before it abandoned, a completed mass map taken over. -/
def State.fcPrepared (s : State) (massDone : Bool) (rho conf : List (Nat × Nat)) (poison : List Nat) : State :=
  if massDone then s.fcEnded.massTake rho conf poison else s.fcEnded

/-- Ending the record before leaves memory, the time, Prairie, the header span's register, the numbers and whose lines wait inbound. -/
theorem State.fcEnded_keeps (s : State) :
    s.fcEnded.mem = s.mem ∧ s.fcEnded.now = s.now ∧ s.fcEnded.pra = s.pra ∧ s.fcEnded.reg Reg.PRA_FCHDR = s.reg Reg.PRA_FCHDR ∧
      s.fcEnded.prod.fseq = s.prod.fseq ∧ s.fcEnded.bridge.inbound.map (fun l => l.dale) = s.bridge.inbound.map (fun l => l.dale) := by
  unfold State.fcEnded
  split
  · obtain ⟨hprod, hmem, hnow, hpra, hdales, -⟩ := s.fcAbandon_shows
    exact ⟨hmem, hnow, hpra, s.fcAbandon_reg (by decide), (congrArg Products.fseq hprod).trans rfl, hdales⟩
  · exact ⟨rfl, rfl, rfl, rfl, rfl, rfl⟩

/-- Without a record under way nothing ends. -/
theorem State.fcEnded_idle {s : State} (h : s.prod.fc = none) : s.fcEnded = s := if_neg (by rw [h]; decide)

/-- After the record before has ended, only the mass map can change. -/
theorem State.fcPrepared_mass (s : State) (massDone : Bool) (rho conf : List (Nat × Nat)) (poison : List Nat) :
    s.fcEnded.TalliesTo poisonCount (s.fcPrepared massDone rho conf poison) ∧
      ∃ m, (s.fcPrepared massDone rho conf poison).prod = { s.fcEnded.prod with mass := m } := by
  cases massDone
  · exact ⟨.refl _, s.fcEnded.prod.mass, rfl⟩
  · exact s.fcEnded.massTake_keeps rho conf poison

/-- What precedes a record leaves memory, the time, the header span's register, the numbers and whose lines wait inbound. -/
theorem State.fcPrepared_keeps (s : State) (massDone : Bool) (rho conf : List (Nat × Nat)) (poison : List Nat) :
    (s.fcPrepared massDone rho conf poison).mem = s.mem ∧ (s.fcPrepared massDone rho conf poison).now = s.now ∧
      (s.fcPrepared massDone rho conf poison).reg Reg.PRA_FCHDR = s.reg Reg.PRA_FCHDR ∧
      (s.fcPrepared massDone rho conf poison).prod.fseq = s.prod.fseq ∧
      (s.fcPrepared massDone rho conf poison).bridge.inbound.map (fun l => l.dale) = s.bridge.inbound.map (fun l => l.dale) := by
  obtain ⟨hmem, hnow, -, hspan, hfseq, hdales⟩ := s.fcEnded_keeps
  obtain ⟨htake, m, hmass⟩ := s.fcPrepared_mass massDone rho conf poison
  refine ⟨htake.mem.trans hmem, htake.now.trans hnow, (htake.reg _ (by decide)).trans hspan, ?_, ?_⟩
  · rw [hmass]
    exact hfseq
  · rw [htake.bridge]
    exact hdales

/-! ### The record (R206) -/

/-- A record built counts the poison it met, takes the next number and fixes the header span. -/
theorem State.fcBuild_keeps (s : State) (steps us : Nat) :
    s.TalliesTo poisonCount (s.fcBuild steps us).1 ∧
      (s.fcBuild steps us).1.prod = { s.prod with
        fseq := (s.prod.fseq + 1) % 2 ^ 32, hdr := some (toSigned 16 (s.rd F.PRA_FCHDR_YR), toSigned 16 (s.rd F.PRA_FCHDR_YL)) } := by
  unfold State.fcBuild
  extract_lets h p m stopped f rows met old ff fseq n base g t
  have ht : s.TalliesTo poisonCount t := .praPoisons s _ (by decide)
  exact ⟨ht.trans (.withProd t _), congrArg (fun q : Products => { q with fseq := (fseq + 1) % 2 ^ 32, hdr := some h }) (s.praPoisons_prod met)⟩

theorem leBytes_length (n v : Nat) : (leBytes n v).length = n := by
  induction n generalizing v with
  | zero => rfl
  | succ n ih => exact congrArg (· + 1) (ih _)

theorem forecastHead_length (fseq fflags tf : Nat) (g : Option GridRef) (speed : Int) (hz : List Nat) (binw : Nat) :
    (forecastHead fseq fflags tf g speed hz binw).length = 64 := by
  simp [forecastHead, leBytes_length]

/-- 64 bytes at a line's address are one line. -/
theorem taggedLines_line {a : Nat} {b : Bytes} (tag : LineTag) (ha : a % 64 = 0) (hb : b.length = 64) :
    taggedLines a b tag = [⟨a, b, false, false, tag⟩] := by
  have hrest : b.drop 64 = [] := List.drop_eq_nil_of_le hb.le
  have hall : b.take 64 = b := List.take_of_length_le hb.le
  simp [taggedLines, linesOf, hb, ha, hrest, hall]

/-- A record begins with its first step, the header line alone (R205). -/
theorem State.fcBuild_record (s : State) (steps us : Nat) :
    (s.fcBuild steps us).2.fseq = s.prod.fseq ∧ (s.fcBuild steps us).2.tf = s.now ∧ (s.fcBuild steps us).2.step = 1 ∧
      ∃ l, (s.fcBuild steps us).2.lines = [l] := by
  unfold State.fcBuild
  extract_lets h p m stopped f rows met old ff fseq n base g t
  refine ⟨rfl, rfl, rfl, _, (if_pos rfl).trans (taggedLines_line _ ?_ (forecastHead_length _ _ _ _ _ _ _))⟩
  dsimp only [base]
  unfold bedStoreBase
  omega

/-! ### Steps (R205, R207) -/

/-- Handing over a step of a record leaves memory, the numbers and the header span. -/
theorem State.fcIssue_keeps (s : State) (r : FcRun) :
    (s.fcIssue r).mem = s.mem ∧ (s.fcIssue r).prod.fseq = s.prod.fseq ∧ (s.fcIssue r).prod.hdr = s.prod.hdr := by
  unfold State.fcIssue
  dsimp only
  split
  · exact ⟨rfl, rfl, rfl⟩
  · split <;> exact ⟨rfl, rfl, rfl⟩

/-- A first step of one line that finds room is under way. -/
theorem State.fcIssue_first {s : State} {r : FcRun} {l : BridgeLine} (hstep : r.step = 1) (hline : r.lines = [l])
    (hroom : s.inboundRoom false 1 = true) :
    (s.fcIssue r).prod = { s.prod with fc := some { r with left := 1 } } ∧ (s.fcIssue r).bridge.inbound = s.bridge.inbound ++ [l] := by
  unfold State.fcIssue
  dsimp only
  rw [hline, if_neg (by rw [List.length_singleton, hroom]; decide), if_neg (by rw [hstep]; decide)]
  exact ⟨rfl, rfl⟩

/-- A first step of one line that finds no room is refused, and the record abandoned. -/
theorem State.fcIssue_refused {s : State} {r : FcRun} {l : BridgeLine} (hline : r.lines = [l]) (hfull : s.inboundRoom false 1 = false) :
    s.fcIssue r = s.fcAbandon := by
  unfold State.fcIssue
  dsimp only
  rw [hline, if_pos (by rw [List.length_singleton, hfull])]

/-! ### FORECAST_SAMPLE -/

/-- The record of a TF built and, where a step of it starts, its first step handed over. -/
def State.fcStart (s : State) (massDone : Bool) (rho conf : List (Nat × Nat)) (poison : List Nat) (steps us : Nat) : State :=
  let r := (s.fcPrepared massDone rho conf poison).fcBuild steps us
  if steps = 0 then { r.1 with prod := { r.1.prod with fc := some { r.2 with step := 0 } } } else r.1.fcIssue r.2

/-- FORECAST_SAMPLE at a TF under a network with a kind 5 stage. -/
theorem execForecastSample_starts {s : State} (massDone : Bool) (rho conf : List (Nat × Nat)) (poison : List Nat) (steps us : Nat)
    (hup : s.engineUp 0 = true) (hen : s.on F.PRA_FCCTL_EN = true) (htf : s.now % 20000000 = s.rd F.PRA_FCCTL_FCOFF * 1000)
    (hmode : s.pra.net.map (fun n => n.mode5) = some true) :
    execForecastSample massDone rho conf poison steps us s = .next (s.fcStart massDone rho conf poison steps us) := by
  obtain ⟨-, -, hpra, -⟩ := s.fcEnded_keeps
  unfold State.fcEnded at hpra
  unfold execForecastSample
  rw [if_neg (by simp [hup, hen, htf])]
  dsimp only
  rw [if_neg (by rw [hpra]; exact fun h => h hmode)]
  rfl

section

variable (s : State) (massDone : Bool) (rho conf : List (Nat × Nat)) (poison : List Nat) (steps us : Nat)

/-- A TF numbers its record, fixes the header span and leaves memory. -/
theorem State.fcStart_numbers :
    (s.fcStart massDone rho conf poison steps us).prod.fseq = (s.prod.fseq + 1) % 2 ^ 32 ∧
      (s.fcStart massDone rho conf poison steps us).prod.hdr = some (toSigned 16 (s.rd F.PRA_FCHDR_YR), toSigned 16 (s.rd F.PRA_FCHDR_YL)) ∧
      (s.fcStart massDone rho conf poison steps us).mem = s.mem := by
  obtain ⟨hmem, -, hspan, hfseq, -⟩ := s.fcPrepared_keeps massDone rho conf poison
  obtain ⟨hbuild, hprod⟩ := (s.fcPrepared massDone rho conf poison).fcBuild_keeps steps us
  rw [hfseq, State.rd_congr (f := F.PRA_FCHDR_YR) hspan, State.rd_congr (f := F.PRA_FCHDR_YL) hspan] at hprod
  unfold State.fcStart
  dsimp only
  split
  · exact ⟨congrArg Products.fseq hprod, congrArg Products.hdr hprod, hbuild.mem.trans hmem⟩
  · obtain ⟨hissued, hnumber, hkept⟩ := State.fcIssue_keeps ((s.fcPrepared massDone rho conf poison).fcBuild steps us).1
      ((s.fcPrepared massDone rho conf poison).fcBuild steps us).2
    exact ⟨hnumber.trans (congrArg Products.fseq hprod), hkept.trans (congrArg Products.hdr hprod), hissued.trans (hbuild.mem.trans hmem)⟩

/-- Building the record leaves the room in the Bed bridge. -/
theorem State.fcBuilt_room :
    ((s.fcPrepared massDone rho conf poison).fcBuild steps us).1.inboundRoom false 1 = s.inboundRoom false 1 := by
  obtain ⟨-, -, -, -, hdales⟩ := s.fcPrepared_keeps massDone rho conf poison
  obtain ⟨hbuild, -⟩ := (s.fcPrepared massDone rho conf poison).fcBuild_keeps steps us
  exact State.inboundRoom_congr ((congrArg (fun b : Bridge => b.inbound.map _) hbuild.bridge).trans hdales) 1

variable {steps}

/-- A record that starts with room in the bridge has its header line on the way. -/
theorem State.fcStart_delivers (hsteps : 0 < steps) (hroom : s.inboundRoom false 1 = true) :
    (s.fcStart massDone rho conf poison steps us).prod.fc.map (fun r => (r.fseq, r.tf, r.step, r.left)) = some (s.prod.fseq, s.now, 1, 1) ∧
      (s.fcStart massDone rho conf poison steps us).bridge.inbound.length = s.bridge.inbound.length + 1 ∧
      (s.prod.fc = none → (s.fcStart massDone rho conf poison steps us).prod.fcGap = s.prod.fcGap) := by
  obtain ⟨-, hnow, -, hfseq, hdales⟩ := s.fcPrepared_keeps massDone rho conf poison
  obtain ⟨hbuild, hprod⟩ := (s.fcPrepared massDone rho conf poison).fcBuild_keeps steps us
  obtain ⟨hnumber, htf, hstep, l, hline⟩ := (s.fcPrepared massDone rho conf poison).fcBuild_record steps us
  obtain ⟨hfc, hinbound⟩ := State.fcIssue_first hstep hline ((s.fcBuilt_room massDone rho conf poison steps us).trans hroom)
  unfold State.fcStart
  dsimp only
  rw [if_neg hsteps.ne', hfc, hinbound, hbuild.bridge]
  refine ⟨?_, ?_, fun hidle => ?_⟩
  · dsimp only [Option.map_some]
    rw [hnumber, htf, hstep, hfseq, hnow]
  · rw [List.length_append, List.length_singleton, inbound_length_congr hdales]
  · obtain ⟨-, m, hmass⟩ := s.fcPrepared_mass massDone rho conf poison
    dsimp only
    rw [hprod, hmass, State.fcEnded_idle hidle]

/-- A record that finds no room is abandoned: GAP is owed, and PRA_BRDROP counts it. -/
theorem State.fcStart_abandons (hidle : s.prod.fc = none) (hsteps : 0 < steps) (hfull : s.inboundRoom false 1 = false) :
    (s.fcStart massDone rho conf poison steps us).prod.fc = none ∧ (s.fcStart massDone rho conf poison steps us).prod.fcGap = true ∧
      (s.fcStart massDone rho conf poison steps us).rd F.PRA_BRDROP_FC = satAdd F.PRA_BRDROP_FC.width (s.rd F.PRA_BRDROP_FC) 1 := by
  obtain ⟨hbuild, -⟩ := (s.fcPrepared massDone rho conf poison).fcBuild_keeps steps us
  obtain ⟨-, -, -, l, hline⟩ := (s.fcPrepared massDone rho conf poison).fcBuild_record steps us
  obtain ⟨hprod, -, -, -, -, hcount⟩ := ((s.fcPrepared massDone rho conf poison).fcBuild steps us).1.fcAbandon_shows
  obtain ⟨hprepared, -⟩ := s.fcPrepared_mass massDone rho conf poison
  unfold State.fcStart
  dsimp only
  rw [if_neg hsteps.ne', State.fcIssue_refused hline ((s.fcBuilt_room massDone rho conf poison steps us).trans hfull), hprod, hcount,
    (hprepared.trans hbuild).rd F.PRA_BRDROP_FC (by decide), State.fcEnded_idle hidle]
  exact ⟨rfl, rfl, rfl⟩

end

end Sys2Proof.Machine
end

section
/-! SUPPORT. Yield tiles (R210-R212): how a tile closes, and what closing and placing leave alone. -/

namespace Sys2Proof.Machine

/-! ### What placing leaves alone -/

/-- The registers that tell of the tiles: PRA_YLDWPOS, PRA_YLDOPEN and PRA_YLDDROP. -/
def tileTold : List Nat := [Reg.PRA_YLDWPOS, Reg.PRA_YLDOPEN, Reg.PRA_YLDDROP]

/-- `t` differs from `s`, in the products, the time and block PRA's registers, at most in the open tiles, the masses and what tells of them. -/
structure State.TilesTo (s t : State) : Prop where
  prod : t.prod = { s.prod with tiles := t.prod.tiles, uses := t.prod.uses, placed := t.prod.placed, dropped := t.prod.dropped }
  now : t.now = s.now
  reg : ∀ k, k / 0x1000 = 0x18 → k ∉ tileTold → t.reg k = s.reg k

namespace State.TilesTo

variable {s t u : State}

theorem refl (s : State) : s.TilesTo s := ⟨rfl, rfl, fun _ _ _ => rfl⟩

theorem trans (h : s.TilesTo t) (h' : t.TilesTo u) : s.TilesTo u :=
  ⟨h'.prod.trans ((congrArg (fun p : Products => { p with
      tiles := u.prod.tiles, uses := u.prod.uses, placed := u.prod.placed, dropped := u.prod.dropped }) h.prod).trans rfl),
    h'.now.trans h.now, fun k hk hl => (h'.reg k hk hl).trans (h.reg k hk hl)⟩

theorem of_entersTo (h : s.EntersTo t) : s.TilesTo t := by
  refine ⟨?_, h.now, fun k hk _ => h.pra_reg hk⟩
  rw [h.prod]

theorem rd (h : s.TilesTo t) (f : Fld) (hf : f.addr / 0x1000 = 0x18) (hl : f.addr ∉ tileTold) : t.rd f = s.rd f :=
  State.rd_congr (h.reg f.addr hf hl)

/-- The tiler's place in the mirror log stays. -/
theorem readAt (h : s.TilesTo t) : t.prod.readAt = s.prod.readAt := (congrArg Products.readAt h.prod).trans rfl

theorem foldl {α : Type} (f : State → α → State) (h : ∀ (x : State) a, x.TilesTo (f x a)) (l : List α) (s : State) :
    s.TilesTo (l.foldl f s) :=
  List.foldlRecOn (motive := fun x : State => s.TilesTo x) _ _ (refl s) fun x hx a _ => hx.trans (h x a)

theorem wr (s : State) {f : Fld} (v : Nat) (h : f.addr ∈ tileTold) : s.TilesTo (s.wr f v) :=
  ⟨rfl, rfl, fun _ _ hl => s.reg_wr_other v fun e => hl (e ▸ h)⟩

/-- The open tiles, their use count and the masses, set. -/
theorem withTiles (s : State) (l : List Tile) (n : Nat) (placed dropped : Frac) :
    s.TilesTo { s with prod := { s.prod with tiles := l, uses := n, placed := placed, dropped := dropped } } := ⟨rfl, rfl, fun _ _ _ => rfl⟩

theorem setTiles (s : State) (l : List Tile) : s.TilesTo (s.setTiles l) := (withTiles s l _ _ _).trans (wr _ _ (by decide))

theorem yldDrop (s : State) (g : Frac) : s.TilesTo (s.yldDrop g) := (withTiles s _ _ _ _).trans (wr _ _ (by decide))

end State.TilesTo

/-! ### Closing (R211, R212) -/

/-- A tile is written to memory, then PRA_YLDWPOS moves on and the tile leaves the open ones, then the entry. -/
theorem State.writeTile_steps (s : State) (x : Tile) (extra : Nat) :
    ∃ w, s.EntersTo w ∧ State.EntersTo ((w.wr F.PRA_YLDWPOS_POS (s.rd F.PRA_YLDWPOS_POS + 1)).setTiles
      (s.prod.tiles.filter (fun y => decide (y.te ≠ x.te ∨ y.tn ≠ x.tn)))) (s.writeTile x extra) := by
  unfold State.writeTile
  extract_lets w n a flags mass t1 t2 head t3 t4
  have ht : s.EntersTo (t2.put a head) := ((State.EntersTo.putZero s _ _).trans (.foldl _ (fun y _ => .put y _ _) _ t1)).trans (.put t2 a head)
  exact ⟨_, ht, .looseEntry t4 _ _ _ _ _ _ _ _⟩

/-- A tile written moves PRA_YLDWPOS on and leaves the open ones. -/
theorem State.writeTile_shows (s : State) (x : Tile) (extra : Nat) :
    (s.writeTile x extra).rd F.PRA_YLDWPOS_POS = (s.rd F.PRA_YLDWPOS_POS + 1) % 2 ^ 32 ∧
      (s.writeTile x extra).prod.tiles = s.prod.tiles.filter (fun y => decide (y.te ≠ x.te ∨ y.tn ≠ x.tn)) := by
  obtain ⟨w, -, hentry⟩ := s.writeTile_steps x extra
  refine ⟨?_, congrArg Products.tiles hentry.prod⟩
  rw [hentry.pra_rd rfl, State.setTiles, State.showTiles, State.rd_wr_other _ _ (by decide)]
  exact State.rd_wr_same w F.PRA_YLDWPOS_POS _ (by decide)

/-- The tiles published and not yet freed by PRA_YLDRPOS. -/
def State.tilesHeld (s : State) : Nat := (s.rd F.PRA_YLDWPOS_POS + 2 ^ 32 - s.rd F.PRA_YLDRPOS_POS) % 2 ^ 32

/-- A tile may close where its ring holds fewer tiles than it has slots. -/
theorem State.tileRoom_iff (s : State) : s.tileRoom = true ↔ s.tilesHeld < 2 ^ s.rd F.PRA_YLDCTL_YLOG2 := decide_eq_true_iff

theorem State.tileRoom_congr {s t : State} (hw : t.rd F.PRA_YLDWPOS_POS = s.rd F.PRA_YLDWPOS_POS)
    (hr : t.rd F.PRA_YLDRPOS_POS = s.rd F.PRA_YLDRPOS_POS) (hl : t.rd F.PRA_YLDCTL_YLOG2 = s.rd F.PRA_YLDCTL_YLOG2) :
    t.tileRoom = s.tileRoom := by
  unfold State.tileRoom
  rw [hw, hr, hl]

/-- A tile that finds its ring full stays open, and FULL is set. -/
theorem State.closeTile_full {s : State} (x : Tile) (extra : Nat) (h : s.tileRoom = false) :
    (s.closeTile x extra).rd F.PRA_YLDOPEN_FULL = 1 ∧ (s.closeTile x extra).prod.tiles.length = s.prod.tiles.length ∧
      (s.closeTile x extra).rd F.PRA_YLDWPOS_POS = s.rd F.PRA_YLDWPOS_POS := by
  unfold State.closeTile
  rw [if_neg (by rw [h]; decide)]
  refine ⟨State.rd_wr_same _ _ _ (by decide), List.length_map _, ?_⟩
  rw [State.rd_wr_other _ _ (by decide), State.setTiles, State.showTiles, State.rd_wr_other _ _ (by decide)]
  rfl

/-- A tile that finds room is written. -/
theorem State.closeTile_room {s : State} (x : Tile) (extra : Nat) (h : s.tileRoom = true) : s.closeTile x extra = s.writeTile x extra := if_pos h

namespace State.TilesTo

theorem closeTile (s : State) (x : Tile) (extra : Nat) : s.TilesTo (s.closeTile x extra) := by
  unfold State.closeTile
  split
  · obtain ⟨w, hw, hentry⟩ := s.writeTile_steps x extra
    exact (((of_entersTo hw).trans (wr w _ (by decide))).trans (setTiles _ _)).trans (of_entersTo hentry)
  · exact (setTiles s _).trans (wr _ _ (by decide))

end State.TilesTo

/-- TILE_CLOSE of an open tile that no mass has entered for TCLOSE. -/
theorem execTileClose_closes {s : State} {te tn : Int} {x : Tile} (hup : s.engineUp 0 = true)
    (hopen : s.prod.tiles.find? (fun y => decide (y.te = te ∧ y.tn = tn)) = some x)
    (hidle : x.tlast + s.rd F.PRA_YLDCTL_TCLOSE * 10000000000 ≤ s.now) : execTileClose te tn s = .next (s.closeTile x 0) := by
  unfold execTileClose
  rw [hopen]
  dsimp only
  rw [if_pos ⟨hup, hidle⟩]

/-! ### Several tiles at once (R211) -/

/-- Tiles that all find room are written one after another. -/
theorem State.closeTiles_room (l : List Tile) (extra : Nat) {s : State} (hroom : s.tilesHeld + l.length ≤ 2 ^ s.rd F.PRA_YLDCTL_YLOG2) :
    (l.foldl (fun t x => t.closeTile x extra) s).rd F.PRA_YLDWPOS_POS = (s.rd F.PRA_YLDWPOS_POS + l.length) % 2 ^ 32 ∧
      (l.foldl (fun t x => t.closeTile x extra) s).prod.tiles =
        s.prod.tiles.filter (fun y => l.all (fun x => decide (y.te ≠ x.te ∨ y.tn ≠ x.tn))) := by
  have hw : s.rd F.PRA_YLDWPOS_POS < 2 ^ 32 := getBits_lt _ 31 0
  induction l generalizing s with
  | nil => exact ⟨(Nat.mod_eq_of_lt hw).symm, (List.filter_eq_self.mpr fun _ _ => rfl).symm⟩
  | cons x l ih =>
    rw [List.length_cons] at hroom
    have hr : s.rd F.PRA_YLDRPOS_POS < 2 ^ 32 := getBits_lt _ 31 0
    have hkeep := State.TilesTo.closeTile s x extra
    have hopen : s.tileRoom = true := s.tileRoom_iff.mpr (by omega)
    obtain ⟨hwpos, htiles⟩ := s.writeTile_shows x extra
    rw [← State.closeTile_room x extra hopen] at hwpos htiles
    have hheld : (s.closeTile x extra).tilesHeld ≤ s.tilesHeld + 1 := by
      unfold State.tilesHeld
      rw [hwpos, hkeep.rd F.PRA_YLDRPOS_POS rfl (by decide)]
      omega
    have hnext : (s.closeTile x extra).tilesHeld + l.length ≤ 2 ^ (s.closeTile x extra).rd F.PRA_YLDCTL_YLOG2 := by
      rw [hkeep.rd F.PRA_YLDCTL_YLOG2 rfl (by decide)]
      omega
    obtain ⟨hpos, hleft⟩ := ih hnext (getBits_lt _ 31 0)
    rw [List.foldl_cons]
    refine ⟨?_, hleft.trans ?_⟩
    · rw [hpos, hwpos, Nat.mod_add_mod, List.length_cons, Nat.add_assoc, Nat.add_comm 1]
    · rw [htiles, List.filter_filter]
      refine List.filter_congr fun y _ => ?_
      rw [List.all_cons, Bool.and_comm]

/-- While the ring is full, tiles that should close all stay open, and FULL is set. -/
theorem State.closeTiles_full (l : List Tile) (extra : Nat) {s : State} (hfull : s.tileRoom = false) :
    (l.foldl (fun t x => t.closeTile x extra) s).prod.tiles.length = s.prod.tiles.length ∧
      (l ≠ [] → (l.foldl (fun t x => t.closeTile x extra) s).rd F.PRA_YLDOPEN_FULL = 1) ∧
      (l.foldl (fun t x => t.closeTile x extra) s).rd F.PRA_YLDWPOS_POS = s.rd F.PRA_YLDWPOS_POS := by
  induction l generalizing s with
  | nil => exact ⟨rfl, fun h => absurd rfl h, rfl⟩
  | cons x l ih =>
    obtain ⟨hset, hlen, hwpos⟩ := State.closeTile_full x extra hfull
    have hkeep := State.TilesTo.closeTile s x extra
    have hstill : (s.closeTile x extra).tileRoom = false :=
      (State.tileRoom_congr hwpos (hkeep.rd F.PRA_YLDRPOS_POS rfl (by decide)) (hkeep.rd F.PRA_YLDCTL_YLOG2 rfl (by decide))).trans hfull
    obtain ⟨hlens, hsets, hpos⟩ := ih hstill
    rw [List.foldl_cons]
    refine ⟨hlens.trans hlen, fun _ => ?_, hpos.trans hwpos⟩
    cases l with
    | nil => rwa [List.foldl_nil]
    | cons y l => exact hsets (List.cons_ne_nil y l)

/-- A flush that finds room for every open tile leaves none open. -/
theorem State.flushTiles_room {s : State} (hroom : s.tilesHeld + s.prod.tiles.length ≤ 2 ^ s.rd F.PRA_YLDCTL_YLOG2) :
    s.flushTiles.prod.tiles = [] ∧ s.flushTiles.rd F.PRA_YLDWPOS_POS = (s.rd F.PRA_YLDWPOS_POS + s.prod.tiles.length) % 2 ^ 32 := by
  obtain ⟨hpos, hleft⟩ := State.closeTiles_room s.prod.tiles 8 hroom
  refine ⟨hleft.trans (List.filter_eq_nil_iff.mpr fun y hy hall => ?_), hpos⟩
  have hself := of_decide_eq_true (List.all_eq_true.mp hall y hy)
  exact hself.elim (fun h => h rfl) (fun h => h rfl)

/-! ### PRA_YLDRPOS (R212) -/

/-- A read position that does not pass PRA_YLDWPOS is taken. -/
theorem State.yldrposSet_takes {s : State} {v : W32} (h : ¬ s.tilesHeld < (v.toNat + 2 ^ 32 - s.rd F.PRA_YLDRPOS_POS) % 2 ^ 32) :
    (s.yldrposSet v).reg Reg.PRA_YLDRPOS = v := by
  unfold State.tilesHeld at h
  unfold State.yldrposSet
  dsimp only
  rw [if_neg h, (State.TilesTo.foldl _ (fun y x => .closeTile y x _) _ _).reg Reg.PRA_YLDRPOS rfl (by decide)]
  split
  · rw [State.reg_wr_other _ _ (by decide)]
    exact s.reg_setReg_same _ v
  · exact s.reg_setReg_same _ v

end Sys2Proof.Machine
end

section
/-! SUPPORT. Yield samples (R209, R210, R213, R215): what reading a sample counts, and where its mass goes. -/

namespace Sys2Proof.Machine

/-! ### Placing -/

namespace State.TilesTo

theorem openTile (s : State) (te tn : Int) : s.TilesTo (s.openTile te tn).1 := by
  unfold State.openTile
  split
  · exact refl s
  · extract_lets t
    have ht : s.TilesTo t := by
      unfold t
      split
      · exact refl s
      · split
        · exact closeTile s _ 16
        · exact refl s
    split <;> exact ht

theorem keepTile (s : State) (x : Tile) : s.TilesTo (s.keepTile x) := (withTiles s _ (s.prod.uses + 1) _ _).trans (setTiles _ _)

theorem addToCell (s : State) (e n : Int) (wet water area : Frac) (flags : Nat) : s.TilesTo (s.addToCell e n wet water area flags) := by
  unfold State.addToCell
  extract_lets r key
  have hr : s.TilesTo r.1 := openTile s _ _
  split
  · exact hr.trans (yldDrop r.1 wet)
  · extract_lets _ _ t m
    have ht : s.TilesTo t := hr.trans (keepTile r.1 _)
    exact ht.trans ⟨rfl, rfl, fun _ _ _ => rfl⟩

theorem flagTile (s : State) (flags : Nat) : s.TilesTo (s.flagTile flags) := by
  unfold State.flagTile
  split
  · exact setTiles s _
  · exact refl s

theorem placeYield (s : State) (r : Reading) (w : Option Frac) (gap : Nat) : s.TilesTo (s.placeYield r w gap) := by
  unfold State.placeYield
  dsimp only
  split
  · exact (yldDrop s _).trans (flagTile _ 1)
  · exact foldl _ (fun x _ => addToCell x _ _ _ _ _ _) _ s

end State.TilesTo

/-! ### Flags on the tile used last (R213, R215) -/

/-- A tile's place in the field. -/
def Tile.place (x : Tile) : Int × Int := (x.te, x.tn)

/-- Flags on the tile used last leave the masses, and of each tile its place and the time of its last mass. -/
theorem State.flagTile_keeps (s : State) (flags : Nat) :
    (∃ l, (s.flagTile flags).prod = { s.prod with tiles := l }) ∧
      (s.flagTile flags).prod.tiles.map (fun x => (x.place, x.tlast)) = s.prod.tiles.map (fun x => (x.place, x.tlast)) := by
  unfold State.flagTile
  split
  · next x hlast =>
    refine ⟨⟨_, rfl⟩, ?_⟩
    change (s.prod.tiles.dropLast ++ [{ x with flags := x.flags ||| flags }]).map _ = _
    conv_rhs => rw [← List.dropLast_append_getLast? x hlast]
    rw [List.map_append, List.map_append]
    rfl
  · exact ⟨⟨s.prod.tiles, rfl⟩, rfl⟩

theorem State.flagTile_dropped (s : State) (flags : Nat) : (s.flagTile flags).prod.dropped = s.prod.dropped := by
  obtain ⟨⟨l, hprod⟩, -⟩ := s.flagTile_keeps flags
  rw [hprod]

theorem State.flagTile_placed (s : State) (flags : Nat) : (s.flagTile flags).prod.placed = s.prod.placed := by
  obtain ⟨⟨l, hprod⟩, -⟩ := s.flagTile_keeps flags
  rw [hprod]

theorem State.flagTile_count (s : State) (flags : Nat) : (s.flagTile flags).prod.tiles.length = s.prod.tiles.length := by
  obtain ⟨-, hkeys⟩ := s.flagTile_keeps flags
  simpa using congrArg List.length hkeys

/-- The registers that reading a sample counts in. -/
def sampleCounts : List Nat := [Reg.PRA_YLDGAP, Reg.PRA_YLDOPEN, Reg.PRA_POISCNT]

theorem State.TalliesTo.flagTile (s : State) (flags : Nat) : s.TalliesTo sampleCounts (s.flagTile flags) := by
  unfold State.flagTile
  split
  · exact (withProd s _).trans (wr _ _ (by decide))
  · exact refl s

theorem State.flagTile_rd_other (s : State) (flags : Nat) {f : Fld} (h : f.addr ≠ Reg.PRA_YLDOPEN) : (s.flagTile flags).rd f = s.rd f := by
  unfold State.flagTile
  split
  · exact (State.rd_wr_other _ (f := F.PRA_YLDOPEN_OPEN) _ h).trans rfl
  · rfl

/-! ### What a reading counts -/

/-- `t` differs from `s` at most as the reading of a sample counts before it is placed; the tiler's place in the log is
then `x`. -/
structure State.ReadsTo (x : Nat × Nat × Nat) (s t : State) : Prop where
  tallies : s.TalliesTo sampleCounts t
  prod : ∃ l, t.prod = { s.prod with readAt := x, tiles := l }
  tiles : t.prod.tiles.map Tile.place = s.prod.tiles.map Tile.place

namespace State.ReadsTo

variable {x : Nat × Nat × Nat} {s t : State}

theorem flagTile (h : ReadsTo x s t) (flags : Nat) : ReadsTo x s (t.flagTile flags) := by
  obtain ⟨l, hprod⟩ := h.prod
  obtain ⟨⟨m, hflag⟩, hkeys⟩ := t.flagTile_keeps flags
  refine ⟨h.tallies.trans (.flagTile t flags), ⟨m, hflag.trans (congrArg (fun p : Products => { p with tiles := m }) hprod)⟩, Eq.trans ?_ h.tiles⟩
  have hplaces := congrArg (List.map Prod.fst) hkeys
  rwa [List.map_map, List.map_map] at hplaces

theorem praPoison (h : ReadsTo x s t) : ReadsTo x s t.praPoison := by
  obtain ⟨l, hprod⟩ := h.prod
  refine ⟨h.tallies.trans (.praPoison t (by decide)), ⟨l, t.praPoison_prod.trans hprod⟩, ?_⟩
  rw [t.praPoison_prod]
  exact h.tiles

theorem incBy (h : ReadsTo x s t) (n : Nat) : ReadsTo x s (t.incBy F.PRA_YLDGAP_CNT n) :=
  ⟨h.tallies.trans (.wr t _ (by decide)), h.prod, h.tiles⟩

/-! ### What the placing then reads -/

theorem readAt (h : ReadsTo x s t) : t.prod.readAt = x := by
  obtain ⟨l, hprod⟩ := h.prod
  rw [hprod]

theorem dropped (h : ReadsTo x s t) : t.prod.dropped = s.prod.dropped := by
  obtain ⟨l, hprod⟩ := h.prod
  rw [hprod]

theorem placed (h : ReadsTo x s t) : t.prod.placed = s.prod.placed := by
  obtain ⟨l, hprod⟩ := h.prod
  rw [hprod]

theorem count (h : ReadsTo x s t) : t.prod.tiles.length = s.prod.tiles.length := by simpa using congrArg List.length h.tiles

theorem hdr (h : ReadsTo x s t) : t.prod.hdr = s.prod.hdr := by
  obtain ⟨l, hprod⟩ := h.prod
  rw [hprod]

theorem lastStamp (h : ReadsTo x s t) : t.prod.lastStamp = s.prod.lastStamp := by
  obtain ⟨l, hprod⟩ := h.prod
  rw [hprod]

theorem poseRec (h : ReadsTo x s t) (i : Nat) : t.poseRec i = s.poseRec i := by
  unfold State.poseRec State.poseAddr
  rw [h.tallies.mem, h.tallies.rd F.PRA_POSEBASE_BASE (by decide), h.tallies.rd F.PRA_POSECFG_PLOG2 (by decide)]

theorem poses (h : ReadsTo x s t) : t.poses = s.poses := by
  unfold State.poses
  rw [h.tallies.on F.PRA_POSECFG_EN (by decide), h.tallies.rd F.PRA_POSEWPOS_WPOS (by decide), h.tallies.rd F.PRA_POSECFG_PLOG2 (by decide)]
  simp only [h.poseRec]

theorem poseAt (h : ReadsTo x s t) (n : Nat) : t.poseAt n = s.poseAt n := by
  unfold State.poseAt
  rw [h.tallies.on F.PRA_POSECFG_EN (by decide), h.poses]

theorem hdrNow (h : ReadsTo x s t) : t.hdrNow = s.hdrNow := by
  unfold State.hdrNow
  rw [h.hdr, h.tallies.on F.PRA_FCCTL_EN (by decide), h.tallies.rd F.PRA_FCHDR_YR (by decide), h.tallies.rd F.PRA_FCHDR_YL (by decide)]

theorem yieldCells (h : ReadsTo x s t) (n : Nat) : t.yieldCells n = s.yieldCells n := by
  unfold State.yieldCells
  rw [h.poseAt, h.hdrNow, h.tallies.rd F.PRA_YLDCTL_CELL (by decide)]

theorem cutTime (h : ReadsTo x s t) (n : Nat) : t.cutTime n = s.cutTime n := by
  unfold State.cutTime
  rw [h.tallies.rd F.PRA_YLDDELAY_DELAY (by decide)]

/-- A register of sensor ingest keeps its word. -/
theorem ing_rd (h : ReadsTo x s t) (f : Fld) (hf : f.addr < 0x10000) : t.rd f = s.rd f := by
  refine h.tallies.rd f fun hmem => ?_
  have habove : ∀ k ∈ sampleCounts, 0x10000 ≤ k := by decide
  exact absurd (habove _ hmem) (Nat.not_le.mpr hf)

theorem streamPeriod (h : ReadsTo x s t) (n : Nat) : t.streamPeriod n = s.streamPeriod n := by
  unfold State.streamPeriod
  rw [h.ing_rd (F.ING_ACHn_CFG_RATE n) (by unfold F.ING_ACHn_CFG_RATE Reg.ING_ACHn_CFG; dsimp only; omega),
    h.ing_rd (F.ING_ACCn_CFG_RPT (n - 48)) (by unfold F.ING_ACCn_CFG_RPT Reg.ING_ACCn_CFG; dsimp only; omega),
    h.ing_rd (F.ING_FQn_CFG_RATE (n - 64)) (by unfold F.ING_FQn_CFG_RATE Reg.ING_FQn_CFG; dsimp only; omega)]

theorem yieldDt (h : ReadsTo x s t) (n : Nat) : t.yieldDt n = s.yieldDt n := by
  unfold State.yieldDt
  rw [h.tallies.rd F.PRA_YLDSRC_MSTREAM (by decide), h.lastStamp]
  dsimp only
  rw [h.streamPeriod]

theorem yldScale (h : ReadsTo x s t) (v : Frac) :
    t.yldScale Reg.PRA_YLDMGAIN Reg.PRA_YLDMOFF v = s.yldScale Reg.PRA_YLDMGAIN Reg.PRA_YLDMOFF v := by
  unfold State.yldScale
  rw [h.tallies.reg _ (by decide), h.tallies.reg _ (by decide)]

end State.ReadsTo

/-! ### Reading a sample -/

/-- The tiler's place moved behind the sample `x`, and the samples missing before it counted (R215). -/
def State.yieldTaken (s : State) (x : Nat × Nat × Nat) (r : Reading) : State :=
  let t := { s with prod := { s.prod with readAt := (x.1, x.2.1, x.2.2 + 1) } }
  if s.missingBefore r.stamp = 0 then t else (t.incBy F.PRA_YLDGAP_CNT (s.missingBefore r.stamp)).flagTile 1

theorem State.yieldTaken_reads (s : State) (x : Nat × Nat × Nat) (r : Reading) :
    State.ReadsTo (x.1, x.2.1, x.2.2 + 1) s (s.yieldTaken x r) := by
  have ht : State.ReadsTo (x.1, x.2.1, x.2.2 + 1) s { s with prod := { s.prod with readAt := (x.1, x.2.1, x.2.2 + 1) } } :=
    ⟨.withProd s _, ⟨s.prod.tiles, rfl⟩, rfl⟩
  unfold State.yieldTaken
  dsimp only
  split
  · exact ht
  · exact (ht.incBy _).flagTile 1

/-- PRA_YLDGAP counts the samples missing before the one read. -/
theorem State.yieldTaken_gap (s : State) (x : Nat × Nat × Nat) (r : Reading) :
    (s.yieldTaken x r).rd F.PRA_YLDGAP_CNT = satAdd F.PRA_YLDGAP_CNT.width (s.rd F.PRA_YLDGAP_CNT) (s.missingBefore r.stamp) := by
  unfold State.yieldTaken
  dsimp only
  split
  · next hnone =>
    have hlt : s.rd F.PRA_YLDGAP_CNT < 2 ^ F.PRA_YLDGAP_CNT.width := getBits_lt _ 31 0
    rw [hnone]
    exact (Nat.min_eq_left (Nat.le_pred_of_lt hlt)).symm
  · exact (State.flagTile_rd_other _ 1 (by decide)).trans (State.rd_incBy_same _ _ (by decide))

/-- A poisoned sample counts as one more missing, and is not placed (R213). -/
theorem State.readYield_poisoned {s : State} (x : Nat × Nat × Nat) {r : Reading} (h : r.poison = true) :
    ∃ u, State.ReadsTo (x.1, x.2.1, x.2.2 + 1) s u ∧ s.readYield x r = { u with prod := { u.prod with lastStamp := some r.stamp } } ∧
      u.rd F.PRA_YLDGAP_CNT =
        satAdd F.PRA_YLDGAP_CNT.width (satAdd F.PRA_YLDGAP_CNT.width (s.rd F.PRA_YLDGAP_CNT) (s.missingBefore r.stamp)) 1 := by
  refine ⟨((s.yieldTaken x r).praPoison.inc F.PRA_YLDGAP_CNT).flagTile 5, ((s.yieldTaken_reads x r).praPoison.incBy 1).flagTile 5, ?_, ?_⟩
  · unfold State.readYield
    dsimp only
    rw [if_pos h]
    rfl
  · rw [State.flagTile_rd_other _ 5 (by decide), State.inc, State.rd_incBy_same _ 1 (by decide), ← s.yieldTaken_gap x r,
      (State.TalliesTo.praPoison (l := poisonCount) _ (by decide)).rd F.PRA_YLDGAP_CNT (by decide)]

/-- A clean sample placed; a poisoned moisture sample counts and flags the tile used last (R213). -/
def State.yieldPlaced (s : State) (r : Reading) (w : Option Frac) (gap : Nat) (bad : Bool) : State :=
  let v := (if bad then s.praPoison else s).placeYield r w gap
  if bad then v.flagTile 5 else v

theorem State.readYield_placed {s : State} (x : Nat × Nat × Nat) {r : Reading} (h : r.poison = false) :
    ∃ w gap bad, s.readYield x r =
      { (s.yieldTaken x r).yieldPlaced r w gap bad with
        prod := { ((s.yieldTaken x r).yieldPlaced r w gap bad).prod with lastStamp := some r.stamp } } := by
  unfold State.readYield
  dsimp only
  rw [if_neg (by rw [h]; decide)]
  exact ⟨_, _, _, rfl⟩

/-- A clean sample is placed, and the tile used last may then get the flags of a poisoned moisture sample. -/
theorem State.readYield_clean {s : State} (x : Nat × Nat × Nat) {r : Reading} (h : r.poison = false) :
    ∃ t w gap u, State.ReadsTo (x.1, x.2.1, x.2.2 + 1) s t ∧ (u = t.placeYield r w gap ∨ u = (t.placeYield r w gap).flagTile 5) ∧
      s.readYield x r = { u with prod := { u.prod with lastStamp := some r.stamp } } := by
  have ht := s.yieldTaken_reads x r
  obtain ⟨w, gap, bad, heq⟩ := State.readYield_placed (s := s) x h
  cases bad with
  | false => exact ⟨_, w, gap, _, ht, .inl rfl, heq⟩
  | true => exact ⟨_, w, gap, _, ht.praPoison, .inr rfl, heq⟩

/-! ### Where the mass goes (R210, R211) -/

/-- The mass of a sample, in g (R209, R210). -/
def State.sampleMass (s : State) (r : Reading) : Frac :=
  (((s.yldScale Reg.PRA_YLDMGAIN Reg.PRA_YLDMOFF r.v).max ⟨0, 1⟩).mul ⟨s.yieldDt r.stamp, 1000000000⟩).mul ⟨1000, 1⟩

theorem State.ReadsTo.sampleMass {x : Nat × Nat × Nat} {s t : State} (h : State.ReadsTo x s t) (r : Reading) : t.sampleMass r = s.sampleMass r := by
  unfold State.sampleMass
  rw [h.yldScale, h.yieldDt]

/-- A sample without a pose is dropped. -/
theorem State.placeYield_dropped {s : State} {r : Reading} (w : Option Frac) (gap : Nat)
    (h : (bracket (s.cutTime r.stamp) s.poses).1 = none) : s.placeYield r w gap = (s.yldDrop (s.sampleMass r)).flagTile 1 := by
  unfold State.placeYield
  dsimp only
  split
  · rfl
  · next hb =>
    rw [hb] at h
    exact absurd h (Option.some_ne_none _)

/-- The tile (te, tn) is open, or there is room to open it. -/
def State.canFill (s : State) (te tn : Int) : Prop :=
  s.prod.tiles.length < 16 ∨ s.prod.tiles.any (fun x => decide (x.te = te ∧ x.tn = tn)) = true

/-- A tile that is open or has room to open opens without closing another. -/
theorem State.openTile_fills {s : State} {te tn : Int} (h : s.canFill te tn) :
    ∃ x, s.openTile te tn = (s, some x) ∧ x.te = te ∧ x.tn = tn := by
  unfold State.openTile
  cases hfind : s.prod.tiles.find? (fun x => decide (x.te = te ∧ x.tn = tn)) with
  | some x =>
    have hplace := List.find?_some hfind
    exact ⟨x, rfl, of_decide_eq_true hplace⟩
  | none =>
    have hroom : s.prod.tiles.length < 16 := h.resolve_right fun hany => by
      obtain ⟨y, hy, heq⟩ := List.any_eq_true.mp hany
      exact List.find?_eq_none.mp hfind y hy heq
    dsimp only
    rw [if_pos hroom, if_pos hroom]
    exact ⟨_, rfl, rfl, rfl⟩

/-- Tile (te, tn) is open, and its last mass came now. -/
def State.fills (s : State) (te tn : Int) : Prop :=
  s.prod.tiles.any (fun x => decide (x.te = te ∧ x.tn = tn ∧ x.tlast = s.now)) = true

theorem State.fills.canFill {s : State} {te tn : Int} (h : s.fills te tn) : s.canFill te tn := by
  obtain ⟨x, hx, heq⟩ := List.any_eq_true.mp h
  obtain ⟨hte, htn, -⟩ := of_decide_eq_true heq
  exact .inr (List.any_eq_true.mpr ⟨x, hx, decide_eq_true ⟨hte, htn⟩⟩)

/-- A bin's part whose tile is open, or has room to open, goes to that tile. -/
theorem State.addToCell_fills {s : State} {e n : Int} (wet water area : Frac) (flags : Nat) (h : s.canFill (e / 128) (n / 128)) :
    (s.addToCell e n wet water area flags).fills (e / 128) (n / 128) ∧ (s.addToCell e n wet water area flags).prod.dropped = s.prod.dropped := by
  obtain ⟨x, hopen, hte, htn⟩ := State.openTile_fills h
  unfold State.addToCell
  rw [hopen]
  refine ⟨?_, rfl⟩
  unfold State.fills
  rw [List.any_eq_true]
  exact ⟨_, List.mem_append_right _ (List.mem_singleton_self _), decide_eq_true ⟨hte, htn, rfl⟩⟩

/-- The bins' parts of a sample that all go to one tile. -/
theorem State.foldl_addToCell_fills {te tn : Int} (cell : Nat → Int × Int) (wet water area : Nat → Frac) (flags : Nat) (l : List Nat)
    {s : State} (hcell : ∀ b ∈ l, (cell b).1 / 128 = te ∧ (cell b).2 / 128 = tn) (h : s.canFill te tn) :
    (l ≠ [] → (l.foldl (fun t b => t.addToCell (cell b).1 (cell b).2 (wet b) (water b) (area b) flags) s).fills te tn) ∧
      (l.foldl (fun t b => t.addToCell (cell b).1 (cell b).2 (wet b) (water b) (area b) flags) s).prod.dropped = s.prod.dropped := by
  induction l generalizing s with
  | nil => exact ⟨fun h => absurd rfl h, rfl⟩
  | cons b l ih =>
    obtain ⟨rfl, rfl⟩ := hcell b List.mem_cons_self
    obtain ⟨hfills, hdropped⟩ := State.addToCell_fills (wet b) (water b) (area b) flags h
    obtain ⟨hrest, hkept⟩ := ih (fun c hc => hcell c (List.mem_cons_of_mem _ hc)) hfills.canFill
    rw [List.foldl_cons]
    refine ⟨fun _ => ?_, hkept.trans hdropped⟩
    cases l with
    | nil => rwa [List.foldl_nil]
    | cons c l => exact hrest (List.cons_ne_nil c l)

/-- A sample with a pose whose cells all lie in one tile goes to that tile. -/
theorem State.placeYield_fills {s : State} {r : Reading} {te tn : Int} (w : Option Frac) (gap : Nat)
    (hpose : (bracket (s.cutTime r.stamp) s.poses).1.isSome = true)
    (hcells : (s.yieldCells (s.cutTime r.stamp)).all (fun c => decide (c.1 / 128 = te ∧ c.2 / 128 = tn)) = true) (h : s.canFill te tn) :
    (s.placeYield r w gap).fills te tn ∧ (s.placeYield r w gap).prod.dropped = s.prod.dropped := by
  have hlen : (s.yieldCells (s.cutTime r.stamp)).length = 16 := (List.length_map _).trans List.length_range
  have hcell : ∀ b ∈ List.range 16, ((s.yieldCells (s.cutTime r.stamp)).getD b (0, 0)).1 / 128 = te ∧
      ((s.yieldCells (s.cutTime r.stamp)).getD b (0, 0)).2 / 128 = tn := fun b hb => by
    have hlt : b < (s.yieldCells (s.cutTime r.stamp)).length := hlen ▸ List.mem_range.mp hb
    rw [List.getD_eq_getElem _ _ hlt]
    exact of_decide_eq_true (List.all_eq_true.mp hcells _ (List.getElem_mem hlt))
  unfold State.placeYield
  dsimp only
  split
  · next hb =>
    rw [hb] at hpose
    exact absurd hpose Bool.false_ne_true
  · obtain ⟨hfills, hdropped⟩ := State.foldl_addToCell_fills _ _ _ _ _ (List.range 16) hcell h
    exact ⟨hfills (by decide), hdropped⟩

/-! ### YIELD_SAMPLE -/

/-- A sample read moves the tiler's place and stamp on; a poisoned one is counted and not placed (R209, R213, R215). -/
theorem State.readYield_shows (s : State) (pos tray k : Nat) (r : Reading) :
    (s.readYield (pos, tray, k) r).prod.readAt = (pos, tray, k + 1) ∧ (s.readYield (pos, tray, k) r).prod.lastStamp = some r.stamp ∧
      (r.poison = true →
        (s.readYield (pos, tray, k) r).rd F.PRA_YLDGAP_CNT =
          satAdd F.PRA_YLDGAP_CNT.width (satAdd F.PRA_YLDGAP_CNT.width (s.rd F.PRA_YLDGAP_CNT) (s.missingBefore r.stamp)) 1 ∧
        (s.readYield (pos, tray, k) r).prod.dropped = s.prod.dropped ∧ (s.readYield (pos, tray, k) r).prod.placed = s.prod.placed) := by
  cases hp : r.poison with
  | true =>
    obtain ⟨u, hreads, heq, hgap⟩ := State.readYield_poisoned (s := s) (pos, tray, k) hp
    rw [heq]
    exact ⟨hreads.readAt, rfl, fun _ => ⟨hgap, hreads.dropped, hreads.placed⟩⟩
  | false =>
    obtain ⟨t, w, gap, u, hreads, hu, heq⟩ := State.readYield_clean (s := s) (pos, tray, k) hp
    have hplaced : t.TilesTo u := by
      obtain rfl | rfl := hu
      · exact .placeYield t r w gap
      · exact (State.TilesTo.placeYield t r w gap).trans (.flagTile _ 5)
    rw [heq]
    exact ⟨hplaced.readAt.trans hreads.readAt, rfl, fun h => absurd h Bool.false_ne_true⟩

/-- A clean sample without a pose is dropped. -/
theorem State.readYield_drops {s : State} (x : Nat × Nat × Nat) {r : Reading} (hclean : r.poison = false)
    (hpose : (bracket (s.cutTime r.stamp) s.poses).1 = none) :
    (s.readYield x r).prod.dropped = s.prod.dropped.add (s.sampleMass r) ∧ (s.readYield x r).prod.placed = s.prod.placed ∧
      (s.readYield x r).prod.tiles.length = s.prod.tiles.length := by
  obtain ⟨t, w, gap, u, hreads, hu, heq⟩ := State.readYield_clean x hclean
  have hdrop := State.placeYield_dropped (s := t) (r := r) w gap (by rw [hreads.cutTime, hreads.poses]; exact hpose)
  have hshown : u.prod.dropped = (t.yldDrop (t.sampleMass r)).prod.dropped ∧ u.prod.placed = (t.yldDrop (t.sampleMass r)).prod.placed ∧
      u.prod.tiles.length = (t.yldDrop (t.sampleMass r)).prod.tiles.length := by
    obtain rfl | rfl := hu
    · rw [hdrop]
      exact ⟨State.flagTile_dropped _ 1, State.flagTile_placed _ 1, State.flagTile_count _ 1⟩
    · rw [hdrop, State.flagTile_dropped, State.flagTile_placed, State.flagTile_count]
      exact ⟨State.flagTile_dropped _ 1, State.flagTile_placed _ 1, State.flagTile_count _ 1⟩
  obtain ⟨hdropped, hplaced, hcount⟩ := hshown
  rw [heq, ← hreads.sampleMass r, ← hreads.dropped]
  exact ⟨hdropped, hplaced.trans hreads.placed, hcount.trans hreads.count⟩

/-- Flags on the tile used last leave the tile that was filled. -/
theorem State.fills.flagTile {s : State} {te tn : Int} (h : s.fills te tn) (flags : Nat) : (s.flagTile flags).fills te tn := by
  obtain ⟨-, hkeys⟩ := s.flagTile_keeps flags
  have hany := congrArg (fun l : List ((Int × Int) × Nat) => l.any (fun p => decide (p.1.1 = te ∧ p.1.2 = tn ∧ p.2 = s.now))) hkeys
  simp only [List.any_map] at hany
  unfold State.fills
  rw [(State.TilesTo.flagTile s flags).now]
  exact hany.trans h

/-- What a reading counts leaves the tiles that are open or can be opened. -/
theorem State.ReadsTo.canFill {x : Nat × Nat × Nat} {s t : State} {te tn : Int} (h : State.ReadsTo x s t) (hroom : s.canFill te tn) :
    t.canFill te tn := by
  have hany := congrArg (fun l : List (Int × Int) => l.any (fun p => decide (p.1 = te ∧ p.2 = tn))) h.tiles
  simp only [List.any_map] at hany
  unfold State.canFill
  rw [h.count]
  exact hroom.imp_right hany.trans

/-- A clean sample with a pose whose cells all lie in one tile fills that tile. -/
theorem State.readYield_fills {s : State} (x : Nat × Nat × Nat) {r : Reading} {te tn : Int} (hclean : r.poison = false)
    (hpose : (bracket (s.cutTime r.stamp) s.poses).1.isSome = true)
    (hcells : (s.yieldCells (s.cutTime r.stamp)).all (fun c => decide (c.1 / 128 = te ∧ c.2 / 128 = tn)) = true) (hroom : s.canFill te tn) :
    (s.readYield x r).prod.dropped = s.prod.dropped ∧
      (s.readYield x r).prod.tiles.any (fun y => decide (y.te = te ∧ y.tn = tn ∧ y.tlast = s.now)) = true := by
  obtain ⟨t, w, gap, u, hreads, hu, heq⟩ := State.readYield_clean x hclean
  obtain ⟨hfills, hdropped⟩ := State.placeYield_fills (s := t) (r := r) (te := te) (tn := tn) w gap
    (by rw [hreads.cutTime, hreads.poses]; exact hpose) (by rw [hreads.cutTime, hreads.yieldCells]; exact hcells) (hreads.canFill hroom)
  have hnow := (State.TilesTo.placeYield t r w gap).now
  have hshown : u.fills te tn ∧ u.prod.dropped = t.prod.dropped ∧ u.now = t.now := by
    obtain rfl | rfl := hu
    · exact ⟨hfills, hdropped, hnow⟩
    · exact ⟨hfills.flagTile 5, (State.flagTile_dropped _ 5).trans hdropped, (State.TilesTo.flagTile _ 5).now.trans hnow⟩
  obtain ⟨hfilled, hkept, hunow⟩ := hshown
  unfold State.fills at hfilled
  rw [hunow, hreads.tallies.now] at hfilled
  rw [heq]
  exact ⟨hkept.trans hreads.dropped, hfilled⟩

/-- YIELD_SAMPLE of the sample that the tiler reads next. -/
theorem execYieldSample_reads {s : State} {pos tray k : Nat} {r : Reading} (hup : s.engineUp 0 = true) (hen : s.on F.PRA_YLDCTL_EN = true)
    (hnext : s.nextSample = some (pos, tray, k)) (hread : s.logReading (s.rd F.PRA_YLDSRC_MSTREAM) (pos, tray, k) = some r) :
    execYieldSample pos tray k (s.nearestMoist (s.moistTime r.stamp)) (s.yieldCells (s.cutTime r.stamp)) s =
      .next (s.readYield (pos, tray, k) r) := by
  unfold execYieldSample
  rw [if_neg (by simp [hup, hen, hnext]), hread]
  dsimp only
  rw [if_neg (by simp)]

end Sys2Proof.Machine
end

section
/-! SUPPORT. The commands of tracks, forecast and yield (R199-R211), each by what it carries out. -/

namespace Sys2Proof.Machine

/-- Settles O21: each command's effect, by the lemma of the operation it carries out. -/
theorem prairieProductCommandsComplete : Obligations.PrairieProductCommandsComplete := by
  refine ⟨fun s rows g net hgrid hnet hmode hup hnew => ?_, fun s a hacc => ?_, fun s md rho conf po steps us hup hen htf hmode => ?_,
    fun s md rho conf po steps us hup hen htf hmode hsteps hroom => ?_,
    fun s md rho conf po steps us hup hen htf hmode hidle hsteps hfull => ?_, fun s pos tray k r hup hen hnext hread => ?_,
    fun s pos tray k r hup hen hnext hread hclean hpose => ?_,
    fun s pos tray k r te tn hup hen hnext hread hclean hpose hcells hroom => ?_, fun s te tn x hup hopen hidle => ?_,
    fun s a hacc hroom => ?_, fun s a hacc hopen hfull => ?_, fun s a v hacc => ?_⟩
  · refine ⟨_, execTrackUpdate_updates hgrid hnet hmode hup hnew, ?_⟩
    obtain ⟨⟨n, hprod⟩, hlive, hseq⟩ := s.tracksPublished_shows g rows
    obtain ⟨hconf, hunconf⟩ := s.tracksCounted_live g rows
    have htracks : (s.tracksPublished g rows).trackLive = (s.tracksUpdated g rows).trackLive := by
      unfold State.trackLive
      rw [hprod]
    rw [htracks, hprod]
    exact ⟨rfl, rfl, rfl, (State.rd_congr hlive).trans hconf, (State.rd_congr hlive).trans hunconf, hseq⟩
  · exact ⟨_, congrArg Host.Outcome.next (State.gate_accepts _ hacc), rfl⟩
  · exact ⟨_, execForecastSample_starts md rho conf po steps us hup hen htf hmode, s.fcStart_numbers md rho conf po steps us⟩
  · exact ⟨_, execForecastSample_starts md rho conf po steps us hup hen htf hmode, s.fcStart_delivers md rho conf po us hsteps hroom⟩
  · exact ⟨_, execForecastSample_starts md rho conf po steps us hup hen htf hmode, s.fcStart_abandons md rho conf po us hidle hsteps hfull⟩
  · exact ⟨_, execYieldSample_reads hup hen hnext hread, s.readYield_shows pos tray k r⟩
  · exact ⟨_, execYieldSample_reads hup hen hnext hread, State.readYield_drops _ hclean hpose⟩
  · exact ⟨_, execYieldSample_reads hup hen hnext hread, State.readYield_fills _ hclean hpose hcells hroom⟩
  · refine ⟨_, execTileClose_closes hup hopen hidle, ?_⟩
    have hplace := List.find?_some hopen
    obtain ⟨hte, htn⟩ := of_decide_eq_true hplace
    beta_reduce
    split
    · next hroom =>
      rw [State.closeTile_room x 0 hroom, ← hte, ← htn]
      exact s.writeTile_shows x 0
    · next hfull => exact State.closeTile_full x 0 (Bool.eq_false_of_not_eq_true hfull)
  · exact ⟨_, congrArg Host.Outcome.next (State.gate_accepts _ hacc), State.flushTiles_room (s := s.done) hroom⟩
  · obtain ⟨hlen, hset, hpos⟩ := State.closeTiles_full (s := s.done) s.prod.tiles 8 (decide_eq_false (Nat.not_lt.mpr hfull))
    exact ⟨_, congrArg Host.Outcome.next (State.gate_accepts _ hacc), hlen, hset hopen, hpos⟩
  · refine ⟨_, congrArg Host.Outcome.next (State.gate_accepts _ hacc), ?_⟩
    beta_reduce
    split
    · next hpass => exact if_pos hpass
    · next hpass => exact State.yldrposSet_takes (s := s.done) hpass

end Sys2Proof.Machine
end

section
/-! SUPPORT. A signal that is found with every channel of its antenna in use (R217, R233): it stays untracked, and that is told on ring 91. -/

namespace Sys2Proof.Machine

/-- Every channel of antenna 0 is in TRACK, the event ring of the baseband is enabled with 1024 entries, and search unit 0 is at the end of its
search. -/
def channelsTaken : State :=
  { State.reset with
    rootOn := true, bedOn := true, canopyOn := true,
    regs := [(Reg.RNG_QnCFG 91, 0xC0A00000), (Reg.GNS_RUN, 0x80000000)] ++ (List.range 96).map (fun i => (chpKey (2 * i), 0x40004000)),
    gns := { search := [(0, some (⟨0, 0, 5, 0⟩, 0, 0))] } }

/-- The signal finds no channel, and the entry that tells it goes to the ring's first place, address 0, which held 0 before. -/
theorem channelsTaken_tells :
    ∃ t, exec (.signalSearch 0 0 0 5 0 0 true []) channelsTaken = .next t ∧ t.mem.read 0 = 0x80 ∧ channelsTaken.mem.read 0 = 0 :=
  ⟨_, rfl, by decide +kernel⟩

/-- Refutes O22: its clause on the end of a search asks that memory stays as it is, also where the signal was found and its antenna has no free
channel; R217 and R233 then put an entry on the event ring 91, which the model writes into memory. -/
theorem not_satelliteCommandsComplete : ¬ Obligations.SatelliteCommandsComplete := by
  intro h
  obtain ⟨-, hends, -⟩ := h
  obtain ⟨t, ht, -, -, -, -, hmem⟩ := hends channelsTaken 0 0 0 5 0 0 true [] 0 (by decide +kernel) (by decide) (by decide) (by decide) (by decide)
  obtain ⟨u, hu, htold, hwas⟩ := channelsTaken_tells
  cases ht.symm.trans hu
  rw [hmem, hwas] at htold
  exact absurd htold (by decide)

end Sys2Proof.Machine
end

section
/-! SUPPORT. Aids of the GNSS baseband (R231, R232, R243): what a descriptor of ring 88 makes of the aids held, and what its completion leaves
alone. -/

namespace Sys2Proof.Machine

/-! ### What entries and the aid registers leave alone -/

/-- Ring entries and records leave the GNSS baseband alone. -/
theorem State.EntersTo.gns {s t : State} (h : s.EntersTo t) : t.gns = s.gns := (congrArg State.gns h.eq).trans rfl

/-- A field of block GNS reads the same after ring entries and records. -/
theorem State.EntersTo.gns_rd {s t : State} (h : s.EntersTo t) {f : Fld} (hf : f.addr / 0x1000 = 0x16) : t.rd f = s.rd f :=
  h.rd (by unfold entryBlock; omega)

@[simp] theorem State.complete_gns (s : State) (q : Nat) (d : Desc) (r : Result) : (s.complete q d r).gns = s.gns :=
  (State.EntersTo.complete s q d r).gns

theorem State.complete_gns_rd (s : State) (q : Nat) (d : Desc) (r : Result) {f : Fld} (hf : f.addr / 0x1000 = 0x16) :
    (s.complete q d r).rd f = s.rd f := (State.EntersTo.complete s q d r).gns_rd hf

/-- `t` differs from `s` at most in the registers `l`. -/
structure State.SetsRegs (l : List Nat) (s t : State) : Prop where
  eq : t = { s with regs := t.regs }
  reg : ∀ k, k ∉ l → t.reg k = s.reg k

namespace State.SetsRegs

variable {l : List Nat} {s t u : State}

theorem trans (h : SetsRegs l s t) (h' : SetsRegs l t u) : SetsRegs l s u :=
  ⟨h'.eq.trans ((congrArg (fun x : State => { x with regs := u.regs }) h.eq).trans rfl), fun k hk => (h'.reg k hk).trans (h.reg k hk)⟩

theorem wr (s : State) {f : Fld} (v : Nat) (h : f.addr ∈ l) : SetsRegs l s (s.wr f v) := ⟨rfl, fun _ hk => s.reg_wr_other v fun e => hk (e ▸ h)⟩

theorem gns (h : SetsRegs l s t) : t.gns = s.gns := (congrArg State.gns h.eq).trans rfl
theorem now (h : SetsRegs l s t) : t.now = s.now := (congrArg State.now h.eq).trans rfl
theorem freshNat (h : SetsRegs l s t) : t.freshNat = s.freshNat := (congrArg State.freshNat h.eq).trans rfl
theorem rd (h : SetsRegs l s t) (f : Fld) (hf : f.addr ∉ l) : t.rd f = s.rd f := State.rd_congr (h.reg f.addr hf)

/-- The aid registers brought up to date. -/
theorem gnsAidRegs (s : State) : SetsRegs [Reg.GNS_AIDSTAT, Reg.GNS_EPHCNT] s s.gnsAidRegs := by
  have hstat (x : State) (f : Fld) (v : Nat) (h : f.addr = Reg.GNS_AIDSTAT) : SetsRegs [Reg.GNS_AIDSTAT, Reg.GNS_EPHCNT] x (x.wr f v) :=
    wr x v (by simp [h])
  have hcnt (x : State) (f : Fld) (v : Nat) (h : f.addr = Reg.GNS_EPHCNT) : SetsRegs [Reg.GNS_AIDSTAT, Reg.GNS_EPHCNT] x (x.wr f v) :=
    wr x v (by simp [h])
  exact ((((((hstat s _ _ rfl).trans (hstat _ _ _ rfl)).trans (hstat _ _ _ rfl)).trans (hcnt _ _ _ rfl)).trans (hcnt _ _ _ rfl)).trans
    (hcnt _ _ _ rfl)).trans (hcnt _ _ _ rfl)

end State.SetsRegs

@[simp] theorem State.gnsAidRegs_gns (s : State) : s.gnsAidRegs.gns = s.gns := (State.SetsRegs.gnsAidRegs s).gns

/-! ### Time (R231) -/

/-- A time aid taken: used, unless its bound is wider than the one held. -/
def State.takeTime (s : State) (x : Nat × Nat × Nat) : State :=
  if (s.gns.timeAid.map (fun a => decide (a.2.2 < x.2.2))).getD false then { s with gns := { s.gns with timeWide := some x } }
  else ({ s with gns := { s.gns with timeAid := some x } }).gnsAidRegs

theorem execAidtime_takes {s : State} {d : Desc} (hrun : s.running 88 1 = some d) :
    execAidtime 88 s = .next ((s.takeTime (d.le 24 8, d.le 32 8, d.le 40 4)).complete 88 d {}) := by
  unfold execAidtime State.takeTime
  rw [if_pos rfl, State.serve_of_running _ hrun]
  dsimp only
  split <;> rfl

theorem State.takeTime_aids (s : State) (x : Nat × Nat × Nat) :
    if (s.gns.timeAid.map (fun a => decide (a.2.2 < x.2.2))).getD false = true then
      (s.takeTime x).gns.timeAid = s.gns.timeAid ∧ (s.takeTime x).gns.timeWide = some x
    else (s.takeTime x).gns.timeAid = some x ∧ (s.takeTime x).gns.timeWide = s.gns.timeWide := by
  unfold State.takeTime
  split
  · exact ⟨rfl, rfl⟩
  · rw [State.gnsAidRegs_gns]
    exact ⟨rfl, rfl⟩

/-! ### Position and velocity (R231, R232) -/

theorem State.takePos_posAid (s : State) (a : PosAid) :
    (s.takePos a).gns.posAid = if widerThan s.gns.posAid a.bound = true then s.gns.posAid else some a := by
  unfold State.takePos
  split
  · rfl
  · rw [State.gnsAidRegs_gns]

/-- A position aid leaves the velocity aid, the time and the free values alone. -/
theorem State.takePos_keeps (s : State) (a : PosAid) :
    (s.takePos a).gns.velAid = s.gns.velAid ∧ (s.takePos a).now = s.now ∧ (s.takePos a).freshNat = s.freshNat := by
  unfold State.takePos
  split
  · exact ⟨rfl, rfl, rfl⟩
  · have hregs := State.SetsRegs.gnsAidRegs { s with gns := { s.gns with posAid := some a } }
    refine ⟨?_, hregs.now, hregs.freshNat⟩
    rw [State.gnsAidRegs_gns]

theorem State.takeVel_velAid (s : State) (a : PosAid) :
    (s.takeVel a).gns.velAid = if widerThan s.gns.velAid a.bound = true then s.gns.velAid else some a := by
  unfold State.takeVel
  split <;> rfl

@[simp] theorem State.takeVel_posAid (s : State) (a : PosAid) : (s.takeVel a).gns.posAid = s.gns.posAid := by
  unfold State.takeVel
  split <;> rfl

theorem execAidpos_takes {s : State} {d : Desc} (hrun : s.running 88 2 = some d) :
    execAidpos 88 s = .next (((s.takePos ⟨d.le 48 4, some (Place.ecef (d.int 24 8) (d.int 32 8) (d.int 40 8)),
      (d.int 56 2, d.int 58 2, d.int 60 2), s.now⟩).takeVel ⟨d.le 52 4, none, (d.int 56 2, d.int 58 2, d.int 60 2), s.now⟩).complete 88 d {}) := by
  unfold execAidpos
  rw [if_pos rfl, State.serve_of_running _ hrun]

/-- The position of a SOLUTION taken, where it has one. -/
def State.solutionPos (s : State) (d : Desc) : State :=
  if d.le 20 1 = 0 then s
  else s.takePos ⟨3 * d.le 44 2, some (Place.geo (d.int 24 8) (d.int 32 8) (d.int 40 4)), (d.int 48 2, d.int 50 2, d.int 52 2), s.now⟩

/-- A SOLUTION taken: its position, and its velocity with an open bound where the descriptor flags one. -/
def State.takeSolution (s : State) (d : Desc) : State :=
  if bitAt (d.le 60 2) 1 then
    ((s.solutionPos d).takeVel ⟨(s.solutionPos d).freshNat, none, (d.int 48 2, d.int 50 2, d.int 52 2), (s.solutionPos d).now⟩).tickFree
  else s.solutionPos d

theorem execSolution_takes {s : State} {d : Desc} (hrun : s.running 88 4 = some d) :
    execSolution 88 s = .next ((s.takeSolution d).complete 88 d {}) := by
  unfold execSolution
  rw [if_pos rfl, State.serve_of_running _ hrun]
  rfl

theorem State.solutionPos_posAid (s : State) (d : Desc) :
    (s.solutionPos d).gns.posAid = if d.le 20 1 = 0 ∨ widerThan s.gns.posAid (3 * d.le 44 2) = true then s.gns.posAid
      else some ⟨3 * d.le 44 2, some (Place.geo (d.int 24 8) (d.int 32 8) (d.int 40 4)), (d.int 48 2, d.int 50 2, d.int 52 2), s.now⟩ := by
  unfold State.solutionPos
  split
  · next hnone => rw [if_pos (.inl hnone)]
  · next hpos =>
    rw [State.takePos_posAid]
    simp only [hpos, false_or]

/-- The position of a SOLUTION leaves the velocity aid, the time and the free values alone. -/
theorem State.solutionPos_keeps (s : State) (d : Desc) :
    (s.solutionPos d).gns.velAid = s.gns.velAid ∧ (s.solutionPos d).now = s.now ∧ (s.solutionPos d).freshNat = s.freshNat := by
  unfold State.solutionPos
  split
  · exact ⟨rfl, rfl, rfl⟩
  · exact s.takePos_keeps _

theorem State.takeSolution_posAid (s : State) (d : Desc) : (s.takeSolution d).gns.posAid = (s.solutionPos d).gns.posAid := by
  unfold State.takeSolution
  split
  · exact State.takeVel_posAid _ _
  · rfl

theorem State.takeSolution_velAid (s : State) {d : Desc} (hvel : bitAt (d.le 60 2) 1 = true) :
    (s.takeSolution d).gns.velAid = if widerThan s.gns.velAid s.freshNat = true then s.gns.velAid
      else some ⟨s.freshNat, none, (d.int 48 2, d.int 50 2, d.int 52 2), s.now⟩ := by
  obtain ⟨hheld, hnow, hfree⟩ := s.solutionPos_keeps d
  unfold State.takeSolution
  rw [if_pos hvel]
  change (State.takeVel _ _).gns.velAid = _
  rw [State.takeVel_velAid, hheld, hnow, hfree]

/-! ### Orbits (R231, R243) -/

/-- A frame of ephemeris replaces the one held for its satellite. -/
theorem State.takeFrame_of_system (s : State) {fr : Bytes} {y : Nat} (h : ephSystem (bitsMsb fr 24 12) = some y) :
    s.takeFrame fr = some { s with gns := { s.gns with
      ephs := s.gns.ephs.filter (fun e => !(decide (e.sys = y) && decide (e.sv = bitsMsb fr 36 6))) ++
        [⟨y, bitsMsb fr 36 6, fr, ephRef fr (s.gns.leap.getD 0) s.gpsNow⟩] } } := by
  unfold State.takeFrame
  rw [h]
  rfl

theorem State.takeFrame_of_none (s : State) {fr : Bytes} (h : ephSystem (bitsMsb fr 24 12) = none) : s.takeFrame fr = none := by
  unfold State.takeFrame
  rw [h]
  rfl

/-- One frame of an AIDORB read from address `a` of memory `m`: taken where it passes its check, lies in no poisoned line and is an ephemeris;
the frames taken and rejected are counted. -/
def takeOrbit (m : Memory) (a : Nat) (x : State × Nat × Nat) (fr : Nat × Bytes × Bool) : State × Nat × Nat :=
  match (if fr.2.2 && !m.poisoned (a + fr.1) fr.2.1.length then x.1.takeFrame fr.2.1 else none) with
  | some y => (y, x.2.1 + 1, x.2.2)
  | none => (x.1, x.2.1, x.2.2 + 1)

/-- A frame that fails its check, lies in a poisoned line or is no ephemeris. -/
def orbitRejected (m : Memory) (a : Nat) (fr : Nat × Bytes × Bool) : Bool :=
  !fr.2.2 || m.poisoned (a + fr.1) fr.2.1.length || (ephSystem (bitsMsb fr.2.1 24 12)).isNone

theorem takeOrbit_rejects {m : Memory} {a : Nat} {fr : Nat × Bytes × Bool} (x : State × Nat × Nat) (h : orbitRejected m a fr = true) :
    (takeOrbit m a x fr).1 = x.1 := by
  have hnone : (if fr.2.2 && !m.poisoned (a + fr.1) fr.2.1.length then x.1.takeFrame fr.2.1 else none) = none := by
    split
    · next hread =>
      refine x.1.takeFrame_of_none (Option.isNone_iff_eq_none.mp ?_)
      simp only [Bool.and_eq_true, Bool.not_eq_true'] at hread
      simpa [orbitRejected, hread.1, hread.2] using h
    · rfl
  unfold takeOrbit
  rw [hnone]

/-- Rejected frames leave the state alone. -/
theorem foldl_takeOrbit_rejects {m : Memory} {a : Nat} {l : List (Nat × Bytes × Bool)} (h : ∀ fr ∈ l, orbitRejected m a fr = true)
    (x : State × Nat × Nat) : (l.foldl (takeOrbit m a) x).1 = x.1 :=
  List.foldlRecOn (motive := fun y : State × Nat × Nat => y.1 = x.1) _ _ rfl fun y hy fr hfr => (takeOrbit_rejects y (h fr hfr)).trans hy

/-- The baseband after the orbits in the `n` bytes from `a` on are taken; poison met is counted first. -/
def State.orbitsTaken (s : State) (a n : Nat) : State × Nat × Nat :=
  (rtcmFrames n 0 (s.mem.readBytes a n)).foldl (takeOrbit s.mem a) (if s.mem.poisoned a n then s.gnsPoison else s, 0, 0)

/-- AIDORB takes the orbits of an aligned range in memory. -/
theorem execAidorb_takes {s : State} {d : Desc} (hrun : s.running 88 3 = some d) (haligned : d.le 24 8 % 64 = 0)
    (hmem : inDramRange s.code (d.le 24 8) (d.le 32 4) = true ∨ inBedRange (d.le 24 8) (d.le 32 4) = true) :
    ∃ r, execAidorb 88 s = .next ((s.orbitsTaken (d.le 24 8) (d.le 32 4)).1.gnsAidRegs.complete 88 d r) := by
  unfold execAidorb
  rw [if_pos rfl, State.serve_of_running _ hrun]
  dsimp only
  rw [if_neg (not_not_intro haligned), if_neg (by rw [Bool.or_eq_true .. |>.mpr hmem]; decide)]
  exact ⟨_, rfl⟩

/-- A single clean frame of ephemeris is taken. -/
theorem State.orbitsTaken_ephs {s : State} {a n pos y : Nat} {fr : Bytes} (hclean : s.mem.poisoned a n = false)
    (hframes : rtcmFrames n 0 (s.mem.readBytes a n) = [(pos, fr, true)]) (hfr : s.mem.poisoned (a + pos) fr.length = false)
    (hsys : ephSystem (bitsMsb fr 24 12) = some y) :
    (s.orbitsTaken a n).1.gns.ephs = s.gns.ephs.filter (fun e => !(decide (e.sys = y) && decide (e.sv = bitsMsb fr 36 6))) ++
      [⟨y, bitsMsb fr 36 6, fr, ephRef fr (s.gns.leap.getD 0) s.gpsNow⟩] := by
  unfold State.orbitsTaken
  rw [hframes, hclean, List.foldl_cons, List.foldl_nil, takeOrbit]
  dsimp only
  rw [hfr, if_pos (by decide), if_neg (by decide), s.takeFrame_of_system hsys]

@[simp] theorem State.gnsPoison_gns (s : State) : s.gnsPoison.gns = s.gns := by
  unfold State.gnsPoison
  dsimp only
  split <;> rfl

/-- A poison event is counted. -/
theorem State.gnsPoison_counts (s : State) :
    s.gnsPoison.rd F.GNS_POISCNT_CNT = satAdd F.GNS_POISCNT_CNT.width (s.rd F.GNS_POISCNT_CNT) 1 := by
  have hcount : (s.inc F.GNS_POISCNT_CNT).rd F.GNS_POISCNT_CNT = satAdd F.GNS_POISCNT_CNT.width (s.rd F.GNS_POISCNT_CNT) 1 :=
    s.rd_incBy_same 1 (by decide)
  unfold State.gnsPoison
  dsimp only
  split <;> exact hcount

/-- Where every frame is rejected, the orbits held stay, and poison met is counted. -/
theorem State.orbitsTaken_rejects {s : State} {a n : Nat}
    (h : (rtcmFrames n 0 (s.mem.readBytes a n)).all (orbitRejected s.mem a) = true) :
    (s.orbitsTaken a n).1 = if s.mem.poisoned a n then s.gnsPoison else s :=
  foldl_takeOrbit_rejects (List.all_eq_true.mp h) _

/-- ORBREAD carried out: the orbits held are written where they fit, unless the Bed bridge has no room. -/
def State.orbitsRead (s : State) (d : Desc) : State :=
  let b := (s.gns.ephs.map (fun e => e.frame)).flatten
  if d.le 32 4 < b.length then s.complete 88 d { status := 0x41 }
  else if (s.engineWrite (d.le 24 8) b).2 then
    (s.engineWrite (d.le 24 8) b).1.complete 88 d { bytes := resultOf [(24, 4, b.length), (28, 4, s.gns.ephs.length)] }
  else s.complete 88 d { status := 6 }

theorem execOrbread_reads {s : State} {d : Desc} (hrun : s.running 88 5 = some d) (haligned : d.le 24 8 % 64 = 0)
    (hmem : inDramRange s.code (d.le 24 8) (d.le 32 4) = true ∨ inBedRange (d.le 24 8) (d.le 32 4) = true) :
    execOrbread 88 s = .next (s.orbitsRead d) := by
  unfold execOrbread State.orbitsRead
  rw [if_pos rfl, State.serve_of_running _ hrun]
  dsimp only
  rw [if_neg (not_not_intro haligned), if_neg (by rw [Bool.or_eq_true .. |>.mpr hmem]; decide)]
  split
  · rfl
  · split <;> rfl

/-! ### Restarts (R231) -/

/-- A loop leaves the baseband alone where each round does. -/
theorem foldl_gns {α : Type} (f : State → α → State) (h : ∀ (x : State) a, (f x a).gns = x.gns) (l : List α) (s : State) :
    (l.foldl f s).gns = s.gns :=
  List.foldlRecOn (motive := fun x : State => x.gns = s.gns) _ _ rfl fun x hx a _ => (h x a).trans hx

@[simp] theorem State.wr_gns (s : State) (f : Fld) (v : Nat) : (s.wr f v).gns = s.gns := rfl

@[simp] theorem State.gnsCounts_gns (s : State) : s.gnsCounts.gns = s.gns := by
  unfold State.gnsCounts
  extract_lets used n t
  exact foldl_gns _ (fun x y => by simp only [State.wr_gns]) _ _

/-- Of what the baseband keeps, freeing every channel changes the channels and ends the searches. -/
theorem State.freeAllChannels_gns (s : State) :
    ∃ chans, s.freeAllChannels.gns = { s.gns with chans := chans, search := [], again := [] } := by
  have hdrop : ∃ chans, (s.usedChannels.foldl (fun x n => x.dropChannel n) s).gns = { s.gns with chans := chans } :=
    List.foldlRecOn (motive := fun x : State => ∃ chans, x.gns = { s.gns with chans := chans }) _ _ ⟨s.gns.chans, rfl⟩ fun x hx n _ =>
      hx.elim fun _ hx => ⟨_, congrArg (fun g : Gnss => { g with chans := SMap.set (fun _ => {}) x.gns.chans n {} }) hx⟩
  obtain ⟨chans, hchans⟩ := hdrop
  refine ⟨chans, ?_⟩
  unfold State.freeAllChannels
  extract_lets t u
  rw [State.wr_gns, foldl_gns _ (fun x y => x.wr_gns _ _)]
  change { t.gns with search := [], again := [] } = _
  rw [show t.gns = _ from (State.gnsCounts_gns _).trans hchans]

/-- What RESTART of kind `k` keeps: hot all aids, warm all but the ephemerides, cold none. -/
def Gnss.restarted (g : Gnss) (now k : Nat) : Gnss :=
  let g := { g with start := now, firstFix := false, fixAt := none }
  if k = 0 then g else if k = 1 then { g with ephs := [] }
  else { g with ephs := [], timeAid := none, timeWide := none, posAid := none, posWide := none, velAid := none, velWide := none, noTrim := true }

/-- The baseband after RESTART of kind `k`. -/
def State.gnsRestarted (s : State) (k : Nat) : State :=
  ((({ s with gns := s.gns.restarted s.now k }).freeAllChannels).wr F.GNS_STAT_FIX 0).gnsAidRegs

theorem execGnssRestart_restarts {s : State} {d : Desc} (hrun : s.running 88 6 = some d) (hkind : d.le 16 1 ≤ 2) :
    execGnssRestart 88 s = .next ((s.gnsRestarted (d.le 16 1)).complete 88 d {}) := by
  unfold execGnssRestart
  rw [if_pos rfl, State.serve_of_running _ hrun]
  dsimp only
  rw [if_neg (Nat.not_lt.mpr hkind)]
  rfl

/-- A restart forgets the fix, and what its kind says of the aids. -/
theorem State.gnsRestarted_forgets (s : State) {k : Nat} (hkind : k ≤ 2) :
    ((s.gnsRestarted k).gns.start = s.now ∧ (s.gnsRestarted k).gns.firstFix = false ∧ (s.gnsRestarted k).gns.fixAt = none) ∧
      (s.gnsRestarted k).rd F.GNS_STAT_FIX = 0 ∧ (s.gnsRestarted k).gns.ephs = (if k = 0 then s.gns.ephs else []) ∧
      (s.gnsRestarted k).gns.timeAid = (if k = 2 then none else s.gns.timeAid) ∧
      (s.gnsRestarted k).gns.posAid = (if k = 2 then none else s.gns.posAid) ∧
      (s.gnsRestarted k).gns.velAid = (if k = 2 then none else s.gns.velAid) := by
  have hgns : ∃ chans, (s.gnsRestarted k).gns = { s.gns.restarted s.now k with chans := chans, search := [], again := [] } := by
    unfold State.gnsRestarted
    rw [State.gnsAidRegs_gns, State.wr_gns]
    exact State.freeAllChannels_gns _
  have hfix : (s.gnsRestarted k).rd F.GNS_STAT_FIX = 0 :=
    ((State.SetsRegs.gnsAidRegs _).rd _ (by decide)).trans (State.rd_wr_fits _ (by decide) (by decide))
  obtain ⟨chans, hgns⟩ := hgns
  rw [hgns]
  interval_cases k <;> exact ⟨⟨rfl, rfl, rfl⟩, hfix, rfl, rfl, rfl, rfl⟩

end Sys2Proof.Machine
end

section
/-! SUPPORT. The guidance record (R234, R235, R240): what reading the control area and the corrections leaves of the records counted, and what
a record leaves. -/

namespace Sys2Proof.Machine

/-- The control area read leaves the count of the records alone. -/
theorem State.gfRead_count (s : State) : s.gfRead.gns.guide.count = s.gns.guide.count := by
  unfold State.gfRead
  extract_lets a cs
  split
  · rfl
  · split <;> rfl

theorem State.takeFrame_guide {s t : State} {fr : Bytes} (h : s.takeFrame fr = some t) : t.gns.guide = s.gns.guide := by
  obtain ⟨y, -, rfl⟩ := Option.map_eq_some_iff.mp h
  rfl

/-- A correction taken leaves the count of the records alone. -/
theorem State.takeMessage_count (s : State) (g : Int) (fr : Bytes) : (s.takeMessage g fr).1.gns.guide.count = s.gns.guide.count := by
  unfold State.takeMessage
  extract_lets w m
  split
  · rfl
  · split
    · rfl
    · split
      · rfl
      · cases h : s.takeFrame fr with
        | none => rfl
        | some t => exact congrArg GuideFw.count (State.takeFrame_guide h)

/-- A Dale core's store is bytes written, or a line for the Bed bridge. -/
theorem State.EntersTo.coreStore (s : State) (a : Nat) (b : Bytes) : s.EntersTo (s.coreStore a b) := by
  unfold State.coreStore State.daleWrite
  dsimp only
  split
  · split <;> exact ⟨rfl, fun _ _ => rfl⟩
  · exact put s a b

/-- The corrections taken leave the count of the records alone. -/
theorem foldl_takeMessage_count (g : Int) (l : List Bytes) (x : State × Bool) :
    (l.foldl (fun y fr => ((y.1.takeMessage g fr).1, y.2 || (y.1.takeMessage g fr).2)) x).1.gns.guide.count = x.1.gns.guide.count :=
  List.foldlRecOn (motive := fun y : State × Bool => y.1.gns.guide.count = x.1.gns.guide.count) _ _ rfl fun y hy fr _ =>
    (y.1.takeMessage_count g fr).trans hy

/-- The intake of the corrections leaves the count of the records alone. -/
theorem State.intake_count (s : State) (c : GuideCfg) (g : Int) : (s.intake c g).1.gns.guide.count = s.gns.guide.count := by
  unfold State.intake
  split
  · rfl
  · dsimp only
    generalize rtcmScan _ _ = x -- kept closed: the terms would compute with 2 ^ 32
    have ht := foldl_takeMessage_count g x.1 (s, false)
    split
    · exact ht
    · rw [(State.EntersTo.coreStore _ _ _).gns, State.gnsAidRegs_gns]
      exact ht

/-- A record takes the next number, pays the GAP owed and says which Dale wrote it. -/
theorem State.guideRecord_shows (s : State) (dale : Agent) (c : GuideCfg) (e : EpochRead) (moved : Bool) (g : GuideIn) :
    (s.guideRecord dale c e moved g).gns.guide.count = s.gns.guide.count % 2 ^ 32 + 1 ∧
      (s.guideRecord dale c e moved g).gns.guide.gap = false ∧ (s.guideRecord dale c e moved g).gns.guide.dale = some dale := by
  unfold State.guideRecord
  exact ⟨rfl, rfl, rfl⟩

/-- The firmware's state after an epoch: a record, or GAP owed where the epoch is not solved or its slot is poisoned. -/
theorem execGuidanceRecord_records {s : State} {g : GuideIn} {dale : Agent} {c : GuideCfg} (hcarry : s.carrier = some dale)
    (hon : s.canopyOn = true) (hcfg : s.gfRead.gns.guide.cfg = some c) :
    ∃ t, execGuidanceRecord g s = .next t ∧
      if g.solved = true ∧ s.gfRead.mem.poisoned (4096 * s.gfRead.rd F.GNS_OBSBASE_BASE + g.slot * 16384) 16384 = false then
        t.gns.guide.count = s.gns.guide.count % 2 ^ 32 + 1 ∧ t.gns.guide.gap = false ∧ t.gns.guide.dale = some dale
      else t.gns.guide.gap = true ∧ t.gns.guide.count = s.gns.guide.count := by
  have hcount (x : Int) : (s.gfRead.intake c x).1.gns.guide.count = s.gns.guide.count :=
    (s.gfRead.intake_count c x).trans s.gfRead_count
  unfold execGuidanceRecord
  rw [hcarry]
  dsimp only
  rw [if_neg (by rw [hon]; decide), hcfg]
  dsimp only
  refine ⟨_, rfl, ?_⟩
  split
  · next hok =>
    obtain ⟨hsolved, hclean⟩ := hok
    rw [if_neg (by rw [hsolved, hclean]; decide), ← hcount]
    exact State.guideRecord_shows _ _ _ _ _ _
  · next hbad =>
    rw [if_pos]
    · exact ⟨rfl, hcount _⟩
    · simpa [imp_iff_not_or] using hbad

/-- Settles O23: each descriptor's effect on the aids, which its completion leaves alone, and the record of a guidance epoch. -/
theorem aidAndGuidanceCommandsComplete : Obligations.AidAndGuidanceCommandsComplete := by
  refine ⟨fun s d hrun => ?_, fun s d hrun => ?_, fun s d hrun => ?_, fun s d pos y fr hrun haligned hmem hclean hframes hfr hsys => ?_,
    fun s d hrun haligned hmem hrejected => ?_, fun s d hrun haligned hmem => ?_, fun s d hrun hkind => ?_,
    fun s g dale c hcarry hon hcfg => ?_⟩
  · refine ⟨_, execAidtime_takes hrun, ?_⟩
    beta_reduce
    rw [State.complete_gns]
    exact s.takeTime_aids (d.le 24 8, d.le 32 8, d.le 40 4)
  · refine ⟨_, execAidpos_takes hrun, ?_⟩
    beta_reduce
    rw [State.complete_gns, State.takeVel_posAid, State.takePos_posAid, State.takeVel_velAid, (s.takePos_keeps _).1]
    exact ⟨rfl, rfl⟩
  · refine ⟨_, execSolution_takes hrun, ?_⟩
    beta_reduce
    rw [State.complete_gns, State.takeSolution_posAid, State.solutionPos_posAid]
    exact ⟨rfl, s.takeSolution_velAid⟩
  · obtain ⟨r, htakes⟩ := execAidorb_takes hrun haligned hmem
    refine ⟨_, htakes, ?_⟩
    beta_reduce
    rw [State.complete_gns, State.gnsAidRegs_gns]
    exact State.orbitsTaken_ephs hclean hframes hfr hsys
  · obtain ⟨r, htakes⟩ := execAidorb_takes hrun haligned hmem
    refine ⟨_, htakes, ?_⟩
    beta_reduce
    rw [State.complete_gns, State.gnsAidRegs_gns, State.complete_gns_rd _ _ _ _ rfl, (State.SetsRegs.gnsAidRegs _).rd _ (by decide),
      State.orbitsTaken_rejects hrejected]
    split
    · next hpoisoned => exact ⟨congrArg Gnss.ephs s.gnsPoison_gns, fun _ => s.gnsPoison_counts⟩
    · next hclean => exact ⟨rfl, fun hpoisoned => absurd hpoisoned hclean⟩
  · refine ⟨_, execOrbread_reads hrun haligned hmem, ?_⟩
    unfold State.orbitsRead
    dsimp only
    split
    · rfl
    · split <;> rfl
  · refine ⟨_, execGnssRestart_restarts hrun hkind, ?_⟩
    obtain ⟨⟨hstart, hfirst, hat⟩, hfix, hephs, htime, hpos, hvel⟩ := s.gnsRestarted_forgets hkind
    rw [State.complete_gns, State.complete_gns_rd _ _ _ _ rfl]
    exact ⟨hstart, hfirst, hat, hfix, hephs, htime, hpos, hvel⟩
  · exact execGuidanceRecord_records hcarry hon hcfg

end Sys2Proof.Machine
end

section
/-! SUPPORT. What Trellis hands on (R265, R271): ring entries, records, valve channels and load switches leave Trellis and block TRL alone. -/

namespace Sys2Proof.Machine

/-! ### Wide counters -/

theorem State.wideGet_congr {s t : State} (h : t.wide = s.wide) (k : Nat) : t.wideGet k = s.wideGet k := by
  unfold State.wideGet
  rw [h]

/-- A wide counter reads what it was advanced to. -/
theorem State.wideGet_wideAdd_same (s : State) (key n : Nat) : (s.wideAdd key n).wideGet key = satAdd 64 (s.wideGet key) n :=
  SMap.get_set_same _ _ _ _

/-- Advancing a wide counter leaves every other one alone. -/
theorem State.wideGet_wideAdd_other (s : State) {key k : Nat} (n : Nat) (h : k ≠ key) : (s.wideAdd key n).wideGet k = s.wideGet k :=
  SMap.get_set_other _ _ _ h

theorem State.entryOut_wide (s : State) (q a : Nat) (b : Bytes) : (s.entryOut q a b).wide = s.wide := by
  unfold State.entryOut
  split
  · exact s.store_wide a b false
  · dsimp only
    split <;> rfl

theorem State.setRing_wide (s : State) (q : Nat) (r : Ring) : (s.setRing q r).wide = s.wide := rfl
theorem State.advance_wide (s : State) (q : Nat) : (s.advance q).wide = s.wide := by rw [s.advance_eq q]
theorem State.fullBit_wide (s : State) (q : Nat) : (s.fullBit q).wide = s.wide := rfl

theorem State.ringPending_wide (s : State) (q : Nat) : (s.ringPending q).wide = s.wide := by
  unfold State.ringPending
  dsimp only
  split <;> rfl

/-- An entry on time counts in no wide counter. -/
theorem State.writeEntry_wide (s : State) (q op status estat : Nat) (poison : Bool) (tag sq sqidx lateness : Nat) (result : Bytes) :
    (s.writeEntry q op status estat false false poison tag sq sqidx lateness result).wide = s.wide := by
  unfold State.writeEntry
  extract_lets r flags t u
  have hu : u.wide = t.wide := ((State.fullBit_wide _ q).trans (State.advance_wide _ q)).trans (t.setRing_wide q _)
  rw [if_neg (by decide)]
  exact hu.trans (s.entryOut_wide q _ _)

/-- A ring entry, written or dropped, counts in the wide counters of block RNG alone. -/
theorem State.looseEntry_wideGet (s : State) (q op tag status estat : Nat) (poison : Bool) (result : Bytes) (ip : Bool) {k : Nat}
    (h : k / 0x1000 ≠ 6) : (s.looseEntry q op tag status estat poison result ip).1.wideGet k = s.wideGet k := by
  have hwrite := s.writeEntry_wide q op status estat poison tag 0x7F 0 0 result
  have hlost : k ≠ Reg.RNG_OVFCNT_LO := fun e => h (e ▸ rfl)
  unfold State.looseEntry
  split
  · dsimp only
    split
    · exact State.wideGet_congr ((State.ringPending_wide _ q).trans hwrite) k
    · exact State.wideGet_congr hwrite k
  · exact (State.wideGet_congr (State.setRing_wide _ q _) k).trans (s.wideGet_wideAdd_other 1 hlost)

/-! ### What is left alone of Trellis -/

/-- Ring entries and records leave the loops alone. -/
theorem State.EntersTo.trl {s t : State} (h : s.EntersTo t) : t.trl = s.trl := (congrArg State.trl h.eq).trans rfl

theorem State.EntersTo.resp {s t : State} (h : s.EntersTo t) : t.resp = s.resp := (congrArg State.resp h.eq).trans rfl

/-- `t` differs from `s`, in the response, in Trellis and in block TRL, at most in the registers `S`. -/
structure State.SparesTrellis (S : Set Nat) (s t : State) : Prop where
  resp : t.resp = s.resp
  trl : t.trl = s.trl
  reg : ∀ k, k / 0x1000 = 9 → k ∉ S → t.reg k = s.reg k
  wide : ∀ k, k / 0x1000 = 9 → t.wideGet k = s.wideGet k

namespace State.SparesTrellis

variable {S : Set Nat} {s t u : State}

theorem refl (s : State) : SparesTrellis S s s := ⟨rfl, rfl, fun _ _ _ => rfl, fun _ _ => rfl⟩

theorem trans (h : SparesTrellis S s t) (h' : SparesTrellis S t u) : SparesTrellis S s u :=
  ⟨h'.resp.trans h.resp, h'.trl.trans h.trl, fun k hk hS => (h'.reg k hk hS).trans (h.reg k hk hS), fun k hk => (h'.wide k hk).trans (h.wide k hk)⟩

theorem rd (h : SparesTrellis S s t) {f : Fld} (hf : f.addr / 0x1000 = 9) (hS : f.addr ∉ S) : t.rd f = s.rd f :=
  State.rd_congr (h.reg _ hf hS)

/-- A loop keeps what each of its rounds keeps. -/
theorem foldl {α : Type} (f : State → α → State) (h : ∀ (x : State) a, SparesTrellis S x (f x a)) (l : List α) (s : State) :
    SparesTrellis S s (l.foldl f s) :=
  List.foldlRecOn (motive := fun x : State => SparesTrellis S s x) _ _ (refl s) fun x hx a _ => hx.trans (h x a)

/-- What a branch keeps, both its ends keep. -/
theorem ite (c : Prop) [Decidable c] (h : c → SparesTrellis S s t) (h' : ¬ c → SparesTrellis S s u) :
    SparesTrellis S s (if c then t else u) := by
  split
  · exact h ‹_›
  · exact h' ‹_›

theorem wrTrl (s : State) {f : Fld} (v : Nat) (h : f.addr ∈ S) : SparesTrellis S s (s.wr f v) :=
  ⟨rfl, rfl, fun _ _ hS => s.reg_wr_other v fun e => hS (e ▸ h), fun _ _ => rfl⟩

theorem wr (s : State) {f : Fld} (v : Nat) (h : f.addr / 0x1000 ≠ 9) : SparesTrellis S s (s.wr f v) :=
  ⟨rfl, rfl, fun _ hk _ => s.reg_wr_other v fun e => h (e ▸ hk), fun _ _ => rfl⟩

theorem tickFree (s : State) : SparesTrellis S s s.tickFree := ⟨rfl, rfl, fun _ _ _ => rfl, fun _ _ => rfl⟩

theorem notify (s : State) (stat ie : Fld) : SparesTrellis S s (s.notify stat ie) := by
  unfold State.notify
  split <;> exact ⟨rfl, rfl, fun _ _ _ => rfl, fun _ _ => rfl⟩

theorem flag (s : State) {stat : Fld} (ie : Fld) (h : stat.addr / 0x1000 ≠ 9) : SparesTrellis S s (s.flag stat ie) :=
  (wr s 1 h).trans (notify _ stat ie)

/-- A status bit of block TRL set, with its interrupt. -/
theorem flagTrl (s : State) {stat : Fld} (ie : Fld) (h : stat.addr ∈ S) : SparesTrellis S s (s.flag stat ie) :=
  (wrTrl s 1 h).trans (notify _ stat ie)

theorem record (s : State) (src ev sev p0 p1 p2 : Nat) : SparesTrellis S s (s.record src ev sev p0 p1 p2) :=
  have h := State.RecordsTo.record s src ev sev p0 p1 p2
  ⟨(State.EntersTo.of_recordsTo h).resp, (State.EntersTo.of_recordsTo h).trl, fun k hk _ => h.2 k (by omega), fun k _ => State.wideGet_congr h.wide k⟩

theorem looseEntry (s : State) (q op tag status estat : Nat) (poison : Bool) (result : Bytes) (ip : Bool) :
    SparesTrellis S s (s.looseEntry q op tag status estat poison result ip).1 :=
  have h := State.EntersTo.looseEntry s q op tag status estat poison result ip
  ⟨h.resp, h.trl, fun k hk _ => h.reg k (by unfold entryBlock; omega), fun _ hk => s.looseEntry_wideGet _ _ _ _ _ _ _ _ (by omega)⟩

theorem eventEntry (s : State) (q op tag estat : Nat) (result : Bytes) (ip : Bool) :
    SparesTrellis S s (s.eventEntry q op tag estat result ip).1 := looseEntry s q op tag 0 estat false result ip

/-- A write of bytes, with what the mirror regions write a second time. -/
theorem put (s : State) (a : Nat) (b : Bytes) : SparesTrellis S s (s.put a b) :=
  have h := State.EntersTo.put s a b
  ⟨h.resp, h.trl, fun k hk _ => h.reg k (by unfold entryBlock; omega), fun k _ => State.wideGet_congr (s.store_wide a b false) k⟩

/-! ### Valve channels (R310-R324) -/

/-- The valve banks lie in a part of the state of their own. -/
theorem withVlv (s : State) (v : Valves) : SparesTrellis S s { s with vlv := v } := ⟨rfl, rfl, fun _ _ _ => rfl, fun _ _ => rfl⟩

theorem setValve (s : State) (n : Nat) (x : Valve) : SparesTrellis S s (s.setValve n x) := withVlv s _

theorem vSet (s : State) (n b : Nat) (v : Bool) : SparesTrellis S s (s.vSet n b v) :=
  wr s _ (by change Reg.VLV_CHn_STAT n / 0x1000 ≠ 9; unfold Reg.VLV_CHn_STAT; omega)

theorem bankRegs (s : State) (b : Nat) : SparesTrellis S s (s.bankRegs b) := by
  have hbank (x : State) {f : Fld} (v : Nat) (h : f.addr = Reg.VLV_BANKk_STAT b) : SparesTrellis S x (x.wr f v) :=
    wr x v (by rw [h]; unfold Reg.VLV_BANKk_STAT; omega)
  exact ((((hbank s _ rfl).trans (hbank _ _ rfl)).trans (hbank _ _ rfl)).trans (hbank _ _ rfl)).trans (hbank _ _ rfl)

theorem vlvEvent (s : State) (tag subject sev : Nat) (detail : Option Nat) : SparesTrellis S s (s.vlvEvent tag subject sev detail) := by
  have hentry : SparesTrellis S s (s.vlvEntry tag subject detail) := by
    unfold State.vlvEntry
    extract_lets r t
    have ht : SparesTrellis S s t := (eventEntry s _ _ _ _ _ _).trans (eventEntry _ _ _ _ _ _ _)
    exact ite _ (fun _ => ht.trans (tickFree t)) fun _ => ht
  exact hentry.trans (record _ _ _ _ _ _ _)

theorem actuate (s : State) (n : Nat) : SparesTrellis S s (s.actuate n) := by
  unfold State.actuate
  extract_lets _ t
  have ht : SparesTrellis S s t := withVlv s _
  exact ite _ (fun _ => refl s) fun _ =>
    ite _ (fun _ => ((ht.trans (vSet t _ _ _)).trans (flag _ _ (by decide))).trans (vlvEvent _ _ _ _ _)) fun _ => ht

theorem valveStart (s : State) (n : Nat) : SparesTrellis S s (s.valveStart n) := by
  unfold State.valveStart
  extract_lets x sp t w y u
  have ht : SparesTrellis S s t := (vSet s _ _ _).trans (vSet _ _ _ _)
  have hu : SparesTrellis S s u := (((vSet s _ _ _).trans (vSet _ _ _ _)).trans (vSet _ _ _ _)).trans (vSet _ _ _ _)
  exact ite _ (fun _ => ((ht.trans (setValve t _ _)).trans (actuate _ n)).trans (bankRegs _ _)) fun _ =>
    ((hu.trans (setValve u _ _)).trans (actuate _ n)).trans (bankRegs _ _)

theorem undefer (s : State) (n : Nat) : SparesTrellis S s (s.undefer n) := ((vSet s _ _ _).trans (bankRegs _ _)).trans (withVlv _ _)

theorem grantPeak (s : State) (b : Nat) : SparesTrellis S s (s.grantPeak b) := by
  unfold State.grantPeak
  split
  · next n _ =>
    exact ite _ (fun _ => ((undefer s n).trans (valveStart _ n)).trans (setValve _ _ _)) fun _ => refl s
  · exact refl s

theorem valveOff (s : State) (n : Nat) : SparesTrellis S s (s.valveOff n) := by
  have hstop : SparesTrellis S s (s.valveStop n) := by
    unfold State.valveStop
    extract_lets t u
    have ht : SparesTrellis S s t := ite _ (fun _ => undefer s n) fun _ => refl s
    have hu : SparesTrellis S s u := (((ht.trans (vSet t _ _ _)).trans (vSet _ _ _ _)).trans (vSet _ _ _ _)).trans (vSet _ _ _ _)
    exact (hu.trans (setValve u _ _)).trans (bankRegs _ _)
  exact hstop.trans (grantPeak _ _)

theorem valveFollow (s : State) (n : Nat) : SparesTrellis S s (s.valveFollow n).1 := by
  unfold State.valveFollow
  split
  · exact valveOff s n
  · split
    · exact refl s
    · split
      · split
        · exact (vSet s _ _ _).trans (setValve _ _ _)
        · exact refl s
      · split
        · exact wr s _ (by decide)
        · split
          · exact valveStart s n
          · split
            · exact valveStart s n
            · exact (((vSet s _ _ _).trans (wr _ _ (by decide))).trans (withVlv _ _)).trans (bankRegs _ _)

/-- A value handed to a valve channel, taken or refused. -/
theorem valveValue (s : State) (n : Nat) (amps : Frac) : SparesTrellis S s (s.valveValue n amps).1 := by
  have hcommand (on : Bool) (ma : Frac) : SparesTrellis S s (s.valveCommand n on ma).1 := by
    unfold State.valveCommand
    extract_lets x old r
    have hr : SparesTrellis S s r.1 := ((setValve s n _).trans (vSet _ _ _ _)).trans (valveFollow _ n)
    split
    · exact hr
    · exact (hr.trans (setValve r.1 n _)).trans (vSet _ _ _ _)
  unfold State.valveValue
  split
  · exact refl s
  · exact hcommand true _

/-! ### Load switches (R333-R336) -/

/-- The load switches lie in a part of the state of their own. -/
theorem setSw (s : State) (n : Nat) (x : Switch) : SparesTrellis S s (s.setSw n x) := ⟨rfl, rfl, fun _ _ _ => rfl, fun _ _ => rfl⟩

theorem lSet (s : State) (n b : Nat) (v : Bool) : SparesTrellis S s (s.lSet n b v) :=
  wr s _ (by change Reg.LSW_CHn_STAT n / 0x1000 ≠ 9; unfold Reg.LSW_CHn_STAT; omega)

theorem budReg (s : State) (g : Nat) : SparesTrellis S s (s.budReg g) :=
  wr s _ (by change Reg.LSW_GRPg_STAT g / 0x1000 ≠ 9; unfold Reg.LSW_GRPg_STAT; omega)

theorem olMap (s : State) (n : Nat) : SparesTrellis S s (s.olMap n) :=
  wr s (f := ⟨Reg.LSW_OLMAP_LO + 4 * (n / 32 % 4), n % 32, n % 32⟩) _
    (by change (Reg.LSW_OLMAP_LO + 4 * (n / 32 % 4)) / 0x1000 ≠ 9; unfold Reg.LSW_OLMAP_LO; omega)

theorem lswStart (s : State) (n : Nat) : SparesTrellis S s (s.lswStart n) := by
  unfold State.lswStart
  extract_lets t x
  have ht : SparesTrellis S s t := (((lSet s _ _ _).trans (lSet _ _ _ _)).trans (lSet _ _ _ _)).trans (olMap _ n)
  exact (ht.trans (setSw t _ _)).trans (budReg _ _)

theorem lswStop (s : State) (n : Nat) : SparesTrellis S s (s.lswStop n) := by
  unfold State.lswStop
  extract_lets t
  have ht : SparesTrellis S s t := ((lSet s _ _ _).trans (lSet _ _ _ _)).trans (lSet _ _ _ _)
  exact ite _ (fun _ => (ht.trans (setSw t _ _)).trans (budReg _ _)) fun _ => lSet s _ _ _

theorem admitHeld (s : State) (g : Nat) : SparesTrellis S s (s.admitHeld g) :=
  ite _ (fun _ => refl s) fun _ => foldl _ (fun x c => ite _ (fun _ => lswStart x c) fun _ => refl x) _ s

theorem lswFollow (s : State) (n : Nat) : SparesTrellis S s (s.lswFollow n) := by
  unfold State.lswFollow
  extract_lets t
  have ht : SparesTrellis S s t := lSet s _ _ _
  refine ht.trans (ite _ (fun _ => ?_) fun _ => ite _ (fun _ => refl t) fun _ => ite _ (fun _ => admitHeld t _) fun _ =>
    ite _ (fun _ => lswStart t n) fun _ => (lSet t _ _ _).trans (wr _ _ (by decide)))
  exact ite _ (fun _ => (lswStop t n).trans (admitHeld _ _)) fun _ => lswStop t n

/-- A duty handed to a load switch, taken or refused. -/
theorem lswValue (s : State) (n : Nat) (u : Frac) : SparesTrellis S s (s.lswValue n u).1 := by
  unfold State.lswValue
  split
  · exact wr s _ (by decide)
  · exact ((setSw s n _).trans (lSet _ _ _ _)).trans (lswFollow _ n)

end State.SparesTrellis

end Sys2Proof.Machine
end

section
/-! SUPPORT. The loops of Trellis (R255-R265, R271): their registers, their events, installing a record, stopping a loop and writing
TRL_Ln_CTL. -/

namespace Sys2Proof.Machine

/-! ### Loops and their registers -/

/-- A loop reads as it was set. -/
@[simp] theorem State.loop_setLoop_same (s : State) (n : Nat) (l : Loop) : (s.setLoop n l).loop n = l := SMap.get_set_same _ _ _ _

/-- Setting a loop leaves every other one alone. -/
theorem State.loop_setLoop_other (s : State) {n m : Nat} (l : Loop) (h : m ≠ n) : (s.setLoop n l).loop m = s.loop m :=
  SMap.get_set_other _ _ _ h

theorem State.loop_congr {s t : State} (h : t.trl = s.trl) (n : Nat) : t.loop n = s.loop n := by
  unfold State.loop
  rw [h]

theorem State.mapBit_loop (s : State) (base q : Nat) (b : Bool) (n : Nat) : (s.mapBit base q b).loop n = s.loop n := rfl

theorem State.mapBit_mem (s : State) (base q : Nat) (b : Bool) : (s.mapBit base q b).mem = s.mem := rfl
theorem State.mapBit_resp (s : State) (base q : Nat) (b : Bool) : (s.mapBit base q b).resp = s.resp := rfl

theorem Reg.loopCtl_block (n : Nat) : Reg.TRL_Ln_CTL n / 0x1000 = 9 := by unfold Reg.TRL_Ln_CTL; omega
theorem Reg.loopStat_block (n : Nat) : Reg.TRL_Ln_STAT n / 0x1000 = 9 := by unfold Reg.TRL_Ln_STAT; omega

/-- The registers of the loops lie above those of the whole engine, its maps among them. -/
theorem Reg.loopCtl_above (n : Nat) : 0x9800 ≤ Reg.TRL_Ln_CTL n := Nat.le_add_right _ _
theorem Reg.loopStat_above (n : Nat) : 0x9800 ≤ Reg.TRL_Ln_STAT n := by unfold Reg.TRL_Ln_STAT; omega
theorem Reg.loopCtl_ne_stat (n m : Nat) : Reg.TRL_Ln_CTL n ≠ Reg.TRL_Ln_STAT m := by unfold Reg.TRL_Ln_CTL Reg.TRL_Ln_STAT; omega

/-- The fields of TRL_Ln_STAT beside STATE keep it as it is. -/
theorem State.loopState_wr_beside (s : State) {n : Nat} {f : Fld} (v : Nat) (h : f.hi < 29) : (s.wr f v).loopState n = s.loopState n :=
  s.rd_wr_beside v (by omega) (by decide : 31 < 32) (.inl h)

/-- A bitmap of Trellis lies below the registers of the loops. -/
theorem State.trlBit_rd (s : State) {base : Nat} (n : Nat) (b : Bool) {f : Fld} (hbase : base < 0x9100) (h : 0x9800 ≤ f.addr) :
    (s.mapBit base n b).rd f = s.rd f := s.mapBit_rd_above n b (by omega)

/-- A bit of TRL_ENMAP reads the same where the two registers do. -/
theorem State.enMap_congr {s t : State} {n : Nat} (hn : n < 64) (h : ∀ k, 0x9028 ≤ k → k < 0x9030 → t.reg k = s.reg k) :
    t.mapOn Reg.TRL_ENMAP_LO n = s.mapOn Reg.TRL_ENMAP_LO n := by
  refine State.on_congr (State.rd_congr (h _ ?_ ?_))
  · exact Nat.le_add_right _ _
  · change Reg.TRL_ENMAP_LO + 4 * (n / 32 % 4) < 0x9030
    unfold Reg.TRL_ENMAP_LO
    omega

/-- A bit of a bitmap set is set. -/
theorem State.mapOn_mapBit_true (s : State) (base q : Nat) : (s.mapBit base q true).mapOn base q = true :=
  s.on_wr_one (Nat.mod_lt q (by decide) : q % 32 < 32) rfl

/-! ### Events (R271) -/

/-- The registers of TRL_ALMMAP, and the two that follow them in the index of a bitmap. -/
def almMapRegs : Set Nat := Set.Ico 0x9030 0x9040

/-- The registers beside TRL_STAT in which Trellis shows the state of loop `n`: the maps, the counters and TRL_Ln_STAT. -/
def loopShownRegs (n : Nat) : Set Nat := {k | (0x9028 ≤ k ∧ k < 0x9074) ∨ k = Reg.TRL_Ln_STAT n}

theorem almMapRegs_subset (n : Nat) : almMapRegs ⊆ loopShownRegs n := fun k hk => by
  obtain ⟨hlo, hhi⟩ := hk
  exact .inl ⟨by omega, by omega⟩

namespace State.SparesTrellis

variable {S : Set Nat} {s t : State}

theorem loop (h : SparesTrellis S s t) (n : Nat) : t.loop n = s.loop n := State.loop_congr h.trl n

/-- A bit of one of Trellis's bitmaps. -/
theorem mapBit (s : State) {base : Nat} (n : Nat) (b : Bool) (h : ∀ i, i < 4 → base + 4 * i ∈ S) : SparesTrellis S s (s.mapBit base n b) :=
  wrTrl s (f := ⟨base + 4 * (n / 32 % 4), n % 32, n % 32⟩) _ (h _ (Nat.mod_lt _ (by decide)))

theorem mono {T : Set Nat} (h : SparesTrellis S s t) (hST : S ⊆ T) : SparesTrellis T s t :=
  ⟨h.resp, h.trl, fun k hk hT => h.reg k hk fun hS => hT (hST hS), h.wide⟩

theorem reparity (s : State) (key : Nat) : SparesTrellis S s (s.reparity key) := ⟨rfl, rfl, fun _ _ _ => rfl, fun _ _ => rfl⟩

theorem trlTell (s : State) (tag n w : Nat) (rec : Option Nat) (h : almMapRegs ⊆ S) : SparesTrellis S s (s.trlTell tag n w rec) := by
  unfold State.trlTell
  extract_lets r t u
  have ht : SparesTrellis S s t := (eventEntry s _ _ _ _ _ _).trans (eventEntry _ _ _ _ _ _ _)
  have hmap : ∀ i, i < 4 → Reg.TRL_ALMMAP_LO + 4 * i ∈ S := fun i hi =>
    h ⟨Nat.le_add_right _ _, by unfold Reg.TRL_ALMMAP_LO; omega⟩
  have hu : SparesTrellis S s u := ht.trans (mapBit t n true hmap)
  split
  · exact hu.trans (record u _ _ _ _ _ _)
  · exact hu

theorem trlEvent (s : State) (tag n : Nat) (rec : Option Nat) (h : almMapRegs ⊆ S) : SparesTrellis S s (s.trlEvent tag n rec) :=
  (trlTell s tag n _ rec h).trans (tickFree _)

/-- The state of a loop set shows in its TRL_Ln_STAT, in TRL_TRIPMAP and in the counter of changes. -/
theorem setLoopState (s : State) (n st : Nat) : SparesTrellis (loopShownRegs n) s (s.setLoopState n st) := by
  unfold State.setLoopState
  extract_lets t
  have ht : SparesTrellis (loopShownRegs n) s t :=
    ite _ (fun _ => refl s) fun _ => wrTrl s _ (.inl (by decide : 0x9028 ≤ Reg.TRL_SWCNT ∧ Reg.TRL_SWCNT < 0x9074))
  refine (ht.trans (wrTrl t _ (.inr rfl))).trans (mapBit _ n _ fun i hi => .inl ?_)
  unfold Reg.TRL_TRIPMAP_LO
  omega

end State.SparesTrellis

/-- The state of a loop reads as it was set. -/
theorem State.setLoopState_shows (s : State) (n : Nat) {st : Nat} (h : st < 8) : (s.setLoopState n st).loopState n = st :=
  (State.trlBit_rd _ n _ (by decide) (Reg.loopStat_above n)).trans (State.rd_wr_fits _ (by decide : 31 < 32) h)

/-! ### Records installed and loops stopped (R256, R262, R265) -/

/-- A record installed shows in TRL_Ln_STAT.PARVALID. -/
theorem State.installLoop_reg (s : State) (n : Nat) (raw : Bytes) {k : Nat} (h : k ≠ Reg.TRL_Ln_STAT n) :
    (s.installLoop n raw).reg k = s.reg k := State.reg_wr_other _ _ h

theorem State.installLoop_loopState (s : State) (n : Nat) (raw : Bytes) : (s.installLoop n raw).loopState n = s.loopState n :=
  State.loopState_wr_beside _ _ (by decide : 28 < 29)

theorem Loop.install_since (l : Loop) (raw : Bytes) (us : Nat) : (l.install raw us).since = l.since := rfl
theorem Loop.install_raw (l : Loop) (raw : Bytes) (us : Nat) : (l.install raw us).raw = raw := rfl

theorem State.installLoop_shows (s : State) (n : Nat) (raw : Bytes) :
    (s.installLoop n raw).loop n = (s.loop n).install raw (s.rd (F.TRL_Ln_CTL_PERIOD n)) ∧
      (∀ f, f.addr = Reg.TRL_Ln_CTL n → (s.installLoop n raw).rd f = s.rd f) ∧ (s.installLoop n raw).mem = s.mem ∧
      (s.installLoop n raw).resp = s.resp :=
  ⟨State.loop_setLoop_same s n _, fun _ hf => State.rd_congr (s.installLoop_reg n raw (hf ▸ Reg.loopCtl_ne_stat n n)), rfl, rfl⟩

/-- An output handed to its destination touches no register of block TRL and leaves the response. -/
theorem State.applyOut_keeps (s : State) (w : Nat) (u : Frac) :
    (s.applyOut w u).1.resp = s.resp ∧ ∀ k, k / 0x1000 = 9 → (s.applyOut w u).1.reg k = s.reg k := by
  have hspares {t : State} (h : State.SparesTrellis ∅ s t) : t.resp = s.resp ∧ ∀ k, k / 0x1000 = 9 → t.reg k = s.reg k :=
    ⟨h.resp, fun k hk => h.reg k hk (Set.notMem_empty k)⟩
  unfold State.applyOut
  split
  · exact hspares (.valveValue s _ u)
  · exact hspares (.lswValue s _ u)
  · unfold State.outerOutput
    dsimp only
    split <;> exact ⟨rfl, fun _ _ => rfl⟩
  · exact ⟨rfl, fun _ _ => rfl⟩

/-- A loop taken out of TRL_ENMAP and TRL_HOLDMAP keeps its state. -/
theorem State.leavesMaps_shows (s : State) (n : Nat) {t : State}
    (ht : t = ((s.mapBit Reg.TRL_ENMAP_LO n false).mapBit Reg.TRL_HOLDMAP_LO n false).reparity (Reg.TRL_Ln_CTL n)) :
    t.loopState n = s.loopState n ∧ (n < 64 → t.mapOn Reg.TRL_ENMAP_LO n = false) ∧ State.SparesTrellis (loopShownRegs n) s t := by
  have hstate (x : State) {base : Nat} (hbase : base < 0x9100) : (x.mapBit base n false).loopState n = x.loopState n :=
    x.trlBit_rd (f := F.TRL_Ln_STAT_STATE n) n false hbase (Reg.loopStat_above n)
  have hen : State.SparesTrellis (loopShownRegs n) s (s.mapBit Reg.TRL_ENMAP_LO n false) :=
    .mapBit s n false fun i _ => .inl (by unfold Reg.TRL_ENMAP_LO; omega)
  have hclear : (s.mapBit Reg.TRL_ENMAP_LO n false).mapOn Reg.TRL_ENMAP_LO n = false := s.mapOn_mapBit_false _ n
  have hstate1 := hstate s (by decide : Reg.TRL_ENMAP_LO < 0x9100)
  generalize s.mapBit Reg.TRL_ENMAP_LO n false = u at ht hen hclear hstate1
  have hhold : State.SparesTrellis (Set.Ico 0x9030 0x9074) u (u.mapBit Reg.TRL_HOLDMAP_LO n false) :=
    .mapBit u n false fun i _ => ⟨by unfold Reg.TRL_HOLDMAP_LO; omega, by unfold Reg.TRL_HOLDMAP_LO; omega⟩
  have hstate2 := hstate u (by decide : Reg.TRL_HOLDMAP_LO < 0x9100)
  generalize u.mapBit Reg.TRL_HOLDMAP_LO n false = v at ht hhold hstate2
  have hparity {S : Set Nat} : State.SparesTrellis S v t := ht ▸ .reparity v _
  refine ⟨?_, fun hn => ?_, (hen.trans (hhold.mono fun k hk => .inl ⟨by have := hk.1; omega, hk.2⟩)).trans hparity⟩
  · exact (State.rd_congr (hparity.reg _ (Reg.loopStat_block n) (Set.notMem_empty _))).trans (hstate2.trans hstate1)
  · refine (State.enMap_congr hn fun k hlo hhi => ?_).trans hclear
    exact (hparity.reg k (by omega) (Set.notMem_empty k)).trans (hhold.reg k (by omega) fun hin => absurd hin.1 (by omega))

/-- A loop that stops is OFF and out of TRL_ENMAP; beside that it changes no register of block TRL but those that show its state, and leaves
the response. -/
theorem State.loopStop_shows (s : State) (n : Nat) :
    (s.loopStop n).loopState n = 0 ∧ (n < 64 → (s.loopStop n).mapOn Reg.TRL_ENMAP_LO n = false) ∧ (s.loopStop n).resp = s.resp ∧
      ∀ k, k / 0x1000 = 9 → k ∉ loopShownRegs n → (s.loopStop n).reg k = s.reg k := by
  unfold State.loopStop
  extract_lets l t1 t2 a t3
  have hoff1 : t1.loopState n = 0 := State.setLoopState_shows _ n (by decide)
  have h1 : State.SparesTrellis (loopShownRegs n) (s.setLoop n { l with ulast := l.safeval, sphold := false }) t1 := .setLoopState _ n 0
  obtain ⟨hstate2, hen2, h2⟩ := t1.leavesMaps_shows n (t := t2) rfl
  have hoff2 : t2.loopState n = 0 := hstate2.trans hoff1
  have h3 : t3.resp = t2.resp ∧ ∀ k, k / 0x1000 = 9 → k ∉ almMapRegs → t3.reg k = t2.reg k := by
    obtain ⟨hresp, hreg⟩ := t2.applyOut_keeps l.outdst l.safeval
    have htold : State.SparesTrellis almMapRegs a.1 (a.1.trlEvent 9 n none) := .trlEvent a.1 9 n none subset_rfl
    unfold t3
    split
    · exact ⟨hresp, fun k hk _ => hreg k hk⟩
    · exact ⟨htold.resp.trans hresp, fun k hk halm => (htold.reg k hk halm).trans (hreg k hk)⟩
  have hkept : t2.resp = s.resp ∧ ∀ k, k / 0x1000 = 9 → k ∉ loopShownRegs n → t2.reg k = s.reg k :=
    ⟨h2.resp.trans h1.resp, fun k hk hS => (h2.reg k hk hS).trans (h1.reg k hk hS)⟩
  clear_value l t1 t2 a t3
  obtain ⟨hresp3, hreg3⟩ := h3
  obtain ⟨hresp2, hreg2⟩ := hkept
  have hstat : Reg.TRL_Ln_STAT n ∉ almMapRegs := fun h => absurd h.2 (by have := Reg.loopStat_above n; omega)
  have hoff3 : t3.loopState n = 0 := (State.rd_congr (hreg3 _ (Reg.loopStat_block n) hstat)).trans hoff2
  have hen3 (hn : n < 64) : t3.mapOn Reg.TRL_ENMAP_LO n = false :=
    (State.enMap_congr hn fun k hlo hhi => hreg3 k (by omega) fun h => absurd h.1 (by omega)).trans (hen2 hn)
  have hsub : ∀ k, k ∉ loopShownRegs n → k ∉ almMapRegs := fun k hS halm => hS (almMapRegs_subset n halm)
  split
  · next raw _ =>
    refine ⟨(t3.installLoop_loopState n raw).trans hoff3, fun hn => ?_, hresp3.trans hresp2, fun k hk hS => ?_⟩
    · refine (State.enMap_congr hn fun k _ hk => t3.installLoop_reg n raw ?_).trans (hen3 hn)
      have := Reg.loopStat_above n
      omega
    · exact (t3.installLoop_reg n raw fun e => hS (.inr e)).trans ((hreg3 k hk (hsub k hS)).trans (hreg2 k hk hS))
  · exact ⟨hoff3, hen3, hresp3.trans hresp2, fun k hk hS => (hreg3 k hk (hsub k hS)).trans (hreg2 k hk hS)⟩

/-- A register of block TRL that does not show the states of loops keeps its fields when a loop stops. -/
theorem State.loopStop_rd (s : State) (n : Nat) {f : Fld} (hblock : f.addr / 0x1000 = 9) (hstat : f.addr ≠ Reg.TRL_Ln_STAT n)
    (h : f.addr < 0x9028 ∨ 0x9074 ≤ f.addr) : (s.loopStop n).rd f = s.rd f := by
  obtain ⟨-, -, -, hreg⟩ := s.loopStop_shows n
  refine State.rd_congr (hreg _ hblock fun hS => ?_)
  rcases hS with ⟨hlo, hhi⟩ | hS
  · omega
  · exact hstat hS

theorem State.loopStop_loopOn (s : State) (n : Nat) : (s.loopStop n).loopOn n = s.loopOn n :=
  State.on_congr (s.loopStop_rd n (Reg.loopCtl_block n) (Reg.loopCtl_ne_stat n n) (.inr (by have := Reg.loopCtl_above n; change 0x9074 ≤ Reg.TRL_Ln_CTL n; omega)))

end Sys2Proof.Machine
end

section
/-! SUPPORT. Writes of TRL_Ln_CTL (R261, R262, R272): enabling and disabling a loop and changing its mode. -/

namespace Sys2Proof.Machine

/-! ### The register -/

/-- The description of the TRL_Ln_CTL registers. -/
def loopCtlDesc : RegDesc :=
  ⟨0x800, [(0x20, 64)], [.mkAny .rwp 31 31 0x0, ⟨30, 28, .rwp, .rng 0 2, 0x0, none⟩, .mkAny .rwp 27 27 0x0, .mkAny .rwp 26 24 0x0,
    ⟨23, 20, .rwp, .rng 0 12, 0x0, none⟩, ⟨19, 0, .rwp, .rng 250 1000000, 0x2710, none⟩]⟩

theorem findReg_loopCtl (n : Nat) : findReg (Reg.TRL_Ln_CTL n / 0x1000) (Reg.TRL_Ln_CTL n % 0x1000) = some loopCtlDesc := by
  have h : ∀ i : Fin 64, findReg ((0x9800 + 0x20 * i.val) / 0x1000) ((0x9800 + 0x20 * i.val) % 0x1000) = some loopCtlDesc := by decide
  exact h ⟨n % 64, Nat.mod_lt _ (by decide)⟩

theorem loopCtlDesc_fieldsApart : loopCtlDesc.fieldsApart := by
  unfold RegDesc.fieldsApart
  decide

/-- A write of TRL_Ln_CTL sets EN, MODE and PERIOD. -/
theorem State.applyWrite_loopCtl (s : State) (n : Nat) (v : W32) :
    (s.applyWrite (Reg.TRL_Ln_CTL n) v).rd (F.TRL_Ln_CTL_EN n) = getBits v 31 31 ∧
      (s.applyWrite (Reg.TRL_Ln_CTL n) v).rd (F.TRL_Ln_CTL_MODE n) = getBits v 30 28 ∧
      (s.applyWrite (Reg.TRL_Ln_CTL n) v).rd (F.TRL_Ln_CTL_PERIOD n) = getBits v 19 0 :=
  ⟨s.getBits_applyWrite (f := .mkAny .rwp 31 31 0x0) v (findReg_loopCtl n) loopCtlDesc_fieldsApart (by decide) rfl,
    s.getBits_applyWrite (f := ⟨30, 28, .rwp, .rng 0 2, 0x0, none⟩) v (findReg_loopCtl n) loopCtlDesc_fieldsApart (by decide) rfl,
    s.getBits_applyWrite (f := ⟨19, 0, .rwp, .rng 250 1000000, 0x2710, none⟩) v (findReg_loopCtl n) loopCtlDesc_fieldsApart (by decide) rfl⟩

@[simp] theorem State.applyWrite_trl (s : State) (key : Nat) (v : W32) : (s.applyWrite key v).trl = s.trl := by rw [s.applyWrite_eq key v]

theorem State.applyWrite_loop (s : State) (key : Nat) (v : W32) (n : Nat) : (s.applyWrite key v).loop n = s.loop n :=
  State.loop_congr (s.applyWrite_trl key v) n

/-- A field set leaves the bits of a mask that holds none of its bits. -/
theorem setBits_and_mask {hi lo : Nat} (h : hi < 32) (w m : W32) (v : Nat) (hm : ∀ i, lo ≤ i → i ≤ hi → m.toNat.testBit i = false) :
    setBits w hi lo v &&& m = w &&& m := by
  refine BitVec.eq_of_toNat_eq (Nat.eq_of_testBit_eq fun i => ?_)
  rw [BitVec.toNat_and, BitVec.toNat_and, Nat.testBit_and, Nat.testBit_and]
  by_cases hmi : m.toNat.testBit i = true
  · have hi32 : i < 32 := by
      by_contra hge
      rw [Nat.testBit_lt_two_pow (m.isLt.trans_le (Nat.pow_le_pow_right (by decide) (not_lt.mp hge)))] at hmi
      exact absurd hmi (by decide)
    rw [setBits_testBit h w v i hi32, if_neg fun hin => ?_]
    rw [hm i hin.1 hin.2] at hmi
    exact absurd hmi (by decide)
  · rw [Bool.not_eq_true] at hmi
    rw [hmi, Bool.and_false, Bool.and_false]

/-- EN and MODE lie outside the fields that stand while a loop is enabled. -/
theorem setBits_and_loopKept {hi lo : Nat} (h : hi < 32) (hlo : 28 ≤ lo) (w : W32) (v : Nat) :
    setBits w hi lo v &&& 0x0FFFFFFF = w &&& 0x0FFFFFFF :=
  setBits_and_mask h w _ v fun _ hi _ => Nat.testBit_lt_two_pow (lt_of_lt_of_le (by decide : _ < 2 ^ 28)
    (Nat.pow_le_pow_right (by decide) (hlo.trans hi)))

/-! ### Enabling (R261) -/

theorem State.levelsUp_done (s : State) (fuel n : Nat) : s.done.levelsUp fuel n = s.levelsUp fuel n := by
  induction fuel generalizing n with
  | zero => rfl
  | succ k ih =>
    unfold State.levelsUp
    rw [show s.done.outerOf n = s.outerOf n from rfl]
    cases s.outerOf n with
    | none => rfl
    | some o => exact congrArg (1 + ·) (ih o)

theorem State.levelsDown_done (s : State) (fuel w : Nat) : s.done.levelsDown fuel w = s.levelsDown fuel w := by
  induction fuel generalizing w with
  | zero => rfl
  | succ k ih =>
    unfold State.levelsDown
    rw [ih]
    rfl

/-- Why a loop may not be enabled stands in the registers, in Trellis and in the code. -/
theorem State.loopCause_done (s : State) (n : Nat) (v : W32) : s.done.loopCause n v = s.loopCause n v := by
  have hcasc (w per ph : Nat) : s.done.cascBad n w per ph = s.cascBad n w per ph := by
    unfold State.cascBad
    rw [s.levelsUp_done, s.levelsDown_done]
    rfl
  unfold State.loopCause
  dsimp only
  rw [hcasc]
  rfl

/-- A loop set up afresh with its record installed and its bit of TRL_ENMAP set: its TRL_Ln_CTL, memory and the response stay. -/
theorem State.loopSetUp_shows (s : State) (n : Nat) (l : Loop) (raw : Bytes) {t : State}
    (ht : t = ((s.setLoop n l).installLoop n raw).mapBit Reg.TRL_ENMAP_LO n true) :
    (∀ f, f.addr = Reg.TRL_Ln_CTL n → t.rd f = s.rd f) ∧ t.mapOn Reg.TRL_ENMAP_LO n = true ∧ (t.loop n).since = l.since ∧
      (t.loop n).raw = raw ∧ t.mem = s.mem ∧ t.resp = s.resp := by
  obtain ⟨hloop, hctl, hmem, hresp⟩ := (s.setLoop n l).installLoop_shows n raw
  rw [s.loop_setLoop_same n l] at hloop
  subst ht
  refine ⟨fun f hf => ?_, State.mapOn_mapBit_true _ _ n, ?_, ?_, (State.mapBit_mem _ _ n true).trans hmem,
    (State.mapBit_resp _ _ n true).trans hresp⟩
  · exact (State.trlBit_rd _ n true (by decide) (hf ▸ Reg.loopCtl_above n)).trans (hctl f hf)
  · rw [State.mapBit_loop, hloop, Loop.install_since]
  · rw [State.mapBit_loop, hloop, Loop.install_raw]

/-- A loop that starts has the TRL_Ln_CTL written, is in TRL_ENMAP, starts now and keeps its record; memory and the response stay. -/
theorem State.loopStart_shows (s : State) (n : Nat) (v : W32) :
    (s.loopStart n v).rd (F.TRL_Ln_CTL_EN n) = getBits v 31 31 ∧ (s.loopStart n v).rd (F.TRL_Ln_CTL_MODE n) = getBits v 30 28 ∧
      (s.loopStart n v).rd (F.TRL_Ln_CTL_PERIOD n) = getBits v 19 0 ∧ (s.loopStart n v).mapOn Reg.TRL_ENMAP_LO n = true ∧
      ((s.loopStart n v).loop n).since = s.now ∧ ((s.loopStart n v).loop n).raw = (s.loop n).raw ∧
      (s.loopStart n v).mem = s.mem ∧ (s.loopStart n v).resp = s.resp := by
  obtain ⟨hen, hmode, hperiod⟩ := s.applyWrite_loopCtl n v
  obtain ⟨hctl, hmap, hsince, hraw, hmem, hresp⟩ := State.loopSetUp_shows _ n _ _ (t := s.loopStart n v) rfl
  exact ⟨(hctl _ rfl).trans hen, (hctl _ rfl).trans hmode, (hctl _ rfl).trans hperiod, hmap, hsince.trans (s.applyWrite_now _ v),
    hraw.trans (congrArg Loop.raw (s.applyWrite_loop _ v n)), hmem.trans (s.applyWrite_mem _ v), hresp.trans (s.applyWrite_resp _ v)⟩

/-- An enabling write that R261 accepts starts the loop. -/
theorem State.loopCtlWrite_starts {s : State} {n : Nat} {v : W32} (hmode : getBits v 30 28 ≤ 2) (hdec : getBits v 23 20 ≤ 12)
    (hoff : s.loopOn n = false) (hen : getBits v 31 31 = 1) (hcause : s.loopCause n v = 0) : s.loopCtlWrite n v = s.loopStart n v := by
  unfold State.loopCtlWrite
  dsimp only
  rw [if_neg (by omega), if_neg (by rw [hoff]; decide), if_pos hen, if_pos hcause]

/-! ### Disabling and modes (R262, R272) -/

/-- A write of EN = 0 that leaves every other field of an enabled loop stops it. -/
theorem State.loopCtlWrite_stops {s : State} {n : Nat} (hmode : s.rd (F.TRL_Ln_CTL_MODE n) ≤ 2) (hdec : s.rd (F.TRL_Ln_CTL_LOGDEC n) ≤ 12)
    (hon : s.loopOn n = true) : s.loopCtlWrite n (setBits (s.reg (Reg.TRL_Ln_CTL n)) 31 31 0) =
      (s.applyWrite (Reg.TRL_Ln_CTL n) (setBits (s.reg (Reg.TRL_Ln_CTL n)) 31 31 0)).loopStop n := by
  have hen : getBits (setBits (s.reg (Reg.TRL_Ln_CTL n)) 31 31 0) 31 31 = 0 := getBits_setBits_same (by decide) _ 0
  have hmode' : getBits (setBits (s.reg (Reg.TRL_Ln_CTL n)) 31 31 0) 30 28 ≤ 2 := by
    rwa [getBits_setBits_other (by decide) (by decide) (by decide)]
  have hdec' : getBits (setBits (s.reg (Reg.TRL_Ln_CTL n)) 31 31 0) 23 20 ≤ 12 := by
    rwa [getBits_setBits_other (by decide) (by decide) (by decide)]
  unfold State.loopCtlWrite
  dsimp only
  rw [if_neg (by omega), if_pos hon, if_pos hen, setBits_and_loopKept (by decide) (by decide), if_neg fun h => h rfl]

/-- A write of MODE that leaves every other field of an enabled loop is owed to its next sample; CASCADE needs an enabled outer loop. -/
theorem State.loopCtlWrite_changesMode {s : State} {n mode : Nat} (hmode : mode ≤ 2) (hdec : s.rd (F.TRL_Ln_CTL_LOGDEC n) ≤ 12)
    (hon : s.loopOn n = true) (houter : mode = 2 → (s.outerOf n).isSome = true) :
    s.loopCtlWrite n (setBits (s.reg (Reg.TRL_Ln_CTL n)) 30 28 mode) =
      (s.applyWrite (Reg.TRL_Ln_CTL n) (setBits (s.reg (Reg.TRL_Ln_CTL n)) 30 28 mode)).setLoop n { s.loop n with modeReq := some mode } := by
  have hset : getBits (setBits (s.reg (Reg.TRL_Ln_CTL n)) 30 28 mode) 30 28 = mode :=
    (getBits_setBits_same (by decide) _ mode).trans (Nat.mod_eq_of_lt (hmode.trans_lt (by decide)))
  have hen : getBits (setBits (s.reg (Reg.TRL_Ln_CTL n)) 30 28 mode) 31 31 = 1 :=
    (getBits_setBits_other (by decide) (by decide) (by decide) _ mode).trans (of_decide_eq_true hon)
  have hdec' : getBits (setBits (s.reg (Reg.TRL_Ln_CTL n)) 30 28 mode) 23 20 ≤ 12 := by
    rwa [getBits_setBits_other (by decide) (by decide) (by decide)]
  have hcasc : ¬ (mode = 2 ∧ s.outerOf n = none) := fun ⟨hm, hnone⟩ => by simpa [hnone] using houter hm
  unfold State.loopCtlWrite
  dsimp only
  rw [hset, if_neg (by omega), if_pos hon, if_neg (by omega), setBits_and_loopKept (by decide) (by decide), if_neg fun h => h rfl,
    if_neg hcasc]

/-! ### The commands -/

/-- LOOP_ENABLE with a word R261 accepts starts the loop. -/
theorem execLoopEnable_starts {s : State} {a : Agent} {n : Nat} {v : W32} (hn : n < 64) (hacc : s.accepts a 0x09 (0x800 + 0x20 * n) = true)
    (hmode : getBits v 30 28 ≤ 2) (hdec : getBits v 23 20 ≤ 12) (hoff : s.loopOn n = false) (hcause : s.loopCause n (setBits v 31 31 1) = 0) :
    Completes (.loopEnable a n v) s (fun t => t.resp = .done ∧ t.loopOn n = true ∧ t.rd (F.TRL_Ln_CTL_PERIOD n) = getBits v 19 0 ∧
      t.rd (F.TRL_Ln_CTL_MODE n) = getBits v 30 28 ∧ t.mapOn Reg.TRL_ENMAP_LO n = true ∧ (t.loop n).since = s.now ∧
      (t.loop n).raw = (s.loop n).raw ∧ t.mem = s.mem) := by
  have hbeside {hi lo : Nat} (h : hi < 31) : getBits (setBits v 31 31 1) hi lo = getBits v hi lo :=
    getBits_setBits_other (by decide) (by omega) (.inr h) v 1
  have hen : getBits (setBits v 31 31 1) 31 31 = 1 := getBits_setBits_same (by decide) v 1
  refine ⟨_, congrArg Host.Outcome.next ((if_pos hn).trans (State.gate_accepts _ hacc)), ?_⟩
  rw [State.loopCtlWrite_starts (s := s.done) (by rwa [hbeside (by decide)]) (by rwa [hbeside (by decide)]) hoff hen
    ((s.loopCause_done n _).trans hcause)]
  obtain ⟨hon, hset, hperiod, hmap, hsince, hraw, hmem, hresp⟩ := s.done.loopStart_shows n (setBits v 31 31 1)
  exact ⟨hresp, decide_eq_true (hon.trans hen), hperiod.trans (hbeside (by decide)), hset.trans (hbeside (by decide)), hmap, hsince, hraw, hmem⟩

/-- LOOP_DISABLE of an enabled loop stops it. -/
theorem execLoopDisable_stops {s : State} {a : Agent} {n : Nat} (hn : n < 64) (hacc : s.accepts a 0x09 (0x800 + 0x20 * n) = true)
    (hmode : s.rd (F.TRL_Ln_CTL_MODE n) ≤ 2) (hdec : s.rd (F.TRL_Ln_CTL_LOGDEC n) ≤ 12) (hon : s.loopOn n = true) :
    Completes (.loopDisable a n) s (fun t => t.resp = .done ∧ t.loopOn n = false ∧ t.loopState n = 0 ∧
      t.mapOn Reg.TRL_ENMAP_LO n = false) := by
  have hwrite := State.loopCtlWrite_stops (s := s.done) hmode hdec hon
  refine ⟨_, congrArg Host.Outcome.next (((if_pos hn).trans (State.gate_accepts _ hacc)).trans hwrite), ?_⟩
  obtain ⟨hclear, -, -⟩ := s.done.applyWrite_loopCtl n (setBits (s.done.reg (Reg.TRL_Ln_CTL n)) 31 31 0)
  have hresp := s.done.applyWrite_resp (Reg.TRL_Ln_CTL n) (setBits (s.done.reg (Reg.TRL_Ln_CTL n)) 31 31 0)
  rw [getBits_setBits_same (by decide)] at hclear
  generalize s.done.applyWrite (Reg.TRL_Ln_CTL n) (setBits (s.done.reg (Reg.TRL_Ln_CTL n)) 31 31 0) = t at hclear hresp
  obtain ⟨hstate, hmap, hkept, -⟩ := t.loopStop_shows n
  have hoff : t.loopOn n = false := decide_eq_false (by rw [hclear]; decide)
  exact ⟨hkept.trans hresp, (t.loopStop_loopOn n).trans hoff, hstate, hmap hn⟩

/-- LOOP_MODE_WRITE to an enabled loop changes MODE and is owed to its next sample; CASCADE needs an enabled outer loop. -/
theorem execLoopModeWrite_changes {s : State} {a : Agent} {n mode : Nat} (hn : n < 64) (hacc : s.accepts a 0x09 (0x800 + 0x20 * n) = true)
    (hmode : mode ≤ 2) (hdec : s.rd (F.TRL_Ln_CTL_LOGDEC n) ≤ 12) (hon : s.loopOn n = true)
    (houter : mode = 2 → (s.outerOf n).isSome = true) :
    Completes (.loopModeWrite a n mode) s (fun t => t.resp = .done ∧ t.rd (F.TRL_Ln_CTL_MODE n) = mode ∧
      (t.loop n).modeReq = some mode ∧ t.loopOn n = true ∧ t.mem = s.mem) := by
  have hwrite := State.loopCtlWrite_changesMode (s := s.done) hmode hdec hon houter
  refine ⟨_, congrArg Host.Outcome.next (((if_pos hn).trans (State.gate_accepts _ hacc)).trans hwrite), ?_⟩
  obtain ⟨hen, hset, -⟩ := s.done.applyWrite_loopCtl n (setBits (s.done.reg (Reg.TRL_Ln_CTL n)) 30 28 mode)
  have hresp := s.done.applyWrite_resp (Reg.TRL_Ln_CTL n) (setBits (s.done.reg (Reg.TRL_Ln_CTL n)) 30 28 mode)
  have hmem := s.done.applyWrite_mem (Reg.TRL_Ln_CTL n) (setBits (s.done.reg (Reg.TRL_Ln_CTL n)) 30 28 mode)
  rw [getBits_setBits_same (by decide), Nat.mod_eq_of_lt (hmode.trans_lt (by decide))] at hset
  rw [getBits_setBits_other (by decide) (by decide) (by decide)] at hen
  generalize s.done.applyWrite (Reg.TRL_Ln_CTL n) (setBits (s.done.reg (Reg.TRL_Ln_CTL n)) 30 28 mode) = t at hen hset hresp hmem
  exact ⟨hresp, hset, by rw [State.loop_setLoop_same], decide_eq_true (hen.trans (of_decide_eq_true hon)), hmem⟩

end Sys2Proof.Machine
end

section
/-! SUPPORT. Samples of Trellis (R245-R247, R249-R254, R262-R266): what each part of a sample leaves of the instants, the number and the
counter of the samples. -/

namespace Sys2Proof.Machine

/-! ### What is left alone of the samples -/

/-- Two loops have the same last sample, with the same end, and have run as many. -/
structure Loop.SameSamples (l l' : Loop) : Prop where
  last : l'.last = l.last
  busy : l'.busy = l.busy
  count : l'.count = l.count

theorem Loop.SameSamples.refl (l : Loop) : l.SameSamples l := ⟨rfl, rfl, rfl⟩

theorem Loop.SameSamples.trans {l m n : Loop} (h : l.SameSamples m) (h' : m.SameSamples n) : l.SameSamples n :=
  ⟨h'.last.trans h.last, h'.busy.trans h.busy, h'.count.trans h.count⟩

theorem Loop.ffLive_samples (l : Loop) (v : Frac) (ts : Nat) : l.SameSamples (l.ffLive v ts).1 := by
  unfold Loop.ffLive
  extract_lets ramp back n
  clear_value back
  split
  · split <;> exact ⟨rfl, rfl, rfl⟩
  · exact ⟨rfl, rfl, rfl⟩

theorem Loop.ffHeld_samples (l : Loop) (ts : Nat) : l.SameSamples (l.ffHeld ts).1 := by
  unfold Loop.ffHeld
  extract_lets ft n begins m
  have hm : l.SameSamples m := by
    unfold m
    split <;> exact ⟨rfl, rfl, rfl⟩
  split <;> exact hm

theorem Loop.law_samples (l : Loop) (cascade entry : Bool) (track : Option Frac) (rIn y f : Frac) :
    l.SameSamples (l.law cascade entry track rIn y f).loop := by
  unfold Loop.law
  extract_lets
  split <;> dsimp only <;> exact ⟨rfl, rfl, rfl⟩ -- in sight of the record, so that the kernel does not compute the law

/-- `t` has run the samples of `s`. -/
structure State.SampledAs (s t : State) : Prop where
  loop : ∀ n, (s.loop n).SameSamples (t.loop n)
  wide : t.wideGet Reg.TRL_SAMPCNT_LO = s.wideGet Reg.TRL_SAMPCNT_LO

namespace State.SampledAs

variable {s t u : State}

theorem refl (s : State) : s.SampledAs s := ⟨fun _ => .refl _, rfl⟩

theorem trans (h : s.SampledAs t) (h' : t.SampledAs u) : s.SampledAs u :=
  ⟨fun n => (h.loop n).trans (h'.loop n), h'.wide.trans h.wide⟩

theorem of_spares {S : Set Nat} (h : State.SparesTrellis S s t) : s.SampledAs t :=
  ⟨fun n => h.loop n ▸ .refl _, h.wide _ rfl⟩

theorem ite (c : Prop) [Decidable c] (h : c → s.SampledAs t) (h' : ¬ c → s.SampledAs u) : s.SampledAs (if c then t else u) := by
  split
  · exact h ‹_›
  · exact h' ‹_›

/-- A loop set to one with the same samples. -/
theorem setLoop (s : State) (n : Nat) {l : Loop} (h : (s.loop n).SameSamples l := by exact ⟨rfl, rfl, rfl⟩) : s.SampledAs (s.setLoop n l) := by
  refine ⟨fun m => ?_, rfl⟩
  by_cases hm : m = n
  · rw [hm, State.loop_setLoop_same]
    exact h
  · rw [State.loop_setLoop_other _ _ hm]
    exact .refl _

/-! ### Registers and events -/

theorem wr (s : State) (f : Fld) (v : Nat) : s.SampledAs (s.wr f v) := of_spares (.wrTrl (S := Set.univ) s v trivial)

theorem trlTell (s : State) (tag n w : Nat) (rec : Option Nat) : s.SampledAs (s.trlTell tag n w rec) :=
  of_spares (.trlTell s tag n w rec subset_rfl)

theorem trlEvent (s : State) (tag n : Nat) (rec : Option Nat) : s.SampledAs (s.trlEvent tag n rec) :=
  of_spares (.trlEvent s tag n rec subset_rfl)

theorem setLoopState (s : State) (n st : Nat) : s.SampledAs (s.setLoopState n st) := of_spares (.setLoopState s n st)

theorem flag (s : State) (stat ie : Fld) : s.SampledAs (s.flag stat ie) := of_spares (.flagTrl (S := Set.univ) s ie trivial)

theorem measured (s : State) (f g : Fld) (v : Nat) : s.SampledAs (s.measured f g v) := (wr s f _).trans (wr _ g _)

/-! ### What is owed at a sample start (R256, R261-R263) -/

theorem installLoop (s : State) (n : Nat) (raw : Bytes) : s.SampledAs (s.installLoop n raw) := (setLoop s n).trans (wr _ _ _)

theorem trackNow (s : State) (n : Nat) : s.SampledAs (s.trackNow n) := by
  unfold State.trackNow
  extract_lets l cur inner
  refine ite _ (fun _ => ite _ (fun _ => ?_) fun _ => ite _ (fun _ => setLoopState s n _) fun _ => refl s) fun _ => refl s
  exact (setLoop s n).trans (setLoopState _ n 4)

theorem modesNow (s : State) (n : Nat) : s.SampledAs (s.modesNow n) := by
  unfold State.modesNow
  extract_lets t l _ cur was x y u
  have ht : s.SampledAs t := by
    unfold t
    split
    · exact installLoop s n _
    · exact refl s
  have hu : t.SampledAs u := by
    have hset {x : Loop} (st : Nat) (h : l.SameSamples x := by exact ⟨rfl, rfl, rfl⟩) : t.SampledAs ((t.setLoop n x).setLoopState n st) :=
      (setLoop t n h).trans (setLoopState _ n st)
    unfold u
    split
    · exact hset _
    · split
      · exact refl t
      · have hy : l.SameSamples y := by
          unfold y
          split <;> exact ⟨rfl, rfl, rfl⟩
        refine ite _ (fun _ => (hset _).trans (trlEvent _ 4 n none)) fun _ => ite _ (fun _ => setLoop t n) fun _ =>
          ite _ (fun _ => hset _) fun _ => ite _ (fun _ => setLoop t n (hy.trans ⟨rfl, rfl, rfl⟩)) fun _ => hset _ hy
  exact (ht.trans hu).trans (trackNow u n)

/-! ### Set-points and inputs (R249-R254) -/

theorem spLine (s : State) (n : Nat) : s.SampledAs (s.spLine n).1 := by
  unfold State.spLine
  split
  · exact refl s
  · split
    · exact refl s
    · extract_lets l hand t x at0 seq seen v ramp rs y
      have ht : s.SampledAs t := setLoop s n
      split
      · split
        · exact ht
        · have hheld : t.SampledAs (t.setLoop n { x with sphold := true }) := setLoop t n
          exact (ht.trans hheld).trans (trlTell _ 1 n (toWide (x.r.getD fzero)) (some sevWarning))
      · split
        · exact ht.trans (wr t _ _)
        · split
          · exact ht
          · refine ht.trans (setLoop t n ?_)
            split <;> exact ⟨rfl, rfl, rfl⟩

theorem readInput (s : State) (l : Loop) (w ts : Nat) : s.SampledAs (s.readInput l w ts).1 := by
  unfold State.readInput
  split
  case h_3 =>
    dsimp only
    split
    · exact measured s _ _ _
    · exact refl s
  all_goals exact refl s

theorem takeMeas (s : State) (n : Nat) (m : InVal) : s.SampledAs (s.takeMeas n m) := by
  unfold State.takeMeas
  extract_lets l st y l1 l2 l3
  have h2 : (s.loop n).SameSamples l2 := by
    unfold l2
    split <;> exact ⟨rfl, rfl, rfl⟩
  have h3 : (s.loop n).SameSamples l3 := by
    refine h2.trans ?_
    unfold l3
    split <;> exact ⟨rfl, rfl, rfl⟩
  refine ite _ (fun _ => ite _ (fun _ => refl s) fun _ => setLoop s n) fun _ => ite _ (fun _ => ?_) fun _ => setLoop s n h3
  have hentry : s.SampledAs (s.setLoop n { l3 with entry := true }) := setLoop s n (h3.trans ⟨rfl, rfl, rfl⟩)
  generalize s.setLoop n { l3 with entry := true } = t at hentry ⊢
  exact ((hentry.trans (setLoopState t n _)).trans (trackNow _ n)).trans (trlEvent _ 4 n none)

theorem takeFf (s : State) (n ts : Nat) : s.SampledAs (s.takeFf n ts).1 := by
  unfold State.takeFf
  extract_lets l r warn x y t u
  have hr : s.SampledAs r.1 := readInput s l _ ts
  have hset {z : Loop} (h : l.SameSamples z) : s.SampledAs (r.1.setLoop n z) := by
    obtain ⟨hlast, hbusy, hcount⟩ := hr.loop n
    exact hr.trans (setLoop r.1 n ⟨h.last.trans hlast.symm, h.busy.trans hbusy.symm, h.count.trans hcount.symm⟩)
  split
  · exact refl s
  · split
    · exact hset (l.ffLive_samples _ ts)
    · have ht : s.SampledAs t := hset (l.ffHeld_samples ts)
      exact ite _ (fun _ => ht.trans (trlEvent t 5 n none)) fun _ => ht

theorem trlPoison (s : State) : s.SampledAs s.trlPoison := (wr s _ _).trans (flag _ _ _)

/-! ### The law and the output (R263-R266) -/

theorem measLost (s : State) (n ts : Nat) : s.SampledAs (s.measLost n ts).1 := by
  unfold State.measLost
  extract_lets l t l' u v w
  have ht : s.SampledAs t := by
    unfold t
    split
    · exact refl s
    · exact (setLoop s n).trans (trlEvent _ 2 n none)
  split
  · exact (((ht.trans (setLoop t n)).trans (setLoopState _ n 5)).trans (flag _ _ _)).trans (trlEvent _ 3 n _)
  · exact ht

theorem sampleLaw (s : State) (n ts : Nat) (ok held : Bool) (y f : Frac) : s.SampledAs (s.sampleLaw n ts ok held y f).1 := by
  unfold State.sampleLaw
  extract_lets l st inner track o
  split
  · split
    · exact setLoop s n
    · exact setLoop s n
  · split
    · exact setLoop s n
    · split
      · exact (setLoop s n).trans (measLost _ n ts)
      · have ho : ({ l with entry := false } : Loop).SameSamples o.loop := Loop.law_samples _ _ _ _ _ _ _
        have hl : (s.loop n).SameSamples { l with entry := false } := ⟨rfl, rfl, rfl⟩
        exact setLoop s n (hl.trans ho)

theorem asatNow (s : State) (n : Nat) : s.SampledAs (s.asatNow n) := by
  unfold State.asatNow
  extract_lets told t
  have ht : s.SampledAs t := (wr s _ _).trans (flag _ _ _)
  exact ite _ (fun _ => ht) fun _ => (ht.trans (setLoop t n)).trans (trlEvent _ 6 n none)

theorem outerOutput (s : State) (w : Nat) (u : Frac) : s.SampledAs (s.outerOutput w u) :=
  ite _ (fun _ => setLoop s _) fun _ => refl s

theorem applyOut (s : State) (w : Nat) (u : Frac) : s.SampledAs (s.applyOut w u).1 := by
  unfold State.applyOut
  split
  · exact of_spares (S := ∅) (.valveValue s _ u)
  · exact of_spares (S := ∅) (.lswValue s _ u)
  · exact outerOutput s w u
  · exact refl s

theorem outLine (s : State) (n ts tout flags : Nat) (u r y f : Frac) : s.SampledAs (s.outLine n ts tout flags u r y f) :=
  ite _ (fun _ => of_spares (S := ∅) (.put s _ _)) fun _ => refl s

/-- The engine's load and the end of its last computation lie beside the loops. -/
theorem withEngine (s : State) (x : Trellis) (h : x.loops = s.trl.loops) : s.SampledAs { s with trl := x } := by
  refine ⟨fun n => ?_, rfl⟩
  unfold State.loop
  rw [h]
  exact .refl _

theorem trlBusy (s : State) (busy : Nat) : s.SampledAs (s.trlBusy busy) := by
  unfold State.trlBusy
  extract_lets l
  exact (withEngine s { s.trl with load := l } rfl).trans (measured _ _ _ _)

theorem setBusyEnd (s : State) (t : Nat) : s.SampledAs (s.setBusyEnd t) := withEngine s { s.trl with busyEnd := t } rfl

/-- The instant at which an entry is stamped leaves Trellis alone. -/
theorem withNow (s : State) (t : Nat) : s.SampledAs { s with now := t } := ⟨fun _ => .refl _, rfl⟩

theorem sampleLog (s : State) (n ts tout flags : Nat) (u e : Frac) : s.SampledAs (s.sampleLog n ts tout flags u e) := by
  unfold State.sampleLog
  extract_lets l r
  refine ite _ (fun _ => ?_) fun _ => refl s
  exact ((withNow s tout).trans (of_spares (S := ∅) (.eventEntry _ _ _ _ _ _ _))).trans (withNow _ s.now)

end State.SampledAs

/-- The registers of a sample leave the loops alone, and the sample is counted. -/
theorem State.sampleRegs_counts (s : State) (n ts tout flags : Nat) (u r y : Frac) :
    (s.sampleRegs n ts tout flags u r y).trl = s.trl ∧
      (s.sampleRegs n ts tout flags u r y).wideGet Reg.TRL_SAMPCNT_LO = satAdd 64 (s.wideGet Reg.TRL_SAMPCNT_LO) 1 := by
  unfold State.sampleRegs
  extract_lets t1 t2 t3 lat t4 t5
  have h4 : State.SparesTrellis Set.univ s t4 :=
    have hwr (x : State) (f : Fld) (v : Nat) : State.SparesTrellis Set.univ x (x.wr f v) := .wrTrl x v trivial
    ((((((hwr s _ _).trans (hwr _ _ _)).trans (hwr _ _ _)).trans (hwr _ _ _)).trans (hwr _ _ _)).trans (hwr _ _ _)).trans (hwr _ _ _)
  have h5 : State.SparesTrellis Set.univ s t5 :=
    .ite _ (fun _ => (h4.trans (.wrTrl t4 _ trivial)).trans (.wrTrl _ _ trivial)) fun _ => h4
  exact ⟨h5.trl, (t5.wideGet_wideAdd_same _ 1).trans (by rw [h5.wide _ rfl])⟩

/-! ### Samples run and skipped (R246, R247) -/

/-- A sample run is the loop's last, ends at `tout`, and is counted. -/
theorem State.runSample_counts (s : State) (n ts tout : Nat) :
    ((s.runSample n ts tout).loop n).last = some ts ∧ ((s.runSample n ts tout).loop n).busy = tout ∧
      ((s.runSample n ts tout).loop n).count = (s.loop n).count + 1 ∧
      (s.runSample n ts tout).wideGet Reg.TRL_SAMPCNT_LO = satAdd 64 (s.wideGet Reg.TRL_SAMPCNT_LO) 1 := by
  unfold State.runSample
  extract_lets _ s0 s1 sp s2 skip _ s3 m s4 ff s5 held o s6 flags s7 w a flags' s8 l s9 s10 s11
  have h0 : (s0.loop n).last = some ts ∧ (s0.loop n).busy = tout ∧ (s0.loop n).count = (s.loop n).count + 1 ∧
      s0.wideGet Reg.TRL_SAMPCNT_LO = s.wideGet Reg.TRL_SAMPCNT_LO := by
    unfold s0
    rw [State.loop_setLoop_same]
    exact ⟨rfl, rfl, rfl, rfl⟩
  have h1 : s0.SampledAs s1 := .modesNow s0 n
  have h3 : s1.SampledAs s3 := (State.SampledAs.spLine s1 n).trans (.setLoop s2 n)
  have h4 : s3.SampledAs s4 := (State.SampledAs.readInput s3 _ _ ts).trans (.takeMeas _ n _)
  have h5 : s4.SampledAs s5 :=
    (State.SampledAs.takeFf s4 n ts).trans (.ite _ (fun _ => .trlPoison _) fun _ => .refl _)
  have h6 : s5.SampledAs s6 := .sampleLaw s5 n ts _ _ _ _
  have h7 : s6.SampledAs s7 := .ite _ (fun _ => .asatNow s6 n) fun _ => .refl s6
  have h8 : s7.SampledAs s8 := by
    have ha : s7.SampledAs a.1 := by
      unfold a
      split
      · exact .applyOut s7 w _
      · exact .outerOutput s7 w _
    exact .ite _ (fun _ => ha) fun _ => ha.trans (.trlEvent a.1 9 n none)
  obtain ⟨hloops, hcounted⟩ := s8.sampleRegs_counts n ts tout flags' o.2.u (l.r.getD fzero) l.y
  have h11 : s9.SampledAs s11 := ((State.SampledAs.outLine s9 n ts tout flags' o.2.u (l.r.getD fzero) l.y l.f).trans (.trlBusy s10 _)).trans
    (.setBusyEnd _ tout)
  have hend : s9.SampledAs (s11.sampleLog n ts tout flags' o.2.u o.2.e) := h11.trans (.sampleLog s11 n ts tout flags' _ _)
  have hbefore : s0.SampledAs s8 := ((((((h1.trans h3).trans h4).trans h5).trans h6).trans h7).trans h8)
  have hloop9 : s9.loop n = s8.loop n := State.loop_congr hloops n
  obtain ⟨hlast, hbusy, hcount⟩ := hend.loop n
  obtain ⟨hlast8, hbusy8, hcount8⟩ := hbefore.loop n
  obtain ⟨hlast0, hbusy0, hcount0, hwide0⟩ := h0
  rw [hloop9] at hlast hbusy hcount
  refine ⟨hlast.trans (hlast8.trans hlast0), hbusy.trans (hbusy8.trans hbusy0), hcount.trans (hcount8.trans hcount0), ?_⟩
  rw [hend.wide, hcounted, hbefore.wide, hwide0]

end Sys2Proof.Machine
end

section
/-! SUPPORT. Samples due, descriptors and the parameter memory of Trellis (R246, R247, R256, R262, R268, R270), and what its commands come
to. -/

namespace Sys2Proof.Machine

/-! ### Samples due (R246, R247) -/

/-- A sample skipped is the loop's last, is flagged and is counted. -/
theorem State.skipSample_counts (s : State) (n ts : Nat) :
    ((s.skipSample n ts).loop n).last = some ts ∧ ((s.skipSample n ts).loop n).skipped = true ∧ (s.skipSample n ts).rd F.TRL_STAT_SKIP = 1 ∧
      (s.skipSample n ts).wideGet Reg.TRL_SKIPCNT_LO = satAdd 64 (s.wideGet Reg.TRL_SKIPCNT_LO) 1 := by
  unfold State.skipSample
  extract_lets _ t
  have hset : (t.loop n).last = some ts ∧ (t.loop n).skipped = true ∧ t.wideGet Reg.TRL_SKIPCNT_LO = s.wideGet Reg.TRL_SKIPCNT_LO := by
    unfold t
    rw [State.loop_setLoop_same]
    exact ⟨rfl, rfl, rfl⟩
  obtain ⟨hlast, hskip, hwide⟩ := hset
  clear_value t
  have hcount : (t.wideAdd Reg.TRL_SKIPCNT_LO 1).loop n = t.loop n := rfl
  have hwide' := t.wideGet_wideAdd_same Reg.TRL_SKIPCNT_LO 1
  generalize t.wideAdd Reg.TRL_SKIPCNT_LO 1 = u at hcount hwide' ⊢
  have hflag : State.SparesTrellis {Reg.TRL_STAT} u (u.flag F.TRL_STAT_SKIP F.TRL_CTL_IE_SKIP) := .flagTrl u _ rfl
  have hone : (u.flag F.TRL_STAT_SKIP F.TRL_CTL_IE_SKIP).rd F.TRL_STAT_SKIP = 1 := u.flag_rd_same (by decide) rfl
  generalize u.flag F.TRL_STAT_SKIP F.TRL_CTL_IE_SKIP = v at hflag hone ⊢
  have htell : State.SparesTrellis almMapRegs v (v.trlEvent 7 n none) := .trlEvent v 7 n none subset_rfl
  have hloop : (v.trlEvent 7 n none).loop n = t.loop n := (htell.loop n).trans ((hflag.loop n).trans hcount)
  rw [hloop, htell.rd rfl (fun h => absurd h.1 (by decide)), htell.wide _ rfl, hflag.wide _ rfl, hwide', hwide]
  exact ⟨hlast, hskip, hone, rfl⟩

/-- LOOP_SAMPLE of a sample due: skipped while the previous one runs, else run. -/
theorem execLoopSample_counts {s : State} {n ts tout : Nat} (hbed : s.bedOn = true) (hn : n < s.code.loops) (hts : ts ≤ s.now)
    (htout : s.now ≤ tout) (hdue : s.dueAt n ts = true) (hfirst : (List.range n).any (fun m => s.dueAt m ts) = false)
    (hswitch : ts = s.now → s.switchDue = none) :
    Completes (.loopSample n ts tout) s (fun t => (t.loop n).last = some ts ∧
      (if ts < (s.loop n).busy then (t.loop n).skipped = true ∧ t.rd F.TRL_STAT_SKIP = 1 ∧
          t.wideGet Reg.TRL_SKIPCNT_LO = satAdd 64 (s.wideGet Reg.TRL_SKIPCNT_LO) 1
        else (t.loop n).busy = tout ∧ (t.loop n).count = (s.loop n).count + 1 ∧
          t.wideGet Reg.TRL_SAMPCNT_LO = satAdd 64 (s.wideGet Reg.TRL_SAMPCNT_LO) 1)) := by
  have hruns : ¬ (s.bedOn = false ∨ s.code.loops ≤ n ∨ s.now < ts ∨ tout < s.now ∨ s.dueAt n ts = false ∨
      (List.range n).any (fun m => s.dueAt m ts) = true ∨ (ts = s.now ∧ s.switchDue.isSome = true)) := by
    rintro (h | h | h | h | h | h | ⟨hnow, h⟩)
    · exact absurd (hbed.symm.trans h) (by decide)
    · omega
    · omega
    · omega
    · exact absurd (hdue.symm.trans h) (by decide)
    · exact absurd (hfirst.symm.trans h) (by decide)
    · rw [hswitch hnow] at h
      exact absurd h (by decide)
  refine ⟨_, congrArg Host.Outcome.next (if_neg hruns), ?_⟩
  split
  · exact s.skipSample_counts n ts
  · exact s.runSample_counts n ts tout

/-! ### Completions -/

/-- A completion leaves the loops and the registers of block TRL alone. -/
theorem State.complete_loop (s : State) (q : Nat) (d : Desc) (r : Result) (n : Nat) : (s.complete q d r).loop n = s.loop n :=
  State.loop_congr (State.EntersTo.complete s q d r).trl n

theorem State.complete_trl_rd (s : State) (q : Nat) (d : Desc) (r : Result) {f : Fld} (hf : f.addr / 0x1000 = 9) :
    (s.complete q d r).rd f = s.rd f := (State.EntersTo.complete s q d r).rd (by unfold entryBlock; omega)

/-! ### Descriptors (R256, R262, R270) -/

/-- LOADPAR of a record it takes: it waits for the next sample of an enabled loop, and is installed in a disabled one. -/
theorem State.loadPar_takes {s : State} {d : Desc} (haligned : d.le 24 8 % 64 = 0) (hmem : inBedRange (d.le 24 8) 128 = true)
    (hclean : s.mem.poisoned (d.le 24 8) 128 = false) (hrecord : recordOk (s.mem.readBytes (d.le 24 8) 128) = true)
    (hn : d.le 16 1 < s.code.loops) (hnamed : leAt (s.mem.readBytes (d.le 24 8) 128) 1 1 = d.le 16 1)
    (hsrc : s.srcOk ({ raw := s.mem.readBytes (d.le 24 8) 128 } : Loop).msrc ({ raw := s.mem.readBytes (d.le 24 8) 128 } : Loop).ffsrc = true)
    (hdst : s.loopOn (d.le 16 1) = true → ({ raw := s.mem.readBytes (d.le 24 8) 128 } : Loop).outdst = (s.loop (d.le 16 1)).outdst)
    (hcasc : s.loopOn (d.le 16 1) = true → s.cascBad (d.le 16 1) ({ raw := s.mem.readBytes (d.le 24 8) 128 } : Loop).outdst
      (s.rd (F.TRL_Ln_CTL_PERIOD (d.le 16 1))) (s.rd (F.TRL_Ln_PHASE_PHASE (d.le 16 1))) = false) :
    s.loadPar d = (if s.loopOn (d.le 16 1) = true
      then s.setLoop (d.le 16 1) { s.loop (d.le 16 1) with pend := some (s.mem.readBytes (d.le 24 8) 128) }
      else s.installLoop (d.le 16 1) (s.mem.readBytes (d.le 24 8) 128), {}) := by
  unfold State.loadPar
  dsimp only
  rw [if_neg (not_not_intro haligned), if_neg (by rw [hmem]; decide), if_neg (by rw [hclean]; decide), if_neg (by rw [hrecord]; decide),
    if_neg (by omega), if_neg fun h => h.2 (hdst h.1), if_neg (by rw [hsrc]; decide), if_neg fun h => absurd ((hcasc h.1).symm.trans h.2) (by decide)]
  split <;> rfl

/-- The loop a record was given to, enabled or not. -/
theorem State.recordGiven_shows (s : State) (n : Nat) (raw : Bytes) {t : State}
    (ht : t = if s.loopOn n = true then s.setLoop n { s.loop n with pend := some raw } else s.installLoop n raw) :
    if s.loopOn n = true then (t.loop n).pend = some raw ∧ (t.loop n).raw = (s.loop n).raw
    else (t.loop n).raw = raw ∧ t.rd (F.TRL_Ln_STAT_PARVALID n) = 1 := by
  subst ht
  split
  · rw [State.loop_setLoop_same]
    exact ⟨rfl, rfl⟩
  · obtain ⟨hloop, -, -, -⟩ := s.installLoop_shows n raw
    exact ⟨by rw [hloop, Loop.install_raw], State.rd_wr_fits _ (by decide : 28 < 32) (by decide : 1 < 2 ^ (28 + 1 - 28))⟩

/-- SETMODE it takes: MODE is written, and an enabled loop owes the change to its next sample. -/
theorem execSetmode_changes {s : State} {q : Nat} {d : Desc} (hring : trlRing q = true) (hrun : s.running q 2 = some d)
    (hn : d.le 16 1 < s.code.loops) (hmode : d.le 17 1 ≤ 2)
    (houter : s.loopOn (d.le 16 1) = true → d.le 17 1 = 2 → (s.outerOf (d.le 16 1)).isSome = true) :
    Completes (.setmode q) s (fun t => t.rd (F.TRL_Ln_CTL_MODE (d.le 16 1)) = d.le 17 1 ∧
      (s.loopOn (d.le 16 1) = true → (t.loop (d.le 16 1)).modeReq = some (d.le 17 1))) := by
  have hcasc : ¬ (s.loopOn (d.le 16 1) = true ∧ d.le 17 1 = 2 ∧ s.outerOf (d.le 16 1) = none) := fun ⟨hon, hm, hnone⟩ => by
    simpa [hnone] using houter hon hm
  refine ⟨_, congrArg Host.Outcome.next ((if_pos hring).trans (State.serve_of_running _ hrun)), ?_⟩
  rw [if_neg (by omega), if_neg hcasc]
  dsimp only
  rw [State.complete_loop, State.complete_trl_rd _ _ _ _ (Reg.loopCtl_block _)]
  generalize d.le 16 1 = n at *
  generalize d.le 17 1 = m at *
  have hset : ((s.wr (F.TRL_Ln_CTL_MODE n) m).reparity (Reg.TRL_Ln_CTL n)).rd (F.TRL_Ln_CTL_MODE n) = m :=
    s.rd_wr_fits (by decide : 30 < 32) (lt_of_le_of_lt hmode (by decide : 2 < 2 ^ (30 + 1 - 28)))
  have hon : ((s.wr (F.TRL_Ln_CTL_MODE n) m).reparity (Reg.TRL_Ln_CTL n)).loopOn n = s.loopOn n :=
    congrArg (fun x => decide (x = 1)) (s.rd_wr_beside (g := F.TRL_Ln_CTL_EN n) m (by decide : 30 < 32) (by decide : 31 < 32) (.inl (by decide : 30 < 31)))
  generalize (s.wr (F.TRL_Ln_CTL_MODE n) m).reparity (Reg.TRL_Ln_CTL n) = u at hset hon ⊢
  rw [hon]
  split
  · rw [State.loop_setLoop_same]
    exact ⟨hset, fun _ => rfl⟩
  · next hoff => exact ⟨hset, fun h => absurd h hoff⟩

/-- READPAR to a destination it takes writes the record. -/
theorem execReadpar_reads {s : State} {q : Nat} {d : Desc} (hring : trlRing q = true) (hrun : s.running q 3 = some d)
    (hdest : s.trlDest (d.le 16 1) (d.le 24 8) 128 = 0) :
    exec (.readpar q) s = .next ((if (s.loop (d.le 16 1)).raw = [] then s.putFree (d.le 24 8) 128
      else s.put (d.le 24 8) (wideNormal (s.loop (d.le 16 1)).raw)).complete q d {}) := by
  refine (congrArg Host.Outcome.next ((if_pos hring).trans (State.serve_of_running _ hrun))).trans ?_
  rw [if_neg (not_not_intro hdest)]
  split <;> rfl

/-- The time for which a measurement has been invalid, in ms, as READSTATE reports it. -/
theorem invalidFor_eq (minv : Option Nat) (now : Nat) :
    min (match minv with | some t0 => (now - t0) / 1000000 | none => 0) 0xFFFFFFFF =
      (minv.map (fun b => min ((now - b) / 1000000) 0xFFFFFFFF)).getD 0 := by
  cases minv with
  | none => exact Nat.zero_min _
  | some t0 => rfl

/-- READSTATE to a destination it takes writes the state of the loop. -/
theorem execReadstate_reads {s : State} {q : Nat} {d : Desc} (hring : trlRing q = true) (hrun : s.running q 4 = some d)
    (hdest : s.trlDest (d.le 16 1) (d.le 24 8) 64 = 0) :
    exec (.readstate q) s = .next ((s.put (d.le 24 8) (stateBytes (s.loop (d.le 16 1)).i ++ stateBytes (s.loop (d.le 16 1)).d ++
      leBytes 8 (toWide (s.loop (d.le 16 1)).xprev) ++ leBytes 8 (toWide ((s.loop (d.le 16 1)).r.getD ⟨0, 1⟩)) ++
      leBytes 8 (toWide (s.loop (d.le 16 1)).ulast) ++ leBytes 8 (toWide (s.loop (d.le 16 1)).f) ++
      leBytes 4 (((s.loop (d.le 16 1)).minv.map (fun b => min ((s.now - b) / 1000000) 0xFFFFFFFF)).getD 0) ++
      leBytes 8 ((s.loop (d.le 16 1)).last.getD 0))).complete q d {}) := by
  refine (congrArg Host.Outcome.next ((if_pos hring).trans (State.serve_of_running _ hrun))).trans ?_
  rw [if_neg (not_not_intro hdest), ← invalidFor_eq]
  rfl

/-! ### Parameter memory (R268) -/

namespace State.SparesTrellis

variable {S : Set Nat}

theorem notifyDale (s : State) (stat ie : Fld) : SparesTrellis S s (s.notifyDale stat ie) := by
  unfold State.notifyDale
  split <;> exact ⟨rfl, rfl, fun _ _ _ => rfl, fun _ _ => rfl⟩

theorem testRegs (s : State) : SparesTrellis S s s.testRegs :=
  (wr s _ (by decide : Reg.HLT_TESTQ / 0x1000 ≠ 9)).trans (wr _ _ (by decide : Reg.HLT_TESTQ / 0x1000 ≠ 9))

/-- The queue of self-tests lies in a part of the state of its own. -/
theorem withHlt (s : State) (h : Health) : SparesTrellis S s { s with hlt := h } := ⟨rfl, rfl, fun _ _ _ => rfl, fun _ _ => rfl⟩

/-- A targeted self-test that no descriptor asks for. -/
theorem triggerTest (s : State) (res : Nat) : SparesTrellis S s (s.triggerTest res) := by
  unfold State.triggerTest State.queueTest
  extract_lets _ one t u
  have ht : SparesTrellis S s t := wr s _ (by decide : F.HLT_UNTESTED_CNT.addr / 0x1000 ≠ 9)
  have hu : SparesTrellis S t u := ite _ (fun _ => refl t) fun _ =>
    ((wr t _ (by decide : F.HLT_STAT_UNTESTED.addr / 0x1000 ≠ 9)).trans (notifyDale _ _ _)).trans (eventEntry _ _ _ _ _ _ _)
  exact ite _ (fun _ => withHlt s _) fun _ => ite _ (fun _ => (withHlt s _).trans (testRegs _)) fun _ => ht.trans hu

end State.SparesTrellis

/-- A loop disabled stops; TRL_PMERR and TRL_STAT keep their fields. -/
theorem State.loopCleared_shows (s : State) (n : Nat) {t : State}
    (ht : t = if s.loopOn n = true then (s.wr (F.TRL_Ln_CTL_EN n) 0).loopStop n else s) :
    t.loopOn n = false ∧ t.rd F.TRL_PMERR_LOOP = s.rd F.TRL_PMERR_LOOP ∧ t.rd F.TRL_PMERR_UNC = s.rd F.TRL_PMERR_UNC ∧
      t.rd F.TRL_STAT_PMERR = s.rd F.TRL_STAT_PMERR := by
  have hctl := Reg.loopCtl_above n
  have hstat := Reg.loopStat_above n
  have hkept {f : Fld} (hblock : f.addr / 0x1000 = 9) (h : f.addr < 0x9028 ∨ 0x9074 ≤ f.addr) (hbelow : f.addr < 0x9800) :
      ((s.wr (F.TRL_Ln_CTL_EN n) 0).loopStop n).rd f = s.rd f :=
    (State.loopStop_rd _ n hblock (by omega) h).trans (s.rd_wr_other 0 (by change f.addr ≠ Reg.TRL_Ln_CTL n; omega))
  subst ht
  split
  · refine ⟨(State.loopStop_loopOn _ n).trans (s.on_wr_zero (by decide : 31 < 32)), ?_, ?_, ?_⟩
    · exact hkept rfl (.inr (by decide)) (by decide)
    · exact hkept rfl (.inr (by decide)) (by decide)
    · exact hkept rfl (.inl (by decide)) (by decide)
  · next hoff => exact ⟨eq_false_of_ne_true hoff, rfl, rfl, rfl⟩

/-- PARAMETER_MEMORY_ERROR: corrected it is counted, else it is flagged and disables the loop. -/
theorem execParameterMemoryError_shows {s : State} {n : Nat} (word : Nat) (corr : Bool) (hbed : s.bedOn = true) (hn : n < s.code.loops) :
    Completes (.parameterMemoryError n word corr) s (fun t => t.rd F.TRL_PMERR_LOOP = n ∧
      (if corr = true then t.rd F.TRL_PMERR_CNT = satAdd F.TRL_PMERR_CNT.width (s.rd F.TRL_PMERR_CNT) 1 ∧ t.loopOn n = s.loopOn n
        else t.rd F.TRL_PMERR_UNC = 1 ∧ t.rd F.TRL_STAT_PMERR = 1 ∧ t.loopOn n = false)) := by
  have hruns : ¬ (s.bedOn = false ∨ s.code.loops ≤ n) := by
    rw [hbed]
    simpa using hn
  have hn64 : n < 64 := lt_of_lt_of_le hn (by cases s.code <;> decide)
  refine ⟨_, congrArg Host.Outcome.next (if_neg hruns), ?_⟩
  extract_lets t u v
  have hctl (m : Nat) {f : Fld} (h : f.addr < 0x9800) : (F.TRL_Ln_CTL_EN m).addr ≠ f.addr := by
    have := Reg.loopCtl_above m
    change Reg.TRL_Ln_CTL m ≠ f.addr
    omega
  have htest : State.SparesTrellis ∅ (s.wr F.TRL_PMERR_LOOP n) t := .triggerTest _ _
  have hrd {f : Fld} (h : f.addr / 0x1000 = 9) : t.rd f = (s.wr F.TRL_PMERR_LOOP n).rd f := htest.rd h (Set.notMem_empty _)
  have hloop : t.rd F.TRL_PMERR_LOOP = n := (hrd rfl).trans (s.rd_wr_fits (by decide) hn64)
  have hcnt : t.rd F.TRL_PMERR_CNT = s.rd F.TRL_PMERR_CNT := (hrd rfl).trans (s.rd_wr_beside _ (by decide) (by decide) (by decide))
  have hon : t.loopOn n = s.loopOn n := State.on_congr ((hrd (Reg.loopCtl_block n)).trans (s.rd_wr_other n (hctl n (by decide))))
  clear_value t
  split
  · refine ⟨(t.rd_wr_beside _ (by decide) (by decide) (by decide)).trans hloop, ?_, ?_⟩
    · exact (t.rd_incBy_same 1 (by decide)).trans (by rw [hcnt])
    · exact (State.on_congr (t.rd_wr_other _ (hctl n (by decide)))).trans hon
  · have hunc : u.rd F.TRL_PMERR_UNC = 1 := (State.flag_rd_other _ (by decide)).trans (t.rd_wr_fits (by decide) (by decide))
    have hloop' : u.rd F.TRL_PMERR_LOOP = n :=
      (State.flag_rd_other _ (by decide)).trans ((t.rd_wr_beside _ (by decide) (by decide) (by decide)).trans hloop)
    have hflag : u.rd F.TRL_STAT_PMERR = 1 := State.flag_rd_same _ (by decide) rfl
    obtain ⟨hoff, hloop2, hunc2, hflag2⟩ := u.loopCleared_shows n (t := v) rfl
    clear_value u v
    have htell : State.SparesTrellis almMapRegs v (v.trlEvent 8 n (some sevFault)) := .trlEvent v 8 n _ subset_rfl
    have hkept {f : Fld} (hblock : f.addr / 0x1000 = 9) (h : f.addr < 0x9030 ∨ 0x9040 ≤ f.addr) :
        (v.trlEvent 8 n (some sevFault)).rd f = v.rd f :=
      htell.rd hblock fun hin => by
        obtain ⟨hlo, hhi⟩ := hin
        omega
    refine ⟨?_, ?_, ?_, ?_⟩
    · exact (hkept rfl (.inr (by decide))).trans (hloop2.trans hloop')
    · exact (hkept rfl (.inr (by decide))).trans (hunc2.trans hunc)
    · exact (hkept rfl (.inl (by decide))).trans (hflag2.trans hflag)
    · refine (State.on_congr (hkept (Reg.loopCtl_block n) (.inr ?_))).trans hoff
      have := Reg.loopCtl_above n
      change 0x9040 ≤ Reg.TRL_Ln_CTL n
      omega

/-! ### The commands -/

/-- Settles O24: a due sample runs or is skipped, writes of TRL_Ln_CTL start and stop loops and change their mode, the descriptors act
before they complete, which leaves Trellis alone, and a parameter error counts or disables the loop. -/
theorem trellisCommandsComplete : Obligations.TrellisCommandsComplete := by
  refine ⟨fun s n ts tout hbed hn hts htout hdue hfirst _ hswitch => execLoopSample_counts hbed hn hts htout hdue hfirst fun _ => hswitch,
    fun s a n v hn hacc hmode hdec hoff hcause => execLoopEnable_starts hn hacc hmode hdec hoff hcause,
    fun s a n hn hacc hmode hdec hon => execLoopDisable_stops hn hacc hmode hdec hon,
    fun s a n mode hn hacc hmode hdec hon _ houter => execLoopModeWrite_changes hn hacc hmode hdec hon fun _ => houter,
    fun s q d hring hrun haligned hmem hclean hrecord hn hnamed hsrc _ hdst _ hcasc => ?_,
    fun s q d hring hrun hn hmode _ _ houter => execSetmode_changes hring hrun hn hmode fun _ _ => houter,
    fun s q d hring hrun hdest => ⟨_, execReadpar_reads hring hrun hdest, rfl⟩,
    fun s q d hring hrun hdest => ⟨_, execReadstate_reads hring hrun hdest, rfl⟩,
    fun s n word corr hbed hn => execParameterMemoryError_shows word corr hbed hn⟩
  refine ⟨_, congrArg Host.Outcome.next ((if_pos hring).trans (State.serve_of_running _ hrun)), ?_⟩
  rw [State.loadPar_takes haligned hmem hclean hrecord hn hnamed hsrc (fun _ => hdst) fun _ => hcasc]
  beta_reduce
  rw [State.complete_loop, State.complete_trl_rd _ _ _ _ (Reg.loopStat_block _)]
  exact s.recordGiven_shows _ _ rfl

end Sys2Proof.Machine
end


section
/-! SUPPORT. The words of the Furrow instructions (R289): each format puts its fields where `furFields` reads them. -/

namespace Sys2Proof.Machine

/-! ### The formats -/

theorem bitsOf_eq_div (v hi lo : Nat) : bitsOf v hi lo = v / 2 ^ lo % 2 ^ (hi + 1 - lo) := by
  rw [bitsOf, Nat.shiftRight_eq_div_pow]

theorem bitAt_eq_div (v i : Nat) : bitAt v i = decide (v / 2 ^ i % 2 = 1) := Nat.testBit_eq_decide_div_mod_eq

/-- A signed value that fits `n` bits is what its pattern reads. -/
theorem toSigned_toPattern {n : Nat} {x : Int} (hn : 0 < n) (hlo : -2 ^ (n - 1) ≤ x) (hhi : x < 2 ^ (n - 1)) :
    toSigned n (toPattern n x) = x := by
  obtain ⟨m, rfl⟩ : ∃ m, n = m + 1 := ⟨n - 1, by omega⟩
  have hpow : (2 : Int) ^ (m + 1) = 2 * 2 ^ m := by ring
  have hpat : ((toPattern (m + 1) x : Nat) : Int) = x % 2 ^ (m + 1) := by
    rw [toPattern, Int.toNat_of_nonneg (Int.emod_nonneg _ (by positivity))]
    push_cast
    rfl
  rw [Nat.add_sub_cancel] at hlo hhi
  have hfit : toPattern (m + 1) x % 2 ^ (m + 1) = toPattern (m + 1) x := Nat.mod_eq_of_lt (toPattern_lt _ _)
  have hhalf : toPattern (m + 1) x < 2 ^ m ↔ x % 2 ^ (m + 1) < 2 ^ m := by
    rw [← hpat]
    exact_mod_cast Iff.rfl
  unfold toSigned
  rw [hfit, Nat.add_sub_cancel]
  push_cast
  rw [hpat]
  by_cases hx : 0 ≤ x
  · have hmod : x % 2 ^ (m + 1) = x := Int.emod_eq_of_lt hx (by omega)
    rw [if_pos (hhalf.mpr (by omega)), hmod]
  · have hmod : x % 2 ^ (m + 1) = x + 2 ^ (m + 1) := by
      rw [← Int.add_emod_right, Int.emod_eq_of_lt (by omega) (by omega)]
    rw [if_neg fun h => absurd (hhalf.mp h) (by omega), hmod]
    omega

section
variable {op n w : Nat} {x : Bool} {i : Nat}

theorem encN_fields (h : encN op = some w) : w / 2 ^ 24 = op := by
  cases h
  omega

theorem encA_fields (h : encA op x = some w) : w / 2 ^ 24 = op ∧ bitAt w 0 = x := by
  cases h
  rw [bitAt_eq_div]
  cases x <;> simp <;> omega

theorem encX_fields (hn : n ≤ 2 ^ 23) (h : encX op n x i = some w) : w / 2 ^ 24 = op ∧ bitAt w 23 = x ∧ bitsOf w 22 0 = i := by
  obtain ⟨hi, hw⟩ := Option.ite_none_right_eq_some.mp h
  cases hw
  rw [bitAt_eq_div, bitsOf_eq_div]
  cases x <;> simp <;> omega

theorem encI_fields {imm : Int} (h : encI op imm = some w) : w / 2 ^ 24 = op ∧ toSigned 20 (bitsOf w 19 0) = imm := by
  obtain ⟨⟨hlo, hhi⟩, hw⟩ := Option.ite_none_right_eq_some.mp h
  cases hw
  have hfit := toPattern_lt 20 imm
  have hbits : bitsOf (op * 2 ^ 24 + toPattern 20 imm) 19 0 = toPattern 20 imm := by
    rw [bitsOf_eq_div]
    omega
  rw [hbits]
  exact ⟨by omega, toSigned_toPattern (by decide) hlo hhi⟩

theorem encB_fields (h : encB op i = some w) : w / 2 ^ 24 = op ∧ bitsOf w 1 0 = i := by
  obtain ⟨hi, hw⟩ := Option.ite_none_right_eq_some.mp h
  cases hw
  rw [bitsOf_eq_div]
  omega

theorem encTI_fields {base count : Nat} (h : encTI op base count i = some w) :
    w / 2 ^ 24 = op ∧ bitsOf w 23 22 = base ∧ bitsOf w 21 10 = count ∧ bitsOf w 9 0 = i := by
  obtain ⟨⟨hbase, hcount, hi⟩, hw⟩ := Option.ite_none_right_eq_some.mp h
  cases hw
  simp only [bitsOf_eq_div, furTimers] at *
  omega

theorem encTW_fields {word : Nat} (h : encTW op word i = some w) : w / 2 ^ 24 = op ∧ bitsOf w 20 10 = word ∧ bitsOf w 9 0 = i := by
  obtain ⟨⟨hword, hi⟩, hw⟩ := Option.ite_none_right_eq_some.mp h
  cases hw
  simp only [bitsOf_eq_div, furWords, furTimers] at *
  omega

theorem encCW_fields {word : Nat} (h : encCW op word i = some w) : w / 2 ^ 24 = op ∧ bitsOf w 19 9 = word ∧ bitsOf w 8 0 = i := by
  obtain ⟨⟨hword, hi⟩, hw⟩ := Option.ite_none_right_eq_some.mp h
  cases hw
  simp only [bitsOf_eq_div, furWords, furCounters] at *
  omega

theorem encLow_fields (hn : n ≤ 2 ^ 16) (h : encLow op n i = some w) : w / 2 ^ 24 = op ∧ bitsOf w 15 0 = i := by
  obtain ⟨hi, hw⟩ := Option.ite_none_right_eq_some.mp h
  cases hw
  rw [bitsOf_eq_div]
  omega

theorem encR_fields {count str len : Nat} (h : encR op x count str len = some w) :
    w / 2 ^ 24 = op ∧ bitAt w 23 = x ∧ bitsOf w 22 11 = count ∧ bitsOf w 10 8 = str ∧ bitsOf w 7 0 = len := by
  obtain ⟨⟨hstr, -, hlen, hcount⟩, hw⟩ := Option.ite_none_right_eq_some.mp h
  cases hw
  rw [bitAt_eq_div]
  simp only [bitsOf_eq_div, furWords] at *
  cases x <;> simp at hcount ⊢ <;> omega

/-! ### The opcodes -/

/-- The word `w` carries opcode `op` and its fields give the instruction `c`. -/
def FurWordOf (op w : Nat) (c : Instr) : Prop := w / 2 ^ 24 = op ∧ furFields w = some c

theorem furWordOf_encN {c : Instr} (h : encN op = some w)
    (hc : ∀ w, w / 2 ^ 24 = op → furFields w = some c := by intro w hw; unfold furFields; rw [hw]; rfl) : FurWordOf op w c :=
  ⟨encN_fields h, hc w (encN_fields h)⟩

theorem furWordOf_encA {mk : Bool → Instr} (h : encA op x = some w)
    (hmk : ∀ w, w / 2 ^ 24 = op → furFields w = some (mk (bitAt w 0)) := by intro w hw; unfold furFields; rw [hw]; rfl) : FurWordOf op w (mk x) := by
  obtain ⟨hop, rfl⟩ := encA_fields h
  exact ⟨hop, hmk w hop⟩

theorem furWordOf_encX {mk : Bool → Nat → Instr} (h : encX op n x i = some w) (hn : n ≤ 2 ^ 23 := by decide)
    (hmk : ∀ w, w / 2 ^ 24 = op → furFields w = some (mk (bitAt w 23) (bitsOf w 22 0)) := by intro w hw; unfold furFields; rw [hw]; rfl) :
    FurWordOf op w (mk x i) := by
  obtain ⟨hop, rfl, rfl⟩ := encX_fields hn h
  exact ⟨hop, hmk w hop⟩

theorem furWordOf_encI {imm : Int} {mk : Int → Instr} (h : encI op imm = some w)
    (hmk : ∀ w, w / 2 ^ 24 = op → furFields w = some (mk (toSigned 20 (bitsOf w 19 0))) := by intro w hw; unfold furFields; rw [hw]; rfl) :
    FurWordOf op w (mk imm) := by
  obtain ⟨hop, rfl⟩ := encI_fields h
  exact ⟨hop, hmk w hop⟩

theorem furWordOf_encB {mk : Nat → Instr} (h : encB op i = some w)
    (hmk : ∀ w, w / 2 ^ 24 = op → furFields w = some (mk (bitsOf w 1 0)) := by intro w hw; unfold furFields; rw [hw]; rfl) : FurWordOf op w (mk i) := by
  obtain ⟨hop, rfl⟩ := encB_fields h
  exact ⟨hop, hmk w hop⟩

theorem furWordOf_encTI {base count : Nat} {mk : Nat → Nat → Nat → Instr} (h : encTI op base count i = some w)
    (hmk : ∀ w, w / 2 ^ 24 = op → furFields w = some (mk (bitsOf w 23 22) (bitsOf w 21 10) (bitsOf w 9 0)) := by
      intro w hw; unfold furFields; rw [hw]; rfl) : FurWordOf op w (mk base count i) := by
  obtain ⟨hop, rfl, rfl, rfl⟩ := encTI_fields h
  exact ⟨hop, hmk w hop⟩

theorem furWordOf_encTW {word : Nat} {mk : Nat → Nat → Instr} (h : encTW op word i = some w)
    (hmk : ∀ w, w / 2 ^ 24 = op → furFields w = some (mk (bitsOf w 20 10) (bitsOf w 9 0)) := by intro w hw; unfold furFields; rw [hw]; rfl) :
    FurWordOf op w (mk word i) := by
  obtain ⟨hop, rfl, rfl⟩ := encTW_fields h
  exact ⟨hop, hmk w hop⟩

theorem furWordOf_encCW {word : Nat} {mk : Nat → Nat → Instr} (h : encCW op word i = some w)
    (hmk : ∀ w, w / 2 ^ 24 = op → furFields w = some (mk (bitsOf w 19 9) (bitsOf w 8 0)) := by intro w hw; unfold furFields; rw [hw]; rfl) :
    FurWordOf op w (mk word i) := by
  obtain ⟨hop, rfl, rfl⟩ := encCW_fields h
  exact ⟨hop, hmk w hop⟩

theorem furWordOf_encLow {mk : Nat → Instr} (h : encLow op n i = some w) (hn : n ≤ 2 ^ 16 := by decide)
    (hmk : ∀ w, w / 2 ^ 24 = op → furFields w = some (mk (bitsOf w 15 0)) := by intro w hw; unfold furFields; rw [hw]; rfl) :
    FurWordOf op w (mk i) := by
  obtain ⟨hop, rfl⟩ := encLow_fields hn h
  exact ⟨hop, hmk w hop⟩

theorem furWordOf_encR {count str len : Nat} {mk : Bool → Nat → Nat → Nat → Instr} (h : encR op x count str len = some w)
    (hmk : ∀ w, w / 2 ^ 24 = op → furFields w = some (mk (bitAt w 23) (bitsOf w 22 11) (bitsOf w 10 8) (bitsOf w 7 0)) := by
      intro w hw; unfold furFields; rw [hw]; rfl) : FurWordOf op w (mk x count str len) := by
  obtain ⟨hop, rfl, rfl, rfl, rfl⟩ := encR_fields h
  exact ⟨hop, hmk w hop⟩

end

/-- The word of a Furrow instruction carries its opcode, below 256, and its fields give the instruction back. -/
theorem furWordOf_of_furEncode {c : Instr} {w : Nat} (h : furEncode c = some w) : ∃ op < 256, FurWordOf op w c ∧ c.furrow = true := by
  -- the cases stand in the order of the opcode table
  unfold furEncode at h
  split at h
  · exact ⟨_, by decide, furWordOf_encN h, rfl⟩
  · exact ⟨_, by decide, furWordOf_encX h, rfl⟩
  · exact ⟨_, by decide, furWordOf_encX h, rfl⟩
  · exact ⟨_, by decide, furWordOf_encX h, rfl⟩
  · exact ⟨_, by decide, furWordOf_encX h, rfl⟩
  · exact ⟨_, by decide, furWordOf_encX h, rfl⟩
  · exact ⟨_, by decide, furWordOf_encX h, rfl⟩
  · exact ⟨_, by decide, furWordOf_encX h, rfl⟩
  · exact ⟨_, by decide, furWordOf_encX h, rfl⟩
  · exact ⟨_, by decide, furWordOf_encX h, rfl⟩
  · exact ⟨_, by decide, furWordOf_encX h, rfl⟩
  · exact ⟨_, by decide, furWordOf_encX h, rfl⟩
  · exact ⟨_, by decide, furWordOf_encN h, rfl⟩
  · exact ⟨_, by decide, furWordOf_encA h, rfl⟩
  · exact ⟨_, by decide, furWordOf_encB h, rfl⟩
  · exact ⟨_, by decide, furWordOf_encN h, rfl⟩
  · exact ⟨_, by decide, furWordOf_encX h, rfl⟩
  · exact ⟨_, by decide, furWordOf_encX h, rfl⟩
  · exact ⟨_, by decide, furWordOf_encTI h, rfl⟩
  · exact ⟨_, by decide, furWordOf_encTI h, rfl⟩
  · exact ⟨_, by decide, furWordOf_encTI h, rfl⟩
  · exact ⟨_, by decide, furWordOf_encTW h, rfl⟩
  · exact ⟨_, by decide, furWordOf_encTW h, rfl⟩
  · exact ⟨_, by decide, furWordOf_encTW h, rfl⟩
  · exact ⟨_, by decide, furWordOf_encLow h, rfl⟩
  · exact ⟨_, by decide, furWordOf_encLow h, rfl⟩
  · exact ⟨_, by decide, furWordOf_encCW h, rfl⟩
  · exact ⟨_, by decide, furWordOf_encCW h, rfl⟩
  · exact ⟨_, by decide, furWordOf_encLow h, rfl⟩
  · exact ⟨_, by decide, furWordOf_encLow h, rfl⟩
  · exact ⟨_, by decide, furWordOf_encX h, rfl⟩
  · exact ⟨_, by decide, furWordOf_encI h, rfl⟩
  · exact ⟨_, by decide, furWordOf_encX h, rfl⟩
  · exact ⟨_, by decide, furWordOf_encX h, rfl⟩
  · exact ⟨_, by decide, furWordOf_encX h, rfl⟩
  · exact ⟨_, by decide, furWordOf_encX h, rfl⟩
  · exact ⟨_, by decide, furWordOf_encX h, rfl⟩
  · exact ⟨_, by decide, furWordOf_encX h, rfl⟩
  · exact ⟨_, by decide, furWordOf_encI h, rfl⟩
  · exact ⟨_, by decide, furWordOf_encX h, rfl⟩
  · exact ⟨_, by decide, furWordOf_encX h, rfl⟩
  · exact ⟨_, by decide, furWordOf_encX h, rfl⟩
  · exact ⟨_, by decide, furWordOf_encX h, rfl⟩
  · exact ⟨_, by decide, furWordOf_encN h, rfl⟩
  · exact ⟨_, by decide, furWordOf_encN h, rfl⟩
  · exact ⟨_, by decide, furWordOf_encX h, rfl⟩
  · exact ⟨_, by decide, furWordOf_encX h, rfl⟩
  · exact ⟨_, by decide, furWordOf_encX h, rfl⟩
  · exact ⟨_, by decide, furWordOf_encX h, rfl⟩
  · exact ⟨_, by decide, furWordOf_encX h, rfl⟩
  · exact ⟨_, by decide, furWordOf_encX h, rfl⟩
  · exact ⟨_, by decide, furWordOf_encI h, rfl⟩
  · exact ⟨_, by decide, furWordOf_encI h, rfl⟩
  · exact ⟨_, by decide, furWordOf_encI h, rfl⟩
  · exact ⟨_, by decide, furWordOf_encI h, rfl⟩
  · exact ⟨_, by decide, furWordOf_encI h, rfl⟩
  · exact ⟨_, by decide, furWordOf_encI h, rfl⟩
  · exact ⟨_, by decide, furWordOf_encLow h, rfl⟩
  · exact ⟨_, by decide, furWordOf_encLow h, rfl⟩
  · exact ⟨_, by decide, furWordOf_encN h, rfl⟩
  · exact ⟨_, by decide, furWordOf_encLow h, rfl⟩
  · exact ⟨_, by decide, furWordOf_encLow h, rfl⟩
  · exact ⟨_, by decide, furWordOf_encLow h, rfl⟩
  · exact ⟨_, by decide, furWordOf_encR h, rfl⟩
  · exact ⟨_, by decide, furWordOf_encN h, rfl⟩
  · cases h

/-- A word decodes to the instruction its fields give exactly where it is that instruction's word. -/
theorem furDecode_eq_some {w : Nat} {c : Instr} : furDecode w = some c ↔ furFields w = some c ∧ furEncode c = some w := by
  simp [furDecode, Option.filter_eq_some_iff]

/-- Settles O4: the fields of an instruction's word give the instruction back, and a word decodes only to an instruction whose word it is. -/
theorem furrowWordsRoundTrip : Obligations.FurrowWordsRoundTrip := by
  refine ⟨fun c w h => ?_, fun c w h => (furDecode_eq_some.mp h).2⟩
  obtain ⟨op, hop, ⟨hdiv, hfields⟩, hfurrow⟩ := furWordOf_of_furEncode h
  exact ⟨furDecode_eq_some.mpr ⟨hfields, h⟩, by omega, hfurrow⟩

end Sys2Proof.Machine
end

section
/-! SUPPORT. The step of a Furrow scan (R273, R289-R295): what an instruction the scan has reached makes of it, and how the scan goes on. -/

namespace Sys2Proof.Machine

/-! ### The instruction the scan has reached -/

/-- What stands behind a scan that has reached the unmarked word of an instruction. -/
theorem State.scanAt_iff {s : State} {i : Instr} {sc : Scan} : s.scanAt i sc = true ↔
    s.bedOn = true ∧ s.furState = 1 ∧ s.fur.scan = some sc ∧ sc.ended = none ∧ (furEncode i).isSome = true ∧
      s.furCode sc.pc = furEncode i ∧ s.fur.badCode.contains sc.pc = false := by
  simp [State.scanAt, and_assoc]

/-- The scan runs its instruction's effect, with its address moved past it. -/
theorem State.furRun_at {s : State} {i : Instr} {sc : Scan} (f : State → Scan → FurOut) (h : s.scanAt i sc = true) :
    (∀ c, f s { sc with pc := sc.pc + 1 } = .fault c → s.furRun (furEncode i) f = s.furAbort sc c sc.pc) ∧
      ∀ t n, f s { sc with pc := sc.pc + 1 } = .ok t n →
        s.furRun (furEncode i) f = if n.ended.isSome then t.scanDone n else t.scanNext n := by
  obtain ⟨hbed, hrun, hscan, hgoes, hword, hcode, hclean⟩ := State.scanAt_iff.mp h
  have hnow : s.scanNow = some sc := by simp [State.scanNow, hscan, hgoes]
  have hthere : ¬ (s.bedOn = false ∨ s.furState ≠ 1 ∨ furEncode i = none ∨ s.furCode sc.pc ≠ furEncode i) := by
    simp [hbed, hrun, hcode, Option.isSome_iff_ne_none.mp hword]
  constructor
  · intro c hf
    simp only [State.furRun, hnow, if_neg hthere, hclean, Bool.false_eq_true, if_false, hf]
  · intro t n hf
    simp only [State.furRun, hnow, if_neg hthere, hclean, Bool.false_eq_true, if_false, hf]

/-- A fault aborts the scan at the instruction. -/
theorem State.furRun_fault {s : State} {i : Instr} {sc : Scan} {f : State → Scan → FurOut} {c : Nat} (h : s.scanAt i sc = true)
    (hf : f s { sc with pc := sc.pc + 1 } = .fault c) : s.furRun (furEncode i) f = s.furAbort sc c sc.pc := (State.furRun_at f h).1 c hf

/-- An effect that does not end the scan lets it go on. -/
theorem State.furRun_goesOn {s t : State} {i : Instr} {sc n : Scan} {f : State → Scan → FurOut} (h : s.scanAt i sc = true)
    (hf : f s { sc with pc := sc.pc + 1 } = .ok t n) (hn : n.ended = sc.ended) : s.furRun (furEncode i) f = t.scanNext n := by
  obtain ⟨-, -, -, hgoes, -⟩ := State.scanAt_iff.mp h
  rw [(State.furRun_at f h).2 t n hf, hn, hgoes]
  rfl

/-- The operand of an instruction whose entry exists and carries no mark is read. -/
theorem State.furGet_clear {s : State} {area i : Nat} {sc : Scan} {x : Bool} (k : Nat → FurOut) (h : s.furClear area (sc.at x i) = true) :
    s.furGet area sc x i k = k (sc.at x i) := by
  rw [State.furClear, Bool.and_eq_true, decide_eq_true_eq, Bool.not_eq_true'] at h
  obtain ⟨hin, hclean⟩ := h
  simp [State.furGet, Nat.not_le.mpr hin, hclean]

/-! ### How a scan goes on (R294, R295) -/

/-- Away from the end of a REP body the scan stays as it is. -/
theorem Scan.passEnd_inside {sc : Scan} (h : sc.rep = none ∨ ∃ r, sc.rep = some r ∧ sc.pc ≠ r.start + r.len) : sc.passEnd = sc := by
  unfold Scan.passEnd
  obtain hnone | ⟨r, hrep, hpc⟩ := h
  · rw [hnone]
  · simp [hrep, hpc]

/-- At the end of a pass that is not the last the next pass begins. -/
theorem Scan.passEnd_again {sc : Scan} {r : Rep} (hrep : sc.rep = some r) (hpc : sc.pc = r.start + r.len) (hmore : r.pass + 1 < r.n) :
    sc.passEnd = { sc with pc := r.start, x := (r.pass + 1) <<< r.str, rep := some { r with pass := r.pass + 1 } } := by
  simp [Scan.passEnd, hrep, hpc, hmore, Nat.shiftLeft_eq]

/-- At the end of the last pass the REP ends. -/
theorem Scan.passEnd_last {sc : Scan} {r : Rep} (hrep : sc.rep = some r) (hpc : sc.pc = r.start + r.len) (hlast : r.n ≤ r.pass + 1) :
    sc.passEnd = { sc with x := 0, rep := none } := by
  simp [Scan.passEnd, hrep, hpc, Nat.not_lt.mpr hlast]

/-- The end of a pass does not look at the accumulators. -/
theorem Scan.passEnd_pc_congr {sc n : Scan} (hrep : n.rep = sc.rep) (hpc : n.pc = sc.pc) : n.passEnd.pc = sc.passEnd.pc := by
  unfold Scan.passEnd
  rw [hrep, hpc]
  split
  · exact hpc
  · split_ifs
    · exact hpc
    · rfl
    · rfl

/-- A scan that comes to an instruction keeps its state. -/
theorem State.scanNext_inside {s : State} {sc : Scan} (h : (s.furCode sc.passEnd.pc).isSome = true) :
    s.scanNext sc = { s with fur := { s.fur with scan := some sc.passEnd } } := by
  have hthere : (s.furCode sc.passEnd.pc).isNone = false := by simpa [Option.isSome_iff_ne_none] using h
  simp [State.scanNext, hthere, State.setFur]

/-- A scan that passes the last instruction is aborted with PCEND. -/
theorem State.scanNext_beyond {s : State} {sc : Scan} (hrep : sc.rep = none) (h : s.furCode sc.pc = none) :
    s.scanNext sc = s.furAbort sc 0xA sc.pc := by
  simp [State.scanNext, Scan.passEnd_inside (.inl hrep), h]

/-! ### What each kind of instruction makes of the scan (R289, R291, R293) -/

section
variable {s : State} {c : Instr} {sc : Scan} {x : Bool} {i : Nat}

/-- An instruction on the accumulators alone. -/
theorem State.furRun_acc {g : Scan → Scan} (h : s.scanAt c sc = true)
    (hg : (g { sc with pc := sc.pc + 1 }).ended = sc.ended := by rfl) :
    s.furRun (furEncode c) (furAcc g) = s.scanNext (g { sc with pc := sc.pc + 1 }) := State.furRun_goesOn h rfl hg

theorem State.furRun_flagOp {g : Bool → Bool → Bool} (h : s.scanAt c sc = true) (hi : s.furClear 0 (sc.at x i) = true) :
    s.furRun (furEncode c) (furFlagOp x i g) = s.scanNext { sc with pc := sc.pc + 1, a := g sc.a (s.furFlag (sc.at x i)) } :=
  State.furRun_goesOn h (State.furGet_clear _ hi) rfl

theorem State.furRun_flagSt {go v : Bool → Bool} (h : s.scanAt c sc = true) (hi : sc.at x i < 8192) :
    s.furRun (furEncode c) (furFlagSt x i go v) =
      (if go sc.a = true then s.setFlag (sc.at x i) (v sc.a) else s).scanNext { sc with pc := sc.pc + 1 } :=
  State.furRun_goesOn h (if_neg (Nat.not_le.mpr hi)) rfl

theorem State.furRun_edgeOp {g : Bool → Bool → Bool} (h : s.scanAt c sc = true) (hi : s.furClear 4 (sc.at x i) = true) :
    s.furRun (furEncode c) (furEdgeOp x i g) =
      (s.setEdge (sc.at x i) sc.a).scanNext { sc with pc := sc.pc + 1, a := g sc.a (s.furEdge (sc.at x i)) } :=
  State.furRun_goesOn h (State.furGet_clear _ hi) rfl

theorem furWordOp_ok {g : Int → Int → Option Int} {v : Int} (hi : s.furClear 1 (sc.at x i) = true)
    (hg : g sc.w (s.furWord (sc.at x i)) = some v) : furWordOp x i g s sc = .ok s (sc.setW v) := by
  rw [furWordOp, State.furGet_clear _ hi, hg]

theorem State.furRun_wordOp {g : Int → Int → Option Int} {v : Int} (h : s.scanAt c sc = true) (hi : s.furClear 1 (sc.at x i) = true)
    (hg : g sc.w (s.furWord (sc.at x i)) = some v := by rfl) :
    s.furRun (furEncode c) (furWordOp x i g) =
      s.scanNext { sc with pc := sc.pc + 1, w := sat36 v, sat := sc.sat || decide (sat36 v ≠ v) } :=
  State.furRun_goesOn h (furWordOp_ok (sc := { sc with pc := sc.pc + 1 }) hi hg) rfl

theorem State.furRun_cmp {r : Int → Int → Bool} (h : s.scanAt c sc = true) (hi : s.furClear 1 (sc.at x i) = true) :
    s.furRun (furEncode c) (furCmp x i r) = s.scanNext { sc with pc := sc.pc + 1, a := r sc.w (s.furWord (sc.at x i)) } :=
  State.furRun_goesOn h (State.furGet_clear _ hi) rfl

/-- A store of w outside the constant region, where its condition holds. -/
theorem furWordSt_ok {go : Bool → Bool} (hi : sc.at x i < 2048) (hgo : go sc.a = true)
    (hvar : (s.fur.active.map (fun p => p.isConst (sc.at x i))).getD false = false) :
    furWordSt x i go s sc = .ok (s.setWord (sc.at x i) sc.w) sc := by
  simp [furWordSt, furWords, Nat.not_le.mpr hi, hgo, hvar]

theorem State.furRun_wordSt {go : Bool → Bool} (h : s.scanAt c sc = true) (hi : sc.at x i < 2048) (hgo : go sc.a = true)
    (hvar : (s.fur.active.map (fun p => p.isConst (sc.at x i))).getD false = false) :
    s.furRun (furEncode c) (furWordSt x i go) = (s.setWord (sc.at x i) sc.w).scanNext { sc with pc := sc.pc + 1 } :=
  State.furRun_goesOn h (furWordSt_ok (sc := { sc with pc := sc.pc + 1 }) hi hgo hvar) rfl

/-- An instruction that reads one unindexed entry. -/
theorem State.furRun_get {area : Nat} {g : State → Scan → Nat → Scan} (h : s.scanAt c sc = true) (hi : s.furClear area i = true)
    (hg : (g s { sc with pc := sc.pc + 1 } i).ended = sc.ended := by rfl) :
    s.furRun (furEncode c) (fun s n => s.furGet area n false i (fun k => .ok s (g s n k))) = s.scanNext (g s { sc with pc := sc.pc + 1 } i) :=
  State.furRun_goesOn h (State.furGet_clear (sc := { sc with pc := sc.pc + 1 }) (x := false) _ hi) hg

end

end Sys2Proof.Machine
end

section
/-! SUPPORT. The flag and word instructions of Furrow (R289-R291, R293-R295), each by the rule of its kind. -/

namespace Sys2Proof.Machine

/-- The stack operation of a CLOSE, by its number. -/
theorem logicOp_of_le {op : Nat} (v a : Bool) : logicOp op v a = if op = 0 then v && a else if op = 1 then v || a else xor v a := rfl

theorem furPush_ok {s : State} {sc : Scan} (op : Nat) (h : sc.stack.length < 16) :
    furPush op s sc = .ok s { sc with stack := (sc.a, op) :: sc.stack } := if_neg (Nat.not_le.mpr h)

theorem furPop_ok {s : State} {sc : Scan} {v : Bool} {op : Nat} {r : List (Bool × Nat)} (h : sc.stack = (v, op) :: r) :
    furPop s sc = .ok s { sc with a := logicOp op v sc.a, stack := r } := by
  simp only [furPop, h]

/-- Settles O28: each flag, stack and edge instruction has its kind's effect on a, and the scan goes on. -/
theorem furrowFlagInstructionsComplete : Obligations.FurrowFlagInstructionsComplete := by
  refine ⟨fun s sc h => ⟨_, rfl, State.furRun_acc h⟩,
    fun s sc x f h hf => ⟨_, rfl, State.furRun_flagOp h hf⟩,
    fun s sc x f h hf => ⟨_, rfl, State.furRun_flagOp h hf⟩,
    fun s sc x f h hf => ⟨_, rfl, State.furRun_flagOp h hf⟩,
    fun s sc x f h hf => ⟨_, rfl, State.furRun_flagOp h hf⟩,
    fun s sc x f h hf => ⟨_, rfl, State.furRun_flagOp h hf⟩,
    fun s sc x f h hf => ⟨_, rfl, State.furRun_flagOp h hf⟩,
    fun s sc x f h hf => ⟨_, rfl, State.furRun_flagOp h hf⟩,
    fun s sc x f h hf => ⟨_, rfl, State.furRun_flagSt h hf⟩,
    fun s sc x f h hf => ⟨_, rfl, State.furRun_flagSt h hf⟩,
    fun s sc x f h hf => ⟨_, rfl, State.furRun_flagSt h hf⟩,
    fun s sc x f h hf => ⟨_, rfl, State.furRun_flagSt h hf⟩,
    fun s sc h => ⟨_, rfl, State.furRun_acc h⟩,
    fun s sc bit h => ⟨_, rfl, State.furRun_acc h⟩,
    fun s sc op h hroom => ⟨_, rfl, State.furRun_goesOn h (furPush_ok op hroom) rfl⟩,
    fun s sc v op r h hstack _ => ⟨_, rfl, State.furRun_goesOn h (furPop_ok hstack) rfl⟩,
    fun s sc x e h he => ⟨_, rfl, State.furRun_edgeOp h he⟩,
    fun s sc x e h he => ⟨_, rfl, State.furRun_edgeOp h he⟩⟩

/-- Settles O29: each word instruction and comparison has its kind's effect on w, a or a word, and the scan goes on. -/
theorem furrowWordInstructionsComplete : Obligations.FurrowWordInstructionsComplete := by
  refine ⟨fun s sc x i h hi => ⟨_, rfl, State.furRun_wordOp h hi⟩,
    fun s sc imm h => ⟨_, rfl, State.furRun_acc h⟩,
    fun s sc x i h hi hvar => ⟨_, rfl, State.furRun_wordSt h hi rfl hvar⟩,
    fun s sc x i h hi ha hvar => ⟨_, rfl, (State.furRun_wordSt h hi ha hvar).trans (by rw [if_pos ha])⟩,
    fun s sc x i h hi => ⟨_, rfl, State.furRun_wordOp h hi⟩,
    fun s sc x i h hi => ⟨_, rfl, State.furRun_wordOp h hi⟩,
    fun s sc x i h hi => ⟨_, rfl, State.furRun_wordOp h hi⟩,
    fun s sc x i h hi hdiv => ⟨_, rfl, State.furRun_wordOp h hi (if_neg hdiv)⟩,
    fun s sc imm h => ⟨_, rfl, State.furRun_acc h⟩,
    fun s sc x i h hi => ⟨_, rfl, State.furRun_wordOp h hi⟩,
    fun s sc x i h hi => ⟨_, rfl, State.furRun_wordOp h hi⟩,
    fun s sc x i h hi => ⟨_, rfl, State.furRun_wordOp h hi⟩,
    fun s sc x i h hi => ⟨_, rfl, State.furRun_wordOp h hi⟩,
    fun s sc h => ⟨_, rfl, State.furRun_acc h⟩,
    fun s sc h => ⟨_, rfl, State.furRun_acc h⟩,
    fun s sc x i h hi => ⟨_, rfl, State.furRun_cmp h hi⟩,
    fun s sc x i h hi => ⟨_, rfl, State.furRun_cmp h hi⟩,
    fun s sc x i h hi => ⟨_, rfl, State.furRun_cmp h hi⟩,
    fun s sc x i h hi => ⟨_, rfl, State.furRun_cmp h hi⟩,
    fun s sc x i h hi => ⟨_, rfl, State.furRun_cmp h hi⟩,
    fun s sc x i h hi => ⟨_, rfl, State.furRun_cmp h hi⟩,
    fun s sc imm h => ⟨_, rfl, State.furRun_acc h⟩,
    fun s sc imm h => ⟨_, rfl, State.furRun_acc h⟩,
    fun s sc imm h => ⟨_, rfl, State.furRun_acc h⟩,
    fun s sc imm h => ⟨_, rfl, State.furRun_acc h⟩,
    fun s sc imm h => ⟨_, rfl, State.furRun_acc h⟩,
    fun s sc imm h => ⟨_, rfl, State.furRun_acc h⟩,
    fun s sc n h hn => ⟨_, rfl, State.furRun_get (g := fun s n k => { n with w := (s.furTimer k).et }) h hn⟩,
    fun s sc n h hn => ⟨_, rfl, State.furRun_get (g := fun s n k => { n with w := (s.furCounter k).cv }) h hn⟩,
    fun s sc h => ⟨_, rfl, State.furRun_acc h⟩⟩

end Sys2Proof.Machine
end

section
/-! SUPPORT. What ring entries, records and status flags leave alone of Furrow (R287, R307): its memories, its scan and the registers of
block FUR. -/

namespace Sys2Proof.Machine

theorem State.EntersTo.fur {s t : State} (h : s.EntersTo t) : t.fur = s.fur := (congrArg State.fur h.eq).trans rfl

/-- `t` differs from `s`, in Furrow and block FUR, at most in the registers `S`. -/
structure State.SparesFurrow (S : Set Nat) (s t : State) : Prop where
  fur : t.fur = s.fur
  reg : ∀ k, k / 0x1000 = 0xA → k ∉ S → t.reg k = s.reg k

namespace State.SparesFurrow

variable {S : Set Nat} {s t u : State}

theorem refl (s : State) : SparesFurrow S s s := ⟨rfl, fun _ _ _ => rfl⟩

theorem trans (h : SparesFurrow S s t) (h' : SparesFurrow S t u) : SparesFurrow S s u :=
  ⟨h'.fur.trans h.fur, fun k hk hS => (h'.reg k hk hS).trans (h.reg k hk hS)⟩

theorem mono {T : Set Nat} (h : SparesFurrow S s t) (hST : S ⊆ T) : SparesFurrow T s t :=
  ⟨h.fur, fun k hk hT => h.reg k hk fun hS => hT (hST hS)⟩

theorem rd (h : SparesFurrow S s t) {f : Fld} (hf : f.addr / 0x1000 = 0xA) (hS : f.addr ∉ S) : t.rd f = s.rd f :=
  State.rd_congr (h.reg _ hf hS)

theorem ite (c : Prop) [Decidable c] (h : c → SparesFurrow S s t) (h' : ¬ c → SparesFurrow S s u) : SparesFurrow S s (if c then t else u) := by
  split
  · exact h ‹_›
  · exact h' ‹_›

/-- A loop keeps what each of its rounds keeps. -/
theorem foldl {α : Type} (f : State → α → State) (h : ∀ (x : State) a, SparesFurrow S x (f x a)) (l : List α) (s : State) :
    SparesFurrow S s (l.foldl f s) :=
  List.foldlRecOn (motive := fun x : State => SparesFurrow S s x) l f (refl s) fun x hx a _ => hx.trans (h x a)

theorem of_entersTo (h : s.EntersTo t) : SparesFurrow S s t :=
  ⟨h.fur, fun k hk _ => h.reg k (by unfold entryBlock; omega)⟩

theorem wrFur (s : State) {f : Fld} (v : Nat) (h : f.addr ∈ S) : SparesFurrow S s (s.wr f v) :=
  ⟨rfl, fun _ _ hS => s.reg_wr_other v fun e => hS (e ▸ h)⟩

theorem wr (s : State) {f : Fld} (v : Nat) (h : f.addr / 0x1000 ≠ 0xA) : SparesFurrow S s (s.wr f v) :=
  ⟨rfl, fun _ hk _ => s.reg_wr_other v fun e => h (e ▸ hk)⟩

theorem tickFree (s : State) : SparesFurrow S s s.tickFree := ⟨rfl, fun _ _ _ => rfl⟩

theorem notify (s : State) (stat ie : Fld) : SparesFurrow S s (s.notify stat ie) := by
  unfold State.notify
  split <;> exact ⟨rfl, fun _ _ _ => rfl⟩

theorem flagFur (s : State) {stat : Fld} (ie : Fld) (h : stat.addr ∈ S) : SparesFurrow S s (s.flag stat ie) :=
  (wrFur s 1 h).trans (notify _ _ _)

theorem flag (s : State) {stat : Fld} (ie : Fld) (h : stat.addr / 0x1000 ≠ 0xA) : SparesFurrow S s (s.flag stat ie) :=
  (wr s 1 h).trans (notify _ _ _)

theorem record (s : State) (src ev sev p0 p1 p2 : Nat) : SparesFurrow S s (s.record src ev sev p0 p1 p2) :=
  of_entersTo (.of_recordsTo (.record _ _ _ _ _ _ _))

theorem eventEntry (s : State) (q op tag estat : Nat) (result : Bytes) (ip : Bool) :
    SparesFurrow S s (s.eventEntry q op tag estat result ip).1 := of_entersTo (.eventEntry _ _ _ _ _ _ _)

theorem complete (s : State) (q : Nat) (d : Desc) (r : Result) : SparesFurrow S s (s.complete q d r) := of_entersTo (.complete _ _ _ _)

theorem put (s : State) (a : Nat) (b : Bytes) : SparesFurrow S s (s.put a b) := of_entersTo (.put _ _ _)

/-- An event on rings 28 and 29, and its record. -/
theorem furEvent (s : State) (tag cause place remain x : Nat) (rec : Option Nat) :
    SparesFurrow S s (s.furEvent tag cause place remain x rec) := by
  have hentries (r : Bytes) : SparesFurrow S s (((s.eventEntry 28 0x80 tag 0 r true).1).eventEntry 29 0x80 tag 0 r true).1 :=
    (eventEntry _ _ _ _ _ _ _).trans (eventEntry _ _ _ _ _ _ _)
  cases rec with
  | none => exact hentries _
  | some sev => exact (hentries _).trans (record _ _ _ _ _ _ _)

/-- The status area, written or not enabled. -/
theorem statArea (s : State) (sc : Scan) : SparesFurrow S s (s.statArea sc) := by
  unfold State.statArea
  exact ite _ (fun _ => refl s) fun _ => (((put s _ _).trans (put _ _ _)).trans (put _ _ _)).trans (tickFree _)

end State.SparesFurrow

/-! ### A fault (R296) -/

/-- The fault registers of a fault at an address. -/
def State.faultTold (s : State) (cause remain addr x : Nat) : State :=
  (((s.wr F.FUR_FAULT_CAUSE cause).wr F.FUR_FAULT_REMAIN remain).wr F.FUR_FAULTADDR_ADDR addr).wr F.FUR_FAULTRUN_X x

theorem State.faultTold_shows (s : State) {cause addr : Nat} (remain x : Nat) (hcause : cause < 16) (haddr : addr < 65536) :
    (s.faultTold cause remain addr x).rd F.FUR_FAULT_CAUSE = cause ∧ (s.faultTold cause remain addr x).rd F.FUR_FAULTADDR_ADDR = addr ∧
      (s.faultTold cause remain addr x).rd F.FUR_FAULTRUN_X = x % 2 ^ 24 := by
  unfold State.faultTold
  refine ⟨?_, ?_, State.rd_wr_same _ _ _ (by decide)⟩
  · simp (disch := decide) only [State.rd_wr_other, State.rd_wr_beside]
    exact s.rd_wr_fits (by decide) hcause
  · simp (disch := decide) only [State.rd_wr_other]
    exact State.rd_wr_fits _ (by decide) haddr

theorem State.faultTold_spares (s : State) (cause remain addr x : Nat) :
    SparesFurrow {Reg.FUR_FAULT, Reg.FUR_FAULTADDR, Reg.FUR_FAULTRUN} s (s.faultTold cause remain addr x) :=
  (((SparesFurrow.wrFur _ _ (by simp [F.FUR_FAULT_CAUSE])).trans (.wrFur _ _ (by simp [F.FUR_FAULT_REMAIN]))).trans
    (.wrFur _ _ (by simp [F.FUR_FAULTADDR_ADDR]))).trans (.wrFur _ _ (by simp [F.FUR_FAULTRUN_X]))

/-- The flag of a fault, its count, its event and the number of faults in a row. -/
def State.faultCounted (s : State) (cause addr remain x : Nat) : State :=
  (((s.flag F.FUR_STAT_FAULT F.FUR_CTL_IE_FAULT).inc F.FUR_ABRTCNT_CNT).furEvent 2 cause addr remain x (some sevFault)).inc F.FUR_FAULTRUN_RUN

theorem State.faultCounted_spares (s : State) (cause addr remain x : Nat) :
    SparesFurrow {Reg.FUR_STAT, Reg.FUR_ABRTCNT, Reg.FUR_FAULTRUN} s (s.faultCounted cause addr remain x) :=
  (((SparesFurrow.flagFur _ _ (by simp [F.FUR_STAT_FAULT])).trans (.wrFur _ _ (by simp [F.FUR_ABRTCNT_CNT]))).trans
    (.furEvent _ _ _ _ _ _ _)).trans (.wrFur _ _ (by simp [F.FUR_FAULTRUN_RUN]))

theorem State.faultCounted_shows (s : State) (cause addr remain x : Nat) :
    (s.faultCounted cause addr remain x).rd F.FUR_STAT_FAULT = 1 ∧
      (s.faultCounted cause addr remain x).rd F.FUR_FAULTRUN_X = s.rd F.FUR_FAULTRUN_X := by
  have hevent (t : State) {f : Fld} (hf : f.addr / 0x1000 = 0xA) : (t.furEvent 2 cause addr remain x (some sevFault)).rd f = t.rd f :=
    (SparesFurrow.furEvent (S := ∅) t _ _ _ _ _ _).rd hf (Set.notMem_empty _)
  unfold State.faultCounted State.inc State.incBy
  constructor
  · rw [State.rd_wr_other _ _ (by decide), hevent _ rfl, State.rd_wr_other _ _ (by decide)]
    exact State.flag_rd_same _ (by decide) rfl
  · rw [State.rd_wr_beside _ _ (by decide) (by decide) (by decide), hevent _ rfl, State.rd_wr_other _ _ (by decide)]
    exact State.flag_rd_other _ (by decide)

/-- A fault short of HALT that no poison causes is told and counted, and the scan is gone. -/
theorem State.furAbort_eq (s : State) (sc : Scan) {cause : Nat} (addr : Nat) (hmax : s.rd F.FUR_CTL_FAULTMAX = 0) (hpoison : cause ≠ 7)
    (hparity : cause ≠ 8) : ∃ remain, s.furAbort sc cause addr =
      (({ s with fur := { s.fur with scan := none, aborted := true, lastOvr := sc.overrun } } : State).faultTold cause remain addr
        sc.x).faultCounted cause (addr % 65536) remain sc.x := by
  unfold State.furAbort
  extract_lets remain f t₀ t₁ t₂ t₃ t₄ t₅
  refine ⟨remain, ?_⟩
  have ht₄ : t₄ = t₂ := (if_neg (by simp [hpoison, hparity])).trans (if_neg hparity)
  have ht₅ : t₅ = (t₀.faultTold cause remain addr sc.x).faultCounted cause (addr % 65536) remain sc.x :=
    congrArg (fun t : State => (t.furEvent 2 cause (addr % 65536) remain sc.x (some sevFault)).inc F.FUR_FAULTRUN_RUN) ht₄
  have hmax₅ : t₅.rd F.FUR_CTL_FAULTMAX = 0 := by
    rw [ht₅, (State.faultCounted_spares _ _ _ _ _).rd rfl (by decide), (State.faultTold_spares _ _ _ _ _).rd rfl (by decide)]
    exact hmax
  exact (if_neg fun h => h.1 hmax₅).trans ht₅

theorem State.furAbort_shows (s : State) (sc : Scan) {cause addr : Nat} (hmax : s.rd F.FUR_CTL_FAULTMAX = 0) (hcause : cause < 16)
    (haddr : addr < 65536) (hpoison : cause ≠ 7) (hparity : cause ≠ 8) :
    (s.furAbort sc cause addr).fur = { s.fur with scan := none, aborted := true, lastOvr := sc.overrun } ∧
      (s.furAbort sc cause addr).rd F.FUR_FAULT_CAUSE = cause ∧ (s.furAbort sc cause addr).rd F.FUR_FAULTADDR_ADDR = addr ∧
      (s.furAbort sc cause addr).rd F.FUR_FAULTRUN_X = sc.x % 2 ^ 24 ∧ (s.furAbort sc cause addr).rd F.FUR_STAT_FAULT = 1 := by
  obtain ⟨remain, heq⟩ := s.furAbort_eq sc addr hmax hpoison hparity
  rw [heq]
  generalize ht₀ : ({ s with fur := { s.fur with scan := none, aborted := true, lastOvr := sc.overrun } } : State) = t
  have ht : t.fur = { s.fur with scan := none, aborted := true, lastOvr := sc.overrun } := ht₀ ▸ rfl
  obtain ⟨hc, ha, hx⟩ := t.faultTold_shows remain sc.x hcause haddr
  have hspares := (t.faultTold cause remain addr sc.x).faultCounted_spares cause (addr % 65536) remain sc.x
  obtain ⟨hflag, hx'⟩ := (t.faultTold cause remain addr sc.x).faultCounted_shows cause (addr % 65536) remain sc.x
  exact ⟨(hspares.fur.trans (t.faultTold_spares _ _ _ _).fur).trans ht, (hspares.rd rfl (by decide)).trans hc, (hspares.rd rfl (by decide)).trans ha,
    hx'.trans hx, hflag⟩

/-! ### The end of a scan (R275) -/

/-- Measured quantities change their own registers only. -/
theorem State.measured_rd (s : State) {last peak f : Fld} (v : Nat) (hl : f.addr ≠ last.addr) (hp : f.addr ≠ peak.addr) :
    (s.measured last peak v).rd f = s.rd f := (State.rd_wr_other _ _ hp).trans (s.rd_wr_other _ hl)

/-- Furrow's busy time is kept beside everything else of Furrow. -/
theorem State.furBusy_shows (s : State) (busy : Nat) : (∃ load, (s.furBusy busy).fur = { s.fur with load := load }) ∧
    ∀ f : Fld, f.addr ≠ Reg.FUR_LOAD → (s.furBusy busy).rd f = s.rd f :=
  ⟨⟨_, rfl⟩, fun _ hf => State.measured_rd _ _ hf hf⟩

/-- The counters of a scan that ends. -/
def State.scanCounted (s : State) (d : Nat) (overrun : Bool) : State :=
  let t := ((s.wr F.FUR_FAULTRUN_RUN 0).wideAdd Reg.FUR_SCANCNT_LO 1).measured F.FUR_SCANTIME_LAST F.FUR_SCANTIME_PEAK (d / 1000)
  if overrun then t else t.inc (F.FUR_HISTn_CNT (min 15 (d * 16 / t.furCycle)))

theorem State.scanCounted_shows (s : State) (d : Nat) (overrun : Bool) :
    (s.scanCounted d overrun).fur = s.fur ∧ (s.scanCounted d overrun).rd F.FUR_FAULTRUN_RUN = 0 := by
  unfold State.scanCounted
  extract_lets t
  have ht : t.fur = s.fur ∧ t.rd F.FUR_FAULTRUN_RUN = 0 := by
    refine ⟨rfl, (State.measured_rd _ _ (by decide) (by decide)).trans ?_⟩
    exact s.rd_wr_fits (f := F.FUR_FAULTRUN_RUN) (by decide) (by decide)
  clear_value t
  split
  · exact ht
  · refine ⟨ht.1, (t.rd_wr_other _ ?_).trans ht.2⟩
    unfold F.FUR_HISTn_CNT Reg.FUR_HISTn F.FUR_FAULTRUN_RUN Reg.FUR_FAULTRUN
    dsimp only
    omega

/-- A scan that ends is kept with its end, its faults in a row are no more, and all else of Furrow stays but its load. -/
theorem State.scanDone_shows (s : State) (sc : Scan) :
    (∃ load, (s.scanDone sc).fur =
      { s.fur with scan := some { sc with ended := some s.now }, aborted := false, lastOvr := sc.overrun, load := load }) ∧
      (s.scanDone sc).rd F.FUR_FAULTRUN_RUN = 0 := by
  let t : State := { s with fur := { s.fur with scan := some { sc with ended := some s.now }, aborted := false, lastOvr := sc.overrun } }
  obtain ⟨hfur, hrun⟩ := t.scanCounted_shows (s.now - sc.started) sc.overrun
  obtain ⟨⟨load, hload⟩, hkept⟩ := (t.scanCounted (s.now - sc.started) sc.overrun).furBusy_shows (s.now - sc.started)
  have hstat : SparesFurrow ∅ _ (((t.scanCounted (s.now - sc.started) sc.overrun).furBusy (s.now - sc.started)).statArea sc) := .statArea _ sc
  refine ⟨⟨load, hstat.fur.trans (hload.trans (by rw [hfur]))⟩, (hstat.rd rfl (Set.notMem_empty _)).trans ((hkept _ (by decide)).trans hrun)⟩

end Sys2Proof.Machine
end

section
/-! SUPPORT. The timers, counters, jumps and repeats of Furrow (R292-R295), and the faults of its instructions (R296). -/

namespace Sys2Proof.Machine

/-! ### Timers (R292) -/

theorem Timer.on_shows (t : Timer) (a : Bool) (dt pt : Nat) : (t.on a dt pt).inp = a ∧
    (t.on a dt pt).et = (if a = true ∧ t.inp = true then min (t.et + dt) pt else 0) ∧
    (t.on a dt pt).q = (a && decide (pt ≤ (t.on a dt pt).et)) ∧ (t.on a dt pt).run = t.run := by
  unfold Timer.on
  refine ⟨rfl, ?_, rfl, rfl⟩
  simp

theorem Timer.off_shows (t : Timer) (a : Bool) (dt pt : Nat) : (t.off a dt pt).inp = a ∧
    (t.off a dt pt).et = (if a = true ∨ t.inp = true then 0 else if t.run = true then min (t.et + dt) pt else t.et) ∧
    (t.off a dt pt).run = (if a = true then false else if t.inp = true then decide (0 < pt) else t.run && decide ((t.off a dt pt).et < pt)) ∧
    (t.off a dt pt).q = (a || (t.off a dt pt).run) := by
  unfold Timer.off
  cases a <;> cases t.inp <;> cases t.run <;> simp

theorem Timer.pulse_shows (t : Timer) (a : Bool) (dt pt : Nat) : (t.pulse a dt pt).inp = a ∧
    (t.pulse a dt pt).et = (if a = true ∧ t.inp = false ∧ t.run = false then 0 else if t.run = true then min (t.et + dt) pt else t.et) ∧
    (t.pulse a dt pt).run = (if a = true ∧ t.inp = false ∧ t.run = false then decide (0 < pt) else t.run && decide ((t.pulse a dt pt).et < pt)) ∧
    (t.pulse a dt pt).q = (t.pulse a dt pt).run := by
  unfold Timer.pulse
  cases a <;> cases t.inp <;> cases t.run <;> simp

/-- A timer reads as it was stored, and the program stays. -/
theorem State.furTimer_setTimer (s : State) (n : Nat) (u : Timer) : (s.setTimer n u).furTimer n = u := SMap.get_set_same _ _ _ _

theorem State.furCounter_setCounter (s : State) (n : Nat) (u : Counter) : (s.setCounter n u).furCounter n = u := SMap.get_set_same _ _ _ _

section
variable {s : State} {c : Instr} {sc : Scan} {n : Nat}

/-- A scan that goes on to an instruction keeps the timers, whatever it makes of the accumulators. -/
theorem State.scanNext_furTimer {t : State} {m : Scan} (hcode : (s.furCode (({ sc with pc := sc.pc + 1 } : Scan).passEnd).pc).isSome = true)
    (ht : t.fur.active = s.fur.active) (hrep : m.rep = sc.rep) (hpc : m.pc = sc.pc + 1) (k : Nat) :
    (t.scanNext m).furTimer k = t.furTimer k ∧ (t.scanNext m).furCounter k = t.furCounter k := by
  have hm : m.passEnd.pc = ({ sc with pc := sc.pc + 1 } : Scan).passEnd.pc := Scan.passEnd_pc_congr hrep hpc
  have hthere : (t.furCode m.passEnd.pc).isSome = true := by
    rw [hm, State.furCode, ht]
    exact hcode
  rw [State.scanNext_inside hthere]
  exact ⟨rfl, rfl⟩

/-- A timer instruction stores the timer it evaluates, and Q becomes a. -/
theorem State.furRun_time {pt : Nat} {g : Timer → Bool → Nat → Nat → Timer} (h : s.scanAt c sc = true) (hn : s.furClear 2 n = true)
    (hcode : (s.furCode (({ sc with pc := sc.pc + 1 } : Scan).passEnd).pc).isSome = true) {f : State → Scan → FurOut}
    (hf : f s { sc with pc := sc.pc + 1 } = furTime n pt g s { sc with pc := sc.pc + 1 }) {u : Timer}
    (hu : u = { g (s.furTimer n) sc.a (s.timerDt (s.furTimer n) sc.tlatch) pt with last := some sc.tlatch }) :
    (s.furRun (furEncode c) f).furTimer n = u ∧
      s.furRun (furEncode c) f = (s.setTimer n u).scanNext { sc with pc := sc.pc + 1, a := u.q } := by
  have htime : f s { sc with pc := sc.pc + 1 } = .ok (s.setTimer n u) { sc with pc := sc.pc + 1, a := u.q } := by
    rw [hf, hu]
    exact State.furGet_clear (x := false) _ hn
  have hrun := State.furRun_goesOn h htime rfl
  refine ⟨?_, hrun⟩
  rw [hrun]
  exact (State.scanNext_furTimer (t := s.setTimer n u) (m := { sc with pc := sc.pc + 1, a := u.q }) hcode rfl rfl rfl n).1.trans
    (s.furTimer_setTimer n u)

theorem State.furTimeW_eq {word : Nat} {g : Timer → Bool → Nat → Nat → Timer} (hw : s.furClear 1 word = true) :
    furTimeW word n g s sc = furTime n ((clampI 0 34359738 (s.furWord word)).toNat * 1000) g s sc :=
  State.furGet_clear (x := false) _ hw

theorem State.furRun_onTimer {pt : Nat} (h : s.scanAt c sc = true) (hn : s.furClear 2 n = true)
    (hcode : (s.furCode (({ sc with pc := sc.pc + 1 } : Scan).passEnd).pc).isSome = true) {f : State → Scan → FurOut}
    (hf : f s { sc with pc := sc.pc + 1 } = furTime n pt Timer.on s { sc with pc := sc.pc + 1 }) {t : State}
    (ht : t = s.furRun (furEncode c) f) :
    t = (s.setTimer n (t.furTimer n)).scanNext { sc with pc := sc.pc + 1, a := (t.furTimer n).q } ∧ (t.furTimer n).last = some sc.tlatch ∧
      (t.furTimer n).inp = sc.a ∧ (t.furTimer n).et = (if sc.a = true ∧ (s.furTimer n).inp = true then
        min ((s.furTimer n).et + ((sc.tlatch - (s.furTimer n).last.getD s.fur.timer0) / 1000)) pt else 0) ∧
      (t.furTimer n).q = (sc.a && decide (pt ≤ (t.furTimer n).et)) ∧ (t.furTimer n).run = (s.furTimer n).run := by
  obtain ⟨htimer, hrun⟩ := State.furRun_time h hn hcode hf rfl
  rw [ht, htimer]
  exact ⟨hrun, rfl, (s.furTimer n).on_shows sc.a _ pt⟩

theorem State.furRun_offTimer {pt : Nat} (h : s.scanAt c sc = true) (hn : s.furClear 2 n = true)
    (hcode : (s.furCode (({ sc with pc := sc.pc + 1 } : Scan).passEnd).pc).isSome = true) {f : State → Scan → FurOut}
    (hf : f s { sc with pc := sc.pc + 1 } = furTime n pt Timer.off s { sc with pc := sc.pc + 1 }) {t : State}
    (ht : t = s.furRun (furEncode c) f) :
    t = (s.setTimer n (t.furTimer n)).scanNext { sc with pc := sc.pc + 1, a := (t.furTimer n).q } ∧ (t.furTimer n).last = some sc.tlatch ∧
      (t.furTimer n).inp = sc.a ∧ (t.furTimer n).et = (if sc.a = true ∨ (s.furTimer n).inp = true then 0 else if (s.furTimer n).run = true then
        min ((s.furTimer n).et + ((sc.tlatch - (s.furTimer n).last.getD s.fur.timer0) / 1000)) pt else (s.furTimer n).et) ∧
      (t.furTimer n).run = (if sc.a = true then false else if (s.furTimer n).inp = true then decide (0 < pt) else
        (s.furTimer n).run && decide ((t.furTimer n).et < pt)) ∧ (t.furTimer n).q = (sc.a || (t.furTimer n).run) := by
  obtain ⟨htimer, hrun⟩ := State.furRun_time h hn hcode hf rfl
  rw [ht, htimer]
  exact ⟨hrun, rfl, (s.furTimer n).off_shows sc.a _ pt⟩

theorem State.furRun_pulseTimer {pt : Nat} (h : s.scanAt c sc = true) (hn : s.furClear 2 n = true)
    (hcode : (s.furCode (({ sc with pc := sc.pc + 1 } : Scan).passEnd).pc).isSome = true) {f : State → Scan → FurOut}
    (hf : f s { sc with pc := sc.pc + 1 } = furTime n pt Timer.pulse s { sc with pc := sc.pc + 1 }) {t : State}
    (ht : t = s.furRun (furEncode c) f) :
    t = (s.setTimer n (t.furTimer n)).scanNext { sc with pc := sc.pc + 1, a := (t.furTimer n).q } ∧ (t.furTimer n).last = some sc.tlatch ∧
      (t.furTimer n).inp = sc.a ∧ (t.furTimer n).et = (if sc.a = true ∧ (s.furTimer n).inp = false ∧ (s.furTimer n).run = false then 0
        else if (s.furTimer n).run = true then
          min ((s.furTimer n).et + ((sc.tlatch - (s.furTimer n).last.getD s.fur.timer0) / 1000)) pt else (s.furTimer n).et) ∧
      (t.furTimer n).run = (if sc.a = true ∧ (s.furTimer n).inp = false ∧ (s.furTimer n).run = false then decide (0 < pt) else
        (s.furTimer n).run && decide ((t.furTimer n).et < pt)) ∧ (t.furTimer n).q = (t.furTimer n).run := by
  obtain ⟨htimer, hrun⟩ := State.furRun_time h hn hcode hf rfl
  rw [ht, htimer]
  exact ⟨hrun, rfl, (s.furTimer n).pulse_shows sc.a _ pt⟩

/-! ### Counters (R293) -/

/-- Counting saturates at the ends of 36 bits. -/
theorem sat36_succ {v : Int} (hlo : -2 ^ 35 ≤ v) : sat36 (v + 1) = min (v + 1) (2 ^ 35 - 1) := by
  unfold sat36 satS clampI
  norm_num at *
  omega

theorem sat36_pred {v : Int} (hhi : v < 2 ^ 35) : sat36 (v + -1) = max (v - 1) (-2 ^ 35) := by
  unfold sat36 satS clampI
  norm_num at *
  omega

/-- A counter after one evaluation: it counts at the rising edge, and its kind and preset give Q. -/
def Counter.stepped (k : Counter) (a : Bool) (kind : Nat) (step pv : Int) : Counter :=
  let n : Counter := { k with cv := if a && !k.inp then sat36 (k.cv + step) else k.cv, inp := a, kind := kind, pv := pv }
  { n with q := n.qOf }

theorem State.furRun_count {word kind : Nat} {step : Int} (h : s.scanAt c sc = true) (hw : s.furClear 1 word = true) (hn : s.furClear 3 n = true)
    (hcode : (s.furCode (({ sc with pc := sc.pc + 1 } : Scan).passEnd).pc).isSome = true) {u : Counter}
    (hu : u = (s.furCounter n).stepped sc.a kind step (s.furWord word)) :
    (s.furRun (furEncode c) (furCount word n kind step)).furCounter n = u ∧
      s.furRun (furEncode c) (furCount word n kind step) = (s.setCounter n u).scanNext { sc with pc := sc.pc + 1, a := u.q } := by
  have hcount : furCount word n kind step s { sc with pc := sc.pc + 1 } =
      .ok (s.setCounter n u) { sc with pc := sc.pc + 1, a := u.q } := by
    rw [hu]
    exact (State.furGet_clear (x := false) _ hw).trans (State.furGet_clear (x := false) _ hn)
  have hrun := State.furRun_goesOn h hcount rfl
  refine ⟨?_, hrun⟩
  rw [hrun]
  exact (State.scanNext_furTimer (t := s.setCounter n u) (m := { sc with pc := sc.pc + 1, a := u.q }) hcode rfl rfl rfl n).2.trans
    (s.furCounter_setCounter n u)

theorem Counter.up_shows (k : Counter) (a : Bool) (pv : Int) (hlo : -2 ^ 35 ≤ k.cv) : (k.stepped a 1 1 pv).inp = a ∧
    (k.stepped a 1 1 pv).cv = (if a = true ∧ k.inp = false then min (k.cv + 1) (2 ^ 35 - 1) else k.cv) ∧
    (k.stepped a 1 1 pv).q = decide (pv ≤ (k.stepped a 1 1 pv).cv) := by
  refine ⟨rfl, ?_, rfl⟩
  simp only [Counter.stepped, sat36_succ hlo, Bool.and_eq_true, Bool.not_eq_true']

theorem Counter.down_shows (k : Counter) (a : Bool) (pv : Int) (hhi : k.cv < 2 ^ 35) : (k.stepped a 2 (-1) pv).inp = a ∧
    (k.stepped a 2 (-1) pv).cv = (if a = true ∧ k.inp = false then max (k.cv - 1) (-2 ^ 35) else k.cv) ∧
    (k.stepped a 2 (-1) pv).q = decide ((k.stepped a 2 (-1) pv).cv ≤ 0) := by
  refine ⟨rfl, ?_, rfl⟩
  simp only [Counter.stepped, sat36_pred hhi, Bool.and_eq_true, Bool.not_eq_true']

/-! ### Jumps, repeats and the end (R294, R295) -/

theorem furJump_ok (target : Nat) (go : Bool → Bool) :
    furJump target go s { sc with pc := sc.pc + 1 } = .ok s { sc with pc := if go sc.a = true then target else sc.pc + 1 } := by
  unfold furJump
  split <;> rfl

theorem State.furRun_jump {target : Nat} {go : Bool → Bool} (h : s.scanAt c sc = true) :
    s.furRun (furEncode c) (furJump target go) = s.scanNext { sc with pc := if go sc.a = true then target else sc.pc + 1 } :=
  State.furRun_goesOn h (furJump_ok target go) rfl

/-- REP skips its body for a count of 0, else begins its passes at X = 0. -/
theorem State.furRun_repeat {n str len : Nat} {f : State → Scan → FurOut} (h : s.scanAt c sc = true)
    (hf : f s { sc with pc := sc.pc + 1 } = furRepeat n str len s { sc with pc := sc.pc + 1 }) :
    if n = 0 then s.furRun (furEncode c) f = s.scanNext { sc with pc := sc.pc + 1 + len, x := 0 }
    else s.furRun (furEncode c) f =
      s.scanNext { sc with pc := sc.pc + 1, x := 0, rep := some { start := sc.pc + 1, len := len, str := str, n := n, pass := 0 } } := by
  split
  · next h0 => exact State.furRun_goesOn h (hf.trans (if_pos h0)) rfl
  · next h0 => exact State.furRun_goesOn h (hf.trans (if_neg h0)) rfl

/-- END with an empty stack ends the scan. -/
theorem State.furRun_end (h : s.scanAt c sc = true) (hstack : sc.stack = []) :
    s.furRun (furEncode c) furEnd = s.scanDone { sc with pc := sc.pc + 1, ended := some s.now } := by
  have hend : furEnd s { sc with pc := sc.pc + 1 } = .ok s { sc with pc := sc.pc + 1, ended := some s.now } := by
    simp [furEnd, hstack]
  exact ((State.furRun_at furEnd h).2 _ _ hend).trans (if_pos rfl)

end

/-- Settles O30: a timer and a counter are evaluated as R292 and R293 say and their Q becomes a, jumps take effect at once, REP begins or
skips its body, and END ends the scan. -/
theorem furrowTimersAndControlComplete : Obligations.FurrowTimersAndControlComplete := by
  refine ⟨fun s sc base count n h hn hcode => ⟨_, rfl, State.furRun_onTimer h hn hcode rfl rfl⟩,
    fun s sc base count n h hn hcode => ⟨_, rfl, State.furRun_offTimer h hn hcode rfl rfl⟩,
    fun s sc base count n h hn hcode => ⟨_, rfl, State.furRun_pulseTimer h hn hcode rfl rfl⟩,
    fun s sc word n h hw hn hcode => ⟨_, rfl, State.furRun_onTimer h hn hcode (State.furTimeW_eq hw) rfl⟩,
    fun s sc word n h hw hn hcode => ⟨_, rfl, State.furRun_offTimer h hn hcode (State.furTimeW_eq hw) rfl⟩,
    fun s sc word n h hw hn hcode => ⟨_, rfl, State.furRun_pulseTimer h hn hcode (State.furTimeW_eq hw) rfl⟩,
    fun s sc n h => ⟨_, rfl, State.furRun_goesOn h rfl rfl⟩,
    fun s sc n h hn => ⟨_, rfl, State.furRun_get (g := fun s n k => { n with a := (s.furTimer k).q }) h hn⟩,
    fun s sc word c h hw hc hlo _ hcode => ⟨_, rfl, ?_⟩,
    fun s sc word c h hw hc _ hhi hcode => ⟨_, rfl, ?_⟩,
    fun s sc c h => ⟨_, rfl, State.furRun_goesOn h rfl rfl⟩,
    fun s sc c h hc => ⟨_, rfl, State.furRun_get (g := fun s n k => { n with a := (s.furCounter k).q }) h hc⟩,
    fun s sc target h => ⟨_, rfl, State.furRun_jump h⟩,
    fun s sc target h => ⟨_, rfl, State.furRun_jump h⟩,
    fun s sc target h => ⟨_, rfl, (State.furRun_jump h).trans ?_⟩,
    fun s sc n str len h => ⟨_, rfl, State.furRun_repeat h rfl⟩,
    fun s sc word str len n h hw hn => ⟨_, rfl, State.furRun_repeat h ?_⟩,
    fun s sc h hstack => ⟨_, rfl, ?_⟩⟩
  · obtain ⟨hcounter, hrun⟩ := State.furRun_count h hw hc hcode rfl
    rw [hcounter]
    exact ⟨hrun, (s.furCounter c).up_shows sc.a _ hlo⟩
  · obtain ⟨hcounter, hrun⟩ := State.furRun_count h hw hc hcode rfl
    rw [hcounter]
    exact ⟨hrun, (s.furCounter c).down_shows sc.a _ hhi⟩
  · cases sc.a <;> rfl
  · subst hn
    exact (if_pos rfl).trans (State.furGet_clear (x := false) _ hw)
  · beta_reduce
    rw [State.furRun_end h hstack]
    obtain ⟨⟨load, hfur⟩, hrun⟩ := s.scanDone_shows { sc with pc := sc.pc + 1, ended := some s.now }
    rw [hfur]
    exact ⟨rfl, rfl, rfl, hrun, rfl, rfl⟩

/-! ### Faults (R296) -/

/-- An operand beyond its memory faults with ADDR. -/
theorem State.furGet_beyond {s : State} {area i : Nat} {sc : Scan} {x : Bool} (k : Nat → FurOut) (h : furSize area ≤ sc.at x i) :
    s.furGet area sc x i k = .fault 4 := if_pos h

/-- A marked operand faults with POISON. -/
theorem State.furGet_marked {s : State} {area i : Nat} {sc : Scan} {x : Bool} (k : Nat → FurOut) (h : sc.at x i < furSize area)
    (hbad : s.furBad area (sc.at x i) = true) : s.furGet area sc x i k = .fault 7 := (if_neg (Nat.not_le.mpr h)).trans (if_pos hbad)

theorem furWordOp_fault {s : State} {i : Nat} {sc : Scan} {x : Bool} {g : Int → Int → Option Int} (hi : s.furClear 1 (sc.at x i) = true)
    (hg : g sc.w (s.furWord (sc.at x i)) = none) : furWordOp x i g s sc = .fault 5 := by
  rw [furWordOp, State.furGet_clear _ hi, hg]

/-- A store into the constant region faults with CONSTWR. -/
theorem furWordSt_const {s : State} {i : Nat} {sc : Scan} {x : Bool} {p : Prog} (hi : sc.at x i < 2048) (hp : s.fur.active = some p)
    (hconst : p.isConst (sc.at x i) = true) : furWordSt x i (fun _ => true) s sc = .fault 6 := by
  simp [furWordSt, furWords, Nat.not_le.mpr hi, hp, hconst]

/-- Settles O27: a fault of an operand, a divisor, a store or the stack aborts the scan with its cause. -/
theorem furrowFaultsAbortTheScan : Obligations.FurrowFaultsAbortTheScan := by
  refine ⟨fun s sc x f h hf => congrArg _ (State.furRun_fault h (State.furGet_beyond (area := 0) (sc := { sc with pc := sc.pc + 1 }) _ hf)),
    fun s sc x f h hf hbad => congrArg _ (State.furRun_fault h (State.furGet_marked (area := 0) (sc := { sc with pc := sc.pc + 1 }) _ hf hbad)),
    fun s sc x i h hi hdiv => congrArg _ (State.furRun_fault h (furWordOp_fault (sc := { sc with pc := sc.pc + 1 }) hi (if_pos hdiv))),
    fun s sc p x i h hi hp hconst => congrArg _ (State.furRun_fault h (furWordSt_const (sc := { sc with pc := sc.pc + 1 }) hi hp hconst)),
    fun s sc op h hfull => congrArg _ (State.furRun_fault h (if_pos hfull.ge)),
    fun s sc h hempty => congrArg _ (State.furRun_fault h ?_),
    fun s sc h hstack => congrArg _ (State.furRun_fault h (if_neg (by simpa using hstack))),
    fun s sc cause addr hmax hcause haddr hpoison hparity => s.furAbort_shows sc hmax hcause haddr hpoison hparity⟩
  simp only [furPop, hempty]

end Sys2Proof.Machine
end

section
/-! SUPPORT. A service read (R388) that finds a parity mismatch in the register of the port it came in on (R82, R390). -/

namespace Sys2Proof.Machine

/-- A service datagram that asks for one word at `ETH_Pp_CTL` of port 6 (OP 1, N 1). -/
def portReadRequest : Bytes := [0, 0, 0, 0, 1, 1, 0, 0, 0x80, 0x02, 0x15, 0x00, 0xFE, 0, 0, 0]

/-- The frame that carries it: IPv4, UDP to port 7440 of address 0, the reset value of ETH_ENGIP. -/
def portReadFrame : EthFrame :=
  { dst := 0, src := 2, tag := none, etype := 0x0800,
    payload := [0x45, 0, 0, 44, 0, 0, 0, 0, 64, 17, 0, 0, 10, 0, 0, 1, 0, 0, 0, 0] ++ [0x20, 0, 0x1D, 0x10, 0, 24, 0, 0] ++ portReadRequest }

/-- Port 6 is enabled with its link up, service access is enabled, and a parity mismatch is marked at `ETH_Pp_CTL` of port 6. -/
def portParityWrong : State :=
  { State.reset with
    bedOn := true, canopyOn := true, badParity := [Reg.ETH_Pp_CTL 6],
    regs := [(Reg.ETH_Pp_CTL 6, 0x80000000), (Reg.ETH_Pp_STAT 6, 0x80000000), (Reg.ETH_SVC, 0x80000000)] }

/-- The read finds the mismatch, the port's register returns to reset and its link goes down, so that the reply is held. -/
theorem portParityWrong_holds : ∃ t, exec (.serviceRead portReadFrame) portParityWrong = .next t ∧ t.eth.out.length = 1 :=
  ⟨_, rfl, by decide +kernel⟩

/-- Refutes O38: its clause on a service read asks that the reply leave at once, but a read of `ETH_Pp_CTL` of port 6 that finds a parity
mismatch there disables the port (R82, R390), and the reply waits for the link. -/
theorem not_targetSessionCommandsComplete : ¬ Obligations.TargetSessionCommandsComplete := by
  intro h
  obtain ⟨-, -, -, -, -, -, -, -, -, -, hread, -⟩ := h
  obtain ⟨t, ht, -, hout⟩ := hread portParityWrong portReadFrame (beAt portReadFrame.payload 12 4) 0 7440 portReadRequest rfl
    (by decide) (by decide +kernel) (by decide +kernel) (by decide) (by decide) (by decide) (by decide)
  obtain ⟨u, hu, hheld⟩ := portParityWrong_holds
  cases ht.symm.trans hu
  rw [hout] at hheld
  exact absurd hheld (by decide)

end Sys2Proof.Machine
end

section
/-! SUPPORT. A correctable line whose targeted self-test finds the queue of R495 full: the dropped test is told on ring 67, into memory. -/

namespace Sys2Proof.Machine

/-- DRAM is ready, 64 self-tests of the same resource 1 wait, and the event ring of the self-tests is enabled with 1024 entries at address 0. -/
def testsFull : State :=
  { State.reset with
    rootOn := true, bedOn := true, canopyOn := true,
    regs := [(Reg.MEM_STAT, 0x80000000), (Reg.RNG_QnCFG 67, 0xC0A00000)],
    hlt := { tests := List.replicate 64 { res := 1, since := 0, descs := [] } } }

/-- One wrong symbol of line 64 is corrected, and the entry that tells of the test dropped goes to address 0, which held 0 before. -/
theorem testsFull_tells :
    ∃ t, exec (.dramRead 0 64 [(0, 1)] false) testsFull = .next t ∧ t.mem.read 0 = 0x80 ∧ testsFull.mem.read 0 = 0 :=
  ⟨_, rfl, by decide +kernel⟩

/-- Refutes O40: its clause on a read asks that a corrected line leave memory as it is, but the self-test the correction triggers (R423, R495)
may find 64 waiting, and the entry that tells of its loss goes into the memory of ring 67. -/
theorem not_dramCommandsComplete : ¬ Obligations.DramCommandsComplete := by
  intro h
  obtain ⟨hread, -⟩ := h
  obtain ⟨t, ht, hres⟩ := hread testsFull 0 64 [(0, 1)] (by decide +kernel)
  obtain ⟨u, hu, htold, hwas⟩ := testsFull_tells
  cases ht.symm.trans hu
  rw [if_neg (by decide +kernel), if_pos (by decide +kernel)] at hres
  rw [hres.1, hwas] at htold
  exact absurd htold (by decide)

end Sys2Proof.Machine
end

section
/-! SUPPORT. A RAWRETURN whose release of the NAND token grants a waiting TOKTAKE (R511, R516): the TOKTAKE's completion entry goes over the list
of pages before the second reading of it. -/

namespace Sys2Proof.Machine

/-- A descriptor of one operation, with an entry on ring 67 where `cpl` is set. -/
def bareDesc (op : Nat) (cpl : Bool) (payload : Bytes) : Desc :=
  ⟨0, op, cpl, false, false, 0, 0, 0, 0, payload, true, 0, 0, false, 67⟩

/-- Terrace holds the NAND token for a RAWRETURN of the one page lent, page 0, listed at address 0; a TOKTAKE of agent 2 waits, and its completion
ring 67 lies at address 0 too. -/
def returnGrants : State :=
  { State.reset with
    rootOn := true, bedOn := true, canopyOn := true,
    regs := [(Reg.TER_READY, 0x80000000), (Reg.RNG_QnCFG 67, 0xC0A00000), (Reg.HLT_TOKc 1, 0xA0050000)],
    rings := [(72, { taken := [bareDesc 7 false [1]] })],
    toks := [(1, { waits := [(2, 0xC, 0)] })],
    hlt := { takes := [(1, 2, bareDesc 3 true [])] },
    ter := { lent := [0] } }

set_option maxRecDepth 100000 in
/-- The page stays lent: what the list reads as after the token is released is no page that is lent. -/
theorem returnGrants_keeps :
    ∃ t, exec (.rawreturn []) returnGrants = .next t ∧ t.ter.lent = [0] ∧ (returnGrants.tokAsk 1 4 5).2 = true :=
  ⟨_, rfl, by decide +kernel⟩

/-- Refutes O42: its clause on RAWRETURN asks that the pages listed be taken back wherever the NAND token is had, but the release of the token
grants the request that has waited longest (R511), and the entry of a TOKTAKE so granted may overwrite the list. -/
theorem not_terraceAdminComplete : ¬ Obligations.TerraceAdminComplete := by
  intro h
  obtain ⟨-, -, -, -, -, -, hreturn, -⟩ := h
  obtain ⟨t, ht, hlent⟩ := hreturn returnGrants [] (bareDesc 7 false [1]) (by decide +kernel) (by decide +kernel) (by decide) (by decide)
    (by decide +kernel) (by decide +kernel)
  obtain ⟨u, hu, hkept, hhad⟩ := returnGrants_keeps
  cases ht.symm.trans hu
  rw [if_pos hhad, hkept] at hlent
  exact absurd hlent (by decide +kernel)

end Sys2Proof.Machine
end

section
/-! SUPPORT. What side effects leave unchanged (R80-R104, R495, R511, R546): ring entries, records, status flags with their interrupts, counters,
stores, self-tests triggered and maintenance tokens asked for or given up change what belongs to these, and of the other registers only
those named. -/

namespace Sys2Proof.Machine

/-! ### Fields, where only their bits matter

The bits of a field of an array of registers do not depend on the register's index: these forms of the laws of fields are settled by computation. -/

/-- Whether a field lies within its word. -/
def Fld.inWord (f : Fld) : Bool := Nat.blt f.hi 32

/-- Whether two fields share no bit. -/
def Fld.apart (f g : Fld) : Bool := f.inWord && g.inWord && (Nat.blt f.hi g.lo || Nat.blt g.hi f.lo)

theorem Fld.hi_lt {f : Fld} (h : f.inWord = true) : f.hi < 32 := by simpa [Fld.inWord] using h

theorem State.rd_wr_apart (s : State) {f g : Fld} (v : Nat) (h : f.apart g = true) : (s.wr f v).rd g = s.rd g := by
  simp only [Fld.apart, Bool.and_eq_true, Bool.or_eq_true, Nat.blt_eq] at h
  exact s.rd_wr_beside v (Fld.hi_lt h.1.1) (Fld.hi_lt h.1.2) h.2

theorem State.reg_inc_other (s : State) {f : Fld} {k : Nat} (h : k ≠ f.addr) : (s.inc f).reg k = s.reg k := s.reg_wr_other _ h

theorem State.reg_wrB_other (s : State) {f : Fld} (b : Bool) {k : Nat} (h : k ≠ f.addr) : (s.wrB f b).reg k = s.reg k := s.reg_wr_other _ h

/-- Registers of none of the blocks whose registers entries and records change. -/
theorem notEntry {b : Nat} (h : b ≠ 3 ∧ b ≠ 4 ∧ b ≠ 6) : ¬ entryBlock b := by
  unfold entryBlock
  omega

/-! ### The frame -/

/-- `s` with all that side effects may change taken from `t`. -/
def State.withEffectsOf (s t : State) : State :=
  { s with
    regs := t.regs, wide := t.wide, mem := t.mem, irqs := t.irqs, bridge := t.bridge, rings := t.rings, evr := t.evr, dram := t.dram,
    hlt := t.hlt, toks := t.toks, free := t.free, badParity := t.badParity }

/-- `t` differs from `s` by side effects alone, and outside blocks HLT, EVR and RNG at most in the registers `S`. -/
structure State.AffectsOnly (S : Set Nat) (s t : State) : Prop where
  eq : t = s.withEffectsOf t
  reg : ∀ k, ¬ entryBlock (k / 0x1000) → k ∉ S → t.reg k = s.reg k

namespace State.AffectsOnly

variable {S : Set Nat} {s t u : State}

theorem refl (s : State) : AffectsOnly S s s := ⟨rfl, fun _ _ _ => rfl⟩

theorem trans (h : AffectsOnly S s t) (h' : AffectsOnly S t u) : AffectsOnly S s u :=
  ⟨h'.eq.trans ((congrArg (fun x : State => x.withEffectsOf u) h.eq).trans rfl), fun k hk hS => (h'.reg k hk hS).trans (h.reg k hk hS)⟩

theorem mono {T : Set Nat} (h : AffectsOnly S s t) (hST : S ⊆ T) : AffectsOnly T s t :=
  ⟨h.eq, fun k hk hT => h.reg k hk fun hS => hT (hST hS)⟩

theorem rd (h : AffectsOnly S s t) {f : Fld} (hf : ¬ entryBlock (f.addr / 0x1000)) (hS : f.addr ∉ S) : t.rd f = s.rd f :=
  State.rd_congr (h.reg _ hf hS)

theorem on (h : AffectsOnly S s t) {f : Fld} (hf : ¬ entryBlock (f.addr / 0x1000)) (hS : f.addr ∉ S) : t.on f = s.on f :=
  State.on_congr (h.rd hf hS)

/-- A part of the state that no side effect changes. -/
theorem part {α : Sort*} (h : AffectsOnly S s t) (U : State → α) (hU : ∀ x y : State, U (x.withEffectsOf y) = U x) : U t = U s :=
  (congrArg U h.eq).trans (hU s t)

theorem ite (c : Prop) [Decidable c] (h : c → AffectsOnly S s t) (h' : ¬ c → AffectsOnly S s u) : AffectsOnly S s (if c then t else u) := by
  split
  · exact h ‹_›
  · exact h' ‹_›

/-- A loop affects what its rounds affect. -/
theorem foldl {α : Type*} (f : State → α → State) (h : ∀ (x : State) a, AffectsOnly S x (f x a)) (l : List α) (s : State) :
    AffectsOnly S s (l.foldl f s) :=
  List.foldlRecOn (motive := fun x : State => AffectsOnly S s x) l f (refl s) fun x hx a _ => hx.trans (h x a)

theorem of_entersTo (h : s.EntersTo t) : AffectsOnly S s t :=
  ⟨h.eq.trans (by rw [h.eq]; rfl), fun k hk _ => h.reg k hk⟩

/-! ### Registers -/

theorem setReg (s : State) {k : Nat} (w : W32) (h : k ∈ S ∨ entryBlock (k / 0x1000)) : AffectsOnly S s (s.setReg k w) :=
  ⟨rfl, fun _ hk hS => s.reg_setReg_other w fun e => h.elim (fun hk' => hS (e ▸ hk')) fun hk' => hk (e ▸ hk')⟩

theorem wr (s : State) {f : Fld} (v : Nat) (h : f.addr ∈ S ∨ entryBlock (f.addr / 0x1000)) : AffectsOnly S s (s.wr f v) := setReg s _ h

theorem wrSat (s : State) {f : Fld} (v : Nat) (h : f.addr ∈ S ∨ entryBlock (f.addr / 0x1000)) : AffectsOnly S s (s.wrSat f v) := wr s _ h

theorem wrB (s : State) {f : Fld} (b : Bool) (h : f.addr ∈ S ∨ entryBlock (f.addr / 0x1000)) : AffectsOnly S s (s.wrB f b) := wr s _ h

theorem incBy (s : State) {f : Fld} (n : Nat) (h : f.addr ∈ S ∨ entryBlock (f.addr / 0x1000)) : AffectsOnly S s (s.incBy f n) := wr s _ h

theorem inc (s : State) {f : Fld} (h : f.addr ∈ S ∨ entryBlock (f.addr / 0x1000)) : AffectsOnly S s (s.inc f) := wr s _ h

theorem peak (s : State) {f : Fld} (v : Nat) (h : f.addr ∈ S ∨ entryBlock (f.addr / 0x1000)) : AffectsOnly S s (s.peak f v) := wr s _ h

theorem measured (s : State) {f g : Fld} (v : Nat) (h : f.addr ∈ S ∨ entryBlock (f.addr / 0x1000))
    (h' : g.addr ∈ S ∨ entryBlock (g.addr / 0x1000)) : AffectsOnly S s (s.measured f g v) := (wrSat s v h).trans (peak _ v h')

theorem wideAdd (s : State) (key n : Nat) : AffectsOnly S s (s.wideAdd key n) := ⟨rfl, fun _ _ _ => rfl⟩

theorem tickFree (s : State) : AffectsOnly S s s.tickFree := ⟨rfl, fun _ _ _ => rfl⟩

theorem reparity (s : State) (key : Nat) : AffectsOnly S s (s.reparity key) := ⟨rfl, fun _ _ _ => rfl⟩

theorem notify (s : State) (stat ie : Fld) : AffectsOnly S s (s.notify stat ie) := of_entersTo (.notify s stat ie)

theorem notifyDale (s : State) (stat ie : Fld) : AffectsOnly S s (s.notifyDale stat ie) := by
  unfold State.notifyDale
  split <;> exact ⟨rfl, fun _ _ _ => rfl⟩

theorem irqBoth (s : State) (src : IrqSrc) : AffectsOnly S s (s.irqBoth src) := ⟨rfl, fun _ _ _ => rfl⟩

theorem flag (s : State) {stat : Fld} (ie : Fld) (h : stat.addr ∈ S ∨ entryBlock (stat.addr / 0x1000)) : AffectsOnly S s (s.flag stat ie) :=
  (wr s 1 h).trans (notify _ _ _)

theorem flagDale (s : State) {stat : Fld} (ie : Fld) (h : stat.addr ∈ S ∨ entryBlock (stat.addr / 0x1000)) :
    AffectsOnly S s (s.flagDale stat ie) := (wr s 1 h).trans (notifyDale _ _ _)

/-! ### Memory, entries and records -/

theorem store (s : State) (a : Nat) (b : Bytes) (p : Bool) : AffectsOnly S s (s.store a b p) := of_entersTo (.store s a b p)

theorem put (s : State) (a : Nat) (b : Bytes) : AffectsOnly S s (s.put a b) := store s a b false

theorem putContent (s : State) (a n : Nat) (c : Content) : AffectsOnly S s (s.putContent a n c) := by
  unfold State.putContent
  refine trans ?_ (of_entersTo (.mirror _ _ _ _))
  unfold State.reencode
  split <;> exact ⟨rfl, fun _ _ _ => rfl⟩

theorem putFree (s : State) (a n : Nat) : AffectsOnly S s (s.putFree a n) := putContent s a n _

theorem putZero (s : State) (a n : Nat) : AffectsOnly S s (s.putZero a n) := of_entersTo (.putZero s a n)

theorem setRing (s : State) (q : Nat) (r : Ring) : AffectsOnly S s (s.setRing q r) := ⟨rfl, fun _ _ _ => rfl⟩

theorem record (s : State) (src ev sev p0 p1 p2 : Nat) : AffectsOnly S s (s.record src ev sev p0 p1 p2) :=
  of_entersTo (.of_recordsTo (.record _ _ _ _ _ _ _))

theorem eventEntry (s : State) (q op tag estat : Nat) (result : Bytes) (ip : Bool) :
    AffectsOnly S s (s.eventEntry q op tag estat result ip).1 := of_entersTo (.eventEntry _ _ _ _ _ _ _)

theorem complete (s : State) (q : Nat) (d : Desc) (r : Result) : AffectsOnly S s (s.complete q d r) := of_entersTo (.complete _ _ _ _)

/-! ### Self-tests and tokens -/

theorem withHlt (s : State) (h : Health) : AffectsOnly S s { s with hlt := h } := ⟨rfl, fun _ _ _ => rfl⟩

theorem testRegs (s : State) : AffectsOnly S s s.testRegs := (wr s _ (.inr (.inl rfl))).trans (peak _ _ (.inr (.inl rfl)))

theorem queueTest (s : State) (res : Nat) (ds : List Desc) : AffectsOnly S s (s.queueTest res ds) := by
  unfold State.queueTest
  extract_lets _ one t u
  have ht : AffectsOnly S s t := inc s (.inr (.inl rfl))
  have hu : AffectsOnly S t u := ite _ (fun _ => refl t) fun _ => (flagDale t _ (.inr (.inl rfl))).trans (eventEntry _ _ _ _ _ _ _)
  exact ite _ (fun _ => withHlt s _) fun _ => ite _ (fun _ => (withHlt s _).trans (testRegs _))
    fun _ => (ht.trans hu).trans (foldl _ (fun x d => complete x 66 d {}) ds u)

theorem triggerTest (s : State) (res : Nat) : AffectsOnly S s (s.triggerTest res) := queueTest s res []

theorem tokBlock (c : Nat) : entryBlock (Reg.HLT_TOKc c / 0x1000) := .inl (by unfold Reg.HLT_TOKc; omega)

theorem tokSinceBlock (c : Nat) : entryBlock (Reg.HLT_TOKc_SINCE c / 0x1000) := .inl (by unfold Reg.HLT_TOKc_SINCE; omega)

theorem setToken (s : State) (c : Nat) (t : Token) : AffectsOnly S s (s.setToken c t) :=
  ((show AffectsOnly S s { s with toks := SMap.set (fun _ => {}) s.toks c t } from ⟨rfl, fun _ _ _ => rfl⟩).trans
    (wrSat _ _ (.inr (tokBlock c)))).trans (wrSat _ _ (.inr (tokSinceBlock c)))

theorem tokGrant (s : State) (c owner act since : Nat) : AffectsOnly S s (s.tokGrant c owner act since) := by
  unfold State.tokGrant
  extract_lets t u k v
  have hv : AffectsOnly S s v :=
    ((((wr s _ (.inr (tokBlock c))).trans (wr _ _ (.inr (tokBlock c)))).trans (wr _ _ (.inr (tokBlock c)))).trans
      (measured _ _ (.inr (.inl rfl)) (.inr (.inl rfl)))).trans (setToken _ _ _)
  refine ite _ (fun _ => ?_) fun _ => hv
  split
  · exact (hv.trans (withHlt v _)).trans (complete _ _ _ _)
  · exact hv

theorem tokAsk (s : State) (c owner act : Nat) : AffectsOnly S s (s.tokAsk c owner act).1 := by
  unfold State.tokAsk
  split
  · exact tokGrant _ _ _ _ _
  · split
    · exact refl s
    · split
      · exact refl s
      · exact setToken _ _ _

theorem tokGive (s : State) (c : Nat) : AffectsOnly S s (s.tokGive c) := by
  unfold State.tokGive
  extract_lets t
  have ht : AffectsOnly S s t := ((wr s _ (.inr (tokBlock c))).trans (wr _ _ (.inr (tokBlock c)))).trans (wr _ _ (.inr (tokBlock c)))
  split
  · exact (ht.trans (setToken _ _ _)).trans (tokGrant _ _ _ _ _)
  · exact ht.trans (setToken _ _ _)

theorem tokWithdraw (s : State) (c owner act : Nat) : AffectsOnly S s (s.tokWithdraw c owner act) := setToken _ _ _

end State.AffectsOnly

end Sys2Proof.Machine
end

section
/-! SUPPORT. What Terrace changes (R437-R464): its own state, the content of the NAND, the connections of its hosts, the registers of block TER and
what side effects change. -/

namespace Sys2Proof.Machine

/-- `t` differs from `s` at most as Terrace can make it. -/
structure State.TerraceTo (s t : State) : Prop where
  eq : t = { s.withEffectsOf t with ter := t.ter, nand := t.nand, eth := t.eth }
  reg : ∀ k, ¬ entryBlock (k / 0x1000) → k / 0x1000 ≠ 0x13 → t.reg k = s.reg k

namespace State.TerraceTo

variable {s t u : State}

theorem refl (s : State) : TerraceTo s s := ⟨rfl, fun _ _ _ => rfl⟩

theorem trans (h : TerraceTo s t) (h' : TerraceTo t u) : TerraceTo s u :=
  ⟨h'.eq.trans ((congrArg (fun x : State => { x.withEffectsOf u with ter := u.ter, nand := u.nand, eth := u.eth }) h.eq).trans rfl),
    fun k hk hter => (h'.reg k hk hter).trans (h.reg k hk hter)⟩

theorem rd (h : TerraceTo s t) {f : Fld} (hf : ¬ entryBlock (f.addr / 0x1000)) (hter : f.addr / 0x1000 ≠ 0x13) : t.rd f = s.rd f :=
  State.rd_congr (h.reg _ hf hter)

theorem on (h : TerraceTo s t) {f : Fld} (hf : ¬ entryBlock (f.addr / 0x1000)) (hter : f.addr / 0x1000 ≠ 0x13) : t.on f = s.on f :=
  State.on_congr (h.rd hf hter)

/-- A part of the state that neither Terrace nor a side effect changes. -/
theorem part {α : Sort*} (h : TerraceTo s t) (U : State → α)
    (hU : ∀ x y : State, U { x.withEffectsOf y with ter := y.ter, nand := y.nand, eth := y.eth } = U x) : U t = U s :=
  (congrArg U h.eq).trans (hU s t)

theorem ite (c : Prop) [Decidable c] (h : c → TerraceTo s t) (h' : ¬ c → TerraceTo s u) : TerraceTo s (if c then t else u) := by
  split
  · exact h ‹_›
  · exact h' ‹_›

theorem foldl {α : Type*} (f : State → α → State) (h : ∀ (x : State) a, TerraceTo x (f x a)) (l : List α) (s : State) :
    TerraceTo s (l.foldl f s) :=
  List.foldlRecOn (motive := fun x : State => TerraceTo s x) l f (refl s) fun x hx a _ => hx.trans (h x a)

/-- The registers of block TER. -/
def terBlock : Set Nat := {k | k / 0x1000 = 0x13}

theorem of_affects (h : s.AffectsOnly terBlock t) : TerraceTo s t := ⟨h.eq.trans (by rw [h.eq]; rfl), fun k hk hter => h.reg k hk hter⟩

theorem of_entersTo (h : s.EntersTo t) : TerraceTo s t := of_affects (.of_entersTo h)

theorem withTer (s : State) (x : Terrace) : TerraceTo s { s with ter := x } := ⟨rfl, fun _ _ _ => rfl⟩

theorem withNand (s : State) (x : Nand) : TerraceTo s { s with nand := x } := ⟨rfl, fun _ _ _ => rfl⟩

theorem withEth (s : State) (x : Eth) : TerraceTo s { s with eth := x } := ⟨rfl, fun _ _ _ => rfl⟩

theorem wr (s : State) {f : Fld} (v : Nat) (h : f.addr / 0x1000 = 0x13) : TerraceTo s (s.wr f v) := of_affects (.wr s v (.inl h))

theorem setReg (s : State) {k : Nat} (w : W32) (h : k / 0x1000 = 0x13) : TerraceTo s (s.setReg k w) := of_affects (.setReg s w (.inl h))

theorem flag (s : State) {stat : Fld} (ie : Fld) (h : stat.addr / 0x1000 = 0x13) : TerraceTo s (s.flag stat ie) := of_affects (.flag s ie (.inl h))

theorem complete (s : State) (q : Nat) (d : Desc) (r : Result) : TerraceTo s (s.complete q d r) := of_affects (.complete s q d r)

theorem tickFree (s : State) : TerraceTo s s.tickFree := of_affects (.tickFree s)

theorem tokAsk (s : State) (c owner act : Nat) : TerraceTo s (s.tokAsk c owner act).1 := of_affects (.tokAsk s c owner act)

theorem tokGive (s : State) (c : Nat) : TerraceTo s (s.tokGive c) := of_affects (.tokGive s c)

theorem setNs (s : State) (n : Nat) (x : Ns) : TerraceTo s (s.setNs n x) := withTer s _

theorem setExt (s : State) (k : Nat) (x : Ext) : TerraceTo s (s.setExt k x) := withTer s _

theorem setDrive (s : State) (d : Nat) (x : Drive) : TerraceTo s (s.setDrive d x) := withTer s _

/-! ### Registers -/

theorem nsCfgBlock (n : Nat) : Reg.TER_NSn_CFG n / 0x1000 = 0x13 := by
  unfold Reg.TER_NSn_CFG
  omega

theorem drvStatBlock (d : Nat) : Reg.TER_DRVd_STAT d / 0x1000 = 0x13 := by
  unfold Reg.TER_DRVd_STAT
  omega

theorem drvCapBlock (d : Nat) : Reg.TER_DRVd_CAP d / 0x1000 = 0x13 := by
  unfold Reg.TER_DRVd_CAP
  omega

theorem drvWearBlock (d : Nat) : Reg.TER_DRVd_WEAR d / 0x1000 = 0x13 := by
  unfold Reg.TER_DRVd_WEAR
  omega

/-- The register of one namespace is written field by field. -/
theorem nsReg_affects (s : State) (n : Nat) : s.AffectsOnly {Reg.TER_NSn_CFG n} (s.nsReg n) := by
  have hin : Reg.TER_NSn_CFG n ∈ ({Reg.TER_NSn_CFG n} : Set Nat) ∨ entryBlock (Reg.TER_NSn_CFG n / 0x1000) := .inl rfl
  exact (((((((AffectsOnly.wr s _ hin).trans (.wr _ _ hin)).trans (.wr _ _ hin)).trans (.wrB _ _ hin)).trans (.wrB _ _ hin)).trans (.wrB _ _ hin))).trans
    (.wrB _ _ hin)

/-- The same effects beside another state of Terrace. -/
theorem withTer_affects {S : Set Nat} (h : s.AffectsOnly S t) (x : Terrace) :
    AffectsOnly S { s with ter := x } { t with ter := x } := ⟨(congrArg (fun y : State => { y with ter := x }) h.eq).trans rfl, h.reg⟩

theorem terEvent_affects {S : Set Nat} (s : State) (tag drive ns detail : Nat) : s.AffectsOnly S (s.terEvent tag drive ns detail) :=
  (AffectsOnly.eventEntry _ _ _ _ _ _ _).trans (.eventEntry _ _ _ _ _ _ _)

theorem terPoison_affects (s : State) (n lba : Nat) : s.AffectsOnly terBlock (s.terPoison n lba) := by
  refine ((AffectsOnly.inc s ?_).trans (.flag _ _ ?_)).trans (terEvent_affects _ _ _ _ _) <;> exact .inl rfl

theorem nsReg_in_terBlock (s : State) (n : Nat) : s.AffectsOnly terBlock (s.nsReg n) :=
  (nsReg_affects s n).mono (Set.singleton_subset_iff.mpr (nsCfgBlock n))

/-- Terrace's registers brought up to date, and whether free space has been told to be low; nothing else of Terrace changes. -/
theorem terRegs_affects (s : State) : ∃ b, AffectsOnly terBlock { s with ter := { s.ter with spaceTold := b } } s.terRegs := by
  unfold State.terRegs
  extract_lets _ t u v w x y low _ z
  have ht : s.AffectsOnly terBlock t := by
    refine ((AffectsOnly.wr s _ ?_).trans (.wr _ _ ?_)).trans (.wr _ _ ?_) <;> exact .inl rfl
  have hu : t.AffectsOnly terBlock u := by
    refine ((AffectsOnly.wr t _ ?_).trans (.wr _ _ ?_)).trans (.wr _ _ ?_) <;> exact .inl rfl
  have hv : u.AffectsOnly terBlock v := by
    refine (AffectsOnly.wr u _ ?_).trans (.wr _ _ ?_) <;> exact .inl rfl
  have hw : v.AffectsOnly terBlock w := by
    refine (AffectsOnly.wrB v _ ?_).trans (.wrB _ _ ?_) <;> exact .inl rfl
  have hx : w.AffectsOnly terBlock x := .foldl _ (fun r n => nsReg_in_terBlock r n) _ _
  have hy : x.AffectsOnly terBlock y :=
    .foldl _ (fun r d => (AffectsOnly.wr r _ (.inl (drvStatBlock d))).trans (.wr _ _ (.inl (drvCapBlock d)))) _ _
  have hall : s.AffectsOnly terBlock y := ((((ht.trans hu).trans hv).trans hw).trans hx).trans hy
  have hter : y.ter = s.ter := hall.part State.ter fun _ _ => rfl
  by_cases htold : low = s.ter.spaceTold
  · rw [if_pos htold]
    exact ⟨s.ter.spaceTold, hall⟩
  · rw [if_neg htold]
    refine ⟨low, ?_⟩
    have hz : AffectsOnly terBlock { s with ter := { s.ter with spaceTold := low } } z := by
      rw [show ({ s.ter with spaceTold := low } : Terrace) = { y.ter with spaceTold := low } by rw [hter]]
      exact withTer_affects hall _
    refine hz.trans (.ite _ (fun _ => (AffectsOnly.flag z _ ?_).trans (terEvent_affects _ _ _ _ _)) fun _ => .refl z)
    exact .inl rfl

theorem terRegs (s : State) : TerraceTo s s.terRegs := by
  obtain ⟨b, h⟩ := terRegs_affects s
  exact (withTer s _).trans (of_affects h)

/-! ### Drives and extents -/

theorem driveState (s : State) (d st : Nat) : TerraceTo s (s.driveState d st) := (setDrive s d _).trans (flag _ _ rfl)

theorem judgeAll (s : State) : TerraceTo s s.judgeAll := withTer s _

theorem moveAbandon (s : State) : TerraceTo s s.moveAbandon := by
  unfold State.moveAbandon
  split
  · exact ((withTer s _).trans (setExt _ _ _)).trans (tokGive _ _)
  · exact refl s

theorem evacEnd (s : State) (status : Nat) : TerraceTo s (s.evacEnd status) := by
  unfold State.evacEnd
  split
  · extract_lets _ t u
    have hu : TerraceTo t u := ite _ (fun _ => tokGive _ _) fun _ => of_affects (.tokWithdraw _ _ _ _)
    exact ((withTer s _).trans hu).trans (complete _ _ _ _)
  · exact refl s

theorem markBlock (s : State) (n lba : Nat) : TerraceTo s (s.markBlock n lba) := by
  unfold State.markBlock
  extract_lets k x _ t
  have ht : TerraceTo s t := (setExt s _ _).trans (tickFree _)
  exact ite _ (fun _ => refl s) fun _ => ite _ (fun _ => withTer s _) fun _ => ite _ (fun _ => ht.trans (withTer t _)) fun _ => setExt s _ _

theorem driveLost (s : State) (d st tag : Nat) (flight : List (Nat × Nat)) : TerraceTo s (s.driveLost d st tag flight) := by
  unfold State.driveLost
  extract_lets n u v w x
  have hu : TerraceTo s u := ite _ (fun _ => evacEnd s _) fun _ => refl s
  have hv : TerraceTo u v := by
    unfold v
    split
    · exact ite _ (fun _ => moveAbandon u) fun _ => refl u
    · exact refl u
  have hw : TerraceTo v w := (driveState v d st).trans (judgeAll _)
  have hx : TerraceTo w x := foldl _ (fun y f => ite _ (fun _ => markBlock y f.1 f.2) fun _ => refl y) _ _
  exact (((hu.trans hv).trans hw).trans hx).trans ((of_affects (terEvent_affects x _ _ _ _)).trans (terRegs _))

theorem terLinkLost (s : State) (d : Nat) (flight : List (Nat × Nat)) : TerraceTo s (s.terLinkLost d flight) := by
  unfold State.terLinkLost
  extract_lets t _ u
  have ht : TerraceTo s t := (wr s _ (drvStatBlock d)).trans (wr _ _ (drvStatBlock d))
  have hu : TerraceTo s u := ht.trans (setDrive t d _)
  have hempty : TerraceTo s ((u.setDrive d { u.drive d with cap := 0 }).driveState d 0).terRegs :=
    hu.trans (((setDrive u d _).trans (driveState _ d 0)).trans (terRegs _))
  split
  · exact hu.trans (driveLost _ _ _ _ _)
  · exact hu.trans (driveLost _ _ _ _ _)
  · exact hempty
  · exact hempty
  · exact hempty
  · exact hu

theorem driveBack (s : State) (d : Nat) : TerraceTo s (s.driveBack d) := (driveState s d 2).trans (judgeAll _)

theorem judgeDrive (s : State) (d : Nat) (suits : Bool) (exts : Nat) (label : Option (Nat × Nat × Nat)) :
    TerraceTo s (s.judgeDrive d suits exts label) := by
  unfold State.judgeDrive
  extract_lets x cap now n
  have hnow : TerraceTo s now := setDrive s d _
  split
  · refine (hnow.trans ?_).trans (terRegs _)
    exact ite _ (fun _ => driveState _ _ _) fun _ => ite _ (fun _ => (driveState _ _ _).trans (of_affects (terEvent_affects _ _ _ _ _)))
      fun _ => ite _ (fun _ => driveBack _ _) fun _ => driveState _ _ _
  · exact ite _ (fun _ => (hnow.trans ((driveBack _ _).trans (of_affects (terEvent_affects _ _ _ _ _)))).trans (terRegs _))
      fun _ => setDrive s d _
  · exact setDrive s d _

end State.TerraceTo

end Sys2Proof.Machine
end

section
/-! SUPPORT. Links of the PCE block (R465-R468): what a slot's link going down, a log entry and an aborted mailbox change. -/

namespace Sys2Proof.Machine

/-! ### The log -/

/-- The registers an entry of the root port's log is written to. -/
def pceLogRegs : Set Nat := {k | k = Reg.PCE_LOGHEAD ∨ 0x14200 ≤ k ∧ k < 0x14300}

theorem logWord_mem (i j : Nat) : Reg.PCE_LOGk_W i j ∈ pceLogRegs := .inr (by unfold Reg.PCE_LOGk_W; omega)

theorem State.pceLog_affects (s : State) (type : Nat) (slot : Option Nat) (hdr addr : Nat) :
    s.AffectsOnly pceLogRegs (s.pceLog type slot hdr addr) := by
  unfold State.pceLog
  extract_lets n k put
  have hput (x : State) (w v : Nat) : x.AffectsOnly pceLogRegs (put x w v) := .setReg x _ (.inl (logWord_mem k w))
  exact .ite _ (fun _ => .refl s) fun _ =>
    ((((hput s 0 _).trans (hput _ 1 _)).trans (hput _ 2 _)).trans (hput _ 3 _)).trans (.wr _ _ (.inl (.inl rfl)))

theorem Reg.slotCtl_notLogged (n : Nat) : Reg.PCE_SLOTs_CTL n ∉ pceLogRegs := by
  unfold Reg.PCE_SLOTs_CTL pceLogRegs Reg.PCE_LOGHEAD
  simp only [Set.mem_ofPred_eq]
  omega

theorem Reg.slotStat_notLogged (n : Nat) : Reg.PCE_SLOTs_STAT n ∉ pceLogRegs := by
  unfold Reg.PCE_SLOTs_STAT pceLogRegs Reg.PCE_LOGHEAD
  simp only [Set.mem_ofPred_eq]
  omega

theorem Reg.slotCtl_block (n : Nat) : Reg.PCE_SLOTs_CTL n / 0x1000 = 0x14 := by
  unfold Reg.PCE_SLOTs_CTL
  omega

theorem Reg.slotStat_block (n : Nat) : Reg.PCE_SLOTs_STAT n / 0x1000 = 0x14 := by
  unfold Reg.PCE_SLOTs_STAT
  omega

theorem Reg.slotCtl_ne_stat (n m : Nat) : Reg.PCE_SLOTs_CTL n ≠ Reg.PCE_SLOTs_STAT m := by
  unfold Reg.PCE_SLOTs_CTL Reg.PCE_SLOTs_STAT
  omega

theorem notEntry_pce {k : Nat} (h : k / 0x1000 = 0x14) : ¬ entryBlock (k / 0x1000) := by
  rw [h]
  exact notEntry (by decide)

/-! ### A slot's link -/

theorem State.slotDown_affects (s : State) (n : Nat) (b : Bool) : s.AffectsOnly {Reg.PCE_SLOTs_STAT n} (s.slotDown n b) := by
  have hin : Reg.PCE_SLOTs_STAT n ∈ ({Reg.PCE_SLOTs_STAT n} : Set Nat) ∨ entryBlock (Reg.PCE_SLOTs_STAT n / 0x1000) := .inl rfl
  unfold State.slotDown
  exact .ite _ (fun _ => .refl s) fun _ =>
    (((((State.AffectsOnly.wr s _ hin).trans (.wr _ _ hin)).trans (.wr _ _ hin)).trans (.wr _ _ hin)).trans (.wrB _ _ hin)).trans (.inc _ hin)

theorem State.slotDown_link (s : State) (n : Nat) (b : Bool) : (s.slotDown n b).on (F.PCE_SLOTs_STAT_LINK n) = false := by
  unfold State.slotDown
  split
  · assumption
  · refine (State.on_congr ?_).trans ((s.wr (F.PCE_SLOTs_STAT_PRESENT n) 0).on_wr_zero (f := F.PCE_SLOTs_STAT_LINK n) (Fld.hi_lt rfl))
    unfold State.inc State.incBy State.wrB
    exact (State.rd_wr_apart _ _ rfl).trans ((State.rd_wr_apart _ _ rfl).trans
      ((State.rd_wr_apart _ _ rfl).trans (State.rd_wr_apart _ _ rfl)))

theorem State.slotDown_surprise {s : State} {n : Nat} (b : Bool) (h : s.on (F.PCE_SLOTs_STAT_LINK n) = true) :
    (s.slotDown n b).on (F.PCE_SLOTs_STAT_SURPRISE n) = b := by
  unfold State.slotDown
  rw [if_neg (by rw [h]; decide)]
  refine (State.on_congr (State.rd_wr_apart _ _ rfl)).trans ?_
  cases b
  · exact State.on_wr_zero _ (Fld.hi_lt rfl)
  · exact State.on_wr_one _ (Fld.hi_lt rfl) rfl

/-- A slot whose link is down stays so while another goes down. -/
theorem State.slotDown_keeps_down {s : State} {n : Nat} (m : Nat) (b : Bool) (h : s.on (F.PCE_SLOTs_STAT_LINK n) = false) :
    (s.slotDown m b).on (F.PCE_SLOTs_STAT_LINK n) = false := by
  by_cases heq : Reg.PCE_SLOTs_STAT n = Reg.PCE_SLOTs_STAT m
  · have hfld : F.PCE_SLOTs_STAT_LINK n = F.PCE_SLOTs_STAT_LINK m := congrArg (fun a => (⟨a, 30, 30⟩ : Fld)) heq
    rw [hfld]
    exact s.slotDown_link m b
  · exact ((s.slotDown_affects m b).on (f := F.PCE_SLOTs_STAT_LINK n) (notEntry_pce (Reg.slotStat_block n)) heq).trans h

theorem foldl_slotDown_keeps_down {n : Nat} (b : Bool) (l : List Nat) {s : State} (h : s.on (F.PCE_SLOTs_STAT_LINK n) = false) :
    (l.foldl (fun x m => x.slotDown m b) s).on (F.PCE_SLOTs_STAT_LINK n) = false := by
  induction l generalizing s with
  | nil => exact h
  | cons m l ih => exact ih (State.slotDown_keeps_down m b h)

theorem foldl_slotDown_link {n : Nat} (b : Bool) {l : List Nat} (hn : n ∈ l) (s : State) :
    (l.foldl (fun x m => x.slotDown m b) s).on (F.PCE_SLOTs_STAT_LINK n) = false := by
  induction l generalizing s with
  | nil => simp at hn
  | cons m l ih =>
    rcases List.mem_cons.mp hn with rfl | hin
    · exact foldl_slotDown_keeps_down b l (s.slotDown_link n b)
    · exact ih hin _

/-- The slots' status registers. -/
def slotStatRegs : Set Nat := {k | ∃ n, k = Reg.PCE_SLOTs_STAT n}

theorem notSlotStat {k : Nat} (h : k < 0x14100) : k ∉ slotStatRegs := by
  rintro ⟨n, rfl⟩
  unfold Reg.PCE_SLOTs_STAT at h
  omega

theorem State.rootDown_shows {s : State} (h : s.on F.PCE_STAT_RPUP = true) :
    s.rootDown.on F.PCE_STAT_RPUP = false ∧ ∀ n < 32, s.rootDown.on (F.PCE_SLOTs_STAT_LINK n) = false := by
  unfold State.rootDown
  rw [if_pos h]
  refine ⟨?_, fun n hn => foldl_slotDown_link _ (List.mem_range.mpr hn) _⟩
  refine ((State.AffectsOnly.foldl (S := slotStatRegs) _ (fun x n => (x.slotDown_affects n true).mono ?_) _ _).on (notEntry (by decide)) (notSlotStat (by decide))).trans ?_
  · exact Set.singleton_subset_iff.mpr ⟨n, rfl⟩
  · refine (State.on_congr ?_).trans (s.on_wr_zero (f := F.PCE_STAT_RPUP) (by decide))
    exact (State.rd_wr_other _ _ (by decide)).trans ((State.rd_wr_other _ _ (by decide)).trans (State.rd_wr_other _ _ (by decide)))

/-! ### Mailboxes of the endpoint -/

theorem State.reg_mapBit_other (s : State) {base k blk : Nat} (m : Nat) (v : Bool) (hk : k / 0x1000 ≠ blk) (hb : base / 0x1000 = blk)
    (hend : (base + 12) / 0x1000 = blk) : (s.mapBit base m v).reg k = s.reg k := by
  refine s.reg_wr_other _ (f := ⟨base + 4 * (m / 32 % 4), m % 32, m % 32⟩) fun e => hk ?_
  change k = base + 4 * (m / 32 % 4) at e
  omega

theorem State.mbxAbort_reg (s : State) (m : Nat) {k : Nat} (hk : k / 0x1000 ≠ 7) : (s.mbxAbort m).reg k = s.reg k := by
  have hlo : k ≠ Reg.MBX_MnLO m := fun e => hk (by rw [e]; unfold Reg.MBX_MnLO; omega)
  have hhi : k ≠ Reg.MBX_MnHI m := fun e => hk (by rw [e]; unfold Reg.MBX_MnHI; omega)
  have hstat : k ≠ Reg.MBX_MnSTAT m := fun e => hk (by rw [e]; unfold Reg.MBX_MnSTAT; omega)
  have hlost : k ≠ Reg.MBX_LOSTCNT := fun e => hk (by rw [e]; rfl)
  have hset (x : State) {j : Nat} (h : k ≠ j) : (x.resetReg j).reg k = x.reg k := x.reg_setReg_other _ h
  unfold State.mbxAbort
  split
  · extract_lets src t u
    have ht : t.reg k = s.reg k := by
      refine (State.reg_mapBit_other _ (blk := 7) m false hk rfl rfl).trans ?_
      refine (hset _ hhi).trans ((hset _ hlo).trans ?_)
      exact (State.reg_wr_other _ _ hstat).trans (State.reg_wr_other _ _ hstat)
    have hu : u.reg k = t.reg k := by
      refine (State.reg_inc_other _ hlost).trans ?_
      exact State.reg_mapBit_other _ (blk := 7) m true hk rfl rfl
    clear_value t u
    have hend (x : State) (l : List (Nat × Nat)) : ({ x with mbxOwed := l } : State).reg k = x.reg k := rfl
    have hirq (x : State) (d : Dest) (i : IrqSrc) : (x.irq d i).reg k = x.reg k := rfl
    split
    · exact (hirq _ _ _).trans (hu.trans ht)
    · exact (hend _ _).trans (hu.trans ht)
  · rfl

theorem State.mbxAbortAll_reg (s : State) (id : Nat) {k : Nat} (hk : k / 0x1000 ≠ 7) : (s.mbxAbortAll id).reg k = s.reg k :=
  List.foldlRecOn (motive := fun x : State => x.reg k = s.reg k) _ _ rfl fun x hx _ _ => (x.mbxAbort_reg _ hk).trans hx

theorem State.mbxPayOwed_reg (s : State) (k : Nat) : s.mbxPayOwed.reg k = s.reg k :=
  List.foldlRecOn (motive := fun x : State => x.reg k = s.reg k) _ _ rfl fun _ hx _ _ => hx

/-! ### The commands -/

theorem State.complete_slot (s : State) (q : Nat) (d : Desc) (r : Result) {f : Fld} (h : f.addr / 0x1000 = 0x14) :
    (s.complete q d r).rd f = s.rd f := (EntersTo.complete s q d r).rd (notEntry_pce h)

/-- SLOTPWR leaves the slot switched as asked, and one switched off without a link. -/
theorem execSlotpwr_shows {s : State} {d : Desc} (hrun : s.running 110 1 = some d) (hn : d.le 16 1 < 32) (hon : d.le 17 1 ≤ 1) :
    Completes (.slotpwr) s (fun t => t.on (F.PCE_SLOTs_CTL_PWR (d.le 16 1)) = decide (d.le 17 1 = 1) ∧
      (d.le 17 1 = 0 → t.on (F.PCE_SLOTs_STAT_LINK (d.le 16 1)) = false)) := by
  refine ⟨_, congrArg Host.Outcome.next (State.serve_of_running _ hrun), ?_⟩
  dsimp only
  generalize d.le 16 1 = n at hn ⊢
  have hdone (x : State) (r : Result) : (x.complete 110 d r).on (F.PCE_SLOTs_CTL_PWR n) = x.on (F.PCE_SLOTs_CTL_PWR n) ∧
      (x.complete 110 d r).on (F.PCE_SLOTs_STAT_LINK n) = x.on (F.PCE_SLOTs_STAT_LINK n) :=
    ⟨State.on_congr (x.complete_slot _ _ _ (Reg.slotCtl_block n)), State.on_congr (x.complete_slot _ _ _ (Reg.slotStat_block n))⟩
  rw [if_neg (by omega)]
  rcases Nat.le_one_iff_eq_zero_or_eq_one.mp hon with hoff | hon
  · have hpwr : (s.wr (F.PCE_SLOTs_CTL_PWR n) 0).on (F.PCE_SLOTs_CTL_PWR n) = false := State.on_wr_zero _ (Fld.hi_lt rfl)
    have hlink : (s.wr (F.PCE_SLOTs_CTL_PWR n) 0).on (F.PCE_SLOTs_STAT_LINK n) = s.on (F.PCE_SLOTs_STAT_LINK n) :=
      State.on_congr (State.rd_wr_other _ _ (Reg.slotCtl_ne_stat n n).symm)
    generalize s.wr (F.PCE_SLOTs_CTL_PWR n) 0 = u at hpwr hlink
    rw [if_neg (by omega), hoff]
    split
    · next hdown => exact ⟨(hdone _ _).1.trans hpwr, fun _ => (hdone _ _).2.trans (hlink.trans hdown)⟩
    · have hlog := (u.slotDown n false).pceLog_affects 5 (some n) 0 0
      have hlink' : ((u.slotDown n false).pceLog 5 (some n) 0 0).on (F.PCE_SLOTs_STAT_LINK n) = false :=
        (hlog.on (notEntry_pce (Reg.slotStat_block n)) (Reg.slotStat_notLogged n)).trans (u.slotDown_link n false)
      have hpwr' : ((u.slotDown n false).pceLog 5 (some n) 0 0).on (F.PCE_SLOTs_CTL_PWR n) = false :=
        (hlog.on (notEntry_pce (Reg.slotCtl_block n)) (Reg.slotCtl_notLogged n)).trans
          (((u.slotDown_affects n false).on (f := F.PCE_SLOTs_CTL_PWR n) (notEntry_pce (Reg.slotCtl_block n)) (Reg.slotCtl_ne_stat n n)).trans hpwr)
      generalize (u.slotDown n false).pceLog 5 (some n) 0 0 = v at hlink' hpwr'
      have hter : v.TerraceTo (if v.terUp = true then v.terLinkLost n [] else v) := .ite _ (fun _ => .terLinkLost v n []) fun _ => .refl v
      have hblock {k : Nat} (h : k / 0x1000 = 0x14) : k / 0x1000 ≠ 0x13 := by omega
      exact ⟨(hdone _ _).1.trans ((hter.on (notEntry_pce (Reg.slotCtl_block n)) (hblock (Reg.slotCtl_block n))).trans hpwr'),
        fun _ => (hdone _ _).2.trans ((hter.on (notEntry_pce (Reg.slotStat_block n)) (hblock (Reg.slotStat_block n))).trans hlink')⟩
  · rw [if_pos hon, hon]
    exact ⟨(hdone _ _).1.trans (State.on_wr_one _ (Fld.hi_lt rfl) rfl), fun h => absurd h (by decide)⟩

/-- RETRAIN gives a slot whose link is up the generation it trains with. -/
theorem execRetrain_shows {s : State} {gen width : Nat} {d : Desc} (hrun : s.running 110 2 = some d) (hn : d.le 16 1 < 32) :
    Completes (.retrain gen width) s (fun t => t.rd (F.PCE_SLOTs_STAT_GEN (d.le 16 1)) = (if s.on (F.PCE_SLOTs_STAT_LINK (d.le 16 1)) = true
      then gen % 2 ^ (F.PCE_SLOTs_STAT_GEN (d.le 16 1)).width else s.rd (F.PCE_SLOTs_STAT_GEN (d.le 16 1)))) := by
  refine ⟨_, congrArg Host.Outcome.next (State.serve_of_running _ hrun), ?_⟩
  dsimp only
  generalize d.le 16 1 = n at hn ⊢
  have hdone (x : State) (r : Result) : (x.complete 110 d r).rd (F.PCE_SLOTs_STAT_GEN n) = x.rd (F.PCE_SLOTs_STAT_GEN n) :=
    x.complete_slot _ _ _ (Reg.slotStat_block n)
  rw [if_neg (by omega), if_neg (by omega)]
  split
  · have hgen : ((s.wr (F.PCE_SLOTs_STAT_GEN n) gen).wr (F.PCE_SLOTs_STAT_WIDTH n) width).rd (F.PCE_SLOTs_STAT_GEN n) =
        gen % 2 ^ (F.PCE_SLOTs_STAT_GEN n).width :=
      (State.rd_wr_apart _ _ rfl).trans (s.rd_wr_same _ _ (Fld.hi_lt rfl))
    generalize (s.wr (F.PCE_SLOTs_STAT_GEN n) gen).wr (F.PCE_SLOTs_STAT_WIDTH n) width = u at hgen
    have hter : u.TerraceTo (if u.terUp = true then (u.wr (F.TER_DRVd_STAT_GEN n) gen).wr (F.TER_DRVd_STAT_WIDTH n) width else u) :=
      .ite _ (fun _ => (State.TerraceTo.wr u _ (State.TerraceTo.drvStatBlock n)).trans (.wr _ _ (State.TerraceTo.drvStatBlock n))) fun _ => .refl u
    refine (hdone _ _).trans ((hter.rd (notEntry_pce (Reg.slotStat_block n)) ?_).trans hgen)
    change Reg.PCE_SLOTs_STAT n / 0x1000 ≠ 0x13
    rw [Reg.slotStat_block n]
    decide
  · exact hdone _ _

theorem execPcieLinkLoss_slot {s : State} {n : Nat} (hpce : s.pceOn = true) (hn : n < 32) :
    Completes (.pcieLinkLoss (some n)) s (fun t => t.on (F.PCE_SLOTs_STAT_LINK n) = false ∧
      (s.on (F.PCE_SLOTs_STAT_LINK n) = true → t.on (F.PCE_SLOTs_STAT_SURPRISE n) = s.on (F.PCE_SLOTs_CTL_PWR n))) := by
  refine ⟨_, congrArg Host.Outcome.next (if_neg (by rw [hpce]; decide)), ?_⟩
  dsimp only
  have hlog (x : State) (ty : Nat) : (x.pceLog ty (some n) 0 0).on (F.PCE_SLOTs_STAT_LINK n) = x.on (F.PCE_SLOTs_STAT_LINK n) ∧
      (x.pceLog ty (some n) 0 0).on (F.PCE_SLOTs_STAT_SURPRISE n) = x.on (F.PCE_SLOTs_STAT_SURPRISE n) :=
    ⟨(x.pceLog_affects _ _ _ _).on (notEntry_pce (Reg.slotStat_block n)) (Reg.slotStat_notLogged n),
      (x.pceLog_affects _ _ _ _).on (notEntry_pce (Reg.slotStat_block n)) (Reg.slotStat_notLogged n)⟩
  have hflag (x : State) {f : Fld} (h : f.addr = Reg.PCE_SLOTs_STAT n) : x.pceSurprise.on f = x.on f :=
    State.on_congr (State.flag_rd_other x (stat := F.PCE_STAT_SURPRISE) (by rw [h]; unfold Reg.PCE_SLOTs_STAT; change _ ≠ 0x14004; omega))
  by_cases hlink : s.on (F.PCE_SLOTs_STAT_LINK n) = true
  · rw [if_neg (by rw [hlink]; simp; omega)]
    split
    · next hpwr =>
      exact ⟨(hlog _ _).1.trans ((hflag _ rfl).trans (s.slotDown_link n true)),
        fun _ => (hlog _ _).2.trans ((hflag _ rfl).trans ((State.slotDown_surprise true hlink).trans hpwr.symm))⟩
    · next hpwr =>
      exact ⟨(hlog _ _).1.trans (s.slotDown_link n false),
        fun _ => (hlog _ _).2.trans ((State.slotDown_surprise false hlink).trans (eq_false_of_ne_true hpwr).symm)⟩
  · rw [if_pos (.inr (eq_false_of_ne_true hlink))]
    exact ⟨eq_false_of_ne_true hlink, fun h => absurd h hlink⟩

theorem execPcieLinkLoss_root {s : State} (hpce : s.pceOn = true) :
    Completes (.pcieLinkLoss none) s (fun t => t.on F.PCE_STAT_RPUP = false ∧
      (s.on F.PCE_STAT_RPUP = true → (List.range 32).all (fun n => !t.on (F.PCE_SLOTs_STAT_LINK n)) = true)) := by
  refine ⟨_, congrArg Host.Outcome.next (if_neg (by rw [hpce]; decide)), ?_⟩
  dsimp only
  split
  · next hup =>
    obtain ⟨hroot, hslots⟩ := State.rootDown_shows hup
    have hlog := (s.rootDown.pceSurprise).pceLog_affects 4 none 0 0
    refine ⟨?_, fun _ => ?_⟩
    · refine (hlog.on (f := F.PCE_STAT_RPUP) (notEntry (by decide)) ?_).trans ?_
      · exact fun h => absurd h (by unfold pceLogRegs; simp only [Set.mem_ofPred_eq]; decide)
      · refine (State.on_congr ?_).trans hroot
        unfold State.pceSurprise State.flag
        exact (State.rd_congr (by rw [State.notify_reg])).trans (State.rd_wr_apart _ _ rfl)
    · rw [List.all_eq_true]
      intro n hn
      have hlink : ((s.rootDown.pceSurprise).pceLog 4 none 0 0).on (F.PCE_SLOTs_STAT_LINK n) = false := by
        refine (hlog.on (notEntry_pce (Reg.slotStat_block n)) (Reg.slotStat_notLogged n)).trans ?_
        refine (State.on_congr (State.flag_rd_other _ (stat := F.PCE_STAT_SURPRISE) ?_)).trans (hslots n (List.mem_range.mp hn))
        change Reg.PCE_SLOTs_STAT n ≠ 0x14004
        unfold Reg.PCE_SLOTs_STAT
        omega
      rw [hlink]
      rfl
  · next hup => exact ⟨eq_false_of_ne_true hup, fun h => absurd h hup⟩

theorem execEndpointLinkChange_shows {s : State} (up : Bool) (gen width : Nat) (hpce : s.pceOn = true) (hen : s.on F.PCE_CTL_EN = true)
    (hsplit : s.on F.PCE_CTL_SPLIT = true) (hep : s.on F.PCE_EPCTL_EN = true) :
    Completes (.endpointLinkChange up gen width) s (fun t => t.on F.PCE_STAT_EPUP = up) := by
  refine ⟨_, congrArg Host.Outcome.next (if_neg (by rw [hpce]; decide)), ?_⟩
  dsimp only
  cases up with
  | false =>
    rw [if_pos rfl]
    unfold State.endDown
    split
    · refine (State.on_congr (State.rd_congr (State.mbxAbortAll_reg _ 7 (by decide)))).trans ?_
      refine (State.on_congr ?_).trans (s.on_wr_zero (f := F.PCE_STAT_EPUP) (by decide))
      exact (State.rd_wr_other _ _ (by decide)).trans ((State.rd_wr_other _ _ (by decide)).trans (State.rd_wr_other _ _ (by decide)))
    · next hdown => exact eq_false_of_ne_true hdown
  | true =>
    rw [if_neg (by decide), if_neg (by rw [hen, hsplit, hep]; decide)]
    refine (State.on_congr (State.rd_congr (State.mbxPayOwed_reg _ _))).trans ?_
    refine (State.on_congr ?_).trans (s.on_wr_one (f := F.PCE_STAT_EPUP) (by decide) rfl)
    exact (State.rd_wr_other _ _ (by decide)).trans (State.rd_wr_other _ _ (by decide))

/-- A completion timeout traps the core that issued the request. -/
theorem execCompletionTimeout_traps {s : State} (slot : Option Nat) (hdr addr : Nat) (core : Nat × Nat × Nat × Bool) (hpce : s.pceOn = true)
    (hen : s.on F.PCE_CTL_EN = true) (hcore : core.1 < 16) :
    Completes (.completionTimeout slot hdr addr (some core)) s (fun t => SMap.get (fun _ => {}) t.traps core.1 =
      { SMap.get (fun _ => {}) s.traps core.1 with
        cause := if core.2.1 = 1 then 1 else if core.2.1 = 2 then 7 else 5, tval := core.2.2.1, deleg := core.2.2.2 }) := by
  refine ⟨_, congrArg Host.Outcome.next (if_neg (by rw [hpce, hen]; decide)), ?_⟩
  dsimp only
  rw [if_pos hcore]
  have htraps : ((s.pceLog 7 slot hdr addr).inc F.PCE_RPERR_UNCORR).traps = s.traps := (s.pceLog_affects _ _ _ _).part State.traps fun _ _ => rfl
  rw [htraps]
  exact SMap.get_set_same _ _ _ _

/-- Settles O45: each command's effect on the slot, the links and the core it names; Terrace and side effects leave the block alone. -/
theorem pciExpressCommandsComplete : Obligations.PciExpressCommandsComplete :=
  ⟨fun _ _ hrun hn hon => execSlotpwr_shows hrun hn hon, fun _ _ _ _ hrun hn => execRetrain_shows hrun hn,
    fun _ _ hpce hn => execPcieLinkLoss_slot hpce hn, fun _ hpce => execPcieLinkLoss_root hpce,
    fun _ slot hdr addr core hpce hen hcore => execCompletionTimeout_traps slot hdr addr core hpce hen hcore,
    fun _ up gen width hpce hen hsplit hep => execEndpointLinkChange_shows up gen width hpce hen hsplit hep⟩

end Sys2Proof.Machine
end

section
/-! SUPPORT. The event recorder's operations (R551-R557): the banked registers, the token a record takes, the queue, the store and a fetch. -/

namespace Sys2Proof.Machine

/-! ### Banked registers -/

theorem State.bankReg_setBank_same (s : State) (b key : Nat) (w : W32) : (s.setBank b key w).bankReg b key = w :=
  SMap.get_set_same _ _ _ _

theorem State.bankReg_setBank_other (s : State) (b : Nat) {key k : Nat} (w : W32) (h : k ≠ key) :
    (s.setBank b key w).bankReg b k = s.bankReg b k :=
  SMap.get_set_other _ _ _ fun e => h (Nat.add_left_cancel e)

theorem State.bankReg_congr {s t : State} (h : t.banks = s.banks) (b k : Nat) : t.bankReg b k = s.bankReg b k := by
  unfold State.bankReg
  rw [h]

/-! ### Tokens -/

/-- Whether a refill of severity `sev` falls at this Sundial time and is still to be made (R552). -/
def State.RefillFalls (s : State) (sev : Nat) : Prop :=
  0 < s.rd (F.EVR_BKTs_PERIOD sev) * 1000000 ∧ s.now % (s.rd (F.EVR_BKTs_PERIOD sev) * 1000000) = 0 ∧
    SMap.get (fun _ => 0) s.evr.refilled sev ≠ s.now + 1

theorem State.refillDue_of_falls {s : State} {sev : Nat} (h : s.RefillFalls sev) :
    s.refillDue sev =
      ({ s with evr := { s.evr with refilled := SMap.set (fun _ => 0) s.evr.refilled sev (s.now + 1) } } : State).refill sev := if_pos h

theorem State.refillDue_of_not_falls {s : State} {sev : Nat} (h : ¬ s.RefillFalls sev) : s.refillDue sev = s := if_neg h

/-- A refill changes the buckets alone. -/
structure State.RefillsTo (s t : State) : Prop where
  eq : t = { s with evr := { s.evr with bases := t.evr.bases, buckets := t.evr.buckets, refilled := t.evr.refilled } }

theorem State.refillDue_to (s : State) (sev : Nat) : s.RefillsTo (s.refillDue sev) := by
  by_cases h : s.RefillFalls sev
  · rw [State.refillDue_of_falls h]
    exact ⟨rfl⟩
  · rw [State.refillDue_of_not_falls h]
    exact ⟨rfl⟩

/-- A refill falls, and fills the buckets, the same under another response and other banked registers. -/
theorem State.refillDue_withBanks (s : State) (r : Resp) (m : SMap W32) (sev : Nat) :
    ({ s with resp := r, banks := m } : State).refillDue sev = { s.refillDue sev with resp := r, banks := m } := by
  by_cases h : s.RefillFalls sev
  · rw [State.refillDue_of_falls h]
    exact State.refillDue_of_falls h
  · rw [State.refillDue_of_not_falls h]
    exact State.refillDue_of_not_falls h

/-- The state in which a record looks for its token: after a refill that falls at the instant. -/
def State.refilled (s : State) (sev : Nat) : State := if s.bedOn then s.refillDue sev else s

theorem State.refilled_to (s : State) (sev : Nat) : s.RefillsTo (s.refilled sev) := by
  unfold State.refilled
  split
  · exact s.refillDue_to sev
  · exact ⟨rfl⟩

theorem State.refilled_withBanks (s : State) (r : Resp) (m : SMap W32) (sev : Nat) :
    ({ s with resp := r, banks := m } : State).refilled sev = { s.refilled sev with resp := r, banks := m } := by
  by_cases h : s.bedOn = true
  · exact (if_pos h).trans ((s.refillDue_withBanks r m sev).trans (by unfold State.refilled; rw [if_pos h]))
  · exact (if_neg h).trans (by unfold State.refilled; rw [if_neg h])

/-- What a record of `code` and `sev` does to the buckets: no limit at depth 0, suppressed at no token, or a token taken (R552). -/
theorem State.takeBucket_cases (s : State) (code sev : Nat) :
    ((s.refilled sev).depth sev = 0 ∧ s.takeBucket code sev = (s.refilled sev, true)) ∨
    ((s.refilled sev).depth sev ≠ 0 ∧ (s.refilled sev).tokens code sev = 0 ∧ ∃ b : Bucket, s.takeBucket code sev =
      ((((s.refilled sev).setBucket code b).inc F.EVR_SUPPCNT_CNT).flag F.EVR_STAT_SUPP F.EVR_CTL_IE_SUPP, false)) ∨
    ((s.refilled sev).depth sev ≠ 0 ∧ (s.refilled sev).tokens code sev ≠ 0 ∧ ∃ b : Bucket, s.takeBucket code sev =
      ((s.refilled sev).setBucket code b, true)) := by
  by_cases hd : (s.refilled sev).depth sev = 0
  · exact .inl ⟨hd, if_pos hd⟩
  by_cases ht : (s.refilled sev).tokens code sev = 0
  · exact .inr (.inl ⟨hd, ht, _, (if_neg hd).trans (if_pos ht)⟩)
  · exact .inr (.inr ⟨hd, ht, _, (if_neg hd).trans (if_neg ht)⟩)

theorem State.takeBucket_snd (s : State) (code sev : Nat) :
    (s.takeBucket code sev).2 = decide ((s.refilled sev).depth sev = 0 ∨ (s.refilled sev).tokens code sev ≠ 0) := by
  obtain ⟨hd, h⟩ | ⟨hd, ht, b, h⟩ | ⟨hd, ht, b, h⟩ := s.takeBucket_cases code sev
  · simp [h, hd]
  · simp [h, hd, ht]
  · simp [h, ht]

/-- Whether a record finds a token does not hang on the response or the banked registers. -/
theorem State.takeBucket_withBanks (s : State) (r : Resp) (m : SMap W32) (code sev : Nat) :
    (({ s with resp := r, banks := m } : State).takeBucket code sev).2 = (s.takeBucket code sev).2 := by
  rw [State.takeBucket_snd, State.takeBucket_snd, State.refilled_withBanks]
  rfl

theorem State.flag_evr (s : State) (stat ie : Fld) : (s.flag stat ie).evr = s.evr := by
  unfold State.flag State.notify
  split <;> rfl

/-- Taking a token leaves the queue, the store, the banked registers and the response alone. -/
theorem State.takeBucket_keeps (s : State) (code sev : Nat) :
    (s.takeBucket code sev).1.evr.queue = s.evr.queue ∧ (s.takeBucket code sev).1.evr.store = s.evr.store ∧
      (s.takeBucket code sev).1.banks = s.banks ∧ (s.takeBucket code sev).1.resp = s.resp := by
  have hr := (s.refilled_to sev).eq
  obtain ⟨_, h⟩ | ⟨_, _, b, h⟩ | ⟨_, _, b, h⟩ := s.takeBucket_cases code sev <;> rw [h]
  · rw [hr]
    exact ⟨rfl, rfl, rfl, rfl⟩
  · have hf := AffectsOnly.flag (S := Set.univ) (((s.refilled sev).setBucket code b).inc F.EVR_SUPPCNT_CNT) (stat := F.EVR_STAT_SUPP)
      F.EVR_CTL_IE_SUPP (.inl trivial)
    have hevr : ((((s.refilled sev).setBucket code b).inc F.EVR_SUPPCNT_CNT).flag F.EVR_STAT_SUPP F.EVR_CTL_IE_SUPP).evr =
      ((s.refilled sev).setBucket code b).evr := State.flag_evr _ _ _
    refine ⟨(congrArg Evr.queue hevr).trans ?_, (congrArg Evr.store hevr).trans ?_, (hf.part State.banks fun _ _ => rfl).trans ?_,
      (hf.part State.resp fun _ _ => rfl).trans ?_⟩ <;> (rw [hr]; rfl)
  · rw [hr]
    exact ⟨rfl, rfl, rfl, rfl⟩

/-! ### Queue and store -/

theorem queueInsert_length (r : Rec) (q : List Rec) : (queueInsert r q).length = q.length + 1 := by
  have h := List.length_eq_length_filter_add (l := q) (queueAhead r)
  simp only [queueInsert, List.length_append, List.length_singleton]
  omega

theorem State.enqueue_of_room {s : State} (r : Rec) (h : s.evr.queue.length < 64) :
    s.enqueue r = (({ s with evr := { s.evr with queue := queueInsert r s.evr.queue } } : State).evrQueueRegs, true) := if_pos h

theorem State.storeRec_store {s : State} (r : Rec) (h : s.evr.store.length < evrSlots) :
    (s.storeRec r).evr.store = s.evr.store ++ [(s.evr.next, { r with supp := (s.bucket r.code).supp, time := 0 })] := by
  unfold State.storeRec
  rw [if_pos h]
  rfl

/-- The head of the queue leaves it; it is written to the store, or lost with a supply that fails during the write. -/
theorem execEventRecordWrite_writes {s : State} (cut : Bool) {r : Rec} {rest : List Rec} (hbed : s.bedOn = true) (hq : s.evr.queue = r :: rest)
    (hsoft : r.software = true) (hroom : s.evr.store.length < evrSlots) :
    Completes (.eventRecordWrite cut) s (fun t => t.evr.queue = rest ∧ (if cut = true then t.evr.store = s.evr.store
      else t.evr.store = s.evr.store ++ [(s.evr.next, { r with supp := (s.bucket r.code).supp, time := 0 })])) := by
  refine ⟨if cut then s.popQueue.cutWrite r else s.popQueue.storeRec r, congrArg Host.Outcome.next ?_, ?_⟩
  · rw [hq]
    simp only [hbed, hsoft, if_true]
  dsimp only
  have hpop : s.popQueue.evr.queue = rest := congrArg List.tail hq
  cases cut with
  | true =>
    have hcut : s.popQueue.cutWrite r = s.popQueue := if_pos hroom
    rw [if_pos rfl, if_pos rfl, hcut]
    exact ⟨hpop, rfl⟩
  | false =>
    rw [if_neg (by decide), if_neg (by decide), State.storeRec_store (s := s.popQueue) r hroom]
    have hst : s.popQueue.storeRec r = s.popQueue.appendRec s.evr.store r := if_pos hroom
    rw [hst]
    exact ⟨hpop, rfl⟩

/-- A refill that falls gives the severity's unused buckets one token up to the depth, and is noted. -/
theorem execBucketRefill_fills {s : State} {sev : Nat} (hroot : s.rootOn = true) (hbed : s.bedOn = true) (hsev : sev < 16)
    (hper : 0 < s.rd (F.EVR_BKTs_PERIOD sev)) (hnow : s.now % (s.rd (F.EVR_BKTs_PERIOD sev) * 1000000) = 0)
    (hnot : SMap.get (fun _ => 0) s.evr.refilled sev ≠ s.now + 1) :
    Completes (.bucketRefill sev) s (fun t =>
      t.baseTokens sev = (if s.baseTokens sev < s.depth sev then s.baseTokens sev + 1 else s.baseTokens sev) ∧
        SMap.get (fun _ => 0) t.evr.refilled sev = s.now + 1) := by
  refine ⟨s.refillDue sev, congrArg Host.Outcome.next ((if_neg (by rw [hroot]; simp; omega)).trans (if_pos hbed)), ?_⟩
  rw [State.refillDue_of_falls ⟨Nat.mul_pos hper (by decide), hnow, hnot⟩]
  exact ⟨SMap.get_set_same _ _ _ _, SMap.get_set_same (fun _ => 0) s.evr.refilled sev (s.now + 1)⟩

/-! ### Software commits -/

theorem State.swResult_result (s : State) (b : Nat) {res : Nat} (clamp : Bool) (h : res < 4) :
    getBits ((s.swResult b res clamp).bankReg b Reg.EVR_SWREC) 31 30 = res := by
  unfold State.swResult
  rw [State.bankReg_setBank_same, getBits_setBits_other (by decide) (by decide) (by decide), getBits_setBits_same (by decide)]
  exact Nat.mod_eq_of_lt h

theorem State.swRefuse_refused (s : State) (b cause : Nat) :
    getBits ((s.swRefuse b cause).bankReg b Reg.EVR_SWREC) 31 30 = 3 ∧ (s.swRefuse b cause).evr.queue = s.evr.queue ∧
      (s.swRefuse b cause).resp = s.resp := by
  have hf := AffectsOnly.flag (S := Set.univ) (((s.swResult b 3 false).wr F.EVR_BADCFG_CAUSE cause).wr F.EVR_BADCFG_BANK b)
    (stat := F.EVR_STAT_CFGREJ) F.EVR_CTL_IE_CFG (.inl trivial)
  refine ⟨?_, congrArg Evr.queue (State.flag_evr _ _ _), hf.part State.resp fun _ _ => rfl⟩
  have hbanks : (s.swRefuse b cause).banks = (s.swResult b 3 false).banks := hf.part State.banks fun _ _ => rfl
  rw [State.bankReg_congr hbanks]
  exact s.swResult_result b false (by decide)

/-- The state in which a commit's record looks for its token. -/
def State.swNoted (s : State) (b : Nat) (v : W32) : State :=
  s.setBank b Reg.EVR_SWREC (setBits (setBits (s.bankReg b Reg.EVR_SWREC) 19 16 (getBits v 19 16)) 15 0 (getBits v 15 0))

/-- A commit that finds its token. -/
theorem State.swCommit_takes {s : State} {b : Nat} {v : W32} (hb : b ≠ 7) (hrange : swRange b (getBits v 15 0 / 256) ≠ false)
    (htake : ((s.swNoted b v).takeBucket (getBits v 15 0) (min (getBits v 19 16) (s.rd F.EVR_CTL_MAXSEV))).2 = true)
    (hroom : s.evr.queue.length < 64) :
    getBits ((s.swCommit b v).bankReg b Reg.EVR_SWREC) 31 30 = 1 ∧ (s.swCommit b v).evr.queue.length = s.evr.queue.length + 1 ∧
      (s.swCommit b v).resp = s.resp := by
  obtain ⟨hq, -, -, hresp⟩ := (s.swNoted b v).takeBucket_keeps (getBits v 15 0) (min (getBits v 19 16) (s.rd F.EVR_CTL_MAXSEV))
  obtain ⟨r, clamp, hcommit⟩ : ∃ (r : Rec) (clamp : Bool), s.swCommit b v =
      ((((s.swNoted b v).takeBucket (getBits v 15 0) (min (getBits v 19 16) (s.rd F.EVR_CTL_MAXSEV))).1.enqueue r).1.swResult b
        (if (((s.swNoted b v).takeBucket (getBits v 15 0) (min (getBits v 19 16) (s.rd F.EVR_CTL_MAXSEV))).1.enqueue r).2 then 1 else 0) clamp) :=
    ⟨_, _, (if_neg hb).trans ((if_neg hrange).trans (if_pos htake))⟩
  generalize ((s.swNoted b v).takeBucket (getBits v 15 0) (min (getBits v 19 16) (s.rd F.EVR_CTL_MAXSEV))).1 = u at hq hresp hcommit
  rw [hcommit, State.enqueue_of_room r (by rw [hq]; exact hroom)]
  exact ⟨State.swResult_result _ b clamp Nat.one_lt_ofNat, (queueInsert_length r u.evr.queue).trans (congrArg (·.length + 1) hq), hresp⟩

theorem State.evrDrop_resp (s : State) : s.evrDrop.resp = s.resp :=
  (AffectsOnly.flag (S := Set.univ) (s.inc F.EVR_QDROP_CNT) (stat := F.EVR_STAT_QDROP) F.EVR_CTL_IE_QDROP (.inl trivial)).part State.resp
    fun _ _ => rfl

theorem State.enqueue_resp (s : State) (r : Rec) : (s.enqueue r).1.resp = s.resp := by
  unfold State.enqueue
  split
  · rfl
  split
  · split
    · exact State.evrDrop_resp _
    · exact s.evrDrop_resp
  · exact s.evrDrop_resp

theorem State.swCommit_resp (s : State) (b : Nat) (v : W32) : (s.swCommit b v).resp = s.resp := by
  obtain ⟨-, -, -, hresp⟩ := (s.swNoted b v).takeBucket_keeps (getBits v 15 0) (min (getBits v 19 16) (s.rd F.EVR_CTL_MAXSEV))
  unfold State.swCommit
  dsimp only
  split
  · exact (s.swRefuse_refused b 2).2.2
  split
  · exact (s.swRefuse_refused b 3).2.2
  split
  · exact (State.enqueue_resp _ _).trans hresp
  · exact hresp

/-- A commit outside its agent's range is refused; one within it that finds its token and room enters the queue. -/
theorem execSwrecCommit_answers {s : State} {ag : Agent} {v : W32} {b : Nat} (hacc : s.accepts ag 0x04 0x02C = true)
    (hbank : agentBank ag = some b) :
    Completes (.swrecCommit ag v) s (fun t => t.resp = .done ∧
      (if b = 7 ∨ swRange b (v.toNat % 65536 / 256) = false then
        getBits (t.bankReg b Reg.EVR_SWREC) 31 30 = 3 ∧ t.evr.queue = s.evr.queue
      else s.evr.queue.length < 64 →
        (s.takeBucket (v.toNat % 65536) (min (v.toNat / 65536 % 16) (s.rd F.EVR_CTL_MAXSEV))).2 = true →
          getBits (t.bankReg b Reg.EVR_SWREC) 31 30 = 1 ∧ t.evr.queue.length = s.evr.queue.length + 1)) := by
  refine ⟨s.done.swCommit b v, congrArg Host.Outcome.next ?_, ?_⟩
  · rw [State.gate_accepts _ hacc, hbank]
  have hcode : getBits v 15 0 = v.toNat % 65536 := rfl
  have hsev : getBits v 19 16 = v.toNat / 65536 % 16 := congrArg (· % 16) (Nat.shiftRight_eq_div_pow _ 16)
  split
  · next hout =>
    have href : ∃ cause, s.done.swCommit b v = s.done.swRefuse b cause := by
      by_cases hb : b = 7
      · exact ⟨2, if_pos hb⟩
      · exact ⟨3, (if_neg hb).trans (if_pos (hout.resolve_left hb))⟩
    obtain ⟨cause, href⟩ := href
    obtain ⟨hres, hq, hresp⟩ := s.done.swRefuse_refused b cause
    rw [href]
    exact ⟨hresp, hres, hq⟩
  · next hin =>
    refine ⟨s.done.swCommit_resp b v, fun hroom htake => ?_⟩
    rw [not_or, ← hcode] at hin
    rw [← hcode, ← hsev] at htake
    have htake' := (s.takeBucket_withBanks .done (s.done.swNoted b v).banks (getBits v 15 0) _).trans htake
    obtain ⟨hres, hlen, hresp⟩ := State.swCommit_takes (s := s.done) hin.1 hin.2 htake' hroom
    exact ⟨hres, hlen⟩

/-! ### Fetches -/

theorem State.fetchRec_none {s : State} (b : Nat) (h : s.evr.store = []) :
    getBits ((s.fetchRec b).bankReg b Reg.EVR_RDSTAT) 31 29 = 1 := by
  unfold State.fetchRec
  rw [h]
  dsimp only [List.find?]
  rw [State.bankReg_setBank_same]
  rfl

theorem State.fetchRec_oldest {s : State} (b : Nat) {n : Nat} {r : Rec} {rest : List (Nat × Rec)} (h : s.evr.store = (n, r) :: rest)
    (hhi : getBits (s.bankReg b Reg.EVR_RDPOS_HI) 15 0 = 0) (hlo : s.bankReg b Reg.EVR_RDPOS_LO = 0) :
    getBits ((s.fetchRec b).bankReg b Reg.EVR_RDSTAT) 31 31 = 1 ∧
      ((s.fetchRec b).bankReg b (Reg.EVR_RDWn 0)).toNat = r.word % 2 ^ 32 ∧
      ((s.fetchRec b).bankReg b Reg.EVR_RDNUM_LO).toNat = n % 2 ^ 32 := by
  have hfind : s.evr.store.find? (fun x => decide (getBits (s.bankReg b Reg.EVR_RDPOS_HI) 15 0 * 2 ^ 32 +
      (s.bankReg b Reg.EVR_RDPOS_LO).toNat ≤ x.1)) = some (n, r) := by
    rw [hhi, hlo, h]
    exact List.find?_cons_of_pos (decide_eq_true (Nat.zero_le n))
  unfold State.fetchRec
  dsimp only
  rw [hfind]
  dsimp only
  refine ⟨?_, ?_, ?_⟩
  · rw [State.bankReg_setBank_same]
    split <;> rfl
  · unfold State.bankPair
    rw [State.bankReg_setBank_other _ _ _ (by decide), State.bankReg_setBank_other _ _ _ (by decide),
      State.bankReg_setBank_other _ _ _ (by decide), State.bankReg_setBank_other _ _ _ (by decide),
      State.bankReg_setBank_other _ _ _ (by decide)]
    simp only [List.range, List.range.loop, List.foldl]
    simp (disch := decide) only [State.bankReg_setBank_other]
    rw [State.bankReg_setBank_same]
    simp
  · unfold State.bankPair
    rw [State.bankReg_setBank_other _ _ _ (by decide), State.bankReg_setBank_other _ _ _ (by decide),
      State.bankReg_setBank_other _ _ _ (by decide), State.bankReg_setBank_other _ _ _ (by decide), State.bankReg_setBank_same]
    rfl

/-- A fetch shows the oldest record, or that none is held. -/
theorem execFetch_shows {s : State} {ag : Agent} {b : Nat} (hacc : s.accepts ag 0x04 0x050 = true) (hbank : agentBank ag = some b) :
    Completes (.fetch ag) s (fun t => t.resp = .done ∧ (s.evr.store = [] → getBits (t.bankReg b Reg.EVR_RDSTAT) 31 29 = 1) ∧
      (getBits (s.bankReg b Reg.EVR_RDPOS_HI) 15 0 = 0 → s.bankReg b Reg.EVR_RDPOS_LO = 0 →
        (s.evr.store.head?).all (fun x => decide (getBits (t.bankReg b Reg.EVR_RDSTAT) 31 31 = 1) &&
          decide ((t.bankReg b (Reg.EVR_RDWn 0)).toNat = x.2.word % 2 ^ 32) &&
          decide ((t.bankReg b Reg.EVR_RDNUM_LO).toNat = x.1 % 2 ^ 32)) = true)) := by
  refine ⟨s.done.fetchRec b, congrArg Host.Outcome.next ?_, ?_, State.fetchRec_none (s := s.done) b, ?_⟩
  · rw [State.gate_accepts _ hacc, hbank]
  · unfold State.fetchRec
    dsimp only
    split <;> rfl
  · intro hhi hlo
    cases hstore : s.evr.store with
    | nil => rfl
    | cons x rest =>
      obtain ⟨hvalid, hword, hnum⟩ := s.done.fetchRec_oldest b (n := x.1) (r := x.2) hstore hhi hlo
      rw [List.head?_cons, Option.all_some, Bool.and_eq_true, Bool.and_eq_true]
      exact ⟨⟨decide_eq_true hvalid, decide_eq_true hword⟩, decide_eq_true hnum⟩

/-! ### Root's own records -/

/-- While Bed is not powered, Root writes a record that finds its token. -/
theorem execRootEventRecord_stores {s : State} (ev sev p0 p1 p2 : Nat) (hroot : s.rootOn = true) (hbed : s.bedOn = false)
    (hroom : s.evr.store.length < evrSlots) :
    Completes (.rootEventRecord ev sev p0 p1 p2) s (fun t =>
      t.evr.store.length = s.evr.store.length + (if (s.takeBucket (0x200 + ev) sev).2 = true then 1 else 0)) := by
  refine ⟨_, congrArg Host.Outcome.next (if_pos ⟨hroot, hbed⟩), ?_⟩
  obtain ⟨-, hst, -, -⟩ := s.takeBucket_keeps (0x200 + ev) sev
  have hrec : ∃ r : Rec, s.record 0x02 ev sev p0 p1 p2 = if (s.takeBucket (0x200 + ev) sev).2 = true
      then (s.takeBucket (0x200 + ev) sev).1.storeRec r else (s.takeBucket (0x200 + ev) sev).1 :=
    ⟨_, if_neg (by rw [hbed]; decide)⟩
  obtain ⟨r, hrec⟩ := hrec
  rw [hrec]
  split
  · rw [State.storeRec_store r (by rw [hst]; exact hroom), List.length_append, hst]
    rfl
  · rw [hst]
    rfl

/-- Settles O54: the queue's head, the buckets, the commits, the fetches and Root's records, each by its own law. -/
theorem recorderCommandsComplete : Obligations.RecorderCommandsComplete :=
  ⟨fun _ cut _ _ hbed hq hsoft hroom => execEventRecordWrite_writes cut hbed hq hsoft hroom,
    fun _ _ hroot hbed hsev hper hnow hnot => execBucketRefill_fills hroot hbed hsev hper hnow hnot,
    fun _ _ _ _ hacc hbank => execSwrecCommit_answers hacc hbank,
    fun _ _ _ hacc hbank => execFetch_shows hacc hbank,
    fun _ ev sev p0 p1 p2 hroot hbed hroom => execRootEventRecord_stores ev sev p0 p1 p2 hroot hbed hroom⟩

end Sys2Proof.Machine
end

section
/-! SUPPORT. The drive of the valve channels (R309-R322): what turning channels on and off, deferring them and handing the peak slot on change, and
what they leave alone. -/

namespace Sys2Proof.Machine

/-! ### Flags (R330) -/

theorem State.on_wrB_same (s : State) {f : Fld} (v : Bool) (h : f.inWord = true) (hbit : f.hi = f.lo) : (s.wrB f v).on f = v := by
  cases v with
  | false => exact s.on_wr_zero (Fld.hi_lt h)
  | true => exact s.on_wr_one (Fld.hi_lt h) hbit

theorem State.vOn_vSet_same (s : State) (n : Nat) {b : Nat} (v : Bool) (h : b < 32) : (s.vSet n b v).vOn n b = v :=
  s.on_wrB_same v (by simp [Fld.inWord, vlvFlag, h]) rfl

/-- A flag set leaves the other flags of every channel alone. -/
theorem State.vOn_vSet_beside (s : State) (n m : Nat) {b c : Nat} (v : Bool) (hb : b < 32) (hc : c < 32) (h : c ≠ b) :
    (s.vSet n b v).vOn m c = s.vOn m c := by
  by_cases hnm : Reg.VLV_CHn_STAT m = Reg.VLV_CHn_STAT n
  · unfold State.vOn vlvFlag
    rw [hnm]
    exact State.on_congr (s.rd_wr_beside _ hb hc (by simp only [vlvFlag]; omega))
  · exact State.on_congr (s.rd_wr_other _ hnm)

/-- A flag set leaves the flags of other channels alone. -/
theorem State.vOn_vSet_other (s : State) {n m : Nat} (b c : Nat) (v : Bool) (h : m % 48 ≠ n % 48) : (s.vSet n b v).vOn m c = s.vOn m c :=
  State.on_congr (s.rd_wr_other _ (by simp only [vlvFlag, Reg.VLV_CHn_STAT]; omega))

theorem State.valve_setValve_same (s : State) (n : Nat) (x : Valve) : (s.setValve n x).valve n = x := SMap.get_set_same _ _ _ _

theorem State.valve_setValve_other (s : State) {n m : Nat} (x : Valve) (h : m ≠ n) : (s.setValve n x).valve m = s.valve m :=
  SMap.get_set_other _ _ _ h

theorem State.valve_congr {s t : State} (h : t.vlv.chs = s.vlv.chs) (n : Nat) : t.valve n = s.valve n := by
  unfold State.valve
  rw [h]

/-! ### What a change of drive leaves alone -/

/-- The flags that show the drive of a channel: ON, PEAK, HOLD, DEFER, CLAMP and WEARSAT. -/
def driveBit (b : Nat) : Prop := b = 0 ∨ b = 1 ∨ b = 2 ∨ b = 11 ∨ b = 12 ∨ b = 14

/-- The registers in which the drive of the channels `C` shows. -/
def driveRegs (C : Set Nat) : Set Nat :=
  {k | k = Reg.VLV_STAT ∨ k = Reg.VLV_CONFCNT ∨ (∃ b, k = Reg.VLV_BANKk_STAT b) ∨ ∃ n ∈ C, k = Reg.VLV_CHn_STAT n}

/-- `s` with all that the drive of the valves may change taken from `t`. -/
def State.withDrivesOf (s t : State) : State :=
  { s.withEffectsOf t with vlv := { s.vlv with chs := t.vlv.chs, defq := t.vlv.defq, wear := t.vlv.wear } }

/-- `t` differs from `s` by the drive of the channels `C` and what is told of it. -/
structure State.DrivesTo (C : Set Nat) (s t : State) : Prop where
  eq : t = s.withDrivesOf t
  reg : ∀ k, ¬ entryBlock (k / 0x1000) → k ∉ driveRegs C → t.reg k = s.reg k
  flag : ∀ n b, b < 32 → ¬ driveBit b → t.vOn n b = s.vOn n b
  shown : ∀ f : Fld, f.addr = Reg.VLV_STAT → F.VLV_STAT_WEARSAT.apart f = true → t.rd f = s.rd f
  fault : ∀ b, t.rd (F.VLV_BANKk_STAT_FAULT b) = s.rd (F.VLV_BANKk_STAT_FAULT b) ∧
    t.rd (F.VLV_BANKk_STAT_FCAUSE b) = s.rd (F.VLV_BANKk_STAT_FCAUSE b)
  valve : ∀ n, n ∉ C → t.valve n = s.valve n

theorem driveRegs_mono {C D : Set Nat} (h : C ⊆ D) : driveRegs C ⊆ driveRegs D := by
  rintro k (hk | hk | hk | ⟨n, hn, hk⟩)
  · exact .inl hk
  · exact .inr (.inl hk)
  · exact .inr (.inr (.inl hk))
  · exact .inr (.inr (.inr ⟨n, h hn, hk⟩))

/-- A register of a channel beside its flags shows no drive. -/
theorem notDriven {C : Set Nat} (n : Nat) {r : Nat} (hr : r < 0x40) (h : r ≠ 0x1C) : 0xB400 + 0x40 * (n % 48) + r ∉ driveRegs C := by
  simp only [driveRegs, Set.mem_ofPred_eq, Reg.VLV_STAT, Reg.VLV_CONFCNT, Reg.VLV_BANKk_STAT, Reg.VLV_CHn_STAT, not_or, not_exists]
  refine ⟨by omega, by omega, fun b => by omega, fun m hm => by omega⟩

/-- A register of block VLV below the channels, but for VLV_STAT, VLV_CONFCNT and the banks' states, shows no drive. -/
theorem notDriven_low {C : Set Nat} {k : Nat} (h : k < 0xB400) (hs : k ≠ Reg.VLV_STAT) (hc : k ≠ Reg.VLV_CONFCNT)
    (hb : k % 8 ≠ 0 ∨ k < 0xB080 ∨ 0xB0E0 ≤ k) : k ∉ driveRegs C := by
  simp only [driveRegs, Set.mem_ofPred_eq, Reg.VLV_BANKk_STAT, Reg.VLV_CHn_STAT, not_or, not_exists]
  exact ⟨hs, hc, fun b => by omega, fun m hm => by omega⟩

namespace State.DrivesTo

variable {C : Set Nat} {s t u : State}

theorem refl (s : State) : DrivesTo C s s :=
  ⟨rfl, fun _ _ _ => rfl, fun _ _ _ _ => rfl, fun _ _ _ => rfl, fun _ => ⟨rfl, rfl⟩, fun _ _ => rfl⟩

theorem trans (h : DrivesTo C s t) (h' : DrivesTo C t u) : DrivesTo C s u where
  eq := h'.eq.trans ((congrArg (fun x : State => x.withDrivesOf u) h.eq).trans rfl)
  reg k hk hC := (h'.reg k hk hC).trans (h.reg k hk hC)
  flag n b hb hd := (h'.flag n b hb hd).trans (h.flag n b hb hd)
  shown f hf ha := (h'.shown f hf ha).trans (h.shown f hf ha)
  fault b := ⟨(h'.fault b).1.trans (h.fault b).1, (h'.fault b).2.trans (h.fault b).2⟩
  valve n hn := (h'.valve n hn).trans (h.valve n hn)

theorem mono {D : Set Nat} (h : DrivesTo C s t) (hCD : C ⊆ D) : DrivesTo D s t :=
  ⟨h.eq, fun k hk hD => h.reg k hk fun hC => hD (driveRegs_mono hCD hC), h.flag, h.shown, h.fault, fun n hn => h.valve n fun hC => hn (hCD hC)⟩

theorem ite (c : Prop) [Decidable c] (h : c → DrivesTo C s t) (h' : ¬ c → DrivesTo C s u) : DrivesTo C s (if c then t else u) := by
  split
  · exact h ‹_›
  · exact h' ‹_›

theorem foldl {α : Type*} (f : State → α → State) (h : ∀ (x : State) a, DrivesTo C x (f x a)) (l : List α) (s : State) :
    DrivesTo C s (l.foldl f s) :=
  List.foldlRecOn (motive := fun x : State => DrivesTo C s x) l f (refl s) fun x hx a _ => hx.trans (h x a)

/-- A part of the state that no drive changes. -/
theorem part {α : Sort*} (h : DrivesTo C s t) (U : State → α) (hU : ∀ x y : State, U (x.withDrivesOf y) = U x) : U t = U s :=
  (congrArg U h.eq).trans (hU s t)

theorem rd (h : DrivesTo C s t) {f : Fld} (hf : ¬ entryBlock (f.addr / 0x1000)) (hC : f.addr ∉ driveRegs C) : t.rd f = s.rd f :=
  State.rd_congr (h.reg _ hf hC)

/-- A register of a channel beside its flags reads as before. -/
theorem cfg (h : DrivesTo C s t) (n : Nat) {r : Nat} {f : Fld} (hf : f.addr = 0xB400 + 0x40 * (n % 48) + r) (hr : r < 0x40) (hne : r ≠ 0x1C) :
    t.rd f = s.rd f :=
  h.rd (notEntry (by rw [hf]; omega)) (hf ▸ notDriven n hr hne)

/-- The flags of a channel beside those driven. -/
theorem beside (h : DrivesTo C s t) {n : Nat} (hn : ∀ m ∈ C, n % 48 ≠ m % 48) (b : Nat) : t.vOn n b = s.vOn n b := by
  refine State.on_congr (h.rd (notEntry ?_) ?_)
  · simp only [vlvFlag, Reg.VLV_CHn_STAT]
    omega
  · simp only [driveRegs, Set.mem_ofPred_eq, vlvFlag, Reg.VLV_STAT, Reg.VLV_CONFCNT, Reg.VLV_BANKk_STAT, Reg.VLV_CHn_STAT, not_or, not_exists]
    exact ⟨by omega, by omega, fun b => by omega, fun m ⟨hm, e⟩ => hn m hm (by omega)⟩

theorem of_affects (h : AffectsOnly ∅ s t) : DrivesTo C s t := by
  have hreg (k : Nat) (hk : k / 0x1000 = 0xB) : t.reg k = s.reg k := h.reg k (notEntry (by omega)) (Set.notMem_empty _)
  refine ⟨h.eq.trans ?_, fun k hk _ => h.reg k hk (Set.notMem_empty _), fun n b _ _ => State.on_congr (State.rd_congr (hreg _ ?_)),
    fun f hf _ => State.rd_congr (hreg _ ?_), fun b => ⟨State.rd_congr (hreg _ ?_), State.rd_congr (hreg _ ?_)⟩, fun n _ => ?_⟩
  · rw [h.eq]
    rfl
  · simp only [vlvFlag, Reg.VLV_CHn_STAT]
    omega
  · rw [hf]
    rfl
  · simp only [F.VLV_BANKk_STAT_FAULT, Reg.VLV_BANKk_STAT]
    omega
  · simp only [F.VLV_BANKk_STAT_FCAUSE, Reg.VLV_BANKk_STAT]
    omega
  · exact State.valve_congr (h.part (fun x => x.vlv.chs) fun _ _ => rfl) n

/-! #### The parts of a change of drive -/

theorem withVlv (s : State) (chs : SMap Valve) (q : List Nat) (w : SMap Nat) (h : ∀ n, n ∉ C → SMap.get (fun _ => {}) chs n = s.valve n) :
    DrivesTo C s { s with vlv := { s.vlv with chs := chs, defq := q, wear := w } } :=
  ⟨rfl, fun _ _ _ => rfl, fun _ _ _ _ => rfl, fun _ _ _ => rfl, fun _ => ⟨rfl, rfl⟩, h⟩

theorem setValve (s : State) {n : Nat} (x : Valve) (h : n ∈ C) : DrivesTo C s (s.setValve n x) :=
  withVlv s _ s.vlv.defq s.vlv.wear fun _ hm => s.valve_setValve_other x fun e => hm (e ▸ h)

/-- A write of a register that shows the drive, where it leaves alone the flags, the status bits and the faults it must. -/
theorem wr (s : State) {f : Fld} (v : Nat) (h : f.addr ∈ driveRegs C)
    (hflag : ∀ n b, b < 32 → ¬ driveBit b → (s.wr f v).vOn n b = s.vOn n b)
    (hshown : ∀ g : Fld, g.addr = Reg.VLV_STAT → F.VLV_STAT_WEARSAT.apart g = true → (s.wr f v).rd g = s.rd g)
    (hfault : ∀ b, (s.wr f v).rd (F.VLV_BANKk_STAT_FAULT b) = s.rd (F.VLV_BANKk_STAT_FAULT b) ∧
      (s.wr f v).rd (F.VLV_BANKk_STAT_FCAUSE b) = s.rd (F.VLV_BANKk_STAT_FCAUSE b)) : DrivesTo C s (s.wr f v) :=
  ⟨rfl, fun _ _ hC => s.reg_wr_other v fun e => hC (e ▸ h), hflag, hshown, hfault, fun _ _ => rfl⟩

theorem vSet (s : State) {n b : Nat} (v : Bool) (h : n ∈ C) (hb : driveBit b) : DrivesTo C s (s.vSet n b v) := by
  have hb32 : b < 32 := by unfold driveBit at hb; omega
  refine wr s _ (.inr (.inr (.inr ⟨n, h, rfl⟩))) (fun m c hc hd => s.vOn_vSet_beside n m v hb32 hc fun e => hd (e ▸ hb)) (fun g hg _ => ?_) fun k => ⟨?_, ?_⟩
  · refine s.rd_wr_other _ ?_
    rw [hg]
    simp only [vlvFlag, Reg.VLV_CHn_STAT, Reg.VLV_STAT]
    omega
  all_goals
    refine s.rd_wr_other _ ?_
    simp only [vlvFlag, Reg.VLV_CHn_STAT, F.VLV_BANKk_STAT_FAULT, F.VLV_BANKk_STAT_FCAUSE, Reg.VLV_BANKk_STAT]
    omega

/-- A field of a bank's state apart from its fault. -/
theorem bankField (s : State) (b : Nat) {f : Fld} (v : Nat) (h : f.addr = Reg.VLV_BANKk_STAT b) (hfault : f.apart (F.VLV_BANKk_STAT_FAULT b) = true)
    (hcause : f.apart (F.VLV_BANKk_STAT_FCAUSE b) = true) : DrivesTo C s (s.wr f v) := by
  refine wr s v (.inr (.inr (.inl ⟨b, h⟩))) (fun m c _ _ => State.on_congr (s.rd_wr_other v ?_)) (fun g hg _ => s.rd_wr_other v ?_)
    fun k => ⟨?_, ?_⟩
  · rw [h]
    simp only [vlvFlag, Reg.VLV_CHn_STAT, Reg.VLV_BANKk_STAT]
    omega
  · rw [h, hg]
    simp only [Reg.VLV_STAT, Reg.VLV_BANKk_STAT]
    omega
  · exact s.rd_wr_apart v hfault
  · exact s.rd_wr_apart v hcause

theorem bankRegs (s : State) (b : Nat) : DrivesTo C s (s.bankRegs b) :=
  ((((bankField s b _ rfl rfl rfl).trans (bankField _ b _ rfl rfl rfl)).trans (bankField _ b _ rfl rfl rfl)).trans
    (bankField _ b _ rfl rfl rfl)).trans (bankField _ b _ rfl rfl rfl)

theorem confcnt (s : State) {f : Fld} (h : f.addr = Reg.VLV_CONFCNT) : DrivesTo C s (s.inc f) := by
  refine wr s _ (.inr (.inl h)) (fun m c _ _ => State.on_congr (s.rd_wr_other _ ?_)) (fun g hg _ => s.rd_wr_other _ ?_)
    fun k => ⟨s.rd_wr_other _ ?_, s.rd_wr_other _ ?_⟩
  · rw [h]
    simp only [vlvFlag, Reg.VLV_CHn_STAT, Reg.VLV_CONFCNT]
    omega
  · rw [h, hg]
    decide
  all_goals
    rw [h]
    simp only [F.VLV_BANKk_STAT_FAULT, F.VLV_BANKk_STAT_FCAUSE, Reg.VLV_BANKk_STAT, Reg.VLV_CONFCNT]
    omega

/-- WEARSAT of the block set, with its interrupt. -/
theorem wearsat (s : State) : DrivesTo C s (s.flag F.VLV_STAT_WEARSAT F.VLV_CTL_IE_DUTY) := by
  refine (wr s _ (.inl rfl) (fun m c _ _ => State.on_congr (s.rd_wr_other _ ?_)) (fun g hg ha => s.rd_wr_apart _ ?_)
    fun k => ⟨s.rd_wr_other _ ?_, s.rd_wr_other _ ?_⟩).trans (of_affects (.notify _ _ _))
  · simp only [vlvFlag, Reg.VLV_CHn_STAT, F.VLV_STAT_WEARSAT, Reg.VLV_STAT]
    omega
  · exact ha
  all_goals
    simp only [F.VLV_BANKk_STAT_FAULT, F.VLV_BANKk_STAT_FCAUSE, Reg.VLV_BANKk_STAT, F.VLV_STAT_WEARSAT, Reg.VLV_STAT]
    omega

theorem vlvEntry_affects (S : Set Nat) (s : State) (tag subject : Nat) (detail : Option Nat) : AffectsOnly S s (s.vlvEntry tag subject detail) := by
  unfold State.vlvEntry
  exact .ite _ (fun _ => ((AffectsOnly.eventEntry _ _ _ _ _ _ _).trans (.eventEntry _ _ _ _ _ _ _)).trans (.tickFree _))
    fun _ => (AffectsOnly.eventEntry _ _ _ _ _ _ _).trans (.eventEntry _ _ _ _ _ _ _)

theorem vlvEvent_affects (S : Set Nat) (s : State) (tag subject sev : Nat) (detail : Option Nat) : AffectsOnly S s (s.vlvEvent tag subject sev detail) :=
  (vlvEntry_affects S s _ _ _).trans (.record _ _ _ _ _ _ _)

/-! #### Changes of drive -/

theorem drive_on : driveBit 0 := .inl rfl
theorem drive_peak : driveBit 1 := .inr (.inl rfl)
theorem drive_hold : driveBit 2 := .inr (.inr (.inl rfl))
theorem drive_defer : driveBit 11 := .inr (.inr (.inr (.inl rfl)))
theorem drive_clamp : driveBit 12 := .inr (.inr (.inr (.inr (.inl rfl))))
theorem drive_wear : driveBit 14 := .inr (.inr (.inr (.inr (.inr rfl))))

theorem actuate (s : State) {n : Nat} (h : n ∈ C) : DrivesTo C s (s.actuate n) := by
  unfold State.actuate
  extract_lets _ t
  have ht : DrivesTo C s t := withVlv s s.vlv.chs s.vlv.defq _ fun _ _ => rfl
  exact ite _ (fun _ => refl s) fun _ =>
    ite _ (fun _ => ((ht.trans (vSet t _ h drive_wear)).trans (wearsat _)).trans (of_affects (vlvEvent_affects _ _ _ _ _ _))) fun _ => ht

theorem valveStart (s : State) {n : Nat} (h : n ∈ C) : DrivesTo C s (s.valveStart n) := by
  unfold State.valveStart
  extract_lets x sp t w y u
  have ht : DrivesTo C s t := (vSet s _ h drive_on).trans (vSet _ _ h drive_clamp)
  have hu : DrivesTo C s u := (((vSet s _ h drive_on).trans (vSet _ _ h drive_peak)).trans (vSet _ _ h drive_clamp)).trans (vSet _ _ h drive_defer)
  exact ite _ (fun _ => ((ht.trans (setValve t _ h)).trans (actuate _ h)).trans (bankRegs _ _)) fun _ =>
    ((hu.trans (setValve u _ h)).trans (actuate _ h)).trans (bankRegs _ _)

theorem undefer (s : State) {n : Nat} (h : n ∈ C) : DrivesTo C s (s.undefer n) :=
  ((vSet s _ h drive_defer).trans (bankRegs _ _)).trans (withVlv _ _ _ _ fun _ _ => rfl)

/-- The peak slot of a bank goes to a deferred channel of that bank. -/
theorem grantPeak (s : State) (b : Nat) (h : ∀ n ∈ s.vlv.defq, n / 4 = b → n ∈ C) : DrivesTo C s (s.grantPeak b) := by
  unfold State.grantPeak
  split
  · next n hfind =>
    have hn : n ∈ C := h n (List.mem_of_find?_eq_some hfind) (by simpa using List.find?_some hfind)
    exact ite _ (fun _ => ((undefer s hn).trans (valveStart _ hn)).trans (setValve _ _ hn)) fun _ => refl s
  · exact refl s

theorem valveStop (s : State) {n : Nat} (h : n ∈ C) : DrivesTo C s (s.valveStop n) := by
  unfold State.valveStop
  extract_lets t u
  have ht : DrivesTo C s t := ite _ (fun _ => undefer s h) fun _ => refl s
  have hu : DrivesTo C s u :=
    (((ht.trans (vSet t _ h drive_on)).trans (vSet _ _ h drive_peak)).trans (vSet _ _ h drive_hold)).trans (vSet _ _ h drive_clamp)
  exact (hu.trans (setValve u _ h)).trans (bankRegs _ _)

end State.DrivesTo

end Sys2Proof.Machine
end

section
/-! SUPPORT. What a change of drive makes of the channel it is about (R311-R322): starting, stopping, deferring, handing the peak slot on, pulses. -/

namespace Sys2Proof.Machine

/-- The channels of the bank of `n`, and those beside `n`. -/
def bankOf (n : Nat) : Set Nat := {m | m / 4 = n / 4}
def bankMates (n : Nat) : Set Nat := {m | m ≠ n ∧ m / 4 = n / 4}

theorem bankMates_apart {n m : Nat} (h : m ∈ bankMates n) : n % 48 ≠ m % 48 := by
  obtain ⟨hne, hbank⟩ := h
  omega

theorem bankMates_subset (n : Nat) : bankMates n ⊆ bankOf n := fun _ h => h.2

/-! ### Starting (R311, R312, R324) -/

theorem State.bankRegs_vOn (s : State) (k n b : Nat) : (s.bankRegs k).vOn n b = s.vOn n b :=
  (DrivesTo.bankRegs (C := ∅) s k).beside (fun _ h => absurd h (Set.notMem_empty _)) b

/-- The flags of a channel do not lie in Valves. -/
theorem State.vOn_withVlv (s : State) (x : Valves) (n b : Nat) : ({ s with vlv := x } : State).vOn n b = s.vOn n b := rfl

theorem State.vOn_setValve (s : State) (n : Nat) (x : Valve) (m b : Nat) : (s.setValve n x).vOn m b = s.vOn m b := rfl

theorem State.wrB_vlv (s : State) (f : Fld) (v : Bool) : (s.wrB f v).vlv = s.vlv := rfl
theorem State.wr_vlv (s : State) (f : Fld) (v : Nat) : (s.wr f v).vlv = s.vlv := rfl
theorem State.vSet_vlv (s : State) (n b : Nat) (v : Bool) : (s.vSet n b v).vlv = s.vlv := rfl

theorem State.bankRegs_vlv (s : State) (k : Nat) : (s.bankRegs k).vlv = s.vlv := by
  unfold State.bankRegs
  simp only [State.wr_vlv, State.wrB_vlv]

/-- The state of a bank lies in one register. -/
theorem State.bankRegs_reg (s : State) {b k : Nat} (h : k ≠ Reg.VLV_BANKk_STAT b) : (s.bankRegs b).reg k = s.reg k := by
  unfold State.bankRegs
  rw [State.reg_wr_other _ _ h, State.reg_wr_other _ _ h, State.reg_wr_other _ _ h, State.reg_wrB_other _ _ h, State.reg_wrB_other _ _ h]

theorem State.bankRegs_valve (s : State) (k n : Nat) : (s.bankRegs k).valve n = s.valve n := State.valve_congr (by rw [State.bankRegs_vlv]) n

theorem State.vSet_valve (s : State) (n b : Nat) (v : Bool) (m : Nat) : (s.vSet n b v).valve m = s.valve m := State.valve_congr rfl m

/-- The last actuation a channel's counter takes is told. -/
def State.wearTold (s : State) (n : Nat) : State :=
  ((s.vSet n 14 true).flag F.VLV_STAT_WEARSAT F.VLV_CTL_IE_DUTY).vlvEvent 6 n sevWarning none

theorem State.wearTold_keeps (s : State) (n : Nat) : (∀ m b, b < 32 → b ≠ 14 → (s.wearTold n).vOn m b = s.vOn m b) ∧
    (s.wearTold n).vlv = s.vlv := by
  have hflag := AffectsOnly.flag (S := {Reg.VLV_STAT}) (s.vSet n 14 true) (stat := F.VLV_STAT_WEARSAT) F.VLV_CTL_IE_DUTY (.inl rfl)
  have htold : AffectsOnly {Reg.VLV_STAT} (s.vSet n 14 true) (s.wearTold n) := hflag.trans (DrivesTo.vlvEvent_affects _ _ 6 n sevWarning none)
  refine ⟨fun m b hb hne => (htold.on (notEntry ?_) ?_).trans (s.vOn_vSet_beside n m true (by decide) hb hne), ?_⟩
  · simp only [vlvFlag, Reg.VLV_CHn_STAT]
    omega
  · simp only [vlvFlag, Reg.VLV_CHn_STAT, Reg.VLV_STAT, Set.mem_singleton_iff]
    omega
  · exact (htold.part State.vlv fun _ _ => rfl).trans (s.vSet_vlv n 14 true)

/-- An actuation counted. -/
def State.wearCounted (s : State) (n : Nat) : State :=
  { s with vlv := { s.vlv with wear := SMap.set (fun _ => 0) s.vlv.wear n (SMap.get (fun _ => 0) s.vlv.wear n + 1) } }

theorem State.actuate_eq (s : State) (n : Nat) : s.actuate n = if wearTop ≤ s.valveWear n then s
    else if (s.wearCounted n).valveWear n = wearTop then (s.wearCounted n).wearTold n else s.wearCounted n := rfl

theorem State.wearCounted_keeps (s : State) (n : Nat) : (∀ m b, (s.wearCounted n).vOn m b = s.vOn m b) ∧
    (∀ m, (s.wearCounted n).valve m = s.valve m) ∧ (s.wearCounted n).vlv.defq = s.vlv.defq :=
  ⟨fun m b => State.vOn_withVlv s _ m b, fun m => State.valve_congr rfl m, rfl⟩

/-- Counting an actuation leaves the flags but WEARSAT, the channels and the deferred turn-ons alone. -/
theorem State.actuate_keeps (s : State) (n : Nat) : (∀ m b, b < 32 → b ≠ 14 → (s.actuate n).vOn m b = s.vOn m b) ∧
    (∀ m, (s.actuate n).valve m = s.valve m) ∧ (s.actuate n).vlv.defq = s.vlv.defq := by
  obtain ⟨hflag, hvalve, hq⟩ := s.wearCounted_keeps n
  obtain ⟨htold, hvlv⟩ := (s.wearCounted n).wearTold_keeps n
  rw [s.actuate_eq]
  split
  · exact ⟨fun _ _ _ _ => rfl, fun _ => rfl, rfl⟩
  split
  · exact ⟨fun m b hb hne => (htold m b hb hne).trans (hflag m b), fun m => (State.valve_congr (by rw [hvlv]) m).trans (hvalve m),
      (by rw [hvlv, hq])⟩
  · exact ⟨fun m b _ _ => hflag m b, hvalve, hq⟩

/-- The flags of a channel that turns on in its peak phase. -/
def State.peakShown (s : State) (n : Nat) : State := (((s.vSet n 0 true).vSet n 1 true).vSet n 12 false).vSet n 11 false

theorem State.peakShown_flags (s : State) (n : Nat) : (s.peakShown n).vOn n 0 = true ∧ (s.peakShown n).vOn n 1 = true ∧
    (s.peakShown n).vOn n 11 = false ∧ (s.peakShown n).vOn n 2 = s.vOn n 2 := by
  unfold State.peakShown
  refine ⟨?_, ?_, State.vOn_vSet_same _ _ _ (by decide), ?_⟩
  · rw [State.vOn_vSet_beside _ _ _ _ (by decide) (by decide) (by decide), State.vOn_vSet_beside _ _ _ _ (by decide) (by decide) (by decide),
      State.vOn_vSet_beside _ _ _ _ (by decide) (by decide) (by decide), State.vOn_vSet_same _ _ _ (by decide)]
  · rw [State.vOn_vSet_beside _ _ _ _ (by decide) (by decide) (by decide), State.vOn_vSet_beside _ _ _ _ (by decide) (by decide) (by decide),
      State.vOn_vSet_same _ _ _ (by decide)]
  · rw [State.vOn_vSet_beside _ _ _ _ (by decide) (by decide) (by decide), State.vOn_vSet_beside _ _ _ _ (by decide) (by decide) (by decide),
      State.vOn_vSet_beside _ _ _ _ (by decide) (by decide) (by decide), State.vOn_vSet_beside _ _ _ _ (by decide) (by decide) (by decide)]

/-- A channel that turns on in its peak phase (R311, R317). -/
def State.peakValve (s : State) (n : Nat) : Valve :=
  { s.valve n with
    lvl := s.rd (F.VLV_CHn_PEAK_IPEAK n), ton := s.now, peakEnd := s.now + s.tpeak n
    window := if s.on (F.VLV_CHn_CTL_DIPEN n) then some (s.reg (Reg.VLV_CHn_DIP n)) else none, dip := none }

theorem State.valveStart_eq {s : State} {n : Nat} (h : s.prop n = false) :
    s.valveStart n = (((s.peakShown n).setValve n (s.peakValve n)).actuate n).bankRegs (n / 4) := if_neg (by rw [h]; decide)

/-- A channel that is not proportional turns on in its peak phase. -/
theorem State.valveStart_peak {s : State} {n : Nat} (h : s.prop n = false) :
    (s.valveStart n).vOn n 0 = true ∧ (s.valveStart n).vOn n 1 = true ∧ (s.valveStart n).vOn n 11 = false ∧
      (s.valveStart n).vOn n 2 = s.vOn n 2 ∧ (s.valveStart n).valve n = s.peakValve n ∧ (s.valveStart n).vlv.defq = s.vlv.defq := by
  obtain ⟨hflag, hvalve, hdefq⟩ := ((s.peakShown n).setValve n (s.peakValve n)).actuate_keeps n
  obtain ⟨h0, h1, h11, h2⟩ := s.peakShown_flags n
  have hshown (b : Nat) (hb : b < 32) (hne : b ≠ 14) : (s.valveStart n).vOn n b = (s.peakShown n).vOn n b := by
    rw [State.valveStart_eq h, State.bankRegs_vOn, hflag n b hb hne, State.vOn_setValve]
  refine ⟨(hshown 0 (by decide) (by decide)).trans h0, (hshown 1 (by decide) (by decide)).trans h1,
    (hshown 11 (by decide) (by decide)).trans h11, (hshown 2 (by decide) (by decide)).trans h2, ?_, ?_⟩
  · rw [State.valveStart_eq h, State.bankRegs_valve, hvalve, State.valve_setValve_same]
  · rw [State.valveStart_eq h, State.bankRegs_vlv, hdefq]
    simp only [State.setValve, State.peakShown, State.vSet_vlv]

/-! ### Deferring (R316) -/

/-- A deferral that ends leaves the list of those that wait. -/
theorem State.undefer_eq (s : State) (n : Nat) : s.undefer n =
    { (s.vSet n 11 false).bankRegs (n / 4) with vlv := { s.vlv with defq := s.vlv.defq.filter (fun c => c ≠ n) } } := by
  have h : ((s.vSet n 11 false).bankRegs (n / 4)).vlv = s.vlv := by rw [State.bankRegs_vlv, State.vSet_vlv]
  rw [← h]
  rfl

theorem State.undefer_defq (s : State) (n : Nat) : (s.undefer n).vlv.defq = s.vlv.defq.filter (fun c => c ≠ n) := by rw [s.undefer_eq]

theorem State.undefer_valve (s : State) (n m : Nat) : (s.undefer n).valve m = s.valve m := State.valve_congr (by rw [s.undefer_eq]) m

theorem State.undefer_flag (s : State) (n m b : Nat) : (s.undefer n).vOn m b = (s.vSet n 11 false).vOn m b := by
  rw [s.undefer_eq]
  exact (State.vOn_withVlv _ _ m b).trans (State.bankRegs_vOn _ _ m b)

theorem State.undefer_defer (s : State) (n : Nat) : (s.undefer n).vOn n 11 = false :=
  (s.undefer_flag n n 11).trans (s.vOn_vSet_same n false (by decide))

theorem State.undefer_vOn (s : State) (n m : Nat) {b : Nat} (hb : b < 32) (h : b ≠ 11) : (s.undefer n).vOn m b = s.vOn m b :=
  (s.undefer_flag n m b).trans (s.vOn_vSet_beside n m false (by decide) hb h)

/-! ### Stopping (R311, R326) -/

/-- The current a channel is left at when its drive ends. -/
def State.restLevel (s : State) (n : Nat) : Nat := if s.valveSafeOn n then safeLevel (s.fsApplied n) else 0

/-- A deferral, where there is one, ended. -/
def State.undeferred (s : State) (n : Nat) : State := if s.vOn n 11 then s.undefer n else s

theorem State.undeferred_shows (s : State) (n : Nat) : (s.undeferred n).vOn n 11 = false ∧ (s.undeferred n).valve n = s.valve n ∧
    (s.undeferred n).vlv.defq = (if s.vOn n 11 then s.vlv.defq.filter (fun c => c ≠ n) else s.vlv.defq) := by
  unfold State.undeferred
  split
  · exact ⟨s.undefer_defer n, s.undefer_valve n n, s.undefer_defq n⟩
  · next h => exact ⟨eq_false_of_ne_true h, rfl, rfl⟩

/-- The flags of a channel whose drive has ended. -/
def State.restShown (s : State) (n : Nat) (on : Bool) : State := (((s.vSet n 0 on).vSet n 1 false).vSet n 2 false).vSet n 12 false

theorem State.restShown_flags (s : State) (n : Nat) (on : Bool) : (s.restShown n on).vOn n 0 = on ∧ (s.restShown n on).vOn n 1 = false ∧
    (s.restShown n on).vOn n 2 = false ∧ (s.restShown n on).vOn n 11 = s.vOn n 11 := by
  unfold State.restShown
  refine ⟨?_, ?_, ?_, ?_⟩
  · rw [State.vOn_vSet_beside _ _ _ _ (by decide) (by decide) (by decide), State.vOn_vSet_beside _ _ _ _ (by decide) (by decide) (by decide),
      State.vOn_vSet_beside _ _ _ _ (by decide) (by decide) (by decide), State.vOn_vSet_same _ _ _ (by decide)]
  · rw [State.vOn_vSet_beside _ _ _ _ (by decide) (by decide) (by decide), State.vOn_vSet_beside _ _ _ _ (by decide) (by decide) (by decide),
      State.vOn_vSet_same _ _ _ (by decide)]
  · rw [State.vOn_vSet_beside _ _ _ _ (by decide) (by decide) (by decide), State.vOn_vSet_same _ _ _ (by decide)]
  · rw [State.vOn_vSet_beside _ _ _ _ (by decide) (by decide) (by decide), State.vOn_vSet_beside _ _ _ _ (by decide) (by decide) (by decide),
      State.vOn_vSet_beside _ _ _ _ (by decide) (by decide) (by decide), State.vOn_vSet_beside _ _ _ _ (by decide) (by decide) (by decide)]

theorem State.restShown_vlv (s : State) (n : Nat) (on : Bool) : (s.restShown n on).vlv = s.vlv := by
  simp only [State.restShown, State.vSet_vlv]

theorem State.valveStop_eq (s : State) (n : Nat) : s.valveStop n =
    (((s.undeferred n).restShown n (s.valveSafeOn n)).setValve n
      { ((s.undeferred n).restShown n (s.valveSafeOn n)).valve n with lvl := s.restLevel n, window := none, rep := none }).bankRegs (n / 4) := rfl

theorem State.valveStop_shows (s : State) (n : Nat) :
    (s.valveStop n).vOn n 0 = s.valveSafeOn n ∧ (s.valveStop n).vOn n 1 = false ∧ (s.valveStop n).vOn n 2 = false ∧
      (s.valveStop n).vOn n 11 = false ∧
      (s.valveStop n).valve n = { s.valve n with lvl := s.restLevel n, window := none, rep := none } ∧
      (s.valveStop n).vlv.defq = (if s.vOn n 11 then s.vlv.defq.filter (fun c => c ≠ n) else s.vlv.defq) := by
  obtain ⟨h11, hv, hq⟩ := s.undeferred_shows n
  obtain ⟨r0, r1, r2, r11⟩ := (s.undeferred n).restShown_flags n (s.valveSafeOn n)
  have hrv : ((s.undeferred n).restShown n (s.valveSafeOn n)).valve n = s.valve n := (State.valve_congr (by rw [State.restShown_vlv]) n).trans hv
  have hrq := (congrArg Valves.defq ((s.undeferred n).restShown_vlv n (s.valveSafeOn n))).trans hq
  have hflag (b : Nat) : (s.valveStop n).vOn n b = ((s.undeferred n).restShown n (s.valveSafeOn n)).vOn n b := by
    rw [s.valveStop_eq, State.bankRegs_vOn, State.vOn_setValve]
  refine ⟨(hflag 0).trans r0, (hflag 1).trans r1, (hflag 2).trans r2, (hflag 11).trans (r11.trans h11), ?_, ?_⟩
  · rw [s.valveStop_eq, State.bankRegs_valve, State.valve_setValve_same, hrv]
  · rw [s.valveStop_eq, State.bankRegs_vlv]
    exact hrq

theorem State.valveOff_drives (s : State) (n : Nat) : DrivesTo (bankOf n) s (s.valveOff n) :=
  (DrivesTo.valveStop (C := bankOf n) s rfl).trans (.grantPeak _ _ fun _ _ h => h)

/-- Turning a channel off that is not deferred, or no longer, grants its peak slot to other channels alone. -/
theorem State.valveOff_grants {s : State} {n : Nat} (h : s.vOn n 11 = true ∨ n ∉ s.vlv.defq) :
    DrivesTo (bankMates n) (s.valveStop n) (s.valveOff n) := by
  refine DrivesTo.grantPeak _ _ fun m hm hbank => ⟨fun e => ?_, hbank⟩
  rw [e, (s.valveStop_shows n).2.2.2.2.2] at hm
  obtain h11 | hq := h
  · rw [if_pos h11] at hm
    simp at hm
  · split at hm
    · exact hq (List.mem_of_mem_filter hm)
    · exact hq hm

theorem State.valveOff_shows {s : State} {n : Nat} (h : s.vOn n 11 = true ∨ n ∉ s.vlv.defq) :
    (s.valveOff n).vOn n 0 = s.valveSafeOn n ∧ (s.valveOff n).vOn n 1 = false ∧ (s.valveOff n).vOn n 2 = false ∧
      (s.valveOff n).vOn n 11 = false ∧
      (s.valveOff n).valve n = { s.valve n with lvl := s.restLevel n, window := none, rep := none } := by
  obtain ⟨h0, h1, h2, h11, hv, -⟩ := s.valveStop_shows n
  have hg := State.valveOff_grants h
  have hb (b : Nat) := hg.beside (n := n) (fun m hm => bankMates_apart hm) b
  exact ⟨(hb 0).trans h0, (hb 1).trans h1, (hb 2).trans h2, (hb 11).trans h11, (hg.valve n fun hm => hm.1 rfl).trans hv⟩

/-! ### Pulses (R321, R329) -/

/-- The end of a pulse clears it and is reported; nothing else of the valves changes. -/
theorem State.pulseDone_drives (s : State) (n fl : Nat) : DrivesTo {n} s (s.pulseDone n fl) := by
  have hentry (x : State) (tag a b : Nat) : DrivesTo {n} x (x.actuation n tag fl a b) :=
    .of_affects (.of_entersTo (.looseEntry _ _ _ _ _ _ _ _ _))
  unfold State.pulseDone
  dsimp only
  split
  · exact .refl s
  · split
    · exact .setValve s _ (Set.mem_singleton n)
    · split
      · exact (DrivesTo.setValve s _ (Set.mem_singleton n)).trans (hentry _ _ _ _)
      · exact ((DrivesTo.setValve s _ (Set.mem_singleton n)).trans (hentry _ _ _ _)).trans (.of_affects (.tickFree _))

theorem State.pulseDone_valve (s : State) (n fl : Nat) : (s.pulseDone n fl).valve n = { s.valve n with pulse := none } := by
  have hentry (x : State) (tag a b : Nat) : DrivesTo ∅ x (x.actuation n tag fl a b) :=
    .of_affects (.of_entersTo (.looseEntry _ _ _ _ _ _ _ _ _))
  unfold State.pulseDone
  dsimp only
  split
  · next h => rw [← h]
  · split
    · exact s.valve_setValve_same n _
    · split
      · exact ((hentry _ _ _ _).valve n (Set.notMem_empty _)).trans (s.valve_setValve_same n _)
      · exact ((hentry _ _ _ _).valve n (Set.notMem_empty _)).trans (s.valve_setValve_same n _)

theorem State.pulseDone_keeps (s : State) (n fl : Nat) : (∀ m b, (s.pulseDone n fl).vOn m b = s.vOn m b) ∧
    (s.pulseDone n fl).vlv.defq = s.vlv.defq := by
  have hentry (x : State) (tag a b : Nat) : AffectsOnly ∅ x (x.actuation n tag fl a b) := .of_entersTo (.looseEntry _ _ _ _ _ _ _ _ _)
  have hflag (x : State) (tag a b m c : Nat) : (x.actuation n tag fl a b).vOn m c = x.vOn m c :=
    (DrivesTo.of_affects (C := ∅) (hentry x tag a b)).beside (fun _ h => absurd h (Set.notMem_empty _)) c
  have hq (x : State) (tag a b : Nat) : (x.actuation n tag fl a b).vlv.defq = x.vlv.defq :=
    (hentry x tag a b).part (fun x => x.vlv.defq) fun _ _ => rfl
  unfold State.pulseDone
  dsimp only
  split
  · exact ⟨fun _ _ => rfl, rfl⟩
  · split
    · exact ⟨fun _ _ => rfl, rfl⟩
    · split
      · exact ⟨fun _ _ => hflag _ _ _ _ _ _, hq _ _ _ _⟩
      · exact ⟨fun _ _ => hflag _ _ _ _ _ _, hq _ _ _ _⟩

end Sys2Proof.Machine
end

section
/-! SUPPORT. Commands to a valve channel (R310-R316): what it follows, what it refuses, and the registers that show it. -/

namespace Sys2Proof.Machine

/-! ### Writes of registers -/

theorem State.AffectsOnly.applyWrite {S : Set Nat} (s : State) {key : Nat} (v : W32) (h : key ∈ S ∨ entryBlock (key / 0x1000)) :
    AffectsOnly S s (s.applyWrite key v) :=
  ⟨by rw [s.applyWrite_eq key v]; rfl, fun _ hk hS => s.applyWrite_reg_other v fun e => h.elim (fun h => hS (e ▸ h)) fun h => hk (e ▸ h)⟩

/-- A field that is read and written takes the bits written to it. -/
theorem State.getBits_applyWrite_rw (s : State) {key : Nat} {d : RegDesc} {f : FieldDesc} (v : W32)
    (hd : findReg (key / 0x1000) (key % 0x1000) = some d) (hapart : d.fieldsApart) (hf : f ∈ d.fields) (hacc : f.acc = .rw) :
    getBits ((s.applyWrite key v).reg key) f.hi f.lo = getBits v f.hi f.lo := by
  rw [s.applyWrite_reg_same v hd, d.written_eq_committed]
  exact RegDesc.getBits_committed hapart hf (by simp [FieldDesc.committedFrom, hacc])

/-- The description of the VLV_CHn_CMD registers. -/
def vlvCmdDesc : RegDesc := ⟨0x418, [(0x40, 48)], [.mkAny .rw 31 31 0x0, .mkAny .rw 11 0 0x0]⟩

theorem findReg_vlvCmd (n : Nat) : findReg (Reg.VLV_CHn_CMD n / 0x1000) (Reg.VLV_CHn_CMD n % 0x1000) = some vlvCmdDesc := by
  have h : ∀ i : Fin 48, findReg ((0xB418 + 0x40 * i.val) / 0x1000) ((0xB418 + 0x40 * i.val) % 0x1000) = some vlvCmdDesc := by decide
  exact h ⟨n % 48, Nat.mod_lt _ (by decide)⟩

theorem vlvCmdDesc_fieldsApart : vlvCmdDesc.fieldsApart := by
  unfold RegDesc.fieldsApart
  decide

/-- A write of VLV_CHn_CMD sets MA. -/
theorem State.applyWrite_vlvCmd (s : State) (n : Nat) (v : W32) :
    (s.applyWrite (Reg.VLV_CHn_CMD n) v).rd (F.VLV_CHn_CMD_MA n) = getBits v 11 0 :=
  s.getBits_applyWrite_rw (f := .mkAny .rw 11 0 0x0) v (findReg_vlvCmd n) vlvCmdDesc_fieldsApart (by decide) rfl

/-! ### Refusals (R330) -/

theorem State.vlvReject_affects (s : State) (n cause : Nat) : AffectsOnly {Reg.VLV_BADCFG, Reg.VLV_STAT} s (s.vlvReject n cause) :=
  ((AffectsOnly.wr s cause (.inl (.inl rfl))).trans (.wr _ n (.inl (.inl rfl)))).trans (.flag _ _ (.inl (.inr rfl)))

/-- A refusal shows its cause, its channel and the flag. -/
theorem State.vlvReject_shows (s : State) {n cause : Nat} (hn : n < 64) (hcause : cause < 16) :
    (s.vlvReject n cause).rd F.VLV_BADCFG_CAUSE = cause ∧ (s.vlvReject n cause).rd F.VLV_BADCFG_CH = n ∧
      (s.vlvReject n cause).rd F.VLV_STAT_CFGREJ = 1 := by
  unfold State.vlvReject
  refine ⟨?_, ?_, State.flag_rd_same _ (by decide) rfl⟩
  · rw [State.flag_rd_other _ (by decide), State.rd_wr_beside _ _ (by decide) (by decide) (by decide)]
    exact s.rd_wr_fits (by decide) hcause
  · rw [State.flag_rd_other _ (by decide)]
    exact State.rd_wr_fits _ (by decide) hn

theorem vlvStat_notRejected (n : Nat) : Reg.VLV_CHn_STAT n ∉ ({Reg.VLV_BADCFG, Reg.VLV_STAT} : Set Nat) := by
  simp only [Set.mem_insert_iff, Set.mem_singleton_iff, Reg.VLV_CHn_STAT, Reg.VLV_BADCFG, Reg.VLV_STAT]
  omega

theorem vlvCmd_notRejected (n : Nat) : Reg.VLV_CHn_CMD n ∉ ({Reg.VLV_BADCFG, Reg.VLV_STAT} : Set Nat) := by
  simp only [Set.mem_insert_iff, Set.mem_singleton_iff, Reg.VLV_CHn_CMD, Reg.VLV_BADCFG, Reg.VLV_STAT]
  omega

theorem notEntry_vlvCh (n : Nat) {r : Nat} (h : r < 0x40) : ¬ entryBlock ((0xB400 + 0x40 * (n % 48) + r) / 0x1000) :=
  notEntry (by omega)

theorem notEntry_vlvStat (n : Nat) : ¬ entryBlock (Reg.VLV_CHn_STAT n / 0x1000) := notEntry (by unfold Reg.VLV_CHn_STAT; omega)

theorem State.vlvReject_vOn (s : State) (n cause m b : Nat) : (s.vlvReject n cause).vOn m b = s.vOn m b :=
  (s.vlvReject_affects n cause).on (notEntry_vlvStat m) (vlvStat_notRejected m)

/-! ### What budgets and the peak slot look at (R315, R316) -/

/-- `t` loads the banks as `s` does: the set-up of the channels, who is on, in its peak or deferred, and the accepted events. -/
structure State.LoadsAs (s t : State) : Prop where
  prop : ∀ c, t.prop c = s.prop c
  budget : ∀ c, t.vBudget c = s.vBudget c
  tpeak : ∀ c, t.tpeak c = s.tpeak c
  flag : ∀ c b, b = 0 ∨ b = 1 ∨ b = 11 → t.vOn c b = s.vOn c b
  peakEnd : ∀ c, (t.valve c).peakEnd = (s.valve c).peakEnd
  evs : t.vlv.evs = s.vlv.evs

theorem State.LoadsAs.untimedOk {s t : State} (h : s.LoadsAs t) (n : Nat) : t.untimedOk n = s.untimedOk n := by
  have hon : t.bankOn n = s.bankOn n := by simp [State.bankOn, h.flag]
  have hheld : t.bankHeld n = s.bankHeld n := by simp [State.bankHeld, h.flag, hon, h.budget]
  have hevs : t.bankEvents n = s.bankEvents n := by simp [State.bankEvents, h.evs]
  simp [State.untimedOk, h.budget, hheld, hevs]

theorem State.LoadsAs.peakConflict {s t : State} (h : s.LoadsAs t) (n x : Nat) : t.peakConflict n x = s.peakConflict n x := by
  have hevs : t.bankEvents n = s.bankEvents n := by simp [State.bankEvents, h.evs]
  simp [State.peakConflict, h.flag, h.peakEnd, h.prop, h.tpeak, hevs]

/-! ### A channel's command state (R310, R316) -/

/-- Channel `n` with a new command state. -/
def State.commanded (s : State) (n : Nat) (on : Bool) (ma : Frac) : State := (s.setValve n { s.valve n with ma := ma }).vSet n 15 on

theorem State.valveCommand_eq (s : State) (n : Nat) (on : Bool) (ma : Frac) : s.valveCommand n on ma =
    if ((s.commanded n on ma).valveFollow n).2 then (s.commanded n on ma).valveFollow n
    else ((((s.commanded n on ma).valveFollow n).1.setValve n
      { ((s.commanded n on ma).valveFollow n).1.valve n with ma := (s.valve n).ma }).vSet n 15 (s.vOn n 15), false) := rfl

section
variable (s : State) (n : Nat) (on : Bool) (ma : Frac)

theorem State.commanded_vlv : (s.commanded n on ma).vlv = (s.setValve n { s.valve n with ma := ma }).vlv := State.vSet_vlv _ _ _ _

theorem State.commanded_valve : (s.commanded n on ma).valve n = { s.valve n with ma := ma } :=
  (State.vSet_valve _ _ _ _ _).trans (s.valve_setValve_same n _)

theorem State.commanded_flag (m : Nat) {b : Nat} (hb : b < 32) (h : b ≠ 15) : (s.commanded n on ma).vOn m b = s.vOn m b :=
  (State.vOn_vSet_beside _ n m on (by decide) hb h).trans (s.vOn_setValve n _ m b)

theorem State.commanded_cmd : (s.commanded n on ma).vOn n 15 = on := State.vOn_vSet_same _ _ _ (by decide)

theorem State.commanded_reg {k : Nat} (h : k ≠ Reg.VLV_CHn_STAT n) : (s.commanded n on ma).reg k = s.reg k :=
  (State.reg_wrB_other _ on h).trans rfl

/-- Everything but the channel and its command flag is as before. -/
theorem State.commanded_eq : s.commanded n on ma =
    { s with regs := (s.commanded n on ma).regs, vlv := { s.vlv with chs := (s.commanded n on ma).vlv.chs } } := rfl

theorem State.commanded_rd {f : Fld} (h : f.addr ≠ Reg.VLV_CHn_STAT n) : (s.commanded n on ma).rd f = s.rd f :=
  State.rd_congr (s.commanded_reg n on ma h)

theorem vlvCfg_notStat (m n : Nat) {r : Nat} (hr : r < 0x40) (h : r ≠ 0x1C) : 0xB400 + 0x40 * (m % 48) + r ≠ Reg.VLV_CHn_STAT n := by
  unfold Reg.VLV_CHn_STAT
  omega

theorem State.commanded_cfg (m : Nat) {r : Nat} {f : Fld} (hf : f.addr = 0xB400 + 0x40 * (m % 48) + r) (hr : r < 0x40) (h : r ≠ 0x1C) :
    (s.commanded n on ma).rd f = s.rd f := s.commanded_rd n on ma (hf ▸ vlvCfg_notStat m n hr h)

theorem vlvHold_addr (i : Nat) : Reg.VLV_CHn_HOLD i = 0xB400 + 0x40 * (i % 48) + 0x08 := by unfold Reg.VLV_CHn_HOLD; omega
theorem vlvPeak_addr (i : Nat) : Reg.VLV_CHn_PEAK i = 0xB400 + 0x40 * (i % 48) + 0x04 := by unfold Reg.VLV_CHn_PEAK; omega
theorem vlvCtl_addr (i : Nat) : Reg.VLV_CHn_CTL i = 0xB400 + 0x40 * (i % 48) + 0x00 := by unfold Reg.VLV_CHn_CTL; omega
theorem vlvDuty_addr (i : Nat) : Reg.VLV_CHn_DUTY i = 0xB400 + 0x40 * (i % 48) + 0x14 := by unfold Reg.VLV_CHn_DUTY; omega
theorem vlvCmd_addr (i : Nat) : Reg.VLV_CHn_CMD i = 0xB400 + 0x40 * (i % 48) + 0x18 := by unfold Reg.VLV_CHn_CMD; omega
theorem vlvDutyuse_addr (i : Nat) : Reg.VLV_CHn_DUTYUSE i = 0xB400 + 0x40 * (i % 48) + 0x28 := by unfold Reg.VLV_CHn_DUTYUSE; omega
theorem vlvMotion_addr (i : Nat) : Reg.VLV_CHn_MOTION i = 0xB400 + 0x40 * (i % 48) + 0x24 := by unfold Reg.VLV_CHn_MOTION; omega
theorem vlvDip_addr (i : Nat) : Reg.VLV_CHn_DIP i = 0xB400 + 0x40 * (i % 48) + 0x10 := by unfold Reg.VLV_CHn_DIP; omega

theorem State.commanded_prop (m : Nat) : (s.commanded n on ma).prop m = s.prop m :=
  State.on_congr (s.commanded_cfg n on ma m (vlvCtl_addr m) (by decide) (by decide))

theorem State.commanded_loadsAs : s.LoadsAs (s.commanded n on ma) where
  prop := s.commanded_prop n on ma
  budget c := by
    unfold State.vBudget
    rw [s.commanded_prop n on ma c, s.commanded_cfg n on ma c (vlvHold_addr c) (f := F.VLV_CHn_HOLD_IMAX c) (by decide) (by decide),
      s.commanded_cfg n on ma c (vlvHold_addr c) (f := F.VLV_CHn_HOLD_IHOLD c) (by decide) (by decide),
      s.commanded_cfg n on ma c (vlvPeak_addr c) (f := F.VLV_CHn_PEAK_IPEAK c) (by decide) (by decide)]
  tpeak c := congrArg (· * 10000) (s.commanded_cfg n on ma c (vlvPeak_addr c) (by decide) (by decide))
  flag c b hb := s.commanded_flag n on ma c (by omega) (by omega)
  peakEnd c := by
    by_cases hc : c = n
    · rw [hc, s.commanded_valve n on ma]
    · exact congrArg Valve.peakEnd ((State.vSet_valve _ _ _ _ c).trans (s.valve_setValve_other _ hc))
  evs := rfl

theorem State.commanded_vCan : (s.commanded n on ma).vCan n = s.vCan n := by
  unfold State.vCan
  have hact : (s.commanded n on ma).on (F.VLV_CHn_DUTY_ACT n) = s.on (F.VLV_CHn_DUTY_ACT n) :=
    State.on_congr (s.commanded_cfg n on ma n (vlvDuty_addr n) (by decide) (by decide))
  have hen : (s.commanded n on ma).on (F.VLV_CHn_CTL_EN n) = s.on (F.VLV_CHn_CTL_EN n) :=
    State.on_congr (s.commanded_cfg n on ma n (vlvCtl_addr n) (by decide) (by decide))
  rw [hact, hen]
  simp (disch := decide) only [State.commanded_flag]

theorem State.commanded_safeOn : (s.commanded n on ma).valveSafeOn n = s.valveSafeOn n := by
  unfold State.valveSafeOn
  simp (disch := decide) only [State.commanded_flag]
  rfl

theorem State.commanded_rest : (s.commanded n on ma).restLevel n = s.restLevel n := by
  unfold State.restLevel
  rw [State.commanded_safeOn]
  rfl

/-- A channel that is not proportional wants what it is commanded. -/
theorem State.commanded_wants (h : s.prop n = false) : (s.commanded n on ma).vWants n = on := by
  unfold State.vWants
  rw [State.commanded_cmd, State.commanded_prop, h]
  simp

end

/-! ### Following (R316) -/

theorem State.valveFollow_off {s : State} {n : Nat} (h : s.vCan n = false ∨ s.vWants n = false) : s.valveFollow n = (s.valveOff n, true) :=
  if_pos (by obtain h | h := h <;> simp [h])

theorem State.valveFollow_refused {s : State} {n : Nat} (hcan : s.vCan n = true) (hwants : s.vWants n = true) (hdefer : s.vOn n 11 = false)
    (hon : s.vOn n 0 = false) (hok : s.untimedOk n = false) : s.valveFollow n = (s.inc F.VLV_CONFCNT_REFUSE, false) := by
  simp [State.valveFollow, hcan, hwants, hdefer, hon, hok]

theorem State.valveFollow_starts {s : State} {n : Nat} (hcan : s.vCan n = true) (hwants : s.vWants n = true) (hdefer : s.vOn n 11 = false)
    (hon : s.vOn n 0 = false) (hok : s.untimedOk n = true) (hprop : s.prop n = false) (hpeak : s.peakConflict n s.now = none)
    (hq : s.vlv.defq.any (fun c => decide (c / 4 = n / 4)) = false) : s.valveFollow n = (s.valveStart n, true) := by
  simp only [State.valveFollow, hcan, hwants, hdefer, hon, hok, hprop, hpeak, hq, Bool.and_self, Bool.true_eq_false, Bool.false_eq_true, if_false,
    and_self, if_true]

/-- The channel deferred at the end of the queue. -/
def State.deferred (s : State) (n : Nat) : State :=
  { (s.vSet n 11 true).inc F.VLV_CONFCNT_DEFER with
    vlv := { ((s.vSet n 11 true).inc F.VLV_CONFCNT_DEFER).vlv with defq := ((s.vSet n 11 true).inc F.VLV_CONFCNT_DEFER).vlv.defq ++ [n] } }

theorem State.valveFollow_defers {s : State} {n : Nat} (hcan : s.vCan n = true) (hwants : s.vWants n = true) (hdefer : s.vOn n 11 = false)
    (hon : s.vOn n 0 = false) (hok : s.untimedOk n = true) (hprop : s.prop n = false)
    (hbusy : s.peakConflict n s.now ≠ none ∨ s.vlv.defq.any (fun c => decide (c / 4 = n / 4)) = true) :
    s.valveFollow n = ((s.deferred n).bankRegs (n / 4), true) := by
  have hnot : ¬ (s.peakConflict n s.now = none ∧ s.vlv.defq.any (fun c => decide (c / 4 = n / 4)) = false) := by
    rintro ⟨hpeak, hq⟩
    obtain h | h := hbusy
    · exact h hpeak
    · rw [hq] at h
      exact absurd h (by decide)
  simp only [State.valveFollow, hcan, hwants, hdefer, hon, hok, hprop, hnot, Bool.and_self, Bool.true_eq_false, Bool.false_eq_true, if_false]
  rfl

theorem State.valveFollow_drives (s : State) (n : Nat) : DrivesTo (bankOf n) s (s.valveFollow n).1 := by
  unfold State.valveFollow
  dsimp only
  split
  · exact s.valveOff_drives n
  split
  · exact .refl s
  split
  · split
    · exact (DrivesTo.vSet (C := bankOf n) s _ rfl DrivesTo.drive_clamp).trans (.setValve _ _ rfl)
    · exact .refl s
  split
  · exact .confcnt s rfl
  split
  · exact .valveStart (C := bankOf n) s rfl
  split
  · exact .valveStart (C := bankOf n) s rfl
  · exact ((DrivesTo.vSet (C := bankOf n) s _ rfl DrivesTo.drive_defer).trans (.confcnt _ rfl)).trans ((DrivesTo.withVlv _ _ _ _ fun _ _ => rfl).trans (.bankRegs _ _))

end Sys2Proof.Machine
end

section
/-! SUPPORT. The commands of the valve channels (R309-R319), each by what it carries out. -/

namespace Sys2Proof.Machine

/-! ### VLV_CHn_CMD (R310-R316) -/

theorem execValveUntimedCommand_eq {s : State} {a : Agent} {n : Nat} (v : W32) (hn : n < 48) (hacc : s.accepts a 0x0B (0x418 + 0x40 * n) = true) :
    exec (.valveUntimedCommand a n v) s = .next (s.done.valveCmdWrite a n v) := by
  refine congrArg Host.Outcome.next ((if_pos hn).trans ?_)
  rw [State.gate_accepts _ hacc]

theorem State.setValve_reg (s : State) (n : Nat) (x : Valve) (k : Nat) : (s.setValve n x).reg k = s.reg k := rfl

/-- A response loads no bank. -/
theorem State.done_loadsAs (s : State) : s.LoadsAs s.done :=
  ⟨fun _ => rfl, fun _ => rfl, fun _ => rfl, fun _ _ _ => rfl, fun _ => rfl, rfl⟩

theorem State.valveCmdWrite_taken {s : State} {a : Agent} {n : Nat} {v : W32} (hsrc : s.rd (F.VLV_CHn_CTL_SRC n) = 3) (hcarry : s.carrier = some a)
    (hlisted : listedAt (Reg.VLV_CHn_CMD n) v = true) :
    s.valveCmdWrite a n v = if (s.valveCommand n (bitAt v.toNat 31) (Frac.ofInt (getBits v 11 0))).2
      then (s.valveCommand n (bitAt v.toNat 31) (Frac.ofInt (getBits v 11 0))).1.applyWrite (Reg.VLV_CHn_CMD n) v
      else (s.valveCommand n (bitAt v.toNat 31) (Frac.ofInt (getBits v 11 0))).1.vlvReject n 4 :=
  (if_neg (by rw [hsrc, hcarry]; simp)).trans (if_neg (by rw [hlisted]; decide))

/-- The register of a command shows nothing of the drive. -/
theorem State.applyWrite_cmd_vOn (s : State) (n : Nat) (v : W32) (m b : Nat) : (s.applyWrite (Reg.VLV_CHn_CMD n) v).vOn m b = s.vOn m b :=
  State.on_congr (State.rd_congr (s.applyWrite_reg_other v (by simp only [vlvFlag, Reg.VLV_CHn_STAT, Reg.VLV_CHn_CMD]; omega)))

theorem State.applyWrite_vlv (s : State) (k : Nat) (v : W32) : (s.applyWrite k v).vlv = s.vlv := by rw [s.applyWrite_eq k v]

theorem State.applyWrite_valve (s : State) (k : Nat) (v : W32) (n : Nat) : (s.applyWrite k v).valve n = s.valve n :=
  State.valve_congr (by rw [State.applyWrite_vlv]) n

section
variable {s : State} {n : Nat} {on : Bool} {ma : Frac}

/-- A command for which the channel starts. -/
theorem State.valveCommand_starts (hcan : s.vCan n = true) (hprop : s.prop n = false) (hoff : s.vOn n 0 = false) (hdefer : s.vOn n 11 = false)
    (hok : s.untimedOk n = true) (hpeak : s.peakConflict n s.now = none) (hq : s.vlv.defq.any (fun c => decide (c / 4 = n / 4)) = false) :
    s.valveCommand n true ma = ((s.commanded n true ma).valveStart n, true) := by
  have hloads := s.commanded_loadsAs n true ma
  have hfollow : (s.commanded n true ma).valveFollow n = ((s.commanded n true ma).valveStart n, true) :=
    State.valveFollow_starts ((s.commanded_vCan n true ma).trans hcan) (s.commanded_wants n true ma hprop)
      ((s.commanded_flag n true ma n (by decide) (by decide)).trans hdefer) ((s.commanded_flag n true ma n (by decide) (by decide)).trans hoff)
      ((hloads.untimedOk n).trans hok) ((hloads.prop n).trans hprop) ((hloads.peakConflict n _).trans hpeak) hq
  rw [State.valveCommand_eq, hfollow]
  rfl

/-- What a channel that starts shows. -/
theorem State.commandedStart_shows (hprop : s.prop n = false) :
    ((s.commanded n true ma).valveStart n).vOn n 15 = true ∧ ((s.commanded n true ma).valveStart n).vOn n 0 = true ∧
      ((s.commanded n true ma).valveStart n).vOn n 1 = true ∧
      ((s.commanded n true ma).valveStart n).valve n = (s.commanded n true ma).peakValve n := by
  obtain ⟨h0, h1, -, -, hv, -⟩ := State.valveStart_peak ((s.commanded_prop n true ma n).trans hprop)
  refine ⟨?_, h0, h1, hv⟩
  exact ((State.DrivesTo.valveStart (C := {n}) _ (Set.mem_singleton n)).flag n 15 (by decide) (by unfold driveBit; decide)).trans (s.commanded_cmd n true ma)

/-- A command for which the channel is deferred. -/
theorem State.valveCommand_defers (hcan : s.vCan n = true) (hprop : s.prop n = false) (hoff : s.vOn n 0 = false) (hdefer : s.vOn n 11 = false)
    (hok : s.untimedOk n = true) (hbusy : s.peakConflict n s.now ≠ none ∨ s.vlv.defq.any (fun c => decide (c / 4 = n / 4)) = true) :
    s.valveCommand n true ma = (((s.commanded n true ma).deferred n).bankRegs (n / 4), true) := by
  have hloads := s.commanded_loadsAs n true ma
  have hfollow : (s.commanded n true ma).valveFollow n = (((s.commanded n true ma).deferred n).bankRegs (n / 4), true) :=
    State.valveFollow_defers ((s.commanded_vCan n true ma).trans hcan) (s.commanded_wants n true ma hprop)
      ((s.commanded_flag n true ma n (by decide) (by decide)).trans hdefer) ((s.commanded_flag n true ma n (by decide) (by decide)).trans hoff)
      ((hloads.untimedOk n).trans hok) ((hloads.prop n).trans hprop)
      (hbusy.imp (fun h e => h ((hloads.peakConflict n _).symm.trans e)) id)
  rw [State.valveCommand_eq, hfollow]
  rfl

/-- A command refused for its budget. -/
theorem State.valveCommand_refuses (hcan : s.vCan n = true) (hprop : s.prop n = false) (hoff : s.vOn n 0 = false) (hdefer : s.vOn n 11 = false)
    (hok : s.untimedOk n = false) :
    s.valveCommand n true ma = (((((s.commanded n true ma).inc F.VLV_CONFCNT_REFUSE).setValve n
      { ((s.commanded n true ma).inc F.VLV_CONFCNT_REFUSE).valve n with ma := (s.valve n).ma }).vSet n 15 (s.vOn n 15)), false) := by
  have hloads := s.commanded_loadsAs n true ma
  have hfollow : (s.commanded n true ma).valveFollow n = ((s.commanded n true ma).inc F.VLV_CONFCNT_REFUSE, false) :=
    State.valveFollow_refused ((s.commanded_vCan n true ma).trans hcan) (s.commanded_wants n true ma hprop)
      ((s.commanded_flag n true ma n (by decide) (by decide)).trans hdefer) ((s.commanded_flag n true ma n (by decide) (by decide)).trans hoff)
      ((hloads.untimedOk n).trans hok)
  rw [State.valveCommand_eq, hfollow]
  rfl

/-- A command to turn off. -/
theorem State.valveCommand_off : s.valveCommand n false ma = ((s.commanded n false ma).valveOff n, true) := by
  have hwants : (s.commanded n false ma).vWants n = false := by
    unfold State.vWants
    rw [State.commanded_cmd]
    rfl
  rw [State.valveCommand_eq, State.valveFollow_off (.inr hwants)]
  rfl

/-- What a channel turned off shows. -/
theorem State.commandedOff_shows (h : s.vOn n 11 = true ∨ n ∉ s.vlv.defq) :
    ((s.commanded n false ma).valveOff n).vOn n 15 = false ∧ ((s.commanded n false ma).valveOff n).vOn n 0 = s.valveSafeOn n ∧
      ((s.commanded n false ma).valveOff n).vOn n 1 = false ∧ ((s.commanded n false ma).valveOff n).vOn n 2 = false ∧
      ((s.commanded n false ma).valveOff n).valve n = { s.valve n with ma := ma, lvl := s.restLevel n, window := none, rep := none } := by
  have hq : (s.commanded n false ma).vOn n 11 = true ∨ n ∉ (s.commanded n false ma).vlv.defq := by
    rw [s.commanded_flag n false ma n (by decide) (by decide)]
    exact h
  obtain ⟨h0, h1, h2, -, hv⟩ := State.valveOff_shows hq
  refine ⟨?_, h0.trans (s.commanded_safeOn n false ma), h1, h2, hv.trans ?_⟩
  · exact ((State.valveOff_drives _ n).flag n 15 (by decide) (by unfold driveBit; decide)).trans (s.commanded_cmd n false ma)
  · rw [State.commanded_valve, State.commanded_rest]

end

theorem execValveUntimedCommand_turnsOn {s : State} {a : Agent} {n : Nat} {v : W32} (hn : n < 48)
    (hacc : s.accepts a 0x0B (0x418 + 0x40 * n) = true) (hsrc : s.rd (F.VLV_CHn_CTL_SRC n) = 3) (hcarry : s.carrier = some a)
    (hlisted : listedAt (Reg.VLV_CHn_CMD n) v = true) (hv : bitAt v.toNat 31 = true) (hcan : s.vCan n = true) (hprop : s.prop n = false)
    (hoff : s.vOn n 0 = false) (hdefer : s.vOn n 11 = false) (hpeak : s.peakConflict n s.now = none)
    (hq : s.vlv.defq.any (fun c => decide (c / 4 = n / 4)) = false) :
    Completes (.valveUntimedCommand a n v) s (fun t => t.resp = .done ∧
      (s.untimedOk n = true → t.vOn n 15 = true ∧ t.vOn n 0 = true ∧ t.vOn n 1 = true ∧ (t.valve n).lvl = s.rd (F.VLV_CHn_PEAK_IPEAK n) ∧
        (t.valve n).ton = s.now ∧ (t.valve n).peakEnd = s.now + s.rd (F.VLV_CHn_PEAK_TPEAK n) * 10000 ∧
        t.rd (F.VLV_CHn_CMD_MA n) = getBits v 11 0) ∧
      (s.untimedOk n = false → t.vOn n 15 = s.vOn n 15 ∧ t.vOn n 0 = false ∧ t.rd F.VLV_BADCFG_CAUSE = 4 ∧ t.rd F.VLV_BADCFG_CH = n ∧
        t.reg (Reg.VLV_CHn_CMD n) = s.reg (Reg.VLV_CHn_CMD n))) := by
  refine ⟨_, execValveUntimedCommand_eq v hn hacc, ?_⟩
  dsimp only
  rw [State.valveCmdWrite_taken (s := s.done) hsrc hcarry hlisted, hv]
  generalize Frac.ofInt (getBits v 11 0) = ma
  by_cases hok : s.untimedOk n = true
  · rw [State.valveCommand_starts (s := s.done) hcan hprop hoff hdefer ((s.done_loadsAs.untimedOk n).trans hok)
      ((s.done_loadsAs.peakConflict n _).trans hpeak) hq, if_pos rfl]
    obtain ⟨h15, h0, h1, hx⟩ := State.commandedStart_shows (s := s.done) (ma := ma) hprop
    have hd := State.DrivesTo.valveStart (C := {n}) (s.done.commanded n true ma) (Set.mem_singleton n)
    refine ⟨?_, fun _ => ⟨?_, ?_, ?_, ?_, ?_, ?_, State.applyWrite_vlvCmd _ n v⟩, fun h => absurd h (by rw [hok]; decide)⟩
    · rw [State.applyWrite_resp]
      exact hd.part State.resp fun _ _ => rfl
    · rw [State.applyWrite_cmd_vOn, h15]
    · rw [State.applyWrite_cmd_vOn, h0]
    · rw [State.applyWrite_cmd_vOn, h1]
    · rw [State.applyWrite_valve, hx]
      exact s.done.commanded_cfg n true ma n (vlvPeak_addr n) (by decide) (by decide)
    · rw [State.applyWrite_valve, hx]
      rfl
    · rw [State.applyWrite_valve, hx]
      have htp : (s.done.commanded n true ma).rd (F.VLV_CHn_PEAK_TPEAK n) = s.rd (F.VLV_CHn_PEAK_TPEAK n) :=
        s.done.commanded_cfg n true ma n (vlvPeak_addr n) (by decide) (by decide)
      have hnow : (s.done.commanded n true ma).now = s.now := rfl
      unfold State.peakValve State.tpeak
      rw [htp, hnow]
  · have hno : s.untimedOk n = false := eq_false_of_ne_true hok
    rw [State.valveCommand_refuses (s := s.done) hcan hprop hoff hdefer ((s.done_loadsAs.untimedOk n).trans hno), if_neg Bool.false_ne_true]
    generalize hx : ((s.done.commanded n true ma).inc F.VLV_CONFCNT_REFUSE) = x
    have hxflag : x.vOn n 0 = false := by
      rw [← hx]
      refine (State.on_congr ((s.done.commanded n true ma).rd_wr_other _ ?_)).trans ?_
      · simp only [vlvFlag, Reg.VLV_CHn_STAT, F.VLV_CONFCNT_REFUSE, Reg.VLV_CONFCNT]
        omega
      · exact (s.done.commanded_flag n true ma n (by decide) (by decide)).trans hoff
    have hxreg : x.reg (Reg.VLV_CHn_CMD n) = s.reg (Reg.VLV_CHn_CMD n) := by
      rw [← hx, State.reg_inc_other _ (by simp only [F.VLV_CONFCNT_REFUSE, Reg.VLV_CONFCNT, Reg.VLV_CHn_CMD]; omega)]
      exact s.done.commanded_reg n true ma (by simp only [Reg.VLV_CHn_CMD, Reg.VLV_CHn_STAT]; omega)
    have hxresp : x.resp = .done := hx ▸ rfl
    clear hx
    generalize hy : (x.setValve n { x.valve n with ma := (s.done.valve n).ma }).vSet n 15 (s.done.vOn n 15) = y
    have hcmd : Reg.VLV_CHn_CMD n ≠ (vlvFlag n 15).addr := by
      simp only [vlvFlag, Reg.VLV_CHn_CMD, Reg.VLV_CHn_STAT]
      omega
    have hy15 : y.vOn n 15 = s.vOn n 15 := hy ▸ State.vOn_vSet_same _ _ _ (by decide)
    have hy0 : y.vOn n 0 = false := by
      rw [← hy, State.vOn_vSet_beside _ _ _ _ (by decide) (by decide) (by decide), State.vOn_setValve]
      exact hxflag
    have hyreg : y.reg (Reg.VLV_CHn_CMD n) = s.reg (Reg.VLV_CHn_CMD n) := by
      rw [← hy]
      exact (State.reg_wrB_other _ _ hcmd).trans ((x.setValve_reg n _ _).trans hxreg)
    have hyresp : y.resp = .done := by
      rw [← hy]
      exact hxresp
    clear hy
    obtain ⟨hcause, hch, -⟩ := y.vlvReject_shows (n := n) (cause := 4) (by omega) (by decide)
    have hrej := y.vlvReject_affects n 4
    exact ⟨(hrej.part State.resp fun _ _ => rfl).trans hyresp, fun h => absurd (h.symm.trans hno) (by decide), fun _ =>
      ⟨(y.vlvReject_vOn n 4 n 15).trans hy15, (y.vlvReject_vOn n 4 n 0).trans hy0, hcause, hch,
        (hrej.reg _ (notEntry (by unfold Reg.VLV_CHn_CMD; omega)) (vlvCmd_notRejected n)).trans hyreg⟩⟩

theorem State.rd_withVlv (s : State) (x : Valves) (f : Fld) : ({ s with vlv := x } : State).rd f = s.rd f := rfl

theorem State.deferred_rd (s : State) (n : Nat) (f : Fld) : (s.deferred n).rd f = ((s.vSet n 11 true).inc F.VLV_CONFCNT_DEFER).rd f :=
  State.rd_withVlv _ _ f

theorem execValveUntimedCommand_defers {s : State} {a : Agent} {n : Nat} {v : W32} (hn : n < 48)
    (hacc : s.accepts a 0x0B (0x418 + 0x40 * n) = true) (hsrc : s.rd (F.VLV_CHn_CTL_SRC n) = 3) (hcarry : s.carrier = some a)
    (hlisted : listedAt (Reg.VLV_CHn_CMD n) v = true) (hv : bitAt v.toNat 31 = true) (hcan : s.vCan n = true) (hprop : s.prop n = false)
    (hoff : s.vOn n 0 = false) (hdefer : s.vOn n 11 = false) (hok : s.untimedOk n = true)
    (hbusy : s.peakConflict n s.now ≠ none ∨ s.vlv.defq.any (fun c => decide (c / 4 = n / 4)) = true) :
    Completes (.valveUntimedCommand a n v) s (fun t => t.resp = .done ∧ t.vOn n 15 = true ∧ t.vOn n 11 = true ∧ t.vOn n 0 = false ∧
      t.vlv.defq = s.vlv.defq ++ [n] ∧ t.rd F.VLV_CONFCNT_DEFER = satAdd F.VLV_CONFCNT_DEFER.width (s.rd F.VLV_CONFCNT_DEFER) 1) := by
  refine ⟨_, execValveUntimedCommand_eq v hn hacc, ?_⟩
  dsimp only
  rw [State.valveCmdWrite_taken (s := s.done) hsrc hcarry hlisted, hv]
  generalize Frac.ofInt (getBits v 11 0) = ma
  rw [State.valveCommand_defers (s := s.done) hcan hprop hoff hdefer ((s.done_loadsAs.untimedOk n).trans hok)
    (hbusy.imp (fun h e => h ((s.done_loadsAs.peakConflict n _).symm.trans e)) id), if_pos rfl]
  have hflag (m b : Nat) : ((s.done.commanded n true ma).deferred n).vOn m b = ((s.done.commanded n true ma).vSet n 11 true).vOn m b := by
    refine (State.vOn_withVlv _ _ m b).trans (State.on_congr (State.rd_wr_other _ _ ?_))
    simp only [vlvFlag, Reg.VLV_CHn_STAT, F.VLV_CONFCNT_DEFER, Reg.VLV_CONFCNT]
    omega
  refine ⟨?_, ?_, ?_, ?_, ?_, ?_⟩
  · rw [State.applyWrite_resp]
    exact (State.DrivesTo.bankRegs (C := ∅) _ _).part State.resp fun _ _ => rfl
  · rw [State.applyWrite_cmd_vOn, State.bankRegs_vOn, hflag, State.vOn_vSet_beside _ _ _ _ (by decide) (by decide) (by decide), State.commanded_cmd]
  · rw [State.applyWrite_cmd_vOn, State.bankRegs_vOn, hflag, State.vOn_vSet_same _ _ _ (by decide)]
  · rw [State.applyWrite_cmd_vOn, State.bankRegs_vOn, hflag, State.vOn_vSet_beside _ _ _ _ (by decide) (by decide) (by decide),
      State.commanded_flag _ _ _ _ _ (by decide) (by decide)]
    exact hoff
  · rw [State.applyWrite_vlv, State.bankRegs_vlv]
    rfl
  · refine (State.rd_congr (State.applyWrite_reg_other _ v ?_)).trans ?_
    · simp only [F.VLV_CONFCNT_DEFER, Reg.VLV_CONFCNT, Reg.VLV_CHn_CMD]
      omega
    have hnot : Reg.VLV_CONFCNT ≠ Reg.VLV_BANKk_STAT (n / 4) := by
      simp only [Reg.VLV_CONFCNT, Reg.VLV_BANKk_STAT]
      omega
    have hch : Reg.VLV_CONFCNT ≠ Reg.VLV_CHn_STAT n := by
      simp only [Reg.VLV_CONFCNT, Reg.VLV_CHn_STAT]
      omega
    refine (State.rd_congr (f := F.VLV_CONFCNT_DEFER) (State.bankRegs_reg _ hnot)).trans ?_
    have hbefore : ((s.done.commanded n true ma).vSet n 11 true).rd F.VLV_CONFCNT_DEFER = s.rd F.VLV_CONFCNT_DEFER :=
      (State.rd_congr (State.reg_wrB_other _ _ hch)).trans (s.done.commanded_rd n true ma hch)
    rw [State.deferred_rd]
    exact (State.rd_incBy_same _ 1 (by decide)).trans (by rw [hbefore])

theorem execValveUntimedCommand_turnsOff {s : State} {a : Agent} {n : Nat} {v : W32} (hn : n < 48)
    (hacc : s.accepts a 0x0B (0x418 + 0x40 * n) = true) (hsrc : s.rd (F.VLV_CHn_CTL_SRC n) = 3) (hcarry : s.carrier = some a)
    (hlisted : listedAt (Reg.VLV_CHn_CMD n) v = true) (hv : bitAt v.toNat 31 = false) (hq : s.vOn n 11 = true ∨ s.vlv.defq.contains n = false) :
    Completes (.valveUntimedCommand a n v) s (fun t => t.resp = .done ∧ t.vOn n 15 = false ∧ t.vOn n 0 = s.valveSafeOn n ∧ t.vOn n 1 = false ∧
      t.vOn n 2 = false ∧ (t.valve n).lvl = (if s.valveSafeOn n = true then safeLevel (s.fsApplied n) else 0)) := by
  refine ⟨_, execValveUntimedCommand_eq v hn hacc, ?_⟩
  dsimp only
  rw [State.valveCmdWrite_taken (s := s.done) hsrc hcarry hlisted, hv, State.valveCommand_off, if_pos rfl]
  obtain ⟨h15, h0, h1, h2, hx⟩ := State.commandedOff_shows (s := s.done) (n := n) (ma := Frac.ofInt (getBits v 11 0))
    (hq.imp id fun h => by simpa using h)
  refine ⟨?_, ?_, ?_, ?_, ?_, ?_⟩
  · rw [State.applyWrite_resp]
    exact (State.valveOff_drives _ n).part State.resp fun _ _ => rfl
  · rw [State.applyWrite_cmd_vOn, h15]
  · rw [State.applyWrite_cmd_vOn, h0]
    rfl
  · rw [State.applyWrite_cmd_vOn, h1]
  · rw [State.applyWrite_cmd_vOn, h2]
  · rw [State.applyWrite_valve, hx]
    rfl

theorem execValveUntimedCommand_refusesSource {s : State} {a : Agent} {n : Nat} (v : W32) (hn : n < 48)
    (hacc : s.accepts a 0x0B (0x418 + 0x40 * n) = true) (hsrc : s.rd (F.VLV_CHn_CTL_SRC n) ≠ 3) :
    Completes (.valveUntimedCommand a n v) s (fun t => t.resp = .done ∧ t.rd F.VLV_BADCFG_CAUSE = 3 ∧ t.rd F.VLV_BADCFG_CH = n ∧
      t.rd F.VLV_STAT_CFGREJ = 1 ∧ t.vlv = s.vlv ∧ t.reg (Reg.VLV_CHn_STAT n) = s.reg (Reg.VLV_CHn_STAT n)) := by
  refine ⟨s.done.vlvReject n 3, (execValveUntimedCommand_eq v hn hacc).trans (congrArg Host.Outcome.next (if_pos (.inl hsrc))), ?_⟩
  obtain ⟨hcause, hch, hrej⟩ := s.done.vlvReject_shows (n := n) (cause := 3) (by omega) (by decide)
  have h := s.done.vlvReject_affects n 3
  exact ⟨h.part State.resp fun _ _ => rfl, hcause, hch, hrej, h.part State.vlv fun _ _ => rfl, h.reg _ (notEntry_vlvStat n) (vlvStat_notRejected n)⟩

/-! ### The end of the peak (R311, R316) -/

/-- No peak conflicts where no channel of the bank is in its peak phase and no event is accepted. -/
theorem State.peakConflict_none {s : State} {n x : Nat} (hpeak : ∀ c ∈ bankChannels (n / 4), c ≠ n → s.vOn c 1 = false) (hevs : s.vlv.evs = []) :
    s.peakConflict n x = none := by
  have hfind : (bankChannels (n / 4)).find? (fun c => decide (c ≠ n) && s.vOn c 1 && decide (x < (s.valve c).peakEnd)) = none := by
    rw [List.find?_eq_none]
    intro c hc
    by_cases hcn : c = n
    · simp [hcn]
    · simp [hpeak c hc hcn]
  unfold State.peakConflict
  dsimp only
  rw [hfind]
  simp [State.bankEvents, hevs]

theorem State.peakValve_ton (s : State) (n : Nat) : (s.peakValve n).ton = s.now := rfl

theorem State.grantPeak_starts {s : State} {b m : Nat} (hfind : s.vlv.defq.find? (fun c => decide (c / 4 = b)) = some m)
    (hfree : s.peakConflict m s.now = none) : s.grantPeak b = ((s.undefer m).valveStart m).setValve m
      { ((s.undefer m).valveStart m).valve m with
        pulse := (((s.undefer m).valveStart m).valve m).pulse.map (fun p => { p with stop := s.now + p.dur }) } := by
  unfold State.grantPeak
  rw [hfind]
  exact if_pos hfree

/-- A deferred channel that is not proportional starts when the peak slot comes to it. -/
theorem State.grantPeak_shows {s : State} {b m : Nat} (hfind : s.vlv.defq.find? (fun c => decide (c / 4 = b)) = some m)
    (hfree : s.peakConflict m s.now = none) (hprop : s.prop m = false) :
    (s.grantPeak b).vOn m 0 = true ∧ (s.grantPeak b).vOn m 1 = true ∧ (s.grantPeak b).vOn m 11 = false ∧
      (s.grantPeak b).vlv.defq = s.vlv.defq.filter (fun c => c ≠ m) ∧ ((s.grantPeak b).valve m).ton = s.now := by
  have hu := State.DrivesTo.undefer (C := {m}) s (Set.mem_singleton m)
  have hprop' : (s.undefer m).prop m = false := (State.on_congr (hu.cfg m (vlvCtl_addr m) (by decide) (by decide))).trans hprop
  obtain ⟨h0, h1, h11, -, hv, hq⟩ := State.valveStart_peak hprop'
  rw [State.grantPeak_starts hfind hfree]
  refine ⟨(State.vOn_setValve _ _ _ _ _).trans h0, (State.vOn_setValve _ _ _ _ _).trans h1, (State.vOn_setValve _ _ _ _ _).trans h11,
    hq.trans (s.undefer_defq m), ?_⟩
  have hnow : (s.undefer m).now = s.now := hu.part State.now fun _ _ => rfl
  rw [State.valve_setValve_same, hv]
  change ((s.undefer m).peakValve m).ton = s.now
  rw [State.peakValve_ton, hnow]

/-- A channel that holds, with its SET reported where asked; the peak slot is still to be passed on. -/
def State.holding (s : State) (n : Nat) : State :=
  let t := ((s.vSet n 1 false).vSet n 2 true).setValve n
    { s.valve n with lvl := s.rd (F.VLV_CHn_HOLD_IHOLD n), rep := none, peakEnd := s.now }
  (match (s.valve n).rep with
    | some tag => t.actuation n tag 0 (s.valve n).ton 0
    | none => t).bankRegs (n / 4)

theorem State.peakEndNow_eq (s : State) (n : Nat) : s.peakEndNow n = (s.holding n).grantPeak (n / 4) := rfl

theorem State.actuation_affects (S : Set Nat) (s : State) (n tag fl a b : Nat) : State.AffectsOnly S s (s.actuation n tag fl a b) :=
  .of_entersTo (.looseEntry _ _ _ _ _ _ _ _ _)

theorem State.holding_drives (s : State) (n : Nat) : State.DrivesTo {n} s (s.holding n) := by
  have ht (x : Valve) : State.DrivesTo {n} s (((s.vSet n 1 false).vSet n 2 true).setValve n x) :=
    ((State.DrivesTo.vSet s _ (Set.mem_singleton n) State.DrivesTo.drive_peak).trans (.vSet _ _ (Set.mem_singleton n) State.DrivesTo.drive_hold)).trans
      (.setValve _ _ (Set.mem_singleton n))
  unfold State.holding
  dsimp only
  split
  · exact ((ht _).trans (.of_affects (State.actuation_affects _ _ _ _ _ _ _))).trans (.bankRegs _ _)
  · exact (ht _).trans (.bankRegs _ _)

theorem State.holding_shows (s : State) (n : Nat) : (s.holding n).vOn n 1 = false ∧ (s.holding n).vOn n 2 = true ∧
    (∀ m b, b < 32 → b ≠ 1 → b ≠ 2 → (s.holding n).vOn m b = s.vOn m b) ∧
    (s.holding n).valve n = { s.valve n with lvl := s.rd (F.VLV_CHn_HOLD_IHOLD n), rep := none, peakEnd := s.now } ∧
    (s.holding n).vlv.defq = s.vlv.defq := by
  have hafter (x : Valve) (t : State) (h : t = (match (s.valve n).rep with
      | some tag => (((s.vSet n 1 false).vSet n 2 true).setValve n x).actuation n tag 0 (s.valve n).ton 0
      | none => ((s.vSet n 1 false).vSet n 2 true).setValve n x)) :
      State.AffectsOnly ∅ (((s.vSet n 1 false).vSet n 2 true).setValve n x) t := by
    rw [h]
    split
    · exact State.actuation_affects _ _ _ _ _ _ _
    · exact .refl _
  have h := hafter { s.valve n with lvl := s.rd (F.VLV_CHn_HOLD_IHOLD n), rep := none, peakEnd := s.now } _ rfl
  have hflag (m b : Nat) : (s.holding n).vOn m b = ((s.vSet n 1 false).vSet n 2 true).vOn m b :=
    (State.bankRegs_vOn _ _ _ _).trans (((State.DrivesTo.of_affects (C := ∅) h).beside (fun _ h => absurd h (Set.notMem_empty _)) b).trans
      (State.vOn_setValve _ _ _ _ _))
  refine ⟨?_, ?_, fun m b hb h1 h2 => ?_, ?_, ?_⟩
  · rw [hflag, State.vOn_vSet_beside _ _ _ _ (by decide) (by decide) (by decide), State.vOn_vSet_same _ _ _ (by decide)]
  · rw [hflag, State.vOn_vSet_same _ _ _ (by decide)]
  · rw [hflag, State.vOn_vSet_beside _ _ _ _ (by decide) hb h2, State.vOn_vSet_beside _ _ _ _ (by decide) hb h1]
  · exact (State.bankRegs_valve _ _ _).trans (((State.DrivesTo.of_affects (C := ∅) h).valve n (Set.notMem_empty n)).trans
      (State.valve_setValve_same _ _ _))
  · exact (congrArg Valves.defq (State.bankRegs_vlv _ _)).trans (h.part (fun x => x.vlv.defq) fun _ _ => rfl)

/-- The peak slot of a channel that is not deferred itself goes to other channels. -/
theorem State.peakEndNow_grants {s : State} {n : Nat} (h : n ∉ s.vlv.defq) : State.DrivesTo (bankMates n) (s.holding n) (s.peakEndNow n) := by
  refine State.DrivesTo.grantPeak _ _ fun m hm hbank => ⟨fun e => h ?_, hbank⟩
  rw [(s.holding_shows n).2.2.2.2, e] at hm
  exact hm

theorem State.peakEndNow_shows {s : State} {n : Nat} (h : n ∉ s.vlv.defq) : (s.peakEndNow n).vOn n 1 = false ∧ (s.peakEndNow n).vOn n 2 = true ∧
    (s.peakEndNow n).vOn n 0 = s.vOn n 0 ∧
    (s.peakEndNow n).valve n = { s.valve n with lvl := s.rd (F.VLV_CHn_HOLD_IHOLD n), rep := none, peakEnd := s.now } := by
  obtain ⟨h1, h2, hkeep, hv, -⟩ := s.holding_shows n
  have hg := State.peakEndNow_grants h
  have hb (b : Nat) := hg.beside (n := n) (fun m hm => bankMates_apart hm) b
  exact ⟨(hb 1).trans h1, (hb 2).trans h2, (hb 0).trans (hkeep n 0 (by decide) (by decide) (by decide)), (hg.valve n fun hm => hm.1 rfl).trans hv⟩

theorem execPeakPhaseEnd_holds {s : State} {n : Nat} (hbed : s.bedOn = true) (hn : n < s.code.valves) (hpeak : s.vOn n 1 = true)
    (hend : (s.valve n).peakEnd ≤ s.now) (hq : s.vlv.defq.contains n = false) :
    Completes (.peakPhaseEnd n) s (fun t => t.vOn n 1 = false ∧ t.vOn n 2 = true ∧ t.vOn n 0 = s.vOn n 0 ∧
      (t.valve n).lvl = s.rd (F.VLV_CHn_HOLD_IHOLD n) ∧ (t.valve n).rep = none) := by
  refine ⟨_, congrArg Host.Outcome.next (if_pos ⟨hbed, hn, hpeak, hend⟩), ?_⟩
  obtain ⟨h1, h2, h0, hv⟩ := State.peakEndNow_shows (s := s) (n := n) (by simpa using hq)
  exact ⟨h1, h2, h0, by rw [hv], by rw [hv]⟩

theorem execPeakPhaseEnd_grants {s : State} {n m : Nat} (hbed : s.bedOn = true) (hn : n < s.code.valves) (hpeak : s.vOn n 1 = true)
    (hend : (s.valve n).peakEnd ≤ s.now) (hq : s.vlv.defq = [m]) (hm : m ≠ n) (hbank : m / 4 = n / 4) (hprop : s.prop m = false)
    (hevs : s.vlv.evs = []) (hone : (bankChannels (n / 4)).all (fun c => decide (c = n) || !s.vOn c 1) = true) :
    Completes (.peakPhaseEnd n) s (fun t => t.vOn n 1 = false ∧ t.vOn m 0 = true ∧ t.vOn m 1 = true ∧ t.vOn m 11 = false ∧ t.vlv.defq = [] ∧
      (t.valve m).ton = s.now) := by
  refine ⟨_, congrArg Host.Outcome.next (if_pos ⟨hbed, hn, hpeak, hend⟩), ?_⟩
  have hnq : n ∉ s.vlv.defq := by
    rw [hq]
    simpa using Ne.symm hm
  obtain ⟨h1, -, hkeep, hv, hdefq⟩ := s.holding_shows n
  have hd := s.holding_drives n
  have hfree : (s.holding n).peakConflict m (s.holding n).now = none := by
    refine State.peakConflict_none (fun c hc _ => ?_) ((hd.part (fun x => x.vlv.evs) fun _ _ => rfl).trans hevs)
    rw [hbank] at hc
    by_cases hcn : c = n
    · rw [hcn, h1]
    · have hcn' : c ∈ bankMates n := ⟨hcn, by
        simp only [bankChannels, List.mem_map, List.mem_range] at hc
        obtain ⟨i, hi, rfl⟩ := hc
        omega⟩
      rw [hd.beside (fun k hk => hk ▸ Ne.symm (bankMates_apart hcn'))]
      simpa [hcn] using List.all_eq_true.mp hone c hc
  have hprop' : (s.holding n).prop m = false := (State.on_congr (hd.cfg m (vlvCtl_addr m) (by decide) (by decide))).trans hprop
  have hfind : (s.holding n).vlv.defq.find? (fun c => decide (c / 4 = n / 4)) = some m := by
    rw [hdefq, hq]
    simp [hbank]
  obtain ⟨hm0, hm1, hm11, hmq, hton⟩ := State.grantPeak_shows hfind hfree hprop'
  refine ⟨(State.peakEndNow_shows hnq).1, hm0, hm1, hm11, hmq.trans ?_, hton.trans (hd.part State.now fun _ _ => rfl)⟩
  rw [hdefq, hq]
  simp

end Sys2Proof.Machine
end

section
/-! SUPPORT. Trips, duty limits, faults and pulses of the valve channels (R314-R321), each by what it carries out. -/

namespace Sys2Proof.Machine

/-! ### Loops -/

/-- A loop whose rounds keep `I` and each establish `P` for their element, and keep it for the others, establishes `P` for every element. -/
theorem foldl_establishes {α σ : Type*} {f : σ → α → σ} {I : σ → Prop} {P : α → σ → Prop} (l : List α) (s : σ) (hI : I s)
    (hkeepI : ∀ x a, a ∈ l → I x → I (f x a)) (hset : ∀ x a, a ∈ l → I x → P a (f x a))
    (hkeep : ∀ x a b, a ∈ l → b ∈ l → I x → P a x → P a (f x b)) : I (l.foldl f s) ∧ ∀ a ∈ l, P a (l.foldl f s) := by
  induction l using List.reverseRecOn with
  | nil => exact ⟨hI, fun a ha => absurd ha (List.not_mem_nil)⟩
  | append_singleton l b ih =>
    obtain ⟨hIl, hPl⟩ := ih (fun x a ha => hkeepI x a (List.mem_append_left _ ha)) (fun x a ha => hset x a (List.mem_append_left _ ha))
      fun x a c ha hc => hkeep x a c (List.mem_append_left _ ha) (List.mem_append_left _ hc)
    have hb : b ∈ l ++ [b] := List.mem_append_right _ (List.mem_singleton_self b)
    rw [List.foldl_append, List.foldl_cons, List.foldl_nil]
    refine ⟨hkeepI _ b hb hIl, fun a ha => ?_⟩
    obtain ha | ha := List.mem_append.mp ha
    · exact hkeep _ a b (List.mem_append_left _ ha) hb hIl (hPl a ha)
    · rw [List.mem_singleton.mp ha]
      exact hset _ b hb hIl

/-- A loop keeps what every round keeps. -/
theorem foldl_keeps {α σ : Type*} {f : σ → α → σ} {I : σ → Prop} (l : List α) (s : σ) (hI : I s) (hkeep : ∀ x a, a ∈ l → I x → I (f x a)) :
    I (l.foldl f s) :=
  (foldl_establishes (P := fun _ _ => True) l s hI hkeep (fun _ _ _ _ => trivial) fun _ _ _ _ _ _ _ => trivial).1

theorem mem_bankChannels {b c : Nat} : c ∈ bankChannels b ↔ c / 4 = b := by
  simp only [bankChannels, List.mem_map, List.mem_range]
  constructor
  · rintro ⟨i, hi, rfl⟩
    omega
  · intro h
    exact ⟨c % 4, by omega, by omega⟩

/-! ### Pulses cut short (R321) -/

theorem State.pulseDone_reg (s : State) (n fl : Nat) {k : Nat} (hk : ¬ entryBlock (k / 0x1000)) : (s.pulseDone n fl).reg k = s.reg k := by
  have hentry (x : State) (tag a b : Nat) : (x.actuation n tag fl a b).reg k = x.reg k :=
    (State.actuation_affects ∅ x n tag fl a b).reg k hk (Set.notMem_empty k)
  unfold State.pulseDone
  dsimp only
  split
  · rfl
  · split
    · rfl
    · split
      · exact hentry _ _ _ _
      · exact hentry _ _ _ _

theorem State.valveCut_cases (s : State) (n : Nat) : ((s.valve n).pulse = none ∧ s.valveCut n = s) ∨
    ((s.valve n).pulse.isSome = true ∧ s.valveCut n = (s.pulseDone n 4).vSet n 15 false) := by
  unfold State.valveCut
  split
  · next h => exact .inr ⟨h, rfl⟩
  · next h => exact .inl ⟨by simpa using h, rfl⟩

theorem State.valveCut_valve (s : State) (n : Nat) : (s.valveCut n).valve n = { s.valve n with pulse := none } := by
  obtain ⟨h, heq⟩ | ⟨-, heq⟩ := s.valveCut_cases n <;> rw [heq]
  · rw [← h]
  · exact (State.vSet_valve _ _ _ _ _).trans (s.pulseDone_valve n 4)

theorem State.valveCut_other (s : State) {n m : Nat} (h : m ≠ n) : (s.valveCut n).valve m = s.valve m := by
  obtain ⟨-, heq⟩ | ⟨-, heq⟩ := s.valveCut_cases n <;> rw [heq]
  exact (State.vSet_valve _ _ _ _ _).trans ((s.pulseDone_drives n 4).valve m h)

theorem State.valveCut_flag (s : State) (n m : Nat) {b : Nat} (hb : b < 32) (h : b ≠ 15) : (s.valveCut n).vOn m b = s.vOn m b := by
  obtain ⟨-, heq⟩ | ⟨-, heq⟩ := s.valveCut_cases n <;> rw [heq]
  exact (State.vOn_vSet_beside _ _ _ _ (by decide) hb h).trans ((s.pulseDone_keeps n 4).1 m b)

theorem State.valveCut_reg (s : State) {n k : Nat} (hk : ¬ entryBlock (k / 0x1000)) (h : k ≠ Reg.VLV_CHn_STAT n) :
    (s.valveCut n).reg k = s.reg k := by
  obtain ⟨-, heq⟩ | ⟨-, heq⟩ := s.valveCut_cases n <;> rw [heq]
  exact (State.reg_wrB_other _ _ h).trans (s.pulseDone_reg n 4 hk)

theorem State.valveCut_defq (s : State) (n : Nat) : (s.valveCut n).vlv.defq = s.vlv.defq := by
  obtain ⟨-, heq⟩ | ⟨-, heq⟩ := s.valveCut_cases n <;> rw [heq]
  exact (congrArg Valves.defq (State.vSet_vlv _ _ _ _)).trans (s.pulseDone_keeps n 4).2

/-- A part of the state that neither pulses nor flags change. -/
theorem State.valveCut_part {α : Sort*} (s : State) (n : Nat) (U : State → α) (hU : ∀ x y : State, U (x.withDrivesOf y) = U x) :
    U (s.valveCut n) = U s := by
  have hflag (x : State) : U (x.vSet n 15 false) = U x := hU x (x.vSet n 15 false)
  obtain ⟨-, heq⟩ | ⟨-, heq⟩ := s.valveCut_cases n <;> rw [heq]
  exact (hflag _).trans ((s.pulseDone_drives n 4).part U hU)

theorem State.valveCut_safeOn (s : State) (n m : Nat) : (s.valveCut n).valveSafeOn m = s.valveSafeOn m := by
  have hfs : (s.valveCut n).fsApplied m = s.fsApplied m := s.valveCut_part n (fun x => x.fsApplied m) fun _ _ => rfl
  unfold State.valveSafeOn
  rw [hfs]
  simp (disch := decide) only [State.valveCut_flag]

theorem State.valveCut_rest (s : State) (n m : Nat) : (s.valveCut n).restLevel m = s.restLevel m := by
  have hfs : (s.valveCut n).fsApplied m = s.fsApplied m := s.valveCut_part n (fun x => x.fsApplied m) fun _ _ => rfl
  unfold State.restLevel
  rw [State.valveCut_safeOn, hfs]

theorem State.setValve_rd (s : State) (n : Nat) (x : Valve) (f : Fld) : (s.setValve n x).rd f = s.rd f := rfl

theorem vlvStat_notShown (c : Nat) : Reg.VLV_CHn_STAT c ∉ ({Reg.VLV_STAT} : Set Nat) := by
  rw [Set.mem_singleton_iff]
  unfold Reg.VLV_CHn_STAT Reg.VLV_STAT
  omega

/-! ### Motion windows (R314, R317) -/

theorem State.vSet_cfg (s : State) (n b : Nat) (v : Bool) (m : Nat) {r : Nat} {f : Fld} (hf : f.addr = 0xB400 + 0x40 * (m % 48) + r)
    (hr : r < 0x40) (h : r ≠ 0x1C) : (s.vSet n b v).rd f = s.rd f :=
  State.rd_congr (State.reg_wrB_other _ _ (hf ▸ vlvCfg_notStat m n hr h))

/-- A window that found the motion. -/
def State.dipMoved (s : State) (n depth us : Nat) : State :=
  ((((s.wrSat (F.VLV_CHn_MOTION_DEPTH n) depth).wrSat (F.VLV_CHn_MOTION_T n) us).setValve n
    { s.valve n with window := none, dip := some (some (depth, us)) }).vSet n 3 true).vSet n 4 false

/-- A window that found none, before it is told. -/
def State.dipNone (s : State) (n : Nat) : State :=
  ((((s.wr (F.VLV_CHn_MOTION_DEPTH n) 0).wr (F.VLV_CHn_MOTION_T n) 0xFFFF).setValve n
    { s.valve n with window := none, dip := some none }).vSet n 4 true).vSet n 3 false

theorem execDipWindowClose_eq {s : State} {n : Nat} {reached : Bool} (depth us : Nat) {w : W32} (hbed : s.bedOn = true) (hn : n < s.code.valves)
    (hw : (s.valve n).window = some w) (hend : reached = true ∨ (s.valve n).ton + getBits w 21 12 * 100000 ≤ s.now) :
    exec (.dipWindowClose n reached depth us) s = .next (if getBits w 11 0 ≤ depth then s.dipMoved n depth us
      else ((s.dipNone n).flag F.VLV_STAT_NOMOVE F.VLV_CTL_IE_DUTY).vlvEntry 1 n none) := by
  refine congrArg Host.Outcome.next ?_
  dsimp only
  rw [hw]
  exact if_pos ⟨hbed, hn, hend⟩

theorem execDipWindowClose_closes {s : State} {n : Nat} (reached : Bool) (depth us : Nat) {w : W32} (hbed : s.bedOn = true) (hn : n < s.code.valves)
    (hw : (s.valve n).window = some w) (hend : reached = true ∨ (s.valve n).ton + getBits w 21 12 * 100000 ≤ s.now) :
    Completes (.dipWindowClose n reached depth us) s (fun t => (t.valve n).window = none ∧
      if getBits w 11 0 ≤ depth then t.vOn n 3 = true ∧ t.vOn n 4 = false ∧ t.rd (F.VLV_CHn_MOTION_DEPTH n) = min depth 65535 ∧
        t.rd (F.VLV_CHn_MOTION_T n) = min us 65535 ∧ (t.valve n).dip = some (some (depth, us))
      else t.vOn n 4 = true ∧ t.vOn n 3 = false ∧ t.rd (F.VLV_CHn_MOTION_DEPTH n) = 0 ∧ t.rd (F.VLV_CHn_MOTION_T n) = 0xFFFF ∧
        t.rd F.VLV_STAT_NOMOVE = 1 ∧ (t.valve n).dip = some none) := by
  refine ⟨_, execDipWindowClose_eq depth us hbed hn hw hend, ?_⟩
  dsimp only
  have hmotion : Reg.VLV_CHn_MOTION n = 0xB400 + 0x40 * (n % 48) + 0x24 := vlvMotion_addr n
  by_cases hmoved : getBits w 11 0 ≤ depth
  · rw [if_pos hmoved, if_pos hmoved]
    have hv : (s.dipMoved n depth us).valve n = { s.valve n with window := none, dip := some (some (depth, us)) } := by
      unfold State.dipMoved
      rw [State.vSet_valve, State.vSet_valve, State.valve_setValve_same]
    unfold State.dipMoved at hv ⊢
    refine ⟨by rw [hv], ?_, State.vOn_vSet_same _ _ _ (by decide), ?_, ?_, by rw [hv]⟩
    · rw [State.vOn_vSet_beside _ _ _ _ (by decide) (by decide) (by decide), State.vOn_vSet_same _ _ _ (by decide)]
    · rw [State.vSet_cfg _ _ _ _ n hmotion (by decide) (by decide), State.vSet_cfg _ _ _ _ n hmotion (by decide) (by decide), State.setValve_rd]
      exact (State.rd_wr_apart _ _ rfl).trans (State.rd_wrSat_same _ _ _ (Fld.hi_lt rfl))
    · rw [State.vSet_cfg _ _ _ _ n hmotion (by decide) (by decide), State.vSet_cfg _ _ _ _ n hmotion (by decide) (by decide), State.setValve_rd]
      exact State.rd_wrSat_same _ _ _ (Fld.hi_lt rfl)
  · rw [if_neg hmoved, if_neg hmoved]
    have htold := (State.AffectsOnly.flag (S := {Reg.VLV_STAT}) (s.dipNone n) (stat := F.VLV_STAT_NOMOVE) F.VLV_CTL_IE_DUTY (.inl rfl)).trans
      (State.DrivesTo.vlvEntry_affects _ _ 1 n none)
    have hmotionKept {f : Fld} (hf : f.addr = Reg.VLV_CHn_MOTION n) : (((s.dipNone n).flag F.VLV_STAT_NOMOVE F.VLV_CTL_IE_DUTY).vlvEntry 1 n none).rd f =
        (s.dipNone n).rd f :=
      htold.rd (notEntry (by rw [hf]; unfold Reg.VLV_CHn_MOTION; omega)) (by
        rw [hf, Set.mem_singleton_iff]
        unfold Reg.VLV_CHn_MOTION Reg.VLV_STAT
        omega)
    have hflagKept (b : Nat) : (((s.dipNone n).flag F.VLV_STAT_NOMOVE F.VLV_CTL_IE_DUTY).vlvEntry 1 n none).vOn n b = (s.dipNone n).vOn n b :=
      htold.on (notEntry_vlvStat n) (by
        rw [Set.mem_singleton_iff]
        simp only [vlvFlag, Reg.VLV_CHn_STAT, Reg.VLV_STAT]
        omega)
    have hv : (((s.dipNone n).flag F.VLV_STAT_NOMOVE F.VLV_CTL_IE_DUTY).vlvEntry 1 n none).valve n =
        { s.valve n with window := none, dip := some none } := by
      rw [State.valve_congr (htold.part (fun x => x.vlv.chs) fun _ _ => rfl)]
      unfold State.dipNone
      rw [State.vSet_valve, State.vSet_valve, State.valve_setValve_same]
    refine ⟨by rw [hv], (hflagKept 4).trans ?_, (hflagKept 3).trans (State.vOn_vSet_same _ _ _ (by decide)), (hmotionKept rfl).trans ?_,
      (hmotionKept rfl).trans ?_, ?_, by rw [hv]⟩
    · unfold State.dipNone
      rw [State.vOn_vSet_beside _ _ _ _ (by decide) (by decide) (by decide), State.vOn_vSet_same _ _ _ (by decide)]
    · unfold State.dipNone
      rw [State.vSet_cfg _ _ _ _ n hmotion (by decide) (by decide), State.vSet_cfg _ _ _ _ n hmotion (by decide) (by decide), State.setValve_rd]
      exact (State.rd_wr_apart _ _ rfl).trans (State.rd_wr_fits _ (Fld.hi_lt rfl) (Nat.two_pow_pos _))
    · unfold State.dipNone
      rw [State.vSet_cfg _ _ _ _ n hmotion (by decide) (by decide), State.vSet_cfg _ _ _ _ n hmotion (by decide) (by decide), State.setValve_rd]
      exact State.rd_wr_fits _ (Fld.hi_lt rfl) (Nat.lt_of_sub_eq_succ (rfl : 2 ^ 16 - 65535 = 1))
    · refine ((State.DrivesTo.vlvEntry_affects ∅ _ 1 n none).rd (notEntry (by decide)) (Set.notMem_empty _)).trans ?_
      exact State.flag_rd_same _ (by decide) rfl

/-! ### Bank trips (R315, R317) -/

theorem State.bankRegs_hson {s : State} {b : Nat} (h : s.on (F.VLV_BANKk_STAT_FAULT b) = true) :
    (s.bankRegs b).on (F.VLV_BANKk_STAT_HSON b) = false := by
  unfold State.bankRegs
  extract_lets cs on peak bits t u
  have ht : t.on (F.VLV_BANKk_STAT_HSON b) = false := (s.on_wrB_same _ rfl rfl).trans (by rw [h]; simp)
  exact (State.on_congr ((State.rd_wr_apart _ _ rfl).trans ((State.rd_wr_apart _ _ rfl).trans
    ((State.rd_wr_apart _ _ rfl).trans (State.rd_wr_apart _ _ rfl))))).trans ht

/-- A channel of a bank that trips: it shows the trip, its pulse is cut and its drive ends. -/
def State.tripped (s : State) (c : Nat) : State := ((s.vSet c 9 true).valveCut c).valveStop c

/-- What a tripped channel shows. -/
def State.TripShown (b c : Nat) (s : State) : Prop :=
  s.vOn c 9 = true ∧ s.vOn c 0 = false ∧ (s.valve c).lvl = 0 ∧ (s.valve c).pulse = none ∧ s.on (F.VLV_BANKk_STAT_HSON b) = false

/-- The trip of a bank is shown. -/
def State.BankTripped (b cause : Nat) (s : State) : Prop :=
  s.rd (F.VLV_BANKk_STAT_FAULT b) = 1 ∧ s.rd (F.VLV_BANKk_STAT_FCAUSE b) = cause

theorem vlvBank_notStat (b n : Nat) : Reg.VLV_BANKk_STAT b ≠ Reg.VLV_CHn_STAT n := by
  unfold Reg.VLV_BANKk_STAT Reg.VLV_CHn_STAT
  omega

theorem notEntry_vlvBank (b : Nat) : ¬ entryBlock (Reg.VLV_BANKk_STAT b / 0x1000) := notEntry (by unfold Reg.VLV_BANKk_STAT; omega)

theorem State.tripped_bank {s : State} {b cause : Nat} (c : Nat) (h : s.BankTripped b cause) : (s.tripped c).BankTripped b cause := by
  have hf := (State.DrivesTo.valveStop (C := {c}) ((s.vSet c 9 true).valveCut c) (Set.mem_singleton c)).fault b
  have hcut {f : Fld} (hf : f.addr = Reg.VLV_BANKk_STAT b) : ((s.vSet c 9 true).valveCut c).rd f = s.rd f :=
    (State.rd_congr (State.valveCut_reg _ (hf ▸ notEntry_vlvBank b) (hf ▸ vlvBank_notStat b c))).trans
      (State.rd_congr (State.reg_wrB_other _ _ (hf ▸ vlvBank_notStat b c)))
  exact ⟨hf.1.trans ((hcut rfl).trans h.1), hf.2.trans ((hcut rfl).trans h.2)⟩

theorem State.tripped_shows {s : State} {b cause c : Nat} (h : s.BankTripped b cause) (hc : c ∈ bankChannels b) : (s.tripped c).TripShown b c := by
  have hbank := State.tripped_bank c h
  have h9 : ((s.vSet c 9 true).valveCut c).vOn c 9 = true :=
    (State.valveCut_flag _ c c (by decide) (by decide)).trans (State.vOn_vSet_same _ _ _ (by decide))
  have hsafe : ((s.vSet c 9 true).valveCut c).valveSafeOn c = false := by
    unfold State.valveSafeOn
    rw [h9]
    simp
  obtain ⟨h0, -, -, -, hv, -⟩ := ((s.vSet c 9 true).valveCut c).valveStop_shows c
  have hd := State.DrivesTo.valveStop (C := {c}) ((s.vSet c 9 true).valveCut c) (Set.mem_singleton c)
  refine ⟨(hd.flag c 9 (by decide) (by unfold driveBit; decide)).trans h9, h0.trans hsafe, ?_, ?_, ?_⟩
  · unfold State.tripped
    rw [hv]
    unfold State.restLevel
    rw [hsafe]
    rfl
  · unfold State.tripped
    rw [hv, State.valveCut_valve]
  · have hfault : (s.tripped c).on (F.VLV_BANKk_STAT_FAULT b) = true := by
      unfold State.on
      rw [hbank.1]
      rfl
    unfold State.tripped at hfault ⊢
    rw [State.valveStop_eq, mem_bankChannels.mp hc] at hfault ⊢
    exact State.bankRegs_hson ((State.on_congr ((State.DrivesTo.bankRegs (C := ∅) _ b).fault b).1).symm.trans hfault)

theorem State.tripped_keeps {s : State} {b cause c e : Nat} (h : s.BankTripped b cause) (hc : c ∈ bankChannels b) (he : e ∈ bankChannels b)
    (hs : s.TripShown b c) : (s.tripped e).TripShown b c := by
  by_cases hce : c = e
  · rw [hce]
    exact State.tripped_shows h he
  have hmate : e ∈ bankMates c := ⟨Ne.symm hce, (mem_bankChannels.mp he).trans (mem_bankChannels.mp hc).symm⟩
  have hd := State.DrivesTo.valveStop (C := {e}) ((s.vSet e 9 true).valveCut e) (Set.mem_singleton e)
  have hflag {k : Nat} (hk : k < 32) (h15 : k ≠ 15) : (s.tripped e).vOn c k = s.vOn c k :=
    (hd.beside (fun m hm => by rw [hm]; exact bankMates_apart hmate) k).trans ((State.valveCut_flag _ e c hk h15).trans
      (State.vOn_vSet_other _ _ _ _ (bankMates_apart hmate)))
  have hv : (s.tripped e).valve c = s.valve c :=
    (hd.valve c hce).trans ((State.valveCut_other _ hce).trans (State.vSet_valve _ _ _ _ _))
  obtain ⟨h9, h0, hl, hp, -⟩ := hs
  exact ⟨(hflag (by decide) (by decide)).trans h9, (hflag (by decide) (by decide)).trans h0, by rw [hv, hl], by rw [hv, hp],
    (State.tripped_shows h he).2.2.2.2⟩

theorem execBankTrip_trips {s : State} {b cause : Nat} (hbed : s.bedOn = true) (hb : 4 * b < s.code.valves) (hcause : cause = 1 ∨ cause = 2)
    (hon : s.on (F.VLV_BANKk_STAT_HSON b) = true) :
    Completes (.bankTrip b cause) s (fun t => t.on (F.VLV_BANKk_STAT_FAULT b) = true ∧ t.rd (F.VLV_BANKk_STAT_FCAUSE b) = cause ∧
      t.on (F.VLV_BANKk_STAT_HSON b) = false ∧ t.rd F.VLV_STAT_BANKFLT = 1 ∧
      (bankChannels b).all (fun c => t.vOn c 9 && !t.vOn c 0 && decide ((t.valve c).lvl = 0) && decide ((t.valve c).pulse = none)) = true) := by
  refine ⟨(((bankChannels b).foldl State.tripped ((s.wr (F.VLV_BANKk_STAT_FAULT b) 1).wr (F.VLV_BANKk_STAT_FCAUSE b) cause)).flag
    F.VLV_STAT_BANKFLT F.VLV_CTL_IE_BANK).vlvEvent 4 b sevFault (some cause), congrArg Host.Outcome.next (if_pos ⟨hbed, hb, hcause, hon⟩), ?_⟩
  have h0 : ((s.wr (F.VLV_BANKk_STAT_FAULT b) 1).wr (F.VLV_BANKk_STAT_FCAUSE b) cause).BankTripped b cause :=
    ⟨(State.rd_wr_apart _ _ rfl).trans (State.rd_wr_fits _ (Fld.hi_lt rfl) Nat.one_lt_two),
      State.rd_wr_fits _ (Fld.hi_lt rfl) (show cause < 2 ^ 2 by omega)⟩
  obtain ⟨hI, hP⟩ := foldl_establishes (f := State.tripped) (P := State.TripShown b) (bankChannels b) _ h0
    (fun x c _ hx => State.tripped_bank c hx) (fun x c hc hx => State.tripped_shows hx hc) fun x c e hc he hx hs => State.tripped_keeps hx hc he hs
  generalize (bankChannels b).foldl State.tripped ((s.wr (F.VLV_BANKk_STAT_FAULT b) 1).wr (F.VLV_BANKk_STAT_FCAUSE b) cause) = t at hI hP
  have htold := (State.AffectsOnly.flag (S := {Reg.VLV_STAT}) t (stat := F.VLV_STAT_BANKFLT) F.VLV_CTL_IE_BANK (.inl rfl)).trans
    (State.DrivesTo.vlvEvent_affects _ _ 4 b sevFault (some cause))
  have hevent := State.DrivesTo.vlvEvent_affects ∅ (t.flag F.VLV_STAT_BANKFLT F.VLV_CTL_IE_BANK) 4 b sevFault (some cause)
  generalize (t.flag F.VLV_STAT_BANKFLT F.VLV_CTL_IE_BANK).vlvEvent 4 b sevFault (some cause) = u at htold hevent
  have hbank {f : Fld} (hf : f.addr = Reg.VLV_BANKk_STAT b) : u.rd f = t.rd f := htold.rd (hf ▸ notEntry_vlvBank b) (by
    rw [hf, Set.mem_singleton_iff]
    unfold Reg.VLV_BANKk_STAT Reg.VLV_STAT
    omega)
  have hflag (c k : Nat) : u.vOn c k = t.vOn c k := htold.on (notEntry_vlvStat c) (vlvStat_notShown c)
  have hv (c : Nat) : u.valve c = t.valve c := State.valve_congr (htold.part (fun x => x.vlv.chs) fun _ _ => rfl) c
  refine ⟨?_, (hbank rfl).trans hI.2, ?_, ?_, ?_⟩
  · refine (State.on_congr (hbank rfl)).trans ?_
    unfold State.on
    rw [hI.1]
    rfl
  · exact (State.on_congr (hbank rfl)).trans (hP (4 * b) (mem_bankChannels.mpr (by omega))).2.2.2.2
  · exact (hevent.rd (notEntry (by decide)) (Set.notMem_empty _)).trans (State.flag_rd_same t (by decide) rfl)
  · rw [List.all_eq_true]
    intro c hc
    obtain ⟨h9, hoff, hl, hp, -⟩ := hP c hc
    rw [hflag, hflag, hv, h9, hoff, hl, hp]
    rfl

/-- Turning on again the channels of a bank whose trip is cleared. -/
theorem State.valveResume_drives (s : State) (n : Nat) : State.DrivesTo (bankOf n) s (s.valveResume n) := s.valveFollow_drives n

theorem State.bankClear_shows {s : State} {b : Nat} (h : s.on (F.VLV_BANKk_STAT_FAULT b) = true) :
    (s.bankClear b).resp = s.resp ∧ (s.bankClear b).on (F.VLV_BANKk_STAT_FAULT b) = false ∧
      ∀ c ∈ bankChannels b, (s.bankClear b).vOn c 9 = false := by
  unfold State.bankClear
  rw [if_pos h]
  extract_lets t u
  have ht : t.on (F.VLV_BANKk_STAT_FAULT b) = false :=
    (State.on_congr (State.rd_wr_apart _ _ rfl)).trans (s.on_wr_zero (Fld.hi_lt rfl))
  have htr : t.resp = s.resp := rfl
  clear_value t
  have hu : (u.resp = s.resp ∧ u.on (F.VLV_BANKk_STAT_FAULT b) = false) ∧ ∀ c ∈ bankChannels b, u.vOn c 9 = false := by
    refine foldl_establishes (I := fun x : State => x.resp = s.resp ∧ x.on (F.VLV_BANKk_STAT_FAULT b) = false)
      (P := fun c (x : State) => x.vOn c 9 = false) _ _ ⟨htr, ht⟩ (fun x c _ hx => ⟨hx.1, ?_⟩)
      (fun x c _ _ => x.vOn_vSet_same c false (by decide)) fun x c e _ _ _ hx => ?_
    · exact (State.on_congr (State.rd_congr (State.reg_wrB_other _ _ (vlvBank_notStat b c)))).trans hx.2
    · by_cases hce : Reg.VLV_CHn_STAT c = Reg.VLV_CHn_STAT e
      · have : (x.vSet e 9 false).vOn c 9 = (x.vSet e 9 false).vOn e 9 := by
          unfold State.vOn vlvFlag
          rw [hce]
        rw [this]
        exact x.vOn_vSet_same e false (by decide)
      · exact (State.on_congr (State.rd_congr (State.reg_wrB_other _ _ hce))).trans hx
  clear_value u
  obtain ⟨⟨hur, huf⟩, hu9⟩ := hu
  have hall : State.DrivesTo Set.univ u ((bankChannels b).foldl (fun x c => x.valveResume c) (u.bankRegs b)) :=
    (State.DrivesTo.bankRegs u b).trans (.foldl _ (fun x c => (x.valveResume_drives c).mono (Set.subset_univ _)) _ _)
  exact ⟨(hall.part State.resp fun _ _ => rfl).trans hur, (State.on_congr (hall.fault b).1).trans huf,
    fun c hc => (hall.flag c 9 (by decide) (by unfold driveBit; decide)).trans (hu9 c hc)⟩

theorem execBankFaultClear_clears {s : State} {a : Agent} {b : Nat} (hb : b < 12) (hacc : s.accepts a 0x0B (0x080 + 8 * b) = true) :
    Completes (.bankFaultClear a b) s (fun t => t.resp = .done ∧ t.on (F.VLV_BANKk_STAT_FAULT b) = false ∧
      (s.on (F.VLV_BANKk_STAT_FAULT b) = true → (bankChannels b).all (fun c => !t.vOn c 9) = true) ∧
      (s.on (F.VLV_BANKk_STAT_FAULT b) = false → t = s.done)) := by
  refine ⟨s.done.bankClear b, congrArg Host.Outcome.next ((if_pos hb).trans (by rw [State.gate_accepts _ hacc])), ?_⟩
  by_cases h : s.on (F.VLV_BANKk_STAT_FAULT b) = true
  · obtain ⟨hresp, hf, h9⟩ := State.bankClear_shows (s := s.done) h
    refine ⟨hresp, hf, fun _ => ?_, fun h' => absurd (h.symm.trans h') (by decide)⟩
    rw [List.all_eq_true]
    intro c hc
    rw [h9 c hc]
    rfl
  · have hoff : s.on (F.VLV_BANKk_STAT_FAULT b) = false := eq_false_of_ne_true h
    have heq : s.done.bankClear b = s.done := if_neg h
    rw [heq]
    exact ⟨rfl, hoff, fun h' => absurd h' h, fun _ => rfl⟩

end Sys2Proof.Machine
end

section
/-! SUPPORT. Duty limits, channel faults and the ends of pulses of the valve channels (R318-R321), each by what it carries out. -/

namespace Sys2Proof.Machine

/-! ### Duty limits (R318) -/

/-- The heating of a channel shown, and its limit flag set to `v`. -/
def State.dutyShown (s : State) (n h : Nat) (v : Bool) : State :=
  (s.measured (F.VLV_CHn_DUTYUSE_USE n) (F.VLV_CHn_DUTYUSE_PEAK n) h).vSet n 5 v

theorem State.measured_reg (s : State) {last peak : Fld} (v : Nat) {k : Nat} (hl : k ≠ last.addr) (hp : k ≠ peak.addr) :
    (s.measured last peak v).reg k = s.reg k := (State.reg_wr_other _ _ hp).trans (s.reg_wr_other _ hl)

theorem vlvDutyuse_notStat (n m : Nat) : Reg.VLV_CHn_STAT m ≠ Reg.VLV_CHn_DUTYUSE n := by
  unfold Reg.VLV_CHn_STAT Reg.VLV_CHn_DUTYUSE
  omega

section
variable (s : State) (n h : Nat) (v : Bool)

theorem State.dutyShown_vlv : (s.dutyShown n h v).vlv = s.vlv := State.vSet_vlv _ _ _ _

theorem State.dutyShown_valve (m : Nat) : (s.dutyShown n h v).valve m = s.valve m := State.valve_congr (by rw [State.dutyShown_vlv]) m

theorem State.dutyShown_limit : (s.dutyShown n h v).vOn n 5 = v := State.vOn_vSet_same _ _ _ (by decide)

theorem State.dutyShown_flag (m : Nat) {b : Nat} (hb : b < 32) (hne : b ≠ 5) : (s.dutyShown n h v).vOn m b = s.vOn m b :=
  (State.vOn_vSet_beside _ n m v (by decide) hb hne).trans
    (State.on_congr (State.rd_congr (s.measured_reg h (vlvDutyuse_notStat n m) (vlvDutyuse_notStat n m))))

theorem State.dutyShown_use : (s.dutyShown n h v).rd (F.VLV_CHn_DUTYUSE_USE n) = min h 65535 :=
  (State.vSet_cfg _ n 5 v n (vlvDutyuse_addr n) (by decide) (by decide)).trans
    ((State.rd_wr_apart _ _ rfl).trans (s.rd_wrSat_same _ h (Fld.hi_lt rfl)))

theorem State.dutyShown_cfg (m : Nat) {r : Nat} {f : Fld} (hf : f.addr = 0xB400 + 0x40 * (m % 48) + r) (hr : r < 0x28) (hne : r ≠ 0x1C) :
    (s.dutyShown n h v).rd f = s.rd f :=
  (State.vSet_cfg _ n 5 v m hf (by omega) hne).trans (State.rd_congr (s.measured_reg h
    (by rw [hf]; simp only [F.VLV_CHn_DUTYUSE_USE, Reg.VLV_CHn_DUTYUSE]; omega)
    (by rw [hf]; simp only [F.VLV_CHn_DUTYUSE_PEAK, Reg.VLV_CHn_DUTYUSE]; omega)))

theorem State.dutyShown_safeOn : (s.dutyShown n h v).valveSafeOn n = s.valveSafeOn n := by
  unfold State.valveSafeOn
  simp (disch := decide) only [State.dutyShown_flag]
  rfl

theorem State.dutyShown_rest : (s.dutyShown n h v).restLevel n = s.restLevel n := by
  unfold State.restLevel
  rw [State.dutyShown_safeOn]
  rfl

end

/-- What a channel's drive becomes under its limit: off where ACT is OFF, its hold level where it is HOLD. -/
def State.dutyLimited (t : State) (act : Bool) (n : Nat) : State :=
  if act then (t.valveCut n).valveOff n
  else if t.vOn n 1 then t.peakEndNow n
  else if t.vOn n 0 ∧ t.prop n then t.setValve n { t.valve n with lvl := t.propLevel n }
  else if t.vOn n 11 then t.undefer n
  else t

theorem execDutyLimitEntry_eq {s : State} {n h : Nat} (hbed : s.bedOn = true) (hn : n < s.code.valves)
    (hen : s.on (F.VLV_CHn_DUTY_EN n) = true) (hnot : s.vOn n 5 = false) (hlim : s.rd (F.VLV_CHn_DUTY_LIMIT n) * 256 ≤ h) :
    exec (.dutyLimitEntry n h) s = .next ((((s.dutyShown n h true).dutyLimited (s.on (F.VLV_CHn_DUTY_ACT n)) n).flag
      F.VLV_STAT_DUTYLIM F.VLV_CTL_IE_DUTY).vlvEntry 2 n none) :=
  congrArg Host.Outcome.next (if_pos ⟨hbed, hn, hen, hnot, hlim⟩)

theorem State.peakEndNow_drives (s : State) (n : Nat) : State.DrivesTo (bankOf n) s (s.peakEndNow n) :=
  ((s.holding_drives n).mono fun m hm => by rw [hm]; exact rfl).trans (.grantPeak _ _ fun _ _ h => h)

/-- The limit flag and the heating shown stay when the drive follows. -/
theorem State.dutyLimited_keeps (t : State) (act : Bool) (n : Nat) : (t.dutyLimited act n).vOn n 5 = t.vOn n 5 ∧
    (t.dutyLimited act n).rd (F.VLV_CHn_DUTYUSE_USE n) = t.rd (F.VLV_CHn_DUTYUSE_USE n) := by
  have hdrive {u x : State} (h : State.DrivesTo (bankOf n) u x) : x.vOn n 5 = u.vOn n 5 ∧
      x.rd (F.VLV_CHn_DUTYUSE_USE n) = u.rd (F.VLV_CHn_DUTYUSE_USE n) :=
    ⟨h.flag n 5 (by decide) (by unfold driveBit; decide), h.cfg n (vlvDutyuse_addr n) (by decide) (by decide)⟩
  unfold State.dutyLimited
  split
  · obtain ⟨h5, huse⟩ := hdrive ((t.valveCut n).valveOff_drives n)
    exact ⟨h5.trans (t.valveCut_flag n n (by decide) (by decide)), huse.trans (State.rd_congr (t.valveCut_reg
      (notEntry (by simp only [F.VLV_CHn_DUTYUSE_USE, Reg.VLV_CHn_DUTYUSE]; omega)) (vlvDutyuse_notStat n n).symm))⟩
  split
  · exact hdrive (t.peakEndNow_drives n)
  split
  · exact hdrive (.setValve t _ rfl)
  split
  · exact hdrive (.undefer t rfl)
  · exact ⟨rfl, rfl⟩

/-- What the message of a limit leaves alone. -/
theorem State.dutyTold_keeps (y : State) (n : Nat) : State.AffectsOnly {Reg.VLV_STAT} y ((y.flag F.VLV_STAT_DUTYLIM F.VLV_CTL_IE_DUTY).vlvEntry 2 n none) :=
  (State.AffectsOnly.flag (S := {Reg.VLV_STAT}) y (stat := F.VLV_STAT_DUTYLIM) _ (.inl rfl)).trans (State.DrivesTo.vlvEntry_affects _ _ 2 n none)

theorem State.dutyTold_shows (y : State) (n : Nat) : ((y.flag F.VLV_STAT_DUTYLIM F.VLV_CTL_IE_DUTY).vlvEntry 2 n none).rd F.VLV_STAT_DUTYLIM = 1 ∧
    (∀ b, ((y.flag F.VLV_STAT_DUTYLIM F.VLV_CTL_IE_DUTY).vlvEntry 2 n none).vOn n b = y.vOn n b) ∧
    ((y.flag F.VLV_STAT_DUTYLIM F.VLV_CTL_IE_DUTY).vlvEntry 2 n none).rd (F.VLV_CHn_DUTYUSE_USE n) = y.rd (F.VLV_CHn_DUTYUSE_USE n) ∧
    ((y.flag F.VLV_STAT_DUTYLIM F.VLV_CTL_IE_DUTY).vlvEntry 2 n none).vlv = y.vlv := by
  have h := y.dutyTold_keeps n
  refine ⟨?_, fun b => h.on (notEntry_vlvStat n) (vlvStat_notShown n), h.rd (notEntry ?_) ?_, h.part State.vlv fun _ _ => rfl⟩
  · exact ((State.DrivesTo.vlvEntry_affects ∅ _ 2 n none).rd (notEntry (by decide)) (Set.notMem_empty _)).trans (State.flag_rd_same y (by decide) rfl)
  · simp only [F.VLV_CHn_DUTYUSE_USE, Reg.VLV_CHn_DUTYUSE]
    omega
  · simp only [F.VLV_CHn_DUTYUSE_USE, Reg.VLV_CHn_DUTYUSE, Set.mem_singleton_iff, Reg.VLV_STAT]
    omega

theorem execDutyLimitEntry_limits {s : State} {n h : Nat} (hbed : s.bedOn = true) (hn : n < s.code.valves)
    (hen : s.on (F.VLV_CHn_DUTY_EN n) = true) (hnot : s.vOn n 5 = false) (hlim : s.rd (F.VLV_CHn_DUTY_LIMIT n) * 256 ≤ h)
    (hq : s.vlv.defq.contains n = false) :
    Completes (.dutyLimitEntry n h) s (fun t => t.vOn n 5 = true ∧ t.rd F.VLV_STAT_DUTYLIM = 1 ∧ t.rd (F.VLV_CHn_DUTYUSE_USE n) = min h 65535 ∧
      (s.on (F.VLV_CHn_DUTY_ACT n) = true → t.vOn n 0 = s.valveSafeOn n ∧
        (t.valve n).lvl = (if s.valveSafeOn n = true then safeLevel (s.fsApplied n) else 0) ∧ (t.valve n).pulse = none) ∧
      (s.on (F.VLV_CHn_DUTY_ACT n) = false → s.vOn n 1 = true → t.vOn n 1 = false ∧ t.vOn n 2 = true ∧
        (t.valve n).lvl = s.rd (F.VLV_CHn_HOLD_IHOLD n))) := by
  refine ⟨_, execDutyLimitEntry_eq hbed hn hen hnot hlim, ?_⟩
  dsimp only
  obtain ⟨h5, huse⟩ := (s.dutyShown n h true).dutyLimited_keeps (s.on (F.VLV_CHn_DUTY_ACT n)) n
  obtain ⟨hshown, hflag, htolduse, hvlv⟩ := ((s.dutyShown n h true).dutyLimited (s.on (F.VLV_CHn_DUTY_ACT n)) n).dutyTold_shows n
  have hnq : n ∉ (s.dutyShown n h true).vlv.defq := by
    rw [State.dutyShown_vlv]
    simpa using hq
  have hv := State.valve_congr (congrArg Valves.chs hvlv) n
  refine ⟨(hflag 5).trans (h5.trans (s.dutyShown_limit n h true)), hshown, htolduse.trans (huse.trans (s.dutyShown_use n h true)),
    fun hact => ?_, fun hact h1 => ?_⟩
  · have heq : (s.dutyShown n h true).dutyLimited (s.on (F.VLV_CHn_DUTY_ACT n)) n = ((s.dutyShown n h true).valveCut n).valveOff n := if_pos hact
    rw [hflag, hv, heq]
    obtain ⟨h0, -, -, -, hx⟩ := State.valveOff_shows (s := (s.dutyShown n h true).valveCut n) (n := n)
      (.inr (by rw [State.valveCut_defq]; exact hnq))
    rw [h0, hx]
    refine ⟨(State.valveCut_safeOn _ _ _).trans (s.dutyShown_safeOn n h true), ?_, ?_⟩
    · exact (State.valveCut_rest _ _ _).trans (s.dutyShown_rest n h true)
    · exact congrArg Valve.pulse (State.valveCut_valve _ _)
  · have heq : (s.dutyShown n h true).dutyLimited (s.on (F.VLV_CHn_DUTY_ACT n)) n = (s.dutyShown n h true).peakEndNow n :=
      (if_neg (by rw [hact]; decide)).trans (if_pos ((s.dutyShown_flag n h true n (by decide) (by decide)).trans h1))
    rw [hflag, hflag, hv, heq]
    obtain ⟨hp1, hp2, -, hx⟩ := State.peakEndNow_shows hnq
    refine ⟨hp1, hp2, ?_⟩
    rw [hx]
    exact s.dutyShown_cfg n h true n (vlvHold_addr n) (by decide) (by decide)

theorem execDutyLimitEntry_undefers {s : State} {n h : Nat} (hbed : s.bedOn = true) (hn : n < s.code.valves)
    (hen : s.on (F.VLV_CHn_DUTY_EN n) = true) (hnot : s.vOn n 5 = false) (hlim : s.rd (F.VLV_CHn_DUTY_LIMIT n) * 256 ≤ h)
    (hact : s.on (F.VLV_CHn_DUTY_ACT n) = false) (h11 : s.vOn n 11 = true) (h1 : s.vOn n 1 = false) (h0 : s.vOn n 0 = false) :
    Completes (.dutyLimitEntry n h) s (fun t => t.vOn n 5 = true ∧ t.rd F.VLV_STAT_DUTYLIM = 1 ∧ t.vOn n 11 = false ∧ t.vOn n 0 = false ∧
      t.vlv.defq.contains n = false) := by
  refine ⟨_, execDutyLimitEntry_eq hbed hn hen hnot hlim, ?_⟩
  dsimp only
  obtain ⟨h5, -⟩ := (s.dutyShown n h true).dutyLimited_keeps (s.on (F.VLV_CHn_DUTY_ACT n)) n
  obtain ⟨hshown, hflag, -, hvlv⟩ := ((s.dutyShown n h true).dutyLimited (s.on (F.VLV_CHn_DUTY_ACT n)) n).dutyTold_shows n
  have hs (b : Nat) (hb : b < 32) (hne : b ≠ 5) := s.dutyShown_flag n h true n hb hne
  have heq : (s.dutyShown n h true).dutyLimited (s.on (F.VLV_CHn_DUTY_ACT n)) n = (s.dutyShown n h true).undefer n := by
    have h1' := (hs 1 (by decide) (by decide)).trans h1
    have h0' := (hs 0 (by decide) (by decide)).trans h0
    have h11' := (hs 11 (by decide) (by decide)).trans h11
    simp [State.dutyLimited, hact, h1', h0', h11']
  refine ⟨(hflag 5).trans (h5.trans (s.dutyShown_limit n h true)), hshown, ?_, ?_, ?_⟩
  · rw [hflag, heq, State.undefer_defer]
  · rw [hflag, heq, State.undefer_vOn _ _ _ (by decide) (by decide), hs 0 (by decide) (by decide), h0]
  · rw [hvlv, heq, State.undefer_defq]
    simp

theorem execDutyLimitExit_ends {s : State} {n h : Nat} (hbed : s.bedOn = true) (hn : n < s.code.valves) (h5 : s.vOn n 5 = true)
    (hlim : h < s.rd (F.VLV_CHn_DUTY_LIMIT n) * 7 * 256) :
    Completes (.dutyLimitExit n h) s (fun t => t.vOn n 5 = false ∧ t.vOn n 15 = s.vOn n 15 ∧ t.rd (F.VLV_CHn_DUTYUSE_USE n) = min h 65535) := by
  refine ⟨(s.dutyShown n h false).valveResume n, congrArg Host.Outcome.next (if_pos ⟨hbed, hn, h5, hlim⟩), ?_⟩
  have hd := (s.dutyShown n h false).valveResume_drives n
  exact ⟨(hd.flag n 5 (by decide) (by unfold driveBit; decide)).trans (s.dutyShown_limit n h false),
    (hd.flag n 15 (by decide) (by unfold driveBit; decide)).trans (s.dutyShown_flag n h false n (by decide) (by decide)),
    (hd.cfg n (vlvDutyuse_addr n) (by decide) (by decide)).trans (s.dutyShown_use n h false)⟩

/-! ### Channel faults (R319) -/

/-- No pulse of channel `n` runs. -/
def State.NoPulse (n : Nat) (s : State) : Prop := (s.valve n).pulse = none

theorem State.setValve_noPulse {s : State} {n m : Nat} {x : Valve} (hx : n = m → x.pulse = none) (h : s.NoPulse n) : (s.setValve m x).NoPulse n := by
  unfold State.NoPulse
  by_cases hnm : n = m
  · rw [← hnm, State.valve_setValve_same]
    exact hx hnm
  · rw [State.valve_setValve_other _ _ hnm]
    exact h

/-- Turning on leaves a pulse of the channel as it was. -/
theorem State.valveStart_pulse (s : State) (n : Nat) : ((s.valveStart n).valve n).pulse = (s.valve n).pulse := by
  unfold State.valveStart
  extract_lets x sp t w y u
  split <;> rw [State.bankRegs_valve, (State.actuate_keeps _ n).2.1, State.valve_setValve_same]

theorem State.valveStart_noPulse {s : State} {n : Nat} (m : Nat) (h : s.NoPulse n) : (s.valveStart m).NoPulse n := by
  by_cases hnm : n = m
  · rw [← hnm]
    exact (s.valveStart_pulse n).trans h
  · exact (congrArg Valve.pulse ((State.DrivesTo.valveStart (C := {m}) s (Set.mem_singleton m)).valve n hnm)).trans h

theorem State.grantPeak_noPulse {s : State} {n : Nat} (b : Nat) (h : s.NoPulse n) : (s.grantPeak b).NoPulse n := by
  unfold State.grantPeak
  split
  · next m _ =>
    split
    · have hstart := State.valveStart_noPulse m (show (s.undefer m).NoPulse n from (congrArg Valve.pulse (s.undefer_valve m n)).trans h)
      refine State.setValve_noPulse (fun hnm => ?_) hstart
      rw [← hnm]
      dsimp only
      rw [show ((((s.undefer n).valveStart n).valve n).pulse) = none from hnm ▸ hstart]
      rfl
    · exact h
  · exact h

theorem State.valveStop_noPulse {s : State} {n : Nat} (m : Nat) (h : s.NoPulse n) : (s.valveStop m).NoPulse n := by
  unfold State.NoPulse
  by_cases hnm : n = m
  · rw [← hnm, (s.valveStop_shows n).2.2.2.2.1]
    exact h
  · rw [(State.DrivesTo.valveStop (C := {m}) s (Set.mem_singleton m)).valve n hnm]
    exact h

theorem State.valveOff_noPulse {s : State} {n : Nat} (m : Nat) (h : s.NoPulse n) : (s.valveOff m).NoPulse n :=
  State.grantPeak_noPulse _ (State.valveStop_noPulse m h)

theorem State.valveCut_noPulse (s : State) (n : Nat) : (s.valveCut n).NoPulse n := congrArg Valve.pulse (s.valveCut_valve n)

theorem State.valveCut_keepsNoPulse {s : State} {n : Nat} (m : Nat) (h : s.NoPulse n) : (s.valveCut m).NoPulse n := by
  by_cases hnm : n = m
  · rw [hnm]
    exact s.valveCut_noPulse m
  · exact (congrArg Valve.pulse (s.valveCut_other hnm)).trans h

/-- A fault of channel `n` shown in its flag and in the map. -/
def State.faultShown (s : State) (n flag : Nat) : State := (s.vSet n flag true).mapBit Reg.VLV_FLTMAP_LO n true

theorem vlvStat_notFltmap (m i : Nat) : Reg.VLV_CHn_STAT m ≠ Reg.VLV_FLTMAP_LO + 4 * (i / 32 % 4) := by
  unfold Reg.VLV_CHn_STAT Reg.VLV_FLTMAP_LO
  omega

/-- The flags of a channel lie outside the maps. -/
theorem State.mapBit_vOn (s : State) (i : Nat) (v : Bool) (m b : Nat) : (s.mapBit Reg.VLV_FLTMAP_LO i v).vOn m b = s.vOn m b :=
  State.on_congr (State.rd_congr (State.reg_wrB_other _ _ (vlvStat_notFltmap m i)))

theorem State.mapOn_congr {s t : State} {base q : Nat} (h : t.reg (base + 4 * (q / 32 % 4)) = s.reg (base + 4 * (q / 32 % 4))) :
    t.mapOn base q = s.mapOn base q := State.on_congr (State.rd_congr h)

/-- A bit of a map set stays set when another one is set. -/
theorem State.mapOn_mapBit_stays (s : State) {base : Nat} (q p : Nat) (h : s.mapOn base q = true) : (s.mapBit base p true).mapOn base q = true := by
  by_cases hw : q / 32 % 4 = p / 32 % 4
  · by_cases hb : q % 32 = p % 32
    · have heq : (s.mapBit base p true).mapOn base q = (s.mapBit base p true).mapOn base p := by
        unfold State.mapOn
        rw [hw, hb]
      rw [heq]
      exact s.mapOn_mapBit_true base p
    · refine (State.on_congr (s.rd_wr_beside _ (Nat.mod_lt _ (by decide)) (Nat.mod_lt _ (by decide)) ?_)).trans h
      dsimp only
      omega
  · exact (State.mapOn_congr (State.reg_wrB_other _ _ (by dsimp only; omega))).trans h

/-- A flag of a channel set stays set when that of another is set. -/
theorem State.vOn_vSet_stays (s : State) (m n : Nat) {b : Nat} (hb : b < 32) (h : s.vOn m b = true) : (s.vSet n b true).vOn m b = true := by
  by_cases hmn : Reg.VLV_CHn_STAT m = Reg.VLV_CHn_STAT n
  · have heq : (s.vSet n b true).vOn m b = (s.vSet n b true).vOn n b := by
      unfold State.vOn vlvFlag
      rw [hmn]
    rw [heq]
    exact s.vOn_vSet_same n true hb
  · exact (State.on_congr (State.rd_congr (State.reg_wrB_other _ _ hmn))).trans h

/-- A channel fault is told. -/
def State.chfltTold (s : State) (n : Nat) : State := (s.flag F.VLV_STAT_CHFLT F.VLV_CTL_IE_CHFLT).vlvEvent 3 n sevFault none

theorem State.valveFault_eq (s : State) (n flag : Nat) : s.valveFault n flag = (((s.faultShown n flag).valveCut n).valveOff n).chfltTold n := rfl

theorem State.chfltTold_affects (s : State) (n : Nat) : State.AffectsOnly {Reg.VLV_STAT} s (s.chfltTold n) :=
  (State.AffectsOnly.flag (S := {Reg.VLV_STAT}) s (stat := F.VLV_STAT_CHFLT) _ (.inl rfl)).trans (State.DrivesTo.vlvEvent_affects _ _ 3 n sevFault none)

theorem State.chfltTold_shows (s : State) (n : Nat) : (s.chfltTold n).rd F.VLV_STAT_CHFLT = 1 :=
  ((State.DrivesTo.vlvEvent_affects ∅ _ 3 n sevFault none).rd (notEntry (by decide)) (Set.notMem_empty _)).trans (State.flag_rd_same s (by decide) rfl)

/-- The flags of faults stay when a faulted channel is cut and told. -/
theorem State.faultTail_flag (t : State) (n m : Nat) {b : Nat} (hb : b < 32) (hd : ¬ driveBit b) (h15 : b ≠ 15) :
    (((t.valveCut n).valveOff n).chfltTold n).vOn m b = t.vOn m b :=
  ((State.chfltTold_affects _ n).on (notEntry_vlvStat m) (vlvStat_notShown m)).trans
    ((((t.valveCut n).valveOff_drives n).flag m b hb hd).trans (t.valveCut_flag n m hb h15))

/-- A register of block VLV below the channels: the maps, the Trowels' states and the set-up. -/
structure vlvKept (k : Nat) : Prop where
  low : k < 0xB400
  block : k / 0x1000 = 0xB
  notStat : k ≠ Reg.VLV_STAT
  notConf : k ≠ Reg.VLV_CONFCNT
  notBank : k % 8 ≠ 0 ∨ k < 0xB080 ∨ 0xB0E0 ≤ k

theorem vlvKept_fltmap (q : Nat) : vlvKept (Reg.VLV_FLTMAP_LO + 4 * (q / 32 % 4)) := by
  unfold Reg.VLV_FLTMAP_LO
  constructor <;> (try unfold Reg.VLV_STAT) <;> (try unfold Reg.VLV_CONFCNT) <;> omega

theorem vlvKept_trowel (j : Nat) : vlvKept (Reg.VLV_TRWj_STAT j) := by
  unfold Reg.VLV_TRWj_STAT
  constructor <;> (try unfold Reg.VLV_STAT) <;> (try unfold Reg.VLV_CONFCNT) <;> omega

theorem State.DrivesTo.kept {C : Set Nat} {s t : State} (h : State.DrivesTo C s t) {k : Nat} (hk : vlvKept k) : t.reg k = s.reg k :=
  h.reg k (notEntry (by have := hk.block; omega)) (notDriven_low hk.low hk.notStat hk.notConf hk.notBank)

theorem State.faultTail_reg (t : State) (n : Nat) {k : Nat} (hk : vlvKept k) : (((t.valveCut n).valveOff n).chfltTold n).reg k = t.reg k := by
  have hblock := hk.block
  have hlow := hk.low
  refine ((State.chfltTold_affects _ n).reg k (notEntry (by omega)) hk.notStat).trans ((((t.valveCut n).valveOff_drives n).kept hk).trans
    (t.valveCut_reg (notEntry (by omega)) ?_))
  unfold Reg.VLV_CHn_STAT
  omega

theorem State.faultTail_noPulse {t : State} (n m : Nat) (h : n = m ∨ t.NoPulse m) : (((t.valveCut n).valveOff n).chfltTold n).NoPulse m := by
  refine (congrArg Valve.pulse (State.valve_congr ((State.chfltTold_affects _ n).part (fun x => x.vlv.chs) fun _ _ => rfl) m)).trans ?_
  refine State.valveOff_noPulse n ?_
  obtain h | h := h
  · rw [h]
    exact t.valveCut_noPulse m
  · exact State.valveCut_keepsNoPulse n h

/-- A channel is held off by a fault. -/
structure State.FaultHeld (m flag : Nat) (s : State) : Prop where
  told : s.rd F.VLV_STAT_CHFLT = 1
  map : s.mapOn Reg.VLV_FLTMAP_LO m = true
  flag : s.vOn m flag = true
  pulse : s.NoPulse m

theorem faultFlag_notDriven {flag : Nat} (h : 6 ≤ flag ∧ flag ≤ 8) : flag < 32 ∧ ¬ driveBit flag ∧ flag ≠ 15 := by
  unfold driveBit
  omega

theorem State.valveFault_holds (s : State) (n : Nat) {flag : Nat} (h : 6 ≤ flag ∧ flag ≤ 8) : (s.valveFault n flag).FaultHeld n flag := by
  obtain ⟨h32, hd, h15⟩ := faultFlag_notDriven h
  rw [State.valveFault_eq]
  refine ⟨State.chfltTold_shows _ n, ?_, ?_, State.faultTail_noPulse n n (.inl rfl)⟩
  · exact (State.mapOn_congr (State.faultTail_reg _ n (vlvKept_fltmap n))).trans (State.mapOn_mapBit_true _ _ _)
  · exact (State.faultTail_flag _ n n h32 hd h15).trans ((State.mapBit_vOn _ _ _ _ _).trans (s.vOn_vSet_same n true h32))

theorem State.valveFault_keepsHeld {s : State} (n : Nat) {m flag : Nat} (h : 6 ≤ flag ∧ flag ≤ 8) (hm : s.FaultHeld m flag) :
    (s.valveFault n flag).FaultHeld m flag := by
  obtain ⟨h32, hd, h15⟩ := faultFlag_notDriven h
  have hmap : (s.vSet n flag true).mapOn Reg.VLV_FLTMAP_LO m = true :=
    (State.mapOn_congr (State.reg_wrB_other _ _ (vlvStat_notFltmap n m).symm)).trans hm.map
  rw [State.valveFault_eq]
  refine ⟨State.chfltTold_shows _ n, ?_, ?_, State.faultTail_noPulse n m (.inr hm.pulse)⟩
  · exact (State.mapOn_congr (State.faultTail_reg _ n (vlvKept_fltmap m))).trans (State.mapOn_mapBit_stays _ m n hmap)
  · exact (State.faultTail_flag _ n m h32 hd h15).trans ((State.mapBit_vOn _ _ _ _ _).trans (s.vOn_vSet_stays m n h32 hm.flag))

/-- The overtemperature of a Trowel stays when its channels are turned off. -/
theorem State.valveFault_trowel (s : State) (n flag j : Nat) : (s.valveFault n flag).on (F.VLV_TRWj_STAT_OT j) = s.on (F.VLV_TRWj_STAT_OT j) := by
  rw [State.valveFault_eq]
  refine State.on_congr (State.rd_congr ((State.faultTail_reg _ n (vlvKept_trowel j)).trans ?_))
  refine (State.reg_wrB_other _ _ ?_).trans (State.reg_wrB_other _ _ ?_)
  · unfold Reg.VLV_TRWj_STAT Reg.VLV_FLTMAP_LO
    dsimp only
    omega
  · unfold Reg.VLV_TRWj_STAT vlvFlag Reg.VLV_CHn_STAT
    dsimp only
    omega

theorem execValveChannelFault_holds {s : State} {n kind : Nat} (hbed : s.bedOn = true) (hn : n < s.code.valves)
    (hkind : kind = 2 ∨ kind = 1 ∨ (kind = 0 ∧ s.vOn n 0 = true ∧ 100 ≤ (s.valve n).lvl)) :
    Completes (.valveChannelFault n kind) s (fun t => t.rd F.VLV_STAT_CHFLT = 1 ∧ t.mapOn Reg.VLV_FLTMAP_LO n = true ∧ t.vOn n (6 + kind) = true ∧
      (t.valve n).pulse = none ∧
      (kind = 2 → t.on (F.VLV_TRWj_STAT_OT (n / 8)) = true ∧ (List.range 8).all (fun i => t.vOn (n / 8 * 8 + i) 8) = true)) := by
  have hgo : ¬ (s.bedOn = false ∨ s.code.valves ≤ n) := by
    rw [hbed]
    simp
    omega
  obtain rfl | rfl | ⟨rfl, hon, hlvl⟩ := hkind
  · refine ⟨_, congrArg Host.Outcome.next ((if_neg hgo).trans (if_pos rfl)), ?_⟩
    dsimp only
    obtain ⟨hI, hP⟩ := foldl_establishes (f := fun x i => State.valveFault x (n / 8 * 8 + i) 8) (P := fun i => State.FaultHeld (n / 8 * 8 + i) 8)
      (I := fun x : State => x.on (F.VLV_TRWj_STAT_OT (n / 8)) = true) (List.range 8) (s.wr (F.VLV_TRWj_STAT_OT (n / 8)) 1)
      (s.on_wr_one (Fld.hi_lt rfl) rfl) (fun x i _ hx => (x.valveFault_trowel _ 8 _).trans hx) (fun x i _ _ => x.valveFault_holds _ (by decide))
      fun x i e _ _ _ hx => State.valveFault_keepsHeld _ (by decide) hx
    have hself := hP (n % 8) (List.mem_range.mpr (Nat.mod_lt _ (by decide)))
    rw [Nat.div_add_mod' n 8] at hself
    refine ⟨hself.told, hself.map, hself.flag, hself.pulse, fun _ => ⟨hI, ?_⟩⟩
    rw [List.all_eq_true]
    exact fun i hi => (hP i hi).flag
  · refine ⟨s.valveFault n 7, congrArg Host.Outcome.next ((if_neg hgo).trans ((if_neg (by decide)).trans (if_pos rfl))), ?_⟩
    have h := s.valveFault_holds n (flag := 7) (by decide)
    exact ⟨h.told, h.map, h.flag, h.pulse, fun h => absurd h (by decide)⟩
  · refine ⟨s.valveFault n 6, congrArg Host.Outcome.next ((if_neg hgo).trans ((if_neg (by decide)).trans ((if_neg (by decide)).trans
      (if_pos ⟨rfl, hon, hlvl⟩)))), ?_⟩
    have h := s.valveFault_holds n (flag := 6) (by decide)
    exact ⟨h.told, h.map, h.flag, h.pulse, fun h => absurd h (by decide)⟩

end Sys2Proof.Machine
end

section
/-! SUPPORT. Fault clears of the valve channels (R319) and the ends of their pulses (R321). -/

namespace Sys2Proof.Machine

/-! ### Fault clears (R319) -/

/-- A bit of a map set or cleared leaves the bits of other channels alone. -/
theorem State.mapOn_mapBit_beside (s : State) {base q p : Nat} (v : Bool) (h : q / 32 % 4 ≠ p / 32 % 4 ∨ q % 32 ≠ p % 32) :
    (s.mapBit base p v).mapOn base q = s.mapOn base q := by
  by_cases hw : q / 32 % 4 = p / 32 % 4
  · refine State.on_congr (s.rd_wr_beside _ (Nat.mod_lt _ (by decide)) (Nat.mod_lt _ (by decide)) ?_)
    dsimp only
    omega
  · exact State.mapOn_congr (State.reg_wrB_other _ _ (by dsimp only; omega))

/-- A flag cleared clears none that is clear. -/
theorem State.vOn_vSet_false_stays {s : State} {m b : Nat} (n c : Nat) (hb : b < 32) (hc : c < 32) (h : s.vOn m b = false) :
    (s.vSet n c false).vOn m b = false := by
  by_cases hbc : b = c
  · rw [hbc] at h ⊢
    by_cases hmn : Reg.VLV_CHn_STAT m = Reg.VLV_CHn_STAT n
    · have heq : (s.vSet n c false).vOn m c = (s.vSet n c false).vOn n c := by
        unfold State.vOn vlvFlag
        rw [hmn]
      rw [heq]
      exact s.vOn_vSet_same n false hc
    · exact (State.on_congr (State.rd_congr (State.reg_wrB_other _ _ hmn))).trans h
  · exact (s.vOn_vSet_beside n m false hc hb hbc).trans h

/-- The channel's fault forgotten, before the channel follows its command again. -/
def State.faultForgotten (s : State) (n : Nat) : State := (((s.mapBit Reg.VLV_FLTMAP_LO n false).vSet n 6 false).vSet n 7 false).vSet n 8 false

theorem State.faultForgotten_reg (s : State) (n : Nat) {k : Nat} (hs : k ≠ Reg.VLV_CHn_STAT n) (hm : k ≠ Reg.VLV_FLTMAP_LO + 4 * (n / 32 % 4)) :
    (s.faultForgotten n).reg k = s.reg k :=
  (State.reg_wrB_other _ _ hs).trans ((State.reg_wrB_other _ _ hs).trans ((State.reg_wrB_other _ _ hs).trans (s.reg_wrB_other _ hm)))

theorem vlvFltmap_notStat (q n : Nat) : Reg.VLV_FLTMAP_LO + 4 * (q / 32 % 4) ≠ Reg.VLV_CHn_STAT n := (vlvStat_notFltmap n q).symm

theorem State.faultForgotten_map (s : State) (n q : Nat) :
    (s.faultForgotten n).mapOn Reg.VLV_FLTMAP_LO q = (s.mapBit Reg.VLV_FLTMAP_LO n false).mapOn Reg.VLV_FLTMAP_LO q :=
  State.mapOn_congr ((State.reg_wrB_other _ _ (vlvFltmap_notStat q n)).trans
    ((State.reg_wrB_other _ _ (vlvFltmap_notStat q n)).trans (State.reg_wrB_other _ _ (vlvFltmap_notStat q n))))

theorem State.faultForgotten_stays {s : State} {m b : Nat} (n : Nat) (hb : b < 32) (h : s.vOn m b = false) : (s.faultForgotten n).vOn m b = false :=
  State.vOn_vSet_false_stays _ _ hb (by decide) (State.vOn_vSet_false_stays _ _ hb (by decide) (State.vOn_vSet_false_stays _ _ hb (by decide)
    ((s.mapBit_vOn n false m b).trans h)))

theorem State.faultForgotten_clear (s : State) (n : Nat) {b : Nat} (h : 6 ≤ b ∧ b ≤ 8) : (s.faultForgotten n).vOn n b = false := by
  obtain rfl | rfl | rfl : b = 6 ∨ b = 7 ∨ b = 8 := by omega
  · exact State.vOn_vSet_false_stays _ _ (by decide) (by decide) (State.vOn_vSet_false_stays _ _ (by decide) (by decide)
      (State.vOn_vSet_same _ _ _ (by decide)))
  · exact State.vOn_vSet_false_stays _ _ (by decide) (by decide) (State.vOn_vSet_same _ _ _ (by decide))
  · exact State.vOn_vSet_same _ _ _ (by decide)

theorem State.valveClear_eq (s : State) (n : Nat) : s.valveClear n = if s.mapOn Reg.VLV_FLTMAP_LO n = false ∨
    (s.vOn n 8 = true ∧ s.on (F.VLV_TRWj_STAT_OT (n / 8)) = true) then s else (s.faultForgotten n).valveResume n := rfl

/-- What forgetting the fault of channel `c` and resuming it keep of channel `n`. -/
theorem State.faultResumed_keeps (s : State) (c : Nat) : ((s.faultForgotten c).valveResume c).code = s.code ∧
    ((s.faultForgotten c).valveResume c).resp = s.resp ∧
    (∀ j, ((s.faultForgotten c).valveResume c).on (F.VLV_TRWj_STAT_OT j) = s.on (F.VLV_TRWj_STAT_OT j)) ∧
    (∀ q, ((s.faultForgotten c).valveResume c).mapOn Reg.VLV_FLTMAP_LO q = (s.mapBit Reg.VLV_FLTMAP_LO c false).mapOn Reg.VLV_FLTMAP_LO q) ∧
    ∀ m b, b < 32 → ¬ driveBit b → ((s.faultForgotten c).valveResume c).vOn m b = (s.faultForgotten c).vOn m b := by
  have hd := (s.faultForgotten c).valveResume_drives c
  refine ⟨hd.part State.code fun _ _ => rfl, hd.part State.resp fun _ _ => rfl, fun j => ?_, fun q => ?_, fun m b hb hbd => hd.flag m b hb hbd⟩
  · refine State.on_congr (State.rd_congr ((hd.kept (vlvKept_trowel j)).trans (s.faultForgotten_reg c ?_ ?_)))
    · unfold Reg.VLV_TRWj_STAT Reg.VLV_CHn_STAT
      omega
    · unfold Reg.VLV_TRWj_STAT Reg.VLV_FLTMAP_LO
      omega
  · exact (State.mapOn_congr (hd.kept (vlvKept_fltmap q))).trans (s.faultForgotten_map c q)

/-- What a write that clears the faults keeps while it has not come to channel `n` or has cleared it; `was` tells whether the map held it. -/
structure State.ClearsFault (c : Code) (r : Resp) (n : Nat) (was : Bool) (s : State) : Prop where
  code : s.code = c
  resp : s.resp = r
  cool : s.vOn n 8 = false ∨ s.on (F.VLV_TRWj_STAT_OT (n / 8)) = false
  clear : s.mapOn Reg.VLV_FLTMAP_LO n = false → was = true → s.vOn n 6 = false ∧ s.vOn n 7 = false ∧ s.vOn n 8 = false

theorem State.valveClear_keeps {s : State} {c : Code} {r : Resp} {n : Nat} {was : Bool} (m : Nat)
    (hmn : m = n ∨ n / 32 % 4 ≠ m / 32 % 4 ∨ n % 32 ≠ m % 32) (h : s.ClearsFault c r n was) : (s.valveClear m).ClearsFault c r n was := by
  rw [State.valveClear_eq]
  split
  · exact h
  obtain ⟨hcode, hresp, hot, hmap, hflag⟩ := s.faultResumed_keeps m
  have hkept {b : Nat} (hb : 6 ≤ b ∧ b ≤ 8) (hoff : (s.faultForgotten m).vOn n b = false) : ((s.faultForgotten m).valveResume m).vOn n b = false :=
    (hflag n b (by omega) (by unfold driveBit; omega)).trans hoff
  refine ⟨hcode.trans h.code, hresp.trans h.resp, h.cool.imp (fun h8 => hkept (by decide) (State.faultForgotten_stays m (by decide) h8))
    fun hoff => (hot _).trans hoff, fun hoff hwas => ?_⟩
  obtain rfl | hapart := hmn
  · exact ⟨hkept (by decide) (s.faultForgotten_clear m (by decide)), hkept (by decide) (s.faultForgotten_clear m (by decide)),
      hkept (by decide) (s.faultForgotten_clear m (by decide))⟩
  · obtain ⟨h6, h7, h8⟩ := h.clear ((s.mapOn_mapBit_beside false hapart).symm.trans ((hmap n).symm.trans hoff)) hwas
    exact ⟨hkept (by decide) (State.faultForgotten_stays m (by decide) h6), hkept (by decide) (State.faultForgotten_stays m (by decide) h7),
      hkept (by decide) (State.faultForgotten_stays m (by decide) h8)⟩

/-- A channel whose Trowel is not hot leaves the fault map. -/
theorem State.valveClear_leaves {s : State} {n : Nat} (h : s.vOn n 8 = false ∨ s.on (F.VLV_TRWj_STAT_OT (n / 8)) = false) :
    (s.valveClear n).mapOn Reg.VLV_FLTMAP_LO n = false := by
  rw [State.valveClear_eq]
  split
  · next hc =>
    obtain hc | ⟨h8, hot⟩ := hc
    · exact hc
    · rw [h8, hot] at h
      exact absurd h (by decide)
  · exact ((s.faultResumed_keeps n).2.2.2.1 n).trans (s.mapOn_mapBit_false _ n)

/-- A channel out of the map stays out while faults are cleared. -/
theorem State.valveClear_out {s : State} {n : Nat} (m : Nat) (hmn : m = n ∨ n / 32 % 4 ≠ m / 32 % 4 ∨ n % 32 ≠ m % 32)
    (h : s.mapOn Reg.VLV_FLTMAP_LO n = false) : (s.valveClear m).mapOn Reg.VLV_FLTMAP_LO n = false := by
  rw [State.valveClear_eq]
  split
  · exact h
  refine ((s.faultResumed_keeps m).2.2.2.1 n).trans ?_
  obtain rfl | hapart := hmn
  · exact s.mapOn_mapBit_false _ m
  · exact (s.mapOn_mapBit_beside false hapart).trans h

theorem Code.valves_le (c : Code) : c.valves ≤ 48 := by
  unfold Code.valves Code.pick
  split <;> simp

theorem execValveFaultClear_clears {s : State} {a : Agent} {hi : Bool} {v : W32} {n : Nat} (hn : n < s.code.valves) (hhi : hi = decide (32 ≤ n))
    (hacc : s.accepts a 0x0B (0x028 + if hi then 4 else 0) = true) (hbit : bitAt v.toNat (n % 32) = true)
    (hcool : s.vOn n 8 = false ∨ s.on (F.VLV_TRWj_STAT_OT (n / 8)) = false) :
    Completes (.valveFaultClear a hi v) s (fun t => t.resp = .done ∧ t.mapOn Reg.VLV_FLTMAP_LO n = false ∧
      (s.mapOn Reg.VLV_FLTMAP_LO n = true → t.vOn n 6 = false ∧ t.vOn n 7 = false ∧ t.vOn n 8 = false)) := by
  have h48 := s.code.valves_le
  have hk : (0x028 + 4 * if hi then 1 else 0) = 0x028 + if hi then 4 else 0 := by cases hi <;> rfl
  have hplace : 32 * (if hi then 1 else 0) + n % 32 = n := by
    rw [hhi]
    by_cases h : 32 ≤ n
    · rw [decide_eq_true h]
      simp only [if_true]
      omega
    · rw [decide_eq_false h]
      simp only [if_neg Bool.false_ne_true]
      omega
  refine ⟨s.done.fltmapWrite (if hi then 1 else 0) v,
    congrArg Host.Outcome.next ((congrArg (fun k => s.gate a 0x0B k _) hk).trans (State.gate_accepts _ hacc)), ?_⟩
  dsimp only
  generalize hp : (if hi then 1 else 0) = p at hplace
  have hapart (i : Nat) (hi : i ∈ List.range 32) : 32 * p + i = n ∨ n / 32 % 4 ≠ (32 * p + i) / 32 % 4 ∨ n % 32 ≠ (32 * p + i) % 32 := by
    have := List.mem_range.mp hi
    omega
  obtain ⟨hI, hP⟩ := foldl_establishes (f := fun (x : State) i => if bitAt v.toNat i ∧ 32 * p + i < s.done.code.valves then x.valveClear (32 * p + i) else x)
    (I := State.ClearsFault s.code .done n (s.mapOn Reg.VLV_FLTMAP_LO n))
    (P := fun i (x : State) => i = n % 32 → x.mapOn Reg.VLV_FLTMAP_LO n = false) (List.range 32) s.done
    ⟨rfl, rfl, hcool, fun hoff hon => absurd (hon.symm.trans hoff) (by decide)⟩
    (fun x i hi hx => by
      split
      · exact State.valveClear_keeps _ (hapart i hi) hx
      · exact hx)
    (fun x i _ hx hin => by
      subst hin
      rw [hplace, if_pos ⟨hbit, hn⟩]
      exact State.valveClear_leaves hx.cool)
    (fun x i j _ hj _ hx hin => by
      split
      · exact State.valveClear_out _ (hapart j hj) (hx hin)
      · exact hx hin)
  have hout := hP (n % 32) (List.mem_range.mpr (Nat.mod_lt _ (by decide))) rfl
  exact ⟨hI.resp, hout, hI.clear hout⟩

/-! ### Ends of pulses (R321) -/

/-- The channel after its pulse, before it turns off. -/
def State.pulseOver (s : State) (n : Nat) (ma : Frac) : State :=
  ((s.pulseDone n 0).setValve n { (s.pulseDone n 0).valve n with ma := ma }).vSet n 15 false

theorem State.pulseOver_vOn (s : State) (n : Nat) (ma : Frac) (m : Nat) {b : Nat} (hb : b < 32) (h : b ≠ 15) :
    (s.pulseOver n ma).vOn m b = s.vOn m b :=
  (State.vOn_vSet_beside _ n m false (by decide) hb h).trans ((State.vOn_setValve _ _ _ _ _).trans ((s.pulseDone_keeps n 0).1 m b))

theorem State.pulseOver_valve (s : State) (n : Nat) (ma : Frac) : (s.pulseOver n ma).valve n = { s.valve n with pulse := none, ma := ma } := by
  refine (State.vSet_valve _ _ _ _ _).trans ((State.valve_setValve_same _ _ _).trans ?_)
  rw [State.pulseDone_valve]

theorem State.pulseOver_defq (s : State) (n : Nat) (ma : Frac) : (s.pulseOver n ma).vlv.defq = s.vlv.defq := (s.pulseDone_keeps n 0).2

theorem State.pulseOver_reg (s : State) (n : Nat) (ma : Frac) {k : Nat} (hk : ¬ entryBlock (k / 0x1000)) (hs : k ≠ Reg.VLV_CHn_STAT n) :
    (s.pulseOver n ma).reg k = s.reg k :=
  (State.reg_wrB_other _ _ hs).trans ((State.setValve_reg _ _ _ _).trans (s.pulseDone_reg n 0 hk))

theorem State.pulseDone_fsApplied (s : State) (n fl m : Nat) : (s.pulseDone n fl).fsApplied m = s.fsApplied m :=
  (s.pulseDone_drives n fl).part (fun x => x.fsApplied m) fun _ _ => rfl

theorem State.pulseOver_fsApplied (s : State) (n : Nat) (ma : Frac) : (s.pulseOver n ma).fsApplied n = s.fsApplied n := s.pulseDone_fsApplied n 0 n

theorem State.pulseOver_safeOn (s : State) (n : Nat) (ma : Frac) : (s.pulseOver n ma).valveSafeOn n = s.valveSafeOn n := by
  unfold State.valveSafeOn
  rw [State.pulseOver_fsApplied]
  simp (disch := decide) only [State.pulseOver_vOn]

theorem State.pulseOver_rest (s : State) (n : Nat) (ma : Frac) : (s.pulseOver n ma).restLevel n = s.restLevel n := by
  unfold State.restLevel
  rw [State.pulseOver_safeOn, State.pulseOver_fsApplied]

/-- A channel whose pulse is over, and that is not deferred, rests. -/
theorem State.pulseOver_rests {s : State} {n : Nat} (ma : Frac) (hq : n ∉ s.vlv.defq) : ((s.pulseOver n ma).valveOff n).vOn n 0 = s.valveSafeOn n ∧
    ((s.pulseOver n ma).valveOff n).vOn n 15 = false ∧
    ((s.pulseOver n ma).valveOff n).valve n = { s.valve n with pulse := none, ma := ma, lvl := s.restLevel n, window := none, rep := none } := by
  obtain ⟨h0, -, -, -, hx⟩ := State.valveOff_shows (s := s.pulseOver n ma) (n := n) (.inr (by rw [State.pulseOver_defq]; exact hq))
  refine ⟨h0.trans (s.pulseOver_safeOn n ma), ?_, ?_⟩
  · exact (((s.pulseOver n ma).valveOff_drives n).flag n 15 (by decide) (by unfold driveBit; decide)).trans (State.vOn_vSet_same _ _ _ (by decide))
  · rw [hx, State.pulseOver_valve, State.pulseOver_rest]

theorem State.pulseOff_eq {s : State} {n : Nat} {p : ValvePulse} (h : (s.valve n).pulse = some p) :
    s.pulseOff n = (s.pulseOver n (if s.prop n then Frac.ofInt 0 else (s.valve n).ma)).valveOff n := by
  unfold State.pulseOff
  dsimp only
  rw [h]
  rfl

theorem execPulseEnd_valve {s : State} {n : Nat} {p : ValvePulse} (hbed : s.bedOn = true) (hp : (s.valve n).pulse = some p) (htimed : p.timed = false)
    (hstop : p.stop ≤ s.now) (h11 : s.vOn n 11 = false) (hq : s.vlv.defq.contains n = false) :
    Completes (.pulseEnd true n) s (fun t => (t.valve n).pulse = none ∧ t.vOn n 15 = false ∧ t.vOn n 0 = s.valveSafeOn n ∧
      (t.valve n).lvl = (if s.valveSafeOn n = true then safeLevel (s.fsApplied n) else 0)) := by
  refine ⟨(s.pulseOver n (if s.prop n then Frac.ofInt 0 else (s.valve n).ma)).valveOff n, congrArg Host.Outcome.next ?_, ?_⟩
  · rw [hbed, if_neg (by decide), if_pos rfl, hp]
    dsimp only
    rw [if_pos ⟨htimed, hstop, h11⟩, State.pulseOff_eq hp]
  · obtain ⟨h0, h15, hx⟩ := State.pulseOver_rests (if s.prop n then Frac.ofInt 0 else (s.valve n).ma) (show n ∉ s.vlv.defq by simpa using hq)
    rw [hx]
    exact ⟨rfl, h15, h0, rfl⟩

end Sys2Proof.Machine
end

section
/-! SUPPORT. The drive of the load switches (R334-R336, R339): what turning channels on and off, holding and admitting them change, and
what they leave alone. -/

namespace Sys2Proof.Machine

/-! ### Flags and channels (R350) -/

theorem State.lOn_lSet_same (s : State) (n : Nat) {b : Nat} (v : Bool) (h : b < 32) : (s.lSet n b v).lOn n b = v :=
  s.on_wrB_same v (by simp [Fld.inWord, lswFlag, h]) rfl

/-- A flag set leaves the other flags of every channel alone. -/
theorem State.lOn_lSet_beside (s : State) (n m : Nat) {b c : Nat} (v : Bool) (hb : b < 32) (hc : c < 32) (h : c ≠ b) :
    (s.lSet n b v).lOn m c = s.lOn m c := by
  by_cases hnm : Reg.LSW_CHn_STAT m = Reg.LSW_CHn_STAT n
  · unfold State.lOn lswFlag
    rw [hnm]
    exact State.on_congr (s.rd_wr_beside _ hb hc (by simp only [lswFlag]; omega))
  · exact State.on_congr (s.rd_wr_other _ hnm)

/-- A flag set leaves the flags of other channels alone. -/
theorem State.lOn_lSet_other (s : State) {n m : Nat} (b c : Nat) (v : Bool) (h : m % 64 ≠ n % 64) : (s.lSet n b v).lOn m c = s.lOn m c :=
  State.on_congr (s.rd_wr_other _ (by simp only [lswFlag, Reg.LSW_CHn_STAT]; omega))

theorem State.lSet_reg (s : State) (n b : Nat) (v : Bool) {k : Nat} (h : k ≠ Reg.LSW_CHn_STAT n) : (s.lSet n b v).reg k = s.reg k :=
  s.reg_wr_other _ h

theorem State.lSet_lsw (s : State) (n b : Nat) (v : Bool) : (s.lSet n b v).lsw = s.lsw := rfl

theorem State.sw_setSw_same (s : State) (n : Nat) (x : Switch) : (s.setSw n x).sw n = x := SMap.get_set_same _ _ _ _

theorem State.sw_setSw_other (s : State) {n m : Nat} (x : Switch) (h : m ≠ n) : (s.setSw n x).sw m = s.sw m := SMap.get_set_other _ _ _ h

theorem State.sw_congr {s t : State} (h : t.lsw.chs = s.lsw.chs) (n : Nat) : t.sw n = s.sw n := by
  unfold State.sw
  rw [h]

theorem State.setSw_reg (s : State) (n : Nat) (x : Switch) (k : Nat) : (s.setSw n x).reg k = s.reg k := rfl

theorem State.setSw_lOn (s : State) (n : Nat) (x : Switch) (m b : Nat) : (s.setSw n x).lOn m b = s.lOn m b := rfl

/-! ### What a change of drive leaves alone -/

/-- The flags that show the drive of a load switch: ON, NOBUD, OPENOFF, LIMITING and CLAMP. -/
def switchBit (b : Nat) : Prop := b = 0 ∨ b = 3 ∨ b = 8 ∨ b = 10 ∨ b = 11

/-- The registers in which the drive of the load switches `C` shows. -/
def switchRegs (C : Set Nat) : Set Nat :=
  {k | k = Reg.LSW_CONFCNT ∨ (∃ g, k = Reg.LSW_GRPg_STAT g) ∨ ∃ n ∈ C, k = Reg.LSW_CHn_STAT n ∨ k = Reg.LSW_OLMAP_LO + 4 * (n / 32 % 4)}

/-- `x` with the drive of `y`: what a change of drive keeps of a switch is its command, its heat and its counters. -/
def Switch.SameCommand (x y : Switch) : Prop :=
  y.duty = x.duty ∧ y.hot = x.hot ∧ y.energy = x.energy ∧ y.pulse.map (fun p => (p.dur, p.tag)) = x.pulse.map (fun p => (p.dur, p.tag))

theorem Switch.SameCommand.refl (x : Switch) : x.SameCommand x := ⟨rfl, rfl, rfl, rfl⟩

theorem Switch.SameCommand.trans {x y z : Switch} (h : x.SameCommand y) (h' : y.SameCommand z) : x.SameCommand z :=
  ⟨h'.1.trans h.1, h'.2.1.trans h.2.1, h'.2.2.1.trans h.2.2.1, h'.2.2.2.trans h.2.2.2⟩

/-- A switch that turns on, or off, at an instant. -/
def Switch.started (x : Switch) (now : Nat) : Switch :=
  { x with ton := now, was := ⟨0, 1⟩, changed := now, pulse := x.pulse.map (fun p => { p with stop := some (p.stop.getD (now + p.dur)) }) }
def Switch.stopped (x : Switch) (now : Nat) : Switch := { x with offSince := now, limSince := none }

theorem Switch.started_same (x : Switch) (now : Nat) : x.SameCommand (x.started now) :=
  ⟨rfl, rfl, rfl, (Option.map_map _ _ _).trans rfl⟩

theorem Switch.stopped_same (x : Switch) (now : Nat) : x.SameCommand (x.stopped now) := ⟨rfl, rfl, rfl, rfl⟩

/-- `t` differs from `s` by the drive of the load switches `C`. -/
structure State.SwitchTo (C : Set Nat) (s t : State) : Prop where
  eq : t = { s with regs := t.regs, lsw := { s.lsw with chs := t.lsw.chs } }
  reg : ∀ k, k ∉ switchRegs C → t.reg k = s.reg k
  flag : ∀ n b, b < 32 → ¬ switchBit b → t.lOn n b = s.lOn n b
  lim : ∀ g, t.rd (F.LSW_GRPg_STAT_LIM g) = s.rd (F.LSW_GRPg_STAT_LIM g)
  sw : ∀ n, n ∉ C → t.sw n = s.sw n
  same : ∀ n, (s.sw n).SameCommand (t.sw n)

theorem switchRegs_mono {C D : Set Nat} (h : C ⊆ D) : switchRegs C ⊆ switchRegs D := by
  rintro k (hk | hk | ⟨n, hn, hk⟩)
  · exact .inl hk
  · exact .inr (.inl hk)
  · exact .inr (.inr ⟨n, h hn, hk⟩)

namespace State.SwitchTo

variable {C : Set Nat} {s t u : State}

theorem refl (s : State) : SwitchTo C s s :=
  ⟨rfl, fun _ _ => rfl, fun _ _ _ _ => rfl, fun _ => rfl, fun _ _ => rfl, fun _ => .refl _⟩

theorem trans (h : SwitchTo C s t) (h' : SwitchTo C t u) : SwitchTo C s u where
  eq := h'.eq.trans ((congrArg (fun x : State => { x with regs := u.regs, lsw := { x.lsw with chs := u.lsw.chs } }) h.eq).trans rfl)
  reg k hk := (h'.reg k hk).trans (h.reg k hk)
  flag n b hb hd := (h'.flag n b hb hd).trans (h.flag n b hb hd)
  lim g := (h'.lim g).trans (h.lim g)
  sw n hn := (h'.sw n hn).trans (h.sw n hn)
  same n := (h.same n).trans (h'.same n)

theorem mono {D : Set Nat} (h : SwitchTo C s t) (hCD : C ⊆ D) : SwitchTo D s t :=
  ⟨h.eq, fun k hk => h.reg k fun hC => hk (switchRegs_mono hCD hC), h.flag, h.lim, fun n hn => h.sw n fun hC => hn (hCD hC), h.same⟩

theorem ite (c : Prop) [Decidable c] (h : c → SwitchTo C s t) (h' : ¬ c → SwitchTo C s u) : SwitchTo C s (if c then t else u) := by
  split
  · exact h ‹_›
  · exact h' ‹_›

theorem foldl {α : Type*} (f : State → α → State) (l : List α) (h : ∀ (x : State) a, a ∈ l → SwitchTo C x (f x a)) (s : State) :
    SwitchTo C s (l.foldl f s) :=
  List.foldlRecOn (motive := fun x : State => SwitchTo C s x) l f (refl s) fun x hx a ha => hx.trans (h x a ha)

/-- A part of the state that no drive changes. -/
theorem part {α : Sort*} (h : SwitchTo C s t) (U : State → α) (hU : ∀ (x : State) r c, U { x with regs := r, lsw := { x.lsw with chs := c } } = U x) :
    U t = U s :=
  (congrArg U h.eq).trans (hU s _ _)

theorem rd (h : SwitchTo C s t) {f : Fld} (hf : f.addr ∉ switchRegs C) : t.rd f = s.rd f := State.rd_congr (h.reg _ hf)

/-! #### The parts of a change of drive -/

theorem setSw (s : State) {n : Nat} {x : Switch} (h : n ∈ C) (hx : (s.sw n).SameCommand x) : SwitchTo C s (s.setSw n x) := by
  refine ⟨rfl, fun _ _ => rfl, fun _ _ _ _ => rfl, fun _ => rfl, fun m hm => s.sw_setSw_other x fun e => hm (e ▸ h), fun m => ?_⟩
  by_cases hmn : m = n
  · rw [hmn, State.sw_setSw_same]
    exact hx
  · rw [State.sw_setSw_other _ _ hmn]
    exact .refl _

/-- A write of a register that shows the drive, where it leaves alone the flags and the limits it must. -/
theorem wr (s : State) {f : Fld} (v : Nat) (h : f.addr ∈ switchRegs C)
    (hflag : ∀ n b, b < 32 → ¬ switchBit b → (s.wr f v).lOn n b = s.lOn n b)
    (hlim : ∀ g, (s.wr f v).rd (F.LSW_GRPg_STAT_LIM g) = s.rd (F.LSW_GRPg_STAT_LIM g)) : SwitchTo C s (s.wr f v) :=
  ⟨rfl, fun _ hC => s.reg_wr_other v fun e => hC (e ▸ h), hflag, hlim, fun _ _ => rfl, fun _ => .refl _⟩

theorem lSet (s : State) {n b : Nat} (v : Bool) (h : n ∈ C) (hb : switchBit b) : SwitchTo C s (s.lSet n b v) := by
  have hb32 : b < 32 := by unfold switchBit at hb; omega
  refine wr s _ (.inr (.inr ⟨n, h, .inl rfl⟩)) (fun m c hc hd => s.lOn_lSet_beside n m v hb32 hc fun e => hd (e ▸ hb)) fun g => s.rd_wr_other _ ?_
  simp only [lswFlag, Reg.LSW_CHn_STAT, F.LSW_GRPg_STAT_LIM, Reg.LSW_GRPg_STAT]
  omega

theorem budReg (s : State) (g : Nat) : SwitchTo C s (s.budReg g) := by
  refine wr s _ (.inr (.inl ⟨g, rfl⟩)) (fun m c _ _ => State.on_congr (s.rd_wr_other _ ?_)) fun k => s.rd_wr_apart _ rfl
  simp only [lswFlag, Reg.LSW_CHn_STAT, F.LSW_GRPg_STAT_BUDSUM, Reg.LSW_GRPg_STAT]
  omega

theorem olMap (s : State) {n : Nat} (h : n ∈ C) : SwitchTo C s (s.olMap n) := by
  refine wr s (f := ⟨Reg.LSW_OLMAP_LO + 4 * (n / 32 % 4), n % 32, n % 32⟩) _ (.inr (.inr ⟨n, h, .inr rfl⟩))
    (fun m c _ _ => State.on_congr (s.rd_wr_other _ ?_)) fun g => s.rd_wr_other _ ?_
  · simp only [lswFlag, Reg.LSW_CHn_STAT, Reg.LSW_OLMAP_LO]
    omega
  · simp only [F.LSW_GRPg_STAT_LIM, Reg.LSW_GRPg_STAT, Reg.LSW_OLMAP_LO]
    omega

theorem held (s : State) : SwitchTo C s (s.inc F.LSW_CONFCNT_HELD) := by
  refine wr s _ (.inl rfl) (fun m c _ _ => State.on_congr (s.rd_wr_other _ ?_)) fun g => s.rd_wr_other _ ?_
  · simp only [lswFlag, Reg.LSW_CHn_STAT, F.LSW_CONFCNT_HELD, Reg.LSW_CONFCNT]
    omega
  · simp only [F.LSW_GRPg_STAT_LIM, Reg.LSW_GRPg_STAT, F.LSW_CONFCNT_HELD, Reg.LSW_CONFCNT]
    omega

/-! #### Changes of drive -/

theorem switch_on : switchBit 0 := .inl rfl
theorem switch_held : switchBit 3 := .inr (.inl rfl)
theorem switch_open : switchBit 8 := .inr (.inr (.inl rfl))
theorem switch_limiting : switchBit 10 := .inr (.inr (.inr (.inl rfl)))
theorem switch_clamp : switchBit 11 := .inr (.inr (.inr (.inr rfl)))

theorem lswStart (s : State) {n : Nat} (h : n ∈ C) : SwitchTo C s (s.lswStart n) := by
  unfold State.lswStart
  extract_lets t x
  have ht : SwitchTo C s t := (((lSet s true h switch_on).trans (lSet _ false h switch_held)).trans (lSet _ false h switch_open)).trans (olMap _ h)
  exact (ht.trans (setSw t h (Switch.started_same x s.now))).trans (budReg _ _)

theorem lswStop (s : State) {n : Nat} (h : n ∈ C) : SwitchTo C s (s.lswStop n) := by
  unfold State.lswStop
  extract_lets t
  have ht : SwitchTo C s t := ((lSet s _ h switch_on).trans (lSet _ _ h switch_held)).trans (lSet _ _ h switch_limiting)
  exact ite _ (fun _ => (ht.trans (setSw t h (Switch.stopped_same _ s.now))).trans (budReg _ _)) fun _ => lSet s _ h switch_held

theorem admitHeld (s : State) (g : Nat) (h : ∀ n ∈ groupChannels g, s.lOn n 3 = true → n ∈ C) : SwitchTo C s (s.admitHeld g) := by
  refine ite _ (fun _ => refl s) fun _ => foldl _ _ (fun x c hc => ite _ (fun _ => lswStart x ?_) fun _ => refl x) s
  obtain ⟨hcg, h3⟩ := List.mem_filter.mp hc
  exact h c hcg h3

theorem lswOff (s : State) {n : Nat} (h : n ∈ C) (hg : ∀ m ∈ groupChannels (groupOf n), m ∈ C) : SwitchTo C s (s.lswOff n) :=
  ite _ (fun _ => (lswStop s h).trans (admitHeld _ _ fun m hm _ => hg m hm)) fun _ => lswStop s h

theorem lClamp (s : State) {n : Nat} (h : n ∈ C) : SwitchTo C s (s.lClamp n) := lSet s _ h switch_clamp

theorem lswFollow (s : State) {n : Nat} (h : n ∈ C) (hg : ∀ m ∈ groupChannels (groupOf n), m ∈ C) : SwitchTo C s (s.lswFollow n) := by
  unfold State.lswFollow
  extract_lets t
  have ht : SwitchTo C s t := lClamp s h
  exact ht.trans (ite _ (fun _ => lswOff t h hg) fun _ => ite _ (fun _ => refl t) fun _ => ite _ (fun _ => admitHeld t _ fun m hm _ => hg m hm)
    fun _ => ite _ (fun _ => lswStart t h) fun _ => (lSet t _ h switch_held).trans (held _))

end State.SwitchTo

/-- The channels of the group of channel `n`, and `n`. -/
def groupSet (n : Nat) : Set Nat := {m | m = n ∨ m ∈ groupChannels (groupOf n)}

theorem State.lswFollow_switches (s : State) (n : Nat) : SwitchTo (groupSet n) s (s.lswFollow n) :=
  .lswFollow s (.inl rfl) fun _ hm => .inr hm

/-! ### Ends of pulses (R334) -/

theorem execPulseEnd_switch {s : State} {n : Nat} {p : SwitchPulse} {x : Nat} (hbed : s.bedOn = true) (hp : (s.sw n).pulse = some p)
    (hstop : p.stop = some x) (hx : x ≤ s.now) : Completes (.pulseEnd false n) s (fun t => (t.sw n).pulse = none ∧ t.lOn n 1 = false) := by
  refine ⟨s.lswPulseOff n, congrArg Host.Outcome.next ?_, ?_⟩
  · rw [hbed, if_neg (by decide), if_neg (by decide), hp]
    dsimp only
    rw [hstop]
    exact if_pos (decide_eq_true hx)
  · have h := ((s.setSw n { s.sw n with pulse := none }).lSet n 1 false).lswFollow_switches n
    have hnone := (h.same n).2.2.2
    have hsw : ((s.setSw n { s.sw n with pulse := none }).lSet n 1 false).sw n = { s.sw n with pulse := none } :=
      (State.sw_congr (congrArg _ (State.lSet_lsw _ _ _ _)) n).trans (s.sw_setSw_same n _)
    rw [hsw] at hnone
    exact ⟨Option.map_eq_none_iff.mp hnone, (h.flag n 1 (by decide) (by unfold switchBit; decide)).trans (State.lOn_lSet_same _ n false (by decide))⟩

/-- Settles O31: each command from its own effect on the channel, the bank it is in and the pulse it runs. -/
theorem valveDriveCommandsComplete : Obligations.ValveDriveCommandsComplete := by
  unfold Obligations.ValveDriveCommandsComplete
  refine ⟨?_, ?_, ?_, ?_, ?_, ?_, ?_, ?_, ?_, ?_, ?_, ?_, ?_, ?_, ?_, ?_⟩
  · exact fun s a n v => execValveUntimedCommand_turnsOn
  · exact fun s a n v => execValveUntimedCommand_defers
  · exact fun s a n v => execValveUntimedCommand_turnsOff
  · exact fun s a n v => execValveUntimedCommand_refusesSource v
  · exact fun s n => execPeakPhaseEnd_holds
  · exact fun s n m => execPeakPhaseEnd_grants
  · exact fun s n reached depth us w => execDipWindowClose_closes reached depth us
  · exact fun s b cause => execBankTrip_trips
  · exact fun s a b => execBankFaultClear_clears
  · exact fun s n h => execDutyLimitEntry_limits
  · exact fun s n h => execDutyLimitEntry_undefers
  · exact fun s n h => execDutyLimitExit_ends
  · exact fun s n kind => execValveChannelFault_holds
  · exact fun s a hi v n => execValveFaultClear_clears
  · exact fun s n p => execPulseEnd_valve
  · exact fun s n p x => execPulseEnd_switch

end Sys2Proof.Machine
end

section
/-! SUPPORT. PULSE and SET descriptors of the valve channels (R316, R320, R328). -/

namespace Sys2Proof.Machine

/-- What serving a descriptor ends with: its completion entry, late or not (R98). -/
def servedAt (q : Nat) (d : Desc) (x : State × Result × Nat) : State :=
  if x.2.2 = 0 then x.1.complete q d x.2.1 else (x.1.lateDesc q d x.2.2).complete q { d with late := x.2.2 } x.2.1

theorem State.serveAt_of_running {s : State} {q op : Nat} {d : Desc} (f : Desc → State → State × Result × Nat) (h : s.running q op = some d) :
    s.serveAt q op f = servedAt q d (f d s) := by
  unfold State.serveAt
  rw [h]
  rfl

theorem servedAt_affects (S : Set Nat) (q : Nat) (d : Desc) (x : State × Result × Nat) : State.AffectsOnly S x.1 (servedAt q d x) :=
  .ite _ (fun _ => .complete _ _ _ _) fun _ => (State.AffectsOnly.setRing _ _ _).trans (.complete _ _ _ _)

/-- What a completion leaves of the valves. -/
theorem servedAt_shows (q : Nat) (d : Desc) (x : State × Result × Nat) : (∀ n b, (servedAt q d x).vOn n b = x.1.vOn n b) ∧
    (∀ n, (servedAt q d x).valve n = x.1.valve n) ∧ (servedAt q d x).vlv = x.1.vlv ∧
    ∀ f : Fld, f.addr / 0x1000 = 0xB → (servedAt q d x).rd f = x.1.rd f := by
  have h := servedAt_affects ∅ q d x
  exact ⟨fun n b => h.on (notEntry_vlvStat n) (Set.notMem_empty _), fun n => State.valve_congr (h.part (fun y => y.vlv.chs) fun _ _ => rfl) n,
    h.part State.vlv fun _ _ => rfl, fun f hf => h.rd (notEntry (by omega)) (Set.notMem_empty _)⟩

theorem State.valveServe_of_running {s : State} {q op : Nat} {d : Desc} {e : ValveEvent} {pulse : Bool} (hrun : s.running q op = some d)
    (hdesc : s.valveDesc d pulse = some e) :
    s.valveServe q op pulse = servedAt q d (if d.tmode = 1 then s.valveAccept d e else s.valveUntimed e) := by
  unfold State.valveServe
  rw [State.serveAt_of_running _ hrun, hdesc]

/-- The command of an untimed PULSE. -/
theorem State.valveDesc_pulse {s : State} {d : Desc} {e : ValveEvent} (h : s.valveDesc d true = some e) (hmode : d.tmode = 0) :
    e.on = true ∧ e.stop = some (s.now + d.le 24 4 * 1000) ∧ e.tag = d.tag ∧ e.report = bitAt d.eflags 0 := by
  unfold State.valveDesc at h
  dsimp only at h
  split at h
  · exact absurd h (by simp)
  · rw [if_neg (by omega), if_pos rfl] at h
    obtain rfl := Option.some.inj h
    exact ⟨rfl, rfl, rfl, rfl⟩

/-- The command of a SET lasts. -/
theorem State.valveDesc_set {s : State} {d : Desc} {e : ValveEvent} (h : s.valveDesc d false = some e) : e.stop = none := by
  unfold State.valveDesc at h
  dsimp only at h
  split at h
  · exact absurd h (by simp)
  · obtain rfl := Option.some.inj h
    rfl

/-! ### Timed commands (R320) -/

/-- The checks of R320 in their order. -/
theorem State.valveAccept_checks {s : State} (q : Nat) {d : Desc} {e : ValveEvent} (htime : d.started + 20000 ≤ e.t) :
    if s.rd (F.VLV_CHn_CTL_SRC e.ch) ≠ 2 then servedAt q d (s.valveAccept d e) = s.complete q d { status := 0x40 }
    else if s.channelBusy e = true then servedAt q d (s.valveAccept d e) = s.complete q d { status := 0x45, estat := e.ch }
    else if e.on = true ∧ s.prop e.ch = false ∧ s.peakConflict e.ch e.t ≠ none then
      servedAt q d (s.valveAccept d e) = (s.inc F.VLV_CONFCNT_REFUSE).complete q d { status := 0x41, estat := (s.peakConflict e.ch e.t).getD 0 }
    else if e.on = true ∧ s.timedOk e = false then (servedAt q d (s.valveAccept d e)).vlv.evs = s.vlv.evs ∧
      (servedAt q d (s.valveAccept d e)).rd F.VLV_CONFCNT_REFUSE = satAdd F.VLV_CONFCNT_REFUSE.width (s.rd F.VLV_CONFCNT_REFUSE) 1
    else if 16 ≤ s.bankLoad (e.ch / 4) then servedAt q d (s.valveAccept d e) = s.complete q d { status := 0x44 }
    else servedAt q d (s.valveAccept d e) = ({ s with vlv := { s.vlv with evs := s.vlv.evs ++ [e] } }).complete q d {} := by
  unfold State.valveAccept
  rw [if_neg (show ¬ e.t < d.started + 20000 by omega)]
  by_cases hsrc : s.rd (F.VLV_CHn_CTL_SRC e.ch) ≠ 2
  · rw [if_pos hsrc, if_pos hsrc]
    rfl
  by_cases hbusy : s.channelBusy e = true
  · rw [if_neg hsrc, if_neg hsrc, if_pos hbusy, if_pos hbusy]
    rfl
  rw [if_neg hsrc, if_neg hsrc, if_neg hbusy, if_neg hbusy]
  dsimp only
  by_cases hpeak : e.on = true ∧ s.prop e.ch = false ∧ s.peakConflict e.ch e.t ≠ none
  · obtain ⟨hon, hprop, hne⟩ := hpeak
    obtain ⟨c, hc⟩ := Option.ne_none_iff_exists'.mp hne
    rw [if_pos ⟨hon, hprop, hne⟩, if_pos ⟨hon, hprop⟩, hc]
    rfl
  have hnone : (if e.on = true ∧ s.prop e.ch = false then s.peakConflict e.ch e.t else none) = none := by
    split
    · next h => exact Classical.byContradiction fun hne => hpeak ⟨h.1, h.2, hne⟩
    · rfl
  rw [if_neg hpeak, hnone]
  dsimp only
  by_cases hok : e.on = true ∧ s.timedOk e = false
  · rw [if_pos hok, if_pos hok]
    obtain ⟨-, -, hvlv, hreg⟩ := servedAt_shows q d ((s.inc F.VLV_CONFCNT_REFUSE).bankLimit e.ch
      ((s.bankOn e.ch ++ (s.overlapping e).map (fun x => x.ch)).eraseDups))
    exact ⟨congrArg Valves.evs hvlv, (hreg _ rfl).trans (s.rd_inc_same (by decide))⟩
  rw [if_neg hok, if_neg hok]
  split <;> rfl

/-- A timed command that comes too late is counted, and adds no event. -/
theorem State.valveAccept_late {s : State} (q : Nat) {d : Desc} {e : ValveEvent} (htime : e.t < d.started + 20000) :
    (servedAt q d (s.valveAccept d e)).vlv.evs = s.vlv.evs ∧
      (servedAt q d (s.valveAccept d e)).rd F.VLV_LATECNT_CNT = satAdd F.VLV_LATECNT_CNT.width (s.rd F.VLV_LATECNT_CNT) 1 := by
  have heq : s.valveAccept d e = (s.inc F.VLV_LATECNT_CNT, { status := 4 }, d.started - e.t) := if_pos htime
  rw [heq]
  obtain ⟨-, -, hvlv, hreg⟩ := servedAt_shows q d (s.inc F.VLV_LATECNT_CNT, { status := 4 }, d.started - e.t)
  exact ⟨congrArg Valves.evs hvlv, (hreg _ rfl).trans (s.rd_inc_same (by decide))⟩

theorem execVlvPulse_eq {s : State} {q : Nat} {d : Desc} {e : ValveEvent} (h32 : 32 ≤ q) (h40 : q < 40) (hrun : s.running q 1 = some d)
    (hdesc : s.valveDesc d true = some e) :
    exec (.vlvPulse q) s = .next (servedAt q d (if d.tmode = 1 then s.valveAccept d e else s.valveUntimed e)) :=
  congrArg Host.Outcome.next ((if_pos ⟨h32, h40⟩).trans (State.valveServe_of_running hrun hdesc))

theorem execVlvSet_eq {s : State} {q : Nat} {d : Desc} {e : ValveEvent} (h32 : 32 ≤ q) (h40 : q < 40) (hrun : s.running q 2 = some d)
    (hdesc : s.valveDesc d false = some e) :
    exec (.vlvSet q) s = .next (servedAt q d (if d.tmode = 1 then s.valveAccept d e else s.valveUntimed e)) :=
  congrArg Host.Outcome.next ((if_pos ⟨h32, h40⟩).trans (State.valveServe_of_running hrun hdesc))

/-! ### Untimed commands (R316, R328) -/

theorem State.valveUntimed_notSource {s : State} (q : Nat) (d : Desc) {e : ValveEvent} (h : s.rd (F.VLV_CHn_CTL_SRC e.ch) ≠ 2) :
    servedAt q d (s.valveUntimed e) = s.complete q d { status := 0x40 } := by
  unfold State.valveUntimed
  dsimp only
  rw [if_pos h]
  rfl

/-- An untimed pulse its channel refuses. -/
theorem State.valveUntimed_refused {s : State} {e : ValveEvent} (hsrc : s.rd (F.VLV_CHn_CTL_SRC e.ch) = 2) (hon : e.on = true)
    (hr : (s.valveCommand e.ch true (Frac.ofInt e.ma)).2 = false) : s.valveUntimed e =
      (s.valveCommand e.ch true (Frac.ofInt e.ma)).1.bankLimit e.ch ((s.bankOn e.ch ++ (s.bankEvents e.ch).map (fun x => x.ch)).eraseDups) := by
  unfold State.valveUntimed
  dsimp only
  rw [if_neg (not_not_intro hsrc), hon]
  simp only [if_true]
  exact if_pos hr

/-- An untimed pulse its channel takes. -/
theorem State.valveUntimed_taken {s : State} {e : ValveEvent} {stop : Nat} (hsrc : s.rd (F.VLV_CHn_CTL_SRC e.ch) = 2) (hon : e.on = true)
    (hstop : e.stop = some stop) (hr : (s.valveCommand e.ch true (Frac.ofInt e.ma)).2 = true) : s.valveUntimed e =
      (((s.valveCommand e.ch true (Frac.ofInt e.ma)).1.pulseDone e.ch 0).setValve e.ch
        { ((s.valveCommand e.ch true (Frac.ofInt e.ma)).1.pulseDone e.ch 0).valve e.ch with
          pulse := some ⟨stop, stop - s.now, e.tag, e.report, false⟩ }, {}, 0) := by
  unfold State.valveUntimed
  dsimp only
  rw [if_neg (not_not_intro hsrc), hon, hstop]
  simp only [if_true]
  exact if_neg (by rw [hr]; decide)

/-- What a command keeps of the events and of the command state. -/
theorem State.valveCommand_keeps (s : State) (n : Nat) (on : Bool) (ma : Frac) : (s.valveCommand n on ma).1.vlv.evs = s.vlv.evs ∧
    (s.valveCommand n on ma).1.vOn n 15 = if (s.valveCommand n on ma).2 then on else s.vOn n 15 := by
  have hd := (s.commanded n on ma).valveFollow_drives n
  have hevs : ((s.commanded n on ma).valveFollow n).1.vlv.evs = s.vlv.evs :=
    (hd.part (fun x => x.vlv.evs) fun _ _ => rfl).trans ((congrArg Valves.evs (s.commanded_vlv n on ma)).trans rfl)
  rw [State.valveCommand_eq]
  split
  · exact ⟨hevs, (hd.flag n 15 (by decide) (by unfold driveBit; decide)).trans (s.commanded_cmd n on ma)⟩
  · exact ⟨hevs, State.vOn_vSet_same _ _ _ (by decide)⟩

theorem State.valveUntimed_pulse {s : State} (q : Nat) {d : Desc} {e : ValveEvent} (hdesc : s.valveDesc d true = some e) (hmode : d.tmode = 0)
    (hsrc : s.rd (F.VLV_CHn_CTL_SRC e.ch) = 2) :
    if (s.valveCommand e.ch true (Frac.ofInt e.ma)).2 = false then (servedAt q d (s.valveUntimed e)).vlv.evs = s.vlv.evs ∧
      (servedAt q d (s.valveUntimed e)).vOn e.ch 15 = s.vOn e.ch 15
    else (∀ b, (servedAt q d (s.valveUntimed e)).vOn e.ch b = (s.valveCommand e.ch true (Frac.ofInt e.ma)).1.vOn e.ch b) ∧
      (servedAt q d (s.valveUntimed e)).vOn e.ch 15 = true ∧ ((servedAt q d (s.valveUntimed e)).valve e.ch).pulse =
        some ⟨s.now + d.le 24 4 * 1000, d.le 24 4 * 1000, d.tag, bitAt d.eflags 0, false⟩ := by
  obtain ⟨hon, hstop, htag, hrep⟩ := State.valveDesc_pulse hdesc hmode
  obtain ⟨hevs, h15⟩ := s.valveCommand_keeps e.ch true (Frac.ofInt e.ma)
  obtain ⟨hflag, hvalve, hvlv, -⟩ := servedAt_shows q d (s.valveUntimed e)
  split
  · next hr =>
    rw [hvlv, hflag, State.valveUntimed_refused hsrc hon hr]
    rw [hr] at h15
    exact ⟨hevs, h15⟩
  · next hr =>
    have hr' := eq_true_of_ne_false hr
    rw [hr'] at h15
    have hu := State.valveUntimed_taken hsrc hon hstop hr'
    have hkept (b : Nat) : (s.valveUntimed e).1.vOn e.ch b = (s.valveCommand e.ch true (Frac.ofInt e.ma)).1.vOn e.ch b := by
      rw [hu]
      exact (State.vOn_setValve _ _ _ _ _).trans ((State.pulseDone_keeps _ _ _).1 _ _)
    refine ⟨fun b => (hflag _ b).trans (hkept b), (hflag _ 15).trans ((hkept 15).trans h15), ?_⟩
    · rw [hvalve, hu, State.valve_setValve_same, htag, hrep, Nat.add_sub_cancel_left]

end Sys2Proof.Machine
end

section
/-! SUPPORT. SET and CANCEL descriptors, timed events and the wear commit of the valve channels (R316, R320-R324, R328). -/

namespace Sys2Proof.Machine

/-! ### PULSE (R328) -/

theorem execVlvPulse_starts {s : State} {q : Nat} {d : Desc} {e : ValveEvent} (h32 : 32 ≤ q) (h40 : q < 40) (hrun : s.running q 1 = some d)
    (hdesc : s.valveDesc d true = some e) (hmode : d.tmode = 0) (hsrc : s.rd (F.VLV_CHn_CTL_SRC e.ch) = 2) (hcan : s.vCan e.ch = true)
    (hprop : s.prop e.ch = false) (hoff : s.vOn e.ch 0 = false) (hdefer : s.vOn e.ch 11 = false) (hok : s.untimedOk e.ch = true)
    (hpeak : s.peakConflict e.ch s.now = none) (hq : s.vlv.defq.any (fun c => decide (c / 4 = e.ch / 4)) = false) :
    Completes (.vlvPulse q) s (fun t => t.vOn e.ch 15 = true ∧ t.vOn e.ch 0 = true ∧ t.vOn e.ch 1 = true ∧
      (t.valve e.ch).pulse.map (fun p => (p.stop, p.tag, p.report, p.timed)) = some (s.now + d.le 24 4 * 1000, d.tag, bitAt d.eflags 0, false)) := by
  refine ⟨_, execVlvPulse_eq h32 h40 hrun hdesc, ?_⟩
  dsimp only
  rw [if_neg (show ¬ d.tmode = 1 by omega)]
  have hcmd := State.valveCommand_starts (ma := Frac.ofInt e.ma) hcan hprop hoff hdefer hok hpeak hq
  have h := State.valveUntimed_pulse q hdesc hmode hsrc
  rw [if_neg (by rw [hcmd]; exact fun h => Bool.noConfusion h)] at h
  obtain ⟨hflag, h15, hpulse⟩ := h
  obtain ⟨-, h0, h1, -⟩ := State.commandedStart_shows (ma := Frac.ofInt e.ma) hprop
  rw [hcmd] at hflag
  exact ⟨h15, (hflag 0).trans h0, (hflag 1).trans h1, by rw [hpulse]; rfl⟩

theorem execVlvPulse_untimed {s : State} {q : Nat} {d : Desc} {e : ValveEvent} (h32 : 32 ≤ q) (h40 : q < 40) (hrun : s.running q 1 = some d)
    (hdesc : s.valveDesc d true = some e) (hmode : d.tmode = 0) :
    Completes (.vlvPulse q) s (fun t => if s.rd (F.VLV_CHn_CTL_SRC e.ch) ≠ 2 then t = s.complete q d { status := 0x40 }
      else if (s.valveCommand e.ch true (Frac.ofInt e.ma)).2 = false then t.vlv.evs = s.vlv.evs ∧ t.vOn e.ch 15 = s.vOn e.ch 15
      else t.vOn e.ch 15 = true ∧ (t.valve e.ch).pulse.map (fun p => (p.dur, p.tag, p.report, p.timed)) =
        some (d.le 24 4 * 1000, d.tag, bitAt d.eflags 0, false)) := by
  refine ⟨_, execVlvPulse_eq h32 h40 hrun hdesc, ?_⟩
  dsimp only
  rw [if_neg (show ¬ d.tmode = 1 by omega)]
  by_cases hsrc : s.rd (F.VLV_CHn_CTL_SRC e.ch) ≠ 2
  · rw [if_pos hsrc]
    exact State.valveUntimed_notSource q d hsrc
  rw [if_neg hsrc]
  have h := State.valveUntimed_pulse q hdesc hmode (not_not.mp hsrc)
  by_cases hr : (s.valveCommand e.ch true (Frac.ofInt e.ma)).2 = false
  · rw [if_pos hr] at h ⊢
    exact h
  · rw [if_neg hr] at h ⊢
    obtain ⟨-, h15, hpulse⟩ := h
    exact ⟨h15, by rw [hpulse]; rfl⟩

theorem execVlvPulse_malformed {s : State} {q : Nat} {d : Desc} (h32 : 32 ≤ q) (h40 : q < 40) (hrun : s.running q 1 = some d)
    (hdesc : s.valveDesc d true = none) : Completes (.vlvPulse q) s (fun t => t = s.complete q d { status := 2 }) := by
  refine ⟨_, congrArg Host.Outcome.next ((if_pos ⟨h32, h40⟩).trans (State.serveAt_of_running _ hrun)), ?_⟩
  dsimp only
  rw [hdesc]
  rfl

/-! ### SET (R328) -/

theorem State.pulseDone_safeOn (s : State) (n fl : Nat) : (s.pulseDone n fl).valveSafeOn n = s.valveSafeOn n := by
  unfold State.valveSafeOn
  rw [State.pulseDone_fsApplied]
  simp only [(s.pulseDone_keeps n fl).1]

theorem State.pulseDone_rest (s : State) (n fl : Nat) : (s.pulseDone n fl).restLevel n = s.restLevel n := by
  unfold State.restLevel
  rw [State.pulseDone_safeOn, State.pulseDone_fsApplied]

/-- A channel set off. -/
theorem State.valveUntimed_off {s : State} {e : ValveEvent} (hsrc : s.rd (F.VLV_CHn_CTL_SRC e.ch) = 2) (hon : e.on = false) (hstop : e.stop = none) :
    s.valveUntimed e = (((s.pulseDone e.ch 0).commanded e.ch false (Frac.ofInt 0)).valveOff e.ch, {}, 0) := by
  unfold State.valveUntimed
  dsimp only
  rw [if_neg (not_not_intro hsrc), hon, hstop]
  simp [State.valveCommand_off]

/-- What a SET on that is taken leaves of the command it gave. -/
theorem State.valveUntimed_on {s : State} {e : ValveEvent} (hsrc : s.rd (F.VLV_CHn_CTL_SRC e.ch) = 2) (hon : e.on = true) (hstop : e.stop = none) :
    (s.valveUntimed e).1.vlv.evs = s.vlv.evs ∧ ((s.valveCommand e.ch true (Frac.ofInt e.ma)).2 = true →
      ∀ b, (s.valveUntimed e).1.vOn e.ch b = (s.valveCommand e.ch true (Frac.ofInt e.ma)).1.vOn e.ch b) := by
  obtain ⟨hevs, -⟩ := s.valveCommand_keeps e.ch true (Frac.ofInt e.ma)
  unfold State.valveUntimed
  dsimp only
  rw [if_neg (not_not_intro hsrc), hon, hstop]
  simp only [if_true]
  by_cases hr : (s.valveCommand e.ch true (Frac.ofInt e.ma)).2 = false
  · rw [if_pos hr]
    exact ⟨hevs, fun h => absurd (hr.symm.trans h) (by decide)⟩
  · rw [if_neg hr]
    split
    · exact ⟨hevs, fun _ b => State.vOn_setValve _ _ _ _ _⟩
    · exact ⟨hevs, fun _ b => rfl⟩

theorem State.valveUntimed_set {s : State} (q : Nat) {d : Desc} {e : ValveEvent} (hdesc : s.valveDesc d false = some e)
    (hsrc : s.rd (F.VLV_CHn_CTL_SRC e.ch) = 2) :
    if e.on = false ∧ s.vlv.defq.any (fun c => decide (c / 4 = e.ch / 4)) = false then (servedAt q d (s.valveUntimed e)).vOn e.ch 15 = false ∧
      (servedAt q d (s.valveUntimed e)).vOn e.ch 0 = s.valveSafeOn e.ch ∧ ((servedAt q d (s.valveUntimed e)).valve e.ch).pulse = none ∧
      ((servedAt q d (s.valveUntimed e)).valve e.ch).lvl = (if s.valveSafeOn e.ch = true then safeLevel (s.fsApplied e.ch) else 0)
    else if e.on = true ∧ s.vOn e.ch 11 = false ∧ s.vOn e.ch 0 = false ∧ s.vCan e.ch = true ∧ s.prop e.ch = false ∧ s.untimedOk e.ch = true ∧
        s.peakConflict e.ch s.now = none ∧ s.vlv.defq.any (fun c => decide (c / 4 = e.ch / 4)) = false then
      (servedAt q d (s.valveUntimed e)).vOn e.ch 15 = true ∧ (servedAt q d (s.valveUntimed e)).vOn e.ch 0 = true ∧
      (servedAt q d (s.valveUntimed e)).vOn e.ch 1 = true
    else (servedAt q d (s.valveUntimed e)).vlv.evs = s.vlv.evs := by
  have hstop := State.valveDesc_set hdesc
  obtain ⟨hflag, hvalve, hvlv, -⟩ := servedAt_shows q d (s.valveUntimed e)
  split
  · next h =>
    obtain ⟨hon, hq⟩ := h
    have hnq : e.ch ∉ s.vlv.defq := fun hmem => by
      have := List.any_eq_false.mp hq e.ch hmem
      exact this (decide_eq_true rfl)
    obtain ⟨h15, h0, -, -, hx⟩ := State.commandedOff_shows (s := s.pulseDone e.ch 0) (n := e.ch) (ma := Frac.ofInt 0)
      (.inr (by rw [(s.pulseDone_keeps e.ch 0).2]; exact hnq))
    rw [hflag, hflag, hvalve, State.valveUntimed_off hsrc hon hstop, h15, h0, hx, State.pulseDone_safeOn, State.pulseDone_rest]
    exact ⟨rfl, rfl, by rw [State.pulseDone_valve], rfl⟩
  split
  · next h =>
    obtain ⟨hon, hdefer, hoff, hcan, hprop, hok, hpeak, hq⟩ := h
    have hcmd := State.valveCommand_starts (ma := Frac.ofInt e.ma) hcan hprop hoff hdefer hok hpeak hq
    obtain ⟨h15, h0, h1, -⟩ := State.commandedStart_shows (ma := Frac.ofInt e.ma) hprop
    have hkept := (State.valveUntimed_on hsrc hon hstop).2 (by rw [hcmd])
    rw [hcmd] at hkept
    exact ⟨(hflag _ 15).trans ((hkept 15).trans h15), (hflag _ 0).trans ((hkept 0).trans h0), (hflag _ 1).trans ((hkept 1).trans h1)⟩
  · rw [hvlv]
    cases hon : e.on with
    | true => exact (State.valveUntimed_on hsrc hon hstop).1
    | false =>
      rw [State.valveUntimed_off hsrc hon hstop]
      refine ((State.valveOff_drives _ _).part (fun x => x.vlv.evs) fun _ _ => rfl).trans ?_
      exact ((congrArg Valves.evs (State.commanded_vlv _ _ _ _)).trans rfl).trans
        ((s.pulseDone_drives e.ch 0).part (fun x => x.vlv.evs) fun _ _ => rfl)

/-! ### CANCEL (R328) -/

/-- The valves without the events of channel `n` and TAG `tag`. -/
def State.uncommanded (s : State) (n tag : Nat) : State :=
  { s with vlv := { s.vlv with evs := s.vlv.evs.filter (fun e => !(decide (e.ch = n) && decide (e.tag = tag))) } }

/-- A running pulse of channel `n` with TAG `tag` cut. -/
def State.pulseCancelled (s : State) (n tag : Nat) : State :=
  match (s.valve n).pulse with
  | some p => if p.tag = tag then (s.valveCut n).valveOff n else s
  | none => s

theorem State.valveCancel_eq (s : State) (n tag : Nat) : (s.valveCancel n tag).1 = ((s.uncommanded n tag).pulseCancelled n tag).grantPeak (n / 4) := rfl

theorem State.valveCut_cmd {s : State} {n : Nat} (h : (s.valve n).pulse.isSome = true) : (s.valveCut n).vOn n 15 = false := by
  obtain ⟨hnone, -⟩ | ⟨-, heq⟩ := s.valveCut_cases n
  · rw [hnone] at h
    exact absurd h (by decide)
  · rw [heq]
    exact State.vOn_vSet_same _ _ _ (by decide)

theorem State.grantPeak_drives (s : State) (b : Nat) : State.DrivesTo Set.univ s (s.grantPeak b) := .grantPeak _ _ fun _ _ _ => Set.mem_univ _

theorem State.valveOff_drivesAny (s : State) (n : Nat) : State.DrivesTo Set.univ s (s.valveOff n) :=
  (s.valveOff_drives n).mono (Set.subset_univ _)

theorem State.pulseCancelled_evs (s : State) (n tag : Nat) : (s.pulseCancelled n tag).vlv.evs = s.vlv.evs := by
  unfold State.pulseCancelled
  split
  · split
    · exact (((s.valveCut n).valveOff_drives n).part (fun x => x.vlv.evs) fun _ _ => rfl).trans
        (s.valveCut_part n (fun x => x.vlv.evs) fun _ _ => rfl)
    · rfl
  · rfl

theorem execVlvCancel_cancels {s : State} {q : Nat} {d : Desc} (h32 : 32 ≤ q) (h40 : q < 40) (hrun : s.running q 3 = some d)
    (hn : d.le 16 1 < s.code.valves) (hmode : d.tmode = 0) :
    Completes (.vlvCancel q) s (fun t => t.vlv.evs = s.vlv.evs.filter (fun e => !(decide (e.ch = d.le 16 1) && decide (e.tag = d.le 20 2))) ∧
      ((s.valve (d.le 16 1)).pulse.map (fun p => p.tag) = some (d.le 20 2) → (t.valve (d.le 16 1)).pulse = none ∧ t.vOn (d.le 16 1) 15 = false)) := by
  have hgo : ¬ (s.code.valves ≤ d.le 16 1 ∨ d.tmode ≠ 0) := by omega
  refine ⟨(s.valveCancel (d.le 16 1) (d.le 20 2)).1.complete q d { bytes := resultOf [(24, 4, (s.valveCancel (d.le 16 1) (d.le 20 2)).2)] }, ?_, ?_⟩
  · refine congrArg Host.Outcome.next ((if_pos ⟨h32, h40⟩).trans ((State.serve_of_running _ hrun).trans ?_))
    dsimp only
    rw [if_neg hgo]
  generalize d.le 16 1 = n at hn hgo ⊢
  generalize d.le 20 2 = tag
  generalize ({ bytes := resultOf [(24, 4, (s.valveCancel n tag).2)] } : Result) = r
  have hdone := State.AffectsOnly.complete (S := ∅) (s.valveCancel n tag).1 q d r
  rw [State.valveCancel_eq] at hdone ⊢
  have hgrant := ((s.uncommanded n tag).pulseCancelled n tag).grantPeak_drives (n / 4)
  refine ⟨(hdone.part (fun x => x.vlv.evs) fun _ _ => rfl).trans ((hgrant.part (fun x => x.vlv.evs) fun _ _ => rfl).trans
    ((s.uncommanded n tag).pulseCancelled_evs n tag)), fun hpulse => ?_⟩
  obtain ⟨p, hp, rfl⟩ := Option.map_eq_some_iff.mp hpulse
  have hp' : ((s.uncommanded n p.tag).valve n).pulse = some p := hp
  have hcut : (s.uncommanded n p.tag).pulseCancelled n p.tag = ((s.uncommanded n p.tag).valveCut n).valveOff n := by
    unfold State.pulseCancelled
    rw [hp']
    exact if_pos rfl
  rw [hcut] at hdone hgrant ⊢
  refine ⟨?_, ?_⟩
  · exact (congrArg Valve.pulse (State.valve_congr (hdone.part (fun x => x.vlv.chs) fun _ _ => rfl) n)).trans
      (State.grantPeak_noPulse _ (State.valveOff_noPulse n (State.valveCut_noPulse _ n)))
  · refine (hdone.on (notEntry_vlvStat n) (Set.notMem_empty _)).trans ((hgrant.flag n 15 (by decide) (by unfold driveBit; decide)).trans
      ((((s.uncommanded n p.tag).valveCut n).valveOff_drives n |>.flag n 15 (by decide) (by unfold driveBit; decide)).trans ?_))
    exact State.valveCut_cmd (by rw [hp']; rfl)

end Sys2Proof.Machine
end

section
/-! SUPPORT. Timed events (R316, R321) and the wear commit (R324) of the valve channels. -/

namespace Sys2Proof.Machine

/-! ### Timed events (R316, R321) -/

theorem fireEvent_dropFirst (e : ValveEvent) (l : List ValveEvent) : State.fireEvent.dropFirst e l = l.erase e := by
  induction l with
  | nil => rfl
  | cons x r ih =>
    unfold State.fireEvent.dropFirst
    rw [ih, List.erase_cons]
    by_cases h : x = e
    · rw [if_pos h, if_pos (beq_iff_eq.mpr h)]
    · rw [if_neg h, if_neg fun hx => h (beq_iff_eq.mp hx)]

/-- The valves without the event `e`. -/
def State.without (s : State) (e : ValveEvent) : State := { s with vlv := { s.vlv with evs := State.fireEvent.dropFirst e s.vlv.evs } }

section
variable (s : State) (e : ValveEvent)

theorem State.without_evs : (s.without e).vlv.evs = s.vlv.evs.erase e := fireEvent_dropFirst e s.vlv.evs
theorem State.without_vOn (n b : Nat) : (s.without e).vOn n b = s.vOn n b := rfl
theorem State.without_on (f : Fld) : (s.without e).on f = s.on f := rfl
theorem State.without_prop (n : Nat) : (s.without e).prop n = s.prop n := rfl
theorem State.without_valve (n : Nat) : (s.without e).valve n = s.valve n := State.valve_congr rfl n
theorem State.without_defq : (s.without e).vlv.defq = s.vlv.defq := rfl
theorem State.without_fsApplied (n : Nat) : (s.without e).fsApplied n = s.fsApplied n := rfl

theorem State.without_vCan (n : Nat) : (s.without e).vCan n = s.vCan n := by
  unfold State.vCan
  simp only [State.without_vOn, State.without_on]

end

theorem State.blockedEvent_affects (s : State) (n : Nat) (e : ValveEvent) : State.AffectsOnly ∅ s (s.blockedEvent n e) := by
  unfold State.blockedEvent
  extract_lets t
  have ht : State.AffectsOnly ∅ s t := State.DrivesTo.vlvEntry_affects ∅ s 7 n none
  exact .ite _ (fun _ => ht) fun _ => .ite _ (fun _ => (ht.trans (State.actuation_affects ∅ _ _ _ _ _ _)).trans (.tickFree _))
    fun _ => ((ht.trans (State.actuation_affects ∅ _ _ _ _ _ _)).trans (.tickFree _)).trans (.tickFree _)

/-- The valves at the time of `e`, which leaves the events and, where it is blocked, is told. -/
def State.fired (s : State) (e : ValveEvent) : State :=
  if (s.without e).vCan e.ch = false ∨ (s.without e).vOn e.ch 5 = true then (s.without e).blockedEvent e.ch e else s.without e

theorem State.fired_affects (s : State) (e : ValveEvent) : State.AffectsOnly ∅ (s.without e) (s.fired e) :=
  .ite _ (fun _ => State.blockedEvent_affects _ _ _) fun _ => .refl _

section
variable (s : State) (e : ValveEvent)

theorem State.fired_vOn (n b : Nat) : (s.fired e).vOn n b = s.vOn n b :=
  ((s.fired_affects e).on (notEntry_vlvStat n) (Set.notMem_empty _)).trans (s.without_vOn e n b)

theorem State.fired_valve (n : Nat) : (s.fired e).valve n = s.valve n :=
  (State.valve_congr ((s.fired_affects e).part (fun x => x.vlv.chs) fun _ _ => rfl) n).trans (s.without_valve e n)

theorem State.fired_evs : (s.fired e).vlv.evs = s.vlv.evs.erase e :=
  ((s.fired_affects e).part (fun x => x.vlv.evs) fun _ _ => rfl).trans (s.without_evs e)

theorem State.fired_defq : (s.fired e).vlv.defq = s.vlv.defq :=
  ((s.fired_affects e).part (fun x => x.vlv.defq) fun _ _ => rfl).trans (s.without_defq e)

theorem State.fired_fsApplied (n : Nat) : (s.fired e).fsApplied n = s.fsApplied n :=
  ((s.fired_affects e).part (fun x => x.fsApplied n) fun _ _ => rfl).trans (s.without_fsApplied e n)

theorem State.fired_safeOn (n : Nat) : (s.fired e).valveSafeOn n = s.valveSafeOn n := by
  unfold State.valveSafeOn
  rw [State.fired_fsApplied]
  simp only [State.fired_vOn]

end

/-- A blocked turn-on takes the command state of a SET alone. -/
def State.blockedSet (s : State) (e : ValveEvent) : State :=
  if e.stop = none then (s.setValve e.ch { s.valve e.ch with ma := if s.prop e.ch then Frac.ofInt e.ma else (s.valve e.ch).ma }).vSet e.ch 15 true
  else s

/-- A channel that is off takes the command of a turn-on. -/
def State.fireSet (s : State) (e : ValveEvent) : State :=
  ((s.fired e).setValve e.ch { (s.fired e).valve e.ch with ma := if (s.fired e).prop e.ch then Frac.ofInt e.ma else ((s.fired e).valve e.ch).ma }).vSet
    e.ch 15 true

/-- What a turn-on leaves to end or to report: the pulse it starts, or the entry it owes. -/
def State.firePulse (s : State) (e : ValveEvent) : State :=
  match e.stop with
  | some stop => s.setValve e.ch { s.valve e.ch with pulse := some ⟨stop, stop - e.t, e.tag, e.report, true⟩ }
  | none => if e.report ∧ s.vOn e.ch 1 then s.setValve e.ch { s.valve e.ch with rep := some e.tag } else s

/-- The output of channel `n` follows the command of a turn-on. -/
def State.fireDrive (s : State) (n : Nat) : State :=
  let t := if s.vOn n 11 then s.undefer n else s
  if t.vWants n = false then t.valveOff n else if t.vOn n 0 then t.valveResume n else t.valveStart n

theorem State.fireEvent_eq (s : State) (e : ValveEvent) : s.fireEvent e =
    if e.on = false then ((s.fired e).pulseOver e.ch (Frac.ofInt 0)).valveOff e.ch
    else if (s.without e).vCan e.ch = false ∨ (s.without e).vOn e.ch 5 = true then ((s.fired e).blockedSet e).grantPeak (e.ch / 4)
    else ((s.fireSet e).fireDrive e.ch).firePulse e := rfl

theorem State.without_blocked (s : State) (e : ValveEvent) :
    ((s.without e).vCan e.ch = false ∨ (s.without e).vOn e.ch 5 = true) ↔ (s.vCan e.ch = false ∨ s.vOn e.ch 5 = true) := by
  rw [State.without_vCan, State.without_vOn]

theorem State.fireSet_vOn (s : State) (e : ValveEvent) {b : Nat} (hb : b < 32) (h : b ≠ 15) : (s.fireSet e).vOn e.ch b = s.vOn e.ch b :=
  (State.vOn_vSet_beside _ _ _ _ (by decide) hb h).trans ((State.vOn_setValve _ _ _ _ _).trans (s.fired_vOn e _ _))

theorem State.fireSet_cmd (s : State) (e : ValveEvent) : (s.fireSet e).vOn e.ch 15 = true := State.vOn_vSet_same _ _ _ (by decide)

theorem vlvCtl_notEntry (n : Nat) : ¬ entryBlock (Reg.VLV_CHn_CTL n / 0x1000) := notEntry (by unfold Reg.VLV_CHn_CTL; omega)

theorem State.fired_prop (s : State) (e : ValveEvent) (n : Nat) : (s.fired e).prop n = s.prop n :=
  ((s.fired_affects e).on (vlvCtl_notEntry n) (Set.notMem_empty _)).trans (s.without_prop e n)

theorem State.fireSet_prop (s : State) (e : ValveEvent) : (s.fireSet e).prop e.ch = s.prop e.ch :=
  (State.on_congr (State.vSet_cfg _ _ _ _ e.ch (vlvCtl_addr e.ch) (by decide) (by decide))).trans
    ((State.on_congr (State.setValve_rd _ _ _ _)).trans (s.fired_prop e _))

theorem State.fireDrive_starts {s : State} {n : Nat} (hprop : s.prop n = false) (hcmd : s.vOn n 15 = true) (hoff : s.vOn n 0 = false)
    (hdefer : s.vOn n 11 = false) : s.fireDrive n = s.valveStart n := by
  have hwants : s.vWants n = true := by
    unfold State.vWants
    rw [hcmd, hprop]
    rfl
  unfold State.fireDrive
  rw [hdefer]
  dsimp only
  rw [if_neg Bool.false_ne_true, hwants, hoff, if_neg (by decide), if_neg Bool.false_ne_true]

theorem State.firePulse_shows (s : State) (e : ValveEvent) : (∀ b, (s.firePulse e).vOn e.ch b = s.vOn e.ch b) ∧
    (s.firePulse e).vlv.evs = s.vlv.evs ∧ ((s.firePulse e).valve e.ch).pulse =
      (e.stop.map (fun p => (⟨p, p - e.t, e.tag, e.report, true⟩ : ValvePulse))).or (s.valve e.ch).pulse := by
  unfold State.firePulse
  split
  · next stop hstop =>
    rw [hstop, State.valve_setValve_same]
    exact ⟨fun b => State.vOn_setValve _ _ _ _ _, rfl, rfl⟩
  · next hstop =>
    rw [hstop]
    split
    · rw [State.valve_setValve_same]
      exact ⟨fun b => State.vOn_setValve _ _ _ _ _, rfl, rfl⟩
    · exact ⟨fun b => rfl, rfl, rfl⟩

/-- A turn-on of a channel that is off, and that nothing blocks. -/
theorem State.fireEvent_starts {s : State} {e : ValveEvent} (hon : e.on = true) (hcan : s.vCan e.ch = true) (hlim : s.vOn e.ch 5 = false)
    (hprop : s.prop e.ch = false) (hoff : s.vOn e.ch 0 = false) (hdefer : s.vOn e.ch 11 = false) :
    (s.fireEvent e).vOn e.ch 15 = true ∧ (s.fireEvent e).vOn e.ch 0 = true ∧ (s.fireEvent e).vOn e.ch 1 = true ∧
      ((s.fireEvent e).valve e.ch).pulse =
        (e.stop.map (fun p => (⟨p, p - e.t, e.tag, e.report, true⟩ : ValvePulse))).or (s.valve e.ch).pulse := by
  have hb : ¬ ((s.without e).vCan e.ch = false ∨ (s.without e).vOn e.ch 5 = true) := by
    rw [State.without_blocked, hcan, hlim]
    decide
  have hp := (s.fireSet_prop e).trans hprop
  have heq : s.fireEvent e = ((s.fireSet e).valveStart e.ch).firePulse e := by
    rw [State.fireEvent_eq, if_neg (by rw [hon]; decide), if_neg hb, State.fireDrive_starts hp (s.fireSet_cmd e)
      ((s.fireSet_vOn e (by decide) (by decide)).trans hoff) ((s.fireSet_vOn e (by decide) (by decide)).trans hdefer)]
  obtain ⟨hflag, -, hpulse⟩ := ((s.fireSet e).valveStart e.ch).firePulse_shows e
  obtain ⟨h0, h1, -⟩ := State.valveStart_peak hp
  have hd := State.DrivesTo.valveStart (C := {e.ch}) (s.fireSet e) (Set.mem_singleton e.ch)
  have hkept : ((s.fireSet e).valve e.ch).pulse = (s.valve e.ch).pulse := by
    refine (congrArg Valve.pulse ((State.vSet_valve _ _ _ _ _).trans (State.valve_setValve_same _ _ _))).trans ?_
    exact (show _ = ((s.fired e).valve e.ch).pulse from rfl).trans (congrArg Valve.pulse (s.fired_valve e e.ch))
  rw [heq]
  refine ⟨(hflag 15).trans ((hd.flag _ 15 (by decide) (by unfold driveBit; decide)).trans (s.fireSet_cmd e)), (hflag 0).trans h0, (hflag 1).trans h1, ?_⟩
  rw [hpulse, State.valveStart_pulse, hkept]

theorem State.grantPeak_idle {s : State} {b : Nat} (h : s.vlv.defq.any (fun c => decide (c / 4 = b)) = false) : s.grantPeak b = s := by
  have hfind : s.vlv.defq.find? (fun c => decide (c / 4 = b)) = none := by
    rw [List.find?_eq_none]
    intro c hc
    exact List.any_eq_false.mp h c hc
  unfold State.grantPeak
  rw [hfind]

theorem State.blockedSet_shows (s : State) (e : ValveEvent) : (∀ b, b < 32 → b ≠ 15 → (s.blockedSet e).vOn e.ch b = s.vOn e.ch b) ∧
    (s.blockedSet e).vOn e.ch 15 = (e.stop.isNone || s.vOn e.ch 15) ∧ (s.blockedSet e).vlv.evs = s.vlv.evs ∧
    (s.blockedSet e).vlv.defq = s.vlv.defq := by
  unfold State.blockedSet
  split
  · next h =>
    rw [h]
    exact ⟨fun b hb h15 => (State.vOn_vSet_beside _ _ _ _ (by decide) hb h15).trans (State.vOn_setValve _ _ _ _ _),
      State.vOn_vSet_same _ _ _ (by decide), rfl, rfl⟩
  · next h =>
    obtain ⟨x, hx⟩ := Option.ne_none_iff_exists'.mp h
    rw [hx]
    exact ⟨fun b _ _ => rfl, rfl, rfl, rfl⟩

/-- A turn-on its channel does not take. -/
theorem State.fireEvent_blocked {s : State} {e : ValveEvent} (hon : e.on = true) (hb : s.vCan e.ch = false ∨ s.vOn e.ch 5 = true)
    (hq : s.vlv.defq.any (fun c => decide (c / 4 = e.ch / 4)) = false) :
    (s.fireEvent e).vOn e.ch 0 = s.vOn e.ch 0 ∧ (s.fireEvent e).vOn e.ch 15 = (e.stop.isNone || s.vOn e.ch 15) := by
  obtain ⟨hflag, h15, -, hdefq⟩ := (s.fired e).blockedSet_shows e
  rw [State.fireEvent_eq, if_neg (by rw [hon]; decide), if_pos ((s.without_blocked e).mpr hb),
    State.grantPeak_idle (by rw [hdefq, State.fired_defq]; exact hq), hflag 0 (by decide) (by decide), h15, State.fired_vOn, State.fired_vOn]
  exact ⟨rfl, rfl⟩

theorem State.fireEvent_off {s : State} {e : ValveEvent} (hon : e.on = false) (hq : e.ch ∉ s.vlv.defq) :
    (s.fireEvent e).vOn e.ch 15 = false ∧ (s.fireEvent e).vOn e.ch 0 = s.valveSafeOn e.ch := by
  obtain ⟨h0, h15, -⟩ := State.pulseOver_rests (s := s.fired e) (n := e.ch) (Frac.ofInt 0) (by rw [State.fired_defq]; exact hq)
  rw [State.fireEvent_eq, if_pos hon, h0, h15, State.fired_safeOn]
  exact ⟨rfl, rfl⟩

theorem State.fireDrive_evs (s : State) (n : Nat) : (s.fireDrive n).vlv.evs = s.vlv.evs := by
  have hd : State.DrivesTo Set.univ s (s.fireDrive n) := by
    unfold State.fireDrive
    extract_lets t
    have ht : State.DrivesTo Set.univ s t := .ite _ (fun _ => .undefer s (Set.mem_univ n)) fun _ => .refl s
    exact ht.trans (.ite _ (fun _ => t.valveOff_drivesAny n) fun _ => .ite _ (fun _ => (t.valveResume_drives n).mono (Set.subset_univ _))
      fun _ => .valveStart t (Set.mem_univ n))
  exact hd.part (fun x => x.vlv.evs) fun _ _ => rfl

theorem State.fireEvent_evs (s : State) (e : ValveEvent) : (s.fireEvent e).vlv.evs = s.vlv.evs.erase e := by
  rw [State.fireEvent_eq]
  split
  · refine ((State.valveOff_drivesAny _ _).part (fun x => x.vlv.evs) fun _ _ => rfl).trans (Eq.trans ?_ (s.fired_evs e))
    exact ((s.fired e).pulseDone_drives e.ch 0).part (fun x => x.vlv.evs) fun _ _ => rfl
  split
  · exact ((State.grantPeak_drives _ _).part (fun x => x.vlv.evs) fun _ _ => rfl).trans (((s.fired e).blockedSet_shows e).2.2.1.trans (s.fired_evs e))
  · exact (((s.fireSet e).fireDrive e.ch).firePulse_shows e).2.1.trans ((State.fireDrive_evs _ _).trans (s.fired_evs e))

theorem State.nextEvent_bank {s : State} {b : Nat} {e : ValveEvent} (h : s.nextEvent b = some e) : e.ch / 4 = b := by
  have hkeep := foldl_keeps (f := fun (o : Option ValveEvent) (e : ValveEvent) => match o with
      | none => some e
      | some x => if e.t < x.t ∨ (e.t = x.t ∧ e.on = false ∧ x.on = true) then some e else some x)
    (I := fun o => ∀ x, o = some x → x.ch / 4 = b)
    (s.vlv.evs.filter (fun e => decide (e.ch / 4 = b) && decide (e.t ≤ s.now))) none (fun x hx => absurd hx (by simp)) fun o x hx hI y hy => ?_
  · exact hkeep e h
  have hb : x.ch / 4 = b := by
    have := (List.mem_filter.mp hx).2
    simp only [Bool.and_eq_true, decide_eq_true_eq] at this
    exact this.1
  cases o with
  | none => exact Option.some.inj hy ▸ hb
  | some z =>
    dsimp only at hy
    split at hy
    · exact Option.some.inj hy ▸ hb
    · exact Option.some.inj hy ▸ hI z rfl

theorem execTimedValveEvent_fires {s : State} {b : Nat} {e : ValveEvent} (hbed : s.bedOn = true) (hb : 4 * b < s.code.valves)
    (hnone : (bankChannels b).all (fun c => (s.valve c).pulse.all (fun p => !p.timed || decide (s.now < p.stop))) = true)
    (hnext : s.nextEvent b = some e) (hq : s.vlv.defq.any (fun c => decide (c / 4 = b)) = false) :
    Completes (.timedValveEvent b) s (fun t => t.vlv.evs = s.vlv.evs.erase e ∧
      (e.on = false → t.vOn e.ch 15 = false ∧ t.vOn e.ch 0 = s.valveSafeOn e.ch) ∧
      (e.on = true → (s.vCan e.ch = false ∨ s.vOn e.ch 5 = true) → t.vOn e.ch 0 = s.vOn e.ch 0 ∧ t.vOn e.ch 15 = (e.stop.isNone || s.vOn e.ch 15)) ∧
      (e.on = true → s.vCan e.ch = true → s.vOn e.ch 5 = false → s.prop e.ch = false → s.vOn e.ch 0 = false → s.vOn e.ch 11 = false →
        t.vOn e.ch 15 = true ∧ t.vOn e.ch 0 = true ∧ t.vOn e.ch 1 = true ∧
        (t.valve e.ch).pulse = (e.stop.map (fun p => ⟨p, p - e.t, e.tag, e.report, true⟩)).or (s.valve e.ch).pulse)) := by
  have hstill : (bankChannels b).foldl (fun (x : State) c => match (x.valve c).pulse with
      | some p => if p.timed ∧ p.stop ≤ s.now then x.pulseOff c else x
      | none => x) s = s := by
    refine foldl_keeps (I := fun x : State => x = s) _ _ rfl fun x c hc hx => ?_
    rw [hx]
    have hp := List.all_eq_true.mp hnone c hc
    cases hpulse : (s.valve c).pulse with
    | none => rfl
    | some p =>
      rw [hpulse] at hp
      refine if_neg ?_
      simp only [Option.all_some, Bool.or_eq_true, Bool.not_eq_true', decide_eq_true_eq] at hp
      rintro ⟨htimed, hstop⟩
      obtain h | h := hp
      · exact absurd (htimed.symm.trans h) (by decide)
      · omega
  refine ⟨s.fireEvent e, congrArg Host.Outcome.next ((if_neg ?_).trans ?_), ?_⟩
  · rw [hbed]
    simp
    omega
  · refine (congrArg (fun x : State => match x.nextEvent b with
      | some e => x.fireEvent e
      | none => x) hstill).trans ?_
    rw [hnext]
  have hbank := State.nextEvent_bank hnext
  have hq' : s.vlv.defq.any (fun c => decide (c / 4 = e.ch / 4)) = false := by
    rw [hbank]
    exact hq
  have hnq : e.ch ∉ s.vlv.defq := fun hmem => List.any_eq_false.mp hq' e.ch hmem (decide_eq_true rfl)
  exact ⟨s.fireEvent_evs e, fun hon => State.fireEvent_off hon hnq, fun hon hbl => State.fireEvent_blocked hon hbl hq',
    fun hon hcan hlim hprop hoff hdefer => State.fireEvent_starts hon hcan hlim hprop hoff hdefer⟩

/-! ### The wear commit (R324) -/

/-- Stores under other keys keep what a key holds. -/
theorem SMap.get_foldl_set_other {α β : Type} [DecidableEq α] (dflt : Nat → α) (key : β → Nat) (val : β → α) (l : List β) (w : SMap α) {i : Nat}
    (h : ∀ p ∈ l, i ≠ key p) : SMap.get dflt (l.foldl (fun m p => SMap.set dflt m (key p) (val p)) w) i = SMap.get dflt w i :=
  foldl_keeps (I := fun m => SMap.get dflt m i = SMap.get dflt w i) l w rfl fun _ p hp hm => (SMap.get_set_other _ _ _ (h p hp)).trans hm

/-- A loop that stores a value under each number below a bound holds it there. -/
theorem SMap.get_foldl_set_range {α : Type} [DecidableEq α] (dflt : Nat → α) (val : Nat → α) (w : SMap α) {k i : Nat} (h : i < k) :
    SMap.get dflt ((List.range k).foldl (fun m n => SMap.set dflt m n (val n)) w) i = val i :=
  (foldl_establishes (f := fun m n => SMap.set dflt m n (val n)) (I := fun _ => True) (P := fun n m => SMap.get dflt m n = val n)
    (List.range k) w trivial (fun _ _ _ _ => trivial) (fun _ _ _ _ => SMap.get_set_same _ _ _ _)
    fun m n j _ _ _ hm => by
      by_cases hnj : n = j
      · rw [hnj]
        exact SMap.get_set_same _ _ _ _
      · exact (SMap.get_set_other _ _ _ hnj).trans hm).2 i (List.mem_range.mpr h)

theorem State.commitWear_valve (s : State) {n : Nat} (h : n < 48) : s.commitWear.valveWear n = s.valveWear n := by
  have hstored : SMap.get (fun _ => 0) s.commitWear.outs.wear n = s.valveWear n :=
    (SMap.get_foldl_set_other _ (fun p : Nat × Nat => 120 + p.1) _ _ _ fun p _ => by omega).trans
      ((SMap.get_foldl_set_other _ (fun p : Nat × Nat => 112 + p.1) _ _ _ fun p _ => by omega).trans
        ((SMap.get_foldl_set_other _ (fun p : Nat => 48 + p) _ _ _ fun p _ => by omega).trans (SMap.get_foldl_set_range _ _ _ h)))
  unfold State.valveWear at hstored ⊢
  exact congrArg (fun k => k + 0) hstored

theorem execWearCommit_commits {s : State} (hbed : s.bedOn = true) (hdue : s.vlv.lastCommit + 1000000000 ≤ s.now) :
    Completes .wearCommit s (fun t => t.vlv.wear = [] ∧ t.vlv.lastCommit = s.now ∧
      (List.range 48).all (fun n => decide (t.valveWear n = s.valveWear n)) = true ∧ t.regs = s.regs) := by
  refine ⟨s.commitWear, congrArg Host.Outcome.next (if_pos ⟨hbed, hdue⟩), rfl, rfl, ?_, rfl⟩
  rw [List.all_eq_true]
  exact fun n hn => decide_eq_true (s.commitWear_valve (List.mem_range.mp hn))

/-- Settles O32: descriptors by the checks they pass, events by what they find at their time. -/
theorem valveTimedCommandsComplete : Obligations.ValveTimedCommandsComplete := by
  unfold Obligations.ValveTimedCommandsComplete
  refine ⟨?_, ?_, ?_, ?_, ?_, ?_, ?_, ?_, ?_, ?_, ?_⟩
  · intro s q d e h32 h40 hrun hdesc hmode htime
    refine ⟨_, execVlvPulse_eq h32 h40 hrun hdesc, ?_⟩
    rw [if_pos hmode]
    exact State.valveAccept_checks q htime
  · intro s q d e h32 h40 hrun hdesc hmode htime
    refine ⟨_, execVlvPulse_eq h32 h40 hrun hdesc, ?_⟩
    rw [if_pos hmode]
    exact State.valveAccept_late q htime
  · intro s q d e h32 h40 hrun hdesc hmode htime
    refine ⟨_, execVlvSet_eq h32 h40 hrun hdesc, ?_⟩
    rw [if_pos hmode]
    exact State.valveAccept_checks q htime
  · intro s q d e h32 h40 hrun hdesc hmode htime
    refine ⟨_, execVlvSet_eq h32 h40 hrun hdesc, ?_⟩
    rw [if_pos hmode]
    exact State.valveAccept_late q htime
  · exact fun s q d e => execVlvPulse_starts
  · exact fun s q d e => execVlvPulse_untimed
  · exact fun s q d => execVlvPulse_malformed
  · intro s q d e h32 h40 hrun hdesc hmode
    refine ⟨_, execVlvSet_eq h32 h40 hrun hdesc, ?_⟩
    dsimp only
    rw [if_neg (show ¬ d.tmode = 1 by omega)]
    by_cases hsrc : s.rd (F.VLV_CHn_CTL_SRC e.ch) ≠ 2
    · rw [if_pos hsrc]
      exact State.valveUntimed_notSource q d hsrc
    · rw [if_neg hsrc]
      exact State.valveUntimed_set q hdesc (not_not.mp hsrc)
  · exact fun s q d => execVlvCancel_cancels
  · exact fun s b e => execTimedValveEvent_fires
  · exact fun s => execWearCommit_commits

end Sys2Proof.Machine
end

section
/-! SUPPORT. Commands to the load switches (R333-R335), each by what it carries out. -/

namespace Sys2Proof.Machine

/-! ### What the drive of a load switch looks at -/

/-- `t` drives the load switches as `s` does, but for the commands: their flags, set-up and groups. -/
structure State.SwitchAs (s t : State) : Prop where
  flag : ∀ m b, b < 32 → b ≠ 1 → b ≠ 11 → t.lOn m b = s.lOn m b
  ctl : ∀ m, t.reg (Reg.LSW_CHn_CTL m) = s.reg (Reg.LSW_CHn_CTL m)
  lim : ∀ m, t.reg (Reg.LSW_CHn_LIM m) = s.reg (Reg.LSW_CHn_LIM m)
  grpStat : ∀ g, t.reg (Reg.LSW_GRPg_STAT g) = s.reg (Reg.LSW_GRPg_STAT g)
  code : t.code = s.code
  now : t.now = s.now
  applied : ∀ k, t.fsApplied k = s.fsApplied k
  grps : t.lsw.grps = s.lsw.grps

namespace State.SwitchAs

variable {s t u : State}

theorem trans (h : s.SwitchAs t) (h' : t.SwitchAs u) : s.SwitchAs u :=
  ⟨fun m b hb h1 h11 => (h'.flag m b hb h1 h11).trans (h.flag m b hb h1 h11), fun m => (h'.ctl m).trans (h.ctl m),
    fun m => (h'.lim m).trans (h.lim m), fun g => (h'.grpStat g).trans (h.grpStat g), h'.code.trans h.code, h'.now.trans h.now,
    fun k => (h'.applied k).trans (h.applied k), h'.grps.trans h.grps⟩

theorem pwm (h : s.SwitchAs t) (n : Nat) : t.pwm n = s.pwm n := State.on_congr (State.rd_congr (h.ctl n))

theorem grp (h : s.SwitchAs t) (g : Nat) : t.grp g = s.grp g := by
  unfold State.grp
  rw [h.grps]

theorem lCan (h : s.SwitchAs t) (n : Nat) : t.lCan n = s.lCan n := by
  have hen : t.on (F.LSW_CHn_CTL_EN n) = s.on (F.LSW_CHn_CTL_EN n) := State.on_congr (State.rd_congr (h.ctl n))
  unfold State.lCan State.lswCarried
  rw [h.code, hen]
  simp (disch := decide) only [h.flag]

theorem lswSafeOn (h : s.SwitchAs t) (n : Nat) : t.lswSafeOn n = s.lswSafeOn n := by
  unfold State.lswSafeOn
  rw [h.applied]
  simp (disch := decide) only [h.flag]

theorem budSum (h : s.SwitchAs t) (g : Nat) : t.budSum g = s.budSum g := by
  have hbud (c : Nat) : t.rd (F.LSW_CHn_LIM_BUD c) = s.rd (F.LSW_CHn_LIM_BUD c) := State.rd_congr (h.lim c)
  unfold State.budSum
  simp (disch := decide) only [h.flag, hbud]

theorem budFits (h : s.SwitchAs t) (n : Nat) : t.budFits n = s.budFits n := by
  have hbud : t.rd (F.LSW_CHn_LIM_BUD n) = s.rd (F.LSW_CHn_LIM_BUD n) := State.rd_congr (h.lim n)
  have hlim : t.rd (F.LSW_GRPg_STAT_LIM (groupOf n)) = s.rd (F.LSW_GRPg_STAT_LIM (groupOf n)) := State.rd_congr (h.grpStat _)
  unfold State.budFits
  rw [h.budSum, hbud, hlim]

end State.SwitchAs

theorem lswStat_notCtl (m n : Nat) : Reg.LSW_CHn_CTL m ≠ Reg.LSW_CHn_STAT n := by
  unfold Reg.LSW_CHn_CTL Reg.LSW_CHn_STAT
  omega

theorem lswStat_notLim (m n : Nat) : Reg.LSW_CHn_LIM m ≠ Reg.LSW_CHn_STAT n := by
  unfold Reg.LSW_CHn_LIM Reg.LSW_CHn_STAT
  omega

theorem lswStat_notGrp (g n : Nat) : Reg.LSW_GRPg_STAT g ≠ Reg.LSW_CHn_STAT n := by
  unfold Reg.LSW_GRPg_STAT Reg.LSW_CHn_STAT
  omega

/-- Flags of the command, CMD and CLAMP, drive nothing by themselves. -/
theorem State.SwitchAs.lSet (s : State) (n : Nat) {b : Nat} (v : Bool) (hb : b = 1 ∨ b = 11) : s.SwitchAs (s.lSet n b v) where
  flag m c hc h1 h11 := s.lOn_lSet_beside n m v (by omega) hc (by omega)
  ctl m := s.lSet_reg n b v (lswStat_notCtl m n)
  lim m := s.lSet_reg n b v (lswStat_notLim m n)
  grpStat g := s.lSet_reg n b v (lswStat_notGrp g n)
  code := rfl
  now := rfl
  applied _ := rfl
  grps := rfl

theorem State.SwitchAs.setSw (s : State) (n : Nat) (x : Switch) : s.SwitchAs (s.setSw n x) :=
  ⟨fun _ _ _ _ _ => rfl, fun _ => rfl, fun _ => rfl, fun _ => rfl, rfl, rfl, fun _ => rfl, rfl⟩

/-! ### Commands (R334, R335) -/

/-- A switch that takes a duty. -/
def State.switchDuty (s : State) (n : Nat) (duty : Frac) : Switch :=
  if (s.sw n).duty = duty then s.sw n else { s.sw n with duty := duty, was := s.dutyNow n, changed := s.now }

theorem State.switchDuty_duty (s : State) (n : Nat) (duty : Frac) : (s.switchDuty n duty).duty = duty := by
  unfold State.switchDuty
  split
  · assumption
  · rfl

theorem State.switchDuty_pulse (s : State) (n : Nat) (duty : Frac) : (s.switchDuty n duty).pulse = (s.sw n).pulse := by
  unfold State.switchDuty
  split <;> rfl

/-- A channel that has taken a command and not yet followed it. -/
def State.lswCommanded (s : State) (n : Nat) (on : Bool) (duty : Frac) : State := ((s.setSw n (s.switchDuty n duty)).lSet n 1 on).lClamp n

/-- A channel is brought to a command state whose CLAMP is up to date. -/
def State.lswDrive (s : State) (n : Nat) : State :=
  if (s.lCan n && s.lWants n) = false then s.lswOff n
  else if s.lOn n 0 then s
  else if s.lOn n 3 then s.admitHeld (groupOf n)
  else if s.budFits n then s.lswStart n
  else (s.lSet n 3 true).inc F.LSW_CONFCNT_HELD

theorem State.lswCommand_eq (s : State) (n : Nat) (on : Bool) (duty : Frac) : s.lswCommand n on duty = (s.lswCommanded n on duty).lswDrive n := rfl

theorem State.lswFollow_eq (s : State) (n : Nat) : s.lswFollow n = (s.lClamp n).lswDrive n := rfl

theorem State.lswDrive_switches (s : State) (n : Nat) : SwitchTo (groupSet n) s (s.lswDrive n) :=
  .ite _ (fun _ => .lswOff s (.inl rfl) fun _ hm => .inr hm) fun _ => .ite _ (fun _ => .refl s) fun _ =>
    .ite _ (fun _ => .admitHeld s _ fun _ hm _ => .inr hm) fun _ => .ite _ (fun _ => .lswStart s (.inl rfl)) fun _ =>
      (SwitchTo.lSet (C := groupSet n) s _ (.inl rfl) SwitchTo.switch_held).trans (.held _)

section
variable (s : State) (n : Nat) (on : Bool) (duty : Frac)

theorem State.lswCommanded_as : s.SwitchAs (s.lswCommanded n on duty) :=
  ((State.SwitchAs.setSw s n _).trans (.lSet _ n _ (.inl rfl))).trans (.lSet _ n _ (.inr rfl))

theorem State.lswCommanded_cmd : (s.lswCommanded n on duty).lOn n 1 = on :=
  (State.lOn_lSet_beside _ n n _ (by decide) (by decide) (by decide)).trans (State.lOn_lSet_same _ n on (by decide))

theorem State.lswCommanded_sw : (s.lswCommanded n on duty).sw n = s.switchDuty n duty :=
  (State.sw_congr (congrArg Switches.chs (State.lSet_lsw _ _ _ _)) n).trans
    ((State.sw_congr (congrArg Switches.chs (State.lSet_lsw _ _ _ _)) n).trans (s.sw_setSw_same n _))

theorem State.lswCommanded_reg {k : Nat} (h : k ≠ Reg.LSW_CHn_STAT n) : (s.lswCommanded n on duty).reg k = s.reg k :=
  (State.lSet_reg _ n 11 _ h).trans (State.lSet_reg _ n 1 _ h)

/-- An on-off channel wants the drive it is commanded to. -/
theorem State.lswCommanded_wants (h : s.pwm n = false) : (s.lswCommanded n on duty).lWants n = on := by
  unfold State.lWants
  rw [State.lswCommanded_cmd, (s.lswCommanded_as n on duty).pwm, h]
  exact Bool.and_true on

theorem State.lswCommanded_off : (s.lswCommanded n false duty).lWants n = false := by
  unfold State.lWants
  rw [State.lswCommanded_cmd]
  rfl

end

/-! ### Turning on and off -/

theorem State.budReg_lOn (s : State) (g m b : Nat) : (s.budReg g).lOn m b = s.lOn m b :=
  State.on_congr (s.rd_wr_other _ (lswStat_notGrp g m).symm)

theorem State.budReg_sw (s : State) (g m : Nat) : (s.budReg g).sw m = s.sw m := State.sw_congr rfl m

theorem State.olMap_lOn (s : State) (n m b : Nat) : (s.olMap n).lOn m b = s.lOn m b := by
  refine State.on_congr (State.rd_congr (State.reg_wrB_other _ _ ?_))
  simp only [lswFlag, Reg.LSW_CHn_STAT, Reg.LSW_OLMAP_LO]
  omega

theorem State.olMap_sw (s : State) (n m : Nat) : (s.olMap n).sw m = s.sw m := State.sw_congr rfl m
theorem State.lSet_sw (s : State) (n b : Nat) (v : Bool) (m : Nat) : (s.lSet n b v).sw m = s.sw m := State.sw_congr rfl m

/-- What a load switch that turns on shows. -/
theorem State.lswStart_shows (s : State) (n : Nat) : (s.lswStart n).lOn n 0 = true ∧ (s.lswStart n).lOn n 3 = false ∧
    (s.lswStart n).lOn n 8 = false ∧ (s.lswStart n).sw n = (s.sw n).started s.now := by
  unfold State.lswStart
  extract_lets t x
  have h0 : t.lOn n 0 = true ∧ t.lOn n 3 = false ∧ t.lOn n 8 = false := by
    refine ⟨(State.olMap_lOn _ _ _ _).trans ?_, (State.olMap_lOn _ _ _ _).trans ?_, (State.olMap_lOn _ _ _ _).trans (State.lOn_lSet_same _ _ _ (by decide))⟩
    · exact (State.lOn_lSet_beside _ _ _ _ (by decide) (by decide) (by decide)).trans
        ((State.lOn_lSet_beside _ _ _ _ (by decide) (by decide) (by decide)).trans (State.lOn_lSet_same _ _ _ (by decide)))
    · exact (State.lOn_lSet_beside _ _ _ _ (by decide) (by decide) (by decide)).trans (State.lOn_lSet_same _ _ _ (by decide))
  have hx : x = s.sw n := (State.olMap_sw _ _ _).trans ((State.lSet_sw _ _ _ _ _).trans ((State.lSet_sw _ _ _ _ _).trans (State.lSet_sw _ _ _ _ _)))
  clear_value t x
  subst hx
  refine ⟨(State.budReg_lOn _ _ _ _).trans ((State.setSw_lOn _ _ _ _ _).trans h0.1), (State.budReg_lOn _ _ _ _).trans ((State.setSw_lOn _ _ _ _ _).trans h0.2.1),
    (State.budReg_lOn _ _ _ _).trans ((State.setSw_lOn _ _ _ _ _).trans h0.2.2), (State.budReg_sw _ _ _).trans (State.sw_setSw_same _ _ _)⟩

/-- What a load switch that turns off shows. -/
theorem State.lswStop_shows (s : State) (n : Nat) : (s.lswStop n).lOn n 0 = (s.lOn n 0 && s.lswSafeOn n) ∧ (s.lswStop n).lOn n 3 = false ∧
    ((s.lswStop n).sw n).pulse = (s.sw n).pulse := by
  unfold State.lswStop
  extract_lets t
  have ht0 : t.lOn n 0 = s.lswSafeOn n :=
    (State.lOn_lSet_beside _ _ _ _ (by decide) (by decide) (by decide)).trans
      ((State.lOn_lSet_beside _ _ _ _ (by decide) (by decide) (by decide)).trans (State.lOn_lSet_same _ _ _ (by decide)))
  have ht3 : t.lOn n 3 = false := (State.lOn_lSet_beside _ _ _ _ (by decide) (by decide) (by decide)).trans (State.lOn_lSet_same _ _ _ (by decide))
  have htx : t.sw n = s.sw n := (State.lSet_sw _ _ _ _ _).trans ((State.lSet_sw _ _ _ _ _).trans (State.lSet_sw _ _ _ _ _))
  clear_value t
  split
  · next hon =>
    rw [hon, Bool.true_and]
    refine ⟨(State.budReg_lOn _ _ _ _).trans ((State.setSw_lOn _ _ _ _ _).trans ht0), (State.budReg_lOn _ _ _ _).trans ((State.setSw_lOn _ _ _ _ _).trans ht3), ?_⟩
    rw [State.budReg_sw, State.sw_setSw_same, show (Switch.pulse _) = (t.sw n).pulse from rfl, htx]
  · next hoff =>
    rw [eq_false_of_ne_true hoff, Bool.false_and]
    exact ⟨(State.lOn_lSet_beside _ _ _ _ (by decide) (by decide) (by decide)).trans (eq_false_of_ne_true hoff), State.lOn_lSet_same _ _ _ (by decide),
      congrArg Switch.pulse (State.lSet_sw _ _ _ _ _)⟩

theorem groupChannels_lt {g c : Nat} (hg : g < 4) (h : c ∈ groupChannels g) : c < 64 := by
  simp only [groupChannels, List.mem_append, List.mem_map, List.mem_range] at h
  omega

theorem groupOf_lt {n : Nat} (h : n < 64) : groupOf n < 4 := by
  unfold groupOf
  split
  · omega
  split <;> omega

theorem mem_groupChannels {g c : Nat} (hg : g < 4) : c ∈ groupChannels g ↔ c < 64 ∧ groupOf c = g := by
  simp only [groupChannels, groupOf, List.mem_append, List.mem_map, List.mem_range]
  constructor
  · rintro ((⟨i, hi, rfl⟩ | ⟨i, hi, rfl⟩) | ⟨i, hi, rfl⟩)
    · exact ⟨by omega, by rw [if_pos (by omega)]; omega⟩
    · exact ⟨by omega, by rw [if_neg (by omega), if_pos (by omega)]; omega⟩
    · exact ⟨by omega, by rw [if_neg (by omega), if_neg (by omega)]; omega⟩
  · rintro ⟨hc, h⟩
    split at h
    · exact .inl (.inl ⟨c % 4, by omega, by omega⟩)
    split at h
    · exact .inl (.inr ⟨(c - 16) % 8, by omega, by omega⟩)
    · exact .inr ⟨(c - 48) % 4, by omega, by omega⟩

/-- The channels below 64 beside `n`. -/
def othersOf (n : Nat) : Set Nat := {m | m < 64 ∧ m ≠ n}

/-- The flags and the switch of a channel no other channel's drive touches. -/
theorem State.SwitchTo.beside {s t : State} {n : Nat} (hn : n < 64) (h : SwitchTo (othersOf n) s t) : (∀ b, t.lOn n b = s.lOn n b) ∧ t.sw n = s.sw n := by
  refine ⟨fun b => State.on_congr (h.rd ?_), h.sw n fun hm => hm.2 rfl⟩
  simp only [switchRegs, Set.mem_ofPred_eq, lswFlag, othersOf, Reg.LSW_CHn_STAT, Reg.LSW_CONFCNT, Reg.LSW_GRPg_STAT, Reg.LSW_OLMAP_LO, not_or, not_exists]
  exact ⟨by omega, fun g => by omega, fun m ⟨hm, e⟩ => by omega⟩

/-- Held channels are admitted beside one that is not held. -/
theorem State.admitHeld_beside {s : State} {n : Nat} {g : Nat} (hg : g < 4) (h3 : s.lOn n 3 = false) : SwitchTo (othersOf n) s (s.admitHeld g) :=
  .admitHeld s g fun m hm hm3 => ⟨groupChannels_lt hg hm, fun e => by rw [e, h3] at hm3; exact Bool.false_ne_true hm3⟩

theorem State.lswOff_shows (s : State) {n : Nat} (hn : n < 64) : (s.lswOff n).lOn n 0 = (s.lOn n 0 && s.lswSafeOn n) ∧ (s.lswOff n).lOn n 3 = false ∧
    ((s.lswOff n).sw n).pulse = (s.sw n).pulse := by
  obtain ⟨h0, h3, hp⟩ := s.lswStop_shows n
  unfold State.lswOff
  split
  · obtain ⟨hflag, hsw⟩ := (State.admitHeld_beside (groupOf_lt hn) h3).beside hn
    rw [hflag, hflag, hsw]
    exact ⟨h0, h3, hp⟩
  · exact ⟨h0, h3, hp⟩

theorem State.lswDrive_off {s : State} {n : Nat} (h : s.lCan n = false ∨ s.lWants n = false) : s.lswDrive n = s.lswOff n :=
  if_pos (by obtain h | h := h <;> simp [h])

theorem State.lswDrive_starts {s : State} {n : Nat} (hcan : s.lCan n = true) (hwants : s.lWants n = true) (hoff : s.lOn n 0 = false)
    (hheld : s.lOn n 3 = false) : s.lswDrive n = if s.budFits n then s.lswStart n else (s.lSet n 3 true).inc F.LSW_CONFCNT_HELD := by
  unfold State.lswDrive
  rw [hcan, hwants, hoff, hheld, if_neg (by decide), if_neg (by decide), if_neg (by decide)]

theorem State.lswDrive_stays {s : State} {n : Nat} (hcan : s.lCan n = true) (hwants : s.lWants n = true)
    (h : s.lOn n 0 = true ∨ (s.lOn n 3 = true ∧ (s.grp (groupOf n)).blocked = true)) : s.lswDrive n = s := by
  unfold State.lswDrive
  rw [hcan, hwants, if_neg (by decide)]
  obtain h | ⟨h3, hb⟩ := h
  · exact if_pos h
  · rw [if_pos h3]
    split
    · rfl
    · exact if_pos hb

/-- What a channel that is off and not held shows when it is turned on: it is on where its budget fits, and held otherwise. -/
theorem State.lswCommand_on {s : State} {n : Nat} {duty : Frac} (hcan : s.lCan n = true) (hpwm : s.pwm n = false) (hoff : s.lOn n 0 = false)
    (hheld : s.lOn n 3 = false) : (s.budFits n = true → (s.lswCommand n true duty).lOn n 0 = true ∧ (s.lswCommand n true duty).lOn n 3 = false ∧
      (s.lswCommand n true duty).lOn n 8 = false ∧ (s.lswCommand n true duty).sw n = (s.switchDuty n duty).started s.now) ∧
    (s.budFits n = false → (s.lswCommand n true duty).lOn n 0 = false ∧ (s.lswCommand n true duty).lOn n 3 = true) := by
  have has := s.lswCommanded_as n true duty
  have h0 := (has.flag n 0 (by decide) (by decide) (by decide)).trans hoff
  rw [State.lswCommand_eq, State.lswDrive_starts ((has.lCan n).trans hcan) (s.lswCommanded_wants n true duty hpwm) h0
    ((has.flag n 3 (by decide) (by decide) (by decide)).trans hheld), has.budFits]
  refine ⟨fun hfits => ?_, fun hfits => ?_⟩
  · rw [if_pos hfits]
    obtain ⟨g0, g3, g8, gx⟩ := (s.lswCommanded n true duty).lswStart_shows n
    rw [gx, State.lswCommanded_sw, has.now]
    exact ⟨g0, g3, g8, rfl⟩
  · rw [if_neg (by rw [hfits]; decide)]
    have hinc (x : State) (b : Nat) : (x.inc F.LSW_CONFCNT_HELD).lOn n b = x.lOn n b := by
      refine State.on_congr (x.rd_wr_other _ ?_)
      simp only [lswFlag, Reg.LSW_CHn_STAT, F.LSW_CONFCNT_HELD, Reg.LSW_CONFCNT]
      omega
    rw [hinc, hinc, State.lOn_lSet_same _ n true (by decide), State.lOn_lSet_beside _ n n true (by decide) (by decide) (by decide), h0]
    exact ⟨rfl, rfl⟩

theorem State.lswCommand_keeps (s : State) (n : Nat) (on : Bool) (duty : Frac) : (s.lswCommand n on duty).lOn n 1 = on ∧
    ((s.lswCommand n on duty).sw n).duty = duty ∧
    ((s.lswCommand n on duty).sw n).pulse.map (fun p => (p.dur, p.tag)) = (s.sw n).pulse.map (fun p => (p.dur, p.tag)) := by
  have h := (s.lswCommanded n on duty).lswDrive_switches n
  obtain ⟨hduty, -, -, hpulse⟩ := h.same n
  rw [State.lswCommand_eq, hduty, hpulse, State.lswCommanded_sw, State.switchDuty_duty, State.switchDuty_pulse]
  exact ⟨(h.flag n 1 (by decide) (by unfold switchBit; decide)).trans (s.lswCommanded_cmd n on duty), rfl, rfl⟩

theorem State.lswCommand_off {s : State} {n : Nat} {duty : Frac} (hn : n < 64) : (s.lswCommand n false duty).lOn n 0 = (s.lOn n 0 && s.lswSafeOn n) ∧
    (s.lswCommand n false duty).lOn n 3 = false := by
  have has := s.lswCommanded_as n false duty
  obtain ⟨h0, h3, -⟩ := (s.lswCommanded n false duty).lswOff_shows hn
  rw [State.lswCommand_eq, State.lswDrive_off (.inr (s.lswCommanded_off n duty)), h0, h3, has.lswSafeOn, has.flag n 0 (by decide) (by decide) (by decide)]
  exact ⟨rfl, rfl⟩

end Sys2Proof.Machine
end

section
/-! SUPPORT. Writes of LSW_CHn_CMD and the descriptors of the load switches (R333-R335, R347, R348). -/

namespace Sys2Proof.Machine

theorem lswStat_notEntry (n : Nat) : ¬ entryBlock (Reg.LSW_CHn_STAT n / 0x1000) := notEntry (by unfold Reg.LSW_CHn_STAT; omega)

/-! ### Writes of LSW_CHn_CMD (R333) -/

theorem execLswUntimedCommand_eq {s : State} {a : Agent} {n : Nat} (v : W32) (hn : n < 64) (hacc : s.accepts a 0x0C (0x108 + 0x10 * n) = true) :
    exec (.lswUntimedCommand a n v) s = .next (s.done.lswCmdWrite a n v) := by
  refine congrArg Host.Outcome.next ((if_pos hn).trans ?_)
  rw [State.gate_accepts _ hacc]

/-- The register of a command written, as a step of its own. -/
def State.lswWritten (s : State) (n : Nat) (v : W32) : State := s.done.applyWrite (Reg.LSW_CHn_CMD n) v

theorem State.lswWritten_affects (s : State) (n : Nat) (v : W32) : State.AffectsOnly {Reg.LSW_CHn_CMD n} s.done (s.lswWritten n v) :=
  .applyWrite _ _ (.inl rfl)

theorem State.lswWritten_reg (s : State) {n k : Nat} (v : W32) (hk : ¬ entryBlock (k / 0x1000)) (h : k ≠ Reg.LSW_CHn_CMD n) :
    (s.lswWritten n v).reg k = s.reg k := (s.lswWritten_affects n v).reg k hk h

theorem State.lswWritten_lOn (s : State) (n : Nat) (v : W32) (m b : Nat) : (s.lswWritten n v).lOn m b = s.lOn m b := by
  refine State.on_congr (State.rd_congr (s.lswWritten_reg v (lswStat_notEntry m) ?_))
  simp only [lswFlag, Reg.LSW_CHn_STAT, Reg.LSW_CHn_CMD]
  omega

theorem State.lswWritten_as (s : State) (n : Nat) (v : W32) : s.SwitchAs (s.lswWritten n v) where
  flag m b _ _ _ := s.lswWritten_lOn n v m b
  ctl m := s.lswWritten_reg v (notEntry (by unfold Reg.LSW_CHn_CTL; omega)) (by unfold Reg.LSW_CHn_CTL Reg.LSW_CHn_CMD; omega)
  lim m := s.lswWritten_reg v (notEntry (by unfold Reg.LSW_CHn_LIM; omega)) (by unfold Reg.LSW_CHn_LIM Reg.LSW_CHn_CMD; omega)
  grpStat g := s.lswWritten_reg v (notEntry (by unfold Reg.LSW_GRPg_STAT; omega)) (by unfold Reg.LSW_GRPg_STAT Reg.LSW_CHn_CMD; omega)
  code := (s.lswWritten_affects n v).part State.code fun _ _ => rfl
  now := (s.lswWritten_affects n v).part State.now fun _ _ => rfl
  applied k := (s.lswWritten_affects n v).part (fun x => x.fsApplied k) fun _ _ => rfl
  grps := (s.lswWritten_affects n v).part (fun x => x.lsw.grps) fun _ _ => rfl

theorem State.lswCmdWrite_taken {s : State} {a : Agent} {n : Nat} {v : W32} (hsrc : s.rd (F.LSW_CHn_CTL_SRC n) = 3) (hcarry : s.carrier = some a)
    (hlisted : listedAt (Reg.LSW_CHn_CMD n) v = true) : s.done.lswCmdWrite a n v = (s.lswWritten n v).lswCommand n (bitAt v.toNat 31)
      (if (s.done).pwm n then ⟨getBits v 10 0, 1024⟩ else Frac.ofInt 1) := by
  unfold State.lswCmdWrite
  rw [if_neg, if_neg]
  · rfl
  · rw [hlisted]
    decide
  · rintro (h | h)
    · exact h hsrc
    · exact h hcarry

theorem State.lswCommand_resp (s : State) (n : Nat) (on : Bool) (duty : Frac) : (s.lswCommand n on duty).resp = s.resp :=
  ((s.lswCommanded n on duty).lswDrive_switches n).part State.resp fun _ _ _ => rfl

theorem State.lswWritten_resp (s : State) (n : Nat) (v : W32) : (s.lswWritten n v).resp = .done :=
  (s.lswWritten_affects n v).part State.resp fun _ _ => rfl

theorem execLswUntimedCommand_turnsOn {s : State} {a : Agent} {n : Nat} {v : W32} (hn : n < 64) (hacc : s.accepts a 0x0C (0x108 + 0x10 * n) = true)
    (hsrc : s.rd (F.LSW_CHn_CTL_SRC n) = 3) (hcarry : s.carrier = some a) (hlisted : listedAt (Reg.LSW_CHn_CMD n) v = true)
    (hv : bitAt v.toNat 31 = true) (hcan : s.lCan n = true) (hpwm : s.pwm n = false) (hoff : s.lOn n 0 = false) (hheld : s.lOn n 3 = false) :
    Completes (.lswUntimedCommand a n v) s (fun t => t.resp = .done ∧ t.lOn n 1 = true ∧
      (s.budFits n = true → t.lOn n 0 = true ∧ t.lOn n 3 = false ∧ t.lOn n 8 = false ∧ (t.sw n).ton = s.now) ∧
      (s.budFits n = false → t.lOn n 0 = false ∧ t.lOn n 3 = true)) := by
  refine ⟨_, execLswUntimedCommand_eq v hn hacc, ?_⟩
  dsimp only
  rw [State.lswCmdWrite_taken hsrc hcarry hlisted, hv]
  generalize (if s.done.pwm n then (⟨getBits v 10 0, 1024⟩ : Frac) else Frac.ofInt 1) = duty
  have has := s.lswWritten_as n v
  obtain ⟨hfits, hnot⟩ := State.lswCommand_on (duty := duty) ((has.lCan n).trans hcan) ((has.pwm n).trans hpwm)
    ((s.lswWritten_lOn n v n 0).trans hoff) ((s.lswWritten_lOn n v n 3).trans hheld)
  rw [has.budFits] at hfits hnot
  refine ⟨(State.lswCommand_resp _ _ _ _).trans (s.lswWritten_resp n v), ((s.lswWritten n v).lswCommand_keeps n true duty).1, fun h => ?_, hnot⟩
  obtain ⟨h0, h3, h8, hx⟩ := hfits h
  exact ⟨h0, h3, h8, by rw [hx]; exact has.now⟩

theorem execLswUntimedCommand_stays {s : State} {a : Agent} {n : Nat} {v : W32} (hn : n < 64) (hacc : s.accepts a 0x0C (0x108 + 0x10 * n) = true)
    (hsrc : s.rd (F.LSW_CHn_CTL_SRC n) = 3) (hcarry : s.carrier = some a) (hlisted : listedAt (Reg.LSW_CHn_CMD n) v = true)
    (hv : bitAt v.toNat 31 = true) (hcan : s.lCan n = true) (hpwm : s.pwm n = false)
    (hstay : s.lOn n 0 = true ∨ (s.lOn n 3 = true ∧ (s.grp (groupOf n)).blocked = true)) :
    Completes (.lswUntimedCommand a n v) s (fun t => t.resp = .done ∧ t.lOn n 1 = true ∧ t.lOn n 0 = s.lOn n 0 ∧ t.lOn n 3 = s.lOn n 3 ∧
      (t.sw n).duty = Frac.ofInt 1) := by
  refine ⟨_, execLswUntimedCommand_eq v hn hacc, ?_⟩
  dsimp only
  have has := s.lswWritten_as n v
  have hpwm' : s.done.pwm n = false := hpwm
  rw [State.lswCmdWrite_taken hsrc hcarry hlisted, hv, hpwm', if_neg Bool.false_ne_true]
  have hc := has.trans ((s.lswWritten n v).lswCommanded_as n true (Frac.ofInt 1))
  have hflag (b : Nat) (hb : b < 32) (h1 : b ≠ 1) (h11 : b ≠ 11) := hc.flag n b hb h1 h11
  have heq : (s.lswWritten n v).lswCommand n true (Frac.ofInt 1) = (s.lswWritten n v).lswCommanded n true (Frac.ofInt 1) := by
    refine (State.lswCommand_eq _ _ _ _).trans (State.lswDrive_stays ((hc.lCan n).trans hcan)
      (State.lswCommanded_wants _ n true _ ((has.pwm n).trans hpwm)) ?_)
    rw [hflag 0 (by decide) (by decide) (by decide), hflag 3 (by decide) (by decide) (by decide), hc.grp]
    exact hstay
  obtain ⟨h1, hduty, -⟩ := (s.lswWritten n v).lswCommand_keeps n true (Frac.ofInt 1)
  refine ⟨(State.lswCommand_resp _ _ _ _).trans (s.lswWritten_resp n v), h1, ?_, ?_, hduty⟩
  · rw [heq]
    exact hflag 0 (by decide) (by decide) (by decide)
  · rw [heq]
    exact hflag 3 (by decide) (by decide) (by decide)

theorem execLswUntimedCommand_turnsOff {s : State} {a : Agent} {n : Nat} {v : W32} (hn : n < 64) (hacc : s.accepts a 0x0C (0x108 + 0x10 * n) = true)
    (hsrc : s.rd (F.LSW_CHn_CTL_SRC n) = 3) (hcarry : s.carrier = some a) (hlisted : listedAt (Reg.LSW_CHn_CMD n) v = true)
    (hv : bitAt v.toNat 31 = false) :
    Completes (.lswUntimedCommand a n v) s (fun t => t.resp = .done ∧ t.lOn n 1 = false ∧ t.lOn n 3 = false ∧
      t.lOn n 0 = (s.lOn n 0 && s.lswSafeOn n)) := by
  refine ⟨_, execLswUntimedCommand_eq v hn hacc, ?_⟩
  dsimp only
  rw [State.lswCmdWrite_taken hsrc hcarry hlisted, hv]
  generalize (if s.done.pwm n then (⟨getBits v 10 0, 1024⟩ : Frac) else Frac.ofInt 1) = duty
  obtain ⟨h0, h3⟩ := State.lswCommand_off (s := s.lswWritten n v) (duty := duty) hn
  rw [State.lswWritten_lOn, (s.lswWritten_as n v).lswSafeOn] at h0
  exact ⟨(State.lswCommand_resp _ _ _ _).trans (s.lswWritten_resp n v), ((s.lswWritten n v).lswCommand_keeps n false duty).1, h3, h0⟩

/-- What a refusal shows. -/
theorem State.lswReject_shows (s : State) {n cause : Nat} (hn : n < 64) (hcause : cause < 16) : (s.lswReject n cause).rd F.LSW_BADCFG_CAUSE = cause ∧
    (s.lswReject n cause).rd F.LSW_BADCFG_CH = n ∧ (s.lswReject n cause).rd F.LSW_STAT_CFGREJ = 1 := by
  unfold State.lswReject
  refine ⟨?_, ?_, State.flag_rd_same _ (by decide) rfl⟩
  · rw [State.flag_rd_other _ (by decide), State.rd_wr_beside _ _ (by decide) (by decide) (by decide)]
    exact s.rd_wr_fits (by decide) hcause
  · rw [State.flag_rd_other _ (by decide)]
    exact State.rd_wr_fits _ (by decide) hn

theorem State.lswReject_affects (s : State) (n cause : Nat) : State.AffectsOnly {Reg.LSW_BADCFG, Reg.LSW_STAT} s (s.lswReject n cause) :=
  ((State.AffectsOnly.wr s cause (.inl (.inl rfl))).trans (.wr _ n (.inl (.inl rfl)))).trans (.flag _ _ (.inl (.inr rfl)))

theorem execLswUntimedCommand_refusesSource {s : State} {a : Agent} {n : Nat} (v : W32) (hn : n < 64)
    (hacc : s.accepts a 0x0C (0x108 + 0x10 * n) = true) (hsrc : s.rd (F.LSW_CHn_CTL_SRC n) ≠ 3) :
    Completes (.lswUntimedCommand a n v) s (fun t => t.resp = .done ∧ t.rd F.LSW_BADCFG_CAUSE = 3 ∧ t.rd F.LSW_BADCFG_CH = n ∧
      t.rd F.LSW_STAT_CFGREJ = 1 ∧ t.lsw = s.lsw ∧ t.reg (Reg.LSW_CHn_STAT n) = s.reg (Reg.LSW_CHn_STAT n)) := by
  refine ⟨s.done.lswRefused.lswReject n 3, (execLswUntimedCommand_eq v hn hacc).trans (congrArg Host.Outcome.next (if_pos (.inl hsrc))), ?_⟩
  obtain ⟨hcause, hch, hrej⟩ := s.done.lswRefused.lswReject_shows (n := n) (cause := 3) hn (by decide)
  have h := s.done.lswRefused.lswReject_affects n 3
  refine ⟨h.part State.resp fun _ _ => rfl, hcause, hch, hrej, h.part State.lsw fun _ _ => rfl, (h.reg _ (lswStat_notEntry n) ?_).trans
    (s.done.reg_wr_other _ ?_)⟩
  · simp only [Set.mem_insert_iff, Set.mem_singleton_iff, Reg.LSW_CHn_STAT, Reg.LSW_BADCFG, Reg.LSW_STAT]
    omega
  · simp only [Reg.LSW_CHn_STAT, F.LSW_CONFCNT_REFUSED, Reg.LSW_CONFCNT]
    omega

/-! ### PULSE and SET (R347, R348) -/

theorem lswDesc_carried {s : State} {d : Desc} {pulse : Bool} {n : Nat} {duty : Frac} (h : s.lswDesc d pulse = some (n, duty)) : n < 64 := by
  unfold State.lswDesc at h
  dsimp only at h
  split at h
  · exact absurd h (by simp)
  · next hc =>
    obtain ⟨rfl, -⟩ := Prod.mk.inj (Option.some.inj h)
    have hcar : s.lswCarried (d.le 16 1) = true := by
      by_contra hf
      exact hc (.inl (eq_false_of_ne_true hf))
    unfold State.lswCarried at hcar
    simp only [Bool.and_eq_true, decide_eq_true_eq] at hcar
    exact hcar.1

/-- A descriptor's command taken, before a pulse is given its end. -/
def State.lswTaken (s : State) (n : Nat) (p : Option SwitchPulse) (on : Bool) (duty : Frac) : State :=
  (s.setSw n { s.sw n with pulse := p }).lswCommand n on duty

/-- A pulse that has started, or that asks for no drive, lasts from now. -/
def State.lswPulsed (s : State) (n dur tag : Nat) (pulse : Bool) (now : Nat) : State :=
  if pulse ∧ (s.lOn n 0 = true ∨ s.lWants n = false) then s.setSw n { s.sw n with pulse := some ⟨some (now + dur), dur, tag⟩ } else s

/-- What PULSE and SET do where their channel's source is a descriptor. -/
def State.lswServed (s : State) (d : Desc) (n : Nat) (duty : Frac) (pulse : Bool) : State :=
  (s.lswTaken n (if pulse then some ⟨none, d.le 24 4 * 1000, d.tag⟩ else none) (pulse || decide (d.le 17 1 = 1)) duty).lswPulsed n
    (d.le 24 4 * 1000) d.tag pulse s.now

/-- Why a channel is not driven, in ESTAT: 1 HELD, 2 SHED. -/
def State.lswReason (s : State) (n : Nat) : Nat := if s.lOn n 4 then 2 else if s.lOn n 3 then 1 else 0

theorem State.lswServe_of_running {s : State} {q op : Nat} {d : Desc} {pulse : Bool} {n : Nat} {duty : Frac} (hrun : s.running q op = some d)
    (hdesc : s.lswDesc d pulse = some (n, duty)) : s.lswServe q op pulse =
      if s.rd (F.LSW_CHn_CTL_SRC n) ≠ 2 then (s.inc F.LSW_CONFCNT_REFUSED).complete q d { status := 0x40 }
      else (s.lswServed d n duty pulse).complete q d { estat := (s.lswServed d n duty pulse).lswReason n } := by
  unfold State.lswServe
  rw [State.serve_of_running _ hrun, hdesc]
  dsimp only
  by_cases hsrc : s.rd (F.LSW_CHn_CTL_SRC n) ≠ 2
  · rw [if_pos hsrc, if_pos hsrc]
    rfl
  · rw [if_neg hsrc, if_neg hsrc]
    rfl

theorem State.lswPulsed_lOn (s : State) (n dur tag : Nat) (pulse : Bool) (now m b : Nat) : (s.lswPulsed n dur tag pulse now).lOn m b = s.lOn m b := by
  unfold State.lswPulsed
  split <;> rfl

theorem State.lswPulsed_duty (s : State) (n dur tag : Nat) (pulse : Bool) (now : Nat) :
    ((s.lswPulsed n dur tag pulse now).sw n).duty = (s.sw n).duty := by
  unfold State.lswPulsed
  split
  · rw [State.sw_setSw_same]
  · rfl

theorem State.complete_lOn (s : State) (q : Nat) (d : Desc) (r : Result) (n b : Nat) : (s.complete q d r).lOn n b = s.lOn n b :=
  (State.AffectsOnly.complete (S := ∅) s q d r).on (lswStat_notEntry n) (Set.notMem_empty _)

theorem State.complete_sw (s : State) (q : Nat) (d : Desc) (r : Result) (n : Nat) : (s.complete q d r).sw n = s.sw n :=
  State.sw_congr ((State.AffectsOnly.complete (S := ∅) s q d r).part (fun x => x.lsw.chs) fun _ _ => rfl) n

section
variable {s : State} {n : Nat} {duty : Frac} (p : Option SwitchPulse)

/-- A pulse noted for a channel drives nothing by itself. -/
theorem State.lswTaken_on (hcan : s.lCan n = true) (hpwm : s.pwm n = false) (hoff : s.lOn n 0 = false) (hheld : s.lOn n 3 = false) :
    (s.lswTaken n p true duty).lOn n 0 = s.budFits n := by
  have has := State.SwitchAs.setSw s n { s.sw n with pulse := p }
  obtain ⟨hfits, hnot⟩ := State.lswCommand_on (duty := duty) ((has.lCan n).trans hcan) ((has.pwm n).trans hpwm) hoff hheld
  rw [has.budFits] at hfits hnot
  unfold State.lswTaken
  cases h : s.budFits n with
  | true => exact (hfits h).1
  | false => exact (hnot h).1

theorem State.lswTaken_off (hn : n < 64) : (s.lswTaken n p false duty).lOn n 0 = (s.lOn n 0 && s.lswSafeOn n) := by
  obtain ⟨h0, -⟩ := State.lswCommand_off (s := s.setSw n { s.sw n with pulse := p }) (duty := duty) hn
  rw [(State.SwitchAs.setSw s n _).lswSafeOn] at h0
  exact h0

theorem State.lswTaken_keeps (on : Bool) : (s.lswTaken n p on duty).lOn n 1 = on ∧ ((s.lswTaken n p on duty).sw n).duty = duty ∧
    ((s.lswTaken n p on duty).sw n).pulse.map (fun p => (p.dur, p.tag)) = p.map (fun p => (p.dur, p.tag)) := by
  obtain ⟨h1, hduty, hp⟩ := (s.setSw n { s.sw n with pulse := p }).lswCommand_keeps n on duty
  rw [State.sw_setSw_same] at hp
  exact ⟨h1, hduty, hp⟩

end

theorem execLswPulse_pulses {s : State} {q : Nat} {d : Desc} {n : Nat} {duty : Frac} (h40 : 40 ≤ q) (h48 : q < 48) (hrun : s.running q 1 = some d)
    (hdesc : s.lswDesc d true = some (n, duty)) :
    Completes (.lswPulse q) s (fun t => if s.rd (F.LSW_CHn_CTL_SRC n) ≠ 2 then t = (s.inc F.LSW_CONFCNT_REFUSED).complete q d { status := 0x40 }
      else t.lOn n 1 = true ∧ (t.sw n).pulse.map (fun p => (p.dur, p.tag)) = some (d.le 24 4 * 1000, d.tag) ∧ (t.sw n).duty = duty ∧
      (t.lOn n 0 = true → (t.sw n).pulse.map (fun p => p.stop) = some (some (s.now + d.le 24 4 * 1000))) ∧
      (s.lCan n = true → s.pwm n = false → s.lOn n 0 = false → s.lOn n 3 = false → t.lOn n 0 = s.budFits n)) := by
  refine ⟨_, congrArg Host.Outcome.next ((if_pos ⟨h40, h48⟩).trans (State.lswServe_of_running hrun hdesc)), ?_⟩
  dsimp only
  by_cases hsrc : s.rd (F.LSW_CHn_CTL_SRC n) ≠ 2
  · rw [if_pos hsrc, if_pos hsrc]
  rw [if_neg hsrc, if_neg hsrc]
  simp only [State.complete_lOn, State.complete_sw, State.lswServed, State.lswPulsed_lOn, State.lswPulsed_duty, if_true, Bool.true_or]
  generalize d.le 24 4 * 1000 = dur
  obtain ⟨h1, hduty, hp⟩ := State.lswTaken_keeps (s := s) (n := n) (duty := duty) (some ⟨none, dur, d.tag⟩) true
  have hon := State.lswTaken_on (s := s) (n := n) (duty := duty) (some ⟨none, dur, d.tag⟩)
  generalize s.lswTaken n (some ⟨none, dur, d.tag⟩) true duty = u at h1 hduty hp hon
  refine ⟨h1, ?_, hduty, fun h0 => ?_, hon⟩
  · unfold State.lswPulsed
    split
    · rw [State.sw_setSw_same]
      rfl
    · exact hp
  · unfold State.lswPulsed
    rw [if_pos ⟨rfl, .inl h0⟩, State.sw_setSw_same]
    rfl

theorem execLswSet_sets {s : State} {q : Nat} {d : Desc} {n : Nat} {duty : Frac} (h40 : 40 ≤ q) (h48 : q < 48) (hrun : s.running q 2 = some d)
    (hdesc : s.lswDesc d false = some (n, duty)) :
    Completes (.lswSet q) s (fun t => if s.rd (F.LSW_CHn_CTL_SRC n) ≠ 2 then t = (s.inc F.LSW_CONFCNT_REFUSED).complete q d { status := 0x40 }
      else t.lOn n 1 = decide (d.le 17 1 = 1) ∧ (t.sw n).pulse = none ∧ (t.sw n).duty = duty ∧
      (d.le 17 1 = 0 → t.lOn n 0 = (s.lOn n 0 && s.lswSafeOn n)) ∧
      (d.le 17 1 = 1 → s.lCan n = true → s.pwm n = false → s.lOn n 0 = false → s.lOn n 3 = false → t.lOn n 0 = s.budFits n)) := by
  refine ⟨_, congrArg Host.Outcome.next ((if_pos ⟨h40, h48⟩).trans (State.lswServe_of_running hrun hdesc)), ?_⟩
  dsimp only
  by_cases hsrc : s.rd (F.LSW_CHn_CTL_SRC n) ≠ 2
  · rw [if_pos hsrc, if_pos hsrc]
  rw [if_neg hsrc, if_neg hsrc]
  have hpulsed (x : State) (dur tag now : Nat) : x.lswPulsed n dur tag false now = x := if_neg fun h => Bool.false_ne_true h.1
  simp only [State.complete_lOn, State.complete_sw, State.lswServed, hpulsed, if_neg Bool.false_ne_true, Bool.false_or]
  obtain ⟨h1, hduty, hp⟩ := State.lswTaken_keeps (s := s) (n := n) (duty := duty) none (decide (d.le 17 1 = 1))
  refine ⟨h1, Option.map_eq_none_iff.mp hp, hduty, fun h => ?_, fun h => ?_⟩
  · rw [decide_eq_false (show ¬ d.le 17 1 = 1 by omega)]
    exact State.lswTaken_off none (lswDesc_carried hdesc)
  · rw [decide_eq_true h]
    exact State.lswTaken_on none

end Sys2Proof.Machine
end

section
/-! SUPPORT. CANCEL descriptors of the load switches (R348): what is left in the rings that schedule commands. -/

namespace Sys2Proof.Machine

/-! ### What completions leave in the rings (R100, R101) -/

theorem State.storeOne_rings (s : State) (a : Nat) (b : Bytes) (p : Bool) : (s.storeOne a b p).rings = s.rings := by
  unfold State.storeOne State.reencode
  split <;> rfl

theorem State.store_rings (s : State) (a : Nat) (b : Bytes) (p : Bool) : (s.store a b p).rings = s.rings := by
  unfold State.store State.mirror
  exact foldl_keeps (I := fun x : State => x.rings = s.rings) _ _ (s.storeOne_rings a b p) fun x m _ hx => by
    exact (State.storeOne_rings x _ _ p).trans hx

theorem State.entryOut_rings (s : State) (q a : Nat) (b : Bytes) : (s.entryOut q a b).rings = s.rings := by
  unfold State.entryOut
  split
  · exact s.store_rings a b false
  · dsimp only
    split <;> rfl

theorem State.ringPending_rings (s : State) (q : Nat) : (s.ringPending q).rings = s.rings := by
  unfold State.ringPending
  dsimp only
  split <;> rfl

/-- Every descriptor a ring of `t` has taken runs, or its ring had taken it in `s`. -/
def State.TakesNone (s t : State) : Prop := ∀ p, ∀ x ∈ (t.ring p).taken, x.running = true ∨ x ∈ (s.ring p).taken

namespace State.TakesNone

variable {s t u : State}

theorem of_rings (h : t.rings = s.rings) : s.TakesNone t := by
  intro p x hx
  unfold State.ring at hx ⊢
  rw [h] at hx
  exact .inr hx

theorem refl (s : State) : s.TakesNone s := of_rings rfl

theorem trans (h : s.TakesNone t) (h' : t.TakesNone u) : s.TakesNone u := fun p x hx => (h' p x hx).elim .inl fun hx => h p x hx

theorem ite (c : Prop) [Decidable c] (h : s.TakesNone t) (h' : s.TakesNone u) : s.TakesNone (if c then t else u) := by
  split
  · exact h
  · exact h'

theorem setRing (s : State) (q : Nat) (r : Ring) (h : ∀ x ∈ r.taken, x.running = true ∨ x ∈ (s.ring q).taken) : s.TakesNone (s.setRing q r) := by
  intro p x hx
  by_cases hpq : p = q
  · rw [hpq, State.ring_setRing_same] at hx
    rw [hpq]
    exact h x hx
  · rw [State.ring_setRing_other _ _ hpq] at hx
    exact .inr hx

theorem unreserve (s : State) (q : Nat) (d : Desc) : s.TakesNone (s.unreserve q d) := by
  unfold State.unreserve
  dsimp only
  refine trans (setRing s q { s.ring q with taken := dropDesc d (s.ring q).taken } fun x hx => .inr ?_) (setRing _ _ _ fun x hx => .inr hx)
  rw [dropDesc_eq_erase] at hx
  exact List.mem_of_mem_erase hx

theorem writeEntry (s : State) (q op status estat : Nat) (delayed overdue poison : Bool) (tag sq sqidx lateness : Nat) (result : Bytes) :
    s.TakesNone (s.writeEntry q op status estat delayed overdue poison tag sq sqidx lateness result) := by
  unfold State.writeEntry
  extract_lets r flags t u
  have ht : t.rings = s.rings := s.entryOut_rings q _ _
  have hring (p : Nat) : t.ring p = s.ring p := by
    unfold State.ring
    rw [ht]
  have hu : s.TakesNone u := by
    refine (of_rings ht).trans ((setRing t q { r with gap := false } fun x hx => .inr ?_).trans (of_rings ?_))
    · rw [hring]
      exact hx
    · exact (congrArg State.rings (State.advance_eq _ q)).trans rfl
  exact ite _ (hu.trans (of_rings rfl)) hu

theorem unfence (s : State) (q : Nat) : s.TakesNone (s.unfence q) := by
  unfold State.unfence
  split
  · next d rest htaken =>
    refine ite _ (setRing s q _ fun x hx => ?_) (refl s)
    obtain hx | hx := List.mem_cons.mp hx
    · exact .inl (by rw [hx])
    · exact .inr (by rw [htaken]; exact List.mem_cons_of_mem _ hx)
  · exact refl s

theorem complete (s : State) (q : Nat) (d : Desc) (r : Result) : s.TakesNone (s.complete q d r) := by
  unfold State.complete
  dsimp only
  refine trans (ite _ (ite _ ?_ ?_) (unreserve s q d)) (unfence _ q)
  · refine (unreserve s q d).trans ((writeEntry _ _ _ _ _ _ _ _ _ _ _ _ _).trans (ite _ (of_rings (State.ringPending_rings _ _)) (refl _)))
  · exact (unreserve s q d).trans ((of_rings rfl).trans (setRing _ _ _ fun x hx => .inr hx))

end State.TakesNone

/-! ### Scheduled commands removed (R348) -/

/-- Whether a descriptor is a scheduled command to channel `n` with TAG `tag`. -/
def lswScheduled (n tag : Nat) (x : Desc) : Bool :=
  !x.running && decide (x.tmode = 1) && decide (x.tag = tag) && decide (x.le 16 1 = n) && decide (x.op = 1 ∨ x.op = 2)

theorem State.unschedule_eq (s : State) (q n tag : Nat) :
    (s.unschedule q n tag).1 = ((s.ring q).taken.filter (lswScheduled n tag)).foldl (fun x d => x.unreserve q d) s := rfl

theorem State.TakesNone.unschedule (s : State) (q n tag : Nat) : s.TakesNone (s.unschedule q n tag).1 := by
  rw [State.unschedule_eq]
  exact List.foldlRecOn (motive := fun x : State => s.TakesNone x) _ _ (.refl s) fun x hx d _ => hx.trans (.unreserve x q d)

theorem State.unschedule_removes (s : State) (q n tag : Nat) : ∀ x ∈ ((s.unschedule q n tag).1.ring q).taken, lswScheduled n tag x = false := by
  intro x hx
  rw [State.unschedule_eq, State.foldl_unreserve_taken] at hx
  exact of_mem_diff_filter hx

theorem State.unschedule_keeps (s : State) (q n tag : Nat) : (s.unschedule q n tag).1 = { s with rings := (s.unschedule q n tag).1.rings } := by
  rw [State.unschedule_eq]
  exact State.foldl_unreserve_eq q _ s

/-- No ring holds a scheduled command to channel `n` with TAG `tag`. -/
def State.NoneScheduled (s : State) (q n tag : Nat) : Prop := ∀ x ∈ (s.ring q).taken, lswScheduled n tag x = false

theorem State.TakesNone.noneScheduled {s t : State} (h : s.TakesNone t) {q n tag : Nat} (hs : s.NoneScheduled q n tag) : t.NoneScheduled q n tag := by
  intro x hx
  obtain hrun | hx := h q x hx
  · unfold lswScheduled
    rw [hrun]
    rfl
  · exact hs x hx

/-- The scheduled commands to channel `n` with TAG `tag` removed from the rings that may hold them, with their number. -/
def State.unscheduled (s : State) (n tag : Nat) : State × Nat :=
  [40, 42, 46].foldl (fun (x : State × Nat) p => let y := x.1.unschedule p n tag; (y.1, x.2 + y.2)) (s, 0)

theorem State.unscheduled_eq (s : State) (n tag : Nat) : (s.unscheduled n tag).1 =
    ((((s.unschedule 40 n tag).1).unschedule 42 n tag).1.unschedule 46 n tag).1 := rfl

theorem State.unscheduled_removes (s : State) (n tag : Nat) {q : Nat} (hq : q = 40 ∨ q = 42 ∨ q = 46) : (s.unscheduled n tag).1.NoneScheduled q n tag := by
  rw [State.unscheduled_eq]
  obtain rfl | rfl | rfl := hq
  · exact (State.TakesNone.unschedule _ _ _ _).noneScheduled ((State.TakesNone.unschedule _ _ _ _).noneScheduled (s.unschedule_removes 40 n tag))
  · exact (State.TakesNone.unschedule _ _ _ _).noneScheduled (State.unschedule_removes _ 42 n tag)
  · exact State.unschedule_removes _ 46 n tag

theorem State.unscheduled_keeps (s : State) (n tag : Nat) : (s.unscheduled n tag).1 = { s with rings := (s.unscheduled n tag).1.rings } := by
  have h40 := s.unschedule_keeps 40 n tag
  have h42 := (s.unschedule 40 n tag).1.unschedule_keeps 42 n tag
  have h46 := ((s.unschedule 40 n tag).1.unschedule 42 n tag).1.unschedule_keeps 46 n tag
  rw [State.unscheduled_eq]
  generalize (((s.unschedule 40 n tag).1).unschedule 42 n tag).1 = y at h42 h46
  generalize (s.unschedule 40 n tag).1 = x at h40 h42
  rw [h46, h42, h40]

/-- A running pulse with TAG `tag` ended. -/
def State.lswCut (s : State) (n tag : Nat) : State :=
  match (s.sw n).pulse with
  | some p => if p.tag = tag then s.lswPulseOff n else s
  | none => s

theorem State.TakesNone.lswCut (s : State) (n tag : Nat) : s.TakesNone (s.lswCut n tag) := by
  unfold State.lswCut
  split
  · refine .ite _ (.of_rings ?_) (.refl s)
    exact (((s.setSw n { s.sw n with pulse := none }).lSet n 1 false).lswFollow_switches n).part State.rings fun _ _ _ => rfl
  · exact .refl s

theorem State.lswPulseOff_ends (s : State) (n : Nat) : ((s.lswPulseOff n).sw n).pulse = none ∧ (s.lswPulseOff n).lOn n 1 = false := by
  have h := ((s.setSw n { s.sw n with pulse := none }).lSet n 1 false).lswFollow_switches n
  have hnone := (h.same n).2.2.2
  rw [State.lSet_sw, State.sw_setSw_same] at hnone
  exact ⟨Option.map_eq_none_iff.mp hnone, (h.flag n 1 (by decide) (by unfold switchBit; decide)).trans (State.lOn_lSet_same _ n false (by decide))⟩

theorem execLswCancel_cancels {s : State} {q : Nat} {d : Desc} (h40 : 40 ≤ q) (h48 : q < 48) (hrun : s.running q 3 = some d)
    (hcar : s.lswCarried (d.le 16 1) = true) (hmode : d.tmode = 0) :
    Completes (.lswCancel q) s (fun t => [40, 42, 46].all (fun p => (t.ring p).taken.all (fun x => x.running || !(decide (x.tmode = 1) &&
        decide (x.tag = d.le 20 2) && decide (x.le 16 1 = d.le 16 1) && decide (x.op = 1 ∨ x.op = 2)))) = true ∧
      ((s.sw (d.le 16 1)).pulse.map (fun p => p.tag) = some (d.le 20 2) → (t.sw (d.le 16 1)).pulse = none ∧ t.lOn (d.le 16 1) 1 = false)) := by
  refine ⟨((s.unscheduled (d.le 16 1) (d.le 20 2)).1.lswCut (d.le 16 1) (d.le 20 2)).complete q d
    { bytes := resultOf [(24, 4, (s.unscheduled (d.le 16 1) (d.le 20 2)).2)] }, ?_, ?_⟩
  · refine congrArg Host.Outcome.next ((if_pos ⟨h40, h48⟩).trans ((State.serve_of_running _ hrun).trans ?_))
    dsimp only
    rw [if_neg (by rw [hcar]; simp [hmode])]
    rfl
  generalize ({ bytes := resultOf [(24, 4, (s.unscheduled (d.le 16 1) (d.le 20 2)).2)] } : Result) = r
  generalize d.le 16 1 = n at hcar ⊢
  generalize d.le 20 2 = tag
  have hkeeps := s.unscheduled_keeps n tag
  have hgone {q : Nat} (hq : q = 40 ∨ q = 42 ∨ q = 46) := s.unscheduled_removes n tag hq
  generalize (s.unscheduled n tag).1 = x at hkeeps hgone ⊢
  have hsw : x.sw n = s.sw n := by
    rw [hkeeps]
    rfl
  refine ⟨?_, fun hpulse => ?_⟩
  · rw [List.all_eq_true]
    intro p hp
    rw [List.all_eq_true]
    intro y hy
    have hy' := ((State.TakesNone.lswCut x n tag).trans (.complete _ q d r)).noneScheduled (hgone (q := p) (by simpa using hp)) y hy
    unfold lswScheduled at hy'
    cases hrunning : y.running with
    | true => rfl
    | false =>
      rw [hrunning] at hy'
      simp only [Bool.not_false, Bool.true_and] at hy'
      rw [hy']
      rfl
  · obtain ⟨p, hp, htag⟩ := Option.map_eq_some_iff.mp hpulse
    have hcut : x.lswCut n tag = x.lswPulseOff n := by
      unfold State.lswCut
      rw [hsw, hp]
      exact if_pos htag
    rw [hcut, State.complete_sw, State.complete_lOn]
    exact x.lswPulseOff_ends n

end Sys2Proof.Machine
end

section
/-! SUPPORT. Open loads, faults and clears of the load switches (R336-R340), each by what it carries out. -/

namespace Sys2Proof.Machine

/-! ### What drives and messages leave alone -/

theorem groupSet_lt {n : Nat} (hn : n < 64) : ∀ m ∈ groupSet n, m < 64 := by
  rintro m (rfl | hm)
  · exact hn
  · exact groupChannels_lt (groupOf_lt hn) hm

/-- A register of block LSW below the channels that no drive of a load switch shows: the maps of faults and sheds, the flags of the block and
its counters. -/
structure lswKept (k : Nat) : Prop where
  notConf : k ≠ Reg.LSW_CONFCNT
  below : k < Reg.LSW_OLMAP_LO ∨ (Reg.LSW_OLMAP_HI < k ∧ k < Reg.LSW_GRPg_STAT 0) ∨ (0xC05C < k ∧ k < 0xC100)

theorem lswKept_notSwitch {C : Set Nat} (hC : ∀ m ∈ C, m < 64) {k : Nat} (hk : lswKept k) : k ∉ switchRegs C := by
  have hbelow := hk.below
  unfold Reg.LSW_OLMAP_LO Reg.LSW_OLMAP_HI Reg.LSW_GRPg_STAT at hbelow
  simp only [switchRegs, Set.mem_ofPred_eq, not_or, not_exists]
  refine ⟨hk.notConf, fun g => by unfold Reg.LSW_GRPg_STAT; omega, fun m ⟨hm, e⟩ => ?_⟩
  have := hC m hm
  unfold Reg.LSW_CHn_STAT Reg.LSW_OLMAP_LO at e
  omega

theorem State.SwitchTo.kept {C : Set Nat} {s t : State} (h : SwitchTo C s t) (hC : ∀ m ∈ C, m < 64) {k : Nat} (hk : lswKept k) : t.reg k = s.reg k :=
  h.reg k (lswKept_notSwitch hC hk)

theorem lswKept_fltmap {q : Nat} (h : q < 64) : lswKept (Reg.LSW_FLTMAP_LO + 4 * (q / 32 % 4)) := by
  constructor
  · unfold Reg.LSW_FLTMAP_LO Reg.LSW_CONFCNT
    omega
  · unfold Reg.LSW_FLTMAP_LO Reg.LSW_OLMAP_LO
    omega

theorem lswKept_shedmap {q : Nat} (h : q < 64) : lswKept (Reg.LSW_SHEDMAP_LO + 4 * (q / 32 % 4)) := by
  constructor
  · unfold Reg.LSW_SHEDMAP_LO Reg.LSW_CONFCNT
    omega
  · unfold Reg.LSW_SHEDMAP_LO Reg.LSW_OLMAP_HI Reg.LSW_GRPg_STAT
    omega

theorem State.lswEntry_affects (S : Set Nat) (s : State) (tag subject : Nat) (detail : Option Nat) :
    State.AffectsOnly S s (s.lswEntry tag subject detail) := by
  unfold State.lswEntry
  exact .ite _ (fun _ => ((State.AffectsOnly.eventEntry _ _ _ _ _ _ _).trans (.eventEntry _ _ _ _ _ _ _)).trans (.tickFree _))
    fun _ => (State.AffectsOnly.eventEntry _ _ _ _ _ _ _).trans (.eventEntry _ _ _ _ _ _ _)

theorem State.lswEvent_affects (S : Set Nat) (s : State) (tag subject sev : Nat) (detail : Option Nat) :
    State.AffectsOnly S s (s.lswEvent tag subject sev detail) := (s.lswEntry_affects S _ _ _).trans (.record _ _ _ _ _ _ _)

/-- The registers in which block LSW shows what it is told, beside its channels. -/
def lswTold : Set Nat := {Reg.LSW_STAT, Reg.LSW_OLCNT, Reg.LSW_TRIPCNT, Reg.LSW_SHEDCNT}

theorem lswStat_notTold (n : Nat) : Reg.LSW_CHn_STAT n ∉ lswTold := by
  simp only [lswTold, Set.mem_insert_iff, Set.mem_singleton_iff, Reg.LSW_CHn_STAT, Reg.LSW_STAT, Reg.LSW_OLCNT, Reg.LSW_TRIPCNT, Reg.LSW_SHEDCNT]
  omega

theorem State.AffectsOnly.lOn {s t : State} (h : State.AffectsOnly lswTold s t) (n b : Nat) : t.lOn n b = s.lOn n b :=
  h.on (lswStat_notEntry n) (lswStat_notTold n)

theorem State.AffectsOnly.sw {S : Set Nat} {s t : State} (h : State.AffectsOnly S s t) (n : Nat) : t.sw n = s.sw n :=
  State.sw_congr (h.part (fun x => x.lsw.chs) fun _ _ => rfl) n

/-- A register map of block LSW below its groups. -/
def lswMap (k : Nat) : Prop := 0xC020 ≤ k ∧ k < 0xC040

theorem lswMap_notTold {k : Nat} (h : lswMap k) : k ∉ lswTold := by
  unfold lswMap at h
  simp only [lswTold, Set.mem_insert_iff, Set.mem_singleton_iff, Reg.LSW_STAT, Reg.LSW_OLCNT, Reg.LSW_TRIPCNT, Reg.LSW_SHEDCNT]
  omega

theorem State.AffectsOnly.lswMap {s t : State} (h : State.AffectsOnly lswTold s t) {base q : Nat} (hm : lswMap (base + 4 * (q / 32 % 4))) :
    t.mapOn base q = s.mapOn base q := by
  refine State.mapOn_congr (h.reg _ (notEntry ?_) (lswMap_notTold hm))
  unfold Machine.lswMap at hm
  omega

theorem State.mapOn_mapBit (s : State) (base q : Nat) (v : Bool) : (s.mapBit base q v).mapOn base q = v := by
  cases v
  · exact s.mapOn_mapBit_false base q
  · exact s.mapOn_mapBit_true base q

theorem lswCarried_lt {s : State} {n : Nat} (h : s.lswCarried n = true) : n < 64 := by
  unfold State.lswCarried at h
  simp only [Bool.and_eq_true, decide_eq_true_eq] at h
  exact h.1

/-! ### Open loads (R339, R340) -/

/-- The message of an open load. -/
def State.openTold (s : State) (n : Nat) : State := ((s.inc F.LSW_OLCNT_CNT).flag F.LSW_STAT_OPENLOAD F.LSW_CTL_IE_OL).lswEntry 4 n none

theorem State.openTold_affects (s : State) (n : Nat) : State.AffectsOnly lswTold s (s.openTold n) :=
  ((State.AffectsOnly.inc s (.inl (.inr (.inl rfl)))).trans (.flag _ _ (.inl (.inl rfl)))).trans (State.lswEntry_affects _ _ _ _ _)

theorem State.openTold_shows (s : State) (n : Nat) : (s.openTold n).rd F.LSW_STAT_OPENLOAD = 1 :=
  ((State.lswEntry_affects ∅ _ 4 n none).rd (notEntry (by decide)) (Set.notMem_empty _)).trans (State.flag_rd_same _ (by decide) rfl)

theorem State.openLoad_eq (s : State) (n flag : Nat) : s.openLoad n flag =
    if s.lOn n flag then s else ((s.lSet n flag true).olMap n).openTold n := rfl

theorem lswMap_olmap {q : Nat} : lswMap (Reg.LSW_OLMAP_LO + 4 * (q / 32 % 4)) := by
  unfold lswMap Reg.LSW_OLMAP_LO
  omega

theorem State.olMap_mapOn (s : State) (n : Nat) : (s.olMap n).mapOn Reg.LSW_OLMAP_LO n = (s.lOn n 8 || s.lOn n 9) := s.mapOn_mapBit _ n _

/-- A first detection of an open load. -/
theorem State.openLoad_shows {s : State} {n flag : Nat} (hflag : flag = 8 ∨ flag = 9) : (s.openLoad n flag).lOn n flag = true ∧
    (s.lOn n flag = false → (s.openLoad n flag).mapOn Reg.LSW_OLMAP_LO n = true ∧ (s.openLoad n flag).rd F.LSW_STAT_OPENLOAD = 1) := by
  have hset : (s.lSet n flag true).lOn n flag = true := State.lOn_lSet_same _ _ _ (by omega)
  rw [State.openLoad_eq]
  split
  · next hon => exact ⟨hon, fun hoff => absurd (hon.symm.trans hoff) (by decide)⟩
  · have h := ((s.lSet n flag true).olMap n).openTold_affects n
    refine ⟨(h.lOn n flag).trans ((State.olMap_lOn _ _ _ _).trans hset), fun _ => ⟨?_, State.openTold_shows _ n⟩⟩
    rw [h.lswMap lswMap_olmap, State.olMap_mapOn]
    obtain rfl | rfl := hflag
    · rw [hset, Bool.true_or]
    · rw [hset, Bool.or_true]

theorem execOpenLoadOff_shows {s : State} {n : Nat} {high : Bool} (hbed : s.bedOn = true) (hcar : s.lswCarried n = true) (hoff : s.lOn n 0 = false)
    (hhigh : high = true) (hdue : s.on (F.LSW_CHn_CTL_PUEN n) = true ∧ (s.sw n).offSince + 15000000 ≤ s.now) :
    Completes (.openLoadOff n high) s (fun t => t.lOn n 8 = high ∧
      (high = true → s.lOn n 8 = false → t.mapOn Reg.LSW_OLMAP_LO n = true ∧ t.rd F.LSW_STAT_OPENLOAD = 1) ∧
      (high = false → t.mapOn Reg.LSW_OLMAP_LO n = s.lOn n 9)) := by
  subst hhigh
  refine ⟨s.openLoad n 8, congrArg Host.Outcome.next ((if_neg ?_).trans ((if_pos rfl).trans (if_pos hdue))), ?_⟩
  · rw [hbed, hcar, hoff]
    decide
  · obtain ⟨h8, hfirst⟩ := State.openLoad_shows (s := s) (n := n) (.inl rfl)
    exact ⟨h8, fun _ => hfirst, fun h => absurd h (by decide)⟩

theorem execOpenLoadOn_shows {s : State} {n : Nat} (low : Bool) (hbed : s.bedOn = true) (hcar : s.lswCarried n = true) (hon : s.lOn n 0 = true)
    (honol : s.on (F.LSW_CHn_CTL_ONOL n) = true) (hdue : (s.sw n).ton + 100000000 ≤ s.now) :
    Completes (.openLoadOn n low) s (fun t => t.lOn n 9 = low ∧
      (low = true → s.lOn n 9 = false → t.mapOn Reg.LSW_OLMAP_LO n = true ∧ t.rd F.LSW_STAT_OPENLOAD = 1) ∧
      (low = false → t.mapOn Reg.LSW_OLMAP_LO n = s.lOn n 8)) := by
  have hgo : ¬ (s.bedOn = false ∨ s.lswCarried n = false ∨ s.lOn n 0 = false ∨ s.on (F.LSW_CHn_CTL_ONOL n) = false ∨
      s.now < (s.sw n).ton + 100000000) := by
    rw [hbed, hcar, hon, honol]
    simp
    omega
  cases low with
  | true =>
    refine ⟨s.openLoad n 9, congrArg Host.Outcome.next ((if_neg hgo).trans (if_pos rfl)), ?_⟩
    obtain ⟨h9, hfirst⟩ := State.openLoad_shows (s := s) (n := n) (.inr rfl)
    exact ⟨h9, fun _ => hfirst, fun h => absurd h (by decide)⟩
  | false =>
    refine ⟨(s.lSet n 9 false).olMap n, congrArg Host.Outcome.next ((if_neg hgo).trans (if_neg (by decide))), ?_⟩
    have h9 : (s.lSet n 9 false).lOn n 9 = false := State.lOn_lSet_same _ _ _ (by decide)
    refine ⟨(State.olMap_lOn _ _ _ _).trans h9, fun h => absurd h (by decide), fun _ => ?_⟩
    rw [State.olMap_mapOn, h9, Bool.or_false, State.lOn_lSet_beside _ _ _ _ (by decide) (by decide) (by decide)]

/-! ### Faults (R337, R338) -/

/-- A fault shown in its flag and in the map. -/
def State.lswFaultShown (s : State) (n flag : Nat) : State := (s.lSet n flag true).mapBit Reg.LSW_FLTMAP_LO n true

/-- A fault told, and counted where the wire tripped. -/
def State.lswFaultTold (s : State) (n flag : Nat) (detail : Option Nat) : State :=
  ((if flag = 7 then s.inc F.LSW_TRIPCNT_CNT else s).flag F.LSW_STAT_CHFLT F.LSW_CTL_IE_CHFLT).lswEvent (flag - 4) n sevFault detail

theorem State.lswFault_eq (s : State) (n flag : Nat) (detail : Option Nat) :
    s.lswFault n flag detail = ((s.lswFaultShown n flag).lswOff n).lswFaultTold n flag detail := rfl

theorem State.lswFaultTold_affects (s : State) (n flag : Nat) (detail : Option Nat) : State.AffectsOnly lswTold s (s.lswFaultTold n flag detail) :=
  ((State.AffectsOnly.ite (flag = 7) (fun _ => .inc s (.inl (.inr (.inr (.inl rfl))))) fun _ => .refl s).trans
    (.flag _ _ (.inl (.inl rfl)))).trans (State.lswEvent_affects _ _ _ _ _ _)

theorem State.lswFaultTold_shows (s : State) (n flag : Nat) (detail : Option Nat) : (s.lswFaultTold n flag detail).rd F.LSW_STAT_CHFLT = 1 :=
  ((State.lswEvent_affects ∅ _ _ n _ detail).rd (notEntry (by decide)) (Set.notMem_empty _)).trans (State.flag_rd_same _ (by decide) rfl)

theorem lswMap_fltmap {q : Nat} : lswMap (Reg.LSW_FLTMAP_LO + 4 * (q / 32 % 4)) := by
  unfold lswMap Reg.LSW_FLTMAP_LO
  omega

theorem State.mapBit_lOn (s : State) {base : Nat} (i : Nat) (v : Bool) (m b : Nat) (h : base < 0xC100) : (s.mapBit base i v).lOn m b = s.lOn m b := by
  refine State.on_congr (State.rd_congr (State.reg_wrB_other _ _ ?_))
  simp only [lswFlag, Reg.LSW_CHn_STAT]
  omega

theorem State.lswOff_switches (s : State) (n : Nat) : SwitchTo (groupSet n) s (s.lswOff n) := .lswOff s (.inl rfl) fun _ hm => .inr hm

theorem State.lswFault_shows {s : State} {n flag : Nat} (detail : Option Nat) (hn : n < 64) (hflag : 5 ≤ flag ∧ flag ≤ 7) :
    (s.lswFault n flag detail).lOn n flag = true ∧ (s.lswFault n flag detail).mapOn Reg.LSW_FLTMAP_LO n = true ∧
      (s.lswFault n flag detail).rd F.LSW_STAT_CHFLT = 1 ∧ (s.lswFault n flag detail).lOn n 0 = false := by
  rw [State.lswFault_eq]
  have htold := ((s.lswFaultShown n flag).lswOff n).lswFaultTold_affects n flag detail
  have hoff := (s.lswFaultShown n flag).lswOff_switches n
  have hset : (s.lswFaultShown n flag).lOn n flag = true :=
    (State.mapBit_lOn _ _ _ _ _ (by decide)).trans (State.lOn_lSet_same _ _ _ (by omega))
  have hsafe : (s.lswFaultShown n flag).lswSafeOn n = false := by
    unfold State.lswSafeOn
    obtain rfl | rfl | rfl : flag = 5 ∨ flag = 6 ∨ flag = 7 := by omega
    all_goals
      rw [hset]
      simp
  refine ⟨(htold.lOn n flag).trans ((hoff.flag n flag (by omega) (by unfold switchBit; omega)).trans hset), ?_, State.lswFaultTold_shows _ _ _ _, ?_⟩
  · exact (htold.lswMap lswMap_fltmap).trans ((State.mapOn_congr (hoff.kept (groupSet_lt hn) (lswKept_fltmap hn))).trans (State.mapOn_mapBit_true _ _ _))
  · rw [htold.lOn, ((s.lswFaultShown n flag).lswOff_shows hn).1, hsafe, Bool.and_false]

/-- The limit current has lasted its time. -/
def State.limitDue (s : State) (n : Nat) : Bool :=
  (s.sw n).limSince.any (fun t0 => decide (t0 + s.rd (F.LSW_CHn_CTL_TLIM n) * 1000000 ≤ s.now))

theorem State.limit_faults {s : State} {n : Nat} (u : State) (h : s.limitDue n = true) : (match (s.sw n).limSince with
    | some t0 => if t0 + s.rd (F.LSW_CHn_CTL_TLIM n) * 1000000 ≤ s.now then u else s
    | none => s) = u := by
  unfold State.limitDue at h
  cases ht0 : (s.sw n).limSince with
  | none =>
    rw [ht0, Option.any_none] at h
    exact absurd h Bool.false_ne_true
  | some t0 =>
    rw [ht0, Option.any_some, decide_eq_true_eq] at h
    exact if_pos h

theorem execLswChannelFault_eq {s : State} (n kind : Nat) (hbed : s.bedOn = true) (hcar : s.lswCarried n = true) :
    exec (.lswChannelFault n kind) s = .next (if kind = 0 then
        match (s.sw n).limSince with
        | some t0 => if t0 + s.rd (F.LSW_CHn_CTL_TLIM n) * 1000000 ≤ s.now then s.lswFault n 5 none else s
        | none => s
      else if kind = 1 then (s.setSw n { s.sw n with hot := true }).lswFault n 6 none
      else if kind = 2 then s.wireTrip n
      else s) :=
  congrArg Host.Outcome.next (if_neg (by rw [hbed, hcar]; decide))

theorem execLswChannelFault_shows {s : State} {n kind : Nat} (hbed : s.bedOn = true) (hcar : s.lswCarried n = true)
    (hkind : (kind = 0 ∧ (s.sw n).limSince.any (fun t0 => decide (t0 + s.rd (F.LSW_CHn_CTL_TLIM n) * 1000000 ≤ s.now)) = true) ∨ kind = 1 ∨
      (kind = 2 ∧ (s.wireLimit n).le (s.heat n) = true ∧ s.lOn n 7 = false)) :
    Completes (.lswChannelFault n kind) s (fun t => t.lOn n (5 + kind) = true ∧ t.mapOn Reg.LSW_FLTMAP_LO n = true ∧ t.rd F.LSW_STAT_CHFLT = 1 ∧
      t.lOn n 0 = false) := by
  have hn := lswCarried_lt hcar
  refine ⟨_, execLswChannelFault_eq n kind hbed hcar, ?_⟩
  dsimp only
  obtain ⟨rfl, hlim⟩ | rfl | ⟨rfl, hheat, h7⟩ := hkind
  · rw [if_pos rfl, State.limit_faults _ hlim]
    exact State.lswFault_shows none hn (by decide)
  · rw [if_neg (by decide), if_pos rfl]
    exact State.lswFault_shows none hn (by decide)
  · have heq : s.wireTrip n = s.lswFault n 7 (some ((s.heat n).mul ⟨1, 10000⟩).floor.toNat) := if_pos ⟨hheat, h7, hcar⟩
    rw [if_neg (by decide), if_neg (by decide), if_pos rfl, heq]
    exact State.lswFault_shows _ hn (by decide)

end Sys2Proof.Machine
end

section
/-! SUPPORT. The clears of faults and sheds of the load switches (R336, R337). -/

namespace Sys2Proof.Machine

/-! ### What following its command leaves a channel (R335) -/

theorem State.lswFollow_keeps (s : State) {m : Nat} (hm : m < 64) : (s.lswFollow m).resp = s.resp ∧
    (∀ n b, b < 32 → ¬ switchBit b → (s.lswFollow m).lOn n b = s.lOn n b) ∧
    (∀ base q, lswKept (base + 4 * (q / 32 % 4)) → (s.lswFollow m).mapOn base q = s.mapOn base q) ∧
    (∀ n, ((s.lswFollow m).sw n).hot = (s.sw n).hot) ∧ (∀ n, (s.lswFollow m).heat n = s.heat n) ∧ ∀ n, (s.lswFollow m).wireLimit n = s.wireLimit n := by
  have h := s.lswFollow_switches m
  refine ⟨h.part State.resp fun _ _ _ => rfl, h.flag, fun base q hk => State.mapOn_congr (h.kept (groupSet_lt hm) hk), fun n => (h.same n).2.1,
    fun n => h.part (fun x => x.heat n) fun _ _ _ => rfl, fun n => ?_⟩
  have hrd : (s.lswFollow m).rd (F.LSW_CHn_LIM_IWIRE n) = s.rd (F.LSW_CHn_LIM_IWIRE n) := by
    refine h.rd ?_
    simp only [switchRegs, Set.mem_ofPred_eq, F.LSW_CHn_LIM_IWIRE, Reg.LSW_CHn_LIM, Reg.LSW_CONFCNT, Reg.LSW_GRPg_STAT, Reg.LSW_CHn_STAT,
      Reg.LSW_OLMAP_LO, not_or, not_exists]
    exact ⟨by omega, fun g => by omega, fun k ⟨hk, e⟩ => by omega⟩
  unfold State.wireLimit
  rw [hrd]

theorem lswApart {n m : Nat} (hn : n < 64) (hm : m < 64) (h : m ≠ n) : n / 32 % 4 ≠ m / 32 % 4 ∨ n % 32 ≠ m % 32 := by omega

/-- The place of a channel in the word of a map. -/
theorem word_place {n : Nat} {hi : Bool} (hn : n < 64) (h : hi = decide (32 ≤ n)) : 32 * (if hi then 1 else 0) + n % 32 = n := by
  rw [h]
  by_cases hc : 32 ≤ n
  · rw [decide_eq_true hc, if_pos rfl]
    omega
  · rw [decide_eq_false hc, if_neg Bool.false_ne_true]
    omega

/-! ### Sheds (R336) -/

/-- A shed forgotten. -/
def State.shedForgotten (s : State) (m : Nat) : State := (s.mapBit Reg.LSW_SHEDMAP_LO m false).lSet m 4 false

/-- A round of a write of the shed map. -/
def State.shedRound (s : State) (v : W32) (hi i : Nat) : State :=
  if bitAt v.toNat i ∧ s.mapOn Reg.LSW_SHEDMAP_LO (32 * hi + i) then (s.shedForgotten (32 * hi + i)).lswFollow (32 * hi + i) else s

theorem lswShedmap_notStat (q n : Nat) : Reg.LSW_SHEDMAP_LO + 4 * (q / 32 % 4) ≠ Reg.LSW_CHn_STAT n := by
  unfold Reg.LSW_SHEDMAP_LO Reg.LSW_CHn_STAT
  omega

theorem State.shedForgotten_map (s : State) (m q : Nat) :
    (s.shedForgotten m).mapOn Reg.LSW_SHEDMAP_LO q = (s.mapBit Reg.LSW_SHEDMAP_LO m false).mapOn Reg.LSW_SHEDMAP_LO q :=
  State.mapOn_congr (State.lSet_reg _ m 4 false (lswShedmap_notStat q m))

/-- A shed told to end keeps the response; a channel it takes from the map no longer shows it. -/
structure State.ClearsShed (n : Nat) (was : Bool) (s : State) : Prop where
  resp : s.resp = .done
  clear : s.mapOn Reg.LSW_SHEDMAP_LO n = false → was = true → s.lOn n 4 = false

theorem State.shedRound_keeps {s : State} {n : Nat} {was : Bool} (v : W32) {hi i : Nat} (hn : n < 64) (hi64 : 32 * hi + i < 64)
    (h : s.ClearsShed n was) : (s.shedRound v hi i).ClearsShed n was := by
  unfold State.shedRound
  split
  · obtain ⟨hresp, hflag, hmap, -⟩ := (s.shedForgotten (32 * hi + i)).lswFollow_keeps hi64
    refine ⟨hresp.trans h.resp, fun hoff hwas => (hflag n 4 (by decide) (by unfold switchBit; decide)).trans ?_⟩
    by_cases hmn : 32 * hi + i = n
    · rw [hmn]
      exact State.lOn_lSet_same _ _ _ (by decide)
    · refine (State.lOn_lSet_other _ 4 4 false (by omega)).trans ((State.mapBit_lOn _ _ _ _ _ (by decide)).trans (h.clear ?_ hwas))
      rw [hmap _ _ (lswKept_shedmap hn), State.shedForgotten_map, s.mapOn_mapBit_beside false (lswApart hn hi64 hmn)] at hoff
      exact hoff
  · exact h

theorem State.shedRound_leaves {s : State} {n : Nat} {v : W32} {hi : Nat} (hn : n < 64) (hplace : 32 * hi + n % 32 = n) (hbit : bitAt v.toNat (n % 32) = true) :
    (s.shedRound v hi (n % 32)).mapOn Reg.LSW_SHEDMAP_LO n = false := by
  unfold State.shedRound
  rw [hplace]
  split
  · obtain ⟨-, -, hmap, -⟩ := (s.shedForgotten n).lswFollow_keeps hn
    rw [hmap _ _ (lswKept_shedmap hn), State.shedForgotten_map]
    exact s.mapOn_mapBit_false _ n
  · next h => exact eq_false_of_ne_true fun hon => h ⟨hbit, hon⟩

theorem State.shedRound_out {s : State} {n : Nat} (v : W32) {hi i : Nat} (hn : n < 64) (hi64 : 32 * hi + i < 64)
    (h : s.mapOn Reg.LSW_SHEDMAP_LO n = false) : (s.shedRound v hi i).mapOn Reg.LSW_SHEDMAP_LO n = false := by
  unfold State.shedRound
  split
  · obtain ⟨-, -, hmap, -⟩ := (s.shedForgotten (32 * hi + i)).lswFollow_keeps hi64
    rw [hmap _ _ (lswKept_shedmap hn), State.shedForgotten_map]
    by_cases hmn : 32 * hi + i = n
    · rw [hmn]
      exact s.mapOn_mapBit_false _ n
    · rw [s.mapOn_mapBit_beside false (lswApart hn hi64 hmn)]
      exact h
  · exact h

theorem State.shedmapWrite_eq (s : State) (hi : Nat) (v : W32) : s.shedmapWrite hi v = (List.range 32).foldl (fun x i => x.shedRound v hi i) s := rfl

theorem execShedClear_clears {s : State} {a : Agent} {hi : Bool} {v : W32} {n : Nat} (hn : n < 64) (hhi : hi = decide (32 ≤ n))
    (hacc : s.accepts a 0x0C (0x038 + if hi then 4 else 0) = true) (hbit : bitAt v.toNat (n % 32) = true) :
    Completes (.shedClear a hi v) s (fun t => t.resp = .done ∧ t.mapOn Reg.LSW_SHEDMAP_LO n = false ∧
      (s.mapOn Reg.LSW_SHEDMAP_LO n = true → t.lOn n 4 = false)) := by
  have hk : (0x038 + 4 * if hi then 1 else 0) = 0x038 + if hi then 4 else 0 := by cases hi <;> rfl
  refine ⟨s.done.shedmapWrite (if hi then 1 else 0) v,
    congrArg Host.Outcome.next ((congrArg (fun k => s.gate a 0x0C k _) hk).trans (State.gate_accepts _ hacc)), ?_⟩
  dsimp only
  have hplace := word_place hn hhi
  have hlt : (if hi then 1 else 0) < 2 := by split <;> omega
  generalize (if hi then 1 else 0) = p at hplace hlt
  rw [State.shedmapWrite_eq]
  obtain ⟨hI, hP⟩ := foldl_establishes (f := fun (x : State) i => x.shedRound v p i) (I := State.ClearsShed n (s.mapOn Reg.LSW_SHEDMAP_LO n))
    (P := fun i (x : State) => i = n % 32 → x.mapOn Reg.LSW_SHEDMAP_LO n = false) (List.range 32) s.done
    ⟨rfl, fun hoff hon => absurd (hon.symm.trans hoff) (by decide)⟩
    (fun x i hi hx => State.shedRound_keeps v hn (by have := List.mem_range.mp hi; omega) hx)
    (fun x i _ _ hin => by
      rw [hin]
      exact State.shedRound_leaves hn hplace hbit)
    (fun x i j _ hj _ hx hin => State.shedRound_out v hn (by have := List.mem_range.mp hj; omega) (hx hin))
  have hout := hP (n % 32) (List.mem_range.mpr (Nat.mod_lt _ (by decide))) rfl
  exact ⟨hI.resp, hout, hI.clear hout⟩

/-! ### Faults (R337) -/

/-- A fault of a load switch forgotten. -/
def State.lswForgotten (s : State) (m : Nat) : State := (((s.mapBit Reg.LSW_FLTMAP_LO m false).lSet m 5 false).lSet m 6 false).lSet m 7 false

/-- A round of a write of the fault map. -/
def State.lswFaultRound (s : State) (v : W32) (hi i : Nat) : State :=
  if bitAt v.toNat i ∧ s.mapOn Reg.LSW_FLTMAP_LO (32 * hi + i) ∧ s.clearable (32 * hi + i) then
    (s.lswForgotten (32 * hi + i)).lswFollow (32 * hi + i)
  else s

theorem State.lswFltmapWrite_eq (s : State) (hi : Nat) (v : W32) : s.lswFltmapWrite hi v = (List.range 32).foldl (fun x i => x.lswFaultRound v hi i) s := rfl

theorem lswFltmap_notStat (q n : Nat) : Reg.LSW_FLTMAP_LO + 4 * (q / 32 % 4) ≠ Reg.LSW_CHn_STAT n := by
  unfold Reg.LSW_FLTMAP_LO Reg.LSW_CHn_STAT
  omega

section
variable (s : State) (m : Nat)

theorem State.lswForgotten_map (q : Nat) : (s.lswForgotten m).mapOn Reg.LSW_FLTMAP_LO q = (s.mapBit Reg.LSW_FLTMAP_LO m false).mapOn Reg.LSW_FLTMAP_LO q :=
  State.mapOn_congr ((State.lSet_reg _ m 7 false (lswFltmap_notStat q m)).trans ((State.lSet_reg _ m 6 false (lswFltmap_notStat q m)).trans
    (State.lSet_reg _ m 5 false (lswFltmap_notStat q m))))

theorem State.lswForgotten_other {n : Nat} (h : n % 64 ≠ m % 64) (b : Nat) : (s.lswForgotten m).lOn n b = s.lOn n b :=
  (State.lOn_lSet_other _ _ _ _ h).trans ((State.lOn_lSet_other _ _ _ _ h).trans ((State.lOn_lSet_other _ _ _ _ h).trans
    (State.mapBit_lOn _ _ _ _ _ (by decide))))

theorem State.lswForgotten_clear : (s.lswForgotten m).lOn m 5 = false ∧ (s.lswForgotten m).lOn m 6 = false ∧ (s.lswForgotten m).lOn m 7 = false :=
  ⟨(State.lOn_lSet_beside _ _ _ _ (by decide) (by decide) (by decide)).trans
      ((State.lOn_lSet_beside _ _ _ _ (by decide) (by decide) (by decide)).trans (State.lOn_lSet_same _ _ _ (by decide))),
    (State.lOn_lSet_beside _ _ _ _ (by decide) (by decide) (by decide)).trans (State.lOn_lSet_same _ _ _ (by decide)), State.lOn_lSet_same _ _ _ (by decide)⟩

theorem State.lswForgotten_sw (n : Nat) : (s.lswForgotten m).sw n = s.sw n :=
  (State.lSet_sw _ _ _ _ _).trans ((State.lSet_sw _ _ _ _ _).trans ((State.lSet_sw _ _ _ _ _).trans (State.sw_congr rfl n)))

theorem State.lswForgotten_heat (n : Nat) : (s.lswForgotten m).heat n = s.heat n := rfl

theorem State.lswForgotten_wireLimit (n : Nat) : (s.lswForgotten m).wireLimit n = s.wireLimit n := by
  have hrd : (s.lswForgotten m).rd (F.LSW_CHn_LIM_IWIRE n) = s.rd (F.LSW_CHn_LIM_IWIRE n) := by
    refine State.rd_congr ((State.lSet_reg _ _ _ _ (lswStat_notLim n m)).trans ((State.lSet_reg _ _ _ _ (lswStat_notLim n m)).trans
      ((State.lSet_reg _ _ _ _ (lswStat_notLim n m)).trans (State.reg_wrB_other _ _ ?_))))
    simp only [F.LSW_CHn_LIM_IWIRE, Reg.LSW_CHn_LIM, Reg.LSW_FLTMAP_LO]
    omega
  unfold State.wireLimit
  rw [hrd]

end

/-- A channel whose fault has been forgotten may be cleared again, and whether another may is as before. -/
theorem State.lswForgotten_clearable (s : State) {m n : Nat} (hn : n < 64) (hm : m < 64) :
    ((s.lswForgotten m).lswFollow m).clearable n = (if m = n then true else s.clearable n) := by
  obtain ⟨-, hflag, -, hhot, hheat, hwire⟩ := (s.lswForgotten m).lswFollow_keeps hm
  unfold State.clearable
  rw [hflag n 6 (by decide) (by unfold switchBit; decide), hflag n 7 (by decide) (by unfold switchBit; decide), hhot, hheat, hwire]
  split
  · next h =>
    rw [← h, (s.lswForgotten_clear m).2.1, (s.lswForgotten_clear m).2.2]
    rfl
  · next h =>
    rw [s.lswForgotten_other m (by omega), s.lswForgotten_other m (by omega), State.lswForgotten_sw, State.lswForgotten_heat, State.lswForgotten_wireLimit]

/-- A channel that may be cleared, while the write comes to it. -/
structure State.ClearsLoad (n : Nat) (s : State) : Prop where
  resp : s.resp = .done
  may : s.clearable n = true
  clear : s.mapOn Reg.LSW_FLTMAP_LO n = false → s.lOn n 5 = false ∧ s.lOn n 6 = false ∧ s.lOn n 7 = false

theorem State.lswFaultRound_map {s : State} {n : Nat} {m : Nat} (hn : n < 64) (hm : m < 64) :
    ((s.lswForgotten m).lswFollow m).mapOn Reg.LSW_FLTMAP_LO n = if m = n then false else s.mapOn Reg.LSW_FLTMAP_LO n := by
  obtain ⟨-, -, hmap, -⟩ := (s.lswForgotten m).lswFollow_keeps hm
  rw [hmap _ _ (lswKept_fltmap hn), State.lswForgotten_map]
  split
  · next h =>
    rw [h]
    exact s.mapOn_mapBit_false _ n
  · next h => exact s.mapOn_mapBit_beside false (lswApart hn hm h)

theorem State.lswFaultRound_keeps {s : State} {n : Nat} (v : W32) {hi i : Nat} (hn : n < 64) (hi64 : 32 * hi + i < 64) (h : s.ClearsLoad n) :
    (s.lswFaultRound v hi i).ClearsLoad n := by
  unfold State.lswFaultRound
  split
  · obtain ⟨hresp, hflag, -⟩ := (s.lswForgotten (32 * hi + i)).lswFollow_keeps hi64
    refine ⟨hresp.trans h.resp, ?_, fun hoff => ?_⟩
    · rw [s.lswForgotten_clearable hn hi64, h.may, ite_self]
    · rw [State.lswFaultRound_map hn hi64] at hoff
      rw [hflag n 5 (by decide) (by unfold switchBit; decide), hflag n 6 (by decide) (by unfold switchBit; decide),
        hflag n 7 (by decide) (by unfold switchBit; decide)]
      by_cases hmn : 32 * hi + i = n
      · rw [hmn]
        exact s.lswForgotten_clear n
      · rw [if_neg hmn] at hoff
        rw [s.lswForgotten_other _ (by omega), s.lswForgotten_other _ (by omega), s.lswForgotten_other _ (by omega)]
        exact h.clear hoff
  · exact h

theorem State.lswFaultRound_leaves {s : State} {n : Nat} {v : W32} {hi : Nat} (hn : n < 64) (hplace : 32 * hi + n % 32 = n)
    (hbit : bitAt v.toNat (n % 32) = true) (h : s.clearable n = true) : (s.lswFaultRound v hi (n % 32)).mapOn Reg.LSW_FLTMAP_LO n = false := by
  unfold State.lswFaultRound
  rw [hplace]
  split
  · rw [State.lswFaultRound_map hn hn, if_pos rfl]
  · next hc => exact eq_false_of_ne_true fun hon => hc ⟨hbit, hon, h⟩

theorem State.lswFaultRound_out {s : State} {n : Nat} (v : W32) {hi i : Nat} (hn : n < 64) (hi64 : 32 * hi + i < 64)
    (h : s.mapOn Reg.LSW_FLTMAP_LO n = false) : (s.lswFaultRound v hi i).mapOn Reg.LSW_FLTMAP_LO n = false := by
  unfold State.lswFaultRound
  split
  · rw [State.lswFaultRound_map hn hi64, h, ite_self]
  · exact h

/-- A channel that may not be cleared stays in the map. -/
theorem State.lswFaultRound_stays {s : State} {n : Nat} (v : W32) {hi i : Nat} (hn : n < 64) (hi64 : 32 * hi + i < 64)
    (h : s.resp = .done ∧ s.clearable n = false ∧ s.mapOn Reg.LSW_FLTMAP_LO n = true) :
    (s.lswFaultRound v hi i).resp = .done ∧ (s.lswFaultRound v hi i).clearable n = false ∧ (s.lswFaultRound v hi i).mapOn Reg.LSW_FLTMAP_LO n = true := by
  obtain ⟨hresp, hnot, hon⟩ := h
  unfold State.lswFaultRound
  split
  · next hc =>
    have hmn : 32 * hi + i ≠ n := fun e => by
      rw [e, hnot] at hc
      exact Bool.false_ne_true hc.2.2
    rw [s.lswForgotten_clearable hn hi64, State.lswFaultRound_map hn hi64, if_neg hmn, if_neg hmn]
    exact ⟨((s.lswForgotten (32 * hi + i)).lswFollow_keeps hi64).1.trans hresp, hnot, hon⟩
  · exact ⟨hresp, hnot, hon⟩

theorem execLswFaultClear_clears {s : State} {a : Agent} {hi : Bool} {v : W32} {n : Nat} (hn : n < 64) (hhi : hi = decide (32 ≤ n))
    (hacc : s.accepts a 0x0C (0x028 + if hi then 4 else 0) = true) (hbit : bitAt v.toNat (n % 32) = true)
    (hmap : s.mapOn Reg.LSW_FLTMAP_LO n = true) :
    Completes (.lswFaultClear a hi v) s (fun t => t.resp = .done ∧
      if s.clearable n = true then t.mapOn Reg.LSW_FLTMAP_LO n = false ∧ t.lOn n 5 = false ∧ t.lOn n 6 = false ∧ t.lOn n 7 = false
      else t.mapOn Reg.LSW_FLTMAP_LO n = true) := by
  have hk : (0x028 + 4 * if hi then 1 else 0) = 0x028 + if hi then 4 else 0 := by cases hi <;> rfl
  refine ⟨s.done.lswFltmapWrite (if hi then 1 else 0) v,
    congrArg Host.Outcome.next ((congrArg (fun k => s.gate a 0x0C k _) hk).trans (State.gate_accepts _ hacc)), ?_⟩
  dsimp only
  have hplace := word_place hn hhi
  have hlt : (if hi then 1 else 0) < 2 := by split <;> omega
  generalize (if hi then 1 else 0) = p at hplace hlt
  rw [State.lswFltmapWrite_eq]
  have hround {i : Nat} (hi : i ∈ List.range 32) : 32 * p + i < 64 := by
    have := List.mem_range.mp hi
    omega
  split
  · next hmay =>
    obtain ⟨hI, hP⟩ := foldl_establishes (f := fun (x : State) i => x.lswFaultRound v p i) (I := State.ClearsLoad n)
      (P := fun i (x : State) => i = n % 32 → x.mapOn Reg.LSW_FLTMAP_LO n = false) (List.range 32) s.done
      ⟨rfl, hmay, fun hoff => absurd (hmap.symm.trans hoff) (by decide)⟩ (fun x i hi hx => State.lswFaultRound_keeps v hn (hround hi) hx)
      (fun x i _ hx hin => by
        rw [hin]
        exact State.lswFaultRound_leaves hn hplace hbit hx.may)
      (fun x i j _ hj _ hx hin => State.lswFaultRound_out v hn (hround hj) (hx hin))
    have hout := hP (n % 32) (List.mem_range.mpr (Nat.mod_lt _ (by decide))) rfl
    exact ⟨hI.resp, hout, hI.clear hout⟩
  · next hnot =>
    obtain ⟨hresp, -, hon⟩ := foldl_keeps (f := fun (x : State) i => x.lswFaultRound v p i)
      (I := fun x : State => x.resp = .done ∧ x.clearable n = false ∧ x.mapOn Reg.LSW_FLTMAP_LO n = true) (List.range 32) s.done
      ⟨rfl, eq_false_of_ne_true hnot, hmap⟩ fun x i hi hx => State.lswFaultRound_stays v hn (hround hi) hx
    exact ⟨hresp, hon⟩

end Sys2Proof.Machine
end

section
/-! SUPPORT. The evaluation of the pin groups (R336): what one group's round changes, and what it leaves the other groups. -/

namespace Sys2Proof.Machine

theorem State.grp_setGrp_same (s : State) (g : Nat) (x : PinGroup) : (s.setGrp g x).grp g = x := SMap.get_set_same _ _ _ _

theorem State.grp_setGrp_other (s : State) {g h : Nat} (x : PinGroup) (hne : h ≠ g) : (s.setGrp g x).grp h = s.grp h := SMap.get_set_other _ _ _ hne

theorem State.grp_congr {s t : State} (h : t.lsw.grps = s.lsw.grps) (g : Nat) : t.grp g = s.grp g := by
  unfold State.grp
  rw [h]

/-- `t` comes from `s` by steps of the evaluation of group `g`, which measures the registers `K`. -/
structure State.EvalsTo (g : Nat) (K : Set Nat) (s t : State) : Prop where
  lastShed : t.lsw.lastShed = s.lsw.lastShed
  now : t.now = s.now
  applied : ∀ k, t.fsApplied k = s.fsApplied k
  flag : ∀ c b, c < 64 → groupOf c ≠ g → t.lOn c b = s.lOn c b
  ctl : ∀ m, t.reg (Reg.LSW_CHn_CTL m) = s.reg (Reg.LSW_CHn_CTL m)
  lim : ∀ h, t.rd (F.LSW_GRPg_STAT_LIM h) = s.rd (F.LSW_GRPg_STAT_LIM h)
  grp : ∀ h, h ≠ g → t.grp h = s.grp h
  cur : ∀ h, Reg.LSW_GRPg_CUR h ∉ K → t.reg (Reg.LSW_GRPg_CUR h) = s.reg (Reg.LSW_GRPg_CUR h)
  map : ∀ c, c < 64 → groupOf c ≠ g → t.mapOn Reg.LSW_SHEDMAP_LO c = s.mapOn Reg.LSW_SHEDMAP_LO c
  shed : s.rd F.LSW_STAT_SHED = 1 → t.rd F.LSW_STAT_SHED = 1

theorem lswCur_notEntry (h : Nat) : ¬ entryBlock (Reg.LSW_GRPg_CUR h / 0x1000) := notEntry (by unfold Reg.LSW_GRPg_CUR; omega)

namespace State.EvalsTo

variable {g : Nat} {K : Set Nat} {s t u : State}

theorem refl (s : State) : EvalsTo g K s s :=
  ⟨rfl, rfl, fun _ => rfl, fun _ _ _ _ => rfl, fun _ => rfl, fun _ => rfl, fun _ _ => rfl, fun _ _ => rfl, fun _ _ _ => rfl, id⟩

theorem trans (h : EvalsTo g K s t) (h' : EvalsTo g K t u) : EvalsTo g K s u where
  lastShed := h'.lastShed.trans h.lastShed
  now := h'.now.trans h.now
  applied k := (h'.applied k).trans (h.applied k)
  flag c b hc hg := (h'.flag c b hc hg).trans (h.flag c b hc hg)
  ctl m := (h'.ctl m).trans (h.ctl m)
  lim k := (h'.lim k).trans (h.lim k)
  grp k hk := (h'.grp k hk).trans (h.grp k hk)
  cur k hk := (h'.cur k hk).trans (h.cur k hk)
  map c hc hg := (h'.map c hc hg).trans (h.map c hc hg)
  shed hs := h'.shed (h.shed hs)

theorem mono {L : Set Nat} (h : EvalsTo g K s t) (hKL : K ⊆ L) : EvalsTo g L s t :=
  { h with cur := fun k hk => h.cur k fun hK => hk (hKL hK) }

theorem ite (c : Prop) [Decidable c] (h : c → EvalsTo g K s t) (h' : ¬ c → EvalsTo g K s u) : EvalsTo g K s (if c then t else u) := by
  split
  · exact h ‹_›
  · exact h' ‹_›

theorem setGrp (s : State) (x : PinGroup) : EvalsTo g K s (s.setGrp g x) :=
  ⟨rfl, rfl, fun _ => rfl, fun _ _ _ _ => rfl, fun _ => rfl, fun _ => rfl, fun _ hk => s.grp_setGrp_other x hk, fun _ _ => rfl, fun _ _ _ => rfl, id⟩

/-- A change of drive of the group's channels. -/
theorem of_switch {C : Set Nat} (h : SwitchTo C s t) (hC : ∀ m ∈ C, m < 64 ∧ groupOf m = g) : EvalsTo g K s t := by
  have hlt : ∀ m ∈ C, m < 64 := fun m hm => (hC m hm).1
  refine ⟨h.part (fun x => x.lsw.lastShed) fun _ _ _ => rfl, h.part State.now fun _ _ _ => rfl, fun k => h.part (fun x => x.fsApplied k) fun _ _ _ => rfl,
    fun c b hc hg => ?_, fun m => h.reg _ ?_, h.lim, fun k _ => State.grp_congr (h.part (fun x => x.lsw.grps) fun _ _ _ => rfl) k,
    fun k _ => h.reg _ ?_, fun c hc _ => State.mapOn_congr (h.kept hlt (lswKept_shedmap hc)), fun hs => (State.rd_congr (h.kept hlt ?_)).trans hs⟩
  · refine ((h.mono (D := othersOf c) fun m hm => ⟨hlt m hm, fun e => hg ?_⟩).beside hc).1 b
    rw [← e]
    exact (hC m hm).2
  · simp only [switchRegs, Set.mem_ofPred_eq, Reg.LSW_CHn_CTL, Reg.LSW_CONFCNT, Reg.LSW_GRPg_STAT, Reg.LSW_CHn_STAT, Reg.LSW_OLMAP_LO, not_or, not_exists]
    exact ⟨by omega, fun k => by omega, fun k ⟨hk, e⟩ => by omega⟩
  · simp only [switchRegs, Set.mem_ofPred_eq, Reg.LSW_GRPg_CUR, Reg.LSW_CONFCNT, Reg.LSW_GRPg_STAT, Reg.LSW_CHn_STAT, Reg.LSW_OLMAP_LO, not_or, not_exists]
    exact ⟨by omega, fun k => by omega, fun m ⟨hm, e⟩ => by have := hlt m hm; omega⟩
  · constructor
    · decide
    · decide

/-- A change of registers that are neither the channels', their groups' nor the maps'. -/
theorem of_affects (h : AffectsOnly K s t) (hK : ∀ k ∈ K, k ≠ Reg.LSW_STAT ∧ k < 0xC100 ∧ ¬ lswMap k ∧ ∀ j, k ≠ Reg.LSW_GRPg_STAT j) : EvalsTo g K s t := by
  have hreg {k : Nat} (hk : k / 0x1000 = 0xC) (hn : k ∉ K) : t.reg k = s.reg k := h.reg k (notEntry (by omega)) hn
  refine ⟨h.part (fun x => x.lsw.lastShed) fun _ _ => rfl, h.part State.now fun _ _ => rfl, fun k => h.part (fun x => x.fsApplied k) fun _ _ => rfl,
    fun c b _ _ => State.on_congr (State.rd_congr (hreg ?_ fun hk => ?_)), fun m => hreg ?_ fun hk => ?_,
    fun k => State.rd_congr (hreg ?_ fun hk => (hK _ hk).2.2.2 k rfl), fun k _ => State.grp_congr (h.part (fun x => x.lsw.grps) fun _ _ => rfl) k,
    fun k hk => h.reg _ (lswCur_notEntry k) hk, fun c hc _ => State.mapOn_congr (hreg ?_ fun hk => (hK _ hk).2.2.1 ?_),
    fun hs => (State.rd_congr (hreg (by decide) fun hk => (hK _ hk).1 rfl)).trans hs⟩
  · simp only [lswFlag, Reg.LSW_CHn_STAT]
    omega
  · have := (hK _ hk).2.1
    simp only [lswFlag, Reg.LSW_CHn_STAT] at this
    omega
  · unfold Reg.LSW_CHn_CTL
    omega
  · have := (hK _ hk).2.1
    unfold Reg.LSW_CHn_CTL at this
    omega
  · simp only [F.LSW_GRPg_STAT_LIM, Reg.LSW_GRPg_STAT]
    omega
  · unfold Reg.LSW_SHEDMAP_LO
    omega
  · unfold lswMap Reg.LSW_SHEDMAP_LO
    omega

theorem of_told (h : AffectsOnly ∅ s t) : EvalsTo g K s t := (of_affects h fun _ hk => absurd hk (Set.notMem_empty _)).mono (Set.empty_subset _)

/-- A flag of the block set. -/
theorem statFlag (s : State) {f : Fld} (ie : Fld) (hf : f.addr = Reg.LSW_STAT) (h : f = F.LSW_STAT_SHED ∨ f.apart F.LSW_STAT_SHED = true) :
    EvalsTo g K s (s.flag f ie) := by
  refine trans (t := s.wr f 1) ?_ (of_told (.notify _ _ _))
  have hother {k : Nat} (hk : k ≠ Reg.LSW_STAT) : (s.wr f 1).reg k = s.reg k := s.reg_wr_other 1 (by rw [hf]; exact hk)
  refine ⟨rfl, rfl, fun _ => rfl, fun c b _ _ => State.on_congr (State.rd_congr (hother ?_)), fun m => hother ?_, fun k => State.rd_congr (hother ?_),
    fun _ _ => rfl, fun k _ => hother ?_, fun c hc _ => State.mapOn_congr (hother ?_), fun hs => ?_⟩
  · simp only [lswFlag, Reg.LSW_CHn_STAT, Reg.LSW_STAT]
    omega
  · unfold Reg.LSW_CHn_CTL Reg.LSW_STAT
    omega
  · simp only [F.LSW_GRPg_STAT_LIM, Reg.LSW_GRPg_STAT, Reg.LSW_STAT]
    omega
  · unfold Reg.LSW_GRPg_CUR Reg.LSW_STAT
    omega
  · unfold Reg.LSW_SHEDMAP_LO Reg.LSW_STAT
    omega
  · obtain rfl | h := h
    · exact s.rd_wr_fits (by decide) (by decide)
    · exact (s.rd_wr_apart 1 h).trans hs

/-- The shed of a channel of the group shown in its flag and in the map. -/
theorem shedBits (s : State) {n : Nat} (hn : n < 64) (hg : groupOf n = g) : EvalsTo g K s ((s.lSet n 4 true).mapBit Reg.LSW_SHEDMAP_LO n true) := by
  have hreg {k : Nat} (hs : k ≠ Reg.LSW_CHn_STAT n) (hm : k ≠ Reg.LSW_SHEDMAP_LO + 4 * (n / 32 % 4)) :
      ((s.lSet n 4 true).mapBit Reg.LSW_SHEDMAP_LO n true).reg k = s.reg k := (State.reg_wrB_other _ _ hm).trans (s.lSet_reg n 4 true hs)
  have hne {c : Nat} (hcg : groupOf c ≠ g) : n ≠ c := fun e => hcg (e ▸ hg)
  refine ⟨rfl, rfl, fun _ => rfl, fun c b hc hcg => ?_, fun m => hreg (lswStat_notCtl m n) ?_, fun k => State.rd_congr (hreg (lswStat_notGrp k n) ?_),
    fun _ _ => rfl, fun k _ => hreg ?_ ?_, fun c hc hcg => ?_, fun hs => (State.rd_congr (hreg ?_ ?_)).trans hs⟩
  · have := hne hcg
    exact (State.mapBit_lOn _ _ _ _ _ (by decide)).trans (s.lOn_lSet_other 4 b true (by omega))
  · unfold Reg.LSW_CHn_CTL Reg.LSW_SHEDMAP_LO
    omega
  · simp only [F.LSW_GRPg_STAT_LIM, Reg.LSW_GRPg_STAT, Reg.LSW_SHEDMAP_LO]
    omega
  · unfold Reg.LSW_GRPg_CUR Reg.LSW_CHn_STAT
    omega
  · unfold Reg.LSW_GRPg_CUR Reg.LSW_SHEDMAP_LO
    omega
  · exact (State.mapOn_mapBit_beside _ true (lswApart hc hn (hne hcg))).trans (State.mapOn_congr (s.lSet_reg n 4 true (lswShedmap_notStat c n)))
  · simp only [F.LSW_STAT_SHED, Reg.LSW_STAT, Reg.LSW_CHn_STAT]
    omega
  · simp only [F.LSW_STAT_SHED, Reg.LSW_STAT, Reg.LSW_SHEDMAP_LO]
    omega

end State.EvalsTo

/-! ### One group's round -/

/-- The mean of a group noted. -/
def State.grpMeasured (s : State) (g mean : Nat) : State := s.measured (F.LSW_GRPg_CUR_AVG g) (F.LSW_GRPg_CUR_PEAK g) mean

/-- A group after its mean: since when it has stayed at or below its limit, and whether an excursion is still told. -/
def PinGroup.judged (x : PinGroup) (now lim mean : Nat) : PinGroup :=
  { x with okSince := if mean ≤ lim then some (x.okSince.getD now) else none, told := x.told && decide (lim + 3000 < mean) }

/-- The mean of a group noted and judged. -/
def State.grpJudged (s : State) (g mean : Nat) : State :=
  (s.grpMeasured g mean).setGrp g (((s.grpMeasured g mean).grp g).judged s.now (s.rd (F.LSW_GRPg_STAT_LIM g)) mean)

/-- A group that stays above its limit with nothing to shed is told. -/
def State.grpTold (s : State) (g mean : Nat) : State :=
  if (s.grp g).told then s
  else ((s.setGrp g { s.grp g with told := true }).flag F.LSW_STAT_GRPOVER F.LSW_CTL_IE_GRP).lswEvent 6 g sevFault (some mean)

/-- A group above its limit sheds a channel, or is told. -/
def State.grpShed (s : State) (g mean : Nat) : State :=
  match s.shedChoice g with
  | some n => s.shed n mean
  | none => s.grpTold g mean

/-- A group that has stayed at or below its limit for 1 s admits held channels. -/
def State.grpAdmits (s : State) (g now : Nat) : State :=
  match (s.grp g).okSince with
  | some since => if (s.grp g).blocked ∧ since + 1000000000 ≤ now then (s.setGrp g { s.grp g with blocked := false }).admitHeld g else s
  | none => s

theorem State.evalGroup_eq (s : State) (g mean : Nat) : s.evalGroup g mean =
    (if s.rd (F.LSW_GRPg_STAT_LIM g) + 3000 < mean then (s.grpJudged g mean).grpShed g mean else s.grpJudged g mean).grpAdmits g s.now := rfl

theorem State.EvalsTo.measured (s : State) (g mean : Nat) : State.EvalsTo g {Reg.LSW_GRPg_CUR g} s (s.grpMeasured g mean) := by
  refine .of_affects (.measured s mean (.inl rfl) (.inl rfl)) fun k hk => ?_
  rw [Set.mem_singleton_iff] at hk
  subst hk
  unfold Reg.LSW_GRPg_CUR Reg.LSW_STAT lswMap Reg.LSW_GRPg_STAT
  exact ⟨by omega, by omega, by omega, fun j => by omega⟩

theorem State.EvalsTo.grpTold {K : Set Nat} (s : State) (g mean : Nat) : State.EvalsTo g K s (s.grpTold g mean) :=
  .ite _ (fun _ => .refl s) fun _ => ((State.EvalsTo.setGrp s _).trans (.statFlag _ _ rfl (.inr rfl))).trans (.of_told (State.lswEvent_affects _ _ _ _ _ _))

/-- A channel chosen for shedding is on, in the group and in no fail-safe state. -/
theorem State.shedChoice_mem {s : State} {g n : Nat} (h : s.shedChoice g = some n) : n ∈ groupChannels g ∧ s.lOn n 0 = true ∧ s.lOn n 12 = false := by
  have hkeep := foldl_keeps (f := fun (o : Option Nat) c => match o with
      | none => some c
      | some b => if s.rd (F.LSW_CHn_CTL_SHED c) ≤ s.rd (F.LSW_CHn_CTL_SHED b) then some c else some b)
    (I := fun o => ∀ n, o = some n → n ∈ groupChannels g ∧ s.lOn n 0 = true ∧ s.lOn n 12 = false)
    ((groupChannels g).filter (fun c => s.lOn c 0 && !s.lOn c 12 && decide (s.rd (F.LSW_CHn_CTL_SHED c) ≠ 7))) none
    (fun n hn => absurd hn (by simp)) fun o c hc hI m hm => ?_
  · exact hkeep n h
  obtain ⟨hmem, hp⟩ := List.mem_filter.mp hc
  simp only [Bool.and_eq_true, Bool.not_eq_true'] at hp
  obtain ⟨⟨h0, h12⟩, -⟩ := hp
  cases o with
  | none =>
    obtain rfl := Option.some.inj hm
    exact ⟨hmem, h0, h12⟩
  | some b =>
    dsimp only at hm
    split at hm
    · obtain rfl := Option.some.inj hm
      exact ⟨hmem, h0, h12⟩
    · exact hI m hm

/-- The shed of a channel, told. -/
def State.shedTold (s : State) (n mean : Nat) : State :=
  ((s.inc F.LSW_SHEDCNT_CNT).flag F.LSW_STAT_SHED F.LSW_CTL_IE_SHED).lswEntry 5 n (some mean)

/-- The group of a channel that is shed holds admissions back, and the channel turns off. -/
def State.shedStopped (s : State) (n : Nat) : State :=
  (s.setGrp (groupOf n) { s.grp (groupOf n) with blocked := true, okSince := none }).lswStop n

theorem State.shed_eq (s : State) (n mean : Nat) :
    s.shed n mean = (((s.shedStopped n).lSet n 4 true).mapBit Reg.LSW_SHEDMAP_LO n true).shedTold n mean := rfl

theorem State.shedTold_affects (s : State) (n mean : Nat) : State.AffectsOnly lswTold s (s.shedTold n mean) :=
  ((State.AffectsOnly.inc s (.inl (.inr (.inr (.inr rfl))))).trans (.flag _ _ (.inl (.inl rfl)))).trans (State.lswEntry_affects _ _ _ _ _)

theorem State.shedTold_shows (s : State) (n mean : Nat) : (s.shedTold n mean).rd F.LSW_STAT_SHED = 1 :=
  ((State.lswEntry_affects ∅ _ 5 n _).rd (notEntry (by decide)) (Set.notMem_empty _)).trans (State.flag_rd_same _ (by decide) rfl)

theorem State.EvalsTo.shedTold {K : Set Nat} (g : Nat) (s : State) (n mean : Nat) : State.EvalsTo g K s (s.shedTold n mean) := by
  have hcount : State.EvalsTo g ∅ s (s.inc F.LSW_SHEDCNT_CNT) := by
    have h : State.EvalsTo g {Reg.LSW_SHEDCNT} s (s.inc F.LSW_SHEDCNT_CNT) := by
      refine .of_affects (.inc s (.inl rfl)) fun k hk => ?_
      rw [Set.mem_singleton_iff] at hk
      subst hk
      unfold Reg.LSW_SHEDCNT Reg.LSW_STAT lswMap Reg.LSW_GRPg_STAT
      exact ⟨by omega, by omega, by omega, fun j => by omega⟩
    refine { h with cur := fun k _ => h.cur k ?_ }
    rw [Set.mem_singleton_iff]
    unfold Reg.LSW_GRPg_CUR Reg.LSW_SHEDCNT
    omega
  exact ((hcount.trans (.statFlag _ _ rfl (.inl rfl))).trans (.of_told (State.lswEntry_affects _ _ _ _ _))).mono (Set.empty_subset _)

theorem State.EvalsTo.shedStopped {K : Set Nat} (s : State) {n : Nat} (hn : n < 64) : State.EvalsTo (groupOf n) K s (s.shedStopped n) :=
  (State.EvalsTo.setGrp s _).trans (.of_switch (.lswStop (C := {n}) _ (Set.mem_singleton n)) fun m hm => by
    rw [Set.mem_singleton_iff] at hm
    rw [hm]
    exact ⟨hn, rfl⟩)

theorem State.EvalsTo.shedding {K : Set Nat} (s : State) {n : Nat} (mean : Nat) (hn : n < 64) : State.EvalsTo (groupOf n) K s (s.shed n mean) := by
  rw [State.shed_eq]
  exact ((shedStopped s hn).trans (.shedBits _ hn rfl)).trans (.shedTold _ _ _ _)

theorem State.EvalsTo.grpShed {K : Set Nat} (s : State) {g : Nat} (mean : Nat) (hg : g < 4) : State.EvalsTo g K s (s.grpShed g mean) := by
  unfold State.grpShed
  split
  · next n hn =>
    obtain ⟨hmem, -⟩ := State.shedChoice_mem hn
    obtain ⟨h64, hgrp⟩ := (mem_groupChannels hg).mp hmem
    rw [← hgrp]
    exact .shedding s mean h64
  · exact .grpTold s g mean

theorem State.EvalsTo.grpAdmits {K : Set Nat} (s : State) {g : Nat} (now : Nat) (hg : g < 4) : State.EvalsTo g K s (s.grpAdmits g now) := by
  unfold State.grpAdmits
  split
  · exact .ite _ (fun _ => (State.EvalsTo.setGrp s _).trans (.of_switch (.admitHeld (C := {m | m ∈ groupChannels g}) _ g fun m hm _ => hm)
      fun m hm => (mem_groupChannels hg).mp hm)) fun _ => .refl s
  · exact .refl s

theorem State.EvalsTo.judged (s : State) (g mean : Nat) : State.EvalsTo g {Reg.LSW_GRPg_CUR g} s (s.grpJudged g mean) :=
  (State.EvalsTo.measured s g mean).trans (.setGrp _ _)

theorem State.EvalsTo.round (s : State) {g : Nat} (mean : Nat) (hg : g < 4) : State.EvalsTo g {Reg.LSW_GRPg_CUR g} s (s.evalGroup g mean) := by
  rw [State.evalGroup_eq]
  refine State.EvalsTo.trans (State.EvalsTo.ite _ (fun _ => ?_) fun _ => .judged s g mean) (.grpAdmits _ _ hg)
  exact (State.EvalsTo.judged s g mean).trans (.grpShed _ mean hg)

end Sys2Proof.Machine
end

section
/-! SUPPORT. The evaluation of the pin groups (R336): what it shows of each group, and of the channel it sheds. -/

namespace Sys2Proof.Machine

/-! ### What one group's round shows -/

section
variable (s : State) (g : Nat) (x : PinGroup)

theorem State.setGrp_rd (f : Fld) : (s.setGrp g x).rd f = s.rd f := rfl
theorem State.setGrp_lOn (n b : Nat) : (s.setGrp g x).lOn n b = s.lOn n b := rfl
theorem State.setGrp_fsApplied (k : Nat) : (s.setGrp g x).fsApplied k = s.fsApplied k := rfl

theorem State.setGrp_lswSafeOn (n : Nat) : (s.setGrp g x).lswSafeOn n = s.lswSafeOn n := by
  unfold State.lswSafeOn
  rw [State.setGrp_fsApplied]
  simp only [State.setGrp_lOn]

end

theorem State.grpMeasured_avg (s : State) (g mean : Nat) : (s.grpMeasured g mean).rd (F.LSW_GRPg_CUR_AVG g) = min mean (maxOf (F.LSW_GRPg_CUR_AVG g).width) :=
  (State.rd_wr_apart _ _ rfl).trans (s.rd_wrSat_same _ _ (Fld.hi_lt rfl))

/-- A group judged keeps its measure. -/
theorem State.evalGroup_avg (s : State) {g : Nat} (mean : Nat) (hg : g < 4) :
    (s.evalGroup g mean).rd (F.LSW_GRPg_CUR_AVG g) = min mean (maxOf (F.LSW_GRPg_CUR_AVG g).width) := by
  have hjudged : (s.grpJudged g mean).rd (F.LSW_GRPg_CUR_AVG g) = min mean (maxOf (F.LSW_GRPg_CUR_AVG g).width) :=
    (State.setGrp_rd _ _ _ _).trans (s.grpMeasured_avg g mean)
  rw [State.evalGroup_eq]
  have hlater : State.EvalsTo g ∅ (s.grpJudged g mean) ((if s.rd (F.LSW_GRPg_STAT_LIM g) + 3000 < mean then (s.grpJudged g mean).grpShed g mean
      else s.grpJudged g mean).grpAdmits g s.now) :=
    (State.EvalsTo.ite _ (fun _ => .grpShed _ mean hg) fun _ => .refl _).trans (.grpAdmits _ _ hg)
  exact (State.rd_congr (hlater.cur g (Set.notMem_empty _))).trans hjudged

theorem State.admitHeld_grps (s : State) (g : Nat) : (s.admitHeld g).lsw.grps = s.lsw.grps :=
  (SwitchTo.admitHeld (C := Set.univ) s g fun _ _ _ => Set.mem_univ _).part (fun x => x.lsw.grps) fun _ _ _ => rfl

/-- What admitting channels keeps of a group's time at or below its limit. -/
theorem State.grpAdmits_okSince (s : State) (g now : Nat) : ((s.grpAdmits g now).grp g).okSince = (s.grp g).okSince := by
  unfold State.grpAdmits
  split
  · next since hs =>
    split
    · rw [State.grp_congr (State.admitHeld_grps _ g), State.grp_setGrp_same]
    · rfl
  · rfl

/-- A group that has just shed admits nothing. -/
theorem State.grpAdmits_idle {s : State} {g : Nat} (now : Nat) (h : (s.grp g).okSince = none) : s.grpAdmits g now = s := by
  unfold State.grpAdmits
  rw [h]

theorem State.lswStop_grps (s : State) (n : Nat) : (s.lswStop n).lsw.grps = s.lsw.grps :=
  (SwitchTo.lswStop (C := {n}) s (Set.mem_singleton n)).part (fun x => x.lsw.grps) fun _ _ _ => rfl

theorem State.AffectsOnly.grp {S : Set Nat} {s t : State} (h : State.AffectsOnly S s t) (g : Nat) : t.grp g = s.grp g :=
  State.grp_congr (h.part (fun x => x.lsw.grps) fun _ _ => rfl) g

theorem State.shed_grp (s : State) (n mean : Nat) : (s.shed n mean).grp (groupOf n) = { s.grp (groupOf n) with blocked := true, okSince := none } := by
  rw [State.shed_eq]
  refine ((State.shedTold_affects _ n mean).grp _).trans (Eq.trans ?_ (s.grp_setGrp_same (groupOf n) _))
  exact State.grp_congr (State.lswStop_grps _ n) _

theorem State.grpTold_okSince (s : State) (g mean : Nat) : ((s.grpTold g mean).grp g).okSince = (s.grp g).okSince := by
  unfold State.grpTold
  split
  · rfl
  · refine (congrArg PinGroup.okSince ((State.AffectsOnly.grp (S := {Reg.LSW_STAT})
      ((State.AffectsOnly.flag (S := {Reg.LSW_STAT}) _ (stat := F.LSW_STAT_GRPOVER) _ (.inl rfl)).trans (State.lswEvent_affects _ _ _ _ _ _)) g))).trans ?_
    rw [State.grp_setGrp_same]

theorem State.grpJudged_grp (s : State) (g mean : Nat) :
    (s.grpJudged g mean).grp g = ((s.grpMeasured g mean).grp g).judged s.now (s.rd (F.LSW_GRPg_STAT_LIM g)) mean := State.grp_setGrp_same _ _ _

/-- A group's time at or below its limit runs where its mean is there. -/
theorem State.evalGroup_okSince (s : State) {g : Nat} (mean : Nat) (hg : g < 4) :
    (((s.evalGroup g mean).grp g).okSince).isSome = decide (mean ≤ s.rd (F.LSW_GRPg_STAT_LIM g)) := by
  have hjudged : ((s.grpJudged g mean).grp g).okSince.isSome = decide (mean ≤ s.rd (F.LSW_GRPg_STAT_LIM g)) := by
    rw [State.grpJudged_grp]
    unfold PinGroup.judged
    dsimp only
    split
    · next h => rw [decide_eq_true h]; rfl
    · next h => rw [decide_eq_false h]; rfl
  rw [State.evalGroup_eq, State.grpAdmits_okSince]
  split
  · next h =>
    unfold State.grpShed
    split
    · next n hn =>
      obtain ⟨-, hgrp⟩ := (mem_groupChannels hg).mp (State.shedChoice_mem hn).1
      rw [← hgrp, State.shed_grp, hgrp, decide_eq_false (by omega)]
      rfl
    · rw [State.grpTold_okSince]
      exact hjudged
  · exact hjudged

/-- What a channel shows that has just been shed. -/
structure State.ShedShown (g n : Nat) (safe : Bool) (s : State) : Prop where
  flag : s.lOn n 4 = true
  map : s.mapOn Reg.LSW_SHEDMAP_LO n = true
  on : s.lOn n 0 = safe
  blocked : (s.grp g).blocked = true
  told : s.rd F.LSW_STAT_SHED = 1

theorem State.shedStopped_on {s : State} {n : Nat} (hon : s.lOn n 0 = true) : (s.shedStopped n).lOn n 0 = s.lswSafeOn n := by
  refine (State.lswStop_shows _ n).1.trans ?_
  rw [State.setGrp_lOn, hon, Bool.true_and, State.setGrp_lswSafeOn]

theorem State.shed_shows {s : State} {n : Nat} (mean : Nat) (hn : n < 64) (hon : s.lOn n 0 = true) :
    (s.shed n mean).ShedShown (groupOf n) n (s.lswSafeOn n) := by
  have hgrp := s.shed_grp n mean
  rw [State.shed_eq] at hgrp ⊢
  have h := (((s.shedStopped n).lSet n 4 true).mapBit Reg.LSW_SHEDMAP_LO n true).shedTold_affects n mean
  refine ⟨?_, ?_, ?_, by rw [hgrp], State.shedTold_shows _ n mean⟩
  · exact (h.lOn n 4).trans ((State.mapBit_lOn _ _ _ _ _ (by decide)).trans (State.lOn_lSet_same _ _ _ (by decide)))
  · exact (h.lswMap (by unfold lswMap Reg.LSW_SHEDMAP_LO; omega)).trans (State.mapOn_mapBit_true _ _ _)
  · exact (h.lOn n 0).trans ((State.mapBit_lOn _ _ _ _ _ (by decide)).trans ((State.lOn_lSet_beside _ _ _ _ (by decide) (by decide) (by decide)).trans
      (State.shedStopped_on hon)))

/-- What the choice of a channel to shed looks at. -/
theorem State.shedChoice_congr {s t : State} {g : Nat} (hflag : ∀ c ∈ groupChannels g, ∀ b, t.lOn c b = s.lOn c b)
    (hctl : ∀ m, t.reg (Reg.LSW_CHn_CTL m) = s.reg (Reg.LSW_CHn_CTL m)) : t.shedChoice g = s.shedChoice g := by
  have hshed (m : Nat) : t.rd (F.LSW_CHn_CTL_SHED m) = s.rd (F.LSW_CHn_CTL_SHED m) := State.rd_congr (hctl m)
  have hfilter : (groupChannels g).filter (fun c => t.lOn c 0 && !t.lOn c 12 && decide (s.rd (F.LSW_CHn_CTL_SHED c) ≠ 7)) =
      (groupChannels g).filter (fun c => s.lOn c 0 && !s.lOn c 12 && decide (s.rd (F.LSW_CHn_CTL_SHED c) ≠ 7)) :=
    List.filter_congr fun c hc => by rw [hflag c hc, hflag c hc]
  unfold State.shedChoice
  simp only [hshed]
  rw [hfilter]

theorem State.grpJudged_lOn (s : State) (g mean c b : Nat) : (s.grpJudged g mean).lOn c b = s.lOn c b := by
  have h : State.AffectsOnly {Reg.LSW_GRPg_CUR g} s (s.grpMeasured g mean) := .measured s mean (.inl rfl) (.inl rfl)
  refine (State.setGrp_lOn _ _ _ _ _).trans (h.on (lswStat_notEntry c) ?_)
  rw [Set.mem_singleton_iff]
  simp only [lswFlag, Reg.LSW_CHn_STAT, Reg.LSW_GRPg_CUR]
  omega

theorem State.grpJudged_fsApplied (s : State) (g mean k : Nat) : (s.grpJudged g mean).fsApplied k = s.fsApplied k := (State.EvalsTo.judged s g mean).applied k

theorem State.grpJudged_safeOn (s : State) (g mean n : Nat) : (s.grpJudged g mean).lswSafeOn n = s.lswSafeOn n := by
  unfold State.lswSafeOn
  rw [State.grpJudged_fsApplied]
  simp only [State.grpJudged_lOn]

/-- A group above its limit by more than 3 A sheds the channel chosen. -/
theorem State.evalGroup_sheds {s : State} {g mean n : Nat} (hg : g < 4) (hover : s.rd (F.LSW_GRPg_STAT_LIM g) + 3000 < mean)
    (hn : s.shedChoice g = some n) : (s.evalGroup g mean).ShedShown g n (s.lswSafeOn n) := by
  have hchoice : (s.grpJudged g mean).shedChoice g = some n := by
    rw [← hn]
    exact State.shedChoice_congr (fun c _ b => s.grpJudged_lOn g mean c b) (State.EvalsTo.judged s g mean).ctl
  obtain ⟨hmem, hon, -⟩ := State.shedChoice_mem hchoice
  obtain ⟨h64, hgrp⟩ := (mem_groupChannels hg).mp hmem
  have heq : (s.grpJudged g mean).grpShed g mean = (s.grpJudged g mean).shed n mean := by
    unfold State.grpShed
    rw [hchoice]
  have hok : (((s.grpJudged g mean).shed n mean).grp g).okSince = none := by
    rw [← hgrp, State.shed_grp]
  rw [State.evalGroup_eq, if_pos hover, heq, State.grpAdmits_idle _ hok]
  have h := State.shed_shows (s := s.grpJudged g mean) (n := n) mean h64 hon
  rw [hgrp, State.grpJudged_safeOn] at h
  exact h

/-! ### The four groups -/

/-- What the rounds of other groups keep of a channel that has been shed. -/
theorem State.EvalsTo.keepsShed {s t : State} {g h n : Nat} {K : Set Nat} {safe : Bool} (he : State.EvalsTo h K s t) (hgh : g ≠ h) (hn : n < 64)
    (hgrp : groupOf n = g) (hs : s.ShedShown g n safe) : t.ShedShown g n safe := by
  have hne : groupOf n ≠ h := hgrp ▸ hgh
  exact ⟨(he.flag n 4 hn hne).trans hs.flag, (he.map n hn hne).trans hs.map, (he.flag n 0 hn hne).trans hs.on, by rw [he.grp g hgh]; exact hs.blocked,
    he.shed hs.told⟩

/-- A group that its round has not come to yet is as it was. -/
structure State.GroupAs (g : Nat) (s t : State) : Prop where
  flag : ∀ c ∈ groupChannels g, ∀ b, t.lOn c b = s.lOn c b
  ctl : ∀ m, t.reg (Reg.LSW_CHn_CTL m) = s.reg (Reg.LSW_CHn_CTL m)
  lim : t.rd (F.LSW_GRPg_STAT_LIM g) = s.rd (F.LSW_GRPg_STAT_LIM g)
  applied : ∀ k, t.fsApplied k = s.fsApplied k

theorem State.GroupAs.safeOn {s t : State} {g n : Nat} (h : State.GroupAs g s t) (hn : n ∈ groupChannels g) : t.lswSafeOn n = s.lswSafeOn n := by
  unfold State.lswSafeOn
  rw [h.applied]
  simp only [h.flag n hn]

theorem State.EvalsTo.groupAs {s t u : State} {g h : Nat} {K : Set Nat} (he : State.EvalsTo h K t u) (hg : g < 4) (hgh : g ≠ h)
    (hs : State.GroupAs g s t) : State.GroupAs g s u := by
  refine ⟨fun c hc b => ?_, fun m => (he.ctl m).trans (hs.ctl m), (he.lim g).trans hs.lim, fun k => (he.applied k).trans (hs.applied k)⟩
  obtain ⟨h64, hgrp⟩ := (mem_groupChannels hg).mp hc
  exact (he.flag c b h64 (hgrp ▸ hgh)).trans (hs.flag c hc b)

/-- What the evaluation has shown of group `g` once it has come past it: the measure, and whether its time at or below the limit runs. -/
def State.GroupShown (g mean lim : Nat) (s : State) : Prop :=
  s.rd (F.LSW_GRPg_CUR_AVG g) = min mean (maxOf (F.LSW_GRPg_CUR_AVG g).width) ∧ (s.grp g).okSince.isSome = decide (mean ≤ lim)

theorem lswCur_other {g h : Nat} (hg : g < 4) (hh : h < 4) (hgh : g ≠ h) : Reg.LSW_GRPg_CUR g ∉ ({Reg.LSW_GRPg_CUR h} : Set Nat) := by
  rw [Set.mem_singleton_iff]
  unfold Reg.LSW_GRPg_CUR
  omega

/-- The four groups evaluated. -/
def State.groupsEvaluated (s : State) (means : List Nat) : State := (List.range 4).foldl (fun x g => x.evalGroup g (means.getD g 0)) s

/-- The time of an evaluation noted. -/
def State.shedNoted (s : State) : State := { s with lsw := { s.lsw with lastShed := s.now } }

/-- What the rounds keep for all groups. -/
def State.LimitsAs (s t : State) : Prop := t.lsw.lastShed = s.lsw.lastShed ∧ ∀ g, t.rd (F.LSW_GRPg_STAT_LIM g) = s.rd (F.LSW_GRPg_STAT_LIM g)

theorem State.groupsEvaluated_shows (s : State) (means : List Nat) : State.LimitsAs s (s.groupsEvaluated means) ∧
    ∀ g ∈ List.range 4, State.GroupShown g (means.getD g 0) (s.rd (F.LSW_GRPg_STAT_LIM g)) (s.groupsEvaluated means) := by
  refine foldl_establishes (I := fun t : State => State.LimitsAs s t)
    (P := fun g (t : State) => State.GroupShown g (means.getD g 0) (s.rd (F.LSW_GRPg_STAT_LIM g)) t) _ _ ⟨rfl, fun _ => rfl⟩ ?_ ?_ ?_
  · rintro x g hg ⟨hlast, hlim⟩
    have he := State.EvalsTo.round x (means.getD g 0) (List.mem_range.mp hg)
    exact ⟨he.lastShed.trans hlast, fun k => (he.lim k).trans (hlim k)⟩
  · rintro x g hg ⟨-, hlim⟩
    rw [← hlim g]
    exact ⟨x.evalGroup_avg _ (List.mem_range.mp hg), x.evalGroup_okSince _ (List.mem_range.mp hg)⟩
  · rintro x g h hg hh ⟨-, hlim⟩ hx
    by_cases hgh : g = h
    · rw [← hgh, ← hlim g]
      exact ⟨x.evalGroup_avg _ (List.mem_range.mp hg), x.evalGroup_okSince _ (List.mem_range.mp hg)⟩
    · obtain ⟨havg, hok⟩ := hx
      have he := State.EvalsTo.round x (means.getD h 0) (List.mem_range.mp hh)
      refine ⟨(State.rd_congr (he.cur g (lswCur_other (List.mem_range.mp hg) (List.mem_range.mp hh) hgh))).trans havg, ?_⟩
      rw [he.grp g hgh]
      exact hok

/-- The rounds up to that of group `g` leave it as it was, its round sheds, and the rounds after it keep what is shown. -/
theorem State.groupsEvaluated_sheds {s : State} {means : List Nat} {g n : Nat} (hg : g < 4) (hover : s.rd (F.LSW_GRPg_STAT_LIM g) + 3000 < means.getD g 0)
    (hn : s.shedChoice g = some n) : (s.groupsEvaluated means).ShedShown g n (s.lswSafeOn n) := by
  obtain ⟨hmem, -⟩ := State.shedChoice_mem hn
  obtain ⟨h64, hgrp⟩ := (mem_groupChannels hg).mp hmem
  have hsplit : List.range 4 = List.range g ++ g :: (List.range (3 - g)).map (fun i => g + 1 + i) := by
    obtain rfl | rfl | rfl | rfl : g = 0 ∨ g = 1 ∨ g = 2 ∨ g = 3 := by omega
    all_goals rfl
  unfold State.groupsEvaluated
  rw [hsplit, List.foldl_append, List.foldl_cons]
  have hbefore : State.GroupAs g s ((List.range g).foldl (fun x g => x.evalGroup g (means.getD g 0)) s) := by
    refine foldl_keeps (I := fun x : State => State.GroupAs g s x) _ _ ⟨fun _ _ _ => rfl, fun _ => rfl, rfl, fun _ => rfl⟩ fun x h hh hx => ?_
    have hlt := List.mem_range.mp hh
    exact (State.EvalsTo.round x (means.getD h 0) (by omega)).groupAs hg (by omega) hx
  generalize (List.range g).foldl (fun x g => x.evalGroup g (means.getD g 0)) s = x at hbefore
  have hshed : (x.evalGroup g (means.getD g 0)).ShedShown g n (s.lswSafeOn n) := by
    rw [← hbefore.safeOn hmem]
    exact State.evalGroup_sheds hg (by rw [hbefore.lim]; exact hover) ((State.shedChoice_congr hbefore.flag hbefore.ctl).trans hn)
  refine foldl_keeps (I := fun y : State => y.ShedShown g n (s.lswSafeOn n)) _ _ hshed fun y h hh hy => ?_
  obtain ⟨i, hi, rfl⟩ := List.mem_map.mp hh
  have hlt := List.mem_range.mp hi
  exact (State.EvalsTo.round y (means.getD (g + 1 + i) 0) (by omega)).keepsShed (by omega) h64 hgrp hy

/-! ### The evaluation (R336) -/

/-- The total current noted, in 10 mA. -/
def State.totalNoted (s : State) (means : List Nat) : State :=
  s.measured F.LSW_TOTAL_AVG F.LSW_TOTAL_PEAK (((means.take 4).foldl (fun a b => a + b) 0) / 100)

theorem State.totalNoted_affects (s : State) (means : List Nat) : State.AffectsOnly {Reg.LSW_TOTAL} s (s.totalNoted means) :=
  .measured s _ (.inl rfl) (.inl rfl)

theorem execShedEvaluation_eq {s : State} (means : List Nat) (hbed : s.bedOn = true) (hdue : s.lsw.lastShed + 10000000 ≤ s.now) :
    exec (.shedEvaluation means) s = .next ((s.shedNoted.groupsEvaluated means).totalNoted means) := congrArg Host.Outcome.next (if_pos ⟨hbed, hdue⟩)

theorem execShedEvaluation_sheds {s : State} {means : List Nat} {g n : Nat} (hbed : s.bedOn = true) (hdue : s.lsw.lastShed + 10000000 ≤ s.now)
    (hg : g < 4) (hover : s.rd (F.LSW_GRPg_STAT_LIM g) + 3000 < means.getD g 0) (hn : s.shedChoice g = some n) :
    Completes (.shedEvaluation means) s (fun t => t.lsw.lastShed = s.now ∧ t.lOn n 4 = true ∧ t.mapOn Reg.LSW_SHEDMAP_LO n = true ∧
      t.lOn n 0 = s.lswSafeOn n ∧ (t.grp g).blocked = true ∧ t.rd F.LSW_STAT_SHED = 1) := by
  refine ⟨_, execShedEvaluation_eq means hbed hdue, ?_⟩
  obtain ⟨⟨hlast, -⟩, -⟩ := s.shedNoted.groupsEvaluated_shows means
  have hs := State.groupsEvaluated_sheds (s := s.shedNoted) (means := means) hg hover hn
  generalize s.shedNoted.groupsEvaluated means = x at hlast hs
  have h := x.totalNoted_affects means
  have hflag (b : Nat) : (x.totalNoted means).lOn n b = x.lOn n b := h.on (lswStat_notEntry n) (by
    rw [Set.mem_singleton_iff]
    simp only [lswFlag, Reg.LSW_CHn_STAT, Reg.LSW_TOTAL]
    omega)
  refine ⟨(h.part (fun y => y.lsw.lastShed) fun _ _ => rfl).trans hlast, (hflag 4).trans hs.flag, (State.mapOn_congr (h.reg _ (notEntry ?_) ?_)).trans hs.map,
    (hflag 0).trans hs.on, by rw [h.grp]; exact hs.blocked, (h.rd (notEntry (by decide)) ?_).trans hs.told⟩
  · unfold Reg.LSW_SHEDMAP_LO
    omega
  · rw [Set.mem_singleton_iff]
    unfold Reg.LSW_SHEDMAP_LO Reg.LSW_TOTAL
    omega
  · rw [Set.mem_singleton_iff]
    decide

theorem execShedEvaluation_measures {s : State} {means : List Nat} (hbed : s.bedOn = true) (hdue : s.lsw.lastShed + 10000000 ≤ s.now) :
    Completes (.shedEvaluation means) s (fun t => t.lsw.lastShed = s.now ∧
      (List.range 4).all (fun g => decide (t.rd (F.LSW_GRPg_CUR_AVG g) = min (means.getD g 0) (maxOf (F.LSW_GRPg_CUR_AVG g).width))) = true ∧
      (List.range 4).all (fun g => (t.grp g).okSince.isSome == decide (means.getD g 0 ≤ s.rd (F.LSW_GRPg_STAT_LIM g))) = true) := by
  refine ⟨_, execShedEvaluation_eq means hbed hdue, ?_⟩
  obtain ⟨⟨hlast, -⟩, hshown⟩ := s.shedNoted.groupsEvaluated_shows means
  generalize s.shedNoted.groupsEvaluated means = x at hlast hshown
  have h := x.totalNoted_affects means
  refine ⟨(h.part (fun y => y.lsw.lastShed) fun _ _ => rfl).trans hlast, ?_, ?_⟩
  · rw [List.all_eq_true]
    intro g hg
    refine decide_eq_true ((h.rd (lswCur_notEntry g) ?_).trans (hshown g hg).1)
    rw [Set.mem_singleton_iff]
    simp only [F.LSW_GRPg_CUR_AVG, Reg.LSW_GRPg_CUR, Reg.LSW_TOTAL]
    omega
  · rw [List.all_eq_true]
    intro g hg
    rw [h.grp, (hshown g hg).2]
    exact beq_self_eq_true _

end Sys2Proof.Machine
end

section
/-! SUPPORT. The heating estimates of the load switches (R338, R341): what one channel's millisecond changes, and what it leaves the others. -/

namespace Sys2Proof.Machine

/-- `t` comes from `s` by a millisecond of channel `m`, or a part of it. -/
structure State.HeatsTo (m : Nat) (s t : State) : Prop where
  heat : ∀ n, n ≠ m → t.heat n = s.heat n
  ctl : ∀ n, t.reg (Reg.LSW_CHn_CTL n) = s.reg (Reg.LSW_CHn_CTL n)
  lim : ∀ n, t.reg (Reg.LSW_CHn_LIM n) = s.reg (Reg.LSW_CHn_LIM n)
  code : t.code = s.code
  bedOn : t.bedOn = s.bedOn
  now : t.now = s.now
  lastHeat : t.lsw.lastHeat = s.lsw.lastHeat
  trip : ∀ n, n < 64 → n ≠ m → t.lOn n 7 = s.lOn n 7

theorem State.heat_congr {s t : State} (h : t.outs.heat = s.outs.heat) (n : Nat) : t.heat n = s.heat n := by
  unfold State.heat
  rw [h]

/-- The registers of a channel's set-up. -/
theorem lswSetup_notTold (n : Nat) : Reg.LSW_CHn_CTL n ∉ lswTold ∧ Reg.LSW_CHn_LIM n ∉ lswTold := by
  simp only [lswTold, Set.mem_insert_iff, Set.mem_singleton_iff, Reg.LSW_CHn_CTL, Reg.LSW_CHn_LIM, Reg.LSW_STAT, Reg.LSW_OLCNT, Reg.LSW_TRIPCNT,
    Reg.LSW_SHEDCNT]
  omega

theorem lswSetup_notSwitch {C : Set Nat} (hC : ∀ m ∈ C, m < 64) (n : Nat) : Reg.LSW_CHn_CTL n ∉ switchRegs C ∧ Reg.LSW_CHn_LIM n ∉ switchRegs C := by
  simp only [switchRegs, Set.mem_ofPred_eq, Reg.LSW_CHn_CTL, Reg.LSW_CHn_LIM, Reg.LSW_CONFCNT, Reg.LSW_GRPg_STAT, Reg.LSW_CHn_STAT, Reg.LSW_OLMAP_LO,
    not_or, not_exists]
  refine ⟨⟨by omega, fun g => by omega, fun m ⟨hm, e⟩ => ?_⟩, by omega, fun g => by omega, fun m ⟨hm, e⟩ => ?_⟩
  all_goals
    have := hC m hm
    omega

/-- The energy of channel `n` counted up to its last value. -/
def State.energyCounted (s : State) (n nj : Nat) : State :=
  s.setSw n { s.sw n with energy := (s.sw n).energy + min nj (energyTop - s.lswWear n) }

/-- The last value of an energy counter told. -/
def State.energyTold (s : State) (n : Nat) : State :=
  ((s.lSet n 13 true).flag F.LSW_STAT_WEARSAT F.LSW_CTL_IE_GRP).lswEvent 8 n sevWarning none

theorem State.lswEnergy_eq (s : State) (n nj : Nat) : s.lswEnergy n nj = if energyTop ≤ s.lswWear n then s
    else if energyTop ≤ (s.energyCounted n nj).lswWear n then (s.energyCounted n nj).energyTold n else s.energyCounted n nj := rfl

namespace State.HeatsTo

variable {m : Nat} {s t u : State}

theorem refl (s : State) : HeatsTo m s s := ⟨fun _ _ => rfl, fun _ => rfl, fun _ => rfl, rfl, rfl, rfl, rfl, fun _ _ _ => rfl⟩

theorem trans (h : HeatsTo m s t) (h' : HeatsTo m t u) : HeatsTo m s u where
  heat n hn := (h'.heat n hn).trans (h.heat n hn)
  ctl n := (h'.ctl n).trans (h.ctl n)
  lim n := (h'.lim n).trans (h.lim n)
  code := h'.code.trans h.code
  bedOn := h'.bedOn.trans h.bedOn
  now := h'.now.trans h.now
  lastHeat := h'.lastHeat.trans h.lastHeat
  trip n h64 hn := (h'.trip n h64 hn).trans (h.trip n h64 hn)

theorem ite (c : Prop) [Decidable c] (h : c → HeatsTo m s t) (h' : ¬ c → HeatsTo m s u) : HeatsTo m s (if c then t else u) := by
  split
  · exact h ‹_›
  · exact h' ‹_›

theorem of_switch {C : Set Nat} (h : SwitchTo C s t) (hC : ∀ m ∈ C, m < 64) : HeatsTo m s t :=
  ⟨fun n _ => State.heat_congr (h.part (fun x => x.outs.heat) fun _ _ _ => rfl) n, fun n => h.reg _ (lswSetup_notSwitch hC n).1,
    fun n => h.reg _ (lswSetup_notSwitch hC n).2, h.part State.code fun _ _ _ => rfl, h.part State.bedOn fun _ _ _ => rfl,
    h.part State.now fun _ _ _ => rfl, h.part (fun x => x.lsw.lastHeat) fun _ _ _ => rfl, fun n _ _ => h.flag n 7 (by decide) (by unfold switchBit; decide)⟩

theorem of_affects (h : AffectsOnly lswTold s t) : HeatsTo m s t :=
  ⟨fun n _ => State.heat_congr (h.part (fun x => x.outs.heat) fun _ _ => rfl) n,
    fun n => h.reg _ (notEntry (by unfold Reg.LSW_CHn_CTL; omega)) (lswSetup_notTold n).1,
    fun n => h.reg _ (notEntry (by unfold Reg.LSW_CHn_LIM; omega)) (lswSetup_notTold n).2, h.part State.code fun _ _ => rfl,
    h.part State.bedOn fun _ _ => rfl, h.part State.now fun _ _ => rfl, h.part (fun x => x.lsw.lastHeat) fun _ _ => rfl, fun n _ _ => h.lOn n 7⟩

theorem setSw (s : State) (n : Nat) (x : Switch) : HeatsTo m s (s.setSw n x) :=
  ⟨fun _ _ => rfl, fun _ => rfl, fun _ => rfl, rfl, rfl, rfl, rfl, fun _ _ _ => rfl⟩

/-- A write of the status register of channel `m`. -/
theorem statWrite (s : State) {f : Fld} (v : Nat) (hm : m < 64) (hf : f.addr = Reg.LSW_CHn_STAT m) : HeatsTo m s (s.wr f v) := by
  have hreg {k : Nat} (hk : k ≠ Reg.LSW_CHn_STAT m) : (s.wr f v).reg k = s.reg k := s.reg_wr_other v (by rw [hf]; exact hk)
  refine ⟨fun _ _ => rfl, fun n => hreg (lswStat_notCtl n m), fun n => hreg (lswStat_notLim n m), rfl, rfl, rfl, rfl,
    fun n hn hnm => State.on_congr (State.rd_congr (hreg ?_))⟩
  simp only [lswFlag, Reg.LSW_CHn_STAT]
  omega

theorem mapBit (s : State) (n : Nat) (v : Bool) : HeatsTo m s (s.mapBit Reg.LSW_FLTMAP_LO n v) := by
  refine ⟨fun _ _ => rfl, fun k => State.reg_wrB_other _ _ ?_, fun k => State.reg_wrB_other _ _ ?_, rfl, rfl, rfl, rfl,
    fun k _ _ => s.mapBit_lOn n v k 7 (by decide)⟩
  · unfold Reg.LSW_CHn_CTL Reg.LSW_FLTMAP_LO
    dsimp only
    omega
  · unfold Reg.LSW_CHn_LIM Reg.LSW_FLTMAP_LO
    dsimp only
    omega

theorem lswFault (s : State) (flag : Nat) (detail : Option Nat) (hm : m < 64) : HeatsTo m s (s.lswFault m flag detail) := by
  rw [State.lswFault_eq]
  exact (((statWrite s (f := lswFlag m flag) _ hm rfl).trans (mapBit _ m true)).trans
    (of_switch ((s.lswFaultShown m flag).lswOff_switches m) (groupSet_lt hm))).trans (of_affects (State.lswFaultTold_affects _ _ _ _))

theorem wireTrip (s : State) (hm : m < 64) : HeatsTo m s (s.wireTrip m) := .ite _ (fun _ => lswFault s _ _ hm) fun _ => refl s

theorem energyTold (s : State) (hm : m < 64) : HeatsTo m s (s.energyTold m) :=
  (statWrite s (f := lswFlag m 13) _ hm rfl).trans (of_affects ((AffectsOnly.flag _ _ (.inl (.inl rfl))).trans (State.lswEvent_affects _ _ _ _ _ _)))

theorem lswEnergy (s : State) (nj : Nat) (hm : m < 64) : HeatsTo m s (s.lswEnergy m nj) := by
  rw [State.lswEnergy_eq]
  exact .ite _ (fun _ => refl s) fun _ => .ite _ (fun _ => (setSw s m _).trans (energyTold _ hm)) fun _ => setSw s m _

end State.HeatsTo

/-! ### One channel's millisecond (R338) -/

/-- The estimate of channel `n` after a millisecond with the mean current `ma`. -/
def State.heatNext (s : State) (n ma : Nat) : Frac :=
  (s.heat n).add (((Frac.ofInt ((ma ^ 2 : Nat) : Int)).sub (s.heat n)).mul ⟨1, 1000 * s.rd (F.LSW_CHn_CTL_TAU n)⟩)

/-- The estimate of channel `n` set. -/
def State.setHeat (s : State) (n : Nat) (h : Frac) : State :=
  { s with outs := { s.outs with heat := SMap.set (fun _ => ⟨0, 1⟩) s.outs.heat n h } }

/-- The mean current of channel `n` shown, and whether it is in its current limit. -/
def State.currentShown (s : State) (n ma : Nat) : State :=
  let lim := decide (classLimit n ≤ ma) && s.lOn n 0
  let t := (s.wrSat (F.LSW_CHn_STAT_MA n) ma).lSet n 10 lim
  t.setSw n { t.sw n with limSince := if lim then some ((t.sw n).limSince.getD s.now) else none }

theorem State.setHeat_same (s : State) (n : Nat) (h : Frac) : (s.setHeat n h).heat n = h := SMap.get_set_same _ _ _ _

theorem State.HeatsTo.setHeat (s : State) (n : Nat) (h : Frac) : State.HeatsTo n s (s.setHeat n h) :=
  ⟨fun _ hm => SMap.get_set_other _ _ _ hm, fun _ => rfl, fun _ => rfl, rfl, rfl, rfl, rfl, fun _ _ _ => rfl⟩

theorem State.HeatsTo.currentShown (s : State) {n : Nat} (ma : Nat) (hn : n < 64) : State.HeatsTo n s (s.currentShown n ma) :=
  ((State.HeatsTo.statWrite s _ hn rfl).trans (.statWrite _ (f := lswFlag n 10) _ hn rfl)).trans (.setSw _ _ _)

theorem State.currentShown_heat (s : State) (n ma m : Nat) : (s.currentShown n ma).heat m = s.heat m := State.heat_congr rfl m

theorem State.heatStep_eq (s : State) (n ma mv : Nat) : s.heatStep n ma mv = if s.bedOn = false then s.setHeat n (s.heatNext n ma)
    else ((((s.setHeat n (s.heatNext n ma)).currentShown n ma).lswEnergy n (ma * mv)).wireTrip n) := rfl

theorem State.energyCounted_heat (s : State) (n nj m : Nat) : (s.energyCounted n nj).heat m = s.heat m := State.heat_congr rfl m

theorem State.energyTold_heat (s : State) (n m : Nat) : (s.energyTold n).heat m = s.heat m := by
  have h := (State.AffectsOnly.flag (S := lswTold) (s.lSet n 13 true) (stat := F.LSW_STAT_WEARSAT) F.LSW_CTL_IE_GRP (.inl (.inl rfl))).trans
    (State.lswEvent_affects _ _ 8 n sevWarning none)
  exact (State.heat_congr (h.part (fun x => x.outs.heat) fun _ _ => rfl) m).trans (State.heat_congr rfl m)

theorem State.lswEnergy_heat (s : State) (n nj m : Nat) : (s.lswEnergy n nj).heat m = s.heat m := by
  rw [State.lswEnergy_eq]
  split
  · rfl
  split
  · exact (State.energyTold_heat _ _ _).trans (s.energyCounted_heat n nj m)
  · exact s.energyCounted_heat n nj m

theorem State.lswFault_heat (s : State) (n flag : Nat) (detail : Option Nat) (m : Nat) : (s.lswFault n flag detail).heat m = s.heat m := by
  rw [State.lswFault_eq]
  have htold := ((s.lswFaultShown n flag).lswOff n).lswFaultTold_affects n flag detail
  exact (State.heat_congr (htold.part (fun x => x.outs.heat) fun _ _ => rfl) m).trans
    ((State.heat_congr (((s.lswFaultShown n flag).lswOff_switches n).part (fun x => x.outs.heat) fun _ _ _ => rfl) m).trans (State.heat_congr rfl m))

theorem State.wireTrip_heat (s : State) (n m : Nat) : (s.wireTrip n).heat m = s.heat m := by
  unfold State.wireTrip
  split
  · exact s.lswFault_heat n 7 _ m
  · rfl

/-- A wire whose estimate has reached its limit is shown tripped. -/
theorem State.wireTrip_trips {s : State} {n : Nat} (hn : n < 64) (hcar : s.lswCarried n = true) (h : (s.wireLimit n).le (s.heat n) = true) :
    (s.wireTrip n).lOn n 7 = true := by
  unfold State.wireTrip
  split
  · exact (State.lswFault_shows _ hn (by decide)).1
  · next hc =>
    by_contra h7
    exact hc ⟨h, eq_false_of_ne_true h7, hcar⟩

theorem State.HeatsTo.step (s : State) {n : Nat} (ma mv : Nat) (hn : n < 64) : State.HeatsTo n s (s.heatStep n ma mv) := by
  rw [State.heatStep_eq]
  exact .ite _ (fun _ => .setHeat s n _) fun _ => (((State.HeatsTo.setHeat s n _).trans (.currentShown _ ma hn)).trans (.lswEnergy _ _ hn)).trans
    (.wireTrip _ hn)

theorem State.heatStep_heat (s : State) (n ma mv : Nat) : (s.heatStep n ma mv).heat n = s.heatNext n ma := by
  rw [State.heatStep_eq]
  split
  · exact s.setHeat_same n _
  · rw [State.wireTrip_heat, State.lswEnergy_heat, State.currentShown_heat]
    exact s.setHeat_same n _

theorem State.wireLimit_congr {s t : State} {n : Nat} (h : t.reg (Reg.LSW_CHn_LIM n) = s.reg (Reg.LSW_CHn_LIM n)) : t.wireLimit n = s.wireLimit n := by
  have hrd : t.rd (F.LSW_CHn_LIM_IWIRE n) = s.rd (F.LSW_CHn_LIM_IWIRE n) := State.rd_congr h
  unfold State.wireLimit
  rw [hrd]

theorem State.heatStep_trips {s : State} {n : Nat} (ma mv : Nat) (hbed : s.bedOn = true) (hcar : s.lswCarried n = true)
    (h : (s.wireLimit n).le (s.heatNext n ma) = true) : (s.heatStep n ma mv).lOn n 7 = true := by
  have hn := lswCarried_lt hcar
  have hto : State.HeatsTo n s (((s.setHeat n (s.heatNext n ma)).currentShown n ma).lswEnergy n (ma * mv)) :=
    ((State.HeatsTo.setHeat s n _).trans (.currentShown _ ma hn)).trans (.lswEnergy _ _ hn)
  have hheat : (((s.setHeat n (s.heatNext n ma)).currentShown n ma).lswEnergy n (ma * mv)).heat n = s.heatNext n ma := by
    rw [State.lswEnergy_heat, State.currentShown_heat]
    exact s.setHeat_same n _
  rw [State.heatStep_eq, if_neg (by rw [hbed]; decide)]
  generalize ((s.setHeat n (s.heatNext n ma)).currentShown n ma).lswEnergy n (ma * mv) = x at hto hheat
  refine State.wireTrip_trips hn ?_ ?_
  · unfold State.lswCarried at hcar ⊢
    rw [hto.code]
    exact hcar
  · rw [State.wireLimit_congr (hto.lim n), hheat]
    exact h

/-! ### All channels -/

/-- The measurement of channel `n`: its number, mean current and output voltage, 0 where it is not listed. -/
def measOf (meas : List (Nat × Nat × Nat)) (n : Nat) : Nat × Nat × Nat := (meas.find? (fun m => decide (m.1 = n))).getD (n, 0, 0)

/-- The millisecond of all channels carried. -/
def State.allHeated (s : State) (meas : List (Nat × Nat × Nat)) (chs : List Nat) : State :=
  chs.foldl (fun x n => x.heatStep n (measOf meas n).2.1 (measOf meas n).2.2) s

theorem State.allHeated_eq (s : State) (meas : List (Nat × Nat × Nat)) (chs : List Nat) : chs.foldl (fun x n =>
    match meas.find? (fun m => decide (m.1 = n)) with
    | some m => x.heatStep n m.2.1 m.2.2
    | none => x.heatStep n 0 0) s = s.allHeated meas chs := by
  unfold State.allHeated
  congr 1
  funext x n
  unfold measOf
  cases meas.find? (fun m => decide (m.1 = n)) <;> rfl

/-- Channel `n` before its own millisecond. -/
structure State.HeatAs (n : Nat) (s t : State) : Prop where
  heat : t.heat n = s.heat n
  ctl : t.reg (Reg.LSW_CHn_CTL n) = s.reg (Reg.LSW_CHn_CTL n)
  lim : t.reg (Reg.LSW_CHn_LIM n) = s.reg (Reg.LSW_CHn_LIM n)
  code : t.code = s.code
  bedOn : t.bedOn = s.bedOn
  now : t.now = s.now
  lastHeat : t.lsw.lastHeat = s.lsw.lastHeat

/-- Channel `n` after its own millisecond. -/
structure State.Heated (n ma : Nat) (s t : State) : Prop where
  heat : t.heat n = s.heatNext n ma
  trip : s.bedOn = true → (s.wireLimit n).le (s.heatNext n ma) = true → t.lOn n 7 = true
  bedOn : t.bedOn = s.bedOn
  lastHeat : t.lsw.lastHeat = s.lsw.lastHeat

theorem State.HeatAs.next {s t : State} {n : Nat} (h : State.HeatAs n s t) (ma : Nat) : t.heatNext n ma = s.heatNext n ma := by
  have htau : t.rd (F.LSW_CHn_CTL_TAU n) = s.rd (F.LSW_CHn_CTL_TAU n) := State.rd_congr h.ctl
  unfold State.heatNext
  rw [h.heat, htau]

theorem State.HeatAs.step {s t : State} {n : Nat} (h : State.HeatAs n s t) (ma mv : Nat) (hcar : s.lswCarried n = true) :
    State.Heated n ma s (t.heatStep n ma mv) := by
  have hto := State.HeatsTo.step t ma mv (lswCarried_lt hcar)
  refine ⟨(t.heatStep_heat n ma mv).trans (h.next ma), fun hbed hlim => ?_, hto.bedOn.trans h.bedOn, hto.lastHeat.trans h.lastHeat⟩
  refine State.heatStep_trips ma mv (h.bedOn.trans hbed) ?_ ?_
  · unfold State.lswCarried at hcar ⊢
    rw [h.code]
    exact hcar
  · rw [State.wireLimit_congr h.lim, h.next]
    exact hlim

theorem State.allHeated_shows {s : State} (meas : List (Nat × Nat × Nat)) {n : Nat} (hcar : s.lswCarried n = true) :
    State.Heated n (measOf meas n).2.1 s (s.allHeated meas ((List.range 64).filter (fun n => s.lswCarried n))) := by
  have hn := lswCarried_lt hcar
  have hlt : ∀ m ∈ (List.range 64).filter (fun n => s.lswCarried n), m < 64 := fun m hm => List.mem_range.mp (List.mem_of_mem_filter hm)
  have hnodup : ((List.range 64).filter (fun n => s.lswCarried n)).Nodup := List.nodup_range.filter _
  obtain ⟨l, r, hsplit⟩ := List.append_of_mem (List.mem_filter.mpr ⟨List.mem_range.mpr hn, hcar⟩)
  rw [hsplit] at hlt hnodup ⊢
  have hl : ∀ m ∈ l, m ≠ n := fun m hm e => (List.nodup_append.mp hnodup).2.2 m hm n (List.mem_cons_self ..) e
  have hr : ∀ m ∈ r, m ≠ n := fun m hm e => (List.nodup_cons.mp (List.nodup_append.mp hnodup).2.1).1 (e ▸ hm)
  unfold State.allHeated
  rw [List.foldl_append, List.foldl_cons]
  have hbefore : State.HeatAs n s (l.foldl (fun x n => x.heatStep n (measOf meas n).2.1 (measOf meas n).2.2) s) := by
    refine foldl_keeps (I := fun x : State => State.HeatAs n s x) _ _ ⟨rfl, rfl, rfl, rfl, rfl, rfl, rfl⟩ fun x m hm hx => ?_
    have hto := State.HeatsTo.step x (measOf meas m).2.1 (measOf meas m).2.2 (hlt m (List.mem_append_left _ hm))
    exact ⟨(hto.heat n (hl m hm).symm).trans hx.heat, (hto.ctl n).trans hx.ctl, (hto.lim n).trans hx.lim, hto.code.trans hx.code,
      hto.bedOn.trans hx.bedOn, hto.now.trans hx.now, hto.lastHeat.trans hx.lastHeat⟩
  have hown := hbefore.step (measOf meas n).2.1 (measOf meas n).2.2 hcar
  refine foldl_keeps (I := fun x : State => State.Heated n (measOf meas n).2.1 s x) _ _ hown fun x m hm hx => ?_
  have hto := State.HeatsTo.step x (measOf meas m).2.1 (measOf meas m).2.2 (hlt m (List.mem_append_right _ (List.mem_cons_of_mem _ hm)))
  exact ⟨(hto.heat n (hr m hm).symm).trans hx.heat, fun hbed hlim => (hto.trip n hn (hr m hm).symm).trans (hx.trip hbed hlim),
    hto.bedOn.trans hx.bedOn, hto.lastHeat.trans hx.lastHeat⟩

end Sys2Proof.Machine
end

section
/-! SUPPORT. The heat update of the load switches (R338), and their commands together. -/

namespace Sys2Proof.Machine

/-- The time of a heat update noted. -/
def State.heatNoted (s : State) : State := { s with lsw := { s.lsw with lastHeat := s.now } }

/-- The load supply voltage shown. -/
def State.busNoted (s : State) (busv : Nat) : State := (s.wrSat F.LSW_BUSV_MV busv).wr F.LSW_BUSV_LOW (min (s.rd F.LSW_BUSV_LOW) busv)

theorem State.busNoted_mv (s : State) (busv : Nat) : (s.busNoted busv).rd F.LSW_BUSV_MV = min busv (maxOf F.LSW_BUSV_MV.width) :=
  (State.rd_wr_apart _ _ rfl).trans (s.rd_wrSat_same _ _ (by decide))

theorem State.busNoted_affects (s : State) (busv : Nat) : State.AffectsOnly {Reg.LSW_BUSV} s (s.busNoted busv) :=
  (State.AffectsOnly.wrSat (S := {Reg.LSW_BUSV}) s (f := F.LSW_BUSV_MV) _ (.inl rfl)).trans (.wr _ (f := F.LSW_BUSV_LOW) _ (.inl rfl))

theorem State.heatNoted_heat (s : State) (n : Nat) : s.heatNoted.heat n = s.heat n := State.heat_congr rfl n

theorem execWireHeatUpdate_eq {s : State} (meas : List (Nat × Nat × Nat)) (busv : Nat) (hdue : ¬ (s.bedOn = true ∧ s.now < s.lsw.lastHeat + 1000000)) :
    exec (.wireHeatUpdate meas busv) s = .next (if s.bedOn then
        ((s.heatNoted.allHeated meas ((List.range 64).filter (fun n => s.lswCarried n))).wrSat F.LSW_BUSV_MV busv).wr F.LSW_BUSV_LOW
          (min ((s.heatNoted.allHeated meas ((List.range 64).filter (fun n => s.lswCarried n))).rd F.LSW_BUSV_LOW) busv)
      else s.heatNoted.allHeated meas ((List.range 64).filter (fun n => s.lswCarried n))) := by
  refine congrArg Host.Outcome.next ((if_neg hdue).trans ?_)
  dsimp only
  rw [← State.allHeated_eq]
  rfl

theorem execWireHeatUpdate_heats {s : State} {meas : List (Nat × Nat × Nat)} {n busv : Nat} {m : Nat × Nat × Nat} (hbed : s.bedOn = true)
    (hdue : s.lsw.lastHeat + 1000000 ≤ s.now) (hcar : s.lswCarried n = true)
    (hm : (meas.find? (fun x => decide (x.1 = n))).getD (n, 0, 0) = m) :
    Completes (.wireHeatUpdate meas busv) s (fun t => t.lsw.lastHeat = s.now ∧ t.heat n = (s.heat n).add (((Frac.ofInt ((m.2.1 ^ 2 : Nat) : Int)).sub
        (s.heat n)).mul ⟨1, 1000 * s.rd (F.LSW_CHn_CTL_TAU n)⟩) ∧
      ((s.wireLimit n).le (t.heat n) = true → t.lOn n 7 = true) ∧ t.rd F.LSW_BUSV_MV = min busv (maxOf F.LSW_BUSV_MV.width)) := by
  refine ⟨_, execWireHeatUpdate_eq meas busv (fun h => by omega), ?_⟩
  subst hm
  have hs := State.allHeated_shows (s := s.heatNoted) meas (n := n) hcar
  have hnext : s.heatNoted.heatNext n (measOf meas n).2.1 = s.heatNext n (measOf meas n).2.1 := rfl
  have hwire : s.heatNoted.wireLimit n = s.wireLimit n := rfl
  have hchs : (List.range 64).filter (fun n => s.heatNoted.lswCarried n) = (List.range 64).filter (fun n => s.lswCarried n) := rfl
  rw [hchs] at hs
  rw [hbed, if_pos rfl]
  generalize s.heatNoted.allHeated meas ((List.range 64).filter (fun n => s.lswCarried n)) = x at hs
  have hheat := hs.heat
  have htrip := hs.trip hbed
  have hlast := hs.lastHeat
  rw [hnext] at hheat htrip
  rw [hwire] at htrip
  have h := x.busNoted_affects busv
  have ht : (x.busNoted busv).heat n = s.heatNext n (measOf meas n).2.1 := (State.heat_congr (h.part (fun y => y.outs.heat) fun _ _ => rfl) n).trans hheat
  refine ⟨(h.part (fun y => y.lsw.lastHeat) fun _ _ => rfl).trans hlast, ht, fun hle => ?_, x.busNoted_mv busv⟩
  refine (h.on (lswStat_notEntry n) ?_).trans (htrip ((congrArg (Frac.le (s.wireLimit n)) ht).symm.trans hle))
  rw [Set.mem_singleton_iff]
  simp only [lswFlag, Reg.LSW_CHn_STAT, Reg.LSW_BUSV]
  omega

theorem State.allHeated_regs {s : State} (meas : List (Nat × Nat × Nat)) (chs : List Nat) (hbed : s.bedOn = false) :
    (s.allHeated meas chs).regs = s.regs := by
  refine (foldl_keeps (I := fun x : State => x.bedOn = false ∧ x.regs = s.regs) chs s ⟨hbed, rfl⟩ fun x n _ hx => ?_).2
  rw [State.heatStep_eq, if_pos hx.1]
  exact hx

theorem execWireHeatUpdate_heatsOff {s : State} {meas : List (Nat × Nat × Nat)} {n busv : Nat} {m : Nat × Nat × Nat} (hbed : s.bedOn = false)
    (hcar : s.lswCarried n = true) (hm : (meas.find? (fun x => decide (x.1 = n))).getD (n, 0, 0) = m) :
    Completes (.wireHeatUpdate meas busv) s (fun t => t.heat n = (s.heat n).add (((Frac.ofInt ((m.2.1 ^ 2 : Nat) : Int)).sub
        (s.heat n)).mul ⟨1, 1000 * s.rd (F.LSW_CHn_CTL_TAU n)⟩) ∧ t.regs = s.regs) := by
  refine ⟨_, execWireHeatUpdate_eq meas busv (fun h => by rw [hbed] at h; exact Bool.false_ne_true h.1), ?_⟩
  subst hm
  rw [hbed, if_neg Bool.false_ne_true]
  have hs := State.allHeated_shows (s := s.heatNoted) meas (n := n) hcar
  exact ⟨hs.heat, State.allHeated_regs (s := s.heatNoted) meas _ hbed⟩

/-- Settles O33: each command from what it shows of the channel and its group. -/
theorem loadSwitchCommandsComplete : Obligations.LoadSwitchCommandsComplete := by
  unfold Obligations.LoadSwitchCommandsComplete
  refine ⟨?_, ?_, ?_, ?_, ?_, ?_, ?_, ?_, ?_, ?_, ?_, ?_, ?_, ?_, ?_, ?_⟩
  · exact fun s a n v => execLswUntimedCommand_turnsOn
  · exact fun s a n v => execLswUntimedCommand_stays
  · exact fun s a n v => execLswUntimedCommand_turnsOff
  · exact fun s a n v => execLswUntimedCommand_refusesSource v
  · exact fun s means g n => execShedEvaluation_sheds
  · exact fun s means => execShedEvaluation_measures
  · exact fun s a hi v n => execShedClear_clears
  · exact fun s meas n busv m => execWireHeatUpdate_heats
  · exact fun s meas n busv m => execWireHeatUpdate_heatsOff
  · exact fun s n kind => execLswChannelFault_shows
  · exact fun s a hi v n => execLswFaultClear_clears
  · exact fun s n high => execOpenLoadOff_shows
  · exact fun s n low => execOpenLoadOn_shows low
  · exact fun s q d n duty => execLswPulse_pulses
  · exact fun s q d n duty => execLswSet_sets
  · exact fun s q d => execLswCancel_cancels

end Sys2Proof.Machine
end

section
/-! SUPPORT. The fail-safe states of the output-stage ICs (R325, R326, R342, R471): what entering and leaving one changes. -/

namespace Sys2Proof.Machine

/-- The register of IC `i`'s status. -/
def icReg (i : Nat) : Nat := if i < 6 then Reg.VLV_TRWj_STAT i else Reg.LSW_SHRj_STAT (i - 6)

theorem icReg_cases (i : Nat) : (icReg i / 0x1000 = 0xB ∧ 0xB100 ≤ icReg i ∧ icReg i < 0xB130) ∨
    (icReg i / 0x1000 = 0xC ∧ 0xC060 ≤ icReg i ∧ icReg i < 0xC0A0) := by
  unfold icReg
  split
  · unfold Reg.VLV_TRWj_STAT
    omega
  · unfold Reg.LSW_SHRj_STAT
    omega

theorem icReg_notEntry (i : Nat) : ¬ entryBlock (icReg i / 0x1000) := notEntry (by have := icReg_cases i; omega)

theorem icReg_kept {i : Nat} (h : i < 6) : vlvKept (icReg i) := by
  have heq : icReg i = Reg.VLV_TRWj_STAT i := if_pos h
  rw [heq]
  exact vlvKept_trowel i

/-- The registers below the channels of the blocks that no channel shows its drive in. -/
theorem icReg_notDriven {C : Set Nat} (i : Nat) : icReg i ∉ driveRegs C := by
  have h := icReg_cases i
  simp only [driveRegs, Set.mem_ofPred_eq, Reg.VLV_STAT, Reg.VLV_CONFCNT, Reg.VLV_BANKk_STAT, Reg.VLV_CHn_STAT, not_or, not_exists]
  refine ⟨by omega, by omega, fun b => by omega, fun m hm => by omega⟩

theorem icReg_notSwitch {C : Set Nat} (i : Nat) : icReg i ∉ switchRegs C := by
  have h := icReg_cases i
  simp only [switchRegs, Set.mem_ofPred_eq, Reg.LSW_CONFCNT, Reg.LSW_GRPg_STAT, Reg.LSW_CHn_STAT, Reg.LSW_OLMAP_LO, not_or, not_exists]
  refine ⟨by omega, fun g => by omega, fun m ⟨hm, e⟩ => by omega⟩

/-- A flag of a load switch set stays set when that of another is set. -/
theorem State.lOn_lSet_stays (s : State) (m n : Nat) {b : Nat} (hb : b < 32) (h : s.lOn m b = true) : (s.lSet n b true).lOn m b = true := by
  by_cases hmn : Reg.LSW_CHn_STAT m = Reg.LSW_CHn_STAT n
  · have heq : (s.lSet n b true).lOn m b = (s.lSet n b true).lOn n b := by
      unfold State.lOn lswFlag
      rw [hmn]
    rw [heq]
    exact s.lOn_lSet_same n true hb
  · exact (State.on_congr (State.rd_congr (State.reg_wrB_other _ _ hmn))).trans h

/-- `t` comes from `s` by steps that take channels into their fail-safe states: the ICs and their status stay, and a channel that shows its
fail-safe state goes on showing it. -/
structure State.SafesTo (s t : State) : Prop where
  ics : t.outs.ics = s.outs.ics
  stat : ∀ i, t.reg (icReg i) = s.reg (icReg i)
  valve : ∀ n, s.vOn n 13 = true → t.vOn n 13 = true
  switch : ∀ n, s.lOn n 12 = true → t.lOn n 12 = true

namespace State.SafesTo

variable {s t u : State}

theorem refl (s : State) : SafesTo s s := ⟨rfl, fun _ => rfl, fun _ h => h, fun _ h => h⟩

theorem trans (h : SafesTo s t) (h' : SafesTo t u) : SafesTo s u :=
  ⟨h'.ics.trans h.ics, fun i => (h'.stat i).trans (h.stat i), fun n hn => h'.valve n (h.valve n hn), fun n hn => h'.switch n (h.switch n hn)⟩

theorem ite (c : Prop) [Decidable c] (h : c → SafesTo s t) (h' : ¬ c → SafesTo s u) : SafesTo s (if c then t else u) := by
  split
  · exact h ‹_›
  · exact h' ‹_›

theorem foldl {α : Type*} (f : State → α → State) (h : ∀ (x : State) a, SafesTo x (f x a)) (l : List α) (s : State) : SafesTo s (l.foldl f s) :=
  List.foldlRecOn (motive := fun x : State => SafesTo s x) l f (refl s) fun x hx a _ => hx.trans (h x a)

theorem lswBlock_notDriven {k : Nat} (h : k / 0x1000 = 0xC) {C : Set Nat} : k ∉ driveRegs C := by
  simp only [driveRegs, Set.mem_ofPred_eq, Reg.VLV_STAT, Reg.VLV_CONFCNT, Reg.VLV_BANKk_STAT, Reg.VLV_CHn_STAT, not_or, not_exists]
  exact ⟨by omega, by omega, fun b => by omega, fun m hm => by omega⟩

theorem of_drives {C : Set Nat} (h : DrivesTo C s t) : SafesTo s t := by
  refine ⟨h.part (fun x => x.outs.ics) fun _ _ => rfl, fun i => h.reg _ (icReg_notEntry i) (icReg_notDriven i),
    fun n hn => (h.flag n 13 (by decide) (by unfold driveBit; decide)).trans hn, fun n hn => (State.on_congr (h.rd (lswStat_notEntry n) ?_)).trans hn⟩
  exact lswBlock_notDriven (by simp only [lswFlag, Reg.LSW_CHn_STAT]; omega)

theorem of_switch {C : Set Nat} (hC : ∀ m ∈ C, m < 64) (h : SwitchTo C s t) : SafesTo s t := by
  refine ⟨h.part (fun x => x.outs.ics) fun _ _ _ => rfl, fun i => h.reg _ (icReg_notSwitch i), fun n hn => (State.on_congr (h.rd ?_)).trans hn,
    fun n hn => (h.flag n 12 (by decide) (by unfold switchBit; decide)).trans hn⟩
  simp only [switchRegs, Set.mem_ofPred_eq, vlvFlag, Reg.VLV_CHn_STAT, Reg.LSW_CONFCNT, Reg.LSW_GRPg_STAT, Reg.LSW_CHn_STAT, Reg.LSW_OLMAP_LO, not_or,
    not_exists]
  refine ⟨by omega, fun g => by omega, fun m ⟨hm, e⟩ => ?_⟩
  have := hC m hm
  omega

theorem of_affects (h : AffectsOnly {Reg.VLV_STAT, Reg.LSW_STAT} s t) : SafesTo s t := by
  have hnot {k : Nat} (hv : k ≠ Reg.VLV_STAT) (hl : k ≠ Reg.LSW_STAT) : k ∉ ({Reg.VLV_STAT, Reg.LSW_STAT} : Set Nat) := by
    rintro (hk | hk)
    · exact hv hk
    · exact hl hk
  refine ⟨h.part (fun x => x.outs.ics) fun _ _ => rfl, fun i => h.reg _ (icReg_notEntry i) (hnot ?_ ?_),
    fun n hn => (h.on (notEntry_vlvStat n) (hnot ?_ ?_)).trans hn, fun n hn => (h.on (lswStat_notEntry n) (hnot ?_ ?_)).trans hn⟩
  · have := icReg_cases i
    unfold Reg.VLV_STAT
    omega
  · have := icReg_cases i
    unfold Reg.LSW_STAT
    omega
  all_goals
    simp only [vlvFlag, lswFlag, Reg.VLV_CHn_STAT, Reg.LSW_CHn_STAT, Reg.VLV_STAT, Reg.LSW_STAT]
    omega

theorem applyEntry (s : State) (k : Nat) : SafesTo s (s.applyEntry k) := ⟨rfl, fun _ => rfl, fun _ h => h, fun _ h => h⟩

theorem vSet (s : State) (n : Nat) : SafesTo s (s.vSet n 13 true) := by
  refine ⟨rfl, fun i => State.reg_wrB_other _ _ ?_, fun m hm => s.vOn_vSet_stays m n (by decide) hm,
    fun m hm => (State.on_congr (State.rd_congr (State.reg_wrB_other _ _ ?_))).trans hm⟩
  · have := icReg_cases i
    simp only [vlvFlag, Reg.VLV_CHn_STAT]
    omega
  · simp only [vlvFlag, lswFlag, Reg.VLV_CHn_STAT, Reg.LSW_CHn_STAT]
    omega

theorem lSet (s : State) (n : Nat) : SafesTo s (s.lSet n 12 true) := by
  refine ⟨rfl, fun i => s.lSet_reg n 12 true ?_, fun m hm => (State.on_congr (State.rd_congr (s.lSet_reg n 12 true ?_))).trans hm,
    fun m hm => s.lOn_lSet_stays m n (by decide) hm⟩
  · have := icReg_cases i
    simp only [Reg.LSW_CHn_STAT]
    omega
  · simp only [vlvFlag, Reg.VLV_CHn_STAT, Reg.LSW_CHn_STAT]
    omega

end State.SafesTo

/-! ### Entering a fail-safe state (R326, R342) -/

/-- A load switch shows its fail-safe state. -/
def State.lswSafeShown (s : State) (n : Nat) : State := ((s.lSet n 12 true).lSet n 0 ((s.lSet n 12 true).lswSafeOn n)).budReg (groupOf n)

theorem State.safeShown_eq (s : State) (i : Nat) : s.safeShown i = if i < 6 then (icChannels i).foldl (fun x n => (x.vSet n 13 true).valveStop n) s
    else (icChannels i).foldl (fun x n => x.lswSafeShown n) s := rfl

theorem icChannels_lt {i n : Nat} (hi : ¬ i < 6) (h14 : i < 14) (h : n ∈ icChannels i) : n < 64 := by
  unfold icChannels at h
  obtain ⟨k, hk, rfl⟩ := List.mem_map.mp h
  rw [if_neg hi]
  have := List.mem_range.mp hk
  omega

theorem State.SafesTo.lswSafeShown (s : State) {n : Nat} (hn : n < 64) : State.SafesTo s (s.lswSafeShown n) := by
  refine (State.SafesTo.lSet s n).trans (.of_switch (C := {n}) (fun m hm => by rw [Set.mem_singleton_iff.mp hm]; exact hn) ?_)
  exact (SwitchTo.lSet _ _ (Set.mem_singleton n) SwitchTo.switch_on).trans (.budReg _ _)

theorem State.lswSafeShown_flag (s : State) (n : Nat) : (s.lswSafeShown n).lOn n 12 = true :=
  (State.budReg_lOn _ _ _ _).trans ((State.lOn_lSet_beside _ _ _ _ (by decide) (by decide) (by decide)).trans (State.lOn_lSet_same _ _ _ (by decide)))

theorem State.valveSafeShown_flag (s : State) (n : Nat) : ((s.vSet n 13 true).valveStop n).vOn n 13 = true :=
  ((State.DrivesTo.valveStop (C := {n}) _ (Set.mem_singleton n)).flag n 13 (by decide) (by unfold driveBit; decide)).trans
    (State.vOn_vSet_same _ _ _ (by decide))

theorem State.SafesTo.valveSafeShown (s : State) (n : Nat) : State.SafesTo s ((s.vSet n 13 true).valveStop n) :=
  (State.SafesTo.vSet s n).trans (.of_drives (.valveStop (C := {n}) _ (Set.mem_singleton n)))

/-- Whether the channels of IC `i` show their fail-safe states. -/
def State.icSafe (s : State) (i : Nat) : Prop := ∀ n ∈ icChannels i, (if i < 6 then s.vOn n 13 else s.lOn n 12) = true

theorem State.SafesTo.icSafe {s t : State} (h : State.SafesTo s t) {i : Nat} (hs : s.icSafe i) : t.icSafe i := by
  intro n hn
  have := hs n hn
  split
  · next hi =>
    rw [if_pos hi] at this
    exact h.valve n this
  · next hi =>
    rw [if_neg hi] at this
    exact h.switch n this

/-- The channels of an IC taken to their fail-safe states, not yet shown. -/
def State.safeApplied (s : State) (i : Nat) : State :=
  (icChannels i).foldl (fun x n => if i < 6 then (x.valveStop n).applyEntry n else (x.lswStop n).applyEntry (48 + n)) s

theorem State.safeChannels_eq (s : State) (i : Nat) : s.safeChannels i = (s.safeApplied i).safeShown i := rfl

theorem State.SafesTo.safeApplied (s : State) {i : Nat} (h14 : i < 14) : State.SafesTo s (s.safeApplied i) := by
  refine foldl_keeps (I := fun x : State => State.SafesTo s x) _ _ (.refl s) fun x n hn hx => hx.trans (.ite _ (fun _ => ?_) fun hi => ?_)
  · exact (State.SafesTo.of_drives (.valveStop (C := {n}) x (Set.mem_singleton n))).trans (.applyEntry _ _)
  · have hlt := icChannels_lt hi h14 hn
    exact (State.SafesTo.of_switch (C := {n}) (fun m hm => by rw [Set.mem_singleton_iff.mp hm]; exact hlt)
      (.lswStop x (Set.mem_singleton n))).trans (.applyEntry _ _)

theorem State.safeShown_safes (s : State) {i : Nat} (h14 : i < 14) : State.SafesTo s (s.safeShown i) ∧ (s.safeShown i).icSafe i := by
  rw [State.safeShown_eq]
  split
  · next hi =>
    obtain ⟨hI, hP⟩ := foldl_establishes (f := fun (x : State) n => (x.vSet n 13 true).valveStop n) (I := fun x : State => State.SafesTo s x)
      (P := fun n (x : State) => x.vOn n 13 = true) (icChannels i) s (.refl s) (fun x n _ hx => hx.trans (.valveSafeShown x n))
      (fun x n _ _ => x.valveSafeShown_flag n) fun x n m _ _ _ hx => (State.SafesTo.valveSafeShown x m).valve n hx
    exact ⟨hI, fun n hn => by rw [if_pos hi]; exact hP n hn⟩
  · next hi =>
    obtain ⟨hI, hP⟩ := foldl_establishes (f := fun (x : State) n => x.lswSafeShown n) (I := fun x : State => State.SafesTo s x)
      (P := fun n (x : State) => x.lOn n 12 = true) (icChannels i) s (.refl s)
      (fun x n hn hx => hx.trans (.lswSafeShown x (icChannels_lt hi h14 hn))) (fun x n _ _ => x.lswSafeShown_flag n)
      fun x n m _ hm _ hx => (State.SafesTo.lswSafeShown x (icChannels_lt hi h14 hm)).switch n hx
    exact ⟨hI, fun n hn => by rw [if_neg hi]; exact hP n hn⟩

/-- The entry into a fail-safe state told. -/
def State.safeTold (s : State) (i : Nat) : State :=
  if i < 6 then (s.flag F.VLV_STAT_FSAFE F.VLV_CTL_IE_FSAFE).vlvEvent 5 i sevSafety none
  else (s.flag F.LSW_STAT_FSAFE F.LSW_CTL_IE_FSAFE).lswEvent 7 (i - 6) sevSafety none

theorem State.SafesTo.safeTold (s : State) (i : Nat) : State.SafesTo s (s.safeTold i) :=
  .ite _ (fun _ => .of_affects ((State.AffectsOnly.flag (S := {Reg.VLV_STAT, Reg.LSW_STAT}) s (stat := F.VLV_STAT_FSAFE) _ (.inl (.inl rfl))).trans
    (State.DrivesTo.vlvEvent_affects _ _ _ _ _ _))) fun _ => .of_affects ((State.AffectsOnly.flag (S := {Reg.VLV_STAT, Reg.LSW_STAT}) s
      (stat := F.LSW_STAT_FSAFE) _ (.inl (.inr rfl))).trans (State.lswEvent_affects _ _ _ _ _ _))

/-- The IC marked as in its fail-safe state. -/
def State.icMarked (s : State) (i : Nat) : State := (s.setOutIc i { s.outIc i with fsafe := true }).wr (icFsafe i) 1

/-- An expiry counted and tested for. -/
def State.icCounted (s : State) (i : Nat) (expiry : Bool) : State := if expiry then (s.inc (icExp i)).triggerTest (icRes i) else s

theorem State.enterSafe_eq (s : State) (i : Nat) (expiry : Bool) : s.enterSafe i expiry = if (s.outIc i).fsafe then s.icCounted i expiry
    else (((s.icCounted i expiry).icMarked i).safeChannels i).safeTold i := by
  unfold State.enterSafe State.safeTold
  dsimp only
  split
  · rfl
  · split <;> rfl

/-! ### What entering a fail-safe state shows -/

theorem State.outIc_congr {s t : State} (h : t.outs.ics = s.outs.ics) (i : Nat) : t.outIc i = s.outIc i := by
  unfold State.outIc
  rw [h]

theorem State.outIc_setOutIc_same (s : State) (i : Nat) (x : OutIc) : (s.setOutIc i x).outIc i = x := SMap.get_set_same _ _ _ _

theorem State.outIc_setOutIc_other (s : State) {i j : Nat} (x : OutIc) (h : j ≠ i) : (s.setOutIc i x).outIc j = s.outIc j := SMap.get_set_other _ _ _ h

theorem State.setOutIc_rd (s : State) (i : Nat) (x : OutIc) (f : Fld) : (s.setOutIc i x).rd f = s.rd f := rfl
theorem State.setOutIc_reg (s : State) (i : Nat) (x : OutIc) (k : Nat) : (s.setOutIc i x).reg k = s.reg k := rfl
theorem State.setOutIc_on (s : State) (i : Nat) (x : OutIc) (f : Fld) : (s.setOutIc i x).on f = s.on f := rfl

theorem icStat_addr (i hi lo : Nat) : (icStat i hi lo).addr = icReg i := rfl

/-- The channels' tail of entering a fail-safe state. -/
theorem State.icEntered (x : State) {i : Nat} (h14 : i < 14) : State.SafesTo x ((x.safeChannels i).safeTold i) ∧ ((x.safeChannels i).safeTold i).icSafe i := by
  obtain ⟨hs, hsafe⟩ := (x.safeApplied i).safeShown_safes h14
  rw [State.safeChannels_eq]
  exact ⟨((State.SafesTo.safeApplied x h14).trans hs).trans (.safeTold _ i), (State.SafesTo.safeTold _ i).icSafe hsafe⟩

theorem State.icCounted_outIc (s : State) (i : Nat) (expiry : Bool) (j : Nat) : (s.icCounted i expiry).outIc j = s.outIc j := by
  unfold State.icCounted
  split
  · exact (State.outIc_congr ((State.AffectsOnly.triggerTest (S := ∅) _ _).part (fun x => x.outs.ics) fun _ _ => rfl) j).trans (State.outIc_congr rfl j)
  · rfl

/-- A field of the ICs' status that counting an expiry leaves alone. -/
theorem State.icCounted_rd (s : State) (i : Nat) {f : Fld} {j : Nat} (hf : f.addr = icReg j) (h : (icExp i).apart f = true ∨ f.addr ≠ icReg i)
    (expiry : Bool) : (s.icCounted i expiry).rd f = s.rd f := by
  unfold State.icCounted
  split
  · refine ((State.AffectsOnly.triggerTest (S := ∅) _ _).rd (hf ▸ icReg_notEntry j) (Set.notMem_empty _)).trans ?_
    obtain h | h := h
    · exact s.rd_wr_apart _ h
    · exact s.rd_wr_other _ h
  · rfl

theorem State.icCounted_exp (s : State) (i : Nat) : (s.icCounted i true).rd (icExp i) = min (s.rd (icExp i) + 1) 255 := by
  refine ((State.AffectsOnly.triggerTest (S := ∅) (s.inc (icExp i)) (icRes i)).rd (icReg_notEntry i) (Set.notMem_empty _)).trans ?_
  exact s.rd_inc_same (show 23 < 32 by decide)

end Sys2Proof.Machine
end

section
/-! SUPPORT. The serial watchdog and the fail-safe request (R325, R326, R342, R471), each by what it carries out. -/

namespace Sys2Proof.Machine

/-! ### Entering a fail-safe state -/

theorem State.icMarked_outIc (s : State) (i : Nat) : (s.icMarked i).outIc i = { s.outIc i with fsafe := true } :=
  (State.outIc_congr rfl i).trans (s.outIc_setOutIc_same i _)

theorem State.icMarked_other (s : State) {i j : Nat} (h : j ≠ i) : (s.icMarked i).outIc j = s.outIc j :=
  (State.outIc_congr rfl j).trans (s.outIc_setOutIc_other _ h)

theorem State.icMarked_safe (s : State) (i : Nat) : (s.icMarked i).on (icFsafe i) = true := State.on_wr_one _ (show 30 < 32 by decide) rfl

/-- A field of an IC's status that marking IC `i` leaves alone. -/
theorem State.icMarked_rd (s : State) (i : Nat) {f : Fld} (h : (icFsafe i).apart f = true ∨ f.addr ≠ icReg i) : (s.icMarked i).rd f = s.rd f := by
  obtain h | h := h
  · exact (State.rd_wr_apart _ _ h).trans (State.setOutIc_rd _ _ _ _)
  · exact (State.rd_wr_other _ _ h).trans (State.setOutIc_rd _ _ _ _)

/-- What entering a fail-safe state shows of the IC. -/
theorem State.enterSafe_shows (s : State) {i : Nat} (h14 : i < 14) (expiry : Bool) : (s.enterSafe i expiry).outIc i = { s.outIc i with fsafe := true } ∧
    (∀ j, j ≠ i → (s.enterSafe i expiry).outIc j = s.outIc j) ∧
    ((s.outIc i).fsafe = false → (s.enterSafe i expiry).on (icFsafe i) = true ∧ (s.enterSafe i expiry).icSafe i) := by
  rw [State.enterSafe_eq]
  split
  · next hsafe =>
    refine ⟨(s.icCounted_outIc i expiry i).trans ?_, fun j _ => s.icCounted_outIc i expiry j, fun h => absurd (hsafe.symm.trans h) (by decide)⟩
    rw [← hsafe]
  · obtain ⟨hs, hsafe⟩ := ((s.icCounted i expiry).icMarked i).icEntered h14
    refine ⟨?_, fun j hj => ?_, fun _ => ⟨?_, hsafe⟩⟩
    · rw [State.outIc_congr hs.ics, State.icMarked_outIc, State.icCounted_outIc]
    · rw [State.outIc_congr hs.ics, State.icMarked_other _ hj, State.icCounted_outIc]
    · exact (State.on_congr (State.rd_congr (hs.stat i))).trans (State.icMarked_safe _ i)

/-- Fields of the ICs' status that entering a fail-safe state for another reason than an expiry leaves alone. -/
theorem State.enterSafe_rd (s : State) {i j : Nat} (h14 : i < 14) {f : Fld} (hf : f.addr = icReg j) (h : (icFsafe i).apart f = true ∨ f.addr ≠ icReg i) :
    (s.enterSafe i false).rd f = s.rd f := by
  rw [State.enterSafe_eq]
  split
  · rfl
  · obtain ⟨hs, -⟩ := ((s.icCounted i false).icMarked i).icEntered h14
    refine (State.rd_congr ?_).trans ((s.icCounted i false).icMarked_rd i h)
    rw [hf]
    exact hs.stat j

theorem State.enterSafe_exp (s : State) {i : Nat} (h14 : i < 14) : (s.enterSafe i true).rd (icExp i) = min (s.rd (icExp i) + 1) 255 := by
  rw [State.enterSafe_eq]
  split
  · exact s.icCounted_exp i
  · obtain ⟨hs, -⟩ := ((s.icCounted i true).icMarked i).icEntered h14
    exact (State.rd_congr (hs.stat i)).trans (((s.icCounted i true).icMarked_rd i (.inl rfl)).trans (s.icCounted_exp i))

/-- A channel that shows its fail-safe state goes on showing it while another IC enters one. -/
theorem State.enterSafe_keeps (s : State) {i : Nat} (h14 : i < 14) {j : Nat} (hj : s.icSafe j) : (s.enterSafe i false).icSafe j := by
  rw [State.enterSafe_eq]
  split
  · exact hj
  · obtain ⟨hs, -⟩ := ((s.icCounted i false).icMarked i).icEntered h14
    refine hs.icSafe fun n hn => ?_
    have h := hj n hn
    have hreg {f : Fld} (hf : f.addr ≠ icReg i) : ((s.icCounted i false).icMarked i).on f = s.on f := State.on_congr ((s.icCounted i false).icMarked_rd i (.inr hf))
    have hc := icReg_cases i
    split
    · next hi =>
      rw [if_pos hi] at h
      refine (hreg ?_).trans h
      simp only [vlvFlag, Reg.VLV_CHn_STAT]
      omega
    · next hi =>
      rw [if_neg hi] at h
      refine (hreg ?_).trans h
      simp only [lswFlag, Reg.LSW_CHn_STAT]
      omega

/-! ### The watchdog (R325) -/

theorem icCarried_lt {s : State} {i : Nat} (h : s.icCarried i = true) : i < 14 := by
  unfold State.icCarried at h
  split at h
  · omega
  · simp only [Bool.and_eq_true, decide_eq_true_eq] at h
    exact h.1

/-- The times of the frames that IC `i` sent again within the last second. -/
def State.resentWindow (s : State) (i : Nat) (r : Readback) : List Nat :=
  (List.replicate r.resent s.now ++ ((s.incBy (icCrc i) r.resent).outIc i).resent).filter (fun x => decide (s.now < x + 1000000000))

/-- The frames sent again, counted and noted. -/
def State.resentNoted (s : State) (i : Nat) (r : Readback) : State :=
  (s.incBy (icCrc i) r.resent).setOutIc i { (s.incBy (icCrc i) r.resent).outIc i with resent := s.resentWindow i r }

/-- What a refresh shows of the IC itself. -/
def State.icShown (s : State) (i : Nat) (r : Readback) : State :=
  (if 0 < r.resent ∧ 16 ≤ (s.resentWindow i r).length then (s.resentNoted i r).triggerTest (icRes i) else s.resentNoted i r).wrB (icOt i) (!r.hot.isEmpty)

/-- The mean currents of a Trowel's bank shown. -/
def State.bankMean (x : State) (i : Nat) (r : Readback) (k : Nat) : State :=
  ((x.wrSat (F.VLV_BANKk_STAT_MA (2 * i + k)) (((r.ma.drop (4 * k)).take 4).foldl (fun a m => a + m) 0)).peak (F.VLV_BANKk_CUR_PEAK (2 * i + k))
    (((r.ma.drop (4 * k)).take 4).foldl (fun a m => a + m) 0)).wrSat (F.VLV_BANKk_CUR_AVG (2 * i + k)) (r.avg.getD k 0)

theorem State.readback_eq (s : State) (i : Nat) (r : Readback) : s.readback i r = if i < 6 then [0, 1].foldl (fun x k => x.bankMean i r k)
      ((icChannels i).zipIdx.foldl (fun x c => x.measured (F.VLV_CHn_MEAS_MA c.1) (F.VLV_CHn_MEAS_PEAK c.1) (r.ma.getD c.2 0)) (s.icShown i r))
    else (icChannels i).zipIdx.foldl (fun x c => x.setSw c.1 { x.sw c.1 with hot := (x.sw c.1).hot && r.hot.contains c.2 }) (s.icShown i r) := rfl

theorem State.readback_ics (s : State) (i : Nat) (r : Readback) : (s.readback i r).outs.ics = (s.resentNoted i r).outs.ics := by
  have hshown : (s.icShown i r).outs.ics = (s.resentNoted i r).outs.ics := by
    unfold State.icShown
    split
    · exact (State.AffectsOnly.triggerTest (S := ∅) (s.resentNoted i r) (icRes i)).part (fun x => x.outs.ics) fun _ _ => rfl
    · rfl
  refine Eq.trans ?_ hshown
  rw [State.readback_eq]
  split
  · exact foldl_keeps (I := fun x : State => x.outs.ics = (s.icShown i r).outs.ics) _ _
      (foldl_keeps (I := fun x : State => x.outs.ics = (s.icShown i r).outs.ics) _ _ rfl fun _ _ _ h => h) fun _ _ _ h => h
  · exact foldl_keeps (I := fun x : State => x.outs.ics = (s.icShown i r).outs.ics) _ _ rfl fun _ _ _ h => h

/-- What a readback keeps of the IC. -/
theorem State.readback_keeps (s : State) (i : Nat) (r : Readback) : ((s.readback i r).outIc i).last = (s.outIc i).last ∧
    ((s.readback i r).outIc i).period = (s.outIc i).period ∧ ((s.readback i r).outIc i).fsafe = (s.outIc i).fsafe := by
  have h : (s.readback i r).outIc i = { s.outIc i with resent := s.resentWindow i r } :=
    (State.outIc_congr (s.readback_ics i r) i).trans ((State.outIc_setOutIc_same _ _ _).trans rfl)
  rw [h]
  exact ⟨rfl, rfl, rfl⟩

/-- The refresh of IC `ic` noted. -/
def State.icRefreshed (t s : State) (ic : Nat) : State :=
  (t.setOutIc ic { t.outIc ic with last := s.now, period := s.icPeriod ic, accepted := s.now }).wr (icSince ic) 0

theorem execWatchdogRefresh_eq {s : State} {ic : Nat} (r : Readback) (hbed : s.bedOn = true) (hcar : s.icCarried ic = true)
    (hlink : s.on (icLink ic) = true) : exec (.watchdogRefresh ic r) s = .next (if r.seqOk = true ∧
      ((s.readback ic r).outIc ic).last + ((s.readback ic r).outIc ic).period * 250000 ≤ s.now ∧
      s.now ≤ ((s.readback ic r).outIc ic).last + ((s.readback ic r).outIc ic).period * 1000000
    then (s.readback ic r).icRefreshed s ic
    else ((s.readback ic r).setOutIc ic { (s.readback ic r).outIc ic with last := s.now }).enterSafe ic true) := by
  refine congrArg Host.Outcome.next (if_neg ?_)
  simp only [hbed, hcar, hlink]
  decide

theorem execWatchdogRefresh_accepts {s : State} {ic : Nat} {r : Readback} (hbed : s.bedOn = true) (hcar : s.icCarried ic = true)
    (hlink : s.on (icLink ic) = true) (hseq : r.seqOk = true) (hlow : (s.outIc ic).last + (s.outIc ic).period * 250000 ≤ s.now)
    (hhigh : s.now ≤ (s.outIc ic).last + (s.outIc ic).period * 1000000) :
    Completes (.watchdogRefresh ic r) s (fun t => (t.outIc ic).last = s.now ∧ (t.outIc ic).period = s.icPeriod ic ∧
      (t.outIc ic).fsafe = (s.outIc ic).fsafe ∧ t.rd (icSince ic) = 0) := by
  obtain ⟨hlast, hperiod, hsafe⟩ := s.readback_keeps ic r
  refine ⟨_, (execWatchdogRefresh_eq r hbed hcar hlink).trans (congrArg Host.Outcome.next (if_pos ?_)), ?_⟩
  · rw [hlast, hperiod]
    exact ⟨hseq, hlow, hhigh⟩
  · have hic : ((s.readback ic r).icRefreshed s ic).outIc ic =
        { (s.readback ic r).outIc ic with last := s.now, period := s.icPeriod ic, accepted := s.now } :=
      (State.outIc_congr rfl ic).trans (State.outIc_setOutIc_same _ _ _)
    dsimp only
    rw [hic]
    refine ⟨rfl, rfl, hsafe, ?_⟩
    have hin : (icSince ic).inWord = true := by
      unfold icSince
      split <;> rfl
    exact State.rd_wr_fits _ (Fld.hi_lt hin) (Nat.two_pow_pos _)

/-- What an expiry of IC `ic` shows. -/
theorem State.expired_shows (s : State) {ic : Nat} (h14 : ic < 14) (now : Nat) :
    (((s.setOutIc ic { s.outIc ic with last := now }).enterSafe ic true).outIc ic).fsafe = true ∧
      (((s.setOutIc ic { s.outIc ic with last := now }).enterSafe ic true).outIc ic).last = now := by
  rw [((s.setOutIc ic { s.outIc ic with last := now }).enterSafe_shows h14 true).1, State.outIc_setOutIc_same]
  exact ⟨rfl, rfl⟩

theorem execWatchdogRefresh_expires {s : State} {ic : Nat} {r : Readback} (hbed : s.bedOn = true) (hcar : s.icCarried ic = true)
    (hlink : s.on (icLink ic) = true)
    (hbad : r.seqOk = false ∨ s.now < (s.outIc ic).last + (s.outIc ic).period * 250000 ∨ (s.outIc ic).last + (s.outIc ic).period * 1000000 < s.now) :
    Completes (.watchdogRefresh ic r) s (fun t => (t.outIc ic).fsafe = true ∧ (t.outIc ic).last = s.now) := by
  obtain ⟨hlast, hperiod, -⟩ := s.readback_keeps ic r
  refine ⟨_, (execWatchdogRefresh_eq r hbed hcar hlink).trans (congrArg Host.Outcome.next (if_neg ?_)), State.expired_shows _ (icCarried_lt hcar) _⟩
  rw [hlast, hperiod]
  rintro ⟨hseq, hlow, hhigh⟩
  obtain h | h | h := hbad
  · exact Bool.noConfusion (hseq.symm.trans h)
  · omega
  · omega

theorem execWatchdogExpiry_expires {s : State} {ic : Nat} (hbed : s.bedOn = true) (hcar : s.icCarried ic = true)
    (hlate : (s.outIc ic).last + (s.outIc ic).period * 1000000 < s.now) :
    Completes (.watchdogExpiry ic) s (fun t => (t.outIc ic).fsafe = true ∧ (t.outIc ic).last = s.now ∧ t.rd (icExp ic) = min (s.rd (icExp ic) + 1) 255 ∧
      ((s.outIc ic).fsafe = false → t.on (icFsafe ic) = true ∧ (icChannels ic).all (fun n => if ic < 6 then t.vOn n 13 else t.lOn n 12) = true)) := by
  have h14 := icCarried_lt hcar
  refine ⟨(s.setOutIc ic { s.outIc ic with last := s.now }).enterSafe ic true, congrArg Host.Outcome.next (if_neg ?_), ?_⟩
  · simp only [hbed, hcar]
    rintro (h | h | h)
    · exact Bool.noConfusion h
    · exact Bool.noConfusion h
    · omega
  · obtain ⟨hsafe, hlast⟩ := s.expired_shows h14 s.now
    refine ⟨hsafe, hlast, ((s.setOutIc ic { s.outIc ic with last := s.now }).enterSafe_exp h14).trans (by rw [State.setOutIc_rd]), fun hwas => ?_⟩
    obtain ⟨-, -, hshow⟩ := (s.setOutIc ic { s.outIc ic with last := s.now }).enterSafe_shows h14 true
    obtain ⟨hflag, hchs⟩ := hshow (by rw [State.outIc_setOutIc_same]; exact hwas)
    refine ⟨hflag, List.all_eq_true.mpr fun n hn => ?_⟩
    exact hchs n hn

end Sys2Proof.Machine
end

section
/-! SUPPORT. The fail-safe request, RESUME and the keys of the fail-safe table (R326, R342, R343, R471), each by what it carries out. -/

namespace Sys2Proof.Machine

/-! ### The fail-safe request (R471) -/

/-- The request line shown by IC `i`. -/
def State.requested (s : State) (i : Nat) : State := s.wr (icReq i) 1

theorem State.requested_outIc (s : State) (i j : Nat) : (s.requested i).outIc j = s.outIc j := State.outIc_congr rfl j

theorem State.requested_req (s : State) (i : Nat) : (s.requested i).on (icReq i) = true := s.on_wr_one (show 29 < 32 by decide) rfl

theorem State.requested_keeps (s : State) (i : Nat) {j : Nat} (h : s.on (icReq j) = true) : (s.requested i).on (icReq j) = true := by
  by_cases hij : icReg j = icReg i
  · have heq : icReq j = icReq i := congrArg (fun a => (⟨a, 29, 29⟩ : Fld)) hij
    rw [heq]
    exact s.requested_req i
  · exact (State.on_congr (s.rd_wr_other _ hij)).trans h

theorem State.requested_safe (s : State) (i : Nat) {j : Nat} (h : s.icSafe j) : (s.requested i).icSafe j := by
  intro n hn
  have hn := h n hn
  have hc := icReg_cases i
  split
  · next hj =>
    rw [if_pos hj] at hn
    refine (State.on_congr (s.rd_wr_other _ ?_)).trans hn
    rw [show (icReq i).addr = icReg i from rfl]
    simp only [vlvFlag, Reg.VLV_CHn_STAT]
    omega
  · next hj =>
    rw [if_neg hj] at hn
    refine (State.on_congr (s.rd_wr_other _ ?_)).trans hn
    rw [show (icReq i).addr = icReg i from rfl]
    simp only [lswFlag, Reg.LSW_CHn_STAT]
    omega

/-- IC `i` takes its fail-safe state at the request. -/
def State.requestOne (s : State) (i : Nat) : State := (s.requested i).enterSafe i false

/-- The ICs that were not in their fail-safe state in `s` and are in `x` have their channels in theirs. -/
def State.SafeSince (s x : State) : Prop := ∀ j, (x.outIc j).fsafe = true → (s.outIc j).fsafe = true ∨ x.icSafe j

/-- IC `i` is in its fail-safe state at a request that it shows. -/
def State.ReqSafe (i : Nat) (x : State) : Prop := (x.outIc i).fsafe = true ∧ x.on (icReq i) = true

theorem State.requestOne_since {s x : State} {i : Nat} (h14 : i < 14) (h : s.SafeSince x) : s.SafeSince (x.requestOne i) := by
  obtain ⟨hsame, hother, hshow⟩ := (x.requested i).enterSafe_shows h14 false
  intro j hj
  have hkeep {j : Nat} (hs : x.icSafe j) : (x.requestOne i).icSafe j := (x.requested i).enterSafe_keeps h14 (x.requested_safe i hs)
  by_cases hji : j = i
  · subst hji
    cases hwas : (x.outIc j).fsafe with
    | true => exact (h j hwas).imp id hkeep
    | false => exact .inr (hshow ((congrArg OutIc.fsafe (x.requested_outIc j j)).trans hwas)).2
  · refine (h j ?_).imp id hkeep
    rw [State.requestOne, hother j hji, State.requested_outIc] at hj
    exact hj

theorem State.requestOne_safe (x : State) {i : Nat} (h14 : i < 14) : ReqSafe i (x.requestOne i) := by
  obtain ⟨hsame, -, -⟩ := (x.requested i).enterSafe_shows h14 false
  refine ⟨?_, (State.on_congr ((x.requested i).enterSafe_rd h14 (j := i) rfl (.inl rfl))).trans (x.requested_req i)⟩
  rw [State.requestOne, hsame]

theorem State.requestOne_keeps {x : State} {i j : Nat} (h14 : i < 14) (h : ReqSafe j x) : ReqSafe j (x.requestOne i) := by
  by_cases hji : j = i
  · rw [hji]
    exact x.requestOne_safe h14
  · obtain ⟨hsafe, hreq⟩ := h
    obtain ⟨-, hother, -⟩ := (x.requested i).enterSafe_shows h14 false
    refine ⟨?_, (State.on_congr ((x.requested i).enterSafe_rd h14 (j := j) rfl (.inl rfl))).trans (x.requested_keeps i hreq)⟩
    rw [State.requestOne, hother j hji, State.requested_outIc]
    exact hsafe

theorem State.requestSafe_shows (s : State) : s.SafeSince s.requestSafe ∧ ∀ i ∈ s.ics, ReqSafe i s.requestSafe := by
  have h14 {i : Nat} (hi : i ∈ s.ics) : i < 14 := List.mem_range.mp (List.mem_filter.mp hi).1
  exact foldl_establishes (f := fun (x : State) i => x.requestOne i) (I := s.SafeSince) (P := ReqSafe) s.ics s (fun _ h => .inl h)
    (fun x i hi hx => State.requestOne_since (h14 hi) hx) (fun x i hi _ => x.requestOne_safe (h14 hi))
    fun x j i _ hi _ hx => State.requestOne_keeps (h14 hi) hx

theorem execFailsafeRequest_safes {s : State} (hbed : s.bedOn = true) :
    Completes (.failsafeRequest) s (fun t => s.ics.all (fun i => (t.outIc i).fsafe && t.on (icReq i)) = true ∧
      (s.ics.all (fun i => (s.outIc i).fsafe || (icChannels i).all (fun n => if i < 6 then t.vOn n 13 else t.lOn n 12))) = true) := by
  obtain ⟨hsince, hall⟩ := s.requestSafe_shows
  refine ⟨s.requestSafe, congrArg Host.Outcome.next (if_pos hbed), List.all_eq_true.mpr fun i hi => ?_, List.all_eq_true.mpr fun i hi => ?_⟩
  · obtain ⟨hsafe, hreq⟩ := hall i hi
    rw [hsafe, hreq]
    rfl
  · obtain ⟨hsafe, -⟩ := hall i hi
    rw [Bool.or_eq_true]
    exact (hsince i hsafe).imp id fun h => List.all_eq_true.mpr h

/-! ### RESUME (R326, R342) -/

/-- The fail-safe state of IC `i` ended, its channels not yet followed. -/
def State.icFreed (s : State) (i : Nat) : State := (s.setOutIc i { s.outIc i with fsafe := false }).wr (icFsafe i) 0

/-- The channels of IC `i` start from OFF and follow their commands. -/
def State.icFollows (t : State) (i : Nat) : State :=
  if i < 6 then (icChannels i).foldl (fun y n => y.valveResume n) ((icChannels i).foldl (fun y n => ((y.vSet n 13 false).valveStop n)) t)
  else (icChannels i).foldl (fun y n => y.lswFollow n) ((icChannels i).foldl (fun y n => (y.lSet n 12 false).lswStop n) t)

theorem State.resumeIc_eq (s : State) (i : Nat) : s.resumeIc i = if (s.outIc i).fsafe = false ∨ (s.outIc i).locked = true ∨ s.on (icLink i) = false ∨
    s.on (icReq i) = true then s else (s.icFreed i).icFollows i := by
  unfold State.resumeIc State.icFollows
  dsimp only
  split
  · rfl
  · split <;> rfl

/-- The part of the state that a RESUME's channels leave alone. -/
def State.icPart (s : State) : Resp × SMap OutIc := (s.resp, s.outs.ics)

theorem State.icFollows_part (t : State) (i : Nat) : (t.icFollows i).icPart = t.icPart := by
  have hdrives {C : Set Nat} {x y : State} (h : State.DrivesTo C x y) : y.icPart = x.icPart := h.part State.icPart fun _ _ => rfl
  have hswitch {C : Set Nat} {x y : State} (h : State.SwitchTo C x y) : y.icPart = x.icPart := h.part State.icPart fun _ _ _ => rfl
  unfold State.icFollows
  split
  · refine foldl_keeps (I := fun x : State => x.icPart = t.icPart) _ _ (foldl_keeps (I := fun x : State => x.icPart = t.icPart) _ _ rfl
      fun x n _ hx => (hdrives (.valveStop (C := {n}) _ (Set.mem_singleton n))).trans hx) fun x n _ hx => (hdrives (x.valveResume_drives n)).trans hx
  · refine foldl_keeps (I := fun x : State => x.icPart = t.icPart) _ _ (foldl_keeps (I := fun x : State => x.icPart = t.icPart) _ _ rfl
      fun x n _ hx => (hswitch (.lswStop (C := {n}) _ (Set.mem_singleton n))).trans hx) fun x n _ hx => (hswitch (x.lswFollow_switches n)).trans hx

theorem State.resumeIc_shows (s : State) (i : Nat) : (s.resumeIc i).resp = s.resp ∧
    ((s.resumeIc i).outIc i).fsafe = ((s.outIc i).fsafe && ((s.outIc i).locked || !s.on (icLink i) || s.on (icReq i))) := by
  rw [State.resumeIc_eq]
  split
  · next h =>
    refine ⟨rfl, ?_⟩
    obtain h | h | h | h := h <;> simp [h]
  · next h =>
    have hpart := (s.icFreed i).icFollows_part i
    refine ⟨congrArg Prod.fst hpart, ?_⟩
    have hic : ((s.icFreed i).icFollows i).outIc i = { s.outIc i with fsafe := false } :=
      (State.outIc_congr (congrArg Prod.snd hpart) i).trans ((State.outIc_congr rfl i).trans (s.outIc_setOutIc_same i _))
    rw [hic]
    simp only [not_or, Bool.not_eq_false, Bool.not_eq_true] at h
    obtain ⟨hsafe, hlocked, hlink, hreq⟩ := h
    rw [hsafe, hlocked, hlink, hreq]
    rfl

theorem execOutputStageResume_resumes {s : State} {a : Agent} {ic : Nat} (hic : ic < 14)
    (hacc : s.accepts a (if ic < 6 then 0x0B else 0x0C) (if ic < 6 then 0x104 + 8 * ic else 0x064 + 8 * (ic - 6)) = true) :
    Completes (.outputStageResume a ic) s (fun t => t.resp = .done ∧
      (t.outIc ic).fsafe = ((s.outIc ic).fsafe && ((s.outIc ic).locked || !s.on (icLink ic) || s.on (icReq ic)))) := by
  refine ⟨s.done.resumeIc ic, congrArg Host.Outcome.next ?_, s.done.resumeIc_shows ic⟩
  by_cases h6 : ic < 6
  · rw [if_pos h6, if_pos h6] at hacc
    exact (if_pos h6).trans (State.gate_accepts _ hacc)
  · rw [if_neg h6, if_neg h6] at hacc
    exact (if_neg h6).trans ((if_pos hic).trans (State.gate_accepts _ hacc))

/-! ### The keys of the fail-safe table (R343) -/

/-- The state that a key leads to. -/
def unlockNext (st key : Nat) : Nat := if st = 0 ∧ key = 0xA5C3 then 1 else if st = 1 ∧ key = 0x3C5A then 2 else 0

theorem unlockNext_lt (st key : Nat) : unlockNext st key < 4 := by
  unfold unlockNext
  split
  · decide
  · split <;> decide

theorem unlockNext_two (st key : Nat) : unlockNext st key = 2 ↔ st = 1 ∧ key = 0x3C5A := by
  unfold unlockNext
  split
  · next h => exact ⟨fun h' => absurd h' (by decide), fun h' => absurd (h.1.symm.trans h'.1) (by decide)⟩
  · split
    · next h => exact ⟨fun _ => h, fun _ => rfl⟩
    · next h => exact ⟨fun h' => absurd h' (by decide), fun h' => absurd h' h⟩

/-- A key taken. -/
def State.keyTaken (s : State) (key : Nat) : State := s.wr F.LSW_FSUNLOCK_STATE (unlockNext (s.rd F.LSW_FSUNLOCK_STATE) key)

/-- The time of the unlock noted. -/
def State.withOpenAt (s : State) (o : Option Nat) : State := { s with lsw := { s.lsw with openAt := o } }

theorem State.withOpenAt_rd (s : State) (o : Option Nat) (f : Fld) : (s.withOpenAt o).rd f = s.rd f := rfl

theorem State.fsunlock_scarecrow (s : State) (v : W32) : s.fsunlock .scarecrow v =
    (s.done.keyTaken (getBits v 15 0)).withOpenAt (if unlockNext (s.rd F.LSW_FSUNLOCK_STATE) (getBits v 15 0) = 2 then some s.now else none) := rfl

theorem State.keyTaken_state (s : State) (key : Nat) : (s.keyTaken key).rd F.LSW_FSUNLOCK_STATE = unlockNext (s.rd F.LSW_FSUNLOCK_STATE) key :=
  s.rd_wr_fits (by decide) (unlockNext_lt _ _)

theorem State.done_rd (s : State) (f : Fld) : s.done.rd f = s.rd f := rfl

theorem State.failFor_rd (s : State) (a : Agent) (f : Fld) : (s.failFor a).rd f = s.rd f := by
  unfold State.failFor
  split <;> rfl

theorem State.lswReject_unlock (s : State) (n cause : Nat) : (s.lswReject n cause).rd F.LSW_FSUNLOCK_STATE = s.rd F.LSW_FSUNLOCK_STATE :=
  (State.lswReject_affects s n cause).rd (notEntry (by decide)) (by decide)

theorem execFsunlockWrite_unlocks {s : State} {a : Agent} {v : W32} (hacc : s.accepts a 0x0C 0x014 = true) :
    Completes (.fsunlockWrite a v) s (fun t => if a = .scarecrow then t.resp = .done ∧ t.rd F.LSW_FSUNLOCK_STATE =
        (if s.rd F.LSW_FSUNLOCK_STATE = 0 ∧ getBits v 15 0 = 0xA5C3 then 1 else if s.rd F.LSW_FSUNLOCK_STATE = 1 ∧ getBits v 15 0 = 0x3C5A then 2 else 0) ∧
        t.lsw.openAt = (if s.rd F.LSW_FSUNLOCK_STATE = 1 ∧ getBits v 15 0 = 0x3C5A then some s.now else none)
      else t.resp = .error ∧ t.rd F.LSW_BADCFG_CAUSE = 5 ∧ t.rd F.LSW_FSUNLOCK_STATE = s.rd F.LSW_FSUNLOCK_STATE) := by
  refine ⟨s.done.fsunlock a v, congrArg Host.Outcome.next (State.gate_accepts _ hacc), ?_⟩
  split
  · next ha =>
    subst ha
    rw [State.fsunlock_scarecrow, State.done_rd, State.withOpenAt_rd]
    refine ⟨rfl, (s.done.done.keyTaken_state _).trans rfl, ?_⟩
    by_cases h : s.rd F.LSW_FSUNLOCK_STATE = 1 ∧ getBits v 15 0 = 0x3C5A
    · rw [if_pos h, if_pos ((unlockNext_two _ _).mpr h)]
      rfl
    · rw [if_neg h, if_neg fun h' => h ((unlockNext_two _ _).mp h')]
      rfl
  · next ha =>
    have heq : s.done.fsunlock a v = (s.done.lswReject 0 5).failFor a := if_pos ha
    obtain ⟨hcause, -, -⟩ := s.done.lswReject_shows (n := 0) (cause := 5) (by decide) (by decide)
    rw [heq, State.failFor_rd, State.failFor_rd, State.failFor_resp, State.lswReject_unlock]
    exact ⟨rfl, hcause, s.done_rd _⟩

theorem execFsunlockTimeout_locks {s : State} {t0 : Nat} (hopen : s.lsw.openAt = some t0) (hlate : t0 + 10000000 ≤ s.now) :
    Completes (.fsunlockTimeout) s (fun t => t.rd F.LSW_FSUNLOCK_STATE = 0 ∧ t.lsw.openAt = none) := by
  refine ⟨s.fslock, congrArg Host.Outcome.next ?_, s.rd_wr_fits (by decide) (by decide), rfl⟩
  rw [hopen]
  exact if_pos hlate

end Sys2Proof.Machine
end

section
/-! SUPPORT. The fail-safe table written and read (R343-R345), and the output stages' commands together. -/

namespace Sys2Proof.Machine

/-! ### What a table write changes -/

theorem State.setToken_mem (s : State) (c : Nat) (x : Token) : (s.setToken c x).mem = s.mem := rfl

/-- The token's registers as it is granted. -/
def State.tokShown (s : State) (c owner act since : Nat) : State :=
  (((s.wr (F.HLT_TOKc_HELD c) 1).wr (F.HLT_TOKc_OWNER c) owner).wr (F.HLT_TOKc_ACT c) act).measured F.HLT_TOKWAIT_LAST F.HLT_TOKWAIT_PEAK
    ((s.now - since) / 1000000)

theorem State.tokShown_mem (s : State) (c owner act since : Nat) : (s.tokShown c owner act since).mem = s.mem := rfl

/-- A grant to another activity than a TOKTAKE. -/
theorem State.tokGrant_eq (s : State) (c owner : Nat) {act : Nat} (since : Nat) (h : act ≠ 0xC) : s.tokGrant c owner act since =
    (s.tokShown c owner act since).setToken c { s.token c with since := s.now, hourTold := false } := if_neg h

/-- A token asked for by another activity than a TOKTAKE leaves memory alone. -/
theorem State.tokAsk_mem (s : State) (c owner : Nat) {act : Nat} (h : act ≠ 0xC) : (s.tokAsk c owner act).1.mem = s.mem := by
  unfold State.tokAsk
  split
  · rw [State.tokGrant_eq _ _ _ _ h, State.setToken_mem, State.tokShown_mem]
  · split
    · rfl
    · split
      · rfl
      · exact s.setToken_mem _ _

theorem State.fswriteStatus_congr {s t : State} (hmem : t.mem = s.mem) (hcode : t.code = s.code) (a : Nat) (b : Bytes) :
    t.fswriteStatus a b = s.fswriteStatus a b := by
  unfold State.fswriteStatus State.outCarried State.lswCarried
  rw [hmem, hcode]

theorem State.icCarried_congr {s t : State} (hcode : t.code = s.code) (i : Nat) : t.icCarried i = s.icCarried i := by
  unfold State.icCarried
  rw [hcode]

/-- The version and codes of the table that every IC has committed. -/
def State.tableNoted (t : State) (b : Bytes) : State :=
  { t with outs := { t.outs with tableId := leAt b 8 4, tableVer := leAt b 12 4, tableCodes := leAt b 16 1 } }

/-- The registers of the stores shown and the write told. -/
def State.tableTold (t : State) : State :=
  (((t.storedRegs.eventEntry 44 0x80 9 0 (t.lswResult t.freshNat none) true).1).eventEntry 45 0x80 9 0 (t.lswResult t.freshNat none) true).1.tickFree

theorem State.fswriteRun_good {s : State} {d : Desc}
    (hstat : (s.tablePoison (d.le 24 8)).fswriteStatus (d.le 24 8) (s.mem.readBytes (d.le 24 8) 512) = 0) : s.fswriteRun d [] =
      ((((s.tablePoison (d.le 24 8)).commitTable (s.mem.readBytes (d.le 24 8) 512) (s.tablePoison (d.le 24 8)).ics).tableNoted
        (s.mem.readBytes (d.le 24 8) 512)).tableTold, {}) := by
  have hall : (s.tablePoison (d.le 24 8)).ics.filter (fun i => !([] : List Nat).contains i) = (s.tablePoison (d.le 24 8)).ics :=
    List.filter_eq_self.mpr fun _ _ => rfl
  unfold State.fswriteRun
  dsimp only
  rw [hstat, if_neg fun h => h rfl, hall, if_neg (Nat.lt_irrefl _)]
  rfl

/-- The entries of image `b` that the ICs of `who` commit. -/
theorem State.commitTable_entry (s : State) (b : Bytes) {who : List Nat} {k : Nat} (hk : k < 112) (hwho : icOf k ∈ who) :
    (s.commitTable b who).fsEntry k = tableEntry b k := by
  have hset : SMap.get (fun _ => 0) ((List.range 112).foldl (fun m k => if who.contains (icOf k) then SMap.set (fun _ => 0) m k (tableEntry b k) else m)
      s.outs.entries) k = tableEntry b k := by
    refine (foldl_establishes (I := fun _ => True) (P := fun n m => icOf n ∈ who → SMap.get (fun _ => 0) m n = tableEntry b n) (List.range 112)
      s.outs.entries trivial (fun _ _ _ _ => trivial) (fun m n _ _ hn => ?_) fun m n j _ _ _ hm hn => ?_).2 k (List.mem_range.mpr hk) hwho
    · rw [if_pos (List.contains_iff_mem.mpr hn)]
      exact SMap.get_set_same _ _ _ _
    · split
      · by_cases hnj : n = j
        · rw [hnj]
          exact SMap.get_set_same _ _ _ _
        · exact (SMap.get_set_other _ _ _ hnj).trans (hm hn)
      · exact hm hn
  unfold State.fsEntry
  refine Eq.trans ?_ hset
  exact congrArg (fun e => SMap.get (fun _ => 0) e k) (foldl_keeps (I := fun x : State => x.outs.entries = (List.range 112).foldl
    (fun m k => if who.contains (icOf k) then SMap.set (fun _ => 0) m k (tableEntry b k) else m) s.outs.entries) who _ rfl fun _ _ _ h => h)

/-- What a write of registers alone keeps. -/
theorem State.storedRegs_part {α : Sort*} (s : State) (U : State → α) (hU : ∀ (x : State) r, U { x with regs := r } = U x) : U s.storedRegs = U s := by
  have hfold : U ((List.range 48).foldl (fun x n => if n < s.code.valves then x.wr (F.VLV_CHn_FSAFE_ENTRY n) (x.fsEntry n) else x) s) = U s :=
    foldl_keeps (I := fun x : State => U x = U s) _ _ rfl fun x n _ hx => by
      split
      · exact (hU x _).trans hx
      · exact hx
  unfold State.storedRegs
  exact (hU _ _).trans ((hU _ _).trans ((hU _ _).trans hfold))

theorem State.storedRegs_ver (s : State) : s.storedRegs.rd F.LSW_FSVER_VER = s.outs.tableVer % 2 ^ 32 := by
  unfold State.storedRegs
  refine (State.rd_wr_other _ _ (by decide)).trans ((State.rd_wr_other _ _ (by decide)).trans ?_)
  exact State.rd_wr_same _ _ _ (show 31 < 32 by decide)

theorem State.tableTold_affects (t : State) : State.AffectsOnly ∅ t.storedRegs t.tableTold :=
  ((State.AffectsOnly.eventEntry _ _ _ _ _ _ _).trans (.eventEntry _ _ _ _ _ _ _)).trans (.tickFree _)

theorem State.tableTold_outs (t : State) : t.tableTold.outs = t.outs :=
  (t.tableTold_affects.part (fun x => x.outs) fun _ _ => rfl).trans (t.storedRegs_part (fun x => x.outs) fun _ _ => rfl)

theorem State.tableTold_openAt (t : State) : t.tableTold.lsw.openAt = t.lsw.openAt :=
  (t.tableTold_affects.part (fun x => x.lsw.openAt) fun _ _ => rfl).trans (t.storedRegs_part (fun x => x.lsw.openAt) fun _ _ => rfl)

theorem State.commitTable_openAt (s : State) (b : Bytes) (who : List Nat) : (s.commitTable b who).lsw.openAt = s.lsw.openAt :=
  foldl_keeps (I := fun x : State => x.lsw.openAt = s.lsw.openAt) who _ rfl fun _ _ _ h => h

theorem leValue_lt (b : Bytes) : leValue b < 256 ^ b.length := by
  induction b with
  | nil => exact Nat.one_pos
  | cons x r ih =>
    have hx : x.toNat < 256 := x.isLt
    rw [leValue, List.length_cons, pow_succ]
    omega

theorem leAt_lt (b : Bytes) (i n : Nat) : leAt b i n < 256 ^ n :=
  (leValue_lt _).trans_le (Nat.pow_le_pow_right (by decide) (List.length_take_le _ _))

/-! ### FSWRITE (R343, R345) -/

/-- The table write carried out while the OUTPUT token is held. -/
def State.fswriteHeld (s : State) (d : Desc) : State × Result := (s.fslock.tokAsk 6 6 0xB).1.fswriteRun d []

/-- No table write waits for the token. -/
def State.notWriting (s : State) : State := { s with lsw := { s.lsw with writing := none } }

theorem State.fswrite_good {s : State} {d : Desc} {t0 : Nat} (hrun : s.running 46 0x10 = some d) (hwriting : s.lsw.writing = none)
    (hdoze : s.inDoze = true) (hopen : s.lsw.openAt = some t0) (hstate : s.rd F.LSW_FSUNLOCK_STATE = 2) (hstarted : d.started < t0 + 10000000)
    (halign : d.le 24 8 % 64 = 0) (hrange : inBedRange (d.le 24 8) 512 = true) (htok : (s.fslock.tokAsk 6 6 0xB).2 = true) :
    s.fswrite [] = (((s.fswriteHeld d).1.notWriting).tokGive 6).complete 46 d (s.fswriteHeld d).2 := by
  have hw : decide (s.lsw.writing = some d) = false := by
    rw [hwriting]
    rfl
  unfold State.fswrite
  rw [hrun]
  dsimp only
  rw [hw, hopen]
  dsimp only
  simp only [hstate, hstarted, decide_true, Bool.and_true]
  refine (if_neg fun h => Bool.noConfusion (hdoze.symm.trans h.2)).trans ((if_neg fun h => Bool.noConfusion h.2).trans ((if_neg fun h => h halign).trans
    ((if_neg fun h => Bool.noConfusion (hrange.symm.trans h)).trans ((if_neg fun h => Bool.noConfusion (htok.symm.trans h)).trans rfl))))

/-- The table held as image `b`. -/
structure State.TableWritten (s : State) (b : Bytes) (t : State) : Prop where
  noted : t.outs.tableVer = leAt b 12 4
  shown : t.rd F.LSW_FSVER_VER = leAt b 12 4
  openAt : t.lsw.openAt = none
  entries : ∀ k < 112, s.icCarried (icOf k) = true → t.fsEntry k = tableEntry b k

theorem icOf_lt {k : Nat} (h : k < 112) : icOf k < 14 := by
  unfold icOf
  split <;> omega

theorem State.fswriteHeld_writes {s : State} {d : Desc}
    (hstat : s.fswriteStatus (d.le 24 8) (s.mem.readBytes (d.le 24 8) 512) = 0) :
    State.TableWritten s (s.mem.readBytes (d.le 24 8) 512) (s.fswriteHeld d).1 := by
  have hmem : (s.fslock.tokAsk 6 6 0xB).1.mem = s.mem := s.fslock.tokAsk_mem 6 6 (by decide)
  have haff : State.AffectsOnly ∅ s.fslock (s.fslock.tokAsk 6 6 0xB).1 := .tokAsk _ _ _ _
  have hcode : (s.fslock.tokAsk 6 6 0xB).1.code = s.code := haff.part (fun x => x.code) fun _ _ => rfl
  have hopen : (s.fslock.tokAsk 6 6 0xB).1.lsw.openAt = none := haff.part (fun x => x.lsw.openAt) fun _ _ => rfl
  unfold State.fswriteHeld
  generalize (s.fslock.tokAsk 6 6 0xB).1 = x at hmem hcode hopen
  have hstat' : (x.tablePoison (d.le 24 8)).fswriteStatus (d.le 24 8) (x.mem.readBytes (d.le 24 8) 512) = 0 := by
    rw [hmem]
    exact (State.fswriteStatus_congr (t := x.tablePoison (d.le 24 8)) hmem hcode _ _).trans hstat
  rw [State.fswriteRun_good hstat', hmem]
  dsimp only
  generalize s.mem.readBytes (d.le 24 8) 512 = b
  have hics : ∀ i, (x.tablePoison (d.le 24 8)).icCarried i = s.icCarried i := State.icCarried_congr hcode
  have hnoted : ((x.tablePoison (d.le 24 8)).commitTable b (x.tablePoison (d.le 24 8)).ics).lsw.openAt = none :=
    (State.commitTable_openAt _ _ _).trans hopen
  have hentry {k : Nat} (hk : k < 112) (hc : s.icCarried (icOf k) = true) :
      ((x.tablePoison (d.le 24 8)).commitTable b (x.tablePoison (d.le 24 8)).ics).fsEntry k = tableEntry b k :=
    State.commitTable_entry _ b hk (List.mem_filter.mpr ⟨List.mem_range.mpr (icOf_lt hk), (hics _).trans hc⟩)
  generalize (x.tablePoison (d.le 24 8)).commitTable b (x.tablePoison (d.le 24 8)).ics = y at hnoted hentry
  have houts := (y.tableNoted b).tableTold_outs
  refine ⟨congrArg (fun o => o.tableVer) houts, ?_, ((y.tableNoted b).tableTold_openAt).trans hnoted, fun k hk hc => ?_⟩
  · refine ((y.tableNoted b).tableTold_affects.rd (notEntry (by decide)) (Set.notMem_empty _)).trans ((y.tableNoted b).storedRegs_ver.trans ?_)
    exact Nat.mod_eq_of_lt (leAt_lt b 12 4)
  · exact (congrArg (fun o : Outs => SMap.get (fun _ => 0) o.entries k) houts).trans (hentry hk hc)

theorem State.fswriteHeld_result {s : State} {d : Desc}
    (hstat : s.fswriteStatus (d.le 24 8) (s.mem.readBytes (d.le 24 8) 512) = 0) : (s.fswriteHeld d).2 = {} := by
  have hmem : (s.fslock.tokAsk 6 6 0xB).1.mem = s.mem := s.fslock.tokAsk_mem 6 6 (by decide)
  have haff : State.AffectsOnly ∅ s.fslock (s.fslock.tokAsk 6 6 0xB).1 := .tokAsk _ _ _ _
  have hcode : (s.fslock.tokAsk 6 6 0xB).1.code = s.code := haff.part (fun x => x.code) fun _ _ => rfl
  unfold State.fswriteHeld
  generalize (s.fslock.tokAsk 6 6 0xB).1 = x at hmem hcode
  have hstat' : (x.tablePoison (d.le 24 8)).fswriteStatus (d.le 24 8) (x.mem.readBytes (d.le 24 8) 512) = 0 := by
    rw [hmem]
    exact (State.fswriteStatus_congr (t := x.tablePoison (d.le 24 8)) hmem hcode _ _).trans hstat
  rw [State.fswriteRun_good hstat']

theorem execFswrite_writes {s : State} {d : Desc} {t0 : Nat} (hrun : s.running 46 0x10 = some d) (hwriting : s.lsw.writing = none)
    (hdoze : s.inDoze = true) (hopen : s.lsw.openAt = some t0) (hstate : s.rd F.LSW_FSUNLOCK_STATE = 2) (hstarted : d.started < t0 + 10000000)
    (halign : d.le 24 8 % 64 = 0) (hrange : inBedRange (d.le 24 8) 512 = true) (htok : (s.fslock.tokAsk 6 6 0xB).2 = true)
    (hstat : s.fswriteStatus (d.le 24 8) (s.mem.readBytes (d.le 24 8) 512) = 0) :
    Completes (.fswrite []) s (fun t => t.outs.tableVer = leAt (s.mem.readBytes (d.le 24 8) 512) 12 4 ∧
      t.rd F.LSW_FSVER_VER = leAt (s.mem.readBytes (d.le 24 8) 512) 12 4 ∧ t.lsw.openAt = none ∧ t.lsw.writing = none ∧
      (List.range 112).all (fun k => !s.icCarried (icOf k) || decide (t.fsEntry k = tableEntry (s.mem.readBytes (d.le 24 8) 512) k)) = true) := by
  refine ⟨_, congrArg Host.Outcome.next (State.fswrite_good hrun hwriting hdoze hopen hstate hstarted halign hrange htok), ?_⟩
  have hw := State.fswriteHeld_writes hstat
  generalize s.mem.readBytes (d.le 24 8) 512 = b at hw
  generalize (s.fswriteHeld d).1 = x, (s.fswriteHeld d).2 = r at hw
  have h : State.AffectsOnly ∅ x.notWriting ((x.notWriting.tokGive 6).complete 46 d r) := (State.AffectsOnly.tokGive _ _).trans (.complete _ _ _ _)
  generalize (x.notWriting.tokGive 6).complete 46 d r = t at h
  have houts : t.outs = x.outs := h.part (fun y => y.outs) fun _ _ => rfl
  refine ⟨(congrArg (fun o => o.tableVer) houts).trans hw.noted, (h.rd (notEntry (by decide)) (Set.notMem_empty _)).trans hw.shown,
    (h.part (fun y => y.lsw.openAt) fun _ _ => rfl).trans hw.openAt, h.part (fun y => y.lsw.writing) fun _ _ => rfl, List.all_eq_true.mpr fun k hk => ?_⟩
  rw [Bool.or_eq_true, Bool.not_eq_true', decide_eq_true_eq]
  cases hc : s.icCarried (icOf k) with
  | false => exact .inl rfl
  | true => exact .inr ((congrArg (fun o : Outs => SMap.get (fun _ => 0) o.entries k) houts).trans (hw.entries k (List.mem_range.mp hk) hc))

theorem execFswrite_notDoze {s : State} (failed : List Nat) {d : Desc} (hrun : s.running 46 0x10 = some d) (hwriting : s.lsw.writing = none)
    (hdoze : s.inDoze = false) :
    Completes (.fswrite failed) s (fun t => t.outs = s.outs ∧ t = s.fslock.complete 46 d { status := 0x46 }) := by
  refine ⟨s.fslock.complete 46 d { status := 0x46 }, congrArg Host.Outcome.next ?_, ?_, rfl⟩
  · have hw : decide (s.lsw.writing = some d) = false := by
      rw [hwriting]
      rfl
    unfold State.fswrite
    rw [hrun]
    dsimp only
    rw [hw]
    exact if_pos ⟨rfl, hdoze⟩
  · exact (State.AffectsOnly.complete (S := ∅) s.fslock 46 d { status := 0x46 }).part (fun y => y.outs) fun _ _ => rfl

/-! ### FSREAD -/

theorem execFsread_reads {s : State} {q : Nat} {d : Desc} (h40 : 40 ≤ q) (h48 : q < 48) (hrun : s.running q 0x11 = some d) :
    Completes (.fsread q) s (fun t => if d.le 24 8 % 64 ≠ 0 then t = s.complete q d { status := 2 }
      else if inBedRange (d.le 24 8) 512 = false then t = s.complete q d { status := 5 }
      else t = (s.put (d.le 24 8) s.fsImage).complete q d {}) := by
  refine ⟨_, congrArg Host.Outcome.next ((if_pos ⟨h40, h48⟩).trans (State.serve_of_running _ hrun)), ?_⟩
  dsimp only
  split
  · rfl
  · split <;> rfl

/-- Settles O34: the watchdog and the fail-safe states by what entering one shows, the table by the image the ICs commit. -/
theorem outputStageCommandsComplete : Obligations.OutputStageCommandsComplete := by
  unfold Obligations.OutputStageCommandsComplete
  refine ⟨?_, ?_, ?_, ?_, ?_, ?_, ?_, ?_, ?_, ?_⟩
  · exact fun s ic r hbed hcar hlink hseq hlow hhigh => execWatchdogRefresh_accepts hbed hcar hlink hseq hlow hhigh
  · exact fun s ic r hbed hcar hlink hbad => execWatchdogRefresh_expires hbed hcar hlink hbad
  · exact fun s ic hbed hcar hlate => execWatchdogExpiry_expires hbed hcar hlate
  · exact fun s hbed => execFailsafeRequest_safes hbed
  · exact fun s a ic hic hacc => execOutputStageResume_resumes hic hacc
  · exact fun s a v hacc => execFsunlockWrite_unlocks hacc
  · exact fun s t0 hopen hlate => execFsunlockTimeout_locks hopen hlate
  · exact fun s d t0 hrun hwriting hdoze hopen hstate hstarted halign hrange htok hstat =>
      execFswrite_writes hrun hwriting hdoze hopen hstate hstarted halign hrange htok hstat
  · exact fun s failed d hrun hwriting hdoze => execFswrite_notDoze failed hrun hwriting hdoze
  · exact fun s q d h40 h48 hrun => execFsread_reads h40 h48 hrun

end Sys2Proof.Machine
end

section
/-! SUPPORT. What Furrow's releases hand on, and what the update engine is told, leaves alone of Furrow (R274, R283, R284, R533, R540): its
memories, banks and scan, the time, and the registers of block FUR. -/

namespace Sys2Proof.Machine

/-- `t` keeps of `s` what `U` reads of Furrow, the time, the response, the registers of block FUR outside `S`, and a fault shown. -/
structure State.KeepsFurrow {α : Type*} (U : Furrow → α) (S : Set Nat) (s t : State) : Prop where
  fur : U t.fur = U s.fur
  now : t.now = s.now
  resp : t.resp = s.resp
  reg : ∀ k, k / 0x1000 = 0xA → k ∉ S → t.reg k = s.reg k
  fault : s.rd F.FUR_STAT_FAULT = 1 → t.rd F.FUR_STAT_FAULT = 1

/-- A field of FUR_STAT beside its FAULT bit, or that bit. -/
def Fld.furStat (f : Fld) : Prop := f.apart F.FUR_STAT_FAULT = true ∨ f = F.FUR_STAT_FAULT

namespace State.KeepsFurrow

variable {α : Type*} {U : Furrow → α} {S : Set Nat} {s t u : State}

theorem refl (s : State) : KeepsFurrow U S s s := ⟨rfl, rfl, rfl, fun _ _ _ => rfl, id⟩

theorem trans (h : KeepsFurrow U S s t) (h' : KeepsFurrow U S t u) : KeepsFurrow U S s u :=
  ⟨h'.fur.trans h.fur, h'.now.trans h.now, h'.resp.trans h.resp, fun k hk hS => (h'.reg k hk hS).trans (h.reg k hk hS), fun hf => h'.fault (h.fault hf)⟩

/-- What keeps all of Furrow keeps any of it. -/
theorem weaken (h : KeepsFurrow id S s t) : KeepsFurrow U S s t := ⟨congrArg U h.fur, h.now, h.resp, h.reg, h.fault⟩

theorem mono {T : Set Nat} (h : KeepsFurrow U S s t) (hST : S ⊆ T) : KeepsFurrow U T s t :=
  ⟨h.fur, h.now, h.resp, fun k hk hT => h.reg k hk fun hS => hT (hST hS), h.fault⟩

theorem rd (h : KeepsFurrow U S s t) {f : Fld} (hf : f.addr / 0x1000 = 0xA) (hS : f.addr ∉ S) : t.rd f = s.rd f :=
  State.rd_congr (h.reg _ hf hS)

theorem on (h : KeepsFurrow U S s t) {f : Fld} (hf : f.addr / 0x1000 = 0xA) (hS : f.addr ∉ S) : t.on f = s.on f :=
  State.on_congr (h.rd hf hS)

theorem ite (c : Prop) [Decidable c] (h : c → KeepsFurrow U S s t) (h' : ¬ c → KeepsFurrow U S s u) : KeepsFurrow U S s (if c then t else u) := by
  split
  · exact h ‹_›
  · exact h' ‹_›

/-- A loop keeps what each of its rounds keeps. -/
theorem foldl {β : Type*} (f : State → β → State) (h : ∀ (x : State) a, KeepsFurrow U S x (f x a)) (l : List β) (s : State) :
    KeepsFurrow U S s (l.foldl f s) :=
  List.foldlRecOn (motive := fun x : State => KeepsFurrow U S s x) l f (refl s) fun x hx a _ => hx.trans (h x a)

/-! ### What lies outside Furrow -/

theorem of_regs (hfur : U t.fur = U s.fur) (hnow : t.now = s.now) (hresp : t.resp = s.resp)
    (hreg : ∀ k, k / 0x1000 = 0xA → t.reg k = s.reg k) : KeepsFurrow U S s t :=
  ⟨hfur, hnow, hresp, fun k hk _ => hreg k hk, fun h => (State.rd_congr (hreg _ rfl)).trans h⟩

theorem of_affects {T : Set Nat} (h : AffectsOnly T s t) (hT : ∀ k ∈ T, k / 0x1000 ≠ 0xA) : KeepsFurrow U S s t :=
  of_regs (h.part (fun x => U x.fur) fun _ _ => rfl) (h.part (fun x => x.now) fun _ _ => rfl) (h.part (fun x => x.resp) fun _ _ => rfl)
    fun k hk => h.reg k (notEntry (by omega)) fun hkT => hT k hkT hk

theorem of_affectsNone (h : AffectsOnly ∅ s t) : KeepsFurrow U S s t := of_affects h fun k hk => absurd hk (Set.notMem_empty k)

theorem of_drives {C : Set Nat} (h : DrivesTo C s t) : KeepsFurrow U S s t := by
  refine of_regs (h.part (fun x => U x.fur) fun _ _ => rfl) (h.part (fun x => x.now) fun _ _ => rfl) (h.part (fun x => x.resp) fun _ _ => rfl)
    fun k hk => h.reg k (notEntry (by omega)) ?_
  simp only [driveRegs, Set.mem_ofPred_eq, Reg.VLV_STAT, Reg.VLV_CONFCNT, Reg.VLV_BANKk_STAT, Reg.VLV_CHn_STAT, not_or, not_exists]
  exact ⟨by omega, by omega, fun b => by omega, fun m hm => by omega⟩

theorem of_switch {C : Set Nat} (h : SwitchTo C s t) : KeepsFurrow U S s t := by
  refine of_regs (h.part (fun x => U x.fur) fun _ _ _ => rfl) (h.part (fun x => x.now) fun _ _ _ => rfl) (h.part (fun x => x.resp) fun _ _ _ => rfl)
    fun k hk => h.reg k ?_
  simp only [switchRegs, Set.mem_ofPred_eq, Reg.LSW_CONFCNT, Reg.LSW_GRPg_STAT, Reg.LSW_CHn_STAT, Reg.LSW_OLMAP_LO, not_or, not_exists]
  refine ⟨by omega, fun g => by omega, fun m ⟨hm, e⟩ => ?_⟩
  obtain e | e := e <;> omega

theorem wr (s : State) {f : Fld} (v : Nat) (h : f.addr / 0x1000 ≠ 0xA) : KeepsFurrow U S s (s.wr f v) :=
  of_regs rfl rfl rfl fun _ hk => s.reg_wr_other v fun e => h (e ▸ hk)

theorem flag (s : State) {stat : Fld} (ie : Fld) (h : stat.addr / 0x1000 ≠ 0xA) : KeepsFurrow U S s (s.flag stat ie) :=
  (wr s 1 h).trans (of_affectsNone (.notify _ _ _))

theorem tickFree (s : State) : KeepsFurrow U S s s.tickFree := of_affectsNone (.tickFree s)
theorem complete (s : State) (q : Nat) (d : Desc) (r : Result) : KeepsFurrow U S s (s.complete q d r) := of_affectsNone (.complete _ _ _ _)
theorem put (s : State) (a : Nat) (b : Bytes) : KeepsFurrow U S s (s.put a b) := of_affectsNone (.put _ _ _)
theorem record (s : State) (src ev sev p0 p1 p2 : Nat) : KeepsFurrow U S s (s.record src ev sev p0 p1 p2) := of_affectsNone (.record _ _ _ _ _ _ _)
theorem eventEntry (s : State) (q op tag estat : Nat) (result : Bytes) (ip : Bool) : KeepsFurrow U S s (s.eventEntry q op tag estat result ip).1 :=
  of_affectsNone (.eventEntry _ _ _ _ _ _ _)

theorem withUpd (s : State) (x : Upd) : KeepsFurrow U S s { s with upd := x } := of_regs rfl rfl rfl fun _ _ => rfl
theorem withCan (s : State) (x : Cans) : KeepsFurrow U S s { s with can := x } := of_regs rfl rfl rfl fun _ _ => rfl
theorem withEth (s : State) (x : Eth) : KeepsFurrow U S s { s with eth := x } := of_regs rfl rfl rfl fun _ _ => rfl

/-! ### Registers of block FUR -/

theorem setFur (s : State) (f : Furrow) (h : U f = U s.fur) : KeepsFurrow U S s (s.setFur f) := of_regs h rfl rfl fun _ _ => rfl

theorem wrFur (s : State) {f : Fld} (v : Nat) (h : f.addr ∈ S) (hstat : f.addr ≠ Reg.FUR_STAT) : KeepsFurrow U S s (s.wr f v) :=
  ⟨rfl, rfl, rfl, fun _ _ hS => s.reg_wr_other v fun e => hS (e ▸ h), fun hf => (s.rd_wr_other v (Ne.symm hstat)).trans hf⟩

theorem flagFur (s : State) {stat : Fld} (ie : Fld) (h : Reg.FUR_STAT ∈ S) (haddr : stat.addr = Reg.FUR_STAT) (hstat : stat.furStat) :
    KeepsFurrow U S s (s.flag stat ie) := by
  have hwr : KeepsFurrow U S s (s.wr stat 1) := by
    refine ⟨rfl, rfl, rfl, fun k _ hS => s.reg_wr_other 1 fun e => hS ?_, fun hf => ?_⟩
    · rw [e, haddr]
      exact h
    · obtain hap | rfl := hstat
      · exact (s.rd_wr_apart 1 hap).trans hf
      · exact s.rd_wr_fits (by decide) (by decide)
  exact hwr.trans (of_affectsNone (.notify _ _ _))

theorem furEvent (s : State) (tag cause place remain x : Nat) (rec : Option Nat) : KeepsFurrow U S s (s.furEvent tag cause place remain x rec) := by
  have hentries (r : Bytes) : KeepsFurrow U S s (((s.eventEntry 28 0x80 tag 0 r true).1).eventEntry 29 0x80 tag 0 r true).1 :=
    (eventEntry _ _ _ _ _ _ _).trans (eventEntry _ _ _ _ _ _ _)
  cases rec with
  | none => exact hentries _
  | some sev => exact (hentries _).trans (record _ _ _ _ _ _ _)

/-! ### Valve channels and load switches (R310, R333) -/

theorem vSet (s : State) (n b : Nat) (v : Bool) : KeepsFurrow U S s (s.vSet n b v) :=
  wr s _ (by change Reg.VLV_CHn_STAT n / 0x1000 ≠ 0xA; unfold Reg.VLV_CHn_STAT; omega)

theorem setValve (s : State) (n : Nat) (x : Valve) : KeepsFurrow U S s (s.setValve n x) := of_regs rfl rfl rfl fun _ _ => rfl

theorem valveCut (s : State) (n : Nat) : KeepsFurrow U S s (s.valveCut n) := by
  obtain ⟨-, heq⟩ | ⟨-, heq⟩ := s.valveCut_cases n <;> rw [heq]
  · exact refl s
  · exact (of_drives (s.pulseDone_drives n 4)).trans (vSet _ _ _ _)

theorem valvePermit (s : State) (n : Nat) (v : Bool) : KeepsFurrow U S s (s.valvePermit n v) :=
  ite _ (fun _ => refl s) fun _ => ite _ (fun _ => (vSet s n 10 v).trans (of_drives (State.valveResume_drives _ n)))
    fun _ => ((vSet s n 10 v).trans (valveCut _ n)).trans (of_drives (State.valveOff_drivesAny _ n))

theorem valveRelease (s : State) (n : Nat) (v : Bool) : KeepsFurrow U S s (s.valveRelease n v).1 := by
  have hcommand (ma : Frac) : KeepsFurrow U S s (s.valveCommand n v ma).1 := by
    unfold State.valveCommand
    extract_lets x old r
    have hr : KeepsFurrow U S s r.1 := ((setValve s n _).trans (vSet _ n _ _)).trans (of_drives (State.valveFollow_drives _ n))
    split
    · exact hr
    · exact (hr.trans (setValve r.1 n _)).trans (vSet _ n _ _)
  unfold State.valveRelease
  split
  · exact refl s
  · exact hcommand _

theorem lSet (s : State) (n b : Nat) (v : Bool) : KeepsFurrow U S s (s.lSet n b v) :=
  wr s _ (by change Reg.LSW_CHn_STAT n / 0x1000 ≠ 0xA; unfold Reg.LSW_CHn_STAT; omega)

theorem lswPermit (s : State) (n : Nat) (v : Bool) : KeepsFurrow U S s (s.lswPermit n v) :=
  ite _ (fun _ => refl s) fun _ => (lSet s n 2 v).trans (of_switch (State.lswFollow_switches _ n))

theorem lswCommand (s : State) (n : Nat) (on : Bool) (duty : Frac) : KeepsFurrow U S s (s.lswCommand n on duty) := by
  unfold State.lswCommand
  extract_lets x y
  have hset : KeepsFurrow U S s (s.setSw n y) := of_regs rfl rfl rfl fun _ _ => rfl
  exact (hset.trans (lSet _ n 1 on)).trans (of_switch (State.lswFollow_switches _ n))

theorem lswRefused (s : State) : KeepsFurrow U S s s.lswRefused := wr s _ (by decide)

theorem lswRelease (s : State) (n : Nat) (v : Bool) (duty : Option Frac) : KeepsFurrow U S s (s.lswRelease n v duty).1 := by
  unfold State.lswRelease
  split
  · exact lswRefused s
  · exact lswCommand s n v _

end State.KeepsFurrow

end Sys2Proof.Machine
end

section
/-! SUPPORT. A release of Furrow, and what the update engine is told of a program, leave Furrow itself alone (R274, R283, R284, R533, R540). -/

namespace Sys2Proof.Machine

namespace State.KeepsFurrow

variable {α : Type*} {U : Furrow → α} {S : Set Nat}

/-! ### Frames of the CAN controllers and of the Ethernet switch (R364, R381) -/

theorem setCtl (s : State) (c : Nat) (x : Can) : KeepsFurrow U S s (s.setCtl c x) :=
  (withCan s _).trans (wr _ _ (by change Reg.CAN_CHc_TXPEND c / 0x1000 ≠ 0xA; unfold Reg.CAN_CHc_TXPEND; omega))

theorem canPoison (s : State) : KeepsFurrow U S s s.canPoison := (wr s _ (by decide)).trans (flag _ _ (by decide))

theorem pendBuffer (s : State) (c b : Nat) (f : TxFrame) : KeepsFurrow U S s (s.pendBuffer c b f) := by
  unfold State.pendBuffer
  split
  · exact (setCtl s c _).trans (wr _ _ (by change Reg.CAN_CHc_TXPEND c / 0x1000 ≠ 0xA; unfold Reg.CAN_CHc_TXPEND; omega))
  · exact setCtl s c _

theorem canRelease (s : State) (c b : Nat) (fields : List Overlay) : KeepsFurrow U S s (s.canRelease c b fields).1 := by
  unfold State.canRelease
  extract_lets a id dlc fl div data x n t due y u
  have ht : KeepsFurrow U S s t := setCtl s c _
  split
  · exact refl s
  · split
    · exact canPoison s
    · split
      · exact refl s
      · split
        · exact ht
        · exact (ht.trans (setCtl t c _)).trans (pendBuffer _ c b _)

theorem incEth (s : State) {f : Fld} (h : f.addr / 0x1000 ≠ 0xA) : KeepsFurrow U S s (s.inc f) := wr s _ h

theorem ethPort {k p r : Nat} (h : k = 0x15100 + 0x40 * p + r) : k / 0x1000 ≠ 0xA := by omega

theorem frameSent (s : State) (e : EgFrame) (t : Nat) : KeepsFurrow U S s (s.frameSent e t) := by
  have hinc : KeepsFurrow U S s (s.inc (F.ETH_Pp_TXFR_CNT e.port)) :=
    wr s _ (by change Reg.ETH_Pp_TXFR e.port / 0x1000 ≠ 0xA; unfold Reg.ETH_Pp_TXFR; omega)
  unfold State.frameSent
  dsimp only
  split
  · exact hinc.trans (complete _ _ _ _)
  · exact hinc

theorem ethDrop (s : State) (p : Nat) : KeepsFurrow U S s (s.ethDrop p) := by
  have hinc : KeepsFurrow U S s (if p < ethPorts then s.inc (F.ETH_Pp_DROP_CNT p) else s) :=
    ite _ (fun _ => wr s _ (by change Reg.ETH_Pp_DROP p / 0x1000 ≠ 0xA; unfold Reg.ETH_Pp_DROP; omega)) fun _ => refl s
  exact hinc.trans (flag _ _ (by decide))

theorem ethBufRegs (s : State) : KeepsFurrow U S s s.ethBufRegs := (wr s _ (by decide)).trans (wr _ _ (by decide))

theorem egress (s : State) (src : Nat) (e : EgFrame) : KeepsFurrow U S s (s.egress src e) := by
  refine ite _ (fun _ => frameSent s e _) fun _ => ite _ (fun _ => ?_) fun _ => ?_
  · dsimp only
    split
    · exact (ethDrop s src).trans (complete _ _ _ _)
    · exact ethDrop s src
  · refine (withEth s _).trans ((ite _ (fun _ => ?_) fun _ => refl _).trans (ethBufRegs _))
    exact wr _ _ (by change Reg.ETH_Pp_HOLD e.port / 0x1000 ≠ 0xA; unfold Reg.ETH_Pp_HOLD; omega)

theorem rioRelease (s : State) (n : Nat) (fields : List Overlay) : KeepsFurrow U S s (s.rioRelease n fields).1 := by
  have hinc (x : State) {f : Fld} (h : f.addr = Reg.ETH_RIOs_STAT n) : KeepsFurrow U S x (x.inc f) :=
    wr x _ (by rw [h]; unfold Reg.ETH_RIOs_STAT; omega)
  unfold State.rioRelease
  split
  · exact refl s
  · dsimp only
    refine (trans ?_ (hinc _ rfl)).trans (egress _ _ _)
    split
    · exact (withEth s _).trans (hinc _ rfl)
    · exact refl s

/-! ### A release (R274, R283, R284, R308) -/

end State.KeepsFurrow

/-- The registers of block FUR in which a release shows refused entries, poison and the watched values. -/
def releaseRegs : Set Nat := {k | k = Reg.FUR_STAT ∨ (∃ i, k = Reg.FUR_OUTREJn 0 + 4 * (i / 32 % 4)) ∨ ∃ n, k = Reg.FUR_WATCHn_VAL n}

theorem notReleased {k : Nat} (h : k < 0xA100) (hstat : k ≠ Reg.FUR_STAT) : k ∉ releaseRegs := by
  simp only [releaseRegs, Set.mem_ofPred_eq, Reg.FUR_OUTREJn, Reg.FUR_WATCHn_VAL, not_or, not_exists]
  exact ⟨hstat, fun i => by omega, fun n => by omega⟩

namespace State.KeepsFurrow

variable {α : Type*} {U : Furrow → α}

theorem outRefused (s : State) (i : Nat) : KeepsFurrow U releaseRegs s (s.outRefused i) := by
  unfold State.outRefused
  extract_lets told t
  have ht : KeepsFurrow U releaseRegs s t := by
    refine trans (t := s.mapBit (Reg.FUR_OUTREJn 0) i true) ?_ (flagFur _ _ (.inl rfl) rfl (.inl rfl))
    refine wrFur s (f := ⟨Reg.FUR_OUTREJn 0 + 4 * (i / 32 % 4), i % 32, i % 32⟩) _ (.inr (.inl ⟨i, rfl⟩)) ?_
    change Reg.FUR_OUTREJn 0 + 4 * (i / 32 % 4) ≠ Reg.FUR_STAT
    unfold Reg.FUR_OUTREJn Reg.FUR_STAT
    omega
  exact ite _ (fun _ => ht) fun _ => ht.trans (furEvent t _ _ _ _ _ _)

theorem outHand (s : State) (safe : Bool) (p : Prog) (e : MapEntry) : KeepsFurrow U releaseRegs s (s.outHand safe p e).1 := by
  unfold State.outHand
  dsimp only
  split
  · split
    · exact valvePermit s _ _
    · exact refl s
  · exact valveRelease s _ _
  · split
    · exact lswPermit s _ _
    · exact refl s
  · exact lswRelease s _ _ _
  · split
    · exact lswRefused s
    · split
      · exact refl s
      · exact lswCommand s _ _ _
  · exact refl s

theorem outAll (s : State) (safe : Bool) (p : Prog) (l : List (MapEntry × Nat)) : KeepsFurrow U releaseRegs s (s.outAll safe p l) :=
  foldl _ (fun x e => ite _ (fun _ => outHand x safe p e.1) fun _ => (outHand x safe p e.1).trans (outRefused _ _)) l s

theorem outFrames (s : State) (safe : Bool) (p : Prog) (kind : Nat) : KeepsFurrow U releaseRegs s (s.outFrames safe p kind) := by
  refine foldl _ (fun x i => ?_) _ s
  extract_lets g fs r
  have hr : KeepsFurrow U releaseRegs x r.1 := by
    change KeepsFurrow U releaseRegs x (if kind = 6 then x.canRelease (i / 4096) (i % 4096) fs else x.rioRelease i fs).1
    split
    · exact canRelease x _ _ _
    · exact rioRelease x _ _
  clear_value r
  split
  · exact hr
  · refine hr.trans ?_
    generalize r.1 = y
    exact foldl (fun (y : State) (e : MapEntry × Nat) => y.outRefused e.2) (fun y e => outRefused y e.2) g y

theorem watches (s : State) : KeepsFurrow U releaseRegs s s.watches := by
  refine foldl _ (fun x n => ite _ (fun _ => ?_) fun _ => refl x) _ s
  refine wrFur x _ (.inr (.inr ⟨n, rfl⟩)) ?_
  change Reg.FUR_WATCHn_VAL n ≠ Reg.FUR_STAT
  unfold Reg.FUR_WATCHn_VAL Reg.FUR_STAT
  omega

theorem furRelease (s : State) (safe : Bool) : KeepsFurrow U releaseRegs s (s.furRelease safe) := by
  unfold State.furRelease
  split
  · exact refl s
  · next p _ =>
    extract_lets t sw u v
    have ht : KeepsFurrow U releaseRegs s t := outAll s safe p _
    have hu : KeepsFurrow U releaseRegs t u := foldl _ (fun x n => outAll x safe p _) _ t
    have hv : KeepsFurrow U releaseRegs u v := (outFrames u safe p 6).trans (outFrames _ safe p 7)
    exact (((ht.trans hu).trans hv).trans (watches v)).trans (tickFree _)

theorem freePermits {S : Set Nat} (s : State) (old new : Prog) : KeepsFurrow U S s (s.freePermits old new) := by
  unfold State.freePermits
  extract_lets t
  have ht : KeepsFurrow U S s t := foldl _ (fun x n => valvePermit x n true) _ s
  exact ht.trans (foldl _ (fun x n => lswPermit x n true) _ t)

end State.KeepsFurrow

end Sys2Proof.Machine
end

section
/-! SUPPORT. What the update engine changes (R522-R544): its own part of the state, the registers of block UPD, and what side effects change. -/

namespace Sys2Proof.Machine

/-- `t` differs from `s` by what belongs to the update engine, and by side effects. -/
structure State.UpdatesTo (s t : State) : Prop where
  eq : t = { s.withEffectsOf t with upd := t.upd }
  reg : ∀ k, ¬ entryBlock (k / 0x1000) → k / 0x1000 ≠ 5 → t.reg k = s.reg k

namespace State.UpdatesTo

variable {s t u : State}

theorem refl (s : State) : UpdatesTo s s := ⟨rfl, fun _ _ _ => rfl⟩

theorem trans (h : UpdatesTo s t) (h' : UpdatesTo t u) : UpdatesTo s u :=
  ⟨h'.eq.trans ((congrArg (fun x : State => ({ x.withEffectsOf u with upd := u.upd } : State)) h.eq).trans rfl),
    fun k hk h5 => (h'.reg k hk h5).trans (h.reg k hk h5)⟩

theorem part {α : Sort*} (h : UpdatesTo s t) (U : State → α) (hU : ∀ (x y : State) z, U { x.withEffectsOf y with upd := z } = U x) : U t = U s :=
  (congrArg U h.eq).trans (hU s t t.upd)

theorem rd (h : UpdatesTo s t) {f : Fld} (hf : ¬ entryBlock (f.addr / 0x1000)) (h5 : f.addr / 0x1000 ≠ 5) : t.rd f = s.rd f :=
  State.rd_congr (h.reg _ hf h5)

theorem ite (c : Prop) [Decidable c] (h : c → UpdatesTo s t) (h' : ¬ c → UpdatesTo s u) : UpdatesTo s (if c then t else u) := by
  split
  · exact h ‹_›
  · exact h' ‹_›

theorem foldl {α : Type*} (f : State → α → State) (l : List α) (h : ∀ (x : State) a, a ∈ l → UpdatesTo x (f x a)) (s : State) :
    UpdatesTo s (l.foldl f s) :=
  List.foldlRecOn (motive := fun x : State => UpdatesTo s x) l f (refl s) fun x hx a ha => hx.trans (h x a ha)

theorem of_affects {T : Set Nat} (h : AffectsOnly T s t) (hT : ∀ k ∈ T, k / 0x1000 = 5) : UpdatesTo s t :=
  ⟨h.eq.trans (by rw [h.eq]; rfl), fun k hk h5 => h.reg k hk fun hkT => h5 (hT k hkT)⟩

theorem of_affectsNone (h : AffectsOnly ∅ s t) : UpdatesTo s t := of_affects h fun k hk => absurd hk (Set.notMem_empty k)

theorem withUpd (s : State) (x : Upd) : UpdatesTo s { s with upd := x } := ⟨rfl, fun _ _ _ => rfl⟩

theorem wr (s : State) {f : Fld} (v : Nat) (h : f.addr / 0x1000 = 5) : UpdatesTo s (s.wr f v) :=
  of_affects (.wr (S := {k | k / 0x1000 = 5}) s v (.inl h)) fun _ hk => hk

theorem inc (s : State) {f : Fld} (h : f.addr / 0x1000 = 5) : UpdatesTo s (s.inc f) := wr s _ h

theorem flag (s : State) {stat : Fld} (ie : Fld) (h : stat.addr / 0x1000 = 5) : UpdatesTo s (s.flag stat ie) :=
  of_affects (.flag (S := {k | k / 0x1000 = 5}) s ie (.inl h)) fun _ hk => hk

theorem complete (s : State) (q : Nat) (d : Desc) (r : Result) : UpdatesTo s (s.complete q d r) := of_affectsNone (.complete _ _ _ _)

theorem tokGive (s : State) (c : Nat) : UpdatesTo s (s.tokGive c) := of_affectsNone (.tokGive _ _)

theorem updEvent (s : State) (tag u slot ver old : Nat) (rec : Option Nat) : UpdatesTo s (s.updEvent tag u slot ver old rec) := by
  have hentry (r : Bytes) : UpdatesTo s (s.eventEntry 65 0x80 tag 0 r true).1 := of_affectsNone (.eventEntry _ _ _ _ _ _ _)
  cases rec with
  | none => exact hentry _
  | some sev => exact (hentry _).trans (of_affectsNone (.record _ _ _ _ _ _ _))

/-! ### Slots and their registers -/

theorem setSlot (s : State) (u k : Nat) (x : Slot) : UpdatesTo s (s.setSlot u k x) := withUpd s _
theorem setAct (s : State) (u k : Nat) : UpdatesTo s (s.setAct u k) := withUpd s _
theorem setRun (s : State) (r : UpdRun) : UpdatesTo s (s.setRun r) := withUpd s _
theorem offProbation (s : State) (u : Nat) : UpdatesTo s (s.offProbation u) := withUpd s _

/-- A register of a unit lies in block UPD. -/
theorem unitBlock {k u r : Nat} (h : k = 0x5100 + r + 0x20 * (u % 9)) (hr : r < 0x20) : k / 0x1000 = 5 := by omega

theorem wrUnit (s : State) (u r : Nat) {f : Fld} (v : Nat) (h : f.addr = 0x5100 + r + 0x20 * (u % 9)) (hr : r < 0x20) : UpdatesTo s (s.wr f v) :=
  wr s v (unitBlock h hr)

theorem unitRegs (s : State) (u : Nat) : UpdatesTo s (s.unitRegs u) := by
  have hcfg (x : State) : UpdatesTo x (if u ≤ 5 then match s.cfgFor u (s.runCfgver u) with
      | some k => (x.wrSat (F.UPD_Uu_CFG_CFGVER u) (s.cfgRec u k).cfgver).wr (F.UPD_Uu_CFG_SEQ u) (s.cfgRec u k).seq
      | none => x.wr (F.UPD_Uu_CFG_CFGVER u) 0 |>.wr (F.UPD_Uu_CFG_SEQ u) 0
      else x) := by
    refine ite _ (fun _ => ?_) fun _ => refl x
    split <;> exact (wrUnit x u 0x18 _ rfl (by decide)).trans (wrUnit _ u 0x18 _ rfl (by decide))
  have hprob (x : State) : UpdatesTo x (match s.probation u with
      | some p => x.wrSat (F.UPD_Uu_PROB_MS u) ((p.1 + p.2 - s.now) / 1000000)
      | none => x.wr (F.UPD_Uu_PROB_MS u) 0) := by
    split <;> exact wrUnit x u 0x10 _ rfl (by decide)
  have hstat (x : State) {f : Fld} (v : Nat) (h : f.addr = Reg.UPD_Uu_STAT u) : UpdatesTo x (x.wr f v) := wrUnit x u 0 v h (by decide)
  unfold State.unitRegs
  extract_lets a b c d e
  have ha : UpdatesTo s a := ((hstat s _ rfl).trans (hstat _ _ rfl)).trans (hstat _ _ rfl)
  have hb : UpdatesTo a b := (hstat a _ rfl).trans (wrUnit _ u 4 _ rfl (by decide))
  have hc : UpdatesTo b c := (wrUnit b u 8 _ rfl (by decide)).trans (wrUnit _ u 0x14 _ rfl (by decide))
  have hd : UpdatesTo c d := wrUnit c u 0x1C _ rfl (by decide)
  exact (((ha.trans hb).trans hc).trans hd).trans ((hprob d).trans (hcfg e))

theorem updRegs (s : State) : UpdatesTo s s.updRegs := by
  unfold State.updRegs
  extract_lets t used cfg table a b on was c
  have ht : UpdatesTo s t := foldl _ _ (fun x u _ => unitRegs x u) s
  have ha : UpdatesTo t a := (wr t _ rfl).trans (wr _ _ rfl)
  have hb : UpdatesTo a b := (wr a _ rfl).trans (wr _ _ rfl)
  have hc : UpdatesTo b c := wr b _ rfl
  have h := ((ht.trans ha).trans hb).trans hc
  exact ite _ (fun _ => h.trans (of_affectsNone (.irqBoth c _))) fun _ => h

theorem itemState (s : State) (k st status : Nat) : UpdatesTo s (s.itemState k st status) := by
  have hitem (x : State) {f : Fld} (v : Nat) (h : f.addr = Reg.UPD_ITEMk k) : UpdatesTo x (x.wr f v) :=
    wr x v (by rw [h]; unfold Reg.UPD_ITEMk; omega)
  exact (hitem s _ rfl).trans (hitem _ _ rfl)

/-! ### Starts, fall-backs and the end of a package -/

end State.UpdatesTo

/-- A probation begun. -/
def State.onProbation (s : State) (u w : Nat) : State := { s with upd := { s.upd with prob := s.upd.prob ++ [(u, s.now, w)] } }

/-- The default window of a unit's probation in s. -/
def probWindow (u win : Nat) : Nat := (if win = 0 then [600, 600, 60, 120, 300, 60, 0, 0, 60].getD u 60 else win) * 1000000000

/-- The slot of a unit that does not run, taken on probation. -/
def State.tried (s : State) (u : Nat) : State :=
  (s.setSlot u (1 - s.slotAct u) { s.slot u (1 - s.slotAct u) with st := 2 }).setAct u (1 - s.slotAct u)

theorem State.startNew_eq (s : State) (u win : Nat) : s.startNew u win =
    ((((s.tried u).onProbation u (probWindow u win)).updRegs).updEvent 1 u (1 - s.slotAct u) (s.slot u (1 - s.slotAct u)).ver 0 none) := by
  unfold State.startNew State.tried State.onProbation probWindow
  rfl

/-- The slot a unit falls back to. -/
def State.fellTo (s : State) (u : Nat) : Nat := if (s.slot u (1 - s.slotAct u)).st = 3 then 1 - s.slotAct u else s.slotAct u

/-- The slot that a unit ran, failed. -/
def State.failed (s : State) (u : Nat) : State :=
  ((s.setSlot u (s.slotAct u) { s.slot u (s.slotAct u) with st := 4 }).setAct u (s.fellTo u)).offProbation u

/-- A fall-back of a unit counted. -/
def State.fallCounted (s : State) (u : Nat) : State :=
  { s with upd := { s.upd with falls := SMap.set (fun _ => 0) s.upd.falls u (satAdd 32 (SMap.get (fun _ => 0) s.upd.falls u) 1) } }

theorem State.fellMark_eq (s : State) (u : Nat) : s.fellMark u = ((((((s.failed u).fallCounted u).updRegs).inc F.UPD_FALLCNT_CNT).flag
    F.UPD_STAT_FELLBACK F.UPD_CTL_IE_FALL).updEvent 3 u (s.slotAct u) (s.slot u (s.slotAct u)).ver 0 (some sevWarning)) := by
  unfold State.fellMark State.failed State.fallCounted State.fellTo
  rfl

namespace State.UpdatesTo

variable {s t u : State}

theorem startNew (s : State) (u win : Nat) : UpdatesTo s (s.startNew u win) := by
  rw [State.startNew_eq]
  exact ((((setSlot s u _ _).trans (setAct _ u _)).trans (withUpd _ _)).trans (updRegs _)).trans (updEvent _ _ _ _ _ _ _)

theorem fellMark (s : State) (u : Nat) : UpdatesTo s (s.fellMark u) := by
  rw [State.fellMark_eq]
  have hfailed : UpdatesTo s (s.failed u) := ((setSlot s u _ _).trans (setAct _ u _)).trans (offProbation _ u)
  have hcounted : UpdatesTo s ((s.failed u).fallCounted u) := hfailed.trans (withUpd _ _)
  exact (((hcounted.trans (updRegs _)).trans (inc _ rfl)).trans (flag _ _ rfl)).trans (updEvent _ _ _ _ _ _ _)

theorem endApply (s : State) (st unit : Nat) : UpdatesTo s (s.endApply st unit) := by
  have hstat (x : State) : UpdatesTo x ((x.wr F.UPD_PKGSTAT_STATE (if st = 0 then 4 else 5)).wr F.UPD_PKGSTAT_STATUS st) :=
    (wr x _ rfl).trans (wr _ _ rfl)
  have htold (x : State) (item : Nat) : UpdatesTo x (if st = 0 then (x.inc F.UPD_ACCCNT_CNT).flag F.UPD_STAT_DONE F.UPD_CTL_IE_DONE
      else (((x.inc F.UPD_REJCNT_CNT).wr F.UPD_LASTERR_UNIT unit).wr F.UPD_LASTERR_ITEM item).wr F.UPD_LASTERR_STATUS st) :=
    ite _ (fun _ => (inc x rfl).trans (flag _ _ rfl)) fun _ => (((inc x rfl).trans (wr _ _ rfl)).trans (wr _ _ rfl)).trans (wr _ _ rfl)
  unfold State.endApply
  split
  · exact refl s
  · dsimp only
    refine trans ?_ (foldl _ _ (fun x d _ => complete x 64 d {}) _)
    exact (((withUpd s _).trans (hstat _)).trans (htold _ _)).trans (complete _ _ _ _)

theorem tokFreed (s : State) (u : Nat) : UpdatesTo s (if s.holdsToken (updToken u) ownerUpdate then s.tokGive (updToken u) else s) :=
  ite _ (fun _ => tokGive s _) fun _ => refl s

theorem fellStop (s : State) (u : Nat) : UpdatesTo s (s.fellStop u) := by
  unfold State.fellStop
  split
  · exact refl s
  · exact ((tokFreed s u).trans (itemState _ _ _ _)).trans (endApply _ _ _)

theorem itemFail (s : State) (r : UpdRun) (u : Nat) : UpdatesTo s (s.itemFail r u) :=
  ((tokFreed s u).trans (itemState _ _ _ _)).trans (endApply _ _ _)

/-! ### Ring 30 (R540) -/

theorem updPost (s : State) (op : Nat) (payload : List (Nat × Nat × Nat)) : UpdatesTo s (s.updPost op payload).1 := by
  unfold State.updPost
  extract_lets i next ph line t
  have ht : UpdatesTo s t := of_affectsNone (.put s _ _)
  split
  · exact refl s
  · exact ht.trans (of_affectsNone (.setRing t _ _))

theorem furGive (s : State) (r : UpdRun) (stage op : Nat) (payload : List (Nat × Nat × Nat)) : UpdatesTo s (s.furGive r stage op payload) := by
  unfold State.furGive
  dsimp only
  split
  · exact (updPost s op payload).trans (withUpd _ _)
  · exact itemFail s r 8

theorem furTold (s : State) (d : Desc) (st : Nat) : UpdatesTo s (s.furTold d st) := by
  unfold State.furTold
  refine ite _ (fun _ => ?_) fun _ => refl s
  dsimp only
  refine (withUpd s { s.upd with furIdx := none }).trans ?_
  split
  · refine ite _ (fun _ => itemFail _ _ _) fun _ => ite _ (fun _ => furGive _ _ _ _ _) fun _ => ?_
    exact ((setRun _ _).trans (itemState _ _ _ _)).trans (startNew _ _ _)
  · exact refl _

theorem fellFurrow (s : State) : UpdatesTo s s.fellFurrow :=
  ((fellMark s 8).trans (updPost _ _ _)).trans (fellStop _ 8)

end State.UpdatesTo

theorem State.KeepsFurrow.of_updates {α : Type*} {U : Furrow → α} {S : Set Nat} {s t : State} (h : s.UpdatesTo t) : State.KeepsFurrow U S s t :=
  .of_regs (h.part (fun x => U x.fur) fun _ _ _ => rfl) (h.part (fun x => x.now) fun _ _ _ => rfl) (h.part (fun x => x.resp) fun _ _ _ => rfl)
    fun k hk => h.reg k (notEntry (by omega)) (by omega)

end Sys2Proof.Machine
end

section
/-! SUPPORT. What Furrow's changes and reads, a HALT and an abort leave alone (R296-R298, R306), and how a scan goes on. -/

namespace Sys2Proof.Machine

/-! ### Changes and reads (R298, R306) -/

/-- What of Furrow neither data memory nor the lists of waiting commands hold. -/
def Furrow.course (f : Furrow) : Option Scan × Option Nat × Option Desc × Option Prog × Option Prog × Bool × Bool :=
  (f.scan, f.boundary, f.act, f.active, f.other, f.first, f.aborted)

/-- The registers that applied changes show in. -/
def idleRegs : Set Nat := {Reg.FUR_CHGCNT, Reg.FUR_STATE}

namespace State.KeepsFurrow

variable {S : Set Nat}

theorem setFlag (s : State) (i : Nat) (v : Bool) : KeepsFurrow Furrow.course S s (s.setFlag i v) := by
  unfold State.setFlag
  extract_lets f t
  have ht : KeepsFurrow Furrow.course S s t := ite _ (fun _ => of_regs rfl rfl rfl fun _ _ => rfl) fun _ => refl s
  exact ht.trans (setFur t _ rfl)

theorem setWord (s : State) (i : Nat) (v : Int) : KeepsFurrow Furrow.course S s (s.setWord i v) := of_regs rfl rfl rfl fun _ _ => rfl

theorem applyChange (s : State) (q : Nat) (d : Desc) : KeepsFurrow Furrow.course {Reg.FUR_CHGCNT} s (s.applyChange q d) := by
  unfold State.applyChange
  extract_lets i t
  have ht : KeepsFurrow Furrow.course {Reg.FUR_CHGCNT} s t := ite _ (fun _ => setFlag s _ _) fun _ => setWord s _ _
  exact (ht.trans (wrFur t _ (Set.mem_singleton _) (by decide))).trans (complete _ _ _ _)

theorem chgReg {α : Type*} {U : Furrow → α} (s : State) : KeepsFurrow U idleRegs s s.chgReg := wrFur s _ (.inr rfl) (by decide)

/-- The changes waiting at the head of their list, applied. -/
theorem changesApplied (s : State) (l : List (Nat × Desc)) :
    KeepsFurrow Furrow.course {Reg.FUR_CHGCNT} s (l.foldl (fun x c => x.applyChange c.1 c.2) s) := foldl _ (fun x c => applyChange x c.1 c.2) l s

theorem applyChanges (s : State) (n : Nat) : KeepsFurrow Furrow.course idleRegs s (s.applyChanges n) := by
  unfold State.applyChanges
  extract_lets l f t
  have ht : KeepsFurrow Furrow.course idleRegs s t := setFur s _ rfl
  exact (ht.trans ((changesApplied t l).mono (Set.singleton_subset_iff.mpr (.inl rfl)))).trans (chgReg _)

/-- A read changes nothing of Furrow. -/
theorem applyRead {α : Type*} {U : Furrow → α} (s : State) (q : Nat) (d : Desc) : KeepsFurrow U S s (s.applyRead q d) :=
  ((put s _ _).trans (tickFree _)).trans (complete _ _ _ _)

theorem applyReads {α : Type*} {U : Furrow → α} (s : State) (h : U { s.fur with reads := [] } = U s.fur) : KeepsFurrow U S s s.applyReads :=
  (setFur s _ h).trans (foldl (fun (x : State) (c : Nat × Desc) => x.applyRead c.1 c.2) (fun x c => applyRead x c.1 c.2) s.fur.reads _)

theorem furIdle (s : State) : KeepsFurrow Furrow.course idleRegs s s.furIdle := (applyChanges s _).trans (applyReads _ rfl)

end State.KeepsFurrow

/-- Applied changes leave a field of FUR_STATE beside CHGPEND alone. -/
theorem State.applyChanges_state (s : State) (n : Nat) {f : Fld} (h : F.FUR_STATE_CHGPEND.apart f = true) (haddr : f.addr = Reg.FUR_STATE) :
    (s.applyChanges n).rd f = s.rd f := by
  unfold State.applyChanges
  extract_lets l f t
  refine (State.rd_wr_apart _ _ h).trans (((State.KeepsFurrow.changesApplied t l).rd ?_ ?_).trans rfl)
  · rw [haddr]
    decide
  · rw [haddr]
    decide

theorem State.furIdle_state (s : State) {f : Fld} (h : F.FUR_STATE_CHGPEND.apart f = true) (haddr : f.addr = Reg.FUR_STATE) :
    s.furIdle.rd f = s.rd f := by
  refine ((State.KeepsFurrow.applyReads (U := Furrow.course) (S := ∅) _ rfl).rd ?_ (Set.notMem_empty _)).trans (s.applyChanges_state _ h haddr)
  rw [haddr]
  rfl

/-! ### HALT and abort (R296, R297) -/

namespace State.KeepsFurrow

theorem fellFurrow {α : Type*} {U : Furrow → α} {S : Set Nat} (s : State) : KeepsFurrow U S s s.fellFurrow := of_updates (.fellFurrow s)

/-- What is told of a HALT, the commands waiting, and the fall-back of a program on probation. -/
theorem halted (s : State) : KeepsFurrow Furrow.course Set.univ s
    (((s.flag F.FUR_STAT_HALT F.FUR_CTL_IE_HALT).furEvent 3 0 0 0 0 (some sevFault)).furIdle) :=
  ((flagFur s _ (Set.mem_univ _) rfl (.inl rfl)).trans (furEvent _ _ _ _ _ _ _)).trans ((furIdle _).mono (Set.subset_univ _))

end State.KeepsFurrow

/-- A HALT leaves no scan. -/
theorem State.furHalt_scan (s : State) : s.furHalt.fur.scan = none := by
  have hcourse (x y : State) (h : State.KeepsFurrow Furrow.course Set.univ x y) : y.fur.scan = x.fur.scan := congrArg Prod.fst h.fur
  unfold State.furHalt
  extract_lets f t u
  have ht : t.fur.scan = none := hcourse _ _ ((State.KeepsFurrow.furRelease _ true).mono (Set.subset_univ _))
  have hu : u.fur.scan = none := (hcourse _ _ (.halted t)).trans ht
  split
  · exact (hcourse _ _ (.fellFurrow u)).trans hu
  · exact hu

/-- An abort leaves no scan. -/
theorem State.furAbort_scan (s : State) (sc : Scan) (cause addr : Nat) : (s.furAbort sc cause addr).fur.scan = none := by
  have hwr (x : State) {f : Fld} (v : Nat) : (x.wr f v).fur = x.fur := rfl
  have hflag (x : State) (stat ie : Fld) : (x.flag stat ie).fur.scan = x.fur.scan := (State.EntersTo.notify (x.wr stat 1) stat ie).fur ▸ rfl
  have hevent (x : State) (a b c d e : Nat) (r : Option Nat) : (x.furEvent a b c d e r).fur.scan = x.fur.scan :=
    congrArg Furrow.scan (State.SparesFurrow.furEvent (S := ∅) x a b c d e r).fur
  have hparity (x : State) : ((((x.wr F.FUR_STAT_PMERR 1).wr F.FUR_PMERR_ADDR addr).record 0x0A 0x40 sevFault addr 0 0).triggerTest
      (0x42000000 + addr)).fur.scan = x.fur.scan :=
    ((State.AffectsOnly.record (S := ∅) _ _ _ _ _ _ _).trans (.triggerTest _ _)).part (fun y => y.fur.scan) fun _ _ => rfl
  unfold State.furAbort
  extract_lets remain f t₀ t₁ t₂ t₃ t₄ t₅
  have ht₁ : t₂.fur.scan = none := hflag t₁ _ _
  have ht₂ : t₃.fur.scan = none := by
    change (if cause = 8 then _ else t₂).fur.scan = none
    split
    · exact (hparity t₂).trans ht₁
    · exact ht₁
  have ht₃ : t₄.fur.scan = none := by
    change (if cause = 7 ∨ cause = 8 then t₃.furPoison else t₃).fur.scan = none
    split
    · exact (hflag _ _ _).trans ht₂
    · exact ht₂
  have ht₅ : t₅.fur.scan = none := (hevent t₄ _ _ _ _ _ _).trans ht₃
  split
  · exact t₅.furHalt_scan
  · exact ht₅

/-! ### How a scan goes on (R294, R295) -/

theorem State.scanNext_beyond_aborts {s : State} {sc : Scan} (hrep : sc.rep = none) (hnone : s.furCode sc.pc = none) :
    (s.scanNext sc).fur.scan = none ∧ (s.rd F.FUR_CTL_FAULTMAX = 0 →
      (s.scanNext sc).rd F.FUR_FAULT_CAUSE = 0xA ∧ (s.scanNext sc).rd F.FUR_STAT_FAULT = 1) := by
  rw [State.scanNext_beyond hrep hnone]
  refine ⟨s.furAbort_scan sc _ _, fun hmax => ?_⟩
  obtain ⟨remain, heq⟩ := s.furAbort_eq sc sc.pc hmax (show 0xA ≠ 7 by decide) (show 0xA ≠ 8 by decide)
  rw [heq]
  generalize ({ s with fur := { s.fur with scan := none, aborted := true, lastOvr := sc.overrun } } : State) = t
  obtain ⟨hflag, -⟩ := (t.faultTold 0xA remain sc.pc sc.x).faultCounted_shows 0xA (sc.pc % 65536) remain sc.x
  refine ⟨((t.faultTold 0xA remain sc.pc sc.x).faultCounted_spares 0xA (sc.pc % 65536) remain sc.x).rd rfl (by decide) |>.trans ?_, hflag⟩
  unfold State.faultTold
  simp (disch := decide) only [State.rd_wr_other, State.rd_wr_beside]
  exact t.rd_wr_fits (by decide) (by decide)

/-- Settles O26, by where a scan stands against the body of its REP and the end of the program. -/
theorem furrowScanAdvances : Obligations.FurrowScanAdvances := by
  unfold Obligations.FurrowScanAdvances
  intro s sc
  refine ⟨fun hplace hcode => ?_, fun r hrep hpc hmore hcode => ?_, fun r hrep hpc hlast hcode => ?_, fun hrep hnone =>
    State.scanNext_beyond_aborts hrep hnone⟩
  · have heq := Scan.passEnd_inside hplace
    rw [State.scanNext_inside (by rw [heq]; exact hcode), heq]
  · have heq := Scan.passEnd_again hrep hpc hmore
    rw [State.scanNext_inside (by rw [heq]; exact hcode), heq]
  · have heq := Scan.passEnd_last hrep hpc hlast
    rw [State.scanNext_inside (by rw [heq]; exact hcode), heq]

end Sys2Proof.Machine
end

section
/-! SUPPORT. The cycle boundaries of Furrow (R273-R277): what a boundary makes of the scan, and how the next one starts. -/

namespace Sys2Proof.Machine

/-! ### The latch of a boundary (R281, R285, R286) -/

/-- The registers that a scan's start shows itself in. -/
def latchRegs : Set Nat :=
  {k | k = Reg.FUR_STAT ∨ k = Reg.FUR_POISCNT ∨ k = Reg.FUR_CMDSRC ∨ k = Reg.FUR_CHGCNT ∨ k = Reg.FUR_STATE ∨ ∃ n, k = Reg.FUR_SUBSTMAPn n}

theorem notLatched {k : Nat} (h : k < 0xA100) (h1 : k ≠ Reg.FUR_STAT) (h2 : k ≠ Reg.FUR_POISCNT) (h3 : k ≠ Reg.FUR_CMDSRC)
    (h4 : k ≠ Reg.FUR_CHGCNT) (h5 : k ≠ Reg.FUR_STATE) : k ∉ latchRegs := by
  simp only [latchRegs, Set.mem_ofPred_eq, not_or, not_exists, Reg.FUR_SUBSTMAPn]
  exact ⟨h1, h2, h3, h4, h5, fun n => by omega⟩

namespace State.KeepsFurrow

theorem furPoison {α : Type*} {U : Furrow → α} (s : State) : KeepsFurrow U latchRegs s s.furPoison :=
  (wrFur s _ (.inr (.inl rfl)) (by decide)).trans (flagFur _ _ (.inl rfl) rfl (.inl rfl))

theorem cmdLine (s : State) (a base l : Nat) : KeepsFurrow Furrow.course latchRegs s (s.cmdLine a base l) :=
  ite _ (fun _ => furPoison s) fun _ => ite _ (fun _ => wrFur s _ (.inr (.inr (.inl rfl))) (by decide)) fun _ => ite _ (fun _ => refl s)
    fun _ => setFur s _ rfl

theorem cmdSource {α : Type*} {U : Furrow → α} (s : State) {f : Fld} (v : Nat) (h : f.addr = Reg.FUR_CMDSRC) : KeepsFurrow U latchRegs s (s.wr f v) :=
  wrFur s v (.inr (.inr (.inl h))) (by rw [h]; decide)

theorem cmdLatch (s : State) : KeepsFurrow Furrow.course latchRegs s s.cmdLatch.1 := by
  unfold State.cmdLatch
  split
  · exact refl s
  · next a _ =>
    extract_lets hand f t u en base
    have harea : KeepsFurrow Furrow.course latchRegs s (s.setFur { s.fur with area := some a }) := setFur s _ rfl
    have ht : KeepsFurrow Furrow.course latchRegs s t := harea.trans (cmdSource _ a rfl)
    have hu : KeepsFurrow Furrow.course latchRegs t u := ite _ (fun _ => cmdSource t _ rfl) fun _ => refl t
    exact (ht.trans hu).trans (ite _ (fun _ => foldl _ (fun x l => cmdLine x a base l) _ u) fun _ => refl u)

theorem latchEntry (s : State) (e : MapEntry) (i : Nat) (v : SourceVal) : KeepsFurrow Furrow.course latchRegs s (s.latchEntry e i v) := by
  unfold State.latchEntry
  extract_lets t
  have ht : KeepsFurrow Furrow.course latchRegs s t := ite _ (fun _ => furPoison s) fun _ => refl s
  clear_value t
  have hcell (n : Int) (b : Bool) : KeepsFurrow Furrow.course latchRegs t (if e.isWord then t.setWord e.cell n else t.setFlag e.cell b) :=
    ite _ (fun _ => setWord t _ _) fun _ => setFlag t _ _
  split
  · exact (ht.trans (hcell _ _)).trans (setFur _ _ rfl)
  · have hsubst (y : State) : KeepsFurrow Furrow.course latchRegs y (y.setFur { y.fur with subst := insertNat i y.fur.subst }) := setFur y _ rfl
    refine (ht.trans (hcell _ _)).trans (ite _ (fun _ => refl _) fun _ => ?_)
    exact ((hsubst _).trans (flagFur _ _ (.inl rfl) rfl (.inl rfl))).trans (furEvent _ _ _ _ _ _ _)

theorem latchAll (s : State) (p : Prog) (hand : Bool) : KeepsFurrow Furrow.course latchRegs s (s.latchAll p hand) := by
  unfold State.latchAll
  extract_lets t
  have ht : KeepsFurrow Furrow.course latchRegs s t :=
    foldl (fun (x : State) (e : MapEntry × Nat) => x.latchEntry e.1 e.2 (s.source e.1 s.now hand)) (fun x e => latchEntry x e.1 e.2 _) p.ins.zipIdx s
  refine ht.trans (foldl _ (fun x n => wrFur x _ (.inr (.inr (.inr (.inr (.inr ⟨n, rfl⟩))))) ?_) _ t)
  change Reg.FUR_SUBSTMAPn n ≠ Reg.FUR_STAT
  unfold Reg.FUR_SUBSTMAPn Reg.FUR_STAT
  omega

end State.KeepsFurrow

theorem idleRegs_latch : idleRegs ⊆ latchRegs := by
  rintro k (hk | hk)
  · exact .inr (.inr (.inr (.inl hk)))
  · exact .inr (.inr (.inr (.inr (.inl hk))))

/-! ### The start of a scan (R274) -/

theorem Furrow.course_inj {f g : Furrow} (h : f.course = g.course) : f.scan = g.scan ∧ f.boundary = g.boundary ∧ f.act = g.act ∧
    f.active = g.active ∧ f.other = g.other ∧ f.first = g.first ∧ f.aborted = g.aborted := by
  simpa only [Furrow.course, Prod.mk.injEq] using h

/-- Everything read for a scan of program `p`. -/
def State.latched (s : State) (p : Prog) : State := (s.cmdLatch.1.latchAll p s.cmdLatch.2).applyChanges 64

theorem State.latched_keeps (s : State) (p : Prog) : State.KeepsFurrow Furrow.course latchRegs s (s.latched p) :=
  ((State.KeepsFurrow.cmdLatch s).trans (.latchAll _ p _)).trans ((State.KeepsFurrow.applyChanges _ 64).mono idleRegs_latch)

/-- The timers' base of a scan. -/
def State.timerBase (t : State) : Furrow := if t.fur.timerFresh then { t.fur with timerFresh := false, timer0 := t.now } else t.fur

theorem State.timerBase_course (t : State) : t.timerBase.course = t.fur.course := by
  unfold State.timerBase
  split <;> rfl

/-- A scan that has just started, with what was latched in `t`. -/
def State.freshScan (t : State) (hand : Bool) : Scan :=
  { seq := (t.rd F.FUR_SCANSEQ_SEQ + 1) % 2 ^ 32, tlatch := t.now, started := t.now, subst := !t.timerBase.subst.isEmpty, first := t.timerBase.first,
    handover := hand, changed := t.timerBase.changed }

/-- The scan entered in Furrow's state. -/
def State.withScan (t : State) (sc : Scan) : State := t.setFur { t.timerBase with scan := some sc, first := false, changed := false }

theorem State.scanStart_eq {s : State} {p : Prog} (hp : s.fur.active = some p) : s.scanStart =
    ((s.latched p).withScan ((s.latched p).freshScan s.cmdLatch.2)).wr F.FUR_SCANSEQ_SEQ (((s.latched p).rd F.FUR_SCANSEQ_SEQ + 1) % 2 ^ 32) := by
  unfold State.scanStart
  rw [hp]
  rfl

/-- What a started scan shows. -/
structure State.ScanBegun (s t : State) : Prop where
  scan : ∃ sc, t.fur.scan = some sc ∧ sc.seq = (s.rd F.FUR_SCANSEQ_SEQ + 1) % 2 ^ 32 ∧ sc.tlatch = s.now ∧ sc.first = s.fur.first ∧
    (sc.pc, sc.a, sc.x, sc.stack) = (0, false, 0, []) ∧ (sc.overrun, sc.ended) = (false, none)
  seq : t.rd F.FUR_SCANSEQ_SEQ = (s.rd F.FUR_SCANSEQ_SEQ + 1) % 2 ^ 32
  first : t.fur.first = false
  boundary : t.fur.boundary = s.fur.boundary
  aborted : t.fur.aborted = s.fur.aborted
  cause : t.rd F.FUR_FAULT_CAUSE = s.rd F.FUR_FAULT_CAUSE
  fault : s.rd F.FUR_STAT_FAULT = 1 → t.rd F.FUR_STAT_FAULT = 1

theorem State.scanStart_begins {s : State} {p : Prog} (hp : s.fur.active = some p) : s.ScanBegun s.scanStart := by
  rw [State.scanStart_eq hp]
  have hkeep := s.latched_keeps p
  generalize s.latched p = t at hkeep
  have hcourse : t.timerBase.course = s.fur.course := t.timerBase_course.trans hkeep.fur
  have hseq : t.rd F.FUR_SCANSEQ_SEQ = s.rd F.FUR_SCANSEQ_SEQ := hkeep.rd rfl (notLatched (by decide) (by decide) (by decide) (by decide) (by decide) (by decide))
  obtain ⟨-, hboundary, -, -, -, hfirst, haborted⟩ := Furrow.course_inj hcourse
  have hcause : t.rd F.FUR_FAULT_CAUSE = s.rd F.FUR_FAULT_CAUSE :=
    hkeep.rd rfl (notLatched (by decide) (by decide) (by decide) (by decide) (by decide) (by decide))
  refine ⟨⟨t.freshScan s.cmdLatch.2, rfl, ?_, hkeep.now, hfirst, rfl, rfl⟩, ?_, rfl, hboundary, haborted, ?_, fun h => ?_⟩
  · rw [State.freshScan, hseq]
  · rw [hseq]
    exact State.rd_wr_fits _ (by decide) (Nat.mod_lt _ (by decide))
  · exact (State.rd_wr_other _ _ (by decide)).trans hcause
  · exact (State.rd_wr_other _ _ (by decide)).trans (hkeep.fault h)

end Sys2Proof.Machine
end

section
/-! SUPPORT. The commands CYCLE_BOUNDARY by the scan the boundary finds (R274-R276). -/

namespace Sys2Proof.Machine

/-! ### What follows once no scan runs (R274) -/

/-- The boundary noted. -/
def State.atBoundary (s : State) : State := s.setFur { s.fur with boundary := some s.now }

/-- The values of a scan that ended released. -/
def State.scanReleased (s : State) : State :=
  match s.fur.scan with
  | some sc => ((s.furRelease false).publishWords sc).applyReads
  | none => s

/-- No scan runs. -/
def State.scanCleared (s : State) : State := s.setFur { s.fur with scan := none }

theorem State.scanReleased_keeps (s : State) : State.KeepsFurrow Furrow.course releaseRegs s s.scanReleased := by
  have hpublish (x : State) (sc : Scan) : State.KeepsFurrow Furrow.course releaseRegs x (x.publishWords sc) := .setFur x _ rfl
  unfold State.scanReleased
  split
  · exact ((State.KeepsFurrow.furRelease s false).trans (hpublish _ _)).trans (.applyReads _ rfl)
  · exact .refl s

theorem State.furState_eq {s t : State} (h : t.rd F.FUR_STATE_STATE = s.rd F.FUR_STATE_STATE) : t.furState = s.furState := h

theorem releaseRegs_state : Reg.FUR_STATE ∉ releaseRegs := notReleased (by decide) (by decide)

/-- The next scan, where Furrow runs on. -/
def State.turnTo (t : State) : State :=
  if t.scanCleared.furActivate.furState = 1 then t.scanCleared.furActivate.scanStart else t.scanCleared.furActivate

theorem State.furTurn_eq {s : State} (hrun : s.furState = 1) (hen : s.on F.FUR_RUN_EN = true) (hact : s.fur.act = none) :
    s.furTurn = s.scanReleased.scanCleared.scanStart := by
  have hkeep := s.scanReleased_keeps
  obtain ⟨-, -, hact', -⟩ := Furrow.course_inj hkeep.fur
  have hact'' : s.scanReleased.scanCleared.fur.act = none := hact'.trans hact
  have hrun' : s.scanReleased.scanCleared.furState = 1 := (hkeep.rd rfl releaseRegs_state).trans hrun
  have hstop : (decide (s.furState = 1) && !s.on F.FUR_RUN_EN) = false := by
    rw [hen, Bool.not_true, Bool.and_false]
  have hactivate : s.scanReleased.scanCleared.furActivate = s.scanReleased.scanCleared := by
    unfold State.furActivate
    rw [hact'']
  have hrel : (match s.fur.scan with
      | some sc => if s.furState = 1 then ((s.furRelease false).publishWords sc).applyReads else s
      | none => s) = s.scanReleased := by
    unfold State.scanReleased
    cases s.fur.scan with
    | none => rfl
    | some sc => exact if_pos hrun
  have hturn : s.furTurn = s.scanReleased.turnTo := by
    unfold State.furTurn
    rw [hstop]
    exact congrArg State.turnTo hrel
  rw [hturn, State.turnTo, hactivate, if_pos hrun']

/-- A turn that goes on begins a scan. -/
theorem State.furTurn_begins {s : State} {p : Prog} (hrun : s.furState = 1) (hen : s.on F.FUR_RUN_EN = true) (hact : s.fur.act = none)
    (hp : s.fur.active = some p) : s.ScanBegun s.furTurn := by
  rw [State.furTurn_eq hrun hen hact]
  have hkeep := s.scanReleased_keeps
  have hclear : s.scanReleased.scanCleared.fur = { s.scanReleased.fur with scan := none } := rfl
  obtain ⟨-, hboundary, -, hactive, -, hfirst, haborted⟩ := Furrow.course_inj hkeep.fur
  obtain ⟨⟨sc, hsc, hq, htl, hf, hrest⟩, hseq, hfirst', hboundary', haborted', hcause, hfault⟩ :=
    State.scanStart_begins (s := s.scanReleased.scanCleared) (hactive.trans hp)
  have hrd {f : Fld} (hf : f.addr / 0x1000 = 0xA) (hS : f.addr ∉ releaseRegs) : s.scanReleased.scanCleared.rd f = s.rd f := hkeep.rd hf hS
  have hseqs := hrd (f := F.FUR_SCANSEQ_SEQ) rfl (notReleased (by decide) (by decide))
  rw [hseqs] at hq hseq
  exact ⟨⟨sc, hsc, hq, htl.trans hkeep.now, hf.trans hfirst, hrest⟩, hseq, hfirst', hboundary'.trans hboundary, haborted'.trans haborted,
    hcause.trans (hrd rfl (notReleased (by decide) (by decide))), fun h => hfault (hkeep.fault h)⟩

/-! ### The command (R274-R276) -/

section
variable {s : State}

theorem execCycleBoundary_eq (hbed : s.bedOn = true) (hdue : s.furDue = true) (hswitch : s.switchDue = none) (hrun : s.furState = 1) :
    exec .cycleBoundary s = .next (match s.fur.scan with
      | some sc => if sc.ended.isSome then s.atBoundary.furTurn
        else if sc.overrun then (s.atBoundary.furAbort sc 9 sc.pc).furTurn else s.atBoundary.furOverrun sc
      | none => s.atBoundary.furTurn) := by
  refine congrArg Host.Outcome.next ((if_neg ?_).trans rfl)
  rintro (h | h | h | h)
  · exact Bool.noConfusion (hbed.symm.trans h)
  · exact Bool.noConfusion (hdue.symm.trans h)
  · exact h.1 hrun
  · rw [hswitch] at h
    exact Bool.noConfusion h

theorem execCycleBoundary_starts {p : Prog} (hbed : s.bedOn = true) (hdue : s.furDue = true) (hswitch : s.switchDue = none) (hrun : s.furState = 1)
    (hen : s.on F.FUR_RUN_EN = true) (hscan : s.fur.scan = none) (hact : s.fur.act = none) (hp : s.fur.active = some p) :
    Completes .cycleBoundary s (fun t => t.fur.boundary = some s.now ∧ t.fur.first = false ∧
      t.rd F.FUR_SCANSEQ_SEQ = (s.rd F.FUR_SCANSEQ_SEQ + 1) % 2 ^ 32 ∧
      t.fur.scan.map (fun c => (c.pc, c.a, c.x, c.stack)) = some (0, false, 0, []) ∧
      t.fur.scan.map (fun c => (c.seq, c.tlatch, c.first)) = some ((s.rd F.FUR_SCANSEQ_SEQ + 1) % 2 ^ 32, s.now, s.fur.first) ∧
      t.fur.scan.map (fun c => (c.overrun, c.ended)) = some (false, none)) := by
  refine ⟨s.atBoundary.furTurn, (execCycleBoundary_eq hbed hdue hswitch hrun).trans ?_, ?_⟩
  · rw [hscan]
  · obtain ⟨⟨sc, hsc, hq, htl, hf, hrest, hends⟩, hseq, hfirst, hboundary, -⟩ :=
      State.furTurn_begins (s := s.atBoundary) (p := p) hrun hen hact hp
    rw [hsc]
    exact ⟨hboundary, hfirst, hseq, congrArg some hrest, congrArg some (by dsimp only; rw [hq, htl, hf]; rfl), congrArg some hends⟩

theorem execCycleBoundary_goesOn {p : Prog} {sc : Scan} {e : Nat} (hbed : s.bedOn = true) (hdue : s.furDue = true) (hswitch : s.switchDue = none)
    (hrun : s.furState = 1) (hen : s.on F.FUR_RUN_EN = true) (hscan : s.fur.scan = some sc) (hended : sc.ended = some e) (hact : s.fur.act = none)
    (hp : s.fur.active = some p) :
    Completes .cycleBoundary s (fun t => t.fur.boundary = some s.now ∧ t.rd F.FUR_SCANSEQ_SEQ = (s.rd F.FUR_SCANSEQ_SEQ + 1) % 2 ^ 32 ∧
      t.fur.scan.map (fun c => (c.seq, c.tlatch, c.pc, c.ended)) = some ((s.rd F.FUR_SCANSEQ_SEQ + 1) % 2 ^ 32, s.now, 0, none)) := by
  refine ⟨s.atBoundary.furTurn, (execCycleBoundary_eq hbed hdue hswitch hrun).trans ?_, ?_⟩
  · rw [hscan]
    exact congrArg Host.Outcome.next (if_pos (by rw [hended]; rfl))
  · obtain ⟨⟨sc', hsc, hq, htl, -, hrest, hends⟩, hseq, -, hboundary, -⟩ :=
      State.furTurn_begins (s := s.atBoundary) (p := p) hrun hen hact hp
    rw [hsc]
    refine ⟨hboundary, hseq, congrArg some ?_⟩
    rw [Prod.mk.injEq] at hrest hends
    dsimp only
    rw [hq, htl, hrest.1, hends.2]
    rfl

theorem State.furOverrun_shows (s : State) (sc : Scan) : (s.furOverrun sc).fur = { s.fur with scan := some { sc with overrun := true } } ∧
    (s.furOverrun sc).rd F.FUR_STAT_OVERRUN = 1 ∧ (s.furOverrun sc).rd F.FUR_SCANSEQ_SEQ = s.rd F.FUR_SCANSEQ_SEQ := by
  unfold State.furOverrun
  extract_lets f t u
  have htf : t.rd F.FUR_SCANSEQ_SEQ = s.rd F.FUR_SCANSEQ_SEQ := rfl
  have htfur : t.fur = { s.fur with scan := some { sc with overrun := true } } := rfl
  clear_value t
  have hflag := State.KeepsFurrow.flagFur (U := id) (S := {Reg.FUR_STAT}) t F.FUR_CTL_IE_OVR (stat := F.FUR_STAT_OVERRUN) rfl rfl (.inl rfl)
  have hhist (x : State) {f : Fld} (h : f.addr ≠ Reg.FUR_HISTn 15) : (x.inc (F.FUR_HISTn_CNT 15)).rd f = x.rd f := x.rd_wr_other _ h
  have hevent := State.KeepsFurrow.furEvent (U := id) (S := ∅) u 1 0 0 0 0 none
  refine ⟨hevent.fur.trans (Eq.trans ?_ htfur), (hevent.rd rfl (Set.notMem_empty _)).trans ?_, (hevent.rd rfl (Set.notMem_empty _)).trans ?_⟩
  · exact hflag.fur
  · exact (hhist _ (by decide)).trans ((State.rd_congr rfl).trans (t.flag_rd_same (stat := F.FUR_STAT_OVERRUN) (by decide) rfl))
  · exact (hhist _ (by decide)).trans ((State.rd_congr rfl).trans ((hflag.rd rfl (by decide)).trans htf))

theorem execCycleBoundary_overruns {sc : Scan} (hbed : s.bedOn = true) (hdue : s.furDue = true) (hswitch : s.switchDue = none)
    (hrun : s.furState = 1) (hscan : s.fur.scan = some sc) (hended : sc.ended = none) (hover : sc.overrun = false) :
    Completes .cycleBoundary s (fun t => t.fur = { s.fur with boundary := some s.now, scan := some { sc with overrun := true } } ∧
      t.rd F.FUR_STAT_OVERRUN = 1 ∧ t.rd F.FUR_SCANSEQ_SEQ = s.rd F.FUR_SCANSEQ_SEQ) := by
  refine ⟨s.atBoundary.furOverrun sc, (execCycleBoundary_eq hbed hdue hswitch hrun).trans ?_, ?_⟩
  · rw [hscan]
    refine congrArg Host.Outcome.next ((if_neg ?_).trans (if_neg ?_))
    · rw [hended]
      exact Bool.false_ne_true
    · rw [hover]
      exact Bool.false_ne_true
  · exact s.atBoundary.furOverrun_shows sc

/-! ### A scan that overran twice (R276) -/

theorem State.KeepsFurrow.faultTold {α : Type*} {U : Furrow → α} (s : State) (cause remain addr x : Nat) :
    State.KeepsFurrow U {Reg.FUR_FAULT, Reg.FUR_FAULTADDR, Reg.FUR_FAULTRUN} s (s.faultTold cause remain addr x) :=
  (((wrFur s _ (.inl rfl) (by decide)).trans (wrFur _ _ (.inl rfl) (by decide))).trans (wrFur _ _ (.inr (.inl rfl)) (by decide))).trans
    (wrFur _ _ (.inr (.inr rfl)) (by decide))

theorem State.KeepsFurrow.faultCounted {α : Type*} {U : Furrow → α} (s : State) (cause addr remain x : Nat) :
    State.KeepsFurrow U {Reg.FUR_STAT, Reg.FUR_ABRTCNT, Reg.FUR_FAULTRUN} s (s.faultCounted cause addr remain x) :=
  (((flagFur s _ (.inl rfl) rfl (.inr rfl)).trans (wrFur _ _ (.inr (.inl rfl)) (by decide))).trans (furEvent _ _ _ _ _ _ _)).trans
    (wrFur _ _ (.inr (.inr rfl)) (by decide))

/-- Furrow with a scan aborted. -/
def State.scanAborted (s : State) (sc : Scan) : State :=
  { s with fur := { s.fur with scan := none, aborted := true, lastOvr := sc.overrun } }

/-- What an abort short of HALT shows. -/
theorem State.furAbort_told (s : State) (sc : Scan) {cause : Nat} (addr : Nat) (hmax : s.rd F.FUR_CTL_FAULTMAX = 0) (hpoison : cause ≠ 7)
    (hparity : cause ≠ 8) (hcause : cause < 16) : State.KeepsFurrow id {Reg.FUR_FAULT, Reg.FUR_FAULTADDR, Reg.FUR_FAULTRUN, Reg.FUR_STAT, Reg.FUR_ABRTCNT}
      (s.scanAborted sc) (s.furAbort sc cause addr) ∧ (s.furAbort sc cause addr).rd F.FUR_FAULT_CAUSE = cause ∧
      (s.furAbort sc cause addr).rd F.FUR_STAT_FAULT = 1 := by
  obtain ⟨remain, heq⟩ := s.furAbort_eq sc addr hmax hpoison hparity
  have heq' : s.furAbort sc cause addr = ((s.scanAborted sc).faultTold cause remain addr sc.x).faultCounted cause (addr % 65536) remain sc.x := heq
  rw [heq']
  generalize s.scanAborted sc = t
  obtain ⟨hflag, -⟩ := (t.faultTold cause remain addr sc.x).faultCounted_shows cause (addr % 65536) remain sc.x
  refine ⟨((State.KeepsFurrow.faultTold t _ _ _ _).mono ?_).trans ((State.KeepsFurrow.faultCounted _ _ _ _ _).mono ?_), ?_, hflag⟩
  · rintro k (hk | hk | hk)
    · exact .inl hk
    · exact .inr (.inl hk)
    · exact .inr (.inr (.inl hk))
  · rintro k (hk | hk | hk)
    · exact .inr (.inr (.inr (.inl hk)))
    · exact .inr (.inr (.inr (.inr hk)))
    · exact .inr (.inr (.inl hk))
  · refine ((State.KeepsFurrow.faultCounted (U := id) _ _ _ _ _).rd rfl (by decide)).trans ?_
    unfold State.faultTold
    simp (disch := decide) only [State.rd_wr_other, State.rd_wr_beside]
    exact t.rd_wr_fits (by decide) hcause

theorem execCycleBoundary_aborts {p : Prog} {sc : Scan} (hbed : s.bedOn = true) (hdue : s.furDue = true) (hswitch : s.switchDue = none)
    (hrun : s.furState = 1) (hen : s.on F.FUR_RUN_EN = true) (hmax : s.rd F.FUR_CTL_FAULTMAX = 0) (hscan : s.fur.scan = some sc)
    (hended : sc.ended = none) (hover : sc.overrun = true) (hact : s.fur.act = none) (hp : s.fur.active = some p) :
    Completes .cycleBoundary s (fun t => t.rd F.FUR_FAULT_CAUSE = 9 ∧ t.rd F.FUR_STAT_FAULT = 1 ∧ t.fur.aborted = true ∧
      t.fur.boundary = some s.now ∧ t.fur.scan.map (fun c => (c.pc, c.tlatch)) = some (0, s.now)) := by
  refine ⟨(s.atBoundary.furAbort sc 9 sc.pc).furTurn, (execCycleBoundary_eq hbed hdue hswitch hrun).trans ?_, ?_⟩
  · rw [hscan]
    refine congrArg Host.Outcome.next ((if_neg ?_).trans (if_pos hover))
    rw [hended]
    exact Bool.false_ne_true
  · obtain ⟨hkeep, hcause, hflag⟩ := s.atBoundary.furAbort_told sc sc.pc hmax (show 9 ≠ 7 by decide) (show 9 ≠ 8 by decide) (by decide)
    generalize s.atBoundary.furAbort sc 9 sc.pc = x at hkeep hcause hflag
    have hfur : x.fur = { s.fur with boundary := some s.now, scan := none, aborted := true, lastOvr := sc.overrun } := hkeep.fur
    have hnow : x.now = s.now := hkeep.now
    have hrun' : x.furState = 1 := (hkeep.rd rfl (by decide)).trans hrun
    have hen' : x.on F.FUR_RUN_EN = true := (hkeep.on rfl (by decide)).trans hen
    obtain ⟨⟨sc', hsc, -, htl, -, hrest, -⟩, -, -, hboundary, haborted, hcause', hfault⟩ :=
      State.furTurn_begins (s := x) (p := p) hrun' hen' (by rw [hfur]; exact hact) (by rw [hfur]; exact hp)
    rw [hsc, haborted, hboundary, hfur]
    refine ⟨hcause'.trans hcause, hfault hflag, rfl, rfl, congrArg some ?_⟩
    rw [Prod.mk.injEq] at hrest
    dsimp only
    rw [hrest.1, htl, hnow]

end

end Sys2Proof.Machine
end

section
/-! SUPPORT. Enabling and disabling Furrow (R277, R308), each by what FUR_RUN shows. -/

namespace Sys2Proof.Machine

/-- The description of FUR_RUN. -/
def furRunDesc : RegDesc := ⟨0xC, [], [.mkAny .rwp 31 31 0x0, ⟨17, 0, .rwp, .rng 500 200000, 0x2710, none⟩]⟩

theorem findReg_furRun : findReg (Reg.FUR_RUN / 0x1000) (Reg.FUR_RUN % 0x1000) = some furRunDesc := by decide

theorem furRunDesc_fieldsApart : furRunDesc.fieldsApart := by
  unfold RegDesc.fieldsApart
  decide

/-- A write of FUR_RUN sets EN and CYCLE. -/
theorem State.applyWrite_furRun (s : State) (v : W32) : (s.applyWrite Reg.FUR_RUN v).rd F.FUR_RUN_EN = getBits v 31 31 ∧
    (s.applyWrite Reg.FUR_RUN v).rd F.FUR_RUN_CYCLE = getBits v 17 0 :=
  ⟨s.getBits_applyWrite (f := .mkAny .rwp 31 31 0x0) v findReg_furRun furRunDesc_fieldsApart (by decide) rfl,
    s.getBits_applyWrite (f := ⟨17, 0, .rwp, .rng 500 200000, 0x2710, none⟩) v findReg_furRun furRunDesc_fieldsApart (by decide) rfl⟩

theorem State.applyWrite_fur (s : State) (key : Nat) (v : W32) : (s.applyWrite key v).fur = s.fur := by rw [s.applyWrite_eq key v]

theorem State.applyWrite_rd_other (s : State) {key : Nat} (v : W32) {f : Fld} (h : f.addr ≠ key) : (s.applyWrite key v).rd f = s.rd f :=
  State.rd_congr (s.applyWrite_reg_other v h)

/-! ### Enabling -/

/-- The word an enabling write gives FUR_RUN. -/
def runWord (v : W32) : W32 := setBits v 31 31 1

theorem runWord_en (v : W32) : getBits (runWord v) 31 31 = 1 := getBits_setBits_same (by decide) v 1

theorem runWord_cycle (v : W32) : getBits (runWord v) 17 0 = getBits v 17 0 := getBits_setBits_other (by decide) (by decide) (by decide) v 1

/-- FUR_RUN written and the scans to start at the next boundary. -/
def State.runArmed (s : State) (v : W32) : State :=
  (s.applyWrite Reg.FUR_RUN v).setFur { (s.applyWrite Reg.FUR_RUN v).fur with first := true, boundary := some (s.applyWrite Reg.FUR_RUN v).now }

theorem State.furRunWrite_enabling {s : State} {v : W32} (hoff : s.on F.FUR_RUN_EN = false) (hen : getBits v 31 31 = 1) : s.furRunWrite v =
    if s.furCause v ≠ 0 then s.furReject (s.furCause v)
    else if (s.runArmed v).furState = 0 then (s.runArmed v).wr F.FUR_STATE_STATE 1 else s.runArmed v := by
  unfold State.furRunWrite
  dsimp only
  refine (if_neg fun h => ?_).trans (if_pos ⟨hoff, hen⟩)
  exact Bool.noConfusion (hoff.symm.trans h.1)

theorem State.runArmed_rd (s : State) (v : W32) {f : Fld} : (s.runArmed v).rd f = (s.applyWrite Reg.FUR_RUN v).rd f := rfl

theorem State.runArmed_state (s : State) (v : W32) : (s.runArmed v).furState = s.furState := s.applyWrite_rd_other v (by decide)

theorem State.runArmed_resp (s : State) (v : W32) : (s.runArmed v).resp = s.resp := s.applyWrite_resp _ v

theorem State.furCause_lt (s : State) (v : W32) : s.furCause v < 16 := by
  unfold State.furCause
  dsimp only
  split
  · decide
  · split
    · decide
    · split
      · decide
      · split <;> decide

theorem State.furReject_shows (s : State) {cause : Nat} (h : cause < 16) : (s.furReject cause).rd F.FUR_BADCFG_CAUSE = cause ∧
    (s.furReject cause).rd F.FUR_STAT_CFGREJ = 1 := by
  unfold State.furReject
  refine ⟨?_, State.flag_rd_same _ (by decide) rfl⟩
  rw [State.flag_rd_other _ (by decide)]
  exact s.rd_wr_fits (by decide) h

theorem State.furReject_affects (s : State) (cause : Nat) : State.AffectsOnly {Reg.FUR_BADCFG, Reg.FUR_STAT} s (s.furReject cause) :=
  (State.AffectsOnly.wr s cause (.inl (.inl rfl))).trans (.flag _ _ (.inl (.inr rfl)))

theorem execFurrowEnable_enables {s : State} {a : Agent} {v : W32} (hacc : s.accepts a 0x0A 0x00C = true) (hoff : s.on F.FUR_RUN_EN = false) :
    Completes (.furrowEnable a v) s (fun t => t.resp = .done ∧
      (s.furCause (setBits v 31 31 1) = 0 → t.on F.FUR_RUN_EN = true ∧ t.rd F.FUR_RUN_CYCLE = getBits v 17 0 ∧ t.fur.first = true ∧
        t.furState = (if s.furState = 0 then 1 else s.furState)) ∧
      (s.furCause (setBits v 31 31 1) ≠ 0 → t.rd F.FUR_BADCFG_CAUSE = s.furCause (setBits v 31 31 1) ∧ t.rd F.FUR_STAT_CFGREJ = 1 ∧
        t.reg Reg.FUR_RUN = s.reg Reg.FUR_RUN ∧ t.fur = s.fur)) := by
  refine ⟨s.done.furRunWrite (runWord v), congrArg Host.Outcome.next (State.gate_accepts _ hacc), ?_⟩
  have hcause : s.done.furCause (runWord v) = s.furCause (setBits v 31 31 1) := rfl
  dsimp only
  rw [State.furRunWrite_enabling (s := s.done) hoff (runWord_en v), hcause]
  obtain ⟨hen, hcycle⟩ := s.done.applyWrite_furRun (runWord v)
  have hlt := s.furCause_lt (setBits v 31 31 1)
  generalize s.furCause (setBits v 31 31 1) = c at hlt
  by_cases hc : c = 0
  · rw [if_neg fun h => h hc]
    have hstate : (s.done.runArmed (runWord v)).furState = s.furState := s.done.runArmed_state _
    have hresp : (s.done.runArmed (runWord v)).resp = .done := s.done.runArmed_resp _
    have hon : (s.done.runArmed (runWord v)).rd F.FUR_RUN_EN = 1 := hen.trans (runWord_en v)
    have hcyc : (s.done.runArmed (runWord v)).rd F.FUR_RUN_CYCLE = getBits v 17 0 := hcycle.trans (runWord_cycle v)
    have hfirst : (s.done.runArmed (runWord v)).fur.first = true := rfl
    generalize s.done.runArmed (runWord v) = x at hstate hresp hon hcyc hfirst
    have hx : x.on F.FUR_RUN_EN = true := by
      unfold State.on
      rw [hon]
      rfl
    rw [hstate]
    split
    · refine ⟨hresp, fun _ => ⟨(State.on_congr (x.rd_wr_other _ (by decide))).trans hx, (x.rd_wr_other _ (by decide)).trans hcyc, hfirst,
        x.rd_wr_fits (by decide) (by decide)⟩, fun h => absurd hc h⟩
    · exact ⟨hresp, fun _ => ⟨hx, hcyc, hfirst, hstate⟩, fun h => absurd hc h⟩
  · rw [if_pos hc]
    obtain ⟨hcs, hrej⟩ := s.done.furReject_shows hlt
    have haff := s.done.furReject_affects c
    exact ⟨haff.part (fun x => x.resp) fun _ _ => rfl, fun h => absurd h hc, fun _ => ⟨hcs, hrej, haff.reg _ (notEntry (by decide)) (by decide),
      haff.part (fun x => x.fur) fun _ _ => rfl⟩⟩

/-! ### Disabling -/

/-- The word that a disabling write gives FUR_RUN. -/
def State.stopWord (s : State) : W32 := setBits (s.reg Reg.FUR_RUN) 31 31 0

theorem State.stopWord_en (s : State) : getBits s.stopWord 31 31 = 0 := getBits_setBits_same (by decide) _ 0

theorem State.stopWord_cycle (s : State) : getBits s.stopWord 17 0 = s.rd F.FUR_RUN_CYCLE :=
  getBits_setBits_other (by decide) (by decide) (by decide) _ 0

/-- FUR_RUN written with EN = 0. -/
def State.runStopped (s : State) : State := s.applyWrite Reg.FUR_RUN s.stopWord

theorem State.furRunWrite_disabling {s : State} (hlisted : listedAt Reg.FUR_RUN s.stopWord = true) : s.furRunWrite s.stopWord =
    if s.furState = 2 then (s.runStopped.wr F.FUR_FAULTRUN_RUN 0).furStopped else s.runStopped := by
  have hplain : s.plainWrite Reg.FUR_RUN s.stopWord = s.runStopped := if_pos hlisted
  have hstate : s.runStopped.furState = s.furState := s.applyWrite_rd_other _ (by decide)
  unfold State.furRunWrite
  dsimp only
  refine (if_neg fun h => h.2 s.stopWord_cycle).trans ((if_neg fun h => ?_).trans ?_)
  · exact absurd (s.stopWord_en.symm.trans h.2) (by decide)
  · rw [hplain, hstate, s.stopWord_en]
    simp only [true_and]

theorem State.runStopped_shows (s : State) : s.runStopped.on F.FUR_RUN_EN = false ∧ s.runStopped.rd F.FUR_RUN_CYCLE = s.rd F.FUR_RUN_CYCLE ∧
    s.runStopped.fur = s.fur ∧ s.runStopped.resp = s.resp := by
  obtain ⟨hen, hcycle⟩ := s.applyWrite_furRun s.stopWord
  refine ⟨?_, hcycle.trans s.stopWord_cycle, s.applyWrite_fur _ _, s.applyWrite_resp _ _⟩
  unfold State.on
  rw [State.runStopped, hen, s.stopWord_en]
  rfl

/-- Furrow shown as stopped. -/
def State.stopShown (x : State) : State := (x.wr F.FUR_STATE_STATE 0).setFur { x.fur with scan := none }

theorem State.furStopped_eq {x : State} (hact : x.fur.act = none) : x.furStopped = x.stopShown.furIdle := by
  obtain ⟨-, -, hact', -⟩ := Furrow.course_inj (State.KeepsFurrow.furIdle x.stopShown).fur
  have hnone : x.stopShown.furIdle.fur.act = none := hact'.trans hact
  change x.stopShown.furIdle.furActivate = _
  unfold State.furActivate
  rw [hnone]

/-- Nothing is read of Furrow. -/
def Furrow.nothing (_ : Furrow) : Unit := ()

/-- All registers of block FUR but FUR_RUN and FUR_STAT. -/
def besideRun : Set Nat := {k | k ≠ Reg.FUR_RUN ∧ k ≠ Reg.FUR_STAT}

namespace State.KeepsFurrow

theorem wrBeside (s : State) {f : Fld} (v : Nat) (h : f.addr ≠ Reg.FUR_RUN) (hstat : f.addr ≠ Reg.FUR_STAT) :
    KeepsFurrow Furrow.nothing besideRun s (s.wr f v) := wrFur s v ⟨h, hstat⟩ hstat

theorem setRegBeside (s : State) {k : Nat} (w : W32) (h : k ≠ Reg.FUR_RUN) (hstat : k ≠ Reg.FUR_STAT) :
    KeepsFurrow Furrow.nothing besideRun s (s.setReg k w) :=
  ⟨rfl, rfl, rfl, fun _ _ hS => s.reg_setReg_other w fun e => hS (e ▸ ⟨h, hstat⟩),
    fun hf => (State.rd_congr (s.reg_setReg_other w (Ne.symm hstat))).trans hf⟩

theorem progRegs (s : State) (p : Prog) (loaded : Bool) : KeepsFurrow Furrow.nothing besideRun s (s.progRegs p loaded) := by
  unfold State.progRegs
  extract_lets a b c
  have ha : KeepsFurrow Furrow.nothing besideRun s a := (wrBeside s _ (by decide) (by decide)).trans (wrBeside _ _ (by decide) (by decide))
  have hb : KeepsFurrow Furrow.nothing besideRun a b := (setRegBeside a _ (by decide) (by decide)).trans (setRegBeside _ _ (by decide) (by decide))
  have hc : KeepsFurrow Furrow.nothing besideRun b c := (wrBeside b _ (by decide) (by decide)).trans (wrBeside _ _ (by decide) (by decide))
  exact ((ha.trans hb).trans hc).trans (ite _ (fun _ => (wrBeside c _ (by decide) (by decide)).trans (wrBeside _ _ (by decide) (by decide)))
    fun _ => refl c)

end State.KeepsFurrow

/-- Furrow with its banks switched and the update engine told. -/
def State.banksSwitched (s : State) (d : Desc) (p : Prog) : State := (s.furTold d 0).setFur (s.fur.switched p (d.le 16 1))

/-- The banks switched and the old program's permits returned. -/
def State.permitsReturned (s : State) (d : Desc) (p : Prog) : State :=
  match s.fur.active with
  | some old => (s.banksSwitched d p).freePermits old p
  | none => s.banksSwitched d p

theorem State.furSwitch_eq {s : State} {p : Prog} (d : Desc) (h : s.fur.other = some p) : s.furSwitch d =
    (((s.permitsReturned d p).progRegs p s.fur.active.isSome).furEvent 6 0 0 0 0 none).complete 30 d {} := by
  unfold State.furSwitch State.permitsReturned State.banksSwitched
  rw [h] <;> rfl

theorem State.furSwitch_none {s : State} (d : Desc) (h : s.fur.other = none) : s.furSwitch d = (s.furTold d 2).complete 30 d { status := 2 } := by
  unfold State.furSwitch
  rw [h]

theorem State.permitsReturned_keeps {α : Type*} {U : Furrow → α} {S : Set Nat} (s : State) (d : Desc) (p : Prog) :
    State.KeepsFurrow U S (s.banksSwitched d p) (s.permitsReturned d p) := by
  unfold State.permitsReturned
  split
  · exact .freePermits _ _ _
  · exact .refl _

/-- An activation that waited no longer does. -/
def State.actTaken (s : State) : State := s.setFur { s.fur with act := none }

theorem State.furActivate_eq {s : State} {d : Desc} (h : s.fur.act = some d) : s.furActivate = s.actTaken.furSwitch d := by
  unfold State.furActivate
  rw [h]
  rfl

theorem State.furActivate_none {s : State} (h : s.fur.act = none) : s.furActivate = s := by
  unfold State.furActivate
  rw [h]

namespace State.KeepsFurrow

theorem furActivate (s : State) : KeepsFurrow Furrow.nothing besideRun s s.furActivate := by
  have hset (x : State) (f : Furrow) : KeepsFurrow Furrow.nothing besideRun x (x.setFur f) := setFur x f rfl
  have htold (x : State) (d : Desc) (st : Nat) : KeepsFurrow Furrow.nothing besideRun x (x.furTold d st) := of_updates (.furTold x d st)
  cases hact : s.fur.act with
  | none =>
    rw [State.furActivate_none hact]
    exact refl s
  | some d =>
    rw [State.furActivate_eq hact]
    have htaken : KeepsFurrow Furrow.nothing besideRun s s.actTaken := hset s _
    refine htaken.trans ?_
    cases hother : s.actTaken.fur.other with
    | none =>
      rw [State.furSwitch_none d hother]
      exact (htold _ _ _).trans (complete _ _ _ _)
    | some p =>
      rw [State.furSwitch_eq d hother]
      have hbanks : KeepsFurrow Furrow.nothing besideRun s.actTaken (s.actTaken.banksSwitched d p) := (htold _ d 0).trans (hset _ _)
      exact (((hbanks.trans (State.permitsReturned_keeps _ d p)).trans (progRegs _ p _)).trans (furEvent _ _ _ _ _ _ _)).trans (complete _ _ _ _)

end State.KeepsFurrow

/-- Stopping Furrow leaves FUR_RUN and the response alone. -/
theorem State.furStopped_keeps (x : State) : State.KeepsFurrow Furrow.nothing besideRun x x.furStopped := by
  have hset (y : State) (f : Furrow) : State.KeepsFurrow Furrow.nothing besideRun y (y.setFur f) := .setFur y f rfl
  have hidle := State.KeepsFurrow.furIdle x.stopShown
  have hidle' : State.KeepsFurrow Furrow.nothing besideRun x.stopShown x.stopShown.furIdle := by
    refine ⟨rfl, hidle.now, hidle.resp, fun k hk hS => hidle.reg k hk fun h => hS ?_, hidle.fault⟩
    obtain h | h := h
    · rw [h]
      exact ⟨by decide, by decide⟩
    · rw [h]
      exact ⟨by decide, by decide⟩
  have hshown : State.KeepsFurrow Furrow.nothing besideRun x x.stopShown :=
    (State.KeepsFurrow.wrBeside x _ (by decide) (by decide)).trans (hset _ _)
  exact (hshown.trans hidle').trans (.furActivate _)

theorem idleRegs_faultRun : F.FUR_FAULTRUN_RUN.addr ∉ idleRegs := by
  rintro (h | h)
  · exact absurd h (by decide)
  · exact absurd h (by decide)

/-- What Furrow shows stopped with no activation waiting. -/
theorem State.furStopped_shows {x : State} (hact : x.fur.act = none) : x.furStopped.furState = 0 ∧
    x.furStopped.rd F.FUR_FAULTRUN_RUN = x.rd F.FUR_FAULTRUN_RUN ∧ x.furStopped.fur.scan = none := by
  rw [State.furStopped_eq hact]
  have hidle := State.KeepsFurrow.furIdle x.stopShown
  have hst : x.stopShown.rd F.FUR_STATE_STATE = 0 := x.rd_wr_fits (by decide) (by decide)
  have hrun : x.stopShown.rd F.FUR_FAULTRUN_RUN = x.rd F.FUR_FAULTRUN_RUN := x.rd_wr_other _ (by decide)
  exact ⟨(x.stopShown.furIdle_state rfl rfl).trans hst, (hidle.rd rfl idleRegs_faultRun).trans hrun, (Furrow.course_inj hidle.fur).1⟩

theorem execFurrowDisable_disables {s : State} {a : Agent} (hacc : s.accepts a 0x0A 0x00C = true)
    (hlisted : listedAt Reg.FUR_RUN (setBits (s.reg Reg.FUR_RUN) 31 31 0) = true) :
    Completes (.furrowDisable a) s (fun t => t.resp = .done ∧ t.on F.FUR_RUN_EN = false ∧ t.rd F.FUR_RUN_CYCLE = s.rd F.FUR_RUN_CYCLE ∧
      (s.furState = 1 → t.furState = 1 ∧ t.fur = s.fur) ∧
      (s.furState = 2 → s.fur.act = none → t.furState = 0 ∧ t.rd F.FUR_FAULTRUN_RUN = 0 ∧ t.fur.scan = none)) := by
  refine ⟨s.done.furRunWrite s.done.stopWord, congrArg Host.Outcome.next (State.gate_accepts _ hacc), ?_⟩
  have hstate : s.done.furState = s.furState := rfl
  dsimp only
  rw [State.furRunWrite_disabling (s := s.done) hlisted, hstate]
  have hst : s.done.runStopped.furState = s.furState := s.done.applyWrite_rd_other _ (by decide)
  obtain ⟨hen, hcycle, hfur, hresp⟩ := s.done.runStopped_shows
  replace hcycle : s.done.runStopped.rd F.FUR_RUN_CYCLE = s.rd F.FUR_RUN_CYCLE := hcycle
  replace hfur : s.done.runStopped.fur = s.fur := hfur
  replace hresp : s.done.runStopped.resp = .done := hresp
  generalize s.done.runStopped = x at hst hen hcycle hfur hresp
  by_cases h2 : s.furState = 2
  · rw [if_pos h2]
    have hkeep := (State.KeepsFurrow.wrBeside x (f := F.FUR_FAULTRUN_RUN) 0 (by decide) (by decide)).trans (State.furStopped_keeps _)
    refine ⟨hkeep.resp.trans hresp, (hkeep.on rfl fun h => h.1 rfl).trans hen, (hkeep.rd rfl fun h => h.1 rfl).trans hcycle,
      fun h => absurd (h.symm.trans h2) (by decide), fun _ hact => ?_⟩
    obtain ⟨hzero, hrun, hscan⟩ := State.furStopped_shows (x := x.wr F.FUR_FAULTRUN_RUN 0) ((congrArg Furrow.act hfur).trans hact)
    exact ⟨hzero, hrun.trans (x.rd_wr_fits (by decide) (by decide)), hscan⟩
  · rw [if_neg h2]
    exact ⟨hresp, hen, hcycle, fun h => ⟨hst.trans h, hfur⟩, fun h => absurd h h2⟩

end Sys2Proof.Machine
end

section
/-! SUPPORT. SETVAL, READMEM, PROGLOAD and PROGACT (R298, R300, R301, R306), and Furrow's commands together. -/

namespace Sys2Proof.Machine

/-! ### SETVAL (R298) -/

/-- What SETVAL leaves alone of Furrow. -/
def Furrow.waiting (f : Furrow) : List (Nat × Desc) × List (Nat × Desc) := (f.changes, f.reads)

/-- The entry that SETVAL names in Furrow's data memory. -/
def State.HoldsSet (s : State) (d : Desc) : Prop := (d.le 16 1 = 0 → s.furFlag (d.le 18 2) = decide (d.le 24 1 % 2 = 1)) ∧
  (d.le 16 1 ≠ 0 → s.furWord (d.le 18 2) = d.leS 24 8)

theorem State.furFlag_setFlag_same (s : State) (i : Nat) (v : Bool) : (s.setFlag i v).furFlag i = v := SMap.get_set_same _ _ _ _

theorem State.furWord_setWord_same (s : State) (i : Nat) (v : Int) : (s.setWord i v).furWord i = v := SMap.get_set_same _ _ _ _

/-- The entry that a change sets, set. -/
def State.cellSet (s : State) (d : Desc) : State :=
  if d.le 16 1 = 0 then s.setFlag (d.le 18 2) (decide (d.le 24 1 % 2 = 1)) else s.setWord (d.le 18 2) (d.leS 24 8)

theorem State.cellSet_waiting (s : State) (d : Desc) : (s.cellSet d).fur.waiting = s.fur.waiting := by
  unfold State.cellSet State.setFlag
  dsimp only
  split
  · split <;> rfl
  · rfl

theorem State.cellSet_holds (s : State) (d : Desc) : (s.cellSet d).HoldsSet d := by
  unfold State.cellSet
  refine ⟨fun h => ?_, fun h => ?_⟩
  · rw [if_pos h]
    exact s.furFlag_setFlag_same _ _
  · rw [if_neg h]
    exact s.furWord_setWord_same _ _

theorem State.applyChange_fur (s : State) (q : Nat) (d : Desc) : (s.applyChange q d).fur = (s.cellSet d).fur :=
  (State.AffectsOnly.complete (S := ∅) ((s.cellSet d).inc F.FUR_CHGCNT_CNT) q d {}).part (fun x => x.fur) fun _ _ => rfl

theorem State.HoldsSet.congr {s t : State} {d : Desc} (h : s.HoldsSet d) (hflags : t.fur.flags = s.fur.flags) (hwords : t.fur.words = s.fur.words) :
    t.HoldsSet d := by
  unfold State.HoldsSet State.furFlag State.furWord at h ⊢
  rw [hflags, hwords]
  exact h

/-- The waiting changes taken off their list. -/
def State.changesTaken (s : State) : State := s.setFur { s.fur with changes := [], changed := s.fur.changed || !s.fur.changes.isEmpty }

theorem State.applyChanges_all (s : State) : s.applyChanges s.fur.changes.length =
    (s.fur.changes.foldl (fun x c => x.applyChange c.1 c.2) s.changesTaken).chgReg := by
  unfold State.applyChanges State.changesTaken
  rw [List.take_length, List.drop_length]

/-- What idle Furrow makes of the commands that wait, the last of which sets what `d` says. -/
theorem State.furIdle_sets {s : State} {l : List (Nat × Desc)} {q : Nat} {d : Desc} (h : s.fur.changes = l ++ [(q, d)]) :
    s.furIdle.fur.changes = [] ∧ s.furIdle.fur.reads = [] ∧ s.furIdle.HoldsSet d := by
  have hchanges : (s.applyChanges s.fur.changes.length).fur.changes = [] ∧ (s.applyChanges s.fur.changes.length).HoldsSet d := by
    rw [State.applyChanges_all, h, List.foldl_append, List.foldl_cons, List.foldl_nil]
    have hnone : s.changesTaken.fur.changes = [] := rfl
    generalize s.changesTaken = t at hnone
    have hkeep : (l.foldl (fun x c => x.applyChange c.1 c.2) t).fur.waiting = t.fur.waiting :=
      foldl_keeps (I := fun x : State => x.fur.waiting = t.fur.waiting) l t rfl fun x c _ hx =>
        (congrArg Furrow.waiting (x.applyChange_fur c.1 c.2)).trans ((x.cellSet_waiting c.2).trans hx)
    generalize l.foldl (fun x c => x.applyChange c.1 c.2) t = x at hkeep
    have hfur : (x.applyChange q d).chgReg.fur = (x.cellSet d).fur := x.applyChange_fur q d
    refine ⟨?_, (x.cellSet_holds d).congr (congrArg Furrow.flags hfur) (congrArg Furrow.words hfur)⟩
    rw [hfur]
    exact (congrArg Prod.fst (x.cellSet_waiting d)).trans ((congrArg Prod.fst hkeep).trans hnone)
  unfold State.furIdle
  obtain ⟨hnone, hset⟩ := hchanges
  generalize s.applyChanges s.fur.changes.length = x at hnone hset
  have hreads : x.applyReads.fur = { x.fur with reads := [] } :=
    (State.KeepsFurrow.foldl (U := id) (S := ∅) (fun (y : State) (c : Nat × Desc) => y.applyRead c.1 c.2) (fun y c => .applyRead y c.1 c.2) x.fur.reads
      (x.setFur { x.fur with reads := [] })).fur
  refine ⟨?_, ?_, hset.congr (by rw [hreads]) (by rw [hreads])⟩
  · rw [hreads]
    exact hnone
  · rw [hreads]

section
variable {s : State} {q : Nat} {d : Desc}

theorem furRing_taken (hbed : s.bedOn = true) (hq : q = 24 ∨ q = 26) : ¬ (s.bedOn = false ∨ (q ≠ 24 ∧ q ≠ 26)) := by
  rintro (h | ⟨h24, h26⟩)
  · exact Bool.noConfusion (hbed.symm.trans h)
  · exact hq.elim h24 h26

/-- A change waiting. -/
def State.changeWaits (s : State) (q : Nat) (d : Desc) : State := s.setFur { s.fur with changes := s.fur.changes ++ [(q, d)] }

theorem execSetval_eq (hbed : s.bedOn = true) (hq : q = 24 ∨ q = 26) (hwait : nextWaiting s.fur.changes (s.ring q).taken q 1 = some d) :
    exec (.setval q) s = .next (if s.setvalStatus d ≠ 0 then s.complete q d { status := s.setvalStatus d }
      else if (s.changeWaits q d).chgReg.furState = 1 then (s.changeWaits q d).chgReg else (s.changeWaits q d).chgReg.furIdle) := by
  refine congrArg Host.Outcome.next ((if_neg (furRing_taken hbed hq)).trans ?_)
  rw [hwait]
  rfl

theorem State.chgReg_state (s : State) : s.chgReg.furState = s.furState := s.rd_wr_beside _ (by decide) (by decide) (by decide)

theorem execSetval_sets (hbed : s.bedOn = true) (hq : q = 24 ∨ q = 26) (hwait : nextWaiting s.fur.changes (s.ring q).taken q 1 = some d)
    (hstat : s.setvalStatus d = 0) :
    Completes (.setval q) s (fun t => if s.furState = 1 then t.fur.changes = s.fur.changes ++ [(q, d)] ∧ t.fur.words = s.fur.words ∧
        t.fur.flags = s.fur.flags ∧ t.rd F.FUR_STATE_CHGPEND = min (s.fur.changes.length + 1) 64
      else t.fur.changes = [] ∧ t.fur.reads = [] ∧ (d.le 16 1 = 0 → t.furFlag (d.le 18 2) = decide (d.le 24 1 % 2 = 1)) ∧
        (d.le 16 1 ≠ 0 → t.furWord (d.le 18 2) = d.leS 24 8)) := by
  refine ⟨_, execSetval_eq hbed hq hwait, ?_⟩
  have hstate : (s.changeWaits q d).chgReg.furState = s.furState := (s.changeWaits q d).chgReg_state
  have hlist : (s.changeWaits q d).chgReg.fur.changes = s.fur.changes ++ [(q, d)] := rfl
  rw [if_neg fun h => h hstat, hstate]
  split
  · refine ⟨rfl, rfl, rfl, ?_⟩
    have hlen : (s.changeWaits q d).fur.changes.length = s.fur.changes.length + 1 := List.length_append
    refine Eq.trans (State.rd_wr_fits _ (by decide) ?_) (congrArg (fun n => min n 64) hlen)
    exact (Nat.min_le_right _ _).trans_lt (by decide)
  · obtain ⟨hchanges, hreads, hflag, hword⟩ := State.furIdle_sets hlist
    exact ⟨hchanges, hreads, hflag, hword⟩

theorem execSetval_refuses (hbed : s.bedOn = true) (hq : q = 24 ∨ q = 26) (hwait : nextWaiting s.fur.changes (s.ring q).taken q 1 = some d)
    (hstat : s.setvalStatus d ≠ 0) : Completes (.setval q) s (fun t => t = s.complete q d { status := s.setvalStatus d }) :=
  ⟨_, execSetval_eq hbed hq hwait, if_pos hstat⟩

/-! ### READMEM (R306) -/

theorem execReadmem_reads (hbed : s.bedOn = true) (hq : q = 24 ∨ q = 26) (hwait : nextWaiting s.fur.reads (s.ring q).taken q 2 = some d) :
    Completes (.readmem q) s (fun t => if readmemStatus d ≠ 0 then t = s.complete q d { status := readmemStatus d }
      else if s.furState = 1 then t = { s with fur := { s.fur with reads := s.fur.reads ++ [(q, d)] } }
      else t = ((s.put (d.le 24 8) (s.memBytes (d.le 16 1) (d.le 18 2) (d.le 20 2))).tickFree).complete q d
        { bytes := leBytes 4 (s.memBytes (d.le 16 1) (d.le 18 2) (d.le 20 2)).length }) := by
  have hexec : exec (.readmem q) s = .next (if readmemStatus d ≠ 0 then s.complete q d { status := readmemStatus d }
      else if s.furState = 1 then s.setFur { s.fur with reads := s.fur.reads ++ [(q, d)] } else s.applyRead q d) := by
    refine congrArg Host.Outcome.next ((if_neg (furRing_taken hbed hq)).trans ?_)
    rw [hwait]
  refine ⟨_, hexec, ?_⟩
  dsimp only
  split
  · rfl
  · split <;> rfl

end

/-! ### PROGLOAD (R300) -/

/-- The inactive bank empty. -/
def State.bankEmptied (s : State) : State := (s.setFur { s.fur with other := none }).wr F.FUR_STATE_LOADED 0

/-- A program in the inactive bank. -/
def State.bankFilled (s : State) (p : Prog) : State := (s.bankEmptied.setFur { s.bankEmptied.fur with other := some p }).wr F.FUR_STATE_LOADED 1

theorem State.progload_eq {s : State} {d : Desc} (halign : d.le 24 8 % 64 = 0) (hrange : inBedRange (d.le 24 8) (d.le 32 8) = true)
    (hclean : s.mem.poisoned (d.le 24 8) (d.le 32 8) = false) : s.progload d = if imageStatus (s.mem.readBytes (d.le 24 8) (d.le 32 8)) ≠ 0
      then (s.bankEmptied, { status := imageStatus (s.mem.readBytes (d.le 24 8) (d.le 32 8)) })
      else (s.bankFilled (progOf (s.mem.readBytes (d.le 24 8) (d.le 32 8))),
        { bytes := leBytes 4 (progOf (s.mem.readBytes (d.le 24 8) (d.le 32 8))).id ++ leBytes 4 (progOf (s.mem.readBytes (d.le 24 8) (d.le 32 8))).ver }) := by
  have hclean' : ¬ s.bankEmptied.mem.poisoned (d.le 24 8) (d.le 32 8) = true := fun h => Bool.noConfusion (hclean.symm.trans h)
  unfold State.progload
  exact (if_neg fun h => h halign).trans ((if_neg fun h => Bool.noConfusion (hrange.symm.trans h)).trans (if_neg hclean'))

theorem execProgload_loads {s : State} {d : Desc} (hbed : s.bedOn = true) (hrun : s.running 30 0x10 = some d) (halign : d.le 24 8 % 64 = 0)
    (hrange : inBedRange (d.le 24 8) (d.le 32 8) = true) (hclean : s.mem.poisoned (d.le 24 8) (d.le 32 8) = false) :
    Completes .progload s (fun t => t.fur.active = s.fur.active ∧
      if imageStatus (s.mem.readBytes (d.le 24 8) (d.le 32 8)) = 0
      then t.fur.other = some (progOf (s.mem.readBytes (d.le 24 8) (d.le 32 8))) ∧ t.rd F.FUR_STATE_LOADED = 1
      else t.fur.other = none ∧ t.rd F.FUR_STATE_LOADED = 0) := by
  refine ⟨_, congrArg Host.Outcome.next ((if_neg fun h => Bool.noConfusion (hbed.symm.trans h)).trans (State.serve_of_running _ hrun)), ?_⟩
  dsimp only
  rw [State.progload_eq halign hrange hclean]
  have hkeep (x : State) (st : Nat) (r : Result) : State.KeepsFurrow id ∅ x ((x.furTold d st).complete 30 d r) :=
    (State.KeepsFurrow.of_updates (.furTold x d st)).trans (.complete _ _ _ _)
  have hrd (x : State) (st : Nat) (r : Result) : ((x.furTold d st).complete 30 d r).rd F.FUR_STATE_LOADED = x.rd F.FUR_STATE_LOADED :=
    (hkeep x st r).rd rfl (Set.notMem_empty _)
  have hfur (x : State) (st : Nat) (r : Result) : ((x.furTold d st).complete 30 d r).fur = x.fur := (hkeep x st r).fur
  by_cases hstat : imageStatus (s.mem.readBytes (d.le 24 8) (d.le 32 8)) = 0
  · rw [if_neg fun h => h hstat, if_pos hstat, hrd, hfur]
    exact ⟨rfl, rfl, State.rd_wr_fits _ (by decide) (by decide)⟩
  · rw [if_pos hstat, if_neg hstat, hrd, hfur]
    exact ⟨rfl, rfl, State.rd_wr_fits _ (by decide) (by decide)⟩

/-! ### PROGACT (R301) -/

/-- An activation waiting. -/
def State.actWaits (s : State) (d : Desc) : State := { s with fur := { s.fur with act := some d } }

theorem execProgact_eq {s : State} {d : Desc} {p : Prog} (hbed : s.bedOn = true) (hrun : s.running 30 0x11 = some d) (hact : s.fur.act = none)
    (hother : s.fur.other = some p) (hmode : d.le 16 1 = 0) (hlayout : s.fur.active.map (fun o => o.layout) = some p.layout) :
    exec .progact s = .next (if (s.actWaits d).furState = 1 ∨ ((s.actWaits d).furState = 2 ∧ (s.actWaits d).on F.FUR_RUN_EN = true) then s.actWaits d
      else (s.actWaits d).furActivate) := by
  have hgo : ¬ (s.bedOn = false ∨ s.fur.act.isSome = true) := by
    rw [hact, hbed]
    rintro (h | h) <;> exact Bool.noConfusion h
  have hmode' : ¬ 1 < d.le 16 1 := by
    rw [hmode]
    decide
  refine congrArg Host.Outcome.next ?_
  rw [hrun]
  refine (if_neg hgo).trans ?_
  rw [hother]
  exact (if_neg hmode').trans (if_neg fun h => h.2 hlayout)

theorem State.wr_fur (s : State) (f : Fld) (v : Nat) : (s.wr f v).fur = s.fur := rfl
theorem State.setReg_fur (s : State) (k : Nat) (w : W32) : (s.setReg k w).fur = s.fur := rfl

theorem State.progRegs_fur (s : State) (p : Prog) (loaded : Bool) : (s.progRegs p loaded).fur = s.fur := by
  unfold State.progRegs
  extract_lets a b c
  have ha : a.fur = s.fur := (State.wr_fur _ _ _).trans (s.wr_fur _ _)
  have hb : b.fur = a.fur := (State.setReg_fur _ _ _).trans (a.setReg_fur _ _)
  have hc : c.fur = s.fur := ((State.wr_fur _ _ _).trans (b.wr_fur _ _)).trans (hb.trans ha)
  clear_value c
  split
  · exact ((State.wr_fur _ _ _).trans (c.wr_fur _ _)).trans hc
  · exact hc

theorem State.progRegs_id (s : State) (p : Prog) (loaded : Bool) : (s.progRegs p loaded).reg Reg.FUR_PROGID = BitVec.ofNat 32 p.id := by
  unfold State.progRegs
  extract_lets a b c
  have hc : c.reg Reg.FUR_PROGID = BitVec.ofNat 32 p.id := by
    refine (State.reg_wr_other _ _ (by decide)).trans ((State.reg_wr_other _ _ (by decide)).trans ?_)
    exact (State.reg_setReg_other _ _ (by decide)).trans (State.reg_setReg_same _ _ _)
  split
  · exact (State.reg_wr_other _ _ (by decide)).trans ((State.reg_wr_other _ _ (by decide)).trans hc)
  · exact hc

theorem execProgact_activates {s : State} {d : Desc} {p : Prog} (hbed : s.bedOn = true) (hrun : s.running 30 0x11 = some d) (hact : s.fur.act = none)
    (hother : s.fur.other = some p) (hmode : d.le 16 1 = 0) (hlayout : s.fur.active.map (fun o => o.layout) = some p.layout) :
    Completes .progact s (fun t => if s.furState = 1 ∨ (s.furState = 2 ∧ s.on F.FUR_RUN_EN = true) then t = { s with fur := { s.fur with act := some d } }
      else t.fur.act = none ∧ t.fur.active = some p ∧ t.fur.other = s.fur.active ∧ t.fur.first = true ∧ t.reg Reg.FUR_PROGID = BitVec.ofNat 32 p.id ∧
        (d.le 16 1 = 0 → t.fur.words = s.fur.words)) := by
  refine ⟨_, execProgact_eq hbed hrun hact hother hmode hlayout, ?_⟩
  have hstate : (s.actWaits d).furState = s.furState := rfl
  have hen : (s.actWaits d).on F.FUR_RUN_EN = s.on F.FUR_RUN_EN := rfl
  rw [hstate, hen]
  split
  · rfl
  · have hacts : (s.actWaits d).furActivate = (s.actWaits d).actTaken.furSwitch d := State.furActivate_eq rfl
    have hswitch : (s.actWaits d).actTaken.furSwitch d = _ := State.furSwitch_eq (s := (s.actWaits d).actTaken) (p := p) d hother
    rw [hacts, hswitch]
    have htold (x : State) : State.KeepsFurrow id ∅ x ((x.furEvent 6 0 0 0 0 none).complete 30 d {}) := (State.KeepsFurrow.furEvent x _ _ _ _ _ _).trans (.complete _ _ _ _)
    have hreg (x : State) : ((x.furEvent 6 0 0 0 0 none).complete 30 d {}).reg Reg.FUR_PROGID = x.reg Reg.FUR_PROGID :=
      (htold x).reg _ (by decide) (Set.notMem_empty _)
    have hfur (x : State) : ((x.furEvent 6 0 0 0 0 none).complete 30 d {}).fur = x.fur := (htold x).fur
    have hpermits : ((s.actWaits d).actTaken.permitsReturned d p).fur = (s.actWaits d).actTaken.fur.switched p (d.le 16 1) :=
      (State.permitsReturned_keeps (U := id) (S := ∅) _ d p).fur
    have hsw : (s.actWaits d).actTaken.fur.switched p (d.le 16 1) =
        { (s.actWaits d).actTaken.fur with active := some p, other := s.fur.active, badCode := [], first := true, subst := [] } := by
      rw [hmode]
      rfl
    dsimp only
    rw [hreg, hfur, State.progRegs_id, State.progRegs_fur, hpermits, hsw]
    exact ⟨rfl, rfl, rfl, rfl, rfl, fun _ => rfl⟩

/-- Settles O25: a boundary by the scan it finds, the commands by whether Furrow runs. -/
theorem furrowCommandsComplete : Obligations.FurrowCommandsComplete := by
  unfold Obligations.FurrowCommandsComplete
  refine ⟨?_, ?_, ?_, ?_, ?_, ?_, ?_, ?_, ?_, ?_, ?_⟩
  · exact fun s p hbed hdue hswitch hrun hen hscan hact hp => execCycleBoundary_starts hbed hdue hswitch hrun hen hscan hact hp
  · exact fun s p sc e hbed hdue hswitch hrun hen hscan hended hact hp => execCycleBoundary_goesOn hbed hdue hswitch hrun hen hscan hended hact hp
  · exact fun s sc hbed hdue hswitch hrun hscan hended hover => execCycleBoundary_overruns hbed hdue hswitch hrun hscan hended hover
  · exact fun s sc p hbed hdue hswitch hrun hen hmax hscan hended hover hact hp =>
      execCycleBoundary_aborts hbed hdue hswitch hrun hen hmax hscan hended hover hact hp
  · exact fun s a v hacc hoff => execFurrowEnable_enables hacc hoff
  · exact fun s a hacc hlisted => execFurrowDisable_disables hacc hlisted
  · exact fun s q d hbed hq hwait hstat => execSetval_sets hbed hq hwait hstat
  · exact fun s q d hbed hq hwait hstat => execSetval_refuses hbed hq hwait hstat
  · exact fun s q d hbed hq hwait => execReadmem_reads hbed hq hwait
  · exact fun s d hbed hrun halign hrange hclean => execProgload_loads hbed hrun halign hrange hclean
  · exact fun s d p hbed hrun hact hother _ hmode hlayout => execProgact_activates hbed hrun hact hother hmode hlayout

end Sys2Proof.Machine
end

section
/-! SUPPORT. What the reports of a NAND operation leave alone (R428-R436, R451): the pages, a failure shown and the registers of block NFL but those of
the status and the log. -/

namespace Sys2Proof.Machine

/-- The registers in which the status and the log of block NFL show. -/
def nflLogRegs : Set Nat := {k | k = Reg.NFL_STAT ∨ k = Reg.NFL_LOGHEAD ∨ ∃ i j, k = Reg.NFL_LOGk_W i j}

theorem nflBits_notLog (c : Nat) : Reg.NFL_CHc_BITS c ∉ nflLogRegs := by
  simp only [nflLogRegs, Set.mem_ofPred_eq, Reg.NFL_CHc_BITS, Reg.NFL_STAT, Reg.NFL_LOGHEAD, Reg.NFL_LOGk_W, not_or, not_exists]
  exact ⟨by omega, by omega, fun i j => by omega⟩

/-- `t` keeps of `s` the pages, the registers of block NFL but those of the status and the log, and a failure shown. -/
structure State.NandTold (s t : State) : Prop where
  pages : t.nand.pages = s.nand.pages
  reg : ∀ k, k / 0x1000 = 0x12 → k ∉ nflLogRegs → t.reg k = s.reg k
  fail : s.rd F.NFL_STAT_FAIL = 1 → t.rd F.NFL_STAT_FAIL = 1

namespace State.NandTold

variable {s t u : State}

theorem refl (s : State) : NandTold s s := ⟨rfl, fun _ _ _ => rfl, id⟩

theorem trans (h : NandTold s t) (h' : NandTold t u) : NandTold s u :=
  ⟨h'.pages.trans h.pages, fun k hk hS => (h'.reg k hk hS).trans (h.reg k hk hS), fun hf => h'.fail (h.fail hf)⟩

theorem ite (c : Prop) [Decidable c] (h : c → NandTold s t) (h' : ¬ c → NandTold s u) : NandTold s (if c then t else u) := by
  split
  · exact h ‹_›
  · exact h' ‹_›

theorem of_regs (hpages : t.nand.pages = s.nand.pages) (hreg : ∀ k, k / 0x1000 = 0x12 → t.reg k = s.reg k) : NandTold s t :=
  ⟨hpages, fun k hk _ => hreg k hk, fun h => (State.rd_congr (hreg _ rfl)).trans h⟩

theorem of_affects {T : Set Nat} (h : AffectsOnly T s t) (hT : ∀ k ∈ T, k / 0x1000 ≠ 0x12) : NandTold s t :=
  of_regs (h.part (fun x => x.nand.pages) fun _ _ => rfl) fun k hk => h.reg k (notEntry (by omega)) fun hkT => hT k hkT hk

theorem of_affectsNone (h : AffectsOnly ∅ s t) : NandTold s t := of_affects h fun k hk => absurd hk (Set.notMem_empty k)

theorem record (s : State) (src ev sev p0 p1 p2 : Nat) : NandTold s (s.record src ev sev p0 p1 p2) := of_affectsNone (.record _ _ _ _ _ _ _)

theorem complete (s : State) (q : Nat) (d : Desc) (r : Result) : NandTold s (s.complete q d r) := of_affectsNone (.complete _ _ _ _)

theorem wideAdd (s : State) (k n : Nat) : NandTold s (s.wideAdd k n) := of_affectsNone (.wideAdd _ _ _)

/-- A write of a register of block NFL that shows status or log, beside FAIL or setting it. -/
theorem flag (s : State) {stat : Fld} (ie : Fld) (haddr : stat.addr = Reg.NFL_STAT) (h : stat.apart F.NFL_STAT_FAIL = true ∨ stat = F.NFL_STAT_FAIL) :
    NandTold s (s.flag stat ie) := by
  have hwr : NandTold s (s.wr stat 1) := by
    refine ⟨rfl, fun k _ hS => s.reg_wr_other 1 fun e => hS ?_, fun hf => ?_⟩
    · rw [e, haddr]
      exact .inl rfl
    · obtain hap | rfl := h
      · exact (s.rd_wr_apart 1 hap).trans hf
      · exact s.rd_wr_fits (by decide) (by decide)
  exact hwr.trans (of_affectsNone (.notify _ _ _))

theorem setLog (s : State) (i j : Nat) (w : W32) : NandTold s (s.setReg (Reg.NFL_LOGk_W i j) w) := by
  refine ⟨rfl, fun k _ hS => s.reg_setReg_other w fun e => hS (.inr (.inr ⟨i, j, e⟩)), fun hf => ?_⟩
  refine (State.rd_congr (s.reg_setReg_other w ?_)).trans hf
  change Reg.NFL_STAT ≠ Reg.NFL_LOGk_W i j
  unfold Reg.NFL_STAT Reg.NFL_LOGk_W
  omega

theorem wrHead (s : State) {f : Fld} (v : Nat) (h : f.addr = Reg.NFL_LOGHEAD) : NandTold s (s.wr f v) := by
  refine ⟨rfl, fun k _ hS => s.reg_wr_other v fun e => hS ?_, fun hf => (s.rd_wr_other v ?_).trans hf⟩
  · rw [e, h]
    exact .inr (.inl rfl)
  · rw [h]
    decide

/-! ### What Terrace does when an operation reports (R451) -/

theorem raiseTcode (s : State) (r k : Nat) : NandTold s (s.raiseTcode r k) :=
  ite _ (fun _ => of_regs rfl fun _ _ => rfl) fun _ => refl s

theorem withTer (s : State) (x : Terrace) : NandTold s { s with ter := x } := of_regs rfl fun _ _ => rfl

theorem wrTer (s : State) {f : Fld} (v : Nat) (h : f.addr / 0x1000 = 0x13) : NandTold s (s.wr f v) :=
  of_affects (.wr (S := {k | k / 0x1000 = 0x13}) s v (.inl h)) fun k hk h12 => absurd (h12.symm.trans hk) (by decide)

theorem wearRegs (s : State) : NandTold s s.wearRegs :=
  ((((wrTer s _ rfl).trans (wrTer _ _ rfl)).trans (wrTer _ _ rfl)).trans (wrTer _ _ rfl)).trans (wrTer _ _ rfl)

theorem terHigh (s : State) (p : Nat) : NandTold s (s.terHigh p) := ite _ (fun _ => raiseTcode s _ _) fun _ => refl s

theorem terErase (s : State) (p : Nat) : NandTold s (s.terErase p) :=
  ite _ (fun _ => refl s) fun _ => ((withTer s _).trans (raiseTcode _ _ _)).trans (wearRegs _)

theorem terRetire (s : State) (p : Nat) : NandTold s (s.terRetire p) := by
  refine ite _ (fun _ => refl s) fun _ => ?_
  have hwear : NandTold s { s with ter := { s.ter with retired := insertNat (p / 1024) s.ter.retired } }.wearRegs := (withTer s _).trans (wearRegs _)
  generalize { s with ter := { s.ter with retired := insertNat (p / 1024) s.ter.retired } }.wearRegs = x at hwear
  refine ite _ (fun _ => hwear.trans ?_) fun _ => hwear
  have hflag : NandTold x (x.flag F.TER_STAT_WEARWARN F.TER_CTL_IE_WEAR) :=
    (wrTer x (f := F.TER_STAT_WEARWARN) 1 rfl).trans (of_affectsNone (.notify _ _ _))
  exact hflag.trans (of_affectsNone (State.TerraceTo.terEvent_affects _ _ _ _ _))

/-- An entry of the log. -/
theorem logEntry (s : State) (i n w0 w1 w2 w3 : Nat) : NandTold s (((((s.setReg (Reg.NFL_LOGk_W i 0) (BitVec.ofNat 32 w0)).setReg (Reg.NFL_LOGk_W i 1)
    (BitVec.ofNat 32 w1)).setReg (Reg.NFL_LOGk_W i 2) (BitVec.ofNat 32 w2)).setReg (Reg.NFL_LOGk_W i 3) (BitVec.ofNat 32 w3)).wr F.NFL_LOGHEAD_COUNT n) :=
  ((((setLog s _ _ _).trans (setLog _ _ _ _)).trans (setLog _ _ _ _)).trans (setLog _ _ _ _)).trans (wrHead _ _ rfl)

theorem nflLog (s : State) (type tcode src bits p meta0 : Nat) : NandTold s (s.nflLog type tcode src bits p meta0) := by
  unfold State.nflLog
  extract_lets n k put w0 t u
  have ht : NandTold s t := ite _ (fun _ => flag s _ rfl (.inl rfl)) fun _ => logEntry s _ _ _ _ _ _
  clear_value t
  have hu : NandTold t u := ite _ (fun _ => terHigh t p) fun _ => ite _ (fun _ => terRetire t p) fun _ => refl t
  exact ite _ (fun _ => (ht.trans hu).trans (of_affectsNone (.triggerTest u _))) fun _ => ht.trans hu

theorem packCount (s : State) (c : Nat) : NandTold s (s.packCount c) := by
  refine ite _ (fun _ => refl s) fun _ => ?_
  have hwear : NandTold s { s with nand := { s.nand with wear := SMap.set (fun _ => 0) s.nand.wear c (SMap.get (fun _ => 0) s.nand.wear c + 1) } } :=
    of_regs rfl fun _ _ => rfl
  exact ite _ (fun _ => (hwear.trans (flag _ _ rfl (.inl rfl))).trans (record _ _ _ _ _ _ _)) fun _ => hwear

end State.NandTold

end Sys2Proof.Machine
end

section
/-! SUPPORT. The NAND operations (R428-R435), each by what its page and its source are. -/

namespace Sys2Proof.Machine

/-! ### Pages stored -/

theorem State.nandStore_page (s : State) (p : Nat) (b : Bytes) : SMap.get (fun _ => []) (s.nandStore p b).nand.pages p =
    if SMap.get (fun _ => []) s.nand.pages p = [] then b else (List.range pageSize).map (fun i => Config.freeByte s.free i) :=
  SMap.get_set_same _ _ _ _

theorem State.nandFree_affects (s : State) (p : Nat) : (s.nandFree p).regs = s.regs := rfl

theorem State.nandFree_rd (s : State) (p : Nat) (f : Fld) : (s.nandFree p).rd f = s.rd f := rfl

theorem State.blockFree_rd (s : State) (p : Nat) (f : Fld) : (s.blockFree p).rd f = s.rd f :=
  foldl_keeps (I := fun x : State => x.rd f = s.rd f) _ s rfl fun x e _ hx => (x.nandFree_rd e.1 f).trans hx

/-! ### A failure of the device (R435) -/

/-- The flag of a failure set. -/
theorem State.nandFail_shows (s : State) (src p type : Nat) : (s.nandFail src p type).1.rd F.NFL_STAT_FAIL = 1 := by
  unfold State.nandFail
  extract_lets c t u
  have hflag : (t.flag F.NFL_STAT_FAIL F.NFL_CTL_IE_FAIL).rd F.NFL_STAT_FAIL = 1 := t.flag_rd_same (by decide) rfl
  exact (State.NandTold.record u _ _ _ _ _ _).fail ((State.NandTold.nflLog _ _ _ _ _ _ _).fail hflag)

theorem State.nandComplete_fail {s : State} (q : Nat) (d : Desc) (r : Result) (h : s.rd F.NFL_STAT_FAIL = 1) :
    (s.complete q d r).rd F.NFL_STAT_FAIL = 1 := (State.NandTold.complete s q d r).fail h

/-! ### A poisoned source (R434) -/

theorem State.srcPoison_shows (s : State) (q : Nat) (d : Desc) (r : Result) : (s.srcPoison.1.complete q d r).nand = s.nand ∧
    (s.srcPoison.1.complete q d r).rd F.NFL_STAT_POISON = 1 := by
  have haff : State.AffectsOnly {Reg.NFL_POISCNT, Reg.NFL_STAT} s s.srcPoison.1 :=
    (State.AffectsOnly.inc s (.inl (.inl rfl))).trans (.flag _ _ (.inl (.inr rfl)))
  have hflag : s.srcPoison.1.rd F.NFL_STAT_POISON = 1 := State.flag_rd_same _ (by decide) rfl
  generalize s.srcPoison.1 = x at haff hflag
  have hdone := State.AffectsOnly.complete (S := ∅) x q d r
  exact ⟨(hdone.part (fun y => y.nand) fun _ _ => rfl).trans (haff.part (fun y => y.nand) fun _ _ => rfl),
    (hdone.rd (notEntry (by decide)) (Set.notMem_empty _)).trans hflag⟩

section
variable {s : State} {q : Nat} {d : Desc}

/-- An operation of ring 68 or 70 carried out. -/
theorem State.nflServe_of_running {op : Nat} (f : Desc → State → State × NandOut) (hq : q = 68 ∨ q = 70) (hrun : s.running q op = some d) :
    s.nflServe q op f = (f d s).1.complete q d (f d s).2.result := (if_pos hq).trans (State.serve_of_running _ hrun)

theorem nflSource_ne (q : Nat) : nflSource q ≠ 2 := by
  unfold nflSource
  split <;> decide

/-! ### NAND_READ (R428, R431) -/

/-- A page read with `e` bits corrected under `t`. -/
theorem State.readCounts_last (s : State) (c e t : Nat) :
    (s.readCounts c e t).rd (F.NFL_CHc_BITS_LAST c) = min e (maxOf (F.NFL_CHc_BITS_LAST c).width) := by
  unfold State.readCounts
  extract_lets x y
  have hlast : y.rd (F.NFL_CHc_BITS_LAST c) = min e (maxOf (F.NFL_CHc_BITS_LAST c).width) :=
    (State.rd_wr_apart _ _ rfl).trans (x.rd_wrSat_same _ _ (show 15 < 32 by decide))
  refine (State.rd_wr_other _ _ ?_).trans hlast
  change Reg.NFL_CHc_BITS c ≠ Reg.NFL_CHc_HISTq c (min 3 (4 * e / t))
  unfold Reg.NFL_CHc_BITS Reg.NFL_CHc_HISTq
  omega

/-- What a page that decodes leaves in the count of corrected bits. -/
theorem State.decodePage_corrects (s : State) {page : Bytes} (src p dest : Nat) {k : Nat} {errs : List Nat} (hprog : ¬ zeroBits page ≤ 8)
    (hcode : pageTcode page = some k) (herrs : bchErrors (8 * k) (received (8 * k) page) = some errs) (q : Nat) (d : Desc) (r : Result) :
    ((s.decodePage page src p dest).1.complete q d r).rd (F.NFL_CHc_BITS_LAST (nandChan p)) =
      min errs.length (maxOf (F.NFL_CHc_BITS_LAST (nandChan p)).width) := by
  have hbits : (F.NFL_CHc_BITS_LAST (nandChan p)).addr / 0x1000 = 0x12 := by
    change Reg.NFL_CHc_BITS (nandChan p) / 0x1000 = 0x12
    unfold Reg.NFL_CHc_BITS
    omega
  have hkeep {x y : State} (h : State.NandTold x y) : y.rd (F.NFL_CHc_BITS_LAST (nandChan p)) = x.rd (F.NFL_CHc_BITS_LAST (nandChan p)) :=
    State.rd_congr (h.reg _ hbits (nflBits_notLog _))
  have hdecode : (s.decodePage page src p dest).1 = if 3 * (8 * k) ≤ 4 * errs.length then
      ((s.put dest ((correctPage (8 * k) page errs).take pageData)).readCounts (nandChan p) errs.length (8 * k)).nflLog 3 k src errs.length p
        (leAt (correctPage (8 * k) page errs) pageData 4)
      else (s.put dest ((correctPage (8 * k) page errs).take pageData)).readCounts (nandChan p) errs.length (8 * k) := by
    unfold State.decodePage
    dsimp only
    rw [if_neg hprog, hcode]
    dsimp only
    rw [herrs]
  rw [hdecode, hkeep (.complete _ _ _ _)]
  split
  · exact (hkeep (.nflLog _ _ _ _ _ _ _)).trans (State.readCounts_last _ _ _ _)
  · exact State.readCounts_last _ _ _ _

theorem execNandRead_reads (flips : List Nat) (hq : q = 68 ∨ q = 70) (hrun : s.running q 1 = some d) :
    Completes (.nandRead q flips) s (fun t => if s.bufStatus (d.le 24 8) pageData ≠ 0 then
        t = s.complete q d ({ status := s.bufStatus (d.le 24 8) pageData } : NandOut).result
      else if s.badPage (nflSource q) (d.le 16 4) = true then t = s.complete q d ({ status := 0x45 } : NandOut).result
      else if zeroBits (flipBits (s.nandPage (d.le 16 4)) flips) ≤ 8 then
        t = ((s.put (d.le 24 8) (List.replicate pageData 0xFF)).wideAdd Reg.NFL_RDCNT_LO 1).complete q d
          ({ erased := true, info := List.replicate pageMeta 0xFF } : NandOut).result
      else (pageTcode (flipBits (s.nandPage (d.le 16 4)) flips)).all (fun k =>
        (bchErrors (8 * k) (received (8 * k) (flipBits (s.nandPage (d.le 16 4)) flips))).all (fun e =>
          decide (t.rd (F.NFL_CHc_BITS_LAST (nandChan (d.le 16 4))) = min e.length (maxOf (F.NFL_CHc_BITS_LAST (nandChan (d.le 16 4))).width)))) = true) := by
  refine ⟨_, congrArg Host.Outcome.next (State.nflServe_of_running _ hq hrun), ?_⟩
  dsimp only
  unfold State.nandRead
  generalize flipBits (s.nandPage (d.le 16 4)) flips = page
  split
  · rfl
  · split
    · rfl
    · split
      · next h =>
        unfold State.decodePage
        dsimp only
        rw [if_pos h]
      · next hprog =>
        cases hcode : pageTcode page with
        | none => rfl
        | some k =>
          rw [Option.all_some]
          cases herrs : bchErrors (8 * k) (received (8 * k) page) with
          | none => rfl
          | some errs =>
            rw [Option.all_some, decide_eq_true_eq]
            exact s.decodePage_corrects _ _ _ hprog hcode herrs q d _

/-! ### NAND_PROGRAM and NAND_ERASE (R430, R433, R435) -/

/-- The region's entry noted as bad. -/
def State.strengthNoted (s : State) (r : Nat) (bad : Bool) : State :=
  if bad then { s with nand := { s.nand with strBad := insertNat r s.nand.strBad } } else s

theorem State.strengthNoted_pages (s : State) (r : Nat) (bad : Bool) : (s.strengthNoted r bad).nand.pages = s.nand.pages := by
  unfold State.strengthNoted
  split <;> rfl

theorem State.strengthNoted_mem (s : State) (r : Nat) (bad : Bool) : (s.strengthNoted r bad).mem = s.mem := by
  unfold State.strengthNoted
  split <;> rfl

theorem State.strengthNoted_tcode (s : State) (r : Nat) (bad : Bool) :
    (s.strengthNoted r bad).tcodeOf r = if bad = true then 20 else s.tcodeOf r := by
  cases bad with
  | false => rfl
  | true =>
    have hin : (insertNat r s.nand.strBad).contains r = true := List.contains_iff_mem.mpr (mem_insertNat_self _ _)
    exact if_pos hin

/-- A page programmed under the strength of its region. -/
theorem State.nandProgram_good {s : State} {src p a : Nat} (info : Bytes) (fail bad : Bool) (hsrc : src ≠ 2) (hbuf : s.bufStatus a pageData = 0)
    (hpage : s.badPage src p = false) (hclean : s.mem.poisoned a pageData = false) : s.nandProgram src p a info fail bad =
      if fail then ((((s.strengthNoted (nandRegion p) bad).wideAdd Reg.NFL_PGCNT_LO 1).nandFail src p 4).1.nandFree p,
        { (((s.strengthNoted (nandRegion p) bad).wideAdd Reg.NFL_PGCNT_LO 1).nandFail src p 4).2 with
          t := 8 * (s.strengthNoted (nandRegion p) bad).tcodeOf (nandRegion p) })
      else (((s.strengthNoted (nandRegion p) bad).wideAdd Reg.NFL_PGCNT_LO 1).nandStore p
          (pageOf (((s.strengthNoted (nandRegion p) bad).wideAdd Reg.NFL_PGCNT_LO 1).mem.readBytes a pageData) info
            ((s.strengthNoted (nandRegion p) bad).tcodeOf (nandRegion p))),
        { t := 8 * (s.strengthNoted (nandRegion p) bad).tcodeOf (nandRegion p) }) := by
  unfold State.nandProgram
  refine (if_neg fun h => h hbuf).trans ((if_neg fun h => Bool.noConfusion (hpage.symm.trans h)).trans
    ((if_neg fun h => Bool.noConfusion (hclean.symm.trans h)).trans ?_))
  dsimp only
  rw [if_neg hsrc]
  rfl

theorem execNandProgram_programs (fail bad : Bool) (hq : q = 68 ∨ q = 70) (hrun : s.running q 2 = some d) :
    Completes (.nandProgram q fail bad) s (fun t => if s.bufStatus (d.le 24 8) pageData ≠ 0 then
        t = s.complete q d ({ status := s.bufStatus (d.le 24 8) pageData } : NandOut).result
      else if s.badPage (nflSource q) (d.le 16 4) = true then t = s.complete q d ({ status := 0x45 } : NandOut).result
      else if s.mem.poisoned (d.le 24 8) pageData = true then t.nand = s.nand ∧ t.rd F.NFL_STAT_POISON = 1
      else if fail = true then t.rd F.NFL_STAT_FAIL = 1
      else if SMap.get (fun _ => []) s.nand.pages (d.le 16 4) = [] then SMap.get (fun _ => []) t.nand.pages (d.le 16 4) =
        pageOf (s.mem.readBytes (d.le 24 8) pageData) (d.payload.drop 16) (if bad = true then 20 else s.tcodeOf (nandRegion (d.le 16 4)))
      else (SMap.get (fun _ => []) t.nand.pages (d.le 16 4)).length = pageSize) := by
  refine ⟨_, congrArg Host.Outcome.next (State.nflServe_of_running _ hq hrun), ?_⟩
  dsimp only
  by_cases hbuf : s.bufStatus (d.le 24 8) pageData ≠ 0
  · rw [if_pos hbuf, State.nandProgram, if_pos hbuf]
  rw [if_neg hbuf]
  replace hbuf := not_not.mp hbuf
  cases hpage : s.badPage (nflSource q) (d.le 16 4) with
  | true =>
    rw [if_pos rfl, State.nandProgram, if_neg fun h => h hbuf, if_pos hpage]
  | false =>
    rw [if_neg Bool.false_ne_true]
    cases hclean : s.mem.poisoned (d.le 24 8) pageData with
    | true =>
      rw [if_pos rfl, State.nandProgram, if_neg fun h => h hbuf, if_neg fun h => Bool.noConfusion (hpage.symm.trans h), if_pos hclean]
      exact s.srcPoison_shows q d _
    | false =>
      rw [if_neg Bool.false_ne_true, State.nandProgram_good _ fail bad (nflSource_ne q) hbuf hpage hclean]
      cases fail with
      | true =>
        rw [if_pos rfl, if_pos rfl]
        refine State.nandComplete_fail q d _ ((State.nandFree_rd _ _ _).trans (State.nandFail_shows _ _ _ _))
      | false =>
        rw [if_neg Bool.false_ne_true, if_neg Bool.false_ne_true]
        have hmem : ((s.strengthNoted (nandRegion (d.le 16 4)) bad).wideAdd Reg.NFL_PGCNT_LO 1).mem = s.mem := s.strengthNoted_mem _ _
        have hpages : ((s.strengthNoted (nandRegion (d.le 16 4)) bad).wideAdd Reg.NFL_PGCNT_LO 1).nand.pages = s.nand.pages :=
          s.strengthNoted_pages _ _
        rw [(State.NandTold.complete _ _ _ _).pages]
        dsimp only
        rw [State.nandStore_page, hpages, hmem, State.strengthNoted_tcode]
        split
        · rfl
        · rw [List.length_map, List.length_range]

/-- A block erased. -/
def State.blockErased (t : State) (p : Nat) : State :=
  { t with nand := { t.nand with pages := SMap.keep (fun k => decide (k / 1024 ≠ p / 1024)) t.nand.pages } }

/-- The erase of a block counted. -/
def State.eraseCounted (s : State) (p : Nat) : State := ((s.wideAdd Reg.NFL_ERCNT_LO 1).packCount (nandChan p)).terErase p

theorem State.eraseCounted_told (s : State) (p : Nat) : State.NandTold s (s.eraseCounted p) :=
  ((State.NandTold.wideAdd s _ _).trans (.packCount _ _)).trans (.terErase _ _)

theorem State.nandErase_good {s : State} {src p : Nat} (fail : Bool) (hsrc : src ≠ 2) (halign : p % 1024 = 0) (hpage : s.badPage src p = false) :
    s.nandErase src p fail = if fail then (((s.eraseCounted p).nandFail src p 5).1.blockFree p, ((s.eraseCounted p).nandFail src p 5).2)
      else ((s.eraseCounted p).blockErased p, {}) := by
  unfold State.nandErase
  refine (if_neg fun h => h halign).trans ((if_neg fun h => Bool.noConfusion (hpage.symm.trans h)).trans ?_)
  dsimp only
  rw [if_neg hsrc]
  rfl

theorem execNandErase_erases (fail : Bool) (hq : q = 68 ∨ q = 70) (hrun : s.running q 3 = some d) :
    Completes (.nandErase q fail) s (fun t => if d.le 16 4 % 1024 ≠ 0 then t = s.complete q d ({ status := 2 } : NandOut).result
      else if s.badPage (nflSource q) (d.le 16 4) = true then t = s.complete q d ({ status := 0x45 } : NandOut).result
      else if fail = true then t.rd F.NFL_STAT_FAIL = 1
      else t.nand.pages = SMap.keep (fun k => decide (k / 1024 ≠ d.le 16 4 / 1024)) s.nand.pages) := by
  refine ⟨_, congrArg Host.Outcome.next (State.nflServe_of_running _ hq hrun), ?_⟩
  dsimp only
  by_cases halign : d.le 16 4 % 1024 ≠ 0
  · rw [if_pos halign, State.nandErase, if_pos halign]
  rw [if_neg halign]
  replace halign := not_not.mp halign
  cases hpage : s.badPage (nflSource q) (d.le 16 4) with
  | true => rw [if_pos rfl, State.nandErase, if_neg fun h => h halign, if_pos hpage]
  | false =>
    rw [if_neg Bool.false_ne_true, State.nandErase_good fail (nflSource_ne q) halign hpage]
    cases fail with
    | true =>
      rw [if_pos rfl, if_pos rfl]
      exact State.nandComplete_fail q d _ ((State.blockFree_rd _ _ _).trans (State.nandFail_shows _ _ _ _))
    | false =>
      rw [if_neg Bool.false_ne_true, if_neg Bool.false_ne_true, (State.NandTold.complete _ _ _ _).pages]
      exact congrArg (SMap.keep fun k => decide (k / 1024 ≠ d.le 16 4 / 1024)) (s.eraseCounted_told _).pages

/-! ### Raw mode (R432) -/

theorem execRawread_reads (flips : List Nat) (hrun : s.running 70 0x10 = some d) :
    Completes (.rawread flips) s (fun t => if s.on F.NFL_CTL_RAWEN = false then t = s.complete 70 d ({ status := 0x44 } : NandOut).result
      else if s.bufStatus (d.le 24 8) pageSize ≠ 0 then t = s.complete 70 d ({ status := s.bufStatus (d.le 24 8) pageSize } : NandOut).result
      else if s.badPage 1 (d.le 16 4) = true then t = s.complete 70 d ({ status := 0x45 } : NandOut).result
      else t = ((s.put (d.le 24 8) (flipBits (s.nandPage (d.le 16 4)) flips)).wideAdd Reg.NFL_RDCNT_LO 1).complete 70 d ({} : NandOut).result) := by
  refine ⟨_, congrArg Host.Outcome.next (State.nflServe_of_running _ (.inr rfl) hrun), ?_⟩
  dsimp only
  cases s.on F.NFL_CTL_RAWEN with
  | false => rfl
  | true =>
    rw [if_neg fun h => Bool.noConfusion h, if_pos rfl]
    split
    · rfl
    · split <;> rfl

theorem execRawprog_programs (fail : Bool) (hrun : s.running 70 0x11 = some d) (hraw : s.on F.NFL_CTL_RAWEN = true)
    (hbuf : s.bufStatus (d.le 24 8) pageSize = 0) (hzeros : d.zeros 32 32 = true) (hpage : s.badPage 1 (d.le 16 4) = false) :
    Completes (.rawprog fail) s (fun t => if s.mem.poisoned (d.le 24 8) pageSize = true then t.nand = s.nand ∧ t.rd F.NFL_STAT_POISON = 1
      else if fail = true then t.rd F.NFL_STAT_FAIL = 1
      else SMap.get (fun _ => []) s.nand.pages (d.le 16 4) = [] → SMap.get (fun _ => []) t.nand.pages (d.le 16 4) = s.mem.readBytes (d.le 24 8) pageSize) := by
  refine ⟨_, congrArg Host.Outcome.next (State.nflServe_of_running _ (.inr rfl) hrun), ?_⟩
  dsimp only
  rw [if_pos hraw, if_neg (show ¬ s.bufStatus (d.le 24 8) pageSize ≠ 0 from fun h => h hbuf),
    if_neg (show ¬ d.zeros 32 32 = false from fun h => Bool.noConfusion (hzeros.symm.trans h)),
    if_neg (show ¬ s.badPage 1 (d.le 16 4) = true from fun h => Bool.noConfusion (hpage.symm.trans h))]
  cases hclean : s.mem.poisoned (d.le 24 8) pageSize with
  | true =>
    rw [if_pos rfl, if_pos rfl]
    exact s.srcPoison_shows 70 d _
  | false =>
    rw [if_neg Bool.false_ne_true, if_neg Bool.false_ne_true]
    cases fail with
    | true =>
      rw [if_pos rfl, if_pos rfl]
      exact State.nandComplete_fail 70 d _ ((State.nandFree_rd _ _ _).trans (State.nandFail_shows _ _ _ _))
    | false =>
      rw [if_neg Bool.false_ne_true, if_neg Bool.false_ne_true]
      intro hold
      rw [(State.NandTold.complete _ _ _ _).pages]
      exact (State.nandStore_page _ _ _).trans (if_pos hold)

theorem execDecode_decodes (hrun : s.running 70 0x12 = some d) :
    Completes .decode s (fun t => if s.on F.NFL_CTL_RAWEN = false then t = s.complete 70 d ({ status := 0x44 } : NandOut).result
      else if s.bufStatus (d.le 24 8) pageData ≠ 0 then t = s.complete 70 d ({ status := s.bufStatus (d.le 24 8) pageData } : NandOut).result
      else if s.bufStatus (d.le 32 8) pageSize ≠ 0 then t = s.complete 70 d ({ status := s.bufStatus (d.le 32 8) pageSize } : NandOut).result
      else if s.mem.poisoned (d.le 32 8) pageSize = true then t.nand = s.nand ∧ t.rd F.NFL_STAT_POISON = 1
      else zeroBits (s.mem.readBytes (d.le 32 8) pageSize) ≤ 8 → t = ((s.put (d.le 24 8) (List.replicate pageData 0xFF)).wideAdd Reg.NFL_RDCNT_LO 1).complete
        70 d ({ erased := true, info := List.replicate pageMeta 0xFF } : NandOut).result) := by
  refine ⟨_, congrArg Host.Outcome.next (State.nflServe_of_running _ (.inr rfl) hrun), ?_⟩
  dsimp only
  cases s.on F.NFL_CTL_RAWEN with
  | false => rfl
  | true =>
    rw [if_neg fun h => Bool.noConfusion h, if_pos rfl]
    split
    · rfl
    · split
      · rfl
      · split
        · exact s.srcPoison_shows 70 d _
        · intro herased
          unfold State.decodePage
          dsimp only
          rw [if_pos herased]

end

/-- Settles O41: the operations by their buffer, their page and their source. -/
theorem nandCommandsComplete : Obligations.NandCommandsComplete := by
  unfold Obligations.NandCommandsComplete
  refine ⟨?_, ?_, ?_, ?_, ?_, ?_⟩
  · exact fun s q flips d hq hrun => execNandRead_reads flips hq hrun
  · exact fun s q fail bad d hq hrun => execNandProgram_programs fail bad hq hrun
  · exact fun s q fail d hq hrun => execNandErase_erases fail hq hrun
  · exact fun s flips d hrun => execRawread_reads flips hrun
  · exact fun s fail d hrun hraw hbuf hzeros hpage => execRawprog_programs fail hrun hraw hbuf hzeros hpage
  · exact fun s d hrun => execDecode_decodes hrun

end Sys2Proof.Machine
end

section
/-! SUPPORT. The content of Terrace's blocks (R440, R451-R455): what keeps it, what a write and a deallocation make of it. -/

namespace Sys2Proof.Machine

/-- Every key kept reads as before and every other as its default. -/
theorem SMap.get_keep {α : Type} (d : Nat → α) (p : Nat → Bool) (m : SMap α) (k : Nat) :
    SMap.get d (SMap.keep p m) k = if p k = true then SMap.get d m k else d k := by
  induction m with
  | nil => exact (ite_self _).symm
  | cons e r ih =>
    obtain ⟨j, v⟩ := e
    unfold SMap.keep at ih ⊢
    rw [List.filter_cons]
    by_cases hjk : j = k
    · subst hjk
      by_cases hj : p j = true
      · rw [if_pos hj, if_pos hj]
        exact (if_pos rfl : SMap.get d ((j, v) :: _) j = v).trans (if_pos rfl : SMap.get d ((j, v) :: r) j = v).symm
      · rw [if_neg hj, ih, if_neg hj, if_neg hj]
    · have hget : SMap.get d ((j, v) :: r) k = SMap.get d r k := if_neg hjk
      rw [hget, ← ih]
      split
      · exact if_neg hjk
      · rfl

theorem length_fitBytes (n : Nat) (b : Bytes) : (fitBytes n b).length = n := by
  unfold fitBytes
  rw [List.length_take, List.length_append, List.length_replicate]
  omega

theorem fitBytes_of_length {n : Nat} {b : Bytes} (h : b.length = n) : fitBytes n b = b := by
  unfold fitBytes
  rw [List.take_append_of_le_length (le_of_eq h.symm), ← h, List.take_length]

theorem fitBytes_fitBytes (n : Nat) (b : Bytes) : fitBytes n (fitBytes n b) = fitBytes n b := fitBytes_of_length (length_fitBytes n b)

theorem fitBytes_nil (n : Nat) : fitBytes n [] = List.replicate n 0 := by
  unfold fitBytes
  rw [List.nil_append, List.take_replicate, Nat.min_self]

/-- `t` holds the blocks, the namespaces and the hosts' completions of `s`. -/
structure State.ContentKept (s t : State) : Prop where
  blocks : t.ter.blocks = s.ter.blocks
  nss : t.ter.nss = s.ter.nss
  cpls : t.ter.cpls = s.ter.cpls

namespace State.ContentKept

variable {s t u : State}

theorem refl (s : State) : ContentKept s s := ⟨rfl, rfl, rfl⟩

theorem trans (h : ContentKept s t) (h' : ContentKept t u) : ContentKept s u :=
  ⟨h'.blocks.trans h.blocks, h'.nss.trans h.nss, h'.cpls.trans h.cpls⟩

theorem ite (c : Prop) [Decidable c] (h : c → ContentKept s t) (h' : ¬ c → ContentKept s u) : ContentKept s (if c then t else u) := by
  split
  · exact h ‹_›
  · exact h' ‹_›

theorem foldl {α : Type*} (f : State → α → State) (h : ∀ (x : State) a, ContentKept x (f x a)) (l : List α) (s : State) :
    ContentKept s (l.foldl f s) :=
  List.foldlRecOn (motive := fun x : State => ContentKept s x) l f (refl s) fun x hx a _ => hx.trans (h x a)

theorem of_ter (h : t.ter = s.ter) : ContentKept s t :=
  ⟨congrArg Terrace.blocks h, congrArg Terrace.nss h, congrArg Terrace.cpls h⟩

theorem of_affects {S : Set Nat} (h : s.AffectsOnly S t) : ContentKept s t := of_ter (h.part State.ter fun _ _ => rfl)

theorem ns (h : ContentKept s t) (n : Nat) : t.ns n = s.ns n := by
  unfold State.ns
  rw [h.nss]

theorem blockOf (h : ContentKept s t) (n lba : Nat) : t.blockOf n lba = s.blockOf n lba := by
  unfold State.blockOf
  rw [h.blocks]

theorem setExt (s : State) (k : Nat) (x : Ext) : ContentKept s (s.setExt k x) := ⟨rfl, rfl, rfl⟩

theorem setBad (s : State) (l : List Nat) : ContentKept s { s with ter := { s.ter with bad := l } } := ⟨rfl, rfl, rfl⟩

theorem setMove (s : State) (m : Option Move) : ContentKept s { s with ter := { s.ter with move := m } } := ⟨rfl, rfl, rfl⟩

theorem tickFree (s : State) : ContentKept s s.tickFree := ⟨rfl, rfl, rfl⟩

theorem wideAdd (s : State) (key n : Nat) : ContentKept s (s.wideAdd key n) := ⟨rfl, rfl, rfl⟩

theorem terRegs (s : State) : ContentKept s s.terRegs := by
  obtain ⟨b, h⟩ := State.TerraceTo.terRegs_affects s
  have hb : ContentKept s { s with ter := { s.ter with spaceTold := b } } := ⟨rfl, rfl, rfl⟩
  exact hb.trans (of_affects h)

theorem terPoison (s : State) (n lba : Nat) : ContentKept s (s.terPoison n lba) := of_affects (State.TerraceTo.terPoison_affects s n lba)

theorem clearBlock (s : State) (n lba : Nat) : ContentKept s (s.clearBlock n lba) := by
  unfold State.clearBlock
  extract_lets k x c _ t
  exact ite _ (fun _ => setExt s _ _) fun _ => (setBad s _).trans (ite _ (fun _ => setExt t _ _) fun _ => refl t)

theorem markBlock (s : State) (n lba : Nat) : ContentKept s (s.markBlock n lba) := by
  unfold State.markBlock
  extract_lets k x _ t
  have ht : ContentKept s t := (setExt s _ _).trans (tickFree _)
  exact ite _ (fun _ => refl s) fun _ => ite _ (fun _ => setBad s _) fun _ => ite _ (fun _ => ht.trans (setBad t _)) fun _ => setExt s _ _

theorem pcePoison (s : State) (d : Nat) : ContentKept s (s.pcePoison d) := by
  have hcount : ContentKept s (s.incBy F.PCE_POISCNT_CNT (1 + s.freshNat % 64)) := of_affects (S := Set.univ) (.incBy s _ (.inl (Set.mem_univ _)))
  have hlog (x : State) (v w : Nat) : ContentKept x (x.pceLog 6 (some d) v w) := of_affects (x.pceLog_affects _ _ _ _)
  have hflag (x : State) : ContentKept x (x.flag F.PCE_STAT_POISON F.PCE_CTL_IE_ERR) := of_affects (S := Set.univ) (.flag x _ (.inl (Set.mem_univ _)))
  exact ((hcount.trans (hlog _ _ _)).trans (hflag _)).trans ⟨rfl, rfl, rfl⟩

theorem takeExt (s : State) (k : Nat) (l : List Nat) : ContentKept s (s.takeExt k l) :=
  ((setExt s k _).trans (tickFree _)).trans (tickFree _)

theorem tokGive (s : State) (c : Nat) : ContentKept s (s.tokGive c) := of_affects (S := ∅) (.tokGive s c)

theorem moveAbandon (s : State) : ContentKept s s.moveAbandon := by
  unfold State.moveAbandon
  split
  · exact ((setMove s none).trans (setExt _ _ _)).trans (tokGive _ _)
  · exact refl s

theorem needExts (s : State) (n : Nat) (es : List Nat) : ContentKept s (s.needExts n es).1 := by
  unfold State.needExts
  extract_lets r
  have hr : ContentKept s r.1 := by
    refine List.foldlRecOn (motive := fun x : State × Nat => ContentKept s x.1) es _ (refl s) fun x hx e _ => ?_
    dsimp only
    split
    · exact hx
    · split
      · exact hx
      · split
        · split
          · exact hx
          · exact hx.trans (takeExt _ _ _)
        · split <;> exact hx
  split
  · exact hr
  · exact refl s

end State.ContentKept

theorem State.blockOf_congr {s t : State} (h : t.ter.blocks = s.ter.blocks) (n lba : Nat) : t.blockOf n lba = s.blockOf n lba := by
  unfold State.blockOf
  rw [h]

/-- The blocks with one of them replaced. -/
def State.withBlock (s : State) (n lba : Nat) (b : Bytes) : State :=
  { s with ter := { s.ter with blocks := SMap.set (fun _ => []) s.ter.blocks (blkKey n lba) (fitBytes blockBytes b) } }

/-- A write of a block keeps every content but that block's. -/
theorem State.writeBlock_keeps (s : State) (n lba : Nat) (b : Bytes) (poison whole : Bool) :
    State.ContentKept (s.withBlock n lba b) (s.writeBlock n lba b poison whole) := by
  unfold State.writeBlock
  extract_lets k _ t x lost u _ v w z
  have hu : State.ContentKept (s.withBlock n lba b) u := .setExt t _ _
  have hv : State.ContentKept u v := by
    unfold v
    split
    · exact .ite _ (fun _ => .setMove u _) fun _ => .refl u
    · exact .refl u
  have hw : State.ContentKept v w := .ite _ (fun _ => .wideAdd v _ _) fun _ => .refl v
  have hz : State.ContentKept w z := .markBlock w _ _
  refine ((hu.trans hv).trans hw).trans (.ite _ (fun _ => hz.trans (.ite _ (fun _ => (State.ContentKept.terPoison z _ _).trans (.pcePoison _ _)) fun _ => .refl z))
    fun _ => .ite _ (fun _ => .clearBlock w _ _) fun _ => .refl w)

theorem State.blockOf_withBlock_same (s : State) (n lba : Nat) (b : Bytes) : (s.withBlock n lba b).blockOf n lba = fitBytes 4096 b :=
  (congrArg (fitBytes blockBytes) (SMap.get_set_same _ _ _ _)).trans (fitBytes_fitBytes _ _)

theorem State.blockOf_withBlock_other (s : State) {n lba l : Nat} (b : Bytes) (h : l ≠ lba) : (s.withBlock n lba b).blockOf n l = s.blockOf n l :=
  congrArg (fitBytes blockBytes) (SMap.get_set_other _ _ _ (by unfold blkKey; omega))

theorem State.blockOf_writeBlock_same (s : State) (n lba : Nat) (b : Bytes) (poison whole : Bool) :
    (s.writeBlock n lba b poison whole).blockOf n lba = fitBytes 4096 b :=
  ((s.writeBlock_keeps n lba b poison whole).blockOf n lba).trans (s.blockOf_withBlock_same n lba b)

theorem State.blockOf_writeBlock_other (s : State) {n lba l : Nat} (b : Bytes) (poison whole : Bool) (h : l ≠ lba) :
    (s.writeBlock n lba b poison whole).blockOf n l = s.blockOf n l :=
  ((s.writeBlock_keeps n lba b poison whole).blockOf n l).trans (s.blockOf_withBlock_other b h)

theorem State.writeBlock_nss (s : State) (n lba : Nat) (b : Bytes) (poison whole : Bool) : (s.writeBlock n lba b poison whole).ter.nss = s.ter.nss :=
  (s.writeBlock_keeps n lba b poison whole).nss

theorem State.writeBlock_cpls (s : State) (n lba : Nat) (b : Bytes) (poison whole : Bool) : (s.writeBlock n lba b poison whole).ter.cpls = s.ter.cpls :=
  (s.writeBlock_keeps n lba b poison whole).cpls

/-! ### Deallocation -/

/-- What a deallocation of the range makes of the blocks. -/
def inRange (n lba cnt k : Nat) : Bool := decide (k / 2 ^ 42 = n) && decide (lba ≤ k % 2 ^ 42 ∧ k % 2 ^ 42 < lba + cnt)

theorem inRange_blkKey {n lba cnt l : Nat} (hl : l < 2 ^ 42) : inRange n lba cnt (blkKey n l) = decide (lba ≤ l ∧ l < lba + cnt) := by
  have hdiv : blkKey n l / 2 ^ 42 = n := by unfold blkKey; omega
  have hmod : blkKey n l % 2 ^ 42 = l := by unfold blkKey; omega
  unfold inRange
  rw [hdiv, hmod, decide_eq_true rfl, Bool.true_and]

/-- In a namespace of BLOCK kind the blocks of the range, and no others, are dropped. -/
theorem State.deallocRange_blocks (s : State) (n lba cnt : Nat) (hkind : (s.ns n).kind = 0) :
    (s.deallocRange n lba cnt).ter.blocks = SMap.keep (fun k => !inRange n lba cnt k) s.ter.blocks ∧
      (s.deallocRange n lba cnt).ter.nss = s.ter.nss ∧ (s.deallocRange n lba cnt).ter.cpls = s.ter.cpls := by
  unfold State.deallocRange
  extract_lets x whole inside t u _ v
  have hinside : inside = inRange n lba cnt := funext fun k => congrArg (decide (k / 2 ^ 42 = n) && ·) (if_pos hkind)
  have ht : State.ContentKept s t := by
    unfold t
    split
    · exact .ite _ (fun _ => .moveAbandon s) fun _ => .refl s
    · exact .refl s
  have hu : State.ContentKept s u := ht.trans (.ite _ (fun _ => .foldl _ (fun y i => .clearBlock y _ _) _ _) fun _ => .refl t)
  have hv : State.ContentKept v (whole.foldl (fun y e => y.setExt (extKey n e) {}) v) := .foldl _ (fun y e => .setExt y _ _) _ _
  refine ⟨hv.blocks.trans ?_, hv.nss.trans hu.nss, hv.cpls.trans hu.cpls⟩
  exact (congrArg (fun p => SMap.keep (fun k => !p k) u.ter.blocks) hinside).trans (congrArg (SMap.keep _) hu.blocks)

/-- A block whose key is dropped reads as zeros. -/
theorem State.blockOf_of_keep {s t : State} {p : Nat → Bool} (h : t.ter.blocks = SMap.keep p s.ter.blocks) {n lba : Nat} (hp : p (blkKey n lba) = false) :
    t.blockOf n lba = List.replicate 4096 0 := by
  unfold State.blockOf
  rw [h, SMap.get_keep, if_neg (fun hc => Bool.noConfusion (hp.symm.trans hc))]
  exact fitBytes_nil _

end Sys2Proof.Machine
end

section
/-! PROOFS. The input and output commands of the hosts (R384, R446, R455, R458, R459). -/

namespace Sys2Proof.Machine

theorem State.hostConn_id {s : State} {conn : Nat} {c : NvmeConn} (h : s.hostConn conn = some c) : c.id = conn :=
  of_decide_eq_true (List.find?_some (p := fun c : NvmeConn => decide (c.id = conn)) h)

theorem State.hostServe_of_conn {s : State} {conn : Nat} {c : NvmeConn} (hon : s.targetOn = true) (hc : s.hostConn conn = some c)
    (f : NvmeConn → State → State) : s.hostServe conn f = f c s := by
  unfold State.hostServe
  rw [if_pos hon, hc]

theorem State.hostRange_refused {s : State} {conn : Nat} {c : NvmeConn} (hon : s.targetOn = true) (hc : s.hostConn conn = some c) {nsid : Nat}
    (hex : s.exported nsid = false) (cid lba blocks : Nat) (bounded : Bool) (f : NvmeConn → Nat → State → State) :
    s.hostRange conn cid nsid lba blocks bounded f = (s.terCmd.hostFail c cid (0, 0x0B)).terRegs :=
  congrArg State.terRegs ((State.hostServe_of_conn hon hc _).trans (if_pos hex))

theorem State.hostRange_unbounded {s : State} {conn : Nat} {c : NvmeConn} (hon : s.targetOn = true) (hc : s.hostConn conn = some c) {nsid : Nat}
    (hex : s.exported nsid = true) (cid lba : Nat) {blocks : Nat} (hb : 256 < blocks) (f : NvmeConn → Nat → State → State) :
    s.hostRange conn cid nsid lba blocks true f = (s.terCmd.hostFail c cid (0, 2)).terRegs :=
  congrArg State.terRegs ((State.hostServe_of_conn hon hc _).trans ((if_neg (fun h => Bool.noConfusion (hex.symm.trans h))).trans (if_pos ⟨rfl, hb⟩)))

theorem State.hostRange_outside {s : State} {conn : Nat} {c : NvmeConn} (hon : s.targetOn = true) (hc : s.hostConn conn = some c) {nsid : Nat}
    (hex : s.exported nsid = true) (cid : Nat) {lba blocks : Nat} {bounded : Bool} (hb : ¬ (bounded = true ∧ 256 < blocks))
    (hout : (s.ns (nsid - 1)).size * 1024 < lba + blocks) (f : NvmeConn → Nat → State → State) :
    s.hostRange conn cid nsid lba blocks bounded f = (s.terCmd.hostFail c cid (0, 0x80)).terRegs :=
  congrArg State.terRegs ((State.hostServe_of_conn hon hc _).trans ((if_neg (fun h => Bool.noConfusion (hex.symm.trans h))).trans
    ((if_neg hb).trans (if_pos hout))))

theorem State.hostRange_runs {s : State} {conn : Nat} {c : NvmeConn} (hon : s.targetOn = true) (hc : s.hostConn conn = some c) {nsid : Nat}
    (hex : s.exported nsid = true) (cid : Nat) {lba blocks : Nat} {bounded : Bool} (hb : ¬ (bounded = true ∧ 256 < blocks))
    (hin : ¬ (s.ns (nsid - 1)).size * 1024 < lba + blocks) (f : NvmeConn → Nat → State → State) :
    s.hostRange conn cid nsid lba blocks bounded f = (f c (nsid - 1) s.terCmd).terRegs :=
  congrArg State.terRegs ((State.hostServe_of_conn hon hc _).trans ((if_neg (fun h => Bool.noConfusion (hex.symm.trans h))).trans
    ((if_neg hb).trans (if_neg hin))))

/-- The completion a host was sent last, once Terrace's registers have been brought up to date. -/
theorem State.hostCpl_last (s : State) (e : HostCpl) : (s.hostCpl e).terRegs.ter.cpls.getLast? = some e :=
  (congrArg List.getLast? (State.ContentKept.terRegs _).cpls).trans List.getLast?_concat

theorem State.hostStatus_last (s : State) {c : NvmeConn} {conn : Nat} (hid : c.id = conn) (cid sct sc : Nat) :
    (s.hostStatus c.id cid sct sc).terRegs.ter.cpls.getLast? = some { conn := conn, cid := cid, sct := sct, sc := sc } := by
  rw [← hid]
  exact State.hostCpl_last _ _

theorem State.hostFail_last (s : State) {c : NvmeConn} {conn : Nat} (hid : c.id = conn) (cid : Nat) (code : Nat × Nat) :
    (s.hostFail c cid code).terRegs.ter.cpls.getLast? = some { conn := conn, cid := cid, sct := code.1, sc := code.2 } :=
  State.hostStatus_last _ hid _ _ _

theorem State.hostFail_blocks (s : State) (c : NvmeConn) (cid : Nat) (code : Nat × Nat) :
    (s.hostFail c cid code).terRegs.ter.blocks = s.ter.blocks := (State.ContentKept.terRegs _).blocks

theorem State.hostStatus_blocks (s : State) (conn cid sct sc : Nat) :
    (s.hostStatus conn cid sct sc).terRegs.ter.blocks = s.ter.blocks := (State.ContentKept.terRegs _).blocks

/-! ### Reads -/

theorem State.badIn_nil (s : State) (n lba cnt : Nat) : s.badIn n lba cnt [] = [] := rfl

theorem execNvmeRead_answers (s : State) (conn cid nsid lba blocks : Nat) (c : NvmeConn) (hon : s.targetOn = true) (hc : s.hostConn conn = some c) :
    Completes (.nvmeRead conn cid nsid lba blocks []) s (fun t =>
      if s.exported nsid = false then t.ter.cpls.getLast? = some { conn := conn, cid := cid, sc := 0x0B }
      else if 256 < blocks then t.ter.cpls.getLast? = some { conn := conn, cid := cid, sc := 2 }
      else if (s.ns (nsid - 1)).size * 1024 < lba + blocks then t.ter.cpls.getLast? = some { conn := conn, cid := cid, sc := 0x80 }
      else if s.anyMissing (nsid - 1) lba blocks = true then t.ter.cpls.getLast? = some { conn := conn, cid := cid, sc := 0x82 }
      else if (List.range blocks).any (fun i => s.blockBad (nsid - 1) (lba + i)) = true then
        t.ter.cpls.getLast? = some { conn := conn, cid := cid, sct := 2, sc := 0x81 }
      else t.ter.cpls.getLast? =
        some { conn := conn, cid := cid, data := ((List.range blocks).map (fun i => s.blockOf (nsid - 1) (lba + i))).flatten }) := by
  have hid := State.hostConn_id hc
  by_cases hex : s.exported nsid = false
  · refine ⟨_, congrArg Host.Outcome.next (State.hostRange_refused hon hc hex _ _ _ _ _), ?_⟩
    dsimp only
    rw [if_pos hex]
    exact State.hostFail_last _ hid _ _
  have hex' : s.exported nsid = true := Bool.of_not_eq_false hex
  by_cases hb : 256 < blocks
  · refine ⟨_, congrArg Host.Outcome.next (State.hostRange_unbounded hon hc hex' _ _ hb _), ?_⟩
    dsimp only
    rw [if_neg hex, if_pos hb]
    exact State.hostFail_last _ hid _ _
  by_cases hout : (s.ns (nsid - 1)).size * 1024 < lba + blocks
  · refine ⟨_, congrArg Host.Outcome.next (State.hostRange_outside hon hc hex' _ (fun h => hb h.2) hout _), ?_⟩
    dsimp only
    rw [if_neg hex, if_neg hb, if_pos hout]
    exact State.hostFail_last _ hid _ _
  refine ⟨_, congrArg Host.Outcome.next (State.hostRange_runs hon hc hex' _ (fun h => hb h.2) hout _), ?_⟩
  dsimp only
  rw [if_neg hex, if_neg hb, if_neg hout]
  by_cases hmiss : s.anyMissing (nsid - 1) lba blocks = true
  · rw [if_pos (show s.terCmd.anyMissing (nsid - 1) lba blocks = true from hmiss), if_pos hmiss]
    exact State.hostFail_last _ hid _ _
  rw [if_neg (show ¬ s.terCmd.anyMissing (nsid - 1) lba blocks = true from hmiss), if_neg hmiss]
  by_cases hany : (List.range blocks).any (fun i => s.blockBad (nsid - 1) (lba + i)) = true
  · rw [if_pos hany]
    obtain ⟨i, hi, hbad⟩ := List.any_eq_true.mp hany
    split
    · exact State.hostFail_last _ hid _ _
    · exact absurd hbad (List.find?_eq_none.mp ‹_› i hi)
  · rw [if_neg hany]
    split
    · exact absurd (List.any_eq_true.mpr ⟨_, List.mem_of_find?_eq_some ‹_›, List.find?_some ‹_›⟩) hany
    · exact State.hostCpl_last _ _

/-! ### Writes -/

/-- One extent taken for a write, unless an extent before it could not be. -/
def State.needStep (s : State) (n : Nat) (x : State × Nat) (e : Nat) : State × Nat :=
  if x.2 ≠ 0 then x
  else
    let y := x.1.ext (extKey n e)
    if y.st = 5 then (x.1, 0x45)
    else if y.st = 0 then
      let p := x.1.placeExt (s.ns n)
      if p.2 ≠ 0 then (x.1, p.2) else (x.1.takeExt (extKey n e) p.1, 0)
    else if y.a = 255 ∧ s.tierReadOnly = true then (x.1, 0x44)
    else x

theorem State.needExts_eq (s : State) (n : Nat) (es : List Nat) :
    s.needExts n es = if (es.foldl (s.needStep n) (s, 0)).2 = 0 then es.foldl (s.needStep n) (s, 0) else (s, (es.foldl (s.needStep n) (s, 0)).2) := rfl

/-- The extents taken for a command do not depend on its having been counted. -/
theorem State.needExts_terCmd (s : State) (n : Nat) (es : List Nat) : (s.terCmd.needExts n es).2 = (s.needExts n es).2 := by
  have hstep (x : State × Nat) (e : Nat) : s.terCmd.needStep n (x.1.terCmd, x.2) e = ((s.needStep n x e).1.terCmd, (s.needStep n x e).2) := by
    have hplace : x.1.terCmd.placeExt (s.terCmd.ns n) = x.1.placeExt (s.ns n) := rfl
    have hext : x.1.terCmd.ext (extKey n e) = x.1.ext (extKey n e) := rfl
    have hro : s.terCmd.tierReadOnly = s.tierReadOnly := rfl
    unfold State.needStep
    dsimp only
    rw [hplace, hext, hro]
    split_ifs <;> rfl
  have hfold : es.foldl (s.terCmd.needStep n) (s.terCmd, 0) = ((es.foldl (s.needStep n) (s, 0)).1.terCmd, (es.foldl (s.needStep n) (s, 0)).2) :=
    (List.foldl_hom (fun x : State × Nat => (x.1.terCmd, x.2)) (fun x e => hstep x e)).symm ▸ rfl
  rw [State.needExts_eq, State.needExts_eq, hfold]
  dsimp only
  split_ifs <;> rfl

/-- Blocks stored one after the other hold what was stored, each under its own address. -/
theorem State.storeBlocks (s : State) (n lba : Nat) (data : List Bytes) :
    let t : State := data.zipIdx.foldl (fun (x : State) b => x.writeBlock n (lba + b.2) b.1 false true) s
    t.ter.cpls = s.ter.cpls ∧ ∀ i < data.length, t.blockOf n (lba + i) = fitBytes 4096 (data.getD i []) := by
  obtain ⟨hcpls, hall⟩ := foldl_establishes (f := fun (x : State) (b : Bytes × Nat) => x.writeBlock n (lba + b.2) b.1 false true)
    (I := fun x => x.ter.cpls = s.ter.cpls) (P := fun b x => x.blockOf n (lba + b.2) = fitBytes 4096 b.1) data.zipIdx s rfl
    (fun x b _ hx => (x.writeBlock_cpls _ _ _ _ _).trans hx)
    (fun x b _ _ => x.blockOf_writeBlock_same _ _ _ _ _)
    fun x a b ha hb _ hx => by
      by_cases hab : a.2 = b.2
      · have hda := List.mem_zipIdx_iff_getElem?.mp ha
        have hdb := List.mem_zipIdx_iff_getElem?.mp hb
        have hval : a.1 = b.1 := Option.some_inj.mp (hda.symm.trans ((congrArg (data[·]?) hab).trans hdb))
        rw [hab, hval]
        exact x.blockOf_writeBlock_same _ _ _ _ _
      · exact (x.blockOf_writeBlock_other _ _ _ (by omega)).trans hx
  refine ⟨hcpls, fun i hi => ?_⟩
  have hget : data[i]? = some (data.getD i []) := by
    rw [List.getD_eq_getElem?_getD, List.getElem?_eq_getElem hi, Option.getD_some]
  exact hall (data.getD i [], i) (List.mem_zipIdx_iff_getElem?.mpr hget)

theorem State.hostStore_refused (s : State) {n : Nat} (h : s.hostWritable n = false) (c : NvmeConn) (cid lba : Nat) (data : List Bytes) :
    s.hostStore c cid n lba data = s.hostFail c cid (0, 0x20) := if_pos h

theorem State.hostStore_stores (s : State) {n lba : Nat} {data : List Bytes} (h : s.hostWritable n = true) (hext : (s.needExts n (extsOf lba data.length)).2 = 0)
    {c : NvmeConn} {conn : Nat} (hid : c.id = conn) (cid : Nat) :
    (s.hostStore c cid n lba data).terRegs.ter.cpls.getLast? = some { conn := conn, cid := cid } ∧
      ∀ i < data.length, (s.hostStore c cid n lba data).terRegs.blockOf n (lba + i) = fitBytes 4096 (data.getD i []) := by
  obtain ⟨_, hblocks⟩ := State.storeBlocks (s.needExts n (extsOf lba data.length)).1 n lba data
  have heq : s.hostStore c cid n lba data =
      (State.wideAdd (data.zipIdx.foldl (fun (x : State) b => x.writeBlock n (lba + b.2) b.1 false true) (s.needExts n (extsOf lba data.length)).1)
        Reg.TER_WRBYTES_LO (blockBytes * data.length)).hostStatus c.id cid 0 0 :=
    (if_neg (fun hc => Bool.noConfusion (h.symm.trans hc))).trans (if_neg (fun hc => hc hext))
  rw [heq]
  exact ⟨State.hostStatus_last _ hid _ _ _, fun i hi => ((State.ContentKept.terRegs _).blockOf _ _).trans (hblocks i hi)⟩

theorem execNvmeWrite_stores (s : State) (conn cid nsid lba : Nat) (data : List Bytes) (c : NvmeConn) (hon : s.targetOn = true)
    (hc : s.hostConn conn = some c) (hex : s.exported nsid = true) (hlen : data.length ≤ 256) (hin : lba + data.length ≤ (s.ns (nsid - 1)).size * 1024) :
    Completes (.nvmeWrite conn cid nsid lba data) s (fun t =>
      if s.hostWritable (nsid - 1) = false then t.ter.cpls.getLast? = some { conn := conn, cid := cid, sc := 0x20 } ∧ t.ter.blocks = s.ter.blocks
      else (s.needExts (nsid - 1) (extsOf lba data.length)).2 = 0 → t.ter.cpls.getLast? = some { conn := conn, cid := cid } ∧
        (List.range data.length).all (fun i => decide (t.blockOf (nsid - 1) (lba + i) = fitBytes 4096 (data.getD i []))) = true) := by
  have hid := State.hostConn_id hc
  refine ⟨_, congrArg Host.Outcome.next (State.hostRange_runs hon hc hex _ (fun h => absurd h.2 (not_lt.mpr hlen)) (not_lt.mpr hin) _), ?_⟩
  dsimp only
  by_cases hw : s.hostWritable (nsid - 1) = false
  · rw [if_pos hw, State.hostStore_refused _ (show s.terCmd.hostWritable (nsid - 1) = false from hw)]
    exact ⟨State.hostFail_last _ hid _ _, State.hostFail_blocks _ _ _ _⟩
  · rw [if_neg hw]
    intro hext
    obtain ⟨hlast, hblocks⟩ := State.hostStore_stores s.terCmd (show s.terCmd.hostWritable (nsid - 1) = true from Bool.of_not_eq_false hw)
      ((s.needExts_terCmd _ _).trans hext) hid cid
    exact ⟨hlast, List.all_eq_true.mpr fun i hi => decide_eq_true (hblocks i (List.mem_range.mp hi))⟩

theorem execNvmeWriteZeroes_zeroes (s : State) (conn cid nsid lba blocks : Nat) (c : NvmeConn) (hon : s.targetOn = true)
    (hc : s.hostConn conn = some c) (hex : s.exported nsid = true) (hin : lba + blocks ≤ (s.ns (nsid - 1)).size * 1024)
    (hw : s.hostWritable (nsid - 1) = true) (hext : (s.needExts (nsid - 1) (extsOf lba blocks)).2 = 0) :
    Completes (.nvmeWriteZeroes conn cid nsid lba blocks) s (fun t => t.ter.cpls.getLast? = some { conn := conn, cid := cid } ∧
      (List.range blocks).all (fun i => decide (t.blockOf (nsid - 1) (lba + i) = List.replicate 4096 0)) = true) := by
  refine ⟨_, congrArg Host.Outcome.next (State.hostRange_runs hon hc hex _ (fun h => Bool.noConfusion h.1) (not_lt.mpr hin) _), ?_⟩
  have hlen : (List.replicate blocks (List.replicate 4096 (0 : Byte))).length = blocks := List.length_replicate
  obtain ⟨hlast, hblocks⟩ := State.hostStore_stores (lba := lba) s.terCmd (data := List.replicate blocks (List.replicate 4096 0))
    (show s.terCmd.hostWritable (nsid - 1) = true from hw) (by rw [hlen]; exact (s.needExts_terCmd _ _).trans hext) (State.hostConn_id hc) cid
  refine ⟨hlast, List.all_eq_true.mpr fun i hi => decide_eq_true ?_⟩
  have hi' := List.mem_range.mp hi
  refine (hblocks i (hlen.symm ▸ hi')).trans ?_
  have hget : (List.replicate blocks (List.replicate 4096 (0 : Byte))).getD i [] = List.replicate 4096 0 := by
    rw [List.getD_eq_getElem?_getD, List.getElem?_replicate, if_pos hi', Option.getD_some]
  rw [hget]
  exact fitBytes_of_length List.length_replicate

/-! ### Flushes and deallocation -/

theorem execNvmeFlush_answers (s : State) (conn cid nsid : Nat) (c : NvmeConn) (hon : s.targetOn = true) (hc : s.hostConn conn = some c) :
    Completes (.nvmeFlush conn cid nsid) s (fun t =>
      t.ter.cpls.getLast? = some { conn := conn, cid := cid, sc := if s.exported nsid = true then 0 else 0x0B } ∧ t.ter.blocks = s.ter.blocks) := by
  have hid := State.hostConn_id hc
  by_cases hex : s.exported nsid = true
  · refine ⟨_, congrArg Host.Outcome.next (State.hostRange_runs hon hc hex _ (fun h => Bool.noConfusion h.1) (by omega) _), ?_⟩
    dsimp only
    rw [if_pos hex]
    exact ⟨State.hostStatus_last _ hid _ _ _, State.hostStatus_blocks _ _ _ _ _⟩
  · refine ⟨_, congrArg Host.Outcome.next (State.hostRange_refused hon hc (Bool.of_not_eq_true hex) _ _ _ _ _), ?_⟩
    dsimp only
    rw [if_neg hex]
    exact ⟨State.hostFail_last _ hid _ _, State.hostFail_blocks _ _ _ _⟩

/-- The ranges of a namespace of BLOCK kind given up one after the other: each of their blocks is dropped, and no completion is sent. -/
theorem State.deallocRanges (s : State) (n : Nat) (ranges : List (Nat × Nat)) (hkind : (s.ns n).kind = 0)
    (hsmall : ∀ r ∈ ranges, r.1 + r.2 ≤ 2 ^ 42) :
    ∀ r ∈ ranges, ∀ i < r.2, State.blockOf (ranges.foldl (fun (x : State) r => x.deallocRange n r.1 r.2) s) n (r.1 + i) = List.replicate 4096 0 := by
  refine (foldl_establishes (f := fun (x : State) (r : Nat × Nat) => x.deallocRange n r.1 r.2) (I := fun x => x.ter.nss = s.ter.nss)
    (P := fun r x => ∀ i < r.2, x.blockOf n (r.1 + i) = List.replicate 4096 0) ranges s rfl ?_ ?_ ?_).2
  all_goals
    intro x a
    have hk (hx : x.ter.nss = s.ter.nss) : (x.ns n).kind = 0 := by
      unfold State.ns at hkind ⊢
      rw [hx]
      exact hkind
  · exact fun _ hx => (x.deallocRange_blocks n a.1 a.2 (hk hx)).2.1.trans hx
  · intro ha hx i hi
    have hlt : a.1 + i < 2 ^ 42 := lt_of_lt_of_le (by omega) (hsmall a ha)
    refine State.blockOf_of_keep (x.deallocRange_blocks n a.1 a.2 (hk hx)).1 ?_
    rw [inRange_blkKey hlt, decide_eq_true ⟨by omega, by omega⟩]
    rfl
  · intro b _ _ hx hzero i hi
    have hblocks := (x.deallocRange_blocks n b.1 b.2 (hk hx)).1
    by_cases hin : (!inRange n b.1 b.2 (blkKey n (a.1 + i))) = true
    · refine Eq.trans ?_ (hzero i hi)
      unfold State.blockOf
      rw [hblocks, SMap.get_keep, if_pos hin]
    · exact State.blockOf_of_keep hblocks (Bool.of_not_eq_true hin)

theorem execNvmeDatasetManagement_deallocates (s : State) (conn cid nsid : Nat) (dealloc : Bool) (ranges : List (Nat × Nat)) (c : NvmeConn)
    (hon : s.targetOn = true) (hc : s.hostConn conn = some c) (hex : s.exported nsid = true) (hsize : (s.ns (nsid - 1)).size ≤ 2 ^ 32) :
    Completes (.nvmeDatasetManagement conn cid nsid dealloc ranges) s (fun t =>
      if dealloc = false then t.ter.cpls.getLast? = some { conn := conn, cid := cid } ∧ t.ter.blocks = s.ter.blocks
      else if s.hostWritable (nsid - 1) = false then t.ter.cpls.getLast? = some { conn := conn, cid := cid, sc := 0x20 } ∧ t.ter.blocks = s.ter.blocks
      else if ranges.any (fun r => decide ((s.ns (nsid - 1)).size * 1024 < r.1 + r.2)) = true then
        t.ter.cpls.getLast? = some { conn := conn, cid := cid, sc := 0x80 } ∧ t.ter.blocks = s.ter.blocks
      else ranges.any (fun r => s.anyMissing (nsid - 1) r.1 r.2) = false → t.ter.cpls.getLast? = some { conn := conn, cid := cid } ∧
        ranges.all (fun r => (List.range r.2).all (fun i => decide (t.blockOf (nsid - 1) (r.1 + i) = List.replicate 4096 0))) = true) := by
  have hid := State.hostConn_id hc
  refine ⟨_, congrArg Host.Outcome.next (State.hostRange_runs hon hc hex _ (fun h => Bool.noConfusion h.1) (by omega) _), ?_⟩
  dsimp only
  by_cases hde : dealloc = false
  · rw [if_pos hde, if_pos hde]
    exact ⟨State.hostStatus_last _ hid _ _ _, State.hostStatus_blocks _ _ _ _ _⟩
  rw [if_neg hde, if_neg hde]
  by_cases hw : s.hostWritable (nsid - 1) = false
  · rw [if_pos (show s.terCmd.hostWritable (nsid - 1) = false from hw), if_pos hw]
    exact ⟨State.hostFail_last _ hid _ _, State.hostFail_blocks _ _ _ _⟩
  rw [if_neg (show ¬ s.terCmd.hostWritable (nsid - 1) = false from hw), if_neg hw]
  by_cases hout : ranges.any (fun r => decide ((s.ns (nsid - 1)).size * 1024 < r.1 + r.2)) = true
  · rw [if_pos (show ranges.any (fun r => decide ((s.terCmd.ns (nsid - 1)).size * 1024 < r.1 + r.2)) = true from hout), if_pos hout]
    exact ⟨State.hostFail_last _ hid _ _, State.hostFail_blocks _ _ _ _⟩
  rw [if_neg (show ¬ ranges.any (fun r => decide ((s.terCmd.ns (nsid - 1)).size * 1024 < r.1 + r.2)) = true from hout), if_neg hout]
  intro hmiss
  rw [if_neg (show ¬ ranges.any (fun r => s.terCmd.anyMissing (nsid - 1) r.1 r.2) = true from fun h => Bool.noConfusion (hmiss.symm.trans h))]
  refine ⟨State.hostStatus_last _ hid _ _ _, List.all_eq_true.mpr fun r hr => List.all_eq_true.mpr fun i hi => decide_eq_true ?_⟩
  have hkind : (s.ns (nsid - 1)).kind = 0 := by
    have hboth := (Bool.and_eq_true _ _).mp (Bool.of_not_eq_false hw)
    exact of_decide_eq_true hboth.2
  have hsmall : ∀ r ∈ ranges, r.1 + r.2 ≤ 2 ^ 42 := fun r hr => by
    have hno : ¬ (s.ns (nsid - 1)).size * 1024 < r.1 + r.2 := fun h => hout (List.any_eq_true.mpr ⟨r, hr, decide_eq_true h⟩)
    omega
  exact ((State.ContentKept.terRegs _).blockOf _ _).trans (State.deallocRanges s.terCmd (nsid - 1) ranges hkind hsmall r hr i (List.mem_range.mp hi))

/-- Settles O46: each command by the checks of its range, then by the blocks it reads, stores or drops. -/
theorem hostIoComplete : Obligations.HostIoComplete := by
  unfold Obligations.HostIoComplete
  exact ⟨execNvmeRead_answers, execNvmeWrite_stores, execNvmeFlush_answers, execNvmeDatasetManagement_deallocates, execNvmeWriteZeroes_zeroes⟩

end Sys2Proof.Machine
end

section
/-! PROOFS. The data commands of Terrace (R438, R440, R441, R443, R451-R455, R459). -/

namespace Sys2Proof.Machine

/-- What a command of Terrace leaves once it has completed. -/
def State.terDone (q : Nat) (d : Desc) (x : State × Result) : State := (x.1.terRegs.complete q d x.2).terAfter

theorem State.terServe_done {s : State} {q op : Nat} {d : Desc} (hup : s.terUp = true) (hrun : s.running q op = some d)
    (f : Desc → State → State × Result) : (s.terServe q op f).terAfter = State.terDone q d (f d s.terCmd) :=
  congrArg State.terAfter ((if_pos hup).trans (State.serve_of_running _ hrun))

/-- An entry of a map read after every entry has been changed by a function that keeps the default. -/
theorem SMap.get_map {α : Type} (d : Nat → α) (f : α → α) (hf : ∀ k, f (d k) = d k) (m : SMap α) (k : Nat) :
    SMap.get d (m.map (fun e => (e.1, f e.2)) : SMap α) k = f (SMap.get d m k) := by
  induction m with
  | nil => exact (hf k).symm
  | cons e r ih =>
    obtain ⟨j, v⟩ := e
    by_cases hjk : j = k
    · exact (if_pos hjk : SMap.get d ((j, f v) :: _) k = f v).trans (congrArg f (if_pos hjk : SMap.get d ((j, v) :: r) k = v).symm)
    · exact (if_neg hjk : SMap.get d ((j, f v) :: _) k = _).trans (ih.trans (congrArg f (if_neg hjk : SMap.get d ((j, v) :: r) k = _).symm))

/-- The commands that deletions wait for, with those that have completed left out. -/
def Ns.pruned (l : List Desc) (x : Ns) : Ns := { x with deleting := x.deleting.map (fun y => y.filter (fun d => l.contains d)) }

theorem State.deletePrune_ns (s : State) (n : Nat) : s.deletePrune.ns n = (s.ns n).pruned (s.ring 74).taken :=
  SMap.get_map _ (Ns.pruned (s.ring 74).taken) (fun _ => rfl) _ _

theorem State.terStopDue_keeps (s : State) : State.ContentKept s s.terStopDue := by
  unfold State.terStopDue
  refine .ite _ (fun _ => ?_) fun _ => .refl s
  extract_lets t _
  have ht : State.ContentKept s t := by
    unfold t
    split
    · exact .moveAbandon s
    · exact .refl s
  exact ht.trans ⟨rfl, rfl, rfl⟩

theorem State.terAfter_blocks (s : State) : s.terAfter.ter.blocks = s.ter.blocks := s.deletePrune.terStopDue_keeps.blocks

theorem State.terAfter_wpos (s : State) (n : Nat) : (s.terAfter.ns n).wpos = (s.ns n).wpos :=
  (congrArg Ns.wpos (s.deletePrune.terStopDue_keeps.ns n)).trans ((congrArg Ns.wpos (s.deletePrune_ns n)).trans (show ((s.ns n).pruned _).wpos = _ from rfl))

theorem State.terDone_keeps (q : Nat) (d : Desc) (x : State × Result) : State.ContentKept x.1 (x.1.terRegs.complete q d x.2) :=
  (State.ContentKept.terRegs _).trans (.of_affects (S := ∅) (.complete _ _ _ _))

theorem State.terDone_blocks (q : Nat) (d : Desc) (x : State × Result) : (State.terDone q d x).ter.blocks = x.1.ter.blocks :=
  (State.terAfter_blocks _).trans (State.terDone_keeps q d x).blocks

theorem State.terDone_blockOf (q : Nat) (d : Desc) (x : State × Result) (n lba : Nat) : (State.terDone q d x).blockOf n lba = x.1.blockOf n lba :=
  State.blockOf_congr (State.terDone_blocks q d x) n lba

theorem State.terDone_wpos (q : Nat) (d : Desc) (x : State × Result) (n : Nat) : ((State.terDone q d x).ns n).wpos = (x.1.ns n).wpos :=
  (State.terAfter_wpos _ n).trans (congrArg Ns.wpos ((State.terDone_keeps q d x).ns n))

/-! ### Reads -/

/-- One clean block read into a buffer. -/
theorem State.readInto_one {s : State} {n lba : Nat} (a : Nat) (h : s.blockBad n lba = false) :
    s.readInto n lba 1 a = (s.put a (s.blockOf n lba), false) := by
  have h0 : s.blockBad n (lba + 0) = false := h
  unfold State.readInto
  rw [List.range_one, List.foldl_cons, List.foldl_nil]
  dsimp only
  rw [h0]
  rfl

theorem execTerRead_answers (s : State) (bad : List Nat) (d : Desc) (hup : s.terUp = true) (hrun : s.running 74 0x10 = some d)
    (hn : d.le 16 1 < 64) (hlo : 1 ≤ d.le 20 4) (hhi : d.le 20 4 ≤ 65536) (hbuf : s.bufStatus (d.le 32 8) (4096 * d.le 20 4) = 0) :
    Completes (.terRead bad) s (fun t => if s.rangeStatus (d.le 16 1) (d.le 24 8) (d.le 20 4) (some d) ≠ 0 then
        t = (s.terCmd.terRegs.complete 74 d { status := s.rangeStatus (d.le 16 1) (d.le 24 8) (d.le 20 4) (some d) }).terAfter
      else if s.anyMissing (d.le 16 1) (d.le 24 8) (d.le 20 4) = true then t = (s.terCmd.terRegs.complete 74 d { status := 0x45 }).terAfter
      else s.badIn (d.le 16 1) (d.le 24 8) (d.le 20 4) bad = [] → d.le 20 4 = 1 → s.blockBad (d.le 16 1) (d.le 24 8) = false →
      t = ((((s.terCmd.put (d.le 32 8) (s.blockOf (d.le 16 1) (d.le 24 8))).wideAdd Reg.TER_RDBYTES_LO 4096).terRegs).complete 74 d {}).terAfter) := by
  have harg : ¬ (64 ≤ d.le 16 1 ∨ d.le 20 4 < 1 ∨ 65536 < d.le 20 4) := by omega
  refine ⟨_, congrArg Host.Outcome.next ((State.terServe_done hup hrun _).trans (congrArg (State.terDone 74 d)
    ((if_neg harg).trans (if_neg fun h => h hbuf)))), ?_⟩
  dsimp only
  by_cases hr : s.rangeStatus (d.le 16 1) (d.le 24 8) (d.le 20 4) (some d) ≠ 0
  · rw [if_pos hr, if_pos (show s.terCmd.rangeStatus (d.le 16 1) (d.le 24 8) (d.le 20 4) (some d) ≠ 0 from hr)]
    rfl
  rw [if_neg hr, if_neg (show ¬ s.terCmd.rangeStatus (d.le 16 1) (d.le 24 8) (d.le 20 4) (some d) ≠ 0 from hr)]
  by_cases hm : s.anyMissing (d.le 16 1) (d.le 24 8) (d.le 20 4) = true
  · rw [if_pos hm, if_pos (show s.terCmd.anyMissing (d.le 16 1) (d.le 24 8) (d.le 20 4) = true from hm)]
    rfl
  rw [if_neg hm, if_neg (show ¬ s.terCmd.anyMissing (d.le 16 1) (d.le 24 8) (d.le 20 4) = true from hm)]
  intro hbad hone hclean
  have hmedia : s.terCmd.mediaBad (d.le 16 1) (s.terCmd.badIn (d.le 16 1) (d.le 24 8) (d.le 20 4) bad) = s.terCmd :=
    congrArg (s.terCmd.mediaBad (d.le 16 1)) (show s.terCmd.badIn (d.le 16 1) (d.le 24 8) (d.le 20 4) bad = [] from hbad)
  have hread : s.terCmd.readInto (d.le 16 1) (d.le 24 8) 1 (d.le 32 8) = (s.terCmd.put (d.le 32 8) (s.blockOf (d.le 16 1) (d.le 24 8)), false) :=
    State.readInto_one _ (show s.terCmd.blockBad (d.le 16 1) (d.le 24 8) = false from hclean)
  rw [hmedia, hone, hread]
  rfl

/-! ### Writes -/

theorem Memory.length_readBytes (m : Memory) (a n : Nat) : (m.readBytes a n).length = n := by
  induction n generalizing a with
  | zero => rfl
  | succ n ih => exact congrArg (· + 1) (ih (a + 1))

/-- The blocks of a run of memory written one after the other. -/
theorem State.writeBlocks_blockOf (s : State) (n lba cnt : Nat) (val : Nat → Bytes) (p : Nat → Bool) :
    ∀ i < cnt, State.blockOf ((List.range cnt).foldl (fun (x : State) i => x.writeBlock n (lba + i) (val i) (p i) true) s) n (lba + i) = fitBytes 4096 (val i) :=
  fun i hi => (foldl_establishes (f := fun (x : State) i => x.writeBlock n (lba + i) (val i) (p i) true) (I := fun _ => True)
    (P := fun i x => x.blockOf n (lba + i) = fitBytes 4096 (val i)) (List.range cnt) s trivial (fun _ _ _ _ => trivial)
    (fun x i _ _ => x.blockOf_writeBlock_same _ _ _ _ _)
    fun x i j _ _ _ hx => by
      by_cases hij : i = j
      · rw [hij]
        exact x.blockOf_writeBlock_same _ _ _ _ _
      · exact (x.blockOf_writeBlock_other _ _ _ (by omega)).trans hx).2 i (List.mem_range.mpr hi)

theorem execTerWrite_stores (s : State) (d : Desc) (hup : s.terUp = true) (hrun : s.running 74 0x11 = some d)
    (hn : d.le 16 1 < 64) (hlo : 1 ≤ d.le 20 4) (hhi : d.le 20 4 ≤ 65536) (hbuf : s.bufStatus (d.le 32 8) (4096 * d.le 20 4) = 0)
    (hrange : s.rangeStatus (d.le 16 1) (d.le 24 8) (d.le 20 4) (some d) = 0) :
    Completes (.terWrite) s (fun t => if (s.ns (d.le 16 1)).kind = 1 ∨ (s.needExts (d.le 16 1) (extsOf (d.le 24 8) (d.le 20 4))).2 ≠ 0 then
        t.ter.blocks = s.ter.blocks
      else (List.range (d.le 20 4)).all (fun i => decide (t.blockOf (d.le 16 1) (d.le 24 8 + i) = s.mem.readBytes (d.le 32 8 + 4096 * i) 4096)) = true) := by
  have harg : ¬ (64 ≤ d.le 16 1 ∨ d.le 20 4 < 1 ∨ 65536 < d.le 20 4) := by omega
  refine ⟨_, congrArg Host.Outcome.next ((State.terServe_done hup hrun _).trans (congrArg (State.terDone 74 d)
    ((if_neg harg).trans ((if_neg fun h => h hbuf).trans (if_neg fun h => h hrange))))), ?_⟩
  dsimp only
  by_cases hk : (s.ns (d.le 16 1)).kind = 1
  · rw [if_pos (.inl hk), if_pos (show (s.terCmd.ns (d.le 16 1)).kind = 1 from hk)]
    exact State.terDone_blocks _ _ _
  rw [if_neg (show ¬ (s.terCmd.ns (d.le 16 1)).kind = 1 from hk)]
  by_cases he : (s.needExts (d.le 16 1) (extsOf (d.le 24 8) (d.le 20 4))).2 = 0
  · rw [if_neg (show ¬ (_ ∨ _) from fun h => h.elim hk fun h => h he), if_neg fun h => h ((s.needExts_terCmd _ _).trans he)]
    refine List.all_eq_true.mpr fun i hi => decide_eq_true ?_
    refine (State.terDone_blockOf _ _ _ _ _).trans ((State.writeBlocks_blockOf _ _ _ _ _ _ i (List.mem_range.mp hi)).trans ?_)
    exact fitBytes_of_length (Memory.length_readBytes _ _ _)
  · rw [if_pos (.inr he), if_pos fun h => he ((s.needExts_terCmd _ _).symm.trans h)]
    exact State.terDone_blocks _ _ _

/-! ### Appends -/

theorem extsOf_one (lba : Nat) : extsOf lba 1 = [lba / 1024] := by
  unfold extsOf
  rw [if_neg (by omega), show (lba + 1 - 1) / 1024 - lba / 1024 + 1 = 1 by rw [Nat.add_sub_cancel, Nat.sub_self], List.range_one]
  rfl

theorem length_overlay {old : Bytes} {off : Nat} {b : Bytes} (h : off + b.length ≤ 4096) : (overlay old off b).length = 4096 := by
  have hold : (fitBytes blockBytes old).length = 4096 := length_fitBytes _ _
  unfold overlay
  rw [List.length_append, List.length_append, List.length_take, List.length_drop, hold]
  omega

/-- The blocks from `first` on that an append of `b` at `wpos` writes, each piece laid over its block. -/
def State.appendPieces (s : State) (n w : Nat) (b : Bytes) (bad : List Nat) (first cnt : Nat) : State :=
  (List.range cnt).foldl (fun (y : State) i =>
    let lo := max w ((first + i) * blockBytes)
    let hi := min (w + b.length) ((first + i + 1) * blockBytes)
    let piece := (b.drop (lo - w)).take (hi - lo)
    let p := bad.any (fun o => decide (lo ≤ w + o + 63 ∧ w + o < hi))
    y.writeBlock n (first + i) (overlay (y.blockOf n (first + i)) (lo - (first + i) * blockBytes) piece) p (decide (hi - lo = blockBytes))) s

theorem State.appendPieces_nss (s : State) (n w : Nat) (b : Bytes) (bad : List Nat) (first cnt : Nat) :
    (s.appendPieces n w b bad first cnt).ter.nss = s.ter.nss :=
  foldl_keeps (I := fun x : State => x.ter.nss = s.ter.nss) _ _ rfl fun _ _ _ hx => (State.writeBlock_nss _ _ _ _ _ _).trans hx

/-- An append within one block lays its bytes over it. -/
theorem State.appendPieces_one (s : State) (n w : Nat) (b : Bytes) (bad : List Nat) (h : w % 4096 + b.length ≤ 4096) :
    (s.appendPieces n w b bad (w / 4096) 1).blockOf n (w / 4096) = overlay (s.blockOf n (w / 4096)) (w % 4096) b := by
  have hblk : blockBytes = 4096 := rfl
  have hlo : max w ((w / 4096 + 0) * blockBytes) = w := by rw [hblk]; omega
  have hhi : min (w + b.length) ((w / 4096 + 0 + 1) * blockBytes) = w + b.length := by rw [hblk]; omega
  have hoff : w - (w / 4096 + 0) * blockBytes = w % 4096 := by rw [hblk]; omega
  unfold State.appendPieces
  rw [List.range_one, List.foldl_cons, List.foldl_nil]
  dsimp only
  rw [hlo, hhi, hoff, Nat.sub_self, List.drop_zero, Nat.add_sub_cancel_left, List.take_length]
  exact (State.blockOf_writeBlock_same _ _ _ _ _ _).trans (fitBytes_of_length (length_overlay h))

/-- An append that finds its extents writes its pieces and moves WPOS. -/
theorem State.appendBytes_appends {s : State} {n : Nat} {b : Bytes} (bad : List Nat) (hkind : (s.ns n).kind = 1)
    (hfits : ¬ (s.ns n).size * 4194304 < (s.ns n).wpos + b.length) {first cnt : Nat} (hfirst : first = (s.ns n).wpos / blockBytes)
    (hcnt : cnt = ((s.ns n).wpos + b.length - 1) / blockBytes - first + 1) (hext : (s.needExts n (extsOf first cnt)).2 = 0) :
    ∃ x : State, x.ter.nss = s.ter.nss ∧ x = (s.needExts n (extsOf first cnt)).1.appendPieces n (s.ns n).wpos b bad first cnt ∧
      s.appendBytes n b bad =
        ((x.setNs n { x.ns n with wpos := roundUp ((s.ns n).wpos + b.length) 64 }).wideAdd Reg.TER_WRBYTES_LO b.length, 0) := by
  subst hfirst hcnt
  refine ⟨_, (State.appendPieces_nss _ _ _ _ _ _ _).trans (State.ContentKept.needExts _ _ _).nss, rfl, ?_⟩
  exact (if_neg fun h => h hkind).trans ((if_neg hfits).trans (if_neg fun h => h hext))

theorem State.setNs_wpos (s : State) (n : Nat) (x : Ns) (key m : Nat) : (((s.setNs n x).wideAdd key m).ns n).wpos = x.wpos :=
  congrArg Ns.wpos (SMap.get_set_same _ _ _ _)

/-- An append moves WPOS to the end of its bytes, or leaves it. -/
theorem State.appendBytes_wpos (s : State) (n : Nat) (b : Bytes) (bad : List Nat) :
    ((s.appendBytes n b bad).1.ns n).wpos = (s.ns n).wpos ∨ ((s.appendBytes n b bad).1.ns n).wpos = roundUp ((s.ns n).wpos + b.length) 64 := by
  unfold State.appendBytes
  extract_lets x w len first cnt r t
  split
  · exact .inl rfl
  · split
    · exact .inl rfl
    · split
      · exact .inl rfl
      · exact .inr (State.setNs_wpos _ _ _ _ _)

theorem execAppend_appends (s : State) (d : Desc) (hup : s.terUp = true) (hrun : s.running 74 0x12 = some d)
    (hn : d.le 16 1 < 64) (hlo : 1 ≤ d.le 20 4) (hhi : d.le 20 4 ≤ 2 ^ 28) (hbuf : s.bufStatus (d.le 32 8) (d.le 20 4) = 0)
    (hopen : s.nsOpen (d.le 16 1) (some d) = true) :
    Completes (.append) s (fun t =>
      if (s.ns (d.le 16 1)).kind ≠ 1 ∨ (s.ns (d.le 16 1)).size * 4194304 < (s.ns (d.le 16 1)).wpos + d.le 20 4 then
        (t.ns (d.le 16 1)).wpos = (s.ns (d.le 16 1)).wpos ∧ t.ter.blocks = s.ter.blocks
      else if (s.ns (d.le 16 1)).wpos % 4096 + d.le 20 4 ≤ 4096 then (s.needExts (d.le 16 1) [(s.ns (d.le 16 1)).wpos / 4194304]).2 = 0 →
        (t.ns (d.le 16 1)).wpos = roundUp ((s.ns (d.le 16 1)).wpos + d.le 20 4) 64 ∧
        t.blockOf (d.le 16 1) ((s.ns (d.le 16 1)).wpos / 4096) =
          overlay (s.blockOf (d.le 16 1) ((s.ns (d.le 16 1)).wpos / 4096)) ((s.ns (d.le 16 1)).wpos % 4096) (s.mem.readBytes (d.le 32 8) (d.le 20 4))
      else (t.ns (d.le 16 1)).wpos = (s.ns (d.le 16 1)).wpos ∨ (t.ns (d.le 16 1)).wpos = roundUp ((s.ns (d.le 16 1)).wpos + d.le 20 4) 64) := by
  have harg : ¬ (64 ≤ d.le 16 1 ∨ d.le 20 4 < 1 ∨ 2 ^ 28 < d.le 20 4) := by omega
  refine ⟨_, congrArg Host.Outcome.next ((State.terServe_done hup hrun _).trans (congrArg (State.terDone 74 d)
    ((if_neg harg).trans ((if_neg fun h => h hbuf).trans (if_neg fun h => Bool.noConfusion (hopen.symm.trans h)))))), ?_⟩
  dsimp only
  have hlen : (s.terCmd.mem.readBytes (d.le 32 8) (d.le 20 4)).length = d.le 20 4 := Memory.length_readBytes _ _ _
  have hbytes : s.mem.readBytes (d.le 32 8) (d.le 20 4) = s.terCmd.mem.readBytes (d.le 32 8) (d.le 20 4) := rfl
  have hblock (k : Nat) : s.blockOf (d.le 16 1) k = s.terCmd.blockOf (d.le 16 1) k := rfl
  have hns : s.ns (d.le 16 1) = s.terCmd.ns (d.le 16 1) := rfl
  have hext (es : List Nat) := s.needExts_terCmd (d.le 16 1) es
  rw [State.terDone_wpos, State.terDone_blocks, State.terDone_blockOf, hns, hbytes, hblock, ← hext]
  have hblocks : s.terCmd.ter.blocks = s.ter.blocks := rfl
  generalize s.terCmd = u at hlen hblocks ⊢
  generalize u.badLines (d.le 32 8) (d.le 20 4) = bad
  generalize u.mem.readBytes (d.le 32 8) (d.le 20 4) = b at hlen ⊢
  generalize d.le 16 1 = n
  rw [← hlen, ← hblocks]
  by_cases hbad : (u.ns n).kind ≠ 1 ∨ (u.ns n).size * 4194304 < (u.ns n).wpos + b.length
  · rw [if_pos hbad]
    have hsame : (u.appendBytes n b bad).1 = u := by
      by_cases hk : (u.ns n).kind ≠ 1
      · exact congrArg Prod.fst (if_pos hk)
      · exact congrArg Prod.fst ((if_neg hk).trans (if_pos (hbad.resolve_left hk)))
    rw [hsame]
    exact ⟨rfl, rfl⟩
  rw [if_neg hbad]
  obtain ⟨hkind, hfits⟩ := not_or.mp hbad
  split
  case isFalse => exact u.appendBytes_wpos n b bad
  case isTrue hone =>
    intro hneed
    have hpos : 1 ≤ b.length := hlen ▸ hlo
    have hcnt : 1 = ((u.ns n).wpos + b.length - 1) / blockBytes - (u.ns n).wpos / 4096 + 1 := by
      have hblk : blockBytes = 4096 := rfl
      rw [hblk]
      omega
    have hexts : extsOf ((u.ns n).wpos / 4096) 1 = [(u.ns n).wpos / 4194304] := by rw [extsOf_one, Nat.div_div_eq_div_mul]
    obtain ⟨x, hnss, hx, heq⟩ := State.appendBytes_appends (first := (u.ns n).wpos / 4096) bad (not_not.mp hkind) hfits rfl hcnt (hexts ▸ hneed)
    rw [heq]
    refine ⟨State.setNs_wpos _ _ _ _ _, ?_⟩
    refine (State.blockOf_congr (s := x) rfl _ _).trans ?_
    rw [hx, State.appendPieces_one _ _ _ _ _ hone, (State.ContentKept.needExts _ _ _).blockOf]

/-! ### Flushes, deallocation and refresh -/

theorem execTerFlush_answers (s : State) (d : Desc) (hup : s.terUp = true) (hrun : s.running 74 0x13 = some d) :
    Completes (.terFlush) s (fun t => t = (s.terCmd.terRegs.complete 74 d
      { status := if 64 ≤ d.le 16 1 then 2 else if s.nsOpen (d.le 16 1) (some d) = true then 0 else 0x40 }).terAfter) := by
  refine ⟨_, congrArg Host.Outcome.next (State.terServe_done hup hrun _), ?_⟩
  dsimp only
  by_cases hn : 64 ≤ d.le 16 1
  · rw [if_pos hn, if_pos hn]
    rfl
  · rw [if_neg hn, if_neg hn]
    rfl

theorem execDealloc_deallocates (s : State) (d : Desc) (hup : s.terUp = true) (hrun : s.running 74 0x14 = some d) (hn : d.le 16 1 < 64)
    (hlo : 1 ≤ d.le 20 4) (hhi : d.le 20 4 ≤ 65536) (hsmall : d.le 24 8 + d.le 20 4 ≤ 2 ^ 42)
    (hrange : s.rangeStatus (d.le 16 1) (d.le 24 8) (d.le 20 4) (some d) = 0) (hmiss : s.anyMissing (d.le 16 1) (d.le 24 8) (d.le 20 4) = false)
    (hkind : (s.ns (d.le 16 1)).kind = 0) :
    Completes (.dealloc) s (fun t =>
      (List.range (d.le 20 4)).all (fun i => decide (t.blockOf (d.le 16 1) (d.le 24 8 + i) = List.replicate 4096 0)) = true ∧
      s.ter.blocks.all (fun b => decide (b.1 / 2 ^ 42 = d.le 16 1 ∧ d.le 24 8 ≤ b.1 % 2 ^ 42 ∧ b.1 % 2 ^ 42 < d.le 24 8 + d.le 20 4) ||
        t.ter.blocks.contains b) = true) := by
  have harg : ¬ (64 ≤ d.le 16 1 ∨ d.le 20 4 < 1 ∨ 65536 < d.le 20 4) := by omega
  refine ⟨_, congrArg Host.Outcome.next ((State.terServe_done hup hrun _).trans (congrArg (State.terDone 74 d)
    ((if_neg harg).trans ((if_neg fun h => h hrange).trans (if_neg fun h => Bool.noConfusion (hmiss.symm.trans h)))))), ?_⟩
  dsimp only
  have hblocks := (State.deallocRange_blocks s.terCmd (d.le 16 1) (d.le 24 8) (d.le 20 4) hkind).1
  refine ⟨List.all_eq_true.mpr fun i hi => decide_eq_true ?_, List.all_eq_true.mpr fun b hb => ?_⟩
  · have hi' := List.mem_range.mp hi
    refine (State.terDone_blockOf _ _ _ _ _).trans (State.blockOf_of_keep hblocks ?_)
    rw [inRange_blkKey (by omega), decide_eq_true ⟨by omega, by omega⟩]
    rfl
  · rw [State.terDone_blocks]
    by_cases hin : b.1 / 2 ^ 42 = d.le 16 1 ∧ d.le 24 8 ≤ b.1 % 2 ^ 42 ∧ b.1 % 2 ^ 42 < d.le 24 8 + d.le 20 4
    · rw [decide_eq_true hin, Bool.true_or]
    · rw [decide_eq_false hin, Bool.false_or]
      refine List.contains_iff_mem.mpr ?_
      rw [hblocks]
      refine List.mem_filter.mpr ⟨hb, ?_⟩
      unfold inRange
      dsimp only
      rw [← Bool.decide_and, decide_eq_false hin]
      rfl

theorem State.terRegs_ter (s : State) : ∃ b, s.terRegs.ter = { s.ter with spaceTold := b } := by
  obtain ⟨b, h⟩ := State.TerraceTo.terRegs_affects s
  exact ⟨b, h.part State.ter fun _ _ => rfl⟩

theorem State.tokGive_ter (s : State) (c : Nat) : (s.tokGive c).ter = s.ter := (State.AffectsOnly.tokGive (S := ∅) s c).part State.ter fun _ _ => rfl

theorem State.moveAbandon_pass (s : State) : s.moveAbandon.ter.pass = s.ter.pass := by
  unfold State.moveAbandon
  split
  · rw [State.tokGive_ter]
    rfl
  · rfl

theorem State.markBlock_pass (s : State) (n lba : Nat) : (s.markBlock n lba).ter.pass = s.ter.pass := by
  unfold State.markBlock
  extract_lets k x _ t
  split_ifs <;> rfl

theorem State.terAfter_pass (s : State) : s.terAfter.ter.pass = s.ter.pass := by
  have hstop (x : State) : x.terStopDue.ter.pass = x.ter.pass := by
    unfold State.terStopDue
    split
    · dsimp only
      split
      · exact x.moveAbandon_pass
      · rfl
    · rfl
  exact hstop _

theorem execTerRefresh_asks (s : State) (d : Desc) (hup : s.terUp = true) (hrun : s.running 76 0x20 = some d) :
    Completes (.terRefresh) s (fun t => t.ter.pass = true ∧ t.ter.blocks = s.ter.blocks) := by
  refine ⟨_, congrArg Host.Outcome.next (State.terServe_done hup hrun _), ?_, State.terDone_blocks _ _ _⟩
  have hdone (x : State × Result) : (State.terDone 76 d x).ter.pass = x.1.ter.pass := by
    obtain ⟨b, hter⟩ := x.1.terRegs_ter
    have hcpl : (x.1.terRegs.complete 76 d x.2).ter = x.1.terRegs.ter := (State.AffectsOnly.complete (S := ∅) _ _ _ _).part State.ter fun _ _ => rfl
    refine (State.terAfter_pass _).trans ?_
    rw [hcpl, hter]
  exact hdone _

theorem State.tokAsk_free {s : State} {c : Nat} (h : s.on (F.HLT_TOKc_HELD c) = false) (owner act : Nat) : (s.tokAsk c owner act).2 = true := by
  unfold State.tokAsk
  rw [if_pos h]

theorem execRefreshPass_passes (s : State) (bad : List (Nat × Nat)) (rewritten : Nat) (hup : s.terUp = true)
    (hdue : s.on F.TER_REFRESH_EN = true ∨ s.ter.pass = true) (hfree : s.on (F.HLT_TOKc_HELD 1) = false) :
    Completes (.refreshPass bad rewritten) s (fun t => t.ter.pass = false ∧ t.ter.blocks = s.ter.blocks ∧ (bad = [] → t.ter.bad = s.ter.bad)) := by
  have hgo : ¬ (s.terUp = false ∨ (s.on F.TER_REFRESH_EN = false ∧ s.ter.pass = false)) := by
    rintro (h | ⟨h, h'⟩)
    · exact Bool.noConfusion (hup.symm.trans h)
    · exact hdue.elim (fun hc => Bool.noConfusion (hc.symm.trans h)) fun hc => Bool.noConfusion (hc.symm.trans h')
  refine ⟨_, congrArg Host.Outcome.next ((if_neg hgo).trans (if_neg fun h => Bool.noConfusion ((State.tokAsk_free hfree 4 4).symm.trans h))), ?_⟩
  dsimp only
  have hask : (s.tokAsk 1 4 4).1.ter = s.ter := (State.AffectsOnly.tokAsk (S := ∅) s 1 4 4).part State.ter fun _ _ => rfl
  generalize (s.tokAsk 1 4 4).1 = u at hask
  have hmarks (l : List (Nat × Nat)) (x : State) : State.ContentKept x (l.foldl (fun (x : State) b => if (x.ext (extKey b.1 (b.2 / 1024))).st = 1 then x.markBlock b.1 b.2 else x) x) :=
    .foldl (fun (x : State) (b : Nat × Nat) => if (x.ext (extKey b.1 (b.2 / 1024))).st = 1 then x.markBlock b.1 b.2 else x)
      (fun x b => .ite _ (fun _ => .markBlock x _ _) fun _ => .refl x) l x
  have hpass (l : List (Nat × Nat)) (x : State) :
      (l.foldl (fun (x : State) b => if (x.ext (extKey b.1 (b.2 / 1024))).st = 1 then x.markBlock b.1 b.2 else x) x).ter.pass = x.ter.pass :=
    foldl_keeps (I := fun y : State => y.ter.pass = x.ter.pass) _ _ rfl fun y b _ hy => by
      split
      · exact (y.markBlock_pass _ _).trans hy
      · exact hy
  have hend (x : State) (n : Nat) : ∃ b, ((x.wideAdd Reg.TER_NANDWR_LO n).tokGive 1).terRegs.ter = { x.ter with spaceTold := b } := by
    obtain ⟨b, hb⟩ := ((x.wideAdd Reg.TER_NANDWR_LO n).tokGive 1).terRegs_ter
    refine ⟨b, hb.trans ?_⟩
    rw [State.tokGive_ter]
    rfl
  obtain ⟨b, hb⟩ := hend (bad.foldl (fun (x : State) b => if (x.ext (extKey b.1 (b.2 / 1024))).st = 1 then x.markBlock b.1 b.2 else x)
    { u with ter := { u.ter with pass := false } }) (16384 * rewritten)
  rw [hb]
  refine ⟨hpass _ _, (hmarks _ _).blocks.trans (Eq.trans (b := u.ter.blocks) rfl (congrArg Terrace.blocks hask)), fun hnil => ?_⟩
  subst hnil
  exact Eq.trans (b := u.ter.bad) rfl (congrArg Terrace.bad hask)

/-- Settles O43: each command by the checks it passes, then by the blocks it reads, stores or drops. -/
theorem terraceDataComplete : Obligations.TerraceDataComplete := by
  unfold Obligations.TerraceDataComplete
  exact ⟨execTerRead_answers, execTerWrite_stores, execAppend_appends, execTerFlush_answers, execDealloc_deallocates, execTerRefresh_asks,
    execRefreshPass_passes⟩

end Sys2Proof.Machine
end

section
/-! SUPPORT. What the CAN controllers change (R351-R371): their own state, registers of block CAN and what side effects change. -/

namespace Sys2Proof.Machine

/-- `t` differs from `s` by the CAN controllers' state, by the registers `S` and by side effects. -/
structure State.CanTo (S : Set Nat) (s t : State) : Prop where
  eq : t = { s.withEffectsOf t with can := t.can }
  reg : ∀ k, ¬ entryBlock (k / 0x1000) → k ∉ S → t.reg k = s.reg k

namespace State.CanTo

variable {S : Set Nat} {s t u : State}

theorem refl (s : State) : CanTo S s s := ⟨rfl, fun _ _ _ => rfl⟩

theorem trans (h : CanTo S s t) (h' : CanTo S t u) : CanTo S s u :=
  ⟨h'.eq.trans ((congrArg (fun x : State => { x.withEffectsOf u with can := u.can }) h.eq).trans rfl),
    fun k hk hS => (h'.reg k hk hS).trans (h.reg k hk hS)⟩

theorem mono {T : Set Nat} (h : CanTo S s t) (hST : S ⊆ T) : CanTo T s t := ⟨h.eq, fun k hk hT => h.reg k hk fun hS => hT (hST hS)⟩

theorem of_affects (h : s.AffectsOnly S t) : CanTo S s t :=
  ⟨h.eq.trans (congrArg (fun x : Cans => { s.withEffectsOf t with can := x }) (h.part State.can fun _ _ => rfl).symm), h.reg⟩

theorem withCan (s : State) (x : Cans) : CanTo S s { s with can := x } := ⟨rfl, fun _ _ _ => rfl⟩

theorem rd (h : CanTo S s t) {f : Fld} (hf : ¬ entryBlock (f.addr / 0x1000)) (hS : f.addr ∉ S) : t.rd f = s.rd f :=
  State.rd_congr (h.reg _ hf hS)

theorem part {α : Sort*} (h : CanTo S s t) (U : State → α) (hU : ∀ x y : State, U { x.withEffectsOf y with can := y.can } = U x) : U t = U s :=
  (congrArg U h.eq).trans (hU s t)

theorem ite (c : Prop) [Decidable c] (h : c → CanTo S s t) (h' : ¬ c → CanTo S s u) : CanTo S s (if c then t else u) := by
  split
  · exact h ‹_›
  · exact h' ‹_›

theorem foldl {α : Type*} (f : State → α → State) (h : ∀ (x : State) a, CanTo S x (f x a)) (l : List α) (s : State) : CanTo S s (l.foldl f s) :=
  List.foldlRecOn (motive := fun x : State => CanTo S s x) l f (refl s) fun x hx a _ => hx.trans (h x a)

theorem wr (s : State) {f : Fld} (v : Nat) (h : f.addr ∈ S) : CanTo S s (s.wr f v) := of_affects (.wr s v (.inl h))

theorem setCtl (s : State) (c : Nat) (x : Can) (h : Reg.CAN_CHc_TXPEND c ∈ S) : CanTo S s (s.setCtl c x) := (withCan s _).trans (wr _ _ h)

end State.CanTo

/-! ### A controller's own state -/

theorem State.ctl_setCtl (s : State) (c : Nat) (x : Can) : (s.setCtl c x).ctl c = x := SMap.get_set_same _ _ _ _

theorem State.AffectsOnly.ctl {S : Set Nat} {s t : State} (h : State.AffectsOnly S s t) (c : Nat) : t.ctl c = s.ctl c :=
  congrArg (fun x : Cans => SMap.get (fun _ => ({} : Can)) x.ctl c) (h.part State.can fun _ _ => rfl)

theorem State.wrSat_ctl (s : State) (f : Fld) (v c : Nat) : (s.wrSat f v).ctl c = s.ctl c := rfl

theorem State.setCtl_rd (s : State) (c : Nat) (x : Can) {f : Fld} (h : f.addr ≠ Reg.CAN_CHc_TXPEND c) : (s.setCtl c x).rd f = s.rd f :=
  State.rd_wr_other _ _ h

/-- The registers of block CAN are not among those that entries and records change. -/
theorem canBlock {k : Nat} (h : k / 0x1000 = 0xD) : ¬ entryBlock (k / 0x1000) := by
  rw [h]
  exact notEntry (by decide)

theorem Reg.canStat_block (c : Nat) : Reg.CAN_CHc_STAT c / 0x1000 = 0xD := by unfold Reg.CAN_CHc_STAT; omega
theorem Reg.canErrcnt_block (c : Nat) : Reg.CAN_CHc_ERRCNT c / 0x1000 = 0xD := by unfold Reg.CAN_CHc_ERRCNT; omega
theorem Reg.canClaim_block (c : Nat) : Reg.CAN_CHc_CLAIM c / 0x1000 = 0xD := by unfold Reg.CAN_CHc_CLAIM; omega
theorem Reg.canClmstat_block (c : Nat) : Reg.CAN_CHc_CLMSTAT c / 0x1000 = 0xD := by unfold Reg.CAN_CHc_CLMSTAT; omega
theorem Reg.canCtl_block (c : Nat) : Reg.CAN_CHc_CTL c / 0x1000 = 0xD := by unfold Reg.CAN_CHc_CTL; omega
theorem Reg.canRxbuf_block (c : Nat) : Reg.CAN_CHc_RXBUF c / 0x1000 = 0xD := by unfold Reg.CAN_CHc_RXBUF; omega
theorem Reg.canNameHi_block (c : Nat) : Reg.CAN_CHc_NAME_HI c / 0x1000 = 0xD := by unfold Reg.CAN_CHc_NAME_HI; omega
theorem Reg.canNameLo_block (c : Nat) : Reg.CAN_CHc_NAME_LO c / 0x1000 = 0xD := by unfold Reg.CAN_CHc_NAME_LO; omega
theorem Reg.canPtn_block (k : Nat) : Reg.CAN_PTNk k / 0x1000 = 0xD := by unfold Reg.CAN_PTNk; omega

theorem Reg.canStat_ne_txpend (c : Nat) : Reg.CAN_CHc_STAT c ≠ Reg.CAN_CHc_TXPEND c := by unfold Reg.CAN_CHc_STAT Reg.CAN_CHc_TXPEND; omega
theorem Reg.canErrcnt_ne_txpend (c : Nat) : Reg.CAN_CHc_ERRCNT c ≠ Reg.CAN_CHc_TXPEND c := by unfold Reg.CAN_CHc_ERRCNT Reg.CAN_CHc_TXPEND; omega
theorem Reg.canErrcnt_ne_stat (c : Nat) : Reg.CAN_CHc_ERRCNT c ≠ Reg.CAN_CHc_STAT c := by unfold Reg.CAN_CHc_ERRCNT Reg.CAN_CHc_STAT; omega
theorem Reg.canClaim_ne_txpend (c : Nat) : Reg.CAN_CHc_CLAIM c ≠ Reg.CAN_CHc_TXPEND c := by unfold Reg.CAN_CHc_CLAIM Reg.CAN_CHc_TXPEND; omega
theorem Reg.canClmstat_ne_txpend (c : Nat) : Reg.CAN_CHc_CLMSTAT c ≠ Reg.CAN_CHc_TXPEND c := by unfold Reg.CAN_CHc_CLMSTAT Reg.CAN_CHc_TXPEND; omega

/-! ### Events and error counters -/

theorem State.canEvent_affects (S : Set Nat) (s : State) (tag c addr slot name : Nat) (rec : Option Nat) :
    s.AffectsOnly S (s.canEvent tag c addr slot name rec) := by
  unfold State.canEvent
  extract_lets r t
  have ht : s.AffectsOnly S t := (AffectsOnly.eventEntry _ _ _ _ _ _ _).trans (.eventEntry _ _ _ _ _ _ _)
  split
  · exact ht.trans (.record _ _ _ _ _ _ _)
  · exact ht

theorem State.ctlEvent_affects (S : Set Nat) (s : State) (tag c : Nat) (rec : Option Nat) : s.AffectsOnly S (s.ctlEvent tag c rec) :=
  s.canEvent_affects S _ _ _ _ _ _

theorem State.ctlEvent_rd (s : State) (tag c : Nat) (rec : Option Nat) {f : Fld} (hf : f.addr / 0x1000 = 0xD) : (s.ctlEvent tag c rec).rd f = s.rd f :=
  (s.ctlEvent_affects ∅ tag c rec).rd (canBlock hf) (Set.notMem_empty _)

/-- The error state the counters call for. -/
def State.errDue (s : State) (c : Nat) : Nat := if 127 < (s.ctl c).tec ∨ 127 < s.rd (F.CAN_CHc_STAT_REC c) then 1 else 0

theorem State.errState_eq (s : State) (c : Nat) : s.errState c =
    if s.rd (F.CAN_CHc_STAT_ERRST c) = 2 ∨ s.rd (F.CAN_CHc_STAT_ERRST c) = s.errDue c then s
    else (s.wr (F.CAN_CHc_STAT_ERRST c) (s.errDue c)).ctlEvent 4 c none := rfl

/-- An error state brought up to date changes the status word of its controller. -/
theorem State.errState_affects (s : State) (c : Nat) : s.AffectsOnly {k | k = Reg.CAN_CHc_STAT c} (s.errState c) := by
  rw [State.errState_eq]
  exact .ite _ (fun _ => .refl s) fun _ => .trans (.wr s (f := F.CAN_CHc_STAT_ERRST c) _ (.inl rfl)) (State.ctlEvent_affects _ _ _ _ _)

theorem State.errState_rd (s : State) (c : Nat) {f : Fld} (hf : f.addr / 0x1000 = 0xD)
    (h : f.addr ≠ Reg.CAN_CHc_STAT c ∨ (F.CAN_CHc_STAT_ERRST c).apart f = true) : (s.errState c).rd f = s.rd f := by
  rw [State.errState_eq]
  split
  · rfl
  · rw [State.ctlEvent_rd _ _ _ _ hf]
    exact h.elim (fun h => s.rd_wr_other _ h) fun h => s.rd_wr_apart _ h

/-- The registers that a change of an error counter may touch. -/
def canErrRegs (c : Nat) : Set Nat := {k | k = Reg.CAN_STAT ∨ k = Reg.CAN_CHc_STAT c ∨ k = Reg.CAN_CHc_TXPEND c}

/-- The transmit error counter set, before the states follow it. -/
def State.tecSet (s : State) (c n : Nat) : State := (s.setCtl c { s.ctl c with tec := n }).wrSat (F.CAN_CHc_STAT_TEC c) n

theorem State.setTec_eq (s : State) (c n : Nat) : s.setTec c n =
    if 255 < n ∧ (s.tecSet c n).canState c = 2 then
      ((((s.tecSet c n).wr (F.CAN_CHc_STAT_STATE c) 4).wr (F.CAN_CHc_STAT_ERRST c) 2).flag F.CAN_STAT_BUSOFF F.CAN_CTL_IE_BUS).ctlEvent 2 c (some sevFault)
    else (s.tecSet c n).errState c := rfl

theorem State.tecSet_ctl (s : State) (c n : Nat) : (s.tecSet c n).ctl c = { s.ctl c with tec := n } :=
  (State.wrSat_ctl _ _ _ _).trans (s.ctl_setCtl c _)

theorem State.tecSet_rd (s : State) (c n : Nat) {f : Fld} (hpend : f.addr ≠ Reg.CAN_CHc_TXPEND c) (hT : (F.CAN_CHc_STAT_TEC c).apart f = true) :
    (s.tecSet c n).rd f = s.rd f := (State.rd_wr_apart _ _ hT).trans (s.setCtl_rd c _ hpend)

theorem State.tecSet_to (s : State) (c n : Nat) : State.CanTo (canErrRegs c) s (s.tecSet c n) :=
  (State.CanTo.setCtl s c _ (.inr (.inr rfl))).trans (.wr _ _ (.inr (.inl rfl)))

theorem State.setTec_to (s : State) (c n : Nat) : State.CanTo (canErrRegs c) s (s.setTec c n) := by
  have ht := s.tecSet_to c n
  rw [State.setTec_eq]
  generalize s.tecSet c n = t at ht ⊢
  refine .ite _ (fun _ => ht.trans (.of_affects ?_)) fun _ => ht.trans (.of_affects ((t.errState_affects c).mono fun k hk => .inr (.inl hk)))
  exact (((AffectsOnly.wr t _ (.inl (.inr (.inl rfl)))).trans (.wr _ _ (.inl (.inr (.inl rfl))))).trans (.flag _ _ (.inl (.inl rfl)))).trans
    (State.ctlEvent_affects _ _ _ _ _)

theorem State.setTec_ctl (s : State) (c n : Nat) : (s.setTec c n).ctl c = { s.ctl c with tec := n } := by
  have ht := s.tecSet_ctl c n
  rw [State.setTec_eq]
  generalize s.tecSet c n = t at ht ⊢
  split
  · have hoff := (((AffectsOnly.wr (S := Set.univ) t (f := F.CAN_CHc_STAT_STATE c) 4 (.inl (Set.mem_univ _))).trans
      (.wr _ (f := F.CAN_CHc_STAT_ERRST c) 2 (.inl (Set.mem_univ _)))).trans
      (.flag _ (stat := F.CAN_STAT_BUSOFF) F.CAN_CTL_IE_BUS (.inl (Set.mem_univ _)))).trans (State.ctlEvent_affects _ _ 2 c (some sevFault))
    exact (hoff.ctl c).trans ht
  · exact ((t.errState_affects c).ctl c).trans ht

/-- A changed transmit error counter leaves the fields of the status word that name neither it nor the states. -/
theorem State.setTec_rd (s : State) (c n : Nat) {f : Fld} (hf : f.addr / 0x1000 = 0xD) (hstat : f.addr ≠ Reg.CAN_STAT)
    (hpend : f.addr ≠ Reg.CAN_CHc_TXPEND c) (hS : (F.CAN_CHc_STAT_STATE c).apart f = true) (hE : (F.CAN_CHc_STAT_ERRST c).apart f = true)
    (hT : (F.CAN_CHc_STAT_TEC c).apart f = true) : (s.setTec c n).rd f = s.rd f := by
  have ht := s.tecSet_rd c n hpend hT
  rw [State.setTec_eq]
  generalize s.tecSet c n = t at ht ⊢
  split
  · exact (State.ctlEvent_rd _ _ _ _ hf).trans ((State.flag_rd_other _ hstat).trans ((State.rd_wr_apart _ _ hE).trans ((t.rd_wr_apart _ hS).trans ht)))
  · exact (t.errState_rd c hf (.inr hE)).trans ht

theorem Reg.canStat_ne_stat (c : Nat) : Reg.CAN_CHc_STAT c ≠ Reg.CAN_STAT := by unfold Reg.CAN_CHc_STAT Reg.CAN_STAT; omega

/-- Above 255 the controller leaves ACTIVE for BUSOFF. -/
theorem State.setTec_state (s : State) (c n : Nat) (h : s.canState c = 2) : (s.setTec c n).canState c = if 255 < n then 4 else 2 := by
  have ht : (s.tecSet c n).canState c = 2 := (s.tecSet_rd c n (f := F.CAN_CHc_STAT_STATE c) (Reg.canStat_ne_txpend c) rfl).trans h
  rw [State.setTec_eq]
  generalize s.tecSet c n = t at ht ⊢
  by_cases hn : 255 < n
  · rw [if_pos ⟨hn, ht⟩, if_pos hn]
    exact (State.ctlEvent_rd _ _ _ _ (Reg.canStat_block c)).trans ((State.flag_rd_other _ (Reg.canStat_ne_stat c)).trans ((State.rd_wr_apart _ _ rfl).trans
      (t.rd_wr_fits (f := F.CAN_CHc_STAT_STATE c) (Fld.hi_lt rfl) (show 4 < 2 ^ 3 by decide))))
  · rw [if_neg (fun hc => hn hc.1), if_neg hn]
    exact (t.errState_rd c (Reg.canStat_block c) (.inr rfl)).trans ht

/-- A bus error is named and counted. -/
theorem State.busError_affects (s : State) (c err : Nat) : s.AffectsOnly {k | k = Reg.CAN_CHc_STAT c ∨ k = Reg.CAN_CHc_ERRCNT c} (s.busError c err) :=
  (AffectsOnly.wr s _ (.inl (.inl rfl))).trans (.inc _ (.inl (.inr rfl)))

theorem State.busError_rd (s : State) (c err : Nat) {f : Fld} (hE : f.addr ≠ Reg.CAN_CHc_ERRCNT c) (hL : (F.CAN_CHc_STAT_LASTERR c).apart f = true) :
    (s.busError c err).rd f = s.rd f := (State.rd_wr_other _ _ hE).trans (s.rd_wr_apart _ hL)

theorem State.busError_lasterr (s : State) (c : Nat) {err : Nat} (h : err ≤ 6) : (s.busError c err).rd (F.CAN_CHc_STAT_LASTERR c) = err :=
  (State.rd_wr_other _ _ (Reg.canErrcnt_ne_stat c).symm).trans (s.rd_wr_fits (f := F.CAN_CHc_STAT_LASTERR c) (Fld.hi_lt rfl) (lt_of_le_of_lt h (show 6 < 2 ^ 3 by decide)))

/-! ### Frames -/

theorem State.frameDone_affects (S : Set Nat) (s : State) (c : Nat) (f : TxFrame) (st : Nat) : s.AffectsOnly S (s.frameDone c f st) := by
  unfold State.frameDone
  split
  · exact .complete _ _ _ _
  · exact .refl s

theorem State.settleCancels_to (s : State) (c : Nat) (sent : Bool) : State.CanTo {k | k = Reg.CAN_CHc_TXPEND c} s (s.settleCancels c sent) := by
  unfold State.settleCancels
  exact .trans (.setCtl s c _ rfl) (.of_affects (.foldl _ (fun x _ => .complete x _ _ _) _ _))

theorem State.settleCancels_ctl (s : State) (c : Nat) (sent : Bool) : (s.settleCancels c sent).ctl c = { s.ctl c with cancels := [] } := by
  unfold State.settleCancels
  exact ((AffectsOnly.foldl (S := ∅) _ (fun x _ => .complete x _ _ _) _ _).ctl c).trans (s.ctl_setCtl c _)

theorem length_swapFrame {f g : TxFrame} (l : List TxFrame) : (swapFrame f [g] l).length = l.length := by
  induction l with
  | nil => rfl
  | cons x r ih =>
    unfold swapFrame
    split
    · rfl
    · exact congrArg (· + 1) ih

theorem swapFrame_nil (f : TxFrame) (l : List TxFrame) : swapFrame f [] l = l.erase f := by
  induction l with
  | nil => rfl
  | cons x r ih =>
    unfold swapFrame
    rw [List.erase_cons]
    by_cases hx : x = f
    · rw [if_pos hx, if_pos (beq_iff_eq.mpr hx), List.nil_append]
    · rw [if_neg hx, if_neg (fun h => hx (beq_iff_eq.mp h)), ih]

/-- The frame put in the place of one that waits, where no other satisfies the test, is the one found. -/
theorem find?_swapFrame {f g : TxFrame} {p : TxFrame → Bool} (hg : p g = true) (l : List TxFrame) (hf : f ∈ l) (hp : l.find? p = none) :
    (swapFrame f [g] l).find? p = some g := by
  induction l with
  | nil => exact absurd hf List.not_mem_nil
  | cons x r ih =>
    have hno := List.find?_eq_none.mp hp
    unfold swapFrame
    by_cases hx : x = f
    · rw [if_pos hx]
      exact List.find?_cons_of_pos hg
    · rw [if_neg hx, List.find?_cons_of_neg (hno x List.mem_cons_self)]
      exact ih ((List.mem_cons.mp hf).resolve_left (Ne.symm hx)) (List.find?_eq_none.mpr fun y hy => hno y (List.mem_cons_of_mem _ hy))

end Sys2Proof.Machine
end

section
/-! PROOFS. Frames sent on a CAN bus (R353, R355, R361-R363, R365). -/

namespace Sys2Proof.Machine

/-! ### Start, acknowledgement and loss -/

/-- The frame that starts next is one that waits and may start. -/
theorem State.nextFrame_mem {s : State} {c : Nat} {f : TxFrame} (h : s.nextFrame c = some f) : f ∈ (s.ctl c).pend := by
  have hall : ∀ g, s.nextFrame c = some g → g ∈ (s.ctl c).pend.filter (fun f => s.mayStart c f) := by
    refine foldl_keeps (I := fun o : Option TxFrame => ∀ g, o = some g → g ∈ (s.ctl c).pend.filter (fun f => s.mayStart c f)) _ _
      (fun g hg => absurd hg.symm (Option.some_ne_none g)) fun o x hx ho g hg => ?_
    cases o with
    | none =>
      obtain rfl : x = g := Option.some_inj.mp hg
      exact hx
    | some y =>
      dsimp only at hg
      split at hg
      · obtain rfl : x = g := Option.some_inj.mp hg
        exact hx
      · exact ho g hg
  exact List.mem_of_mem_filter (hall f h)

theorem State.swap_ctl (s : State) (c : Nat) (f : TxFrame) (l : List TxFrame) :
    (s.swap c f l).ctl c = { s.ctl c with pend := swapFrame f l (s.ctl c).pend } := s.ctl_setCtl c _

theorem State.swap_pend (s : State) (c : Nat) (f : TxFrame) (l : List TxFrame) : ((s.swap c f l).ctl c).pend = swapFrame f l (s.ctl c).pend := by
  rw [State.swap_ctl]

theorem State.swap_onBus (s : State) (c : Nat) (f : TxFrame) (l : List TxFrame) :
    (s.swap c f l).onBus c = (swapFrame f l (s.ctl c).pend).find? (fun g => g.begun) :=
  congrArg (fun x : List TxFrame => x.find? (fun g : TxFrame => g.begun)) (s.swap_pend c f l)

theorem State.swap_rd (s : State) (c : Nat) (f : TxFrame) (l : List TxFrame) {g : Fld} (h : g.addr ≠ Reg.CAN_CHc_TXPEND c) :
    (s.swap c f l).rd g = s.rd g := s.setCtl_rd c _ h

theorem execCanFrameStart_starts (s : State) (c : Nat) (f : TxFrame) (hbed : s.bedOn = true) (hc : c < s.code.cans) (hst : s.canState c = 2)
    (hsusp : s.on (F.CAN_CHc_STAT_SUSP c) = false) (hbus : s.onBus c = none) (hnext : s.nextFrame c = some f) :
    Completes (.canFrameStart c) s (fun t => (t.ctl c).pend.length = (s.ctl c).pend.length ∧
      t.onBus c = some { f with begun := true, starts := f.starts + 1, stamp := s.now / 1000 % 2 ^ 32, id := s.sentId c f } ∧ t.canState c = 2) := by
  refine ⟨s.swap c f [{ f with begun := true, starts := f.starts + 1, stamp := canStamp s.now, id := s.sentId c f }],
    congrArg Host.Outcome.next ((if_pos ⟨hbed, hc, hst, hsusp, hbus⟩).trans ?_), ?_, ?_, ?_⟩
  · rw [hnext]
  · rw [State.swap_pend]
    exact length_swapFrame _
  · rw [State.swap_onBus]
    exact find?_swapFrame (p := fun g => g.begun) rfl _ (State.nextFrame_mem hnext) hbus
  · exact (s.swap_rd c f _ (Reg.canStat_ne_txpend c)).trans hst

theorem State.wr_ctl (s : State) (f : Fld) (v c : Nat) : (s.wr f v).ctl c = s.ctl c := rfl

theorem State.wideAdd_ctl (s : State) (key n c : Nat) : (s.wideAdd key n).ctl c = s.ctl c := rfl

/-- The acknowledged frame off the waiting list, with the streak of missing acknowledgements ended. -/
def State.ackCounted (s : State) (c : Nat) (f : TxFrame) : State :=
  ((s.swap c f []).wideAdd Reg.CAN_TXCNT_LO 1).wr (F.CAN_CHc_ERRCNT_ACKSTREAK c) 0

/-- The acknowledged frame counted. -/
def State.ackTec (s : State) (c : Nat) (f : TxFrame) : State := (s.ackCounted c f).setTec c (((s.ackCounted c f).ctl c).tec - 1)

/-- An acknowledged claim starts its hold-off. -/
def State.ackClaim (s : State) (now c : Nat) (f : TxFrame) : State := if f.kind = .claim then s.setCtl c { s.ctl c with claimAt := some now } else s

theorem execCanFrameAcknowledged_eq {s : State} {c : Nat} {f : TxFrame} (h : s.onBus c = some f) :
    exec (.canFrameAcknowledged c) s = .next (if f.marked then (((s.ackTec c f).ackClaim s.now c f).frameDone c f 0).settleCancels c true
      else ((s.ackTec c f).ackClaim s.now c f).frameDone c f 0) := by
  refine congrArg Host.Outcome.next ?_
  rw [h]
  rfl

theorem State.ackTec_ctl (s : State) (c : Nat) (f : TxFrame) :
    (s.ackTec c f).ctl c = { s.ctl c with pend := (s.ctl c).pend.erase f, tec := (s.ctl c).tec - 1 } := by
  have hcount : (s.ackCounted c f).ctl c = { s.ctl c with pend := (s.ctl c).pend.erase f } := by
    rw [← swapFrame_nil]
    exact (State.wr_ctl _ _ _ _).trans ((State.wideAdd_ctl _ _ _ _).trans (s.swap_ctl c f []))
  unfold State.ackTec
  rw [State.setTec_ctl, hcount]

theorem Reg.canErrcnt_ne_canStat (c : Nat) : Reg.CAN_CHc_ERRCNT c ≠ Reg.CAN_STAT := by unfold Reg.CAN_CHc_ERRCNT Reg.CAN_STAT; omega

theorem Reg.canErrcnt_notErr (c : Nat) : Reg.CAN_CHc_ERRCNT c ∉ canErrRegs c := by
  rintro (h | h | h)
  · exact Reg.canErrcnt_ne_canStat c h
  · exact Reg.canErrcnt_ne_stat c h
  · exact Reg.canErrcnt_ne_txpend c h

theorem State.ackTec_streak (s : State) (c : Nat) (f : TxFrame) : (s.ackTec c f).rd (F.CAN_CHc_ERRCNT_ACKSTREAK c) = 0 := by
  unfold State.ackTec
  rw [(State.setTec_to _ c _).rd (canBlock (Reg.canErrcnt_block c)) (Reg.canErrcnt_notErr c)]
  exact State.rd_wr_fits _ (Fld.hi_lt rfl) (by positivity)

theorem State.ackClaim_ctl (s : State) (now c : Nat) (f : TxFrame) :
    (s.ackClaim now c f).ctl c = { s.ctl c with claimAt := if f.kind = .claim then some now else (s.ctl c).claimAt } := by
  unfold State.ackClaim
  split
  · exact s.ctl_setCtl c _
  · rfl

theorem State.ackClaim_rd (s : State) (now c : Nat) (f : TxFrame) {g : Fld} (h : g.addr ≠ Reg.CAN_CHc_TXPEND c) : (s.ackClaim now c f).rd g = s.rd g := by
  unfold State.ackClaim
  split
  · exact s.setCtl_rd c _ h
  · rfl

theorem execCanFrameAcknowledged_acknowledges (s : State) (c : Nat) (f : TxFrame) (_ : c < 8) (hbus : s.onBus c = some f) :
    Completes (.canFrameAcknowledged c) s (fun t => (t.ctl c).pend = (s.ctl c).pend.erase f ∧ (t.ctl c).tec = (s.ctl c).tec - 1 ∧
      t.rd (F.CAN_CHc_ERRCNT_ACKSTREAK c) = 0 ∧ (f.marked = true → (t.ctl c).cancels = []) ∧ (f.kind = .claim → (t.ctl c).claimAt = some s.now)) := by
  have hdone := (State.frameDone_affects ∅ ((s.ackTec c f).ackClaim s.now c f) c f 0)
  have hctl := ((hdone.ctl c).trans (State.ackClaim_ctl _ s.now c f)).trans (congrArg (fun x : Can =>
    { x with claimAt := if f.kind = TxKind.claim then some s.now else x.claimAt }) (s.ackTec_ctl c f))
  have hstreak : (((s.ackTec c f).ackClaim s.now c f).frameDone c f 0).rd (F.CAN_CHc_ERRCNT_ACKSTREAK c) = 0 :=
    (hdone.rd (canBlock (Reg.canErrcnt_block c)) (Set.notMem_empty _)).trans
      ((State.ackClaim_rd _ s.now c f (Reg.canErrcnt_ne_txpend c)).trans (s.ackTec_streak c f))
  refine ⟨_, execCanFrameAcknowledged_eq hbus, ?_⟩
  dsimp only
  generalize ((s.ackTec c f).ackClaim s.now c f).frameDone c f 0 = u at hctl hstreak
  split
  case isTrue hm =>
    rw [State.settleCancels_ctl, hctl]
    refine ⟨rfl, rfl, ?_, fun _ => rfl, fun hk => if_pos hk⟩
    exact ((u.settleCancels_to c true).rd (f := F.CAN_CHc_ERRCNT_ACKSTREAK c) (canBlock (Reg.canErrcnt_block c)) (Reg.canErrcnt_ne_txpend c)).trans hstreak
  case isFalse hm =>
    rw [hctl]
    exact ⟨rfl, rfl, hstreak, fun h => absurd h hm, fun hk => if_pos hk⟩

/-- What a missing acknowledgement may change. -/
def canAckRegs (c : Nat) : Set Nat := {k | k = Reg.CAN_STAT ∨ k = Reg.CAN_CHc_STAT c ∨ k = Reg.CAN_CHc_ERRCNT c ∨ k = Reg.CAN_ALONEMAP}

/-- The controller noted as alone, and held back where it is to be. -/
def State.aloneNoted (s : State) (c : Nat) : State :=
  let t := (s.wr (F.CAN_CHc_STAT_ALONE c) 1).wr ⟨Reg.CAN_ALONEMAP, c, c⟩ 1
  if t.on (F.CAN_CHc_CTL_ALONEHOLD c) then t.wr (F.CAN_CHc_STAT_SUSP c) 1 else t

theorem State.ackError_eq (s : State) (c : Nat) : s.ackError c =
    if s.rd (F.CAN_CHc_ERRCNT_ACKSTREAK c) = 127 then
      (((s.inc (F.CAN_CHc_ERRCNT_ACKSTREAK c)).aloneNoted c).flag F.CAN_STAT_ALONE F.CAN_CTL_IE_ALONE).ctlEvent 1 c none
    else s.inc (F.CAN_CHc_ERRCNT_ACKSTREAK c) := rfl

theorem State.aloneNoted_affects (s : State) (c : Nat) : s.AffectsOnly (canAckRegs c) (s.aloneNoted c) := by
  unfold State.aloneNoted
  extract_lets t
  have ht : s.AffectsOnly (canAckRegs c) t := .trans (.wr s _ (.inl (.inr (.inl rfl)))) (.wr _ _ (.inl (.inr (.inr (.inr rfl)))))
  exact .ite _ (fun _ => ht.trans (.wr t _ (.inl (.inr (.inl rfl))))) fun _ => ht

theorem State.ackError_affects (s : State) (c : Nat) : s.AffectsOnly (canAckRegs c) (s.ackError c) := by
  have hinc : s.AffectsOnly (canAckRegs c) (s.inc (F.CAN_CHc_ERRCNT_ACKSTREAK c)) := .inc s (.inl (.inr (.inr (.inl rfl))))
  rw [State.ackError_eq]
  exact .ite _ (fun _ => ((hinc.trans (State.aloneNoted_affects _ c)).trans (.flag _ _ (.inl (.inl rfl)))).trans (State.ctlEvent_affects _ _ _ _ _))
    fun _ => hinc

/-- A missing acknowledgement leaves the fields of the status word that do not say whether the controller is alone. -/
theorem State.ackError_rd (s : State) (c : Nat) {f : Fld} (hf : f.addr = Reg.CAN_CHc_STAT c) (hA : (F.CAN_CHc_STAT_ALONE c).apart f = true)
    (hS : (F.CAN_CHc_STAT_SUSP c).apart f = true) : (s.ackError c).rd f = s.rd f := by
  have hmap : f.addr ≠ Reg.CAN_ALONEMAP := by
    rw [hf]
    unfold Reg.CAN_CHc_STAT Reg.CAN_ALONEMAP
    omega
  have hnoted (x : State) : (x.aloneNoted c).rd f = x.rd f := by
    have ht : ((x.wr (F.CAN_CHc_STAT_ALONE c) 1).wr ⟨Reg.CAN_ALONEMAP, c, c⟩ 1).rd f = x.rd f := (State.rd_wr_other _ _ hmap).trans (x.rd_wr_apart _ hA)
    unfold State.aloneNoted
    dsimp only
    split
    · exact (State.rd_wr_apart _ _ hS).trans ht
    · exact ht
  have hinc : (s.inc (F.CAN_CHc_ERRCNT_ACKSTREAK c)).rd f = s.rd f := s.rd_wr_other _ (hf ▸ (Reg.canErrcnt_ne_stat c).symm)
  rw [State.ackError_eq]
  split
  · exact (State.ctlEvent_rd _ _ _ _ (hf ▸ Reg.canStat_block c)).trans ((State.flag_rd_other _ (hf ▸ Reg.canStat_ne_stat c)).trans ((hnoted _).trans hinc))
  · exact hinc

/-- A bus error while a frame was sent. -/
def State.sendError (s : State) (c err : Nat) : State := if err = 3 then (s.busError c err).ackError c else s.busError c err

theorem State.sendError_ctl (s : State) (c err : Nat) : (s.sendError c err).ctl c = s.ctl c := by
  have hbus := (s.busError_affects c err).ctl c
  unfold State.sendError
  split
  · exact ((State.ackError_affects _ c).ctl c).trans hbus
  · exact hbus

theorem State.sendError_lasterr (s : State) (c : Nat) {err : Nat} (h : err ≤ 6) : (s.sendError c err).rd (F.CAN_CHc_STAT_LASTERR c) = err := by
  have hbus := s.busError_lasterr c h
  unfold State.sendError
  split
  · exact (State.ackError_rd _ c (f := F.CAN_CHc_STAT_LASTERR c) rfl rfl rfl).trans hbus
  · exact hbus

theorem State.sendError_state (s : State) (c err : Nat) : (s.sendError c err).canState c = s.canState c := by
  have hbus : (s.busError c err).canState c = s.canState c := s.busError_rd c err (f := F.CAN_CHc_STAT_STATE c) (Reg.canErrcnt_ne_stat c).symm rfl
  unfold State.sendError
  split
  · exact (State.ackError_rd _ c (f := F.CAN_CHc_STAT_STATE c) rfl rfl rfl).trans hbus
  · exact hbus

/-- A frame lost to an error, before the transmit error counter follows. -/
def State.lostOn (s : State) (c err : Nat) (f : TxFrame) : State := (s.swap c f [{ f with begun := false }]).sendError c err

theorem State.lostOn_ctl (s : State) (c err : Nat) (f : TxFrame) :
    (s.lostOn c err f).ctl c = { s.ctl c with pend := swapFrame f [{ f with begun := false }] (s.ctl c).pend } :=
  (State.sendError_ctl _ c err).trans (s.swap_ctl c f _)

theorem State.lostOn_state (s : State) (c err : Nat) (f : TxFrame) : (s.lostOn c err f).canState c = s.canState c :=
  (State.sendError_state _ c err).trans (s.swap_rd c f _ (Reg.canStat_ne_txpend c))

/-- An unmarked frame of a controller that is on, lost to an error. -/
theorem execCanFrameLost_eq {s : State} {c err : Nat} {f : TxFrame} (hbus : s.onBus c = some f) (herr : err ≤ 6) (hm : f.marked = false)
    (hst : s.canState c = 2) (h0 : err ≠ 0) :
    exec (.canFrameLost c err) s = .next (if err = 3 ∧ s.rd (F.CAN_CHc_STAT_ERRST c) = 1 then s.lostOn c err f
      else (s.lostOn c err f).setTec c (((s.lostOn c err f).ctl c).tec + 8)) := by
  have hoff : decide (s.canState c = 0) = false := by rw [hst]; rfl
  refine congrArg Host.Outcome.next ?_
  rw [hbus]
  dsimp only
  have hm' : ¬ f.marked = true := fun h => Bool.noConfusion (hm.symm.trans h)
  have hoff' : ¬ decide (s.canState c = 0) = true := fun h => Bool.noConfusion (hoff.symm.trans h)
  rw [if_neg (not_lt.mpr herr), if_neg (show ¬ (f.marked = true ∨ decide (s.canState c = 0) = true) from fun h => h.elim hm' hoff'), if_neg h0,
    if_neg hm', if_neg hoff']
  rfl

theorem execCanFrameLost_waits (s : State) (c err : Nat) (f : TxFrame) (_ : c < 8) (hbus : s.onBus c = some f) (herr : err ≤ 6)
    (hm : f.marked = false) (hst : s.canState c = 2) :
    Completes (.canFrameLost c err) s (fun t => if err = 0 then t = s.swap c f [{ f with begun := false }]
      else t.rd (F.CAN_CHc_STAT_LASTERR c) = err ∧ t.onBus c = ((swapFrame f [{ f with begun := false }] (s.ctl c).pend).find? (fun g => g.begun)) ∧
      (t.ctl c).tec = (if err = 3 ∧ s.rd (F.CAN_CHc_STAT_ERRST c) = 1 then (s.ctl c).tec else (s.ctl c).tec + 8) ∧
      (¬ (err = 3 ∧ s.rd (F.CAN_CHc_STAT_ERRST c) = 1) → t.canState c = if 247 < (s.ctl c).tec then 4 else 2)) := by
  by_cases h0 : err = 0
  · subst h0
    have hm' : ¬ f.marked = true := fun h => Bool.noConfusion (hm.symm.trans h)
    have hoff' : ¬ decide (s.canState c = 0) = true := fun h => absurd (hst.symm.trans (of_decide_eq_true h)) (by decide)
    refine ⟨s.swap c f [{ f with begun := false }], congrArg Host.Outcome.next ?_, ?_⟩
    · rw [hbus]
      dsimp only
      rw [if_neg (not_lt.mpr herr), if_neg (show ¬ (f.marked = true ∨ decide (s.canState c = 0) = true) from fun h => h.elim hm' hoff'), if_pos rfl,
        if_neg hm', if_neg hoff']
    · dsimp only
      rw [if_pos rfl]
  refine ⟨_, execCanFrameLost_eq hbus herr hm hst h0, ?_⟩
  dsimp only
  rw [if_neg h0]
  have hctl := s.lostOn_ctl c err f
  have hstate : (s.lostOn c err f).canState c = 2 := (s.lostOn_state c err f).trans hst
  have hlast : (s.lostOn c err f).rd (F.CAN_CHc_STAT_LASTERR c) = err := State.sendError_lasterr _ c herr
  generalize s.lostOn c err f = u at hctl hstate hlast
  have hon : ∀ t : State, (t.ctl c).pend = (u.ctl c).pend → t.onBus c = (swapFrame f [{ f with begun := false }] (s.ctl c).pend).find? (fun g => g.begun) :=
    fun t ht => by
    have hpend : (t.ctl c).pend = swapFrame f [{ f with begun := false }] (s.ctl c).pend := by rw [ht, hctl]
    exact congrArg (fun x : List TxFrame => x.find? (fun g : TxFrame => g.begun)) hpend
  by_cases hx : err = 3 ∧ s.rd (F.CAN_CHc_STAT_ERRST c) = 1
  · rw [if_pos hx, if_pos hx]
    exact ⟨hlast, hon u rfl, by rw [hctl], fun h => absurd hx h⟩
  · rw [if_neg hx, if_neg hx]
    have htec : (u.ctl c).tec = (s.ctl c).tec := by rw [hctl]
    refine ⟨?_, hon _ (by rw [u.setTec_ctl]), ?_, fun _ => ?_⟩
    · exact (u.setTec_rd c _ (f := F.CAN_CHc_STAT_LASTERR c) (Reg.canStat_block c) (Reg.canStat_ne_stat c) (Reg.canStat_ne_txpend c) rfl rfl rfl).trans hlast
    · rw [State.setTec_ctl, htec]
    · rw [u.setTec_state c _ hstate, htec]
      by_cases hn : 247 < (s.ctl c).tec
      · rw [if_pos hn, if_pos (by omega)]
      · rw [if_neg hn, if_neg (by omega)]

/-! ### Receive errors, recovery and ALONE -/

theorem execCanReceiveError_counts (s : State) (c err inc : Nat) (hbed : s.bedOn = true) (hc : c < s.code.cans)
    (hst : s.canState c = 2 ∨ s.canState c = 3) (h0 : 0 < err) (h6 : err ≤ 6) :
    Completes (.canReceiveError c err inc) s (fun t => t.rd (F.CAN_CHc_STAT_LASTERR c) = err ∧
      t.rd (F.CAN_CHc_STAT_REC c) = min (s.rd (F.CAN_CHc_STAT_REC c) + inc) (maxOf (F.CAN_CHc_STAT_REC c).width) ∧ t.canState c = s.canState c) := by
  have hgo : ¬ (s.bedOn = false ∨ s.code.cans ≤ c ∨ (s.canState c ≠ 2 ∧ s.canState c ≠ 3) ∨ err = 0 ∨ 6 < err) := by
    rintro (h | h | ⟨h, h'⟩ | h | h)
    · exact Bool.noConfusion (hbed.symm.trans h)
    · omega
    · exact hst.elim h h'
    · omega
    · omega
  refine ⟨_, congrArg Host.Outcome.next (if_neg hgo), ?_, ?_, ?_⟩
  · exact (State.errState_rd _ c (Reg.canStat_block c) (.inr rfl)).trans ((State.rd_wr_apart _ _ rfl).trans (s.busError_lasterr c h6))
  · refine (State.errState_rd _ c (Reg.canStat_block c) (.inr rfl)).trans ((State.rd_incBy_same _ _ (Fld.hi_lt rfl)).trans ?_)
    rw [s.busError_rd c err (f := F.CAN_CHc_STAT_REC c) (Reg.canErrcnt_ne_stat c).symm rfl]
    rfl
  · exact (State.errState_rd _ c (Reg.canStat_block c) (.inr rfl)).trans ((State.rd_wr_apart _ _ rfl).trans
      (s.busError_rd c err (f := F.CAN_CHc_STAT_STATE c) (Reg.canErrcnt_ne_stat c).symm rfl))

/-- A controller back in ACTIVE from BUSOFF. -/
def State.recovered (s : State) (c : Nat) : State :=
  (((((s.wr (F.CAN_CHc_STAT_STATE c) 2).wr (F.CAN_CHc_STAT_ERRST c) 0).wr (F.CAN_CHc_STAT_REC c) 0).setCtl c { s.ctl c with tec := 0 }).wr
    (F.CAN_CHc_STAT_TEC c) 0).ctlEvent 3 c none

theorem execBusOffRecovery_recovers (s : State) (c : Nat) (_ : c < 8) (hbed : s.bedOn = true) (hst : s.canState c = 4)
    (hrec : s.on (F.CAN_CHc_CTL_AUTOREC c) = true) :
    Completes (.busOffRecovery c) s (fun t => t.canState c = 2 ∧ (t.ctl c).tec = 0 ∧ t.rd (F.CAN_CHc_STAT_TEC c) = 0 ∧ t.rd (F.CAN_CHc_STAT_REC c) = 0 ∧
      t.rd (F.CAN_CHc_STAT_ERRST c) = 0 ∧ (t.ctl c).pend = (s.ctl c).pend) := by
  refine ⟨s.recovered c, congrArg Host.Outcome.next (if_pos ⟨hbed, hst, hrec⟩), ?_⟩
  have hb := Reg.canStat_block c
  have hp := Reg.canStat_ne_txpend c
  have hctl : (s.recovered c).ctl c = { s.ctl c with tec := 0 } :=
    (State.AffectsOnly.ctl (State.ctlEvent_affects ∅ _ _ _ _) c).trans ((State.wr_ctl _ _ _ _).trans (State.ctl_setCtl _ c _))
  refine ⟨?_, ?_, ?_, ?_, ?_, ?_⟩
  · refine (State.ctlEvent_rd _ _ _ _ hb).trans ((State.rd_wr_apart _ _ rfl).trans ((State.setCtl_rd _ c _ hp).trans ((State.rd_wr_apart _ _ rfl).trans
      ((State.rd_wr_apart _ _ rfl).trans ?_))))
    exact s.rd_wr_fits (f := F.CAN_CHc_STAT_STATE c) (Fld.hi_lt rfl) (show 2 < 2 ^ 3 by decide)
  · rw [hctl]
  · exact (State.ctlEvent_rd _ _ _ _ hb).trans (State.rd_wr_fits _ (f := F.CAN_CHc_STAT_TEC c) (Fld.hi_lt rfl) (by positivity))
  · refine (State.ctlEvent_rd _ _ _ _ hb).trans ((State.rd_wr_apart _ _ rfl).trans ((State.setCtl_rd _ c _ hp).trans ?_))
    exact State.rd_wr_fits _ (f := F.CAN_CHc_STAT_REC c) (Fld.hi_lt rfl) (by positivity)
  · refine (State.ctlEvent_rd _ _ _ _ hb).trans ((State.rd_wr_apart _ _ rfl).trans ((State.setCtl_rd _ c _ hp).trans ((State.rd_wr_apart _ _ rfl).trans ?_)))
    exact State.rd_wr_fits _ (f := F.CAN_CHc_STAT_ERRST c) (Fld.hi_lt rfl) (by positivity)
  · rw [hctl]

end Sys2Proof.Machine
end

section
/-! PROOFS. ALONE cleared, and the descriptors of the CAN rings (R362, R363, R365). -/

namespace Sys2Proof.Machine

/-! ### ALONE cleared -/

theorem Reg.canStat_inj {b c : Nat} (hb : b < 8) (hc : c < 8) (h : b ≠ c) : Reg.CAN_CHc_STAT c ≠ Reg.CAN_CHc_STAT b := by
  unfold Reg.CAN_CHc_STAT
  omega

theorem Reg.canStat_ne_alonemap (c : Nat) : Reg.CAN_CHc_STAT c ≠ Reg.CAN_ALONEMAP := by unfold Reg.CAN_CHc_STAT Reg.CAN_ALONEMAP; omega

/-- Controller `c` is not alone, and where it was before, its status word shows it. -/
def State.notAlone (was : Bool) (c : Nat) (t : State) : Prop :=
  t.on ⟨Reg.CAN_ALONEMAP, c, c⟩ = false ∧ (was = true → t.rd (F.CAN_CHc_STAT_ALONE c) = 0 ∧ t.rd (F.CAN_CHc_STAT_SUSP c) = 0)

theorem State.aloneEnd_affects (s : State) (c : Nat) : s.AffectsOnly {k | k = Reg.CAN_CHc_STAT c ∨ k = Reg.CAN_ALONEMAP} (s.aloneEnd c) :=
  ((AffectsOnly.wr s _ (.inl (.inl rfl))).trans (.wr _ _ (.inl (.inl rfl)))).trans (.wr _ _ (.inl (.inr rfl)))

theorem State.aloneEnd_alone (s : State) (c : Nat) : (s.aloneEnd c).rd (F.CAN_CHc_STAT_ALONE c) = 0 :=
  (State.rd_wr_other _ _ (Reg.canStat_ne_alonemap c)).trans ((State.rd_wr_apart _ _ rfl).trans
    (s.rd_wr_fits (f := F.CAN_CHc_STAT_ALONE c) (Fld.hi_lt rfl) (by positivity)))

theorem State.aloneEnd_susp (s : State) (c : Nat) : (s.aloneEnd c).rd (F.CAN_CHc_STAT_SUSP c) = 0 :=
  (State.rd_wr_other _ _ (Reg.canStat_ne_alonemap c)).trans
    (State.rd_wr_fits _ (f := F.CAN_CHc_STAT_SUSP c) (Fld.hi_lt rfl) (by positivity))

theorem State.aloneEnd_rd (s : State) (c : Nat) {f : Fld} (hmap : f.addr ≠ Reg.CAN_ALONEMAP)
    (h : f.addr ≠ Reg.CAN_CHc_STAT c ∨ (F.CAN_CHc_STAT_ALONE c).apart f = true ∧ (F.CAN_CHc_STAT_SUSP c).apart f = true) :
    (s.aloneEnd c).rd f = s.rd f := by
  refine (State.rd_wr_other _ _ hmap).trans ?_
  obtain h | ⟨hA, hS⟩ := h
  · exact (State.rd_wr_other _ _ h).trans (s.rd_wr_other _ h)
  · exact (State.rd_wr_apart _ _ hS).trans (s.rd_wr_apart _ hA)

theorem State.aloneEnd_notAlone (s : State) {c : Nat} (hc : c < 8) (was : Bool) : State.notAlone was c (s.aloneEnd c) :=
  ⟨State.on_wr_zero _ (f := ⟨Reg.CAN_ALONEMAP, c, c⟩) (show c < 32 by omega), fun _ => ⟨s.aloneEnd_alone c, s.aloneEnd_susp c⟩⟩

theorem State.aloneEnd_map_other (s : State) {b c : Nat} (hb : b < 8) (hc : c < 8) (h : b ≠ c) :
    (s.aloneEnd b).rd ⟨Reg.CAN_ALONEMAP, c, c⟩ = s.rd ⟨Reg.CAN_ALONEMAP, c, c⟩ := by
  have hne : Reg.CAN_ALONEMAP ≠ Reg.CAN_CHc_STAT b := (Reg.canStat_ne_alonemap b).symm
  exact (State.rd_wr_beside _ (f := ⟨Reg.CAN_ALONEMAP, b, b⟩) (g := ⟨Reg.CAN_ALONEMAP, c, c⟩) _ (show b < 32 by omega) (show c < 32 by omega)
    (show b < c ∨ c < b by omega)).trans ((State.rd_wr_other _ _ hne).trans (s.rd_wr_other _ hne))

/-- One controller's bit of a write of CAN_ALONEMAP. -/
def State.aloneStep (v : W32) (x : State) (c : Nat) : State := if bitAt v.toNat c ∧ x.on ⟨Reg.CAN_ALONEMAP, c, c⟩ then x.aloneEnd c else x

theorem State.aloneWrite_eq (s : State) (v : W32) : s.aloneWrite v = (List.range 8).foldl (State.aloneStep v) s := rfl

/-- Another controller's bit leaves the word that is not alone as it is. -/
theorem State.aloneStep_keeps {was : Bool} {v : W32} {x : State} {b c : Nat} (hb : b < 8) (hc : c < 8) (h : State.notAlone was c x) :
    State.notAlone was c (State.aloneStep v x b) := by
  unfold State.aloneStep
  split
  · by_cases hbc : b = c
    · rw [hbc]
      exact x.aloneEnd_notAlone hc was
    · have hst : Reg.CAN_CHc_STAT c ≠ Reg.CAN_CHc_STAT b := Reg.canStat_inj hb hc hbc
      obtain ⟨hmap, hwas⟩ := h
      refine ⟨(State.on_congr (x.aloneEnd_map_other hb hc hbc)).trans hmap, fun hw => ?_⟩
      obtain ⟨hA, hS⟩ := hwas hw
      exact ⟨(x.aloneEnd_rd b (f := F.CAN_CHc_STAT_ALONE c) (Reg.canStat_ne_alonemap c) (.inl hst)).trans hA,
        (x.aloneEnd_rd b (f := F.CAN_CHc_STAT_SUSP c) (Reg.canStat_ne_alonemap c) (.inl hst)).trans hS⟩
  · exact h

theorem State.aloneWrite_ends (s : State) {v : W32} {c : Nat} (hc : c < 8) (hv : bitAt v.toNat c = true) :
    State.notAlone (s.on ⟨Reg.CAN_ALONEMAP, c, c⟩) c (s.aloneWrite v) := by
  rw [State.aloneWrite_eq]
  refine (foldl_establishes (f := State.aloneStep v)
    (I := fun x => x.on ⟨Reg.CAN_ALONEMAP, c, c⟩ = s.on ⟨Reg.CAN_ALONEMAP, c, c⟩ ∨ State.notAlone (s.on ⟨Reg.CAN_ALONEMAP, c, c⟩) c x)
    (P := fun b x => b = c → State.notAlone (s.on ⟨Reg.CAN_ALONEMAP, c, c⟩) c x) (List.range 8) s (.inl rfl) ?_ ?_ ?_).2 c (List.mem_range.mpr hc) rfl
  · intro x b hb hx
    obtain hsame | hnot := hx
    · by_cases hbc : b = c
      · subst hbc
        unfold State.aloneStep
        split
        · exact .inr (x.aloneEnd_notAlone hc _)
        · exact .inl hsame
      · unfold State.aloneStep
        split
        · exact .inl ((State.on_congr (x.aloneEnd_map_other (List.mem_range.mp hb) hc hbc)).trans hsame)
        · exact .inl hsame
    · exact .inr (State.aloneStep_keeps (List.mem_range.mp hb) hc hnot)
  · rintro x b hb hx rfl
    obtain hsame | hnot := hx
    · unfold State.aloneStep
      by_cases hon : x.on ⟨Reg.CAN_ALONEMAP, b, b⟩ = true
      · rw [if_pos ⟨hv, hon⟩]
        exact x.aloneEnd_notAlone hc _
      · rw [if_neg fun h => hon h.2]
        exact ⟨Bool.of_not_eq_true hon, fun hw => absurd (hsame.trans hw) hon⟩
    · exact State.aloneStep_keeps hc hc hnot
  · exact fun x a b _ hb _ hP hac => State.aloneStep_keeps (List.mem_range.mp hb) hc (hP hac)

theorem execAloneClear_clears (s : State) (a : Agent) (v : W32) (c : Nat) (hc : c < 8) (hacc : s.accepts a 0x0D 0x030 = true)
    (hv : bitAt v.toNat c = true) :
    Completes (.aloneClear a v) s (fun t => t.resp = .done ∧ t.on ⟨Reg.CAN_ALONEMAP, c, c⟩ = false ∧
      (s.on ⟨Reg.CAN_ALONEMAP, c, c⟩ = true → t.rd (F.CAN_CHc_STAT_ALONE c) = 0 ∧ t.rd (F.CAN_CHc_STAT_SUSP c) = 0)) := by
  refine ⟨s.done.aloneWrite v, congrArg Host.Outcome.next (State.gate_accepts _ hacc), ?_, s.done.aloneWrite_ends hc hv⟩
  have haff : s.done.AffectsOnly Set.univ (s.done.aloneWrite v) := by
    rw [State.aloneWrite_eq]
    exact .foldl _ (fun x b => .ite _ (fun _ => (x.aloneEnd_affects b).mono (Set.subset_univ _)) fun _ => .refl x) _ _
  exact haff.part State.resp fun _ _ => rfl

/-! ### SEND -/

theorem State.pendFrame_pend (s : State) (c : Nat) (f : TxFrame) : ((s.pendFrame c f).ctl c).pend = (s.ctl c).pend ++ [f] := by
  unfold State.pendFrame
  rw [State.ctl_setCtl]

theorem State.pendFrame_mem (s : State) (c : Nat) (f : TxFrame) : (s.pendFrame c f).mem = s.mem := rfl

theorem execSendCmd_eq {s : State} {c : Nat} {d : Desc} (hc : c < 8)
    (h : (s.ring (48 + c)).taken.find? (fun d => d.running && decide (d.op = 1) && !(s.ctl c).pend.any (fun f => decide (f.kind = .ring d))) = some d) :
    exec (.sendCmd (48 + c)) s = .next (s.sendFrame c d) := by
  refine congrArg Host.Outcome.next ((if_neg (show ¬ (48 + c < 48 ∨ 56 ≤ 48 + c) by omega)).trans ?_)
  dsimp only
  rw [Nat.add_sub_cancel_left, h]

theorem execSendCmd_direct (s : State) (c : Nat) (d : Desc) (id dlc : Nat) (sasub : Bool) (hc : c < 8)
    (hd : (s.ring (48 + c)).taken.find? (fun d => d.running && decide (d.op = 1) && !(s.ctl c).pend.any (fun f => decide (f.kind = .ring d))) = some d)
    (hsend : sendDesc d = some (id, dlc, sasub, none)) :
    Completes (.sendCmd (48 + c)) s (fun t => if s.canState c ≠ 2 ∧ s.canState c ≠ 4 then t = s.complete (48 + c) d { status := 0x40 }
      else if sasub = true ∧ s.noAddr c = true then t = s.complete (48 + c) d { status := 0x42 }
      else (t.ctl c).pend = (s.ctl c).pend ++
        [{ kind := .ring d, id := id, dlc := dlc, data := (d.payload.drop 8).take (dlcLen (bitAt id 30) dlc), sasub := sasub }] ∧ t.mem = s.mem) := by
  refine ⟨_, execSendCmd_eq hc hd, ?_⟩
  unfold State.sendFrame
  rw [hsend]
  dsimp only
  split
  · rfl
  · split
    · rfl
    · exact ⟨s.pendFrame_pend c _, rfl⟩

theorem execSendCmd_invalid (s : State) (c : Nat) (d : Desc) (hc : c < 8)
    (hd : (s.ring (48 + c)).taken.find? (fun d => d.running && decide (d.op = 1) && !(s.ctl c).pend.any (fun f => decide (f.kind = .ring d))) = some d)
    (hsend : sendDesc d = none) : Completes (.sendCmd (48 + c)) s (fun t => t = s.complete (48 + c) d { status := 2 }) := by
  refine ⟨_, execSendCmd_eq hc hd, ?_⟩
  unfold State.sendFrame
  rw [hsend]

theorem execSendCmd_indirect (s : State) (c : Nat) (d : Desc) (id dlc p : Nat) (sasub : Bool) (hc : c < 8)
    (hd : (s.ring (48 + c)).taken.find? (fun d => d.running && decide (d.op = 1) && !(s.ctl c).pend.any (fun f => decide (f.kind = .ring d))) = some d)
    (hsend : sendDesc d = some (id, dlc, sasub, some p)) (hst : s.canState c = 2 ∨ s.canState c = 4) (haddr : ¬ (sasub = true ∧ s.noAddr c = true)) :
    Completes (.sendCmd (48 + c)) s (fun t => if inBedRange p (dlcLen (bitAt id 30) dlc) = false then t = s.complete (48 + c) d { status := 5 }
      else if s.mem.poisoned p (dlcLen (bitAt id 30) dlc) = true then t = s.canPoison.complete (48 + c) d { status := 0x44 }
      else (t.ctl c).pend = (s.ctl c).pend ++
        [{ kind := .ring d, id := id, dlc := dlc, data := s.mem.readBytes p (dlcLen (bitAt id 30) dlc), sasub := sasub }] ∧ t.mem = s.mem) := by
  refine ⟨_, execSendCmd_eq hc hd, ?_⟩
  unfold State.sendFrame
  rw [hsend]
  dsimp only
  rw [if_neg (show ¬ (s.canState c ≠ 2 ∧ s.canState c ≠ 4) from fun h => hst.elim h.1 h.2), if_neg haddr]
  split
  · rfl
  · split
    · rfl
    · exact ⟨s.pendFrame_pend c _, rfl⟩

/-! ### CANCEL -/

/-- Frames taken off a list one after the other: where they are those that satisfy a test, the others remain. -/
theorem foldl_erase_filter (p : TxFrame → Bool) (l : List TxFrame) : (l.filter p).foldl (fun (m : List TxFrame) f => m.erase f) l = l.filter (fun f => !p f) := by
  induction l with
  | nil => rfl
  | cons x r ih =>
    have hskip (k : List TxFrame) (hk : ∀ f ∈ k, p f = true) (hx : p x = false) (m : List TxFrame) :
        k.foldl (fun (m : List TxFrame) f => m.erase f) (x :: m) = x :: k.foldl (fun (m : List TxFrame) f => m.erase f) m := by
      induction k generalizing m with
      | nil => rfl
      | cons y k ihk =>
        have hyx : ¬ (x == y) = true := fun h => by
          rw [beq_iff_eq.mp h, hk y List.mem_cons_self] at hx
          exact Bool.noConfusion hx
        rw [List.foldl_cons, List.erase_cons_tail hyx]
        exact ihk (fun f hf => hk f (List.mem_cons_of_mem _ hf)) _
    cases hx : p x with
    | true =>
      rw [List.filter_cons_of_pos hx, List.foldl_cons, List.erase_cons_head, ih, List.filter_cons_of_neg (by rw [hx]; exact Bool.noConfusion)]
    | false =>
      rw [List.filter_cons_of_neg (by rw [hx]; exact Bool.noConfusion), hskip _ (fun f hf => (List.mem_filter.mp hf).2) hx, ih,
        List.filter_cons_of_pos (by rw [hx]; rfl)]

/-- The frames a CANCEL takes back. -/
def State.cancelled (s : State) (c tag : Nat) : List TxFrame := (s.ctl c).pend.filter (fun f => f.hasTag tag && !f.begun)

/-- The state once they have completed CANCELLED. -/
def State.takenBack (s : State) (c tag : Nat) : State := (s.cancelled c tag).foldl (fun (x : State) f => (x.swap c f []).frameDone c f 0x43) s

theorem State.takenBack_ctl (s : State) (c tag : Nat) :
    (s.takenBack c tag).ctl c = { s.ctl c with pend := (s.ctl c).pend.filter (fun f => !(f.hasTag tag && !f.begun)) } := by
  have hall (l : List TxFrame) (x : State) : (l.foldl (fun (x : State) f => (x.swap c f []).frameDone c f 0x43) x).ctl c =
      { x.ctl c with pend := l.foldl (fun (m : List TxFrame) f => m.erase f) (x.ctl c).pend } := by
    induction l generalizing x with
    | nil => rfl
    | cons f r ih =>
      have hstep : ((x.swap c f []).frameDone c f 0x43).ctl c = { x.ctl c with pend := (x.ctl c).pend.erase f } := by
        rw [← swapFrame_nil]
        exact ((State.frameDone_affects ∅ _ c f 0x43).ctl c).trans (x.swap_ctl c f [])
      rw [List.foldl_cons, ih, hstep]
      rfl
  unfold State.takenBack
  rw [hall]
  exact congrArg (fun l => ({ s.ctl c with pend := l } : Can)) (foldl_erase_filter _ _)

/-- The frame under way marked, and the CANCEL left waiting for it. -/
def State.cancelWaits (s : State) (c : Nat) (f : TxFrame) (d : Desc) (n : Nat) : State :=
  (s.swap c f [{ f with marked := true }]).setCtl c
    { (s.swap c f [{ f with marked := true }]).ctl c with cancels := ((s.swap c f [{ f with marked := true }]).ctl c).cancels ++ [(d, n)] }

theorem State.cancelWaits_ctl (s : State) (c : Nat) (f : TxFrame) (d : Desc) (n : Nat) :
    (s.cancelWaits c f d n).ctl c =
      { s.ctl c with pend := swapFrame f [{ f with marked := true }] (s.ctl c).pend, cancels := (s.ctl c).cancels ++ [(d, n)] } := by
  unfold State.cancelWaits
  rw [State.ctl_setCtl, State.swap_ctl]

/-- A mark on a frame that has begun leaves no frame of its tag that has not. -/
theorem any_swapFrame {f g : TxFrame} {p : TxFrame → Bool} (hg : p g = false) (l : List TxFrame) (hl : l.any p = false) : (swapFrame f [g] l).any p = false := by
  induction l with
  | nil => rfl
  | cons x r ih =>
    rw [List.any_cons, Bool.or_eq_false_iff] at hl
    unfold swapFrame
    split
    · rw [List.singleton_append, List.any_cons, hg, hl.2]
      rfl
    · rw [List.any_cons, hl.1, ih hl.2]
      rfl

theorem execCanCancel_eq {s : State} {c : Nat} {d : Desc} (hc : c < 8)
    (h : (s.ring (48 + c)).taken.find? (fun d => d.running && decide (d.op = 2) && !(s.ctl c).cancels.any (fun p => decide (p.1 = d))) = some d)
    (hmode : d.tmode = 0) :
    exec (.canCancel (48 + c)) s = .next (match ((s.takenBack c (d.le 20 2)).ctl c).pend.find? (fun f => f.hasTag (d.le 20 2) && f.begun) with
      | some f => (s.takenBack c (d.le 20 2)).cancelWaits c f d (s.cancelled c (d.le 20 2)).length
      | none => (s.takenBack c (d.le 20 2)).complete (48 + c) d { bytes := resultOf [(24, 4, (s.cancelled c (d.le 20 2)).length)] }) := by
  refine congrArg Host.Outcome.next ((if_neg (show ¬ (48 + c < 48 ∨ 56 ≤ 48 + c) by omega)).trans ?_)
  dsimp only
  rw [Nat.add_sub_cancel_left, h]
  exact (if_neg fun h => h hmode).trans rfl

theorem execCanCancel_cancels (s : State) (c : Nat) (d : Desc) (hc : c < 8)
    (hd : (s.ring (48 + c)).taken.find? (fun d => d.running && decide (d.op = 2) && !(s.ctl c).cancels.any (fun p => decide (p.1 = d))) = some d)
    (hmode : d.tmode = 0) :
    Completes (.canCancel (48 + c)) s (fun t => (t.ctl c).pend.any (fun f => f.hasTag (d.le 20 2) && !f.begun) = false ∧
      (((s.ctl c).pend.any (fun f => f.hasTag (d.le 20 2) && f.begun) = false →
        (t.ctl c).cancels = (s.ctl c).cancels ∧ (t.ctl c).pend = (s.ctl c).pend.filter (fun f => !f.hasTag (d.le 20 2)))) ∧
      ((s.ctl c).pend.any (fun f => f.hasTag (d.le 20 2) && f.begun) = true → (t.ctl c).cancels.length = (s.ctl c).cancels.length + 1)) := by
  refine ⟨_, execCanCancel_eq hc hd hmode, ?_⟩
  have hctl := s.takenBack_ctl c (d.le 20 2)
  have hgone : ((s.takenBack c (d.le 20 2)).ctl c).pend.any (fun f => f.hasTag (d.le 20 2) && !f.begun) = false := by
    rw [hctl, List.any_eq_false]
    intro f hf hcon
    have hnot := (List.mem_filter.mp hf).2
    rw [hcon] at hnot
    exact Bool.noConfusion hnot
  have hbegun : ((s.takenBack c (d.le 20 2)).ctl c).pend.any (fun f => f.hasTag (d.le 20 2) && f.begun) =
      (s.ctl c).pend.any (fun f => f.hasTag (d.le 20 2) && f.begun) := by
    rw [hctl, Bool.eq_iff_iff, List.any_eq_true, List.any_eq_true]
    refine ⟨fun ⟨f, hf, hp⟩ => ⟨f, List.mem_of_mem_filter hf, hp⟩, fun ⟨f, hf, hp⟩ => ⟨f, List.mem_filter.mpr ⟨hf, ?_⟩, hp⟩⟩
    rw [((Bool.and_eq_true _ _).mp hp).2]
    rw [Bool.not_true, Bool.and_false]
    rfl
  have hcancels : ((s.takenBack c (d.le 20 2)).ctl c).cancels = (s.ctl c).cancels := by rw [hctl]
  have hpend : ((s.takenBack c (d.le 20 2)).ctl c).pend = (s.ctl c).pend.filter (fun f => !(f.hasTag (d.le 20 2) && !f.begun)) := by rw [hctl]
  generalize s.takenBack c (d.le 20 2) = u at hgone hbegun hcancels hpend
  dsimp only
  split
  case h_1 f hf =>
    have hany : (u.ctl c).pend.any (fun f => f.hasTag (d.le 20 2) && f.begun) = true :=
      List.any_eq_true.mpr ⟨f, List.mem_of_find?_eq_some hf, List.find?_some (p := fun f : TxFrame => f.hasTag (d.le 20 2) && f.begun) hf⟩
    have hfb : (f.hasTag (d.le 20 2) && f.begun) = true := List.find?_some (p := fun f : TxFrame => f.hasTag (d.le 20 2) && f.begun) hf
    rw [State.cancelWaits_ctl]
    refine ⟨any_swapFrame ?_ _ hgone, fun hno => ?_, fun _ => ?_⟩
    · rw [((Bool.and_eq_true _ _).mp hfb).2]
      exact Bool.and_false _
    · rw [← hbegun, hany] at hno
      exact Bool.noConfusion hno
    · rw [List.length_append, hcancels]
      rfl
  case h_2 hnone =>
    have hno : (u.ctl c).pend.any (fun f => f.hasTag (d.le 20 2) && f.begun) = false :=
      List.any_eq_false.mpr fun f hf => List.find?_eq_none.mp hnone f hf
    have hdone := State.AffectsOnly.ctl (State.AffectsOnly.complete (S := ∅) u (48 + c) d { bytes := resultOf [(24, 4, (s.cancelled c (d.le 20 2)).length)] }) c
    rw [hdone]
    refine ⟨hgone, fun _ => ⟨hcancels, hpend.trans ?_⟩, fun hyes => ?_⟩
    · refine List.filter_congr fun f hf => ?_
      have hfno := List.any_eq_false.mp (hbegun.symm.trans hno) f hf
      cases hb : f.begun with
      | false => rw [Bool.not_false, Bool.and_true]
      | true =>
        rw [hb, Bool.and_true] at hfno
        rw [Bool.of_not_eq_true hfno]
        rfl
    · rw [← hbegun, hno] at hyes
      exact Bool.noConfusion hyes

end Sys2Proof.Machine
end

section
/-! PROOFS. Frames received from a CAN bus (R353, R355-R360, R365-R368). -/

namespace Sys2Proof.Machine

/-! ### What a store makes of memory -/

theorem State.storeOne_hlt (s : State) (a : Nat) (b : Bytes) (p : Bool) : (s.storeOne a b p).hlt = s.hlt := by
  unfold State.storeOne State.reencode
  split <;> rfl

/-- One part of a range written a second time by a mirror region. -/
def Memory.mirrored (p : Bool) (m : Memory) (x : Fin 16 × Nat × Nat × Nat) : Memory :=
  (m.writeBytes x.2.2.2 (m.readBytes x.2.1 x.2.2.1)).remark x.2.2.2 (m.readBytes x.2.1 x.2.2.1).length p

theorem State.mirror_mem (s : State) (a n : Nat) (p : Bool) : (s.mirror a n p).mem = (s.mirrorParts a n).foldl (Memory.mirrored p) s.mem := by
  unfold State.mirror
  exact (List.foldl_hom State.mem fun x m => (State.mirrorCount_mem (x.storeOne m.2.2.2 (x.mem.readBytes m.2.1 m.2.2.1) p) _ _ _).symm).symm

/-- What a store makes of memory depends on memory and the mirror regions alone. -/
theorem State.put_mem_congr {s t : State} (hmem : t.mem = s.mem) (hhlt : t.hlt = s.hlt) (a : Nat) (b : Bytes) : (t.put a b).mem = (s.put a b).mem := by
  have hparts : (t.storeOne a b false).mirrorParts a b.length = (s.storeOne a b false).mirrorParts a b.length := by
    unfold State.mirrorParts
    rw [State.storeOne_hlt, State.storeOne_hlt, hhlt]
  have hone : (t.storeOne a b false).mem = (s.storeOne a b false).mem := by
    unfold State.storeOne
    rw [hmem]
  show ((t.storeOne a b false).mirror a b.length false).mem = ((s.storeOne a b false).mirror a b.length false).mem
  rw [State.mirror_mem, State.mirror_mem, hparts, hone]

/-! ### What the network management reads -/

/-- The registers that the network management of controller `c` may change. -/
def protoRegs (c : Nat) : Set Nat := {k | k = Reg.CAN_CHc_TXPEND c ∨ k = Reg.CAN_STAT ∨ k = Reg.CAN_PTNCNT ∨ 0xD400 ≤ k ∧ k < 0xD800}

/-- What network management changes: no sequence numbers of receive buffers. -/
structure State.ProtoTo (c : Nat) (s t : State) : Prop where
  frame : State.CanTo (protoRegs c) s t
  seq : (t.ctl c).rxSeq = (s.ctl c).rxSeq

namespace State.ProtoTo

variable {c : Nat} {s t u : State}

theorem refl (s : State) : ProtoTo c s s := ⟨.refl s, rfl⟩

theorem trans (h : ProtoTo c s t) (h' : ProtoTo c t u) : ProtoTo c s u := ⟨h.frame.trans h'.frame, h'.seq.trans h.seq⟩

theorem ite (p : Prop) [Decidable p] (h : p → ProtoTo c s t) (h' : ¬ p → ProtoTo c s u) : ProtoTo c s (if p then t else u) := by
  split
  · exact h ‹_›
  · exact h' ‹_›

theorem foldl {α : Type*} (f : State → α → State) (h : ∀ (x : State) a, ProtoTo c x (f x a)) (l : List α) (s : State) : ProtoTo c s (l.foldl f s) :=
  List.foldlRecOn (motive := fun x : State => ProtoTo c s x) l f (refl s) fun x hx a _ => hx.trans (h x a)

theorem of_affects (h : s.AffectsOnly (protoRegs c) t) : ProtoTo c s t := ⟨.of_affects h, congrArg Can.rxSeq (h.ctl c)⟩

theorem setCtl (s : State) (x : Can) (h : x.rxSeq = (s.ctl c).rxSeq) : ProtoTo c s (s.setCtl c x) :=
  ⟨.setCtl s c x (.inl rfl), (congrArg Can.rxSeq (s.ctl_setCtl c x)).trans h⟩

theorem withCan (s : State) (x : Cans) (h : x.ctl = s.can.ctl) : ProtoTo c s { s with can := x } :=
  ⟨.withCan s x, congrArg (fun l : SMap Can => (SMap.get (fun _ => ({} : Can)) l c).rxSeq) h⟩

theorem ptnReg_mem (k : Nat) : Reg.CAN_PTNk k ∈ protoRegs c := .inr (.inr (.inr (by unfold Reg.CAN_PTNk; omega)))

theorem wrPtn (s : State) {f : Fld} (v k : Nat) (h : f.addr = Reg.CAN_PTNk k) : ProtoTo c s (s.wr f v) := of_affects (.wr s v (.inl (h ▸ ptnReg_mem k)))

theorem ptnLive (s : State) : ProtoTo c s s.ptnLive := of_affects (.wr s _ (.inl (.inr (.inr (.inl rfl)))))

theorem ptnSet (s : State) (k d st addr : Nat) : ProtoTo c s (s.ptnSet k d st addr) :=
  (((wrPtn s _ k rfl).trans (wrPtn _ _ k rfl)).trans (wrPtn _ _ k rfl)).trans (ptnLive _)

theorem ptnSeen (s : State) (k : Nat) : ProtoTo c s (s.ptnSeen k) := by
  have hseen : ProtoTo c s { s with can := { s.can with seen := SMap.set (fun _ => 0) s.can.seen k s.now } } := withCan s _ rfl
  exact hseen.trans (wrPtn _ _ k rfl)

theorem ptnEvent (s : State) (tag k : Nat) : ProtoTo c s (s.ptnEvent tag k) :=
  of_affects ((AffectsOnly.flag s _ (.inl (.inr (.inl rfl)))).trans (State.canEvent_affects _ _ _ _ _ _ _ _))

theorem ptnArea (s : State) (k : Nat) : ProtoTo c s (s.ptnArea k) := of_affects (.put s _ _)

theorem ptnClaim (s : State) (d addr k tag : Nat) : ProtoTo c s (s.ptnClaim d addr k tag) := by
  unfold State.ptnClaim
  split
  · refine ite _ (fun _ => ?_) fun _ => (((ptnSet s _ _ _ _).trans (ptnSeen _ _)).trans (ptnArea _ _)).trans (ptnEvent _ _ _)
    have ht (x : State) (j : Nat) : ProtoTo c x (((((x.ptnSet j d 3 0xFE).ptnEvent 12 j).ptnSet k d 1 addr)).ptnSeen k) :=
      (((ptnSet x _ _ _ _).trans (ptnEvent _ _ _)).trans (ptnSet _ _ _ _ _)).trans (ptnSeen _ _)
    exact ite _ (fun _ => (ht s _).trans (ptnArea _ _)) fun _ => ((ht s _).trans (ptnArea _ _)).trans (ptnEvent _ _ _)
  · have ht (x : State) : ProtoTo c x (((x.ptnSet k d 1 addr).ptnSeen k).ptnArea k) := ((ptnSet x _ _ _ _).trans (ptnSeen _ _)).trans (ptnArea _ _)
    exact ite _ (fun _ => ht s) fun _ => (ht s).trans (ptnEvent _ _ _)

theorem partnerUpdate (s : State) (d addr name : Nat) : ProtoTo c s (s.partnerUpdate d addr name) := by
  have hgone (x : State) (k tag : Nat) : ProtoTo c x ((((x.ptnSet k d 3 0xFE).ptnSeen k).ptnArea k).ptnEvent tag k) :=
    (((ptnSet x _ _ _ _).trans (ptnSeen _ _)).trans (ptnArea _ _)).trans (ptnEvent _ _ _)
  unfold State.partnerUpdate
  split
  · exact ite _ (fun _ => hgone s _ _) fun _ => ite _ (fun _ => ptnClaim s _ _ _ _) fun _ => ptnClaim s _ _ _ _
  · dsimp only
    split
    · have ht (k : Nat) : ProtoTo c s { s with can := { s.can with names := SMap.set (fun _ => 0) s.can.names k name } } := withCan s _ rfl
      exact ite _ (fun _ => (ht _).trans (hgone _ _ _)) fun _ => ((ht _).trans (ptnSet _ _ _ _ _)).trans (ptnClaim _ _ _ _ _)
    · have ht : ProtoTo c s (s.inc F.CAN_PTNCNT_OVF) := of_affects (.inc s (.inl (.inr (.inr (.inl rfl)))))
      generalize s.inc F.CAN_PTNCNT_OVF = t at ht ⊢
      refine ite _ (fun _ => ht) fun _ => ?_
      have hfull : ProtoTo c t { t with can := { t.can with fullTold := true } } := withCan t _ rfl
      exact (ht.trans hfull).trans (of_affects ((AffectsOnly.flag _ _ (.inl (.inr (.inl rfl)))).trans (State.canEvent_affects _ _ _ _ _ _ _ _)))

theorem partnerHeard (s : State) (d addr : Nat) : ProtoTo c s (s.partnerHeard d addr) := by
  unfold State.partnerHeard
  extract_lets ks t
  have ht : ProtoTo c s t := foldl _ (fun x k => ptnSeen x k) _ _
  refine ite _ (fun _ => ht) fun _ => ?_
  split
  · exact (ht.trans (ptnSet _ _ _ _ _)).trans (ptnEvent _ _ _)
  · exact ht

end State.ProtoTo

theorem State.protocol_to (s : State) (c : Nat) (f : CanFrame) : State.ProtoTo c s (s.protocol c f) := by
  unfold State.protocol
  extract_lets id ext sa da cur name hit _ t claim _ u _ v _ w x
  have ht : State.ProtoTo c s t := .ite _ (fun _ => .setCtl s _ rfl) fun _ => .refl s
  have hu : State.ProtoTo c t u := .ite _ (fun _ => .setCtl t _ rfl) fun _ => .refl t
  have hv : State.ProtoTo c u v := .ite _ (fun _ => .setCtl u _ rfl) fun _ => .refl u
  have hw : State.ProtoTo c v w := .ite _ (fun _ => .setCtl v _ rfl) fun _ => .refl v
  have hx : State.ProtoTo c w x := .partnerHeard w _ _
  refine .ite _ (fun _ => ht) fun _ => .ite _ (fun _ => ((ht.trans hu).trans hv).trans hw) fun _ => ?_
  exact ((((ht.trans hu).trans hv).trans hw).trans hx).trans (.ite _ (fun _ => .partnerUpdate x _ _ _) fun _ => .refl x)

/-- A frame with an 11-bit identifier is none of network management's: memory stays. -/
theorem State.protocol_mem {s : State} {c : Nat} {f : CanFrame} (h : bitAt f.id 31 = false) : (s.protocol c f).mem = s.mem := by
  unfold State.protocol
  extract_lets id ext sa da cur name hit _ t claim _ u _ v _ w x
  rw [if_pos (show ext = false from h)]
  unfold t
  split <;> rfl

/-! ### Delivery -/

/-- A frame that ends ALONE, before the receive error counter falls. -/
def State.heard (s : State) (c : Nat) : State := (s.wr (F.CAN_CHc_ERRCNT_ACKSTREAK c) 0).aloneEnd c

/-- The registers that hearing a frame changes. -/
def heardRegs (c : Nat) : Set Nat := {k | k = Reg.CAN_CHc_ERRCNT c ∨ k = Reg.CAN_CHc_STAT c ∨ k = Reg.CAN_ALONEMAP}

theorem State.heard_affects (s : State) (c : Nat) : s.AffectsOnly (heardRegs c) (s.heard c) :=
  (AffectsOnly.wr s _ (.inl (.inl rfl))).trans ((State.aloneEnd_affects _ c).mono fun _ h => .inr h)

theorem State.heard_streak (s : State) (c : Nat) : (s.heard c).rd (F.CAN_CHc_ERRCNT_ACKSTREAK c) = 0 := by
  have hmap : Reg.CAN_CHc_ERRCNT c ≠ Reg.CAN_ALONEMAP := by
    unfold Reg.CAN_CHc_ERRCNT Reg.CAN_ALONEMAP
    omega
  exact (State.aloneEnd_rd _ c (f := F.CAN_CHc_ERRCNT_ACKSTREAK c) hmap (.inl (Reg.canErrcnt_ne_stat c))).trans
    (s.rd_wr_fits (f := F.CAN_CHc_ERRCNT_ACKSTREAK c) (Fld.hi_lt rfl) (by positivity))

theorem State.heard_rd (s : State) (c : Nat) {f : Fld} (hf : f.addr = Reg.CAN_CHc_STAT c) (hA : (F.CAN_CHc_STAT_ALONE c).apart f = true)
    (hS : (F.CAN_CHc_STAT_SUSP c).apart f = true) : (s.heard c).rd f = s.rd f :=
  (State.aloneEnd_rd _ c (hf ▸ Reg.canStat_ne_alonemap c) (.inr ⟨hA, hS⟩)).trans (s.rd_wr_other _ (hf ▸ (Reg.canErrcnt_ne_stat c).symm))

/-- The counter falls by one while no error state changes. -/
theorem State.recDown_quiet {s : State} {c : Nat} (hE : s.rd (F.CAN_CHc_STAT_ERRST c) = 0) (hrec : s.rd (F.CAN_CHc_STAT_REC c) ≤ 127)
    (htec : (s.ctl c).tec ≤ 127) : s.recDown c = s.wr (F.CAN_CHc_STAT_REC c) (s.rd (F.CAN_CHc_STAT_REC c) - 1) := by
  have hE' : (s.wr (F.CAN_CHc_STAT_REC c) (s.rd (F.CAN_CHc_STAT_REC c) - 1)).rd (F.CAN_CHc_STAT_ERRST c) = 0 := (s.rd_wr_apart _ rfl).trans hE
  have hR : (s.wr (F.CAN_CHc_STAT_REC c) (s.rd (F.CAN_CHc_STAT_REC c) - 1)).rd (F.CAN_CHc_STAT_REC c) ≤ 127 := by
    rw [s.rd_wr_fits (f := F.CAN_CHc_STAT_REC c) (Fld.hi_lt rfl) (show _ < 2 ^ 8 by omega)]
    omega
  have hT : (s.wr (F.CAN_CHc_STAT_REC c) (s.rd (F.CAN_CHc_STAT_REC c) - 1)).ctl c = s.ctl c := s.wr_ctl _ _ _
  unfold State.recDown
  rw [if_neg (not_lt.mpr hrec), State.errState_eq]
  refine if_pos (.inr (hE'.trans ?_))
  unfold State.errDue
  rw [hT, if_neg (not_or.mpr ⟨not_lt.mpr htec, not_lt.mpr hR⟩)]

/-- The acceptance entry that takes a frame to a buffer. -/
theorem State.deliver_buffer {s : State} {c : Nat} {f : CanFrame} {e : AccEntry} {l : List AccEntry} (hacc : s.accAt c f.sof = e :: l)
    (hmatch : s.accMatch c e f.id = true) (hact : e.action = 1) (hbuf : e.buf < s.rd (F.CAN_CHc_RXBUF_NBUF c)) :
    s.deliver c f = (s.rxBuffer c e.buf f).wideAdd Reg.CAN_RXCNT_LO 1 := by
  have hfind : (s.accAt c f.sof).zipIdx.find? (fun e => s.accMatch c e.1 f.id) = some (e, 0) := by
    rw [hacc, List.zipIdx_cons]
    exact List.find?_cons_of_pos hmatch
  have hto : (bitAt e.action 0 && decide (e.buf < s.rd (F.CAN_CHc_RXBUF_NBUF c))) = true := by
    rw [hact, decide_eq_true hbuf]
    rfl
  have hring : ¬ bitAt e.action 1 = true := by rw [hact]; decide
  unfold State.deliver
  rw [hfind]
  dsimp only
  rw [hto, if_neg hring, if_pos rfl]
  rfl

/-- The bytes of a receive buffer's record. -/
def rxBytes (s : State) (c b : Nat) (f : CanFrame) : Bytes :=
  leBytes 4 ((SMap.get (fun _ => 0) (s.ctl c).rxSeq b + 1) % 2 ^ 32) ++ leBytes 4 f.id ++ leBytes 8 s.now ++ leBytes 4 (f.sof / 1000 % 2 ^ 32) ++
    leBytes 1 (f.dlc + (if f.esi = true then 16 else 0)) ++ leBytes 1 c ++ leBytes 2 (dlcLen (bitAt f.id 30) f.dlc) ++ List.replicate 36 0 ++
    leBytes 4 ((SMap.get (fun _ => 0) (s.ctl c).rxSeq b + 1) % 2 ^ 32) ++ fitBytes 64 (f.data.take (dlcLen (bitAt f.id 30) f.dlc))

/-- A controller with the next sequence number in a receive buffer. -/
def State.rxNext (s : State) (c b : Nat) : State :=
  s.setCtl c { s.ctl c with rxSeq := SMap.set (fun _ => 0) (s.ctl c).rxSeq b ((SMap.get (fun _ => 0) (s.ctl c).rxSeq b + 1) % 2 ^ 32) }

theorem State.rxBuffer_eq {s : State} {c b : Nat} {f : CanFrame} (h : b < s.rd (F.CAN_CHc_RXBUF_NBUF c)) :
    s.rxBuffer c b f = (s.rxNext c b).put (bedStoreBase + s.rd (F.CAN_CHc_RXBUF_OFF c) * 128 + 128 * b) (rxBytes s c b f) :=
  if_neg (not_le.mpr h)

theorem State.rxNext_seq (s : State) (c b : Nat) :
    SMap.get (fun _ => 0) ((s.rxNext c b).ctl c).rxSeq b = (SMap.get (fun _ => 0) (s.ctl c).rxSeq b + 1) % 2 ^ 32 := by
  unfold State.rxNext
  rw [State.ctl_setCtl]
  exact SMap.get_set_same _ _ _ _

theorem State.rxNext_to (s : State) (c b : Nat) : State.CanTo {k | k = Reg.CAN_CHc_TXPEND c} s (s.rxNext c b) := .setCtl s c _ rfl

/-- The state in which a quiet controller delivers what it heard. -/
def State.heardOne (s : State) (c : Nat) : State := (s.heard c).wr (F.CAN_CHc_STAT_REC c) (s.rd (F.CAN_CHc_STAT_REC c) - 1)

theorem State.heardOne_affects (s : State) (c : Nat) : s.AffectsOnly (heardRegs c) (s.heardOne c) :=
  (s.heard_affects c).trans (.wr _ _ (.inl (.inr (.inl rfl))))

theorem State.heardOne_eq {s : State} {c : Nat} (hE : s.rd (F.CAN_CHc_STAT_ERRST c) = 0) (hrec : s.rd (F.CAN_CHc_STAT_REC c) ≤ 127)
    (htec : (s.ctl c).tec ≤ 127) : (s.heard c).recDown c = s.heardOne c := by
  have hR : (s.heard c).rd (F.CAN_CHc_STAT_REC c) = s.rd (F.CAN_CHc_STAT_REC c) := s.heard_rd c rfl rfl rfl
  have hE' : (s.heard c).rd (F.CAN_CHc_STAT_ERRST c) = 0 := (s.heard_rd c (f := F.CAN_CHc_STAT_ERRST c) rfl rfl rfl).trans hE
  have hT : (s.heard c).ctl c = s.ctl c := (s.heard_affects c).ctl c
  rw [State.recDown_quiet hE' (by rw [hR]; exact hrec) (by rw [hT]; exact htec), hR]
  rfl

theorem State.memHlt_wr (s : State) (f : Fld) (v : Nat) : ((s.wr f v).mem, (s.wr f v).hlt) = (s.mem, s.hlt) := rfl

theorem State.heardOne_memHlt (s : State) (c : Nat) : ((s.heardOne c).mem, (s.heardOne c).hlt) = (s.mem, s.hlt) := by
  unfold State.heardOne State.heard State.aloneEnd
  rw [State.memHlt_wr, State.memHlt_wr, State.memHlt_wr, State.memHlt_wr, State.memHlt_wr]

theorem State.rxNext_mem (s : State) (c b : Nat) : (s.rxNext c b).mem = s.mem := rfl
theorem State.rxNext_hlt (s : State) (c b : Nat) : (s.rxNext c b).hlt = s.hlt := rfl

theorem Reg.canRxbuf_notHeard (c : Nat) : Reg.CAN_CHc_RXBUF c ∉ heardRegs c := by
  show ¬ (_ ∨ _ ∨ _)
  unfold Reg.CAN_CHc_RXBUF Reg.CAN_CHc_ERRCNT Reg.CAN_CHc_STAT Reg.CAN_ALONEMAP
  omega

theorem Reg.canClaim_notHeard (c : Nat) : Reg.CAN_CHc_CLAIM c ∉ heardRegs c := by
  show ¬ (_ ∨ _ ∨ _)
  unfold Reg.CAN_CHc_CLAIM Reg.CAN_CHc_ERRCNT Reg.CAN_CHc_STAT Reg.CAN_ALONEMAP
  omega

/-- What delivery to a buffer and network management leave of the registers of the controller's state. -/
theorem State.received_rd (x : State) {c b : Nat} (a : Nat) (v : Bytes) (f : CanFrame) {g : Fld} (hg : g.addr / 0x1000 = 0xD)
    (hP : g.addr ∉ protoRegs c) (hT : g.addr ≠ Reg.CAN_CHc_TXPEND c) :
    ((((x.rxNext c b).put a v).wideAdd Reg.CAN_RXCNT_LO 1).protocol c f).rd g = x.rd g :=
  ((State.protocol_to _ c f).frame.rd (canBlock hg) hP).trans
    ((((State.AffectsOnly.put (S := ∅) _ _ _).trans (.wideAdd _ _ _)).rd (canBlock hg) (Set.notMem_empty _)).trans (x.setCtl_rd c _ hT))

theorem State.received_seq (x : State) {c b : Nat} (a : Nat) (v : Bytes) (f : CanFrame) :
    (((((x.rxNext c b).put a v).wideAdd Reg.CAN_RXCNT_LO 1).protocol c f).ctl c).rxSeq = ((x.rxNext c b).ctl c).rxSeq :=
  (State.protocol_to _ c f).seq.trans (congrArg Can.rxSeq (((State.AffectsOnly.put (S := ∅) _ _ _).trans (.wideAdd _ _ _)).ctl c))

theorem Reg.canStat_notProto (c : Nat) : Reg.CAN_CHc_STAT c ∉ protoRegs c := by
  show ¬ (_ ∨ _ ∨ _ ∨ _)
  unfold Reg.CAN_CHc_STAT Reg.CAN_CHc_TXPEND Reg.CAN_STAT Reg.CAN_PTNCNT
  omega

theorem Reg.canErrcnt_notProto (c : Nat) : Reg.CAN_CHc_ERRCNT c ∉ protoRegs c := by
  show ¬ (_ ∨ _ ∨ _ ∨ _)
  unfold Reg.CAN_CHc_ERRCNT Reg.CAN_CHc_TXPEND Reg.CAN_STAT Reg.CAN_PTNCNT
  omega

theorem Code.cans_le (c : Code) : c.cans ≤ 8 := by cases c <;> decide

theorem execCanFrameReceived_delivers (s : State) (c : Nat) (f : CanFrame) (e : AccEntry) (l : List AccEntry) (hbed : s.bedOn = true)
    (hc : c < s.code.cans) (hst : s.canState c = 2 ∨ s.canState c = 3) (hsof : f.sof ≤ s.now) (hdata : f.remote = false)
    (hacc : s.accAt c f.sof = e :: l) (hmatch : s.accMatch c e f.id = true) (hact : e.action = 1) (hbuf : e.buf < s.rd (F.CAN_CHc_RXBUF_NBUF c))
    (hE : s.rd (F.CAN_CHc_STAT_ERRST c) = 0) (hrec : s.rd (F.CAN_CHc_STAT_REC c) ≤ 127) (htec : (s.ctl c).tec ≤ 127) :
    Completes (.canFrameReceived c f) s (fun t =>
      SMap.get (fun _ => 0) (t.ctl c).rxSeq e.buf = (SMap.get (fun _ => 0) (s.ctl c).rxSeq e.buf + 1) % 2 ^ 32 ∧ t.rd (F.CAN_CHc_STAT_ALONE c) = 0 ∧
      t.rd (F.CAN_CHc_STAT_SUSP c) = 0 ∧ t.rd (F.CAN_CHc_ERRCNT_ACKSTREAK c) = 0 ∧
      (bitAt f.id 31 = false → t.mem = (s.put (bedStoreBase + s.rd (F.CAN_CHc_RXBUF_OFF c) * 128 + 128 * e.buf) (rxBytes s c e.buf f)).mem)) := by
  have hgo : ¬ (s.bedOn = false ∨ s.code.cans ≤ c ∨ (s.canState c ≠ 2 ∧ s.canState c ≠ 3) ∨ s.now < f.sof) := by
    rintro (h | h | ⟨h, h'⟩ | h)
    · exact Bool.noConfusion (hbed.symm.trans h)
    · omega
    · exact hst.elim h h'
    · omega
  have hnrem : ¬ f.remote = true := fun h => Bool.noConfusion (hdata.symm.trans h)
  have haff := s.heardOne_affects c
  have hctl : (s.heardOne c).ctl c = s.ctl c := haff.ctl c
  have hrx (g : Fld) (hg : g.addr = Reg.CAN_CHc_RXBUF c) : (s.heardOne c).rd g = s.rd g :=
    haff.rd (canBlock (hg ▸ Reg.canRxbuf_block c)) (hg ▸ Reg.canRxbuf_notHeard c)
  have hcur : (s.heardOne c).rd (F.CAN_CHc_CLAIM_CUR c) = s.rd (F.CAN_CHc_CLAIM_CUR c) :=
    haff.rd (canBlock (Reg.canClaim_block c)) (Reg.canClaim_notHeard c)
  have hacc' : (s.heardOne c).accAt c f.sof = e :: l := by
    unfold State.accAt at hacc ⊢
    rw [hctl]
    exact hacc
  have hmatch' : (s.heardOne c).accMatch c e f.id = true := by
    unfold State.accMatch at hmatch ⊢
    rw [hcur]
    exact hmatch
  have hbuf' : e.buf < (s.heardOne c).rd (F.CAN_CHc_RXBUF_NBUF c) := by
    rw [hrx _ rfl]
    exact hbuf
  have hbytes : rxBytes (s.heardOne c) c e.buf f = rxBytes s c e.buf f := by
    unfold rxBytes
    rw [hctl, haff.part (fun x => x.now) fun _ _ => rfl]
  have hrun : exec (.canFrameReceived c f) s = .next ((State.wideAdd (State.put ((s.heardOne c).rxNext c e.buf)
      (bedStoreBase + s.rd (F.CAN_CHc_RXBUF_OFF c) * 128 + 128 * e.buf) (rxBytes s c e.buf f)) Reg.CAN_RXCNT_LO 1).protocol c f) := by
    refine congrArg Host.Outcome.next ((if_neg hgo).trans ((if_neg hnrem).trans ?_))
    show (((s.heard c).recDown c).deliver c f).protocol c f = _
    rw [State.heardOne_eq hE hrec htec, State.deliver_buffer hacc' hmatch' hact hbuf', State.rxBuffer_eq hbuf', hrx (F.CAN_CHc_RXBUF_OFF c) rfl, hbytes]
  have hseq := (s.heardOne c).rxNext_seq c e.buf
  have hput := State.put_mem_congr (s := s) (t := (s.heardOne c).rxNext c e.buf)
    ((State.rxNext_mem _ _ _).trans (Prod.mk.inj (s.heardOne_memHlt c)).1)
    ((State.rxNext_hlt _ _ _).trans (Prod.mk.inj (s.heardOne_memHlt c)).2)
    (bedStoreBase + s.rd (F.CAN_CHc_RXBUF_OFF c) * 128 + 128 * e.buf) (rxBytes s c e.buf f)
  have halone : (s.heardOne c).rd (F.CAN_CHc_STAT_ALONE c) = 0 := (State.rd_wr_apart _ _ rfl).trans (State.aloneEnd_alone _ c)
  have hsusp : (s.heardOne c).rd (F.CAN_CHc_STAT_SUSP c) = 0 := (State.rd_wr_apart _ _ rfl).trans (State.aloneEnd_susp _ c)
  have hstreak : (s.heardOne c).rd (F.CAN_CHc_ERRCNT_ACKSTREAK c) = 0 := by
    unfold State.heardOne
    rw [State.rd_wr_other _ _ (Reg.canErrcnt_ne_stat c)]
    exact s.heard_streak c
  refine ⟨_, hrun, ?_⟩
  dsimp only
  generalize s.heardOne c = x at hctl hseq hput halone hsusp hstreak ⊢
  refine ⟨?_, ?_, ?_, ?_, fun hstd => ?_⟩
  · rw [State.received_seq, hseq, hctl]
  · exact (x.received_rd _ _ f (Reg.canStat_block c) (Reg.canStat_notProto c) (Reg.canStat_ne_txpend c)).trans halone
  · exact (x.received_rd _ _ f (Reg.canStat_block c) (Reg.canStat_notProto c) (Reg.canStat_ne_txpend c)).trans hsusp
  · exact (x.received_rd _ _ f (Reg.canErrcnt_block c) (Reg.canErrcnt_notProto c) (Reg.canErrcnt_ne_txpend c)).trans hstreak
  · exact (State.protocol_mem hstd).trans hput

/-- Settles O35: frames as they are sent, lost and received, and the descriptors that ask for and take them back. -/
theorem canBusCommandsComplete : Obligations.CanBusCommandsComplete := by
  unfold Obligations.CanBusCommandsComplete
  exact ⟨execCanFrameStart_starts, execCanFrameAcknowledged_acknowledges, execCanFrameLost_waits, execCanReceiveError_counts,
    execCanFrameReceived_delivers, execBusOffRecovery_recovers, execAloneClear_clears, execSendCmd_direct, execSendCmd_invalid,
    execSendCmd_indirect, execCanCancel_cancels⟩

end Sys2Proof.Machine
end

section
/-! PROOFS. The states of a CAN controller, its rates and its acceptance copy (R353, R354, R358). -/

namespace Sys2Proof.Machine

/-! ### Words written -/

/-- The bits of CAN_CHc_CTL that an enabled controller holds fixed. -/
def canFixed : W32 := 0x18F80000

theorem canFixed_clear {i : Nat} (hlo : 29 ≤ i) (hhi : i ≤ 31) : canFixed.toNat.testBit i = false := by
  interval_cases i <;> rfl

/-- The description of the CAN_CHc_CTL registers. -/
def canCtlDesc : RegDesc :=
  ⟨0x100, [(0x40, 8)], [.mkAny .rwp 31 31 0x0, ⟨30, 29, .rwp, .rng 0 2, 0x0, none⟩, .mkAny .rwp 28 28 0x0, .mkAny .rwp 27 27 0x1,
    .mkAny .rwp 26 26 0x0, .mkAny .rwp 25 25 0x1, .mkAny .rwp 24 24 0x1, .mkAny .rwp 23 23 0x0, .mkAny .rwp 22 22 0x0,
    ⟨21, 19, .rwp, .rng 0 4, 0x0, none⟩]⟩

theorem findReg_canCtl (c : Nat) : findReg (Reg.CAN_CHc_CTL c / 0x1000) (Reg.CAN_CHc_CTL c % 0x1000) = some canCtlDesc := by
  have h : ∀ i : Fin 8, findReg ((0xD100 + 0x40 * i.val) / 0x1000) ((0xD100 + 0x40 * i.val) % 0x1000) = some canCtlDesc := by decide
  exact h ⟨c % 8, Nat.mod_lt _ (by decide)⟩

theorem canCtlDesc_fieldsApart : canCtlDesc.fieldsApart := by
  unfold RegDesc.fieldsApart
  decide

theorem State.applyWrite_canCtl (s : State) (c : Nat) (v : W32) :
    (s.applyWrite (Reg.CAN_CHc_CTL c) v).rd (F.CAN_CHc_CTL_EN c) = getBits v 31 31 ∧
      (s.applyWrite (Reg.CAN_CHc_CTL c) v).rd (F.CAN_CHc_CTL_MODE c) = getBits v 30 29 ∧
      (s.applyWrite (Reg.CAN_CHc_CTL c) v).rd (F.CAN_CHc_CTL_CLAIM c) = getBits v 26 26 :=
  ⟨s.getBits_applyWrite (f := .mkAny .rwp 31 31 0x0) v (findReg_canCtl c) canCtlDesc_fieldsApart (by decide) rfl,
    s.getBits_applyWrite (f := ⟨30, 29, .rwp, .rng 0 2, 0x0, none⟩) v (findReg_canCtl c) canCtlDesc_fieldsApart (by decide) rfl,
    s.getBits_applyWrite (f := .mkAny .rwp 26 26 0x0) v (findReg_canCtl c) canCtlDesc_fieldsApart (by decide) rfl⟩

/-- The description of the CAN_CHc_ACCTAB registers. -/
def canAcctabDesc : RegDesc := ⟨0x110, [(0x40, 8)], [⟨31, 23, .rwp, .rng 0 256, 0x0, none⟩, .mkAny .rwp 18 0 0x0]⟩

theorem findReg_canAcctab (c : Nat) : findReg (Reg.CAN_CHc_ACCTAB c / 0x1000) (Reg.CAN_CHc_ACCTAB c % 0x1000) = some canAcctabDesc := by
  have h : ∀ i : Fin 8, findReg ((0xD110 + 0x40 * i.val) / 0x1000) ((0xD110 + 0x40 * i.val) % 0x1000) = some canAcctabDesc := by decide
  exact h ⟨c % 8, Nat.mod_lt _ (by decide)⟩

theorem canAcctabDesc_fieldsApart : canAcctabDesc.fieldsApart := by
  unfold RegDesc.fieldsApart
  decide

theorem State.applyWrite_canAcctab (s : State) (c : Nat) (v : W32) :
    (s.applyWrite (Reg.CAN_CHc_ACCTAB c) v).rd (F.CAN_CHc_ACCTAB_NACC c) = getBits v 31 23 ∧
      (s.applyWrite (Reg.CAN_CHc_ACCTAB c) v).rd (F.CAN_CHc_ACCTAB_OFF c) = getBits v 18 0 :=
  ⟨s.getBits_applyWrite (f := ⟨31, 23, .rwp, .rng 0 256, 0x0, none⟩) v (findReg_canAcctab c) canAcctabDesc_fieldsApart (by decide) rfl,
    s.getBits_applyWrite (f := .mkAny .rwp 18 0 0x0) v (findReg_canAcctab c) canAcctabDesc_fieldsApart (by decide) rfl⟩

theorem State.applyWrite_ctl (s : State) (key : Nat) (v : W32) (c : Nat) : (s.applyWrite key v).ctl c = s.ctl c := by rw [s.applyWrite_eq key v]; rfl

theorem State.applyWrite_can (s : State) (key : Nat) (v : W32) : (s.applyWrite key v).can = s.can := by rw [s.applyWrite_eq key v]

/-! ### Reset words of block CAN -/

theorem arrayIdx_none {key base stride count : Nat} (hs : 0 < stride) (h : key < base ∨ base + stride * count ≤ key) : arrayIdx key base stride count = none := by
  refine if_neg fun ⟨hb, _, hc⟩ => ?_
  obtain h | h := h
  · omega
  · have hlt := (Nat.div_lt_iff_lt_mul hs).mp hc
    rw [Nat.mul_comm] at hlt
    omega

theorem specialReset_can (code : Code) (hwrev : Nat) {key : Nat} (h : key / 0x1000 = 0xD) : specialReset code hwrev key = none := by
  have hlo : 0xD000 ≤ key := by omega
  have hhi : key < 0xE000 := by omega
  have h1 : arrayIdx key (Reg.FAB_CREDn 0) 4 16 = none := arrayIdx_none (by decide) (by unfold Reg.FAB_CREDn; omega)
  have h2 : arrayIdx key (Reg.NFL_CHc_STAT 0) 0x40 8 = none := arrayIdx_none (by decide) (by unfold Reg.NFL_CHc_STAT; omega)
  have h3 : arrayIdx key (Reg.LSW_CHn_LIM 0) 0x10 64 = none := arrayIdx_none (by decide) (by unfold Reg.LSW_CHn_LIM; omega)
  have h4 : arrayIdx key (Reg.DSP_SPALk 0) 4 8 = none := arrayIdx_none (by decide) (by unfold Reg.DSP_SPALk; omega)
  have h5 : arrayIdx key (Reg.EVR_BKTs 0) 4 16 = none := arrayIdx_none (by decide) (by unfold Reg.EVR_BKTs; omega)
  have hne (k : Nat) (hk : k < 0xD000 ∨ 0xE000 ≤ k) : key ≠ k := by omega
  unfold specialReset
  rw [if_neg (hne _ (by decide)), if_neg (hne _ (by decide)), if_neg (hne _ (by decide)), if_neg (hne _ (by decide)), if_neg (hne _ (by decide)),
    if_neg (hne _ (by decide)), if_neg (hne _ (by decide)), if_neg (hne _ (by decide)), if_neg (hne _ (by decide)), if_neg (hne _ (by decide)),
    h1, h2, h3, h4, h5]
  rfl

theorem regReset_can (code : Code) (hwrev : Nat) {key : Nat} {d : RegDesc} (h : key / 0x1000 = 0xD)
    (hd : findReg (key / 0x1000) (key % 0x1000) = some d) : regReset code hwrev key = d.resetWord := by
  refine regReset_of_findReg hd (specialReset_can code hwrev h) ?_
  rw [arrayIdx_none (by decide) (by unfold Reg.LSW_CHn_CTL; omega)]
  rfl

/-- The description of the CAN_CHc_CLMSTAT registers. -/
def canClmstatDesc : RegDesc := ⟨0x128, [(0x40, 8)], [.mkAny .ro 31 29 0x0, .mkAny .ro 15 0 0x0]⟩

theorem findReg_canClmstat (c : Nat) : findReg (Reg.CAN_CHc_CLMSTAT c / 0x1000) (Reg.CAN_CHc_CLMSTAT c % 0x1000) = some canClmstatDesc := by
  have h : ∀ i : Fin 8, findReg ((0xD128 + 0x40 * i.val) / 0x1000) ((0xD128 + 0x40 * i.val) % 0x1000) = some canClmstatDesc := by decide
  exact h ⟨c % 8, Nat.mod_lt _ (by decide)⟩

theorem State.resetReg_claimState (s : State) (c : Nat) : (s.resetReg (Reg.CAN_CHc_CLMSTAT c)).claimState c = 0 := by
  show getBits ((s.resetReg (Reg.CAN_CHc_CLMSTAT c)).reg (Reg.CAN_CHc_CLMSTAT c)) 31 29 = 0
  unfold State.resetReg
  rw [State.reg_setReg_same, regReset_can _ _ (Reg.canClmstat_block c) (findReg_canClmstat c)]
  decide

/-- The description of the CAN_PTNk registers. -/
def canPtnDesc : RegDesc := ⟨0x400, [(0x4, 256)], [.mkAny .ro 31 29 0x0, .mkAny .ro 26 24 0x0, .mkAny .ro 23 16 0x0, .mkAny .ro 15 0 0x0]⟩

theorem findReg_canPtn (k : Nat) : findReg (Reg.CAN_PTNk k / 0x1000) (Reg.CAN_PTNk k % 0x1000) = some canPtnDesc := by
  have h : ∀ j i : Fin 16, findReg ((0xD400 + 0x4 * (16 * j.val + i.val)) / 0x1000) ((0xD400 + 0x4 * (16 * j.val + i.val)) % 0x1000) = some canPtnDesc := by
    decide
  have hk := h ⟨k % 256 / 16, by omega⟩ ⟨k % 256 % 16, by omega⟩
  rw [Nat.div_add_mod] at hk
  exact hk

theorem State.resetReg_ptnState (s : State) (k : Nat) : (s.resetReg (Reg.CAN_PTNk k)).ptnState k = 0 := by
  show getBits ((s.resetReg (Reg.CAN_PTNk k)).reg (Reg.CAN_PTNk k)) 31 29 = 0
  unfold State.resetReg
  rw [State.reg_setReg_same, regReset_can _ _ (Reg.canPtn_block k) (findReg_canPtn k)]
  decide

/-! ### Refusals and the acceptance copy -/

/-- The registers a refused configuration changes. -/
def canRejectRegs : Set Nat := {k | k = Reg.CAN_STAT ∨ k = Reg.CAN_BADCFG ∨ k = Reg.CAN_POISCNT}

theorem State.canReject_affects (s : State) (c cause : Nat) : s.AffectsOnly canRejectRegs (s.canReject c cause) :=
  ((AffectsOnly.wr s _ (.inl (.inr (.inl rfl)))).trans (.wr _ _ (.inl (.inr (.inl rfl))))).trans (.flag _ _ (.inl (.inl rfl)))

theorem State.canPoison_affects (s : State) : s.AffectsOnly canRejectRegs s.canPoison :=
  (AffectsOnly.inc s (.inl (.inr (.inr rfl)))).trans (.flag _ _ (.inl (.inl rfl)))

theorem State.canReject_shows (s : State) (c : Nat) {cause : Nat} (h : cause < 16) :
    (s.canReject c cause).can = s.can ∧ (s.canReject c cause).rd F.CAN_BADCFG_CAUSE = cause ∧ (s.canReject c cause).rd F.CAN_STAT_CFGREJ = 1 := by
  refine ⟨(s.canReject_affects c cause).part State.can fun _ _ => rfl, ?_, State.flag_rd_same _ (by decide) rfl⟩
  exact (State.flag_rd_other _ (by decide)).trans ((State.rd_wr_apart _ _ rfl).trans (s.rd_wr_fits (by decide) h))

/-- The registers an acceptance copy changes. -/
def accCopyRegs (c : Nat) : Set Nat := {k | k ∈ canRejectRegs ∨ k = Reg.CAN_CHc_TXPEND c}

/-- An acceptance copy changes, of the controller's own state, the copies kept. -/
theorem State.accCopy_to (s : State) (c : Nat) :
    State.CanTo (accCopyRegs c) s (s.accCopy c) ∧ ∃ l, (s.accCopy c).ctl c = { s.ctl c with acc := l } := by
  have hrej (x : State) (cause : Nat) : x.AffectsOnly (accCopyRegs c) (x.canReject c cause) := (x.canReject_affects c cause).mono fun _ h => .inl h
  have hpois : s.AffectsOnly (accCopyRegs c) s.canPoison := s.canPoison_affects.mono fun _ h => .inl h
  unfold State.accCopy
  dsimp only
  split
  · exact ⟨.of_affects (hpois.trans (hrej _ _)), (s.ctl c).acc, (hpois.trans (hrej _ 4)).ctl c⟩
  · split
    · exact ⟨.of_affects (hrej s _), (s.ctl c).acc, (hrej s 2).ctl c⟩
    · exact ⟨.setCtl s c _ (.inr rfl), _, s.ctl_setCtl c _⟩

theorem Reg.not_accCopy {k c : Nat} (hlo : 0xD100 ≤ k) (hne : k ≠ Reg.CAN_CHc_TXPEND c) : k ∉ accCopyRegs c := by
  rintro ((h | h | h) | h)
  · unfold Reg.CAN_STAT at h; omega
  · unfold Reg.CAN_BADCFG at h; omega
  · unfold Reg.CAN_POISCNT at h; omega
  · exact hne h

theorem Reg.canCtl_ge (c : Nat) : 0xD100 ≤ Reg.CAN_CHc_CTL c := by unfold Reg.CAN_CHc_CTL; omega
theorem Reg.canStat_ge (c : Nat) : 0xD100 ≤ Reg.CAN_CHc_STAT c := by unfold Reg.CAN_CHc_STAT; omega
theorem Reg.canClaim_ge (c : Nat) : 0xD100 ≤ Reg.CAN_CHc_CLAIM c := by unfold Reg.CAN_CHc_CLAIM; omega
theorem Reg.canClmstat_ge (c : Nat) : 0xD100 ≤ Reg.CAN_CHc_CLMSTAT c := by unfold Reg.CAN_CHc_CLMSTAT; omega
theorem Reg.canCtl_ne_txpend (c : Nat) : Reg.CAN_CHc_CTL c ≠ Reg.CAN_CHc_TXPEND c := by unfold Reg.CAN_CHc_CTL Reg.CAN_CHc_TXPEND; omega

/-! ### A controller starts -/

/-- A controller at its start: its words at their reset values, its state that of its MODE, no address. -/
def State.canCleared (s : State) (c : Nat) : State :=
  let st := if s.rd (F.CAN_CHc_CTL_MODE c) = 0 then 2 else if s.rd (F.CAN_CHc_CTL_MODE c) = 1 then 3 else 1
  ((((((s.resetReg (Reg.CAN_CHc_STAT c)).wr (F.CAN_CHc_STAT_STATE c) st).resetReg (Reg.CAN_CHc_ERRCNT c)).resetReg (Reg.CAN_CHc_CLMSTAT c)).wr
    (F.CAN_CHc_DET_DONE c) 0).wr (F.CAN_CHc_DET_FAIL c) 0).wr (F.CAN_CHc_CLAIM_CUR c) 0xFE

theorem State.canStart_eq (s : State) (c : Nat) : s.canStart c =
    ((s.canCleared c).setCtl c { pend := (s.ctl c).pend, cancels := (s.ctl c).cancels, acc := (s.ctl c).acc, detSince := s.now }).accCopy c := rfl

/-- The words of controller `c` that its start writes. -/
def canClearedRegs (c : Nat) : Set Nat :=
  {k | k = Reg.CAN_CHc_STAT c ∨ k = Reg.CAN_CHc_ERRCNT c ∨ k = Reg.CAN_CHc_CLMSTAT c ∨ k = Reg.CAN_CHc_DET c ∨ k = Reg.CAN_CHc_CLAIM c}

theorem State.canCleared_affects (s : State) (c : Nat) : s.AffectsOnly (canClearedRegs c) (s.canCleared c) :=
  ((((((AffectsOnly.setReg s _ (.inl (.inl rfl))).trans (.wr _ _ (.inl (.inl rfl)))).trans (.setReg _ _ (.inl (.inr (.inl rfl))))).trans
    (.setReg _ _ (.inl (.inr (.inr (.inl rfl)))))).trans (.wr _ _ (.inl (.inr (.inr (.inr (.inl rfl))))))).trans
    (.wr _ _ (.inl (.inr (.inr (.inr (.inl rfl))))))).trans (.wr _ _ (.inl (.inr (.inr (.inr (.inr rfl))))))

theorem State.rd_resetReg_other (s : State) {k : Nat} {f : Fld} (h : f.addr ≠ k) : (s.resetReg k).rd f = s.rd f :=
  State.rd_congr (s.reg_setReg_other _ h)

theorem State.canCleared_state (s : State) (c : Nat) : (s.canCleared c).canState c =
    if s.rd (F.CAN_CHc_CTL_MODE c) = 0 then 2 else if s.rd (F.CAN_CHc_CTL_MODE c) = 1 then 3 else 1 := by
  have hne : Reg.CAN_CHc_STAT c ≠ Reg.CAN_CHc_CLAIM c ∧ Reg.CAN_CHc_STAT c ≠ Reg.CAN_CHc_DET c ∧ Reg.CAN_CHc_STAT c ≠ Reg.CAN_CHc_CLMSTAT c ∧
      Reg.CAN_CHc_STAT c ≠ Reg.CAN_CHc_ERRCNT c := by
    unfold Reg.CAN_CHc_STAT Reg.CAN_CHc_CLAIM Reg.CAN_CHc_DET Reg.CAN_CHc_CLMSTAT Reg.CAN_CHc_ERRCNT
    omega
  obtain ⟨hcl, hdet, hclm, herr⟩ := hne
  refine (State.rd_wr_other _ _ hcl).trans ((State.rd_wr_other _ _ hdet).trans ((State.rd_wr_other _ _ hdet).trans
    ((State.rd_resetReg_other _ hclm).trans ((State.rd_resetReg_other _ herr).trans (State.rd_wr_fits _ (f := F.CAN_CHc_STAT_STATE c) (Fld.hi_lt rfl) ?_)))))
  show _ < 2 ^ 3
  split_ifs <;> decide

theorem State.canCleared_claim (s : State) (c : Nat) : (s.canCleared c).claimState c = 0 := by
  have hne : Reg.CAN_CHc_CLMSTAT c ≠ Reg.CAN_CHc_CLAIM c ∧ Reg.CAN_CHc_CLMSTAT c ≠ Reg.CAN_CHc_DET c := by
    unfold Reg.CAN_CHc_CLMSTAT Reg.CAN_CHc_CLAIM Reg.CAN_CHc_DET
    omega
  exact (State.rd_wr_other _ _ hne.1).trans ((State.rd_wr_other _ _ hne.2).trans ((State.rd_wr_other _ _ hne.2).trans (State.resetReg_claimState _ c)))

theorem State.canCleared_cur (s : State) (c : Nat) : (s.canCleared c).rd (F.CAN_CHc_CLAIM_CUR c) = 0xFE :=
  State.rd_wr_fits _ (f := F.CAN_CHc_CLAIM_CUR c) (Fld.hi_lt rfl) (show 0xFE < 2 ^ 8 by decide)

/-- What holds of a controller that has started. -/
theorem State.canStart_starts (s : State) (c : Nat) : (s.canStart c).resp = s.resp ∧
    (∀ f : Fld, f.addr = Reg.CAN_CHc_CTL c → (s.canStart c).rd f = s.rd f) ∧ (s.canStart c).canState c = (s.canCleared c).canState c ∧
    ((s.canStart c).ctl c).pend = (s.ctl c).pend ∧ ((s.canStart c).ctl c).tec = 0 ∧ (s.canStart c).rd (F.CAN_CHc_CLAIM_CUR c) = 0xFE ∧
    (s.canStart c).claimState c = 0 := by
  have hclear := s.canCleared_affects c
  have hst := s.canCleared_state c
  have hclaim := s.canCleared_claim c
  have hcur := s.canCleared_cur c
  have hctlReg : Reg.CAN_CHc_CTL c ∉ canClearedRegs c := by
    show ¬ (_ ∨ _ ∨ _ ∨ _ ∨ _)
    unfold Reg.CAN_CHc_CTL Reg.CAN_CHc_STAT Reg.CAN_CHc_ERRCNT Reg.CAN_CHc_CLMSTAT Reg.CAN_CHc_DET Reg.CAN_CHc_CLAIM
    omega
  have hresp : (s.canCleared c).resp = s.resp := hclear.part State.resp fun _ _ => rfl
  have hkept (f : Fld) (hf : f.addr = Reg.CAN_CHc_CTL c) : (s.canCleared c).rd f = s.rd f :=
    hclear.rd (canBlock (hf ▸ Reg.canCtl_block c)) (hf ▸ hctlReg)
  rw [State.canStart_eq]
  generalize s.canCleared c = u at hst hclaim hcur hresp hkept ⊢
  have hset : State.CanTo (accCopyRegs c) u (u.setCtl c { pend := (s.ctl c).pend, cancels := (s.ctl c).cancels, acc := (s.ctl c).acc, detSince := s.now }) :=
    .setCtl u c _ (.inr rfl)
  have hctl := u.ctl_setCtl c { pend := (s.ctl c).pend, cancels := (s.ctl c).cancels, acc := (s.ctl c).acc, detSince := s.now }
  generalize u.setCtl c { pend := (s.ctl c).pend, cancels := (s.ctl c).cancels, acc := (s.ctl c).acc, detSince := s.now } = v at hset hctl ⊢
  obtain ⟨hto, l, hl⟩ := v.accCopy_to c
  have hall := hset.trans hto
  refine ⟨(hall.part State.resp fun _ _ => rfl).trans hresp, fun f hf => ?_, ?_, ?_, ?_, ?_, ?_⟩
  · exact (hall.rd (canBlock (hf ▸ Reg.canCtl_block c)) (hf ▸ Reg.not_accCopy (Reg.canCtl_ge c) (Reg.canCtl_ne_txpend c))).trans (hkept f hf)
  · exact hall.rd (canBlock (Reg.canStat_block c)) (Reg.not_accCopy (Reg.canStat_ge c) (Reg.canStat_ne_txpend c))
  · rw [hl, hctl]
  · rw [hl, hctl]
  · exact (hall.rd (canBlock (Reg.canClaim_block c)) (Reg.not_accCopy (Reg.canClaim_ge c) (Reg.canClaim_ne_txpend c))).trans hcur
  · exact (hall.rd (canBlock (Reg.canClmstat_block c)) (Reg.not_accCopy (Reg.canClmstat_ge c) (Reg.canClmstat_ne_txpend c))).trans hclaim

end Sys2Proof.Machine
end

section
/-! PROOFS. Writes of a CAN controller's control word, its rates and its acceptance copy (R353, R354, R358). -/

namespace Sys2Proof.Machine

/-- What an accepted write of CAN_CHc_CTL does once the word has been written. -/
def State.canWritten (s t : State) (c : Nat) (v : W32) : State :=
  if s.on (F.CAN_CHc_CTL_EN c) = false ∧ getBits v 31 31 = 1 then t.canStart c
  else if s.on (F.CAN_CHc_CTL_EN c) = true ∧ getBits v 31 31 = 0 then t.canStop c
  else if s.on (F.CAN_CHc_CTL_EN c) then t.canModeNow c (s.rd (F.CAN_CHc_CTL_MODE c)) (s.on (F.CAN_CHc_CTL_CLAIM c))
  else t

theorem State.canCtlWrite_accepted {s : State} {c : Nat} {v : W32} (hwake : ¬ (2 ≤ c ∧ getBits v 23 23 = 1)) (hlist : listedAt (Reg.CAN_CHc_CTL c) v = true)
    (hfix : s.on (F.CAN_CHc_CTL_EN c) = true → s.reg (Reg.CAN_CHc_CTL c) &&& canFixed = v &&& canFixed) :
    s.canCtlWrite c v = s.canWritten (s.applyWrite (Reg.CAN_CHc_CTL c) v) c v :=
  (if_neg hwake).trans ((if_neg (fun h => Bool.noConfusion (hlist.symm.trans h))).trans (if_neg fun h => h.2 (hfix h.1)))

/-! ### Enabling -/

theorem execCanEnable_enables (s : State) (a : Agent) (c : Nat) (v : W32) (hc : c < 8) (hacc : s.accepts a 0x0D (0x100 + 0x40 * c) = true)
    (hoff : s.on (F.CAN_CHc_CTL_EN c) = false) (hlist : listedAt (Reg.CAN_CHc_CTL c) (setBits v 31 31 1) = true) :
    Completes (.canEnable a c v) s (fun t => t.resp = .done ∧ if 2 ≤ c ∧ getBits v 23 23 = 1 then
        t.can = s.can ∧ t.rd F.CAN_BADCFG_CAUSE = 5 ∧ t.rd F.CAN_STAT_CFGREJ = 1
      else t.on (F.CAN_CHc_CTL_EN c) = true ∧ t.canState c = (if getBits v 30 29 = 0 then 2 else if getBits v 30 29 = 1 then 3 else 1) ∧
        (t.ctl c).pend = (s.ctl c).pend ∧ (t.ctl c).tec = 0 ∧ t.rd (F.CAN_CHc_CLAIM_CUR c) = 0xFE ∧ t.claimState c = 0) := by
  have hen : getBits (setBits v 31 31 1) 31 31 = 1 := getBits_setBits_same (by decide) v 1
  have hmode : getBits (setBits v 31 31 1) 30 29 = getBits v 30 29 := getBits_setBits_other (by decide) (by decide) (by decide) v 1
  have hwuf : getBits (setBits v 31 31 1) 23 23 = getBits v 23 23 := getBits_setBits_other (by decide) (by decide) (by decide) v 1
  refine ⟨_, congrArg Host.Outcome.next ((if_pos hc).trans (State.gate_accepts _ hacc)), ?_⟩
  dsimp only
  by_cases hw : 2 ≤ c ∧ getBits v 23 23 = 1
  · rw [if_pos hw]
    have hrej : s.done.canCtlWrite c (setBits v 31 31 1) = s.done.canReject c 5 := if_pos (hwuf.symm ▸ hw)
    rw [hrej]
    exact ⟨(s.done.canReject_affects c 5).part State.resp fun _ _ => rfl, s.done.canReject_shows c (by decide)⟩
  · rw [if_neg hw, State.canCtlWrite_accepted (s := s.done) (hwuf.symm ▸ hw) hlist (fun h => Bool.noConfusion (hoff.symm.trans h))]
    have hstart : s.done.canWritten (s.done.applyWrite (Reg.CAN_CHc_CTL c) (setBits v 31 31 1)) c (setBits v 31 31 1) =
        (s.done.applyWrite (Reg.CAN_CHc_CTL c) (setBits v 31 31 1)).canStart c := if_pos ⟨hoff, hen⟩
    obtain ⟨hwEn, hwMode, -⟩ := s.done.applyWrite_canCtl c (setBits v 31 31 1)
    have hwctl : (s.done.applyWrite (Reg.CAN_CHc_CTL c) (setBits v 31 31 1)).ctl c = s.ctl c := s.done.applyWrite_ctl _ _ c
    have hwresp : (s.done.applyWrite (Reg.CAN_CHc_CTL c) (setBits v 31 31 1)).resp = .done := s.done.applyWrite_resp _ _
    rw [hstart]
    generalize s.done.applyWrite (Reg.CAN_CHc_CTL c) (setBits v 31 31 1) = t at hwEn hwMode hwctl hwresp ⊢
    obtain ⟨hresp, hkept, hst, hpend, htec, hcur, hclaim⟩ := t.canStart_starts c
    refine ⟨hresp.trans hwresp, decide_eq_true ((hkept _ rfl).trans (hwEn.trans hen)), ?_, hpend.trans (congrArg Can.pend hwctl), htec, hcur, hclaim⟩
    rw [hst, State.canCleared_state, hwMode, hmode]

/-! ### The claim logic idle -/

/-- The registers of the claim logic of controller `c`. -/
def canClaimRegs (c : Nat) : Set Nat :=
  {k | k = Reg.CAN_CHc_TXPEND c ∨ k = Reg.CAN_CHc_CLMSTAT c ∨ k = Reg.CAN_CLAIMMAP ∨ k = Reg.CAN_CHc_CLAIM c}

theorem State.setClaim_affects (s : State) (c st : Nat) : s.AffectsOnly (canClaimRegs c) (s.setClaim c st) :=
  (AffectsOnly.wr s _ (.inl (.inr (.inl rfl)))).trans (.wrB _ _ (.inl (.inr (.inr (.inl rfl)))))

theorem Reg.canClmstat_ne_claimmap (c : Nat) : Reg.CAN_CHc_CLMSTAT c ≠ Reg.CAN_CLAIMMAP := by unfold Reg.CAN_CHc_CLMSTAT Reg.CAN_CLAIMMAP; omega
theorem Reg.canClmstat_ne_claim (c : Nat) : Reg.CAN_CHc_CLMSTAT c ≠ Reg.CAN_CHc_CLAIM c := by unfold Reg.CAN_CHc_CLMSTAT Reg.CAN_CHc_CLAIM; omega

theorem State.setClaim_state (s : State) (c : Nat) {st : Nat} (h : st < 8) : (s.setClaim c st).claimState c = st :=
  (State.rd_wr_other _ _ (Reg.canClmstat_ne_claimmap c)).trans (s.rd_wr_fits (f := F.CAN_CHc_CLMSTAT_STATE c) (Fld.hi_lt rfl) h)

/-- The controller's own state once the claim logic is idle. -/
def Can.idle (x : Can) : Can :=
  { x with pend := x.pend.filter (fun f => decide (f.kind ≠ .claim) || f.begun), claimAt := none, contests := [], backoff := none, lost := [], asked := false }

theorem State.claimIdle_eq (s : State) (c : Nat) : s.claimIdle c = ((s.setCtl c (s.ctl c).idle).setClaim c 0).wr (F.CAN_CHc_CLAIM_CUR c) 0xFE := rfl

theorem State.claimIdle_to (s : State) (c : Nat) : State.CanTo (canClaimRegs c) s (s.claimIdle c) := by
  rw [State.claimIdle_eq]
  exact ((State.CanTo.setCtl s c _ (.inl rfl)).trans (.of_affects (State.setClaim_affects _ c 0))).trans (.wr _ _ (.inr (.inr (.inr rfl))))

theorem State.claimIdle_ctl (s : State) (c : Nat) : (s.claimIdle c).ctl c = (s.ctl c).idle := by
  rw [State.claimIdle_eq]
  exact (State.wr_ctl _ _ _ _).trans (((State.setClaim_affects _ c 0).ctl c).trans (s.ctl_setCtl c _))

theorem State.claimIdle_claim (s : State) (c : Nat) : (s.claimIdle c).claimState c = 0 := by
  rw [State.claimIdle_eq]
  exact (State.rd_wr_other _ _ (Reg.canClmstat_ne_claim c)).trans (State.setClaim_state _ c (by decide))

theorem State.claimIdle_cur (s : State) (c : Nat) : (s.claimIdle c).rd (F.CAN_CHc_CLAIM_CUR c) = 0xFE := by
  rw [State.claimIdle_eq]
  exact State.rd_wr_fits _ (f := F.CAN_CHc_CLAIM_CUR c) (Fld.hi_lt rfl) (show 0xFE < 2 ^ 8 by decide)

theorem Reg.canCtl_notClaim (c : Nat) : Reg.CAN_CHc_CTL c ∉ canClaimRegs c := by
  show ¬ (_ ∨ _ ∨ _ ∨ _)
  unfold Reg.CAN_CHc_CTL Reg.CAN_CHc_TXPEND Reg.CAN_CHc_CLMSTAT Reg.CAN_CLAIMMAP Reg.CAN_CHc_CLAIM
  omega

theorem Reg.canStat_notClaim (c : Nat) : Reg.CAN_CHc_STAT c ∉ canClaimRegs c := by
  show ¬ (_ ∨ _ ∨ _ ∨ _)
  unfold Reg.CAN_CHc_STAT Reg.CAN_CHc_TXPEND Reg.CAN_CHc_CLMSTAT Reg.CAN_CLAIMMAP Reg.CAN_CHc_CLAIM
  omega

/-! ### Disabling -/

/-- The waiting frames of a controller that goes OFF, completed ABORTED. -/
def State.pendAborted (s : State) (c : Nat) : State :=
  ((s.ctl c).pend.filter (fun f => !f.begun)).foldl (fun (y : State) f => y.frameDone c f 0x41)
    (s.setCtl c { s.ctl c with pend := (s.ctl c).pend.filter (fun f => f.begun) })

theorem State.canStop_eq (s : State) (c : Nat) : s.canStop c =
    (((s.pendAborted c).claimIdle c).aloneEnd c).wr (F.CAN_CHc_STAT_STATE c) 0 := rfl

theorem State.pendAborted_to (s : State) (c : Nat) : State.CanTo (canClaimRegs c) s (s.pendAborted c) := by
  unfold State.pendAborted
  exact .trans (.setCtl s c _ (.inl rfl)) (.of_affects (.foldl _ (fun y f => State.frameDone_affects _ y c f 0x41) _ _))

theorem State.pendAborted_ctl (s : State) (c : Nat) : (s.pendAborted c).ctl c = { s.ctl c with pend := (s.ctl c).pend.filter (fun f => f.begun) } := by
  unfold State.pendAborted
  exact (AffectsOnly.ctl (AffectsOnly.foldl (S := ∅) _ (fun y f => State.frameDone_affects _ y c f 0x41) _ _) c).trans (s.ctl_setCtl c _)

theorem State.aloneEnd_ctl (s : State) (c : Nat) : (s.aloneEnd c).ctl c = s.ctl c := (s.aloneEnd_affects c).ctl c

/-- What holds of a controller that has gone OFF. -/
theorem State.canStop_stops (s : State) (c : Nat) : (s.canStop c).resp = s.resp ∧
    (∀ f : Fld, f.addr = Reg.CAN_CHc_CTL c → (s.canStop c).rd f = s.rd f) ∧ (s.canStop c).canState c = 0 ∧
    ((s.canStop c).ctl c).pend = (s.ctl c).pend.filter (fun f => f.begun) ∧ (s.canStop c).claimState c = 0 ∧
    (s.canStop c).rd (F.CAN_CHc_CLAIM_CUR c) = 0xFE := by
  have hne : Reg.CAN_CHc_CTL c ≠ Reg.CAN_CHc_STAT c ∧ Reg.CAN_CHc_CTL c ≠ Reg.CAN_ALONEMAP ∧ Reg.CAN_CHc_CLMSTAT c ≠ Reg.CAN_CHc_STAT c ∧
      Reg.CAN_CHc_CLMSTAT c ≠ Reg.CAN_ALONEMAP ∧ Reg.CAN_CHc_CLAIM c ≠ Reg.CAN_CHc_STAT c ∧ Reg.CAN_CHc_CLAIM c ≠ Reg.CAN_ALONEMAP := by
    unfold Reg.CAN_CHc_CTL Reg.CAN_CHc_STAT Reg.CAN_ALONEMAP Reg.CAN_CHc_CLMSTAT Reg.CAN_CHc_CLAIM
    omega
  obtain ⟨hcs, hca, hms, hma, has, haa⟩ := hne
  have hidle := (s.pendAborted c).claimIdle_to c
  have hto := (s.pendAborted_to c).trans hidle
  have hctl := (State.claimIdle_ctl (s.pendAborted c) c).trans (congrArg Can.idle (s.pendAborted_ctl c))
  have hclaim := (s.pendAborted c).claimIdle_claim c
  have hcur := (s.pendAborted c).claimIdle_cur c
  rw [State.canStop_eq]
  generalize (s.pendAborted c).claimIdle c = u at hto hctl hclaim hcur ⊢
  have hend (f : Fld) (hs : f.addr ≠ Reg.CAN_CHc_STAT c) (hm : f.addr ≠ Reg.CAN_ALONEMAP) :
      ((u.aloneEnd c).wr (F.CAN_CHc_STAT_STATE c) 0).rd f = u.rd f := (State.rd_wr_other _ _ hs).trans (u.aloneEnd_rd c hm (.inl hs))
  refine ⟨?_, fun f hf => ?_, ?_, ?_, ?_, ?_⟩
  · exact (((u.aloneEnd_affects c).trans (.wr _ _ (.inl (.inl rfl)))).part State.resp fun _ _ => rfl).trans (hto.part State.resp fun _ _ => rfl)
  · exact (hend f (hf ▸ hcs) (hf ▸ hca)).trans (hto.rd (canBlock (hf ▸ Reg.canCtl_block c)) (hf ▸ Reg.canCtl_notClaim c))
  · exact State.rd_wr_fits _ (f := F.CAN_CHc_STAT_STATE c) (Fld.hi_lt rfl) (by positivity)
  · rw [State.wr_ctl, State.aloneEnd_ctl, hctl]
    refine (List.filter_filter (l := (s.ctl c).pend)).trans (List.filter_congr fun f _ => ?_)
    cases f.begun with
    | false => rw [Bool.and_false]
    | true => rw [Bool.or_true, Bool.and_true]
  · exact (hend (F.CAN_CHc_CLMSTAT_STATE c) hms hma).trans hclaim
  · exact (hend (F.CAN_CHc_CLAIM_CUR c) has haa).trans hcur

theorem execCanDisable_disables (s : State) (a : Agent) (c : Nat) (hc : c < 8) (hacc : s.accepts a 0x0D (0x100 + 0x40 * c) = true)
    (hon : s.on (F.CAN_CHc_CTL_EN c) = true) (_ : 2 ≤ c) (hwuf : getBits (s.reg (Reg.CAN_CHc_CTL c)) 23 23 = 0)
    (hlist : listedAt (Reg.CAN_CHc_CTL c) (setBits (s.reg (Reg.CAN_CHc_CTL c)) 31 31 0) = true) :
    Completes (.canDisable a c) s (fun t => t.resp = .done ∧ t.on (F.CAN_CHc_CTL_EN c) = false ∧ t.canState c = 0 ∧
      (t.ctl c).pend = (s.ctl c).pend.filter (fun f => f.begun) ∧ t.claimState c = 0 ∧ t.rd (F.CAN_CHc_CLAIM_CUR c) = 0xFE) := by
  refine ⟨_, congrArg Host.Outcome.next ((if_pos hc).trans (State.gate_accepts _ hacc)), ?_⟩
  dsimp only
  rw [show s.done.reg (Reg.CAN_CHc_CTL c) = s.reg (Reg.CAN_CHc_CTL c) from rfl]
  have hen : getBits (setBits (s.reg (Reg.CAN_CHc_CTL c)) 31 31 0) 31 31 = 0 := getBits_setBits_same (by decide) _ 0
  have h23 : getBits (setBits (s.reg (Reg.CAN_CHc_CTL c)) 31 31 0) 23 23 = 0 := (getBits_setBits_other (by decide) (by decide) (by decide) _ 0).trans hwuf
  have hfix : s.reg (Reg.CAN_CHc_CTL c) &&& canFixed = setBits (s.reg (Reg.CAN_CHc_CTL c)) 31 31 0 &&& canFixed :=
    (setBits_and_mask (by decide) _ _ _ fun i hlo hhi => canFixed_clear (by omega) hhi).symm
  generalize setBits (s.reg (Reg.CAN_CHc_CTL c)) 31 31 0 = v at hlist hen h23 hfix ⊢
  rw [State.canCtlWrite_accepted (s := s.done) (fun h => absurd (h23.symm.trans h.2) (by decide)) hlist (fun _ => hfix)]
  have hstop : s.done.canWritten (s.done.applyWrite (Reg.CAN_CHc_CTL c) v) c v = (s.done.applyWrite (Reg.CAN_CHc_CTL c) v).canStop c :=
    (if_neg (show ¬ (s.done.on (F.CAN_CHc_CTL_EN c) = false ∧ getBits v 31 31 = 1) from fun h => Bool.noConfusion (hon.symm.trans h.1))).trans
      (if_pos ⟨hon, hen⟩)
  obtain ⟨hwEn, -, -⟩ := s.done.applyWrite_canCtl c v
  have hwctl : (s.done.applyWrite (Reg.CAN_CHc_CTL c) v).ctl c = s.ctl c := s.done.applyWrite_ctl _ _ c
  have hwresp : (s.done.applyWrite (Reg.CAN_CHc_CTL c) v).resp = .done := s.done.applyWrite_resp _ _
  rw [hstop]
  generalize s.done.applyWrite (Reg.CAN_CHc_CTL c) v = t at hwEn hwctl hwresp ⊢
  obtain ⟨hresp, hkept, hst, hpend, hclaim, hcur⟩ := t.canStop_stops c
  refine ⟨hresp.trans hwresp, ?_, hst, hpend.trans (by rw [hwctl]), hclaim, hcur⟩
  refine decide_eq_false fun h => ?_
  rw [hkept (F.CAN_CHc_CTL_EN c) rfl, hwEn, hen] at h
  exact absurd h (by decide)

/-! ### A new MODE -/

theorem execCanModeWrite_moves (s : State) (a : Agent) (c mode : Nat) (hc : c < 8) (hm : mode ≤ 1)
    (hacc : s.accepts a 0x0D (0x100 + 0x40 * c) = true) (hon : s.on (F.CAN_CHc_CTL_EN c) = true) (_ : 2 ≤ c)
    (hwuf : getBits (s.reg (Reg.CAN_CHc_CTL c)) 23 23 = 0)
    (hlist : listedAt (Reg.CAN_CHc_CTL c) (setBits (s.reg (Reg.CAN_CHc_CTL c)) 30 29 mode) = true) (hnew : s.rd (F.CAN_CHc_CTL_MODE c) ≠ mode) :
    Completes (.canModeWrite a c mode) s (fun t => t.resp = .done ∧ t.rd (F.CAN_CHc_CTL_MODE c) = mode ∧
      t.canState c = (if mode = 0 ∧ s.canState c = 3 then 2 else if mode = 1 ∧ s.canState c = 2 then 3 else s.canState c) ∧
      (mode = 1 → s.canState c = 2 → t.claimState c = 0 ∧ t.rd (F.CAN_CHc_CLAIM_CUR c) = 0xFE)) := by
  refine ⟨_, congrArg Host.Outcome.next ((if_pos hc).trans (State.gate_accepts _ hacc)), ?_⟩
  dsimp only
  rw [show s.done.reg (Reg.CAN_CHc_CTL c) = s.reg (Reg.CAN_CHc_CTL c) from rfl]
  have hen : getBits (setBits (s.reg (Reg.CAN_CHc_CTL c)) 30 29 mode) 31 31 = 1 :=
    (getBits_setBits_other (by decide) (by decide) (by decide) _ mode).trans (of_decide_eq_true hon)
  have h23 : getBits (setBits (s.reg (Reg.CAN_CHc_CTL c)) 30 29 mode) 23 23 = 0 :=
    (getBits_setBits_other (by decide) (by decide) (by decide) _ mode).trans hwuf
  have hmode : getBits (setBits (s.reg (Reg.CAN_CHc_CTL c)) 30 29 mode) 30 29 = mode :=
    (getBits_setBits_same (by decide) _ mode).trans (Nat.mod_eq_of_lt (lt_of_le_of_lt hm (by decide)))
  have hclaim : getBits (setBits (s.reg (Reg.CAN_CHc_CTL c)) 30 29 mode) 26 26 = s.rd (F.CAN_CHc_CTL_CLAIM c) :=
    getBits_setBits_other (by decide) (by decide) (by decide) _ mode
  have hfix : s.reg (Reg.CAN_CHc_CTL c) &&& canFixed = setBits (s.reg (Reg.CAN_CHc_CTL c)) 30 29 mode &&& canFixed :=
    (setBits_and_mask (by decide) _ _ _ fun i hlo hhi => canFixed_clear hlo (by omega)).symm
  generalize setBits (s.reg (Reg.CAN_CHc_CTL c)) 30 29 mode = v at hlist hen h23 hmode hclaim hfix ⊢
  rw [State.canCtlWrite_accepted (s := s.done) (fun h => absurd (h23.symm.trans h.2) (by decide)) hlist (fun _ => hfix)]
  have hnow : s.done.canWritten (s.done.applyWrite (Reg.CAN_CHc_CTL c) v) c v =
      (s.done.applyWrite (Reg.CAN_CHc_CTL c) v).canModeNow c (s.rd (F.CAN_CHc_CTL_MODE c)) (s.on (F.CAN_CHc_CTL_CLAIM c)) :=
    (if_neg (show ¬ (s.done.on (F.CAN_CHc_CTL_EN c) = false ∧ getBits v 31 31 = 1) from fun h => Bool.noConfusion (hon.symm.trans h.1))).trans
      ((if_neg (show ¬ (s.done.on (F.CAN_CHc_CTL_EN c) = true ∧ getBits v 31 31 = 0) from fun h => absurd (hen.symm.trans h.2) (by decide))).trans (if_pos hon))
  obtain ⟨-, hwMode, hwClaim⟩ := s.done.applyWrite_canCtl c v
  have hwresp : (s.done.applyWrite (Reg.CAN_CHc_CTL c) v).resp = .done := s.done.applyWrite_resp _ _
  have hwst : (s.done.applyWrite (Reg.CAN_CHc_CTL c) v).canState c = s.canState c :=
    State.rd_congr (s.done.applyWrite_reg_other v (k := Reg.CAN_CHc_STAT c) (by unfold Reg.CAN_CHc_STAT Reg.CAN_CHc_CTL; omega))
  rw [hmode] at hwMode
  rw [hclaim] at hwClaim
  rw [hnow]
  generalize s.done.applyWrite (Reg.CAN_CHc_CTL c) v = t at hwMode hwClaim hwresp hwst ⊢
  have hsame : ¬ (s.on (F.CAN_CHc_CTL_CLAIM c) = true ∧ t.on (F.CAN_CHc_CTL_CLAIM c) = false) := fun h =>
    Bool.noConfusion (h.1.symm.trans ((congrArg (fun n => decide (n = 1)) hwClaim).symm.trans h.2))
  have hgo : t.canModeNow c (s.rd (F.CAN_CHc_CTL_MODE c)) (s.on (F.CAN_CHc_CTL_CLAIM c)) =
      if mode = 0 ∧ s.canState c = 3 then t.wr (F.CAN_CHc_STAT_STATE c) 2
      else if mode = 1 ∧ s.canState c = 2 then (t.claimIdle c).wr (F.CAN_CHc_STAT_STATE c) 3 else t := by
    unfold State.canModeNow
    rw [if_neg hsame, hwMode]
    dsimp only
    rw [hwst]
    exact if_neg (Ne.symm hnew)
  have hms : Reg.CAN_CHc_CTL c ≠ Reg.CAN_CHc_STAT c := by
    unfold Reg.CAN_CHc_CTL Reg.CAN_CHc_STAT
    omega
  have hcs : Reg.CAN_CHc_CLMSTAT c ≠ Reg.CAN_CHc_STAT c ∧ Reg.CAN_CHc_CLAIM c ≠ Reg.CAN_CHc_STAT c := by
    unfold Reg.CAN_CHc_CLMSTAT Reg.CAN_CHc_CLAIM Reg.CAN_CHc_STAT
    omega
  rw [hgo]
  by_cases h0 : mode = 0 ∧ s.canState c = 3
  · rw [if_pos h0, if_pos h0]
    exact ⟨hwresp, (t.rd_wr_other _ hms).trans hwMode, t.rd_wr_fits (f := F.CAN_CHc_STAT_STATE c) (Fld.hi_lt rfl) (show 2 < 2 ^ 3 by decide),
      fun h1 => absurd (h0.1.symm.trans h1) (by decide)⟩
  · rw [if_neg h0, if_neg h0]
    by_cases h1 : mode = 1 ∧ s.canState c = 2
    · rw [if_pos h1, if_pos h1]
      have hidle := t.claimIdle_to c
      have hresp := ((hidle.mono (Set.subset_univ _)).trans (.wr _ (f := F.CAN_CHc_STAT_STATE c) 3 (Set.mem_univ _))).part State.resp fun _ _ => rfl
      refine ⟨hresp.trans hwresp, ?_, State.rd_wr_fits _ (f := F.CAN_CHc_STAT_STATE c) (Fld.hi_lt rfl) (show 3 < 2 ^ 3 by decide),
        fun _ _ => ⟨(State.rd_wr_other _ _ hcs.1).trans (t.claimIdle_claim c), (State.rd_wr_other _ _ hcs.2).trans (t.claimIdle_cur c)⟩⟩
      exact (State.rd_wr_other _ _ hms).trans ((hidle.rd (canBlock (Reg.canCtl_block c)) (Reg.canCtl_notClaim c)).trans hwMode)
    · rw [if_neg h1, if_neg h1]
      exact ⟨hwresp, hwMode, hwst, fun hm hst => absurd ⟨hm, hst⟩ h1⟩

/-! ### Rates and the acceptance copy -/

theorem execBusRateDetect_takes (s : State) (c nrate drate : Nat) (hbed : s.bedOn = true) (hc : c < s.code.cans) (hst : s.canState c = 1)
    (hn : nrate ≤ 3) (hd : drate ≤ 4) :
    Completes (.busRateDetect c nrate drate) s (fun t => t.canState c = 3 ∧ t.rd (F.CAN_CHc_BT_NRATE c) = nrate ∧ t.rd (F.CAN_CHc_BT_DRATE c) = drate ∧
      t.rd (F.CAN_CHc_DET_DONE c) = 1 ∧ t.rd (F.CAN_CHc_DET_NFOUND c) = nrate ∧ t.rd (F.CAN_CHc_DET_DFOUND c) = drate) := by
  have hne : Reg.CAN_CHc_BT c ≠ Reg.CAN_CHc_STAT c ∧ Reg.CAN_CHc_BT c ≠ Reg.CAN_CHc_DET c ∧ Reg.CAN_CHc_DET c ≠ Reg.CAN_CHc_STAT c := by
    unfold Reg.CAN_CHc_BT Reg.CAN_CHc_STAT Reg.CAN_CHc_DET
    omega
  obtain ⟨hbs, hbd, hds⟩ := hne
  have hbb : Reg.CAN_CHc_BT c / 0x1000 = 0xD := by unfold Reg.CAN_CHc_BT; omega
  have hdb : Reg.CAN_CHc_DET c / 0x1000 = 0xD := by unfold Reg.CAN_CHc_DET; omega
  have hpar (x : State) (f : Fld) (k : Nat) : (x.reparity k).rd f = x.rd f := rfl
  refine ⟨_, congrArg Host.Outcome.next (if_pos ⟨hbed, hc, hst, hn, hd⟩), ?_, ?_, ?_, ?_, ?_, ?_⟩
  · exact (State.ctlEvent_rd _ _ _ _ (Reg.canStat_block c)).trans (State.rd_wr_fits _ (f := F.CAN_CHc_STAT_STATE c) (Fld.hi_lt rfl) (show 3 < 2 ^ 3 by decide))
  · refine (State.ctlEvent_rd _ _ _ _ hbb).trans ((State.rd_wr_other _ _ hbs).trans ((State.rd_wr_other _ _ hbd).trans ((State.rd_wr_other _ _ hbd).trans
      ((State.rd_wr_other _ _ hbd).trans ((hpar _ _ _).trans ((State.rd_wr_apart _ _ rfl).trans ?_))))))
    exact s.rd_wr_fits (f := F.CAN_CHc_BT_NRATE c) (Fld.hi_lt rfl) (lt_of_le_of_lt hn (show 3 < 2 ^ 4 by decide))
  · refine (State.ctlEvent_rd _ _ _ _ hbb).trans ((State.rd_wr_other _ _ hbs).trans ((State.rd_wr_other _ _ hbd).trans ((State.rd_wr_other _ _ hbd).trans
      ((State.rd_wr_other _ _ hbd).trans ((hpar _ _ _).trans ?_)))))
    exact State.rd_wr_fits _ (f := F.CAN_CHc_BT_DRATE c) (Fld.hi_lt rfl) (lt_of_le_of_lt hd (show 4 < 2 ^ 4 by decide))
  · refine (State.ctlEvent_rd _ _ _ _ hdb).trans ((State.rd_wr_other _ _ hds).trans ((State.rd_wr_apart _ _ rfl).trans ((State.rd_wr_apart _ _ rfl).trans ?_)))
    exact State.rd_wr_fits _ (f := F.CAN_CHc_DET_DONE c) (Fld.hi_lt rfl) (show 1 < 2 ^ 1 by decide)
  · refine (State.ctlEvent_rd _ _ _ _ hdb).trans ((State.rd_wr_other _ _ hds).trans ((State.rd_wr_apart _ _ rfl).trans ?_))
    exact State.rd_wr_fits _ (f := F.CAN_CHc_DET_NFOUND c) (Fld.hi_lt rfl) (lt_of_le_of_lt hn (show 3 < 2 ^ 4 by decide))
  · refine (State.ctlEvent_rd _ _ _ _ hdb).trans ((State.rd_wr_other _ _ hds).trans ?_)
    exact State.rd_wr_fits _ (f := F.CAN_CHc_DET_DFOUND c) (Fld.hi_lt rfl) (lt_of_le_of_lt hd (show 4 < 2 ^ 4 by decide))

theorem execDetectTimeout_fails (s : State) (c : Nat) (hbed : s.bedOn = true) (hc : c < s.code.cans) (hst : s.canState c = 1)
    (hfail : s.on (F.CAN_CHc_DET_FAIL c) = false) (hdue : (s.ctl c).detSince + s.rd (F.CAN_CHc_DET_TMO c) * 1000000000 ≤ s.now) :
    Completes (.detectTimeout c) s (fun t => t.rd (F.CAN_CHc_DET_FAIL c) = 1 ∧ t.canState c = 1 ∧ t.can = s.can) := by
  have hdb : Reg.CAN_CHc_DET c / 0x1000 = 0xD := by unfold Reg.CAN_CHc_DET; omega
  have hsd : Reg.CAN_CHc_STAT c ≠ Reg.CAN_CHc_DET c := by unfold Reg.CAN_CHc_STAT Reg.CAN_CHc_DET; omega
  refine ⟨_, congrArg Host.Outcome.next (if_pos ⟨hbed, hc, hst, hfail, hdue⟩), ?_, ?_, ?_⟩
  · exact (State.ctlEvent_rd _ _ _ _ hdb).trans (s.rd_wr_fits (f := F.CAN_CHc_DET_FAIL c) (Fld.hi_lt rfl) (show 1 < 2 ^ 1 by decide))
  · exact (State.ctlEvent_rd _ _ _ _ (Reg.canStat_block c)).trans ((s.rd_wr_other _ hsd).trans hst)
  · exact (State.ctlEvent_affects ∅ (s.wr (F.CAN_CHc_DET_FAIL c) 1) 6 c none).part State.can fun _ _ => rfl

/-- An entry of the acceptance table in memory. -/
def accEntryAt (m : Memory) (e : Nat) : AccEntry := ⟨m.readLe e 4, m.readLe (e + 4) 4, m.readLe (e + 8) 1, m.readLe (e + 9) 1⟩

/-- A copy of a clean table of valid entries. -/
theorem State.accCopy_copies {s : State} {c n a : Nat} (hn : s.rd (F.CAN_CHc_ACCTAB_NACC c) = n) (ha : bedStoreBase + s.rd (F.CAN_CHc_ACCTAB_OFF c) * 64 = a)
    (hclean : s.mem.poisoned a (16 * n) = false)
    (hok : (List.range n).all (fun i => decide (s.mem.readLe (a + 16 * i + 10) 6 = 0) && (accEntryAt s.mem (a + 16 * i)).ok) = true) :
    ((s.accCopy c).ctl c).acc.head? = some (s.now, (List.range n).map (fun i => accEntryAt s.mem (a + 16 * i))) ∧ (s.accCopy c).resp = s.resp := by
  subst hn ha
  have hgood : ¬ ((List.range (s.rd (F.CAN_CHc_ACCTAB_NACC c))).map (fun i => (accEntryAt s.mem (bedStoreBase + s.rd (F.CAN_CHc_ACCTAB_OFF c) * 64 + 16 * i),
      s.mem.readLe (bedStoreBase + s.rd (F.CAN_CHc_ACCTAB_OFF c) * 64 + 16 * i + 10) 6))).any (fun e => !e.1.ok || decide (e.2 ≠ 0)) = true := by
    rw [List.any_map, List.any_eq_true]
    rintro ⟨i, hi, hbad⟩
    have hboth := (Bool.and_eq_true _ _).mp (List.all_eq_true.mp hok i hi)
    obtain h | h := (Bool.or_eq_true _ _).mp hbad
    · rw [hboth.2] at h
      exact Bool.noConfusion h
    · exact of_decide_eq_true h (of_decide_eq_true hboth.1)
  have hto := (s.accCopy_to c).1
  refine ⟨?_, hto.part State.resp fun _ _ => rfl⟩
  have hset : ∃ old, s.accCopy c = s.setCtl c { s.ctl c with acc := (s.now, ((List.range (s.rd (F.CAN_CHc_ACCTAB_NACC c))).map (fun i =>
      (accEntryAt s.mem (bedStoreBase + s.rd (F.CAN_CHc_ACCTAB_OFF c) * 64 + 16 * i),
        s.mem.readLe (bedStoreBase + s.rd (F.CAN_CHc_ACCTAB_OFF c) * 64 + 16 * i + 10) 6))).map (fun e => e.1)) :: old } :=
    ⟨_, (if_neg (fun h => Bool.noConfusion (hclean.symm.trans h))).trans (if_neg hgood)⟩
  obtain ⟨old, hold⟩ := hset
  rw [hold, State.ctl_setCtl]
  exact congrArg (fun l => some (s.now, l)) List.map_map

theorem execAcceptanceTableCopy_copies (s : State) (a : Agent) (c : Nat) (v : W32) (hc : c < 8) (hacc : s.accepts a 0x0D (0x110 + 0x40 * c) = true)
    (hn : getBits v 31 23 ≤ 256) (hfit : getBits v 18 0 * 64 + getBits v 31 23 * 16 ≤ 0x2000000)
    (hclean : s.mem.poisoned (bedStoreBase + getBits v 18 0 * 64) (16 * getBits v 31 23) = false)
    (hok : (List.range (getBits v 31 23)).all (fun i => decide (s.mem.readLe (bedStoreBase + getBits v 18 0 * 64 + 16 * i + 10) 6 = 0) &&
      (⟨s.mem.readLe (bedStoreBase + getBits v 18 0 * 64 + 16 * i) 4, s.mem.readLe (bedStoreBase + getBits v 18 0 * 64 + 16 * i + 4) 4,
        s.mem.readLe (bedStoreBase + getBits v 18 0 * 64 + 16 * i + 8) 1, s.mem.readLe (bedStoreBase + getBits v 18 0 * 64 + 16 * i + 9) 1⟩ : AccEntry).ok) = true) :
    Completes (.acceptanceTableCopy a c v) s (fun t => t.resp = .done ∧ (t.ctl c).acc.head? = some (s.now, (List.range (getBits v 31 23)).map (fun i =>
      ⟨s.mem.readLe (bedStoreBase + getBits v 18 0 * 64 + 16 * i) 4, s.mem.readLe (bedStoreBase + getBits v 18 0 * 64 + 16 * i + 4) 4,
        s.mem.readLe (bedStoreBase + getBits v 18 0 * 64 + 16 * i + 8) 1, s.mem.readLe (bedStoreBase + getBits v 18 0 * 64 + 16 * i + 9) 1⟩))) := by
  refine ⟨_, congrArg Host.Outcome.next ((if_pos hc).trans ((State.gate_accepts _ hacc).trans
    ((if_neg (not_lt.mpr hn)).trans (if_neg (not_lt.mpr hfit))))), ?_⟩
  dsimp only
  obtain ⟨hwN, hwO⟩ := s.done.applyWrite_canAcctab c v
  have hwmem : (s.done.applyWrite (Reg.CAN_CHc_ACCTAB c) v).mem = s.mem := s.done.applyWrite_mem _ _
  have hwnow : (s.done.applyWrite (Reg.CAN_CHc_ACCTAB c) v).now = s.now := s.done.applyWrite_now _ _
  have hwresp : (s.done.applyWrite (Reg.CAN_CHc_ACCTAB c) v).resp = .done := s.done.applyWrite_resp _ _
  generalize s.done.applyWrite (Reg.CAN_CHc_ACCTAB c) v = t at hwN hwO hwmem hwnow hwresp ⊢
  obtain ⟨hhead, hresp⟩ := State.accCopy_copies (s := t) hwN (congrArg (fun x => bedStoreBase + x * 64) hwO) (by rw [hwmem]; exact hclean) (by rw [hwmem]; exact hok)
  rw [hwmem, hwnow] at hhead
  exact ⟨hresp.trans hwresp, hhead⟩

end Sys2Proof.Machine
end

section
/-! PROOFS. Address claims and the partner table (R366, R367). -/

namespace Sys2Proof.Machine

theorem State.canName_congr {s t : State} {c : Nat} (hhi : t.rd (F.CAN_CHc_NAME_HI_NAME c) = s.rd (F.CAN_CHc_NAME_HI_NAME c))
    (hlo : t.rd (F.CAN_CHc_NAME_LO_NAME c) = s.rd (F.CAN_CHc_NAME_LO_NAME c)) : t.canName c = s.canName c := by
  unfold State.canName
  rw [hhi, hlo]

theorem Reg.canName_notClaim (c : Nat) : Reg.CAN_CHc_NAME_HI c ∉ canClaimRegs c ∧ Reg.CAN_CHc_NAME_LO c ∉ canClaimRegs c := by
  constructor <;> show ¬ (_ ∨ _ ∨ _ ∨ _) <;>
    unfold Reg.CAN_CHc_TXPEND Reg.CAN_CHc_CLMSTAT Reg.CAN_CLAIMMAP Reg.CAN_CHc_CLAIM
  · unfold Reg.CAN_CHc_NAME_HI
    omega
  · unfold Reg.CAN_CHc_NAME_LO
    omega

/-- The claim logic leaves the NAME. -/
theorem State.CanTo.canName {c : Nat} {s t : State} (h : State.CanTo (canClaimRegs c) s t) : t.canName c = s.canName c :=
  State.canName_congr (h.rd (canBlock (Reg.canNameHi_block c)) (Reg.canName_notClaim c).1) (h.rd (canBlock (Reg.canNameLo_block c)) (Reg.canName_notClaim c).2)

/-- The Address Claimed frame of controller `c` from `sa`. -/
def State.claimFrame (s : State) (c sa : Nat) : TxFrame :=
  { kind := .claim, id := 2 ^ 31 + 0x18EEFF00 + sa, dlc := 8, data := leBytes 8 (s.canName c), sasub := false }

theorem State.pendClaim_ctl (s : State) (c sa : Nat) : (s.pendClaim c sa).ctl c =
    { s.ctl c with pend := (s.ctl c).pend.filter (fun g => decide (g.kind ≠ .claim) || g.begun) ++ [s.claimFrame c sa], claimAt := none } := s.ctl_setCtl c _

theorem State.pendClaim_to (s : State) (c sa : Nat) : State.CanTo (canClaimRegs c) s (s.pendClaim c sa) := .setCtl s c _ (.inl rfl)

theorem State.pendClaim_rd (s : State) (c sa : Nat) {f : Fld} (h : f.addr ≠ Reg.CAN_CHc_TXPEND c) : (s.pendClaim c sa).rd f = s.rd f := s.setCtl_rd c _ h

theorem State.pendClaim_last (s : State) (c sa : Nat) : ((s.pendClaim c sa).ctl c).pend.getLast? = some (s.claimFrame c sa) := by
  rw [State.pendClaim_ctl]
  exact List.getLast?_concat

theorem getLast?_map_of_eq {α β : Type*} {l : List α} {a : α} (h : l.getLast? = some a) (f : α → β) : l.getLast?.map f = some (f a) := by
  rw [h]
  rfl

/-- A field of CAN_CHc_CLAIM with the current address written. -/
theorem State.wr_cur (s : State) (c : Nat) {a : Nat} (h : a < 256) : (s.wr (F.CAN_CHc_CLAIM_CUR c) a).rd (F.CAN_CHc_CLAIM_CUR c) = a :=
  s.rd_wr_fits (f := F.CAN_CHc_CLAIM_CUR c) (Fld.hi_lt rfl) h

/-- A claim begun: CLAIMING, with `a` as the current address, and its frame pending. -/
def State.claimBegun (s : State) (c a : Nat) : State := ((s.setClaim c 1).wr (F.CAN_CHc_CLAIM_CUR c) a).pendClaim c a

theorem State.claimBegun_state (s : State) (c a : Nat) : (s.claimBegun c a).claimState c = 1 :=
  (State.pendClaim_rd _ c a (Reg.canClmstat_ne_txpend c)).trans ((State.rd_wr_other _ _ (Reg.canClmstat_ne_claim c)).trans (s.setClaim_state c (by decide)))

theorem State.claimBegun_cur (s : State) (c a : Nat) : (s.claimBegun c a).rd (F.CAN_CHc_CLAIM_CUR c) = a % 256 :=
  (State.pendClaim_rd _ c a (Reg.canClaim_ne_txpend c)).trans (State.rd_wr_same _ (F.CAN_CHc_CLAIM_CUR c) a (Fld.hi_lt rfl))

theorem State.claimBegun_before (s : State) (c a : Nat) : State.CanTo (canClaimRegs c) s ((s.setClaim c 1).wr (F.CAN_CHc_CLAIM_CUR c) a) :=
  (State.CanTo.of_affects (s.setClaim_affects c 1)).trans (.wr _ _ (.inr (.inr (.inr rfl))))

theorem State.claimBegun_ctl (s : State) (c a : Nat) : (s.claimBegun c a).ctl c =
    { s.ctl c with pend := (s.ctl c).pend.filter (fun g => decide (g.kind ≠ .claim) || g.begun) ++ [s.claimFrame c a], claimAt := none } := by
  have hctl : ((s.setClaim c 1).wr (F.CAN_CHc_CLAIM_CUR c) a).ctl c = s.ctl c := (State.wr_ctl _ _ _ _).trans ((s.setClaim_affects c 1).ctl c)
  have hname : ((s.setClaim c 1).wr (F.CAN_CHc_CLAIM_CUR c) a).claimFrame c a = s.claimFrame c a := by
    unfold State.claimFrame
    rw [(s.claimBegun_before c a).canName]
  unfold State.claimBegun
  rw [State.pendClaim_ctl, hctl, hname]

theorem execAddressClaim_claims (s : State) (c : Nat) (hbed : s.bedOn = true) (hc : c < s.code.cans) (hst : s.canState c = 2)
    (hon : s.on (F.CAN_CHc_CTL_CLAIM c) = true) (hidle : s.claimState c = 0) :
    Completes (.addressClaim c) s (fun t => t.claimState c = 1 ∧ t.rd (F.CAN_CHc_CLAIM_CUR c) = s.rd (F.CAN_CHc_CLAIM_PREF c) ∧ (t.ctl c).claimAt = none ∧
      (t.ctl c).pend.getLast?.map (fun f => (f.kind, f.id, f.data)) =
        some (.claim, 2 ^ 31 + 0x18EEFF00 + s.rd (F.CAN_CHc_CLAIM_PREF c), leBytes 8 (s.canName c))) := by
  refine ⟨s.claimBegun c (s.rd (F.CAN_CHc_CLAIM_PREF c)), congrArg Host.Outcome.next (if_pos ⟨hbed, hc, hst, hon, hidle⟩), s.claimBegun_state c _, ?_, ?_, ?_⟩
  · exact (s.claimBegun_cur c _).trans (Nat.mod_eq_of_lt (getBits_lt _ 31 24))
  · rw [State.claimBegun_ctl]
  · rw [State.claimBegun_ctl]
    exact getLast?_map_of_eq List.getLast?_concat _

theorem execClaimHoldoffExpiry_holds (s : State) (c t0 : Nat) (hc : c < 8) (hbed : s.bedOn = true) (hst : s.claimState c = 1)
    (hat : (s.ctl c).claimAt = some t0) (hno : (s.ctl c).contests = []) (hback : (s.ctl c).backoff = none) (hdue : t0 + 250000000 ≤ s.now) :
    Completes (.claimHoldoffExpiry c) s (fun t => t.claimState c = 2 ∧ t.on ⟨Reg.CAN_CLAIMMAP, c, c⟩ = true ∧ t.can.ctl = s.can.ctl) := by
  refine ⟨(s.setClaim c 2).ctlEvent 7 c none, congrArg Host.Outcome.next ?_, ?_, ?_, ?_⟩
  · rw [hat]
    exact if_pos ⟨hbed, hst, hno, hback, hdue⟩
  · exact (State.ctlEvent_rd _ _ _ _ (Reg.canClmstat_block c)).trans (s.setClaim_state c (by decide))
  · exact (State.on_congr (State.ctlEvent_rd _ _ _ _ (f := ⟨Reg.CAN_CLAIMMAP, c, c⟩) (show Reg.CAN_CLAIMMAP / 0x1000 = 0xD by decide))).trans
      (State.on_wr_one _ (f := ⟨Reg.CAN_CLAIMMAP, c, c⟩) (show c < 32 by omega) rfl)
  · exact congrArg Cans.ctl (((s.setClaim_affects c 2).trans (State.ctlEvent_affects _ _ _ _ _)).part State.can fun _ _ => rfl)

/-! ### Contests -/

/-- The addresses free to a controller depend on its bounds, its lost addresses and the partners alone. -/
theorem State.freeAddress_congr {s t : State} {c : Nat} (hmin : t.rd (F.CAN_CHc_CLAIM_MIN c) = s.rd (F.CAN_CHc_CLAIM_MIN c))
    (hmax : t.rd (F.CAN_CHc_CLAIM_MAX c) = s.rd (F.CAN_CHc_CLAIM_MAX c)) (hlost : (t.ctl c).lost = (s.ctl c).lost)
    (hptn : ∀ f : Fld, (∃ k, f.addr = Reg.CAN_PTNk k) → t.rd f = s.rd f) : t.freeAddress c = s.freeAddress c := by
  have hholder (a k : Nat) : t.ptnHolder c a k = s.ptnHolder c a k := by
    unfold State.ptnHolder State.ptnState State.ptnAddr
    refine congrArg (fun p => (List.range partnerSlots).find? p) (funext fun j => ?_)
    rw [hptn (F.CAN_PTNk_STATE j) ⟨j, rfl⟩, hptn (F.CAN_PTNk_CH j) ⟨j, rfl⟩, hptn (F.CAN_PTNk_ADDR j) ⟨j, rfl⟩]
  unfold State.freeAddress
  rw [hmin, hmax, hlost]
  simp only [hholder]

theorem Reg.canPtn_notClaim (c k : Nat) : Reg.CAN_PTNk k ∉ canClaimRegs c := by
  show ¬ (_ ∨ _ ∨ _ ∨ _)
  unfold Reg.CAN_PTNk Reg.CAN_CHc_TXPEND Reg.CAN_CHc_CLMSTAT Reg.CAN_CLAIMMAP Reg.CAN_CHc_CLAIM
  omega

/-- The claim logic leaves the partners. -/
theorem State.CanTo.ptn {c : Nat} {s t : State} (h : State.CanTo (canClaimRegs c) s t) (f : Fld) : (∃ k, f.addr = Reg.CAN_PTNk k) → t.rd f = s.rd f := by
  rintro ⟨k, hk⟩
  exact h.rd (canBlock (hk ▸ Reg.canPtn_block k)) (hk ▸ Reg.canPtn_notClaim c k)

/-- A contest taken up. -/
def State.contested (s : State) (c : Nat) (rest : List Nat) : State := s.setCtl c { s.ctl c with contests := rest }

/-- The current address given up. -/
def State.addressLost (s : State) (c : Nat) : State :=
  s.setCtl c { s.ctl c with lost := insertNat (s.rd (F.CAN_CHc_CLAIM_CUR c)) (s.ctl c).lost, claimAt := none,
                            pend := (s.ctl c).pend.filter (fun f => decide (f.kind ≠ .claim) || f.begun) }

/-- A lost claim counted, with no address, and the instant of the next. -/
def State.backedOff (s : State) (c at0 : Nat) (able : Bool) : State :=
  State.setClaim (State.setCtl ((s.inc (F.CAN_CHc_CLMSTAT_CONTESTS c)).wr (F.CAN_CHc_CLAIM_CUR c) 0xFE) c
    { ((s.inc (F.CAN_CHc_CLMSTAT_CONTESTS c)).wr (F.CAN_CHc_CLAIM_CUR c) 0xFE).ctl c with backoff := some (at0, able) }) c (if able then 1 else 3)

theorem State.contested_ctl (s : State) (c : Nat) (rest : List Nat) : (s.contested c rest).ctl c = { s.ctl c with contests := rest } := s.ctl_setCtl c _

theorem State.contested_rd (s : State) (c : Nat) (rest : List Nat) {f : Fld} (h : f.addr ≠ Reg.CAN_CHc_TXPEND c) : (s.contested c rest).rd f = s.rd f :=
  s.setCtl_rd c _ h

theorem State.addressLost_ctl (s : State) (c : Nat) : (s.addressLost c).ctl c =
    { s.ctl c with lost := insertNat (s.rd (F.CAN_CHc_CLAIM_CUR c)) (s.ctl c).lost, claimAt := none,
                   pend := (s.ctl c).pend.filter (fun f => decide (f.kind ≠ .claim) || f.begun) } := s.ctl_setCtl c _

theorem State.lossCounted_affects (s : State) (c : Nat) :
    s.AffectsOnly (canClaimRegs c) ((s.inc (F.CAN_CHc_CLMSTAT_CONTESTS c)).wr (F.CAN_CHc_CLAIM_CUR c) 0xFE) :=
  (AffectsOnly.inc s (.inl (.inr (.inl rfl)))).trans (.wr _ _ (.inl (.inr (.inr (.inr rfl)))))

theorem State.backedOff_to (s : State) (c at0 : Nat) (able : Bool) : State.CanTo (canClaimRegs c) s (s.backedOff c at0 able) :=
  ((State.CanTo.of_affects (s.lossCounted_affects c)).trans (.setCtl _ c _ (.inl rfl))).trans (.of_affects (State.setClaim_affects _ c _))

theorem State.backedOff_ctl (s : State) (c at0 : Nat) (able : Bool) : (s.backedOff c at0 able).ctl c = { s.ctl c with backoff := some (at0, able) } := by
  unfold State.backedOff
  rw [(State.setClaim_affects _ c _).ctl c, State.ctl_setCtl, (s.lossCounted_affects c).ctl c]

theorem State.backedOff_state (s : State) (c at0 : Nat) (able : Bool) : (s.backedOff c at0 able).claimState c = if able then 1 else 3 :=
  State.setClaim_state _ c (by split <;> decide)

theorem Reg.canClaim_ne_claimmap (c : Nat) : Reg.CAN_CHc_CLAIM c ≠ Reg.CAN_CLAIMMAP := by unfold Reg.CAN_CHc_CLAIM Reg.CAN_CLAIMMAP; omega

theorem State.setClaim_rd (s : State) (c st : Nat) {f : Fld} (h : f.addr = Reg.CAN_CHc_CLAIM c) : (s.setClaim c st).rd f = s.rd f :=
  (State.rd_wr_other _ _ (h ▸ Reg.canClaim_ne_claimmap c)).trans (s.rd_wr_other _ (h ▸ (Reg.canClmstat_ne_claim c).symm))

theorem State.backedOff_claimReg (s : State) (c at0 : Nat) (able : Bool) {f : Fld} (hf : f.addr = Reg.CAN_CHc_CLAIM c) :
    (s.backedOff c at0 able).rd f = ((s.inc (F.CAN_CHc_CLMSTAT_CONTESTS c)).wr (F.CAN_CHc_CLAIM_CUR c) 0xFE).rd f :=
  (State.setClaim_rd _ c _ hf).trans (State.setCtl_rd _ c _ (hf ▸ Reg.canClaim_ne_txpend c))

theorem State.backedOff_bounds (s : State) (c at0 : Nat) (able : Bool) {f : Fld} (hf : f.addr = Reg.CAN_CHc_CLAIM c)
    (h : (F.CAN_CHc_CLAIM_CUR c).apart f = true) : (s.backedOff c at0 able).rd f = s.rd f :=
  (s.backedOff_claimReg c at0 able hf).trans ((State.rd_wr_apart _ _ h).trans (s.rd_wr_other _ (hf ▸ (Reg.canClmstat_ne_claim c).symm)))

theorem execClaimContest_eq {s : State} {c r name : Nat} {rest : List Nat} (h : (s.ctl c).contests = name :: rest) :
    exec (.claimContest c r) s = .next (if name = s.canName c then (s.contested c rest).inc (F.CAN_CHc_CLMSTAT_CONTESTS c)
      else if s.canName c < name then (s.contested c rest).pendClaim c ((s.contested c rest).rd (F.CAN_CHc_CLAIM_CUR c))
      else ((s.contested c rest).addressLost c).backedOff c (s.now + 600000 * (r % 256))
        (bitAt (s.canName c) 63 && (((s.contested c rest).addressLost c).freeAddress c).isSome)) := by
  refine congrArg Host.Outcome.next ?_
  rw [h]
  rfl

theorem execClaimContest_decides (s : State) (c r name : Nat) (rest : List Nat) (_ : c < 8) (hlist : (s.ctl c).contests = name :: rest) :
    Completes (.claimContest c r) s (fun t => (t.ctl c).contests = rest ∧ (s.canName c < name → t.claimState c = s.claimState c ∧
        (t.ctl c).pend.getLast?.map (fun f => (f.kind, f.id)) = some (.claim, 2 ^ 31 + 0x18EEFF00 + s.rd (F.CAN_CHc_CLAIM_CUR c))) ∧
      (name < s.canName c → t.rd (F.CAN_CHc_CLAIM_CUR c) = 0xFE ∧ (t.ctl c).lost = insertNat (s.rd (F.CAN_CHc_CLAIM_CUR c)) (s.ctl c).lost ∧
        (t.ctl c).backoff.map (fun b => b.1) = some (s.now + 600000 * (r % 256)) ∧
        t.claimState c = if bitAt (s.canName c) 63 = true ∧ (t.freeAddress c).isSome = true then 1 else 3)) := by
  refine ⟨_, execClaimContest_eq hlist, ?_⟩
  dsimp only
  have hctl := s.contested_ctl c rest
  have hcur : (s.contested c rest).rd (F.CAN_CHc_CLAIM_CUR c) = s.rd (F.CAN_CHc_CLAIM_CUR c) := s.contested_rd c rest (Reg.canClaim_ne_txpend c)
  have hclm : (s.contested c rest).claimState c = s.claimState c := s.contested_rd c rest (f := F.CAN_CHc_CLMSTAT_STATE c) (Reg.canClmstat_ne_txpend c)
  generalize s.contested c rest = u at hctl hcur hclm ⊢
  by_cases heq : name = s.canName c
  · rw [if_pos heq]
    refine ⟨?_, fun h => absurd heq (by omega), fun h => absurd heq (by omega)⟩
    exact (congrArg Can.contests (u.wr_ctl _ _ _)).trans (by rw [hctl])
  rw [if_neg heq]
  by_cases hlow : s.canName c < name
  · rw [if_pos hlow]
    refine ⟨?_, fun _ => ⟨?_, ?_⟩, fun h => absurd h (by omega)⟩
    · rw [State.pendClaim_ctl, hctl]
    · exact (u.pendClaim_rd c _ (Reg.canClmstat_ne_txpend c)).trans hclm
    · rw [hcur]
      exact getLast?_map_of_eq (u.pendClaim_last c _) _
  · rw [if_neg hlow]
    have hlost := u.addressLost_ctl c
    rw [hcur, hctl] at hlost
    generalize u.addressLost c = v at hlost ⊢
    have hback := v.backedOff_ctl c (s.now + 600000 * (r % 256)) (bitAt (s.canName c) 63 && (v.freeAddress c).isSome)
    have hto := v.backedOff_to c (s.now + 600000 * (r % 256)) (bitAt (s.canName c) 63 && (v.freeAddress c).isSome)
    have hfree : (v.backedOff c (s.now + 600000 * (r % 256)) (bitAt (s.canName c) 63 && (v.freeAddress c).isSome)).freeAddress c = v.freeAddress c :=
      State.freeAddress_congr (v.backedOff_bounds c _ _ rfl rfl) (v.backedOff_bounds c _ _ rfl rfl) (by rw [hback]) hto.ptn
    refine ⟨?_, fun h => absurd h hlow, fun _ => ⟨?_, ?_, ?_, ?_⟩⟩
    · rw [hback, hlost]
    · exact (v.backedOff_claimReg c _ _ rfl).trans (State.wr_cur _ c (by decide))
    · rw [hback, hlost]
    · rw [hback]
      rfl
    · rw [hfree, State.backedOff_state]
      simp only [Bool.and_eq_true]

/-! ### The end of a back-off, and requests -/

/-- A back-off over. -/
def State.backoffOver (s : State) (c : Nat) : State := s.setCtl c { s.ctl c with backoff := none }

theorem State.backoffOver_ctl (s : State) (c : Nat) : (s.backoffOver c).ctl c = { s.ctl c with backoff := none } := s.ctl_setCtl c _

theorem State.backoffOver_to (s : State) (c : Nat) : State.CanTo {k | k = Reg.CAN_CHc_TXPEND c} s (s.backoffOver c) := .setCtl s c _ rfl

theorem State.backoffOver_free (s : State) (c : Nat) : (s.backoffOver c).freeAddress c = s.freeAddress c := by
  refine State.freeAddress_congr (s.setCtl_rd c _ (Reg.canClaim_ne_txpend c)) (s.setCtl_rd c _ (Reg.canClaim_ne_txpend c)) (by rw [State.backoffOver_ctl]) ?_
  rintro f ⟨k, hk⟩
  exact s.setCtl_rd c _ (hk ▸ (show Reg.CAN_PTNk k ≠ Reg.CAN_CHc_TXPEND c by unfold Reg.CAN_PTNk Reg.CAN_CHc_TXPEND; omega))

/-- A controller that cannot claim says so. -/
def State.claimFails (s : State) (c : Nat) : State := ((s.setClaim c 3).pendClaim c 0xFE).ctlEvent 8 c (some sevWarning)

theorem State.claimFails_ctl (s : State) (c : Nat) : (s.claimFails c).ctl c = ((s.setClaim c 3).pendClaim c 0xFE).ctl c :=
  (State.ctlEvent_affects ∅ _ 8 c (some sevWarning)).ctl c

theorem State.claimFails_state (s : State) (c : Nat) : (s.claimFails c).claimState c = 3 :=
  (State.ctlEvent_rd _ _ _ _ (Reg.canClmstat_block c)).trans ((State.pendClaim_rd _ c _ (Reg.canClmstat_ne_txpend c)).trans (s.setClaim_state c (by decide)))

theorem execClaimBackoffExpiry_eq {s : State} {c at0 : Nat} {able : Bool} (h : (s.ctl c).backoff = some (at0, able)) (hdue : at0 ≤ s.now) :
    exec (.claimBackoffExpiry c) s = .next (match (if able then s.freeAddress c else none) with
      | some a => (s.backoffOver c).claimBegun c a
      | none => (s.backoffOver c).claimFails c) := by
  refine congrArg Host.Outcome.next ?_
  rw [h, ← State.backoffOver_free]
  exact (if_neg (not_lt.mpr hdue)).trans rfl

theorem execClaimBackoffExpiry_goesOn (s : State) (c at0 : Nat) (able : Bool) (_ : c < 8) (hback : (s.ctl c).backoff = some (at0, able)) (hdue : at0 ≤ s.now) :
    Completes (.claimBackoffExpiry c) s (fun t => (t.ctl c).backoff = none ∧ (able = true → (s.freeAddress c).isSome = true → t.claimState c = 1 ∧
        t.rd (F.CAN_CHc_CLAIM_CUR c) = (s.freeAddress c).getD 0 % 256) ∧
      (able = false ∨ s.freeAddress c = none → t.claimState c = 3 ∧
        (t.ctl c).pend.getLast?.map (fun f => (f.kind, f.id)) = some (.claim, 2 ^ 31 + 0x18EEFFFE))) := by
  have hover := s.backoffOver_ctl c
  refine ⟨_, execClaimBackoffExpiry_eq hback hdue, ?_⟩
  dsimp only
  generalize s.backoffOver c = u at hover ⊢
  cases hfree : (if able then s.freeAddress c else none) with
  | some a =>
    have hable : able = true := by
      by_contra hne
      rw [if_neg hne] at hfree
      exact absurd hfree.symm (Option.some_ne_none a)
    rw [if_pos hable] at hfree
    refine ⟨?_, fun _ _ => ⟨u.claimBegun_state c a, ?_⟩, fun h => ?_⟩
    · dsimp only
      rw [State.claimBegun_ctl, hover]
    · rw [hfree]
      exact u.claimBegun_cur c a
    · obtain h | h := h
      · exact Bool.noConfusion (hable.symm.trans h)
      · exact absurd (hfree.symm.trans h) (Option.some_ne_none a)
  | none =>
    refine ⟨?_, fun hable hsome => ?_, fun _ => ⟨u.claimFails_state c, ?_⟩⟩
    · dsimp only
      rw [State.claimFails_ctl, State.pendClaim_ctl, (State.setClaim_affects _ c _).ctl c, hover]
    · rw [if_pos hable] at hfree
      rw [hfree] at hsome
      exact Bool.noConfusion hsome
    · dsimp only
      rw [State.claimFails_ctl]
      exact getLast?_map_of_eq (State.pendClaim_last _ c _) _

theorem execClaimRequest_answers (s : State) (c : Nat) (_ : c < 8) (hasked : (s.ctl c).asked = true) (hst : s.claimState c ≠ 0) :
    Completes (.claimRequest c) s (fun t => (t.ctl c).asked = false ∧ (t.ctl c).pend.getLast?.map (fun f => (f.kind, f.id)) =
      some (.claim, 2 ^ 31 + 0x18EEFF00 + if s.claimState c = 3 then 0xFE else s.rd (F.CAN_CHc_CLAIM_CUR c))) := by
  refine ⟨_, congrArg Host.Outcome.next (if_pos ⟨hasked, hst⟩), ?_, getLast?_map_of_eq (State.pendClaim_last _ c _) _⟩
  rw [State.pendClaim_ctl, State.ctl_setCtl]

/-! ### Partners -/

theorem execPartnerTimeout_loses (s : State) (k : Nat) (hbed : s.bedOn = true) (hk : k < 256) (hrun : s.can.stopped = false) (hst : s.ptnState k = 1)
    (htmo : s.rd F.CAN_PTNCFG_TMO ≠ 0) (hdue : SMap.get (fun _ => 0) s.can.seen k + s.rd F.CAN_PTNCFG_TMO * 1000000000 ≤ s.now) :
    Completes (.partnerTimeout k) s (fun t => t.ptnState k = 2 ∧ t.ptnAddr k = s.ptnAddr k ∧ t.rd F.CAN_STAT_PTN = 1 ∧ t.can = s.can) := by
  have hne : Reg.CAN_PTNk k ≠ Reg.CAN_STAT := by
    unfold Reg.CAN_PTNk Reg.CAN_STAT
    omega
  have hev (x : State) {f : Fld} (hf : f.addr / 0x1000 = 0xD) : (x.ptnEvent 11 k).rd f = (x.flag F.CAN_STAT_PTN F.CAN_CTL_IE_PTN).rd f :=
    (State.canEvent_affects ∅ _ _ _ _ _ _ _).rd (canBlock hf) (Set.notMem_empty _)
  refine ⟨_, congrArg Host.Outcome.next (if_pos ⟨hbed, hk, hrun, hst, htmo, hdue⟩), ?_, ?_, ?_, ?_⟩
  · exact (hev _ (Reg.canPtn_block k)).trans ((State.flag_rd_other _ hne).trans
      (State.rd_wr_fits _ (f := F.CAN_PTNk_STATE k) (Fld.hi_lt rfl) (show 2 < 2 ^ 3 by decide)))
  · exact (hev _ (Reg.canPtn_block k)).trans ((State.flag_rd_other _ hne).trans ((State.rd_wr_apart _ _ rfl).trans (s.rd_wr_apart _ rfl)))
  · exact (hev _ (by decide)).trans (State.flag_rd_same _ (by decide) rfl)
  · exact ((((State.AffectsOnly.wrSat (S := Set.univ) s (f := F.CAN_PTNk_AGE k) _ (.inl (Set.mem_univ _))).trans (.wr _ (f := F.CAN_PTNk_STATE k) 2 (.inl (Set.mem_univ _)))).trans
      (.flag _ F.CAN_CTL_IE_PTN (.inl (Set.mem_univ _)))).trans (State.canEvent_affects _ _ _ _ _ _ _ _)).part State.can fun _ _ => rfl

/-- The partner table freed. -/
def State.ptnFreed (s : State) : State := (List.range partnerSlots).foldl (fun (x : State) k => x.resetReg (Reg.CAN_PTNk k)) s

theorem State.ptnFreed_affects (s : State) : s.AffectsOnly {k | 0xD400 ≤ k} s.ptnFreed :=
  .foldl _ (fun x k => .setReg x _ (.inl (show 0xD400 ≤ Reg.CAN_PTNk k by unfold Reg.CAN_PTNk; omega))) _ _

theorem State.ptnFreed_state (s : State) {k : Nat} (hk : k < 256) : s.ptnFreed.ptnState k = 0 :=
  (foldl_establishes (f := fun (x : State) k => x.resetReg (Reg.CAN_PTNk k)) (I := fun _ => True) (P := fun k x => x.ptnState k = 0)
    (List.range partnerSlots) s trivial (fun _ _ _ _ => trivial) (fun x j _ _ => x.resetReg_ptnState j)
    fun x j i _ _ _ hx => by
      by_cases hij : Reg.CAN_PTNk j = Reg.CAN_PTNk i
      · have hst : (x.resetReg (Reg.CAN_PTNk i)).ptnState j = (x.resetReg (Reg.CAN_PTNk i)).ptnState i :=
          congrArg (fun a => getBits ((x.resetReg (Reg.CAN_PTNk i)).reg a) 31 29) hij
        exact hst.trans (x.resetReg_ptnState i)
      · exact (x.rd_resetReg_other (f := F.CAN_PTNk_STATE j) hij).trans hx).2 k (List.mem_range.mpr hk)

theorem State.ptnLive_none (s : State) (h : ∀ k < 256, s.ptnState k = 0) : s.ptnLive = s.wr F.CAN_PTNCNT_LIVE 0 := by
  have hnone : (List.range partnerSlots).filter (fun k => decide (s.ptnState k ≠ 0)) = [] := by
    refine List.filter_eq_nil_iff.mpr fun k hk hne => ?_
    exact of_decide_eq_true hne (h k (List.mem_range.mp hk))
  unfold State.ptnLive
  rw [hnone]
  rfl

/-- Tracking goes on after a parity fault. -/
def State.trackingOn (s : State) : State := { s with can := { s.can with stopped := false } }

theorem State.trackingOn_resp (s : State) : s.trackingOn.resp = s.resp := rfl

theorem State.trackingOn_stopped (s : State) : s.trackingOn.can.stopped = false := rfl

/-- The CAN controllers with an empty partner table. -/
def State.ptnEmptied (s : State) : State := { s with can := { s.can with names := [], seen := [], fullTold := false } }

theorem State.ptnEmptied_names (s : State) : s.ptnEmptied.can.names = [] ∧ s.ptnEmptied.can.seen = [] := ⟨rfl, rfl⟩
theorem State.ptnEmptied_stopped (s : State) : s.ptnEmptied.can.stopped = s.can.stopped := rfl
theorem State.ptnEmptied_resp (s : State) : s.ptnEmptied.resp = s.resp := rfl
theorem State.ptnEmptied_ptnState (s : State) (k : Nat) : s.ptnEmptied.ptnState k = s.ptnState k := rfl

theorem State.ptncfgWrite_clears (s : State) {v : W32} (h : bitAt v.toNat 31 = true) : s.ptncfgWrite v =
    (State.ptnEmptied (State.ptnFreed (s.trackingOn.applyWrite Reg.CAN_PTNCFG v))).ptnLive := if_pos h

theorem bitAt_setBits_31 (v : W32) : bitAt (setBits v 31 31 1).toNat 31 = true := by
  unfold bitAt
  rw [setBits_testBit (by decide) v 1 31 (by decide)]
  rfl

theorem execPartnerClear_clears (s : State) (a : Agent) (v : W32) (hacc : s.accepts a 0x0D 0x020 = true) :
    Completes (.partnerClear a v) s (fun t => t.resp = .done ∧ if s.badArea Reg.CAN_PTNCFG (getBits v 12 0 * 4096) 4096 = true then
        t.can = s.can ∧ t.rd F.CAN_BADCFG_CAUSE = 3
      else t.can.names = [] ∧ t.can.seen = [] ∧ t.can.stopped = false ∧ t.rd F.CAN_PTNCNT_LIVE = 0 ∧
        (List.range 256).all (fun k => decide (t.ptnState k = 0)) = true) := by
  have hoff : getBits (setBits v 31 31 1) 12 0 = getBits v 12 0 := getBits_setBits_other (by decide) (by decide) (by decide) v 1
  refine ⟨_, congrArg Host.Outcome.next ((State.gate_accepts _ hacc).trans ((if_neg (by decide)).trans (if_pos rfl))), ?_⟩
  dsimp only
  rw [hoff]
  by_cases hbad : s.badArea Reg.CAN_PTNCFG (getBits v 12 0 * 4096) 4096 = true
  · rw [if_pos hbad, if_pos (show s.done.badArea Reg.CAN_PTNCFG (getBits v 12 0 * 4096) 4096 = true from hbad)]
    obtain ⟨hcan, hcause, -⟩ := s.done.canReject_shows 0 (cause := 3) (by decide)
    exact ⟨(s.done.canReject_affects 0 3).part State.resp fun _ _ => rfl, hcan, hcause⟩
  · rw [if_neg hbad, if_neg (show ¬ s.done.badArea Reg.CAN_PTNCFG (getBits v 12 0 * 4096) 4096 = true from hbad),
      State.ptncfgWrite_clears _ (bitAt_setBits_31 v)]
    have hresp : (s.done.trackingOn.applyWrite Reg.CAN_PTNCFG (setBits v 31 31 1)).resp = .done :=
      (State.applyWrite_resp _ _ _).trans s.done.trackingOn_resp
    have hcan : (s.done.trackingOn.applyWrite Reg.CAN_PTNCFG (setBits v 31 31 1)).can.stopped = false :=
      (congrArg Cans.stopped (State.applyWrite_can _ _ _)).trans s.done.trackingOn_stopped
    generalize s.done.trackingOn.applyWrite Reg.CAN_PTNCFG (setBits v 31 31 1) = u at hresp hcan ⊢
    have hfree := u.ptnFreed_affects
    have hst (k : Nat) (hk : k < 256) : u.ptnFreed.ptnEmptied.ptnState k = 0 := (State.ptnEmptied_ptnState _ k).trans <| u.ptnFreed_state hk
    have hfcan : u.ptnFreed.can = u.can := hfree.part State.can fun _ _ => rfl
    have hfresp : u.ptnFreed.resp = u.resp := hfree.part State.resp fun _ _ => rfl
    have hestop : u.ptnFreed.ptnEmptied.can.stopped = false := (State.ptnEmptied_stopped _).trans <| (congrArg Cans.stopped hfcan).trans hcan
    have heresp : u.ptnFreed.ptnEmptied.resp = .done := (State.ptnEmptied_resp _).trans <| hfresp.trans hresp
    have hnames := u.ptnFreed.ptnEmptied_names
    rw [State.ptnLive_none _ hst]
    generalize u.ptnFreed.ptnEmptied = w at hst hestop heresp hnames ⊢
    refine ⟨heresp, hnames.1, hnames.2, hestop, w.rd_wr_fits (by decide) (by decide), List.all_eq_true.mpr fun k hk => decide_eq_true ?_⟩
    refine (w.rd_wr_other (f := F.CAN_PTNCNT_LIVE) (g := F.CAN_PTNk_STATE k) 0 ?_).trans (hst k (List.mem_range.mp hk))
    show Reg.CAN_PTNk k ≠ Reg.CAN_PTNCNT
    unfold Reg.CAN_PTNk Reg.CAN_PTNCNT
    omega

end Sys2Proof.Machine
end

section
/-! SUPPORT. What leaves the power chapter and Root alone (R469-R494): the domains' power, the time, Root's registers and latches, the power
state, the last answer and the registers of block SYS. Everything the other chapters do leaves them alone. -/

namespace Sys2Proof.Machine

/-- `t` with what only the power chapter and Root change taken from `s`. -/
def State.keptOf (s t : State) : State :=
  { t with code := s.code, hwrev := s.hwrev, rootOn := s.rootOn, bedOn := s.bedOn, canopyOn := s.canopyOn, now := s.now, rootRegs := s.rootRegs, latches := s.latches, resp := s.resp, pwr := s.pwr }

/-- `t` differs from `s` in nothing that belongs to the power chapter or Root, nor in what the CAN controllers have heard. -/
structure State.SysTo (s t : State) : Prop where
  eq : t = s.keptOf t
  reg : ∀ k, k < 0x1000 → t.reg k = s.reg k
  heard : ∀ c, (t.ctl c).keep = (s.ctl c).keep ∧ (t.ctl c).wuf = (s.ctl c).wuf

namespace State.SysTo

variable {s t u : State}

theorem refl (s : State) : SysTo s s := ⟨rfl, fun _ _ => rfl, fun _ => ⟨rfl, rfl⟩⟩

theorem trans (h : SysTo s t) (h' : SysTo t u) : SysTo s u :=
  ⟨h'.eq.trans ((congrArg (fun x : State => x.keptOf u) h.eq).trans rfl), fun k hk => (h'.reg k hk).trans (h.reg k hk),
    fun c => ⟨(h'.heard c).1.trans (h.heard c).1, (h'.heard c).2.trans (h.heard c).2⟩⟩

/-- A part of the state that belongs to the power chapter or Root. -/
theorem part {α : Sort*} (h : SysTo s t) (U : State → α) (hU : ∀ x y : State, U (x.keptOf y) = U x) : U t = U s :=
  (congrArg U h.eq).trans (hU s t)

theorem pwr (h : SysTo s t) : t.pwr = s.pwr := h.part State.pwr fun _ _ => rfl

theorem rd (h : SysTo s t) {f : Fld} (hf : f.addr < 0x1000) : t.rd f = s.rd f := State.rd_congr (h.reg _ hf)

theorem on (h : SysTo s t) {f : Fld} (hf : f.addr < 0x1000) : t.on f = s.on f := State.on_congr (h.rd hf)

theorem ite (c : Prop) [Decidable c] (h : c → SysTo s t) (h' : ¬ c → SysTo s u) : SysTo s (if c then t else u) := by
  split
  · exact h ‹_›
  · exact h' ‹_›

theorem foldl {α : Type*} (f : State → α → State) (h : ∀ (x : State) a, SysTo x (f x a)) (l : List α) (s : State) : SysTo s (l.foldl f s) :=
  List.foldlRecOn (motive := fun x : State => SysTo s x) l f (refl s) fun x hx a _ => hx.trans (h x a)

/-! ### The frames of the other chapters -/

theorem notEntry_sys {k : Nat} (hk : k < 0x1000) : ¬ entryBlock (k / 0x1000) := notEntry (by omega)

theorem of_affects {S : Set Nat} (h : AffectsOnly S s t) (hS : ∀ k ∈ S, 0x1000 ≤ k) : SysTo s t :=
  ⟨h.eq.trans (by rw [h.eq]; rfl), fun k hk => h.reg k (notEntry_sys hk) fun hS' => absurd (hS k hS') (by omega),
    fun c => by rw [h.ctl c]; exact ⟨rfl, rfl⟩⟩

theorem of_affectsNone (h : AffectsOnly ∅ s t) : SysTo s t := of_affects h fun k hk => absurd hk (Set.notMem_empty k)

theorem ctl_of_can (h : t.can = s.can) (c : Nat) : (t.ctl c).keep = (s.ctl c).keep ∧ (t.ctl c).wuf = (s.ctl c).wuf := by
  unfold State.ctl
  rw [h]
  exact ⟨rfl, rfl⟩

theorem of_terrace (h : TerraceTo s t) : SysTo s t :=
  ⟨h.eq.trans (by rw [h.eq]; rfl), fun k hk => h.reg k (notEntry_sys hk) (by omega), ctl_of_can (h.part State.can fun _ _ => rfl)⟩

theorem of_updates (h : UpdatesTo s t) : SysTo s t :=
  ⟨h.eq.trans (by rw [h.eq]; rfl), fun k hk => h.reg k (notEntry_sys hk) (by omega), ctl_of_can (h.part State.can fun _ _ _ => rfl)⟩

theorem of_drives {C : Set Nat} (h : DrivesTo C s t) : SysTo s t := by
  refine ⟨h.eq.trans (by rw [h.eq]; rfl), fun k hk => h.reg k (notEntry_sys hk) ?_, ctl_of_can (h.part State.can fun _ _ => rfl)⟩
  simp only [driveRegs, Set.mem_ofPred_eq, Reg.VLV_STAT, Reg.VLV_CONFCNT, Reg.VLV_BANKk_STAT, Reg.VLV_CHn_STAT, not_or, not_exists]
  exact ⟨by omega, by omega, fun b => by omega, fun m hm => by omega⟩

theorem of_switch {C : Set Nat} (h : SwitchTo C s t) : SysTo s t := by
  refine ⟨h.eq.trans (by rw [h.eq]; rfl), fun k hk => h.reg k ?_, ctl_of_can (h.part State.can fun _ _ _ => rfl)⟩
  simp only [switchRegs, Set.mem_ofPred_eq, Reg.LSW_CONFCNT, Reg.LSW_GRPg_STAT, Reg.LSW_CHn_STAT, Reg.LSW_OLMAP_LO, not_or, not_exists]
  exact ⟨by omega, fun g => by omega, fun m hm => by omega⟩

/-! ### Registers of other blocks -/

theorem wr (s : State) {f : Fld} (v : Nat) (h : 0x1000 ≤ f.addr) : SysTo s (s.wr f v) :=
  of_affects (.wr (S := {f.addr}) s v (.inl rfl)) fun _ hk => hk ▸ h

theorem wrB (s : State) {f : Fld} (b : Bool) (h : 0x1000 ≤ f.addr) : SysTo s (s.wrB f b) := wr s _ h

theorem wrSat (s : State) {f : Fld} (v : Nat) (h : 0x1000 ≤ f.addr) : SysTo s (s.wrSat f v) := wr s _ h

theorem inc (s : State) {f : Fld} (h : 0x1000 ≤ f.addr) : SysTo s (s.inc f) := wr s _ h

theorem setReg (s : State) {k : Nat} (w : W32) (h : 0x1000 ≤ k) : SysTo s (s.setReg k w) :=
  of_affects (.setReg (S := {k}) s w (.inl rfl)) fun _ hk => hk ▸ h

theorem flag (s : State) {stat : Fld} (ie : Fld) (h : 0x1000 ≤ stat.addr) : SysTo s (s.flag stat ie) :=
  of_affects (.flag (S := {stat.addr}) s ie (.inl rfl)) fun _ hk => hk ▸ h

theorem complete (s : State) (q : Nat) (d : Desc) (r : Result) : SysTo s (s.complete q d r) := of_affectsNone (.complete _ _ _ _)

theorem record (s : State) (src ev sev p0 p1 p2 : Nat) : SysTo s (s.record src ev sev p0 p1 p2) := of_affectsNone (.record _ _ _ _ _ _ _)

/-! ### The fail-safe request (R471) -/

theorem setOutIc (s : State) (i : Nat) (x : OutIc) : SysTo s (s.setOutIc i x) := ⟨rfl, fun _ _ => rfl, fun _ => ⟨rfl, rfl⟩⟩

theorem applyEntry (s : State) (k : Nat) : SysTo s (s.applyEntry k) := ⟨rfl, fun _ _ => rfl, fun _ => ⟨rfl, rfl⟩⟩

theorem valveStop (s : State) (n : Nat) : SysTo s (s.valveStop n) := of_drives (.valveStop (C := {n}) s (Set.mem_singleton n))

theorem lswStop (s : State) (n : Nat) : SysTo s (s.lswStop n) := of_switch (.lswStop (C := {n}) s (Set.mem_singleton n))

theorem vSet (s : State) (n b : Nat) (v : Bool) : SysTo s (s.vSet n b v) :=
  wrB s _ (by simp only [vlvFlag, Reg.VLV_CHn_STAT]; omega)

theorem lSet (s : State) (n b : Nat) (v : Bool) : SysTo s (s.lSet n b v) :=
  wrB s _ (by simp only [lswFlag, Reg.LSW_CHn_STAT]; omega)

theorem lswSafeShown (s : State) (n : Nat) : SysTo s (s.lswSafeShown n) :=
  ((lSet s _ _ _).trans (lSet _ _ _ _)).trans (of_switch (C := ∅) (.budReg _ _))

theorem safeShown (s : State) (i : Nat) : SysTo s (s.safeShown i) := by
  rw [State.safeShown_eq]
  exact ite _ (fun _ => foldl _ (fun x n => (vSet x n _ _).trans (valveStop _ _)) _ _) fun _ => foldl _ (fun x n => lswSafeShown x n) _ _

theorem safeChannels (s : State) (i : Nat) : SysTo s (s.safeChannels i) := by
  rw [State.safeChannels_eq]
  refine (foldl (fun (x : State) n => if i < 6 then (x.valveStop n).applyEntry n else (x.lswStop n).applyEntry (48 + n)) (fun x n => ?_) _ _).trans
    (safeShown _ _)
  exact ite _ (fun _ => (valveStop x n).trans (applyEntry _ _)) fun _ => (lswStop x n).trans (applyEntry _ _)

theorem safeTold (s : State) (i : Nat) : SysTo s (s.safeTold i) :=
  ite _ (fun _ => (flag s (stat := F.VLV_STAT_FSAFE) _ (by decide)).trans (of_affectsNone (State.DrivesTo.vlvEvent_affects _ _ _ _ _ _)))
    fun _ => (flag s (stat := F.LSW_STAT_FSAFE) _ (by decide)).trans (of_affectsNone (State.lswEvent_affects _ _ _ _ _ _))

theorem icReg_le (i : Nat) : 0x1000 ≤ icReg i := by
  have := icReg_cases i
  omega

theorem wrIc (s : State) (i hi lo v : Nat) : SysTo s (s.wr (icStat i hi lo) v) := wr s v (icReg_le i)

end State.SysTo
end Sys2Proof.Machine
end

section
/-! SUPPORT. What the power sequences ask of the other chapters (R402, R471, R481, R483): the fail-safe request, the panel's way down, the stop of
Terrace and the frames of the sleep agreement leave the power chapter and Root alone. -/

namespace Sys2Proof.Machine

namespace State.SysTo

variable {s t u : State}

theorem icCounted (s : State) (i : Nat) (expiry : Bool) : SysTo s (s.icCounted i expiry) :=
  ite _ (fun _ => (wrIc s i _ _ _).trans (of_affectsNone (.triggerTest _ _))) fun _ => refl s

theorem enterSafe (s : State) (i : Nat) (expiry : Bool) : SysTo s (s.enterSafe i expiry) := by
  rw [State.enterSafe_eq]
  refine ite _ (fun _ => icCounted s i expiry) fun _ => ?_
  exact (((icCounted s i expiry).trans ((setOutIc _ _ _).trans (wrIc _ i _ _ _))).trans (safeChannels _ _)).trans (safeTold _ _)

theorem requestSafe (s : State) : SysTo s s.requestSafe := foldl _ (fun x i => (wrIc x i _ _ _).trans (enterSafe _ _ _)) _ _

/-! ### The panel (R402, R403) -/

theorem withPan (s : State) (x : Panel) : SysTo s { s with pan := x } := ⟨rfl, fun _ _ => rfl, fun _ => ⟨rfl, rfl⟩⟩

theorem withCam (s : State) (x : Camera) : SysTo s { s with cam := x } := ⟨rfl, fun _ _ => rfl, fun _ => ⟨rfl, rfl⟩⟩

theorem lane_le (n : Nat) : 0x1000 ≤ Reg.DSP_LNn_STAT n ∧ 0x1000 ≤ Reg.DSP_LNn_LAST n := by
  unfold Reg.DSP_LNn_STAT Reg.DSP_LNn_LAST
  omega

theorem laneRegs (s : State) : SysTo s s.laneRegs :=
  ite _ (fun _ => foldl _ (fun x n => (wrB x _ (lane_le n).1).trans (wr _ _ (lane_le n).1)) _ _) fun _ => refl s

theorem laneSet (s : State) (st locks : Nat) : SysTo s (s.laneSet st locks) := (withPan s _).trans (laneRegs _)

theorem laneTrain (s : State) : SysTo s s.laneTrain := (withPan s _).trans (laneSet _ _ _)

theorem lastPackets (s : State) (line : Nat) (px : Nat → Nat) : SysTo s (s.lastPackets line px) :=
  ite _ (fun _ => foldl _ (fun x n => (wr x _ (lane_le n).2).trans (wr _ _ (lane_le n).2)) _ _) fun _ => refl s

theorem mapDrop (s : State) (st cause : Nat) : SysTo s (s.mapDrop st cause) :=
  (((wr s _ (by decide)).trans (wr _ _ (by decide))).trans (wr _ _ (by decide))).trans (setReg _ _ (by decide))

theorem mapDone (s : State) (status : Nat) : SysTo s (s.mapDone status) := by
  unfold State.mapDone
  split
  · exact (withPan s _).trans (complete _ _ _ _)
  · exact refl s

theorem mapAbandon (s : State) : SysTo s s.mapAbandon :=
  ((withPan s _).trans (ite _ (fun _ => mapDrop _ _ _) fun _ => refl _)).trans (mapDone _ _)

theorem panMode (s : State) (m : Nat) : SysTo s (s.panMode m) := ((withPan s _).trans (wr _ _ (by decide))).trans (withPan _ _)

theorem enterStep (s : State) (k : Nat) : SysTo s (s.enterStep k) := by
  unfold State.enterStep
  extract_lets x _ y
  have h : SysTo s y := ((wr s (f := F.DSP_PWRSTAT_STEP) k (by decide)).trans (wr _ (f := F.DSP_PWRSTAT_STATE) _ (by decide))).trans (withPan _ _)
  refine h.trans ?_
  clear_value y
  split
  case h_1 => exact withPan _ _
  case h_2 => exact withPan _ _
  case h_3 => exact withPan _ _
  case h_4 => exact withPan _ _
  case h_5 => exact laneTrain _
  case h_6 => exact lastPackets _ _ _
  case h_7 => exact ((withPan _ _).trans (wr _ _ (by decide))).trans (panMode _ _)
  case h_8 => exact ((withPan _ _).trans (wr _ _ (by decide))).trans (wr _ _ (by decide))
  case h_9 => exact lastPackets _ _ _
  case h_10 => exact withPan _ _
  case h_11 => exact withPan _ _
  case h_12 => exact withPan _ _
  case h_13 => exact ((withPan _ _).trans (laneSet _ _ _)).trans (mapAbandon _)
  case h_14 => exact refl _

theorem reverseAt (s : State) (k : Nat) : SysTo s (s.reverseAt k) :=
  ((((wr s _ (by decide)).trans (wr _ _ (by decide))).trans (inc _ (by decide))).trans (flag _ _ (by decide))).trans (enterStep _ _)

theorem startSeq (s : State) (k : Nat) : SysTo s (s.startSeq k) := ((wr s _ (by decide)).trans (wr _ _ (by decide))).trans (enterStep _ _)

theorem panelRequest (s : State) (on : Bool) : SysTo s (s.panelRequest on) := by
  unfold State.panelRequest
  split
  case h_1 => exact ite _ (fun _ => startSeq _ _) fun _ => refl s
  case h_2 => exact ite _ (fun _ => withPan _ _) fun _ => ite _ (fun _ => reverseAt _ _) fun _ => withPan _ _
  case h_3 => exact ite _ (fun _ => refl s) fun _ => startSeq _ _
  case h_4 => exact withPan _ _

/-! ### Terrace (R464) -/

theorem moveAbandon (s : State) : SysTo s s.moveAbandon := of_terrace (.moveAbandon s)

theorem withTer (s : State) (x : Terrace) : SysTo s { s with ter := x } := of_terrace (.withTer s x)

theorem terStopDue (s : State) : SysTo s s.terStopDue := by
  unfold State.terStopDue
  refine ite _ (fun _ => ?_) fun _ => refl s
  dsimp only
  split
  · exact (((moveAbandon s).trans (withTer _ _)).trans (wr _ _ (by decide))).trans (wr _ _ (by decide))
  · exact ((withTer s _).trans (wr _ _ (by decide))).trans (wr _ _ (by decide))

theorem terStop (s : State) : SysTo s s.terStop :=
  ite _ (fun _ => (((withTer s _).trans (wr _ _ (by decide))).trans (wr _ _ (by decide))).trans (terStopDue _)) fun _ => refl s

/-! ### The frames of the sleep agreement (R481, R483) -/

/-- A controller's own state set, with what it has heard as it was. -/
theorem setCtl (s : State) (c : Nat) (x : Can) (hkeep : x.keep = (s.ctl c).keep) (hwuf : x.wuf = (s.ctl c).wuf) : SysTo s (s.setCtl c x) := by
  have h := State.CanTo.setCtl (S := {Reg.CAN_CHc_TXPEND c}) s c x rfl
  refine ⟨h.eq.trans (by rw [h.eq]; rfl), fun k hk => h.reg k (notEntry_sys hk) ?_, fun d => ?_⟩
  · show ¬ k = Reg.CAN_CHc_TXPEND c
    unfold Reg.CAN_CHc_TXPEND
    omega
  · by_cases hd : d = c
    · rw [hd, State.ctl_setCtl]
      exact ⟨hkeep, hwuf⟩
    · have hd' : (s.setCtl c x).ctl d = s.ctl d := SMap.get_set_other _ _ _ hd
      rw [hd']
      exact ⟨rfl, rfl⟩

theorem pendFrame (s : State) (c : Nat) (f : TxFrame) : SysTo s (s.pendFrame c f) := setCtl s c _ rfl rfl

theorem pendClaim (s : State) (c sa : Nat) : SysTo s (s.pendClaim c sa) := setCtl s c _ rfl rfl

theorem sendMgmt (s : State) (kind hold : Nat) : SysTo s (s.sendMgmt kind hold) := foldl _ (fun x c => pendFrame x c _) _ _

end State.SysTo
end Sys2Proof.Machine
end

section
/-! SUPPORT. What the power sequences change (R473-R483): where the module stands in them, what of the sleep agreement depends on it, the registers
that show it and what the other chapters do at a step. -/

namespace Sys2Proof.Machine

/-- The power state without what depends on where the module stands in its sequences. -/
def Pwr.rest (p : Pwr) : Pwr :=
  { p with st := 0, step := 0, stepAt := 0, turn := none, early := [], retries := 0, parts := [], holdAt := 0, reqAt := 0, sent := 0 }

/-- The fields of SYS that entering a step changes. -/
def enterFields : List Fld := [F.SYS_PWRSTATE_STEP, F.SYS_STAT_CDOWN, F.SYS_SLEEPSTAT_PHASE]

/-- The fields of SYS that show the course of the sequences, beside the times of their steps. -/
def seqFields : List Fld := F.SYS_PWRSTATE_REVCNT :: F.SYS_PWRSTATE_STATE :: F.SYS_STAT_REVERSED :: F.SYS_STAT_STATECHG :: enterFields

theorem enterFields_seq : ∀ g ∈ enterFields, g ∈ seqFields := fun _ hg => .tail _ (.tail _ (.tail _ (.tail _ hg)))

/-- Those that a request changes beside them. -/
def requestFields : List Fld := F.SYS_STAT_SLEEPABORT :: F.SYS_SLEEPSTAT_ABORTS :: seqFields

/-- Whether a field of SYS shares no bit with the fields `W` and is no step time. -/
def stepFree (W : List Fld) (f : Fld) : Bool :=
  Nat.blt f.addr 0x1000 && (Nat.blt f.addr 0x200 || Nat.ble 0x268 f.addr) && W.all (fun g => !Nat.beq f.addr g.addr || g.apart f)

/-- CDOWN told to the Dales and Scarecrow (R478). -/
def State.cdownTold (s : State) : State :=
  ((s.irq (.agent .daleA) (.status Reg.SYS_STAT 31)).irq (.agent .daleB) (.status Reg.SYS_STAT 31)).irqScare (.status Reg.SYS_STAT 31)

/-- CDOWN shown, and told where its interrupt is enabled. -/
def State.cdownShown (s : State) : State :=
  if (s.wr F.SYS_STAT_CDOWN 1).on F.SYS_CTL_IE_CDOWN then (s.wr F.SYS_STAT_CDOWN 1).cdownTold else s.wr F.SYS_STAT_CDOWN 1

/-- `t` differs from `s` by the course of a power sequence, shown in the fields `W`. -/
structure State.PowerTo (W : List Fld) (s t : State) : Prop where
  eq : t = (s.setPwr t.pwr).keptOf t
  rest : t.pwr.rest = s.pwr.rest
  rd : ∀ f, stepFree W f = true → t.rd f = s.rd f
  heard : ∀ c, (t.ctl c).keep = (s.ctl c).keep ∧ (t.ctl c).wuf = (s.ctl c).wuf

namespace State.PowerTo

variable {W : List Fld} {s t u : State}

theorem refl (s : State) : PowerTo W s s := ⟨rfl, rfl, fun _ _ => rfl, fun _ => ⟨rfl, rfl⟩⟩

theorem trans (h : PowerTo W s t) (h' : PowerTo W t u) : PowerTo W s u :=
  ⟨h'.eq.trans ((congrArg (fun x : State => (x.setPwr u.pwr).keptOf u) h.eq).trans rfl), h'.rest.trans h.rest,
    fun f hf => (h'.rd f hf).trans (h.rd f hf), fun c => ⟨(h'.heard c).1.trans (h.heard c).1, (h'.heard c).2.trans (h.heard c).2⟩⟩

/-- A part of the state that neither the sequences nor the other chapters change. -/
theorem part {α : Sort*} (h : PowerTo W s t) (U : State → α) (hU : ∀ (x y : State) p, U ((x.setPwr p).keptOf y) = U x) : U t = U s :=
  (congrArg U h.eq).trans (hU s t _)

theorem on (h : PowerTo W s t) {f : Fld} (hf : stepFree W f = true) : t.on f = s.on f := State.on_congr (h.rd f hf)

theorem ite (c : Prop) [Decidable c] (h : c → PowerTo W s t) (h' : ¬ c → PowerTo W s u) : PowerTo W s (if c then t else u) := by
  split
  · exact h ‹_›
  · exact h' ‹_›

theorem foldl {α : Type*} (f : State → α → State) (h : ∀ (x : State) a, PowerTo W x (f x a)) (l : List α) (s : State) : PowerTo W s (l.foldl f s) :=
  List.foldlRecOn (motive := fun x : State => PowerTo W s x) l f (refl s) fun x hx a _ => hx.trans (h x a)

theorem free_addr {f : Fld} (h : stepFree W f = true) : f.addr < 0x1000 ∧ (f.addr < 0x200 ∨ 0x268 ≤ f.addr) := by
  simp only [stepFree, Bool.and_eq_true, Bool.or_eq_true, Nat.blt_eq, Nat.ble_eq] at h
  exact h.1

theorem free_apart {f g : Fld} (h : stepFree W f = true) (hg : g ∈ W) : f.addr ≠ g.addr ∨ g.apart f = true := by
  simp only [stepFree, Bool.and_eq_true, List.all_eq_true, Bool.or_eq_true, Bool.not_eq_true'] at h
  exact (h.2 g hg).imp (fun h' => Nat.ne_of_beq_eq_false h') id

theorem of_sys (h : SysTo s t) : PowerTo W s t :=
  ⟨h.eq.trans (by rw [h.pwr]; rfl), by rw [h.pwr], fun _ hf => h.rd (free_addr hf).1, h.heard⟩

theorem mono {V : List Fld} (h : PowerTo W s t) (hW : ∀ g ∈ W, g ∈ V) : PowerTo V s t := by
  refine ⟨h.eq, h.rest, fun f hf => h.rd f ?_, h.heard⟩
  simp only [stepFree, Bool.and_eq_true, List.all_eq_true] at hf ⊢
  exact ⟨hf.1, fun g hg => hf.2 g (hW g hg)⟩

/-! ### Registers -/

theorem wr (s : State) {g : Fld} (v : Nat) (hg : g ∈ W) : PowerTo W s (s.wr g v) := by
  refine ⟨rfl, rfl, fun f hf => ?_, fun _ => ⟨rfl, rfl⟩⟩
  obtain h | h := free_apart hf hg
  · exact s.rd_wr_other _ h
  · exact s.rd_wr_apart _ h

theorem inc (s : State) {g : Fld} (hg : g ∈ W) : PowerTo W s (s.inc g) := wr s _ hg

theorem flag (s : State) {g : Fld} (ie : Fld) (hg : g ∈ W) : PowerTo W s (s.flag g ie) :=
  (wr s 1 hg).trans (of_sys (.of_affectsNone (.notify _ _ _)))

/-- A step time is none of the free fields. -/
theorem wrTime (s : State) {g : Fld} (v n : Nat) (hg : g.addr = Reg.SYS_STEPTIMEs n) : PowerTo W s (s.wr g v) := by
  refine ⟨rfl, rfl, fun f hf => s.rd_wr_other _ ?_, fun _ => ⟨rfl, rfl⟩⟩
  have := (free_addr hf).2
  unfold Reg.SYS_STEPTIMEs at hg
  omega

theorem measured (s : State) (n v : Nat) : PowerTo W s (s.measured (F.SYS_STEPTIMEs_LAST n) (F.SYS_STEPTIMEs_PEAK n) v) :=
  (wrTime s _ n rfl).trans (wrTime _ _ n rfl)

theorem setPwr (s : State) {p : Pwr} (h : p.rest = s.pwr.rest) : PowerTo W s (s.setPwr p) := ⟨rfl, h, fun _ _ => rfl, fun _ => ⟨rfl, rfl⟩⟩

/-! ### Steps -/

theorem logStep (s : State) (n ms : Nat) : PowerTo W s (s.logStep n ms) := ite _ (fun _ => measured s _ _) fun _ => setPwr s rfl

theorem setTurn (s : State) (n : Option Nat) : PowerTo W s (s.setTurn n) := setPwr s rfl

section
variable (hW : ∀ g ∈ enterFields, g ∈ W)
include hW

theorem setStep (s : State) (n : Nat) : PowerTo W s (s.setStep n) := by
  have h : PowerTo W s (s.setPwr { s.pwr with step := n, stepAt := s.now }) := setPwr s rfl
  exact ite _ (fun _ => h.trans (wr _ _ (hW _ (.head _)))) fun _ => h

theorem wrPhase (s : State) (v : Nat) : PowerTo W s (s.wr F.SYS_SLEEPSTAT_PHASE v) := wr s v (hW _ (.tail _ (.tail _ (.head _))))

theorem wrCdown (s : State) (v : Nat) : PowerTo W s (s.wr F.SYS_STAT_CDOWN v) := wr s v (hW _ (.tail _ (.head _)))

end

theorem sleepReq (s : State) : PowerTo W s s.sleepReq := (of_sys (.sendMgmt s _ _)).trans (setPwr _ (by rw [(SysTo.sendMgmt s _ _).pwr]; rfl))

/-! ### Entering a step -/

section
variable (hW : ∀ g ∈ enterFields, g ∈ W)
include hW

theorem cdownShown (s : State) : PowerTo W s s.cdownShown := by
  have h : SysTo (s.wr F.SYS_STAT_CDOWN 1) (s.wr F.SYS_STAT_CDOWN 1).cdownTold := ⟨rfl, fun _ _ => rfl, fun _ => ⟨rfl, rfl⟩⟩
  exact (wrCdown hW s 1).trans (ite _ (fun _ => of_sys h) fun _ => refl _)

theorem pwrEnter (s : State) (n : Nat) : PowerTo W s (s.pwrEnter n) := by
  unfold State.pwrEnter
  extract_lets t
  have h : PowerTo W s t := (setStep hW s n).trans (setTurn _ _)
  refine h.trans ?_
  clear_value t
  split
  case h_1 => exact (wrPhase hW t _).trans (of_sys (.requestSafe _))
  case h_2 => exact of_sys (.panelRequest _ _)
  case h_3 => exact wrPhase hW t _
  case h_4 => exact wrPhase hW t _
  case h_5 =>
    show PowerTo W t ((t.cdownShown.logStep 0x12 0).setStep 0x13)
    exact (cdownShown hW t).trans ((logStep _ _ _).trans (setStep hW _ _))
  case h_6 => exact of_sys (.terStop _)
  case h_7 => exact refl t

theorem startSleep (s : State) : PowerTo W s s.startSleep := by
  have h : PowerTo W s (s.setPwr { s.pwr with parts := s.sleepers, holdAt := s.now, sent := 0 }) := setPwr s rfl
  exact ite _ (fun _ => h.trans (pwrEnter hW _ _)) fun _ => h.trans (((pwrEnter hW _ _).trans (wrPhase hW _ _)).trans (sleepReq _))

theorem kick (s : State) : PowerTo W s s.kick := by
  refine ite _ (fun _ => refl s) fun _ => ite _ (fun _ => ite _ (fun _ => ite _ (fun _ => refl s) fun _ => pwrEnter hW _ _) fun _ => ?_) fun _ => ?_
  · exact ite _ (fun _ => startSleep hW s) fun _ => refl s
  · exact ite _ (fun _ => pwrEnter hW _ _) fun _ => refl s

theorem graceEnds (s : State) : PowerTo W s s.graceEnds := ite _ (fun _ => (logStep s _ _).trans (pwrEnter hW _ _)) fun _ => refl s

end

/-! ### Reaching a state, and reversals (R473, R479) -/

section
variable (hW : ∀ g ∈ seqFields, g ∈ W)
include hW

theorem enters : ∀ g ∈ enterFields, g ∈ W := fun g hg => hW g (enterFields_seq g hg)

theorem reversed (s : State) : PowerTo W s s.reversed :=
  ite _ (fun _ => (wr s (g := F.SYS_STAT_REVERSED) _ (hW _ (.tail _ (.tail _ (.head _))))).trans
    (inc _ (g := F.SYS_PWRSTATE_REVCNT) (hW _ (.head _)))) fun _ => refl s

theorem stateReached (s : State) (st : Nat) : PowerTo W s (s.stateReached st) := by
  unfold State.stateReached
  extract_lets t _ u
  have h : PowerTo W s u :=
    ((setStep (enters hW) s 0).trans (setPwr t (p := { t.pwr with st := st }) rfl)).trans (wr _ (g := F.SYS_PWRSTATE_STATE) _ (hW _ (.tail _ (.head _))))
  clear_value u
  exact h.trans ((setTurn _ none).trans (flag _ (g := F.SYS_STAT_STATECHG) _ (hW _ (.tail _ (.tail _ (.tail _ (.head _)))))))

theorem enterField (s : State) : PowerTo W s s.enterField :=
  (((setPwr s (p := { s.pwr with retries := 0 }) rfl).trans (wrCdown (enters hW) _ _)).trans (stateReached hW _ _)).trans (kick (enters hW) _)

/-- A turn set or taken back is a reversal. -/
theorem turned (s : State) (n : Option Nat) : PowerTo W s (s.setTurn n).reversed := (setTurn s n).trans (reversed hW _)

theorem steer (s : State) : PowerTo W s s.steer := by
  unfold State.steer
  dsimp only
  refine ite _ (fun _ => refl s) fun _ => ite _ (fun _ => ?up) fun _ => ite _ (fun _ => ?down) fun _ => ite _ (fun _ => ?canopyUp) fun _ =>
    ite _ (fun _ => ?canopyDown) fun _ => ite _ (fun _ => ?sleep) fun _ => refl s
  case up => exact ite _ (fun _ => turned hW s _) fun _ => ite _ (fun _ => turned hW s _) fun _ => refl s
  case down => exact ite _ (fun _ => turned hW s _) fun _ => ite _ (fun _ => turned hW s _) fun _ => refl s
  case canopyUp =>
    refine ite _ (fun _ => ?_) fun _ => ite _ (fun _ => turned hW s _) fun _ => refl s
    refine ite _ (fun _ => (setStep (enters hW) s _).trans (reversed hW _)) fun _ => ite _ (fun _ => turned hW s _) fun _ => ?_
    exact ite _ (fun _ => (pwrEnter (enters hW) s _).trans (reversed hW _)) fun _ => (pwrEnter (enters hW) s _).trans (reversed hW _)
  case canopyDown =>
    refine ite _ (fun _ => ?_) fun _ => ite _ (fun _ => turned hW s _) fun _ => refl s
    exact ite _ (fun _ => (reversed hW s).trans (enterField hW _)) fun _ => turned hW s _
  case sleep => exact (((logStep s _ _).trans (wrPhase (enters hW) _ _)).trans (setStep (enters hW) _ _)).trans (reversed hW _)

end

/-! ### Requests (R473, R483) -/

theorem seqFields_request : ∀ g ∈ seqFields, g ∈ requestFields := fun _ hg => .tail _ (.tail _ hg)

theorem sleepBroken (s : State) : PowerTo requestFields s s.sleepBroken := by
  unfold State.sleepBroken
  refine ite _ (fun _ => refl s) fun _ => ite _ (fun _ => of_sys (.sendMgmt _ _ _)) fun _ => ite _ (fun _ => ?_) fun _ => refl s
  have h : SysTo s (s.pwr.parts.foldl (fun (x : State) c => x.pendClaim c (x.rd (F.CAN_CHc_CLAIM_CUR c))) (s.sendMgmt 4 0xFFFF)) :=
    (SysTo.sendMgmt s _ _).trans (.foldl _ (fun x c => .pendClaim x c _) _ _)
  exact ((of_sys h).trans (flag _ _ (.head _))).trans (inc _ (.tail _ (.head _)))

/-- What a request does beside setting TARGET. -/
theorem requested (s : State) (v : Nat) : PowerTo requestFields (s.wr F.SYS_PWRSTATE_TARGET v) (s.powerRequest v) :=
  ((ite _ (fun _ => refl _) fun _ => sleepBroken _).trans (steer seqFields_request _)).trans (kick (enters seqFields_request) _)

end State.PowerTo

/-- A request sets TARGET (R473). -/
theorem State.powerRequest_target (s : State) {v : Nat} (hv : v < 4) : (s.powerRequest v).rd F.SYS_PWRSTATE_TARGET = v :=
  ((PowerTo.requested s v).rd _ (by decide)).trans (State.rd_wr_same s F.SYS_PWRSTATE_TARGET v (by decide) |>.trans (Nat.mod_eq_of_lt hv))

/-- What a request leaves of the power state. -/
theorem State.powerRequest_rest (s : State) (v : Nat) : (s.powerRequest v).pwr.rest = s.pwr.rest := (PowerTo.requested s v).rest

theorem State.wakeRequest_rest (s : State) (ign : Bool) : (s.wakeRequest ign).pwr.rest = s.pwr.rest := by
  unfold State.wakeRequest
  split
  · exact s.powerRequest_rest _
  · rfl

end Sys2Proof.Machine
end

section
/-! SUPPORT. Root registers as the power chapter reads and writes them (R75), and a wake Root accepts (R480). -/

namespace Sys2Proof.Machine

/-! ### Fields of a Root register -/

theorem State.rootRd_congr {s t : State} {f : Fld} (h : t.rootReg f.addr = s.rootReg f.addr) : t.rootRd f = s.rootRd f := by
  unfold State.rootRd
  rw [h]

theorem State.rootReg_congr {s t : State} (hcode : t.code = s.code) (hrev : t.hwrev = s.hwrev) (h : t.rootRegs = s.rootRegs) (k : Nat) :
    t.rootReg k = s.rootReg k := by
  unfold State.rootReg
  rw [hcode, hrev, h]

theorem State.rootRd_rootWr_same (s : State) (f : Fld) (v : Nat) (h : f.hi < 32) : (s.rootWr f v).rootRd f = v % 2 ^ (f.hi + 1 - f.lo) := by
  unfold State.rootRd State.rootWr
  rw [State.setRoot_rootReg_same, getBits_setBits_same h]

theorem State.rootRd_rootWr_other (s : State) {f g : Fld} (v : Nat) (h : g.addr ≠ f.addr) : (s.rootWr f v).rootRd g = s.rootRd g :=
  State.rootRd_congr (s.setRoot_rootReg_other _ h)

theorem State.rootRd_setRoot_other (s : State) {f : Fld} {k : Nat} (w : W32) (h : f.addr ≠ k) : (s.setRoot k w).rootRd f = s.rootRd f :=
  State.rootRd_congr (s.setRoot_rootReg_other _ h)

theorem State.rootRd_rootWr_apart (s : State) {f g : Fld} (v : Nat) (h : f.apart g = true) : (s.rootWr f v).rootRd g = s.rootRd g := by
  by_cases haddr : g.addr = f.addr
  · simp only [Fld.apart, Bool.and_eq_true, Bool.or_eq_true, Nat.blt_eq] at h
    unfold State.rootRd State.rootWr
    rw [haddr, State.setRoot_rootReg_same, getBits_setBits_other (Fld.hi_lt h.1.1) (Fld.hi_lt h.1.2) h.2]
  · exact s.rootRd_rootWr_other _ haddr

/-- A Root register where the power chapter alone may have changed the power state. -/
theorem State.PowerTo.rootReg {W : List Fld} {s t : State} (h : State.PowerTo W s t) (k : Nat) : t.rootReg k = s.rootReg k :=
  State.rootReg_congr (h.part State.code fun _ _ _ => rfl) (h.part State.hwrev fun _ _ _ => rfl) (h.part State.rootRegs fun _ _ _ => rfl) k

theorem State.PowerTo.rootRd {W : List Fld} {s t : State} (h : State.PowerTo W s t) (f : Fld) : t.rootRd f = s.rootRd f :=
  State.rootRd_congr (h.rootReg _)

theorem State.SysTo.rootReg {s t : State} (h : State.SysTo s t) (k : Nat) : t.rootReg k = s.rootReg k :=
  State.rootReg_congr (h.part State.code fun _ _ => rfl) (h.part State.hwrev fun _ _ => rfl) (h.part State.rootRegs fun _ _ => rfl) k

theorem State.SysTo.rootRd {s t : State} (h : State.SysTo s t) (f : Fld) : t.rootRd f = s.rootRd f := State.rootRd_congr (h.rootReg _)

/-! ### A wake (R480) -/

/-- A wake latched. -/
def State.wakeLatched (s : State) (src : Nat) : State := s.rootWr F.RTD_WAKESTAT_SRC (s.rootRd F.RTD_WAKESTAT_SRC ||| 2 ^ src)

theorem State.wakeAccept_eq (s : State) (src : Nat) : s.wakeAccept src =
    if s.pwr.st = 1 ∧ s.wakeOn src = true then
      if s.pwr.step = 0 then ((s.wakeLatched src).setPwr { s.pwr with early := [] }).pwrEnter 0x01 else s.wakeLatched src
    else s := rfl

/-- What accepting a latched wake does. -/
theorem State.PowerTo.wakeStarted (s : State) (src : Nat) :
    State.PowerTo enterFields (s.wakeLatched src) (((s.wakeLatched src).setPwr { s.pwr with early := [] }).pwrEnter 0x01) :=
  (State.PowerTo.setPwr (s.wakeLatched src) (p := { s.pwr with early := [] }) rfl).trans (.pwrEnter (fun _ h => h) _ _)

theorem State.wakeAccept_rest (s : State) (src : Nat) : (s.wakeAccept src).pwr.rest = s.pwr.rest := by
  rw [State.wakeAccept_eq]
  split
  · split
    · exact (State.PowerTo.wakeStarted s src).rest
    · rfl
  · rfl

/-- A wake during Bed's run or in Root-armed keeps the CAN wakes noted. -/
theorem execSelectiveWake_notes (s : State) (c id : Nat) (w1 w2 : W32) (hroot : s.rootOn = true)
    (hfind : s.pwr.wuf.find? (fun w => decide (w.1 = c)) = some (c, w1, w2)) (h31 : bitAt id 31 = bitAt w1.toNat 31)
    (hmask : id % 2 ^ 29 &&& w2.toNat % 2 ^ 29 = w1.toNat % 2 ^ 29 &&& w2.toNat % 2 ^ 29) :
    Completes (.selectiveWake c (some id)) s (fun t => t.pwr.canWake = s.pwr.canWake ++ [(c, 0)]) := by
  have heq : exec (.selectiveWake c (some id)) s = .next (let t := s.setPwr { s.pwr with canWake := s.pwr.canWake ++ [(c, 0)] }
      if t.pwr.st = 1 then t.wakeAccept (4 + c) else if t.wakeOn (4 + c) then t.wakeRequest false else t) := by
    show execSelectiveWake c (some id) s = _
    unfold execSelectiveWake
    rw [hfind]
    dsimp only
    rw [h31, hmask, if_neg (by simp [hroot])]
    rfl
  refine ⟨_, heq, ?_⟩
  extract_lets _ t
  have ht : t.pwr.rest.canWake = s.pwr.canWake ++ [(c, 0)] := rfl
  clear_value t
  rw [← ht]
  split
  · have h := congrArg Pwr.canWake (t.wakeAccept_rest (4 + c))
    exact h
  · split
    · have h := congrArg Pwr.canWake (t.wakeRequest_rest false)
      exact h
    · rfl

/-- Settles O36: every clause by the lemma that says what its command does. -/
theorem canControlCommandsComplete : Obligations.CanControlCommandsComplete := by
  unfold Obligations.CanControlCommandsComplete
  exact ⟨execCanEnable_enables, execCanDisable_disables, execCanModeWrite_moves, execBusRateDetect_takes, execDetectTimeout_fails,
    execAcceptanceTableCopy_copies, execAddressClaim_claims, execClaimHoldoffExpiry_holds, execClaimContest_decides,
    execClaimBackoffExpiry_goesOn, execClaimRequest_answers, execPartnerTimeout_loses, execPartnerClear_clears, execSelectiveWake_notes⟩

end Sys2Proof.Machine
end

section
/-! SUPPORT. Requests, wakes and the sleep agreement (R473, R478, R480-R483): what each of their commands shows. -/

namespace Sys2Proof.Machine

/-! ### Where the module stands -/

theorem State.pwrEnter_step (s : State) {n : Nat} (h : n ≠ 0x12) : (s.pwrEnter n).pwr.step = n := by
  rw [State.pwr_step, State.pwrEnter_still]
  exact if_neg h

theorem State.setStep_step (s : State) (n : Nat) : (s.setStep n).pwr.step = n := by rw [State.pwr_step, State.setStep_still]

theorem State.logStep_step (s : State) (n ms : Nat) : (s.logStep n ms).pwr.step = s.pwr.step := by
  unfold State.logStep
  split <;> rfl

/-- The last step of the grace time is the first of the rails' way down. -/
theorem State.graceEnds_step (s : State) (h : s.pwr.step = 0x13) : s.graceEnds.pwr.step = 0x14 := by
  unfold State.graceEnds
  rw [if_pos h]
  exact State.pwrEnter_step _ (by decide)

theorem State.kick_of_step {s : State} (h : s.pwr.step ≠ 0) : s.kick = s := if_pos (.inr (.inl h))

/-! ### A write of SYS_PWRREQ (R473, R478) -/

/-- A write of SYS_PWRREQ before its TARGET is asked for. -/
def State.pwrreqNoted (s : State) (v : W32) : State :=
  (s.applyWrite Reg.SYS_PWRREQ v).setPwr { (s.applyWrite Reg.SYS_PWRREQ v).pwr with
    ignBar := some (s.applyWrite Reg.SYS_PWRREQ v).now, failed := false, retries := 0, retryAt := none }

theorem State.pwrreqWrite_eq {s : State} {v : W32} (a : Agent) (h : listedAt Reg.SYS_PWRREQ v = true) : s.pwrreqWrite a v =
    if getBits v 31 31 = 1 ∧ ((s.pwrreqNoted v).powerRequest (getBits v 1 0)).carrier = some a then
      ((s.pwrreqNoted v).powerRequest (getBits v 1 0)).graceEnds else (s.pwrreqNoted v).powerRequest (getBits v 1 0) := by
  unfold State.pwrreqWrite
  rw [if_neg (by rw [h]; exact Bool.noConfusion)]
  rfl

theorem State.powerRequest_resp (s : State) (v : Nat) : (s.powerRequest v).resp = s.resp :=
  (State.PowerTo.requested s v).part State.resp fun _ _ _ => rfl

theorem State.PowerTo.resp {W : List Fld} {s t : State} (h : State.PowerTo W s t) : t.resp = s.resp := h.part State.resp fun _ _ _ => rfl

theorem State.pwrreqNoted_resp (s : State) (v : W32) : (s.pwrreqNoted v).resp = s.resp := State.applyWrite_resp s _ v

theorem enterFields_self : ∀ g ∈ enterFields, g ∈ enterFields := fun _ h => h

/-- Whether GO ends the grace time or not, the request is answered and TARGET stands. -/
theorem State.pwrreqWrite_shows {s : State} {v : W32} (a : Agent) (h : listedAt Reg.SYS_PWRREQ v = true) :
    (s.pwrreqWrite a v).resp = s.resp ∧ (s.pwrreqWrite a v).rd F.SYS_PWRSTATE_TARGET = v.toNat % 4 := by
  have hv : getBits v 1 0 = v.toNat % 4 := rfl
  have ht := (s.pwrreqNoted v).powerRequest_target (v := getBits v 1 0) (by rw [hv]; exact Nat.mod_lt _ (by decide))
  have hr := ((s.pwrreqNoted v).powerRequest_resp (getBits v 1 0)).trans (s.pwrreqNoted_resp v)
  rw [State.pwrreqWrite_eq a h]
  split
  · have hg := State.PowerTo.graceEnds enterFields_self ((s.pwrreqNoted v).powerRequest (getBits v 1 0))
    exact ⟨hg.resp.trans hr, (hg.rd _ (by decide)).trans ht⟩
  · exact ⟨hr, ht⟩

theorem execPwrreqTarget_asks (s : State) (ag : Agent) (v : W32) (hacc : s.accepts ag 0x00 0x018 = true) (hlist : listedAt Reg.SYS_PWRREQ v = true) :
    Completes (.pwrreqTarget ag v) s (fun t => t.resp = .done ∧ t.rd F.SYS_PWRSTATE_TARGET = v.toNat % 4) :=
  ⟨_, congrArg Host.Outcome.next (State.gate_accepts _ hacc), State.pwrreqWrite_shows ag hlist⟩

/-! ### GO (R478) -/

theorem State.sleepBroken_grace {s : State} (h : s.pwr.step = 0x13) : s.sleepBroken = s := by
  unfold State.sleepBroken State.lateStep
  rw [h]
  simp

theorem State.steer_grace {s : State} (h : s.pwr.step = 0x13) (ht : s.target ≠ 2) : s.steer = s ∨ s.steer = (s.setTurn none).reversed := by
  unfold State.steer
  dsimp only
  rw [h, if_neg (by decide), if_neg (by decide), if_neg (by decide), if_neg (by decide), if_pos (by decide), if_neg (by simp [ht])]
  split
  · exact .inr rfl
  · exact .inl rfl

theorem State.reversed_step (s : State) : s.reversed.pwr.step = s.pwr.step := by
  unfold State.reversed
  split <;> rfl

theorem State.reversed_rd (s : State) {f : Fld} (h : f.addr ≠ Reg.SYS_STAT) (h' : f.addr ≠ Reg.SYS_PWRSTATE) : s.reversed.rd f = s.rd f := by
  unfold State.reversed
  split
  · exact (State.rd_wr_other _ _ h').trans (s.rd_wr_other _ h)
  · rfl

theorem State.carrier_congr {s t : State} (h : t.rd F.HLT_ROLE_CARRY = s.rd F.HLT_ROLE_CARRY) : t.carrier = s.carrier := by
  unfold State.carrier
  rw [h]

/-- A request for another state than Field leaves the grace time running. -/
theorem State.powerRequest_grace {s : State} {v : Nat} (h : s.pwr.step = 0x13) (hv : v < 4) (h2 : v ≠ 2) :
    (s.powerRequest v).pwr.step = 0x13 ∧ (s.powerRequest v).carrier = s.carrier := by
  have htarget : (s.wr F.SYS_PWRSTATE_TARGET v).target = v := (s.rd_wr_same _ v (by decide)).trans (Nat.mod_eq_of_lt hv)
  have hcarry : (s.wr F.SYS_PWRSTATE_TARGET v).carrier = s.carrier := State.carrier_congr (s.rd_wr_other _ (by decide))
  have heq : s.powerRequest v = (s.wr F.SYS_PWRSTATE_TARGET v).steer.kick := by
    unfold State.powerRequest
    dsimp only
    rw [State.sleepBroken_grace (show (s.wr F.SYS_PWRSTATE_TARGET v).pwr.step = 0x13 from h), ite_self]
  rw [heq]
  obtain e | e := State.steer_grace (s := s.wr F.SYS_PWRSTATE_TARGET v) h (by rw [htarget]; exact h2)
  · rw [e, State.kick_of_step (by rw [show (s.wr F.SYS_PWRSTATE_TARGET v).pwr.step = 0x13 from h]; decide)]
    exact ⟨h, hcarry⟩
  · have hstep : (((s.wr F.SYS_PWRSTATE_TARGET v).setTurn none).reversed).pwr.step = 0x13 := (State.reversed_step _).trans h
    rw [e, State.kick_of_step (by rw [hstep]; decide)]
    exact ⟨hstep, (State.carrier_congr (State.reversed_rd _ (by decide) (by decide))).trans hcarry⟩

theorem State.pwrreqNoted_step (s : State) (v : W32) : (s.pwrreqNoted v).pwr.step = s.pwr.step :=
  congrArg Still.step (State.applyWrite_still s Reg.SYS_PWRREQ v)

theorem State.pwrreqNoted_carrier (s : State) (v : W32) : (s.pwrreqNoted v).carrier = s.carrier :=
  State.carrier_congr (State.rd_congr (s.applyWrite_reg_other v (by decide)))

theorem execPwrreqGo_ends (s : State) (ag : Agent) (v : W32) (hacc : s.accepts ag 0x00 0x018 = true)
    (hlist : listedAt Reg.SYS_PWRREQ (setBits v 31 31 1) = true) (hcar : s.carrier = some ag) (hstep : s.pwr.step = 19) (h2 : v.toNat % 4 ≠ 2) :
    Completes (.pwrreqGo ag v) s (fun t => t.resp = .done ∧ t.pwr.step = 20 ∧ t.rd F.SYS_PWRSTATE_TARGET = v.toNat % 4) := by
  refine ⟨_, congrArg Host.Outcome.next (State.gate_accepts _ hacc), ?_⟩
  have hv : getBits (setBits v 31 31 1) 1 0 = v.toNat % 4 := getBits_setBits_other (by decide) (by decide) (.inr (by decide)) v 1
  obtain ⟨hresp, htarget⟩ := State.pwrreqWrite_shows (s := s.done) ag hlist
  obtain ⟨hgrace, hcarry⟩ := State.powerRequest_grace (s := s.done.pwrreqNoted (setBits v 31 31 1)) (v := getBits (setBits v 31 31 1) 1 0)
    ((State.pwrreqNoted_step _ _).trans hstep) (by rw [hv]; exact Nat.mod_lt _ (by decide)) (by rw [hv]; exact h2)
  refine ⟨hresp, ?_, htarget.trans hv⟩
  rw [State.pwrreqWrite_eq ag hlist, if_pos ⟨getBits_setBits_same (by decide) v 1, hcarry.trans ((State.pwrreqNoted_carrier _ _).trans hcar)⟩]
  exact State.graceEnds_step _ hgrace

/-! ### Ignition (R473) -/

theorem State.wakeLevel_rootRd (s : State) {f : Fld} (b : Bool) (h : f.hi = f.lo) (hf : f.hi < 32) : (s.wakeLevel f b).rootRd f = if b then 1 else 0 := by
  refine (s.rootRd_rootWr_same f _ hf).trans ?_
  rw [h, Nat.add_sub_cancel_left]
  cases b <;> rfl

theorem State.wakeAccept_rootRd (s : State) (src : Nat) {f : Fld} (h : f.addr ≠ Reg.RTD_WAKESTAT) : (s.wakeAccept src).rootRd f = s.rootRd f := by
  rw [State.wakeAccept_eq]
  split
  · split
    · exact ((State.PowerTo.wakeStarted s src).rootRd f).trans (s.rootRd_rootWr_other _ h)
    · exact s.rootRd_rootWr_other _ h
  · rfl

theorem State.powerRequest_rootRd (s : State) (v : Nat) (f : Fld) : (s.powerRequest v).rootRd f = s.rootRd f := (State.PowerTo.requested s v).rootRd f

theorem State.wakeRequest_rootRd (s : State) (ign : Bool) (f : Fld) : (s.wakeRequest ign).rootRd f = s.rootRd f := by
  unfold State.wakeRequest
  split
  · exact s.powerRequest_rootRd _ f
  · rfl

/-- Ignition noted while Bed runs. -/
def State.ignNoted (s : State) : State := (s.wakeLevel F.RTD_WAKELVL_IGN true).setPwr { s.pwr with ignBar := some s.now }

theorem execIgnitionRise_asks (s : State) (hroot : s.rootOn = true) :
    Completes (.ignitionRise) s (fun t => t.rootRd F.RTD_WAKELVL_IGN = 1 ∧ (s.bedOn = true → s.on F.SYS_PWRCFG_AUTO = true → t.rd F.SYS_PWRSTATE_TARGET = 2)) := by
  have hlevel : (s.wakeLevel F.RTD_WAKELVL_IGN true).rootRd F.RTD_WAKELVL_IGN = 1 := s.wakeLevel_rootRd true rfl (by decide)
  refine ⟨_, congrArg Host.Outcome.next (if_neg (by rw [hroot]; exact Bool.noConfusion)), ?_⟩
  show (if s.bedOn = false then (if s.pwr.st = 1 then (s.wakeLevel F.RTD_WAKELVL_IGN true).wakeAccept 1 else s.wakeLevel F.RTD_WAKELVL_IGN true)
    else if s.on F.SYS_PWRCFG_AUTO then s.ignNoted.powerRequest 2 else s.ignNoted.wakeRequest true).rootRd F.RTD_WAKELVL_IGN = 1 ∧ (_ → _ →
    (if s.bedOn = false then (if s.pwr.st = 1 then (s.wakeLevel F.RTD_WAKELVL_IGN true).wakeAccept 1 else s.wakeLevel F.RTD_WAKELVL_IGN true)
    else if s.on F.SYS_PWRCFG_AUTO then s.ignNoted.powerRequest 2 else s.ignNoted.wakeRequest true).rd F.SYS_PWRSTATE_TARGET = 2)
  refine ⟨?_, fun hbed hauto => ?_⟩
  · split
    · split
      · exact (State.wakeAccept_rootRd _ 1 (by decide)).trans hlevel
      · exact hlevel
    · split
      · exact (State.powerRequest_rootRd _ 2 _).trans hlevel
      · exact (State.wakeRequest_rootRd _ true _).trans hlevel
  · rw [if_neg (by rw [hbed]; exact Bool.noConfusion), if_pos hauto]
    exact State.powerRequest_target _ (by decide)

theorem execIgnitionOffTimeout_asks (s : State) (since : Nat) (hbed : s.bedOn = true) (hreset : s.pwr.reset = false) (hauto : s.on F.SYS_PWRCFG_AUTO = true)
    (hbar : s.pwr.ignBar.all (fun b => decide (b < since)) = true) (hbu6 : s.pwr.bu6At ≤ since) (hoff : since + s.rd F.SYS_PWRCFG_IGNOFF * 1000000000 ≤ s.now) :
    Completes (.ignitionOffTimeout since) s (fun t => t.rootRd F.RTD_WAKELVL_IGN = 0 ∧ t.rd F.SYS_PWRSTATE_TARGET = 0) := by
  have hlevel : (s.wakeLevel F.RTD_WAKELVL_IGN false).rootRd F.RTD_WAKELVL_IGN = 0 := s.wakeLevel_rootRd false rfl (by decide)
  have heq : exec (.ignitionOffTimeout since) s =
      .next (((s.wakeLevel F.RTD_WAKELVL_IGN false).setPwr { s.pwr with ignBar := some since }).powerRequest 0) := by
    show execIgnitionOffTimeout since s = _
    unfold execIgnitionOffTimeout
    have hbarred : (match (s.wakeLevel F.RTD_WAKELVL_IGN false).pwr.ignBar with
        | some b => decide (since ≤ b)
        | none => false) = false := by
      show (match s.pwr.ignBar with | some b => decide (since ≤ b) | none => false) = false
      cases hb : s.pwr.ignBar with
      | none => rfl
      | some b =>
        rw [hb] at hbar
        have : b < since := of_decide_eq_true hbar
        exact decide_eq_false (by omega)
    dsimp only
    rw [if_neg (by rw [hbed, hreset]; simp only [Bool.true_eq_false, Bool.false_eq_true, false_or]; omega), if_pos ⟨hauto, hbarred, hbu6, hoff⟩]
    rfl
  exact ⟨_, heq, (State.powerRequest_rootRd _ 0 _).trans hlevel, State.powerRequest_target _ (by decide)⟩

end Sys2Proof.Machine
end

section
/-! SUPPORT. Wakes in Root-armed and the sleep agreement (R480-R483). -/

namespace Sys2Proof.Machine

/-! ### Wakes (R480) -/

/-- A wake accepted in Root-armed is latched, and starts Bed up where no step runs. -/
theorem State.wakeAccept_starts {s : State} {src : Nat} (hst : s.pwr.st = 1) (hon : s.wakeOn src = true) :
    (s.wakeAccept src).rootRd F.RTD_WAKESTAT_SRC = (s.rootRd F.RTD_WAKESTAT_SRC ||| 2 ^ src) % 2 ^ 8 ∧ (s.pwr.step = 0 → (s.wakeAccept src).pwr.step = 1) := by
  have hsrc : (s.wakeLatched src).rootRd F.RTD_WAKESTAT_SRC = (s.rootRd F.RTD_WAKESTAT_SRC ||| 2 ^ src) % 2 ^ 8 := s.rootRd_rootWr_same _ _ (by decide)
  rw [State.wakeAccept_eq, if_pos ⟨hst, hon⟩]
  refine ⟨?_, fun h => ?_⟩
  · split
    · exact ((State.PowerTo.wakeStarted s src).rootRd _).trans hsrc
    · exact hsrc
  · rw [if_pos h]
    exact State.pwrEnter_step _ (by decide)

theorem bitAt_or_two_pow {n src : Nat} (h : src < 8) : bitAt ((n ||| 2 ^ src) % 2 ^ 8) src = true := by
  unfold bitAt
  rw [Nat.testBit_mod_two_pow, Nat.testBit_or, Nat.testBit_two_pow_self]
  simp [h]

theorem execWake_accepts (s : State) (src : Nat) (hroot : s.rootOn = true) (hsrc : src < 8) (hst : s.pwr.st = 1) (hon : s.wakeOn src = true) :
    Completes (.wake src) s (fun t => bitAt (t.rootRd F.RTD_WAKESTAT_SRC) src = true ∧ (s.pwr.step = 0 → t.pwr.step = 1)) := by
  have heq : exec (.wake src) s = .next (s.wakeAccept src) :=
    congrArg Host.Outcome.next ((if_neg (by rw [hroot]; simp only [Bool.true_eq_false, false_or]; omega)).trans (if_pos hst))
  obtain ⟨h, hstep⟩ := State.wakeAccept_starts hst hon
  refine ⟨_, heq, ?_, hstep⟩
  rw [h]
  exact bitAt_or_two_pow hsrc

/-- The wake timer off. -/
def State.timerOff (s : State) : State := (s.setPwr { s.pwr with wEnd := none }).rootWr F.RTD_WTIMER_SEC 0

theorem execWakeTimerExpiry_wakes (s : State) (e : Nat) (hroot : s.rootOn = true) (hend : s.pwr.wEnd = some e) (hle : e ≤ s.pwr.root) :
    Completes (.wakeTimerExpiry) s (fun t => t.pwr.wEnd = none ∧ t.rootRd F.RTD_WTIMER_SEC = 0 ∧ (s.pwr.st = 1 → s.wakeOn 7 = true → s.pwr.step = 0 → t.pwr.step = 1)) := by
  have heq : exec (.wakeTimerExpiry) s = .next (if s.timerOff.pwr.st = 1 then s.timerOff.wakeAccept 7
      else if s.timerOff.wakeOn 7 then s.timerOff.wakeRequest false else s.timerOff) := by
    show execWakeTimerExpiry s = _
    unfold execWakeTimerExpiry
    rw [hend]
    dsimp only
    rw [if_pos ⟨hroot, hle⟩]
    rfl
  have hsec : s.timerOff.rootRd F.RTD_WTIMER_SEC = 0 := State.rootRd_rootWr_same _ _ 0 (by decide)
  have hwend : s.timerOff.pwr.rest.wEnd = none := rfl
  have hon : s.timerOff.wakeOn 7 = s.wakeOn 7 := congrArg (fun x => bitAt x 7) (State.rootRd_rootWr_other _ 0 (by decide))
  refine ⟨_, heq, ?_⟩
  dsimp only
  refine ⟨?_, ?_, fun hst hon' hstep => ?_⟩
  · have hwake {x : State} (h : x.pwr.rest = s.timerOff.pwr.rest) : x.pwr.wEnd = none := (congrArg Pwr.wEnd h).trans hwend
    split
    · exact hwake (State.wakeAccept_rest _ 7)
    · split
      · exact hwake (State.wakeRequest_rest _ false)
      · exact hwake rfl
  · split
    · exact (State.wakeAccept_rootRd _ 7 (by decide)).trans hsec
    · split
      · exact (State.wakeRequest_rootRd _ false _).trans hsec
      · exact hsec
  · rw [if_pos (show s.timerOff.pwr.st = 1 from hst)]
    exact (State.wakeAccept_starts (s := s.timerOff) hst (hon.trans hon')).2 hstep

/-- The level field of wake input `n`, and its edge field. -/
def wakeLevelOf (n : Nat) : Fld := if n = 1 then F.RTD_WAKELVL_WAKE1 else F.RTD_WAKELVL_WAKE2
def wakeEdgeOf (n : Nat) : Fld := if n = 1 then F.RTD_WAKECFG_W1EDGE else F.RTD_WAKECFG_W2EDGE

theorem wakeLevelOf_addr (n : Nat) : (wakeLevelOf n).addr = Reg.RTD_WAKELVL := by
  unfold wakeLevelOf
  split <;> rfl

theorem wakeEdgeOf_addr (n : Nat) : (wakeEdgeOf n).addr = Reg.RTD_WAKECFG := by
  unfold wakeEdgeOf
  split <;> rfl

theorem wakeLevelOf_bit (n : Nat) : (wakeLevelOf n).hi = (wakeLevelOf n).lo ∧ (wakeLevelOf n).hi < 32 := by
  unfold wakeLevelOf
  split <;> decide

theorem execWakeInputEdge_wakes (s : State) (n : Nat) (rising : Bool) (hroot : s.rootOn = true) (hn : n = 1 ∨ n = 2) :
    Completes (.wakeInputEdge n rising) s (fun t => t.rootRd (if n = 1 then F.RTD_WAKELVL_WAKE1 else F.RTD_WAKELVL_WAKE2) = (if rising = true then 1 else 0) ∧
      (s.pwr.st = 1 → s.pwr.step = 0 → s.wakeOn (n + 1) = true → s.rootRd (if n = 1 then F.RTD_WAKECFG_W1EDGE else F.RTD_WAKECFG_W2EDGE) = 2 → t.pwr.step = 1)) := by
  have heq : exec (.wakeInputEdge n rising) s = .next (let t := s.wakeLevel (wakeLevelOf n) rising
      if (t.rootRd (wakeEdgeOf n) = 0 ∧ rising = false) ∨ (t.rootRd (wakeEdgeOf n) = 1 ∧ rising = true) ∨ t.wakeOn (n + 1) = false then t
      else if t.pwr.st = 1 then t.wakeAccept (n + 1) else t.wakeRequest false) :=
    congrArg Host.Outcome.next (if_neg (by rw [hroot]; simp only [Bool.true_eq_false, false_or]; omega))
  refine ⟨_, heq, ?_⟩
  show State.rootRd _ (wakeLevelOf n) = _ ∧ (_ → _ → _ → s.rootRd (wakeEdgeOf n) = 2 → _)
  extract_lets t
  have hlevel : t.rootRd (wakeLevelOf n) = if rising then 1 else 0 := s.wakeLevel_rootRd rising (wakeLevelOf_bit n).1 (wakeLevelOf_bit n).2
  have hcfg {f : Fld} (hf : f.addr = Reg.RTD_WAKECFG) : t.rootRd f = s.rootRd f :=
    s.rootRd_rootWr_other _ (by rw [hf, wakeLevelOf_addr]; decide)
  have hon : t.wakeOn (n + 1) = s.wakeOn (n + 1) := congrArg (fun x => bitAt x (n + 1)) (hcfg rfl)
  have hst : t.pwr = s.pwr := rfl
  clear_value t
  refine ⟨?_, fun h1 h0 hwake hedge => ?_⟩
  · split
    · exact hlevel
    · split
      · exact (State.wakeAccept_rootRd _ _ (by rw [wakeLevelOf_addr]; decide)).trans hlevel
      · exact (State.wakeRequest_rootRd _ false _).trans hlevel
  · rw [hcfg (wakeEdgeOf_addr n), hedge, hon, hwake, if_neg (by simp), if_pos (by rw [hst]; exact h1)]
    exact (State.wakeAccept_starts (by rw [hst]; exact h1) (hon.trans hwake)).2 (by rw [hst]; exact h0)

/-! ### The way to sleep (R481) -/

theorem State.sleepReq_rd (s : State) {f : Fld} (hf : f.addr < 0x1000) : s.sleepReq.rd f = s.rd f := (State.SysTo.sendMgmt s _ _).rd hf

/-- The sleep agreement's own state as it starts. -/
def State.sleepBegun (s : State) : State := s.setPwr { s.pwr with parts := s.sleepers, holdAt := s.now, sent := 0 }

theorem State.startSleep_eq (s : State) : s.startSleep = if s.sleepers.isEmpty then s.sleepBegun.pwrEnter 0x07
    else ((s.sleepBegun.pwrEnter 0x18).wr F.SYS_SLEEPSTAT_PHASE 1).sleepReq := rfl

theorem State.cdownShown_pwr (s : State) : s.cdownShown.pwr = s.pwr := by
  unfold State.cdownShown
  split <;> rfl

/-- Entering a step changes the step, its instant and what it turns to. -/
theorem State.pwrEnter_parts (s : State) (n : Nat) : (s.pwrEnter n).pwr.parts = s.pwr.parts ∧ (s.pwrEnter n).pwr.sent = s.pwr.sent ∧
    (s.pwrEnter n).pwr.retries = s.pwr.retries := by
  have hset (x : State) (m : Nat) : (x.setStep m).pwr = { x.pwr with step := m, stepAt := x.now } := by
    unfold State.setStep
    dsimp only
    split <;> rfl
  have hlog (x : State) (m ms : Nat) : (x.logStep m ms).pwr.parts = x.pwr.parts ∧ (x.logStep m ms).pwr.sent = x.pwr.sent ∧
      (x.logStep m ms).pwr.retries = x.pwr.retries := by
    unfold State.logStep
    split <;> exact ⟨rfl, rfl, rfl⟩
  unfold State.pwrEnter
  extract_lets t
  have ht : t.pwr.parts = s.pwr.parts ∧ t.pwr.sent = s.pwr.sent ∧ t.pwr.retries = s.pwr.retries := by
    show (s.setStep n).pwr.parts = _ ∧ (s.setStep n).pwr.sent = _ ∧ (s.setStep n).pwr.retries = _
    rw [hset]
    exact ⟨rfl, rfl, rfl⟩
  rw [← ht.1, ← ht.2.1, ← ht.2.2]
  clear_value t
  split
  case h_1 => rw [(State.SysTo.requestSafe _).pwr]; exact ⟨rfl, rfl, rfl⟩
  case h_2 => rw [(State.SysTo.panelRequest _ _).pwr]; exact ⟨rfl, rfl, rfl⟩
  case h_3 => exact ⟨rfl, rfl, rfl⟩
  case h_4 => exact ⟨rfl, rfl, rfl⟩
  case h_5 =>
    show ((t.cdownShown.logStep 0x12 0).setStep 0x13).pwr.parts = _ ∧ ((t.cdownShown.logStep 0x12 0).setStep 0x13).pwr.sent = _ ∧
      ((t.cdownShown.logStep 0x12 0).setStep 0x13).pwr.retries = _
    rw [hset, ← t.cdownShown_pwr]
    exact hlog _ _ _
  case h_6 => rw [(State.SysTo.terStop _).pwr]; exact ⟨rfl, rfl, rfl⟩
  case h_7 => exact ⟨rfl, rfl, rfl⟩

/-- TARGET SLEEP in the Doze state starts the way to sleep. -/
theorem State.kick_sleeps {s : State} (hbed : s.bedOn = true) (hst : s.pwr.st = 2) (hstep : s.pwr.step = 0) (hdue : s.pwr.tableDue = false)
    (ht : s.target = 0) : s.kick = s.startSleep := by
  unfold State.kick
  rw [if_neg (by rw [hbed, hstep, hdue]; simp), if_pos hst, if_neg (by rw [ht]; decide), if_pos ht]

theorem execSleepHold_starts (s : State) (hbed : s.bedOn = true) (hst : s.pwr.st = 2) (hstep : s.pwr.step = 0) (hdue : s.pwr.tableDue = false)
    (ht : s.target = 0) : Completes (.sleepHold) s (fun t => t.pwr.step = (if s.sleepers.isEmpty = true then 7 else 0x18) ∧ t.pwr.parts = s.sleepers ∧
      (s.sleepers.isEmpty = false → t.rd F.SYS_SLEEPSTAT_PHASE = 1)) := by
  have heq : exec (.sleepHold) s = .next s.startSleep := by
    show execSleepHold s = _
    unfold execSleepHold
    rw [if_neg (by rw [hbed]; exact Bool.noConfusion), if_neg (by rw [hstep]; decide), if_pos ⟨hst, hstep, ht⟩, State.kick_sleeps hbed hst hstep hdue ht]
  refine ⟨_, heq, ?_⟩
  dsimp only
  rw [State.startSleep_eq]
  split
  · next hempty => exact ⟨State.pwrEnter_step _ (by decide), (State.pwrEnter_parts _ _).1, fun h => absurd hempty (by rw [h]; exact Bool.noConfusion)⟩
  · exact ⟨State.pwrEnter_step s.sleepBegun (n := 0x18) (by decide), (State.pwrEnter_parts s.sleepBegun 0x18).1,
      fun _ => (State.sleepReq_rd _ (by decide)).trans (State.rd_wr_same _ _ 1 (by decide))⟩

/-! ### KEEPAWAKE and the way on (R481, R482) -/

/-- KEEPAWAKE noted with its controller and its source address. -/
def State.keepNoted (s : State) (c sa : Nat) : State :=
  ((s.setCtl c { s.ctl c with keep := none }).wr F.SYS_SLEEPSTAT_KACH c).wr F.SYS_SLEEPSTAT_KASRC sa

theorem State.keepNoted_shows (s : State) (c sa : Nat) : (s.keepNoted c sa).rd F.SYS_SLEEPSTAT_KASRC = sa % 256 ∧ ((s.keepNoted c sa).ctl c).keep = none ∧
    (s.keepNoted c sa).pwr = s.pwr := by
  unfold State.keepNoted
  have hctl : ((s.setCtl c { s.ctl c with keep := none }).ctl c).keep = none := by rw [State.ctl_setCtl]
  have hpwr : (s.setCtl c { s.ctl c with keep := none }).pwr = s.pwr := rfl
  generalize s.setCtl c { s.ctl c with keep := none } = x at hctl hpwr
  exact ⟨State.rd_wr_same (x.wr F.SYS_SLEEPSTAT_KACH c) F.SYS_SLEEPSTAT_KASRC sa (by decide), by rw [State.wr_ctl, State.wr_ctl]; exact hctl, hpwr⟩

theorem State.keepNoted_now (s : State) (c sa : Nat) : (s.keepNoted c sa).now = s.now :=
  congrArg Still.now (show (s.keepNoted c sa).still = s.still by simp [State.keepNoted])

theorem State.wakeRequest_power (s : State) (ign : Bool) {f : Fld} (hf : stepFree (F.SYS_PWRSTATE_TARGET :: requestFields) f = true) (c : Nat) :
    (s.wakeRequest ign).rd f = s.rd f ∧ ((s.wakeRequest ign).ctl c).keep = (s.ctl c).keep ∧ ((s.wakeRequest ign).ctl c).wuf = (s.ctl c).wuf := by
  have h (v : Nat) : State.PowerTo (F.SYS_PWRSTATE_TARGET :: requestFields) s (s.powerRequest v) :=
    (State.PowerTo.wr s v (.head _)).trans ((State.PowerTo.requested s v).mono fun _ hg => .tail _ hg)
  unfold State.wakeRequest
  split
  · exact ⟨(h _).rd _ hf, (h _).heard c⟩
  · exact ⟨rfl, rfl, rfl⟩

/-- What KEEPAWAKE does once it is noted. -/
def State.keepActed (s : State) : State :=
  if s.pwr.step = 0x18 then s.setPwr { s.pwr with holdAt := s.now } else if s.lateStep then s.wakeRequest false else s

theorem State.keepActed_shows (s : State) (c : Nat) : s.keepActed.rd F.SYS_SLEEPSTAT_KASRC = s.rd F.SYS_SLEEPSTAT_KASRC ∧
    (s.keepActed.ctl c).keep = (s.ctl c).keep ∧ (s.pwr.step = 0x18 → s.keepActed.pwr.holdAt = s.now) := by
  have hwake := s.wakeRequest_power false (f := F.SYS_SLEEPSTAT_KASRC) (by decide) c
  unfold State.keepActed
  split
  · exact ⟨rfl, rfl, fun _ => rfl⟩
  · next h18 =>
    split
    · exact ⟨hwake.1, hwake.2.1, fun h => absurd h h18⟩
    · exact ⟨rfl, rfl, fun h => absurd h h18⟩

theorem execKeepawake_eq {s : State} {c sa : Nat} (hbed : s.bedOn = true) (hkeep : (s.ctl c).keep = some sa) :
    execKeepawake c s = .next (s.keepNoted c sa).keepActed := by
  unfold execKeepawake State.keepNoted State.keepActed
  rw [hkeep]
  dsimp only
  rw [if_neg (show ¬ s.bedOn = false by rw [hbed]; exact Bool.noConfusion)]

theorem execKeepawake_takes (s : State) (c sa : Nat) (hbed : s.bedOn = true) (hkeep : (s.ctl c).keep = some sa) :
    Completes (.keepawake c) s (fun t => t.rd F.SYS_SLEEPSTAT_KASRC = sa % 256 ∧ (t.ctl c).keep = none ∧ (s.pwr.step = 0x18 → t.pwr.holdAt = s.now)) := by
  obtain ⟨hsrc, hctl, hpwr⟩ := s.keepNoted_shows c sa
  obtain ⟨h1, h2, h3⟩ := (s.keepNoted c sa).keepActed_shows c
  exact ⟨_, execKeepawake_eq hbed hkeep, h1.trans hsrc, h2.trans hctl, fun h => (h3 (by rw [hpwr]; exact h)).trans (s.keepNoted_now c sa)⟩

/-! ### The hold window ends (R481) -/

/-- A GOSLEEP counted. -/
def State.goCounted (s : State) : State :=
  (s.sendMgmt 3 0xFFFF).setPwr { (s.sendMgmt 3 0xFFFF).pwr with sent := (s.sendMgmt 3 0xFFFF).pwr.sent + 1, reqAt := (s.sendMgmt 3 0xFFFF).now }

theorem State.goSleep_shows (s : State) : s.goSleep.pwr.sent = s.pwr.sent + 1 ∧ s.goSleep.pwr.step = if s.pwr.sent = 2 then 0x1A else s.pwr.step := by
  have heq : s.goSleep = if s.goCounted.pwr.sent = 3 then
      ((s.goCounted.logStep 0x19 ((s.goCounted.now - s.goCounted.pwr.stepAt) / 1000000)).pwrEnter 0x1A).wr F.SYS_SLEEPSTAT_PHASE 3 else s.goCounted := rfl
  have hpwr := (State.SysTo.sendMgmt s 3 0xFFFF).pwr
  have hsent : s.goCounted.pwr.sent = s.pwr.sent + 1 := by
    show (s.sendMgmt 3 0xFFFF).pwr.sent + 1 = _
    rw [hpwr]
  have hstep : s.goCounted.pwr.step = s.pwr.step := by
    show (s.sendMgmt 3 0xFFFF).pwr.step = _
    rw [hpwr]
  rw [heq, hsent]
  by_cases h : s.pwr.sent = 2
  · rw [if_pos (by rw [h]), if_pos h]
    refine ⟨?_, State.pwrEnter_step _ (by decide)⟩
    refine (State.pwrEnter_parts (s.goCounted.logStep 0x19 _) 0x1A).2.1.trans (Eq.trans ?_ hsent)
    unfold State.logStep
    split <;> rfl
  · rw [if_neg (by omega), if_neg h]
    exact ⟨hsent, hstep⟩

theorem State.logStep_parts (s : State) (n ms : Nat) : (s.logStep n ms).pwr.parts = s.pwr.parts ∧ (s.logStep n ms).pwr.sent = s.pwr.sent := by
  unfold State.logStep
  split <;> exact ⟨rfl, rfl⟩

/-- The end of the hold window. -/
def State.holdEnded (s : State) : State :=
  ((s.logStep 0x18 ((s.now - s.pwr.stepAt) / 1000000)).pwrEnter 0x19).wr F.SYS_SLEEPSTAT_PHASE 2

theorem State.holdEnded_shows (s : State) : s.holdEnded.pwr.sent = s.pwr.sent ∧ s.holdEnded.pwr.step = 0x19 :=
  ⟨(State.pwrEnter_parts (s.logStep 0x18 _) 0x19).2.1.trans (s.logStep_parts _ _).2, State.pwrEnter_step (s.logStep 0x18 _) (by decide)⟩

theorem execSleepHoldExpiry_goesOn (s : State) (hbed : s.bedOn = true)
    (h : (s.pwr.step = 0x18 ∧ s.pwr.sent = 0 ∧ s.pwr.holdAt + s.holdOff ≤ s.now) ∨ (s.pwr.step = 0x19 ∧ s.pwr.sent ≤ 2 ∧ s.pwr.reqAt + 10000000 ≤ s.now)) :
    Completes (.sleepHoldExpiry) s (fun t => t.pwr.sent = s.pwr.sent + 1 ∧ t.pwr.step = (if s.pwr.step = 0x19 ∧ s.pwr.sent = 2 then 0x1A else 0x19)) := by
  have hnot : ¬ s.bedOn = false := by rw [hbed]; exact Bool.noConfusion
  obtain ⟨hstep, hsent, hdue⟩ | ⟨hstep, -, hdue⟩ := h
  · refine ⟨s.holdEnded.goSleep, congrArg Host.Outcome.next ((if_neg hnot).trans (if_pos ⟨hstep, hdue⟩)), ?_⟩
    obtain ⟨h1, h2⟩ := s.holdEnded.goSleep_shows
    obtain ⟨hs, hst⟩ := s.holdEnded_shows
    rw [h1, h2, hs, hst, hsent, hstep]
    exact ⟨rfl, rfl⟩
  · refine ⟨s.goSleep, congrArg Host.Outcome.next ((if_neg hnot).trans ((if_neg (by rw [hstep]; omega)).trans (if_pos ⟨hstep, hdue⟩))), ?_⟩
    obtain ⟨h1, h2⟩ := s.goSleep_shows
    rw [h1, h2, hstep]
    simp only [true_and]

theorem execSleepWaitExpiry_ends (s : State) (hbed : s.bedOn = true) (hstep : s.pwr.step = 0x1A)
    (hdue : s.pwr.reqAt + s.rd F.SYS_SLEEPCFG_SBDLY * 10000000 ≤ s.now) :
    Completes (.sleepWaitExpiry) s (fun t => t.pwr.step = 7 ∧ t.rd F.SYS_SLEEPSTAT_PHASE = 4) := by
  refine ⟨_, congrArg Host.Outcome.next (if_pos ⟨hbed, hstep, hdue⟩), State.pwrEnter_step _ (by decide), ?_⟩
  exact ((State.SysTo.requestSafe _).rd (by decide)).trans (State.rd_wr_same _ _ 4 (by decide))

/-! ### A late wake (R483) -/

theorem State.lateStep_sleeping {s : State} (h : s.lateStep = true) : s.sleeping = true ∧ s.pwr.step ≠ 0x18 := by
  simp only [State.lateStep, State.sleeping, Bool.or_eq_true, Bool.and_eq_true, decide_eq_true_eq] at h ⊢
  omega

/-- A late wake as it is told. -/
theorem State.sleepBroken_late {s : State} (h : s.lateStep = true) (ht : s.pwr.turn = none) :
    s.sleepBroken.on F.SYS_STAT_SLEEPABORT = true ∧
      s.sleepBroken.rd F.SYS_SLEEPSTAT_ABORTS = min (s.rd F.SYS_SLEEPSTAT_ABORTS + 1) (maxOf F.SYS_SLEEPSTAT_ABORTS.width) := by
  unfold State.sleepBroken
  rw [ht, if_neg (show ¬ (none : Option Nat).isSome = true from Bool.noConfusion), if_neg (State.lateStep_sleeping h).2, if_pos h]
  extract_lets t u
  have hu : State.SysTo s u := (State.SysTo.sendMgmt s _ _).trans (.foldl _ (fun x c => .pendClaim x c _) _ _)
  clear_value u
  refine ⟨?_, ?_⟩
  · refine (State.on_congr (State.rd_wr_other _ _ (by decide))).trans ?_
    exact decide_eq_true (State.flag_rd_same u (stat := F.SYS_STAT_SLEEPABORT) (by decide) rfl)
  · refine (State.rd_inc_same _ (by decide)).trans ?_
    rw [State.flag_rd_other u (by decide), hu.rd (by decide)]

end Sys2Proof.Machine
end

section
/-! SUPPORT. A late wake (R483), and the requests of the power chapter together. -/

namespace Sys2Proof.Machine

/-- The wake-up frame of a controller taken note of. -/
def State.wufTaken (s : State) (c : Nat) : State := s.setCtl c { s.ctl c with wuf := false }

theorem State.wufTaken_shows (s : State) (c : Nat) : ((s.wufTaken c).ctl c).wuf = false ∧ (s.wufTaken c).still = s.still ∧ (s.wufTaken c).pwr = s.pwr ∧
    (s.wufTaken c).rd F.SYS_SLEEPSTAT_ABORTS = s.rd F.SYS_SLEEPSTAT_ABORTS := by
  unfold State.wufTaken
  refine ⟨by rw [State.ctl_setCtl], by simp, rfl, s.setCtl_rd c _ ?_⟩
  show Reg.SYS_SLEEPSTAT ≠ Reg.CAN_CHc_TXPEND c
  unfold Reg.SYS_SLEEPSTAT Reg.CAN_CHc_TXPEND
  omega

theorem State.lateStep_congr {s t : State} (h : t.pwr = s.pwr) : t.lateStep = s.lateStep := by
  unfold State.lateStep
  rw [h]

/-- A wake request after sleep was agreed abandons it. -/
theorem State.wakeRequest_late {s : State} (hbed : s.bedOn = true) (hlate : s.lateStep = true) (hturn : s.pwr.turn = none) (c : Nat) :
    ((s.wakeRequest false).ctl c).wuf = (s.ctl c).wuf ∧ (s.wakeRequest false).on F.SYS_STAT_SLEEPABORT = true ∧
      (s.wakeRequest false).rd F.SYS_PWRSTATE_TARGET = 1 ∧
      (s.wakeRequest false).rd F.SYS_SLEEPSTAT_ABORTS = min (s.rd F.SYS_SLEEPSTAT_ABORTS + 1) (maxOf F.SYS_SLEEPSTAT_ABORTS.width) := by
  have heq : s.wakeRequest false = s.powerRequest 1 := if_pos (by rw [hbed, (State.lateStep_sleeping hlate).1]; rfl)
  have hnext : State.PowerTo seqFields (s.wr F.SYS_PWRSTATE_TARGET 1).sleepBroken (s.powerRequest 1) :=
    (State.PowerTo.steer (fun _ h => h) _).trans (.kick enterFields_seq _)
  obtain ⟨habort, hcount⟩ := State.sleepBroken_late (s := s.wr F.SYS_PWRSTATE_TARGET 1) hlate hturn
  rw [heq]
  refine ⟨((State.PowerTo.requested s 1).heard c).2, (hnext.on (by decide)).trans habort, s.powerRequest_target (by decide),
    (hnext.rd _ (by decide)).trans (hcount.trans ?_)⟩
  rw [State.rd_wr_other _ _ (by decide)]

theorem execLateWake_abandons (s : State) (c : Nat) (hbed : s.bedOn = true) (hwuf : (s.ctl c).wuf = true) (hlate : s.lateStep = true)
    (hturn : s.pwr.turn = none) : Completes (.lateWake c) s (fun t => (t.ctl c).wuf = false ∧ t.on F.SYS_STAT_SLEEPABORT = true ∧
      t.rd F.SYS_PWRSTATE_TARGET = 1 ∧ t.rd F.SYS_SLEEPSTAT_ABORTS = min (s.rd F.SYS_SLEEPSTAT_ABORTS + 1) (maxOf F.SYS_SLEEPSTAT_ABORTS.width)) := by
  obtain ⟨hw, hstill, hpwr, habort⟩ := s.wufTaken_shows c
  have hl : (s.wufTaken c).lateStep = true := (State.lateStep_congr hpwr).trans hlate
  have heq : exec (.lateWake c) s = .next ((s.wufTaken c).wakeRequest false) :=
    congrArg Host.Outcome.next ((if_pos ⟨hbed, hwuf⟩).trans (if_pos hl))
  obtain ⟨h1, h2, h3, h4⟩ := State.wakeRequest_late ((congrArg Still.bedOn hstill).trans hbed) hl (by rw [hpwr]; exact hturn) c
  exact ⟨_, heq, h1.trans hw, h2, h3, by rw [h4, habort]⟩

/-- Settles O48: every clause by the lemma that says what its command does. -/
theorem powerRequestsComplete : Obligations.PowerRequestsComplete := by
  unfold Obligations.PowerRequestsComplete
  exact ⟨execPwrreqTarget_asks, execPwrreqGo_ends, execIgnitionRise_asks, execIgnitionOffTimeout_asks, execWake_accepts, execWakeTimerExpiry_wakes,
    execWakeInputEdge_wakes, execSleepHold_starts, execKeepawake_takes, execSleepHoldExpiry_goesOn, execSleepWaitExpiry_ends, execLateWake_abandons⟩

end Sys2Proof.Machine
end

section
/-! SUPPORT. The return of Bed to its reset values (R32, R42, R55, R474, R484): what it keeps. -/

namespace Sys2Proof.Machine

/-- `t` differs from `s` in registers, memory, records and interrupts alone, and of SYS at most in the registers `S`. -/
structure State.QuietTo (S : Set Nat) (s t : State) : Prop where
  eq : t = { s with regs := t.regs, irqs := t.irqs, evr := t.evr, mem := t.mem, dram := t.dram, hlt := t.hlt }
  reg : ∀ k, k < 0x1000 → k ∉ S → t.reg k = s.reg k

namespace State.QuietTo

variable {S : Set Nat} {s t u : State}

theorem refl (s : State) : QuietTo S s s := ⟨rfl, fun _ _ _ => rfl⟩

theorem trans (h : QuietTo S s t) (h' : QuietTo S t u) : QuietTo S s u :=
  ⟨h'.eq.trans ((congrArg (fun x : State => { x with regs := u.regs, irqs := u.irqs, evr := u.evr, mem := u.mem, dram := u.dram, hlt := u.hlt }) h.eq).trans rfl),
    fun k hk hS => (h'.reg k hk hS).trans (h.reg k hk hS)⟩

theorem part {α : Sort*} (h : QuietTo S s t) (U : State → α)
    (hU : ∀ (x y : State), U { x with regs := y.regs, irqs := y.irqs, evr := y.evr, mem := y.mem, dram := y.dram, hlt := y.hlt } = U x) : U t = U s :=
  (congrArg U h.eq).trans (hU s t)

theorem ite (c : Prop) [Decidable c] (h : c → QuietTo S s t) (h' : ¬ c → QuietTo S s u) : QuietTo S s (if c then t else u) := by
  split
  · exact h ‹_›
  · exact h' ‹_›

theorem foldl {α : Type*} (f : State → α → State) (h : ∀ (x : State) a, QuietTo S x (f x a)) (l : List α) (s : State) : QuietTo S s (l.foldl f s) :=
  List.foldlRecOn (motive := fun x : State => QuietTo S s x) l f (refl s) fun x hx a _ => hx.trans (h x a)

theorem wr (s : State) {f : Fld} (v : Nat) (h : 0x1000 ≤ f.addr ∨ f.addr ∈ S) : QuietTo S s (s.wr f v) :=
  ⟨rfl, fun k hk hS => s.reg_wr_other v fun e => h.elim (fun hf => absurd (e ▸ hk) (by omega)) fun hf => hS (e ▸ hf)⟩

theorem of_records (h : s.RecordsTo t) : QuietTo S s t := by
  obtain ⟨⟨r, i, e, rfl⟩, hreg⟩ := h
  exact ⟨rfl, fun k hk _ => hreg k (by omega)⟩

theorem record (s : State) (src ev sev p0 p1 p2 : Nat) : QuietTo S s (s.record src ev sev p0 p1 p2) := of_records (.record _ _ _ _ _ _ _)

theorem measured (s : State) {f g : Fld} (v : Nat) (h : f.addr ∈ S) (h' : g.addr ∈ S) : QuietTo S s (s.measured f g v) :=
  (wr s _ (.inr h)).trans (wr _ _ (.inr h'))

theorem reencode (s : State) (a n : Nat) : QuietTo S s (s.reencode a n) := by
  unfold State.reencode
  split <;> exact ⟨rfl, fun _ _ _ => rfl⟩

theorem withMem (s : State) (m : Memory) : QuietTo S s { s with mem := m } := ⟨rfl, fun _ _ _ => rfl⟩

theorem withHlt (s : State) (x : Health) : QuietTo S s { s with hlt := x } := ⟨rfl, fun _ _ _ => rfl⟩

theorem mirrorCount (s : State) (n : Fin 16) (a b : Nat) : QuietTo S s (s.mirrorCount n a b) := by
  have hn : 0x1000 ≤ Reg.HLT_MIRn_STAT n.val := by
    unfold Reg.HLT_MIRn_STAT
    omega
  exact (withHlt s _).trans (wr _ _ (.inl hn))

theorem mirror (s : State) (a n : Nat) (p : Bool) : QuietTo S s (s.mirror a n p) :=
  foldl _ (fun x _ => ((reencode x _ _).trans (withMem _ _)).trans (mirrorCount _ _ _ _)) _ _

theorem putZero (s : State) (a n : Nat) : QuietTo S s (s.putZero a n) := ((reencode s _ _).trans (withMem _ _)).trans (mirror _ _ _ _)

end State.QuietTo

/-! ### Bed at its reset values -/

/-- What of the state Bed's reset leaves as it is. -/
def State.bedApart (s : State) : Code × Nat × SMap W32 × List Latch × Resp := (s.code, s.hwrev, s.rootRegs, s.latches, s.resp)

/-- Bed's reset clears the rings and the registers it does not keep, writes registers of other blocks than SYS, and then memory. -/
theorem State.bedReset_runs (s : State) (reset : Bool) : ∃ t u : State, (t.rings = [] ∧ t.bedApart = s.bedApart ∧ t.pwr = s.pwr.fresh ∧
    t.regs = SMap.keep (fun k => !(decide (k < 0xF000) && !bedKept reset k)) s.regs) ∧ State.QuietTo ∅ t u ∧
      State.QuietTo ∅ { u with bedOn := true } (s.bedReset reset) := by
  unfold State.bedReset
  extract_lets isolated t0 hlt ics tim excl rail _ upd _ _ t1 t2 t3 t4
  refine ⟨t1, t4, ⟨rfl, rfl, rfl, rfl⟩, ?_, ?_⟩
  · have h2 : State.QuietTo ∅ t1 t2 := .foldl _ (fun x n => .wr x _ (.inl (by unfold F.HLT_DALEn_STAT_STATE Reg.HLT_DALEn_STAT; simp only; omega))) _ _
    have h3 : State.QuietTo ∅ t2 t3 := .foldl _ (fun x n => .wr x _ (.inl (by unfold F.HLT_PACEn_EXCL Reg.HLT_PACEn; simp only; omega))) _ _
    refine h2.trans (h3.trans (.ite _ (fun _ => .wr _ _ (.inl (by decide))) fun _ => .wr _ _ (.inl (by decide))))
  · exact (State.QuietTo.putZero _ _ _).trans (.of_records (.evrFillRegs _))

/-- What Bed's reset leaves and what it clears. -/
theorem State.bedReset_shows (s : State) (reset : Bool) : (s.bedReset reset).rings = [] ∧ (s.bedReset reset).bedApart = s.bedApart ∧
    (s.bedReset reset).pwr = s.pwr.fresh ∧ (reset = true → (s.bedReset reset).reg Reg.SYS_RSTCAUSE = s.reg Reg.SYS_RSTCAUSE) := by
  obtain ⟨t, u, ⟨hrings, hapart, hpwr, hregs⟩, htu, hus⟩ := s.bedReset_runs reset
  refine ⟨(hus.part State.rings fun _ _ => rfl).trans ((htu.part State.rings fun _ _ => rfl).trans hrings),
    (hus.part State.bedApart fun _ _ => rfl).trans ((htu.part State.bedApart fun _ _ => rfl).trans hapart),
    (hus.part State.pwr fun _ _ => rfl).trans ((htu.part State.pwr fun _ _ => rfl).trans hpwr), fun hr => ?_⟩
  refine (hus.reg _ (by decide) (Set.notMem_empty _)).trans ((htu.reg _ (by decide) (Set.notMem_empty _)).trans ?_)
  have hcode : t.code = s.code := congrArg (fun x : Code × Nat × SMap W32 × List Latch × Resp => x.1) hapart
  have hrev : t.hwrev = s.hwrev := congrArg (fun x : Code × Nat × SMap W32 × List Latch × Resp => x.2.1) hapart
  unfold State.reg
  rw [hcode, hrev, hregs, SMap.get_keep, if_pos (by rw [hr]; decide)]

end Sys2Proof.Machine
end

section
/-! SUPPORT. Steps of the power sequences that end (R474-R479): what follows a step, and what reaching a state shows. -/

namespace Sys2Proof.Machine

/-! ### One step of a sequence -/

theorem State.runSteps_one {s : State} {lo hi : Nat} (q : SeqIn) (ms : Nat) (h : lo ≤ s.pwr.step ∧ s.pwr.step ≤ hi) (hw : s.stepWaits = false) :
    State.runSteps lo hi q [ms] s = s.endStep q ms := by
  unfold State.runSteps
  rw [if_pos ⟨h.1, h.2, hw⟩]
  rfl

/-- A step that waits for nothing. -/
theorem State.stepWaits_free {s : State} {n : Nat} (hn : s.pwr.step = n) (h : n ≠ 0x13 ∧ n ≠ 0x0A ∧ n ≠ 8 ∧ n ≠ 0x0D ∧ n ≠ 3) : s.stepWaits = false := by
  unfold State.stepWaits
  rw [hn]
  simp [h.1, h.2.1, h.2.2.1, h.2.2.2.1, h.2.2.2.2]

/-- What follows a step where no reversal is set. -/
theorem State.following_next {s : State} (n : Nat) (h : s.pwr.turn = none) :
    s.following n = if n = 6 ∨ n = 0x17 then 0 else if n = 0x11 then 0x20 else n + 1 := by
  unfold State.following
  rw [h]

theorem State.endStep_goes {s u : State} {n ms : Nat} {q : SeqIn} {o : Option Nat} (hn : s.pwr.step = n) (h15 : n ≠ 0x15)
    (he : (s.logStep n ms).stepEffect q n ms = (u, o)) :
    s.endStep q ms = u.goStep (if o.getD (u.following n) = 5 ∧ u.bedOn = false then 3 else o.getD (u.following n)) := by
  unfold State.endStep
  rw [hn]
  dsimp only
  rw [he, if_neg h15]

/-- A step that does nothing of its own to the order of the steps is followed by the next one. -/
theorem State.endStep_next {s u : State} {n ms : Nat} {q : SeqIn} (hn : s.pwr.step = n) (h : n ≠ 4 ∧ n ≠ 6 ∧ n ≠ 0x11 ∧ n ≠ 0x15 ∧ n ≠ 0x17)
    (he : (s.logStep n ms).stepEffect q n ms = (u, none)) (hturn : u.pwr.turn = none) : s.endStep q ms = u.goStep (n + 1) := by
  obtain ⟨h4, h6, h11, h15, h17⟩ := h
  have hnext : u.following n = n + 1 := by rw [State.following_next n hturn, if_neg (by omega), if_neg h11]
  rw [State.endStep_goes hn h15 he, Option.getD_none, hnext, if_neg (by omega)]

/-! ### What a logged step leaves -/

/-- A part of the state that logging a step leaves. -/
theorem State.logStep_part {α : Sort*} (s : State) (n ms : Nat) (U : State → α) (hwr : ∀ (x : State) f v, U (x.wr f v) = U x)
    (hpwr : ∀ (x : State) l, U (x.setPwr { x.pwr with early := l }) = U x) : U (s.logStep n ms) = U s := by
  unfold State.logStep
  split
  · exact (hwr _ _ _).trans (hwr _ _ _)
  · exact hpwr s _

theorem State.logStep_turn (s : State) (n ms : Nat) : (s.logStep n ms).pwr.turn = s.pwr.turn :=
  s.logStep_part n ms (fun x => x.pwr.turn) (fun _ _ _ => rfl) fun _ _ => rfl

/-- A part of the state that showing a step leaves. -/
theorem State.setStep_part {α : Sort*} (s : State) (n : Nat) (U : State → α) (hwr : ∀ (x : State) f v, U (x.wr f v) = U x)
    (hpwr : ∀ (x : State) m a, U (x.setPwr { x.pwr with step := m, stepAt := a }) = U x) : U (s.setStep n) = U s := by
  unfold State.setStep
  dsimp only
  split
  · exact (hwr _ _ _).trans (hpwr s _ _)
  · exact hpwr s _ _

theorem State.setStep_rd (s : State) (n : Nat) {f : Fld} (h : f.addr ≠ Reg.SYS_PWRSTATE) : (s.setStep n).rd f = s.rd f := by
  unfold State.setStep
  dsimp only
  split
  · exact State.rd_wr_other _ _ h
  · rfl

/-! ### Going on towards TARGET -/

theorem State.startSleep_st (s : State) : s.startSleep.pwr.st = s.pwr.st ∧ s.startSleep.canopyOn = s.canopyOn := by
  rw [State.startSleep_eq]
  split
  · exact ⟨congrArg Still.st (State.pwrEnter_still s.sleepBegun 0x07), congrArg Still.canopyOn (State.pwrEnter_still s.sleepBegun 0x07)⟩
  · have h := State.sleepReq_still ((s.sleepBegun.pwrEnter 0x18).wr F.SYS_SLEEPSTAT_PHASE 1)
    rw [State.wr_still, State.pwrEnter_still] at h
    exact ⟨congrArg Still.st h, congrArg Still.canopyOn h⟩

theorem State.kick_st (s : State) : s.kick.pwr.st = s.pwr.st := by
  unfold State.kick
  split
  · rfl
  · split
    · split
      · split
        · rfl
        · exact congrArg Still.st (s.pwrEnter_still 0x0D)
      · split
        · exact s.startSleep_st.1
        · rfl
    · split
      · exact congrArg Still.st (s.pwrEnter_still 0x12)
      · rfl

/-- A state reached, before it is told. -/
def State.statePosted (s : State) (st : Nat) : State :=
  (((s.setStep 0).setPwr { (s.setStep 0).pwr with st := st }).wr F.SYS_PWRSTATE_STATE st).setTurn none

theorem State.stateReached_eq (s : State) (st : Nat) : s.stateReached st = (s.statePosted st).flag F.SYS_STAT_STATECHG F.SYS_CTL_IE_STATE := rfl

theorem State.setTurn_rd (s : State) (n : Option Nat) (f : Fld) : (s.setTurn n).rd f = s.rd f := rfl

theorem State.statePosted_state (s : State) {st : Nat} (h : st < 8) : (s.statePosted st).rd F.SYS_PWRSTATE_STATE = st := by
  unfold State.statePosted
  rw [State.setTurn_rd, State.rd_wr_same _ _ st (by decide)]
  exact Nat.mod_eq_of_lt h

theorem State.statePosted_retries (s : State) (st : Nat) : (s.statePosted st).pwr.retries = s.pwr.retries :=
  s.setStep_part 0 (fun x => x.pwr.retries) (fun _ _ _ => rfl) fun _ _ _ => rfl

theorem State.flag_pwr (s : State) (f ie : Fld) : (s.flag f ie).pwr = s.pwr :=
  (State.AffectsOnly.flag (S := {f.addr}) s ie (.inl rfl)).part State.pwr fun _ _ => rfl

/-- What reaching a state shows. -/
theorem State.stateReached_shows (s : State) {st : Nat} (h : st < 8) : (s.stateReached st).pwr.st = st ∧
    (s.stateReached st).rd F.SYS_PWRSTATE_STATE = st ∧ (s.stateReached st).on F.SYS_STAT_STATECHG = true ∧
    (s.stateReached st).canopyOn = s.canopyOn ∧ (s.stateReached st).pwr.retries = s.pwr.retries := by
  have hstill := s.stateReached_still st
  refine ⟨congrArg Still.st hstill, ?_, ?_, congrArg Still.canopyOn hstill, ?_⟩
  · rw [State.stateReached_eq, State.flag_rd_other _ (by decide)]
    exact s.statePosted_state h
  · rw [State.stateReached_eq]
    exact decide_eq_true (State.flag_rd_same _ (by decide) rfl)
  · rw [State.stateReached_eq, State.flag_pwr]
    exact s.statePosted_retries st

/-! ### The Doze state and the Field state -/

theorem State.kick_canopyOn (s : State) : s.kick.canopyOn = s.canopyOn :=
  (State.PowerTo.kick enterFields_self s).part State.canopyOn fun _ _ _ => rfl

/-- What reaching the Doze state shows. -/
theorem State.enterDoze_shows (s : State) : s.enterDoze.pwr.st = 2 ∧ s.enterDoze.rd F.SYS_PWRSTATE_STATE = 2 ∧
    s.enterDoze.on F.SYS_STAT_STATECHG = true ∧ s.enterDoze.canopyOn = s.canopyOn := by
  unfold State.enterDoze
  extract_lets up x y _ z w
  have hx : x.still = s.still := by
    simp only [x]
    split
    · exact s.cansUp_still
    · rfl
  have hz : z.canopyOn = s.canopyOn := by
    have hy : y.still = s.still := (State.wr_still _ _ _).trans hx
    simp only [z]
    split <;> exact congrArg Still.canopyOn hy
  obtain ⟨hst, hstate, hchg, hcan, -⟩ := z.stateReached_shows (st := 2) (by decide)
  have hk := State.PowerTo.kick enterFields_self (w.setPwr { w.pwr with tableDue := w.upd.table.isSome })
  exact ⟨(State.kick_st _).trans hst, (hk.rd _ (by decide)).trans hstate, (hk.on (by decide)).trans hchg,
    (State.kick_canopyOn _).trans (hcan.trans hz)⟩

/-- The state in which Field is reached. -/
def State.fieldReached (s : State) : State := (((s.setPwr { s.pwr with retries := 0 }).wr F.SYS_STAT_CDOWN 0).stateReached 3)

/-- What reaching the Field state shows. -/
theorem State.enterField_shows (s : State) : s.enterField.pwr.st = 3 ∧ s.enterField.rd F.SYS_PWRSTATE_STATE = 3 ∧ s.enterField.pwr.retries = 0 := by
  obtain ⟨hst, hstate, -, -, hretries⟩ := ((s.setPwr { s.pwr with retries := 0 }).wr F.SYS_STAT_CDOWN 0).stateReached_shows (st := 3) (by decide)
  have hk := State.PowerTo.kick enterFields_self s.fieldReached
  refine ⟨(State.kick_st _).trans hst, (hk.rd _ (by decide)).trans hstate, Eq.trans ?_ hretries⟩
  show s.fieldReached.kick.pwr.retries = s.fieldReached.pwr.retries
  have h3 : s.fieldReached.pwr.st = 3 := hst
  unfold State.kick
  split
  · rfl
  · rw [if_neg (by rw [h3]; decide)]
    split
    · exact (State.pwrEnter_parts s.fieldReached 0x12).2.2
    · rfl

end Sys2Proof.Machine
end

section
/-! SUPPORT. The steps of Bed up (R474): Sundial, Bed's reset and the start of its firmware. -/

namespace Sys2Proof.Machine

/-- The step after one that goes on in the plain way. -/
theorem State.goStep_step (s : State) {m : Nat} (h : m ≠ 0 ∧ m ≠ 1 ∧ m ≠ 0x0C ∧ m ≠ 0x17 ∧ m ≠ 0x20 ∧ m ≠ 0x12) : (s.goStep m).pwr.step = m := by
  obtain ⟨h0, h1, hC, h17, h20, h12⟩ := h
  unfold State.goStep
  split
  case h_6 => exact State.pwrEnter_step _ h12
  all_goals contradiction

/-! ### BU1 and BU2 -/

theorem State.sundialStart_now (s : State) : s.sundialStart.now % 8 = 0 ∧ s.pwr.cal / 64 ≤ s.sundialStart.now ∧
    s.wideGet Reg.RTD_SDLSAVE_LO + 1000000000 ≤ s.sundialStart.now := by
  show (max (s.pwr.cal / 64) (s.wideGet Reg.RTD_SDLSAVE_LO + 1000000000) + 7) / 8 * 8 % 8 = 0 ∧
    s.pwr.cal / 64 ≤ (max (s.pwr.cal / 64) (s.wideGet Reg.RTD_SDLSAVE_LO + 1000000000) + 7) / 8 * 8 ∧
    s.wideGet Reg.RTD_SDLSAVE_LO + 1000000000 ≤ (max (s.pwr.cal / 64) (s.wideGet Reg.RTD_SDLSAVE_LO + 1000000000) + 7) / 8 * 8
  omega

theorem execBedUp_starts (s : State) (q : SeqIn) (ms : Nat) (hq : q.durs = [ms]) (hstep : s.pwr.step = 1 ∨ s.pwr.step = 2) (hturn : s.pwr.turn = none) :
    Completes (.bedUp q) s (fun t => t.pwr.step = s.pwr.step + 1 ∧ (s.pwr.step = 2 → t.now % 8 = 0 ∧ s.pwr.cal / 64 ≤ t.now ∧
      s.wideGet Reg.RTD_SDLSAVE_LO + 1000000000 ≤ t.now)) := by
  have hrun : exec (.bedUp q) s = .next (s.endStep q ms) := by
    show Host.Outcome.next (State.runSteps 0x01 0x06 q q.durs s) = _
    rw [hq, State.runSteps_one q ms (by omega) (State.stepWaits_free rfl (by omega))]
  refine ⟨_, hrun, ?_⟩
  dsimp only
  obtain h1 | h2 := hstep
  · rw [State.endStep_next (u := s.logStep 1 ms) h1 (by decide) rfl ((s.logStep_turn 1 ms).trans hturn), h1]
    exact ⟨State.goStep_step _ (by decide), fun h => absurd h (by decide)⟩
  · rw [State.endStep_next (u := (s.logStep 2 ms).sundialStart) h2 (by decide) rfl ((s.logStep_turn 2 ms).trans hturn), h2]
    refine ⟨State.goStep_step _ (by decide), fun _ => ?_⟩
    have hnow : ((s.logStep 2 ms).sundialStart.goStep (2 + 1)).now = (s.logStep 2 ms).sundialStart.now :=
      congrArg Still.now (State.pwrEnter_still _ 3)
    have hcal : (s.logStep 2 ms).pwr.cal = s.pwr.cal := s.logStep_part 2 ms (fun x => x.pwr.cal) (fun _ _ _ => rfl) fun _ _ => rfl
    have hwide : (s.logStep 2 ms).wideGet Reg.RTD_SDLSAVE_LO = s.wideGet Reg.RTD_SDLSAVE_LO :=
      s.logStep_part 2 ms (fun x => x.wideGet Reg.RTD_SDLSAVE_LO) (fun _ _ _ => rfl) fun _ _ => rfl
    have h := (s.logStep 2 ms).sundialStart_now
    rw [hcal, hwide] at h
    rw [hnow]
    exact h

/-! ### BU3 -/

/-- The registers that the times of steps kept before SYS ran are put into. -/
def timeRegs : Set Nat := {k | 0x200 ≤ k ∧ k < 0x268}

theorem mem_timeRegs (n : Nat) : Reg.SYS_STEPTIMEs n ∈ timeRegs := by
  show 0x200 ≤ Reg.SYS_STEPTIMEs n ∧ Reg.SYS_STEPTIMEs n < 0x268
  unfold Reg.SYS_STEPTIMEs
  omega

/-- The times of steps kept before SYS ran, put into SYS_STEPTIMEs. -/
def State.timesPut (s : State) : State :=
  s.pwr.early.foldl (fun (x : State) e => x.measured (F.SYS_STEPTIMEs_LAST (e.1 - 1)) (F.SYS_STEPTIMEs_PEAK (e.1 - 1)) e.2) s

theorem State.timesPut_quiet (s : State) : State.QuietTo timeRegs s s.timesPut := .foldl _ (fun x _ => .measured x _ (mem_timeRegs _) (mem_timeRegs _)) _ _

theorem State.earlySteps_eq (s : State) : s.earlySteps = s.timesPut.setPwr { s.timesPut.pwr with early := [] } := rfl

/-- The end of BU3 told where it belongs to a module reset. -/
def State.resetTold (s : State) (reset : Bool) (cause : Nat) : State :=
  if reset then (s.wr F.SYS_PWRSTATE_STEP 3).record 0x00 (if cause = 8 then 0x43 else 0x44) sevSafety cause 0 0 else s

theorem State.resetTold_quiet (s : State) (reset : Bool) (cause : Nat) : State.QuietTo {Reg.SYS_PWRSTATE} s (s.resetTold reset cause) :=
  .ite _ (fun _ => (State.QuietTo.wr (S := {Reg.SYS_PWRSTATE}) (f := F.SYS_PWRSTATE_STEP) s 3 (.inr rfl)).trans (.record _ _ _ _ _ _ _)) fun _ => .refl s

theorem State.stepEffect_three (s : State) (q : SeqIn) (ms : Nat) :
    s.stepEffect q 3 ms = (((s.bedReset s.pwr.reset).earlySteps).resetTold s.pwr.reset s.pwr.rstAs, none) := rfl

/-- What BU3 leaves of the state. -/
theorem State.bedStarted_shows (s : State) (q : SeqIn) (ms : Nat) : (s.stepEffect q 3 ms).1.rings = [] ∧
    (s.stepEffect q 3 ms).1.bedApart = s.bedApart ∧ (s.stepEffect q 3 ms).1.still = { s.still with bedOn := true } ∧
    (s.pwr.reset = true → (s.stepEffect q 3 ms).1.reg Reg.SYS_RSTCAUSE = s.reg Reg.SYS_RSTCAUSE) := by
  rw [State.stepEffect_three]
  obtain ⟨hrings, hapart, hpwr, hreg⟩ := s.bedReset_shows s.pwr.reset
  have hstill := s.bedReset_still s.pwr.reset
  generalize s.bedReset s.pwr.reset = x at hrings hapart hpwr hreg hstill
  have h1 := x.timesPut_quiet
  have h2 := x.earlySteps.resetTold_quiet s.pwr.reset s.pwr.rstAs
  have he : x.earlySteps.still = x.still := by
    rw [State.earlySteps_eq]
    exact h1.part State.still fun _ _ => rfl
  refine ⟨(h2.part State.rings fun _ _ => rfl).trans ((h1.part State.rings fun _ _ => rfl).trans hrings),
    (h2.part State.bedApart fun _ _ => rfl).trans ((h1.part State.bedApart fun _ _ => rfl).trans hapart),
    (h2.part State.still fun _ _ => rfl).trans (he.trans hstill), fun hr => ?_⟩
  refine (h2.reg _ (by decide) (by show ¬ Reg.SYS_RSTCAUSE = Reg.SYS_PWRSTATE; decide)).trans ((h1.reg _ (by decide) ?_).trans (hreg hr))
  show ¬ (0x200 ≤ Reg.SYS_RSTCAUSE ∧ Reg.SYS_RSTCAUSE < 0x268)
  decide

theorem State.rootRd_of_apart {s t : State} (h : t.bedApart = s.bedApart) (f : Fld) : t.rootRd f = s.rootRd f := by
  obtain ⟨hcode, hrev, hroot, -, -⟩ : t.code = s.code ∧ t.hwrev = s.hwrev ∧ t.rootRegs = s.rootRegs ∧ t.latches = s.latches ∧ t.resp = s.resp := by
    simpa [State.bedApart] using h
  exact State.rootRd_congr (State.rootReg_congr hcode hrev hroot _)

theorem execBedUp_resets (s : State) (q : SeqIn) (ms : Nat) (hq : q.durs = [ms]) (hstep : s.pwr.step = 3) (hturn : s.pwr.turn = none)
    (hhot : s.pwr.hot = false) : Completes (.bedUp q) s (fun t => t.pwr.step = 4 ∧ t.bedOn = true ∧ t.canopyOn = s.canopyOn ∧ t.rings = [] ∧
      t.rootRd F.RTD_STAT_CALVALID = s.rootRd F.RTD_STAT_CALVALID) := by
  have hwaits : s.stepWaits = false := by
    unfold State.stepWaits
    rw [hstep, hhot]
    simp
  obtain ⟨hrings, hapart, hstill, -⟩ := (s.logStep 3 ms).bedStarted_shows q ms
  have hlog : (s.logStep 3 ms).bedApart = s.bedApart := s.logStep_part 3 ms State.bedApart (fun _ _ _ => rfl) fun _ _ => rfl
  rw [State.logStep_still] at hstill
  generalize hu : ((s.logStep 3 ms).stepEffect q 3 ms).1 = u at hrings hapart hstill
  have hend : s.endStep q ms = u.goStep 4 :=
    State.endStep_next hstep (by decide) (Prod.ext hu rfl) ((congrArg Still.turn hstill).trans hturn)
  have hrun : exec (.bedUp q) s = .next (u.goStep 4) := by
    show Host.Outcome.next (State.runSteps 0x01 0x06 q q.durs s) = _
    rw [hq, State.runSteps_one q ms (by omega) hwaits, hend]
  have hlast : (u.goStep 4).still = { u.still with step := 4, turn := none } := State.pwrEnter_still u 4
  refine ⟨_, hrun, congrArg Still.step hlast, (congrArg Still.bedOn hlast).trans (congrArg Still.bedOn hstill),
    (congrArg Still.canopyOn hlast).trans (congrArg Still.canopyOn hstill), ?_, ?_⟩
  · exact (u.setStep_part 4 State.rings (fun _ _ _ => rfl) fun _ _ _ => rfl).trans hrings
  · exact State.rootRd_of_apart ((u.setStep_part 4 State.bedApart (fun _ _ _ => rfl) fun _ _ _ => rfl).trans (hapart.trans hlog)) _

/-! ### BU4 and BU6 -/

theorem State.bedBoot_starts {s : State} (ms : Nat) (bad : List Nat) (h : s.pwr.booted = true) : (s.bedBoot ms bad).2 = (s.bootSlot 2 bad).isSome := by
  unfold State.bedBoot
  rw [if_pos h]
  dsimp only
  split
  · next hc => exact hc.symm
  · next hc => exact (eq_false_of_ne_true hc).symm

theorem State.logStep_bootSlot (s : State) (n ms u : Nat) (bad : List Nat) : (s.logStep n ms).bootSlot u bad = s.bootSlot u bad :=
  s.logStep_part n ms (fun x => x.bootSlot u bad) (fun _ _ _ => rfl) fun _ _ => rfl

theorem execBedUp_boots (s : State) (q : SeqIn) (ms : Nat) (hq : q.durs = [ms]) (hstep : s.pwr.step = 4) (hturn : s.pwr.turn = none)
    (hboot : s.pwr.booted = true) (hbed : s.bedOn = true) :
    Completes (.bedUp q) s (fun t => t.pwr.step = if (s.bootSlot 2 q.bad).isSome = true then 5 else 4) := by
  have hbooted : (s.logStep 4 ms).pwr.booted = true := (s.logStep_part 4 ms (fun x => x.pwr.booted) (fun _ _ _ => rfl) fun _ _ => rfl).trans hboot
  have hcan : ((s.logStep 4 ms).bedBoot ms q.bad).2 = (s.bootSlot 2 q.bad).isSome := by
    rw [State.bedBoot_starts ms q.bad hbooted, State.logStep_bootSlot]
  have hstill : ((s.logStep 4 ms).bedBoot ms q.bad).1.still = s.still := (State.bedBoot_still _ ms q.bad).trans (s.logStep_still 4 ms)
  have heff : (s.logStep 4 ms).stepEffect q 4 ms = (((s.logStep 4 ms).bedBoot ms q.bad).1, if ((s.logStep 4 ms).bedBoot ms q.bad).2 then none else some 4) := rfl
  have hend := State.endStep_goes hstep (by decide) heff
  have hrun : exec (.bedUp q) s = .next (s.endStep q ms) := by
    show Host.Outcome.next (State.runSteps 0x01 0x06 q q.durs s) = _
    rw [hq, State.runSteps_one q ms (by omega) (State.stepWaits_free hstep (by decide))]
  refine ⟨_, hrun, ?_⟩
  dsimp only
  rw [hend, hcan]
  generalize ((s.logStep 4 ms).bedBoot ms q.bad).1 = u at hstill
  have hb : ¬ u.bedOn = false := by rw [show u.bedOn = true from (congrArg Still.bedOn hstill).trans hbed]; exact Bool.noConfusion
  rw [if_neg (fun h => hb h.2)]
  split
  · rw [Option.getD_none, State.following_next 4 ((congrArg Still.turn hstill).trans hturn)]
    exact State.goStep_step _ (by decide)
  · exact State.goStep_step u (m := 4) (by decide)

theorem execBedUp_reaches (s : State) (q : SeqIn) (ms : Nat) (hq : q.durs = [ms]) (hstep : s.pwr.step = 6) (hturn : s.pwr.turn = none)
    (_ : s.bedOn = true) : Completes (.bedUp q) s (fun t => t.pwr.st = 2 ∧ t.rd F.SYS_PWRSTATE_STATE = 2 ∧ t.on F.SYS_STAT_STATECHG = true) := by
  have hend : s.endStep q ms = (s.logStep 6 ms).enterDoze := by
    rw [State.endStep_goes (u := s.logStep 6 ms) (o := none) hstep (by decide) rfl, Option.getD_none,
      State.following_next 6 ((s.logStep_turn 6 ms).trans hturn)]
    rfl
  have hrun : exec (.bedUp q) s = .next (s.logStep 6 ms).enterDoze := by
    show Host.Outcome.next (State.runSteps 0x01 0x06 q q.durs s) = _
    rw [hq, State.runSteps_one q ms (by omega) (State.stepWaits_free hstep (by decide)), hend]
  obtain ⟨hst, hstate, hchg, -⟩ := (s.logStep 6 ms).enterDoze_shows
  exact ⟨_, hrun, hst, hstate, hchg⟩

end Sys2Proof.Machine
end

section
/-! SUPPORT. The steps of Bed down and of Canopy's way up and down (R475-R479): what is saved, what is reached. -/

namespace Sys2Proof.Machine

/-! ### BD4 (R475) -/

theorem State.SysTo.fellAll (s : State) (us : List Nat) : State.SysTo s (s.fellAll us) :=
  .foldl _ (fun x u => .ite _ (fun _ => .of_updates ((State.UpdatesTo.fellMark x u).trans (.fellStop _ u))) fun _ => .refl x) _ _

theorem State.emptyQueue_records (fuel : Nat) (s : State) : s.RecordsTo (s.emptyQueue fuel) := by
  induction fuel generalizing s with
  | zero => exact .refl s
  | succ k ih =>
    unfold State.emptyQueue
    split
    case h_1 fuel _ _ _ hk =>
      obtain rfl : k = fuel := Nat.succ.inj ‹_›
      refine State.RecordsTo.trans ?_ (ih _)
      have hpop : s.RecordsTo s.popQueue := (State.RecordsTo.evr s _).trans (.evrQueueRegs _)
      split
      · split
        · exact hpop.trans (.storeRec _ _)
        · exact hpop
      · split
        · exact (hpop.trans (.takeBucket _ _ _)).trans (.storeRec _ _)
        · exact hpop.trans (.takeBucket _ _ _)
    case h_2 => exact .refl s

/-- The probations ended and the recorder's queue written out. -/
def State.queueEmptied (s : State) : State := (s.fellAll (List.range 9)).emptyQueue 64

/-- Sundial's time saved. -/
def State.sundialNoted (s : State) : State := s.wideSet Reg.RTD_SDLSAVE_LO s.now

/-- The wear counts and the instant of the power-down saved. -/
def State.wearSaved (s : State) : State := s.commitWear.setPwr { s.commitWear.pwr with lastOff := s.commitWear.pwr.cal }

theorem State.bedSaves_eq (s : State) (ok : Bool) : s.bedSaves ok = (s.queueEmptied.sundialNoted.wearSaved.commitAll).rootSave 2 ok := by
  unfold State.bedSaves State.queueEmptied
  generalize (s.fellAll (List.range 9)).emptyQueue 64 = x
  rfl

theorem State.sundialNoted_save (s : State) : s.sundialNoted.wideGet Reg.RTD_SDLSAVE_LO = s.now := SMap.get_set_same _ _ _ _

theorem State.wearSaved_wide (s : State) : s.wearSaved.wide = s.wide := rfl

theorem State.now_eq (s : State) : s.now = s.still.now := rfl

theorem State.queueEmptied_now (s : State) : s.queueEmptied.now = s.now := by
  have h : s.queueEmptied.still = s.still := by simp [State.queueEmptied]
  rw [State.now_eq, h, ← State.now_eq]

theorem State.commitAll_latches (s : State) : s.commitAll.latches = [] := by
  unfold State.commitAll
  rw [State.commitLatches_latches]
  simp

theorem State.calLoad_wide (s : State) : s.calLoad.wide = s.wide := by
  have hset (p : Pwr) (f g : Fld) (v w : Nat) : (((s.setPwr p).rootWr f v).rootWr g w).wide = s.wide := rfl
  unfold State.calLoad
  split
  · exact hset _ _ _ _ _
  · rfl

theorem State.commitLatch_wide (s : State) (l : Latch) : (s.commitLatch l).wide = s.wide := by
  unfold State.commitLatch
  split
  · dsimp only
    split <;> rfl
  · rfl

theorem State.commitLatches_wide (s : State) (p : Latch → Bool) : (s.commitLatches p).wide = s.wide := by
  unfold State.commitLatches
  extract_lets t u
  have ht : t.wide = s.wide := List.foldlRecOn (motive := fun x : State => x.wide = s.wide) _ _ rfl fun x hx l _ => (x.commitLatch_wide l).trans hx
  have hu : u.wide = s.wide := (State.calLoad_wide _).trans ht
  split
  · exact hu
  · exact hu

theorem State.notify_wide (s : State) (f ie : Fld) : (s.notify f ie).wide = s.wide := by
  unfold State.notify
  split <;> rfl

theorem State.sysFlag_kept (s : State) (f ie : Fld) : (s.sysFlag f ie).wide = s.wide ∧ (s.sysFlag f ie).latches = s.latches := by
  unfold State.sysFlag
  split
  · exact ⟨State.notify_wide _ _ _, (State.AffectsOnly.flag (S := {f.addr}) s ie (.inl rfl)).part State.latches fun _ _ => rfl⟩
  · exact ⟨rfl, rfl⟩

/-- A Root save as it stands in the saves, before it is judged. -/
def State.saveNoted (s : State) (cause : Nat) (ok : Bool) : State :=
  (((s.setPwr { s.pwr with saves := s.saveImage ok :: s.pwr.saves.take 1, savedAt := s.pwr.root }).rootWr F.RTD_SAVE_CAUSE cause).rootWr
    F.RTD_SAVE_AGE 0).rootWr F.RTD_SAVE_NOW 0

theorem State.rootSave_eq (s : State) (cause : Nat) (ok : Bool) : s.rootSave cause ok = if ok then s.saveNoted cause ok
    else ((((s.saveNoted cause ok).rootWr F.RTD_STAT_SAVEFAIL 1).sysFlag F.SYS_STAT_CELL F.SYS_CTL_IE_CELL).record 0x02 0x42 sevWarning cause 0 0) := rfl

theorem State.record_latches (s : State) (src ev sev p0 p1 p2 : Nat) : (s.record src ev sev p0 p1 p2).latches = s.latches := by
  obtain ⟨⟨r, i, e, h⟩, -⟩ := State.RecordsTo.record s src ev sev p0 p1 p2
  rw [h]

/-- A Root save leaves the latches and Sundial's saved time. -/
theorem State.rootSave_kept (s : State) (cause : Nat) (ok : Bool) : (s.rootSave cause ok).wide = s.wide ∧ (s.rootSave cause ok).latches = s.latches := by
  have hnoted : (s.saveNoted cause ok).wide = s.wide ∧ (s.saveNoted cause ok).latches = s.latches := ⟨rfl, rfl⟩
  rw [State.rootSave_eq]
  split
  · exact hnoted
  · have hf := ((s.saveNoted cause ok).rootWr F.RTD_STAT_SAVEFAIL 1).sysFlag_kept F.SYS_STAT_CELL F.SYS_CTL_IE_CELL
    exact ⟨(State.RecordsTo.record _ _ _ _ _ _ _).wide.trans (hf.1.trans hnoted.1), (State.record_latches _ _ _ _ _ _ _).trans (hf.2.trans hnoted.2)⟩

theorem State.bedSaves_shows (s : State) (ok : Bool) : (s.bedSaves ok).latches = [] ∧ (s.bedSaves ok).wideGet Reg.RTD_SDLSAVE_LO = s.now := by
  rw [State.bedSaves_eq]
  obtain ⟨hwide, hlatch⟩ := s.queueEmptied.sundialNoted.wearSaved.commitAll.rootSave_kept 2 ok
  refine ⟨hlatch.trans (State.commitAll_latches _), Eq.trans ?_ (s.queueEmptied.sundialNoted_save.trans s.queueEmptied_now)⟩
  unfold State.wideGet
  rw [hwide, State.commitAll, State.commitLatches_wide, State.wearSaved_wide]

theorem execBedDown_saves (s : State) (q : SeqIn) (ms : Nat) (hq : q.durs = [ms]) (_ : s.pwr.step = 9 ∨ s.pwr.step = 10) (hturn : s.pwr.turn = none)
    (hbed : s.bedOn = true) (hstep : s.pwr.step = 10) (hlatch : s.latches = []) :
    Completes (.bedDown q) s (fun t => t.pwr.step = s.pwr.step + 1 ∧ (s.pwr.step = 9 → t.on F.FUR_RUN_EN = (s.on F.FUR_RUN_EN && decide (s.rd F.FUR_STATE_STATE = 0))) ∧
      (s.pwr.step = 10 → t.latches = [] ∧ t.wideGet Reg.RTD_SDLSAVE_LO = s.now)) := by
  have hwaits : s.stepWaits = false := by
    unfold State.stepWaits
    rw [hstep, hlatch]
    simp
  have hbed' : (s.logStep 10 ms).bedOn = true := (congrArg Still.bedOn (s.logStep_still 10 ms)).trans hbed
  have heff : (s.logStep 10 ms).stepEffect q 10 ms = ((s.logStep 10 ms).bedSaves q.saveOk, none) := by
    show (if (s.logStep 10 ms).bedOn then (s.logStep 10 ms).bedSaves q.saveOk else s.logStep 10 ms, none) = _
    rw [if_pos hbed']
  have hturn' : ((s.logStep 10 ms).bedSaves q.saveOk).pwr.turn = none :=
    (congrArg Still.turn ((State.bedSaves_still _ _).trans (s.logStep_still 10 ms))).trans hturn
  have hrun : exec (.bedDown q) s = .next (((s.logStep 10 ms).bedSaves q.saveOk).goStep (10 + 1)) := by
    show Host.Outcome.next (State.runSteps 0x07 0x0B q q.durs s) = _
    rw [hq, State.runSteps_one q ms (by omega) hwaits, State.endStep_next hstep (by decide) heff hturn']
  obtain ⟨hl, hw⟩ := (s.logStep 10 ms).bedSaves_shows q.saveOk
  rw [show (s.logStep 10 ms).now = s.now from congrArg Still.now (s.logStep_still 10 ms)] at hw
  generalize (s.logStep 10 ms).bedSaves q.saveOk = u at hrun hl hw
  refine ⟨_, hrun, (State.goStep_step _ (by decide)).trans (by rw [hstep]), fun h => absurd (hstep.symm.trans h) (by decide), fun _ => ⟨?_, ?_⟩⟩
  · exact (u.setStep_part 11 State.latches (fun _ _ _ => rfl) fun _ _ _ => rfl).trans hl
  · exact (u.setStep_part 11 (fun x => x.wideGet Reg.RTD_SDLSAVE_LO) (fun _ _ _ => rfl) fun _ _ _ => rfl).trans hw

/-! ### BD5 (R475) -/

theorem State.wakeAccept_still (s : State) (src : Nat) : (s.wakeAccept src).bedOn = s.bedOn ∧ (s.wakeAccept src).pwr.st = s.pwr.st ∧
    (s.wakeAccept src).latches = s.latches := by
  rw [State.wakeAccept_eq]
  split
  · split
    · have h := State.pwrEnter_still ((s.wakeLatched src).setPwr { s.pwr with early := [] }) 0x01
      exact ⟨congrArg Still.bedOn h, congrArg Still.st h, (State.PowerTo.wakeStarted s src).part State.latches fun _ _ _ => rfl⟩
    · exact ⟨rfl, rfl, rfl⟩
  · exact ⟨rfl, rfl, rfl⟩

theorem State.enterArmed_shows (s : State) (h : s.bedOn = false) : s.enterArmed.bedOn = false ∧ s.enterArmed.pwr.st = 1 ∧ s.enterArmed.latches = [] := by
  have hgone : s.bedGone.bedOn = false ∧ s.bedGone.pwr.st = 1 ∧ s.bedGone.latches = [] :=
    ⟨(congrArg Still.bedOn s.bedGone_still).trans h, rfl, s.commitAll_latches⟩
  obtain ⟨h1, h2, h3⟩ := s.bedGone.wakeAccept_still 1
  unfold State.enterArmed
  dsimp only
  split
  · exact ⟨h1.trans hgone.1, h2.trans hgone.2.1, h3.trans hgone.2.2⟩
  · exact hgone

theorem execBedDown_arms (s : State) (q : SeqIn) (ms : Nat) (hq : q.durs = [ms]) (hstep : s.pwr.step = 11) (hturn : s.pwr.turn = none) :
    Completes (.bedDown q) s (fun t => t.bedOn = false ∧ t.pwr.st = 1 ∧ t.latches = []) := by
  have hrun : exec (.bedDown q) s = .next ({ s.logStep 11 ms with bedOn := false } : State).enterArmed := by
    show Host.Outcome.next (State.runSteps 0x07 0x0B q q.durs s) = _
    rw [hq, State.runSteps_one q ms (by omega) (State.stepWaits_free hstep (by decide)),
      State.endStep_next (u := { s.logStep 11 ms with bedOn := false }) hstep (by decide) rfl ((s.logStep_turn 11 ms).trans hturn)]
    rfl
  exact ⟨_, hrun, State.enterArmed_shows _ rfl⟩

end Sys2Proof.Machine
end

section
/-! SUPPORT. The steps of Canopy's ways up and down (R476-R479, R484), and the sequences of the power chapter together. -/

namespace Sys2Proof.Machine

/-! ### CU3 -/

theorem State.withCanopyOn_rd (s : State) (f : Fld) : State.rd { s with canopyOn := true } f = s.rd f := rfl

theorem State.canopyReset_rail (s : State) : s.canopyReset.rd F.HLT_VCORE_CANOPY = 750 := by
  unfold State.canopyReset
  extract_lets t ter _ _ _ _ t1 t2
  clear_value t2
  rw [State.withCanopyOn_rd]
  exact State.rd_wr_same t2 F.HLT_VCORE_CANOPY 750 (by decide)

theorem execCanopyUp_powers (s : State) (q : SeqIn) (ms : Nat) (hq : q.durs = [ms]) (hstep : s.pwr.step = 15) (hturn : s.pwr.turn = none) :
    Completes (.canopyUp q) s (fun t => t.pwr.step = 16 ∧ t.canopyOn = true ∧ t.rd F.HLT_VCORE_CANOPY = 750) := by
  have hstill : ((s.logStep 15 ms).canopyReset).still = { s.still with canopyOn := true } := by rw [State.canopyReset_still, State.logStep_still]
  have hrail := (s.logStep 15 ms).canopyReset_rail
  have hrun : exec (.canopyUp q) s = .next (((s.logStep 15 ms).canopyReset).goStep (15 + 1)) := by
    show Host.Outcome.next (State.runSteps 0x0D 0x11 q q.durs s.kick) = _
    rw [State.kick_of_step (by rw [hstep]; decide), hq, State.runSteps_one q ms (by omega) (State.stepWaits_free hstep (by decide)),
      State.endStep_next (u := (s.logStep 15 ms).canopyReset) hstep (by decide) rfl ((congrArg Still.turn hstill).trans hturn)]
  generalize (s.logStep 15 ms).canopyReset = u at hrun hstill hrail
  have hlast : (u.goStep (15 + 1)).still = { u.still with step := 16, turn := none } := State.pwrEnter_still u 16
  exact ⟨_, hrun, congrArg Still.step hlast, (congrArg Still.canopyOn hlast).trans (congrArg Still.canopyOn hstill),
    (u.setStep_rd 16 (by decide)).trans hrail⟩

/-! ### CU4: the fabric's waiting requests (R25, R421) -/

theorem State.grant_rd (s : State) (w : FabWait) (tag : Nat) {f : Fld} (h : f.addr / 0x1000 = 0x11) : (s.grant w tag).rd f = s.rd f :=
  State.rd_wr_other _ _ (by simp only [F.FAB_WAITn_MAXWAIT, Reg.FAB_WAITn]; omega)

theorem State.mapWait_rd (s : State) (q : Nat) (v : Bool) {f : Fld} (h : f.addr / 0x1000 = 0x11) : (s.mapBit (Reg.RNG_WAITn 0) q v).rd f = s.rd f :=
  s.mapBit_rd_above q v (by unfold Reg.RNG_WAITn; omega)

theorem State.ringsWait_rd (s : State) (n : Nat) (v : Bool) {f : Fld} (h : f.addr / 0x1000 = 0x11) : (s.ringsWait n v).rd f = s.rd f :=
  List.foldlRecOn (motive := fun x : State => x.rd f = s.rd f) _ _ rfl fun x hx q _ => (x.mapWait_rd q _ h).trans hx

theorem State.grantWaits_rd (fuel tag : Nat) {f : Fld} (h : f.addr / 0x1000 = 0x11) (s : State) : (s.grantWaits fuel tag).rd f = s.rd f := by
  induction fuel generalizing s with
  | zero => rfl
  | succ k ih =>
    unfold State.grantWaits
    split
    · exact (ih _).trans ((State.ringsWait_rd _ _ _ h).trans (State.grant_rd _ _ _ h))
    · rfl

/-- The registers of block FAB. -/
def fabBlock : Set Nat := {k | k / 0x1000 = 0x10}

theorem State.fabRegs_affects (s : State) : State.AffectsOnly fabBlock s s.fabRegs := by
  have hin (i : Nat) : Reg.FAB_INUSEn i / 0x1000 = 0x10 := by
    unfold Reg.FAB_INUSEn
    omega
  unfold State.fabRegs
  extract_lets n was out t1 t2 t3 t4
  have hw (x : State) {f : Fld} (v : Nat) (h : f.addr / 0x1000 = 0x10) : State.AffectsOnly fabBlock x (x.wr f v) := .wr x v (.inl h)
  have hb (x : State) {f : Fld} (v : Bool) (h : f.addr / 0x1000 = 0x10) : State.AffectsOnly fabBlock x (x.wrB f v) := .wrB x v (.inl h)
  have hp (x : State) {f : Fld} (v : Nat) (h : f.addr / 0x1000 = 0x10) : State.AffectsOnly fabBlock x (x.peak f v) := .peak x v (.inl h)
  have h1 : State.AffectsOnly fabBlock s t1 := (((hw s _ (by decide)).trans (hp _ _ (by decide))).trans (hw _ _ (by decide))).trans (hw _ _ (by decide))
  have h2 : State.AffectsOnly fabBlock t1 t2 := (hb t1 _ (by decide)).trans (hb _ _ (by decide))
  have h3 : State.AffectsOnly fabBlock t2 t3 := .foldl _ (fun x i => (hw x (f := F.FAB_INUSEn_INUSE i) _ (hin i)).trans (hp _ (f := F.FAB_INUSEn_PEAK i) _ (hin i))) _ _
  have h4 : State.AffectsOnly fabBlock t3 t4 := by
    simp only [t4]
    split
    · exact ((hw t3 _ (by decide)).trans (hw _ _ (by decide))).trans (hw _ _ (by decide))
    · exact .setReg t3 _ (.inl (show Reg.FAB_OLDEST / 0x1000 = 0x10 from rfl))
  refine (h1.trans (h2.trans (h3.trans h4))).trans ?_
  exact .ite _ (fun _ => .notify _ _ _) fun _ => .refl _

theorem State.canopyFailed_rd (s : State) {f : Fld} (h : f.addr / 0x1000 = 0x11) : s.canopyFailed.rd f = s.rd f := by
  have ht : ((s.wr F.SYS_STAT_CANFAIL 1).record 0x00 0x41 sevSafety 0 0 0).rd f = s.rd f := by
    refine (State.rd_congr ((State.RecordsTo.record _ _ _ _ _ _ _).2 _ (by omega))).trans (s.rd_wr_other 1 ?_)
    show f.addr ≠ Reg.SYS_STAT
    unfold Reg.SYS_STAT
    omega
  unfold State.canopyFailed
  dsimp only
  split
  · exact ht
  · exact ht

theorem execCanopyUp_trains (s : State) (q : SeqIn) (ms : Nat) (hq : q.durs = [ms]) (hstep : s.pwr.step = 16) (hturn : s.pwr.turn = none) :
    Completes (.canopyUp q) s (fun t => t.pwr.step = if t.on F.MEM_STAT_READY = true then 17 else 22) := by
  have hstill : ((s.logStep 16 ms).dramStart q.found).still = s.still := (State.dramStart_still _ _).trans (s.logStep_still 16 ms)
  have heff : (s.logStep 16 ms).stepEffect q 16 ms = if ((s.logStep 16 ms).dramStart q.found).on F.MEM_STAT_READY then
      ((((s.logStep 16 ms).dramStart q.found).grantWaits 16 trackerSize).fabRegs, none) else (((s.logStep 16 ms).dramStart q.found).canopyFailed, some 0x16) := rfl
  have hrun : exec (.canopyUp q) s = .next (s.endStep q ms) := by
    show Host.Outcome.next (State.runSteps 0x0D 0x11 q q.durs s.kick) = _
    rw [State.kick_of_step (by rw [hstep]; decide), hq, State.runSteps_one q ms (by omega) (State.stepWaits_free hstep (by decide))]
  refine ⟨_, hrun, ?_⟩
  dsimp only
  generalize (s.logStep 16 ms).dramStart q.found = x at hstill heff
  by_cases hready : x.on F.MEM_STAT_READY = true
  · rw [if_pos hready] at heff
    have hturn' : ((x.grantWaits 16 trackerSize).fabRegs).pwr.turn = none :=
      (congrArg Still.turn ((State.fabRegs_still _).trans ((State.grantWaits_still _ _ _).trans hstill))).trans hturn
    have hon : ((x.grantWaits 16 trackerSize).fabRegs).on F.MEM_STAT_READY = true :=
      ((State.fabRegs_affects _).on (notEntry (by decide)) (by show ¬ 0x11 = 0x10; decide)).trans
        ((State.on_congr (State.grantWaits_rd 16 trackerSize rfl x)).trans hready)
    rw [State.endStep_next hstep (by decide) heff hturn']
    generalize (x.grantWaits 16 trackerSize).fabRegs = u at hon
    have hlast : (u.goStep (16 + 1)).on F.MEM_STAT_READY = true := (State.on_congr (u.setStep_rd 17 (by decide))).trans hon
    rw [if_pos hlast]
    exact State.goStep_step _ (by decide)
  · rw [if_neg hready] at heff
    have hoff : ¬ x.canopyFailed.on F.MEM_STAT_READY = true := by rw [State.on_congr (x.canopyFailed_rd rfl)]; exact hready
    rw [State.endStep_goes hstep (by decide) heff]
    generalize x.canopyFailed = u at hoff
    have hlast : ¬ (u.goStep 0x16).on F.MEM_STAT_READY = true := by
      rw [State.on_congr (show (u.goStep 0x16).rd F.MEM_STAT_READY = u.rd F.MEM_STAT_READY from u.setStep_rd 0x16 (by decide))]
      exact hoff
    rw [Option.getD_some, if_neg (fun h => absurd h.1 (by decide)), if_neg hlast]
    exact State.goStep_step _ (by decide)

/-! ### CU5, the retry and the way down -/

theorem execCanopyUp_reaches (s : State) (q : SeqIn) (ms : Nat) (hq : q.durs = [ms]) (hstep : s.pwr.step = 17) (hturn : s.pwr.turn = none) :
    Completes (.canopyUp q) s (fun t => t.pwr.st = 3 ∧ t.rd F.SYS_PWRSTATE_STATE = 3 ∧ t.pwr.retries = 0) := by
  have hturn' : ((s.logStep 17 ms).agentsStart q.bad).pwr.turn = none :=
    (congrArg Still.turn ((State.agentsStart_still _ _).trans (s.logStep_still 17 ms))).trans hturn
  have heff : (s.logStep 17 ms).stepEffect q 17 ms = ((s.logStep 17 ms).agentsStart q.bad, none) := rfl
  have hend : s.endStep q ms = ((s.logStep 17 ms).agentsStart q.bad).enterField := by
    rw [State.endStep_goes hstep (by decide) heff, Option.getD_none, State.following_next 17 hturn']
    rfl
  have hrun : exec (.canopyUp q) s = .next ((s.logStep 17 ms).agentsStart q.bad).enterField := by
    show Host.Outcome.next (State.runSteps 0x0D 0x11 q q.durs s.kick) = _
    rw [State.kick_of_step (by rw [hstep]; decide), hq, State.runSteps_one q ms (by omega) (State.stepWaits_free hstep (by decide)), hend]
  exact ⟨_, hrun, State.enterField_shows _⟩

/-- A retry noted. -/
def State.retryNoted (s : State) : State := s.setPwr { s.pwr with retryAt := none, retries := s.pwr.retries + 1 }

theorem execCanopyUpRetry_tries (s : State) (q : SeqIn) (at0 : Nat) (hq : q.durs = []) (hat : s.pwr.retryAt = some at0) (hdue : at0 ≤ s.now)
    (hbed : s.bedOn = true) (hst : s.pwr.st = 2) (hstep : s.pwr.step = 0) (ht : s.target = 2) (hshed : s.rd F.SYS_SHED_SHST ≠ 2) :
    Completes (.canopyUpRetry q) s (fun t => t.pwr.step = 14 ∧ t.pwr.retryAt = none ∧ t.pwr.retries = s.pwr.retries + 1) := by
  have hrun : exec (.canopyUpRetry q) s = .next (s.retryNoted.pwrEnter 0x0E) := by
    show execCanopyUpRetry q s = _
    unfold execCanopyUpRetry
    rw [hat]
    dsimp only
    rw [if_pos ⟨hdue, hbed, hst, hstep, ht, hshed⟩, hq]
    rfl
  refine ⟨_, hrun, State.pwrEnter_step _ (by decide), ?_, ?_⟩
  · exact s.retryNoted.setStep_part 14 (fun x => x.pwr.retryAt) (fun _ _ _ => rfl) fun _ _ _ => rfl
  · exact s.retryNoted.setStep_part 14 (fun x => x.pwr.retries) (fun _ _ _ => rfl) fun _ _ _ => rfl

theorem State.cdownShown_on (s : State) : s.cdownShown.on F.SYS_STAT_CDOWN = true := by
  have h : (s.wr F.SYS_STAT_CDOWN 1).on F.SYS_STAT_CDOWN = true := s.on_wr_one (by decide) rfl
  unfold State.cdownShown
  split
  · exact h
  · exact h

theorem State.pwrEnter_cdown (s : State) : (s.pwrEnter 0x12).pwr.step = 0x13 ∧ (s.pwrEnter 0x12).on F.SYS_STAT_CDOWN = true := by
  refine ⟨congrArg Still.step (s.pwrEnter_still 0x12), ?_⟩
  have h := ((s.setStep 0x12).setTurn none).cdownShown_on
  have hlog := State.PowerTo.logStep (W := []) ((s.setStep 0x12).setTurn none).cdownShown 0x12 0
  show ((((s.setStep 0x12).setTurn none).cdownShown.logStep 0x12 0).setStep 0x13).on F.SYS_STAT_CDOWN = true
  exact (State.on_congr (State.setStep_rd _ _ (by decide))).trans ((hlog.on (by decide)).trans h)

theorem execCanopyDown_starts (s : State) (q : SeqIn) (hq : q.durs = []) (hbed : s.bedOn = true) (hst : s.pwr.st = 3) (hstep : s.pwr.step = 0)
    (hdue : s.pwr.tableDue = false) (ht : s.target ≠ 2) :
    Completes (.canopyDown q) s (fun t => t.pwr.step = 19 ∧ t.on F.SYS_STAT_CDOWN = true) := by
  have hkick : s.kick = s.pwrEnter 0x12 := by
    unfold State.kick
    rw [if_neg (by rw [hbed, hstep, hdue]; simp), if_neg (by rw [hst]; decide), if_pos ⟨hst, ht⟩]
  have hrun : exec (.canopyDown q) s = .next (s.pwrEnter 0x12) := by
    show Host.Outcome.next (State.runSteps 0x12 0x16 q q.durs s.kick) = _
    rw [hq, hkick]
    rfl
  exact ⟨_, hrun, s.pwrEnter_cdown⟩

theorem execCanopyDown_ends (s : State) (q : SeqIn) (ms : Nat) (hq : q.durs = [ms]) (hstep : s.pwr.step = 22) (hturn : s.pwr.turn = none) :
    Completes (.canopyDown q) s (fun t => t.canopyOn = false ∧ t.pwr.st = 2) := by
  have hstill : ((s.logStep 22 ms).canopyDark).still = { s.still with canopyOn := false } := by rw [State.canopyDark_still, State.logStep_still]
  have hrun : exec (.canopyDown q) s = .next ((((s.logStep 22 ms).canopyDark).logStep 0x17 0).enterDoze) := by
    show Host.Outcome.next (State.runSteps 0x12 0x16 q q.durs s.kick) = _
    rw [State.kick_of_step (by rw [hstep]; decide), hq, State.runSteps_one q ms (by omega) (State.stepWaits_free hstep (by decide)),
      State.endStep_next (u := (s.logStep 22 ms).canopyDark) hstep (by decide) rfl ((congrArg Still.turn hstill).trans hturn)]
    rfl
  obtain ⟨hst, -, -, hcan⟩ := (((s.logStep 22 ms).canopyDark).logStep 0x17 0).enterDoze_shows
  refine ⟨_, hrun, hcan.trans ?_, hst⟩
  exact congrArg Still.canopyOn ((State.logStep_still _ 0x17 0).trans hstill)

theorem execCanopyGraceTimeout_ends (s : State) (hstep : s.pwr.step = 19) (hdue : s.pwr.stepAt + s.rd F.SYS_PWRCFG_CANGRACE * 1000000000 ≤ s.now) :
    Completes (.canopyGraceTimeout) s (fun t => t.pwr.step = 20) :=
  ⟨_, congrArg Host.Outcome.next (if_pos ⟨hstep, hdue⟩), s.graceEnds_step hstep⟩

/-- Settles O47: every clause by the lemma that says what its step does. -/
theorem bedAndCanopySequencesComplete : Obligations.BedAndCanopySequencesComplete := by
  unfold Obligations.BedAndCanopySequencesComplete
  exact ⟨execBedUp_starts, execBedUp_resets, execBedUp_boots, execBedUp_reaches, execBedDown_saves, execBedDown_arms, execCanopyUp_powers,
    execCanopyUp_trains, execCanopyUp_reaches, execCanopyUpRetry_tries, execCanopyDown_starts, execCanopyDown_ends, execCanopyGraceTimeout_ends⟩

end Sys2Proof.Machine
end

section
/-! SUPPORT. What Canopy's close does beside the power chapter and Root (R478, R484): the bridge's lines landed, the agents and Dales held, the
rings, links and connections ended. -/

namespace Sys2Proof.Machine

namespace State.SysTo

variable {s t u : State}

theorem of_enters (h : s.EntersTo t) : SysTo s t := of_affectsNone (.of_entersTo h)

theorem tokGive (s : State) (c : Nat) : SysTo s (s.tokGive c) := of_affectsNone (.tokGive _ _)

theorem setToken (s : State) (c : Nat) (x : Token) : SysTo s (s.setToken c x) := of_affectsNone (.setToken _ _ _)

theorem setRing (s : State) (q : Nat) (x : Ring) : SysTo s (s.setRing q x) := of_enters (.setRing _ _ _)

theorem withIng (s : State) (x : Ingest) : SysTo s { s with ing := x } := ⟨rfl, fun _ _ => rfl, fun _ => ⟨rfl, rfl⟩⟩

theorem withProd (s : State) (x : Products) : SysTo s { s with prod := x } := ⟨rfl, fun _ _ => rfl, fun _ => ⟨rfl, rfl⟩⟩

theorem withBridge (s : State) (x : Bridge) : SysTo s { s with bridge := x } := ⟨rfl, fun _ _ => rfl, fun _ => ⟨rfl, rfl⟩⟩

theorem withEth (s : State) (x : Eth) : SysTo s { s with eth := x } := ⟨rfl, fun _ _ => rfl, fun _ => ⟨rfl, rfl⟩⟩

theorem withHeld (s : State) (x : List Nat) : SysTo s { s with held := x } := ⟨rfl, fun _ _ => rfl, fun _ => ⟨rfl, rfl⟩⟩

theorem withOwed (s : State) (x : List (Nat × Nat)) : SysTo s { s with mbxOwed := x } := ⟨rfl, fun _ _ => rfl, fun _ => ⟨rfl, rfl⟩⟩

theorem irq (s : State) (d : Dest) (x : IrqSrc) : SysTo s (s.irq d x) := ⟨rfl, fun _ _ => rfl, fun _ => ⟨rfl, rfl⟩⟩

theorem setHlt (s : State) (x : Health) : SysTo s (s.setHlt x) := ⟨rfl, fun _ _ => rfl, fun _ => ⟨rfl, rfl⟩⟩

theorem mapBit (s : State) {base : Nat} (q : Nat) (v : Bool) (h : 0x1000 ≤ base) : SysTo s (s.mapBit base q v) :=
  wrB s v (by show 0x1000 ≤ base + 4 * (q / 32 % 4); omega)

/-! ### The bridge's lines (R17, R117, R205) -/

theorem wpos_le (n : Nat) : 0x1000 ≤ Reg.ING_STRn_WPOS n := by
  unfold Reg.ING_STRn_WPOS
  omega

theorem stepWpos (s : State) (n : Nat) : SysTo s (s.stepWpos n) := (withIng s _).trans (wr _ _ (wpos_le n))

theorem mirrorFrame (s : State) (n : Nat) (trays : List (List Samp × (Bytes × Bool))) : SysTo s (s.mirrorFrame n trays) := by
  unfold State.mirrorFrame
  split
  · extract_lets l pos r t m u
    have hr : SysTo s r.1 := of_enters (.handoff s _ _)
    split
    · exact (hr.trans (withIng r.1 _)).trans (wr _ _ (by decide))
    · exact ((inc s (by decide)).trans (wr _ _ (by decide))).trans (withIng _ _)
  · exact refl s

theorem captureFrame (s : State) (c : Capture) (trays : List (List Samp × (Bytes × Bool))) (bytes : Bytes) :
    SysTo s (s.captureFrame c trays bytes) := by
  unfold State.captureFrame
  extract_lets t0 others a first ok w c2 res st
  have hw : SysTo s w.1 := by
    unfold w
    split
    · exact refl s
    · split
      · exact of_enters (.put s a bytes)
      · exact of_enters (.handoff s a bytes)
  split
  · exact refl s
  · split
    · exact (withIng s _).trans (complete _ _ _ _)
    · split
      · exact (hw.trans (withIng _ _)).trans (complete _ _ _ _)
      · exact hw.trans (withIng _ _)

theorem framePublished (s : State) (n : Nat) (trays : List (List Samp × (Bytes × Bool))) (bytes : Bytes) : SysTo s (s.framePublished n trays bytes) := by
  unfold State.framePublished
  extract_lets t1 t2 t3
  have h2 : SysTo s t2 := ((stepWpos s n).trans (of_enters (.wideAdd _ _ _))).trans (mirrorFrame t1 n trays)
  have h3 : SysTo s t3 := h2.trans (foldl (fun (x : State) c => x.captureFrame c trays bytes) (fun x c => captureFrame x c trays bytes) _ _)
  split
  · exact (((h3.trans (wr _ _ (by decide))).trans (wr _ _ (by decide))).trans (flag _ _ (by decide))).trans (of_enters (.ingEntry _ _ _))
  · exact h3

theorem frameLanded (s : State) (n : Nat) : SysTo s (s.frameLanded n) := by
  unfold State.frameLanded
  split
  · exact (withIng s _).trans (framePublished _ _ _ _)
  · exact refl s

theorem fcIssue (s : State) (r : FcRun) : SysTo s (s.fcIssue r) := by
  unfold State.fcIssue
  dsimp only
  refine ite _ (fun _ => ?_) fun _ => ite _ (fun _ => (withBridge s _).trans (withProd _ _)) fun _ => (withBridge s _).trans (withProd _ _)
  have h : SysTo s { s with prod := { s.prod with fcGap := true, fc := none }, bridge := { s.bridge with inbound := s.bridge.inbound.map (fun (l : BridgeLine) => if l.frame = LineTag.forecast then { l with frame := LineTag.plain } else l) } } :=
    ⟨rfl, fun _ _ => rfl, fun _ => ⟨rfl, rfl⟩⟩
  exact h.trans (inc _ (f := F.PRA_BRDROP_FC) (by decide))

theorem fcLanded (s : State) : SysTo s s.fcLanded := by
  unfold State.fcLanded
  split
  · exact refl s
  · exact ite _ (fun _ => withProd s _) fun _ => ite _ (fun _ => fcIssue s _) fun _ => withProd s _

theorem fcDelivered (s : State) : SysTo s s.fcDelivered := by
  unfold State.fcDelivered
  split
  · exact refl s
  · next r rest _ =>
    have hm (x : State) : SysTo x (x.measured F.PRA_FCTIME_LAST F.PRA_FCTIME_PEAK r.us) := (wrSat x _ (by decide)).trans (wr _ _ (by decide))
    exact ((((withProd s _).trans (wr _ _ (by decide))).trans (hm _)).trans (of_enters (.wideAdd _ _ _))).trans (of_enters (.looseEntry _ _ _ _ _ _ _ _ _))

theorem landLine (s : State) (l : BridgeLine) : SysTo s (s.landLine l) := by
  have hs : SysTo s (s.store l.addr l.data l.poison) := of_enters (.store _ _ _ _)
  unfold State.landLine
  dsimp only
  split
  · exact hs
  · exact hs.trans (frameLanded _ _)
  · exact hs.trans (fcLanded _)
  · exact hs.trans (fcDelivered _)

theorem bridgeClose (s : State) : SysTo s s.bridgeClose :=
  ((foldl _ landLine _ _).trans (foldl (fun (x : State) (l : BridgeLine) => x.store l.addr l.data l.poison)
    (fun x _ => of_enters (.store x _ _ _)) _ _)).trans (withBridge _ _)

/-! ### Mailboxes and Dales (R112, R503) -/

theorem mbx_le (m : Nat) : 0x1000 ≤ Reg.MBX_MnSTAT m ∧ 0x1000 ≤ Reg.MBX_MnLO m ∧ 0x1000 ≤ Reg.MBX_MnHI m := by
  unfold Reg.MBX_MnSTAT Reg.MBX_MnLO Reg.MBX_MnHI
  omega

theorem mbxAbort (s : State) (m : Nat) : SysTo s (s.mbxAbort m) := by
  obtain ⟨hs, hl, hh⟩ := mbx_le m
  unfold State.mbxAbort
  extract_lets src t u
  have ht : SysTo s t := ((((wr s _ hs).trans (wr _ _ hs)).trans (setReg _ _ hl)).trans (setReg _ _ hh)).trans (mapBit _ m false (by decide))
  have hu : SysTo s u := (ht.trans (mapBit _ m true (by decide))).trans (inc _ (by decide))
  exact ite _ (fun _ => ite _ (fun _ => hu.trans (irq _ _ _)) fun _ => hu.trans (withOwed _ _)) fun _ => refl s

theorem mbxAbortAll (s : State) (id : Nat) : SysTo s (s.mbxAbortAll id) := foldl _ (fun x _ => mbxAbort x _) _ _

theorem holdAgent (s : State) (id : Nat) : SysTo s (s.holdAgent id) := ite _ (fun _ => refl s) fun _ => (withHeld s _).trans (mbxAbortAll _ _)

theorem holdAgents (s : State) (ids : List Nat) : SysTo s (s.holdAgents ids) := (withHeld s _).trans (foldl _ (fun x i => mbxAbortAll x i) _ _)

theorem dale_le (n : Nat) : 0x1000 ≤ Reg.HLT_DALEn_STAT n ∧ 0x1000 ≤ Reg.HLT_DALEn_CTL n := by
  unfold Reg.HLT_DALEn_STAT Reg.HLT_DALEn_CTL
  omega

theorem trlRole (s : State) : SysTo s s.trlRole := by
  unfold State.trlRole
  split
  · exact ite _ (fun _ => refl s) fun _ => (wr s _ (by decide)).trans (inc _ (by decide))
  · exact refl s

theorem setCarry (s : State) (c : Nat) : SysTo s (s.setCarry c) :=
  (((wr s _ (by decide)).trans (wrB _ _ (dale_le 0).1)).trans (wrB _ _ (dale_le 1).1)).trans (trlRole _)

theorem hltEvent (s : State) (tag b24 b25 res : Nat) (rec : Option (Nat × Nat)) : SysTo s (s.hltEvent tag b24 b25 res rec) := by
  have h : SysTo s (s.eventEntry 67 0x80 tag 0 (resultOf [(24, 1, b24), (25, 1, b25), (28, 8, s.now), (36, 4, res)]) true).1 :=
    of_affectsNone (.eventEntry _ _ _ _ _ _ _)
  unfold State.hltEvent
  dsimp only
  split
  · exact h.trans (record _ _ _ _ _ _ _)
  · exact h

theorem noCarry (s : State) : SysTo s s.noCarry :=
  ite _ (fun _ => refl s) fun _ => ((setCarry s 2).trans (setHlt _ _)).trans (hltEvent _ _ _ _ _ _)

theorem handToken (s : State) (owner : Nat) : SysTo s (s.handToken owner) := ite _ (fun _ => tokGive _ _) fun _ => setToken _ _ _

theorem endPlanned (s : State) (st : Nat) : SysTo s (s.endPlanned st) := by
  unfold State.endPlanned
  split
  · next h _ =>
    refine ite _ (fun _ => refl s) fun _ => ?_
    extract_lets _ t1 t2
    have h1 : SysTo s t1 := (setHlt s _).trans (wr _ _ (by decide))
    have h2 : SysTo s t2 := h1.trans (ite _ (fun _ => refl _) fun _ => handToken _ _)
    clear_value t2
    split
    · exact h2.trans (complete _ _ _ _)
    · exact h2
  · exact refl s

theorem daleHold (s : State) (n : Nat) : SysTo s (s.daleHold n) := by
  unfold State.daleHold
  extract_lets t0 t1 planned
  have h0 : SysTo s t0 := ite _ (fun _ => refl s) fun _ => wr _ _ (dale_le n).1
  have h1 : SysTo s t1 := ((h0.trans (wr _ _ (dale_le n).2)).trans (wr _ _ (dale_le n).2)).trans (holdAgent _ _)
  clear_value t1 planned
  exact ite _ (fun _ => (ite _ (fun _ => h1.trans (endPlanned _ _)) fun _ => h1).trans (noCarry _)) fun _ => ite _ (fun _ => h1.trans (endPlanned _ _)) fun _ => h1

end State.SysTo
end Sys2Proof.Machine
end

section
/-! SUPPORT. Canopy's close and its rails off (R47, R103, R402, R478, R484), beside the power chapter and Root. -/

namespace Sys2Proof.Machine

namespace State.SysTo

variable {s t u : State}

/-! ### Rings (R103, R104) -/

theorem unreserve (s : State) (q : Nat) (d : Desc) : SysTo s (s.unreserve q d) := (setRing s _ _).trans (setRing _ _ _)

theorem qreg_le (q : Nat) : 0x1000 ≤ Reg.RNG_QnCFG q ∧ 0x1000 ≤ Reg.RNG_QnSTAT q := by
  unfold Reg.RNG_QnCFG Reg.RNG_QnSTAT
  omega

theorem ringStop (s : State) (q : Nat) : SysTo s (s.ringStop q) := by
  unfold State.ringStop
  extract_lets waiting t
  have ht : SysTo s t := foldl (fun (x : State) d => x.unreserve q d) (fun x d => unreserve x q d) _ _
  have hcfg : SysTo s (((t.setRing q { t.ring q with mismatch := none }).wr (F.RNG_QnCFG_EN q) 0).wr (F.RNG_QnSTAT_STATE q) 0) :=
    ((ht.trans (setRing _ _ _)).trans (wr _ _ (qreg_le q).1)).trans (wr _ _ (qreg_le q).2)
  exact ((hcfg.trans (mapBit _ q false (by decide))).trans (mapBit _ q false (by decide))).trans (mapBit _ q false (by decide))

theorem ringErr (s : State) (q cause : Nat) : SysTo s (s.ringErr q cause) := by
  unfold State.ringErr
  extract_lets t
  have ht : SysTo s t := ((mapBit s q true (by decide)).trans (wr _ _ (by decide))).trans (wr _ _ (by decide))
  exact ite _ (fun _ => (ht.trans (irq _ _ _)).trans (irq _ _ _)) fun _ => ht

theorem ringKill (s : State) (q cause : Nat) : SysTo s (s.ringKill q cause) := ite _ (fun _ => (ringStop s q).trans (ringErr _ _ _)) fun _ => refl s

theorem canopyRingsOff (s : State) : SysTo s s.canopyRingsOff := foldl _ (fun x _ => (ringKill x _ _).trans (setRing _ _ _)) _ _

/-! ### Links and connections (R384, R467) -/

theorem slot_le (n : Nat) : 0x1000 ≤ Reg.PCE_SLOTs_STAT n := by
  unfold Reg.PCE_SLOTs_STAT
  omega

theorem slotDown (s : State) (n : Nat) (surprise : Bool) : SysTo s (s.slotDown n surprise) := by
  have h := slot_le n
  exact ite _ (fun _ => refl s) fun _ => (((((wr s _ h).trans (wr _ _ h)).trans (wr _ _ h)).trans (wr _ _ h)).trans (wrB _ _ h)).trans (inc _ h)

theorem rootDown (s : State) : SysTo s s.rootDown := by
  refine (ite _ (fun _ => ?_) fun _ => refl s).trans (foldl _ (fun x n => slotDown x n _) _ _)
  exact (((wr s _ (by decide)).trans (wr _ _ (by decide))).trans (wr _ _ (by decide))).trans (inc _ (by decide))

theorem endDown (s : State) : SysTo s s.endDown := by
  refine ite _ (fun _ => ?_) fun _ => refl s
  exact ((((wr s _ (by decide)).trans (wr _ _ (by decide))).trans (wr _ _ (by decide))).trans (inc _ (by decide))).trans (mbxAbortAll _ _)

theorem pceLinksDown (s : State) : SysTo s s.pceLinksDown := (rootDown s).trans (endDown _)

theorem nvmeCloseAll (s : State) : SysTo s s.nvmeCloseAll := (withEth s _).trans (wr _ _ (by decide))

/-! ### The panel, Terrace and the tokens (R402, R511) -/

theorem panelDoze (s : State) : SysTo s s.panelDoze :=
  ite _ (fun _ => refl s) fun _ => ite _ (fun _ => ite _ (fun _ => panMode s _) fun _ => refl s) fun _ => panelRequest s _

theorem dropLayer (s : State) (c : Comp) : SysTo s (s.dropLayer c) := by
  unfold State.dropLayer
  split
  · exact withCam s _
  · exact refl s

theorem engineOff (s : State) : SysTo s s.engineOff := by
  unfold State.engineOff
  dsimp only
  split
  · exact (dropLayer s _).trans (withPan _ _)
  · exact withPan s _

theorem panelCanopyDown (s : State) : SysTo s s.panelCanopyDown := (engineOff s).trans (withPan _ _)

theorem terCanopyDown (s : State) : SysTo s s.terCanopyDown := by
  refine ((moveAbandon s).trans (foldl (fun (y : State) d => y.setDrive d { y.drive d with st := 0, cap := 0, seen := none })
    (fun y _ => withTer y _) _ _)).trans (withTer _ _)

theorem tokEnd (s : State) (owner : Nat) : SysTo s (State.tokEnd s owner) := by
  refine foldl _ (fun x c => ?_) _ _
  dsimp only
  split
  · exact (setToken x _ _).trans (ite _ (fun _ => tokGive _ _) fun _ => refl _)
  · exact ite _ (fun _ => tokGive _ _) fun _ => refl _

/-! ### Canopy's close -/

/-- A Dale reads OFF as Canopy closes, unless it is isolated. -/
def daleOff (s : State) (n : Nat) : State := if s.daleState n = 4 then s else s.wr (F.HLT_DALEn_STAT_STATE n) 0

theorem daleOff_sys (s : State) (n : Nat) : SysTo s (daleOff s n) := ite _ (fun _ => refl s) fun _ => wr _ _ (dale_le n).1

theorem canopyClose (s : State) : SysTo s s.canopyClose := by
  unfold State.canopyClose
  extract_lets t1 t2 t3 hlt t4 t5
  have h1 : SysTo s t1 := ((fellAll s _).trans (bridgeClose _)).trans (holdAgents _ _)
  have h2 : SysTo t1 t2 := ((daleHold t1 0).trans (daleHold _ 1)).trans (noCarry _)
  have h3 : SysTo t2 t3 := foldl _ daleOff_sys _ _
  have h4 : SysTo t3 t4 := (setHlt t3 _).trans (wr _ (f := F.HLT_HOSTAT_STATE) 0 (by decide))
  have h5 : SysTo t4 t5 := ((canopyRingsOff t4).trans (pceLinksDown _)).trans (nvmeCloseAll _)
  refine (h1.trans (h2.trans (h3.trans (h4.trans h5)))).trans ?_
  exact (((panelDoze t5).trans (panelCanopyDown _)).trans (terCanopyDown _)).trans (foldl _ tokEnd _ _)

/-! ### Canopy's rails off (R39, R43, R47) -/

theorem pace_le (n : Nat) : 0x1000 ≤ Reg.HLT_PACEn n := by
  unfold Reg.HLT_PACEn
  omega

theorem withTim (s : State) (x : Timing) : SysTo s { s with tim := x } := ⟨rfl, fun _ _ => rfl, fun _ => ⟨rfl, rfl⟩⟩

/-- The lowest pace written to the two fields of a domain, where a gauge is good. -/
def paceTo (s : State) (low : Option (Nat × Nat)) (idx pace : Fld) : State := match low with
  | some (n, p) => (s.wr idx n).wr pace p
  | none => s

theorem paceTo_sys (s : State) (low : Option (Nat × Nat)) {idx pace : Fld} (hi : 0x1000 ≤ idx.addr) (hp : 0x1000 ≤ pace.addr) :
    SysTo s (paceTo s low idx pace) := by
  unfold paceTo
  split
  · exact (wr s _ hi).trans (wr _ _ hp)
  · exact refl s

theorem paceRegs_eq (s : State) : s.paceRegs = paceTo (paceTo s (s.lowestPace (s.goodGauges false)) F.HLT_PACEBED_IDX F.HLT_PACEBED_PACE)
    ((paceTo s (s.lowestPace (s.goodGauges false)) F.HLT_PACEBED_IDX F.HLT_PACEBED_PACE).lowestPace
      ((paceTo s (s.lowestPace (s.goodGauges false)) F.HLT_PACEBED_IDX F.HLT_PACEBED_PACE).goodGauges
        (paceTo s (s.lowestPace (s.goodGauges false)) F.HLT_PACEBED_IDX F.HLT_PACEBED_PACE).canopyOn)) F.HLT_PACEMIN_IDX F.HLT_PACEMIN_PACE := by
  unfold State.paceRegs paceTo
  rfl

theorem paceRegs (s : State) : SysTo s s.paceRegs := by
  rw [paceRegs_eq]
  exact (paceTo_sys s _ (by decide) (by decide)).trans (paceTo_sys _ _ (by decide) (by decide))

theorem breachEdge (s : State) (was is : Bool) : SysTo s (s.breachEdge was is) :=
  ite _ (fun _ => (of_affectsNone (.notify s _ _)).trans (record _ _ _ _ _ _ _)) fun _ => ite _ (fun _ => record _ _ _ _ _ _ _) fun _ => refl s

theorem judgeBreach (s : State) : SysTo s s.judgeBreach :=
  (((wrB s _ (by decide)).trans (withTim _ _)).trans (breachEdge _ _ _)).trans (breachEdge _ _ _)

/-- Canopy's rails going off leave what belongs to the power chapter and Root beside Canopy's power. -/
theorem canopyDark (s : State) : SysTo { s with canopyOn := false } s.canopyDark := by
  have h : SysTo { s with canopyOn := false } ((gaugesOf true).foldl (fun (x : State) n => x.wr (F.HLT_PACEn_VALID n) 0) { s with canopyOn := false }) :=
    foldl _ (fun x n => wr x _ (pace_le n)) _ _
  exact ite _ (fun _ => ((h.trans (wr _ _ (by decide))).trans (paceRegs _)).trans (judgeBreach _)) fun _ => refl _

end State.SysTo
end Sys2Proof.Machine
end

section
/-! SUPPORT. Resets and the reset button (R484-R486, R494): what a logged reset shows, and how Canopy's rails fall in a module reset. -/

namespace Sys2Proof.Machine

/-! ### The reset log (R494) -/

/-- The registers beside SYS_PWRSTATE. -/
def logRegs : Set Nat := {k | k ≠ Reg.SYS_PWRSTATE}

theorem mem_logRegs (i j : Nat) : Reg.SYS_RSTLOGk_W i j ∈ logRegs := by
  show Reg.SYS_RSTLOGk_W i j ≠ Reg.SYS_PWRSTATE
  unfold Reg.SYS_RSTLOGk_W Reg.SYS_PWRSTATE
  omega

theorem State.logReset_affects (s : State) (cause : Nat) : State.AffectsOnly logRegs s (s.logReset cause) := by
  have hw (x : State) (i j v : Nat) : State.AffectsOnly logRegs x (x.wr (F.SYS_RSTLOGk_W_ENTRY i j) v) := .wr x v (.inl (mem_logRegs i j))
  have hc (x : State) {f : Fld} (v : Nat) (h : f.addr = Reg.SYS_RSTCAUSE) : State.AffectsOnly logRegs x (x.wr f v) :=
    .wr x v (.inl (by rw [h]; show Reg.SYS_RSTCAUSE ≠ Reg.SYS_PWRSTATE; decide))
  exact ((((((hw s _ _ _).trans (hw _ _ _ _)).trans (hw _ _ _ _)).trans (hw _ _ _ _)).trans (hc _ _ rfl)).trans (hc _ _ rfl)).trans (hc _ _ rfl)

theorem State.logReset_target (s : State) (cause : Nat) : (s.logReset cause).rd F.SYS_PWRSTATE_TARGET = s.rd F.SYS_PWRSTATE_TARGET :=
  (s.logReset_affects cause).rd (notEntry (by decide)) fun h => h rfl

theorem State.logReset_cause (s : State) {cause : Nat} (h : cause < 16) : (s.logReset cause).rd F.SYS_RSTCAUSE_CAUSE = cause := by
  unfold State.logReset State.rstEntry
  dsimp only
  have hinc (x : State) : (x.inc F.SYS_RSTCAUSE_COUNT).rd F.SYS_RSTCAUSE_CAUSE = x.rd F.SYS_RSTCAUSE_CAUSE := State.rd_wr_apart x _ (by decide)
  rw [hinc, State.rd_wr_apart _ _ (by decide), State.rd_wr_same _ _ _ (by decide)]
  exact Nat.mod_eq_of_lt h

/-! ### Canopy's rails cut -/

theorem State.SysTo.withCanopyOff {s t : State} (h : State.SysTo s t) : State.SysTo { s with canopyOn := false } { t with canopyOn := false } :=
  ⟨by rw [h.eq]; rfl, h.reg, h.heard⟩

theorem State.SysTo.canopyCut (s : State) : State.SysTo { s with canopyOn := false } s.canopyCut := by
  unfold State.canopyCut
  split
  · exact (State.SysTo.canopyClose s).withCanopyOff.trans (.canopyDark _)
  · next h =>
    have hoff : ({ s with canopyOn := false } : State) = s := by
      rw [← Bool.eq_false_iff.mpr h]
    rw [hoff]
    exact .refl s

/-! ### A module reset (R484) -/

theorem State.runSteps_nil (lo hi : Nat) (q : SeqIn) (s : State) : State.runSteps lo hi q [] s = s := rfl

/-- Bed and Canopy closed in a module reset, the outputs in their fail-safe states. -/
def State.resetClosed (s : State) : State := ((s.requestSafe).canopyCut).fellAll (List.range 9)

theorem State.SysTo.resetClosed (s : State) : State.SysTo { s with canopyOn := false } s.resetClosed :=
  (State.SysTo.requestSafe s).withCanopyOff.trans ((State.SysTo.canopyCut _).trans (.fellAll _ _))

/-- BU3 of a module reset, about to run. -/
def State.resetPosted (s : State) (cause : Nat) : State :=
  { s.resetClosed with bedOn := false, pwr := { s.resetClosed.pwr with held := true, reset := true, rstAs := cause, hot := decide (cause = 8), st := 2, step := 3, turn := none, early := [] } }

theorem State.moduleReset_eq {s : State} (hbed : s.bedOn = true) (hreset : s.pwr.reset = false) (cause : Nat) (q : SeqIn) :
    s.moduleReset cause q = State.runSteps 0x01 0x06 q q.durs ((s.logReset cause).resetPosted cause) := by
  have hlog : (s.logReset cause).pwr.reset = false := by
    rw [(s.logReset_affects cause).part State.pwr fun _ _ => rfl]
    exact hreset
  unfold State.moduleReset
  rw [if_neg (by rw [hbed]; simp)]
  dsimp only
  rw [if_neg (by rw [hlog]; decide)]
  unfold State.resetPosted State.resetClosed
  generalize (((s.logReset cause).requestSafe).canopyCut).fellAll (List.range 9) = t
  rfl

/-- What a module reset shows as BU3 begins. -/
theorem State.resetPosted_shows (s : State) (cause : Nat) : (s.resetPosted cause).bedOn = false ∧ (s.resetPosted cause).canopyOn = false ∧
    (s.resetPosted cause).now = s.now ∧ (s.resetPosted cause).bedApart = s.bedApart ∧
    (s.resetPosted cause).reg Reg.SYS_RSTCAUSE = s.reg Reg.SYS_RSTCAUSE := by
  have h := State.SysTo.resetClosed s
  unfold State.resetPosted
  generalize s.resetClosed = x at h
  exact ⟨rfl, h.part State.canopyOn fun _ _ => rfl, h.part State.now fun _ _ => rfl, h.part State.bedApart fun _ _ => rfl, h.reg _ (by decide)⟩

theorem State.bedApart_resp {s t : State} (h : t.bedApart = s.bedApart) : t.resp = s.resp := by
  obtain ⟨-, -, -, -, hresp⟩ : t.code = s.code ∧ t.hwrev = s.hwrev ∧ t.rootRegs = s.rootRegs ∧ t.latches = s.latches ∧ t.resp = s.resp := by
    simpa [State.bedApart] using h
  exact hresp

theorem State.logReset_apart (s : State) (cause : Nat) : (s.logReset cause).bedApart = s.bedApart ∧ (s.logReset cause).now = s.now :=
  ⟨(s.logReset_affects cause).part State.bedApart fun _ _ => rfl, (s.logReset_affects cause).part State.now fun _ _ => rfl⟩

/-- A module reset in which no step of Bed up ends yet. -/
theorem State.moduleReset_waits {s : State} (hbed : s.bedOn = true) (hreset : s.pwr.reset = false) {cause : Nat} (hc : cause < 16) {q : SeqIn}
    (hq : q.durs = []) : s.moduleReset cause q = (s.logReset cause).resetPosted cause ∧
      ((s.logReset cause).resetPosted cause).rd F.SYS_RSTCAUSE_CAUSE = cause ∧ ((s.logReset cause).resetPosted cause).bedApart = s.bedApart := by
  obtain ⟨-, -, -, hapart, hreg⟩ := (s.logReset cause).resetPosted_shows cause
  refine ⟨?_, (State.rd_congr (f := F.SYS_RSTCAUSE_CAUSE) hreg).trans (s.logReset_cause hc), hapart.trans (s.logReset_apart cause).1⟩
  rw [State.moduleReset_eq hbed hreset, hq, State.runSteps_nil]

/-- A module reset in which BU3 ends. -/
theorem State.moduleReset_ends {s : State} (hbed : s.bedOn = true) (hreset : s.pwr.reset = false) {cause : Nat} (hc : cause < 16) (hcool : cause ≠ 8)
    {q : SeqIn} {ms : Nat} (hq : q.durs = [ms]) : (s.moduleReset cause q).bedApart = s.bedApart ∧ (s.moduleReset cause q).bedOn = true ∧
      (s.moduleReset cause q).canopyOn = false ∧ (s.moduleReset cause q).pwr.step = 4 ∧ (s.moduleReset cause q).rd F.SYS_RSTCAUSE_CAUSE = cause ∧
      (s.moduleReset cause q).now = s.now := by
  rw [State.moduleReset_eq hbed hreset, hq]
  obtain ⟨hlogApart, hlogNow⟩ := s.logReset_apart cause
  obtain ⟨hoff, hcan, hnow, hapart, hreg⟩ := (s.logReset cause).resetPosted_shows cause
  have hpwr : ((s.logReset cause).resetPosted cause).pwr.step = 3 ∧ ((s.logReset cause).resetPosted cause).pwr.turn = none ∧
      ((s.logReset cause).resetPosted cause).pwr.reset = true ∧ ((s.logReset cause).resetPosted cause).pwr.hot = false :=
    ⟨rfl, rfl, rfl, decide_eq_false hcool⟩
  have hcause := s.logReset_cause hc
  generalize (s.logReset cause).resetPosted cause = x at hoff hcan hnow hapart hreg hpwr
  obtain ⟨hstep, hturn, hres, hhot⟩ := hpwr
  have hwaits : x.stepWaits = false := by
    unfold State.stepWaits
    rw [hstep, hhot]
    simp
  obtain ⟨-, hbApart, hbStill, hbReg⟩ := (x.logStep 3 ms).bedStarted_shows q ms
  have hlApart : (x.logStep 3 ms).bedApart = x.bedApart := x.logStep_part 3 ms State.bedApart (fun _ _ _ => rfl) fun _ _ => rfl
  have hlReset : (x.logStep 3 ms).pwr.reset = true := (x.logStep_part 3 ms (fun y => y.pwr.reset) (fun _ _ _ => rfl) fun _ _ => rfl).trans hres
  have hlReg : (x.logStep 3 ms).reg Reg.SYS_RSTCAUSE = x.reg Reg.SYS_RSTCAUSE := by
    unfold State.logStep
    rw [if_neg (by rw [hoff]; decide)]
    rfl
  have huReg := (hbReg hlReset).trans hlReg
  rw [State.logStep_still] at hbStill
  generalize hu : ((x.logStep 3 ms).stepEffect q 3 ms).1 = u at hbApart hbStill huReg
  have hend : x.endStep q ms = u.goStep 4 := State.endStep_next hstep (by decide) (Prod.ext hu rfl) ((congrArg Still.turn hbStill).trans hturn)
  rw [State.runSteps_one q ms (by omega) hwaits, hend]
  have hlast : (u.goStep 4).still = { u.still with step := 4, turn := none } := State.pwrEnter_still u 4
  have hgApart : (u.goStep 4).bedApart = u.bedApart := u.setStep_part 4 State.bedApart (fun _ _ _ => rfl) fun _ _ _ => rfl
  have hgCause : (u.goStep 4).rd F.SYS_RSTCAUSE_CAUSE = u.rd F.SYS_RSTCAUSE_CAUSE := u.setStep_rd 4 (by decide)
  refine ⟨hgApart.trans (hbApart.trans (hlApart.trans (hapart.trans hlogApart))), (congrArg Still.bedOn hlast).trans (congrArg Still.bedOn hbStill),
    (congrArg Still.canopyOn hlast).trans ((congrArg Still.canopyOn hbStill).trans hcan), congrArg Still.step hlast, ?_,
    (congrArg Still.now hlast).trans ((congrArg Still.now hbStill).trans (hnow.trans hlogNow))⟩
  exact hgCause.trans ((State.rd_congr (huReg.trans hreg)).trans hcause)

/-! ### A write of SYS_RSTCMD (R484, R485) -/

/-- An access to SYS is accepted only while Bed is powered. -/
theorem State.bedOn_of_accepts {s : State} {a : Agent} {off : Nat} (h : s.accepts a 0x00 off = true) : s.bedOn = true := by
  simp only [State.accepts, Bool.and_eq_true] at h
  exact h.1.1.1

/-- The key of SYS_RSTCMD lies beside its KIND. -/
theorem rstcmd_key (v : W32) (kind : Nat) : getBits (setBits v 3 0 kind) 31 16 = v.toNat / 2 ^ 16 := by
  rw [getBits_setBits_other (by decide) (by decide) (.inl (by decide))]
  unfold getBits
  rw [Nat.shiftRight_eq_div_pow]
  exact Nat.mod_eq_of_lt (Nat.div_lt_of_lt_mul v.isLt)

theorem State.rstcmdWrite_module (s : State) {v : W32} (h : v.toNat / 2 ^ 16 = 0x52E5) (q : SeqIn) :
    s.rstcmdWrite (setBits v 3 0 1) q = s.moduleReset 5 q := by
  unfold State.rstcmdWrite
  rw [rstcmd_key, if_neg (not_not_intro h), getBits_setBits_same (by decide)]
  rfl

theorem State.rstcmdWrite_canopy (s : State) {v : W32} (h : v.toNat / 2 ^ 16 = 0x52E5) (q : SeqIn) :
    s.rstcmdWrite (setBits v 3 0 2) q = s.canopyRestart 6 q := by
  unfold State.rstcmdWrite
  rw [rstcmd_key, if_neg (not_not_intro h), getBits_setBits_same (by decide)]
  rfl

theorem execModuleReset_resets (s : State) (ag : Agent) (v : W32) (q : SeqIn) (ms : Nat) (hacc : s.accepts ag 0x00 0x02C = true)
    (hkey : v.toNat / 2 ^ 16 = 0x52E5) (hq : q.durs = [ms]) (hreset : s.pwr.reset = false) :
    Completes (.moduleReset ag v q) s (fun t => t.resp = .done ∧ t.bedOn = true ∧ t.canopyOn = false ∧ t.pwr.step = 4 ∧
      t.rd F.SYS_RSTCAUSE_CAUSE = 5 ∧ t.now = s.now) := by
  have hrun : exec (.moduleReset ag v q) s = .next (s.done.moduleReset 5 q) := by
    refine congrArg Host.Outcome.next ((State.gate_accepts _ hacc).trans ?_)
    exact State.rstcmdWrite_module _ hkey q
  have hbed := State.bedOn_of_accepts hacc
  obtain ⟨hapart, hon, hcan, hstep, hcause, hnow⟩ := State.moduleReset_ends (s := s.done) hbed hreset (cause := 5) (by decide) (by decide) hq
  exact ⟨_, hrun, State.bedApart_resp hapart, hon, hcan, hstep, hcause, hnow⟩

end Sys2Proof.Machine
end

section
/-! SUPPORT. A Canopy restart, the reset button and the supply events (R469-R472, R485, R486). -/

namespace Sys2Proof.Machine

/-! ### A Canopy restart (R485) -/

theorem State.runSteps_cons {s : State} {lo hi : Nat} (q : SeqIn) (ms : Nat) (r : List Nat) (h : lo ≤ s.pwr.step ∧ s.pwr.step ≤ hi) (hw : s.stepWaits = false) :
    State.runSteps lo hi q (ms :: r) s = State.runSteps lo hi q r (s.endStep q ms) := by
  conv_lhs => unfold State.runSteps
  exact if_pos ⟨h.1, h.2, hw⟩

/-- CD4 entered with CU2 to follow CD5. -/
def State.cutTurned (s : State) : State := (s.pwrEnter 0x15).setTurn (some 0x0E)

/-- CD4 ended with CU2 to follow CD5. -/
def State.cutClosed (s : State) (m : Nat) : State := (((s.cutTurned.logStep 0x15 m).canopyClose).pwrEnter 0x16).setTurn (some 0x0E)

theorem State.cutTurned_power (s : State) : State.PowerTo enterFields s s.cutTurned := (State.PowerTo.pwrEnter enterFields_self s _).trans (.setTurn _ _)

theorem State.cutClosed_power (s : State) (m : Nat) : State.PowerTo enterFields s (s.cutClosed m) :=
  (s.cutTurned_power.trans (.logStep _ _ _)).trans ((State.PowerTo.of_sys (.canopyClose _)).trans ((State.PowerTo.pwrEnter enterFields_self _ _).trans (.setTurn _ _)))

theorem State.cutTurned_ends (s : State) (q : SeqIn) (m : Nat) : s.cutTurned.endStep q m = s.cutClosed m := by
  have hturn : ((s.cutTurned.logStep 0x15 m).canopyClose).pwr.turn = some 0x0E :=
    congrArg Still.turn ((State.canopyClose_still _).trans (s.cutTurned.logStep_still 0x15 m))
  have hstep : s.cutTurned.pwr.step = 0x15 := State.pwrEnter_step s (by decide)
  have heff : (s.cutTurned.logStep 0x15 m).stepEffect q 0x15 m = ((s.cutTurned.logStep 0x15 m).canopyClose, none) := rfl
  unfold State.endStep State.cutClosed
  rw [hstep]
  dsimp only
  rw [heff]
  generalize (s.cutTurned.logStep 0x15 m).canopyClose = u at hturn
  dsimp only
  have hnext : u.following 0x15 = 0x16 := by
    unfold State.following
    rw [hturn]
    rfl
  rw [Option.getD_none, hnext, if_pos rfl, hturn, if_neg (fun h => absurd h.1 (by decide))]
  rfl

/-- CD5 ended: Canopy is off and CU2 begins. -/
def State.cutOff (s : State) (n : Nat) : State := ((s.logStep 0x16 n).canopyDark).pwrEnter 0x0E

theorem State.endStep_turned {s : State} (q : SeqIn) (n : Nat) (hstep : s.pwr.step = 0x16) (hturn : s.pwr.turn = some 0x0E) : s.endStep q n = s.cutOff n := by
  have hturn' : ((s.logStep 0x16 n).canopyDark).pwr.turn = some 0x0E :=
    (congrArg Still.turn ((State.canopyDark_still _).trans (congrArg (fun x : Still => { x with canopyOn := false }) (s.logStep_still 0x16 n)))).trans hturn
  have heff : (s.logStep 0x16 n).stepEffect q 0x16 n = ((s.logStep 0x16 n).canopyDark, none) := rfl
  rw [State.endStep_goes hstep (by decide) heff]
  unfold State.cutOff
  generalize (s.logStep 0x16 n).canopyDark = u at hturn'
  have hnext : u.following 0x16 = 0x0E := by
    unfold State.following
    rw [hturn']
    rfl
  rw [Option.getD_none, hnext, if_neg (fun h => absurd h.1 (by decide))]
  rfl

theorem State.cutOff_shows (s : State) (n : Nat) : (s.cutOff n).canopyOn = false ∧ (s.cutOff n).pwr.step = 14 ∧ (s.cutOff n).resp = s.resp ∧
    (s.cutOff n).rd F.SYS_RSTCAUSE_CAUSE = s.rd F.SYS_RSTCAUSE_CAUSE := by
  have hdark := State.SysTo.canopyDark (s.logStep 0x16 n)
  have hlog := State.PowerTo.logStep (W := enterFields) s 0x16 n
  unfold State.cutOff
  have hcan : ((s.logStep 0x16 n).canopyDark).canopyOn = false := hdark.part State.canopyOn fun _ _ => rfl
  have hresp : ((s.logStep 0x16 n).canopyDark).resp = s.resp := (hdark.part State.resp fun _ _ => rfl).trans hlog.resp
  have hcause : ((s.logStep 0x16 n).canopyDark).rd F.SYS_RSTCAUSE_CAUSE = s.rd F.SYS_RSTCAUSE_CAUSE :=
    (hdark.rd (f := F.SYS_RSTCAUSE_CAUSE) (by decide)).trans (hlog.rd _ (by decide))
  generalize (s.logStep 0x16 n).canopyDark = u at hcan hresp hcause
  have h := State.PowerTo.pwrEnter enterFields_self u 0x0E
  exact ⟨(h.part State.canopyOn fun _ _ _ => rfl).trans hcan, State.pwrEnter_step u (by decide), h.resp.trans hresp, (h.rd _ (by decide)).trans hcause⟩

theorem State.canopyRestart_eq {s : State} (cause : Nat) (q : SeqIn) (m n : Nat) (hq : q.durs = [m, n]) (hcan : s.canopyOn = true)
    (ht : s.target = 2) : s.canopyRestart cause q = ((s.logReset cause).cutClosed m).cutOff n := by
  have hcan' : (s.logReset cause).canopyOn = true := ((s.logReset_affects cause).part State.canopyOn fun _ _ => rfl).trans hcan
  have ht' : ((s.logReset cause).pwrEnter 0x15).target = 2 := by
    have h := (State.PowerTo.pwrEnter enterFields_self (s.logReset cause) 0x15).rd F.SYS_PWRSTATE_TARGET (by decide)
    exact h.trans ((s.logReset_target cause).trans ht)
  have hstep : (s.logReset cause).cutTurned.pwr.step = 0x15 := State.pwrEnter_step _ (by decide)
  have hclosed : ((s.logReset cause).cutClosed m).pwr.step = 0x16 := State.pwrEnter_step ((s.logReset cause).cutTurned.logStep 0x15 m).canopyClose (by decide)
  unfold State.canopyRestart
  dsimp only
  rw [if_neg (by rw [hcan']; decide), if_pos ht', hq]
  show State.runSteps 0x0E 0x16 q [m, n] (s.logReset cause).cutTurned = _
  rw [State.runSteps_cons q m [n] (by omega) (State.stepWaits_free hstep (by decide)), State.cutTurned_ends,
    State.runSteps_one q n (by omega) (State.stepWaits_free hclosed (by decide)), State.endStep_turned q n hclosed rfl]

theorem execCanopyRestart_restarts (s : State) (ag : Agent) (v : W32) (q : SeqIn) (m n : Nat) (hacc : s.accepts ag 0x00 0x02C = true)
    (hkey : v.toNat / 2 ^ 16 = 0x52E5) (hq : q.durs = [m, n]) (hcan : s.canopyOn = true) (_ : s.bedOn = true) (ht : s.target = 2) :
    Completes (.canopyRestart ag v q) s (fun t => t.resp = .done ∧ t.canopyOn = false ∧ t.pwr.step = 14 ∧ t.rd F.SYS_RSTCAUSE_CAUSE = 6) := by
  have hrun : exec (.canopyRestart ag v q) s = .next (((s.done.logReset 6).cutClosed m).cutOff n) := by
    refine congrArg Host.Outcome.next ((State.gate_accepts _ hacc).trans ?_)
    exact (State.rstcmdWrite_canopy _ hkey q).trans (State.canopyRestart_eq 6 q m n hq hcan ht)
  obtain ⟨hoff, hstep, hresp, hcause⟩ := ((s.done.logReset 6).cutClosed m).cutOff_shows n
  have hclosed := (s.done.logReset 6).cutClosed_power m
  have hlog : (s.done.logReset 6).resp = .done := (s.done.logReset_affects 6).part State.resp fun _ _ => rfl
  exact ⟨_, hrun, hresp.trans (hclosed.resp.trans hlog), hoff, hstep,
    hcause.trans ((hclosed.rd _ (by decide)).trans (s.done.logReset_cause (by decide)))⟩

/-! ### The reset button (R486) -/

/-- A press counted, with the wake level of the button. -/
def State.pressed (s : State) (released : Bool) : State :=
  (s.rootWr F.RTD_BTN_PRESS (satAdd 16 (s.rootRd F.RTD_BTN_PRESS) 1)).wakeLevel F.RTD_WAKELVL_BTN (!released)

theorem State.pressed_press (s : State) (released : Bool) :
    (s.pressed released).rootRd F.RTD_BTN_PRESS = min (s.rootRd F.RTD_BTN_PRESS + 1) 65535 := by
  have h := s.rootRd_rootWr_same F.RTD_BTN_PRESS (satAdd 16 (s.rootRd F.RTD_BTN_PRESS) 1) (by decide)
  refine (State.rootRd_rootWr_other _ _ (by decide)).trans (h.trans (Nat.mod_eq_of_lt ?_))
  show min _ 65535 < 65536
  omega

theorem State.pressed_wakeOn (s : State) (released : Bool) (src : Nat) : (s.pressed released).wakeOn src = s.wakeOn src :=
  congrArg (fun x => bitAt x src) ((State.rootRd_rootWr_other _ _ (by decide)).trans (State.rootRd_rootWr_other _ _ (by decide)))

theorem State.moduleReset_rootRd (s : State) {cause : Nat} (hc : cause < 16) {q : SeqIn} (hq : q.durs = []) (f : Fld) :
    (s.moduleReset cause q).rootRd f = s.rootRd f := by
  have hlog : (s.logReset cause).rootRd f = s.rootRd f := State.rootRd_of_apart (s.logReset_apart cause).1 f
  by_cases hreset : s.pwr.reset = false
  · by_cases hbed : s.bedOn = true
    · obtain ⟨heq, -, hapart⟩ := State.moduleReset_waits hbed hreset hc hq
      rw [heq]
      exact State.rootRd_of_apart hapart f
    · unfold State.moduleReset
      rw [if_pos ⟨Bool.eq_false_iff.mpr hbed, hreset⟩]
  · have hreset' : (s.logReset cause).pwr.reset = true := by
      rw [(s.logReset_affects cause).part State.pwr fun _ _ => rfl]
      exact Bool.eq_true_of_not_eq_false hreset
    unfold State.moduleReset
    rw [if_neg (fun h => hreset h.2)]
    dsimp only
    rw [if_pos hreset']
    exact hlog

theorem execResetButton_presses (s : State) (released : Bool) (q : SeqIn) (hroot : s.rootOn = true) (hstuck : s.rootBit F.RTD_STAT_BTNSTUCK = false)
    (hq : q.durs = []) :
    Completes (.resetButton released q) s (fun t => t.rootRd F.RTD_BTN_PRESS = min (s.rootRd F.RTD_BTN_PRESS + 1) 65535 ∧
      (s.bedOn = true → s.pwr.reset = false → t.bedOn = false ∧ t.pwr.step = 3 ∧ t.rd F.SYS_RSTCAUSE_CAUSE = 4) ∧
      (s.bedOn = false → s.pwr.st = 1 → s.wakeOn 6 = true → s.pwr.step = 0 → t.pwr.step = 1)) := by
  have hrun : exec (.resetButton released q) s = .next (if (s.pressed released).pwr.st = 1 ∧ (s.pressed released).bedOn = false
      then (s.pressed released).wakeAccept 6 else (s.pressed released).moduleReset 4 q) :=
    congrArg Host.Outcome.next (if_neg (by rw [hroot, hstuck]; simp))
  have hpress := s.pressed_press released
  have hon := s.pressed_wakeOn released 6
  have hpwr : (s.pressed released).pwr = s.pwr := rfl
  have hbed : (s.pressed released).bedOn = s.bedOn := rfl
  refine ⟨_, hrun, ?_⟩
  dsimp only
  generalize s.pressed released = x at hpress hon hpwr hbed
  rw [← hpwr, ← hbed, ← hon]
  by_cases h : x.pwr.st = 1 ∧ x.bedOn = false
  · rw [if_pos h]
    refine ⟨(State.wakeAccept_rootRd x 6 (by decide)).trans hpress, fun hb => ?_, fun _ hst hwake hstep => (State.wakeAccept_starts hst hwake).2 hstep⟩
    rw [h.2] at hb
    exact absurd hb Bool.noConfusion
  · rw [if_neg h]
    refine ⟨(x.moduleReset_rootRd (by decide) hq _).trans hpress, fun hb hr => ?_, fun hb hst => absurd ⟨hst, hb⟩ h⟩
    obtain ⟨heq, hcause, -⟩ := State.moduleReset_waits hb hr (cause := 4) (by decide) hq
    rw [heq]
    exact ⟨rfl, rfl, hcause⟩

theorem State.RecordsTo.rootReg {s t : State} (h : s.RecordsTo t) (k : Nat) : t.rootReg k = s.rootReg k := by
  obtain ⟨⟨r, i, e, rfl⟩, -⟩ := h
  rfl

theorem execButtonStuck_counts (s : State) (hroot : s.rootOn = true) (hlevel : s.rootBit F.RTD_WAKELVL_BTN = true) :
    Completes (.buttonStuck) s (fun t => t.rootBit F.RTD_STAT_BTNSTUCK = true ∧
      (s.rootBit F.RTD_STAT_BTNSTUCK = false → t.rootRd F.RTD_BTN_STUCK = min (s.rootRd F.RTD_BTN_STUCK + 1) 65535)) := by
  by_cases hstuck : s.rootBit F.RTD_STAT_BTNSTUCK = true
  · exact ⟨s, congrArg Host.Outcome.next (if_neg (by rw [hstuck]; simp)), hstuck, fun h => absurd (hstuck.symm.trans h) Bool.noConfusion⟩
  · refine ⟨_, congrArg Host.Outcome.next (if_pos ⟨hroot, hlevel, Bool.eq_false_iff.mpr hstuck⟩), ?_⟩
    dsimp only
    have hcount := (s.rootWr F.RTD_STAT_BTNSTUCK 1).rootRd_rootWr_same F.RTD_BTN_STUCK (satAdd 16 (s.rootRd F.RTD_BTN_STUCK) 1) (by decide)
    have hbit : ((s.rootWr F.RTD_STAT_BTNSTUCK 1).rootWr F.RTD_BTN_STUCK (satAdd 16 (s.rootRd F.RTD_BTN_STUCK) 1)).rootRd F.RTD_STAT_BTNSTUCK = 1 :=
      (State.rootRd_rootWr_other _ _ (by decide)).trans (s.rootRd_rootWr_same _ 1 (by decide))
    have hrec (x : State) (f : Fld) : (x.record 0x02 0x41 sevWarning 0 0 0).rootRd f = x.rootRd f :=
      State.rootRd_congr ((State.RecordsTo.record x _ _ _ _ _ _).rootReg _)
    refine ⟨decide_eq_true ((hrec _ _).trans hbit), fun _ => (hrec _ _).trans (hcount.trans (Nat.mod_eq_of_lt ?_))⟩
    show min _ 65535 < 65536
    omega

theorem execButtonUnmask_ends (s : State) (hroot : s.rootOn = true) : Completes (.buttonUnmask) s (fun t => t.rootBit F.RTD_STAT_BTNSTUCK = false) := by
  by_cases hstuck : s.rootBit F.RTD_STAT_BTNSTUCK = true
  · have h : (s.rootWr F.RTD_STAT_BTNSTUCK 0).rootRd F.RTD_STAT_BTNSTUCK = 0 := s.rootRd_rootWr_same _ 0 (by decide)
    refine ⟨_, congrArg Host.Outcome.next (if_pos ⟨hroot, hstuck⟩), decide_eq_false ?_⟩
    have h' : ((s.rootWr F.RTD_STAT_BTNSTUCK 0).wakeLevel F.RTD_WAKELVL_BTN false).rootRd F.RTD_STAT_BTNSTUCK = 0 :=
      (State.rootRd_rootWr_other _ _ (by decide)).trans h
    rw [h']
    decide
  · exact ⟨s, congrArg Host.Outcome.next (if_neg fun h => hstuck h.2), Bool.eq_false_iff.mpr hstuck⟩

end Sys2Proof.Machine
end

section
/-! SUPPORT. The supply events (R469, R470, R472), and the resets and supply commands together. -/

namespace Sys2Proof.Machine

/-! ### What supply events note -/

theorem State.supLog_rootReg (s : State) (event : Nat) {mv : Nat} (hmv : mv < 65536) (hev : event < 16) :
    ((s.supLog event mv).rootReg Reg.RTD_SUPLOG).toNat = event * 2 ^ 28 + mv := by
  unfold State.supLog
  rw [State.setRoot_rootReg_same, BitVec.toNat_ofNat, show min mv 0xFFFF = mv by omega]
  omega

theorem State.sysFlag_affects (s : State) (stat ie : Fld) : State.AffectsOnly {stat.addr} s (s.sysFlag stat ie) :=
  .ite _ (fun _ => .flag s ie (.inl rfl)) fun _ => .refl s

theorem State.supplyMv_affects (s : State) (mv : Nat) : State.AffectsOnly {Reg.SYS_SUPPLY} s (s.supplyMv mv) :=
  .ite _ (fun _ => .wrSat s mv (.inl rfl)) fun _ => .refl s

theorem State.AffectsOnly.rootReg {S : Set Nat} {s t : State} (h : State.AffectsOnly S s t) (k : Nat) : t.rootReg k = s.rootReg k :=
  State.rootReg_congr (h.part State.code fun _ _ => rfl) (h.part State.hwrev fun _ _ => rfl) (h.part State.rootRegs fun _ _ => rfl) k

theorem State.AffectsOnly.powered {S : Set Nat} {s t : State} (h : State.AffectsOnly S s t) : (t.bedOn, t.canopyOn) = (s.bedOn, s.canopyOn) :=
  h.part (fun x => (x.bedOn, x.canopyOn)) fun _ _ => rfl

/-- The log entry, the measured supply and the flag of a supply event. -/
def State.supplyNoted (s : State) (event mv : Nat) (stat : Fld) : State := ((s.supLog event mv).supplyMv mv).sysFlag stat F.SYS_CTL_IE_SUP

/-- A flag of SYS_STAT raised while Bed is powered. -/
theorem State.sysFlag_on {s : State} {stat : Fld} (ie : Fld) (hhi : stat.hi < 32) (hbit : stat.hi = stat.lo) (hbed : s.bedOn = true) :
    (s.sysFlag stat ie).on stat = true := by
  unfold State.sysFlag
  rw [if_pos hbed]
  exact decide_eq_true (State.flag_rd_same _ hhi hbit)

theorem State.setRoot_powered (s : State) (key : Nat) (w : W32) : (s.setRoot key w).bedOn = s.bedOn ∧
    ((s.setRoot key w).bedOn, (s.setRoot key w).canopyOn) = (s.bedOn, s.canopyOn) := ⟨rfl, rfl⟩

/-- What a supply event shows. -/
theorem State.supplyNoted_shows (s : State) {event mv : Nat} {stat : Fld} (hmv : mv < 65536) (hev : event < 16) (hhi : stat.hi < 32) (hbit : stat.hi = stat.lo) :
    ((s.supplyNoted event mv stat).rootReg Reg.RTD_SUPLOG).toNat = event * 2 ^ 28 + mv ∧
      (s.bedOn = true → (s.supplyNoted event mv stat).on stat = true) ∧
      ((s.supplyNoted event mv stat).bedOn, (s.supplyNoted event mv stat).canopyOn) = (s.bedOn, s.canopyOn) := by
  have hlog := s.supLog_rootReg event hmv hev
  obtain ⟨hb, hp⟩ : (s.supLog event mv).bedOn = s.bedOn ∧ ((s.supLog event mv).bedOn, (s.supLog event mv).canopyOn) = (s.bedOn, s.canopyOn) :=
    s.setRoot_powered Reg.RTD_SUPLOG _
  unfold State.supplyNoted
  generalize s.supLog event mv = x at hlog hb hp
  have hm := x.supplyMv_affects mv
  have hbed : (x.supplyMv mv).bedOn = s.bedOn := (hm.part State.bedOn fun _ _ => rfl).trans hb
  have hpow := hm.powered.trans hp
  have hreg := hm.rootReg Reg.RTD_SUPLOG
  generalize x.supplyMv mv = y at hbed hpow hreg
  have hf := y.sysFlag_affects stat F.SYS_CTL_IE_SUP
  refine ⟨?_, fun h => State.sysFlag_on _ hhi hbit (hbed.trans h), hf.powered.trans hpow⟩
  rw [hf.rootReg, hreg]
  exact hlog

theorem execSupplyLow_logs (s : State) (mv : Nat) (hroot : s.rootOn = true) (hst : s.pwr.st ≠ 0) (hlo : 6000 ≤ mv) (hhi : mv < 9000) :
    Completes (.supplyLow mv) s (fun t => (t.rootReg Reg.RTD_SUPLOG).toNat = 2 ^ 28 + mv ∧ (s.bedOn = true → t.on F.SYS_STAT_SUPLOW = true) ∧
      (t.bedOn, t.canopyOn) = (s.bedOn, s.canopyOn)) := by
  have h := s.supplyNoted_shows (event := 1) (mv := mv) (stat := F.SYS_STAT_SUPLOW) (by omega) (by decide) (by decide) rfl
  rw [Nat.one_mul] at h
  exact ⟨_, congrArg Host.Outcome.next (if_pos ⟨hroot, hst, hlo, hhi⟩), h⟩

theorem execSupplyHigh_logs (s : State) (mv : Nat) (hroot : s.rootOn = true) (hst : s.pwr.st ≠ 0) (hlo : 32000 < mv) (hhi : mv ≤ 60000) :
    Completes (.supplyHigh mv) s (fun t => (t.rootReg Reg.RTD_SUPLOG).toNat = 3 * 2 ^ 28 + mv ∧ (s.bedOn = true → t.on F.SYS_STAT_SUPHIGH = true) ∧
      (t.bedOn, t.canopyOn) = (s.bedOn, s.canopyOn)) := by
  have hrun : exec (.supplyHigh mv) s = .next ((s.supplyNoted 3 mv F.SYS_STAT_SUPHIGH).record 0x00 0x40 sevWarning mv 0 0) :=
    congrArg Host.Outcome.next (if_pos ⟨hroot, hst, hlo, hhi⟩)
  obtain ⟨hlog, hon, hpow⟩ := s.supplyNoted_shows (event := 3) (mv := mv) (stat := F.SYS_STAT_SUPHIGH) (by omega) (by decide) (by decide) rfl
  generalize s.supplyNoted 3 mv F.SYS_STAT_SUPHIGH = x at hrun hlog hon hpow
  have hrec := State.RecordsTo.record x 0x00 0x40 sevWarning mv 0 0
  refine ⟨_, hrun, by rw [hrec.rootReg]; exact hlog, fun h => (State.on_congr (State.rd_congr (f := F.SYS_STAT_SUPHIGH) (hrec.2 _ (by decide)))).trans (hon h), ?_⟩
  have h := x.record_still 0x00 0x40 sevWarning mv 0 0
  exact (congrArg (fun y : Still => (y.bedOn, y.canopyOn)) h).trans hpow

/-! ### A supply failure (R470) -/

theorem State.sysFlag_rootReg (s : State) (stat ie : Fld) (k : Nat) : (s.sysFlag stat ie).rootReg k = s.rootReg k := (s.sysFlag_affects stat ie).rootReg k

theorem State.rootWr_rootReg_other (s : State) {f : Fld} (v : Nat) {k : Nat} (h : k ≠ f.addr) : (s.rootWr f v).rootReg k = s.rootReg k :=
  s.setRoot_rootReg_other _ h

/-- A Root save leaves the registers of Root beside its own. -/
theorem State.rootSave_rootReg (s : State) (cause : Nat) (ok : Bool) {k : Nat} (h : k ≠ Reg.RTD_SAVE) (h' : k ≠ Reg.RTD_STAT) :
    (s.rootSave cause ok).rootReg k = s.rootReg k := by
  have hnoted : (s.saveNoted cause ok).rootReg k = s.rootReg k :=
    (State.rootWr_rootReg_other _ _ h).trans ((State.rootWr_rootReg_other _ _ h).trans (State.rootWr_rootReg_other _ _ h))
  rw [State.rootSave_eq]
  split
  · exact hnoted
  · rw [(State.RecordsTo.record _ _ _ _ _ _ _).rootReg, State.sysFlag_rootReg]
    exact (State.rootWr_rootReg_other _ 1 h').trans hnoted

/-- The module in the Vault state, the failure logged and counted. -/
def State.vaulted (s : State) (mv : Nat) : State :=
  (((s.railsFall).commitAll).supLog 2 mv).setRoot Reg.RTD_VAULTCNT
    (BitVec.ofNat 32 (satAdd 32 ((((s.railsFall).commitAll).supLog 2 mv).rootReg Reg.RTD_VAULTCNT).toNat 1))

theorem State.vaulted_shows (s : State) {mv : Nat} (hmv : mv < 65536) : (s.vaulted mv).still = s.railsFall.still ∧ (s.vaulted mv).latches = [] ∧
    ((s.vaulted mv).rootReg Reg.RTD_SUPLOG).toNat = 2 * 2 ^ 28 + mv := by
  have hlatch := s.railsFall.commitAll_latches
  have hstill := s.railsFall.commitAll_still
  unfold State.vaulted
  generalize s.railsFall.commitAll = x at hlatch hstill
  have hlog := x.supLog_rootReg 2 hmv (by decide)
  refine ⟨hstill, hlatch, ?_⟩
  rw [State.setRoot_rootReg_other _ _ (by decide)]
  exact hlog

theorem execSupplyFailure_vaults (s : State) (mv : Nat) (ok : Bool) (hroot : s.rootOn = true) (hst : s.pwr.st ≠ 0) (hmv : mv < 6000) :
    Completes (.supplyFailure mv ok) s (fun t => t.rootOn = true ∧ t.bedOn = false ∧ t.canopyOn = false ∧ t.pwr.st = 0 ∧ t.latches = [] ∧
      (t.rootReg Reg.RTD_SUPLOG).toNat = 2 * 2 ^ 28 + mv) := by
  have hrun : exec (.supplyFailure mv ok) s = .next (((s.vaulted mv).record 0x02 0x40 sevSafety mv 0 0).rootSave 3 ok) := by
    refine (congrArg Host.Outcome.next (if_pos ⟨hroot, hst, hmv⟩)).trans ?_
    unfold State.vaulted
    generalize s.railsFall.commitAll = x
    rfl
  obtain ⟨hstill, hlatch, hlog⟩ := s.vaulted_shows (mv := mv) (by omega)
  rw [State.railsFall_still] at hstill
  generalize s.vaulted mv = x at hrun hstill hlatch hlog
  have hrec := State.RecordsTo.record x 0x02 0x40 sevSafety mv 0 0
  have hrecl := x.record_latches 0x02 0x40 sevSafety mv 0 0
  have hrecs := (x.record_still 0x02 0x40 sevSafety mv 0 0).trans hstill
  rw [← hrec.rootReg] at hlog
  generalize x.record 0x02 0x40 sevSafety mv 0 0 = y at hrun hlog hrecl hrecs
  have h := (y.rootSave_still 3 ok).trans hrecs
  have hkept := y.rootSave_kept 3 ok
  have hreg := y.rootSave_rootReg 3 ok (k := Reg.RTD_SUPLOG) (by decide) (by decide)
  refine ⟨_, hrun, ?_⟩
  generalize y.rootSave 3 ok = z at h hkept hreg
  exact ⟨(congrArg Still.rootOn h).trans hroot, congrArg Still.bedOn h, congrArg Still.canopyOn h, congrArg Still.st h,
    hkept.2.trans (hrecl.trans hlatch), by rw [hreg]; exact hlog⟩

/-! ### The supply's return (R472) -/

/-- Root-armed on the return of the supply. -/
def State.returned (s : State) (mv : Nat) : State := (s.supLog 4 mv).setPwr { s.pwr with st := 1, step := 0 }

theorem State.wakeAccept_rootReg (s : State) (src : Nat) {k : Nat} (h : k ≠ Reg.RTD_WAKESTAT) : (s.wakeAccept src).rootReg k = s.rootReg k := by
  have hl : (s.wakeLatched src).rootReg k = s.rootReg k := State.rootWr_rootReg_other _ _ h
  rw [State.wakeAccept_eq]
  split
  · split
    · exact ((State.PowerTo.wakeStarted s src).rootReg k).trans hl
    · exact hl
  · rfl

/-- A wake accepted while a step runs leaves the step. -/
theorem State.wakeAccept_step {s : State} (src : Nat) (h : s.pwr.step ≠ 0) : (s.wakeAccept src).pwr.step = s.pwr.step := by
  rw [State.wakeAccept_eq, if_neg h]
  split
  · rfl
  · rfl

theorem execSupplyReturn_arms (s : State) (mv : Nat) (hroot : s.rootOn = true) (hst : s.pwr.st = 0) (hmv : 8000 < mv) :
    Completes (.supplyReturn mv) s (fun t => t.pwr.st = 1 ∧ (t.rootReg Reg.RTD_SUPLOG).toNat = 4 * 2 ^ 28 + min mv 0xFFFF ∧
      (s.wakeOn 0 = true → t.pwr.step = 1)) := by
  have hrun : exec (.supplyReturn mv) s = .next (if ((s.returned mv).wakeAccept 0).rootRd F.RTD_WAKELVL_IGN = 1
      then ((s.returned mv).wakeAccept 0).wakeAccept 1 else (s.returned mv).wakeAccept 0) := congrArg Host.Outcome.next (if_pos ⟨hroot, hst, hmv⟩)
  have hon : (s.returned mv).wakeOn 0 = s.wakeOn 0 := congrArg (fun x => bitAt x 0) (State.rootRd_setRoot_other s (f := F.RTD_WAKECFG_EN) _ (by decide))
  have hlog : ((s.returned mv).rootReg Reg.RTD_SUPLOG).toNat = 4 * 2 ^ 28 + min mv 0xFFFF := by
    have h := s.setRoot_rootReg_same Reg.RTD_SUPLOG (BitVec.ofNat 32 (4 * 2 ^ 28 + min mv 0xFFFF))
    refine (congrArg BitVec.toNat h).trans ?_
    rw [BitVec.toNat_ofNat]
    omega
  have hpwr : (s.returned mv).pwr.st = 1 ∧ (s.returned mv).pwr.step = 0 := ⟨rfl, rfl⟩
  generalize s.returned mv = x at hrun hon hlog hpwr
  have hx : (x.wakeAccept 0).pwr.st = 1 ∧ ((x.wakeAccept 0).rootReg Reg.RTD_SUPLOG).toNat = 4 * 2 ^ 28 + min mv 0xFFFF ∧
      (s.wakeOn 0 = true → (x.wakeAccept 0).pwr.step = 1) :=
    ⟨(x.wakeAccept_still 0).2.1.trans hpwr.1, by rw [x.wakeAccept_rootReg 0 (by decide)]; exact hlog,
      fun h => (State.wakeAccept_starts hpwr.1 (hon.trans h)).2 hpwr.2⟩
  refine ⟨_, hrun, ?_⟩
  dsimp only
  split
  · generalize x.wakeAccept 0 = y at hx
    obtain ⟨h1, hlog1, hstep⟩ := hx
    refine ⟨(y.wakeAccept_still 1).2.1.trans h1, by rw [y.wakeAccept_rootReg 1 (by decide)]; exact hlog1, fun h => ?_⟩
    rw [State.wakeAccept_step 1 (by rw [hstep h]; decide)]
    exact hstep h
  · exact hx

/-- Settles O49: every clause by the lemma that says what its command does. -/
theorem resetsAndSupplyComplete : Obligations.ResetsAndSupplyComplete := by
  unfold Obligations.ResetsAndSupplyComplete
  exact ⟨execModuleReset_resets, execCanopyRestart_restarts, execResetButton_presses, execButtonStuck_counts, execButtonUnmask_ends, execSupplyLow_logs,
    execSupplyHigh_logs, execSupplyFailure_vaults, execSupplyReturn_arms⟩

end Sys2Proof.Machine
end

section
/-! SUPPORT. Heat (R487, R488): shedding, its return and the thermal cut. -/

namespace Sys2Proof.Machine

/-! ### Shedding and its return (R487) -/

/-- What shedding does once it is noted. -/
def State.shedGo (t : State) : State :=
  let n := t.pwr.step
  if n = 0 ∧ t.pwr.st = 3 then (t.pwrEnter 0x12).graceEnds
  else if n = 0x13 then t.graceEnds
  else if n = 0x0D then (t.setStep 0).reversed
  else if n = 0x0E ∨ n = 0x0F then (t.setTurn (some 0x16)).reversed
  else if n = 0x10 then (t.pwrEnter 0x16).reversed
  else if n = 0x11 then ((t.pwrEnter 0x12).graceEnds).reversed
  else if 0x14 ≤ n ∧ n ≤ 0x16 ∧ t.pwr.turn.isSome = true then (t.setTurn none).reversed
  else t

theorem seqFields_self : ∀ g ∈ seqFields, g ∈ seqFields := fun _ h => h

/-- Shedding changes what a sequence changes. -/
theorem State.shedGo_power (t : State) : State.PowerTo seqFields t t.shedGo := by
  have henter (x : State) (n : Nat) : State.PowerTo seqFields x (x.pwrEnter n) := .pwrEnter enterFields_seq x n
  have hgrace (x : State) : State.PowerTo seqFields x x.graceEnds := .graceEnds enterFields_seq x
  have hrev (x : State) : State.PowerTo seqFields x x.reversed := .reversed seqFields_self x
  unfold State.shedGo
  refine .ite _ (fun _ => (henter t _).trans (hgrace _)) fun _ => .ite _ (fun _ => hgrace t) fun _ => ?_
  refine .ite _ (fun _ => (State.PowerTo.setStep enterFields_seq t 0).trans (hrev _)) fun _ => .ite _ (fun _ => (State.PowerTo.setTurn t _).trans (hrev _)) fun _ => ?_
  refine .ite _ (fun _ => (henter t _).trans (hrev _)) fun _ => .ite _ (fun _ => ((henter t _).trans (hgrace _)).trans (hrev _)) fun _ => ?_
  exact .ite _ (fun _ => (State.PowerTo.setTurn t _).trans (hrev _)) fun _ => .refl t

theorem execThermalShed_sheds (s : State) (hbed : s.bedOn = true) (hen : s.on F.SYS_SHED_EN = true) (hst : s.rd F.SYS_SHED_SHST = 1)
    (hcrit : s.tim.aboveCrit = true) (hdue : s.pwr.shedAt + s.rd F.SYS_SHED_WAIT * 1000000000 ≤ s.now) :
    Completes (.thermalShed) s (fun t => t.rd F.SYS_SHED_SHST = 2 ∧ (s.pwr.st = 3 → s.pwr.step = 0 → t.pwr.step = 20)) := by
  have hrun : exec (.thermalShed) s = .next (s.wr F.SYS_SHED_SHST 2).shedGo := congrArg Host.Outcome.next (if_pos ⟨hbed, hen, hst, hcrit, hdue⟩)
  have h := (s.wr F.SYS_SHED_SHST 2).shedGo_power.rd F.SYS_SHED_SHST (by decide)
  refine ⟨_, hrun, h.trans (s.rd_wr_same _ 2 (by decide)), fun h3 h0 => ?_⟩
  unfold State.shedGo
  rw [if_pos ⟨h0, h3⟩]
  exact State.graceEnds_step _ (State.pwrEnter_cdown _).1

theorem execThermalReturn_returns (s : State) (c : Nat) (hbed : s.bedOn = true) (hauto : s.on F.SYS_SHED_AUTORET = true) (hst : s.rd F.SYS_SHED_SHST = 2)
    (hcool : s.pwr.coolAt = some c) (hdue : c + 60000000000 ≤ s.now) : Completes (.thermalReturn) s (fun t => t.rd F.SYS_SHED_SHST = 0) := by
  have hrun : exec (.thermalReturn) s = .next (s.wr F.SYS_SHED_SHST 0).kick := by
    show execThermalReturn s = _
    unfold execThermalReturn
    rw [hcool]
    exact congrArg Host.Outcome.next (if_pos ⟨hbed, hauto, hst, hdue⟩)
  have h := (State.PowerTo.kick enterFields_self (s.wr F.SYS_SHED_SHST 0)).rd F.SYS_SHED_SHST (by decide)
  exact ⟨_, hrun, h.trans (s.rd_wr_same _ 0 (by decide))⟩

/-! ### A thermal cut (R488) -/

theorem State.setStep_shown {s : State} {n : Nat} (hbed : s.bedOn = true) (hn : n < 32) : (s.setStep n).rd F.SYS_PWRSTATE_STEP = n := by
  unfold State.setStep
  dsimp only
  rw [if_pos (show (s.setPwr { s.pwr with step := n, stepAt := s.now }).bedOn = true from hbed), State.rd_wr_same _ _ n (by decide)]
  exact Nat.mod_eq_of_lt hn

theorem State.pwrEnter_cut {s : State} (hbed : s.bedOn = true) : (s.pwrEnter 0x15).rd F.SYS_PWRSTATE_STEP = 0x15 :=
  (State.setTurn_rd _ _ _).trans (State.setStep_shown hbed (by decide))

theorem execThermalCut_cuts (s : State) (q : SeqIn) (h : Nat) (hq : q.durs = []) (hbed : s.bedOn = true) (hcan : s.canopyOn = true)
    (hhot : s.pwr.hotAt = some h) (hdue : h + 10000000 ≤ s.now) (h15 : s.pwr.step ≠ 0x15) (h16 : s.pwr.step ≠ 0x16) :
    Completes (.thermalCut none q) s (fun t => t.pwr.step = 0x15 ∧ t.rd F.SYS_PWRSTATE_STEP = 0x15) := by
  have hrun : exec (.thermalCut none q) s = .next ((s.record 0x00 0x42 sevSafety 0 0 0).pwrEnter 0x15) := by
    refine congrArg Host.Outcome.next ((if_neg (by rw [hbed]; decide)).trans ?_)
    dsimp only
    rw [hhot]
    dsimp only
    rw [if_pos ⟨decide_eq_true hdue, hcan, h15, h16⟩, hq, State.runSteps_nil]
  have hon : (s.record 0x00 0x42 sevSafety 0 0 0).bedOn = true := (congrArg Still.bedOn (s.record_still 0x00 0x42 sevSafety 0 0 0)).trans hbed
  exact ⟨_, hrun, State.pwrEnter_step _ (by decide), State.pwrEnter_cut hon⟩

theorem execThermalCut_resets (s : State) (q : SeqIn) (n : Nat) (hq : q.durs = []) (hbed : s.bedOn = true) (hreset : s.pwr.reset = false)
    (hn : n < 24) (hv : s.on (F.HLT_TEMPn_VALID n) = true) (ht : 1200 ≤ s.tempOf n) :
    Completes (.thermalCut (some n) q) s (fun t => t.bedOn = false ∧ t.canopyOn = false ∧ t.pwr.hot = true ∧ t.pwr.step = 3) := by
  obtain ⟨heq, -, -⟩ := State.moduleReset_waits hbed hreset (cause := 8) (by decide) hq
  have hrun : exec (.thermalCut (some n) q) s = .next ((s.logReset 8).resetPosted 8) := by
    refine congrArg Host.Outcome.next ((if_neg (by rw [hbed]; decide)).trans ((if_pos ⟨hn, hv, ht⟩).trans heq))
  obtain ⟨hoff, hcan, -⟩ := (s.logReset 8).resetPosted_shows 8
  exact ⟨_, hrun, hoff, hcan, rfl, rfl⟩

end Sys2Proof.Machine
end

section
/-! SUPPORT. What an update's run leaves of the power chapter and Root (R528-R540): a Dale's start, a handover asked for, an engine switched, and
the words of Root beside RTD_SAVE and RTD_STAT. -/

namespace Sys2Proof.Machine

namespace State.SysTo

/-! ### Dales and the handover (R506, R536) -/

theorem withUpd (s : State) (x : Upd) : SysTo s { s with upd := x } := ⟨rfl, fun _ _ => rfl, fun _ => ⟨rfl, rfl⟩⟩

theorem mbxPayOwed (s : State) : SysTo s s.mbxPayOwed := (withOwed s _).trans (foldl _ (fun x _ => irq x _ _) _ _)

theorem freeAgent (s : State) (id : Nat) : SysTo s (s.freeAgent id) := (withHeld s _).trans (mbxPayOwed _)

theorem tokAsk (s : State) (c owner act : Nat) : SysTo s (s.tokAsk c owner act).1 := of_affectsNone (.tokAsk s c owner act)

theorem hbage_le (n : Nat) : 0x1000 ≤ Reg.HLT_DALEn_HBAGE n := by
  unfold Reg.HLT_DALEn_HBAGE
  omega

theorem daleNew (s : State) (n win : Nat) : SysTo s (s.daleNew n win) :=
  ((((daleHold s n).trans (of_updates (.startNew _ _ _))).trans (wr _ _ (dale_le n).1)).trans (freeAgent _ _)).trans (setHlt _ _)

theorem failBad (s : State) (u : Nat) (bad : List Nat) : SysTo s (s.failBad u bad) := foldl _ (fun x _ => ite _ (fun _ => withUpd x _) fun _ => refl x) _ _

theorem startUnit (s : State) (u : Nat) (bad : List Nat) : SysTo s (s.startUnit u bad) := by
  unfold State.startUnit
  extract_lets t1 best t2
  have h1 : SysTo s t1 := foldl _ (fun x _ => ite _ (fun _ => withUpd x _) fun _ => refl x) _ _
  have h2 : SysTo t1 t2 := by
    clear_value best
    cases best with
    | none => exact refl t1
    | some k => exact ite _ (fun _ => withUpd t1 _) fun _ => refl t1
  refine (h1.trans h2).trans ?_
  clear_value t2
  split
  · exact (failBad t2 _ _).trans (withUpd _ _)
  · exact failBad t2 _ _

theorem daleStart (s : State) (n : Nat) (bad : List Nat) : SysTo s (s.daleStart n bad) := by
  unfold State.daleStart
  extract_lets t u
  have ht : SysTo s t := (startUnit s n bad).trans (of_updates (.updRegs _))
  exact ite _ (fun _ => ((ht.trans (wr _ _ (dale_le n).1)).trans (freeAgent _ _)).trans ((setHlt _ _).trans (wr _ _ (hbage_le n)))) fun _ => ht

theorem faultHand (s : State) (src cause : Nat) : SysTo s (s.faultHand src cause) := (setHlt s _).trans (wr _ _ (by decide))

/-! ### Engines (R538) -/

theorem withGns (s : State) (x : Gnss) : SysTo s { s with gns := x } := ⟨rfl, fun _ _ => rfl, fun _ => ⟨rfl, rfl⟩⟩

theorem withTerFree (s : State) (x : Terrace) (n : Nat) : SysTo s { s with ter := x, free := n } := ⟨rfl, fun _ _ => rfl, fun _ => ⟨rfl, rfl⟩⟩

theorem putFree (s : State) (a n : Nat) : SysTo s (s.putFree a n) := of_affectsNone (.putFree s a n)

theorem wearRegs (s : State) : SysTo s s.wearRegs :=
  ((((wrSat s _ (by decide)).trans (wrSat _ _ (by decide))).trans (wrSat _ _ (by decide))).trans (wrSat _ _ (by decide))).trans (wrSat _ _ (by decide))

theorem terLoad (s : State) (ms : Option Nat) : SysTo s (s.terLoad ms) := by
  unfold State.terLoad
  split
  · exact wr s _ (by decide)
  · next m =>
    extract_lets t _ x u
    have ht : SysTo s t := (putFree s _ _).trans (putFree _ _ _)
    have hx : SysTo t x := ite _ (fun _ => refl t) fun _ => withTerFree t _ _
    have hu : SysTo x u := ((wr x _ (by decide)).trans (wrSat _ _ (by decide))).trans (wr _ _ (by decide))
    exact ((ht.trans hx).trans hu).trans (((of_terrace (.judgeAll u)).trans (wearRegs _)).trans (of_terrace (.terRegs _)))

theorem tickFree (s : State) : SysTo s s.tickFree := of_affectsNone (.tickFree s)

theorem engineSwitch (s : State) (u : Nat) : SysTo s (s.engineSwitch u) := by
  unfold State.engineSwitch
  refine ite _ (fun _ => ite _ (fun _ => withGns s _) fun _ => refl s) fun _ => ite _ (fun _ => ?_) fun _ => ite _ (fun _ => withPan s _) fun _ => refl s
  refine ite _ (fun _ => ?_) fun _ => refl s
  exact (((wr s _ (by decide)).trans (wr _ _ (by decide))).trans (terLoad _ _)).trans (tickFree _)

/-! ### The run of an update (R528-R533) -/

theorem updFall (s : State) (u : Nat) : SysTo s (s.updFall u) := by
  unfold State.updFall
  have hfell (x : State) : SysTo x ((x.fellMark u).fellStop u) := of_updates ((UpdatesTo.fellMark x u).trans (.fellStop _ u))
  refine ite _ (fun _ => refl s) fun _ => ite _ (fun _ => ?_) fun _ => ite _ (fun _ => of_updates (.fellFurrow s)) fun _ => (hfell s).trans (engineSwitch _ _)
  extract_lets carried t x
  have ht : SysTo s t := (hfell s).trans (daleHold _ _)
  have hx : SysTo t x := ite _ (fun _ => faultHand t _ _) fun _ => refl t
  exact (ht.trans hx).trans (daleStart _ _ _)

theorem itemState (s : State) (k st status : Nat) : SysTo s (s.itemState k st status) := of_updates (.itemState s k st status)

theorem endApply (s : State) (st unit : Nat) : SysTo s (s.endApply st unit) := of_updates (.endApply s st unit)

theorem setRun (s : State) (r : UpdRun) : SysTo s (s.setRun r) := of_updates (.setRun s r)

theorem nextItem (s : State) (r : UpdRun) (i : PkgItem) : SysTo s (s.nextItem r i) := by
  unfold State.nextItem
  split
  · split
    · exact (wr s _ (by decide)).trans (setRun _ _)
    · exact (setRun s r).trans (endApply _ _ _)
  · exact refl s

theorem stopItem (s : State) (r : UpdRun) (i : PkgItem) (st : Nat) : SysTo s (s.stopItem r i st) := (itemState s _ _ _).trans (endApply _ _ _)

theorem fuseKeys (s : State) : SysTo s s.fuseKeys := by
  unfold State.fuseKeys
  split
  · exact ite _ (fun _ => withUpd s _) fun _ => refl s
  · exact refl s

theorem cfgPut (s : State) (u cfgver : Nat) (body : Bytes) : SysTo s (s.cfgPut u cfgver body) := (withUpd s _).trans (of_updates (.updRegs _))

theorem put (s : State) (a : Nat) (b : Bytes) : SysTo s (s.put a b) := of_affectsNone (.put s a b)

theorem updEvent (s : State) (tag u slot ver old : Nat) (rec : Option Nat) : SysTo s (s.updEvent tag u slot ver old rec) :=
  of_updates (.updEvent s tag u slot ver old rec)

theorem confirmed (s : State) (u : Nat) : SysTo s (s.confirmed u) := by
  unfold State.confirmed
  extract_lets k t
  have ht : SysTo s t := updEvent s _ _ _ _ _ _
  refine ht.trans ?_
  clear_value t
  split
  · exact refl t
  · exact ite _ (fun _ => (daleNew t _ _).trans (setRun _ _)) fun _ => ((itemState t _ _ _).trans (tokGive _ _)).trans (nextItem _ _ _)

theorem withResp (h : SysTo s t) (r : Resp) : SysTo { s with resp := r } { t with resp := r } := ⟨by rw [h.eq]; rfl, h.reg, h.heard⟩

end State.SysTo

/-! ### What also answers an access (R107, R507): a post that is refused -/

/-- `t` differs from `s` as `SysTo` says, and in the last answer. -/
structure State.SysNear (s t : State) : Prop where
  near : State.SysTo { s with resp := t.resp } t

namespace State.SysNear

variable {s t u : State}

theorem of_sys (h : State.SysTo s t) : SysNear s t := ⟨by
  have hresp : t.resp = s.resp := h.part State.resp fun _ _ => rfl
  rw [hresp]
  exact h⟩

theorem refl (s : State) : SysNear s s := of_sys (.refl s)

theorem trans (h : SysNear s t) (h' : SysNear t u) : SysNear s u := ⟨(h.near.withResp u.resp).trans h'.near⟩

theorem ite (c : Prop) [Decidable c] (h : c → SysNear s t) (h' : ¬ c → SysNear s u) : SysNear s (if c then t else u) := by
  split
  · exact h ‹_›
  · exact h' ‹_›

theorem rootReg (h : SysNear s t) (k : Nat) : t.rootReg k = s.rootReg k := h.near.rootReg k

theorem fail (s : State) : SysNear s s.fail := ⟨.refl _⟩

theorem failFor (s : State) (a : Agent) : SysNear s (s.failFor a) := by
  rw [State.failFor_eq]
  exact ⟨⟨rfl, fun _ _ => rfl, fun _ => ⟨rfl, rfl⟩⟩⟩

theorem mbxRefuse (s : State) (a : Agent) (m cause : Nat) : SysNear s (s.mbxRefuse a m cause) :=
  (of_sys ((((State.SysTo.wr s _ (by decide)).trans (.wr _ _ (by decide))).trans (.wr _ _ (by decide))).trans (.inc _ (by decide)))).trans (failFor _ _)

theorem mbxPost (s : State) (a : Agent) (id m : Nat) (v : W32) : SysNear s (s.mbxPost a id m v) := by
  obtain ⟨hs, hl, hh⟩ := State.SysTo.mbx_le m
  unfold State.mbxPost
  extract_lets lo ptr t
  have ht : State.SysTo s t := ((((State.SysTo.setReg s _ hl).trans (.setReg _ _ hh)).trans (.wr _ _ hs)).trans (.wr _ _ hs)).trans (.mapBit _ m true (by decide))
  refine ite _ (fun _ => mbxRefuse s _ _ _) fun _ => ite _ (fun _ => mbxRefuse s _ _ _) fun _ => ite _ (fun _ => mbxRefuse s _ _ _) fun _ => ?_
  exact ite _ (fun _ => mbxRefuse s _ _ _) fun _ => of_sys (.ite _ (fun _ => ht.trans (.irq _ _ _)) fun _ => ht)

theorem withStage (s : State) (x : SMap W32) : SysNear s { s with mbxStage := x } := of_sys ⟨rfl, fun _ _ => rfl, fun _ => ⟨rfl, rfl⟩⟩

theorem handPrepare (s : State) (h : Handover) : SysNear s (s.handPrepare h) :=
  ((of_sys (.setHlt s _)).trans (withStage _ _)).trans ((mbxPost _ _ _ _ _).trans (withStage _ _))

theorem handGo (s : State) : SysNear s s.handGo := by
  unfold State.handGo
  split
  · exact ite _ (fun _ => handPrepare s _) fun _ => refl s
  · exact refl s

theorem askHandover (s : State) (cause at0 : Nat) (desc : Option Desc) : SysNear s (s.askHandover cause at0 desc).1 := by
  unfold State.askHandover
  split
  · exact refl s
  · split
    · exact refl s
    · split
      · exact refl s
      · extract_lets h hlt t r
        have ht : SysNear s t := of_sys ((State.SysTo.setHlt s _).trans (.wr _ _ (by decide)))
        split
        · exact ht.trans (handPrepare _ _)
        · exact (ht.trans (of_sys (.of_affectsNone (.tokAsk t 4 _ 0xA)))).trans (handGo _)

/-! ### The run of an update -/

theorem setRun (s : State) (r : UpdRun) : SysNear s (s.setRun r) := of_sys (.setRun s r)

theorem startItem (s : State) (r : UpdRun) (i : PkgItem) : SysNear s (s.startItem r i) := by
  unfold State.startItem
  extract_lets t on
  have ht : SysNear s t := of_sys (.itemState s _ _ _)
  have hfail : SysNear t (t.itemFail r i.unit) := of_sys (.of_updates (.itemFail t r _))
  have hon (x : State) : State.SysTo x (on x) := .itemState x _ _ _
  have hstart (x : State) : State.SysTo x (x.startNew i.unit i.win) := .of_updates (.startNew x _ _)
  refine ht.trans (ite _ (fun _ => ?_) fun _ => ite _ (fun _ => ?_) fun _ => ite _ (fun _ => ?_) fun _ => ite _ (fun _ => setRun t _) fun _ => ?_)
  · split
    · exact hfail
    · exact ite _ (fun _ => of_sys (((hon t).trans (.daleNew _ _ _)).trans (.setRun _ _))) fun _ => (askHandover t _ _ _).trans (setRun _ _)
  · exact ite _ (fun _ => of_sys (.of_updates (.itemFail t r 8))) fun _ => of_sys ((State.SysTo.put t _ _).trans (.of_updates (.furGive _ _ _ _ _)))
  · exact of_sys (((hon t).trans (hstart _)).trans (.setRun _ _))
  · exact of_sys ((((hon t).trans (hstart _)).trans (.engineSwitch _ _)).trans (.setRun _ _))

theorem daleStage (s : State) (r : UpdRun) (i : PkgItem) : SysNear s (s.daleStage r i) := by
  unfold State.daleStage
  split
  · exact refl s
  · refine ite _ (fun _ => ?_) fun _ => refl s
    exact ite _ (fun _ => (askHandover s _ _ _).trans (setRun _ _)) fun _ => refl s

end State.SysNear


end Sys2Proof.Machine
end

section
/-! SUPPORT. The backup cell and the Root save (R489-R493): which words of Root a measurement, a save and an update's run leave. -/

namespace Sys2Proof.Machine

/-! ### The words of Root that an update's run leaves -/

/-- The words of Root beside the two that a save writes. -/
def savesApart (k : Nat) : Prop := k ≠ Reg.RTD_SAVE ∧ k ≠ Reg.RTD_STAT

theorem State.confirmStore_rootReg (s : State) (u : Nat) (ok : Bool) {k : Nat} (h : savesApart k) : (s.confirmStore u ok).rootReg k = s.rootReg k := by
  unfold State.confirmStore
  extract_lets a v _ t1 _ t2 o t3 t4 _ t5
  have h3 : State.SysTo s t3 := (State.SysTo.withUpd s _).trans ((State.SysTo.withUpd t1 _).trans (.ite _ (fun _ => .withUpd t2 _) fun _ => .refl t2))
  have h5 : State.SysTo s t5 := h3.trans ((State.SysTo.fuseKeys t3).trans (.withUpd t4 _))
  have hoff : State.SysTo s (t5.offProbation u) := h5.trans (.withUpd t5 _)
  generalize t5.offProbation u = x at hoff
  rw [(State.SysTo.of_updates (.updRegs _)).rootReg, State.rootSave_rootReg _ _ _ h.1 h.2, hoff.rootReg]

theorem State.updStep_rootReg (s : State) {k : Nat} (h : savesApart k) : s.updStep.rootReg k = s.rootReg k := by
  unfold State.updStep
  split
  case h_2 => rfl
  case h_1 p r i _ _ =>
    split
    · split
      · exact (State.SysTo.endApply s _ _).rootReg k
      split
      · exact (State.SysTo.nextItem s _ _).rootReg k
      split
      · exact (State.SysTo.stopItem s _ _ _).rootReg k
      split
      · exact ((((State.SysTo.fuseKeys s).trans (.cfgPut _ _ _ _)).trans (.itemState _ _ _ _)).trans (.nextItem _ _ _)).rootReg k
      split
      · exact ((((State.SysTo.withUpd s _).trans (.itemState _ _ _ _)).trans (.updEvent _ _ _ _ _ _ _)).trans (.nextItem _ _ _)).rootReg k
      split
      · exact (State.SysTo.stopItem s _ _ _).rootReg k
      have hask := State.SysTo.tokAsk s (updToken i.unit) ownerUpdate 9
      dsimp only
      generalize s.tokAsk (updToken i.unit) ownerUpdate 9 = x at hask
      split
      · exact ((State.SysNear.of_sys hask).trans (.startItem x.1 r i)).rootReg k
      · exact (hask.trans ((State.SysTo.itemState _ _ _ _).trans (.setRun _ _))).rootReg k
    · split
      · exact (State.SysNear.startItem s r i).rootReg k
      · rfl
    · exact (State.SysNear.daleStage s r i).rootReg k
    · split
      · exact (State.SysTo.setRun s _).rootReg k
      · rfl
    · split
      · exact (((State.SysTo.itemState s _ _ _).trans (.daleNew _ _ _)).trans (.setRun _ _)).rootReg k
      · rfl
    · split
      · exact (((State.SysTo.itemState s _ _ _).trans (.of_updates (.startNew _ _ _))).trans (.setRun _ _)).rootReg k
      · rfl
    · split
      · exact (State.SysTo.updFall s _).rootReg k
      · exact ((State.SysTo.confirmed _ _).rootReg k).trans (s.confirmStore_rootReg _ _ h)
    · rfl

theorem State.updGo_rootReg (fuel : Nat) {k : Nat} (h : savesApart k) (s : State) : (s.updGo fuel).rootReg k = s.rootReg k := by
  induction fuel generalizing s with
  | zero => rfl
  | succ n ih =>
    unfold State.updGo
    dsimp only
    split
    · exact s.updStep_rootReg h
    · exact (ih _).trans (s.updStep_rootReg h)

theorem State.confirmSaved_rootReg (s : State) {k : Nat} (h : savesApart k) : s.confirmSaved.rootReg k = s.rootReg k :=
  (List.foldlRecOn (motive := fun x : State => x.rootReg k = ({ s with upd := { s.upd with unsaved := [] } } : State).rootReg k) _ _ rfl
    fun x hx u _ => (State.updGo_rootReg 64 h _).trans (((State.SysTo.confirmed x u).rootReg k).trans hx)).trans rfl

theorem State.saveAndConfirm_rootReg (s : State) (cause : Nat) (ok : Bool) {k : Nat} (h : savesApart k) : (s.saveAndConfirm cause ok).rootReg k = s.rootReg k := by
  have hsave := s.rootSave_rootReg cause ok h.1 h.2
  unfold State.saveAndConfirm
  dsimp only
  split
  · exact (State.confirmSaved_rootReg _ h).trans hsave
  · exact hsave

/-! ### A measurement of the cell (R489, R491) -/

theorem State.cellCharge_rootReg (s : State) (uah : Nat) {k : Nat} (h : k ≠ Reg.RTD_CELLQ) : (s.cellCharge uah).rootReg k = s.rootReg k :=
  (State.rootWr_rootReg_other _ _ h).trans (State.rootWr_rootReg_other _ _ h)

theorem State.cellLow_rootReg (s : State) (mv : Nat) (ok : Bool) {k : Nat} (h : savesApart k) (hq : k ≠ Reg.RTD_CELLQ) :
    (s.cellLow mv ok).rootReg k = s.rootReg k := by
  unfold State.cellLow
  extract_lets _ t u v
  have ht : t.rootReg k = s.rootReg k := State.rootWr_rootReg_other _ _ h.2
  have hu : u.rootReg k = s.rootReg k := ((State.RecordsTo.record _ _ _ _ _ _ _).rootReg k).trans ((State.sysFlag_rootReg _ _ _ _).trans ht)
  have hv : v.rootReg k = s.rootReg k := (u.saveAndConfirm_rootReg _ _ h).trans hu
  clear_value v
  split
  · exact (v.cellCharge_rootReg _ hq).trans hv
  · exact hv

theorem State.rebase_rootReg (s : State) (mv : Nat) {k : Nat} (h : savesApart k) (hq : k ≠ Reg.RTD_CELLQ) : (s.rebase mv).rootReg k = s.rootReg k := by
  have hlate (x : State) (v : Nat) (hx : x.rootReg k = s.rootReg k) : ((((x.setPwr { x.pwr with hourly := true }).rootWr F.RTD_STAT_REBASE 1).sysFlag
      F.SYS_STAT_CELL F.SYS_CTL_IE_CELL).record 0x02 0x43 sevWarning v 0 0).rootReg k = s.rootReg k := by
    rw [(State.RecordsTo.record _ _ _ _ _ _ _).rootReg, State.sysFlag_rootReg]
    exact (State.rootWr_rootReg_other _ _ h.2).trans hx
  unfold State.rebase
  split
  · exact hlate _ _ (s.cellCharge_rootReg _ hq)
  · exact hlate _ _ (s.cellCharge_rootReg _ hq)

end Sys2Proof.Machine
end

section
/-! SUPPORT. The backup cell, the Root save and Root power-on (R489-R493), and the commands of heat and Root together. -/

namespace Sys2Proof.Machine

/-! ### A measurement of the cell (R489) -/

/-- The voltage and the charge noted. -/
def State.cellNoted (s : State) (v : Nat) (dq : Int) : State :=
  let t := (s.rootWr F.RTD_CELLV_MV v).rootWr F.RTD_CELLV_LOW (min v (s.rootRd F.RTD_CELLV_LOW))
  t.cellCharge (clampI 0 cellFull ((t.rootRd F.RTD_CELLQ_UAH : Int) + dq)).toNat

/-- Whether the cell charges shown; a full one ends the hourly saves. -/
def State.cellShown (s : State) (v : Nat) : State :=
  let t := s.rootWr F.RTD_STAT_CHARGING (if decide (2 ≤ s.pwr.st) && decide (s.pwr.step = 0) && decide (v < 3300) then 1 else 0)
  if 3300 ≤ v ∧ 2 ≤ t.pwr.st then t.setPwr { t.pwr with hourly := false } else t

/-- The measurements below VLOW counted. -/
def State.cellCounted (s : State) (v : Nat) : State :=
  let below := decide (v < s.rootRd F.RTD_CELLCFG_VLOW)
  s.setPwr { s.pwr with lowRun := min (if below then s.pwr.lowRun + 1 else 0) 2, low := s.pwr.low && below }

/-- What the second measurement below VLOW does. -/
def State.cellJudged (s : State) (v : Nat) (ok : Bool) : State :=
  if (if decide (v < s.rootRd F.RTD_CELLCFG_VLOW) then s.pwr.lowRun + 1 else 0) = 2 ∧ (s.cellCounted v).pwr.low = false then
    (s.cellCounted v).cellLow v ok
  else s.cellCounted v

/-- An empty count re-based. -/
def State.cellBased (s : State) (v : Nat) : State :=
  if s.rootRd F.RTD_CELLQ_UAH = 0 ∧ s.rootRd F.RTD_CELLCFG_VOK ≤ v then s.rebase v else s

/-- Root off on an empty cell without the supply. -/
def State.cellEmpty (s : State) (v : Nat) : State := if v < 2300 ∧ s.pwr.st = 0 then { s with rootOn := false } else s

/-- A measurement of the cell, before it is judged whether Root goes on. -/
def State.cellMeasured (s : State) (v : Nat) (dq : Int) (ok : Bool) : State := ((((s.cellNoted v dq).cellShown v).cellJudged v ok).cellBased v)

theorem execCellMeasure_eq {s : State} (h : s.rootOn = true) (mv : Nat) (dq : Int) (ok : Bool) :
    exec (.cellMeasure mv dq ok) s = .next ((s.cellMeasured (min mv 0xFFFF) dq ok).cellEmpty (min mv 0xFFFF)) :=
  congrArg Host.Outcome.next (if_neg (by rw [h]; decide))

theorem State.rootRd_lt (s : State) {f : Fld} : s.rootRd f < 2 ^ (f.hi + 1 - f.lo) := getBits_lt _ _ _

theorem State.cellNoted_shows (s : State) {v : Nat} (dq : Int) (hv : v < 65536) : (s.cellNoted v dq).rootRd F.RTD_CELLV_MV = v ∧
    (s.cellNoted v dq).rootRd F.RTD_CELLV_LOW = min v (s.rootRd F.RTD_CELLV_LOW) ∧
    (s.cellNoted v dq).rootRd F.RTD_CELLQ_UAH = (clampI 0 cellFull ((s.rootRd F.RTD_CELLQ_UAH : Int) + dq)).toNat % 65536 := by
  unfold State.cellNoted
  extract_lets t
  have hmv : t.rootRd F.RTD_CELLV_MV = v :=
    (State.rootRd_rootWr_apart _ _ (by decide)).trans ((s.rootRd_rootWr_same F.RTD_CELLV_MV v (by decide)).trans (Nat.mod_eq_of_lt hv))
  have hlow : t.rootRd F.RTD_CELLV_LOW = min v (s.rootRd F.RTD_CELLV_LOW) := by
    refine (State.rootRd_rootWr_same _ F.RTD_CELLV_LOW _ (by decide)).trans (Nat.mod_eq_of_lt ?_)
    exact Nat.lt_of_le_of_lt (Nat.min_le_left _ _) hv
  have hq : t.rootRd F.RTD_CELLQ_UAH = s.rootRd F.RTD_CELLQ_UAH := (State.rootRd_rootWr_other _ _ (by decide)).trans (State.rootRd_rootWr_other _ _ (by decide))
  rw [hq]
  generalize (clampI 0 cellFull ((s.rootRd F.RTD_CELLQ_UAH : Int) + dq)).toNat = n
  clear_value t
  have hkeep (f : Fld) (hf : f.addr = Reg.RTD_CELLV) : (t.cellCharge n).rootRd f = t.rootRd f :=
    State.rootRd_congr (t.cellCharge_rootReg n (by rw [hf]; decide))
  exact ⟨(hkeep _ rfl).trans hmv, (hkeep _ rfl).trans hlow, (State.rootRd_rootWr_apart _ _ (by decide)).trans (t.rootRd_rootWr_same _ n (by decide))⟩

theorem State.cellNoted_still (s : State) (v : Nat) (dq : Int) : (s.cellNoted v dq).still = s.still := State.cellCharge_still _ _

theorem State.cellShown_rootReg (s : State) (v : Nat) {k : Nat} (h : k ≠ Reg.RTD_STAT) : (s.cellShown v).rootReg k = s.rootReg k := by
  unfold State.cellShown
  extract_lets t
  have ht : t.rootReg k = s.rootReg k := State.rootWr_rootReg_other _ _ h
  split
  · exact ht
  · exact ht

theorem State.cellShown_still (s : State) (v : Nat) : (s.cellShown v).still = s.still := by
  unfold State.cellShown
  extract_lets t
  have ht : t.still = s.still := State.rootWr_still _ _ _
  split
  · exact ht
  · exact ht

theorem State.cellCounted_rootReg (s : State) (v k : Nat) : (s.cellCounted v).rootReg k = s.rootReg k := rfl

theorem State.cellCounted_still (s : State) (v : Nat) : (s.cellCounted v).still = s.still := rfl

theorem savesApart_cellv : savesApart Reg.RTD_CELLV := ⟨by decide, by decide⟩

theorem State.cellJudged_keeps (s : State) (v : Nat) (ok : Bool) : (s.cellJudged v ok).rootReg Reg.RTD_CELLV = s.rootReg Reg.RTD_CELLV ∧
    (s.cellJudged v ok).still = s.still := by
  have hreg := (s.cellCounted v).cellLow_rootReg v ok savesApart_cellv (by decide)
  have hstill := (s.cellCounted v).cellLow_still v ok
  have hreg0 := s.cellCounted_rootReg v Reg.RTD_CELLV
  have hstill0 := s.cellCounted_still v
  obtain h | h : s.cellJudged v ok = (s.cellCounted v).cellLow v ok ∨ s.cellJudged v ok = s.cellCounted v := ite_eq_or_eq _ _ _
  · rw [h]
    exact ⟨hreg.trans hreg0, hstill.trans hstill0⟩
  · rw [h]
    exact ⟨hreg0, hstill0⟩

theorem State.cellBased_keeps (s : State) (v : Nat) : (s.cellBased v).rootReg Reg.RTD_CELLV = s.rootReg Reg.RTD_CELLV ∧ (s.cellBased v).still = s.still := by
  unfold State.cellBased
  split
  · exact ⟨s.rebase_rootReg v savesApart_cellv (by decide), s.rebase_still v⟩
  · exact ⟨rfl, rfl⟩

/-- What a measurement shows of the voltage, and what it leaves of the power state. -/
theorem State.cellMeasured_shows (s : State) {v : Nat} (dq : Int) (ok : Bool) (hv : v < 65536) : (s.cellMeasured v dq ok).rootRd F.RTD_CELLV_MV = v ∧
    (s.cellMeasured v dq ok).rootRd F.RTD_CELLV_LOW = min v (s.rootRd F.RTD_CELLV_LOW) ∧ (s.cellMeasured v dq ok).still = s.still := by
  obtain ⟨hmv, hlow, -⟩ := s.cellNoted_shows dq hv
  have hstill := s.cellNoted_still v dq
  unfold State.cellMeasured
  generalize s.cellNoted v dq = x at hmv hlow hstill
  have h1 := x.cellShown_rootReg v (k := Reg.RTD_CELLV) (by decide)
  have h2 := (x.cellShown v).cellJudged_keeps v ok
  have h3 := ((x.cellShown v).cellJudged v ok).cellBased_keeps v
  have hreg : (((x.cellShown v).cellJudged v ok).cellBased v).rootReg Reg.RTD_CELLV = x.rootReg Reg.RTD_CELLV := h3.1.trans (h2.1.trans h1)
  exact ⟨(State.rootRd_congr (f := F.RTD_CELLV_MV) hreg).trans hmv, (State.rootRd_congr (f := F.RTD_CELLV_LOW) hreg).trans hlow,
    h3.2.trans (h2.2.trans ((x.cellShown_still v).trans hstill))⟩

theorem State.cellEmpty_rootRd (s : State) (v : Nat) (f : Fld) : (s.cellEmpty v).rootRd f = s.rootRd f := by
  unfold State.cellEmpty
  split <;> rfl

theorem execCellMeasure_measures (s : State) (mv : Nat) (dq : Int) (ok : Bool) (hroot : s.rootOn = true) :
    Completes (.cellMeasure mv dq ok) s (fun t => t.rootRd F.RTD_CELLV_MV = min mv 0xFFFF ∧
      t.rootRd F.RTD_CELLV_LOW = min (min mv 0xFFFF) (s.rootRd F.RTD_CELLV_LOW) ∧ (t.rootOn = false ↔ mv < 2300 ∧ s.pwr.st = 0)) := by
  obtain ⟨hmv, hlow, hstill⟩ := s.cellMeasured_shows (v := min mv 0xFFFF) dq ok (by omega)
  refine ⟨_, execCellMeasure_eq hroot mv dq ok, ?_⟩
  dsimp only
  generalize s.cellMeasured (min mv 0xFFFF) dq ok = x at hmv hlow hstill
  refine ⟨(x.cellEmpty_rootRd _ _).trans hmv, (x.cellEmpty_rootRd _ _).trans hlow, ?_⟩
  have hst : x.pwr.st = s.pwr.st := congrArg Still.st hstill
  have hon : x.rootOn = true := (congrArg Still.rootOn hstill).trans hroot
  have hcut : min mv 0xFFFF < 2300 ↔ mv < 2300 := by omega
  unfold State.cellEmpty
  split
  · next h => exact ⟨fun _ => ⟨hcut.mp h.1, hst ▸ h.2⟩, fun _ => rfl⟩
  · next h => exact ⟨fun hoff => absurd (hon.symm.trans hoff) Bool.noConfusion, fun h' => absurd ⟨hcut.mpr h'.1, hst.trans h'.2⟩ h⟩

/-- A measurement of a cell that is neither low nor empty changes only what it notes. -/
theorem State.cellMeasured_plain {s : State} {v : Nat} {dq : Int} (ok : Bool) (hlow : s.rootRd F.RTD_CELLCFG_VLOW ≤ v) (hq : (s.cellNoted v dq).rootRd F.RTD_CELLQ_UAH ≠ 0) :
    s.cellMeasured v dq ok = ((s.cellNoted v dq).cellShown v).cellCounted v ∧ (s.cellMeasured v dq ok).pwr.lowRun = 0 := by
  have hcfg : (s.cellNoted v dq).rootReg Reg.RTD_CELLCFG = s.rootReg Reg.RTD_CELLCFG :=
    (State.cellCharge_rootReg _ _ (by decide)).trans ((State.rootWr_rootReg_other _ _ (by decide)).trans (State.rootWr_rootReg_other _ _ (by decide)))
  unfold State.cellMeasured
  generalize s.cellNoted v dq = x at hq hcfg
  have hx : ¬ v < (x.cellShown v).rootRd F.RTD_CELLCFG_VLOW := by
    rw [State.rootRd_congr (f := F.RTD_CELLCFG_VLOW) ((x.cellShown_rootReg v (k := Reg.RTD_CELLCFG) (by decide)).trans hcfg)]
    omega
  have hxq : (x.cellShown v).rootRd F.RTD_CELLQ_UAH ≠ 0 := by
    rw [State.rootRd_congr (f := F.RTD_CELLQ_UAH) (x.cellShown_rootReg v (k := Reg.RTD_CELLQ) (by decide))]
    exact hq
  generalize x.cellShown v = y at hx hxq
  have hjudged : y.cellJudged v ok = y.cellCounted v := by
    unfold State.cellJudged
    rw [if_neg (by simp [hx])]
  have hbased : (y.cellCounted v).cellBased v = y.cellCounted v := if_neg fun h => hxq h.1
  have hrun : (y.cellCounted v).pwr.lowRun = 0 := by
    unfold State.cellCounted
    simp [State.setPwr, hx]
  rw [hjudged, hbased]
  exact ⟨rfl, hrun⟩

theorem execCellMeasure_charges (s : State) (mv : Nat) (dq : Int) (ok : Bool) (hroot : s.rootOn = true) (hlow : s.rootRd F.RTD_CELLCFG_VLOW ≤ mv)
    (hq : s.rootRd F.RTD_CELLQ_UAH ≠ 0) (hdq : 0 ≤ dq) (hmv : mv < 65536) (hfull : (s.rootRd F.RTD_CELLQ_UAH : Int) + dq ≤ 50000) (h23 : 2300 ≤ mv) :
    Completes (.cellMeasure mv dq ok) s (fun t => t.rootRd F.RTD_CELLV_MV = mv ∧ t.rootRd F.RTD_CELLV_LOW = min mv (s.rootRd F.RTD_CELLV_LOW) ∧
      (t.rootRd F.RTD_CELLQ_UAH : Int) = s.rootRd F.RTD_CELLQ_UAH + dq ∧ t.pwr.lowRun = 0 ∧ t.rootOn = true) := by
  have hrun := execCellMeasure_eq hroot mv dq ok
  rw [show min mv 0xFFFF = mv by omega] at hrun
  have hclamp : ((clampI 0 cellFull ((s.rootRd F.RTD_CELLQ_UAH : Int) + dq)).toNat % 65536 : Nat) = (((s.rootRd F.RTD_CELLQ_UAH : Int) + dq).toNat) := by
    unfold clampI cellFull
    omega
  obtain ⟨-, -, hnoted⟩ := s.cellNoted_shows dq hmv
  rw [hclamp] at hnoted
  obtain ⟨heq, hcount⟩ := State.cellMeasured_plain (dq := dq) ok hlow (by rw [hnoted]; omega)
  obtain ⟨h1, h2, hstill⟩ := s.cellMeasured_shows dq ok hmv
  have huah : (s.cellMeasured mv dq ok).rootRd F.RTD_CELLQ_UAH = ((s.rootRd F.RTD_CELLQ_UAH : Int) + dq).toNat := by
    rw [heq]
    exact (State.rootRd_congr (f := F.RTD_CELLQ_UAH) ((s.cellNoted mv dq).cellShown_rootReg mv (k := Reg.RTD_CELLQ) (by decide))).trans hnoted
  generalize s.cellMeasured mv dq ok = x at hrun hcount h1 h2 hstill huah
  have hgo : x.cellEmpty mv = x := if_neg fun h => by omega
  rw [hgo] at hrun
  refine ⟨x, hrun, h1, h2, ?_, hcount, (congrArg Still.rootOn hstill).trans hroot⟩
  rw [huah]
  omega

end Sys2Proof.Machine
end

section
/-! SUPPORT. The Root save and Root power-on (R490-R493), and the commands of heat and Root together. -/

namespace Sys2Proof.Machine

/-! ### A Root save (R490) -/

theorem State.rootSave_notes (s : State) (cause : Nat) (ok : Bool) : (s.rootSave cause ok).pwr.saves = s.saveImage ok :: s.pwr.saves.take 1 ∧
    (s.rootSave cause ok).pwr.savedAt = s.pwr.root ∧ (s.rootSave cause ok).upd = s.upd ∧
    (ok = false → (s.rootSave cause ok).rootBit F.RTD_STAT_SAVEFAIL = true) := by
  have hnoted : (s.saveNoted cause ok).pwr.saves = s.saveImage ok :: s.pwr.saves.take 1 ∧ (s.saveNoted cause ok).pwr.savedAt = s.pwr.root ∧
      (s.saveNoted cause ok).upd = s.upd := ⟨rfl, rfl, rfl⟩
  rw [State.rootSave_eq]
  generalize s.saveNoted cause ok = x at hnoted
  obtain ⟨hsaves, hat, hupd⟩ := hnoted
  cases ok with
  | true => exact ⟨hsaves, hat, hupd, fun h => absurd h Bool.noConfusion⟩
  | false =>
    rw [if_neg (by decide)]
    have hfail : (x.rootWr F.RTD_STAT_SAVEFAIL 1).rootRd F.RTD_STAT_SAVEFAIL = 1 := x.rootRd_rootWr_same _ 1 (by decide)
    have hpwr : (x.rootWr F.RTD_STAT_SAVEFAIL 1).pwr = x.pwr := rfl
    have hupd' : (x.rootWr F.RTD_STAT_SAVEFAIL 1).upd = x.upd := rfl
    generalize x.rootWr F.RTD_STAT_SAVEFAIL 1 = y at hfail hpwr hupd'
    have hf : State.AffectsOnly {Reg.SYS_STAT} y ((y.sysFlag F.SYS_STAT_CELL F.SYS_CTL_IE_CELL).record 0x02 0x42 sevWarning cause 0 0) :=
      (y.sysFlag_affects F.SYS_STAT_CELL F.SYS_CTL_IE_CELL).trans (.record _ _ _ _ _ _ _)
    have hp := (hf.part State.pwr fun _ _ => rfl).trans hpwr
    exact ⟨(congrArg Pwr.saves hp).trans hsaves, (congrArg Pwr.savedAt hp).trans hat, (hf.part State.upd fun _ _ => rfl).trans (hupd'.trans hupd),
      fun _ => decide_eq_true ((State.rootRd_congr (hf.rootReg _)).trans hfail)⟩

theorem execRootSave_saves (s : State) (ok : Bool) (c : Nat) (hroot : s.rootOn = true) (hdue : s.saveDue = some c) (hun : s.upd.unsaved = []) :
    Completes (.rootSave ok) s (fun t => t.pwr.saves = s.saveImage ok :: s.pwr.saves.take 1 ∧ t.pwr.savedAt = s.pwr.root ∧
      (ok = false → t.rootBit F.RTD_STAT_SAVEFAIL = true)) := by
  obtain ⟨hsaves, hat, hupd, hfail⟩ := s.rootSave_notes c ok
  have hrun : exec (.rootSave ok) s = .next (s.rootSave c ok) := by
    show execRootSave ok s = _
    unfold execRootSave
    rw [hdue]
    refine congrArg Host.Outcome.next ((if_pos hroot).trans (if_neg fun h => h.2.2 ?_))
    rw [hupd]
    exact hun
  exact ⟨_, hrun, hsaves, hat, hfail⟩

/-! ### Writes posted to Root (R76, R490, R493) -/

/-- The latch of a posted write: the value, the 1 bits merged with those that wait, and the present time. -/
def State.posted (s : State) (off : Nat) (v : W32) : Latch :=
  ⟨off, v, ((s.latches.find? (fun l => decide (l.off = off))).map (fun l => l.ones ||| v)).getD v, s.now⟩

theorem State.wpend_resp (s : State) : s.wpend.resp = s.resp := rfl

/-- A write that is taken leaves its latch as the only one of its register. -/
theorem State.postRoot_posts {s : State} {off : Nat} {v : W32} (hlisted : listedAt (0x2000 + off) v = true) (hkey : 0x2000 + off ≠ Reg.RTD_CELLCFG) :
    (s.postRoot off v).resp = s.resp ∧ (s.postRoot off v).latches.find? (fun l => decide (l.off = off)) = some (s.posted off v) := by
  have htaken : ¬ (listedAt (0x2000 + off) v = false ∨ (0x2000 + off = Reg.RTD_CELLCFG ∧ getBits v 31 16 ≤ getBits v 15 0)) := by
    rintro (h | ⟨h, -⟩)
    · simp [h] at hlisted
    · exact hkey h
  unfold State.postRoot
  rw [if_neg htaken]
  dsimp only
  rw [State.wpend_resp, State.wpend_latches]
  refine ⟨rfl, ?_⟩
  have hrest : (s.latches.filter (fun l => decide (l.off ≠ off))).find? (fun l => decide (l.off = off)) = none := by
    rw [List.find?_eq_none]
    intro l hl h
    simp only [List.mem_filter, decide_eq_true_eq] at hl h
    exact hl.2 h
  rw [List.find?_append, hrest, Option.none_or, List.find?_cons_of_pos (by simp)]
  unfold State.posted
  cases s.latches.find? (fun l => decide (l.off = off)) <;> rfl

theorem execRtdSaveNow_posts (s : State) (ag : Agent) (hacc : s.accepts ag 0x02 0x048 = true) :
    Completes (.rtdSaveNow ag) s (fun t => t.resp = .done ∧ t.latches.find? (fun l => decide (l.off = 0x048)) =
      some ⟨0x048, 0x80000000, ((s.latches.find? (fun l => decide (l.off = 0x048))).map (fun l => l.ones ||| 0x80000000)).getD 0x80000000, s.now⟩) :=
  ⟨_, congrArg Host.Outcome.next (State.gate_accepts _ hacc), State.postRoot_posts (s := s.done) (by decide) (by decide)⟩

theorem execRtdCalload_posts (s : State) (ag : Agent) (v : W32) (hacc : s.accepts ag 0x02 0x000 = true) (hlist : listedAt Reg.RTD_CTL (setBits v 31 31 1) = true) :
    Completes (.rtdCalload ag v) s (fun t => t.resp = .done ∧
      (t.latches.find? (fun l => decide (l.off = 0))).map (fun l => (l.value, l.time)) = some (setBits v 31 31 1, s.now)) := by
  obtain ⟨hresp, hfind⟩ := State.postRoot_posts (s := s.done) (off := 0) hlist (by decide)
  refine ⟨_, congrArg Host.Outcome.next (State.gate_accepts _ hacc), hresp, ?_⟩
  rw [hfind]
  rfl

/-! ### Root power-on (R492) -/

/-- Root at its reset values with what a save holds. -/
def State.rootRestored (s : State) (v : RootSave) : State :=
  let t : State := { s with rootOn := true, rootRegs := v.regs, latches := [], evr := { s.evr with buckets := [], bases := [], refilled := [] }, pwr := { cal := v.cal, saves := s.pwr.saves }, upd := { s.upd with arb := v.arb }, outs := { s.outs with wear := v.wear } }
  let t := (t.wideSet Reg.RTD_SDLSAVE_LO v.sdl).setRoot Reg.RTD_OPSEC (BitVec.ofNat 32 v.opsec)
  t.setRoot Reg.RTD_PWRCYC (BitVec.ofNat 32 v.pwrcyc)

theorem execRootPowerOn_eq {s : State} (h : s.rootOn = false) : exec (.rootPowerOn) s =
    .next (if s.validSave.isSome then ((s.rootRestored (s.validSave.getD {})).rootWr F.RTD_STAT_CALLOST 1).rootWr F.RTD_STAT_CALVALID 0
      else s.rootRestored (s.validSave.getD {})) :=
  congrArg Host.Outcome.next (if_neg (by rw [h]; decide))

theorem State.rootRestored_shows (s : State) (v : RootSave) : (s.rootRestored v).rootOn = true ∧ (s.rootRestored v).latches = [] ∧
    (s.rootRestored v).pwr.st = 0 ∧ (s.rootRestored v).pwr.cal = v.cal ∧ (s.rootRestored v).upd.arb = v.arb ∧ (s.rootRestored v).outs.wear = v.wear :=
  ⟨rfl, rfl, rfl, rfl, rfl, rfl⟩

theorem State.rootRestored_opsec (s : State) (v : RootSave) : ((s.rootRestored v).rootReg Reg.RTD_OPSEC).toNat = v.opsec % 2 ^ 32 := by
  unfold State.rootRestored
  extract_lets _ _ _ _ u
  rw [State.setRoot_rootReg_other _ _ (by decide)]
  have h : u.rootReg Reg.RTD_OPSEC = BitVec.ofNat 32 v.opsec := State.setRoot_rootReg_same _ _ _
  rw [h, BitVec.toNat_ofNat]

/-- A register whose reset word is 0, in no map, stays in no map when 0 is written. -/
theorem SMap.set_reset {d : Nat → W32} {k : Nat} (h : d k = 0) : SMap.set d [] k 0 = [] := by
  unfold SMap.set
  rw [if_pos h.symm]
  rfl

theorem regReset_opsec (code : Code) (hwrev : Nat) : regReset code hwrev Reg.RTD_OPSEC = 0 := rfl

theorem regReset_pwrcyc (code : Code) (hwrev : Nat) : regReset code hwrev Reg.RTD_PWRCYC = 0 := rfl

theorem State.rootRestored_bare (s : State) : (s.rootRestored {}).pwr.cal = 0 ∧ (s.rootRestored {}).rootRegs = [] := by
  refine ⟨rfl, ?_⟩
  show SMap.set (regReset s.code s.hwrev) (SMap.set (regReset s.code s.hwrev) [] Reg.RTD_OPSEC 0) Reg.RTD_PWRCYC 0 = []
  rw [SMap.set_reset (regReset_opsec _ _), SMap.set_reset (regReset_pwrcyc _ _)]

theorem execRootPowerOn_resets (s : State) (hroot : s.rootOn = false) (hsave : s.validSave = none) :
    Completes (.rootPowerOn) s (fun t => t.rootOn = true ∧ t.latches = [] ∧ t.pwr.st = 0 ∧ t.pwr.cal = 0 ∧ t.rootRegs = []) := by
  have hrun := execRootPowerOn_eq hroot
  rw [hsave] at hrun
  obtain ⟨hon, hlatch, hst, -⟩ := s.rootRestored_shows {}
  exact ⟨_, hrun, hon, hlatch, hst, s.rootRestored_bare⟩

theorem execRootPowerOn_restores (s : State) (v : RootSave) (hroot : s.rootOn = false) (hsave : s.validSave = some v) :
    Completes (.rootPowerOn) s (fun t => t.rootOn = true ∧ t.latches = [] ∧ t.pwr.st = 0 ∧ (t.pwr.cal = v.cal ∧ t.upd.arb = v.arb ∧ t.outs.wear = v.wear) ∧
      (t.rootReg Reg.RTD_OPSEC).toNat = v.opsec % 2 ^ 32 ∧ t.rootBit F.RTD_STAT_CALLOST = true ∧ t.rootBit F.RTD_STAT_CALVALID = false) := by
  have hrun := execRootPowerOn_eq hroot
  rw [hsave] at hrun
  obtain ⟨hon, hlatch, hst, hcal, harb, hwear⟩ := s.rootRestored_shows v
  have hops := s.rootRestored_opsec v
  refine ⟨_, hrun, ?_⟩
  rw [if_pos (show (some v).isSome = true from rfl)]
  dsimp only [Option.getD_some]
  generalize s.rootRestored v = x at hon hlatch hst hcal harb hwear hops
  have hlost : ((x.rootWr F.RTD_STAT_CALLOST 1).rootWr F.RTD_STAT_CALVALID 0).rootRd F.RTD_STAT_CALLOST = 1 :=
    (State.rootRd_rootWr_apart _ 0 (by decide)).trans (x.rootRd_rootWr_same _ 1 (by decide))
  have hvalid : ((x.rootWr F.RTD_STAT_CALLOST 1).rootWr F.RTD_STAT_CALVALID 0).rootRd F.RTD_STAT_CALVALID = 0 := State.rootRd_rootWr_same _ _ 0 (by decide)
  have hops' : ((x.rootWr F.RTD_STAT_CALLOST 1).rootWr F.RTD_STAT_CALVALID 0).rootReg Reg.RTD_OPSEC = x.rootReg Reg.RTD_OPSEC :=
    (State.rootWr_rootReg_other _ 0 (by decide)).trans (x.rootWr_rootReg_other 1 (by decide))
  refine ⟨hon, hlatch, hst, ⟨hcal, harb, hwear⟩, (congrArg BitVec.toNat hops').trans hops, decide_eq_true hlost, decide_eq_false ?_⟩
  rw [hvalid]
  decide

/-- Settles O50: every clause by the lemma that says what its command does. -/
theorem heatAndRootComplete : Obligations.HeatAndRootComplete := by
  unfold Obligations.HeatAndRootComplete
  exact ⟨execThermalShed_sheds, execThermalReturn_returns, execThermalCut_cuts, execThermalCut_resets, execCellMeasure_charges, execCellMeasure_measures,
    execRootSave_saves, execRtdSaveNow_posts, execRtdCalload_posts, execRootPowerOn_resets, execRootPowerOn_restores⟩

end Sys2Proof.Machine
end

section
/-! SUPPORT. What the update engine's registers and stores keep (R522, R528-R533, R545), beside the engine itself. -/

namespace Sys2Proof.Machine

/-! ### The registers of the stores (R545) -/

/-- The registers of the units, the free stores, the keys and UPD_STAT. -/
def updStores : Set Nat := {k | (0x5100 ≤ k ∧ k < 0x5220) ∨ k = Reg.UPD_STORE ∨ k = Reg.UPD_KEYSTAT ∨ k = Reg.UPD_STAT}

theorem mem_updStores {k u r : Nat} (h : k = 0x5100 + r + 0x20 * (u % 9)) (hr : r < 0x20) : k ∈ updStores := by
  have hu := Nat.mod_lt u (show 0 < 9 by decide)
  exact .inl (by omega)

theorem State.unitRegs_affects (s : State) (u : Nat) : State.AffectsOnly updStores s (s.unitRegs u) := by
  have hw (x : State) (r : Nat) {f : Fld} (v : Nat) (h : f.addr = 0x5100 + r + 0x20 * (u % 9)) (hr : r < 0x20) : State.AffectsOnly updStores x (x.wr f v) :=
    .wr x v (.inl (mem_updStores h hr))
  have hcfg (x : State) : State.AffectsOnly updStores x (if u ≤ 5 then match s.cfgFor u (s.runCfgver u) with
      | some k => (x.wrSat (F.UPD_Uu_CFG_CFGVER u) (s.cfgRec u k).cfgver).wr (F.UPD_Uu_CFG_SEQ u) (s.cfgRec u k).seq
      | none => x.wr (F.UPD_Uu_CFG_CFGVER u) 0 |>.wr (F.UPD_Uu_CFG_SEQ u) 0
      else x) := by
    refine .ite _ (fun _ => ?_) fun _ => .refl x
    split <;> exact (hw x 0x18 _ rfl (by decide)).trans (hw _ 0x18 _ rfl (by decide))
  have hprob (x : State) : State.AffectsOnly updStores x (match s.probation u with
      | some p => x.wrSat (F.UPD_Uu_PROB_MS u) ((p.1 + p.2 - s.now) / 1000000)
      | none => x.wr (F.UPD_Uu_PROB_MS u) 0) := by
    split <;> exact hw x 0x10 _ rfl (by decide)
  have hstat (x : State) {f : Fld} (v : Nat) (h : f.addr = Reg.UPD_Uu_STAT u) : State.AffectsOnly updStores x (x.wr f v) := hw x 0 v h (by decide)
  unfold State.unitRegs
  extract_lets a b c d e
  have ha : State.AffectsOnly updStores s a := ((hstat s _ rfl).trans (hstat _ _ rfl)).trans (hstat _ _ rfl)
  have hb : State.AffectsOnly updStores a b := (hstat a _ rfl).trans (hw _ 4 _ rfl (by decide))
  have hc : State.AffectsOnly updStores b c := (hw b 8 _ rfl (by decide)).trans (hw _ 0x14 _ rfl (by decide))
  have hd : State.AffectsOnly updStores c d := hw c 0x1C _ rfl (by decide)
  exact (((ha.trans hb).trans hc).trans hd).trans ((hprob d).trans (hcfg e))

theorem State.updRegs_affects (s : State) : State.AffectsOnly updStores s s.updRegs := by
  have hstore : Reg.UPD_STORE ∈ updStores := .inr (.inl rfl)
  have hkey : Reg.UPD_KEYSTAT ∈ updStores := .inr (.inr (.inl rfl))
  have hstat : Reg.UPD_STAT ∈ updStores := .inr (.inr (.inr rfl))
  unfold State.updRegs
  extract_lets t used cfg table a b on was c
  have ht : State.AffectsOnly updStores s t := .foldl _ (fun x u => x.unitRegs_affects u) _ s
  have ha : State.AffectsOnly updStores t a := (State.AffectsOnly.wr t _ (.inl hstore)).trans (.wr _ _ (.inl hstore))
  have hb : State.AffectsOnly updStores a b := (State.AffectsOnly.wr a _ (.inl hkey)).trans (.wr _ _ (.inl hkey))
  have hc : State.AffectsOnly updStores b c := .wr b _ (.inl hstat)
  have h := ((ht.trans ha).trans hb).trans hc
  exact .ite _ (fun _ => h.trans (.irqBoth c _)) fun _ => h

theorem State.updRegs_upd (s : State) : s.updRegs.upd = s.upd := s.updRegs_affects.part State.upd fun _ _ => rfl

theorem State.updEvent_affects {S : Set Nat} (s : State) (tag u slot ver old : Nat) (rec : Option Nat) :
    State.AffectsOnly S s (s.updEvent tag u slot ver old rec) := by
  have h : State.AffectsOnly S s (s.eventEntry 65 0x80 tag 0 (resultOf [(24, 1, u), (25, 1, slot), (28, 8, s.now), (36, 4, ver), (40, 4, old)]) true).1 :=
    .eventEntry _ _ _ _ _ _ _
  unfold State.updEvent
  dsimp only
  split
  · exact h.trans (.record _ _ _ _ _ _ _)
  · exact h

theorem State.updEvent_upd (s : State) (tag u slot ver old : Nat) (rec : Option Nat) : (s.updEvent tag u slot ver old rec).upd = s.upd :=
  (s.updEvent_affects (S := ∅) tag u slot ver old rec).part State.upd fun _ _ => rfl

/-- The registers of the package's items. -/
def updItems : Set Nat := {k | 0x5040 ≤ k ∧ k < 0x5060}

theorem State.itemState_affects (s : State) (k st status : Nat) : State.AffectsOnly updItems s (s.itemState k st status) := by
  have hitem (x : State) {f : Fld} (v : Nat) (h : f.addr = Reg.UPD_ITEMk k) : State.AffectsOnly updItems x (x.wr f v) :=
    .wr x v (.inl (by rw [h]; show 0x5040 ≤ Reg.UPD_ITEMk k ∧ Reg.UPD_ITEMk k < 0x5060; unfold Reg.UPD_ITEMk; omega))
  exact (hitem s _ rfl).trans (hitem _ _ rfl)

/-! ### What leaves the update engine alone -/

/-- `t` has the update engine's part of the state and the registers of block UPD as `s` has them. -/
structure State.SparesUpd (s t : State) : Prop where
  upd : t.upd = s.upd
  reg : ∀ k, k / 0x1000 = 5 → t.reg k = s.reg k

namespace State.SparesUpd

variable {s t u : State}

theorem refl (s : State) : SparesUpd s s := ⟨rfl, fun _ _ => rfl⟩

theorem trans (h : SparesUpd s t) (h' : SparesUpd t u) : SparesUpd s u := ⟨h'.upd.trans h.upd, fun k hk => (h'.reg k hk).trans (h.reg k hk)⟩

theorem ite (c : Prop) [Decidable c] (h : c → SparesUpd s t) (h' : ¬ c → SparesUpd s u) : SparesUpd s (if c then t else u) := by
  split
  · exact h ‹_›
  · exact h' ‹_›

theorem foldl {α : Type*} (f : State → α → State) (h : ∀ (x : State) a, SparesUpd x (f x a)) (l : List α) (s : State) : SparesUpd s (l.foldl f s) :=
  List.foldlRecOn (motive := fun x : State => SparesUpd s x) l f (refl s) fun x hx a _ => hx.trans (h x a)

theorem rd (h : SparesUpd s t) {f : Fld} (hf : f.addr / 0x1000 = 5) : t.rd f = s.rd f := State.rd_congr (h.reg _ hf)

theorem of_affects {S : Set Nat} (h : AffectsOnly S s t) (hS : ∀ k ∈ S, k / 0x1000 ≠ 5) : SparesUpd s t :=
  ⟨h.part State.upd fun _ _ => rfl, fun k hk => h.reg k (notEntry (by omega)) fun hkS => hS k hkS hk⟩

theorem of_affectsNone (h : AffectsOnly ∅ s t) : SparesUpd s t := of_affects h fun k hk => absurd hk (Set.notMem_empty k)

theorem of_terrace (h : TerraceTo s t) : SparesUpd s t := ⟨h.part State.upd fun _ _ => rfl, fun k hk => h.reg k (notEntry (by omega)) (by omega)⟩

theorem wr (s : State) {f : Fld} (v : Nat) (h : f.addr / 0x1000 ≠ 5) : SparesUpd s (s.wr f v) :=
  of_affects (.wr (S := {f.addr}) s v (.inl rfl)) fun _ hk => hk ▸ h

theorem inc (s : State) {f : Fld} (h : f.addr / 0x1000 ≠ 5) : SparesUpd s (s.inc f) := wr s _ h

theorem setReg (s : State) {k : Nat} (w : W32) (h : k / 0x1000 ≠ 5) : SparesUpd s (s.setReg k w) :=
  of_affects (.setReg (S := {k}) s w (.inl rfl)) fun _ hk => hk ▸ h

/-! ### Dales (R501, R503, R533, R536) -/

theorem setHlt (s : State) (x : Health) : SparesUpd s (s.setHlt x) := ⟨rfl, fun _ _ => rfl⟩

theorem irq (s : State) (d : Dest) (x : IrqSrc) : SparesUpd s (s.irq d x) := ⟨rfl, fun _ _ => rfl⟩

theorem withHeld (s : State) (x : List Nat) : SparesUpd s { s with held := x } := ⟨rfl, fun _ _ => rfl⟩

theorem withOwed (s : State) (x : List (Nat × Nat)) : SparesUpd s { s with mbxOwed := x } := ⟨rfl, fun _ _ => rfl⟩

theorem mapBit (s : State) {base : Nat} (q : Nat) (v : Bool) (h : (base + 4 * (q / 32 % 4)) / 0x1000 ≠ 5) : SparesUpd s (s.mapBit base q v) := wr s _ h

theorem mbx_block (m : Nat) : Reg.MBX_MnSTAT m / 0x1000 ≠ 5 ∧ Reg.MBX_MnLO m / 0x1000 ≠ 5 ∧ Reg.MBX_MnHI m / 0x1000 ≠ 5 := by
  unfold Reg.MBX_MnSTAT Reg.MBX_MnLO Reg.MBX_MnHI
  omega

theorem full_block (m : Nat) : (Reg.MBX_FULL_LO + 4 * (m / 32 % 4)) / 0x1000 ≠ 5 ∧ (Reg.MBX_ABT_LO + 4 * (m / 32 % 4)) / 0x1000 ≠ 5 := by
  unfold Reg.MBX_FULL_LO Reg.MBX_ABT_LO
  omega

theorem mbxAbort (s : State) (m : Nat) : SparesUpd s (s.mbxAbort m) := by
  obtain ⟨hs, hl, hh⟩ := mbx_block m
  unfold State.mbxAbort
  extract_lets src t u
  have ht : SparesUpd s t := ((((wr s _ hs).trans (wr _ _ hs)).trans (setReg _ _ hl)).trans (setReg _ _ hh)).trans (mapBit _ m false (full_block m).1)
  have hu : SparesUpd s u := (ht.trans (mapBit _ m true (full_block m).2)).trans (inc _ (by decide))
  exact ite _ (fun _ => ite _ (fun _ => hu.trans (irq _ _ _)) fun _ => hu.trans (withOwed _ _)) fun _ => refl s

theorem holdAgent (s : State) (id : Nat) : SparesUpd s (s.holdAgent id) :=
  ite _ (fun _ => refl s) fun _ => (withHeld s _).trans (foldl _ (fun x _ => mbxAbort x _) _ _)

theorem freeAgent (s : State) (id : Nat) : SparesUpd s (s.freeAgent id) :=
  (withHeld s _).trans ((withOwed _ _).trans (foldl _ (fun x _ => irq x _ _) _ _))

theorem dale_block (n : Nat) : Reg.HLT_DALEn_STAT n / 0x1000 ≠ 5 ∧ Reg.HLT_DALEn_CTL n / 0x1000 ≠ 5 ∧ Reg.HLT_DALEn_HBAGE n / 0x1000 ≠ 5 := by
  unfold Reg.HLT_DALEn_STAT Reg.HLT_DALEn_CTL Reg.HLT_DALEn_HBAGE
  omega

theorem trlRole (s : State) : SparesUpd s s.trlRole := by
  unfold State.trlRole
  split
  · exact ite _ (fun _ => refl s) fun _ => (wr s _ (by decide)).trans (inc _ (by decide))
  · exact refl s

theorem setCarry (s : State) (c : Nat) : SparesUpd s (s.setCarry c) :=
  (((wr s _ (by decide)).trans (wr _ _ (dale_block 0).1)).trans (wr _ _ (dale_block 1).1)).trans (trlRole _)

theorem hltEvent (s : State) (tag b24 b25 res : Nat) (rec : Option (Nat × Nat)) : SparesUpd s (s.hltEvent tag b24 b25 res rec) := by
  have h : SparesUpd s (s.eventEntry 67 0x80 tag 0 (resultOf [(24, 1, b24), (25, 1, b25), (28, 8, s.now), (36, 4, res)]) true).1 :=
    of_affectsNone (.eventEntry _ _ _ _ _ _ _)
  unfold State.hltEvent
  dsimp only
  split
  · exact h.trans (of_affectsNone (.record _ _ _ _ _ _ _))
  · exact h

theorem noCarry (s : State) : SparesUpd s s.noCarry :=
  ite _ (fun _ => refl s) fun _ => ((setCarry s 2).trans (setHlt _ _)).trans (hltEvent _ _ _ _ _ _)

theorem handToken (s : State) (owner : Nat) : SparesUpd s (s.handToken owner) :=
  ite _ (fun _ => of_affectsNone (.tokGive _ _)) fun _ => of_affectsNone (.tokWithdraw _ _ _ _)

theorem endPlanned (s : State) (st : Nat) : SparesUpd s (s.endPlanned st) := by
  unfold State.endPlanned
  split
  · refine ite _ (fun _ => refl s) fun _ => ?_
    extract_lets _ t1 t2
    have h1 : SparesUpd s t1 := (setHlt s _).trans (wr _ _ (by decide))
    have h2 : SparesUpd s t2 := h1.trans (ite _ (fun _ => refl _) fun _ => handToken _ _)
    clear_value t2
    split
    · exact h2.trans (of_affectsNone (.complete _ _ _ _))
    · exact h2
  · exact refl s

theorem daleHold (s : State) (n : Nat) : SparesUpd s (s.daleHold n) := by
  obtain ⟨hs, hc, -⟩ := dale_block n
  unfold State.daleHold
  extract_lets t0 t1 planned
  have h0 : SparesUpd s t0 := ite _ (fun _ => refl s) fun _ => wr _ _ hs
  have h1 : SparesUpd s t1 := ((h0.trans (wr _ _ hc)).trans (wr _ _ hc)).trans (holdAgent _ _)
  clear_value t1 planned
  exact ite _ (fun _ => (ite _ (fun _ => h1.trans (endPlanned _ _)) fun _ => h1).trans (noCarry _)) fun _ => ite _ (fun _ => h1.trans (endPlanned _ _)) fun _ => h1

theorem faultHand (s : State) (src cause : Nat) : SparesUpd s (s.faultHand src cause) := (setHlt s _).trans (wr _ _ (by decide))

/-! ### Engines (R538) -/

theorem terLoad (s : State) (ms : Option Nat) : SparesUpd s (s.terLoad ms) := by
  unfold State.terLoad
  split
  · exact wr s _ (by decide)
  · next m =>
    extract_lets t _ x u
    have ht : SparesUpd s t := (of_affectsNone (.putFree s _ _)).trans (of_affectsNone (.putFree _ _ _))
    have hx : SparesUpd t x := ite _ (fun _ => refl t) fun _ => ⟨rfl, fun _ _ => rfl⟩
    have hu : SparesUpd x u := ((wr x _ (by decide)).trans (wr _ _ (by decide))).trans (wr _ _ (by decide))
    have hwear (y : State) : SparesUpd y y.wearRegs :=
      ((((wr y _ (by decide)).trans (wr _ _ (by decide))).trans (wr _ _ (by decide))).trans (wr _ _ (by decide))).trans (wr _ _ (by decide))
    exact ((ht.trans hx).trans hu).trans (((of_terrace (.judgeAll u)).trans (hwear _)).trans (of_terrace (.terRegs _)))

theorem engineSwitch (s : State) (u : Nat) : SparesUpd s (s.engineSwitch u) := by
  unfold State.engineSwitch
  refine ite _ (fun _ => ite _ (fun _ => ⟨rfl, fun _ _ => rfl⟩) fun _ => refl s) fun _ => ite _ (fun _ => ?_) fun _ => ite _ (fun _ => ⟨rfl, fun _ _ => rfl⟩) fun _ => refl s
  refine ite _ (fun _ => ?_) fun _ => refl s
  exact (((wr s _ (by decide)).trans (wr _ _ (by decide))).trans (terLoad _ _)).trans (of_affectsNone (.tickFree _))

end State.SparesUpd

end Sys2Proof.Machine
end

section
/-! SUPPORT. Fall-backs, expired windows and the end of a package (R528-R533). -/

namespace Sys2Proof.Machine

/-! ### The end of a package (R528, R529) -/

/-- The run and the package gone from the engine. -/
def Upd.ended (x : Upd) : Upd := { x with run := none, pkg := none, furIdx := none }

/-- The registers beside UPD_PKGSTAT. -/
def pkgApart : Set Nat := {k | k ≠ Reg.UPD_PKGSTAT}

theorem State.endApply_shows {s : State} {r : UpdRun} (h : s.upd.run = some r) (st unit : Nat) :
    State.AffectsOnly pkgApart ((({ s with upd := s.upd.ended } : State).wr F.UPD_PKGSTAT_STATE (if st = 0 then 4 else 5)).wr F.UPD_PKGSTAT_STATUS st)
      (s.endApply st unit) := by
  have hw (x : State) {f : Fld} (v : Nat) (hf : f.addr ≠ Reg.UPD_PKGSTAT) : State.AffectsOnly pkgApart x (x.wr f v) := .wr x v (.inl hf)
  have hinc (x : State) {f : Fld} (hf : f.addr ≠ Reg.UPD_PKGSTAT) : State.AffectsOnly pkgApart x (x.inc f) := .inc x (.inl hf)
  have htold (x : State) (item : Nat) : State.AffectsOnly pkgApart x (if st = 0 then (x.inc F.UPD_ACCCNT_CNT).flag F.UPD_STAT_DONE F.UPD_CTL_IE_DONE
      else (((x.inc F.UPD_REJCNT_CNT).wr F.UPD_LASTERR_UNIT unit).wr F.UPD_LASTERR_ITEM item).wr F.UPD_LASTERR_STATUS st) := by
    refine .ite _ (fun _ => (hinc x (by decide)).trans (.flag _ _ (.inl ?_))) fun _ => (((hinc x (by decide)).trans (hw _ _ (by decide))).trans (hw _ _ (by decide))).trans (hw _ _ (by decide))
    show Reg.UPD_STAT ≠ Reg.UPD_PKGSTAT
    decide
  unfold State.endApply
  rw [h]
  dsimp only
  refine .trans ?_ (.foldl _ (fun x d => .complete x 64 d {}) _ _)
  exact (htold _ _).trans (.complete _ _ _ _)

/-- What the end of a package leaves of the engine. -/
theorem State.endApply_upd (s : State) (st unit : Nat) : (s.endApply st unit).upd = if s.upd.run.isSome then s.upd.ended else s.upd := by
  cases h : s.upd.run with
  | none =>
    unfold State.endApply
    rw [h]
    rfl
  | some r => exact ((State.endApply_shows h st unit).part State.upd fun _ _ => rfl).trans rfl

theorem State.endApply_prob (s : State) (st unit : Nat) : (s.endApply st unit).upd.prob = s.upd.prob := by
  rw [State.endApply_upd]
  split <;> rfl

theorem State.fellStop_prob (s : State) (u : Nat) : (s.fellStop u).upd.prob = s.upd.prob := by
  unfold State.fellStop
  split
  · rfl
  · have hgive (x : State) (c : Nat) : (x.tokGive c).upd = x.upd := (State.AffectsOnly.tokGive (S := ∅) x c).part State.upd fun _ _ => rfl
    have hitem (x : State) (k a b : Nat) : (x.itemState k a b).upd = x.upd := (x.itemState_affects k a b).part State.upd fun _ _ => rfl
    dsimp only
    rw [State.endApply_prob, hitem]
    split
    · rw [hgive]
    · rfl

theorem State.fellStop_idle {s : State} (u : Nat) (h : s.upd.run = none) : s.fellStop u = s := by
  unfold State.fellStop
  rw [h]

/-! ### A fall-back (R533) -/

theorem State.rd_withUpd (s : State) (x : Upd) (f : Fld) : ({ s with upd := x } : State).rd f = s.rd f := rfl

/-- What a fall-back leaves of the engine, and its count. -/
theorem State.fellMark_shows (s : State) (u : Nat) : (s.fellMark u).upd.prob = s.upd.prob.filter (fun p => decide (p.1 ≠ u)) ∧
    (s.fellMark u).upd.run = s.upd.run ∧ (s.fellMark u).rd F.UPD_FALLCNT_CNT = min (s.rd F.UPD_FALLCNT_CNT + 1) (maxOf F.UPD_FALLCNT_CNT.width) := by
  rw [State.fellMark_eq]
  have hprob : ((s.failed u).fallCounted u).upd.prob = s.upd.prob.filter (fun p => decide (p.1 ≠ u)) := rfl
  have hrun : ((s.failed u).fallCounted u).upd.run = s.upd.run := rfl
  have hcnt : ((s.failed u).fallCounted u).rd F.UPD_FALLCNT_CNT = s.rd F.UPD_FALLCNT_CNT :=
    (State.rd_withUpd _ _ _).trans ((State.rd_withUpd _ _ _).trans ((State.rd_withUpd _ _ _).trans (State.rd_withUpd s _ _)))
  generalize (s.failed u).fallCounted u = x at hprob hrun hcnt
  have hregs := x.updRegs_affects
  have hupd := x.updRegs_upd
  have hcnt' : x.updRegs.rd F.UPD_FALLCNT_CNT = s.rd F.UPD_FALLCNT_CNT := by
    refine (hregs.rd (notEntry (by decide)) ?_).trans hcnt
    show ¬ ((0x5100 ≤ Reg.UPD_FALLCNT ∧ Reg.UPD_FALLCNT < 0x5220) ∨ Reg.UPD_FALLCNT = Reg.UPD_STORE ∨ Reg.UPD_FALLCNT = Reg.UPD_KEYSTAT ∨ Reg.UPD_FALLCNT = Reg.UPD_STAT)
    decide
  generalize x.updRegs = y at hupd hcnt'
  have hlate : State.AffectsOnly {Reg.UPD_STAT} (y.inc F.UPD_FALLCNT_CNT) (((y.inc F.UPD_FALLCNT_CNT).flag F.UPD_STAT_FELLBACK F.UPD_CTL_IE_FALL).updEvent
      3 u (s.slotAct u) (s.slot u (s.slotAct u)).ver 0 (some sevWarning)) :=
    (State.AffectsOnly.flag (S := {Reg.UPD_STAT}) _ (stat := F.UPD_STAT_FELLBACK) _ (.inl rfl)).trans (State.updEvent_affects _ _ _ _ _ _ _)
  have hincupd : (y.inc F.UPD_FALLCNT_CNT).upd = x.upd := (Eq.refl (y.upd)).trans hupd
  have hcount : (y.inc F.UPD_FALLCNT_CNT).rd F.UPD_FALLCNT_CNT = min (s.rd F.UPD_FALLCNT_CNT + 1) (maxOf F.UPD_FALLCNT_CNT.width) := by
    rw [← hcnt']
    exact y.rd_inc_same (by decide)
  have hall := (hlate.part State.upd fun _ _ => rfl).trans hincupd
  exact ⟨(congrArg Upd.prob hall).trans hprob, (congrArg Upd.run hall).trans hrun,
    (hlate.rd (notEntry (by decide)) (by show ¬ Reg.UPD_FALLCNT = Reg.UPD_STAT; decide)).trans hcount⟩

/-! ### Starts (R522) -/

/-- `t` has the probations, the run and UPD_FALLCNT as `s` has them. -/
def State.FallKept (s t : State) : Prop := t.upd.prob = s.upd.prob ∧ t.upd.run = s.upd.run ∧ t.rd F.UPD_FALLCNT_CNT = s.rd F.UPD_FALLCNT_CNT

theorem State.FallKept.trans {s t u : State} (h : s.FallKept t) (h' : t.FallKept u) : s.FallKept u :=
  ⟨h'.1.trans h.1, h'.2.1.trans h.2.1, h'.2.2.trans h.2.2⟩

theorem State.FallKept.of_spares {s t : State} (h : State.SparesUpd s t) : s.FallKept t :=
  ⟨congrArg Upd.prob h.upd, congrArg Upd.run h.upd, h.rd (by decide)⟩

theorem State.FallKept.slotSet (s : State) (u k : Nat) (x : Slot) : s.FallKept (s.setSlot u k x) := ⟨rfl, rfl, rfl⟩

theorem State.FallKept.actSet (s : State) (u k : Nat) : s.FallKept (s.setAct u k) := ⟨rfl, rfl, rfl⟩

theorem State.FallKept.foldl {α : Type*} (f : State → α → State) (h : ∀ (x : State) a, x.FallKept (f x a)) (l : List α) (s : State) : s.FallKept (l.foldl f s) :=
  List.foldlRecOn (motive := fun x : State => s.FallKept x) l f ⟨rfl, rfl, rfl⟩ fun x hx a _ => hx.trans (h x a)

theorem State.FallKept.ite {s t u : State} (c : Prop) [Decidable c] (h : s.FallKept t) (h' : s.FallKept u) : s.FallKept (if c then t else u) := by
  split
  · exact h
  · exact h'

theorem State.FallKept.refl (s : State) : s.FallKept s := ⟨rfl, rfl, rfl⟩

theorem State.failBad_fall (s : State) (u : Nat) (bad : List Nat) : s.FallKept (s.failBad u bad) :=
  .foldl _ (fun x _ => .ite _ (.slotSet x _ _ _) (.refl x)) _ _

theorem State.startUnit_fall (s : State) (u : Nat) (bad : List Nat) : s.FallKept (s.startUnit u bad) := by
  unfold State.startUnit
  extract_lets t1 best t2
  have h1 : s.FallKept t1 := .foldl _ (fun x _ => .ite _ (.slotSet x _ _ _) (.refl x)) _ _
  have h2 : t1.FallKept t2 := by
    clear_value best
    cases best with
    | none => exact .refl t1
    | some k => exact .ite _ (.slotSet t1 _ _ _) (.refl t1)
  refine (h1.trans h2).trans ?_
  clear_value t2
  split
  · exact (t2.failBad_fall _ _).trans (.actSet _ _ _)
  · exact t2.failBad_fall _ _

theorem State.updRegs_fall (s : State) : s.FallKept s.updRegs := by
  refine ⟨congrArg Upd.prob s.updRegs_upd, congrArg Upd.run s.updRegs_upd, s.updRegs_affects.rd (notEntry (by decide)) ?_⟩
  show ¬ ((0x5100 ≤ Reg.UPD_FALLCNT ∧ Reg.UPD_FALLCNT < 0x5220) ∨ Reg.UPD_FALLCNT = Reg.UPD_STORE ∨ Reg.UPD_FALLCNT = Reg.UPD_KEYSTAT ∨ Reg.UPD_FALLCNT = Reg.UPD_STAT)
  decide

theorem State.daleStart_fall (s : State) (n : Nat) (bad : List Nat) : s.FallKept (s.daleStart n bad) := by
  obtain ⟨hs, -, hh⟩ := State.SparesUpd.dale_block n
  unfold State.daleStart
  extract_lets t u
  have ht : s.FallKept t := (s.startUnit_fall n bad).trans (State.updRegs_fall _)
  have hu : t.FallKept u := .of_spares ((State.SparesUpd.wr t _ hs).trans (.freeAgent _ _))
  exact .ite _ ((ht.trans hu).trans (.of_spares ((State.SparesUpd.setHlt u _).trans (.wr _ _ hh)))) ht

/-- The unit's former image started: what it leaves of the engine. -/
theorem State.fallStarted (s : State) (u : Nat) (carried : Bool) : s.FallKept ((if carried then (s.daleHold u).faultHand u 2 else s.daleHold u).daleStart u []) := by
  have hhold : s.FallKept (s.daleHold u) := .of_spares (.daleHold s u)
  exact (State.FallKept.ite _ (hhold.trans (.of_spares (.faultHand _ _ _))) hhold).trans (State.daleStart_fall _ _ _)

theorem State.updPost_fall (s : State) (op : Nat) (payload : List (Nat × Nat × Nat)) : s.FallKept (s.updPost op payload).1 := by
  unfold State.updPost
  extract_lets i next ph line t
  have ht : s.FallKept t := .of_spares (.of_affectsNone (.put s _ _))
  split
  · exact .refl s
  · exact ht.trans (.of_spares (.of_affectsNone (.setRing t _ _)))

/-- What a fall-back of a unit on probation shows. -/
theorem State.updFall_shows {s : State} {u : Nat} (h : (s.probation u).isSome = true) :
    (s.updFall u).upd.prob = s.upd.prob.filter (fun p => decide (p.1 ≠ u)) ∧ (s.upd.run = none → (s.updFall u).upd.run = none ∧
      (s.updFall u).rd F.UPD_FALLCNT_CNT = min (s.rd F.UPD_FALLCNT_CNT + 1) (maxOf F.UPD_FALLCNT_CNT.width)) := by
  obtain ⟨hprob, hrun, hcnt⟩ := s.fellMark_shows u
  have hkeep {x y : State} (hx : (s.fellMark u).FallKept x) (hy : (x.fellStop u).FallKept y) :
      y.upd.prob = s.upd.prob.filter (fun p => decide (p.1 ≠ u)) ∧ (s.upd.run = none → y.upd.run = none ∧
        y.rd F.UPD_FALLCNT_CNT = min (s.rd F.UPD_FALLCNT_CNT + 1) (maxOf F.UPD_FALLCNT_CNT.width)) := by
    obtain ⟨hxprob, hxrun, hxcnt⟩ := hx
    obtain ⟨hyprob, hyrun, hycnt⟩ := hy
    refine ⟨hyprob.trans ((x.fellStop_prob u).trans (hxprob.trans hprob)), fun hidle => ?_⟩
    have hxidle : x.upd.run = none := hxrun.trans (hrun.trans hidle)
    rw [State.fellStop_idle u hxidle] at hyrun hycnt
    exact ⟨hyrun.trans hxidle, hycnt.trans (hxcnt.trans hcnt)⟩
  unfold State.updFall
  rw [if_neg (by rw [Option.isSome_iff_ne_none] at h; simpa using h)]
  split
  · exact hkeep (.refl _) (State.fallStarted _ u _)
  · split
    · next h8 =>
      subst h8
      exact hkeep (State.updPost_fall _ _ _) (.refl _)
    · exact hkeep (.refl _) (.of_spares (.engineSwitch _ u))

end Sys2Proof.Machine
end

section
/-! SUPPORT. Confirmations, fall-backs and configuration records (R529-R533, R542, R543). -/

namespace Sys2Proof.Machine

/-! ### A run that waits -/

theorem State.updStep_idle {s : State} (h : s.upd.run = none) : s.updStep = s := by
  have hitem : s.runItem = none := by
    unfold State.runItem
    rw [h]
  unfold State.updStep
  rw [hitem]
  split
  · contradiction
  · rfl

theorem State.updGo_of_waits {s : State} (fuel : Nat) (h : s.updStep = s) : s.updGo fuel = s := by
  cases fuel with
  | zero => rfl
  | succ n =>
    unfold State.updGo
    dsimp only
    rw [h, if_pos rfl]

theorem State.updRun_idle {s : State} (h : s.upd.run = none) : s.updRun = s := State.updGo_of_waits 64 (State.updStep_idle h)

/-! ### Fall-backs (R533) -/

theorem State.probation_fallen {s t : State} {u : Nat} (h : t.upd.prob = s.upd.prob.filter (fun p => decide (p.1 ≠ u))) : t.probation u = none := by
  unfold State.probation
  rw [h, Option.map_eq_none_iff, List.find?_eq_none]
  intro p hp hu
  simp only [List.mem_filter, decide_eq_true_eq] at hp hu
  exact hp.2 hu

theorem execProbationExpiry_falls (s : State) (u since win : Nat) (hbed : s.bedOn = true) (hprob : s.probation u = some (since, win)) (hdue : since + win ≤ s.now) :
    Completes (.probationExpiry u) s (fun t => t.probation u = none) := by
  have hrun : exec (.probationExpiry u) s = .next (s.updFall u) := by
    show execProbationExpiry u s = _
    unfold execProbationExpiry
    rw [hprob]
    exact congrArg Host.Outcome.next (if_pos ⟨hbed, hdue⟩)
  exact ⟨_, hrun, State.probation_fallen (State.updFall_shows (by rw [hprob]; rfl)).1⟩

/-- The unit and the key of a write of UPD_CONFIRM. -/
theorem confirm_unit (v : W32) (key : Nat) : getBits (setBits v 31 16 key) 3 0 = v.toNat % 16 := by
  rw [getBits_setBits_other (by decide) (by decide) (.inr (by decide))]
  rfl

theorem State.confirmGate_accepts {s : State} {a : Agent} {v : W32} {u : Nat} (key : Nat) (k : Nat → State → State) (hbed : s.bedOn = true)
    (hv : v.toNat % 16 = u) (hu : u ≤ 8) (hconf : s.confirms a u = true) : s.confirmGate a (setBits v 31 16 key) k = k u s.done := by
  unfold State.confirmGate
  rw [confirm_unit, hv]
  dsimp only
  rw [if_neg (by rw [hbed]; decide), if_neg (by omega), if_neg (by rw [hconf]; decide)]

theorem execDeclareFailure_falls (s : State) (ag : Agent) (v : W32) (u : Nat) (hbed : s.bedOn = true) (hv : v.toNat % 16 = u) (hu : u ≤ 8)
    (hconf : s.confirms ag u = true) (hprob : (s.probation u).isSome = true) (hidle : s.upd.run = none) :
    Completes (.declareFailure ag v) s (fun t => t.resp = .done ∧ t.probation u = none ∧
      t.rd F.UPD_FALLCNT_CNT = min (s.rd F.UPD_FALLCNT_CNT + 1) (maxOf F.UPD_FALLCNT_CNT.width)) := by
  obtain ⟨hfall, hrest⟩ := State.updFall_shows (s := s.done) hprob
  obtain ⟨hrun', hcnt⟩ := hrest hidle
  have hrun : exec (.declareFailure ag v) s = .next (s.done.updFall u) := by
    refine congrArg Host.Outcome.next ((State.confirmGate_accepts 0xFA11 _ hbed hv hu hconf).trans ?_)
    exact State.updRun_idle hrun'
  exact ⟨_, hrun, (State.SysTo.updFall s.done u).part State.resp fun _ _ => rfl, State.probation_fallen hfall, hcnt⟩

/-! ### A confirmation (R531, R532) -/

theorem State.slot_setSlot_same (s : State) (u k : Nat) (x : Slot) : (s.setSlot u k x).slot u k = x := SMap.get_set_same _ _ _ _

theorem State.slot_setSlot_other (s : State) (u k : Nat) {j : Nat} (x : Slot) (h : j ≠ k) : (s.setSlot u k x).slot u j = s.slot u j :=
  SMap.get_set_other _ _ _ (by omega)

theorem State.slot_congr {s t : State} (h : t.upd.slots = s.upd.slots) (u k : Nat) : t.slot u k = s.slot u k := by
  unfold State.slot
  rw [h]

/-- The slot of a unit confirmed and its counter raised. -/
def State.slotConfirmed (s : State) (u : Nat) : State :=
  let t := s.setSlot u (s.slotAct u) { s.slot u (s.slotAct u) with st := 3 }
  { t with upd := { t.upd with arb := SMap.set (fun _ => 0) t.upd.arb u (max (s.arb u) (s.slot u (s.slotAct u)).ver) } }

/-- An older confirmed slot of the unit marked. -/
def State.olderStale (s : State) (u k : Nat) : State :=
  if (s.slot u (1 - k)).st = 3 ∧ (s.slot u (1 - k)).ver < s.arb u then s.setSlot u (1 - k) { s.slot u (1 - k) with st := 5 } else s

/-- The monotonic time of the unit's confirmation noted. -/
def State.opsecNoted (s : State) (u : Nat) : State :=
  { s with upd := { s.upd with opsec := SMap.set (fun _ => 0) s.upd.opsec u (s.rootReg Reg.RTD_OPSEC).toNat } }

theorem State.confirmStore_eq (s : State) (u : Nat) (ok : Bool) : s.confirmStore u ok =
    ((((((s.slotConfirmed u).olderStale u (s.slotAct u)).fuseKeys).opsecNoted u).offProbation u).rootSave 7 ok).updRegs := rfl

theorem State.fuseKeys_upd (s : State) : ∃ n, s.fuseKeys.upd = { s.upd with revoked := n } := by
  unfold State.fuseKeys
  split
  · split
    · exact ⟨_, rfl⟩
    · exact ⟨s.upd.revoked, rfl⟩
  · exact ⟨s.upd.revoked, rfl⟩

/-- What the stores show once a unit is confirmed. -/
theorem State.confirmStore_shows (s : State) (u : Nat) (ok : Bool) : ((s.confirmStore u ok).slot u (s.slotAct u)).st = 3 ∧
    (s.confirmStore u ok).probation u = none ∧ (s.confirmStore u ok).arb u = max (s.arb u) (s.slot u (s.slotAct u)).ver ∧
    (s.confirmStore u ok).upd.run = s.upd.run := by
  have h1 : ((s.slotConfirmed u).slot u (s.slotAct u)).st = 3 ∧ (s.slotConfirmed u).upd.arb = SMap.set (fun _ => 0) s.upd.arb u (max (s.arb u) (s.slot u (s.slotAct u)).ver) ∧
      (s.slotConfirmed u).upd.prob = s.upd.prob ∧ (s.slotConfirmed u).upd.run = s.upd.run :=
    ⟨congrArg Slot.st (s.slot_setSlot_same u (s.slotAct u) _), rfl, rfl, rfl⟩
  have h2 {x : State} (hx : (x.slot u (s.slotAct u)).st = 3) : ((x.olderStale u (s.slotAct u)).slot u (s.slotAct u)).st = 3 ∧
      (x.olderStale u (s.slotAct u)).upd.arb = x.upd.arb ∧ (x.olderStale u (s.slotAct u)).upd.prob = x.upd.prob ∧ (x.olderStale u (s.slotAct u)).upd.run = x.upd.run := by
    unfold State.olderStale
    split
    · exact ⟨(congrArg Slot.st (x.slot_setSlot_other u (1 - s.slotAct u) _ (by omega))).trans hx, rfl, rfl, rfl⟩
    · exact ⟨hx, rfl, rfl, rfl⟩
  rw [State.confirmStore_eq]
  obtain ⟨hst, harb, hprob, hrun⟩ := h1
  generalize s.slotConfirmed u = a at hst harb hprob hrun
  obtain ⟨hst2, harb2, hprob2, hrun2⟩ := h2 hst
  generalize a.olderStale u (s.slotAct u) = b at hst2 harb2 hprob2 hrun2
  obtain ⟨n, hfuse⟩ := b.fuseKeys_upd
  generalize b.fuseKeys = c at hfuse
  have hupd : (((c.opsecNoted u).offProbation u).rootSave 7 ok).updRegs.upd = ((c.opsecNoted u).offProbation u).upd :=
    (State.updRegs_upd _).trans (State.rootSave_notes _ 7 ok).2.2.1
  generalize (((c.opsecNoted u).offProbation u).rootSave 7 ok).updRegs = z at hupd
  have hc : c.upd.slots = b.upd.slots ∧ c.upd.arb = b.upd.arb ∧ c.upd.prob = b.upd.prob ∧ c.upd.run = b.upd.run := by rw [hfuse]; exact ⟨rfl, rfl, rfl, rfl⟩
  have hz : z.upd.slots = b.upd.slots ∧ z.upd.arb = b.upd.arb ∧ z.upd.prob = b.upd.prob.filter (fun p => decide (p.1 ≠ u)) ∧ z.upd.run = b.upd.run := by
    rw [hupd]
    exact ⟨hc.1, hc.2.1, congrArg (List.filter _) hc.2.2.1, hc.2.2.2⟩
  obtain ⟨hzs, hza, hzp, hzr⟩ := hz
  refine ⟨(congrArg Slot.st (State.slot_congr hzs u _)).trans hst2, State.probation_fallen (s := b) hzp, ?_, hzr.trans (hrun2.trans hrun)⟩
  show SMap.get (fun _ => 0) z.upd.arb u = _
  rw [hza, harb2, harb]
  exact SMap.get_set_same _ _ _ _

theorem State.confirmed_idle {s : State} (u : Nat) (h : s.upd.run = none) : (s.confirmed u).upd = s.upd ∧ (s.confirmed u).resp = s.resp := by
  have hupd := s.updEvent_upd 2 u (s.slotAct u) (s.slot u (s.slotAct u)).ver 0 none
  have hitem : (s.updEvent 2 u (s.slotAct u) (s.slot u (s.slotAct u)).ver 0 none).runItem = none := by
    unfold State.runItem
    rw [hupd, h]
  have heq : s.confirmed u = s.updEvent 2 u (s.slotAct u) (s.slot u (s.slotAct u)).ver 0 none := by
    unfold State.confirmed
    dsimp only
    rw [hitem]
  rw [heq]
  exact ⟨hupd, (State.updEvent_affects (S := ∅) s _ _ _ _ _ _).part State.resp fun _ _ => rfl⟩

theorem State.rootSave_resp (s : State) (cause : Nat) (ok : Bool) : (s.rootSave cause ok).resp = s.resp := by
  have hnoted : (s.saveNoted cause ok).resp = s.resp := rfl
  rw [State.rootSave_eq]
  generalize s.saveNoted cause ok = x at hnoted
  split
  · exact hnoted
  · have hf : State.AffectsOnly {Reg.SYS_STAT} (x.rootWr F.RTD_STAT_SAVEFAIL 1) (((x.rootWr F.RTD_STAT_SAVEFAIL 1).sysFlag F.SYS_STAT_CELL F.SYS_CTL_IE_CELL).record 0x02 0x42 sevWarning cause 0 0) :=
      (State.sysFlag_affects _ F.SYS_STAT_CELL F.SYS_CTL_IE_CELL).trans (.record _ _ _ _ _ _ _)
    exact (hf.part State.resp fun _ _ => rfl).trans hnoted

theorem State.confirmStore_resp (s : State) (u : Nat) (ok : Bool) : (s.confirmStore u ok).resp = s.resp := by
  rw [State.confirmStore_eq]
  refine ((State.SysTo.of_updates (.updRegs _)).part State.resp fun _ _ => rfl).trans ((State.rootSave_resp _ 7 ok).trans ?_)
  have hsys : State.SysTo s (s.slotConfirmed u) := (State.SysTo.withUpd s _).trans (.withUpd _ _)
  have holder (x : State) : State.SysTo x (x.olderStale u (s.slotAct u)) := .ite _ (fun _ => .withUpd x _) fun _ => .refl x
  exact (((hsys.trans (holder _)).trans (.fuseKeys _)).trans ((State.SysTo.withUpd _ _).trans (.withUpd _ _))).part State.resp fun _ _ => rfl

theorem execConfirm_confirms (s : State) (ag : Agent) (v : W32) (u : Nat) (hbed : s.bedOn = true) (hv : v.toNat % 16 = u) (hu : u ≤ 8)
    (hconf : s.confirms ag u = true) (hprob : (s.probation u).isSome = true) (hidle : s.upd.run = none) :
    Completes (.confirm ag v true) s (fun t => t.resp = .done ∧ (t.slot u (s.slotAct u)).st = 3 ∧ t.probation u = none ∧
      t.arb u = max (s.arb u) (s.slot u (s.slotAct u)).ver) := by
  obtain ⟨hst, hoff, harb, hrun⟩ := s.done.confirmStore_shows u true
  have hresp := s.done.confirmStore_resp u true
  have hmay : s.done.mayConfirm u = true := by
    unfold State.mayConfirm
    rw [show s.done.upd.run = none from hidle, show s.done.probation u = s.probation u from rfl, hprob]
    rfl
  have hexec : exec (.confirm ag v true) s = .next ((s.done.confirmStore u true).confirmed u) := by
    refine congrArg Host.Outcome.next ((State.confirmGate_accepts 0xC0F1 _ hbed hv hu hconf).trans ?_)
    unfold State.confirmUnit
    rw [if_neg (by rw [hmay]; decide)]
    dsimp only
    rw [if_pos rfl]
    exact State.updRun_idle ((congrArg Upd.run (State.confirmed_idle u (hrun.trans hidle)).1).trans (hrun.trans hidle))
  have hidle' := hrun.trans hidle
  generalize s.done.confirmStore u true = x at hst hoff harb hresp hexec hidle'
  obtain ⟨hupd, hresp'⟩ := State.confirmed_idle (s := x) u hidle'
  refine ⟨_, hexec, hresp'.trans hresp, (congrArg Slot.st (State.slot_congr (congrArg Upd.slots hupd) u _)).trans hst, ?_, ?_⟩
  · unfold State.probation at hoff ⊢
    rw [hupd]
    exact hoff
  · unfold State.arb at harb ⊢
    rw [hupd]
    exact harb

end Sys2Proof.Machine
end

section
/-! SUPPORT. The apply run, its aborts and the configuration records (R528, R529, R542, R543). -/

namespace Sys2Proof.Machine

/-! ### Records (R542) -/

/-- What the target slot of a record and its SEQ depend on. -/
def Upd.records (x : Upd) : SMap CfgRec × List (Nat × Nat × Nat) × SMap Slot × SMap Nat := (x.cfg, x.prob, x.slots, x.act)

theorem State.cfgRec_congr {s t : State} (h : t.upd.cfg = s.upd.cfg) (u k : Nat) : t.cfgRec u k = s.cfgRec u k := by
  unfold State.cfgRec
  rw [h]

theorem State.nextSeq_congr {s t : State} (h : t.upd.cfg = s.upd.cfg) (u : Nat) : t.nextSeq u = s.nextSeq u := by
  unfold State.nextSeq
  rw [State.cfgRec_congr h, State.cfgRec_congr h]

theorem State.cfgFor_congr {s t : State} (h : t.upd.cfg = s.upd.cfg) (u v : Nat) : t.cfgFor u v = s.cfgFor u v := by
  unfold State.cfgFor
  simp only [State.cfgRec_congr h]

theorem State.cfgTarget_congr {s t : State} (h : t.upd.records = s.upd.records) (u : Nat) : t.cfgTarget u = s.cfgTarget u := by
  obtain ⟨hcfg, hprob, hslots, hact⟩ : t.upd.cfg = s.upd.cfg ∧ t.upd.prob = s.upd.prob ∧ t.upd.slots = s.upd.slots ∧ t.upd.act = s.upd.act := by
    simpa [Upd.records] using h
  have hp (v : Nat) : t.probation v = s.probation v := by
    unfold State.probation
    rw [hprob]
  have ha (v : Nat) : t.slotAct v = s.slotAct v := by
    unfold State.slotAct
    rw [hact]
  unfold State.cfgTarget
  simp only [State.cfgRec_congr hcfg, State.cfgFor_congr hcfg, State.slot_congr hslots, hp, ha]

/-- The record that a write of unit `u`'s record leaves. -/
def State.newRec (s : State) (u v : Nat) (body : Bytes) : CfgRec := { ok := true, cfgver := v, seq := s.nextSeq u, body := body }

theorem State.cfgPut_upd (s : State) (u v : Nat) (body : Bytes) :
    (s.cfgPut u v body).upd = { s.upd with cfg := SMap.set (fun _ => {}) s.upd.cfg (2 * cfgUnit u + s.cfgTarget u) (s.newRec u v body) } :=
  State.updRegs_upd _

/-- A record written reads as it was written. -/
theorem State.cfgPut_cfgRec (s : State) (u v : Nat) (body : Bytes) : (s.cfgPut u v body).cfgRec u (s.cfgTarget u) = s.newRec u v body := by
  show SMap.get (fun _ => ({} : CfgRec)) (s.cfgPut u v body).upd.cfg (2 * cfgUnit u + s.cfgTarget u) = _
  rw [State.cfgPut_upd]
  dsimp only
  rw [SMap.get_set_same]

theorem State.cfgWriteBy_shows (s : State) (u : Nat) (body : Bytes) : (s.cfgWriteBy u body).1.upd = (s.cfgPut u (s.runCfgver u) body).upd := by
  have hmig (x : State) (o : Nat) : (((x.inc F.UPD_MIGCNT_CNT).wr F.UPD_STAT_MIGRATED 1).updEvent 4 (cfgUnit u) (x.slotAct u) (s.runCfgver u) o (some sevInfo)).upd = x.upd := by
    rw [State.updEvent_upd]
    rfl
  unfold State.cfgWriteBy
  extract_lets v old seq t
  clear_value old
  cases old with
  | none => rfl
  | some o =>
    dsimp only
    split
    · exact hmig t o
    · rfl

theorem execCfgwrite_writes (s : State) (d : Desc) (hbed : s.bedOn = true) (hrun : s.running 64 5 = some d) (hu : d.le 16 1 ≤ 5) (hn : d.le 32 4 ≤ 2 ^ 20)
    (hin : inBedRange (d.le 24 8) (d.le 32 4) = true) (hclean : s.mem.poisoned (d.le 24 8) (d.le 32 4) = false) :
    Completes (.cfgwrite) s (fun t => t.cfgRec (d.le 16 1) (s.cfgTarget (d.le 16 1)) =
      { ok := true, cfgver := s.runCfgver (d.le 16 1), seq := s.nextSeq (d.le 16 1), body := s.mem.readBytes (d.le 24 8) (d.le 32 4) }) := by
  refine ⟨_, congrArg Host.Outcome.next ((if_pos hbed).trans (State.serve_of_running _ hrun)), ?_⟩
  dsimp only
  rw [if_neg (by omega), if_neg (by rw [hin]; decide), if_neg (by rw [hclean]; decide)]
  have hcpl (x : State) (r : Result) : (x.complete 64 d r).upd = x.upd := (State.AffectsOnly.complete (S := ∅) x 64 d r).part State.upd fun _ _ => rfl
  refine (State.cfgRec_congr ((congrArg Upd.cfg ((hcpl _ _).trans (s.cfgWriteBy_shows _ _)))) _ _).trans (State.cfgPut_cfgRec _ _ _ _)

theorem execCfgread_reads (s : State) (d : Desc) (k : Nat) (hbed : s.bedOn = true) (hrun : s.running 64 4 = some d) (hu : d.le 16 1 ≤ 5)
    (hin : inBedRange (d.le 24 8) (d.le 32 4) = true ∨ (inBedStore (d.le 24 8) = false ∧ s.code.memAt (d.le 24 8) (d.le 32 4) = true))
    (hk : s.cfgFor (d.le 16 1) (s.runCfgver (d.le 16 1)) = some k) :
    Completes (.cfgread) s (fun t => if inBedStore (d.le 24 8) = true then t = (s.put (d.le 24 8) ((cfgBytes (cfgUnit (d.le 16 1)) (s.cfgRec (d.le 16 1) k)).take (d.le 32 4))).complete 64 d { bytes := leBytes 4 (s.cfgRec (d.le 16 1) k).cfgver ++ leBytes 4 (s.cfgRec (d.le 16 1) k).seq ++ leBytes 4 (s.cfgRec (d.le 16 1) k).body.length }
      else if s.canopyOn = false ∨ bridgeDepth ≤ s.bridge.outbound.length then t = s.complete 64 d { status := 6 }
      else t = (s.handoff (d.le 24 8) ((cfgBytes (cfgUnit (d.le 16 1)) (s.cfgRec (d.le 16 1) k)).take (d.le 32 4))).1.complete 64 d { bytes := leBytes 4 (s.cfgRec (d.le 16 1) k).cfgver ++ leBytes 4 (s.cfgRec (d.le 16 1) k).seq ++ leBytes 4 (s.cfgRec (d.le 16 1) k).body.length }) := by
  have hstore : inBedStore (d.le 24 8) = true → inBedRange (d.le 24 8) (d.le 32 4) = true := fun h => hin.resolve_right fun h' => Bool.noConfusion (h.symm.trans h'.1)
  have hfar : inBedStore (d.le 24 8) = false → s.code.memAt (d.le 24 8) (d.le 32 4) = true := by
    intro h
    refine (hin.resolve_left fun hr => ?_).2
    unfold inBedRange at hr
    rw [h] at hr
    exact Bool.noConfusion hr
  refine ⟨_, congrArg Host.Outcome.next ((if_pos hbed).trans (State.serve_of_running _ hrun)), ?_⟩
  have hu' : ¬ 5 < d.le 16 1 := by omega
  have hstore' : ¬ (inBedStore (d.le 24 8) = true ∧ inBedRange (d.le 24 8) (d.le 32 4) = false) := fun h => Bool.noConfusion ((hstore h.1).symm.trans h.2)
  have hfar' : ¬ (inBedStore (d.le 24 8) = false ∧ s.code.memAt (d.le 24 8) (d.le 32 4) = false) := fun h => Bool.noConfusion ((hfar h.1).symm.trans h.2)
  dsimp only
  simp only [hu', hstore', hfar', if_false, hk]
  cases inBedStore (d.le 24 8) with
  | true => simp only [if_true]
  | false =>
    unfold State.handoff
    by_cases hroom : s.canopyOn = false ∨ bridgeDepth ≤ s.bridge.outbound.length
    · simp only [hroom, if_true, Bool.false_eq_true, if_false]
    · simp only [hroom, if_true, Bool.false_eq_true, if_false]

/-! ### ABORT (R529) -/

theorem State.runItem_run {s : State} {r r' : UpdRun} {i : PkgItem} (h : s.upd.run = some r) (hi : s.runItem = some (r', i)) : r' = r := by
  unfold State.runItem at hi
  rw [h] at hi
  split at hi
  · next x p hx _ =>
    cases hx
    obtain ⟨j, -, hj⟩ := Option.map_eq_some_iff.mp hi
    exact (congrArg Prod.fst hj).symm
  · exact absurd hi (by simp)

/-- A run whose item is on probation waits. -/
theorem State.updStep_probation {s : State} {r : UpdRun} (h : s.upd.run = some r) (h6 : r.stage = 6) : s.updStep = s := by
  unfold State.updStep
  split
  · next r' i _ hitem =>
    rw [State.runItem_run h hitem, h6]
    rfl
  · rfl

theorem execAbortCmd_completes (s : State) (d : Desc) (hbed : s.bedOn = true) (hrun : s.running 64 3 = some d) :
    Completes (.abortCmd) s (fun t => (s.upd.run = none → t = s.complete 64 d {}) ∧
      (s.upd.run.map (fun r => decide (r.stage = 6) && decide (r.aborts = [])) = some true → t.upd.run = s.upd.run.map (fun r => { r with aborts := [d] }))) := by
  cases hr : s.upd.run with
  | none =>
    have heq : exec (.abortCmd) s = .next (s.complete 64 d {}) := by
      show execAbortCmd s = _
      unfold execAbortCmd
      rw [if_neg (by rw [hbed]; decide), hr]
      exact congrArg Host.Outcome.next (State.serve_of_running _ hrun)
    exact ⟨_, heq, fun _ => rfl, fun h => absurd h (by simp)⟩
  | some r =>
    by_cases hw : r.stage = 6 ∧ r.aborts = []
    · obtain ⟨h6, hab⟩ := hw
      have hfind : (s.ring 64).taken.find? (fun d => d.running && decide (d.op = 3) && !r.aborts.contains d) = some d := by
        rw [hab]
        unfold State.running at hrun
        split at hrun
        · exact absurd hrun (by simp)
        · simpa using hrun
      have heq : exec (.abortCmd) s = .next (s.setRun { r with aborts := r.aborts ++ [d] }) := by
        show execAbortCmd s = _
        unfold execAbortCmd
        rw [if_neg (by rw [hbed]; decide), hr]
        dsimp only
        rw [hfind]
        exact congrArg Host.Outcome.next (State.updGo_of_waits 64 (State.updStep_probation (r := { r with aborts := r.aborts ++ [d] }) rfl h6))
      refine ⟨_, heq, fun h => absurd h (by simp), fun _ => ?_⟩
      show some { r with aborts := r.aborts ++ [d] } = _
      rw [hab]
      rfl
    · have hany : ∃ t, exec (.abortCmd) s = .next t := by
        show ∃ t, execAbortCmd s = .next t
        exact ⟨_, rfl⟩
      obtain ⟨t, ht⟩ := hany
      refine ⟨t, ht, fun h => absurd h (by simp), fun h => absurd ?_ hw⟩
      simpa using h

/-! ### APPLY of a configuration item (R528) -/

/-- The run that an APPLY descriptor begins. -/
def applyRun (d : Desc) (icFail : List Nat) : UpdRun := { desc := d, area := d.le 24 8, item := 0, icFail := icFail }

theorem Package.next_single {p : Package} {i : PkgItem} (h : p.items = [i]) (o : Nat) : p.next o = if o ≤ i.order then some 0 else none := by
  unfold Package.next
  rw [h]
  by_cases ho : o ≤ i.order
  · simp [ho]
  · simp [ho]

/-- The step that writes a configuration item. -/
theorem State.updStep_config {s : State} {r : UpdRun} {p : Package} {i : PkgItem} (hpkg : s.upd.pkg = some p) (hrun : s.upd.run = some r)
    (hitems : p.items = [i]) (hitem : r.item = 0) (hstage : r.stage = 0) (hab : r.aborts = []) (hreqs : p.reqs = []) (hkind : i.kind = 2) (hskip : i.skip = false) :
    s.updStep = (((s.fuseKeys.cfgPut i.unit i.ver (i.data.drop 64)).itemState r.item 5 0).nextItem { r with done := r.done + 1 } i) := by
  have hcur : s.runItem = some (r, i) := by
    unfold State.runItem
    rw [hrun, hpkg]
    dsimp only
    rw [hitems, hitem]
    rfl
  have hok : s.reqsOk p i = true := by
    unfold State.reqsOk
    rw [hreqs]
    rfl
  unfold State.updStep
  rw [hpkg, hcur]
  dsimp only
  rw [hstage]
  rw [if_neg (fun h => h hab), if_neg (by rw [hskip]; decide), if_neg (by rw [hok]; decide), if_pos hkind]
  rfl

/-- A configuration item applied: the state in which the package ends. -/
def State.configApplied (s : State) (r : UpdRun) (i : PkgItem) : State :=
  ((s.fuseKeys.cfgPut i.unit i.ver (i.data.drop 64)).itemState r.item 5 0).setRun { r with done := r.done + 1 }

theorem State.configApplied_cfg (s : State) (r : UpdRun) (i : PkgItem) :
    (s.configApplied r i).upd.cfg = (s.fuseKeys.cfgPut i.unit i.ver (i.data.drop 64)).upd.cfg := by
  have h : ((s.fuseKeys.cfgPut i.unit i.ver (i.data.drop 64)).itemState r.item 5 0).upd = (s.fuseKeys.cfgPut i.unit i.ver (i.data.drop 64)).upd :=
    (State.itemState_affects _ _ _ _).part State.upd fun _ _ => rfl
  unfold State.configApplied
  generalize (s.fuseKeys.cfgPut i.unit i.ver (i.data.drop 64)).itemState r.item 5 0 = x at h
  exact (show (x.setRun { r with done := r.done + 1 }).upd.cfg = x.upd.cfg from rfl).trans (congrArg Upd.cfg h)

theorem State.updRun_config {s : State} {r : UpdRun} {p : Package} {i : PkgItem} (hpkg : s.upd.pkg = some p) (hrun : s.upd.run = some r)
    (hitems : p.items = [i]) (hitem : r.item = 0) (hstage : r.stage = 0) (hab : r.aborts = []) (hreqs : p.reqs = []) (hkind : i.kind = 2) (hskip : i.skip = false) :
    s.updRun = (s.configApplied r i).endApply 0 0xF := by
  have hpkg' : ((s.fuseKeys.cfgPut i.unit i.ver (i.data.drop 64)).itemState r.item 5 0).upd.pkg = some p := by
    obtain ⟨n, hfuse⟩ := s.fuseKeys_upd
    rw [(State.itemState_affects _ _ _ _).part State.upd fun _ _ => rfl, State.cfgPut_upd, hfuse]
    exact hpkg
  have hstep : s.updStep = (s.configApplied r i).endApply 0 0xF := by
    rw [State.updStep_config hpkg hrun hitems hitem hstage hab hreqs hkind hskip]
    unfold State.nextItem State.configApplied
    rw [hpkg']
    dsimp only
    rw [Package.next_single hitems, if_neg (by omega)]
  have hidle : ((s.configApplied r i).endApply 0 0xF).upd.run = none := by
    rw [State.endApply_upd, if_pos (show (s.configApplied r i).upd.run.isSome = true from rfl)]
    rfl
  show s.updGo 64 = _
  unfold State.updGo
  dsimp only
  rw [hstep, if_neg (by rw [hidle, hrun]; simp)]
  exact State.updGo_of_waits 63 (State.updStep_idle hidle)

/-- An APPLY begun: its items wait, and the package is shown as applied from its first item on. -/
def State.applyBegun (s : State) (p : Package) : State :=
  ((((p.items.zipIdx.foldl (fun (x : State) e => if e.1.skip then x else x.itemState e.2 2 0) s).wr F.UPD_PKGSTAT_STATE 3).wr F.UPD_PKGSTAT_STATUS 0).wr F.UPD_PKGSTAT_ITEM 0)

theorem State.applyBegun_upd (s : State) (p : Package) : (s.applyBegun p).upd = s.upd := by
  have hitems : (p.items.zipIdx.foldl (fun (x : State) e => if e.1.skip then x else x.itemState e.2 2 0) s).upd = s.upd :=
    List.foldlRecOn (motive := fun x : State => x.upd = s.upd) _ _ rfl fun x hx e _ => by
      split
      · exact hx
      · exact ((x.itemState_affects _ _ _).part State.upd fun _ _ => rfl).trans hx
  unfold State.applyBegun
  generalize p.items.zipIdx.foldl (fun (x : State) e => if e.1.skip then x else x.itemState e.2 2 0) s = x at hitems
  exact hitems

theorem execApply_none (s : State) (icFail : List Nat) (d : Desc) (hbed : s.bedOn = true) (hrun : s.upd.run = none) (hd : s.running 64 2 = some d)
    (hpkg : s.upd.pkg = none) : Completes (.apply icFail) s (fun t => t = s.complete 64 d { status := 0x48 }) := by
  refine ⟨_, ?_, rfl⟩
  show execApply icFail s = _
  unfold execApply
  rw [if_neg (by rw [hbed]; decide), hrun, hd, hpkg]

theorem execApply_config (s : State) (icFail : List Nat) (d : Desc) (p : Package) (i : PkgItem) (hbed : s.bedOn = true) (hrun : s.upd.run = none)
    (hd : s.running 64 2 = some d) (hpkg : s.upd.pkg = some p) (hitems : p.items = [i]) (hreqs : p.reqs = []) (hkind : i.kind = 2) (hskip : i.skip = false)
    (_ : i.unit ≤ 5) :
    Completes (.apply icFail) s (fun t => t.upd.run = none ∧ t.upd.pkg = none ∧ t.rd F.UPD_PKGSTAT_STATE = 4 ∧ t.rd F.UPD_PKGSTAT_STATUS = 0 ∧
      t.cfgRec i.unit (s.cfgTarget i.unit) = { ok := true, cfgver := i.ver, seq := s.nextSeq i.unit, body := i.data.drop 64 }) := by
  have hupd := s.applyBegun_upd p
  have hexec : exec (.apply icFail) s = .next ((s.applyBegun p).setRun (applyRun d icFail)).updRun := by
    show execApply icFail s = _
    unfold execApply
    rw [if_neg (by rw [hbed]; decide), hrun, hd, hpkg]
    dsimp only
    rw [Package.next_single hitems, if_pos (Nat.zero_le _)]
    rfl
  have hx : ((s.applyBegun p).setRun (applyRun d icFail)).upd = { s.upd with run := some (applyRun d icFail) } := by
    show { (s.applyBegun p).upd with run := some (applyRun d icFail) } = _
    rw [hupd]
  generalize (s.applyBegun p).setRun (applyRun d icFail) = x at hexec hx
  rw [State.updRun_config (p := p) (i := i) (by rw [hx]; exact hpkg) (congrArg Upd.run hx) hitems rfl rfl rfl hreqs hkind hskip] at hexec
  obtain ⟨n, hfuse⟩ := x.fuseKeys_upd
  have hput := x.fuseKeys.cfgPut_cfgRec i.unit i.ver (i.data.drop 64)
  have htarget : x.fuseKeys.cfgTarget i.unit = s.cfgTarget i.unit := State.cfgTarget_congr (by rw [hfuse, hx]; rfl) _
  have hseq : x.fuseKeys.nextSeq i.unit = s.nextSeq i.unit := State.nextSeq_congr (by rw [hfuse, hx]) _
  rw [htarget] at hput
  have happlied := x.configApplied_cfg (applyRun d icFail) i
  have hsome : (x.configApplied (applyRun d icFail) i).upd.run = some { applyRun d icFail with done := (applyRun d icFail).done + 1 } := rfl
  generalize x.configApplied (applyRun d icFail) i = y at hexec happlied hsome
  have hend := y.endApply_upd 0 0xF
  rw [hsome, if_pos (by rfl)] at hend
  have hshow := State.endApply_shows hsome 0 0xF
  have hnotin (f : Fld) (hf : f.addr = Reg.UPD_PKGSTAT) : f.addr ∉ pkgApart := fun h => h hf
  refine ⟨_, hexec, congrArg Upd.run hend, congrArg Upd.pkg hend, ?_, ?_, ?_⟩
  · exact (hshow.rd (notEntry (by decide)) (hnotin _ rfl)).trans ((State.rd_wr_apart _ 0 (by decide)).trans (State.rd_wr_same _ _ 4 (by decide)))
  · exact (hshow.rd (notEntry (by decide)) (hnotin _ rfl)).trans (State.rd_wr_same _ _ 0 (by decide))
  · refine (State.cfgRec_congr ((congrArg Upd.cfg hend).trans happlied) _ _).trans (hput.trans ?_)
    unfold State.newRec
    rw [hseq]

end Sys2Proof.Machine
end

section
/-! SUPPORT. Staging a package and the deferred table (R523-R527, R541), and the commands of the update engine together. -/

namespace Sys2Proof.Machine

/-! ### STAGE (R527) -/

theorem Memory.readBytes_drop (m : Memory) (a n i : Nat) : (m.readBytes a n).drop i = m.readBytes (a + i) (n - i) := by
  induction n generalizing a i with
  | zero => simp [Memory.readBytes]
  | succ k ih =>
    cases i with
    | zero => rfl
    | succ j =>
      show (m.readBytes (a + 1) k).drop j = m.readBytes (a + (j + 1)) (k + 1 - (j + 1))
      rw [ih, Nat.add_sub_add_right, Nat.add_assoc, Nat.add_comm 1 j]

theorem Memory.readBytes_take (m : Memory) (a n j : Nat) (h : j ≤ n) : (m.readBytes a n).take j = m.readBytes a j := by
  induction n generalizing a j with
  | zero =>
    obtain rfl : j = 0 := by omega
    rfl
  | succ k ih =>
    cases j with
    | zero => rfl
    | succ i => exact congrArg (List.cons (m.read a)) (ih (a + 1) i (by omega))

/-- A field of a run of bytes read from memory. -/
theorem Memory.leAt_readBytes (m : Memory) (a n : Nat) {off k : Nat} (h : off + k ≤ n) : leAt (m.readBytes a n) off k = m.readLe (a + off) k := by
  unfold leAt Memory.readLe
  rw [Memory.readBytes_drop, Memory.readBytes_take _ _ _ _ (by omega)]

/-- The statuses that STAGE refuses a package with. -/
theorem State.stageStatus_lt (s : State) (b : Bytes) (sig : Bool) : s.stageStatus b sig < 0x48 := by
  unfold State.stageStatus
  dsimp only
  repeat' split
  all_goals decide

/-- A package that passes its checks has its header. -/
theorem State.stageStatus_header {s : State} {b : Bytes} {sig : Bool} (h : s.stageStatus b sig = 0) : 512 ≤ b.length := by
  have hchecks : pkgChecks b = true := by
    by_contra hc
    unfold State.stageStatus at h
    dsimp only at h
    rw [if_pos (.inl (Bool.eq_false_iff.mpr hc))] at h
    exact absurd h (by decide)
  unfold pkgChecks at hchecks
  simp only [Bool.and_eq_true, decide_eq_true_eq] at hchecks
  exact hchecks.1.1.1.1

theorem State.stageFail_shows (s : State) {st : Nat} (h : st ≠ 0x4E) : (s.stageFail st).1.upd.pkg = none ∧
    (s.stageFail st).1.rd F.UPD_PKGSTAT_STATE = 5 ∧ (s.stageFail st).1.rd F.UPD_PKGSTAT_STATUS = st % 2 ^ F.UPD_PKGSTAT_STATUS.width := by
  unfold State.stageFail
  extract_lets t u
  have hst : u.rd F.UPD_PKGSTAT_STATUS = st % 2 ^ F.UPD_PKGSTAT_STATUS.width := State.rd_wr_same _ _ st (by decide)
  rw [if_neg h]
  clear_value u
  refine ⟨rfl, State.rd_wr_same _ _ 5 (by decide), ?_⟩
  exact (State.rd_wr_apart _ 5 (by decide)).trans ((State.rd_withUpd u _ _).trans hst)

theorem State.itemRegs_affects (s : State) (l : List PkgItem) : State.AffectsOnly updItems s (s.itemRegs l) := by
  have hmem (k : Nat) : Reg.UPD_ITEMk k ∈ updItems := by
    show 0x5040 ≤ Reg.UPD_ITEMk k ∧ Reg.UPD_ITEMk k < 0x5060
    unfold Reg.UPD_ITEMk
    omega
  have hw (x : State) (k : Nat) {f : Fld} (v : Nat) (h : f.addr = Reg.UPD_ITEMk k) : State.AffectsOnly updItems x (x.wr f v) := .wr x v (.inl (by rw [h]; exact hmem k))
  refine .foldl _ (fun x k => ?_) _ _
  split
  · exact ((((hw x k _ rfl).trans (hw _ k _ rfl)).trans (hw _ k _ rfl)).trans (hw _ k _ rfl)).trans (hw _ k _ rfl)
  · exact .setReg x _ (.inl (hmem k))

/-- What a staged package shows of itself. -/
def State.stageShown (s : State) (p : Package) (l : List PkgItem) (mib : Nat) : State :=
  let t := ((s.updRegs.itemRegs l).wrSat F.UPD_PROGRESS_DONE mib).wrSat F.UPD_PROGRESS_TOTAL mib
  let t := ((t.setReg Reg.UPD_PKGID (BitVec.ofNat 32 p.id)).setReg Reg.UPD_PKGVER (BitVec.ofNat 32 p.ver)).wr F.UPD_PKGSTAT_STATUS 0
  t.wr F.UPD_PKGSTAT_STATE 2

theorem State.stageShown_shows (s : State) (p : Package) (l : List PkgItem) (mib : Nat) : (s.stageShown p l mib).upd = s.upd ∧
    (s.stageShown p l mib).rd F.UPD_PKGSTAT_STATE = 2 ∧ (s.stageShown p l mib).reg Reg.UPD_PKGID = BitVec.ofNat 32 p.id := by
  unfold State.stageShown
  extract_lets t u
  have hupd : t.upd = s.upd := ((State.itemRegs_affects s.updRegs l).part State.upd fun _ _ => rfl).trans s.updRegs_upd
  clear_value t
  refine ⟨hupd, State.rd_wr_same _ _ 2 (by decide), ?_⟩
  have hreg (x : State) {f : Fld} (v : Nat) (h : Reg.UPD_PKGID ≠ f.addr) : (x.wr f v).reg Reg.UPD_PKGID = x.reg Reg.UPD_PKGID := State.reg_wr_other x v h
  rw [hreg _ 2 (by decide), hreg _ 0 (by decide), State.reg_setReg_other _ _ (by decide), State.reg_setReg_same]

/-- A package that passes every check is held staged. -/
theorem State.stage_holds {s : State} {d : Desc} {sig : Bool} (ha : d.le 24 8 % 4096 = 0) (hcan : s.canopyOn = true)
    (hin : inDramRange s.code (d.le 24 8) (d.le 32 8) = true) (hrun : s.upd.run = none) (hclean : s.mem.poisoned (d.le 24 8) (d.le 32 8) = false) :
    if s.stageStatus (s.mem.readBytes (d.le 24 8) (d.le 32 8)) sig ≠ 0 then
      s.stage d sig none = s.stageFail (s.stageStatus (s.mem.readBytes (d.le 24 8) (d.le 32 8)) sig)
    else (s.stage d sig none).1.upd.pkg.isSome = true ∧ (s.stage d sig none).1.rd F.UPD_PKGSTAT_STATE = 2 ∧
      (s.stage d sig none).1.reg Reg.UPD_PKGID = BitVec.ofNat 32 (leAt (s.mem.readBytes (d.le 24 8) (d.le 32 8)) 8 4) := by
  have hgo : ¬ (s.canopyOn = false ∨ inDramRange s.code (d.le 24 8) (d.le 32 8) = false) := by rw [hcan, hin]; simp
  have hidle : ¬ s.upd.run.isSome = true := by rw [hrun]; simp
  unfold State.stage
  dsimp only
  rw [if_neg (not_not_intro ha), if_neg hgo, if_neg hidle, if_neg (show ¬ s.mem.poisoned (d.le 24 8) (d.le 32 8) = true by rw [hclean]; decide)]
  by_cases hst : s.stageStatus (s.mem.readBytes (d.le 24 8) (d.le 32 8)) sig ≠ 0
  · rw [if_pos hst, if_pos hst]
  · rw [if_neg hst, if_neg hst]
    generalize ((itemRecs (s.mem.readBytes (d.le 24 8) (d.le 32 8))).map (itemOf (s.mem.readBytes (d.le 24 8) (d.le 32 8)))).map s.skipped = l
    generalize (d.le 32 8 + 1048575) / 1048576 = mib
    generalize l.foldl (fun (x : State) i => x.writeSlots i true) s = y
    obtain ⟨hupd, hstate, hid⟩ := State.stageShown_shows ({ y with upd := { y.upd with pkg := some { id := leAt (s.mem.readBytes (d.le 24 8) (d.le 32 8)) 8 4, ver := leAt (s.mem.readBytes (d.le 24 8) (d.le 32 8)) 12 4, revoke := leAt (s.mem.readBytes (d.le 24 8) (d.le 32 8)) 36 1, items := l, reqs := ((List.range (leAt (s.mem.readBytes (d.le 24 8) (d.le 32 8)) 27 1)).map (reqRec (s.mem.readBytes (d.le 24 8) (d.le 32 8)))).map reqOf } } } : State) { id := leAt (s.mem.readBytes (d.le 24 8) (d.le 32 8)) 8 4, ver := leAt (s.mem.readBytes (d.le 24 8) (d.le 32 8)) 12 4, revoke := leAt (s.mem.readBytes (d.le 24 8) (d.le 32 8)) 36 1, items := l, reqs := ((List.range (leAt (s.mem.readBytes (d.le 24 8) (d.le 32 8)) 27 1)).map (reqRec (s.mem.readBytes (d.le 24 8) (d.le 32 8)))).map reqOf } l mib
    exact ⟨(congrArg (fun x : Upd => x.pkg.isSome) hupd).trans rfl, hstate, hid⟩

theorem execStage_stages (s : State) (sig : Bool) (d : Desc) (hbed : s.bedOn = true) (hd : s.running 64 1 = some d) (ha : d.le 24 8 % 4096 = 0)
    (hcan : s.canopyOn = true) (hin : inDramRange s.code (d.le 24 8) (d.le 32 8) = true) (hrun : s.upd.run = none)
    (hclean : s.mem.poisoned (d.le 24 8) (d.le 32 8) = false) :
    Completes (.stage sig none) s (fun t => if s.stageStatus (s.mem.readBytes (d.le 24 8) (d.le 32 8)) sig ≠ 0 then t.upd.pkg = none ∧ t.rd F.UPD_PKGSTAT_STATE = 5 ∧ t.rd F.UPD_PKGSTAT_STATUS = s.stageStatus (s.mem.readBytes (d.le 24 8) (d.le 32 8)) sig % 2 ^ F.UPD_PKGSTAT_STATUS.width
      else t.upd.pkg.isSome = true ∧ t.rd F.UPD_PKGSTAT_STATE = 2 ∧ (t.reg Reg.UPD_PKGID).toNat = s.mem.readLe (d.le 24 8 + 8) 4) := by
  have h := State.stage_holds (sig := sig) ha hcan hin hrun hclean
  refine ⟨_, congrArg Host.Outcome.next ((if_pos hbed).trans (State.serve_of_running _ hd)), ?_⟩
  dsimp only
  generalize s.stage d sig none = x at h
  have hcpl := State.AffectsOnly.complete (S := ∅) x.1 64 d x.2
  have hupd : (x.1.complete 64 d x.2).upd = x.1.upd := hcpl.part State.upd fun _ _ => rfl
  have hreg (k : Nat) (hk : k / 0x1000 = 5) : (x.1.complete 64 d x.2).reg k = x.1.reg k := hcpl.reg k (notEntry (by omega)) (Set.notMem_empty _)
  generalize x.1.complete 64 d x.2 = y at hupd hreg
  have hrd (f : Fld) (hf : f.addr / 0x1000 = 5) : y.rd f = x.1.rd f := State.rd_congr (hreg _ hf)
  by_cases hst : s.stageStatus (s.mem.readBytes (d.le 24 8) (d.le 32 8)) sig ≠ 0
  · rw [if_pos hst] at h ⊢
    have hlt := s.stageStatus_lt (s.mem.readBytes (d.le 24 8) (d.le 32 8)) sig
    obtain ⟨h1, h2, h3⟩ := s.stageFail_shows (st := s.stageStatus (s.mem.readBytes (d.le 24 8) (d.le 32 8)) sig) (by omega)
    rw [← h] at h1 h2 h3
    exact ⟨(congrArg Upd.pkg hupd).trans h1, (hrd _ rfl).trans h2, (hrd _ rfl).trans h3⟩
  · rw [if_neg hst] at h ⊢
    obtain ⟨h1, h2, h3⟩ := h
    have hlen := State.stageStatus_header (not_not.mp hst)
    rw [Memory.length_readBytes] at hlen
    refine ⟨(congrArg (fun z : Upd => z.pkg.isSome) hupd).trans h1, (hrd _ rfl).trans h2, ?_⟩
    have hfit : leAt (s.mem.readBytes (d.le 24 8) (d.le 32 8)) 8 4 < 2 ^ 32 := leAt_lt _ _ _
    rw [hreg _ rfl, h3, BitVec.toNat_ofNat, Nat.mod_eq_of_lt hfit]
    exact Memory.leAt_readBytes _ _ _ (by omega)

/-! ### The deferred table (R541) -/

theorem State.deferredWrite_status {s t : State} (h : t.code = s.code) (b : Bytes) (failed : List Nat) :
    (t.deferredWrite b failed).2 = (s.deferredWrite b failed).2 := by
  have hsw (k : Nat) : t.lswCarried k = s.lswCarried k := by
    unfold State.lswCarried
    rw [h]
  have hout (k : Nat) : t.outCarried k = s.outCarried k := by
    unfold State.outCarried
    rw [h, hsw]
  have hics : t.ics = s.ics := by
    unfold State.ics State.icCarried
    rw [h]
  unfold State.deferredWrite
  simp only [h, hout, hics]
  split
  · rfl
  · split
    · rfl
    · split
      · rfl
      · rfl

theorem State.setToken_rd_beside (s : State) (c : Nat) (x : Token) {f : Fld} (haddr : f.addr = Reg.HLT_TOKc c) (hlo : 7 < f.lo) (hhi : f.hi < 32) :
    (s.setToken c x).rd f = s.rd f := by
  have hsince : Reg.HLT_TOKc c ≠ Reg.HLT_TOKc_SINCE c := by unfold Reg.HLT_TOKc Reg.HLT_TOKc_SINCE; omega
  have hwait (y : State) (v : Nat) : (y.wr (F.HLT_TOKc_WAIT c) v).rd f = y.rd f := State.rd_wr_beside y v (by decide : 7 < 32) hhi (.inl hlo)
  unfold State.setToken State.wrSat
  rw [State.rd_wr_other _ _ (by rw [haddr]; exact hsince), hwait, State.withToks_rd]

/-- What a grant shows of its token. -/
theorem State.tokGrant_shows (s : State) {c owner act : Nat} (since : Nat) (hact : act < 12) (howner : owner < 16) :
    (s.tokGrant c owner act since).on (F.HLT_TOKc_HELD c) = true ∧ (s.tokGrant c owner act since).holdsToken c owner = true ∧
      (s.tokGrant c owner act since).rd (F.HLT_TOKc_ACT c) = act := by
  have hwait : Reg.HLT_TOKc c ≠ Reg.HLT_TOKWAIT := by unfold Reg.HLT_TOKc Reg.HLT_TOKWAIT; omega
  rw [State.tokGrant_eq s c owner since (by omega)]
  have hmeas (y : State) (v : Nat) {f : Fld} (hf : f.addr = Reg.HLT_TOKc c) : (y.measured F.HLT_TOKWAIT_LAST F.HLT_TOKWAIT_PEAK v).rd f = y.rd f :=
    (State.rd_wr_other _ _ (by rw [hf]; exact hwait)).trans (State.rd_wr_other _ _ (by rw [hf]; exact hwait))
  have hheld : (s.tokShown c owner act since).rd (F.HLT_TOKc_HELD c) = 1 := by
    unfold State.tokShown
    rw [hmeas (f := F.HLT_TOKc_HELD c) _ _ rfl, State.rd_wr_beside _ _ (by decide : 19 < 32) (by decide : 31 < 32) (by decide : 19 < 31 ∨ 31 < 16),
      State.rd_wr_beside _ _ (by decide : 30 < 32) (by decide : 31 < 32) (by decide : 30 < 31 ∨ 31 < 27)]
    exact s.rd_wr_same _ 1 (by decide : 31 < 32)
  have hown : (s.tokShown c owner act since).rd (F.HLT_TOKc_OWNER c) = owner := by
    unfold State.tokShown
    rw [hmeas (f := F.HLT_TOKc_OWNER c) _ _ rfl, State.rd_wr_beside _ _ (by decide : 19 < 32) (by decide : 30 < 32) (by decide : 19 < 27 ∨ 30 < 16)]
    exact (State.rd_wr_same _ _ owner (by decide : 30 < 32)).trans (Nat.mod_eq_of_lt howner)
  have hdoing : (s.tokShown c owner act since).rd (F.HLT_TOKc_ACT c) = act := by
    unfold State.tokShown
    rw [hmeas (f := F.HLT_TOKc_ACT c) _ _ rfl]
    exact (State.rd_wr_same _ _ act (by decide : 19 < 32)).trans (Nat.mod_eq_of_lt (by show act < 16; omega))
  generalize s.tokShown c owner act since = y at hheld hown hdoing
  have hon : (y.setToken c { s.token c with since := s.now, hourTold := false }).on (F.HLT_TOKc_HELD c) = true :=
    decide_eq_true ((State.setToken_rd_beside y c _ rfl (by decide : 7 < 31) (by decide : 31 < 32)).trans hheld)
  refine ⟨hon, ?_, (State.setToken_rd_beside y c _ rfl (by decide : 7 < 16) (by decide : 19 < 32)).trans hdoing⟩
  unfold State.holdsToken
  rw [hon, State.setToken_rd_beside y c _ rfl (by decide : 7 < 27) (by decide : 30 < 32), hown]
  simp

/-- A token taken for an activity is held for it. -/
theorem State.tokAsk_again {s : State} (h : s.on (F.HLT_TOKc_HELD 6) = false) :
    (s.tokAsk 6 6 0xB).1.tokAsk 6 6 0xB = ((s.tokAsk 6 6 0xB).1, true) := by
  have hgrant : (s.tokAsk 6 6 0xB).1 = s.tokGrant 6 6 0xB s.now := by
    unfold State.tokAsk
    rw [if_pos h]
  obtain ⟨hon, hholds, hact⟩ := s.tokGrant_shows (c := 6) (owner := 6) (act := 0xB) s.now (by decide) (by decide)
  rw [hgrant]
  generalize s.tokGrant 6 6 0xB s.now = x at hon hholds hact
  unfold State.tokAsk
  rw [if_neg (by rw [hon]; decide), if_pos ⟨hholds, hact⟩]

/-- The deferred table written: what the engine keeps of it. -/
theorem State.deferredTable_shows {s : State} {b : Bytes} (htab : s.upd.table = some b) (hask : s.tokAsk 6 6 0xB = (s, true)) (failed : List Nat) :
    (s.deferredWrite b failed).2 = 0 → (s.deferredTable failed).upd.table = none := by
  intro h
  unfold State.deferredTable
  rw [htab]
  dsimp only
  rw [hask]
  dsimp only
  rw [if_neg (by decide), if_pos h, State.updEvent_upd, State.updRegs_upd]

/-! ### What the power sequences leave of the engine -/

namespace State.SparesUpd

theorem of_drives {s t : State} {C : Set Nat} (h : DrivesTo C s t) : SparesUpd s t := by
  refine ⟨h.part State.upd fun _ _ => rfl, fun k hk => h.reg k (notEntry (by omega)) ?_⟩
  simp only [driveRegs, Set.mem_ofPred_eq, Reg.VLV_STAT, Reg.VLV_CONFCNT, Reg.VLV_BANKk_STAT, Reg.VLV_CHn_STAT, not_or, not_exists]
  exact ⟨by omega, by omega, fun b => by omega, fun m hm => by omega⟩

theorem of_switch {s t : State} {C : Set Nat} (h : SwitchTo C s t) : SparesUpd s t := by
  refine ⟨h.part State.upd fun _ _ _ => rfl, fun k hk => h.reg k ?_⟩
  simp only [switchRegs, Set.mem_ofPred_eq, Reg.LSW_CONFCNT, Reg.LSW_GRPg_STAT, Reg.LSW_CHn_STAT, Reg.LSW_OLMAP_LO, not_or, not_exists]
  exact ⟨by omega, fun g => by omega, fun m hm => by omega⟩

theorem vSet (s : State) (n b : Nat) (v : Bool) : SparesUpd s (s.vSet n b v) := wr s _ (by simp only [vlvFlag, Reg.VLV_CHn_STAT]; omega)

theorem lSet (s : State) (n b : Nat) (v : Bool) : SparesUpd s (s.lSet n b v) := wr s _ (by simp only [lswFlag, Reg.LSW_CHn_STAT]; omega)

theorem safeShown (s : State) (i : Nat) : SparesUpd s (s.safeShown i) := by
  rw [State.safeShown_eq]
  refine ite _ (fun _ => foldl _ (fun x n => (vSet x n _ _).trans (of_drives (.valveStop (C := {n}) _ (Set.mem_singleton n)))) _ _) fun _ => foldl _ (fun x n => ?_) _ _
  exact ((lSet x n _ _).trans (lSet _ _ _ _)).trans (of_switch (C := ∅) (.budReg _ _))

theorem safeChannels (s : State) (i : Nat) : SparesUpd s (s.safeChannels i) := by
  have hentry (x : State) (k : Nat) : SparesUpd x (x.applyEntry k) := ⟨rfl, fun _ _ => rfl⟩
  rw [State.safeChannels_eq]
  refine (foldl (fun (x : State) n => if i < 6 then (x.valveStop n).applyEntry n else (x.lswStop n).applyEntry (48 + n)) (fun x n => ?_) _ _).trans (safeShown _ _)
  exact ite _ (fun _ => (of_drives (.valveStop (C := {n}) x (Set.mem_singleton n))).trans (hentry _ _))
    fun _ => (of_switch (.lswStop (C := {n}) x (Set.mem_singleton n))).trans (hentry _ _)

theorem safeTold (s : State) (i : Nat) : SparesUpd s (s.safeTold i) :=
  ite _ (fun _ => (of_affects (.flag (S := {Reg.VLV_STAT}) s (stat := F.VLV_STAT_FSAFE) _ (.inl rfl)) fun k hk => by rw [hk]; decide).trans (of_affectsNone (State.DrivesTo.vlvEvent_affects _ _ _ _ _ _)))
    fun _ => (of_affects (.flag (S := {Reg.LSW_STAT}) s (stat := F.LSW_STAT_FSAFE) _ (.inl rfl)) fun k hk => by rw [hk]; decide).trans (of_affectsNone (State.lswEvent_affects _ _ _ _ _ _))

theorem wrIc (s : State) (i hi lo v : Nat) : SparesUpd s (s.wr (icStat i hi lo) v) :=
  wr s v (by have := icReg_cases i; show icReg i / 0x1000 ≠ 5; omega)

theorem icCounted (s : State) (i : Nat) (expiry : Bool) : SparesUpd s (s.icCounted i expiry) :=
  ite _ (fun _ => (wrIc s i _ _ _).trans (of_affectsNone (.triggerTest _ _))) fun _ => refl s

theorem enterSafe (s : State) (i : Nat) (expiry : Bool) : SparesUpd s (s.enterSafe i expiry) := by
  have hset (x : State) (y : OutIc) : SparesUpd x (x.setOutIc i y) := ⟨rfl, fun _ _ => rfl⟩
  rw [State.enterSafe_eq]
  refine ite _ (fun _ => icCounted s i expiry) fun _ => ?_
  exact (((icCounted s i expiry).trans ((hset _ _).trans (wrIc _ i _ _ _))).trans (safeChannels _ _)).trans (safeTold _ _)

theorem requestSafe (s : State) : SparesUpd s s.requestSafe := foldl _ (fun x i => (wrIc x i _ _ _).trans (enterSafe _ _ _)) _ _

end State.SparesUpd

theorem State.setStep_upd (s : State) (n : Nat) : (s.setStep n).upd = s.upd := s.setStep_part n State.upd (fun _ _ _ => rfl) fun _ _ _ => rfl

theorem State.pwrEnter_plain_upd (s : State) (n : Nat) : ((s.setStep n).setTurn none).upd = s.upd := s.setStep_upd n

theorem State.cdownShown_upd (s : State) : s.cdownShown.upd = s.upd := by
  unfold State.cdownShown
  split <;> rfl

theorem State.pwrEnter_grace_upd (s : State) : (s.pwrEnter 0x12).upd = s.upd := by
  show ((((s.setStep 0x12).setTurn none).cdownShown.logStep 0x12 0).setStep 0x13).upd = s.upd
  rw [State.setStep_upd, State.logStep_part _ _ _ State.upd (fun _ _ _ => rfl) fun _ _ => rfl, State.cdownShown_upd]
  exact s.setStep_upd 0x12

theorem State.sendMgmt_upd (s : State) (kind hold : Nat) : (s.sendMgmt kind hold).upd = s.upd :=
  List.foldlRecOn (motive := fun x : State => x.upd = s.upd) _ _ rfl fun _ hx _ _ => hx

theorem State.startSleep_upd (s : State) : s.startSleep.upd = s.upd := by
  have hbegun : s.sleepBegun.upd = s.upd := rfl
  rw [State.startSleep_eq]
  generalize s.sleepBegun = x at hbegun
  split
  · exact (State.SparesUpd.requestSafe _).upd.trans ((x.pwrEnter_plain_upd 0x07).trans hbegun)
  · have h18 : (x.pwrEnter 0x18).upd = s.upd := (x.pwrEnter_plain_upd 0x18).trans hbegun
    generalize x.pwrEnter 0x18 = y at h18
    exact (State.sendMgmt_upd _ _ _).trans h18

theorem State.kick_upd (s : State) : s.kick.upd = s.upd := by
  unfold State.kick
  split
  · rfl
  · split
    · split
      · split
        · rfl
        · exact s.pwrEnter_plain_upd 0x0D
      · split
        · exact s.startSleep_upd
        · rfl
    · split
      · exact s.pwrEnter_grace_upd
      · rfl

theorem execDeferredFstableWrite_writes (s : State) (b : Bytes) (hdoze : s.inDoze = true) (hbed : s.bedOn = true) (hdue : s.pwr.tableDue = true)
    (htab : s.upd.table = some b) (hfree : s.on (F.HLT_TOKc_HELD 6) = false) :
    Completes (.deferredFstableWrite []) s (fun t => t.pwr.tableDue = false ∧ ((s.deferredWrite b []).2 = 0 → t.upd.table = none)) := by
  have hask := State.tokAsk_free hfree 6 0xB
  have hagain := State.tokAsk_again hfree
  have hframe : State.AffectsOnly ∅ s (s.tokAsk 6 6 0xB).1 := .tokAsk s 6 6 0xB
  have hrun : exec (.deferredFstableWrite []) s = .next ((((s.tokAsk 6 6 0xB).1.deferredTable []).setPwr { ((s.tokAsk 6 6 0xB).1.deferredTable []).pwr with tableDue := false }).kick) := by
    refine congrArg Host.Outcome.next ((if_pos ⟨hdoze, hbed, hdue⟩).trans ?_)
    dsimp only
    rw [if_pos hask]
  generalize (s.tokAsk 6 6 0xB).1 = x at hagain hframe hrun
  have htab' : x.upd.table = some b := (congrArg Upd.table (hframe.part State.upd fun _ _ => rfl)).trans htab
  have hshow := State.deferredTable_shows htab' hagain []
  rw [State.deferredWrite_status (hframe.part State.code fun _ _ => rfl)] at hshow
  generalize x.deferredTable [] = y at hrun hshow
  refine ⟨_, hrun, ?_, fun h => (congrArg Upd.table (State.kick_upd _)).trans (hshow h)⟩
  exact (congrArg Pwr.tableDue (State.PowerTo.kick enterFields_self (y.setPwr { y.pwr with tableDue := false })).rest).trans rfl

/-- Settles O53: every clause by the lemma that says what its command does. -/
theorem updateCommandsComplete : Obligations.UpdateCommandsComplete := by
  unfold Obligations.UpdateCommandsComplete
  exact ⟨execStage_stages, execApply_none, execApply_config, execAbortCmd_completes, execCfgread_reads, execCfgwrite_writes, execConfirm_confirms,
    execDeclareFailure_falls, execProbationExpiry_falls, execDeferredFstableWrite_writes⟩

end Sys2Proof.Machine
end

section
/-! SUPPORT. What side effects leave of Scarecrow (R495-R516): ring entries, records, stores, self-tests triggered and maintenance tokens keep
the registers of the Dales, the role, the comparison channels and the test results, the handover that waits and what a lasting fault has
taken out. -/

namespace Sys2Proof.Machine

/-! ### The frame -/

/-- The registers of block HLT that tests triggered change. -/
def testNoise : Set Nat := {k | k = Reg.HLT_STAT ∨ k = Reg.HLT_TESTQ ∨ k = Reg.HLT_UNTESTED}

/-- The registers of block HLT that tests triggered and tokens change. -/
def healthNoise : Set Nat := {k | k ∈ testNoise ∨ k = Reg.HLT_TOKWAIT ∨ (0x3200 ≤ k ∧ k < 0x3240)}

/-- The registers of block HLT that token `c` changes. -/
def tokNoise (c : Nat) : Set Nat := {k | k = Reg.HLT_TOKWAIT ∨ k = Reg.HLT_TOKc c ∨ k = Reg.HLT_TOKc_SINCE c}

theorem tokNoise_sub (c : Nat) : tokNoise c ⊆ healthNoise := by
  intro k h
  refine .inr (h.imp_right fun h => ?_)
  unfold Reg.HLT_TOKc Reg.HLT_TOKc_SINCE at h
  omega

theorem testNoise_sub : testNoise ⊆ healthNoise := fun _ h => .inl h

/-- Whether a register is none of Scarecrow's beside those of the mirror regions, or one of those named. -/
def healthFree (S : Set Nat) (k : Nat) : Prop := k / 0x1000 ≠ 3 ∨ (0x3100 ≤ k ∧ k < 0x3200) ∨ k ∈ S

/-- `t` keeps of Scarecrow all but the mirror regions and the registers `S`: the waiting handover goes with HLT_HOSTAT, the tokens with HLT_TOKWAIT, and no Bed register's test is new. -/
structure State.HealthTo (S : Set Nat) (s t : State) : Prop where
  reg : ∀ k, ¬ healthFree S k → t.reg k = s.reg k
  hand : Reg.HLT_HOSTAT ∉ S → t.hlt.hand = s.hlt.hand
  toks : Reg.HLT_TOKWAIT ∉ S → t.toks = s.toks
  lost : t.hlt.lostRegs = s.hlt.lostRegs
  tests : ∀ res, resClass res = 2 → (∀ x ∈ s.hlt.tests, x.res ≠ res) → ∀ x ∈ t.hlt.tests, x.res ≠ res

/-- The part of Scarecrow's state that the frame speaks of. -/
def Health.told (h : Health) : Option Handover × SMap Nat × List TestReq := (h.hand, h.lostRegs, h.tests)

namespace State.HealthTo

variable {S : Set Nat} {s t u : State}

theorem refl (s : State) : HealthTo S s s := ⟨fun _ _ => rfl, fun _ => rfl, fun _ => rfl, rfl, fun _ _ hs => hs⟩

theorem trans (h : HealthTo S s t) (h' : HealthTo S t u) : HealthTo S s u :=
  ⟨fun k hk => (h'.reg k hk).trans (h.reg k hk), fun hS => (h'.hand hS).trans (h.hand hS), fun hS => (h'.toks hS).trans (h.toks hS), h'.lost.trans h.lost,
    fun res hc hs => h'.tests res hc (h.tests res hc hs)⟩

theorem mono {T : Set Nat} (h : HealthTo S s t) (hST : S ⊆ T) : HealthTo T s t :=
  ⟨fun k hk => h.reg k fun hk' => hk (hk'.imp_right (Or.imp_right fun hS => hST hS)), fun hT => h.hand fun hS => hT (hST hS), fun hT => h.toks fun hS => hT (hST hS), h.lost, h.tests⟩

theorem ite (c : Prop) [Decidable c] (h : c → HealthTo S s t) (h' : ¬ c → HealthTo S s u) : HealthTo S s (if c then t else u) := by
  split
  · exact h ‹_›
  · exact h' ‹_›

/-- A loop keeps what its rounds keep. -/
theorem foldl {α : Type*} (f : State → α → State) (h : ∀ (x : State) a, HealthTo S x (f x a)) (l : List α) (s : State) : HealthTo S s (l.foldl f s) :=
  List.foldlRecOn (motive := fun x : State => HealthTo S s x) l f (refl s) fun x hx a _ => hx.trans (h x a)

/-- A register that the frame keeps. -/
theorem rd (h : HealthTo S s t) {f : Fld} (hf : f.addr / 0x1000 = 3) (hn : ¬ (0x3100 ≤ f.addr ∧ f.addr < 0x3200)) (hS : f.addr ∉ S) : t.rd f = s.rd f :=
  State.rd_congr (f := f) (h.reg _ fun hk => hk.elim (fun h3 => h3 hf) fun hk => hk.elim hn hS)

theorem of_told (hreg : ∀ k, ¬ healthFree S k → t.reg k = s.reg k) (h : t.hlt.told = s.hlt.told) (htoks : t.toks = s.toks) : HealthTo S s t := by
  obtain ⟨hhand, hlost⟩ := Prod.mk.inj h
  obtain ⟨hlost, htests⟩ := Prod.mk.inj hlost
  exact ⟨hreg, fun _ => hhand, fun _ => htoks, hlost, fun res _ hs => htests ▸ hs⟩

theorem of_records (hto : s.RecordsTo t) : HealthTo S s t := by
  obtain ⟨⟨_, _, _, rfl⟩, hreg⟩ := hto
  exact ⟨fun k hk => hreg k fun h4 => hk (.inl (by omega)), fun _ => rfl, fun _ => rfl, rfl, fun _ _ hs => hs⟩

/-! ### Registers -/

theorem setReg (s : State) {k : Nat} (w : W32) (h : healthFree S k) : HealthTo S s (s.setReg k w) :=
  ⟨fun _ hk => s.reg_setReg_other w fun e => hk (e ▸ h), fun _ => rfl, fun _ => rfl, rfl, fun _ _ h => h⟩

theorem wr (s : State) {f : Fld} (v : Nat) (h : healthFree S f.addr) : HealthTo S s (s.wr f v) := setReg s _ h

theorem wrB (s : State) {f : Fld} (b : Bool) (h : healthFree S f.addr) : HealthTo S s (s.wrB f b) := wr s _ h

theorem wrSat (s : State) {f : Fld} (v : Nat) (h : healthFree S f.addr) : HealthTo S s (s.wrSat f v) := wr s _ h

theorem inc (s : State) {f : Fld} (h : healthFree S f.addr) : HealthTo S s (s.inc f) := wr s _ h

theorem incBy (s : State) {f : Fld} (n : Nat) (h : healthFree S f.addr) : HealthTo S s (s.incBy f n) := wr s _ h

theorem peak (s : State) {f : Fld} (v : Nat) (h : healthFree S f.addr) : HealthTo S s (s.peak f v) := wr s _ h

theorem measured (s : State) {f g : Fld} (v : Nat) (h : healthFree S f.addr) (h' : healthFree S g.addr) : HealthTo S s (s.measured f g v) :=
  (wrSat s v h).trans (peak _ v h')

theorem mapBit (s : State) {base : Nat} (q : Nat) (b : Bool) (h : base / 0x1000 < 3 ∧ (base + 12) / 0x1000 < 3 ∨ 3 < base / 0x1000) :
    HealthTo S s (s.mapBit base q b) := wr s _ (.inl (by change (base + 4 * (q / 32 % 4)) / 0x1000 ≠ 3; omega))

theorem notify (s : State) (stat ie : Fld) : HealthTo S s (s.notify stat ie) := by
  unfold State.notify
  split <;> exact of_told (fun _ _ => rfl) rfl rfl

theorem notifyDale (s : State) (stat ie : Fld) : HealthTo S s (s.notifyDale stat ie) := by
  unfold State.notifyDale
  split <;> exact of_told (fun _ _ => rfl) rfl rfl

theorem flag (s : State) {stat : Fld} (ie : Fld) (h : healthFree S stat.addr) : HealthTo S s (s.flag stat ie) := (wr s 1 h).trans (notify _ _ _)

theorem flagDale (s : State) {stat : Fld} (ie : Fld) (h : healthFree S stat.addr) : HealthTo S s (s.flagDale stat ie) := (wr s 1 h).trans (notifyDale _ _ _)

theorem record (s : State) (src ev sev p0 p1 p2 : Nat) : HealthTo S s (s.record src ev sev p0 p1 p2) := of_records (.record _ _ _ _ _ _ _)

theorem wideAdd (s : State) (key n : Nat) : HealthTo S s (s.wideAdd key n) := of_told (fun _ _ => rfl) rfl rfl

/-- A part of the state outside Scarecrow and the registers is set. -/
theorem beside (hreg : ∀ k, t.reg k = s.reg k) (hhlt : t.hlt = s.hlt) (htoks : t.toks = s.toks) : HealthTo S s t :=
  of_told (fun k _ => hreg k) (congrArg Health.told hhlt) htoks

theorem withHlt (s : State) (x : Health) (h : x.told = s.hlt.told) : HealthTo S s { s with hlt := x } := of_told (fun _ _ => rfl) h rfl

theorem irq (s : State) (d : Dest) (x : IrqSrc) : HealthTo S s (s.irq d x) := beside (fun _ => rfl) rfl rfl

theorem setRing (s : State) (q : Nat) (r : Ring) : HealthTo S s (s.setRing q r) := beside (fun _ => rfl) rfl rfl

/-! ### Memory -/

theorem storeOne (s : State) (a : Nat) (b : Bytes) (p : Bool) : HealthTo S s (s.storeOne a b p) := by
  unfold State.storeOne State.reencode
  split <;> exact beside (fun _ => rfl) rfl rfl

theorem mirrorCount (s : State) (r : Fin 16) (lo n : Nat) : HealthTo S s (s.mirrorCount r lo n) := by
  have hfree : healthFree S (F.HLT_MIRn_STAT_KLINES r).addr := by
    refine .inr (.inl ?_)
    simp only [F.HLT_MIRn_STAT_KLINES, Reg.HLT_MIRn_STAT]
    omega
  unfold State.mirrorCount
  extract_lets k
  exact (withHlt s { s.hlt with mirLines := SMap.set (fun _ => 0) s.hlt.mirLines r (k % 1000) } rfl).trans (incBy (f := F.HLT_MIRn_STAT_KLINES r) _ (k / 1000) hfree)

theorem mirror (s : State) (a n : Nat) (p : Bool) : HealthTo S s (s.mirror a n p) :=
  foldl _ (fun x _ => (storeOne x _ _ p).trans (mirrorCount _ _ _ _)) _ s

theorem store (s : State) (a : Nat) (b : Bytes) (p : Bool) : HealthTo S s (s.store a b p) := (storeOne s a b p).trans (mirror _ _ _ _)

theorem put (s : State) (a : Nat) (b : Bytes) : HealthTo S s (s.put a b) := store s a b false

theorem putZero (s : State) (a n : Nat) : HealthTo S s (s.putZero a n) := by
  refine trans ?_ (mirror _ _ _ _)
  unfold State.reencode
  split <;> exact beside (fun _ => rfl) rfl rfl

/-! ### Entries (R88-R104) -/

theorem entryOut (s : State) (q a : Nat) (b : Bytes) : HealthTo S s (s.entryOut q a b) := by
  unfold State.entryOut
  exact ite _ (fun _ => put s a b) fun _ => ite _ (fun _ => beside (fun _ => rfl) rfl rfl) fun _ => beside (fun _ => rfl) rfl rfl

theorem ring_block (q : Nat) : Reg.RNG_QnSTAT q / 0x1000 ≠ 3 := by
  unfold Reg.RNG_QnSTAT
  omega

theorem advance (s : State) (q : Nat) : HealthTo S s (s.advance q) :=
  ite _ (fun _ => (wr s _ (.inl (ring_block q))).trans (wr _ _ (.inl (ring_block q)))) fun _ => wr s _ (.inl (ring_block q))

theorem writeEntry (s : State) (q op status estat : Nat) (delayed overdue poison : Bool) (tag sq sqidx lateness : Nat) (result : Bytes) :
    HealthTo S s (s.writeEntry q op status estat delayed overdue poison tag sq sqidx lateness result) := by
  unfold State.writeEntry
  extract_lets r flags t u
  have hu : HealthTo S s u :=
    (((entryOut s _ _ _).trans (setRing t _ _)).trans (advance _ q)).trans (mapBit _ _ _ (by decide))
  exact ite _ (fun _ => hu.trans (wideAdd u _ _)) fun _ => hu

theorem dropEntry (s : State) (q : Nat) : HealthTo S s (s.dropEntry q) := (wideAdd s _ _).trans (setRing _ _ _)

theorem ringPending (s : State) (q : Nat) : HealthTo S s (s.ringPending q) := by
  have hbit : HealthTo S s (s.mapBit (Reg.RNG_IPn 0) q true) := mapBit s q true (by decide)
  exact ite _ (fun _ => hbit.trans (beside (fun _ => rfl) rfl rfl)) fun _ => hbit

theorem looseEntry (s : State) (q op tag status estat : Nat) (poison : Bool) (result : Bytes) (ip : Bool) :
    HealthTo S s (s.looseEntry q op tag status estat poison result ip).1 := by
  unfold State.looseEntry
  split
  · exact (writeEntry s q op status estat false false poison tag 0x7F 0 0 result).trans (ite _ (fun _ => ringPending _ q) fun _ => refl _)
  · exact dropEntry s q

theorem eventEntry (s : State) (q op tag estat : Nat) (result : Bytes) (ip : Bool) : HealthTo S s (s.eventEntry q op tag estat result ip).1 :=
  looseEntry s q op tag 0 estat false result ip

theorem unfence (s : State) (q : Nat) : HealthTo S s (s.unfence q) := by
  unfold State.unfence
  split
  · exact ite _ (fun _ => setRing s _ _) fun _ => refl s
  · exact refl s

theorem complete (s : State) (q : Nat) (d : Desc) (r : Result) : HealthTo S s (s.complete q d r) := by
  unfold State.complete
  extract_lets delayed overdue lateness c t must v u
  have ht : HealthTo S s t := (setRing s _ _).trans (setRing _ _ _)
  have hv : HealthTo S s v := ht.trans (writeEntry t _ _ _ _ _ _ _ _ _ _ _ _)
  have hu : HealthTo S s u :=
    ite _ (fun _ => ite _ (fun _ => ite _ (fun _ => hv.trans (ringPending v c)) fun _ => hv) fun _ => ht.trans (dropEntry t c)) fun _ => ht
  exact hu.trans (unfence u q)

theorem hltEvent (s : State) (tag b24 b25 res : Nat) (rec : Option (Nat × Nat)) : HealthTo S s (s.hltEvent tag b24 b25 res rec) := by
  unfold State.hltEvent
  dsimp only
  split
  · exact (eventEntry s 67 0x80 _ _ _ _).trans (record _ _ _ _ _ _ _)
  · exact eventEntry s 67 0x80 _ _ _ _

/-! ### Self-tests (R495) -/

theorem noise_stat (hS : testNoise ⊆ S) : healthFree S Reg.HLT_STAT := .inr (.inr (hS (.inl rfl)))

theorem noise_testq (hS : testNoise ⊆ S) : healthFree S Reg.HLT_TESTQ := .inr (.inr (hS (.inr (.inl rfl))))

theorem noise_untested (hS : testNoise ⊆ S) : healthFree S Reg.HLT_UNTESTED := .inr (.inr (hS (.inr (.inr rfl))))

theorem testRegs (hS : testNoise ⊆ S) (s : State) : HealthTo S s s.testRegs := (wr s _ (noise_testq hS)).trans (peak _ _ (noise_testq hS))

/-- A test of anything but a Bed register queued. -/
theorem queueTest (hS : testNoise ⊆ S) (s : State) {res : Nat} (ds : List Desc) (h : resClass res ≠ 2) : HealthTo S s (s.queueTest res ds) := by
  unfold State.queueTest
  extract_lets _ one t u
  have ht : HealthTo S s t := inc s (noise_untested hS)
  have hu : HealthTo S t u := ite _ (fun _ => refl t) fun _ => (flagDale t _ (noise_stat hS)).trans (eventEntry _ _ _ _ _ _ _)
  refine ite _ (fun _ => ⟨fun _ _ => rfl, fun _ => rfl, fun _ => rfl, rfl, fun r _ hs x hx => ?_⟩) fun _ => ite _ (fun _ => ?_) fun _ => (ht.trans hu).trans (foldl _ (fun x d => complete x 66 d {}) ds u)
  · obtain ⟨y, hy, rfl⟩ := List.mem_map.mp hx
    have hres : (if y.res = res then { y with descs := y.descs ++ ds } else y).res = y.res := by split <;> rfl
    exact fun e => hs y hy (hres.symm.trans e)
  · refine trans (t := { s with hlt := { s.hlt with tests := s.hlt.tests ++ [one] } }) ⟨fun _ _ => rfl, fun _ => rfl, fun _ => rfl, rfl, fun r hr hs x hx => ?_⟩ (testRegs hS _)
    rcases List.mem_append.mp hx with hx | hx
    · exact hs x hx
    · rw [List.mem_singleton.mp hx]
      exact fun e => h ((congrArg resClass e).trans hr)

theorem triggerTest (hS : testNoise ⊆ S) (s : State) {res : Nat} (h : resClass res ≠ 2) : HealthTo S s (s.triggerTest res) := queueTest hS s [] h

/-! ### Tokens (R511) -/

theorem noise_tokwait {c : Nat} (hS : tokNoise c ⊆ S) : healthFree S Reg.HLT_TOKWAIT := .inr (.inr (hS (.inl rfl)))

theorem noise_tok {c : Nat} (hS : tokNoise c ⊆ S) : healthFree S (Reg.HLT_TOKc c) ∧ healthFree S (Reg.HLT_TOKc_SINCE c) :=
  ⟨.inr (.inr (hS (.inr (.inl rfl)))), .inr (.inr (hS (.inr (.inr rfl))))⟩

theorem withToks {c : Nat} (hS : tokNoise c ⊆ S) (s : State) (x : SMap Token) : HealthTo S s { s with toks := x } :=
  ⟨fun _ _ => rfl, fun _ => rfl, fun h => absurd (hS (.inl rfl)) h, rfl, fun _ _ hs => hs⟩

theorem setToken {c : Nat} (hS : tokNoise c ⊆ S) (s : State) (t : Token) : HealthTo S s (s.setToken c t) :=
  ((withToks hS s _).trans (wrSat _ _ (noise_tok hS).1)).trans (wrSat _ _ (noise_tok hS).2)

theorem tokGrant {c : Nat} (hS : tokNoise c ⊆ S) (s : State) (owner act since : Nat) : HealthTo S s (s.tokGrant c owner act since) := by
  unfold State.tokGrant
  extract_lets t u k v
  have ht : HealthTo S s t :=
    ((wr (f := F.HLT_TOKc_HELD c) s _ (noise_tok hS).1).trans (wr (f := F.HLT_TOKc_OWNER c) _ _ (noise_tok hS).1)).trans (wr (f := F.HLT_TOKc_ACT c) _ _ (noise_tok hS).1)
  have hu : HealthTo S t u := measured t _ (noise_tokwait hS) (noise_tokwait hS)
  have hv : HealthTo S s v := (ht.trans hu).trans (setToken hS u _)
  clear_value v
  refine ite _ (fun _ => ?_) fun _ => hv
  split
  · next x _ =>
    exact (hv.trans (withHlt v { v.hlt with takes := v.hlt.takes.filter (fun y => decide (y ≠ x)) } rfl)).trans (complete _ _ _ _)
  · exact hv

theorem tokAsk {c : Nat} (hS : tokNoise c ⊆ S) (s : State) (owner act : Nat) : HealthTo S s (s.tokAsk c owner act).1 := by
  unfold State.tokAsk
  split
  · exact tokGrant hS _ _ _ _
  · split
    · exact refl s
    · split
      · exact refl s
      · exact setToken hS _ _

theorem tokGive {c : Nat} (hS : tokNoise c ⊆ S) (s : State) : HealthTo S s (s.tokGive c) := by
  unfold State.tokGive
  extract_lets t
  have ht : HealthTo S s t :=
    ((wr (f := F.HLT_TOKc_HELD c) s _ (noise_tok hS).1).trans (wr (f := F.HLT_TOKc_OWNER c) _ _ (noise_tok hS).1)).trans (wr (f := F.HLT_TOKc_ACT c) _ _ (noise_tok hS).1)
  split
  · exact (ht.trans (setToken hS _ _)).trans (tokGrant hS _ _ _ _)
  · exact ht.trans (setToken hS _ _)

theorem handToken (hS : healthNoise ⊆ S) (s : State) (owner : Nat) : HealthTo S s (s.handToken owner) := ite _ (fun _ => tokGive ((tokNoise_sub 4).trans hS) _) fun _ => setToken ((tokNoise_sub 4).trans hS) _ _

end State.HealthTo

end Sys2Proof.Machine
end

section
/-! SUPPORT. What Dales held and released, handovers that end, falls back and what MEM holds back keep of Scarecrow (R499-R511, R533, R414-R426). -/

namespace Sys2Proof.Machine

/-- The registers that holding a Dale in reset changes: the role, HLT_HOSTAT, and HLT_DALEn_STAT and HLT_DALEn_CTL of both Dales, beside those
of tests and tokens. -/
def holdRegs : Set Nat := {k | k ∈ healthNoise ∨ k = Reg.HLT_ROLE ∨ k = Reg.HLT_HOSTAT ∨ k = 0x3080 ∨ k = 0x30A0 ∨ k = 0x3088 ∨ k = 0x30A8}

theorem dale_mem_holdRegs (n : Nat) : Reg.HLT_DALEn_STAT n ∈ holdRegs ∧ Reg.HLT_DALEn_CTL n ∈ holdRegs := by
  have h : n % 2 = 0 ∨ n % 2 = 1 := by omega
  unfold Reg.HLT_DALEn_STAT Reg.HLT_DALEn_CTL
  rcases h with h | h <;> rw [h] <;> exact ⟨by unfold holdRegs; simp, by unfold holdRegs; simp⟩

theorem hostat_mem_holdRegs : Reg.HLT_HOSTAT ∈ holdRegs := .inr (.inr (.inl rfl))

theorem noise_sub_holdRegs : healthNoise ⊆ holdRegs := fun _ h => .inl h

namespace State.HealthTo

variable {S : Set Nat} {s t u : State}

/-- A handover set or ended, where HLT_HOSTAT is not kept. -/
theorem withHand (s : State) (x : Health) (hS : Reg.HLT_HOSTAT ∈ S) (hlost : x.lostRegs = s.hlt.lostRegs) (htests : x.tests = s.hlt.tests) :
    HealthTo S s (s.setHlt x) :=
  ⟨fun _ _ => rfl, fun h => absurd hS h, fun _ => rfl, hlost, fun _ _ hs => (htests.symm ▸ hs : ∀ y ∈ x.tests, _)⟩

theorem withOwed (s : State) (x : List (Nat × Nat)) : HealthTo S s { s with mbxOwed := x } := beside (fun _ => rfl) rfl rfl

theorem withHeld (s : State) (x : List Nat) : HealthTo S s { s with held := x } := beside (fun _ => rfl) rfl rfl

theorem withUpd (s : State) (x : Upd) : HealthTo S s { s with upd := x } := beside (fun _ => rfl) rfl rfl

theorem irqBoth (s : State) (x : IrqSrc) : HealthTo S s (s.irqBoth x) := (irq s _ x).trans (irq _ _ x)

/-! ### Mailboxes (R112) -/

theorem mbxAbort (s : State) (m : Nat) : HealthTo S s (s.mbxAbort m) := by
  have hs : healthFree S (Reg.MBX_MnSTAT m) := .inl (by unfold Reg.MBX_MnSTAT; omega)
  have hl : healthFree S (Reg.MBX_MnLO m) := .inl (by unfold Reg.MBX_MnLO; omega)
  have hh : healthFree S (Reg.MBX_MnHI m) := .inl (by unfold Reg.MBX_MnHI; omega)
  unfold State.mbxAbort
  extract_lets src t u
  have ht : HealthTo S s t :=
    ((((wr s (f := F.MBX_MnSTAT_FULL m) _ hs).trans (wr _ (f := F.MBX_MnSTAT_LAST m) _ hs)).trans (setReg _ _ hl)).trans (setReg _ _ hh)).trans (mapBit _ (base := Reg.MBX_FULL_LO) m false (by decide))
  have hu : HealthTo S s u := (ht.trans (mapBit _ (base := Reg.MBX_ABT_LO) m true (by decide))).trans (inc _ (f := F.MBX_LOSTCNT_CNT) (.inl (by decide)))
  exact ite _ (fun _ => ite _ (fun _ => hu.trans (irq _ _ _)) fun _ => hu.trans (withOwed _ _)) fun _ => refl s

theorem holdAgent (s : State) (id : Nat) : HealthTo S s (s.holdAgent id) :=
  ite _ (fun _ => refl s) fun _ =>
    (withHeld s _).trans (foldl _ (fun x _ => mbxAbort x _) _ _)

/-! ### The role (R503, R507, R510) -/

theorem trlRole (s : State) : HealthTo S s s.trlRole := by
  unfold State.trlRole
  split
  · exact ite _ (fun _ => refl s) fun _ => (wr s _ (.inl (by decide))).trans (inc _ (.inl (by decide)))
  · exact refl s

theorem setCarry (s : State) (c : Nat) : HealthTo holdRegs s (s.setCarry c) :=
  (((wr s (f := F.HLT_ROLE_CARRY) _ (.inr (.inr (.inr (.inl rfl))))).trans (wrB _ (f := F.HLT_DALEn_STAT_CARRY 0) _ (.inr (.inr (dale_mem_holdRegs 0).1)))).trans
    (wrB _ (f := F.HLT_DALEn_STAT_CARRY 1) _ (.inr (.inr (dale_mem_holdRegs 1).1)))).trans (trlRole _)

theorem noCarry (s : State) : HealthTo holdRegs s s.noCarry := by
  refine ite _ (fun _ => refl s) fun _ => ?_
  have h := setCarry s 2
  generalize s.setCarry 2 = t at h
  exact (h.trans (withHlt t { t.hlt with noneSince := some s.now, ordered := false } rfl)).trans (hltEvent _ _ _ _ _ _)

/-- A planned handover that ends, with its token and its descriptor. -/
theorem endPlanned (hN : healthNoise ⊆ S) (s : State) (st : Nat) (hS : Reg.HLT_HOSTAT ∈ S) : HealthTo S s (s.endPlanned st) := by
  unfold State.endPlanned
  split
  · refine ite _ (fun _ => refl s) fun _ => ?_
    extract_lets _ t1 t2
    have h1 : HealthTo S s t1 := (withHand s { s.hlt with hand := none } hS rfl rfl).trans (wr _ (f := F.HLT_HOSTAT_STATE) _ (.inr (.inr hS)))
    have h2 : HealthTo S s t2 := h1.trans (ite _ (fun _ => refl _) fun _ => handToken hN _ _)
    clear_value t2
    split
    · exact h2.trans (complete _ _ _ _)
    · exact h2
  · exact refl s

theorem daleHold (s : State) (n : Nat) : HealthTo holdRegs s (s.daleHold n) := by
  obtain ⟨hs, hc⟩ := dale_mem_holdRegs n
  unfold State.daleHold
  extract_lets t0 t1 planned
  have h0 : HealthTo holdRegs s t0 := ite _ (fun _ => refl s) fun _ => wr _ (f := F.HLT_DALEn_STAT_STATE n) _ (.inr (.inr hs))
  have h1 : HealthTo holdRegs s t1 :=
    ((h0.trans (wr _ (f := F.HLT_DALEn_CTL_READY n) _ (.inr (.inr hc)))).trans (wr _ (f := F.HLT_DALEn_CTL_ARMED n) _ (.inr (.inr hc)))).trans (holdAgent _ _)
  clear_value t1 planned
  exact ite _ (fun _ => (ite _ (fun _ => h1.trans (endPlanned noise_sub_holdRegs _ _ hostat_mem_holdRegs)) fun _ => h1).trans (noCarry _))
    fun _ => ite _ (fun _ => h1.trans (endPlanned noise_sub_holdRegs _ _ hostat_mem_holdRegs)) fun _ => h1

theorem faultHand (s : State) (src cause : Nat) (hS : Reg.HLT_HOSTAT ∈ S) : HealthTo S s (s.faultHand src cause) :=
  (withHand s { s.hlt with hand := some { fault := true, cause := cause, src := src, det := s.now, since := some s.now } } hS rfl rfl).trans
    (wr _ (f := F.HLT_HOSTAT_STATE) _ (.inr (.inr hS)))

/-- PREPARE is posted: the mailboxes change, and the handover's time. -/
theorem mbxPost (s : State) (a : Agent) (id m : Nat) (v : W32) : HealthTo S s (s.mbxPost a id m v) := by
  have hs : healthFree S (Reg.MBX_MnSTAT m) := .inl (by unfold Reg.MBX_MnSTAT; omega)
  have hl : healthFree S (Reg.MBX_MnLO m) := .inl (by unfold Reg.MBX_MnLO; omega)
  have hh : healthFree S (Reg.MBX_MnHI m) := .inl (by unfold Reg.MBX_MnHI; omega)
  have hrefuse (c : Nat) : HealthTo S s (s.mbxRefuse a m c) := by
    have hfail (x : State) : HealthTo S x (x.failFor a) := by
      unfold State.failFor
      split <;> exact beside (fun _ => rfl) rfl rfl
    exact ((((wr s (f := F.MBX_STAT_CAUSE) _ (.inl (by decide))).trans (wr _ (f := F.MBX_STAT_AGENT) _ (.inl (by decide)))).trans
      (wr _ (f := F.MBX_STAT_MBOX) _ (.inl (by decide)))).trans (inc _ (f := F.MBX_REJCNT_CNT) (.inl (by decide)))).trans (hfail _)
  unfold State.mbxPost
  extract_lets lo ptr t
  have ht : HealthTo S s t :=
    ((((setReg s _ hl).trans (setReg _ _ hh)).trans (wr _ (f := F.MBX_MnSTAT_FULL m) _ hs)).trans (wr _ (f := F.MBX_MnSTAT_SRC m) _ hs)).trans (mapBit _ m true (by decide))
  exact ite _ (fun _ => hrefuse 1) fun _ => ite _ (fun _ => hrefuse 2) fun _ => ite _ (fun _ => hrefuse 3) fun _ => ite _ (fun _ => hrefuse 4)
    fun _ => ite _ (fun _ => ht.trans (irq _ _ _)) fun _ => ht

/-! ### The update engine (R522, R528-R533) -/

theorem updBlock {k u r : Nat} (h : k = 0x5100 + r + 0x20 * (u % 9)) (hr : r < 0x20) : healthFree S k := .inl (by omega)

theorem unitRegs (s : State) (u : Nat) : HealthTo S s (s.unitRegs u) := by
  have hw (x : State) (r : Nat) {f : Fld} (v : Nat) (h : f.addr = 0x5100 + r + 0x20 * (u % 9)) (hr : r < 0x20) : HealthTo S x (x.wr f v) :=
    wr x v (updBlock h hr)
  have hcfg (x : State) : HealthTo S x (if u ≤ 5 then match s.cfgFor u (s.runCfgver u) with
      | some k => (x.wrSat (F.UPD_Uu_CFG_CFGVER u) (s.cfgRec u k).cfgver).wr (F.UPD_Uu_CFG_SEQ u) (s.cfgRec u k).seq
      | none => x.wr (F.UPD_Uu_CFG_CFGVER u) 0 |>.wr (F.UPD_Uu_CFG_SEQ u) 0
      else x) := by
    refine ite _ (fun _ => ?_) fun _ => refl x
    split <;> exact (hw x 0x18 _ rfl (by decide)).trans (hw _ 0x18 _ rfl (by decide))
  have hprob (x : State) : HealthTo S x (match s.probation u with
      | some p => x.wrSat (F.UPD_Uu_PROB_MS u) ((p.1 + p.2 - s.now) / 1000000)
      | none => x.wr (F.UPD_Uu_PROB_MS u) 0) := by
    split <;> exact hw x 0x10 _ rfl (by decide)
  unfold State.unitRegs
  extract_lets a b c d e
  have ha : HealthTo S s a := ((hw s 0 _ rfl (by decide)).trans (hw _ 0 _ rfl (by decide))).trans (hw _ 0 _ rfl (by decide))
  have hb : HealthTo S a b := (hw a 0 _ rfl (by decide)).trans (hw _ 4 _ rfl (by decide))
  have hc : HealthTo S b c := (hw b 8 _ rfl (by decide)).trans (hw _ 0x14 _ rfl (by decide))
  have hd : HealthTo S c d := hw c 0x1C _ rfl (by decide)
  exact (((ha.trans hb).trans hc).trans hd).trans ((hprob d).trans (hcfg e))

theorem updRegs (s : State) : HealthTo S s s.updRegs := by
  have hw (x : State) (f : Fld) (v : Nat) (h : f.addr / 0x1000 = 5) : HealthTo S x (x.wr f v) := wr x v (.inl (by omega))
  unfold State.updRegs
  extract_lets t used cfg table a b on was c
  have ht : HealthTo S s t := foldl _ (fun x u => unitRegs x u) _ s
  have ha : HealthTo S t a := (hw t _ _ rfl).trans (hw _ _ _ rfl)
  have hb : HealthTo S a b := (hw a _ _ rfl).trans (hw _ _ _ rfl)
  have hc : HealthTo S b c := hw b _ _ rfl
  have h := ((ht.trans ha).trans hb).trans hc
  exact ite _ (fun _ => h.trans (irqBoth _ _)) fun _ => h

theorem updEvent (s : State) (tag u slot ver old : Nat) (rec : Option Nat) : HealthTo S s (s.updEvent tag u slot ver old rec) := by
  have h : HealthTo S s (s.eventEntry 65 0x80 tag 0 (resultOf [(24, 1, u), (25, 1, slot), (28, 8, s.now), (36, 4, ver), (40, 4, old)]) true).1 :=
    eventEntry _ _ _ _ _ _ _
  unfold State.updEvent
  dsimp only
  split
  · exact h.trans (record _ _ _ _ _ _ _)
  · exact h

theorem fellMark (s : State) (u : Nat) : HealthTo S s (s.fellMark u) := by
  rw [State.fellMark_eq]
  have h0 : HealthTo S s ((s.failed u).fallCounted u) := (((withUpd s _).trans (withUpd _ _)).trans (withUpd _ _)).trans (withUpd _ _)
  generalize (s.failed u).fallCounted u = x at h0
  have h1 := h0.trans (updRegs x)
  generalize x.updRegs = y at h1
  exact ((h1.trans (inc y (f := F.UPD_FALLCNT_CNT) (.inl (by decide)))).trans (flag _ (stat := F.UPD_STAT_FELLBACK) _ (.inl (by decide)))).trans (updEvent _ _ _ _ _ _ _)

theorem itemState (s : State) (k st status : Nat) : HealthTo S s (s.itemState k st status) := by
  have hk : healthFree S (Reg.UPD_ITEMk k) := .inl (by unfold Reg.UPD_ITEMk; omega)
  exact (wr s (f := F.UPD_ITEMk_STATE k) _ hk).trans (wr _ (f := F.UPD_ITEMk_STATUS k) _ hk)

theorem endApply (s : State) (st unit : Nat) : HealthTo S s (s.endApply st unit) := by
  have hw (x : State) (f : Fld) (v : Nat) (h : f.addr / 0x1000 = 5) : HealthTo S x (x.wr f v) := wr x v (.inl (by omega))
  unfold State.endApply
  split
  · exact refl s
  · next r _ =>
    extract_lets _ t1 t2 t3 t4
    have h1 : HealthTo S s t1 := beside (fun _ => rfl) rfl rfl
    have h2 : HealthTo S s t2 := (h1.trans (hw t1 _ _ rfl)).trans (hw _ _ _ rfl)
    have h3 : HealthTo S s t3 := h2.trans (ite _ (fun _ => (hw t2 F.UPD_ACCCNT_CNT _ rfl).trans (flag _ (stat := F.UPD_STAT_DONE) _ (.inl (by decide))))
      fun _ => (((hw t2 F.UPD_REJCNT_CNT _ rfl).trans (hw _ F.UPD_LASTERR_UNIT _ rfl)).trans (hw _ F.UPD_LASTERR_ITEM _ rfl)).trans (hw _ F.UPD_LASTERR_STATUS _ rfl))
    exact (h3.trans (complete t3 _ _ _)).trans (foldl _ (fun x d => complete x 64 d {}) _ _)

theorem fellStop (hS : healthNoise ⊆ S) (s : State) (u : Nat) : HealthTo S s (s.fellStop u) := by
  unfold State.fellStop
  split
  · exact refl s
  · next r _ =>
    extract_lets t
    have ht : HealthTo S s t := ite _ (fun _ => tokGive ((tokNoise_sub _).trans hS) s) fun _ => refl s
    exact (ht.trans (itemState _ _ _ _)).trans (endApply _ _ _)

end State.HealthTo
end Sys2Proof.Machine
end

section
/-! SUPPORT. What MEM does once its token has come free keeps of Scarecrow and of the update engine (R414-R426, R511): decoded lines, line
commands and the scrub register. -/

namespace Sys2Proof.Machine

/-- `t` keeps of Scarecrow all but the registers `S`, and the update engine as it is. -/
structure State.KeepsTo (S : Set Nat) (s t : State) : Prop where
  health : State.HealthTo S s t
  upd : t.upd = s.upd

namespace State.KeepsTo

variable {S : Set Nat} {s t u : State}

theorem refl (s : State) : KeepsTo S s s := ⟨.refl s, rfl⟩

theorem trans (h : KeepsTo S s t) (h' : KeepsTo S t u) : KeepsTo S s u := ⟨h.health.trans h'.health, h'.upd.trans h.upd⟩

theorem mono {T : Set Nat} (h : KeepsTo S s t) (hST : S ⊆ T) : KeepsTo T s t := ⟨h.health.mono hST, h.upd⟩

theorem ite (c : Prop) [Decidable c] (h : c → KeepsTo S s t) (h' : ¬ c → KeepsTo S s u) : KeepsTo S s (if c then t else u) := by
  split
  · exact h ‹_›
  · exact h' ‹_›

theorem foldl {α : Type*} (f : State → α → State) (h : ∀ (x : State) a, KeepsTo S x (f x a)) (l : List α) (s : State) : KeepsTo S s (l.foldl f s) :=
  List.foldlRecOn (motive := fun x : State => KeepsTo S s x) l f (refl s) fun x hx a _ => hx.trans (h x a)

/-- A register that the frame does not keep. -/
theorem wrFree (s : State) {f : Fld} (v : Nat) (h : healthFree S f.addr) : KeepsTo S s (s.wr f v) := ⟨.wr s v h, rfl⟩

/-- A register of block MEM. -/
theorem wr (s : State) {f : Fld} (v : Nat) (h : f.addr / 0x1000 = 0x11) : KeepsTo S s (s.wr f v) := wrFree s v (.inl (by omega))

theorem setReg (s : State) {k : Nat} (w : W32) (h : k / 0x1000 = 0x11) : KeepsTo S s (s.setReg k w) := ⟨.setReg s w (.inl (by omega)), rfl⟩

theorem inc (s : State) {f : Fld} (h : f.addr / 0x1000 = 0x11) : KeepsTo S s (s.inc f) := wr s _ h

theorem irq (s : State) (d : Dest) (x : IrqSrc) : KeepsTo S s (s.irq d x) := ⟨.irq s d x, rfl⟩

theorem complete (s : State) (q : Nat) (d : Desc) (r : Result) : KeepsTo S s (s.complete q d r) :=
  ⟨.complete s q d r, (State.AffectsOnly.complete (S := ∅) s q d r).part State.upd fun _ _ => rfl⟩

theorem flagDale (s : State) {stat : Fld} (ie : Fld) (h : healthFree S stat.addr) : KeepsTo S s (s.flagDale stat ie) :=
  ⟨.flagDale s ie h, (State.AffectsOnly.flagDale (S := {stat.addr}) s ie (.inl rfl)).part State.upd fun _ _ => rfl⟩

theorem hltEvent (s : State) (tag b24 b25 res : Nat) (rec : Option (Nat × Nat)) : KeepsTo S s (s.hltEvent tag b24 b25 res rec) :=
  ⟨.hltEvent _ _ _ _ _ _, (State.SparesUpd.hltEvent s tag b24 b25 res rec).upd⟩

theorem put (s : State) (a : Nat) (b : Bytes) : KeepsTo S s (s.put a b) := ⟨.put s a b, (State.AffectsOnly.put (S := ∅) s a b).part State.upd fun _ _ => rfl⟩

theorem notify (s : State) (stat ie : Fld) : KeepsTo S s (s.notify stat ie) :=
  ⟨.notify s stat ie, (State.AffectsOnly.notify (S := ∅) s stat ie).part State.upd fun _ _ => rfl⟩

theorem flag (s : State) {stat : Fld} (ie : Fld) (h : stat.addr / 0x1000 = 0x11) : KeepsTo S s (s.flag stat ie) := (wr s 1 h).trans (notify _ _ _)

theorem record (s : State) (src ev sev p0 p1 p2 : Nat) : KeepsTo S s (s.record src ev sev p0 p1 p2) :=
  ⟨.record _ _ _ _ _ _ _, (State.AffectsOnly.record (S := ∅) s src ev sev p0 p1 p2).part State.upd fun _ _ => rfl⟩

theorem wideAdd (s : State) (key n : Nat) : KeepsTo S s (s.wideAdd key n) := ⟨.wideAdd s key n, rfl⟩

theorem withDram (s : State) (x : Dram) : KeepsTo S s { s with dram := x } := ⟨.beside (fun _ => rfl) rfl rfl, rfl⟩

theorem store (s : State) (a : Nat) (b : Bytes) (p : Bool) : KeepsTo S s (s.store a b p) :=
  ⟨.store s a b p, (State.AffectsOnly.store (S := ∅) s a b p).part State.upd fun _ _ => rfl⟩

theorem putZero (s : State) (a n : Nat) : KeepsTo S s (s.putZero a n) :=
  ⟨.putZero s a n, (State.AffectsOnly.putZero (S := ∅) s a n).part State.upd fun _ _ => rfl⟩

theorem setErrs (s : State) (a : Nat) (es : List (Nat × Nat)) : KeepsTo S s (s.setErrs a es) := withDram s _

theorem tokAsk {c : Nat} (hS : tokNoise c ⊆ S) (s : State) (owner act : Nat) : KeepsTo S s (s.tokAsk c owner act).1 :=
  ⟨.tokAsk hS s owner act, (State.AffectsOnly.tokAsk (S := ∅) s c owner act).part State.upd fun _ _ => rfl⟩

theorem tokGive {c : Nat} (hS : tokNoise c ⊆ S) (s : State) : KeepsTo S s (s.tokGive c) :=
  ⟨.tokGive hS s, (State.AffectsOnly.tokGive (S := ∅) s c).part State.upd fun _ _ => rfl⟩

/-! ### The error log and the devices (R416, R417, R424) -/

/-- A row of DRAM is of class 0. -/
theorem dramRes_class (c : Code) (a : Nat) : resClass (dramRes c a) = 0 := by
  have hbits : c.subBits ≤ 3 := by
    unfold Code.subBits Code.pick
    split <;> decide
  have hsub : dramSub c a < 8 := (Nat.mod_lt _ (Nat.two_pow_pos _)).trans_le (Nat.pow_le_pow_right (by decide) hbits)
  have hgroup : dramGroup c a < 8 := Nat.mod_lt _ (by decide)
  have hbank : dramBank c a < 4 := Nat.mod_lt _ (by decide)
  have hrow : dramRow c a < 65536 := Nat.mod_lt _ (by decide)
  unfold resClass dramRes
  omega

theorem triggerDram (hS : testNoise ⊆ S) (s : State) (c : Code) (a : Nat) : KeepsTo S s (s.triggerTest (dramRes c a)) :=
  ⟨.triggerTest hS s (by rw [dramRes_class]; decide), (State.AffectsOnly.triggerTest (S := ∅) s _).part State.upd fun _ _ => rfl⟩

theorem memLog (hS : testNoise ⊆ S) (s : State) (type req nsym erase devmask a : Nat) : KeepsTo S s (s.memLog type req nsym erase devmask a) := by
  have hput (x : State) (k j : Nat) (w : W32) : KeepsTo S x (x.setReg (Reg.MEM_LOGk_W k j) w) := setReg x w (by unfold Reg.MEM_LOGk_W; omega)
  unfold State.memLog
  extract_lets n k sub w0 w1 put t u
  have ht : KeepsTo S s t := (((hput s k 0 _).trans (hput _ k 1 _)).trans (hput _ k 2 _)).trans (hput _ k 3 _)
  have hu : KeepsTo S s u := ht.trans (wr t _ (f := F.MEM_LOGHEAD_COUNT) rfl)
  exact ite _ (fun _ => (inc s (f := F.MEM_LOGDROP_CNT) rfl).trans (flag _ (stat := F.MEM_STAT_LOGDROP) _ rfl))
    fun _ => ite _ (fun _ => hu.trans (triggerDram hS u _ _)) fun _ => hu

theorem sub_block (n : Nat) : Reg.MEM_SUBn_STAT n / 0x1000 = 0x11 ∧ Reg.MEM_SUBn_CE n / 0x1000 = 0x11 ∧ Reg.MEM_SUBn_UE n / 0x1000 = 0x11 ∧
    ∀ d, (devCount n d).addr / 0x1000 = 0x11 := by
  simp only [Reg.MEM_SUBn_STAT, Reg.MEM_SUBn_CE, Reg.MEM_SUBn_UE, devCount, Reg.MEM_SUBn_DEVCNT0]
  refine ⟨?_, ?_, ?_, fun d => ?_⟩ <;> omega

theorem countDevice (hS : testNoise ⊆ S) (s : State) (req nsym devmask a n d : Nat) : KeepsTo S s (s.countDevice req nsym devmask a n d) := by
  obtain ⟨hstat, -, -, hdev⟩ := sub_block n
  unfold State.countDevice
  extract_lets was t thr
  have ht : KeepsTo S s t := inc s (hdev d)
  clear_value t
  refine ite _ (fun _ => ht) fun _ => ?_
  split
  · have hmark : KeepsTo S t (t.markDevice n d) := (wr t (f := F.MEM_SUBn_STAT_ERASE n) _ hstat).trans (wr _ (f := F.MEM_SUBn_STAT_FAILDEV n) _ hstat)
    exact (((ht.trans hmark).trans (flag _ (stat := F.MEM_STAT_DEVFAIL) _ rfl)).trans (memLog hS _ _ _ _ _ _ _)).trans (record _ _ _ _ _ _ _)
  · refine ite _ (fun _ => ht) fun _ => ?_
    have hsecond : KeepsTo S t ((t.wr (F.MEM_SUBn_STAT_DEV2 n) 1).wr (F.MEM_SUBn_STAT_DEV2ID n) d) :=
      (wr t (f := F.MEM_SUBn_STAT_DEV2 n) _ hstat).trans (wr _ (f := F.MEM_SUBn_STAT_DEV2ID n) _ hstat)
    exact (((ht.trans hsecond).trans (flag _ (stat := F.MEM_STAT_DEV2) _ rfl)).trans (memLog hS _ _ _ _ _ _ _)).trans (record _ _ _ _ _ _ _)

theorem rankCount (s : State) (n : Nat) : KeepsTo S s (s.rankCount n) := by
  unfold State.rankCount
  extract_lets _ t
  have ht : KeepsTo S s t := withDram s _
  exact ite _ (fun _ => refl s) fun _ => ite _ (fun _ => (ht.trans (flag _ (stat := F.MEM_STAT_WEARSAT) _ rfl)).trans (record _ _ _ _ _ _ _)) fun _ => ht

theorem corrected (hS : testNoise ⊆ S) (s : State) (req nsym devmask a : Nat) (devs : List Nat) : KeepsTo S s (s.corrected req nsym devmask a devs) := by
  obtain ⟨-, hce, -, -⟩ := sub_block (dramSub s.code a)
  unfold State.corrected
  extract_lets n erase t u
  have ht : KeepsTo S s t := ((inc s (f := F.MEM_SUBn_CE_CNT n) hce).trans (wideAdd _ _ _)).trans (rankCount _ _)
  have hu : KeepsTo S s u := (ht.trans (flag t (stat := F.MEM_STAT_CE) _ rfl)).trans (memLog hS _ _ _ _ _ _ _)
  exact hu.trans (foldl _ (fun x d => countDevice hS x _ _ _ _ _ d) _ _)

theorem decodeLine (hS : testNoise ⊆ S) (s : State) (req type a : Nat) : KeepsTo S s (s.decodeLine req type a).1 := by
  obtain ⟨-, -, hue, -⟩ := sub_block (dramSub s.code a)
  unfold State.decodeLine
  extract_lets es n mark erase t u v
  have ht : KeepsTo S s t := store s _ _ _
  have hu : KeepsTo S t u := (inc t (f := F.MEM_UECNT_CNT) rfl).trans (inc _ (f := F.MEM_SUBn_UE_CNT n) hue)
  have hv : KeepsTo S u v := (flag u (stat := F.MEM_STAT_UE) _ rfl).trans (memLog hS _ _ _ _ _ _ _)
  clear_value v
  split
  · exact refl s
  · split
    · exact corrected hS s _ _ _ _ _
    · exact ((ht.trans hu).trans hv).trans (record _ _ _ _ _ _ _)

/-! ### Line commands (R423) -/

theorem lineResult (s : State) (result nsym pois : Nat) : KeepsTo S s (s.lineResult result nsym pois) :=
  ((wr s (f := F.MEM_LINESTAT_RESULT) _ rfl).trans (wr _ (f := F.MEM_LINESTAT_NSYM) _ rfl)).trans (wr _ (f := F.MEM_LINESTAT_POIS) _ rfl)

theorem scrubLine (hS : testNoise ⊆ S) (s : State) (a : Nat) : KeepsTo S s (s.scrubLine a).1 :=
  ite _ (fun _ => (decodeLine hS s _ _ _).trans (setErrs _ _ _)) fun _ => decodeLine hS s _ _ _

theorem copyLine (hS : testNoise ⊆ S) (s : State) (a b : Nat) : KeepsTo S s (s.copyLine a b).1 := (decodeLine hS s _ _ _).trans (store _ _ _ _)

/-- The lines of a COPY, with the number that carried a mark. -/
theorem copyLines (hS : testNoise ⊆ S) (a b : Nat) (l : List Nat) (x : State × Nat) :
    KeepsTo S x.1 (l.foldl (fun (x : State × Nat) i =>
      let y := x.1.copyLine (a + 64 * i) (b + 64 * i)
      (y.1, if y.2 then x.2 + 1 else x.2)) x).1 :=
  List.foldlRecOn (motive := fun y : State × Nat => KeepsTo S x.1 y.1) l _ (refl x.1) fun y hy _ _ => hy.trans (copyLine hS y.1 _ _)

theorem lineRun (hS : testNoise ⊆ S) (s : State) (cmd : Nat) : KeepsTo S s (s.lineRun cmd) := by
  unfold State.lineRun
  dsimp only
  split
  · exact ((putZero s _ _).trans (setErrs _ _ _)).trans (lineResult _ _ _ _)
  · exact (scrubLine hS s _).trans (lineResult _ _ _ _)
  · exact ((decodeLine hS s _ _ _).trans (setErrs _ _ _)).trans (lineResult _ _ _ _)
  · exact (copyLines hS _ _ _ (s, 0)).trans (lineResult _ _ _ _)
  · exact refl s

theorem lineGo (s : State) : KeepsTo healthNoise s s.lineGo := by
  unfold State.lineGo
  split
  · exact refl s
  · next c _ =>
    have hask := tokAsk (tokNoise_sub 0) s ownerMem 2
    dsimp only
    generalize s.tokAsk 0 ownerMem 2 = r at hask
    exact ite _ (fun _ => hask) fun _ =>
      (((hask.trans ((lineRun (S := testNoise) (fun _ h => h) r.1 c).mono testNoise_sub)).trans (withDram _ _)).trans (wr _ (f := F.MEM_LINECMD_BUSY) _ rfl)).trans (tokGive (tokNoise_sub 0) _)

theorem applyScrub (s : State) (v : W32) : KeepsTo S s (s.applyWrite Reg.MEM_SCRUB v) := by
  unfold State.applyWrite
  split
  · next d _ =>
    exact (setReg s (d.written (s.reg Reg.MEM_SCRUB) v) (k := Reg.MEM_SCRUB) rfl).trans ⟨.beside (fun _ => rfl) rfl rfl, rfl⟩
  · exact refl s

theorem scrubGo (s : State) : KeepsTo healthNoise s s.scrubGo := by
  unfold State.scrubGo
  split
  · exact refl s
  · next v _ =>
    have hask := tokAsk (tokNoise_sub 0) s ownerMem 1
    dsimp only
    generalize s.tokAsk 0 ownerMem 1 = r at hask
    exact ite _ (fun _ => hask) fun _ => ((hask.trans (withDram _ _)).trans (applyScrub _ v)).trans (tokGive (tokNoise_sub 0) _)

theorem memWaiting (s : State) : KeepsTo healthNoise s s.memWaiting := ite _ (fun _ => (lineGo s).trans (scrubGo _)) fun _ => refl s

end State.KeepsTo

/-! ### What goes on (R507, R511) -/

/-- Where nothing waits to be updated, and no handover waits for its token, only MEM goes on. -/
theorem State.afterHealth_idle {s : State} (hrun : s.upd.run = none) (hhand : s.hlt.hand = none) : s.afterHealth = s.memWaiting := by
  have hgo : s.handGo = s := by
    unfold State.handGo
    rw [hhand]
  unfold State.afterHealth
  rw [hgo]
  exact State.updRun_idle ((congrArg Upd.run (State.KeepsTo.memWaiting s).upd).trans hrun)

end Sys2Proof.Machine
end

section
/-! SUPPORT. The saddle handover (R503-R510): a planned one asked for, one that ends, and the switch of the role. -/

namespace Sys2Proof.Machine

/-! ### The role -/

theorem hostat_quiet : Reg.HLT_HOSTAT ∉ healthNoise := by
  unfold healthNoise
  simp [testNoise, Reg.HLT_HOSTAT, Reg.HLT_STAT, Reg.HLT_TESTQ, Reg.HLT_UNTESTED, Reg.HLT_TOKWAIT]

theorem role_quiet : Reg.HLT_ROLE ∉ healthNoise := by
  unfold healthNoise
  simp [testNoise, Reg.HLT_ROLE, Reg.HLT_STAT, Reg.HLT_TESTQ, Reg.HLT_UNTESTED, Reg.HLT_TOKWAIT]

theorem State.carryIdx_congr {s t : State} (h : t.rd F.HLT_ROLE_CARRY = s.rd F.HLT_ROLE_CARRY) : t.carryIdx = s.carryIdx := by
  unfold State.carryIdx
  rw [h]

theorem State.carryIdx_of_rd {s : State} {n : Nat} (h : s.rd F.HLT_ROLE_CARRY = n) (hn : n ≠ 2) : s.carryIdx = some n := by
  unfold State.carryIdx
  rw [if_neg (by rw [h]; exact hn), h]

theorem State.carryIdx_lt {s : State} {c : Nat} (h : s.carryIdx = some c) : c < 4 := by
  unfold State.carryIdx at h
  split at h
  · cases h
  · rw [← Option.some.inj h]
    exact Nat.mod_lt _ (by decide)

/-- CARRY set reads as it was set, and SWITCHES stays. -/
theorem State.setCarry_shows (s : State) {c : Nat} (hc : c < 4) : (s.setCarry c).rd F.HLT_ROLE_CARRY = c ∧
    (s.setCarry c).rd F.HLT_ROLE_SWITCHES = s.rd F.HLT_ROLE_SWITCHES := by
  have hrole (x : State) : x.trlRole.reg Reg.HLT_ROLE = x.reg Reg.HLT_ROLE :=
    (State.HealthTo.trlRole (S := ∅) x).reg _ fun h => h.elim (fun h => h (by decide)) fun h => h.elim (fun h => absurd h (by decide)) fun h => h
  have hrest (f : Fld) (haddr : f.addr = Reg.HLT_ROLE) (h0 : (F.HLT_DALEn_STAT_CARRY 0).apart f = true) (h1 : (F.HLT_DALEn_STAT_CARRY 1).apart f = true) :
      (s.setCarry c).rd f = (s.wr F.HLT_ROLE_CARRY c).rd f :=
    (State.rd_congr (f := f) (haddr ▸ hrole _)).trans ((State.rd_wr_apart _ _ h1).trans (State.rd_wr_apart _ _ h0))
  exact ⟨(hrest F.HLT_ROLE_CARRY rfl (by decide) (by decide)).trans ((s.rd_wr_same (f := F.HLT_ROLE_CARRY) c (by decide)).trans (Nat.mod_eq_of_lt hc)),
    (hrest F.HLT_ROLE_SWITCHES rfl (by decide) (by decide)).trans (s.rd_wr_apart _ (by decide))⟩

/-! ### A planned handover asked for (R507, R513) -/

/-- The handover that a descriptor of Dale `c` asks for. -/
def handAsked (c at0 : Nat) (desc : Option Desc) : Handover := { fault := false, cause := 1, src := c, at0 := at0, desc := desc, owner := c }

/-- The handover noted as it waits for its token. -/
def State.handNoted (s : State) (h : Handover) : State := (s.setHlt { s.hlt with hand := some h }).wr F.HLT_HOSTAT_STATE 1

theorem State.askHandover_waits {s : State} {c : Nat} (at0 : Nat) (desc : Option Desc) (hcarry : s.carryIdx = some c) (hhand : s.hlt.hand.isSome = false)
    (hready : s.daleReady (1 - c) = true) (hbusy : (s.daleBusy 0 || s.daleBusy 1) = false) :
    s.askHandover 1 at0 desc = (((s.handNoted (handAsked c at0 desc)).tokAsk 4 c 0xA).1.handGo, 0) := by
  unfold State.askHandover
  rw [hcarry]
  dsimp only
  rw [if_neg (by rw [hhand]; decide), if_neg (by rw [hready, hbusy]; decide), if_neg (by decide)]
  rfl

/-- The handover with its token granted: step 1 is taken. -/
theorem State.handGo_prepares {s : State} {h : Handover} (hhand : s.hlt.hand = some h) (hplan : h.fault = false) (hsince : h.since = none)
    (htok : s.holdsToken 4 h.owner = true) (hact : s.rd (F.HLT_TOKc_ACT 4) = 0xA) : s.handGo = s.handPrepare h := by
  unfold State.handGo
  rw [hhand]
  exact if_pos ⟨hplan, hsince, htok, hact⟩

theorem State.handPrepare_shows (s : State) (h : Handover) : (s.handPrepare h).hlt.hand = some { h with since := some s.now } ∧
    (s.handPrepare h).rd F.HLT_HOSTAT_STATE = s.rd F.HLT_HOSTAT_STATE := by
  unfold State.handPrepare
  extract_lets _ t stage u
  have hpost := State.HealthTo.mbxPost (S := ∅) ({ t with mbxStage := SMap.set (fun _ => 0) stage 6 0 }) .scarecrow 6 (8 * (1 - h.src)) 0x10000000
  exact ⟨hpost.hand (Set.notMem_empty _), hpost.rd (f := F.HLT_HOSTAT_STATE) (by decide) (by decide) (Set.notMem_empty _)⟩

theorem State.handAsked_waits {s : State} {c : Nat} (hc : c < 4) (at0 : Nat) (desc : Option Desc) (hfree : s.on (F.HLT_TOKc_HELD 4) = false) :
    ((s.handNoted (handAsked c at0 desc)).tokAsk 4 c 0xA).1.handGo.rd F.HLT_HOSTAT_STATE = 1 ∧
      ((s.handNoted (handAsked c at0 desc)).tokAsk 4 c 0xA).1.handGo.hlt.hand = some { handAsked c at0 desc with since := some s.now } := by
  have hstate : (s.handNoted (handAsked c at0 desc)).rd F.HLT_HOSTAT_STATE = 1 := State.rd_wr_same _ _ _ (by decide)
  have hhand : (s.handNoted (handAsked c at0 desc)).hlt.hand = some (handAsked c at0 desc) := rfl
  have hnow : (s.handNoted (handAsked c at0 desc)).now = s.now := rfl
  have hoff : (s.handNoted (handAsked c at0 desc)).on (F.HLT_TOKc_HELD 4) = false :=
    (State.on_congr (f := F.HLT_TOKc_HELD 4) (State.rd_wr_other _ _ (by decide))).trans hfree
  generalize s.handNoted (handAsked c at0 desc) = t at hstate hhand hnow hoff
  have hgrant : (t.tokAsk 4 c 0xA).1 = t.tokGrant 4 c 0xA t.now := by
    unfold State.tokAsk
    rw [if_pos hoff]
  obtain ⟨-, htok, hact⟩ := t.tokGrant_shows (c := 4) (owner := c) (act := 0xA) t.now (by decide) (by omega)
  have hto := State.HealthTo.tokGrant (tokNoise_sub 4) t c 0xA t.now
  have hhand' := (hto.hand hostat_quiet).trans hhand
  have hstate' := (hto.rd (f := F.HLT_HOSTAT_STATE) (by decide) (by decide) hostat_quiet).trans hstate
  have hnow' : (t.tokGrant 4 c 0xA t.now).now = s.now :=
    ((State.AffectsOnly.tokGrant (S := ∅) t 4 c 0xA t.now).part State.now fun _ _ => rfl).trans hnow
  rw [hgrant]
  generalize t.tokGrant 4 c 0xA t.now = u at htok hact hhand' hstate' hnow'
  obtain ⟨hset, hkept⟩ := u.handPrepare_shows (handAsked c at0 desc)
  rw [State.handGo_prepares hhand' rfl rfl htok hact]
  exact ⟨hkept.trans hstate', hset.trans (by rw [hnow'])⟩

theorem execHandover_answers (s : State) (d : Desc) (c : Nat) (hd : s.freshDesc 2 = some d) (hcarry : s.carryIdx = some c) :
    Completes (.handover) s (fun t => if s.hlt.hand.isSome = true then t = s.complete 66 d { status := 0x43 }
      else if s.daleReady (1 - c) = false ∨ (s.daleBusy 0 || s.daleBusy 1) = true then t = s.complete 66 d { status := 0x41 }
      else s.on (F.HLT_TOKc_HELD 4) = false → t.rd F.HLT_HOSTAT_STATE = 1 ∧ t.hlt.hand = some { fault := false, cause := 1, src := c, at0 := if d.tmode = 1 then d.deadline else 0, desc := some d, since := some s.now, owner := c }) := by
  have hrun (x : State × Nat) (hx : s.askHandover 1 (if d.tmode = 1 then d.deadline else 0) (some d) = x) :
      exec (.handover) s = .next (if x.2 = 0 then x.1 else x.1.complete 66 d { status := x.2 }) := by
    show execHandover s = _
    unfold execHandover
    rw [hd]
    dsimp only
    rw [hx]
  by_cases hhand : s.hlt.hand.isSome = true
  · have hask : s.askHandover 1 (if d.tmode = 1 then d.deadline else 0) (some d) = (s, 0x43) := by
      unfold State.askHandover
      rw [hcarry]
      exact if_pos hhand
    refine ⟨_, hrun _ hask, ?_⟩
    beta_reduce
    rw [if_pos hhand]
    rfl
  · have hhand' : s.hlt.hand.isSome = false := Bool.eq_false_iff.mpr hhand
    by_cases hready : s.daleReady (1 - c) = false ∨ (s.daleBusy 0 || s.daleBusy 1) = true
    · have hask : s.askHandover 1 (if d.tmode = 1 then d.deadline else 0) (some d) = (s, 0x41) := by
        unfold State.askHandover
        rw [hcarry]
        exact (if_neg hhand).trans (if_pos (hready.imp_right fun h => ⟨by decide, h⟩))
      refine ⟨_, hrun _ hask, ?_⟩
      beta_reduce
      rw [if_neg hhand, if_pos hready]
      rfl
    · obtain ⟨hr, hb⟩ := not_or.mp hready
      refine ⟨_, hrun _ (State.askHandover_waits _ _ hcarry hhand' (Bool.eq_true_of_not_eq_false hr) (Bool.eq_false_iff.mpr hb)), ?_⟩
      beta_reduce
      rw [if_neg hhand, if_neg hready]
      exact fun hfree => State.handAsked_waits (State.carryIdx_lt hcarry) _ _ hfree

/-! ### A planned handover that ends (R510) -/

theorem State.endPlanned_shows {s : State} {h : Handover} (st : Nat) (hhand : s.hlt.hand = some h) (hplan : h.fault = false) :
    (s.endPlanned st).hlt.hand = none ∧ (s.endPlanned st).rd F.HLT_HOSTAT_STATE = 0 := by
  unfold State.endPlanned
  split
  · next h' heq =>
    obtain rfl := Option.some.inj (hhand.symm.trans heq)
    rw [if_neg (by rw [hplan]; decide)]
    extract_lets _ t1 t2
    have hhand1 : t1.hlt.hand = none := rfl
    have hstate1 : t1.rd F.HLT_HOSTAT_STATE = 0 := State.rd_wr_same _ _ _ (by decide)
    have h2 : State.HealthTo healthNoise t1 t2 := .ite _ (fun _ => .refl _) fun _ => .handToken (fun _ h => h) _ _
    clear_value t2 t1
    have hlast (u : State) (hu : State.HealthTo healthNoise t1 u) : u.hlt.hand = none ∧ u.rd F.HLT_HOSTAT_STATE = 0 :=
      ⟨(hu.hand hostat_quiet).trans hhand1, (hu.rd (f := F.HLT_HOSTAT_STATE) (by decide) (by decide) hostat_quiet).trans hstate1⟩
    split
    · exact hlast _ (h2.trans (.complete _ _ _ _))
    · exact hlast _ h2
  · next heq => exact absurd (hhand.symm.trans heq) (by simp)

theorem execHandoverPrepareTimeout_ends (s : State) (h : Handover) (at1 : Nat) (hhand : s.hlt.hand = some h) (hplan : h.fault = false)
    (hsince : h.since = some at1) (hdue : at1 + 1000000000 ≤ s.now) (harmed : s.on (F.HLT_DALEn_CTL_ARMED (1 - h.src)) = false) (hrun : s.upd.run = none) :
    Completes (.handoverPrepareTimeout) s (fun t => t.hlt.hand = none ∧ t.rd F.HLT_HOSTAT_STATE = 0 ∧ t.carryIdx = s.carryIdx) := by
  have hexec : exec (.handoverPrepareTimeout) s = .next (s.endPlanned 0x42).afterHealth := by
    show execHandoverPrepareTimeout s = _
    unfold execHandoverPrepareTimeout
    rw [hhand]
    dsimp only
    rw [hsince]
    dsimp only
    rw [if_neg (by rw [hplan]; exact fun hx => hx.elim (by decide) (by omega)), if_pos (.inr harmed)]
  obtain ⟨hend, hstate⟩ := State.endPlanned_shows 0x42 hhand hplan
  have hto : State.HealthTo (healthNoise ∪ {Reg.HLT_HOSTAT}) s (s.endPlanned 0x42) := .endPlanned (fun _ h => .inl h) s _ (.inr rfl)
  have hrun' : (s.endPlanned 0x42).upd.run = none := (congrArg Upd.run (State.SparesUpd.endPlanned s 0x42).upd).trans hrun
  generalize s.endPlanned 0x42 = t at hexec hend hstate hto hrun'
  rw [State.afterHealth_idle hrun' hend] at hexec
  have hmem := (State.KeepsTo.memWaiting t).health
  have hrole' : Reg.HLT_ROLE ∉ healthNoise ∪ {Reg.HLT_HOSTAT} := fun hx => hx.elim role_quiet fun hx => absurd (Set.mem_singleton_iff.mp hx) (by decide)
  exact ⟨_, hexec, (hmem.hand hostat_quiet).trans hend, (hmem.rd (f := F.HLT_HOSTAT_STATE) (by decide) (by decide) hostat_quiet).trans hstate,
    State.carryIdx_congr ((hmem.rd (f := F.HLT_ROLE_CARRY) (by decide) (by decide) role_quiet).trans (hto.rd (f := F.HLT_ROLE_CARRY) (by decide) (by decide) hrole'))⟩

end Sys2Proof.Machine
end

section
/-! SUPPORT. The switch of the role (R506, R509) and the restart of Canopy without a Dale (R503): what they show. -/

namespace Sys2Proof.Machine

namespace State.KeepsTo

variable {S : Set Nat} {s t u : State}

/-- The new carrier's interrupts. -/
theorem handIrqs (s : State) (n : Nat) : KeepsTo S s (s.handIrqs n) := by
  unfold State.handIrqs
  extract_lets a b
  have hb : KeepsTo S s b := ⟨.beside (fun _ => rfl) rfl rfl, rfl⟩
  exact hb.trans (foldl _ (fun x q => ite _ (fun _ => irq x _ _) fun _ => refl x) _ _)

/-- The mirror regions reverse. -/
theorem mirSwap (s : State) : KeepsTo S s s.mirSwap := by
  have hfree (n : Nat) : healthFree S (Reg.HLT_MIRn_STAT n) := .inr (.inl (by unfold Reg.HLT_MIRn_STAT; omega))
  have hrefresh (x : State) : KeepsTo S x x.mirRefresh := ⟨.withHlt x _ rfl, rfl⟩
  exact (foldl _ (fun x n => ite _ (fun _ => wrFree x (f := F.HLT_MIRn_STAT_DIR n) _ (hfree n)) fun _ => refl x) _ s).trans (hrefresh _)

theorem handRecord (s : State) (h : Handover) (dst det : Nat) : KeepsTo S s (s.handRecord h dst det) :=
  ite _ (fun _ => (put s _ _).trans (put _ _ _)) fun _ => refl s

end State.KeepsTo

/-! ### The switch -/

/-- The role and its counts, passed to Dale `n`. -/
def State.rolePassed (s : State) (h : Handover) (n : Nat) : State :=
  if h.fault then ((s.setCarry n).inc F.HLT_ROLE_SWITCHES).inc F.HLT_HOCNT_FAULT else ((s.setCarry n).inc F.HLT_ROLE_SWITCHES).inc F.HLT_HOCNT_PLANNED

theorem State.rolePassed_shows (s : State) (h : Handover) {n : Nat} (hn : n < 4) : (s.rolePassed h n).rd F.HLT_ROLE_CARRY = n ∧
    (s.rolePassed h n).rd F.HLT_ROLE_SWITCHES = min (s.rd F.HLT_ROLE_SWITCHES + 1) (maxOf F.HLT_ROLE_SWITCHES.width) ∧ (s.rolePassed h n).upd = s.upd := by
  obtain ⟨hcarry, hsw⟩ := s.setCarry_shows hn
  have hupd : (s.setCarry n).upd = s.upd := (State.SparesUpd.setCarry s n).upd
  unfold State.rolePassed
  generalize s.setCarry n = t at hcarry hsw hupd
  have hinc : (t.inc F.HLT_ROLE_SWITCHES).rd F.HLT_ROLE_SWITCHES = min (s.rd F.HLT_ROLE_SWITCHES + 1) (maxOf F.HLT_ROLE_SWITCHES.width) := by
    rw [← hsw]
    exact t.rd_inc_same (by decide)
  have hcarry' : (t.inc F.HLT_ROLE_SWITCHES).rd F.HLT_ROLE_CARRY = n := (t.rd_wr_apart _ (by decide)).trans hcarry
  have hupd' : (t.inc F.HLT_ROLE_SWITCHES).upd = s.upd := (show (t.inc F.HLT_ROLE_SWITCHES).upd = t.upd from rfl).trans hupd
  generalize t.inc F.HLT_ROLE_SWITCHES = u at hinc hcarry' hupd'
  have hlast (f g : Fld) (hf : f.addr = Reg.HLT_HOCNT) (hg : g.addr = Reg.HLT_ROLE) : (u.inc f).rd g = u.rd g :=
    State.rd_wr_other _ _ (by rw [hf, hg]; decide)
  split <;> exact ⟨(hlast _ _ rfl rfl).trans hcarry', (hlast _ _ rfl rfl).trans hinc, (show _ = u.upd from rfl).trans hupd'⟩

/-- HLT_HOSTAT after a switch. -/
theorem State.hostatShown_shows (s : State) (kind : Bool) (cause gap : Nat) {t : State}
    (ht : t = (((s.wr F.HLT_HOSTAT_STATE 0).wrB F.HLT_HOSTAT_KIND kind).wr F.HLT_HOSTAT_CAUSE cause).wrSat F.HLT_HOSTAT_GAP gap) :
    t.rd F.HLT_HOSTAT_STATE = 0 ∧ (∀ f : Fld, f.addr = Reg.HLT_ROLE → t.rd f = s.rd f) ∧ t.upd = s.upd := by
  have hother (x : State) (g f : Fld) (v : Nat) (hg : g.addr = Reg.HLT_HOSTAT) (hf : f.addr = Reg.HLT_ROLE) : (x.wr g v).rd f = x.rd f :=
    State.rd_wr_other _ _ (by rw [hf, hg]; decide)
  subst ht
  refine ⟨?_, fun f hf => ?_, rfl⟩
  · exact (State.rd_wr_apart _ _ (by decide)).trans ((State.rd_wr_apart _ _ (by decide)).trans ((State.rd_wr_apart _ _ (by decide)).trans (s.rd_wr_same _ 0 (by decide))))
  · exact (hother _ F.HLT_HOSTAT_GAP f _ rfl hf).trans ((hother _ F.HLT_HOSTAT_CAUSE f _ rfl hf).trans ((hother _ F.HLT_HOSTAT_KIND f _ rfl hf).trans (hother s F.HLT_HOSTAT_STATE f _ rfl hf)))

/-- The registers that the end of a switch changes beside the role and HLT_HOSTAT. -/
def roleTold (n : Nat) : Set Nat := {k | k = Reg.HLT_STAT ∨ k = Reg.HLT_DALEn_CTL n}

theorem State.setHlt_shows (s : State) (x : Health) : (s.setHlt x).hlt = x ∧ (∀ f : Fld, (s.setHlt x).rd f = s.rd f) ∧ (s.setHlt x).upd = s.upd :=
  ⟨rfl, fun _ => rfl, rfl⟩

theorem State.switchTo_shows {s : State} {h : Handover} {n : Nat} (hn : n < 2) (hfault : h.fault = true) (hrun : s.upd.run = none) :
    (s.switchTo h n).carryIdx = some n ∧ (s.switchTo h n).hlt.hand = none ∧ (s.switchTo h n).rd F.HLT_HOSTAT_STATE = 0 ∧
      (s.switchTo h n).rd F.HLT_ROLE_SWITCHES = min (s.rd F.HLT_ROLE_SWITCHES + 1) (maxOf F.HLT_ROLE_SWITCHES.width) ∧ (s.switchTo h n).upd.run = none := by
  have hctl : Reg.HLT_ROLE ∉ roleTold n ∧ Reg.HLT_HOSTAT ∉ roleTold n := by
    unfold roleTold Reg.HLT_DALEn_CTL Reg.HLT_ROLE Reg.HLT_HOSTAT Reg.HLT_STAT
    constructor <;> simp only [Set.mem_ofPred_eq, not_or] <;> omega
  obtain ⟨hcarry, hsw, hupd⟩ := s.rolePassed_shows h (show n < 4 by omega)
  unfold State.switchTo
  extract_lets det t1 t2 t3 _ t4 t5 t6 t7 t8 t9
  rw [show s.rolePassed h n = t2 from rfl] at hcarry hsw hupd
  obtain ⟨hstate, hrole, hupd3⟩ := State.hostatShown_shows t2 h.fault h.cause ((s.now - det) / 1000) rfl
  clear_value t2
  obtain ⟨hhlt, h4, hupd4⟩ := (t3.wrSat F.HLT_HOSTAT_GAP ((s.now - det) / 1000)).setHlt_shows { t3.hlt with hand := none, noneSince := none, ordered := false, switches := t3.hlt.switches + 1 }
  have hhand : t4.hlt.hand = none := congrArg Health.hand hhlt
  have hstate4 : t4.rd F.HLT_HOSTAT_STATE = 0 := (h4 F.HLT_HOSTAT_STATE).trans hstate
  have hcarry4 : t4.rd F.HLT_ROLE_CARRY = n := ((h4 F.HLT_ROLE_CARRY).trans (hrole _ rfl)).trans hcarry
  have hsw4 : t4.rd F.HLT_ROLE_SWITCHES = min (s.rd F.HLT_ROLE_SWITCHES + 1) (maxOf F.HLT_ROLE_SWITCHES.width) := ((h4 F.HLT_ROLE_SWITCHES).trans (hrole _ rfl)).trans hsw
  have hrun4 : t4.upd.run = none := (congrArg Upd.run (hupd4.trans (hupd3.trans hupd))).trans hrun
  clear_value t4
  have h5 : State.KeepsTo (roleTold n) t4 t5 := ((State.KeepsTo.handIrqs t4 n).trans (.mirSwap _)).trans (.wrFree _ (f := F.HLT_DALEn_CTL_ARMED n) _ (.inr (.inr (.inr rfl))))
  have h6 : State.KeepsTo (roleTold n) t5 t6 := .handRecord _ _ _ _
  have h7 : State.KeepsTo (roleTold n) t6 t7 := (State.KeepsTo.flagDale _ (stat := F.HLT_STAT_HANDOVER) _ (.inr (.inr (.inl rfl)))).trans (.hltEvent _ _ _ _ _ _)
  have h47 := (h5.trans h6).trans h7
  clear_value t7
  have h8 : State.KeepsTo (roleTold n) t7 t8 := by
    unfold t8
    split
    · exact .complete _ _ _ _
    · exact .refl _
  have h9 : State.KeepsTo (roleTold n) t4 t9 := by
    unfold t9
    rw [if_pos (.inl hfault)]
    exact h47.trans h8
  clear_value t9
  have hrun9 : t9.upd.run = none := (congrArg Upd.run h9.upd).trans hrun4
  rw [hrun9]
  exact ⟨State.carryIdx_of_rd ((h9.health.rd (f := F.HLT_ROLE_CARRY) (by decide) (by decide) hctl.1).trans hcarry4) (by omega), (h9.health.hand hctl.2).trans hhand,
    (h9.health.rd (f := F.HLT_HOSTAT_STATE) (by decide) (by decide) hctl.2).trans hstate4, (h9.health.rd (f := F.HLT_ROLE_SWITCHES) (by decide) (by decide) hctl.1).trans hsw4, hrun9⟩

theorem execHandoverSwitch_switches (s : State) (h : Handover) (hbed : s.bedOn = true) (hcan : s.canopyOn = true)
    (hat : s.now % (s.rd F.HLT_HOCFG_HOPER * 1000000) = s.rd F.HLT_HOCFG_HOPHASE * 1000) (hhand : s.hlt.hand = some h) (hfault : h.fault = true)
    (hready : s.daleReady (1 - h.src) = true) (hrun : s.upd.run = none) :
    Completes (.handoverSwitch) s (fun t => t.carryIdx = some (1 - h.src) ∧ t.hlt.hand = none ∧
      t.rd F.HLT_ROLE_SWITCHES = min (s.rd F.HLT_ROLE_SWITCHES + 1) (maxOf F.HLT_ROLE_SWITCHES.width) ∧ t.rd F.HLT_HOSTAT_STATE = 0) := by
  have hgo : s.handGo = s := by
    unfold State.handGo
    rw [hhand]
    exact if_neg fun hx => absurd (hx.1.symm.trans hfault) (by decide)
  have hdue : s.switchDue = some (h, 1 - h.src) := by
    unfold State.switchDue
    rw [if_neg (by rw [hbed, hcan, hat]; simp), hhand]
    dsimp only
    rw [if_pos hfault]
    unfold State.readyDale
    rw [if_pos hready]
    rfl
  obtain ⟨hcarry, hnone, hstate, hsw, hrun'⟩ := State.switchTo_shows (s := s) (h := h) (n := 1 - h.src) (by omega) hfault hrun
  have hexec : exec (.handoverSwitch) s = .next (s.switchTo h (1 - h.src)).afterHealth := by
    show execHandoverSwitch s = _
    unfold execHandoverSwitch
    dsimp only
    rw [hgo, hdue]
  generalize s.switchTo h (1 - h.src) = t at hcarry hnone hstate hsw hrun' hexec
  rw [State.afterHealth_idle hrun' hnone] at hexec
  have hmem := (State.KeepsTo.memWaiting t).health
  exact ⟨_, hexec, (State.carryIdx_congr (hmem.rd (f := F.HLT_ROLE_CARRY) (by decide) (by decide) role_quiet)).trans hcarry, (hmem.hand hostat_quiet).trans hnone,
    (hmem.rd (f := F.HLT_ROLE_SWITCHES) (by decide) (by decide) role_quiet).trans hsw, (hmem.rd (f := F.HLT_HOSTAT_STATE) (by decide) (by decide) hostat_quiet).trans hstate⟩

/-! ### No Dale (R503) -/

theorem execNoDaleRestart_restarts (s : State) (q : SeqIn) (at0 : Nat) (hq : q.durs = []) (hnone : s.hlt.noneSince = some at0) (hbed : s.bedOn = true)
    (hcan : s.canopyOn = true) (hcarry : s.rd F.HLT_ROLE_CARRY = 2) (hdue : at0 + 10000000000 ≤ s.now) (hord : s.hlt.ordered = false)
    (h0 : s.daleReady 0 = false) (h1 : s.daleReady 1 = false) (hres : s.on F.HLT_CTL_RESTART = true) :
    Completes (.noDaleRestart q) s (fun t => t.hlt.ordered = true ∧ t.rd F.SYS_RSTCAUSE_CAUSE = 7 ∧ t.pwr.step = 0x15) := by
  have hexec : exec (.noDaleRestart q) s = .next (({ s with hlt := { s.hlt with ordered := true } } : State).canopyRestart 7 q) := by
    show execNoDaleRestart q s = _
    unfold execNoDaleRestart
    rw [hnone]
    dsimp only
    rw [if_pos ⟨hbed, hcan, hcarry, hdue, hord, h0, h1, hres⟩]
  have hord' : ({ s with hlt := { s.hlt with ordered := true } } : State).hlt.ordered = true := rfl
  have hcan' : ({ s with hlt := { s.hlt with ordered := true } } : State).canopyOn = true := hcan
  generalize ({ s with hlt := { s.hlt with ordered := true } } : State) = x at hexec hord' hcan'
  have hlog : (x.logReset 7).hlt.ordered = true := hord'
  have hcause := x.logReset_cause (cause := 7) (by decide)
  have hlogcan : (x.logReset 7).canopyOn = true := ((x.logReset_affects 7).part State.canopyOn fun _ _ => rfl).trans hcan'
  have hrun : ∃ y : State, x.canopyRestart 7 q = y ∧ y.hlt = ((x.logReset 7).pwrEnter 0x15).hlt ∧ y.rd F.SYS_RSTCAUSE_CAUSE = ((x.logReset 7).pwrEnter 0x15).rd F.SYS_RSTCAUSE_CAUSE ∧
      y.pwr.step = ((x.logReset 7).pwrEnter 0x15).pwr.step := by
    unfold State.canopyRestart
    dsimp only
    rw [if_neg (by rw [hlogcan]; decide), hq, State.runSteps_nil]
    generalize (x.logReset 7).pwrEnter 0x15 = u
    split <;> exact ⟨_, rfl, rfl, rfl, rfl⟩
  generalize x.logReset 7 = y at hlog hcause hrun
  obtain ⟨z, hz, hhlt, hzcause, hstep⟩ := hrun
  have hkept : (y.pwrEnter 0x15).hlt = y.hlt := y.setStep_part 0x15 State.hlt (fun _ _ _ => rfl) fun _ _ _ => rfl
  have hrd : (y.pwrEnter 0x15).rd F.SYS_RSTCAUSE_CAUSE = y.rd F.SYS_RSTCAUSE_CAUSE := (State.PowerTo.pwrEnter enterFields_self y 0x15).rd _ (by decide)
  rw [hz] at hexec
  exact ⟨_, hexec, (congrArg Health.ordered (hhlt.trans hkept)).trans hlog, (hzcause.trans hrd).trans hcause, hstep.trans (State.pwrEnter_step y (by decide))⟩

/-- Settles O52: every clause by the lemma that says what its command does. -/
theorem handoverCommandsComplete : Obligations.HandoverCommandsComplete :=
  ⟨execHandover_answers, execHandoverSwitch_switches, execHandoverPrepareTimeout_ends, execNoDaleRestart_restarts⟩

end Sys2Proof.Machine
end

section
/-! SUPPORT. Self-tests asked for (R495, R496, R512), heartbeats (R500) and tokens taken (R511, R516): what the commands show. -/

namespace Sys2Proof.Machine

/-! ### Self-tests -/

/-- A test asked for stands in the queue, where it had room. -/
theorem State.queueTest_has (s : State) (res : Nat) (ds : List Desc) (hroom : s.hlt.tests.length < 64) :
    (s.queueTest res ds).hlt.tests.any (fun x => decide (x.res = res)) = true := by
  unfold State.queueTest
  by_cases hany : s.hlt.tests.any (fun t => decide (t.res = res)) = true
  · rw [if_pos hany]
    obtain ⟨x, hx, hres⟩ := List.any_eq_true.mp hany
    refine List.any_eq_true.mpr ⟨_, List.mem_map.mpr ⟨x, hx, rfl⟩, decide_eq_true ?_⟩
    have hsame (y : TestReq) (hy : y.res = x.res) : (if x.res = res then y else x).res = x.res := by
      split
      · exact hy
      · rfl
    exact (hsame { x with descs := x.descs ++ ds } rfl).trans (of_decide_eq_true hres)
  · rw [if_neg hany, if_pos hroom]
    show ((s.hlt.tests ++ [({ res := res, since := s.now, descs := ds } : TestReq)]).any (fun x => decide (x.res = res))) = true
    simp

/-- A test that is new to the queue joins its end. -/
theorem State.queueTest_joins {s : State} {res : Nat} (ds : List Desc) (hroom : s.hlt.tests.length < 64)
    (hnew : s.hlt.tests.any (fun x => decide (x.res = res)) = false) :
    (s.queueTest res ds).hlt.tests = s.hlt.tests ++ [{ res := res, since := s.now, descs := ds }] := by
  unfold State.queueTest
  rw [if_neg (by rw [hnew]; decide), if_pos hroom]
  rfl

theorem contains_insertNat (k : Nat) (l : List Nat) : (insertNat k l).contains k = true := List.contains_iff_mem.mpr (mem_insertNat_self k l)

/-- The state of an error of Furrow's program memory, counted and, uncorrected, marked. -/
def State.codeErred (s : State) (w : Nat) (corrected : Bool) : State :=
  let t := s.inc F.FUR_PMERR_CNT
  if corrected then t else { t with fur := { t.fur with badCode := insertNat w t.fur.badCode } }

theorem State.codeErred_shows (s : State) (w : Nat) (corrected : Bool) : (s.codeErred w corrected).hlt = s.hlt ∧
    (s.codeErred w corrected).rd F.FUR_PMERR_CNT = min (s.rd F.FUR_PMERR_CNT + 1) (maxOf F.FUR_PMERR_CNT.width) ∧
    (corrected = false → (s.codeErred w corrected).fur.badCode.contains w = true) := by
  have hcnt : (s.inc F.FUR_PMERR_CNT).rd F.FUR_PMERR_CNT = min (s.rd F.FUR_PMERR_CNT + 1) (maxOf F.FUR_PMERR_CNT.width) := s.rd_inc_same (by decide)
  have hhlt : (s.inc F.FUR_PMERR_CNT).hlt = s.hlt := rfl
  unfold State.codeErred
  generalize s.inc F.FUR_PMERR_CNT = t at hcnt hhlt
  cases corrected with
  | true => exact ⟨hhlt, hcnt, fun h => absurd h (by decide)⟩
  | false => exact ⟨hhlt, (show _ = t.rd F.FUR_PMERR_CNT from rfl).trans hcnt, fun _ => contains_insertNat _ _⟩

theorem execEngineCheckError_code (s : State) (res : Nat) (corrected : Bool) (hbed : s.bedOn = true) (hclass : resClass res = 4) (hunit : res / 2 ^ 24 % 16 = 2) :
    Completes (.engineCheckError res corrected) s (fun t => t.rd F.FUR_PMERR_CNT = min (s.rd F.FUR_PMERR_CNT + 1) (maxOf F.FUR_PMERR_CNT.width) ∧ (corrected = false → t.fur.badCode.contains (res % 2 ^ 22) = true) ∧ (s.hlt.tests.length < 64 → t.hlt.tests.any (fun x => decide (x.res = res)) = true)) := by
  have htest : s.testable res = true := by
    unfold State.testable
    rw [if_pos (.inr (.inl hclass))]
    exact hbed
  have hexec : exec (.engineCheckError res corrected) s = .next ((s.codeErred (res % 2 ^ 22) corrected).triggerTest res) := by
    show execEngineCheckError res corrected s = _
    unfold execEngineCheckError
    rw [if_neg (by rw [htest]; decide), if_neg (by rw [hclass]; omega), if_pos hclass, hunit]
    rfl
  obtain ⟨hhlt, hcnt, hbad⟩ := s.codeErred_shows (res % 2 ^ 22) corrected
  generalize s.codeErred (res % 2 ^ 22) corrected = t at hexec hhlt hcnt hbad
  have h := State.AffectsOnly.triggerTest (S := ∅) t res
  refine ⟨_, hexec, (h.rd (f := F.FUR_PMERR_CNT) (notEntry (by decide)) (Set.notMem_empty _)).trans hcnt, fun hc => ?_, fun hroom => t.queueTest_has res [] (hhlt ▸ hroom)⟩
  rw [h.part State.fur fun _ _ => rfl]
  exact hbad hc

theorem execEngineCheckError_engine (s : State) (res : Nat) (corrected : Bool) (hbed : s.bedOn = true) (hcan : s.canopyOn = true) (hclass : resClass res = 5)
    (hunit : res / 2 ^ 20 % 256 < 5) (hroom : s.hlt.tests.length < 64) :
    Completes (.engineCheckError res corrected) s (fun t => t.hlt.tests.any (fun x => decide (x.res = res)) = true) := by
  have htest : s.testable res = true := by
    unfold State.testable
    rw [if_neg (by rw [hclass]; omega), hbed, hcan]
    rfl
  have hexec : exec (.engineCheckError res corrected) s = .next (s.triggerTest res) := by
    show execEngineCheckError res corrected s = _
    unfold execEngineCheckError
    rw [if_neg (by rw [htest]; decide), if_pos ⟨hclass, hunit⟩]
  exact ⟨_, hexec, s.queueTest_has res [] hroom⟩

theorem execTestCmd_queues (s : State) (d : Desc) (hd : s.freshDesc 1 = some d) (_hmax : resClass (d.le 16 4) ≤ 7) (hclass : resClass (d.le 16 4) = 3)
    (hunit : (d.le 16 4 % 16 < 8 ∨ d.le 16 4 % 16 = 15) ∧ s.otherReady (resDale (d.le 16 4)) = true) (hroom : s.hlt.tests.length < 64)
    (hnew : s.hlt.tests.any (fun x => decide (x.res = d.le 16 4)) = false) :
    Completes (.testCmd) s (fun t => t.hlt.tests = s.hlt.tests ++ [{ res := d.le 16 4, since := s.now, descs := [d] }]) := by
  obtain ⟨hcore, hready⟩ := hunit
  have hexec : exec (.testCmd) s = .next (s.queueTest (d.le 16 4) [d]) := by
    show execTestCmd s = _
    unfold execTestCmd
    rw [hd]
    dsimp only
    rw [if_neg (by rw [hclass]; omega), if_neg (by rw [hready]; simp), if_neg (by rw [hready]; simp)]
  exact ⟨_, hexec, State.queueTest_joins [d] hroom hnew⟩

/-! ### Heartbeats -/

theorem execHeartbeat_notes (s : State) (ag : Agent) (n : Nat) (hn : n < 2) (hacc : s.accepts ag 0x03 (0x084 + 0x20 * n) = true) :
    Completes (.heartbeat ag n) s (fun t => t.resp = .done ∧ SMap.get (fun _ => 0) t.hlt.hb n = s.now ∧ t.rd (F.HLT_DALEn_HBAGE_AGE n) = 0) := by
  have hexec : exec (.heartbeat ag n) s = .next (s.done.heartbeat n) := by
    refine congrArg Host.Outcome.next ((if_pos hn).trans (State.gate_accepts _ hacc))
  have hshows (x : State) : (x.heartbeat n).resp = x.resp ∧ SMap.get (fun _ => 0) (x.heartbeat n).hlt.hb n = x.now ∧ (x.heartbeat n).rd (F.HLT_DALEn_HBAGE_AGE n) = 0 := by
    unfold State.heartbeat
    extract_lets age _ t
    have hhb : SMap.get (fun _ => 0) t.hlt.hb n = x.now := SMap.get_set_same _ _ _ _
    have hresp : t.resp = x.resp := rfl
    clear_value t
    exact ⟨hresp, hhb, State.rd_wr_same _ _ _ (by show 15 < 32; decide)⟩
  exact ⟨_, hexec, hshows s.done⟩

/-! ### Tokens -/

theorem tokInsert_length (w : Nat × Nat × Nat) (l : List (Nat × Nat × Nat)) : (tokInsert w l).length = l.length + 1 := by
  have h := List.length_eq_length_filter_add (l := l) (fun x => decide (x.2.2 < w.2.2) || decide (x.1 ≤ w.1))
  unfold tokInsert
  rw [List.length_append, List.length_append, List.length_singleton]
  omega

/-- What the token's registers show as it is granted. -/
theorem State.tokShown_shows (s : State) {c owner act : Nat} (since : Nat) (hact : act < 16) (howner : owner < 16) :
    (s.tokShown c owner act since).rd (F.HLT_TOKc_HELD c) = 1 ∧ (s.tokShown c owner act since).rd (F.HLT_TOKc_OWNER c) = owner ∧
      (s.tokShown c owner act since).rd (F.HLT_TOKc_ACT c) = act := by
  have hwait : Reg.HLT_TOKc c ≠ Reg.HLT_TOKWAIT := by unfold Reg.HLT_TOKc Reg.HLT_TOKWAIT; omega
  have hmeas (y : State) (v : Nat) {f : Fld} (hf : f.addr = Reg.HLT_TOKc c) : (y.measured F.HLT_TOKWAIT_LAST F.HLT_TOKWAIT_PEAK v).rd f = y.rd f :=
    (State.rd_wr_other _ _ (by rw [hf]; exact hwait)).trans (State.rd_wr_other _ _ (by rw [hf]; exact hwait))
  unfold State.tokShown
  refine ⟨?_, ?_, ?_⟩
  · rw [hmeas (f := F.HLT_TOKc_HELD c) _ _ rfl, State.rd_wr_beside _ _ (by decide : 19 < 32) (by decide : 31 < 32) (by decide : 19 < 31 ∨ 31 < 16),
      State.rd_wr_beside _ _ (by decide : 30 < 32) (by decide : 31 < 32) (by decide : 30 < 31 ∨ 31 < 27)]
    exact s.rd_wr_same _ 1 (by decide : 31 < 32)
  · rw [hmeas (f := F.HLT_TOKc_OWNER c) _ _ rfl, State.rd_wr_beside _ _ (by decide : 19 < 32) (by decide : 30 < 32) (by decide : 19 < 27 ∨ 30 < 16)]
    exact (State.rd_wr_same _ _ owner (by decide : 30 < 32)).trans (Nat.mod_eq_of_lt howner)
  · rw [hmeas (f := F.HLT_TOKc_ACT c) _ _ rfl]
    exact (State.rd_wr_same _ _ act (by decide : 19 < 32)).trans (Nat.mod_eq_of_lt hact)

/-- The TOKTAKE that waits for token `c`, granted to `owner`, completes. -/
def State.takeDone (s : State) (c owner waited : Nat) : State :=
  match s.hlt.takes.find? (fun x => decide (x.1 = c) && decide (x.2.1 = owner)) with
  | some x => ({ s with hlt := { s.hlt with takes := s.hlt.takes.filter (fun y => decide (y ≠ x)) } }).complete 66 (x.2.2.waited waited) {}
  | none => s

theorem State.takeDone_reg (s : State) (c owner waited : Nat) : (s.takeDone c owner waited).reg (Reg.HLT_TOKc c) = s.reg (Reg.HLT_TOKc c) := by
  unfold State.takeDone
  split
  · exact State.complete_reg _ _ _ _ (entryKeeps_token c)
  · rfl

theorem State.tokGrant_take (s : State) (c owner since : Nat) : s.tokGrant c owner 0xC since =
    ((s.tokShown c owner 0xC since).setToken c { s.token c with since := s.now, hourTold := false }).takeDone c owner (s.now - since) := by
  unfold State.tokGrant State.takeDone
  extract_lets t u k v
  rw [if_pos rfl]
  rfl

/-- A token granted for a TOKTAKE is held by the Dale that asked. -/
theorem State.tokGrant_takes (s : State) {c owner : Nat} (since : Nat) (howner : owner < 16) :
    (s.tokGrant c owner 0xC since).on (F.HLT_TOKc_HELD c) = true ∧ (s.tokGrant c owner 0xC since).rd (F.HLT_TOKc_OWNER c) = owner ∧
      (s.tokGrant c owner 0xC since).rd (F.HLT_TOKc_ACT c) = 0xC := by
  obtain ⟨hheld, hown, hact⟩ := s.tokShown_shows (c := c) since (show 0xC < 16 by decide) howner
  rw [State.tokGrant_take]
  generalize s.tokShown c owner 0xC since = y at hheld hown hact
  have hheld' := (State.setToken_rd_beside y c { s.token c with since := s.now, hourTold := false } (f := F.HLT_TOKc_HELD c) rfl (by decide : 7 < 31) (by decide : 31 < 32)).trans hheld
  have hown' := (State.setToken_rd_beside y c { s.token c with since := s.now, hourTold := false } (f := F.HLT_TOKc_OWNER c) rfl (by decide : 7 < 27) (by decide : 30 < 32)).trans hown
  have hact' := (State.setToken_rd_beside y c { s.token c with since := s.now, hourTold := false } (f := F.HLT_TOKc_ACT c) rfl (by decide : 7 < 16) (by decide : 19 < 32)).trans hact
  generalize y.setToken c { s.token c with since := s.now, hourTold := false } = v at hheld' hown' hact'
  have hreg := v.takeDone_reg c owner (s.now - since)
  exact ⟨decide_eq_true ((State.rd_congr (f := F.HLT_TOKc_HELD c) hreg).trans hheld'), (State.rd_congr (f := F.HLT_TOKc_OWNER c) hreg).trans hown',
    (State.rd_congr (f := F.HLT_TOKc_ACT c) hreg).trans hact'⟩

theorem State.ringOwner_lt (s : State) : s.ringOwner < 16 := by
  unfold State.ringOwner
  cases h : s.carryIdx with
  | none => decide
  | some c => exact (State.carryIdx_lt h).trans (by decide)

theorem State.setHlt_tokens (s : State) (x : Health) : (s.setHlt x).toks = s.toks ∧ ∀ f : Fld, (s.setHlt x).on f = s.on f := ⟨rfl, fun _ => rfl⟩

/-- A TOKTAKE of a token that its Dale does not hold waits for it, or takes it. -/
def State.tokTaken (s : State) (c o : Nat) (d : Desc) : State :=
  let t := s.setHlt { s.hlt with takes := s.hlt.takes ++ [(c, o, d)] }
  if t.on (F.HLT_TOKc_HELD c) then t.setToken c { t.token c with waits := tokInsert (o, 0xC, t.now) (t.token c).waits } else t.tokGrant c o 0xC t.now

theorem State.tokTaken_shows (s : State) {c o : Nat} (d : Desc) (ho : o < 16) : if s.on (F.HLT_TOKc_HELD c) = true then
      ((s.tokTaken c o d).token c).waits.length = (s.token c).waits.length + 1
    else (s.tokTaken c o d).on (F.HLT_TOKc_HELD c) = true ∧ (s.tokTaken c o d).rd (F.HLT_TOKc_OWNER c) = o ∧ (s.tokTaken c o d).rd (F.HLT_TOKc_ACT c) = 0xC := by
  unfold State.tokTaken
  obtain ⟨htok, hon⟩ := s.setHlt_tokens { s.hlt with takes := s.hlt.takes ++ [(c, o, d)] }
  generalize s.setHlt { s.hlt with takes := s.hlt.takes ++ [(c, o, d)] } = x at htok hon
  dsimp only
  rw [hon]
  by_cases hheld : s.on (F.HLT_TOKc_HELD c) = true
  · rw [if_pos hheld, if_pos hheld, State.token_setToken_same]
    refine (tokInsert_length _ _).trans ?_
    unfold State.token
    rw [htok]
  · rw [if_neg hheld, if_neg hheld]
    exact x.tokGrant_takes x.now ho

theorem execToktake_takes (s : State) (d : Desc) (hd : s.freshDesc 3 = some d) (hc : d.le 16 1 ≤ 7) (hnot : s.holdsToken (d.le 16 1) s.ringOwner = false) :
    Completes (.toktake) s (fun t => if s.on (F.HLT_TOKc_HELD (d.le 16 1)) = true then (t.token (d.le 16 1)).waits.length = (s.token (d.le 16 1)).waits.length + 1
      else t.on (F.HLT_TOKc_HELD (d.le 16 1)) = true ∧ t.rd (F.HLT_TOKc_OWNER (d.le 16 1)) = s.ringOwner ∧ t.rd (F.HLT_TOKc_ACT (d.le 16 1)) = 0xC) := by
  have hexec : exec (.toktake) s = .next (s.tokTaken (d.le 16 1) s.ringOwner d) := by
    show execToktake s = _
    unfold execToktake
    rw [hd]
    dsimp only
    rw [if_neg (by omega), if_neg (by rw [hnot]; decide)]
    rfl
  exact ⟨_, hexec, s.tokTaken_shows d s.ringOwner_lt⟩

theorem execTokenHeldOneHour_tells (s : State) (c : Nat) (hbed : s.bedOn = true) (hc : c < 8) (hheld : s.on (F.HLT_TOKc_HELD c) = true)
    (hlong : (s.token c).since + 3600000000000 < s.now) :
    Completes (.tokenHeldOneHour c) s (fun t => (t.token c).hourTold = true ∧ t.on (F.HLT_TOKc_HELD c) = true) := by
  cases htold : (s.token c).hourTold with
  | true =>
    refine ⟨s, congrArg Host.Outcome.next (if_neg ?_), htold, hheld⟩
    rw [htold]
    exact fun h => absurd h.2.2.2.1 (by decide)
  | false =>
    have hexec : exec (.tokenHeldOneHour c) s = .next ((s.setToken c { s.token c with hourTold := true }).record 0x03 0x46 sevWarning c 0 0) :=
      congrArg Host.Outcome.next (if_pos ⟨hbed, hc, hheld, htold, hlong⟩)
    have htok : ((s.setToken c { s.token c with hourTold := true }).token c).hourTold = true := by rw [State.token_setToken_same]
    have hon : (s.setToken c { s.token c with hourTold := true }).rd (F.HLT_TOKc_HELD c) = 1 := (State.setToken_held s c _).trans (of_decide_eq_true hheld)
    generalize s.setToken c { s.token c with hourTold := true } = x at hexec htok hon
    have hrec := State.HealthTo.record (S := ∅) x 0x03 0x46 sevWarning c 0 0
    refine ⟨_, hexec, ?_, decide_eq_true ((hrec.rd (f := F.HLT_TOKc_HELD c) ?_ ?_ (Set.notMem_empty _)).trans hon)⟩
    · unfold State.token at htok ⊢
      rw [hrec.toks (Set.notMem_empty _)]
      exact htok
    · show Reg.HLT_TOKc c / 0x1000 = 3
      unfold Reg.HLT_TOKc
      omega
    · show ¬ (0x3100 ≤ Reg.HLT_TOKc c ∧ Reg.HLT_TOKc c < 0x3200)
      unfold Reg.HLT_TOKc
      omega

end Sys2Proof.Machine
end

section
/-! SUPPORT. A Dale held in reset, a Dale fault, and READY and ARMED (R500, R501, R503, R507): what they show. -/

namespace Sys2Proof.Machine

/-! ### Fields of the Dales' registers -/

/-- A bit of a word, read as a field. -/
theorem getBits_bit (v : W32) (i : Nat) : decide (getBits v i i = 1) = v.getLsbD i := by
  have hw : i + 1 - i = 1 := by omega
  unfold getBits BitVec.getLsbD
  rw [hw, Nat.testBit_eq_decide_div_mod_eq, Nat.shiftRight_eq_div_pow]
  rfl

theorem dale_addr (n : Nat) : Reg.HLT_DALEn_STAT n / 0x1000 = 3 ∧ Reg.HLT_DALEn_CTL n / 0x1000 = 3 ∧ Reg.HLT_DALEn_ERRCNT n / 0x1000 = 3 ∧
    Reg.HLT_DALEn_STAT n < 0x30C0 ∧ Reg.HLT_DALEn_CTL n < 0x30C0 ∧ Reg.HLT_DALEn_ERRCNT n < 0x30C0 ∧ 0x3080 ≤ Reg.HLT_DALEn_STAT n ∧ 0x3080 ≤ Reg.HLT_DALEn_CTL n ∧
    0x3080 ≤ Reg.HLT_DALEn_ERRCNT n := by
  unfold Reg.HLT_DALEn_STAT Reg.HLT_DALEn_CTL Reg.HLT_DALEn_ERRCNT
  omega

/-- The registers that the end of a handover changes. -/
def endRegs : Set Nat := {k | k ∈ healthNoise ∨ k = Reg.HLT_HOSTAT}

theorem noise_sub_endRegs : healthNoise ⊆ endRegs := fun _ h => .inl h

theorem endRegs_sub_holdRegs : endRegs ⊆ holdRegs := fun _ h => h.imp_right fun h => .inr (.inl h)

theorem not_mem_endRegs {k : Nat} (hlow : 0x3080 ≤ k) (hhigh : k < 0x30C0) : k ∉ endRegs := by
  unfold endRegs healthNoise testNoise Reg.HLT_STAT Reg.HLT_TESTQ Reg.HLT_UNTESTED Reg.HLT_TOKWAIT Reg.HLT_HOSTAT
  simp only [Set.mem_ofPred_eq, not_or]
  omega

theorem role_not_endRegs : Reg.HLT_ROLE ∉ endRegs := fun h => h.elim role_quiet fun h => absurd h (by decide)

/-- A Dale's register is kept where only a handover ends. -/
theorem State.HealthTo.dale {s t : State} (h : State.HealthTo endRegs s t) {f : Fld} (hlow : 0x3080 ≤ f.addr) (hhigh : f.addr < 0x30C0) : t.rd f = s.rd f :=
  h.rd (f := f) (by omega) (by omega) (not_mem_endRegs hlow hhigh)

theorem State.HealthTo.role {s t : State} (h : State.HealthTo endRegs s t) : t.rd F.HLT_ROLE_CARRY = s.rd F.HLT_ROLE_CARRY :=
  h.rd (f := F.HLT_ROLE_CARRY) (by decide) (by decide) role_not_endRegs

/-! ### A Dale held -/

theorem State.setCarry_beside (s : State) (c : Nat) {f : Fld} (h3 : f.addr / 0x1000 = 3) (hm : ¬ (0x3100 ≤ f.addr ∧ f.addr < 0x3200)) (hrole : f.addr ≠ Reg.HLT_ROLE)
    (hapart : (F.HLT_DALEn_STAT_CARRY 0).apart f = true) : (s.setCarry c).rd f = s.rd f := by
  have htrl (x : State) : x.trlRole.rd f = x.rd f := (State.HealthTo.trlRole (S := ∅) x).rd (f := f) h3 hm (Set.notMem_empty _)
  exact (htrl _).trans ((State.rd_wr_apart (f := F.HLT_DALEn_STAT_CARRY 1) _ _ hapart).trans ((State.rd_wr_apart (f := F.HLT_DALEn_STAT_CARRY 0) _ _ hapart).trans
    (s.rd_wr_other (f := F.HLT_ROLE_CARRY) _ hrole)))

theorem State.noCarry_shows (s : State) : s.noCarry.rd F.HLT_ROLE_CARRY = 2 ∧
    ∀ f : Fld, f.addr / 0x1000 = 3 → ¬ (0x3100 ≤ f.addr ∧ f.addr < 0x3200) → f.addr ≠ Reg.HLT_ROLE → (F.HLT_DALEn_STAT_CARRY 0).apart f = true → s.noCarry.rd f = s.rd f := by
  unfold State.noCarry
  by_cases h : s.rd F.HLT_ROLE_CARRY = 2
  · rw [if_pos h]
    exact ⟨h, fun _ _ _ _ _ => rfl⟩
  · rw [if_neg h]
    have hcarry := (s.setCarry_shows (c := 2) (by decide)).1
    have hkept (f : Fld) := s.setCarry_beside 2 (f := f)
    generalize s.setCarry 2 = t at hcarry hkept
    have hset := (t.setHlt_shows { t.hlt with noneSince := some s.now, ordered := false }).2.1
    dsimp only
    generalize t.setHlt { t.hlt with noneSince := some s.now, ordered := false } = u at hset
    have hev := State.HealthTo.hltEvent (S := ∅) u 4 0 0 0 none
    exact ⟨(hev.rd (f := F.HLT_ROLE_CARRY) (by decide) (by decide) (Set.notMem_empty _)).trans ((hset _).trans hcarry),
      fun f h3 hm hr ha => (hev.rd (f := f) h3 hm (Set.notMem_empty _)).trans ((hset f).trans (hkept f h3 hm hr ha))⟩

/-- The Dale's own bits as it is held: in reset unless it is isolated, READY and ARMED clear. -/
def State.daleDown (s : State) (n : Nat) : State :=
  ((if s.daleState n = 4 then s else s.wr (F.HLT_DALEn_STAT_STATE n) 2).wr (F.HLT_DALEn_CTL_READY n) 0).wr (F.HLT_DALEn_CTL_ARMED n) 0

theorem stat_ne_ctl (n : Nat) : Reg.HLT_DALEn_STAT n ≠ Reg.HLT_DALEn_CTL n := by
  unfold Reg.HLT_DALEn_STAT Reg.HLT_DALEn_CTL
  omega

theorem State.daleDown_shows {s : State} {n : Nat} (h : s.daleState n ≠ 4) : (s.daleDown n).rd (F.HLT_DALEn_STAT_STATE n) = 2 ∧
    (s.daleDown n).rd (F.HLT_DALEn_CTL_READY n) = 0 ∧ (s.daleDown n).rd F.HLT_ROLE_CARRY = s.rd F.HLT_ROLE_CARRY := by
  have hne := stat_ne_ctl n
  obtain ⟨-, -, -, -, -, -, hs, hc, -⟩ := dale_addr n
  have hctl : Reg.HLT_ROLE ≠ Reg.HLT_DALEn_CTL n := fun e => absurd (e ▸ hc) (by decide)
  have hstat : Reg.HLT_ROLE ≠ Reg.HLT_DALEn_STAT n := fun e => absurd (e ▸ hs) (by decide)
  unfold State.daleDown
  rw [if_neg h]
  refine ⟨?_, ?_, ?_⟩
  · exact (State.rd_wr_other _ _ hne).trans ((State.rd_wr_other _ _ hne).trans (s.rd_wr_same (F.HLT_DALEn_STAT_STATE n) 2 (by show 31 < 32; decide)))
  · exact (State.rd_wr_beside _ _ (by show 30 < 32; decide) (by show 31 < 32; decide) (.inl (by show 30 < 31; decide))).trans
      (State.rd_wr_same _ (F.HLT_DALEn_CTL_READY n) 0 (by show 31 < 32; decide))
  · exact (State.rd_wr_other _ _ hctl).trans ((State.rd_wr_other _ _ hctl).trans (State.rd_wr_other _ _ hstat))

/-- What the hold ends: a planned handover that the Dale takes part in, and the role where it carries. -/
def State.heldEnds (s t : State) (n : Nat) (planned : Bool) : State :=
  if s.carryIdx = some n then (if planned then t.endPlanned 0x43 else t).noCarry else if planned then t.endPlanned 0x41 else t

/-- Whether a planned handover waits. -/
def State.handPlanned (s : State) : Bool :=
  match s.hlt.hand with
  | some h => !h.fault
  | none => false

theorem State.daleHold_eq (s : State) (n : Nat) : s.daleHold n = s.heldEnds ((s.daleDown n).holdAgent n) n s.handPlanned := rfl

theorem State.heldEnds_shows {s t : State} {n : Nat} (planned : Bool) (hrole : t.rd F.HLT_ROLE_CARRY = s.rd F.HLT_ROLE_CARRY) :
    (s.heldEnds t n planned).carryIdx ≠ some n ∧ ∀ f : Fld, 0x3080 ≤ f.addr → f.addr < 0x30C0 → (F.HLT_DALEn_STAT_CARRY 0).apart f = true → (s.heldEnds t n planned).rd f = t.rd f := by
  have hend (st : Nat) : State.HealthTo endRegs t (if planned then t.endPlanned st else t) :=
    .ite _ (fun _ => .endPlanned noise_sub_endRegs t st (.inr rfl)) fun _ => .refl t
  unfold State.heldEnds
  by_cases hc : s.carryIdx = some n
  · rw [if_pos hc]
    have h := hend 0x43
    generalize (if planned then t.endPlanned 0x43 else t) = u at h
    obtain ⟨hcarry, hkept⟩ := u.noCarry_shows
    have hnone : u.noCarry.carryIdx = none := by
      unfold State.carryIdx
      exact if_pos hcarry
    refine ⟨by rw [hnone]; exact fun e => absurd e (by simp), fun f hlow hhigh ha => ?_⟩
    exact (hkept f (by omega) (by omega) (fun e => absurd (e ▸ hlow) (by decide)) ha).trans (h.dale hlow hhigh)
  · rw [if_neg hc]
    have h := hend 0x41
    generalize (if planned then t.endPlanned 0x41 else t) = u at h
    exact ⟨by rw [State.carryIdx_congr (h.role.trans hrole)]; exact hc, fun f hlow hhigh _ => h.dale hlow hhigh⟩

theorem State.daleHold_shows {s : State} {n : Nat} (h : s.daleState n ≠ 4) : (s.daleHold n).rd (F.HLT_DALEn_STAT_STATE n) = 2 ∧
    (s.daleHold n).rd (F.HLT_DALEn_CTL_READY n) = 0 ∧ (s.daleHold n).carryIdx ≠ some n := by
  obtain ⟨-, -, -, hs, hc, -, hs', hc', -⟩ := dale_addr n
  obtain ⟨hstate, hready, hrole⟩ := State.daleDown_shows h
  rw [State.daleHold_eq]
  have hagent := State.HealthTo.holdAgent (S := endRegs) (s.daleDown n) n
  generalize (s.daleDown n).holdAgent n = t at hagent
  obtain ⟨hcarry, hkept⟩ := State.heldEnds_shows (n := n) s.handPlanned (hagent.role.trans hrole)
  exact ⟨(hkept (F.HLT_DALEn_STAT_STATE n) hs' hs (by show (F.HLT_DALEn_STAT_CARRY 0).apart (F.HLT_DALEn_STAT_STATE 0) = true; decide)).trans ((hagent.dale (f := F.HLT_DALEn_STAT_STATE n) hs' hs).trans hstate),
    (hkept (F.HLT_DALEn_CTL_READY n) hc' hc (by show (F.HLT_DALEn_STAT_CARRY 0).apart (F.HLT_DALEn_CTL_READY 0) = true; decide)).trans ((hagent.dale (f := F.HLT_DALEn_CTL_READY n) hc' hc).trans hready), hcarry⟩

end Sys2Proof.Machine
end

section
/-! SUPPORT. A Dale fault (R501, R508) and the commands that bring one about or write READY and ARMED (R500, R503, R507). -/

namespace Sys2Proof.Machine

/-! ### A fault -/

/-- The Dale held, with its cause and count. -/
def State.daleFaultMarked (s : State) (n cause : Nat) : State := ((s.daleHold n).wr (F.HLT_DALEn_STAT_FCAUSE n) cause).inc (F.HLT_DALEn_FAULTS_CNT n)

/-- The fault told: the flag, the event and the record; a probation ends. -/
def State.daleFaultTold (s : State) (n cause : Nat) : State :=
  let t := (s.flagDale F.HLT_STAT_DALEFLT F.HLT_CTL_IE_DALE).hltEvent 2 n cause (daleRes n) (some (sevFault, n))
  if (t.probation n).isSome then (t.fellMark n).fellStop n else t

/-- The handover a carrying Dale's fault asks for. -/
def State.daleFaultHanded (s : State) (carried : Bool) (n cause : Nat) : State := if carried then s.faultHand n cause else s

theorem State.daleFault_eq {s : State} {n : Nat} (cause : Nat) (h : s.daleState n = 1) :
    s.daleFault n cause = (((s.daleFaultMarked n cause).daleFaultTold n cause).daleFaultHanded (decide (s.carryIdx = some n)) n cause).triggerTest (daleRes n) :=
  if_neg fun hx => hx h

theorem State.daleFaultMarked_shows {s : State} {n cause : Nat} (hc : cause < 16) (h : s.daleState n = 1) :
    (s.daleFaultMarked n cause).rd (F.HLT_DALEn_STAT_STATE n) = 2 ∧ (s.daleFaultMarked n cause).rd (F.HLT_DALEn_STAT_FCAUSE n) = cause ∧
      (s.daleFaultMarked n cause).rd (F.HLT_DALEn_CTL_READY n) = 0 ∧ (s.daleFaultMarked n cause).carryIdx ≠ some n ∧
      (∀ f : Fld, f.addr = Reg.HLT_DALEn_ERRCNT n → (s.daleFaultMarked n cause).rd f = s.rd f) ∧ (s.daleFaultMarked n cause).upd = s.upd := by
  obtain ⟨hstate, hready, hcarry⟩ := State.daleHold_shows (s := s) (n := n) (by rw [h]; decide)
  have hto := State.HealthTo.daleHold s n
  have hupd := (State.SparesUpd.daleHold s n).upd
  unfold State.daleFaultMarked
  generalize s.daleHold n = t at hstate hready hcarry hto hupd
  have hcnt (x : State) (f : Fld) (hf : f.addr = Reg.HLT_DALEn_STAT n ∨ f.addr = Reg.HLT_DALEn_CTL n ∨ f.addr = Reg.HLT_DALEn_ERRCNT n ∨ f.addr = Reg.HLT_ROLE) :
      (x.inc (F.HLT_DALEn_FAULTS_CNT n)).rd f = x.rd f := by
    refine State.rd_wr_other _ _ fun e => ?_
    rw [show (F.HLT_DALEn_FAULTS_CNT n).addr = 0x3090 + 0x20 * (n % 2) from rfl] at e
    unfold Reg.HLT_DALEn_STAT Reg.HLT_DALEn_CTL Reg.HLT_DALEn_ERRCNT Reg.HLT_ROLE at hf
    omega
  have hmark (f : Fld) (hf : f.addr ≠ Reg.HLT_DALEn_STAT n) : (t.wr (F.HLT_DALEn_STAT_FCAUSE n) cause).rd f = t.rd f := State.rd_wr_other _ _ hf
  have herr : ∀ f : Fld, f.addr = Reg.HLT_DALEn_ERRCNT n → t.rd f = s.rd f := by
    intro f hf
    obtain ⟨-, -, h3, -, -, hhigh, -, -, hlow⟩ := dale_addr n
    refine hto.rd (f := f) (hf ▸ h3) (by rw [hf]; omega) ?_
    rw [hf]
    unfold holdRegs healthNoise testNoise Reg.HLT_DALEn_ERRCNT Reg.HLT_STAT Reg.HLT_TESTQ Reg.HLT_UNTESTED Reg.HLT_TOKWAIT Reg.HLT_HOSTAT Reg.HLT_ROLE
    simp only [Set.mem_ofPred_eq, not_or]
    omega
  refine ⟨?_, ?_, ?_, ?_, fun f hf => ?_, hupd⟩
  · exact (hcnt _ (F.HLT_DALEn_STAT_STATE n) (.inl rfl)).trans ((State.rd_wr_beside _ _ (by show 11 < 32; decide) (by show 31 < 32; decide) (.inl (by show 11 < 29; decide))).trans hstate)
  · exact (hcnt _ (F.HLT_DALEn_STAT_FCAUSE n) (.inl rfl)).trans ((t.rd_wr_same (F.HLT_DALEn_STAT_FCAUSE n) cause (by show 11 < 32; decide)).trans (Nat.mod_eq_of_lt hc))
  · exact (hcnt _ (F.HLT_DALEn_CTL_READY n) (.inr (.inl rfl))).trans ((hmark (F.HLT_DALEn_CTL_READY n) (stat_ne_ctl n).symm).trans hready)
  · have hrole : Reg.HLT_ROLE ≠ Reg.HLT_DALEn_STAT n := by
      unfold Reg.HLT_ROLE Reg.HLT_DALEn_STAT
      omega
    rw [State.carryIdx_congr ((hcnt _ F.HLT_ROLE_CARRY (.inr (.inr (.inr rfl)))).trans (hmark F.HLT_ROLE_CARRY hrole))]
    exact hcarry
  · have hne : Reg.HLT_DALEn_ERRCNT n ≠ Reg.HLT_DALEn_STAT n := by
      unfold Reg.HLT_DALEn_ERRCNT Reg.HLT_DALEn_STAT
      omega
    exact (hcnt _ f (.inr (.inr (.inl hf)))).trans ((hmark f (hf ▸ hne)).trans (herr f hf))

theorem State.daleFaultTold_keeps (s : State) (n cause : Nat) : State.HealthTo endRegs s (s.daleFaultTold n cause) := by
  unfold State.daleFaultTold
  extract_lets t
  have ht : State.HealthTo endRegs s t :=
    (State.HealthTo.flagDale s (stat := F.HLT_STAT_DALEFLT) _ (.inr (.inr (.inl (.inl (.inl rfl)))))).trans (.hltEvent _ _ _ _ _ _)
  clear_value t
  exact .ite _ (fun _ => (ht.trans (.fellMark t n)).trans (.fellStop noise_sub_endRegs _ n)) fun _ => ht

theorem State.daleFaultTold_run {s : State} (n cause : Nat) (h : s.upd.run = none) : (s.daleFaultTold n cause).upd.run = none := by
  unfold State.daleFaultTold
  extract_lets t
  have ht : t.upd = s.upd := (State.SparesUpd.hltEvent _ 2 n cause (daleRes n) (some (sevFault, n))).upd.trans
    ((State.AffectsOnly.flagDale (S := {Reg.HLT_STAT}) s (stat := F.HLT_STAT_DALEFLT) F.HLT_CTL_IE_DALE (.inl rfl)).part State.upd fun _ _ => rfl)
  have hrun : t.upd.run = none := (congrArg Upd.run ht).trans h
  clear_value t
  split
  · have hmark : (t.fellMark n).upd.run = none := (t.fellMark_shows n).2.1.trans hrun
    rw [State.fellStop_idle n hmark]
    exact hmark
  · exact hrun

theorem daleRes_class {n : Nat} (hn : n < 2) : resClass (daleRes n) ≠ 2 := by
  unfold resClass daleRes
  omega

/-- What a fault of a running Dale shows. -/
theorem State.daleFault_shows {s : State} {n cause : Nat} (hn : n < 2) (hc : cause < 16) (h : s.daleState n = 1) :
    (s.daleFault n cause).daleState n = 2 ∧ (s.daleFault n cause).rd (F.HLT_DALEn_STAT_FCAUSE n) = cause ∧ (s.daleFault n cause).daleReady n = false ∧
      (s.daleFault n cause).carryIdx ≠ some n ∧ (∀ f : Fld, f.addr = Reg.HLT_DALEn_ERRCNT n → (s.daleFault n cause).rd f = s.rd f) ∧
      (s.upd.run = none → (s.daleFault n cause).upd.run = none) := by
  obtain ⟨-, -, -, hs, hcl, he, hs', hcl', he'⟩ := dale_addr n
  obtain ⟨hstate, hcause, hready, hcarry, herr, hupd⟩ := State.daleFaultMarked_shows (n := n) hc h
  rw [State.daleFault_eq cause h]
  generalize s.daleFaultMarked n cause = t at hstate hcause hready hcarry herr hupd
  have htold := t.daleFaultTold_keeps n cause
  have hrun : s.upd.run = none → (t.daleFaultTold n cause).upd.run = none := fun hx => State.daleFaultTold_run n cause ((congrArg Upd.run hupd).trans hx)
  generalize t.daleFaultTold n cause = u at htold hrun
  have hhand : State.HealthTo endRegs u (u.daleFaultHanded (decide (s.carryIdx = some n)) n cause) := .ite _ (fun _ => .faultHand u n cause (.inr rfl)) fun _ => .refl u
  have hupd' : (u.daleFaultHanded (decide (s.carryIdx = some n)) n cause).upd = u.upd := by
    unfold State.daleFaultHanded
    split
    · exact (State.SparesUpd.faultHand u n cause).upd
    · rfl
  generalize u.daleFaultHanded (decide (s.carryIdx = some n)) n cause = v at hhand hupd'
  have htest : State.HealthTo endRegs v (v.triggerTest (daleRes n)) := .triggerTest (fun _ hx => .inl (testNoise_sub hx)) v (daleRes_class hn)
  have hupd'' : (v.triggerTest (daleRes n)).upd = v.upd := (State.AffectsOnly.triggerTest (S := ∅) v (daleRes n)).part State.upd fun _ _ => rfl
  generalize v.triggerTest (daleRes n) = w at htest hupd''
  have hto := (htold.trans hhand).trans htest
  have hready' : w.rd (F.HLT_DALEn_CTL_READY n) = 0 := (hto.dale (f := F.HLT_DALEn_CTL_READY n) hcl' hcl).trans hready
  have hoff : w.on (F.HLT_DALEn_CTL_READY n) = false := decide_eq_false (by rw [hready']; decide)
  refine ⟨(hto.dale (f := F.HLT_DALEn_STAT_STATE n) hs' hs).trans hstate, (hto.dale (f := F.HLT_DALEn_STAT_FCAUSE n) hs' hs).trans hcause, ?_, ?_, fun f hf => ?_,
    fun hx => (congrArg Upd.run (hupd''.trans hupd')).trans (hrun hx)⟩
  · unfold State.daleReady
    rw [hoff, Bool.and_false]
  · rw [State.carryIdx_congr hto.role]
    exact hcarry
  · exact (hto.dale (f := f) (hf ▸ he') (hf ▸ he)).trans (herr f hf)

/-! ### The commands -/

theorem execHeartbeatTimeout_faults (s : State) (n : Nat) (hbed : s.bedOn = true) (hn : n < 2) (hst : s.daleState n = 1)
    (hwho : s.on (F.HLT_DALEn_CTL_READY n) = true ∨ s.carryIdx = some n) (hdue : SMap.get (fun _ => 0) s.hlt.hb n + s.rd F.HLT_HOCFG_HBPER * 1000000 ≤ s.now) :
    Completes (.heartbeatTimeout n) s (fun t => t.daleState n = 2 ∧ t.rd (F.HLT_DALEn_STAT_FCAUSE n) = 4 ∧ t.daleReady n = false ∧ t.carryIdx ≠ some n) := by
  have hexec : exec (.heartbeatTimeout n) s = .next ((s.measured (F.HLT_DALEn_HBAGE_AGE n) (F.HLT_DALEn_HBAGE_PEAK n) ((s.now - SMap.get (fun _ => 0) s.hlt.hb n) / 1000)).daleFault n 4) :=
    congrArg Host.Outcome.next (if_pos ⟨hbed, hn, hst, hwho, hdue⟩)
  have hst' : (s.measured (F.HLT_DALEn_HBAGE_AGE n) (F.HLT_DALEn_HBAGE_PEAK n) ((s.now - SMap.get (fun _ => 0) s.hlt.hb n) / 1000)).daleState n = 1 := by
    have hne : Reg.HLT_DALEn_STAT n ≠ Reg.HLT_DALEn_HBAGE n := by
      unfold Reg.HLT_DALEn_STAT Reg.HLT_DALEn_HBAGE
      omega
    exact ((State.rd_wr_other _ _ hne).trans (State.rd_wr_other _ _ hne)).trans hst
  obtain ⟨h1, h2, h3, h4, -, -⟩ := State.daleFault_shows hn (show 4 < 16 by decide) hst'
  exact ⟨_, hexec, h1, h2, h3, h4⟩

/-- READY and ARMED as written. -/
def State.marksWritten (s : State) (n : Nat) (v : W32) : State := (s.wr (F.HLT_DALEn_CTL_READY n) (getBits v 31 31)).wr (F.HLT_DALEn_CTL_ARMED n) (getBits v 30 30)

theorem State.marksWritten_state (s : State) (n : Nat) (v : W32) : (s.marksWritten n v).daleState n = s.daleState n :=
  (State.rd_wr_other _ _ (stat_ne_ctl n)).trans (State.rd_wr_other _ _ (stat_ne_ctl n))

theorem State.marksWritten_shows (s : State) (n : Nat) (v : W32) : (s.marksWritten n v).on (F.HLT_DALEn_CTL_READY n) = v.getLsbD 31 ∧
    (s.marksWritten n v).on (F.HLT_DALEn_CTL_ARMED n) = v.getLsbD 30 := by
  have hready : (s.marksWritten n v).rd (F.HLT_DALEn_CTL_READY n) = getBits v 31 31 :=
    (State.rd_wr_beside _ _ (by show 30 < 32; decide) (by show 31 < 32; decide) (.inl (by show 30 < 31; decide))).trans
      ((s.rd_wr_same (F.HLT_DALEn_CTL_READY n) _ (by show 31 < 32; decide)).trans (Nat.mod_eq_of_lt (getBits_lt v 31 31)))
  have harmed : (s.marksWritten n v).rd (F.HLT_DALEn_CTL_ARMED n) = getBits v 30 30 :=
    (State.rd_wr_same _ (F.HLT_DALEn_CTL_ARMED n) _ (by show 30 < 32; decide)).trans (Nat.mod_eq_of_lt (getBits_lt v 30 30))
  unfold State.on
  rw [hready, harmed]
  exact ⟨getBits_bit v 31, getBits_bit v 30⟩

theorem State.marksWritten_rest (s : State) (n : Nat) (v : W32) : (s.marksWritten n v).upd = s.upd ∧ (s.marksWritten n v).resp = s.resp := ⟨rfl, rfl⟩

theorem State.daleFault_resp {s : State} {n cause : Nat} (h : s.daleState n = 1) : (s.daleFault n cause).resp = s.resp := by
  have h0 : State.SysTo s (s.daleFaultMarked n cause) :=
    ((State.SysTo.daleHold _ n).trans (.wr _ (f := F.HLT_DALEn_STAT_FCAUSE n) _ (State.SysTo.dale_le n).1)).trans
      (.inc _ (f := F.HLT_DALEn_FAULTS_CNT n) (by show 0x1000 ≤ 0x3090 + 0x20 * (n % 2); omega))
  have htold (x : State) : State.SysTo x (x.daleFaultTold n cause) := by
    unfold State.daleFaultTold
    extract_lets t
    have ht : State.SysTo x t :=
      (State.SysTo.of_affectsNone (.flagDale (S := ∅) x (stat := F.HLT_STAT_DALEFLT) _ (.inr (.inl rfl)))).trans (.hltEvent _ _ _ _ _ _)
    clear_value t
    exact .ite _ (fun _ => ht.trans (.of_updates ((State.UpdatesTo.fellMark t n).trans (.fellStop _ n)))) fun _ => ht
  have hhand (x : State) (b : Bool) : State.SysTo x (x.daleFaultHanded b n cause) := .ite _ (fun _ => .faultHand x n cause) fun _ => .refl x
  have htest (x : State) : State.SysTo x (x.triggerTest (daleRes n)) := .of_affectsNone (.triggerTest x _)
  rw [State.daleFault_eq cause h]
  exact (((h0.trans (htold _)).trans (hhand _ _)).trans (htest _)).part State.resp fun _ _ => rfl

theorem State.daleCtl_declares {s : State} {n : Nat} (hst : s.daleState n = 1) (hn : n < 2) (hrun : s.upd.run = none) :
    s.daleCtlWrite n 0x20000000 = (s.marksWritten n 0x20000000).daleFault n 6 := by
  obtain ⟨-, -, -, -, -, h6⟩ := State.daleFault_shows hn (show 6 < 16 by decide) ((s.marksWritten_state n 0x20000000).trans hst)
  have hrun' := h6 ((congrArg Upd.run (s.marksWritten_rest n 0x20000000).1).trans hrun)
  unfold State.daleCtlWrite
  dsimp only
  rw [if_pos (by decide)]
  exact State.updRun_idle hrun'

theorem execDaleDeclareFail_faults (s : State) (ag : Agent) (n : Nat) (hn : n < 2) (hacc : s.accepts ag 0x03 (0x080 + 0x20 * n) = true) (hst : s.daleState n = 1)
    (hrun : s.upd.run = none) :
    Completes (.daleDeclareFail ag n) s (fun t => t.resp = .done ∧ t.daleState n = 2 ∧ t.rd (F.HLT_DALEn_STAT_FCAUSE n) = 6 ∧ t.daleReady n = false ∧ t.carryIdx ≠ some n) := by
  have hst' : s.done.daleState n = 1 := hst
  have hrun' : s.done.upd.run = none := hrun
  have hexec : exec (.daleDeclareFail ag n) s = .next (s.done.daleCtlWrite n 0x20000000) :=
    congrArg Host.Outcome.next ((if_pos hn).trans (State.gate_accepts _ hacc))
  have hdone : s.done.resp = .done := rfl
  generalize s.done = x at hst' hrun' hexec hdone
  rw [State.daleCtl_declares hst' hn hrun'] at hexec
  have hmarks := (x.marksWritten_state n 0x20000000).trans hst'
  obtain ⟨h1, h2, h3, h4, -, -⟩ := State.daleFault_shows hn (show 6 < 16 by decide) hmarks
  exact ⟨_, hexec, (State.daleFault_resp hmarks).trans ((x.marksWritten_rest n _).2.trans hdone), h1, h2, h3, h4⟩

/-! ### READY and ARMED written (R503, R507) -/

theorem State.readyHand_keeps (s : State) (n : Nat) : State.KeepsTo endRegs s (s.readyHand n) ∧ State.SysTo s (s.readyHand n) := by
  have hfault (src cause : Nat) : State.KeepsTo endRegs s (s.faultHand src cause) := ⟨.faultHand s src cause (.inr rfl), (State.SparesUpd.faultHand s src cause).upd⟩
  unfold State.readyHand
  split
  · extract_lets t
    have ht : State.KeepsTo endRegs s t := hfault _ _
    have ht' : State.SysTo s t := .faultHand _ _ _
    clear_value t
    split
    · next h at0 _ _ => exact ⟨ht.trans ⟨.withHand t { t.hlt with hand := some { h with det := at0 } } (.inr rfl) rfl rfl, rfl⟩, ht'.trans (.setHlt _ _)⟩
    · exact ⟨ht, ht'⟩
  · exact ⟨.refl s, .refl s⟩

theorem State.armed_keeps (s : State) (n : Nat) : State.KeepsTo endRegs s (s.armed n) ∧ State.SysTo s (s.armed n) := by
  unfold State.armed
  split
  · next h _ =>
    split
    · have hset : State.KeepsTo endRegs s (s.setHlt { s.hlt with hand := some { h with det := if h.det = 0 then s.now else h.det } }) :=
        ⟨.withHand s _ (.inr rfl) rfl rfl, rfl⟩
      exact ⟨hset.trans (.wrFree _ (f := F.HLT_HOSTAT_STATE) _ (.inr (.inr (.inr rfl)))), (State.SysTo.setHlt _ _).trans (.wr _ (f := F.HLT_HOSTAT_STATE) _ (by decide))⟩
    · exact ⟨.refl s, .refl s⟩
  · exact ⟨.refl s, .refl s⟩

/-- What READY and ARMED bring, before the run goes on. -/
def State.marksBring (s : State) (n : Nat) (was : Bool) : State :=
  let t := if was = false ∧ s.on (F.HLT_DALEn_CTL_READY n) = true then s.readyHand n else s
  let t := if t.standing n = true ∧ t.on (F.HLT_DALEn_CTL_READY n) = false then t.endPlanned 0x41 else t
  if t.on (F.HLT_DALEn_CTL_ARMED n) then t.armed n else t

theorem State.marksBring_keeps (s : State) (n : Nat) (was : Bool) : State.KeepsTo endRegs s (s.marksBring n was) ∧ (s.marksBring n was).resp = s.resp := by
  unfold State.marksBring
  extract_lets t u
  have ht : State.KeepsTo endRegs s t ∧ State.SysTo s t := by
    unfold t
    split
    · exact s.readyHand_keeps n
    · exact ⟨.refl s, .refl s⟩
  have hu : State.KeepsTo endRegs t u ∧ State.SysTo t u := by
    unfold u
    split
    · exact ⟨⟨.endPlanned noise_sub_endRegs t 0x41 (.inr rfl), (State.SparesUpd.endPlanned t 0x41).upd⟩, .endPlanned t 0x41⟩
    · exact ⟨.refl t, .refl t⟩
  clear_value u
  have hlast : State.KeepsTo endRegs u (if u.on (F.HLT_DALEn_CTL_ARMED n) then u.armed n else u) ∧ State.SysTo u (if u.on (F.HLT_DALEn_CTL_ARMED n) then u.armed n else u) := by
    split
    · exact u.armed_keeps n
    · exact ⟨.refl u, .refl u⟩
  exact ⟨(ht.1.trans hu.1).trans hlast.1, ((ht.2.trans hu.2).trans hlast.2).part State.resp fun _ _ => rfl⟩

theorem State.daleMarks_idle {s : State} {n : Nat} (was : Bool) (hrun : s.upd.run = none) : s.daleMarks n was = s.marksBring n was :=
  State.updRun_idle ((congrArg Upd.run (s.marksBring_keeps n was).1.upd).trans hrun)

theorem execDaleReadyWrite_writes (s : State) (ag : Agent) (n : Nat) (v : W32) (hn : n < 2) (hacc : s.accepts ag 0x03 (0x080 + 0x20 * n) = true)
    (hrun : s.upd.run = none) :
    Completes (.daleReadyWrite ag n v) s (fun t => t.resp = .done ∧ t.on (F.HLT_DALEn_CTL_READY n) = v.getLsbD 31 ∧ t.on (F.HLT_DALEn_CTL_ARMED n) = v.getLsbD 30) := by
  have hbit (i : Nat) (hi : i < 32) (h29 : 29 < i) : (setBits v 29 29 0).getLsbD i = v.getLsbD i := by
    rw [← getBits_bit, ← getBits_bit, getBits_setBits_other (by decide) hi (.inl h29)]
  have hexec : exec (.daleReadyWrite ag n v) s = .next (s.done.daleCtlWrite n (setBits v 29 29 0)) :=
    congrArg Host.Outcome.next ((if_pos hn).trans (State.gate_accepts _ hacc))
  have hrun' : s.done.upd.run = none := hrun
  have hdone : s.done.resp = .done := rfl
  generalize s.done = x at hrun' hexec hdone
  have hfail : getBits (setBits v 29 29 0) 29 29 ≠ 1 := by
    rw [getBits_setBits_same (by decide)]
    decide
  obtain ⟨hready, harmed⟩ := x.marksWritten_shows n (setBits v 29 29 0)
  obtain ⟨hupd, hresp⟩ := x.marksWritten_rest n (setBits v 29 29 0)
  have hwrite : x.daleCtlWrite n (setBits v 29 29 0) = (x.marksWritten n (setBits v 29 29 0)).daleMarks n (x.on (F.HLT_DALEn_CTL_READY n)) := if_neg hfail
  generalize x.marksWritten n (setBits v 29 29 0) = y at hready harmed hupd hresp hwrite
  rw [hwrite, State.daleMarks_idle _ ((congrArg Upd.run hupd).trans hrun')] at hexec
  obtain ⟨hkept, hresp'⟩ := y.marksBring_keeps n (x.on (F.HLT_DALEn_CTL_READY n))
  obtain ⟨-, -, -, -, hhigh, -, -, hlow, -⟩ := dale_addr n
  refine ⟨_, hexec, hresp'.trans (hresp.trans hdone), ?_, ?_⟩
  · exact (State.on_congr (f := F.HLT_DALEn_CTL_READY n) (hkept.health.dale (f := F.HLT_DALEn_CTL_READY n) hlow hhigh)).trans (hready.trans (hbit 31 (by decide) (by decide)))
  · exact (State.on_congr (f := F.HLT_DALEn_CTL_ARMED n) (hkept.health.dale (f := F.HLT_DALEn_CTL_ARMED n) hlow hhigh)).trans (harmed.trans (hbit 30 (by decide) (by decide)))

/-! ### Cache errors (R500) -/

/-- The count of a Dale's cache errors. -/
def cacheCount (n : Nat) (unc : Bool) : Fld := if unc then F.HLT_DALEn_ERRCNT_UNC n else F.HLT_DALEn_ERRCNT_CORR n

theorem cacheCount_addr (n : Nat) (unc : Bool) : (cacheCount n unc).addr = Reg.HLT_DALEn_ERRCNT n ∧ (cacheCount n unc).hi < 32 := by
  cases unc
  · exact ⟨rfl, by show 15 < 32; decide⟩
  · exact ⟨rfl, by show 31 < 32; decide⟩

theorem execDaleCacheError_counts (s : State) (n core : Nat) (unc tagState : Bool) (hbed : s.bedOn = true) (hcan : s.canopyOn = true) (hn : n < 2) (hcore : core < 8)
    (hst : s.daleState n = 1) :
    Completes (.daleCacheError n core unc tagState) s (fun t => t.rd (if unc then F.HLT_DALEn_ERRCNT_UNC n else F.HLT_DALEn_ERRCNT_CORR n) = min (s.rd (if unc then F.HLT_DALEn_ERRCNT_UNC n else F.HLT_DALEn_ERRCNT_CORR n) + 1) (maxOf (if unc then F.HLT_DALEn_ERRCNT_UNC n else F.HLT_DALEn_ERRCNT_CORR n).width) ∧
      (unc && tagState → t.daleState n = 2 ∧ t.rd (F.HLT_DALEn_STAT_FCAUSE n) = 5)) := by
  obtain ⟨haddr, hhi⟩ := cacheCount_addr n unc
  obtain ⟨-, -, -, -, -, he, -, -, he'⟩ := dale_addr n
  have hexec : exec (.daleCacheError n core unc tagState) s = .next (if unc && tagState then (s.inc (cacheCount n unc)).daleFault n 5
      else (s.inc (cacheCount n unc)).triggerTest (3 * 2 ^ 28 + n * 2 ^ 16 + core)) :=
    congrArg Host.Outcome.next (if_neg (by rw [hbed, hcan, hst]; simp; omega))
  have hcnt : (s.inc (cacheCount n unc)).rd (cacheCount n unc) = min (s.rd (cacheCount n unc) + 1) (maxOf (cacheCount n unc).width) := s.rd_inc_same hhi
  have hst' : (s.inc (cacheCount n unc)).daleState n = 1 := by
    refine (State.rd_wr_other _ _ (f := cacheCount n unc) ?_).trans hst
    rw [haddr]
    show Reg.HLT_DALEn_STAT n ≠ Reg.HLT_DALEn_ERRCNT n
    unfold Reg.HLT_DALEn_STAT Reg.HLT_DALEn_ERRCNT
    omega
  change Completes _ s (fun t => t.rd (cacheCount n unc) = min (s.rd (cacheCount n unc) + 1) (maxOf (cacheCount n unc).width) ∧ _)
  generalize s.inc (cacheCount n unc) = x at hexec hcnt hst'
  by_cases hfault : (unc && tagState) = true
  · rw [if_pos hfault] at hexec
    obtain ⟨h1, h2, -, -, h5, -⟩ := State.daleFault_shows hn (show 5 < 16 by decide) hst'
    exact ⟨_, hexec, (h5 _ haddr).trans hcnt, fun _ => ⟨h1, h2⟩⟩
  · rw [if_neg hfault] at hexec
    have htest : State.HealthTo endRegs x (x.triggerTest (3 * 2 ^ 28 + n * 2 ^ 16 + core)) :=
      .triggerTest (fun _ hx => .inl (testNoise_sub hx)) x (by unfold resClass; omega)
    exact ⟨_, hexec, (htest.dale (f := cacheCount n unc) (by rw [haddr]; exact he') (by rw [haddr]; exact he)).trans hcnt, fun h => absurd h hfault⟩

end Sys2Proof.Machine
end

section
/-! SUPPORT. Comparison channels (R502) and mirror regions (R504): a signature written, and a region enabled. -/

namespace Sys2Proof.Machine

/-! ### Comparison channels -/

/-- The register of a side of channel `k`. -/
def sideReg (k side : Nat) : Nat := if side = 0 then Reg.HLT_CMPk_A k else Reg.HLT_CMPk_B k

theorem sideReg_range (k side : Nat) : 0x3280 ≤ sideReg k side ∧ sideReg k side < 0x3300 := by
  unfold sideReg Reg.HLT_CMPk_A Reg.HLT_CMPk_B
  split <;> omega

/-- What tests, flags and events keep of the comparison registers. -/
theorem State.HealthTo.sideReg {s t : State} (h : State.HealthTo testNoise s t) (k side : Nat) : t.reg (sideReg k side) = s.reg (sideReg k side) := by
  obtain ⟨hlow, hhigh⟩ := sideReg_range k side
  refine h.reg _ fun hfree => ?_
  unfold healthFree testNoise Reg.HLT_STAT Reg.HLT_TESTQ Reg.HLT_UNTESTED at hfree
  simp only [Set.mem_ofPred_eq] at hfree
  omega

/-- A channel that closes on different signatures: the miss, the event, and a test of the Dale that does not carry. -/
def State.missed (s : State) (k : Nat) : State :=
  let t := (s.wr ⟨Reg.HLT_CMPSTAT, 16 + k, 16 + k⟩ 1).flagDale F.HLT_STAT_CMP F.HLT_CTL_IE_DALE
  match t.carryIdx with
  | some c => (t.hltEvent 5 k 0 (daleRes (1 - c)) none).triggerTest (daleRes (1 - c))
  | none => t.hltEvent 5 k 0 0 none

theorem State.missed_keeps (s : State) (k side : Nat) : (s.missed k).resp = s.resp ∧ (s.missed k).reg (sideReg k side) = s.reg (sideReg k side) := by
  have hside := sideReg_range k side
  have hne : sideReg k side ≠ Reg.HLT_CMPSTAT := fun e => absurd (e ▸ hside.1) (by decide)
  have hmiss : (s.wr ⟨Reg.HLT_CMPSTAT, 16 + k, 16 + k⟩ 1).reg (sideReg k side) = s.reg (sideReg k side) := s.reg_wr_other _ hne
  have hresp : (s.wr ⟨Reg.HLT_CMPSTAT, 16 + k, 16 + k⟩ 1).resp = s.resp := rfl
  unfold State.missed
  generalize s.wr ⟨Reg.HLT_CMPSTAT, 16 + k, 16 + k⟩ 1 = x at hmiss hresp
  extract_lets t
  have ht : State.HealthTo testNoise x t := .flagDale x (stat := F.HLT_STAT_CMP) _ (State.HealthTo.noise_stat fun _ h => h)
  have ht' : State.SysTo x t := .of_affectsNone (.flagDale (S := ∅) x (stat := F.HLT_STAT_CMP) _ (.inr (.inl rfl)))
  clear_value t
  have hlast (y : State) (h : State.HealthTo testNoise t y) (h' : State.SysTo t y) : y.resp = s.resp ∧ y.reg (sideReg k side) = s.reg (sideReg k side) :=
    ⟨((ht'.trans h').part State.resp fun _ _ => rfl).trans hresp, ((ht.trans h).sideReg k side).trans hmiss⟩
  split
  · next c _ => exact hlast _ ((State.HealthTo.hltEvent _ _ _ _ _ _).trans (.triggerTest (fun _ h => h) _ (daleRes_class (by omega)))) ((State.SysTo.hltEvent _ _ _ _ _ _).trans (.of_affectsNone (.triggerTest _ _)))
  · exact hlast _ (.hltEvent _ _ _ _ _ _) (.hltEvent _ _ _ _ _ _)

/-- The two sides of a closed channel are compared. -/
def State.closed (s : State) (k : Nat) : State :=
  let t := (s.setHlt { s.hlt with half := SMap.set (fun _ => 0) s.hlt.half k 0 }).wr ⟨Reg.HLT_CMPSTAT, k, k⟩ 0
  if t.reg (Reg.HLT_CMPk_A k) = t.reg (Reg.HLT_CMPk_B k) then t.inc F.HLT_CMPCNT_CNT else t.missed k

/-- A channel with one side written waits for the other. -/
def State.halved (s : State) (k h : Nat) : State := (s.setHlt { s.hlt with half := SMap.set (fun _ => 0) s.hlt.half k h }).wr ⟨Reg.HLT_CMPSTAT, k, k⟩ 1

theorem State.compare_eq (s : State) (k side : Nat) (v : W32) : s.compare k side v =
    if SMap.get (fun _ => 0) s.hlt.half k ||| (side + 1) = 3 then (s.setReg (sideReg k side) v).closed k
    else (s.setReg (sideReg k side) v).halved k (SMap.get (fun _ => 0) s.hlt.half k ||| (side + 1)) := rfl

theorem State.reg_setHlt_wr (s : State) (x : Health) (f : Fld) (n : Nat) {k : Nat} (h : k ≠ f.addr) : ((s.setHlt x).wr f n).reg k = s.reg k := State.reg_wr_other _ _ h

theorem State.halved_shows (s : State) {k : Nat} (h : Nat) (hk : k < 16) (side : Nat) : (s.halved k h).resp = s.resp ∧
    (s.halved k h).reg (sideReg k side) = s.reg (sideReg k side) ∧ (s.halved k h).on ⟨Reg.HLT_CMPSTAT, k, k⟩ = true := by
  have hne : sideReg k side ≠ Reg.HLT_CMPSTAT := fun e => absurd (e ▸ (sideReg_range k side).1) (by decide)
  refine ⟨rfl, s.reg_setHlt_wr _ _ _ hne, decide_eq_true ((State.rd_wr_same _ ⟨Reg.HLT_CMPSTAT, k, k⟩ 1 (by show k < 32; omega)).trans ?_)⟩
  show 1 % 2 ^ (k + 1 - k) = 1
  rw [show k + 1 - k = 1 by omega]
  decide

theorem State.closed_shows (s : State) (k side : Nat) : (s.closed k).resp = s.resp ∧ (s.closed k).reg (sideReg k side) = s.reg (sideReg k side) ∧
    (s.reg (Reg.HLT_CMPk_A k) = s.reg (Reg.HLT_CMPk_B k) → (s.closed k).rd F.HLT_CMPCNT_CNT = min (s.rd F.HLT_CMPCNT_CNT + 1) (maxOf F.HLT_CMPCNT_CNT.width)) := by
  have hne (i : Nat) : sideReg k i ≠ Reg.HLT_CMPSTAT := fun e => absurd (e ▸ (sideReg_range k i).1) (by decide)
  have hreg (j : Nat) (hj : j ≠ Reg.HLT_CMPSTAT) : ((s.setHlt { s.hlt with half := SMap.set (fun _ => 0) s.hlt.half k 0 }).wr ⟨Reg.HLT_CMPSTAT, k, k⟩ 0).reg j = s.reg j :=
    s.reg_setHlt_wr _ _ _ hj
  have hresp : ((s.setHlt { s.hlt with half := SMap.set (fun _ => 0) s.hlt.half k 0 }).wr ⟨Reg.HLT_CMPSTAT, k, k⟩ 0).resp = s.resp := rfl
  unfold State.closed
  generalize (s.setHlt { s.hlt with half := SMap.set (fun _ => 0) s.hlt.half k 0 }).wr ⟨Reg.HLT_CMPSTAT, k, k⟩ 0 = t at hreg hresp
  have hA : t.reg (Reg.HLT_CMPk_A k) = s.reg (Reg.HLT_CMPk_A k) := hreg _ (hne 0)
  have hB : t.reg (Reg.HLT_CMPk_B k) = s.reg (Reg.HLT_CMPk_B k) := hreg _ (hne 1)
  have hcnt : t.rd F.HLT_CMPCNT_CNT = s.rd F.HLT_CMPCNT_CNT := State.rd_congr (f := F.HLT_CMPCNT_CNT) (hreg _ (by decide))
  dsimp only
  rw [hA, hB]
  by_cases heq : s.reg (Reg.HLT_CMPk_A k) = s.reg (Reg.HLT_CMPk_B k)
  · rw [if_pos heq]
    have hne' : sideReg k side ≠ Reg.HLT_CMPCNT := fun e => absurd (e ▸ (sideReg_range k side).1) (by decide)
    refine ⟨hresp, (t.reg_wr_other (f := F.HLT_CMPCNT_CNT) _ hne').trans (hreg _ (hne side)), fun _ => ?_⟩
    rw [← hcnt]
    exact t.rd_inc_same (by decide)
  · rw [if_neg heq]
    obtain ⟨hr, hs⟩ := t.missed_keeps k side
    exact ⟨hr.trans hresp, hs.trans (hreg _ (hne side)), fun h => absurd h heq⟩

theorem State.compare_shows (s : State) {k side : Nat} (v : W32) (hk : k < 16) (hside : side < 2) : (s.compare k side v).resp = s.resp ∧
    (s.compare k side v).reg (sideReg k side) = v ∧ (SMap.get (fun _ => 0) s.hlt.half k = 0 → (s.compare k side v).on ⟨Reg.HLT_CMPSTAT, k, k⟩ = true) ∧
    (side = 0 → SMap.get (fun _ => 0) s.hlt.half k = 2 → s.reg (Reg.HLT_CMPk_B k) = v →
      (s.compare k side v).rd F.HLT_CMPCNT_CNT = min (s.rd F.HLT_CMPCNT_CNT + 1) (maxOf F.HLT_CMPCNT_CNT.width)) := by
  have hset : (s.setReg (sideReg k side) v).reg (sideReg k side) = v := s.reg_setReg_same _ _
  have hresp : (s.setReg (sideReg k side) v).resp = s.resp := rfl
  have hcnt : (s.setReg (sideReg k side) v).rd F.HLT_CMPCNT_CNT = s.rd F.HLT_CMPCNT_CNT :=
    State.rd_congr (f := F.HLT_CMPCNT_CNT) (s.reg_setReg_other _ fun e => absurd (e ▸ (sideReg_range k side).1) (by decide))
  have hB : side = 0 → (s.setReg (sideReg k side) v).reg (Reg.HLT_CMPk_B k) = s.reg (Reg.HLT_CMPk_B k) := by
    rintro rfl
    refine s.reg_setReg_other _ ?_
    show Reg.HLT_CMPk_B k ≠ Reg.HLT_CMPk_A k
    unfold Reg.HLT_CMPk_A Reg.HLT_CMPk_B
    omega
  rw [State.compare_eq]
  generalize s.setReg (sideReg k side) v = x at hset hresp hcnt hB
  by_cases hall : SMap.get (fun _ => 0) s.hlt.half k ||| (side + 1) = 3
  · rw [if_pos hall]
    obtain ⟨hr, hs, heq⟩ := x.closed_shows k side
    refine ⟨hr.trans hresp, hs.trans hset, fun h0 => ?_, fun h0 _ hv => ?_⟩
    · rw [h0, Nat.zero_or] at hall
      omega
    · have hA : x.reg (Reg.HLT_CMPk_A k) = v := by
        subst h0
        exact hset
      rw [heq (hA.trans (hv.symm.trans (hB h0).symm)), hcnt]
  · rw [if_neg hall]
    obtain ⟨hr, hs, hon⟩ := x.halved_shows (SMap.get (fun _ => 0) s.hlt.half k ||| (side + 1)) hk side
    refine ⟨hr.trans hresp, hs.trans hset, fun _ => hon, fun h0 h2 _ => absurd ?_ hall⟩
    rw [h0, h2]
    decide

theorem execComparisonWrite_compares (s : State) (ag : Agent) (k : Nat) (v : W32) (hk : k < 16)
    (hacc : s.accepts ag 0x03 (0x280 + 8 * k + 4 * (if ag = .daleB then 1 else 0)) = true) :
    Completes (.comparisonWrite ag k v) s (fun t => t.resp = .done ∧ t.reg (if ag = .daleB then Reg.HLT_CMPk_B k else Reg.HLT_CMPk_A k) = v ∧ (SMap.get (fun _ => 0) s.hlt.half k = 0 → t.on ⟨Reg.HLT_CMPSTAT, k, k⟩ = true) ∧
      (ag ≠ .daleB → SMap.get (fun _ => 0) s.hlt.half k = 2 → s.reg (Reg.HLT_CMPk_B k) = v → t.rd F.HLT_CMPCNT_CNT = min (s.rd F.HLT_CMPCNT_CNT + 1) (maxOf F.HLT_CMPCNT_CNT.width))) := by
  have hexec : exec (.comparisonWrite ag k v) s = .next (s.done.compare k (if ag = .daleB then 1 else 0) v) :=
    congrArg Host.Outcome.next ((if_pos hk).trans (State.gate_accepts _ hacc))
  obtain ⟨hresp, hreg, hhalf, hcnt⟩ := s.done.compare_shows (side := if ag = .daleB then 1 else 0) v hk (by split <;> decide)
  have hkey : (if ag = .daleB then Reg.HLT_CMPk_B k else Reg.HLT_CMPk_A k) = sideReg k (if ag = .daleB then 1 else 0) := by
    by_cases h : ag = .daleB
    · rw [if_pos h, if_pos h]
      rfl
    · rw [if_neg h, if_neg h]
      rfl
  exact ⟨_, hexec, hresp.trans rfl, hkey ▸ hreg, hhalf, fun h => hcnt (if_neg h)⟩

end Sys2Proof.Machine
end

section
/-! SUPPORT. A mirror region enabled (R504): its registers, the mirrors in force and the copy that ends. -/

namespace Sys2Proof.Machine

/-- The description of the HLT_MIRn_CFG registers. -/
def mirCfgDesc : RegDesc := ⟨0x108, [(0x10, 16)], [.mkAny .rwp 31 31 0x0, .mkAny .rwp 30 30 0x1, ⟨13, 0, .rwp, .rng 1 16384, 0x1, none⟩]⟩

theorem findReg_mirCfg (n : Nat) : findReg (Reg.HLT_MIRn_CFG n / 0x1000) (Reg.HLT_MIRn_CFG n % 0x1000) = some mirCfgDesc := by
  have h : ∀ i : Fin 16, findReg ((0x3108 + 0x10 * i.val) / 0x1000) ((0x3108 + 0x10 * i.val) % 0x1000) = some mirCfgDesc := by decide
  exact h ⟨n % 16, Nat.mod_lt _ (by decide)⟩

theorem mirCfgDesc_fieldsApart : mirCfgDesc.fieldsApart := by
  unfold RegDesc.fieldsApart
  decide

/-- A write of HLT_MIRn_CFG sets EN. -/
theorem State.applyWrite_mirEn (s : State) (n : Nat) (v : W32) : (s.applyWrite (Reg.HLT_MIRn_CFG n) v).rd (F.HLT_MIRn_CFG_EN n) = getBits v 31 31 :=
  s.getBits_applyWrite (f := .mkAny .rwp 31 31 0x0) v (findReg_mirCfg n) mirCfgDesc_fieldsApart (by decide) rfl

/-! ### Synchronising -/

theorem mir_apart (n : Nat) : Reg.HLT_MIRn_STAT n ≠ Reg.HLT_MIRCTL ∧ Reg.HLT_MIRn_CFG n ≠ Reg.HLT_MIRCTL ∧ Reg.HLT_MIRn_CFG n ≠ Reg.HLT_MIRn_STAT n := by
  unfold Reg.HLT_MIRn_STAT Reg.HLT_MIRn_CFG Reg.HLT_MIRCTL
  omega

theorem State.mirSync_shows (s : State) (n : Nat) (v : Bool) : (s.mirSync n v).on (F.HLT_MIRn_STAT_SYNC n) = v ∧
    (s.mirSync n v).on (F.HLT_MIRn_CFG_EN n) = s.on (F.HLT_MIRn_CFG_EN n) ∧ (s.mirSync n v).resp = s.resp ∧ (s.mirSync n v).canopyOn = s.canopyOn ∧ (s.mirSync n v).hlt = s.hlt := by
  obtain ⟨h1, h2, h3⟩ := mir_apart n
  refine ⟨?_, ?_, rfl, rfl, rfl⟩
  · have hsame : (s.mirSync n v).rd (F.HLT_MIRn_STAT_SYNC n) = (if v then 1 else 0) % 2 :=
      (State.rd_wr_other _ _ (f := ⟨Reg.HLT_MIRCTL, n, n⟩) h1).trans (s.rd_wr_same (F.HLT_MIRn_STAT_SYNC n) _ (by show 31 < 32; decide))
    unfold State.on
    rw [hsame]
    cases v <;> rfl
  · exact State.on_congr (f := F.HLT_MIRn_CFG_EN n) ((State.rd_wr_other _ _ (f := ⟨Reg.HLT_MIRCTL, n, n⟩) h2).trans (State.rd_wr_other _ _ (f := F.HLT_MIRn_STAT_SYNC n) h3))

/-- What the end of a copy stores. -/
def State.mirCopied (s : State) (m : Fin 16 × Nat × Nat × Nat) : State :=
  (s.mem.poison.filter (fun g => decide (m.2.1 ≤ g) && decide (g < m.2.1 + m.2.2.2))).foldl
    (fun x g => { x with mem := x.mem.mark (m.2.2.1 + (g - m.2.1)) true }) (s.storeOne m.2.2.1 (s.mem.readBytes m.2.1 m.2.2.2) false)

theorem State.mirCopied_keeps (s : State) (m : Fin 16 × Nat × Nat × Nat) : (s.mirCopied m).resp = s.resp ∧ ∀ f : Fld, (s.mirCopied m).on f = s.on f := by
  have hstore : (s.storeOne m.2.2.1 (s.mem.readBytes m.2.1 m.2.2.2) false).resp = s.resp ∧ ∀ f : Fld, (s.storeOne m.2.2.1 (s.mem.readBytes m.2.1 m.2.2.2) false).on f = s.on f := by
    unfold State.storeOne State.reencode
    split <;> exact ⟨rfl, fun _ => rfl⟩
  exact List.foldlRecOn (motive := fun x : State => x.resp = s.resp ∧ ∀ f : Fld, x.on f = s.on f) _ _ hstore fun _ hx _ _ => hx

theorem State.mirFinish_shows {s : State} {n : Nat} (h : (s.hlt.mirrors.find? (fun m => decide (m.1.val = n))).isSome = true) :
    (s.mirFinish n).on (F.HLT_MIRn_STAT_SYNC n) = false ∧ (s.mirFinish n).on (F.HLT_MIRn_CFG_EN n) = s.on (F.HLT_MIRn_CFG_EN n) ∧ (s.mirFinish n).resp = s.resp := by
  obtain ⟨m, hm⟩ := Option.isSome_iff_exists.mp h
  have heq : s.mirFinish n = ((s.mirCopied m).mirSync n false).setHlt { (s.mirCopied m).hlt with syncEnd := s.now } := by
    unfold State.mirFinish
    rw [hm]
    rfl
  obtain ⟨hresp, hon⟩ := s.mirCopied_keeps m
  rw [heq]
  generalize s.mirCopied m = x at hresp hon
  obtain ⟨hsync, hen, hr, -, -⟩ := x.mirSync_shows n false
  generalize x.mirSync n false = y at hsync hen hr
  exact ⟨((y.setHlt_tokens _).2 _).trans hsync, ((y.setHlt_tokens _).2 _).trans (hen.trans (hon _)), hr.trans hresp⟩

/-- An enabled region is in force. -/
theorem State.mirRefresh_has {s : State} {n : Nat} (hn : n < 16) (h : s.on (F.HLT_MIRn_CFG_EN n) = true) :
    (s.mirRefresh.hlt.mirrors.find? (fun m => decide (m.1.val = n))).isSome = true := by
  refine List.find?_isSome.mpr ⟨_, List.mem_map.mpr ⟨⟨n, hn⟩, List.mem_filter.mpr ⟨List.mem_finRange _, h⟩, rfl⟩, ?_⟩
  dsimp only
  split <;> exact decide_eq_true rfl

/-! ### Enabling -/

/-- The region as its enabling leaves it, before its copy has ended. -/
def State.mirStarted (s : State) (n : Nat) (v : W32) : State := (s.applyWrite (Reg.HLT_MIRn_CFG n) v).mirRefresh.mirSync n true

theorem State.mirStarted_shows (s : State) {n : Nat} {v : W32} (hn : n < 16) (hv : getBits v 31 31 = 1) : (s.mirStarted n v).on (F.HLT_MIRn_STAT_SYNC n) = true ∧
    (s.mirStarted n v).on (F.HLT_MIRn_CFG_EN n) = true ∧ (s.mirStarted n v).resp = s.resp ∧ (s.mirStarted n v).canopyOn = s.canopyOn ∧
    ((s.mirStarted n v).hlt.mirrors.find? (fun m => decide (m.1.val = n))).isSome = true := by
  have hen : (s.applyWrite (Reg.HLT_MIRn_CFG n) v).on (F.HLT_MIRn_CFG_EN n) = true := decide_eq_true ((s.applyWrite_mirEn n v).trans hv)
  have hresp := s.applyWrite_resp (Reg.HLT_MIRn_CFG n) v
  have hcan : (s.applyWrite (Reg.HLT_MIRn_CFG n) v).canopyOn = s.canopyOn := by rw [s.applyWrite_eq (Reg.HLT_MIRn_CFG n) v]
  unfold State.mirStarted
  generalize s.applyWrite (Reg.HLT_MIRn_CFG n) v = x at hen hresp hcan
  have hhas := State.mirRefresh_has hn hen
  have hrefresh : x.mirRefresh.on (F.HLT_MIRn_CFG_EN n) = true ∧ x.mirRefresh.resp = x.resp ∧ x.mirRefresh.canopyOn = x.canopyOn := ⟨hen, rfl, rfl⟩
  generalize x.mirRefresh = y at hhas hrefresh
  obtain ⟨hen', hresp', hcan'⟩ := hrefresh
  obtain ⟨h1, h2, h3, h4, h5⟩ := y.mirSync_shows n true
  exact ⟨h1, h2.trans hen', h3.trans (hresp'.trans hresp), h4.trans (hcan'.trans hcan), h5 ▸ hhas⟩

theorem State.mirCfgWrite_enables {s : State} {n : Nat} {v : W32} (finish : Bool) (hoff : s.on (F.HLT_MIRn_CFG_EN n) = false) (hv : getBits v 31 31 = 1)
    (hsize : 1 ≤ getBits v 13 0) (hsrc : s.mirSrc n + getBits v 13 0 * 65536 ≤ s.code.dramSize) (hcopy : s.mirCopy n + getBits v 13 0 * 65536 ≤ s.code.dramSize)
    (hover : s.mirOverlaps n (getBits v 13 0 * 65536) = false) : s.mirCfgWrite n v finish =
      if finish = true ∧ (s.mirStarted n v).on (F.HLT_MIRn_STAT_SYNC n) = true ∧ (s.mirStarted n v).canopyOn = true then (s.mirStarted n v).mirFinish n else s.mirStarted n v := by
  have hmax : getBits v 13 0 ≤ 16384 := (getBits_lt v 13 0).le
  unfold State.mirCfgWrite
  dsimp only
  rw [hoff, if_neg (fun h => absurd h.1 (by decide)), if_neg (by omega), if_neg (fun h => by rw [h.2.2.symm]; exact ⟨hsrc, hcopy⟩),
    if_neg (by rw [hover]; exact fun h => absurd h.2.2 (by decide)), if_pos hv, if_neg (show ¬ (false = true) by decide)]
  rfl

theorem execMirrorRegionEnable_enables (s : State) (ag : Agent) (n : Nat) (v : W32) (finish : Bool) (hn : n < 16) (hacc : s.accepts ag 0x03 (0x108 + 0x10 * n) = true)
    (hoff : s.on (F.HLT_MIRn_CFG_EN n) = false) (hv : v.getLsbD 31 = true) (hsize : 1 ≤ v.toNat % 2 ^ 14)
    (hsrc : s.mirSrc n + v.toNat % 2 ^ 14 * 65536 ≤ s.code.dramSize) (hcopy : s.mirCopy n + v.toNat % 2 ^ 14 * 65536 ≤ s.code.dramSize)
    (hover : s.mirOverlaps n (v.toNat % 2 ^ 14 * 65536) = false) :
    Completes (.mirrorRegionEnable ag n v finish) s (fun t => t.resp = .done ∧ t.on (F.HLT_MIRn_CFG_EN n) = true ∧ t.on (F.HLT_MIRn_STAT_SYNC n) = !(finish && s.canopyOn)) := by
  have hbits : getBits v 13 0 = v.toNat % 2 ^ 14 := rfl
  have hon : getBits v 31 31 = 1 := of_decide_eq_true ((getBits_bit v 31).trans hv)
  have hwrite : s.done.mirCfgWrite n v finish = _ := State.mirCfgWrite_enables (s := s.done) finish hoff hon (hbits ▸ hsize) (hbits ▸ hsrc) (hbits ▸ hcopy) (hbits ▸ hover)
  have hexec : exec (.mirrorRegionEnable ag n v finish) s = .next (s.done.mirCfgWrite n v finish) :=
    congrArg Host.Outcome.next ((if_pos hn).trans (State.gate_accepts _ hacc))
  obtain ⟨hsync, hen, hresp, hcan, hhas⟩ := s.done.mirStarted_shows hn hon
  rw [hwrite, hsync] at hexec
  generalize s.done.mirStarted n v = x at hexec hsync hen hresp hcan hhas
  have hcan' : x.canopyOn = s.canopyOn := hcan
  have hresp' : x.resp = .done := hresp
  rw [hcan'] at hexec
  refine ⟨_, hexec, ?_⟩
  by_cases hend : finish = true ∧ s.canopyOn = true
  · obtain ⟨h1, h2, h3⟩ := State.mirFinish_shows hhas
    rw [if_pos ⟨hend.1, rfl, hend.2⟩, hend.1, hend.2]
    exact ⟨h3.trans hresp', h2.trans hen, h1⟩
  · have hnot : (finish && s.canopyOn) = false := by
      rw [Bool.eq_false_iff]
      exact fun h => hend ((Bool.and_eq_true _ _).mp h)
    rw [if_neg fun h => hend ⟨h.1, h.2.2⟩, hnot]
    exact ⟨hresp', hen, hsync⟩

end Sys2Proof.Machine
end

section
/-! SUPPORT. A token given back (R511, R516): nobody holds it while nobody waits for it, whatever goes on then. -/

namespace Sys2Proof.Machine

/-! ### A token nobody holds -/

/-- Nobody holds token `c`; where it is MEM's, nobody waits for it. -/
def State.tokFree (s : State) (c : Nat) : Prop := s.rd (F.HLT_TOKc_HELD c) = 0 ∧ (c = 0 → (s.token 0).waits = [])

/-- Token `c` as MEM uses its own: held by nobody, or MEM's with nobody waiting. -/
def State.tokSpare (s : State) (c : Nat) : Prop := (c ≠ 0 → s.rd (F.HLT_TOKc_HELD c) = 0) ∧ (c = 0 → (s.token 0).waits = [])

theorem tok_addr (c : Nat) : Reg.HLT_TOKc c / 0x1000 = 3 ∧ 0x3200 ≤ Reg.HLT_TOKc c := by
  unfold Reg.HLT_TOKc
  omega

/-- The register of token `c` is none of MEM's token's. -/
theorem tok_apart {c : Nat} (hc : c < 8) (h0 : c ≠ 0) : Reg.HLT_TOKc c ∉ tokNoise 0 := by
  unfold tokNoise Reg.HLT_TOKc Reg.HLT_TOKc_SINCE Reg.HLT_TOKWAIT
  simp only [Set.mem_ofPred_eq, not_or]
  omega

theorem State.HealthTo.tokHeld {S : Set Nat} {s t : State} (h : State.HealthTo S s t) {c : Nat} (hS : Reg.HLT_TOKc c ∉ S) :
    t.rd (F.HLT_TOKc_HELD c) = s.rd (F.HLT_TOKc_HELD c) :=
  h.rd (f := F.HLT_TOKc_HELD c) (tok_addr c).1 (fun hm => absurd hm.2 (Nat.not_lt.mpr (tok_addr c).2)) hS

theorem State.token_congr {s t : State} (h : t.toks = s.toks) (c : Nat) : t.token c = s.token c := by
  unfold State.token
  rw [h]

theorem tok_not_test (c : Nat) : Reg.HLT_TOKc c ∉ testNoise ∧ Reg.HLT_TOKWAIT ∉ testNoise := by
  unfold testNoise Reg.HLT_TOKc Reg.HLT_TOKWAIT Reg.HLT_STAT Reg.HLT_TESTQ Reg.HLT_UNTESTED
  simp only [Set.mem_ofPred_eq, not_or]
  omega

/-- What MEM does between keeps the tokens. -/
theorem State.HealthTo.tokSpare {s t : State} (h : State.HealthTo testNoise s t) {c : Nat} (hs : s.tokSpare c) : t.tokSpare c :=
  ⟨fun h0 => (h.tokHeld (tok_not_test c).1).trans (hs.1 h0), fun h0 => (congrArg Token.waits (State.token_congr (h.toks (tok_not_test c).2) 0)).trans (hs.2 h0)⟩

theorem State.tokGive_none {s : State} {c : Nat} (h : (s.token c).waits = []) : (s.tokGive c).rd (F.HLT_TOKc_HELD c) = 0 ∧ ((s.tokGive c).token c).waits = [] := by
  refine ⟨(State.tokGive_frees h).1, ?_⟩
  unfold State.tokGive
  rw [h]
  dsimp only
  rw [State.token_setToken_same]

theorem State.tokSpare.given {s : State} {c : Nat} (hc : c < 8) (h : s.tokSpare c) : (s.tokGive 0).tokFree c := by
  by_cases h0 : c = 0
  · subst h0
    obtain ⟨hheld, hwaits⟩ := State.tokGive_none (h.2 rfl)
    exact ⟨hheld, fun _ => hwaits⟩
  · have hto := State.HealthTo.tokGive (S := tokNoise 0) (fun _ hx => hx) s
    exact ⟨(hto.tokHeld (tok_apart hc h0)).trans (h.1 h0), fun h => absurd h h0⟩

theorem State.tokFree.asked {s : State} {c : Nat} (hc : c < 8) (h : s.tokFree c) (owner : Nat) {act : Nat} (hact : act ≠ 0xC) :
    (s.tokAsk 0 owner act).1.tokSpare c ∧ ((s.tokAsk 0 owner act).2 = false → (s.tokAsk 0 owner act).1.tokFree c) := by
  by_cases h0 : c = 0
  · subst h0
    have hoff : s.on (F.HLT_TOKc_HELD 0) = false := decide_eq_false (by rw [h.1]; decide)
    obtain ⟨hgot, -, hwaits⟩ := State.tokAsk_granted (owner := owner) hoff hact
    exact ⟨⟨fun hx => absurd rfl hx, fun _ => hwaits.trans (h.2 rfl)⟩, fun hx => absurd (hgot.symm.trans hx) (by decide)⟩
  · have hto := State.HealthTo.tokAsk (S := tokNoise 0) (fun _ hx => hx) s owner act
    have hheld := (hto.tokHeld (tok_apart hc h0)).trans h.1
    exact ⟨⟨fun _ => hheld, fun hx => absurd hx h0⟩, fun _ => ⟨hheld, fun hx => absurd hx h0⟩⟩

/-! ### What goes on -/

theorem State.lineGo_tokFree {s : State} {c : Nat} (hc : c < 8) (h : s.tokFree c) : s.lineGo.tokFree c := by
  unfold State.lineGo
  split
  · exact h
  · next x _ =>
    obtain ⟨hspare, hfree⟩ := h.asked hc ownerMem (act := 2) (by decide)
    dsimp only
    generalize s.tokAsk 0 ownerMem 2 = r at hspare hfree
    split
    · next hr => exact hfree hr
    · have hrun : State.HealthTo testNoise r.1 (({ r.1.lineRun x with dram := { (r.1.lineRun x).dram with cmd := none } } : State).wr F.MEM_LINECMD_BUSY 0) :=
        (((State.KeepsTo.lineRun (fun _ hx => hx) r.1 x).trans (.withDram _ _)).trans (.wr _ (f := F.MEM_LINECMD_BUSY) _ rfl)).health
      exact (hrun.tokSpare hspare).given hc

theorem State.scrubGo_tokFree {s : State} {c : Nat} (hc : c < 8) (h : s.tokFree c) : s.scrubGo.tokFree c := by
  unfold State.scrubGo
  split
  · exact h
  · next v _ =>
    obtain ⟨hspare, hfree⟩ := h.asked hc ownerMem (act := 1) (by decide)
    dsimp only
    generalize s.tokAsk 0 ownerMem 1 = r at hspare hfree
    split
    · next hr => exact hfree hr
    · have hrun : State.HealthTo testNoise r.1 (({ r.1 with dram := { r.1.dram with scrub := none } } : State).applyWrite Reg.MEM_SCRUB v) :=
        ((State.KeepsTo.withDram r.1 _).trans (.applyScrub _ v)).health
      exact (hrun.tokSpare hspare).given hc

theorem State.memWaiting_tokFree {s : State} {c : Nat} (hc : c < 8) (h : s.tokFree c) : s.memWaiting.tokFree c := by
  unfold State.memWaiting
  split
  · exact State.scrubGo_tokFree hc (State.lineGo_tokFree hc h)
  · exact h

theorem State.SparesUpd.mbxRefuse (s : State) (a : Agent) (m cause : Nat) : State.SparesUpd s (s.mbxRefuse a m cause) := by
  have hfail (x : State) : State.SparesUpd x (x.failFor a) := by
    unfold State.failFor
    split <;> exact ⟨rfl, fun _ _ => rfl⟩
  exact ((((State.SparesUpd.wr s (f := F.MBX_STAT_CAUSE) _ (by decide)).trans (.wr _ (f := F.MBX_STAT_AGENT) _ (by decide))).trans (.wr _ (f := F.MBX_STAT_MBOX) _ (by decide))).trans
    (.inc _ (f := F.MBX_REJCNT_CNT) (by decide))).trans (hfail _)

theorem State.SparesUpd.mbxPost (s : State) (a : Agent) (id m : Nat) (v : W32) : State.SparesUpd s (s.mbxPost a id m v) := by
  obtain ⟨hs, hl, hh⟩ := State.SparesUpd.mbx_block m
  unfold State.mbxPost
  extract_lets lo ptr t
  have ht : State.SparesUpd s t :=
    ((((State.SparesUpd.setReg s _ hl).trans (.setReg _ _ hh)).trans (.wr _ (f := F.MBX_MnSTAT_FULL m) _ hs)).trans (.wr _ (f := F.MBX_MnSTAT_SRC m) _ hs)).trans (.mapBit _ m true (State.SparesUpd.full_block m).1)
  exact .ite _ (fun _ => .mbxRefuse s a m 1) fun _ => .ite _ (fun _ => .mbxRefuse s a m 2) fun _ => .ite _ (fun _ => .mbxRefuse s a m 3) fun _ =>
    .ite _ (fun _ => .mbxRefuse s a m 4) fun _ => .ite _ (fun _ => ht.trans (.irq _ _ _)) fun _ => ht

/-- A handover that takes its step 1. -/
theorem State.handGo_keeps (s : State) : State.KeepsTo {Reg.HLT_HOSTAT} s s.handGo := by
  have hprep (h : Handover) : State.KeepsTo {Reg.HLT_HOSTAT} s (s.handPrepare h) := by
    unfold State.handPrepare
    extract_lets _ t stage u
    have ht : State.KeepsTo {Reg.HLT_HOSTAT} s t := ⟨.withHand s _ rfl rfl rfl, rfl⟩
    have hu : State.KeepsTo {Reg.HLT_HOSTAT} t u := ⟨(show State.HealthTo {Reg.HLT_HOSTAT} t { t with mbxStage := SMap.set (fun _ => 0) stage 6 0 } from .beside (fun _ => rfl) rfl rfl).trans (.mbxPost _ _ _ _ _),
      (State.SparesUpd.mbxPost _ _ _ _ _).upd⟩
    clear_value u
    exact (ht.trans hu).trans ⟨.beside (fun _ => rfl) rfl rfl, rfl⟩
  unfold State.handGo
  split
  · split
    · exact hprep _
    · exact .refl s
  · exact .refl s

/-- Where no package runs, only a handover and MEM go on. -/
theorem State.afterHealth_quiet {s : State} (hrun : s.upd.run = none) : s.afterHealth = s.handGo.memWaiting :=
  State.updRun_idle ((congrArg Upd.run ((State.KeepsTo.memWaiting s.handGo).upd.trans s.handGo_keeps.upd)).trans hrun)

theorem State.handGo_tokFree {s : State} {c : Nat} (h : s.tokFree c) : s.handGo.tokFree c := by
  have hto := s.handGo_keeps.health
  have htok : Reg.HLT_TOKc c ∉ ({Reg.HLT_HOSTAT} : Set Nat) := by
    intro hx
    have hlow := (tok_addr c).2
    rw [Set.mem_singleton_iff.mp hx] at hlow
    exact absurd hlow (by decide)
  exact ⟨(hto.tokHeld htok).trans h.1, fun h0 => (congrArg Token.waits (State.token_congr (hto.toks fun hx => absurd (Set.mem_singleton_iff.mp hx) (by decide)) 0)).trans (h.2 h0)⟩

theorem State.afterHealth_tokFree {s : State} {c : Nat} (hrun : s.upd.run = none) (hc : c < 8) (h : s.tokFree c) : s.afterHealth.tokFree c := by
  rw [State.afterHealth_quiet hrun]
  exact State.memWaiting_tokFree hc (State.handGo_tokFree h)

theorem execTokgive_gives (s : State) (d : Desc) (hd : s.freshDesc 4 = some d) (hc : d.le 16 1 ≤ 7) (hrun : s.upd.run = none) (hnone : (s.token (d.le 16 1)).waits = []) :
    Completes (.tokgive) s (fun t => if s.holdsToken (d.le 16 1) s.ringOwner = false ∨ s.rd (F.HLT_TOKc_ACT (d.le 16 1)) ≠ 0xC then t = s.complete 66 d { status := 0x46 }
      else ¬(t.holdsToken (d.le 16 1) s.ringOwner = true ∧ t.rd (F.HLT_TOKc_ACT (d.le 16 1)) = 0xC)) := by
  have hexec : exec (.tokgive) s = .next (if s.holdsToken (d.le 16 1) s.ringOwner = false ∨ s.rd (F.HLT_TOKc_ACT (d.le 16 1)) ≠ 0xC then s.complete 66 d { status := 0x46 }
      else ((s.complete 66 d {}).tokGive (d.le 16 1)).afterHealth) := by
    show execTokgive s = _
    unfold execTokgive
    rw [hd]
    dsimp only
    rw [if_neg (by omega)]
  generalize d.le 16 1 = c at hexec hc hnone
  refine ⟨_, hexec, ?_⟩
  by_cases hnot : s.holdsToken c s.ringOwner = false ∨ s.rd (F.HLT_TOKc_ACT c) ≠ 0xC
  · beta_reduce
    rw [if_pos hnot, if_pos hnot]
  · beta_reduce
    rw [if_neg hnot, if_neg hnot]
    have hdone := State.KeepsTo.complete (S := ∅) s 66 d {}
    generalize s.complete 66 d {} = x at hdone
    obtain ⟨hheld, hwaits⟩ := State.tokGive_none ((congrArg Token.waits (State.token_congr (hdone.health.toks (Set.notMem_empty _)) c)).trans hnone)
    have hrun' : (x.tokGive c).upd.run = none := (congrArg Upd.run ((State.KeepsTo.tokGive (S := tokNoise c) (fun _ hx => hx) x).upd.trans hdone.upd)).trans hrun
    have hfree : (x.tokGive c).afterHealth.tokFree c := State.afterHealth_tokFree hrun' (by omega) ⟨hheld, fun h0 => h0 ▸ hwaits⟩
    rintro ⟨hholds, -⟩
    unfold State.holdsToken State.on at hholds
    rw [hfree.1] at hholds
    exact absurd hholds (by simp)

end Sys2Proof.Machine
end

section
/-! SUPPORT. A test of a Bed register judged (R496-R498), and the settling of O51. -/

namespace Sys2Proof.Machine

/-- The registers of a judged test beside its counts. -/
def State.testShown (s : State) (r c res : Nat) (passes : List (Nat × Nat)) : State :=
  let t := (((s.testedReg r).wr F.HLT_LASTTEST_CLASS c).wr F.HLT_LASTTEST_RESULT res).setReg Reg.HLT_LASTRES (BitVec.ofNat 32 r)
  t.setHlt { t.hlt with passes := passes }

/-- The counts of a test that passed, and what a lasting fault of a Bed register brings. -/
def State.testPassed (s : State) : State := (s.inc (F.HLT_TRANSc_CNT 2)).wideAdd Reg.HLT_TRANSCNT_LO 1
def State.testFailed (s : State) (res r part : Nat) : State :=
  ((((s.inc (F.HLT_LASTc_CNT 2)).inc F.HLT_LASTCNT_CNT).flagDale F.HLT_STAT_LASTING F.HLT_CTL_IE_LAST).hltEvent 1 2 res r (some (sevFault, r))).lastingAction r part

theorem State.testedReg_keeps (s : State) (r : Nat) : (s.testedReg r).hlt = s.hlt ∧ (s.testedReg r).upd = s.upd := by
  unfold State.testedReg
  dsimp only
  split
  · split <;> exact ⟨rfl, rfl⟩
  · exact ⟨rfl, rfl⟩

theorem State.testShown_shows (s : State) (r c : Nat) {res : Nat} (passes : List (Nat × Nat)) (hres : res < 16) :
    (s.testShown r c res passes).rd F.HLT_LASTTEST_RESULT = res ∧ (s.testShown r c res passes).hlt = { s.hlt with passes := passes } ∧ (s.testShown r c res passes).upd = s.upd := by
  obtain ⟨hhlt, hupd⟩ := s.testedReg_keeps r
  unfold State.testShown
  generalize s.testedReg r = x at hhlt hupd
  have hrd : (((x.wr F.HLT_LASTTEST_CLASS c).wr F.HLT_LASTTEST_RESULT res).setReg Reg.HLT_LASTRES (BitVec.ofNat 32 r)).rd F.HLT_LASTTEST_RESULT = res :=
    (State.rd_congr (f := F.HLT_LASTTEST_RESULT) (State.reg_setReg_other _ _ (by decide))).trans
      ((State.rd_wr_same _ F.HLT_LASTTEST_RESULT res (by decide)).trans (Nat.mod_eq_of_lt hres))
  have hhlt' : (((x.wr F.HLT_LASTTEST_CLASS c).wr F.HLT_LASTTEST_RESULT res).setReg Reg.HLT_LASTRES (BitVec.ofNat 32 r)).hlt = x.hlt := rfl
  have hupd' : (((x.wr F.HLT_LASTTEST_CLASS c).wr F.HLT_LASTTEST_RESULT res).setReg Reg.HLT_LASTRES (BitVec.ofNat 32 r)).upd = x.upd := rfl
  generalize ((x.wr F.HLT_LASTTEST_CLASS c).wr F.HLT_LASTTEST_RESULT res).setReg Reg.HLT_LASTRES (BitVec.ofNat 32 r) = y at hrd hhlt' hupd'
  obtain ⟨h1, h2, h3⟩ := y.setHlt_shows { y.hlt with passes := passes }
  exact ⟨(h2 _).trans hrd, h1.trans (by rw [hhlt', hhlt]), h3.trans (hupd'.trans hupd)⟩

/-- The registers that the counts of tests change. -/
def countRegs : Set Nat := {k | k ∈ healthNoise ∨ k = Reg.HLT_LASTCNT ∨ (0x3300 ≤ k ∧ k < 0x3340)}

theorem lasttest_not_counts : Reg.HLT_LASTTEST ∉ countRegs := by
  unfold countRegs healthNoise testNoise
  simp [Reg.HLT_LASTTEST, Reg.HLT_STAT, Reg.HLT_TESTQ, Reg.HLT_UNTESTED, Reg.HLT_TOKWAIT, Reg.HLT_LASTCNT]

theorem State.testPassed_keeps (s : State) : State.KeepsTo countRegs s s.testPassed :=
  (State.KeepsTo.wrFree s (f := F.HLT_TRANSc_CNT 2) _ (.inr (.inr (.inr (.inr (by decide)))))).trans ⟨.wideAdd _ _ _, rfl⟩

/-- A lasting fault of a Bed register counts in its block. -/
theorem State.testFailed_shows (s : State) {res r part : Nat} (hr : resClass r = 2) : (s.testFailed res r part).rd F.HLT_LASTTEST_RESULT = s.rd F.HLT_LASTTEST_RESULT ∧
    SMap.get (fun _ => 0) (s.testFailed res r part).hlt.lostRegs (r / 2 ^ 16 % 32) = SMap.get (fun _ => 0) s.hlt.lostRegs (r / 2 ^ 16 % 32) + 1 ∧ (s.testFailed res r part).upd = s.upd := by
  have hto : State.KeepsTo countRegs s ((((s.inc (F.HLT_LASTc_CNT 2)).inc F.HLT_LASTCNT_CNT).flagDale F.HLT_STAT_LASTING F.HLT_CTL_IE_LAST).hltEvent 1 2 res r (some (sevFault, r))) :=
    (((State.KeepsTo.wrFree s (f := F.HLT_LASTc_CNT 2) _ (.inr (.inr (.inr (.inr (by decide)))))).trans (.wrFree _ (f := F.HLT_LASTCNT_CNT) _ (.inr (.inr (.inr (.inl rfl)))))).trans
      (.flagDale _ (stat := F.HLT_STAT_LASTING) _ (.inr (.inr (.inl (.inl (.inl rfl))))))).trans (.hltEvent _ _ _ _ _ _)
  unfold State.testFailed
  generalize (((s.inc (F.HLT_LASTc_CNT 2)).inc F.HLT_LASTCNT_CNT).flagDale F.HLT_STAT_LASTING F.HLT_CTL_IE_LAST).hltEvent 1 2 res r (some (sevFault, r)) = x at hto
  have hb : r % 2 ^ 28 / 2 ^ 16 % 32 = r / 2 ^ 16 % 32 := by omega
  have hact : x.lastingAction r part = x.setHlt { x.hlt with lostRegs := SMap.set (fun _ => 0) x.hlt.lostRegs (r / 2 ^ 16 % 32) (SMap.get (fun _ => 0) x.hlt.lostRegs (r / 2 ^ 16 % 32) + 1) } := by
    unfold State.lastingAction
    rw [hr]
    dsimp only
    rw [hb]
    rfl
  rw [hact]
  obtain ⟨h1, h2, h3⟩ := x.setHlt_shows { x.hlt with lostRegs := SMap.set (fun _ => 0) x.hlt.lostRegs (r / 2 ^ 16 % 32) (SMap.get (fun _ => 0) x.hlt.lostRegs (r / 2 ^ 16 % 32) + 1) }
  refine ⟨(h2 _).trans (hto.health.rd (f := F.HLT_LASTTEST_RESULT) (by decide) (by decide) lasttest_not_counts), ?_, h3.trans hto.upd⟩
  rw [h1]
  dsimp only
  rw [SMap.get_set_same, hto.health.lost]

/-- A test of a Bed register judged while none has passed in the last hour. -/
theorem State.testResult_bed {s : State} {r part : Nat} (found : Bool) (hr : resClass r = 2) (hrep : 1 < s.rd F.HLT_CTL_REPEAT) (hnone : s.hlt.passes = []) :
    (s.testResult r part found).1.rd F.HLT_LASTTEST_RESULT = (if found = true then 2 else 1) ∧ (s.testResult r part found).1.upd = s.upd ∧
      (found = true → SMap.get (fun _ => 0) (s.testResult r part found).1.hlt.lostRegs (r / 2 ^ 16 % 32) = SMap.get (fun _ => 0) s.hlt.lostRegs (r / 2 ^ 16 % 32) + 1) := by
  have hrecent : s.recentPasses = [] := by
    unfold State.recentPasses
    rw [hnone]
    rfl
  unfold State.testResult
  dsimp only
  rw [hrecent, hr]
  have hagain : decide (s.rd F.HLT_CTL_REPEAT ≤ (List.filter (fun p => decide (p.1 = r)) ([] : List (Nat × Nat))).length + 1) = false := decide_eq_false (by
    show ¬ s.rd F.HLT_CTL_REPEAT ≤ 0 + 1
    omega)
  rw [hagain]
  cases found with
  | true =>
    obtain ⟨h1, h2, h3⟩ := s.testShown_shows r 2 (res := 2) [] (by decide)
    obtain ⟨f1, f2, f3⟩ := (s.testShown r 2 2 []).testFailed_shows (res := 2) (part := part) hr
    refine ⟨f1.trans h1, f3.trans h3, fun _ => f2.trans ?_⟩
    rw [h2]
  | false =>
    obtain ⟨h1, -, h3⟩ := s.testShown_shows r 2 (res := 1) [(r, s.now)] (by decide)
    have hk := (s.testShown r 2 1 [(r, s.now)]).testPassed_keeps
    exact ⟨(hk.health.rd (f := F.HLT_LASTTEST_RESULT) (by decide) (by decide) lasttest_not_counts).trans h1, hk.upd.trans h3, fun h => absurd h (by decide)⟩

/-- The queue without the tests of `r`. -/
def State.testLeft (s : State) (r : Nat) : State := s.setHlt { s.hlt with tests := s.hlt.tests.filter (fun t => decide (t.res ≠ r)) }

theorem State.testDone_shows (s : State) {r : Nat} (res : Nat) (hr : resClass r = 2) : (s.testDone r res).rd F.HLT_LASTTEST_RESULT = s.rd F.HLT_LASTTEST_RESULT ∧
    (s.testDone r res).hlt.lostRegs = s.hlt.lostRegs ∧ (s.testDone r res).upd = s.upd ∧ ∀ x ∈ (s.testDone r res).hlt.tests, x.res ≠ r := by
  have htests : ∀ x ∈ (s.testLeft r).hlt.tests, x.res ≠ r := fun x hx => of_decide_eq_true (List.mem_filter.mp hx).2
  have hlost : (s.testLeft r).hlt.lostRegs = s.hlt.lostRegs := rfl
  obtain ⟨-, hrd, hupd⟩ := s.setHlt_shows { s.hlt with tests := s.hlt.tests.filter (fun t => decide (t.res ≠ r)) }
  have hto : State.KeepsTo testNoise (s.testLeft r) (s.testDone r res) := by
    unfold State.testDone
    extract_lets ds _ t
    have ht : State.KeepsTo testNoise (s.testLeft r) t := ⟨.testRegs (fun _ h => h) _, rfl⟩
    exact ht.trans (.foldl _ (fun x d => .complete x 66 _ _) _ _)
  have hnot : Reg.HLT_LASTTEST ∉ testNoise := fun h => lasttest_not_counts (.inl (testNoise_sub h))
  exact ⟨(hto.health.rd (f := F.HLT_LASTTEST_RESULT) (by decide) (by decide) hnot).trans (hrd _), hto.health.lost.trans hlost, hto.upd.trans hupd, hto.health.tests r hr htests⟩

theorem execSelfTest_judges (s : State) (res : Nat) (found : Bool) (part : Nat) (bad : List Nat) (hbed : s.bedOn = true) (hclass : resClass res = 2)
    (hnext : s.nextTest 2 = some res) (hrun : s.upd.run = none) (hrep : 1 < s.rd F.HLT_CTL_REPEAT) (hnone : s.hlt.passes = []) :
    Completes (.selfTest res found part bad) s (fun t => t.rd F.HLT_LASTTEST_RESULT = (if found = true then 2 else 1) ∧ t.hlt.tests.all (fun x => decide (x.res ≠ res)) = true ∧
      (found = true → SMap.get (fun _ => 0) t.hlt.lostRegs (res / 2 ^ 16 % 32) = SMap.get (fun _ => 0) s.hlt.lostRegs (res / 2 ^ 16 % 32) + 1)) := by
  have htest : s.testable res = true := by
    unfold State.testable
    rw [if_pos (.inl hclass)]
    exact hbed
  have hany : s.hlt.tests.any (fun t => decide (t.res = res)) = true := by
    obtain ⟨x, hx, hres⟩ := Option.map_eq_some_iff.mp hnext
    exact List.any_eq_true.mpr ⟨x, List.mem_of_find?_eq_some hx, decide_eq_true hres⟩
  have hexec : exec (.selfTest res found part bad) s = .next ((s.testResult res part found).1.testDone res (s.testResult res part found).2).afterHealth := by
    show execSelfTest res found part bad s = _
    unfold execSelfTest
    rw [if_neg (by rw [htest, hany]; decide), if_neg (by rw [hclass]; exact fun h => absurd h.1 (by decide)), hclass, if_neg (fun h => h hnext),
      show classToken 2 = none from rfl]
    dsimp only
    rw [if_neg (show ¬ (true = false) by decide), if_neg (show ¬ (2 = 3) by decide)]
  obtain ⟨hrd, hupd, hlost⟩ := State.testResult_bed (part := part) found hclass hrep hnone
  generalize s.testResult res part found = r at hexec hrd hupd hlost
  obtain ⟨hrd', hlost', hupd', htests⟩ := r.1.testDone_shows r.2 hclass
  generalize r.1.testDone res r.2 = x at hexec hrd' hlost' hupd' htests
  rw [State.afterHealth_quiet ((congrArg Upd.run (hupd'.trans hupd)).trans hrun)] at hexec
  have hgo := x.handGo_keeps.health
  have hmem := (State.KeepsTo.memWaiting x.handGo).health
  have hnot : Reg.HLT_LASTTEST ∉ healthNoise := fun h => lasttest_not_counts (.inl h)
  have hnot' : Reg.HLT_LASTTEST ∉ ({Reg.HLT_HOSTAT} : Set Nat) := fun h => absurd (Set.mem_singleton_iff.mp h) (by decide)
  refine ⟨_, hexec, ?_, ?_, fun hf => ?_⟩
  · exact (hmem.rd (f := F.HLT_LASTTEST_RESULT) (by decide) (by decide) hnot).trans ((hgo.rd (f := F.HLT_LASTTEST_RESULT) (by decide) (by decide) hnot').trans (hrd'.trans hrd))
  · exact List.all_eq_true.mpr fun y hy => decide_eq_true (hmem.tests res hclass (hgo.tests res hclass htests) y hy)
  · rw [hmem.lost, hgo.lost, hlost']
    exact hlost hf

/-- Settles O51: every clause by the lemma that says what its command does. -/
theorem healthCommandsComplete : Obligations.HealthCommandsComplete :=
  ⟨execSelfTest_judges, execEngineCheckError_code, execEngineCheckError_engine, execHeartbeat_notes, execHeartbeatTimeout_faults, execDaleDeclareFail_faults,
    execDaleReadyWrite_writes, execDaleCacheError_counts, execComparisonWrite_compares, execMirrorRegionEnable_enables, execTestCmd_queues, execToktake_takes, execTokgive_gives,
    execTokenHeldOneHour_tells⟩

end Sys2Proof.Machine
end

section
/-! SUPPORT. The cab panel (R391-R404): what its lanes, its map and the steps of its power sequence change, and what they leave alone. -/

namespace Sys2Proof.Machine

/-! ### Lanes (R393-R396) -/

/-- The registers of the lanes. -/
def laneNoise : Set Nat := {k | 0x19200 ≤ k ∧ k < 0x19240}

theorem lane_mem (n : Nat) : Reg.DSP_LNn_STAT n ∈ laneNoise ∧ Reg.DSP_LNn_LAST n ∈ laneNoise := by
  unfold laneNoise Reg.DSP_LNn_STAT Reg.DSP_LNn_LAST
  constructor <;> simp only [Set.mem_ofPred_eq] <;> omega

theorem State.laneRegs_affects (s : State) : State.AffectsOnly laneNoise s s.laneRegs :=
  .ite _ (fun _ => .foldl _ (fun x n => (State.AffectsOnly.wrB x (f := F.DSP_LNn_STAT_LOCK n) _ (.inl (lane_mem n).1)).trans
    (.wr _ (f := F.DSP_LNn_STAT_STATE n) _ (.inl (lane_mem n).1))) _ s) fun _ => .refl s

/-- The lanes' state and lock levels set. -/
def State.withLanes (s : State) (st locks : Nat) : State := { s with pan := { s.pan with lanes := st, locks := locks } }

theorem State.laneSet_affects (s : State) (st locks : Nat) : State.AffectsOnly laneNoise (s.withLanes st locks) (s.laneSet st locks) :=
  (s.withLanes st locks).laneRegs_affects

theorem State.laneSet_pan (s : State) (st locks : Nat) : (s.laneSet st locks).pan = { s.pan with lanes := st, locks := locks } :=
  (s.laneSet_affects st locks).part State.pan fun _ _ => rfl

/-- Training as it starts for the first time. -/
def State.withTrain (s : State) : State := { s with pan := { s.pan with trainAt := s.now, trainFirst := s.now } }

theorem State.laneTrain_pan (s : State) : s.laneTrain.pan = { s.pan with trainAt := s.now, trainFirst := s.now, lanes := 1, locks := 0 } :=
  s.withTrain.laneSet_pan 1 0

theorem State.lastPackets_affects (s : State) (line : Nat) (px : Nat → Nat) : State.AffectsOnly laneNoise s (s.lastPackets line px) :=
  .ite _ (fun _ => .foldl _ (fun x n => (State.AffectsOnly.wr x (f := F.DSP_LNn_LAST_LINE n) _ (.inl (lane_mem n).2)).trans
    (.wr _ (f := F.DSP_LNn_LAST_CRC n) _ (.inl (lane_mem n).2))) _ s) fun _ => .refl s

theorem State.lastPackets_pan (s : State) (line : Nat) (px : Nat → Nat) : (s.lastPackets line px).pan = s.pan :=
  (s.lastPackets_affects line px).part State.pan fun _ _ => rfl

/-! ### Events and the map (R400, R407) -/

theorem State.dspEvent_affects {S : Set Nat} (s : State) (tag unit : Nat) (recorded : Bool) : State.AffectsOnly S s (s.dspEvent tag unit recorded) := by
  unfold State.dspEvent
  extract_lets r t
  have ht : State.AffectsOnly S s t := .ite _ (fun _ => .eventEntry s 109 0x80 tag 0 r true) fun _ => .refl s
  exact .ite _ (fun _ => ht.trans (.record _ _ _ _ _ _ _)) fun _ => ht

/-- The registers of the map, and the flags and counts of poison. -/
def mapNoise : Set Nat := {k | k = Reg.DSP_MAPSTAT ∨ k = Reg.DSP_STAT ∨ k = Reg.DSP_PANELID ∨ k = Reg.DSP_POISCNT}

theorem State.dspPoison_affects (s : State) : State.AffectsOnly mapNoise s s.dspPoison :=
  .ite _ (fun _ => (State.AffectsOnly.inc s (f := F.DSP_POISCNT_CNT) (.inl (.inr (.inr (.inr rfl))))).trans (.flag _ (stat := F.DSP_STAT_POISON) _ (.inl (.inr (.inl rfl))))) fun _ => .refl s

theorem State.mapDrop_affects (s : State) (st cause : Nat) : State.AffectsOnly mapNoise s (s.mapDrop st cause) :=
  (((State.AffectsOnly.wr s (f := F.DSP_MAPSTAT_STATE) _ (.inl (.inl rfl))).trans (.wr _ (f := F.DSP_MAPSTAT_CAUSE) _ (.inl (.inl rfl)))).trans
    (.wr _ (f := F.DSP_STAT_NOUNIF) _ (.inl (.inr (.inl rfl))))).trans (.setReg _ _ (.inl (.inr (.inr (.inl rfl)))))

theorem State.mapDrop_shows (s : State) {st cause : Nat} (hst : st < 4) (hc : cause < 4) : (s.mapDrop st cause).rd F.DSP_MAPSTAT_STATE = st ∧
    (s.mapDrop st cause).rd F.DSP_MAPSTAT_CAUSE = cause ∧ (s.mapDrop st cause).rd F.DSP_STAT_NOUNIF = 1 ∧ (s.mapDrop st cause).reg Reg.DSP_PANELID = 0 := by
  have hid (x : State) {f : Fld} (hf : f.addr ≠ Reg.DSP_PANELID) : (x.setReg Reg.DSP_PANELID 0).rd f = x.rd f := State.rd_congr (x.reg_setReg_other _ hf)
  refine ⟨?_, ?_, ?_, State.reg_setReg_same _ _ _⟩
  · exact (hid _ (by decide)).trans ((State.rd_wr_other _ _ (by decide)).trans ((State.rd_wr_apart _ _ (by decide)).trans ((s.rd_wr_same _ st (by decide)).trans (Nat.mod_eq_of_lt hst))))
  · exact (hid _ (by decide)).trans ((State.rd_wr_other _ _ (by decide)).trans ((State.rd_wr_same _ _ cause (by decide)).trans (Nat.mod_eq_of_lt hc)))
  · exact (hid _ (by decide)).trans (State.rd_wr_same _ _ 1 (by decide))

/-- The wait of a MAPLOAD ended. -/
def State.withMapDesc (s : State) (d : Option Desc) : State := { s with pan := { s.pan with mapDesc := d } }

/-- The read given up. -/
def State.mapGivenUp (s : State) : State := { s with pan := { s.pan with mapAt := none, mapAgain := false } }

/-- No frame is missed and the engine has not failed. -/
def State.withNoMiss (s : State) : State := { s with pan := { s.pan with missed := 0, failed := false } }

/-- The backlight lit, or dark. -/
def State.withLight (s : State) (on : Bool) : State := { s with pan := if on then { s.pan with bl := true } else { s.pan with bl := false, duty := 0 } }

/-- The logic supply of the panel off. -/
def State.withoutVdd (s : State) : State := { s with pan := { s.pan with vdd := false } }

/-! ### What the steps of the sequence keep -/

/-- `t` has the sequence's step, state and reversal, the strip unit's flags, counts and request, and the step's time as `s` has them. -/
structure State.StepKept (s t : State) : Prop where
  step : t.rd F.DSP_PWRSTAT_STEP = s.rd F.DSP_PWRSTAT_STEP
  state : t.rd F.DSP_PWRSTAT_STATE = s.rd F.DSP_PWRSTAT_STATE
  revat : t.rd F.DSP_PWRSTAT_REVAT = s.rd F.DSP_PWRSTAT_REVAT
  strip : ∀ k, k = Reg.DSP_SSTAT ∨ k = Reg.DSP_PWR ∨ k = Reg.DSP_SCOUNT ∨ k = Reg.DSP_SCTL → t.reg k = s.reg k
  resp : t.resp = s.resp
  stepAt : t.pan.stepAt = s.pan.stepAt

namespace State.StepKept

variable {s t u : State}

theorem refl (s : State) : StepKept s s := ⟨rfl, rfl, rfl, fun _ _ => rfl, rfl, rfl⟩

theorem trans (h : StepKept s t) (h' : StepKept t u) : StepKept s u :=
  ⟨h'.step.trans h.step, h'.state.trans h.state, h'.revat.trans h.revat, fun k hk => (h'.strip k hk).trans (h.strip k hk), h'.resp.trans h.resp, h'.stepAt.trans h.stepAt⟩

theorem ite (c : Prop) [Decidable c] (h : c → StepKept s t) (h' : ¬ c → StepKept s u) : StepKept s (if c then t else u) := by
  split
  · exact h ‹_›
  · exact h' ‹_›

/-- Side effects in the Canopy window, or elsewhere, keep the sequence. -/
theorem of_affects {S : Set Nat} (h : AffectsOnly S s t) (hS : ∀ k ∈ S, k / 0x1000 ≠ 0xE) : StepKept s t := by
  have hreg (k : Nat) (hk : k / 0x1000 = 0xE) : t.reg k = s.reg k := h.reg k (notEntry (by omega)) fun hx => hS k hx hk
  refine ⟨State.rd_congr (f := F.DSP_PWRSTAT_STEP) (hreg _ (by decide)), State.rd_congr (f := F.DSP_PWRSTAT_STATE) (hreg _ (by decide)),
    State.rd_congr (f := F.DSP_PWRSTAT_REVAT) (hreg _ (by decide)), fun k hk => hreg k ?_, h.part State.resp fun _ _ => rfl, congrArg Panel.stepAt (h.part State.pan fun _ _ => rfl)⟩
  rcases hk with rfl | rfl | rfl | rfl <;> decide

theorem of_lanes (h : AffectsOnly laneNoise s t) : StepKept s t := of_affects h fun k (hk : 0x19200 ≤ k ∧ k < 0x19240) => by omega

theorem of_map (h : AffectsOnly mapNoise s t) : StepKept s t :=
  of_affects h fun k hk => by rcases hk with rfl | rfl | rfl | rfl <;> decide

/-- A part of the panel beside the step's time is set. -/
theorem withPan (s : State) (p : Panel) (h : p.stepAt = s.pan.stepAt) : StepKept s { s with pan := p } := ⟨rfl, rfl, rfl, fun _ _ => rfl, rfl, h⟩

/-- A field of DSP_PWRSTAT beside the sequence's own. -/
theorem wr (s : State) {f : Fld} (v : Nat) (haddr : f.addr = Reg.DSP_PWRSTAT) (h1 : f.apart F.DSP_PWRSTAT_STEP = true) (h2 : f.apart F.DSP_PWRSTAT_STATE = true)
    (h3 : f.apart F.DSP_PWRSTAT_REVAT = true) : StepKept s (s.wr f v) := by
  refine ⟨State.rd_wr_apart _ _ h1, State.rd_wr_apart _ _ h2, State.rd_wr_apart _ _ h3, fun k hk => s.reg_wr_other _ ?_, rfl, rfl⟩
  rw [haddr]
  rcases hk with rfl | rfl | rfl | rfl <;> decide

theorem laneSet (s : State) (st locks : Nat) : StepKept s (s.laneSet st locks) := StepKept.trans (t := s.withLanes st locks) (withPan s _ rfl) (of_lanes (s.laneSet_affects st locks))

theorem laneTrain (s : State) : StepKept s s.laneTrain := StepKept.trans (t := s.withTrain) (withPan s _ rfl) (laneSet s.withTrain 1 0)

theorem blackFrame (s : State) : StepKept s s.blackFrame := of_lanes (s.lastPackets_affects _ _)

theorem mapDone (s : State) (status : Nat) : StepKept s (s.mapDone status) := by
  unfold State.mapDone
  split
  · exact StepKept.trans (t := s.withMapDesc none) (withPan s _ rfl) (of_affects (.complete (S := ∅) _ _ _ _) fun k hk => absurd hk (Set.notMem_empty k))
  · exact refl s

theorem mapAbandon (s : State) : StepKept s s.mapAbandon := by
  have hgive : StepKept s s.mapGivenUp := withPan s _ rfl
  exact (ite _ (fun _ => hgive.trans (of_map (s.mapGivenUp.mapDrop_affects 0 0))) fun _ => hgive).trans (mapDone _ _)

theorem ramp (s : State) : StepKept s s.ramp := withPan s _ rfl

theorem panMode (s : State) (m : Nat) : StepKept s (s.panMode m) :=
  (StepKept.trans (t := s.withNoMiss) (withPan s _ rfl) (wr _ (f := F.DSP_PWRSTAT_MODE) _ rfl (by decide) (by decide) (by decide))).trans (ramp _)

end State.StepKept

/-! ### Steps -/

/-- A step as it begins. -/
def State.stepBegun (s : State) (k : Nat) : State :=
  { (s.wr F.DSP_PWRSTAT_STEP k).wr F.DSP_PWRSTAT_STATE (if k < 8 then 1 else 3) with pan := { s.pan with stepAt := s.now, owed := none } }

/-- What a step does to the rails, the lanes, the backlight and the map. -/
def State.stepActs (s : State) (k : Nat) : State :=
  match k with
  | 1 => { s with pan := { s.pan with vdd := true, vddAt := s.now } }
  | 2 => { s with pan := { s.pan with vgl := true } }
  | 3 => { s with pan := { s.pan with avdd := true } }
  | 4 => { s with pan := { s.pan with vgh := true } }
  | 5 => s.laneTrain
  | 6 => s.blackFrame
  | 7 => ((s.withLight true).wr F.DSP_PWRSTAT_BLLIT 1).panMode (if s.wantsFull then 1 else 2)
  | 9 => ((s.withLight false).wr F.DSP_PWRSTAT_BLLIT 0).wr F.DSP_PWRSTAT_MODE 0
  | 10 => s.blackFrame
  | 11 => { s with pan := { s.pan with vgh := false } }
  | 12 => { s with pan := { s.pan with avdd := false } }
  | 13 => { s with pan := { s.pan with vgl := false } }
  | 14 => (s.withoutVdd.laneSet 0 0).mapAbandon
  | _ => s

theorem State.enterStep_eq (s : State) (k : Nat) : s.enterStep k = (s.stepBegun k).stepActs k := by
  unfold State.enterStep State.stepActs
  rfl

theorem State.stepBegun_shows (s : State) {k : Nat} (hk : k < 16) : (s.stepBegun k).rd F.DSP_PWRSTAT_STEP = k ∧ (s.stepBegun k).rd F.DSP_PWRSTAT_STATE = (if k < 8 then 1 else 3) ∧
    (s.stepBegun k).rd F.DSP_PWRSTAT_REVAT = s.rd F.DSP_PWRSTAT_REVAT ∧
    (∀ j, j = Reg.DSP_SSTAT ∨ j = Reg.DSP_PWR ∨ j = Reg.DSP_SCOUNT ∨ j = Reg.DSP_SCTL → (s.stepBegun k).reg j = s.reg j) ∧ (s.stepBegun k).resp = s.resp ∧
    (s.stepBegun k).pan = { s.pan with stepAt := s.now, owed := none } := by
  have hrd (f : Fld) : (s.stepBegun k).rd f = ((s.wr F.DSP_PWRSTAT_STEP k).wr F.DSP_PWRSTAT_STATE (if k < 8 then 1 else 3)).rd f := rfl
  have hst : (if k < 8 then 1 else 3) < 16 := by split <;> decide
  refine ⟨?_, ?_, ?_, fun j hj => ?_, rfl, rfl⟩
  · exact (hrd _).trans ((State.rd_wr_apart _ _ (by decide)).trans ((s.rd_wr_same _ k (by decide)).trans (Nat.mod_eq_of_lt hk)))
  · exact (hrd _).trans ((State.rd_wr_same _ _ _ (by decide)).trans (Nat.mod_eq_of_lt hst))
  · exact (hrd _).trans ((State.rd_wr_apart _ _ (by decide)).trans (State.rd_wr_apart _ _ (by decide)))
  · have hne : j ≠ Reg.DSP_PWRSTAT := by rcases hj with rfl | rfl | rfl | rfl <;> decide
    exact (show (s.stepBegun k).reg j = ((s.wr F.DSP_PWRSTAT_STEP k).wr F.DSP_PWRSTAT_STATE (if k < 8 then 1 else 3)).reg j from rfl).trans
      ((State.reg_wr_other _ (f := F.DSP_PWRSTAT_STATE) _ hne).trans (s.reg_wr_other (f := F.DSP_PWRSTAT_STEP) _ hne))

theorem State.stepActs_kept (s : State) (k : Nat) : State.StepKept s (s.stepActs k) := by
  have hbl (x : State) (v : Nat) : State.StepKept x (x.wr F.DSP_PWRSTAT_BLLIT v) := .wr x v rfl (by decide) (by decide) (by decide)
  have hmode (x : State) (v : Nat) : State.StepKept x (x.wr F.DSP_PWRSTAT_MODE v) := .wr x v rfl (by decide) (by decide) (by decide)
  unfold State.stepActs
  split
  · exact .withPan s _ rfl
  · exact .withPan s _ rfl
  · exact .withPan s _ rfl
  · exact .withPan s _ rfl
  · exact .laneTrain s
  · exact .blackFrame s
  · exact (State.StepKept.trans (t := s.withLight true) (.withPan s _ rfl) (hbl _ _)).trans (.panMode _ _)
  · exact (State.StepKept.trans (t := s.withLight false) (.withPan s _ rfl) (hbl _ _)).trans (hmode _ _)
  · exact .blackFrame s
  · exact .withPan s _ rfl
  · exact .withPan s _ rfl
  · exact .withPan s _ rfl
  · exact (State.StepKept.trans (t := s.withoutVdd) (.withPan s _ rfl) (.laneSet _ 0 0)).trans (.mapAbandon _)
  · exact .refl s

theorem State.mapDone_pan (s : State) (status : Nat) : (s.mapDone status).pan = { s.pan with mapDesc := none } := by
  unfold State.mapDone
  split
  · exact (State.AffectsOnly.complete (S := ∅) _ _ _ _).part State.pan fun _ _ => rfl
  · next h =>
    cases hp : s.pan with
    | mk =>
      rw [hp] at h
      subst h
      rfl

end Sys2Proof.Machine
end

section
/-! SUPPORT. The power sequence of the cab panel (R403, R404): what a step shows as it begins, what a reversal and a request do. -/

namespace Sys2Proof.Machine

/-! ### A step as it begins -/

/-- `t` is `s` at the beginning of step `k`. -/
structure State.StepBegins (s t : State) (k : Nat) : Prop where
  step : t.rd F.DSP_PWRSTAT_STEP = k
  state : t.rd F.DSP_PWRSTAT_STATE = if k < 8 then 1 else 3
  revat : t.rd F.DSP_PWRSTAT_REVAT = s.rd F.DSP_PWRSTAT_REVAT
  strip : ∀ j, j = Reg.DSP_SSTAT ∨ j = Reg.DSP_PWR ∨ j = Reg.DSP_SCOUNT ∨ j = Reg.DSP_SCTL → t.reg j = s.reg j
  resp : t.resp = s.resp
  stepAt : t.pan.stepAt = s.now

theorem State.enterStep_begins (s : State) {k : Nat} (hk : k < 16) : s.StepBegins (s.enterStep k) k := by
  obtain ⟨hstep, hstate, hrev, hstrip, hresp, hpan⟩ := s.stepBegun_shows hk
  obtain ⟨kstep, kstate, krev, kstrip, kresp, kat⟩ := (s.stepBegun k).stepActs_kept k
  rw [s.enterStep_eq k]
  exact ⟨kstep.trans hstep, kstate.trans hstate, krev.trans hrev, fun j hj => (kstrip j hj).trans (hstrip j hj), kresp.trans hresp, kat.trans (congrArg Panel.stepAt hpan)⟩

/-! ### The rails, the lanes and the backlight at each step -/

section
variable (s : State)

theorem State.enterStep_vdd : (s.enterStep 1).pan.vdd = true ∧ (s.enterStep 1).pan.vddAt = s.now := ⟨rfl, rfl⟩
theorem State.enterStep_vgl : (s.enterStep 2).pan.vgl = true := rfl
theorem State.enterStep_avdd : (s.enterStep 3).pan.avdd = true := rfl
theorem State.enterStep_vgh : (s.enterStep 4).pan.vgh = true := rfl
theorem State.enterStep_vgh_off : (s.enterStep 11).pan.vgh = false := rfl
theorem State.enterStep_avdd_off : (s.enterStep 12).pan.avdd = false := rfl
theorem State.enterStep_vgl_off : (s.enterStep 13).pan.vgl = false := rfl

theorem State.enterStep_lanes : (s.enterStep 5).pan.lanes = 1 := by
  rw [s.enterStep_eq 5]
  exact congrArg Panel.lanes (s.stepBegun 5).laneTrain_pan

theorem State.enterStep_lit : (s.enterStep 7).pan.bl = true := by
  rw [s.enterStep_eq 7]
  rfl

theorem State.enterStep_dark : (s.enterStep 9).pan.bl = false ∧ (s.enterStep 9).rd F.DSP_PWRSTAT_MODE = 0 := by
  rw [s.enterStep_eq 9]
  exact ⟨rfl, State.rd_wr_same _ _ 0 (by decide)⟩

/-- The read given up, before the MAPLOAD that waits for it is answered. -/
def State.mapLeft (s : State) : State := if s.pan.mapAt.isSome ∧ s.canopyOn = true then s.mapGivenUp.mapDrop 0 0 else s.mapGivenUp

theorem State.mapAbandon_eq : s.mapAbandon = s.mapLeft.mapDone 0x40 := rfl

theorem State.mapLeft_affects : State.AffectsOnly mapNoise s.mapGivenUp s.mapLeft :=
  .ite _ (fun _ => s.mapGivenUp.mapDrop_affects 0 0) fun _ => .refl _

theorem State.mapLeft_pan : s.mapLeft.pan = { s.pan with mapAt := none, mapAgain := false } := s.mapLeft_affects.part State.pan fun _ _ => rfl

theorem State.mapAbandon_pan : s.mapAbandon.pan = { s.pan with mapAt := none, mapAgain := false, mapDesc := none } := by
  rw [s.mapAbandon_eq, State.mapDone_pan, s.mapLeft_pan]

theorem State.enterStep_unpowered : (s.enterStep 14).pan.vdd = false ∧ (s.enterStep 14).pan.lanes = 0 := by
  have hpan := (((s.stepBegun 14).withoutVdd.laneSet 0 0).mapAbandon_pan).trans (congrArg (fun p : Panel => { p with mapAt := none, mapAgain := false, mapDesc := none })
    ((s.stepBegun 14).withoutVdd.laneSet_pan 0 0))
  rw [s.enterStep_eq 14]
  exact ⟨congrArg Panel.vdd hpan, congrArg Panel.lanes hpan⟩

theorem State.blackFrame_pan : s.blackFrame.pan = s.pan := s.lastPackets_pan (s.pan.vact - 1) fun _ => 0

/-- The lanes and what fallback counts, of a panel. -/
def Panel.lanesAndFailures (p : Panel) : Nat × Nat × Nat × Bool := (p.lanes, p.locks, p.missed, p.failed)

theorem State.enterStep_keepsLanes {k : Nat} (hk : k = 6 ∨ k = 9 ∨ k = 11) : (s.enterStep k).pan.lanesAndFailures = s.pan.lanesAndFailures := by
  rw [s.enterStep_eq k]
  rcases hk with rfl | rfl | rfl
  · have h : ((s.stepBegun 6).stepActs 6).pan = (s.stepBegun 6).pan := (s.stepBegun 6).blackFrame_pan
    rw [h]
    rfl
  · have h : ((s.stepBegun 9).stepActs 9).pan = ((s.stepBegun 9).withLight false).pan := rfl
    rw [h]
    rfl
  · rfl

end

/-! ### The end of a sequence -/

theorem State.seqDone_shows (s : State) {st : Nat} (hst : st < 16) :
    (s.seqDone st).rd F.DSP_PWRSTAT_STATE = st ∧ (s.seqDone st).rd F.DSP_PWRSTAT_STEP = 0 ∧ (s.seqDone st).rd F.DSP_SSTAT_SEQDONE = 1 := by
  unfold State.seqDone
  refine ⟨?_, ?_, State.flag_rd_same _ (by decide) rfl⟩
  · exact (State.flag_rd_other _ (by decide)).trans (State.rd_wr_fits _ (by decide) hst)
  · exact (State.flag_rd_other _ (by decide)).trans ((State.rd_wr_apart _ _ (by decide)).trans (s.rd_wr_fits (by decide) (by decide)))

/-- A status bit set leaves the other bits of its register alone. -/
theorem State.flag_rd_apart (s : State) {stat ie f : Fld} (h : stat.apart f = true) : (s.flag stat ie).rd f = s.rd f := by
  rw [State.flag, State.rd_congr (State.notify_reg _ _ _ _), s.rd_wr_apart 1 h]

/-! ### Reversal -/

/-- A sequence reversed at step `k`, before the step it goes on with. -/
def State.turned (s : State) (k : Nat) : State :=
  (((s.wr F.DSP_PWRSTAT_REV 1).wr F.DSP_PWRSTAT_REVAT k).inc F.DSP_PWRSTAT_REVCNT).flag F.DSP_SSTAT_REVERSED F.DSP_SCTL_IE_PWR

theorem State.reverseAt_eq (s : State) (k : Nat) : s.reverseAt k = (s.turned k).enterStep (reverseTo k) := rfl

theorem State.turned_affects (s : State) (k : Nat) : State.AffectsOnly {Reg.DSP_PWRSTAT, Reg.DSP_SSTAT} s (s.turned k) :=
  (((State.AffectsOnly.wr s (f := F.DSP_PWRSTAT_REV) _ (.inl (.inl rfl))).trans (.wr _ (f := F.DSP_PWRSTAT_REVAT) _ (.inl (.inl rfl)))).trans
    (.inc _ (f := F.DSP_PWRSTAT_REVCNT) (.inl (.inl rfl)))).trans (.flag _ (stat := F.DSP_SSTAT_REVERSED) _ (.inl (.inr rfl)))

theorem State.turned_shows (s : State) {k : Nat} (hk : k < 16) : (s.turned k).rd F.DSP_PWRSTAT_REVAT = k ∧ (s.turned k).rd F.DSP_SSTAT_REVERSED = 1 ∧
    (s.turned k).rd F.DSP_SSTAT_FALLBACK = s.rd F.DSP_SSTAT_FALLBACK := by
  unfold State.turned
  refine ⟨?_, State.flag_rd_same _ (by decide) rfl, ?_⟩
  · exact (State.flag_rd_other _ (by decide)).trans ((State.rd_wr_apart _ (f := F.DSP_PWRSTAT_REVCNT) _ (by decide)).trans (State.rd_wr_fits _ (by decide) hk))
  · exact (State.flag_rd_apart _ (by decide)).trans ((State.rd_wr_other _ (f := F.DSP_PWRSTAT_REVCNT) _ (by decide)).trans
      ((State.rd_wr_other _ _ (by decide)).trans (s.rd_wr_other _ (by decide))))

theorem State.turned_pan (s : State) (k : Nat) : (s.turned k).pan = s.pan := (s.turned_affects k).part State.pan fun _ _ => rfl

theorem reverseTo_lt (k : Nat) : reverseTo k < 16 := by
  unfold reverseTo
  split <;> decide

theorem State.reverseAt_shows (s : State) {k : Nat} (hk : k < 16) : (s.reverseAt k).rd F.DSP_PWRSTAT_STEP = reverseTo k ∧ (s.reverseAt k).rd F.DSP_PWRSTAT_REVAT = k ∧
    (s.reverseAt k).rd F.DSP_SSTAT_REVERSED = 1 := by
  obtain ⟨hrev, hflag, -⟩ := s.turned_shows hk
  have h := (s.turned k).enterStep_begins (reverseTo_lt k)
  rw [s.reverseAt_eq k]
  exact ⟨h.step, h.revat.trans hrev, (State.rd_congr (f := F.DSP_SSTAT_REVERSED) (h.strip Reg.DSP_SSTAT (.inl rfl))).trans hflag⟩

/-- A sequence before its first step. -/
def State.unturned (s : State) : State := (s.wr F.DSP_PWRSTAT_REV 0).wr F.DSP_PWRSTAT_REVAT 0

theorem State.startSeq_eq (s : State) (k : Nat) : s.startSeq k = s.unturned.enterStep k := rfl

theorem State.unturned_affects (s : State) : State.AffectsOnly {Reg.DSP_PWRSTAT} s s.unturned :=
  (State.AffectsOnly.wr (S := {Reg.DSP_PWRSTAT}) s (f := F.DSP_PWRSTAT_REV) 0 (.inl rfl)).trans (.wr _ (f := F.DSP_PWRSTAT_REVAT) 0 (.inl rfl))

/-! ### Requests -/

/-- A request waits for the end of the step, or none does. -/
def State.withOwed (s : State) (o : Option Bool) : State := { s with pan := { s.pan with owed := o } }

section
variable (s : State)

theorem State.panelRequest_off (h : s.rd F.DSP_PWRSTAT_STATE = 0) (on : Bool) : s.panelRequest on = if on then s.startSeq 1 else s := by
  unfold State.panelRequest
  rw [h]
  rfl

theorem State.panelRequest_up (h : s.rd F.DSP_PWRSTAT_STATE = 1) (on : Bool) : s.panelRequest on =
    if on then s.withOwed none else if s.rd F.DSP_PWRSTAT_STEP = 5 then s.reverseAt 5 else s.withOwed (some false) := by
  unfold State.panelRequest
  rw [h]
  rfl

theorem State.panelRequest_on (h : s.rd F.DSP_PWRSTAT_STATE = 2) (on : Bool) : s.panelRequest on = if on then s else s.startSeq 9 := by
  unfold State.panelRequest
  rw [h]
  rfl

theorem State.panelRequest_down (h : s.rd F.DSP_PWRSTAT_STATE ≠ 0 ∧ s.rd F.DSP_PWRSTAT_STATE ≠ 1 ∧ s.rd F.DSP_PWRSTAT_STATE ≠ 2) (on : Bool) :
    s.panelRequest on = s.withOwed (if on then some true else none) := by
  obtain ⟨h0, h1, h2⟩ := h
  unfold State.panelRequest
  split
  · exact absurd ‹_› h0
  · exact absurd ‹_› h1
  · exact absurd ‹_› h2
  · rfl

/-- What a request leaves as it is: the answer, DSP_PWR, DSP_SCOUNT and the fallback flag. -/
def State.requestView (s : State) : Resp × W32 × W32 × Nat := (s.resp, s.reg Reg.DSP_PWR, s.reg Reg.DSP_SCOUNT, s.rd F.DSP_SSTAT_FALLBACK)

theorem State.requestView_congr {t : State} (hresp : t.resp = s.resp) (hreg : ∀ k, k = Reg.DSP_PWR ∨ k = Reg.DSP_SCOUNT → t.reg k = s.reg k)
    (hf : t.rd F.DSP_SSTAT_FALLBACK = s.rd F.DSP_SSTAT_FALLBACK) : t.requestView = s.requestView := by
  unfold State.requestView
  rw [hresp, hreg _ (.inl rfl), hreg _ (.inr rfl), hf]

theorem State.StepBegins.requestView {s t : State} {k : Nat} (h : s.StepBegins t k) : t.requestView = s.requestView :=
  s.requestView_congr h.resp (fun _ hj => h.strip _ (.inr (hj.imp id .inl))) (State.rd_congr (f := F.DSP_SSTAT_FALLBACK) (h.strip _ (.inl rfl)))

theorem State.reverseAt_requestView {k : Nat} (hk : k < 16) : (s.reverseAt k).requestView = s.requestView := by
  have ht := s.turned_affects k
  rw [s.reverseAt_eq k]
  refine ((s.turned k).enterStep_begins (reverseTo_lt k)).requestView.trans (s.requestView_congr (ht.part State.resp fun _ _ => rfl) (fun j hj => ht.reg j ?_ ?_) (s.turned_shows hk).2.2)
  · rcases hj with rfl | rfl <;> exact notEntry (by decide)
  · rcases hj with rfl | rfl <;> exact fun h => absurd h (by decide)

theorem State.startSeq_requestView {k : Nat} (hk : k < 16) : (s.startSeq k).requestView = s.requestView := by
  have ht := s.unturned_affects
  rw [s.startSeq_eq k]
  refine (s.unturned.enterStep_begins hk).requestView.trans (s.requestView_congr (ht.part State.resp fun _ _ => rfl) (fun j hj => ht.reg j ?_ ?_) (ht.rd (notEntry (by decide)) (by decide)))
  · rcases hj with rfl | rfl <;> exact notEntry (by decide)
  · rcases hj with rfl | rfl <;> exact fun h => absurd h (by decide)

theorem State.panelRequest_requestView (on : Bool) : (s.panelRequest on).requestView = s.requestView := by
  unfold State.panelRequest
  split
  · split
    · exact s.startSeq_requestView (by decide)
    · rfl
  · split
    · rfl
    · split
      · exact s.reverseAt_requestView (by decide)
      · rfl
  · split
    · rfl
    · exact s.startSeq_requestView (by decide)
  · rfl

theorem State.panelRequest_keepsLanes : (s.panelRequest false).pan.lanesAndFailures = s.pan.lanesAndFailures := by
  unfold State.panelRequest
  split
  · rfl
  · split
    · exact absurd ‹_› Bool.false_ne_true
    · split
      · exact ((s.turned 5).enterStep_keepsLanes (.inr (.inr rfl))).trans (congrArg Panel.lanesAndFailures (s.turned_pan 5))
      · rfl
  · exact s.unturned.enterStep_keepsLanes (.inr (.inl rfl))
  · rfl

end

end Sys2Proof.Machine
end

section
/-! SUPPORT. The commands of the cab panel that train its lanes, switch it on and off and let it fall back (R395, R396, R402-R404). -/

namespace Sys2Proof.Machine

/-! ### The end of a step -/

theorem State.stepEnd_owed (s : State) (h : s.pan.owed ≠ none) : s.stepEnd = s.reverseAt (s.rd F.DSP_PWRSTAT_STEP) :=
  if_pos (Option.isSome_iff_ne_none.mpr h)

theorem State.stepEnd_goesOn (s : State) (h : s.pan.owed = none) : s.stepEnd =
    if s.rd F.DSP_PWRSTAT_STEP = 7 then s.seqDone 2 else if s.rd F.DSP_PWRSTAT_STEP = 14 then s.seqDone 0 else s.enterStep (s.rd F.DSP_PWRSTAT_STEP + 1) :=
  if_neg (by rw [h]; exact Bool.false_ne_true)

/-- What the rails and the lanes show as the step after `k` begins. -/
theorem State.enterStep_rails (s : State) (k : Nat) : (k = 1 → (s.enterStep (k + 1)).pan.vgl = true) ∧ (k = 2 → (s.enterStep (k + 1)).pan.avdd = true) ∧
    (k = 3 → (s.enterStep (k + 1)).pan.vgh = true) ∧ (k = 4 → (s.enterStep (k + 1)).pan.lanes = 1) ∧ (k = 6 → (s.enterStep (k + 1)).pan.bl = true) ∧
    (k = 10 → (s.enterStep (k + 1)).pan.vgh = false) ∧ (k = 11 → (s.enterStep (k + 1)).pan.avdd = false) ∧ (k = 12 → (s.enterStep (k + 1)).pan.vgl = false) ∧
    (k = 13 → (s.enterStep (k + 1)).pan.vdd = false ∧ (s.enterStep (k + 1)).pan.lanes = 0) := by
  refine ⟨?_, ?_, ?_, ?_, ?_, ?_, ?_, ?_, ?_⟩ <;> rintro rfl
  · exact s.enterStep_vgl
  · exact s.enterStep_avdd
  · exact s.enterStep_vgh
  · exact s.enterStep_lanes
  · exact s.enterStep_lit
  · exact s.enterStep_vgh_off
  · exact s.enterStep_avdd_off
  · exact s.enterStep_vgl_off
  · exact s.enterStep_unpowered

theorem execPanelSequenceStep_ends (s : State) (k : Nat) (hbed : s.bedOn = true) (hk : s.rd F.DSP_PWRSTAT_STEP = k)
    (hmem : [1, 2, 3, 4, 6, 7, 9, 10, 11, 12, 13, 14].contains k = true) (hwait : s.pan.stepAt + stepWait s k ≤ s.now) :
    Completes (.panelSequenceStep) s (fun t => if s.pan.owed = none then
      (if k = 7 then t.rd F.DSP_PWRSTAT_STATE = 2 ∧ t.rd F.DSP_PWRSTAT_STEP = 0 ∧ t.rd F.DSP_SSTAT_SEQDONE = 1
      else if k = 14 then t.rd F.DSP_PWRSTAT_STATE = 0 ∧ t.rd F.DSP_PWRSTAT_STEP = 0 ∧ t.rd F.DSP_SSTAT_SEQDONE = 1
      else t.rd F.DSP_PWRSTAT_STEP = k + 1 ∧ t.pan.stepAt = s.now ∧ (k = 1 → t.pan.vgl = true) ∧ (k = 2 → t.pan.avdd = true) ∧ (k = 3 → t.pan.vgh = true) ∧ (k = 4 → t.pan.lanes = 1) ∧ (k = 6 → t.pan.bl = true) ∧
      (k = 10 → t.pan.vgh = false) ∧ (k = 11 → t.pan.avdd = false) ∧ (k = 12 → t.pan.vgl = false) ∧ (k = 13 → t.pan.vdd = false ∧ t.pan.lanes = 0))
      else t.rd F.DSP_PWRSTAT_STEP = reverseTo k ∧ t.rd F.DSP_PWRSTAT_REVAT = k ∧ t.rd F.DSP_SSTAT_REVERSED = 1) := by
  have hks : k ≠ 0 ∧ k ≠ 5 ∧ k < 15 := by
    have h : k ∈ [1, 2, 3, 4, 6, 7, 9, 10, 11, 12, 13, 14] := List.contains_iff_mem.mp hmem
    simp only [List.mem_cons, List.not_mem_nil, or_false] at h
    omega
  obtain ⟨h0, h5, h15⟩ := hks
  refine ⟨s.stepEnd, congrArg Host.Outcome.next (if_neg ?_), ?_⟩
  · rw [hbed, hk]
    exact fun h => h.elim (absurd · (by decide)) fun h => h.elim h0 fun h => h.elim h5 fun h => absurd hwait (Nat.not_le_of_lt h)
  · beta_reduce
    by_cases howed : s.pan.owed = none
    · rw [if_pos howed, s.stepEnd_goesOn howed, hk]
      split
      · exact s.seqDone_shows (by decide)
      · split
        · exact s.seqDone_shows (by decide)
        · have h := s.enterStep_begins (k := k + 1) (by omega)
          exact ⟨h.step, h.stepAt, s.enterStep_rails k⟩
    · rw [if_neg howed, s.stepEnd_owed howed, hk]
      exact s.reverseAt_shows (by omega)

/-! ### Training -/

theorem State.sendGamma_kept (s : State) : State.StepKept s s.sendGamma := .ite _ (fun _ => .withPan s _ rfl) fun _ => .refl s

theorem State.sendGamma_pan (s : State) : ∃ g, s.sendGamma.pan = { s.pan with gamma := g } := by
  unfold State.sendGamma
  split
  · exact ⟨_, rfl⟩
  · exact ⟨s.pan.gamma, rfl⟩

/-- The lanes as they run once every lane has locked. -/
def State.lanesUp (s : State) : State := (s.laneSet 2 255).sendGamma

theorem State.lanesUp_kept (s : State) : State.StepKept s s.lanesUp := (State.StepKept.laneSet s 2 255).trans (State.sendGamma_kept _)

theorem State.lanesUp_pan (s : State) : s.lanesUp.pan.lanes = 2 ∧ s.lanesUp.pan.locks = 255 ∧ s.lanesUp.pan.owed = s.pan.owed := by
  obtain ⟨g, hg⟩ := (s.laneSet 2 255).sendGamma_pan
  have h : s.lanesUp.pan = _ := hg.trans (congrArg (fun p : Panel => { p with gamma := g }) (s.laneSet_pan 2 255))
  rw [h]
  exact ⟨rfl, rfl, rfl⟩

/-- The step U5 ended: the black frame, or the way down where a request waits. -/
theorem State.lanesUp_stepEnd (s : State) (h5 : s.rd F.DSP_PWRSTAT_STEP = 5) : s.lanesUp.stepEnd.pan.lanes = 2 ∧ s.lanesUp.stepEnd.pan.locks = 255 ∧
    (s.pan.owed = none → s.lanesUp.stepEnd.rd F.DSP_PWRSTAT_STEP = 6) := by
  obtain ⟨hlanes, hlocks, howed⟩ := s.lanesUp_pan
  have hstep : s.lanesUp.rd F.DSP_PWRSTAT_STEP = 5 := s.lanesUp_kept.step.trans h5
  have hof {p : Panel} (h : p.lanesAndFailures = s.lanesUp.pan.lanesAndFailures) : p.lanes = 2 ∧ p.locks = 255 :=
    ⟨(congrArg Prod.fst h).trans hlanes, (congrArg (fun x => x.2.1) h).trans hlocks⟩
  by_cases hn : s.lanesUp.pan.owed = none
  · have heq : s.lanesUp.stepEnd = s.lanesUp.enterStep 6 := by rw [State.stepEnd_goesOn _ hn, hstep]; rfl
    rw [heq]
    obtain ⟨h1, h2⟩ := hof (s.lanesUp.enterStep_keepsLanes (.inl rfl))
    exact ⟨h1, h2, fun _ => (s.lanesUp.enterStep_begins (by decide)).step⟩
  · have heq : s.lanesUp.stepEnd = (s.lanesUp.turned 5).enterStep 11 := by rw [State.stepEnd_owed _ hn, hstep]; rfl
    rw [heq]
    obtain ⟨h1, h2⟩ := hof (((s.lanesUp.turned 5).enterStep_keepsLanes (.inr (.inr rfl))).trans (congrArg Panel.lanesAndFailures (s.lanesUp.turned_pan 5)))
    exact ⟨h1, h2, fun h => absurd (howed.trans h) hn⟩

/-- The failure of lane `n` told. -/
def State.laneFailTold (s : State) (n : Nat) : State := (if s.canopyOn then s.flag F.DSP_STAT_LANEFAIL F.DSP_CTL_IE_LANE else s).dspEvent 3 n true

theorem State.laneFailTold_affects (s : State) (n : Nat) : State.AffectsOnly {Reg.DSP_STAT} s (s.laneFailTold n) :=
  (State.AffectsOnly.ite (S := {Reg.DSP_STAT}) _ (fun _ => .flag s (stat := F.DSP_STAT_LANEFAIL) _ (.inl rfl)) fun _ => .refl s).trans (State.dspEvent_affects _ 3 n true)

/-- The lanes that did not lock. -/
def State.lanesFail (s : State) (locks : Nat) : State :=
  ((s.laneSet 1 (locks % 256)).laneFailTold (((List.range 8).find? (fun i => !bitAt locks i)).getD 0)).panelRequest false

theorem State.lanesFail_shows (s : State) (locks : Nat) : (s.lanesFail locks).pan.lanes = 1 ∧ (s.lanesFail locks).pan.locks = locks % 256 ∧
    (s.rd F.DSP_PWRSTAT_STATE = 1 → s.rd F.DSP_PWRSTAT_STEP = 5 → (s.lanesFail locks).rd F.DSP_PWRSTAT_STEP = 11 ∧ (s.lanesFail locks).rd F.DSP_PWRSTAT_REVAT = 5) := by
  unfold State.lanesFail
  generalize ((List.range 8).find? (fun i => !bitAt locks i)).getD 0 = n
  have htold := (s.laneSet 1 (locks % 256)).laneFailTold_affects n
  have hset := State.StepKept.laneSet s 1 (locks % 256)
  have hpan : ((s.laneSet 1 (locks % 256)).laneFailTold n).pan = { s.pan with lanes := 1, locks := locks % 256 } :=
    (htold.part State.pan fun _ _ => rfl).trans (s.laneSet_pan 1 (locks % 256))
  have hstate : ((s.laneSet 1 (locks % 256)).laneFailTold n).rd F.DSP_PWRSTAT_STATE = s.rd F.DSP_PWRSTAT_STATE := (htold.rd (notEntry (by decide)) (by decide)).trans hset.state
  have hstep : ((s.laneSet 1 (locks % 256)).laneFailTold n).rd F.DSP_PWRSTAT_STEP = s.rd F.DSP_PWRSTAT_STEP := (htold.rd (notEntry (by decide)) (by decide)).trans hset.step
  generalize (s.laneSet 1 (locks % 256)).laneFailTold n = t at hpan hstate hstep
  have hkeeps := t.panelRequest_keepsLanes
  refine ⟨(congrArg Prod.fst hkeeps).trans (congrArg Panel.lanes hpan), (congrArg (fun x => x.2.1) hkeeps).trans (congrArg Panel.locks hpan), fun h1 h5 => ?_⟩
  have heq : t.panelRequest false = t.reverseAt 5 := by
    rw [t.panelRequest_up (hstate.trans h1) false, if_neg Bool.false_ne_true, if_pos (hstep.trans h5)]
  rw [heq]
  obtain ⟨hs, hr, -⟩ := t.reverseAt_shows (k := 5) (by decide)
  exact ⟨hs, hr⟩

/-- Training goes on, from its start again where 1 ms has passed. -/
def State.lanesAgain (s : State) (locks : Nat) : State :=
  if s.pan.trainAt + 1000000 ≤ s.now then { s.laneSet 1 (locks % 256) with pan := { (s.laneSet 1 (locks % 256)).pan with trainAt := s.now } } else s.laneSet 1 (locks % 256)

theorem State.lanesAgain_pan (s : State) (locks : Nat) : (s.lanesAgain locks).pan.lanes = 1 ∧ (s.lanesAgain locks).pan.locks = locks % 256 ∧
    (s.lanesAgain locks).pan.trainAt = if s.pan.trainAt + 1000000 ≤ s.now then s.now else s.pan.trainAt := by
  have hpan := s.laneSet_pan 1 (locks % 256)
  unfold State.lanesAgain
  split
  · exact ⟨congrArg Panel.lanes hpan, congrArg Panel.locks hpan, rfl⟩
  · exact ⟨congrArg Panel.lanes hpan, congrArg Panel.locks hpan, (congrArg Panel.trainAt hpan).trans rfl⟩

theorem execLaneTraining_eq (s : State) (locks : Nat) (hbed : s.bedOn = true) (hlanes : s.pan.lanes = 1) (hat : s.pan.trainAt + 110000 ≤ s.now) :
    execLaneTraining locks s = .next (if locks % 256 = 255 then (if s.rd F.DSP_PWRSTAT_STEP = 5 then s.lanesUp.stepEnd else s.lanesUp)
      else if s.pan.trainFirst + 20000000 ≤ s.now then s.lanesFail locks else s.lanesAgain locks) := by
  refine congrArg Host.Outcome.next ((if_neg ?_).trans rfl)
  rw [hbed, hlanes]
  exact fun h => h.elim (absurd · (by decide)) fun h => h.elim (absurd rfl ·) fun h => absurd hat (Nat.not_le_of_lt h)

theorem execLaneTraining_trains (s : State) (locks : Nat) (hbed : s.bedOn = true) (hlanes : s.pan.lanes = 1) (hat : s.pan.trainAt + 110000 ≤ s.now) :
    Completes (.laneTraining locks) s (fun t => (locks % 256 = 255 → t.pan.lanes = 2 ∧ t.pan.locks = 255 ∧ (s.rd F.DSP_PWRSTAT_STEP = 5 → s.pan.owed = none → t.rd F.DSP_PWRSTAT_STEP = 6)) ∧
      (locks % 256 ≠ 255 → t.pan.lanes = 1 ∧ t.pan.locks = locks % 256 ∧ (s.now < s.pan.trainFirst + 20000000 → t.pan.trainAt = if s.pan.trainAt + 1000000 ≤ s.now then s.now else s.pan.trainAt) ∧
      (s.pan.trainFirst + 20000000 ≤ s.now → s.rd F.DSP_PWRSTAT_STATE = 1 → s.rd F.DSP_PWRSTAT_STEP = 5 → t.rd F.DSP_PWRSTAT_STEP = 11 ∧ t.rd F.DSP_PWRSTAT_REVAT = 5))) := by
  refine ⟨_, execLaneTraining_eq s locks hbed hlanes hat, fun hall => ?_, fun hnot => ?_⟩
  · rw [if_pos hall]
    split
    · obtain ⟨h1, h2, h3⟩ := s.lanesUp_stepEnd ‹_›
      exact ⟨h1, h2, fun _ => h3⟩
    · obtain ⟨h1, h2, -⟩ := s.lanesUp_pan
      exact ⟨h1, h2, fun h => absurd h ‹_›⟩
  · rw [if_neg hnot]
    split
    · obtain ⟨h1, h2, h3⟩ := s.lanesFail_shows locks
      exact ⟨h1, h2, fun h => absurd ‹_› (Nat.not_le_of_lt h), fun _ => h3⟩
    · obtain ⟨h1, h2, h3⟩ := s.lanesAgain_pan locks
      exact ⟨h1, h2, fun _ => h3, fun h => absurd h ‹_›⟩

/-! ### A lost lock -/

theorem State.laneRegs_losses (s : State) (lane : Nat) : s.laneRegs.rd (F.DSP_LNn_STAT_LOSSES lane) = s.rd (F.DSP_LNn_STAT_LOSSES lane) := by
  unfold State.laneRegs
  split
  · refine List.foldlRecOn (motive := fun x : State => x.rd (F.DSP_LNn_STAT_LOSSES lane) = s.rd (F.DSP_LNn_STAT_LOSSES lane)) (List.range 8) _ rfl fun x hx n _ => ?_
    exact (State.rd_wr_apart _ (f := F.DSP_LNn_STAT_STATE n) _ rfl).trans ((State.rd_wr_apart x (f := F.DSP_LNn_STAT_LOCK n) _ rfl).trans hx)
  · rfl

theorem State.laneTrain_losses (s : State) (lane : Nat) : s.laneTrain.rd (F.DSP_LNn_STAT_LOSSES lane) = s.rd (F.DSP_LNn_STAT_LOSSES lane) :=
  (s.withTrain.withLanes 1 0).laneRegs_losses lane

theorem execLaneLockLoss_trains (s : State) (lane : Nat) (hbed : s.bedOn = true) (hlanes : s.pan.lanes = 2) (hlane : lane < 8) :
    Completes (.laneLockLoss lane) s (fun t => t.pan.lanes = 1 ∧ t.pan.locks = 0 ∧ t.pan.trainAt = s.now ∧ t.pan.trainFirst = s.now ∧ (s.canopyOn = true → t.rd (F.DSP_LNn_STAT_LOSSES lane) = min (s.rd (F.DSP_LNn_STAT_LOSSES lane) + 1) (maxOf (F.DSP_LNn_STAT_LOSSES lane).width))) := by
  refine ⟨(if s.canopyOn then s.inc (F.DSP_LNn_STAT_LOSSES lane) else s).laneTrain, congrArg Host.Outcome.next (if_neg ?_), ?_⟩
  · rw [hbed, hlanes]
    exact fun h => h.elim (absurd · (by decide)) fun h => h.elim (absurd rfl ·) fun h => absurd hlane (Nat.not_lt_of_le h)
  · have hnow : (if s.canopyOn then s.inc (F.DSP_LNn_STAT_LOSSES lane) else s).now = s.now := by split <;> rfl
    have hcount : s.canopyOn = true → (if s.canopyOn then s.inc (F.DSP_LNn_STAT_LOSSES lane) else s).rd (F.DSP_LNn_STAT_LOSSES lane) =
        min (s.rd (F.DSP_LNn_STAT_LOSSES lane) + 1) (maxOf (F.DSP_LNn_STAT_LOSSES lane).width) := fun h => by
      rw [if_pos h]
      exact s.rd_inc_same (show 15 < 32 by decide)
    generalize (if s.canopyOn then s.inc (F.DSP_LNn_STAT_LOSSES lane) else s) = x at hnow hcount
    have hpan := x.laneTrain_pan
    exact ⟨congrArg Panel.lanes hpan, congrArg Panel.locks hpan, (congrArg Panel.trainAt hpan).trans hnow, (congrArg Panel.trainFirst hpan).trans hnow,
      fun h => (x.laneTrain_losses lane).trans (hcount h)⟩

/-! ### Fallback (R402) -/

/-- The fallback counted and told. -/
def State.fallbackTold (s : State) : State := ((s.inc F.DSP_SCOUNT_FALLBACKS).flag F.DSP_SSTAT_FALLBACK F.DSP_SCTL_IE_FB).record 0x0E 0x40 sevWarning 0 0 0

theorem State.fallbackTold_affects (s : State) : State.AffectsOnly {Reg.DSP_SCOUNT, Reg.DSP_SSTAT} s s.fallbackTold :=
  ((State.AffectsOnly.inc s (f := F.DSP_SCOUNT_FALLBACKS) (.inl (.inl rfl))).trans (.flag _ (stat := F.DSP_SSTAT_FALLBACK) _ (.inl (.inr rfl)))).trans (.record _ _ _ _ _ _ _)

theorem State.fallbackTold_shows (s : State) : s.fallbackTold.rd F.DSP_SSTAT_FALLBACK = 1 ∧
    s.fallbackTold.rd F.DSP_SCOUNT_FALLBACKS = min (s.rd F.DSP_SCOUNT_FALLBACKS + 1) (maxOf F.DSP_SCOUNT_FALLBACKS.width) := by
  have hrec (x : State) {f : Fld} (hf : ¬ entryBlock (f.addr / 0x1000)) : (x.record 0x0E 0x40 sevWarning 0 0 0).rd f = x.rd f :=
    (State.AffectsOnly.record (S := ∅) x _ _ _ _ _ _).rd hf (Set.notMem_empty _)
  unfold State.fallbackTold
  constructor
  · exact (hrec _ (notEntry (by decide))).trans (State.flag_rd_same _ (by decide) rfl)
  · exact (hrec _ (notEntry (by decide))).trans ((State.flag_rd_other _ (by decide)).trans (s.rd_inc_same (by decide)))

theorem State.panMode_shows (s : State) {m : Nat} (hm : m < 4) : (s.panMode m).rd F.DSP_PWRSTAT_MODE = m ∧ (s.panMode m).pan.missed = 0 ∧ (s.panMode m).pan.failed = false :=
  ⟨s.withNoMiss.rd_wr_fits (f := F.DSP_PWRSTAT_MODE) (by decide) hm, rfl, rfl⟩

theorem execDisplayFallback_fallsBack (s : State) (hbed : s.bedOn = true) (hmode : s.rd F.DSP_PWRSTAT_MODE = 1)
    (hwhy : 2 ≤ s.pan.missed ∨ s.canopyOn = false ∨ s.pan.failed = true) :
    Completes (.displayFallback) s (fun t => t.rd F.DSP_SSTAT_FALLBACK = 1 ∧ t.rd F.DSP_SCOUNT_FALLBACKS = min (s.rd F.DSP_SCOUNT_FALLBACKS + 1) (maxOf F.DSP_SCOUNT_FALLBACKS.width) ∧ t.pan.missed = 0 ∧ t.pan.failed = false ∧
      (s.on F.DSP_SCTL_STRIPEN = true → t.rd F.DSP_PWRSTAT_MODE = 2) ∧ (s.on F.DSP_SCTL_STRIPEN = false → s.rd F.DSP_PWRSTAT_STATE = 2 → t.rd F.DSP_PWRSTAT_STEP = 9 ∧ t.pan.bl = false)) := by
  refine ⟨if s.on F.DSP_SCTL_STRIPEN then s.fallbackTold.panMode 2 else s.fallbackTold.withNoMiss.panelRequest false, congrArg Host.Outcome.next ((if_neg ?_).trans rfl), ?_⟩
  · rw [hbed, hmode]
    exact fun h => h.elim (absurd · (by decide)) fun h => h.elim (absurd rfl ·) fun h => absurd hwhy h
  · obtain ⟨hfb, hcnt⟩ := s.fallbackTold_shows
    cases hstrip : s.on F.DSP_SCTL_STRIPEN with
    | true =>
      obtain ⟨hm, hmiss, hfail⟩ := s.fallbackTold.panMode_shows (m := 2) (by decide)
      have hk := State.StepKept.panMode s.fallbackTold 2
      exact ⟨(State.rd_congr (f := F.DSP_SSTAT_FALLBACK) (hk.strip _ (.inl rfl))).trans hfb, (State.rd_congr (f := F.DSP_SCOUNT_FALLBACKS) (hk.strip _ (.inr (.inr (.inl rfl))))).trans hcnt,
        hmiss, hfail, fun _ => hm, fun h => absurd h Bool.noConfusion⟩
    | false =>
      have hview := s.fallbackTold.withNoMiss.panelRequest_requestView false
      have hpan := s.fallbackTold.withNoMiss.panelRequest_keepsLanes
      have hstate : s.fallbackTold.withNoMiss.rd F.DSP_PWRSTAT_STATE = s.rd F.DSP_PWRSTAT_STATE := s.fallbackTold_affects.rd (notEntry (by decide)) (by decide)
      refine ⟨(congrArg (fun x => x.2.2.2) hview).trans hfb, (State.rd_congr (f := F.DSP_SCOUNT_FALLBACKS) (congrArg (fun x => x.2.2.1) hview)).trans hcnt,
        congrArg (fun x => x.2.2.1) hpan, congrArg (fun x => x.2.2.2) hpan, fun h => absurd h Bool.noConfusion, fun _ h2 => ?_⟩
      have heq : s.fallbackTold.withNoMiss.panelRequest false = s.fallbackTold.withNoMiss.unturned.enterStep 9 := State.panelRequest_on _ (hstate.trans h2) false
      rw [if_neg Bool.false_ne_true, heq]
      exact ⟨(State.enterStep_begins _ (by decide)).step, (State.enterStep_dark _).1⟩

end Sys2Proof.Machine
end

section
/-! SUPPORT. The commands of the cab panel that write its registers, read its uniformity map and take its strip image (R400-R404). -/

namespace Sys2Proof.Machine

/-! ### The registers of the Bed window -/

/-- The description of DSP_PWR. -/
def dspPwrDesc : RegDesc := ⟨0x8, [], [.mkAny .rwp 31 31 0x0, .mkAny .rwp 30 30 0x0]⟩

/-- The description of DSP_SSTAT. -/
def dspSstatDesc : RegDesc := ⟨0x4, [], [.mkAny .w1c 5 5 0x0, .mkAny .w1c 4 4 0x0, .mkAny .w1c 3 3 0x0, .mkAny .w1c 2 2 0x0, .mkAny .w1c 1 1 0x0, .mkAny .w1c 0 0 0x0]⟩

theorem findReg_dspPwr : findReg (Reg.DSP_PWR / 0x1000) (Reg.DSP_PWR % 0x1000) = some dspPwrDesc := by decide

theorem findReg_dspSstat : findReg (Reg.DSP_SSTAT / 0x1000) (Reg.DSP_SSTAT % 0x1000) = some dspSstatDesc := by decide

theorem dspPwrDesc_fieldsApart : dspPwrDesc.fieldsApart := by
  unfold RegDesc.fieldsApart
  decide

theorem dspSstatDesc_fieldsApart : dspSstatDesc.fieldsApart := by
  unfold RegDesc.fieldsApart
  decide

/-- Where every encoding of every field is listed, a plain write is applied. -/
theorem State.plainWrite_any (s : State) {key : Nat} {d : RegDesc} (v : W32) (hd : findReg (key / 0x1000) (key % 0x1000) = some d)
    (hany : ∀ f ∈ d.fields, f.enc = .any) : s.plainWrite key v = s.applyWrite key v := by
  refine if_pos ?_
  unfold listedAt
  rw [hd]
  refine List.all_eq_true.mpr fun f hf => ?_
  rw [hany f hf]
  split <;> rfl

/-! ### The power requests (R403) -/

/-- DSP_PWR written. -/
def State.pwrWritten (s : State) (on mode : Bool) : State := s.done.applyWrite Reg.DSP_PWR (panelWord on mode)

theorem panelWord_bits (on mode : Bool) : bitAt (panelWord on mode).toNat 31 = on ∧ getBits (panelWord on mode) 31 31 = (if on then 1 else 0) ∧
    getBits (panelWord on mode) 30 30 = if mode then 1 else 0 := by
  cases on <;> cases mode <;> decide

theorem State.dsWrite_pwr (s : State) (on mode : Bool) : s.done.dsWrite 0x008 (panelWord on mode) = (s.pwrWritten on mode).panelRequest on := by
  have hw : s.done.plainWrite 0xE008 (panelWord on mode) = s.pwrWritten on mode :=
    s.done.plainWrite_any (key := Reg.DSP_PWR) _ findReg_dspPwr (by unfold dspPwrDesc; decide)
  have heq : s.done.dsWrite 0x008 (panelWord on mode) = (s.done.plainWrite 0xE008 (panelWord on mode)).panelRequest (bitAt (panelWord on mode).toNat 31) := rfl
  rw [heq, hw, (panelWord_bits on mode).1]

section
variable (s : State) (on mode : Bool)

theorem State.pwrWritten_affects : State.AffectsOnly {Reg.DSP_PWR} s.done (s.pwrWritten on mode) :=
  .applyWrite s.done _ (.inl rfl)

theorem State.pwrWritten_rd {f : Fld} (hb : ¬ entryBlock (f.addr / 0x1000)) (hf : f.addr ≠ Reg.DSP_PWR) : (s.pwrWritten on mode).rd f = s.rd f :=
  (s.pwrWritten_affects on mode).rd hb hf

theorem State.pwrWritten_pan : (s.pwrWritten on mode).pan = s.pan := (s.pwrWritten_affects on mode).part State.pan fun _ _ => rfl

theorem State.pwrWritten_shows : (s.pwrWritten on mode).on F.DSP_PWR_REQ = on ∧ (s.pwrWritten on mode).on F.DSP_PWR_MODE = mode := by
  obtain ⟨-, h31, h30⟩ := panelWord_bits on mode
  have hreq : (s.pwrWritten on mode).rd F.DSP_PWR_REQ = if on then 1 else 0 :=
    (s.done.getBits_applyWrite (f := .mkAny .rwp 31 31 0x0) _ findReg_dspPwr dspPwrDesc_fieldsApart (by decide) rfl).trans h31
  have hmode : (s.pwrWritten on mode).rd F.DSP_PWR_MODE = if mode then 1 else 0 :=
    (s.done.getBits_applyWrite (f := .mkAny .rwp 30 30 0x0) _ findReg_dspPwr dspPwrDesc_fieldsApart (by decide) rfl).trans h30
  unfold State.on
  rw [hreq, hmode]
  cases on <;> cases mode <;> decide

/-- A request is answered and shown, whatever it does. -/
theorem State.asked_shows : ((s.pwrWritten on mode).panelRequest on).resp = .done ∧ ((s.pwrWritten on mode).panelRequest on).on F.DSP_PWR_REQ = on ∧
    ((s.pwrWritten on mode).panelRequest on).on F.DSP_PWR_MODE = mode := by
  have hview := (s.pwrWritten on mode).panelRequest_requestView on
  have hreg : ((s.pwrWritten on mode).panelRequest on).reg Reg.DSP_PWR = (s.pwrWritten on mode).reg Reg.DSP_PWR := congrArg (fun x => x.2.1) hview
  obtain ⟨hreq, hmode⟩ := s.pwrWritten_shows on mode
  exact ⟨(congrArg Prod.fst hview).trans ((s.pwrWritten_affects on mode).part State.resp fun _ _ => rfl), (State.on_congr (State.rd_congr (f := F.DSP_PWR_REQ) hreg)).trans hreq,
    (State.on_congr (State.rd_congr (f := F.DSP_PWR_MODE) hreg)).trans hmode⟩

end

theorem execPanelPowerOn_asks (s : State) (a : Agent) (mode : Bool) (hacc : s.accepts a 0x0E 0x008 = true) :
    Completes (.panelPowerOn a mode) s (fun t => t.resp = .done ∧ t.on F.DSP_PWR_REQ = true ∧ t.on F.DSP_PWR_MODE = mode ∧ (s.rd F.DSP_PWRSTAT_STATE = 0 → t.rd F.DSP_PWRSTAT_STATE = 1 ∧ t.rd F.DSP_PWRSTAT_STEP = 1 ∧ t.pan.vdd = true ∧ t.pan.vddAt = s.now) ∧
      (s.rd F.DSP_PWRSTAT_STATE = 2 → t.pan = s.pan ∧ t.rd F.DSP_PWRSTAT_STATE = 2) ∧ (s.rd F.DSP_PWRSTAT_STATE = 1 → t.pan = { s.pan with owed := none }) ∧ (s.rd F.DSP_PWRSTAT_STATE = 3 → t.pan = { s.pan with owed := some true })) := by
  refine ⟨(s.pwrWritten true mode).panelRequest true, congrArg Host.Outcome.next ((State.gate_accepts _ hacc).trans (s.dsWrite_pwr true mode)), ?_⟩
  obtain ⟨hresp, hreq, hmode⟩ := s.asked_shows true mode
  have hstate : (s.pwrWritten true mode).rd F.DSP_PWRSTAT_STATE = s.rd F.DSP_PWRSTAT_STATE := s.pwrWritten_rd true mode (notEntry (by decide)) (by decide)
  have hpan := s.pwrWritten_pan true mode
  have hnow : (s.pwrWritten true mode).now = s.now := (s.pwrWritten_affects true mode).part State.now fun _ _ => rfl
  generalize s.pwrWritten true mode = w at *
  refine ⟨hresp, hreq, hmode, fun h => ?_, fun h => ?_, fun h => ?_, fun h => ?_⟩
  · have heq : w.panelRequest true = w.unturned.enterStep 1 := w.panelRequest_off (hstate.trans h) true
    have hb := w.unturned.enterStep_begins (k := 1) (by decide)
    rw [heq]
    exact ⟨hb.state, hb.step, w.unturned.enterStep_vdd.1, w.unturned.enterStep_vdd.2.trans ((w.unturned_affects.part State.now fun _ _ => rfl).trans hnow)⟩
  · have heq : w.panelRequest true = w := w.panelRequest_on (hstate.trans h) true
    rw [heq]
    exact ⟨hpan, hstate.trans h⟩
  · have heq : w.panelRequest true = w.withOwed none := w.panelRequest_up (hstate.trans h) true
    rw [heq]
    exact congrArg (fun p : Panel => { p with owed := none }) hpan
  · have h3 : w.rd F.DSP_PWRSTAT_STATE = 3 := hstate.trans h
    have heq : w.panelRequest true = w.withOwed (some true) := w.panelRequest_down (by rw [h3]; decide) true
    rw [heq]
    exact congrArg (fun p : Panel => { p with owed := some true }) hpan

theorem execPanelPowerOff_asks (s : State) (a : Agent) (mode : Bool) (hacc : s.accepts a 0x0E 0x008 = true) :
    Completes (.panelPowerOff a mode) s (fun t => t.resp = .done ∧ t.on F.DSP_PWR_REQ = false ∧ (s.rd F.DSP_PWRSTAT_STATE = 0 → t.pan = s.pan) ∧ (s.rd F.DSP_PWRSTAT_STATE = 2 → t.rd F.DSP_PWRSTAT_STATE = 3 ∧ t.rd F.DSP_PWRSTAT_STEP = 9 ∧ t.pan.bl = false ∧ t.rd F.DSP_PWRSTAT_MODE = 0) ∧
      (s.rd F.DSP_PWRSTAT_STATE = 1 → s.rd F.DSP_PWRSTAT_STEP = 5 → t.rd F.DSP_PWRSTAT_STEP = 11 ∧ t.rd F.DSP_PWRSTAT_REVAT = 5 ∧ t.pan.vgh = false) ∧
      (s.rd F.DSP_PWRSTAT_STATE = 1 → s.rd F.DSP_PWRSTAT_STEP ≠ 5 → t.pan = { s.pan with owed := some false }) ∧ (s.rd F.DSP_PWRSTAT_STATE = 3 → t.pan = { s.pan with owed := none })) := by
  refine ⟨(s.pwrWritten false mode).panelRequest false, congrArg Host.Outcome.next ((State.gate_accepts _ hacc).trans (s.dsWrite_pwr false mode)), ?_⟩
  obtain ⟨hresp, hreq, -⟩ := s.asked_shows false mode
  have hstate : (s.pwrWritten false mode).rd F.DSP_PWRSTAT_STATE = s.rd F.DSP_PWRSTAT_STATE := s.pwrWritten_rd false mode (notEntry (by decide)) (by decide)
  have hstep : (s.pwrWritten false mode).rd F.DSP_PWRSTAT_STEP = s.rd F.DSP_PWRSTAT_STEP := s.pwrWritten_rd false mode (notEntry (by decide)) (by decide)
  have hpan := s.pwrWritten_pan false mode
  generalize s.pwrWritten false mode = w at *
  refine ⟨hresp, hreq, fun h => ?_, fun h => ?_, fun h h5 => ?_, fun h h5 => ?_, fun h => ?_⟩
  · have heq : w.panelRequest false = w := w.panelRequest_off (hstate.trans h) false
    rw [heq]
    exact hpan
  · have heq : w.panelRequest false = w.unturned.enterStep 9 := w.panelRequest_on (hstate.trans h) false
    have hb := w.unturned.enterStep_begins (k := 9) (by decide)
    rw [heq]
    exact ⟨hb.state, hb.step, w.unturned.enterStep_dark⟩
  · have heq : w.panelRequest false = w.reverseAt 5 := (w.panelRequest_up (hstate.trans h) false).trans (if_pos (hstep.trans h5))
    obtain ⟨hs, hr, -⟩ := w.reverseAt_shows (k := 5) (by decide)
    rw [heq]
    exact ⟨hs, hr, (w.turned 5).enterStep_vgh_off⟩
  · have heq : w.panelRequest false = w.withOwed (some false) := (w.panelRequest_up (hstate.trans h) false).trans (if_neg fun h' => h5 (hstep.symm.trans h'))
    rw [heq]
    exact congrArg (fun p : Panel => { p with owed := some false }) hpan
  · have h3 : w.rd F.DSP_PWRSTAT_STATE = 3 := hstate.trans h
    have heq : w.panelRequest false = w.withOwed none := w.panelRequest_down (by rw [h3]; decide) false
    rw [heq]
    exact congrArg (fun p : Panel => { p with owed := none }) hpan

/-! ### The fallback flag cleared (R402) -/

theorem getBits_cleared (w v : W32) {i : Nat} (hv : bitAt v.toNat i = true) : getBits (w &&& ~~~ v) i i = 0 := by
  have hbit : v.getLsbD i = true := hv
  have hlt : getBits (w &&& ~~~ v) i i < 2 := (getBits_lt _ _ _).trans_eq (by rw [Nat.add_sub_cancel_left]; rfl)
  have hne : getBits (w &&& ~~~ v) i i ≠ 1 := of_decide_eq_false ((getBits_bit _ i).trans (by simp [BitVec.getLsbD_and, BitVec.getLsbD_not, hbit]))
  omega

theorem execFallbackClear_clears (s : State) (a : Agent) (v : W32) (hacc : s.accepts a 0x0E 0x004 = true) (hv : bitAt v.toNat F.DSP_SSTAT_FALLBACK.lo = true) :
    Completes (.fallbackClear a v) s (fun t => t.resp = .done ∧ t.rd F.DSP_SSTAT_FALLBACK = 0 ∧ t.pan = s.pan) := by
  have hw : s.done.plainWrite 0xE004 v = s.done.applyWrite Reg.DSP_SSTAT v :=
    s.done.plainWrite_any (key := Reg.DSP_SSTAT) v findReg_dspSstat (by unfold dspSstatDesc; decide)
  have heq : s.done.dsWrite 0x004 v = s.done.applyWrite Reg.DSP_SSTAT v := Eq.trans rfl hw
  have haff : State.AffectsOnly {Reg.DSP_SSTAT} s.done (s.done.applyWrite Reg.DSP_SSTAT v) := .applyWrite s.done v (.inl rfl)
  have hbits : getBits ((s.done.applyWrite Reg.DSP_SSTAT v).reg Reg.DSP_SSTAT) 4 4 = getBits (s.done.reg Reg.DSP_SSTAT &&& ~~~ v) 4 4 := by
    rw [s.done.applyWrite_reg_same v findReg_dspSstat, dspSstatDesc.written_eq_committed]
    exact RegDesc.getBits_committed (f := .mkAny .w1c 4 4 0x0) dspSstatDesc_fieldsApart (by decide) rfl
  exact ⟨_, congrArg Host.Outcome.next ((State.gate_accepts _ hacc).trans heq), haff.part State.resp fun _ _ => rfl, hbits.trans (getBits_cleared _ _ hv), haff.part State.pan fun _ _ => rfl⟩

/-! ### The uniformity map (R400) -/

theorem execMapload_waits (s : State) (d : Desc) (hrun : s.running 108 1 = some d) (hnew : s.pan.mapDesc ≠ some d) :
    Completes (.mapload) s (fun t => if s.pan.vdd = false then t = s.complete 108 d { status := 0x40, bytes := resultOf [(24, 4, (s.reg Reg.DSP_MAPSTAT).toNat)] }
      else t = { s with pan := { s.pan with mapDesc := some d, mapAgain := s.pan.mapAt.isNone } }) := by
  have heq : execMapload s = .next (if s.pan.vdd = false then s.complete 108 d { status := 0x40, bytes := resultOf [(24, 4, (s.reg Reg.DSP_MAPSTAT).toNat)] }
      else { s with pan := { s.pan with mapDesc := some d, mapAgain := s.pan.mapAt.isNone } }) := by
    unfold execMapload
    rw [hrun]
    exact congrArg Host.Outcome.next (if_neg hnew)
  refine ⟨_, heq, ?_⟩
  split <;> rfl

/-- A read that begins now. -/
def State.mapBegun (s : State) : State := { s with pan := { s.pan with mapAt := some s.now, mapAgain := false } }

theorem execUniformityMapRead_begins (s : State) (e : Bytes) (hcan : s.canopyOn = true) (hvdd : s.pan.vdd = true) (hnone : s.pan.mapAt = none)
    (hat : s.pan.vddAt + 10000000 ≤ s.now) (hwhy : s.rd F.DSP_MAPSTAT_STATE = 0 ∨ s.pan.mapAgain = true) :
    Completes (.uniformityMapRead e) s (fun t => t.pan.mapAt = some s.now ∧ t.pan.mapAgain = false ∧ t.rd F.DSP_MAPSTAT_STATE = 1 ∧ t.rd F.DSP_STAT_NOUNIF = 1 ∧ t.reg Reg.DSP_PANELID = 0) := by
  have heq : execUniformityMapRead e s = .next (s.mapBegun.mapDrop 1 0) := by
    unfold execUniformityMapRead
    rw [if_neg (by rw [hcan, hvdd]; decide), hnone]
    exact congrArg Host.Outcome.next (if_pos ⟨hat, hwhy⟩)
  obtain ⟨hstate, -, hno, hid⟩ := s.mapBegun.mapDrop_shows (st := 1) (cause := 0) (by decide) (by decide)
  have hpan : (s.mapBegun.mapDrop 1 0).pan = s.mapBegun.pan := (s.mapBegun.mapDrop_affects 1 0).part State.pan fun _ _ => rfl
  exact ⟨_, heq, congrArg Panel.mapAt hpan, congrArg Panel.mapAgain hpan, hstate, hno, hid⟩

/-- A read that has ended, before it is judged. -/
def State.mapEnded (s : State) : State := { s with pan := { s.pan with mapAt := none } }

theorem State.mapDone_idle (s : State) (status : Nat) (h : s.pan.mapDesc = none) : s.mapDone status = s := by
  unfold State.mapDone
  rw [h]

/-- What a map read shows that is bad for `cause`. -/
theorem State.mapBad_shows (s : State) {cause : Nat} (hc : cause < 4) : (s.mapBad cause).rd F.DSP_MAPSTAT_STATE = 3 ∧ (s.mapBad cause).rd F.DSP_MAPSTAT_CAUSE = cause ∧ (s.mapBad cause).pan = s.pan := by
  obtain ⟨hstate, hcause, -, -⟩ := s.mapDrop_shows (st := 3) (by decide) hc
  have he := (s.mapDrop 3 cause).dspEvent_affects (S := ∅) 4 0 false
  exact ⟨(he.rd (notEntry (by decide)) (Set.notMem_empty _)).trans hstate, (he.rd (notEntry (by decide)) (Set.notMem_empty _)).trans hcause,
    (he.part State.pan fun _ _ => rfl).trans ((s.mapDrop_affects 3 cause).part State.pan fun _ _ => rfl)⟩

/-- A map shown as valid, with the panel's number `id`. -/
def State.mapShown (s : State) (id : Nat) : State :=
  (((s.wr F.DSP_MAPSTAT_STATE 2).wr F.DSP_MAPSTAT_CAUSE 0).wr F.DSP_STAT_NOUNIF 0).setReg Reg.DSP_PANELID (BitVec.ofNat 32 id)

theorem State.mapShown_shows (s : State) (id : Nat) : (s.mapShown id).rd F.DSP_MAPSTAT_STATE = 2 ∧ (s.mapShown id).rd F.DSP_STAT_NOUNIF = 0 ∧
    (s.mapShown id).reg Reg.DSP_PANELID = BitVec.ofNat 32 id ∧ (s.mapShown id).mem = s.mem ∧ (s.mapShown id).pan = s.pan := by
  have hid (x : State) {f : Fld} (hf : f.addr ≠ Reg.DSP_PANELID) : (x.setReg Reg.DSP_PANELID (BitVec.ofNat 32 id)).rd f = x.rd f := State.rd_congr (x.reg_setReg_other _ hf)
  refine ⟨?_, ?_, State.reg_setReg_same _ _ _, rfl, rfl⟩
  · exact (hid _ (by decide)).trans ((State.rd_wr_other _ _ (by decide)).trans ((State.rd_wr_apart _ _ (by decide)).trans (State.rd_wr_fits _ (by decide) (by decide))))
  · exact (hid _ (by decide)).trans (State.rd_wr_fits _ (by decide) (by decide))

/-- A good map copied. -/
def State.mapGood (s : State) (a : Nat) (body : Bytes) (id : Nat) : State := (s.put a body).mapShown id

theorem State.mapGood_shows (s : State) (a : Nat) (body : Bytes) (id : Nat) : (s.mapGood a body id).rd F.DSP_MAPSTAT_STATE = 2 ∧ (s.mapGood a body id).rd F.DSP_STAT_NOUNIF = 0 ∧
    (s.mapGood a body id).reg Reg.DSP_PANELID = BitVec.ofNat 32 id ∧ (s.mapGood a body id).mem = (s.put a body).mem ∧ (s.mapGood a body id).pan = s.pan := by
  obtain ⟨hstate, hno, hid, hmem, hpan⟩ := (s.put a body).mapShown_shows id
  exact ⟨hstate, hno, hid, hmem, hpan.trans ((State.AffectsOnly.put (S := ∅) s a body).part State.pan fun _ _ => rfl)⟩

/-- A read judged. -/
def State.mapJudged (s : State) (e : Bytes) : State :=
  if leAt e 0 4 ≠ 0x31464E55 then s.mapEnded.mapBad 1
  else if leAt e 4 2 ≠ s.rd F.DSP_ACTIVE_HACT ∨ leAt e 6 2 ≠ s.rd F.DSP_ACTIVE_VACT then s.mapEnded.mapBad 2
  else if crc32 (fitBytes (leAt e 4 2 * leAt e 6 2) (e.drop 64)) ≠ leAt e 12 4 then s.mapEnded.mapBad 3
  else s.mapEnded.mapGood (s.rd F.DSP_MAPBASE_BASE * 4096) (fitBytes (leAt e 4 2 * leAt e 6 2) (e.drop 64)) (leAt e 8 4)

theorem State.mapEnd_eq (s : State) (e : Bytes) : s.mapEnd e = (s.mapJudged e).mapDone 0 := rfl

theorem State.mapJudged_pan (s : State) (e : Bytes) : (s.mapJudged e).pan = s.mapEnded.pan := by
  unfold State.mapJudged
  split
  · exact (s.mapEnded.mapBad_shows (by decide)).2.2
  · split
    · exact (s.mapEnded.mapBad_shows (by decide)).2.2
    · split
      · exact (s.mapEnded.mapBad_shows (by decide)).2.2
      · exact (s.mapEnded.mapGood_shows _ _ _).2.2.2.2

theorem execUniformityMapRead_ends (s : State) (e : Bytes) (t0 : Nat) (hcan : s.canopyOn = true) (hvdd : s.pan.vdd = true) (hat : s.pan.mapAt = some t0)
    (hdesc : s.pan.mapDesc = none) (hend : t0 + 400 * s.mapLen e ≤ s.now) :
    Completes (.uniformityMapRead e) s (fun t => t.pan.mapAt = none ∧ if leAt e 0 4 ≠ 0x31464E55 then t.rd F.DSP_MAPSTAT_STATE = 3 ∧ t.rd F.DSP_MAPSTAT_CAUSE = 1
      else if leAt e 4 2 ≠ s.rd F.DSP_ACTIVE_HACT ∨ leAt e 6 2 ≠ s.rd F.DSP_ACTIVE_VACT then t.rd F.DSP_MAPSTAT_STATE = 3 ∧ t.rd F.DSP_MAPSTAT_CAUSE = 2
      else if crc32 (fitBytes (leAt e 4 2 * leAt e 6 2) (e.drop 64)) ≠ leAt e 12 4 then t.rd F.DSP_MAPSTAT_STATE = 3 ∧ t.rd F.DSP_MAPSTAT_CAUSE = 3
      else t.rd F.DSP_MAPSTAT_STATE = 2 ∧ t.rd F.DSP_STAT_NOUNIF = 0 ∧ t.reg Reg.DSP_PANELID = BitVec.ofNat 32 (leAt e 8 4) ∧ t.mem = (s.put (s.rd F.DSP_MAPBASE_BASE * 4096) (fitBytes (leAt e 4 2 * leAt e 6 2) (e.drop 64))).mem) := by
  have hpan := s.mapJudged_pan e
  have hdone : s.mapEnd e = s.mapJudged e := (s.mapEnd_eq e).trans (State.mapDone_idle _ 0 ((congrArg Panel.mapDesc hpan).trans hdesc))
  have heq : execUniformityMapRead e s = .next (s.mapJudged e) := by
    unfold execUniformityMapRead
    rw [if_neg (by rw [hcan, hvdd]; decide), hat]
    exact congrArg Host.Outcome.next ((if_pos hend).trans hdone)
  refine ⟨_, heq, congrArg Panel.mapAt hpan, ?_⟩
  have hbad {cause : Nat} (hc : cause < 4) := s.mapEnded.mapBad_shows hc
  unfold State.mapJudged
  split
  · exact ⟨(hbad (by decide)).1, (hbad (by decide)).2.1⟩
  · split
    · exact ⟨(hbad (by decide)).1, (hbad (by decide)).2.1⟩
    · split
      · exact ⟨(hbad (by decide)).1, (hbad (by decide)).2.1⟩
      · obtain ⟨hstate, hno, hid, hmem, -⟩ := s.mapEnded.mapGood_shows (s.rd F.DSP_MAPBASE_BASE * 4096) (fitBytes (leAt e 4 2 * leAt e 6 2) (e.drop 64)) (leAt e 8 4)
        exact ⟨hstate, hno, hid, hmem.trans (State.put_mem_congr (s := s) (t := s.mapEnded) rfl rfl _ _)⟩

/-! ### The strip image (R401) -/

theorem State.imgReject_shows (s : State) (poison : Bool) : (s.imgReject poison).rd F.DSP_SSTAT_IMGREJ = 1 ∧ (s.imgReject poison).pan = s.pan := by
  have hp : State.AffectsOnly mapNoise s (if poison then s.dspPoison else s) := .ite _ (fun _ => s.dspPoison_affects) fun _ => .refl s
  refine ⟨State.flag_rd_same _ (by decide) rfl, ((State.AffectsOnly.flag (S := {Reg.DSP_SSTAT}) _ (stat := F.DSP_SSTAT_IMGREJ) F.DSP_SCTL_IE_IMG (.inl rfl)).part State.pan fun _ _ => rfl).trans
    (hp.part State.pan fun _ _ => rfl)⟩

/-- The strip taken to be looked at now. -/
def State.stripLooked (s : State) : State := { s with pan := { s.pan with lastStrip := some s.now } }

/-- The image `img` with sequence number `seq` taken. -/
def State.stripTaken (s : State) (img : Bytes) (seq : Nat) : State := ({ s with pan := { s.pan with strip := img } }).wr F.DSP_SSEQ_SEQ seq

theorem State.stripCheck_eq (s : State) (torn : Bool) (hok : s.memOk s.stripAddr (64 + 153600) = true) (hhead : s.mem.poisoned s.stripAddr 64 = false)
    (hnew : s.mem.readLe s.stripAddr 4 ≠ s.rd F.DSP_SSEQ_SEQ) (hsame : s.mem.readLe (s.stripAddr + 60) 4 = s.mem.readLe s.stripAddr 4) :
    s.stripCheck torn = if s.mem.poisoned (s.stripAddr + 64) 153600 = true then s.imgReject true
      else if torn = true ∨ (s.mem.readBytes (s.stripAddr + 64) 153600).any (fun b => bitAt b.toNat 3 || bitAt b.toNat 7) = true then s.imgReject false
      else s.stripTaken (s.mem.readBytes (s.stripAddr + 64) 153600) (s.mem.readLe s.stripAddr 4) := by
  have hbytes : stripBytes = 153600 := rfl
  unfold State.stripCheck State.stripTaken
  rw [hbytes]
  dsimp only
  rw [if_neg (by rw [hok]; decide), if_neg (by rw [hhead]; decide), if_neg (fun h => h.elim hnew fun h => h hsame)]

theorem execStripRefresh_refreshes (s : State) (torn : Bool) (hbed : s.bedOn = true) (hmode : s.rd F.DSP_PWRSTAT_MODE = 2) (hsec : s.now % 1000000000 = 0) (hlast : s.pan.lastStrip ≠ some s.now)
    (hok : s.memOk s.stripAddr (64 + 153600) = true) (hhead : s.mem.poisoned s.stripAddr 64 = false)
    (hnew : s.mem.readLe s.stripAddr 4 ≠ s.rd F.DSP_SSEQ_SEQ) (hsame : s.mem.readLe (s.stripAddr + 60) 4 = s.mem.readLe s.stripAddr 4) :
    Completes (.stripRefresh torn) s (fun t => t.pan.lastStrip = some s.now ∧
      if s.mem.poisoned (s.stripAddr + 64) 153600 = true ∨ torn = true ∨ (s.mem.readBytes (s.stripAddr + 64) 153600).any (fun b => bitAt b.toNat 3 || bitAt b.toNat 7) = true then t.rd F.DSP_SSTAT_IMGREJ = 1 ∧ t.pan.strip = s.pan.strip
      else t.pan.strip = s.mem.readBytes (s.stripAddr + 64) 153600 ∧ t.rd F.DSP_SSEQ_SEQ = s.mem.readLe s.stripAddr 4) := by
  have hcheck := s.stripLooked.stripCheck_eq torn hok hhead hnew hsame
  have heq : execStripRefresh torn s = .next ((s.stripLooked.stripCheck torn).lastPackets ((s.stripLooked.stripCheck torn).pan.vact - 1) (fun c => (s.stripLooked.stripCheck torn).stripPixel 119 c)) := by
    refine congrArg Host.Outcome.next ((if_neg ?_).trans rfl)
    rw [hbed, hmode, hsec]
    exact fun h => h.elim (absurd · (by decide)) fun h => h.elim (absurd rfl ·) fun h => h.elim (absurd rfl ·) hlast
  refine ⟨_, heq, ?_⟩
  generalize s.stripLooked.stripCheck torn = u at hcheck
  have haff := u.lastPackets_affects (u.pan.vact - 1) fun c => u.stripPixel 119 c
  have hpan := u.lastPackets_pan (u.pan.vact - 1) fun c => u.stripPixel 119 c
  generalize u.lastPackets (u.pan.vact - 1) (fun c => u.stripPixel 119 c) = t at haff hpan
  have hsstat : t.rd F.DSP_SSTAT_IMGREJ = u.rd F.DSP_SSTAT_IMGREJ := haff.rd (notEntry (by decide)) (by unfold laneNoise; decide)
  have hsseq : t.rd F.DSP_SSEQ_SEQ = u.rd F.DSP_SSEQ_SEQ := haff.rd (notEntry (by decide)) (by unfold laneNoise; decide)
  have hreject (p : Bool) (hu : u = s.stripLooked.imgReject p) : t.pan.lastStrip = some s.now ∧ t.rd F.DSP_SSTAT_IMGREJ = 1 ∧ t.pan.strip = s.pan.strip := by
    obtain ⟨hflag, hp⟩ := s.stripLooked.imgReject_shows p
    subst hu
    exact ⟨congrArg Panel.lastStrip (hpan.trans hp), hsstat.trans hflag, (congrArg Panel.strip (hpan.trans hp)).trans rfl⟩
  by_cases hpois : s.mem.poisoned (s.stripAddr + 64) 153600 = true
  · rw [if_pos (.inl hpois)]
    exact hreject true (hcheck.trans (if_pos hpois))
  · by_cases hbad : torn = true ∨ (s.mem.readBytes (s.stripAddr + 64) 153600).any (fun b => bitAt b.toNat 3 || bitAt b.toNat 7) = true
    · rw [if_pos (.inr hbad)]
      exact hreject false (hcheck.trans ((if_neg hpois).trans (if_pos hbad)))
    · rw [if_neg fun h => h.elim hpois hbad]
      have hu : u = s.stripLooked.stripTaken (s.mem.readBytes (s.stripAddr + 64) 153600) (s.mem.readLe s.stripAddr 4) := hcheck.trans ((if_neg hpois).trans (if_neg hbad))
      have hseq : s.mem.readLe s.stripAddr 4 < 2 ^ 32 := (leValue_lt _).trans_eq (by rw [Memory.length_readBytes]; rfl)
      subst hu
      exact ⟨congrArg Panel.lastStrip hpan, congrArg Panel.strip hpan, hsseq.trans (State.rd_wr_fits _ (by decide) hseq)⟩

end Sys2Proof.Machine
end

section
/-! SUPPORT. Frames of the cab panel (R391, R397-R399, R402): what a composition and the scan of a frame leave as they are, and what they show. -/

namespace Sys2Proof.Machine

/-! ### Composition (R397, R400, R406) -/

section
variable (s : State)

theorem State.countLayerPoison_affects (c : Comp) : State.AffectsOnly Set.univ s (s.countLayerPoison c) :=
  .foldl _ (fun x k => .foldl _ (fun y _ => .ite _ (fun _ => (State.AffectsOnly.inc (S := Set.univ) y (f := F.DSP_Lk_POISLN_CNT k) (.inl trivial)).trans ((State.dspPoison_affects _).mono (Set.subset_univ _)))
    fun _ => .refl y) _ x) _ s

theorem State.mapPoison_affects : State.AffectsOnly Set.univ s s.mapPoison :=
  .ite _ (fun _ => (((s.mapDrop_affects 3 3).mono (Set.subset_univ _)).trans (State.dspEvent_affects _ 4 0 false)).trans ((State.dspPoison_affects _).mono (Set.subset_univ _))) fun _ => .refl s

theorem State.writeBand_front (src : State) (c : Comp) (unif : Bool) (f b : Nat) : (s.writeBand src c unif f b).pan.front = s.pan.front := by
  unfold State.writeBand
  extract_lets rows t
  have h : t.pan.front = s.pan.front := congrArg Panel.front ((State.AffectsOnly.put (S := ∅) s (s.bandSpan f b).1 rows).part State.pan fun _ _ => rfl)
  exact h

/-- The bands of a composition written. -/
def State.bandsWritten (t : State) (c : Comp) (unif : Bool) : State :=
  (List.range 32).foldl (fun x b => if 0 < (s.band b).2 then x.writeBand t c unif s.backBuffer b else x) t

theorem State.bandsWritten_front (t : State) (c : Comp) (unif : Bool) : (s.bandsWritten t c unif).pan.front = t.pan.front :=
  List.foldlRecOn (motive := fun x : State => x.pan.front = t.pan.front) (List.range 32) _ rfl fun x hx b _ => by
    split
    · exact (x.writeBand_front t c unif _ b).trans hx
    · exact hx

/-- A composition that has ended. -/
def State.withBuilt (u : State) : State := { u with free := u.free + 10 * s.pan.hact * s.pan.vact, pan := { u.pan with comp := none, built := true } }

theorem State.dropLayer_pan (c : Comp) : (s.dropLayer c).pan = s.pan := by
  unfold State.dropLayer
  split <;> rfl

theorem State.measured_shows {last peakF : Fld} (v : Nat) (hl : last.hi < 32) (h : peakF.apart last = true) : (s.measured last peakF v).rd last = min v (maxOf last.width) :=
  (State.rd_wr_apart _ _ h).trans (s.rd_wrSat_same last v hl)

/-- The layers and the map looked over, before the bands are written. -/
def State.looked (c : Comp) : State := (s.countLayerPoison c).mapPoison

theorem State.looked_pan (c : Comp) : (s.looked c).pan = s.pan := ((s.countLayerPoison_affects c).trans (State.mapPoison_affects _)).part State.pan fun _ _ => rfl

/-- The frame composed. -/
def State.composedAll (c : Comp) : State := s.withBuilt (s.bandsWritten (s.looked c) c (decide ((s.looked c).rd F.DSP_MAPSTAT_STATE = 2)))

theorem State.composedAll_pan (c : Comp) : (s.composedAll c).pan.comp = none ∧ (s.composedAll c).pan.built = true ∧ (s.composedAll c).pan.front = s.pan.front :=
  ⟨rfl, rfl, (s.bandsWritten_front _ c _).trans (congrArg Panel.front (s.looked_pan c))⟩

end

theorem execFrameCompose_composes (s : State) (c : Comp) (hc : s.pan.comp = some c) (hup : s.engineUp 4 = true) (hen : s.on F.DSP_CTL_EN = true) :
    Completes (.frameCompose) s (fun t => t.pan.comp = none ∧ t.pan.built = true ∧ t.pan.front = s.pan.front ∧ t.rd F.DSP_COMPTIME_LAST = min ((s.now - c.start) / 10000) (maxOf F.DSP_COMPTIME_LAST.width)) := by
  have heq : execFrameCompose s = .next (((s.composedAll c).dropLayer c).measured F.DSP_COMPTIME_LAST F.DSP_COMPTIME_PEAK ((s.now - c.start) / 10000)) := by
    unfold execFrameCompose
    rw [hc]
    refine congrArg Host.Outcome.next ((if_neg ?_).trans rfl)
    rw [hup, hen]
    decide
  obtain ⟨hcomp, hbuilt, hfront⟩ := s.composedAll_pan c
  have hpan : (((s.composedAll c).dropLayer c).measured F.DSP_COMPTIME_LAST F.DSP_COMPTIME_PEAK ((s.now - c.start) / 10000)).pan = (s.composedAll c).pan :=
    ((State.AffectsOnly.measured (S := Set.univ) ((s.composedAll c).dropLayer c) _ (.inl trivial) (.inl trivial)).part State.pan fun _ _ => rfl).trans (State.dropLayer_pan _ c)
  exact ⟨_, heq, (congrArg Panel.comp hpan).trans hcomp, (congrArg Panel.built hpan).trans hbuilt, (congrArg Panel.front hpan).trans hfront, State.measured_shows _ _ (by decide) (by decide)⟩

/-! ### What a frame keeps -/

/-- What of the panel a frame's start sets beside the composition. -/
def Panel.frameView (p : Panel) : Option Nat × Bool × Option Nat × Bool × Bool := (p.lastFrame, p.pol, p.front, p.built, p.again)

/-- `t` has the frame's view of the panel, its composition and the frame number as `s` has them. -/
structure State.FrameKept (s t : State) : Prop where
  view : t.pan.frameView = s.pan.frameView
  comp : t.pan.comp = s.pan.comp
  seq : t.reg Reg.DSP_FSEQ = s.reg Reg.DSP_FSEQ

/-- All registers but the frame number. -/
def notFseq : Set Nat := {k | k ≠ Reg.DSP_FSEQ}

namespace State.FrameKept

variable {s t u : State}

theorem refl (s : State) : FrameKept s s := ⟨rfl, rfl, rfl⟩

theorem trans (h : FrameKept s t) (h' : FrameKept t u) : FrameKept s u := ⟨h'.view.trans h.view, h'.comp.trans h.comp, h'.seq.trans h.seq⟩

theorem ite (c : Prop) [Decidable c] (h : c → FrameKept s t) (h' : ¬ c → FrameKept s u) : FrameKept s (if c then t else u) := by
  split
  · exact h ‹_›
  · exact h' ‹_›

theorem foldl {α : Type*} (f : State → α → State) (h : ∀ (x : State) a, FrameKept x (f x a)) (l : List α) (s : State) : FrameKept s (l.foldl f s) :=
  List.foldlRecOn (motive := fun x : State => FrameKept s x) l f (refl s) fun x hx a _ => hx.trans (h x a)

theorem of_affects {S : Set Nat} (h : AffectsOnly S s t) (hS : Reg.DSP_FSEQ ∉ S) : FrameKept s t :=
  ⟨congrArg Panel.frameView (h.part State.pan fun _ _ => rfl), congrArg Panel.comp (h.part State.pan fun _ _ => rfl), h.reg _ (notEntry (by decide)) hS⟩

theorem of_rest (h : AffectsOnly notFseq s t) : FrameKept s t := of_affects h fun h => h rfl

theorem withPan (s : State) (p : Panel) (h : p.frameView = s.pan.frameView) (hc : p.comp = s.pan.comp) : FrameKept s { s with pan := p } := ⟨h, hc, rfl⟩

theorem wr (s : State) {f : Fld} (v : Nat) (h : f.addr ≠ Reg.DSP_FSEQ) : FrameKept s (s.wr f v) := of_rest (.wr s v (.inl h))

theorem lastPackets (s : State) (line : Nat) (px : Nat → Nat) : FrameKept s (s.lastPackets line px) :=
  of_affects (s.lastPackets_affects line px) (by unfold laneNoise; decide)

theorem sendGamma (s : State) : FrameKept s s.sendGamma := .ite _ (fun _ => withPan s _ rfl rfl) fun _ => .refl s

theorem panMode (s : State) (m : Nat) : FrameKept s (s.panMode m) :=
  (FrameKept.trans (t := s.withNoMiss) (withPan s _ rfl rfl) (wr s.withNoMiss (f := F.DSP_PWRSTAT_MODE) m (by decide))).trans (withPan _ _ rfl rfl)

theorem frameMode (s : State) : FrameKept s s.frameMode := by
  unfold State.frameMode
  split
  · exact refl s
  · split
    · exact .ite _ (fun _ => panMode s 1) fun _ => .refl s
    · exact .ite _ (fun _ => panMode s 2) fun _ => .refl s
    · exact refl s

theorem imgReject (s : State) (poison : Bool) : FrameKept s (s.imgReject poison) :=
  (of_affects (S := mapNoise) (.ite _ (fun _ => s.dspPoison_affects) fun _ => .refl s) (by unfold mapNoise; decide)).trans
    (of_rest (.flag _ (stat := F.DSP_SSTAT_IMGREJ) _ (.inl (by unfold notFseq; decide))))

theorem stripTaken (s : State) (img : Bytes) (seq : Nat) : FrameKept s (s.stripTaken img seq) :=
  FrameKept.trans (withPan s { s.pan with strip := img } rfl rfl) (wr _ _ (by decide))

theorem stripCheck (s : State) (torn : Bool) : FrameKept s (s.stripCheck torn) := by
  unfold State.stripCheck
  dsimp only
  split
  · exact refl s
  · split
    · exact imgReject s true
    · split
      · exact refl s
      · split
        · exact imgReject s true
        · split
          · exact imgReject s false
          · exact stripTaken s _ _

end State.FrameKept

/-! ### The strip unit's frame in FULL (R398, R402) -/

/-- Lines not delivered, counted. -/
def State.lostTold (s : State) (n : Nat) : State := if n = 0 then s else (s.incBy F.DSP_SCOUNT_UNDER n).wr F.DSP_SSTAT_UNDER 1

theorem State.lostTold_kept (s : State) (n : Nat) : State.FrameKept s (s.lostTold n) :=
  .ite _ (fun _ => .refl s) fun _ => (State.FrameKept.wr s (f := F.DSP_SCOUNT_UNDER) _ (by decide)).trans (.wr _ _ (by decide))

theorem State.FrameKept.fullFrame (s : State) (late : List Nat) (torn : Bool) : FrameKept s (s.fullFrame late torn) := by
  unfold State.fullFrame
  extract_lets t given lost u _ v
  have ht : FrameKept s t := .ite _ (fun _ => .stripCheck s torn) fun _ => .refl s
  have hu : FrameKept t u := t.lostTold_kept lost
  have hv : FrameKept u v := .withPan u { u.pan with missed := if lost = 0 then 0 else u.pan.missed + 1 } rfl rfl
  exact ((ht.trans hu).trans hv).trans (.lastPackets v _ _)

end Sys2Proof.Machine
end

section
/-! SUPPORT. The start of a panel frame (R391, R398, R399). -/

namespace Sys2Proof.Machine

/-! ### Bands checked (R399) -/

theorem notFseq_crc (b : Nat) : Reg.DSP_CRCb b ∈ notFseq := by
  unfold Reg.DSP_CRCb notFseq Reg.DSP_FSEQ
  simp only [Set.mem_ofPred_eq]
  omega

theorem mapNoise_sub : mapNoise ⊆ notFseq := fun k hk => by rcases hk with rfl | rfl | rfl | rfl <;> unfold notFseq <;> decide

theorem State.countRowPoison_affects (s : State) (f b : Nat) : State.AffectsOnly notFseq s (s.countRowPoison f b) :=
  .foldl _ (fun x _ => .ite _ (fun _ => x.dspPoison_affects.mono mapNoise_sub) fun _ => .refl x) _ s

/-- A band that is wrong, counted and told. -/
def State.bandTold (s : State) (f b : Nat) : State :=
  (((((s.countRowPoison f b).inc (F.DSP_CRCb_MISS b)).inc (F.DSP_CRCb_RUN b)).inc F.DSP_CRCERRCNT_CNT).flag F.DSP_STAT_CRCERR F.DSP_CTL_IE_CRC).dspEvent 1 b false

theorem State.bandTold_affects (s : State) (f b : Nat) : State.AffectsOnly notFseq s (s.bandTold f b) :=
  (((((s.countRowPoison_affects f b).trans (.inc _ (f := F.DSP_CRCb_MISS b) (.inl (notFseq_crc b)))).trans (.inc _ (f := F.DSP_CRCb_RUN b) (.inl (notFseq_crc b)))).trans
    (.inc _ (f := F.DSP_CRCERRCNT_CNT) (.inl (by unfold notFseq; decide)))).trans (.flag _ (stat := F.DSP_STAT_CRCERR) _ (.inl (by unfold notFseq; decide)))).trans (State.dspEvent_affects _ 1 b false)

/-- A band that failed for good, told, with the test of its memory. -/
def State.bandFailed (s : State) (b res : Nat) : State :=
  ((((s.wr F.DSP_CRCFAIL_VALID 1).wr F.DSP_CRCFAIL_BAND b).flag F.DSP_STAT_CRCFAIL F.DSP_CTL_IE_CRC).dspEvent 2 b true).triggerTest res

theorem State.bandFailed_affects (s : State) (b res : Nat) : State.AffectsOnly notFseq s (s.bandFailed b res) :=
  ((((State.AffectsOnly.wr s (f := F.DSP_CRCFAIL_VALID) _ (.inl (by unfold notFseq; decide))).trans (.wr _ (f := F.DSP_CRCFAIL_BAND) _ (.inl (by unfold notFseq; decide)))).trans
    (.flag _ (stat := F.DSP_STAT_CRCFAIL) _ (.inl (by unfold notFseq; decide)))).trans (State.dspEvent_affects _ 2 b true)).trans (.triggerTest _ _)

theorem State.FrameKept.checkBand (s : State) (f b : Nat) : FrameKept s (s.checkBand f b) := by
  have htold : FrameKept s (s.bandTold f b) := .of_rest (s.bandTold_affects f b)
  have hfail (x : State) (res : Nat) : FrameKept x { x.bandFailed b res with pan := { (x.bandFailed b res).pan with failed := true } } :=
    FrameKept.trans (.of_rest (x.bandFailed_affects b res)) (.withPan (x.bandFailed b res) { (x.bandFailed b res).pan with failed := true } rfl rfl)
  unfold State.checkBand
  split
  · exact refl s
  · split
    · exact .of_rest (.wr s (f := F.DSP_CRCb_RUN b) 0 (.inl (notFseq_crc b)))
    · exact .ite _ (fun _ => htold.trans (hfail _ _)) fun _ => htold

/-! ### The engine's scan (R398) -/

/-- The frame to be scanned chosen. -/
def State.scanChosen (s : State) : State :=
  if s.pan.again then { s.inc F.DSP_REPEAT_CNT with pan := { s.pan with again := false } }
  else if s.pan.built then { s with pan := { s.pan with front := some s.backBuffer, built := false } }
  else if s.pan.front.isSome then s.inc F.DSP_REPEAT_CNT else s

/-- The frame number and the frame count advanced. -/
def State.frameNumbered (s : State) : State := (s.wr F.DSP_FSEQ_SEQ (s.rd F.DSP_FSEQ_SEQ + 1)).wideAdd Reg.DSP_FRAMECNT_LO 1

/-- The frame in buffer `f` scanned and checked. -/
def State.frameScanned (s : State) (f late : Nat) : State := ((List.range 32).foldl (fun x b => x.checkBand f b) s.frameNumbered).incBy F.DSP_LATE_CNT late

theorem State.engineScan_eq (s : State) (late : Nat) : s.engineScan late =
    match s.scanChosen.pan.front with
    | none => s.scanChosen
    | some f => s.scanChosen.frameScanned f late := by
  unfold State.engineScan State.scanChosen
  rfl

theorem State.frameScanned_kept (s : State) (f late : Nat) : State.FrameKept s.frameNumbered (s.frameScanned f late) :=
  (State.FrameKept.foldl _ (fun x b => .checkBand x f b) _ _).trans (.wr _ (f := F.DSP_LATE_CNT) _ (by decide))

theorem State.frameScanned_pan (s : State) (f late : Nat) : (s.frameScanned f late).pan.frameView = s.pan.frameView ∧ (s.frameScanned f late).pan.comp = s.pan.comp :=
  ⟨(s.frameScanned_kept f late).view, (s.frameScanned_kept f late).comp⟩

theorem State.frameScanned_seq (s : State) (f late : Nat) : (s.frameScanned f late).rd F.DSP_FSEQ_SEQ = (s.rd F.DSP_FSEQ_SEQ + 1) % 2 ^ 32 :=
  (State.rd_congr (f := F.DSP_FSEQ_SEQ) (s.frameScanned_kept f late).seq).trans (s.rd_wr_same F.DSP_FSEQ_SEQ (s.rd F.DSP_FSEQ_SEQ + 1) (by decide))

/-- The frame's time, the polarity and the composition, of a panel. -/
def Panel.startView (p : Panel) : Option Nat × Bool := (p.lastFrame, p.pol)

theorem Panel.startView_of {p q : Panel} (h : p.frameView = q.frameView) : p.startView = q.startView :=
  congrArg (fun x : Option Nat × Bool × Option Nat × Bool × Bool => (x.1, x.2.1)) h

theorem State.scanChosen_pan (s : State) : s.scanChosen.pan.startView = s.pan.startView ∧ s.scanChosen.pan.comp = s.pan.comp := by
  unfold State.scanChosen
  split
  · exact ⟨rfl, rfl⟩
  · split
    · exact ⟨rfl, rfl⟩
    · split <;> exact ⟨rfl, rfl⟩

theorem State.engineScan_start (s : State) (late : Nat) : (s.engineScan late).pan.startView = s.pan.startView ∧ (s.engineScan late).pan.comp = s.pan.comp := by
  obtain ⟨hview, hcomp⟩ := s.scanChosen_pan
  rw [s.engineScan_eq late]
  split
  · exact ⟨hview, hcomp⟩
  · obtain ⟨hv, hc⟩ := s.scanChosen.frameScanned_pan ‹_› late
    exact ⟨(Panel.startView_of hv).trans hview, hc.trans hcomp⟩

/-- A frame that is complete is scanned. -/
theorem State.engineScan_shows (s : State) (late : Nat) (hagain : s.pan.again = false) (hbuilt : s.pan.built = true) :
    (s.engineScan late).pan.front = some s.backBuffer ∧ (s.engineScan late).pan.built = false ∧ (s.engineScan late).rd F.DSP_FSEQ_SEQ = (s.rd F.DSP_FSEQ_SEQ + 1) % 2 ^ 32 := by
  have hc : s.scanChosen = { s with pan := { s.pan with front := some s.backBuffer, built := false } } :=
    (if_neg (by rw [hagain]; exact Bool.false_ne_true)).trans (if_pos hbuilt)
  have hfront : s.scanChosen.pan.front = some s.backBuffer := by rw [hc]
  have hnew : s.scanChosen.pan.built = false := by rw [hc]
  have hseq : s.scanChosen.rd F.DSP_FSEQ_SEQ = s.rd F.DSP_FSEQ_SEQ := by
    rw [hc]
    exact State.rd_congr (f := F.DSP_FSEQ_SEQ) rfl
  have heq : s.engineScan late = s.scanChosen.frameScanned s.backBuffer late := by rw [s.engineScan_eq late, hfront]
  rw [heq]
  have hv := (s.scanChosen.frameScanned_pan s.backBuffer late).1
  exact ⟨(congrArg (fun x => x.2.2.1) hv).trans hfront, (congrArg (fun x => x.2.2.2.1) hv).trans hnew, by rw [State.frameScanned_seq, hseq]⟩

/-! ### A composition that starts (R397) -/

theorem notFseq_layer (i : Nat) : Reg.DSP_Lk_USED i ∈ notFseq ∧ Reg.DSP_Lk_AGE i ∈ notFseq := by
  unfold Reg.DSP_Lk_USED Reg.DSP_Lk_AGE notFseq Reg.DSP_FSEQ
  simp only [Set.mem_ofPred_eq]
  constructor <;> omega

/-- The layers' bases in use. -/
def State.layersUsed (s : State) : State := (List.range 2).foldl (fun x i => x.wr (F.DSP_Lk_USED_VAL (i + 1)) (s.rd (F.DSP_Lk_BASE_BASE (i + 1)))) s

theorem State.layersUsed_affects (s : State) : State.AffectsOnly notFseq s s.layersUsed :=
  .foldl _ (fun x i => .wr x (f := F.DSP_Lk_USED_VAL (i + 1)) _ (.inl (notFseq_layer _).1)) _ s

/-- The camera's picture in use. -/
def State.cameraUsed (s : State) (seq age key : Nat) : State :=
  ((s.wr (F.DSP_Lk_USED_VAL 0) seq).measured (F.DSP_Lk_AGE_LAST 0) (F.DSP_Lk_AGE_PEAK 0) age).holdSlot key

theorem State.cameraUsed_shows (s : State) (seq age key : Nat) : (s.cameraUsed seq age key).pan = s.pan ∧ (s.cameraUsed seq age key).reg Reg.DSP_FSEQ = s.reg Reg.DSP_FSEQ := by
  have h : State.AffectsOnly notFseq s ((s.wr (F.DSP_Lk_USED_VAL 0) seq).measured (F.DSP_Lk_AGE_LAST 0) (F.DSP_Lk_AGE_PEAK 0) age) :=
    (State.AffectsOnly.wr s (f := F.DSP_Lk_USED_VAL 0) _ (.inl (notFseq_layer _).1)).trans (.measured _ (f := F.DSP_Lk_AGE_LAST 0) (g := F.DSP_Lk_AGE_PEAK 0) _ (.inl (notFseq_layer _).2) (.inl (notFseq_layer _).2))
  exact ⟨h.part State.pan fun _ _ => rfl, h.reg _ (notEntry (by decide)) fun h => h rfl⟩

/-- A composition under way. -/
def State.withComp (s : State) (c : Comp) : State := { s with pan := { s.pan with comp := some c } }

theorem State.withComp_pan {s t : State} (c : Comp) (h : t.pan = s.pan) : (t.withComp c).pan = { s.pan with comp := some c } := by
  unfold State.withComp
  rw [h]

theorem State.startComp_shows (s : State) : (∃ c, s.startComp.pan = { s.pan with comp := some c }) ∧ s.startComp.reg Reg.DSP_FSEQ = s.reg Reg.DSP_FSEQ := by
  have hused := s.layersUsed_affects
  have hpan : s.layersUsed.pan = s.pan := hused.part State.pan fun _ _ => rfl
  have hseq : s.layersUsed.reg Reg.DSP_FSEQ = s.reg Reg.DSP_FSEQ := hused.reg _ (notEntry (by decide)) fun h => h rfl
  unfold State.startComp
  dsimp only
  split
  · next k _ =>
    obtain ⟨hp, hs⟩ := s.layersUsed.cameraUsed_shows (s.slotInfo (slotKey (s.rd (F.DSP_Lk_CTL_LINK 0)) 0 k)).fseq
      ((s.now - (s.slotInfo (slotKey (s.rd (F.DSP_Lk_CTL_LINK 0)) 0 k)).tfs) / 1000000) (slotKey (s.rd (F.DSP_Lk_CTL_LINK 0)) 0 k)
    exact ⟨⟨_, State.withComp_pan _ (hp.trans hpan)⟩, hs.trans hseq⟩
  · exact ⟨⟨_, State.withComp_pan _ hpan⟩, hseq⟩

/-! ### The frame's start -/

/-- The start of a frame noted. -/
def State.frameNoted (s : State) : State := { s with pan := { s.pan with lastFrame := some s.now, pol := s.polNext } }

/-- The frame in the mode it is shown in. -/
def State.framePrepared (s : State) : State := s.frameNoted.sendGamma.frameMode

/-- The engine's part of a frame's start. -/
def State.engineFrame (s : State) (late : Nat) : State :=
  if (s.engineScan late).pan.comp.isNone then (s.engineScan late).startComp else s.engineScan late

/-- What decides whether the engine delivers. -/
def State.engineView (s : State) : Bool × List Nat × W32 := (s.canopyOn, s.hlt.engOff, s.reg Reg.DSP_CTL)

theorem State.panMode_engineView (s : State) (m : Nat) : (s.panMode m).engineView = s.engineView := by
  have hreg : (s.panMode m).reg Reg.DSP_CTL = s.reg Reg.DSP_CTL := s.withNoMiss.reg_wr_other (f := F.DSP_PWRSTAT_MODE) m (by decide)
  unfold State.engineView
  rw [hreg]
  rfl

theorem State.framePrepared_engineView (s : State) : s.framePrepared.engineView = s.engineView := by
  have hgamma : s.frameNoted.sendGamma.engineView = s.engineView := by
    unfold State.sendGamma
    split <;> rfl
  refine Eq.trans ?_ hgamma
  unfold State.framePrepared State.frameMode
  split
  · rfl
  · split
    · split
      · exact State.panMode_engineView _ 1
      · rfl
    · split
      · exact State.panMode_engineView _ 2
      · rfl
    · rfl

theorem State.engineView_congr {s t : State} (h : t.engineView = s.engineView) : t.engineUp 4 = s.engineUp 4 ∧ t.on F.DSP_CTL_EN = s.on F.DSP_CTL_EN := by
  obtain ⟨hc, he, hr⟩ := Prod.mk.inj h |>.imp id Prod.mk.inj
  unfold State.engineUp
  rw [hc, he]
  exact ⟨rfl, State.on_congr (State.rd_congr (f := F.DSP_CTL_EN) hr)⟩

theorem State.framePrepared_kept (s : State) : State.FrameKept s.frameNoted s.framePrepared := (State.FrameKept.sendGamma _).trans (.frameMode _)

theorem State.framePrepared_start (s : State) : s.framePrepared.pan.startView = (some s.now, s.polNext) := Panel.startView_of s.framePrepared_kept.view

theorem State.engineFrame_start (s : State) (late : Nat) : (s.engineFrame late).pan.startView = s.pan.startView ∧ (s.engineFrame late).pan.comp.isSome = true := by
  obtain ⟨hview, -⟩ := s.engineScan_start late
  unfold State.engineFrame
  split
  · obtain ⟨⟨c, hc⟩, -⟩ := (s.engineScan late).startComp_shows
    exact ⟨(congrArg Panel.startView hc).trans hview, congrArg (fun p : Panel => p.comp.isSome) hc⟩
  · next h => exact ⟨hview, Option.isSome_iff_ne_none.mpr fun hn => h (Option.isNone_iff_eq_none.mpr hn)⟩

theorem State.engineFrame_shows (s : State) (late : Nat) (hagain : s.pan.again = false) (hbuilt : s.pan.built = true) :
    (s.engineFrame late).pan.front = some s.backBuffer ∧ (s.engineFrame late).pan.built = false ∧ (s.engineFrame late).rd F.DSP_FSEQ_SEQ = (s.rd F.DSP_FSEQ_SEQ + 1) % 2 ^ 32 := by
  have hscan := s.engineScan_shows late hagain hbuilt
  unfold State.engineFrame
  split
  · obtain ⟨⟨c, hc⟩, hseq⟩ := (s.engineScan late).startComp_shows
    obtain ⟨hf, hb, hs⟩ := hscan
    exact ⟨(congrArg Panel.front hc).trans hf, (congrArg Panel.built hc).trans hb, (State.rd_congr (f := F.DSP_FSEQ_SEQ) hseq).trans hs⟩
  · exact hscan

/-- The frame as the engine leaves it. -/
def State.frameEngined (s : State) (late : Nat) : State := if s.engineUp 4 ∧ s.on F.DSP_CTL_EN = true then s.engineFrame late else s

theorem execPanelFrameStart_starts (s : State) (late : List Nat) (torn : Bool) (hbed : s.bedOn = true) (hnow : s.frameNow = true) (hlast : s.pan.lastFrame ≠ some s.now) :
    Completes (.panelFrameStart late torn) s (fun t => t.pan.lastFrame = some s.now ∧ t.pan.pol = s.polNext ∧ (s.engineUp 4 = true → s.on F.DSP_CTL_EN = true → s.pan.again = false → t.pan.comp.isSome = true ∧
      (s.pan.built = true → t.pan.front = some s.backBuffer ∧ t.pan.built = false ∧ t.rd F.DSP_FSEQ_SEQ = (s.rd F.DSP_FSEQ_SEQ + 1) % 2 ^ 32))) := by
  have heq : execPanelFrameStart late torn s = .next (if (s.framePrepared.frameEngined (late.filter (fun r => decide (r < s.pan.vact))).eraseDups.length).rd F.DSP_PWRSTAT_MODE = 1 then
      (s.framePrepared.frameEngined (late.filter (fun r => decide (r < s.pan.vact))).eraseDups.length).fullFrame late torn else
      s.framePrepared.frameEngined (late.filter (fun r => decide (r < s.pan.vact))).eraseDups.length) := by
    refine congrArg Host.Outcome.next ((if_neg ?_).trans rfl)
    rw [hbed, hnow]
    exact fun h => h.elim (absurd · (by decide)) fun h => h.elim (absurd · (by decide)) hlast
  refine ⟨_, heq, ?_⟩
  generalize (late.filter (fun r => decide (r < s.pan.vact))).eraseDups.length = n
  have hstart := s.framePrepared_start
  obtain ⟨hup, hen⟩ := State.engineView_congr s.framePrepared_engineView
  have hkept := s.framePrepared_kept
  have hseq : s.framePrepared.rd F.DSP_FSEQ_SEQ = s.rd F.DSP_FSEQ_SEQ := State.rd_congr (f := F.DSP_FSEQ_SEQ) hkept.seq
  have hagain : s.framePrepared.pan.again = s.pan.again := congrArg (fun x => x.2.2.2.2) hkept.view
  have hbuilt : s.framePrepared.pan.built = s.pan.built := congrArg (fun x => x.2.2.2.1) hkept.view
  have hback : s.framePrepared.backBuffer = s.backBuffer := by
    have hf : s.framePrepared.pan.front = s.pan.front := congrArg (fun x => x.2.2.1) hkept.view
    unfold State.backBuffer
    rw [hf]
  have hfull : State.FrameKept (s.framePrepared.frameEngined n) (if (s.framePrepared.frameEngined n).rd F.DSP_PWRSTAT_MODE = 1 then (s.framePrepared.frameEngined n).fullFrame late torn else
      s.framePrepared.frameEngined n) := .ite _ (fun _ => .fullFrame _ late torn) fun _ => .refl _
  generalize s.framePrepared = p at *
  have hengined : (p.frameEngined n).pan.startView = p.pan.startView := by
    unfold State.frameEngined
    split
    · exact (p.engineFrame_start n).1
    · rfl
  have hview : _ = (some s.now, s.polNext) := (Panel.startView_of hfull.view).trans (hengined.trans hstart)
  refine ⟨congrArg Prod.fst hview, congrArg Prod.snd hview, fun h4 he hag => ?_⟩
  have hf : p.frameEngined n = p.engineFrame n := if_pos ⟨hup.trans h4, hen.trans he⟩
  rw [hf] at hfull ⊢
  refine ⟨(congrArg Option.isSome hfull.comp).trans (p.engineFrame_start n).2, fun hb => ?_⟩
  obtain ⟨h1, h2, h3⟩ := p.engineFrame_shows n (hagain.trans hag) (hbuilt.trans hb)
  exact ⟨((congrArg (fun x => x.2.2.1) hfull.view).trans h1).trans (congrArg some hback), (congrArg (fun x => x.2.2.2.1) hfull.view).trans h2,
    (State.rd_congr (f := F.DSP_FSEQ_SEQ) hfull.seq).trans (h3.trans (by rw [hseq]))⟩

end Sys2Proof.Machine
end

section
/-! PROOF. O39, from the lemmas about each command of the panel. -/

namespace Sys2Proof.Machine

/-- Settles O39: each command's effect is read off its own lemma; the steps of R403 keep the sequence's fields and set the rails one by one. -/
theorem panelCommandsComplete : Obligations.PanelCommandsComplete := by
  unfold Obligations.PanelCommandsComplete
  exact ⟨execPanelFrameStart_starts, execFrameCompose_composes, execLaneTraining_trains, execLaneLockLoss_trains, execStripRefresh_refreshes, execDisplayFallback_fallsBack,
    execFallbackClear_clears, execPanelPowerOn_asks, execPanelPowerOff_asks, execPanelSequenceStep_ends, execUniformityMapRead_begins, execUniformityMapRead_ends, execMapload_waits⟩

end Sys2Proof.Machine
end

section
/-! SUPPORT. A tile taken in whose consumption is refused (R93, R456, R457): the consumer's position passes the entry after a waiting tile has gone
out, and the entry of that tile takes the head of ring 107 around its 16 bits back to the consumer's index. -/

namespace Sys2Proof.Machine

/-! ### Writes to Terrace that raise nothing -/

/-- `t` differs from `s` at most in Terrace's own state and the 64-bit counters. -/
def State.StoresTo (s t : State) : Prop := t = { s with ter := t.ter, wide := t.wide }

namespace State.StoresTo

variable {s t u : State}

theorem refl (s : State) : StoresTo s s := rfl

theorem trans (h : StoresTo s t) (h' : StoresTo t u) : StoresTo s u :=
  Eq.trans h' ((congrArg (fun x : State => { x with ter := u.ter, wide := u.wide }) h).trans rfl)

theorem withTer (s : State) (x : Terrace) : StoresTo s { s with ter := x } := rfl

theorem wideAdd (s : State) (key n : Nat) : StoresTo s (s.wideAdd key n) := rfl

theorem setExt (s : State) (k : Nat) (x : Ext) : StoresTo s (s.setExt k x) := withTer s _

theorem clearBlock (s : State) (n lba : Nat) : StoresTo s (s.clearBlock n lba) := by
  unfold State.clearBlock
  dsimp only
  split
  · exact setExt s _ _
  · split
    · exact (withTer s _).trans (setExt _ _ _)
    · exact withTer s _

/-- A clean block written. -/
theorem writeBlock (s : State) (n lba : Nat) (b : Bytes) (whole : Bool) : StoresTo s (s.writeBlock n lba b false whole) := by
  unfold State.writeBlock
  extract_lets k _ t x lost u _ v w _
  have hu : StoresTo s u := (withTer s _).trans (setExt t _ _)
  have hv : StoresTo u v := by
    unfold v
    split
    · split
      · exact withTer u _
      · exact refl u
    · exact refl u
  have hw : StoresTo v w := by
    unfold w
    split
    · exact wideAdd v _ _
    · exact refl v
  rw [if_neg Bool.false_ne_true]
  split
  · exact ((hu.trans hv).trans hw).trans (clearBlock w n lba)
  · exact (hu.trans hv).trans hw

theorem appendPieces (s : State) (n w : Nat) (b : Bytes) (first cnt : Nat) : StoresTo s (s.appendPieces n w b [] first cnt) :=
  foldl_keeps (I := fun x : State => StoresTo s x) _ _ (refl s) fun x _ _ hx => hx.trans (writeBlock x _ _ _ _)

end State.StoresTo

/-! ### The record of a tile -/

theorem terRecord_length (kind flags src len seq time prev : Nat) (payload : Bytes) :
    (terRecord kind flags src len seq time prev payload).length = 32 + (roundUp (32 + len) 64 - 32) := by
  unfold terRecord
  simp only [List.length_append, leBytes_length, length_fitBytes]

/-- Where a tile's record finds its extent, it is appended and nothing but Terrace's own state changes. -/
theorem State.appendTile_stores {s : State} {n : Nat} {b : Bytes} (hb : b.length = 266304) (hkind : (s.ns n).kind = 1) (hpos : (s.ns n).wpos = 0)
    (hsize : 1 ≤ (s.ns n).size) (hext : (s.ext (extKey n 0)).st = 1) (hro : s.tierReadOnly = false) :
    (s.appendBytes n b []).2 = 0 ∧ State.StoresTo s (s.appendBytes n b []).1 := by
  have hexts : extsOf 0 66 = [0] := by decide
  have hneed : s.needExts n (extsOf 0 66) = (s, 0) := by
    unfold State.needExts
    rw [hexts, List.foldl_cons, List.foldl_nil]
    simp [hext, hro]
  obtain ⟨x, -, hx, heq⟩ := State.appendBytes_appends (s := s) (b := b) [] hkind (by omega) (first := 0) (cnt := 66) (by rw [hpos]; decide) (by rw [hpos, hb]; decide)
    (by rw [hneed])
  rw [hneed] at hx
  have hs : State.StoresTo s x := hx ▸ State.StoresTo.appendPieces s _ _ _ _ _
  rw [heq]
  exact ⟨rfl, (hs.trans (.withTer x _)).trans (.wideAdd _ _ _)⟩

theorem State.badLines_clean {s : State} (h : s.mem.poison = []) (a len : Nat) : s.badLines a len = [] := by
  have hclean (x n : Nat) : s.mem.poisoned x n = false := by
    unfold Memory.poisoned
    rw [h]
    rfl
  unfold State.badLines
  simp only [hclean, List.filter_false, List.map_nil]

/-! ### The head that wraps -/

/-- Ring 107 of `s` holds 2^17 entries, more than its head can count, its head is at its last value and its consumer at index 0. -/
structure State.HeadAtEnd (s : State) : Prop where
  ready : s.cqReady 107 = true
  size : s.rd (F.RNG_QnCFG_LOG2N 107) = 17
  head : s.rd (F.RNG_QnSTAT_HEAD 107) = 65535
  ring : s.ring 107 = {}

/-- `t` has the rings and the registers of ring 107 as `s` has them. -/
structure State.SameRings (s t : State) : Prop where
  rings : t.rings = s.rings
  reg : ∀ k, k = Reg.RNG_QnCFG 107 ∨ k = Reg.RNG_QnSTAT 107 → t.reg k = s.reg k

namespace State.SameRings

variable {s t u : State}

theorem refl (s : State) : SameRings s s := ⟨rfl, fun _ _ => rfl⟩

theorem trans (h : SameRings s t) (h' : SameRings t u) : SameRings s u := ⟨h'.rings.trans h.rings, fun k hk => (h'.reg k hk).trans (h.reg k hk)⟩

theorem of_stores (h : s.StoresTo t) : SameRings s t := by
  rw [show t = _ from h]
  exact ⟨rfl, fun _ _ => rfl⟩

theorem above {k : Nat} (h : k = Reg.RNG_QnCFG 107 ∨ k = Reg.RNG_QnSTAT 107) : 0x3200 ≤ k ∧ k < 0x7000 := by rcases h with rfl | rfl <;> decide

theorem setReg (s : State) {j : Nat} (w : W32) (h : 0x7000 ≤ j) : SameRings s (s.setReg j w) :=
  ⟨rfl, fun k hk => s.reg_setReg_other w (by have := above hk; omega)⟩

theorem wr (s : State) {f : Fld} (v : Nat) (h : 0x7000 ≤ f.addr) : SameRings s (s.wr f v) := setReg s _ h

theorem setTiles (s : State) (l : List Tile) : SameRings s (s.setTiles l) :=
  SameRings.trans (t := { s with prod := { s.prod with tiles := l } }) ⟨rfl, fun _ _ => rfl⟩ (wr _ (f := F.PRA_YLDOPEN_OPEN) _ (by decide))

theorem put (s : State) (a : Nat) (b : Bytes) : SameRings s (s.put a b) := ⟨s.store_rings a b false, fun _ hk => s.put_reg a b (above hk).1⟩

theorem mirror (s : State) (a n : Nat) (p : Bool) : SameRings s (s.mirror a n p) :=
  foldl_keeps (I := fun x : State => SameRings s x) _ _ (refl s) fun x _ _ hx =>
    hx.trans ⟨State.storeOne_rings x _ _ p, fun k hk => (State.mirrorCount_reg _ _ _ _ (above hk).1).trans (x.storeOne_reg _ _ _ k)⟩

theorem headAtEnd (h : SameRings s t) (hs : s.HeadAtEnd) : t.HeadAtEnd := by
  have hcfg (f : Fld) (hf : f.addr = Reg.RNG_QnCFG 107) : t.rd f = s.rd f := State.rd_congr (h.reg _ (.inl hf))
  refine ⟨?_, (hcfg _ rfl).trans hs.size, (State.rd_congr (f := F.RNG_QnSTAT_HEAD 107) (h.reg _ (.inr rfl))).trans hs.head, ?_⟩
  · unfold State.cqReady
    rw [State.on_congr (hcfg (F.RNG_QnCFG_EN 107) rfl), State.on_congr (hcfg (F.RNG_QnCFG_KIND 107) rfl)]
    exact hs.ready
  · unfold State.ring
    rw [h.rings]
    exact hs.ring

end State.SameRings

end Sys2Proof.Machine
end

section
/-! SUPPORT. A tile taken in whose consumption is refused, continued: the entry of the waiting tile, and the doorbell after it. -/

namespace Sys2Proof.Machine

/-! ### The entry of the waiting tile (R93, R211) -/

/-- Ring 107 of `s` has nothing unconsumed, and its consumer is at index 0. -/
structure State.HeadAround (s : State) : Prop where
  kind : s.on (F.RNG_QnCFG_KIND 107) = true
  size : s.rd (F.RNG_QnCFG_LOG2N 107) = 17
  head : s.rd (F.RNG_QnSTAT_HEAD 107) = 0
  idx : (s.ring 107).idx = 0

theorem rngRegs_above : 0x6400 ≤ Reg.RNG_QnCFG 107 ∧ 0x6400 ≤ Reg.RNG_QnSTAT 107 := by decide

theorem State.fullBit_rd_above (s : State) (q : Nat) {f : Fld} (h : 0x6400 ≤ f.addr) : (s.fullBit q).rd f = s.rd f :=
  s.mapBit_rd_above q _ (lt_of_lt_of_le (by decide) h)

theorem State.ringPending_rd_above (s : State) (q : Nat) {f : Fld} (h : 0x6400 ≤ f.addr) : (s.ringPending q).rd f = s.rd f := by
  have hbit : (s.mapBit (Reg.RNG_IPn 0) q true).rd f = s.rd f := s.mapBit_rd_above q _ (lt_of_lt_of_le (by decide) h)
  unfold State.ringPending
  dsimp only
  split
  · exact hbit
  · exact hbit

theorem State.entryOut_sameRings (s : State) (q a : Nat) (b : Bytes) : State.SameRings s (s.entryOut q a b) :=
  ⟨s.entryOut_rings q a b, fun _ hk => s.entryOut_reg q a b (State.SameRings.above hk).1⟩

/-- The head of a ring of 2^17 entries goes from 65,535 to 0: RNG_QnSTAT.HEAD has 16 bits. -/
theorem State.advance_wraps {s : State} (hsize : s.rd (F.RNG_QnCFG_LOG2N 107) = 17) (hhead : s.rd (F.RNG_QnSTAT_HEAD 107) = 65535) :
    s.advance 107 = s.wr (F.RNG_QnSTAT_HEAD 107) 65536 := by
  have hh : s.ringHead 107 = 65535 := hhead
  have hs : s.ringSize 107 = 131072 := by
    unfold State.ringSize
    rw [hsize]
    rfl
  unfold State.advance
  dsimp only
  rw [hh, hs]
  rfl

/-- The entry of a tile, as ring 107 takes it. -/
def State.tileEntry (s : State) (a b : Nat) (r : Bytes) : State :=
  ((((s.entryOut 107 (s.ringAddr 107 (s.ringHead 107)) (entryBytes 0x86 0 0 ((if (s.ring 107).gap then 8 else 0)) a (s.rd (F.RNG_QnSTAT_PHASE 107)) 0x7F b s.now 0 r)).setRing 107
    { s.ring 107 with gap := false }).advance 107).fullBit 107).ringPending 107

theorem State.HeadAtEnd.slots {s : State} (h : s.HeadAtEnd) : 0 < s.slots 107 := by
  have hsize : s.ringSize 107 = 131072 := by
    unfold State.ringSize
    rw [h.size]
    rfl
  have hun : s.unconsumed 107 = 65535 := by
    unfold State.unconsumed
    rw [hsize, show s.ringHead 107 = 65535 from h.head, h.ring]
    rfl
  unfold State.slots
  rw [hun, hsize, h.ring]
  decide

theorem State.looseEntry_tile {s : State} (h : s.HeadAtEnd) (a : Nat) (r : Bytes) : (s.looseEntry 107 0x86 a 0 0 false r true).1 = s.tileEntry a 0 r := by
  have hready : s.cqReady 107 = true ∧ 0 < s.slots 107 := ⟨h.ready, h.slots⟩
  have hflags (b : Bool) : (if false = true then 1 else 0) + (if false = true then 2 else 0) + (if false = true then 4 else 0) + (if b = true then 8 else 0) = if b = true then 8 else 0 := by cases b <;> rfl
  unfold State.looseEntry
  rw [if_pos hready]
  unfold State.writeEntry State.tileEntry
  dsimp only
  rw [hflags]
  rfl

theorem State.tileEntry_around {s : State} (h : s.HeadAtEnd) (a b : Nat) (r : Bytes) : (s.tileEntry a b r).HeadAround := by
  unfold State.tileEntry
  have hout := s.entryOut_sameRings 107 (s.ringAddr 107 (s.ringHead 107)) (entryBytes 0x86 0 0 ((if (s.ring 107).gap then 8 else 0)) a (s.rd (F.RNG_QnSTAT_PHASE 107)) 0x7F b s.now 0 r)
  generalize s.entryOut 107 (s.ringAddr 107 (s.ringHead 107)) (entryBytes 0x86 0 0 ((if (s.ring 107).gap then 8 else 0)) a (s.rd (F.RNG_QnSTAT_PHASE 107)) 0x7F b s.now 0 r) = t at hout
  have ht := hout.headAtEnd h
  have hadv : (t.setRing 107 { s.ring 107 with gap := false }).advance 107 = (t.setRing 107 { s.ring 107 with gap := false }).wr (F.RNG_QnSTAT_HEAD 107) 65536 :=
    State.advance_wraps ((State.setRing_rd _ _ _ _).trans ht.size) ((State.setRing_rd _ _ _ _).trans ht.head)
  rw [hadv]
  have hidx : ((t.setRing 107 { s.ring 107 with gap := false }).ring 107).idx = 0 := by
    rw [State.ring_setRing_same, h.ring]
  have hcfg (f : Fld) (hf : f.addr = Reg.RNG_QnCFG 107) : (t.setRing 107 { s.ring 107 with gap := false }).rd f = t.rd f := State.setRing_rd _ _ _ _
  generalize t.setRing 107 { s.ring 107 with gap := false } = u at hidx hcfg
  have hpast {f : Fld} (hf : 0x6400 ≤ f.addr) : (((u.wr (F.RNG_QnSTAT_HEAD 107) 65536).fullBit 107).ringPending 107).rd f = (u.wr (F.RNG_QnSTAT_HEAD 107) 65536).rd f :=
    (State.ringPending_rd_above _ 107 hf).trans (State.fullBit_rd_above _ 107 hf)
  have hready := ht.ready
  unfold State.cqReady at hready
  rw [Bool.and_eq_true, Bool.and_eq_true] at hready
  obtain ⟨⟨-, hkind⟩, -⟩ := hready
  refine ⟨?_, ?_, ?_, ?_⟩
  · exact (State.on_congr ((hpast (f := F.RNG_QnCFG_KIND 107) rngRegs_above.1).trans ((u.rd_wr_other _ (by decide)).trans (hcfg _ rfl)))).trans hkind
  · exact ((hpast (f := F.RNG_QnCFG_LOG2N 107) rngRegs_above.1).trans ((u.rd_wr_other _ (by decide)).trans (hcfg _ rfl))).trans ht.size
  · exact (hpast (f := F.RNG_QnSTAT_HEAD 107) rngRegs_above.2).trans (u.rd_wr_same _ 65536 (by decide))
  · have hrings : ((((u.wr (F.RNG_QnSTAT_HEAD 107) 65536).fullBit 107).ringPending 107).ring 107) = u.ring 107 := by
      unfold State.ring
      rw [State.ringPending_rings]
      rfl
    rw [hrings]
    exact hidx

/-! ### The waiting tile goes out (R211) -/

theorem State.putZero_sameRings (s : State) (a n : Nat) : State.SameRings s (s.putZero a n) := by
  have hfirst : State.SameRings s { s.reencode a n with mem := (s.mem.zero a n).remark a n false } := by
    unfold State.reencode
    split <;> exact ⟨rfl, fun _ _ => rfl⟩
  exact hfirst.trans (State.SameRings.mirror _ _ _ _)

theorem State.writeTile_around {s : State} (h : s.HeadAtEnd) (x : Tile) (hx : x.cells = []) (extra : Nat) : (s.writeTile x extra).HeadAround := by
  unfold State.writeTile
  extract_lets w n a flags mass t u head v z
  have hu : State.SameRings s u := by
    unfold u
    rw [hx, List.foldl_nil]
    exact s.putZero_sameRings _ _
  have hv : State.SameRings u v := (State.SameRings.put u _ _).trans (.wr _ (f := F.PRA_YLDWPOS_POS) _ (by decide))
  have hz : State.SameRings v z := .setTiles v _
  have hend : z.HeadAtEnd := ((hu.trans hv).trans hz).headAtEnd h
  rw [State.looseEntry_tile hend]
  exact State.tileEntry_around hend _ _ _

/-- A consumer's position that makes room sends the one waiting tile out. -/
theorem State.yldrposSet_around {s : State} (h : s.HeadAtEnd) {x : Tile} (htiles : s.prod.tiles = [x]) (hx : x.cells = []) (hclosing : x.closing ≠ 0)
    (hw : s.rd F.PRA_YLDWPOS_POS = 1) (hr : s.rd F.PRA_YLDRPOS_POS = 0) : (s.yldrposSet 1#32).HeadAround := by
  have hroom (t : State) (htw : t.rd F.PRA_YLDWPOS_POS = 1) (htr : t.rd F.PRA_YLDRPOS_POS = 1) : t.tileRoom = true := by
    unfold State.tileRoom
    rw [htw, htr]
    exact decide_eq_true (Nat.two_pow_pos _)
  have hset : State.SameRings s (s.setReg Reg.PRA_YLDRPOS 1#32) := .setReg s _ (by decide)
  have hsw : (s.setReg Reg.PRA_YLDRPOS 1#32).rd F.PRA_YLDWPOS_POS = 1 := (State.rd_congr (f := F.PRA_YLDWPOS_POS) (s.reg_setReg_other _ (by decide))).trans hw
  have hsr : (s.setReg Reg.PRA_YLDRPOS 1#32).rd F.PRA_YLDRPOS_POS = 1 := by
    unfold State.rd
    rw [show F.PRA_YLDRPOS_POS.addr = Reg.PRA_YLDRPOS from rfl, State.reg_setReg_same]
    rfl
  have htset : (s.setReg Reg.PRA_YLDRPOS 1#32).prod.tiles = [x] := htiles
  unfold State.yldrposSet
  dsimp only
  rw [hw, hr, if_neg (by decide)]
  generalize s.setReg Reg.PRA_YLDRPOS 1#32 = t at *
  rw [if_pos (hroom t hsw hsr), show (t.wr F.PRA_YLDOPEN_FULL 0).prod.tiles = [x] from htset]
  have hfilter : [x].filter (fun x => decide (x.closing ≠ 0)) = [x] := by simp [hclosing]
  rw [hfilter, List.foldl_cons, List.foldl_nil]
  have hroom' : (t.wr F.PRA_YLDOPEN_FULL 0).tileRoom = true := hroom _ ((t.rd_wr_other _ (by decide)).trans hsw) ((t.rd_wr_other _ (by decide)).trans hsr)
  unfold State.closeTile
  rw [if_pos hroom']
  exact State.writeTile_around ((hset.trans (.wr t (f := F.PRA_YLDOPEN_FULL) 0 (by decide))).headAtEnd h) x hx _

/-! ### The doorbell and what follows (R93) -/

/-- With nothing unconsumed the consumer's next index is refused. -/
theorem State.consume_refused {s : State} (h : s.HeadAround) : ((s.consume 107).ring 107).idx = 0 := by
  have hsize : s.ringSize 107 = 131072 := by
    unfold State.ringSize
    rw [h.size]
    rfl
  have hun : s.unconsumed 107 = 0 := by
    unfold State.unconsumed
    rw [hsize, show s.ringHead 107 = 0 from h.head, h.idx]
  have hrefuse (cause : Nat) : ((s.doorbellRefuse 107 cause).ring 107).idx = 0 := by
    unfold State.doorbellRefuse
    rw [State.ringErr_ring, State.wr_ring]
    exact h.idx
  unfold State.consume State.doorbell
  rw [hsize, h.idx]
  split
  · exact hrefuse 7
  · split
    · exact hrefuse 6
    · dsimp only
      rw [if_pos h.kind, hun, h.idx, if_pos (by decide)]
      exact hrefuse 6

/-- `t` has the index of ring 107's consumer as `s` has it. -/
def State.IdxKept (s t : State) : Prop := (t.ring 107).idx = (s.ring 107).idx

theorem State.IdxKept.trans {s t u : State} (h : IdxKept s t) (h' : IdxKept t u) : IdxKept s u := Eq.trans h' h

theorem State.IdxKept.of_rings {s t : State} (h : t.rings = s.rings) : IdxKept s t := by
  unfold IdxKept State.ring
  rw [h]

theorem State.IdxKept.setRing (s : State) (q : Nat) (r : Ring) (h : r.idx = (s.ring q).idx) : IdxKept s (s.setRing q r) := by
  unfold IdxKept
  by_cases hq : 107 = q
  · rw [← hq, State.ring_setRing_same, h, hq]
  · rw [State.ring_setRing_other _ _ hq]

theorem State.notify_rings (s : State) (stat ie : Fld) : (s.notify stat ie).rings = s.rings := by
  unfold State.notify
  split <;> rfl

theorem State.IdxKept.advance (s : State) (q : Nat) : IdxKept s (s.advance q) := congrArg Ring.idx (s.advance_ring q 107)

theorem State.IdxKept.fullBit (s : State) (q : Nat) : IdxKept s (s.fullBit q) := congrArg Ring.idx (s.fullBit_ring q 107)

theorem State.IdxKept.looseEntry (s : State) (q op tag status estat : Nat) (poison : Bool) (result : Bytes) (ip : Bool) :
    IdxKept s (s.looseEntry q op tag status estat poison result ip).1 := by
  have hwrite : IdxKept s (s.writeEntry q op status estat false false poison tag 0x7F 0 0 result) := by
    unfold State.writeEntry
    extract_lets r flags t u
    have ht : t.rings = s.rings := s.entryOut_rings _ _ _
    have hidx : r.idx = (t.ring q).idx := by
      unfold r State.ring
      rw [ht]
    exact (((IdxKept.of_rings ht).trans (.setRing t q { r with gap := false } hidx)).trans (.advance _ q)).trans (.fullBit _ q)
  unfold State.looseEntry
  split
  · dsimp only
    split
    · exact hwrite.trans (.of_rings (State.ringPending_rings _ q))
    · exact hwrite
  · exact (IdxKept.of_rings (t := s.wideAdd Reg.RNG_OVFCNT_LO 1) rfl).trans (.setRing _ q { s.ring q with gap := true } rfl)

theorem State.IdxKept.foldl {α : Type*} (f : State → α → State) (h : ∀ x a, (f x a).rings = x.rings) (l : List α) (s : State) : (l.foldl f s).rings = s.rings :=
  foldl_keeps (I := fun x : State => x.rings = s.rings) l s rfl fun x a _ hx => (h x a).trans hx

theorem State.wr_rings (s : State) (f : Fld) (v : Nat) : (s.wr f v).rings = s.rings := rfl

theorem State.wrB_rings (s : State) (f : Fld) (b : Bool) : (s.wrB f b).rings = s.rings := rfl

theorem State.nsReg_rings (s : State) (n : Nat) : (s.nsReg n).rings = s.rings := by
  unfold State.nsReg
  simp only [State.wr_rings, State.wrB_rings]

theorem State.IdxKept.flag (s : State) (stat ie : Fld) : IdxKept s (s.flag stat ie) := of_rings (State.notify_rings _ _ _)

theorem State.IdxKept.terEvent (s : State) (tag drive ns detail : Nat) : IdxKept s (s.terEvent tag drive ns detail) :=
  (looseEntry s _ _ _ _ _ _ _ _).trans (.looseEntry _ _ _ _ _ _ _ _ _)

theorem State.IdxKept.terRegs (s : State) : IdxKept s s.terRegs := by
  unfold State.terRegs
  extract_lets t u v w x y low _ z
  have ht : t.rings = s.rings := by
    unfold t
    simp only [State.wr_rings]
  have hu : u.rings = t.rings := by
    unfold u
    simp only [State.wr_rings]
  have hv : v.rings = u.rings := by
    unfold v
    simp only [State.wr_rings]
  have hw : w.rings = v.rings := by
    unfold w
    simp only [State.wrB_rings]
  have hx : x.rings = w.rings := IdxKept.foldl _ State.nsReg_rings _ w
  have hy : y.rings = x.rings := IdxKept.foldl _ (fun _ _ => (State.wr_rings _ _ _).trans (State.wr_rings _ _ _)) _ x
  have hall : IdxKept s y := .of_rings (hy.trans (hx.trans (hw.trans (hv.trans (hu.trans ht)))))
  clear_value y
  have hz : IdxKept y z := .of_rings rfl
  clear_value z
  split
  · exact hall
  · split
    · exact ((hall.trans hz).trans (.flag z _ _)).trans (.terEvent _ _ _ _ _)
    · exact hall.trans hz

end Sys2Proof.Machine
end

section
/-! PROOF. O44 fails: a tile taken in whose consumption is refused (R93, R456, R457). -/

namespace Sys2Proof.Machine

/-- The bytes of the tile the oldest entry of ring 107 names. -/
def State.tileTaken (s : State) : Bytes := s.mem.readBytes (4096 * s.rd F.PRA_YLDBASE_BASE + leAt (s.entryAt 107) 4 2 * tileBytes) tileBytes

/-- A first tile of an empty index is appended as it is, and the consumer's position and index move on. -/
theorem execTileIntake_first {s t : State} {n : Nat} (hup : s.terUp = true) (hen : s.on F.TER_TILECTL_EN = true) (hready : s.cqReady 107 = true) (hun : s.unconsumed 107 ≠ 0)
    (hn : s.rd F.TER_TILECTL_NS = n) (hindex : s.ter.index = []) (hopen : s.nsOpen n none = true) (hkind : (s.ns n).kind = 1) (hpos : (s.ns n).wpos = 0)
    (hsize : 1 ≤ (s.ns n).size) (hext : (s.ext (extKey n 0)).st = 1) (hro : s.tierReadOnly = false) (hclean : s.mem.poison = [])
    (hexec : execTileIntake s = .next t) :
    ∃ u, s.StoresTo u ∧ t = ((u.yldrposSet (BitVec.ofNat 32 (leAt s.tileTaken 0 4 + 1))).consume 107).terRegs := by
  subst hn
  have hfull : decide (65536 ≤ 0) = false := rfl
  unfold execTileIntake at hexec
  rw [if_neg (by rw [hup, hen, hready]; simp [hun])] at hexec
  have ht := (Host.Outcome.next.inj hexec).symm
  simp only [hindex, hopen, if_true, List.find?_nil, Option.map_none, Option.isNone_none, Option.isSome_none, List.length_nil, Bool.false_eq_true, if_false,
    Bool.false_and, Bool.true_and, Bool.false_or, State.badLines_clean hclean, List.map_nil, hfull] at ht
  generalize hb : terRecord 2 _ 0 tileBytes _ _ 0 _ = b at ht
  have hlength : b.length = 266304 := by
    rw [← hb]
    exact terRecord_length _ _ _ _ _ _ _ _
  obtain ⟨hok, hstores⟩ := State.appendTile_stores hlength hkind hpos hsize hext hro
  rw [if_neg fun h => h hok] at ht
  exact ⟨_, hstores.trans (.withTer _ _), ht⟩

/-! ### The state that refutes -/

/-- A tile of 0 cells that waits for a free slot, to be closed as FLUSH. -/
def waitingTile : Tile := ⟨0, 0, 0, 0, 0, 0, [], 1⟩

/-- Terrace, about to stop, takes tiles into namespace 0, a STREAM whose first extent stands. Ring 107 is set to 2^17 entries and its head is at
65,535; one tile waits for the slot that the consumer's position is about to free. -/
def intakeStalls : State :=
  { State.reset with
    rootOn := true, bedOn := true, canopyOn := true,
    regs := [(Reg.RNG_QnCFG 107, 0xC1100000), (Reg.RNG_QnSTAT 107, 0xFFFF), (Reg.TER_TILECTL, 0x80000000), (Reg.PRA_YLDWPOS, 1)],
    prod := { tiles := [waitingTile] },
    ter := { nss := [(0, { present := true, kind := 1, size := 1 })], exts := [(extKey 0 0, { st := 1 })], spares := some 1, stopping := true } }

theorem intakeStalls_headAtEnd : intakeStalls.HeadAtEnd := ⟨by decide +kernel, by decide +kernel, by decide +kernel, by decide +kernel⟩

/-- The tile of an empty memory has sequence number 0. -/
theorem intakeStalls_tile : leAt intakeStalls.tileTaken 0 4 = 0 := by
  have hread : intakeStalls.tileTaken.take 4 = intakeStalls.mem.readBytes (4096 * intakeStalls.rd F.PRA_YLDBASE_BASE + leAt (intakeStalls.entryAt 107) 4 2 * tileBytes) 4 := by
    unfold State.tileTaken
    generalize intakeStalls.mem = m
    generalize 4096 * intakeStalls.rd F.PRA_YLDBASE_BASE + leAt (intakeStalls.entryAt 107) 4 2 * tileBytes = a
    rfl
  unfold leAt
  rw [List.drop_zero, hread]
  decide +kernel

/-- The consumer's index stays at 0. -/
theorem intakeStalls_stays {t : State} (hexec : execTileIntake intakeStalls = .next t) : (t.ring 107).idx = 0 := by
  obtain ⟨u, hu, ht⟩ := execTileIntake_first (n := 0) (by decide +kernel) (by decide +kernel) (by decide +kernel) (by decide +kernel) (by decide +kernel) rfl (by decide +kernel)
    (by decide +kernel) (by decide +kernel) (by decide +kernel) (by decide +kernel) (by decide +kernel) rfl hexec
  rw [intakeStalls_tile] at ht
  have hend : u.HeadAtEnd := (State.SameRings.of_stores hu).headAtEnd intakeStalls_headAtEnd
  have hrd (f : Fld) : u.rd f = intakeStalls.rd f := by
    rw [show u = _ from hu]
    rfl
  have htiles : u.prod.tiles = [waitingTile] := by
    rw [show u = _ from hu]
    rfl
  have haround : (u.yldrposSet 1#32).HeadAround := State.yldrposSet_around hend htiles rfl (by decide) ((hrd _).trans (by decide +kernel)) ((hrd _).trans (by decide +kernel))
  rw [ht]
  exact Eq.trans (State.IdxKept.terRegs _) (State.consume_refused haround)

/-- Refutes O44: its clause on TILE_INTAKE asks that the consumer's index of ring 107 pass the entry, for every state. With ring 107 at a size of
2^17, which no write can set (R88) and the clause does not exclude, the entry of the tile that the new PRA_YLDRPOS lets out takes the 16 bits of
HEAD from 65,535 to 0: nothing is unconsumed, and the consumer's doorbell is refused (R93). -/
theorem not_terraceMovesAndDrivesComplete : ¬ Obligations.TerraceMovesAndDrivesComplete := by
  intro h
  obtain ⟨-, -, -, -, -, -, -, hintake, -⟩ := h
  obtain ⟨t, ht, hidx, -⟩ := hintake intakeStalls 0 (by decide +kernel) (by decide +kernel) (by decide +kernel) (by decide +kernel) (by decide +kernel) (by decide +kernel) rfl
    (by decide +kernel) (by decide +kernel) (by decide +kernel) (by decide +kernel) (by decide +kernel) (by decide +kernel)
  rw [intakeStalls_stays ht] at hidx
  exact absurd hidx (by decide +kernel)

end Sys2Proof.Machine
end
